-- ==== Sys2Proof/Word.lean ====
section
/-! DEFINITION. The word types of the MB4800: bytes, counters and register words (R8, R11). -/

namespace Sys2Proof

/-- A byte of a frame, an object or memory. -/
abbrev Byte := BitVec 8

/-- An 8-bit register or counter. -/
abbrev U8 := BitVec 8

/-- A 16-bit register or counter. -/
abbrev U16 := BitVec 16

/-- A 32-bit register or counter (UNSIGNED32, R8). -/
abbrev U32 := BitVec 32

end Sys2Proof
end

