-- ==== Sys2Proof/Kinds.lean ====
section
/-! DEFINITION. The kinds of thing that both the commands and the state speak of: sessions, roles, the states of rails,
branches and rectifiers, and the frames of the share link and of the Benut ports.
In every field's docstring `[..]` is the width the spec gives, `{Rn}` the rule that names it and `(..)` its reset value:
`(spec v)` where the rule or its table gives it, `(Dn)` where the spec gives none and log entry n names it. -/

namespace Sys2Proof

/-- The three dictionary sessions (R338). -/
inductive Session | canA | canB | spi
  deriving DecidableEq, Repr

/-- The way a request reaches the device that both a register and an object take: the register, or the object by a session. -/
inductive Via | reg | dict (w : Session)
  deriving DecidableEq, Repr

/-- Who writes a cursor of the recorder (R447): the host by its register, a session by its object, the twin peer for a half. -/
inductive CursorBy | reg | dict (w : Session) | peer (half : Bool)
  deriving DecidableEq, Repr

/-- The memories that the scrubber walks (R433). -/
inductive MemKind | main | queue | mram
  deriving DecidableEq, Repr

/-- The roles, in rank order (R336). -/
inductive Role | observer | operator | engineer | vendor
  deriving DecidableEq, Repr

/-- Lock states of the timebase (R89). -/
inductive LockState | freerun | acquire | locked | holdover | timebaseFail
  deriving DecidableEq, Repr

/-- The working mode of a general timer (R99). -/
inductive TimerMode | oneShot | periodic | alarm | capture
  deriving DecidableEq, Repr

/-- What a general timer's expiry does (R99). -/
inductive TimerAction | none | doorbell (bit : Fin 32) | recorder | pulse (width : Nat)
  deriving DecidableEq, Repr

/-- A general timer's setting, as its owner programs it. -/
structure TimerSetting where
  /-- mode [2 bit] {R99} (D1) -/
  mode : TimerMode := .oneShot
  /-- interval in timebase cycles, or the alarm value in ns [64 bit] {R99} (D1) -/
  value : Nat := 0
  /-- action at expiry [enum] {R99} (D1) -/
  action : TimerAction := .none
  /-- owner code, 0x2110 [8 bit] {R104} (spec 0xFF) -/
  owner : Nat := 0xFF
  /-- edges that a capture selects: rising, falling [2 bit] {R99} (D1) -/
  edges : Bool × Bool := (true, false)
  deriving DecidableEq, Repr

/-- The GPIO that owns a timer, for output or capture (R99, R352: owners 0x90 to 0xA7). -/
def TimerSetting.pin (x : TimerSetting) : Option (Fin 24) :=
  if h : 0x90 ≤ x.owner ∧ x.owner < 0xA8 then some ⟨x.owner - 0x90, by omega⟩ else none

/-- A setting that R99 and R352 admit: the interval of its mode, an owner that can own a timer, and an action of that owner. -/
def TimerSetting.fits (x : TimerSetting) : Bool :=
  (match x.mode with
    | .oneShot => 1 ≤ x.value ∧ x.value < 2 ^ 32
    | .periodic => 2 ≤ x.value ∧ x.value < 2 ^ 32
    | .alarm => x.value < 2 ^ 64
    | .capture => x.pin.isSome ∧ x.action = .none) &&
  (match x.action with
    | .none => x.pin.isSome ∨ x.owner = 0x30 ∨ (0x10 ≤ x.owner ∧ x.owner < 0x18)
    | .doorbell b => 18 ≤ b.val ∧ 0x10 ≤ x.owner ∧ x.owner < 0x18
    | .recorder => x.owner = 0x30
    | .pulse w => x.pin.isSome ∧ 1 ≤ w ∧ w < 65536)

/-- Level or drive of a PWM pin (R56, R58, R165). -/
inductive PwmPin | highZ | low | high
  deriving DecidableEq, Repr

/-- Drive of one of the 24 gate pins (R56, R79, R223, R243). `resetSink` is the 2 mA sink of R56. -/
inductive GateDrive | highZ | resetSink | normalSink | fastSink | low | held | regulate | source
  deriving DecidableEq, Repr

/-- A signal word: 24-bit mantissa and 6-bit exponent, value m × 2^(e − 23) (R140). -/
structure SigWord where
  /-- mantissa, −2²³ .. 2²³ − 1 [24 bit] {R140} (spec 0) -/
  m : Int := 0
  /-- exponent, −32 .. 31 [6 bit] {R140} (spec R154: −32) -/
  e : Int := -32
  deriving DecidableEq, Repr

/-- The 16-byte mirror record of a lane (R155). -/
structure LaneRecord where
  /-- words A to C of the marked stages [30 bit each] {R155} (spec 0) -/
  words : List SigWord := []
  /-- output limiter y_prev [30 bit] {R155} (spec 0) -/
  yPrev : SigWord := { m := 0, e := 0 }
  /-- LIMITED [1 bit] {R155} (spec 0) -/
  limited : Bool := false
  /-- FAULT [1 bit] {R155} (spec 0) -/
  fault : Bool := false
  deriving DecidableEq, Repr

/-- Rectifier states, 0x2E30 (R214). -/
inductive RecState | disabled | absent | joining | commanded | fallback | fault | excluded | notTracking
  deriving DecidableEq, Repr

/-- One downlink frame (R208), its payload before line coding. -/
structure Downlink where
  /-- FCTL [8 bit] {R208} (D1) -/
  fctl : Nat := 0
  /-- SEQ [16 bit] {R208} (D1) -/
  seq : Nat := 0
  /-- GCMD [8 bit] {R208} (D1) -/
  gcmd : Nat := 0
  /-- VBUS in mV [16 bit] {R208} (D1) -/
  vbus : Nat := 0
  /-- demand codes of REC00..REC31 [16 bit each] {R208} (D1) -/
  demands : Vector Nat 32 := Vector.replicate 32 0xFFFF
  /-- SC0..SC3: slow message [32 bit] {R208} (D1) -/
  sc : List Nat := [0, 0, 0, 0]
  deriving DecidableEq, Repr

/-- Branch channel states, 0x2620 (R223). -/
inductive BrState
  | off | waitPresent | inrush | on | limit | stopping | retryWait | tripped | fetShort | gateUv | quenched | held
  deriving DecidableEq, Repr

/-- String channel states, 0x2640 (R244). -/
inductive StrState | off | on | latched | gateUv | quenched
  deriving DecidableEq, Repr

/-- Rail states, 0x2A40 (R273). -/
inductive RailSt
  | off | waitDeps | startDelay | starting | pgDelay | good | outOfWindow | stopping | minOff | retryWait
  | latched | heldOff | privFailed
  deriving DecidableEq, Repr

/-- Sequencer states, 0x2A00:03 (R293). -/
inductive SeqSt | off | poweringUp | up | poweringDown | latched
  deriving DecidableEq, Repr

/-- Why a rail is being stopped, which decides where it goes after MIN_OFF (R279 to R289). -/
inductive StopWhy | command | retry | latch | group | inputLoss | shutdown
  deriving DecidableEq, Repr

/-- Engine states, 0x3810+e:01 (R333). -/
inductive EngSt | running | migratingOut | reloading | selfTest | migratingBack | restarting | hosting | idle | retired
  deriving DecidableEq, Repr

/-- One message slot of queue SRAM with its acknowledge register (R317, R318, R331). -/
structure MsgSlot where
  /-- SENDER [8 bit] {R318} (spec 0) -/
  sender : Nat := 0
  /-- SEPOCH [8 bit] {R318} (spec 0) -/
  sepoch : Nat := 0
  /-- REPOCH [8 bit] {R318} (spec 0) -/
  repoch : Nat := 0
  /-- SEQ [16 bit] {R318} (spec 0) -/
  seq : Nat := 0
  /-- payload; LENGTH is its length [≤ 56 bytes] {R318} (spec 0) -/
  payload : List Byte := []
  /-- CODE of the acknowledge register [8 bit] {R331} (spec 0) -/
  code : Nat := 0
  /-- STATE: 0 free, 1 posted, 2 acknowledged [2 bit] {R331} (spec 0) -/
  state : Nat := 0
  deriving DecidableEq, Repr

/-- Scope of a reset (R410). -/
inductive Scope | warm | cold
  deriving DecidableEq, Repr

/-- Twin states, 0x3000:01 (R378). -/
inductive TwinSt | solo | unpaired | pairing | activePaired | activeAlone | standbySync | standbyUnsync | refused
  deriving DecidableEq, Repr

/-- Cascade states, 0x3010:04 (R406). -/
inductive CascSt | off | member | master | frozen | promoted | duplicate
  deriving DecidableEq, Repr

/-- The mirror frame's content (R386). -/
structure MirrorFrame where
  /-- SEQ of frame n [16 bit] {R386} (D1) -/
  seq : Nat := 0
  /-- time of day of the snapshot [64 bit] {R386} (D1) -/
  tod : Nat := 0
  /-- shelf status [15:0] {R386} (D1) -/
  shelf : Nat := 0
  /-- lane records LN00..LN11 {R386} (D1) -/
  lanes : Vector LaneRecord 12 := Vector.replicate 12 {}
  /-- F, C, U, y8 [REAL32 each] {R386} (D1) -/
  fcuy : Rat × Rat × Rat × Rat := (0, 0, 0, 0)
  /-- hold-up stage reached [8 bit] {R386} (D1) -/
  stage : Nat := 0xFF
  /-- state and toggle of each rectifier {R386} (D1) -/
  recs : Vector (RecState × Bool) 32 := Vector.replicate 32 (.disabled, false)
  /-- ramped setpoints of LP0..LP7 [REAL32 each] {R386} (D1) -/
  vSet : Vector Rat 8 := Vector.replicate 8 0
  deriving DecidableEq, Repr

/-- The state frame's content (R387). -/
structure StateFrame where
  /-- SEQ [16 bit] {R387} (D1) -/
  seq : Nat := 0
  /-- sequencer state {R387} (D1) -/
  seqSt : SeqSt := .off
  /-- groups shut down [8 bit] {R387} (D1) -/
  groups : BitVec 8 := 0
  /-- rails: state, PG, INPUT_LOSS_OFF, GROUP_OFF, WITHHELD, retries used {R387} (D1) -/
  rails : Vector (RailSt × Bool × Bool × Bool × Bool × Nat) 32 := Vector.replicate 32 (.off, false, false, false, false, 0)
  /-- start order {R387} (D1) -/
  order : List (Fin 32) := []
  /-- branches: channel state and retries used {R387} (D1) -/
  br : Vector (BrState × Nat) 16 := Vector.replicate 16 (.off, 0)
  /-- selected feeds of pairs 0 and 1 {R387} (D1) -/
  feeds : Vector (Option Bool) 2 := Vector.replicate 2 none
  /-- string channel states {R387} (D1) -/
  strs : Vector StrState 4 := Vector.replicate 4 .off
  /-- PG pin levels [8 bit] {R387} (D1) -/
  pg : BitVec 8 := 0
  /-- quench latches [18 bit] {R387} (D1) -/
  quench : BitVec 18 := 0
  /-- trim and ceiling of LP0..LP7 {R387} (D1) -/
  loops : Vector (Rat × Option SigWord × BitVec 32 × BitVec 32) 8 := Vector.replicate 8 (0, none, 0, 0)
  /-- throttle factors [REAL32 each] {R387} (D1) -/
  f : Vector Rat 8 := Vector.replicate 8 1
  /-- branches off by capping, and CAP_OVERRIDE {R387} (D1) -/
  capShed : List (Fin 16) := []
  /-- CAP_OVERRIDE {R387} (D1) -/
  capOverride : Bool := false
  deriving DecidableEq, Repr

/-- The content of a pairing frame (R379), with the tolerance that R380 checks. -/
structure PeerInfo where
  /-- serial number [32 bit] {R379} (D1) -/
  serial : Nat := 0
  /-- revision number of 0x1018:03 [32 bit] {R379} (D1) -/
  rev : Nat := 0
  /-- latched straps of SYS_STRAP [32 bit] {R379} (D1) -/
  straps : Nat := 0
  /-- configuration hash [32 bit] {R379} (D1) -/
  hash : Nat := 0
  /-- its store holds a valid copy [1 bit] {R379} (D1) -/
  stored : Bool := false
  /-- its twin state {R379} (D1) -/
  twin : TwinSt := .unpaired
  /-- its minor-version tolerance [1 bit] {R380} (D1) -/
  tolerance : Bool := false
  deriving DecidableEq, Repr

/-- A frame on a Benut port, by type (R384); the configuration frames are those from `changeSet` to `store`. -/
inductive BenutFrame
  | mirror (f : MirrorFrame) | state (f : StateFrame) | heartbeat (seq twin hash : Nat)
  | delayReq (t : Nat) | delayResp (t1 t2 t3 : Nat) | message (queue : Nat) (slot : MsgSlot)
  | messageAck (queue slot seq code : Nat)
  | pairing (p : PeerInfo)
  | changeSet (set : List (Nat × Nat)) (order : List Nat) | write (key raw : Nat)
  | answer (ok : Bool) | rollback
  | adopt (pushed : Bool) (vals portA portB : List (Nat × Nat)) | resetStandby | store (scope : Nat) | refusal (reason : Nat)
  | cascTime (tod : Nat)
  | report (pos : Nat) (pReq pMax w soc : Rat) (flags : Nat)
  | allocation (a : Vector Rat 8) (number : Nat)
  | announcement (pos : Nat) (promotion : Bool)
  deriving DecidableEq, Repr

/-- Who asked for a Store: a dictionary session, the host through NVC_CMD, or the active chip of the pair (R354, R391, R450). -/
inductive StoreBy | session (w : Session) | nvc | peer
  deriving DecidableEq, Repr

/-- Lifecycle states (R469). -/
inductive Life | blank | provisioned | field | ret | scrapped
  deriving DecidableEq, Repr

/-- A step of a segmented SDO or USDO transfer on a CAN port (R356): its initiation, the next `n` bytes of a read, or data of a write. -/
inductive SdoStep
  | beginRead (idx sub : Nat) | beginWrite (idx sub : Nat) | read (n : Nat) | write (d : List Byte) (last : Bool)
  deriving DecidableEq, Repr

/-- What a PMBus device answers to a read: a word with a right or wrong PEC, or a refusal of the command (R372, R374). -/
inductive PmWord | word (v : Nat) (pec : Bool) | refused
  deriving DecidableEq, Repr

/-- How a poll of a PMBus device goes: SDA stuck low, no acknowledgement, the words of STATUS_WORD, VIN, VOUT, IOUT, temperature, PIN and
POUT, or a transaction in which the device now stretches the clock (R82, R372, R374). -/
inductive PmPoll | stuck | noAck | words (w : Vector PmWord 7) | stretched
  deriving DecidableEq, Repr

/-- The voltages at the balls of a loop's sense inputs, its sense pair's and VLCL's; the loop's selection says which its comparator sees (R171, R172). -/
structure SenseInputs where
  loop : Fin 8
  pair : Rat
  vlcl : Rat
  deriving DecidableEq, Repr

end Sys2Proof
end

