-- ==== Sys2Proof/Syntax.lean ====
section
/-! DEFINITION. The commands of the MB4800: one constructor per row of the command table, in the table's order,
each with the operands that its rule needs and that the state does not hold. -/

namespace Sys2Proof

/-- A command: a row of the spec's command table with its operands. -/
inductive Instr
  /-- ISLAND_EVENT (R25): An island-to-fabric event crosses a bridge into that bridge's four-entry buffer. Operands: `bridge` the bridge, `event` the event. -/
  | islandEvent (bridge : Fin 9) (event : Nat)
  /-- VCORE_INTERVAL (R28): At each 100 µs interval the adaptive loop evaluates minimum slack and lowers, holds or raises VCORE. -/
  | vcoreInterval
  /-- VCORE_CEILING (R30): With VCORE at 0.85 V, ten consecutive intervals below the slack target raise 0x0B01. -/
  | vcoreCeiling
  /-- SLACK_COLLAPSE (R30): With VCORE at 0.85 V, three consecutive periods of one unit below slack 0.05 raise 0x0B02, a twin give-up trigger. Operands: `u` the unit. -/
  | slackCollapse (u : Fin 20)
  /-- TASK_ACTIVATION (R308): A timebase trigger activates an engine task, whose slack is then measured. Operands: `e` the task set, `task` its task, `tasks` the tasks of the set in the signed image, times of trigger, completion and deadline in ns. -/
  | taskActivation (e : Fin 8) (task : Fin 8) (tasks : BitVec 8) (trigger done deadline : Nat)
  /-- SHELF_FRAME_BOUNDARY (R38): At each 25 µs frame boundary the downlink starts, LN08 and LN09 are triggered, and boundary-timed changes apply. -/
  | shelfFrameBoundary
  /-- FF_LATCH (R195): At t = 20 µs the feed-forward sum is latched for the next demand assembly. -/
  | ffLatch
  /-- STATE_SNAPSHOT (R40): At t = 21.0 µs the lane, shelf-loop and listed recorder values are latched into the snapshot buffer. -/
  | stateSnapshot
  /-- MIRROR_LAUNCH (R385): At t = 21.2 µs the active chip launches the mirror and state frames, and the standby launches its heartbeat. Operands: `ok` the active chip's launch happens. -/
  | mirrorLaunch (ok : Bool)
  /-- UPLINK_HANDOFF (R38): At t = 23.2 µs the uplink telemetry of the frame is handed to E1 for capacity and weight computation. -/
  | uplinkHandoff
  /-- DOWNLINK_FREEZE (R38): At t = 24.0 µs the downlink buffer for the next frame is frozen. -/
  | downlinkFreeze
  /-- XO_FAIL (R85): The TCXO is found absent or off frequency, TIMEBASE_FAIL is entered, and PWM and share-link drivers are released. -/
  | xoFail
  /-- PLL_UNLOCK (R85): The PLL reports a phase slip and the timebase enters TIMEBASE_FAIL. -/
  | pllUnlock
  /-- TIMEBASE_RECOVERY (R85): The TCXO returns and the PLL relocks, and the timebase enters HOLDOVER or FREERUN. -/
  | timebaseRecovery
  /-- PPS_EDGE (R87): A PPS_IN edge is timestamped, qualified or discarded, and used for steering. Operands: `at_` the edge's timestamp in ns. -/
  | ppsEdge (at_ : Rat)
  /-- PPS_QUALIFIED (R87): Ten consecutive qualified edges qualify PPS_IN again. -/
  | ppsQualified
  /-- REF_LOST_PPS (R87): Three seconds without a qualified edge declare PPS_IN lost and change the lock state. -/
  | refLostPps
  /-- REF10M_INTERVAL (R88): REF10M_IN is measured against the timebase over a 1 ms interval. Operands: `err` fractional frequency error of the interval. -/
  | ref10mInterval (err : Rat)
  /-- REF_LOST_10M (R88): REF10M_IN is declared lost and the lock state changes. Operands: `noEdge` no edge was seen. -/
  | refLost10m (noEdge : Bool)
  /-- REF10M_QUALIFIED (R88): Ten seconds of good intervals qualify REF10M_IN again. -/
  | ref10mQualified
  /-- REF_CONFLICT (R88): PPS and 10 MHz disagree by more than 200 ppb over 16 s, and 10 MHz is disqualified. Operands: `diff` the 16 s average of the frequency difference. -/
  | refConflict (diff : Rat)
  /-- REF_CONFLICT_CLEAR (R88): Disagreement below 50 ppb for 600 s ends the conflict. -/
  | refConflictClear
  /-- MODEL_LEARN_SAMPLE (R93): Every 10 s while LOCKED one steering and temperature pair updates the crystal model. Operands: `rate` the rate of temperature change in °C/h. -/
  | modelLearnSample (rate : Rat)
  /-- MODEL_STORE (R93): The crystal model is stored in MRAM hourly while LOCKED. -/
  | modelStore
  /-- HOLDOVER_STEER (R94): Each second of holdover the model steers the timebase and the time-error bound accumulates. Operands: `slowAmbient` the ambient changes slowly. -/
  | holdoverSteer (slowAmbient : Bool)
  /-- SET_TIME_AT_PPS (R97): The Engineer writes the time of day for the next PPS edge to 0x2102:02. Operands: `w` the session, `d` the data. -/
  | setTimeAtPps (w : Session) (d : List Byte)
  /-- MODEL_RESET (R104): Writing the reset key to 0x2103:0A clears the crystal model in RAM and MRAM. Operands: `w` the session, `d` the data. -/
  | modelReset (w : Session) (d : List Byte)
  /-- TIMER_EXPIRY (R99): A general timer expires and rings a doorbell, triggers the recorder or drives a GPIO pulse. Operands: `t` the timer, `x` the setting that its owner writes in the same cycle, if any (R100). -/
  | timerExpiry (t : Fin 16) (x : Option TimerSetting)
  /-- TIMER_CAPTURE (R99): A selected GPIO edge is latched with its time of day into a capture buffer. Operands: `t` the timer, `rising` the edge. -/
  | timerCapture (t : Fin 16) (rising : Bool)
  /-- PRECISION_OUTPUT (R109): A precision channel delivers an output at 200 kS/s, 10 kS/s or 1 kS/s to its consumers. Operands: `k` the channel, `rate` 0 for 200, 1 for 10, 2 for 1 kS/s, `code` the decimated code. -/
  | precisionOutput (k : Fin 48) (rate : Fin 3) (code : Int)
  /-- OVERRANGE_CLEAR (R107): OVERRANGE clears after 14 ms without clipping. Operands: `k` the channel. -/
  | overrangeClear (k : Fin 48)
  /-- SETTLING_END (R113): SETTLING ends 14 ms after a range change. Operands: `k` the channel. -/
  | settlingEnd (k : Fin 48)
  /-- PAIR_DISAGREE (R114): Ten consecutive failed pair checks raise 0x0208 and set DISAGREE. Operands: `p` the pair. -/
  | pairDisagree (p : Fin 2)
  /-- ROTATION_SLOT_START (R115): A spare's rotation slot starts and the spare begins calibration for its channel. Operands: `x` the spare. -/
  | rotationSlotStart (x : Fin 4)
  /-- MODULATOR_CALIBRATION_DONE (R117): A modulator's three-phase calibration completes and its corrections are checked. Operands: `m` the modulator, means of the zero, positive and negative phases as fractions of FS. -/
  | modulatorCalibrationDone (m : Fin 52) (x0 xp xn : Rat)
  /-- SWAP_COMPARISON (R118): Ten overlapped outputs of spare and home modulator are compared. Operands: `x` the spare, `mean` the mean difference as a fraction of FS. -/
  | swapComparison (x : Fin 4) (mean : Rat)
  /-- SWAP_HANDOVER (R116): At the 1 ms boundary the channel switches to the other modulator. Operands: `x` the spare. -/
  | swapHandover (x : Fin 4)
  /-- CAL_STALE (R119): A channel uncalibrated for 60 s raises 0x0205. Operands: `k` the channel. -/
  | calStale (k : Fin 48)
  /-- MEASUREMENT_READY (R120): 45 ms after timebase release the outputs leave NOT_READY. -/
  | measurementReady
  /-- REFERENCE_CHECK (R127): In an odd frame VREFC is compared with the independent bandgap. Operands: `diff` relative difference of VREFC and the bandgap. -/
  | referenceCheck (diff : Rat)
  /-- REF_FAIL (R127): Three consecutive failed reference checks raise 0x0207 and clear READY everywhere. -/
  | refFail
  /-- WINDOW_SAMPLE (R122): A loop's window converter takes its 100 ns sample and advances the setpoint ramp. Operands: `l` the loop, `code` and `vlcl` the codes that its sense pair and VLCL stand at. -/
  | windowSample (l : Fin 8) (code vlcl : Int)
  /-- IMON_CONVERSION (R123): An IMON SAR converts a phase current, free-running or at a loop request. Operands: `i` the phase, `v` its voltage. -/
  | imonConversion (i : Fin 32) (v : Rat)
  /-- COULOMB_OUTPUT (R124): A coulomb converter delivers a mean string current at 10 kS/s or 1 kS/s. Operands: `n` the string, `slow` the 1 kS/s output, `v` the mean shunt voltage. -/
  | coulombOutput (n : Fin 4) (slow : Bool) (v : Rat)
  /-- HOUSEKEEPING_CONVERSION (R125): The housekeeping SAR converts the input of its schedule slot. Operands: `slot` the slot, `v` the voltage. -/
  | housekeepingConversion (slot : Fin 25) (v : Rat)
  /-- WRITE_CALIBRATION_SET (R130): Writing "wcal" to 0x3600:03 starts writing the working calibration copy to MRAM. Operands: `w` the session, `d` the data. -/
  | writeCalibrationSet (w : Session) (d : List Byte)
  /-- CAL_SET_WRITTEN (R130): The calibration write completes, is read back, the old half is wiped, and 0x020A is recorded. -/
  | calSetWritten
  /-- CAL_SET_EXPORT (R132): A read of 0x3600:01 returns the 1088-byte calibration image. Operands: `w` the session. -/
  | calSetExport (w : Session)
  /-- CAL_SET_IMPORT (R132): A write of 0x3600:01 checks and imports a calibration image and writes it to MRAM. Operands: `w` the session, `d` the data. -/
  | calSetImport (w : Session) (d : List Byte)
  /-- CAPTURE_A (R133): The capture command 1 starts averaging point A. Operands: `w` the session. -/
  | captureA (w : Session)
  /-- CAPTURE_B (R133): The capture command 2 starts averaging point B. Operands: `w` the session. -/
  | captureB (w : Session)
  /-- CAPTURE_COMPUTE (R133): The capture command 3 computes ext_gain and ext_off into the shadow. Operands: `w` the session. -/
  | captureCompute (w : Session)
  /-- CAPTURE_ABORT (R135): The capture command 0 aborts the capture. Operands: `w` the session. -/
  | captureAbort (w : Session)
  /-- CAPTURE_DONE (R133): A capture ends after its capture time with the averaged ball voltage held. -/
  | captureDone
  /-- LANE_TRIGGER (R147): A lane's trigger starts a sample: swap, alignment and input formation. Operands: `n` the lane. -/
  | laneTrigger (n : Fin 12)
  /-- LANE_SAMPLE_DONE (R147): A lane sample completes in time, delivers its output and commits its states. Operands: `n` the lane. -/
  | laneSampleDone (n : Fin 12)
  /-- LANE_MISS (R149): A sample reaches its deadline uncompleted; output held, results discarded, miss counted. Operands: `n` the lane. -/
  | laneMiss (n : Fin 12)
  /-- LANE_FAULT (R150): Three consecutive misses raise 0x0302 to the consumer's fault reaction. Operands: `n` the lane. -/
  | laneFault (n : Fin 12)
  /-- LOOP_PERIOD_BOUNDARY (R161): A loop's period boundary: balance, current ceiling and phase add are updated. Operands: `l` the loop, `i` the phase currents. -/
  | loopPeriodBoundary (l : Fin 8) (i : Vector Rat 32)
  /-- PHASE_SLOT_EDGE (R165): A phase's slot edge starts, omits, tapers or stops its pulse. Operands: `i` the phase, `pair` and `vlcl` the voltages at the balls of its loop's sense inputs. -/
  | phaseSlotEdge (i : Fin 32) (pair vlcl : Rat)
  /-- SETPOINT_WRITE (R167): A loop setpoint write redirects the ramp without a commit. Operands: `w` the session, `l` the loop, `d` the data. -/
  | setpointWrite (w : Session) (l : Fin 8) (d : List Byte)
  /-- SENSE_LOST (R171): Three VLCL samples inside the window declare sense loss. Operands: `l` the loop. -/
  | senseLost (l : Fin 8)
  /-- OVERSHOOT (R172): The overshoot comparator trips, ends every pulse and suppresses the loop. Operands: `x` the loop and the voltages at its sense inputs. -/
  | overshoot (x : SenseInputs)
  /-- OVERVOLTAGE (R173): Suppression lasting the overvoltage time raises a rail fault. Operands: `l` the loop. -/
  | overvoltage (l : Fin 8)
  /-- BELLOWS_END (R177): The bellows term ends after B periods. Operands: `l` the loop. -/
  | bellowsEnd (l : Fin 8)
  /-- SHED_DWELL_EXPIRY (R178): The shed dwell elapses and the highest phase starts to taper. Operands: `l` the loop. -/
  | shedDwellExpiry (l : Fin 8)
  /-- PHASE_OPEN (R179): Three qualifying pulses without current rise remove the phase. Operands: `i` the phase. -/
  | phaseOpen (i : Fin 32)
  /-- IMON_IMPLAUSIBLE (R180): 100 periods of implausible phase current make the phase run blind. Operands: `i` the phase. -/
  | imonImplausible (i : Fin 32)
  /-- BLIND_TIMEOUT (R180): A phase blind for 10 ms is removed. Operands: `i` the phase. -/
  | blindTimeout (i : Fin 32)
  /-- SYNC_IN_EDGE (R181): A SYNC_IN rising edge is measured as a loop reference edge. Operands: `p` the period since the last edge in 1/256 cycles. -/
  | syncInEdge (p : Nat)
  /-- SYNC_LOCKED (R181): The loop locks to SYNC_IN after 16 good periods. Operands: `l` the loop. -/
  | syncLocked (l : Fin 8)
  /-- SYNC_LOST (R181): SYNC_IN missing or out of range; the loop falls back to its own timebase. Operands: `l` the loop. -/
  | syncLost (l : Fin 8)
  /-- BUS_REFERENCE_WRITE (R188): A bus reference write redirects its ramp without a commit. Operands: `w` the session, `d` the data. -/
  | busReferenceWrite (w : Session) (d : List Byte)
  /-- SITE_CAP_WRITE (R217): A site cap write takes effect without a commit. Operands: `w` the session, `d` the data. -/
  | siteCapWrite (w : Session) (d : List Byte)
  /-- SHELF_LOOP_START (R191): The shelf loop starts at a frame boundary once a bus channel is READY, presetting lane states. -/
  | shelfLoopStart
  /-- FF_IMPLAUSIBLE (R195): Ten disagreeing comparisons switch F to the bus-current source. -/
  | ffImplausible
  /-- FF_RESTORE (R195): One second of agreement returns F to the branch sum. -/
  | ffRestore
  /-- BUS_SENSE_LOST (R196): No bus-voltage channel READY for four frames releases the rectifiers to droop. -/
  | busSenseLost
  /-- BUS_OVERVOLTAGE (R197): Bus beyond its overvoltage level for 1 ms sets BUS_OV and zeroes demands. -/
  | busOvervoltage
  /-- BUS_OV_CLEAR (R197): Bus 0.5 V inside the level for 100 ms clears BUS_OV. -/
  | busOvClear
  /-- BUS_UNDERVOLTAGE (R197): Bus inside its undervoltage level for 1 ms sets BUS_UV. -/
  | busUndervoltage
  /-- BUS_UV_CLEAR (R197): Bus 0.5 V beyond the level for 100 ms clears BUS_UV. -/
  | busUvClear
  /-- REC_NOT_TRACKING (R197): A rectifier above its demand for 100 ms enters not tracking. Operands: `i` the rectifier. -/
  | recNotTracking (i : Fin 32)
  /-- CAP_EVALUATION (R200): E5's 1 s update evaluates capping, hold-up stages on SoC and autonomy. -/
  | capEvaluation
  /-- SHORTFALL_TIMEOUT (R201): CAPACITY set for the shortfall time enters hold-up. -/
  | shortfallTimeout
  /-- HOLDUP_ENDED (R203): AC_OK and sufficient capacity for the qualification time end hold-up and restart shed branches. -/
  | holdupEnded
  /-- VOLTAGE_STAGE_DWELL (R202): Bus inside a stage's voltage threshold for the dwell reaches that stage. Operands: `n` the stage. -/
  | voltageStageDwell (n : Fin 8)
  /-- REPLY_RECEIVED (R211): A rectifier reply in its slot is decoded and its telemetry and state taken. Operands: `j` the reply slot, `p` the segment, `d` characters 1 to 7 as decoded. -/
  | replyReceived (j : Fin 4) (p : Fin 2) (d : List Byte)
  /-- REPLY_MISSING (R214): Four consecutive scheduled replies missing make the rectifier absent. Operands: `i` the rectifier. -/
  | replyMissing (i : Fin 32)
  /-- SLOT_CORRUPT (R214): Energy without a valid reply in 8 consecutive scheduled frames is recorded. Operands: `i` the rectifier. -/
  | slotCorrupt (i : Fin 32)
  /-- SLOW_RETRY (R213): A slow message unanswered for 8 frames is retried. Operands: `i` the rectifier. -/
  | slowRetry (i : Fin 32)
  /-- PORT_READBACK (R215): A port reads back its own downlink. Operands: `p` the share-link port, `ok` the readback is valid. -/
  | portReadback (p : Fin 2) (ok : Bool)
  /-- PORT_TX_FAULT (R215): Three consecutive invalid readbacks record 0x0601. Operands: `p` the share-link port. -/
  | portTxFault (p : Fin 2)
  /-- SLOW_ACCESS_READ (R217): Command 1 on 0x2E41:04 queues a slow-channel read. Operands: `w` the session. -/
  | slowAccessRead (w : Session)
  /-- SLOW_ACCESS_WRITE (R217): Command 2 on 0x2E41:04 queues a slow-channel write. Operands: `w` the session. -/
  | slowAccessWrite (w : Session)
  /-- SHELF_OFF_WRITE (R209): A write of 0x2E00:0F sets or clears SHELF_OFF in the downlink. Operands: `w` the session, `d` the data. -/
  | shelfOffWrite (w : Session) (d : List Byte)
  /-- BRANCH_EVALUATION (R224): At each 40 kS/s instant each branch's on request, presence and inrush energy are evaluated. Operands: `gpio` input levels, limit and breaker comparators. -/
  | branchEvaluation (gpio : BitVec 24) (limit breaker : BitVec 16)
  /-- INSERTION_DEBOUNCE (R224): Presence held for the debounce moves the branch to INRUSH. Operands: `k` the branch. -/
  | insertionDebounce (k : Fin 16)
  /-- INRUSH_SETTLED (R224): V_DS below the inrush-done level for the settle time moves the branch to ON. Operands: `k` the branch. -/
  | inrushSettled (k : Fin 16)
  /-- INRUSH_TIMEOUT (R224): The inrush time limit passes before ON and the branch trips. Operands: `k` the branch. -/
  | inrushTimeout (k : Fin 16)
  /-- LIMIT_ASSERT (R227): The limit comparator asserts and the gate regulates the branch current. Operands: `k` the branch. -/
  | limitAssert (k : Fin 16)
  /-- LIMIT_RELEASE (R224): The comparator deasserted for 1 ms returns the branch to ON. Operands: `k` the branch. -/
  | limitRelease (k : Fin 16)
  /-- BR_FAULT_TIMER (R227): The branch fault timer expires and trips the branch. Operands: `k` the branch. -/
  | brFaultTimer (k : Fin 16)
  /-- BR_BREAKER (R228): The breaker comparator fast-sinks the gate and trips the branch. Operands: `k` the branch. -/
  | brBreaker (k : Fin 16)
  /-- TRIP_SINK_END (R229): After 10 µs of fast sink the gate goes to normal sink. Operands: `g` the gate pin. -/
  | tripSinkEnd (g : Fin 24)
  /-- BRANCH_MIN_OFF_END (R224): A branch's minimum off time ends and it goes to OFF or restarts. Operands: `k` the branch. -/
  | branchMinOffEnd (k : Fin 16)
  /-- BRANCH_RETRY_END (R224): The branch retry interval ends and a retry inrush starts. Operands: `k` the branch. -/
  | branchRetryEnd (k : Fin 16)
  /-- RETRIES_CLEARED (R229): A branch ON for 60 s returns retries used to 0. Operands: `k` the branch. -/
  | retriesCleared (k : Fin 16)
  /-- FET_SHORT (R232): A short condition held 50 ms declares the branch FET shorted. Operands: `k` the branch. -/
  | fetShort (k : Fin 16)
  /-- CLEAR_FET_SHORT (R232): A write of 0x2600:02 clears FET_SHORT if no condition holds. Operands: `w` the session, `d` the data. -/
  | clearFetShort (w : Session) (d : List Byte)
  /-- GATE_UV (R231): VGD falls below its undervoltage level and commanded gates go low. -/
  | gateUv
  /-- GATE_UV_RECOVER (R231): VGD rises above its rising level and channels restart. -/
  | gateUvRecover
  /-- FEED_QUALIFIED (R234): A feed inside its window for 10 ms becomes qualified. Operands: `p` the pair, `b` feed B. -/
  | feedQualified (p : Fin 2) (b : Bool)
  /-- FEED_LOSS (R235): The confirm count of outputs outside the window declares the selected feed lost. Operands: `p` the feed pair. -/
  | feedLoss (p : Fin 2)
  /-- DEAD_TIME_END (R236): The dead time ends and the other feed's gate is sourced. Operands: `p` the feed pair. -/
  | deadTimeEnd (p : Fin 2)
  /-- REVERT_TIME (R237): The preferred feed qualified for the revert time starts a revert. Operands: `p` the feed pair. -/
  | revertTime (p : Fin 2)
  /-- QUENCH_IN (R239): QUENCH_IN low for 20 ns sets its quench latch and forces targets off. Operands: `low` the new level. -/
  | quenchIn (low : Bool)
  /-- SOFTWARE_QUENCH (R239): A write of 0x2600:03 sets the software quench latch. Operands: `w` the session, `d` the data. -/
  | softwareQuench (w : Session) (d : List Byte)
  /-- QUENCH_RELEASE (R240): A write of 0x2600:04 releases a quench latch. Operands: `w` the session, `d` the data. -/
  | quenchRelease (w : Session) (d : List Byte)
  /-- QUENCH_AUTO_RELEASE (R240): A source inactive for its release time releases its latch. Operands: `q` the source less 1. -/
  | quenchAutoRelease (q : Fin 18)
  /-- QUENCH_IN_REARM (R241): 1 µs after this chip releases QUENCH_OUT a still-low line sets the QUENCH_IN latch. -/
  | quenchInRearm
  /-- CHARGE_COUNT (R247): At each 1 ms boundary E5 integrates each string's charge and evaluates its anchors and SoC. Operands: `acc` the four accumulators' readings. -/
  | chargeCount (acc : Vector Rat 4)
  /-- EMPTY_ANCHOR (R255): The empty condition held for the confirm time sets Q_s to 0. Operands: `n` the string. -/
  | emptyAnchor (n : Fin 4)
  /-- FULL_ANCHOR (R254): The full condition held for the taper time sets Q_s to C_s and opens a cycle. Operands: `n` the string. -/
  | fullAnchor (n : Fin 4)
  /-- CAPACITY_RESET (R251): A write of the reset key to 0x2810+s:0F reinitialises the string. Operands: `w` the session, `n` the string, `d` the data. -/
  | capacityReset (w : Session) (n : Fin 4) (d : List Byte)
  /-- LVD_OPEN (R258): String voltage at the LVD level for the dwell opens the string. Operands: `n` the string. -/
  | lvdOpen (n : Fin 4)
  /-- LVD_RECONNECT (R259): Reconnect conditions held for the delay reconnect the string. Operands: `n` the string. -/
  | lvdReconnect (n : Fin 4)
  /-- RECONNECT_BLOCKED (R259): The match unmet for 24 h records 0x0808. Operands: `n` the string. -/
  | reconnectBlocked (n : Fin 4)
  /-- CLEAR_STRING_LATCH (R260): A write of 0x2800:05 clears a string's latch. Operands: `w` the session, `d` the data. -/
  | clearStringLatch (w : Session) (d : List Byte)
  /-- LEARNED_DATA_PERIODIC (R262): The 60 s or 3600 s interval starts a learned-data write. -/
  | learnedDataPeriodic
  /-- LEARNED_DATA_WRITE_DONE (R262): A learned-data copy write completes and is read back. -/
  | learnedDataWriteDone
  /-- RAIL_EVALUATION (R272): At each 40 kS/s instant the sequencer evaluates every rail's window, dependencies and PG. -/
  | railEvaluation
  /-- START_DELAY_END (R274): A rail's start delay ends and it starts. Operands: `r` the rail. -/
  | startDelayEnd (r : Fin 32)
  /-- PG_DELAY_END (R276): A rail in window for the PG delay asserts PG and enters GOOD. Operands: `r` the rail. -/
  | pgDelayEnd (r : Fin 32)
  /-- START_TIMEOUT (R282): A rail not GOOD within its start timeout has failed to come up. Operands: `r` the rail. -/
  | startTimeout (r : Fin 32)
  /-- RAIL_FAULT (R278): A rail's fault timer expires, or an immediate fault occurs, and its reaction is taken. Operands: `r` the rail. -/
  | railFault (r : Fin 32)
  /-- OFF_PATH_COMPLETE (R283): A rail's off path completes and it enters MIN_OFF; the next rail in reverse order starts stopping. Operands: `r` the rail. -/
  | offPathComplete (r : Fin 32)
  /-- MIN_OFF_END (R283): A rail's minimum off time ends and it enters OFF. Operands: `r` the rail. -/
  | minOffEnd (r : Fin 32)
  /-- RAIL_RETRY_END (R279): A rail's retry interval ends and it restarts. Operands: `r` the rail. -/
  | railRetryEnd (r : Fin 32)
  /-- RAIL_RETRIES_CLEARED (R279): 60 s in GOOD return a rail's retries to 0. Operands: `r` the rail. -/
  | railRetriesCleared (r : Fin 32)
  /-- DISCHARGE_TIMEOUT (R283): The discharge timeout counts a loop's off path complete. Operands: `r` the rail. -/
  | dischargeTimeout (r : Fin 32)
  /-- OFF_DELAY_END (R283): A rail's off delay ends and its off path starts. Operands: `r` the rail. -/
  | offDelayEnd (r : Fin 32)
  /-- INPUT_LOSS_DELAY (R286): HOLDUP set for the input-loss delay shuts down the masked rails. -/
  | inputLossDelay
  /-- SYSTEM_ON_WRITE (R271): A write of system on starts or abandons a power-up or power-down. Operands: `w` the session, `d` the data. -/
  | systemOnWrite (w : Session) (d : List Byte)
  /-- RAIL_COMMAND_WRITE (R271): A write of a rail command turns a rail on or off, or toggles a latch. Operands: `w` the session, `r` the rail, `d` the data. -/
  | railCommandWrite (w : Session) (r : Fin 32) (d : List Byte)
  /-- GROUP_COMMAND_WRITE (R288): A write of a group command clears a group shutdown. Operands: `w` the session, `g` the group, `d` the data. -/
  | groupCommandWrite (w : Session) (g : Fin 8) (d : List Byte)
  /-- SENSOR_CONVERSION (R297): A temperature sensor is converted and its reading dated and reported. Operands: `k` the sensor, temperature, voltage and resistance. -/
  | sensorConversion (k : Fin 16) (t v r : Rat)
  /-- SENSOR_SLOW (R298): Readings below the near level less 6 °C for 1 s return a sensor to slow. Operands: `k` the sensor. -/
  | sensorSlow (k : Fin 16)
  /-- TEMP_WARNING (R300): Two readings at or above the warning level assert the warning. Operands: `k` the sensor. -/
  | tempWarning (k : Fin 16)
  /-- THROTTLE_ACTIVE (R303): The throttle threshold asserts and its channels step down. Operands: `k` the sensor. -/
  | throttleActive (k : Fin 16)
  /-- THERMAL_SHUTDOWN (R301): The shutdown threshold asserts the thermal warm reset and THERMAL_LOCKOUT. Operands: `k` the sensor. -/
  | thermalShutdown (k : Fin 16)
  /-- THRESHOLD_CLEAR (R300): Two readings below level less hysteresis clear a threshold. Operands: `k` the sensor, `j` the threshold. -/
  | thresholdClear (k : Fin 16) (j : Fin 3)
  /-- THROTTLE_STEP (R303): The step interval elapses and f falls by one step. Operands: `j` the throttle channel. -/
  | throttleStep (j : Fin 8)
  /-- THROTTLE_RESTORE (R303): The restore dwell elapses and f rises by one step. Operands: `j` the throttle channel. -/
  | throttleRestore (j : Fin 8)
  /-- SENSOR_FAIL (R305): A sensor fails and its reading holds. Operands: `k` the sensor. -/
  | sensorFail (k : Fin 16)
  /-- SENSOR_RECOVER (R305): Ten good conversions recover a failed sensor. Operands: `k` the sensor. -/
  | sensorRecover (k : Fin 16)
  /-- ENGINE_WDOG (R312): An engine watchdog expires; the engine is block-reset and its epoch increments. Operands: `e` the engine. -/
  | engineWdog (e : Fin 8)
  /-- SELF_TEST_DONE (R312): An engine's self-test ends; the task set migrates back or the engine is retired. Operands: `e` the engine, `pass` the result. -/
  | selfTestDone (e : Fin 8) (pass : Bool)
  /-- MIGRATION_DONE (R314): A task set's migration between engines completes. Operands: `e` the engine. -/
  | migrationDone (e : Fin 8)
  /-- ENGINE_RELOAD_DONE (R315): An engine finishes reloading during live update. Operands: `e` the engine. -/
  | engineReloadDone (e : Fin 8)
  /-- SYSTEM_WDOG (R313): The system watchdog expires and asserts a warm reset. -/
  | systemWdog
  /-- MBX_POST (R319): A message is posted to a queue and its header stamped. Operands: `who` the sender, `q` the queue, `d` the payload. -/
  | mbxPost (who : Fin 11) (q : Fin 64) (d : List Byte)
  /-- MBX_ACK (R320): A receiver writes a return code to an acknowledge register. Operands: `who` the writer, `q` the queue, `k` the slot, `code` the return code. -/
  | mbxAck (who : Fin 11) (q : Fin 64) (k : Fin 16) (code : Nat)
  /-- HOST_BUMP (R316): MBX_CTRL.HOST_BUMP increments the host epoch and releases host locks. -/
  | hostBump
  /-- LOCK_ACQUIRE (R327): A read of LCK_LOCKn attempts to acquire lock n. Operands: `who` the identity, `n` the lock. -/
  | lockAcquire (who : Fin 11) (n : Fin 64)
  /-- LOCK_RELEASE (R329): A write of LCK_LOCKn releases the lock and rings armed doorbells. Operands: `who` the identity, `n` the lock. -/
  | lockRelease (who : Fin 11) (n : Fin 64)
  /-- LOCK_ARM (R330): A write of LCK_ARM arms release doorbells. Operands: `who` the identity, `n` the lock. -/
  | lockArm (who : Fin 11) (n : Fin 64)
  /-- REGISTER_WRITE (R13): A host write to a register with no row of its own. Operands: `addr` host address, `value` the word. -/
  | registerWrite (addr value : Nat)
  /-- DICTIONARY_READ (R336): A dictionary read request is checked and answered. Operands: `w` the session, index, sub, `portB` port B's copy (SPI). -/
  | dictionaryRead (w : Session) (idx sub : Nat) (portB : Bool)
  /-- DICTIONARY_WRITE (R484): A write of an rw or rws object with no row of its own. Operands: `w` the session, index, sub, `portB` port B's copy (SPI), `d` the data. -/
  | dictionaryWrite (w : Session) (idx sub : Nat) (portB : Bool) (d : List Byte)
  /-- SHADOW_WRITE (R343): An rwc write lands in the shadow and claims it. Operands: `w` the session, index, sub, `d` the data. -/
  | shadowWrite (w : Session) (idx sub : Nat) (d : List Byte)
  /-- ROLE_REQUEST (R339): A role written to 0x2010:01 draws a nonce. Operands: `w` the session, `d` the data. -/
  | roleRequest (w : Session) (d : List Byte)
  /-- SESSION_END_REQUEST (R341): A write of 0 to 0x2010:01 returns the session to Observer. Operands: `w` the session. -/
  | sessionEndRequest (w : Session)
  /-- ROLE_RESPONSE (R339): An HMAC response is checked and the role raised. Operands: `w` the session, `d` the data. -/
  | roleResponse (w : Session) (d : List Byte)
  /-- AUTH_LOCKOUT_END (R340): The 60 s role lockout ends. Operands: `w` the session, `role` the role, 0 Operator. -/
  | authLockoutEnd (w : Session) (role : Fin 3)
  /-- NONCE_EXPIRY (R339): A nonce expires 10 s after issue. Operands: `w` the session. -/
  | nonceExpiry (w : Session)
  /-- SESSION_IDLE_TIMEOUT (R341): A session idle for its timeout returns to Observer. Operands: `w` the session. -/
  | sessionIdleTimeout (w : Session)
  /-- COMMIT (R344): Writing "tmpr" accepts the shadow as a change set and starts validation. Operands: `w` the session. -/
  | commit (w : Session)
  /-- DISCARD (R344): Writing "drop" discards the shadow. Operands: `w` the session. -/
  | discard (w : Session)
  /-- COMMIT_VALIDATION (R345): Validation and ordering of a change set complete. -/
  | commitValidation
  /-- BLOCK_APPLY (R347): A block applies its changes at its instant in the order. -/
  | blockApply
  /-- CHANNEL_NOT_READY (R348): A needed channel not READY within 100 ms makes the block refuse. -/
  | channelNotReady
  /-- ROLLBACK_APPLY (R348): An applied block returns to its previous values at its instant. -/
  | rollbackApply
  /-- BOOT_COMMIT (R350): After reset E0 loads the stored or default configuration and commits it. -/
  | bootCommit
  /-- STORE (R354): Writing "save" to 0x1010 starts a Store. Operands: `w` the session, `scope` the scope less 1, `d` the data. -/
  | store (w : Session) (scope : Fin 3) (d : List Byte)
  /-- STORE_DONE (R354): A Store write completes and is confirmed. Operands: `ok` the copy reads back good. -/
  | storeDone (ok : Bool)
  /-- RESTORE_DEFAULTS (R355): Writing "load" to 0x1011 marks a scope for restore. Operands: `w` the session, `scope` the scope less 1, `d` the data. -/
  | restoreDefaults (w : Session) (scope : Fin 3) (d : List Byte)
  /-- NMT_START (R359): NMT start puts a port in operational. Operands: `p` the CAN port. -/
  | nmtStart (p : Fin 2)
  /-- NMT_STOP (R359): NMT stop puts a port in stopped. Operands: `p` the CAN port. -/
  | nmtStop (p : Fin 2)
  /-- NMT_ENTER_PRE_OPERATIONAL (R359): NMT enter pre-operational. Operands: `p` the CAN port. -/
  | nmtEnterPreOperational (p : Fin 2)
  /-- NMT_RESET_APPLICATION (R360): Reset application resets the CANopen layer of the port. Operands: `p` the CAN port. -/
  | nmtResetApplication (p : Fin 2)
  /-- NMT_RESET_COMMUNICATION (R360): Reset communication resets the CANopen layer of the port. Operands: `p` the CAN port. -/
  | nmtResetCommunication (p : Fin 2)
  /-- RPDO_RECEIVED (R342): An RPDO writes its mapped objects with the RPDO role. Operands: `p` the CAN port, `n` the RPDO less 1, `d` its data. -/
  | rpdoReceived (p : Fin 2) (n : Fin 4) (d : List Byte)
  /-- TPDO_EVENT (R362): A TPDO event timer or a change of 0x1001 sends a TPDO. Operands: `p` the CAN port, `n` the TPDO less 1. -/
  | tpdoEvent (p : Fin 2) (n : Fin 4)
  /-- SDO_SEGMENT (R356): A segment of an SDO or USDO transfer is served. Operands: `p` the CAN port, `x` the step. -/
  | sdoSegment (p : Fin 2) (x : SdoStep)
  /-- SDO_TIMEOUT (R356): A segmented transfer without a segment for 1 s is aborted. Operands: `p` the CAN port. -/
  | sdoTimeout (p : Fin 2)
  /-- ERROR_FIELD_BATCH (R481): At the end of its microsecond a fault batch enters 0x1003. -/
  | errorFieldBatch
  /-- EMCY_TRANSMIT (R481): A pending EMCY leaves a port after the inhibit time. Operands: `p` the CAN port. -/
  | emcyTransmit (p : Fin 2)
  /-- ERROR_FIELD_CLEAR (R482): Writing 0 to 0x1003:00 empties the field and sends a clearing EMCY. Operands: `w` the session. -/
  | errorFieldClear (w : Session)
  /-- HEARTBEAT_PRODUCE (R361): The producer heartbeat timer sends a heartbeat. Operands: `p` the CAN port. -/
  | heartbeatProduce (p : Fin 2)
  /-- HEARTBEAT_LOST (R364): A consumed heartbeat is lost and 0x0D0C recorded. Operands: `p` the CAN port, `n` the consumer entry less 1. -/
  | heartbeatLost (p : Fin 2) (n : Fin 4)
  /-- CAN_BUS_OFF (R365): A port goes bus-off and ends its session. Operands: `p` the CAN port. -/
  | canBusOff (p : Fin 2)
  /-- BUS_OFF_RECOVERY (R365): After 128 recessive sequences the port recovers and sends boot-up. Operands: `p` the CAN port. -/
  | busOffRecovery (p : Fin 2)
  /-- SPI_READ (R366): An SPI frame with CMD 0x01 reads up to 16 words. Operands: `d` the bytes clocked in. -/
  | spiRead (d : List Byte)
  /-- SPI_WRITE (R368): An SPI frame with CMD 0x02 writes up to 16 words after the CRC checks. Operands: `d` the bytes clocked in. -/
  | spiWrite (d : List Byte)
  /-- TUNNEL_READ (R369): A tunnel request with OP 1 reads an object. -/
  | tunnelRead
  /-- TUNNEL_WRITE (R369): A tunnel request with OP 2 writes an object. -/
  | tunnelWrite
  /-- TUNNEL_READ_SEGMENT (R370): A tunnel request with OP 3 reads a segment. -/
  | tunnelReadSegment
  /-- TUNNEL_WRITE_SEGMENT (R370): A tunnel request with OP 4 writes a segment. -/
  | tunnelWriteSegment
  /-- TUNNEL_LAST_WRITE_SEGMENT (R370): A tunnel request with OP 5 ends a segmented write. -/
  | tunnelLastWriteSegment
  /-- TUNNEL_TIMEOUT (R370): A 1 s gap aborts a tunnel segmented transfer. -/
  | tunnelTimeout
  /-- PMBUS_DISCOVERY (R372): A device's VOUT_MODE is read, and legacy rectifiers get VOUT_COMMAND. Operands: `d` the device, `mode` its VOUT_MODE. -/
  | pmbusDiscovery (d : Fin 32) (mode : Option Byte)
  /-- PMBUS_POLL (R372): Each poll period reads the telemetry of each enabled device. Operands: `d` the device, `r` what it answers. -/
  | pmbusPoll (d : Fin 32) (r : PmPoll)
  /-- PMBUS_DEVICE_LOST (R374): Three polls unacknowledged make the device absent. Operands: `d` the device. -/
  | pmbusDeviceLost (d : Fin 32)
  /-- PMBUS_ALERT (R374): ALERT_N low starts an alert response read. Operands: `p` the PMBus port, `r` address and status of the answering device. -/
  | pmbusAlert (p : Fin 2) (r : Option (Nat × Nat))
  /-- CLOCK_STRETCH_TIMEOUT (R82): Stretching beyond 25 ms abandons the transfer. Operands: `p` the PMBus port. -/
  | clockStretchTimeout (p : Fin 2)
  /-- PAIRING_FRAME_SEND (R379): A chip in pairing sends a pairing frame every 10 ms. -/
  | pairingFrameSend
  /-- PAIRING_FRAME_RECEIVED (R380): A peer's pairing frame is checked and the active chip chosen. Operands: `ok` it passed its checks, `f` the frame. -/
  | pairingFrameReceived (ok : Bool) (f : BenutFrame)
  /-- PAIRING_TIMEOUT (R381): No pairing within the timeout with TWIN_ACT_I low makes the chip active alone. -/
  | pairingTimeout
  /-- CONFIG_PUSH (R382): Writing "push" to 0x3000:07 sends the configuration to the peer. Operands: `w` the session, `d` the data. -/
  | configPush (w : Session) (d : List Byte)
  /-- CONFIGURATION_FRAME_RECEIVED (R391): A configuration frame carries a change set, a forwarded write or an adopted configuration. Operands: `ok` it passed its checks, `f` the frame. -/
  | configurationFrameReceived (ok : Bool) (f : BenutFrame)
  /-- MIRROR_FRAME_RECEIVED (R389): The standby checks a mirror frame and aligns its timebase. Operands: `ok` it passed its checks, `f` its content, `err` the timebase error in ns. -/
  | mirrorFrameReceived (ok : Bool) (f : MirrorFrame) (err : Rat)
  /-- STATE_FRAME_RECEIVED (R388): The standby takes rail, channel and throttle state from a state frame. Operands: `ok` it passed its checks, `f` its content. -/
  | stateFrameReceived (ok : Bool) (f : StateFrame)
  /-- HEARTBEAT_RECEIVED (R385): The active chip receives a standby heartbeat. Operands: `ok` it passed its checks, SEQ, twin state and hash. -/
  | heartbeatReceived (ok : Bool) (seq twin hash : Nat)
  /-- DELAY_REQUEST (R385): Every 1 s a delay request measures the link delay. Operands: `l` the link. -/
  | delayRequest (l : Fin 5)
  /-- DELAY_FRAME_RECEIVED (R385): A delay request or response is answered or evaluated. Operands: `ok` it passed its checks, `l` the link, `f` the frame, `at_` its arrival in ns. -/
  | delayFrameReceived (ok : Bool) (l : Fin 5) (f : BenutFrame) (at_ : Rat)
  /-- BENUT_LINK_UP (R383): 1 ms of clean idle brings a Benut link up. Operands: `l` the link. -/
  | benutLinkUp (l : Fin 5)
  /-- BENUT_LINK_DOWN (R383): 100 µs without valid characters takes a link down. Operands: `l` the link. -/
  | benutLinkDown (l : Fin 5)
  /-- MESSAGE_FRAME_RECEIVED (R326): A proxied message arrives and is posted on an inbound queue. Operands: `ok` it passed its checks, DST, SRC, `own` this position sent it, `q` the peer's queue, `m` the slot image. -/
  | messageFrameReceived (ok : Bool) (dst src : Byte) (own : Bool) (q : Nat) (m : MsgSlot)
  /-- MESSAGE_ACK_FRAME_RECEIVED (R326): A peer's acknowledgement is applied to the outbound message. Operands: `ok` it passed its checks, DST, SRC, `own` this position sent it, queue, slot, SEQ and code. -/
  | messageAckFrameReceived (ok : Bool) (dst src : Byte) (own : Bool) (q : Fin 64) (k : Fin 16) (seq code : Nat)
  /-- PROXY_TIMEOUT (R326): No peer acknowledgement in 10 ms acknowledges with 0x17. Operands: `q` the queue, `k` the slot. -/
  | proxyTimeout (q : Fin 64) (k : Fin 16)
  /-- HANDOVER (R392): Writing "give" to 0x3000:06 hands control to the standby. Operands: `w` the session, `d` the data. -/
  | handover (w : Session) (d : List Byte)
  /-- TOKEN_CONFLICT (R393): An active chip sees TWIN_ACT_I high and gives up. -/
  | tokenConflict
  /-- MISSED_LAUNCH (R393): Two missed mirror launches make the active chip give up. -/
  | missedLaunch
  /-- TOKEN_LOSS (R395): TWIN_ACT_I falls and the standby takes over. -/
  | tokenLoss
  /-- TWIN_HEARTBEAT_LOST (R395): No mirror frame for 75 µs makes the standby take over. -/
  | twinHeartbeatLost
  /-- TAKEOVER_DRIVE (R396): 5 µs after TWIN_ACT_O the new active chip drives the shared outputs. -/
  | takeoverDrive
  /-- STANDBY_LOST (R397): No heartbeat for 75 µs makes the active chip active alone. -/
  | standbyLost
  /-- RESET_STANDBY (R397): Writing "rese" to 0x3000:08 orders a warm reset of the standby. Operands: `w` the session, `d` the data. -/
  | resetStandby (w : Session) (d : List Byte)
  /-- TWIN_SYNCHRONISED (R390): Alignment held 1 s with valid frames makes the standby synchronised. -/
  | twinSynchronised
  /-- CASCADE_TIME_LAUNCH (R401): At each 1 ms multiple a cascade time frame is launched. -/
  | cascadeTimeLaunch
  /-- CASCADE_TIME_RECEIVED (R401): A member timestamps a cascade time frame and steers. Operands: `ok` it passed its checks, DST, SRC, `own` this position sent it, `reverse` it came on a reverse pair, its time of day, its arrival in ns. -/
  | cascadeTimeReceived (ok : Bool) (dst src : Byte) (own reverse : Bool) (tod : Nat) (arrival : Rat)
  /-- CASC_TIME_LOST (R401): 10 ms without a time frame loses cascade time. -/
  | cascTimeLost
  /-- POSITION_REPORT_SEND (R402): Every 100 ms a position reports to the master. -/
  | positionReportSend
  /-- POSITION_REPORT_RECEIVED (R402): The master takes a position report. Operands: `ok` it passed its checks, DST, SRC, `own` this position sent it, the four REAL32 words. -/
  | positionReportReceived (ok : Bool) (dst src : Byte) (own : Bool) (pReq pMax w soc : Nat)
  /-- ALLOCATION_PERIOD (R403): The master computes and sends allocations. -/
  | allocationPeriod
  /-- ALLOCATION_RECEIVED (R404): A position takes its allocation as site cap at the next frame boundary. Operands: `ok` it passed its checks, DST, SRC, `own` this position sent it, eight REAL32 words and the number. -/
  | allocationReceived (ok : Bool) (dst src : Byte) (own : Bool) (allocs : List Nat) (number : Nat)
  /-- MASTER_LOST (R405): 1 s without master frames freezes a member. -/
  | masterLost
  /-- PROMOTE (R405): Writing "mast" to 0x3010:06 promotes the position. Operands: `w` the session, `d` the data. -/
  | promote (w : Session) (d : List Byte)
  /-- MASTER_ANNOUNCEMENT_RECEIVED (R405): A master receiving another announcement becomes a member. Operands: `ok` it passed its checks, DST, SRC, `own` this position sent it, `promotion` the cause. -/
  | masterAnnouncementReceived (ok : Bool) (dst src : Byte) (own promotion : Bool)
  /-- POWER_ON_RESET (R409): VAUX or VDDIO below the power-on threshold holds a cold reset. -/
  | powerOnReset
  /-- SUPPLY_BROWN_OUT (R409): VAUX or VDDIO falls below its brown-out level and a cold reset is asserted. -/
  | supplyBrownOut
  /-- VCORE_BROWN_OUT (R409): VCORE below 0.50 V for 1 µs asserts a cold reset. -/
  | vcoreBrownOut
  /-- RST_N_LOW (R409): A recognised low on RST_N asserts a warm reset. -/
  | rstNLow
  /-- RESET_ESCALATED (R409): RST_N still low 100 ms after recognition escalates to cold. -/
  | resetEscalated
  /-- SOFTWARE_RESET_WARM (R425): SYS_RSTCTRL scope 1 or "warm" to 0x5F20:02 requests a warm reset. Operands: `via` register or object. -/
  | softwareResetWarm (via : Via)
  /-- SOFTWARE_RESET_COLD (R425): SYS_RSTCTRL scope 2 or "cold" to 0x5F20:02 requests a cold reset. Operands: `via` register or object. -/
  | softwareResetCold (via : Via)
  /-- BLOCK_RESET_REQUEST (R420): SYS_BLKRST or 0x5F20:03 requests a block reset and an idle. Operands: `via` register or object, `d` the data, block code first. -/
  | blockResetRequest (via : Via) (d : List Byte)
  /-- BLOCK_RESET_ASSERT (R420): Idle or the idle timeout asserts the block's reset. Operands: `code` the block, `idle` it has reached idle. -/
  | blockResetAssert (code : Nat) (idle : Bool)
  /-- BLOCK_RESET_RELEASE (R420): After 1 µs the block reset is released and recorded. Operands: `code` the block. -/
  | blockResetRelease (code : Nat)
  /-- PARITY_SWEEP (R411): Every 100 µs the critical configuration registers are parity-checked. Operands: `bad` the block whose register failed, if any. -/
  | paritySweep (bad : Option Nat)
  /-- RELEASE_STEP_DONE (R415): A step of the release order completes and the next starts. Operands: three readings of the straps. -/
  | releaseStepDone (a b c : BitVec 7)
  /-- RELEASE_STALL (R415): A release step exceeds its bound and release restarts. Operands: `loads` the ROM loads from the slot. -/
  | releaseStall (loads : Bool)
  /-- TRIM_ATTEMPT_DONE (R417): A trim-load attempt completes, passing or failing. Operands: device trim and calibration set passed. -/
  | trimAttemptDone (dev cal : Bool)
  /-- TRIM_ACKNOWLEDGE (R418): Writing "ackn" to 0x5F20:07 ends the protective state. Operands: `w` the session, `d` the data. -/
  | trimAcknowledge (w : Session) (d : List Byte)
  /-- ROM_BOOT_DONE (R416): The ROM selects, verifies and loads a boot image or enters recovery. Operands: three readings of RECOVER, the digests agree, slots A and B read without an uncorrectable word. -/
  | romBootDone (a b c : Bool) (digests okA okB : Bool)
  /-- LIFECYCLE_WIPE (R422): The lifecycle wipe of the MRAM partitions completes. -/
  | lifecycleWipe
  /-- HOLD_EXPIRED (R59): No releasing commit within 10 s drops held outputs. -/
  | holdExpired
  /-- BROWN_WARN_SET (R70): VAUX falls to the BROWN_WARN threshold. -/
  | brownWarnSet
  /-- BROWN_WARN_CLEAR (R70): VAUX above threshold plus 0.3 V for 1 ms clears BROWN_WARN and releases deferred writes. -/
  | brownWarnClear
  /-- SUPPLY_RANGE (R77): VAUX_OV or VDDIO_RANGE set for more than 10 µs. Operands: VAUX_OV and VDDIO_RANGE as they now stand. -/
  | supplyRange (ov range : Bool)
  /-- SCRUB_STEP (R433): The scrubber reads and corrects one word. Operands: `m` the memory, `word` its number in an SRAM, `code` the code word read, `used` the word is in use. -/
  | scrubStep (m : MemKind) (word : Nat) (code : BitVec 80) (used : Bool)
  /-- SCRUB_LATE (R433): A scrub pass exceeds its bound. Operands: `m` the memory. -/
  | scrubLate (m : MemKind)
  /-- CORRECTION_RATE (R454): Corrections in one hour exceed the limit. Operands: `m` the memory. -/
  | correctionRate (m : MemKind)
  /-- NVC_STORE (R450): NVC_CMD STORE starts a Store from the SPI session. Operands: `scope` SCOPE of NVC_CMD. -/
  | nvcStore (scope : Fin 4)
  /-- NVC_USER_WRITE (R450): NVC_CMD USER_WRITE writes one word to the user area. -/
  | nvcUserWrite
  /-- RECORD_WRITE_DONE (R443): A staged record is written to its MRAM slot. Operands: `bad` words of the staged record that read uncorrectable. -/
  | recordWriteDone (bad : List Nat)
  /-- RECORDER_SCAN_DONE (R444): At recorder release the marks are scanned and an interrupted write redone. Operands: `incomplete` the slot after the head has no valid mark. -/
  | recorderScanDone (incomplete : Bool)
  /-- CURSOR_WRITE (R447): A cursor write starts loading a record half into a window. Operands: `by_` who writes, `d` the cursor. -/
  | cursorWrite (by_ : CursorBy) (d : List Byte)
  /-- WINDOW_LOAD_DONE (R447): A window load completes with its state. Operands: `k` the window, `bad` words that read uncorrectable. -/
  | windowLoadDone (k : Fin 3) (bad : List Nat)
  /-- RECORDER_CLEAR (R448): EVR_CLEAR or 0x3200:05 starts clearing the recorder. Operands: `via` register or object, `d` the data. -/
  | recorderClear (via : Via) (d : List Byte)
  /-- RECORDER_CLEARED (R448): The marks are zeroed and the clear record is written. -/
  | recorderCleared
  /-- MANUAL_TRIGGER (R445): A write of 0x3200:07 fires a kind-8 trigger. Operands: `w` the session, `d` the data. -/
  | manualTrigger (w : Session) (d : List Byte)
  /-- STAGING_BEGIN (R457): "begn" or UPD_CTRL begin marks the inactive slot as staging. Operands: `via` register or object. -/
  | stagingBegin (via : Via)
  /-- IMAGE_APPEND (R457): An image chunk or UPD append adds bytes to the staging slot. Operands: `via` register or object, `d` the data. -/
  | imageAppend (via : Via) (d : List Byte)
  /-- STAGING_ABORT (R474): "abrt" or UPD_CTRL abort ends staging. Operands: `via` register or object. -/
  | stagingAbort (via : Via)
  /-- IMAGE_VERIFY_DONE (R459): Tag, signature and slot readability are verified and the slot becomes valid or invalid. Operands: `uncorr` a word reads uncorrectable. -/
  | imageVerifyDone (uncorr : Bool)
  /-- ACTIVATE (R461): "boot" sets the trial pending and requests a warm reset. Operands: `via` register or object. -/
  | activate (via : Via)
  /-- COMMIT_TRIAL (R462): "cmit" makes the trial slot active. Operands: `via` register or object. -/
  | commitTrial (via : Via)
  /-- REVERT_TRIAL (R462): "rvrt" ends a trial without commit. Operands: `via` register or object. -/
  | revertTrial (via : Via)
  /-- TRIAL_EXPIRY (R462): The trial time expires and the trial reverts. -/
  | trialExpiry
  /-- LIVE_UPDATE (R464): "live" starts re-verifying the slot for a live update. Operands: `via` register or object. -/
  | liveUpdate (via : Via)
  /-- LIVE_VERIFY_DONE (R464): The live image is verified and engine reloading begins. Operands: `uncorr` a word reads uncorrectable. -/
  | liveVerifyDone (uncorr : Bool)
  /-- LIFECYCLE_TRANSITION (R470): "lcyc" to 0x2002:03 performs the requested lifecycle transition. Operands: `w` the session, `d` the data. -/
  | lifecycleTransition (w : Session) (d : List Byte)
  /-- KEY_WRITE (R472): A wrapped key written to 0x2003:02 is unwrapped and stored. Operands: `w` the session, `d` the data. -/
  | keyWrite (w : Session) (d : List Byte)
  /-- KEY_REVOKE (R473): A write of 0x2003:05 revokes a signing key. Operands: `w` the session, `d` the data. -/
  | keyRevoke (w : Session) (d : List Byte)
  /-- TWIN_ACT_I_CHANGE (R62): TWIN_ACT_I changes level at a chip that is neither active nor standby; the chip releases its sinking gate drives and PG pins within 1 µs of a rise and sinks them low again after a fall. Operands: `level` the new level. -/
  | twinActIChange (level : Bool)
  /-- SUPPLY_POWER_ON (R70): VAUX and VDDIO both rise above their power-on thresholds; this starts the 200 µs to 300 µs wait before release step 1 of the cold reset. -/
  | supplyPowerOn
  deriving DecidableEq, Repr

end Sys2Proof
end

