-- ==== Sys2Proof/Decode.lean ====
section
/-! DEFINITION. The command that a word spells. No row of the command table gives its command any bits, so no word spells one. -/

namespace Sys2Proof

/-- The command spelled by a word of the table: none, whatever the word (the rows of the table give no bits). -/
def decodeTableWord (_nbits _w : Nat) : Option Instr := none

end Sys2Proof
end

