-- ==== Sys2Proof/Machine/Operands.lean ====
section
/-! DEFINITION. The operand forms of the commands: REAL32 words, little-endian values, the CRCs, the check code of stored
words and the signal words of the lanes. -/

namespace Sys2Proof.Machine

/-- 2 to the power of an integer, as a rational. -/
def pow2 (e : Int) : Rat := if 0 ≤ e then ((2 ^ e.toNat : Nat) : Rat) else 1 / ((2 ^ (-e).toNat : Nat) : Rat)

/-- Floor of log₂ of a positive rational. -/
def ilog2 (q : Rat) : Int :=
  let e : Int := (Nat.log2 q.num.natAbs : Int) - (Nat.log2 q.den : Int)
  if q < pow2 e then e - 1 else if pow2 (e + 1) ≤ q then e + 1 else e

/-- The nearest integer, ties to even. -/
def roundEven (q : Rat) : Int :=
  let f := q.floor
  let d := q - (f : Rat)
  if d < 1 / 2 then f else if 1 / 2 < d then f + 1 else if f % 2 = 0 then f else f + 1

/-! ## REAL32 (R8) -/

/-- The value of a REAL32 word; none for an infinity or a NaN. -/
def real32 (w : Nat) : Option Rat :=
  let e : Nat := w / 2 ^ 23 % 256
  let f : Nat := w % 2 ^ 23
  let m : Rat := if e = 0 then (f : Rat) * pow2 (-149) else ((2 ^ 23 + f : Nat) : Rat) * pow2 ((e : Int) - 150)
  if e = 255 then none else some (if w / 2 ^ 31 % 2 = 1 then -m else m)

/-- The REAL32 word nearest to a rational, ties to even (PRESUMED, log entry 8). -/
def toReal32 (q : Rat) : Nat :=
  let a := if q < 0 then -q else q
  let s := if q < 0 then 2 ^ 31 else 0
  if q = 0 then 0
  else
    let e := max (ilog2 a) (-126)
    let m := (roundEven (a * pow2 (23 - e))).toNat
    let bits := (e + 126).toNat * 2 ^ 23 + m
    s + min bits 0x7F800000

/-- The quiet NaN word a REAL32 object reads where its rule says NaN (R372). -/
def nanWord : Nat := 0x7FC00000

/-- A rational as the REAL32 the spec's variable holds. -/
def asReal32 (q : Rat) : Rat := (real32 (toReal32 q)).getD 0

/-- An optional quantity's word: NaN where there is none. -/
def toReal32? : Option Rat → Nat
  | some q => toReal32 q
  | none => nanWord

/-! ## Little-endian values (R11) -/

/-- `n` bytes of a value, least significant first. -/
def leBytes : Nat → Nat → List Byte
  | 0, _ => []
  | n + 1, v => BitVec.ofNat 8 v :: leBytes n (v / 256)

/-- The value of bytes, least significant first. -/
def leValue : List Byte → Nat
  | [] => 0
  | b :: r => b.toNat + 256 * leValue r

/-- A two's-complement field of `n` bits. -/
def signed (n v : Nat) : Int := if v % 2 ^ n < 2 ^ (n - 1) then (v % 2 ^ n : Nat) else ((v % 2 ^ n : Nat) : Int) - (2 ^ n : Nat)

/-- The `n`-bit two's-complement code of an integer. -/
def unsigned (n : Nat) (v : Int) : Nat := (v % ((2 ^ n : Nat) : Int)).toNat

/-- Bit `k` of a word. -/
def bit (w k : Nat) : Bool := w / 2 ^ k % 2 = 1

/-- Bits [hi:lo] of a word. -/
def bits (w hi lo : Nat) : Nat := w / 2 ^ lo % 2 ^ (hi + 1 - lo)

/-- A Boolean as a bit. -/
def ofBool (b : Bool) : Nat := if b then 1 else 0

/-- The word whose bit `k` is the k-th Boolean of a list. -/
def ofBits : List Bool → Nat
  | [] => 0
  | b :: r => ofBool b + 2 * ofBits r

/-- The bit vector whose bit `k` is `f k`. -/
def maskOf (n : Nat) (f : Fin n → Bool) : BitVec n := BitVec.ofNat n (ofBits ((List.finRange n).map f))

/-- A UNSIGNED32 counter's next value; it wraps (PRESUMED, log entry 10). -/
def bump (c : U32) : U32 := c + 1

/-- A count that saturates at `top`. -/
def satInc (top n : Nat) : Nat := if n < top then n + 1 else top

/-- A value held within bounds. -/
def clamp (lo hi q : Rat) : Rat := if q < lo then lo else if hi < q then hi else q

/-- The absolute value of a rational. -/
def absR (q : Rat) : Rat := if q < 0 then -q else q

/-- Seconds as whole nanoseconds, rounded up. -/
def nsOf (t : Rat) : Nat := (t * 1000000000).ceil.toNat

/-- The first time not before `t` that is a multiple of `p` ns. -/
def alignUp (p t : Nat) : Nat := (t + (p - 1)) / p * p

/-! ## CRCs -/

/-- One bit of the CRC-16 of R207. -/
def crc16Bit (c : Nat) (b : Bool) : Nat :=
  let c' := c * 2 % 65536
  if bit c 15 != b then Nat.xor c' 0x1021 else c'

/-- One byte of the CRC-16 of R207, most significant bit first. -/
def crc16Byte (c : Nat) (b : Byte) : Nat :=
  (List.range 8).foldl (fun c k => crc16Bit c (bit b.toNat (7 - k))) c

/-- CRC-16 of R207: polynomial 0x1021, initial value 0xFFFF, no reflection, no final exclusive-OR. -/
def crc16 (d : List Byte) : Nat := d.foldl crc16Byte 0xFFFF

/-- One bit of the reflected CRC-32. -/
def crc32Bit (c : Nat) : Nat := if c % 2 = 1 then Nat.xor (c / 2) 0xEDB88320 else c / 2

/-- One byte of the CRC-32. -/
def crc32Byte (c : Nat) (b : Byte) : Nat :=
  (List.range 8).foldl (fun c _ => crc32Bit c) (Nat.xor c b.toNat)

/-- CRC-32 of R129: polynomial 0x04C1_1DB7 reflected, initial value and final exclusive-OR 0xFFFF_FFFF. -/
def crc32 (d : List Byte) : Nat := Nat.xor (d.foldl crc32Byte 0xFFFFFFFF) 0xFFFFFFFF

/-! ## The Reed–Solomon code of stored words (R428 to R431) -/

/-- Powers of α in GF(2⁴) with x⁴ + x + 1. -/
def gfExp (k : Nat) : Nat :=
  match k % 15 with
  | 0 => 0x1 | 1 => 0x2 | 2 => 0x4 | 3 => 0x8 | 4 => 0x3 | 5 => 0x6 | 6 => 0xC | 7 => 0xB
  | 8 => 0x5 | 9 => 0xA | 10 => 0x7 | 11 => 0xE | 12 => 0xF | 13 => 0xD | _ => 0x9

/-- Discrete logarithm of a non-zero field element. -/
def gfLog (a : Nat) : Nat := ((List.range 15).find? fun k => gfExp k = a % 16).getD 0

/-- Field product. -/
def gfMul (a b : Nat) : Nat := if a % 16 = 0 ∨ b % 16 = 0 then 0 else gfExp (gfLog a + gfLog b)

/-- Field quotient by a non-zero element. -/
def gfDiv (a b : Nat) : Nat := if a % 16 = 0 then 0 else gfExp (gfLog a + 15 - gfLog b)

/-- Nibble `i` of a stored word. -/
def nibble (w i : Nat) : Nat := w / 16 ^ i % 16

/-- Value at `x` of the polynomial with coefficients listed from the highest power down. -/
def gfEval (x : Nat) (cs : List Nat) : Nat := cs.foldl (fun a c => Nat.xor (gfMul a x) c) 0

/-- The ten symbols of lane `l` of an 80-bit codeword, s₀ first (R429). -/
def laneSymbols (w l : Nat) : List Nat := (List.range 10).map fun j => nibble w (2 * j + l)

/-- Remainder of the division by g(x) = x² + 0x6·x + 0x8 of the data symbols s₀..s₇ at x⁹..x² (R428, R429). -/
def rsRemainder (data : List Nat) : Nat × Nat :=
  data.foldl (fun r s =>
    let f := Nat.xor r.1 s
    (Nat.xor r.2 (gfMul f 0x6), gfMul f 0x8)) (0, 0)

/-- The 16 check bits of a 64-bit word: nibbles 16 to 19 (R429). -/
def rsCheck (d : Nat) : Nat :=
  let a := rsRemainder ((laneSymbols d 0).take 8)
  let b := rsRemainder ((laneSymbols d 1).take 8)
  a.1 + 16 * b.1 + 256 * a.2 + 4096 * b.2

/-- The stored 80-bit codeword of a 64-bit word. -/
def rsEncode (d : Nat) : Nat := d % 2 ^ 64 + 2 ^ 64 * rsCheck (d % 2 ^ 64)

/-- What one lane's read finds (R430): the correction (nibble number and pattern), none without error; or uncorrectable. -/
inductive LaneRead | clean | corrected (nib e : Nat) | uncorrectable
  deriving DecidableEq, Repr

/-- One lane's read (R430). -/
def rsLane (w l : Nat) : LaneRead :=
  let s := laneSymbols w l
  let s1 := gfEval (gfExp 1) s
  let s2 := gfEval (gfExp 2) s
  if s1 = 0 ∧ s2 = 0 then .clean
  else if s1 = 0 ∨ s2 = 0 then .uncorrectable
  else
    let p := gfLog (gfDiv s2 s1)
    if p ≤ 9 then .corrected (2 * (9 - p) + l) (gfDiv (gfMul s1 s1) s2) else .uncorrectable

/-- A lane read's effect on the word. -/
def LaneRead.fix (w : Nat) : LaneRead → Nat
  | .corrected n e => Nat.xor w (e * 16 ^ n)
  | _ => w

/-- A read of a stored codeword (R430): its 64 data bits, none when uncorrectable. -/
def rsRead (w : Nat) : Option Nat :=
  let a := rsLane w 0
  let b := rsLane w 1
  if a = .uncorrectable ∨ b = .uncorrectable then none
  else some (b.fix (a.fix w) % 2 ^ 64)

/-! ## Signal words (R140) -/

/-- The value m × 2^(e − 23) of a signal word. -/
def sigRat (w : SigWord) : Rat := (w.m : Rat) * pow2 (w.e - 23)

/-- The 32-bit image of a signal word: mantissa in [23:0], exponent in [29:24] (R140). -/
def sigImage (w : SigWord) : Nat := unsigned 24 w.m + 2 ^ 24 * unsigned 6 w.e

end Sys2Proof.Machine
end

