-- ==== Sys2Proof/Machine/DictKinds.lean ====
section
/-! DEFINITION. The kinds of the object dictionary: data types, access attributes, ranges and table rows (R14). -/

namespace Sys2Proof.Machine

/-- The CiA data types of R14. -/
inductive ObjType | bool | u8 | u16 | u32 | u64 | i16 | real | str | octets | domain
  deriving DecidableEq, Repr

/-- The length of a value of the type in bytes; none for the types of varying length. -/
def ObjType.size : ObjType → Option Nat
  | .bool | .u8 => some 1
  | .u16 | .i16 => some 2
  | .u32 | .real => some 4
  | .u64 => some 8
  | .str | .octets | .domain => none

/-- The access attributes of R14. -/
inductive Access | ro | wo | rw | rws | rwc | const
  deriving DecidableEq, Repr

/-- The Range column of an object table. Bounds of a REAL32 object are REAL32 words (DEDUCED, log entry 13). -/
inductive Rng
  | any
  | nat (lo hi : Nat)
  | natOr (lo hi also : Nat)
  | chan
  | sense
  | sensor
  | deps
  | rates (top : Nat)
  | mask (m : Nat)
  | words (l : List Nat)
  | blocks
  | queueCfg
  | real (lo hi : Nat)
  | realOr0 (lo hi : Nat)
  | realAny
  | realNonzero
  deriving DecidableEq, Repr

/-- One row of an object table: indices `index` to `index + count - 1`, subs `sub`, `sub + stride`, … (`subs` of them). -/
structure ObjRow where
  index : Nat
  count : Nat
  sub : Nat
  subs : Nat
  stride : Nat
  type : ObjType
  access : Access
  role : Role
  dflt : Nat
  range : Rng
  deriving DecidableEq, Repr

/-- The block codes of R419. -/
def blockCode (b : Nat) : Bool := (1 ≤ b ∧ b ≤ 0x0B) ∨ (0x10 ≤ b ∧ b ≤ 0x17)

/-- A raw value lies within a range (R335). -/
def Rng.admits (r : Rng) (v : Nat) : Bool :=
  match r with
  | .any => true
  | .nat lo hi => lo ≤ v ∧ v ≤ hi
  | .natOr lo hi a => (lo ≤ v ∧ v ≤ hi) ∨ v = a
  | .chan => v ≤ 47 ∨ v = 0xFF
  | .sense => v ≤ 47 ∨ (0x80 ≤ v ∧ v ≤ 0x83) ∨ v = 0xFF
  | .sensor => v ≤ 5 ∨ (8 ≤ v ∧ v ≤ 15) ∨ v = 0xFF
  | .deps => (leBytes 4 v).all fun b => b.toNat ≤ 31 ∨ b.toNat = 0xFF
  | .rates t => bits v 7 0 ≤ t ∧ bits v 15 8 ≤ t
  | .mask m => v = Nat.land v m
  | .words l => l.contains v
  | .blocks => blockCode v
  | .queueCfg => 0x10 ≤ bits v 7 0 ∧ bits v 7 0 ≤ 0x17 ∧ v = Nat.land v 0x3F3FFF
  | .real lo hi =>
    match real32 lo, real32 hi, real32 v with
    | some a, some b, some q => decide (a ≤ q ∧ q ≤ b)
    | _, _, _ => false
  | .realOr0 lo hi =>
    match real32 lo, real32 hi, real32 v with
    | some a, some b, some q => decide (q = 0 ∨ (a ≤ q ∧ q ≤ b))
    | _, _, _ => false
  | .realAny => (real32 v).isSome
  | .realNonzero =>
    match real32 v with
    | some q => decide (q ≠ 0)
    | none => false

end Sys2Proof.Machine
end

