-- ==== Sys2Proof/Machine/DictTable.lean ====
section
/-! DEFINITION. The object table of the dictionary, chapter by chapter, from the spec's object tables (R14). -/

namespace Sys2Proof.Machine

/-- Objects of chapter 01 (architecture). -/
def objects01 : List ObjRow := [
  ⟨0x3808, 1, 0x01, 1, 1, .real, .rws, .engineer, 0x3E4CCCCD, .real 0x3DCCCCCD 0x3ECCCCCD⟩,  -- Slack target
  ⟨0x3808, 1, 0x02, 1, 1, .real, .ro, .engineer, 0, .any⟩,  -- VCORE present
  ⟨0x3808, 1, 0x03, 1, 1, .real, .ro, .engineer, 0, .any⟩,  -- Minimum slack, last interval
  ⟨0x3808, 1, 0x04, 1, 1, .real, .ro, .engineer, 0, .any⟩,  -- Minimum slack since reset
  ⟨0x3808, 1, 0x05, 1, 1, .u8, .ro, .engineer, 0, .any⟩,  -- Slack-limiting unit, last interval
  ⟨0x3808, 1, 0x06, 1, 1, .u32, .ro, .engineer, 0, .any⟩,  -- VCORE ceiling events
  ⟨0x3808, 1, 0x07, 1, 1, .u32, .ro, .engineer, 0, .any⟩  -- Emergency raises
  ]

/-- Objects of chapter 02 (pins). The table gives 0x2008:07 no numeric range: the model admits the seven strap balls' bits (DESIGN CHOICE, log entry
33). -/
def objects02 : List ObjRow := [
  ⟨0x2008, 1, 0x01, 1, 1, .u8, .ro, .engineer, 0, .any⟩,  -- Cascade position strap
  ⟨0x2008, 1, 0x02, 1, 1, .u8, .ro, .engineer, 0, .any⟩,  -- Shelf address strap
  ⟨0x2008, 1, 0x03, 1, 1, .bool, .ro, .engineer, 0, .any⟩,  -- Twin-parallel strap
  ⟨0x2008, 1, 0x04, 1, 1, .bool, .ro, .engineer, 0, .any⟩,  -- Recover strap at last reset
  ⟨0x2008, 1, 0x05, 1, 1, .u8, .ro, .engineer, 0, .any⟩,  -- Unstable strap mask
  ⟨0x2008, 1, 0x06, 1, 1, .u64, .ro, .engineer, 0, .any⟩,  -- Hold state
  ⟨0x2008, 1, 0x07, 1, 1, .u8, .rwc, .engineer, 0, .nat 0 127⟩  -- Strap resistor declaration
  ]

/-- Objects of chapter 03 (supplies). -/
def objects03 : List ObjRow := [
  ⟨0x5F10, 1, 0x01, 1, 1, .real, .rwc, .engineer, 0x41200000, .real 0x40E00000 0x41800000⟩,  -- BROWN_WARN setting
  ⟨0x5F10, 1, 0x02, 1, 1, .real, .rwc, .engineer, 0x39AD03DA, .real 0x39AD03DA 0x3DCCCCCD⟩,  -- VAUX hold-up capacitance, effective
  ⟨0x5F10, 1, 0x03, 1, 1, .real, .ro, .engineer, 0, .any⟩,  -- VAUX present
  ⟨0x5F10, 1, 0x04, 1, 1, .real, .ro, .engineer, 0, .any⟩,  -- VDDIO present
  ⟨0x5F10, 1, 0x05, 1, 1, .real, .ro, .engineer, 0, .any⟩,  -- VGD present
  ⟨0x5F10, 1, 0x06, 1, 1, .u32, .ro, .engineer, 0, .any⟩,  -- BROWN_WARN events
  ⟨0x5F10, 1, 0x07, 1, 1, .u32, .ro, .engineer, 0, .any⟩  -- Supply status
  ]

/-- Objects of chapter 04 (timebase). -/
def objects04 : List ObjRow := [
  ⟨0x2100, 1, 0x01, 1, 1, .u8, .rwc, .engineer, 3, .nat 0 4⟩,  -- Reference mode
  ⟨0x2100, 1, 0x02, 1, 1, .real, .rwc, .engineer, 0, .real 0xBA83126F 0x3A83126F⟩,  -- PPS delay compensation
  ⟨0x2100, 1, 0x03, 1, 1, .real, .rwc, .engineer, 0x42C80000, .real 0x41200000 0x447A0000⟩,  -- PPS loop time constant
  ⟨0x2100, 1, 0x04, 1, 1, .real, .rwc, .engineer, 0x41200000, .real 0x3F800000 0x42C80000⟩,  -- 10 MHz loop time constant
  ⟨0x2100, 1, 0x05, 1, 1, .real, .rwc, .engineer, 0x36A7C5AC, .real 0x33D6BF95 0x3727C5AC⟩,  -- Phase slew limit
  ⟨0x2100, 1, 0x06, 1, 1, .real, .rwc, .engineer, 0, .realOr0 0x38D1B717 0x41200000⟩,  -- Time step threshold
  ⟨0x2100, 1, 0x07, 1, 1, .real, .rwc, .engineer, 0x391D4952, .real 0x358637BD 0x3F800000⟩,  -- Holdover time-error limit
  ⟨0x2101, 1, 0x01, 1, 1, .u8, .ro, .engineer, 0, .any⟩,  -- Lock state
  ⟨0x2101, 1, 0x02, 1, 1, .u16, .ro, .engineer, 0, .any⟩,  -- Reference status
  ⟨0x2101, 1, 0x03, 1, 1, .real, .ro, .engineer, 0, .any⟩,  -- Steering word
  ⟨0x2101, 1, 0x04, 1, 1, .real, .ro, .engineer, 0, .any⟩,  -- PPS phase error, last edge
  ⟨0x2101, 1, 0x05, 1, 1, .real, .ro, .engineer, 0, .any⟩,  -- Time in holdover
  ⟨0x2101, 1, 0x06, 1, 1, .real, .ro, .engineer, 0, .any⟩,  -- Estimated time-error bound
  ⟨0x2101, 1, 0x07, 1, 1, .u32, .ro, .engineer, 0, .any⟩,  -- Lock-state changes
  ⟨0x2101, 1, 0x08, 1, 1, .u32, .ro, .engineer, 0, .any⟩,  -- PPS edges discarded
  ⟨0x2102, 1, 0x01, 1, 1, .u64, .ro, .engineer, 0, .any⟩,  -- Time of day
  ⟨0x2102, 1, 0x02, 1, 1, .u64, .wo, .engineer, 0, .any⟩,  -- Time of day at next PPS
  ⟨0x2102, 1, 0x03, 1, 1, .u32, .ro, .engineer, 0, .any⟩,  -- Time steps
  ⟨0x2102, 1, 0x04, 1, 1, .u64, .ro, .engineer, 0, .any⟩,  -- Time of last lock-state change
  ⟨0x2103, 1, 0x01, 1, 1, .real, .ro, .engineer, 0, .any⟩,  -- Cumulative learning time
  ⟨0x2103, 1, 0x02, 1, 1, .real, .ro, .engineer, 0, .any⟩,  -- Learned span, lowest temperature
  ⟨0x2103, 1, 0x03, 1, 1, .real, .ro, .engineer, 0, .any⟩,  -- Learned span, highest temperature
  ⟨0x2103, 1, 0x04, 4, 1, .real, .ro, .engineer, 0, .any⟩,  -- Model coefficients c0 to c3
  ⟨0x2103, 1, 0x08, 1, 1, .real, .ro, .engineer, 0, .any⟩,  -- Ageing rate a
  ⟨0x2103, 1, 0x09, 1, 1, .u8, .ro, .engineer, 0, .any⟩,  -- Model status
  ⟨0x2103, 1, 0x0A, 1, 1, .u32, .wo, .engineer, 0, .words [0x65736572]⟩,  -- Model reset
  ⟨0x2110, 1, 0x01, 16, 1, .u8, .ro, .engineer, 255, .any⟩,  -- Timer owner, timers 0 to 15
  ⟨0x2120, 1, 0x01, 1, 1, .u8, .rwc, .engineer, 0, .nat 0 16⟩,  -- Number of bands
  ⟨0x2120, 1, 0x02, 1, 1, .u8, .rwc, .engineer, 20, .nat 1 255⟩,  -- Harmonic order N
  ⟨0x2120, 1, 0x03, 1, 1, .real, .rwc, .engineer, 0x3851B717, .real 0x37D1B717 0x3A83126F⟩,  -- Regulator tolerance δ_L
  ⟨0x2120, 1, 0x04, 1, 1, .real, .rwc, .engineer, 0x3A03126F, .real 0x3851B717 0x3BA3D70A⟩,  -- Rectifier tolerance δ_R
  ⟨0x2120, 1, 0x20, 8, 1, .real, .rwc, .engineer, 0x3D4CCCCD, .real 0x00000000 0x3E4CCCCD⟩,  -- Permitted deviation, LP0 to LP7
  ⟨0x2121, 1, 0x01, 16, 1, .real, .rwc, .engineer, 0, .real 0x447A0000 0x4DEE6B28⟩,  -- Band low edge, bands 0 to 15
  ⟨0x2122, 1, 0x01, 16, 1, .real, .rwc, .engineer, 0, .real 0x447A0000 0x4DEE6B28⟩,  -- Band high edge, bands 0 to 15
  ⟨0x2124, 1, 0x01, 8, 1, .real, .ro, .engineer, 0, .any⟩,  -- Assigned frequency, LP0 to LP7
  ⟨0x2125, 1, 0x01, 32, 1, .real, .ro, .engineer, 0, .any⟩  -- Assigned frequency, REC00 to REC31
  ]

/-- Objects of chapter 05 (measurement), part 1. -/
def objects05a : List ObjRow := [
  ⟨0x2200, 1, 0x01, 1, 1, .real, .rwc, .engineer, 0x40000000, .real 0x3FF9999A 0x45610000⟩,  -- Rotation interval
  ⟨0x2200, 1, 0x02, 1, 1, .bool, .rwc, .engineer, 1, .nat 0 1⟩,  -- Rotation enable
  ⟨0x2200, 1, 0x03, 1, 1, .real, .rwc, .engineer, 0x3727C5AC, .real 0x360637BD 0x38D1B717⟩,  -- Swap mismatch threshold
  ⟨0x2200, 1, 0x04, 1, 1, .real, .ro, .engineer, 0x40000000, .any⟩,  -- Effective interval
  ⟨0x2200, 1, 0x05, 1, 1, .u8, .ro, .engineer, 4, .any⟩,  -- Healthy spares
  ⟨0x2200, 1, 0x06, 1, 1, .u32, .ro, .engineer, 0, .any⟩,  -- Swaps completed
  ⟨0x2200, 1, 0x07, 1, 1, .u32, .ro, .engineer, 0, .any⟩,  -- Swaps aborted
  ⟨0x2200, 1, 0x08, 1, 1, .u64, .ro, .engineer, 0, .any⟩,  -- Retired modulators
  ⟨0x2200, 1, 0x09, 1, 1, .real, .rwc, .engineer, 0x3A03126F, .real 0x3727C5AC 0x3C23D70A⟩,  -- Pair-check tolerance
  ⟨0x2200, 1, 0x0A, 1, 1, .real, .rwc, .engineer, 0x3DCCCCCD, .real 0x00000000 0x40A00000⟩,  -- Pair-check floor, voltage
  ⟨0x2200, 1, 0x0B, 1, 1, .real, .rwc, .engineer, 0x3F800000, .real 0x00000000 0x42C80000⟩,  -- Pair-check floor, current
  ⟨0x2201, 1, 0x01, 48, 1, .u8, .rwc, .engineer, 0, .nat 0 1⟩,  -- Range, channels 0 to 47
  ⟨0x2202, 1, 0x01, 48, 1, .real, .ro, .engineer, 0, .any⟩,  -- Value at 200 kS/s
  ⟨0x2203, 1, 0x01, 48, 1, .real, .ro, .engineer, 0, .any⟩,  -- Value at 10 kS/s
  ⟨0x2204, 1, 0x01, 48, 1, .real, .ro, .engineer, 0, .any⟩,  -- Value at 1 kS/s
  ⟨0x2205, 1, 0x01, 48, 1, .real, .ro, .engineer, 0, .any⟩,  -- Ball voltage at 1 kS/s
  ⟨0x2206, 1, 0x01, 48, 1, .u16, .ro, .engineer, 0, .any⟩,  -- Channel status
  ⟨0x2207, 1, 0x01, 48, 1, .u8, .rwc, .engineer, 0, .nat 0 1⟩,  -- Quantity unit
  ⟨0x2210, 1, 0x01, 8, 1, .real, .rwc, .engineer, 0x3D23D70A, .real 0x3CA3D70A 0x3DA3D70A⟩,  -- Window half-width, LP0 to LP7
  ⟨0x2211, 1, 0x01, 8, 1, .i16, .ro, .engineer, 0, .any⟩,  -- Window code, last
  ⟨0x2220, 1, 0x01, 32, 1, .real, .rwc, .engineer, 0x3BA3D70A, .real 0x38D1B717 0x3DCCCCCD⟩,  -- IMON gain, PH00 to PH31
  ⟨0x2221, 1, 0x01, 32, 1, .real, .rwc, .engineer, 0x3F4CCCCD, .real 0x00000000 0x3FCCCCCD⟩,  -- IMON zero
  ⟨0x2222, 1, 0x01, 32, 1, .real, .ro, .engineer, 0, .any⟩,  -- Phase current
  ⟨0x2223, 1, 0x01, 4, 1, .u8, .rwc, .engineer, 0, .nat 0 1⟩,  -- IMON SAR mode
  ⟨0x2230, 1, 0x01, 16, 1, .real, .rwc, .engineer, 0xC2480000, .real 0xC2C80000 0x42C80000⟩,  -- BVS scale, BR00 to BR15
  ⟨0x2231, 1, 0x01, 16, 1, .real, .ro, .engineer, 0, .any⟩,  -- Branch output voltage
  ⟨0x2232, 1, 0x01, 4, 1, .real, .ro, .engineer, 0, .any⟩,  -- HKA0 to HKA3 ball voltage
  ⟨0x2240, 1, 0x01, 4, 1, .real, .ro, .engineer, 0, .any⟩,  -- String current at 10 kS/s, ST0 to ST3
  ⟨0x2240, 1, 0x05, 4, 1, .real, .ro, .engineer, 0, .any⟩,  -- String current at 1 kS/s
  ⟨0x2250, 1, 0x01, 6, 1, .real, .ro, .engineer, 0, .any⟩,  -- On-die temperature, sensors 0 to 5
  ⟨0x2251, 1, 0x01, 8, 1, .real, .ro, .engineer, 0, .any⟩,  -- Remote-diode temperature, RD0 to RD7
  ⟨0x3600, 1, 0x01, 1, 1, .domain, .rw, .engineer, 0, .any⟩,  -- Calibration set image
  ⟨0x3600, 1, 0x02, 1, 1, .u8, .ro, .engineer, 0, .any⟩,  -- Set origin
  ⟨0x3600, 1, 0x03, 1, 1, .u32, .wo, .engineer, 0, .words [0x6C616377]⟩,  -- Write calibration set
  ⟨0x3600, 1, 0x04, 1, 1, .u32, .ro, .engineer, 0, .any⟩,  -- Write count
  ⟨0x3600, 1, 0x05, 1, 1, .u64, .ro, .engineer, 0, .any⟩,  -- Time of last write
  ⟨0x3600, 1, 0x06, 1, 1, .bool, .ro, .engineer, 0, .any⟩,  -- Working copy differs from MRAM
  ⟨0x3601, 1, 0x01, 1, 1, .u32, .rwc, .vendor, 0, .any⟩,  -- Reference trim word
  ⟨0x3601, 1, 0x02, 3, 1, .real, .rwc, .vendor, 0, .realAny⟩,  -- q1, q2, q3
  ⟨0x3601, 1, 0x05, 1, 1, .real, .rwc, .vendor, 0, .real 0xBA83126F 0x3A83126F⟩  -- Shunt-range divider correction d
  ]

/-- Objects of chapter 05 (measurement), part 2. -/
def objects05b : List ObjRow := [
  ⟨0x3610, 1, 0x01, 48, 1, .real, .rwc, .engineer, 0, .realNonzero⟩,  -- ext_gain, channels 0 to 47
  ⟨0x3611, 1, 0x01, 48, 1, .real, .rwc, .engineer, 0, .real 0xBDCCCCCD 0x3DCCCCCD⟩,  -- ext_off
  ⟨0x3612, 1, 0x01, 48, 1, .real, .rwc, .engineer, 0, .real 0xBC23D70A 0x3C23D70A⟩,  -- ext_tc
  ⟨0x3613, 1, 0x01, 48, 1, .u8, .rwc, .engineer, 0, .sensor⟩,  -- Tempco sensor
  ⟨0x3614, 1, 0x01, 4, 1, .real, .rwc, .engineer, 0, .realAny⟩,  -- Shunt conductance, ST0 to ST3
  ⟨0x3615, 1, 0x01, 4, 1, .real, .rwc, .engineer, 0, .realAny⟩,  -- Coulomb offset
  ⟨0x3616, 1, 0x01, 16, 1, .real, .rwc, .engineer, 0, .realAny⟩,  -- Sense gain (odd sub) and sense offset (even sub), LP0 to LP7
  ⟨0x3617, 1, 0x01, 16, 1, .real, .rwc, .engineer, 0, .realAny⟩,  -- VLCL gain (odd sub) and VLCL offset (even sub), LP0 to LP7
  ⟨0x3618, 1, 0x01, 8, 1, .real, .rwc, .engineer, 0, .real 0x3F733333 0x3F8CCCCD⟩,  -- Remote-diode ideality
  ⟨0x3619, 1, 0x01, 6, 1, .real, .rwc, .engineer, 0, .real 0xC0A00000 0x40A00000⟩,  -- On-die sensor offset
  ⟨0x3620, 1, 0x01, 1, 1, .u8, .rw, .engineer, 0, .nat 0 47⟩,  -- Capture channel
  ⟨0x3620, 1, 0x02, 1, 1, .real, .rw, .engineer, 0, .realAny⟩,  -- True value of point
  ⟨0x3620, 1, 0x03, 1, 1, .u8, .wo, .engineer, 0, .nat 0 3⟩,  -- Capture command
  ⟨0x3620, 1, 0x04, 1, 1, .real, .rw, .engineer, 0x3F800000, .real 0x3DCCCCCD 0x42700000⟩,  -- Capture time
  ⟨0x3620, 1, 0x05, 1, 1, .u8, .ro, .engineer, 0, .any⟩,  -- Capture state
  ⟨0x3620, 1, 0x06, 1, 1, .real, .ro, .engineer, 0, .any⟩,  -- Ball voltage at A, at B
  ⟨0x3620, 1, 0x07, 1, 1, .real, .ro, .engineer, 0, .any⟩,  -- Ball voltage at A, at B
  ⟨0x3620, 1, 0x08, 1, 1, .real, .ro, .engineer, 0, .any⟩,  -- Computed gain, offset
  ⟨0x3620, 1, 0x09, 1, 1, .real, .ro, .engineer, 0, .any⟩  -- Computed gain, offset
  ]

/-- Objects of chapter 06 (lanes). -/
def objects06 : List ObjRow := [
  ⟨0x2300, 1, 0x01, 1, 1, .u8, .rwc, .engineer, 255, .natOr 0 11 0xFF⟩,  -- Transfer source lane
  ⟨0x2300, 1, 0x02, 1, 1, .u8, .rwc, .engineer, 255, .natOr 0 11 0xFF⟩,  -- Transfer target lane
  ⟨0x2310, 12, 0x01, 1, 1, .bool, .rwc, .engineer, 0, .nat 0 1⟩,  -- Lane enable
  ⟨0x2310, 12, 0x02, 1, 1, .u8, .rwc, .engineer, 1, .nat 1 6⟩,  -- Stage count
  ⟨0x2310, 12, 0x03, 1, 1, .u8, .rwc, .engineer, 0, .nat 0 5⟩,  -- Trigger kind
  ⟨0x2310, 12, 0x04, 1, 1, .u32, .rwc, .engineer, 1, .nat 1 16777216⟩,  -- Trigger period or multiple
  ⟨0x2310, 12, 0x05, 1, 1, .u8, .rwc, .engineer, 0, .nat 0 2⟩,  -- Input source
  ⟨0x2310, 12, 0x06, 1, 1, .u8, .rwc, .engineer, 0, .nat 0 47⟩,  -- Input selector
  ⟨0x2310, 12, 0x07, 1, 1, .real, .rwc, .engineer, 0x3F800000, .realNonzero⟩,  -- Input gain g_in
  ⟨0x2310, 12, 0x08, 1, 1, .u8, .rwc, .engineer, 0, .nat 0 5⟩,  -- Consumer
  ⟨0x2310, 12, 0x09, 1, 1, .bool, .rwc, .engineer, 0, .nat 0 1⟩,  -- Reset states at commit
  ⟨0x231B, 1, 0x0A, 1, 1, .u8, .rwc, .engineer, 255, .natOr 0 10 0xFF⟩,  -- Tracked lane, LN11 only
  ⟨0x2320, 12, 0x01, 6, 1, .u8, .rwc, .engineer, 3, .nat 0 3⟩,  -- Stage type, stages 1 to 6
  ⟨0x2320, 12, 0x07, 1, 1, .u8, .rwc, .engineer, 0, .nat 0 63⟩,  -- Hold-on-limit mask
  ⟨0x2330, 12, 0x01, 6, 8, .real, .rwc, .engineer, 0, .any⟩,  -- Coefficients of stage s
  ⟨0x2330, 12, 0x02, 6, 8, .real, .rwc, .engineer, 0, .any⟩,  -- Coefficients of stage s
  ⟨0x2330, 12, 0x03, 6, 8, .real, .rwc, .engineer, 0, .any⟩,  -- Coefficients of stage s
  ⟨0x2330, 12, 0x04, 6, 8, .real, .rwc, .engineer, 0, .any⟩,  -- Coefficients of stage s
  ⟨0x2330, 12, 0x05, 6, 8, .real, .rwc, .engineer, 0, .any⟩,  -- Coefficients of stage s
  ⟨0x2350, 12, 0x01, 1, 1, .u16, .ro, .engineer, 0, .any⟩,  -- Lane status
  ⟨0x2350, 12, 0x02, 1, 1, .u32, .ro, .engineer, 0, .any⟩,  -- Misses
  ⟨0x2350, 12, 0x03, 1, 1, .u8, .ro, .engineer, 0, .any⟩,  -- Consecutive misses
  ⟨0x2350, 12, 0x04, 1, 1, .u32, .ro, .engineer, 0, .any⟩,  -- Saturations
  ⟨0x2350, 12, 0x05, 1, 1, .real, .ro, .engineer, 0, .any⟩,  -- Last output
  ⟨0x2350, 12, 0x06, 1, 1, .real, .ro, .engineer, 0, .any⟩,  -- Minimum slack since reset
  ⟨0x2350, 12, 0x07, 1, 1, .real, .ro, .engineer, 0, .any⟩,  -- Declared worst-case work W
  ⟨0x2350, 12, 0x08, 1, 1, .u32, .ro, .engineer, 0, .any⟩,  -- Samples tracked
  ⟨0x2360, 12, 0x01, 12, 1, .u32, .ro, .engineer, 0, .any⟩,  -- State words of stage s
  ⟨0x2370, 12, 0x01, 6, 8, .u32, .ro, .engineer, 0, .any⟩,  -- Converted coefficients of stage s
  ⟨0x2370, 12, 0x02, 6, 8, .u32, .ro, .engineer, 0, .any⟩,  -- Converted coefficients of stage s
  ⟨0x2370, 12, 0x03, 6, 8, .u32, .ro, .engineer, 0, .any⟩,  -- Converted coefficients of stage s
  ⟨0x2370, 12, 0x04, 6, 8, .u32, .ro, .engineer, 0, .any⟩,  -- Converted coefficients of stage s
  ⟨0x2370, 12, 0x05, 6, 8, .u32, .ro, .engineer, 0, .any⟩  -- Converted coefficients of stage s
  ]

/-- Objects of chapter 07 (regulator), part 1. -/
def objects07a : List ObjRow := [
  ⟨0x2400, 1, 0x01, 1, 1, .real, .rwc, .engineer, 0x48F42400, .real 0x47C35000 0x49F42400⟩,  -- SYNC_IN nominal frequency
  ⟨0x2400, 1, 0x02, 1, 1, .u8, .rwc, .engineer, 0, .natOr 0 7 0xFF⟩,  -- SYNC_OUT source loop
  ⟨0x2400, 1, 0x03, 1, 1, .real, .ro, .engineer, 0, .any⟩,  -- SYNC_IN measured frequency
  ⟨0x2410, 8, 0x01, 1, 1, .u32, .rwc, .engineer, 0, .any⟩,  -- Phase mask
  ⟨0x2410, 8, 0x02, 1, 1, .real, .rwc, .engineer, 0x48F42400, .real 0x47C35000 0x49F42400⟩,  -- Nominal switching frequency
  ⟨0x2410, 8, 0x03, 1, 1, .real, .rws, .operator, 0, .realAny⟩,  -- Setpoint
  ⟨0x2410, 8, 0x04, 1, 1, .real, .rws, .engineer, 0x447A0000, .real 0x42480000 0x47435000⟩,  -- Slew
  ⟨0x2410, 8, 0x05, 1, 1, .u8, .rwc, .engineer, 0, .nat 0 1⟩,  -- Stop mode
  ⟨0x2410, 8, 0x07, 1, 1, .bool, .rwc, .engineer, 1, .nat 0 1⟩,  -- Rotation enable
  ⟨0x2410, 8, 0x08, 1, 1, .real, .rwc, .engineer, 0x32ABCC77, .real 0x322BCC77 0x3456BF95⟩,  -- Minimum on-time
  ⟨0x2410, 8, 0x09, 1, 1, .real, .rwc, .engineer, 0x332BCC77, .real 0x32ABCC77 0x350637BD⟩,  -- Minimum off-time
  ⟨0x2410, 8, 0x0A, 1, 1, .u8, .rwc, .engineer, 0, .nat 0 1⟩,  -- Sense-loss action
  ⟨0x2410, 8, 0x0B, 1, 1, .real, .rwc, .engineer, 0x3CA3D70A, .real 0x3B83126F 0x3E828F5C⟩,  -- Overshoot threshold
  ⟨0x2410, 8, 0x0C, 1, 1, .real, .rwc, .engineer, 0x3851B717, .real 0x358637BD 0x3C23D70A⟩,  -- Overvoltage time
  ⟨0x2410, 8, 0x0D, 1, 1, .real, .rwc, .engineer, 0, .realOr0 0x00000001 0x44FA0000⟩,  -- Loop current limit
  ⟨0x2410, 8, 0x0E, 1, 1, .real, .rwc, .engineer, 0x42700000, .real 0x3F800000 0x43480000⟩,  -- Phase rating
  ⟨0x2410, 8, 0x0F, 1, 1, .u8, .rwc, .engineer, 0, .natOr 0 47 0xFF⟩,  -- Precision trim channel
  ⟨0x2410, 8, 0x10, 1, 1, .real, .rwc, .engineer, 0x3BA3D70A, .real 0x00000000 0x3CA3D70A⟩,  -- Trim limit
  ⟨0x2410, 8, 0x11, 1, 1, .bool, .rwc, .engineer, 0, .nat 0 1⟩,  -- SYNC_IN enable
  ⟨0x2410, 8, 0x12, 1, 1, .u16, .rwc, .engineer, 0, .any⟩,  -- Phase offset
  ⟨0x2410, 8, 0x13, 1, 1, .bool, .rwc, .engineer, 0, .nat 0 1⟩,  -- Shedding enable
  ⟨0x2410, 8, 0x14, 1, 1, .real, .rwc, .engineer, 0x41200000, .realAny⟩,  -- Shed level I_s
  ⟨0x2410, 8, 0x15, 1, 1, .real, .rwc, .engineer, 0x41700000, .realAny⟩,  -- Add level I_a
  ⟨0x2410, 8, 0x16, 1, 1, .real, .rwc, .engineer, 0x3A83126F, .real 0x38D1B717 0x3F800000⟩,  -- Shed dwell
  ⟨0x2410, 8, 0x17, 1, 1, .u8, .rwc, .engineer, 1, .nat 1 32⟩,  -- Minimum phase count
  ⟨0x2410, 8, 0x18, 1, 1, .bool, .rwc, .engineer, 1, .nat 0 1⟩,  -- Add on step
  ⟨0x2410, 8, 0x19, 1, 1, .bool, .rwc, .engineer, 1, .nat 0 1⟩,  -- Bellows enable
  ⟨0x2410, 8, 0x1A, 1, 1, .u16, .rwc, .engineer, 40, .nat 4 511⟩,  -- Slope threshold S
  ⟨0x2410, 8, 0x1B, 1, 1, .real, .rwc, .engineer, 0x3D4CCCCD, .real 0x00000000 0x3F000000⟩,  -- Bellows duty d_bel
  ⟨0x2410, 8, 0x1C, 1, 1, .u8, .rwc, .engineer, 3, .nat 1 16⟩,  -- Bellows periods B
  ⟨0x2410, 8, 0x1D, 1, 1, .real, .rwc, .engineer, 0x3A83126F, .real 0x00000000 0x3C23D70A⟩,  -- Balance gain k_b
  ⟨0x2410, 8, 0x1E, 1, 1, .real, .rwc, .engineer, 0x3CA3D70A, .real 0x00000000 0x3DCCCCCD⟩,  -- Balance limit b_max
  ⟨0x2410, 8, 0x1F, 1, 1, .bool, .rwc, .engineer, 0, .nat 0 1⟩,  -- Open-phase detection enable
  ⟨0x2410, 8, 0x20, 1, 1, .real, .rwc, .engineer, 0x3F000000, .real 0x3D4CCCCD 0x41A00000⟩,  -- Open-phase rise threshold
  ⟨0x2410, 8, 0x21, 1, 1, .real, .rwc, .engineer, 0x3F000000, .real 0x3DCCCCCD 0x40000000⟩,  -- IMON plausibility tolerance t_p
  ⟨0x2410, 8, 0x22, 1, 1, .real, .rwc, .engineer, 0x40000000, .real 0x00000000 0x42480000⟩,  -- IMON plausibility floor I_f
  ⟨0x2420, 8, 0x01, 1, 1, .u32, .ro, .engineer, 0, .any⟩,  -- Loop status
  ⟨0x2420, 8, 0x02, 1, 1, .real, .ro, .engineer, 0, .any⟩,  -- Output voltage, selected sense
  ⟨0x2420, 8, 0x03, 1, 1, .real, .ro, .engineer, 0, .any⟩,  -- Ramped setpoint V_set
  ⟨0x2420, 8, 0x04, 1, 1, .real, .ro, .engineer, 0, .any⟩  -- Trim correction
  ]

/-- Objects of chapter 07 (regulator), part 2. -/
def objects07b : List ObjRow := [
  ⟨0x2420, 8, 0x05, 1, 1, .real, .ro, .engineer, 0, .any⟩,  -- Loop current I_loop
  ⟨0x2420, 8, 0x06, 1, 1, .real, .ro, .engineer, 0, .any⟩,  -- Current limit in force
  ⟨0x2420, 8, 0x07, 1, 1, .u32, .ro, .engineer, 0, .any⟩,  -- Participating phases
  ⟨0x2420, 8, 0x08, 1, 1, .u32, .ro, .engineer, 0, .any⟩,  -- Shed phases
  ⟨0x2420, 8, 0x09, 1, 1, .u32, .ro, .engineer, 0, .any⟩,  -- Removed phases
  ⟨0x2420, 8, 0x0A, 1, 1, .u32, .ro, .engineer, 0, .any⟩,  -- Truncations
  ⟨0x2420, 8, 0x0B, 1, 1, .u32, .ro, .engineer, 0, .any⟩,  -- Bellows events
  ⟨0x2420, 8, 0x0C, 1, 1, .u32, .ro, .engineer, 0, .any⟩,  -- Sheds completed
  ⟨0x2420, 8, 0x0D, 1, 1, .real, .ro, .engineer, 0, .any⟩,  -- Period P in force
  ⟨0x2440, 1, 0x01, 32, 1, .u8, .ro, .engineer, 0, .any⟩  -- Phase state, PH00 to PH31
  ]

/-- Objects of chapter 08 (shelf), part 1. -/
def objects08a : List ObjRow := [
  ⟨0x2E00, 1, 0x01, 1, 1, .bool, .rwc, .engineer, 0, .nat 0 1⟩,  -- Shelf loop enable
  ⟨0x2E00, 1, 0x02, 1, 1, .real, .rws, .operator, 0xC2560000, .real 0xC2700000 0xC2200000⟩,  -- Bus reference
  ⟨0x2E00, 1, 0x03, 1, 1, .real, .rws, .engineer, 0x3F800000, .real 0x3C23D70A 0x41200000⟩,  -- Reference slew
  ⟨0x2E00, 1, 0x04, 1, 1, .u8, .rwc, .engineer, 0, .nat 0 47⟩,  -- Bus voltage channel, primary and partner
  ⟨0x2E00, 1, 0x05, 1, 1, .u8, .rwc, .engineer, 1, .chan⟩,  -- Bus voltage channel, primary and partner
  ⟨0x2E00, 1, 0x06, 1, 1, .u8, .rwc, .engineer, 0, .nat 0 2⟩,  -- Feed-forward source
  ⟨0x2E00, 1, 0x07, 1, 1, .real, .rwc, .engineer, 0x3F800000, .real 0x00000000 0x3FC00000⟩,  -- Feed-forward gain k_ff
  ⟨0x2E00, 1, 0x08, 1, 1, .u8, .rwc, .engineer, 2, .nat 0 47⟩,  -- Bus current channel, primary and partner
  ⟨0x2E00, 1, 0x09, 1, 1, .u8, .rwc, .engineer, 3, .chan⟩,  -- Bus current channel, primary and partner
  ⟨0x2E00, 1, 0x0A, 1, 1, .real, .rwc, .engineer, 0x41200000, .real 0x3F800000 0x43FA0000⟩,  -- Feed-forward plausibility tolerance
  ⟨0x2E00, 1, 0x0B, 1, 1, .real, .rwc, .engineer, 0xC2680000, .real 0xC2780000 0xC2480000⟩,  -- Bus overvoltage level
  ⟨0x2E00, 1, 0x0C, 1, 1, .real, .rwc, .engineer, 0xC2280000, .real 0xC2480000 0xC2100000⟩,  -- Bus undervoltage level
  ⟨0x2E00, 1, 0x0D, 1, 1, .real, .rws, .operator, 0x42480000, .real 0x00000000 0x44FA0000⟩,  -- Charge-current limit
  ⟨0x2E00, 1, 0x0E, 1, 1, .u16, .rwc, .engineer, 65535, .any⟩,  -- Feed-forward branch mask
  ⟨0x2E00, 1, 0x0F, 1, 1, .bool, .rw, .engineer, 0, .nat 0 1⟩,  -- Shelf off
  ⟨0x2E01, 1, 0x01, 1, 1, .real, .rwc, .engineer, 0x42700000, .real 0x41A00000 0x42F00000⟩,  -- Derate start T_d
  ⟨0x2E01, 1, 0x02, 1, 1, .real, .rwc, .engineer, 0x41700000, .real 0x3F800000 0x42480000⟩,  -- Derate span ΔT_d
  ⟨0x2E01, 1, 0x03, 1, 1, .real, .rwc, .engineer, 0x3F000000, .real 0x00000000 0x3F800000⟩,  -- Derate floor θ_min
  ⟨0x2E01, 1, 0x04, 1, 1, .real, .rwc, .engineer, 0x3D4CCCCD, .real 0x3C23D70A 0x3F000000⟩,  -- Not-tracking margin
  ⟨0x2E01, 1, 0x05, 1, 1, .real, .rwc, .engineer, 0x40000000, .real 0x3DCCCCCD 0x41A00000⟩,  -- Not-tracking floor
  ⟨0x2E02, 1, 0x01, 1, 1, .bool, .rwc, .engineer, 0, .nat 0 1⟩,  -- Cap enable
  ⟨0x2E02, 1, 0x02, 1, 1, .real, .rws, .operator, 0, .real 0x00000000 0x49742400⟩,  -- Site cap
  ⟨0x2E02, 1, 0x03, 1, 1, .u8, .rwc, .engineer, 0, .nat 0 1⟩,  -- Cap source
  ⟨0x2E02, 1, 0x04, 1, 1, .real, .rwc, .engineer, 0x3F4CCCCD, .real 0x3E4CCCCD 0x3F800000⟩,  -- SoC floor
  ⟨0x2E02, 1, 0x05, 1, 1, .real, .rwc, .engineer, 0x3D4CCCCD, .real 0x3C23D70A 0x3E4CCCCD⟩,  -- SoC hysteresis
  ⟨0x2E02, 1, 0x06, 1, 1, .real, .rwc, .engineer, 0x40A00000, .real 0x3F800000 0x44160000⟩,  -- Shed settle time
  ⟨0x2E02, 1, 0x07, 1, 1, .real, .rwc, .engineer, 0x42700000, .real 0x41200000 0x45610000⟩,  -- Restore delay
  ⟨0x2E02, 1, 0x08, 1, 1, .real, .rwc, .engineer, 0x3D4CCCCD, .real 0x3C23D70A 0x3F000000⟩,  -- Override margin
  ⟨0x2E03, 1, 0x01, 1, 1, .real, .rwc, .engineer, 0x41200000, .real 0x3F800000 0x44160000⟩,  -- Shortfall time
  ⟨0x2E03, 1, 0x02, 1, 1, .real, .rwc, .engineer, 0x40A00000, .real 0x3F800000 0x44160000⟩,  -- Restore qualification
  ⟨0x2E03, 1, 0x03, 1, 1, .real, .rwc, .engineer, 0x3C23D70A, .real 0x3A83126F 0x41200000⟩,  -- Voltage stage dwell
  ⟨0x2E04, 1, 0x01, 8, 3, .real, .rwc, .engineer, 0, .real 0x00000000 0x3F800000⟩,  -- Stage k SoC threshold, k = 0 to 7
  ⟨0x2E04, 1, 0x02, 8, 3, .real, .rwc, .engineer, 0xC2200000, .real 0xC2700000 0xC2100000⟩,  -- Stage k voltage threshold
  ⟨0x2E04, 1, 0x03, 8, 3, .u16, .rwc, .engineer, 0, .any⟩,  -- Stage k branch mask
  ⟨0x2E05, 1, 0x01, 16, 1, .u8, .rwc, .engineer, 0, .nat 0 15⟩,  -- Cap priority, BR00 to BR15
  ⟨0x2E10, 1, 0x01, 1, 1, .u8, .rwc, .engineer, 1, .nat 0 2⟩,  -- Port mode
  ⟨0x2E10, 1, 0x02, 1, 1, .u32, .rwc, .engineer, 0, .any⟩,  -- Rectifier enable mask
  ⟨0x2E10, 1, 0x03, 1, 1, .real, .rwc, .engineer, 0xC2540000, .real 0xC2700000 0xC2200000⟩,  -- Fallback setpoint
  ⟨0x2E10, 1, 0x04, 1, 1, .real, .rwc, .engineer, 0x3F800000, .real 0x00000000 0x40A00000⟩,  -- Droop slope
  ⟨0x2E10, 1, 0x05, 1, 1, .real, .rwc, .engineer, 0x469C4000, .real 0x42C80000 0x4AC65D40⟩  -- Re-entry slew
  ]

/-- Objects of chapter 08 (shelf), part 2. -/
def objects08b : List ObjRow := [
  ⟨0x2E20, 1, 0x01, 1, 1, .u32, .ro, .engineer, 0, .any⟩,  -- Shelf status
  ⟨0x2E20, 1, 0x02, 1, 1, .real, .ro, .engineer, 0, .any⟩,  -- Bus voltage in use
  ⟨0x2E20, 1, 0x03, 1, 1, .real, .ro, .engineer, 0, .any⟩,  -- Feed-forward sum F
  ⟨0x2E20, 1, 0x04, 1, 1, .real, .ro, .engineer, 0, .any⟩,  -- LN08 term y8
  ⟨0x2E20, 1, 0x05, 1, 1, .real, .ro, .engineer, 0, .any⟩,  -- Shelf capacity U
  ⟨0x2E20, 1, 0x06, 1, 1, .real, .ro, .engineer, 0, .any⟩,  -- Ceiling C
  ⟨0x2E20, 1, 0x07, 1, 1, .real, .ro, .engineer, 0, .any⟩,  -- Total demand Σ D_i
  ⟨0x2E20, 1, 0x08, 1, 1, .real, .ro, .engineer, 0, .any⟩,  -- Total reported rectifier current
  ⟨0x2E20, 1, 0x09, 1, 1, .real, .ro, .engineer, 0, .any⟩,  -- Rectifier input power P_in
  ⟨0x2E20, 1, 0x0A, 1, 1, .real, .ro, .engineer, 0, .any⟩,  -- Shelf SoC
  ⟨0x2E20, 1, 0x0B, 1, 1, .real, .ro, .engineer, 0xBF800000, .any⟩,  -- Autonomy
  ⟨0x2E20, 1, 0x0C, 1, 1, .u8, .ro, .engineer, 255, .any⟩,  -- Hold-up stage reached
  ⟨0x2E20, 1, 0x0D, 1, 1, .real, .ro, .engineer, 0, .any⟩,  -- Bus reference in force
  ⟨0x2E20, 1, 0x0E, 1, 1, .u16, .ro, .engineer, 0, .any⟩,  -- Frame sequence SEQ
  ⟨0x2E30, 1, 0x01, 32, 1, .u8, .ro, .engineer, 0, .any⟩,  -- Rectifier state
  ⟨0x2E31, 1, 0x01, 32, 1, .real, .ro, .engineer, 0, .any⟩,  -- Reported current
  ⟨0x2E32, 1, 0x01, 32, 1, .real, .ro, .engineer, 0, .any⟩,  -- Demand D_i
  ⟨0x2E33, 1, 0x01, 32, 1, .real, .ro, .engineer, 0, .any⟩,  -- Input power
  ⟨0x2E34, 1, 0x01, 32, 1, .real, .ro, .engineer, 0, .any⟩,  -- Output voltage
  ⟨0x2E35, 1, 0x01, 32, 1, .real, .ro, .engineer, 0, .any⟩,  -- Temperature
  ⟨0x2E36, 1, 0x01, 32, 1, .real, .ro, .engineer, 0, .any⟩,  -- Available current
  ⟨0x2E37, 1, 0x01, 32, 1, .real, .ro, .engineer, 0, .any⟩,  -- Capacity u_i
  ⟨0x2E38, 1, 0x01, 32, 1, .real, .ro, .engineer, 0, .any⟩,  -- Rated power
  ⟨0x2E39, 1, 0x01, 32, 1, .real, .ro, .engineer, 0, .any⟩,  -- Maximum current
  ⟨0x2E3A, 1, 0x01, 32, 1, .real, .rwc, .engineer, 0, .real 0 0x4423C000⟩,  -- Current limit I_lim,i
  ⟨0x2E3B, 1, 0x01, 32, 1, .u32, .ro, .engineer, 0, .any⟩,  -- Invalid or missing replies
  ⟨0x2E40, 1, 0x01, 1, 1, .u32, .ro, .engineer, 0, .any⟩,  -- Frames sent, ports A and B
  ⟨0x2E40, 1, 0x02, 1, 1, .u32, .ro, .engineer, 0, .any⟩,  -- Frames sent, ports A and B
  ⟨0x2E40, 1, 0x03, 1, 1, .u32, .ro, .engineer, 0, .any⟩,  -- Readback failures, ports A and B
  ⟨0x2E40, 1, 0x04, 1, 1, .u32, .ro, .engineer, 0, .any⟩,  -- Readback failures, ports A and B
  ⟨0x2E40, 1, 0x05, 1, 1, .u32, .ro, .engineer, 0, .any⟩,  -- Slow transactions completed
  ⟨0x2E40, 1, 0x06, 1, 1, .u32, .ro, .engineer, 0, .any⟩,  -- Slow timeouts
  ⟨0x2E40, 1, 0x07, 1, 1, .u32, .ro, .engineer, 0, .any⟩,  -- Wrong-port replies
  ⟨0x2E41, 1, 0x01, 1, 1, .u8, .rw, .engineer, 0, .nat 0 31⟩,  -- Slow access: rectifier
  ⟨0x2E41, 1, 0x02, 1, 1, .u8, .rw, .engineer, 0, .nat 0 255⟩,  -- Slow access: register
  ⟨0x2E41, 1, 0x03, 1, 1, .u16, .rw, .engineer, 0, .any⟩,  -- Slow access: value
  ⟨0x2E41, 1, 0x04, 1, 1, .u8, .wo, .engineer, 0, .nat 1 2⟩,  -- Slow access: command
  ⟨0x2E41, 1, 0x05, 1, 1, .u8, .ro, .engineer, 0, .any⟩  -- Slow access: state
  ]

/-- Objects of chapter 09 (distribution), part 1. -/
def objects09a : List ObjRow := [
  ⟨0x2600, 1, 0x01, 1, 1, .u32, .ro, .engineer, 0, .any⟩,  -- Distribution status
  ⟨0x2600, 1, 0x02, 1, 1, .u8, .wo, .engineer, 0, .nat 0 15⟩,  -- Clear FET_SHORT
  ⟨0x2600, 1, 0x03, 1, 1, .bool, .wo, .engineer, 0, .nat 1 1⟩,  -- Software quench
  ⟨0x2600, 1, 0x04, 1, 1, .u8, .wo, .engineer, 0, .nat 1 18⟩,  -- Release quench latch
  ⟨0x2600, 1, 0x05, 1, 1, .u32, .ro, .engineer, 0, .any⟩,  -- Quench latches set
  ⟨0x2610, 16, 0x01, 1, 1, .real, .rwc, .engineer, 0, .realAny⟩,  -- Limit threshold
  ⟨0x2610, 16, 0x02, 1, 1, .real, .rwc, .engineer, 0, .realAny⟩,  -- Breaker threshold
  ⟨0x2610, 16, 0x03, 1, 1, .real, .rwc, .engineer, 0x3C23D70A, .real 0x38D1B717 0x3F800000⟩,  -- Fault time
  ⟨0x2610, 16, 0x04, 1, 1, .real, .rwc, .engineer, 0x37D1B717, .real 0x3727C5AC 0x38D1B717⟩,  -- Gate current I_G
  ⟨0x2610, 16, 0x05, 1, 1, .real, .rwc, .engineer, 0x3F800000, .real 0x3DCCCCCD 0x41200000⟩,  -- Inrush-done level
  ⟨0x2610, 16, 0x06, 1, 1, .real, .rwc, .engineer, 0x3C23D70A, .real 0x3A83126F 0x3F800000⟩,  -- Settle time
  ⟨0x2610, 16, 0x07, 1, 1, .real, .rwc, .engineer, 0x3E4CCCCD, .real 0x3A83126F 0x41200000⟩,  -- Inrush time limit
  ⟨0x2610, 16, 0x08, 1, 1, .real, .rwc, .engineer, 0, .realOr0 0x3A83126F 0x447A0000⟩,  -- Inrush energy limit
  ⟨0x2610, 16, 0x09, 1, 1, .u8, .rwc, .engineer, 0, .nat 0 15⟩,  -- Retry count
  ⟨0x2610, 16, 0x0A, 1, 1, .real, .rwc, .engineer, 0x3F800000, .real 0x3DCCCCCD 0x44160000⟩,  -- Retry interval
  ⟨0x2610, 16, 0x0B, 1, 1, .real, .rwc, .engineer, 0x3DCCCCCD, .real 0x3A83126F 0x42700000⟩,  -- Minimum off time
  ⟨0x2610, 16, 0x0C, 1, 1, .u8, .rwc, .engineer, 255, .natOr 0 23 0xFF⟩,  -- Presence GPIO
  ⟨0x2610, 16, 0x0D, 1, 1, .bool, .rwc, .engineer, 0, .nat 0 1⟩,  -- Presence active level
  ⟨0x2610, 16, 0x0E, 1, 1, .real, .rwc, .engineer, 0x3DCCCCCD, .real 0x3A83126F 0x41200000⟩,  -- Insertion debounce
  ⟨0x2610, 16, 0x0F, 1, 1, .u8, .rwc, .engineer, 255, .natOr 0 23 0xFF⟩,  -- Enable GPIO
  ⟨0x2610, 16, 0x10, 1, 1, .bool, .rwc, .engineer, 1, .nat 0 1⟩,  -- Enable active level
  ⟨0x2610, 16, 0x11, 1, 1, .real, .rwc, .engineer, 0x41200000, .real 0x3F800000 0x42200000⟩,  -- Short voltage level
  ⟨0x2610, 16, 0x12, 1, 1, .real, .rwc, .engineer, 0x3F000000, .real 0x3D4CCCCD 0x41A00000⟩,  -- Short current level
  ⟨0x2610, 16, 0x13, 1, 1, .real, .rwc, .engineer, 0x40000000, .real 0x3DCCCCCD 0x44160000⟩,  -- Discharge allowance
  ⟨0x2610, 16, 0x14, 1, 1, .u8, .rwc, .engineer, 0, .mask 0xF3⟩,  -- Upstream mask
  ⟨0x2610, 16, 0x15, 1, 1, .u8, .rwc, .engineer, 0, .nat 0 47⟩,  -- Current channel
  ⟨0x2620, 16, 0x01, 1, 1, .u8, .ro, .engineer, 0, .any⟩,  -- Channel state
  ⟨0x2620, 16, 0x02, 1, 1, .u8, .ro, .engineer, 0, .any⟩,  -- Retries used
  ⟨0x2620, 16, 0x03, 1, 1, .u32, .ro, .engineer, 0, .any⟩,  -- Trips
  ⟨0x2620, 16, 0x04, 1, 1, .u16, .ro, .engineer, 0, .any⟩,  -- Last trip cause
  ⟨0x2620, 16, 0x05, 1, 1, .real, .ro, .engineer, 0, .any⟩,  -- Last inrush energy
  ⟨0x2620, 16, 0x06, 1, 1, .real, .ro, .engineer, 0, .any⟩,  -- Last inrush duration
  ⟨0x2620, 16, 0x07, 1, 1, .real, .ro, .engineer, 0, .any⟩,  -- V_DS
  ⟨0x2620, 16, 0x08, 1, 1, .real, .ro, .engineer, 0, .any⟩,  -- Fault timer elapsed
  ⟨0x2630, 2, 0x01, 1, 1, .u8, .rwc, .engineer, 0, .nat 0 1⟩,  -- Preferred feed
  ⟨0x2630, 2, 0x02, 1, 1, .real, .rwc, .engineer, 0xC2680000, .real 0xC2780000 0xC2200000⟩,  -- Window limit, more negative
  ⟨0x2630, 2, 0x03, 1, 1, .real, .rwc, .engineer, 0xC2280000, .real 0xC2680000 0xC2100000⟩,  -- Window limit, less negative
  ⟨0x2630, 2, 0x04, 1, 1, .u8, .rwc, .engineer, 2, .nat 1 200⟩,  -- Loss confirm count
  ⟨0x2630, 2, 0x05, 1, 1, .real, .rwc, .engineer, 0x3851B717, .real 0x360637BD 0x3DCCCCCD⟩,  -- Dead time
  ⟨0x2630, 2, 0x06, 1, 1, .u8, .rwc, .engineer, 1, .nat 0 1⟩  -- Revert mode
  ]

/-- Objects of chapter 09 (distribution), part 2. -/
def objects09b : List ObjRow := [
  ⟨0x2630, 2, 0x07, 1, 1, .real, .rwc, .engineer, 0x41200000, .real 0x3F800000 0x45610000⟩,  -- Revert time
  ⟨0x2630, 2, 0x08, 1, 1, .real, .rwc, .engineer, 0x38D1B717, .real 0x3727C5AC 0x38D1B717⟩,  -- Gate current
  ⟨0x2630, 2, 0x09, 1, 1, .u8, .rwc, .engineer, 255, .sense⟩,  -- Output sense channel
  ⟨0x2630, 2, 0x0A, 1, 1, .u8, .rwc, .engineer, 0, .nat 0 47⟩,  -- Voltage channel, feed A and feed B
  ⟨0x2630, 2, 0x0B, 1, 1, .u8, .rwc, .engineer, 0, .nat 0 47⟩,  -- Voltage channel, feed A and feed B
  ⟨0x2632, 2, 0x01, 1, 1, .u8, .ro, .engineer, 255, .any⟩,  -- Selected feed
  ⟨0x2632, 2, 0x02, 1, 1, .u8, .ro, .engineer, 0, .any⟩,  -- Qualified feeds
  ⟨0x2632, 2, 0x03, 1, 1, .u32, .ro, .engineer, 0, .any⟩,  -- Transfers
  ⟨0x2632, 2, 0x04, 1, 1, .u64, .ro, .engineer, 0, .any⟩,  -- Time of last transfer
  ⟨0x2640, 1, 0x01, 4, 1, .u8, .ro, .engineer, 0, .any⟩,  -- String channel state, ST0 to ST3
  ⟨0x2640, 1, 0x05, 4, 1, .real, .rwc, .engineer, 0x37D1B717, .real 0x3727C5AC 0x38D1B717⟩,  -- String gate current
  ⟨0x2650, 1, 0x01, 18, 1, .u64, .rwc, .engineer, 0, .mask 0x1FFFFFFFFFF⟩,  -- Quench target map, sources 1 to 18
  ⟨0x2651, 1, 0x01, 18, 1, .real, .rwc, .engineer, 0, .realOr0 0x3A83126F 0x45610000⟩  -- Quench release time
  ]

/-- Objects of chapter 10 (battery). -/
def objects10 : List ObjRow := [
  ⟨0x2800, 1, 0x01, 1, 1, .real, .rwc, .engineer, 0x3F800000, .real 0x3DCCCCCD 0x42480000⟩,  -- Idle current
  ⟨0x2800, 1, 0x02, 1, 1, .real, .rwc, .engineer, 0x40000000, .real 0x3DCCCCCD 0x42700000⟩,  -- Empty confirm time
  ⟨0x2800, 1, 0x03, 1, 1, .real, .rwc, .engineer, 0x3F800000, .real 0x3C23D70A 0x44160000⟩,  -- Cycle abandon limit
  ⟨0x2800, 1, 0x04, 1, 1, .real, .const, .engineer, 0x3D4CCCCD, .any⟩,  -- Capacity change limit per cycle
  ⟨0x2800, 1, 0x05, 1, 1, .u8, .wo, .engineer, 0, .nat 0 3⟩,  -- Clear string latch
  ⟨0x2800, 1, 0x06, 1, 1, .u32, .ro, .engineer, 0, .any⟩,  -- Learned-data writes
  ⟨0x2800, 1, 0x07, 1, 1, .u32, .ro, .engineer, 0, .any⟩,  -- Learned-data sequence in force
  ⟨0x2810, 4, 0x01, 1, 1, .bool, .rwc, .engineer, 0, .nat 0 1⟩,  -- String enable
  ⟨0x2810, 4, 0x02, 1, 1, .real, .rwc, .engineer, 0x48AFC800, .real 0x45610000 0x4C095440⟩,  -- Rated capacity
  ⟨0x2810, 4, 0x03, 1, 1, .real, .rwc, .engineer, 0xC2300000, .real 0xC2500000 0xC2100000⟩,  -- Empty threshold V_th
  ⟨0x2810, 4, 0x04, 1, 1, .real, .rwc, .engineer, 0x3CA3D70A, .real 0x00000000 0x3F000000⟩,  -- Compensation resistance R_comp
  ⟨0x2810, 4, 0x05, 1, 1, .real, .rwc, .engineer, 0xC2560000, .real 0xC2700000 0xC2200000⟩,  -- Float voltage
  ⟨0x2810, 4, 0x06, 1, 1, .real, .rwc, .engineer, 0x3E99999A, .real 0x3D4CCCCD 0x40000000⟩,  -- Float band
  ⟨0x2810, 4, 0x07, 1, 1, .real, .rwc, .engineer, 0x40000000, .real 0x3C23D70A 0x42C80000⟩,  -- Taper current
  ⟨0x2810, 4, 0x08, 1, 1, .real, .rwc, .engineer, 0x44160000, .real 0x41200000 0x47A8C000⟩,  -- Taper time
  ⟨0x2810, 4, 0x09, 1, 1, .real, .rwc, .engineer, 0xC2220000, .real 0xC2400000 0xC2100000⟩,  -- LVD level
  ⟨0x2810, 4, 0x0A, 1, 1, .real, .rwc, .engineer, 0x3F800000, .real 0x3C23D70A 0x42700000⟩,  -- LVD dwell
  ⟨0x2810, 4, 0x0B, 1, 1, .real, .rwc, .engineer, 0xC2480000, .real 0xC2700000 0xC2300000⟩,  -- Reconnect level
  ⟨0x2810, 4, 0x0C, 1, 1, .real, .rwc, .engineer, 0x42700000, .real 0x3F800000 0x45610000⟩,  -- Reconnect delay
  ⟨0x2810, 4, 0x0D, 1, 1, .real, .rwc, .engineer, 0x40000000, .real 0x3DCCCCCD 0x41200000⟩,  -- Reconnect match
  ⟨0x2810, 4, 0x0E, 1, 1, .bool, .rwc, .engineer, 1, .nat 0 1⟩,  -- LVD enable
  ⟨0x2810, 4, 0x0F, 1, 1, .u32, .wo, .engineer, 0, .words [0x65736572]⟩,  -- Capacity reset
  ⟨0x2810, 4, 0x10, 1, 1, .u8, .rwc, .engineer, 0, .nat 0 47⟩,  -- Voltage channel
  ⟨0x2820, 4, 0x01, 1, 1, .u16, .ro, .engineer, 0, .any⟩,  -- String status
  ⟨0x2820, 4, 0x02, 1, 1, .real, .ro, .engineer, 0, .any⟩,  -- Charge Q_s
  ⟨0x2820, 4, 0x03, 1, 1, .real, .ro, .engineer, 0, .any⟩,  -- State of charge
  ⟨0x2820, 4, 0x04, 1, 1, .real, .ro, .engineer, 0, .any⟩,  -- Learned capacity C_s
  ⟨0x2820, 4, 0x05, 1, 1, .real, .ro, .engineer, 0, .any⟩,  -- String voltage V_s
  ⟨0x2820, 4, 0x06, 1, 1, .real, .ro, .engineer, 0, .any⟩,  -- Empty threshold in force V_end
  ⟨0x2820, 4, 0x07, 1, 1, .real, .ro, .engineer, 0, .any⟩,  -- Last measured capacity C_meas
  ⟨0x2820, 4, 0x08, 1, 1, .u32, .ro, .engineer, 0, .any⟩,  -- Learning cycles completed
  ⟨0x2820, 4, 0x09, 1, 1, .u64, .ro, .engineer, 0, .any⟩,  -- Time of last full anchor
  ⟨0x2820, 4, 0x0A, 1, 1, .u64, .ro, .engineer, 0, .any⟩,  -- Time of last empty anchor
  ⟨0x2820, 4, 0x0B, 1, 1, .real, .ro, .engineer, 0, .any⟩,  -- Discharge throughput
  ⟨0x2820, 4, 0x0C, 1, 1, .real, .ro, .engineer, 0, .any⟩,  -- Uncounted time since last anchor
  ⟨0x2820, 4, 0x0D, 1, 1, .u32, .ro, .engineer, 0, .any⟩  -- LVD openings
  ]

/-- Objects of chapter 11 (sequencer). -/
def objects11 : List ObjRow := [
  ⟨0x2A00, 1, 0x01, 1, 1, .bool, .rw, .operator, 0, .nat 0 1⟩,  -- System on
  ⟨0x2A00, 1, 0x02, 1, 1, .bool, .rws, .engineer, 0, .nat 0 1⟩,  -- Auto start
  ⟨0x2A00, 1, 0x03, 1, 1, .u8, .ro, .engineer, 0, .any⟩,  -- Sequencer state
  ⟨0x2A00, 1, 0x04, 1, 1, .u32, .ro, .engineer, 0, .any⟩,  -- Privileged failures
  ⟨0x2A00, 1, 0x05, 1, 1, .u32, .rwc, .engineer, 0, .any⟩,  -- Input-loss mask
  ⟨0x2A00, 1, 0x06, 1, 1, .real, .rwc, .engineer, 0, .real 0x00000000 0x44160000⟩,  -- Input-loss delay
  ⟨0x2A00, 1, 0x07, 1, 1, .u8, .ro, .engineer, 0, .any⟩,  -- System-reset reactions
  ⟨0x2A01, 1, 0x01, 8, 1, .bool, .rw, .operator, 1, .nat 0 1⟩,  -- Group command, groups 0 to 7
  ⟨0x2A01, 1, 0x09, 1, 1, .u8, .ro, .engineer, 0, .any⟩,  -- Groups shut down
  ⟨0x2A02, 1, 0x01, 8, 1, .u32, .rwc, .engineer, 0, .any⟩,  -- PG map, PG0 to PG7
  ⟨0x2A02, 1, 0x09, 1, 1, .u8, .ro, .engineer, 0, .any⟩,  -- PG pin levels
  ⟨0x2A10, 32, 0x01, 1, 1, .u8, .rwc, .engineer, 0, .nat 0 5⟩,  -- Rail kind
  ⟨0x2A10, 32, 0x02, 1, 1, .u8, .rwc, .engineer, 0, .nat 0 31⟩,  -- Instance
  ⟨0x2A10, 32, 0x03, 1, 1, .u32, .rwc, .engineer, 4294967295, .deps⟩,  -- Dependencies
  ⟨0x2A10, 32, 0x04, 1, 1, .real, .rwc, .engineer, 0, .real 0x00000000 0x42700000⟩,  -- Start delay
  ⟨0x2A10, 32, 0x05, 1, 1, .real, .rwc, .engineer, 0x3C23D70A, .real 0x00000000 0x41200000⟩,  -- PG delay
  ⟨0x2A10, 32, 0x06, 1, 1, .real, .rwc, .engineer, 0x3F000000, .real 0x3A83126F 0x44160000⟩,  -- Start timeout
  ⟨0x2A10, 32, 0x07, 1, 1, .real, .rwc, .engineer, 0x3A83126F, .real 0x37D1B717 0x41200000⟩,  -- Fault time
  ⟨0x2A10, 32, 0x08, 1, 1, .real, .rwc, .engineer, 0x3D4CCCCD, .real 0x3BA3D70A 0x3E800000⟩,  -- PG window, loop
  ⟨0x2A10, 32, 0x09, 1, 1, .u8, .rwc, .engineer, 0, .nat 0 1⟩,  -- PG mode
  ⟨0x2A10, 32, 0x0A, 1, 1, .u8, .rwc, .engineer, 1, .nat 0 3⟩,  -- Fault reaction
  ⟨0x2A10, 32, 0x0B, 1, 1, .u8, .rwc, .engineer, 0, .nat 0 15⟩,  -- Retry count
  ⟨0x2A10, 32, 0x0C, 1, 1, .real, .rwc, .engineer, 0x3F800000, .real 0x3DCCCCCD 0x44160000⟩,  -- Retry interval
  ⟨0x2A10, 32, 0x0D, 1, 1, .u8, .rwc, .engineer, 255, .natOr 0 7 0xFF⟩,  -- Group
  ⟨0x2A10, 32, 0x0E, 1, 1, .bool, .rwc, .engineer, 0, .nat 0 1⟩,  -- Privileged
  ⟨0x2A10, 32, 0x0F, 1, 1, .real, .rwc, .engineer, 0x3DCCCCCD, .real 0x3A83126F 0x42700000⟩,  -- Minimum off time
  ⟨0x2A10, 32, 0x10, 1, 1, .real, .rwc, .engineer, 0x3DCCCCCD, .real 0x3C23D70A 0x3F666666⟩,  -- Discharge level, loop
  ⟨0x2A10, 32, 0x11, 1, 1, .real, .rwc, .engineer, 0x3F800000, .real 0x3A83126F 0x42700000⟩,  -- Discharge timeout
  ⟨0x2A10, 32, 0x12, 1, 1, .real, .rwc, .engineer, 0, .real 0x00000000 0x42700000⟩,  -- Off delay
  ⟨0x2A10, 32, 0x13, 1, 1, .u8, .rwc, .engineer, 255, .natOr 0 23 0xFF⟩,  -- PG feedback GPIO
  ⟨0x2A10, 32, 0x14, 1, 1, .bool, .rwc, .engineer, 1, .nat 0 1⟩,  -- Active level, GPIO
  ⟨0x2A10, 32, 0x15, 1, 1, .bool, .rw, .operator, 1, .nat 0 1⟩,  -- Rail command
  ⟨0x2A30, 1, 0x01, 32, 1, .u8, .ro, .engineer, 255, .any⟩,  -- Start position, rails 0 to 31
  ⟨0x2A40, 32, 0x01, 1, 1, .u8, .ro, .engineer, 0, .any⟩,  -- Rail state
  ⟨0x2A40, 32, 0x02, 1, 1, .u16, .ro, .engineer, 0, .any⟩,  -- Rail status
  ⟨0x2A40, 32, 0x03, 1, 1, .u8, .ro, .engineer, 0, .any⟩,  -- Retries used
  ⟨0x2A40, 32, 0x04, 1, 1, .u32, .ro, .engineer, 0, .any⟩,  -- Rail faults
  ⟨0x2A40, 32, 0x05, 1, 1, .u16, .ro, .engineer, 0, .any⟩,  -- Last fault code
  ⟨0x2A40, 32, 0x06, 1, 1, .u64, .ro, .engineer, 0, .any⟩  -- Time of last GOOD
  ]

/-- Objects of chapter 12 (thermal). -/
def objects12 : List ObjRow := [
  ⟨0x2C00, 1, 0x01, 1, 1, .u32, .ro, .engineer, 0, .any⟩,  -- Thermal status
  ⟨0x2C00, 1, 0x02, 1, 1, .u32, .ro, .engineer, 0, .any⟩,  -- Thermal shutdowns
  ⟨0x2C00, 1, 0x03, 1, 1, .real, .ro, .engineer, 0, .any⟩,  -- Thermal cap in force
  ⟨0x2C18, 8, 0x01, 1, 1, .real, .rwc, .engineer, 0, .real 0xC2200000 0x43160000⟩,  -- Warning level, hysteresis
  ⟨0x2C10, 6, 0x01, 1, 1, .real, .rwc, .engineer, 0, .real 0xC2200000 0x43160000⟩,  -- Warning level, hysteresis
  ⟨0x2C18, 8, 0x02, 1, 1, .real, .rwc, .engineer, 0, .real 0x3F000000 0x41F00000⟩,  -- Warning level, hysteresis
  ⟨0x2C10, 6, 0x02, 1, 1, .real, .rwc, .engineer, 0, .real 0x3F000000 0x41F00000⟩,  -- Warning level, hysteresis
  ⟨0x2C18, 8, 0x03, 1, 1, .real, .rwc, .engineer, 0, .real 0xC2200000 0x43160000⟩,  -- Throttle level, hysteresis
  ⟨0x2C10, 6, 0x03, 1, 1, .real, .rwc, .engineer, 0, .real 0xC2200000 0x43160000⟩,  -- Throttle level, hysteresis
  ⟨0x2C18, 8, 0x04, 1, 1, .real, .rwc, .engineer, 0, .real 0x3F000000 0x41F00000⟩,  -- Throttle level, hysteresis
  ⟨0x2C10, 6, 0x04, 1, 1, .real, .rwc, .engineer, 0, .real 0x3F000000 0x41F00000⟩,  -- Throttle level, hysteresis
  ⟨0x2C18, 8, 0x05, 1, 1, .real, .rwc, .engineer, 0, .real 0xC2200000 0x43160000⟩,  -- Shutdown level, hysteresis
  ⟨0x2C10, 6, 0x05, 1, 1, .real, .rwc, .engineer, 0, .real 0xC2200000 0x43160000⟩,  -- Shutdown level, hysteresis
  ⟨0x2C18, 8, 0x06, 1, 1, .real, .rwc, .engineer, 0, .real 0x3F000000 0x41F00000⟩,  -- Shutdown level, hysteresis
  ⟨0x2C10, 6, 0x06, 1, 1, .real, .rwc, .engineer, 0, .real 0x3F000000 0x41F00000⟩,  -- Shutdown level, hysteresis
  ⟨0x2C18, 8, 0x07, 1, 1, .u8, .rwc, .engineer, 0, .nat 0 7⟩,  -- Threshold enable
  ⟨0x2C10, 6, 0x07, 1, 1, .u8, .rwc, .engineer, 0, .nat 0 7⟩,  -- Threshold enable
  ⟨0x2C18, 8, 0x08, 1, 1, .bool, .rwc, .engineer, 1, .nat 0 1⟩,  -- Fail-safe throttle
  ⟨0x2C10, 6, 0x08, 1, 1, .bool, .rwc, .engineer, 1, .nat 0 1⟩,  -- Fail-safe throttle
  ⟨0x2C18, 8, 0x09, 1, 1, .bool, .rwc, .engineer, 0, .nat 0 1⟩,  -- Sensor enable
  ⟨0x2C10, 6, 0x09, 1, 1, .bool, .rwc, .engineer, 0, .nat 0 1⟩,  -- Sensor enable
  ⟨0x2C20, 1, 0x01, 16, 1, .u16, .ro, .engineer, 0, .any⟩,  -- Sensor status, sensors 0 to 15
  ⟨0x2C40, 8, 0x01, 1, 1, .u16, .rwc, .engineer, 0, .any⟩,  -- Sensor mask
  ⟨0x2C40, 8, 0x02, 1, 1, .u8, .rwc, .engineer, 0, .nat 0 3⟩,  -- Target kind
  ⟨0x2C40, 8, 0x03, 1, 1, .u8, .rwc, .engineer, 0, .nat 0 7⟩,  -- Target loop
  ⟨0x2C40, 8, 0x04, 1, 1, .u32, .rwc, .engineer, 0, .any⟩,  -- Rectifier mask
  ⟨0x2C40, 8, 0x05, 1, 1, .real, .rwc, .engineer, 0x47FA0000, .real 0x447A0000 0x49742400⟩,  -- Cap base
  ⟨0x2C40, 8, 0x06, 1, 1, .real, .rwc, .engineer, 0x3DCCCCCD, .real 0x3C23D70A 0x3F000000⟩,  -- Step
  ⟨0x2C40, 8, 0x07, 1, 1, .real, .rwc, .engineer, 0x3F000000, .real 0x00000000 0x3F800000⟩,  -- Floor
  ⟨0x2C40, 8, 0x08, 1, 1, .real, .rwc, .engineer, 0x3F800000, .real 0x3C23D70A 0x44160000⟩,  -- Step interval
  ⟨0x2C40, 8, 0x09, 1, 1, .real, .rwc, .engineer, 0x41F00000, .real 0x3F800000 0x45610000⟩,  -- Restore dwell
  ⟨0x2C50, 1, 0x01, 8, 1, .real, .ro, .engineer, 0x3F800000, .any⟩,  -- Throttle factor f, channels 0 to 7
  ⟨0x2C51, 1, 0x01, 32, 1, .real, .ro, .engineer, 0x3F800000, .any⟩  -- τ_i, REC00 to REC31
  ]

/-- Objects of chapter 13 (engines). -/
def objects13 : List ObjRow := [
  ⟨0x3800, 1, 0x01, 1, 1, .real, .rwc, .engineer, 0x3DCCCCCD, .real 0x3C23D70A 0x3F800000⟩,  -- System watchdog period
  ⟨0x3800, 1, 0x02, 1, 1, .u32, .ro, .engineer, 0, .any⟩,  -- System watchdog expiries
  ⟨0x3800, 1, 0x03, 1, 1, .u32, .ro, .engineer, 0, .any⟩,  -- Orphan acknowledgements
  ⟨0x3800, 1, 0x04, 1, 1, .u8, .ro, .engineer, 0, .any⟩,  -- Messaging mode
  ⟨0x3810, 8, 0x01, 1, 1, .u8, .ro, .engineer, 0, .any⟩,  -- Engine state
  ⟨0x3810, 8, 0x02, 1, 1, .u8, .ro, .engineer, 0, .any⟩,  -- Epoch
  ⟨0x3810, 8, 0x03, 1, 1, .real, .rwc, .engineer, 0x3C23D70A, .real 0x3A83126F 0x3F800000⟩,  -- Watchdog period
  ⟨0x3810, 8, 0x04, 1, 1, .u32, .ro, .engineer, 0, .any⟩,  -- Watchdog expiries
  ⟨0x3810, 8, 0x05, 1, 1, .u8, .ro, .engineer, 0, .any⟩,  -- Engine running the task set
  ⟨0x3810, 8, 0x06, 1, 1, .real, .ro, .engineer, 0, .any⟩,  -- Declared load
  ⟨0x3810, 8, 0x07, 1, 1, .real, .ro, .engineer, 0, .any⟩,  -- Minimum slack since reset
  ⟨0x3810, 8, 0x08, 1, 1, .u8, .ro, .engineer, 0, .any⟩,  -- Last self-test result
  ⟨0x3820, 1, 0x01, 32, 1, .u32, .rwc, .engineer, 0, .queueCfg⟩,  -- Queue configuration, Q00 to Q31
  ⟨0x3821, 1, 0x01, 64, 1, .u32, .ro, .engineer, 0, .any⟩,  -- Posts, Q00 to Q63
  ⟨0x3822, 1, 0x01, 64, 1, .u32, .ro, .engineer, 0, .any⟩,  -- Posts refused full
  ⟨0x3830, 1, 0x01, 64, 1, .u8, .ro, .engineer, 0, .any⟩,  -- Lock owner, locks 0 to 63
  ⟨0x3831, 1, 0x01, 1, 1, .u32, .ro, .engineer, 0, .any⟩  -- Foreign lock releases
  ]

/-- Objects of chapter 14 (interfaces), part 1. -/
def objects14a : List ObjRow := [
  ⟨0x2010, 1, 0x01, 1, 1, .u8, .rw, .observer, 0, .nat 0 3⟩,  -- Role requested
  ⟨0x2010, 1, 0x02, 1, 1, .octets, .ro, .engineer, 0, .any⟩,  -- Challenge
  ⟨0x2010, 1, 0x03, 1, 1, .octets, .wo, .observer, 0, .any⟩,  -- Response
  ⟨0x2010, 1, 0x04, 1, 1, .u8, .ro, .engineer, 0, .any⟩,  -- Role in force
  ⟨0x2010, 1, 0x05, 1, 1, .real, .rws, .engineer, 0x43960000, .real 0x41200000 0x45610000⟩,  -- Session idle timeout
  ⟨0x2010, 1, 0x06, 1, 1, .u32, .ro, .engineer, 0, .any⟩,  -- Failed responses
  ⟨0x2010, 1, 0x07, 1, 1, .u8, .ro, .engineer, 0, .any⟩,  -- Session number
  ⟨0x2020, 1, 0x01, 1, 1, .u8, .rws, .engineer, 0, .nat 1 127⟩,  -- Node-ID, port A
  ⟨0x2020, 1, 0x02, 1, 1, .u8, .rwc, .engineer, 1, .nat 0 1⟩,  -- Port B mode
  ⟨0x2020, 1, 0x03, 1, 1, .u16, .rwc, .engineer, 513, .rates 3⟩,  -- Arbitration rate, A and B
  ⟨0x2020, 1, 0x04, 1, 1, .u16, .rwc, .engineer, 257, .rates 4⟩,  -- Data rate, A and B
  ⟨0x2020, 1, 0x05, 1, 1, .u8, .rws, .engineer, 0, .nat 1 127⟩,  -- Node-ID, port B
  ⟨0x2020, 1, 0x06, 1, 1, .u8, .rws, .engineer, 0, .nat 0 3⟩,  -- Auto-operational
  ⟨0x2020, 1, 0x07, 1, 1, .u8, .rwc, .engineer, 1, .nat 1 2⟩,  -- RPDO role
  ⟨0x2020, 1, 0x08, 1, 1, .u8, .rwc, .engineer, 3, .nat 0 3⟩,  -- Port enable
  ⟨0x2030, 1, 0x01, 1, 1, .u32, .ro, .engineer, 0, .any⟩,  -- SPI CRC errors
  ⟨0x2030, 1, 0x02, 1, 1, .u32, .ro, .engineer, 0, .any⟩,  -- SPI frames
  ⟨0x2040, 1, 0x01, 1, 1, .u8, .rwc, .engineer, 1, .nat 0 2⟩,  -- PMBus rate, ports A and B
  ⟨0x2040, 1, 0x02, 1, 1, .u8, .rwc, .engineer, 1, .nat 0 2⟩,  -- PMBus rate, ports A and B
  ⟨0x2040, 1, 0x03, 1, 1, .real, .rwc, .engineer, 0x3DCCCCCD, .real 0x3C23D70A 0x41200000⟩,  -- Poll period
  ⟨0x2040, 1, 0x04, 1, 1, .bool, .rwc, .engineer, 1, .nat 0 1⟩,  -- PEC
  ⟨0x2041, 1, 0x01, 32, 1, .u16, .rwc, .engineer, 0, .mask 0x817F⟩,  -- Device address
  ⟨0x2042, 1, 0x01, 32, 1, .u8, .rwc, .engineer, 0, .nat 0 1⟩,  -- Device role
  ⟨0x2043, 1, 0x01, 32, 1, .u8, .ro, .engineer, 0, .any⟩,  -- Device state
  ⟨0x2044, 6, 0x01, 32, 1, .real, .ro, .engineer, 0, .any⟩,  -- VIN, VOUT, IOUT, temperature, PIN, POUT
  ⟨0x204A, 1, 0x01, 32, 1, .u16, .ro, .engineer, 0, .any⟩,  -- STATUS_WORD
  ⟨0x204B, 1, 0x01, 32, 1, .u32, .ro, .engineer, 0, .any⟩,  -- PEC errors
  ⟨0x3A00, 1, 0x01, 1, 1, .u32, .wo, .engineer, 0, .words [0x72706D74, 0x706F7264]⟩,  -- Commit command
  ⟨0x3A00, 1, 0x02, 1, 1, .u8, .ro, .engineer, 0, .any⟩,  -- Commit state
  ⟨0x3A00, 1, 0x03, 1, 1, .u16, .ro, .engineer, 0, .any⟩,  -- Refusal code
  ⟨0x3A00, 1, 0x04, 1, 1, .u32, .ro, .engineer, 0, .any⟩,  -- Offending object
  ⟨0x3A00, 1, 0x05, 1, 1, .u8, .ro, .engineer, 255, .any⟩,  -- Conflicting owner
  ⟨0x3A00, 1, 0x06, 1, 1, .u32, .ro, .engineer, 0, .any⟩,  -- Commits applied
  ⟨0x3A00, 1, 0x07, 1, 1, .u16, .ro, .engineer, 0, .any⟩,  -- Blocks pending or last applied
  ⟨0x3A00, 1, 0x08, 1, 1, .u8, .ro, .engineer, 255, .any⟩,  -- Shadow claimed by
  ⟨0x3A00, 1, 0x09, 1, 1, .u32, .ro, .engineer, 0, .any⟩,  -- Configuration hash
  ⟨0x3A00, 1, 0x0A, 1, 1, .octets, .ro, .engineer, 0, .any⟩,  -- Application order, last commit
  ⟨0x3A10, 1, 0x01, 24, 1, .u8, .ro, .engineer, 255, .any⟩,  -- GPIO owner, GPIO00–GPIO23
  ⟨0x3A11, 1, 0x01, 8, 1, .u8, .ro, .engineer, 255, .any⟩,  -- PG owner, PG0–PG7
  ⟨0x3A12, 1, 0x01, 1, 1, .u8, .const, .engineer, 50, .any⟩  -- QUENCH_IN, QUENCH_OUT owner
  ]

/-- Objects of chapter 14 (interfaces), part 2. -/
def objects14b : List ObjRow := [
  ⟨0x3A12, 1, 0x02, 1, 1, .u8, .const, .engineer, 50, .any⟩,  -- QUENCH_IN, QUENCH_OUT owner
  ⟨0x3A13, 1, 0x01, 1, 1, .u8, .const, .engineer, 48, .any⟩,  -- Snapshot buffer owner
  ⟨0x3A14, 1, 0x01, 64, 1, .u16, .ro, .engineer, 0, .any⟩,  -- Queue owners, Q00–Q63
  ⟨0x3A15, 1, 0x01, 32, 1, .u8, .ro, .engineer, 255, .any⟩  -- Phase owner, PH00–PH31
  ]

/-- Objects of chapter 15 (twin and cascade). -/
def objects15 : List ObjRow := [
  ⟨0x3000, 1, 0x01, 1, 1, .u8, .ro, .engineer, 0, .any⟩,  -- Twin state
  ⟨0x3000, 1, 0x02, 1, 1, .u32, .ro, .engineer, 0, .any⟩,  -- Peer serial number
  ⟨0x3000, 1, 0x03, 1, 1, .u32, .ro, .engineer, 0, .any⟩,  -- Peer configuration hash
  ⟨0x3000, 1, 0x04, 1, 1, .u8, .ro, .engineer, 0, .any⟩,  -- Last refusal reason
  ⟨0x3000, 1, 0x05, 1, 1, .real, .rwc, .engineer, 0x40000000, .real 0x3DCCCCCD 0x42700000⟩,  -- Pairing timeout
  ⟨0x3000, 1, 0x06, 1, 1, .u32, .wo, .engineer, 0, .words [0x65766967]⟩,  -- Handover
  ⟨0x3000, 1, 0x07, 1, 1, .u32, .wo, .engineer, 0, .words [0x68737570]⟩,  -- Push configuration to peer
  ⟨0x3000, 1, 0x08, 1, 1, .u32, .wo, .engineer, 0, .words [0x65736572]⟩,  -- Reset standby
  ⟨0x3000, 1, 0x09, 1, 1, .u32, .ro, .engineer, 0, .any⟩,  -- Takeovers
  ⟨0x3000, 1, 0x0A, 1, 1, .u32, .ro, .engineer, 0, .any⟩,  -- Invalid Benut frames
  ⟨0x3000, 1, 0x0B, 1, 1, .real, .ro, .engineer, 0, .any⟩,  -- Timebase error to peer
  ⟨0x3000, 1, 0x0C, 1, 1, .real, .ro, .engineer, 0, .any⟩,  -- Twin link delay
  ⟨0x3000, 1, 0x0D, 1, 1, .u16, .ro, .engineer, 0, .any⟩,  -- Last give-up trigger
  ⟨0x3000, 1, 0x0E, 1, 1, .bool, .rwc, .engineer, 1, .nat 0 1⟩,  -- Automatic adoption
  ⟨0x3000, 1, 0x0F, 1, 1, .bool, .rw, .engineer, 0, .nat 0 1⟩,  -- Minor-version tolerance
  ⟨0x3010, 1, 0x01, 1, 1, .bool, .rwc, .engineer, 0, .nat 0 1⟩,  -- Cascade enable
  ⟨0x3010, 1, 0x02, 1, 1, .u8, .rwc, .engineer, 1, .nat 1 8⟩,  -- Positions N
  ⟨0x3010, 1, 0x03, 1, 1, .real, .rws, .engineer, 0, .real 0x00000000 0x49742400⟩,  -- Site cap P_site
  ⟨0x3010, 1, 0x04, 1, 1, .u8, .ro, .engineer, 0, .any⟩,  -- Cascade state
  ⟨0x3010, 1, 0x05, 1, 1, .u8, .ro, .engineer, 255, .any⟩,  -- Master position
  ⟨0x3010, 1, 0x06, 1, 1, .u32, .wo, .engineer, 0, .words [0x7473616D]⟩,  -- Promote
  ⟨0x3010, 1, 0x07, 1, 1, .u8, .ro, .engineer, 0, .any⟩,  -- Link status
  ⟨0x3010, 1, 0x08, 1, 1, .real, .ro, .engineer, 0, .any⟩,  -- Allocation in force
  ⟨0x3010, 1, 0x09, 1, 1, .u64, .ro, .engineer, 0, .any⟩,  -- Time of last allocation
  ⟨0x3010, 1, 0x0A, 1, 1, .real, .rwc, .engineer, 0x3DCCCCCD, .real 0x3CA3D70A 0x41200000⟩,  -- Allocation period
  ⟨0x3011, 1, 0x01, 8, 1, .real, .ro, .engineer, 0, .any⟩,  -- Allocation, positions 0 to 7 (master)
  ⟨0x3012, 1, 0x01, 8, 1, .real, .ro, .engineer, 0, .any⟩,  -- P_req reported
  ⟨0x3013, 1, 0x01, 8, 1, .real, .ro, .engineer, 0, .any⟩,  -- w reported
  ⟨0x3014, 1, 0x01, 8, 1, .real, .ro, .engineer, 0, .any⟩  -- SoC reported
  ]

/-- Objects of chapter 16 (reset). -/
def objects16 : List ObjRow := [
  ⟨0x5F20, 1, 0x01, 1, 1, .u32, .ro, .engineer, 0, .any⟩,  -- Reset cause
  ⟨0x5F20, 1, 0x02, 1, 1, .u32, .wo, .engineer, 0, .words [0x6D726177, 0x646C6F63]⟩,  -- Reset request
  ⟨0x5F20, 1, 0x03, 1, 1, .u8, .wo, .engineer, 0, .blocks⟩,  -- Block reset request
  ⟨0x5F20, 1, 0x04, 1, 1, .real, .rwc, .engineer, 0x3A83126F, .real 0x3727C5AC 0x3DCCCCCD⟩,  -- Idle timeout
  ⟨0x5F20, 1, 0x05, 1, 1, .u16, .ro, .engineer, 0, .any⟩,  -- Last block reset
  ⟨0x5F20, 1, 0x06, 1, 1, .u16, .ro, .engineer, 0, .any⟩,  -- Trim status
  ⟨0x5F20, 1, 0x07, 1, 1, .u32, .wo, .engineer, 0, .words [0x6E6B6361]⟩,  -- Trim fallback acknowledge
  ⟨0x5F20, 1, 0x08, 1, 1, .u32, .ro, .engineer, 0, .any⟩,  -- Reset counts
  ⟨0x5F20, 1, 0x09, 1, 1, .u64, .ro, .engineer, 0, .any⟩  -- Time of last release
  ]

/-- Objects of chapter 17 (memory and recorder). -/
def objects17 : List ObjRow := [
  ⟨0x3200, 1, 0x01, 1, 1, .u8, .ro, .engineer, 0, .any⟩,  -- Recorder status
  ⟨0x3200, 1, 0x02, 1, 1, .u32, .ro, .engineer, 0, .any⟩,  -- Newest, oldest sequence
  ⟨0x3200, 1, 0x03, 1, 1, .u32, .ro, .engineer, 0, .any⟩,  -- Newest, oldest sequence
  ⟨0x3200, 1, 0x04, 1, 1, .u32, .ro, .engineer, 0, .any⟩,  -- Records lost
  ⟨0x3200, 1, 0x05, 1, 1, .u32, .wo, .engineer, 0, .words [0x65706977]⟩,  -- Clear
  ⟨0x3200, 1, 0x06, 1, 1, .u32, .ro, .engineer, 0, .any⟩,  -- Records written
  ⟨0x3200, 1, 0x07, 1, 1, .u8, .wo, .engineer, 0, .nat 0 63⟩,  -- Manual trigger
  ⟨0x3201, 1, 0x01, 1, 1, .u32, .rw, .engineer, 0, .any⟩,  -- Cursor
  ⟨0x3201, 1, 0x02, 1, 1, .u8, .rw, .engineer, 0, .nat 0 1⟩,  -- Half
  ⟨0x3201, 1, 0x03, 1, 1, .u8, .ro, .engineer, 0, .any⟩,  -- Window state
  ⟨0x3201, 1, 0x04, 1, 1, .domain, .ro, .engineer, 0, .any⟩,  -- Window
  ⟨0x3210, 1, 0x01, 64, 1, .u8, .rwc, .engineer, 0, .nat 0 8⟩,  -- Trigger kind
  ⟨0x3211, 1, 0x01, 64, 1, .u32, .rwc, .engineer, 0, .any⟩,  -- Source
  ⟨0x3212, 1, 0x01, 64, 1, .real, .rwc, .engineer, 0, .realAny⟩,  -- Threshold
  ⟨0x3213, 1, 0x01, 64, 1, .u32, .rwc, .engineer, 0, .any⟩,  -- Mask and value
  ⟨0x3214, 1, 0x01, 64, 1, .u8, .rwc, .engineer, 0, .nat 0 7⟩,  -- List
  ⟨0x3215, 1, 0x01, 64, 1, .u8, .rwc, .engineer, 1, .nat 1 16⟩,  -- Count
  ⟨0x3216, 1, 0x01, 64, 1, .u16, .rwc, .engineer, 1, .nat 1 40000⟩,  -- Spacing
  ⟨0x3217, 1, 0x01, 64, 1, .real, .rwc, .engineer, 0x3F800000, .real 0x00000000 0x45610000⟩,  -- Holdoff
  ⟨0x3218, 1, 0x01, 64, 1, .u32, .ro, .engineer, 0, .any⟩,  -- Firings
  ⟨0x3220, 8, 0x01, 120, 1, .u32, .rwc, .engineer, 0, .any⟩,  -- Selectors, list L = 0 to 7
  ⟨0x5F30, 1, 0x01, 1, 1, .u32, .ro, .engineer, 0, .any⟩,  -- Main SRAM corrected, uncorrectable
  ⟨0x5F30, 1, 0x02, 1, 1, .u32, .ro, .engineer, 0, .any⟩,  -- Main SRAM corrected, uncorrectable
  ⟨0x5F30, 1, 0x03, 1, 1, .u32, .ro, .engineer, 0, .any⟩,  -- Queue SRAM corrected, uncorrectable
  ⟨0x5F30, 1, 0x04, 1, 1, .u32, .ro, .engineer, 0, .any⟩,  -- Queue SRAM corrected, uncorrectable
  ⟨0x5F30, 1, 0x05, 1, 1, .u32, .ro, .engineer, 0, .any⟩,  -- MRAM corrected, uncorrectable
  ⟨0x5F30, 1, 0x06, 1, 1, .u32, .ro, .engineer, 0, .any⟩,  -- MRAM corrected, uncorrectable
  ⟨0x5F30, 1, 0x07, 1, 1, .u32, .ro, .engineer, 0, .any⟩,  -- Last error address
  ⟨0x5F30, 1, 0x08, 1, 1, .u16, .ro, .engineer, 0, .any⟩,  -- Last SRAM error information
  ⟨0x5F30, 1, 0x09, 1, 1, .real, .ro, .engineer, 0, .any⟩,  -- Last SRAM pass time
  ⟨0x5F30, 1, 0x0A, 1, 1, .real, .ro, .engineer, 0, .any⟩,  -- MRAM pass progress
  ⟨0x5F30, 1, 0x0B, 1, 1, .u32, .ro, .engineer, 0, .any⟩,  -- Critical state size
  ⟨0x5F30, 1, 0x0C, 1, 1, .u32, .rwc, .engineer, 100, .nat 1 1000000⟩,  -- Correction-rate limit
  ⟨0x5F30, 1, 0x0D, 1, 1, .u8, .ro, .engineer, 0, .any⟩  -- Copy validity
  ]

/-- Objects of chapter 18 (update). -/
def objects18 : List ObjRow := [
  ⟨0x2002, 1, 0x01, 1, 1, .u8, .ro, .engineer, 0, .any⟩,  -- Lifecycle state
  ⟨0x2002, 1, 0x02, 1, 1, .u8, .rw, .engineer, 255, .nat 1 4⟩,  -- Target state
  ⟨0x2002, 1, 0x03, 1, 1, .u32, .wo, .engineer, 0, .words [0x6379636C]⟩,  -- Confirm transition
  ⟨0x2002, 1, 0x04, 1, 1, .u32, .ro, .engineer, 0, .any⟩,  -- Transitions
  ⟨0x2002, 1, 0x05, 1, 1, .u64, .ro, .engineer, 0, .any⟩,  -- Time of last transition
  ⟨0x2003, 1, 0x01, 1, 1, .u8, .rw, .engineer, 1, .nat 1 4⟩,  -- Key slot
  ⟨0x2003, 1, 0x02, 1, 1, .octets, .wo, .engineer, 0, .any⟩,  -- Wrapped key
  ⟨0x2003, 1, 0x03, 1, 1, .u16, .ro, .engineer, 0, .any⟩,  -- Key presence
  ⟨0x2003, 1, 0x04, 1, 1, .u8, .ro, .engineer, 0, .any⟩,  -- Revoked signing keys
  ⟨0x2003, 1, 0x05, 1, 1, .u8, .wo, .vendor, 0, .nat 0 3⟩,  -- Revoke signing key
  ⟨0x2003, 1, 0x06, 1, 1, .octets, .ro, .engineer, 0, .any⟩,  -- Key fingerprint, slot of 0x2003:01
  ⟨0x3400, 1, 0x01, 1, 1, .u32, .ro, .engineer, 0, .any⟩,  -- Update status
  ⟨0x3400, 1, 0x02, 1, 1, .domain, .wo, .engineer, 0, .any⟩,  -- Image chunk
  ⟨0x3400, 1, 0x03, 1, 1, .u32, .ro, .engineer, 0, .any⟩,  -- Next offset
  ⟨0x3400, 1, 0x04, 1, 1, .u32, .wo, .engineer, 0, .words [0x6E676562, 0x74726261]⟩,  -- Staging command
  ⟨0x3400, 1, 0x05, 1, 1, .u32, .wo, .engineer, 0, .words [0x746F6F62]⟩,  -- Activate
  ⟨0x3400, 1, 0x06, 1, 1, .u32, .wo, .engineer, 0, .words [0x74696D63]⟩,  -- Commit trial
  ⟨0x3400, 1, 0x07, 1, 1, .u32, .wo, .engineer, 0, .words [0x74727672]⟩,  -- Revert trial
  ⟨0x3400, 1, 0x08, 1, 1, .u32, .wo, .engineer, 0, .words [0x6576696C]⟩,  -- Live update
  ⟨0x3400, 1, 0x09, 1, 1, .real, .rws, .engineer, 0x44160000, .real 0x42700000 0x47A8C000⟩,  -- Trial time
  ⟨0x3400, 1, 0x0A, 1, 1, .u32, .ro, .engineer, 0, .any⟩,  -- Slot states
  ⟨0x3400, 1, 0x0B, 1, 1, .u32, .ro, .engineer, 0, .any⟩,  -- Version, slots A and B
  ⟨0x3400, 1, 0x0C, 1, 1, .u32, .ro, .engineer, 0, .any⟩,  -- Version, slots A and B
  ⟨0x3400, 1, 0x0D, 1, 1, .u32, .ro, .engineer, 0, .any⟩,  -- Security floor
  ⟨0x3400, 1, 0x0E, 1, 1, .real, .ro, .engineer, 0, .any⟩,  -- Trial time remaining
  ⟨0x3400, 1, 0x0F, 1, 1, .u16, .ro, .engineer, 0, .any⟩  -- Last update fault
  ]

/-- The communication area (R361, R362, R354, R355, R481): the standard objects of CiA 301 and CiA 1301 that the spec lists. -/
def objectsComm : List ObjRow := [
  ⟨0x1000, 1, 0x00, 1, 1, .u32, .const, .engineer, 0, .any⟩,  -- device type
  ⟨0x1001, 1, 0x00, 1, 1, .u8, .ro, .engineer, 0, .any⟩,  -- error register
  ⟨0x1003, 1, 0x00, 1, 1, .u8, .rw, .operator, 0, .nat 0 0⟩,  -- number of errors
  ⟨0x1003, 1, 0x01, 16, 1, .u32, .ro, .engineer, 0, .any⟩,  -- error field
  ⟨0x1005, 1, 0x00, 1, 1, .u32, .rws, .engineer, 0x80, .any⟩,  -- COB-ID SYNC
  ⟨0x1008, 3, 0x00, 1, 1, .str, .const, .engineer, 0, .any⟩,  -- names and versions
  ⟨0x1010, 2, 0x00, 1, 1, .u8, .const, .engineer, 3, .any⟩,  -- highest sub-index (CiA 301, log entry 100)
  ⟨0x1016, 1, 0x00, 1, 1, .u8, .const, .engineer, 4, .any⟩,  -- highest sub-index
  ⟨0x1018, 1, 0x00, 1, 1, .u8, .const, .engineer, 4, .any⟩,  -- highest sub-index
  ⟨0x1200, 1, 0x00, 1, 1, .u8, .const, .engineer, 2, .any⟩,  -- highest sub-index
  ⟨0x1400, 4, 0x00, 1, 1, .u8, .const, .engineer, 2, .any⟩,  -- highest sub-index
  ⟨0x1800, 4, 0x00, 1, 1, .u8, .const, .engineer, 5, .any⟩,  -- highest sub-index
  ⟨0x1010, 1, 0x01, 3, 1, .u32, .rw, .engineer, 0, .words [0x65766173]⟩,  -- store
  ⟨0x1011, 1, 0x01, 3, 1, .u32, .rw, .engineer, 0, .words [0x64616F6C]⟩,  -- restore
  ⟨0x1014, 1, 0x00, 1, 1, .u32, .rws, .engineer, 0, .any⟩,  -- COB-ID EMCY
  ⟨0x1015, 1, 0x00, 1, 1, .u16, .rws, .engineer, 100, .any⟩,  -- inhibit time
  ⟨0x1016, 1, 0x01, 4, 1, .u32, .rws, .engineer, 0, .any⟩,  -- consumer heartbeat
  ⟨0x1017, 1, 0x00, 1, 1, .u16, .rws, .engineer, 1000, .any⟩,  -- producer heartbeat
  ⟨0x1018, 1, 0x01, 4, 1, .u32, .const, .engineer, 0, .any⟩,  -- identity
  ⟨0x1200, 1, 0x01, 2, 1, .u32, .const, .engineer, 0, .any⟩,  -- server parameter
  ⟨0x1400, 4, 0x01, 1, 1, .u32, .rws, .engineer, 0, .any⟩,  -- RPDO COB-ID
  ⟨0x1400, 4, 0x02, 1, 1, .u8, .rws, .engineer, 254, .any⟩,  -- RPDO transmission type
  ⟨0x1600, 4, 0x00, 1, 1, .u8, .rws, .engineer, 0, .nat 0 64⟩,  -- RPDO mapping count
  ⟨0x1600, 4, 0x01, 64, 1, .u32, .rws, .engineer, 0, .any⟩,  -- RPDO mapping
  ⟨0x1800, 4, 0x01, 1, 1, .u32, .rws, .engineer, 0, .any⟩,  -- TPDO COB-ID
  ⟨0x1800, 4, 0x02, 1, 1, .u8, .rws, .engineer, 254, .any⟩,  -- TPDO transmission type
  ⟨0x1800, 4, 0x03, 1, 1, .u16, .rws, .engineer, 0, .any⟩,  -- TPDO inhibit time
  ⟨0x1800, 4, 0x05, 1, 1, .u16, .rws, .engineer, 0, .any⟩,  -- TPDO event timer
  ⟨0x1A00, 4, 0x00, 1, 1, .u8, .rws, .engineer, 0, .nat 0 64⟩,  -- TPDO mapping count
  ⟨0x1A00, 4, 0x01, 64, 1, .u32, .rws, .engineer, 0, .any⟩  -- TPDO mapping
  ]

/-- The whole dictionary. -/
def objTable : List ObjRow :=
  objectsComm ++ objects01 ++ objects02 ++ objects03 ++ objects04 ++ objects05a ++ objects05b ++ objects06 ++ objects07a ++ objects07b ++ objects08a ++ objects08b ++ objects09a ++ objects09b ++ objects10 ++ objects11 ++ objects12 ++ objects13 ++ objects14a ++ objects14b ++ objects15 ++ objects16 ++ objects17 ++ objects18

end Sys2Proof.Machine
end

