-- ==== Sys2Proof/Machine/State.lean ====
section
/-! DEFINITION. The state of the MB4800, as plain data, its reset value, and the reasons a step may stop.
In every field's docstring `[..]` is the width the spec gives, `{Rn}` the rule that names it and `(..)` its reset value:
`(spec v)` where the rule or its table gives it, `(Dn)` where the spec gives none and log entry n names it, `(model)` for
a field that is the model's own. Quantities that the spec holds as REAL32 stand here as rationals (log entry 8). -/

namespace Sys2Proof.Machine

/-- The running timers that a later command ends; each stands in `State.timers` with its deadline. -/
inductive TimerId
  | recordsLost | limit (code inst : Nat)
  | hold | rstEscalate | supplyWait | supplyRange (io : Bool) | stepBound | blkIdle (code : Nat) | blkHold (code : Nat)
  | ppsLost | cascTimeLost | conflictClear | holdoverSec
  | overrange (ch : Nat) | settling (ch : Nat) | stale (ch : Nat) | ready | calWrite | capture
  | laneDeadline (n : Nat) | overvoltage (l : Nat) | shedDwell (l : Nat)
  | blind (p : Nat) | limitClear (l : Nat) | syncGone (l : Nat) | vsetOff (l : Nat)
  | ffRestore | busOv | busOvClear | busUv | busUvClear | notTracking (r : Nat) | shortfall | holdupQualify
  | capDwell | capRestore | stageDwell (n : Nat) | slow (r : Nat)
  | brSettle (k : Nat) | brInrush (k : Nat) | brSink (k : Nat) | brMinOff (k : Nat) | brRetry (k : Nat)
  | brDebounce (k : Nat) | brOn60 (k : Nat) | brLimitOut (k : Nat) | brFault (k : Nat) | brShort (k : Nat)
  | feedSettle (p : Nat) | feedDead (p : Nat) | feedRevert (p : Nat) | feedQual (p : Nat) (b : Bool)
  | quenchRelease (q : Nat) | quenchIgnore
  | strEmpty (n : Nat) | strFull (n : Nat) | lvd (n : Nat) | reconnect (n : Nat) | blocked (n : Nat) | learned | learnedWrite
  | railStart (r : Nat) | railPg (r : Nat) | railTimeout (r : Nat) | railFault (r : Nat) | railMinOff (r : Nat)
  | railRetry (r : Nat) | railDischarge (r : Nat) | railOffDelay (r : Nat) | railGood (r : Nat) | inputLoss
  | sensorSlow (k : Nat) | thrStep (c : Nat) | thrRestore (c : Nat)
  | wdog (e : Nat) | selfTest (e : Nat) | migrate (e : Nat) | reload (e : Nat) | sysWdog
  | proxy (q slot : Nat)
  | lockout (w role : Nat) | nonce (w : Nat) | sessIdle (w : Nat) | segment (w : Nat)
  | commitVal | channelWait | store | pmStretch (p : Nat) | tpdo (p n : Nat) | emcy (p : Nat) | heartbeat (p : Nat)
 
  | pairSend | pairing | delayReq (l : Nat) | mirrorLost | standbyLost | takeDrive | peerAnswer
  | cascReport | cascAlloc | masterLost | aligned
  | scrubPass (m : Nat) | scan | windowLoad (w : Nat) | clearRec
  | trial | updVerify | lcyc
  deriving DecidableEq, Repr



/-! ## Shared kinds -/

/-! ## Slack and core voltage (01) -/

/-- Slack and the adaptive core voltage. -/
structure Arch where
  /-- core voltage in mV [10 bit, 550..850] {R28} (spec R29: 850 until the first slack report) -/
  vcoreMv : Nat := 850
  /-- consecutive intervals with minimum slack at or above T + 0.05 [4 bit] {R28} (D1) -/
  lowerRun : Nat := 0
  /-- consecutive intervals below T while VCORE stands at 0.85 V [4 bit] {R30} (D1) -/
  ceilingRun : Nat := 0
  /-- minimum slack of the interval in progress and its unit, none before a period ends [REAL32, 8 bit] {R27} (D1) -/
  interval : Option (Rat × Nat) := none
  /-- time of the last emergency raise in ns, none before one {R28} (D1) -/
  emergencyAt : Option Nat := none
  /-- time of an interval raise and VCORE before it, for an emergency raise of the same instant [64 bit, 10 bit] {R28} (D1 none) -/
  raised : Option (Nat × Nat) := none
  /-- minimum slack, last interval, 0x3808:03 [REAL32] {R33} (D1) -/
  slackLast : Rat := 0
  /-- minimum slack since reset, 0x3808:04; none before a report [REAL32] {R33} (D1) -/
  slackMin : Option Rat := none
  /-- slack-limiting unit, last interval, 0x3808:05 [8 bit] {R33} (D1) -/
  limitingUnit : Nat := 0
  /-- VCORE ceiling events, 0x3808:06 [32 bit] {R33} (spec 0) -/
  ceilingEvents : U32 := 0
  /-- emergency raises, 0x3808:07 [32 bit] {R33} (spec 0) -/
  emergencyRaises : U32 := 0
  /-- consecutive periods below slack 0.05, per unit: E0..E7 then LN00..LN11 [2 bit each] {R30} (D1) -/
  lowRuns : Vector Nat 20 := Vector.replicate 20 0
  /-- the island-to-fabric bridge buffers, at most four events each, oldest first [4 entries each] {R25} (spec: empty) -/
  bridges : Vector (List Nat) 9 := Vector.replicate 9 []
  deriving DecidableEq, Repr

/-! ## Straps, holds, supplies, pins (02, 03) -/

/-- Straps, hold latches and supply monitors. -/
structure Pins where
  /-- CASC_POS strap latched at the last cold reset, SYS_STRAP [2:0] [3 bit] {R55} (spec: strap level; D1 0) -/
  cascPos : Fin 8 := 0
  /-- RECOVER strap latched at the last reset, SYS_STRAP [3] [1 bit] {R55} (spec: strap level; D1 0) -/
  recover : Bool := false
  /-- SL_ADDR strap, SYS_STRAP [5:4] [2 bit] {R55} (spec: strap level; D1 0) -/
  slAddr : Fin 4 := 0
  /-- TWIN_PAR strap, SYS_STRAP [6] [1 bit] {R55} (spec: strap level; D1 0) -/
  twinPar : Bool := false
  /-- UNSTABLE, SYS_STRAP [14:8] [7 bit] {R55} (spec 0) -/
  unstable : BitVec 7 := 0
  /-- BR_HELD, SYS_HOLD0 [15:0] [16 bit] {R64} (spec 0) -/
  brHeld : BitVec 16 := 0
  /-- FD_HELD, SYS_HOLD0 [19:16] [4 bit] {R64} (spec 0) -/
  fdHeld : BitVec 4 := 0
  /-- ST_HELD, SYS_HOLD0 [23:20] [4 bit] {R64} (spec 0) -/
  stHeld : BitVec 4 := 0
  /-- PG_HELD, SYS_HOLD0 [31:24] [8 bit] {R64} (spec 0) -/
  pgHeld : BitVec 8 := 0
  /-- GPIO_HELD, SYS_HOLD1 [23:0] [24 bit] {R64} (spec 0) -/
  gpioHeld : BitVec 24 := 0
  /-- branch gate holds still in force [16 bit] {R59} (spec: none) -/
  brHold : BitVec 16 := 0
  /-- feed gate holds still in force [4 bit] {R59} (spec: none) -/
  fdHold : BitVec 4 := 0
  /-- string gate holds still in force [4 bit] {R59} (spec: none) -/
  stHold : BitVec 4 := 0
  /-- PG holds still in force [8 bit] {R60} (spec: none) -/
  pgHold : BitVec 8 := 0
  /-- GPIO rail-enable holds still in force [24 bit] {R59} (spec: none) -/
  gpioHold : BitVec 24 := 0
  /-- adopted channels kept on until the sequencer's first commit: 16 branches, 4 feeds, 4 strings [24 bit] {R59} (spec: none) -/
  adopted : BitVec 24 := 0
  /-- the PWM pins [32 pins] {R56} (spec: high-impedance) -/
  pwm : Vector PwmPin 32 := Vector.replicate 32 .highZ
  /-- the 24 gate pins: GBR00..15, GFD0A, GFD0B, GFD1A, GFD1B, GST0..3 [24 pins] {R56} (spec: low, 2 mA sink) -/
  gate : Vector GateDrive 24 := Vector.replicate 24 .resetSink
  /-- PG0..PG7 output levels, true = high [8 pins] {R56} (spec: low) -/
  pg : BitVec 8 := 0
  /-- SLA and SLB drivers on [2 pins] {R56} (spec: off) -/
  slDriver : BitVec 2 := 0
  /-- GPIO input levels as last sampled [24 pins] {R223} (D1 0) -/
  gpioIn : BitVec 24 := 0
  /-- GPIO output levels of pins committed as outputs [24 pins] {R56} (spec: inputs) -/
  gpioOut : BitVec 24 := 0
  /-- GPIO pins driven as outputs [24 pins] {R56} (spec: inputs) -/
  gpioDir : BitVec 24 := 0
  /-- TWIN_ACT_O level [1 pin] {R56} (spec: low) -/
  twinActO : Bool := false
  /-- TWIN_ACT_I level [1 pin] {R62} (D1 low: internal pull-down) -/
  twinActI : Bool := false
  /-- SPI_IRQ_N asserted (driven low) [1 pin] {R56} (spec: released) -/
  spiIrq : Bool := false
  /-- SYNC_IN measured frequency in Hz, 0x2400:03 [REAL32] {R185} (spec 0) -/
  syncFreq : Rat := 0
  /-- time of the last SYNC_IN edge in 19.53 ps steps {R181} (D1 0) -/
  syncAt : Nat := 0
  /-- SYNC_OUT enabled and carrying its loop's reference edges [1 pin] {R183} (spec: low) -/
  syncOut : Bool := false
  /-- PMBus lines of ports A and B released [2 pins] {R56} (spec: released) -/
  pmbusReleased : BitVec 2 := 3
  /-- Benut transmit drivers on: twin, cascade-in, cascade-out; from the twin block's first commit [3 pins] {R56} (spec: off) -/
  benutTx : BitVec 3 := 0
  /-- BROWN_WARN, SYS_SUPPLY [0] [1 bit] {R75} (spec 0) -/
  brownWarn : Bool := false
  /-- BROWN_SEEN, SYS_SUPPLY [1], W1C [1 bit] {R75} (spec 0) -/
  brownSeen : Bool := false
  /-- VGD_UV, SYS_SUPPLY [2] [1 bit] {R75} (spec 1) -/
  vgdUv : Bool := true
  /-- VAUX_OV, SYS_SUPPLY [3] [1 bit] {R75} (spec 0) -/
  vauxOv : Bool := false
  /-- VDDIO_RANGE, SYS_SUPPLY [4] [1 bit] {R75} (spec 0) -/
  vddioRange : Bool := false
  /-- BW_CODE, SYS_SUPPLY [15:8] [8 bit] {R75} (spec 30) -/
  bwCode : Nat := 30
  /-- BROWN_WARN events, 0x5F10:06 [32 bit] {R76} (spec 0) -/
  brownEvents : U32 := 0
  /-- VAUX present, 0x5F10:03 [REAL32] {R76} (D1 0) -/
  vaux : Rat := 0
  /-- VDDIO present, 0x5F10:04 [REAL32] {R76} (D1 0) -/
  vddio : Rat := 0
  /-- VGD present, 0x5F10:05 [REAL32] {R76} (D1 0) -/
  vgd : Rat := 0
  deriving DecidableEq, Repr

/-! ## Timebase (04) -/

/-- One of the sixteen general timers. -/
structure GenTimer where
  /-- setting in force: mode, value, action, owner, edges {R99} (D1 unowned) -/
  setting : TimerSetting := {}
  /-- setting that waits for the commit which records its owner {R99} (D1 none) -/
  claim : Option TimerSetting := none
  /-- the timer has still to expire [1 bit] {R99} (D1) -/
  armed : Bool := false
  /-- timebase cycles left to the expiry of a one-shot or periodic timer [32 bit] {R99} (D1) -/
  count : Nat := 0
  /-- timebase cycles left of the pulse on the GPIO, 0 none [16 bit] {R99} (D1) -/
  pulse : Nat := 0
  /-- alarm value that has fired and is not re-armed by a backward step [64 bit] {R100} (D1 none) -/
  fired : Option Nat := none
  /-- pulses driven so far on the GPIO [32 bit] {R99} (D1) -/
  pulses : U32 := 0
  /-- capture buffer, at most four times of day, oldest first [4 entries] {R99} (spec: empty) -/
  captured : List Nat := []
  deriving DecidableEq, Repr

/-- The crystal model of R93 with its status. -/
structure CrystalModel where
  /-- cumulative learning time in s, 0x2103:01 [REAL32] {R94} (spec 0) -/
  learnTime : Rat := 0
  /-- learned span, lowest T, 0x2103:02 [REAL32] {R94} (D1 0) -/
  spanLo : Rat := 0
  /-- learned span, highest T, 0x2103:03 [REAL32] {R94} (D1 0) -/
  spanHi : Rat := 0
  /-- coefficients c0..c3, 0x2103:04-07 [REAL32 each] {R93} (spec 0) -/
  c : Vector Rat 4 := Vector.replicate 4 0
  /-- ageing rate a, 0x2103:08 [REAL32] {R93} (spec 0) -/
  a : Rat := 0
  /-- learning samples taken [32 bit] {R93} (D1) -/
  samples : Nat := 0
  /-- time since the reference instant of t, in ns [64 bit] {R93} (D1) -/
  age : Nat := 0
  deriving DecidableEq, Repr

/-- Timebase, reference lock and holdover. -/
structure Timebase where
  /-- lock state, 0x2101:01 [3 bit] {R89} (spec FREERUN) -/
  lock : LockState := .freerun
  /-- PPS qualified, 0x2101:02 bit 0 [1 bit] {R104} (D1) -/
  ppsOk : Bool := false
  /-- 10 MHz qualified, bit 1 [1 bit] {R104} (D1) -/
  refOk : Bool := false
  /-- cascade time qualified, bit 2 [1 bit] {R104} (D1) -/
  cascOk : Bool := false
  /-- REF_CONFLICT, bit 3 [1 bit] {R88} (D1) -/
  conflict : Bool := false
  /-- FREQ_ONLY, bit 4 [1 bit] {R90} (D1) -/
  freqOnly : Bool := false
  /-- time of day unset, bit 14 [1 bit] {R97} (spec: set until written) -/
  todUnset : Bool := true
  /-- a time of day has been loaded [1 bit] {R97} (D1) -/
  todLoaded : Bool := false
  /-- time of day invalid, bit 15 [1 bit] {R96} (D1) -/
  todInvalid : Bool := false
  /-- steering word, 0x2101:03 [REAL32, 1e-12 steps] {R84} (spec 0) -/
  steering : Rat := 0
  /-- phase error of the last PPS edge in s, 0x2101:04 [REAL32] {R98} (D1 0) -/
  phaseErr : Rat := 0
  /-- seconds in holdover, 0x2101:05 [REAL32] {R104} (spec 0) -/
  holdoverTime : Rat := 0
  /-- time-error bound in s, 0x2101:06 [REAL32] {R95} (spec 0) -/
  errBound : Rat := 0
  /-- lock-state changes, 0x2101:07 [32 bit] {R90} (spec 0) -/
  changes : U32 := 0
  /-- PPS edges discarded, 0x2101:08 [32 bit] {R87} (spec 0) -/
  discarded : U32 := 0
  /-- time of day in ns, 0x2102:01 [64 bit] {R97} (spec 0 at timebase release) -/
  tod : Nat := 0
  /-- time of day to load at the next qualified PPS edge, 0x2102:02 [64 bit] {R97} (D1 none) -/
  todNext : Option Nat := none
  /-- time steps, 0x2102:03 [32 bit] {R92} (spec 0) -/
  steps : U32 := 0
  /-- a step in ns decided and waiting for the frame boundary [64 bit signed] {R92} (D1) -/
  stepPending : Int := 0
  /-- phase that the slew in progress removes, in s [REAL32] {R92} (D1) -/
  slewLeft : Rat := 0
  /-- offset of the steering word by the slew in progress [REAL32] {R92} (D1) -/
  slewOff : Rat := 0
  /-- end of the slew in progress (model) [ns] {R92} (D1) -/
  slewEnd : Nat := 0
  /-- ACQUIRE has pulled the frequency in and slews phase [1 bit] {R91} (D1) -/
  phaseStage : Bool := false
  /-- time of last lock-state change, 0x2102:04 [64 bit] {R90} (spec 0) -/
  lastChange : Nat := 0
  /-- consecutive qualified PPS edges [8 bit] {R87} (D1) -/
  ppsRun : Nat := 0
  /-- timestamp of the last qualified PPS edge in ns [19.53 ps steps] {R87} (D1 none) -/
  ppsLast : Option Rat := none
  /-- edges discarded since the last qualified one [32 bit] {R87} (D1) -/
  ppsSkipped : Nat := 0
  /-- instant of the last shelf-frame boundary taken (model) [ns] {R98} (D1 none) -/
  frameAt : Option Nat := none
  /-- consecutive PPS edges meeting the lock criterion [6 bit] {R91} (D1) -/
  lockRun : Nat := 0
  /-- consecutive 1 s averages of REF10M_IN meeting the lock criterion [6 bit] {R91} (D1) -/
  refLock : Nat := 0
  /-- sum of the frequency errors in the 1 s average in progress [REAL32] {R91} (D1) -/
  refSum : Rat := 0
  /-- intervals in the 1 s average in progress [10 bit] {R91} (D1) -/
  refN : Nat := 0
  /-- the last 1 ms interval of REF10M_IN was beyond 50 ppm [1 bit] {R88} (D1) -/
  refBad : Bool := false
  /-- last measured fractional frequency error [REAL32] {R91} (D1) -/
  freqErr : Rat := 0
  /-- the steering word without its slew offset [REAL32] {R84} (D1) -/
  freqCorr : Rat := 0
  /-- consecutive good 1 ms intervals of REF10M_IN [16 bit] {R88} (D1) -/
  refRun : Nat := 0
  /-- crystal model in RAM {R93} (spec 0) -/
  model : CrystalModel := {}
  /-- holdover alignment term added to c0 [REAL32] {R94} (D1) -/
  alignTerm : Rat := 0
  /-- steering words of the last 100 s, one a second, newest first {R94} (D1 empty) -/
  steerHist : List Rat := []
  /-- last good mean of on-die sensors 0 and 1 [REAL32] {R94} (D1) -/
  lastT : Rat := 0
  /-- both oscillator-side sensors failed, 0x0112 in force [1 bit] {R94} (D1) -/
  tempStale : Bool := false
  /-- 0x0105 raised in this holdover [1 bit] {R95} (D1) -/
  limitRaised : Bool := false
  /-- time of day was valid before the failure now in force {R85} (D1) -/
  validBefore : Bool := false
  /-- the TCXO failed in the failure now in force {R85} (D1) -/
  xoFailed : Bool := false
  /-- the sixteen general timers {R99} (D1) -/
  gen : Vector GenTimer 16 := Vector.replicate 16 {}
  /-- assigned switching period P of LP0..LP7 in cycles, 0 unassigned, 0x2124 [16 bit each] {R103} (spec 0) -/
  loopP : Vector Nat 8 := Vector.replicate 8 0
  /-- assigned frequency of LP0..LP7 in Hz, 0 unassigned, 0x2124 [REAL32 each] {R103} (spec 0) -/
  loopF : Vector Rat 8 := Vector.replicate 8 0
  /-- assigned frequency of REC00..REC31 in Hz, 0 unassigned, 0x2125 [REAL32 each] {R103} (spec 0) -/
  recF : Vector Rat 32 := Vector.replicate 32 0
  deriving DecidableEq, Repr

/-! ## Measurement (05) -/

/-- One precision channel. -/
structure Channel where
  /-- modulator hosting the channel, 0x2206 [15:8] [6 bit] {R116} (spec: home; set in the reset state) -/
  host : Nat := 0
  /-- value at 200 kS/s, 0x2202 [REAL32] {R134} (D1 0) -/
  v200 : Rat := 0
  /-- value at 10 kS/s, 0x2203 [REAL32] {R134} (D1 0) -/
  v10 : Rat := 0
  /-- value at 1 kS/s, 0x2204 [REAL32] {R134} (D1 0) -/
  v1 : Rat := 0
  /-- ball voltage at 1 kS/s, 0x2205 [REAL32] {R110} (D1 0) -/
  ball : Rat := 0
  /-- OVERRANGE, 0x2206 bit 1 [1 bit] {R107} (D1) -/
  overrange : Bool := false
  /-- SETTLING, bit 2 [1 bit] {R113} (D1) -/
  settling : Bool := false
  /-- IN_SWAP, bit 3 [1 bit] {R134} (D1) -/
  inSwap : Bool := false
  /-- CAL_STALE, bit 4 [1 bit] {R119} (D1) -/
  calStale : Bool := false
  /-- DISAGREE, bit 5 [1 bit] {R114} (D1) -/
  disagree : Bool := false
  /-- RANGE_MISMATCH, bit 6 [1 bit] {R129} (D1) -/
  rangeMismatch : Bool := false
  /-- NOT_READY, bit 7 [1 bit] {R120} (spec: set until 45 ms after timebase release) -/
  notReady : Bool := true
  /-- consecutive aborted swaps [2 bit] {R118} (D1) -/
  aborts : Nat := 0
  /-- instant until which the channel is skipped (model) [ns] {R118} (D1) -/
  skipUntil : Nat := 0
  deriving DecidableEq, Repr

/-- One of the 52 sigma-delta modulators. -/
structure Modulator where
  /-- live offset correction o_mod [REAL32] {R117} (D1 0) -/
  off : Rat := 0
  /-- live gain correction g_mod [REAL32] {R117} (D1 1) -/
  gain : Rat := 1
  /-- consecutive calibration failures [2 bit] {R117} (D1) -/
  fails : Nat := 0
  /-- retired, 0x2200:08 [1 bit] {R119} (spec 0) -/
  retired : Bool := false
  deriving DecidableEq, Repr

/-- Where a spare's slot stands (the steps of R116). -/
inductive SlotPhase | idle | calSpare | overlapSpare | readySpare | spareLive | overlapHome | readyHome
  deriving DecidableEq, Repr

/-- One spare's rotation slot. -/
structure Slot where
  /-- step of R116 [3 bit] {R116} (D1 idle) -/
  phase : SlotPhase := .idle
  /-- the channel served [6 bit] {R115} (D1 0) -/
  channel : Fin 48 := 0
  /-- the channel whose turn was taken last [6 bit] {R115} (D1 none) -/
  served : Option (Fin 48) := none
  deriving DecidableEq, Repr

/-- One fast window converter. -/
structure Window where
  /-- codes of the last five samples, newest first, 0x2211 [10 bit each] {R122} (D1 empty) -/
  codes : List Int := []
  deriving DecidableEq, Repr

/-- A calibration set: the image's header fields and its values by dictionary key (R129). -/
structure CalSet where
  /-- device serial number [32 bit] {R129} (D2) -/
  serial : Nat := 0
  /-- origin: 1 factory, 2 user, 3 imported [8 bit] {R129} (D2: 1) -/
  origin : Nat := 1
  /-- write count [32 bit] {R129} (D2: 0) -/
  count : Nat := 0
  /-- time of day at writing [64 bit] {R129} (D2: 0) -/
  time : Nat := 0
  /-- the values, by object key, where they differ from the factory value [32 bit each] {R129} (D2) -/
  vals : List (Nat × Nat) := []
  /-- user-calibrated flags of the channels [48 bit] {R129} (D2: 0) -/
  userCal : BitVec 48 := 0
  /-- range at calibration of the channels, true = divider [48 bit] {R129} (D2: the defaults of R112) -/
  calRange : BitVec 48 := 0xFFFFFFF00003#48
  deriving DecidableEq, Repr

/-- State of a user calibration capture (R133), 0x3620. -/
inductive CaptureState | idle | capturing (pointB : Bool) | aHeld | abHeld | computed | failed
  deriving DecidableEq, Repr

/-- The capture unit of R133. -/
structure Capture where
  /-- capture state, 0x3620:05 [3 bit] {R135} (spec 0) -/
  state : CaptureState := .idle
  /-- ball voltage held at A, 0x3620:06 [REAL32] {R135} (D1 0) -/
  vA : Rat := 0
  /-- ball voltage held at B, 0x3620:07 [REAL32] {R135} (D1 0) -/
  vB : Rat := 0
  /-- point A is held [1 bit] {R133} (D1) -/
  heldA : Bool := false
  /-- point B is held [1 bit] {R133} (D1) -/
  heldB : Bool := false
  /-- true value written for A [REAL32] {R133} (D1 0) -/
  qA : Rat := 0
  /-- true value written for B [REAL32] {R133} (D1 0) -/
  qB : Rat := 0
  /-- sum of the ball voltages averaged so far [REAL32] {R133} (D1 0) -/
  sum : Rat := 0
  /-- outputs averaged so far [16 bit] {R133} (D1 0) -/
  n : Nat := 0
  /-- the capture of A saw OVERRANGE [1 bit] {R133} (D1) -/
  overA : Bool := false
  /-- the capture of B saw OVERRANGE [1 bit] {R133} (D1) -/
  overB : Bool := false
  /-- computed gain, 0x3620:08 [REAL32] {R135} (D1 0) -/
  gain : Rat := 0
  /-- computed offset, 0x3620:09 [REAL32] {R135} (D1 0) -/
  off : Rat := 0
  deriving DecidableEq, Repr

/-- The measurement chain. -/
structure Measure where
  /-- the 48 precision channels {R106} -/
  ch : Vector Channel 48 := Vector.ofFn fun k => { host := k.val }
  /-- the 52 modulators: homes 0..47, spares 48..51 {R106} -/
  modu : Vector Modulator 52 := Vector.replicate 52 {}
  /-- the healthy spares in pool order, 0x2200:05 is its length {R119} (spec 4) -/
  pool : List (Fin 52) := [48, 49, 50, 51]
  /-- rotation slot of each spare {R115} (D1 idle) -/
  slots : Vector Slot 4 := Vector.replicate 4 {}
  /-- swaps completed, 0x2200:06 [32 bit] {R134} (spec 0) -/
  swaps : U32 := 0
  /-- swaps aborted, 0x2200:07 [32 bit] {R134} (spec 0) -/
  swapAborts : U32 := 0
  /-- rho in force [REAL32] {R111} (D1 0) -/
  rho : Rat := 0
  /-- rho waiting for the next 1 ms output boundary {R111} (D1 none) -/
  rhoNext : Option Rat := none
  /-- rho frozen, 0x0206 in force [1 bit] {R111} (D1) -/
  rhoFrozen : Bool := false
  /-- consecutive failed pair checks, pairs 0/1 and 2/3 [4 bit each] {R114} (D1) -/
  pairFails : Vector Nat 2 := Vector.replicate 2 0
  /-- consecutive failed reference checks [2 bit] {R127} (D1) -/
  refFails : Nat := 0
  /-- REF_FAIL in force [1 bit] {R127} (D1) -/
  refFail : Bool := false
  /-- the window converters {R122} (D1) -/
  win : Vector Window 8 := Vector.replicate 8 {}
  /-- phase currents, 0x2222 [REAL32 each] {R123} (D1 0) -/
  phaseI : Vector Rat 32 := Vector.replicate 32 0
  /-- IMON voltages last converted [12 bit each] {R123} (D1 0) -/
  imonV : Vector Rat 32 := Vector.replicate 32 0
  /-- string currents at 10 kS/s, 0x2240:01-04 [REAL32 each] {R124} (D1 0) -/
  stI10 : Vector Rat 4 := Vector.replicate 4 0
  /-- string currents at 1 kS/s, 0x2240:05-08 [REAL32 each] {R124} (D1 0) -/
  stI1 : Vector Rat 4 := Vector.replicate 4 0
  /-- latest BVS branch output voltages [REAL32 each] {R125} (D1 0) -/
  bvs : Vector Rat 16 := Vector.replicate 16 0
  /-- latest HKA ball voltages [REAL32 each] {R125} (D1 0) -/
  hka : Vector Rat 4 := Vector.replicate 4 0
  /-- sums of the housekeeping slots 0 to 19 in the 1 ms in progress [20 × REAL32] {R125} (D1 0) -/
  hkSum : Vector Rat 20 := Vector.replicate 20 0
  /-- conversions in those sums [6 bit each] {R125} (D1 0) -/
  hkN : Vector Nat 20 := Vector.replicate 20 0
  /-- 1 ms means of BVS00 to BVS15 (scaled) and HKA0 to HKA3, 0x2231 and 0x2232 [20 × REAL32] {R125} (D1 0) -/
  hkMean : Vector Rat 20 := Vector.replicate 20 0
  /-- VCORE tap [REAL32] {R125} (D1 0) -/
  vcoreTap : Rat := 0
  /-- VANA tap [REAL32] {R125} (D1 0) -/
  vanaTap : Rat := 0
  /-- the measurement block has been committed since reset: the sense bias is on [1 bit] {R56} (spec 0: off) -/
  committed : Bool := false
  /-- calibration working copy {R130} (D2) -/
  calWork : CalSet := {}
  /-- the two halves of the calibration partition; none = no valid set {R130} (D2: half 0 factory) -/
  calHalf : Vector (Option CalSet) 2 := #v[some {}, none]
  /-- working copy differs from MRAM, 0x3600:06 [1 bit] {R135} (spec 0) -/
  calDiffers : Bool := false
  /-- the set whose write to the other half is in progress {R130} (D1 none) -/
  calWriting : Option CalSet := none
  /-- the capture unit {R133} -/
  cap : Capture := {}
  /-- flags and ranges of the channels' records before the block's last application, for its rollback (model) [96 bit] {R348} (D5 none) -/
  calPrev : Option (BitVec 48 × BitVec 48) := none
  deriving DecidableEq, Repr

/-! ## Compensator lanes (06) -/

/-- The stage types of R139. -/
inductive StageType | biquad | integrator | leadLag | limiter
  deriving DecidableEq, Repr

/-- One converted stage of a lane bank: type, coefficient mantissas at one exponent, limits, hold mark. -/
structure Stage where
  /-- type [2 bit] {R139} (spec 3) -/
  type : StageType := .limiter
  /-- coefficient mantissas: biquad b0 b1 b2 a1 a2, integrator k, lead-lag b0 b1 a1 [18 bit each] {R141} (spec 0) -/
  coef : List Int := []
  /-- coefficient exponent f [6 bit] {R141} (spec 0) -/
  f : Int := 0
  /-- limiter lo and hi at one exponent, and rate [3 words] {R142} (spec 0) -/
  lo : SigWord := {}
  /-- upper limit word [30 bit] {R142} (spec 0) -/
  hi : SigWord := {}
  /-- rate limit word [30 bit] {R142} (spec 0) -/
  rate : SigWord := {}
  /-- marked hold-on-limit [1 bit] {R152} (spec 0) -/
  hold : Bool := false
  deriving DecidableEq, Repr

/-- State words of one stage: s or s₁, s₂, or y_prev, sharing one exponent. -/
structure StageState where
  /-- first state word's mantissa [24 bit] {R139} (spec 0) -/
  w1 : Int := 0
  /-- second state word's mantissa [24 bit] {R139} (spec 0) -/
  w2 : Int := 0
  /-- output mantissa of the last completed sample [24 bit] {R140} (spec 0) -/
  y : Int := 0
  /-- the stage's exponent [6 bit] {R140} (spec −32) -/
  e : Int := -32
  deriving DecidableEq, Repr

/-- A lane's live bank: the converted configuration (R153). -/
structure Bank where
  /-- lane enable [1 bit] {R157} (spec R137) -/
  enable : Bool := false
  /-- the stages, one to six [6 stages] {R139} (spec: one limiter) -/
  stages : List Stage := [{}]
  /-- input source 0..2 [2 bit] {R138} (spec R137) -/
  source : Nat := 0
  /-- input selector [6 bit] {R157} (spec R137) -/
  selector : Nat := 0
  /-- input gain g_in [REAL32] {R138} (spec 1.0) -/
  gain : Rat := 1
  /-- trigger kind [3 bit] {R148} (spec R137) -/
  trigger : Nat := 0
  /-- trigger period or multiple [25 bit] {R148} (spec 1) -/
  period : Nat := 1
  /-- consumer [3 bit] {R157} (spec R137) -/
  consumer : Nat := 0
  /-- reset states at commit [1 bit] {R154} (spec 0) -/
  resetStates : Bool := false
  /-- tracked lane, LN11 only [4 bit] {R157} (spec 0xFF none) -/
  tracked : Option (Fin 12) := none
  deriving DecidableEq, Repr

/-- A sample in progress: its results wait for completion in time (R147). -/
structure Sample where
  /-- input word [30 bit] {R138} (D1) -/
  x0 : SigWord := {}
  /-- new stage states [6 stages] {R147} (D1) -/
  states : List StageState := []
  /-- output word [30 bit] {R147} (D1) -/
  out : SigWord := {}
  /-- the output limiter was limited, and which clamps acted [4 bit] {R151} (D1) -/
  limited : Bool := false
  /-- lo acted {R151} (D1) -/
  limLo : Bool := false
  /-- hi acted {R151} (D1) -/
  limHi : Bool := false
  /-- rate acted and no level clamp {R151} (D1) -/
  limRate : Bool := false
  /-- a word saturated {R145} (D1) -/
  sat : Bool := false
  /-- the trigger time in ns {R148} (D1) -/
  at_ : Nat := 0
  deriving DecidableEq, Repr

/-- One compensator lane. -/
structure Lane where
  /-- the live bank {R153} (spec: defaults of R137, R189) -/
  bank : Bank := {}
  /-- a committed bank awaiting the next trigger, SWAP_PENDING, status bit 9 {R153} (spec none) -/
  pendingBank : Option Bank := none
  /-- stage states of the last completed sample [6 stages] {R139} (spec 0 at exponent −32) -/
  states : List StageState := [{}]
  /-- the sample being computed {R147} (D1 none) -/
  sample : Option Sample := none
  /-- lane output in force at the consumer [30 bit] {R146} (spec 0) -/
  out : SigWord := {}
  /-- MISS, status bit 0 [1 bit] {R158} (spec 0) -/
  miss : Bool := false
  /-- LIMITED, bit 1 [1 bit] {R158} (spec 0) -/
  limited : Bool := false
  /-- LIM_LO, bit 2 [1 bit] {R158} (spec 0) -/
  limLo : Bool := false
  /-- LIM_HI, bit 3 [1 bit] {R158} (spec 0) -/
  limHi : Bool := false
  /-- LIM_RATE, bit 4 [1 bit] {R158} (spec 0) -/
  limRate : Bool := false
  /-- SAT, bit 5 [1 bit] {R158} (spec 0) -/
  sat : Bool := false
  /-- FAULT, bit 6 [1 bit] {R158} (spec 0) -/
  fault : Bool := false
  /-- INPUT_STALE, bit 7 [1 bit] {R158} (spec 0) -/
  inputStale : Bool := false
  /-- TRACKING, bit 8 [1 bit] {R158} (spec 0) -/
  tracking : Bool := false
  /-- misses, 0x2350+n:02 [32 bit] {R157} (spec 0) -/
  misses : U32 := 0
  /-- consecutive misses, 0x2350+n:03 [8 bit] {R157} (spec 0) -/
  consecutive : Nat := 0
  /-- saturations, 0x2350+n:04 [32 bit] {R157} (spec 0) -/
  saturations : U32 := 0
  /-- minimum slack since reset, 0x2350+n:06; none before a sample [REAL32] {R157} (D1) -/
  slackMin : Option Rat := none
  /-- samples tracked, 0x2350+n:08 [32 bit] {R157} (spec 0) -/
  tracked : U32 := 0
  /-- a sample has completed since the last snapshot [1 bit] {R389} (D1) -/
  fresh : Bool := false
  /-- input word of the last trigger [30 bit] {R138} (D1 0) -/
  x0 : SigWord := {}
  /-- last READY value of the named measurement; none = none since the block was applied [REAL32] {R138} (spec none) -/
  lastReady : Option Rat := none
  /-- alignment words received and waiting for the next sample {R389} (D1 none) -/
  align : Option LaneRecord := none
  /-- transfer target waiting for this lane's next trigger {R156} (D1 none) -/
  transferTo : Option (Fin 12) := none
  /-- the consumer this lane drives now (moved by a transfer) [3 bit, loop 3 bit] {R156} (spec: its own) -/
  drives : Option (Fin 12) := none
  deriving DecidableEq, Repr

/-- The default bank of the lane of a loop (R137). -/
def Bank.ofLoop (l : Nat) : Bank := { enable := true, selector := l, trigger := 1, consumer := 1 }

/-- A default bank of the shelf (R189): its stage 1, its limiter's words, gain, trigger kind and consumer. -/
def Bank.ofShelf (g : Stage) (lo hi : SigWord) (gain : Rat) (trigger consumer : Nat) : Bank :=
  { enable := true, stages := [{ g with hold := true }, { lo := lo, hi := hi }], source := 1, gain := gain, trigger := trigger, consumer := consumer }

/-- The lanes at their defaults (R137, R189), the coefficients converted as R141 and R142 say; 0.02 is the nearest REAL32. -/
def Lane.defaults : Vector Lane 12 :=
  #v[{ bank := .ofLoop 0 }, { bank := .ofLoop 1 }, { bank := .ofLoop 2 }, { bank := .ofLoop 3 },
    { bank := .ofLoop 4 }, { bank := .ofLoop 5 }, { bank := .ofLoop 6 }, { bank := .ofLoop 7 },
    { bank := .ofShelf { type := .leadLag, coef := [102400, -97280, -256], f := 9 } { m := -2048000, e := 12 } { m := 7168000, e := 12 } (-1) 2 2
      states := [{}, {}] },
    { bank := .ofShelf { type := .integrator, coef := [104858], f := -4 } { m := 0, e := 12 } { m := 8192000, e := 12 }
        (5368709 / 268435456) 2 3
      states := [{}, {}] },
    { bank := .ofShelf { type := .integrator, coef := [107374], f := -13 } { m := 0, e := 2 } { m := 6291456, e := 2 } (-1) 3 4
      states := [{}, {}] },
    { bank := { source := 1 } }]

/-! ## Regulator loops (07) -/

/-- Phase states, 0x2440 (R185). -/
inductive PhaseState | unassigned | participating | tapering | shed | blind | removedOpen | removedSense
  deriving DecidableEq, Repr

/-- One PWM phase. -/
structure Phase where
  /-- phase state, 0x2440 [8 bit] {R185} (spec 0) -/
  st : PhaseState := .unassigned
  /-- balance term b_i [REAL32] {R166} (spec 0 at rail start) -/
  bal : Rat := 0
  /-- taper pulses emitted, 0..3 [2 bit] {R178} (D1) -/
  taper : Nat := 0
  /-- consecutive qualifying pulses without rise [2 bit] {R179} (D1) -/
  openRun : Nat := 0
  /-- consecutive implausible periods [7 bit] {R180} (D1) -/
  implRun : Nat := 0
  /-- time at which the pulse in progress ends, in ns {R165} (D1 0) -/
  offAt : Nat := 0
  /-- on-time N of the last pulse in 19.53 ps steps [20 bit] {R165} (D1 0) -/
  onSteps : Nat := 0
  /-- released at its next slot edge by a stop or removal [1 bit] {R184} (D1) -/
  stopping : Bool := false
  /-- conversion requests of its pulse that wait: at the trailing edge or the leading one, and the edge's time in ns {R179} (D1 empty) -/
  requests : List (Bool × Nat) := []
  /-- current at the leading edge of its pulse, converted within 20 ns of its request [REAL32] {R179} (D1 none) -/
  leading : Option Rat := none
  deriving DecidableEq, Repr

/-- One regulator loop. -/
structure Loop where
  /-- RUNNING, status bit 0 [1 bit] {R186} (spec 0) -/
  running : Bool := false
  /-- ramped setpoint V_set, 0x2420+n:03 [REAL32] {R167} (spec 0) -/
  vSet : Rat := 0
  /-- the value the ramp moves to (0 V during a ramped stop) [REAL32] {R168} (spec 0) -/
  vTarget : Rat := 0
  /-- a ramped stop is in progress [1 bit] {R168} (D1) -/
  rampStop : Bool := false
  /-- ON_VLCL, bit 2 [1 bit] {R186} (spec 0) -/
  onVlcl : Bool := false
  /-- a move to VLCL awaits the next lane trigger [1 bit] {R171} (D1) -/
  toVlcl : Bool := false
  /-- time of the last move to VLCL in ns {R176} (D1 0) -/
  vlclAt : Nat := 0
  /-- OUT_HIGH, bit 3 [1 bit] {R186} (spec 0) -/
  outHigh : Bool := false
  /-- OUT_LOW, bit 4 [1 bit] {R186} (spec 0) -/
  outLow : Bool := false
  /-- SUPPRESSED, bit 5 [1 bit] {R186} (spec 0) -/
  suppressed : Bool := false
  /-- duty ceiling c; none = at hi [30 bit] {R174} (spec hi) -/
  ceiling : Option SigWord := none
  /-- CURRENT_LIMIT, bit 6 [1 bit] {R186} (spec 0) -/
  currentLimit : Bool := false
  /-- the ceiling has stood at hi for 1 s since 0x0408 {R174} (D1 armed) -/
  limitArmed : Bool := true
  /-- DEGRADED, bit 7 [1 bit] {R186} (spec 0) -/
  degraded : Bool := false
  /-- degraded limit of R179, none while no phase is removed [REAL32] {R179} (D1) -/
  degradedLim : Option Rat := none
  /-- BELLOWS, bit 8 [1 bit] {R186} (spec 0) -/
  bellowsOn : Bool := false
  /-- bellows applies to leading edges after this time in ns {R177} (D1 0) -/
  bellowsFrom : Nat := 0
  /-- the B periods of bellows end at this time in ns {R177} (D1 0) -/
  bellowsEnd : Nat := 0
  /-- SHED_PENDING, bit 9 [1 bit] {R186} (spec 0) -/
  shedPending : Bool := false
  /-- SHEDDING, bit 10 [1 bit] {R186} (spec 0) -/
  shedding : Bool := false
  /-- TRIM_LIMITED, bit 11 [1 bit] {R186} (spec 0) -/
  trimLimited : Bool := false
  /-- SYNC_LOCKED, bit 12 [1 bit] {R186} (spec 0) -/
  syncLocked : Bool := false
  /-- SYNC_LOST, bit 13 [1 bit] {R186} (spec 0) -/
  syncLost : Bool := false
  /-- SENSE_LOST, bit 15 [1 bit] {R186} (spec 0) -/
  senseLost : Bool := false
  /-- output voltage, selected sense, 0x2420+n:02 [REAL32] {R185} (D1 0) -/
  vOut : Rat := 0
  /-- trim correction, 0x2420+n:04 [REAL32] {R170} (spec 0) -/
  trim : Rat := 0
  /-- loop current I_loop, 0x2420+n:05 [REAL32] {R174} (spec 0) -/
  current : Rat := 0
  /-- consecutive VLCL samples inside the window [2 bit] {R171} (D1) -/
  vlclRun : Nat := 0
  /-- since when OUT_HIGH or OUT_LOW persists, in ns {R171} (D1 none) -/
  satSince : Option Nat := none
  /-- window samples since the last one of VLCL, at most nine [4 bit] {R171} (D1 0) -/
  winRun : Nat := 0
  /-- the first pulse since the rail start has been emitted [1 bit] {R165} (spec 0) -/
  pulsed : Bool := false
  /-- adds decided for the next period boundary [32 bit mask] {R178} (D1) -/
  addPending : BitVec 32 := 0
  /-- slots are recompacted at the next period boundary [1 bit] {R162} (D1) -/
  recompact : Bool := false
  /-- slot offsets of the phases in 19.53 ps steps, in ascending phase order [20 bit each] {R161} (D1 empty) -/
  slots : List Nat := []
  /-- lane samples since the rail start (k of R163) [32 bit] {R163} (spec 0) -/
  sampleK : Nat := 0
  /-- slot edge of the last lane trigger since the rail start, in 19.53 ps steps {R163} (D1 none) -/
  trigAt : Option Nat := none
  /-- lane output that applies to leading edges now (duty of sample k under R164) [30 bit] {R164} (D1 0) -/
  duty : SigWord := {}
  /-- period P in force in 1/256 cycles, 0x2420+n:0D [REAL32] {R161} (D1 0) -/
  period : Nat := 0
  /-- time of the latest reference edge in 19.53 ps steps; none before it is placed {R182} (D1 none) -/
  refEdge : Option Nat := none
  /-- the period boundary of the latest reference edge has passed [1 bit] {R161} (D1) -/
  bounded : Bool := false
  /-- time of the latest period boundary in 19.53 ps steps {R161} (D1 0) -/
  boundAt : Nat := 0
  /-- periods left in which phase currents are not judged (R180) [4 bit] {R180} (D1 0) -/
  quiet : Nat := 0
  /-- the last SYNC_IN period was outside ±10 % of nominal [1 bit] {R181} (D1) -/
  syncBad : Bool := false
  /-- tracked SYNC_IN period in 1/256 cycles [20 bit] {R181} (D1 0) -/
  syncPeriod : Nat := 0
  /-- consecutive good SYNC_IN periods [5 bit] {R181} (D1) -/
  syncRun : Nat := 0
  /-- last SYNC_IN periods, at most eight, newest first [20 bit each] {R181} (D1 empty) -/
  syncHist : List Nat := []
  /-- truncations, 0x2420+n:0A [32 bit] {R185} (spec 0) -/
  truncations : U32 := 0
  /-- bellows events, 0x2420+n:0B [32 bit] {R185} (spec 0) -/
  bellowsEvents : U32 := 0
  /-- sheds completed, 0x2420+n:0C [32 bit] {R185} (spec 0) -/
  sheds : U32 := 0
  deriving DecidableEq, Repr

/-! ## Shelf loop and share link (08) -/

/-- A slow-channel transaction outstanding with a rectifier (R213). -/
structure SlowMsg where
  /-- write (true) or read [1 bit] {R213} (D1) -/
  write : Bool := false
  /-- register number [8 bit] {R213} (D1) -/
  reg : Nat := 0
  /-- write value [16 bit] {R213} (D1) -/
  value : Nat := 0
  /-- toggle of the message [1 bit] {R213} (D1) -/
  toggle : Bool := false
  /-- attempts made [2 bit] {R213} (D1) -/
  attempts : Nat := 0
  /-- issued through 0x2E41 by the user [1 bit] {R217} (D1) -/
  user : Bool := false
  /-- sent in a downlink and waiting for its answer [1 bit] {R213} (D1) -/
  sent : Bool := false
  deriving DecidableEq, Repr

/-- One rectifier as the chip sees it. -/
structure Rectifier where
  /-- state, 0x2E30 [8 bit] {R214} (spec 0) -/
  st : RecState := .disabled
  /-- consecutive valid replies [2 bit] {R214} (D1) -/
  goodRun : Nat := 0
  /-- consecutive scheduled replies missing [2 bit] {R214} (D1) -/
  missRun : Nat := 0
  /-- consecutive scheduled frames with energy and no valid reply [3 bit] {R214} (D1) -/
  corruptRun : Nat := 0
  /-- it has reported an output voltage, SEL 1 [1 bit] {R196} (D1) -/
  voutSeen : Bool := false
  /-- FALLBACK in its latest reply [1 bit] {R211} (D1) -/
  fbk : Bool := false
  /-- AC_OK in its latest reply [1 bit] {R211} (D1) -/
  acOk : Bool := false
  /-- LIMIT in its latest reply [1 bit] {R211} (D1) -/
  limit : Bool := false
  /-- reported current in A, 0x2E31 [REAL32] {R217} (spec 0) -/
  current : Rat := 0
  /-- input power in W, 0x2E33 [REAL32] {R217} (spec 0) -/
  pin : Rat := 0
  /-- output voltage, negative, 0x2E34 [REAL32] {R217} (spec 0) -/
  vout : Rat := 0
  /-- temperature, 0x2E35 [REAL32] {R217} (spec 0) -/
  temp : Rat := 0
  /-- available current, 0x2E36 [REAL32] {R217} (spec 0) -/
  avail : Rat := 0
  /-- capacity before the throttle factor, from the telemetry of the last intake [REAL32] {R192} (D1 0) -/
  base : Rat := 0
  /-- capacity u_i, 0x2E37 [REAL32] {R217} (spec 0) -/
  cap : Rat := 0
  /-- demand D_i, 0x2E32; none = 0xFFFF [REAL32] {R217} (spec 0) -/
  demand : Option Rat := some 0
  /-- slow registers 0x00..0x0B as read in the join [12 × 16 bit] {R213} (D1 0) -/
  regs : Vector Nat 12 := Vector.replicate 12 0
  /-- step of the join in progress: reads 0..11, then writes 12..17 [5 bit] {R214} (D1 0) -/
  joinStep : Nat := 0
  /-- toggle of the last transaction started [1 bit] {R213} (D1 0) -/
  toggle : Bool := false
  /-- toggle of the last answer that a standby heard in the join in progress {R216} (D1 none) -/
  heard : Option Bool := none
  /-- transaction outstanding {R213} (D1 none) -/
  slow : Option SlowMsg := none
  /-- a frequency index must be sent after a re-assignment [1 bit] {R103} (D1) -/
  freqPending : Bool := false
  /-- invalid or missing replies, 0x2E3B [32 bit] {R217} (spec 0) -/
  invalid : U32 := 0
  deriving DecidableEq, Repr

/-- The shelf loop, capping, hold-up and the share link. -/
structure Shelf where
  /-- RUNNING, status bit 0 [1 bit] {R218} (spec 0) -/
  running : Bool := false
  /-- a start awaits a READY bus channel [1 bit] {R191} (D1) -/
  startPending : Bool := false
  /-- the shelf block has been committed since reset (downlinks run) [1 bit] {R209} (spec 0) -/
  linkOn : Bool := false
  /-- DROOP_RELEASE, bit 1 [1 bit] {R218} (spec 0) -/
  droop : Bool := false
  /-- CAP_ACTIVE, bit 2 [1 bit] {R218} (spec 0) -/
  capActive : Bool := false
  /-- CAPACITY, bit 3 [1 bit] {R218} (spec 0) -/
  capacity : Bool := false
  /-- HOLDUP, bit 4 [1 bit] {R218} (spec 0) -/
  holdup : Bool := false
  /-- CAP_OVERRIDE, bit 6 [1 bit] {R218} (spec 0) -/
  capOverride : Bool := false
  /-- BUS_OV, bit 7 [1 bit] {R218} (spec 0) -/
  busOv : Bool := false
  /-- BUS_UV, bit 8 [1 bit] {R218} (spec 0) -/
  busUv : Bool := false
  /-- FF_ALT, bit 9 [1 bit] {R218} (spec 0) -/
  ffAlt : Bool := false
  /-- partner bus-voltage channel in use, SENSE_ALT (bit 10) with `curAlt` [1 bit] {R218} (spec 0) -/
  senseAlt : Bool := false
  /-- partner bus-current channel in use [1 bit] {R196} (spec 0) -/
  curAlt : Bool := false
  /-- SHELF_OFF, bit 12 [1 bit] {R218} (spec 0) -/
  shelfOff : Bool := false
  /-- MAINS_LOST, bit 13 [1 bit] {R218} (spec 0) -/
  mainsLost : Bool := false
  /-- ramped value of the bus reference, before the LN10 trim [REAL32] {R188} (D1 0) -/
  ref : Rat := 0
  /-- LN10 reference trim; 0x2E20:0D is `ref` plus it [REAL32] {R188} (spec 0) -/
  trim : Rat := 0
  /-- LN10 trim held by 0x0503 [1 bit] {R198} (spec 0) -/
  trimHeld : Bool := false
  /-- ceiling C held by 0x0502; cap-driven shedding stopped [1 bit] {R198} (spec 0) -/
  capHeld : Bool := false
  /-- the last completed output of LN09 that 0x0502 holds C at [REAL32] {R198} (D1 0) -/
  heldC : Rat := 0
  /-- LN08's and LN09's presets wait for their first sample after a start [2 bit] {R191} (D1 0) -/
  presets : BitVec 2 := 0
  /-- latest feed-forward sum from the adder [REAL32] {R195} (spec 0) -/
  ffSum : Rat := 0
  /-- latched feed-forward F, 0x2E20:03 [REAL32] {R195} (spec 0) -/
  ff : Rat := 0
  /-- consecutive disagreeing comparisons [4 bit] {R195} (D1) -/
  ffRun : Nat := 0
  /-- LN08 term y8 of the last assembly, 0x2E20:04 [REAL32] {R193} (spec 0) -/
  y8 : Rat := 0
  /-- shelf capacity U, 0x2E20:05 [REAL32] {R192} (spec 0) -/
  u : Rat := 0
  /-- ceiling C, 0x2E20:06 [REAL32] {R193} (spec 0) -/
  c : Rat := 0
  /-- consecutive frames with no READY voltage channel [2 bit] {R196} (D1) -/
  senseBad : Nat := 0
  /-- frame sequence SEQ, 0x2E20:0E [16 bit] {R217} (spec 0) -/
  seq : BitVec 16 := 0
  /-- demand codes of the last assembly [16 bit each] {R193} (spec 0xFFFF before the start) -/
  codes : Vector Nat 32 := Vector.replicate 32 0xFFFF
  /-- the downlink buffer, frozen at t = 24.0 µs {R38} (D1 none) -/
  buffer : Option Downlink := none
  /-- the downlink last begun {R208} (D1 none) -/
  sent : Option Downlink := none
  /-- round-robin pointer of the slow channel [5 bit] {R213} (D1 0) -/
  slowNext : Fin 32 := 0
  /-- branches held off by capping, most recent first, CAP_SHED (bit 5) while non-empty {R200} (spec empty) -/
  capShed : List (Fin 16) := []
  /-- hold-up stages reached [8 bit] {R202} (spec 0) -/
  stages : BitVec 8 := 0
  /-- highest stage reached, 0x2E20:0C; 0xFF none [8 bit] {R217} (spec 0xFF) -/
  stageNo : Nat := 0xFF
  /-- shelf SoC, 0x2E20:0A [REAL32] {R250} (spec 0: no string connected) -/
  soc : Rat := 0
  /-- autonomy in s, 0x2E20:0B [REAL32] {R204} (spec −1) -/
  autonomy : Rat := -1
  /-- last ten net discharge currents at 1 s, newest first [10 × REAL32] {R204} (D1 empty) -/
  dischHist : List Rat := []
  /-- the rectifiers {R214} (spec 0) -/
  rects : Vector Rectifier 32 := Vector.replicate 32 {}
  /-- frames sent, ports A and B, 0x2E40:01-02 [32 bit each] {R217} (spec 0) -/
  frames : Vector U32 2 := Vector.replicate 2 0
  /-- readback failures, ports A and B, 0x2E40:03-04 [32 bit each] {R217} (spec 0) -/
  readbackFails : Vector U32 2 := Vector.replicate 2 0
  /-- consecutive invalid readbacks, ports A and B [2 bit each] {R215} (D1) -/
  readbackRun : Vector Nat 2 := Vector.replicate 2 0
  /-- slow transactions completed, 0x2E40:05 [32 bit] {R217} (spec 0) -/
  slowDone : U32 := 0
  /-- slow timeouts, 0x2E40:06 [32 bit] {R217} (spec 0) -/
  slowTimeouts : U32 := 0
  /-- wrong-port replies, 0x2E40:07 [32 bit] {R217} (spec 0) -/
  wrongPort : U32 := 0
  /-- slots of the frame whose reply has been taken [4 bit] {R206} (D1 0) -/
  slotOk : BitVec 4 := 0
  /-- slots of the frame with energy and no valid reply so far [4 bit] {R214} (D1 0) -/
  slotBad : BitVec 4 := 0
  /-- in mode 2, a valid copy on port B within its bit time: slot, characters 1 to 7, time of completion {R206} (D1 none) -/
  heldCopy : Option (Fin 4 × List Byte × Nat) := none
  /-- a user access waiting for its rectifier's channel: rectifier, write, register, value {R217} (D1 none) -/
  userSlow : Option (Fin 32 × Bool × Nat × Nat) := none
  /-- slow access state, 0x2E41:05 [3 bit] {R217} (spec 0) -/
  slowState : Nat := 0
  deriving DecidableEq, Repr

/-! ## Distribution (09) -/

/-- One distribution branch channel. -/
structure Branch where
  /-- channel state, 0x2620+k:01 [8 bit] {R223} (spec 0) -/
  st : BrState := .off
  /-- the branch rail is commanded on by the sequencer [1 bit] {R223} (D1 off) -/
  cmd : Bool := false
  /-- limit comparator asserted [1 bit] {R227} (D1) -/
  limit : Bool := false
  /-- breaker comparator asserted [1 bit] {R239} (D1) -/
  breaker : Bool := false
  /-- retries used, 0x2620+k:02 [8 bit] {R244} (spec 0) -/
  retries : Nat := 0
  /-- trips, 0x2620+k:03 [32 bit] {R244} (spec 0) -/
  trips : U32 := 0
  /-- last trip cause, 0x2620+k:04 [16 bit] {R244} (spec 0) -/
  cause : Nat := 0
  /-- inrush energy accumulated in J [REAL32] {R226} (D1 0) -/
  energy : Rat := 0
  /-- last inrush energy, 0x2620+k:05 [REAL32] {R226} (spec 0) -/
  lastEnergy : Rat := 0
  /-- start of the inrush in progress in ns {R226} (D1 0) -/
  inrushAt : Nat := 0
  /-- last inrush duration in s, 0x2620+k:06 [REAL32] {R226} (spec 0) -/
  lastDuration : Rat := 0
  /-- V_DS, 0x2620+k:07 [REAL32] {R222} (D1 0) -/
  vds : Rat := 0
  /-- fault timer elapsed in ns before its present run, 0x2620+k:08 [REAL32] {R227} (spec 0) -/
  faultElapsed : Nat := 0
  /-- the fault timer's present run began at this time; none = stopped {R227} (D1) -/
  faultSince : Option Nat := none
  /-- the presence input was active at the last evaluation [1 bit] {R230} (D1) -/
  present : Bool := false
  /-- the branch was removed and its reinsertion will be recorded [1 bit] {R230} (D1) -/
  removed : Bool := false
  /-- time the gate was last sunk in ns {R232} (D1 0) -/
  sunkAt : Nat := 0
  /-- QUENCHED channel to go to OFF whatever its request at the end of the minimum off time {R240} (D1) -/
  toOff : Bool := false
  deriving DecidableEq, Repr

/-- What a feed pair is doing (R234 to R237). -/
inductive FeedPhase | off | waiting | settling | good | deadTime (revert : Bool)
  deriving DecidableEq, Repr

/-- One A/B feed pair. -/
structure FeedPair where
  /-- what the pair is doing {R234} (D1 off) -/
  phase : FeedPhase := .off
  /-- selected feed, 0x2632+p:01: false = A, true = B, none [8 bit] {R244} (spec 0xFF none) -/
  sel : Option Bool := none
  /-- qualified feeds, 0x2632+p:02 [2 bit] {R244} (spec 0) -/
  qual : Vector Bool 2 := Vector.replicate 2 false
  /-- times in ns since which A and B have been qualified {R237} (D1 0) -/
  qualAt : Vector Nat 2 := Vector.replicate 2 0
  /-- consecutive outputs of the selected feed outside its window [8 bit] {R235} (D1) -/
  lossRun : Nat := 0
  /-- times at which the gates of A and B were last sunk in ns {R236} (D1 0) -/
  sunkAt : Vector Nat 2 := Vector.replicate 2 0
  /-- the selected feed has been declared lost and stays on [1 bit] {R235} (D1) -/
  lost : Bool := false
  /-- feed to source at the end of the dead time {R236} (D1 none) -/
  next : Option Bool := none
  /-- transfers, 0x2632+p:03 [32 bit] {R244} (spec 0) -/
  transfers : U32 := 0
  /-- time of last transfer, 0x2632+p:04 [64 bit] {R244} (spec 0) -/
  lastTransfer : Nat := 0
  /-- the pair's rail is commanded on [1 bit] {R234} (D1 off) -/
  cmd : Bool := false
  /-- latched off by an upstream open [1 bit] {R233} (D1) -/
  latched : Bool := false
  /-- in GATE_UV [1 bit] {R231} (D1) -/
  gateUv : Bool := false
  deriving DecidableEq, Repr

/-- Distribution: branches, feeds, quench. -/
structure Dist where
  /-- the branches {R223} (spec 0) -/
  br : Vector Branch 16 := Vector.replicate 16 {}
  /-- the feed pairs {R234} (spec 0) -/
  feed : Vector FeedPair 2 := Vector.replicate 2 {}
  /-- string channel states, 0x2640:01-04 [8 bit each] {R244} (spec 0) -/
  str : Vector StrState 4 := Vector.replicate 4 .off
  /-- quench latches, 0x2600:05; bit s − 1 for source s [18 bit] {R240} (spec 0) -/
  quench : BitVec 18 := 0
  /-- QUENCH_IN ball low [1 bit] {R239} (D1 high: pull-up) -/
  quenchIn : Bool := false
  /-- QUENCH_OUT driven low [1 bit] {R241} (spec: released) -/
  quenchOut : Bool := false
  /-- QUENCH_IN is ignored until 1 µs after this chip's release [1 bit] {R241} (D1) -/
  quenchIgnore : Bool := false
  /-- the distribution block has been committed since reset [1 bit] {R59} (spec 0) -/
  committed : Bool := false
  deriving DecidableEq, Repr

/-! ## Battery (10) -/

/-- What the learned-data partition keeps of one string (R262). -/
structure LearnedString where
  /-- C_s [REAL32] {R262} (D1) -/
  c : Rat := 0
  /-- Q_s [64-bit fixed point, 2^-32 C] {R262} (D1) -/
  q : Rat := 0
  /-- string status [16 bit] {R262} (D1) -/
  status : Nat := 0
  /-- uncounted time of the cycle in s {R262} (D1) -/
  uncounted : Rat := 0
  /-- cycle count [32 bit] {R262} (D1) -/
  cycles : U32 := 0
  /-- time of the last full anchor [64 bit] {R262} (D1) -/
  tFull : Nat := 0
  /-- time of the last empty anchor [64 bit] {R262} (D1) -/
  tEmpty : Nat := 0
  deriving DecidableEq, Repr

/-- One battery string. -/
structure StringSt where
  /-- the string has been enabled before (its first enable is past) [1 bit] {R251} (D1) -/
  known : Bool := false
  /-- charge Q_s in C, 0x2820+s:02 [64-bit fixed point, 2^-32 C] {R247} (D1 0) -/
  q : Rat := 0
  /-- learned capacity C_s, 0x2820+s:04 [REAL32] {R250} (D1 0) -/
  c : Rat := 0
  /-- accumulator value at the last boundary in V·s [64 bit] {R247} (D1 0) -/
  accPrev : Rat := 0
  /-- string voltage V_s of the last 1 kS/s output, 0x2820+s:05 [REAL32] {R266} (D1 0) -/
  v : Rat := 0
  /-- empty threshold in force V_end, 0x2820+s:06 [REAL32] {R252} (D1 0) -/
  vEnd : Rat := 0
  /-- AT_FULL, status bit 3 [1 bit] {R267} (spec 0) -/
  atFull : Bool := false
  /-- AT_EMPTY, bit 4 [1 bit] {R267} (spec 0) -/
  atEmpty : Bool := false
  /-- UNDERRANGE, bit 5 [1 bit] {R267} (spec 0) -/
  under : Bool := false
  /-- OVERRANGE, bit 6 [1 bit] {R267} (spec 0) -/
  overfull : Bool := false
  /-- LEARNED, bit 7 [1 bit] {R267} (spec 0) -/
  learned : Bool := false
  /-- UNANCHORED, bit 8 [1 bit] {R267} (spec 0) -/
  unanchored : Bool := false
  /-- CAP_LIMITED, bit 9 [1 bit] {R267} (spec 0) -/
  capLimited : Bool := false
  /-- CYCLE_OPEN, bit 10 [1 bit] {R267} (spec 0) -/
  cycleOpen : Bool := false
  /-- GAP, bit 11 [1 bit] {R267} (spec 0) -/
  gap : Bool := false
  /-- LVD, bit 12 [1 bit] {R267} (spec 0) -/
  lvd : Bool := false
  /-- a full anchor has been set and 0x0805 has not been recorded since [1 bit] {R250} (D1) -/
  underArmed : Bool := false
  /-- C_meas, 0x2820+s:07 [REAL32] {R256} (spec 0) -/
  cMeas : Rat := 0
  /-- learning cycles completed, 0x2820+s:08 [32 bit] {R266} (spec 0) -/
  cycles : U32 := 0
  /-- time of last full anchor, 0x2820+s:09 [64 bit] {R266} (spec 0) -/
  tFull : Nat := 0
  /-- time of last empty anchor, 0x2820+s:0A [64 bit] {R266} (spec 0) -/
  tEmpty : Nat := 0
  /-- discharge throughput in C, 0x2820+s:0B [REAL32] {R266} (spec 0) -/
  throughput : Rat := 0
  /-- uncounted time since the last anchor in s, 0x2820+s:0C [REAL32] {R249} (spec 0) -/
  uncounted : Rat := 0
  /-- uncounted time of the open cycle in s {R254} (D1 0) -/
  cycleUncounted : Rat := 0
  /-- LVD openings, 0x2820+s:0D [32 bit] {R266} (spec 0) -/
  lvdCount : U32 := 0
  /-- the rail is commanded on by the sequencer [1 bit] {R260} (D1 off) -/
  cmd : Bool := false
  /-- the string left a latched, quenched or GATE_UV state and waits for R259's conditions without the delay {R260} (D1) -/
  waitMatch : Bool := false
  /-- the accumulator's next reading begins the count anew: nothing has been read since the converter began [1 bit] {R249} (D1) -/
  relatch : Bool := true
  /-- counting has been stopped since this time in ns; none = counting {R249} (D1) -/
  stoppedAt : Option Nat := none
  deriving DecidableEq, Repr

/-- One learned-data copy in MRAM (R262): its sequence number and strings. -/
structure LearnedCopy where
  /-- sequence number [32 bit] {R262} (D1) -/
  seq : Nat := 0
  /-- the strings' items {R262} (D1) -/
  str : Vector LearnedString 4 := Vector.replicate 4 {}
  /-- the crystal model stored with them {R93} (D1 none) -/
  model : Option CrystalModel := none
  deriving DecidableEq, Repr

/-- Battery estimation and learned data. -/
structure Battery where
  /-- the strings {R246} (spec 0) -/
  str : Vector StringSt 4 := Vector.replicate 4 {}
  /-- learned-data copies in MRAM; none = invalid copy {R262} (D1 none) -/
  copies : Vector (Option LearnedCopy) 2 := #v[none, none]
  /-- a write is in progress into this copy {R262} (D1 none) -/
  writing : Option (Fin 2) := none
  /-- the copy being written {R262} (D1 none) -/
  writeData : Option LearnedCopy := none
  /-- a write fell due while BROWN_WARN was set or a write was in progress [1 bit] {R263} (D1) -/
  deferred : Bool := false
  /-- the next learned-data write takes the crystal model from RAM [1 bit] {R93} (D1) -/
  modelDue : Bool := false
  /-- learned-data writes, 0x2800:06 [32 bit] {R266} (spec 0) -/
  writes : U32 := 0
  /-- learned-data sequence in force, 0x2800:07 [32 bit] {R266} (spec 0) -/
  seq : Nat := 0
  /-- the battery block has been committed since reset [1 bit] {R261} (spec 0) -/
  committed : Bool := false
  deriving DecidableEq, Repr

/-! ## Sequencer (11) -/

/-- One sequenced rail. -/
structure Rail where
  /-- state, 0x2A40+r:01 [8 bit] {R273} (spec 0) -/
  st : RailSt := .off
  /-- PG, status bit 0 [1 bit] {R294} (spec 0) -/
  pg : Bool := false
  /-- IN_WINDOW, bit 1 [1 bit] {R294} (spec 0) -/
  inWindow : Bool := false
  /-- WITHHELD, bit 2 [1 bit] {R294} (spec 0) -/
  withheld : Bool := false
  /-- ADOPTED, bit 4 [1 bit] {R294} (spec 0) -/
  adopted : Bool := false
  /-- GROUP_OFF, bit 5 [1 bit] {R294} (spec 0) -/
  groupOff : Bool := false
  /-- INPUT_LOSS_OFF, bit 6 [1 bit] {R294} (spec 0) -/
  inputLossOff : Bool := false
  /-- rail command, 0x2A10+r:15 [1 bit] {R293} (spec 1) -/
  cmd : Bool := true
  /-- held off by capping or a hold-up stage [1 bit] {R202} (D1) -/
  shed : Bool := false
  /-- why the off path in progress runs [3 bit] {R283} (D1) -/
  why : StopWhy := .command
  /-- retries used, 0x2A40+r:03 [8 bit] {R293} (spec 0) -/
  retries : Nat := 0
  /-- rail faults, 0x2A40+r:04 [32 bit] {R293} (spec 0) -/
  faults : U32 := 0
  /-- last fault code, 0x2A40+r:05 [16 bit] {R293} (spec 0) -/
  lastCode : Nat := 0
  /-- time of last GOOD, 0x2A40+r:06 [64 bit] {R293} (spec 0) -/
  tGood : Nat := 0
  deriving DecidableEq, Repr

/-- The sequencer. -/
structure Seq where
  /-- system on, 0x2A00:01 [1 bit] {R293} (spec 0) -/
  sysOn : Bool := false
  /-- state, 0x2A00:03 [8 bit] {R293} (spec 0) -/
  st : SeqSt := .off
  /-- privileged failures, 0x2A00:04 [32 bit] {R293} (spec 0) -/
  privFail : BitVec 32 := 0
  /-- system-reset reactions counted in the always-on domain, 0x2A00:07 [8 bit] {R289} (spec 0) -/
  resets : Nat := 0
  /-- time the sequencer entered state 2, for the 10 min of R289 {R289} (D1 none) -/
  upSince : Option Nat := none
  /-- a system-reset reaction waits for the reverse shutdown to end [1 bit] {R289} (D1) -/
  resetAfter : Bool := false
  /-- the sequencer latches when the shutdown in progress ends [1 bit] {R282} (D1) -/
  latchAfter : Bool := false
  /-- a power-up begins when the power-down in progress ends [1 bit] {R285} (D1) -/
  onAfter : Bool := false
  /-- group commands, 0x2A01:01-08 [8 bit] {R293} (spec all 1) -/
  groupCmd : BitVec 8 := 0xFF
  /-- groups shut down, 0x2A01:09 [8 bit] {R293} (spec 0) -/
  groupsDown : BitVec 8 := 0
  /-- the rails {R273} (spec 0) -/
  rail : Vector Rail 32 := Vector.replicate 32 {}
  /-- start order since system on, earliest first; 0x2A30 reports positions [32 × 5 bit] {R274} (spec empty) -/
  order : List (Fin 32) := []
  /-- rails waiting to stop, in the order they will stop [32 × 5 bit] {R283} (D1 empty) -/
  queue : List (Fin 32) := []
  /-- the rail of the queue whose off path or off delay runs {R283} (D1 none) -/
  stoppingNow : Option (Fin 32) := none
  /-- the sequencer block has been committed since reset [1 bit] {R291} (spec 0) -/
  committed : Bool := false
  deriving DecidableEq, Repr

/-! ## Thermal (12) -/

/-- One threshold of a sensor. -/
structure Thresh where
  /-- asserted [1 bit] {R300} (spec 0) -/
  on : Bool := false
  /-- consecutive readings at or above the level [2 bit] {R300} (D1) -/
  above : Nat := 0
  /-- consecutive readings at or below level less hysteresis [2 bit] {R300} (D1) -/
  below : Nat := 0
  deriving DecidableEq, Repr

/-- One temperature sensor. -/
structure Sensor where
  /-- last good reading in °C, 0x2250/0x2251 [REAL32, 0.0625 steps] {R297} (D1 0) -/
  t : Rat := 0
  /-- last reading that was good, which a failure holds [REAL32] {R305} (D1 0) -/
  good : Rat := 0
  /-- date of the reading {R297} (D1 0) -/
  at_ : Nat := 0
  /-- VALID, 0x2C20 bit 0 [1 bit] {R306} (spec 0) -/
  valid : Bool := false
  /-- FAST, bit 1 [1 bit] {R306} (spec 0) -/
  fast : Bool := false
  /-- WARNING threshold, bit 2 {R300} (spec 0) -/
  warn : Thresh := {}
  /-- THROTTLE threshold, bit 3 {R300} (spec 0) -/
  thr : Thresh := {}
  /-- SHUTDOWN threshold, bit 4 {R300} (spec 0) -/
  shut : Thresh := {}
  /-- FAILED, bit 5 [1 bit] {R306} (spec 0) -/
  failed : Bool := false
  /-- consecutive bad conversions [4 bit] {R305} (D1) -/
  badRun : Nat := 0
  /-- consecutive good conversions while failed [4 bit] {R305} (D1) -/
  goodRun : Nat := 0
  deriving DecidableEq, Repr

/-- Thermal management. -/
structure Thermal where
  /-- sensors 0..5 and 8..15 (6 and 7 unused) {R296} (spec 0) -/
  sensor : Vector Sensor 16 := Vector.replicate 16 {}
  /-- THERMAL_LOCKOUT in the always-on domain, 0x2C00:01 bit 0 [1 bit] {R301} (spec 0) -/
  lockout : Bool := false
  /-- sensors whose shutdown caused the lockout and has not cleared [16 bit] {R301} (D1 0) -/
  lockSensors : BitVec 16 := 0
  /-- thermal shutdowns, 0x2C00:02 [32 bit] {R306} (spec 0) -/
  shutdowns : U32 := 0
  /-- throttle factors f, 0x2C50 [REAL32 each] {R302} (spec 1) -/
  f : Vector Rat 8 := Vector.replicate 8 1
  deriving DecidableEq, Repr

/-! ## Engines, mailboxes, doorbells, locks (13) -/

/-- One engine. -/
structure Engine where
  /-- state, 0x3810+e:01 [8 bit] {R333} (spec 0; E7 idle, R35) -/
  st : EngSt := .running
  /-- watchdog expiries, 0x3810+e:04 [32 bit] {R333} (spec 0) -/
  expiries : U32 := 0
  /-- times of the last expiries within 10 min, newest first {R312} (D1 empty) -/
  expiryTimes : List Nat := []
  /-- minimum slack since reset, 0x3810+e:07; none before an activation [REAL32] {R333} (D1) -/
  slackMin : Option Rat := none
  /-- last self-test result, 0x3810+e:08 [8 bit] {R333} (spec 0) -/
  selfTest : Nat := 0
  /-- activations completed since the watchdog's last restart, one bit per task [8 bit] {R311} (D1 0) -/
  tasksDone : BitVec 8 := 0
  deriving DecidableEq, Repr

/-- One message queue. -/
structure Queue where
  /-- the sixteen slots {R317} (spec 0) -/
  slot : Vector MsgSlot 16 := Vector.replicate 16 {}
  /-- post pointer [4 bit] {R319} (spec 0) -/
  ptr : Fin 16 := 0
  /-- next SEQ [16 bit] {R318} (spec 0) -/
  seq : BitVec 16 := 0
  /-- EPOCH_BUMPED [1 bit] {R331} (spec 0) -/
  bumped : Bool := false
  /-- posts, 0x3821 [32 bit] {R333} (spec 0) -/
  posts : U32 := 0
  /-- posts refused full, 0x3822 [32 bit] {R333} (spec 0) -/
  refused : U32 := 0
  deriving DecidableEq, Repr

/-- One hardware lock. -/
structure LockCell where
  /-- owner identity, 0 free [8 bit] {R332} (spec 0) -/
  owner : Nat := 0
  /-- owner's epoch at the grant [8 bit] {R332} (spec 0) -/
  epoch : Nat := 0
  deriving DecidableEq, Repr

/-- Engines, messaging and locks. -/
structure Eng where
  /-- the engines {R35} (spec 0; E7 idle) -/
  eng : Vector Engine 8 := (Vector.replicate 8 {}).set 7 { st := .idle }
  /-- task sets with an activation completed since the system watchdog's last restart [8 bit] {R313} (D1 0) -/
  setDone : BitVec 8 := 0
  /-- declared load of each task set of the running image, as a fraction of an engine's time at the worst corner [REAL32 each]
  {R309} (D4 0) -/
  load : Vector Rat 8 := Vector.replicate 8 0
  /-- engine running each task set, 0x3810+e:05 [3 bit each] {R333} (spec e) -/
  host : Vector (Fin 8) 8 := #v[0, 1, 2, 3, 4, 5, 6, 7]
  /-- system watchdog expiries, 0x3800:02 [32 bit] {R333} (spec 0) -/
  sysExpiries : U32 := 0
  /-- 0x0B05 waits to be recorded after the warm reset [1 bit] {R313} (D1) -/
  sysPending : Bool := false
  /-- epochs by identity: host, E0..E7, twin proxy, cascade proxy [8 bit each] {R316} (spec 0) -/
  epoch : Vector U8 11 := Vector.replicate 11 0
  /-- SERVICE, MBX_CTRL [0] [1 bit] {R331} (spec 0) -/
  service : Bool := false
  /-- FULL_IRQ, MBX_CTRL [1] [1 bit] {R331} (spec 0) -/
  fullIrq : Bool := false
  /-- doorbell bits by identity [32 bit each] {R325} (spec 0) -/
  db : Vector (BitVec 32) 11 := Vector.replicate 11 0
  /-- doorbell masks by identity; the host's is MBX_DBMASK [32 bit each] {R325} (spec 0) -/
  dbMask : Vector (BitVec 32) 11 := Vector.replicate 11 0
  /-- MBX_ORPHAN [32 bit] {R331} (spec 0) -/
  orphans : U32 := 0
  /-- MBX_TXHDR LENGTH [6 bit] {R331} (spec 0) -/
  txLen : Nat := 0
  /-- MBX_TXHDR QUEUE [6 bit] {R331} (spec 0) -/
  txQueue : Nat := 0
  /-- MBX_TXDATA0..13 [32 bit each] {R331} (spec 0) -/
  txData : Vector U32 14 := Vector.replicate 14 0
  /-- MBX_POSTSTAT RESULT [2 bit] {R331} (spec 0) -/
  postResult : Nat := 0
  /-- MBX_POSTSTAT SLOT [4 bit] {R331} (spec 0) -/
  postSlot : Nat := 0
  /-- MBX_POSTSTAT REASON [8 bit] {R331} (spec 0) -/
  postReason : Nat := 0
  /-- MBX_POSTSTAT SEQ [16 bit] {R331} (spec 0) -/
  postSeq : Nat := 0
  /-- the 64 queues {R317} (spec 0) -/
  queue : Vector Queue 64 := Vector.replicate 64 {}
  /-- the 64 locks {R327} (spec free) -/
  lock : Vector LockCell 64 := Vector.replicate 64 {}
  /-- lock arm bits by identity [64 bit each] {R330} (spec 0) -/
  arm : Vector (BitVec 64) 11 := Vector.replicate 11 0
  /-- LCK_FOREIGN [32 bit] {R332} (spec 0) -/
  foreign : U32 := 0
  /-- result of the last lock read: granted, owner identity {R327} (D1) -/
  lockRead : Bool × Nat := (false, 0)
  deriving DecidableEq, Repr

/-! ## Reset and start-up (16) -/

/-- Where the device stands between reset assertion and release (R415).
`held` = a supply below its power-on threshold; `waiting` = the 200 µs to 300 µs wait before step 1;
`step n` = step n of the release order is in progress; `recovery` = ROM recovery after step 6; `released` = step 9 done. -/
inductive RelPhase | held | step (n : Nat) | recovery | released
  deriving DecidableEq, Repr

/-- A block reset in progress (R420). -/
structure BlkReset where
  /-- block code [8 bit] {R419} (D1) -/
  code : Nat
  /-- idle has been reached or the timeout has passed; the reset is asserted [1 bit] {R420} (D1) -/
  asserted : Bool := false
  /-- forced (idle not reached, or an engine watchdog) [1 bit] {R420} (D1) -/
  forced : Bool := false
  deriving DecidableEq, Repr

/-- Reset controller. -/
structure Rst where
  /-- SYS_RSTCAUSE [15:0] [16 bit] {R424} (spec POWER_ON) -/
  cause : BitVec 16 := 1
  /-- WARM, SYS_RSTCAUSE [16] [1 bit] {R424} (spec 0) -/
  warm : Bool := false
  /-- MULTIPLE, SYS_RSTCAUSE [17] [1 bit] {R424} (spec 0) -/
  multiple : Bool := false
  /-- STALL_STEP, SYS_RSTCAUSE [27:24] [4 bit] {R424} (spec 0) -/
  stallStep : Nat := 0
  /-- place in the release order {R415} (spec: released) -/
  phase : RelPhase := .released
  /-- scope of the reset in force or last released [1 bit] {R410} (spec cold) -/
  scope : Scope := .cold
  /-- SYS_RSTCOUNT.WARM [16 bit] {R425} (spec 0) -/
  warmCount : BitVec 16 := 0
  /-- SYS_RSTCOUNT.COLD, saturating [8 bit] {R425} (spec 0) -/
  coldCount : Nat := 0
  /-- SYS_RSTCOUNT.STALLS, saturating [8 bit] {R425} (spec 0) -/
  stalls : Nat := 0
  /-- SYS_BLKSTAT.LAST [8 bit] {R425} (spec 0) -/
  blkLast : Nat := 0
  /-- SYS_BLKSTAT.FORCED [1 bit] {R425} (spec 0) -/
  blkForced : Bool := false
  /-- block resets in progress, SYS_BLKSTAT.BUSY while non-empty {R420} (spec 0) -/
  blk : List BlkReset := []
  /-- SYS_TRIMSTAT.DEVTRIM_OK [1 bit] {R425} (spec 0) -/
  devTrimOk : Bool := false
  /-- SYS_TRIMSTAT.CALSET_OK [1 bit] {R425} (spec 0) -/
  calSetOk : Bool := false
  /-- SYS_TRIMSTAT.DEVTRIM_FALLBACK [1 bit] {R425} (spec 0) -/
  devTrimFallback : Bool := false
  /-- SYS_TRIMSTAT.CALSET_FALLBACK [1 bit] {R425} (spec 0) -/
  calSetFallback : Bool := false
  /-- SYS_TRIMSTAT.PROTECTIVE [1 bit] {R425} (spec 0) -/
  protective : Bool := false
  /-- SYS_TRIMSTAT.FAILED [2 bit] {R425} (spec 0) -/
  trimFailed : Nat := 0
  /-- time of last release in ns of the time of day, 0x5F20:09 [64 bit] {R426} (spec 0) -/
  lastRelease : Nat := 0
  /-- the ROM stays in charge after step 6: recovery or SCRAPPED [1 bit] {R415} (spec 0) -/
  romStays : Bool := false
  /-- VAUX and VDDIO above their power-on thresholds [1 bit] {R70} (D1 true: released) -/
  supplyOk : Bool := true
  /-- records owed once the recorder runs after the release: code and values {R423} (D1 empty) -/
  owed : List (Nat × List Nat) := []
  /-- the first commit after the reset has not ended [1 bit] {R350} (spec: boot commit to come) -/
  bootDue : Bool := true
  /-- CAN B's and CAN A's drivers released by the ROM in recovery {R415} (spec 0) -/
  canARom : Bool := false
  deriving DecidableEq, Repr

/-! ## Memory and recorder (17) -/

/-- One event record (R442). -/
structure Record where
  /-- sequence number S [32 bit] {R441} (D1) -/
  seq : Nat := 0
  /-- time of day [64 bit] {R442} (D1) -/
  tod : Nat := 0
  /-- fault code or 0 [16 bit] {R442} (D1) -/
  code : Nat := 0
  /-- trigger number or 0xFF [8 bit] {R442} (D1) -/
  trigger : Nat := 0xFF
  /-- type 1 fault, 2 trigger, 3 lifecycle, 4 clear [8 bit] {R442} (D1) -/
  type : Nat := 1
  /-- SEQ of the snapshot's frame [16 bit] {R442} (D1) -/
  frame : Nat := 0
  /-- flags [8 bit] {R442} (D1) -/
  flags : Nat := 0
  /-- instance [32 bit] {R442} (D1) -/
  inst : Nat := 0xFFFFFFFF
  /-- values, at most 120 words [32 bit each] {R442} (D1) -/
  vals : List Nat := []
  deriving DecidableEq, Repr

/-- One reader's cursor and window (R447). -/
structure RecWindow where
  /-- cursor [32 bit] {R451} (spec 0) -/
  cursor : Nat := 0
  /-- HALF selected for the next load [1 bit] {R451} (spec 0) -/
  half : Bool := false
  /-- STATE: 0 empty, 1 loading, 2 present, 3 not present [2 bit] {R451} (spec 0) -/
  state : Nat := 0
  /-- UNCORR [1 bit] {R451} (spec 0) -/
  uncorr : Bool := false
  /-- half in the window [1 bit] {R451} (spec 0) -/
  halfIn : Bool := false
  /-- sequence number in the window [32 bit] {R451} (spec 0) -/
  seq : Nat := 0
  /-- the window's words, 64 or empty [64 × 32 bit] {R451} (spec 0) -/
  words : List Nat := []
  deriving DecidableEq, Repr

/-- One trigger's run-time state. -/
structure Trigger where
  /-- firings, 0x3218 [32 bit] {R452} (spec 0) -/
  firings : U32 := 0
  /-- source value in the previous snapshot {R445} (D1 none) -/
  prev : Option Rat := none
  /-- records still to take and frames until the next one {R445} (D1 none) -/
  taking : Option (Nat × Nat) := none
  /-- no firing before this time (holdoff), ns {R445} (D1 0) -/
  holdUntil : Nat := 0
  /-- fired, and its first record waits for the next snapshot [1 bit] {R445} (D1) -/
  armed : Bool := false
  deriving DecidableEq, Repr

/-- The event recorder. -/
structure Recorder where
  /-- running, 0x3200:01 bit 0 [1 bit] {R452} (spec 0) -/
  running : Bool := false
  /-- clearing, bit 1 [1 bit] {R452} (spec 0) -/
  clearing : Bool := false
  /-- next sequence number [32 bit] {R441} (D1 0) -/
  next : Nat := 0
  /-- the valid records in MRAM, newest first, at most 4096 {R441} (D1 empty) -/
  recs : List Record := []
  /-- staging buffer, oldest first, at most 16 {R443} (spec empty) -/
  staging : List Record := []
  /-- a record write was cut off by a cold reset [1 bit] {R444} (D1) -/
  torn : Bool := false
  /-- records lost, 0x3200:04 and EVR_LOST [32 bit] {R452} (spec 0) -/
  lost : U32 := 0
  /-- records written, 0x3200:06 [32 bit] {R452} (spec 0) -/
  written : U32 := 0
  /-- windows of the host, the dictionary and the twin peer {R447} (spec 0) -/
  win : Vector RecWindow 3 := Vector.replicate 3 {}
  /-- CLEAR_REFUSED, EVR_WSTAT [4] [1 bit] {R451} (spec 0) -/
  clearRefused : Bool := false
  /-- the triggers {R445} (spec 0) -/
  trig : Vector Trigger 64 := Vector.replicate 64 {}
  deriving DecidableEq, Repr

/-- Memory integrity counters and the NVM controller. -/
structure Mem where
  /-- main SRAM corrected, SYS_ECCCNT [15:0] and 0x5F30:01 [32 bit] {R449} (spec 0) -/
  mainCorr : Nat := 0
  /-- queue SRAM corrected [32 bit] {R449} (spec 0) -/
  queueCorr : Nat := 0
  /-- main SRAM uncorrectable [32 bit] {R449} (spec 0) -/
  mainUnc : Nat := 0
  /-- queue SRAM uncorrectable [32 bit] {R449} (spec 0) -/
  queueUnc : Nat := 0
  /-- MRAM corrected [32 bit] {R450} (spec 0) -/
  mramCorr : Nat := 0
  /-- MRAM uncorrectable [32 bit] {R450} (spec 0) -/
  mramUnc : Nat := 0
  /-- SYS_ECCADDR [32 bit] {R449} (spec 0) -/
  eccAddr : Nat := 0
  /-- SYS_ECCINFO [9 bit] {R449} (spec 0) -/
  eccInfo : Nat := 0
  /-- NVC_ECCADDR [32 bit] {R450} (spec 0) -/
  nvEccAddr : Nat := 0
  /-- last error address, 0x5F30:07 [32 bit] {R453} (spec 0) -/
  lastAddr : Nat := 0
  /-- NVC_SCRUB POSITION [20 bit] {R450} (spec 0) -/
  scrubPos : Nat := 0
  /-- NVC_SCRUB PASSES, saturating [12 bit] {R450} (spec 0) -/
  scrubPasses : Nat := 0
  /-- last SRAM pass time in s, 0x5F30:09 [REAL32] {R453} (spec 0) -/
  passTime : Rat := 0
  /-- time each memory's scrub pass in progress began: main, queue, MRAM [64 bit] {R433} (D1 0) -/
  passFrom : Vector Nat 3 := Vector.replicate 3 0
  /-- words found uncorrectable and not written since, by host address {R435} (D1 empty) -/
  badWords : List Nat := []
  /-- the hour in progress, counted from time 0 {R454} (D1 0) -/
  hour : Nat := 0
  /-- corrections counted in the hour in progress: main, queue, MRAM {R454} (D1 0) -/
  hourCorr : Vector Nat 3 := Vector.replicate 3 0
  /-- CORRECTION_RATE recorded in the hour in progress {R454} (D1) -/
  hourRaised : Vector Bool 3 := Vector.replicate 3 false
  /-- NVC_STAT RESULT [8 bit] {R450} (spec 0) -/
  nvResult : Nat := 0
  /-- NVC_STAT BUSY [1 bit] {R450} (spec 0) -/
  nvBusy : Bool := false
  /-- NVC_ADDR [32 bit] {R450} (spec 0) -/
  nvAddr : U32 := 0
  /-- NVC_WDATA0 [32 bit] {R450} (spec 0) -/
  nvData0 : U32 := 0
  /-- NVC_WDATA1 [32 bit] {R450} (spec 0) -/
  nvData1 : U32 := 0
  /-- the user area of MRAM, by host byte address; an unlisted byte reads 0 [1.1875 MiB] {R437} (D3) -/
  user : List Host.Cell := []
  deriving DecidableEq, Repr

/-! ## Object dictionary and field interfaces (14, 19) -/

/-- The answer of a dictionary access (R335, R484). -/
inductive Answer | none | data (bytes : List Byte) | done | abort (code : Nat)
  deriving DecidableEq, Repr

/-- A segmented transfer in progress on a session (R356, R370). -/
structure Transfer where
  /-- write (true) or read [1 bit] {R370} (D1) -/
  write : Bool
  /-- object key index × 256 + sub {R370} (D1) -/
  key : Nat
  /-- bytes moved so far [11 bit] {R370} (D1) -/
  offset : Nat := 0
  /-- bytes collected of a write, or the whole object of a read {R370} (D1) -/
  bytes : List Byte := []
  /-- SEQ and TAG of the last tunnel request of the transfer [16 bit, 8 bit] {R369} (D1) -/
  req : Nat × Nat := (0, 0)
  deriving DecidableEq, Repr

/-- One dictionary session (R338). -/
structure Sess where
  /-- role requested, 0x2010:01 [8 bit] {R375} (spec 0) -/
  requested : Nat := 0
  /-- challenge, 0x2010:02 [16 bytes] {R375} (D1 empty) -/
  nonce : List Byte := []
  /-- a nonce is held: not used, not expired [1 bit] {R339} (spec: none) -/
  held : Bool := false
  /-- role requested when the last nonce was drawn [2 bit] {R340} (D1 observer) -/
  nonceRole : Role := .observer
  /-- role in force, 0x2010:04 [8 bit] {R375} (spec 0) -/
  role : Role := .observer
  /-- session idle timeout, 0x2010:05, raw REAL32 [32 bit] {R375} (spec 300) -/
  idle : Nat := 0x43960000
  /-- failed responses, 0x2010:06 [32 bit] {R375} (spec 0) -/
  failed : U32 := 0
  /-- consecutive failures of Operator, Engineer, Vendor [2 bit each] {R340} (spec 0) -/
  fails : Vector Nat 3 := Vector.replicate 3 0
  /-- the role is locked out [3 × 1 bit] {R340} (spec: none) -/
  locked : Vector Bool 3 := Vector.replicate 3 false
  /-- answer of the last access {R335} (D1 none) -/
  answer : Answer := .none
  /-- segmented transfer in progress {R356} (D1 none) -/
  transfer : Option Transfer := none
  deriving DecidableEq, Repr

/-- States of a commit, 0x3A00:02 (R376). -/
inductive CommitSt | idle | validating | applying | done | refused | rolledBack
  deriving DecidableEq, Repr

/-- Whose commit runs: a session's, the boot commit, the defaults after a refused boot commit, or the peer's (R350, R391). -/
inductive CommitKind | user | boot | defaults | peer
  deriving DecidableEq, Repr

/-- The temper commit unit. -/
structure Commit where
  /-- state, 0x3A00:02 [8 bit] {R376} (spec 0) -/
  st : CommitSt := .idle
  /-- whose commit it is [2 bit] {R350} (D1) -/
  kind : CommitKind := .user
  /-- the change set taken at acceptance {R344} (D1 empty) -/
  set : List (Nat × Nat) := []
  /-- values in force before application, for the rollback {R348} (D1 empty) -/
  before : List (Nat × Nat) := []
  /-- blocks still to apply, by base order number 1..13 {R347} (D1 empty) -/
  todo : List Nat := []
  /-- blocks applied, most recent first {R348} (D1 empty) -/
  applied : List Nat := []
  /-- a rollback is in progress [1 bit] {R348} (D1) -/
  rolling : Bool := false
  /-- refusal code, 0x3A00:03 [16 bit] {R376} (spec 0) -/
  code : Nat := 0
  /-- offending object, 0x3A00:04 [32 bit] {R376} (spec 0) -/
  object : Nat := 0
  /-- conflicting owner, 0x3A00:05 [8 bit] {R376} (spec 0xFF) -/
  owner : Nat := 0xFF
  /-- commits applied, 0x3A00:06 [32 bit] {R376} (spec 0) -/
  count : U32 := 0
  /-- application order of the last commit, 0x3A00:0A [13 bytes] {R376} (D1 empty) -/
  order : List Nat := []
  /-- configuration hash, 0x3A00:09 [32 bit] {R351} (D1 0) -/
  hash : Nat := 0
  /-- restore marks of the three scopes of 0x1011 [3 bit] {R355} (spec: none) -/
  restore : BitVec 3 := 0
  deriving DecidableEq, Repr

/-- One configuration-store copy (R354, R439). -/
structure CfgCopy where
  /-- sequence number [32 bit] {R439} (D1) -/
  seq : Nat := 0
  /-- stored rwc and rws values that differ from their defaults {R354} (D1) -/
  vals : List (Nat × Nat) := []
  /-- port A's and port B's copies of the per-port objects {R354} (D1) -/
  port : Vector (List (Nat × Nat)) 2 := Vector.replicate 2 []
  /-- stored session idle timeout, raw REAL32 {R338} (spec 300) -/
  idle : Nat := 0x43960000
  deriving DecidableEq, Repr

/-- NMT state of a port (R359). -/
inductive Nmt | off | preOperational | operational | stopped
  deriving DecidableEq, Repr

/-- One pending EMCY (R363, R480). -/
structure Emcy where
  /-- emergency code [16 bit] {R480} (D1) -/
  code : Nat
  /-- error register at the entry [8 bit] {R363} (D1) -/
  reg : Nat
  /-- fault code [16 bit] {R363} (D1) -/
  fault : Nat
  /-- instance [24 bit] {R480} (D1) -/
  inst : Nat
  deriving DecidableEq, Repr

/-- One CAN FD port. -/
structure CanPort where
  /-- NMT state {R359} (spec: not yet started) -/
  nmt : Nmt := .off
  /-- bus-off [1 bit] {R365} (spec 0) -/
  busOff : Bool := false
  /-- node-ID in use, taken at the last NMT reset [7 bit] {R358} (spec 0x10 or 0x18 + CASC_POS) -/
  node : Nat := 0x10
  /-- this port's copy of the per-port objects that differ from their defaults {R361} (spec defaults) -/
  objs : List (Nat × Nat) := []
  /-- EMCYs pending, oldest first, at most 16 {R481} (spec empty) -/
  emcy : List Emcy := []
  /-- last EMCY sent {R363} (D1 none) -/
  sentEmcy : Option Emcy := none
  /-- boot-up messages sent [32 bit] {R360} (D1 0) -/
  bootUps : U32 := 0
  /-- heartbeats sent [32 bit] {R361} (D1 0) -/
  heartbeats : U32 := 0
  /-- TPDO numbers sent with their data, last one {R362} (D1 none) -/
  tpdo : Option (Nat × List Byte) := none
  deriving DecidableEq, Repr

/-- One entry of the predefined error field 0x1003. -/
structure ErrEntry where
  /-- fault code [16 bit] {R361} (D1) -/
  code : Nat
  /-- instance word of its record [32 bit] {R480} (D1) -/
  inst : Nat
  deriving DecidableEq, Repr

/-- One PMBus device (R375). -/
structure PmDev where
  /-- state, 0x2043: 0 disabled, 1 absent, 2 present, 3 alerting [8 bit] {R375} (spec 0) -/
  st : Nat := 0
  /-- VIN, VOUT, IOUT, temperature, PIN, POUT; none = NaN [REAL32 each] {R375} (spec NaN) -/
  tele : Vector (Option Rat) 6 := Vector.replicate 6 none
  /-- STATUS_WORD, 0x204A [16 bit] {R375} (spec 0) -/
  status : Nat := 0
  /-- PEC errors, 0x204B [32 bit] {R375} (spec 0) -/
  pecErrors : U32 := 0
  /-- discovered since it was enabled or lost [1 bit] {R372} (D1) -/
  discovered : Bool := false
  /-- VOUT_MODE read at discovery; none = not read [8 bit] {R372} (D1 none) -/
  voutMode : Option Nat := none
  /-- commands refused since discovery, in the order of R372 [7 bit] {R372} (D1 0) -/
  refused : BitVec 7 := 0
  /-- VOUT_COMMAND last written, in V [REAL32] {R371} (D1 none) -/
  voutCmd : Option Rat := none
  /-- consecutive polls without acknowledgement [2 bit] {R374} (D1) -/
  nacks : Nat := 0
  deriving DecidableEq, Repr

/-- The object dictionary and its field interfaces. -/
structure Net where
  /-- values in force that differ from their defaults, by key {R343} (spec: defaults) -/
  force : List (Nat × Nat) := []
  /-- pending changes of the shadow, by key {R343} (spec: none) -/
  shadow : List (Nat × Nat) := []
  /-- session that holds the claim, 0x3A00:08 [8 bit] {R376} (spec 0xFF none) -/
  claim : Option Session := none
  /-- values of rw objects written, by key {R14} (spec: defaults) -/
  rw : List (Nat × Nat) := []
  /-- the sessions: CAN A, CAN B, SPI {R338} (spec Observer) -/
  sess : Vector Sess 3 := Vector.replicate 3 {}
  /-- the commit unit {R344} (spec idle) -/
  commit : Commit := {}
  /-- configuration-store copies in MRAM; none = invalid {R439} (D1 none) -/
  store : Vector (Option CfgCopy) 2 := #v[none, none]
  /-- the Store in progress: target copy, its content, scope, who asked {R354} (D1 none) -/
  storing : Option (Fin 2 × CfgCopy × Nat × StoreBy) := none
  /-- faults raised in the microsecond in progress, for 0x1003 {R481} (spec empty) -/
  batch : List ErrEntry := []
  /-- the microsecond of the batch (⌊t / 1000 ns⌋) {R481} (D1 0) -/
  batchAt : Nat := 0
  /-- predefined error field 0x1003, newest first, at most 16 {R481} (spec empty) -/
  errs : List ErrEntry := []
  /-- the CAN ports A and B {R356} (spec: not started) -/
  port : Vector CanPort 2 := #v[{}, { node := 0x18 }]
  /-- SPI CRC errors, 0x2030:01 [32 bit] {R375} (spec 0) -/
  spiCrc : U32 := 0
  /-- SPI frames, 0x2030:02 [32 bit] {R375} (spec 0) -/
  spiFrames : U32 := 0
  /-- data words of the last SPI read {R366} (D1 empty) -/
  spiData : List U32 := []
  /-- STAT of the last SPI frame [16 bit] {R367} (D1 0) -/
  spiStat : Nat := 0
  /-- the tunnel request that a Store has still to answer: SEQ and TAG {R369} (D1 none) -/
  tunnelReq : Option (Nat × Nat) := none
  /-- the PMBus devices {R371} (spec 0) -/
  pm : Vector PmDev 32 := Vector.replicate 32 {}
  /-- device whose transaction now stretches the clock of ports A and B, none no transaction [6 bit each] {R82} (D1 none) -/
  pmXfer : Vector (Option (Fin 32)) 2 := Vector.replicate 2 none
  deriving DecidableEq, Repr

/-! ## Twin and cascade (15) -/

/-- Twin pairing and the cascade. -/
structure Twin where
  /-- twin state, 0x3000:01 [8 bit] {R378} (spec 0) -/
  st : TwinSt := .solo
  /-- peer serial number, 0x3000:02 [32 bit] {R406} (spec 0) -/
  peerSerial : Nat := 0
  /-- peer configuration hash, 0x3000:03 [32 bit] {R406} (spec 0) -/
  peerHash : Nat := 0
  /-- last refusal reason, 0x3000:04 [8 bit] {R406} (spec 0) -/
  reason : Nat := 0
  /-- takeovers, 0x3000:09 [32 bit] {R406} (spec 0) -/
  takeovers : U32 := 0
  /-- invalid Benut frames, 0x3000:0A [32 bit] {R406} (spec 0) -/
  invalid : U32 := 0
  /-- timebase error to peer in s, 0x3000:0B [REAL32] {R406} (spec 0) -/
  err : Rat := 0
  /-- one-way link delays in s, numbered as the links; the twin's is 0x3000:0C [REAL32 each] {R385} (spec 0) -/
  delay : Vector Rat 5 := Vector.replicate 5 0
  /-- last give-up trigger, 0x3000:0D [16 bit] {R406} (spec 0) -/
  giveUp : Nat := 0
  /-- minor-version tolerance, 0x3000:0F, held through warm reset [1 bit] {R406} (spec 0) -/
  tolerance : Bool := false
  /-- side in the pair: 0 lower serial, 1 higher [1 bit] {R381} (D1 0) -/
  side : Bool := false
  /-- a chip in state 7 may send a pairing frame again {R380} (D1) -/
  mayPair : Bool := true
  /-- last pairing frame of the peer {R380} (D1 none) -/
  peer : Option PeerInfo := none
  /-- Benut links up: bit 0 twin; bits 4:1 are 0x3010:07, BCI and BCO downstream, BCI and BCO reverse [5 bit] {R383} (spec down) -/
  linkUp : BitVec 5 := 0
  /-- consecutive valid mirror and state frames [5 bit] {R390} (D1) -/
  validRun : Nat := 0
  /-- error within ±10 ns since this time; none = not {R390} (D1) -/
  alignedSince : Option Nat := none
  /-- SEQ of the last valid mirror frame received [16 bit] {R385} (D1 0) -/
  lastSeq : Nat := 0
  /-- the last mirror frame installed {R388} (D1 none) -/
  mirror : Option MirrorFrame := none
  /-- shared outputs of a takeover wait for 5 µs of TWIN_ACT_O [1 bit] {R396} (D1) -/
  driveWait : Bool := false
  /-- shared outputs released (high-impedance) by TWIN_ACT_I high or by a give-up [1 bit] {R62} (D1) -/
  released : Bool := false
  /-- the mirror and state frames latched with the snapshot, for the launch at 21.2 µs {R386} (D1 none) -/
  outgoing : Option (MirrorFrame × StateFrame) := none
  /-- missed mirror launches in a row [2 bit] {R393} (D1) -/
  missed : Nat := 0
  /-- a commit waits for the standby's answer [1 bit] {R391} (D1) -/
  awaitPeer : Bool := false
  /-- the last frames launched on the Benut ports, newest first, at most four {R384} (D1 empty) -/
  sent : List BenutFrame := []
  /-- messages forwarded to the peer and not acknowledged: queue, slot {R326} (D1 empty) -/
  proxyOut : List (Nat × Nat) := []
  /-- inbound proxied messages: local queue, slot, peer queue, peer slot {R326} (D1 empty) -/
  proxyIn : List (Nat × Nat × Nat × Nat) := []
  deriving DecidableEq, Repr

/-- The cascade. -/
structure Casc where
  /-- cascade state, 0x3010:04 [8 bit] {R406} (spec 0) -/
  st : CascSt := .off
  /-- master position, 0x3010:05 [8 bit] {R406} (spec 0xFF) -/
  master : Nat := 0xFF
  /-- allocation in force, 0x3010:08 [REAL32] {R406} (spec 0) -/
  alloc : Rat := 0
  /-- an allocation that waits for the frame boundary {R404} (D1 none) -/
  allocNext : Option Rat := none
  /-- time of last allocation, 0x3010:09 [64 bit] {R406} (spec 0) -/
  allocAt : Nat := 0
  /-- allocation number [32 bit] {R384} (D1 0) -/
  number : Nat := 0
  /-- allocations by position (master), 0x3011 [REAL32 each] {R406} (spec 0) -/
  allocs : Vector Rat 8 := Vector.replicate 8 0
  /-- P_req reported, 0x3012 [REAL32 each] {R406} (spec 0) -/
  pReq : Vector Rat 8 := Vector.replicate 8 0
  /-- P_max reported [REAL32 each] {R402} (D1 0) -/
  pMax : Vector Rat 8 := Vector.replicate 8 0
  /-- w reported, 0x3013 [REAL32 each] {R406} (spec 0) -/
  w : Vector Rat 8 := Vector.replicate 8 0
  /-- SoC reported, 0x3014 [REAL32 each] {R406} (spec 0) -/
  soc : Vector Rat 8 := Vector.replicate 8 0
  /-- time each position last reported, none = never {R403} (D1 none) -/
  reportAt : Vector (Option Nat) 8 := Vector.replicate 8 none
  /-- another chip's announcement was received by a master [1 bit] {R405} (D1) -/
  demote : Bool := false
  /-- consecutive cascade time frames within ±20 ns [10 bit] {R401} (D1) -/
  lockRun : Nat := 0
  /-- error of the last cascade time frame in s [REAL32] {R401} (D1 0) -/
  err : Rat := 0
  /-- frames forwarded downstream [32 bit] {R400} (D1 0) -/
  forwarded : U32 := 0
  /-- a time frame has come that this member has not yet passed on at a 1 ms multiple [1 bit] {R401} (D1) -/
  relay : Bool := false
  /-- traffic is sent the other way round the ring [1 bit] {R400} (D1) -/
  reversed : Bool := false
  deriving DecidableEq, Repr

/-! ## Update, lifecycle, keys (18) -/

/-- Slot states, UPD_SLOTS (R460). -/
inductive SlotSt | empty | staging | valid | active | trial | invalid | reverted
  deriving DecidableEq, Repr

/-- Trial phases (R460). -/
inductive TrialPhase | none | pending | running
  deriving DecidableEq, Repr

/-- One boot slot. -/
structure BootSlot where
  /-- state [3 bit] {R460} (D4) -/
  st : SlotSt := .empty
  /-- bytes received, in order [≤ 2 MiB] {R457} (D4 empty) -/
  bytes : List Byte := []
  deriving DecidableEq, Repr

/-- Update, lifecycle and keys. -/
structure Upd where
  /-- the boot slots A and B {R460} (D4: A active, B empty) -/
  slot : Vector BootSlot 2 := #v[{ st := .active }, {}]
  /-- active slot, UPD_SLOTS [6] [1 bit] {R474} (D4 A) -/
  active : Fin 2 := 0
  /-- trial phase, UPD_SLOTS [8:7] [2 bit] {R474} (spec 0) -/
  phase : TrialPhase := .none
  /-- the trial is a live trial, UPD_SLOTS [9] [1 bit] {R474} (spec 0) -/
  live : Bool := false
  /-- the live update's engines still to reload, in order {R315} (D1 empty) -/
  liveTodo : List (Fin 8) := []
  /-- engines reloaded so far, most recent first {R465} (D1 empty) -/
  liveDone : List (Fin 8) := []
  /-- the reload in progress goes back to the previous image [1 bit] {R465} (D1) -/
  liveBack : Bool := false
  /-- live verification in progress [1 bit] {R464} (D1) -/
  liveVerify : Bool := false
  /-- UPD_STAT STATE [4 bit] {R474} (spec 0) -/
  stat : Nat := 0
  /-- last update fault, 0x3400:0F and UPD_STAT CODE [16 bit] {R475} (spec 0) -/
  lastCode : Nat := 0
  /-- UPD_OFFSET NEXT, 0x3400:03 [32 bit] {R474} (spec 0) -/
  next : Nat := 0
  /-- UPD_LEN TOTAL [32 bit] {R474} (spec 0) -/
  total : Nat := 0
  /-- UPD_DATA0..15 [32 bit each] {R474} (spec 0) -/
  data : Vector U32 16 := Vector.replicate 16 0
  /-- running firmware version word [32 bit] {R455} (D4 0) -/
  version : Nat := 0
  /-- version of the image that ran before a live update [32 bit] {R465} (D4 0) -/
  prevVersion : Nat := 0
  /-- security floor, 0x3400:0D [32 bit] {R475} (D4 0) -/
  floor : Nat := 0
  /-- E0 has stopped restarting the system watchdog (trial expired) [1 bit] {R462} (D1) -/
  expired : Bool := false
  /-- cause of the revert now due: 0 none, 1 command, 2 expiry, 3 reset {R462} (D1 0) -/
  revertWhy : Nat := 0
  /-- the boot commit of this trial ended in state 3 [1 bit] {R462} (D1) -/
  bootOk : Bool := false
  /-- lifecycle state, 0x2002:01 [8 bit] {R469} (D4 FIELD) -/
  life : Life := .field
  /-- target state, 0x2002:02 [8 bit] {R475} (spec 0xFF) -/
  target : Nat := 0xFF
  /-- transitions, 0x2002:04 [32 bit] {R475} (D4 0) -/
  transitions : U32 := 0
  /-- time of last transition, 0x2002:05 [64 bit] {R475} (D4 0) -/
  transTime : Nat := 0
  /-- wipe-pending mark and the state left by the transition {R422} (D4 none) -/
  wipePending : Option Life := none
  /-- key slot selected, 0x2003:01 [8 bit] {R475} (spec 1) -/
  keySel : Nat := 1
  /-- the key store, slots 0..8; empty = absent [32 or 96 bytes each] {R471} (D4 absent) -/
  key : Vector (List Byte) 9 := Vector.replicate 9 []
  /-- revoked signing keys, 0x2003:04 [4 bit] {R475} (spec 0) -/
  revoked : BitVec 4 := 0
  /-- device serial number, 0x1018:04 [32 bit] {R361} (D4 0) -/
  serial : Nat := 0
  deriving DecidableEq, Repr

/-! ## The whole machine -/

/-- The MB4800. `pending` is the queue of commands that wait, first in, first out. -/
structure State where
  /-- commands waiting, oldest first [model's own] {R25} (model: empty) -/
  pending : List Instr := []
  /-- time since reset in ns, advanced by an idle step [model's own] {R97} (model: 0) -/
  now : Nat := 0
  /-- running timers and their deadlines in ns [model's own] {R99} (model: none) -/
  timers : List (TimerId × Nat) := []
  /-- counter that the free values are drawn with [model's own, DESIGN CHOICE 0] {R339} (model: 0) -/
  free : Nat := 0
  /-- slack and core voltage {R27} (spec) -/
  arch : Arch := {}
  /-- straps, holds, supplies and pins {R55} (spec) -/
  pins : Pins := {}
  /-- timebase {R84} (spec) -/
  tb : Timebase := {}
  /-- measurement {R106} (spec) -/
  meas : Measure := {}
  /-- the lanes LN00..LN11 {R137} (spec: defaults of R137 and R189) -/
  lane : Vector Lane 12 := Lane.defaults
  /-- the snapshot of the last frame: lane states, outputs and status words, LN00..LN11 {R40} (spec 0) -/
  snap : Vector Lane 12 := Vector.replicate 12 {}
  /-- the phases PH00..PH31 {R160} (spec) -/
  phase : Vector Phase 32 := Vector.replicate 32 {}
  /-- the loops LP0..LP7 {R160} (spec) -/
  loop : Vector Loop 8 := Vector.replicate 8 {}
  /-- shelf loop and share link {R188} (spec) -/
  shelf : Shelf := {}
  /-- distribution {R221} (spec) -/
  dist : Dist := {}
  /-- battery {R246} (spec) -/
  bat : Battery := {}
  /-- sequencer {R269} (spec) -/
  seq : Seq := {}
  /-- thermal {R296} (spec) -/
  thm : Thermal := {}
  /-- engines, messaging, locks {R308} (spec) -/
  eng : Eng := {}
  /-- object dictionary and field interfaces {R335} (spec) -/
  net : Net := {}
  /-- twin pairing {R378} (spec) -/
  twin : Twin := {}
  /-- cascade {R399} (spec) -/
  casc : Casc := {}
  /-- reset controller {R409} (spec) -/
  rst : Rst := {}
  /-- memory integrity and NVM {R428} (spec) -/
  mem : Mem := {}
  /-- event recorder {R441} (spec) -/
  evr : Recorder := {}
  /-- update, lifecycle, keys {R455} (spec) -/
  upd : Upd := {}
  deriving DecidableEq, Repr

/-- The record of an invalid copy, or of another finding, made at the first release (R442): the time of day is 0 and unset, the timebase not
locked. -/
def resetRecord (code : Nat) (vals : List Nat) : Record := { code := code, flags := 5, vals := vals }

/-- The MB4800 at the end of step 9 of the release after power-on (R415), with a good trim load, before its boot commit: every register at its
reset value, and what the release itself starts (log entry 51). The learned-data copies of a new device are invalid, which the release
records (R262, R439). -/
def State.reset : State :=
  { ({} : State) with
    rst.devTrimOk := true
    rst.calSetOk := true
    rst.owed := [(0x0F01, [1])]
    evr.staging := [resetRecord 0x1103 [5, 0], resetRecord 0x1103 [5, 1], resetRecord 0x080C []]
    net.batch := [⟨0x080C, 0xFFFFFFFF⟩, ⟨0x1103, 0xFFFFFFFF⟩, ⟨0x1103, 0xFFFFFFFF⟩]
    timers := [(.sysWdog, 100000002), (.scan, 5000000), (.wdog 7, 10000000), (.wdog 6, 10000000), (.wdog 5, 10000000), (.wdog 4, 10000000),
      (.wdog 3, 10000000), (.wdog 2, 10000000), (.wdog 1, 10000000), (.wdog 0, 10000000), (.ready, 45000000), (.holdoverSec, 1000000000),
      (.scrubPass 2, 93600000000000), (.scrubPass 1, 4000000000), (.scrubPass 0, 4000000000)] }

/-- Why a step may stop the machine: no rule of the spec stops it, so there is no such reason. -/
inductive Fault
  deriving DecidableEq, Repr

/-- Why a command has no meaning. -/
inductive Refusal
  /-- Raised by exec's arm for a command whose meaning is not written; safe: nothing is concluded from it. -/
  | notModelled (mnemonic : String)
  deriving DecidableEq, Repr

end Sys2Proof.Machine
end

