-- ==== Sys2Proof/Machine/Dict.lean ====
section
/-! DEFINITION. The object dictionary's values: the table's look-up, the defaults that vary by instance, and the values in
force read through a view. -/

namespace Sys2Proof.Machine

/-- The command words of R344, R354, R355 and their like are compared as written. The key of an object in the lists of values. -/
def objKey (idx sub : Nat) : Nat := idx * 256 + sub

/-- The index of a key. -/
def keyIndex (k : Nat) : Nat := k / 256

/-- The sub of a key. -/
def keySub (k : Nat) : Nat := k % 256

/-- The selector of an object in 0x3A00:04 (R376). -/
def objSelector (idx sub : Nat) : Nat := objKey idx sub * 256

/-- A row covers an object. -/
def ObjRow.covers (r : ObjRow) (idx sub : Nat) : Bool :=
  r.index ≤ idx ∧ idx < r.index + r.count ∧ r.sub ≤ sub ∧ (sub - r.sub) % r.stride = 0 ∧ (sub - r.sub) / r.stride < r.subs

/-- The table's row of an object. -/
def findObj (idx sub : Nat) : Option ObjRow := objTable.find? fun r => r.covers idx sub

/-- The index exists in the dictionary. -/
def indexExists (idx : Nat) : Bool := objTable.any fun r => r.index ≤ idx ∧ idx < r.index + r.count

/-- Defaults of the measurement objects (R112; the calibration set's factory values are log entry 2). -/
def defaultMeasure (idx sub : Nat) : Option Nat :=
  match idx with
  | 0x2201 => some (if 3 ≤ sub ∧ sub ≤ 20 then 0 else 1)
  | 0x2207 => some (if 3 ≤ sub ∧ sub ≤ 20 then 1 else 0)
  | 0x3610 | 0x3614 | 0x3618 => some 0x3F800000
  | 0x3613 => some 0xFF
  | 0x3616 | 0x3617 => some (if sub % 2 = 1 then 0x3F800000 else 0)
  | _ => none

/-- Defaults of the lane objects (R137, R189). -/
def defaultLane (idx sub : Nat) : Option Nat :=
  if 0x2310 ≤ idx ∧ idx ≤ 0x231B then
    let n := idx - 0x2310
    match sub with
    | 1 => some (ofBool (n < 11))
    | 2 => some (if 8 ≤ n ∧ n ≤ 10 then 2 else 1)
    | 3 => some (if n < 8 then 1 else if n < 10 then 2 else if n = 10 then 3 else 0)
    | 5 => some (if n < 8 then 0 else 1)
    | 6 => some (if n < 8 then n else 0)
    | 7 => some (if n = 8 ∨ n = 10 then 0xBF800000 else if n = 9 then 0x3CA3D70A else 0x3F800000)
    | 8 => some (if n < 8 then 1 else if n = 8 then 2 else if n = 9 then 3 else if n = 10 then 4 else 0)
    | _ => none
  else if 0x2328 ≤ idx ∧ idx ≤ 0x232A then
    match sub with
    | 1 => some (if idx = 0x2328 then 2 else 1)
    | 7 => some 1
    | _ => none
  else if idx = 0x2338 then
    match sub with
    | 1 => some 0x43C80000
    | 2 => some 0xC3BE0000
    | 4 => some 0xBF800000
    | 9 => some 0xC47A0000
    | 10 => some 0x455AC000
    | _ => none
  else if idx = 0x2339 then
    match sub with
    | 1 => some 0x3D4CCCCD
    | 10 => some 0x457A0000
    | _ => none
  else if idx = 0x233A then
    match sub with
    | 1 => some 0x38D1B717
    | 10 => some 0x40400000
    | _ => none
  else none

/-- Defaults of the thermal objects (R300). -/
def defaultThermal (idx sub : Nat) : Option Nat :=
  let die := idx ≤ 0x2C15
  if 0x2C10 ≤ idx ∧ idx ≤ 0x2C1F then
    match sub with
    | 1 => some (if die then 0x42DC0000 else 0x42B40000)
    | 2 => some 0x40A00000
    | 3 => some (if die then 0x42EC0000 else 0x42C80000)
    | 4 => some (if die then 0x40400000 else 0x40A00000)
    | 5 => some (if die then 0x42FA0000 else 0x42DC0000)
    | 6 => some 0x41200000
    | 7 => some (if die then 7 else 3)
    | 9 => some (ofBool die)
    | _ => none
  else none

/-- The default configuration of queue `q`, Q00 to Q31: its engine (R317) and the host's doorbell bits (R325). -/
def defaultQueue (q : Nat) : Nat :=
  if q < 16 then 0x300000 + 0x10 + (if q < 8 then q else 0)
  else 0x2000 + 0x100 * (q - 16) + 0x10 + (if q < 24 then q - 16 else 0)

/-- Defaults that vary by instance; none where the table's own column holds. -/
def defaultVarying (idx sub : Nat) : Option Nat :=
  if 0x2410 ≤ idx ∧ idx ≤ 0x2417 ∧ sub = 0x0F then some (28 + (idx - 0x2410))
  else if 0x2610 ≤ idx ∧ idx ≤ 0x261F ∧ sub = 0x15 then some (4 + (idx - 0x2610))
  else if 0x2630 ≤ idx ∧ idx ≤ 0x2631 ∧ sub = 0x0A then some (24 + 2 * (idx - 0x2630))
  else if 0x2630 ≤ idx ∧ idx ≤ 0x2631 ∧ sub = 0x0B then some (25 + 2 * (idx - 0x2630))
  else if 0x2810 ≤ idx ∧ idx ≤ 0x2813 ∧ sub = 0x10 then some (20 + (idx - 0x2810))
  else if idx = 0x2650 then some (if sub ≤ 16 then 2 ^ (sub - 1) else 0)
  else if idx = 0x3820 then some (defaultQueue (sub - 1))
  else if idx = 0x2020 ∧ sub = 1 then some 0x10
  else if idx = 0x2020 ∧ sub = 5 then some 0x18
  else defaultMeasure idx sub <|> defaultLane idx sub <|> defaultThermal idx sub

/-- The default of an object, before the position strap enters (R14, R375). -/
def objDefault (idx sub : Nat) : Nat :=
  (defaultVarying idx sub).getD (((findObj idx sub).map ObjRow.dflt).getD 0)

/-! ## Lists of values by key -/

/-- Puts a value at a key of a sorted list. -/
def putKey (k v : Nat) : List (Nat × Nat) → List (Nat × Nat)
  | [] => [(k, v)]
  | (a, b) :: r => if k < a then (k, v) :: (a, b) :: r else if k = a then (k, v) :: r else (a, b) :: putKey k v r

/-- Removes a key. -/
def dropKey (k : Nat) (l : List (Nat × Nat)) : List (Nat × Nat) := l.filter fun p => p.1 ≠ k

/-- Puts every pair of the first list over the second. -/
def overlay (l base : List (Nat × Nat)) : List (Nat × Nat) := l.foldl (fun b p => putKey p.1 p.2 b) base

/-! ## Views -/

/-- A view of the dictionary's settings: the raw value of each object. -/
abbrev Cfg := Nat → Nat → Nat

/-- The default of an object on this device: node-IDs add the position strap (R375). -/
def State.default (s : State) (idx sub : Nat) : Nat :=
  if idx = 0x2020 ∧ (sub = 1 ∨ sub = 5) then objDefault idx sub + s.pins.cascPos else objDefault idx sub

/-- The object is part of the calibration working copy (R128, R135). -/
def isCalObject (idx : Nat) : Bool := idx = 0x3601 ∨ (0x3610 ≤ idx ∧ idx ≤ 0x3619)

/-- The raw value in force of an rwc, rws or rw object. -/
def State.raw (s : State) (idx sub : Nat) : Nat :=
  let k := objKey idx sub
  let l := if isCalObject idx then s.meas.calWork.vals else s.net.force
  ((l.lookup k) <|> (s.net.rw.lookup k)).getD (s.default idx sub)

/-- The view of the values in force. -/
def State.cfg (s : State) : Cfg := s.raw

/-- A view with pending values over it (R343, R346). -/
def Cfg.overlaid (l : List (Nat × Nat)) (c : Cfg) : Cfg := fun idx sub => (l.lookup (objKey idx sub)).getD (c idx sub)

/-- The REAL32 value of an object in a view. -/
def Cfg.real (c : Cfg) (idx sub : Nat) : Rat := (real32 (c idx sub)).getD 0

/-- The value of a BOOLEAN object in a view. -/
def Cfg.flag (c : Cfg) (idx sub : Nat) : Bool := c idx sub ≠ 0

/-- A time object of a view, in ns. -/
def Cfg.ns (c : Cfg) (idx sub : Nat) : Nat := nsOf (c.real idx sub)

/-- Sets the value in force of an rwc or rws object, or of a calibration object of the working copy (R135). -/
def State.setForce (idx sub v : Nat) (s : State) : State :=
  let k := objKey idx sub
  let upd := fun l => if v = s.default idx sub then dropKey k l else putKey k v l
  if isCalObject idx then { s with meas.calWork.vals := upd s.meas.calWork.vals }
  else { s with net.force := upd s.net.force }

/-- Sets the value of an rw object. -/
def State.setRw (idx sub v : Nat) (s : State) : State :=
  { s with net.rw := if v = s.default idx sub then dropKey (objKey idx sub) s.net.rw else putKey (objKey idx sub) v s.net.rw }

end Sys2Proof.Machine
end

