-- ==== Sys2Proof/Machine/Ops.lean ====
section
/-! DEFINITION. The named operations that the meanings share: timers, one element of a bank of like units, records and
faults (R441 to R445, R478 to R482), dictionary answers, and reads of the working area of MRAM. -/

namespace Sys2Proof.Machine

/-- What a meaning answers. -/
abbrev Out := Host.Outcome State Fault Refusal

/-! ## Timers -/

/-- A running timer's deadline. -/
def State.deadline (s : State) (t : TimerId) : Option Nat := s.timers.lookup t

/-- The timer runs. -/
def State.running (s : State) (t : TimerId) : Bool := (s.deadline t).isSome

/-- The timer runs and its deadline has come. -/
def State.due (s : State) (t : TimerId) : Bool :=
  match s.deadline t with
  | some d => d ≤ s.now
  | none => false

/-- Stops a timer. -/
def State.disarm (t : TimerId) (s : State) : State := { s with timers := s.timers.filter fun p => p.1 ≠ t }

/-- Starts a timer that ends at a time. -/
def State.armAt (t : TimerId) (at_ : Nat) (s : State) : State :=
  { s with timers := (t, at_) :: s.timers.filter fun p => p.1 ≠ t }

/-- Starts a timer that ends after a time. -/
def State.arm (t : TimerId) (dt : Nat) (s : State) : State := s.armAt t (s.now + dt)

/-- Starts a timer unless it runs. -/
def State.armOnce (t : TimerId) (dt : Nat) (s : State) : State := if s.running t then s else s.arm t dt

/-- Keeps a timer running exactly while a condition holds. -/
def State.armWhile (c : Bool) (t : TimerId) (dt : Nat) (s : State) : State := if c then s.armOnce t dt else s.disarm t

/-- Draws the number of the next free value. -/
def State.draw (s : State) : Nat × State := (s.free, { s with free := s.free + 1 })

/-- Applies a step under a condition. -/
def State.when (c : Bool) (f : State → State) (s : State) : State := if c then f s else s

/-- Applies a step for each element of a list. -/
def State.each {α : Type} (l : List α) (f : α → State → State) (s : State) : State := l.foldl (fun s a => f a s) s

/-! ## One element of a bank -/

/-- Changes a channel. -/
def State.modCh (k : Fin 48) (f : Channel → Channel) (s : State) : State :=
  { s with meas.ch := s.meas.ch.set k (f s.meas.ch[k]) }

/-- Changes a modulator. -/
def State.modModu (k : Fin 52) (f : Modulator → Modulator) (s : State) : State :=
  { s with meas.modu := s.meas.modu.set k (f s.meas.modu[k]) }

/-- Changes a rotation slot. -/
def State.modSlot (k : Fin 4) (f : Slot → Slot) (s : State) : State :=
  { s with meas.slots := s.meas.slots.set k (f s.meas.slots[k]) }

/-- Changes a lane. -/
def State.modLane (k : Fin 12) (f : Lane → Lane) (s : State) : State := { s with lane := s.lane.set k (f s.lane[k]) }

/-- Changes a phase. -/
def State.modPhase (k : Fin 32) (f : Phase → Phase) (s : State) : State := { s with phase := s.phase.set k (f s.phase[k]) }

/-- Changes a loop. -/
def State.modLoop (k : Fin 8) (f : Loop → Loop) (s : State) : State := { s with loop := s.loop.set k (f s.loop[k]) }

/-- Changes a rectifier. -/
def State.modRec (k : Fin 32) (f : Rectifier → Rectifier) (s : State) : State :=
  { s with shelf.rects := s.shelf.rects.set k (f s.shelf.rects[k]) }

/-- Changes a branch. -/
def State.modBr (k : Fin 16) (f : Branch → Branch) (s : State) : State :=
  { s with dist.br := s.dist.br.set k (f s.dist.br[k]) }

/-- Changes a feed pair. -/
def State.modFeed (k : Fin 2) (f : FeedPair → FeedPair) (s : State) : State :=
  { s with dist.feed := s.dist.feed.set k (f s.dist.feed[k]) }

/-- Changes a string. -/
def State.modStr (k : Fin 4) (f : StringSt → StringSt) (s : State) : State :=
  { s with bat.str := s.bat.str.set k (f s.bat.str[k]) }

/-- Changes a rail. -/
def State.modRail (k : Fin 32) (f : Rail → Rail) (s : State) : State :=
  { s with seq.rail := s.seq.rail.set k (f s.seq.rail[k]) }

/-- Changes a temperature sensor. -/
def State.modSensor (k : Fin 16) (f : Sensor → Sensor) (s : State) : State :=
  { s with thm.sensor := s.thm.sensor.set k (f s.thm.sensor[k]) }

/-- Changes an engine. -/
def State.modEng (k : Fin 8) (f : Engine → Engine) (s : State) : State :=
  { s with eng.eng := s.eng.eng.set k (f s.eng.eng[k]) }

/-- Changes a queue. -/
def State.modQueue (k : Fin 64) (f : Queue → Queue) (s : State) : State :=
  { s with eng.queue := s.eng.queue.set k (f s.eng.queue[k]) }

/-- Changes a session. -/
def State.modSess (k : Fin 3) (f : Sess → Sess) (s : State) : State :=
  { s with net.sess := s.net.sess.set k (f s.net.sess[k]) }

/-- Changes a CAN port. -/
def State.modPort (k : Fin 2) (f : CanPort → CanPort) (s : State) : State :=
  { s with net.port := s.net.port.set k (f s.net.port[k]) }

/-- Changes a PMBus device. -/
def State.modPm (k : Fin 32) (f : PmDev → PmDev) (s : State) : State :=
  { s with net.pm := s.net.pm.set k (f s.net.pm[k]) }

/-- Changes a trigger of the recorder. -/
def State.modTrig (k : Fin 64) (f : Trigger → Trigger) (s : State) : State :=
  { s with evr.trig := s.evr.trig.set k (f s.evr.trig[k]) }

/-- Changes a recorder window. -/
def State.modWin (k : Fin 3) (f : RecWindow → RecWindow) (s : State) : State :=
  { s with evr.win := s.evr.win.set k (f s.evr.win[k]) }

/-- Changes a general timer. -/
def State.modGen (k : Fin 16) (f : GenTimer → GenTimer) (s : State) : State :=
  { s with tb.gen := s.tb.gen.set k (f s.tb.gen[k]) }

/-- Sets a gate pin's drive. -/
def State.setGate (k : Fin 24) (g : GateDrive) (s : State) : State := { s with pins.gate := s.pins.gate.set k g }

/-- Sets a PWM pin. -/
def State.setPwm (k : Fin 32) (p : PwmPin) (s : State) : State := { s with pins.pwm := s.pins.pwm.set k p }

/-- The session's number (R338): 0 CAN A, 1 CAN B, 2 SPI. -/
def sessIx : Session → Fin 3
  | .canA => 0
  | .canB => 1
  | .spi => 2

/-! ## Classes of fault code (R478, R479) -/

/-- Low bytes of class E by subsystem (R479). -/
def eventLows (hi : Nat) : List Nat :=
  match hi with
  | 0x01 => [0x04, 0x08]
  | 0x02 => [0x02, 0x0A]
  | 0x03 => [0x01, 0x03, 0x09]
  | 0x04 => [0x02, 0x08]
  | 0x05 => [0x05, 0x0B, 0x0D]
  | 0x06 => [0x03, 0x06, 0x08]
  | 0x07 => [0x08, 0x09, 0x0A, 0x0E]
  | 0x08 => [0x01, 0x02, 0x03, 0x04, 0x07, 0x09, 0x0B]
  | 0x09 => [0x03, 0x0A, 0x10, 0x11]
  | 0x0A => [0x06]
  | 0x0B => [0x06]
  | 0x0C => [0x01, 0x02, 0x06]
  | 0x0D => [0x01, 0x03, 0x04, 0x09, 0x0A, 0x0B, 0x0E, 0x10]
  | 0x0E => [0x02, 0x0B, 0x13]
  | 0x0F => [0x01, 0x02, 0x03, 0x04, 0x05, 0x07, 0x09]
  | 0x10 => [0x01]
  | 0x11 => [0x01]
  | 0x12 => [0x02, 0x04]
  | 0x13 => [0x01, 0x02, 0x03, 0x04, 0x05, 0x06, 0x07, 0x08, 0x09, 0x0A, 0x0B, 0x0C, 0x0D, 0x10, 0x14]
  | 0x14 => [0x01, 0x02, 0x04]
  | _ => []

/-- The code is a class E event. -/
def isEvent (code : Nat) : Bool := (eventLows (code / 256)).contains (code % 256)

/-- Emergency base and error-register bit of a subsystem (R479). -/
def emergency (hi : Nat) : Nat × Nat :=
  match hi with
  | 0x01 => (0x5200, 7)
  | 0x02 => (0x5300, 7)
  | 0x03 => (0x6100, 7)
  | 0x04 => (0x2200, 1)
  | 0x05 => (0x3200, 2)
  | 0x06 => (0x8200, 4)
  | 0x07 => (0x2300, 1)
  | 0x08 => (0x3300, 2)
  | 0x09 => (0x6200, 7)
  | 0x0A => (0x4200, 3)
  | 0x0B => (0x6300, 7)
  | 0x0C => (0x6400, 7)
  | 0x0D => (0x8100, 4)
  | 0x0E => (0x7100, 4)
  | 0x0F => (0x5100, 7)
  | 0x10 => (0x5500, 7)
  | 0x11 => (0x5600, 7)
  | 0x12 => (0x5700, 7)
  | 0x13 => (0x6500, 7)
  | 0x14 => (0x6600, 7)
  | _ => (0, 7)

/-- Emergency code of a fault (R480). -/
def emergencyCode (code : Nat) : Nat := (emergency (code / 256)).1 + code % 256

/-- The EMCY's instance field (R480). -/
def emcyInstance (inst : Nat) : Nat := if inst = 0xFFFFFFFF then 0xFFFFFF else inst % 2 ^ 24

/-- The error register 0x1001 (R482): bit 0 while the field holds any entry, bit k while it holds an entry of a subsystem that names k. -/
def errorRegister (errs : List ErrEntry) : Nat :=
  errs.foldl (fun r e => Nat.lor r (Nat.lor 1 (2 ^ (emergency (e.code / 256)).2))) 0

/-- An entry of 0x1003 as its word: [15:0] emergency code, [31:16] fault code (R361). -/
def errWord (e : ErrEntry) : Nat := emergencyCode e.code + 65536 * e.code

/-- Inserts a fault into a batch by ascending code (R481). -/
def insertErr (e : ErrEntry) : List ErrEntry → List ErrEntry
  | [] => [e]
  | a :: r => if e.code < a.code then e :: a :: r else a :: insertErr e r

/-- The batch enters the field, ascending, so that its highest code stands at sub 01; the field keeps sixteen (R481). -/
def enterBatch (batch errs : List ErrEntry) : List ErrEntry := (batch.reverse ++ errs).take 16

/-- A port's pending EMCYs after a batch: at most sixteen, in the order of entry; a full queue takes no more (R481). -/
def queueEmcys (reg : Nat) (batch : List ErrEntry) (q : List Emcy) : List Emcy :=
  batch.foldl (fun q e =>
    if q.length < 16 then q ++ [⟨emergencyCode e.code, reg, e.code, emcyInstance e.inst⟩] else q) q

/-- 0x1001 has changed: TPDO3 of each operational port is due (R362). -/
def State.registerChanged (s : State) : State :=
  State.each (List.finRange 2) (fun p => fun s => if s.net.port[p].nmt = .operational then s.armAt (.tpdo p 2) s.now else s) s

/-- The end of a fault batch's microsecond (R481, R363). -/
def State.flushBatch (s : State) : State :=
  let errs := enterBatch s.net.batch s.net.errs
  let reg := errorRegister errs
  let s := if reg = errorRegister s.net.errs then s else s.registerChanged
  let port := s.net.port.map fun p => if p.nmt = .operational then { p with emcy := queueEmcys reg s.net.batch p.emcy } else p
  { s with net.errs := errs, net.batch := [], net.port := port }

/-- Puts a fault of now into the batch of its microsecond; an older batch enters the field first (R481). -/
def State.batchFault (e : ErrEntry) (s : State) : State :=
  let us := s.tb.tod / 1000
  let s := if s.net.batch ≠ [] ∧ s.net.batchAt ≠ us then s.flushBatch else s
  { s with net.batch := insertErr e s.net.batch, net.batchAt := us }

/-! ## Records (R441 to R445) -/

/-- Flags of a record made now (R442). -/
def State.recFlags (s : State) : Nat :=
  ofBits [s.tb.todUnset, s.tb.todInvalid, decide (s.tb.lock ≠ .locked), decide (s.twin.st = .activePaired ∨ s.twin.st = .activeAlone)]

/-- A record of a code, made now (R442). -/
def State.mkRecord (s : State) (type code inst : Nat) (vals : List Nat) : Record :=
  { tod := s.tb.tod, code := code, type := type, frame := s.shelf.seq.toNat, flags := s.recFlags, inst := inst, vals := vals.take 120 }

/-- A record write is in progress: writes follow one another while records wait and no clear is in progress (R443, R448). -/
def Recorder.busy (r : Recorder) : Bool := r.running ∧ ¬ r.clearing ∧ r.staging ≠ []

/-- The records that stand once the slot of a sequence number has lost its valid mark (R441, R443). -/
def dropSlot (n : Nat) (l : List Record) : List Record := l.filter fun r => r.seq % 4096 ≠ n % 4096

/-- Queues a record in staging; a full buffer loses it (R443). -/
def State.queueRecord (r : Record) (s : State) : State :=
  if s.evr.staging.length < 16 then { s with evr.staging := s.evr.staging ++ [r] }
  else
    let s : State := { s with evr.lost := bump s.evr.lost }
    if s.running .recordsLost ∧ ¬ s.due .recordsLost then s
    else (s.arm .recordsLost 1000000000).batchFault ⟨0x1201, 0xFFFFFFFF⟩

/-- A trigger's settings match a fault code (R445, kind 1). -/
def State.trigMatches (s : State) (t : Fin 64) (code : Nat) : Bool :=
  let w := s.raw 0x3213 (t + 1)
  s.raw 0x3210 (t + 1) = 1 ∧ Nat.land code (bits w 31 16) = bits w 15 0

/-- A trigger fires, unless its records are still being taken or its holdoff since its last firing lasts (R445). -/
def Trigger.fire (now hold : Nat) (x : Trigger) : Trigger :=
  if x.armed ∨ x.taking.isSome ∨ now < x.holdUntil then x
  else { x with armed := true, firings := bump x.firings, holdUntil := now + hold }

/-- Fires the triggers of a set (R445). -/
def State.fireTriggers (p : Fin 64 → Bool) (s : State) : State :=
  { s with evr.trig := Vector.ofFn fun t : Fin 64 => if p t then (s.evr.trig[t]).fire s.now (s.cfg.ns 0x3217 (t + 1)) else s.evr.trig[t] }

/-- Fires the kind-1 triggers that match a queued fault (R445). -/
def State.fireOnFault (code : Nat) (s : State) : State := s.fireTriggers fun t : Fin 64 => s.trigMatches t code

/-- Raises a code now: its record is queued, and a class F fault also enters the batch for 0x1003 and the EMCYs (R478). -/
def State.raise (code inst : Nat) (vals : List Nat) (s : State) : State :=
  let s := (s.queueRecord (s.mkRecord 1 code inst vals)).fireOnFault code
  if isEvent code then s else s.batchFault ⟨code, inst⟩

/-- No instance (R442). -/
def noInst : Nat := 0xFFFFFFFF

/-- Raises a code at most once per second for an instance (R478). -/
def State.raiseLimited (code inst : Nat) (vals : List Nat) (s : State) : State :=
  if s.running (.limit code inst) ∧ ¬ s.due (.limit code inst) then s
  else (s.arm (.limit code inst) 1000000000).raise code inst vals

/-- Records the copies of a two-copy item that are found invalid at its load (R439): partition and copy, partitions numbered in the order
of R437 (log entry 18). -/
def State.copiesAtLoad (part : Nat) (a b : Bool) (s : State) : State :=
  let s := if a then s else s.raise 0x1103 noInst [part, 0]
  if b then s else s.raise 0x1103 noInst [part, 1]

/-! ## Dictionary answers -/

/-- Leaves a session's answer. -/
def State.answer (w : Session) (a : Answer) (s : State) : State := s.modSess (sessIx w) fun x => { x with answer := a }

/-- The role in force of a session. -/
def State.roleOf (s : State) (w : Session) : Role := s.net.sess[sessIx w].role

/-- A role's rank (R336). -/
def rank : Role → Nat
  | .observer => 0
  | .operator => 1
  | .engineer => 2
  | .vendor => 3

/-- A role does what another may (R336). -/
def roleAllows (r need : Role) : Bool := rank need ≤ rank r

/-! ## The user area of MRAM (R437) -/

/-- First host address of the user area. -/
def userBase : Nat := 0x206D0000

/-- One past the last host address of the user area. -/
def userEnd : Nat := 0x20800000

/-- What an address of the user area that nothing has written reads as (log entry 3). -/
def userBlank : Byte := 0

/-- The byte at an address of the user area. -/
def readByte (m : List Host.Cell) (a : Nat) : Byte := (m.lookup a).getD userBlank

/-- Writes one byte, keeping the list sorted and free of blank bytes. -/
def writeByte (a : Nat) (v : Byte) : List Host.Cell → List Host.Cell
  | [] => if v = userBlank then [] else [(a, v)]
  | (b, x) :: r =>
    if a < b then (if v = userBlank then (b, x) :: r else (a, v) :: (b, x) :: r)
    else if a = b then (if v = userBlank then r else (a, v) :: r)
    else (b, x) :: writeByte a v r

/-- Writes bytes at rising addresses. -/
def writeBytes (a : Nat) : List Byte → List Host.Cell → List Host.Cell
  | [], m => m
  | v :: r, m => writeBytes (a + 1) r (writeByte a v m)

/-- The canonical form of the user area's list: addresses strictly rising, no byte blank. -/
def Memory.wf : List Host.Cell → Bool
  | [] => true
  | (_, v) :: [] => v ≠ userBlank
  | (a, v) :: (b, x) :: r => decide (a < b) && decide (v ≠ userBlank) && Memory.wf ((b, x) :: r)

/-- The 32-bit word at a host address of the user area. -/
def readWord (m : List Host.Cell) (a : Nat) : Nat := leValue ((List.range 4).map fun k => readByte m (a + k))

end Sys2Proof.Machine
end

