-- ==== Sys2Proof/Machine/Units.lean ====
section
/-! DEFINITION. Settings of the units read from the dictionary, the timebase's running condition, and the pin groups that
several units drive. -/

namespace Sys2Proof.Machine

/-! ## Settings in force -/

/-- The REAL32 setting in force of an object. -/
def State.real (s : State) (idx sub : Nat) : Rat := s.cfg.real idx sub

/-- The BOOLEAN setting in force of an object. -/
def State.flag (s : State) (idx sub : Nat) : Bool := s.cfg.flag idx sub

/-- The time setting in force of an object, in ns. -/
def State.ns (s : State) (idx sub : Nat) : Nat := s.cfg.ns idx sub

/-- Kind of rail `r` (R269): 0 unused, 1 loop, 2 branch, 3 feed pair, 4 string, 5 GPIO enable. -/
def Cfg.railKind (c : Cfg) (r : Nat) : Nat := c (0x2A10 + r) 1

/-- Instance of rail `r` (R269). -/
def Cfg.railInst (c : Cfg) (r : Nat) : Nat := c (0x2A10 + r) 2

/-- The rail that names an instance of a kind. -/
def Cfg.railOf (c : Cfg) (kind inst : Nat) : Option (Fin 32) :=
  (List.finRange 32).find? fun r => c.railKind r = kind ∧ c.railInst r = inst

/-- The rail that names an instance of a kind, in force. -/
def State.railOf (s : State) (kind inst : Nat) : Option (Fin 32) := s.cfg.railOf kind inst

/-! ## Throttle limits (R302) -/

/-- Throttle channels below 1 that act on a target kind. -/
def State.throttles (s : State) (kind : Nat) : List (Fin 8) :=
  (List.finRange 8).filter fun j : Fin 8 => s.raw (0x2C40 + j) 2 = kind ∧ s.thm.f[j] < 1

/-- The least of a list, none where it is empty. -/
def leastOf : List Rat → Option Rat
  | [] => none
  | a :: r => some (r.foldl min a)

/-- The thermal cap; none while no channel throttles it. -/
def State.thermalCap (s : State) : Option Rat := leastOf ((s.throttles 1).map fun j : Fin 8 => s.thm.f[j] * s.real (0x2C40 + j) 5)

/-- The thermal limit of a loop; none while no channel throttles it. -/
def State.loopThermal (s : State) (l : Fin 8) : Option Rat :=
  leastOf (((s.throttles 2).filter fun j : Fin 8 => s.raw (0x2C40 + j) 3 = l.val).map fun j : Fin 8 => s.thm.f[j] * s.real (0x2410 + l) 0x0D)

/-- The throttle factor of a rectifier, 0x2C51. -/
def State.tau (s : State) (i : Fin 32) : Rat :=
  (leastOf (((s.throttles 3).filter fun j : Fin 8 => bit (s.raw (0x2C40 + j) 4) i).map fun j : Fin 8 => s.thm.f[j])).getD 1

/-! ## Where the device stands -/

/-- The time in the shelf frame, in ns after its boundary (R38): boundaries stand at the multiples of 25 µs of the time of day (R98). -/
def State.frameTime (s : State) : Nat := s.tb.tod % 25000

/-- The output blocks have been released (R415 step 9). -/
def State.up (s : State) : Bool := s.rst.phase = .released

/-- The timebase has been released since the reset (R415 step 6). -/
def State.tbOut (s : State) : Bool :=
  match s.rst.phase with
  | .released | .recovery => true
  | .step n => 6 < n
  | .held => false

/-- The timebase runs: released and not in TIMEBASE_FAIL (R85, R89). -/
def State.tbRuns (s : State) : Bool := s.tbOut ∧ s.tb.lock ≠ .timebaseFail

/-- The time of day is counted: by the timebase, or by the always-on count through a warm reset and a PLL unlock (R85, R96). -/
def State.todRuns (s : State) : Bool :=
  if s.tb.lock = .timebaseFail then ¬ s.tb.xoFailed else s.tbOut ∨ (s.rst.scope = .warm ∧ ¬ s.tb.xoFailed)

/-- A block is held in its own reset (R420). -/
def State.blkHeld (s : State) (code : Nat) : Bool := s.rst.blk.any fun b => b.code = code ∧ b.asserted

/-- This chip is the active chip of a pair (R378). -/
def State.active (s : State) : Bool := s.twin.st = .activePaired ∨ s.twin.st = .activeAlone

/-- This chip is a standby (R378). -/
def State.standby (s : State) : Bool := s.twin.st = .standbySync ∨ s.twin.st = .standbyUnsync

/-- This chip may drive its shared outputs: solo, or active and past the 5 µs of R62. -/
def State.drives (s : State) : Bool :=
  (s.twin.st = .solo ∨ s.active) ∧ ¬ s.twin.released ∧ ¬ s.twin.driveWait

/-! ## Doorbells (R325) -/

/-- SPI_IRQ_N is driven low while a doorbell is set under its mask in service mode, or while FULL_IRQ is 1 without it (R325). -/
def State.irqRefresh (s : State) : State :=
  { s with pins.spiIrq := if s.eng.service then s.eng.db[0] &&& s.eng.dbMask[0] ≠ 0 else s.eng.fullIrq }

/-- Rings doorbell bit `b` of an identity (R325). -/
def State.ring (i : Fin 11) (b : Nat) (s : State) : State :=
  { s with eng.db := s.eng.db.set i (s.eng.db[i] ||| BitVec.ofNat 32 (2 ^ b)) }.irqRefresh

/-! ## PMBus ports (R82, R371) -/

/-- The transaction of a port is over, or abandoned: both its lines are released. -/
def State.pmLet (p : Fin 2) (s : State) : State :=
  { s.disarm (.pmStretch p) with
    net.pmXfer := s.net.pmXfer.set p none, pins.pmbusReleased := s.pins.pmbusReleased ||| BitVec.ofNat 2 (2 ^ p.val) }

/-! ## Pin groups -/

/-- Every PWM pin high-impedance, both share-link drivers off (R56, R85). -/
def State.pwmOff (s : State) : State := { s with pins.pwm := Vector.replicate 32 .highZ, pins.slDriver := 0 }

/-- Every gate low through the reset sink, every PG pin low (R56, R61). -/
def State.gatesLow (s : State) : State := { s with pins.gate := Vector.replicate 24 .resetSink, pins.pg := 0 }

/-- QUENCH_OUT is no longer driven: QUENCH_IN is ignored for 1 µs more (R241). -/
def State.quenchLet (s : State) : State :=
  if s.dist.quenchOut then { s.arm .quenchIgnore 1000 with dist.quenchIgnore := true, dist.quenchOut := false } else s

/-- Every shared output released: PWM, gates, PG (which then floats to its pull-up), share link and QUENCH_OUT (R61, R62).
The downlink in flight is cut short (R392). -/
def State.releaseShared (s : State) : State :=
  let s := s.pwmOff.quenchLet
  { s with pins.gate := Vector.replicate 24 .highZ, pins.pg := 0xFF, pins.twinActO := false,
           shelf.sent := none, twin.released := true, twin.driveWait := false }

/-- A gate pin stands high. -/
def gateHigh : GateDrive → Bool
  | .held | .regulate | .source => true
  | _ => false

/-- The word of the gates that stand high: GBR00..15, GFD0A..1B, GST0..3. -/
def State.gatesHigh (s : State) : BitVec 24 := maskOf 24 fun k => gateHigh s.pins.gate[k]

/-- PG pins that cover a regulator-loop rail, alone or within a group (R60, R290). -/
def State.pgLoops (s : State) : BitVec 8 :=
  maskOf 8 fun k => (List.range 32).any fun r => bit (s.raw 0x2A02 (k + 1)) r ∧ s.cfg.railKind r = 1

/-- GPIO pins committed as rail enables (R59). -/
def State.gpioEnables (s : State) : BitVec 24 := maskOf 24 fun k => (s.railOf 5 k).isSome

/-- The gates whose hold is in force (R59). -/
def State.heldGates (s : State) : BitVec 24 :=
  BitVec.ofNat 24 (s.pins.brHold.toNat + 2 ^ 16 * s.pins.fdHold.toNat + 2 ^ 20 * s.pins.stHold.toNat)

/-- Some hold is in force: SYS_HOLD1 [31] (R64). -/
def State.holding (s : State) : Bool := s.heldGates ≠ 0 ∨ s.pins.pgHold ≠ 0 ∨ s.pins.gpioHold ≠ 0

/-- The 10 s of the hold end with the commits that release it (R59, R412). -/
def State.holdDone (s : State) : State := if s.holding then s else s.disarm .hold

/-! ## Pin states of R56 and R61 -/

/-- The internal 50 kΩ pull-down of the PWM pins is connected: never once TWIN_PAR is latched at 1 (R56, R58, R61). -/
def State.pwmPull (s : State) : Bool := ¬ s.pins.twinPar

/-- GPIO pins that stand as inputs with their 50 kΩ pull-down; the strap balls have no pull (R56). -/
def State.gpioPulls (s : State) : BitVec 24 := ~~~ s.pins.gpioDir &&& 0xFFFF80#24

/-- The sense-loss bias of the sense pairs is on: the measurement block has been committed since the reset (R56, R79). -/
def State.senseBias (s : State) : Bool := s.meas.committed

/-- CANx_TXD may leave the recessive level: the port runs, or the ROM's CAN A server of recovery does (R56, R467). -/
def State.canTxd (s : State) (p : Fin 2) : Bool := s.net.port[p].nmt ≠ .off ∨ (p = 0 ∧ s.rst.canARom)

/-- SPI_SDO may be driven: the ROM has been released (R56). -/
def State.spiSdo (s : State) : Bool :=
  match s.rst.phase with
  | .held => false
  | .step n => 5 ≤ n
  | _ => true

/-! ## Gates and quench latches (R221, R239) -/

/-- The gate of branch `k`. -/
def brGate (k : Fin 16) : Fin 24 := ⟨k.val, by omega⟩

/-- The gate of a feed: `false` is feed A. -/
def fdGate (p : Fin 2) (b : Bool) : Fin 24 := ⟨16 + 2 * p.val + b.toNat, by have := Bool.toNat_le b; omega⟩

/-- The gate of string `n`. -/
def stGate (n : Fin 4) : Fin 24 := ⟨20 + n.val, by omega⟩

/-- Source `q` (0 to 17) has its latch set and a map that includes target bit `t` (R239). -/
def State.quenchHits (s : State) (q t : Nat) : Bool := s.dist.quench.getLsbD q ∧ bit (s.raw 0x2650 (q + 1)) t

/-- Target bit `t` is forced off by a quench latch; a branch's own breaker latch does not govern it (R240). -/
def State.quenched (s : State) (t : Nat) : Bool := (List.range 18).any fun q => ¬ (q = t ∧ q < 16) ∧ s.quenchHits q t

/-- The gates of a set are sunk now: their branches and feeds keep the time (R232, R236). -/
def State.gatesSunk (h : BitVec 24) (s : State) : State :=
  { s with
    dist.br := Vector.ofFn fun k : Fin 16 =>
      if h.getLsbD (brGate k) then { s.dist.br[k] with sunkAt := s.now } else s.dist.br[k]
    dist.feed := Vector.ofFn fun p : Fin 2 =>
      let f := s.dist.feed[p]
      { f with sunkAt := #v[if h.getLsbD (fdGate p false) then s.now else f.sunkAt[0],
                            if h.getLsbD (fdGate p true) then s.now else f.sunkAt[1]] } }

/-- GPIO16 to GPIO23 committed as fault outputs: some quench map names them (R239). -/
def State.faultPins (s : State) : BitVec 24 :=
  maskOf 24 fun k => 16 ≤ k.val ∧ (List.range 18).any fun q => bit (s.raw 0x2650 (q + 1)) (33 + (k.val - 16))

end Sys2Proof.Machine
end

