-- ==== Sys2Proof/Machine/ResetOps.lean ====
section
/-! DEFINITION. Resets: their assertion in both scopes with what each keeps (R409 to R413), the epochs that they increment
(R316, R323), and giving up control of a pair (R392). -/

namespace Sys2Proof.Machine

/-! ## Identities and queues (R316, R317) -/

/-- The identity code of an identity's number (R316): 0 host, 1 to 8 E0 to E7, 9 twin proxy, 10 cascade proxy. -/
def identCode (i : Fin 11) : Nat :=
  if i = 0 then 0x01 else if i ≤ 8 then 0x10 + (i - 1) else if i = 9 then 0x20 else 0x21

/-- The identity's number of a code. -/
def identIx (code : Nat) : Option (Fin 11) := (List.finRange 11).find? fun i => identCode i = code

/-- The number of engine `e`. -/
def engIx (e : Fin 8) : Fin 11 := ⟨e.val + 1, by omega⟩

/-- The engine end of a queue in the signed image, for Q32 to Q63 (R317; Q32 to Q47 are fixed by the image, log entry 14). -/
def imageEngine (q : Nat) : Nat := if 48 ≤ q then 0x16 else 0x10

/-- The sender identity of queue `q` (R317). -/
def State.sender (s : State) (q : Nat) : Nat :=
  if q < 16 then 0x01
  else if q < 32 then bits (s.raw 0x3820 (q + 1)) 7 0
  else if q < 48 then imageEngine q
  else if q < 52 then imageEngine q
  else if q < 56 then 0x20
  else if q < 60 then imageEngine q
  else 0x21

/-- The receiver identity of queue `q` (R317). -/
def State.receiver (s : State) (q : Nat) : Nat :=
  if q < 16 then bits (s.raw 0x3820 (q + 1)) 7 0
  else if q < 32 then 0x01
  else if q < 48 then 0x10 + (q - 32) % 8
  else if q < 52 then 0x20
  else if q < 56 then imageEngine q
  else if q < 60 then 0x21
  else imageEngine q

/-- The epoch of an identity code. -/
def State.epochOf (s : State) (code : Nat) : U8 := ((identIx code).map fun i => s.eng.epoch[i]).getD 0

/-- Increments an identity's epoch and sets EPOCH_BUMPED in every queue of which it is the sender (R316, R323). -/
def State.bumpEpoch (i : Fin 11) (s : State) : State :=
  { s with eng.epoch := s.eng.epoch.set i (s.eng.epoch[i] + 1),
           eng.queue := Vector.ofFn fun q =>
             if s.sender q = identCode i then { s.eng.queue[q] with bumped := true } else s.eng.queue[q] }

/-- Rings an identity's lock-release doorbell (R325, R330). -/
def lockBit : Nat := 17

/-- Frees a lock: every identity armed on it is rung and its arm bit clears (R330). -/
def State.freeLock (n : Fin 64) (s : State) : State :=
  let s : State := { s with eng.lock := s.eng.lock.set n {} }
  State.each (List.finRange 11) (fun i => fun s =>
    if s.eng.arm[i].getLsbD n then
      ({ s with eng.arm := s.eng.arm.set i (s.eng.arm[i] &&& ~~~ BitVec.ofNat 64 (2 ^ n.val)) } : State).ring i lockBit
    else s) s

/-- An identity's epoch increments and its locks are released (R316, R329). -/
def State.newEpoch (i : Fin 11) (s : State) : State :=
  let s := s.bumpEpoch i
  let held := (List.finRange 64).filter fun n => s.eng.lock[n].owner = identCode i
  if held = [] then s else (State.each held State.freeLock s).raise 0x0C06 (identCode i) (held.map fun n => n.val)

/-- The identities whose epochs a warm reset increments: E0 to E7 and both proxies (R316). -/
def warmIdents : List (Fin 11) := [1, 2, 3, 4, 5, 6, 7, 8, 9, 10]

/-! ## What resets keep (R410, R421) -/

/-- Timers of the always-on domain: the hold of R59 (not restarted, R412) and the quench logic's (R26, R240, R241). -/
def alwaysOnTimer : TimerId → Bool
  | .hold | .quenchIgnore | .quenchRelease _ => true
  | _ => false

/-- Timers that outlive a reset: the escalation of RST_N (R409), and through a warm one those of the always-on domain. -/
def keptTimers (warm : Bool) (l : List (TimerId × Nat)) : List (TimerId × Nat) :=
  l.filter fun p => p.1 = .rstEscalate ∨ (warm ∧ alwaysOnTimer p.1)

/-- A slot that a reset finds in staging is left invalid (R459). -/
def BootSlot.cutOff (b : BootSlot) : BootSlot := if b.st = .staging then { b with st := .invalid } else b

/-- Non-volatile parts of the update, lifecycle and key state. -/
def Upd.nonVolatile (u : Upd) : Upd :=
  { ({} : Upd) with
    slot := u.slot.map BootSlot.cutOff, active := u.active, phase := u.phase, live := u.live, version := u.version, prevVersion := u.prevVersion,
    floor := u.floor, life := u.life, transitions := u.transitions, transTime := u.transTime, wipePending := u.wipePending,
    key := u.key, revoked := u.revoked, serial := u.serial, revertWhy := u.revertWhy }

/-- The state of every logic element at its reset value, with the MRAM and the levels that others drive kept (R410 cold). A record write cut
off leaves its slot without the valid mark (R444).
SYS_RSTCAUSE and SYS_RSTCOUNT stand in `rst`, which the assertion sets. The times at which gates were last sunk are no logic state: they go
on (R232, R236). -/
def State.coldKept (s : State) : State :=
  { ({} : State) with
    pending := s.pending, now := s.now, free := s.free, timers := keptTimers false s.timers,
    pins.gpioIn := s.pins.gpioIn, pins.twinActI := s.pins.twinActI, dist.quenchIn := s.dist.quenchIn,
    dist.br := s.dist.br.map fun b => { sunkAt := b.sunkAt }, dist.feed := s.dist.feed.map fun f => { sunkAt := f.sunkAt },
    meas.calHalf := s.meas.calHalf, bat.copies := s.bat.copies,
    net.store := s.net.store, net.commit.restore := s.net.commit.restore, mem.user := s.mem.user,
    evr.recs := if s.evr.busy then dropSlot s.evr.next s.evr.recs else s.evr.recs, evr.torn := s.evr.torn ∨ s.evr.busy, evr.next := s.evr.next,
    upd := s.upd.nonVolatile, rst := s.rst }

/-- A string's quantities in main SRAM, which a warm reset keeps (R264); its counting stops at the assertion (R249). -/
def keptString (now : Nat) (x : StringSt) : StringSt :=
  { x with cmd := false, waitMatch := false, stoppedAt := if x.known then x.stoppedAt <|> some now else none }

/-- A branch after a warm reset: HELD where its gate is held high (R59), QUENCHED where a latch forces it off (R240), else OFF. Its
comparators' levels stand (R26). -/
def State.warmBranch (s : State) (k : Fin 16) : Branch :=
  let b := s.dist.br[k]
  { st := if s.pins.brHeld.getLsbD k then .held else if s.quenched k then .quenched else .off,
    limit := b.limit, breaker := b.breaker, sunkAt := b.sunkAt }

/-- What a warm reset leaves: the always-on domain and the memories (R410, R96, R264, R322, R444). The quench logic's target
maps and release times are of the always-on domain (R26, R239; DEDUCED, log entry 15). -/
def State.warmKept (s : State) : State :=
  let c := s.coldKept
  { c with
    timers := keptTimers true s.timers,
    pins := { c.pins with
      cascPos := s.pins.cascPos, recover := s.pins.recover, slAddr := s.pins.slAddr, twinPar := s.pins.twinPar,
      unstable := s.pins.unstable, brHeld := s.pins.brHeld, fdHeld := s.pins.fdHeld, stHeld := s.pins.stHeld,
      pgHeld := s.pins.pgHeld, gpioHeld := s.pins.gpioHeld, brHold := s.pins.brHold, fdHold := s.pins.fdHold,
      stHold := s.pins.stHold, pgHold := s.pins.pgHold, gpioHold := s.pins.gpioHold, gate := s.pins.gate, pg := s.pins.pg,
      gpioOut := s.pins.gpioOut, gpioDir := s.pins.gpioDir, brownWarn := s.pins.brownWarn, brownSeen := s.pins.brownSeen,
      vgdUv := s.pins.vgdUv, vauxOv := s.pins.vauxOv, vddioRange := s.pins.vddioRange },
    tb := { c.tb with
      lock := s.tb.lock, steering := s.tb.steering, freqCorr := s.tb.freqCorr, alignTerm := s.tb.alignTerm, tod := s.tb.tod, todUnset := s.tb.todUnset, todLoaded := s.tb.todLoaded,
      todInvalid := s.tb.todInvalid, holdoverTime := s.tb.holdoverTime, errBound := s.tb.errBound,
      limitRaised := s.tb.limitRaised, model := s.tb.model, lastT := s.tb.lastT, validBefore := s.tb.validBefore,
      xoFailed := s.tb.xoFailed },
    net.force := s.net.force.filter fun p => keyIndex p.1 = 0x2650 ∨ keyIndex p.1 = 0x2651,
    dist.br := Vector.ofFn s.warmBranch,
    dist.str := Vector.ofFn fun n : Fin 4 => if s.quenched (stGate n) then .quenched else .off,
    dist.quench := s.dist.quench, dist.quenchOut := s.dist.quenchOut, dist.quenchIgnore := s.dist.quenchIgnore,
    bat.str := s.bat.str.map (keptString s.now), bat.seq := s.bat.seq,
    seq.sysOn := s.seq.sysOn ∨ s.seq.onAfter, seq.resets := s.seq.resets, seq.upSince := s.seq.upSince,
    thm.lockout := s.thm.lockout, thm.lockSensors := s.thm.lockSensors, thm.shutdowns := s.thm.shutdowns,
    eng.epoch := s.eng.epoch, eng.queue := s.eng.queue.map fun q => { q with posts := 0, refused := 0 },
    eng.eng := Vector.ofFn fun e => { c.eng.eng[e] with expiryTimes := s.eng.eng[e].expiryTimes },
    eng.sysPending := s.eng.sysPending, eng.sysExpiries := s.eng.sysExpiries,
    twin.tolerance := s.twin.tolerance,
    mem := { c.mem with
      mainCorr := s.mem.mainCorr, queueCorr := s.mem.queueCorr, mainUnc := s.mem.mainUnc, queueUnc := s.mem.queueUnc,
      mramCorr := s.mem.mramCorr, mramUnc := s.mem.mramUnc, badWords := s.mem.badWords },
    evr.recs := s.evr.recs, evr.torn := s.evr.torn, evr.staging := s.evr.staging }

/-! ## Assertion (R409, R412, R413) -/

/-- Bits of SYS_RSTCAUSE (R424). -/
def causePowerOn : BitVec 16 := 0x0001
def causeSupply : BitVec 16 := 0x0002
def causeVcore : BitVec 16 := 0x0004
def causePin : BitVec 16 := 0x0008
def causePinEsc : BitVec 16 := 0x0010
def causeSysWdog : BitVec 16 := 0x0020
def causeEngWdog : BitVec 16 := 0x0040
def causeSw : BitVec 16 := 0x0080
def causeUncorr : BitVec 16 := 0x0100
def causeParity : BitVec 16 := 0x0200
def causeLifecycle : BitVec 16 := 0x0400
def causeTwin : BitVec 16 := 0x0800
def causeGiveUp : BitVec 16 := 0x1000
def causeThermal : BitVec 16 := 0x2000
def causeSequencer : BitVec 16 := 0x4000
def causeStall : BitVec 16 := 0x8000

/-- A reset is being released (R412). -/
def State.releasing (s : State) : Bool := s.rst.phase ≠ .released ∧ s.rst.phase ≠ .recovery

/-- The wider of two scopes (R412). -/
def widest : Scope → Scope → Scope
  | .warm, .warm => .warm
  | _, _ => .cold

/-- The reset controller's registers at an assertion: causes replaced, or accumulated with MULTIPLE under R412. Every other register takes
its reset value (R410, R425), but that a warm reset shows an abandoned block reset as forced (R412) and keeps the trim status until
the next load (R417). -/
def Rst.assert (sc : Scope) (cause : BitVec 16) (acc : Bool) (r : Rst) : Rst :=
  let sc := if acc then widest sc r.scope else sc
  let warm := decide (sc = .warm)
  { ({} : Rst) with
    cause := if acc then r.cause ||| cause else cause, warm := warm, multiple := acc, stallStep := r.stallStep,
    phase := if r.supplyOk then .step 1 else .held, scope := sc,
    warmCount := if sc = .warm then r.warmCount + 1 else r.warmCount,
    coldCount := if sc = .cold then satInc 255 r.coldCount else r.coldCount,
    stalls := r.stalls, blkLast := if warm then ((r.blk.head?).map BlkReset.code).getD 0 else 0, blkForced := warm ∧ r.blk ≠ [],
    devTrimFallback := warm ∧ r.devTrimFallback, calSetFallback := warm ∧ r.calSetFallback, protective := warm ∧ r.protective,
    supplyOk := r.supplyOk,
    owed := r.owed ++ r.blk.map fun b => (0x0F04, [b.code]) }

/-- The outputs at a warm reset's assertion in solo operation (R56, R59, R60): every hold latch takes its output's level, but
for the PG pins that cover a loop rail, which go low. A thermal shutdown clears every hold instead and sinks every gate fast (R243 rank 2).
Fault outputs keep their levels (R239). -/
def State.holdOutputs (thermal : Bool) (s : State) : State :=
  let p := s.pins
  if thermal then
    let dir := p.gpioDir &&& s.faultPins
    { s.gatesSunk s.gatesHigh with
      pins.gate := Vector.replicate 24 .fastSink, pins.pg := 0,
      pins.brHeld := 0, pins.fdHeld := 0, pins.stHeld := 0, pins.pgHeld := 0, pins.gpioHeld := 0, pins.brHold := 0,
      pins.fdHold := 0, pins.stHold := 0, pins.pgHold := 0, pins.gpioHold := 0, pins.gpioDir := dir, pins.gpioOut := p.gpioOut &&& dir }
  else
    let h := s.gatesHigh
    let pg := p.pg &&& ~~~ s.pgLoops
    let ge := if s.releasing then p.gpioHold else s.gpioEnables
    let dir := p.gpioDir &&& (ge ||| s.faultPins)
    { s with
      pins.gate := p.gate.map fun g => if gateHigh g then .held else if g = .fastSink then .fastSink else .low
      pins.brHeld := h.extractLsb' 0 16, pins.fdHeld := h.extractLsb' 16 4, pins.stHeld := h.extractLsb' 20 4,
      pins.pg := pg, pins.pgHeld := pg, pins.gpioHeld := p.gpioOut &&& ge,
      pins.brHold := 0xFFFF#16, pins.fdHold := 0xF#4, pins.stHold := 0xF#4, pins.pgHold := 0xFF#8, pins.gpioHold := ge,
      pins.gpioDir := dir, pins.gpioOut := p.gpioOut &&& dir }

/-- The outputs at a warm reset's assertion of a chip of a pair: no hold; every shared output released, every GPIO an input but for the
fault outputs (R56, R61). -/
def State.releaseOutputs (s : State) : State :=
  let s := s.releaseShared
  let dir := s.pins.gpioDir &&& s.faultPins
  { s with pins.gpioDir := dir, pins.gpioOut := s.pins.gpioOut &&& dir }

/-- Bound of step 1 of a cold release in ns: 300 µs, and the three readings of the straps 10 µs apart (R52, R415). -/
def coldStart : Nat := 320000

/-- Asserts a reset (R409, R410). The scope that takes effect is the wider of this reset's and that of a release in progress
(R412). With TWIN_PAR at 1 no hold is used and every shared output is released (R61). -/
def State.assertReset (sc : Scope) (cause : BitVec 16) (thermal : Bool) (s : State) : State :=
  let acc := s.releasing
  let sc := if acc then widest sc s.rst.scope else sc
  let r := s.rst.assert sc cause acc
  match sc with
  | .cold => ({ (s.gatesSunk s.gatesHigh).coldKept with rst := r, tb.tod := 0 } : State).when r.supplyOk (State.arm .stepBound coldStart)
  | .warm =>
    let outs := if s.pins.twinPar then s.releaseOutputs else s.holdOutputs thermal
    let bumped := State.each warmIdents State.newEpoch { outs with eng.queue := outs.eng.queue.map fun q => { q with bumped := false } }
    { bumped.warmKept with
      rst := r, twin.released := s.pins.twinPar, twin.st := if s.pins.twinPar then .unpaired else .solo, seq.sysOn := s.seq.sysOn && !thermal }

/-- The word of SYS_RSTCAUSE (R424). -/
def Rst.causeWord (r : Rst) : Nat :=
  r.cause.toNat + 2 ^ 16 * ofBool r.warm + 2 ^ 17 * ofBool r.multiple + 2 ^ 24 * r.stallStep

/-! ## Giving up control (R392 to R394) -/

/-- The active chip gives up control on a trigger: the code stands in 0x3000:0D, 0x0E03 is recorded, the token drops and every
shared output is released (R392, R62). -/
def State.dropToken (code : Nat) (s : State) : State :=
  ({ s with twin.giveUp := code }.raise 0x0E03 noInst [code]).releaseShared

/-- A trigger whose reset is the give-up's warm reset (R392, R409): it acts on the active chip only. -/
def State.giveUp (code : Nat) (cause : BitVec 16) (s : State) : State :=
  if s.active then (s.dropToken code).assertReset .warm cause false else s

end Sys2Proof.Machine
end

