-- ==== Sys2Proof/Machine/Arch.lean ====
section
/-! DEFINITION. Bridges, slack and the adaptive core voltage (R23 to R33), and the activation of engine tasks (R308 to R313). -/

namespace Sys2Proof.Machine

/-- ISLAND_EVENT (R25): the event enters its bridge's buffer, or is discarded where four wait, and 0x0B03 is raised. -/
def execIslandEvent (bridge : Fin 9) (event : Nat) (s : State) : Out :=
  let l := s.arch.bridges[bridge]
  .next (if l.length < 4 then { s with arch.bridges := s.arch.bridges.set bridge (l ++ [event]) }
    else s.raise 0x0B03 bridge [bridge])

/-- The number of a unit in 0x3808:05 (R33): engines 0 to 7, lanes 16 to 27. -/
def slackUnit (u : Fin 20) : Nat := if u < 8 then u else u + 8

/-- The unit of a task set's engine (R310). -/
def engUnit (e : Fin 8) : Fin 20 := ⟨e.val, by omega⟩

/-- Raises VCORE and restarts the count for lowering (R28). -/
def State.raiseVcore (mv : Nat) (s : State) : State :=
  { s with arch.vcoreMv := min 850 (s.arch.vcoreMv + mv), arch.lowerRun := 0 }

/-- The slack of a period from its three times (R27); 0 when the deadline is missed. -/
def slackOf (trigger done deadline : Nat) : Rat :=
  if deadline ≤ done ∨ deadline ≤ trigger then 0 else ((deadline - done : Nat) : Rat) / ((deadline - trigger : Nat) : Rat)

/-- VCORE before an interval raise of this instant, whose place an emergency raise takes; else VCORE (R28). -/
def State.vcoreBase (s : State) : Nat :=
  match s.arch.raised with
  | some (t, mv) => if t = s.now then mv else s.arch.vcoreMv
  | none => s.arch.vcoreMv

/-- A unit's report of a period's slack: the minima (R33), the run of low periods (R30), and the emergency raise (R28), which takes
the place of an interval raise made at the same instant. The run counts low periods at any VCORE: VCORE is judged when 0x0B02 is
raised (DESIGN CHOICE, log entry 80). -/
def State.reportSlack (u : Fin 20) (k : Rat) (s : State) : State :=
  let low := decide (k < 1 / 20)
  let a : Arch := s.arch
  let a : Arch := { a with
    interval := (match a.interval with
      | some (m, v) => if k < m then some (k, slackUnit u) else some (m, v)
      | none => some (k, slackUnit u)),
    slackMin := some ((a.slackMin.map (min k)).getD k),
    lowRuns := a.lowRuns.set u (if low then satInc 3 a.lowRuns[u] else 0) }
  let base := s.vcoreBase
  let s : State := { s with arch := a }
  if low ∧ base < 850 then
    { ({ s with arch.vcoreMv := base } : State).raiseVcore 25 with
      arch.emergencyRaises := bump a.emergencyRaises, arch.emergencyAt := some s.now, arch.raised := none }
  else s

/-- Lowering steps are suspended: BROWN_WARN, a commit being applied, or engines restarting one by one for a live update (R29, R315). -/
def State.lowerHeld (s : State) : Bool :=
  s.pins.brownWarn ∨ s.net.commit.st = .applying ∨ s.upd.liveTodo ≠ []

/-- VCORE_INTERVAL (R28, R29, R30): an interval of the timebase. An interval in which no unit reported a slack leaves VCORE and the
counts of consecutive intervals as they are (DESIGN CHOICE, log entry 80). -/
def execVcoreInterval (s : State) : Out :=
  if ¬ s.tbRuns then .next s else
  match s.arch.interval with
  | none => .next s
  | some (m, u) =>
    let t := s.real 0x3808 1
    let ceil := s.arch.vcoreMv = 850 ∧ m < t
    let s := { s with arch.interval := none, arch.slackLast := m, arch.limitingUnit := u,
                      arch.ceilingRun := if ceil then satInc 10 s.arch.ceilingRun else 0 }
    .next (if m < t then
        (if s.arch.emergencyAt = some s.now then s
        else { s.raiseVcore 10 with arch.raised := some (s.now, s.arch.vcoreMv) })
      else if m < t + 1 / 20 then { s with arch.lowerRun := 0 }
      else
        let run := satInc 10 s.arch.lowerRun
        if run < 10 ∨ s.lowerHeld then { s with arch.lowerRun := run }
        else { s with arch.lowerRun := 0, arch.vcoreMv := max 550 (s.arch.vcoreMv - 5) })

/-- VCORE_CEILING (R30): ten consecutive intervals below the target at 0.85 V. -/
def execVcoreCeiling (s : State) : Out :=
  .next (if s.arch.vcoreMv = 850 ∧ 10 ≤ s.arch.ceilingRun then
      ({ s with arch.ceilingRun := 0, arch.ceilingEvents := bump s.arch.ceilingEvents }).raise 0x0B01 noInst []
    else s)

/-- SLACK_COLLAPSE (R30): three consecutive low periods of one unit at 0.85 V. -/
def execSlackCollapse (u : Fin 20) (s : State) : Out :=
  .next (if s.arch.vcoreMv = 850 ∧ 3 ≤ s.arch.lowRuns[u] then
      (({ s with arch.lowRuns := s.arch.lowRuns.set u 0 }).raise 0x0B02 (slackUnit u) []).giveUp 0x0B02 causeGiveUp
    else s)

/-- An engine runs a task set, also while the set migrates from it task by task (R314). -/
def engRuns (e : EngSt) : Bool := e = .running ∨ e = .hosting ∨ e = .migratingOut

/-- Task sets that run: those of E0 to E6 whose engine runs (R308, R313). -/
def State.runningSets (s : State) : BitVec 8 := maskOf 8 fun e => e.val < 7 ∧ engRuns (s.eng.eng[s.eng.host[e]]).st

/-- E0 restarts the system watchdog once every running task set has completed an activation (R313), unless a trial has
expired (R462). -/
def State.feedSysWdog (s : State) : State :=
  if s.eng.setDone &&& s.runningSets = s.runningSets ∧ ¬ s.upd.expired then
    { s.arm .sysWdog (s.ns 0x3800 1) with eng.setDone := 0 }
  else s

/-- TASK_ACTIVATION (R308, R311): an activation of task `task` of task set `e` completes; `tasks` is the set of its signed image
(log entry 19). Its slack is reported against the set's engine (R310). -/
def execTaskActivation (e : Fin 8) (task : Fin 8) (tasks : BitVec 8) (trigger done deadline : Nat) (s : State) : Out :=
  let h := s.eng.host[e]
  .next (if ¬ engRuns (s.eng.eng[h]).st ∧ ¬ (s.eng.eng[h]).st = .idle then s
    else
      let k := slackOf trigger done deadline
      let s := s.reportSlack (engUnit e) k
      let s := s.modEng e fun x => { x with slackMin := some ((x.slackMin.map (min k)).getD k) }
      let d := (s.eng.eng[h]).tasksDone ||| BitVec.ofNat 8 (2 ^ task.val)
      let s := s.modEng h fun x => { x with tasksDone := d }
      let s := if d &&& tasks = tasks then
          (s.modEng h fun x => { x with tasksDone := 0 }).arm (.wdog h) (s.ns (0x3810 + h) 3)
        else s
      { s with eng.setDone := s.eng.setDone ||| BitVec.ofNat 8 (2 ^ e.val) }.feedSysWdog)

end Sys2Proof.Machine
end

