-- ==== Sys2Proof/Machine/DictOps.lean ====
section
/-! DEFINITION. Accesses to the object dictionary: the order of refusals (R484), sessions and the claim of the shadow (R338 to
R343), the configuration hash (R351), and the form that every object's write takes. -/

namespace Sys2Proof.Machine

/-! ## Sessions -/

/-- An access reaches a session's server: its idle timeout starts again (R341). -/
def State.touch (w : Session) (s : State) : State := s.arm (.sessIdle (sessIx w)) (nsOf ((real32 s.net.sess[sessIx w].idle).getD 0))

/-- The SPI host island is out of reset (R415 step 5, R419). -/
def State.hostUp (s : State) : Bool :=
  (match s.rst.phase with
  | .released | .recovery => true
  | .step n => 5 ≤ n
  | .held => false) && !s.blkHeld 7

/-- A request of the host by a register: it reaches the SPI session's server (R338). -/
def State.byHost (f : State → State) (s : State) : State := if s.hostUp then f (s.touch .spi) else s

/-- The ROM of recovery serves an object (R467). -/
def romObject (idx : Nat) : Bool := idx = 0x1018 ∨ idx = 0x2002 ∨ idx = 0x2010 ∨ idx = 0x3400

/-- A port's server runs: SDO in pre-operational and operational (R359), out of the port's own reset and bus-off. -/
def State.portServes (s : State) (p : Fin 2) : Bool :=
  s.up && (decide (s.net.port[p].nmt = .preOperational) || decide (s.net.port[p].nmt = .operational)) && !s.net.port[p].busOff && !s.blkHeld (3 + p)

/-- A session's server answers: E0's once the device is released, the ROM's in recovery on CAN A and SPI (R467). -/
def State.serves (s : State) (w : Session) : Bool :=
  match w with
  | .spi => s.hostUp && (s.up || decide (s.rst.phase = .recovery))
  | .canA => s.portServes 0 || (decide (s.rst.phase = .recovery) && s.rst.canARom)
  | .canB => s.portServes 1

/-- Gives up the claim; every pending change is discarded (R343). -/
def State.dropClaim (s : State) : State := { s with net.shadow := [], net.claim := none }

/-- A session returns to Observer (R341, R343); for a cause other than its own request 0x0D03 is recorded. -/
def State.endSession (w : Session) (asked : Bool) (s : State) : State :=
  let was := s.roleOf w
  let s := s.modSess (sessIx w) fun x => { x with role := .observer, requested := 0, transfer := none }
  let s := if s.net.claim = some w then s.dropClaim else s
  if asked ∨ was = .observer then s else s.raise 0x0D03 noInst [sessIx w]

/-! ## The order of refusals (R484) -/

/-- What the checks of a write answer. -/
inductive Verdict | pass | abort (code : Nat)
  deriving DecidableEq, Repr

/-- The objects a standby's servers may write (R391). -/
def standbyOpen (idx sub : Nat) : Bool :=
  idx = 0x2010 ∨ (idx = 0x2020 ∧ (sub = 1 ∨ sub = 5)) ∨ (idx = 0x3000 ∧ (sub = 8 ∨ sub = 0x0F))

/-- The object is in the dictionary: the abort where it is not (R361, R484 step 1). -/
def missing (idx sub : Nat) : Option Nat :=
  if (findObj idx sub).isSome then none else some (if indexExists idx then 0x06090011 else 0x06020000)

/-- Refusals of device state common to every write (R484 step 4): a standby's (R391), and a shadow claimed by another (R343). -/
def State.stateRefusal (s : State) (w : Option Session) (r : ObjRow) (idx sub : Nat) : Option Nat :=
  if s.standby ∧ ¬ standbyOpen idx sub then some 0x08000110
  else if r.access = .rwc ∧ s.net.claim.isSome ∧ s.net.claim ≠ w then some 0x08000103
  else none

/-- The length of the data matches the type; types of varying length are checked where their object is written. -/
def lengthOk (r : ObjRow) (d : List Byte) : Bool :=
  match r.type.size with
  | some n => d.length = n
  | none => true

/-- The checks of R484 on a write by a role: existence, direction, role, device state, length, range, invalid value. -/
def State.checkWrite (s : State) (w : Option Session) (role : Role) (idx sub : Nat) (d : List Byte)
    (busy : Option Nat) (badLength : Bool) (invalid : Option Nat) : Verdict :=
  match findObj idx sub with
  | none => .abort (if indexExists idx then 0x06090011 else 0x06020000)
  | some r =>
    if r.access = .ro ∨ r.access = .const then .abort 0x06010002
    else if ¬ roleAllows role r.role then .abort 0x08000102
    else
      match s.stateRefusal w r idx sub, busy with
      | some c, _ => .abort c
      | none, some c => .abort c
      | none, none =>
        if ¬ lengthOk r d ∨ badLength then .abort 0x06070010
        else if r.type.size.isSome ∧ ¬ r.range.admits (leValue d) then .abort 0x06090030
        else
          match invalid with
          | some c => .abort c
          | none => .pass

/-! ## The configuration hash (R351) -/

/-- The object enters the configuration hash. -/
def hashed (r : ObjRow) (idx sub : Nat) : Bool :=
  (r.access = .rwc ∨ r.access = .rws) ∧ idx ≠ 0x2010 ∧ ¬ (idx = 0x2020 ∧ (sub = 1 ∨ sub = 5))

/-- The keys that a row covers, ascending. -/
def ObjRow.keys (r : ObjRow) : List Nat :=
  (List.range r.count).flatMap fun i => (List.range r.subs).map fun j => objKey (r.index + i) (r.sub + j * r.stride)

/-- Inserts a key into an ascending list. -/
def insertKey (k : Nat) : List Nat → List Nat
  | [] => [k]
  | a :: r => if k < a then k :: a :: r else a :: insertKey k r

/-- Every key of the dictionary, ascending. -/
def allKeys : List Nat := (objTable.flatMap ObjRow.keys).foldr insertKey []

/-- The object is kept once per CAN port (R361). -/
def perPort (idx : Nat) : Bool := idx = 0x1005 ∨ (0x1014 ≤ idx ∧ idx ≤ 0x1017) ∨ (0x1400 ≤ idx ∧ idx ≤ 0x1A03)

/-- The mapping entry of an object (R362): index, sub and length in bits. -/
def mapEntry (x : Nat × Nat) : Nat :=
  let bits := ((findObj x.1 x.2).bind fun r => r.type.size).getD 0 * 8
  x.1 * 65536 + x.2 * 256 + bits

/-- The objects that TPDO `n` (0 to 3) maps by default: on port A and on port B in mode 0, and on port B in mode 1 (R362). -/
def tpdoDefault (classic : Bool) (n : Nat) : List (Nat × Nat) :=
  match classic, n with
  | false, 0 => [0x01, 0x02, 0x07, 0x08, 0x09, 0x0A, 0x0B, 0x0C].map fun j => (0x2E20, j)
  | false, 1 => (List.range 16).map fun j => (0x2204, 5 + j)
  | false, 2 => [(0x1001, 0), (0x2A00, 3), (0x2A02, 9), (0x2A00, 4), (0x2600, 1), (0x2C00, 1), (0x2101, 1), (0x2101, 2)]
  | false, 3 => ((List.range 4).map fun j => (0x2820 + j, 3)) ++ (List.range 4).map fun j => (0x2240, 5 + j)
  | true, 0 => [(0x2E20, 2), (0x2E20, 0x0A)]
  | true, 1 => [(0x2E20, 7), (0x2E20, 9)]
  | true, 2 => [(0x1001, 0), (0x2A00, 3), (0x2A02, 9), (0x2101, 1), (0x2C00, 1)]
  | _, _ => []

/-- The objects that RPDO `n` maps by default: RPDO1 on port A and on port B in mode 0 (R362). -/
def rpdoDefault (classic : Bool) (n : Nat) : List (Nat × Nat) :=
  if ¬ classic ∧ n = 0 then [(0x2E00, 2), (0x2E02, 2), (0x2E00, 0x0D)] else []

/-- Default of a mapping object. -/
def mapDefault (l : List (Nat × Nat)) (sub : Nat) : Nat := if sub = 0 then l.length else (l[sub - 1]?.map mapEntry).getD 0

/-- Default of a per-port object of a port whose node-ID is `node` (R361, R362). The RPDOs that R362 does not list have the invalid
bit set (DESIGN CHOICE, log entry 36). -/
def commDefault (classic : Bool) (node idx sub : Nat) : Nat :=
  if idx = 0x1014 then 0x80 + node
  else if 0x1400 ≤ idx ∧ idx ≤ 0x1403 ∧ sub = 1 then 2 ^ 31 + 0x200 + 0x100 * (idx - 0x1400) + node
  else if 0x1600 ≤ idx ∧ idx ≤ 0x1603 then mapDefault (rpdoDefault classic (idx - 0x1600)) sub
  else if 0x1800 ≤ idx ∧ idx ≤ 0x1803 ∧ sub = 1 then 0x180 + 0x100 * (idx - 0x1800) + node
  else if 0x1800 ≤ idx ∧ idx ≤ 0x1803 ∧ sub = 5 then (if idx = 0x1800 then 100 else 1000)
  else if 0x1A00 ≤ idx ∧ idx ≤ 0x1A03 then mapDefault (tpdoDefault classic (idx - 0x1A00)) sub
  else objDefault idx sub

/-- A port runs classical CANopen: port B in mode 1 (R356). -/
def State.classic (s : State) (p : Fin 2) : Bool := p = 1 ∧ s.raw 0x2020 2 = 1

/-- A port's copy of a per-port object. -/
def State.portRaw (s : State) (p : Fin 2) (idx sub : Nat) : Nat :=
  ((s.net.port[p].objs.lookup (objKey idx sub))).getD (commDefault (s.classic p) s.net.port[p].node idx sub)

/-- A port's copy as the hash takes it: a default COB-ID enters without its node-ID, since node-IDs are outside the hash (R358, DEDUCED,
log entry 36). -/
def State.portHashed (s : State) (p : Fin 2) (idx sub : Nat) : Nat :=
  ((s.net.port[p].objs.lookup (objKey idx sub))).getD (commDefault (s.classic p) 0 idx sub)

/-- The bytes that the hash covers. -/
def State.hashBytes (s : State) : List Byte :=
  allKeys.flatMap fun k =>
    let idx := keyIndex k
    let sub := keySub k
    match findObj idx sub with
    | none => []
    | some r =>
      let n := (r.type.size).getD 0
      if ¬ hashed r idx sub then []
      else if perPort idx then leBytes n (s.portHashed 0 idx sub) ++ leBytes n (s.portHashed 1 idx sub)
      else leBytes n (s.raw idx sub)

/-- Recomputes the configuration hash. -/
def State.rehash (s : State) : State := { s with net.commit.hash := crc32 s.hashBytes }

/-! ## Frames to the peer (R384) -/

/-- Launches a Benut frame; the last four are kept. -/
def State.launch (f : BenutFrame) (s : State) : State := { s with twin.sent := (f :: s.twin.sent).take 4 }

/-- Objects whose writes act without a commit and are forwarded to the standby (R391, log entry 20): every rws object that enters the hash
(R351), but for those kept once per port, which `objPort` forwards; and the commands to the sequencer, the shelf loop, the quench logic and
the battery. -/
def forwards (idx sub : Nat) : Bool :=
  ((findObj idx sub).any fun r => decide (r.access = .rws) && hashed r idx sub && !perPort idx) ∨ idx = 0x2600 ∨ idx = 0x2A00 ∨ idx = 0x2A01
    ∨ (0x2A10 ≤ idx ∧ idx ≤ 0x2A2F) ∨ (idx = 0x2800 ∧ sub = 5) ∨ (0x2810 ≤ idx ∧ idx ≤ 0x2813 ∧ sub = 0x0F) ∨ (idx = 0x2E00 ∧ sub = 0x0F)

/-- Forwards a write that acted without a commit to the standby of a pair (R391). -/
def State.forward (idx sub : Nat) (d : List Byte) (s : State) : State :=
  if s.twin.st = .activePaired ∧ forwards idx sub then s.launch (.write (objKey idx sub) (leValue d)) else s

/-! ## The form of an object's write -/

/-- What is particular to one object's write: its refusals of device state (R484 step 4), of length for the types of varying
length (step 5) and of values inadmissible in their context (step 7), its effect, and the abort of a refusal that has an effect of its
own (a failed response, an image chunk or a wrapped key refused: R340, R458, R472). -/
structure ObjWrite where
  busy : State → List Byte → Option Nat := fun _ _ => none
  badLength : List Byte → Bool := fun _ => false
  invalid : State → List Byte → Option Nat := fun _ _ => none
  effect : Option Session → List Byte → State → State
  reply : State → List Byte → Option Nat := fun _ _ => none

/-- A write by a role: the checks of R484, then the effect and the forwarding of R391. -/
def State.writeAs (w : Option Session) (role : Role) (idx sub : Nat) (d : List Byte) (o : ObjWrite) (s : State) : Verdict × State :=
  match s.checkWrite w role idx sub d (o.busy s d) (o.badLength d) (o.invalid s d) with
  | .abort c => (.abort c, s)
  | .pass => (((o.reply s d).map Verdict.abort).getD .pass, (o.effect w d s).forward idx sub d)

/-- The answer of a write; a Store is confirmed on its completion (R354). -/
def Verdict.answer (idx : Nat) : Verdict → Answer
  | .pass => if idx = 0x1010 then .none else .done
  | .abort c => .abort c

/-- An access of a session to an object: served while the session's server runs, and its idle timeout starts again. An object that the ROM
does not serve is not there in recovery (R467, DEDUCED). -/
def State.access (w : Session) (idx : Nat) (f : State → State) (s : State) : State :=
  if ¬ s.serves w then s
  else if s.rst.phase = .recovery ∧ ¬ romObject idx then (s.touch w).answer w (.abort 0x06020000)
  else f (s.touch w)

/-- A session's write of an object with the session's role, answered to the session. -/
def State.writeBy (w : Session) (idx sub : Nat) (d : List Byte) (o : ObjWrite) (s : State) : State :=
  s.access w idx fun s =>
    let r := s.writeAs (some w) (s.roleOf w) idx sub d o
    r.2.answer w (r.1.answer idx)

/-- The little-endian value of a written datum, as a REAL32 quantity. -/
def realOf (d : List Byte) : Rat := (real32 (leValue d)).getD 0

/-- A refusal of device state under a condition. -/
def refuseIf (c : Bool) : Option Nat := if c then some 0x08000022 else none

/-- The write of an rws object that takes effect without a commit: the value in force changes and the hash with it (R351). -/
def rwsWrite (idx sub : Nat) (act : List Byte → State → State) : ObjWrite where
  effect := fun _ d s => (act d (s.setForce idx sub (leValue d))).rehash

end Sys2Proof.Machine
end

