-- ==== Sys2Proof/Machine/Channels.lean ====
section
/-! DEFINITION. What drives the channels: gates under the precedence of R243, branches (R223 to R233), feed pairs (R234 to R237),
strings (R238, R260), GPIO enables and loops (R168). The sequencer and the distribution commands use these operations. -/

namespace Sys2Proof.Machine

/-! ## Gates (R239, R243) -/



/-- What a gate does when its channel asks for a drive (R243): ranks 1 to 3 win over the channel. A chip of a pair that is neither
active nor standby keeps its gates sinking (R61). -/
def State.gateFor (s : State) (g : Fin 24) (d : GateDrive) : GateDrive :=
  if s.twin.released ∨ s.standby ∨ s.twin.driveWait then .highZ
  else if ¬ (s.twin.st = .solo ∨ s.active) then .resetSink
  else if s.quenched g then .fastSink
  else if s.pins.vgdUv then .low
  else d

/-- Drives a gate for its channel. -/
def State.drive (g : Fin 24) (d : GateDrive) (s : State) : State := s.setGate g (s.gateFor g d)

/-- A gate is sinking or low. -/
def gateSinks (d : GateDrive) : Bool := ¬ gateHigh d

/-! ## GPIO inputs -/

/-- An input named by an object is at its active level; a pin of 0xFF names none (R223, R230). -/
def State.gpioActive (s : State) (pin : Nat) (level : Bool) : Bool := 23 < pin ∨ s.pins.gpioIn.getLsbD pin = level

/-! ## Branches -/

/-- A branch is named by a rail (R222). -/
def State.brNamed (s : State) (k : Fin 16) : Bool := (s.railOf 2 k).isSome

/-- The on request of a branch (R223). -/
def State.brRequest (s : State) (k : Fin 16) : Bool :=
  s.dist.br[k].cmd ∧ s.gpioActive (s.raw (0x2610 + k) 0x0F) (s.flag (0x2610 + k) 0x10)

/-- The branch is present, or names no presence input (R230). -/
def State.brPresent (s : State) (k : Fin 16) : Bool := s.gpioActive (s.raw (0x2610 + k) 0x0C) (s.flag (0x2610 + k) 0x0D)

/-- Ends an inrush: its energy and duration are reported (R226). -/
def State.endInrush (k : Fin 16) (s : State) : State :=
  let b := s.dist.br[k]
  if b.st = .inrush then
    s.modBr k fun b => { b with lastEnergy := b.energy, lastDuration := (s.now - b.inrushAt : Nat) / 1000000000 }
  else s

/-- Time elapsed on the branch fault timer in ns (R227). -/
def State.brElapsed (s : State) (k : Fin 16) : Nat :=
  let b := s.dist.br[k]
  b.faultElapsed + (match b.faultSince with | some t => s.now - t | none => 0)

/-- Starts the branch fault timer where it stands (R227). -/
def State.brFaultRun (k : Fin 16) (s : State) : State :=
  if s.dist.br[k].faultSince.isSome then s
  else (s.modBr k fun b => { b with faultSince := some s.now }).arm (.brFault k) (s.ns (0x2610 + k) 3 - s.dist.br[k].faultElapsed)

/-- Stops the branch fault timer without resetting it (R227). -/
def State.brFaultHold (k : Fin 16) (s : State) : State :=
  let e := s.brElapsed k
  (s.modBr k fun b => { b with faultElapsed := e, faultSince := none }).disarm (.brFault k)

/-- Resets the branch fault timer. -/
def State.brFaultClear (k : Fin 16) (s : State) : State :=
  (s.modBr k fun b => { b with faultElapsed := 0, faultSince := none }).disarm (.brFault k)

/-- Stops every timer of a branch but the minimum off time. -/
def State.brQuiet (k : Fin 16) (s : State) : State :=
  ((((((s.brFaultClear k).disarm (.brSettle k)).disarm (.brInrush k)).disarm (.brDebounce k)).disarm (.brRetry k)).disarm
    (.brOn60 k)).disarm (.brLimitOut k)

/-- Sinks a branch's gate; the time of the sinking is kept (R232). -/
def State.brSink (k : Fin 16) (d : GateDrive) (s : State) : State :=
  let s := if gateHigh s.pins.gate[brGate k] then s.modBr k fun b => { b with sunkAt := s.now } else s
  s.drive (brGate k) d

/-- The branch goes to STOPPING: normal sink, minimum off time running (R224). -/
def State.brStop (k : Fin 16) (s : State) : State :=
  let s := ((s.endInrush k).brQuiet k).brSink k .normalSink
  (s.modBr k fun b => { b with st := .stopping }).arm (.brMinOff k) (s.ns (0x2610 + k) 0x0B)

/-- The gate of a branch that is on or in inrush: sourced at I_G, or regulated while the limit comparator is asserted, which runs the fault
timer (R227). -/
def State.brSource (k : Fin 16) (s : State) : State :=
  if s.dist.br[k].limit then (s.drive (brGate k) .regulate).brFaultRun k else s.drive (brGate k) .source

/-- The branch starts an inrush (R224 to R226); while VGD is low it goes to GATE_UV instead (R57, R231). -/
def State.brInrush (k : Fin 16) (s : State) : State :=
  if s.pins.vgdUv then ((s.brQuiet k).modBr k fun b => { b with st := .gateUv }).brSink k .low
  else
  let s := (s.brQuiet k).modBr k fun b => { b with st := .inrush, energy := 0, inrushAt := s.now }
  (s.brSource k).arm (.brInrush k) (s.ns (0x2610 + k) 7)

/-- The branch starts: to WAIT_PRESENT where a presence input is named, else to INRUSH (R224). The insertion debounce runs while the
input is active. -/
def State.brBegin (k : Fin 16) (s : State) : State :=
  if 23 < s.raw (0x2610 + k) 0x0C then s.brInrush k
  else
    let s := s.modBr k fun b => { b with st := .waitPresent }
    if s.brPresent k then s.arm (.brDebounce k) (s.ns (0x2610 + k) 0x0E) else s.disarm (.brDebounce k)

/-- The branch goes to ON, and from there at once to LIMIT while its limit comparator is asserted (R224); 60 s of ON clear the retries
(R229). -/
def State.brOn (k : Fin 16) (s : State) : State :=
  let lim := s.dist.br[k].limit
  let s := (s.endInrush k).modBr k fun b => { b with st := if lim then .limit else .on }
  let s := ((s.brSource k).disarm (.brSettle k)).disarm (.brInrush k)
  if lim then s.disarm (.brOn60 k) else s.armOnce (.brOn60 k) 60000000000

/-! ## Feed pairs -/

/-- The gate of a feed stands high. -/
def State.feedOn (s : State) (p : Fin 2) (b : Bool) : Bool := gateHigh s.pins.gate[fdGate p b]

/-- Sinks a feed's gate; the time of the sinking is kept (R236). -/
def State.feedSink (p : Fin 2) (b : Bool) (d : GateDrive) (s : State) : State :=
  let s := if s.feedOn p b then s.modFeed p fun f => { f with sunkAt := f.sunkAt.set b.toNat s.now (Bool.toNat_lt b) } else s
  s.drive (fdGate p b) d

/-- When the timebase island will let a feed be sourced: the other gate has then been sinking for the dead time (R236). -/
def State.feedFreeAt (s : State) (p : Fin 2) (b : Bool) : Nat :=
  (s.dist.feed[p].sunkAt)[(!b).toNat]'(Bool.toNat_lt (!b)) + s.ns (0x2630 + p) 5

/-- Sources a feed's gate if the interlock of R236 lets it; otherwise the pair waits out the dead time. -/
def State.feedSource (p : Fin 2) (b : Bool) (s : State) : State :=
  if ¬ s.feedOn p (!b) ∧ s.feedFreeAt p b ≤ s.now then
    let s := s.modFeed p fun f => { f with phase := .settling, sel := some b, next := none, lossRun := 0, lost := false }
    let s := (s.drive (fdGate p b) .source).disarm (.feedDead p)
    if 0xFF = s.raw (0x2630 + p) 9 then s.arm (.feedSettle p) 10000000 else s
  else
    (s.modFeed p fun f => { f with phase := .deadTime false, sel := none, next := some b }).armAt (.feedDead p)
      (max s.now (s.feedFreeAt p b))

/-- The preferred feed of a pair (R234): `true` is B. -/
def State.feedPref (s : State) (p : Fin 2) : Bool := s.raw (0x2630 + p) 1 = 1

/-- A feed of a pair is qualified. -/
def State.feedQual (s : State) (p : Fin 2) (b : Bool) : Bool := (s.dist.feed[p].qual)[b.toNat]'(Bool.toNat_lt b)

/-- Selects a feed by the rules of R234. -/
def State.feedSelect (p : Fin 2) (s : State) : State :=
  let pref := s.feedPref p
  if s.feedQual p pref then s.feedSource p pref
  else if s.feedQual p (!pref) then s.feedSource p (!pref)
  else (s.modFeed p fun f => { f with phase := .waiting, sel := none, next := none }).raise 0x070B p []

/-- The pair is to be on: its rail is, or it was adopted and the sequencer has not yet committed (R59). -/
def State.feedCmd (s : State) (p : Fin 2) : Bool :=
  s.dist.feed[p].cmd ∨ s.pins.adopted.getLsbD (fdGate p false) ∨ s.pins.adopted.getLsbD (fdGate p true)

/-- The pair may source a feed but for the gate supply: it is to be on, not latched, and no quench latch forbids it (R233, R240). -/
def State.feedWants (s : State) (p : Fin 2) : Bool :=
  s.feedCmd p ∧ ¬ s.dist.feed[p].latched ∧ ¬ s.quenched (fdGate p false) ∧ ¬ s.quenched (fdGate p true)

/-- The pair may source a feed now (R231). -/
def State.feedMay (s : State) (p : Fin 2) : Bool := s.feedWants p ∧ ¬ s.pins.vgdUv

/-- The pair takes a feed; while VGD is low it is in GATE_UV instead (R57, R231). -/
def State.feedStart (p : Fin 2) (s : State) : State :=
  if s.feedMay p then s.feedSelect p
  else if s.feedWants p then s.modFeed p fun f => { f with gateUv := true }
  else s

/-- Both feeds sink; the pair is off (R234). -/
def State.feedOff (p : Fin 2) (d : GateDrive) (s : State) : State :=
  let s := (s.feedSink p false d).feedSink p true d
  let s := s.modFeed p fun f => { f with phase := .off, sel := none, next := none, lossRun := 0, lost := false }
  ((s.disarm (.feedSettle p)).disarm (.feedDead p)).disarm (.feedRevert p)

/-! ## Strings -/

/-- The bus voltage in use (R196): the channel of 0x2E00:04, or its partner of 0x2E00:05. -/
def State.busCh (s : State) : Nat := if s.shelf.senseAlt then s.raw 0x2E00 5 else s.raw 0x2E00 4

/-- A channel's latest value at 200 kS/s. -/
def State.v200 (s : State) (c : Nat) : Rat := ((s.meas.ch[c]?).map Channel.v200).getD 0

/-- A channel's latest value at 1 kS/s. -/
def State.v1k (s : State) (c : Nat) : Rat := ((s.meas.ch[c]?).map Channel.v1).getD 0

/-- READY of a channel (R485). -/
def State.ready (s : State) (c : Nat) : Bool :=
  match s.meas.ch[c]? with
  | some x => ¬ x.notReady ∧ ¬ x.settling ∧ ¬ s.meas.refFail
  | none => false

/-- The bus voltage in use at 200 kS/s. -/
def State.vBus (s : State) : Rat := s.v200 s.busCh

/-- The string may be connected (R260). -/
def State.strMay (s : State) (n : Fin 4) : Bool :=
  s.flag (0x2810 + n) 1 ∧ s.bat.str[n].cmd ∧ ¬ s.bat.str[n].lvd ∧ ¬ s.bat.str[n].waitMatch
    ∧ (s.dist.str[n] = .off ∨ s.dist.str[n] = .on)

/-- Sets a string's channel state. -/
def State.setStr (n : Fin 4) (x : StrState) (s : State) : State := { s with dist.str := s.dist.str.set n x }

/-- Sources the string's gate where R260 lets it; while VGD is low the channel is in GATE_UV instead (R57, R231). -/
def State.strConnect (n : Fin 4) (s : State) : State :=
  if ¬ s.strMay n ∨ s.quenched (stGate n) then s
  else if s.pins.vgdUv then (s.setStr n .gateUv).drive (stGate n) .low
  else (s.setStr n .on).drive (stGate n) .source

/-- Sinks the string's gate; the channel's other states stay. -/
def State.strOpen (n : Fin 4) (d : GateDrive) (s : State) : State :=
  (if s.dist.str[n] = .on then s.setStr n .off else s).drive (stGate n) d

/-! ## GPIO enables -/

/-- A GPIO may be driven as an output: it is no fault output (R63), and a strap ball's resistor is declared (R53). -/
def State.mayDrive (s : State) (pin : Nat) : Bool := ¬ s.faultPins.getLsbD pin ∧ (7 ≤ pin ∨ bit (s.raw 0x2008 7) pin)

/-- Drives a GPIO as an output at a level where it may be one. -/
def State.driveGpio (pin : Nat) (level : Bool) (s : State) : State :=
  let m := BitVec.ofNat 24 (2 ^ pin)
  if s.mayDrive pin then
    { s with pins.gpioDir := s.pins.gpioDir ||| m,
             pins.gpioOut := if level then s.pins.gpioOut ||| m else s.pins.gpioOut &&& ~~~ m }
  else s

/-! ## Loops (R168, R184) -/

/-- A phase belongs to a loop's mask (R160). -/
def State.inMask (s : State) (l : Fin 8) (i : Nat) : Bool := bit (s.raw (0x2410 + l) 1) i

/-- The loop whose mask holds a phase (R160). -/
def State.loopOfPhase (s : State) (i : Fin 32) : Option (Fin 8) := (List.finRange 8).find? fun l => s.inMask l i

/-- The lane that is set to a loop: the lane whose consumer is that loop's duty input, if one is enabled (R148). -/
def State.laneOf (s : State) (l : Fin 8) : Option (Fin 12) :=
  (List.finRange 12).find? fun n => s.lane[n].bank.enable ∧ s.lane[n].bank.consumer = 1 ∧ s.lane[n].bank.selector = l.val

/-- A phase takes part in its loop (R160, R179, R180). -/
def phaseOn (x : PhaseState) : Bool := x = .participating ∨ x = .blind ∨ x = .tapering

/-- The lane that drives the consumer of lane `n`: LN11 after a transfer (R156). -/
def State.driverOf (s : State) (n : Fin 12) : Fin 12 := if s.lane[11].drives = some n ∧ n ≠ 11 then 11 else n

/-- Zeroes a lane's stage states and its output (R154). -/
def Lane.zeroed (x : Lane) : Lane := { x with states := x.bank.stages.map fun _ => {}, sample := none, out := {} }

/-- Zeroes a lane and clears FAULT (R168, R150). -/
def Lane.cleared (x : Lane) : Lane := { x.zeroed with fault := false, consecutive := 0 }

/-- Starts a loop (R168): V_set from the measured output, lane states, balance and trim cleared, sense selection back to the pair,
removed phases returned (R179), the period of the spur plan (R103). -/
def State.loopStart (l : Fin 8) (s : State) : State :=
  let s := s.modLoop l fun x =>
    { x with running := true, rampStop := false, vSet := max x.vOut 0, trim := 0, trimLimited := false, onVlcl := false, toVlcl := false,
             senseLost := false, pulsed := false, sampleK := 0, trigAt := none, refEdge := none, bounded := false, ceiling := none,
             currentLimit := false, limitArmed := true, bellowsEnd := 0, bellowsOn := false, satSince := none,
             winRun := 0, suppressed := false, vlclRun := 0, vTarget := s.real (0x2410 + l) 3,
             degraded := false, degradedLim := none, shedPending := false, shedding := false, addPending := 0, recompact := true,
             period := 256 * s.tb.loopP[l], quiet := 10, duty := {} }
  let s := State.each (List.finRange 32) (fun i => fun s =>
    if s.inMask l i then s.modPhase i fun x => { x with st := .participating, bal := 0, stopping := false, taper := 0, openRun := 0, implRun := 0 }
    else s) s
  match s.laneOf l with
  | some n => s.modLane (s.driverOf n) Lane.cleared
  | none => s

/-- Stops a loop: every phase goes high-impedance at its next slot edge (R168); SYNC_OUT that carries its edges is low (R183). -/
def State.loopStop (l : Fin 8) (s : State) : State :=
  let s := s.modLoop l fun x =>
    { x with running := false, rampStop := false, bellowsEnd := 0, bellowsOn := false, suppressed := false, shedPending := false, shedding := false }
  let s : State := { s with pins.syncOut := s.pins.syncOut ∧ s.raw 0x2400 2 ≠ l.val }
  State.each (List.finRange 32) (fun i => fun s =>
    if s.inMask l i ∧ s.pins.pwm[i] ≠ .highZ then s.modPhase i fun x => { x with stopping := true } else s) s

/-- Releases every phase of a loop at once (R184 rank 1). -/
def State.loopCut (l : Fin 8) (s : State) : State :=
  let s := s.loopStop l
  State.each (List.finRange 32) (fun i => fun s =>
    if s.inMask l i then (s.setPwm i .highZ).modPhase i fun x => { x with stopping := false } else s) s

/-- Every phase of a loop is high-impedance (R269, R283). -/
def State.loopDead (s : State) (l : Fin 8) : Bool := (List.finRange 32).all fun i => ¬ s.inMask l i ∨ s.pins.pwm[i] = .highZ

/-- A loop's stop by its stop mode: immediate, or V_set ramped to 0 V first (R168). -/
def State.loopHalt (l : Fin 8) (s : State) : State :=
  if s.raw (0x2410 + l) 5 = 1 ∧ s.loop[l].running ∧ s.loop[l].vSet ≠ 0 then
    s.modLoop l fun x => { x with rampStop := true, vTarget := 0 }
  else s.loopStop l

end Sys2Proof.Machine
end

