-- ==== Sys2Proof/Machine/Flags.lean ====
section
/-! DEFINITION. The status words: every flag bit the spec gives a status object or register, computed from the state. -/

namespace Sys2Proof.Machine

/-! ## Strings (R250, R267) -/

/-- The disconnect of a string is sourced and on (R267). -/
def State.strOn (s : State) (n : Fin 4) : Bool := gateHigh s.pins.gate[stGate n]

/-- A string is enabled (R246). -/
def State.strEnabled (s : State) (n : Fin 4) : Bool := s.flag (0x2810 + n) 1

/-- State of charge of a string (R250). -/
def StringSt.soc (x : StringSt) : Rat := if x.c = 0 then 0 else clamp 0 1 (x.q / x.c)

/-- The string status word (R267). -/
def State.stringStatus (s : State) (n : Fin 4) : Nat :=
  let x := s.bat.str[n]
  let i := s.meas.stI1[n]
  let idle := s.real 0x2800 1
  if ¬ s.strEnabled n then 0
  else ofBits [s.strOn n, decide (i < -idle), decide (idle < i), x.atFull, x.atEmpty, x.under, x.overfull, x.learned, x.unanchored,
    x.capLimited, x.cycleOpen, x.gap, x.lvd, decide (s.dist.str[n] = .latched)]

/-- The shelf SoC (R250). -/
def State.shelfSoc (s : State) : Rat :=
  let on := (List.finRange 4).filter fun n => s.strEnabled n ∧ s.strOn n
  let c := (on.map fun n => s.bat.str[n].c).foldl (· + ·) 0
  let q := (on.map fun n => clamp 0 s.bat.str[n].c s.bat.str[n].q).foldl (· + ·) 0
  if c = 0 then 0 else q / c

end Sys2Proof.Machine
end

