-- ==== Sys2Proof/Machine/SeqOps.lean ====
section
/-! DEFINITION. The sequencer's operations: starts and stops of rails, reverse-order shutdown, fault reactions (R269 to R290), and
what leads to them in distribution: branch trips (R229) and quench latches (R240). -/

namespace Sys2Proof.Machine

/-! ## Commands of a rail (R271) -/

/-- The group of a rail; none for 0xFF. -/
def State.groupOf (s : State) (r : Fin 32) : Option (Fin 8) :=
  let g := s.raw (0x2A10 + r) 0x0D
  if h : g < 8 then some ⟨g, h⟩ else none

/-- The rail's group is shut down (R288). -/
def State.groupDown (s : State) (r : Fin 32) : Bool :=
  match s.groupOf r with
  | some g => s.seq.groupsDown.getLsbD g
  | none => false

/-- The rail is commanded on (R271). A failed or system-reset shutdown in progress counts as latched. -/
def State.commanded (s : State) (r : Fin 32) : Bool :=
  s.seq.sysOn ∧ s.seq.rail[r].cmd ∧ ¬ s.groupDown r ∧ s.seq.st ≠ .latched ∧ ¬ s.seq.latchAfter ∧ ¬ s.seq.resetAfter

/-- The rail shall be on: commanded, and not held off by capping, by a hold-up stage or by an input-loss shutdown (R200, R202, R286). -/
def State.wanted (s : State) (r : Fin 32) : Bool :=
  s.commanded r ∧ ¬ s.seq.rail[r].shed ∧ ¬ s.seq.rail[r].inputLossOff

/-- The rail has been started and not stopped. -/
def railStarted : RailSt → Bool
  | .starting | .pgDelay | .good | .outOfWindow | .heldOff | .privFailed => true
  | _ => false

/-- Sets a rail's state. -/
def State.railTo (r : Fin 32) (x : RailSt) (s : State) : State := s.modRail r fun y => { y with st := x }

/-! ## PG (R276, R277, R290) -/

/-- Drives the PG pins from the rails (R290): only by a chip that drives its shared outputs; held pins stay held until the
sequencer's commit (R60). -/
def State.drivePg (s : State) : State :=
  if s.drives then
    { s with pins.pg := maskOf 8 fun k =>
        if s.pins.pgHold.getLsbD k then s.pins.pg.getLsbD k
        else s.raw 0x2A02 (k + 1) ≠ 0 ∧ (List.finRange 32).all fun r => ¬ bit (s.raw 0x2A02 (k + 1)) r ∨ s.seq.rail[r].pg }
  else s

/-- Drops a rail's PG. -/
def State.dropPg (r : Fin 32) (s : State) : State := (s.modRail r fun x => { x with pg := false }).drivePg

/-- Stops a rail's timers. -/
def State.railQuiet (r : Fin 32) (s : State) : State :=
  ((((((s.disarm (.railStart r)).disarm (.railPg r)).disarm (.railTimeout r)).disarm (.railFault r)).disarm (.railRetry r)).disarm
    (.railDischarge r)).disarm (.railGood r)

/-! ## What an owner holds off (R281) -/

/-- The rail's owner keeps it off for a reason that is not a fault (R281). -/
def State.ownerHolds (s : State) (r : Fin 32) : Bool :=
  let i := s.cfg.railInst r
  match s.cfg.railKind r with
  | 1 => s.quenched (24 + i)
  | 2 => if h : i < 16 then
      let b := s.dist.br[i]
      b.st = .waitPresent ∨ b.st = .gateUv ∨ b.removed
    else false
  | 3 => if h : i < 2 then s.dist.feed[i].phase = .waiting ∨ s.dist.feed[i].gateUv else false
  | 4 => if h : i < 4 then s.bat.str[i].lvd ∨ s.dist.str[i] = .gateUv else false
  | _ => false

/-! ## Start and stop of a rail's instance (R269) -/

/-- Starts the instance of a rail. -/
def State.chanStart (r : Fin 32) (s : State) : State :=
  let i := s.cfg.railInst r
  match s.cfg.railKind r with
  | 1 => if h : i < 8 then (if s.quenched (24 + i) then s else s.loopStart ⟨i, h⟩) else s
  | 2 => if h : i < 16 then s.modBr ⟨i, h⟩ fun b => { b with cmd := true } else s
  | 3 => if h : i < 2 then
      (s.modFeed ⟨i, h⟩ fun f => { f with cmd := true }).feedStart ⟨i, h⟩
    else s
  | 4 => if h : i < 4 then (s.modStr ⟨i, h⟩ fun x => { x with cmd := true }).strConnect ⟨i, h⟩ else s
  | 5 => s.driveGpio i (s.flag (0x2A10 + r) 0x14)
  | _ => s

/-- Stops the instance of a rail. -/
def State.chanStop (r : Fin 32) (s : State) : State :=
  let i := s.cfg.railInst r
  match s.cfg.railKind r with
  | 1 => if h : i < 8 then s.loopHalt ⟨i, h⟩ else s
  | 2 => if h : i < 16 then s.modBr ⟨i, h⟩ fun b => { b with cmd := false } else s
  | 3 => if h : i < 2 then
      (s.modFeed ⟨i, h⟩ fun f => { f with cmd := false, latched := false, gateUv := false }).feedOff ⟨i, h⟩ .normalSink
    else s
  | 4 => if h : i < 4 then
      let s := s.modStr ⟨i, h⟩ fun x => { x with cmd := false }
      let was := s.dist.str[i]
      let s := s.strOpen ⟨i, h⟩ .normalSink
      if was = .latched then (s.setStr ⟨i, h⟩ .off).modStr ⟨i, h⟩ fun x => { x with waitMatch := true } else s
    else s
  | 5 => s.driveGpio i (!s.flag (0x2A10 + r) 0x14)
  | _ => s

/-- The rail's off path is complete (R269, R283); `timedOut` counts a loop's discharge complete. -/
def State.pathDone (s : State) (r : Fin 32) (timedOut : Bool) : Bool :=
  let i := s.cfg.railInst r
  match s.cfg.railKind r with
  | 1 => if h : i < 8 then
      s.loopDead ⟨i, h⟩ ∧ (timedOut ∨ s.loop[i].vOut ≤ s.real (0x2A10 + r) 0x10 * s.real (0x2410 + i) 3)
    else true
  | 2 => if h : i < 16 then
      let b := s.dist.br[i]
      b.st = .stopping ∨ b.st = .off ∨ b.st = .fetShort
    else true
  | 3 => if h : i < 2 then ¬ s.feedOn ⟨i, h⟩ false ∧ ¬ s.feedOn ⟨i, h⟩ true else true
  | 4 => if h : i < 4 then ¬ gateHigh s.pins.gate[stGate ⟨i, h⟩] else true
  | _ => true

/-- Starts a rail: its place in the start order, which a rail that starts again keeps (DESIGN CHOICE, log entry 82), its instance, its start timeout; a
rail its owner holds enters HELD_OFF (R274, R281). -/
def State.startRail (r : Fin 32) (s : State) : State :=
  let s := s.modRail r fun x => { x with withheld := false, adopted := false }
  let s : State := { s with seq.order := if s.seq.order.contains r then s.seq.order else s.seq.order ++ [r] }
  let s := s.chanStart r
  if s.ownerHolds r then s.railTo r .heldOff
  else (s.railTo r .starting).arm (.railTimeout r) (s.ns (0x2A10 + r) 6)

/-- Takes a started rail's off path (R283). A rail that waits returns to OFF; one that is already off keeps its state, a LATCHED or
RETRY_WAIT rail returning to OFF on its own command. -/
def State.stopRail (r : Fin 32) (why : StopWhy) (s : State) : State :=
  let x := s.seq.rail[r].st
  if railStarted x then
    let s := (s.railQuiet r).modRail r fun y => { y with st := .stopping, why := why, inWindow := false }
    let s := (s.dropPg r).chanStop r
    if s.cfg.railKind r = 1 then s.arm (.railDischarge r) (s.ns (0x2A10 + r) 0x11) else s
  else if x = .waitDeps ∨ x = .startDelay then (s.railQuiet r).railTo r .off
  else if x = .latched ∨ x = .retryWait then ((s.railQuiet r).railTo r .off).chanStop r
  else s.modRail r fun y => { y with why := why }

/-! ## Reverse-order shutdown (R283) -/

/-- Starts the next off path of the queue; a rail with an off delay waits it out first, the first one of the queue too (DEDUCED, log entry 23). -/
def State.stopFrom (why : StopWhy) : List (Fin 32) → State → State
  | [], s => { s with seq.queue := [], seq.stoppingNow := none }
  | r :: q, s =>
    if ¬ railStarted s.seq.rail[r].st then s.stopFrom why q
    else
      let s : State := { s with seq.queue := q, seq.stoppingNow := some r }
      let d := s.ns (0x2A10 + r) 0x12
      if d = 0 then s.stopRail r why
      else (s.modRail r fun y => { y with why := why }).arm (.railOffDelay r) d

/-- Goes on with the queue. -/
def State.stopNext (s : State) : State := s.stopFrom .shutdown s.seq.queue

/-- Rails that wait to start or to retry return to OFF (R284). -/
def State.cancelWaiting (p : Fin 32 → Bool) (s : State) : State :=
  State.each (List.finRange 32) (fun r => fun s =>
    if p r ∧ (s.seq.rail[r].st = .waitDeps ∨ s.seq.rail[r].st = .startDelay ∨ s.seq.rail[r].st = .retryWait) then
      (s.railQuiet r).railTo r .off
    else s) s

/-- Goes on with a new queue unless an off path of it runs. -/
def State.stopQueue (q : List (Fin 32)) (s : State) : State :=
  let s : State := { s with seq.queue := q }
  if s.seq.stoppingNow.isSome then s else s.stopNext

/-- Shuts rails down in reverse start order (R283, R284): waiting rails return to OFF, started ones join the queue. -/
def State.shutdown (p : Fin 32 → Bool) (s : State) : State :=
  let s := s.cancelWaiting p
  s.stopQueue (s.seq.order.reverse.filter fun r =>
    s.seq.queue.contains r ∨ (p r ∧ railStarted s.seq.rail[r].st ∧ s.seq.stoppingNow ≠ some r))

/-- A failed start's shutdown of every rail begins with the failed rail (R282). -/
def State.shutdownFrom (r : Fin 32) (s : State) : State :=
  let s := s.cancelWaiting fun _ => true
  s.stopQueue (r :: s.seq.order.reverse.filter fun x =>
    x ≠ r ∧ railStarted s.seq.rail[x].st ∧ s.seq.stoppingNow ≠ some x)

/-! ## The sequencer's state (R293) -/

/-- A rail in use is not off. -/
def State.anyOn (s : State) : Bool :=
  (List.finRange 32).any fun r => railStarted s.seq.rail[r].st ∨ s.seq.rail[r].st = .stopping

/-- The sequencer's state from the rails (R293, DEDUCED, log entry 23). -/
def State.seqState (s : State) : SeqSt :=
  if s.seq.st = .latched then .latched
  else if s.seq.queue ≠ [] ∨ s.seq.stoppingNow.isSome ∨ (¬ s.seq.sysOn ∧ s.anyOn) then .poweringDown
  else if ¬ s.seq.sysOn then .off
  else if (List.finRange 32).any fun r =>
      s.cfg.railKind r ≠ 0 ∧ s.wanted r ∧
        (s.seq.rail[r].st = .off ∨ s.seq.rail[r].st = .waitDeps ∨ s.seq.rail[r].st = .startDelay
          ∨ s.seq.rail[r].st = .starting ∨ s.seq.rail[r].st = .pgDelay) then .poweringUp
  else .up

/-- Takes the sequencer's state; ten minutes in state 2 clear the count of system-reset reactions (R289). -/
def State.seqRefresh (s : State) : State :=
  let x := s.seqState
  let long : Bool := match s.seq.upSince with | some t => decide (600000000000 ≤ s.now - t) | none => false
  { s with seq.st := x,
           seq.upSince := if x = .up then (if s.seq.upSince.isSome then s.seq.upSince else some s.now) else none,
           seq.resets := if long then 0 else s.seq.resets }

/-- Every off path of a shutdown has completed. -/
def State.pathsDone (s : State) : Bool :=
  s.seq.queue = [] ∧ s.seq.stoppingNow = none ∧ (List.finRange 32).all fun r => s.seq.rail[r].st ≠ .stopping

/-- What follows a shutdown: the latch of R282, the warm reset of R289, or the fresh power-up of R285. -/
def State.seqSettle (s : State) : State :=
  if ¬ s.pathsDone then s.seqRefresh
  else if s.seq.latchAfter then
    ({ s with seq.latchAfter := false, seq.st := .latched, seq.onAfter := false }.raise 0x0904 noInst []).seqRefresh
  else if s.seq.resetAfter then { s with seq.resetAfter := false }.assertReset .warm causeSequencer false
  else if s.seq.onAfter ∧ (List.finRange 32).all fun r => s.seq.rail[r].st ≠ .minOff then
    { s with seq.onAfter := false, seq.sysOn := true, seq.order := [] }.seqRefresh
  else s.seqRefresh

/-! ## Fault reactions (R279, R280, R288, R289) -/

/-- Latches a rail (R279). -/
def State.latchRail (r : Fin 32) (s : State) : State := (((s.railQuiet r).railTo r .latched).dropPg r).raise 0x0907 r []

/-- A rail is being started: it waits, or has not yet reached GOOD (R284). -/
def railStarting (x : RailSt) : Bool := x = .waitDeps ∨ x = .startDelay ∨ x = .starting ∨ x = .pgDelay

/-- Group shutdown of `g`, caused by rail `r` (R288); one that covers rails being started abandons the power-up (R284). -/
def State.groupShutdown (g : Fin 8) (r : Fin 32) (s : State) : State :=
  let covers : Bool := (List.finRange 32).any fun x => decide (s.groupOf x = some g) && railStarting s.seq.rail[x].st
  let s := s.raise 0x0908 r [g, r]
  let s := if s.seqState = .poweringUp ∧ covers then s.raise 0x090A noInst [] else s
  let s : State := { s with seq.groupsDown := s.seq.groupsDown ||| BitVec.ofNat 8 (2 ^ g.val) }
  let s := State.each (List.finRange 32) (fun x => fun s =>
    if s.groupOf x = some g then s.modRail x fun y => { y with groupOff := true } else s) s
  s.shutdown fun x => s.groupOf x = some g

/-- The system-reset reaction (R289): reverse shutdown, then the warm reset, or the latch at the third. -/
def State.systemReset (s : State) : State :=
  let s := (s.seqRefresh).raise 0x0909 noInst []
  let n := satInc 255 s.seq.resets
  let s : State := { s with seq.resets := n }
  let s := if 3 ≤ n then { s with seq.latchAfter := true }.raise 0x090F noInst [] else { s with seq.resetAfter := true }
  (s.shutdown fun _ => true).seqSettle

/-- Records a rail fault (R278): 0x0902 with the rail and kind; the code that caused it stands in 0x2A40+r:05. -/
def State.recordFault (r : Fin 32) (code : Nat) (s : State) : State :=
  let s := s.modRail r fun x => { x with faults := bump x.faults, lastCode := code }
  s.raise 0x0902 r [r, s.cfg.railKind r]

/-- The fault reaction of a rail (R279); `stopped`: the fault has stopped the output at once, so that reaction 0 latches (R280). -/
def State.react (r : Fin 32) (stopped : Bool) (s : State) : State :=
  match s.raw (0x2A10 + r) 0x0A with
  | 0 => if stopped then s.latchRail r else s
  | 2 =>
    match s.groupOf r with
    | some g => s.groupShutdown g r
    | none => s
  | 3 => s.systemReset
  | _ =>
    if s.seq.rail[r].retries < s.raw (0x2A10 + r) 0x0B then s.stopRail r .retry else s.stopRail r .latch

/-- An immediate fault of a started rail: a fault-timer expiry at once (R280). A standby follows the active chip (R292). -/
def State.railFaultNow (r : Fin 32) (code : Nat) (s : State) : State :=
  if railStarted s.seq.rail[r].st ∧ s.seq.rail[r].st ≠ .heldOff ∧ ¬ s.standby then
    (((s.railQuiet r).dropPg r).recordFault r code).react r true
  else s

/-- An immediate fault of a loop's rail. -/
def State.loopFault (l : Fin 8) (code : Nat) (s : State) : State :=
  match s.railOf 1 l with
  | some r => s.railFaultNow r code
  | none => s

/-- A branch's channel has latched: the sequencer's part (R280). -/
def State.branchLatched (k : Fin 16) (s : State) : State :=
  match s.railOf 2 k with
  | none => s
  | some r =>
    if ¬ railStarted s.seq.rail[r].st then s
    else
      let s := ((s.railQuiet r).dropPg r).recordFault r 0x0703
      match s.raw (0x2A10 + r) 0x0A with
      | 2 => s.react r true
      | 3 => s.react r true
      | _ => s.latchRail r

/-! ## Branch trips (R229) -/

/-- A trip of a branch: fast sink for 10 µs, the cause recorded, and RETRY_WAIT or TRIPPED (R224, R229). -/
def State.brTrip (k : Fin 16) (code : Nat) (s : State) : State :=
  let s := (s.endInrush k).brQuiet k
  let s := (s.brSink k .fastSink).arm (.brSink k) 10000
  let s := (s.modBr k fun b => { b with trips := bump b.trips, cause := code }).raise code k []
  if s.dist.br[k].retries < s.raw (0x2610 + k) 9 then
    (s.modBr k fun b => { b with st := .retryWait }).arm (.brRetry k) (s.ns (0x2610 + k) 0x0A)
  else ((s.modBr k fun b => { b with st := .tripped }).raise 0x0703 k []).branchLatched k

/-! ## Quench latches (R239 to R241) -/

/-- Drives QUENCH_OUT and the fault outputs from the latches (R239, R241). A standby keeps QUENCH_OUT high-impedance (R242). -/
def State.quenchPins (s : State) : State :=
  let out := s.quenched 32
  let now := out ∧ ¬ s.standby ∧ ¬ s.twin.released ∧ ¬ s.twin.driveWait
  let s := if now then s else s.quenchLet
  let fp := s.faultPins
  { s with dist.quenchOut := now,
           pins.gpioDir := maskOf 24 fun g =>
             if fp.getLsbD g then s.quenched (33 + (g.val - 16)) else s.pins.gpioDir.getLsbD g,
           pins.gpioOut := s.pins.gpioOut &&& ~~~ fp }

/-- The branch is forced off by a latch other than its own (R240): QUENCHED, but for TRIPPED and FET_SHORT. -/
def State.quenchBranch (k : Fin 16) (s : State) : State :=
  if ¬ s.quenched k then s
  else
    let s := (s.endInrush k)
    let x := s.dist.br[k].st
    if x = .tripped ∨ x = .fetShort then s.brSink k .fastSink
    else ((s.brQuiet k).brSink k .fastSink).modBr k fun b => { b with st := .quenched }

/-- The feeds of a pair that are forced off (R239, R240): the pair goes off with a feed that was on; a target that stands low is sunk fast
too. -/
def State.quenchFeed (p : Fin 2) (s : State) : State :=
  let qa := s.quenched (fdGate p false)
  let qb := s.quenched (fdGate p true)
  if (qa ∧ s.feedOn p false) ∨ (qb ∧ s.feedOn p true) then s.feedOff p .fastSink
  else (s.when qa (State.drive (fdGate p false) .fastSink)).when qb (State.drive (fdGate p true) .fastSink)

/-- A string that is forced off (R240, R260); one that an upstream open has latched keeps that (R233). -/
def State.quenchStr (n : Fin 4) (s : State) : State :=
  if s.quenched (stGate n) then
    (if s.dist.str[n] = .latched then s else s.setStr n .quenched).drive (stGate n) .fastSink
  else s

/-- A loop that is forced off: its phases release at once and its rail takes a fault (R239, R240). -/
def State.quenchLoop (l : Fin 8) (s : State) : State :=
  if s.quenched (24 + l) then (s.loopCut l).loopFault l 0x070D else s

/-- Forces every target off that a latch's map includes (R239). A standby sets its latches and only tracks its channels (R242). -/
def State.quenchTargets (q : Nat) (s : State) : State :=
  if s.standby then s.quenchPins else
  let s := State.each (List.finRange 16) (fun k => fun s => if s.quenchHits q k then s.quenchBranch k else s) s
  let s := State.each (List.finRange 2) (fun p => fun s =>
    if s.quenchHits q (fdGate p false) ∨ s.quenchHits q (fdGate p true) then s.quenchFeed p else s) s
  let s := State.each (List.finRange 4) (fun n => fun s => if s.quenchHits q (stGate n) then s.quenchStr n else s) s
  let s := s.quenchPins
  State.each (List.finRange 8) (fun l => fun s => if s.quenchHits q (24 + l) then s.quenchLoop l else s) s

/-- Forces the targets of every set latch off. -/
def State.quenchSet (s : State) : State :=
  State.each (List.finRange 18) (fun q => fun s => if s.dist.quench.getLsbD q then s.quenchTargets q else s) s

/-- Sets the latch of source `q` (0 to 17): recorded once per setting, targets forced off (R240). -/
def State.setQuench (q : Fin 18) (s : State) : State :=
  if s.dist.quench.getLsbD q then s
  else
    let s : State := { s with dist.quench := s.dist.quench ||| BitVec.ofNat 18 (2 ^ q.val) }
    let s := s.disarm (.quenchRelease q)
    (s.raise 0x070D noInst [q.val + 1]).quenchTargets q

end Sys2Proof.Machine
end

