-- ==== Sys2Proof/Machine/Battery.lean ====
section
/-! DEFINITION. Battery strings: charge, anchors, learned capacity, disconnection, and the learned-data copies (R246 to R268). -/

namespace Sys2Proof.Machine

/-! ## Learned data (R262 to R264) -/

/-- The newest valid learned-data copy. -/
def Battery.newest (b : Battery) : Option LearnedCopy :=
  match b.copies[0], b.copies[1] with
  | some x, some y => some (if x.seq < y.seq then y else x)
  | x, y => x <|> y

/-- The copy that the next write takes: an invalid one, or the one with the lower sequence number (R262). -/
def Battery.target (b : Battery) : Fin 2 :=
  match b.copies[0], b.copies[1] with
  | none, _ => 0
  | _, none => 1
  | some x, some y => if y.seq < x.seq then 1 else 0

/-- A string's items as the copy keeps them (R262). -/
def State.learnedString (s : State) (n : Fin 4) : LearnedString :=
  let x := s.bat.str[n]
  { c := if x.known then x.c else 0, q := x.q, status := s.stringStatus n, uncounted := x.cycleUncounted, cycles := x.cycles,
    tFull := x.tFull, tEmpty := x.tEmpty }

/-- The whole copy that a write starting now would store (R262, R93). -/
def State.learnedCopy (s : State) : LearnedCopy :=
  let old := s.bat.newest
  { seq := ((old.map LearnedCopy.seq).getD 0) + 1, str := Vector.ofFn s.learnedString,
    model := if s.bat.modelDue then some s.tb.model else old.bind LearnedCopy.model }

/-- Starts a learned-data write, or defers it while BROWN_WARN is set or another write runs (R262, R263). -/
def State.learnWrite (s : State) : State :=
  if s.pins.brownWarn ∨ s.bat.writing.isSome then { s with bat.deferred := true }
  else
    let t := s.bat.target
    { s with bat.writing := some t, bat.writeData := some s.learnedCopy, bat.copies := s.bat.copies.set t none,
             bat.deferred := false, bat.modelDue := false }.arm .learnedWrite 1000000

/-- LEARNED_DATA_WRITE_DONE (R262): the copy is read back and valid; a deferred write starts. -/
def execLearnedDataWriteDone (s : State) : Out :=
  .next (match s.bat.writing, s.bat.writeData with
    | some t, some c =>
      let s := { s with bat.copies := s.bat.copies.set t (some c), bat.writing := none, bat.writeData := none,
                        bat.writes := bump s.bat.writes, bat.seq := c.seq }.disarm .learnedWrite
      if s.bat.deferred ∧ ¬ s.pins.brownWarn then s.learnWrite else s
    | _, _ => s)

/-- The interval of periodic writes now (R262). -/
def State.learnPeriod (s : State) : Nat :=
  if (List.finRange 4).any fun n => s.strEnabled n ∧ s.real 0x2800 1 < absR s.meas.stI1[n] then 60000000000 else 3600000000000

/-- LEARNED_DATA_PERIODIC (R262). -/
def execLearnedDataPeriodic (s : State) : Out :=
  .next (if s.due .learned then (s.arm .learned s.learnPeriod).learnWrite else s)

/-- Brings the periodic write forward when a string begins to carry current (R262). -/
def State.learnSooner (s : State) : State :=
  match s.deadline .learned with
  | some d => if s.now + s.learnPeriod < d then s.arm .learned s.learnPeriod else s
  | none => s

/-- A string as a valid copy restores it (R264): UNANCHORED, no open cycle. -/
def LearnedString.restore (x : LearnedString) : StringSt :=
  { known := x.c ≠ 0, q := x.q, c := x.c, atFull := bit x.status 3, atEmpty := bit x.status 4, under := bit x.status 5,
    overfull := bit x.status 6, learned := bit x.status 7, unanchored := true, capLimited := bit x.status 9, gap := bit x.status 11,
    lvd := bit x.status 12, cycles := x.cycles, tFull := x.tFull, tEmpty := x.tEmpty }

/-- Loads the newest copy at a cold reset (R264). -/
def State.restoreLearned (s : State) : State :=
  let s := s.copiesAtLoad 5 s.bat.copies[0].isSome s.bat.copies[1].isSome
  match s.bat.newest with
  | none => s.raise 0x080C noInst []
  | some c =>
    let s : State := { s with bat.str := c.str.map LearnedString.restore, bat.seq := c.seq, tb.model := c.model.getD {} }
    let s := s.raise 0x080B noInst [c.seq]
    State.each (List.finRange 4) (fun n => fun s => if bit c.str[n].status 10 then s.raise 0x0809 n [] else s) s

/-! ## Initialisation (R251) -/

/-- Abandons an open cycle (R256). -/
def State.abandonCycle (n : Fin 4) (s : State) : State :=
  if s.bat.str[n].cycleOpen then (s.modStr n fun x => { x with cycleOpen := false, cycleUncounted := 0 }).raise 0x0809 n [] else s

/-- Initialises a string (R251). -/
def State.initString (n : Fin 4) (s : State) : State :=
  let c := s.real (0x2810 + n) 2
  s.modStr n fun x => { x with known := true, c := c, q := c, unanchored := true, learned := false, overfull := false, under := false }

/-- The write of 0x2810+s:0F (R251). -/
def objCapacityReset (n : Fin 4) : ObjWrite where
  effect := fun _ _ s => ((s.abandonCycle n).initString n).learnWrite

/-- CAPACITY_RESET (R251). -/
def execCapacityReset (w : Session) (n : Fin 4) (d : List Byte) (s : State) : Out :=
  .next (s.writeBy w (0x2810 + n) 0x0F d (objCapacityReset n))

/-! ## Counting (R247 to R250) -/

/-- Charge at the resolution of R247. -/
def fixCharge (q : Rat) : Rat := (roundEven (q * 4294967296) : Rat) / 4294967296

/-- Counting stops (R249). -/
def State.gapStart (n : Fin 4) (s : State) : State :=
  s.modStr n fun x => if x.stoppedAt.isSome then x else { x with stoppedAt := some s.now, gap := true }

/-- Counting resumes: the time without it accrues, and the gap is recorded with its cause and duration (R249). -/
def State.gapEnd (cause : Nat) (n : Fin 4) (s : State) : State :=
  match s.bat.str[n].stoppedAt with
  | none => s
  | some t =>
    let d : Rat := ((s.now - t : Nat) : Rat) / 1000000000
    let s := s.modStr n fun x =>
      { x with stoppedAt := none, relatch := true, gap := true, uncounted := x.uncounted + d,
               cycleUncounted := if x.cycleOpen then x.cycleUncounted + d else x.cycleUncounted }
    s.raise 0x080A n [cause, toReal32 d]

/-- The increment of one interval (R247). -/
def State.chargeStep (s : State) (n : Fin 4) (acc : Rat) : Rat :=
  s.real 0x3614 (n + 1) * (acc - s.bat.str[n].accPrev - s.real 0x3615 (n + 1) / 1000)

/-- Takes a new charge: the flags of R250, AT_FULL and AT_EMPTY at their 1 % (R254, R255). -/
def StringSt.setCharge (q : Rat) (x : StringSt) : StringSt :=
  { x with q := q, under := q < 0, overfull := x.c < q, atFull := x.atFull ∧ x.c * (99 / 100) < q, atEmpty := x.atEmpty ∧ q ≤ x.c / 100 }

/-- Integrates one string's charge (R247, R250). While the measurement block is in reset nothing is read; the first reading after a gap, or of a
converter that has just begun, counts nothing (R249; DEDUCED, log entry 25). -/
def State.countCharge (n : Fin 4) (acc : Rat) (s : State) : State :=
  if s.blkHeld 1 then s
  else if s.meas.refFail then (s.gapStart n).modStr n fun x => { x with relatch := true }
  else
    let s := s.gapEnd 0x0207 n
    let dq := if s.bat.str[n].relatch then 0 else s.chargeStep n acc
    let s := s.modStr n fun x =>
      { (x.setCharge (fixCharge (x.q + dq))) with
        accPrev := acc, relatch := false, throughput := if dq < 0 then x.throughput - dq else x.throughput }
    if s.bat.str[n].q < 0 ∧ s.bat.str[n].underArmed then
      (s.modStr n fun x => { x with underArmed := false }).raise 0x0805 n []
    else s

/-! ## Conditions at a 1 kS/s output (R252, R253, R258, R259) -/

/-- The voltage channel of a string. -/
def State.strCh (s : State) (n : Fin 4) : Nat := s.raw (0x2810 + n) 0x10

/-- Takes the string voltage and the empty threshold in force (R252). -/
def State.strSample (n : Fin 4) (s : State) : State :=
  let i := s.meas.stI1[n]
  s.modStr n fun x => { x with v := s.v1k (s.strCh n), vEnd := s.real (0x2810 + n) 3 - (min i 0) * s.real (0x2810 + n) 4 }

/-- The string's voltage may be judged: its channel is READY (DEDUCED, log entry 25). -/
def State.strReady (s : State) (n : Fin 4) : Bool := s.ready (s.strCh n)

/-- The empty condition (R252). -/
def State.emptyCond (s : State) (n : Fin 4) : Bool :=
  let x := s.bat.str[n]
  ¬ x.atEmpty ∧ s.strReady n ∧ s.strOn n ∧ s.meas.stI1[n] ≤ s.real 0x2800 1 ∧ x.vEnd ≤ x.v

/-- The full condition (R253); CHARGE_LIMIT stands while the LN10 trim is above 0 (R218). -/
def State.fullCond (s : State) (n : Fin 4) : Bool :=
  let x := s.bat.str[n]
  let i := s.meas.stI1[n]
  ¬ x.atFull ∧ s.strReady n ∧ s.strOn n ∧ s.shelf.trim ≤ 0 ∧ 0 ≤ i ∧ i ≤ s.real (0x2810 + n) 7
    ∧ absR (x.v - s.real (0x2810 + n) 5) ≤ s.real (0x2810 + n) 6

/-- The LVD condition (R258), of a string whose rail is commanded on: another one has nothing to open (DEDUCED, log entry 25). -/
def State.lvdCond (s : State) (n : Fin 4) : Bool :=
  let x := s.bat.str[n]
  s.flag (0x2810 + n) 0x0E ∧ x.cmd ∧ ¬ x.lvd ∧ s.strReady n ∧ s.real (0x2810 + n) 9 ≤ x.v

/-- The reconnect level is met (R259). -/
def State.reLevel (s : State) (n : Fin 4) : Bool := s.ready s.busCh ∧ s.v1k s.busCh ≤ s.real (0x2810 + n) 0x0B

/-- The reconnect match is met (R259). -/
def State.reMatch (s : State) (n : Fin 4) : Bool :=
  s.ready s.busCh ∧ s.strReady n ∧ absR (s.v1k s.busCh - s.bat.str[n].v) ≤ s.real (0x2810 + n) 0x0D

/-- A rectifier is commanded with AC_OK set (R259). -/
def State.reAc (s : State) : Bool := s.shelf.rects.any fun r => r.st = .commanded ∧ r.acOk

/-- The conditions of R259 but the delay. -/
def State.reconnectCond (s : State) (n : Fin 4) : Bool := s.reLevel n ∧ s.reMatch n ∧ s.reAc

/-- Runs the confirm, taper, dwell and reconnect times of a string; a string that waits for the match reconnects (R252 to R260). -/
def State.strTimes (n : Fin 4) (s : State) : State :=
  let x := s.bat.str[n]
  let s := s.armWhile (s.emptyCond n) (.strEmpty n) (s.ns 0x2800 2)
  let s := s.armWhile (s.fullCond n) (.strFull n) (s.ns (0x2810 + n) 8)
  let s := s.armWhile (s.lvdCond n) (.lvd n) (s.ns (0x2810 + n) 0x0A)
  let s := s.armWhile (x.lvd ∧ s.reconnectCond n) (.reconnect n) (s.ns (0x2810 + n) 0x0C)
  let s := s.armWhile (x.lvd ∧ s.reLevel n ∧ s.reAc ∧ ¬ s.reMatch n) (.blocked n) 86400000000000
  if x.waitMatch ∧ ¬ x.lvd ∧ s.reconnectCond n then (s.modStr n fun x => { x with waitMatch := false }).strConnect n else s

/-- CHARGE_COUNT (R247): the accumulators' readings at the 1 ms boundary. -/
def execChargeCount (acc : Vector Rat 4) (s : State) : Out :=
  .next (if s.up then
      (State.each (List.finRange 4) (fun n => fun s =>
        if s.strEnabled n then ((s.countCharge n acc[n]).strSample n).strTimes n
        else s.modStr n fun x => { x with relatch := true }) s).learnSooner
    else s)

/-! ## Anchors (R254 to R257) -/

/-- FULL_ANCHOR (R254). -/
def execFullAnchor (n : Fin 4) (s : State) : Out :=
  .next (if s.due (.strFull n) ∧ s.strEnabled n then
      let s := (s.disarm (.strFull n)).modStr n fun x =>
        { x with q := x.c, overfull := false, under := false, unanchored := false, gap := false, uncounted := 0, atFull := true,
                 atEmpty := false, cycleOpen := true, cycleUncounted := 0, underArmed := true, tFull := s.tb.tod }
      (s.raise 0x0802 n []).learnWrite
    else s)

/-- The capacity that a closing cycle leaves, and whether a limit acted (R256). -/
def learnedCapacity (c cMeas rated : Rat) : Rat × Bool :=
  let a := clamp (c * (95 / 100)) (c * (105 / 100)) cMeas
  let b := clamp (rated / 10) (rated * (5 / 4)) a
  (b, decide (b ≠ cMeas))

/-- Closes a learning cycle (R256). -/
def State.closeCycle (n : Fin 4) (s : State) : State :=
  let x := s.bat.str[n]
  if s.real 0x2800 3 < x.cycleUncounted then s.abandonCycle n
  else
    let m := x.c - x.q
    let r := learnedCapacity x.c m (s.real (0x2810 + n) 2)
    let s := s.modStr n fun x =>
      { x with c := r.1, capLimited := r.2, learned := true, cycles := bump x.cycles, cMeas := m, cycleOpen := false }
    (if r.2 then s.raise 0x0804 n [] else s).raise 0x0803 n []

/-- The cause of a capacity change, as the empty anchor's record gives it: 0 none, 1 learned, 2 learned and limited. -/
def capacityCause (was now : StringSt) : Nat := if was.cycles = now.cycles then 0 else if now.capLimited then 2 else 1

/-- EMPTY_ANCHOR (R255). -/
def execEmptyAnchor (n : Fin 4) (s : State) : Out :=
  .next (if s.due (.strEmpty n) ∧ s.strEnabled n then
      let was := s.bat.str[n]
      let s := s.disarm (.strEmpty n)
      let s := if was.cycleOpen then s.closeCycle n else s
      let s := s.modStr n fun x =>
        { x with q := 0, under := false, overfull := false, unanchored := false, gap := false, uncounted := 0, cycleOpen := false,
                 cycleUncounted := 0, atEmpty := true, atFull := false, tEmpty := s.tb.tod }
      let now := s.bat.str[n]
      (s.raise 0x0801 n [toReal32 was.q, toReal32 was.c, toReal32 now.c, capacityCause was now]).learnWrite
    else s)

/-! ## Low-voltage disconnect (R258 to R260) -/

/-- LVD_OPEN (R258). -/
def execLvdOpen (n : Fin 4) (s : State) : Out :=
  .next (if s.due (.lvd n) then
      let s := (s.disarm (.lvd n)).strOpen n .normalSink
      let s := s.modStr n fun x => { x with lvd := true, lvdCount := bump x.lvdCount }
      s.raise 0x0806 n [toReal32 s.bat.str[n].v, toReal32 s.bat.str[n].soc]
    else s)

/-- LVD_RECONNECT (R259). -/
def execLvdReconnect (n : Fin 4) (s : State) : Out :=
  .next (if s.due (.reconnect n) then
      let s := ((s.disarm (.reconnect n)).disarm (.blocked n)).modStr n fun x => { x with lvd := false, waitMatch := false }
      (s.strConnect n).raise 0x0807 n []
    else s)

/-- RECONNECT_BLOCKED (R259). -/
def execReconnectBlocked (n : Fin 4) (s : State) : Out :=
  .next (if s.due (.blocked n) then (s.arm (.blocked n) 86400000000000).raise 0x0808 n [] else s)

/-- Clears a string's latch (R260). -/
def State.clearStrLatch (n : Fin 4) (s : State) : State :=
  if s.dist.str[n] = .latched then
    ((s.setStr n .off).drive (stGate n) .normalSink).modStr n fun x => { x with waitMatch := true }
  else s

/-- The write of 0x2800:05 (R260). -/
def objClearStringLatch : ObjWrite where
  effect := fun _ d s =>
    let n := leValue d
    if h : n < 4 then s.clearStrLatch ⟨n, h⟩ else s

/-- CLEAR_STRING_LATCH (R260). -/
def execClearStringLatch (w : Session) (d : List Byte) (s : State) : Out := .next (s.writeBy w 0x2800 5 d objClearStringLatch)

end Sys2Proof.Machine
end

