-- ==== Sys2Proof/Config.lean ====
section
/-! DEFINITION. What the spec leaves open, or gives to functions it does not define: constants with no body, so that every claim
holds whatever they are. -/

namespace Sys2Proof.Config

/-! ## Steering and learning (log entry 11) -/

/-- Output of the proportional–integral disciplining loop (R91): time constant in s, last phase error in s, last fractional frequency
error, steering word in force. -/
opaque pi : Rat → Rat → Rat → Rat → Rat

/-- Coefficient `k` (c0 to c3, then a) after one step of recursive least squares (R93): the forgetting time constants, the coefficients, the sample (y, T − 25, t)
and the number of samples before it. -/
opaque rls : Rat × Rat → List Rat → Rat × Rat × Rat → Nat → Nat → Rat

/-! ## Codes that the spec does not give -/

/-- The fault code of a commit that R72 refuses (log entry 35). -/
opaque supplyRefusalCode : Nat

/-- The fault code of a commit whose phase offset R182 does not allow (log entry 35). -/
opaque offsetRefusalCode : Nat

/-! ## Random numbers and cryptography (log entry 9) -/

/-- Byte `k` of the n-th draw from the random source (R339). -/
opaque random : Nat → Nat → Byte

/-- Byte `k` of the HMAC-SHA-256 of FIPS 198-1: key, message (R339). -/
opaque hmac : List Byte → List Byte → Nat → Byte

/-- Byte `k` of the tag of AES-256-GCM: key, initialisation vector, additional data, ciphertext (R455, R456, R472). -/
opaque gcmTag : List Byte → List Byte → List Byte → List Byte → Nat → Byte

/-- Byte `k` of the plaintext of AES-256-GCM: key, initialisation vector, ciphertext (R456, R472). -/
opaque gcmPlain : List Byte → List Byte → List Byte → Nat → Byte

/-- An ECDSA P-384 signature of a message verifies under a public key (R456): key, message, signature. -/
opaque ecdsaOk : List Byte → List Byte → List Byte → Bool

/-- Byte `k` of the SHA-384 digest (R475). -/
opaque sha384 : List Byte → Nat → Byte

/-! ## Sizes and words that the spec does not lay out (log entry 12) -/

/-- Size of the critical state in bytes, 0x5F30:0B (R434). -/
opaque criticalSize : Nat

/-- What a read of 0x1011 returns (R355). -/
opaque restoreWord : Nat

/-- The word at an address of boot ROM (R36). -/
opaque romWord : Nat → Nat

/-- What a diagnostic read of memory or of a block without a documented layout returns (R36): the n-th draw, the address. -/
opaque diagWord : Nat → Nat → Nat

end Sys2Proof.Config
end

