-- ==== Sys2Proof/Machine/Timebase.lean ====
section
/-! DEFINITION. The timebase: references, lock states, crystal model, holdover, time of day and the general timers (R84 to R100). -/

namespace Sys2Proof.Machine

/-! ## Crystal model (R93, R94) -/

/-- T: the mean of on-die sensors 0 and 1; the last good one while both have failed (R93, R94). -/
def State.oscTemp (s : State) : Rat :=
  let a := s.thm.sensor[0]
  let b := s.thm.sensor[1]
  if a.failed ∧ b.failed then s.tb.lastT
  else if a.failed then b.t else if b.failed then a.t else (a.t + b.t) / 2

/-- The model's y at a temperature and a time in s (R93). -/
def CrystalModel.predict (m : CrystalModel) (temp t : Rat) : Rat :=
  let d := temp - 25
  m.c[0] + m.c[1] * d + m.c[2] * d * d + m.c[3] * d * d * d + m.a * t

/-- Time since the model's reference instant in s: counted on, whatever the time of day is set to. -/
def State.modelTime (s : State) : Rat := (s.tb.model.age : Nat) / 1000000000

/-- The model's prediction now. -/
def State.predictNow (s : State) : Rat := s.tb.model.predict s.oscTemp s.modelTime

/-- The model is learned: 72 h of learning (R94). -/
def CrystalModel.isLearned (m : CrystalModel) : Bool := 259200 ≤ m.learnTime

/-- The sign of r + q·√d is positive (0 ≤ d). -/
def surdPos (d r q : Rat) : Bool :=
  if 0 ≤ r ∧ 0 ≤ q then 0 < r ∨ 0 < q * q * d
  else if 0 ≤ r then q * q * d < r * r
  else if 0 ≤ q then r * r < q * q * d
  else false

/-- A cubic in x = `lo` .. `hi` is positive somewhere: at an end, or at its local maximum between them. -/
def cubicPos (k0 k1 k2 k3 lo hi : Rat) : Bool :=
  let at_ := fun x => k0 + k1 * x + k2 * x * x + k3 * x * x * x
  let ends : Bool := 0 < at_ lo ∨ 0 < at_ hi
  if k3 = 0 then
    let x := -k1 / (2 * k2)
    ends || (k2 < 0 && lo < x && x < hi && decide (0 < at_ x))
  else
    let d := k2 * k2 - 3 * k1 * k3
    let r := -k2 / (3 * k3)
    let q := -1 / (3 * k3)
    let r2 := r * r + q * q * d
    let q2 := 2 * r * q
    ends || (0 < d && surdPos d (r - lo) q && surdPos d (hi - r) (-q) &&
      surdPos d (k0 + k1 * r + k2 * r2 + k3 * (r * r2 + q * q2 * d)) (k1 * q + k2 * q2 + k3 * (r * q2 + q * r2)))

/-- The model implies more than ±20 ppm somewhere from −40 °C to +125 °C, judged at t = 0 (R93, DEDUCED, log entry 28). -/
def CrystalModel.implausible (m : CrystalModel) : Bool :=
  cubicPos (m.c[0] - 1 / 50000) m.c[1] m.c[2] m.c[3] (-65) 100 || cubicPos (-m.c[0] - 1 / 50000) (-m.c[1]) (-m.c[2]) (-m.c[3]) (-65) 100

/-- A steering word at its resolution and within its range (R84). -/
def steerWord (y : Rat) : Rat := (roundEven (clamp (-(1 / 50000)) (1 / 50000) y * 1000000000000) : Rat) / 1000000000000

/-- Moves the frequency correction towards a value by at most the slew of `dt` seconds (R84); the offset of a phase slew stands beside it (R92).
The history takes one word a second, from what steers frequency. -/
def State.steerTo (dt y : Rat) (log : Bool) (s : State) : State :=
  let f := clamp (s.tb.freqCorr - dt / 100000000) (s.tb.freqCorr + dt / 100000000) y
  let w := steerWord (f + s.tb.slewOff)
  let second : Bool := 1 ≤ dt ∨ ((s.tb.tod % 1000000000 : Nat) : Rat) < dt * 1000000000
  { s with tb.freqCorr := f, tb.steering := w, tb.steerHist := if log && second then (w :: s.tb.steerHist).take 100 else s.tb.steerHist }

/-- A phase slew ends: the offset goes (R92). -/
def State.slewStop (s : State) : State :=
  { s with tb.slewLeft := 0, tb.slewOff := 0, tb.steering := steerWord s.tb.freqCorr }

/-- Begins the slew of a phase error in s: the offset that removes it in 1 s, within the limit of 0x2100:05, until it is removed (R92). -/
def State.slewBy (err : Rat) (s : State) : State :=
  let lim := s.real 0x2100 5
  let o := clamp (-lim) lim (-err)
  if o = 0 then s.slewStop
  else { s with tb.slewLeft := err, tb.slewOff := o, tb.slewEnd := s.now + (absR (err / o) * 1000000000).ceil.toNat,
                tb.steering := steerWord (s.tb.freqCorr + o) }

/-- Mean of the newest `n` steering words of the history: of those there are, or the word in force where there are none (DESIGN CHOICE, log
entry 89). -/
def State.steerMean (s : State) (n : Nat) : Rat :=
  let l := s.tb.steerHist.take n
  if l = [] then s.tb.steering else l.foldl (· + ·) 0 / (l.length : Nat)

/-! ## Lock states (R89, R90) -/

/-- Takes a lock state; a transition records its time and is counted (R90). Without a phase reference no slew goes on (R89). -/
def State.setLock (x : LockState) (s : State) : State :=
  if s.tb.lock = x then s
  else
    let s := if x = .acquire ∨ x = .locked then s else s.slewStop
    { s with tb.lock := x, tb.changes := bump s.tb.changes, tb.lastChange := s.tb.tod, tb.lockRun := 0, tb.refLock := 0,
             tb.freqOnly := false, tb.phaseStage := false }

/-- A reference that steers frequency in the configured mode is qualified (R86, R90). -/
def State.refsOk (s : State) : Bool :=
  match s.raw 0x2100 1 with
  | 1 => s.tb.ppsOk
  | 2 => s.tb.refOk
  | 3 => s.tb.refOk ∨ s.tb.ppsOk
  | 4 => s.tb.cascOk
  | _ => false

/-- FREERUN (R89): from now on the model steers each second, or the word goes to 0, within the slew of R84. -/
def State.enterFreerun (s : State) : State := (s.setLock .freerun).arm .holdoverSec 1000000000

/-- HOLDOVER: the alignment term, the error bound of R95 from the entry phase error, and a store of the model (R93, R94). -/
def State.enterHoldover (s : State) : State :=
  let s := s.setLock .holdover
  { s with tb.alignTerm := s.steerMean 100 - s.predictNow, tb.errBound := 1 / 10000000, tb.holdoverTime := 0, tb.limitRaised := false,
           bat.modelDue := true }.learnWrite.arm .holdoverSec 1000000000

/-- A reference has qualified (R90). -/
def State.refGained (s : State) : State :=
  if (s.tb.lock = .freerun ∨ s.tb.lock = .holdover) ∧ s.refsOk then (s.setLock .acquire).disarm .holdoverSec
  else if s.tb.lock = .locked then { s with tb.freqOnly := s.raw 0x2100 1 = 3 ∧ ¬ s.tb.ppsOk } else s

/-- A reference has been lost, or the mode has changed (R90). -/
def State.refChecked (s : State) : State :=
  match s.tb.lock, s.refsOk with
  | .acquire, false => s.enterFreerun
  | .locked, false => s.enterHoldover.raise 0x0104 noInst []
  | .locked, true => { s with tb.freqOnly := s.raw 0x2100 1 = 3 ∧ ¬ s.tb.ppsOk }
  | _, _ => s

/-- ACQUIRE has measured a frequency error below 1 ppb: from now on it slews phase (R91). -/
def State.measuredFreq (fe : Rat) (s : State) : State :=
  { s with tb.freqErr := fe, tb.phaseStage := s.tb.phaseStage ∨ (s.tb.lock = .acquire ∧ absR fe < 1 / 1000000000) }

/-- The lock criterion is met (R91). -/
def State.lockNow (s : State) : State := if s.tb.lock = .acquire ∧ s.refsOk then s.setLock .locked else s

/-! ## Failures of the timebase (R85) -/

/-- Enters TIMEBASE_FAIL: a time of day is valid before the failure unless bit 15 marks it invalid (an unset one counts as valid; DESIGN CHOICE,
log entry 88). PWM and share link off at once, each running loop's rail takes its fault, an active chip gives up control. -/
def State.timebaseFail (code : Nat) (xo : Bool) (s : State) : State :=
  let s : State := { s with tb.validBefore := if s.tb.lock = .timebaseFail then s.tb.validBefore else ¬ s.tb.todInvalid,
                            tb.xoFailed := s.tb.xoFailed ∨ xo, tb.todInvalid := s.tb.todInvalid ∨ xo }
  let s := (s.raise code noInst []).setLock .timebaseFail
  let s : State := { s.pwmOff with tb.ppsOk := false, tb.refOk := false, tb.cascOk := false, tb.ppsRun := 0, tb.refRun := 0 }
  let s := s.disarm .ppsLost
  let s := State.each (List.finRange 8) (fun l => fun s => if s.loop[l].running then (s.loopCut l).loopFault l code else s) s
  s.giveUp code causeGiveUp

/-- XO_FAIL (R85, R96): while the timebase is in reset, only the always-on count of the time of day is lost. -/
def execXoFail (s : State) : Out :=
  .next (if s.tbOut then s.timebaseFail 0x0107 true else { s with tb.xoFailed := true, tb.todInvalid := true })

/-- PLL_UNLOCK (R85). -/
def execPllUnlock (s : State) : Out := .next (if s.tbOut then s.timebaseFail 0x0106 false else s)

/-- The recovery rule of R85: HOLDOVER if the time of day was valid before the failure and the TCXO never failed, else FREERUN. -/
def State.recoverLock (s : State) : State :=
  let s := if s.tb.validBefore ∧ ¬ s.tb.xoFailed then s.enterHoldover else s.enterFreerun
  { s with tb.xoFailed := false }

/-- TIMEBASE_RECOVERY (R85). -/
def execTimebaseRecovery (s : State) : Out :=
  .next (if s.tb.lock = .timebaseFail ∧ s.tbOut then s.recoverLock else s)

/-! ## General timers (R99, R100) -/

/-- A timer owned by the recorder fires the triggers of kind 7 that name it (R445). -/
def State.fireOnTimer (t : Fin 16) (s : State) : State :=
  s.fireTriggers fun k : Fin 64 => decide (s.raw 0x3210 (k + 1) = 7) && decide (s.raw 0x3213 (k + 1) = t.val)

/-- The one action of an expiry (R99): a pulse takes its GPIO high for its width (DESIGN CHOICE, log entry 27). -/
def State.timerAction (t : Fin 16) (s : State) : State :=
  let x := s.tb.gen[t].setting
  match x.action with
  | .none => s
  | .doorbell b =>
    match identIx x.owner with
    | some i => s.ring i b
    | none => s
  | .recorder => s.fireOnTimer t
  | .pulse w =>
    match x.pin with
    | some g => (s.driveGpio g true).modGen t fun y => { y with pulses := bump y.pulses, pulse := w }
    | none => s

/-- A timer has expired: its cycles have passed, or the time of day has reached its alarm, which fires once (R99, R100). -/
def State.timerDue (s : State) (t : Fin 16) : Bool :=
  let y := s.tb.gen[t]
  y.armed && (match y.setting.mode with
    | .oneShot | .periodic => decide (y.count = 0)
    | .alarm => decide (y.setting.value ≤ s.tb.tod) && decide (y.fired ≠ some y.setting.value)
    | .capture => false)

/-- Expiry of a timer: its action; a periodic one starts again (R99). -/
def State.timerExpire (t : Fin 16) (s : State) : State :=
  (s.modGen t fun y => match y.setting.mode with
    | .periodic => { y with count := y.setting.value }
    | .alarm => { y with fired := some y.setting.value }
    | _ => { y with armed := false }).timerAction t

/-- A setting comes into force: the timer starts. -/
def GenTimer.load (x : TimerSetting) (y : GenTimer) : GenTimer :=
  { y with setting := x, claim := none, count := x.value, fired := none,
           armed := match x.mode with | .capture => false | _ => true }

/-- A timer's owner programs it; a timer that nobody owns yet, or that another claims, waits for the commit that records the owner (R99,
R352; log entry 27). -/
def State.timerProgram (t : Fin 16) (x : TimerSetting) (s : State) : State :=
  s.modGen t fun y => if ¬ x.fits then y else if y.setting.owner = x.owner then y.load x else { y with claim := some x }

/-- A commit that applies records the owners: claims come into force, an output's pin is driven (R99, R352). A pin that the commit made a
fault output is lost (R353). -/
def State.recordTimers (s : State) : State :=
  State.each (List.finRange 16) (fun t => fun s =>
    match s.tb.gen[t].claim with
    | some x =>
      let s := s.modGen t (GenTimer.load x)
      match x.pin, x.action with
      | some g, .pulse _ => s.driveGpio g false
      | _, _ => s
    | none => s) s

/-- TIMER_EXPIRY (R99, R100): a timer that has expired acts by its old setting; the setting that its owner writes in the same cycle holds from
then on. -/
def execTimerExpiry (t : Fin 16) (x : Option TimerSetting) (s : State) : Out :=
  .next (if ¬ s.tbRuns then s
    else
      let s := if s.timerDue t then s.timerExpire t else s
      match x with
      | some x => s.timerProgram t x
      | none => s)

/-- TIMER_CAPTURE (R99): the time of day of a selected edge enters the four-entry buffer; a full one raises 0x0B03 (R25). -/
def execTimerCapture (t : Fin 16) (rising : Bool) (s : State) : Out :=
  let x := s.tb.gen[t].setting
  .next (if ¬ s.tbRuns ∨ x.mode ≠ .capture ∨ x.pin.isNone ∨ ¬ (if rising then x.edges.1 else x.edges.2) then s
    else
      let l := s.tb.gen[t].captured
      if l.length < 4 then s.modGen t fun y => { y with captured := l ++ [s.tb.tod] } else s.raise 0x0B03 0 [0])

/-! ## PPS (R87, R91, R92, R97, R98) -/

/-- The chip steers by its own references: a standby aligns to the active chip instead (R86). -/
def State.steersItself (s : State) : Bool := ¬ s.standby

/-- An instant's offset from the nearest multiple of a period, in ns. -/
def offsetFrom (period : Nat) (t : Rat) : Rat := t - ((roundEven (t / (period : Nat)) : Int) : Rat) * (period : Nat)

/-- A timestamp of the interpolator: 256 steps of a cycle, 19.53 ps (R83). -/
def interpolated (t : Rat) : Rat := ((roundEven (t * 256 / 5) : Int) : Rat) * 5 / 256

/-- The time of day moves by whole frames: the expected PPS edges move with it, and alarms that it passes fire once (R92, R97, R100). -/
def State.todShift (d : Int) (s : State) : State :=
  let s : State := { s with tb.tod := ((s.tb.tod : Int) + d).toNat, tb.ppsLast := s.tb.ppsLast.map fun p => p + (d : Rat) }
  State.each (List.finRange 16) (fun t => fun s => if s.tb.gen[t].setting.mode = .alarm ∧ s.timerDue t then s.timerExpire t else s) s

/-- The seconds since the last qualified edge where an edge is qualified (R87): one second, or two or three after edges that were missed
(log entry 21). The first edge since the reset counts as qualified, and so does one more than 3.000 05 s after the last (DESIGN CHOICE,
log entry 97). -/
def State.ppsSeconds (s : State) (t : Rat) : Option Nat :=
  let w : Rat := if s.tb.lock = .locked then 1000 else 50000
  match s.tb.ppsLast with
  | none => some 0
  | some p =>
    ([1, 2, 3].find? fun k => absR (t - p - (k : Nat) * 1000000000) ≤ w) <|>
      (if 3000050000 < t - p then some (roundEven ((t - p) / 1000000000)).toNat else none)

/-- The phase error of an edge in ns: against the second of a valid time of day, else against the frame boundary (R91, R97; DEDUCED,
log entry 26). -/
def State.ppsError (s : State) (t : Rat) : Rat :=
  if s.tb.todLoaded ∧ ¬ s.tb.todInvalid then offsetFrom 1000000000 t else offsetFrom 25000 t

/-- The step of R92 for a phase error in ns: whole frames where the threshold is set and exceeded. -/
def State.stepFor (s : State) (err : Rat) : Int :=
  let th := s.real 0x2100 6
  if th ≠ 0 ∧ th * 1000000000 < absR err then
    (if err < 0 then (absR err / 25000).floor * 25000 else -((absR err / 25000).floor * 25000))
  else 0

/-- PPS steers frequency in the configured mode (R86). -/
def State.ppsSteers (s : State) : Bool := s.raw 0x2100 1 = 1 ∨ (s.raw 0x2100 1 = 3 ∧ ¬ s.tb.refOk)

/-- PPS carries phase and time of day in the configured mode (R86). -/
def State.ppsPhase (s : State) : Bool := s.raw 0x2100 1 = 1 ∨ s.raw 0x2100 1 = 3

/-- A phase error in ns is slewed or stepped (R91, R92): in ACQUIRE once the frequency is pulled in; in LOCKED where the frequency loop does not
hold it. -/
def State.correctsPhase (s : State) (err : Rat) : Bool :=
  match s.tb.lock with
  | .acquire => s.tb.phaseStage
  | .locked => ¬ s.ppsSteers ∨ 100 < absR err
  | _ => false

/-- Corrects a phase error in ns: a step waits for the frame boundary, the rest is slewed (R92). -/
def State.correctPhase (err : Rat) (s : State) : State :=
  let step := s.stepFor err
  ({ s with tb.stepPending := if step = 0 then s.tb.stepPending else step } : State).slewBy ((err + (step : Rat)) / 1000000000)

/-- Loads the time of day written for the next PPS edge (R97): the frame boundary nearest to the edge takes the written second, and the edge's
offset from it is the phase error that remains. -/
def State.todLoad (t : Rat) (s : State) : State :=
  match s.tb.todNext with
  | none => s
  | some v =>
    { s.todShift ((v : Int) - roundEven (t / 25000) * 25000) with
      tb.todNext := none, tb.todLoaded := true, tb.todUnset := false, tb.todInvalid := false }

/-- PPS_IN is lost (R87): no phase reference is left to slew to. -/
def State.ppsLoss (s : State) : State :=
  (({ s.disarm .ppsLost with tb.ppsOk := false, tb.ppsRun := 0, tb.lockRun := 0 } : State).slewStop.raise 0x0101 noInst []).refChecked

/-- Steers by a qualified edge while PPS_IN is qualified: frequency where PPS steers it, phase by slew or step, and the lock criterion (R91,
R92). `next` says that the edge follows the one before by a second. -/
def State.ppsSteer (err : Rat) (next : Bool) (s : State) : State :=
  let s : State := { s with tb.lockRun := if 100 < absR err then 0 else if next then satInc 60 s.tb.lockRun else 1 }
  let s := if s.correctsPhase err then s.correctPhase err else s.slewStop
  let s := if s.ppsSteers then s.steerTo 1 (Config.pi (s.real 0x2100 3) (err / 1000000000) s.tb.freqErr s.tb.freqCorr) true else s
  if 60 ≤ s.tb.lockRun then s.lockNow else s

/-- A qualified edge at `t`, `k` seconds after the last one (R87): the edges missed between are counted, and the chip steers by it. -/
def State.ppsTake (t : Rat) (k : Nat) (s : State) : State :=
  let fe : Option Rat := match s.tb.ppsLast with
    | some p => if k = 0 ∨ 3 < k then none else some ((t - p) / ((k : Nat) * 1000000000) - 1 - s.tb.slewOff)
    | none => none
  let s : State := { s with
    tb.discarded := s.tb.discarded + BitVec.ofNat 32 (k - 1 - s.tb.ppsSkipped), tb.ppsSkipped := 0,
    tb.ppsRun := if k = 1 then satInc 255 s.tb.ppsRun else 1, tb.ppsLast := some t }
  let s := (s.arm .ppsLost 3000000000).todLoad t
  let s := match fe with
    | some fe => if s.ppsSteers then s.measuredFreq fe else s
    | none => s
  let err := s.ppsError (s.tb.ppsLast.getD t)
  let s : State := { s with tb.phaseErr := err / 1000000000 }
  if s.ppsPhase ∧ s.steersItself ∧ s.tb.ppsOk ∧ (s.tb.lock = .acquire ∨ s.tb.lock = .locked) then s.ppsSteer err (k = 1) else s

/-- PPS_EDGE (R87): the edge's timestamp, less the delay compensation of 0x2100:02. A loss due at the same instant wins (R90). -/
def execPpsEdge (at_ : Rat) (s : State) : Out :=
  let t := interpolated (at_ - s.real 0x2100 2 * 1000000000)
  .next (if ¬ s.tbRuns then s
    else
      let s := if s.tb.ppsOk ∧ s.due .ppsLost then s.ppsLoss else s
      match s.ppsSeconds t with
      | none => { s with tb.discarded := bump s.tb.discarded, tb.ppsSkipped := s.tb.ppsSkipped + 1, tb.ppsRun := 0, tb.lockRun := 0 }
      | some k => s.ppsTake t k)

/-- PPS_QUALIFIED (R87): ten consecutive qualified edges. -/
def execPpsQualified (s : State) : Out :=
  .next (if s.tbRuns ∧ 10 ≤ s.tb.ppsRun ∧ ¬ s.tb.ppsOk then { s with tb.ppsOk := true }.refGained else s)

/-- REF_LOST_PPS (R87): three seconds without a qualified edge. -/
def execRefLostPps (s : State) : Out := .next (if s.tbRuns ∧ s.tb.ppsOk ∧ s.due .ppsLost then s.ppsLoss else s)

/-! ## REF10M_IN (R88, R91) -/

/-- REF10M_IN steers frequency in the configured mode (R86). -/
def State.refSteers (s : State) : Bool := s.tb.refOk ∧ (s.raw 0x2100 1 = 2 ∨ s.raw 0x2100 1 = 3)

/-- A 1 s average of REF10M_IN has completed: steering, and the lock criterion without PPS (R91). An interval that shows the loss of the
reference locks nothing (R90). -/
def State.refSecond (s : State) : State :=
  let avg := s.tb.refSum / (s.tb.refN : Nat)
  let s : State := { s with tb.refSum := 0, tb.refN := 0, tb.refLock := if absR avg ≤ 1 / 1000000000 then satInc 60 s.tb.refLock else 0 }
  if ¬ s.refSteers ∨ ¬ s.steersItself ∨ ¬ (s.tb.lock = .acquire ∨ s.tb.lock = .locked) then s
  else
    let s := (s.measuredFreq avg).steerTo 1 (Config.pi (s.real 0x2100 4) 0 avg s.tb.freqCorr) true
    if 60 ≤ s.tb.refLock ∧ ¬ s.tb.refBad ∧ ¬ (s.ppsPhase ∧ s.tb.ppsOk) then s.lockNow else s

/-- REF10M_INTERVAL (R88): the fractional frequency error of the timebase over a 1 ms interval; a phase slew's offset is no frequency error. -/
def execRef10mInterval (err : Rat) (s : State) : Out :=
  let bad := decide (1 / 20000 < absR err)
  .next (if ¬ s.tbRuns then s
    else
      let s : State := { s with tb.refBad := bad, tb.refRun := if bad then 0 else satInc 10000 s.tb.refRun,
                                tb.refSum := s.tb.refSum + err - s.tb.slewOff, tb.refN := s.tb.refN + 1 }
      if 1000 ≤ s.tb.refN then s.refSecond else s)

/-- REF_LOST_10M (R88): no edge for 1 µs, or an interval beyond 50 ppm. -/
def execRefLost10m (noEdge : Bool) (s : State) : Out :=
  .next (if s.tbRuns ∧ s.tb.refOk ∧ (noEdge ∨ s.tb.refBad) then
      ({ s with tb.refOk := false, tb.refRun := 0, tb.refLock := 0 }.raise 0x0102 noInst []).refChecked
    else s)

/-- REF10M_QUALIFIED (R88): ten seconds of good intervals. -/
def execRef10mQualified (s : State) : Out :=
  .next (if s.tbRuns ∧ 10000 ≤ s.tb.refRun ∧ ¬ s.tb.refOk ∧ ¬ s.tb.conflict then { s with tb.refOk := true }.refGained else s)

/-- REF_CONFLICT (R88): the 16 s average of the frequency difference of PPS and 10 MHz. In a conflict it starts and stops the 600 s. -/
def execRefConflict (diff : Rat) (s : State) : Out :=
  .next (if ¬ s.tbRuns ∨ s.raw 0x2100 1 ≠ 3 then s
    else if s.tb.conflict then s.armWhile (absR diff < 1 / 20000000) .conflictClear 600000000000
    else if s.tb.ppsOk ∧ s.tb.refOk ∧ 1 / 5000000 < absR diff then
      ({ s with tb.conflict := true, tb.refOk := false, tb.refLock := 0 }.raise 0x0103 noInst []).refChecked
    else s)

/-- REF_CONFLICT_CLEAR (R88): below 50 ppb for 600 s. -/
def execRefConflictClear (s : State) : Out :=
  .next (if s.tb.conflict ∧ s.due .conflictClear then { s.disarm .conflictClear with tb.conflict := false } else s)

/-! ## Learning and holdover (R93 to R95) -/

/-- The forgetting time constants of R93 in s: 30 days for c0 to c3, 7 days for the ageing rate. -/
def forgetting : Rat × Rat := (2592000, 604800)

/-- MODEL_LEARN_SAMPLE (R93): each 10 s while LOCKED; `rate` is |dT/dt| in °C/h. The model's reference instant is its first sample (DESIGN CHOICE,
log entry 99). -/
def execModelLearnSample (rate : Rat) (s : State) : Out :=
  .next (if s.tb.lock ≠ .locked ∨ 10 < absR rate ∨ 1 / 10000000 < absR s.tb.phaseErr then s
    else
      let m := s.tb.model
      let temp := s.oscTemp
      let m := if m.samples = 0 then { m with spanLo := temp, spanHi := temp, age := 0 } else m
      let x := (s.steerMean 10, temp - 25, ((m.age : Nat) : Rat) / 1000000000)
      let co := m.c.toList ++ [m.a]
      { s with tb.model := { m with
          learnTime := m.learnTime + 10, spanLo := min m.spanLo temp, spanHi := max m.spanHi temp, samples := m.samples + 1,
          c := Vector.ofFn fun k => Config.rls forgetting co x m.samples k, a := Config.rls forgetting co x m.samples 4 } })

/-- MODEL_STORE (R93): hourly while LOCKED. -/
def execModelStore (s : State) : Out :=
  .next (if s.tb.lock = .locked then { s with bat.modelDue := true }.learnWrite else s)

/-- The frequency bound that applies to a second of holdover (R95): ±10 ppb for 8 h where the model is learned and its conditions hold. -/
def State.secondBound (s : State) (slowAmbient : Bool) : Rat :=
  let t := s.oscTemp
  let m := s.tb.model
  if m.isLearned ∧ slowAmbient ∧ ¬ s.tb.tempStale ∧ m.spanLo - 5 ≤ t ∧ t ≤ m.spanHi + 5 ∧ s.tb.holdoverTime ≤ 28800 then 1 / 100000000
  else 1 / 10000000

/-- HOLDOVER_STEER (R94, R95): each second of holdover, and of FREERUN, by the model or to a word of 0 (R89). `slowAmbient`: the ambient has kept to
5 °C/h. -/
def execHoldoverSteer (slowAmbient : Bool) (s : State) : Out :=
  .next (if ¬ s.due .holdoverSec ∨ ¬ s.tbRuns ∨ ¬ s.steersItself then s
    else match s.tb.lock with
      | .holdover =>
        let s := (s.arm .holdoverSec 1000000000).steerTo 1 (s.predictNow + s.tb.alignTerm) true
        let s : State := { s with tb.holdoverTime := s.tb.holdoverTime + 1 }
        let s : State := { s with tb.errBound := s.tb.errBound + s.secondBound slowAmbient }
        if s.real 0x2100 7 < s.tb.errBound ∧ ¬ s.tb.limitRaised then
          { s with tb.limitRaised := true }.raise 0x0105 noInst []
        else s
      | .freerun =>
        (s.arm .holdoverSec 1000000000).steerTo 1 (if s.tb.model.isLearned then s.predictNow else 0) true
      | _ => s.disarm .holdoverSec)

/-! ## Writes (R97, R104) -/

/-- The write of 0x2102:02 (R97). -/
def objTimeAtPps : ObjWrite where
  invalid := fun _ d => if leValue d % 1000000000 = 0 then none else some 0x08000101
  effect := fun _ d s => { s with tb.todNext := some (leValue d), tb.todUnset := false }

/-- SET_TIME_AT_PPS (R97). -/
def execSetTimeAtPps (w : Session) (d : List Byte) (s : State) : Out := .next (s.writeBy w 0x2102 2 d objTimeAtPps)

/-- The write of 0x2103:0A (R104): the model is cleared in RAM and in MRAM. -/
def objModelReset : ObjWrite where
  effect := fun _ _ s =>
    { s with tb.model := {}, bat.copies := s.bat.copies.map fun c => c.map fun c => { c with model := none },
             bat.writeData := s.bat.writeData.map fun c => { c with model := none } }

/-- MODEL_RESET (R104). -/
def execModelReset (w : Session) (d : List Byte) (s : State) : Out := .next (s.writeBy w 0x2103 0x0A d objModelReset)

end Sys2Proof.Machine
end

