-- ==== Sys2Proof/Machine/Measure.lean ====
section
/-! DEFINITION. Measurement: rotation of the spares, calibration of the modulators, the other converters, the calibration set and user
calibration (R106 to R136). The outputs of the precision channels stand in Outputs.lean with their consumers. -/

namespace Sys2Proof.Machine

/-! ## Channels (R107, R110, R111) -/

/-- Full scale of a channel in force: 1.25 V on the divider range, 62.5 mV on the shunt range (R107). -/
def State.fullScale (s : State) (k : Fin 48) : Rat := if s.raw 0x2201 (k + 1) = 1 then 5 / 4 else 1 / 16

/-- A sensor's temperature; none where 0xFF names none. -/
def State.sensorTemp (s : State) (n : Nat) : Option Rat := (s.thm.sensor[n]?).map Sensor.t

/-- The reference polynomial of R111 at a temperature, from the working copy of the calibration set. -/
def State.rhoAt (s : State) (t : Rat) : Rat :=
  let d := t - 25
  s.real 0x3601 2 * d + s.real 0x3601 3 * d * d + s.real 0x3601 4 * d * d * d

/-- The ball voltage that a raw code gives (R110), with the saturation of R107 at ±1.1 FS. -/
def State.ballVolts (s : State) (k : Fin 48) (code : Int) : Rat :=
  let m := (s.meas.modu[s.meas.ch[k].host]?).getD {}
  let x := clamp (-(11 / 10)) (11 / 10) ((code : Rat) / 1073741824)
  (x - m.off) * m.gain * s.fullScale k * (1 + s.meas.rho)

/-- A code clips (R107). -/
def clips (code : Int) : Bool := 11 * 1073741824 < 10 * code.natAbs

/-- The quantity of a channel from its ball voltage (R110). -/
def State.chanQuantity (s : State) (k : Fin 48) (v : Rat) : Rat :=
  let q := (v - s.real 0x3611 (k + 1)) * s.real 0x3610 (k + 1)
  match s.sensorTemp (s.raw 0x3613 (k + 1)) with
  | some t => q * (1 + s.real 0x3612 (k + 1) * (t - 25))
  | none => q

/-- OVERRANGE_CLEAR (R107): 14 ms without clipping. -/
def execOverrangeClear (k : Fin 48) (s : State) : Out :=
  .next (if s.due (.overrange k) then (s.disarm (.overrange k)).modCh k fun c => { c with overrange := false } else s)

/-- SETTLING_END (R113): 14 ms after a change of range. -/
def execSettlingEnd (k : Fin 48) (s : State) : Out :=
  .next (if s.due (.settling k) then (s.disarm (.settling k)).modCh k fun c => { c with settling := false } else s)

/-- The channels of a pair (R114). -/
def pairOf (p : Fin 2) : Fin 48 × Fin 48 := if p = 0 then (0, 1) else (2, 3)

/-- PAIR_DISAGREE (R114): ten consecutive failed checks. -/
def execPairDisagree (p : Fin 2) (s : State) : Out :=
  let c := pairOf p
  .next (if 10 ≤ s.meas.pairFails[p] ∧ ¬ s.meas.ch[c.1].disagree then
      ((s.modCh c.1 fun x => { x with disagree := true }).modCh c.2 fun x => { x with disagree := true }).raise 0x0208 p []
    else s)

/-- One check of a pair at a 1 kS/s output (R114). -/
def State.pairCheck (p : Fin 2) (s : State) : State :=
  let c := pairOf p
  if ¬ s.ready c.1 ∨ ¬ s.ready c.2 then s
  else
    let a := s.meas.ch[c.1].v1
    let b := s.meas.ch[c.2].v1
    let lim := s.real 0x2200 9 * max (absR a) (absR b) + s.real 0x2200 (if p = 0 then 0x0A else 0x0B)
    if lim < absR (a - b) then { s with meas.pairFails := s.meas.pairFails.set p (satInc 10 s.meas.pairFails[p]) }
    else
      let s : State := { s with meas.pairFails := s.meas.pairFails.set p 0 }
      (s.modCh c.1 fun x => { x with disagree := false }).modCh c.2 fun x => { x with disagree := false }

/-- MEASUREMENT_READY (R120): 45 ms after the timebase release. -/
def execMeasurementReady (s : State) : Out :=
  .next (if s.due .ready then
      let s := s.disarm .ready
      State.each (List.finRange 48) (fun k => fun s =>
        (s.modCh k fun c => { c with notReady := false }).arm (.stale k) 60000000000) s
    else s)

/-- CAL_STALE (R119): 60 s since the channel's last calibration. -/
def execCalStale (k : Fin 48) (s : State) : Out :=
  .next (if s.due (.stale k) then
      ((s.disarm (.stale k)).modCh k fun c => { c with calStale := true }).raise 0x0205 k []
    else s)

/-! ## The rotating spare (R115 to R120) -/

/-- The modulator number of a spare. -/
def spareOf (x : Fin 4) : Fin 52 := ⟨48 + x.val, by omega⟩

/-- The home modulator of a channel. -/
def homeOf (k : Fin 48) : Fin 52 := ⟨k.val, by omega⟩

/-- The effective interval (R119). -/
def State.effInterval (s : State) : Rat :=
  let n := s.meas.pool.length
  let c := s.real 0x2200 1
  if n = 0 then c else max c (((48 + n - 1) / n : Nat) * (162 / 1000))

/-- The spare's place in the pool. -/
def State.poolPlace (s : State) (x : Fin 4) : Option Nat := s.meas.pool.findIdx? fun m => m = spareOf x

/-- A channel may be served in a slot: its home is in service, or is retired and waits for the spare that replaces it for good (R119). -/
def State.mayRotate (s : State) (k : Fin 48) : Bool := ¬ s.meas.modu[homeOf k].retired ∨ s.meas.ch[k].host = k.val

/-- A channel is skipped now (R118). -/
def State.skipped (s : State) (k : Fin 48) : Bool := s.now < s.meas.ch[k].skipUntil

/-- The next channel of a spare (R115, R119): ascending after the last one whose turn was taken, k mod n its place in the pool, past the skipped
ones (R118). -/
def State.nextChannel (s : State) (x : Fin 4) : Option (Fin 48) :=
  match s.poolPlace x with
  | none => none
  | some p =>
    let mine := (List.finRange 48).filter fun k => k.val % s.meas.pool.length = p ∧ s.mayRotate k ∧ ¬ s.skipped k
    (mine.find? fun k => s.meas.slots[x].served.all fun a => a < k) <|> mine.head?

/-- A channel that a spare only lends itself to goes home while rotation is off (R120). -/
def State.goHome (k : Fin 48) (s : State) : State :=
  if ¬ s.flag 0x2200 2 ∧ ¬ s.meas.modu[homeOf k].retired then s.modCh k fun c => { c with host := k.val } else s

/-- The slot ends where it stands: whichever modulator is live keeps the channel, but for R120's return. The channel's turn is taken unless the
slot is to be redone (R118, R120). -/
def State.endSlot (x : Fin 4) (redo : Bool) (s : State) : State :=
  let k := s.meas.slots[x].channel
  ((s.modSlot x fun y => { y with phase := .idle, served := if redo then y.served else some k }).modCh k fun c => { c with inSwap := false }).goHome k

/-- ROTATION_SLOT_START (R115, R116). A channel still served by the spare has its home calibrated first (R118). -/
def execRotationSlotStart (x : Fin 4) (s : State) : Out :=
  let last := s.meas.slots[x].channel
  .next (if ¬ s.up ∨ ¬ s.flag 0x2200 2 ∨ s.meas.slots[x].phase ≠ .idle ∨ s.poolPlace x = none then s
    else if s.meas.ch[last].host = spareOf x then
      (if s.skipped last then s
        else (s.modSlot x fun y => { y with phase := .spareLive }).modCh last fun c => { c with inSwap := true })
    else match s.nextChannel x with
      | none => s
      | some k => s.modSlot x fun y => { y with phase := .calSpare, channel := k })

/-- A spare leaves the pool; with none left rotation stops (R119). -/
def State.leavePool (m : Fin 52) (s : State) : State :=
  if ¬ s.meas.pool.contains m then s
  else
    let s : State := { s with meas.pool := s.meas.pool.filter fun y => y ≠ m }
    if s.meas.pool = [] then s.raise 0x0204 noInst [] else s

/-- Retires a modulator (R119): a spare leaves the pool; a home is replaced for good by the spare that serves its channel. -/
def State.retire (m : Fin 52) (s : State) : State :=
  let s := (s.modModu m fun y => { y with retired := true }).raise 0x0203 m []
  if h : m.val < 48 then
    let host := s.meas.ch[m.val].host
    if h2 : 48 ≤ host ∧ host < 52 then
      let x : Fin 4 := ⟨host - 48, by omega⟩
      ((s.modSlot x fun y => { y with phase := .idle }).modCh ⟨m.val, h⟩ fun c => { c with inSwap := false }).leavePool (spareOf x)
    else s
  else
    let x : Fin 4 := ⟨m.val - 48, by omega⟩
    (s.modSlot x fun y => { y with phase := .idle }).leavePool m

/-- The range-scaled limits of a calibration's results (R117), its readings as fractions of FS. -/
def calOk (fs x0 xp xn : Rat) : Bool :=
  xp ≠ xn ∧ absR (8 / 5 / (xp - xn) - 1) ≤ 1 / 500 ∧ absR (x0 * fs) ≤ 1 / 20000 ∧ absR ((xp + xn) / 2 - x0) ≤ 1 / 100000

/-- What a modulator's calibration serves now: a slot, or the calibration of all at a reset of the block (R116, R120). -/
def State.calServes (s : State) (m : Fin 52) : Option (Fin 4) :=
  (List.finRange 4).find? fun x =>
    (s.meas.slots[x].phase = .calSpare ∧ spareOf x = m) ∨ (s.meas.slots[x].phase = .spareLive ∧ homeOf s.meas.slots[x].channel = m)

/-- The channel whose range a calibration of a modulator uses. -/
def State.calChannel (s : State) (m : Fin 52) : Fin 48 :=
  match s.calServes m with
  | some x => s.meas.slots[x].channel
  | none => if h : m.val < 48 then ⟨m.val, h⟩ else 0

/-- The slot goes on after a calibration: the modulator connects in parallel (R116 steps 2 and 6). IN_SWAP stands from the spare's connection to the
slot's end (DESIGN CHOICE, log entry 90). -/
def State.slotCalibrated (x : Fin 4) (s : State) : State :=
  let k := s.meas.slots[x].channel
  match s.meas.slots[x].phase with
  | .calSpare => (s.modSlot x fun y => { y with phase := .overlapSpare }).modCh k fun c => { c with inSwap := true }
  | .spareLive => s.modSlot x fun y => { y with phase := .overlapHome }
  | _ => s

/-- The channel counts as calibrated now (R119). -/
def State.chCalibrated (k : Fin 48) (s : State) : State :=
  (s.modCh k fun c => { c with calStale := false }).arm (.stale k) 60000000000

/-- MODULATOR_CALIBRATION_DONE (R117): the three phases' means as fractions of FS. The correction d of the shunt-range reference enters neither
g_mod nor the limits, whose formulas do not name it (DEDUCED, log entry 96). -/
def execModulatorCalibrationDone (m : Fin 52) (x0 xp xn : Rat) (s : State) : Out :=
  let slot := s.calServes m
  let start := s.meas.ch[0].notReady
  .next (if slot = none ∧ ¬ start then s
    else
      let k := s.calChannel m
      let s := if calOk (s.fullScale k) x0 xp xn then
          let s := s.modModu m fun y => { y with off := x0, gain := 8 / 5 / (xp - xn), fails := 0 }
          if m.val < 48 then s.chCalibrated k else s
        else
          let s := s.modModu m fun y => { y with fails := satInc 2 y.fails }
          if 2 ≤ s.meas.modu[m].fails ∧ ¬ s.meas.modu[m].retired then s.retire m else s
      match slot with
      | some x => s.slotCalibrated x
      | none => s)

/-- A comparison is not made, and the slot is deferred (R118): BROWN_WARN, the channel's state, or a commit that touches measurement and is being
applied. -/
def State.swapDeferred (s : State) (k : Fin 48) : Bool :=
  s.meas.ch[k].overrange ∨ s.meas.ch[k].settling ∨ s.pins.brownWarn
    ∨ (s.net.commit.st = .applying ∧ (s.net.commit.todo.contains 2 ∨ s.net.commit.applied.contains 2))

/-- A swap is aborted (R118): with a live spare the same channel's home is calibrated again in the next slot; after a second abort in succession
the channel is skipped for one interval. -/
def State.abortSwap (x : Fin 4) (s : State) : State :=
  let k := s.meas.slots[x].channel
  let s := { s with meas.swapAborts := bump s.meas.swapAborts }.raise 0x0202 k [k, 48 + x.val]
  (s.endSlot x false).modCh k fun c =>
    if 1 ≤ c.aborts then { c with aborts := 0, skipUntil := s.now + (s.effInterval * 1000000000).floor.toNat } else { c with aborts := 1 }

/-- SWAP_COMPARISON (R118): the mean difference of the ten pairs as a fraction of FS. -/
def execSwapComparison (x : Fin 4) (mean : Rat) (s : State) : Out :=
  let k := s.meas.slots[x].channel
  let go := fun (p : SlotPhase) =>
    if s.swapDeferred k then s.endSlot x true
    else if absR mean ≤ s.real 0x2200 3 then s.modSlot x fun y => { y with phase := p }
    else s.abortSwap x
  .next (match s.meas.slots[x].phase with
    | .overlapSpare => go .readySpare
    | .overlapHome => go .readyHome
    | _ => s)

/-- SWAP_HANDOVER (R116 steps 4 and 8). A spare that takes over a channel whose home is retired keeps it (R119). -/
def execSwapHandover (x : Fin 4) (s : State) : Out :=
  let k := s.meas.slots[x].channel
  .next (match s.meas.slots[x].phase with
    | .readySpare =>
      let s := (s.modCh k fun c => { c with host := 48 + x.val }).modSlot x fun y => { y with phase := .spareLive }
      let s := s.chCalibrated k
      if s.meas.modu[homeOf k].retired then (s.endSlot x false).leavePool (spareOf x) else s
    | .readyHome =>
      let s := (s.modCh k fun c => { c with host := k.val, aborts := 0 }).endSlot x false
      { s with meas.swaps := bump s.meas.swaps }
    | _ => s)

/-! ## The reference check (R127) -/

/-- REFERENCE_CHECK (R127): the relative difference of VREFC and the bandgap in an odd frame. -/
def execReferenceCheck (diff : Rat) (s : State) : Out :=
  .next { s with meas.refFails := if 1 / 1000 < absR diff then satInc 3 s.meas.refFails else 0 }

/-- REF_FAIL (R127): three consecutive failed checks. It stands until the measurement block is reset (DEDUCED, log entry 29). -/
def execRefFail (s : State) : Out :=
  .next (if 3 ≤ s.meas.refFails ∧ ¬ s.meas.refFail then
      ({ s with meas.refFail := true }.raise 0x0207 noInst []).giveUp 0x0207 causeGiveUp
    else s)

/-! ## Other converters (R123 to R125) -/

/-- A voltage at an IMON ball as its 12-bit code gives it, of 0 V to 1.6 V (R78, R106); the code is the nearest (DEDUCED, log entry 32). -/
def imonVolts (v : Rat) : Rat := clamp 0 4095 ((v * 2560 + 1 / 2).floor : Rat) / 2560

/-- Counts a qualifying pulse's rise (R179): of a participating phase whose loop detects open phases. -/
def State.riseCount (i : Fin 32) (r : Rat) (s : State) : State :=
  match s.loopOfPhase i with
  | none => s
  | some l =>
    if s.flag (0x2410 + l) 0x1F ∧ s.phase[i].st = .participating then
      s.modPhase i fun p => { p with openRun := if r < s.real (0x2410 + l) 0x20 then satInc 3 p.openRun else 0 }
    else s

/-- A conversion of a phase-synchronous SAR serves the phase's request that waits longest; it qualifies when it starts within 20 ns of it. The one at
the trailing edge gives the pulse's rise (R123, R179). -/
def State.serveRequest (i : Fin 32) (s : State) : State :=
  let p := s.phase[i]
  match p.requests with
  | [] => s
  | (trailing, t) :: rest =>
    let now : Option Rat := if s.now ≤ t + 20 then some s.meas.phaseI[i] else none
    let s := s.modPhase i fun p => { p with requests := rest, leading := if trailing then none else now }
    match trailing, p.leading, now with
    | true, some a, some b => s.riseCount i (b - a)
    | _, _, _ => s

/-- IMON_CONVERSION (R123): the voltage at an IMON ball. -/
def execImonConversion (i : Fin 32) (v : Rat) (s : State) : Out :=
  let v := imonVolts v
  let s : State := { s with meas.imonV := s.meas.imonV.set i v,
                            meas.phaseI := s.meas.phaseI.set i ((v - s.real 0x2221 (i + 1)) / s.real 0x2220 (i + 1)) }
  .next (if s.raw 0x2223 (i / 8 + 1) = 1 then s.serveRequest i else s)

/-- A READY measurement is the last READY value of the lanes that a test picks by the bank whose trigger they take next (R138). -/
def State.lanesSee (f : Bank → Bool) (q : Rat) (s : State) : State :=
  { s with lane := s.lane.map fun x =>
      let b := x.pendingBank.getD x.bank
      if b.source = 1 ∧ f b then { x with lastReady := some q } else x }

/-- COULOMB_OUTPUT (R124): the mean shunt voltage of an interval, at 10 kS/s or 1 kS/s. -/
def execCoulombOutput (n : Fin 4) (slow : Bool) (v : Rat) (s : State) : Out :=
  let i := s.real 0x3614 (n + 1) * (v - s.real 0x3615 (n + 1))
  .next (if slow then { s with meas.stI1 := s.meas.stI1.set n i }
    else
      let s : State := { s with meas.stI10 := s.meas.stI10.set n i }
      if s.meas.refFail then s else s.lanesSee (fun b => decide (b.consumer = 4)) (s.meas.stI10.toList.foldl (· + ·) 0))

/-- Adds a value of housekeeping slots 0 to 19 to its 1 ms mean (R125): forty of the 40 kS/s. -/
def State.hkAverage (j : Fin 20) (v : Rat) (s : State) : State :=
  let sum := s.meas.hkSum[j] + v
  if s.meas.hkN[j] < 39 then { s with meas.hkSum := s.meas.hkSum.set j sum, meas.hkN := s.meas.hkN.set j (s.meas.hkN[j] + 1) }
  else { s with meas.hkSum := s.meas.hkSum.set j 0, meas.hkN := s.meas.hkN.set j 0, meas.hkMean := s.meas.hkMean.set j (sum / 40) }

/-- HOUSEKEEPING_CONVERSION (R125): the voltage converted in a slot of the schedule. -/
def execHousekeepingConversion (slot : Fin 25) (v : Rat) (s : State) : Out :=
  .next (if h : slot.val < 16 then
      let b := s.real 0x2230 (slot + 1) * v
      { s with meas.bvs := s.meas.bvs.set slot.val b }.hkAverage ⟨slot.val, by omega⟩ b
    else if h2 : slot.val < 20 then
      { s with meas.hka := s.meas.hka.set (slot.val - 16) v (by omega) }.hkAverage ⟨slot.val, h2⟩ v
    else if slot = 20 then { s with pins.vaux := 16 * v }
    else if slot = 21 then { s with pins.vddio := 4 * v }
    else if slot = 22 then { s with pins.vgd := 16 * v }
    else if slot = 23 then { s with meas.vcoreTap := v }
    else { s with meas.vanaTap := v })

/-! ## The calibration set (R128 to R132) -/

/-- A value of a set: where it is not listed, the factory value. -/
def CalSet.raw (c : CalSet) (idx sub : Nat) : Nat := (c.vals.lookup (objKey idx sub)).getD (objDefault idx sub)

/-- A channel record of the image (R129). -/
def CalSet.chanBytes (c : CalSet) (k : Fin 48) : List Byte :=
  leBytes 4 (c.raw 0x3610 (k + 1)) ++ leBytes 4 (c.raw 0x3611 (k + 1)) ++ leBytes 4 (c.raw 0x3612 (k + 1))
    ++ leBytes 1 (c.raw 0x3613 (k + 1)) ++ leBytes 1 (ofBool (c.calRange.getLsbD k)) ++ leBytes 2 (ofBool (c.userCal.getLsbD k))

/-- The fields of a set from offset 0x0360 on, in the image's order: (index, sub) of each REAL32. -/
def calTail : List (Nat × Nat) :=
  ((List.range 4).flatMap fun n => [(0x3614, n + 1), (0x3615, n + 1)])
    ++ ((List.range 8).flatMap fun n => [(0x3616, 2 * n + 1), (0x3616, 2 * n + 2), (0x3617, 2 * n + 1), (0x3617, 2 * n + 2)])
    ++ ((List.range 8).map fun n => (0x3618, n + 1)) ++ ((List.range 6).map fun n => (0x3619, n + 1))

/-- The image without its CRC (R129). -/
def CalSet.body (c : CalSet) : List Byte :=
  leBytes 4 0x534C4143 ++ leBytes 2 1 ++ leBytes 2 0x0440 ++ leBytes 4 c.serial ++ leBytes 1 c.origin ++ leBytes 3 0
    ++ leBytes 4 c.count ++ leBytes 4 0 ++ leBytes 8 c.time ++ List.replicate 32 0
    ++ leBytes 4 (c.raw 0x3601 1) ++ leBytes 4 (c.raw 0x3601 2) ++ leBytes 4 (c.raw 0x3601 3) ++ leBytes 4 (c.raw 0x3601 4)
    ++ leBytes 4 (c.raw 0x3601 5) ++ List.replicate 12 0 ++ (List.finRange 48).flatMap c.chanBytes
    ++ (calTail.flatMap fun x => leBytes 4 (c.raw x.1 x.2)) ++ leBytes 4 0

/-- The 1088-byte image of a set (R129). -/
def CalSet.image (c : CalSet) : List Byte := c.body ++ leBytes 4 (crc32 c.body)

/-- The value of `n` bytes of an image at an offset. -/
def imageAt (d : List Byte) (off n : Nat) : Nat := leValue ((d.drop off).take n)

/-- The image is good but for its serial number (R129, R132). -/
def calImageOk (d : List Byte) : Bool :=
  d.length = 1088 ∧ imageAt d 0 4 = 0x534C4143 ∧ imageAt d 4 2 = 1 ∧ imageAt d 6 2 = 0x0440
    ∧ imageAt d 0x43C 4 = crc32 (d.take 0x43C)

/-- Every object of the set with the offset and size of its value in the image. -/
def calFields : List (Nat × Nat × Nat × Nat) :=
  ((List.range 5).map fun j => (0x3601, j + 1, 0x40 + 4 * j, 4))
    ++ ((List.range 48).flatMap fun k =>
      [(0x3610, k + 1, 0x60 + 16 * k, 4), (0x3611, k + 1, 0x64 + 16 * k, 4), (0x3612, k + 1, 0x68 + 16 * k, 4),
       (0x3613, k + 1, 0x6C + 16 * k, 1)])
    ++ (calTail.zipIdx.map fun x => (x.1.1, x.1.2, 0x360 + 4 * x.2, 4))

/-- The set that an image holds. -/
def CalSet.ofImage (d : List Byte) : CalSet :=
  { serial := imageAt d 8 4, origin := imageAt d 0x0C 1, count := imageAt d 0x10 4, time := imageAt d 0x18 8,
    vals := calFields.foldl (fun l x =>
      let v := imageAt d x.2.2.1 x.2.2.2
      if v = objDefault x.1 x.2.1 then l else putKey (objKey x.1 x.2.1) v l) [],
    userCal := maskOf 48 fun k => bit (imageAt d (0x6E + 16 * k) 2) 0,
    calRange := maskOf 48 fun k => imageAt d (0x6D + 16 * k) 1 = 1 }

/-- The half of the partition that holds the current set: of two valid ones the higher write count (R131). -/
def Measure.calHalfNow (m : Measure) : Option (Fin 2) :=
  match m.calHalf[0], m.calHalf[1] with
  | some a, some b => some (if a.count < b.count then 1 else 0)
  | some _, none => some 0
  | none, some _ => some 1
  | none, none => none

/-- The set in MRAM. -/
def Measure.calStored (m : Measure) : Option CalSet := m.calHalfNow.bind fun h => m.calHalf[h]

/-- The working copy as it stands against the set in MRAM (R135). -/
def State.calCheck (s : State) : State := { s with meas.calDiffers := decide (s.meas.calStored ≠ some s.meas.calWork) }

/-- RANGE_MISMATCH of every channel (R129). -/
def State.rangeMismatches (s : State) : State :=
  State.each (List.finRange 48) (fun k => State.modCh k fun c =>
    { c with rangeMismatch := decide (s.raw 0x2201 (k + 1) = 1) != s.meas.calWork.calRange.getLsbD k }) s

/-- Starts the write of the working copy (R130): origin, write count, time of day. -/
def State.calWriteStart (origin : Nat) (s : State) : State :=
  let c := { s.meas.calWork with origin := origin, count := s.meas.calWork.count + 1, time := s.tb.tod, serial := s.upd.serial }
  ({ s with meas.calWork := c, meas.calWriting := some c } : State).calCheck.arm .calWrite 1500000

/-- A calibration write may not start now (R130). -/
def State.calBusy (s : State) : Option Nat :=
  refuseIf (s.pins.brownWarn ∨ s.net.commit.st = .applying ∨ s.meas.calWriting.isSome)

/-- The write of 0x3600:03 (R130). -/
def objWriteCal : ObjWrite where
  busy := fun s _ => s.calBusy
  effect := fun _ _ s => s.calWriteStart 2

/-- WRITE_CALIBRATION_SET (R130). -/
def execWriteCalibrationSet (w : Session) (d : List Byte) (s : State) : Out := .next (s.writeBy w 0x3600 3 d objWriteCal)

/-- CAL_SET_WRITTEN (R130): read back, the previous half wiped. -/
def execCalSetWritten (s : State) : Out :=
  .next (match s.meas.calWriting with
    | none => s
    | some c =>
      let h : Fin 2 := if s.meas.calHalfNow = some 0 then 1 else 0
      let s := { s with meas.calHalf := (Vector.replicate 2 none).set h (some c), meas.calWriting := none }.disarm .calWrite
      s.calCheck.raise 0x020A noInst [c.origin, c.count])

/-- CAL_SET_EXPORT (R132): the Engineer role reads the image of the set in MRAM. -/
def execCalSetExport (w : Session) (s : State) : Out :=
  .next (s.access w 0x3600 fun s =>
    if ¬ roleAllows (s.roleOf w) .engineer then s.answer w (.abort 0x08000102)
    else match s.meas.calStored with
      | some c => s.answer w (.data c.image)
      | none => s.answer w (.abort 0x08000022))

/-- The write of 0x3600:01 (R132): only the Vendor role imports an image of another serial number. -/
def objCalImport (role : Role) : ObjWrite where
  busy := fun s _ => s.calBusy
  badLength := fun d => d.length ≠ 1088
  invalid := fun s d => if calImageOk d ∧ (imageAt d 8 4 = s.upd.serial ∨ role = .vendor) then none else some 0x08000020
  effect := fun _ d s =>
    let c := { CalSet.ofImage d with count := s.meas.calWork.count }
    ({ s with meas.calWork := c }.calWriteStart 3).rangeMismatches

/-- CAL_SET_IMPORT (R132). -/
def execCalSetImport (w : Session) (d : List Byte) (s : State) : Out :=
  .next (s.writeBy w 0x3600 1 d (objCalImport (s.roleOf w)))

/-! ## User calibration (R133, R135) -/

/-- The channel being captured. -/
def State.capCh (s : State) : Nat := s.raw 0x3620 1

/-- Starts a capture (R133). -/
def State.captureStart (b : Bool) (s : State) : State :=
  let q := s.real 0x3620 2
  let c := { s.meas.cap with state := .capturing b, sum := 0, n := 0 }
  let c := if b then { c with qB := q, heldB := false, overB := false } else { c with qA := q, heldA := false, overA := false }
  { s with meas.cap := c }.arm .capture (s.ns 0x3620 4)

/-- Takes a 1 kS/s ball voltage into the capture in progress (R133). -/
def State.captureSample (k : Fin 48) (v : Rat) (s : State) : State :=
  let o := s.meas.ch[k].overrange
  match s.meas.cap.state with
  | .capturing b =>
    if s.capCh ≠ k.val then s
    else
      let c := { s.meas.cap with sum := s.meas.cap.sum + v, n := s.meas.cap.n + 1 }
      { s with meas.cap := if b then { c with overB := c.overB ∨ o } else { c with overA := c.overA ∨ o } }
  | _ => s

/-- CAPTURE_DONE (R133): the capture time has passed; the mean is held. -/
def execCaptureDone (s : State) : Out :=
  .next (match s.meas.cap.state, s.due .capture with
    | .capturing b, true =>
      let v := if s.meas.cap.n = 0 then 0 else s.meas.cap.sum / (s.meas.cap.n : Nat)
      let c := if b then { s.meas.cap with vB := v, heldB := true } else { s.meas.cap with vA := v, heldA := true }
      { s.disarm .capture with
        meas.cap := { c with state := if c.heldA ∧ c.heldB then .abHeld else if c.heldA then .aHeld else .idle } }
    | _, _ => s)

/-- Puts a pending change into the shadow for a session, which claims it (R343). -/
def State.shadowPut (w : Option Session) (idx sub v : Nat) (s : State) : State :=
  { s with net.shadow := putKey (objKey idx sub) v s.net.shadow, net.claim := s.net.claim <|> w }

/-- Computes gain and offset and puts them into the shadow, or fails (R133). -/
def State.captureCompute (w : Option Session) (s : State) : State :=
  let c := s.meas.cap
  let fs := if s.raw 0x2201 (s.capCh + 1) = 1 then (5 / 4 : Rat) else 1 / 16
  if absR (c.vA - c.vB) < fs / 10 ∨ c.overA ∨ c.overB then { s with meas.cap := { c with state := .failed } }
  else
    let g := (c.qA - c.qB) / (c.vA - c.vB)
    let o := c.vA - c.qA / g
    let s : State := { s with meas.cap := { c with state := .computed, gain := g, off := o } }
    (s.shadowPut w 0x3610 (s.capCh + 1) (toReal32 g)).shadowPut w 0x3611 (s.capCh + 1) (toReal32 o)

/-- The write of 0x3620:03 (R133, R135): compute needs both points, and the shadow free or the session's own (R343). -/
def objCapture (w : Option Session) : ObjWrite where
  busy := fun s d =>
    if leValue d ≠ 3 then none
    else if s.net.claim.isSome ∧ s.net.claim ≠ w then some 0x08000103
    else refuseIf (¬ s.meas.cap.heldA ∨ ¬ s.meas.cap.heldB)
  effect := fun w d s =>
    match leValue d with
    | 0 => { s.disarm .capture with meas.cap := { s.meas.cap with state := .idle, heldA := false, heldB := false } }
    | 1 => s.captureStart false
    | 2 => s.captureStart true
    | _ => s.captureCompute w

/-- CAPTURE_A (R133). -/
def execCaptureA (w : Session) (s : State) : Out := .next (s.writeBy w 0x3620 3 [1] (objCapture (some w)))

/-- CAPTURE_B (R133). -/
def execCaptureB (w : Session) (s : State) : Out := .next (s.writeBy w 0x3620 3 [2] (objCapture (some w)))

/-- CAPTURE_COMPUTE (R133). -/
def execCaptureCompute (w : Session) (s : State) : Out := .next (s.writeBy w 0x3620 3 [3] (objCapture (some w)))

/-- CAPTURE_ABORT (R135). -/
def execCaptureAbort (w : Session) (s : State) : Out := .next (s.writeBy w 0x3620 3 [0] (objCapture (some w)))

end Sys2Proof.Machine
end

