-- ==== Sys2Proof/Machine/LaneOps.lean ====
section
/-! DEFINITION. The arithmetic of the compensator lanes (R138 to R146, R151, R152): words, conversion of a bank, one sample, and the
mirror record. -/

namespace Sys2Proof.Machine

/-! ## Words (R140 to R145) -/

/-- A mantissa fits 24 bits. -/
def fit24 (m : Int) : Bool := -8388608 ≤ m ∧ m ≤ 8388607

/-- A coefficient mantissa fits 18 bits. -/
def fit18 (m : Int) : Bool := -131072 ≤ m ∧ m ≤ 131071

/-- Rounds to a mantissa at an exponent: ⌊v × 2^(23 − e) + ½⌋ (R143). -/
def roundAt (e : Int) (v : Rat) : Int := (v * pow2 (23 - e) + 1 / 2).floor

/-- Rounds to a coefficient mantissa at an exponent (R141). -/
def coefAt (f : Int) (v : Rat) : Int := (v * pow2 (17 - f) + 1 / 2).floor

/-- The exponents −32 to +31, ascending. -/
def exponents : List Int := (List.range 64).map fun k : Nat => (k : Int) - 32

/-- The smallest exponent at which every value fits, and whether none does (R144, R145). -/
def renorm (ws : List Rat) : Int × Bool :=
  match exponents.find? fun e => ws.all fun v => fit24 (roundAt e v) with
  | some e => (e, false)
  | none => (31, true)

/-- A mantissa at an exponent, saturated where it does not fit (R145). -/
def satAt (e : Int) (v : Rat) : Int :=
  let m := roundAt e v
  if m < -8388608 then -8388608 else if 8388607 < m then 8388607 else m

/-- A one-word stage's word and whether it saturated (R144, R145). -/
def sigWord (v : Rat) : SigWord × Bool :=
  let r := renorm [v]
  ({ m := satAt r.1 v, e := r.1 }, r.2)

/-- A word's value at a stage's exponent. -/
def wordAt (e m : Int) : Rat := sigRat { m := m, e := e }

/-- The sum of R143: a term whose top bit lies more than 92 bits below the largest term's is dropped. -/
def sumTerms (ts : List Rat) : Rat :=
  let ts := ts.filter fun t => t ≠ 0
  let top := ts.foldl (fun m t => max m (ilog2 (absR t))) (-400)
  (ts.filter fun t => top - 92 ≤ ilog2 (absR t)).foldl (· + ·) 0

/-! ## Conversion of a bank (R141, R142, R152, R153) -/

/-- The stage type of a code. -/
def stageType (v : Nat) : StageType := match v with | 0 => .biquad | 1 => .integrator | 2 => .leadLag | _ => .limiter

/-- Coefficient mantissas at the smallest exponent that fits them all; all zero takes exponent 0; none where none fits (R141). -/
def convCoefs (vs : List Rat) : Option (Int × List Int) :=
  if vs.all fun v => v = 0 then some (0, vs.map fun _ => 0)
  else (exponents.find? fun f => vs.all fun v => fit18 (coefAt f v)).map fun f => (f, vs.map (coefAt f))

/-- The REAL32 value of an object in a view; none where it is not finite. -/
def Cfg.real? (c : Cfg) (idx sub : Nat) : Option Rat := real32 (c idx sub)

/-- Stage `k` (0 to 5) of lane `n` in a view, converted; none where R141 or R142 refuse it. -/
def Cfg.stage (c : Cfg) (n k : Nat) : Option Stage :=
  let t := stageType (c (0x2320 + n) (k + 1))
  let co := fun j => c.real? (0x2330 + n) (8 * k + 1 + j)
  let hold := bit (c (0x2320 + n) 7) k
  match t with
  | .biquad => do
    let r ← convCoefs [← co 0, ← co 1, ← co 2, ← co 3, ← co 4]
    pure { type := t, coef := r.2, f := r.1, hold := hold }
  | .integrator => do
    let r ← convCoefs [← co 0]
    pure { type := t, coef := r.2, f := r.1, hold := true }
  | .leadLag => do
    let r ← convCoefs [← co 0, ← co 1, ← co 3]
    pure { type := t, coef := r.2, f := r.1, hold := hold }
  | .limiter => do
    let lo ← co 0
    let hi ← co 1
    let rate ← co 2
    let e := renorm [lo, hi]
    let r := renorm [rate]
    let lw : SigWord := { m := roundAt e.1 lo, e := e.1 }
    let hw : SigWord := { m := roundAt e.1 hi, e := e.1 }
    if e.2 ∨ r.2 ∨ hw.m < lw.m then none
    else pure { type := t, lo := lw, hi := hw, rate := { m := roundAt r.1 rate, e := r.1 }, hold := false }

/-- The stages of lane `n` in a view. -/
def Cfg.stages (c : Cfg) (n : Nat) : Option (List Stage) := (List.range (c (0x2310 + n) 2)).mapM (c.stage n)

/-- The bank of lane `n` in a view, with the conversion of its stages (R153). -/
def Cfg.bank (c : Cfg) (n : Nat) : Option Bank := do
  let st ← c.stages n
  let t := if n = 11 then c (0x2310 + n) 0x0A else 0xFF
  pure { enable := c.flag (0x2310 + n) 1, stages := st, source := c (0x2310 + n) 5, selector := c (0x2310 + n) 6,
         gain := c.real (0x2310 + n) 7, trigger := c (0x2310 + n) 3, period := c (0x2310 + n) 4, consumer := c (0x2310 + n) 8,
         resetStates := c.flag (0x2310 + n) 9, tracked := if h : t < 12 then some ⟨t, h⟩ else none }

/-- Words that a stage carries (R152). -/
def Stage.words (g : Stage) : Nat := match g.type with | .biquad => 2 | .integrator => 1 | .leadLag => 1 | .limiter => 0

/-- Words of the marked stages of a bank (R152). -/
def Bank.holdWords (b : Bank) : Nat := ((b.stages.filter Stage.hold).map Stage.words).foldl (· + ·) 0

/-- The output limiter of a bank: its last stage. -/
def Bank.output (b : Bank) : Stage := (b.stages.getLast?).getD {}

/-! ## Evaluation of a stage (R139, R151) -/

/-- Which clamps of a limiter acted. -/
structure Clamps where
  rate : Bool := false
  lo : Bool := false
  hi : Bool := false
  deriving DecidableEq, Repr

/-- Some clamp acted. -/
def Clamps.any (c : Clamps) : Bool := c.rate ∨ c.lo ∨ c.hi

/-- A coefficient's value. -/
def Stage.k (g : Stage) (j : Nat) : Rat := ((g.coef[j]?).getD 0 : Int) * pow2 (g.f - 17)

/-- The limiter (R151): the rate limit first, then the level limits; `hi` is the upper limit in force. -/
def limiter (g : Stage) (hi : SigWord) (yPrev x : Rat) : Rat × Clamps :=
  let r := sigRat g.rate
  let y := if 0 < r then clamp (yPrev - r) (yPrev + r) x else x
  let lo := sigRat g.lo
  let up := sigRat hi
  if y < lo then (lo, { rate := y ≠ x, lo := true })
  else if up < y then (up, { rate := y ≠ x, hi := true })
  else (y, { rate := y ≠ x })

/-- What one stage computes: output and state words, exact. -/
structure StageOut where
  y : Rat
  w1 : Rat
  w2 : Rat
  cl : Clamps := {}

/-- One stage's output and new state words (R139), each an exact sum; the states use the exact output (DEDUCED, log entry 30). -/
def Stage.eval (g : Stage) (x : Rat) (st : StageState) (hi : Option SigWord) : StageOut :=
  let s1 := wordAt st.e st.w1
  let s2 := wordAt st.e st.w2
  match g.type with
  | .biquad =>
    let y := sumTerms [g.k 0 * x, s1]
    ⟨y, sumTerms [g.k 1 * x, -(g.k 3 * y), s2], sumTerms [g.k 2 * x, -(g.k 4 * y)], {}⟩
  | .integrator =>
    let y := sumTerms [s1, g.k 0 * x]
    ⟨y, y, 0, {}⟩
  | .leadLag =>
    let y := sumTerms [g.k 0 * x, s1]
    ⟨y, sumTerms [g.k 1 * x, -(g.k 2 * y)], 0, {}⟩
  | .limiter =>
    let r := limiter g (hi.getD g.hi) s1 x
    ⟨r.1, r.1, 0, r.2⟩

/-- The stored words of a stage after renormalisation, with its output word and saturation (R144, R145, R147). -/
def Stage.store (hold : Bool) (st : StageState) (o : StageOut) : StageState × SigWord × Bool :=
  let w1 := if hold then wordAt st.e st.w1 else o.w1
  let w2 := if hold then wordAt st.e st.w2 else o.w2
  let r := renorm [o.y, w1, w2]
  let y := satAt r.1 o.y
  ({ w1 := satAt r.1 w1, w2 := satAt r.1 w2, y := y, e := r.1 }, { m := y, e := r.1 }, r.2)

/-- The chain of stages (R147): new states, output word, the output limiter's clamps, saturation. `hi` is the output limiter's upper
limit in force where it is not the configured one. -/
def chain (hold : Bool) (hi : Option SigWord) : List Stage → List StageState → SigWord → List StageState × SigWord × Clamps × Bool
  | [], _, x => ([], x, {}, false)
  | g :: gs, sts, x =>
    let st := sts.headD {}
    let o := g.eval (sigRat x) st (if gs.isEmpty then hi else none)
    let r := Stage.store (hold ∧ g.hold) st o
    let t := chain hold hi gs sts.tail r.2.1
    (r.1 :: t.1, t.2.1, if gs.isEmpty then o.cl else t.2.2.1, r.2.2 ∨ t.2.2.2)

/-! ## Swap of a bank (R154) -/

/-- The states after a swap: a position whose type is unchanged keeps its words, the others start at zero. -/
def swapStates : List Stage → List StageState → List Stage → List StageState
  | _, _, [] => []
  | old, st, g :: gs =>
    (if (old.head?.map Stage.type) = some g.type then st.headD {} else {}) :: swapStates old.tail st.tail gs

/-- The states of a bank with the output limiter's own state put in its place (R154). -/
def outputState (g : Bank) (y : StageState) (l : List StageState) : List StageState :=
  if g.output.type = .limiter then l.dropLast ++ [y] else l

/-- Takes the pending bank (R153, R154). LIMITED and y_prev stay with an output limiter that keeps its position, also where the reset-on-commit
flag zeroes the other stages (DEDUCED, log entry 84). -/
def Lane.swap (x : Lane) : Lane :=
  match x.pendingBank with
  | none => x
  | some b =>
    let same := x.bank.stages.length = b.stages.length ∧ x.bank.output.type = .limiter ∧ b.output.type = .limiter
    let st := if b.resetStates then b.stages.map fun _ => {} else swapStates x.bank.stages x.states b.stages
    { x with bank := b, pendingBank := none, limited := x.limited ∧ same, limLo := x.limLo ∧ same, limHi := x.limHi ∧ same,
             limRate := x.limRate ∧ same,
             states := outputState b (if same then (x.states.getLast?).getD {} else {}) st }

/-! ## Mirror records (R155) -/

/-- The words of a marked stage. -/
def markedWords (g : Stage) (st : StageState) : List SigWord :=
  if ¬ g.hold then []
  else match g.type with
    | .biquad => [{ m := st.w1, e := st.e }, { m := st.w2, e := st.e }]
    | .limiter => []
    | _ => [{ m := st.w1, e := st.e }]

/-- The mirror record of a lane. -/
def Lane.record (x : Lane) : LaneRecord :=
  let last := (x.states.getLast?).getD {}
  { words := ((x.bank.stages.zip x.states).flatMap fun p => markedWords p.1 p.2).take 3,
    yPrev := if x.bank.output.type = .limiter then { m := last.w1, e := last.e } else { m := 0, e := 0 },
    limited := x.limited, fault := x.fault }

/-- Two words at the larger of their exponents (R155). -/
def atLarger (a b : SigWord) : StageState :=
  let e := max a.e b.e
  { w1 := satAt e (sigRat a), w2 := satAt e (sigRat b), e := e }

/-- Installs words into the marked stages in chain order. -/
def installWords : List Stage → List StageState → List SigWord → List StageState
  | [], _, _ => []
  | g :: gs, sts, ws =>
    let st := sts.headD {}
    if ¬ g.hold then st :: installWords gs sts.tail ws
    else match g.type with
      | .biquad => { atLarger (ws.headD {}) (ws.tail.headD {}) with y := st.y } :: installWords gs sts.tail (ws.drop 2)
      | .limiter => st :: installWords gs sts.tail ws
      | _ => { st with w1 := (ws.headD {}).m, e := (ws.headD {}).e } :: installWords gs sts.tail ws.tail

/-- Replaces y_prev of a bank's output limiter; a bank without one has none. -/
def setYPrev (y : SigWord) (g : Bank) (l : List StageState) : List StageState := outputState g { w1 := y.m, y := y.m, e := y.e } l

/-- The word installed for a received word `a`, where the standby's own word was `w` in its snapshot and is `c` now (R389). -/
def mergeWord (a c w : SigWord) : SigWord :=
  let e := max a.e (max c.e w.e)
  { m := satAt e (sigRat a + (sigRat c - sigRat w)), e := e }

/-- Merges the words of a record one by one. -/
def mergeWords : List SigWord → List SigWord → List SigWord → List SigWord
  | a :: as, c :: cs, w :: ws => mergeWord a c w :: mergeWords as cs ws
  | l, _, _ => l

/-- A mirror record brought up to the present by the samples completed since the snapshot (R389). -/
def Lane.merged (x snap : Lane) (r : LaneRecord) : LaneRecord :=
  if ¬ x.fresh then r
  else
    let c := x.record
    let w := snap.record
    { r with words := mergeWords r.words c.words w.words, yPrev := mergeWord r.yPrev c.yPrev w.yPrev, limited := x.limited }

/-- Alignment to a mirror record (R155, R389). -/
def Lane.install (r : LaneRecord) (x : Lane) : Lane :=
  { x with states := setYPrev r.yPrev x.bank (installWords x.bank.stages x.states r.words), limited := r.limited, align := none }

/-- The marked-stage layout of a bank (R156). -/
def Bank.layout (b : Bank) : List StageType := (b.stages.filter Stage.hold).map Stage.type

end Sys2Proof.Machine
end

