-- ==== Sys2Proof/Machine/Lanes.lean ====
section
/-! DEFINITION. The lanes' commands: triggers, completions, misses, faults and the transfer of a consumer (R147 to R159), with the
inputs of the shelf-loop lanes (R188, R190, R199). -/

namespace Sys2Proof.Machine

/-! ## Who drives a consumer (R156) -/



/-- The output in force of lane `n`'s consumer. -/
def State.laneOut (s : State) (n : Fin 12) : SigWord := s.lane[s.driverOf n].out

/-- The lane whose consumer lane `n` drives; none while its output is released: LN11 while it tracks (R155). -/
def State.consumerLane (s : State) (n : Fin 12) : Option (Fin 12) :=
  if n = 11 then (match s.lane[11].drives with | some m => some m | none => if s.lane[11].tracking then none else some 11)
  else if s.driverOf n = n then some n else none

/-! ## References and measurements of the shelf loop (R188, R199) -/

/-- The cap in force (R199); the thermal cap where one is set. -/
def State.capInForce (s : State) : Rat :=
  let site := if s.raw 0x2E02 3 = 1 then s.casc.alloc else s.real 0x2E02 2
  match s.thermalCap with
  | some t => min site t
  | none => site

/-- A rectifier's power and capacity count: commanded or fallback (R192, R199). -/
def recCounts (r : Rectifier) : Bool := r.st = .commanded ∨ r.st = .fallback

/-- P_in (R199). -/
def State.inputPower (s : State) : Rat := (s.shelf.rects.toList.filter recCounts).foldl (fun a r => a + r.pin) 0

/-- The bus reference in force with the LN10 trim (R188). -/
def State.busRef (s : State) : Rat := s.shelf.ref + s.shelf.trim

/-- The net string current at 10 kS/s (R188). -/
def State.netString (s : State) : Rat := s.meas.stI10.toList.foldl (· + ·) 0

/-- Reference minus measurement of a bank, with the measurement's READY (R138, R188). A lane with no shelf-loop consumer has no reference
object: its reference is 0 (DESIGN CHOICE, log entry 31). -/
def State.laneError (s : State) (b : Bank) : Rat × Rat × Bool :=
  match b.consumer with
  | 2 => (s.busRef, s.vBus, s.ready s.busCh)
  | 3 => (s.capInForce, s.inputPower, true)
  | 4 => (s.real 0x2E00 0x0D, s.netString, ¬ s.meas.refFail)
  | _ => (0, s.v200 b.selector, s.ready b.selector)

/-- Capping is disabled and the lane is the cap lane: its input word is 0 (R199). -/
def State.capIdle (s : State) (b : Bank) : Bool := b.consumer = 3 ∧ ¬ s.flag 0x2E02 1

/-- The latest window code of a loop. -/
def State.windowCode (s : State) (l : Nat) : Int := ((s.meas.win[l]?).bind fun w => w.codes.head?).getD 0

/-- The input word of a lane at its trigger (R138), its saturation, INPUT_STALE and the last READY value. -/
def State.laneInput (s : State) (n : Fin 12) : (SigWord × Bool) × Bool × Option Rat :=
  let x := s.lane[n]
  let b := x.bank
  if b.source = 2 then
    match b.tracked with
    | some m => ((s.lane[m].x0, false), false, x.lastReady)
    | none => (({}, false), false, x.lastReady)
  else if b.source = 0 then (sigWord (b.gain * (-(s.windowCode b.selector : Rat))), false, x.lastReady)
  else if s.capIdle b then (({}, false), false, x.lastReady)
  else
    let r := s.laneError b
    if r.2.2 then (sigWord (b.gain * (r.1 - r.2.1)), false, some r.2.1)
    else match x.lastReady with
      | some u => (sigWord (b.gain * (r.1 - u)), true, some u)
      | none => (({}, false), true, none)

/-! ## Dynamic upper limits (R174, R190) -/

/-- The lesser of two words of one limiter, the first rounded at the second's exponent. -/
def capWord (v : Rat) (hi : SigWord) : SigWord :=
  let m := satAt hi.e v
  if m < hi.m then { hi with m := m } else hi

/-- The greater of a word and the limiter's lo. -/
def floorWord (lo w : SigWord) : SigWord := if sigRat w < sigRat lo then { m := satAt w.e (sigRat lo), e := w.e } else w

/-- C as the demand assembly takes it: U while capping is disabled or overridden (R193, R199, R200). -/
def State.ceilingC (s : State) : Rat :=
  if ¬ s.flag 0x2E02 1 ∨ s.shelf.capOverride then s.shelf.u
  else if s.shelf.capHeld then s.shelf.heldC else sigRat (s.laneOut 9)

/-- The upper limit in force of a lane's output limiter (R174, R190); none where it is the configured one. -/
def State.laneHi (s : State) (n : Fin 12) : Option SigWord :=
  let b := s.lane[n].bank
  let g := b.output
  let role := ((s.consumerLane n).map fun m => s.lane[m].bank.consumer).getD b.consumer
  let sel := ((s.consumerLane n).map fun m => s.lane[m].bank.selector).getD b.selector
  match role with
  | 1 =>
    match (s.loop[sel]?).bind Loop.ceiling with
    | some c => some (floorWord g.lo (capWord (sigRat c) g.hi))
    | none => none
  | 2 => some (floorWord g.lo (capWord (min s.shelf.c s.shelf.u - s.shelf.ff) g.hi))
  | 3 => some (capWord s.shelf.u g.hi)
  | _ => none

/-! ## Misses (R149) -/

/-- The unit of a lane (R27, R33). -/
def laneUnit (n : Fin 12) : Fin 20 := ⟨8 + n.val, by omega⟩

/-- A sample missed its deadline (R149): its period has slack 0 (R27). -/
def State.laneMiss (n : Fin 12) (s : State) : State :=
  let s := (s.disarm (.laneDeadline n)).modLane n fun x =>
    { x with sample := none, miss := true, misses := bump x.misses, consecutive := satInc 255 x.consecutive, slackMin := some 0 }
  (s.raiseLimited 0x0301 n []).reportSlack (laneUnit n) 0

/-! ## Triggers (R147, R148, R153, R156) -/

/-- Set-up time of a consumer in ns (R148). -/
def setupTime (consumer : Nat) : Nat :=
  match consumer with
  | 1 => 30
  | 2 | 3 => 4000
  | 4 => 50
  | _ => 100

/-- The sample period of a bank in ns (R148); of a loop lane without its rotation part (R163 adds it). -/
def State.samplePeriod (s : State) (b : Bank) : Nat :=
  match b.trigger with
  | 0 => 5 * b.period
  | 1 => match s.loop[b.selector]? with
    | some l => 5 * b.period * l.period / 256
    | none => 0
  | 2 => 25000
  | 3 => 100000
  | 4 => 1000000
  | _ => 0

/-- Participating phases of a loop (R161). -/
def State.partPhases (s : State) (l : Fin 8) : List (Fin 32) :=
  (List.finRange 32).filter fun i => s.inMask l i ∧ phaseOn s.phase[i].st

/-- The extra part of a loop lane's interval with rotation: P / n, with n as last recompacted (R163, R164). -/
def State.rotationPart (s : State) (b : Bank) : Nat :=
  if h : b.trigger = 1 ∧ b.selector < 8 then
    let l : Fin 8 := ⟨b.selector, h.2⟩
    let n := s.loop[l].slots.length
    if s.flag (0x2410 + l) 7 ∧ 2 ≤ n then 5 * s.loop[l].period / 256 / n else 0
  else 0

/-- The slot whose edge triggers sample `k` of a loop's lane with multiple `m` and `n` slots (R163). -/
def triggerSlot (rotation : Bool) (m n k : Nat) : Nat := if rotation ∧ 2 ≤ n then k * (m * n + 1) % n else 0

/-- Edge of slot `j` of a loop's period in progress, in 19.53 ps steps. -/
def Loop.slotEdge (x : Loop) (j : Nat) : Option Nat := (x.slots[j]?).map fun o => x.boundAt + o

/-- The edge of the slot that triggers a loop's next sample, where it falls in this timebase cycle and the multiple of the period has passed since the
last sample (R163). -/
def State.triggerEdge (s : State) (l : Fin 8) (m : Nat) : Option Nat :=
  let x := s.loop[l]
  (x.slotEdge (triggerSlot (s.flag (0x2410 + l) 7) m x.slots.length x.sampleK)).filter fun e =>
    decide (e / 256 = s.now / 5) && x.trigAt.all fun t => decide (t + m * x.period ≤ e + x.period / 4)

/-- A trigger of kind 1 falls now: at its slot edge of a loop that runs (R148, R163). -/
def State.slotTrigger (s : State) (b : Bank) : Bool :=
  if h : b.selector < 8 then s.loop[b.selector].running ∧ (s.triggerEdge ⟨b.selector, h⟩ b.period).isSome else false

/-- The sample period of a lane now; a tracking lane has its tracked lane's. -/
def State.lanePeriod (s : State) (n : Fin 12) : Nat :=
  let b := s.lane[n].bank
  match b.trigger, b.tracked with
  | 5, some m => s.samplePeriod s.lane[m].bank + s.rotationPart s.lane[m].bank
  | _, _ => s.samplePeriod b + s.rotationPart b

/-- Hands the consumer of lane `a` over to lane `b` at the trigger (R156). -/
def State.transferLane (a b : Fin 12) (s : State) : State :=
  let x := s.lane[a]
  let same := x.bank.layout = s.lane[b].bank.layout
  let s := s.modLane b fun y =>
    { y with tracking := false, out := x.out,
             states := setYPrev x.out y.bank (if same then installWords y.bank.stages y.states x.record.words else y.states),
             drives := if b = 11 then some a else none }
  let s := s.modLane a fun y => { y with tracking := true, tracked := 0, transferTo := none, drives := none }
  s.raise 0x0309 a [a, b]

/-- The consumer that a lane's output is due at: of the lane whose consumer it drives, or its own (R148, R156). -/
def State.dueConsumer (s : State) (n : Fin 12) : Nat := s.lane[(s.consumerLane n).getD n].bank.consumer

/-- Sum of the currents most recently reported by commanded and fallback rectifiers. -/
def State.reportedCurrent (s : State) : Rat := (s.shelf.rects.toList.filter recCounts).foldl (fun a r => a + r.current) 0

/-- Presets a lane's stage-1 word (R191). -/
def Lane.preset (v : Rat) (x : Lane) : Lane :=
  let w := (sigWord v).1
  { x with states := match x.states with
      | [] => []
      | a :: r => { a with w1 := w.m, w2 := 0, y := 0, e := w.e } :: r }

/-- The presets of LN08 and LN09 at their first sample after a start of the shelf loop (R191). -/
def State.takePreset (n : Fin 12) (s : State) : State :=
  if n = 8 ∧ s.shelf.presets.getLsbD 0 then
    { s.modLane 8 (Lane.preset (s.reportedCurrent - s.shelf.ff)) with shelf.presets := s.shelf.presets &&& 2 }
  else if n = 9 ∧ s.shelf.presets.getLsbD 1 then
    { s.modLane 9 (fun x => x.preset (sigRat x.bank.output.hi)) with shelf.presets := s.shelf.presets &&& 1 }
  else s

/-- The sample that a lane computes now: its input through the chain, with the limit in force (R147). -/
def State.sampleNow (s : State) (n : Fin 12) : Sample :=
  let i := s.laneInput n
  let x := s.lane[n]
  let r := chain x.limited (s.laneHi n) x.bank.stages x.states i.1.1
  { x0 := i.1.1, states := r.1, out := r.2.1, limited := r.2.2.1.any, limLo := r.2.2.1.lo, limHi := r.2.2.1.hi,
    limRate := r.2.2.1.rate ∧ ¬ r.2.2.1.lo ∧ ¬ r.2.2.1.hi, sat := i.1.2 ∨ r.2.2.2, at_ := s.now }

/-- Computes a sample of one lane: alignment, presets, and the chain (R147). -/
def State.computeSample (n : Fin 12) (s : State) : State :=
  let s := s.modLane n fun x => match x.align with | some r => x.install (x.merged s.snap[n] r) | none => x
  let s := s.takePreset n
  let i := s.laneInput n
  let sm := s.sampleNow n
  let s := s.modLane n fun x => { x with sample := some sm, x0 := i.1.1, inputStale := i.2.1, lastReady := i.2.2 }
  s.armAt (.laneDeadline n) (s.now + (s.lanePeriod n - setupTime (s.dueConsumer n)))

/-- A lane's trigger by itself: a sample still in progress has missed, the bank swaps, and an enabled lane computes its sample (R147, R153). -/
def State.startSample (n : Fin 12) (s : State) : State :=
  let s := if s.lane[n].sample.isSome then s.laneMiss n else s
  let s := s.modLane n Lane.swap
  if s.lane[n].bank.enable then s.computeSample n else s

/-- What a loop does at a trigger of its lane: the duty of the last completed sample comes into force, and a pending move to VLCL is
made (R164, R171). -/
def State.loopTrigger (n : Fin 12) (s : State) : State :=
  match s.consumerLane n with
  | none => s
  | some m =>
    let b := s.lane[m].bank
    if h : b.consumer = 1 ∧ b.selector < 8 then
      let at_ := s.triggerEdge ⟨b.selector, h.2⟩ b.period
      s.modLoop ⟨b.selector, h.2⟩ fun x =>
        { x with duty := s.lane[n].out, sampleK := x.sampleK + 1, trigAt := at_ <|> x.trigAt, onVlcl := x.onVlcl ∨ x.toVlcl,
                 toVlcl := false, vlclAt := if x.toVlcl then s.now else x.vlclAt }
    else s

/-- The bank whose trigger a lane takes: the live one, or while that is disabled the one that waits (R153). -/
def Lane.triggerBank (x : Lane) : Bank := if x.bank.enable then x.bank else x.pendingBank.getD x.bank

/-- LN11 takes lane `n`'s triggers: it tracks that lane, or a bank that tracks it waits (R148, R156). -/
def State.followed (s : State) (n : Fin 12) : Bool :=
  let b := s.lane[11].triggerBank
  n ≠ 11 ∧ b.enable ∧ b.trigger = 5 ∧ b.tracked = some n

/-- A lane's trigger: pending transfers first, then the lane's sample, then that of LN11 where it tracks this lane or a bank that tracks it waits
(R148, R156). -/
def State.laneTrigger (n : Fin 12) (s : State) : State :=
  let follow := s.followed n
  let s := match s.lane[n].transferTo with
    | some b => s.transferLane n b
    | none => s
  let s := if follow then (match s.lane[11].transferTo with | some b => s.transferLane 11 b | none => s) else s
  let s := (s.loopTrigger n).startSample n
  if follow then (s.loopTrigger 11).startSample 11 else s

/-- The lane takes triggers: enabled, in a released device whose timebase runs. -/
def State.laneRuns (s : State) (n : Fin 12) : Bool := s.up ∧ s.tbRuns ∧ (s.lane[n].bank.enable ∨ s.lane[n].pendingBank.isSome)

/-- Kind of a lane's trigger. -/
def State.triggerKind (s : State) (n : Fin 12) : Nat := s.lane[n].triggerBank.trigger

/-- A trigger reaches a lane that takes triggers (R147, R153). -/
def State.takeTrigger (n : Fin 12) (s : State) : State := if s.laneRuns n then s.laneTrigger n else s

/-- LANE_TRIGGER (R147, R148). The lanes of trigger kinds 2 and 5 are triggered by the frame boundary and by the tracked lane, those of kind 1 at the
slot edges of their loops (R163). -/
def execLaneTrigger (n : Fin 12) (s : State) : Out :=
  .next (if s.triggerKind n = 2 ∨ s.triggerKind n = 5 ∨ (s.triggerKind n = 1 ∧ ¬ s.slotTrigger s.lane[n].triggerBank) then s
    else s.takeTrigger n)

/-! ## Completion, miss and fault (R147, R149, R150) -/

/-- A completed sample's results (R147, R149, R158). -/
def Lane.complete (sm : Sample) (k : Rat) (x : Lane) : Lane :=
  { x with states := sm.states, out := sm.out, limited := sm.limited, limLo := sm.limLo, limHi := sm.limHi, limRate := sm.limRate,
           sat := sm.sat, saturations := if sm.sat then bump x.saturations else x.saturations, miss := false, consecutive := 0,
           sample := none, fresh := true, slackMin := some ((x.slackMin.map (min k)).getD k),
           tracked := if x.tracking then bump x.tracked else x.tracked }

/-- The LN10 trim follows its lane's output unless it is held (R188, R198). -/
def State.takeTrim (n : Fin 12) (s : State) : State :=
  match s.consumerLane n with
  | some m =>
    if s.lane[m].bank.consumer = 4 ∧ ¬ s.shelf.trimHeld ∧ s.shelf.running then { s with shelf.trim := sigRat s.lane[n].out } else s
  | none => s

/-- LANE_SAMPLE_DONE (R147): in time. The lane's slack is reported (R27). -/
def execLaneSampleDone (n : Fin 12) (s : State) : Out :=
  .next (match s.lane[n].sample, s.deadline (.laneDeadline n) with
    | some sm, some d =>
      if d ≤ s.now then s
      else
        let k := slackOf sm.at_ s.now d
        let s := (s.disarm (.laneDeadline n)).modLane n (Lane.complete sm k)
        let s := if sm.sat then s.raiseLimited 0x0303 n [] else s
        (s.takeTrim n).reportSlack (laneUnit n) k
    | _, _ => s)

/-- LANE_MISS (R149). -/
def execLaneMiss (n : Fin 12) (s : State) : Out :=
  .next (if s.lane[n].sample.isSome ∧ s.due (.laneDeadline n) then s.laneMiss n else s)

/-- The shelf-loop reaction to a fault of LN08, LN09 or LN10 (R198). -/
def State.shelfLaneFault (n : Fin 12) (s : State) : State :=
  if n = 8 then { s with shelf.droop := true }.raise 0x0501 noInst []
  else if n = 9 then { s with shelf.capHeld := true, shelf.heldC := sigRat (s.laneOut 9) }.raise 0x0502 noInst []
  else if n = 10 then { s with shelf.trimHeld := true }.raise 0x0503 noInst []
  else s

/-- LANE_FAULT (R150): three consecutive misses; the reaction of the consumer's chapter, and the give-up of an active twin chip. -/
def execLaneFault (n : Fin 12) (s : State) : Out :=
  .next (if s.lane[n].consecutive < 3 ∨ s.lane[n].fault then s
    else
      let s := (s.modLane n fun x => { x with fault := true }).raise 0x0302 n []
      let s := match s.consumerLane n with
        | none => s
        | some m =>
          let b := s.lane[m].bank
          if h : b.consumer = 1 ∧ b.selector < 8 then s.loopFault ⟨b.selector, h.2⟩ 0x0302 else s.shelfLaneFault m
      s.giveUp 0x0302 causeGiveUp)

/-- The lane status word (R158). -/
def State.laneStatus (s : State) (x : Lane) : Nat :=
  ofBits [x.miss, x.limited, x.limLo, x.limHi, x.limRate, x.sat, x.fault, x.inputStale, x.tracking ∨ s.standby, x.pendingBank.isSome]

end Sys2Proof.Machine
end

