-- ==== Sys2Proof/Machine/Loops.lean ====
section
/-! DEFINITION. The multiphase regulator loops: ramps, pulses, overshoot, current limit, bellows, shedding, phase failures and
synchronisation (R160 to R187). -/

namespace Sys2Proof.Machine

/-! ## Sense paths (R122, R169) -/

/-- Sense gain and offset of the selected input (R122): 0x3616, or 0x3617 on VLCL. -/
def State.senseCal (s : State) (l : Fin 8) (vlcl : Bool) : Rat × Rat :=
  let idx := if vlcl then 0x3617 else 0x3616
  (s.real idx (2 * l + 1), s.real idx (2 * l + 2))

/-- A voltage as a 16-bit DAC of 0 V to 1.5 V gives it (R122). -/
def dacVolts (v : Rat) : Rat := clamp 0 65535 ((v * 131072 / 3 + 1 / 2).floor : Rat) * 3 / 131072

/-- The window converter's target at the ball (R122, R170), as its DAC gives it. -/
def State.windowTarget (s : State) (l : Fin 8) (vlcl : Bool) : Rat :=
  let c := s.senseCal l vlcl
  dacVolts ((s.loop[l].vSet + s.loop[l].trim) / c.1 + c.2)

/-- The output voltage that a window code stands for (R122, R185). -/
def State.windowVolts (s : State) (l : Fin 8) (code : Int) : Rat :=
  let c := s.senseCal l s.loop[l].onVlcl
  (s.windowTarget l s.loop[l].onVlcl + (code : Rat) * 2 * s.real 0x2210 (l + 1) / 1024 - c.2) * c.1

/-! ## The setpoint ramp (R167, R168) -/

/-- One 100 ns step of the ramp; a ramped stop that reaches 0 V stops the loop. -/
def State.rampStep (l : Fin 8) (s : State) : State :=
  let x := s.loop[l]
  if ¬ x.running ∨ x.vSet = x.vTarget then s
  else
    let d := s.real (0x2410 + l) 4 / 10000000
    let v := clamp (x.vSet - d) (x.vSet + d) x.vTarget
    let s := s.modLoop l fun x => { x with vSet := v }
    let s := if v = x.vTarget then s.arm (.vsetOff l) 100000000 else s
    if x.rampStop ∧ v = 0 then s.loopStop l else s

/-! ## Slope detection, bellows and cancelled sheds (R175 to R178) -/

/-- The detector is blind (R176): an upward ramp, suppression, 1 µs after a move to VLCL. -/
def State.slopeBlind (s : State) (l : Fin 8) : Bool :=
  let x := s.loop[l]
  x.vSet < x.vTarget ∨ x.suppressed ∨ (x.onVlcl ∧ s.now < x.vlclAt + 1000)

/-- The detector fires on the newest code (R175). -/
def State.slopeFires (s : State) (l : Fin 8) : Bool :=
  match s.meas.win[l].codes with
  | c :: _ :: _ :: _ :: p :: _ => c - p ≤ -(s.raw (0x2410 + l) 0x1A : Int) ∧ c < 0
  | _ => false

/-- Cancels a pending shed and one in progress (R178). -/
def State.cancelShed (l : Fin 8) (s : State) : State :=
  let s := (s.disarm (.shedDwell l)).modLoop l fun x => { x with shedPending := false, shedding := false }
  State.each (List.finRange 32) (fun i => fun s =>
    if s.inMask l i ∧ s.phase[i].st = .tapering then s.modPhase i fun p => { p with st := .participating, taper := 0 } else s) s

/-- The shed phases of a loop, as a mask. -/
def State.shedMask (s : State) (l : Fin 8) : BitVec 32 := maskOf 32 fun i => s.inMask l i ∧ s.phase[i].st = .shed

/-- What a firing of the step detector does (R177, R178). The detector acts 100 ns after the date of its sample, as in the worked example of R184
(DEDUCED, log entry 93); the B periods run from there. -/
def State.stepDetected (l : Fin 8) (s : State) : State :=
  let at_ := s.now + 100
  let s := if s.flag (0x2410 + l) 0x19 ∧ ¬ s.loop[l].currentLimit then
      s.modLoop l fun x =>
        { x with bellowsOn := true, bellowsFrom := if x.bellowsOn then x.bellowsFrom else at_,
                 bellowsEnd := at_ + s.raw (0x2410 + l) 0x1C * x.period * 5 / 256, bellowsEvents := bump x.bellowsEvents }
    else s
  let s := s.cancelShed l
  if s.flag (0x2410 + l) 0x18 then s.modLoop l fun x => { x with addPending := x.addPending ||| s.shedMask l } else s

/-! ## WINDOW_SAMPLE (R122, R167, R171, R175) -/

/-- The next window sample is one of VLCL in place of a tenth one: the selected pair has been saturated for 2 µs (R171). -/
def State.vlclTurn (s : State) (l : Fin 8) : Bool :=
  let x := s.loop[l]
  x.running ∧ ¬ x.onVlcl ∧ 9 ≤ x.winRun ∧ (x.satSince.any fun t => decide (t + 2000 ≤ s.now))

/-- A VLCL sample in place of a tenth one: inside its window or not (R171). -/
def State.vlclSample (l : Fin 8) (code : Int) (s : State) : State :=
  s.modLoop l fun x => { x with winRun := 0, vlclRun := if -512 < code ∧ code < 511 then satInc 3 x.vlclRun else 0 }

/-- The overvoltage time runs while the loop is suppressed and V_set does not ramp down (R173). -/
def State.overvoltageRun (l : Fin 8) (s : State) : State :=
  s.armWhile (s.loop[l].suppressed ∧ s.loop[l].vSet ≤ s.loop[l].vTarget) (.overvoltage l) (s.ns (0x2410 + l) 0x0C)

/-- A sample of the selected input. -/
def State.pairSample (l : Fin 8) (code : Int) (s : State) : State :=
  let v := s.windowVolts l code
  let s : State := { s with meas.win := s.meas.win.set l { codes := (code :: s.meas.win[l].codes).take 5 } }
  let sat : Bool := code = 511 ∨ code = -512
  let s := s.modLoop l fun x =>
    { x with vOut := v, outHigh := code = 511, outLow := code = -512, winRun := satInc 9 x.winRun,
             satSince := if sat then some (x.satSince.getD s.now) else none, vlclRun := if sat then x.vlclRun else 0 }
  if s.loop[l].running ∧ s.slopeFires l ∧ ¬ s.slopeBlind l then s.stepDetected l else s

/-- What stands at the input that a loop has selected: its sense pair, or VLCL (R122, R171). -/
def State.selected {α : Type} (s : State) (l : Fin 8) (pair vlcl : α) : α := if s.loop[l].onVlcl then vlcl else pair

/-- WINDOW_SAMPLE (R122): the code of the selected input, or of VLCL where its sample takes that one's place (R171), and the ramp's 100 ns step (R167). -/
def execWindowSample (l : Fin 8) (code vlcl : Int) (s : State) : Out :=
  let s := if s.vlclTurn l then s.vlclSample l vlcl else s.pairSample l (s.selected l code vlcl)
  .next (if s.up then (s.rampStep l).overvoltageRun l else s)

/-- The write of 0x2410+n:03 (R167): the ramp is redirected. -/
def objSetpoint (l : Fin 8) : ObjWrite where
  invalid := fun s d =>
    let v := realOf d
    let c := s.senseCal l s.loop[l].onVlcl
    let t := (v + absR v * s.real (0x2410 + l) 0x10) / c.1 + c.2
    if t < 0 ∨ 3 / 2 < t then some 0x06090030 else none
  effect := fun w d s =>
    (rwsWrite (0x2410 + l) 3 fun d s =>
      s.modLoop l fun x => if x.running ∧ ¬ x.rampStop then { x with vTarget := realOf d } else x).effect w d s

/-- SETPOINT_WRITE (R167). -/
def execSetpointWrite (w : Session) (l : Fin 8) (d : List Byte) (s : State) : Out :=
  .next (s.writeBy w (0x2410 + l) 3 d (objSetpoint l))

/-! ## The precision trim (R170) -/

/-- The trim holds its value (R170). -/
def State.trimHolds (s : State) (l : Fin 8) : Bool :=
  let x := s.loop[l]
  let c := s.raw (0x2410 + l) 0x0F
  let clipped := ((s.meas.ch[c]?).map Channel.overrange).getD true
  ¬ x.running ∨ x.vSet ≠ x.vTarget ∨ x.outHigh ∨ x.outLow ∨ x.suppressed ∨ x.currentLimit ∨ ¬ s.ready c ∨ clipped
    ∨ (s.running (.vsetOff l) ∧ ¬ s.due (.vsetOff l))

/-- One step of the trim at a 1 kS/s output of its channel (R170). -/
def State.trimStep (l : Fin 8) (s : State) : State :=
  if s.trimHolds l then s
  else
    let x := s.loop[l]
    let lim := s.real (0x2410 + l) 0x10 * x.vSet
    let v := x.trim + 1 / 50 * (x.vSet - s.v1k (s.raw (0x2410 + l) 0x0F))
    let t := clamp (-lim) lim v
    s.modLoop l fun x => { x with trim := t, trimLimited := decide (t ≠ v) }

/-! ## Sense loss and overshoot (R171 to R173) -/

/-- SENSE_LOST (R171): three VLCL samples inside the window while the pair stays saturated. -/
def execSenseLost (l : Fin 8) (s : State) : Out :=
  let x := s.loop[l]
  .next (if ¬ x.running ∨ x.onVlcl ∨ x.senseLost ∨ x.vlclRun < 3 ∨ ¬ (x.outHigh ∨ x.outLow) then s
    else
      let s := (s.modLoop l fun x => { x with senseLost := true, vlclRun := 0 }).raise 0x0401 l []
      if s.raw (0x2410 + l) 0x0A = 0 then s.modLoop l fun x => { x with toVlcl := true } else s.loopFault l 0x0401)

/-- Every pin of a loop that carries a pulse goes low (R172): its trailing edge. -/
def State.endPulses (l : Fin 8) (s : State) : State :=
  State.each (List.finRange 32) (fun i => fun s =>
    if s.inMask l i ∧ s.pins.pwm[i] = .high then
      (s.setPwm i .low).modPhase i fun p => { p with requests := p.requests ++ [(true, s.now)] }
    else s) s

/-- The level of a loop's overshoot comparator at the ball (R79, R172): the window target plus the threshold in whole millivolts; the nearest of two,
the higher at equal distance (DEDUCED, log entry 93). -/
def State.overshootLevel (s : State) (l : Fin 8) : Rat :=
  s.windowTarget l s.loop[l].onVlcl + ((s.real (0x2410 + l) 0x0B * 1000 + 1 / 2).floor : Rat) / 1000

/-- OVERSHOOT (R172): the selected input rises at the ball; above the comparator's level it trips. -/
def execOvershoot (x : SenseInputs) (s : State) : Out :=
  let l := x.loop
  .next (if ¬ s.loop[l].running ∨ s.selected l x.pair x.vlcl ≤ s.overshootLevel l then s
    else
      let s := (s.endPulses l).modLoop l fun x =>
        { x with suppressed := true, truncations := bump x.truncations, bellowsOn := false, bellowsEnd := 0 }
      (s.raiseLimited 0x0402 l []).overvoltageRun l)

/-- OVERVOLTAGE (R173). -/
def execOvervoltage (l : Fin 8) (s : State) : Out :=
  .next (if s.loop[l].suppressed ∧ s.due (.overvoltage l) then
      ((s.disarm (.overvoltage l)).raise 0x0403 l []).loopFault l 0x0403
    else s)

/-- BELLOWS_END (R177): B periods have passed. -/
def execBellowsEnd (l : Fin 8) (s : State) : Out :=
  .next (if s.loop[l].bellowsOn ∧ s.loop[l].bellowsEnd ≤ s.now then s.modLoop l fun x => { x with bellowsOn := false } else s)

/-! ## The period boundary (R161, R162, R166, R174, R178, R180) -/

/-- The slot offsets of `n` phases in a period (R161): ⌊j × P × 256 / n + ½⌋ steps. -/
def slotOffsets (steps n : Nat) : List Nat := (List.range n).map fun j => (2 * j * steps + n) / (2 * n)

/-- Recompacts the slots (R162); phase currents are not judged for 10 periods (R180). -/
def State.recompactNow (l : Fin 8) (s : State) : State :=
  s.modLoop l fun x => { x with slots := slotOffsets x.period (s.partPhases l).length, recompact := false, quiet := 10 }

/-- Phases that join at this boundary (R178). -/
def State.addPhases (l : Fin 8) (s : State) : State :=
  let m := s.loop[l].addPending
  if m = 0 then s
  else
    let s := State.each (List.finRange 32) (fun i => fun s =>
      if m.getLsbD i ∧ s.phase[i].st = .shed then s.modPhase i fun p => { p with st := .participating, bal := 0, taper := 0 } else s) s
    s.modLoop l fun x => { x with addPending := 0, recompact := true, quiet := 10 }

/-- The mean over the participating phases that are not blind (R166). -/
def State.meanCurrent (s : State) (l : Fin 8) (i : Vector Rat 32) : Rat :=
  let ps := (s.partPhases l).filter fun p => s.phase[p].st ≠ .blind
  if ps = [] then 0 else (ps.map fun p => i[p]).foldl (· + ·) 0 / (ps.length : Nat)

/-- I_loop (R174): a blind phase contributes the mean. -/
def State.loopCurrent (s : State) (l : Fin 8) (i : Vector Rat 32) : Rat :=
  let m := s.meanCurrent l i
  ((s.partPhases l).map fun p => if s.phase[p].st = .blind then m else i[p]).foldl (· + ·) 0

/-- One step of the balance (R166). -/
def State.balanceStep (l : Fin 8) (i : Vector Rat 32) (s : State) : State :=
  if s.loop[l].suppressed ∨ s.loop[l].currentLimit then s
  else
    let m := s.meanCurrent l i
    let k := s.real (0x2410 + l) 0x1D
    let b := s.real (0x2410 + l) 0x1E
    let r := s.real (0x2410 + l) 0x0E
    State.each (s.partPhases l) (fun p => fun s => s.modPhase p fun x =>
      { x with bal := if x.st = .blind then 0 else clamp (-b) b (x.bal + k * (m - i[p]) / r) }) s

/-- The limit in force (R174). -/
def State.limitInForce (s : State) (l : Fin 8) : Rat :=
  let a := s.real (0x2410 + l) 0x0D
  let a := match s.loopThermal l with | some t => min a t | none => a
  match s.loop[l].degradedLim with | some t => min a t | none => a

/-- The configured upper limit of the loop's lane. -/
def State.loopHi (s : State) (l : Fin 8) : SigWord :=
  match s.laneOf l with
  | some n => s.lane[s.driverOf n].bank.output.hi
  | none => {}

/-- The duty ceiling at the end of a period (R174). -/
def State.ceilingStep (l : Fin 8) (s : State) : State :=
  let hi := s.loopHi l
  let h := sigRat hi
  let x := s.loop[l]
  let lim := s.limitInForce l
  let c := (x.ceiling.map sigRat).getD h
  let c' := if lim < x.current then max 0 (c - h / 32) else if x.current < 19 / 20 * lim then min h (c + h / 256) else c
  let w : SigWord := { m := satAt hi.e c', e := hi.e }
  let on := decide (w.m < hi.m)
  let armed := x.limitArmed ∨ (¬ x.currentLimit ∧ s.due (.limitClear l))
  let s := s.modLoop l fun x =>
    { x with ceiling := if on then some w else none, currentLimit := on, limitArmed := armed ∧ ¬ on,
             bellowsOn := x.bellowsOn ∧ ¬ on }
  let s := s.armWhile (¬ on ∧ ¬ armed) (.limitClear l) 1000000000
  if on ∧ armed then s.raise 0x0408 l [] else s

/-- The shed and the add of a period (R178). -/
def State.shedStep (l : Fin 8) (s : State) : State :=
  let x := s.loop[l]
  let n := (s.partPhases l).length
  if ¬ s.flag (0x2410 + l) 0x13 ∨ n = 0 ∨ s.standby then (s.disarm (.shedDwell l)).modLoop l fun x => { x with shedPending := false }
  else
    let due := ¬ x.shedding ∧ s.raw (0x2410 + l) 0x17 < n ∧ 2 ≤ n ∧ x.current < s.real (0x2410 + l) 0x14 * ((n - 1 : Nat) : Rat)
    let s := (s.armWhile due (.shedDwell l) (s.ns (0x2410 + l) 0x16)).modLoop l fun x => { x with shedPending := due }
    if s.real (0x2410 + l) 0x15 * (n : Nat) < x.current then
      match (List.finRange 32).find? fun i : Fin 32 => s.inMask l i ∧ s.phase[i].st = .shed with
      | some i => s.modLoop l fun x => { x with addPending := x.addPending ||| BitVec.ofNat 32 (2 ^ i.val) }
      | none => s
    else s

/-- A phase's current is implausible in a period (R180), judged by the mean of the other participating phases, those that run blind among them. -/
def State.implausible (s : State) (l : Fin 8) (p : Fin 32) (i : Vector Rat 32) : Bool :=
  let others := (s.partPhases l).filter fun q => q ≠ p
  let m := if others = [] then i[p] else (others.map fun q => i[q]).foldl (· + ·) 0 / (others.length : Nat)
  s.meas.imonV[p] < 1 / 50 ∨ 79 / 50 < s.meas.imonV[p]
    ∨ max (s.real (0x2410 + l) 0x21 * m) (s.real (0x2410 + l) 0x22) < absR (i[p] - m)

/-- The plausibility count of a period (R180). -/
def State.implausibleStep (l : Fin 8) (i : Vector Rat 32) (s : State) : State :=
  let x := s.loop[l]
  if x.suppressed ∨ x.currentLimit ∨ 0 < x.quiet then s
  else
    State.each (s.partPhases l) (fun p => fun s =>
      if s.phase[p].st = .participating then
        s.modPhase p fun y => { y with implRun := if s.implausible l p i then satInc 100 y.implRun else 0 }
      else s) s

/-- The nominal SYNC_IN period in 1/256 cycles. -/
def State.syncNominal (s : State) : Nat := (roundEven (200000000 / s.real 0x2400 1)).toNat * 256

/-- The period of the next cycle (R103, R181): the spur plan's, the tracked SYNC_IN period, or after its loss a move to the nominal one by
at most 1 % a period. -/
def State.nextPeriod (s : State) (l : Fin 8) : Nat :=
  let x := s.loop[l]
  if ¬ s.flag (0x2410 + l) 0x11 then 256 * s.tb.loopP[l]
  else if x.syncLocked then x.syncPeriod
  else
    let n := s.syncNominal
    let d := x.period / 100
    if x.period = 0 then n else if n < x.period - d then x.period - d else if x.period + d < n then x.period + d else n

/-! ## Reference edges (R181 to R183) -/

/-- Now, in 19.53 ps steps. -/
def State.steps (s : State) : Nat := 256 * s.now / 5

/-- How far a loop's next reference edge, due at `e`, is pulled towards SYNC_IN's edges: not at all while it does not follow them, and by at most 1 % of
its period (R181). -/
def State.syncPull (s : State) (l : Fin 8) (e : Nat) : Int :=
  let x := s.loop[l]
  let p : Int := x.period
  if ¬ (s.flag (0x2410 + l) 0x11 ∧ x.syncLocked) ∨ p = 0 then 0
  else
    let d := ((s.pins.syncAt : Int) - e) % p
    let d := if p < 2 * d then d - p else d
    max (-(p / 100)) (min (p / 100) d)

/-- The reference edge of a running loop that follows its latest one: a period later (R182), pulled in after a relock (R181). -/
def State.nextEdge (s : State) (l : Fin 8) : Option Nat :=
  let x := s.loop[l]
  match x.refEdge with
  | some e => if x.running ∧ 0 < x.period then some (((e + x.period : Nat) : Int) + s.syncPull l (e + x.period)).toNat else none
  | none => none

/-- SYNC_OUT (R183): high for half a period from 5 ns after each reference edge of the loop it carries, the lag's typical value (DESIGN CHOICE, log
entry 83); low while that loop does not run. -/
def State.syncOutNow (s : State) : State :=
  let n := s.raw 0x2400 2
  { s with pins.syncOut := if h : n < 8 then
      (let x := s.loop[n]
       match x.refEdge with
       | some e => x.running ∧ e + 256 ≤ s.steps ∧ s.steps < e + 256 + x.period / 2
       | none => false)
    else false }

/-- A loop with its reference edge as of now. -/
def State.edgePassed (s : State) (l : Fin 8) : Loop :=
  match s.nextEdge l with
  | some e => if e ≤ s.steps then { s.loop[l] with refEdge := some e, bounded := false } else s.loop[l]
  | none => s.loop[l]

/-- Reference edges that have come by now, and SYNC_OUT's level (R181 to R183). -/
def State.edgesPass (s : State) : State := ({ s with loop := Vector.ofFn s.edgePassed } : State).syncOutNow

/-- At a shelf-frame boundary the reference edge of a loop whose rail has started is placed (R182). A loop that is locked to SYNC_IN waits for its
edge; one that is not locked yet starts on its own timebase (DESIGN CHOICE, log entry 83). -/
def State.placeEdges (s : State) : State :=
  { s with loop := Vector.ofFn fun l : Fin 8 =>
      let x := s.loop[l]
      if x.running ∧ x.refEdge = none ∧ ¬ (s.flag (0x2410 + l) 0x11 ∧ x.syncLocked) then { x with refEdge := some s.steps, bounded := false } else x }

/-- The period boundary of a loop falls now: its phase offset after the latest reference edge has passed (R161, R182). -/
def State.boundaryDue (s : State) (l : Fin 8) : Bool :=
  let x := s.loop[l]
  s.up ∧ s.tbRuns ∧ x.running ∧ ¬ x.bounded ∧ x.refEdge.any fun e => decide (e + 256 * s.raw (0x2410 + l) 0x12 ≤ s.steps)

/-- LOOP_PERIOD_BOUNDARY (R161): the mean phase currents of the period that ends. -/
def execLoopPeriodBoundary (l : Fin 8) (i : Vector Rat 32) (s : State) : Out :=
  .next (if ¬ s.boundaryDue l then s
    else
      let s := s.modLoop l fun x =>
        { x with bounded := true, boundAt := x.refEdge.getD 0 + 256 * s.raw (0x2410 + l) 0x12, current := s.loopCurrent l i, quiet := x.quiet - 1 }
      let s := ((s.balanceStep l i).ceilingStep l).implausibleStep l i
      let p := s.nextPeriod l
      let s := s.modLoop l fun x => { x with recompact := x.recompact ∨ p ≠ x.period, period := p }
      let s := (s.addPhases l).shedStep l
      if s.loop[l].recompact then s.recompactNow l else s)

/-! ## Slot edges (R165, R172, R178, R184) -/



/-- The on-time of a pulse in steps (R165): none where it is omitted. `k` quarters of the duty are carried in a taper. -/
def State.onTime (s : State) (l : Fin 8) (i : Fin 32) (k : Nat) : Option Nat :=
  let x := s.loop[l]
  let bel : Bool := x.bellowsOn ∧ x.bellowsFrom < s.now ∧ s.now ≤ x.bellowsEnd
  let d := sigRat x.duty + s.phase[i].bal + (if bel then s.real (0x2410 + l) 0x1B else 0)
  let n := (d * (k : Nat) / 4 * (x.period : Nat) + 1 / 2).floor
  let off := roundEven (s.real (0x2410 + l) 9 * 51200000000)
  let on := roundEven (s.real (0x2410 + l) 8 * 51200000000)
  let n := min n ((x.period : Int) - off)
  if n < on ∨ n < 0 then none else some n.toNat

/-- Drives a phase's pin where this chip drives its shared outputs; a tracking standby's pin stays released (R184). -/
def State.drivePwm (i : Fin 32) (p : PwmPin) (s : State) : State := if s.drives then s.setPwm i p else s

/-- One pulse, or its omission (R165). Before the loop's first pulse the pin stays high-impedance. A pulse asks for a conversion at its leading edge
(R179). -/
def State.pulse (l : Fin 8) (i : Fin 32) (k : Nat) (s : State) : State :=
  match s.onTime l i k with
  | none =>
    let s := s.modPhase i fun p => { p with onSteps := 0 }
    if s.loop[l].pulsed then s.drivePwm i .low else s
  | some n =>
    let s := s.modPhase i fun p =>
      { p with onSteps := n, offAt := s.now + (5 * n + 255) / 256, requests := [(false, s.now)], leading := none }
    (s.modLoop l fun x => { x with pulsed := true }).drivePwm i .high

/-- A tapering phase's slot edge (R178): three pulses at 3/4, 1/2 and 1/4, then high-impedance. The fourth edge releases it whether or not the loop is
suppressed (R184 rank 2); edges without a pulse count (DEDUCED, log entry 93). -/
def State.taperEdge (l : Fin 8) (i : Fin 32) (s : State) : State :=
  let t := s.phase[i].taper
  if t < 3 then ((if s.loop[l].suppressed then s else s.pulse l i (3 - t)) : State).modPhase i fun p => { p with taper := t + 1 }
  else
    let s := (s.setPwm i .highZ).modPhase i fun p => { p with st := .shed, taper := 0, bal := 0 }
    s.modLoop l fun x => { x with shedding := false, sheds := bump x.sheds, recompact := true, quiet := 10 }

/-- PHASE_SLOT_EDGE (R165): suppression ends where the selected input at the ball has fallen 2 mV below the comparator's level (R172). -/
def execPhaseSlotEdge (i : Fin 32) (pair vlcl : Rat) (s : State) : Out :=
  .next (match s.loopOfPhase i with
    | none => s
    | some l =>
      if s.phase[i].stopping then (s.setPwm i .highZ).modPhase i fun p => { p with stopping := false }
      else if ¬ s.loop[l].running ∨ ¬ phaseOn s.phase[i].st then s
      else
        let s := if s.loop[l].suppressed ∧ s.selected l pair vlcl ≤ s.overshootLevel l - 2 / 1000 ∧ ¬ s.loop[l].outHigh then
            (s.modLoop l fun x => { x with suppressed := false }).disarm (.overvoltage l)
          else s
        if s.phase[i].st = .tapering then s.taperEdge l i
        else if s.loop[l].suppressed then s
        else s.pulse l i 4)

/-- SHED_DWELL_EXPIRY (R178): the highest participating phase starts to taper. -/
def execShedDwellExpiry (l : Fin 8) (s : State) : Out :=
  .next (if ¬ s.loop[l].running ∨ ¬ s.due (.shedDwell l) then s
    else
      let s := (s.disarm (.shedDwell l)).modLoop l fun x => { x with shedPending := false }
      match ((s.partPhases l).filter fun p => s.phase[p].st = .participating).getLast? with
      | none => s
      | some i => (s.modPhase i fun p => { p with st := .tapering, taper := 0 }).modLoop l fun x => { x with shedding := true })

/-! ## Phase failure (R179, R180) -/

/-- Phases of a loop that are not removed. -/
def State.remaining (s : State) (l : Fin 8) : Nat :=
  ((List.finRange 32).filter fun i : Fin 32 => s.inMask l i ∧ s.phase[i].st ≠ .removedOpen ∧ s.phase[i].st ≠ .removedSense).length

/-- The degraded limit after a removal (R179). -/
def State.degrade (l : Fin 8) (s : State) : State :=
  let n := s.remaining l
  let was := s.limitInForce l
  let lim := (n : Nat) * s.real (0x2410 + l) 0x0E
  let s := s.modLoop l fun x => { x with degradedLim := some lim }
  let s := if lim < was then (s.modLoop l fun x => { x with degraded := true }).raise 0x0407 l [] else s
  if n < s.raw (0x2410 + l) 0x17 ∨ n = 0 then (s.raise 0x040C l []).loopFault l 0x040C else s

/-- Removes a phase (R179). -/
def State.removePhase (l : Fin 8) (i : Fin 32) (st : PhaseState) (s : State) : State :=
  let s := (s.disarm (.blind i)).modPhase i fun p => { p with st := st, stopping := true, openRun := 0, implRun := 0, bal := 0 }
  (s.modLoop l fun x => { x with recompact := true, quiet := 10 }).degrade l

/-- PHASE_OPEN (R179). A standby makes no decision of its own on phases (R388). -/
def execPhaseOpen (i : Fin 32) (s : State) : Out :=
  .next (match s.loopOfPhase i with
    | none => s
    | some l =>
      if ¬ s.standby ∧ s.phase[i].st = .participating ∧ 3 ≤ s.phase[i].openRun then (s.raise 0x0404 i []).removePhase l i .removedOpen else s)

/-- IMON_IMPLAUSIBLE (R180): the phase runs blind; a first blind phase of the loop is then removed at once. -/
def execImonImplausible (i : Fin 32) (s : State) : Out :=
  .next (match s.loopOfPhase i with
    | none => s
    | some l =>
      if s.standby ∨ s.phase[i].st ≠ .participating ∨ s.phase[i].implRun < 100 then s
      else
        let other := (List.finRange 32).find? fun q : Fin 32 => s.inMask l q ∧ s.phase[q].st = .blind
        let s := ((s.raise 0x0405 i []).modPhase i fun p => { p with st := .blind, bal := 0, implRun := 0 }).arm (.blind i) 10000000
        match other with
        | some q => s.removePhase l q .removedSense
        | none => s)

/-- BLIND_TIMEOUT (R180). -/
def execBlindTimeout (i : Fin 32) (s : State) : Out :=
  .next (match s.loopOfPhase i with
    | none => s
    | some l => if ¬ s.standby ∧ s.phase[i].st = .blind ∧ s.due (.blind i) then s.removePhase l i .removedSense else s)

/-! ## SYNC_IN (R181) -/

/-- A loop follows SYNC_IN. -/
def State.syncOn (s : State) (l : Fin 8) : Bool := s.flag (0x2410 + l) 0x11

/-- A measured period in 1/256 cycles lies within ±10 % of nominal. -/
def State.syncGood (s : State) (p : Nat) : Bool := 9 * s.syncNominal ≤ 10 * p ∧ 10 * p ≤ 11 * s.syncNominal

/-- One loop's measurement of a SYNC_IN period. -/
def State.syncStep (p : Nat) (l : Fin 8) (s : State) : State :=
  if ¬ s.syncOn l then s
  else
    let good := s.syncGood p
    let h := if good then (p :: s.loop[l].syncHist).take 8 else []
    let s := s.modLoop l fun x =>
      { x with syncHist := h, syncBad := !good, syncRun := if good then satInc 16 x.syncRun else 0,
               syncPeriod := if h = [] then x.syncPeriod else h.foldl (· + ·) 0 / h.length }
    s.arm (.syncGone l) (2 * 5 * s.syncNominal / 256)

/-- The instant of an edge in 19.53 ps steps: a measured period after the one before, where that falls within a cycle of now. -/
def State.syncEdge (s : State) (p : Nat) : Nat :=
  let e := s.pins.syncAt + p
  if e ≤ s.steps + 256 ∧ s.steps ≤ e + 256 then e else s.steps

/-- A locked loop whose rail has started takes its reference edge from SYNC_IN's (R181). -/
def State.followEdge (s : State) : State :=
  { s with loop := Vector.ofFn fun l : Fin 8 =>
      let x := s.loop[l]
      if x.running ∧ x.refEdge = none ∧ s.flag (0x2410 + l) 0x11 ∧ x.syncLocked then { x with refEdge := some s.pins.syncAt, bounded := false } else x }

/-- A loop's SYNC_IN enable changes (R181, R186): its two nominal periods begin, or what it knew of SYNC_IN is forgotten. -/
def State.syncEnable (l : Fin 8) (s : State) : State :=
  if s.syncOn l then s.arm (.syncGone l) (2 * 5 * s.syncNominal / 256)
  else (s.disarm (.syncGone l)).modLoop l fun x => { x with syncLocked := false, syncLost := false, syncRun := 0, syncHist := [], syncBad := false }

/-- The measured frequency of SYNC_IN (R185): 0 once no edge has come for two nominal periods. -/
def State.syncMeasured (s : State) : Rat := if s.steps ≤ s.pins.syncAt + 2 * s.syncNominal then s.pins.syncFreq else 0

/-- SYNC_IN_EDGE (R181): the period that ends at the edge, in 1/256 cycles. -/
def execSyncInEdge (p : Nat) (s : State) : Out :=
  .next (if ¬ s.tbRuns then s
    else
      let f : Rat := if p = 0 then 0 else 51200000000 / (p : Nat)
      (State.each (List.finRange 8) (State.syncStep p) { s with pins.syncFreq := f, pins.syncAt := s.syncEdge p }).followEdge)

/-- SYNC_LOCKED (R181): 16 good periods. -/
def execSyncLocked (l : Fin 8) (s : State) : Out :=
  .next (if s.syncOn l ∧ 16 ≤ s.loop[l].syncRun ∧ ¬ s.loop[l].syncLocked then
      s.modLoop l fun x => { x with syncLocked := true, syncLost := false }
    else s)

/-- SYNC_LOST (R181): no edge within two nominal periods, or a period outside ±10 %. -/
def execSyncLost (l : Fin 8) (s : State) : Out :=
  .next (if s.syncOn l ∧ ¬ s.loop[l].syncLost ∧ (s.due (.syncGone l) ∨ s.loop[l].syncBad) then
      let s := (s.disarm (.syncGone l)).modLoop l fun x =>
        { x with syncLocked := false, syncLost := true, syncRun := 0, syncHist := [], syncBad := false }
      s.raise 0x0409 l []
    else s)

/-- The loop status word (R186). -/
def State.loopStatus (s : State) (l : Fin 8) : Nat :=
  let x := s.loop[l]
  ofBits [x.running, decide (x.vSet ≠ s.real (0x2410 + l) 3), x.onVlcl, x.outHigh, x.outLow, x.suppressed, x.currentLimit, x.degraded,
    x.bellowsOn, x.shedPending, x.shedding, x.trimLimited, x.syncLocked, x.syncLost,
    (List.finRange 32).any fun i => s.inMask l i ∧ s.phase[i].st = .blind, x.senseLost]

end Sys2Proof.Machine
end

