-- ==== Sys2Proof/Machine/Distribution.lean ====
section
/-! DEFINITION. The distribution commands: branches, feed pairs, gate supply and quench (R221 to R245). -/

namespace Sys2Proof.Machine

/-! ## Branch evaluation -/

/-- The distribution block acts: released, committed, and not tracking as a standby (R59, R292). -/
def State.distRuns (s : State) : Bool := s.up ∧ s.dist.committed ∧ ¬ s.standby

/-- The on request as the channel takes it: an adopted channel stays on until the sequencer's first commit (R59). -/
def State.brOnReq (s : State) (k : Fin 16) : Bool := s.brRequest k ∨ s.pins.adopted.getLsbD k

/-- The branch current (R222): the named channel's 200 kS/s quantity. -/
def State.brI (s : State) (k : Fin 16) : Rat := s.v200 (s.raw (0x2610 + k) 0x15)

/-- The branch current's channel is READY (R485). -/
def State.brReady (s : State) (k : Fin 16) : Bool := s.ready (s.raw (0x2610 + k) 0x15)

/-- Samples V_DS and the inrush energy of a branch (R222, R226), of channels that are READY; else they keep what they hold (R485, DESIGN CHOICE, log
entry 91). -/
def State.brSample (k : Fin 16) (s : State) : State :=
  let vds := absR s.vBus - absR s.meas.bvs[k]
  if ¬ s.ready s.busCh then s
  else s.modBr k fun b => { b with vds := vds, energy := if b.st = .inrush ∧ s.brReady k then b.energy + s.brI k * vds / 40000 else b.energy }

/-- The inrush energy's trip (R226). -/
def State.brEnergy (k : Fin 16) (s : State) : State :=
  let lim := s.real (0x2610 + k) 8
  if s.dist.br[k].st = .inrush ∧ lim ≠ 0 ∧ lim < s.dist.br[k].energy then s.brTrip k 0x0705 else s

/-- A breaker comparator that has fallen starts its source's release time (R240). The always-on quench logic sees it whatever the
distribution block does, on a standby too (R26, R242). -/
def State.brBreakerLevel (k : Fin 16) (breaker : Bool) (s : State) : State :=
  if s.dist.br[k].breaker ∧ ¬ breaker then
    let s := s.modBr k fun b => { b with breaker := false }
    let t := s.ns 0x2651 (k + 1)
    if t ≠ 0 ∧ s.dist.quench.getLsbD k then s.arm (.quenchRelease k) t else s
  else s

/-- A limit comparator that has fallen stops the fault timer (R227). -/
def State.brLimitLevel (k : Fin 16) (limit : Bool) (s : State) : State :=
  let b := s.dist.br[k]
  if b.limit ∧ ¬ limit then
    let s := (s.brFaultHold k).modBr k fun b => { b with limit := false }
    let s := if b.st = .inrush then s.drive (brGate k) .source else s
    s.arm (.brLimitOut k) 1000000
  else s

/-- Presence lost (R230): recorded, retries and running times cleared, the channel to STOPPING unless it is off or latched. -/
def State.brRemove (k : Fin 16) (s : State) : State :=
  let x := s.dist.br[k].st
  let s := (s.modBr k fun b => { b with removed := true, retries := 0 }).raise 0x0708 k []
  let s := (s.brFaultClear k).disarm (.brRetry k)
  if x = .off ∨ x = .tripped ∨ x = .fetShort ∨ x = .stopping ∨ x = .quenched ∨ x = .held then s else s.brStop k

/-- Presence and the on request of a branch (R223, R224, R230). -/
def State.brRequests (k : Fin 16) (s : State) : State :=
  let named := s.raw (0x2610 + k) 0x0C ≤ 23
  let here := s.brPresent k
  let was := s.dist.br[k].present
  let s := s.modBr k fun b => { b with present := here }
  let s := if named ∧ was ∧ ¬ here ∧ s.dist.br[k].st ≠ .waitPresent then s.brRemove k else s
  match s.dist.br[k].st with
  | .off => if s.brOnReq k ∧ ¬ s.quenched k then s.brBegin k else s
  | .waitPresent =>
    if ¬ s.brOnReq k then s.brStop k
    else s.armWhile here (.brDebounce k) (s.ns (0x2610 + k) 0x0E)
  | .inrush | .on | .limit | .retryWait | .gateUv => if s.brOnReq k then s else s.brStop k
  | .tripped => if s.brOnReq k then s else (s.modBr k fun b => { b with retries := 0 }).brStop k
  | .stopping | .fetShort | .quenched | .held => s

/-- The settle time of an inrush runs while V_DS is at or below its level (R224). -/
def State.brSettling (k : Fin 16) (s : State) : State :=
  s.armWhile (s.dist.br[k].st = .inrush ∧ s.dist.br[k].vds ≤ s.real (0x2610 + k) 5) (.brSettle k) (s.ns (0x2610 + k) 6)

/-- A short condition of R232 holds for a branch whose gate has been sunk for more than 10 ms. -/
def State.brShort (s : State) (k : Fin 16) : Bool :=
  let b := s.dist.br[k]
  (b.st = .off ∨ b.st = .stopping ∨ b.st = .retryWait ∨ b.st = .tripped ∨ b.st = .fetShort) ∧ b.sunkAt + 10000000 < s.now
    ∧ s.real (0x2610 + k) 0x11 ≤ absR s.meas.bvs[k]
    ∧ ((s.brReady k ∧ s.real (0x2610 + k) 0x12 ≤ absR (s.brI k)) ∨ b.sunkAt + s.ns (0x2610 + k) 0x13 < s.now)

/-- The 50 ms of the short check (R232). -/
def State.brShortRun (k : Fin 16) (s : State) : State :=
  s.armWhile (s.brShort k ∧ s.dist.br[k].st ≠ .fetShort) (.brShort k) 50000000

/-- One branch at a 40 kS/s instant: the trip first, then the request (R224). -/
def State.brEvaluate (limit : BitVec 16) (k : Fin 16) (s : State) : State :=
  let s := (s.brSample k).brEnergy k
  (((s.brLimitLevel k (limit.getLsbD k)).brRequests k).brSettling k).brShortRun k

/-- BRANCH_EVALUATION (R224): the GPIO levels and the comparators' levels at the 40 kS/s instant. -/
def execBranchEvaluation (gpio : BitVec 24) (limit breaker : BitVec 16) (s : State) : Out :=
  let s : State := { s with pins.gpioIn := gpio }
  let s := State.each (List.finRange 16) (fun k => State.brBreakerLevel k (breaker.getLsbD k)) s
  .next (if s.distRuns then State.each (List.finRange 16) (State.brEvaluate limit) s else s)

/-! ## Branch events -/

/-- INSERTION_DEBOUNCE (R224, R230). -/
def execInsertionDebounce (k : Fin 16) (s : State) : Out :=
  .next (if s.dist.br[k].st = .waitPresent ∧ s.due (.brDebounce k) then
      let s := if s.dist.br[k].removed then (s.modBr k fun b => { b with removed := false }).raise 0x0709 k [] else s
      s.brInrush k
    else s)

/-- INRUSH_SETTLED (R224). -/
def execInrushSettled (k : Fin 16) (s : State) : Out :=
  .next (if s.dist.br[k].st = .inrush ∧ s.due (.brSettle k) then s.brOn k else s)

/-- INRUSH_TIMEOUT (R224). -/
def execInrushTimeout (k : Fin 16) (s : State) : Out :=
  .next (if s.dist.br[k].st = .inrush ∧ s.due (.brInrush k) then s.brTrip k 0x0704 else s)

/-- LIMIT_ASSERT (R224, R227): the comparator of a branch that a rail names asserts. -/
def execLimitAssert (k : Fin 16) (s : State) : Out :=
  let x := s.dist.br[k].st
  let acts := x = .inrush ∨ x = .on ∨ x = .limit
  .next (if ¬ s.brNamed k then s
    else
      let s := s.modBr k fun b => { b with limit := true, st := if x = .on then .limit else x }
      if acts then (((s.disarm (.brLimitOut k)).disarm (.brOn60 k)).drive (brGate k) .regulate).brFaultRun k else s)

/-- LIMIT_RELEASE (R224, R227): out of limit for 1 ms. -/
def execLimitRelease (k : Fin 16) (s : State) : Out :=
  .next (if s.due (.brLimitOut k) then
      let s := (s.brFaultClear k).disarm (.brLimitOut k)
      if s.dist.br[k].st = .limit then s.brOn k else s
    else s)

/-- BR_FAULT_TIMER (R227). -/
def execBrFaultTimer (k : Fin 16) (s : State) : Out :=
  let x := s.dist.br[k].st
  .next (if (x = .inrush ∨ x = .on ∨ x = .limit) ∧ s.due (.brFault k) then s.brTrip k 0x0701 else s)

/-- BR_BREAKER (R228, R239): the channel trips and its quench latch is set. A standby sets the latch only (R242). -/
def execBrBreaker (k : Fin 16) (s : State) : Out :=
  let x := s.dist.br[k].st
  .next (if ¬ s.brNamed k ∧ x ≠ .held then s
    else
      let s := s.modBr k fun b => { b with breaker := true }
      let s := if ¬ s.standby ∧ (x = .inrush ∨ x = .on ∨ x = .limit ∨ x = .held) then s.brTrip k 0x0702 else s
      s.setQuench ⟨k.val, by omega⟩)

/-- TRIP_SINK_END (R229, R233): 10 µs of fast sink end on a gate. -/
def execTripSinkEnd (g : Fin 24) (s : State) : Out :=
  .next (if s.due (.brSink g) then
      let s := s.disarm (.brSink g)
      if s.pins.gate[g] = .fastSink then s.drive g .normalSink else s
    else s)

/-- BRANCH_MIN_OFF_END (R224, R240). -/
def execBranchMinOffEnd (k : Fin 16) (s : State) : Out :=
  .next (if s.dist.br[k].st = .stopping ∧ s.due (.brMinOff k) then
      let stay := s.dist.br[k].toOff
      let s := (s.modBr k fun b => { b with st := .off, toOff := false }).disarm (.brMinOff k)
      if s.brOnReq k ∧ ¬ stay ∧ ¬ s.quenched k then s.brBegin k else s
    else s)

/-- BRANCH_RETRY_END (R224): the retry interval has ended and the on request is true. -/
def execBranchRetryEnd (k : Fin 16) (s : State) : Out :=
  .next (if s.dist.br[k].st = .retryWait ∧ s.due (.brRetry k) ∧ s.brOnReq k then
      ((s.modBr k fun b => { b with retries := b.retries + 1 }).disarm (.brRetry k)).brBegin k
    else s)

/-- RETRIES_CLEARED (R229). -/
def execRetriesCleared (k : Fin 16) (s : State) : Out :=
  .next (if s.dist.br[k].st = .on ∧ s.due (.brOn60 k) then
      (s.modBr k fun b => { b with retries := 0 }).disarm (.brOn60 k)
    else s)

/-! ## Shorted FETs (R232, R233) -/

/-- Opens and latches a feed pair for a shorted FET. -/
def State.openFeed (p : Fin 2) (s : State) : State :=
  let s := (s.feedOff p .fastSink).modFeed p fun f => { f with latched := true }
  (s.arm (.brSink (fdGate p false)) 10000).arm (.brSink (fdGate p true)) 10000

/-- Opens and latches a string for a shorted FET. -/
def State.openStr (n : Fin 4) (s : State) : State :=
  ((s.setStr n .latched).drive (stGate n) .fastSink).arm (.brSink (stGate n)) 10000

/-- Opens the channels of a branch's upstream mask (R233). -/
def State.openUpstream (k : Fin 16) (s : State) : State :=
  let m := s.raw (0x2610 + k) 0x14
  let s := s.raise 0x070F k [m]
  let s := State.each (List.finRange 2) (fun p => fun s => if bit m p then s.openFeed p else s) s
  State.each (List.finRange 4) (fun n => fun s => if bit m (4 + n) then s.openStr n else s) s

/-- FET_SHORT (R232, R233): a short condition held 50 ms. -/
def execFetShort (k : Fin 16) (s : State) : Out :=
  .next (if s.due (.brShort k) ∧ s.brShort k then
      let s := (s.brQuiet k).modBr k fun b => { b with st := .fetShort }
      (((s.disarm (.brShort k)).drive (brGate k) .normalSink).raise 0x0706 k []).openUpstream k
    else s)

/-- The write of 0x2600:02 (R232). -/
def objClearFetShort : ObjWrite where
  busy := fun s d =>
    let k := leValue d
    if h : k < 16 then refuseIf (s.dist.br[k].st ≠ .fetShort ∨ s.brShort ⟨k, h⟩) else none
  effect := fun _ d s =>
    let k := leValue d
    if h : k < 16 then s.modBr ⟨k, h⟩ fun b => { b with st := .off } else s

/-- CLEAR_FET_SHORT (R232). -/
def execClearFetShort (w : Session) (d : List Byte) (s : State) : Out := .next (s.writeBy w 0x2600 2 d objClearFetShort)

/-! ## Gate supply (R231) -/

/-- Sinking gates stand low while VGD is below its level (R243 rank 3). -/
def State.gatesUv (s : State) : State :=
  State.each (List.finRange 24) (fun g => fun s =>
    if s.pins.gate[g] = .normalSink ∨ s.pins.gate[g] = .fastSink then s.drive g s.pins.gate[g] else s) s

/-- They sink normally again once VGD is back, but for gates that a hold keeps low. -/
def State.sinkLow (s : State) : State :=
  { s with pins.gate := Vector.ofFn fun g : Fin 24 =>
      if s.pins.gate[g] = .low ∧ ¬ s.heldGates.getLsbD g then .normalSink else s.pins.gate[g] }

/-- GATE_UV (R231): every gate goes low (R243 rank 3), and every channel that is commanded high to GATE_UV, a pair in its dead time too; recorded
once with the mask of the gates that stood high. -/
def execGateUv (s : State) : Out :=
  if s.pins.vgdUv then .next s
  else
    let h := s.gatesHigh
    let s : State := { s with pins.vgdUv := true }
    let s := s.raise 0x0707 noInst [h.toNat]
    let s := State.each (List.finRange 16) (fun k => fun s =>
      if h.getLsbD k then (((s.endInrush k).brQuiet k).brSink k .low).modBr k fun b => { b with st := .gateUv } else s) s
    let s := State.each (List.finRange 2) (fun p => fun s =>
      if h.getLsbD (fdGate p false) ∨ h.getLsbD (fdGate p true) ∨ s.dist.feed[p].next.isSome then
        (s.feedOff p .low).modFeed p fun f => { f with gateUv := true }
      else s) s
    let s := State.each (List.finRange 4) (fun n => fun s =>
      if h.getLsbD (stGate n) then (s.setStr n .gateUv).drive (stGate n) .low else s) s
    .next s.gatesUv

/-- GATE_UV_RECOVER (R231): branches restart through STOPPING, feed pairs reselect, strings return to the battery block. -/
def execGateUvRecover (s : State) : Out :=
  if ¬ s.pins.vgdUv then .next s
  else
    let s : State := { s with pins.vgdUv := false }
    let s := State.each (List.finRange 16) (fun k => fun s => if s.dist.br[k].st = .gateUv then s.brStop k else s) s
    let s := State.each (List.finRange 2) (fun p => fun s =>
      let f := s.dist.feed[p]
      let s := s.modFeed p fun f => { f with gateUv := false }
      if s.feedMay p ∧ (f.gateUv ∨ (f.phase = .waiting ∧ (s.feedQual p false ∨ s.feedQual p true))) then s.feedSelect p else s) s
    let s := State.each (List.finRange 4) (fun n => fun s =>
      if s.dist.str[n] = .gateUv then
        ((s.setStr n .off).drive (stGate n) .normalSink).modStr n fun x => { x with waitMatch := true }
      else s) s
    .next (s.sinkLow)

/-! ## Feed pairs (R234 to R237) -/

/-- The pair transfers or reverts to a feed: fast sink of the feed in use, the dead time, the record (R235, R237). -/
def State.feedTransfer (p : Fin 2) (b : Bool) (revert : Bool) (s : State) : State :=
  let s := s.feedSink p (!b) .fastSink
  let s := s.modFeed p fun f =>
    { f with phase := .deadTime revert, sel := none, next := some b, lossRun := 0, lost := false,
             transfers := bump f.transfers, lastTransfer := s.tb.tod }
  let s := ((s.disarm (.feedSettle p)).disarm (.feedRevert p)).arm (.feedDead p) (s.ns (0x2630 + p) 5)
  s.raise 0x070A p [p, b.toNat]

/-- The time since which a feed has been qualified. -/
def State.feedQualAt (s : State) (p : Fin 2) (b : Bool) : Nat := (s.dist.feed[p].qualAt)[b.toNat]'(Bool.toNat_lt b)

/-- While the pair is on the other feed, the preferred one is qualified and mode 1 is set, the revert comes once the preferred feed has been
qualified for the revert time (R237). -/
def State.feedWatch (p : Fin 2) (s : State) : State :=
  let pref := s.feedPref p
  if s.raw (0x2630 + p) 6 = 1 ∧ s.dist.feed[p].sel = some (!pref) ∧ s.feedQual p pref then
    s.armAt (.feedRevert p) (max s.now (s.feedQualAt p pref + s.ns (0x2630 + p) 7))
  else s.disarm (.feedRevert p)

/-- FEED_QUALIFIED (R234, R235): inside the window for 10 ms. A pair that waits takes the feed; one whose feed is lost transfers. -/
def execFeedQualified (p : Fin 2) (b : Bool) (s : State) : Out :=
  .next (if s.due (.feedQual p b) then
      let s := (s.disarm (.feedQual p b)).modFeed p fun f =>
        { f with qual := f.qual.set b.toNat true (Bool.toNat_lt b), qualAt := f.qualAt.set b.toNat s.now (Bool.toNat_lt b) }
      let f := s.dist.feed[p]
      let s := if f.phase = .waiting ∧ s.feedMay p then s.feedSource p b
        else if f.lost ∧ f.sel = some (!b) ∧ s.feedMay p then s.feedTransfer p b false else s
      s.feedWatch p
    else s)

/-- FEED_LOSS (R235): the confirm count of outputs outside the window. No transfer is made during a warm-reset hold (R237). -/
def execFeedLoss (p : Fin 2) (s : State) : Out :=
  let f := s.dist.feed[p]
  .next (match f.sel with
    | none => s
    | some b =>
      if f.lost ∨ f.lossRun < s.raw (0x2630 + p) 4 ∨ ¬ s.distRuns then s
      else if s.feedQual p (!b) then s.feedTransfer p (!b) false
      else (s.modFeed p fun f => { f with lost := true }).raise 0x070B p [])

/-- DEAD_TIME_END (R235 to R237). -/
def execDeadTimeEnd (p : Fin 2) (s : State) : Out :=
  .next (if ¬ s.due (.feedDead p) then s
    else
      let s := s.disarm (.feedDead p)
      let s := if s.pins.gate[fdGate p false] = .fastSink then s.drive (fdGate p false) .normalSink else s
      let s := if s.pins.gate[fdGate p true] = .fastSink then s.drive (fdGate p true) .normalSink else s
      match s.dist.feed[p].next with
      | some b =>
        if ¬ s.feedMay p then s.feedOff p .normalSink
        else (if s.feedQual p b then s.feedSource p b
          else if s.feedQual p (!b) then s.feedSource p (!b) else s.feedSelect p).feedWatch p
      | none => s)

/-- REVERT_TIME (R237). -/
def execRevertTime (p : Fin 2) (s : State) : Out :=
  let pref := s.feedPref p
  .next (if s.due (.feedRevert p) ∧ s.dist.feed[p].sel = some (!pref) ∧ s.feedQual p pref ∧ s.distRuns then
      s.feedTransfer p pref true
    else s)

/-! ## Quench (R239 to R241) -/

/-- Source `q` is asserted now (R239 to R241): QUENCH_IN is no source while this chip drives the line or has just released it. -/
def State.quenchAsserted (s : State) (q : Fin 18) : Bool :=
  if h : q.val < 16 then s.dist.br[q.val].breaker
  else if q.val = 16 then s.dist.quenchIn ∧ ¬ s.dist.quenchOut ∧ ¬ s.dist.quenchIgnore
  else false

/-- What a gate's channel asks for once no latch forces it off: a fast sink becomes the normal one (R240, R243). -/
def State.sunkDrive (s : State) (g : Fin 24) : GateDrive := if s.pins.gate[g] = .fastSink then .normalSink else s.pins.gate[g]

/-- What targets do when a latch is released (R240): a forced gate sinks normally, unless the 10 µs of a trip or the dead time of a pair still
run. A standby only tracks its channels (R242). -/
def State.quenchFree (s : State) : State :=
  if s.standby then s.quenchPins else
  let s := s.quenchPins
  let s := State.each (List.finRange 16) (fun k => fun s =>
    if s.quenched k then s
    else match s.dist.br[k].st with
      | .quenched => (s.modBr k fun b => { b with toOff := true }).brStop k
      | _ => if s.running (.brSink k) then s else s.drive (brGate k) (s.sunkDrive (brGate k))) s
  let s := State.each (List.finRange 2) (fun p => fun s =>
    let s := if s.dist.feed[p].next.isSome then s
      else (s.drive (fdGate p false) (s.sunkDrive (fdGate p false))).drive (fdGate p true) (s.sunkDrive (fdGate p true))
    if s.dist.feed[p].phase = .off then s.feedStart p else s) s
  let s := State.each (List.finRange 4) (fun n => fun s =>
    if s.dist.str[n] = .quenched ∧ ¬ s.quenched (stGate n) then
      ((s.setStr n .off).drive (stGate n) .normalSink).modStr n fun x => { x with waitMatch := true }
    else if s.running (.brSink (stGate n)) then s else s.drive (stGate n) (s.sunkDrive (stGate n))) s
  State.each (List.finRange 32) (fun r => fun s =>
    if s.cfg.railKind r = 1 ∧ s.seq.rail[r].st = .heldOff ∧ ¬ s.quenched (24 + s.cfg.railInst r) then s.startRail r else s) s

/-- Releases the latch of a source (R240). -/
def State.releaseQuench (q : Fin 18) (s : State) : State :=
  let s : State := { s with dist.quench := s.dist.quench &&& ~~~ BitVec.ofNat 18 (2 ^ q.val) }
  ((s.disarm (.quenchRelease q)).raise 0x070E noInst [q.val + 1]).quenchFree

/-- Starts the release time of a source that is inactive with its latch set (R240); 0 means manual release only. -/
def State.quenchTime (q : Fin 18) (s : State) : State :=
  let t := s.ns 0x2651 (q + 1)
  if t ≠ 0 ∧ s.dist.quench.getLsbD q ∧ ¬ s.quenchAsserted q then s.arm (.quenchRelease q) t else s

/-- QUENCH_IN (R239, R241): the line, filtered by 20 ns, goes low or high. -/
def execQuenchIn (low : Bool) (s : State) : Out :=
  let s : State := { s with dist.quenchIn := low }
  .next (if s.quenchAsserted 16 then (s.setQuench 16).disarm (.quenchRelease 16) else s.quenchTime 16)

/-- The write of 0x2600:03 (R239). -/
def objSoftwareQuench : ObjWrite where
  effect := fun _ _ s => (s.setQuench 17).quenchTime 17

/-- SOFTWARE_QUENCH (R239). -/
def execSoftwareQuench (w : Session) (d : List Byte) (s : State) : Out := .next (s.writeBy w 0x2600 3 d objSoftwareQuench)

/-- The source that a written number names (R240). -/
def quenchSource (d : List Byte) : Option (Fin 18) :=
  let q := leValue d
  if h : 1 ≤ q ∧ q ≤ 18 then some ⟨q - 1, by omega⟩ else none

/-- The write of 0x2600:04 (R240). -/
def objQuenchRelease : ObjWrite where
  busy := fun s d =>
    match quenchSource d with
    | some q => refuseIf (s.quenchAsserted q ∨ ¬ s.dist.quench.getLsbD q)
    | none => none
  effect := fun _ d s =>
    match quenchSource d with
    | some q => s.releaseQuench q
    | none => s

/-- QUENCH_RELEASE (R240). -/
def execQuenchRelease (w : Session) (d : List Byte) (s : State) : Out := .next (s.writeBy w 0x2600 4 d objQuenchRelease)

/-- QUENCH_AUTO_RELEASE (R240). -/
def execQuenchAutoRelease (q : Fin 18) (s : State) : Out :=
  .next (if s.due (.quenchRelease q) ∧ ¬ s.quenchAsserted q ∧ s.dist.quench.getLsbD q then s.releaseQuench q else s)

/-- QUENCH_IN_REARM (R241): 1 µs after this chip released QUENCH_OUT. -/
def execQuenchInRearm (s : State) : Out :=
  .next (if s.due .quenchIgnore then
      let s : State := { s.disarm .quenchIgnore with dist.quenchIgnore := false }
      if s.quenchAsserted 16 then s.setQuench 16 else s
    else s)

end Sys2Proof.Machine
end

