-- ==== Sys2Proof/Machine/Sequencer.lean ====
section
/-! DEFINITION. The sequencer's commands (R269 to R295). -/

namespace Sys2Proof.Machine

/-! ## Windows (R275) -/

/-- V_DS of a pair's selected feed; none where no output sense is named (R234, R244). -/
def State.feedVds (s : State) (p : Fin 2) : Option Rat :=
  let c := s.raw (0x2630 + p) 9
  match s.dist.feed[p].sel with
  | none => none
  | some b =>
    let v := s.v200 (s.raw (0x2630 + p) (0x0A + b.toNat))
    if c ≤ 47 then some (absR v - absR (s.v200 c))
    else if 0x80 ≤ c ∧ c ≤ 0x83 then some (absR v - absR ((s.meas.hka[c - 0x80]?).getD 0))
    else none

/-- The channels that V_DS of the selected feed reads are READY (R485). -/
def State.feedVdsReady (s : State) (p : Fin 2) : Bool :=
  match s.dist.feed[p].sel with
  | none => false
  | some b => s.ready (s.raw (0x2630 + p) (0x0A + b.toNat)) ∧ (47 < s.raw (0x2630 + p) 9 ∨ s.ready (s.raw (0x2630 + p) 9))

/-- The settle of a pair's selected feed (R234): V_DS at or below 1.0 V for 10 ms, the branch defaults (DEDUCED, log entry 24), or the
settle time alone where no output sense is named. -/
def State.feedSettle (p : Fin 2) (s : State) : State :=
  if s.dist.feed[p].phase ≠ .settling then s
  else
    let s := match s.feedVds p with
      | some v => s.armWhile (v ≤ 1 ∧ s.feedVdsReady p) (.feedSettle p) 10000000
      | none => s
    if s.due (.feedSettle p) then
      ((s.disarm (.feedSettle p)).modFeed p fun f => { f with phase := .good }).feedWatch p
    else s

/-- A loop ramps: V_set differs from the value it moves to (R167). -/
def State.ramping (s : State) (l : Fin 8) : Bool := s.loop[l].running ∧ s.loop[l].vSet ≠ s.loop[l].vTarget

/-- The rail is in window (R275); `first` asks as a rail in STARTING does: only then a feed pair's window needs its settle time too. -/
def State.railWindow (s : State) (r : Fin 32) (first : Bool) : Bool :=
  let i := s.cfg.railInst r
  match s.cfg.railKind r with
  | 1 => if h : i < 8 then
      let x := s.loop[i]
      x.running ∧ absR (x.vOut - x.vSet) ≤ s.real (0x2A10 + r) 8 * absR x.vSet ∧ ¬ (first ∧ s.ramping ⟨i, h⟩)
    else false
  | 2 => if h : i < 16 then s.dist.br[i].st = .on else false
  | 3 => if h : i < 2 then
      let p := s.dist.feed[i].phase
      match s.feedVds ⟨i, h⟩ with
      | some v =>
        (decide (p = .good) || (!first && decide (p = .settling))) && (if s.feedVdsReady ⟨i, h⟩ then decide (v ≤ 1) else s.seq.rail[r].inWindow)
      | none => p = .good
    else false
  | 4 => if h : i < 4 then s.dist.str[i] = .on else false
  | 5 =>
    let fb := s.raw (0x2A10 + r) 0x13
    let lvl := s.flag (0x2A10 + r) 0x14
    if fb ≤ 23 then s.pins.gpioIn.getLsbD fb = lvl
    else s.pins.gpioDir.getLsbD i ∧ s.pins.gpioOut.getLsbD i = lvl
  | _ => false

/-- Every dependency of a rail is satisfied (R274). -/
def State.depsOk (s : State) (r : Fin 32) : Bool :=
  (leBytes 4 (s.raw (0x2A10 + r) 3)).all fun b =>
    match s.seq.rail[b.toNat]? with
    | some x => b = 0xFF ∨ x.st = .good ∨ x.st = .privFailed
    | none => true

/-! ## Evaluation (R272 to R277, R281) -/

/-- The owner takes a rail to HELD_OFF (R281). -/
def State.holdRail (r : Fin 32) (s : State) : State := ((s.railQuiet r).railTo r .heldOff).dropPg r

/-- A rail enters PG_DELAY (R276). -/
def State.enterPgDelay (r : Fin 32) (s : State) : State :=
  ((s.railTo r .pgDelay).disarm (.railFault r)).arm (.railPg r) (s.ns (0x2A10 + r) 5)

/-- PG is withheld: out of window in PG_DELAY (R276). The start timeout goes on, or starts where none ran. -/
def State.withhold (r : Fin 32) (s : State) : State :=
  let s := (s.modRail r fun x => { x with st := .starting, withheld := true }).disarm (.railPg r)
  (s.raise 0x0903 r []).armOnce (.railTimeout r) (s.ns (0x2A10 + r) 6)

/-- A GOOD rail leaves its window (R277, R278). -/
def State.leaveWindow (r : Fin 32) (s : State) : State :=
  let s := (s.railTo r .outOfWindow).disarm (.railGood r)
  let s := if s.cfg.railKind r = 2 then s else s.arm (.railFault r) (s.ns (0x2A10 + r) 7)
  if s.raw (0x2A10 + r) 9 = 0 then (s.dropPg r).raise 0x0911 r [] else s

/-- The owner releases a rail: STARTING with a fresh start timeout; a loop starts only now (R281, R240). -/
def State.unholdRail (r : Fin 32) (s : State) : State :=
  if s.cfg.railKind r = 1 then s.startRail r else (s.railTo r .starting).arm (.railTimeout r) (s.ns (0x2A10 + r) 6)

/-- The window and the owner of one rail at an evaluation. -/
def State.railWindowStep (r : Fin 32) (s : State) : State :=
  let x := s.seq.rail[r].st
  let w := s.railWindow r (x = .starting)
  let s := s.modRail r fun y => { y with inWindow := w }
  if railStarted x ∧ x ≠ .heldOff ∧ s.ownerHolds r then s.holdRail r
  else match x with
    | .starting | .privFailed => if w then s.enterPgDelay r else s
    | .pgDelay => if w then s else s.withhold r
    | .good => if w then s else s.leaveWindow r
    | .outOfWindow =>
      if ¬ w then s
      else if s.seq.rail[r].pg then
        ((s.modRail r fun y => { y with st := .good, tGood := s.tb.tod }).disarm (.railFault r)).arm (.railGood r) 60000000000
      else s.enterPgDelay r
    | .heldOff => if s.ownerHolds r then s else s.unholdRail r
    | _ => s

/-- The start of one rail at an evaluation: dependencies and start delay (R274). -/
def State.railStartStep (r : Fin 32) (s : State) : State :=
  if s.cfg.railKind r = 0 then s
  else
    let s := if s.seq.rail[r].st = .off ∧ s.wanted r then s.railTo r .waitDeps else s
    match s.seq.rail[r].st with
    | .waitDeps => if s.depsOk r then (s.railTo r .startDelay).arm (.railStart r) (s.ns (0x2A10 + r) 4) else s
    | .startDelay => if s.depsOk r then s else (s.railTo r .waitDeps).disarm (.railStart r)
    | _ => s

/-- The sequencer acts: released, committed, and not tracking as a standby (R292). -/
def State.seqRuns (s : State) : Bool := s.up ∧ s.seq.committed ∧ ¬ s.standby

/-- RAIL_EVALUATION (R272). -/
def execRailEvaluation (s : State) : Out :=
  .next (if s.seqRuns then
      let s := State.each (List.finRange 2) State.feedSettle s
      let s := State.each (List.finRange 32) State.railWindowStep s
      (State.each (List.finRange 32) State.railStartStep s).drivePg.seqSettle
    else s)

/-! ## Times of a rail -/

/-- START_DELAY_END (R274). -/
def execStartDelayEnd (r : Fin 32) (s : State) : Out :=
  .next (if s.seqRuns ∧ s.seq.rail[r].st = .startDelay ∧ s.due (.railStart r) ∧ s.depsOk r then
      ((s.disarm (.railStart r)).startRail r).seqRefresh
    else s)

/-- PG_DELAY_END (R276): out of window wins. The PG of a rail adopted with its pin held low rises now (R291). -/
def execPgDelayEnd (r : Fin 32) (s : State) : Out :=
  .next (if s.seqRuns ∧ s.seq.rail[r].st = .good ∧ ¬ s.seq.rail[r].pg ∧ s.due (.railPg r) then
      ((s.disarm (.railPg r)).modRail r fun x => { x with pg := true }).drivePg
    else if s.seqRuns ∧ s.seq.rail[r].st = .pgDelay ∧ s.due (.railPg r) then
      if s.railWindow r false then
        let s := (s.railQuiet r).modRail r fun x => { x with st := .good, pg := true, inWindow := true, tGood := s.tb.tod }
        let s : State := { s with seq.privFail := s.seq.privFail &&& ~~~ BitVec.ofNat 32 (2 ^ r.val) }
        ((s.arm (.railGood r) 60000000000).drivePg).seqRefresh
      else s.withhold r
    else s)

/-- START_TIMEOUT (R282). -/
def execStartTimeout (r : Fin 32) (s : State) : Out :=
  let x := s.seq.rail[r].st
  .next (if s.seqRuns ∧ (x = .starting ∨ x = .pgDelay) ∧ s.due (.railTimeout r) then
      let s := (s.disarm (.railTimeout r)).raise 0x0901 r []
      if s.flag (0x2A10 + r) 0x0E then
        let s := (s.railTo r .privFailed).disarm (.railPg r)
        let s : State := { s with seq.privFail := s.seq.privFail ||| BitVec.ofNat 32 (2 ^ r.val) }
        (s.raise 0x0905 r []).seqRefresh
      else ({ s with seq.latchAfter := true }.shutdownFrom r).seqSettle
    else s)

/-- RAIL_FAULT (R278): the rail's own fault timer expires. Immediate faults are taken where they occur (R280). -/
def execRailFault (r : Fin 32) (s : State) : Out :=
  .next (if s.seqRuns ∧ s.seq.rail[r].st = .outOfWindow ∧ s.due (.railFault r) then
      (((s.disarm (.railFault r)).dropPg r).recordFault r 0x0902).react r false
    else s)

/-- A rail's off path is complete: MIN_OFF, and the next rail in reverse order (R283). -/
def State.finishPath (r : Fin 32) (s : State) : State :=
  let s := (s.railTo r .minOff).disarm (.railDischarge r)
  let s := if s.cfg.railKind r = 2 then s else s.arm (.railMinOff r) (s.ns (0x2A10 + r) 0x0F)
  (if s.seq.stoppingNow = some r then s.stopNext else s).seqSettle

/-- OFF_PATH_COMPLETE (R283). -/
def execOffPathComplete (r : Fin 32) (s : State) : Out :=
  .next (if s.seqRuns ∧ s.seq.rail[r].st = .stopping ∧ s.pathDone r false then s.finishPath r else s)

/-- DISCHARGE_TIMEOUT (R283). -/
def execDischargeTimeout (r : Fin 32) (s : State) : Out :=
  .next (if s.seqRuns ∧ s.seq.rail[r].st = .stopping ∧ s.due (.railDischarge r) then (s.raise 0x090B r []).finishPath r else s)

/-- The minimum off time of a rail has ended: its own, or for a branch the channel's STOPPING time (R283). -/
def State.minOffOver (s : State) (r : Fin 32) : Bool :=
  let i := s.cfg.railInst r
  if s.cfg.railKind r = 2 then (if h : i < 16 then s.dist.br[i].st ≠ .stopping else true) else s.due (.railMinOff r)

/-- MIN_OFF_END (R279, R283, R285). -/
def execMinOffEnd (r : Fin 32) (s : State) : Out :=
  .next (if s.seqRuns ∧ s.seq.rail[r].st = .minOff ∧ s.minOffOver r then
      let s := s.disarm (.railMinOff r)
      (match s.seq.rail[r].why, s.commanded r with
        | .retry, true => (s.railTo r .retryWait).arm (.railRetry r) (s.ns (0x2A10 + r) 0x0C)
        | .latch, true => s.latchRail r
        | _, _ => s.railTo r .off).seqSettle
    else s)

/-- RAIL_RETRY_END (R279). -/
def execRailRetryEnd (r : Fin 32) (s : State) : Out :=
  .next (if s.seqRuns ∧ s.seq.rail[r].st = .retryWait ∧ s.due (.railRetry r) then
      let s := (s.disarm (.railRetry r)).modRail r fun x => { x with st := .startDelay, retries := x.retries + 1 }
      (s.arm (.railStart r) (s.ns (0x2A10 + r) 4)).seqRefresh
    else s)

/-- RAIL_RETRIES_CLEARED (R279). -/
def execRailRetriesCleared (r : Fin 32) (s : State) : Out :=
  .next (if s.seq.rail[r].st = .good ∧ s.due (.railGood r) then
      (s.disarm (.railGood r)).modRail r fun x => { x with retries := 0 }
    else s)

/-- OFF_DELAY_END (R283). -/
def execOffDelayEnd (r : Fin 32) (s : State) : Out :=
  .next (if s.seqRuns ∧ s.seq.stoppingNow = some r ∧ s.due (.railOffDelay r) then
      (s.disarm (.railOffDelay r)).stopRail r s.seq.rail[r].why
    else s)

/-- INPUT_LOSS_DELAY (R286). -/
def execInputLossDelay (s : State) : Out :=
  .next (if s.seqRuns ∧ s.shelf.holdup ∧ s.due .inputLoss then
      let s := s.disarm .inputLoss
      let m := s.raw 0x2A00 5
      let s := State.each (List.finRange 32) (fun r => fun s =>
        if bit m r ∧ s.cfg.railKind r ≠ 0 ∧ s.commanded r then s.modRail r fun x => { x with inputLossOff := true } else s) s
      (s.shutdown fun r => bit m r).seqSettle
    else s)

/-! ## Writes -/

/-- System on written 1 (R271, R285): a power-up begins, after the power-down in progress where one runs. -/
def State.systemOn (s : State) : State :=
  if s.seq.sysOn ∨ s.seq.st = .latched then s
  else if s.pathsDone ∧ (List.finRange 32).all fun r => s.seq.rail[r].st ≠ .minOff then
    { s with seq.sysOn := true, seq.order := [] }.seqRefresh
  else { s with seq.onAfter := true }

/-- System on written 0 (R282, R284): latched rails and the latched sequencer clear, every rail shuts down. -/
def State.systemOff (s : State) : State :=
  let up := s.seqState = .poweringUp
  let s : State := { s with seq.sysOn := false, seq.onAfter := false, seq.st := if s.seq.st = .latched then .off else s.seq.st }
  let s := if up then s.raise 0x090A noInst [] else s
  let s := State.each (List.finRange 32) (fun r => fun s =>
    if s.seq.rail[r].st = .latched then s.stopRail r .command else s) s
  (s.shutdown fun _ => true).seqSettle

/-- The write of 0x2A00:01 (R271, R301, R418). -/
def objSystemOn : ObjWrite where
  busy := fun s d => refuseIf (leValue d = 1 ∧ (s.thm.lockout ∨ s.rst.protective))
  effect := fun _ d s => if leValue d = 1 then s.systemOn else s.systemOff

/-- SYSTEM_ON_WRITE (R271). -/
def execSystemOnWrite (w : Session) (d : List Byte) (s : State) : Out := .next (s.writeBy w 0x2A00 1 d objSystemOn)

/-- A rail's command (R271, R284). -/
def State.railCommand (r : Fin 32) (on : Bool) (s : State) : State :=
  let x := s.seq.rail[r].st
  let abandon := ¬ on ∧ s.seqState = .poweringUp ∧ railStarting x
  let s := s.modRail r fun y => { y with cmd := on }
  if on then s
  else
    let s := if abandon then s.raise 0x090A noInst [] else s
    (s.stopRail r .command).seqSettle

/-- The write of 0x2A10+r:15 (R271). -/
def objRailCommand (r : Fin 32) : ObjWrite where
  effect := fun _ d s => s.railCommand r (leValue d = 1)

/-- RAIL_COMMAND_WRITE (R271). -/
def execRailCommandWrite (w : Session) (r : Fin 32) (d : List Byte) (s : State) : Out :=
  .next (s.writeBy w (0x2A10 + r) 0x15 d (objRailCommand r))

/-- A group's command (R288): 1 after 0 clears the group's shutdown. -/
def State.groupCommand (g : Fin 8) (on : Bool) (s : State) : State :=
  let m := BitVec.ofNat 8 (2 ^ g.val)
  if ¬ on then { s with seq.groupCmd := s.seq.groupCmd &&& ~~~ m }
  else if s.seq.groupCmd.getLsbD g then s
  else
    let s : State := { s with seq.groupCmd := s.seq.groupCmd ||| m, seq.groupsDown := s.seq.groupsDown &&& ~~~ m }
    State.each (List.finRange 32) (fun r => fun s =>
      if s.groupOf r = some g then s.modRail r fun x => { x with groupOff := false } else s) s

/-- The write of 0x2A01:01 to :08 (R288). -/
def objGroupCommand (g : Fin 8) : ObjWrite where
  effect := fun _ d s => s.groupCommand g (leValue d = 1)

/-- GROUP_COMMAND_WRITE (R288). -/
def execGroupCommandWrite (w : Session) (g : Fin 8) (d : List Byte) (s : State) : Out :=
  .next (s.writeBy w 0x2A01 (g + 1) d (objGroupCommand g))

end Sys2Proof.Machine
end

