-- ==== Sys2Proof/Machine/Spur.lean ====
section
/-! DEFINITION. The spur plan: forbidden bands, the candidates of loops and rectifiers, and their assignment (R101 to R103). -/

namespace Sys2Proof.Machine

/-! ## Clearing the plan (R101) -/

/-- The forbidden bands of a view: low and high edge, both inside. -/
def Cfg.bands (c : Cfg) : List (Rat × Rat) :=
  (List.range (c 0x2120 1)).map fun b => (c.real 0x2121 (b + 1), c.real 0x2122 (b + 1))

/-- A frequency clears the plan: every harmonic's interval lies wholly outside every band. -/
def Cfg.clears (c : Cfg) (tol f : Rat) : Bool :=
  (List.range (c 0x2120 2)).all fun h =>
    let x := f * ((h + 1 : Nat) : Rat)
    c.bands.all fun b => x * (1 + tol) < b.1 ∨ b.2 < x * (1 - tol)

/-- The candidate to try earlier: nearer to the nominal frequency, or at equal distance the lower one (R103). -/
def nearer (f0 : Rat) (a b : Nat × Rat) : Bool :=
  absR (a.2 - f0) < absR (b.2 - f0) ∨ (absR (a.2 - f0) = absR (b.2 - f0) ∧ a.2 < b.2)

/-- The first candidate in the order of R103. -/
def firstOf (f0 : Rat) : List (Nat × Rat) → Option (Nat × Rat)
  | [] => none
  | a :: r =>
    match firstOf f0 r with
    | none => some a
    | some b => some (if nearer f0 b a then b else a)

/-! ## Loops (R102) -/

/-- The switching frequency of a period in timebase cycles. -/
def loopFreq (p : Nat) : Rat := 200000000 / (p : Rat)

/-- A loop takes part in the plan: a rail enables it (R103). -/
def Cfg.loopEnabled (c : Cfg) (l : Nat) : Bool := (c.railOf 1 l).isSome

/-- A loop's candidates within its permitted deviation (R102). -/
def Cfg.loopCandidates (c : Cfg) (l : Nat) : List (Nat × Rat) :=
  let f0 := c.real (0x2410 + l) 2
  ((List.range 1901).map fun k => (k + 100, loopFreq (k + 100))).filter fun p => absR (p.2 - f0) ≤ c.real 0x2120 (0x20 + l) * f0

/-- What the plan finds for a unit: a slot, none, or a conflict with SYNC_IN. -/
inductive SpurFit | slot (n : Nat) (f : Rat) | noFit | syncConflict
  deriving DecidableEq, Repr

/-- The assignment of a loop (R102, R103). -/
def Cfg.loopFit (c : Cfg) (l : Nat) : SpurFit :=
  if c.flag (0x2410 + l) 0x11 then
    let f := c.real 0x2400 1
    if c.clears (1 / 1000) f then .slot (roundEven (200000000 / f)).toNat f else .syncConflict
  else
    match firstOf (c.real (0x2410 + l) 2) ((c.loopCandidates l).filter fun p => c.clears (c.real 0x2120 3) p.2) with
    | some p => .slot p.1 p.2
    | none => .noFit

/-! ## Rectifiers (R102, R213) -/

/-- A rectifier is present for the plan: its capability report has been read (R103, R214). -/
def recPresent (r : Rectifier) : Bool :=
  match r.st with
  | .commanded | .fallback | .fault | .notTracking => true
  | .joining => 12 ≤ r.joinStep
  | _ => false

/-- The range and step of a rectifier's capability report in Hz: lowest, highest, step, nominal (R213). -/
def Rectifier.span (r : Rectifier) : Nat × Nat × Nat × Nat := (100 * r.regs[3], 100 * r.regs[4], r.regs[5], 100 * r.regs[6])

/-- A rectifier's candidates: index and frequency (R102). -/
def Rectifier.candidates (r : Rectifier) : List (Nat × Rat) :=
  let x := r.span
  (List.range ((x.2.1 - x.1) / x.2.2.1 + 1)).map fun k => (k, ((x.1 + k * x.2.2.1 : Nat) : Rat))

/-- The assignment of a rectifier (R102, R103). -/
def Cfg.recFit (c : Cfg) (r : Rectifier) : SpurFit :=
  match firstOf ((r.span.2.2.2 : Nat) : Rat) (r.candidates.filter fun p => c.clears (c.real 0x2120 4) p.2) with
  | some p => .slot p.1 p.2
  | none => .noFit

/-! ## The plan of a commit (R103) -/

/-- The code of a unit that finds no slot. -/
def SpurFit.code : SpurFit → Option Nat
  | .slot .. => none
  | .noFit => some 0x0110
  | .syncConflict => some 0x0111

/-- The refusal of a plan: its code and the assigned-frequency object that names the unit. A rectifier that the configuration does not enable takes no
part. -/
def Cfg.spurRefusal (c : Cfg) (recs : Vector Rectifier 32) : Option (Nat × Nat) :=
  ((List.finRange 8).findSome? fun l : Fin 8 =>
    if c.loopEnabled l then (c.loopFit l).code.map fun x => (x, objSelector 0x2124 (l + 1)) else none) <|>
  ((List.finRange 32).findSome? fun i : Fin 32 =>
    if recPresent recs[i] ∧ bit (c 0x2E10 2) i then (c.recFit recs[i]).code.map fun x => (x, objSelector 0x2125 (i + 1)) else none)

/-- Periods of the loops under a plan, in timebase cycles; 0 unassigned. -/
def Cfg.spurLoops (c : Cfg) : Vector Nat 8 := Vector.ofFn fun l =>
  if c.loopEnabled l then (match c.loopFit l with | .slot n _ => n | _ => 0) else 0

/-- Frequencies of the loops under a plan in Hz; 0 unassigned. -/
def Cfg.spurFreqs (c : Cfg) : Vector Rat 8 := Vector.ofFn fun l =>
  if c.loopEnabled l then (match c.loopFit l with | .slot _ f => f | _ => 0) else 0

/-- Gives a rectifier its slot under the plan in force: its index is to be sent where it changes (R103). -/
def State.assignRec (i : Fin 32) (s : State) : State :=
  let r := s.shelf.rects[i]
  match s.cfg.recFit r with
  | .slot _ f =>
    if s.tb.recF[i] = f then s
    else { s with tb.recF := s.tb.recF.set i f }.modRec i fun x => { x with freqPending := decide (x.st ≠ RecState.joining) }
  | _ => { s with tb.recF := s.tb.recF.set i 0 }

/-- The frequency index of a rectifier's assignment; 0xFFFF none (R213). -/
def State.freqIndex (s : State) (i : Fin 32) : Nat :=
  let x := s.shelf.rects[i].span
  if s.tb.recF[i] = 0 ∨ x.2.2.1 = 0 then 0xFFFF
  else ((s.tb.recF[i] - (x.1 : Rat)) / (x.2.2.1 : Rat)).floor.toNat

end Sys2Proof.Machine
end

