-- ==== Sys2Proof/Machine/Shelf.lean ====
section
/-! DEFINITION. The shelf bus loop, sharing, capping, hold-up and the share link (R188 to R220). The frame boundary, the snapshot and the
launch of the mirror frame stand in Frame.lean. -/

namespace Sys2Proof.Machine

/-- Rounds half up to a natural number. -/
def natRound (q : Rat) : Nat := (q + 1 / 2).floor.toNat

/-! ## The link (R205, R208, R209) -/

/-- The ports that the mode enables: bit 0 port A, bit 1 port B (R205). -/
def State.linkPorts (s : State) : BitVec 2 := if s.raw 0x2E10 1 = 0 then 1 else 3

/-- The share link transmits: after the first commit of the shelf block, by a chip that drives its shared outputs (R42, R209). -/
def State.linkRuns (s : State) : Bool := s.up ∧ s.tbRuns ∧ s.shelf.linkOn ∧ ¬ s.blkHeld 2

/-- A rectifier is enabled (R214). -/
def State.recEnabled (s : State) (i : Fin 32) : Bool := bit (s.raw 0x2E10 2) i

/-- A rectifier lies in its port mode's range (R205). -/
def Cfg.recInRange (c : Cfg) (i : Fin 32) : Bool := c 0x2E10 1 ≠ 0 ∨ i.val < 16

/-- The rectifier that replies in slot `j` of the frame (R210). -/
def State.slotRec (s : State) (j : Fin 4) : Fin 32 := ⟨4 * (s.shelf.seq.toNat % 8) + j.val, by omega⟩

/-- A rectifier is present (R201): enabled and not absent. -/
def recSeen (r : Rectifier) : Bool := r.st ≠ .disabled ∧ r.st ≠ .absent

/-! ## Capacities (R192) -/

/-- I_max of a rectifier, from its capability report. -/
def Rectifier.iMax (r : Rectifier) : Rat := (r.regs[2] : Rat) / 100

/-- The limit I_lim in force of a rectifier: 0x2E3A, where 0 means I_max. -/
def State.recLimit (s : State) (i : Fin 32) : Rat :=
  let l := s.real 0x2E3A (i + 1)
  if l = 0 then s.shelf.rects[i].iMax else l

/-- θ of R192 at a temperature. -/
def State.derate (s : State) (t : Rat) : Rat :=
  let td := s.real 0x2E01 1
  let d := s.real 0x2E01 2
  let m := s.real 0x2E01 3
  if t ≤ td then 1 else if t < td + d then 1 - (1 - m) * (t - td) / d else m

/-- The capacity of a rectifier before the factor τ (R192). -/
def State.capacityOf (s : State) (i : Fin 32) : Rat :=
  let x := s.shelf.rects[i]
  let v := absR s.busRef
  let r := if v = 0 then x.iMax else min x.iMax ((x.regs[1] : Rat) / v)
  if ¬ recCounts x ∨ r = 0 then 0
  else min (r * min 1 (x.avail / r) * s.derate x.temp) (s.recLimit i)

/-- Recomputes every capacity from the telemetry (R192, R194). -/
def State.capacities (s : State) : State :=
  { s with shelf.rects := Vector.ofFn fun i => { s.shelf.rects[i] with base := s.capacityOf i } }

/-- The capacities u that a demand assembly uses: a throttle factor applies from the next assembly (R192, R303). -/
def State.throttled (s : State) : State :=
  { s with shelf.rects := Vector.ofFn fun i => { s.shelf.rects[i] with cap := s.tau i * s.shelf.rects[i].base } }

/-! ## Hold-up (R201 to R203, R286, R287) -/

/-- Enters hold-up; the cause is 0 mains lost or 1 shortfall (log entry 18). -/
def State.enterHoldup (cause : Nat) (s : State) : State :=
  let s : State := { s with shelf.holdup := true, shelf.stages := 0, shelf.stageNo := 0xFF }
  let s := State.each (List.range 8) (fun n => State.disarm (.stageDwell n)) s
  ((s.disarm .holdupQualify).raise 0x050C noInst [cause]).arm .inputLoss (s.ns 0x2A00 6)

/-- MAINS_LOST is judged, and hold-up entered on it (R201). -/
def State.mainsCheck (s : State) : State :=
  let seen := s.shelf.rects.toList.filter recSeen
  let lost := seen ≠ [] ∧ seen.all fun r => ¬ r.acOk
  let s : State := { s with shelf.mainsLost := lost }
  if lost ∧ ¬ s.shelf.holdup then s.enterHoldup 0 else s

/-- The condition that ends hold-up when it has held for the qualification time (R201). -/
def State.supplyBack (s : State) : Bool :=
  s.shelf.holdup ∧ (s.shelf.rects.toList.any fun r => recSeen r ∧ r.acOk) ∧ s.shelf.ff ≤ s.shelf.u

/-- Runs the qualification time of the end of hold-up. -/
def State.qualifyRun (s : State) : State := s.armWhile s.supplyBack .holdupQualify (s.ns 0x2E03 2)

/-- The branch mask of hold-up stage `k`. -/
def State.stageMask (s : State) (k : Nat) : Nat := s.raw 0x2E04 (3 * k + 3)

/-- Every used stage below `k` has been reached (R202). -/
def State.stagesBelow (s : State) (k : Nat) : Bool := (List.range k).all fun j => s.stageMask j = 0 ∨ s.shelf.stages.getLsbD j

/-- The rail names a branch of a mask. -/
def State.railInMask (s : State) (m : Nat) (r : Fin 32) : Bool := s.cfg.railKind r = 2 ∧ bit m (s.cfg.railInst r)

/-- Reaches a stage; the cause is 0 state of charge or 1 voltage (log entry 18). The rails of its mask carry INPUT_LOSS_OFF (R286). -/
def State.reachStage (k : Nat) (cause : Nat) (s : State) : State :=
  let m := s.stageMask k
  let s : State := { s with shelf.stages := s.shelf.stages ||| BitVec.ofNat 8 (2 ^ k), shelf.stageNo := k }
  let s := s.raise 0x050E noInst [k, cause]
  let s := State.each (List.finRange 32) (fun r => fun s =>
    if s.railInMask m r then s.modRail r fun x => { x with inputLossOff := true } else s) s
  if s.seqRuns then (s.shutdown fun r => s.railInMask m r).seqSettle else s

/-- Reaches every stage that is due, in ascending order (R202); the state of charge counts at E5's 1 s update only. -/
def State.stageSweep (soc : Option Rat) (s : State) : State :=
  State.each (List.range 8) (fun k => fun s =>
    let low : Bool := match soc with | some q => decide (q ≤ s.real 0x2E04 (3 * k + 1)) | none => false
    if ¬ s.shelf.holdup ∨ s.stageMask k = 0 ∨ s.shelf.stages.getLsbD k ∨ ¬ s.stagesBelow k then s
    else if low then s.reachStage k 0
    else if s.due (.stageDwell k) then s.reachStage k 1
    else s) s

/-- The dwell of the stages' voltage thresholds at a 10 kS/s output of the bus voltage (R202); it counts from the entry of hold-up. -/
def State.stageDwells (v : Rat) (s : State) : State :=
  State.each (List.range 8) (fun k => fun s =>
    s.armWhile (s.ready s.busCh ∧ s.shelf.holdup ∧ s.stageMask k ≠ 0 ∧ s.real 0x2E04 (3 * k + 2) ≤ v ∧ v ≤ 0) (.stageDwell k) (s.ns 0x2E03 3)) s

/-- VOLTAGE_STAGE_DWELL (R202). -/
def execVoltageStageDwell (n : Fin 8) (s : State) : Out :=
  .next (if s.due (.stageDwell n) ∧ ¬ s.standby then s.stageSweep none else s)

/-- SHORTFALL_TIMEOUT (R201). -/
def execShortfallTimeout (s : State) : Out :=
  .next (if s.due .shortfall ∧ ¬ s.shelf.holdup then (s.disarm .shortfall).enterHoldup 1 else s)

/-- The input-loss shutdown is abandoned (R287): INPUT_LOSS_OFF clears, rails that still wait to stop stay on. -/
def State.inputReturn (s : State) : State :=
  let s := State.each (List.finRange 32) (fun r => State.modRail r fun x => { x with inputLossOff := false }) (s.disarm .inputLoss)
  let s : State := { s with seq.queue := s.seq.queue.filter fun r => ¬ s.wanted r }
  let s := s.raise 0x090A noInst []
  match s.seq.stoppingNow with
  | some r => if s.running (.railOffDelay r) ∧ s.wanted r then (s.disarm (.railOffDelay r)).stopNext.seqSettle else s.seqSettle
  | none => s.seqSettle

/-- HOLDUP_ENDED (R201, R203). -/
def execHoldupEnded (s : State) : Out :=
  .next (if s.shelf.holdup ∧ s.due .holdupQualify then
      let s := s.disarm .holdupQualify
      let s : State := { s with shelf.holdup := false, shelf.stages := 0, shelf.stageNo := 0xFF }
      let s := State.each (List.range 8) (fun n => State.disarm (.stageDwell n)) s
      (s.raise 0x050D noInst []).inputReturn
    else s)

/-! ## Capping (R199, R200) -/

/-- The branches' rail that capping may switch off: started. -/
def State.capRail (s : State) (k : Fin 16) : Option (Fin 32) := (s.railOf 2 k).filter fun r => railStarted s.seq.rail[r].st

/-- Branches with a cap priority that remain on, the one to shed first at the head (R200). -/
def State.capOrder (s : State) : List (Fin 16) :=
  (List.range 15).flatMap fun p => (List.finRange 16).reverse.filter fun k =>
    s.raw 0x2E05 (k + 1) = p + 1 ∧ ¬ s.shelf.capShed.contains k ∧ (s.capRail k).isSome

/-- Sheds a branch (R200). -/
def State.capShedBranch (k : Fin 16) (s : State) : State :=
  let s : State := { s with shelf.capShed := k :: s.shelf.capShed }
  let s := (s.raise 0x050B k []).arm .capDwell (s.ns 0x2E02 6)
  match s.railOf 2 k with
  | some r => ((s.modRail r fun x => { x with shed := true }).stopRail r .command).seqSettle
  | none => s

/-- Restores the most recently shed branch, or releases capping's hold on it (R200, R202). -/
def State.capRestore (s : State) : State :=
  match s.shelf.capShed with
  | [] => s
  | k :: l =>
    let s := ({ s with shelf.capShed := l } : State).arm .capRestore (s.ns 0x2E02 7)
    match s.railOf 2 k with
    | some r => s.modRail r fun x => { x with shed := false }
    | none => s

/-- The override of capping (R200). -/
def State.capOverrideStep (soc : Rat) (s : State) : State :=
  let floor := s.real 0x2E02 4
  if s.shelf.capOverride then
    if floor + s.real 0x2E02 5 ≤ soc ∨ ¬ s.flag 0x2E02 1 then { s with shelf.capOverride := false } else s
  else if s.flag 0x2E02 1 ∧ soc ≤ floor - s.real 0x2E02 8 ∧ s.capOrder = [] then
    { s with shelf.capOverride := true }.raise 0x0510 noInst []
  else s

/-- Shed and restore (R200); a fault of LN09 stops the shedding (R198). -/
def State.capStep (soc : Rat) (s : State) : State :=
  let floor := s.real 0x2E02 4
  let waits := s.running .capDwell ∧ ¬ s.due .capDwell
  if s.shelf.capActive ∧ soc ≤ floor ∧ ¬ s.shelf.capHeld ∧ ¬ waits then
    match s.capOrder with
    | k :: _ => s.capShedBranch k
    | [] => s
  else if ¬ s.shelf.capActive ∧ floor + s.real 0x2E02 5 ≤ soc ∧ s.due .capRestore then s.capRestore
  else s

/-- The highest-numbered used stage's state-of-charge threshold; 0 where no stage is used (R204). -/
def State.socLast (s : State) : Rat :=
  match (List.range 8).reverse.find? fun k => s.stageMask k ≠ 0 with
  | some k => s.real 0x2E04 (3 * k + 1)
  | none => 0

/-- The autonomy (R204): connected strings' charge above the last threshold over the discharge current averaged over 10 s. -/
def State.autonomyNow (s : State) : Rat :=
  let h := s.shelf.dischHist
  let d : Rat := if h = [] then 0 else h.foldl (· + ·) 0 / (h.length : Nat)
  let last := s.socLast
  let q : Rat := ((List.finRange 4).filter fun n => s.strEnabled n ∧ s.strOn n).foldl
    (fun (a : Rat) n => a + max 0 (s.bat.str[n].q - last * s.bat.str[n].c)) 0
  if d < 1 then -1 else q / d

/-- CAP_EVALUATION (R200, R202, R204): E5's 1 s update. -/
def execCapEvaluation (s : State) : Out :=
  .next (if ¬ s.up then s
    else
      let soc := s.shelfSoc
      let i := -(s.meas.stI1.toList.foldl (· + ·) 0)
      let s : State := { s with shelf.soc := soc, shelf.dischHist := (i :: s.shelf.dischHist).take 10 }
      let s : State := { s with shelf.autonomy := s.autonomyNow }
      if s.standby then s else ((s.capOverrideStep soc).capStep soc).stageSweep (some soc))

/-! ## Feed-forward (R195) -/

/-- The channels of a set of branches' currents. -/
def State.branchChans (s : State) (f : Fin 16 → Bool) : List Nat :=
  (((List.finRange 16).filter f).map fun k : Fin 16 => s.raw (0x2610 + k) 0x15).filter fun c => c < 48

/-- The branch sum of the masked branches, at 200 kS/s. -/
def State.maskedSum (s : State) : Rat :=
  ((List.finRange 16).filter fun k : Fin 16 => bit (s.raw 0x2E00 0x0E) k).foldl (fun (a : Rat) (k : Fin 16) => a + s.v200 (s.raw (0x2610 + k) 0x15)) 0

/-- The unmasked branch sum, at 1 kS/s. -/
def State.branchSum (s : State) : Rat := (List.finRange 16).foldl (fun (a : Rat) (k : Fin 16) => a + s.v1k (s.raw (0x2610 + k) 0x15)) 0

/-- The bus current channel in use (R196). -/
def State.busCurCh (s : State) : Nat := if s.shelf.curAlt then s.raw 0x2E00 9 else s.raw 0x2E00 8

/-- The feed-forward sum that the adder delivers now. -/
def State.ffNow (s : State) : Rat :=
  let k := s.real 0x2E00 7
  match s.raw 0x2E00 6 with
  | 0 => if s.shelf.ffAlt then k * s.v200 s.busCurCh else k * s.maskedSum
  | 1 => k * s.v200 s.busCurCh
  | _ => 0

/-- The channels that the feed-forward sum reads now. -/
def State.ffChans (s : State) : List Nat :=
  match s.raw 0x2E00 6 with
  | 0 => if s.shelf.ffAlt then [s.busCurCh] else s.branchChans fun k => bit (s.raw 0x2E00 0x0E) k
  | 1 => [s.busCurCh]
  | _ => []

/-- The adder's sum follows an output of its channels; it keeps its value while one of them is not READY (R195, R485; DESIGN CHOICE, log
entry 91). -/
def State.ffAdd (s : State) : State := if s.ffChans.all s.ready then { s with shelf.ffSum := s.ffNow } else s

/-- FF_LATCH (R38 step 6, R195). -/
def execFfLatch (s : State) : Out := .next (if s.up ∧ s.tbRuns ∧ s.frameTime = 20000 then { s with shelf.ff := s.shelf.ffSum } else s)

/-- One comparison of the branch sum with the bus current, at a 1 kS/s output (R195). None is made, and no time of agreement runs, while one of
their channels is not READY (R485; DESIGN CHOICE, log entry 91). -/
def State.ffCompare (s : State) : State :=
  if ¬ (s.ready s.busCurCh ∧ (s.branchChans fun _ => true).all s.ready) then s.disarm .ffRestore
  else
    let bad := decide (s.real 0x2E00 0x0A < absR (s.branchSum - s.v1k s.busCurCh))
    let s : State := { s with shelf.ffRun := if bad then satInc 10 s.shelf.ffRun else 0 }
    s.armWhile (s.shelf.ffAlt ∧ ¬ bad) .ffRestore 1000000000

/-- FF_IMPLAUSIBLE (R195). -/
def execFfImplausible (s : State) : Out :=
  .next (if 10 ≤ s.shelf.ffRun ∧ ¬ s.shelf.ffAlt then ({ s with shelf.ffAlt := true } : State).raise 0x0508 noInst [] else s)

/-- FF_RESTORE (R195): 1 s of agreement. -/
def execFfRestore (s : State) : Out :=
  .next (if s.shelf.ffAlt ∧ s.due .ffRestore then { s.disarm .ffRestore with shelf.ffAlt := false } else s)

/-! ## Bus measurement and protection (R196 to R198) -/

/-- Inserts into a descending list. -/
def insertDown (v : Rat) : List Rat → List Rat
  | [] => [v]
  | a :: r => if a ≤ v then v :: a :: r else a :: insertDown v r

/-- The median of a list; the mean of the middle two for an even count. -/
def median (l : List Rat) : Rat :=
  let l := l.foldr insertDown []
  let n := l.length
  if n = 0 then 0 else if n % 2 = 1 then (l[n / 2]?).getD 0 else ((l[n / 2]?).getD 0 + (l[n / 2 - 1]?).getD 0) / 2

/-- Output voltages most recently reported by commanded rectifiers; one that has reported none yet is no report. -/
def State.recVolts (s : State) : List Rat := (s.shelf.rects.toList.filter fun r => r.st = .commanded ∧ r.voutSeen).map Rectifier.vout

/-- DISAGREE of a channel. -/
def State.disagrees (s : State) (c : Nat) : Bool := ((s.meas.ch[c]?).map Channel.disagree).getD false

/-- The partner is to be used (R196): of two READY channels the one that lies closer to what they are judged by while the pair disagrees, else the one
that is READY. With neither READY the choice stays as it `was` (DESIGN CHOICE, log entry 91). -/
def State.partnerUsed (s : State) (prim part : Nat) (was : Bool) (by_ : Option Rat) : Bool :=
  if 47 < part then false
  else match s.ready prim, s.ready part with
    | true, true => (match by_ with
      | some m => s.disagrees prim ∧ absR (s.v200 part - m) < absR (s.v200 prim - m)
      | none => false)
    | true, false => false
    | false, true => true
    | false, false => was

/-- The channels in use are chosen at a frame boundary; a change is recorded (R196). -/
def State.senseChoose (s : State) : State :=
  let volts := s.recVolts
  let was := (s.shelf.senseAlt, s.shelf.curAlt)
  let sum := if (s.branchChans fun _ => true).all s.ready then some s.branchSum else none
  let a := s.partnerUsed (s.raw 0x2E00 4) (s.raw 0x2E00 5) was.1 (if 3 ≤ volts.length then some (median volts) else none)
  let b := s.partnerUsed (s.raw 0x2E00 8) (s.raw 0x2E00 9) was.2 sum
  let s : State := { s with shelf.senseAlt := a, shelf.curAlt := b }
  let s := if a ≠ was.1 then s.raise 0x0505 noInst [s.busCh] else s
  if b ≠ was.2 then s.raise 0x0505 noInst [s.busCurCh] else s

/-- Frames in which neither bus-voltage channel is READY are counted (R196), once the shelf block has been committed (DESIGN CHOICE, log entry 91);
5 says that the loss is recorded. -/
def State.senseCount (s : State) : State :=
  let bad := ¬ s.ready (s.raw 0x2E00 4) ∧ ¬ s.ready (s.raw 0x2E00 5)
  { s with shelf.senseBad := if ¬ (s.shelf.linkOn ∧ bad) then 0 else if s.shelf.senseBad = 5 then 5 else satInc 4 s.shelf.senseBad }

/-- BUS_SENSE_LOST (R196): recorded once for a loss. -/
def execBusSenseLost (s : State) : Out :=
  .next (if s.shelf.senseBad = 4 then
      ({ s with shelf.senseBad := 5, shelf.droop := true } : State).raise 0x0504 noInst []
    else s)

/-- The bus voltage's limits at a 200 kS/s output (R197). An output of a channel that is not READY meets no condition (R485, DEDUCED, log entry
91). -/
def State.busLimits (s : State) : State :=
  let v := s.vBus
  let ov := s.real 0x2E00 0x0B
  let uv := s.real 0x2E00 0x0C
  let ok := s.ready s.busCh
  let s := s.armWhile (ok ∧ ¬ s.shelf.busOv ∧ v < ov) .busOv 1000000
  let s := s.armWhile (ok ∧ s.shelf.busOv ∧ ov + 1 / 2 ≤ v) .busOvClear 100000000
  let s := s.armWhile (ok ∧ ¬ s.shelf.busUv ∧ uv < v ∧ v ≤ 0) .busUv 1000000
  s.armWhile (ok ∧ s.shelf.busUv ∧ v ≤ uv - 1 / 2) .busUvClear 100000000

/-- BUS_OVERVOLTAGE (R197). -/
def execBusOvervoltage (s : State) : Out :=
  .next (if s.due .busOv then ({ s.disarm .busOv with shelf.busOv := true } : State).raise 0x0506 noInst [] else s)

/-- BUS_OV_CLEAR (R197). -/
def execBusOvClear (s : State) : Out :=
  .next (if s.due .busOvClear then { s.disarm .busOvClear with shelf.busOv := false } else s)

/-- BUS_UNDERVOLTAGE (R197). -/
def execBusUndervoltage (s : State) : Out :=
  .next (if s.due .busUv then ({ s.disarm .busUv with shelf.busUv := true } : State).raise 0x0507 noInst [] else s)

/-- BUS_UV_CLEAR (R197). -/
def execBusUvClear (s : State) : Out :=
  .next (if s.due .busUvClear then { s.disarm .busUvClear with shelf.busUv := false } else s)

/-- REC_NOT_TRACKING (R197). -/
def execRecNotTracking (i : Fin 32) (s : State) : Out :=
  .next (if s.shelf.rects[i].st = .commanded ∧ s.due (.notTracking i) then
      ((s.disarm (.notTracking i)).modRec i fun x => { x with st := .notTracking, base := 0, cap := 0 }).raise 0x050F i []
    else s)

/-! ## Writes that act without a commit (R188, R199, R209) -/

/-- The write of 0x2E00:02 (R188): the ramp turns towards it. -/
def objBusReference : ObjWrite := rwsWrite 0x2E00 2 fun _ s => s

/-- BUS_REFERENCE_WRITE (R188). -/
def execBusReferenceWrite (w : Session) (d : List Byte) (s : State) : Out := .next (s.writeBy w 0x2E00 2 d objBusReference)

/-- The write of 0x2E02:02 (R199, R217). -/
def objSiteCap : ObjWrite := rwsWrite 0x2E02 2 fun _ s => s

/-- SITE_CAP_WRITE (R199). -/
def execSiteCapWrite (w : Session) (d : List Byte) (s : State) : Out := .next (s.writeBy w 0x2E02 2 d objSiteCap)

/-- The write of 0x2E00:0F (R209): SHELF_OFF stands in the downlinks frozen after it. -/
def objShelfOff : ObjWrite where
  effect := fun _ d s => s.setRw 0x2E00 0x0F (leValue d)

/-- SHELF_OFF_WRITE (R209). -/
def execShelfOffWrite (w : Session) (d : List Byte) (s : State) : Out := .next (s.writeBy w 0x2E00 0x0F d objShelfOff)

/-- One frame's step of the bus reference (R188): 25 µs of the slew. -/
def State.refStep (s : State) : State :=
  if ¬ s.shelf.running then s
  else
    let d := s.real 0x2E00 3 / 40000
    { s with shelf.ref := clamp (s.shelf.ref - d) (s.shelf.ref + d) (s.real 0x2E00 2) }

/-! ## Start (R191) -/

/-- A sample that the boundary of a start has begun already is computed anew from its presets: it is the first one after the start. -/
def State.presetNow (n : Fin 12) (s : State) : State :=
  match s.lane[n].sample with
  | some x => if x.at_ = s.now then s.computeSample n else s
  | none => s

/-- Starts the shelf loop (R191): the reference from the bus voltage in use, the trim at 0 with LN10's states, the presets at the first samples. -/
def State.shelfStart (s : State) : State :=
  let s : State := { s with shelf.running := true, shelf.startPending := false, shelf.droop := false, shelf.ref := s.vBus, shelf.trim := 0,
                            shelf.presets := 3 }
  ((s.modLane (s.driverOf 10) Lane.zeroed).presetNow 8).presetNow 9

/-- SHELF_LOOP_START (R191): at the frame boundary at which a bus-voltage channel in use is READY. -/
def execShelfLoopStart (s : State) : Out :=
  .next (if s.linkRuns ∧ s.frameTime = 0 ∧ s.shelf.startPending ∧ s.ready s.busCh then s.shelfStart else s)

/-! ## Demand assembly (R193, R209) -/

/-- The code of a demand in units of 10 mA. -/
def demandCode (d : Rat) : Nat := min 65534 (natRound (100 * d))

/-- The demand of a rectifier: numeric, or none for 0xFFFF (R209). -/
def State.demandOf (s : State) (x : Rat) (r : Rectifier) : Option Rat :=
  if ¬ s.shelf.running ∨ s.shelf.droop then none
  else match r.st with
    | .commanded | .fallback | .fault | .notTracking => some (if s.shelf.busOv then 0 else r.cap * x)
    | _ => none

/-- The demand assembly (R193), with the flags and times that hang on it. -/
def State.demandAssembly (s : State) : State :=
  let s := s.throttled
  let s : State := { s with shelf.u := s.shelf.rects.toList.foldl (fun a r => a + r.cap) 0 }
  let y8 := sigRat (s.laneOut 8)
  let u := s.shelf.u
  let c := s.ceilingC
  let tot := y8 + s.shelf.ff
  let x := if u = 0 ∨ tot ≤ 0 then 0 else min tot (min c u) / u
  let rs : Vector Rectifier 32 := s.shelf.rects.map fun r => { r with demand := s.demandOf x r }
  let s : State := { s with shelf.y8 := y8, shelf.c := c, shelf.rects := rs, shelf.capActive := c < min tot u,
                            shelf.capacity := u < tot,
                            shelf.codes := rs.map fun r => match r.demand with | some d => demandCode d | none => 0xFFFF }
  let s := s.armWhile s.shelf.capacity .shortfall (s.ns 0x2E03 1)
  let s := s.armWhile (¬ s.shelf.capActive) .capRestore (s.ns 0x2E02 7)
  s.qualifyRun

/-! ## The slow channel (R213) -/

/-- The write of a join at step 12 to 17 (R213, R214): register and value. -/
def State.joinWrite (s : State) (i : Fin 32) (k : Nat) : Nat × Nat :=
  match k with
  | 12 => (0x21, natRound (1000 * absR (s.real 0x2E10 3)))
  | 13 => (0x22, natRound (1000 * s.real 0x2E10 4))
  | 14 => (0x23, natRound (100 * s.recLimit i))
  | 15 => (0x24, natRound (s.real 0x2E10 5 / 100))
  | 16 => (0x20, s.freqIndex i)
  | _ => (0x25, 1)

/-- The message that a rectifier with work pending sends next, and whether it starts a new transaction (R213). -/
def State.slowWork (s : State) (i : Fin 32) : Option (SlowMsg × Bool) :=
  let r := s.shelf.rects[i]
  let t := !r.toggle
  match r.slow with
  | some m => if m.sent then none else some (m, false)
  | none =>
    if r.st = .joining then
      if r.joinStep < 12 then some ({ write := false, reg := r.joinStep, toggle := t }, true)
      else
        let w := s.joinWrite i r.joinStep
        some ({ write := true, reg := w.1, value := w.2, toggle := t }, true)
    else if r.freqPending ∧ recPresent r then some ({ write := true, reg := 0x20, value := s.freqIndex i, toggle := t }, true)
    else match s.shelf.userSlow with
      | some (j, wr, reg, v) =>
        if j = i then some ({ write := wr, reg := reg, value := if wr then v else 0, toggle := t, user := true }, true) else none
      | none => none

/-- The next rectifier in turn with work pending (R213). -/
def State.slowPick (s : State) : Option (Fin 32 × SlowMsg × Bool) :=
  let n := s.shelf.slowNext
  let order := (List.finRange 32).drop n ++ (List.finRange 32).take n
  order.findSome? fun i => (s.slowWork i).map fun m => (i, m.1, m.2)

/-- Eight frames and the reply slots of the last one, after the freeze of the frame that carries a message (R213). -/
def slowWait : Nat := 226000

/-- Takes a message into the frozen downlink (R213): SC0 to SC3. -/
def State.slowSend (s : State) : List Nat × State :=
  if ¬ s.drives then ([0, 0, 0, 0], s)
  else match s.slowPick with
    | none => ([0, 0, 0, 0], s)
    | some (i, m, fresh) =>
      let s := s.modRec i fun x => { x with toggle := m.toggle, slow := some { m with sent := true, attempts := m.attempts + 1 } }
      let s : State := { s with shelf.slowNext := i + 1, shelf.userSlow := if fresh ∧ m.user then none else s.shelf.userSlow }
      ([i.val + 32 * ofBool m.write + 64 * ofBool m.toggle + 128, m.reg, m.value % 256, m.value / 256], s.arm (.slow i) slowWait)

/-- Ends the user's slow access (R217). -/
def State.slowUser (st : Nat) (m : SlowMsg) (s : State) : State := if m.user then { s with shelf.slowState := st } else s

/-- A rectifier is excluded for its capability (R214). -/
def State.excludeRec (i : Fin 32) (code : Nat) (s : State) : State :=
  ((s.disarm (.slow i)).modRec i fun x => { x with st := .excluded, slow := none, freqPending := false }).raise code i []

/-- The capability check (R214). -/
def Rectifier.capable (r : Rectifier) : Bool :=
  let x := r.span
  r.regs[0] = 1 ∧ r.regs[1] ≠ 0 ∧ r.regs[2] ≠ 0 ∧ x.1 ≤ x.2.1 ∧ x.2.2.1 ≠ 0 ∧ x.1 ≤ x.2.2.2 ∧ x.2.2.2 ≤ x.2.1
    ∧ (x.2.2.2 - x.1) % x.2.2.1 = 0

/-- A step of the join has been answered (R214). -/
def State.joinNext (i : Fin 32) (s : State) : State :=
  let s := s.modRec i fun x => { x with joinStep := x.joinStep + 1 }
  let r := s.shelf.rects[i]
  if r.joinStep = 12 then
    if ¬ r.capable then s.excludeRec i 0x0609
    else if (s.cfg.recFit r).code.isSome then s.excludeRec i 0x0110
    else s.assignRec i
  else if 18 ≤ r.joinStep then (s.modRec i fun x => { x with st := .commanded, freqPending := false }).raise 0x0603 i []
  else s

/-- What a standby hears of a rectifier's join (R216): each new toggle answers the active chip's next read or write of R214, in its order, so that the
rated power and I_max are known to its own weight computation (DEDUCED, log entry 92). -/
def State.slowHear (i : Fin 32) (toggle : Bool) (v : Nat) (s : State) : State :=
  let r := s.shelf.rects[i]
  if r.st ≠ .joining ∨ r.heard = some toggle then s
  else
    let s := s.modRec i fun x =>
      { x with heard := some toggle, joinStep := satInc 17 x.joinStep, regs := if h : x.joinStep < 12 then x.regs.set x.joinStep v h else x.regs }
    if s.shelf.rects[i].joinStep = 12 then s.assignRec i else s

/-- An answer of the slow channel: SEL 4 with the value, or SEL 5 with an error code (R213, R214). -/
def State.slowAnswer (i : Fin 32) (ok toggle : Bool) (v : Nat) (s : State) : State :=
  match s.shelf.rects[i].slow with
  | none => if s.standby ∧ ok then s.slowHear i toggle v else s
  | some m =>
    if ¬ m.sent ∨ m.toggle ≠ toggle then s
    else
      let join := s.shelf.rects[i].st = .joining ∧ ¬ m.user
      let s := (s.disarm (.slow i)).modRec i fun x => { x with slow := none }
      if ok then
        let s := ({ s with shelf.slowDone := bump s.shelf.slowDone } : State).slowUser 2 m
        let s := if m.user then s.setRw 0x2E41 3 v else s
        let s := if m.reg = 0x20 ∧ m.write then s.modRec i fun x => { x with freqPending := false } else s
        if ¬ join then s
        else
          let s := if h : m.reg < 12 ∧ ¬ m.write then s.modRec i fun x => { x with regs := x.regs.set m.reg v h.1 } else s
          s.joinNext i
      else
        let s := (s.slowUser 3 m).raise 0x0608 i [m.reg, v]
        if join then s.excludeRec i 0x0609
        else s.modRec i fun x => { x with freqPending := x.freqPending ∧ m.user }

/-- A rectifier becomes absent (R213, R214). -/
def State.recAbsent (i : Fin 32) (code : Nat) (s : State) : State :=
  let m := s.shelf.rects[i].slow
  let s := match m with | some m => s.slowUser 4 m | none => s
  let s := (s.disarm (.slow i)).disarm (.notTracking i)
  (s.modRec i fun x =>
    { x with st := .absent, goodRun := 0, slow := none, base := 0, cap := 0, freqPending := false, joinStep := 0, voutSeen := false }).raise code i []

/-- Three attempts without an answer (R213): the rectifier is absent, but from states 0, 6 and 7 it keeps its state (R214). -/
def State.slowTimeout (i : Fin 32) (m : SlowMsg) (s : State) : State :=
  let s : State := { s with shelf.slowTimeouts := bump s.shelf.slowTimeouts }
  match s.shelf.rects[i].st with
  | .disabled | .excluded | .notTracking =>
    (((s.slowUser 4 m).disarm (.slow i)).modRec i fun x => { x with slow := none, freqPending := x.freqPending ∧ m.user }).raise 0x0607 i []
  | _ => (s.recAbsent i 0x0607).mainsCheck

/-- SLOW_RETRY (R213): no answer within eight frames. -/
def execSlowRetry (i : Fin 32) (s : State) : Out :=
  .next (match s.shelf.rects[i].slow with
    | none => s
    | some m =>
      if ¬ m.sent ∨ ¬ s.due (.slow i) then s
      else if m.attempts < 3 then
        (s.disarm (.slow i)).modRec i fun x => { x with slow := some { m with sent := false } }
      else s.slowTimeout i m)

/-- The write of 0x2E41:04 (R217): 1 read, 2 write. -/
def objSlowAccess : ObjWrite where
  busy := fun s d =>
    let i : Fin 32 := Fin.ofNat 32 (s.raw 0x2E41 1)
    let reg := s.raw 0x2E41 2
    if leValue d = 2 ∧ s.shelf.rects[i].st = .commanded ∧ 0x20 ≤ reg ∧ reg ≤ 0x25 then some 0x08000105
    else refuseIf (s.shelf.slowState = 1)
  effect := fun _ d s =>
    { s with shelf.slowState := 1,
             shelf.userSlow := some (Fin.ofNat 32 (s.raw 0x2E41 1), leValue d = 2, s.raw 0x2E41 2, s.raw 0x2E41 3) }

/-- SLOW_ACCESS_READ (R213). -/
def execSlowAccessRead (w : Session) (s : State) : Out := .next (s.writeBy w 0x2E41 4 [1] objSlowAccess)

/-- SLOW_ACCESS_WRITE (R213). -/
def execSlowAccessWrite (w : Session) (s : State) : Out := .next (s.writeBy w 0x2E41 4 [2] objSlowAccess)

/-! ## The downlink (R208) -/

/-- Characters 2 to 76 of a downlink. -/
def downlinkBody (x : Downlink) : List Byte :=
  leBytes 1 x.fctl ++ leBytes 2 x.seq ++ leBytes 1 x.gcmd ++ leBytes 2 x.vbus ++ leBytes 1 0
    ++ x.demands.toList.flatMap (leBytes 2) ++ x.sc.flatMap (leBytes 1)

/-- The CRC of a downlink (R207, R208). -/
def downlinkCrc (x : Downlink) : Nat := crc16 (downlinkBody x)

/-- The bus voltage that VBUS carries (R209): that of the channel in use, of the other one while only that is READY, 0 while none is. -/
def State.busReported (s : State) : Rat :=
  let a := s.raw 0x2E00 4
  let b := s.raw 0x2E00 5
  if s.ready s.busCh then s.vBus else if s.ready a then s.v200 a else if s.ready b then s.v200 b else 0

/-- The fields of the next downlink but for its slow message (R208, R209). -/
def State.downlinkNow (s : State) (sc : List Nat) : Downlink :=
  let seq := (s.shelf.seq + 1).toNat
  { fctl := s.pins.slAddr.val + 4 * (seq % 8) + 32 * ofBool (s.raw 0x2E10 1 = 2)
    seq := seq
    gcmd := s.raw 0x2E00 0x0F + 2 * ofBool s.shelf.holdup
    vbus := min 65535 (natRound (1000 * absR s.busReported))
    demands := s.shelf.codes
    sc := sc }

/-- DOWNLINK_FREEZE (R38 step 12, R194). -/
def State.freeze (s : State) : State :=
  let r := s.slowSend
  { r.2 with shelf.buffer := some (r.2.downlinkNow r.1) }

/-- DOWNLINK_FREEZE (R38 step 12). -/
def execDownlinkFreeze (s : State) : Out := .next (if s.linkRuns ∧ s.frameTime = 24000 then s.freeze else s)

/-! ## Replies (R205, R206, R210, R211, R214) -/

/-- A reply's characters 1 to 7 are valid: seven of them, with their CRC (R207, R211). -/
def replyOk (d : List Byte) : Bool := d.length = 7 ∧ crc16 (d.take 5) = leValue (d.drop 5)

/-- The telemetry of a reply (R211). -/
def Rectifier.telemetry (stat : Nat) (cur : Int) (f : Nat) (r : Rectifier) : Rectifier :=
  let r := { r with current := (cur : Rat) / 100, fbk := bit stat 4, limit := bit stat 5, acOk := bit stat 7 }
  match stat % 8 with
  | 0 => { r with pin := (f : Rat) }
  | 1 => { r with vout := -((f : Rat) / 1000), voutSeen := true }
  | 2 => { r with temp := (signed 16 f : Rat) / 100 }
  | 3 => { r with avail := (f : Rat) / 100 }
  | _ => r

/-- The state machine of a rectifier at a valid reply (R214). -/
def State.recReply (i : Fin 32) (fault fbk : Bool) (s : State) : State :=
  let r := s.shelf.rects[i]
  match r.st with
  | .absent =>
    if r.goodRun < 3 then s
    else s.modRec i fun x => { x with st := .joining, joinStep := 0, heard := none, freqPending := false }
  | .commanded | .fallback =>
    if fault then s.modRec i fun x => { x with st := .fault }
    else if fbk ∧ r.st = .commanded then (s.modRec i fun x => { x with st := .fallback }).raise 0x0604 i []
    else if fbk then s else s.modRec i fun x => { x with st := .commanded }
  | .fault =>
    if fault then s
    else if fbk then (s.modRec i fun x => { x with st := .fallback }).raise 0x0604 i []
    else s.modRec i fun x => { x with st := .commanded }
  | _ => s

/-- The tracking time of a commanded rectifier (R197). -/
def State.trackRun (i : Fin 32) (s : State) : State :=
  let r := s.shelf.rects[i]
  let above : Bool := match r.demand with
    | some d => decide (d + max (s.real 0x2E01 4 * r.iMax) (s.real 0x2E01 5) < r.current)
    | none => false
  s.armWhile (decide (r.st = .commanded) && above) (.notTracking i) 100000000

/-- Takes a valid reply. -/
def State.takeReply (i : Fin 32) (d : List Byte) (s : State) : State :=
  let stat := leValue (d.take 1)
  let cur := signed 16 (leValue ((d.drop 1).take 2))
  let f := leValue ((d.drop 3).take 2)
  let s := s.modRec i fun x => { (x.telemetry stat cur f) with goodRun := satInc 3 x.goodRun, missRun := 0, corruptRun := 0 }
  let s := s.recReply i (bit stat 6) (bit stat 4)
  let s := if stat % 8 = 4 ∨ stat % 8 = 5 then s.slowAnswer i (stat % 8 = 4) (bit stat 3) f else s
  s.trackRun i

/-- The segment on which a rectifier's reply is awaited; none where either is (R205, R206). -/
def State.portFor (s : State) (i : Fin 32) : Option (Fin 2) :=
  match s.raw 0x2E10 1 with
  | 0 => some 0
  | 1 => some (if i.val < 16 then 0 else 1)
  | _ => none

/-- Takes the valid reply of slot `j`; a copy of it that port B held is dropped. -/
def State.takeSlot (j : Fin 4) (d : List Byte) (s : State) : State :=
  ({ s with shelf.slotOk := s.shelf.slotOk ||| BitVec.ofNat 4 (2 ^ j.val), shelf.heldCopy := none } : State).takeReply (s.slotRec j) d

/-- The copy of port B that was held is taken (R206). -/
def State.takeHeld (s : State) : State :=
  match s.shelf.heldCopy with
  | some x => s.takeSlot x.1 x.2.1
  | none => s

/-- Length of a bit of the share link in ns (R207). -/
def slBit : Nat := 20

/-- A copy of port B has been held for a bit time: none of port A can win any more (R206). -/
def State.heldOver (s : State) : State :=
  match s.shelf.heldCopy with
  | some x => if x.2.2 + slBit ≤ s.now then s.takeHeld else s
  | none => s

/-- REPLY_RECEIVED (R211): signal in slot `j` on segment `p`; `d` holds its characters 1 to 7 as decoded, fewer where a delimiter or a
code is wrong. In mode 2 a valid copy of port B waits a bit time, in which one of port A wins (R206). -/
def execReplyReceived (j : Fin 4) (p : Fin 2) (d : List Byte) (s : State) : Out :=
  let i := s.slotRec j
  .next (if ¬ s.linkRuns ∨ ¬ s.linkPorts.getLsbD p then s
    else if (s.portFor i).isSome ∧ s.portFor i ≠ some p then
      if replyOk d then ({ s with shelf.wrongPort := bump s.shelf.wrongPort } : State).raise 0x0606 i [] else s
    else if ¬ s.recEnabled i ∨ s.shelf.slotOk.getLsbD j then s
    else if ¬ replyOk d then { s with shelf.slotBad := s.shelf.slotBad ||| BitVec.ofNat 4 (2 ^ j.val) }
    else if s.portFor i = none ∧ p = 1 then
      (if s.shelf.heldCopy.isSome then s else { s with shelf.heldCopy := some (j, d, s.now) })
    else s.takeSlot j d)

/-- One slot at the intake of 23.2 µs: a scheduled reply that is missing or invalid is counted (R214, R217). -/
def State.slotIntake (j : Fin 4) (s : State) : State :=
  let i := s.slotRec j
  if ¬ s.recEnabled i ∨ s.shelf.slotOk.getLsbD j then s
  else
    let bad := s.shelf.slotBad.getLsbD j
    s.modRec i fun x => { x with goodRun := 0, missRun := satInc 4 x.missRun, invalid := bump x.invalid,
                                 corruptRun := if bad then satInc 8 x.corruptRun else 0 }

/-- UPLINK_HANDOFF (R38 step 11, R192, R201): the frame's telemetry reaches E1. -/
def execUplinkHandoff (s : State) : Out :=
  .next (if ¬ s.linkRuns ∨ s.frameTime < 23200 ∨ 23250 < s.frameTime then s
    else ((State.each (List.finRange 4) State.slotIntake s.takeHeld).capacities).mainsCheck.qualifyRun)

/-- REPLY_MISSING (R214): four consecutive scheduled replies. -/
def execReplyMissing (i : Fin 32) (s : State) : Out :=
  let r := s.shelf.rects[i]
  .next (if r.missRun < 4 then s
    else match r.st with
      | .joining | .commanded | .fallback | .fault => (s.recAbsent i 0x0602).mainsCheck
      | _ => s)

/-- SLOT_CORRUPT (R214): eight consecutive scheduled frames with energy and no valid reply. -/
def execSlotCorrupt (i : Fin 32) (s : State) : Out :=
  .next (if 8 ≤ s.shelf.rects[i].corruptRun then (s.modRec i fun x => { x with corruptRun := 0 }).raise 0x0605 i [] else s)

/-! ## Readback (R215) -/

/-- PORT_READBACK (R215): a port's readback of its own downlink. -/
def execPortReadback (p : Fin 2) (ok : Bool) (s : State) : Out :=
  .next (if ¬ s.linkRuns ∨ ¬ s.drives then s
    else if ok then { s with shelf.readbackRun := s.shelf.readbackRun.set p 0 }
    else { s with shelf.readbackRun := s.shelf.readbackRun.set p (if s.shelf.readbackRun[p] = 4 then 4 else satInc 3 s.shelf.readbackRun[p]),
                  shelf.readbackFails := s.shelf.readbackFails.set p (bump s.shelf.readbackFails[p]) })

/-- PORT_TX_FAULT (R215): recorded once for a run of failures. -/
def execPortTxFault (p : Fin 2) (s : State) : Out :=
  .next (if s.shelf.readbackRun[p] = 3 then
      ({ s with shelf.readbackRun := s.shelf.readbackRun.set p 4 } : State).raise 0x0601 p []
    else s)

/-! ## Status (R218) -/

/-- The shelf status word. -/
def State.shelfStatus (s : State) : Nat :=
  let x := s.shelf
  ofBits [x.running, x.droop, x.capActive, x.capacity, x.holdup, decide (x.capShed ≠ []), x.capOverride, x.busOv, x.busUv, x.ffAlt,
    x.senseAlt ∨ x.curAlt, decide (0 < x.trim), x.shelfOff, x.mainsLost]

end Sys2Proof.Machine
end

