-- ==== Sys2Proof/Machine/Outputs.lean ====
section
/-! DEFINITION. The outputs of the precision channels and what reads them at once (R107 to R114, R170, R195, R197, R202, R234, R235). -/

namespace Sys2Proof.Machine

/-- A channel clips (R107). -/
def State.clip (k : Fin 48) (s : State) : State :=
  ((s.modCh k fun c => { c with overrange := true }).arm (.overrange k) 14000000).raiseLimited 0x0201 k []

/-- One feed at a 200 kS/s output of its channel (R234, R235). An output of a channel that is not READY is not used: no qualification goes on
(R485, DESIGN CHOICE, log entry 91). -/
def State.feedOutput (p : Fin 2) (b : Bool) (v : Rat) (s : State) : State :=
  let lo := s.real (0x2630 + p) 2
  let hi := s.real (0x2630 + p) 3
  let inside : Bool := lo ≤ v ∧ v ≤ hi
  let deep : Bool := lo + 1 / 2 ≤ v ∧ v ≤ hi - 1 / 2
  if ¬ s.ready (s.raw (0x2630 + p) (0x0A + b.toNat)) then s.disarm (.feedQual p b)
  else
  let s := s.modFeed p fun f =>
    { f with qual := if inside then f.qual else f.qual.set b.toNat false (Bool.toNat_lt b),
             lossRun := if f.sel = some b then (if inside then 0 else satInc 255 f.lossRun) else f.lossRun,
             lost := f.lost && !(decide (f.sel = some b) && inside) }
  (s.armWhile (deep && !(s.feedQual p b)) (.feedQual p b) 10000000).feedWatch p

/-- The feeds that read a channel. -/
def State.feedOutputs (k : Fin 48) (v : Rat) (s : State) : State :=
  State.each (List.finRange 2) (fun p => fun s =>
    let s := if s.raw (0x2630 + p) 0x0A = k.val then s.feedOutput p false v else s
    if s.raw (0x2630 + p) 0x0B = k.val then s.feedOutput p true v else s) s

/-- The precision channel that a bank's measurement is (R138, R188). -/
def State.laneChannel (s : State) (b : Bank) : Option Nat :=
  match b.consumer with
  | 2 => some s.busCh
  | 3 | 4 => none
  | _ => some b.selector

/-- A 200 kS/s output. -/
def State.output200 (k : Fin 48) (q : Rat) (s : State) : State :=
  let s := (s.modCh k fun c => { c with v200 := q }).ffAdd
  let s := if s.ready k then s.lanesSee (fun b => s.laneChannel b = some k.val) q else s
  let s := s.feedOutputs k q
  if s.busCh = k.val then s.busLimits else s

/-- A 10 kS/s output. -/
def State.output10 (k : Fin 48) (q : Rat) (s : State) : State :=
  let s := s.modCh k fun c => { c with v10 := q }
  if s.busCh = k.val then s.stageDwells q else s

/-- A 1 kS/s output; a pair is checked when its second channel's output comes. -/
def State.output1 (k : Fin 48) (v q : Rat) (s : State) : State :=
  let s := s.modCh k fun c => { c with v1 := q, ball := v }
  let s := s.captureSample k v
  let s := if k = 1 then s.pairCheck 0 else if k = 3 then s.pairCheck 1 else s
  let s := if s.busCurCh = k.val then s.ffCompare else s
  State.each (List.finRange 8) (fun l => fun s => if s.raw (0x2410 + l) 0x0F = k.val then s.trimStep l else s) s

/-- A new rho comes into force at an output boundary of 1 ms (R111). -/
def State.takeRho (s : State) : State :=
  match s.meas.rhoNext with
  | some r => { s with meas.rho := r, meas.rhoNext := none }
  | none => s

/-- An output of a rate is dated now (R38, R106, R108): every 5 µs, 100 µs or 1 ms of the time of day. -/
def State.outputDate (s : State) (rate : Fin 3) : Bool := s.tb.tod % (if rate = 0 then 5000 else if rate = 1 then 100000 else 1000000) = 0

/-- PRECISION_OUTPUT (R110): channel `k` gives a code at rate 0 (200 kS/s), 1 (10 kS/s) or 2 (1 kS/s). -/
def execPrecisionOutput (k : Fin 48) (rate : Fin 3) (code : Int) (s : State) : Out :=
  .next (if ¬ s.tbRuns ∨ ¬ s.outputDate rate then s
    else
      let s := if clips code then s.clip k else s
      let s := if rate = 2 then s.takeRho else s
      let v := s.ballVolts k code
      let q := s.chanQuantity k v
      match rate with
      | 0 => s.output200 k q
      | 1 => s.output10 k q
      | _ => s.output1 k v q)

end Sys2Proof.Machine
end

