-- ==== Sys2Proof/Machine/PortOps.lean ====
section
/-! DEFINITION. The CANopen ports' own operations: NMT states, boot-up, timers of heartbeat and TPDOs (R358 to R362). -/

namespace Sys2Proof.Machine

/-- The session of a port. -/
def portSession (p : Fin 2) : Session := if p = 0 then .canA else .canB

/-- A port is enabled (R375). -/
def State.portOn (s : State) (p : Fin 2) : Bool := bit (s.raw 0x2020 8) p

/-- The port's node-ID object (R358). -/
def State.nodeSetting (s : State) (p : Fin 2) : Nat := s.raw 0x2020 (if p = 0 then 1 else 5)

/-- TPDO `n` of a port is valid and maps something (R362). -/
def State.tpdoOn (s : State) (p : Fin 2) (n : Nat) : Bool :=
  ¬ bit (s.portRaw p (0x1800 + n) 1) 31 ∧ s.portRaw p (0x1A00 + n) 0 ≠ 0

/-- The event time of TPDO `n` in ns; 0 none. -/
def State.tpdoTime (s : State) (p : Fin 2) (n : Nat) : Nat := 1000000 * s.portRaw p (0x1800 + n) 5

/-- Starts the event timers of a port's TPDOs (R362). -/
def State.startTpdos (p : Fin 2) (s : State) : State :=
  State.each (List.range 4) (fun n => fun s =>
    if s.tpdoOn p n ∧ s.tpdoTime p n ≠ 0 then s.arm (.tpdo p n) (s.tpdoTime p n) else s.disarm (.tpdo p n)) s

/-- Stops them. -/
def State.stopTpdos (p : Fin 2) (s : State) : State := State.each (List.range 4) (fun n => State.disarm (.tpdo p n)) s

/-- Starts the producer heartbeat (R361). -/
def State.startHeartbeat (p : Fin 2) (s : State) : State :=
  let t := 1000000 * s.portRaw p 0x1017 0
  if t = 0 then s.disarm (.heartbeat p) else s.arm (.heartbeat p) t

/-- Enters operational: PDOs run (R359). -/
def State.portOperational (p : Fin 2) (s : State) : State := (s.modPort p fun x => { x with nmt := .operational }).startTpdos p

/-- Leaves operational for another NMT state. -/
def State.portTo (p : Fin 2) (n : Nmt) (s : State) : State := (s.modPort p fun x => { x with nmt := n }).stopTpdos p

/-- Sends the boot-up message and enters pre-operational, or operational at once where auto-operational says so (R359). -/
def State.bootUp (p : Fin 2) (s : State) : State :=
  let s := ((s.modPort p fun x => { x with bootUps := bump x.bootUps }).portTo p .preOperational).startHeartbeat p
  if bit (s.raw 0x2020 6) p then s.portOperational p else s

/-- A port starts: it takes its node-ID, and boots up (R358, R359). -/
def State.portStart (p : Fin 2) (s : State) : State :=
  (s.modPort p fun x => { x with node := s.nodeSetting p, busOff := false }).bootUp p

/-- A port stops for want of its enable. -/
def State.portStop (p : Fin 2) (s : State) : State :=
  (((s.portTo p .off).disarm (.heartbeat p)).modPort p fun x => { x with emcy := [] }).endSession (portSession p) false

end Sys2Proof.Machine
end

