-- ==== Sys2Proof/Machine/Thermal.lean ====
section
/-! DEFINITION. Temperature sensors, their thresholds, throttling and thermal shutdown (R296 to R307). -/

namespace Sys2Proof.Machine

/-! ## Readings (R126, R296 to R298, R304, R305) -/

/-- A sensor converts: sensors 0 to 5 always, remote diodes while enabled (R296). -/
def State.sensorOn (s : State) (k : Fin 16) : Bool := k < 6 ∨ (8 ≤ k ∧ s.flag (0x2C10 + k) 9)

/-- A threshold is enabled: 0 warning, 1 throttle, 2 shutdown (R300). -/
def State.threshOn (s : State) (k : Fin 16) (j : Nat) : Bool := bit (s.raw (0x2C10 + k) 7) j

/-- Level and hysteresis of a threshold. -/
def State.threshAt (s : State) (k : Fin 16) (j : Nat) : Rat × Rat := (s.real (0x2C10 + k) (2 * j + 1), s.real (0x2C10 + k) (2 * j + 2))

/-- The near level (R298). -/
def State.nearLevel (s : State) (k : Fin 16) : Option Rat :=
  if s.threshOn k 1 then some (s.threshAt k 1).1 else if s.threshOn k 2 then some (s.threshAt k 2).1 else none

/-- The reading that a conversion gives (R126): an on-die sensor less its offset, a remote diode by its ideality, from the converter's step of
0.0625 °C (R78; log entry 32). -/
def State.reading (s : State) (k : Fin 16) (t : Rat) : Rat :=
  let t := (roundEven (t * 16) : Rat) / 16
  if k < 8 then t - s.real 0x3619 (k + 1) else (t + 5463 / 20) / s.real 0x3618 (k - 7) - 5463 / 20

/-- The median of the other healthy on-die sensors; none where there is none. -/
def State.otherMedian (s : State) (k : Fin 16) : Option Rat :=
  let l := ((List.finRange 16).filter fun j : Fin 16 => j < 6 ∧ j ≠ k ∧ s.thm.sensor[j].valid ∧ ¬ s.thm.sensor[j].failed).map fun j : Fin 16 => s.thm.sensor[j].t
  if l = [] then none else some (median l)

/-- Consecutive bad conversions that fail a sensor (R305). -/
def failRuns (k : Fin 16) : Nat := if k < 6 then 10 else 3

/-- How bad a conversion is (R305): the runs it adds; an on-die reading out of range fails at once. -/
def State.badness (s : State) (k : Fin 16) (t v r : Rat) : Nat :=
  if k < 6 then
    if t < -55 ∨ 150 < t then 10
    else match s.otherMedian k with
      | some m => if 15 < absR (t - m) then 1 else 0
      | none => 0
  else if v < 1 / 5 ∨ 9 / 10 < v ∨ 100 < r then 1 else 0

/-- A conversion gives a usable reading: not out of range, and for a remote diode not bad (DESIGN CHOICE, log entry 94: the rule does not say what
the bad conversions before a failure read). -/
def usable (k : Fin 16) (bad : Nat) : Bool := bad = 0 ∨ (k < 6 ∧ bad < 10)

/-- One threshold's counts at a reading (R300). -/
def Thresh.count (lvl hys t : Rat) (x : Thresh) : Thresh :=
  { x with above := if lvl ≤ t then satInc 2 x.above else 0, below := if t ≤ lvl - hys then satInc 2 x.below else 0 }

/-- A threshold's readings count anew: no two of them stand either side of a failure or of a change of its level (DEDUCED, log entry 70). -/
def Thresh.restart (x : Thresh) : Thresh := { x with above := 0, below := 0 }

/-- The rate of a sensor at a reading (R298). -/
def State.sensorRate (k : Fin 16) (t : Rat) (s : State) : State :=
  match s.nearLevel k with
  | none => (s.disarm (.sensorSlow k)).modSensor k fun x => { x with fast := false }
  | some n =>
    if n - 5 ≤ t then (s.disarm (.sensorSlow k)).modSensor k fun x => { x with fast := true }
    else s.armWhile (s.thm.sensor[k].fast ∧ t < n - 6) (.sensorSlow k) 1000000000

/-- What takes a reading of its sensor as data (R304): the reference polynomial and the crystal model. -/
def State.sensorData (k : Fin 16) (s : State) : State :=
  if k = 2 then (if s.meas.rhoFrozen then s else { s with meas.rhoNext := some (s.rhoAt s.thm.sensor[k].t) })
  else if k < 2 then { s with tb.lastT := s.oscTemp }
  else s

/-- A usable reading of a healthy sensor. -/
def State.takeReading (k : Fin 16) (t : Rat) (good : Bool) (s : State) : State :=
  let a := s.threshAt k 0
  let b := s.threshAt k 1
  let c := s.threshAt k 2
  let s := s.modSensor k fun x =>
    { x with t := t, at_ := s.tb.tod, valid := true, good := if good then t else x.good,
             warn := x.warn.count a.1 a.2 t, thr := x.thr.count b.1 b.2 t, shut := x.shut.count c.1 c.2 t }
  (s.sensorRate k t).sensorData k

/-- SENSOR_CONVERSION (R297): the converter gives a temperature; for a remote diode also its junction voltage and series resistance. -/
def execSensorConversion (k : Fin 16) (t v r : Rat) (s : State) : Out :=
  .next (if ¬ s.tbOut ∨ ¬ s.sensorOn k then s
    else
      let q := s.reading k t
      let bad := s.badness k q v r
      let x := s.thm.sensor[k]
      let s := s.modSensor k fun x =>
        { x with badRun := if bad = 0 then 0 else min (failRuns k) (x.badRun + bad),
                 goodRun := if x.failed ∧ bad = 0 then satInc 10 x.goodRun else 0 }
      if x.failed ∨ ¬ usable k bad then s else s.takeReading k q (bad = 0))

/-- SENSOR_SLOW (R298). -/
def execSensorSlow (k : Fin 16) (s : State) : Out :=
  .next (if s.due (.sensorSlow k) then (s.disarm (.sensorSlow k)).modSensor k fun x => { x with fast := false } else s)

/-! ## Throttle channels (R302, R303) -/

/-- A sensor of the channel's mask asserts its throttle threshold. -/
def State.anyThrottle (s : State) (j : Fin 8) : Bool := (List.finRange 16).any fun k : Fin 16 => bit (s.raw (0x2C40 + j) 1) k ∧ s.thm.sensor[k].thr.on

/-- Sets a channel's factor. -/
def State.setFactor (j : Fin 8) (f : Rat) (s : State) : State := { s with thm.f := s.thm.f.set j f }

/-- One step down, its interval running again; reaching the floor is recorded. A standby's factor is the state frame's (R388). -/
def State.stepDown (j : Fin 8) (s : State) : State :=
  let fl := s.real (0x2C40 + j) 7
  let f := s.thm.f[j]
  let n := max fl (f - s.real (0x2C40 + j) 6)
  let s := (s.disarm (.thrRestore j)).arm (.thrStep j) (s.ns (0x2C40 + j) 8)
  if s.standby then s
  else
    let s := s.setFactor j (if f < fl then f else n)
    if n = fl ∧ fl < f then s.raise 0x0A03 j [] else s

/-- A standby takes a factor from the state frame: a channel whose factor changed steps, or restores, from now by the standby's own sensors
(R299, R388). -/
def State.trackFactor (j : Fin 8) (f : Rat) (s : State) : State :=
  if s.thm.f[j] = f then s
  else
    let s := ((s.setFactor j f).disarm (.thrStep j)).disarm (.thrRestore j)
    if s.anyThrottle j then s.arm (.thrStep j) (s.ns (0x2C40 + j) 8)
    else if f < 1 then s.arm (.thrRestore j) (s.ns (0x2C40 + j) 9) else s

/-- The channels of a sensor whose throttle threshold has just asserted: those that no other sensor throttled step down (DEDUCED, log entry 70:
a second sensor of a channel that steps down already starts nothing). -/
def State.throttleOn (k : Fin 16) (s : State) : State :=
  let was := maskOf 8 fun j : Fin 8 => s.anyThrottle j
  let s := (s.modSensor k fun x => { x with thr := { x.thr with on := true, above := 0, below := 0 } }).raise 0x0A02 k []
  State.each (List.finRange 8) (fun j => fun s => if s.anyThrottle j ∧ ¬ was.getLsbD j then s.stepDown j else s) s

/-- The channels that no sensor throttles any more: they hold for the restore dwell. -/
def State.throttleOff (k : Fin 16) (s : State) : State :=
  let s := s.modSensor k fun x => { x with thr := { x.thr with on := false, above := 0, below := 0 } }
  State.each (List.finRange 8) (fun j => fun s =>
    if bit (s.raw (0x2C40 + j) 1) k ∧ ¬ s.anyThrottle j then
      let s := s.disarm (.thrStep j)
      if s.thm.f[j] < 1 then s.armOnce (.thrRestore j) (s.ns (0x2C40 + j) 9) else s
    else s) s

/-- THROTTLE_STEP (R303). A standby takes the factors from the state frame (R388). -/
def execThrottleStep (j : Fin 8) (s : State) : Out :=
  .next (if s.due (.thrStep j) ∧ s.anyThrottle j ∧ ¬ s.standby then s.stepDown j else s)

/-- The shutdown threshold asserts at this reading, so nothing else of it is acted on (R301). A failed sensor holds its state (R305). -/
def State.shutsDown (s : State) (k : Fin 16) : Bool :=
  s.threshOn k 2 ∧ 2 ≤ s.thm.sensor[k].shut.above ∧ ¬ s.thm.sensor[k].shut.on ∧ ¬ s.thm.sensor[k].failed

/-- The throttle threshold asserts at this reading (R300). -/
def State.reasserts (s : State) (k : Fin 16) : Bool :=
  s.threshOn k 1 ∧ 2 ≤ s.thm.sensor[k].thr.above ∧ ¬ s.thm.sensor[k].thr.on ∧ ¬ s.thm.sensor[k].failed ∧ ¬ s.shutsDown k

/-- THROTTLE_RESTORE (R303). A reassertion due in the same evaluation wins. -/
def execThrottleRestore (j : Fin 8) (s : State) : Out :=
  .next (if s.due (.thrRestore j) ∧ ¬ s.anyThrottle j ∧ ¬ s.standby
        ∧ ¬ (List.finRange 16).any (fun k : Fin 16 => bit (s.raw (0x2C40 + j) 1) k ∧ s.reasserts k) then
      let f := min 1 (s.thm.f[j] + s.real (0x2C40 + j) 6)
      let s := (s.disarm (.thrRestore j)).setFactor j f
      if f = 1 then s.raise 0x0A06 j [] else s.arm (.thrRestore j) (s.ns (0x2C40 + j) 9)
    else s)

/-! ## Thresholds (R300, R301) -/

/-- Asserts a sensor's warning. -/
def State.warnOn (k : Fin 16) (s : State) : State :=
  (s.modSensor k fun x => { x with warn := { x.warn with on := true, above := 0, below := 0 } }).raise 0x0A01 k []

/-- TEMP_WARNING (R300). -/
def execTempWarning (k : Fin 16) (s : State) : Out :=
  let x := s.thm.sensor[k]
  .next (if s.threshOn k 0 ∧ 2 ≤ x.warn.above ∧ ¬ x.warn.on ∧ ¬ x.failed ∧ ¬ s.shutsDown k then s.warnOn k else s)

/-- THROTTLE_ACTIVE (R300, R303). -/
def execThrottleActive (k : Fin 16) (s : State) : Out :=
  .next (if s.reasserts k then s.throttleOn k else s)

/-- THERMAL_SHUTDOWN (R301): the always-on domain locks out and counts, and the thermal warm reset is asserted. -/
def execThermalShutdown (k : Fin 16) (s : State) : Out :=
  .next (if ¬ s.shutsDown k then s
    else
      let t := s.thm.sensor[k].t
      let s := (s.modSensor k fun x => { x with shut := { x.shut with on := true } }).raise 0x0A04 k [toReal32 t]
      let s : State := { s with thm.lockout := true, thm.lockSensors := s.thm.lockSensors ||| BitVec.ofNat 16 (2 ^ k.val),
                                thm.shutdowns := bump s.thm.shutdowns }
      s.assertReset .warm causeThermal true)

/-- Auto start (R271, R301): a power-up where 0x2A00:02 is set and nothing forbids it. -/
def State.autoStart (s : State) : State :=
  if s.flag 0x2A00 2 ∧ s.seq.committed ∧ ¬ s.thm.lockout ∧ ¬ s.rst.protective ∧ ¬ s.standby then s.systemOn else s

/-- A sensor that shut the device down has cooled (R301): the lockout clears with the last one, and auto start acts. -/
def State.lockoutClear (k : Fin 16) (s : State) : State :=
  let m := s.thm.lockSensors &&& ~~~ BitVec.ofNat 16 (2 ^ k.val)
  let s := s.modSensor k fun x => { x with shut := { x.shut with on := false, above := 0, below := 0 } }
  let s : State := { s with thm.lockSensors := m }
  if s.thm.lockout ∧ m = 0 then ({ s with thm.lockout := false } : State).autoStart else s

/-- THRESHOLD_CLEAR (R300): `j` is 0 warning, 1 throttle, 2 shutdown. A failed sensor's thresholds stay as they are (R305). -/
def execThresholdClear (k : Fin 16) (j : Fin 3) (s : State) : Out :=
  let x := s.thm.sensor[k]
  .next (if x.failed then s else match j with
    | 0 => if x.warn.on ∧ 2 ≤ x.warn.below then
        s.modSensor k fun x => { x with warn := { x.warn with on := false, above := 0, below := 0 } } else s
    | 1 => if x.thr.on ∧ 2 ≤ x.thr.below then s.throttleOff k else s
    | _ => if (x.shut.on ∨ s.thm.lockSensors.getLsbD k) ∧ 2 ≤ x.shut.below then s.lockoutClear k else s)

/-! ## Failure and recovery (R305) -/

/-- The faults of a sensor's consumers (R94, R111, R304). -/
def State.sensorLost (k : Fin 16) (s : State) : State :=
  if k = 2 then ({ s with meas.rhoFrozen := true } : State).raise 0x0206 noInst []
  else if k < 2 ∧ s.thm.sensor[0].failed ∧ s.thm.sensor[1].failed then ({ s with tb.tempStale := true } : State).raise 0x0112 noInst []
  else s

/-- SENSOR_FAIL (R305). -/
def execSensorFail (k : Fin 16) (s : State) : Out :=
  let x := s.thm.sensor[k]
  .next (if x.badRun < failRuns k ∨ x.failed ∨ ¬ s.sensorOn k then s
    else
      let s := s.modSensor k fun x =>
        { x with failed := true, valid := false, t := x.good, goodRun := 0, warn := x.warn.restart, thr := x.thr.restart, shut := x.shut.restart }
      let s := s.raise 0x0A05 k []
      let s := if x.warn.on then s else s.warnOn k
      let s := if s.flag (0x2C10 + k) 8 ∧ ¬ x.thr.on then s.throttleOn k else s
      s.sensorLost k)

/-- SENSOR_RECOVER (R305). -/
def execSensorRecover (k : Fin 16) (s : State) : Out :=
  .next (if s.thm.sensor[k].failed ∧ 10 ≤ s.thm.sensor[k].goodRun then
      let s := s.modSensor k fun x => { x with failed := false, goodRun := 0, badRun := 0 }
      if k = 2 then { s with meas.rhoFrozen := false } else if k < 2 then { s with tb.tempStale := false } else s
    else s)

/-! ## Status (R306) -/

/-- The sensor status word. -/
def State.sensorStatus (s : State) (k : Fin 16) : Nat :=
  let x := s.thm.sensor[k]
  ofBits [x.valid, x.fast, x.warn.on, x.thr.on, x.shut.on, x.failed, ¬ s.sensorOn k]

/-- The thermal status word. -/
def State.thermalStatus (s : State) : Nat :=
  ofBits [s.thm.lockout, s.thm.f.any fun f => f < 1, s.thm.sensor.any Sensor.failed]

end Sys2Proof.Machine
end

