-- ==== Sys2Proof/Machine/Validate.lean ====
section
/-! DEFINITION. The checks of a commit (R345): every commit rule of the manual over a view of the configuration, the blocks of R347 and
the resource claims of R352 and R353. -/

namespace Sys2Proof.Machine

/-- Why a commit is refused: fault code, offending object (0x3A00:04) and conflicting owner (0x3A00:05). -/
structure CommitRefusal where
  code : Nat
  object : Nat
  owner : Nat := 0xFF
  deriving DecidableEq, Repr

/-- A refusal under a condition. -/
def refuseWhen (c : Bool) (r : CommitRefusal) : Option CommitRefusal := if c then some r else none

/-- The first refusal over a list. -/
def firstRefusal {α : Type} (l : List α) (f : α → Option CommitRefusal) : Option CommitRefusal := l.findSome? f

/-! ## Blocks (R347) -/

/-- The base order number of the block of an rwc object; 0x2008, 0x5F10, 0x5F20 and 0x5F30, which R347 does not place, stand with
blocks 13, 10, 10 and 11 (DESIGN CHOICE, log entry 33). -/
def blockOf (idx : Nat) : Nat :=
  if idx = 0x2008 then 13
  else if idx < 0x2100 then 13
  else if idx < 0x2200 then 1
  else if idx < 0x2300 then 2
  else if idx < 0x2400 then 4
  else if idx < 0x2600 then 5
  else if idx < 0x2800 then 7
  else if idx < 0x2A00 then 8
  else if idx < 0x2C00 then 9
  else if idx < 0x2E00 then 3
  else if idx < 0x3000 then 6
  else if idx < 0x3100 then 12
  else if idx < 0x3400 then 11
  else if idx < 0x3600 then 10
  else if idx < 0x3700 then 2
  else if idx < 0x3A00 then 10
  else if idx = 0x5F30 then 11
  else 10

/-- The block of a key. -/
def keyBlock (k : Nat) : Nat := blockOf (keyIndex k)

/-- The blocks that a change set changes, in base order. -/
def blocksOf (set : List (Nat × Nat)) : List Nat := (List.range 14).filter fun b => set.any fun p => keyBlock p.1 = b

/-- The part of a change set that belongs to some blocks. -/
def partOf (bs : List Nat) (set : List (Nat × Nat)) : List (Nat × Nat) := set.filter fun p => bs.contains (keyBlock p.1)

/-! ## Pins and claims (R53, R63, R352, R353) -/

/-- A claim on a GPIO pin: the pin, the owner code, the object that names it. -/
structure Claim where
  pin : Nat
  owner : Nat
  key : Nat
  deriving DecidableEq, Repr

/-- The claims that the branches and rails of a view make on GPIO pins. -/
def Cfg.gpioClaims (c : Cfg) : List Claim :=
  let at_ := fun (idx sub owner : Nat) => ({ pin := c idx sub, owner := owner, key := objKey idx sub } : Claim)
  let br := (List.range 16).flatMap fun k => [at_ (0x2610 + k) 0x0C (0x40 + k), at_ (0x2610 + k) 0x0F (0x40 + k)]
  let rails := (List.range 32).flatMap fun r =>
    if c.railKind r = 0 then []
    else (if c.railKind r = 5 then [at_ (0x2A10 + r) 2 (0x60 + r)] else []) ++ [at_ (0x2A10 + r) 0x13 (0x60 + r)]
  (br ++ rails).filter fun x => x.pin < 24

/-- A general timer's claim of the pin that owns it (R99, R352). -/
def timerClaim (t : Fin 16) (x : TimerSetting) : Option Claim := (x.pin).map fun g => ⟨g.val, 0x80 + t.val, objKey 0x2110 (t + 1)⟩

/-- The recorded claims of the general timers. -/
def State.timerClaims (s : State) : List Claim := (List.finRange 16).filterMap fun t => timerClaim t s.tb.gen[t].setting

/-- The claims of the general timers that the next commit is to record. -/
def State.timerWants (s : State) : List Claim := (List.finRange 16).filterMap fun t => (s.tb.gen[t].claim).bind (timerClaim t)

/-- The view commits GPIO pin `p` as a fault output: some quench map names it (R63, R239). -/
def Cfg.faultPin (c : Cfg) (p : Nat) : Bool := 16 ≤ p ∧ p < 24 ∧ (List.range 18).any fun q => bit (c 0x2650 (q + 1)) (33 + (p - 16))

/-- The claims that fault outputs displace (R353). -/
def Cfg.displaced (c : Cfg) : List Claim := c.gpioClaims.filter fun x => c.faultPin x.pin

/-- The general timers' claims that fault outputs of a new view displace; a claim that an earlier commit displaced is not displaced again. -/
def State.timersDisplaced (s : State) (new : Cfg) : List Claim :=
  (s.timerClaims.filter fun x => new.faultPin x.pin ∧ ¬ s.cfg.faultPin x.pin) ++ s.timerWants.filter fun x => new.faultPin x.pin

/-- Claims in the order in which they are taken: those that stand in the table first, then the new ones in base order (R353, DEDUCED,
log entry 34). -/
def State.claims (s : State) (old new : Cfg) : List Claim :=
  let l := new.gpioClaims.filter fun x => ¬ new.faultPin x.pin
  let had := old.gpioClaims
  (s.timerClaims.filter fun x => ¬ new.faultPin x.pin) ++ (l.filter fun x => had.contains x) ++ (l.filter fun x => ¬ had.contains x) ++
    s.timerWants.filter fun x => ¬ new.faultPin x.pin

/-- The first claim on a pin that another claimant holds already. -/
def secondClaim : List Claim → List Claim → Option (Claim × Claim)
  | _, [] => none
  | seen, x :: r =>
    match seen.find? fun y => y.pin = x.pin ∧ y.owner ≠ x.owner with
    | some y => some (x, y)
    | none => secondClaim (x :: seen) r

/-- A second claim on a GPIO pin: 0x090D for a rail's pin (R270), else 0x0D08 (R353). -/
def State.pinRefusal (s : State) (old new : Cfg) : Option CommitRefusal :=
  (secondClaim [] (s.claims old new)).map fun p =>
    { code := if 0x2A10 ≤ keyIndex p.1.key ∧ keyIndex p.1.key < 0x2A30 then 0x090D else 0x0D08, object := p.1.key * 256, owner := p.2.owner }

/-- A rail enable on a strap ball that is not declared (R53, R270). -/
def Cfg.strapRefusal (c : Cfg) : Option CommitRefusal :=
  firstRefusal (List.range 32) fun r =>
    refuseWhen (c.railKind r = 5 ∧ c.railInst r < 7 ∧ ¬ bit (c 0x2008 7) (c.railInst r)) ⟨0x090D, objSelector (0x2A10 + r) 2, 0xFF⟩

/-- A second claim of a general timer (R99, R353), or a timer's output on a strap ball that is not declared (R53). -/
def State.timerRefusal (s : State) (c : Cfg) : Option CommitRefusal :=
  firstRefusal (List.finRange 16) fun t =>
    let y := s.tb.gen[t]
    let x := y.claim.getD y.setting
    refuseWhen (y.setting.owner ≠ 0xFF ∧ x.owner ≠ y.setting.owner) ⟨0x0D08, objSelector 0x2110 (t + 1), y.setting.owner⟩ <|>
    refuseWhen (match x.action, x.pin with
      | .pulse _, some g => g.val < 7 ∧ ¬ bit (c 0x2008 7) g
      | _, _ => false) ⟨0x0D08, objSelector 0x2110 (t + 1), 0xFF⟩

/-! ## Consumers of precision channels (R113, R120) -/

/-- An enabled consumer's naming of a channel: its block, the object, the channel. -/
structure Naming where
  block : Nat
  key : Nat
  ch : Nat
  deriving DecidableEq, Repr

/-- The channels that the enabled consumers of a view name. LN08, LN09 and LN10 take their measurements from the shelf loop's and the
string's objects (R188, R199). -/
def Cfg.namings (c : Cfg) : List Naming :=
  let at_ := fun (b idx sub : Nat) => ({ block := b, key := objKey idx sub, ch := c idx sub } : Naming)
  ((List.range 12).filterMap fun n =>
    if c.flag (0x2310 + n) 1 ∧ c (0x2310 + n) 5 = 1 ∧ ¬ (2 ≤ c (0x2310 + n) 8 ∧ c (0x2310 + n) 8 ≤ 4) then some (at_ 4 (0x2310 + n) 6)
    else none) ++
  ((List.range 8).filterMap fun l => if c.loopEnabled l then some (at_ 5 (0x2410 + l) 0x0F) else none) ++
  (if c.flag 0x2E00 1 then [at_ 6 0x2E00 4, at_ 6 0x2E00 5, at_ 6 0x2E00 8, at_ 6 0x2E00 9] else []) ++
  ((List.range 16).filterMap fun k => if (c.railOf 2 k).isSome then some (at_ 7 (0x2610 + k) 0x15) else none) ++
  ((List.range 2).flatMap fun p =>
    if (c.railOf 3 p).isSome then [at_ 7 (0x2630 + p) 9, at_ 7 (0x2630 + p) 0x0A, at_ 7 (0x2630 + p) 0x0B] else []) ++
  ((List.range 4).filterMap fun n => if c.flag (0x2810 + n) 1 then some (at_ 8 (0x2810 + n) 0x10) else none)
  |>.filter fun x => x.ch < 48

/-- A change of the range of a channel that an enabled consumer names (R113). -/
def rangeRefusal (old new : Cfg) : Option CommitRefusal :=
  let l := old.namings
  firstRefusal (List.range 48) fun k =>
    refuseWhen (new 0x2201 (k + 1) ≠ old 0x2201 (k + 1) ∧ l.any fun x => x.ch = k) ⟨0x020B, objSelector 0x2201 (k + 1), 0xFF⟩

/-- The channels that a block waits for: named by a consumer of the block that the commit enables or changes (R120, R348). -/
def needed (old new : Cfg) (b : Nat) : List Naming :=
  let had := old.namings
  new.namings.filter fun x => x.block = b ∧ ¬ had.contains x

/-! ## Supplies (R72) -/

/-- The BROWN_WARN setting in force of a view: rounded down to 0.1 V (R76). -/
def Cfg.bwCode (c : Cfg) : Nat := ((c.real 0x5F10 1 - 7) * 10).floor.toNat

/-- The VAUX capacitance is too small (R72). The spec gives this refusal no fault code, and does not say which of 0x5F10:01 and :02 it names: the
model names 0x5F10:02 (DESIGN CHOICE, log entry 33). -/
def Cfg.supplyRefusal (c : Cfg) : Option CommitRefusal :=
  let v : Rat := 7 + (c.bwCode : Rat) / 10
  let f := c.real 0x5F10 2
  refuseWhen (f < 330 / 1000000 ∨ f * (v * v - 36) < 2 * (76 / 10000)) ⟨Config.supplyRefusalCode, objSelector 0x5F10 2, 0xFF⟩

/-! ## Lanes (R141, R142, R148, R152, R156, R486) -/

/-- Worst-case time of a stage in ns (R31). -/
def stageNs : StageType → Nat
  | .biquad => 40
  | .leadLag => 30
  | .integrator => 20
  | .limiter => 10

/-- A lane's declared worst-case work W in ns (R148). -/
def Cfg.laneWork (c : Cfg) (n : Nat) : Nat :=
  ((List.range (c (0x2310 + n) 2)).map fun k => stageNs (stageType (c (0x2320 + n) (k + 1)))).foldl (· + ·) 30

/-- The sample period of a lane in ns (R148); of a tracking lane that of the lane it tracks. -/
def Cfg.laneInterval (c : Cfg) (n : Nat) : Rat :=
  let m := if c (0x2310 + n) 3 = 5 then c (0x2310 + n) 0x0A else n
  match c (0x2310 + m) 3 with
  | 0 => ((5 * c (0x2310 + m) 4 : Nat) : Rat)
  | 1 =>
    let l := c (0x2310 + m) 6
    let f := match c.loopFit l with | .slot _ f => f | _ => c.real (0x2410 + l) 2
    if f = 0 then 0 else ((c (0x2310 + m) 4 : Nat) : Rat) * 1000000000 / f
  | 2 => 25000
  | 3 => 100000
  | _ => 1000000

/-- The trigger and selector checks of an enabled lane (R148, R486). -/
def Cfg.laneForm (c : Cfg) (n : Nat) : Option CommitRefusal :=
  let x := 0x2310 + n
  let k := c x 3
  let loops : Bool := decide (c x 5 = 0 ∨ k = 1 ∨ c x 8 = 1)
  refuseWhen (k = 1 ∧ ¬ (1 ≤ c x 4 ∧ c x 4 ≤ 16)) ⟨0x030A, objSelector x 4, 0xFF⟩ <|>
  refuseWhen (loops && decide (7 < c x 6)) ⟨0x030A, objSelector x 6, 0xFF⟩ <|>
  refuseWhen (k = 0 ∧ c x 4 < 100) ⟨0x0306, objSelector x 4, 0xFF⟩

/-- The slack check of an enabled lane (R32, R148). -/
def Cfg.laneDeadline (c : Cfg) (n : Nat) : Option CommitRefusal :=
  let d := c.laneInterval n - ((setupTime (c (0x2310 + n) 8) : Nat) : Rat)
  refuseWhen (d ≤ 0 ∨ (d - (c.laneWork n : Nat)) / d < c.real 0x3808 1) ⟨0x0306, objSelector (0x2310 + n) 4, 0xFF⟩

/-- The conversion checks of a lane's bank (R141, R142, R152). -/
def Cfg.laneBank (c : Cfg) (n : Nat) : Option CommitRefusal :=
  (firstRefusal (List.range (c (0x2310 + n) 2)) fun k =>
    refuseWhen (c.stage n k).isNone ⟨0x0307, objSelector (0x2330 + n) (8 * k + 1), 0xFF⟩) <|>
  match c.bank n with
  | none => none
  | some b =>
    refuseWhen (b.consumer ≠ 0 ∧ b.output.type ≠ .limiter) ⟨0x0304, objSelector (0x2320 + n) b.stages.length, 0xFF⟩ <|>
    refuseWhen (decide (3 < b.holdWords)) ⟨0x0305, objSelector (0x2320 + n) 7, 0xFF⟩

/-- The transfer that a view orders (R156). -/
def Cfg.transfer (c : Cfg) : Option (Nat × Nat) :=
  if c 0x2300 1 < 12 ∧ c 0x2300 2 < 12 then some (c 0x2300 1, c 0x2300 2) else none

/-- A lane's quantity by number. -/
def State.laneAt (s : State) (n : Nat) : Lane := (s.lane[n]?).getD {}

/-- The transfer of a commit breaks R156. -/
def State.transferRefusal (s : State) (old new : Cfg) : Option CommitRefusal :=
  match new.transfer with
  | none => none
  | some (a, b) =>
    let m := if a = 11 then b else a
    let rel : Bool :=
      if b = 11 then decide (c11 = some m ∧ 16 ≤ (s.laneAt 11).tracked.toNat ∧ (s.laneAt 11).drives = none) && !(taken m)
      else decide (((s.laneAt 11).drives.map Fin.val) = some m ∧ 16 ≤ (s.laneAt m).tracked.toNat)
    refuseWhen (decide (old.transfer ≠ some (a, b)) &&
      (decide (a = b) || decide (a ≠ 11 ∧ b ≠ 11) || !rel || (s.laneAt a).fault || (s.laneAt b).fault || (s.laneAt m).pendingBank.isSome))
      ⟨0x0308, objSelector 0x2300 1, 0xFF⟩
where
  /-- Another lane's transfer to LN11 waits: LN11 is the target of one lane at a time. -/
  taken (m : Nat) : Bool := (List.finRange 12).any fun n : Fin 12 => n.val ≠ m ∧ s.lane[n].transferTo = some 11
  /-- The lane that LN11 tracks. -/
  c11 : Option Nat := (s.laneAt 11).bank.tracked.map Fin.val

/-- The checks of the lanes. -/
def State.laneRefusal (s : State) (old new : Cfg) : Option CommitRefusal :=
  (firstRefusal (List.range 12) fun n =>
    (if new.flag (0x2310 + n) 1 then new.laneForm n <|> new.laneDeadline n else none) <|> new.laneBank n) <|>
  s.transferRefusal old new

/-! ## Loops (R160, R178, R179) -/

/-- The lowest phase that two masks share. -/
def Cfg.masksMeet (c : Cfg) (l m : Nat) : Bool := Nat.land (c (0x2410 + l) 1) (c (0x2410 + m) 1) ≠ 0

/-- The period of a loop under a view's plan, in timebase cycles; the longest there is where the plan finds none (R102). -/
def Cfg.loopPeriod (c : Cfg) (l : Nat) : Nat := match c.loopFit l with | .slot n _ => n | _ => 2000

/-- The checks of the loops. A phase offset that is not below the period of its plan is refused (R182, R185), with a code that the spec does not give
(log entry 35). -/
def Cfg.loopRefusal (c : Cfg) : Option CommitRefusal :=
  (firstRefusal (List.range 8) fun l => firstRefusal (List.range l) fun m =>
    refuseWhen (c.masksMeet l m) ⟨0x040B, objSelector (0x2410 + l) 1, 0x50 + m⟩) <|>
  firstRefusal (List.range 8) fun l =>
    let x := 0x2410 + l
    refuseWhen (c.loopEnabled l ∧ c x 1 = 0) ⟨0x040B, objSelector x 1, 0xFF⟩ <|>
    refuseWhen (c.loopEnabled l ∧ c.real x 0x0D = 0) ⟨0x040D, objSelector x 0x0D, 0xFF⟩ <|>
    refuseWhen (decide (c.real x 0x15 < c.real x 0x14 * 11 / 10)) ⟨0x040F, objSelector x 0x15, 0xFF⟩ <|>
    refuseWhen (c x 0x12 ≠ 0 ∧ c.loopEnabled l ∧ c.loopPeriod l ≤ c x 0x12) ⟨Config.offsetRefusalCode, objSelector x 0x12, 0xFF⟩ <|>
    refuseWhen (c.flag x 0x1F ∧ (List.range 32).any fun i => bit (c x 1) i ∧ c 0x2223 (i / 8 + 1) ≠ 1) ⟨0x040E, objSelector x 0x1F, 0xFF⟩

/-! ## Share link, distribution, battery (R205, R222, R258) -/

/-- A rectifier enabled outside the range of the port mode (R205). -/
def Cfg.recRefusal (c : Cfg) : Option CommitRefusal :=
  refuseWhen (c 0x2E10 1 = 0 ∧ 65536 ≤ c 0x2E10 2) ⟨0x060A, objSelector 0x2E10 2, 0xFF⟩

/-- A branch threshold as a shunt voltage (R222). -/
def Cfg.threshold (c : Cfg) (k sub : Nat) : Rat :=
  let ch := c (0x2610 + k) 0x15
  c.real (0x2610 + k) sub / c.real 0x3610 (ch + 1) + c.real 0x3611 (ch + 1)

/-- A threshold lies within 2 mV to 60 mV. -/
def thresholdFits (v : Rat) : Bool := 2 / 1000 ≤ v ∧ v ≤ 60 / 1000

/-- The thresholds of a named branch (R222). -/
def Cfg.branchRefusal (c : Cfg) : Option CommitRefusal :=
  firstRefusal (List.range 16) fun k =>
    if (c.railOf 2 k).isNone then none
    else
      refuseWhen (c 0x2201 (c (0x2610 + k) 0x15 + 1) ≠ 0) ⟨0x0710, objSelector (0x2610 + k) 0x15, 0xFF⟩ <|>
      refuseWhen (!thresholdFits (c.threshold k 1)) ⟨0x0710, objSelector (0x2610 + k) 1, 0xFF⟩ <|>
      refuseWhen (!thresholdFits (c.threshold k 2) || decide (c.threshold k 2 < c.threshold k 1 + 1 / 1000))
        ⟨0x0710, objSelector (0x2610 + k) 2, 0xFF⟩

/-- The LVD and reconnect levels (R258). -/
def Cfg.levelRefusal (c : Cfg) : Option CommitRefusal :=
  firstRefusal (List.range 4) fun n =>
    refuseWhen (decide (c.real (0x2810 + n) 9 < c.real (0x2810 + n) 3)) ⟨0x080E, objSelector (0x2810 + n) 9, 0xFF⟩ <|>
    refuseWhen (decide (c.real (0x2810 + n) 9 - 1 < c.real (0x2810 + n) 0x0B)) ⟨0x080E, objSelector (0x2810 + n) 0x0B, 0xFF⟩

/-! ## Sequencer (R270, R282, R288) -/

/-- The rails that a rail depends on. -/
def Cfg.deps (c : Cfg) (r : Nat) : List Nat := ((leBytes 4 (c (0x2A10 + r) 3)).map BitVec.toNat).filter fun d => d < 32

/-- Removes, up to `n` times, the rails whose dependencies have all been removed; what remains stands on a cycle. -/
def Cfg.peel (c : Cfg) : Nat → List Nat → List Nat
  | 0, l => l
  | n + 1, l => c.peel n (l.filter fun r => (c.deps r).any l.contains)

/-- The checks of the sequencer's own objects. -/
def Cfg.seqRefusal (c : Cfg) : Option CommitRefusal :=
  let used := (List.range 32).filter fun r => c.railKind r ≠ 0
  (firstRefusal used fun r => firstRefusal (List.range r) fun q =>
    refuseWhen (c.railKind q = c.railKind r ∧ c.railInst q = c.railInst r) ⟨0x090D, objSelector (0x2A10 + r) 2, 0x60 + q⟩) <|>
  (firstRefusal used fun r =>
    refuseWhen ((c.deps r).any fun d => c.railKind d = 0) ⟨0x090C, objSelector (0x2A10 + r) 3, 0xFF⟩) <|>
  (firstRefusal (c.peel 32 used) fun r => some ⟨0x090C, objSelector (0x2A10 + r) 3, 0xFF⟩) <|>
  (firstRefusal used fun r =>
    refuseWhen (c (0x2A10 + r) 0x0A = 2 ∧ 8 ≤ c (0x2A10 + r) 0x0D) ⟨0x090C, objSelector (0x2A10 + r) 0x0D, 0xFF⟩) <|>
  match (used.filter fun r => c.flag (0x2A10 + r) 0x0E)[4]? with
  | some r => some ⟨0x090E, objSelector (0x2A10 + r) 0x0E, 0xFF⟩
  | none => none

/-! ## Thermal (R300, R302) -/

/-- The checks of the thermal block. -/
def Cfg.thermalRefusal (c : Cfg) : Option CommitRefusal :=
  (firstRefusal (List.range 16) fun k =>
    let x := 0x2C10 + k
    let m := c x 7
    refuseWhen (bit m 0 ∧ bit m 1 ∧ c.real x 3 < c.real x 1) ⟨0x0A07, objSelector x 1, 0xFF⟩ <|>
    refuseWhen (bit m 1 ∧ bit m 2 ∧ c.real x 5 ≤ c.real x 3) ⟨0x0A07, objSelector x 3, 0xFF⟩) <|>
  firstRefusal (List.range 8) fun j =>
    let x := 0x2C40 + j
    refuseWhen (c x 2 = 1 ∧ ¬ c.flag 0x2E02 1) ⟨0x0A08, objSelector x 2, 0xFF⟩ <|>
    refuseWhen (c x 2 = 2 ∧ ¬ c.loopEnabled (c x 3)) ⟨0x0A08, objSelector x 3, 0xFF⟩ <|>
    refuseWhen (decide (c x 2 ≠ 0 ∧ c x 1 = 0)) ⟨0x0A08, objSelector x 1, 0xFF⟩

/-! ## Engines, queues, recorder, PMBus (R309, R317, R369, R373, R446) -/

/-- A task set whose declared load leaves E7 with less than the slack target (R32, R309). -/
def State.loadRefusal (s : State) (c : Cfg) : Option CommitRefusal :=
  firstRefusal (List.finRange 7) fun e : Fin 7 =>
    refuseWhen (decide (1 - s.eng.load[e.val] < c.real 0x3808 1)) ⟨0x0B09, objSelector (0x3810 + e) 5, 0xFF⟩

/-- A reassignment of the tunnel's queues Q08 or Q24 (R369). -/
def Cfg.queueRefusal (c : Cfg) : Option CommitRefusal :=
  firstRefusal [9, 25] fun n => refuseWhen (decide (bits (c 0x3820 n) 7 0 ≠ 0x10)) ⟨0x0C07, objSelector 0x3820 n, 0x10⟩

/-- How many slots of a list an object takes (R446); none for a refused type or an object that cannot be read. -/
def latchSlots (sel : Nat) : Option Nat :=
  match findObj (sel / 65536) (sel / 256 % 256) with
  | none => none
  | some r =>
    if r.access = .wo ∨ sel % 256 ≠ 0 then none
    else match r.type with
      | .u64 => some 2
      | .str | .octets | .domain => none
      | _ => some 1

/-- The selectors of list `l` of a view, up to the first 0 (R446). -/
def Cfg.selectors (c : Cfg) (l : Nat) : List Nat := ((List.range 120).map fun k => c (0x3220 + l) (k + 1)).takeWhile fun x => x ≠ 0

/-- A trigger kind reads a source in the snapshot. -/
def kindHasSource (k : Nat) : Bool := 2 ≤ k ∧ k ≤ 6

/-- The checks of the recorder (R446). -/
def Cfg.recorderRefusal (c : Cfg) : Option CommitRefusal :=
  (firstRefusal (List.range 8) fun l =>
    let sel := c.selectors l
    (firstRefusal (List.range sel.length) fun k =>
      refuseWhen (latchSlots (c (0x3220 + l) (k + 1))).isNone ⟨0x1203, objSelector (0x3220 + l) (k + 1), 0xFF⟩) <|>
    refuseWhen (decide (120 < (sel.map fun x => (latchSlots x).getD 0).foldl (· + ·) 0)) ⟨0x1203, objSelector (0x3220 + l) 1, 0xFF⟩) <|>
  firstRefusal (List.range 64) fun t =>
    refuseWhen (kindHasSource (c 0x3210 (t + 1)) && (latchSlots (c 0x3211 (t + 1))).isNone) ⟨0x1203, objSelector 0x3211 (t + 1), 0xFF⟩

/-- The bit rate of a PMBus port in Hz (R375). -/
def Cfg.pmRate (c : Cfg) (p : Nat) : Nat := match c 0x2040 (p + 1) with | 0 => 100000 | 1 => 400000 | _ => 1000000

/-- Device `d` is enabled on port `p`. -/
def Cfg.pmOn (c : Cfg) (p d : Nat) : Bool := bit (c 0x2041 (d + 1)) 15 ∧ bits (c 0x2041 (d + 1)) 8 8 = p

/-- Time of one read-word transaction with its gap in µs (R373). -/
def Cfg.pmTime (c : Cfg) (p : Nat) : Rat := (((if c.flag 0x2040 4 then 57 else 48) * 1000000 : Nat) : Rat) / (c.pmRate p : Nat) + 20

/-- Polling exceeds 80 % of the poll period on some port (R373). -/
def Cfg.pmRefusal (c : Cfg) : Option CommitRefusal :=
  firstRefusal [0, 1] fun p =>
    let n := ((List.range 32).filter fun d => c.pmOn p d).length
    refuseWhen (decide (8 / 10 * c.real 0x2040 3 * 1000000 < (n : Rat) * (7 * c.pmTime p))) ⟨0x0D13, objSelector 0x2040 3, 0xFF⟩

/-! ## The protective state (R418) -/

/-- The blocks whose defaults the protective state keeps. -/
def protectedBlocks : List Nat := [5, 6, 7, 9]

/-- A change of a default while the trim fallback is not acknowledged (R418). -/
def State.protectiveRefusal (s : State) (c : Cfg) (set : List (Nat × Nat)) : Option CommitRefusal :=
  if ¬ s.rst.protective then none
  else firstRefusal set fun p =>
    refuseWhen (protectedBlocks.contains (keyBlock p.1) && decide (c (keyIndex p.1) (keySub p.1) ≠ s.default (keyIndex p.1) (keySub p.1)))
      ⟨0x0F06, p.1 * 256, 0xFF⟩

/-! ## All checks (R345) -/

/-- Every check of a commit on a view: `old` is the configuration in force before it, `set` the change set. -/
def State.check (s : State) (old new : Cfg) (set : List (Nat × Nat)) : Option CommitRefusal :=
  s.protectiveRefusal new set <|>
  new.supplyRefusal <|>
  ((new.spurRefusal s.shelf.rects).map fun p => ⟨p.1, p.2, 0xFF⟩) <|>
  rangeRefusal old new <|>
  new.thermalRefusal <|>
  s.laneRefusal old new <|>
  new.loopRefusal <|>
  new.recRefusal <|>
  new.branchRefusal <|>
  new.levelRefusal <|>
  new.seqRefusal <|>
  new.strapRefusal <|>
  s.timerRefusal new <|>
  s.pinRefusal old new <|>
  s.loadRefusal new <|>
  new.queueRefusal <|>
  new.recorderRefusal <|>
  new.pmRefusal

/-! ## The order of application (R346) -/

/-- The view with some blocks of a change set applied. -/
def mixed (old : Cfg) (set : List (Nat × Nat)) (bs : List Nat) : Cfg := old.overlaid (partOf bs set)

/-- One pass of the procedure of R346: the first pending block, in base order, whose state passes every check. -/
def State.nextBlock (s : State) (old : Cfg) (set : List (Nat × Nat)) (order pending : List Nat) : Option Nat :=
  pending.find? fun b => (s.check old (mixed old set (b :: order)) set).isNone

/-- The procedure of R346; `n` bounds the passes by the number of blocks. The order stands most recent first. -/
def State.orderFrom (s : State) (old : Cfg) (set : List (Nat × Nat)) : Nat → List Nat → List Nat → List Nat ⊕ CommitRefusal
  | 0, order, _ => .inl order
  | n + 1, order, pending =>
    match pending with
    | [] => .inl order
    | p :: _ =>
      match s.nextBlock old set order pending with
      | some b => s.orderFrom old set n (b :: order) (pending.filter fun x => x ≠ b)
      | none =>
        let r := (s.check old (mixed old set (p :: order)) set).getD ⟨0x0D06, 0, 0xFF⟩
        .inr ⟨0x0D06, r.object, r.owner⟩

/-- Validation and ordering of a change set (R345, R346): the order of application, or the refusal. The boot commit and the commit of the
defaults apply every block, so that each block has its first commit (R59, R191, R350). -/
def State.validate (s : State) (every : Bool) (old : Cfg) (set : List (Nat × Nat)) : List Nat ⊕ CommitRefusal :=
  match s.check old (old.overlaid set) set with
  | some r => .inr r
  | none =>
    match s.orderFrom old set 13 [] (if every then (List.range 13).map (· + 1) else blocksOf set) with
    | .inl l => .inl l.reverse
    | .inr r => .inr r

end Sys2Proof.Machine
end

