-- ==== Sys2Proof/Machine/Apply.lean ====
section
/-! DEFINITION. What each block of R347 does when the values of a commit come into force in it, or return in a rollback. -/

namespace Sys2Proof.Machine

/-- An object's value in force differs from a former view's. -/
def State.changed (s : State) (old : Cfg) (idx sub : Nat) : Bool := s.raw idx sub ≠ old idx sub

/-- A part of a change set names an object of an index. -/
def touches (l : List (Nat × Nat)) (idx : Nat) : Bool := l.any fun p => keyIndex p.1 = idx

/-- A part of a change set names an object. -/
def touchesObj (l : List (Nat × Nat)) (idx sub : Nat) : Bool := l.any fun p => p.1 = objKey idx sub

/-! ## Spur plan (R103) -/

/-- The assignments of the plan in force after a commit. -/
def State.planSpur (s : State) : State :=
  let s : State := { s with tb.loopP := s.cfg.spurLoops, tb.loopF := s.cfg.spurFreqs }
  State.each (List.finRange 32) (fun i => fun s => if recPresent s.shelf.rects[i] then s.assignRec i else s) s

/-- Loops that do not run have their period by the whole new plan before a block of it can start them; running loops keep theirs until the commit
is over. -/
def State.planIdle (whole : Cfg) (s : State) : State :=
  let p := whole.spurLoops
  let f := whole.spurFreqs
  { s with tb.loopP := Vector.ofFn fun l : Fin 8 => if s.loop[l].running then s.tb.loopP[l] else p[l],
           tb.loopF := Vector.ofFn fun l : Fin 8 => if s.loop[l].running then s.tb.loopF[l] else f[l] }

/-! ## Timebase, measurement, thermal (R90, R113, R120, R129, R303) -/

/-- Block 1: under another reference mode no slew goes on (R86). -/
def State.applyTimebase (old : Cfg) (s : State) : State := if s.changed old 0x2100 1 then s.slewStop.refChecked.refGained else s

/-- A channel's change of range: its slot is aborted, SETTLING for 14 ms (R113, R120). -/
def State.rangeChanged (k : Fin 48) (s : State) : State :=
  let s := State.each (List.finRange 4) (fun x => fun s =>
    if s.meas.slots[x].channel = k ∧ s.meas.slots[x].phase ≠ .idle then s.endSlot x true else s) s
  (s.modCh k fun c => { c with settling := true }).arm (.settling k) 14000000

/-- A channel's correction was committed: user-calibrated, at the range in force (R129, R133). -/
def State.userCalibrated (k : Fin 48) (s : State) : State :=
  let m := BitVec.ofNat 48 (2 ^ k.val)
  let c := s.meas.calWork
  { s with meas.calWork := { c with userCal := c.userCal ||| m,
                                    calRange := if s.raw 0x2201 (k + 1) = 1 then c.calRange ||| m else c.calRange &&& ~~~ m } }

/-- The flags and ranges of the channels' records (R129): a correction that a commit changes is user-calibrated at the range in force (R133); a
rollback takes both back (R348). -/
def State.calRecords (old : Cfg) (s : State) : State :=
  match s.net.commit.rolling, s.meas.calPrev with
  | true, some p => { s with meas.calWork := { s.meas.calWork with userCal := p.1, calRange := p.2 }, meas.calPrev := none }
  | _, _ =>
    let s : State := { s with meas.calPrev := some (s.meas.calWork.userCal, s.meas.calWork.calRange) }
    State.each (List.finRange 48) (fun k => fun s =>
      if s.changed old 0x3610 (k + 1) ∨ s.changed old 0x3611 (k + 1) then s.userCalibrated k else s) s

/-- Block 2. Where rotation is now off, channels that no slot serves go home (R120). -/
def State.applyMeasure (old : Cfg) (s : State) : State :=
  let s : State := { s with meas.committed := true }
  let s := State.each (List.finRange 48) (fun k => fun s =>
    let s := if s.changed old 0x2201 (k + 1) then s.rangeChanged k else s
    if (List.finRange 4).any fun x => decide (s.meas.slots[x].phase ≠ .idle ∧ s.meas.slots[x].channel = k) then s else s.goHome k) s
  (s.calRecords old).rangeMismatches.calCheck

/-- A threshold after a commit: one whose level, hysteresis or enable the commit names counts anew; one no longer enabled does not assert. -/
def Thresh.recommit (named enabled : Bool) (x : Thresh) : Thresh :=
  if ¬ enabled then {} else if named then x.restart else x

/-- A sensor after a commit of block 3 (DESIGN CHOICE, log entry 94): a remote diode no longer enabled keeps its last reading and nothing else,
and thresholds count anew where the commit names them. A failed sensor's thresholds stay asserted (R305). -/
def State.resense (vals : List (Nat × Nat)) (k : Fin 16) (s : State) : State :=
  if ¬ s.sensorOn k then (s.disarm (.sensorSlow k)).modSensor k fun x => { t := x.t, good := x.good, at_ := x.at_ }
  else if s.thm.sensor[k].failed then s
  else
    let named := fun j : Nat => touchesObj vals (0x2C10 + k) (2 * j + 1) || touchesObj vals (0x2C10 + k) (2 * j + 2) || touchesObj vals (0x2C10 + k) 7
    s.modSensor k fun x =>
      { x with warn := x.warn.recommit (named 0) (s.threshOn k 0), thr := x.thr.recommit (named 1) (s.threshOn k 1),
               shut := x.shut.recommit (named 2) (s.threshOn k 2) }

/-- Block 3: a channel whose sensors changed goes the way that they now ask for (R303). -/
def State.applyThermal (vals : List (Nat × Nat)) (s : State) : State :=
  let s := State.each (List.finRange 16) (State.resense vals) s
  State.each (List.finRange 8) (fun j => fun s =>
    if s.anyThrottle j then (if s.running (.thrStep j) then s else s.stepDown j)
    else
      let s := s.disarm (.thrStep j)
      if s.thm.f[j] < 1 then s.armOnce (.thrRestore j) (s.ns (0x2C40 + j) 9) else s) s

/-! ## Lanes (R150, R153, R156, R198) -/

/-- A part of a change set names an object of lane `n`. -/
def touchesLane (l : List (Nat × Nat)) (n : Fin 12) : Bool :=
  touches l (0x2310 + n) || touches l (0x2320 + n) || touches l (0x2330 + n)

/-- A lane's new bank waits for its next trigger; FAULT is cleared (R150, R153). -/
def State.bankChanged (n : Fin 12) (s : State) : State :=
  let b := s.cfg.bank n
  let track := n = 11 ∧ (b.any fun b => b.trigger = 5 ∧ b.tracked.isSome)
  let s := s.modLane n fun x =>
    { x with pendingBank := b, fault := false, consecutive := 0, lastReady := none, tracking := if n = 11 then track else x.tracking,
             tracked := if n = 11 then 0 else x.tracked }
  if n = 9 then { s with shelf.capHeld := false } else if n = 10 then { s with shelf.trimHeld := false } else s

/-- Block 4. -/
def State.applyLanes (old : Cfg) (vals : List (Nat × Nat)) (s : State) : State :=
  let s := State.each (List.finRange 12) (fun n => fun s => if touchesLane vals n then s.bankChanged n else s) s
  match s.cfg.transfer with
  | some (a, b) =>
    if h : a < 12 ∧ b < 12 ∧ old.transfer ≠ some (a, b) then s.modLane ⟨a, h.1⟩ fun x => { x with transferTo := some ⟨b, h.2.1⟩ } else s
  | none => s

/-! ## Regulator loops (R160, R162) -/

/-- The loop of a phase in a view (R160). -/
def Cfg.phaseLoop (c : Cfg) (i : Nat) : Option (Fin 8) := (List.finRange 8).find? fun l => bit (c (0x2410 + l) 1) i

/-- A commit names a loop's sense-loss action: it reselects the pair (R171; DESIGN CHOICE, log entry 83). -/
def State.reselect (vals : List (Nat × Nat)) (s : State) : State :=
  State.each (List.finRange 8) (fun l => fun s =>
    if touchesObj vals (0x2410 + l) 0x0A then s.modLoop l fun x => { x with onVlcl := false, toVlcl := false, vlclRun := 0 } else s) s

/-- Block 5: a phase that changes its loop, or whose loop does not run, is high-impedance (R58). -/
def State.applyLoops (old : Cfg) (vals : List (Nat × Nat)) (s : State) : State :=
  let s := s.reselect vals
  let s := State.each (List.finRange 32) (fun i => fun s =>
    match s.loopOfPhase i with
    | none => (s.setPwm i .highZ).modPhase i fun _ => {}
    | some l =>
      let moved : Bool := s.phase[i].st = .unassigned ∨ old.phaseLoop i ≠ some l
      (s.when (moved ∨ ¬ s.loop[l].running) (State.setPwm i .highZ)).when moved (State.modPhase i fun _ => { st := .participating })) s
  (State.each (List.finRange 8) (fun l => fun s =>
    let s := if s.changed old (0x2410 + l) 0x11 then s.syncEnable l else s
    if s.changed old (0x2410 + l) 1 then s.modLoop l fun x => { x with recompact := true } else s) s).syncOutNow

/-! ## Shelf loop and share link (R191, R198, R209, R214, R371) -/

/-- The MB4800's own transaction of a rectifier is given up; one of a user's access goes on to its answer or its timeout (R213, R217). -/
def State.dropSlow (i : Fin 32) (s : State) : State :=
  if s.shelf.rects[i].slow.any SlowMsg.user then s else (s.disarm (.slow i)).modRec i fun x => { x with slow := none }

/-- The commit of the enable mask: rectifiers leave it, come into it, or rejoin from states 6 and 7 (R214). The toggle goes on from transaction to
transaction (R213). -/
def State.enableMask (s : State) : State :=
  State.each (List.finRange 32) (fun i => fun s =>
    let r := s.shelf.rects[i]
    if ¬ s.recEnabled i then
      ((s.dropSlow i).disarm (.notTracking i)).modRec i fun x => { ({} : Rectifier) with invalid := x.invalid, toggle := x.toggle, slow := x.slow }
    else if r.st = .disabled ∨ r.st = .excluded ∨ r.st = .notTracking then
      (s.dropSlow i).modRec i fun x =>
        { x with st := .absent, goodRun := 0, missRun := 0, joinStep := 0, freqPending := false, voutSeen := false }
    else s) s

/-- VOUT_COMMAND of the legacy rectifiers that have been discovered (R371). -/
def State.legacySetpoint (s : State) : State :=
  State.each (List.finRange 32) (fun d => fun s =>
    if s.raw 0x2042 (d + 1) = 1 ∧ s.net.pm[d].discovered ∧ s.drives then
      s.modPm d fun x => { x with voutCmd := some (absR (s.real 0x2E10 3)) }
    else s) s

/-- Block 6: the shelf loop starts at a commit that sets 0x2E00:01 to 1, at the first one after a reset, and at one after a release by droop (R191,
R198). -/
def State.applyShelf (old : Cfg) (vals : List (Nat × Nat)) (s : State) : State :=
  let start : Bool := s.flag 0x2E00 1 && (touchesObj vals 0x2E00 1 || !s.shelf.running || s.shelf.droop)
  let s : State := { s with shelf.linkOn := true, shelf.droop := false }
  let s : State := if start then { s with shelf.startPending := true, shelf.running := false }
    else if s.flag 0x2E00 1 then s else { s with shelf.startPending := false, shelf.running := false }
  let s := if touchesObj vals 0x2E10 2 then s.enableMask else s
  if s.changed old 0x2E10 3 then s.legacySetpoint else s

/-! ## Distribution and feeds (R59, R237) -/

/-- A held branch at the first commit of distribution: adopted while a rail of the new configuration names it, else its off path. -/
def State.adoptBranch (whole : Cfg) (adopt : Bool) (k : Fin 16) (s : State) : State :=
  let held := s.pins.brHold.getLsbD k ∧ gateHigh s.pins.gate[brGate k]
  if held ∧ adopt ∧ (whole.railOf 2 k).isSome then
    let s : State := { s with pins.adopted := s.pins.adopted ||| BitVec.ofNat 24 (2 ^ k.val) }
    (s.modBr k fun b => { b with st := .on }).brOn k
  else if held then s.brStop k
  else (s.modBr k fun b => if b.st = .held then { b with st := .off } else b).drive (brGate k) .normalSink

/-- A held feed likewise. -/
def State.adoptFeed (whole : Cfg) (adopt : Bool) (p : Fin 2) (b : Bool) (s : State) : State :=
  let g := fdGate p b
  if ¬ (s.pins.fdHold.getLsbD (2 * p.val + b.toNat) ∧ gateHigh s.pins.gate[g]) then s.drive g .normalSink
  else if adopt ∧ (whole.railOf 3 p).isSome then
    let s : State := { s with pins.adopted := s.pins.adopted ||| BitVec.ofNat 24 (2 ^ g.val) }
    (s.modFeed p fun f => { f with phase := .good, sel := some b }).drive g .source
  else s.feedSink p b .normalSink

/-- A pin that is no fault output any more is an input again, or what its rail makes of it (R63, R239). -/
def State.freeFaultPins (old : Cfg) (s : State) : State :=
  State.each (List.finRange 24) (fun g => fun s =>
    if old.faultPin g ∧ ¬ s.cfg.faultPin g then
      let m := BitVec.ofNat 24 (2 ^ g.val)
      let s : State := { s with pins.gpioDir := s.pins.gpioDir &&& ~~~ m, pins.gpioOut := s.pins.gpioOut &&& ~~~ m }
      match s.railOf 5 g with
      | some r => s.driveGpio g (s.flag (0x2A10 + r) 0x14 == railStarted s.seq.rail[r].st)
      | none => s
    else s) s

/-- What a commit of quench maps and release times changes (R239, R240): targets that a set latch now names are forced off, those that none
names any more recover, and a new release time runs from the commit (DESIGN CHOICE, log entry 86). -/
def State.requench (old : Cfg) (s : State) : State :=
  let s := State.each (List.finRange 18) (fun q => fun s =>
    if s.changed old 0x2651 (q + 1) then (s.disarm (.quenchRelease q)).quenchTime q else s) s
  if (List.range 18).any fun q => s.changed old 0x2650 (q + 1) then
    s.quenchSet.quenchFree.freeFaultPins old
  else s.quenchPins

/-- Block 7. -/
def State.applyDist (old : Cfg) (whole : Cfg) (adopt : Bool) (s : State) : State :=
  let s := if s.dist.committed then s
    else
      let s := State.each (List.finRange 16) (State.adoptBranch whole adopt) s
      let s := State.each (List.finRange 2) (fun p => fun s => (s.adoptFeed whole adopt p false).adoptFeed whole adopt p true) s
      ({ s with pins.brHold := 0, pins.fdHold := 0, dist.committed := true } : State).holdDone
  State.each (List.finRange 2) State.feedWatch (s.requench old)

/-! ## Battery (R59, R251, R260, R262) -/

/-- A held string at the first commit of the battery block. -/
def State.adoptString (whole : Cfg) (adopt : Bool) (n : Fin 4) (s : State) : State :=
  let g := stGate n
  if ¬ (s.pins.stHold.getLsbD n ∧ gateHigh s.pins.gate[g]) then s.drive g .normalSink
  else if adopt ∧ s.strEnabled n ∧ (whole.railOf 4 n).isSome then
    let s : State := { s with pins.adopted := s.pins.adopted ||| BitVec.ofNat 24 (2 ^ g.val) }
    (s.setStr n .on).drive g .source
  else s.strOpen n .normalSink

/-- A string is disabled: its gate is low, and its times stop (R246). -/
def State.disableString (n : Fin 4) (s : State) : State :=
  ((((((s.strOpen n .normalSink).disarm (.strEmpty n)).disarm (.strFull n)).disarm (.lvd n)).disarm (.reconnect n)).disarm (.blocked n))

/-- A string's enable as a commit leaves it: initialised at its first enable (R251), its throughput from 0 at each (R266). -/
def State.stringEnable (old : Cfg) (n : Fin 4) (s : State) : State :=
  let was := old.flag (0x2810 + n) 1
  let s := if s.strEnabled n ∧ ¬ s.bat.str[n].known then s.initString n else s
  if s.bat.committed ∧ was ∧ ¬ s.strEnabled n then s.disableString n
  else if s.bat.committed ∧ ¬ was ∧ s.strEnabled n then s.modStr n fun x => { x with throughput := 0 }
  else s

/-- Block 8. -/
def State.applyBattery (old : Cfg) (whole : Cfg) (adopt : Bool) (s : State) : State :=
  let s := State.each (List.finRange 4) (State.stringEnable old) s
  if s.bat.committed then s
  else
    let s := State.each (List.finRange 4) (State.adoptString whole adopt) s
    ({ s with pins.stHold := 0, bat.committed := true } : State).holdDone.arm .learned s.learnPeriod

/-! ## Sequencer (R59, R60, R270, R291) -/

/-- Rails whose kind or instance a part changes. -/
def State.renamed (s : State) (vals : List (Nat × Nat)) (r : Fin 32) : Bool :=
  let new := s.cfg.overlaid vals
  new.railKind r ≠ s.cfg.railKind r ∨ new.railInst r ≠ s.cfg.railInst r

/-- A rail that is on leaves its instance before the sequencer's new values come into force (DESIGN CHOICE, log entry 37). -/
def State.leaveInstances (vals : List (Nat × Nat)) (s : State) : State :=
  State.each (List.finRange 32) (fun r => fun s =>
    if s.renamed vals r ∧ s.seq.rail[r].st ≠ .off then
      let s := ((s.railQuiet r).disarm (.railMinOff r)).disarm (.railOffDelay r)
      let s := (s.chanStop r).modRail r fun x => { x with st := .off, pg := false, inWindow := false }
      { s with seq.order := s.seq.order.filter fun x => x ≠ r, seq.queue := s.seq.queue.filter fun x => x ≠ r,
               seq.stoppingNow := if s.seq.stoppingNow = some r then none else s.seq.stoppingNow }
    else s) s

/-- The rail's output is held on, or was adopted by its owner (R59, R291). -/
def State.railHeld (s : State) (r : Fin 32) : Bool :=
  let i := s.cfg.railInst r
  match s.cfg.railKind r with
  | 2 => s.pins.adopted.getLsbD i
  | 3 => s.pins.adopted.getLsbD (16 + 2 * i) ∨ s.pins.adopted.getLsbD (17 + 2 * i)
  | 4 => s.pins.adopted.getLsbD (20 + i)
  | 5 => s.pins.gpioHold.getLsbD i ∧ s.pins.gpioOut.getLsbD i = s.flag (0x2A10 + r) 0x14
  | _ => false

/-- The PG pins that cover a rail. -/
def State.pgPins (s : State) (r : Fin 32) : List (Fin 8) := (List.finRange 8).filter fun k : Fin 8 => bit (s.raw 0x2A02 (k + 1)) r

/-- The rail's instance takes its command from the rail it was adopted by. -/
def State.takeCommand (r : Fin 32) (s : State) : State :=
  let i := s.cfg.railInst r
  match s.cfg.railKind r with
  | 2 => if h : i < 16 then s.modBr ⟨i, h⟩ fun b => { b with cmd := true } else s
  | 3 => if h : i < 2 then s.modFeed ⟨i, h⟩ fun f => { f with cmd := true } else s
  | 4 => if h : i < 4 then s.modStr ⟨i, h⟩ fun x => { x with cmd := true } else s
  | 5 => s.driveGpio i (s.flag (0x2A10 + r) 0x14)
  | _ => s

/-- A held rail at the first sequencer commit after a warm reset (R291): adopted into GOOD or OUT_OF_WINDOW, or its off path. A PG pin
held high keeps its rail's PG; where only low pins cover the rail, PG rises after the PG delay. -/
def State.adoptRail (r : Fin 32) (s : State) : State :=
  if ¬ s.railHeld r then s
  else
    let s := s.takeCommand r
    let s : State := { s with seq.order := s.seq.order ++ [r] }
    if ¬ s.commanded r then (s.railTo r .good).stopRail r .command
    else if s.railWindow r false then
      let pins := s.pgPins r
      let pg : Bool := pins.isEmpty || pins.any fun k : Fin 8 => s.pins.pg.getLsbD k
      let s := s.modRail r fun x => { x with st := .good, adopted := true, inWindow := true, pg := pg, tGood := s.tb.tod }
      let s := (s.raise 0x0910 r []).arm (.railGood r) 60000000000
      if pg then s else s.arm (.railPg r) (s.ns (0x2A10 + r) 5)
    else
      let s := s.modRail r fun x => { x with st := .outOfWindow, adopted := true, inWindow := false }
      if s.cfg.railKind r = 2 then s else s.arm (.railFault r) (s.ns (0x2A10 + r) 7)

/-- Adopted channels that no rail took go off. -/
def State.dropAdopted (s : State) : State :=
  let a := s.pins.adopted
  let s : State := { s with pins.adopted := 0 }
  let s := State.each (List.finRange 2) (fun p => fun s =>
    if (a.getLsbD (fdGate p false) ∨ a.getLsbD (fdGate p true)) ∧ (s.railOf 3 p).isNone then s.feedOff p .normalSink else s) s
  State.each (List.finRange 4) (fun n => fun s =>
    if a.getLsbD (stGate n) ∧ (s.railOf 4 n).isNone then s.strOpen n .normalSink else s) s

/-- GPIO enables of rails that are not started stand at their inactive level; pins that no rail names any more are inputs again. -/
def State.enablePins (old : Cfg) (s : State) : State :=
  let s := State.each (List.finRange 24) (fun g => fun s =>
    let m := BitVec.ofNat 24 (2 ^ g.val)
    if (old.railOf 5 g).isSome ∧ (s.railOf 5 g).isNone then
      { s with pins.gpioDir := s.pins.gpioDir &&& ~~~ m, pins.gpioOut := s.pins.gpioOut &&& ~~~ m }
    else s) s
  State.each (List.finRange 32) (fun r => fun s =>
    if s.cfg.railKind r = 5 ∧ ¬ railStarted s.seq.rail[r].st then s.driveGpio (s.cfg.railInst r) (!s.flag (0x2A10 + r) 0x14) else s) s

/-- Held GPIO enables that no rail of the new configuration names are inputs again (R59). -/
def State.dropEnables (s : State) : State :=
  let m := maskOf 24 fun g => s.pins.gpioHold.getLsbD g ∧ (s.railOf 5 g).isNone ∧ ¬ s.faultPins.getLsbD g
  { s with pins.gpioDir := s.pins.gpioDir &&& ~~~ m, pins.gpioOut := s.pins.gpioOut &&& ~~~ m }

/-- The first sequencer commit since the reset (R291). -/
def State.seqFirst (adopt : Bool) (s : State) : State :=
  let s : State := { s with seq.committed := true }
  let s := if s.rst.scope = .warm ∧ adopt ∧ s.rst.cause &&& causeThermal = 0 then State.each (List.finRange 32) State.adoptRail s else s
  let s := s.dropAdopted
  let s := s.dropEnables
  let s := ({ s with pins.pgHold := 0, pins.gpioHold := 0 } : State).holdDone
  let cold : Bool := s.rst.scope = .cold || s.rst.cause &&& causeThermal ≠ 0
  if cold then s.autoStart else s

/-- Block 9. -/
def State.applySeq (old : Cfg) (adopt : Bool) (s : State) : State :=
  let s := if s.seq.committed then s else s.seqFirst adopt
  (s.enablePins old).drivePg.seqRefresh

/-! ## The other blocks (R76, R399, R445, R375) -/

/-- Block 11: a trigger whose setting changed starts afresh (R445). -/
def State.applyRecorder (old : Cfg) (s : State) : State :=
  State.each (List.finRange 64) (fun t => fun s =>
    if (List.range 7).any fun j => s.changed old (0x3210 + j) (t + 1) then
      s.modTrig t fun x => { x with prev := none, taking := none, armed := false }
    else s) s

/-- The chip speaks for its position in the cascade: solo, or active (R400). -/
def State.speaks (s : State) : Bool := s.twin.st = .solo ∨ s.active

/-- The cascade's position: master of the ring by strap, which announces itself, or a member (R384, R399). -/
def State.cascStart (s : State) : State :=
  let s : State := { s with casc.st := if s.pins.cascPos = 0 ∧ s.speaks then .master else .member, casc.master := 0 }
  if s.casc.st = .master then s.launch (.announcement 0 false) else s

/-- Block 12. Its first commit turns the Benut drivers on (R56). -/
def State.applyTwin (old : Cfg) (s : State) : State :=
  let s : State := { s with pins.benutTx := 7 }
  if ¬ s.changed old 0x3010 1 then s
  else if s.flag 0x3010 1 then
    let s := s.cascStart
    let s := if s.casc.st = .master then s.arm .cascAlloc (s.ns 0x3010 0x0A) else s.arm .masterLost 1000000000
    s.arm .cascReport 100000000
  else
    let s := (((s.disarm .cascAlloc).disarm .masterLost).disarm .cascReport).disarm .cascTimeLost
    { s with casc.st := .off, casc.master := 0xFF, tb.cascOk := false, casc.lockRun := 0 }

/-- Block 13: ports that are enabled start once the boot commit is over (R359), ports that are disabled stop; a PMBus device whose
setting changed is discovered anew. -/
def State.applyNet (old : Cfg) (s : State) : State :=
  let s := State.each (List.finRange 2) (fun p => fun s =>
    if ¬ s.portOn p ∧ s.net.port[p].nmt ≠ .off then s.portStop p
    else if s.portOn p ∧ s.net.port[p].nmt = .off ∧ s.eng.service then s.portStart p else s) s
  State.each (List.finRange 32) (fun d => fun s =>
    if s.changed old 0x2041 (d + 1) ∨ s.changed old 0x2042 (d + 1) then
      s.modPm d fun x => { ({} : PmDev) with pecErrors := x.pecErrors, st := if bit (s.raw 0x2041 (d + 1)) 15 then 1 else 0 }
    else s) s

/-! ## A block's application (R347, R348) -/

/-- Puts a part of a change set into force. -/
def State.putVals (vals : List (Nat × Nat)) (s : State) : State :=
  State.each vals (fun p => State.setForce (keyIndex p.1) (keySub p.1) p.2) s

/-- Block `b` takes a part of a change set; `whole` is the whole new configuration, and `adopt` lets held outputs be adopted. -/
def State.takeBlock (b : Nat) (vals : List (Nat × Nat)) (whole : Cfg) (adopt : Bool) (s : State) : State :=
  let old := s.cfg
  let s := if b = 9 then s.leaveInstances vals else s
  let s := (s.putVals vals).planIdle whole
  match b with
    | 1 => s.applyTimebase old
    | 2 => s.applyMeasure old
    | 3 => s.applyThermal vals
    | 4 => s.applyLanes old vals
    | 5 => s.applyLoops old vals
    | 6 => s.applyShelf old vals
    | 7 => s.applyDist old whole adopt
    | 8 => s.applyBattery old whole adopt
    | 9 => s.applySeq old adopt
    | 10 => { s with pins.bwCode := s.cfg.bwCode }
    | 11 => s.applyRecorder old
    | 12 => s.applyTwin old
    | _ => s.applyNet old

end Sys2Proof.Machine
end

