-- ==== Sys2Proof/Machine/Engines.lean ====
section
/-! DEFINITION. The engines with their watchdogs and the hot spare, live update engine by engine, messages, acknowledgements, doorbells
and locks (R308 to R334, R464, R465). -/

namespace Sys2Proof.Machine

/-! ## Watchdogs (R311 to R313) -/

/-- A reset that an expired watchdog requests; the active chip of a pair gives up control first (R312, R313, R392). -/
def State.wdogReset (code : Nat) (cause : BitVec 16) (s : State) : State :=
  (if s.active then s.dropToken code else s).assertReset .warm cause false

/-- A live update is in progress (R464). -/
def State.liveRuns (s : State) : Bool := s.upd.liveVerify ∨ s.upd.liveTodo ≠ []

/-- E7 can take a failed engine's task set (R312). -/
def State.spareFree (s : State) : Bool := s.eng.eng[7].st = .idle ∧ ¬ s.liveRuns

/-- An engine is block-reset by its watchdog: forced, held for 1 µs (R312, R420). -/
def State.engBlock (e : Fin 8) (s : State) : State :=
  let c := 0x10 + e.val
  ({ s with rst.blk := { code := c, asserted := true, forced := true } :: s.rst.blk.filter fun b => b.code ≠ c } : State).arm (.blkHold c) 1000

/-- The times of an engine's expiries within the last ten minutes. -/
def State.recentExpiries (s : State) (e : Fin 8) : List Nat := s.eng.eng[e].expiryTimes.filter fun t => s.now < t + 600000000000

/-- The epoch of a task set increments: the sessions of E0's set end (R316, R341). -/
def State.setEpoch (e : Fin 8) (s : State) : State :=
  let s := s.newEpoch (engIx e)
  if e = 0 then ((s.endSession .canA false).endSession .canB false).endSession .spi false else s

/-- Counts an expiry of an engine's watchdog. -/
def State.engExpired (e : Fin 8) (s : State) : State :=
  let l := s.recentExpiries e
  (s.disarm (.wdog e)).modEng e fun x => { x with expiries := bump x.expiries, expiryTimes := s.now :: l }

/-- Retires an engine; E7 keeps its task set (R312). After a failed self-test it is a trigger to give up control (R392). -/
def State.retireEngine (e : Fin 8) (s : State) : State :=
  ((s.disarm (.selfTest e)).modEng e fun x => { x with st := .retired }).raise 0x0B07 e []

/-- E7 starts a failed engine's task set; that engine then tests itself, or is retired at its third expiry (R312). -/
def State.hotSpare (e : Fin 8) (s : State) : State :=
  let s := (s.modEng 7 fun x => { x with st := .hosting, tasksDone := 0 }).arm (.wdog 7) (s.ns 0x3817 3)
  let s := ({ s with eng.host := s.eng.host.set e 7 } : State).raise 0x0B06 e []
  if 3 ≤ (s.recentExpiries e).length then s.retireEngine e
  else (s.modEng e fun x => { x with st := .selfTest, tasksDone := 0 }).arm (.selfTest e) 20000000

/-- ENGINE_WDOG (R312). -/
def execEngineWdog (e : Fin 8) (s : State) : Out :=
  .next (if ¬ s.due (.wdog e) then s
    else
      let s := ((s.engExpired e).engBlock e).raise 0x0B04 e []
      if e = 7 ∧ s.eng.eng[7].st = .idle then s.setEpoch 7
      else
        let s := if e = 7 then s else s.setEpoch e
        if e ≠ 7 ∧ s.spareFree then s.hotSpare e
        else (s.raise 0x0B08 e []).wdogReset 0x0B08 causeEngWdog)

/-- SYSTEM_WDOG (R313): recorded and counted after the reset. -/
def execSystemWdog (s : State) : Out :=
  .next (if s.due .sysWdog then
      ({ s with eng.sysPending := true, eng.sysExpiries := bump s.eng.sysExpiries } : State).wdogReset 0x0B05 causeSysWdog
    else s)

/-! ## Migration and live update (R314, R315, R464, R465) -/

/-- The identity of a task set holds no lock (R314). -/
def State.noLocks (s : State) (e : Fin 8) : Bool := s.eng.lock.all fun l => l.owner ≠ identCode (engIx e)

/-- An engine begins to reload: at most 50 ms, without a watchdog (R315; DEDUCED, log entry 95). -/
def State.startReload (e : Fin 8) (s : State) : State :=
  ((s.disarm (.wdog e)).modEng e fun x => { x with st := .reloading }).arm (.reload e) 50000000

/-- The next engine of a live update: E7 reloads where it stands, the others migrate out first (R315). -/
def State.liveNext (s : State) : State :=
  match s.upd.liveTodo with
  | [] => s
  | e :: _ =>
    if e = 7 then s.startReload 7
    else if s.eng.eng[e].st = .running then (s.modEng e fun x => { x with st := .migratingOut }).arm (.migrate e) 2000000
    else s

/-- A live update has reloaded every engine: the trial runs (R464), or the previous image stands again (R465). -/
def State.liveEnd (s : State) : State :=
  if s.upd.liveBack then { s with upd.liveBack := false, upd.liveDone := [], upd.live := false, upd.version := s.upd.prevVersion }
  else ({ s with upd.liveDone := [] } : State).arm .trial (s.ns 0x3400 9)

/-- The engine at the head of a live update is done. -/
def State.liveStep (e : Fin 8) (s : State) : State :=
  if s.upd.liveTodo.head? ≠ some e then s
  else
    let s : State := { s with upd.liveTodo := s.upd.liveTodo.tail, upd.liveDone := if s.upd.liveBack then [] else e :: s.upd.liveDone }
    if s.upd.liveTodo = [] then s.liveEnd else s.liveNext

/-- The inactive slot, which holds the trial's image. -/
def Upd.other (u : Upd) : Fin 2 := if u.active = 0 then 1 else 0

/-- Marks the trial's slot as reverted; the trial phase returns to none (R461, R465). -/
def State.slotReverted (s : State) : State :=
  let o := s.upd.other
  { s.disarm .trial with upd.slot := s.upd.slot.set o { s.upd.slot[o] with st := .reverted }, upd.phase := .none, upd.expired := false }

/-- A self-test failure on the new image aborts the live update: reverse order, the failed engine first (R465). -/
def State.liveAbort (e : Fin 8) (s : State) : State :=
  let s := s.slotReverted
  let s : State := { s with upd.liveBack := true, upd.liveTodo := e :: s.upd.liveDone, upd.liveDone := [] }
  (s.raise 0x1311 e []).startReload e

/-- Reloads every engine with the previous image, E0 to E7 (R465). -/
def State.liveRevert (s : State) : State :=
  ({ s.slotReverted with upd.liveBack := true, upd.liveTodo := List.finRange 8, upd.liveDone := [] } : State).liveNext

/-- MIGRATION_DONE (R314): the task set of engine `e` has moved to E7 or back. -/
def execMigrationDone (e : Fin 8) (s : State) : Out :=
  .next (if ¬ s.running (.migrate e) ∨ ¬ s.noLocks e then s
    else
      let s := s.disarm (.migrate e)
      match s.eng.eng[e].st with
      | .migratingOut =>
        let s : State := { s with eng.host := s.eng.host.set e 7 }
        let s := (s.modEng 7 fun x => { x with st := .hosting, tasksDone := s.eng.eng[e].tasksDone }).arm (.wdog 7) (s.ns 0x3817 3)
        s.startReload e
      | .migratingBack =>
        let s : State := { s with eng.host := s.eng.host.set e e }
        let s := s.modEng e fun x => { x with st := .running, tasksDone := s.eng.eng[7].tasksDone }
        let s := (s.modEng 7 fun x => { x with st := .idle, tasksDone := 0 }).arm (.wdog e) (s.ns (0x3810 + e) 3)
        s.liveStep e
      | _ => s)

/-- ENGINE_RELOAD_DONE (R315). -/
def execEngineReloadDone (e : Fin 8) (s : State) : Out :=
  .next (if s.running (.reload e) ∧ s.eng.eng[e].st = .reloading then
      ((s.disarm (.reload e)).modEng e fun x => { x with st := .selfTest }).arm (.selfTest e) 20000000
    else s)

/-- An engine has passed its self-test: its set migrates back; E7 is idle again (R312, R315). -/
def State.testPassed (e : Fin 8) (s : State) : State :=
  if e = 7 then ((s.modEng 7 fun x => { x with st := .idle }).arm (.wdog 7) (s.ns 0x3817 3)).liveStep 7
  else (s.modEng e fun x => { x with st := .migratingBack }).arm (.migrate e) 2000000

/-- SELF_TEST_DONE (R312, R465). -/
def execSelfTestDone (e : Fin 8) (pass : Bool) (s : State) : Out :=
  .next (if ¬ s.running (.selfTest e) ∨ s.eng.eng[e].st ≠ .selfTest then s
    else
      let s := (s.disarm (.selfTest e)).modEng e fun x => { x with selfTest := ofBool (!pass) }
      if pass then s.testPassed e
      else if s.upd.liveTodo.head? = some e ∧ ¬ s.upd.liveBack then s.liveAbort e
      else
        let s := if s.upd.liveTodo.head? = some e then { s with upd.liveTodo := [], upd.liveBack := false } else s
        (s.retireEngine e).giveUp 0x0B07 causeGiveUp)

/-! ## Messages (R317 to R325) -/

/-- An identity reaches the mailboxes and the lock unit: the host once its island is released, the others once the engines run. -/
def State.reaches (s : State) (who : Fin 11) : Bool := if who = 0 then s.hostUp else s.up

/-- The doorbell that a post rings: the receiver's bit of the queue's configuration, if enabled (R325, R333). -/
def State.postBell (q : Fin 64) (s : State) : State :=
  let c := s.raw 0x3820 (q + 1)
  if q < 32 ∧ bit c 13 then
    match identIx (s.receiver q) with
    | some i => s.ring i (bits c 12 8)
    | none => s
  else s

/-- The doorbell that an acknowledgement rings: the sender's bit, if enabled. -/
def State.ackBell (q : Fin 64) (s : State) : State :=
  let c := s.raw 0x3820 (q + 1)
  if q < 32 ∧ bit c 21 then
    match identIx (s.sender q) with
    | some i => s.ring i (bits c 20 16)
    | none => s
  else s

/-- A queue's receiver is interrupted as its sixteenth slot becomes occupied, in interrupt-on-full mode (R324). -/
def State.fullCheck (q : Fin 64) (s : State) : State :=
  if ¬ s.eng.service ∧ s.receiver q = 0x01 ∧ s.eng.queue[q].slot.all fun x => x.state = 1 then
    ({ s with eng.fullIrq := true } : State).irqRefresh
  else s

/-- Stores an acknowledgement's code, frees the slot and rings the sender (R320). -/
def State.storeAck (q : Fin 64) (k : Fin 16) (code : Nat) (s : State) : State :=
  (s.modQueue q fun x => { x with slot := x.slot.set k { x.slot[k] with state := 2, code := code % 256 } }).ackBell q

/-- The link of a proxy is up and a peer exists behind it (R326): twin link with a pair, or a cascade link. -/
def State.proxyUp (s : State) (q : Fin 64) : Bool :=
  if q < 56 then s.twin.linkUp.getLsbD 0 ∧ (s.active ∨ s.standby) else s.twin.linkUp >>> 1 ≠ 0

/-- A message posted to a proxy goes out, or is acknowledged with 0x15 (R326). -/
def State.proxySend (q : Fin 64) (k : Fin 16) (s : State) : State :=
  if s.receiver q ≠ 0x20 ∧ s.receiver q ≠ 0x21 then s
  else if ¬ s.proxyUp q then s.storeAck q k 0x15
  else
    let s := s.launch (.message q s.eng.queue[q].slot[k])
    ({ s with twin.proxyOut := (q.val, k.val) :: s.twin.proxyOut } : State).arm (.proxy q k) 10000000

/-- The header stamped on a message now (R318). -/
def State.stamp (s : State) (q : Fin 64) (d : List Byte) : MsgSlot :=
  { sender := s.sender q, sepoch := (s.epochOf (s.sender q)).toNat, repoch := (s.epochOf (s.receiver q)).toNat,
    seq := s.eng.queue[q].seq.toNat, payload := d, state := 1 }

/-- The header's eight bytes (R318). -/
def msgHeader (q : Nat) (x : MsgSlot) : List Byte :=
  [x.sender, x.sepoch, x.repoch, x.payload.length, x.seq % 256, x.seq / 256, q, 0].map (BitVec.ofNat 8)

/-- A post (R319): the slot taken and the SEQ, or none where the queue is full. -/
def State.post (q : Fin 64) (d : List Byte) (s : State) : Option (Fin 16 × Nat) × State :=
  let x := s.eng.queue[q]
  let k := x.ptr
  if x.slot[k].state = 1 then
    (none, (s.modQueue q fun x => { x with refused := bump x.refused }).raiseLimited 0x0C01 q [])
  else
    let m := s.stamp q d
    let s := s.modQueue q fun x => { x with slot := x.slot.set k m, ptr := k + 1, seq := x.seq + 1, posts := bump x.posts }
    (some (k, m.seq), (((s.postBell q).fullCheck q).proxySend q k))

/-- The staged bytes of MBX_TXDATA (R331). -/
def State.staged (s : State) : List Byte := (s.eng.txData.toList.flatMap fun w => leBytes 4 w.toNat).take s.eng.txLen

/-- The host's write of MBX_POST (R331): the staged message is posted, and MBX_POSTSTAT says what came of it. -/
def State.hostPost (s : State) : State :=
  let no (r : Nat) (s : State) : State := { s with eng.postResult := 2, eng.postSlot := 0, eng.postReason := r, eng.postSeq := 0 }
  if h : s.eng.txQueue < 16 then
    if 56 < s.eng.txLen then no 3 s
    else
      let r := s.post ⟨s.eng.txQueue, by omega⟩ s.staged
      match r.1 with
      | some (k, seq) => { r.2 with eng.postResult := 1, eng.postSlot := k.val, eng.postReason := 0, eng.postSeq := seq }
      | none => no 1 r.2
  else no 2 s

/-- MBX_POST (R319): the host posts its staged message; an engine or a proxy posts `d`, at most 56 bytes, to queue `q`, whose sender it
is. -/
def execMbxPost (who : Fin 11) (q : Fin 64) (d : List Byte) (s : State) : Out :=
  .next (if ¬ s.reaches who then s
    else if who = 0 then s.hostPost
    else if s.sender q = identCode who ∧ d.length ≤ 56 then (s.post q d).2 else s)

/-- An acknowledgement of a message that came from the peer goes back to it (R326). -/
def State.proxyReply (q : Fin 64) (k : Fin 16) (code : Nat) (s : State) : State :=
  match s.twin.proxyIn.find? fun p => p.1 = q.val ∧ p.2.1 = k.val with
  | some (_, _, pq, pk) =>
    ({ s with twin.proxyIn := s.twin.proxyIn.filter fun p => ¬ (p.1 = q.val ∧ p.2.1 = k.val) } : State).launch
      (.messageAck pq pk s.eng.queue[q].slot[k].seq code)
  | none => s

/-- An acknowledgement (R320, R322, R323). -/
def State.ack (who : Fin 11) (q : Fin 64) (k : Fin 16) (code : Nat) (s : State) : State :=
  let x := s.eng.queue[q].slot[k]
  if s.receiver q ≠ identCode who then s.raise 0x0C04 q [q, k]
  else if x.state ≠ 1 then s
  else if x.sepoch ≠ (s.epochOf (s.sender q)).toNat then
    let s := s.modQueue q fun y => { y with slot := y.slot.set k { y.slot[k] with state := 0 } }
    ({ s with eng.orphans := bump s.eng.orphans } : State).raiseLimited 0x0C02 noInst [q, k]
  else (s.storeAck q k code).proxyReply q k code

/-- MBX_ACK (R320). -/
def execMbxAck (who : Fin 11) (q : Fin 64) (k : Fin 16) (code : Nat) (s : State) : Out :=
  .next (if s.reaches who then s.ack who q k code else s)

/-- The host's epoch increments: its locks are released and the SPI session ends (R316, R329, R341). -/
def State.hostBump (s : State) : State := (s.newEpoch 0).endSession .spi false

/-- HOST_BUMP (R316, R331). -/
def execHostBump (s : State) : Out := .next (if s.hostUp then s.hostBump else s)

/-! ## Locks (R327 to R330) -/

/-- The identities that take locks: the host and E0 to E7; proxies take none (R326). -/
def takesLocks (i : Fin 11) : Bool := i < 9

/-- A read of LCK_LOCKn (R327). Of coincident reads the first in the queue of commands is granted (DESIGN CHOICE, log entry 85). -/
def State.lockAcquire (who : Fin 11) (n : Fin 64) (s : State) : State :=
  let o := s.eng.lock[n].owner
  if o = 0 then
    { s with eng.lock := s.eng.lock.set n { owner := identCode who, epoch := s.eng.epoch[who].toNat },
             eng.lockRead := (true, identCode who) }
  else { s with eng.lockRead := (decide (o = identCode who), o) }

/-- A write of LCK_LOCKn (R329). -/
def State.lockRelease (who : Fin 11) (n : Fin 64) (s : State) : State :=
  if s.eng.lock[n].owner = identCode who then s.freeLock n
  else ({ s with eng.foreign := bump s.eng.foreign } : State).raise 0x0C05 n [n, identCode who]

/-- A 1 written to a lock's arm bit (R330): arming a free lock rings at once and leaves nothing armed. -/
def State.lockArm (who : Fin 11) (n : Fin 64) (s : State) : State :=
  if s.eng.lock[n].owner = 0 then s.ring who lockBit
  else { s with eng.arm := s.eng.arm.set who (s.eng.arm[who] ||| BitVec.ofNat 64 (2 ^ n.val)) }

/-- LOCK_ACQUIRE (R327): a read of LCK_LOCKn. -/
def execLockAcquire (who : Fin 11) (n : Fin 64) (s : State) : Out :=
  .next (if takesLocks who ∧ s.reaches who then s.lockAcquire who n else s)

/-- LOCK_RELEASE (R329): a write of LCK_LOCKn. -/
def execLockRelease (who : Fin 11) (n : Fin 64) (s : State) : Out :=
  .next (if s.reaches who then s.lockRelease who n else s)

/-- LOCK_ARM (R330). -/
def execLockArm (who : Fin 11) (n : Fin 64) (s : State) : Out :=
  .next (if takesLocks who ∧ s.reaches who then s.lockArm who n else s)

end Sys2Proof.Machine
end

