-- ==== Sys2Proof/Machine/Commit.lean ====
section
/-! DEFINITION. The temper commit: shadow, validation, application and rollback, the boot commit, Store and Restore (R343 to R355, R391). -/

namespace Sys2Proof.Machine

/-! ## The shadow (R343) -/

/-- The view that a session's write of the shadow is judged in. -/
def State.shadowView (s : State) : Cfg := s.cfg.overlaid s.net.shadow

/-- The write of an rwc object: it lands in the shadow. A string's voltage channel is on the divider range (R266, DEDUCED, log entry 38); a band's
high edge is not below its low edge (R104); a phase offset is below the period that the plan of the shadow gives (R185). -/
def objShadow (idx sub : Nat) : ObjWrite where
  invalid := fun s d =>
    if 0x2810 ≤ idx ∧ idx ≤ 0x2813 ∧ sub = 0x10 ∧ s.shadowView 0x2201 (leValue d + 1) ≠ 1 then some 0x08000101
    else if idx = 0x2122 ∧ realOf d < s.shadowView.real 0x2121 sub then some 0x06090030
    else if 0x2410 ≤ idx ∧ idx ≤ 0x2417 ∧ sub = 0x12 ∧ leValue d ≠ 0 ∧ s.shadowView.loopPeriod (idx - 0x2410) ≤ leValue d then some 0x06090030
    else none
  effect := fun w d s => s.shadowPut w idx sub (leValue d)

/-- The object is committed: rwc. -/
def isCommitted (idx sub : Nat) : Bool := (findObj idx sub).any fun r => r.access = .rwc

/-- SHADOW_WRITE (R343): a write of an rwc object. -/
def execShadowWrite (w : Session) (idx sub : Nat) (d : List Byte) (s : State) : Out :=
  .next (if isCommitted idx sub then s.writeBy w idx sub d (objShadow idx sub) else s)

/-! ## Where a commit stands -/

/-- A commit is validating or applying. -/
def State.commitBusy (s : State) : Bool := s.net.commit.st = .validating ∨ s.net.commit.st = .applying

/-- The view before the commit in progress. -/
def State.oldView (s : State) : Cfg := s.cfg.overlaid s.net.commit.before

/-- The whole new configuration of the commit in progress. -/
def State.newView (s : State) : Cfg := s.oldView.overlaid s.net.commit.set

/-- Held outputs may be adopted: not where the boot commit restores defaults (R355). -/
def State.mayAdopt (s : State) : Bool := ¬ (s.net.commit.kind = .boot ∧ s.net.commit.restore ≠ 0)

/-- Takes a change set for validation (R344). -/
def State.acceptCommit (kind : CommitKind) (set : List (Nat × Nat)) (s : State) : State :=
  { s with net.commit := { s.net.commit with
      st := .validating, kind := kind, set := set, before := [], todo := [], applied := [], rolling := false, code := 0, object := 0,
      owner := 0xFF } }.arm .commitVal 50000000

/-! ## How a commit ends -/

/-- The blocks' order as 0x3A00:0A reports it. -/
def Commit.doneOrder (c : Commit) : List Nat := c.applied.reverse

/-- The shadow without the entries of a change set (R343). -/
def shadowLess (set shadow : List (Nat × Nat)) : List (Nat × Nat) := shadow.filter fun p => set.lookup p.1 ≠ some p.2

/-- The entries of a change set leave the shadow, and a shadow without pending changes is unclaimed (R343). -/
def State.clearShadow (s : State) : State :=
  let l := shadowLess s.net.commit.set s.net.shadow
  { s with net.shadow := l, net.claim := if l = [] then none else s.net.claim }

/-- A chip of a pair begins to pair once its boot commit is over, unless it is in the protective state (R379, R418). -/
def State.beginPairing (s : State) : State :=
  if s.pins.twinPar ∧ ¬ s.rst.protective ∧ s.twin.st = .unpaired then
    (({ s with twin.st := .pairing, twin.mayPair := true } : State).arm .pairSend 10000000).arm .pairing (s.ns 0x3000 5)
  else s

/-- The first commit after a reset has ended: service mode (R324). -/
def State.serviceMode (s : State) : State := { s with eng.service := true }.irqRefresh

/-- The boot commit is over: the enabled ports start, a twin chip begins to pair (R324, R350, R359, R379). -/
def State.bootOver (s : State) : State :=
  let s : State := { s with rst.bootDue := false, net.commit.restore := 0 }
  let s := s.serviceMode
  let s := State.each (List.finRange 2) (fun p => fun s => if s.portOn p ∧ s.net.port[p].nmt = .off then s.portStart p else s) s
  s.beginPairing

/-- Commits the defaults in place of a boot commit that was refused or rolled back (R350). -/
def State.commitDefaults (s : State) : State :=
  let set := s.net.force.map fun p => (p.1, s.default (keyIndex p.1) (keySub p.1))
  ((s.clearShadow.serviceMode).raise 0x0D07 noInst [s.net.commit.code]).acceptCommit .defaults set

/-- What follows a commit that did not apply. -/
def State.afterFailure (s : State) : State :=
  match s.net.commit.kind with
  | .boot => s.commitDefaults
  | .defaults => s.bootOver
  | .user => s
  | .peer => if s.standby then s.launch (.answer false) else s

/-- A refusal that names a general timer's owner refuses the timer's claim (R99, log entry 27). -/
def State.dropTimers (object : Nat) (s : State) : State :=
  State.each (List.finRange 16) (fun t => fun s =>
    if object = objSelector 0x2110 (t + 1) then s.modGen t fun y => { y with claim := none } else s) s

/-- A commit is refused (R345). -/
def State.refuseCommit (r : CommitRefusal) (s : State) : State :=
  let s : State := { (s.dropTimers r.object).disarm .commitVal with
    net.commit := { s.net.commit with st := .refused, code := r.code, object := r.object, owner := r.owner }, twin.awaitPeer := false }
  (s.raise 0x0D04 noInst [r.code]).afterFailure

/-- A commit ends in state 3 (R343, R351). -/
def State.commitDone (s : State) : State :=
  let c := s.net.commit
  let s : State := { s with net.commit := { c with st := .done, count := bump c.count, order := c.doneOrder, before := [], todo := [] },
                            twin.mayPair := true }
  let s := ((s.disarm .channelWait).planSpur.recordTimers).rehash
  match c.kind with
  | .user => s.clearShadow
  | .peer => { s with twin.peerHash := s.net.commit.hash }
  | .boot => ({ s.clearShadow with upd.bootOk := true } : State).bootOver
  | .defaults => s.bootOver

/-! ## Application (R347, R348) -/

/-- A start of the shelf loop in block 6 waits for the bus-voltage channel in use, newly named or not (R191). -/
def State.startNeeds (s : State) (b : Nat) : List Naming :=
  let start : Bool := s.newView.flag 0x2E00 1 && (touchesObj (partOf [b] s.net.commit.set) 0x2E00 1 || !s.shelf.running || s.shelf.droop)
  let sub := if s.shelf.senseAlt then 5 else 4
  let c := s.newView 0x2E00 sub
  if b = 6 ∧ start ∧ ¬ s.ready c then [⟨6, objKey 0x2E00 sub, c⟩] else []

/-- The channels that a block's consumers need and that are not READY. -/
def State.unready (s : State) (b : Nat) : List Naming :=
  ((needed s.oldView s.newView b).filter fun x => ¬ s.ready x.ch) ++ s.startNeeds b

/-- The next block's turn begins, or the commit is done. -/
def State.nextTurn (s : State) : State :=
  if s.net.commit.todo = [] then s.commitDone else s.arm .channelWait 100000000

/-- Application begins (R347). -/
def State.beginApply (s : State) : State :=
  let s : State := { s.disarm .peerAnswer with net.commit := { s.net.commit with st := .applying }, twin.awaitPeer := false }
  s.nextTurn

/-- A rollback has ended, or had nothing to take back. -/
def State.rolledBack (s : State) : State :=
  let c := s.net.commit
  let s : State := { s with net.commit := { c with st := .rolledBack, rolling := false, before := [], todo := [] } }
  (s.raise 0x0D05 noInst [c.code]).afterFailure

/-- A block refuses: the blocks already applied roll back (R348). In a pair both chips roll back (R391). -/
def State.blockRefuses (r : CommitRefusal) (s : State) : State :=
  let s : State := { s.disarm .channelWait with net.commit := { s.net.commit with rolling := true, code := r.code, object := r.object, owner := r.owner } }
  let s := if s.twin.st = .activePaired ∧ s.net.commit.kind = .user then s.launch .rollback else s
  if s.net.commit.applied = [] then s.rolledBack else s

/-- The instant at which a block applies or rolls back (R347): a shelf-frame boundary, which is also a 40 kS/s instant and an evaluation of the
sequencer (R272), or a whole millisecond of the time of day. Lanes and loops take theirs at their own trigger or period boundary afterwards,
and the network waits for PMBus transactions in progress. -/
def State.blockInstant (s : State) (b : Nat) : Bool :=
  if b = 4 ∨ b = 5 then true
  else if b = 13 then s.tb.tod % 1000000 = 0 ∧ s.net.pmXfer.all Option.isNone
  else if b = 2 ∨ b = 3 ∨ b = 8 ∨ b = 10 then s.tb.tod % 1000000 = 0
  else s.frameTime = 0

/-- BLOCK_APPLY (R347): the next block of the order at its instant, once its channels are READY and while its live state meets every
check (R348). -/
def execBlockApply (s : State) : Out :=
  .next (match s.net.commit.todo with
    | b :: rest =>
      if s.net.commit.st ≠ .applying ∨ s.net.commit.rolling ∨ ¬ s.blockInstant b ∨ s.unready b ≠ [] then s
      else
        let c := s.net.commit
        match s.check s.oldView (mixed s.oldView c.set (b :: c.applied)) c.set with
        | some r => s.blockRefuses r
        | none =>
          let s := s.takeBlock b (partOf [b] c.set) s.newView s.mayAdopt
          let s : State := { s with net.commit := { s.net.commit with todo := rest, applied := b :: c.applied } }
          s.nextTurn
    | [] => s)

/-- CHANNEL_NOT_READY (R348): the block's turn has lasted 100 ms. -/
def execChannelNotReady (s : State) : Out :=
  .next (match s.net.commit.todo with
    | b :: _ =>
      match s.unready b with
      | x :: _ =>
        if s.net.commit.st = .applying ∧ ¬ s.net.commit.rolling ∧ s.due .channelWait then s.blockRefuses ⟨0x0D14, x.key * 256, 0xFF⟩ else s
      | [] => s
    | [] => s)

/-- ROLLBACK_APPLY (R348): the block applied last returns to its previous values at its own instant. -/
def execRollbackApply (s : State) : Out :=
  .next (match s.net.commit.applied with
    | b :: rest =>
      if s.net.commit.st ≠ .applying ∨ ¬ s.net.commit.rolling ∨ ¬ s.blockInstant b then s
      else
        let s := s.takeBlock b (partOf [b] s.net.commit.before) s.oldView s.mayAdopt
        let s : State := { s with net.commit := { s.net.commit with applied := rest } }
        if rest = [] then s.rolledBack else s
    | [] => s)

/-! ## Validation (R345, R353, R391) -/

/-- The objects that fault outputs displace are taken as naming 0xFF (R353). -/
def State.displacedKeys (s : State) (set : List (Nat × Nat)) : List Nat := ((s.cfg.overlaid set).displaced).map Claim.key

/-- A change set with its displaced objects at 0xFF. -/
def displacing (keys : List Nat) (set : List (Nat × Nat)) : List (Nat × Nat) := keys.foldl (fun l k => putKey k 0xFF l) set

/-- A gate current as it is committed: the nearest whole number of microamperes, the higher of two (R225). -/
def wholeMicroamps (v : Nat) : Nat := toReal32 (((((real32 v).getD 0) * 1000000 + 1 / 2).floor : Rat) / 1000000)

/-- The object is a gate current: of a branch, a feed pair or a string (R225). -/
def isGateCurrent (idx sub : Nat) : Bool :=
  (0x2610 ≤ idx ∧ idx < 0x2620 ∧ sub = 4) ∨ (0x2630 ≤ idx ∧ idx < 0x2632 ∧ sub = 8) ∨ (idx = 0x2640 ∧ 5 ≤ sub ∧ sub ≤ 8)

/-- The hold-on-limit mask of a lane as it is committed: integrators marked, limiters not (R152, R157). -/
def Cfg.holdMask (c : Cfg) (n : Nat) : Nat :=
  maskNat6 fun k => match stageType (c (0x2320 + n) (k + 1)) with
    | .integrator => true
    | .limiter => false
    | _ => bit (c (0x2320 + n) 7) k
where
  /-- Six bits as a number. -/
  maskNat6 (f : Nat → Bool) : Nat := ofBits ((List.range 6).map f)

/-- A change set with the values that the MB4800 itself settles at commit: gate currents (R225), the enables of on-die sensors (R306) and the
masks of lanes whose stages it names (R152). -/
def Cfg.settled (c : Cfg) (set : List (Nat × Nat)) : List (Nat × Nat) :=
  let set := set.map fun p =>
    if isGateCurrent (keyIndex p.1) (keySub p.1) then (p.1, wholeMicroamps p.2)
    else if (List.range 6).any fun k => p.1 = objKey (0x2C10 + k) 9 then (p.1, 1) else p
  (List.range 12).foldl (fun l n =>
    if l.any fun p => keyIndex p.1 = 0x2320 + n then
      (if (c.overlaid l).holdMask n = (c.overlaid l) (0x2320 + n) 7 then l else putKey (objKey (0x2320 + n) 7) ((c.overlaid l).holdMask n) l)
    else l) set

/-- The shadow's own entries follow a change set whose values the commit settles, so that they are not pending afterwards. -/
def shadowSettled (was set shadow : List (Nat × Nat)) : List (Nat × Nat) :=
  shadow.map fun p => if was.lookup p.1 = some p.2 then (p.1, (set.lookup p.1).getD p.2) else p

/-- A change set has passed validation and ordering: in a pair the standby is asked, otherwise application begins (R391). -/
def State.commitPassed (keys : List Nat) (set : List (Nat × Nat)) (order : List Nat) (s : State) : State :=
  let c := s.net.commit
  let timers := (s.timersDisplaced (s.cfg.overlaid set)).map Claim.key
  let s := State.each (keys ++ timers) (fun k => State.raise 0x0D09 noInst [k * 256]) (s.disarm .commitVal)
  let s : State := { s with
    net.shadow := shadowSettled c.set set s.net.shadow
    net.commit := { c with set := set, before := set.map fun p => (p.1, s.raw (keyIndex p.1) (keySub p.1)), todo := order } }
  if s.twin.st = .activePaired ∧ c.kind = .user then
    (({ s with twin.awaitPeer := true } : State).launch (.changeSet set order)).arm .peerAnswer 50000000
  else if c.kind = .peer then (s.launch (.answer true)).beginApply
  else s.beginApply

/-- The commit's own validation and ordering (R345, R346). A change set of the active chip comes with its order (R391). -/
def State.validateCommit (s : State) : State :=
  let c := s.net.commit
  let keys := s.displacedKeys c.set
  let set := s.cfg.settled (displacing keys c.set)
  match s.validate (c.kind = .boot ∨ c.kind = .defaults) s.cfg set with
  | .inr r => s.refuseCommit (if c.kind = .peer then ⟨0x0E0A, r.object, r.owner⟩ else r)
  | .inl order => s.commitPassed keys set (if c.kind = .peer then c.order else order)

/-- COMMIT_VALIDATION (R345, R346): validation and ordering complete; a standby that does not answer within 50 ms refuses (R391). -/
def execCommitValidation (s : State) : Out :=
  .next (if s.net.commit.st ≠ .validating then s
    else if s.twin.awaitPeer then (if s.due .peerAnswer then s.refuseCommit ⟨0x0E0A, 0, 0xFF⟩ else s)
    else s.validateCommit)

/-! ## Commands (R344) -/

/-- The signatures of R344. -/
def sigTemper : Nat := 0x72706D74
def sigDrop : Nat := 0x706F7264

/-- The write of 0x3A00:01 (R344): another session's claim is judged first. -/
def objCommit (w : Option Session) : ObjWrite where
  busy := fun s d =>
    if s.net.claim.isSome ∧ s.net.claim ≠ w then some 0x08000103
    else refuseIf (s.commitBusy ∨ (leValue d = sigTemper ∧ s.net.storing.isSome))
  effect := fun _ d s =>
    if leValue d = sigDrop then s.dropClaim
    else if s.net.claim.isNone then
      { s with net.commit := { s.net.commit with st := .done, code := 0, object := 0, owner := 0xFF }, twin.mayPair := true }
    else s.acceptCommit .user s.net.shadow

/-- COMMIT (R344). -/
def execCommit (w : Session) (s : State) : Out := .next (s.writeBy w 0x3A00 1 (leBytes 4 sigTemper) (objCommit (some w)))

/-- DISCARD (R344). -/
def execDiscard (w : Session) (s : State) : Out := .next (s.writeBy w 0x3A00 1 (leBytes 4 sigDrop) (objCommit (some w)))

/-! ## The stored configuration (R350, R354, R355) -/

/-- The copy with the higher sequence number of the valid ones (R439). -/
def Net.newestCopy (n : Net) : Option CfgCopy :=
  match n.store[0], n.store[1] with
  | some a, some b => some (if a.seq < b.seq then b else a)
  | a, b => a <|> b

/-- The copy that the next Store writes: an invalid one, or the one with the lower sequence number. -/
def Net.storeTarget (n : Net) : Fin 2 :=
  match n.store[0], n.store[1] with
  | none, _ => 0
  | _, none => 1
  | some a, some b => if b.seq < a.seq then 1 else 0

/-- An object belongs to the scope of sub 02: the communication area and 0x2020 (R354). -/
def commScope (k : Nat) : Bool := keyIndex k < 0x2000 ∨ keyIndex k = 0x2020

/-- What the boot commit loads: the newest copy, less the scopes marked for restore; the defaults where there is none (R350, R355), and in
the protective state (R418). -/
def State.bootCopy (s : State) : CfgCopy :=
  let m := s.net.commit.restore
  let comm : Bool := m.getLsbD 0 || m.getLsbD 1
  let rest : Bool := m.getLsbD 0 || m.getLsbD 2
  match s.net.newestCopy with
  | none => {}
  | some c =>
    if s.rst.protective then {}
    else { c with
      vals := c.vals.filter fun p => if commScope p.1 then !comm else !rest
      port := if comm then Vector.replicate 2 [] else c.port
      idle := if rest then 0x43960000 else c.idle }

/-- The change set that makes a list of values the configuration in force: every key of either that differs. -/
def State.setTo (s : State) (vals : List (Nat × Nat)) : List (Nat × Nat) :=
  let want := overlay vals (s.net.force.map fun p => (p.1, s.default (keyIndex p.1) (keySub p.1)))
  want.filter fun p => s.raw (keyIndex p.1) (keySub p.1) ≠ p.2

/-- The boot commit of a copy (R350): the objects kept once per port, the idle timeouts of the sessions and the change set. -/
def State.bootFrom (c : CfgCopy) (s : State) : State :=
  let s : State := { s with
    net.port := Vector.ofFn fun p => { s.net.port[p] with objs := c.port[p] }
    net.sess := s.net.sess.map fun x => { x with idle := c.idle } }
  let set := s.setTo c.vals
  ({ s with net.shadow := set, net.claim := none } : State).acceptCommit .boot set

/-- BOOT_COMMIT (R350): E0 loads and commits the stored or default configuration. -/
def execBootCommit (s : State) : Out :=
  .next (if s.up ∧ s.rst.bootDue ∧ ¬ s.commitBusy then
      let s := s.copiesAtLoad 3 s.net.store[0].isSome s.net.store[1].isSome
      let s := if s.net.newestCopy.isNone then s.raise 0x1105 noInst [] else s
      s.bootFrom s.bootCopy
    else s)

/-- The copy that a Store of a scope writes (R354, R338); `w` is the session whose idle timeout is kept. -/
def State.copyFor (s : State) (sub : Nat) (w : Option Session) : CfgCopy :=
  let old := s.net.newestCopy
  let o := old.getD {}
  let comm : Bool := sub = 1 ∨ sub = 2
  let rest : Bool := sub = 1 ∨ sub = 3
  let take := fun (l : List (Nat × Nat)) (c r : Bool) => l.filter fun p => if commScope p.1 then c else r
  { seq := (old.map fun c => c.seq + 1).getD 1
    vals := overlay (take s.net.force comm rest) (take o.vals (!comm) (!rest))
    port := if comm then s.net.port.map fun p => p.objs else o.port
    idle := if rest then (match w with | some w => s.net.sess[sessIx w].idle | none => o.idle) else o.idle }

/-- A Store may not begin now (R354). -/
def State.storeBusy (s : State) : Bool := s.pins.brownWarn ∨ s.commitBusy ∨ s.net.storing.isSome

/-- A Store begins: its copy is invalid until it is complete (R354, R439). -/
def State.storeStart (sub : Nat) (by_ : StoreBy) (s : State) : State :=
  let w := match by_ with | .session w => some w | .nvc => some .spi | .peer => none
  let t := s.net.storeTarget
  let c := s.copyFor sub w
  let s : State := { s with net.storing := some (t, c, sub, by_), net.store := s.net.store.set t none }
  let s := s.arm .store 40000000
  if s.twin.st = .activePaired then s.launch (.store sub) else s

/-- The write of 0x1010:01 to :03 (R354). -/
def objStore (sub : Nat) (w : Option Session) : ObjWrite where
  busy := fun s _ => refuseIf s.storeBusy
  effect := fun _ _ s => s.storeStart sub (match w with | some w => .session w | none => .peer)

/-- STORE (R354): the scope is the sub, 1 to 3. -/
def execStore (w : Session) (scope : Fin 3) (d : List Byte) (s : State) : Out :=
  .next (s.writeBy w 0x1010 (scope + 1) d (objStore (scope + 1) (some w)))

/-- A Store cancels the restore marks of the scope it wrote (R355; its own scope only, DEDUCED, log entry 39). -/
def marksAfter (sub : Nat) (m : BitVec 3) : BitVec 3 := if sub = 1 then 0 else m &&& ~~~ BitVec.ofNat 3 (2 ^ (sub - 1))

/-- A response of the tunnel on Q24 (R369): abort code, SEQ and TAG of the request, LAST, data. -/
def State.tunnelReply (req : Nat × Nat) (code : Nat) (last : Bool) (d : List Byte) (s : State) : State :=
  (s.post 24 (leBytes 4 code ++ leBytes 2 req.1 ++ leBytes 1 req.2 ++ leBytes 1 (ofBool last) ++ d)).2

/-- The tunnel request that waits for a Store is answered (R354, R369). -/
def State.tunnelStored (code : Nat) (s : State) : State :=
  match s.net.tunnelReq with
  | some r => ({ s with net.tunnelReq := none } : State).tunnelReply r code true []
  | none => s

/-- The confirmation of a Store. -/
def State.storeAnswer (by_ : StoreBy) (ok : Bool) (s : State) : State :=
  match by_ with
  | .session w =>
    let s := s.answer w (if ok then .done else .abort 0x08000024)
    if w = .spi then s.tunnelStored (if ok then 0 else 0x08000024) else s
  | .nvc => { s with mem.nvBusy := false, mem.nvResult := if ok then 1 else 6 }
  | .peer => s

/-- STORE_DONE (R354): the copy is read back, good or not (R440). -/
def execStoreDone (ok : Bool) (s : State) : Out :=
  .next (match s.net.storing with
    | none => s
    | some (t, c, sub, by_) =>
      let s : State := { s.disarm .store with net.storing := none }
      let s := if ok then
          ({ s with net.store := s.net.store.set t (some c), net.commit.restore := marksAfter sub s.net.commit.restore } : State).raise 0x0D0A noInst [sub]
        else s.raise 0x1104 noInst []
      s.storeAnswer by_ ok)

/-- The write of 0x1011:01 to :03 (R355). -/
def objRestore (sub : Nat) : ObjWrite where
  effect := fun _ _ s =>
    ({ s with net.commit.restore := s.net.commit.restore ||| BitVec.ofNat 3 (2 ^ (sub - 1)) } : State).raise 0x0D0B noInst [sub]

/-- RESTORE_DEFAULTS (R355). -/
def execRestoreDefaults (w : Session) (scope : Fin 3) (d : List Byte) (s : State) : Out :=
  .next (s.writeBy w 0x1011 (scope + 1) d (objRestore (scope + 1)))

end Sys2Proof.Machine
end

