-- ==== Sys2Proof/Machine/Memory.lean ====
section
/-! DEFINITION. Memory integrity (R428 to R435, R454) and the host's commands to the NVM controller (R438, R450). -/

namespace Sys2Proof.Machine

/-! ## The scrubber (R433) -/

/-- Number of a memory in the records of R454: main SRAM, queue SRAM, MRAM (log entry 18). -/
def memNumber : MemKind → Fin 3
  | .main => 0
  | .queue => 1
  | .mram => 2

/-- Words of a memory (R36, R437). -/
def memWords : MemKind → Nat
  | .main => 0x80000
  | .queue => 0x2000
  | .mram => 0x100000

/-- Host address of a memory's word (R36). -/
def memAddress : MemKind → Nat → Nat
  | .main, w => 0x10000000 + 8 * (w % 0x80000)
  | .queue, w => 0x08000000 + 8 * (w % 0x2000)
  | .mram, w => 0x20000000 + 8 * (w % 0x100000)

/-- The bound of a pass in ns (R433). -/
def passBound : MemKind → Nat
  | .main | .queue => 4000000000
  | .mram => 93600000000000

/-- A pass of a memory begins. -/
def State.beginPass (m : MemKind) (s : State) : State :=
  { s.arm (.scrubPass (memNumber m)) (passBound m) with mem.passFrom := s.mem.passFrom.set (memNumber m) s.now }

/-- A pass of a memory ends, and the next begins. -/
def State.endPass (m : MemKind) (s : State) : State :=
  let t : Rat := ((s.now - s.mem.passFrom[memNumber m] : Nat) : Rat) / 1000000000
  let s : State := match m with
    | .mram => { s with mem.scrubPasses := satInc 4095 s.mem.scrubPasses }
    | _ => { s with mem.passTime := t }
  s.beginPass m

/-- A count of R449 and R453 saturates. -/
def satCount (n : Nat) : Nat := satInc 0xFFFFFFFF n

/-- Counts a correction in its hour (R454). -/
def State.countHour (m : MemKind) (s : State) : State :=
  let h := s.now / 3600000000000
  let s : State := if h = s.mem.hour then s else { s with mem.hour := h, mem.hourCorr := Vector.replicate 3 0, mem.hourRaised := Vector.replicate 3 false }
  { s with mem.hourCorr := s.mem.hourCorr.set (memNumber m) (s.mem.hourCorr[memNumber m] + 1) }

/-- SYS_ECCINFO of an event (R449): the first nibble corrected is that of lane 0 where both lanes are (DEDUCED, log entry 40). -/
def eccInfoOf (a b : LaneRead) (critical : Bool) : Nat :=
  match a, b with
  | .uncorrectable, _ | _, .uncorrectable => ofBits [false, false, false, false, false, false, true, true, critical]
  | .corrected n _, .corrected _ _ => n + 32 + 128 + 256 * ofBool critical
  | .corrected n _, _ | _, .corrected n _ => n + 128 + 256 * ofBool critical
  | _, _ => 0

/-- Notes where an error was found, in the registers of its memory (R449, R450, R453). -/
def State.eccEvent (m : MemKind) (addr info : Nat) (s : State) : State :=
  match m with
  | .mram => { s with mem.nvEccAddr := addr, mem.lastAddr := addr }
  | _ => { s with mem.eccAddr := addr, mem.eccInfo := info, mem.lastAddr := addr }

/-- A corrected word (R432, R454). -/
def State.memCorrected (m : MemKind) (addr : Nat) (s : State) : State :=
  let s := s.countHour m
  match m with
  | .main => ({ s with mem.mainCorr := satCount s.mem.mainCorr } : State).raiseLimited 0x1001 noInst [addr]
  | .queue => ({ s with mem.queueCorr := satCount s.mem.queueCorr } : State).raiseLimited 0x1001 noInst [addr]
  | .mram => ({ s with mem.mramCorr := satCount s.mem.mramCorr } : State).raiseLimited 0x1101 noInst [addr]

/-- The partition of R437 that an address of the MRAM window lies in, numbered in the rule's order (log entry 18). -/
def partitionOf (addr : Nat) : Nat :=
  let o := addr - 0x20000000
  if o < 0x200000 then 0 else if o < 0x400000 then 1 else if o < 0x600000 then 2 else if o < 0x680000 then 3
  else if o < 0x6A0000 then 4 else if o < 0x6C0000 then 5 else if o < 0x6D0000 then 6 else 7

/-- The copy of a two-copy partition that an offset lies in, the second from an offset on (R437). -/
def copyAt (from_ o : Nat) : Fin 2 := if o < from_ then 0 else 1

/-- A word in use of a stored copy has become uncorrectable: the copy is no longer valid (R130, R439). -/
def State.copySpoiled (addr : Nat) (s : State) : State :=
  let o := addr - 0x20000000
  match partitionOf addr with
  | 3 => { s with net.store := s.net.store.set (copyAt 0x640000 o) none }
  | 4 => { s with meas.calHalf := s.meas.calHalf.set (copyAt 0x690000 o) none }
  | 5 => { s with bat.copies := s.bat.copies.set (copyAt 0x6B0000 o) none }
  | _ => s

/-- An uncorrectable word, which reads 0 until it is written (R432, R434, R435); `used` says that it is of critical state, or in MRAM of
a copy's content. An active chip first gives up control (R392). -/
def State.memUncorrectable (m : MemKind) (addr : Nat) (used : Bool) (s : State) : State :=
  let old := s.mem.badWords.contains addr
  let s : State := { s with mem.badWords := if old then s.mem.badWords else addr :: s.mem.badWords }
  match m with
  | .mram =>
    let user := if partitionOf addr = 7 then writeBytes addr (List.replicate 8 0) s.mem.user else s.mem.user
    let s : State := { s with mem.mramUnc := satCount s.mem.mramUnc, mem.user := user }
    let s := if used then s.copySpoiled addr else s
    if old then s else s.raise 0x1102 noInst [partitionOf addr, addr]
  | m =>
    let s : State := match m with
      | .main => { s with mem.mainUnc := satCount s.mem.mainUnc }
      | _ => { s with mem.queueUnc := satCount s.mem.queueUnc }
    if m = .main ∧ used then
      let s := (if s.active then s.dropToken 0x1003 else s).assertReset .warm causeUncorr false
      { s with rst.owed := s.rst.owed ++ [(0x1003, [addr])] }
    else if old then s else s.raise 0x1002 noInst [addr]

/-- The word that the scrubber reads next: MRAM's by NVC_SCRUB, the SRAMs' by the command. -/
def State.scrubWord (s : State) (m : MemKind) (word : Nat) : Nat := if m = .mram then s.mem.scrubPos else word % memWords m

/-- SCRUB_STEP (R430 to R435): one word's codeword is read and corrected. -/
def execScrubStep (m : MemKind) (word : Nat) (code : BitVec 80) (used : Bool) (s : State) : Out :=
  let n := s.scrubWord m word
  let addr := memAddress m n
  let a := rsLane code.toNat 0
  let b := rsLane code.toNat 1
  let s : State := if m = .mram then { s with mem.scrubPos := (n + 1) % memWords .mram } else s
  let s := if n + 1 = memWords m then s.endPass m else s
  .next (if a = .clean ∧ b = .clean then s
    else
      let s := s.eccEvent m addr (eccInfoOf a b (m = .main && used))
      if a = .uncorrectable ∨ b = .uncorrectable then s.memUncorrectable m addr used else s.memCorrected m addr)

/-- SCRUB_LATE (R433). -/
def execScrubLate (m : MemKind) (s : State) : Out :=
  let t : TimerId := .scrubPass (memNumber m)
  .next (if s.due t then (s.disarm t).raise 0x1004 noInst [memNumber m] else s)

/-- CORRECTION_RATE (R454): recorded once in the hour. -/
def execCorrectionRate (m : MemKind) (s : State) : Out :=
  let i := memNumber m
  .next (if s.raw 0x5F30 0x0C < s.mem.hourCorr[i] ∧ s.mem.hour = s.now / 3600000000000 ∧ ¬ s.mem.hourRaised[i] then
      ({ s with mem.hourRaised := s.mem.hourRaised.set i true } : State).raise 0x1005 noInst [i.val]
    else s)

/-! ## NVC_CMD (R438, R450) -/

/-- Ends a command of the NVM controller with a result. -/
def State.nvResult (r : Nat) (s : State) : State := { s with mem.nvResult := r, mem.nvBusy := false }

/-- NVC_CMD STORE (R450, R354): refusals in the order role, busy, BROWN_WARN (DEDUCED, log entry 41). A scope that is none of 1 to 3
has no effect. -/
def State.nvcStore (scope : Nat) (s : State) : State :=
  if scope = 0 then s
  else if ¬ roleAllows (s.roleOf .spi) .engineer then { s with mem.nvResult := 4 }
  else if s.mem.nvBusy ∨ s.commitBusy ∨ s.net.storing.isSome then { s with mem.nvResult := 2 }
  else if s.pins.brownWarn then { s with mem.nvResult := 3 }
  else ({ s with mem.nvResult := 0, mem.nvBusy := true } : State).storeStart scope .nvc

/-- NVC_STORE (R450): NVC_CMD with its key, OP 0x01 and a scope. -/
def execNvcStore (scope : Fin 4) (s : State) : Out := .next (s.byHost (State.nvcStore scope))

/-- The word of NVC_ADDR lies in the user area, and is aligned (R450). -/
def userWord (a : Nat) : Bool := userBase ≤ a ∧ a < userEnd ∧ a % 8 = 0

/-- NVC_CMD USER_WRITE (R450): one 64-bit word of the user area. -/
def State.nvcUserWrite (s : State) : State :=
  let a := s.mem.nvAddr.toNat
  if ¬ roleAllows (s.roleOf .spi) .operator then { s with mem.nvResult := 4 }
  else if s.mem.nvBusy then { s with mem.nvResult := 2 }
  else if s.pins.brownWarn then { s with mem.nvResult := 3 }
  else if ¬ userWord a then { s with mem.nvResult := 5 }
  else { s with
    mem.user := writeBytes a (leBytes 4 s.mem.nvData0.toNat ++ leBytes 4 s.mem.nvData1.toNat) s.mem.user
    mem.badWords := s.mem.badWords.filter fun b => b ≠ a
    mem.nvResult := 1 }

/-- NVC_USER_WRITE (R450): NVC_CMD with its key and OP 0x02. -/
def execNvcUserWrite (s : State) : Out := .next (s.byHost State.nvcUserWrite)

end Sys2Proof.Machine
end

