-- ==== Sys2Proof/Machine/Sessions.lean ====
section
/-! DEFINITION. Roles and sessions (R338 to R341): requests, challenges, responses, lockouts and the idle timeout. -/

namespace Sys2Proof.Machine

/-- The role of a role number, 1 to 3 (R339). -/
def roleOfNumber (n : Nat) : Role :=
  match n with
  | 1 => .operator
  | 2 => .engineer
  | 3 => .vendor
  | _ => .observer

/-- Key slot of a role (R471): Vendor 0, Engineer 1, Operator 2. -/
def roleSlot : Role → Fin 9
  | .vendor => 0
  | .engineer => 1
  | _ => 2

/-- Where a role's failures and its lockout are counted; none for Observer, which no response wins. -/
def roleCount : Role → Option (Fin 3)
  | .observer => none
  | .operator => some 0
  | .engineer => some 1
  | .vendor => some 2

/-- The role is locked out on the session (R340). -/
def Sess.lockedOut (x : Sess) (r : Role) : Bool := ((roleCount r).map fun j => x.locked[j]).getD false

/-- A nonce of sixteen fresh bytes for a role (R339). -/
def State.challenge (w : Session) (r : Role) (s : State) : State :=
  let n := s.draw
  (n.2.modSess (sessIx w) fun x => { x with
    requested := rank r, nonceRole := r, held := true, nonce := (List.range 16).map (Config.random n.1) }).arm (.nonce (sessIx w)) 10000000000

/-- A role that the lifecycle state lets a session obtain (R469). -/
def Life.obtainable (l : Life) (r : Role) : Bool :=
  match l with
  | .blank => r = .vendor
  | .scrapped => false
  | _ => true

/-- The write of 0x2010:01 (R339, R340, R341, R469, R476). -/
def objRole (w : Option Session) : ObjWrite where
  invalid := fun s d =>
    let r := roleOfNumber (leValue d)
    match w with
    | none => none
    | some w =>
      if s.net.sess[sessIx w].lockedOut r then some 0x08000107
      else if r ≠ .observer ∧ (s.upd.key[roleSlot r] = [] ∨ ¬ Life.obtainable s.upd.life r) then some 0x08000122
      else none
  effect := fun _ d s =>
    match w with
    | none => s
    | some w => if leValue d = 0 then s.endSession w true else s.challenge w (roleOfNumber (leValue d))

/-- ROLE_REQUEST (R339): a role number, 1 to 3, written to 0x2010:01. -/
def execRoleRequest (w : Session) (d : List Byte) (s : State) : Out := .next (s.writeBy w 0x2010 1 d (objRole (some w)))

/-- SESSION_END_REQUEST (R341): 0 written to 0x2010:01. -/
def execSessionEndRequest (w : Session) (s : State) : Out := .next (s.writeBy w 0x2010 1 [0] (objRole (some w)))

/-- The message a role key authenticates (R339). -/
def State.authMessage (s : State) (w : Session) : List Byte :=
  let x := s.net.sess[sessIx w]
  x.nonce ++ leBytes 4 s.upd.serial ++ leBytes 1 (rank x.nonceRole) ++ leBytes 1 (sessIx w)

/-- The response matches the nonce that the session holds (R339). -/
def State.responseMatches (s : State) (w : Session) (d : List Byte) : Bool :=
  let x := s.net.sess[sessIx w]
  let k := s.upd.key[roleSlot x.nonceRole]
  x.held ∧ k ≠ [] ∧ d = (List.range 32).map (Config.hmac k (s.authMessage w))

/-- The nonce is used up. -/
def State.useNonce (w : Session) (s : State) : State :=
  (s.modSess (sessIx w) fun x => { x with held := false }).disarm (.nonce (sessIx w))

/-- A failed response (R340): counted and recorded; the third in a row for a role locks it for 60 s. -/
def State.authFailed (w : Session) (s : State) : State :=
  let i := sessIx w
  let x := s.net.sess[i]
  let s := ((s.useNonce w).modSess i fun x => { x with failed := bump x.failed }).raise 0x0D01 noInst [i]
  match roleCount x.nonceRole with
  | none => s
  | some j =>
    if x.fails[j] + 1 < 3 then s.modSess i fun x => { x with fails := x.fails.set j (x.fails[j] + 1) }
    else
      ((s.modSess i fun x => { x with fails := x.fails.set j 0, locked := x.locked.set j true }).arm
        (.lockout i (rank x.nonceRole)) 60000000000).raise 0x0D02 noInst [i, rank x.nonceRole]

/-- A matching response: the role wanted comes into force and the count of its failures starts again (R339, R340). -/
def State.authPassed (w : Session) (s : State) : State :=
  (s.useNonce w).modSess (sessIx w) fun x => { x with
    role := x.nonceRole, fails := ((roleCount x.nonceRole).map fun j : Fin 3 => x.fails.set j 0).getD x.fails }

/-- The write of 0x2010:03 (R339): a response is 32 bytes; one that fails is answered 0x0800_0106. -/
def objResponse (w : Option Session) : ObjWrite where
  badLength := fun d => d.length ≠ 32
  effect := fun _ d s =>
    match w with
    | none => s
    | some w => if s.responseMatches w d then s.authPassed w else s.authFailed w
  reply := fun s d =>
    match w with
    | none => none
    | some w => if s.responseMatches w d then none else some 0x08000106

/-- ROLE_RESPONSE (R339, R340). -/
def execRoleResponse (w : Session) (d : List Byte) (s : State) : Out := .next (s.writeBy w 0x2010 3 d (objResponse (some w)))

/-- AUTH_LOCKOUT_END (R340): the 60 s of a lockout are over. -/
def execAuthLockoutEnd (w : Session) (role : Fin 3) (s : State) : Out :=
  let t : TimerId := .lockout (sessIx w) (role.val + 1)
  .next (if s.due t then (s.disarm t).modSess (sessIx w) fun x => { x with locked := x.locked.set role false } else s)

/-- NONCE_EXPIRY (R339): 10 s after issue. -/
def execNonceExpiry (w : Session) (s : State) : Out := .next (if s.due (.nonce (sessIx w)) then s.useNonce w else s)

/-- SESSION_IDLE_TIMEOUT (R341). -/
def execSessionIdleTimeout (w : Session) (s : State) : Out :=
  .next (if s.due (.sessIdle (sessIx w)) then (s.disarm (.sessIdle (sessIx w))).endSession w false else s)

/-- The write of 0x2010:05 (R338): only the writing session's copy changes, and its timeout runs anew. -/
def objIdle (w : Option Session) : ObjWrite where
  effect := fun _ d s =>
    match w with
    | none => s
    | some w => (s.modSess (sessIx w) fun x => { x with idle := leValue d }).touch w

end Sys2Proof.Machine
end

