-- ==== Sys2Proof/Machine/Update.lean ====
section
/-! DEFINITION. Staging, trial, live update, lifecycle and keys (R455 to R476). -/

namespace Sys2Proof.Machine

/-- The sixteen bytes of a tag of AES-256-GCM (R455). -/
def gcmTag (key iv aad cipher : List Byte) : List Byte := (List.range 16).map (Config.gcmTag key iv aad cipher)

/-! ## The image (R455) -/

/-- A little-endian field of an image. -/
def imageField (b : List Byte) (at_ n : Nat) : Nat := leValue ((b.drop at_).take n)

/-- Bytes of an image. -/
def imagePart (b : List Byte) (at_ n : Nat) : List Byte := (b.drop at_).take n

/-- The version of an image. -/
def imageVersion (b : List Byte) : Nat := imageField b 8 4

/-- The body's length L. -/
def imageBody (b : List Byte) : Nat := imageField b 16 4

/-- Flags [0] and [1]: live-update capable, raise the security floor at commit. -/
def imageLive (b : List Byte) : Bool := bit (imageField b 21 1) 0
def imageRaises (b : List Byte) : Bool := bit (imageField b 21 1) 1

/-- Length of the whole image, once its header is known. -/
def imageTotal (b : List Byte) : Nat := 368 + imageBody b

/-- The image key named in the key identifier (R455, R471): slots 3 and 4; empty where there is none. -/
def Upd.imageKey (u : Upd) (b : List Byte) : List Byte :=
  match bits (imageField b 20 1) 7 4 with
  | 0 => u.key[3]
  | 1 => u.key[4]
  | _ => []

/-- The signing key named in the key identifier (R471): slots 5 to 8, unless revoked; empty where there is none. -/
def Upd.signKey (u : Upd) (b : List Byte) : List Byte :=
  let k := bits (imageField b 20 1) 3 0
  if k < 4 ∧ ¬ u.revoked.getLsbD k then (u.key[5 + k]?).getD [] else []

/-- The header check of R458: the code of the first check that fails. -/
def Upd.headerFault (u : Upd) (h : List Byte) : Option Nat :=
  if imageField h 0 4 ≠ 0x474D494C ∨ imageField h 4 1 ≠ 1 then some 0x1301
  else if imageField h 5 1 ≠ 1 then some 0x1302
  else if ¬ bit (imageField h 6 2) 1 then some 0x1303
  else if imageField h 12 4 < u.floor then some 0x1304
  else if imageBody h < 1 ∨ 2096784 < imageBody h then some 0x1305
  else if u.imageKey h = [] ∨ u.signKey h = [] ∨ imagePart h 24 12 = imagePart h 36 12 then some 0x1306
  else if gcmTag (u.imageKey h) (imagePart h 36 12) (imagePart h 0 240) [] ≠ imagePart h 240 16 then some 0x1307
  else none

/-- The verification of R459; `uncorr` says that a word of the slot reads uncorrectable. -/
def Upd.bodyFault (u : Upd) (b : List Byte) (uncorr : Bool) : Option Nat :=
  let l := imageBody b
  if gcmTag (u.imageKey b) (imagePart b 24 12) [] (imagePart b 256 l) ≠ imagePart b (256 + l) 16 then some 0x1308
  else if ¬ Config.ecdsaOk (u.signKey b) (imagePart b 0 (272 + l)) (imagePart b (272 + l) 96) then some 0x1309
  else if uncorr then some 0x1308
  else none

/-! ## Staging (R457 to R459) -/

/-- Records a code of R475 and keeps it in 0x3400:0F and UPD_STAT (R474, R475). -/
def State.updRaise (code : Nat) (vals : List Nat) (s : State) : State :=
  ({ s with upd.lastCode := code } : State).raise code noInst vals

/-- The slot in staging. -/
def Upd.staging (u : Upd) : Option (Fin 2) := (List.finRange 2).find? fun k => u.slot[k].st = .staging

/-- The slot holds an image that may run. -/
def slotUsable (b : BootSlot) : Bool := b.st = .active ∨ b.st = .valid ∨ b.st = .trial

/-- The slot that staging takes: the inactive one; in recovery slot A when both are invalid (R457, R468). -/
def State.stageSlot (s : State) : Fin 2 :=
  if s.rst.romStays ∧ ¬ s.upd.slot.any slotUsable then 0 else s.upd.other

/-- What the device may be doing that refuses a chunk (R457), and with it the begin of staging (DEDUCED, log entry 42). -/
def State.updBusy (s : State) : Bool :=
  s.pins.brownWarn ∨ s.upd.phase ≠ .none ∨ s.liveRuns ∨ s.net.storing.isSome ∨ s.commitBusy

/-- Sets a slot's state. -/
def State.setSlot (k : Fin 2) (x : SlotSt) (s : State) : State := { s with upd.slot := s.upd.slot.set k { s.upd.slot[k] with st := x } }

/-- Staging begins (R457). -/
def State.stageBegin (s : State) : State :=
  let s : State := match s.upd.staging with | some k => s.setSlot k .invalid | none => s
  { s.disarm .updVerify with upd.slot := s.upd.slot.set s.stageSlot { st := .staging }, upd.stat := 1, upd.next := 0, upd.total := 0 }

/-- Staging ends before its image is whole: the slot is invalid (R458, R474). -/
def State.stageEnd (stat : Nat) (s : State) : State :=
  let s : State := match s.upd.staging with | some k => s.setSlot k .invalid | none => s
  { s.disarm .updVerify with upd.stat := stat, upd.next := 0, upd.total := 0 }

/-- What becomes of a chunk (R457, R458). -/
inductive ChunkFate | append (k : Fin 2) | retry | header (code : Nat) | sequence
  deriving DecidableEq, Repr

/-- The fate of the bytes `d` at an offset: a chunk that runs past the image's end is out of sequence (DEDUCED, log entry 42). -/
def State.chunkFate (s : State) (off : Nat) (d : List Byte) : ChunkFate :=
  match s.upd.staging with
  | none => .sequence
  | some k =>
    let b := s.upd.slot[k].bytes
    if off = b.length ∧ s.upd.stat ≠ 3 then
      let b' := b ++ d
      if b'.length < 256 then .append k
      else
        match if b.length < 256 then s.upd.headerFault (b'.take 256) else none with
        | some c => .header c
        | none => if b'.length ≤ imageTotal b' then .append k else .sequence
    else if off < b.length ∧ d = (b.drop off).take d.length then .retry
    else .sequence

/-- A chunk's effect (R457 to R459). -/
def State.takeChunk (off : Nat) (d : List Byte) (s : State) : State :=
  match s.chunkFate off d with
  | .append k =>
    let b := s.upd.slot[k].bytes ++ d
    let whole := 256 ≤ b.length ∧ b.length = imageTotal b
    let s : State := { s with
      upd.slot := s.upd.slot.set k { s.upd.slot[k] with bytes := b }
      upd.next := b.length
      upd.total := if 256 ≤ b.length then imageTotal b else 0
      upd.stat := if whole then 3 else if 256 ≤ b.length then 2 else 1 }
    if whole then s.arm .updVerify 300000000 else s
  | .retry => s
  | .header c => (s.stageEnd 5).updRaise c []
  | .sequence => s.updRaise 0x1314 []

/-- The chunk is refused. -/
def State.chunkRefused (s : State) (off : Nat) (d : List Byte) : Bool :=
  match s.chunkFate off d with
  | .append _ | .retry => false
  | _ => true

/-- The write of 0x3400:04 (R457, R474). -/
def objStaging : ObjWrite where
  busy := fun s d => refuseIf (leValue d = 0x6E676562 ∧ s.updBusy)
  effect := fun _ d s => if leValue d = 0x6E676562 then s.stageBegin else if s.upd.staging.isSome then s.stageEnd 0 else s

/-- The write of 0x3400:02 (R457): a 4-byte offset and 1 to 1024 bytes. -/
def objChunk : ObjWrite where
  busy := fun s _ => refuseIf s.updBusy
  badLength := fun d => d.length < 5 ∨ 1028 < d.length
  effect := fun _ d s => s.takeChunk (leValue (d.take 4)) (d.drop 4)
  reply := fun s d => if s.chunkRefused (leValue (d.take 4)) (d.drop 4) then some 0x08000120 else none

/-- The SPI session may operate UPD_CTRL (R474). -/
def State.updRole (s : State) : Bool := roleAllows (s.roleOf .spi) .engineer

/-- STAGING_BEGIN (R457): "begn" to 0x3400:04, or UPD_CTRL with its key and OP 0x01. -/
def State.updBegin (s : State) : State := if s.updRole ∧ ¬ s.updBusy then s.stageBegin else s

def execStagingBegin (via : Via) (s : State) : Out :=
  .next (match via with
    | .reg => s.byHost State.updBegin
    | .dict w => s.writeBy w 0x3400 4 (leBytes 4 0x6E676562) objStaging)

/-- The bytes of UPD_DATA. -/
def Upd.dataBytes (u : Upd) (n : Nat) : List Byte := (u.data.toList.flatMap fun w => leBytes 4 w.toNat).take n

/-- UPD_CTRL OP 0x02: COUNT bytes of UPD_DATA at the next offset (R474). -/
def State.updAppend (count : Nat) (s : State) : State :=
  if s.updRole ∧ ¬ s.updBusy ∧ 1 ≤ count ∧ count ≤ 64 then s.takeChunk s.upd.next (s.upd.dataBytes count) else s

/-- IMAGE_APPEND (R457): a chunk to 0x3400:02, or UPD_CTRL with its key, OP 0x02 and COUNT, the first byte of `d`. -/
def execImageAppend (via : Via) (d : List Byte) (s : State) : Out :=
  .next (match via with
    | .reg => s.byHost (State.updAppend (leValue (d.take 1) % 128))
    | .dict w => s.writeBy w 0x3400 2 d objChunk)

/-- UPD_CTRL OP 0x03. -/
def State.updAbort (s : State) : State := if s.updRole ∧ s.upd.staging.isSome then s.stageEnd 0 else s

/-- STAGING_ABORT (R474): "abrt" to 0x3400:04, or UPD_CTRL with its key and OP 0x03. -/
def execStagingAbort (via : Via) (s : State) : Out :=
  .next (match via with
    | .reg => s.byHost State.updAbort
    | .dict w => s.writeBy w 0x3400 4 (leBytes 4 0x74726261) objStaging)

/-- IMAGE_VERIFY_DONE (R459). -/
def execImageVerifyDone (uncorr : Bool) (s : State) : Out :=
  .next (match s.upd.staging with
    | none => s
    | some k =>
      if ¬ s.running .updVerify ∨ s.upd.stat ≠ 3 then s
      else
        let b := s.upd.slot[k].bytes
        match s.upd.bodyFault b uncorr with
        | some c => (s.stageEnd 5).updRaise c []
        | none => (({ s.disarm .updVerify with upd.stat := 4 } : State).setSlot k .valid).updRaise 0x130A [imageVersion b])

/-! ## Trial (R460 to R463, R468) -/

/-- The slot that "boot" activates: the inactive one where it is valid; in recovery also a valid slot that is the active one. -/
def State.bootSlot (s : State) : Option (Fin 2) :=
  if s.upd.slot[s.upd.other].st = .valid then some s.upd.other
  else if s.rst.romStays ∧ s.upd.slot[s.upd.active].st = .valid then some s.upd.active
  else none

/-- This chip is of a pair that stands (R378). -/
def State.paired (s : State) : Bool := s.twin.st = .activePaired ∨ s.standby

/-- The sequencer's state of the pair's active chip (R293): a standby has it from the state frames (R386). -/
def State.activeSeq (s : State) : SeqSt := if s.standby then s.seq.st else s.seqState

/-- "boot" is refused in the present state (R461). -/
def State.bootRefused (s : State) : Bool :=
  match s.bootSlot with
  | none => true
  | some k => s.commitBusy ∨ s.net.storing.isSome ∨ s.pins.brownWarn ∨
      (s.paired ∧ ¬ imageLive s.upd.slot[k].bytes ∧ s.activeSeq ≠ .off)

/-- "boot" (R461); in recovery the staged slot becomes active at once if the other slot is invalid (R468). -/
def State.bootSlotNow (s : State) : State :=
  match s.bootSlot with
  | none => s
  | some k =>
    let o : Fin 2 := if k = 0 then 1 else 0
    let s : State :=
      if s.rst.romStays ∧ ¬ slotUsable s.upd.slot[o] then { s.setSlot k .active with upd.active := k }
      else ({ s with upd.phase := .pending, upd.live := false } : State).updRaise 0x130B []
    s.assertReset .warm causeSw false

/-- The write of 0x3400:05 (R461). -/
def objActivate : ObjWrite where
  busy := fun s _ => refuseIf s.bootRefused
  effect := fun _ _ s => s.bootSlotNow

/-- UPD_CTRL OP 0x05. -/
def State.updBoot (s : State) : State := if s.updRole ∧ ¬ s.bootRefused then s.bootSlotNow else s

/-- ACTIVATE (R461): "boot" to 0x3400:05, or UPD_CTRL with its key and OP 0x05. -/
def execActivate (via : Via) (s : State) : Out :=
  .next (match via with
    | .reg => s.byHost State.updBoot
    | .dict w => s.writeBy w 0x3400 5 (leBytes 4 0x746F6F62) objActivate)

/-- A trial runs: its phase is running and no engine is being reloaded for it. -/
def State.trialRuns (s : State) : Bool := s.upd.phase = .running ∧ s.upd.liveTodo = []

/-- The trial time has run out at the last 1 ms boundary of the time of day, at which E0 evaluates commit and expiry (R462). -/
def State.trialTimeOver (s : State) : Bool :=
  match s.deadline .trial with
  | some d => decide (d ≤ s.now - s.tb.tod % 1000000)
  | none => false

/-- "cmit" is refused in the present state (R460, R462). -/
def State.cmitRefused (s : State) : Bool := ¬ s.trialRuns ∨ ¬ s.upd.bootOk ∨ s.upd.expired ∨ s.trialTimeOver ∨ s.pins.brownWarn

/-- "cmit" (R462). -/
def State.trialCommit (s : State) : State :=
  let o := s.upd.other
  let b := s.upd.slot[o].bytes
  let s := (s.setSlot s.upd.active .valid).setSlot o .active
  ({ s.disarm .trial with
    upd.active := o, upd.phase := .none, upd.live := false, upd.revertWhy := 0,
    upd.floor := if imageRaises b then max s.upd.floor (imageField b 12 4) else s.upd.floor } : State).updRaise 0x130C []

/-- The write of 0x3400:06 (R462). -/
def objCommitTrial : ObjWrite where
  busy := fun s _ => refuseIf s.cmitRefused
  effect := fun _ _ s => s.trialCommit

/-- UPD_CTRL OP 0x06. -/
def State.updCommit (s : State) : State := if s.updRole ∧ ¬ s.cmitRefused then s.trialCommit else s

/-- COMMIT_TRIAL (R462): "cmit" to 0x3400:06, or UPD_CTRL with its key and OP 0x06. -/
def execCommitTrial (via : Via) (s : State) : Out :=
  .next (match via with
    | .reg => s.byHost State.updCommit
    | .dict w => s.writeBy w 0x3400 6 (leBytes 4 0x74696D63) objCommitTrial)

/-- "rvrt" (R462, R465); its cause is 1 (log entry 18). -/
def State.trialRevert (s : State) : State :=
  if s.upd.live then s.liveRevert.updRaise 0x130D [1]
  else ({ s with upd.revertWhy := 1 } : State).assertReset .warm causeSw false

/-- The write of 0x3400:07 (R462). -/
def objRevertTrial : ObjWrite where
  busy := fun s _ => refuseIf (¬ s.trialRuns)
  effect := fun _ _ s => s.trialRevert

/-- UPD_CTRL OP 0x07. -/
def State.updRevert (s : State) : State := if s.updRole ∧ s.trialRuns then s.trialRevert else s

/-- REVERT_TRIAL (R462): "rvrt" to 0x3400:07, or UPD_CTRL with its key and OP 0x07. -/
def execRevertTrial (via : Via) (s : State) : Out :=
  .next (match via with
    | .reg => s.byHost State.updRevert
    | .dict w => s.writeBy w 0x3400 7 (leBytes 4 0x74727672) objRevertTrial)

/-- TRIAL_EXPIRY (R462, R465): cause 2, evaluated at a 1 ms boundary. After a trial started by "boot" E0 stops restarting the system
watchdog. -/
def execTrialExpiry (s : State) : Out :=
  .next (if s.trialTimeOver ∧ s.trialRuns then
      let s := s.disarm .trial
      if s.upd.live then s.liveRevert.updRaise 0x130D [2] else { s with upd.expired := true, upd.revertWhy := 2 }
    else s)

/-! ## Live update (R464, R465) -/

/-- "live" is refused in the present state (R464). -/
def State.liveRefused (s : State) : Bool :=
  let x := s.upd.slot[s.upd.other]
  x.st ≠ .valid ∨ ¬ imageLive x.bytes ∨ bits (imageVersion x.bytes) 31 24 ≠ bits s.upd.version 31 24 ∨
    (s.eng.eng.any fun e => e.st = .retired) ∨ s.eng.eng[7].st ≠ .idle ∨ s.commitBusy ∨ s.net.storing.isSome ∨
    s.upd.phase ≠ .none ∨ s.liveRuns

/-- "live": the image is verified into SRAM again, within 300 ms. -/
def State.liveBegin (s : State) : State := ({ s with upd.liveVerify := true } : State).arm .updVerify 300000000

/-- The write of 0x3400:08 (R464). -/
def objLive : ObjWrite where
  busy := fun s _ => refuseIf s.liveRefused
  effect := fun _ _ s => s.liveBegin

/-- UPD_CTRL OP 0x08. -/
def State.updLive (s : State) : State := if s.updRole ∧ ¬ s.liveRefused then s.liveBegin else s

/-- LIVE_UPDATE (R464): "live" to 0x3400:08, or UPD_CTRL with its key and OP 0x08. -/
def execLiveUpdate (via : Via) (s : State) : Out :=
  .next (match via with
    | .reg => s.byHost State.updLive
    | .dict w => s.writeBy w 0x3400 8 (leBytes 4 0x6576696C) objLive)

/-- LIVE_VERIFY_DONE (R464): the engines reload in the order of R315, and the slot is in trial. -/
def execLiveVerifyDone (uncorr : Bool) (s : State) : Out :=
  .next (if ¬ s.upd.liveVerify then s
    else
      let o := s.upd.other
      let b := s.upd.slot[o].bytes
      let s : State := { s.disarm .updVerify with upd.liveVerify := false }
      match s.upd.bodyFault b uncorr with
      | some c => (s.setSlot o .invalid).updRaise c []
      | none =>
        let s : State := { s.setSlot o .trial with
          upd.phase := .running, upd.live := true, upd.prevVersion := s.upd.version, upd.version := imageVersion b,
          upd.liveTodo := List.finRange 8, upd.liveDone := [], upd.liveBack := false }
        (s.updRaise 0x1310 []).liveNext)

/-! ## Lifecycle (R469, R470) -/

/-- Codes of the lifecycle states (R469). -/
def lifeCode : Life → Nat
  | .blank => 0
  | .provisioned => 1
  | .field => 2
  | .ret => 3
  | .scrapped => 4

/-- A transition of R470: its role, and what becomes of the keys. -/
structure LifeMove where
  next : Life
  role : Role
  erase : List (Fin 9)
  deriving DecidableEq, Repr

/-- Every key slot. -/
def allSlots : List (Fin 9) := List.finRange 9

/-- The transition to a target state that R470 allows, its keys present. -/
def Upd.move (u : Upd) (target : Nat) : Option LifeMove :=
  let has := fun k : Fin 9 => u.key[k] ≠ []
  match u.life, target with
  | .blank, 1 => if has 1 ∧ has 2 ∧ has 3 then some ⟨.provisioned, .vendor, []⟩ else none
  | .provisioned, 2 => some ⟨.field, .engineer, []⟩
  | .field, 3 => some ⟨.ret, .engineer, [1, 2]⟩
  | .ret, 1 => if has 1 ∧ has 2 then some ⟨.provisioned, .vendor, []⟩ else none
  | .blank, 4 | .ret, 4 => some ⟨.scrapped, .vendor, allSlots⟩
  | .provisioned, 4 | .field, 4 => some ⟨.scrapped, .engineer, allSlots⟩
  | _, _ => none

/-- The role of whoever writes: a session's, or at most Engineer for an RPDO (R342). -/
def State.roleFor (s : State) (w : Option Session) : Role := (w.map s.roleOf).getD .engineer

/-- A transition is refused in the present state (R470). -/
def State.lifeBusy (s : State) : Bool :=
  s.activeSeq ≠ .off ∨ s.pins.brownWarn ∨ s.upd.phase ≠ .none ∨ s.liveRuns ∨ s.upd.staging.isSome ∨ s.net.storing.isSome ∨ s.commitBusy

/-- The target stands, written within the last 10 s (R470). -/
def State.lifeTarget (s : State) : Nat := if s.running .lcyc ∧ ¬ s.due .lcyc then s.upd.target else 0xFF

/-- The write of 0x2002:02 (R470). -/
def objTarget : ObjWrite where
  effect := fun _ d s => ({ s with upd.target := leValue d } : State).arm .lcyc 10000000000

/-- The write of 0x2002:03 (R470, R422): the role is judged first, then the present state, then the transition itself. -/
def objLifecycle (w : Option Session) : ObjWrite where
  busy := fun s _ =>
    match s.upd.move s.lifeTarget with
    | some m => if ¬ roleAllows (s.roleFor w) m.role then some 0x08000102 else refuseIf s.lifeBusy
    | none => refuseIf s.lifeBusy
  invalid := fun s _ => if (s.upd.move s.lifeTarget).isNone then some 0x08000101 else none
  effect := fun _ _ s =>
    match s.upd.move s.lifeTarget with
    | none => s
    | some m =>
      ({ s with
        upd.life := m.next
        upd.wipePending := some s.upd.life
        upd.transitions := bump s.upd.transitions
        upd.transTime := s.tb.tod
        upd.key := m.erase.foldl (fun (k : Vector (List Byte) 9) (j : Fin 9) => k.set j []) s.upd.key } : State).assertReset .cold causeLifecycle false

/-- LIFECYCLE_TRANSITION (R470). -/
def execLifecycleTransition (w : Session) (d : List Byte) (s : State) : Out := .next (s.writeBy w 0x2002 3 d (objLifecycle (some w)))

/-! ## Keys (R471 to R473) -/

/-- The write of 0x2003:01. -/
def objKeySlot : ObjWrite where
  effect := fun _ d s => { s with upd.keySel := leValue d }

/-- The key that a wrapped key carries (R472); none where it fails to unwrap. -/
def State.unwrap (s : State) (role : Role) (d : List Byte) : Option (List Byte) :=
  let k := s.upd.key[if role = .vendor then (0 : Fin 9) else 1]
  let cipher := (d.drop 12).take 32
  if k ≠ [] ∧ gcmTag k (d.take 12) (leBytes 4 s.upd.serial ++ leBytes 1 s.upd.keySel) cipher = d.drop 44 then
    some ((List.range 32).map (Config.gcmPlain k (d.take 12) cipher))
  else none

/-- The write of 0x2003:02 (R472): Engineer may write slots 1 and 2 only. -/
def objKeyWrite (w : Option Session) : ObjWrite where
  busy := fun s _ =>
    if 2 < s.upd.keySel ∧ ¬ roleAllows (s.roleFor w) .vendor then some 0x08000102 else refuseIf s.pins.brownWarn
  badLength := fun d => d.length ≠ 60
  effect := fun _ d s =>
    match s.unwrap (s.roleFor w) d with
    | none => s.raise 0x1403 noInst []
    | some k => ({ s with upd.key := s.upd.key.setIfInBounds s.upd.keySel k } : State).raise 0x1402 noInst [s.upd.keySel]
  reply := fun s d => if (s.unwrap (s.roleFor w) d).isNone then some 0x08000121 else none

/-- KEY_WRITE (R472). -/
def execKeyWrite (w : Session) (d : List Byte) (s : State) : Out := .next (s.writeBy w 0x2003 2 d (objKeyWrite (some w)))

/-- Signing keys that are present and not revoked. -/
def Upd.signers (u : Upd) : List Nat := (List.range 4).filter fun k => (u.key[5 + k]?).getD [] ≠ [] ∧ ¬ u.revoked.getLsbD k

/-- The write of 0x2003:05 (R473). -/
def objRevoke : ObjWrite where
  invalid := fun s d => if (s.upd.signers.filter fun k => k ≠ leValue d) = [] then some 0x08000101 else none
  effect := fun _ d s =>
    ({ s with upd.revoked := s.upd.revoked ||| BitVec.ofNat 4 (2 ^ leValue d) } : State).raise 0x1404 noInst [leValue d]

/-- KEY_REVOKE (R473). -/
def execKeyRevoke (w : Session) (d : List Byte) (s : State) : Out := .next (s.writeBy w 0x2003 5 d objRevoke)

/-! ## Status (R474, R475) -/

/-- Code of a slot's state (R460). -/
def slotCode : SlotSt → Nat
  | .empty => 0
  | .staging => 1
  | .valid => 2
  | .active => 3
  | .trial => 4
  | .invalid => 5
  | .reverted => 6

/-- UPD_STAT. -/
def State.updStat (s : State) : Nat :=
  s.upd.stat + 16 * ofBool (decide (s.upd.stat = 3) || s.liveRuns) + 256 * (s.upd.lastCode % 256)

/-- UPD_SLOTS. -/
def State.updSlots (s : State) : Nat :=
  slotCode s.upd.slot[0].st + 8 * slotCode s.upd.slot[1].st + 64 * s.upd.active.val +
    128 * (match s.upd.phase with | .none => 0 | .pending => 1 | .running => 2) + 512 * ofBool s.upd.live

/-- UPD_VERA and UPD_VERB: 0 where the slot holds no whole valid image. -/
def State.slotVersion (s : State) (k : Fin 2) : Nat :=
  match s.upd.slot[k].st with
  | .empty | .staging | .invalid => 0
  | _ => imageVersion s.upd.slot[k].bytes

/-- Trial time remaining in ns. -/
def State.trialLeft (s : State) : Nat := ((s.deadline .trial).map fun d => d - s.now).getD 0

end Sys2Proof.Machine
end

