-- ==== Sys2Proof/Machine/Release.lean ====
section
/-! DEFINITION. Supplies, straps, resets and their release, block resets, trim load and ROM boot (R52 to R77, R409 to R427, R461, R463, R467). -/

namespace Sys2Proof.Machine

/-! ## Supplies (R57, R70, R409, R424) -/

/-- The pins of an unpowered device: gates and PG high-impedance (R56); PG then floats to its pull-up. -/
def State.unpowered (s : State) : State := { s with pins.gate := Vector.replicate 24 .highZ, pins.pg := 0xFF }

/-- POWER_ON_RESET (R409, R424): a supply is below its power-on threshold; cold reset is held, and the counts start again. The device is
taken as unpowered until SUPPLY_POWER_ON (R56; DESIGN CHOICE, log entry 81). -/
def execPowerOnReset (s : State) : Out :=
  .next { (s.gatesSunk s.gatesHigh).coldKept with rst := { ({} : Rst) with phase := .held, supplyOk := false }, tb.tod := 0 }.unpowered

/-- SUPPLY_BROWN_OUT (R70, R409): the supply stands below its power-on threshold too. -/
def execSupplyBrownOut (s : State) : Out :=
  .next (({ s with rst.supplyOk := false } : State).assertReset .cold causeSupply false)

/-- SUPPLY_POWER_ON (R70, R415): both supplies are good; the pins take their cold-reset states (R56), and step 1 follows in 200 µs to
300 µs. -/
def execSupplyPowerOn (s : State) : Out :=
  .next (if s.rst.supplyOk then s
    else (({ s.gatesLow with rst.supplyOk := true, rst.phase := .step 1 } : State).arm .supplyWait 200000).arm .stepBound coldStart)

/-- VCORE_BROWN_OUT (R409): judged once step 2 has completed. -/
def execVcoreBrownOut (s : State) : Out :=
  let watched : Bool := match s.rst.phase with
    | .held => false
    | .step n => 2 < n
    | _ => true
  .next (if watched then s.assertReset .cold causeVcore false else s)

/-- BROWN_WARN_SET (R70, R75, R76). -/
def execBrownWarnSet (s : State) : Out :=
  .next (if s.pins.brownWarn then s
    else ({ s with pins.brownWarn := true, pins.brownSeen := true, pins.brownEvents := bump s.pins.brownEvents } : State).raise 0x0F22 noInst [])

/-- BROWN_WARN_CLEAR (R70, R263): a deferred learned-data write starts. -/
def execBrownWarnClear (s : State) : Out :=
  let s : State := { s with pins.brownWarn := false }
  .next (if s.bat.deferred then s.learnWrite else s)

/-- One range monitor: its 10 µs start when its bit sets and end when it clears or has been recorded (R77). -/
def State.rangeMonitor (t : TimerId) (was now : Bool) (s : State) : State :=
  if ¬ now then s.disarm t else if was then (if s.due t then s.disarm t else s) else s.arm t 10001

/-- SUPPLY_RANGE (R70, R75, R77): VAUX_OV and VDDIO_RANGE as they now stand, which SYS_SUPPLY shows at once. A bit that has stood for more than
10 µs is recorded, once for the time that it stands; the record names it as SYS_SUPPLY does. -/
def execSupplyRange (ov range : Bool) (s : State) : Out :=
  let a := s.pins.vauxOv ∧ ov ∧ s.due (.supplyRange false)
  let b := s.pins.vddioRange ∧ range ∧ s.due (.supplyRange true)
  let s := (s.rangeMonitor (.supplyRange false) s.pins.vauxOv ov).rangeMonitor (.supplyRange true) s.pins.vddioRange range
  let s : State := { s with pins.vauxOv := ov, pins.vddioRange := range }
  .next (if a ∨ b then s.raise 0x0F23 noInst [8 * ofBool a + 16 * ofBool b] else s)

/-! ## Reset requests (R409, R411, R425, R426) -/

/-- RST_N_LOW (R409): a low on RST_N, recognised under R83. -/
def execRstNLow (s : State) : Out := .next ((s.assertReset .warm causePin false).armOnce .rstEscalate 100000000)

/-- RESET_ESCALATED (R409): RST_N is still low 100 ms after its recognition. -/
def execResetEscalated (s : State) : Out :=
  .next (if s.due .rstEscalate then
      let s := (s.disarm .rstEscalate).assertReset .cold causePinEsc false
      { s with rst.owed := s.rst.owed ++ [(0x0F0A, [])] }
    else s)

/-- The signatures of 0x5F20:02. -/
def sigWarm : Nat := 0x6D726177
def sigCold : Nat := 0x646C6F63

/-- A cold reset request is refused (R426). -/
def State.coldRefused (s : State) : Bool := s.net.storing.isSome ∨ s.meas.calWriting.isSome ∨ s.bat.writing.isSome

/-- The write of 0x5F20:02 (R426). -/
def objResetRequest : ObjWrite where
  busy := fun s d => refuseIf (leValue d = sigCold ∧ s.coldRefused)
  effect := fun _ d s => s.assertReset (if leValue d = sigCold then .cold else .warm) causeSw false

/-- SYS_RSTCTRL with its key (R425). -/
def State.resetCtrl (scope : Nat) (s : State) : State :=
  match scope with
  | 1 => s.assertReset .warm causeSw false
  | 2 => if s.coldRefused then s else s.assertReset .cold causeSw false
  | _ => s

/-- SOFTWARE_RESET_WARM (R425, R426). -/
def execSoftwareResetWarm (via : Via) (s : State) : Out :=
  .next (match via with
    | .reg => s.byHost (State.resetCtrl 1)
    | .dict w => s.writeBy w 0x5F20 2 (leBytes 4 sigWarm) objResetRequest)

/-- SOFTWARE_RESET_COLD (R425, R426). -/
def execSoftwareResetCold (via : Via) (s : State) : Out :=
  .next (match via with
    | .reg => s.byHost (State.resetCtrl 2)
    | .dict w => s.writeBy w 0x5F20 2 (leBytes 4 sigCold) objResetRequest)

/-- PARITY_SWEEP (R411): the sweep finds every parity good, or names the block whose register failed. -/
def execParitySweep (bad : Option Nat) (s : State) : Out :=
  .next (match bad with
    | none => s
    | some b =>
      if s.rst.phase = .held then s
      else
        let s := s.assertReset .warm causeParity false
        { s with rst.owed := s.rst.owed ++ [(0x0F08, [b])] })

/-! ## Block resets (R419, R420) -/

/-- Requests a block reset; a block already in one keeps it (R412). -/
def State.requestBlock (b : Nat) (s : State) : State :=
  if ¬ blockCode b ∨ s.rst.blk.any fun x => x.code = b then s
  else ({ s with rst.blk := { code := b } :: s.rst.blk } : State).arm (.blkIdle b) (s.ns 0x5F20 4)

/-- The write of 0x5F20:03 (R426). -/
def objBlockReset : ObjWrite where
  effect := fun _ d s => s.requestBlock (leValue d)

/-- BLOCK_RESET_REQUEST (R420): SYS_BLKRST with its key, or 0x5F20:03; the block code is the first byte of `d`. -/
def execBlockResetRequest (via : Via) (d : List Byte) (s : State) : Out :=
  .next (match via with
    | .reg => s.byHost (State.requestBlock (leValue (d.take 1)))
    | .dict w => s.writeBy w 0x5F20 3 d objBlockReset)

/-- Port and direction of a Benut link as its record names them (R383): port 0 twin, 1 cascade-in, 2 cascade-out; direction 0 downstream,
1 reverse. Links are numbered twin, then as the bits of 0x3010:07. -/
def linkName (l : Fin 5) : List Nat := if l = 0 then [0, 0] else [1 + (l.val - 1) % 2, (l.val - 1) / 2]

/-- A Benut link goes down (R383); without a downstream link the ring's traffic goes the other way round (R400). -/
def State.linkLost (l : Fin 5) (s : State) : State :=
  if ¬ s.twin.linkUp.getLsbD l then s
  else
    let s := ({ s with twin.linkUp := s.twin.linkUp &&& ~~~ BitVec.ofNat 5 (2 ^ l.val) } : State).raise 0x0E10 noInst (linkName l)
    if (l = 1 ∨ l = 2) ∧ s.casc.st ≠ .off ∧ s.casc.st ≠ .duplicate then ({ s with casc.reversed := true } : State).raise 0x0E11 noInst [] else s

/-- The measurement block's reset: outputs not READY, every modulator to its home, a charge gap (R120, R249, R419). -/
def State.measureReset (s : State) : State :=
  let s : State := { s with
    meas.ch := Vector.ofFn fun k : Fin 48 =>
      let c := s.meas.ch[k]
      { c with notReady := true, settling := false, inSwap := false, host := if (s.meas.modu[k.val]'(by omega)).retired then c.host else k }
    meas.slots := Vector.replicate 4 {}, meas.refFail := false, meas.refFails := 0 }
  State.each (List.finRange 4) (fun n => fun s => if s.bat.str[n].known then s.gapStart n else s) s

/-- The measurement block is released: READY in 45 ms, and counting resumes (R120, R249). -/
def State.measureRelease (s : State) : State :=
  State.each (List.finRange 4) (State.gapEnd 0) (s.arm .ready 45000000)

/-- A CAN port's reset: the session ends (R341, R419). -/
def State.canReset (p : Fin 2) (s : State) : State :=
  (((s.portTo p .off).disarm (.heartbeat p)).modPort p fun x => { x with emcy := [] }).endSession (portSession p) false

/-- The engine of a block code 0x10 to 0x17. -/
def blockEngine (b : Nat) : Option (Fin 8) := if h : 0x10 ≤ b ∧ b < 0x18 then some ⟨b - 0x10, by omega⟩ else none

/-- The reset of engine `e` on request: the epochs of the sets it runs increment; E7 takes its set as hot spare where it can, else the engine
starts again when released (R312, R316, R419; DEDUCED, log entry 43). -/
def State.engineReset (e : Fin 8) (s : State) : State :=
  let sets := (List.finRange 8).filter fun j : Fin 8 => s.eng.host[j] = e
  let s := State.each sets State.setEpoch s
  if sets = [] then s
  else if e ≠ 7 ∧ s.spareFree then s.hotSpare e
  else if engRuns s.eng.eng[e].st then
    ((s.disarm (.wdog e)).disarm (.migrate e)).modEng e fun x => { x with st := .restarting, tasksDone := 0 }
  else s

/-- What a block's reset does at its assertion (R419). -/
def State.blockOn (b : Nat) (s : State) : State :=
  match b with
  | 0x01 => s.measureReset
  | 0x02 => { s with pins.slDriver := 0, shelf.sent := none }
  | 0x03 => s.canReset 0
  | 0x04 => s.canReset 1
  | 0x05 => s.pmLet 0
  | 0x06 => s.pmLet 1
  | 0x07 => s.hostBump
  | 0x08 => s.linkLost 0
  | 0x09 => (s.linkLost 1).linkLost 3
  | 0x0A => (s.linkLost 2).linkLost 4
  | 0x0B =>
    if s.evr.busy then { s with evr := { s.evr with running := false, recs := dropSlot s.evr.next s.evr.recs, staging := s.evr.staging.tail } }
    else { s with evr.running := false }
  | b => match blockEngine b with | some e => s.engineReset e | none => s

/-- What a block does at its release (R419). -/
def State.blockOff (b : Nat) (s : State) : State :=
  match b with
  | 0x01 => s.measureRelease
  | 0x03 => if s.portOn 0 ∧ ¬ s.rst.bootDue then s.bootUp 0 else s
  | 0x04 => if s.portOn 1 ∧ ¬ s.rst.bootDue then s.bootUp 1 else s
  | 0x0B => s.arm .scan 5000000
  | b =>
    match blockEngine b with
    | some e =>
      if s.eng.eng[e].st = .restarting then
        let s := (s.modEng e fun x => { x with st := if e = 7 then .hosting else .running }).arm (.wdog e) (s.ns (0x3810 + e) 3)
        if s.upd.liveTodo.head? = some e then s.liveNext else s
      else if e = 7 ∧ s.eng.eng[7].st = .idle then s.arm (.wdog 7) (s.ns 0x3817 3)
      else s
    | none => s

/-- BLOCK_RESET_ASSERT (R420): the block reports idle, or its timeout has passed. -/
def execBlockResetAssert (code : Nat) (idle : Bool) (s : State) : Out :=
  .next (match s.rst.blk.find? fun x => x.code = code with
    | none => s
    | some x =>
      if x.asserted ∨ ¬ (idle ∨ s.due (.blkIdle code)) then s
      else
        let y : BlkReset := { code := code, asserted := true, forced := !idle }
        let s : State := { s with rst.blk := y :: s.rst.blk.filter fun z => z.code ≠ code }
        ((s.disarm (.blkIdle code)).arm (.blkHold code) 1000).blockOn code)

/-- BLOCK_RESET_RELEASE (R420). -/
def execBlockResetRelease (code : Nat) (s : State) : Out :=
  .next (match s.rst.blk.find? fun x => x.code = code with
    | none => s
    | some x =>
      if ¬ x.asserted ∨ ¬ s.due (.blkHold code) then s
      else
        let s : State := { s.disarm (.blkHold code) with
          rst.blk := s.rst.blk.filter fun z => z.code ≠ code, rst.blkLast := code, rst.blkForced := x.forced }
        (s.blockOff code).raise (if x.forced then 0x0F04 else 0x0F03) noInst [code])

/-! ## Release (R52, R415) -/

/-- Bound of a step of the release in ns (R415, R417, R422). -/
def State.stepBound (s : State) (n : Nat) : Nat :=
  let cold := s.rst.scope = .cold
  match n with
  | 2 => if cold then 400000 else 50000
  | 3 => if cold then 3000000 + (if s.upd.wipePending.isSome then 4000000000 else 0) else 10000
  | 4 => 2000000
  | 5 => if cold ∨ s.upd.phase ≠ .none then 150000000 else 500000
  | 6 => 200000
  | _ => 10000

/-- A step of the release begins. -/
def State.enterStep (n : Nat) (s : State) : State :=
  let s : State := { s with rst.phase := .step n }
  s.arm .stepBound (s.stepBound n)

/-- Two-of-three majority of three readings (R52). -/
def majority {n : Nat} (a b c : BitVec n) : BitVec n := (a &&& b) ||| (a &&& c) ||| (b &&& c)

/-- The bits in which three readings disagree. -/
def unstableBits {n : Nat} (a b c : BitVec n) : BitVec n := (a ^^^ b) ||| (a ^^^ c)

/-- STRAP_UNSTABLE waits for the recorder (R52). -/
def State.oweUnstable (u : Nat) (s : State) : State := if u = 0 then s else { s with rst.owed := s.rst.owed ++ [(0x0F20, [u])] }

/-- Latches the straps of a cold reset (R52, R55); RECOVER is read later. A twin chip is unpaired (R378). -/
def State.latchStraps (a b c : BitVec 7) (s : State) : State :=
  let m := majority a b c
  let u := unstableBits a b c &&& 0x77
  let par := m.getLsbD 6
  ({ s with
    pins.cascPos := (m.extractLsb' 0 3).toFin
    pins.slAddr := (m.extractLsb' 4 2).toFin
    pins.twinPar := par
    pins.unstable := u
    twin.st := if par then .unpaired else .solo } : State).oweUnstable u.toNat

/-- RECOVER read before the release of the ROM (R52, R55). -/
def State.readRecover (a b c : Bool) (s : State) : State :=
  let u := a ≠ b ∨ a ≠ c
  let s : State := { s with
    pins.recover := decide (2 ≤ ofBool a + ofBool b + ofBool c)
    pins.unstable := if u then s.pins.unstable ||| 8 else s.pins.unstable &&& 0x77 }
  s.oweUnstable (if u then 8 else 0)

/-- Step 3 is done: the scrubber walks, and the trim load begins (R417, R433). -/
def State.memoryOut (s : State) : State :=
  ({ ((s.beginPass .main).beginPass .queue).beginPass .mram with rst.trimFailed := 0 } : State).enterStep 4

/-- A stored crystal model that is implausible at boot is rejected (R93). -/
def State.judgeModel (s : State) : State :=
  if s.tb.model.implausible then ({ s with tb.model := {} } : State).raise 0x0109 noInst [] else s

/-- The lock state at the timebase's release (R85, R90, R96). -/
def State.lockAtRelease (s : State) : State :=
  if s.rst.scope = .cold then s.restoreLearned.judgeModel.enterFreerun
  else
    match s.tb.lock with
    | .timebaseFail => s.recoverLock
    | .locked => if s.tb.xoFailed then { s.enterFreerun with tb.xoFailed := false } else s.enterHoldover.raise 0x0104 noInst []
    | .holdover => if s.tb.xoFailed then { s.enterFreerun with tb.xoFailed := false } else s.arm .holdoverSec 1000000000
    | _ => ({ s.setLock .freerun with tb.xoFailed := false } : State).arm .holdoverSec 1000000000

/-- The ROM, and later E0 through its tasks, feeds the system watchdog (R313). -/
def State.romFeeds (s : State) : State := s.arm .sysWdog (s.ns 0x3800 1)

/-- Step 6 is done: the timebase and the measurement run (R97, R120); the ROM that stays stops here (R415, R469). -/
def State.timebaseOut (s : State) : State :=
  let s := s.lockAtRelease.measureRelease
  if s.rst.romStays then
    ({ s with rst.phase := .recovery, rst.canARom := s.upd.life ≠ .scrapped } : State).disarm .stepBound |>.disarm .sysWdog
  else s.romFeeds.enterStep 7

/-- Step 7 is done: the engines run, each with its watchdog (R35, R311). -/
def State.enginesOut (s : State) : State :=
  (State.each (List.finRange 8) (fun e => fun s => s.arm (.wdog e) (s.ns (0x3810 + e) 3)) s).enterStep 8

/-- The pins of a chip that is neither active nor standby, of a pair (R61, R62). -/
def State.idlePins (s : State) : State :=
  if s.pins.twinActI then { s with pins.gate := Vector.replicate 24 .highZ, pins.pg := 0xFF, twin.released := true }
  else { s.gatesLow with twin.released := false }

/-- The fast sink of a thermal shutdown ends with the reset: a gate that no latch holds takes the Released column's sink (R56, R243). -/
def State.sinkReleased (s : State) : State :=
  { s with pins.gate := Vector.ofFn fun g : Fin 24 =>
      if s.pins.gate[g] = .fastSink ∧ ¬ s.quenched g then .resetSink else s.pins.gate[g] }

/-- Step 9 is done: the outputs are released, the recorder scans, a trial's time runs (R415, R423, R444, R462). The Benut drivers stay off
until the twin block's first commit (R56). -/
def State.outputsOut (s : State) : State :=
  let code := if s.rst.scope = .cold then 0x0F01 else 0x0F02
  let own := if s.eng.sysPending then [(0x0B05, [])] else []
  let s : State := { s.disarm .stepBound with
    rst.phase := .released, rst.lastRelease := s.tb.tod, rst.owed := s.rst.owed ++ (code, [s.rst.causeWord]) :: own, eng.sysPending := false }
  let s := (s.sinkReleased.arm .scan 5000000).romFeeds
  let s := if s.upd.phase = .running then s.arm .trial (s.ns 0x3400 9) else s
  if s.pins.twinPar then s.idlePins else s

/-- RELEASE_STEP_DONE (R415): steps 4 and 5 end by their own commands, and so does step 3 while a lifecycle wipe is pending. The straps' three
readings count in step 1 of a cold reset. -/
def execReleaseStepDone (a b c : BitVec 7) (s : State) : Out :=
  .next (match s.rst.phase with
    | .step 1 =>
      if s.rst.scope = .warm then (if s.pins.twinPar then s else s.armOnce .hold 10000000000).enterStep 2
      else if s.running .supplyWait ∧ ¬ s.due .supplyWait then s
      else ((s.disarm .supplyWait).latchStraps a b c).enterStep 2
    | .step 2 => s.enterStep 3
    | .step 3 => if s.upd.wipePending.isSome then s else s.memoryOut
    | .step 6 => s.timebaseOut
    | .step 7 => s.enginesOut
    | .step 8 => s.romFeeds.enterStep 9
    | .step 9 => s.outputsOut
    | _ => s)

/-- RELEASE_STALL (R415): `loads` says, in step 5 of a warm reset, that the ROM loads from the slot under the cold bound. -/
def execReleaseStall (loads : Bool) (s : State) : Out :=
  .next (match s.rst.phase with
    | .step n =>
      let extra := if n = 5 ∧ loads ∧ s.rst.scope = .warm ∧ s.upd.phase = .none then 149500000 else 0
      match s.deadline .stepBound with
      | some d =>
        if s.now < d + extra then s
        else
          let s := s.assertReset s.rst.scope causeStall false
          { s with rst.stallStep := n, rst.stalls := satInc 255 s.rst.stalls, rst.owed := s.rst.owed ++ [(0x0F0B, [n])] }
      | none => s
    | _ => s)

/-! ## Lifecycle wipe (R421, R422, R470) -/

/-- LIFECYCLE_WIPE (R422): the four partitions are wiped, and the record of the change is the first of the recorder. -/
def execLifecycleWipe (s : State) : Out :=
  .next (match s.upd.wipePending with
    | none => s
    | some old =>
      if s.rst.phase ≠ .step 3 then s
      else
        let s : State := { s with
          net.store := #v[none, none], net.commit.restore := 0, bat.copies := #v[none, none], mem.user := [],
          evr.recs := [], evr.next := 0, evr.torn := false, evr.staging := [], upd.wipePending := none }
        let s := s.queueRecord (s.mkRecord 3 0x1401 noInst [lifeCode old, lifeCode s.upd.life])
        (s.raise 0x0F09 noInst []).memoryOut)

/-! ## Trim load (R131, R417, R418) -/

/-- The calibration set loaded: the newer of two valid halves, and the other is wiped (R131). -/
def State.loadCal (s : State) : State :=
  match s.meas.calHalfNow with
  | none => s
  | some h =>
    { s with meas.calWork := (s.meas.calHalf[h]).getD {}, meas.calDiffers := false
             meas.calHalf := (Vector.replicate 2 none).set h s.meas.calHalf[h] }

/-- An attempt has failed: each failing item is recorded (device trim 1, calibration set 2: log entry 18). -/
def State.trimRetry (dev cal : Bool) (s : State) : State :=
  let s := if dev then s else s.raise 0x0F05 noInst [1]
  let s := if cal then s else s.raise 0x0F05 noInst [2]
  { s with rst.trimFailed := s.rst.trimFailed + 1 }

/-- TRIM_ATTEMPT_DONE (R417): each item's checks passed, or not; without a valid half the set has failed (R131). -/
def execTrimAttemptDone (dev cal : Bool) (s : State) : Out :=
  .next (if s.rst.phase ≠ .step 4 then s
    else
      let have_ := s.meas.calHalfNow.isSome
      let s := if have_ then s else s.raise 0x0209 noInst []
      let cal := cal && have_
      if dev ∧ cal then
        let s : State := { s.loadCal with
          rst.devTrimOk := true, rst.calSetOk := true, rst.devTrimFallback := false, rst.calSetFallback := false, rst.protective := false }
        s.enterStep 5
      else
        let s := s.trimRetry dev cal
        if s.rst.trimFailed < 3 then s.enterStep 4
        else
          let s := if cal then s.loadCal else { s with meas.calWork := {} }
          let s : State := { s with
            rst.devTrimOk := dev, rst.calSetOk := cal, rst.devTrimFallback := !dev, rst.calSetFallback := !cal, rst.protective := true }
          (s.raise 0x0F06 noInst []).enterStep 5)

/-- The write of 0x5F20:07 (R418): a twin chip begins to pair. -/
def objTrimAck : ObjWrite where
  effect := fun _ _ s =>
    if s.rst.protective then
      let s := ({ s with rst.protective := false } : State).raise 0x0F07 noInst []
      if s.rst.bootDue then s else s.beginPairing
    else s

/-- TRIM_ACKNOWLEDGE (R418). -/
def execTrimAcknowledge (w : Session) (d : List Byte) (s : State) : Out := .next (s.writeBy w 0x5F20 7 d objTrimAck)

/-! ## ROM boot (R416, R461, R463, R467, R469) -/

/-- A slot passes the ROM's checks (R463): `ok` says that no word of it reads uncorrectable. The factory image, whose bytes the model does not
hold, is sound (log entry 4). -/
def State.slotSound (s : State) (k : Fin 2) (ok : Bool) : Bool :=
  let x := s.upd.slot[k]
  ok ∧ x.st ≠ .invalid ∧ x.st ≠ .empty ∧ x.st ≠ .staging ∧
    (x.bytes = [] ∨ (s.upd.headerFault (x.bytes.take 256) = none ∧ s.upd.bodyFault x.bytes false = none))

/-- The ROM stays in charge: recovery (R467). -/
def State.enterRecovery (s : State) : State := ({ s with rst.romStays := true } : State).updRaise 0x1312 []

/-- The ROM runs the image of a slot. -/
def State.runSlot (k : Fin 2) (s : State) : State := { s with upd.version := imageVersion s.upd.slot[k].bytes }

/-- Both slots are invalid (R463). -/
def State.noSlot (s : State) : State := ((s.setSlot 0 .invalid).setSlot 1 .invalid).enterRecovery

/-- The active slot, or the other one where it is invalid (R463). -/
def State.bootActive (sound : Fin 2 → Bool) (s : State) : State :=
  let a := s.upd.active
  let o := s.upd.other
  if sound a then s.runSlot a
  else if sound o then
    (({ (s.setSlot a .invalid).setSlot o .active with upd.active := o } : State).updRaise 0x130F []).runSlot o
  else s.noSlot

/-- The cause of a revert at a reset (R462): command 1, expiry 2, reset 3. -/
def Upd.revertCause (u : Upd) : Nat := if u.revertWhy = 0 then 3 else u.revertWhy

/-- The trial is over: the slot record says so. -/
def State.trialOver (o : Fin 2) (x : SlotSt) (s : State) : State :=
  { s.setSlot o x with upd.phase := .none, upd.live := false, upd.revertWhy := 0 }

/-- The ROM's choice (R416, R461, R463). A pending trial whose slot is found invalid is over before it began (DESIGN CHOICE, log entry 44). -/
def State.romSelect (digests : Bool) (sound : Fin 2 → Bool) (s : State) : State :=
  let a := s.upd.active
  let o := s.upd.other
  match s.upd.phase with
  | .pending =>
    if sound o then ({ s.setSlot o .trial with upd.phase := .running } : State).runSlot o
    else ((s.trialOver o .invalid).updRaise 0x130D [3]).bootActive sound
  | .running =>
    let why := s.upd.revertCause
    if sound a then ((s.trialOver o .reverted).updRaise 0x130D [why]).runSlot a
    else if sound o then
      (({ (s.trialOver o .active).setSlot a .invalid with upd.active := o } : State).updRaise 0x130E []).runSlot o
    else ({ s with upd.phase := .none, upd.live := false, upd.revertWhy := 0 } : State).noSlot
  | .none => if s.rst.scope = .warm ∧ digests then s else s.bootActive sound

/-- ROM_BOOT_DONE (R415 step 5): RECOVER's three readings, whether the digests of R416 match, and whether each slot reads without an uncorrectable
word. -/
def execRomBootDone (a b c : Bool) (digests okA okB : Bool) (s : State) : Out :=
  .next (if s.rst.phase ≠ .step 5 then s
    else
      let s := s.readRecover a b c
      let sound := fun k : Fin 2 => s.slotSound k (if k = 0 then okA else okB)
      let s :=
        if s.upd.life = .scrapped then { s with rst.romStays := true }
        else if s.pins.recover then s.enterRecovery
        else s.romSelect digests sound
      s.romFeeds.enterStep 6)

/-! ## The hold (R59, R64) -/



/-- Every held output takes its cold-reset state (R59). SYS_HOLD0 and SYS_HOLD1 keep showing what was held, but for ACTIVE (R64; DESIGN CHOICE,
log entry 81). -/
def State.dropHolds (s : State) : State :=
  let p := s.pins
  let h := s.heldGates
  let s := s.gatesSunk (h &&& s.gatesHigh)
  { s with
    pins := { p with
      gate := Vector.ofFn fun k : Fin 24 => if h.getLsbD k then .resetSink else p.gate[k]
      pg := p.pg &&& ~~~ p.pgHold
      gpioDir := p.gpioDir &&& ~~~ p.gpioHold
      gpioOut := p.gpioOut &&& ~~~ p.gpioHold
      brHold := 0, fdHold := 0, stHold := 0, pgHold := 0, gpioHold := 0 }
    dist.br := s.dist.br.map fun b => if b.st = .held then { b with st := .off } else b }

/-- HOLD_EXPIRED (R59): 10 s without the releasing commits. -/
def execHoldExpired (s : State) : Out :=
  .next (if s.due .hold then
      let s := s.disarm .hold
      if s.holding then s.dropHolds.raise 0x0F21 noInst [] else s
    else s)

end Sys2Proof.Machine
end

