-- ==== Sys2Proof/Machine/Cascade.lean ====
section
/-! DEFINITION. The cascade (R399 to R405). -/

namespace Sys2Proof.Machine

/-! ## Addresses (R383, R400) -/

/-- A frame is addressed to this chip or to all: DST names its position with its side, or with both, or is 0xFF. -/
def State.forMe (s : State) (dst : Byte) : Bool :=
  dst = 0xFF ∨ (bits dst.toNat 2 0 = s.pins.cascPos.val ∧ (bit dst.toNat 4 ∨ bit dst.toNat 3 = s.twin.side))

/-- Position of a sender. -/
def srcPos (src : Byte) : Nat := bits src.toNat 2 0

/-- The chip takes part in the cascade (R399). -/
def State.inRing (s : State) : Bool := s.casc.st ≠ .off ∧ s.casc.st ≠ .duplicate

/-- The chip is the master (R399, R405). -/
def State.isMaster (s : State) : Bool := s.casc.st = .master ∨ s.casc.st = .promoted

/-- A frame that is not for this chip is forwarded (R400). -/
def State.forwardOn (s : State) : State := { s with casc.forwarded := bump s.casc.forwarded }

/-- Another pair or solo chip announces this chip's position: the chip leaves the ring (R399). -/
def State.leaveRing (s : State) : State :=
  let s := ((s.disarm .cascAlloc).disarm .masterLost).disarm .cascReport
  ({ s with casc.st := .duplicate, casc.master := 0xFF, tb.cascOk := false } : State).raise 0x0E14 noInst []

/-- A frame that fails its checks is discarded and counted (R383). -/
def State.badFrame (s : State) : State := { s with twin.invalid := bump s.twin.invalid }

/-- A frame reaches a released chip; one that fails its checks is discarded (R383). -/
def State.frameIn (ok : Bool) (f : State → State) (s : State) : State := if ¬ s.up then s else if ok then f s else s.badFrame

/-- A frame's reception (R399, R400): frames for others are forwarded, a frame that returns is removed (`own`: this chip or its twin sent it),
a frame from this chip's own position shows a duplicate. -/
def State.cascTake (ok : Bool) (dst src : Byte) (own : Bool) (f : State → State) (s : State) : State :=
  s.frameIn ok fun s =>
  if s.casc.st = .off then s
  else if ¬ s.forMe dst then s.forwardOn
  else if own ∨ s.casc.st = .duplicate then s
  else if srcPos src = s.pins.cascPos.val then s.leaveRing
  else f s

/-- A frame of the master has come: the chip is no longer frozen, and the 1 s starts again (R405; leaving the frozen state so is DEDUCED, log
entry 45). -/
def State.masterSeen (src : Byte) (s : State) : State :=
  if s.isMaster ∨ srcPos src ≠ s.casc.master then s
  else ({ s with casc.st := .member } : State).arm .masterLost 1000000000

/-! ## Time (R401) -/

/-- CASCADE_TIME_LAUNCH (R401): at a multiple of 1 ms the master, and a member that has taken a time frame, launch theirs. -/
def execCascadeTimeLaunch (s : State) : Out :=
  .next (if s.tbRuns ∧ s.tb.tod % 1000000 = 0 ∧ s.inRing ∧ s.speaks ∧ (s.isMaster ∨ (s.raw 0x2100 1 = 4 ∧ s.casc.relay)) then
      ({ s with casc.relay := false } : State).launch (.cascTime s.tb.tod)
    else s)

/-- The direction that a member uses: downstream, or reverse while the downstream link is down (R401). -/
def State.cascUses (s : State) (reverse : Bool) : Bool := ¬ reverse ∨ ¬ s.twin.linkUp.getLsbD 1

/-- Steers by the error of a time frame in ns (R401, R92): phase is slewed from the start in ACQUIRE, and in LOCKED beyond ±100 ns (DESIGN CHOICE,
log entry 98). -/
def State.cascSteer (err : Rat) (s : State) : State :=
  let s : State := { s with
    casc.err := err / 1000000000
    casc.relay := true
    casc.lockRun := if absR err ≤ 20 then satInc 1000 s.casc.lockRun else 0 }
  let s := s.arm .cascTimeLost 10000000
  let s := if s.tb.cascOk then s else ({ s with tb.cascOk := true } : State).refGained
  let s := if s.tb.lock = .acquire ∨ 100 < absR err then s.correctPhase err else s.slewStop
  let s := s.steerTo (1 / 1000) (Config.pi 10 (err / 1000000000) s.tb.freqErr s.tb.freqCorr) true
  if 1000 ≤ s.casc.lockRun then s.lockNow else s

/-- CASCADE_TIME_RECEIVED (R401): the time of day in the frame, and its arrival in ns of this chip's time of day. -/
def execCascadeTimeReceived (ok : Bool) (dst src : Byte) (own reverse : Bool) (tod : Nat) (arrival : Rat) (s : State) : Out :=
  .next (s.cascTake ok dst src own (fun s =>
    let s := s.masterSeen src
    if s.isMaster ∨ s.raw 0x2100 1 ≠ 4 ∨ ¬ s.tbRuns ∨ ¬ s.steersItself ∨ ¬ s.cascUses reverse then s
    else
      let d := if reverse then s.twin.delay[4] else s.twin.delay[1]
      s.cascSteer (arrival - d * 1000000000 - (tod : Nat))))

/-- CASC_TIME_LOST (R401): 10 ms without a valid frame. -/
def execCascTimeLost (s : State) : Out :=
  .next (if s.due .cascTimeLost then
      (({ s.disarm .cascTimeLost with tb.cascOk := false, casc.lockRun := 0, casc.relay := false } : State).raise 0x0E15 noInst []).refChecked
    else s)

/-! ## Reports (R402) -/

/-- P_req: the uncapped input power, from the latest assembly. -/
def State.powerWanted (s : State) : Rat :=
  let tot := s.shelf.y8 + s.shelf.ff
  let u := s.shelf.u
  s.inputPower * min tot u / max (min tot (min s.shelf.c u)) 1

/-- P_max: the capacity at the bus reference in force. -/
def State.powerMax (s : State) : Rat := s.shelf.u * absR s.busRef

/-- w: the connected strings' charge above the SoC floor. -/
def State.chargeAbove (s : State) : Rat :=
  ((List.finRange 4).filter fun n => s.strEnabled n ∧ s.strOn n).foldl
    (fun (a : Rat) n => a + s.bat.str[n].c * max 0 (s.bat.str[n].soc - s.real 0x2E02 4)) 0

/-- The report's flags. -/
def State.reportFlags (s : State) : Nat :=
  ofBits [s.shelf.holdup, s.shelf.capOverride, decide (s.casc.st = .frozen), decide (s.twin.st = .activePaired)]

/-- Enters a position's report into the master's tables. -/
def State.takeReport (pos : Fin 8) (pReq pMax w soc : Rat) (s : State) : State :=
  { s with
    casc.pReq := s.casc.pReq.set pos pReq
    casc.pMax := s.casc.pMax.set pos pMax
    casc.w := s.casc.w.set pos w
    casc.soc := s.casc.soc.set pos soc
    casc.reportAt := s.casc.reportAt.set pos (some s.now) }

/-- POSITION_REPORT_SEND (R402): the master enters its own. -/
def execPositionReportSend (s : State) : Out :=
  .next (if ¬ s.due .cascReport then s
    else
      let s := s.arm .cascReport 100000000
      if ¬ s.inRing ∨ ¬ s.speaks then s
      else if s.isMaster then s.takeReport s.pins.cascPos s.powerWanted s.powerMax s.chargeAbove s.shelfSoc
      else s.launch (.report s.pins.cascPos s.powerWanted s.powerMax s.chargeAbove s.shelfSoc s.reportFlags))

/-- POSITION_REPORT_RECEIVED (R402): the quantities as REAL32 words. -/
def execPositionReportReceived (ok : Bool) (dst src : Byte) (own : Bool) (pReq pMax w soc : Nat) (s : State) : Out :=
  let q := fun n => (real32 n).getD 0
  .next (s.cascTake ok dst src own (fun s =>
    if s.isMaster ∧ s.speaks then s.takeReport ⟨srcPos src % 8, by omega⟩ (q pReq) (q pMax) (q w) (q soc) else s))

/-! ## Allocation (R403, R404) -/

/-- A sum over positions. -/
def sumOver (l : List (Fin 8)) (f : Fin 8 → Rat) : Rat := l.foldl (fun (a : Rat) m => a + f m) 0

/-- Spreads the shortfall over positions: by w, or by P_req where no w is left; a position that would fall below 0 takes 0, and the rest
is spread again (R403). -/
def spreadShort (pReq w : Fin 8 → Rat) : Nat → List (Fin 8) → Rat → List (Fin 8 × Rat)
  | 0, l, _ => l.map fun m => (m, 0)
  | k + 1, l, short =>
    let sw := sumOver l w
    let weight := if sw = 0 then pReq else w
    let total := if sw = 0 then sumOver l pReq else sw
    let a := fun m => if total = 0 then pReq m else pReq m - short * weight m / total
    let neg := l.filter fun m => a m < 0
    if neg = [] then l.map fun m => (m, a m)
    else neg.map (fun m => (m, 0)) ++ spreadShort pReq w k (l.filter fun m => ¬ a m < 0) (short - sumOver neg pReq)

/-- The allocations of the reporting positions (R403). -/
def allocations (site : Rat) (pReq pMax w : Fin 8 → Rat) (l : List (Fin 8)) : List (Fin 8 × Rat) :=
  let req := sumOver l pReq
  let cap := sumOver l pMax
  if req ≤ site then l.map fun m => (m, min (pMax m) (pReq m + (site - req) * pMax m / cap))
  else spreadShort pReq w 8 l (req - site)

/-- The positions of the ring that have reported within 1 s. -/
def State.reporting (s : State) : List (Fin 8) :=
  (List.finRange 8).filter fun m => m.val < s.raw 0x3010 2 ∧ (s.casc.reportAt[m]).any fun t => s.now ≤ t + 1000000000

/-- The master's allocation of this period (R403, R404). -/
def State.allocate (s : State) : State :=
  let l := allocations (s.real 0x3010 3) (fun m => s.casc.pReq[m]) (fun m => s.casc.pMax[m]) (fun m => s.casc.w[m]) s.reporting
  let a := l.foldl (fun (v : Vector Rat 8) x => v.set x.1 x.2) s.casc.allocs
  let s : State := { s with casc.allocs := a, casc.number := s.casc.number + 1, casc.allocNext := some a[s.pins.cascPos] }
  s.launch (.allocation a s.casc.number)

/-- ALLOCATION_PERIOD (R403, R405): a master that has received another's announcement becomes a member instead. -/
def execAllocationPeriod (s : State) : Out :=
  .next (if ¬ s.due .cascAlloc ∨ ¬ s.isMaster then s
    else if s.casc.demote then
      (({ s with casc.st := .member, casc.demote := false } : State).disarm .cascAlloc).arm .masterLost 1000000000
    else (s.arm .cascAlloc (s.ns 0x3010 0x0A)).allocate)

/-- ALLOCATION_RECEIVED (R404): eight REAL32 words by position; they apply at the next frame boundary. The master by strap that receives another's
allocations finds a promoted master, and becomes a member at its next period (R405; DEDUCED, log entry 45). -/
def execAllocationReceived (ok : Bool) (dst src : Byte) (own : Bool) (allocs : List Nat) (number : Nat) (s : State) : Out :=
  .next (s.cascTake ok dst src own (fun s =>
    let s := s.masterSeen src
    if s.casc.st = .master then { s with casc.demote := true, casc.master := srcPos src }
    else if s.isMaster then s
    else { s with casc.number := number, casc.allocNext := some ((real32 (allocs.getD s.pins.cascPos.val 0)).getD 0) }))

/-! ## The master (R405) -/

/-- MASTER_LOST (R405): 1 s without a frame of the master. -/
def execMasterLost (s : State) : Out :=
  .next (if s.due .masterLost then
      let s := s.disarm .masterLost
      if s.casc.st = .member then ({ s with casc.st := .frozen } : State).raise 0x0E12 noInst [] else s
    else s)

/-- A promotion is refused (R405). -/
def State.promotionRefused (s : State) : Bool :=
  ¬ (s.casc.st = .frozen ∨ (s.pins.cascPos = 0 ∧ s.casc.st = .member ∧ s.casc.master ≠ 0 ∧ s.casc.master ≠ 0xFF))

/-- The write of 0x3010:06 (R405). -/
def objPromote : ObjWrite where
  busy := fun s _ => if s.promotionRefused then some 0x08000111 else none
  effect := fun _ _ s =>
    let p := s.pins.cascPos.val
    let s := ({ s with casc.st := .promoted, casc.master := p, casc.demote := false } : State).launch (.announcement p true)
    ((s.disarm .masterLost).arm .cascAlloc (s.ns 0x3010 0x0A)).raise 0x0E13 noInst []

/-- PROMOTE (R405). -/
def execPromote (w : Session) (d : List Byte) (s : State) : Out := .next (s.writeBy w 0x3010 6 d objPromote)

/-- MASTER_ANNOUNCEMENT_RECEIVED (R384, R405): the announcing position is the sender's. -/
def execMasterAnnouncementReceived (ok : Bool) (dst src : Byte) (own promotion : Bool) (s : State) : Out :=
  .next (s.cascTake ok dst src own (fun s =>
    let s : State := { s with casc.master := srcPos src }
    if s.isMaster then { s with casc.demote := true }
    else if promotion ∨ srcPos src = 0 then s.masterSeen src
    else s))

/-- The active chip of a position takes over its part in the cascade (R396, R399). -/
def State.cascTakeover (s : State) : State :=
  if s.inRing ∧ ¬ s.isMaster ∧ s.casc.master = s.pins.cascPos.val then
    (({ s with casc.st := if s.pins.cascPos = 0 then .master else .promoted } : State).disarm .masterLost).arm .cascAlloc (s.ns 0x3010 0x0A)
  else s

end Sys2Proof.Machine
end

