-- ==== Sys2Proof/Machine/Recorder.lean ====
section
/-! DEFINITION. The event recorder (R441 to R448, R451, R452). -/

namespace Sys2Proof.Machine

/-! ## Records in MRAM (R441 to R443) -/

/-- The newest valid record's number, and the oldest's (R451). -/
def Recorder.head (r : Recorder) : Nat := (r.recs.head?.map Record.seq).getD 0
def Recorder.tail (r : Recorder) : Nat := (r.recs.getLast?.map Record.seq).getD 0

/-- Puts a record into the slot of the next sequence number (R441). -/
def Recorder.store (x : Record) (r : Recorder) : Recorder :=
  { r with recs := ({ x with seq := r.next } :: dropSlot r.next r.recs).take 4096, next := (r.next + 1) % 2 ^ 32, written := bump r.written }

/-- A window is being loaded from the slot of a sequence number (R447). -/
def Recorder.loadingSlot (r : Recorder) (n : Nat) : Bool := r.win.any fun w => w.state = 1 ∧ w.cursor % 4096 = n % 4096

/-- A staged record with words that read uncorrectable: those words are 0 and UNCORR is set (R435, R442). The words are numbered as in the
record, its values from 8. -/
def Record.spoil (bad : List Nat) (x : Record) : Record :=
  if bad = [] then x
  else { x with flags := Nat.lor x.flags 16, vals := (List.range x.vals.length).map fun k => if bad.contains (k + 8) then 0 else x.vals.getD k 0 }

/-- RECORD_WRITE_DONE (R443): the oldest staged record stands in its slot. -/
def execRecordWriteDone (bad : List Nat) (s : State) : Out :=
  .next (match s.evr.busy, s.evr.staging with
    | true, x :: r =>
      if s.evr.loadingSlot s.evr.next then s else { s with evr := { s.evr.store (x.spoil bad) with staging := r } }
    | _, _ => s)

/-- RECORDER_SCAN_DONE (R444, R423): the marks are read; `incomplete` says that the head's successor number stands in a slot without a
valid mark. The records owed since the reset follow. -/
def execRecorderScanDone (incomplete : Bool) (s : State) : Out :=
  .next (if s.running .scan then
      let owed := s.rst.owed
      let s : State := { s.disarm .scan with evr.running := true, rst.owed := [] }
      let cut := s.rst.scope = .cold ∧ s.evr.torn ∧ incomplete
      let s : State := { s with evr.torn := false }
      State.each owed (fun p => State.raise p.1 noInst p.2) (if cut then s.raise 0x1204 noInst [] else s)
    else s)

/-! ## Windows (R442, R447, R451) -/

/-- The 128 words of a record (R442). -/
def Record.image (x : Record) : List Nat :=
  let v := x.vals.take 120
  [x.seq, x.tod % 2 ^ 32, x.tod / 2 ^ 32 % 2 ^ 32, x.code + 2 ^ 16 * x.trigger + 2 ^ 24 * x.type,
    x.frame + 2 ^ 16 * v.length + 2 ^ 24 * x.flags, x.inst, 0, 0xFFFFFFFF - x.seq] ++ v ++ List.replicate (120 - v.length) 0

/-- A reader's window (R447): the host's 0, the dictionary's 1, the peer's 2. -/
def cursorWindow : CursorBy → Fin 3
  | .reg => 0
  | .dict _ => 1
  | .peer _ => 2

/-- A cursor write starts loading (R447). -/
def State.loadWindow (k : Fin 3) (n : Nat) (half : Bool) (s : State) : State :=
  (s.modWin k fun w => { w with cursor := n, state := 1, uncorr := false, halfIn := half, seq := n, words := [] }).arm (.windowLoad k) 20000

/-- The write of 0x3201:01 (R447, R452). -/
def objCursor : ObjWrite where
  effect := fun _ d s => s.loadWindow 1 (leValue d) s.evr.win[1].half

/-- The write of 0x3201:02 (R452). -/
def objHalf : ObjWrite where
  effect := fun _ d s => s.modWin 1 fun w => { w with half := leValue d = 1 }

/-- CURSOR_WRITE (R447): through EVR_CURSOR, 0x3201:01 or a message of the peer. -/
def execCursorWrite (by_ : CursorBy) (d : List Byte) (s : State) : Out :=
  .next (match by_ with
    | .reg => s.byHost (State.loadWindow 0 (leValue d % 2 ^ 32) s.evr.win[0].half)
    | .dict w => s.writeBy w 0x3201 1 d objCursor
    | .peer h => s.loadWindow 2 (leValue d % 2 ^ 32) h)

/-- WINDOW_LOAD_DONE (R447): `bad` numbers the words of the record that read uncorrectable. -/
def execWindowLoadDone (k : Fin 3) (bad : List Nat) (s : State) : Out :=
  let w := s.evr.win[k]
  .next (if w.state ≠ 1 then s
    else
      let s := s.disarm (.windowLoad k)
      match s.evr.recs.find? fun r => r.seq = w.cursor with
      | none => s.modWin k fun w => { w with state := 3, words := [] }
      | some r =>
        let from_ := if w.halfIn then 64 else 0
        let img := (List.range 64).map fun j => if bad.contains (from_ + j) then 0 else r.image.getD (from_ + j) 0
        s.modWin k fun w => { w with state := 2, words := img, uncorr := bad.any fun b => from_ ≤ b ∧ b < from_ + 64 })

/-! ## Clearing (R448) -/

/-- The signature of a clear. -/
def sigWipe : Nat := 0x65706977

/-- A clear begins; one in progress goes on (R448). -/
def State.clearBegin (s : State) : State :=
  if s.evr.clearing then s else ({ s with evr.clearing := true } : State).arm .clearRec 1000000

/-- The write of 0x3200:05 (R448). -/
def objRecorderClear : ObjWrite where
  effect := fun _ _ s => s.clearBegin

/-- EVR_CLEAR with its signature (R448, R451). -/
def State.evrClear (s : State) : State :=
  if roleAllows (s.roleOf .spi) .engineer then ({ s with evr.clearRefused := false } : State).clearBegin
  else { s with evr.clearRefused := true }

/-- RECORDER_CLEAR (R448): through EVR_CLEAR or 0x3200:05. -/
def execRecorderClear (via : Via) (d : List Byte) (s : State) : Out :=
  .next (match via with
    | .reg => if leValue d = sigWipe then s.byHost State.evrClear else s
    | .dict w => s.writeBy w 0x3200 5 d objRecorderClear)

/-- RECORDER_CLEARED (R448): no mark stands but that of the clear record, which carries 0x1202 (R454). -/
def execRecorderCleared (s : State) : Out :=
  .next (if s.evr.clearing then
      let s := s.disarm .clearRec
      let r := s.mkRecord 4 0x1202 noInst []
      ({ s with evr := { ({ s.evr with recs := [], clearing := false } : Recorder).store r with clearing := false } } : State).fireOnFault 0x1202
    else s)

/-! ## The manual trigger (R445) -/

/-- The write of 0x3200:07: a trigger of kind 8 fires. -/
def objManualTrigger : ObjWrite where
  effect := fun _ d s => s.fireTriggers fun t : Fin 64 => decide (t.val = leValue d) && decide (s.raw 0x3210 (t + 1) = 8)

/-- MANUAL_TRIGGER (R445). -/
def execManualTrigger (w : Session) (d : List Byte) (s : State) : Out := .next (s.writeBy w 0x3200 7 d objManualTrigger)

end Sys2Proof.Machine
end

