-- ==== Sys2Proof/Machine/TwinOps.lean ====
section
/-! DEFINITION. Twin pairing's shared operations: pairing, standby, token, takeover, and what a standby takes from its frames (R378 to R398). -/

namespace Sys2Proof.Machine

/-! ## What a chip says of itself (R2, R55, R379) -/

/-- SYS_STRAP (R55). -/
def State.strapWord (s : State) : Nat :=
  s.pins.cascPos.val + 8 * ofBool s.pins.recover + 16 * s.pins.slAddr.val + 64 * ofBool s.pins.twinPar + 256 * s.pins.unstable.toNat

/-- The revision number, 0x1018:03 (R2): stepping B, firmware major and minor version. -/
def State.revision (s : State) : Nat := 0x420000 + 256 * bits s.upd.version 31 24 + bits s.upd.version 23 16

/-- This chip's pairing frame (R379). -/
def State.pairInfo (s : State) : PeerInfo where
  serial := s.upd.serial
  rev := s.revision
  straps := s.strapWord
  hash := s.net.commit.hash
  stored := s.net.newestCopy.isSome
  twin := s.twin.st
  tolerance := s.twin.tolerance

/-! ## Pairing (R379 to R382) -/

/-- The active chip of a twin state. -/
def twinActive (x : TwinSt) : Bool := x = .activePaired ∨ x = .activeAlone

/-- The refusal reason of a peer's frame, none where every check passes (R380). A hash mismatch with one of the two chips active is R382's to
resolve, at once or by a push (DEDUCED, log entry 46). -/
def State.pairRefusal (s : State) (p : PeerInfo) : Option Nat :=
  let o := s.strapWord
  let rev := s.revision
  if bits p.straps 2 0 ≠ bits o 2 0 ∨ bits p.straps 5 4 ≠ bits o 5 4 then some 1
  else if ¬ bit p.straps 6 then some 2
  else if bits p.rev 31 16 ≠ bits rev 31 16 ∨ bits p.rev 15 8 ≠ bits rev 15 8 then some 3
  else if bits p.rev 7 0 ≠ bits rev 7 0 ∧ ¬ (s.twin.tolerance ∧ p.tolerance) then some 4
  else if p.hash ≠ s.net.commit.hash ∧ ¬ s.active ∧ ¬ twinActive p.twin then some 5
  else if p.twin = .solo then some 6
  else if s.active ∧ twinActive p.twin then some 7
  else none

/-- Stops every timer of the twin state. -/
def State.twinQuiet (s : State) : State :=
  ((((((s.disarm .pairSend).disarm .pairing).disarm .aligned).disarm .mirrorLost).disarm .standbyLost).disarm .takeDrive).disarm .peerAnswer

/-- A pairing is refused (R380): recorded; under reasons 1 to 6 the chip goes to state 7, its outputs as an unpaired chip's. -/
def State.pairRefused (reason : Nat) (s : State) : State :=
  let s := ({ s with twin.reason := reason } : State).raise 0x0E01 noInst [reason]
  if reason = 7 then s
  else
    let s := if s.active then s.releaseShared else s
    let s := if s.twin.st = .refused then s else { s with twin.mayPair := false }
    ({ s.twinQuiet with twin.st := .refused } : State).idlePins

/-- The chip becomes active (R62, R381): the token is asserted, and the outputs follow 5 µs later. -/
def State.beginActive (st : TwinSt) (s : State) : State :=
  ({ s.twinQuiet with twin.st := st, pins.twinActO := true, twin.released := false, twin.driveWait := true, twin.missed := 0 } : State).arm .takeDrive 5000

/-- The chip becomes standby, unsynchronised: every shared output high-impedance (R61, R378). -/
def State.beginStandby (s : State) : State :=
  let s := ((s.releaseShared.pmLet 0).pmLet 1).twinQuiet
  { s with twin.released := false, twin.st := .standbyUnsync, twin.mirror := none, twin.validRun := 0, twin.alignedSince := none, twin.missed := 0 }

/-- A pairing completes (R381). -/
def State.pairDone (p : PeerInfo) (s : State) : State :=
  let s : State := { s with twin.side := decide (p.serial < s.upd.serial), twin.peerSerial := p.serial, twin.peerHash := p.hash }
  let s := (s.newEpoch 9).raise 0x0E02 noInst []
  if s.active then ({ s.twinQuiet with twin.st := .activePaired } : State).arm .standbyLost 75000
  else if twinActive p.twin ∨ p.serial < s.upd.serial then s.beginStandby
  else (s.beginActive .activePaired).arm .standbyLost 75000

/-- The stored configuration as it is sent to the peer: without the node-IDs (R382). -/
def State.adoptFrame (s : State) (pushed : Bool) : BenutFrame :=
  let c := s.net.newestCopy.getD {}
  .adopt pushed (c.vals.filter fun p => p.1 ≠ objKey 0x2020 1 ∧ p.1 ≠ objKey 0x2020 5) c.port[0] c.port[1]

/-- A peer's frame is judged (R380 to R382). The active chip answers with its own frame, so that the peer can judge too (DEDUCED, log entry 46). -/
def State.judgePeer (p : PeerInfo) (s : State) : State :=
  match s.pairRefusal p with
  | some r => (s.launch (.refusal r)).pairRefused r
  | none =>
    let s := if s.twin.st = .pairing then s else s.launch (.pairing s.pairInfo)
    if p.hash = s.net.commit.hash then s.pairDone p
    else if s.active ∧ ¬ p.stored ∧ s.net.newestCopy.isSome then s.launch (s.adoptFrame false)
    else s

/-- The receiving chip adopts a configuration (R382): stored, committed at boot rules, recorded; the pairing is retried. -/
def State.adopt (vals a b : List (Nat × Nat)) (s : State) : State :=
  let own := (s.net.newestCopy.getD {}).vals.filter fun p => p.1 = objKey 0x2020 1 ∨ p.1 = objKey 0x2020 5
  let c : CfgCopy := { seq := (s.net.newestCopy.map fun c => c.seq + 1).getD 1, vals := overlay own vals, port := #v[a, b] }
  let s : State := { s.twinQuiet with net.store := s.net.store.set s.net.storeTarget (some c), twin.st := .unpaired }
  (s.bootFrom s.bootCopy).raise 0x0E0B noInst []

/-! ## The alignment of the timebase (R390) -/

/-- Steers the standby by its timebase error in ns; the first frame after pairing loads the time of day: the whole frames that it is off by, since
its frame boundaries are steered (R390, DEDUCED, log entry 46). -/
def State.alignTo (err : Rat) (f : MirrorFrame) (s : State) : State :=
  let s := if s.twin.mirror.isNone then
      let now := ((f.tod + 7625 : Nat) : Rat) + s.twin.delay[0] * 1000000000
      { s.todShift (roundEven ((now - (s.tb.tod : Nat)) / 25000) * 25000) with tb.todUnset := false, tb.todLoaded := true } else s
  let s := if s.tb.lock = .holdover ∨ s.tb.lock = .timebaseFail then s else s.enterHoldover
  let e := err / 1000000000
  let near := decide (absR err ≤ 10)
  let s : State := { s with twin.err := e, twin.alignedSince := if near then some (s.twin.alignedSince.getD s.now) else none }
  let s := if s.tbRuns then s.steerTo (1 / 40000) (Config.pi (1 / 10) e s.tb.freqErr s.tb.freqCorr) true else s
  s.armWhile near .aligned 1000000000

/-- The conditions of state 5 (R390). -/
def State.inSync (s : State) : Bool :=
  s.twin.alignedSince.isSome ∧ 16 ≤ s.twin.validRun ∧ s.net.commit.hash = s.twin.peerHash

/-- State 5 falls back to state 6 at any failed condition. -/
def State.syncCheck (s : State) : State :=
  if s.twin.st = .standbySync ∧ ¬ s.inSync then { s with twin.st := .standbyUnsync } else s

/-- An invalid mirror or state frame at a standby ends the run of valid ones (R390). -/
def State.badPaired (s : State) : State := ({ s.badFrame with twin.validRun := 0 } : State).syncCheck

/-- An invalid mirror frame at a standby is recorded at most once a second (R390). -/
def State.badMirror (s : State) : State := s.badPaired.raiseLimited 0x0E08 noInst []

/-! ## What the standby takes (R388, R389) -/

/-- A rectifier takes its state and toggle of a mirror frame; a join that begins is followed from its first read (R216). -/
def Rectifier.mirrored (st : RecState) (t : Bool) (x : Rectifier) : Rectifier :=
  let new : Bool := st = .joining ∧ x.st ≠ .joining
  { x with st := st, toggle := t, joinStep := if new then 0 else x.joinStep, heard := if new then none else x.heard }

/-- A mirror frame's content: lane records wait for their lanes' triggers, SEQ (the frame of SEQ n ends within frame n + 1), rectifier states and
toggles, the stage reached, V_set. -/
def State.takeMirror (f : MirrorFrame) (s : State) : State :=
  let st := if f.stage < 8 then s.shelf.stages ||| BitVec.ofNat 8 (2 ^ f.stage) else 0
  { s with
    twin.mirror := some f, twin.lastSeq := f.seq, twin.validRun := satInc 16 s.twin.validRun
    lane := Vector.ofFn fun n : Fin 12 => { s.lane[n] with align := some f.lanes[n] }
    shelf.seq := BitVec.ofNat 16 (f.seq + 1), shelf.stages := st, shelf.stageNo := f.stage
    shelf.rects := Vector.ofFn fun i : Fin 32 => s.shelf.rects[i].mirrored f.recs[i].1 f.recs[i].2
    loop := Vector.ofFn fun l : Fin 8 => { s.loop[l] with vSet := f.vSet[l] } }

/-- The timer that a rail's state runs, from the first frame that shows the state (R388). -/
def State.railTimer (s : State) (r : Fin 32) (x : RailSt) : Option (TimerId × Nat) :=
  let t := fun k => s.ns (0x2A10 + r) k
  match x with
  | .startDelay => some (.railStart r, t 4)
  | .starting => some (.railTimeout r, t 6)
  | .pgDelay => some (.railPg r, t 5)
  | .outOfWindow => some (.railFault r, t 7)
  | .minOff => some (.railMinOff r, t 0x0F)
  | .retryWait => some (.railRetry r, t 0x0C)
  | .stopping => some (.railDischarge r, t 0x11)
  | .good => some (.railGood r, 60000000000)
  | _ => none

/-- Starts the timer named, if any. -/
def State.armSome (x : Option (TimerId × Nat)) (s : State) : State := match x with | some (t, d) => s.arm t d | none => s

/-- A rail's instance follows the rail in a standby: loops run or stop, commands are as the rail stands; nothing is driven (R292). -/
def State.followRail (r : Fin 32) (on : Bool) (s : State) : State :=
  let i := s.cfg.railInst r
  match s.cfg.railKind r with
  | 1 => if h : i < 8 then
      (if on ∧ ¬ s.loop[i].running then s.loopStart ⟨i, h⟩ else if ¬ on ∧ s.loop[i].running then s.loopStop ⟨i, h⟩ else s)
    else s
  | 2 => if h : i < 16 then s.modBr ⟨i, h⟩ fun b => { b with cmd := on } else s
  | 3 => if h : i < 2 then s.modFeed ⟨i, h⟩ fun f => { f with cmd := on } else s
  | 4 => if h : i < 4 then s.modStr ⟨i, h⟩ fun x => { x with cmd := on } else s
  | _ => s

/-- A rail as the state frame shows it: state, PG, INPUT_LOSS_OFF, GROUP_OFF, WITHHELD, retries used. -/
def State.trackRail (capShed : List (Fin 16)) (r : Fin 32) (x : RailSt × Bool × Bool × Bool × Bool × Nat) (s : State) : State :=
  let (st, pg, inLoss, grp, held, n) := x
  let was := s.seq.rail[r].st
  let s := if st = was then s else ((s.railQuiet r).disarm (.railMinOff r)).armSome (s.railTimer r st)
  let cap := capShed.any fun k => s.cfg.railKind r = 2 ∧ s.cfg.railInst r = k.val
  let s := s.modRail r fun y =>
    { y with st := st, pg := pg, inputLossOff := inLoss, groupOff := grp, withheld := held, retries := n, shed := cap,
             tGood := if st = .good ∧ was ≠ .good then s.tb.tod else y.tGood }
  s.followRail r (railStarted st)

/-- The timer that a branch's state runs. -/
def State.brTimer (s : State) (k : Fin 16) (x : BrState) : Option (TimerId × Nat) :=
  let t := fun j => s.ns (0x2610 + k) j
  match x with
  | .waitPresent => if s.brPresent k then some (.brDebounce k, t 0x0E) else none
  | .inrush => some (.brInrush k, t 7)
  | .stopping => some (.brMinOff k, t 0x0B)
  | .retryWait => some (.brRetry k, t 0x0A)
  | .on => some (.brOn60 k, 60000000000)
  | _ => none

/-- A branch as the state frame shows it. -/
def State.trackBranch (k : Fin 16) (x : BrState × Nat) (s : State) : State :=
  let s := if x.1 = s.dist.br[k].st then s
    else
      let s := ((s.brQuiet k).disarm (.brMinOff k)).armSome (s.brTimer k x.1)
      if x.1 = .limit then s.brFaultRun k else s
  s.modBr k fun b => { b with st := x.1, retries := x.2, limit := x.1 = .limit, inrushAt := if x.1 = .inrush ∧ b.st ≠ .inrush then s.now else b.inrushAt }

/-- A feed pair as the state frame shows it. -/
def State.trackFeed (p : Fin 2) (sel : Option Bool) (s : State) : State :=
  s.modFeed p fun f => { f with
    sel := sel
    phase := if sel.isSome then (if f.sel = sel ∧ f.phase = .settling then .settling else .good) else if f.cmd then .waiting else .off }

/-- A phase as the state frame shows it: participating or removed, or else shed in a loop that runs. -/
def trackPhase (part running removed : Bool) (y : Phase) : Phase :=
  { y with st :=
    if removed then (if y.st = .removedSense then .removedSense else .removedOpen)
    else if part then (if phaseOn y.st then y.st else .participating)
    else if running then .shed else .unassigned }

/-- A loop as the state frame shows it: trim, ceiling, participating and removed phases. -/
def State.trackLoop (l : Fin 8) (x : Rat × Option SigWord × BitVec 32 × BitVec 32) (s : State) : State :=
  let s := s.modLoop l fun y => { y with trim := x.1, ceiling := x.2.1 }
  State.each (List.finRange 32) (fun i => fun s => if s.inMask l i then s.modPhase i (trackPhase (x.2.2.1.getLsbD i) s.loop[l].running (x.2.2.2.getLsbD i)) else s) s

/-- A state frame's content (R388). -/
def State.takeStateFrame (f : StateFrame) (s : State) : State :=
  let s := State.each (List.finRange 32) (fun r => State.trackRail f.capShed r f.rails[r]) s
  let s := State.each (List.finRange 16) (fun k => State.trackBranch k f.br[k]) s
  let s := State.each (List.finRange 2) (fun p => State.trackFeed p f.feeds[p]) s
  let s := State.each (List.finRange 8) (fun l => State.trackLoop l f.loops[l]) s
  let s := State.each (List.finRange 8) (fun j => State.trackFactor j f.f[j]) s
  { s with
    twin.validRun := satInc 16 s.twin.validRun
    seq.st := f.seqSt, seq.groupsDown := f.groups, seq.order := f.order, dist.str := f.strs, dist.quench := s.dist.quench ||| f.quench
    shelf.capShed := f.capShed, shelf.capOverride := f.capOverride }

/-! ## Giving up and taking over (R392 to R396) -/

/-- A handover or a token lost for a reason that needs no reset leaves a standby, or an unpaired chip (R392, R394). -/
def State.giveUpTo (code : Nat) (standby : Bool) (s : State) : State :=
  let s := s.dropToken code
  if standby then s.beginStandby else ({ s.twinQuiet with twin.st := .unpaired } : State).idlePins

/-- A standby takes over (R395, R396 steps 1, 5 and 6); the cause is 0 for token loss and 1 for heartbeat loss, and the second value is the
unsynchronised flag (log entry 18). -/
def State.takeOver (cause : Nat) (s : State) : State :=
  let unsync := s.twin.st = .standbyUnsync
  let s := ({ s with twin.takeovers := bump s.twin.takeovers } : State).raise 0x0E04 noInst [cause, ofBool unsync]
  let s := (s.beginActive .activeAlone).cascTakeover
  if s.tb.lock = .timebaseFail then s else s.enterHoldover.refGained

/-- The drive that a branch's tracked state requires. -/
def brDrive : BrState → GateDrive
  | .inrush | .on => .source
  | .held => .held
  | .limit => .regulate
  | .quenched => .fastSink
  | .gateUv => .low
  | _ => .normalSink

/-- The branches' gates at a takeover; fault timers and inrush energies start from zero (R396 step 2). A gate that is not driven high has
been sunk by this chip from now (R232). -/
def State.driveBranch (k : Fin 16) (s : State) : State :=
  let x := s.dist.br[k].st
  let s := (s.brFaultClear k).modBr k fun b => { b with energy := 0, sunkAt := if gateHigh (brDrive x) then b.sunkAt else s.now }
  (if x = .limit then s.brFaultRun k else s).drive (brGate k) (brDrive x)

/-- The gates of a feed pair at a takeover; a feed that is not selected has been sunk by this chip from now (R236). -/
def State.driveFeed (p : Fin 2) (s : State) : State :=
  let sel := s.dist.feed[p].sel
  let g := fun b => if sel = some b then GateDrive.source else .normalSink
  let s := s.modFeed p fun f => { f with sunkAt := Vector.ofFn fun i : Fin 2 => if sel = some (i == 1) then f.sunkAt[i] else s.now }
  (s.drive (fdGate p false) (g false)).drive (fdGate p true) (g true)

/-- The gate of a string at a takeover. -/
def State.driveStr (n : Fin 4) (s : State) : State := s.drive (stGate n) (if s.dist.str[n] = .on then .source else .normalSink)

/-- The GPIO enable of a started rail at a takeover: the rail is adopted as it stands (R292). -/
def State.driveEnable (r : Fin 32) (s : State) : State :=
  if s.cfg.railKind r = 5 then s.driveGpio (s.cfg.railInst r) (s.flag (0x2A10 + r) 0x14 == railStarted s.seq.rail[r].st) else s

/-- The shared outputs of a new active chip (R396 step 2). -/
def State.driveShared (s : State) : State :=
  let s := State.each (List.finRange 16) State.driveBranch s
  let s := State.each (List.finRange 2) State.driveFeed s
  let s := State.each (List.finRange 4) State.driveStr s
  let s := State.each (List.finRange 32) State.driveEnable s
  s.drivePg.quenchPins

/-! ## Commands to the pair (R382, R392, R397, R406) -/

/-- The signatures of 0x3000:06 to :08. -/
def sigGive : Nat := 0x65766967
def sigPush : Nat := 0x68737570
def sigRese : Nat := 0x65736572

/-- The peer is a synchronised standby, as it last said. -/
def State.peerSynced (s : State) : Bool := (s.twin.peer.map fun p => p.twin) = some .standbySync

/-- The write of 0x3000:06 (R392): the handover command has no fault code, so 0x3000:0D reads 0. -/
def objHandover : ObjWrite where
  busy := fun s _ => refuseIf (¬ (s.twin.st = .activePaired ∧ s.peerSynced))
  effect := fun _ _ s => s.giveUpTo 0 true

/-- The write of 0x3000:07 (R382): on the active chip, with a stored configuration to send. -/
def objPush : ObjWrite where
  busy := fun s _ => refuseIf (¬ (s.active ∧ s.net.newestCopy.isSome))
  effect := fun _ _ s => s.launch (s.adoptFrame true)

/-- The write of 0x3000:08 (R391, R397): the active chip orders the reset; on the standby it is the standby's own. -/
def objResetStandby : ObjWrite where
  busy := fun s _ => refuseIf (¬ (s.active ∨ s.standby))
  effect := fun _ _ s => if s.standby then s.assertReset .warm causeTwin false else s.launch .resetStandby

/-- The write of 0x3000:0F (R406, R466). -/
def objTolerance : ObjWrite where
  effect := fun _ d s => { s with twin.tolerance := leValue d ≠ 0 }

end Sys2Proof.Machine
end

