-- ==== Sys2Proof/Machine/Read.lean ====
section
/-! DEFINITION. Reads of the object dictionary (R335 to R337): the value of every readable object, block by block as the object tables list
them, and the checks of a read. -/

namespace Sys2Proof.Machine

/-! ## The blocks' values -/

/-- A real quantity as its REAL32 word. -/
def realSome (q : Rat) : Option Nat := some (toReal32 q)

/-- A mask of numbers below `n`. -/
def maskNat (n : Nat) (f : Fin n → Bool) : Nat := (maskOf n f).toNat

/-- Slack and core voltage (R33). The smallest slack reads 1 before the first slack report (DESIGN CHOICE, log entry 80). -/
def State.readArch (s : State) (sub : Nat) : Option Nat :=
  match sub with
  | 2 => realSome ((s.arch.vcoreMv : Nat) / 1000)
  | 3 => realSome s.arch.slackLast
  | 4 => realSome (s.arch.slackMin.getD 1)
  | 5 => some s.arch.limitingUnit
  | 6 => some s.arch.ceilingEvents.toNat
  | 7 => some s.arch.emergencyRaises.toNat
  | _ => none

/-- SYS_HOLD0 and SYS_HOLD1 (R64). -/
def State.holdWords (s : State) : Nat × Nat :=
  let p := s.pins
  (p.brHeld.toNat + 2 ^ 16 * p.fdHeld.toNat + 2 ^ 20 * p.stHeld.toNat + 2 ^ 24 * p.pgHeld.toNat,
    p.gpioHeld.toNat + 2 ^ 31 * ofBool s.holding)

/-- SYS_SUPPLY (R75). -/
def State.supplyWord (s : State) : Nat :=
  let p := s.pins
  ofBits [p.brownWarn, p.brownSeen, p.vgdUv, p.vauxOv, p.vddioRange] + 256 * p.bwCode

/-- Straps, holds and supplies (R64, R76). -/
def State.readPins (s : State) (idx sub : Nat) : Option Nat :=
  match idx, sub with
  | 0x2008, 1 => some s.pins.cascPos.val
  | 0x2008, 2 => some s.pins.slAddr.val
  | 0x2008, 3 => some (ofBool s.pins.twinPar)
  | 0x2008, 4 => some (ofBool s.pins.recover)
  | 0x2008, 5 => some s.pins.unstable.toNat
  | 0x2008, 6 => some (s.holdWords.1 + 2 ^ 32 * s.holdWords.2)
  | 0x5F10, 3 => realSome s.pins.vaux
  | 0x5F10, 4 => realSome s.pins.vddio
  | 0x5F10, 5 => realSome s.pins.vgd
  | 0x5F10, 6 => some s.pins.brownEvents.toNat
  | 0x5F10, 7 => some s.supplyWord
  | _, _ => none

/-- Code of a lock state (R89). -/
def lockCode : LockState → Nat
  | .freerun => 0
  | .acquire => 1
  | .locked => 2
  | .holdover => 3
  | .timebaseFail => 4

/-- The timebase (R104). -/
def State.readTime (s : State) (idx sub : Nat) : Option Nat :=
  let t := s.tb
  match idx, sub with
  | 0x2101, 1 => some (lockCode t.lock)
  | 0x2101, 2 => some (ofBits [t.ppsOk, t.refOk, t.cascOk, t.conflict, t.freqOnly] + 2 ^ 14 * ofBool t.todUnset + 2 ^ 15 * ofBool t.todInvalid)
  | 0x2101, 3 => realSome t.steering
  | 0x2101, 4 => realSome t.phaseErr
  | 0x2101, 5 => realSome t.holdoverTime
  | 0x2101, 6 => realSome t.errBound
  | 0x2101, 7 => some t.changes.toNat
  | 0x2101, 8 => some t.discarded.toNat
  | 0x2102, 1 => some t.tod
  | 0x2102, 3 => some t.steps.toNat
  | 0x2102, 4 => some t.lastChange
  | 0x2103, 1 => realSome t.model.learnTime
  | 0x2103, 2 => realSome t.model.spanLo
  | 0x2103, 3 => realSome t.model.spanHi
  | 0x2103, 4 => realSome t.model.c[0]
  | 0x2103, 5 => realSome t.model.c[1]
  | 0x2103, 6 => realSome t.model.c[2]
  | 0x2103, 7 => realSome t.model.c[3]
  | 0x2103, 8 => realSome t.model.a
  | 0x2103, 9 => some (ofBool t.model.isLearned)
  | 0x2110, k + 1 => (t.gen[k]?).map fun x => x.setting.owner
  | 0x2124, k + 1 => (t.loopF[k]?).map toReal32
  | 0x2125, k + 1 => (t.recF[k]?).map toReal32
  | _, _ => none

/-- The effective rotation interval (R119). -/
def State.effectiveInterval (s : State) : Rat :=
  let n := s.meas.pool.length
  let t := s.real 0x2200 1
  if n = 0 then t else max t (((48 + n - 1) / n * 162 : Nat) / 1000)

/-- A channel's status word (R134, R485). -/
def State.channelStatus (s : State) (k : Nat) (c : Channel) : Nat :=
  ofBits [s.ready k, c.overrange, c.settling, c.inSwap, c.calStale, c.disagree, c.rangeMismatch, c.notReady] + 256 * c.host

/-- State of a capture (R135). -/
def captureCode : CaptureState → Nat
  | .idle => 0
  | .capturing _ => 1
  | .aHeld => 2
  | .abHeld => 3
  | .computed => 4
  | .failed => 5

/-- Measurement and calibration (R134, R135). -/
def State.readMeasure (s : State) (idx sub : Nat) : Option Nat :=
  let m := s.meas
  match idx, sub with
  | 0x2200, 4 => realSome s.effectiveInterval
  | 0x2200, 5 => some m.pool.length
  | 0x2200, 6 => some m.swaps.toNat
  | 0x2200, 7 => some m.swapAborts.toNat
  | 0x2200, 8 => some (maskNat 52 fun k => m.modu[k].retired)
  | 0x2202, k + 1 => (m.ch[k]?).map fun c => toReal32 c.v200
  | 0x2203, k + 1 => (m.ch[k]?).map fun c => toReal32 c.v10
  | 0x2204, k + 1 => (m.ch[k]?).map fun c => toReal32 c.v1
  | 0x2205, k + 1 => (m.ch[k]?).map fun c => toReal32 c.ball
  | 0x2206, k + 1 => (m.ch[k]?).map (s.channelStatus k)
  | 0x2211, k + 1 => if k < 8 then some (unsigned 16 (s.windowCode k)) else none
  | 0x2222, k + 1 => (m.phaseI[k]?).map toReal32
  | 0x2231, k + 1 => if k < 16 then (m.hkMean[k]?).map toReal32 else none
  | 0x2232, k + 1 => (m.hkMean[16 + k]?).map toReal32
  | 0x2240, k + 1 => if k < 4 then (m.stI10[k]?).map toReal32 else (m.stI1[k - 4]?).map toReal32
  | 0x2250, k + 1 => if k < 6 then (s.thm.sensor[k]?).map fun x => toReal32 x.t else none
  | 0x2251, k + 1 => (s.thm.sensor[8 + k]?).map fun x => toReal32 x.t
  | 0x3600, 2 => some m.calWork.origin
  | 0x3600, 4 => some m.calWork.count
  | 0x3600, 5 => some m.calWork.time
  | 0x3600, 6 => some (ofBool m.calDiffers)
  | 0x3620, 5 => some (captureCode m.cap.state)
  | 0x3620, 6 => realSome m.cap.vA
  | 0x3620, 7 => realSome m.cap.vB
  | 0x3620, 8 => realSome m.cap.gain
  | 0x3620, 9 => realSome m.cap.off
  | _, _ => none

/-- The state words of a stage as 0x2360 shows them (R157): the limiter's word is y_prev. -/
def stageWord (st : StageState) (second : Bool) (g : Stage) : Nat :=
  if second then (if g.type = .biquad then sigImage { m := st.w2, e := st.e } else 0) else sigImage { m := st.w1, e := st.e }

/-- The converted coefficients of a stage as 0x2370 shows them (R141, R157); a biquad's five, an integrator's first, a lead-lag's b0, b1, a1
in places 1, 2 and 4, a limiter's lo, hi and rate. -/
def stageCoef (g : Stage) (j : Nat) : Nat :=
  let w := fun k => match g.coef[k]? with | some c => unsigned 18 c + 2 ^ 24 * unsigned 6 g.f | none => 0
  match g.type with
  | .limiter => (match j with | 0 => sigImage g.lo | 1 => sigImage g.hi | 2 => sigImage g.rate | _ => 0)
  | .leadLag => (match j with | 0 => w 0 | 1 => w 1 | 3 => w 2 | _ => 0)
  | _ => w j

/-- Lanes (R157): the last output and the state words are those of the snapshot. -/
def State.readLane (s : State) (idx sub : Nat) : Option Nat :=
  if 0x2350 ≤ idx ∧ idx < 0x235C then
    (s.lane[idx - 0x2350]?).bind fun x =>
      match sub with
      | 1 => some (s.laneStatus x)
      | 2 => some x.misses.toNat
      | 3 => some x.consecutive
      | 4 => some x.saturations.toNat
      | 5 => (s.snap[idx - 0x2350]?).map fun y => toReal32 (sigRat y.out)
      | 6 => realSome (x.slackMin.getD 1)
      | 7 => realSome ((s.cfg.laneWork (idx - 0x2350) : Nat) / 1000000000)
      | 8 => some x.tracked.toNat
      | _ => none
  else if 0x2360 ≤ idx ∧ idx < 0x236C then
    (s.snap[idx - 0x2360]?).map fun x => match x.bank.stages[(sub - 1) / 2]? with
      | some g => stageWord ((x.states[(sub - 1) / 2]?).getD {}) ((sub - 1) % 2 = 1) g
      | none => 0
  else if 0x2370 ≤ idx ∧ idx < 0x237C then
    (s.lane[idx - 0x2370]?).map fun x => match x.bank.stages[(sub - 1) / 8]? with | some g => stageCoef g ((sub - 1) % 8) | none => 0
  else none

/-- Code of a phase's state (R185). -/
def phaseCode : PhaseState → Nat
  | .unassigned => 0
  | .participating => 1
  | .tapering => 2
  | .shed => 3
  | .blind => 4
  | .removedOpen => 5
  | .removedSense => 6

/-- The phases of a loop's mask that a predicate picks. -/
def State.phaseMask (s : State) (l : Fin 8) (f : PhaseState → Bool) : Nat := maskNat 32 fun i => s.inMask l i && f s.phase[i].st

/-- Regulator loops (R185). -/
def State.readLoop (s : State) (idx sub : Nat) : Option Nat :=
  if idx = 0x2400 ∧ sub = 3 then realSome s.syncMeasured
  else if idx = 0x2440 then (s.phase[sub - 1]?).map fun p => phaseCode p.st
  else if h : 0x2420 ≤ idx ∧ idx < 0x2428 then
    let l : Fin 8 := ⟨idx - 0x2420, by omega⟩
    let x := s.loop[l]
    match sub with
    | 1 => some (s.loopStatus l)
    | 2 => realSome x.vOut
    | 3 => realSome x.vSet
    | 4 => realSome x.trim
    | 5 => realSome x.current
    | 6 => realSome (s.limitInForce l)
    | 7 => some (s.phaseMask l phaseOn)
    | 8 => some (s.phaseMask l fun p => p = .shed)
    | 9 => some (s.phaseMask l fun p => p = .removedOpen ∨ p = .removedSense)
    | 0x0A => some x.truncations.toNat
    | 0x0B => some x.bellowsEvents.toNat
    | 0x0C => some x.sheds.toNat
    | 0x0D => realSome ((x.period : Nat) / 256)
    | _ => none
  else none

/-- Code of a rectifier's state (R214). -/
def recCode : RecState → Nat
  | .disabled => 0
  | .absent => 1
  | .joining => 2
  | .commanded => 3
  | .fallback => 4
  | .fault => 5
  | .excluded => 6
  | .notTracking => 7

/-- A rectifier's objects, 0x2E30 to 0x2E3B (R217). -/
def State.readRec (idx : Nat) (r : Rectifier) : Option Nat :=
  match idx with
  | 0x2E30 => some (recCode r.st)
  | 0x2E31 => realSome r.current
  | 0x2E32 => some (toReal32? r.demand)
  | 0x2E33 => realSome r.pin
  | 0x2E34 => realSome r.vout
  | 0x2E35 => realSome r.temp
  | 0x2E36 => realSome r.avail
  | 0x2E37 => realSome r.cap
  | 0x2E38 => realSome (r.regs[1] : Nat)
  | 0x2E39 => realSome r.iMax
  | 0x2E3B => some r.invalid.toNat
  | _ => none

/-- Shelf loop and share link (R217). -/
def State.readShelf (s : State) (idx sub : Nat) : Option Nat :=
  let x := s.shelf
  match idx, sub with
  | 0x2E20, 1 => some s.shelfStatus
  | 0x2E20, 2 => realSome s.vBus
  | 0x2E20, 3 => realSome x.ff
  | 0x2E20, 4 => realSome x.y8
  | 0x2E20, 5 => realSome x.u
  | 0x2E20, 6 => realSome x.c
  | 0x2E20, 7 => realSome (x.rects.toList.foldl (fun (a : Rat) r => a + r.demand.getD 0) 0)
  | 0x2E20, 8 => realSome (x.rects.toList.foldl (fun (a : Rat) r => a + r.current) 0)
  | 0x2E20, 9 => realSome s.inputPower
  | 0x2E20, 0x0A => realSome x.soc
  | 0x2E20, 0x0B => realSome x.autonomy
  | 0x2E20, 0x0C => some x.stageNo
  | 0x2E20, 0x0D => realSome s.busRef
  | 0x2E20, 0x0E => some x.seq.toNat
  | 0x2E40, 1 => some x.frames[0].toNat
  | 0x2E40, 2 => some x.frames[1].toNat
  | 0x2E40, 3 => some x.readbackFails[0].toNat
  | 0x2E40, 4 => some x.readbackFails[1].toNat
  | 0x2E40, 5 => some x.slowDone.toNat
  | 0x2E40, 6 => some x.slowTimeouts.toNat
  | 0x2E40, 7 => some x.wrongPort.toNat
  | 0x2E41, 5 => some x.slowState
  | i, k + 1 => (x.rects[k]?).bind (State.readRec i)
  | _, _ => none

/-- Code of a branch's channel state (R223). -/
def brCode : BrState → Nat
  | .off => 0
  | .waitPresent => 1
  | .inrush => 2
  | .on => 3
  | .limit => 4
  | .stopping => 5
  | .retryWait => 6
  | .tripped => 7
  | .fetShort => 8
  | .gateUv => 9
  | .quenched => 10
  | .held => 11

/-- Code of a string's channel state (R244). -/
def strCode : StrState → Nat
  | .off => 0
  | .on => 3
  | .latched => 7
  | .gateUv => 9
  | .quenched => 10

/-- Code of a selected feed (R244). -/
def feedCode : Option Bool → Nat
  | none => 0xFF
  | some b => ofBool b

/-- The distribution status (R244). -/
def State.distStatus (s : State) : Nat :=
  let d := s.dist
  let guv : Bool := d.br.any (fun b => b.st = .gateUv) || d.feed.any FeedPair.gateUv || d.str.any fun x => x = .gateUv
  maskNat 16 (fun k => d.br[k].st = .on) + 2 ^ 16 * (s.gatesHigh.extractLsb' 16 4).toNat + 2 ^ 20 * (s.gatesHigh.extractLsb' 20 4).toNat
    + 2 ^ 24 * ofBool guv + 2 ^ 25 * ofBool (decide (d.quench ≠ 0))

/-- A branch's objects (R244). -/
def State.readBranch (s : State) (k : Fin 16) (sub : Nat) : Option Nat :=
  let b := s.dist.br[k]
  match sub with
  | 1 => some (brCode b.st)
  | 2 => some b.retries
  | 3 => some b.trips.toNat
  | 4 => some b.cause
  | 5 => realSome b.lastEnergy
  | 6 => realSome b.lastDuration
  | 7 => realSome b.vds
  | 8 => realSome ((s.brElapsed k : Nat) / 1000000000)
  | _ => none

/-- Distribution (R244). -/
def State.readDist (s : State) (idx sub : Nat) : Option Nat :=
  if idx = 0x2600 then (match sub with | 1 => some s.distStatus | 5 => some s.dist.quench.toNat | _ => none)
  else if h : 0x2620 ≤ idx ∧ idx < 0x2630 then s.readBranch ⟨idx - 0x2620, by omega⟩ sub
  else if idx = 0x2632 ∨ idx = 0x2633 then
    (s.dist.feed[idx - 0x2632]?).bind fun f =>
      match sub with
      | 1 => some (feedCode f.sel)
      | 2 => some (ofBits [f.qual[0], f.qual[1]])
      | 3 => some f.transfers.toNat
      | 4 => some f.lastTransfer
      | _ => none
  else if idx = 0x2640 then (s.dist.str[sub - 1]?).map strCode
  else none

/-- A string's objects (R266). -/
def State.readString (s : State) (n : Fin 4) (sub : Nat) : Option Nat :=
  let x := s.bat.str[n]
  match sub with
  | 1 => some (s.stringStatus n)
  | 2 => realSome x.q
  | 3 => realSome x.soc
  | 4 => realSome x.c
  | 5 => realSome x.v
  | 6 => realSome x.vEnd
  | 7 => realSome x.cMeas
  | 8 => some x.cycles.toNat
  | 9 => some x.tFull
  | 0x0A => some x.tEmpty
  | 0x0B => realSome x.throughput
  | 0x0C => realSome (x.uncounted + (match x.stoppedAt with | some t => ((s.now - t : Nat) : Rat) / 1000000000 | none => 0))
  | 0x0D => some x.lvdCount.toNat
  | _ => none

/-- Battery (R266). -/
def State.readBattery (s : State) (idx sub : Nat) : Option Nat :=
  if idx = 0x2800 then (match sub with | 6 => some s.bat.writes.toNat | 7 => some s.bat.seq | _ => none)
  else if h : 0x2820 ≤ idx ∧ idx < 0x2824 then s.readString ⟨idx - 0x2820, by omega⟩ sub
  else none

/-- Code of a rail's state (R273). -/
def railCode : RailSt → Nat
  | .off => 0
  | .waitDeps => 1
  | .startDelay => 2
  | .starting => 3
  | .pgDelay => 4
  | .good => 5
  | .outOfWindow => 6
  | .stopping => 7
  | .minOff => 8
  | .retryWait => 9
  | .latched => 10
  | .heldOff => 11
  | .privFailed => 12

/-- Code of the sequencer's state (R293). -/
def seqCode : SeqSt → Nat
  | .off => 0
  | .poweringUp => 1
  | .up => 2
  | .poweringDown => 3
  | .latched => 4

/-- The rail status word (R294). -/
def Rail.status (x : Rail) : Nat :=
  ofBits [x.pg, x.inWindow, x.withheld, decide (x.st = .privFailed), x.adopted, x.groupOff, x.inputLossOff, decide (x.st = .heldOff)]

/-- Position of a rail in the start order; 0xFF not started (R293). -/
def positionIn (r : Nat) : List (Fin 32) → Nat → Nat
  | [], _ => 0xFF
  | a :: l, n => if a.val = r then n else positionIn r l (n + 1)

/-- Sequencer (R293). -/
def State.readSeq (s : State) (idx sub : Nat) : Option Nat :=
  match idx, sub with
  | 0x2A00, 1 => some (ofBool (s.seq.sysOn ∨ s.seq.onAfter))
  | 0x2A00, 3 => some (seqCode s.seq.st)
  | 0x2A00, 4 => some s.seq.privFail.toNat
  | 0x2A00, 7 => some s.seq.resets
  | 0x2A01, 9 => some s.seq.groupsDown.toNat
  | 0x2A01, k + 1 => some (ofBool (s.seq.groupCmd.getLsbD k))
  | 0x2A02, 9 => some s.pins.pg.toNat
  | 0x2A30, k + 1 => some (positionIn k s.seq.order 0)
  | _, _ =>
    if 0x2A10 ≤ idx ∧ idx < 0x2A30 ∧ sub = 0x15 then (s.seq.rail[idx - 0x2A10]?).map fun x => ofBool x.cmd
    else if 0x2A40 ≤ idx ∧ idx < 0x2A60 then
      (s.seq.rail[idx - 0x2A40]?).bind fun x =>
        match sub with
        | 1 => some (railCode x.st)
        | 2 => some x.status
        | 3 => some x.retries
        | 4 => some x.faults.toNat
        | 5 => some x.lastCode
        | 6 => some x.tGood
        | _ => none
    else none

/-- Thermal (R306). -/
def State.readThermal (s : State) (idx sub : Nat) : Option Nat :=
  match idx, sub with
  | 0x2C00, 1 => some s.thermalStatus
  | 0x2C00, 2 => some s.thm.shutdowns.toNat
  | 0x2C00, 3 => realSome (s.thermalCap.getD 0)
  | 0x2C20, k + 1 => if h : k < 16 then some (s.sensorStatus ⟨k, h⟩) else none
  | 0x2C50, k + 1 => (s.thm.f[k]?).map toReal32
  | 0x2C51, k + 1 => if h : k < 32 then realSome (s.tau ⟨k, h⟩) else none
  | _, _ => none

/-- Code of an engine's state (R333). -/
def engCode : EngSt → Nat
  | .running => 0
  | .migratingOut => 1
  | .reloading => 2
  | .selfTest => 3
  | .migratingBack => 4
  | .restarting => 5
  | .hosting => 6
  | .idle => 7
  | .retired => 8

/-- Engines, messages and locks (R333). -/
def State.readEng (s : State) (idx sub : Nat) : Option Nat :=
  match idx, sub with
  | 0x3800, 2 => some s.eng.sysExpiries.toNat
  | 0x3800, 3 => some s.eng.orphans.toNat
  | 0x3800, 4 => some (ofBool s.eng.service)
  | 0x3821, k + 1 => (s.eng.queue[k]?).map fun q => q.posts.toNat
  | 0x3822, k + 1 => (s.eng.queue[k]?).map fun q => q.refused.toNat
  | 0x3830, k + 1 => (s.eng.lock[k]?).map fun l => l.owner
  | 0x3831, 1 => some s.eng.foreign.toNat
  | _, _ =>
    if h : 0x3810 ≤ idx ∧ idx < 0x3818 then
      let e : Fin 8 := ⟨idx - 0x3810, by omega⟩
      let x := s.eng.eng[e]
      match sub with
      | 1 => some (engCode x.st)
      | 2 => some s.eng.epoch[engIx e].toNat
      | 4 => some x.expiries.toNat
      | 5 => some s.eng.host[e].val
      | 6 => realSome s.eng.load[e]
      | 7 => realSome (x.slackMin.getD 1)
      | 8 => some x.selfTest
      | _ => none
    else none

/-- Code of a commit's state (R376). -/
def commitCode : CommitSt → Nat
  | .idle => 0
  | .validating => 1
  | .applying => 2
  | .done => 3
  | .refused => 4
  | .rolledBack => 5

/-- The blocks with pending changes, or else those last applied (R337, R376); block 0 has no base order. -/
def State.blockMask (s : State) : Nat :=
  let of := fun (p : Nat → Bool) => maskNat 13 fun b => p (b.val + 1)
  if s.net.shadow ≠ [] then of fun b => s.net.shadow.any fun p => keyBlock p.1 = b
  else of fun b => s.net.commit.order.contains b

/-- Owner of a GPIO pin (R352). -/
def State.gpioOwner (s : State) (p : Nat) : Nat :=
  if s.cfg.faultPin p then 0x32 else ((s.claims s.cfg s.cfg).find? fun x => x.pin = p).elim 0xFF Claim.owner

/-- The commit unit, the resource table, SPI and PMBus (R352, R375, R376). -/
def State.readNet (s : State) (idx sub : Nat) : Option Nat :=
  let c := s.net.commit
  match idx, sub with
  | 0x2030, 1 => some s.net.spiCrc.toNat
  | 0x2030, 2 => some s.net.spiFrames.toNat
  | 0x2043, k + 1 => (s.net.pm[k]?).map PmDev.st
  | 0x204A, k + 1 => (s.net.pm[k]?).map PmDev.status
  | 0x204B, k + 1 => (s.net.pm[k]?).map fun d => d.pecErrors.toNat
  | 0x3A00, 2 => some (commitCode c.st)
  | 0x3A00, 3 => some c.code
  | 0x3A00, 4 => some c.object
  | 0x3A00, 5 => some c.owner
  | 0x3A00, 6 => some c.count.toNat
  | 0x3A00, 7 => some s.blockMask
  | 0x3A00, 8 => some (s.net.claim.elim 0xFF fun w => (sessIx w).val)
  | 0x3A00, 9 => some c.hash
  | 0x3A10, k + 1 => some (s.gpioOwner k)
  | 0x3A11, k + 1 => some (if s.raw 0x2A02 (k + 1) ≠ 0 then 0x31 else 0xFF)
  | 0x3A12, _ => some 0x32
  | 0x3A13, _ => some 0x30
  | 0x3A14, k + 1 => some (s.receiver k + 256 * s.sender k)
  | 0x3A15, k + 1 => some (((List.range 8).find? fun l => bit (s.raw (0x2410 + l) 1) k).elim 0xFF fun l => 0x50 + l)
  | 0x1000, _ => some 0
  | 0x1010, _ + 1 => some 1
  | 0x1011, _ + 1 => some Config.restoreWord
  | 0x1001, _ => some (errorRegister s.net.errs)
  | 0x1003, 0 => some s.net.errs.length
  | 0x1003, k + 1 => some ((s.net.errs[k]?).elim 0 errWord)
  | 0x1018, 1 => some 0x00000E9B
  | 0x1018, 2 => some 0x00004800
  | 0x1018, 3 => some s.revision
  | 0x1018, 4 => some s.upd.serial
  | _, _ => if 0x2044 ≤ idx ∧ idx < 0x204A then (s.net.pm[sub - 1]?).bind fun d => (d.tele[idx - 0x2044]?).map toReal32? else none

/-- Code of a twin state (R378). -/
def twinCode : TwinSt → Nat
  | .solo => 0
  | .unpaired => 1
  | .pairing => 2
  | .activePaired => 3
  | .activeAlone => 4
  | .standbySync => 5
  | .standbyUnsync => 6
  | .refused => 7

/-- Code of a cascade state (R406). -/
def cascCode : CascSt → Nat
  | .off => 0
  | .member => 1
  | .master => 2
  | .frozen => 3
  | .promoted => 4
  | .duplicate => 5

/-- Twin and cascade (R406). -/
def State.readTwin (s : State) (idx sub : Nat) : Option Nat :=
  match idx, sub with
  | 0x3000, 1 => some (twinCode s.twin.st)
  | 0x3000, 2 => some s.twin.peerSerial
  | 0x3000, 3 => some s.twin.peerHash
  | 0x3000, 4 => some s.twin.reason
  | 0x3000, 9 => some s.twin.takeovers.toNat
  | 0x3000, 0x0A => some s.twin.invalid.toNat
  | 0x3000, 0x0B => realSome s.twin.err
  | 0x3000, 0x0C => realSome s.twin.delay[0]
  | 0x3000, 0x0D => some s.twin.giveUp
  | 0x3000, 0x0F => some (ofBool s.twin.tolerance)
  | 0x3010, 4 => some (cascCode s.casc.st)
  | 0x3010, 5 => some s.casc.master
  | 0x3010, 7 => some (s.twin.linkUp.toNat / 2)
  | 0x3010, 8 => realSome s.casc.alloc
  | 0x3010, 9 => some s.casc.allocAt
  | 0x3011, k + 1 => (s.casc.allocs[k]?).map toReal32
  | 0x3012, k + 1 => (s.casc.pReq[k]?).map toReal32
  | 0x3013, k + 1 => (s.casc.w[k]?).map toReal32
  | 0x3014, k + 1 => (s.casc.soc[k]?).map toReal32
  | _, _ => none

/-- SYS_RSTCOUNT (R425). -/
def State.resetCounts (s : State) : Nat := s.rst.warmCount.toNat + 2 ^ 16 * s.rst.coldCount + 2 ^ 24 * s.rst.stalls

/-- SYS_TRIMSTAT (R425). -/
def State.trimWord (s : State) : Nat :=
  ofBits [s.rst.devTrimOk, s.rst.calSetOk, s.rst.devTrimFallback, s.rst.calSetFallback, s.rst.protective] + 2 ^ 8 * s.rst.trimFailed

/-- Reset (R426). -/
def State.readReset (s : State) (sub : Nat) : Option Nat :=
  match sub with
  | 1 => some s.rst.causeWord
  | 5 => some (s.rst.blkLast + 256 * ofBool s.rst.blkForced)
  | 6 => some s.trimWord
  | 8 => some s.resetCounts
  | 9 => some s.rst.lastRelease
  | _ => none

/-- NVC_COPIES (R450). -/
def State.copyWord (s : State) : Nat :=
  ofBits [s.net.store[0].isSome, s.net.store[1].isSome, s.bat.copies[0].isSome, s.bat.copies[1].isSome, s.meas.calHalf[0].isSome, s.meas.calHalf[1].isSome]

/-- A window's state word: EVR_WSTAT [7:0] without CLEAR_REFUSED (R451). -/
def RecWindow.stat (w : RecWindow) : Nat := w.state + 4 * ofBool w.uncorr + 8 * ofBool w.halfIn

/-- Recorder and memories (R452, R453). -/
def State.readRecorder (s : State) (idx sub : Nat) : Option Nat :=
  let m := s.mem
  match idx, sub with
  | 0x3200, 1 => some (ofBits [s.evr.running, s.evr.clearing, decide (16 ≤ s.evr.staging.length)])
  | 0x3200, 2 => some s.evr.head
  | 0x3200, 3 => some s.evr.tail
  | 0x3200, 4 => some s.evr.lost.toNat
  | 0x3200, 6 => some s.evr.written.toNat
  | 0x3201, 1 => some s.evr.win[1].cursor
  | 0x3201, 2 => some (ofBool s.evr.win[1].half)
  | 0x3201, 3 => some s.evr.win[1].stat
  | 0x3218, k + 1 => (s.evr.trig[k]?).map fun t => t.firings.toNat
  | 0x5F30, 1 => some m.mainCorr
  | 0x5F30, 2 => some m.mainUnc
  | 0x5F30, 3 => some m.queueCorr
  | 0x5F30, 4 => some m.queueUnc
  | 0x5F30, 5 => some m.mramCorr
  | 0x5F30, 6 => some m.mramUnc
  | 0x5F30, 7 => some m.lastAddr
  | 0x5F30, 8 => some m.eccInfo
  | 0x5F30, 9 => realSome m.passTime
  | 0x5F30, 0x0A => realSome ((m.scrubPos : Nat) / (memWords .mram : Nat))
  | 0x5F30, 0x0B => some Config.criticalSize
  | 0x5F30, 0x0D => some s.copyWord
  | _, _ => none

/-- Lifecycle, keys and update (R475). -/
def State.readUpdate (s : State) (idx sub : Nat) : Option Nat :=
  let u := s.upd
  match idx, sub with
  | 0x2002, 1 => some (lifeCode u.life)
  | 0x2002, 2 => some s.lifeTarget
  | 0x2002, 4 => some u.transitions.toNat
  | 0x2002, 5 => some u.transTime
  | 0x2003, 1 => some u.keySel
  | 0x2003, 3 => some (maskNat 9 fun k => u.key[k] ≠ [])
  | 0x2003, 4 => some u.revoked.toNat
  | 0x3400, 1 => some s.updStat
  | 0x3400, 3 => some u.next
  | 0x3400, 0x0A => some s.updSlots
  | 0x3400, 0x0B => some (s.slotVersion 0)
  | 0x3400, 0x0C => some (s.slotVersion 1)
  | 0x3400, 0x0D => some u.floor
  | 0x3400, 0x0E => realSome ((s.trialLeft : Nat) / 1000000000)
  | 0x3400, 0x0F => some u.lastCode
  | _, _ => none

/-- The value of an object that holds state or status; none where the object is a setting. -/
def State.statusRaw (s : State) (idx sub : Nat) : Option Nat :=
  if idx = 0x3808 then s.readArch sub
  else if idx = 0x2008 ∨ idx = 0x5F10 then s.readPins idx sub
  else if 0x2100 ≤ idx ∧ idx < 0x2130 then s.readTime idx sub
  else if (0x2200 ≤ idx ∧ idx < 0x2260) ∨ idx = 0x3600 ∨ idx = 0x3620 then s.readMeasure idx sub
  else if 0x2350 ≤ idx ∧ idx < 0x2380 then s.readLane idx sub
  else if 0x2400 ≤ idx ∧ idx < 0x2450 then s.readLoop idx sub
  else if 0x2E20 ≤ idx ∧ idx < 0x2E50 then s.readShelf idx sub
  else if 0x2600 ≤ idx ∧ idx < 0x2650 then s.readDist idx sub
  else if 0x2800 ≤ idx ∧ idx < 0x2830 then s.readBattery idx sub
  else if 0x2A00 ≤ idx ∧ idx < 0x2A60 then s.readSeq idx sub
  else if 0x2C00 ≤ idx ∧ idx < 0x2C60 then s.readThermal idx sub
  else if 0x3800 ≤ idx ∧ idx < 0x3840 then s.readEng idx sub
  else if idx = 0x3000 ∨ (0x3010 ≤ idx ∧ idx < 0x3015) then s.readTwin idx sub
  else if idx = 0x5F20 then s.readReset sub
  else if (0x3200 ≤ idx ∧ idx < 0x3220) ∨ idx = 0x5F30 then s.readRecorder idx sub
  else if idx = 0x2002 ∨ idx = 0x2003 ∨ idx = 0x3400 then s.readUpdate idx sub
  else s.readNet idx sub

/-- The pending value of an rwc object, or else the value in force (R337). -/
def State.settingRaw (s : State) (r : ObjRow) (idx sub : Nat) : Nat :=
  if r.access = .rwc then (s.net.shadow.lookup (objKey idx sub)).getD (s.raw idx sub) else s.raw idx sub

/-- The raw value of an object that a number holds, as a port's server shows it (R361). -/
def State.readRaw (s : State) (p : Fin 2) (r : ObjRow) (idx sub : Nat) : Nat :=
  if perPort idx then s.portRaw p idx sub
  else if idx = 0x1200 ∧ sub ≠ 0 then (if sub = 1 then 0x600 else 0x580) + s.net.port[p].node
  else (s.statusRaw idx sub).getD (s.settingRaw r idx sub)

/-! ## Objects of varying length, and of a session -/

/-- The bytes of a text. -/
def textBytes (t : String) : List Byte := t.toList.map fun c => BitVec.ofNat 8 c.toNat

/-- The text of a number. -/
def natText (n : Nat) : List Byte := textBytes (toString n)

/-- The objects of one session's own copy (R338). -/
def State.readSession (s : State) (w : Session) (sub : Nat) : List Byte :=
  let x := s.net.sess[sessIx w]
  match sub with
  | 1 => leBytes 1 x.requested
  | 2 => x.nonce
  | 4 => leBytes 1 (rank x.role)
  | 5 => leBytes 4 x.idle
  | 6 => leBytes 4 x.failed.toNat
  | 7 => leBytes 1 (sessIx w).val
  | _ => []

/-- The bytes of an object that is no number. -/
def State.readText (s : State) (idx sub : Nat) : List Byte :=
  match idx, sub with
  | 0x1008, _ => textBytes "MB4800"
  | 0x1009, _ => textBytes "B"
  | 0x100A, _ => natText (bits s.upd.version 31 24) ++ textBytes "." ++ natText (bits s.upd.version 23 16)
  | 0x3A00, 0x0A => ((s.net.commit.order ++ List.replicate 13 0).take 13).flatMap (leBytes 1)
  | 0x3201, 4 => s.evr.win[1].words.flatMap (leBytes 4)
  | 0x2003, 6 =>
    let k := (s.upd.key[s.upd.keySel]?).getD []
    if k = [] then [] else (List.range 8).map (Config.sha384 k)
  | 0x3600, 1 => (s.meas.calStored.map CalSet.image).getD []
  | _, _ => []

/-- The bytes that a read answers. -/
def State.readBytes (s : State) (w : Session) (p : Fin 2) (r : ObjRow) (idx sub : Nat) : List Byte :=
  if idx = 0x2010 then s.readSession w sub
  else match r.type.size with
    | some n => leBytes n (s.readRaw p r idx sub)
    | none => s.readText idx sub

/-! ## The checks of a read (R336, R484) -/

/-- A read of an object through a session, of a port's copy: existence, direction, role, device state. -/
def State.dictRead (s : State) (w : Session) (p : Fin 2) (idx sub : Nat) : Answer :=
  match findObj idx sub with
  | none => .abort (if indexExists idx then 0x06090011 else 0x06020000)
  | some r =>
    if r.access = .wo then .abort 0x06010001
    else if idx = 0x3600 ∧ sub = 1 ∧ ¬ roleAllows (s.roleOf w) .engineer then .abort 0x08000102
    else if idx = 0x3600 ∧ sub = 1 ∧ s.meas.calStored.isNone then .abort 0x08000022
    else .data (s.readBytes w p r idx sub)

/-- The port whose copy of the per-port objects an access reaches: the session's own port, or for SPI the one that bit 7 of OP names (R361). -/
def copyPort (w : Session) (portB : Bool) : Fin 2 :=
  match w with
  | .canA => 0
  | .canB => 1
  | .spi => if portB then 1 else 0

/-- DICTIONARY_READ (R336, R337): the whole value of an object, or an abort. -/
def execDictionaryRead (w : Session) (idx sub : Nat) (portB : Bool) (s : State) : Out :=
  .next (s.access w idx fun s => s.answer w (s.dictRead w (copyPort w portB) idx sub))

end Sys2Proof.Machine
end

