-- ==== Sys2Proof/Machine/Write.lean ====
section
/-! DEFINITION. Writes of the object dictionary (R361, R362, R482, R484): every writable object's own effect, and the writes of objects without
a command of their own. -/

namespace Sys2Proof.Machine

/-! ## PDO mapping (R342, R362) -/

/-- Bytes of a port's PDO. -/
def State.pdoBytes (s : State) (p : Fin 2) : Nat := if s.classic p then 8 else 64

/-- Index, sub and bits of a mapping entry. -/
def entryIndex (e : Nat) : Nat := bits e 31 16
def entrySub (e : Nat) : Nat := bits e 15 8
def entryBits (e : Nat) : Nat := bits e 7 0

/-- The RPDO role (R342). -/
def State.rpdoRole (s : State) : Role := if s.raw 0x2020 7 = 2 then .engineer else .operator

/-- An entry may be mapped: an object of fixed size that the RPDO role may write without a commit, or for a TPDO one that can be read. -/
def State.mappable (s : State) (rx : Bool) (e : Nat) : Bool :=
  (findObj (entryIndex e) (entrySub e)).any fun r =>
    decide (r.type.size.map (8 * ·) = some (entryBits e)) &&
      (if rx then (decide (r.access = .rw) || decide (r.access = .rws) || decide (r.access = .wo)) && roleAllows s.rpdoRole r.role
       else decide (r.access ≠ .wo))

/-- The entries that a mapping object of a port holds, the first `n`. -/
def State.entries (s : State) (p : Fin 2) (idx n : Nat) : List Nat := (List.range n).map fun k => s.portRaw p idx (k + 1)

/-- A mapping object: RPDO's at 0x1600, TPDO's at 0x1A00. -/
def isMapping (idx : Nat) : Bool := (0x1600 ≤ idx ∧ idx ≤ 0x1603) ∨ (0x1A00 ≤ idx ∧ idx ≤ 0x1A03)

/-- The PDO of a mapping object is valid, so its mapping may not change; nor may an entry while the count is not 0 (CiA 301). -/
def State.mapLocked (s : State) (p : Fin 2) (idx sub : Nat) : Bool :=
  isMapping idx && (!bit (s.portRaw p (idx - 0x200) 1) 31 || (decide (sub ≠ 0) && decide (s.portRaw p idx 0 ≠ 0)))

/-- What makes a mapping value inadmissible: an entry that cannot be mapped, or a mapping longer than the frame. -/
def State.mapRefusal (s : State) (p : Fin 2) (idx sub v : Nat) : Option Nat :=
  let rx : Bool := idx < 0x1A00
  if ¬ isMapping idx then none
  else if sub ≠ 0 then (if s.mappable rx v then none else some 0x06040041)
  else
    let l := s.entries p idx v
    if ¬ l.all (s.mappable rx) then some 0x06040041
    else if 8 * s.pdoBytes p < (l.map entryBits).sum then some 0x06040042
    else none

/-- What a change of a per-port object starts anew: the heartbeat, or the timers of the TPDOs in operational. -/
def State.portChanged (p : Fin 2) (idx : Nat) (s : State) : State :=
  if idx = 0x1017 then (if s.net.port[p].nmt = .off then s else s.startHeartbeat p)
  else if 0x1800 ≤ idx ∧ s.net.port[p].nmt = .operational then s.startTpdos p
  else s

/-- The key of a port's copy of an object in a configuration frame: port B's has bit 24 set (log entry 20). -/
def portKey (p : Fin 2) (idx sub : Nat) : Nat := objKey idx sub + 2 ^ 24 * p.val

/-- The write of an object kept once per port (R361, R362), forwarded by the active chip of a pair (R351, R391). -/
def objPort (p : Fin 2) (idx sub : Nat) : ObjWrite where
  busy := fun s _ => refuseIf (s.mapLocked p idx sub)
  invalid := fun s d => s.mapRefusal p idx sub (leValue d)
  effect := fun _ d s =>
    let s := ((s.modPort p fun x => { x with objs := putKey (objKey idx sub) (leValue d) x.objs }).portChanged p idx).rehash
    if s.twin.st = .activePaired then s.launch (.write (portKey p idx sub) (leValue d)) else s

/-! ## The error field (R482) -/

/-- Empties 0x1003 and sends the clearing EMCY; the change of 0x1001 sends TPDO3 (R362, R482). -/
def State.errorsClear (s : State) : State :=
  let s := if s.net.errs = [] then s else s.registerChanged
  let port := s.net.port.map fun p =>
    if p.nmt = .operational ∧ p.emcy.length < 16 then { p with emcy := p.emcy ++ [⟨0, 0, 0, 0⟩] } else p
  { s with net.errs := [], net.port := port }

/-- The write of 0x1003:00. -/
def objErrors : ObjWrite where
  effect := fun _ _ s => s.errorsClear

/-- ERROR_FIELD_CLEAR (R482): 0 written to 0x1003:00. -/
def execErrorFieldClear (w : Session) (s : State) : Out := .next (s.writeBy w 0x1003 0 [0] objErrors)

/-! ## Every object's write -/

/-- A write of an object that only holds its value: rws and rw objects, and rwc objects through the shadow. -/
def plainWrite (idx sub : Nat) : ObjWrite :=
  match (findObj idx sub).map ObjRow.access with
  | some .rws => rwsWrite idx sub fun _ s => s
  | some .rwc => objShadow idx sub
  | some .rw => { effect := fun _ d s => s.setRw idx sub (leValue d) }
  | _ => { effect := fun _ _ s => s }

/-- Objects of one index with an effect of their own. -/
def singleWrite (w : Option Session) (role : Role) (idx sub : Nat) : Option ObjWrite :=
  match idx, sub with
  | 0x1003, 0 => some objErrors
  | 0x1010, k => some (objStore k w)
  | 0x1011, k => some (objRestore k)
  | 0x2002, 2 => some objTarget
  | 0x2002, 3 => some (objLifecycle w)
  | 0x2003, 1 => some objKeySlot
  | 0x2003, 2 => some (objKeyWrite w)
  | 0x2003, 5 => some objRevoke
  | 0x2010, 1 => some (objRole w)
  | 0x2010, 3 => some (objResponse w)
  | 0x2010, 5 => some (objIdle w)
  | 0x2102, 2 => some objTimeAtPps
  | 0x2103, 0x0A => some objModelReset
  | 0x2600, 2 => some objClearFetShort
  | 0x2600, 3 => some objSoftwareQuench
  | 0x2600, 4 => some objQuenchRelease
  | 0x2800, 5 => some objClearStringLatch
  | 0x2A00, 1 => some objSystemOn
  | 0x2E00, 2 => some objBusReference
  | 0x2E00, 0x0F => some objShelfOff
  | 0x2E02, 2 => some objSiteCap
  | 0x2E41, 4 => some objSlowAccess
  | 0x3000, 6 => some objHandover
  | 0x3000, 7 => some objPush
  | 0x3000, 8 => some objResetStandby
  | 0x3000, 0x0F => some objTolerance
  | 0x3010, 6 => some objPromote
  | 0x3200, 5 => some objRecorderClear
  | 0x3200, 7 => some objManualTrigger
  | 0x3201, 1 => some objCursor
  | 0x3201, 2 => some objHalf
  | 0x3400, 2 => some objChunk
  | 0x3400, 4 => some objStaging
  | 0x3400, 5 => some objActivate
  | 0x3400, 6 => some objCommitTrial
  | 0x3400, 7 => some objRevertTrial
  | 0x3400, 8 => some objLive
  | 0x3600, 1 => some (objCalImport role)
  | 0x3600, 3 => some objWriteCal
  | 0x3620, 3 => some (objCapture w)
  | 0x3A00, 1 => some (objCommit w)
  | 0x5F20, 2 => some objResetRequest
  | 0x5F20, 3 => some objBlockReset
  | 0x5F20, 7 => some objTrimAck
  | _, _ => none

/-- Objects of the banks with an effect of their own: setpoints, capacity resets, group and rail commands. -/
def bankWrite (idx sub : Nat) : Option ObjWrite :=
  if h : 0x2410 ≤ idx ∧ idx < 0x2418 ∧ sub = 3 then some (objSetpoint ⟨idx - 0x2410, by omega⟩)
  else if h : 0x2810 ≤ idx ∧ idx < 0x2814 ∧ sub = 0x0F then some (objCapacityReset ⟨idx - 0x2810, by omega⟩)
  else if h : idx = 0x2A01 ∧ 1 ≤ sub ∧ sub ≤ 8 then some (objGroupCommand ⟨sub - 1, by omega⟩)
  else if h : 0x2A10 ≤ idx ∧ idx < 0x2A30 ∧ sub = 0x15 then some (objRailCommand ⟨idx - 0x2A10, by omega⟩)
  else none

/-- An object's write: its own, the port's copy's, or a plain one. -/
def ownWrite (p : Fin 2) (w : Option Session) (role : Role) (idx sub : Nat) : ObjWrite :=
  if perPort idx then objPort p idx sub
  else (singleWrite w role idx sub <|> bankWrite idx sub).getD (plainWrite idx sub)

/-- A session's write of any object. -/
def State.dictWrite (w : Session) (p : Fin 2) (idx sub : Nat) (d : List Byte) (s : State) : State :=
  s.writeBy w idx sub d (ownWrite p (some w) (s.roleOf w) idx sub)

/-- DICTIONARY_WRITE (R484, R361): any writable object, so also those without a command of their own. -/
def execDictionaryWrite (w : Session) (idx sub : Nat) (portB : Bool) (d : List Byte) (s : State) : Out :=
  .next (s.dictWrite w (copyPort w portB) idx sub d)

/-- A write that acts without a session: an RPDO's, with the RPDO role, or one forwarded by the active chip, which has been checked there. -/
def State.writeForwarded (key raw : Nat) (s : State) : State :=
  let idx := keyIndex (key % 2 ^ 24)
  let sub := keySub key
  match (findObj idx sub).bind fun r => r.type.size with
  | some n => (ownWrite (if bit key 24 then 1 else 0) none .vendor idx sub).effect none (leBytes n raw) s
  | none => s

end Sys2Proof.Machine
end

