-- ==== Sys2Proof/Machine/Frame.lean ====
section
/-! DEFINITION. The shelf frame's own instants (R38): the boundary, the snapshot with the trigger evaluation of the recorder, and the
launch of the frames to the twin. -/

namespace Sys2Proof.Machine

/-! ## The boundary (R38 step 1) -/

/-- A step of the time of day that waits is made: whole frames, recorded and counted (R92). -/
def State.stepTime (s : State) : State :=
  let d := s.tb.stepPending
  if d = 0 then s
  else
    ({ s.todShift d with tb.steps := bump s.tb.steps, tb.stepPending := 0 } : State).raise 0x0108 noInst
      [toReal32 ((d : Rat) / 1000000000)]

/-- An allocation received applies at the boundary (R404). -/
def State.takeAlloc (s : State) : State :=
  match s.casc.allocNext with
  | some a => { s with casc.alloc := a, casc.allocNext := none, casc.allocAt := s.tb.tod }
  | none => s

/-- The downlink of the frame begins on each enabled port of a chip that drives its shared outputs (R42, R208, R209). The first frame after
the link starts has no frozen buffer and carries no slow message. -/
def State.beginDownlink (s : State) : State :=
  let x := s.shelf.buffer.getD (s.downlinkNow [0, 0, 0, 0])
  if s.linkRuns ∧ s.drives then
    { s with
      shelf.buffer := none, shelf.sent := some x, pins.slDriver := s.linkPorts, shelf.shelfOff := bit x.gcmd 0
      shelf.frames := Vector.ofFn fun p : Fin 2 => if s.linkPorts.getLsbD p then bump s.shelf.frames[p] else s.shelf.frames[p] }
  else { s with shelf.buffer := none, shelf.sent := none }

/-- The lanes that the frame boundary triggers (R38, R148). -/
def State.frameLanes (s : State) : List (Fin 12) := (List.finRange 12).filter fun n => s.triggerKind n = 2

/-- A shelf-frame boundary falls now: at each multiple of 25 000 ns of the time of day, which is every 5000 cycles, once (R98). -/
def State.atBoundary (s : State) : Bool := s.tbRuns ∧ s.frameTime = 0 ∧ s.tb.frameAt ≠ some s.now

/-- SHELF_FRAME_BOUNDARY (R38 step 1): the downlink, the boundary-timed changes, and the triggers of LN08 and LN09. -/
def execShelfFrameBoundary (s : State) : Out :=
  .next (if ¬ s.up ∨ ¬ s.atBoundary then s
    else
      let s := ({ s with tb.frameAt := some s.now } : State).beginDownlink
      let s : State := { s with shelf.seq := s.shelf.seq + 1, shelf.slotOk := 0, shelf.slotBad := 0 }
      let s := s.stepTime.takeAlloc.senseChoose.senseCount.refStep.placeEdges
      State.each s.frameLanes State.takeTrigger s)

/-! ## Trigger evaluation (R445, R446) -/

/-- An object as the snapshot latches it: its type and its raw value. -/
def State.latched (s : State) (sel : Nat) : Option (ObjType × Nat) :=
  (findObj (sel / 65536) (sel / 256 % 256)).map fun r => (r.type, leValue (s.readBytes .spi 0 r (sel / 65536) (sel / 256 % 256)))

/-- The words that a listed object takes in a record (R446). -/
def latchWords : ObjType × Nat → List Nat
  | (.u64, v) => [v % 2 ^ 32, v / 2 ^ 32]
  | (.i16, v) => [v % 2 ^ 15 + (if bit v 15 then 0xFFFF8000 else 0)]
  | (_, v) => [v]

/-- A list's words in this snapshot. -/
def State.listWords (s : State) (l : Nat) : List Nat := (s.cfg.selectors l).flatMap fun sel => ((s.latched sel).map latchWords).getD []

/-- A source's value as a number; none for a REAL32 that is not finite. -/
def latchRat : ObjType × Nat → Option Rat
  | (.real, v) => real32 v
  | (.i16, v) => some (signed 16 v : Rat)
  | (_, v) => some (v : Rat)

/-- The source of a trigger in this snapshot. -/
def State.trigSource (s : State) (t : Fin 64) : Option (ObjType × Nat) := s.latched (s.raw 0x3211 (t + 1))

/-- A trigger of kinds 2 to 6 fires on a snapshot (R445). -/
def State.trigFires (s : State) (t : Fin 64) : Bool :=
  let x := s.trigSource t
  let v := x.bind latchRat
  let lim := s.real 0x3212 (t + 1)
  let was := s.evr.trig[t].prev
  match s.raw 0x3210 (t + 1) with
  | 2 => v.any fun v => lim < v
  | 3 => v.any fun v => v < lim
  | 4 => v.any (fun v => lim < v) && was.any fun w => w ≤ lim
  | 5 => v.any (fun v => v < lim) && was.any fun w => lim ≤ w
  | 6 => x.any fun x => Nat.land x.2 (s.raw 0x3213 (t + 1)) ≠ 0
  | _ => false

/-- A trigger's record of this snapshot (R442, R446). -/
def State.trigRecord (s : State) (t : Fin 64) : Record := { s.mkRecord 2 0 noInst (s.listWords (s.raw 0x3214 (t + 1))) with trigger := t.val }

/-- What a trigger still has to take after this frame, and whether it takes a record now: the first one after a firing, then one at every
spacing-th frame (R445). -/
def Trigger.next (count spacing : Nat) (x : Trigger) : Bool × Trigger :=
  let left := fun (m : Nat) => if m = 0 then none else some (m, spacing)
  match x.taking with
  | some (m, k) => if k ≤ 1 then (true, { x with taking := left (m - 1) }) else (false, { x with taking := some (m, k - 1) })
  | none => if x.armed then (true, { x with armed := false, taking := left (count - 1) }) else (false, x)

/-- One trigger at the evaluation: its record, and its source kept for the next snapshot. -/
def State.evalTrigger (t : Fin 64) (s : State) : State :=
  let r := (s.evr.trig[t]).next (s.raw 0x3215 (t + 1)) (s.raw 0x3216 (t + 1))
  let v := if kindHasSource (s.raw 0x3210 (t + 1)) then (s.trigSource t).bind latchRat else none
  let s := if r.1 then s.queueRecord (s.trigRecord t) else s
  s.modTrig t fun _ => { r.2 with prev := v }

/-- The evaluation of the triggers, in ascending number (R38 step 10, R443, R445). -/
def State.evalTriggers (s : State) : State :=
  State.each ((List.finRange 64).filter fun t : Fin 64 => s.raw 0x3210 (t + 1) ≠ 0) State.evalTrigger (s.fireTriggers fun t => s.trigFires t)

/-! ## The frames to the twin (R386, R387) -/

/-- Phases of a loop by a test of their state. -/
def State.phasesIn (s : State) (l : Fin 8) (f : PhaseState → Bool) : BitVec 32 := maskOf 32 fun i : Fin 32 => s.inMask l i && f s.phase[i].st

/-- The mirror frame of a snapshot (R386). -/
def State.mirrorNow (s : State) : MirrorFrame where
  seq := s.shelf.seq.toNat
  tod := s.tb.tod
  shelf := s.shelfStatus
  lanes := s.snap.map Lane.record
  fcuy := (s.shelf.ff, s.shelf.c, s.shelf.u, s.shelf.y8)
  stage := s.shelf.stageNo
  recs := s.shelf.rects.map fun r => (r.st, r.toggle)
  vSet := s.loop.map Loop.vSet

/-- The state frame of a snapshot (R387). -/
def State.stateNow (s : State) : StateFrame where
  seq := s.shelf.seq.toNat
  seqSt := s.seq.st
  groups := s.seq.groupsDown
  rails := s.seq.rail.map fun r => (r.st, r.pg, r.inputLossOff, r.groupOff, r.withheld, r.retries)
  order := s.seq.order
  br := s.dist.br.map fun b => (b.st, b.retries)
  feeds := s.dist.feed.map FeedPair.sel
  strs := s.dist.str
  pg := s.pins.pg
  quench := s.dist.quench
  loops := Vector.ofFn fun l : Fin 8 =>
    (s.loop[l].trim, s.loop[l].ceiling, s.phasesIn l phaseOn, s.phasesIn l fun x => decide (x = .removedOpen ∨ x = .removedSense))
  f := s.thm.f
  capShed := s.shelf.capShed
  capOverride := s.shelf.capOverride

/-! ## The snapshot (R38 steps 7, 8 and 10, R40) -/

/-- Latches the snapshot: the lanes' last completed samples, and on the active chip its two frames. -/
def State.latch (s : State) : State :=
  let s : State := { s with snap := s.lane, lane := s.lane.map fun x => { x with fresh := false } }
  { s with twin.outgoing := if s.active then some (s.mirrorNow, s.stateNow) else none }

/-- STATE_SNAPSHOT (R40): the snapshot, the triggers evaluated against it, and the demand assembly. -/
def execStateSnapshot (s : State) : Out := .next (if s.up ∧ s.tbRuns ∧ s.frameTime = 21000 then s.latch.evalTriggers.demandAssembly else s)

/-! ## The launch at 21.2 µs (R385) -/

/-- The active chip launches its two frames; a launch that does not happen is counted for R393. -/
def State.launchMirror (ok : Bool) (s : State) : State :=
  match s.twin.outgoing with
  | some (m, f) =>
    let s : State := { s with twin.outgoing := none }
    if ok ∧ ¬ s.blkHeld 8 then ({ (s.launch (.mirror m)).launch (.state f) with twin.missed := 0 } : State)
    else { s with twin.missed := if s.twin.st = .activePaired then satInc 2 s.twin.missed else 0 }
  | none => s

/-- MIRROR_LAUNCH (R385): `ok` says that the active chip's launch happens. -/
def execMirrorLaunch (ok : Bool) (s : State) : Out :=
  .next (if ¬ s.up ∨ ¬ s.tbRuns ∨ s.frameTime ≠ 21200 then s
    else if s.active then s.launchMirror ok
    else if s.standby ∧ ¬ s.blkHeld 8 then s.launch (.heartbeat s.twin.lastSeq (twinCode s.twin.st) s.net.commit.hash)
    else s)

end Sys2Proof.Machine
end

