-- ==== Sys2Proof/Machine/Pmbus.lean ====
section
/-! DEFINITION. The PMBus host ports (R82, R371 to R374). -/

namespace Sys2Proof.Machine

/-- The port of a device (R375). -/
def State.pmPort (s : State) (d : Fin 32) : Fin 2 := if bit (s.raw 0x2041 (d + 1)) 8 then 1 else 0

/-- Address of a device. -/
def State.pmAddress (s : State) (d : Fin 32) : Nat := bits (s.raw 0x2041 (d + 1)) 6 0

/-- A port polls: on a solo chip or the active chip of a pair, out of its own reset (R371, R419). -/
def State.pmPortRuns (s : State) (p : Fin 2) : Bool := s.up && s.speaks && !s.blkHeld (5 + p)

/-- A device is polled. -/
def State.pmRuns (s : State) (d : Fin 32) : Bool := bit (s.raw 0x2041 (d + 1)) 15 && s.pmPortRuns (s.pmPort d)

/-- A LINEAR11 value (R372). -/
def linear11 (v : Nat) : Rat := (signed 11 (bits v 10 0) : Rat) * pow2 (signed 5 (bits v 15 11))

/-- READ_VOUT: the unsigned mantissa by VOUT_MODE's exponent, not a number in any other mode (R372). -/
def voutValue (mode : Option Nat) (v : Nat) : Option Rat :=
  mode.bind fun m => if bits m 7 5 = 0 then some ((bits v 15 0 : Nat) * pow2 (signed 5 (bits m 4 0))) else none

/-- A reading of quantity `k` (VIN, VOUT, IOUT, temperature, PIN, POUT); a legacy rectifier's output voltage is the bus, which is negative
(R6, R371). -/
def pmValue (role : Nat) (mode : Option Nat) (k : Nat) (v : Nat) : Option Rat :=
  if k = 1 then (voutValue mode v).map fun q => if role = 1 then -q else q else some (linear11 v)

/-- The quantity that command `k` of a poll reads, as the device now shows it. -/
def PmDev.setTele (k : Nat) (q : Option Rat) (x : PmDev) : PmDev :=
  if h : k < 6 then { x with tele := x.tele.set k q } else x

/-- A command that the device refuses reads NaN until the next discovery (R372). -/
def PmDev.refuse (k : Fin 7) (x : PmDev) : PmDev :=
  let y := { x with refused := x.refused ||| BitVec.ofNat 7 (2 ^ k.val) }
  if k.val = 0 then y else y.setTele (k.val - 1) none

/-- One word of a poll: command 0 is STATUS_WORD. A reading with a wrong PEC is discarded and counted (R374). -/
def State.pmTake (d : Fin 32) (k : Fin 7) (w : PmWord) (s : State) : State :=
  let x := s.net.pm[d]
  if x.refused.getLsbD k then s
  else match w with
  | .refused => s.modPm d (PmDev.refuse k)
  | .word v pec =>
    if s.flag 0x2040 4 ∧ ¬ pec then (s.modPm d fun x => { x with pecErrors := bump x.pecErrors }).raiseLimited 0x0D10 d []
    else if k.val = 0 then s.modPm d fun x => { x with status := v % 65536 }
    else s.modPm d (PmDev.setTele (k.val - 1) (pmValue (s.raw 0x2042 (d + 1)) x.voutMode (k.val - 1) v))

/-- PMBUS_DISCOVERY (R371, R372): VOUT_MODE is read, and a legacy rectifier gets VOUT_COMMAND. -/
def execPmbusDiscovery (d : Fin 32) (mode : Option Byte) (s : State) : Out :=
  .next (if ¬ s.pmRuns d ∨ s.net.pm[d].discovered then s
    else s.modPm d fun x => { x with
      discovered := true, st := 2, nacks := 0, refused := 0, voutMode := mode.map BitVec.toNat
      voutCmd := if s.raw 0x2042 (d + 1) = 1 then some (absR (s.real 0x2E10 3)) else x.voutCmd })

/-- A device holds the clock of its transaction low: it may do so for 25 ms (R82). -/
def State.pmHold (d : Fin 32) (s : State) : State :=
  let p := s.pmPort d
  if s.net.pmXfer[p].isSome then s
  else { s.arm (.pmStretch p) 25000000 with
    net.pmXfer := s.net.pmXfer.set p (some d), pins.pmbusReleased := s.pins.pmbusReleased &&& ~~~ BitVec.ofNat 2 (2 ^ p.val) }

/-- PMBUS_POLL (R372, R374): an acknowledged poll of a device that is not discovered only shows that it is there. Transactions on a port run one
at a time: none begins while another stretches the clock (R82). -/
def execPmbusPoll (d : Fin 32) (r : PmPoll) (s : State) : Out :=
  let x := s.net.pmXfer[s.pmPort d]
  .next (if ¬ s.pmRuns d ∨ (x.isSome ∧ x ≠ some d) then s
    else
      let s := if r = .stretched then s else s.pmLet (s.pmPort d)
      match r with
    | .stretched => s.pmHold d
    | .stuck => s.raise 0x0D12 (s.pmPort d) []
    | .noAck => s.modPm d fun x => { x with nacks := satInc 3 x.nacks }
    | .words w =>
      let s := s.modPm d fun x => { x with nacks := 0 }
      if ¬ s.net.pm[d].discovered then s
      else State.each (List.finRange 7) (fun k => State.pmTake d k w[k]) (s.modPm d fun x => { x with st := 2 }))

/-- PMBUS_DEVICE_LOST (R374): absent after three polls without acknowledgement. -/
def execPmbusDeviceLost (d : Fin 32) (s : State) : Out :=
  .next (if s.pmRuns d ∧ 3 ≤ s.net.pm[d].nacks ∧ s.net.pm[d].st ≠ 1 then
      (s.modPm d fun x => { x with st := 1, discovered := false }).raise 0x0D0F d []
    else s)

/-- PMBUS_ALERT (R374): ALERT_N of a port is low; the device that answered the Alert Response Address and its STATUS_WORD, none where no
device answers (its record then holds the address 0xFF alone, log entry 50). -/
def execPmbusAlert (p : Fin 2) (r : Option (Nat × Nat)) (s : State) : Out :=
  .next (if ¬ s.pmPortRuns p then s
    else match r with
    | none => s.raise 0x0D11 p [0xFF]
    | some (a, v) =>
      let s := State.each (List.finRange 32) (fun d => fun s =>
        if s.pmRuns d ∧ s.pmPort d = p ∧ s.pmAddress d = a ∧ s.net.pm[d].st ≠ 1 then s.modPm d fun x => { x with st := 3, status := v % 65536 } else s) s
      s.raise 0x0D11 p [a, v])

/-- CLOCK_STRETCH_TIMEOUT (R82): after 25 ms the transfer is abandoned and both lines of the port are released. -/
def execClockStretchTimeout (p : Fin 2) (s : State) : Out :=
  .next (if s.net.pmXfer[p].isSome ∧ s.due (.pmStretch p) then s.pmLet p else s)

end Sys2Proof.Machine
end

