-- ==== Sys2Proof/Machine/Ports.lean ====
section
/-! DEFINITION. The CAN ports' commands and events: NMT (R359, R360), PDOs (R342, R362), segmented SDO (R356), the error field and EMCY (R363, R481,
R482), heartbeats (R361, R364) and bus-off (R365). -/

namespace Sys2Proof.Machine

/-- A port's CANopen node runs: it has been started, is on the bus and out of its own reset. -/
def State.portLive (s : State) (p : Fin 2) : Bool :=
  s.up && decide (s.net.port[p].nmt ≠ .off) && !s.net.port[p].busOff && !s.blkHeld (3 + p)

/-- PDOs run: the node is operational (R359). -/
def State.pdosRun (s : State) (p : Fin 2) : Bool := s.portLive p && decide (s.net.port[p].nmt = .operational)

/-! ## NMT (R359, R360) -/

/-- NMT_START (R359). -/
def execNmtStart (p : Fin 2) (s : State) : Out :=
  .next (if s.portLive p ∧ s.net.port[p].nmt ≠ .operational then s.portOperational p else s)

/-- NMT_STOP (R359). -/
def execNmtStop (p : Fin 2) (s : State) : Out := .next (if s.portLive p then s.portTo p .stopped else s)

/-- NMT_ENTER_PRE_OPERATIONAL (R359). -/
def execNmtEnterPreOperational (p : Fin 2) (s : State) : Out := .next (if s.portLive p then s.portTo p .preOperational else s)

/-- The port's communication area as stored, or its defaults (R360). -/
def State.storedObjs (s : State) (p : Fin 2) : List (Nat × Nat) := (s.net.newestCopy.map fun c : CfgCopy => c.port[p]).getD []

/-- A reset of the port's CANopen layer (R358, R360). -/
def State.nmtReset (p : Fin 2) (s : State) : State :=
  let s := s.endSession (portSession p) false
  (s.modPort p fun x => { x with objs := s.storedObjs p, node := s.nodeSetting p }).bootUp p

/-- NMT_RESET_APPLICATION (R360). -/
def execNmtResetApplication (p : Fin 2) (s : State) : Out := .next (if s.portLive p then s.nmtReset p else s)

/-- NMT_RESET_COMMUNICATION (R360). -/
def execNmtResetCommunication (p : Fin 2) (s : State) : Out := .next (if s.portLive p then s.nmtReset p else s)

/-! ## PDOs (R342, R362) -/

/-- The entries that a PDO maps. -/
def State.mapped (s : State) (p : Fin 2) (idx : Nat) : List Nat := s.entries p idx (s.portRaw p idx 0)

/-- Writes the mapped objects from a PDO's bytes, one after another, with the RPDO role; a write that is refused has no effect. -/
def State.rpdoWrites (p : Fin 2) : List Nat → List Byte → State → State
  | [], _, s => s
  | e :: l, d, s =>
    let n := entryBits e / 8
    let o := ownWrite p none s.rpdoRole (entryIndex e) (entrySub e)
    State.rpdoWrites p l (d.drop n) (s.writeAs none s.rpdoRole (entryIndex e) (entrySub e) (d.take n) o).2

/-- RPDO_RECEIVED (R342): RPDO `n` + 1 of a port; one that is shorter than its mapping is not taken (log entry 49). -/
def execRpdoReceived (p : Fin 2) (n : Fin 4) (d : List Byte) (s : State) : Out :=
  .next (
    let l := s.mapped p (0x1600 + n)
    if ¬ s.pdosRun p ∨ bit (s.portRaw p (0x1400 + n) 1) 31 ∨ 8 * d.length < (l.map entryBits).sum then s
    else s.rpdoWrites p l d)

/-- The bytes of a TPDO: its mapped objects' values. -/
def State.pdoData (s : State) (p : Fin 2) (l : List Nat) : List Byte :=
  l.flatMap fun e =>
    match findObj (entryIndex e) (entrySub e) with
    | some r => s.readBytes (portSession p) p r (entryIndex e) (entrySub e)
    | none => []

/-- TPDO_EVENT (R362): the event timer of TPDO `n` + 1, or for TPDO3 a change of 0x1001. -/
def execTpdoEvent (p : Fin 2) (n : Fin 4) (s : State) : Out :=
  .next (if ¬ s.due (.tpdo p n) then s
    else
      let s := s.disarm (.tpdo p n)
      if ¬ s.pdosRun p ∨ ¬ s.tpdoOn p n then s
      else
        let s := s.modPort p fun x => { x with tpdo := some (n + 1, s.pdoData p (s.mapped p (0x1A00 + n))) }
        if s.tpdoTime p n = 0 then s else s.arm (.tpdo p n) (s.tpdoTime p n))

/-! ## Segmented SDO (R356) -/

/-- Sets the transfer of a port's session. -/
def State.sdoTransfer (p : Fin 2) (x : Option Transfer) (s : State) : State :=
  let w := sessIx (portSession p)
  let s := s.modSess w fun y => { y with transfer := x }
  if x.isSome then s.arm (.segment w) 1000000000 else s.disarm (.segment w)

/-- A segmented read begins: the checks of the read, and the whole value. -/
def State.sdoBeginRead (p : Fin 2) (idx sub : Nat) (s : State) : State :=
  match s.dictRead (portSession p) p idx sub with
  | .data d => (s.sdoTransfer p (some { write := false, key := objKey idx sub, bytes := d })).answer (portSession p) .done
  | a => s.answer (portSession p) a

/-- A segment of the transfer in progress: `n` bytes of a read, or data of a write, whose last segment writes the object. -/
def State.sdoStep (p : Fin 2) (t : Transfer) (x : SdoStep) (s : State) : State :=
  let w := portSession p
  match x, t.write with
  | .read n, false =>
    let e := t.offset + n
    (s.sdoTransfer p (if t.bytes.length ≤ e then none else some { t with offset := e })).answer w (.data ((t.bytes.drop t.offset).take n))
  | .write d last, true =>
    let b := t.bytes ++ d
    if last then (s.sdoTransfer p none).dictWrite w p (keyIndex t.key) (keySub t.key) b
    else (s.sdoTransfer p (some { t with bytes := b, offset := b.length })).answer w .done
  | _, _ => s

/-- SDO_SEGMENT (R356): a segmented transfer begins or goes on. -/
def execSdoSegment (p : Fin 2) (x : SdoStep) (s : State) : Out :=
  let w := portSession p
  .next (match x, s.net.sess[sessIx w].transfer with
    | .beginRead idx sub, _ => s.access w idx (State.sdoBeginRead p idx sub)
    | .beginWrite idx sub, _ => s.access w idx fun s => (s.sdoTransfer p (some { write := true, key := objKey idx sub })).answer w .done
    | x, some t => s.access w (keyIndex t.key) (State.sdoStep p t x)
    | _, none => s)

/-- SDO_TIMEOUT (R356). -/
def execSdoTimeout (p : Fin 2) (s : State) : Out :=
  let w := portSession p
  .next (if s.due (.segment (sessIx w)) ∧ s.net.sess[sessIx w].transfer.isSome then
      (s.sdoTransfer p none).answer w (.abort 0x05040000)
    else s)

/-! ## The error field and EMCY (R363, R481) -/

/-- ERROR_FIELD_BATCH (R481): the batch's microsecond of the time of day is over. -/
def execErrorFieldBatch (s : State) : Out :=
  .next (if s.net.batch ≠ [] ∧ s.tb.tod / 1000 ≠ s.net.batchAt then s.flushBatch else s)

/-- The inhibit time of 0x1015 in ns; its unit is 100 µs. -/
def State.inhibit (s : State) (p : Fin 2) : Nat := 100000 * s.portRaw p 0x1015 0

/-- EMCY_TRANSMIT (R481): the oldest pending EMCY leaves, spaced by the inhibit time. -/
def execEmcyTransmit (p : Fin 2) (s : State) : Out :=
  .next (match s.pdosRun p && (!s.running (.emcy p) || s.due (.emcy p)), s.net.port[p].emcy with
    | true, e :: l => (s.modPort p fun x => { x with emcy := l, sentEmcy := some e }).arm (.emcy p) (s.inhibit p)
    | _, _ => s)

/-! ## Heartbeats (R361, R364) -/

/-- HEARTBEAT_PRODUCE (R361). -/
def execHeartbeatProduce (p : Fin 2) (s : State) : Out :=
  .next (if s.due (.heartbeat p) ∧ s.portLive p then (s.modPort p fun x => { x with heartbeats := bump x.heartbeats }).startHeartbeat p else s)

/-- HEARTBEAT_LOST (R364): no heartbeat of the producer that 0x1016 names for its time. -/
def execHeartbeatLost (p : Fin 2) (n : Fin 4) (s : State) : Out :=
  let v := s.portRaw p 0x1016 (n + 1)
  .next (if s.portLive p ∧ bits v 15 0 ≠ 0 ∧ bits v 22 16 ≠ 0 then s.raise 0x0D0C noInst [bits v 22 16] else s)

/-! ## Bus-off (R365) -/

/-- CAN_BUS_OFF (R365). -/
def execCanBusOff (p : Fin 2) (s : State) : Out :=
  .next (if ¬ s.portLive p then s
    else
      let s := (s.raise 0x0D0D p []).endSession (portSession p) false
      ((s.stopTpdos p).disarm (.heartbeat p)).modPort p fun x => { x with busOff := true })

/-- BUS_OFF_RECOVERY (R365): after 128 occurrences of 11 recessive bits. -/
def execBusOffRecovery (p : Fin 2) (s : State) : Out :=
  .next (if s.up ∧ s.net.port[p].busOff then (s.modPort p fun x => { x with busOff := false }).bootUp p else s)

end Sys2Proof.Machine
end

