-- ==== Sys2Proof/Machine/Registers.lean ====
section
/-! DEFINITION. The host's registers and its memory map (R13, R36, R37), and the frames of the SPI host port (R366 to R368). -/

namespace Sys2Proof.Machine

/-! ## Register values -/

/-- SYS (R55, R64, R75, R424, R425, R449): the register at an offset. -/
def State.sysWord (s : State) (off : Nat) : Option Nat :=
  let m := s.mem
  match off with
  | 0x000 => some s.rst.causeWord
  | 0x004 => some 0
  | 0x008 => some 0
  | 0x00C => some (s.rst.blkLast + 2 ^ 8 * ofBool (decide (s.rst.blk ≠ [])) + 2 ^ 9 * ofBool s.rst.blkForced)
  | 0x010 => some s.trimWord
  | 0x014 => some s.resetCounts
  | 0x040 => some s.strapWord
  | 0x044 => some s.holdWords.1
  | 0x048 => some s.holdWords.2
  | 0x050 => some s.supplyWord
  | 0x060 => some (min m.mainCorr 0xFFFF + 2 ^ 16 * min m.queueCorr 0xFFFF)
  | 0x064 => some (min m.mainUnc 0xFFFF + 2 ^ 16 * min m.queueUnc 0xFFFF)
  | 0x068 => some m.eccAddr
  | 0x06C => some m.eccInfo
  | _ => none

/-- LCK (R332), but for LCK_LOCKn, whose read acquires. -/
def State.lockWord (s : State) (off : Nat) : Option Nat :=
  if 0x100 ≤ off ∧ off < 0x200 then (s.eng.lock[(off - 0x100) / 4]?).map fun l => 2 ^ 8 * l.owner + 2 ^ 16 * l.epoch
  else match off with
  | 0x200 => some (s.eng.arm[0].toNat % 2 ^ 32)
  | 0x204 => some (s.eng.arm[0].toNat / 2 ^ 32)
  | 0x208 => some s.eng.foreign.toNat
  | _ => none

/-- MBX_QSTATq (R331). -/
def queueWord (x : Queue) : Nat :=
  maskNat 16 (fun k => decide (x.slot[k].state = 1)) + 2 ^ 16 * x.ptr.val + 2 ^ 20 * ofBool (decide (x.slot[x.ptr].state = 1))
    + 2 ^ 21 * ofBool x.bumped

/-- MBX_ACKn (R331): the flags compare the stamped epochs with those of now. -/
def State.ackWord (s : State) (q : Nat) (x : MsgSlot) : Nat :=
  x.code + 2 ^ 8 * x.state + 2 ^ 10 * ofBool (decide (x.repoch ≠ (s.epochOf (s.receiver q)).toNat))
    + 2 ^ 11 * ofBool (decide (x.sepoch ≠ (s.epochOf (s.sender q)).toNat)) + 2 ^ 16 * x.seq

/-- A word of four bytes, the first least significant. -/
def fourBytes (a b c d : Nat) : Nat := a + 2 ^ 8 * b + 2 ^ 16 * c + 2 ^ 24 * d

/-- MBX (R331). -/
def State.mbxWord (s : State) (off : Nat) : Option Nat :=
  let e := s.eng
  let ep := fun i : Fin 11 => e.epoch[i].toNat
  if 0x104 ≤ off ∧ off < 0x13C then (e.txData[(off - 0x104) / 4]?).map BitVec.toNat
  else if 0x200 ≤ off ∧ off < 0x280 then (e.queue[(off - 0x200) / 4]?).map queueWord
  else if 0x400 ≤ off ∧ off < 0xC00 then
    (e.queue[(off - 0x400) / 64]?).bind fun x => (x.slot[(off - 0x400) % 64 / 4]?).map (s.ackWord ((off - 0x400) / 64))
  else match off with
  | 0x000 => some (ofBits [e.service, e.fullIrq] + 2 ^ 8)
  | 0x004 => some e.db[0].toNat
  | 0x008 => some e.dbMask[0].toNat
  | 0x00C => some (fourBytes (ep 1) (ep 2) (ep 3) (ep 4))
  | 0x010 => some (fourBytes (ep 5) (ep 6) (ep 7) (ep 8))
  | 0x014 => some (fourBytes (ep 0) (ep 9) (ep 10) 0)
  | 0x018 => some e.orphans.toNat
  | 0x100 => some (e.txLen + 2 ^ 8 * e.txQueue)
  | 0x13C => some 0
  | 0x140 => some (e.postResult + 2 ^ 4 * e.postSlot + 2 ^ 8 * e.postReason + 2 ^ 16 * e.postSeq)
  | _ => none

/-- EVR (R451). -/
def State.evrWord (s : State) (off : Nat) : Option Nat :=
  let w := s.evr.win[0]
  if 0x100 ≤ off ∧ off < 0x200 then some (w.words.getD ((off - 0x100) / 4) 0)
  else match off with
  | 0x000 => some w.cursor
  | 0x004 => some (ofBool w.half)
  | 0x008 => some (w.stat + 2 ^ 4 * ofBool s.evr.clearRefused)
  | 0x00C => some w.seq
  | 0x010 => some s.evr.head
  | 0x014 => some s.evr.tail
  | 0x018 => some s.evr.recs.length
  | 0x01C => some s.evr.lost.toNat
  | 0x020 => some 0
  | _ => none

/-- NVC (R450). -/
def State.nvcWord (s : State) (off : Nat) : Option Nat :=
  let m := s.mem
  match off with
  | 0x000 => some 0
  | 0x004 => some (m.nvResult + 2 ^ 8 * ofBool m.nvBusy)
  | 0x008 => some m.nvAddr.toNat
  | 0x00C => some m.nvData0.toNat
  | 0x010 => some m.nvData1.toNat
  | 0x014 => some ((s.net.newestCopy.map CfgCopy.seq).getD 0)
  | 0x018 => some s.copyWord
  | 0x020 => some (min m.mramCorr 0xFFFF + 2 ^ 16 * min m.mramUnc 0xFFFF)
  | 0x024 => some m.nvEccAddr
  | 0x028 => some (m.scrubPos + 2 ^ 20 * m.scrubPasses)
  | _ => none

/-- UPD (R474). -/
def State.updWord (s : State) (off : Nat) : Option Nat :=
  if 0x040 ≤ off ∧ off < 0x080 then (s.upd.data[(off - 0x040) / 4]?).map BitVec.toNat
  else match off with
  | 0x000 => some 0
  | 0x004 => some s.updStat
  | 0x008 => some s.upd.next
  | 0x00C => some s.upd.total
  | 0x010 => some s.updSlots
  | 0x014 => some (s.trialLeft / 1000000)
  | 0x018 => some (s.slotVersion 0)
  | 0x01C => some (s.slotVersion 1)
  | _ => none

/-! ## Reads by the host -/

/-- What a read of one word answers. -/
inductive WordRead | ok (v : Nat) | denied | uncorr
  deriving DecidableEq, Repr

/-- A word with no layout in the spec: a fresh free value (log entry 12). -/
def State.freeWord (a : Nat) (s : State) : WordRead × State := let n := s.draw; (.ok (Config.diagWord n.1 a % 2 ^ 32), n.2)

/-- A word that a register holds, or else a word with no layout. -/
def State.wordOr (x : Option Nat) (a : Nat) (s : State) : WordRead × State :=
  match x with
  | some v => (.ok v, s)
  | none => s.freeWord a

/-- The bytes of a slot in queue SRAM (R318). -/
def slotBytes (q : Nat) (x : MsgSlot) : List Byte := if x.sender = 0 then [] else msgHeader q x ++ x.payload

/-- A word of queue SRAM (R317). -/
def State.queueSram (s : State) (off : Nat) : Nat :=
  match (s.eng.queue[off / 0x400]?).bind fun x => x.slot[off % 0x400 / 0x40]? with
  | some x => leValue (((slotBytes (off / 0x400) x).drop (off % 0x40)).take 4)
  | none => 0

/-- A word of the recorder partition (R441, R442): those of the record that stands in its slot. -/
def State.recorderWord (a : Nat) (s : State) : WordRead × State :=
  let off := a - 0x20400000
  match s.evr.recs.find? fun r => r.seq % 4096 = off / 0x200 with
  | some r => (.ok (r.image.getD (off % 0x200 / 4) 0), s)
  | none => s.freeWord a

/-- An address lies in the half-open range. -/
def within (a lo hi : Nat) : Bool := lo ≤ a ∧ a < hi

/-- A word of memory, which reads 0 where its codeword is uncorrectable (R37, R435). -/
def State.memRead (a : Nat) (f : State → WordRead × State) (s : State) : WordRead × State :=
  if s.mem.badWords.contains (a - a % 8) then (.uncorr, s) else f s

/-- A read of LCK_LOCKn by the host. -/
def State.lockRead (n : Fin 64) (s : State) : WordRead × State :=
  let s := s.lockAcquire 0 n
  (.ok (ofBool s.eng.lockRead.1 + 2 ^ 8 * s.eng.lockRead.2), s)

/-- A block without a documented layout that the host may read (R36). -/
def diagBlock (a : Nat) : Bool := within a 0x40006000 0x40008000 || within a 0x40010000 0x400B0000

/-- A read of one word by the host (R36, R37). -/
def State.hostRead (a : Nat) (s : State) : WordRead × State :=
  if a % 4 ≠ 0 then (.denied, s)
  else if within a 0 0x40000 then (.ok (Config.romWord a % 2 ^ 32), s)
  else if within a 0x08000000 0x08010000 then s.memRead a fun s => (.ok (s.queueSram (a - 0x08000000)), s)
  else if within a 0x10000000 0x10400000 then s.memRead a (State.freeWord a)
  else if within a 0x20400000 0x20600000 then s.memRead a (State.recorderWord a)
  else if within a userBase userEnd then s.memRead a fun s => (.ok (readWord s.mem.user a), s)
  else if within a 0x40000000 0x40001000 then s.wordOr (s.sysWord (a - 0x40000000)) a
  else if h : 0x40001000 ≤ a ∧ a < 0x40001100 then s.lockRead ⟨(a - 0x40001000) / 4, by omega⟩
  else if within a 0x40001100 0x40002000 then s.wordOr (s.lockWord (a - 0x40001000)) a
  else if within a 0x40002000 0x40003000 then s.wordOr (s.mbxWord (a - 0x40002000)) a
  else if within a 0x40003000 0x40004000 then s.wordOr (s.evrWord (a - 0x40003000)) a
  else if within a 0x40004000 0x40005000 then s.wordOr (s.nvcWord (a - 0x40004000)) a
  else if within a 0x40005000 0x40006000 then s.wordOr (s.updWord (a - 0x40005000)) a
  else if diagBlock a then s.freeWord a
  else (.denied, s)

/-! ## Writes by the host -/

/-- A word with its key 0x5AFE in [31:16]. -/
def keyed (v : Nat) : Bool := bits v 31 16 = 0x5AFE

/-- SYS: SYS_RSTCTRL, SYS_BLKRST and the W1C bit of SYS_SUPPLY. -/
def State.sysWrite (off v : Nat) (s : State) : State :=
  match off with
  | 0x004 => if keyed v then s.byHost (State.resetCtrl (bits v 1 0)) else s
  | 0x008 => if keyed v then s.byHost (State.requestBlock (bits v 7 0)) else s
  | 0x050 => if bit v 1 then { s with pins.brownSeen := false } else s
  | _ => s

/-- LCK_ARM0 and LCK_ARM1, W1S (R330). -/
def State.armWrite (base v : Nat) (s : State) : State :=
  State.each (List.finRange 32) (fun k => fun s => if h : base + k.val < 64 ∧ bit v k then s.lockArm 0 ⟨base + k.val, h.1⟩ else s) s

/-- LCK (R332). -/
def State.lockWrite (off v : Nat) (s : State) : State :=
  if h : off < 0x100 then s.lockRelease 0 ⟨off / 4, by omega⟩
  else match off with
  | 0x200 => s.armWrite 0 v
  | 0x204 => s.armWrite 32 v
  | _ => s

/-- MBX_CTRL: FULL_IRQ is W1C, HOST_BUMP increments the host's epoch (R316, R331). -/
def State.mbxCtrl (v : Nat) (s : State) : State :=
  let s := if bit v 1 then ({ s with eng.fullIrq := false } : State).irqRefresh else s
  if bit v 2 then s.hostBump else s

/-- MBX (R331). -/
def State.mbxWrite (off v : Nat) (s : State) : State :=
  if h : 0x104 ≤ off ∧ off < 0x13C then { s with eng.txData := s.eng.txData.set ((off - 0x104) / 4) (BitVec.ofNat 32 v) (by omega) }
  else if h : 0x200 ≤ off ∧ off < 0x280 then
    (if bit v 21 then s.modQueue ⟨(off - 0x200) / 4, by omega⟩ fun x => { x with bumped := false } else s)
  else if h : 0x400 ≤ off ∧ off < 0xC00 then
    s.ack 0 ⟨(off - 0x400) / 64, by omega⟩ ⟨(off - 0x400) % 64 / 4, by omega⟩ (bits v 7 0)
  else match off with
  | 0x000 => s.mbxCtrl v
  | 0x004 => ({ s with eng.db := s.eng.db.set 0 (s.eng.db[0] &&& ~~~ BitVec.ofNat 32 v) } : State).irqRefresh
  | 0x008 => ({ s with eng.dbMask := s.eng.dbMask.set 0 (BitVec.ofNat 32 v) } : State).irqRefresh
  | 0x100 => { s with eng.txLen := bits v 5 0, eng.txQueue := bits v 13 8 }
  | 0x13C => s.hostPost
  | _ => s

/-- EVR (R451). -/
def State.evrWrite (off v : Nat) (s : State) : State :=
  match off with
  | 0x000 => s.byHost (State.loadWindow 0 v s.evr.win[0].half)
  | 0x004 => s.modWin 0 fun w => { w with half := bit v 0 }
  | 0x020 => if v = sigWipe then s.byHost State.evrClear else s
  | _ => s

/-- NVC_CMD with its key (R450). -/
def State.nvcCommand (v : Nat) (s : State) : State :=
  match bits v 7 0 with
  | 1 => s.byHost (State.nvcStore (bits v 9 8))
  | 2 => s.byHost State.nvcUserWrite
  | _ => s

/-- NVC (R450). -/
def State.nvcWrite (off v : Nat) (s : State) : State :=
  match off with
  | 0x000 => if keyed v then s.nvcCommand v else s
  | 0x008 => { s with mem.nvAddr := BitVec.ofNat 32 v }
  | 0x00C => { s with mem.nvData0 := BitVec.ofNat 32 v }
  | 0x010 => { s with mem.nvData1 := BitVec.ofNat 32 v }
  | _ => s

/-- UPD_CTRL with its key (R474). -/
def State.updCommand (v : Nat) (s : State) : State :=
  match bits v 7 0 with
  | 1 => s.byHost State.updBegin
  | 2 => s.byHost (State.updAppend (bits v 14 8))
  | 3 => s.byHost State.updAbort
  | 5 => s.byHost State.updBoot
  | 6 => s.byHost State.updCommit
  | 7 => s.byHost State.updRevert
  | 8 => s.byHost State.updLive
  | _ => s

/-- UPD (R474). -/
def State.updWrite (off v : Nat) (s : State) : State :=
  if h : 0x040 ≤ off ∧ off < 0x080 then { s with upd.data := s.upd.data.set ((off - 0x040) / 4) (BitVec.ofNat 32 v) (by omega) }
  else if off = 0 ∧ keyed v then s.updCommand v
  else s

/-- The host may write at an address (R36, R37). -/
def mayWrite (a : Nat) : Bool := decide (a % 4 = 0) && within a 0x40000000 0x40006000

/-- A write of one word by the host; a refused write changes nothing (R37). -/
def State.hostWrite (a v : Nat) (s : State) : State :=
  if ¬ mayWrite a then s
  else if a < 0x40001000 then s.sysWrite (a - 0x40000000) v
  else if a < 0x40002000 then s.lockWrite (a - 0x40001000) v
  else if a < 0x40003000 then s.mbxWrite (a - 0x40002000) v
  else if a < 0x40004000 then s.evrWrite (a - 0x40003000) v
  else if a < 0x40005000 then s.nvcWrite (a - 0x40004000) v
  else s.updWrite (a - 0x40005000) v

/-- REGISTER_WRITE (R13): a write of one register by the host. -/
def execRegisterWrite (addr value : Nat) (s : State) : Out := .next (if s.hostUp then s.hostWrite addr (value % 2 ^ 32) else s)

/-! ## Frames of the SPI port (R366 to R368) -/

/-- What a frame has done so far: the words read, the first word with ACCESS_ERR or UNCORR, and both flags. -/
structure FrameResult where
  words : List Nat := []
  first : Option Nat := none
  denied : Bool := false
  uncorr : Bool := false
  deriving DecidableEq, Repr

/-- Notes a word's outcome. -/
def FrameResult.note (k : Nat) (x : WordRead) (r : FrameResult) : FrameResult :=
  match x with
  | .ok v => { r with words := r.words ++ [v] }
  | .denied => { r with words := r.words ++ [0], denied := true, first := some (r.first.getD k) }
  | .uncorr => { r with words := r.words ++ [0], uncorr := true, first := some (r.first.getD k) }

/-- Reads `n` words from an address, each before it is shifted. -/
def State.readWords (a n : Nat) (s : State) : FrameResult × State :=
  (List.range n).foldl (fun x k => let r := x.2.hostRead (a + 4 * k); (x.1.note k r.1, r.2)) ({}, s)

/-- Writes words in address order. -/
def State.writeWords (a : Nat) (l : List Nat) (s : State) : FrameResult × State :=
  (List.range l.length).foldl (fun x k =>
    let b := a + 4 * k
    (x.1.note k (if mayWrite b then .ok 0 else .denied), x.2.hostWrite b (l.getD k 0))) ({}, s)

/-- STAT (R367). -/
def statWord (done hcrc wcrc cmd irq : Bool) (r : FrameResult) : Nat :=
  ofBits [done, hcrc, wcrc, r.denied, r.uncorr, cmd, irq] + 2 ^ 8 * (r.first.getD 0 % 16)

/-- A frame ends with STAT and the data it has shifted. -/
def State.frameDone (stat : Nat) (data : List Nat) (s : State) : State :=
  { s with net.spiStat := stat, net.spiData := data.map (BitVec.ofNat 32) }

/-- A CRC error of a frame (R367). -/
def State.spiCrcError (s : State) : State := ({ s with net.spiCrc := bump s.net.spiCrc } : State).raiseLimited 0x0D0E noInst []

/-- The header of a frame: CMD, COUNT and ADDR, whether HCRC is right, and whether CMD and COUNT are admissible. -/
def frameCount (d : List Byte) : Nat := (d.getD 1 0).toNat
def frameAddr (d : List Byte) : Nat := leValue ((d.drop 2).take 4)
def frameHcrc (d : List Byte) : Bool := crc16 (d.take 6) = leValue ((d.drop 6).take 2)
def frameCmdOk (cmd : Nat) (d : List Byte) : Bool := decide ((d.getD 0 0).toNat = cmd) && decide (1 ≤ frameCount d) && decide (frameCount d ≤ 16)

/-- A frame of the host begins: counted, with SPI_IRQ_N's level at byte 0 in STAT; a wrong header does nothing more. -/
def State.spiFrame (cmd : Nat) (d : List Byte) (f : Bool → State → State) (s : State) : State :=
  if ¬ s.hostUp then s
  else
    let irq := s.pins.spiIrq
    let s : State := { s with net.spiFrames := bump s.net.spiFrames }
    if d.length < 8 then s
    else if ¬ frameHcrc d then s.spiCrcError.frameDone (statWord false true false false irq {}) (List.replicate (min 16 (frameCount d)) 0)
    else if ¬ frameCmdOk cmd d then s.frameDone (statWord false false false true irq {}) []
    else f irq s

/-- The read of a frame: a word is read once its first byte is to be shifted (R368). -/
def State.spiReadWords (d : List Byte) (irq : Bool) (s : State) : State :=
  let n := frameCount d
  let reached := min n ((d.length - 12 + 3) / 4)
  let r := s.readWords (frameAddr d) reached
  let ok : Bool := decide (reached = n) && r.1.first.isNone
  r.2.frameDone (statWord ok false false false irq r.1) r.1.words

/-- SPI_READ (R366): the bytes clocked in by the host while SPI_CS_N is low, CMD 0x01. -/
def execSpiRead (d : List Byte) (s : State) : Out := .next (s.spiFrame 1 d (State.spiReadWords d))

/-- The words of a write frame. -/
def frameWords (d : List Byte) : List Nat := (List.range (frameCount d)).map fun k => leValue ((d.drop (8 + 4 * k)).take 4)

/-- The write of a frame: nothing before WCRC is complete and right (R368). -/
def State.spiWriteWords (d : List Byte) (irq : Bool) (s : State) : State :=
  let e := 8 + 4 * frameCount d
  if d.length < e + 2 then s
  else if crc16 ((d.drop 8).take (4 * frameCount d)) ≠ leValue ((d.drop e).take 2) then
    s.spiCrcError.frameDone (statWord false false true false irq {}) []
  else
    let r := s.writeWords (frameAddr d) (frameWords d)
    r.2.frameDone (statWord r.1.first.isNone false false false irq r.1) []

/-- SPI_WRITE (R368): the bytes clocked in by the host, CMD 0x02. -/
def execSpiWrite (d : List Byte) (s : State) : Out := .next (s.spiFrame 2 d (State.spiWriteWords d))

end Sys2Proof.Machine
end

