-- ==== Sys2Proof/Machine/Tunnel.lean ====
section
/-! DEFINITION. The dictionary tunnel of the SPI host port on Q08 and Q24 (R369, R370). -/

namespace Sys2Proof.Machine

/-- The oldest message that waits on a queue: the first posted slot from the post pointer on (R319). -/
def Queue.oldest (x : Queue) : Option (Fin 16) :=
  ((List.finRange 16).map fun i : Fin 16 => x.ptr + i).find? fun k : Fin 16 => decide (x.slot[k].state = 1)

/-- A request's fields (R369). -/
def reqIndex (d : List Byte) : Nat := leValue (d.take 2)
def reqSub (d : List Byte) : Nat := (d.getD 2 0).toNat
def reqOp (d : List Byte) : Nat := bits (d.getD 3 0).toNat 3 0
def reqPortB (d : List Byte) : Bool := bit (d.getD 3 0).toNat 7
def reqOffset (d : List Byte) : Nat := leValue ((d.drop 4).take 2)
def reqTag (d : List Byte) : Nat := (d.getD 6 0).toNat

/-- The longest data of a request or a response (R369). -/
def tunnelBytes : Nat := 48

/-- The service cannot take a request: one is still being served, or Q24 has no slot for the response (log entry 47). -/
def State.tunnelBusy (s : State) : Bool :=
  s.net.tunnelReq.isSome || decide (s.eng.queue[(24 : Fin 64)].slot[s.eng.queue[(24 : Fin 64)].ptr].state = 1)

/-- E0 takes the oldest request of Q08 if its OP is `op`: 0x14 for a stale one, 0x12 while it is busy, 0x01 and then what the request asks
for (R322, R369). -/
def State.tunnel (op : Nat) (f : MsgSlot → State → State) (s : State) : State :=
  match s.serves .spi, s.eng.queue[(8 : Fin 64)].oldest with
  | true, some k =>
    let m := s.eng.queue[(8 : Fin 64)].slot[k]
    if reqOp m.payload ≠ op then s
    else if m.repoch ≠ (s.epochOf (s.receiver 8)).toNat then s.ack 1 8 k 0x14
    else if s.tunnelBusy then s.ack 1 8 k 0x12
    else f m (s.ack 1 8 k 0x01)
  | _, _ => s

/-- The SEQ and the TAG that a response quotes. -/
def reqOf (m : MsgSlot) : Nat × Nat := (m.seq, reqTag m.payload)

/-- Sets the transfer of the SPI session. -/
def State.setTransfer (x : Option Transfer) (s : State) : State :=
  let s := s.modSess 2 fun y => { y with transfer := x }
  if x.isSome then s.arm (.segment 2) 1000000000 else s.disarm (.segment 2)

/-- The response of a read: whole if it is 48 bytes or less, else its first part (R370). -/
def State.tunnelData (m : MsgSlot) (d : List Byte) (s : State) : State :=
  if d.length ≤ tunnelBytes then s.tunnelReply (reqOf m) 0 true d
  else
    let t : Transfer := { write := false, key := objKey (reqIndex m.payload) (reqSub m.payload), offset := tunnelBytes, bytes := d, req := reqOf m }
    (s.setTransfer (some t)).tunnelReply (reqOf m) 0 false (d.take tunnelBytes)

/-- The response that the session's answer asks for; that of a Store waits for its completion (R354). -/
def State.tunnelAnswer (m : MsgSlot) (s : State) : State :=
  match s.net.sess[(2 : Fin 3)].answer with
  | .abort c => s.tunnelReply (reqOf m) c true []
  | .data d => s.tunnelData m d
  | .done => s.tunnelReply (reqOf m) 0 true []
  | .none => { s with net.tunnelReq := some (reqOf m) }

/-- TUNNEL_READ (R369, R370). -/
def execTunnelRead (s : State) : Out :=
  .next (s.tunnel 1 (fun m s =>
    let i := reqIndex m.payload
    (s.access .spi i fun s => s.answer .spi (s.dictRead .spi (copyPort .spi (reqPortB m.payload)) i (reqSub m.payload))).tunnelAnswer m))

/-- The write that a request asks for. -/
def State.reqWrite (m : MsgSlot) (d : List Byte) (s : State) : State :=
  s.dictWrite .spi (copyPort .spi (reqPortB m.payload)) (reqIndex m.payload) (reqSub m.payload) d

/-- The write of an object's bytes through the tunnel; one that asks for a reset is confirmed before the reset is asserted (R426). -/
def State.tunnelWrite (m : MsgSlot) (d : List Byte) (s : State) : State :=
  let r := s.reqWrite m d
  if r.serves .spi then r.tunnelAnswer m else (s.tunnelReply (reqOf m) 0 true []).reqWrite m d

/-- TUNNEL_WRITE (R369). -/
def execTunnelWrite (s : State) : Out := .next (s.tunnel 2 (fun m s => s.tunnelWrite m (m.payload.drop 8)))

/-- The segment fits the transfer in progress: its kind, its object and its offset. -/
def Transfer.fits (t : Transfer) (write : Bool) (m : MsgSlot) : Bool :=
  decide (t.write = write) && decide (t.key = objKey (reqIndex m.payload) (reqSub m.payload)) && decide (t.offset = reqOffset m.payload)

/-- A segment out of order aborts the transfer (R370). -/
def State.segmentAbort (m : MsgSlot) (s : State) : State :=
  ((s.setTransfer none).answer .spi (.abort 0x08000104)).tunnelReply (reqOf m) 0x08000104 true []

/-- The next part of a read. -/
def State.readSegment (t : Transfer) (m : MsgSlot) (s : State) : State :=
  let d := (t.bytes.drop t.offset).take tunnelBytes
  let e := t.offset + tunnelBytes
  if t.bytes.length ≤ e then (s.setTransfer none).tunnelReply (reqOf m) 0 true d
  else (s.setTransfer (some { t with offset := e, req := reqOf m })).tunnelReply (reqOf m) 0 false d

/-- TUNNEL_READ_SEGMENT (R370). -/
def execTunnelReadSegment (s : State) : Out :=
  .next (s.tunnel 3 (fun m s =>
    let s := s.touch .spi
    match s.net.sess[(2 : Fin 3)].transfer with
    | some t => if t.fits false m then s.readSegment t m else s.segmentAbort m
    | none => s.segmentAbort m))

/-- The write transfer that a segment continues; OFFSET 0 begins a new one (log entry 48). -/
def State.writeTransfer (s : State) (m : MsgSlot) : Option Transfer :=
  if reqOffset m.payload = 0 then some { write := true, key := objKey (reqIndex m.payload) (reqSub m.payload) }
  else match s.net.sess[(2 : Fin 3)].transfer with
  | some t => if t.fits true m then some t else none
  | none => none

/-- A transfer with a segment's data. -/
def Transfer.push (t : Transfer) (m : MsgSlot) : Transfer :=
  let b := t.bytes ++ m.payload.drop 8
  { t with bytes := b, offset := b.length, req := reqOf m }

/-- TUNNEL_WRITE_SEGMENT (R370). -/
def execTunnelWriteSegment (s : State) : Out :=
  .next (s.tunnel 4 (fun m s =>
    let s := s.touch .spi
    match s.writeTransfer m with
    | some t => (s.setTransfer (some (t.push m))).tunnelReply (reqOf m) 0 true []
    | none => s.segmentAbort m))

/-- TUNNEL_LAST_WRITE_SEGMENT (R370): the object is written as a whole. -/
def execTunnelLastWriteSegment (s : State) : Out :=
  .next (s.tunnel 5 (fun m s =>
    let s := s.touch .spi
    match s.writeTransfer m with
    | some t => (s.setTransfer none).tunnelWrite m (t.push m).bytes
    | none => s.segmentAbort m))

/-- TUNNEL_TIMEOUT (R370): the response carries the SEQ and TAG of the transfer's last request (log entry 48). -/
def execTunnelTimeout (s : State) : Out :=
  .next (match s.due (.segment 2), s.net.sess[(2 : Fin 3)].transfer with
    | true, some t => ((s.setTransfer none).answer .spi (.abort 0x05040000)).tunnelReply t.req 0x05040000 true []
    | _, _ => s)

end Sys2Proof.Machine
end

