-- ==== Sys2Proof/Machine/Twin.lean ====
section
/-! DEFINITION. Twin pairing's commands and events: pairing, configuration, mirroring, links, proxied messages, the token and takeover
(R62, R326, R378 to R398). The operand `ok` of a frame says that it passed the checks of R383. -/

namespace Sys2Proof.Machine

/-! ## Pairing (R379 to R381) -/

/-- PAIRING_FRAME_SEND (R379, R380). -/
def execPairingFrameSend (s : State) : Out :=
  .next (if s.twin.st = .pairing ∧ s.due .pairSend then (s.arm .pairSend 10000000).launch (.pairing s.pairInfo)
    else if s.twin.st = .refused ∧ s.twin.mayPair then ({ s with twin.mayPair := false } : State).launch (.pairing s.pairInfo)
    else s)

/-- A peer's pairing frame: a chip in state 7 judges it again only where it differs from the last one (R380). -/
def State.peerFrame (p : PeerInfo) (s : State) : State :=
  let new := s.twin.peer ≠ some p
  let s : State := { s with twin.peer := some p }
  match s.twin.st with
  | .solo => s.launch (.refusal 6)
  | .refused => if new then ({ s with twin.mayPair := true } : State).judgePeer p else s
  | .pairing | .activePaired | .activeAlone => s.judgePeer p
  | .unpaired | .standbySync | .standbyUnsync => s

/-- PAIRING_FRAME_RECEIVED (R379 to R381): the peer's frame, or its refusal. -/
def execPairingFrameReceived (ok : Bool) (f : BenutFrame) (s : State) : Out :=
  .next (s.frameIn ok fun s =>
    match f with
    | .pairing p => s.peerFrame p
    | .refusal r => if s.twin.st = .pairing ∨ s.active then s.pairRefused r else s
    | _ => s)

/-- PAIRING_TIMEOUT (R381). -/
def execPairingTimeout (s : State) : Out :=
  .next (if s.twin.st ≠ .pairing ∨ ¬ s.due .pairing then s
    else if s.pins.twinActI then s.disarm .pairing
    else (s.beginActive .activeAlone).raise 0x0E09 noInst [])

/-! ## Configuration of the pair (R382, R391, R392, R397) -/

/-- CONFIG_PUSH (R382). -/
def execConfigPush (w : Session) (d : List Byte) (s : State) : Out := .next (s.writeBy w 0x3000 7 d objPush)

/-- HANDOVER (R392). -/
def execHandover (w : Session) (d : List Byte) (s : State) : Out := .next (s.writeBy w 0x3000 6 d objHandover)

/-- RESET_STANDBY (R397). -/
def execResetStandby (w : Session) (d : List Byte) (s : State) : Out := .next (s.writeBy w 0x3000 8 d objResetStandby)

/-- The active chip's change set reaches the standby, with its order (R391). -/
def State.peerCommit (set : List (Nat × Nat)) (order : List Nat) (s : State) : State :=
  if s.commitBusy then s.launch (.answer false)
  else
    let s := s.acceptCommit .peer set
    { s with net.commit.order := order }

/-- The standby's answer to a commit: application begins, or the commit is refused on both chips and the standby is reset (R391, R397). A
standby that refuses while it applies makes the active chip roll back. -/
def State.peerAnswered (ok : Bool) (s : State) : State :=
  let r : CommitRefusal := ⟨0x0E0A, 0, 0xFF⟩
  if s.twin.awaitPeer ∧ s.net.commit.st = .validating then (if ok then s.beginApply else (s.refuseCommit r).launch .resetStandby)
  else if ¬ ok ∧ s.net.commit.st = .applying ∧ s.net.commit.kind = .user ∧ ¬ s.net.commit.rolling then (s.blockRefuses r).launch .resetStandby
  else s

/-- The active chip rolls back: the standby does (R391). -/
def State.peerRollback (s : State) : State :=
  if s.net.commit.st ≠ .applying ∨ s.net.commit.kind ≠ .peer ∨ s.net.commit.rolling then s
  else
    let s : State := { s.disarm .channelWait with net.commit.rolling := true }
    if s.net.commit.applied = [] then s.rolledBack else s

/-- A forwarded write takes effect; hashes that were equal stay equal (R391). -/
def State.peerWrite (key raw : Nat) (s : State) : State :=
  let eq := s.net.commit.hash = s.twin.peerHash
  let s := s.writeForwarded key raw
  if eq then { s with twin.peerHash := s.net.commit.hash } else s

/-- A configuration is adopted by a chip that is not active: pushed, or automatically where it has none stored and 0x3000:0E is 1 (R382). -/
def State.peerAdopt (pushed : Bool) (vals a b : List (Nat × Nat)) (s : State) : State :=
  if ¬ s.active ∧ s.twin.st ≠ .solo ∧ (pushed ∨ (s.net.newestCopy.isNone ∧ s.flag 0x3000 0x0E)) then s.adopt vals a b else s

/-- CONFIGURATION_FRAME_RECEIVED (R382, R391, R397). -/
def execConfigurationFrameReceived (ok : Bool) (f : BenutFrame) (s : State) : Out :=
  .next (s.frameIn ok fun s =>
    match f with
    | .changeSet set order => if s.standby then s.peerCommit set order else s
    | .answer ok => if s.active then s.peerAnswered ok else s
    | .rollback => if s.standby then s.peerRollback else s
    | .write key raw => if s.standby then s.peerWrite key raw else s
    | .store scope => if s.standby ∧ ¬ s.storeBusy then s.storeStart scope .peer else s
    | .resetStandby => if s.standby then s.assertReset .warm causeTwin false else s
    | .adopt pushed vals a b => s.peerAdopt pushed vals a b
    | _ => s)

/-! ## Mirroring (R385, R388 to R390) -/

/-- MIRROR_FRAME_RECEIVED (R388 to R390): `err` is the standby's timebase error in ns, by the frame's arrival. -/
def execMirrorFrameReceived (ok : Bool) (f : MirrorFrame) (err : Rat) (s : State) : Out :=
  .next (if ¬ s.up ∨ ¬ s.standby then s
    else if ok then (((s.alignTo err f).takeMirror f).arm .mirrorLost 75000).syncCheck
    else s.badMirror)

/-- STATE_FRAME_RECEIVED (R388). -/
def execStateFrameReceived (ok : Bool) (f : StateFrame) (s : State) : Out :=
  .next (if ¬ s.up ∨ ¬ s.standby then s else if ok then s.takeStateFrame f else s.badPaired)

/-- The twin state of a code (R378). -/
def twinOf : Nat → TwinSt
  | 0 => .solo
  | 1 => .unpaired
  | 2 => .pairing
  | 3 => .activePaired
  | 4 => .activeAlone
  | 5 => .standbySync
  | 6 => .standbyUnsync
  | _ => .refused

/-- A standby's heartbeat at the active chip (R385, R391, R397); one that has been alone is paired again (log entry 46). -/
def State.takeHeartbeat (x : TwinSt) (hash : Nat) (s : State) : State :=
  let s : State := { s with twin.peerHash := hash, twin.peer := s.twin.peer.map fun p => { p with twin := x, hash := hash } }
  if x = .standbySync ∨ x = .standbyUnsync then ({ s with twin.st := .activePaired } : State).arm .standbyLost 75000 else s

/-- HEARTBEAT_RECEIVED (R385): SEQ of the last mirror frame the standby took, its twin state and its hash. -/
def execHeartbeatReceived (ok : Bool) (seq twin hash : Nat) (s : State) : Out :=
  .next (s.frameIn ok fun s => if s.active then ({ s with twin.lastSeq := seq } : State).takeHeartbeat (twinOf twin) hash else s)

/-- TWIN_SYNCHRONISED (R390). -/
def execTwinSynchronised (s : State) : Out :=
  .next (if s.twin.st = .standbyUnsync ∧ s.due .aligned ∧ s.inSync then { s with twin.st := .standbySync } else s)

/-! ## Links (R383, R385) -/

/-- The block code of a link's port: twin 0x08, cascade-in 0x09, cascade-out 0x0A (R419). -/
def linkBlock (l : Fin 5) : Nat := if l = 0 then 8 else if l = 1 ∨ l = 3 then 9 else 10

/-- DELAY_REQUEST (R385): on every up link, each second. -/
def execDelayRequest (l : Fin 5) (s : State) : Out :=
  .next (if s.due (.delayReq l) ∧ s.twin.linkUp.getLsbD l ∧ s.tbRuns then (s.arm (.delayReq l) 1000000000).launch (.delayReq s.tb.tod) else s)

/-- The one-way delay in s by the four times of day in ns, at 2.5 ns resolution (R385). -/
def linkDelay (t1 t2 t3 : Nat) (t4 : Rat) : Rat :=
  (roundEven (((t4 - (t1 : Nat)) - ((t3 : Nat) - (t2 : Nat) : Rat)) / 2 / (5 / 2)) : Rat) * (5 / 2) / 1000000000

/-- DELAY_FRAME_RECEIVED (R385): a request is answered, a response evaluated; `at_` is the arrival in ns of the time of day. -/
def execDelayFrameReceived (ok : Bool) (l : Fin 5) (f : BenutFrame) (at_ : Rat) (s : State) : Out :=
  .next (s.frameIn ok fun s =>
    match f with
    | .delayReq t => if s.tbRuns then s.launch (.delayResp t at_.floor.toNat s.tb.tod) else s
    | .delayResp t1 t2 t3 => { s with twin.delay := s.twin.delay.set l (linkDelay t1 t2 t3 at_) }
    | _ => s)

/-- BENUT_LINK_UP (R383): delay requests run; a refused chip may pair again (R380); a cascade link's epoch increments (R316), and with both
downstream links up the ring is whole (R400). -/
def execBenutLinkUp (l : Fin 5) (s : State) : Out :=
  .next (if ¬ s.up ∨ s.blkHeld (linkBlock l) ∨ s.twin.linkUp.getLsbD l then s
    else
      let s := ({ s with twin.linkUp := s.twin.linkUp ||| BitVec.ofNat 5 (2 ^ l.val) } : State).arm (.delayReq l) 1000000000
      if l = 0 then { s with twin.mayPair := true }
      else
        let s := s.newEpoch 10
        { s with casc.reversed := s.casc.reversed ∧ ¬ (s.twin.linkUp.getLsbD 1 ∧ s.twin.linkUp.getLsbD 2) })

/-- BENUT_LINK_DOWN (R383, R400). -/
def execBenutLinkDown (l : Fin 5) (s : State) : Out := .next ((s.linkLost l).disarm (.delayReq l))

/-! ## Proxied messages (R326) -/

/-- The inbound queue of a peer's outbound queue: Q52 to Q55 of the twin, Q60 to Q63 of the cascade (R317). -/
def inbound (q : Nat) : Option (Fin 64) :=
  if h : (48 ≤ q ∧ q < 52) ∨ (56 ≤ q ∧ q < 60) then some ⟨q + 4, by omega⟩ else none

/-- The proxy posts a peer's message; its slot there is the one that its SEQ names (R319). A full queue answers that the receiver is busy. -/
def State.proxyPost (q : Nat) (m : MsgSlot) (s : State) : State :=
  match inbound q with
  | none => s
  | some i =>
    let r := s.post i (m.payload.take 56)
    match r.1 with
    | some (k, _) => { r.2 with twin.proxyIn := (i.val, k.val, q, m.seq % 16) :: r.2.twin.proxyIn }
    | none => r.2.launch (.messageAck q (m.seq % 16) m.seq 0x12)

/-- MESSAGE_FRAME_RECEIVED (R326): on the twin port, or in the ring. -/
def execMessageFrameReceived (ok : Bool) (dst src : Byte) (own : Bool) (q : Nat) (m : MsgSlot) (s : State) : Out :=
  .next (if q < 56 then s.frameIn ok (State.proxyPost q m) else s.cascTake ok dst src own (State.proxyPost q m))

/-- A forwarded message is no longer waited for: the proxy acknowledges it on this chip, where the acknowledgement may be an orphan (R323). -/
def State.proxyDone (q : Fin 64) (k : Fin 16) (code : Nat) (s : State) : State :=
  (({ s with twin.proxyOut := s.twin.proxyOut.filter fun p => p ≠ (q.val, k.val) } : State).disarm (.proxy q k)).ack (if q < 56 then 9 else 10) q k code

/-- The peer's return code reaches the message that it answers (R326). -/
def State.proxyAcked (q : Fin 64) (k : Fin 16) (seq code : Nat) (s : State) : State :=
  if (s.twin.proxyOut.contains (q.val, k.val)) ∧ s.eng.queue[q].slot[k].seq = seq then s.proxyDone q k code else s

/-- MESSAGE_ACK_FRAME_RECEIVED (R326). -/
def execMessageAckFrameReceived (ok : Bool) (dst src : Byte) (own : Bool) (q : Fin 64) (k : Fin 16) (seq code : Nat) (s : State) : Out :=
  .next (if q < 56 then s.frameIn ok (State.proxyAcked q k seq code) else s.cascTake ok dst src own (State.proxyAcked q k seq code))

/-- PROXY_TIMEOUT (R326): the peer gave no acknowledgement, or its link is down. -/
def execProxyTimeout (q : Fin 64) (k : Fin 16) (s : State) : Out :=
  .next (if s.due (.proxy q k) then s.proxyDone q k (if s.proxyUp q then 0x17 else 0x15) else s)

/-! ## The token (R62, R393 to R397) -/

/-- The peer's hash, as it last said, is this chip's. -/
def State.peerEqual (s : State) : Bool := s.twin.peer.isSome ∧ s.net.commit.hash = s.twin.peerHash

/-- TOKEN_CONFLICT (R393, R394). -/
def execTokenConflict (s : State) : Out :=
  .next (if s.active then
      (({ s with pins.twinActI := true } : State).raise 0x0E07 noInst []).giveUpTo 0x0E07 s.peerEqual
    else s)

/-- MISSED_LAUNCH (R393, R394): the trigger has no fault code of its own, so 0x3000:0D reads 0 (log entry 46). -/
def execMissedLaunch (s : State) : Out :=
  .next (if s.twin.st = .activePaired ∧ 2 ≤ s.twin.missed then s.giveUpTo 0 false else s)

/-- TOKEN_LOSS (R395). -/
def execTokenLoss (s : State) : Out :=
  .next (if s.standby then ({ s with pins.twinActI := false } : State).takeOver 0 else s)

/-- TWIN_HEARTBEAT_LOST (R395). -/
def execTwinHeartbeatLost (s : State) : Out :=
  .next (if s.standby ∧ s.due .mirrorLost then (s.raise 0x0E05 noInst []).takeOver 1 else s)

/-- TAKEOVER_DRIVE (R62, R396 step 2). -/
def execTakeoverDrive (s : State) : Out :=
  .next (if s.active ∧ s.due .takeDrive then ({ s.disarm .takeDrive with twin.driveWait := false } : State).driveShared else s)

/-- STANDBY_LOST (R397). -/
def execStandbyLost (s : State) : Out :=
  .next (if s.twin.st = .activePaired ∧ s.due .standbyLost then
      ({ s.disarm .standbyLost with twin.st := .activeAlone } : State).raise 0x0E0C noInst []
    else s)

/-- TWIN_ACT_I_CHANGE (R61, R62): a rise at an active chip is TOKEN_CONFLICT, a fall at a standby TOKEN_LOSS; an idle chip of a pair lets go of
its pins, or sinks them again. -/
def execTwinActIChange (level : Bool) (s : State) : Out :=
  .next (if (s.active ∧ level) ∨ (s.standby ∧ ¬ level) then s
    else
      let s : State := { s with pins.twinActI := level }
      if s.up ∧ s.pins.twinPar ∧ s.twin.st ≠ .solo ∧ ¬ s.active ∧ ¬ s.standby then s.idlePins else s)

end Sys2Proof.Machine
end

