-- ==== Sys2Proof/Machine/Dispatch.lean ====
section
/-! DEFINITION. The dispatch of a command to its meaning: one arm per constructor of Instr. -/

namespace Sys2Proof.Machine

/-- A command's effect on everything but the queue. -/
def exec (i : Instr) (s : State) : Host.Outcome State Fault Refusal :=
  match i with
  | .islandEvent bridge event => Sys2Proof.Machine.execIslandEvent bridge event s
  | .vcoreInterval => Sys2Proof.Machine.execVcoreInterval s
  | .vcoreCeiling => Sys2Proof.Machine.execVcoreCeiling s
  | .slackCollapse u => Sys2Proof.Machine.execSlackCollapse u s
  | .taskActivation e task tasks trigger done deadline => Sys2Proof.Machine.execTaskActivation e task tasks trigger done deadline s
  | .shelfFrameBoundary => Sys2Proof.Machine.execShelfFrameBoundary s
  | .ffLatch => Sys2Proof.Machine.execFfLatch s
  | .stateSnapshot => Sys2Proof.Machine.execStateSnapshot s
  | .mirrorLaunch ok => Sys2Proof.Machine.execMirrorLaunch ok s
  | .uplinkHandoff => Sys2Proof.Machine.execUplinkHandoff s
  | .downlinkFreeze => Sys2Proof.Machine.execDownlinkFreeze s
  | .xoFail => Sys2Proof.Machine.execXoFail s
  | .pllUnlock => Sys2Proof.Machine.execPllUnlock s
  | .timebaseRecovery => Sys2Proof.Machine.execTimebaseRecovery s
  | .ppsEdge at_ => Sys2Proof.Machine.execPpsEdge at_ s
  | .ppsQualified => Sys2Proof.Machine.execPpsQualified s
  | .refLostPps => Sys2Proof.Machine.execRefLostPps s
  | .ref10mInterval err => Sys2Proof.Machine.execRef10mInterval err s
  | .refLost10m noEdge => Sys2Proof.Machine.execRefLost10m noEdge s
  | .ref10mQualified => Sys2Proof.Machine.execRef10mQualified s
  | .refConflict diff => Sys2Proof.Machine.execRefConflict diff s
  | .refConflictClear => Sys2Proof.Machine.execRefConflictClear s
  | .modelLearnSample rate => Sys2Proof.Machine.execModelLearnSample rate s
  | .modelStore => Sys2Proof.Machine.execModelStore s
  | .holdoverSteer slowAmbient => Sys2Proof.Machine.execHoldoverSteer slowAmbient s
  | .setTimeAtPps w d => Sys2Proof.Machine.execSetTimeAtPps w d s
  | .modelReset w d => Sys2Proof.Machine.execModelReset w d s
  | .timerExpiry t x => Sys2Proof.Machine.execTimerExpiry t x s
  | .timerCapture t rising => Sys2Proof.Machine.execTimerCapture t rising s
  | .precisionOutput k rate code => Sys2Proof.Machine.execPrecisionOutput k rate code s
  | .overrangeClear k => Sys2Proof.Machine.execOverrangeClear k s
  | .settlingEnd k => Sys2Proof.Machine.execSettlingEnd k s
  | .pairDisagree p => Sys2Proof.Machine.execPairDisagree p s
  | .rotationSlotStart x => Sys2Proof.Machine.execRotationSlotStart x s
  | .modulatorCalibrationDone m x0 xp xn => Sys2Proof.Machine.execModulatorCalibrationDone m x0 xp xn s
  | .swapComparison x mean => Sys2Proof.Machine.execSwapComparison x mean s
  | .swapHandover x => Sys2Proof.Machine.execSwapHandover x s
  | .calStale k => Sys2Proof.Machine.execCalStale k s
  | .measurementReady => Sys2Proof.Machine.execMeasurementReady s
  | .referenceCheck diff => Sys2Proof.Machine.execReferenceCheck diff s
  | .refFail => Sys2Proof.Machine.execRefFail s
  | .windowSample l code vlcl => Sys2Proof.Machine.execWindowSample l code vlcl s
  | .imonConversion ix v => Sys2Proof.Machine.execImonConversion ix v s
  | .coulombOutput n slow v => Sys2Proof.Machine.execCoulombOutput n slow v s
  | .housekeepingConversion slot v => Sys2Proof.Machine.execHousekeepingConversion slot v s
  | .writeCalibrationSet w d => Sys2Proof.Machine.execWriteCalibrationSet w d s
  | .calSetWritten => Sys2Proof.Machine.execCalSetWritten s
  | .calSetExport w => Sys2Proof.Machine.execCalSetExport w s
  | .calSetImport w d => Sys2Proof.Machine.execCalSetImport w d s
  | .captureA w => Sys2Proof.Machine.execCaptureA w s
  | .captureB w => Sys2Proof.Machine.execCaptureB w s
  | .captureCompute w => Sys2Proof.Machine.execCaptureCompute w s
  | .captureAbort w => Sys2Proof.Machine.execCaptureAbort w s
  | .captureDone => Sys2Proof.Machine.execCaptureDone s
  | .laneTrigger n => Sys2Proof.Machine.execLaneTrigger n s
  | .laneSampleDone n => Sys2Proof.Machine.execLaneSampleDone n s
  | .laneMiss n => Sys2Proof.Machine.execLaneMiss n s
  | .laneFault n => Sys2Proof.Machine.execLaneFault n s
  | .loopPeriodBoundary l ix => Sys2Proof.Machine.execLoopPeriodBoundary l ix s
  | .phaseSlotEdge ix pair vlcl => Sys2Proof.Machine.execPhaseSlotEdge ix pair vlcl s
  | .setpointWrite w l d => Sys2Proof.Machine.execSetpointWrite w l d s
  | .senseLost l => Sys2Proof.Machine.execSenseLost l s
  | .overshoot x => Sys2Proof.Machine.execOvershoot x s
  | .overvoltage l => Sys2Proof.Machine.execOvervoltage l s
  | .bellowsEnd l => Sys2Proof.Machine.execBellowsEnd l s
  | .shedDwellExpiry l => Sys2Proof.Machine.execShedDwellExpiry l s
  | .phaseOpen ix => Sys2Proof.Machine.execPhaseOpen ix s
  | .imonImplausible ix => Sys2Proof.Machine.execImonImplausible ix s
  | .blindTimeout ix => Sys2Proof.Machine.execBlindTimeout ix s
  | .syncInEdge p => Sys2Proof.Machine.execSyncInEdge p s
  | .syncLocked l => Sys2Proof.Machine.execSyncLocked l s
  | .syncLost l => Sys2Proof.Machine.execSyncLost l s
  | .busReferenceWrite w d => Sys2Proof.Machine.execBusReferenceWrite w d s
  | .siteCapWrite w d => Sys2Proof.Machine.execSiteCapWrite w d s
  | .shelfLoopStart => Sys2Proof.Machine.execShelfLoopStart s
  | .ffImplausible => Sys2Proof.Machine.execFfImplausible s
  | .ffRestore => Sys2Proof.Machine.execFfRestore s
  | .busSenseLost => Sys2Proof.Machine.execBusSenseLost s
  | .busOvervoltage => Sys2Proof.Machine.execBusOvervoltage s
  | .busOvClear => Sys2Proof.Machine.execBusOvClear s
  | .busUndervoltage => Sys2Proof.Machine.execBusUndervoltage s
  | .busUvClear => Sys2Proof.Machine.execBusUvClear s
  | .recNotTracking ix => Sys2Proof.Machine.execRecNotTracking ix s
  | .capEvaluation => Sys2Proof.Machine.execCapEvaluation s
  | .shortfallTimeout => Sys2Proof.Machine.execShortfallTimeout s
  | .holdupEnded => Sys2Proof.Machine.execHoldupEnded s
  | .voltageStageDwell n => Sys2Proof.Machine.execVoltageStageDwell n s
  | .replyReceived j p d => Sys2Proof.Machine.execReplyReceived j p d s
  | .replyMissing ix => Sys2Proof.Machine.execReplyMissing ix s
  | .slotCorrupt ix => Sys2Proof.Machine.execSlotCorrupt ix s
  | .slowRetry ix => Sys2Proof.Machine.execSlowRetry ix s
  | .portReadback p ok => Sys2Proof.Machine.execPortReadback p ok s
  | .portTxFault p => Sys2Proof.Machine.execPortTxFault p s
  | .slowAccessRead w => Sys2Proof.Machine.execSlowAccessRead w s
  | .slowAccessWrite w => Sys2Proof.Machine.execSlowAccessWrite w s
  | .shelfOffWrite w d => Sys2Proof.Machine.execShelfOffWrite w d s
  | .branchEvaluation gpio limit breaker => Sys2Proof.Machine.execBranchEvaluation gpio limit breaker s
  | .insertionDebounce k => Sys2Proof.Machine.execInsertionDebounce k s
  | .inrushSettled k => Sys2Proof.Machine.execInrushSettled k s
  | .inrushTimeout k => Sys2Proof.Machine.execInrushTimeout k s
  | .limitAssert k => Sys2Proof.Machine.execLimitAssert k s
  | .limitRelease k => Sys2Proof.Machine.execLimitRelease k s
  | .brFaultTimer k => Sys2Proof.Machine.execBrFaultTimer k s
  | .brBreaker k => Sys2Proof.Machine.execBrBreaker k s
  | .tripSinkEnd g => Sys2Proof.Machine.execTripSinkEnd g s
  | .branchMinOffEnd k => Sys2Proof.Machine.execBranchMinOffEnd k s
  | .branchRetryEnd k => Sys2Proof.Machine.execBranchRetryEnd k s
  | .retriesCleared k => Sys2Proof.Machine.execRetriesCleared k s
  | .fetShort k => Sys2Proof.Machine.execFetShort k s
  | .clearFetShort w d => Sys2Proof.Machine.execClearFetShort w d s
  | .gateUv => Sys2Proof.Machine.execGateUv s
  | .gateUvRecover => Sys2Proof.Machine.execGateUvRecover s
  | .feedQualified p b => Sys2Proof.Machine.execFeedQualified p b s
  | .feedLoss p => Sys2Proof.Machine.execFeedLoss p s
  | .deadTimeEnd p => Sys2Proof.Machine.execDeadTimeEnd p s
  | .revertTime p => Sys2Proof.Machine.execRevertTime p s
  | .quenchIn low => Sys2Proof.Machine.execQuenchIn low s
  | .softwareQuench w d => Sys2Proof.Machine.execSoftwareQuench w d s
  | .quenchRelease w d => Sys2Proof.Machine.execQuenchRelease w d s
  | .quenchAutoRelease q => Sys2Proof.Machine.execQuenchAutoRelease q s
  | .quenchInRearm => Sys2Proof.Machine.execQuenchInRearm s
  | .chargeCount acc => Sys2Proof.Machine.execChargeCount acc s
  | .emptyAnchor n => Sys2Proof.Machine.execEmptyAnchor n s
  | .fullAnchor n => Sys2Proof.Machine.execFullAnchor n s
  | .capacityReset w n d => Sys2Proof.Machine.execCapacityReset w n d s
  | .lvdOpen n => Sys2Proof.Machine.execLvdOpen n s
  | .lvdReconnect n => Sys2Proof.Machine.execLvdReconnect n s
  | .reconnectBlocked n => Sys2Proof.Machine.execReconnectBlocked n s
  | .clearStringLatch w d => Sys2Proof.Machine.execClearStringLatch w d s
  | .learnedDataPeriodic => Sys2Proof.Machine.execLearnedDataPeriodic s
  | .learnedDataWriteDone => Sys2Proof.Machine.execLearnedDataWriteDone s
  | .railEvaluation => Sys2Proof.Machine.execRailEvaluation s
  | .startDelayEnd r => Sys2Proof.Machine.execStartDelayEnd r s
  | .pgDelayEnd r => Sys2Proof.Machine.execPgDelayEnd r s
  | .startTimeout r => Sys2Proof.Machine.execStartTimeout r s
  | .railFault r => Sys2Proof.Machine.execRailFault r s
  | .offPathComplete r => Sys2Proof.Machine.execOffPathComplete r s
  | .minOffEnd r => Sys2Proof.Machine.execMinOffEnd r s
  | .railRetryEnd r => Sys2Proof.Machine.execRailRetryEnd r s
  | .railRetriesCleared r => Sys2Proof.Machine.execRailRetriesCleared r s
  | .dischargeTimeout r => Sys2Proof.Machine.execDischargeTimeout r s
  | .offDelayEnd r => Sys2Proof.Machine.execOffDelayEnd r s
  | .inputLossDelay => Sys2Proof.Machine.execInputLossDelay s
  | .systemOnWrite w d => Sys2Proof.Machine.execSystemOnWrite w d s
  | .railCommandWrite w r d => Sys2Proof.Machine.execRailCommandWrite w r d s
  | .groupCommandWrite w g d => Sys2Proof.Machine.execGroupCommandWrite w g d s
  | .sensorConversion k t v r => Sys2Proof.Machine.execSensorConversion k t v r s
  | .sensorSlow k => Sys2Proof.Machine.execSensorSlow k s
  | .tempWarning k => Sys2Proof.Machine.execTempWarning k s
  | .throttleActive k => Sys2Proof.Machine.execThrottleActive k s
  | .thermalShutdown k => Sys2Proof.Machine.execThermalShutdown k s
  | .thresholdClear k j => Sys2Proof.Machine.execThresholdClear k j s
  | .throttleStep j => Sys2Proof.Machine.execThrottleStep j s
  | .throttleRestore j => Sys2Proof.Machine.execThrottleRestore j s
  | .sensorFail k => Sys2Proof.Machine.execSensorFail k s
  | .sensorRecover k => Sys2Proof.Machine.execSensorRecover k s
  | .engineWdog e => Sys2Proof.Machine.execEngineWdog e s
  | .selfTestDone e pass => Sys2Proof.Machine.execSelfTestDone e pass s
  | .migrationDone e => Sys2Proof.Machine.execMigrationDone e s
  | .engineReloadDone e => Sys2Proof.Machine.execEngineReloadDone e s
  | .systemWdog => Sys2Proof.Machine.execSystemWdog s
  | .mbxPost who q d => Sys2Proof.Machine.execMbxPost who q d s
  | .mbxAck who q k code => Sys2Proof.Machine.execMbxAck who q k code s
  | .hostBump => Sys2Proof.Machine.execHostBump s
  | .lockAcquire who n => Sys2Proof.Machine.execLockAcquire who n s
  | .lockRelease who n => Sys2Proof.Machine.execLockRelease who n s
  | .lockArm who n => Sys2Proof.Machine.execLockArm who n s
  | .registerWrite addr value => Sys2Proof.Machine.execRegisterWrite addr value s
  | .dictionaryRead w idx sub portB => Sys2Proof.Machine.execDictionaryRead w idx sub portB s
  | .dictionaryWrite w idx sub portB d => Sys2Proof.Machine.execDictionaryWrite w idx sub portB d s
  | .shadowWrite w idx sub d => Sys2Proof.Machine.execShadowWrite w idx sub d s
  | .roleRequest w d => Sys2Proof.Machine.execRoleRequest w d s
  | .sessionEndRequest w => Sys2Proof.Machine.execSessionEndRequest w s
  | .roleResponse w d => Sys2Proof.Machine.execRoleResponse w d s
  | .authLockoutEnd w role => Sys2Proof.Machine.execAuthLockoutEnd w role s
  | .nonceExpiry w => Sys2Proof.Machine.execNonceExpiry w s
  | .sessionIdleTimeout w => Sys2Proof.Machine.execSessionIdleTimeout w s
  | .commit w => Sys2Proof.Machine.execCommit w s
  | .discard w => Sys2Proof.Machine.execDiscard w s
  | .commitValidation => Sys2Proof.Machine.execCommitValidation s
  | .blockApply => Sys2Proof.Machine.execBlockApply s
  | .channelNotReady => Sys2Proof.Machine.execChannelNotReady s
  | .rollbackApply => Sys2Proof.Machine.execRollbackApply s
  | .bootCommit => Sys2Proof.Machine.execBootCommit s
  | .store w scope d => Sys2Proof.Machine.execStore w scope d s
  | .storeDone ok => Sys2Proof.Machine.execStoreDone ok s
  | .restoreDefaults w scope d => Sys2Proof.Machine.execRestoreDefaults w scope d s
  | .nmtStart p => Sys2Proof.Machine.execNmtStart p s
  | .nmtStop p => Sys2Proof.Machine.execNmtStop p s
  | .nmtEnterPreOperational p => Sys2Proof.Machine.execNmtEnterPreOperational p s
  | .nmtResetApplication p => Sys2Proof.Machine.execNmtResetApplication p s
  | .nmtResetCommunication p => Sys2Proof.Machine.execNmtResetCommunication p s
  | .rpdoReceived p n d => Sys2Proof.Machine.execRpdoReceived p n d s
  | .tpdoEvent p n => Sys2Proof.Machine.execTpdoEvent p n s
  | .sdoSegment p x => Sys2Proof.Machine.execSdoSegment p x s
  | .sdoTimeout p => Sys2Proof.Machine.execSdoTimeout p s
  | .errorFieldBatch => Sys2Proof.Machine.execErrorFieldBatch s
  | .emcyTransmit p => Sys2Proof.Machine.execEmcyTransmit p s
  | .errorFieldClear w => Sys2Proof.Machine.execErrorFieldClear w s
  | .heartbeatProduce p => Sys2Proof.Machine.execHeartbeatProduce p s
  | .heartbeatLost p n => Sys2Proof.Machine.execHeartbeatLost p n s
  | .canBusOff p => Sys2Proof.Machine.execCanBusOff p s
  | .busOffRecovery p => Sys2Proof.Machine.execBusOffRecovery p s
  | .spiRead d => Sys2Proof.Machine.execSpiRead d s
  | .spiWrite d => Sys2Proof.Machine.execSpiWrite d s
  | .tunnelRead => Sys2Proof.Machine.execTunnelRead s
  | .tunnelWrite => Sys2Proof.Machine.execTunnelWrite s
  | .tunnelReadSegment => Sys2Proof.Machine.execTunnelReadSegment s
  | .tunnelWriteSegment => Sys2Proof.Machine.execTunnelWriteSegment s
  | .tunnelLastWriteSegment => Sys2Proof.Machine.execTunnelLastWriteSegment s
  | .tunnelTimeout => Sys2Proof.Machine.execTunnelTimeout s
  | .pmbusDiscovery d mode => Sys2Proof.Machine.execPmbusDiscovery d mode s
  | .pmbusPoll d r => Sys2Proof.Machine.execPmbusPoll d r s
  | .pmbusDeviceLost d => Sys2Proof.Machine.execPmbusDeviceLost d s
  | .pmbusAlert p r => Sys2Proof.Machine.execPmbusAlert p r s
  | .clockStretchTimeout p => Sys2Proof.Machine.execClockStretchTimeout p s
  | .pairingFrameSend => Sys2Proof.Machine.execPairingFrameSend s
  | .pairingFrameReceived ok f => Sys2Proof.Machine.execPairingFrameReceived ok f s
  | .pairingTimeout => Sys2Proof.Machine.execPairingTimeout s
  | .configPush w d => Sys2Proof.Machine.execConfigPush w d s
  | .configurationFrameReceived ok f => Sys2Proof.Machine.execConfigurationFrameReceived ok f s
  | .mirrorFrameReceived ok f err => Sys2Proof.Machine.execMirrorFrameReceived ok f err s
  | .stateFrameReceived ok f => Sys2Proof.Machine.execStateFrameReceived ok f s
  | .heartbeatReceived ok seq twin hash => Sys2Proof.Machine.execHeartbeatReceived ok seq twin hash s
  | .delayRequest l => Sys2Proof.Machine.execDelayRequest l s
  | .delayFrameReceived ok l f at_ => Sys2Proof.Machine.execDelayFrameReceived ok l f at_ s
  | .benutLinkUp l => Sys2Proof.Machine.execBenutLinkUp l s
  | .benutLinkDown l => Sys2Proof.Machine.execBenutLinkDown l s
  | .messageFrameReceived ok dst src own q m => Sys2Proof.Machine.execMessageFrameReceived ok dst src own q m s
  | .messageAckFrameReceived ok dst src own q k seq code => Sys2Proof.Machine.execMessageAckFrameReceived ok dst src own q k seq code s
  | .proxyTimeout q k => Sys2Proof.Machine.execProxyTimeout q k s
  | .handover w d => Sys2Proof.Machine.execHandover w d s
  | .tokenConflict => Sys2Proof.Machine.execTokenConflict s
  | .missedLaunch => Sys2Proof.Machine.execMissedLaunch s
  | .tokenLoss => Sys2Proof.Machine.execTokenLoss s
  | .twinHeartbeatLost => Sys2Proof.Machine.execTwinHeartbeatLost s
  | .takeoverDrive => Sys2Proof.Machine.execTakeoverDrive s
  | .standbyLost => Sys2Proof.Machine.execStandbyLost s
  | .resetStandby w d => Sys2Proof.Machine.execResetStandby w d s
  | .twinSynchronised => Sys2Proof.Machine.execTwinSynchronised s
  | .cascadeTimeLaunch => Sys2Proof.Machine.execCascadeTimeLaunch s
  | .cascadeTimeReceived ok dst src own reverse tod arrival => Sys2Proof.Machine.execCascadeTimeReceived ok dst src own reverse tod arrival s
  | .cascTimeLost => Sys2Proof.Machine.execCascTimeLost s
  | .positionReportSend => Sys2Proof.Machine.execPositionReportSend s
  | .positionReportReceived ok dst src own pReq pMax w soc => Sys2Proof.Machine.execPositionReportReceived ok dst src own pReq pMax w soc s
  | .allocationPeriod => Sys2Proof.Machine.execAllocationPeriod s
  | .allocationReceived ok dst src own allocs number => Sys2Proof.Machine.execAllocationReceived ok dst src own allocs number s
  | .masterLost => Sys2Proof.Machine.execMasterLost s
  | .promote w d => Sys2Proof.Machine.execPromote w d s
  | .masterAnnouncementReceived ok dst src own promotion => Sys2Proof.Machine.execMasterAnnouncementReceived ok dst src own promotion s
  | .powerOnReset => Sys2Proof.Machine.execPowerOnReset s
  | .supplyBrownOut => Sys2Proof.Machine.execSupplyBrownOut s
  | .vcoreBrownOut => Sys2Proof.Machine.execVcoreBrownOut s
  | .rstNLow => Sys2Proof.Machine.execRstNLow s
  | .resetEscalated => Sys2Proof.Machine.execResetEscalated s
  | .softwareResetWarm via => Sys2Proof.Machine.execSoftwareResetWarm via s
  | .softwareResetCold via => Sys2Proof.Machine.execSoftwareResetCold via s
  | .blockResetRequest via d => Sys2Proof.Machine.execBlockResetRequest via d s
  | .blockResetAssert code idle => Sys2Proof.Machine.execBlockResetAssert code idle s
  | .blockResetRelease code => Sys2Proof.Machine.execBlockResetRelease code s
  | .paritySweep bad => Sys2Proof.Machine.execParitySweep bad s
  | .releaseStepDone a b c => Sys2Proof.Machine.execReleaseStepDone a b c s
  | .releaseStall loads => Sys2Proof.Machine.execReleaseStall loads s
  | .trimAttemptDone dev cal => Sys2Proof.Machine.execTrimAttemptDone dev cal s
  | .trimAcknowledge w d => Sys2Proof.Machine.execTrimAcknowledge w d s
  | .romBootDone a b c digests okA okB => Sys2Proof.Machine.execRomBootDone a b c digests okA okB s
  | .lifecycleWipe => Sys2Proof.Machine.execLifecycleWipe s
  | .holdExpired => Sys2Proof.Machine.execHoldExpired s
  | .brownWarnSet => Sys2Proof.Machine.execBrownWarnSet s
  | .brownWarnClear => Sys2Proof.Machine.execBrownWarnClear s
  | .supplyRange ov range => Sys2Proof.Machine.execSupplyRange ov range s
  | .scrubStep m word code used => Sys2Proof.Machine.execScrubStep m word code used s
  | .scrubLate m => Sys2Proof.Machine.execScrubLate m s
  | .correctionRate m => Sys2Proof.Machine.execCorrectionRate m s
  | .nvcStore scope => Sys2Proof.Machine.execNvcStore scope s
  | .nvcUserWrite => Sys2Proof.Machine.execNvcUserWrite s
  | .recordWriteDone bad => Sys2Proof.Machine.execRecordWriteDone bad s
  | .recorderScanDone incomplete => Sys2Proof.Machine.execRecorderScanDone incomplete s
  | .cursorWrite by_ d => Sys2Proof.Machine.execCursorWrite by_ d s
  | .windowLoadDone k bad => Sys2Proof.Machine.execWindowLoadDone k bad s
  | .recorderClear via d => Sys2Proof.Machine.execRecorderClear via d s
  | .recorderCleared => Sys2Proof.Machine.execRecorderCleared s
  | .manualTrigger w d => Sys2Proof.Machine.execManualTrigger w d s
  | .stagingBegin via => Sys2Proof.Machine.execStagingBegin via s
  | .imageAppend via d => Sys2Proof.Machine.execImageAppend via d s
  | .stagingAbort via => Sys2Proof.Machine.execStagingAbort via s
  | .imageVerifyDone uncorr => Sys2Proof.Machine.execImageVerifyDone uncorr s
  | .activate via => Sys2Proof.Machine.execActivate via s
  | .commitTrial via => Sys2Proof.Machine.execCommitTrial via s
  | .revertTrial via => Sys2Proof.Machine.execRevertTrial via s
  | .trialExpiry => Sys2Proof.Machine.execTrialExpiry s
  | .liveUpdate via => Sys2Proof.Machine.execLiveUpdate via s
  | .liveVerifyDone uncorr => Sys2Proof.Machine.execLiveVerifyDone uncorr s
  | .lifecycleTransition w d => Sys2Proof.Machine.execLifecycleTransition w d s
  | .keyWrite w d => Sys2Proof.Machine.execKeyWrite w d s
  | .keyRevoke w d => Sys2Proof.Machine.execKeyRevoke w d s
  | .twinActIChange level => Sys2Proof.Machine.execTwinActIChange level s
  | .supplyPowerOn => Sys2Proof.Machine.execSupplyPowerOn s

end Sys2Proof.Machine
end

