-- ==== Sys2Proof/Machine/Idle.lean ====
section
/-! DEFINITION. What passes with time while no command waits: one cycle of the 200 MHz timebase (log entry 6). -/

namespace Sys2Proof.Machine

/-- Length of a timebase cycle in ns (R84). -/
def cycleNs : Nat := 5

/-- Pulses whose end has come (R165). -/
def State.pulseOver (s : State) (i : Fin 32) : Bool := s.pins.pwm[i] = .high ∧ s.phase[i].offAt ≤ s.now

/-- A pulse ends when its time has come (R165), and asks for a conversion at its trailing edge (R179). -/
def State.pulseEnds (s : State) : State :=
  { s with
    pins.pwm := Vector.ofFn fun i : Fin 32 => if s.pulseOver i then .low else s.pins.pwm[i]
    phase := Vector.ofFn fun i : Fin 32 =>
      if s.pulseOver i then { s.phase[i] with requests := s.phase[i].requests ++ [(true, s.phase[i].offAt)] } else s.phase[i] }

/-- The general timers after one timebase cycle (R99): running ones count, pulses get shorter, each capture buffer hands its oldest time to the
timer's owner. -/
def GenTimer.cycle (runs : Bool) (g : GenTimer) : GenTimer :=
  { g with captured := g.captured.tail, count := if runs ∧ g.armed then g.count - 1 else g.count, pulse := if runs then g.pulse - 1 else g.pulse }

/-- Pins whose timer pulse ends with this cycle (R99). -/
def State.pulsesOver (s : State) : BitVec 24 :=
  maskOf 24 fun g => s.tbRuns && (List.finRange 16).any fun t => decide (s.tb.gen[t].pulse = 1 ∧ s.tb.gen[t].setting.pin = some g)

/-- A phase slew ends when its error is removed (R92). -/
def State.slewEnds (s : State) : State := if s.tb.slewOff ≠ 0 ∧ s.tb.slewEnd ≤ s.now then s.slewStop else s

/-- One idle cycle: time advances, each bridge hands its oldest event to the fabric (R25), each capture buffer its oldest time to the timer's owner
(R99), pulses, slews and the wait of a reply's copy (R206) end, and reference edges pass (R182). -/
def State.tick (s : State) : State :=
  ({ s with
    now := s.now + cycleNs
    tb.tod := if s.todRuns then s.tb.tod + cycleNs else s.tb.tod
    tb.model.age := if s.todRuns then s.tb.model.age + cycleNs else s.tb.model.age
    tb.gen := s.tb.gen.map (GenTimer.cycle s.tbRuns)
    pins.gpioOut := s.pins.gpioOut &&& ~~~ s.pulsesOver
    arch.bridges := s.arch.bridges.map List.tail } : State).pulseEnds.edgesPass.slewEnds.heldOver

end Sys2Proof.Machine
end

