-- ==== Sys2Proof/Machine/Step.lean ====
section
/-! DEFINITION. One step of the MB4800: the oldest command that waits, or an idle cycle. -/

namespace Sys2Proof.Machine

/-- One step: exec of the command at the front of the queue, with the queue's rest; an idle cycle on an empty queue. -/
def step (s : State) : Host.Outcome State Fault Refusal :=
  match s.pending with
  | c :: rest => exec c { s with pending := rest }
  | [] => .next s.tick

/-- Puts the command that a word spells at the front of the queue; the state unchanged where the word spells none. -/
def State.withFetchWord (s : State) (nbits w : Nat) : State :=
  match decodeTableWord nbits w with
  | some c => { s with pending := c :: s.pending }
  | none => s

end Sys2Proof.Machine
end

