-- ==== Sys2Proof/Parts.lean ====
section
/-! DEFINITION. The parts of the state, one for each piece of it, in which the statements' frames are said: a part stands alike in two states,
and everything but a list of parts is kept. -/

namespace Sys2Proof.Machine

/-- The parts of `Arch`; a part whose name ends in All stands for every element of its vector or list. -/
inductive ArchPart
  | vcoreMv
  | lowerRun
  | ceilingRun
  | interval
  | emergencyAt
  | raised
  | slackLast
  | slackMin
  | limitingUnit
  | ceilingEvents
  | emergencyRaises
  | lowRuns (k : Fin 20) | lowRunsAll
  | bridges (k : Fin 9) | bridgesAll
  deriving DecidableEq, Repr

/-- A part stands alike in two. -/
def ArchPart.same (x y : Arch) : ArchPart → Prop
  | .vcoreMv => y.vcoreMv = x.vcoreMv
  | .lowerRun => y.lowerRun = x.lowerRun
  | .ceilingRun => y.ceilingRun = x.ceilingRun
  | .interval => y.interval = x.interval
  | .emergencyAt => y.emergencyAt = x.emergencyAt
  | .raised => y.raised = x.raised
  | .slackLast => y.slackLast = x.slackLast
  | .slackMin => y.slackMin = x.slackMin
  | .limitingUnit => y.limitingUnit = x.limitingUnit
  | .ceilingEvents => y.ceilingEvents = x.ceilingEvents
  | .emergencyRaises => y.emergencyRaises = x.emergencyRaises
  | .lowRuns k => y.lowRuns[k] = x.lowRuns[k]
  | .lowRunsAll => True
  | .bridges k => y.bridges[k] = x.bridges[k]
  | .bridgesAll => True

/-- The part that stands for all the elements of which a part is one; the part itself where it is none. -/
def ArchPart.whole : ArchPart → ArchPart
  | .lowRuns _ => .lowRunsAll
  | .bridges _ => .bridgesAll
  | x => x

/-- The parts of `Pins`; a part whose name ends in All stands for every element of its vector or list. -/
inductive PinsPart
  | cascPos
  | recover
  | slAddr
  | twinPar
  | unstable
  | brHeld
  | fdHeld
  | stHeld
  | pgHeld
  | gpioHeld
  | brHold
  | fdHold
  | stHold
  | pgHold
  | gpioHold
  | adopted
  | pwm (k : Fin 32) | pwmAll
  | gate (k : Fin 24) | gateAll
  | pg
  | slDriver
  | gpioIn
  | gpioOut
  | gpioDir
  | twinActO
  | twinActI
  | spiIrq
  | syncFreq
  | syncAt
  | syncOut
  | pmbusReleased
  | benutTx
  | brownWarn
  | brownSeen
  | vgdUv
  | vauxOv
  | vddioRange
  | bwCode
  | brownEvents
  | vaux
  | vddio
  | vgd
  deriving DecidableEq, Repr

/-- A part stands alike in two. -/
def PinsPart.same (x y : Pins) : PinsPart → Prop
  | .cascPos => y.cascPos = x.cascPos
  | .recover => y.recover = x.recover
  | .slAddr => y.slAddr = x.slAddr
  | .twinPar => y.twinPar = x.twinPar
  | .unstable => y.unstable = x.unstable
  | .brHeld => y.brHeld = x.brHeld
  | .fdHeld => y.fdHeld = x.fdHeld
  | .stHeld => y.stHeld = x.stHeld
  | .pgHeld => y.pgHeld = x.pgHeld
  | .gpioHeld => y.gpioHeld = x.gpioHeld
  | .brHold => y.brHold = x.brHold
  | .fdHold => y.fdHold = x.fdHold
  | .stHold => y.stHold = x.stHold
  | .pgHold => y.pgHold = x.pgHold
  | .gpioHold => y.gpioHold = x.gpioHold
  | .adopted => y.adopted = x.adopted
  | .pwm k => y.pwm[k] = x.pwm[k]
  | .pwmAll => True
  | .gate k => y.gate[k] = x.gate[k]
  | .gateAll => True
  | .pg => y.pg = x.pg
  | .slDriver => y.slDriver = x.slDriver
  | .gpioIn => y.gpioIn = x.gpioIn
  | .gpioOut => y.gpioOut = x.gpioOut
  | .gpioDir => y.gpioDir = x.gpioDir
  | .twinActO => y.twinActO = x.twinActO
  | .twinActI => y.twinActI = x.twinActI
  | .spiIrq => y.spiIrq = x.spiIrq
  | .syncFreq => y.syncFreq = x.syncFreq
  | .syncAt => y.syncAt = x.syncAt
  | .syncOut => y.syncOut = x.syncOut
  | .pmbusReleased => y.pmbusReleased = x.pmbusReleased
  | .benutTx => y.benutTx = x.benutTx
  | .brownWarn => y.brownWarn = x.brownWarn
  | .brownSeen => y.brownSeen = x.brownSeen
  | .vgdUv => y.vgdUv = x.vgdUv
  | .vauxOv => y.vauxOv = x.vauxOv
  | .vddioRange => y.vddioRange = x.vddioRange
  | .bwCode => y.bwCode = x.bwCode
  | .brownEvents => y.brownEvents = x.brownEvents
  | .vaux => y.vaux = x.vaux
  | .vddio => y.vddio = x.vddio
  | .vgd => y.vgd = x.vgd

/-- The part that stands for all the elements of which a part is one; the part itself where it is none. -/
def PinsPart.whole : PinsPart → PinsPart
  | .pwm _ => .pwmAll
  | .gate _ => .gateAll
  | x => x

/-- The parts of `Timebase`; a part whose name ends in All stands for every element of its vector or list. -/
inductive TimebasePart
  | lock
  | ppsOk
  | refOk
  | cascOk
  | conflict
  | freqOnly
  | todUnset
  | todLoaded
  | todInvalid
  | steering
  | phaseErr
  | holdoverTime
  | errBound
  | changes
  | discarded
  | tod
  | todNext
  | steps
  | stepPending
  | slewLeft
  | slewOff
  | slewEnd
  | phaseStage
  | lastChange
  | ppsRun
  | ppsLast
  | ppsSkipped
  | frameAt
  | lockRun
  | refLock
  | refSum
  | refN
  | refBad
  | freqErr
  | freqCorr
  | refRun
  | model
  | alignTerm
  | steerHist
  | lastT
  | tempStale
  | limitRaised
  | validBefore
  | xoFailed
  | gen (k : Fin 16) | genAll
  | loopP (k : Fin 8) | loopPAll
  | loopF (k : Fin 8) | loopFAll
  | recF (k : Fin 32) | recFAll
  deriving DecidableEq, Repr

/-- A part stands alike in two. -/
def TimebasePart.same (x y : Timebase) : TimebasePart → Prop
  | .lock => y.lock = x.lock
  | .ppsOk => y.ppsOk = x.ppsOk
  | .refOk => y.refOk = x.refOk
  | .cascOk => y.cascOk = x.cascOk
  | .conflict => y.conflict = x.conflict
  | .freqOnly => y.freqOnly = x.freqOnly
  | .todUnset => y.todUnset = x.todUnset
  | .todLoaded => y.todLoaded = x.todLoaded
  | .todInvalid => y.todInvalid = x.todInvalid
  | .steering => y.steering = x.steering
  | .phaseErr => y.phaseErr = x.phaseErr
  | .holdoverTime => y.holdoverTime = x.holdoverTime
  | .errBound => y.errBound = x.errBound
  | .changes => y.changes = x.changes
  | .discarded => y.discarded = x.discarded
  | .tod => y.tod = x.tod
  | .todNext => y.todNext = x.todNext
  | .steps => y.steps = x.steps
  | .stepPending => y.stepPending = x.stepPending
  | .slewLeft => y.slewLeft = x.slewLeft
  | .slewOff => y.slewOff = x.slewOff
  | .slewEnd => y.slewEnd = x.slewEnd
  | .phaseStage => y.phaseStage = x.phaseStage
  | .lastChange => y.lastChange = x.lastChange
  | .ppsRun => y.ppsRun = x.ppsRun
  | .ppsLast => y.ppsLast = x.ppsLast
  | .ppsSkipped => y.ppsSkipped = x.ppsSkipped
  | .frameAt => y.frameAt = x.frameAt
  | .lockRun => y.lockRun = x.lockRun
  | .refLock => y.refLock = x.refLock
  | .refSum => y.refSum = x.refSum
  | .refN => y.refN = x.refN
  | .refBad => y.refBad = x.refBad
  | .freqErr => y.freqErr = x.freqErr
  | .freqCorr => y.freqCorr = x.freqCorr
  | .refRun => y.refRun = x.refRun
  | .model => y.model = x.model
  | .alignTerm => y.alignTerm = x.alignTerm
  | .steerHist => y.steerHist = x.steerHist
  | .lastT => y.lastT = x.lastT
  | .tempStale => y.tempStale = x.tempStale
  | .limitRaised => y.limitRaised = x.limitRaised
  | .validBefore => y.validBefore = x.validBefore
  | .xoFailed => y.xoFailed = x.xoFailed
  | .gen k => y.gen[k] = x.gen[k]
  | .genAll => True
  | .loopP k => y.loopP[k] = x.loopP[k]
  | .loopPAll => True
  | .loopF k => y.loopF[k] = x.loopF[k]
  | .loopFAll => True
  | .recF k => y.recF[k] = x.recF[k]
  | .recFAll => True

/-- The part that stands for all the elements of which a part is one; the part itself where it is none. -/
def TimebasePart.whole : TimebasePart → TimebasePart
  | .gen _ => .genAll
  | .loopP _ => .loopPAll
  | .loopF _ => .loopFAll
  | .recF _ => .recFAll
  | x => x

/-- The parts of `Measure`; a part whose name ends in All stands for every element of its vector or list. -/
inductive MeasurePart
  | ch (k : Fin 48) | chAll
  | modu (k : Fin 52) | moduAll
  | pool
  | slots (k : Fin 4) | slotsAll
  | swaps
  | swapAborts
  | rho
  | rhoNext
  | rhoFrozen
  | pairFails (k : Fin 2) | pairFailsAll
  | refFails
  | refFail
  | win (k : Fin 8) | winAll
  | phaseI (k : Fin 32) | phaseIAll
  | imonV (k : Fin 32) | imonVAll
  | stI10 (k : Fin 4) | stI10All
  | stI1 (k : Fin 4) | stI1All
  | bvs (k : Fin 16) | bvsAll
  | hka (k : Fin 4) | hkaAll
  | hkSum (k : Fin 20) | hkSumAll
  | hkN (k : Fin 20) | hkNAll
  | hkMean (k : Fin 20) | hkMeanAll
  | vcoreTap
  | vanaTap
  | committed
  | calWork
  | calHalf (k : Fin 2) | calHalfAll
  | calDiffers
  | calWriting
  | cap
  | calPrev
  deriving DecidableEq, Repr

/-- A part stands alike in two. -/
def MeasurePart.same (x y : Measure) : MeasurePart → Prop
  | .ch k => y.ch[k] = x.ch[k]
  | .chAll => True
  | .modu k => y.modu[k] = x.modu[k]
  | .moduAll => True
  | .pool => y.pool = x.pool
  | .slots k => y.slots[k] = x.slots[k]
  | .slotsAll => True
  | .swaps => y.swaps = x.swaps
  | .swapAborts => y.swapAborts = x.swapAborts
  | .rho => y.rho = x.rho
  | .rhoNext => y.rhoNext = x.rhoNext
  | .rhoFrozen => y.rhoFrozen = x.rhoFrozen
  | .pairFails k => y.pairFails[k] = x.pairFails[k]
  | .pairFailsAll => True
  | .refFails => y.refFails = x.refFails
  | .refFail => y.refFail = x.refFail
  | .win k => y.win[k] = x.win[k]
  | .winAll => True
  | .phaseI k => y.phaseI[k] = x.phaseI[k]
  | .phaseIAll => True
  | .imonV k => y.imonV[k] = x.imonV[k]
  | .imonVAll => True
  | .stI10 k => y.stI10[k] = x.stI10[k]
  | .stI10All => True
  | .stI1 k => y.stI1[k] = x.stI1[k]
  | .stI1All => True
  | .bvs k => y.bvs[k] = x.bvs[k]
  | .bvsAll => True
  | .hka k => y.hka[k] = x.hka[k]
  | .hkaAll => True
  | .hkSum k => y.hkSum[k] = x.hkSum[k]
  | .hkSumAll => True
  | .hkN k => y.hkN[k] = x.hkN[k]
  | .hkNAll => True
  | .hkMean k => y.hkMean[k] = x.hkMean[k]
  | .hkMeanAll => True
  | .vcoreTap => y.vcoreTap = x.vcoreTap
  | .vanaTap => y.vanaTap = x.vanaTap
  | .committed => y.committed = x.committed
  | .calWork => y.calWork = x.calWork
  | .calHalf k => y.calHalf[k] = x.calHalf[k]
  | .calHalfAll => True
  | .calDiffers => y.calDiffers = x.calDiffers
  | .calWriting => y.calWriting = x.calWriting
  | .cap => y.cap = x.cap
  | .calPrev => y.calPrev = x.calPrev

/-- The part that stands for all the elements of which a part is one; the part itself where it is none. -/
def MeasurePart.whole : MeasurePart → MeasurePart
  | .ch _ => .chAll
  | .modu _ => .moduAll
  | .slots _ => .slotsAll
  | .pairFails _ => .pairFailsAll
  | .win _ => .winAll
  | .phaseI _ => .phaseIAll
  | .imonV _ => .imonVAll
  | .stI10 _ => .stI10All
  | .stI1 _ => .stI1All
  | .bvs _ => .bvsAll
  | .hka _ => .hkaAll
  | .hkSum _ => .hkSumAll
  | .hkN _ => .hkNAll
  | .hkMean _ => .hkMeanAll
  | .calHalf _ => .calHalfAll
  | x => x

/-- The parts of `Shelf`; a part whose name ends in All stands for every element of its vector or list. -/
inductive ShelfPart
  | running
  | startPending
  | linkOn
  | droop
  | capActive
  | capacity
  | holdup
  | capOverride
  | busOv
  | busUv
  | ffAlt
  | senseAlt
  | curAlt
  | shelfOff
  | mainsLost
  | ref
  | trim
  | trimHeld
  | capHeld
  | heldC
  | presets
  | ffSum
  | ff
  | ffRun
  | y8
  | u
  | c
  | senseBad
  | seq
  | codes (k : Fin 32) | codesAll
  | buffer
  | sent
  | slowNext
  | capShed
  | stages
  | stageNo
  | soc
  | autonomy
  | dischHist
  | rects (k : Fin 32) | rectsAll
  | frames (k : Fin 2) | framesAll
  | readbackFails (k : Fin 2) | readbackFailsAll
  | readbackRun (k : Fin 2) | readbackRunAll
  | slowDone
  | slowTimeouts
  | wrongPort
  | slotOk
  | slotBad
  | heldCopy
  | userSlow
  | slowState
  deriving DecidableEq, Repr

/-- A part stands alike in two. -/
def ShelfPart.same (x y : Shelf) : ShelfPart → Prop
  | .running => y.running = x.running
  | .startPending => y.startPending = x.startPending
  | .linkOn => y.linkOn = x.linkOn
  | .droop => y.droop = x.droop
  | .capActive => y.capActive = x.capActive
  | .capacity => y.capacity = x.capacity
  | .holdup => y.holdup = x.holdup
  | .capOverride => y.capOverride = x.capOverride
  | .busOv => y.busOv = x.busOv
  | .busUv => y.busUv = x.busUv
  | .ffAlt => y.ffAlt = x.ffAlt
  | .senseAlt => y.senseAlt = x.senseAlt
  | .curAlt => y.curAlt = x.curAlt
  | .shelfOff => y.shelfOff = x.shelfOff
  | .mainsLost => y.mainsLost = x.mainsLost
  | .ref => y.ref = x.ref
  | .trim => y.trim = x.trim
  | .trimHeld => y.trimHeld = x.trimHeld
  | .capHeld => y.capHeld = x.capHeld
  | .heldC => y.heldC = x.heldC
  | .presets => y.presets = x.presets
  | .ffSum => y.ffSum = x.ffSum
  | .ff => y.ff = x.ff
  | .ffRun => y.ffRun = x.ffRun
  | .y8 => y.y8 = x.y8
  | .u => y.u = x.u
  | .c => y.c = x.c
  | .senseBad => y.senseBad = x.senseBad
  | .seq => y.seq = x.seq
  | .codes k => y.codes[k] = x.codes[k]
  | .codesAll => True
  | .buffer => y.buffer = x.buffer
  | .sent => y.sent = x.sent
  | .slowNext => y.slowNext = x.slowNext
  | .capShed => y.capShed = x.capShed
  | .stages => y.stages = x.stages
  | .stageNo => y.stageNo = x.stageNo
  | .soc => y.soc = x.soc
  | .autonomy => y.autonomy = x.autonomy
  | .dischHist => y.dischHist = x.dischHist
  | .rects k => y.rects[k] = x.rects[k]
  | .rectsAll => True
  | .frames k => y.frames[k] = x.frames[k]
  | .framesAll => True
  | .readbackFails k => y.readbackFails[k] = x.readbackFails[k]
  | .readbackFailsAll => True
  | .readbackRun k => y.readbackRun[k] = x.readbackRun[k]
  | .readbackRunAll => True
  | .slowDone => y.slowDone = x.slowDone
  | .slowTimeouts => y.slowTimeouts = x.slowTimeouts
  | .wrongPort => y.wrongPort = x.wrongPort
  | .slotOk => y.slotOk = x.slotOk
  | .slotBad => y.slotBad = x.slotBad
  | .heldCopy => y.heldCopy = x.heldCopy
  | .userSlow => y.userSlow = x.userSlow
  | .slowState => y.slowState = x.slowState

/-- The part that stands for all the elements of which a part is one; the part itself where it is none. -/
def ShelfPart.whole : ShelfPart → ShelfPart
  | .codes _ => .codesAll
  | .rects _ => .rectsAll
  | .frames _ => .framesAll
  | .readbackFails _ => .readbackFailsAll
  | .readbackRun _ => .readbackRunAll
  | x => x

/-- The parts of `Dist`; a part whose name ends in All stands for every element of its vector or list. -/
inductive DistPart
  | br (k : Fin 16) | brAll
  | feed (k : Fin 2) | feedAll
  | str (k : Fin 4) | strAll
  | quench
  | quenchIn
  | quenchOut
  | quenchIgnore
  | committed
  deriving DecidableEq, Repr

/-- A part stands alike in two. -/
def DistPart.same (x y : Dist) : DistPart → Prop
  | .br k => y.br[k] = x.br[k]
  | .brAll => True
  | .feed k => y.feed[k] = x.feed[k]
  | .feedAll => True
  | .str k => y.str[k] = x.str[k]
  | .strAll => True
  | .quench => y.quench = x.quench
  | .quenchIn => y.quenchIn = x.quenchIn
  | .quenchOut => y.quenchOut = x.quenchOut
  | .quenchIgnore => y.quenchIgnore = x.quenchIgnore
  | .committed => y.committed = x.committed

/-- The part that stands for all the elements of which a part is one; the part itself where it is none. -/
def DistPart.whole : DistPart → DistPart
  | .br _ => .brAll
  | .feed _ => .feedAll
  | .str _ => .strAll
  | x => x

/-- The parts of `Battery`; a part whose name ends in All stands for every element of its vector or list. -/
inductive BatteryPart
  | str (k : Fin 4) | strAll
  | copies (k : Fin 2) | copiesAll
  | writing
  | writeData
  | deferred
  | modelDue
  | writes
  | seq
  | committed
  deriving DecidableEq, Repr

/-- A part stands alike in two. -/
def BatteryPart.same (x y : Battery) : BatteryPart → Prop
  | .str k => y.str[k] = x.str[k]
  | .strAll => True
  | .copies k => y.copies[k] = x.copies[k]
  | .copiesAll => True
  | .writing => y.writing = x.writing
  | .writeData => y.writeData = x.writeData
  | .deferred => y.deferred = x.deferred
  | .modelDue => y.modelDue = x.modelDue
  | .writes => y.writes = x.writes
  | .seq => y.seq = x.seq
  | .committed => y.committed = x.committed

/-- The part that stands for all the elements of which a part is one; the part itself where it is none. -/
def BatteryPart.whole : BatteryPart → BatteryPart
  | .str _ => .strAll
  | .copies _ => .copiesAll
  | x => x

/-- The parts of `Seq`; a part whose name ends in All stands for every element of its vector or list. -/
inductive SeqPart
  | sysOn
  | st
  | privFail
  | resets
  | upSince
  | resetAfter
  | latchAfter
  | onAfter
  | groupCmd
  | groupsDown
  | rail (k : Fin 32) | railAll
  | order
  | queue
  | stoppingNow
  | committed
  deriving DecidableEq, Repr

/-- A part stands alike in two. -/
def SeqPart.same (x y : Seq) : SeqPart → Prop
  | .sysOn => y.sysOn = x.sysOn
  | .st => y.st = x.st
  | .privFail => y.privFail = x.privFail
  | .resets => y.resets = x.resets
  | .upSince => y.upSince = x.upSince
  | .resetAfter => y.resetAfter = x.resetAfter
  | .latchAfter => y.latchAfter = x.latchAfter
  | .onAfter => y.onAfter = x.onAfter
  | .groupCmd => y.groupCmd = x.groupCmd
  | .groupsDown => y.groupsDown = x.groupsDown
  | .rail k => y.rail[k] = x.rail[k]
  | .railAll => True
  | .order => y.order = x.order
  | .queue => y.queue = x.queue
  | .stoppingNow => y.stoppingNow = x.stoppingNow
  | .committed => y.committed = x.committed

/-- The part that stands for all the elements of which a part is one; the part itself where it is none. -/
def SeqPart.whole : SeqPart → SeqPart
  | .rail _ => .railAll
  | x => x

/-- The parts of `Thermal`; a part whose name ends in All stands for every element of its vector or list. -/
inductive ThermalPart
  | sensor (k : Fin 16) | sensorAll
  | lockout
  | lockSensors
  | shutdowns
  | f (k : Fin 8) | fAll
  deriving DecidableEq, Repr

/-- A part stands alike in two. -/
def ThermalPart.same (x y : Thermal) : ThermalPart → Prop
  | .sensor k => y.sensor[k] = x.sensor[k]
  | .sensorAll => True
  | .lockout => y.lockout = x.lockout
  | .lockSensors => y.lockSensors = x.lockSensors
  | .shutdowns => y.shutdowns = x.shutdowns
  | .f k => y.f[k] = x.f[k]
  | .fAll => True

/-- The part that stands for all the elements of which a part is one; the part itself where it is none. -/
def ThermalPart.whole : ThermalPart → ThermalPart
  | .sensor _ => .sensorAll
  | .f _ => .fAll
  | x => x

/-- The parts of `Eng`; a part whose name ends in All stands for every element of its vector or list. -/
inductive EngPart
  | eng (k : Fin 8) | engAll
  | setDone
  | load (k : Fin 8) | loadAll
  | host (k : Fin 8) | hostAll
  | sysExpiries
  | sysPending
  | epoch (k : Fin 11) | epochAll
  | service
  | fullIrq
  | db (k : Fin 11) | dbAll
  | dbMask (k : Fin 11) | dbMaskAll
  | orphans
  | txLen
  | txQueue
  | txData (k : Fin 14) | txDataAll
  | postResult
  | postSlot
  | postReason
  | postSeq
  | queue (k : Fin 64) | queueAll
  | lock (k : Fin 64) | lockAll
  | arm (k : Fin 11) | armAll
  | foreign
  | lockRead
  deriving DecidableEq, Repr

/-- A part stands alike in two. -/
def EngPart.same (x y : Eng) : EngPart → Prop
  | .eng k => y.eng[k] = x.eng[k]
  | .engAll => True
  | .setDone => y.setDone = x.setDone
  | .load k => y.load[k] = x.load[k]
  | .loadAll => True
  | .host k => y.host[k] = x.host[k]
  | .hostAll => True
  | .sysExpiries => y.sysExpiries = x.sysExpiries
  | .sysPending => y.sysPending = x.sysPending
  | .epoch k => y.epoch[k] = x.epoch[k]
  | .epochAll => True
  | .service => y.service = x.service
  | .fullIrq => y.fullIrq = x.fullIrq
  | .db k => y.db[k] = x.db[k]
  | .dbAll => True
  | .dbMask k => y.dbMask[k] = x.dbMask[k]
  | .dbMaskAll => True
  | .orphans => y.orphans = x.orphans
  | .txLen => y.txLen = x.txLen
  | .txQueue => y.txQueue = x.txQueue
  | .txData k => y.txData[k] = x.txData[k]
  | .txDataAll => True
  | .postResult => y.postResult = x.postResult
  | .postSlot => y.postSlot = x.postSlot
  | .postReason => y.postReason = x.postReason
  | .postSeq => y.postSeq = x.postSeq
  | .queue k => y.queue[k] = x.queue[k]
  | .queueAll => True
  | .lock k => y.lock[k] = x.lock[k]
  | .lockAll => True
  | .arm k => y.arm[k] = x.arm[k]
  | .armAll => True
  | .foreign => y.foreign = x.foreign
  | .lockRead => y.lockRead = x.lockRead

/-- The part that stands for all the elements of which a part is one; the part itself where it is none. -/
def EngPart.whole : EngPart → EngPart
  | .eng _ => .engAll
  | .load _ => .loadAll
  | .host _ => .hostAll
  | .epoch _ => .epochAll
  | .db _ => .dbAll
  | .dbMask _ => .dbMaskAll
  | .txData _ => .txDataAll
  | .queue _ => .queueAll
  | .lock _ => .lockAll
  | .arm _ => .armAll
  | x => x

/-- The parts of `Net`; a part whose name ends in All stands for every element of its vector or list. -/
inductive NetPart
  | force (k : Nat) | forceAll
  | shadow
  | claim
  | rw (k : Nat) | rwAll
  | sess (k : Fin 3) | sessAll
  | commit
  | store (k : Fin 2) | storeAll
  | storing
  | batch
  | batchAt
  | errs
  | port (k : Fin 2) | portAll
  | emcy (k : Fin 2)
  | spiCrc
  | spiFrames
  | spiData
  | spiStat
  | tunnelReq
  | pm (k : Fin 32) | pmAll
  | pmXfer (k : Fin 2) | pmXferAll
  deriving DecidableEq, Repr

/-- A part stands alike in two. -/
def NetPart.same (x y : Net) : NetPart → Prop
  | .force k => y.force.lookup k = x.force.lookup k
  | .forceAll => True
  | .shadow => y.shadow = x.shadow
  | .claim => y.claim = x.claim
  | .rw k => y.rw.lookup k = x.rw.lookup k
  | .rwAll => True
  | .sess k => y.sess[k] = x.sess[k]
  | .sessAll => True
  | .commit => y.commit = x.commit
  | .store k => y.store[k] = x.store[k]
  | .storeAll => True
  | .storing => y.storing = x.storing
  | .batch => y.batch = x.batch
  | .batchAt => y.batchAt = x.batchAt
  | .errs => y.errs = x.errs
  | .port k => { y.port[k] with emcy := x.port[k].emcy } = x.port[k]
  | .portAll => True
  | .emcy k => y.port[k].emcy = x.port[k].emcy
  | .spiCrc => y.spiCrc = x.spiCrc
  | .spiFrames => y.spiFrames = x.spiFrames
  | .spiData => y.spiData = x.spiData
  | .spiStat => y.spiStat = x.spiStat
  | .tunnelReq => y.tunnelReq = x.tunnelReq
  | .pm k => y.pm[k] = x.pm[k]
  | .pmAll => True
  | .pmXfer k => y.pmXfer[k] = x.pmXfer[k]
  | .pmXferAll => True

/-- The part that stands for all the elements of which a part is one; the part itself where it is none. -/
def NetPart.whole : NetPart → NetPart
  | .force _ => .forceAll
  | .rw _ => .rwAll
  | .sess _ => .sessAll
  | .store _ => .storeAll
  | .port _ => .portAll
  | .pm _ => .pmAll
  | .pmXfer _ => .pmXferAll
  | x => x

/-- The parts of `Twin`; a part whose name ends in All stands for every element of its vector or list. -/
inductive TwinPart
  | st
  | peerSerial
  | peerHash
  | reason
  | takeovers
  | invalid
  | err
  | delay (k : Fin 5) | delayAll
  | giveUp
  | tolerance
  | side
  | mayPair
  | peer
  | linkUp
  | validRun
  | alignedSince
  | lastSeq
  | mirror
  | driveWait
  | released
  | outgoing
  | missed
  | awaitPeer
  | sent
  | proxyOut
  | proxyIn
  deriving DecidableEq, Repr

/-- A part stands alike in two. -/
def TwinPart.same (x y : Twin) : TwinPart → Prop
  | .st => y.st = x.st
  | .peerSerial => y.peerSerial = x.peerSerial
  | .peerHash => y.peerHash = x.peerHash
  | .reason => y.reason = x.reason
  | .takeovers => y.takeovers = x.takeovers
  | .invalid => y.invalid = x.invalid
  | .err => y.err = x.err
  | .delay k => y.delay[k] = x.delay[k]
  | .delayAll => True
  | .giveUp => y.giveUp = x.giveUp
  | .tolerance => y.tolerance = x.tolerance
  | .side => y.side = x.side
  | .mayPair => y.mayPair = x.mayPair
  | .peer => y.peer = x.peer
  | .linkUp => y.linkUp = x.linkUp
  | .validRun => y.validRun = x.validRun
  | .alignedSince => y.alignedSince = x.alignedSince
  | .lastSeq => y.lastSeq = x.lastSeq
  | .mirror => y.mirror = x.mirror
  | .driveWait => y.driveWait = x.driveWait
  | .released => y.released = x.released
  | .outgoing => y.outgoing = x.outgoing
  | .missed => y.missed = x.missed
  | .awaitPeer => y.awaitPeer = x.awaitPeer
  | .sent => y.sent = x.sent
  | .proxyOut => y.proxyOut = x.proxyOut
  | .proxyIn => y.proxyIn = x.proxyIn

/-- The part that stands for all the elements of which a part is one; the part itself where it is none. -/
def TwinPart.whole : TwinPart → TwinPart
  | .delay _ => .delayAll
  | x => x

/-- The parts of `Casc`; a part whose name ends in All stands for every element of its vector or list. -/
inductive CascPart
  | st
  | master
  | alloc
  | allocNext
  | allocAt
  | number
  | allocs (k : Fin 8) | allocsAll
  | pReq (k : Fin 8) | pReqAll
  | pMax (k : Fin 8) | pMaxAll
  | w (k : Fin 8) | wAll
  | soc (k : Fin 8) | socAll
  | reportAt (k : Fin 8) | reportAtAll
  | demote
  | lockRun
  | err
  | forwarded
  | relay
  | reversed
  deriving DecidableEq, Repr

/-- A part stands alike in two. -/
def CascPart.same (x y : Casc) : CascPart → Prop
  | .st => y.st = x.st
  | .master => y.master = x.master
  | .alloc => y.alloc = x.alloc
  | .allocNext => y.allocNext = x.allocNext
  | .allocAt => y.allocAt = x.allocAt
  | .number => y.number = x.number
  | .allocs k => y.allocs[k] = x.allocs[k]
  | .allocsAll => True
  | .pReq k => y.pReq[k] = x.pReq[k]
  | .pReqAll => True
  | .pMax k => y.pMax[k] = x.pMax[k]
  | .pMaxAll => True
  | .w k => y.w[k] = x.w[k]
  | .wAll => True
  | .soc k => y.soc[k] = x.soc[k]
  | .socAll => True
  | .reportAt k => y.reportAt[k] = x.reportAt[k]
  | .reportAtAll => True
  | .demote => y.demote = x.demote
  | .lockRun => y.lockRun = x.lockRun
  | .err => y.err = x.err
  | .forwarded => y.forwarded = x.forwarded
  | .relay => y.relay = x.relay
  | .reversed => y.reversed = x.reversed

/-- The part that stands for all the elements of which a part is one; the part itself where it is none. -/
def CascPart.whole : CascPart → CascPart
  | .allocs _ => .allocsAll
  | .pReq _ => .pReqAll
  | .pMax _ => .pMaxAll
  | .w _ => .wAll
  | .soc _ => .socAll
  | .reportAt _ => .reportAtAll
  | x => x

/-- The parts of `Rst`; a part whose name ends in All stands for every element of its vector or list. -/
inductive RstPart
  | cause
  | warm
  | multiple
  | stallStep
  | phase
  | scope
  | warmCount
  | coldCount
  | stalls
  | blkLast
  | blkForced
  | blk
  | devTrimOk
  | calSetOk
  | devTrimFallback
  | calSetFallback
  | protective
  | trimFailed
  | lastRelease
  | romStays
  | supplyOk
  | owed
  | bootDue
  | canARom
  deriving DecidableEq, Repr

/-- A part stands alike in two. -/
def RstPart.same (x y : Rst) : RstPart → Prop
  | .cause => y.cause = x.cause
  | .warm => y.warm = x.warm
  | .multiple => y.multiple = x.multiple
  | .stallStep => y.stallStep = x.stallStep
  | .phase => y.phase = x.phase
  | .scope => y.scope = x.scope
  | .warmCount => y.warmCount = x.warmCount
  | .coldCount => y.coldCount = x.coldCount
  | .stalls => y.stalls = x.stalls
  | .blkLast => y.blkLast = x.blkLast
  | .blkForced => y.blkForced = x.blkForced
  | .blk => y.blk = x.blk
  | .devTrimOk => y.devTrimOk = x.devTrimOk
  | .calSetOk => y.calSetOk = x.calSetOk
  | .devTrimFallback => y.devTrimFallback = x.devTrimFallback
  | .calSetFallback => y.calSetFallback = x.calSetFallback
  | .protective => y.protective = x.protective
  | .trimFailed => y.trimFailed = x.trimFailed
  | .lastRelease => y.lastRelease = x.lastRelease
  | .romStays => y.romStays = x.romStays
  | .supplyOk => y.supplyOk = x.supplyOk
  | .owed => y.owed = x.owed
  | .bootDue => y.bootDue = x.bootDue
  | .canARom => y.canARom = x.canARom

/-- The parts of `Mem`; a part whose name ends in All stands for every element of its vector or list. -/
inductive MemPart
  | mainCorr
  | queueCorr
  | mainUnc
  | queueUnc
  | mramCorr
  | mramUnc
  | eccAddr
  | eccInfo
  | nvEccAddr
  | lastAddr
  | scrubPos
  | scrubPasses
  | passTime
  | passFrom (k : Fin 3) | passFromAll
  | badWords
  | hour
  | hourCorr (k : Fin 3) | hourCorrAll
  | hourRaised (k : Fin 3) | hourRaisedAll
  | nvResult
  | nvBusy
  | nvAddr
  | nvData0
  | nvData1
  | user
  deriving DecidableEq, Repr

/-- A part stands alike in two. -/
def MemPart.same (x y : Mem) : MemPart → Prop
  | .mainCorr => y.mainCorr = x.mainCorr
  | .queueCorr => y.queueCorr = x.queueCorr
  | .mainUnc => y.mainUnc = x.mainUnc
  | .queueUnc => y.queueUnc = x.queueUnc
  | .mramCorr => y.mramCorr = x.mramCorr
  | .mramUnc => y.mramUnc = x.mramUnc
  | .eccAddr => y.eccAddr = x.eccAddr
  | .eccInfo => y.eccInfo = x.eccInfo
  | .nvEccAddr => y.nvEccAddr = x.nvEccAddr
  | .lastAddr => y.lastAddr = x.lastAddr
  | .scrubPos => y.scrubPos = x.scrubPos
  | .scrubPasses => y.scrubPasses = x.scrubPasses
  | .passTime => y.passTime = x.passTime
  | .passFrom k => y.passFrom[k] = x.passFrom[k]
  | .passFromAll => True
  | .badWords => y.badWords = x.badWords
  | .hour => y.hour = x.hour
  | .hourCorr k => y.hourCorr[k] = x.hourCorr[k]
  | .hourCorrAll => True
  | .hourRaised k => y.hourRaised[k] = x.hourRaised[k]
  | .hourRaisedAll => True
  | .nvResult => y.nvResult = x.nvResult
  | .nvBusy => y.nvBusy = x.nvBusy
  | .nvAddr => y.nvAddr = x.nvAddr
  | .nvData0 => y.nvData0 = x.nvData0
  | .nvData1 => y.nvData1 = x.nvData1
  | .user => y.user = x.user

/-- The part that stands for all the elements of which a part is one; the part itself where it is none. -/
def MemPart.whole : MemPart → MemPart
  | .passFrom _ => .passFromAll
  | .hourCorr _ => .hourCorrAll
  | .hourRaised _ => .hourRaisedAll
  | x => x

/-- The parts of `Recorder`; a part whose name ends in All stands for every element of its vector or list. -/
inductive RecorderPart
  | running
  | clearing
  | next
  | recs
  | staging
  | torn
  | lost
  | written
  | win (k : Fin 3) | winAll
  | clearRefused
  | trig (k : Fin 64) | trigAll
  deriving DecidableEq, Repr

/-- A part stands alike in two. -/
def RecorderPart.same (x y : Recorder) : RecorderPart → Prop
  | .running => y.running = x.running
  | .clearing => y.clearing = x.clearing
  | .next => y.next = x.next
  | .recs => y.recs = x.recs
  | .staging => y.staging = x.staging
  | .torn => y.torn = x.torn
  | .lost => y.lost = x.lost
  | .written => y.written = x.written
  | .win k => y.win[k] = x.win[k]
  | .winAll => True
  | .clearRefused => y.clearRefused = x.clearRefused
  | .trig k => y.trig[k] = x.trig[k]
  | .trigAll => True

/-- The part that stands for all the elements of which a part is one; the part itself where it is none. -/
def RecorderPart.whole : RecorderPart → RecorderPart
  | .win _ => .winAll
  | .trig _ => .trigAll
  | x => x

/-- The parts of `Upd`; a part whose name ends in All stands for every element of its vector or list. -/
inductive UpdPart
  | slot (k : Fin 2) | slotAll
  | active
  | phase
  | live
  | liveTodo
  | liveDone
  | liveBack
  | liveVerify
  | stat
  | lastCode
  | next
  | total
  | data (k : Fin 16) | dataAll
  | version
  | prevVersion
  | floor
  | expired
  | revertWhy
  | bootOk
  | life
  | target
  | transitions
  | transTime
  | wipePending
  | keySel
  | key (k : Fin 9) | keyAll
  | revoked
  | serial
  deriving DecidableEq, Repr

/-- A part stands alike in two. -/
def UpdPart.same (x y : Upd) : UpdPart → Prop
  | .slot k => y.slot[k] = x.slot[k]
  | .slotAll => True
  | .active => y.active = x.active
  | .phase => y.phase = x.phase
  | .live => y.live = x.live
  | .liveTodo => y.liveTodo = x.liveTodo
  | .liveDone => y.liveDone = x.liveDone
  | .liveBack => y.liveBack = x.liveBack
  | .liveVerify => y.liveVerify = x.liveVerify
  | .stat => y.stat = x.stat
  | .lastCode => y.lastCode = x.lastCode
  | .next => y.next = x.next
  | .total => y.total = x.total
  | .data k => y.data[k] = x.data[k]
  | .dataAll => True
  | .version => y.version = x.version
  | .prevVersion => y.prevVersion = x.prevVersion
  | .floor => y.floor = x.floor
  | .expired => y.expired = x.expired
  | .revertWhy => y.revertWhy = x.revertWhy
  | .bootOk => y.bootOk = x.bootOk
  | .life => y.life = x.life
  | .target => y.target = x.target
  | .transitions => y.transitions = x.transitions
  | .transTime => y.transTime = x.transTime
  | .wipePending => y.wipePending = x.wipePending
  | .keySel => y.keySel = x.keySel
  | .key k => y.key[k] = x.key[k]
  | .keyAll => True
  | .revoked => y.revoked = x.revoked
  | .serial => y.serial = x.serial

/-- The part that stands for all the elements of which a part is one; the part itself where it is none. -/
def UpdPart.whole : UpdPart → UpdPart
  | .slot _ => .slotAll
  | .data _ => .dataAll
  | .key _ => .keyAll
  | x => x

/-- The parts of the state; `timer` is one timer's deadline. -/
inductive Part
  | pending
  | now
  | timer (x : TimerId) | timers
  | free
  | arch (f : ArchPart)
  | pins (f : PinsPart)
  | tb (f : TimebasePart)
  | meas (f : MeasurePart)
  | lane (k : Fin 12) | laneAll
  | snap (k : Fin 12) | snapAll
  | phase (k : Fin 32) | phaseAll
  | loop (k : Fin 8) | loopAll
  | shelf (f : ShelfPart)
  | dist (f : DistPart)
  | bat (f : BatteryPart)
  | seq (f : SeqPart)
  | thm (f : ThermalPart)
  | eng (f : EngPart)
  | net (f : NetPart)
  | twin (f : TwinPart)
  | casc (f : CascPart)
  | rst (f : RstPart)
  | mem (f : MemPart)
  | evr (f : RecorderPart)
  | upd (f : UpdPart)
  deriving DecidableEq, Repr

/-- A part stands alike in two states. -/
def Part.same (s t : State) : Part → Prop
  | .pending => t.pending = s.pending
  | .now => t.now = s.now
  | .timer x => t.deadline x = s.deadline x
  | .timers => True
  | .free => t.free = s.free
  | .arch f => f.same s.arch t.arch
  | .pins f => f.same s.pins t.pins
  | .tb f => f.same s.tb t.tb
  | .meas f => f.same s.meas t.meas
  | .lane k => t.lane[k] = s.lane[k]
  | .laneAll => True
  | .snap k => t.snap[k] = s.snap[k]
  | .snapAll => True
  | .phase k => t.phase[k] = s.phase[k]
  | .phaseAll => True
  | .loop k => t.loop[k] = s.loop[k]
  | .loopAll => True
  | .shelf f => f.same s.shelf t.shelf
  | .dist f => f.same s.dist t.dist
  | .bat f => f.same s.bat t.bat
  | .seq f => f.same s.seq t.seq
  | .thm f => f.same s.thm t.thm
  | .eng f => f.same s.eng t.eng
  | .net f => f.same s.net t.net
  | .twin f => f.same s.twin t.twin
  | .casc f => f.same s.casc t.casc
  | .rst f => f.same s.rst t.rst
  | .mem f => f.same s.mem t.mem
  | .evr f => f.same s.evr t.evr
  | .upd f => f.same s.upd t.upd

/-- The part that stands for all the elements of which a part is one; the part itself where it is none. -/
def Part.whole : Part → Part
  | .timer _ => .timers
  | .arch f => .arch f.whole
  | .pins f => .pins f.whole
  | .tb f => .tb f.whole
  | .meas f => .meas f.whole
  | .lane _ => .laneAll
  | .snap _ => .snapAll
  | .phase _ => .phaseAll
  | .loop _ => .loopAll
  | .shelf f => .shelf f.whole
  | .dist f => .dist f.whole
  | .bat f => .bat f.whole
  | .seq f => .seq f.whole
  | .thm f => .thm f.whole
  | .eng f => .eng f.whole
  | .net f => .net f.whole
  | .twin f => .twin f.whole
  | .casc f => .casc f.whole
  | .mem f => .mem f.whole
  | .evr f => .evr f.whole
  | .upd f => .upd f.whole
  | p => p

/-- Every part stands as before, but those of a list and the elements of those that stand for all elements. -/
def KeepsBut (l : List Part) (s t : State) : Prop := ∀ p, p ∉ l → p.whole ∉ l → p.same s t

/-- One part for each of the first n timers of a kind. -/
def Part.each (n : Nat) (f : Nat → TimerId) : List Part := (List.range n).map fun k => .timer (f k)

/-- The parts that a raised code goes through (R443, R445, R478, R481): staging or the count of lost records with its once-a-second limit, the
triggers, the fault batch, and, as an older batch closes, the error field, its EMCYs and the TPDOs that its change makes due. -/
def Part.raised : List Part :=
  [.evr .staging, .evr .lost, .evr .trigAll, .net .batch, .net .batchAt, .net .errs, .net (.emcy 0), .net (.emcy 1), .timer .recordsLost,
    .timer (.tpdo 0 2), .timer (.tpdo 1 2)]

end Sys2Proof.Machine
end

