-- ==== Sys2Proof/Safety.lean ====
section
/-! DEFINITION. What the statements speak of: a command that completes, what a step keeps, what it records, what it arms, and the invariant
that every step keeps. -/

namespace Sys2Proof.Machine

/-- The command has its effect in this state: exec answers a next state, of which `P` holds. -/
def Completes (c : Instr) (s : State) (P : State → Prop) : Prop := ∃ t, exec c s = .next t ∧ P t

/-- A code is raised (R443, R478): its record waits in staging, unless staging was full, where it is lost; a fault also waits in the batch of
the microsecond, with its instance. -/
def Raised (code inst : Nat) (vals : List Nat) (s t : State) : Prop :=
  (s.evr.staging.length < 16 → ∃ r ∈ t.evr.staging, r.code = code ∧ r.inst = inst ∧ r.vals = vals.take 120) ∧
  (isEvent code = false → (⟨code, inst⟩ : ErrEntry) ∈ t.net.batch)

/-- A timer runs and ends a given time after this state's instant. -/
def Ends (x : TimerId) (dt : Nat) (s t : State) : Prop := t.deadline x = some (s.now + dt)

/-- A timer is not running. -/
def Stopped (x : TimerId) (t : State) : Prop := t.deadline x = none

/-- A session may write an object with these data: its server answers, in recovery only for the objects of the ROM, and the checks of R484
that do not look into the object pass. -/
def State.admits (s : State) (w : Session) (idx sub : Nat) (d : List Byte) : Bool :=
  s.serves w && (decide (s.rst.phase ≠ .recovery) || romObject idx) &&
    decide (s.checkWrite (some w) (s.roleOf w) idx sub d none false none = .pass)

/-- A session's last request has this answer. -/
def Answered (w : Session) (a : Answer) (t : State) : Prop := (t.net.sess[sessIx w]).answer = a

/-- What every step keeps: the user area's canonical form (R437), the core voltage's range (R28), and at most four events in each bridge's
buffer (R25). -/
def State.Inv (s : State) : Prop :=
  Memory.wf s.mem.user = true ∧ (550 ≤ s.arch.vcoreMv ∧ s.arch.vcoreMv ≤ 850) ∧ ∀ b : Fin 9, (s.arch.bridges[b]).length ≤ 4

end Sys2Proof.Machine
end

