-- ==== Sys2Proof/Certificates/Slice0/Obligations.lean ====
section
/-! DEFINITION. What is stated of the model: one definition for each statement, its clauses with the rules they follow. A clause's list after
KeepsBut names the parts of the state that the command may change; every other part stands as before. -/

set_option linter.unusedVariables false

open Sys2Proof Sys2Proof.Machine

/-- A bridge buffers or discards an event; the adaptive loop raises, holds or lowers VCORE; low slack raises the faults of R30. ISLAND_EVENT appends the
event to a bridge's buffer of fewer than four events and changes nothing else; at a full buffer it records 0x0B03 with the bridge's number and the
buffer stands. VCORE_INTERVAL, while the timebase runs and a least slack m of unit u was reported in the interval, makes m and u the last slack and
its unit and clears the interval: with m below the target of 0x3808:01 and no emergency raise at this instant VCORE rises 10 mV, at most to 850 mV,
the run of high intervals ends, and the count of raises at 850 mV goes on where VCORE stood there and is 0 otherwise; with m from the target to less
than target + 0.05 VCORE stands and the run ends; with m at or above target + 0.05 the run, shorter than ten, counts one more, and the tenth lowers
VCORE by 5 mV, at least to 550 mV, and starts the run again, unless lowering is held (R29), where it goes on counting. VCORE_CEILING, VCORE at 850 mV
and ten counts there, records 0x0B01, clears the count and counts the event. SLACK_COLLAPSE, VCORE at 850 mV, three low periods of the unit and the
chip not the active one of a pair, records 0x0B02 and clears the unit's run. TASK_ACTIVATION of a set whose engine runs enters the period's slack into
the minimum since reset, counts a period below 0.05 in the unit's run or ends it, and below 0.05 raises VCORE by 25 mV, at most to 850 mV, from where
it stood before an interval raise of the same instant. Each clause gives its conditions; the list after its KeepsBut names every part of the state
that may change, and all others stand; a reset's clause says what stays. -/
def Obligations.SlackLoopMovesTheCoreVoltage : Prop :=
  -- ISLAND_EVENT with room in the buffer (R25).
  (∀ (b : Fin 9) (e : Nat) (s : State),
      (s.arch.bridges[b]).length < 4 →
      Completes (.islandEvent b e) s fun t => t = { s with arch.bridges := s.arch.bridges.set b (s.arch.bridges[b] ++ [e]) }) ∧
  -- ISLAND_EVENT at a full buffer: the buffer keeps its events, and the bridge is recorded (R25).
  (∀ (b : Fin 9) (e : Nat) (s : State),
      4 ≤ (s.arch.bridges[b]).length →
      Completes (.islandEvent b e) s fun t => Raised 0x0B03 b [b] s t ∧ KeepsBut Part.raised s t) ∧
  -- VCORE_INTERVAL below the target, with no emergency raise at this instant (R28).
  (∀ (m : Rat) (u : Nat) (s : State),
      s.tbRuns = true →
      s.arch.interval = some (m, u) →
      m < s.real 0x3808 1 →
      s.arch.emergencyAt ≠ some s.now →
      Completes .vcoreInterval s fun t =>
      t.arch.vcoreMv = min 850 (s.arch.vcoreMv + 10) ∧ t.arch.lowerRun = 0 ∧ t.arch.slackLast = m ∧ t.arch.limitingUnit = u ∧
      t.arch.interval = none ∧ t.arch.raised = some (s.now, s.arch.vcoreMv) ∧
      t.arch.ceilingRun = (if s.arch.vcoreMv = 850 then satInc 10 s.arch.ceilingRun else 0) ∧
        KeepsBut [.arch .ceilingRun, .arch .interval, .arch .slackLast, .arch .limitingUnit, .arch .vcoreMv, .arch .lowerRun, .arch .raised] s t) ∧
  -- VCORE_INTERVAL within 0.05 above the target (R28).
  (∀ (m : Rat) (u : Nat) (s : State),
      s.tbRuns = true →
      s.arch.interval = some (m, u) →
      s.real 0x3808 1 ≤ m →
      m < s.real 0x3808 1 + 1 / 20 →
      Completes .vcoreInterval s fun t =>
      t.arch.vcoreMv = s.arch.vcoreMv ∧ t.arch.lowerRun = 0 ∧ t.arch.slackLast = m ∧ t.arch.limitingUnit = u ∧ t.arch.interval = none ∧
      KeepsBut [.arch .lowerRun, .arch .ceilingRun, .arch .interval, .arch .slackLast, .arch .limitingUnit, .arch .vcoreMv] s t) ∧
  -- VCORE_INTERVAL at or above the target plus 0.05: counted, and the tenth in succession lowers VCORE (R28, R29).
  (∀ (m : Rat) (u : Nat) (s : State),
      s.tbRuns = true →
      s.arch.interval = some (m, u) →
      s.real 0x3808 1 + 1 / 20 ≤ m →
      s.real 0x3808 1 ≤ m →
      s.arch.lowerRun < 10 →
      Completes .vcoreInterval s fun t =>
      (if s.arch.lowerRun = 9 ∧ s.lowerHeld = false then t.arch.vcoreMv = max 550 (s.arch.vcoreMv - 5) ∧ t.arch.lowerRun = 0
      else t.arch.vcoreMv = s.arch.vcoreMv ∧ t.arch.lowerRun = s.arch.lowerRun + 1) ∧ t.arch.slackLast = m ∧ t.arch.limitingUnit = u ∧
      t.arch.interval = none ∧ KeepsBut [.arch .lowerRun, .arch .ceilingRun, .arch .interval, .arch .slackLast, .arch .limitingUnit, .arch .vcoreMv] s t) ∧
  -- VCORE_CEILING (R30).
  (∀ (s : State),
      s.arch.vcoreMv = 850 →
      10 ≤ s.arch.ceilingRun →
      Completes .vcoreCeiling s fun t =>
      t.arch = { s.arch with ceilingRun := 0, ceilingEvents := bump s.arch.ceilingEvents } ∧ Raised 0x0B01 noInst [] s t ∧
      KeepsBut (([.arch .vcoreMv, .arch .ceilingRun, .arch .ceilingEvents] : List Part) ++ Part.raised) s t) ∧
  -- SLACK_COLLAPSE of a chip that is not the active one of a pair (R30).
  (∀ (u : Fin 20) (s : State),
      s.arch.vcoreMv = 850 →
      3 ≤ s.arch.lowRuns[u] →
      s.active = false →
      Completes (.slackCollapse u) s fun t =>
      t.arch = { s.arch with lowRuns := s.arch.lowRuns.set u 0 } ∧ Raised 0x0B02 (slackUnit u) [] s t ∧
        KeepsBut (([.arch .vcoreMv, .arch (.lowRuns u)] : List Part) ++ Part.raised) s t) ∧
  -- TASK_ACTIVATION of a set whose engine runs: its period's slack, the run of low periods, and the emergency raise below 0.05, from VCORE as it
  -- stood before an interval raise of the same instant (R27, R28, R30, R308, R310).
  (∀ (e task : Fin 8) (tasks : BitVec 8) (trigger done deadline : Nat) (s : State),
      engRuns (s.eng.eng[s.eng.host[e]]).st = true →
      Completes (.taskActivation e task tasks trigger done deadline) s fun t =>
      t.arch.slackMin = some ((s.arch.slackMin.map (min (slackOf trigger done deadline))).getD (slackOf trigger done deadline)) ∧
      t.arch.vcoreMv = (if slackOf trigger done deadline < 1 / 20 ∧ s.vcoreBase < 850 then min 850 (s.vcoreBase + 25)
      else s.arch.vcoreMv) ∧
      t.arch.lowRuns = s.arch.lowRuns.set (engUnit e)
      (if slackOf trigger done deadline < 1 / 20 then satInc 3 s.arch.lowRuns[engUnit e] else 0) ∧
      KeepsBut [.arch .interval, .arch .slackMin, .arch (.lowRuns (engUnit e)), .arch .vcoreMv, .arch .lowerRun, .arch .emergencyAt, .arch .raised,
        .arch .emergencyRaises, .eng (.eng e), .eng (.eng (s.eng.host[e])), .timer (.wdog (s.eng.host[e])), .eng .setDone, .timer .sysWdog] s t)

/-- The timebase fails and recovers; PPS edges are discarded or taken, qualify PPS and are lost. XO_FAIL and PLL_UNLOCK, the timebase out of reset, no
loop running and the chip not the active one of a pair, enter TIMEBASE_FAIL with 0x0107 and 0x0106: every PWM pin is high-impedance, the share-link
drivers are off and both references are unqualified; XO_FAIL also marks the TCXO failed and the time of day invalid, PLL_UNLOCK leaves both marks.
TIMEBASE_RECOVERY from TIMEBASE_FAIL enters HOLDOVER where the time was valid before and the TCXO has not failed, else FREERUN, clears the TCXO's mark
and times a second. PPS_EDGE, no loss due, outside every window counts as discarded, ends the run of edges and changes nothing else. In the window of
the k-th second after the last edge the run goes on where k is 1 and is 1 otherwise, the 3 s of the loss start again, the seconds missed and not yet
counted count as discarded, and: with a time of day written for the edge, the time of day moves by whole frames so that the frame boundary nearest to
the edge has the written value, and is set and valid; without one the time of day stands, the edge is the last one and its phase error is kept.
PPS_QUALIFIED after ten edges qualifies PPS_IN, and in mode 1 leads from FREERUN to ACQUIRE. REF_LOST_PPS at the end of the 3 s unqualifies it, ends
the run and any slew, records 0x0101, and in mode 1 leads from LOCKED to HOLDOVER. All but XO_FAIL, PLL_UNLOCK and TIMEBASE_RECOVERY need a running
timebase. Each clause gives its conditions; the list after its KeepsBut names every part of the state that may change, and all others stand; a reset's
clause says what stays. -/
def Obligations.TimebaseFailsRecoversAndFollowsPps : Prop :=
  -- XO_FAIL with the timebase out of reset, no loop running and no pair to leave (R85).
  (∀ (s : State),
      s.tbOut = true →
      (∀ l : Fin 8, (s.loop[l]).running = false) →
      s.active = false →
      Completes .xoFail s fun t =>
      t.tb.lock = .timebaseFail ∧ t.tb.xoFailed = true ∧ t.tb.todInvalid = true ∧ t.tb.ppsOk = false ∧ t.tb.refOk = false ∧
      t.pins.pwm = Vector.replicate 32 .highZ ∧ t.pins.slDriver = 0 ∧ Raised 0x0107 noInst [] s t ∧
      KeepsBut (([.pins .pwmAll, .pins .syncOut, .pins .pg, .pins .gateAll, .pins .gpioOut, .pins .gpioDir, .tb .todInvalid, .tb .validBefore, .tb .xoFailed,
        .tb .steering, .tb .slewLeft, .tb .slewOff, .tb .lock, .tb .freqOnly, .tb .changes, .tb .phaseStage, .tb .lastChange, .tb .lockRun, .tb .refLock,
        .pins .slDriver, .tb .ppsOk, .tb .refOk, .tb .cascOk, .tb .ppsRun, .tb .refRun, .timer .ppsLost, .pins .twinActO] : List Part) ++ Part.raised) s t) ∧
  -- PLL_UNLOCK in the same conditions: the TCXO has not failed (R85).
  (∀ (s : State),
      s.tbOut = true →
      (∀ l : Fin 8, (s.loop[l]).running = false) →
      s.active = false →
      Completes .pllUnlock s fun t =>
      t.tb.lock = .timebaseFail ∧ t.tb.xoFailed = s.tb.xoFailed ∧ t.tb.todInvalid = s.tb.todInvalid ∧ t.tb.ppsOk = false ∧ t.tb.refOk = false ∧
      t.pins.pwm = Vector.replicate 32 .highZ ∧ t.pins.slDriver = 0 ∧ Raised 0x0106 noInst [] s t ∧
      KeepsBut (([.pins .pwmAll, .pins .syncOut, .pins .pg, .pins .gateAll, .pins .gpioOut, .pins .gpioDir, .tb .validBefore, .tb .steering, .tb .slewLeft,
        .tb .slewOff, .tb .lock, .tb .freqOnly, .tb .changes, .tb .phaseStage, .tb .lastChange, .tb .lockRun, .tb .refLock, .pins .slDriver, .tb .ppsOk,
        .tb .refOk, .tb .cascOk, .tb .ppsRun, .tb .refRun, .timer .ppsLost, .pins .twinActO] : List Part) ++ Part.raised) s t) ∧
  -- TIMEBASE_RECOVERY (R85).
  (∀ (s : State),
      s.tb.lock = .timebaseFail →
      s.tbOut = true →
      Completes .timebaseRecovery s fun t =>
      t.tb.lock = (if s.tb.validBefore = true ∧ s.tb.xoFailed = false then .holdover else .freerun) ∧ t.tb.xoFailed = false ∧
      Ends .holdoverSec 1000000000 s t ∧ KeepsBut [.tb .steering, .tb .slewLeft, .tb .slewOff, .tb .lock, .tb .freqOnly, .tb .changes, .tb .phaseStage,
        .tb .lastChange, .tb .lockRun, .tb .refLock, .tb .holdoverTime, .tb .errBound, .tb .alignTerm, .tb .limitRaised, .bat .modelDue, .bat .deferred,
        .bat (.copies s.bat.target), .bat .writing, .bat .writeData, .timer .learnedWrite, .timer .holdoverSec, .tb .xoFailed] s t) ∧
  -- PPS_EDGE outside every window, with no loss of PPS_IN due (R87).
  (∀ (x : Rat) (s : State),
      s.tbRuns = true →
      s.tb.ppsOk = false ∨ s.due .ppsLost = false →
      s.ppsSeconds (interpolated (x - s.real 0x2100 2 * 1000000000)) = none →
      Completes (.ppsEdge x) s fun t =>
      t = { s with tb.discarded := bump s.tb.discarded, tb.ppsSkipped := s.tb.ppsSkipped + 1, tb.ppsRun := 0, tb.lockRun := 0 }) ∧
  -- PPS_EDGE in a window, with no loss of PPS_IN due: the run, the seconds missed, and the loss time of 3 s (R87), the edge's instant in 19.53 ps
  -- steps (R83), the phase error (R91), and the time of day written for it, moved by whole frames so that the frame boundary nearest to the edge
  -- takes it (R97).
  (∀ (x : Rat) (k : Nat) (s : State),
      s.tbRuns = true →
      s.tb.ppsOk = false ∨ s.due .ppsLost = false →
      s.ppsSeconds (interpolated (x - s.real 0x2100 2 * 1000000000)) = some k →
      Completes (.ppsEdge x) s fun t =>
      t.tb.ppsRun = (if k = 1 then satInc 255 s.tb.ppsRun else 1) ∧ Ends .ppsLost 3000000000 s t ∧ t.tb.ppsSkipped = 0 ∧
      t.tb.discarded = s.tb.discarded + BitVec.ofNat 32 (k - 1 - s.tb.ppsSkipped) ∧
      (match s.tb.todNext with
      | some v =>
      t.tb.tod = ((s.tb.tod : Int) + ((v : Int) - roundEven (interpolated (x - s.real 0x2100 2 * 1000000000) / 25000) * 25000)).toNat ∧
      t.tb.todNext = none ∧ t.tb.todUnset = false ∧ t.tb.todInvalid = false ∧ t.tb.todLoaded = true
      | none =>
      t.tb.tod = s.tb.tod ∧ t.tb.ppsLast = some (interpolated (x - s.real 0x2100 2 * 1000000000)) ∧
      t.tb.phaseErr = s.ppsError (interpolated (x - s.real 0x2100 2 * 1000000000)) / 1000000000) ∧
      KeepsBut [.timer .ppsLost, .tb .ppsOk, .tb .ppsRun, .tb .lockRun, .tb .steering, .tb .slewLeft, .tb .slewOff, .evr .staging, .evr .lost,
        .timer .recordsLost, .timer (.tpdo 0 2), .timer (.tpdo 1 2), .evr .trigAll, .tb .lock, .tb .freqOnly, .tb .changes, .tb .phaseStage, .tb .lastChange,
        .tb .refLock, .timer .holdoverSec, .tb .holdoverTime, .tb .errBound, .tb .alignTerm, .tb .limitRaised, .timer .learnedWrite, .tb .discarded,
        .tb .ppsSkipped, .tb .ppsLast, .tb .tod, .tb .genAll, .eng .dbAll, .pins .spiIrq, .pins .gpioOut, .pins .gpioDir, .tb .todUnset, .tb .todLoaded,
        .tb .todInvalid, .tb .todNext, .tb .freqErr, .tb .phaseErr, .tb .stepPending, .tb .slewEnd, .tb .freqCorr, .tb .steerHist] s t) ∧
  -- PPS_QUALIFIED (R87), which leads from FREERUN to ACQUIRE where PPS steers (R90).
  (∀ (s : State),
      s.tbRuns = true →
      10 ≤ s.tb.ppsRun →
      s.tb.ppsOk = false →
      Completes .ppsQualified s fun t =>
      t.tb.ppsOk = true ∧ (s.tb.lock = .freerun → s.raw 0x2100 1 = 1 → t.tb.lock = .acquire) ∧
        KeepsBut [.tb .ppsOk, .tb .lock, .tb .freqOnly, .tb .changes, .tb .phaseStage, .tb .lastChange, .tb .lockRun, .tb .refLock, .timer .holdoverSec] s t) ∧
  -- REF_LOST_PPS (R87), which leads from LOCKED to HOLDOVER where PPS alone steers (R90).
  (∀ (s : State),
      s.tbRuns = true →
      s.tb.ppsOk = true →
      s.due .ppsLost = true →
      Completes .refLostPps s fun t =>
      t.tb.ppsOk = false ∧ t.tb.ppsRun = 0 ∧ t.tb.slewOff = 0 ∧ Stopped .ppsLost t ∧ (s.tb.lock = .locked → s.raw 0x2100 1 = 1 → t.tb.lock = .holdover) ∧
      Raised 0x0101 noInst [] s t ∧ KeepsBut (([.timer .ppsLost, .tb .ppsOk, .tb .steering, .tb .slewLeft, .tb .slewOff, .tb .ppsRun, .tb .lockRun, .tb .lock,
        .tb .freqOnly, .tb .changes, .tb .phaseStage, .tb .lastChange, .tb .refLock, .timer .holdoverSec, .tb .holdoverTime, .tb .errBound, .tb .alignTerm,
        .tb .limitRaised, .bat .deferred, .bat .modelDue, .bat (.copies s.bat.target), .bat .writing, .bat .writeData,
        .timer .learnedWrite] : List Part) ++ Part.raised) s t)

/-- REF10M_IN is summed, averaged, lost, qualified, in conflict with PPS and out of it. While the timebase runs: REF10M_INTERVAL before the thousandth of
its second adds its error, less the slew's own offset, to the second's sum, judges the interval bad beyond 50 ppm, counts good intervals in succession
up to 10 000 or ends their run, and changes nothing else. The thousandth ends the second. While REF10M_IN steers, in ACQUIRE or LOCKED, the mean of
the second is the measured frequency error. While it does not steer, the mean only counts, up to 60 seconds in succession within 1 ppb, towards the
lock criterion. REF_LOST_10M of a qualified input, without an edge or with its last interval bad, unqualifies it, ends the run of good intervals and
records 0x0102. REF10M_QUALIFIED after 10 000 good intervals, with no conflict standing, qualifies it. REF_CONFLICT in mode 3 with both references
qualified and a difference above 200 ppb sets the conflict, unqualifies REF10M_IN and records 0x0103; while a conflict stands, a difference below 50
ppb starts the 600 s unless they run, and any other stops them. REF_CONFLICT_CLEAR at the end of the 600 s clears the conflict. Each clause gives its
conditions; the list after its KeepsBut names every part of the state that may change, and all others stand; a reset's clause says what stays. -/
def Obligations.Ref10mIsMeasuredLostAndInConflict : Prop :=
  -- REF10M_INTERVAL within a second: a phase slew's own offset is no frequency error (R88, R91, R92).
  (∀ (e : Rat) (s : State),
      s.tbRuns = true →
      s.tb.refN < 999 →
      Completes (.ref10mInterval e) s fun t =>
      t = { s with tb.refBad := decide (1 / 20000 < absR e), tb.refRun := if decide (1 / 20000 < absR e) then 0 else satInc 10000 s.tb.refRun, tb.refSum := s.tb.refSum + e - s.tb.slewOff, tb.refN := s.tb.refN + 1 }) ∧
  -- REF10M_INTERVAL that ends a second while REF10M_IN steers: its average is the measured frequency error (R86, R91).
  (∀ (e : Rat) (s : State),
      s.tbRuns = true →
      999 ≤ s.tb.refN →
      s.refSteers = true →
      s.steersItself = true →
      s.tb.lock = .acquire ∨ s.tb.lock = .locked →
      Completes (.ref10mInterval e) s fun t =>
      t.tb.freqErr = (s.tb.refSum + e - s.tb.slewOff) / ((s.tb.refN + 1 : Nat) : Rat) ∧ t.tb.refN = 0 ∧ t.tb.refSum = 0 ∧
        KeepsBut [.tb .refLock, .tb .refSum, .tb .refN, .tb .refBad, .tb .refRun, .tb .phaseStage, .tb .freqErr, .tb .steering, .tb .freqCorr, .tb .steerHist,
        .tb .lock, .tb .freqOnly, .tb .changes, .tb .lastChange, .tb .lockRun] s t) ∧
  -- REF10M_INTERVAL that ends a second while REF10M_IN does not steer: the average only counts towards the lock criterion (R86, R91).
  (∀ (e : Rat) (s : State),
      s.tbRuns = true →
      999 ≤ s.tb.refN →
      s.refSteers = false →
      Completes (.ref10mInterval e) s fun t =>
      t = { s with tb.refBad := decide (1 / 20000 < absR e), tb.refRun := if decide (1 / 20000 < absR e) then 0 else satInc 10000 s.tb.refRun, tb.refSum := 0, tb.refN := 0, tb.refLock := if absR ((s.tb.refSum + e - s.tb.slewOff) / ((s.tb.refN + 1 : Nat) : Rat)) ≤ 1 / 1000000000 then satInc 60 s.tb.refLock else 0 }) ∧
  -- REF_LOST_10M (R88).
  (∀ (noEdge : Bool) (s : State),
      s.tbRuns = true →
      s.tb.refOk = true →
      noEdge = true ∨ s.tb.refBad = true →
      Completes (.refLost10m noEdge) s fun t =>
      t.tb.refOk = false ∧ t.tb.refRun = 0 ∧ Raised 0x0102 noInst [] s t ∧
        KeepsBut (([.tb .refOk, .tb .refLock, .tb .refRun, .tb .lock, .tb .freqOnly, .tb .steering, .tb .changes, .tb .slewLeft, .tb .slewOff, .tb .phaseStage,
        .tb .lastChange, .tb .lockRun, .timer .holdoverSec, .tb .holdoverTime, .tb .errBound, .tb .alignTerm, .tb .limitRaised, .bat .deferred, .bat .modelDue,
        .bat (.copies s.bat.target), .bat .writing, .bat .writeData, .timer .learnedWrite] : List Part) ++ Part.raised) s t) ∧
  -- REF10M_QUALIFIED (R88).
  (∀ (s : State),
      s.tbRuns = true →
      10000 ≤ s.tb.refRun →
      s.tb.refOk = false →
      s.tb.conflict = false →
      Completes .ref10mQualified s fun t => t.tb.refOk = true ∧
        KeepsBut [.tb .refOk, .tb .conflict, .tb .lock, .tb .freqOnly, .tb .changes, .tb .phaseStage, .tb .lastChange, .tb .lockRun, .tb .refLock,
        .timer .holdoverSec] s t) ∧
  -- REF_CONFLICT in the mode that uses both references (R88).
  (∀ (d : Rat) (s : State),
      s.tbRuns = true →
      s.raw 0x2100 1 = 3 →
      s.tb.conflict = false →
      s.tb.ppsOk = true →
      s.tb.refOk = true →
      1 / 5000000 < absR d →
      Completes (.refConflict d) s fun t =>
      t.tb.conflict = true ∧ t.tb.refOk = false ∧ Raised 0x0103 noInst [] s t ∧
        KeepsBut (([.tb .ppsOk, .tb .refOk, .tb .conflict, .tb .refLock, .tb .lock, .tb .freqOnly, .tb .steering, .tb .changes, .tb .slewLeft, .tb .slewOff,
        .tb .phaseStage, .tb .lastChange, .tb .lockRun, .timer .holdoverSec, .tb .holdoverTime, .tb .errBound, .tb .alignTerm, .tb .limitRaised, .bat .deferred,
        .bat .modelDue, .bat (.copies s.bat.target), .bat .writing, .bat .writeData, .timer .learnedWrite] : List Part) ++ Part.raised) s t) ∧
  -- REF_CONFLICT in a conflict: 600 s below 50 ppb are timed (R88).
  (∀ (d : Rat) (s : State),
      s.tbRuns = true →
      s.raw 0x2100 1 = 3 →
      s.tb.conflict = true →
      Completes (.refConflict d) s fun t =>
      (¬ absR d < 1 / 20000000 → Stopped .conflictClear t) ∧
      (absR d < 1 / 20000000 → s.running .conflictClear = false → Ends .conflictClear 600000000000 s t) ∧ KeepsBut [.timer .conflictClear] s t) ∧
  -- REF_CONFLICT_CLEAR (R88).
  (∀ (s : State),
      s.tb.conflict = true →
      s.due .conflictClear = true →
      Completes .refConflictClear s fun t =>
      t.tb = { s.tb with conflict := false } ∧ Stopped .conflictClear t ∧ KeepsBut [.timer .conflictClear, .tb .conflict] s t)

/-- The crystal model learns and steers holdover; the time of day is written; general timers expire and capture. MODEL_LEARN_SAMPLE after the first, while
LOCKED, with the temperature rate within 10 and the phase error within 100 ns, adds 10 s of learning and one sample and widens the learned span by the
oscillator's temperature. MODEL_STORE while LOCKED starts the learned-data write of 1 ms into the target copy, or under BROWN_WARN or behind another
write is deferred. HOLDOVER_STEER at the end of its second, in HOLDOVER with the chip steering itself, counts the second, adds the second's bound
(R95) to the time-error bound, and raises 0x0105 once when it exceeds 0x2100:07. SET_TIME_AT_PPS of a whole second keeps the value for the next edge,
clears bit 14 and answers done. MODEL_RESET empties the model in RAM and in both stored copies and answers done. TIMER_EXPIRY of a one-shot or
periodic timer whose count is over, set to ring its owner's doorbell b, sets that bit; a periodic timer starts again, a one-shot one ends. Of an alarm
at its time of day it fires once for that value: the same command again changes nothing. Of a timer that has not expired, without a setting, it
changes nothing. With a setting that R99 admits, of the timer's owner it loads the setting, of another it keeps it as a claim until the commit.
TIMER_CAPTURE of an edge that the timer's setting selects enters the time of day in a buffer of fewer than four; a full one stands, with 0x0B03 of
bridge 0. Each clause gives its conditions; the list after its KeepsBut names every part of the state that may change, and all others stand; a reset's
clause says what stays. -/
def Obligations.ModelHoldoverTimeOfDayAndTimers : Prop :=
  -- MODEL_LEARN_SAMPLE after the first sample (R93, R94).
  (∀ (rate : Rat) (s : State),
      s.tb.lock = .locked →
      absR rate ≤ 10 →
      absR s.tb.phaseErr ≤ 1 / 10000000 →
      s.tb.model.samples ≠ 0 →
      Completes (.modelLearnSample rate) s fun t =>
      t.tb.model.learnTime = s.tb.model.learnTime + 10 ∧ t.tb.model.samples = s.tb.model.samples + 1 ∧
      t.tb.model.spanLo = min s.tb.model.spanLo s.oscTemp ∧ t.tb.model.spanHi = max s.tb.model.spanHi s.oscTemp ∧
      t.tb.model.age = s.tb.model.age ∧ KeepsBut [.tb .lock, .tb .model] s t) ∧
  -- MODEL_STORE while LOCKED: the write starts, or is deferred under BROWN_WARN or behind another (R93, R262).
  (∀ (s : State),
      s.tb.lock = .locked →
      Completes .modelStore s fun t =>
      (if s.pins.brownWarn = true ∨ s.bat.writing.isSome = true then t.bat.deferred = true ∧ t.bat.modelDue = true ∧ t.bat.writing = s.bat.writing
      else t.bat.writing = some s.bat.target ∧ t.bat.modelDue = false ∧ Ends .learnedWrite 1000000 s t) ∧
      KeepsBut [.bat .deferred, .bat .modelDue, .bat (.copies s.bat.target), .bat .writing, .bat .writeData, .timer .learnedWrite] s t) ∧
  -- HOLDOVER_STEER in HOLDOVER (R94, R95).
  (∀ (slow : Bool) (s : State),
      s.due .holdoverSec = true →
      s.tbRuns = true →
      s.steersItself = true →
      s.tb.lock = .holdover →
      Completes (.holdoverSteer slow) s fun t =>
      t.tb.holdoverTime = s.tb.holdoverTime + 1 ∧ 
      t.tb.errBound = s.tb.errBound + State.secondBound { s with tb.holdoverTime := s.tb.holdoverTime + 1 } slow ∧
      (s.real 0x2100 7 < t.tb.errBound → s.tb.limitRaised = false → Raised 0x0105 noInst [] s t ∧ t.tb.limitRaised = true) ∧
      KeepsBut (([.timer .holdoverSec, .tb .steering, .tb .freqCorr, .tb .steerHist, .tb .holdoverTime, .tb .errBound,
        .tb .limitRaised] : List Part) ++ Part.raised) s t) ∧
  -- SET_TIME_AT_PPS of a whole second: the value waits for the next edge, and bit 14 clears (R97).
  (∀ (w : Session) (d : List Byte) (s : State),
      s.admits w 0x2102 2 d = true →
      leValue d % 1000000000 = 0 →
      Completes (.setTimeAtPps w d) s fun t =>
      t.tb = { s.tb with todNext := some (leValue d), todUnset := false } ∧ Answered w .done t ∧
        KeepsBut [.tb .todUnset, .tb .todNext, .net (.sess (sessIx w)), .timer (.sessIdle (sessIx w))] s t) ∧
  -- MODEL_RESET (R104).
  (∀ (w : Session) (d : List Byte) (s : State),
      s.admits w 0x2103 0x0A d = true →
      Completes (.modelReset w d) s fun t =>
      t.tb.model = {} ∧ t.bat.copies = s.bat.copies.map (Option.map fun c => { c with model := none }) ∧ Answered w .done t ∧
      KeepsBut [.tb .model, .bat .copiesAll, .bat .writeData, .net (.sess (sessIx w)), .timer (.sessIdle (sessIx w))] s t) ∧
  -- TIMER_EXPIRY of a one-shot or periodic timer whose cycles have passed and that rings its owner's doorbell: a periodic one starts again (R99).
  (∀ (k : Fin 16) (i : Fin 11) (b : Fin 32) (s : State),
      s.tbRuns = true →
      s.timerDue k = true →
      (s.tb.gen[k]).setting.mode = .oneShot ∨ (s.tb.gen[k]).setting.mode = .periodic →
      (s.tb.gen[k]).setting.action = .doorbell b →
      identIx (s.tb.gen[k]).setting.owner = some i →
      Completes (.timerExpiry k none) s fun t =>
      t.tb.gen = s.tb.gen.set k (if (s.tb.gen[k]).setting.mode = .periodic then { s.tb.gen[k] with count := (s.tb.gen[k]).setting.value }
      else { s.tb.gen[k] with armed := false }) ∧
      t.eng.db = s.eng.db.set i (s.eng.db[i] ||| BitVec.ofNat 32 (2 ^ b.val)) ∧
        KeepsBut [.tb (.gen k), .eng .dbAll, .pins .spiIrq, .pins .gpioOut, .pins .gpioDir] s t) ∧
  -- TIMER_EXPIRY of an alarm at its time of day: it fires once at that value (R99, R100).
  (∀ (k : Fin 16) (s : State),
      s.tbRuns = true →
      s.timerDue k = true →
      (s.tb.gen[k]).setting.mode = .alarm →
      (s.tb.gen[k]).setting.action = .none →
      Completes (.timerExpiry k none) s fun t =>
      t.tb.gen = s.tb.gen.set k { s.tb.gen[k] with fired := some (s.tb.gen[k]).setting.value } ∧ KeepsBut [.tb (.gen k)] s t ∧
      Completes (.timerExpiry k none) t fun u => u = t) ∧
  -- TIMER_EXPIRY of a timer that has not expired (R99).
  (∀ (k : Fin 16) (s : State),
      s.timerDue k = false →
      Completes (.timerExpiry k none) s fun t => t = s) ∧
  -- TIMER_EXPIRY with a setting that R99 admits, of the timer's owner or of another, which claims it: the setting is loaded, or waits for the commit
  -- that records the owner (R99, R352).
  (∀ (k : Fin 16) (x : TimerSetting) (s : State),
      s.tbRuns = true →
      s.timerDue k = false →
      x.fits = true →
      Completes (.timerExpiry k (some x)) s fun t =>
      t.tb.gen = s.tb.gen.set k (if (s.tb.gen[k]).setting.owner = x.owner then (s.tb.gen[k]).load x else { s.tb.gen[k] with claim := some x }) ∧
      KeepsBut [.tb (.gen k)] s t) ∧
  -- TIMER_CAPTURE of a selected edge, with room in the buffer, and at a full one (R99, R25).
  (∀ (k : Fin 16) (rising : Bool) (s : State),
      s.tbRuns = true →
      (s.tb.gen[k]).setting.mode = .capture →
      (s.tb.gen[k]).setting.pin.isSome = true →
      (if rising = true then (s.tb.gen[k]).setting.edges.1 else (s.tb.gen[k]).setting.edges.2) = true →
      Completes (.timerCapture k rising) s fun t =>
      (if (s.tb.gen[k]).captured.length < 4 then t.tb.gen = s.tb.gen.set k { s.tb.gen[k] with captured := (s.tb.gen[k]).captured ++ [s.tb.tod] }
      else t.tb.gen = s.tb.gen ∧ Raised 0x0B03 0 [0] s t) ∧ KeepsBut (([.tb (.gen k)] : List Part) ++ Part.raised) s t)

/-- The instants of the 25 us shelf frame: boundary, feed-forward latch, snapshot, launch, uplink hand-off and downlink freeze. All need the device up and
its timebase running, each the instant of its frame. SHELF_FRAME_BOUNDARY, at a multiple of 25 us of the time of day and once at an instant, adds 1 to
SEQ, empties the downlink buffer and the slots' marks, notes its instant, adds a pending step to the time of day, puts a waiting allocation in force,
and where the link runs on a chip that drives it sends the frozen downlink, or where none was frozen one of that instant with zero demands, on its
ports; where not, nothing is sent. FF_LATCH at 20 us makes the adder's sum the feed-forward value and changes nothing else. STATE_SNAPSHOT at 21.0 us
latches every lane, takes each lane's mark of a fresh sample away, and on the active chip holds the mirror and state frames of that instant for the
launch; on another chip it holds none. MIRROR_LAUNCH at 21.2 us: on the active chip with frames held and the twin port not in reset it sends both, the
state frame last, and ends the count of missed launches; where a pair's launch does not happen the frames go and the count adds 1, up to 2; on a
standby its heartbeat with the last SEQ, its state and its hash is sent and nothing else changes. UPLINK_HANDOFF from 23.2 to 23.25 us, the link
running and no copy of a reply held, where each scheduled reply came gives every rectifier its capacity base and marks mains lost where every seen
rectifier reports no mains; a scheduled reply of slot 0 that did not come, the others having come, adds 1 to its rectifier's run of missing replies,
up to 4, and to its invalid count. DOWNLINK_FREEZE at 24.0 us, the link running, freezes a downlink with the next SEQ and the demands. Each clause
gives its conditions; the list after its KeepsBut names every part of the state that may change, and all others stand; a reset's clause says what
stays. -/
def Obligations.ShelfFrameInstantsHaveTheirEffects : Prop :=
  -- SHELF_FRAME_BOUNDARY at a multiple of 25 us of the time of day, once (R38, R92, R98, R404).
  (∀ (s : State),
      s.up = true →
      s.tbRuns = true →
      s.frameTime = 0 →
      s.tb.frameAt ≠ some s.now →
      Completes .shelfFrameBoundary s fun t =>
      t.shelf.seq = s.shelf.seq + 1 ∧ t.shelf.buffer = none ∧ t.tb.frameAt = some s.now ∧ t.shelf.slotOk = 0 ∧ t.shelf.slotBad = 0 ∧
      t.tb.tod = (if s.tb.stepPending = 0 then s.tb.tod else ((s.tb.tod : Int) + s.tb.stepPending).toNat) ∧
      (∀ a, s.casc.allocNext = some a → t.casc.alloc = a ∧ t.casc.allocNext = none) ∧
      (s.linkRuns = true → s.drives = true → t.shelf.sent = some (s.shelf.buffer.getD (s.downlinkNow [0, 0, 0, 0])) ∧ t.pins.slDriver = s.linkPorts) ∧
      (¬ (s.linkRuns = true ∧ s.drives = true) → t.shelf.sent = none) ∧
      KeepsBut (([.laneAll, .loopAll, .shelf .presets, .shelf .shelfOff, .shelf .buffer, .shelf .sent, .shelf .framesAll, .pins .slDriver, .tb .frameAt,
        .shelf .seq, .shelf .slotOk, .shelf .slotBad, .tb .tod, .tb .ppsLast, .tb .genAll, .eng .dbAll, .pins .spiIrq, .pins .gpioOut, .pins .gpioDir,
        .tb .steps, .tb .stepPending, .shelf .senseAlt, .shelf .curAlt, .casc .alloc, .casc .allocNext, .casc .allocAt, .shelf .senseBad, .shelf .ref,
        .timers] : List Part) ++ Part.raised) s t) ∧
  -- FF_LATCH at 20 us of the frame (R38, R195).
  (∀ (s : State),
      s.up = true →
      s.tbRuns = true →
      s.frameTime = 20000 →
      Completes .ffLatch s fun t => t = { s with shelf.ff := s.shelf.ffSum }) ∧
  -- STATE_SNAPSHOT at 21.0 us of the frame (R38, R40, R386, R387).
  (∀ (s : State),
      s.up = true →
      s.tbRuns = true →
      s.frameTime = 21000 →
      Completes .stateSnapshot s fun t =>
      t.snap = s.lane ∧ t.lane = s.lane.map (fun x => { x with fresh := false }) ∧
      t.twin.outgoing = (if s.active = true then some (({ s with snap := s.lane, lane := s.lane.map fun x => { x with fresh := false } } : State).mirrorNow,
        s.stateNow) else none) ∧
      KeepsBut (([.laneAll, .snapAll, .twin .outgoing, .shelf .rectsAll, .shelf .capActive, .shelf .capacity, .shelf .y8, .shelf .u, .shelf .c,
        .shelf .codesAll, .timer .shortfall, .timer .capRestore, .timer .holdupQualify] : List Part) ++ Part.raised) s t) ∧
  -- MIRROR_LAUNCH of the active chip at 21.2 us of the frame (R38, R385).
  (∀ (m : MirrorFrame) (f : StateFrame) (s : State),
      s.up = true →
      s.tbRuns = true →
      s.frameTime = 21200 →
      s.active = true →
      s.blkHeld 8 = false →
      s.twin.outgoing = some (m, f) →
      Completes (.mirrorLaunch true) s fun t =>
      t.twin.sent = (.state f :: .mirror m :: s.twin.sent.take 3).take 4 ∧ t.twin.outgoing = none ∧ t.twin.missed = 0 ∧
        KeepsBut [.twin .outgoing, .twin .sent, .twin .missed] s t) ∧
  -- MIRROR_LAUNCH that does not happen is counted in a pair (R393).
  (∀ (m : MirrorFrame) (f : StateFrame) (s : State),
      s.up = true →
      s.tbRuns = true →
      s.frameTime = 21200 →
      s.twin.st = .activePaired →
      s.twin.outgoing = some (m, f) →
      Completes (.mirrorLaunch false) s fun t =>
      t.twin = { s.twin with outgoing := none, missed := satInc 2 s.twin.missed } ∧ KeepsBut [.twin .outgoing, .twin .sent, .twin .missed] s t) ∧
  -- MIRROR_LAUNCH of a standby: its heartbeat (R385).
  (∀ (ok : Bool) (s : State),
      s.up = true →
      s.tbRuns = true →
      s.frameTime = 21200 →
      s.active = false →
      s.standby = true →
      s.blkHeld 8 = false →
      Completes (.mirrorLaunch ok) s fun t =>
      t = { s with twin.sent := (.heartbeat s.twin.lastSeq (twinCode s.twin.st) s.net.commit.hash :: s.twin.sent).take 4 }) ∧
  -- UPLINK_HANDOFF from 23.2 to 23.25 us of a frame whose scheduled replies all came (R38, R192, R201).
  (∀ (s : State),
      s.linkRuns = true →
      23200 ≤ s.frameTime →
      s.frameTime ≤ 23250 →
      s.shelf.heldCopy = none →
      (∀ j : Fin 4, s.recEnabled (s.slotRec j) = false ∨ s.shelf.slotOk.getLsbD j = true) →
      Completes .uplinkHandoff s fun t =>
      t.shelf.rects = Vector.ofFn (fun i => { s.shelf.rects[i] with base := s.capacityOf i }) ∧
      t.shelf.mainsLost = decide ((t.shelf.rects.toList.filter recSeen) ≠ [] ∧ (t.shelf.rects.toList.filter recSeen).all fun r => !r.acOk) ∧
      KeepsBut (([.shelf .rectsAll, .shelf .slotOk, .shelf .heldCopy, .shelf .slowDone, .shelf .slowState, .net (.rw (objKey 0x2E41 3)), .shelf .holdup,
        .shelf .mainsLost, .shelf .stages, .shelf .stageNo, .timers] : List Part) ++ Part.raised) s t) ∧
  -- UPLINK_HANDOFF counts a scheduled reply that did not come (R214).
  (∀ (s : State),
      s.linkRuns = true →
      23200 ≤ s.frameTime →
      s.frameTime ≤ 23250 →
      s.shelf.heldCopy = none →
      s.recEnabled (s.slotRec 0) = true →
      s.shelf.slotOk = 14 →
      Completes .uplinkHandoff s fun t =>
      (t.shelf.rects[s.slotRec 0]).missRun = satInc 4 (s.shelf.rects[s.slotRec 0]).missRun ∧
      (t.shelf.rects[s.slotRec 0]).invalid = bump (s.shelf.rects[s.slotRec 0]).invalid ∧
      KeepsBut (([.shelf .rectsAll, .shelf .slotOk, .shelf .heldCopy, .shelf .slowDone, .shelf .slowState, .net (.rw (objKey 0x2E41 3)), .shelf .holdup,
        .shelf .mainsLost, .shelf .stages, .shelf .stageNo, .timers] : List Part) ++ Part.raised) s t) ∧
  -- DOWNLINK_FREEZE at 24.0 us of the frame (R38, R194, R208).
  (∀ (s : State),
      s.linkRuns = true →
      s.frameTime = 24000 →
      Completes .downlinkFreeze s fun t =>
      (∃ x, t.shelf.buffer = some x ∧ x.seq = (s.shelf.seq + 1).toNat ∧ x.demands = s.shelf.codes) ∧
        KeepsBut (([.shelf .rectsAll, .shelf .slowNext, .shelf .userSlow, .shelf .buffer] : List Part) ++ Part.each 32 .slow) s t)

/-- Precision channels output, clip and settle; a pair disagrees. PRECISION_OUTPUT, the timebase running and the output of its rate due: a code that does
not clip makes the channel's quantity of R110, at 200 kS/s the value of that rate and nothing else, at 10 kS/s the value of that rate, where only the
dwells of hold-up stages may change beside it. A clipped code at 10 kS/s, 0x0201 of the channel not recorded within the last second, sets OVERRANGE
and records 0x0201. OVERRANGE_CLEAR at the end of its time clears OVERRANGE, and SETTLING_END at the end of its time clears SETTLING, each of its
channel only. PAIR_DISAGREE after ten failed checks in succession, the pair not yet marked, marks both channels and records 0x0208 with the pair's
number. Each clause gives its conditions; the list after its KeepsBut names every part of the state that may change, and all others stand; a reset's
clause says what stays. -/
def Obligations.PrecisionOutputsClipSettleAndDisagree : Prop :=
  -- PRECISION_OUTPUT at 200 kS/s of a code that does not clip (R110).
  (∀ (k : Fin 48) (code : Int) (s : State),
      s.tbRuns = true →
      s.outputDate 0 = true →
      clips code = false →
      Completes (.precisionOutput k 0 code) s fun t =>
      t.meas.ch = s.meas.ch.set k { s.meas.ch[k] with v200 := s.chanQuantity k (s.ballVolts k code) } ∧
        KeepsBut [.dist .feedAll, .meas (.ch k), .shelf .ffSum, .laneAll, .timers] s t) ∧
  -- PRECISION_OUTPUT at 10 kS/s (R110).
  (∀ (k : Fin 48) (code : Int) (s : State),
      s.tbRuns = true →
      s.outputDate 1 = true →
      clips code = false →
      Completes (.precisionOutput k 1 code) s fun t =>
      t.meas.ch = s.meas.ch.set k { s.meas.ch[k] with v10 := s.chanQuantity k (s.ballVolts k code) } ∧
        KeepsBut (([.meas (.ch k)] : List Part) ++ Part.each 8 .stageDwell) s t) ∧
  -- PRECISION_OUTPUT of a code beyond 1.1 FS, not recorded within the last second (R107).
  (∀ (k : Fin 48) (code : Int) (s : State),
      s.tbRuns = true →
      s.outputDate 1 = true →
      clips code = true →
      s.running (.limit 0x0201 k) = false →
      Completes (.precisionOutput k 1 code) s fun t =>
      (t.meas.ch[k]).overrange = true ∧ Raised 0x0201 k [] s t ∧
      KeepsBut (([.meas (.ch k), .timer (.overrange k), .timer (.limit 513 k)] : List Part) ++ Part.each 8 .stageDwell ++ Part.raised) s t) ∧
  -- OVERRANGE_CLEAR (R107).
  (∀ (k : Fin 48) (s : State),
      s.due (.overrange k) = true →
      Completes (.overrangeClear k) s fun t =>
      t.meas.ch = s.meas.ch.set k { s.meas.ch[k] with overrange := false } ∧ Stopped (.overrange k) t ∧ KeepsBut [.timer (.overrange k), .meas (.ch k)] s t) ∧
  -- SETTLING_END (R113).
  (∀ (k : Fin 48) (s : State),
      s.due (.settling k) = true →
      Completes (.settlingEnd k) s fun t =>
      t.meas.ch = s.meas.ch.set k { s.meas.ch[k] with settling := false } ∧ Stopped (.settling k) t ∧ KeepsBut [.timer (.settling k), .meas (.ch k)] s t) ∧
  -- PAIR_DISAGREE (R114).
  (∀ (p : Fin 2) (s : State),
      10 ≤ s.meas.pairFails[p] →
      (s.meas.ch[(pairOf p).1]).disagree = false →
      Completes (.pairDisagree p) s fun t =>
      (t.meas.ch[(pairOf p).1]).disagree = true ∧ (t.meas.ch[(pairOf p).2]).disagree = true ∧ Raised 0x0208 p [] s t ∧
      KeepsBut (([.meas .chAll] : List Part) ++ Part.raised) s t)

/-- A spare serves a slot, calibrates, is compared and handed over; channels go stale; the reference is checked. ROTATION_SLOT_START, the device up,
rotation on, the spare's slot idle, its spare in the pool and its last channel back at its home, with a channel to serve next, gives the slot that
channel and starts the spare's calibration. MODULATOR_CALIBRATION_DONE within the limits, of the spare that calibrates in its slot, makes the zero
reading the offset and 8/5 / (x+ - x-) the gain, ends the run of failures and starts the overlap. SWAP_COMPARISON, the channel's swap not deferred,
within 0x2200:03 readies the swap; beyond it, in the overlap with the home modulator, the swap is aborted and counted, the slot ends with its channel
served, and 0x0202 names channel and spare. SWAP_HANDOVER from the readied home makes the home modulator the channel's host, ends the slot and counts
the swap; from the readied spare of a channel whose home is not retired it makes the spare the host and starts the 60 s of staleness. CAL_STALE at the
end of its time marks the channel with 0x0205. MEASUREMENT_READY at the end of its time clears NOT_READY of every channel. REFERENCE_CHECK beyond 0.1
% counts a failed check in succession, up to three, and within it ends the run; nothing else changes. REF_FAIL after three, not yet set, of a chip
that is not the active one of a pair sets REF_FAIL and records 0x0207. Each clause gives its conditions; the list after its KeepsBut names every part
of the state that may change, and all others stand; a reset's clause says what stays. -/
def Obligations.SparesRotateCalibrateAndSwap : Prop :=
  -- ROTATION_SLOT_START with a channel to serve next (R115, R116).
  (∀ (x : Fin 4) (k : Fin 48) (s : State),
      s.up = true →
      s.flag 0x2200 2 = true →
      (s.meas.slots[x]).phase = .idle →
      s.poolPlace x ≠ none →
      (s.meas.ch[(s.meas.slots[x]).channel]).host ≠ spareOf x →
      s.nextChannel x = some k →
      Completes (.rotationSlotStart x) s fun t =>
      t.meas.slots = s.meas.slots.set x { s.meas.slots[x] with phase := .calSpare, channel := k } ∧
        KeepsBut [.meas (.slots x), .meas (.ch (s.meas.slots[x].channel))] s t) ∧
  -- MODULATOR_CALIBRATION_DONE within the limits, of a spare that calibrates in its slot (R116, R117).
  (∀ (x : Fin 4) (x0 xp xn : Rat) (s : State),
      s.calServes (spareOf x) = some x →
      (s.meas.slots[x]).phase = .calSpare →
      calOk (s.fullScale (s.meas.slots[x]).channel) x0 xp xn = true →
      Completes (.modulatorCalibrationDone (spareOf x) x0 xp xn) s fun t =>
      t.meas.modu = s.meas.modu.set (spareOf x) { s.meas.modu[spareOf x] with off := x0, gain := 8 / 5 / (xp - xn), fails := 0 } ∧
      (t.meas.slots[x]).phase = .overlapSpare ∧ KeepsBut [.meas (.modu (spareOf x)), .meas .chAll, .meas .slotsAll, .meas .pool] s t) ∧
  -- SWAP_COMPARISON within the limit, of a slot that is not deferred (R118).
  (∀ (x : Fin 4) (mean : Rat) (s : State),
      (s.meas.slots[x]).phase = .overlapSpare →
      s.swapDeferred (s.meas.slots[x]).channel = false →
      absR mean ≤ s.real 0x2200 3 →
      Completes (.swapComparison x mean) s fun t =>
      t.meas.slots = s.meas.slots.set x { s.meas.slots[x] with phase := .readySpare } ∧ KeepsBut [.meas (.slots x), .meas (.ch (s.meas.slots[x].channel))] s t) ∧
  -- SWAP_COMPARISON beyond the limit (R118).
  (∀ (x : Fin 4) (mean : Rat) (s : State),
      (s.meas.slots[x]).phase = .overlapHome →
      s.swapDeferred (s.meas.slots[x]).channel = false →
      s.real 0x2200 3 < absR mean →
      Completes (.swapComparison x mean) s fun t =>
      t.meas.swapAborts = bump s.meas.swapAborts ∧ (t.meas.slots[x]).phase = .idle ∧ (t.meas.slots[x]).served = some (s.meas.slots[x]).channel ∧
      Raised 0x0202 (s.meas.slots[x]).channel [(s.meas.slots[x]).channel, 48 + x.val] s t ∧
        KeepsBut (([.meas (.slots x), .meas (.ch (s.meas.slots[x].channel)), .meas .swapAborts, .meas .chAll] : List Part) ++ Part.raised) s t) ∧
  -- SWAP_HANDOVER back to the home modulator (R116).
  (∀ (x : Fin 4) (s : State),
      (s.meas.slots[x]).phase = .readyHome →
      Completes (.swapHandover x) s fun t =>
      (t.meas.ch[(s.meas.slots[x]).channel]).host = (s.meas.slots[x]).channel.val ∧ (t.meas.slots[x]).phase = .idle ∧
      t.meas.swaps = bump s.meas.swaps ∧ KeepsBut [.meas (.ch (s.meas.slots[x].channel)), .meas (.slots x), .meas .chAll, .meas .pool, .meas .swaps] s t) ∧
  -- SWAP_HANDOVER to the spare of a channel whose home is not retired (R116, R119).
  (∀ (x : Fin 4) (s : State),
      (s.meas.slots[x]).phase = .readySpare →
      (s.meas.modu[homeOf (s.meas.slots[x]).channel]).retired = false →
      Completes (.swapHandover x) s fun t =>
      (t.meas.ch[(s.meas.slots[x]).channel]).host = 48 + x.val ∧ (t.meas.slots[x]).phase = .spareLive ∧
      Ends (.stale (s.meas.slots[x]).channel) 60000000000 s t ∧
        KeepsBut [.meas (.ch (s.meas.slots[x].channel)), .meas (.slots x), .timer (.stale (s.meas.slots[x].channel))] s t) ∧
  -- CAL_STALE (R119).
  (∀ (k : Fin 48) (s : State),
      s.due (.stale k) = true →
      Completes (.calStale k) s fun t =>
      (t.meas.ch[k]).calStale = true ∧ Raised 0x0205 k [] s t ∧ KeepsBut (([.timer (.stale k), .meas (.ch k)] : List Part) ++ Part.raised) s t) ∧
  -- MEASUREMENT_READY (R120).
  (∀ (s : State),
      s.due .ready = true →
      Completes .measurementReady s fun t =>
      (∀ k : Fin 48, (t.meas.ch[k]).notReady = false) ∧ KeepsBut (([.meas .chAll, .timer .ready] : List Part) ++ Part.each 48 .stale) s t) ∧
  -- REFERENCE_CHECK (R127).
  (∀ (d : Rat) (s : State),
      Completes (.referenceCheck d) s fun t =>
      t = { s with meas.refFails := if 1 / 1000 < absR d then satInc 3 s.meas.refFails else 0 }) ∧
  -- REF_FAIL of a chip that is not the active one of a pair (R127).
  (∀ (s : State),
      3 ≤ s.meas.refFails →
      s.meas.refFail = false →
      s.active = false →
      Completes .refFail s fun t => t.meas = { s.meas with refFail := true } ∧ Raised 0x0207 noInst [] s t ∧
        KeepsBut (([.meas .refFail] : List Part) ++ Part.raised) s t)

/-- Window, current, coulomb and housekeeping conversions deliver; the setpoint ramp steps. WINDOW_SAMPLE of a device that is up, of the selected input,
enters the converter's last five codes, sets the saturation marks at codes 511 and -512, and while the loop runs towards a target moves the setpoint
by at most the ramp's step of 100 ns. Where VLCL takes the place of the tenth sample of a saturated pair, the count of ten starts again, the run of
codes inside the converter's range counts one more, up to three, or ends, and the ramp steps as before. IMON_CONVERSION, always, takes the voltage in
the steps of its 12-bit code and makes it, less the phase's offset and over its gain, the phase's current; a phase that is not phase-synchronous is
otherwise untouched. COULOMB_OUTPUT, always, makes the product of the string's gain and the voltage less its offset its current at 1 kS/s or at 10
kS/s, leaving the other rate's and, at 1 kS/s, every lane. HOUSEKEEPING_CONVERSION of slots 0 to 15 makes the product of the branch's gain and the
voltage its sense voltage, no other's; of slots 20 to 24 it makes 16 times the voltage VAUX, 4 times it VDDIO, 16 times it VGD, the voltage itself the
core and the analogue supply tap, and changes nothing else. Each clause gives its conditions; the list after its KeepsBut names every part of the
state that may change, and all others stand; a reset's clause says what stays. -/
def Obligations.ConvertersDeliverTheirQuantities : Prop :=
  -- WINDOW_SAMPLE of the selected input (R122), and the ramp's step of 100 ns while the loop runs (R167).
  (∀ (l : Fin 8) (code vlcl : Int) (s : State),
      s.up = true →
      s.vlclTurn l = false →
      Completes (.windowSample l code vlcl) s fun t =>
      t.meas.win = s.meas.win.set l { codes := (s.selected l code vlcl :: (s.meas.win[l]).codes).take 5 } ∧
        (t.loop[l]).outHigh = decide (s.selected l code vlcl = 511) ∧
      (t.loop[l]).outLow = decide (s.selected l code vlcl = -512) ∧
      ((s.loop[l]).running = true → (s.loop[l]).vSet ≠ (s.loop[l]).vTarget →
      (t.loop[l]).vSet = clamp ((s.loop[l]).vSet - s.real (0x2410 + l) 4 / 10000000) ((s.loop[l]).vSet + s.real (0x2410 + l) 4 / 10000000) (s.loop[l]).vTarget) ∧
      KeepsBut [.meas (.win l), .loop l, .timer (.shedDwell l), .phaseAll, .timer (.vsetOff l), .pins .syncOut, .timer (.overvoltage l)] s t) ∧
  -- WINDOW_SAMPLE of VLCL in place of a tenth sample of a pair that has been saturated for 2 us (R171), and the ramp's step of 100 ns (R167).
  (∀ (l : Fin 8) (code vlcl : Int) (s : State),
      s.up = true →
      s.vlclTurn l = true →
      Completes (.windowSample l code vlcl) s fun t =>
      (t.loop[l]).winRun = 0 ∧ (t.loop[l]).vlclRun = (if -512 < vlcl ∧ vlcl < 511 then satInc 3 (s.loop[l]).vlclRun else 0) ∧
      ((s.loop[l]).vSet ≠ (s.loop[l]).vTarget →
      (t.loop[l]).vSet = clamp ((s.loop[l]).vSet - s.real (0x2410 + l) 4 / 10000000) ((s.loop[l]).vSet + s.real (0x2410 + l) 4 / 10000000) (s.loop[l]).vTarget) ∧
      KeepsBut [.loop l, .timer (.vsetOff l), .pins .syncOut, .phaseAll, .timer (.overvoltage l)] s t) ∧
  -- IMON_CONVERSION takes the voltage in the steps of its 12-bit code and the current it stands for; of a phase whose converter is not phase-
  -- synchronous it does nothing else (R78, R123).
  (∀ (i : Fin 32) (v : Rat) (s : State),
      Completes (.imonConversion i v) s fun t =>
      t.meas = { s.meas with imonV := s.meas.imonV.set i (imonVolts v), phaseI := s.meas.phaseI.set i ((imonVolts v - s.real 0x2221 (i + 1)) / s.real 0x2220 (i + 1)) } ∧
      (s.raw 0x2223 (i / 8 + 1) ≠ 1 → t.phase = s.phase) ∧ KeepsBut [.meas (.phaseI i), .meas (.imonV i), .phase i] s t) ∧
  -- COULOMB_OUTPUT at 10 kS/s, which the lanes that measure the charge current see, and at 1 kS/s (R124, R138).
  (∀ (n : Fin 4) (slow : Bool) (v : Rat) (s : State),
      Completes (.coulombOutput n slow v) s fun t =>
      t.meas.stI1 = (if slow = true then s.meas.stI1.set n (s.real 0x3614 (n + 1) * (v - s.real 0x3615 (n + 1))) else s.meas.stI1) ∧
      t.meas.stI10 = (if slow = true then s.meas.stI10 else s.meas.stI10.set n (s.real 0x3614 (n + 1) * (v - s.real 0x3615 (n + 1)))) ∧
      (slow = true → t.lane = s.lane) ∧ KeepsBut [.meas (.stI1 n), .meas (.stI10 n), .laneAll] s t) ∧
  -- HOUSEKEEPING_CONVERSION of a branch sense voltage (R125).
  (∀ (slot : Fin 25) (v : Rat) (s : State),
      slot.val < 16 →
      Completes (.housekeepingConversion slot v) s fun t =>
      (∀ k : Fin 16, t.meas.bvs[k] = if k.val = slot.val then s.real 0x2230 (slot + 1) * v else s.meas.bvs[k]) ∧
        KeepsBut [.meas .bvsAll, .meas .hkSumAll, .meas .hkNAll, .meas .hkMeanAll] s t) ∧
  -- HOUSEKEEPING_CONVERSION of the supplies (R125).
  (∀ (v : Rat) (s : State),
      Completes (.housekeepingConversion 20 v) s (fun t => t = { s with pins.vaux := 16 * v }) ∧
      Completes (.housekeepingConversion 21 v) s (fun t => t = { s with pins.vddio := 4 * v }) ∧
      Completes (.housekeepingConversion 22 v) s (fun t => t = { s with pins.vgd := 16 * v }) ∧
      Completes (.housekeepingConversion 23 v) s (fun t => t = { s with meas.vcoreTap := v }) ∧
      Completes (.housekeepingConversion 24 v) s (fun t => t = { s with meas.vanaTap := v }))

/-- The calibration set is written, exported and imported; the capture wizard starts, holds, computes and aborts. By a session that R484 admits.
WRITE_CALIBRATION_SET with the partition free gives the working copy origin 2, the next count, the time and the serial number, starts its write of 1.5
ms and answers done. CAL_SET_IMPORT of a good image of this device, 1088 bytes, the partition free, makes its values the working copy with origin 3,
starts the write, judges every channel's range mismatch again and answers done. CAPTURE_A and CAPTURE_B start a capture of their point with its
quantity for the time of 0x3620:04, drop what the point held and answer done. CAPTURE_COMPUTE with both points held, neither overranged, at least 0.2
apart and the shadow unclaimed gives gain (qA - qB) / (vA - vB) and offset vA - qA / gain, and the session claims the shadow. CAPTURE_ABORT makes the
wizard idle, drops both points, stops the capture and answers done. CAL_SET_EXPORT of a valid set, to a session of Engineer's role out of recovery,
answers its image. Beside these: CAL_SET_WRITTEN of a write in progress leaves the written half as the only valid one, ends the write and records
0x020A with the set's origin and count. CAPTURE_DONE of point A, its time over and samples taken, holds their mean, and the wizard holds A, or A and B
where B is held. Each clause gives its conditions; the list after its KeepsBut names every part of the state that may change, and all others stand; a
reset's clause says what stays. -/
def Obligations.CalibrationSetAndCaptureWork : Prop :=
  -- WRITE_CALIBRATION_SET with the partition free (R130).
  (∀ (w : Session) (d : List Byte) (s : State),
      s.admits w 0x3600 3 d = true →
      s.calBusy = none →
      Completes (.writeCalibrationSet w d) s fun t =>
      t.meas.calWork = { s.meas.calWork with origin := 2, count := s.meas.calWork.count + 1, time := s.tb.tod, serial := s.upd.serial } ∧
      t.meas.calWriting = some t.meas.calWork ∧ t.meas.calDiffers = decide (s.meas.calStored ≠ some t.meas.calWork) ∧ Ends .calWrite 1500000 s t ∧
        Answered w .done t ∧ KeepsBut [.meas .calWork, .meas .calWriting, .meas .calDiffers, .timer .calWrite, .net (.sess (sessIx w)),
        .timer (.sessIdle (sessIx w))] s t) ∧
  -- CAL_SET_WRITTEN (R130, R131).
  (∀ (c : CalSet) (s : State),
      s.meas.calWriting = some c →
      Completes .calSetWritten s fun t =>
      t.meas.calHalf = (Vector.replicate 2 none).set (if s.meas.calHalfNow = some 0 then 1 else 0 : Fin 2) (some c) ∧
      t.meas.calWriting = none ∧ t.meas.calDiffers = decide (t.meas.calStored ≠ some s.meas.calWork) ∧
        Stopped .calWrite { t with evr := s.evr, net := s.net, timers := (s.disarm .calWrite).timers } ∧
      Raised 0x020A noInst [c.origin, c.count] s t ∧ KeepsBut (([.meas .calHalfAll, .meas .calWriting, .timer .calWrite,
        .meas .calDiffers] : List Part) ++ Part.raised) s t) ∧
  -- CAL_SET_EXPORT by the Engineer role of a valid set (R132).
  (∀ (w : Session) (c : CalSet) (s : State),
      s.serves w = true →
      s.rst.phase ≠ .recovery →
      roleAllows (s.roleOf w) .engineer = true →
      s.meas.calStored = some c →
      Completes (.calSetExport w) s fun t => Answered w (.data c.image) t ∧ KeepsBut [.net (.sess (sessIx w)), .timer (.sessIdle (sessIx w))] s t) ∧
  -- CAL_SET_IMPORT of a good image of this device (R132).
  (∀ (w : Session) (d : List Byte) (s : State),
      s.admits w 0x3600 1 d = true →
      d.length = 1088 →
      s.calBusy = none →
      calImageOk d = true →
      imageAt d 8 4 = s.upd.serial →
      Completes (.calSetImport w d) s fun t =>
      (∀ k : Fin 48, (t.meas.ch[k]).rangeMismatch = (decide (s.raw 0x2201 (k + 1) = 1) != t.meas.calWork.calRange.getLsbD k)) ∧
      t.meas.calWork.vals = (CalSet.ofImage d).vals ∧ t.meas.calWork.origin = 3 ∧ t.meas.calWriting = some t.meas.calWork ∧
      Answered w .done t ∧ KeepsBut [.meas .calWork, .meas .calWriting, .meas .calDiffers, .timer .calWrite, .meas .chAll, .net (.sess (sessIx w)),
        .timer (.sessIdle (sessIx w))] s t) ∧
  -- CAPTURE_A: a capture of point A begins and what the point held is dropped (R133).
  (∀ (w : Session) (s : State),
      s.admits w 0x3620 3 [1] = true →
      Completes (.captureA w) s fun t => t.meas.cap.state = .capturing false ∧ t.meas.cap.qA = s.real 0x3620 2 ∧ t.meas.cap.heldA = false ∧
        t.meas.cap.heldB = s.meas.cap.heldB ∧
      Ends .capture (s.ns 0x3620 4) s t ∧ Answered w .done t ∧
        KeepsBut [.timer .capture, .meas .cap, .net .shadow, .net .claim, .net (.sess (sessIx w)), .timer (.sessIdle (sessIx w))] s t) ∧
  -- CAPTURE_B: a capture of point B begins and what the point held is dropped (R133).
  (∀ (w : Session) (s : State),
      s.admits w 0x3620 3 [2] = true →
      Completes (.captureB w) s fun t => t.meas.cap.state = .capturing true ∧ t.meas.cap.qB = s.real 0x3620 2 ∧ t.meas.cap.heldB = false ∧
        t.meas.cap.heldA = s.meas.cap.heldA ∧
      Ends .capture (s.ns 0x3620 4) s t ∧ Answered w .done t ∧
        KeepsBut [.timer .capture, .meas .cap, .net .shadow, .net .claim, .net (.sess (sessIx w)), .timer (.sessIdle (sessIx w))] s t) ∧
  -- CAPTURE_COMPUTE with both points held far enough apart: the results are in the shadow, claimed by the session (R133, R343).
  (∀ (w : Session) (s : State),
      s.admits w 0x3620 3 [3] = true →
      s.net.claim = none ∨ s.net.claim = some w →
      s.meas.cap.heldA = true →
      s.meas.cap.heldB = true →
      s.meas.cap.overA = false →
      s.meas.cap.overB = false →
      1 / 5 ≤ absR (s.meas.cap.vA - s.meas.cap.vB) →
      Completes (.captureCompute w) s fun t =>
      t.meas.cap.state = .computed ∧ t.net.claim = some w ∧
      t.meas.cap.gain = (s.meas.cap.qA - s.meas.cap.qB) / (s.meas.cap.vA - s.meas.cap.vB) ∧
      t.meas.cap.off = s.meas.cap.vA - s.meas.cap.qA / t.meas.cap.gain ∧
        KeepsBut [.timer .capture, .meas .cap, .net .shadow, .net .claim, .net (.sess (sessIx w)), .timer (.sessIdle (sessIx w))] s t) ∧
  -- CAPTURE_ABORT (R135).
  (∀ (w : Session) (s : State),
      s.admits w 0x3620 3 [0] = true →
      Completes (.captureAbort w) s fun t =>
      t.meas.cap = { s.meas.cap with state := .idle, heldA := false, heldB := false } ∧ Stopped .capture t ∧ Answered w .done t ∧
      KeepsBut [.timer .capture, .meas .cap, .net .shadow, .net .claim, .net (.sess (sessIx w)), .timer (.sessIdle (sessIx w))] s t) ∧
  -- CAPTURE_DONE of point A (R133).
  (∀ (s : State),
      s.meas.cap.state = .capturing false →
      s.due .capture = true →
      s.meas.cap.n ≠ 0 →
      Completes .captureDone s fun t =>
      t.meas.cap.vA = s.meas.cap.sum / (s.meas.cap.n : Nat) ∧ t.meas.cap.heldA = true ∧
      t.meas.cap.state = (if s.meas.cap.heldB = true then .abHeld else .aHeld) ∧ Stopped .capture t ∧ KeepsBut [.timer .capture, .meas .cap] s t)

/-- A lane's trigger starts its sample, completion makes it the output, a miss keeps the output, three misses fault the lane. LANE_TRIGGER of an enabled
lane that takes triggers, of kind 0, 3 or 4, or of kind 1 at its slot edge, with no sample, bank, alignment, preset or transfer outstanding and not
followed by LN11, starts the sample that its input and chain give, due when the rest of the period is the consumer's set-up time; output and states
stand, and no other lane changes. Of a disabled lane, with a bank waiting that disables it too, the bank comes into force and no sample is computed.
Of kind 2 or 5, of kind 1 away from its slot edge, or of a lane that takes no triggers it changes nothing. LANE_SAMPLE_DONE before the deadline makes
the sample's words and output the lane's, ends the sample, the miss and the run of misses, and enters the slack in the minimum since reset; of a
saturated sample, 0x0303 of the lane not recorded within the last second, it takes the output, counts the saturation and records 0x0303. LANE_MISS at
the deadline, 0x0301 not recorded within the last second, drops the sample, keeps the output, counts the miss and its run, enters slack 0 in the
minimum since reset, counts a low period and records 0x0301. LANE_FAULT after three consecutive misses, the lane not in fault and the chip not the
active one of a pair, sets the fault: with 0x0302 where no consumer takes the lane's output; LN08, LN09 and LN10 with their consumers, LN11 driving
none and room for a record, enter droop with 0x0501, hold the ceiling at the lane's output with 0x0502 and hold the trim with 0x0503. Each clause
gives its conditions; the list after its KeepsBut names every part of the state that may change, and all others stand; a reset's clause says what
stays. -/
def Obligations.LaneSamplesStartCompleteMissAndFault : Prop :=
  -- LANE_TRIGGER of an enabled lane at its trigger, of kind 0, 3 or 4, or of kind 1 at its slot edge, with no sample, bank, alignment, preset or
  -- transfer outstanding and not followed by LN11: the sample that its input and chain give, due when the rest of the period is the consumer's set-up
  -- time (R147, R148, R163).
  (∀ (n : Fin 12) (s : State),
      s.laneRuns n = true →
      (s.lane[n]).bank.enable = true →
      (s.lane[n]).bank.trigger ≠ 2 ∧ (s.lane[n]).bank.trigger ≠ 5 →
      ((s.lane[n]).bank.trigger = 1 → s.slotTrigger (s.lane[n]).bank = true) →
      (s.lane[n]).pendingBank = none →
      (s.lane[n]).sample = none →
      (s.lane[n]).align = none →
      (s.lane[n]).transferTo = none →
      s.shelf.presets = 0 →
      s.followed n = false →
      Completes (.laneTrigger n) s fun t =>
      (t.lane[n]).sample = some (s.sampleNow n) ∧ (t.lane[n]).x0 = (s.laneInput n).1.1 ∧ (t.lane[n]).inputStale = (s.laneInput n).2.1 ∧
      (t.lane[n]).out = (s.lane[n]).out ∧ (t.lane[n]).states = (s.lane[n]).states ∧
      t.deadline (.laneDeadline n) = some (s.now + (s.lanePeriod n - setupTime (s.dueConsumer n))) ∧
      (∀ m, m ≠ n → t.lane[m] = s.lane[m]) ∧ KeepsBut [.lane n, .loopAll, .timer (.laneDeadline n)] s t) ∧
  -- LANE_TRIGGER of a disabled lane that LN11 does not follow, with a bank that disables it as well: the bank that waits comes into force and no
  -- sample is computed (R153).
  (∀ (n : Fin 12) (b : Bank) (s : State),
      s.laneRuns n = true →
      (s.lane[n]).bank.enable = false →
      (s.lane[n]).pendingBank = some b →
      (s.lane[n]).sample = none →
      (s.lane[n]).transferTo = none →
      b.trigger ≠ 2 ∧ b.trigger ≠ 5 →
      (b.trigger = 1 → s.slotTrigger b = true) →
      b.enable = false →
      s.followed n = false →
      Completes (.laneTrigger n) s fun t => t.lane = s.lane.set n (s.lane[n]).swap ∧ (t.lane[n]).bank = b ∧ (t.lane[n]).pendingBank = none ∧
        KeepsBut [.lane n, .loopAll] s t) ∧
  -- LANE_TRIGGER of a lane that is triggered by the frame boundary or by the lane it tracks, or of kind 1 away from its slot edge, or that takes no
  -- triggers, changes nothing (R148, R163).
  (∀ (n : Fin 12) (s : State),
      s.triggerKind n = 2 ∨ s.triggerKind n = 5 ∨ (s.triggerKind n = 1 ∧ s.slotTrigger (s.lane[n]).triggerBank = false) ∨ s.laneRuns n = false →
      Completes (.laneTrigger n) s fun t => t = s) ∧
  -- LANE_SAMPLE_DONE in time of a sample that did not saturate: its words, output and limits are the lane's, and its slack is reported (R27, R147,
  -- R158).
  (∀ (n : Fin 12) (sm : Sample) (d : Nat) (s : State),
      (s.lane[n]).sample = some sm →
      s.deadline (.laneDeadline n) = some d →
      s.now < d →
      sm.sat = false →
      Completes (.laneSampleDone n) s fun t =>
      t.lane = s.lane.set n (Lane.complete sm (slackOf sm.at_ s.now d) s.lane[n]) ∧ (t.lane[n]).out = sm.out ∧ (t.lane[n]).states = sm.states ∧
      (t.lane[n]).sample = none ∧ (t.lane[n]).miss = false ∧ (t.lane[n]).consecutive = 0 ∧
      t.arch.slackMin = some ((s.arch.slackMin.map (min (slackOf sm.at_ s.now d))).getD (slackOf sm.at_ s.now d)) ∧
      Stopped (.laneDeadline n) t ∧ KeepsBut [.timer (.laneDeadline n), .lane n, .timer (.limit 771 n), .shelf .trim, .arch .interval, .arch .slackMin,
        .arch .lowRunsAll, .arch .vcoreMv, .arch .lowerRun, .arch .emergencyAt, .arch .raised, .arch .emergencyRaises] s t) ∧
  -- LANE_SAMPLE_DONE of a sample that saturated is recorded, once a second (R145).
  (∀ (n : Fin 12) (sm : Sample) (d : Nat) (s : State),
      (s.lane[n]).sample = some sm →
      s.deadline (.laneDeadline n) = some d →
      s.now < d →
      sm.sat = true →
      s.running (.limit 0x0303 n) = false →
      Completes (.laneSampleDone n) s fun t => (t.lane[n]).out = sm.out ∧ (t.lane[n]).saturations = bump (s.lane[n]).saturations ∧ Raised 0x0303 n [] s t ∧
      KeepsBut (([.timer (.laneDeadline n), .lane n, .timer (.limit 771 n), .shelf .trim, .arch .interval, .arch .slackMin, .arch .lowRunsAll, .arch .vcoreMv,
        .arch .lowerRun, .arch .emergencyAt, .arch .raised, .arch .emergencyRaises] : List Part) ++ Part.raised) s t) ∧
  -- LANE_MISS: the output holds (R149), and the period's slack is 0 (R27, R30).
  (∀ (n : Fin 12) (s : State),
      (s.lane[n]).sample.isSome = true →
      s.due (.laneDeadline n) = true →
      s.running (.limit 0x0301 n) = false →
      Completes (.laneMiss n) s fun t =>
      t.lane = s.lane.set n { s.lane[n] with sample := none, miss := true, misses := bump (s.lane[n]).misses, consecutive := satInc 255 (s.lane[n]).consecutive, slackMin := some 0 } ∧
      t.arch.slackMin = some ((s.arch.slackMin.map (min 0)).getD 0) ∧ t.arch.lowRuns = s.arch.lowRuns.set (laneUnit n) (satInc 3 s.arch.lowRuns[laneUnit n]) ∧
      Raised 0x0301 n [] s t ∧ KeepsBut (([.timer (.laneDeadline n), .lane n, .timer (.limit 769 n), .arch .vcoreMv, .arch .interval, .arch .slackMin,
        .arch .lowRunsAll, .arch .lowerRun, .arch .emergencyAt, .arch .raised, .arch .emergencyRaises] : List Part) ++ Part.raised) s t) ∧
  -- LANE_FAULT of a lane whose output no consumer takes, in a chip that is not the active one of a pair (R150).
  (∀ (n : Fin 12) (s : State),
      3 ≤ (s.lane[n]).consecutive →
      (s.lane[n]).fault = false →
      s.consumerLane n = none →
      s.active = false →
      Completes (.laneFault n) s fun t =>
      t.lane = s.lane.set n { s.lane[n] with fault := true } ∧ Raised 0x0302 n [] s t ∧ KeepsBut (([.lane n] : List Part) ++ Part.raised) s t) ∧
  -- LANE_FAULT of LN08: the reference becomes the droop line (R198).
  (∀ (s : State),
      3 ≤ (s.lane[8]).consecutive →
      (s.lane[8]).fault = false →
      (s.lane[8]).bank.consumer = 2 →
      (s.lane[11]).drives = none →
      s.active = false →
      s.evr.staging.length < 15 →
      Completes (.laneFault 8) s fun t => (t.lane[8]).fault = true ∧ t.shelf.droop = true ∧ Raised 0x0501 noInst [] s t ∧
        KeepsBut (([.lane 8, .shelf .droop, .shelf .capHeld, .shelf .heldC, .shelf .trimHeld, .shelf .sent] : List Part) ++ Part.raised) s t) ∧
  -- LANE_FAULT of LN09: the ceiling is held (R198).
  (∀ (s : State),
      3 ≤ (s.lane[9]).consecutive →
      (s.lane[9]).fault = false →
      (s.lane[9]).bank.consumer = 3 →
      (s.lane[11]).drives = none →
      s.active = false →
      s.evr.staging.length < 15 →
      Completes (.laneFault 9) s fun t => (t.lane[9]).fault = true ∧ t.shelf.capHeld = true ∧ t.shelf.heldC = sigRat (s.laneOut 9) ∧
        Raised 0x0502 noInst [] s t ∧ KeepsBut (([.lane 9, .shelf .droop, .shelf .capHeld, .shelf .heldC, .shelf .trimHeld,
        .shelf .sent] : List Part) ++ Part.raised) s t) ∧
  -- LANE_FAULT of LN10: the trim is held (R198).
  (∀ (s : State),
      3 ≤ (s.lane[10]).consecutive →
      (s.lane[10]).fault = false →
      (s.lane[10]).bank.consumer = 4 →
      (s.lane[11]).drives = none →
      s.active = false →
      s.evr.staging.length < 15 →
      Completes (.laneFault 10) s fun t => (t.lane[10]).fault = true ∧ t.shelf.trimHeld = true ∧ Raised 0x0503 noInst [] s t ∧
        KeepsBut (([.lane 10, .shelf .droop, .shelf .capHeld, .shelf .heldC, .shelf .trimHeld, .shelf .sent] : List Part) ++ Part.raised) s t)

/-- The regulator loops: period boundary, slot edges, setpoint writes, bellows and phase shedding. LOOP_PERIOD_BOUNDARY of a running loop whose boundary
falls now makes the mean of the period the loop's current, passes the boundary with its date, and takes the next period. PHASE_SLOT_EDGE of a
participating phase that does not stop, of a running loop on a chip that drives: not suppressed and with an on-time n, the pin goes high until n steps
have passed and a conversion is asked for at the leading edge; with no on-time, it being below the minimum, no pulse, and the pin is low once the loop
has pulsed; of a suppressed loop, the output above the comparator's level less 2 mV, it changes nothing; of a phase that stops the pin becomes high-
impedance and the phase has stopped. SETPOINT_WRITE of an admitted value within the sense range, while the loop runs and does not end a ramped stop,
sets target and setting to the value, leaves the ramping setpoint and answers done. BELLOWS_END, its time reached, ends the bellows. SHED_DWELL_EXPIRY
of a running loop at the end of the dwell starts the taper of its highest participating phase. Each clause gives its conditions; the list after its
KeepsBut names every part of the state that may change, and all others stand; a reset's clause says what stays. -/
def Obligations.LoopsPulseRampAndShed : Prop :=
  -- LOOP_PERIOD_BOUNDARY of a running loop whose boundary falls now (R161, R174, R182).
  (∀ (l : Fin 8) (i : Vector Rat 32) (s : State),
      s.boundaryDue l = true →
      Completes (.loopPeriodBoundary l i) s fun t =>
      (t.loop[l]).current = s.loopCurrent l i ∧ (t.loop[l]).running = true ∧ (t.loop[l]).bounded = true ∧
      (t.loop[l]).boundAt = (s.loop[l]).refEdge.getD 0 + 256 * s.raw (0x2410 + l) 0x12 ∧ (t.loop[l]).period = s.nextPeriod l ∧
        KeepsBut (([.loopAll, .phaseAll, .timers] : List Part) ++ Part.raised) s t) ∧
  -- PHASE_SLOT_EDGE of a participating phase of a loop that is not suppressed: the pulse of its on-time, which asks for a conversion at its leading
  -- edge (R165, R179).
  (∀ (i : Fin 32) (l : Fin 8) (n : Nat) (pair vlcl : Rat) (s : State),
      s.loopOfPhase i = some l →
      (s.phase[i]).stopping = false →
      (s.phase[i]).st = .participating →
      (s.loop[l]).running = true →
      (s.loop[l]).suppressed = false →
      s.onTime l i 4 = some n →
      s.drives = true →
      Completes (.phaseSlotEdge i pair vlcl) s fun t =>
      t.pins = { s.pins with pwm := s.pins.pwm.set i .high } ∧ (t.phase[i]).onSteps = n ∧ (t.phase[i]).offAt = s.now + (5 * n + 255) / 256 ∧
        (t.phase[i]).requests = [(false, s.now)] ∧ (t.loop[l]).pulsed = true ∧
      KeepsBut [.pins (.pwm i), .phase i, .loop l] s t) ∧
  -- PHASE_SLOT_EDGE of a participating phase whose on-time falls below the minimum: no pulse, and after the loop's first pulse the pin is low (R165).
  (∀ (i : Fin 32) (l : Fin 8) (pair vlcl : Rat) (s : State),
      s.loopOfPhase i = some l →
      (s.phase[i]).stopping = false →
      (s.phase[i]).st = .participating →
      (s.loop[l]).running = true →
      (s.loop[l]).suppressed = false →
      s.onTime l i 4 = none →
      s.drives = true →
      Completes (.phaseSlotEdge i pair vlcl) s fun t =>
      t.pins = { s.pins with pwm := if (s.loop[l]).pulsed = true then s.pins.pwm.set i .low else s.pins.pwm } ∧ (t.phase[i]).onSteps = 0 ∧
      KeepsBut [.pins (.pwm i), .phase i, .loop l] s t) ∧
  -- PHASE_SLOT_EDGE of a loop that stays suppressed: no pulse (R172).
  (∀ (i : Fin 32) (l : Fin 8) (pair vlcl : Rat) (s : State),
      s.loopOfPhase i = some l →
      (s.phase[i]).stopping = false →
      (s.phase[i]).st = .participating →
      (s.loop[l]).suppressed = true →
      s.overshootLevel l - 2 / 1000 < s.selected l pair vlcl →
      Completes (.phaseSlotEdge i pair vlcl) s fun t => t = s) ∧
  -- PHASE_SLOT_EDGE of a phase that stops: high-impedance (R168).
  (∀ (i : Fin 32) (l : Fin 8) (pair vlcl : Rat) (s : State),
      s.loopOfPhase i = some l →
      (s.phase[i]).stopping = true →
      Completes (.phaseSlotEdge i pair vlcl) s fun t =>
      t.pins = { s.pins with pwm := s.pins.pwm.set i .highZ } ∧ t.phase = s.phase.set i { s.phase[i] with stopping := false } ∧
        KeepsBut [.pins (.pwm i), .phase i] s t) ∧
  -- SETPOINT_WRITE within the sense range, while the loop runs and does not end a ramped stop (R167, R351).
  (∀ (w : Session) (l : Fin 8) (d : List Byte) (s : State),
      s.admits w (0x2410 + l) 3 d = true →
      (objSetpoint l).invalid (s.touch w) d = none →
      (s.loop[l]).running = true →
      (s.loop[l]).rampStop = false →
      Completes (.setpointWrite w l d) s fun t =>
      (t.loop[l]).vTarget = realOf d ∧ (t.loop[l]).vSet = (s.loop[l]).vSet ∧
        (t.net.force.lookup (objKey (0x2410 + l) 3)).getD (s.default (0x2410 + l) 3) = leValue d ∧
      Answered w .done t ∧ KeepsBut [.loop l, .net (.force (objKey (9232 + l) 3)), .net .commit, .twin .sent, .net (.sess (sessIx w)),
        .timer (.sessIdle (sessIx w))] s t) ∧
  -- BELLOWS_END (R177).
  (∀ (l : Fin 8) (s : State),
      (s.loop[l]).bellowsOn = true →
      (s.loop[l]).bellowsEnd ≤ s.now →
      Completes (.bellowsEnd l) s fun t => t.loop = s.loop.set l { s.loop[l] with bellowsOn := false } ∧ KeepsBut [.loop l] s t) ∧
  -- SHED_DWELL_EXPIRY (R178).
  (∀ (l : Fin 8) (i : Fin 32) (s : State),
      (s.loop[l]).running = true →
      s.due (.shedDwell l) = true →
      (((s.partPhases l).filter fun p => s.phase[p].st = .participating).getLast? = some i) →
      Completes (.shedDwellExpiry l) s fun t =>
      (t.phase[i]).st = .tapering ∧ (t.phase[i]).taper = 0 ∧ (t.loop[l]).shedding = true ∧ (t.loop[l]).shedPending = false ∧
      Stopped (.shedDwell l) t ∧ KeepsBut [.timer (.shedDwell l), .loop l, .phaseAll] s t)

/-- The regulator loops: sense loss, overshoot, overvoltage, phase failures, and SYNC_IN measured, locked and lost. SENSE_LOST of a running loop on a
differential pair, not lost before, with three VLCL codes inside the range and the pair saturated high, moves the loop to VLCL and records 0x0401.
OVERSHOOT above the comparator's level of a running loop, 0x0402 not recorded within the last second, suppresses the loop, ends its bellows, takes
every high pin of its phases low, counts a truncation and records 0x0402. OVERVOLTAGE of a suppressed loop that no rail names, at the end of its time,
records 0x0403. PHASE_OPEN of a participating phase after three missing rises, no rail naming its loop and the chip no standby, removes the phase,
which stops, and records 0x0404. IMON_IMPLAUSIBLE after 100 implausible periods of a participating phase, no other of its loop being blind and the
chip no standby, runs it blind for 10 ms without balance and records 0x0405. BLIND_TIMEOUT at the end of that time, in the same conditions as
PHASE_OPEN, removes it for its sense. SYNC_IN_EDGE while the timebase runs makes the reciprocal of the interval the measured frequency, 0 for no
interval, and keeps the edge's date. SYNC_LOCKED of an enabled loop after 16 good edges locks it and ends its loss. SYNC_LOST of an enabled loop not
yet lost, at the end of its time, ends the lock, marks the loss, empties the history and records 0x0409. Each clause gives its conditions; the list
after its KeepsBut names every part of the state that may change, and all others stand; a reset's clause says what stays. -/
def Obligations.LoopsProtectAndSynchronise : Prop :=
  -- SENSE_LOST of a loop that moves to VLCL (R171).
  (∀ (l : Fin 8) (s : State),
      (s.loop[l]).running = true →
      (s.loop[l]).onVlcl = false →
      (s.loop[l]).senseLost = false →
      3 ≤ (s.loop[l]).vlclRun →
      (s.loop[l]).outHigh = true →
      s.raw (0x2410 + l) 0x0A = 0 →
      Completes (.senseLost l) s fun t =>
      t.loop = s.loop.set l { s.loop[l] with senseLost := true, vlclRun := 0, toVlcl := true } ∧ Raised 0x0401 l [] s t ∧
        KeepsBut (([.loopAll] : List Part) ++ Part.raised) s t) ∧
  -- OVERSHOOT above the comparator's level of a running loop, not recorded within the last second (R172).
  (∀ (l : Fin 8) (pair vlcl : Rat) (s : State),
      (s.loop[l]).running = true →
      s.overshootLevel l < s.selected l pair vlcl →
      s.running (.limit 0x0402 l) = false →
      Completes (.overshoot ⟨l, pair, vlcl⟩) s fun t =>
      t.loop = s.loop.set l { s.loop[l] with suppressed := true, truncations := bump (s.loop[l]).truncations, bellowsOn := false, bellowsEnd := 0 } ∧
      (∀ i : Fin 32, s.inMask l i = true → s.pins.pwm[i] = .high → t.pins.pwm[i] = .low) ∧
      Raised 0x0402 l [] s t ∧ KeepsBut (([.pins .pwmAll, .phaseAll, .loop l, .timer (.limit 1026 l), .timer (.overvoltage l)] : List Part) ++ Part.raised) s t) ∧
  -- OVERVOLTAGE of a loop that no rail names (R173).
  (∀ (l : Fin 8) (s : State),
      (s.loop[l]).suppressed = true →
      s.due (.overvoltage l) = true →
      s.railOf 1 l = none →
      Completes (.overvoltage l) s fun t => Raised 0x0403 l [] s t ∧ KeepsBut (([.timer (.overvoltage l)] : List Part) ++ Part.raised) s t) ∧
  -- PHASE_OPEN, while enough phases remain (R179).
  (∀ (i : Fin 32) (l : Fin 8) (s : State),
      s.loopOfPhase i = some l →
      s.standby = false →
      (s.phase[i]).st = .participating →
      3 ≤ (s.phase[i]).openRun →
      s.railOf 1 l = none →
      Completes (.phaseOpen i) s fun t => (t.phase[i]).st = .removedOpen ∧ (t.phase[i]).stopping = true ∧ Raised 0x0404 i [] s t ∧
        KeepsBut (([.timer (.blind i), .phaseAll, .loopAll] : List Part) ++ Part.raised) s t) ∧
  -- IMON_IMPLAUSIBLE of the loop's only implausible phase (R180).
  (∀ (i : Fin 32) (l : Fin 8) (s : State),
      s.loopOfPhase i = some l →
      s.standby = false →
      (s.phase[i]).st = .participating →
      100 ≤ (s.phase[i]).implRun →
      ((List.finRange 32).find? (fun q : Fin 32 => s.inMask l q ∧ s.phase[q].st = .blind) = none) →
      Completes (.imonImplausible i) s fun t =>
      t.phase = s.phase.set i { s.phase[i] with st := .blind, bal := 0, implRun := 0 } ∧ Ends (.blind i) 10000000 s t ∧ Raised 0x0405 i [] s t ∧
        KeepsBut (([.phaseAll, .timer (.blind i)] : List Part) ++ Part.each 32 .blind ++ Part.raised) s t) ∧
  -- BLIND_TIMEOUT (R180).
  (∀ (i : Fin 32) (l : Fin 8) (s : State),
      s.loopOfPhase i = some l →
      s.standby = false →
      (s.phase[i]).st = .blind →
      s.due (.blind i) = true →
      s.railOf 1 l = none →
      Completes (.blindTimeout i) s fun t => (t.phase[i]).st = .removedSense ∧ (t.phase[i]).stopping = true ∧
        KeepsBut (([.timer (.blind i), .phaseAll, .loopAll] : List Part) ++ Part.raised) s t) ∧
  -- SYNC_IN_EDGE (R181).
  (∀ (p : Nat) (s : State),
      s.tbRuns = true →
      Completes (.syncInEdge p) s fun t =>
      t.pins = { s.pins with syncFreq := if p = 0 then 0 else 51200000000 / (p : Nat), syncAt := s.syncEdge p } ∧
        KeepsBut [.loopAll, .pins .syncFreq, .pins .syncAt, .timers] s t) ∧
  -- SYNC_LOCKED (R181).
  (∀ (l : Fin 8) (s : State),
      s.syncOn l = true →
      16 ≤ (s.loop[l]).syncRun →
      (s.loop[l]).syncLocked = false →
      Completes (.syncLocked l) s fun t => t.loop = s.loop.set l { s.loop[l] with syncLocked := true, syncLost := false } ∧ KeepsBut [.loop l] s t) ∧
  -- SYNC_LOST (R181).
  (∀ (l : Fin 8) (s : State),
      s.syncOn l = true →
      (s.loop[l]).syncLost = false →
      s.due (.syncGone l) = true →
      Completes (.syncLost l) s fun t =>
      t.loop = s.loop.set l { s.loop[l] with syncLocked := false, syncLost := true, syncRun := 0, syncHist := [], syncBad := false } ∧
      Raised 0x0409 l [] s t ∧ KeepsBut (([.timer (.syncGone l), .loop l] : List Part) ++ Part.raised) s t)

/-- The shelf loop: start, feed-forward checks, bus limits, capping, hold-up and its stages, writes of the bus reference and the site cap.
SHELF_LOOP_START at a frame boundary, pending, the link running, the bus voltage READY and no sample of LN08 or LN09 in progress, runs the loop: the
reference is the measured bus voltage, droop and trim are 0, the states of LN10's driver are zero and LN08 and LN09 take presets. FF_IMPLAUSIBLE after
ten failed comparisons turns to the alternative sum with 0x0508; FF_RESTORE at the end of its second returns. BUS_SENSE_LOST after four frames enters
droop with 0x0504, once. BUS_OVERVOLTAGE and BUS_UNDERVOLTAGE at the ends of their times set their bits with 0x0506 and 0x0507, BUS_OV_CLEAR and
BUS_UV_CLEAR clear them. CAP_EVALUATION, the device up, capping disabled, no hold-up, no override, nothing active or restoring, takes the state of
charge and enters the discharge in the history of ten; while capping acts, with charge at or below its floor, no override, hold-up, dwell or pending
shutdown, on a chip that is no standby, it sheds the next branch of the order with 0x050B. SHORTFALL_TIMEOUT, no hold-up standing, enters hold-up with
0x050C and cause 1 and no stage; VOLTAGE_STAGE_DWELL of stage 0 as the only one in use in hold-up, the sequencer not acting, marks it reached with
0x050E and stage 0, cause 1; HOLDUP_ENDED at its time, no shutdown pending, ends hold-up and its stages with 0x050D. BUS_REFERENCE_WRITE,
SITE_CAP_WRITE and SHELF_OFF_WRITE of admitted data put the value in force and answer done. Each clause gives its conditions; the list after its
KeepsBut names every part of the state that may change, and all others stand; a reset's clause says what stays. -/
def Obligations.ShelfLoopProtectsAndCaps : Prop :=
  -- SHELF_LOOP_START at a frame boundary with a READY bus voltage, with no sample of LN08 or LN09 in progress: the reference is the measured bus
  -- voltage, the trim 0 with the states of LN10, and LN08 and LN09 take their presets at their first samples (R191).
  (∀ (s : State),
      s.linkRuns = true →
      s.frameTime = 0 →
      s.shelf.startPending = true →
      s.ready s.busCh = true →
      (s.lane[8]).sample = none →
      (s.lane[9]).sample = none →
      Completes .shelfLoopStart s fun t =>
      t.shelf = { s.shelf with running := true, startPending := false, droop := false, ref := s.vBus, trim := 0, presets := 3 } ∧
      t.lane = s.lane.set (s.driverOf 10) (s.lane[s.driverOf 10]).zeroed ∧
        KeepsBut [.shelf .running, .shelf .startPending, .shelf .droop, .shelf .ref, .shelf .trim, .shelf .presets, .laneAll, .lane 8, .lane 9] s t) ∧
  -- FF_IMPLAUSIBLE (R195).
  (∀ (s : State),
      10 ≤ s.shelf.ffRun →
      s.shelf.ffAlt = false →
      Completes .ffImplausible s fun t => t.shelf = { s.shelf with ffAlt := true } ∧ Raised 0x0508 noInst [] s t ∧
        KeepsBut (([.shelf .ffAlt] : List Part) ++ Part.raised) s t) ∧
  -- FF_RESTORE (R195).
  (∀ (s : State),
      s.shelf.ffAlt = true →
      s.due .ffRestore = true →
      Completes .ffRestore s fun t => t.shelf = { s.shelf with ffAlt := false } ∧ Stopped .ffRestore t ∧ KeepsBut [.timer .ffRestore, .shelf .ffAlt] s t) ∧
  -- BUS_SENSE_LOST (R196).
  (∀ (s : State),
      s.shelf.senseBad = 4 →
      Completes .busSenseLost s fun t => t.shelf = { s.shelf with senseBad := 5, droop := true } ∧ Raised 0x0504 noInst [] s t ∧
        KeepsBut (([.shelf .droop, .shelf .senseBad] : List Part) ++ Part.raised) s t) ∧
  -- BUS_OVERVOLTAGE when its time has passed (R197).
  (∀ (s : State),
      s.due .busOv = true →
      Completes .busOvervoltage s fun t => t.shelf = { s.shelf with busOv := true } ∧ Raised 0x0506 noInst [] s t ∧ Stopped .busOv t ∧
        KeepsBut (([.timer .busOv, .shelf .busOv] : List Part) ++ Part.raised) s t) ∧
  -- BUS_OV_CLEAR when its time has passed (R197).
  (∀ (s : State),
      s.due .busOvClear = true →
      Completes .busOvClear s fun t => t.shelf = { s.shelf with busOv := false } ∧ Stopped .busOvClear t ∧ KeepsBut [.timer .busOvClear, .shelf .busOv] s t) ∧
  -- BUS_UNDERVOLTAGE when its time has passed (R197).
  (∀ (s : State),
      s.due .busUv = true →
      Completes .busUndervoltage s fun t => t.shelf = { s.shelf with busUv := true } ∧ Raised 0x0507 noInst [] s t ∧ Stopped .busUv t ∧
        KeepsBut (([.timer .busUv, .shelf .busUv] : List Part) ++ Part.raised) s t) ∧
  -- BUS_UV_CLEAR when its time has passed (R197).
  (∀ (s : State),
      s.due .busUvClear = true →
      Completes .busUvClear s fun t => t.shelf = { s.shelf with busUv := false } ∧ Stopped .busUvClear t ∧ KeepsBut [.timer .busUvClear, .shelf .busUv] s t) ∧
  -- CAP_EVALUATION with capping disabled and no hold-up: the state of charge, the discharge history and the autonomy (R200, R204).
  (∀ (s : State),
      s.up = true →
      s.shelf.holdup = false →
      s.shelf.capOverride = false →
      s.shelf.capActive = false →
      s.flag 0x2E02 1 = false →
      s.due .capRestore = false →
      Completes .capEvaluation s fun t =>
      t.shelf.soc = s.shelfSoc ∧ t.shelf.dischHist = (-(s.meas.stI1.toList.foldl (· + ·) 0) :: s.shelf.dischHist).take 10 ∧
        KeepsBut [.shelf .capActive, .shelf .holdup, .shelf .capOverride, .shelf .soc, .shelf .autonomy, .shelf .dischHist, .shelf .stages, .shelf .stageNo,
        .shelf .capShed] s t) ∧
  -- CAP_EVALUATION sheds the next branch while capping acts below its floor (R200).
  (∀ (k : Fin 16) (rest : List (Fin 16)) (s : State),
      s.up = true →
      s.standby = false →
      s.shelf.holdup = false →
      s.shelf.capOverride = false →
      s.shelf.capActive = true →
      s.shelf.capHeld = false →
      s.seq.resetAfter = false →
      s.shelfSoc ≤ s.real 0x2E02 4 →
      s.running .capDwell = false →
      s.capOrder = k :: rest →
      Completes .capEvaluation s fun t => t.shelf.capShed = k :: s.shelf.capShed ∧ Raised 0x050B k [] s t ∧
      KeepsBut (([.shelf .capActive, .shelf .holdup, .shelf .capOverride, .shelf .capHeld, .shelf .soc, .shelf .autonomy, .shelf .dischHist, .seq .railAll,
        .shelf .stages, .shelf .stageNo, .seq .queue, .seq .stoppingNow, .pins .pg, .loopAll, .pins .syncOut, .phaseAll, .dist .brAll, .dist .feedAll,
        .pins .gateAll, .bat .strAll, .dist .strAll, .pins .gpioOut, .pins .gpioDir, .seq .st, .seq .resets, .seq .upSince, .seq .latchAfter, .seq .onAfter,
        .seq .resetAfter, .seq .sysOn, .seq .order, .shelf .capShed, .timers] : List Part) ++ Part.raised) s t) ∧
  -- SHORTFALL_TIMEOUT (R201).
  (∀ (s : State),
      s.due .shortfall = true →
      s.shelf.holdup = false →
      Completes .shortfallTimeout s fun t =>
      t.shelf = { s.shelf with holdup := true, stages := 0, stageNo := 0xFF } ∧ Raised 0x050C noInst [1] s t ∧
        KeepsBut (([.timer .shortfall, .shelf .holdup, .shelf .stages, .shelf .stageNo, .timer .holdupQualify,
        .timer .inputLoss] : List Part) ++ Part.each 8 .stageDwell ++ Part.raised) s t) ∧
  -- HOLDUP_ENDED with no shutdown in progress (R201, R203, R287).
  (∀ (s : State),
      s.shelf.holdup = true →
      s.due .holdupQualify = true →
      s.seq.stoppingNow = none →
      s.seq.resetAfter = false →
      Completes .holdupEnded s fun t =>
      t.shelf = { s.shelf with holdup := false, stages := 0, stageNo := 0xFF } ∧ Raised 0x050D noInst [] s t ∧
        KeepsBut (([.seq .railAll, .shelf .holdup, .shelf .stages, .shelf .stageNo, .seq .queue, .seq .stoppingNow, .seq .st, .seq .resets, .seq .upSince,
        .seq .latchAfter, .seq .onAfter, .seq .resetAfter, .seq .sysOn, .seq .order, .timers] : List Part) ++ Part.raised) s t) ∧
  -- VOLTAGE_STAGE_DWELL of stage 0 as the only stage in use, while the sequencer does not act (R202).
  (∀ (s : State),
      s.due (.stageDwell 0) = true →
      s.standby = false →
      s.shelf.holdup = true →
      s.stageMask 0 ≠ 0 →
      (∀ k : Fin 8, k ≠ 0 → s.stageMask k = 0) →
      s.shelf.stages = 0 →
      s.seqRuns = false →
      Completes (.voltageStageDwell 0) s fun t => t.shelf = { s.shelf with stages := 1, stageNo := 0 } ∧ Raised 0x050E noInst [0, 1] s t ∧
        KeepsBut (([.seq .railAll, .shelf .stages, .shelf .stageNo, .seq .queue, .seq .stoppingNow, .seq .st, .seq .resets, .seq .upSince, .seq .latchAfter,
        .seq .onAfter, .seq .resetAfter, .seq .sysOn, .seq .order, .timers] : List Part) ++ Part.raised) s t) ∧
  -- BUS_REFERENCE_WRITE (R188): the written reference is in force.
  (∀ (w : Session) (d : List Byte) (s : State),
      s.admits w 0x2E00 2 d = true →
      Completes (.busReferenceWrite w d) s fun t =>
      (t.net.force.lookup (objKey 0x2E00 2)).getD (s.default 0x2E00 2) = leValue d ∧ Answered w .done t ∧
        KeepsBut [.net (.force (objKey 0x2E00 2)), .net .commit, .twin .sent, .net (.sess (sessIx w)), .timer (.sessIdle (sessIx w))] s t) ∧
  -- SITE_CAP_WRITE (R199): the written cap is in force.
  (∀ (w : Session) (d : List Byte) (s : State),
      s.admits w 0x2E02 2 d = true →
      Completes (.siteCapWrite w d) s fun t =>
      (t.net.force.lookup (objKey 0x2E02 2)).getD (s.default 0x2E02 2) = leValue d ∧ Answered w .done t ∧
        KeepsBut [.net (.force (objKey 0x2E02 2)), .net .commit, .twin .sent, .net (.sess (sessIx w)), .timer (.sessIdle (sessIx w))] s t) ∧
  -- SHELF_OFF_WRITE (R209): the written value is held.
  (∀ (w : Session) (d : List Byte) (s : State),
      s.admits w 0x2E00 0x0F d = true →
      Completes (.shelfOffWrite w d) s fun t =>
      (t.net.rw.lookup (objKey 0x2E00 0x0F)).getD (s.default 0x2E00 0x0F) = leValue d ∧ Answered w .done t ∧
        KeepsBut [.net (.rw (objKey 0x2E00 15)), .twin .sent, .net (.sess (sessIx w)), .timer (.sessIdle (sessIx w))] s t)

/-- The share link: replies, missing and corrupt slots, slow messages, readback, and the access objects of the slow channel. REPLY_RECEIVED, the link
running, the slot's rectifier enabled and not yet answered in the frame: a valid telemetry reply of types 0 to 3 on its port, from a commanded
rectifier, fills the slot, ends the run of missing replies and gives the current in 10 mA steps; a valid one on segment B in mode 2, where none is
held, is held and nothing else changes; an invalid one on its port marks the slot bad and nothing else. A valid reply on the other port, of an enabled
rectifier or not, is counted with 0x0606. REPLY_MISSING after four, in hold-up, of a rectifier that joins, is commanded, in fallback or in fault makes
it absent without capacity, drops its slow message and records 0x0602. SLOT_CORRUPT after eight ends the run and records 0x0605. SLOW_RETRY of a sent
message at the end of its time: before the third attempt it is to be sent again; after the third it is dropped and counted, a user's access ends with
state 4, and 0x0607 is recorded; in hold-up a rectifier of states 1 to 5 becomes absent without capacity, and one disabled, excluded or not tracking
keeps its state. REC_NOT_TRACKING at its time takes a commanded rectifier out of sharing with 0x050F. PORT_READBACK, the link running and driven, ends
a port's run where it was good, and counts it, the run up to 3, where not, a recorded run standing; PORT_TX_FAULT of a run of 3 records 0x0601 and
marks the run recorded. SLOW_ACCESS_READ and, but for registers 0x20 to 0x25 of a commanded rectifier, SLOW_ACCESS_WRITE, admitted and none pending,
take the access with state 1 and answer done. Each clause gives its conditions; the list after its KeepsBut names every part of the state that may
change, and all others stand; a reset's clause says what stays. -/
def Obligations.ShareLinkTakesRepliesAndSlowMessages : Prop :=
  -- REPLY_RECEIVED, a valid telemetry reply of types 0 to 3 of a commanded rectifier on its port (R211, R214).
  (∀ (j : Fin 4) (p : Fin 2) (d : List Byte) (s : State),
      s.linkRuns = true →
      s.recEnabled (s.slotRec j) = true →
      s.linkPorts.getLsbD p = true →
      s.portFor (s.slotRec j) = some p →
      s.shelf.slotOk.getLsbD j = false →
      replyOk d = true →
      leValue (d.take 1) < 4 →
      (s.shelf.rects[s.slotRec j]).st = .commanded →
      Completes (.replyReceived j p d) s fun t =>
      t.shelf.slotOk = s.shelf.slotOk ||| BitVec.ofNat 4 (2 ^ j.val) ∧ t.shelf.heldCopy = none ∧ (t.shelf.rects[s.slotRec j]).missRun = 0 ∧
      (t.shelf.rects[s.slotRec j]).current = (signed 16 (leValue ((d.drop 1).take 2)) : Rat) / 100 ∧ (t.shelf.rects[s.slotRec j]).st = .commanded ∧
      KeepsBut [.shelf .slotOk, .shelf .heldCopy, .shelf (.rects (s.slotRec j)), .timer (.slow ((s.slotRec j))), .shelf .slowDone, .shelf .slowState,
        .timer (.notTracking ((s.slotRec j)))] s t) ∧
  -- REPLY_RECEIVED of a valid reply on the other port (R206).
  (∀ (j : Fin 4) (p q : Fin 2) (d : List Byte) (s : State),
      s.linkRuns = true →
      s.linkPorts.getLsbD p = true →
      s.portFor (s.slotRec j) = some q →
      q ≠ p →
      replyOk d = true →
      Completes (.replyReceived j p d) s fun t =>
      t.shelf = { s.shelf with wrongPort := bump s.shelf.wrongPort } ∧ Raised 0x0606 (s.slotRec j) [] s t ∧
        KeepsBut (([.shelf .wrongPort] : List Part) ++ Part.raised) s t) ∧
  -- REPLY_RECEIVED of a valid reply on segment B in mode 2: it waits a bit time for a copy of segment A (R206).
  (∀ (j : Fin 4) (d : List Byte) (s : State),
      s.linkRuns = true →
      s.recEnabled (s.slotRec j) = true →
      s.linkPorts.getLsbD 1 = true →
      s.portFor (s.slotRec j) = none →
      s.shelf.slotOk.getLsbD j = false →
      s.shelf.heldCopy = none →
      replyOk d = true →
      Completes (.replyReceived j 1 d) s fun t => t = { s with shelf.heldCopy := some (j, d, s.now) }) ∧
  -- REPLY_RECEIVED of an invalid reply (R207, R214).
  (∀ (j : Fin 4) (p : Fin 2) (d : List Byte) (s : State),
      s.linkRuns = true →
      s.recEnabled (s.slotRec j) = true →
      s.linkPorts.getLsbD p = true →
      s.portFor (s.slotRec j) = some p →
      s.shelf.slotOk.getLsbD j = false →
      replyOk d = false →
      Completes (.replyReceived j p d) s fun t => t = { s with shelf.slotBad := s.shelf.slotBad ||| BitVec.ofNat 4 (2 ^ j.val) }) ∧
  -- REPLY_MISSING of a commanded rectifier (R214).
  (∀ (i : Fin 32) (s : State),
      4 ≤ (s.shelf.rects[i]).missRun →
      (s.shelf.rects[i]).st = .joining ∨ (s.shelf.rects[i]).st = .commanded ∨ (s.shelf.rects[i]).st = .fallback ∨ (s.shelf.rects[i]).st = .fault →
      s.shelf.holdup = true →
      Completes (.replyMissing i) s fun t => (t.shelf.rects[i]).st = .absent ∧ (t.shelf.rects[i]).base = 0 ∧ (t.shelf.rects[i]).cap = 0 ∧
        (t.shelf.rects[i]).slow = none ∧ Raised 0x0602 i [] s t ∧
        KeepsBut (([.shelf .slowState, .timer (.slow i), .timer (.notTracking i), .shelf (.rects i), .shelf .holdup, .shelf .mainsLost, .shelf .stages,
        .shelf .stageNo, .timer .holdupQualify, .timer .inputLoss] : List Part) ++ Part.each 8 .stageDwell ++ Part.raised) s t) ∧
  -- SLOT_CORRUPT (R214).
  (∀ (i : Fin 32) (s : State),
      8 ≤ (s.shelf.rects[i]).corruptRun →
      Completes (.slotCorrupt i) s fun t =>
      t.shelf.rects = s.shelf.rects.set i { s.shelf.rects[i] with corruptRun := 0 } ∧ Raised 0x0605 i [] s t ∧
        KeepsBut (([.shelf (.rects i)] : List Part) ++ Part.raised) s t) ∧
  -- SLOW_RETRY before the third attempt (R213).
  (∀ (i : Fin 32) (m : SlowMsg) (s : State),
      (s.shelf.rects[i]).slow = some m →
      m.sent = true →
      s.due (.slow i) = true →
      m.attempts < 3 →
      Completes (.slowRetry i) s fun t =>
      t.shelf.rects = s.shelf.rects.set i { s.shelf.rects[i] with slow := some { m with sent := false } } ∧ Stopped (.slow i) t ∧
        KeepsBut (([.timer (.slow i), .shelf (.rects i), .shelf .slowTimeouts, .shelf .slowState, .timer (.notTracking i), .shelf .holdup, .shelf .mainsLost,
        .shelf .stages, .shelf .stageNo, .timer .holdupQualify, .timer .inputLoss] : List Part) ++ Part.each 8 .stageDwell) s t) ∧
  -- SLOW_RETRY after the third attempt, of a rectifier that is not in states 0, 6 and 7: it is absent (R213, R214).
  (∀ (i : Fin 32) (m : SlowMsg) (s : State),
      (s.shelf.rects[i]).slow = some m →
      m.sent = true →
      s.due (.slow i) = true →
      3 ≤ m.attempts →
      (s.shelf.rects[i]).st = .absent ∨ (s.shelf.rects[i]).st = .joining ∨ (s.shelf.rects[i]).st = .commanded ∨ (s.shelf.rects[i]).st = .fallback ∨ (s.shelf.rects[i]).st = .fault →
      s.shelf.holdup = true →
      Completes (.slowRetry i) s fun t =>
      (t.shelf.rects[i]).st = .absent ∧ (t.shelf.rects[i]).slow = none ∧ (t.shelf.rects[i]).base = 0 ∧ (t.shelf.rects[i]).goodRun = 0 ∧
      t.shelf.slowTimeouts = bump s.shelf.slowTimeouts ∧ (m.user = true → t.shelf.slowState = 4) ∧ Stopped (.slow i) t ∧ Raised 0x0607 i [] s t ∧
      KeepsBut (([.timer (.slow i), .shelf (.rects i), .shelf .holdup, .shelf .slowTimeouts, .shelf .slowState, .timer (.notTracking i), .shelf .mainsLost,
        .shelf .stages, .shelf .stageNo, .timer .holdupQualify, .timer .inputLoss] : List Part) ++ Part.each 8 .stageDwell ++ Part.raised) s t) ∧
  -- SLOW_RETRY after the third attempt, of a rectifier in state 0, 6 or 7: it keeps its state (R213, R214).
  (∀ (i : Fin 32) (m : SlowMsg) (s : State),
      (s.shelf.rects[i]).slow = some m →
      m.sent = true →
      s.due (.slow i) = true →
      3 ≤ m.attempts →
      (s.shelf.rects[i]).st = .disabled ∨ (s.shelf.rects[i]).st = .excluded ∨ (s.shelf.rects[i]).st = .notTracking →
      Completes (.slowRetry i) s fun t =>
      (t.shelf.rects[i]).st = (s.shelf.rects[i]).st ∧ (t.shelf.rects[i]).slow = none ∧ (t.shelf.rects[i]).base = (s.shelf.rects[i]).base ∧
      t.shelf.slowTimeouts = bump s.shelf.slowTimeouts ∧ (m.user = true → t.shelf.slowState = 4) ∧ Stopped (.slow i) t ∧ Raised 0x0607 i [] s t ∧
      KeepsBut (([.timer (.slow i), .shelf (.rects i), .shelf .slowTimeouts, .shelf .slowState, .timer (.notTracking i), .shelf .holdup, .shelf .mainsLost,
        .shelf .stages, .shelf .stageNo, .timer .holdupQualify, .timer .inputLoss] : List Part) ++ Part.each 8 .stageDwell ++ Part.raised) s t) ∧
  -- REC_NOT_TRACKING (R197).
  (∀ (i : Fin 32) (s : State),
      (s.shelf.rects[i]).st = .commanded →
      s.due (.notTracking i) = true →
      Completes (.recNotTracking i) s fun t =>
      t.shelf.rects = s.shelf.rects.set i { s.shelf.rects[i] with st := .notTracking, base := 0, cap := 0 } ∧ Raised 0x050F i [] s t ∧
        KeepsBut (([.timer (.notTracking i), .shelf (.rects i)] : List Part) ++ Part.raised) s t) ∧
  -- PORT_READBACK (R215).
  (∀ (p : Fin 2) (s : State),
      s.linkRuns = true →
      s.drives = true →
      Completes (.portReadback p true) s (fun t => t = { s with shelf.readbackRun := s.shelf.readbackRun.set p 0 }) ∧
      Completes (.portReadback p false) s (fun t => t = { s with shelf.readbackRun := s.shelf.readbackRun.set p (if s.shelf.readbackRun[p] = 4 then 4 else satInc 3 s.shelf.readbackRun[p]), shelf.readbackFails := s.shelf.readbackFails.set p (bump s.shelf.readbackFails[p]) })) ∧
  -- PORT_TX_FAULT (R215).
  (∀ (p : Fin 2) (s : State),
      s.shelf.readbackRun[p] = 3 →
      Completes (.portTxFault p) s fun t => t.shelf = { s.shelf with readbackRun := s.shelf.readbackRun.set p 4 } ∧ Raised 0x0601 p [] s t ∧
        KeepsBut (([.shelf (.readbackRun p)] : List Part) ++ Part.raised) s t) ∧
  -- SLOW_ACCESS_READ while no access is in progress (R213, R217).
  (∀ (w : Session) (s : State),
      s.admits w 0x2E41 4 [1] = true →
      s.shelf.slowState ≠ 1 →
      Completes (.slowAccessRead w) s fun t => t.shelf = { s.shelf with slowState := 1, userSlow := some (Fin.ofNat 32 (s.raw 0x2E41 1), false, s.raw 0x2E41 2, s.raw 0x2E41 3) } ∧ Answered w .done t ∧ KeepsBut [.shelf .userSlow, .shelf .slowState, .net (.sess (sessIx w)), .timer (.sessIdle (sessIx w))] s t) ∧
  -- SLOW_ACCESS_WRITE while no access is in progress, but for registers 0x20 to 0x25 of a commanded rectifier, which the device itself writes (R213,
  -- R217).
  (∀ (w : Session) (s : State),
      s.admits w 0x2E41 4 [2] = true →
      s.shelf.slowState ≠ 1 →
      (s.shelf.rects[(Fin.ofNat 32 (s.raw 0x2E41 1))]).st ≠ .commanded ∨ s.raw 0x2E41 2 < 0x20 ∨ 0x25 < s.raw 0x2E41 2 →
      Completes (.slowAccessWrite w) s fun t => t.shelf = { s.shelf with slowState := 1, userSlow := some (Fin.ofNat 32 (s.raw 0x2E41 1), true, s.raw 0x2E41 2, s.raw 0x2E41 3) } ∧ Answered w .done t ∧ KeepsBut [.shelf .userSlow, .shelf .slowState, .net (.sess (sessIx w)), .timer (.sessIdle (sessIx w))] s t)

/-- Branches: evaluation, debounce, inrush and its end, limit, fault timer, breaker, minimum off and retries. BRANCH_EVALUATION, distribution running and
every branch's inrush energy limit 0, takes the GPIO levels and leaves the quench latches. INSERTION_DEBOUNCE at its time, of a branch waiting for
presence that has not been removed, VGD good, starts the inrush with energy 0, sources the gate and times the inrush; with VGD below its level it
leads to GATE_UV, the gate low. INRUSH_SETTLED at its time leads to ON, or with the limit comparator asserted to LIMIT with the gate regulated, the
inrush's energy kept. INRUSH_TIMEOUT and BR_FAULT_TIMER at their times, from the inrush and from LIMIT, with a retry left, wait for the retry with
0x0704 and 0x0701 as the cause, recorded. LIMIT_ASSERT of a named branch in ON regulates the gate in LIMIT; LIMIT_RELEASE at its time returns to ON
and clears the fault time. BR_BREAKER of a named branch in ON with a retry left, its latch clear and holding no loop off, on a chip that is no
standby, sets the latch and records 0x0702. TRIP_SINK_END at its time gives a fast-sinking gate the normal sink. BRANCH_MIN_OFF_END at its time, of a
stopping branch neither commanded nor adopted, leads to OFF. BRANCH_RETRY_END at its time, of a branch asked on that names no presence input, VGD
good, starts the inrush and counts the retry. RETRIES_CLEARED at its time, in ON, clears the count. Each clause gives its conditions; the list after
its KeepsBut names every part of the state that may change, and all others stand; a reset's clause says what stays. -/
def Obligations.BranchesStartTripAndRetry : Prop :=
  -- BRANCH_EVALUATION with the inrush energy limits off (R224).
  (∀ (gpio : BitVec 24) (limit breaker : BitVec 16) (s : State),
      s.distRuns = true →
      (∀ k : Fin 16, s.real (0x2610 + k) 8 = 0) →
      Completes (.branchEvaluation gpio limit breaker) s fun t => t.pins.gpioIn = gpio ∧ t.dist.quench = s.dist.quench ∧
        KeepsBut (([.dist .brAll, .pins .gateAll, .pins .pg, .pins .syncOut, .dist .feedAll, .dist .strAll, .pins .gpioOut, .pins .gpioDir, .pins .gpioIn,
        .timers] : List Part) ++ Part.raised) s t) ∧
  -- INSERTION_DEBOUNCE of a branch that has not been removed, with VGD good (R224, R230).
  (∀ (k : Fin 16) (s : State),
      (s.dist.br[k]).st = .waitPresent →
      s.due (.brDebounce k) = true →
      (s.dist.br[k]).removed = false →
      s.pins.vgdUv = false →
      (s.dist.br[k]).limit = false →
      Completes (.insertionDebounce k) s fun t =>
      (t.dist.br[k]).st = .inrush ∧ (t.dist.br[k]).energy = 0 ∧ t.pins.gate = s.pins.gate.set (brGate k) (s.gateFor (brGate k) .source) ∧
      Ends (.brInrush k) (s.ns (0x2610 + k) 7) s t ∧ KeepsBut [.dist (.br k), .timer (.brFault k), .timer (.brSettle k), .timer (.brInrush k),
        .timer (.brDebounce k), .timer (.brRetry k), .timer (.brOn60 k), .timer (.brLimitOut k), .pins .gateAll] s t) ∧
  -- INSERTION_DEBOUNCE while VGD is below its level: GATE_UV (R57, R231).
  (∀ (k : Fin 16) (s : State),
      (s.dist.br[k]).st = .waitPresent →
      s.due (.brDebounce k) = true →
      (s.dist.br[k]).removed = false →
      s.pins.vgdUv = true →
      Completes (.insertionDebounce k) s fun t =>
      (t.dist.br[k]).st = .gateUv ∧ t.pins.gate = s.pins.gate.set (brGate k) (s.gateFor (brGate k) .low) ∧
        KeepsBut [.dist (.br k), .timer (.brFault k), .timer (.brSettle k), .timer (.brInrush k), .timer (.brDebounce k), .timer (.brRetry k),
        .timer (.brOn60 k), .timer (.brLimitOut k), .pins .gateAll] s t) ∧
  -- INRUSH_SETTLED (R224, R226).
  (∀ (k : Fin 16) (s : State),
      (s.dist.br[k]).st = .inrush →
      s.due (.brSettle k) = true →
      (s.dist.br[k]).limit = false →
      Completes (.inrushSettled k) s fun t => (t.dist.br[k]).st = .on ∧ t.pins.gate = s.pins.gate.set (brGate k) (s.gateFor (brGate k) .source) ∧
        (t.dist.br[k]).lastEnergy = (s.dist.br[k]).energy ∧ KeepsBut [.dist (.br k), .pins .gateAll, .timer (.brFault k), .timer (.brSettle k),
        .timer (.brInrush k), .timer (.brOn60 k)] s t) ∧
  -- INRUSH_SETTLED while the limit comparator is asserted: LIMIT at once, the gate regulated (R224, R227).
  (∀ (k : Fin 16) (s : State),
      (s.dist.br[k]).st = .inrush →
      s.due (.brSettle k) = true →
      (s.dist.br[k]).limit = true →
      Completes (.inrushSettled k) s fun t => (t.dist.br[k]).st = .limit ∧ t.pins.gate = s.pins.gate.set (brGate k) (s.gateFor (brGate k) .regulate) ∧
        (t.dist.br[k]).lastEnergy = (s.dist.br[k]).energy ∧ KeepsBut [.dist (.br k), .pins .gateAll, .timer (.brFault k), .timer (.brSettle k),
        .timer (.brInrush k), .timer (.brOn60 k)] s t) ∧
  -- INRUSH_TIMEOUT with a retry left (R224, R229).
  (∀ (k : Fin 16) (s : State),
      (s.dist.br[k]).st = .inrush →
      s.due (.brInrush k) = true →
      (s.dist.br[k]).retries < s.raw (0x2610 + k) 9 →
      Completes (.inrushTimeout k) s fun t => (t.dist.br[k]).st = .retryWait ∧ (t.dist.br[k]).cause = 0x0704 ∧ (t.dist.br[k]).trips = bump (s.dist.br[k]).trips ∧
        Raised 0x0704 k [] s t ∧ KeepsBut (([.dist .brAll, .timer (.brFault k), .timer (.brSettle k), .timer (.brInrush k), .timer (.brDebounce k),
        .timer (.brRetry k), .timer (.brOn60 k), .timer (.brLimitOut k), .pins .gateAll, .timer (.brSink k), .pins .pg, .pins .syncOut, .dist .feedAll,
        .dist .strAll, .pins .gpioOut, .pins .gpioDir] : List Part) ++ Part.each 2 .feedDead ++ Part.each 2 .feedRevert ++ Part.each 2 .feedSettle ++ Part.raised) s t) ∧
  -- LIMIT_ASSERT of a branch in ON (R224, R227).
  (∀ (k : Fin 16) (s : State),
      s.brNamed k = true →
      (s.dist.br[k]).st = .on →
      Completes (.limitAssert k) s fun t => (t.dist.br[k]).st = .limit ∧ (t.dist.br[k]).limit = true ∧
        t.pins.gate = s.pins.gate.set (brGate k) (s.gateFor (brGate k) .regulate) ∧
        KeepsBut [.dist (.br k), .timer (.brLimitOut k), .timer (.brOn60 k), .pins .gateAll, .timer (.brFault k)] s t) ∧
  -- LIMIT_RELEASE (R224, R227).
  (∀ (k : Fin 16) (s : State),
      s.due (.brLimitOut k) = true →
      (s.dist.br[k]).st = .limit →
      (s.dist.br[k]).limit = false →
      Completes (.limitRelease k) s fun t => (t.dist.br[k]).st = .on ∧ (t.dist.br[k]).faultElapsed = 0 ∧
        KeepsBut [.dist (.br k), .timer (.brFault k), .timer (.brLimitOut k), .pins .gateAll, .timer (.brSettle k), .timer (.brInrush k),
        .timer (.brOn60 k)] s t) ∧
  -- BR_FAULT_TIMER with a retry left (R227, R229).
  (∀ (k : Fin 16) (s : State),
      (s.dist.br[k]).st = .limit →
      s.due (.brFault k) = true →
      (s.dist.br[k]).retries < s.raw (0x2610 + k) 9 →
      Completes (.brFaultTimer k) s fun t => (t.dist.br[k]).st = .retryWait ∧ (t.dist.br[k]).cause = 0x0701 ∧ Raised 0x0701 k [] s t ∧
        KeepsBut (([.dist .brAll, .timer (.brFault k), .timer (.brSettle k), .timer (.brInrush k), .timer (.brDebounce k), .timer (.brRetry k),
        .timer (.brOn60 k), .timer (.brLimitOut k), .pins .gateAll, .timer (.brSink k), .pins .pg, .pins .syncOut, .dist .feedAll, .dist .strAll,
        .pins .gpioOut, .pins .gpioDir] : List Part) ++ Part.each 2 .feedDead ++ Part.each 2 .feedRevert ++ Part.each 2 .feedSettle ++ Part.raised) s t) ∧
  -- BR_BREAKER of a branch in ON with a retry left, whose latch is clear and holds no loop off (R228, R239).
  (∀ (k : Fin 16) (s : State),
      s.brNamed k = true →
      (s.dist.br[k]).st = .on →
      s.standby = false →
      (s.dist.br[k]).retries < s.raw (0x2610 + k) 9 →
      s.dist.quench.getLsbD k = false →
      (∀ l : Fin 8, bit (s.raw 0x2650 (k + 1)) (24 + l) = false) →
      Completes (.brBreaker k) s fun t => t.dist.quench = s.dist.quench ||| BitVec.ofNat 18 (2 ^ k.val) ∧ Raised 0x0702 k [] s t ∧
        KeepsBut (([.dist .brAll, .pins .gateAll, .pins .pg, .pins .syncOut, .dist .feedAll, .dist .strAll, .pins .gpioOut, .pins .gpioDir, .dist .quench,
        .dist .quenchOut, .dist .quenchIgnore, .pins .pwmAll, .timers] : List Part) ++ Part.raised) s t) ∧
  -- TRIP_SINK_END (R229).
  (∀ (g : Fin 24) (s : State),
      s.due (.brSink g) = true →
      s.pins.gate[g] = .fastSink →
      Completes (.tripSinkEnd g) s fun t => t.pins = { s.pins with gate := s.pins.gate.set g (s.gateFor g .normalSink) } ∧ Stopped (.brSink g) t ∧
        KeepsBut [.timer (.brSink g), .pins (.gate g)] s t) ∧
  -- BRANCH_MIN_OFF_END of a branch with no on request (R224).
  (∀ (k : Fin 16) (s : State),
      (s.dist.br[k]).st = .stopping →
      s.due (.brMinOff k) = true →
      (s.dist.br[k]).cmd = false →
      s.pins.adopted = 0 →
      Completes (.branchMinOffEnd k) s fun t => t.dist.br = s.dist.br.set k { s.dist.br[k] with st := .off, toOff := false } ∧ Stopped (.brMinOff k) t ∧
        KeepsBut [.dist (.br k), .timer (.brMinOff k), .timer (.brFault k), .timer (.brSettle k), .timer (.brInrush k), .timer (.brDebounce k),
        .timer (.brRetry k), .timer (.brOn60 k), .timer (.brLimitOut k)] s t) ∧
  -- BRANCH_RETRY_END of a branch that names no presence input (R224).
  (∀ (k : Fin 16) (s : State),
      (s.dist.br[k]).st = .retryWait →
      s.due (.brRetry k) = true →
      s.brOnReq k = true →
      23 < s.raw (0x2610 + k) 0x0C →
      s.pins.vgdUv = false →
      Completes (.branchRetryEnd k) s fun t => (t.dist.br[k]).st = .inrush ∧ (t.dist.br[k]).retries = (s.dist.br[k]).retries + 1 ∧
        KeepsBut [.dist (.br k), .timer (.brRetry k), .timer (.brFault k), .timer (.brSettle k), .timer (.brInrush k), .timer (.brDebounce k),
        .timer (.brOn60 k), .timer (.brLimitOut k), .pins .gateAll] s t) ∧
  -- RETRIES_CLEARED (R229).
  (∀ (k : Fin 16) (s : State),
      (s.dist.br[k]).st = .on →
      s.due (.brOn60 k) = true →
      Completes (.retriesCleared k) s fun t => t.dist.br = s.dist.br.set k { s.dist.br[k] with retries := 0 } ∧ Stopped (.brOn60 k) t ∧
        KeepsBut [.dist (.br k), .timer (.brOn60 k)] s t)

/-- Shorted FETs, the gate supply, and feed pairs that qualify, lose, transfer and revert. FET_SHORT at its time, the condition standing, latches the
branch and records 0x0706. CLEAR_FET_SHORT of such a branch, admitted, the condition over, turns it OFF and answers done. GATE_UV, the supply not yet
under its level, sets the undervoltage, puts every branch whose gate stood high in GATE_UV and records 0x0707 with the mask of the gates that stood
high, which may be 0. GATE_UV_RECOVER clears it and leaves the quench latches. FEED_QUALIFIED at its time, of a pair that neither waits nor has lost
its feed, marks the feed qualified. FEED_LOSS of the selected feed, distribution running, the loss confirmed and not yet recorded: with the other feed
qualified the pair goes into its dead time with the other as the next, counts the transfer and records 0x070A; with none qualified it marks the loss
and records 0x070B once. DEAD_TIME_END at its time, the next feed qualified and allowed, the other off, neither gate fast-sinking and the interlock
satisfied, selects it, settling. REVERT_TIME at its time, distribution running, from the other feed with the preferred one qualified, starts the
transfer back with 0x070A. Each clause gives its conditions; the list after its KeepsBut names every part of the state that may change, and all others
stand; a reset's clause says what stays. -/
def Obligations.FetShortsGateSupplyAndFeedsAct : Prop :=
  -- FET_SHORT (R232, R233).
  (∀ (k : Fin 16) (s : State),
      s.due (.brShort k) = true →
      s.brShort k = true →
      Completes (.fetShort k) s fun t => (t.dist.br[k]).st = .fetShort ∧ Raised 0x0706 k [] s t ∧
        KeepsBut (([.dist .strAll, .pins .gateAll, .dist .feedAll, .dist (.br k), .timer (.brFault k), .timer (.brSettle k), .timer (.brInrush k),
        .timer (.brDebounce k), .timer (.brRetry k), .timer (.brOn60 k), .timer (.brLimitOut k),
        .timer (.brShort k)] : List Part) ++ Part.each 16 .brSink ++ Part.each 2 .feedDead ++ Part.each 2 .feedRevert ++ Part.each 2 .feedSettle ++ Part.raised) s t) ∧
  -- CLEAR_FET_SHORT of a branch whose short condition has ended (R232).
  (∀ (w : Session) (d : List Byte) (k : Fin 16) (s : State),
      s.admits w 0x2600 2 d = true →
      leValue d = k →
      (s.dist.br[k]).st = .fetShort →
      s.brShort k = false →
      Completes (.clearFetShort w d) s fun t => t.dist.br = s.dist.br.set k { s.dist.br[k] with st := .off } ∧ Answered w .done t ∧
        KeepsBut [.dist .brAll, .twin .sent, .net (.sess (sessIx w)), .timer (.sessIdle (sessIx w))] s t) ∧
  -- GATE_UV: recorded with the mask of the gates that stood high; every branch whose gate stood high is in GATE_UV (R231, R245).
  (∀ (s : State),
      s.pins.vgdUv = false →
      Completes .gateUv s fun t => t.pins.vgdUv = true ∧ (∀ k : Fin 16, s.gatesHigh.getLsbD k = true → (t.dist.br[k]).st = .gateUv) ∧
      Raised 0x0707 noInst [s.gatesHigh.toNat] s t ∧ KeepsBut (([.dist .strAll, .pins .gateAll, .dist .feedAll, .dist .brAll, .pins .vgdUv,
        .timers] : List Part) ++ Part.raised) s t) ∧
  -- GATE_UV_RECOVER (R231).
  (∀ (s : State),
      s.pins.vgdUv = true →
      Completes .gateUvRecover s fun t => t.pins.vgdUv = false ∧ t.dist.quench = s.dist.quench ∧
        KeepsBut (([.dist .strAll, .pins .gateAll, .bat .strAll, .dist .feedAll, .dist .brAll, .pins .vgdUv, .timers] : List Part) ++ Part.raised) s t) ∧
  -- FEED_QUALIFIED of a pair that neither waits nor has lost its feed (R234).
  (∀ (p : Fin 2) (b : Bool) (s : State),
      s.due (.feedQual p b) = true →
      (s.dist.feed[p]).phase ≠ .waiting →
      (s.dist.feed[p]).lost = false →
      Completes (.feedQualified p b) s fun t => t.dist.feed = s.dist.feed.set p { s.dist.feed[p] with qual := (s.dist.feed[p]).qual.set b.toNat true (Bool.toNat_lt b), qualAt := (s.dist.feed[p]).qualAt.set b.toNat s.now (Bool.toNat_lt b) } ∧ KeepsBut [.timer (.feedQual p b), .dist (.feed p), .timer (.feedDead p), .timer (.feedSettle p), .timer (.feedRevert p)] s t) ∧
  -- FEED_LOSS: the pair transfers to its other feed, which is qualified (R235).
  (∀ (p : Fin 2) (b : Bool) (s : State),
      (s.dist.feed[p]).sel = some b →
      (s.dist.feed[p]).lost = false →
      s.raw (0x2630 + p) 4 ≤ (s.dist.feed[p]).lossRun →
      s.distRuns = true →
      s.feedQual p (!b) = true →
      Completes (.feedLoss p) s fun t => (t.dist.feed[p]).phase = .deadTime false ∧ (t.dist.feed[p]).next = some (!b) ∧
      (t.dist.feed[p]).transfers = bump (s.dist.feed[p]).transfers ∧ Raised 0x070A p [p, (!b).toNat] s t ∧
        KeepsBut (([.dist (.feed p), .pins .gateAll, .timer (.feedSettle p), .timer (.feedRevert p), .timer (.feedDead p)] : List Part) ++ Part.raised) s t) ∧
  -- FEED_LOSS with no other feed qualified: recorded once (R235).
  (∀ (p : Fin 2) (b : Bool) (s : State),
      (s.dist.feed[p]).sel = some b →
      (s.dist.feed[p]).lost = false →
      s.raw (0x2630 + p) 4 ≤ (s.dist.feed[p]).lossRun →
      s.distRuns = true →
      s.feedQual p (!b) = false →
      Completes (.feedLoss p) s fun t => t.dist.feed = s.dist.feed.set p { s.dist.feed[p] with lost := true } ∧ Raised 0x070B p [] s t ∧
      KeepsBut (([.dist (.feed p), .timer (.feedSettle p), .timer (.feedRevert p), .timer (.feedDead p)] : List Part) ++ Part.raised) s t) ∧
  -- DEAD_TIME_END with the other feed qualified and the interlock satisfied (R235, R236).
  (∀ (p : Fin 2) (b : Bool) (s : State),
      s.due (.feedDead p) = true →
      (s.dist.feed[p]).next = some b →
      s.feedMay p = true →
      s.feedQual p b = true →
      s.feedOn p (!b) = false →
      s.pins.gate[(fdGate p (!b))] ≠ .fastSink →
      s.pins.gate[(fdGate p b)] ≠ .fastSink →
      s.feedFreeAt p b ≤ s.now →
      Completes (.deadTimeEnd p) s fun t => (t.dist.feed[p]).phase = .settling ∧ (t.dist.feed[p]).sel = some b ∧
        KeepsBut [.timer (.feedDead p), .pins .gateAll, .dist (.feed p), .timer (.feedSettle p), .timer (.feedRevert p)] s t) ∧
  -- REVERT_TIME (R237).
  (∀ (p : Fin 2) (s : State),
      s.due (.feedRevert p) = true →
      (s.dist.feed[p]).sel = some (!(s.feedPref p)) →
      s.feedQual p (s.feedPref p) = true →
      s.distRuns = true →
      Completes (.revertTime p) s fun t => (t.dist.feed[p]).phase = .deadTime true ∧ (t.dist.feed[p]).next = some (s.feedPref p) ∧
        Raised 0x070A p [p, (s.feedPref p).toNat] s t ∧ KeepsBut (([.dist (.feed p), .pins .gateAll, .timer (.feedSettle p), .timer (.feedRevert p),
        .timer (.feedDead p)] : List Part) ++ Part.raised) s t)

/-- Quench latches are set by the pin and by software, released by command and in time, and the input is re-armed. Where no rail's fault reaction is the
system reset and no such reset waits: QUENCH_IN going low, while the chip neither drives QUENCH_OUT nor ignores the line, its latch clear, sets the
latch of source 17 and records 0x070D with 17. SOFTWARE_QUENCH there, admitted, its latch clear, sets the latch of source 18, records 0x070D with 18
and answers done. (The other commands have no such condition.) QUENCH_RELEASE, admitted, of a source whose latch is set and which is not asserted,
clears the latch, records 0x070E with the source and answers done; QUENCH_AUTO_RELEASE at its time does the same without an answer. No other latch
changes with any of them. QUENCH_IN_REARM at the end of its time, the line high, ends the ignoring of the line and changes no latch. Each clause gives
its conditions; the list after its KeepsBut names every part of the state that may change, and all others stand; a reset's clause says what stays. -/
def Obligations.QuenchLatchesSetAndRelease : Prop :=
  -- QUENCH_IN goes low: the latch of source 17 is set (R239, R240).
  (∀ (s : State),
      s.dist.quenchOut = false →
      s.dist.quenchIgnore = false →
      s.dist.quench.getLsbD 16 = false →
      s.seq.resetAfter = false →
      (∀ r : Fin 32, s.raw (0x2A10 + r) 0x0A ≠ 3) →
      Completes (.quenchIn true) s fun t => t.dist.quench = s.dist.quench ||| 0x10000 ∧ Raised 0x070D noInst [17] s t ∧
        KeepsBut (([.dist .quench, .dist .quenchIn, .dist .quenchOut, .dist .quenchIgnore, .dist .brAll, .dist .feedAll, .dist .strAll, .bat .strAll,
        .pins .gateAll, .pins .gpioOut, .pins .gpioDir, .pins .pwmAll, .pins .pg, .pins .syncOut, .phaseAll, .loopAll, .seq .railAll, .seq .groupsDown,
        .seq .queue, .seq .stoppingNow, .seq .sysOn, .seq .order, .seq .st, .seq .resets, .seq .upSince, .seq .latchAfter, .seq .onAfter,
        .timers] : List Part) ++ Part.raised) s t) ∧
  -- SOFTWARE_QUENCH (R239, R240).
  (∀ (w : Session) (d : List Byte) (s : State),
      s.admits w 0x2600 3 d = true →
      s.dist.quench.getLsbD 17 = false →
      s.seq.resetAfter = false →
      (∀ r : Fin 32, s.raw (0x2A10 + r) 0x0A ≠ 3) →
      Completes (.softwareQuench w d) s fun t => t.dist.quench = s.dist.quench ||| 0x20000 ∧ Raised 0x070D noInst [18] s t ∧ Answered w .done t ∧
        KeepsBut (([.dist .quench, .dist .quenchIn, .dist .quenchOut, .dist .quenchIgnore, .dist .brAll, .dist .feedAll, .dist .strAll, .bat .strAll,
        .pins .gateAll, .pins .gpioOut, .pins .gpioDir, .pins .pwmAll, .pins .pg, .pins .syncOut, .phaseAll, .loopAll, .seq .railAll, .seq .groupsDown,
        .seq .queue, .seq .stoppingNow, .seq .sysOn, .seq .order, .seq .st, .seq .resets, .seq .upSince, .seq .latchAfter, .seq .onAfter, .timers,
        .net (.sess (sessIx w)), .twin .sent] : List Part) ++ Part.raised) s t) ∧
  -- QUENCH_RELEASE of a source that is not asserted (R240).
  (∀ (w : Session) (d : List Byte) (q : Fin 18) (s : State),
      s.admits w 0x2600 4 d = true →
      quenchSource d = some q →
      s.quenchAsserted q = false →
      s.dist.quench.getLsbD q = true →
      Completes (.quenchRelease w d) s fun t => t.dist.quench = s.dist.quench &&& ~~~ BitVec.ofNat 18 (2 ^ q.val) ∧ Raised 0x070E noInst [q.val + 1] s t ∧
        Answered w .done t ∧ KeepsBut (([.dist .quench, .dist .quenchOut, .dist .quenchIgnore, .pins .gpioOut, .pins .gpioDir, .seq .railAll, .seq .order,
        .loopAll, .phaseAll, .laneAll, .dist .brAll, .dist .feedAll, .pins .gateAll, .bat .strAll, .dist .strAll, .twin .sent, .net (.sess (sessIx w)),
        .timers] : List Part) ++ Part.raised) s t) ∧
  -- QUENCH_AUTO_RELEASE (R240).
  (∀ (q : Fin 18) (s : State),
      s.due (.quenchRelease q) = true →
      s.quenchAsserted q = false →
      s.dist.quench.getLsbD q = true →
      Completes (.quenchAutoRelease q) s fun t => t.dist.quench = s.dist.quench &&& ~~~ BitVec.ofNat 18 (2 ^ q.val) ∧ Raised 0x070E noInst [q.val + 1] s t ∧
        KeepsBut (([.dist .quench, .dist .quenchOut, .dist .quenchIgnore, .pins .gpioOut, .pins .gpioDir, .seq .railAll, .seq .order, .loopAll, .phaseAll,
        .laneAll, .dist .brAll, .dist .feedAll, .pins .gateAll, .bat .strAll, .dist .strAll, .timers] : List Part) ++ Part.raised) s t) ∧
  -- QUENCH_IN_REARM while the line is high (R241).
  (∀ (s : State),
      s.due .quenchIgnore = true →
      s.dist.quenchIn = false →
      Completes .quenchInRearm s fun t => t.dist = { s.dist with quenchIgnore := false } ∧ Stopped .quenchIgnore t ∧
        KeepsBut [.dist .quenchIn, .dist .quenchIgnore, .dist .quench, .dist .quenchOut, .dist .brAll, .dist .feedAll, .dist .strAll, .timers] s t)

/-- Battery strings: counting, anchors, capacity reset, low-voltage disconnect and reconnect, latches, learned-data copies. CHARGE_COUNT of a device that
is up, its reference good, integrates each enabled string's step of charge, where it counts without a gap, and keeps the reading. EMPTY_ANCHOR at its
time, of an enabled string outside a cycle, makes its charge 0, its capacity standing, sets AT_EMPTY with the time and records 0x0801 with the charge
and capacity as they were. FULL_ANCHOR at its time, of an enabled string, makes the charge the capacity, sets AT_FULL with the time, opens a cycle and
records 0x0802. CAPACITY_RESET, admitted, outside a cycle, makes capacity and charge the nominal capacity, known, unanchored and not learned, and
answers done. LVD_OPEN at its time sinks the string's gate, marks and counts the disconnect and records 0x0806 with voltage and charge; LVD_RECONNECT
at its time ends the disconnect with 0x0807; RECONNECT_BLOCKED at its time records 0x0808. CLEAR_STRING_LATCH, admitted, of a latched string turns it
off, its gate sinking, waits for matched voltages and answers done. LEARNED_DATA_PERIODIC at its time, no write running and no BROWN_WARN, writes the
target copy, no longer valid, with the learned data for 1 ms and times the next. LEARNED_DATA_WRITE_DONE with no write deferred makes the copy valid
with its number and counts the write. Each clause gives its conditions; the list after its KeepsBut names every part of the state that may change, and
all others stand; a reset's clause says what stays. -/
def Obligations.StringsCountAnchorAndDisconnect : Prop :=
  -- CHARGE_COUNT of an enabled string that counts without a gap (R247, R250).
  (∀ (acc : Vector Rat 4) (n : Fin 4) (s : State),
      s.up = true →
      s.meas.refFail = false →
      s.strEnabled n = true →
      (s.bat.str[n]).stoppedAt = none →
      (s.bat.str[n]).relatch = false →
      s.blkHeld 1 = false →
      Completes (.chargeCount acc) s fun t =>
      (t.bat.str[n]).q = fixCharge ((s.bat.str[n]).q + s.chargeStep n acc[n]) ∧ (t.bat.str[n]).accPrev = acc[n] ∧
      KeepsBut (([.bat .strAll, .dist .strAll, .pins .gateAll,
        .timer .learned] : List Part) ++ Part.each 4 .blocked ++ Part.each 4 .lvd ++ Part.each 4 .reconnect ++ Part.each 4 .strEmpty ++ Part.each 4 .strFull ++ Part.raised) s t) ∧
  -- EMPTY_ANCHOR outside a cycle (R255).
  (∀ (n : Fin 4) (s : State),
      s.due (.strEmpty n) = true →
      s.strEnabled n = true →
      (s.bat.str[n]).cycleOpen = false →
      Completes (.emptyAnchor n) s fun t =>
      (t.bat.str[n]).q = 0 ∧ (t.bat.str[n]).c = (s.bat.str[n]).c ∧ (t.bat.str[n]).atEmpty = true ∧ (t.bat.str[n]).unanchored = false ∧
        (t.bat.str[n]).tEmpty = s.tb.tod ∧
      Raised 0x0801 n [toReal32 (s.bat.str[n]).q, toReal32 (s.bat.str[n]).c, toReal32 (s.bat.str[n]).c, 0] s t ∧
        KeepsBut (([.timer (.strEmpty n), .bat (.str n), .bat .deferred, .bat (.copies s.bat.target), .bat .writing, .bat .writeData, .bat .modelDue,
        .timer .learnedWrite] : List Part) ++ Part.raised) s t) ∧
  -- FULL_ANCHOR (R254).
  (∀ (n : Fin 4) (s : State),
      s.due (.strFull n) = true →
      s.strEnabled n = true →
      Completes (.fullAnchor n) s fun t =>
      (t.bat.str[n]).q = (s.bat.str[n]).c ∧ (t.bat.str[n]).atFull = true ∧ (t.bat.str[n]).cycleOpen = true ∧ (t.bat.str[n]).unanchored = false ∧
        (t.bat.str[n]).tFull = s.tb.tod ∧
      Raised 0x0802 n [] s t ∧ KeepsBut (([.timer (.strFull n), .bat (.str n), .bat .deferred, .bat (.copies s.bat.target), .bat .writing, .bat .writeData,
        .bat .modelDue, .timer .learnedWrite] : List Part) ++ Part.raised) s t) ∧
  -- CAPACITY_RESET outside a cycle (R251).
  (∀ (w : Session) (n : Fin 4) (d : List Byte) (s : State),
      s.admits w (0x2810 + n) 0x0F d = true →
      (s.bat.str[n]).cycleOpen = false →
      Completes (.capacityReset w n d) s fun t =>
      (t.bat.str[n]).c = s.real (0x2810 + n) 2 ∧ (t.bat.str[n]).q = s.real (0x2810 + n) 2 ∧ (t.bat.str[n]).known = true ∧ (t.bat.str[n]).unanchored = true ∧
      (t.bat.str[n]).learned = false ∧ Answered w .done t ∧ KeepsBut [.bat (.str n), .bat .deferred, .bat .copiesAll, .bat .writing, .bat .writeData,
        .bat .modelDue, .timer .learnedWrite, .net (.sess (sessIx w)), .timer (.sessIdle (sessIx w))] s t) ∧
  -- LVD_OPEN (R258, R260).
  (∀ (n : Fin 4) (s : State),
      s.due (.lvd n) = true →
      Completes (.lvdOpen n) s fun t =>
      (t.bat.str[n]).lvd = true ∧ (t.bat.str[n]).lvdCount = bump (s.bat.str[n]).lvdCount ∧
        t.pins.gate = s.pins.gate.set (stGate n) (s.gateFor (stGate n) .normalSink) ∧
      Raised 0x0806 n [toReal32 (s.bat.str[n]).v, toReal32 (s.bat.str[n]).soc] s t ∧
        KeepsBut (([.timer (.lvd n), .dist (.str n), .pins (.gate (stGate n)), .bat (.str n)] : List Part) ++ Part.raised) s t) ∧
  -- LVD_RECONNECT (R259).
  (∀ (n : Fin 4) (s : State),
      s.due (.reconnect n) = true →
      Completes (.lvdReconnect n) s fun t => (t.bat.str[n]).lvd = false ∧ Raised 0x0807 n [] s t ∧
        KeepsBut (([.timer (.reconnect n), .timer (.blocked n), .bat (.str n), .dist (.str n), .pins (.gate (stGate n))] : List Part) ++ Part.raised) s t) ∧
  -- RECONNECT_BLOCKED (R259).
  (∀ (n : Fin 4) (s : State),
      s.due (.blocked n) = true →
      Completes (.reconnectBlocked n) s fun t => Raised 0x0808 n [] s t ∧ KeepsBut (([.timer (.blocked n)] : List Part) ++ Part.raised) s t) ∧
  -- CLEAR_STRING_LATCH of a latched string (R260).
  (∀ (w : Session) (d : List Byte) (n : Fin 4) (s : State),
      s.admits w 0x2800 5 d = true →
      leValue d = n →
      s.dist.str[n] = .latched →
      Completes (.clearStringLatch w d) s fun t =>
      t.dist.str = s.dist.str.set n .off ∧ (t.bat.str[n]).waitMatch = true ∧ t.pins.gate = s.pins.gate.set (stGate n) (s.gateFor (stGate n) .normalSink) ∧
      Answered w .done t ∧ KeepsBut [.dist .strAll, .pins .gateAll, .bat .strAll, .twin .sent, .net (.sess (sessIx w)), .timer (.sessIdle (sessIx w))] s t) ∧
  -- LEARNED_DATA_PERIODIC while no write runs and BROWN_WARN is clear (R262).
  (∀ (s : State),
      s.due .learned = true →
      s.pins.brownWarn = false →
      s.bat.writing = none →
      Completes .learnedDataPeriodic s fun t =>
      t.bat.writing = some s.bat.target ∧ t.bat.writeData = some s.learnedCopy ∧ t.bat.copies = s.bat.copies.set s.bat.target none ∧
      Ends .learnedWrite 1000000 s t ∧ Ends .learned s.learnPeriod s t ∧
        KeepsBut [.timer .learned, .bat (.copies s.bat.target), .bat .writing, .bat .writeData, .bat .deferred, .bat .modelDue, .timer .learnedWrite] s t) ∧
  -- LEARNED_DATA_WRITE_DONE with no write deferred (R262).
  (∀ (i : Fin 2) (x : LearnedCopy) (s : State),
      s.bat.writing = some i →
      s.bat.writeData = some x →
      s.bat.deferred = false →
      Completes .learnedDataWriteDone s fun t =>
      t.bat = { s.bat with copies := s.bat.copies.set i (some x), writing := none, writeData := none, writes := bump s.bat.writes, seq := x.seq } ∧
      Stopped .learnedWrite t ∧ KeepsBut [.bat (.copies i), .bat .writing, .bat .writeData, .bat .deferred, .bat .writes, .bat .seq, .timer .learnedWrite] s t)

/-- Rails: start delay, PG, timeouts, faults, retries, off paths, discharge and minimum off. The sequencer running. RAIL_EVALUATION of a rail in OFF that
shall be on, no reset pending, waits for its dependencies or starts its delay. START_DELAY_END at its time, the dependencies good, enters the rail in
the start order, starting, or held off by its owner's latch. PG_DELAY_END at its time, the rail in window, makes it GOOD with PG, the time and 60 s to
its cleared retries. START_TIMEOUT at its time, 0x0901 recorded: an optional rail has failed with 0x0905, room for two records given; with any other
the sequencer latches, at once or once every rail is down. RAIL_FAULT at its time, reaction 1 and a retry left, stops the rail for a retry, counts the
fault and records 0x0902 with rail and kind. OFF_PATH_COMPLETE of a stopping rail whose path is done, and DISCHARGE_TIMEOUT at its time with 0x090B,
no queue waiting for the rail and no reset pending, lead to MIN_OFF. MIN_OFF_END, the time over and no reset pending, leads a commanded rail with a
retry to its delay, one that latches to LATCHED with 0x0907, and any other to OFF. RAIL_RETRY_END at its time counts the retry and starts the start
delay; RAIL_RETRIES_CLEARED at its time, the rail GOOD, clears the count, and so it does where the sequencer does not run. OFF_DELAY_END at its time,
of the started rail that the shutdown stops now, stops it without PG. Each clause gives its conditions; the list after its KeepsBut names every part
of the state that may change, and all others stand; a reset's clause says what stays. -/
def Obligations.RailsStartStopAndFault : Prop :=
  -- RAIL_EVALUATION of a rail in OFF that shall be on (R272, R274).
  (∀ (r : Fin 32) (s : State),
      s.seqRuns = true →
      s.cfg.railKind r ≠ 0 →
      (s.seq.rail[r]).st = .off →
      s.wanted r = true →
      s.seq.resetAfter = false →
      Completes .railEvaluation s fun t =>
      ((t.seq.rail[r]).st = .waitDeps ∨ (t.seq.rail[r]).st = .startDelay) ∧
      KeepsBut (([.seq .railAll, .pins .pg, .seq .order, .loopAll, .phaseAll, .laneAll, .dist .brAll, .dist .feedAll, .pins .gateAll, .bat .strAll,
        .dist .strAll, .pins .gpioOut, .pins .gpioDir, .seq .st, .seq .resets, .seq .upSince, .seq .latchAfter, .seq .onAfter, .seq .resetAfter, .seq .sysOn,
        .timers] : List Part) ++ Part.raised) s t) ∧
  -- START_DELAY_END (R274): the rail enters the start order and starts, or its owner holds it.
  (∀ (r : Fin 32) (s : State),
      s.seqRuns = true →
      (s.seq.rail[r]).st = .startDelay →
      s.due (.railStart r) = true →
      s.depsOk r = true →
      Completes (.startDelayEnd r) s fun t =>
      ((t.seq.rail[r]).st = .starting ∨ (t.seq.rail[r]).st = .heldOff) ∧ r ∈ t.seq.order ∧
      KeepsBut (([.timer (.railStart r), .seq (.rail r), .seq .order, .loopAll, .phaseAll, .laneAll, .dist .brAll, .dist .feedAll, .pins .gateAll, .bat .strAll,
        .dist .strAll, .pins .gpioOut, .pins .gpioDir, .timer (.railTimeout r), .seq .st, .seq .resets,
        .seq .upSince] : List Part) ++ Part.each 2 .feedDead ++ Part.each 2 .feedSettle ++ Part.raised) s t) ∧
  -- PG_DELAY_END of a rail in window (R276).
  (∀ (r : Fin 32) (s : State),
      s.seqRuns = true →
      (s.seq.rail[r]).st = .pgDelay →
      s.due (.railPg r) = true →
      s.railWindow r false = true →
      Completes (.pgDelayEnd r) s fun t =>
      (t.seq.rail[r]).st = .good ∧ (t.seq.rail[r]).pg = true ∧ (t.seq.rail[r]).tGood = s.tb.tod ∧ Ends (.railGood r) 60000000000 s t ∧
        KeepsBut [.timer (.railPg r), .seq (.rail r), .pins .pg, .timer (.railStart r), .timer (.railTimeout r), .timer (.railFault r), .timer (.railRetry r),
        .timer (.railDischarge r), .timer (.railGood r), .seq .privFail, .seq .st, .seq .resets, .seq .upSince] s t) ∧
  -- START_TIMEOUT of an optional rail (R282).
  (∀ (r : Fin 32) (s : State),
      s.seqRuns = true →
      (s.seq.rail[r]).st = .starting →
      s.due (.railTimeout r) = true →
      s.flag (0x2A10 + r) 0x0E = true →
      s.evr.staging.length < 15 →
      Completes (.startTimeout r) s fun t =>
      (t.seq.rail[r]).st = .privFailed ∧ Raised 0x0901 r [] s t ∧ Raised 0x0905 r [] s t ∧
        KeepsBut (([.seq .railAll, .seq .privFail, .seq .st, .seq .resets, .seq .upSince, .seq .latchAfter, .seq .queue, .seq .stoppingNow, .seq .onAfter,
        .seq .resetAfter, .seq .sysOn, .seq .order, .timers] : List Part) ++ Part.raised) s t) ∧
  -- START_TIMEOUT of a rail that is not optional: every rail shuts down and the sequencer latches (R282).
  (∀ (r : Fin 32) (s : State),
      s.seqRuns = true →
      (s.seq.rail[r]).st = .starting →
      s.due (.railTimeout r) = true →
      s.flag (0x2A10 + r) 0x0E = false →
      s.seq.stoppingNow = none →
      Completes (.startTimeout r) s fun t =>
      t.seq.latchAfter = true ∧ t.seq.stoppingNow = some r ∧ (s.ns (0x2A10 + r) 0x12 = 0 → (t.seq.rail[r]).st = .stopping) ∧
      (s.ns (0x2A10 + r) 0x12 ≠ 0 → (t.seq.rail[r]).st = .starting ∧ Ends (.railOffDelay r) (s.ns (0x2A10 + r) 0x12) s t) ∧ Raised 0x0901 r [] s t ∧
      KeepsBut (([.seq .railAll, .seq .privFail, .seq .st, .seq .resets, .seq .upSince, .seq .latchAfter, .seq .stoppingNow, .seq .queue, .pins .pg, .loopAll,
        .pins .syncOut, .phaseAll, .dist .brAll, .dist .feedAll, .pins .gateAll, .bat .strAll, .dist .strAll, .pins .gpioOut, .pins .gpioDir, .seq .onAfter,
        .seq .resetAfter, .seq .sysOn, .seq .order, .timers] : List Part) ++ Part.raised) s t) ∧
  -- RAIL_FAULT with reaction 1 and a retry left (R278, R279).
  (∀ (r : Fin 32) (s : State),
      s.seqRuns = true →
      (s.seq.rail[r]).st = .outOfWindow →
      s.due (.railFault r) = true →
      s.raw (0x2A10 + r) 0x0A = 1 →
      (s.seq.rail[r]).retries < s.raw (0x2A10 + r) 0x0B →
      Completes (.railFault r) s fun t =>
      (t.seq.rail[r]).st = .stopping ∧ (t.seq.rail[r]).why = .retry ∧ (t.seq.rail[r]).pg = false ∧ (t.seq.rail[r]).faults = bump (s.seq.rail[r]).faults ∧
      Raised 0x0902 r [r, s.cfg.railKind r] s t ∧ KeepsBut (([.seq .railAll, .pins .pg, .seq .groupsDown, .seq .queue, .seq .stoppingNow, .loopAll,
        .pins .syncOut, .phaseAll, .dist .brAll, .dist .feedAll, .pins .gateAll, .bat .strAll, .dist .strAll, .pins .gpioOut, .pins .gpioDir, .seq .st,
        .seq .resets, .seq .upSince, .seq .latchAfter, .seq .resetAfter, .seq .onAfter, .seq .sysOn, .seq .order, .timers] : List Part) ++ Part.raised) s t) ∧
  -- OFF_PATH_COMPLETE of a rail that no queue waits for (R283).
  (∀ (r : Fin 32) (s : State),
      s.seqRuns = true →
      (s.seq.rail[r]).st = .stopping →
      s.pathDone r false = true →
      s.seq.stoppingNow ≠ some r →
      s.seq.resetAfter = false →
      Completes (.offPathComplete r) s fun t => (t.seq.rail[r]).st = .minOff ∧
        KeepsBut (([.seq .railAll, .seq .queue, .seq .stoppingNow, .seq .st, .seq .resets, .seq .upSince, .seq .latchAfter, .seq .onAfter, .seq .resetAfter,
        .seq .sysOn, .seq .order, .timers] : List Part) ++ Part.raised) s t) ∧
  -- DISCHARGE_TIMEOUT of a rail that no queue waits for (R283).
  (∀ (r : Fin 32) (s : State),
      s.seqRuns = true →
      (s.seq.rail[r]).st = .stopping →
      s.due (.railDischarge r) = true →
      s.seq.stoppingNow ≠ some r →
      s.seq.resetAfter = false →
      Completes (.dischargeTimeout r) s fun t => (t.seq.rail[r]).st = .minOff ∧ Raised 0x090B r [] s t ∧
        KeepsBut (([.seq .railAll, .seq .queue, .seq .stoppingNow, .seq .st, .seq .resets, .seq .upSince, .seq .latchAfter, .seq .onAfter, .seq .resetAfter,
        .seq .sysOn, .seq .order, .timers] : List Part) ++ Part.raised) s t) ∧
  -- MIN_OFF_END of a rail that neither retries nor latches, or is no longer commanded: OFF (R279, R283).
  (∀ (r : Fin 32) (s : State),
      s.seqRuns = true →
      (s.seq.rail[r]).st = .minOff →
      s.minOffOver r = true →
      s.seq.resetAfter = false →
      ((s.seq.rail[r]).why ≠ .retry ∧ (s.seq.rail[r]).why ≠ .latch) ∨ s.commanded r = false →
      Completes (.minOffEnd r) s fun t => (t.seq.rail[r]).st = .off ∧
        KeepsBut (([.timer (.railMinOff r), .seq (.rail r), .timer (.railRetry r), .timer (.railStart r), .timer (.railPg r), .timer (.railTimeout r),
        .timer (.railFault r), .timer (.railDischarge r), .timer (.railGood r), .seq .st, .seq .resets, .seq .upSince, .seq .latchAfter, .seq .onAfter,
        .seq .resetAfter, .seq .sysOn, .seq .order] : List Part) ++ Part.raised) s t) ∧
  -- MIN_OFF_END before a retry: its delay begins (R279).
  (∀ (r : Fin 32) (s : State),
      s.seqRuns = true →
      (s.seq.rail[r]).st = .minOff →
      s.minOffOver r = true →
      s.seq.resetAfter = false →
      s.commanded r = true →
      (s.seq.rail[r]).why = .retry →
      Completes (.minOffEnd r) s fun t => (t.seq.rail[r]).st = .retryWait ∧ Ends (.railRetry r) (s.ns (0x2A10 + r) 0x0C) s t ∧
        KeepsBut (([.timer (.railMinOff r), .seq (.rail r), .timer (.railRetry r), .timer (.railStart r), .timer (.railPg r), .timer (.railTimeout r),
        .timer (.railFault r), .timer (.railDischarge r), .timer (.railGood r), .seq .st, .seq .resets, .seq .upSince, .seq .latchAfter, .seq .onAfter,
        .seq .resetAfter, .seq .sysOn, .seq .order] : List Part) ++ Part.raised) s t) ∧
  -- MIN_OFF_END before a latch (R279).
  (∀ (r : Fin 32) (s : State),
      s.seqRuns = true →
      (s.seq.rail[r]).st = .minOff →
      s.minOffOver r = true →
      s.seq.resetAfter = false →
      s.commanded r = true →
      (s.seq.rail[r]).why = .latch →
      Completes (.minOffEnd r) s fun t => (t.seq.rail[r]).st = .latched ∧ Raised 0x0907 r [] s t ∧
        KeepsBut (([.timer (.railMinOff r), .seq (.rail r), .timer (.railRetry r), .timer (.railStart r), .timer (.railPg r), .timer (.railTimeout r),
        .timer (.railFault r), .timer (.railDischarge r), .timer (.railGood r), .pins .pg, .seq .st, .seq .resets, .seq .upSince, .seq .latchAfter,
        .seq .onAfter, .seq .resetAfter, .seq .sysOn, .seq .order] : List Part) ++ Part.raised) s t) ∧
  -- RAIL_RETRY_END (R279).
  (∀ (r : Fin 32) (s : State),
      s.seqRuns = true →
      (s.seq.rail[r]).st = .retryWait →
      s.due (.railRetry r) = true →
      Completes (.railRetryEnd r) s fun t =>
      (t.seq.rail[r]).st = .startDelay ∧ (t.seq.rail[r]).retries = (s.seq.rail[r]).retries + 1 ∧ Ends (.railStart r) (s.ns (0x2A10 + r) 4) s t ∧
        KeepsBut [.timer (.railRetry r), .seq (.rail r), .timer (.railStart r), .seq .st, .seq .resets, .seq .upSince] s t) ∧
  -- RAIL_RETRIES_CLEARED (R279).
  (∀ (r : Fin 32) (s : State),
      (s.seq.rail[r]).st = .good →
      s.due (.railGood r) = true →
      Completes (.railRetriesCleared r) s fun t => t.seq.rail = s.seq.rail.set r { s.seq.rail[r] with retries := 0 } ∧ Stopped (.railGood r) t ∧
        KeepsBut [.timer (.railGood r), .seq (.rail r)] s t) ∧
  -- OFF_DELAY_END of a started rail (R283).
  (∀ (r : Fin 32) (s : State),
      s.seqRuns = true →
      s.seq.stoppingNow = some r →
      s.due (.railOffDelay r) = true →
      railStarted (s.seq.rail[r]).st = true →
      Completes (.offDelayEnd r) s fun t => (t.seq.rail[r]).st = .stopping ∧ (t.seq.rail[r]).pg = false ∧
      KeepsBut (([.timer (.railOffDelay r), .timer (.railStart r), .timer (.railPg r), .timer (.railTimeout r), .timer (.railFault r), .timer (.railRetry r),
        .timer (.railDischarge r), .timer (.railGood r), .seq (.rail r), .pins .pg, .loopAll, .pins .syncOut, .phaseAll, .dist .brAll, .dist .feedAll,
        .pins .gateAll, .bat .strAll, .dist .strAll, .pins .gpioOut,
        .pins .gpioDir] : List Part) ++ Part.each 2 .feedDead ++ Part.each 2 .feedRevert ++ Part.each 2 .feedSettle) s t)

/-- Input loss marks its rails; system on and off, rail commands and group commands act. INPUT_LOSS_DELAY at its time in hold-up, the sequencer running
and no reset pending, marks each commanded rail of its mask to go off, and leaves the shelf and the measurement. By a session that R484 admits, each
answered done: SYSTEM_ON_WRITE of 1, with no lockout, no protective state, nothing latched, off before, every path done and no rail in its minimum off
time, sets system on with an empty start order. SYSTEM_ON_WRITE of 0, every rail in OFF and nothing queued, stopping, pending or powering up, clears
it, the sequencer OFF. RAIL_COMMAND_WRITE, no reset pending and no power-up in progress: of 1 it sets the rail's command and changes no other field of
any rail; of 0 it clears the command of a started rail, which stops. GROUP_COMMAND_WRITE of 1 after 0 sets the group's command and ends its shutdown,
of the group and of each of its rails; of 0 it clears the group's command and changes nothing else of the sequencer. Each clause gives its conditions;
the list after its KeepsBut names every part of the state that may change, and all others stand; a reset's clause says what stays. -/
def Obligations.SystemRailAndGroupCommandsAct : Prop :=
  -- INPUT_LOSS_DELAY in hold-up (R286).
  (∀ (r : Fin 32) (s : State),
      s.seqRuns = true →
      s.shelf.holdup = true →
      s.due .inputLoss = true →
      bit (s.raw 0x2A00 5) r = true →
      s.cfg.railKind r ≠ 0 →
      s.commanded r = true →
      s.seq.resetAfter = false →
      Completes .inputLossDelay s fun t => (t.seq.rail[r]).inputLossOff = true ∧ t.shelf = s.shelf ∧ t.meas = s.meas ∧
      KeepsBut (([.seq .railAll, .seq .queue, .seq .stoppingNow, .pins .pg, .loopAll, .pins .syncOut, .phaseAll, .dist .brAll, .dist .feedAll, .pins .gateAll,
        .bat .strAll, .dist .strAll, .pins .gpioOut, .pins .gpioDir, .seq .st, .seq .resets, .seq .upSince, .seq .latchAfter, .seq .onAfter, .seq .resetAfter,
        .seq .sysOn, .seq .order, .timers] : List Part) ++ Part.raised) s t) ∧
  -- SYSTEM_ON_WRITE of 1 with every rail off and nothing latched (R271, R285).
  (∀ (w : Session) (d : List Byte) (s : State),
      s.admits w 0x2A00 1 d = true →
      leValue d = 1 →
      s.thm.lockout = false →
      s.rst.protective = false →
      s.seq.sysOn = false →
      s.seq.st ≠ .latched →
      s.pathsDone = true →
      ((List.finRange 32).all (fun r => (s.seq.rail[r]).st ≠ .minOff) = true) →
      Completes (.systemOnWrite w d) s fun t => t.seq.sysOn = true ∧ t.seq.order = [] ∧ Answered w .done t ∧
        KeepsBut [.seq .sysOn, .seq .st, .seq .resets, .seq .order, .seq .upSince, .seq .onAfter, .seq .railAll, .seq .queue, .seq .stoppingNow,
        .seq .latchAfter, .seq .resetAfter, .twin .sent, .net (.sess (sessIx w)), .timers] s t) ∧
  -- SYSTEM_ON_WRITE of 0 with every rail off (R271, R284).
  (∀ (w : Session) (d : List Byte) (s : State),
      s.admits w 0x2A00 1 d = true →
      leValue d = 0 →
      (∀ r : Fin 32, (s.seq.rail[r]).st = .off) →
      s.seq.queue = [] →
      s.seq.stoppingNow = none →
      s.seq.resetAfter = false →
      s.seq.latchAfter = false →
      s.seqState ≠ .poweringUp →
      Completes (.systemOnWrite w d) s fun t => t.seq.sysOn = false ∧ t.seq.st = .off ∧ Answered w .done t ∧
        KeepsBut [.seq .sysOn, .seq .st, .seq .resets, .seq .order, .seq .upSince, .seq .onAfter, .seq .railAll, .seq .queue, .seq .stoppingNow,
        .seq .latchAfter, .seq .resetAfter, .twin .sent, .net (.sess (sessIx w)), .timers] s t) ∧
  -- RAIL_COMMAND_WRITE of 1 (R271).
  (∀ (w : Session) (r : Fin 32) (d : List Byte) (s : State),
      s.admits w (0x2A10 + r) 0x15 d = true →
      leValue d = 1 →
      s.seq.resetAfter = false →
      s.seqState ≠ .poweringUp →
      Completes (.railCommandWrite w r d) s fun t => t.seq.rail = s.seq.rail.set r { s.seq.rail[r] with cmd := true } ∧ Answered w .done t ∧
        KeepsBut [.seq (.rail r), .timer (.railStart r), .timer (.railPg r), .timer (.railTimeout r), .timer (.railFault r), .timer (.railRetry r),
        .timer (.railDischarge r), .timer (.railGood r), .seq .st, .seq .resets, .seq .upSince, .seq .latchAfter, .seq .onAfter, .seq .resetAfter, .seq .sysOn,
        .seq .order, .twin .sent, .net (.sess (sessIx w)), .timer (.sessIdle (sessIx w))] s t) ∧
  -- RAIL_COMMAND_WRITE of 0 to a rail that is started, with no power-up in progress: it stops (R271, R284).
  (∀ (w : Session) (r : Fin 32) (d : List Byte) (s : State),
      s.admits w (0x2A10 + r) 0x15 d = true →
      leValue d = 0 →
      railStarted (s.seq.rail[r]).st = true →
      s.seq.resetAfter = false →
      s.seqState ≠ .poweringUp →
      Completes (.railCommandWrite w r d) s fun t => (t.seq.rail[r]).cmd = false ∧ (t.seq.rail[r]).st = .stopping ∧ Answered w .done t ∧
        KeepsBut (([.seq (.rail r), .timer (.railStart r), .timer (.railPg r), .timer (.railTimeout r), .timer (.railFault r), .timer (.railRetry r),
        .timer (.railDischarge r), .timer (.railGood r), .pins .pg, .loopAll, .pins .syncOut, .phaseAll, .dist .brAll, .dist .feedAll, .pins .gateAll,
        .bat .strAll, .dist .strAll, .pins .gpioOut, .pins .gpioDir, .seq .st, .seq .resets, .seq .upSince, .seq .latchAfter, .seq .onAfter, .seq .resetAfter,
        .seq .sysOn, .seq .order, .twin .sent, .net (.sess (sessIx w)),
        .timer (.sessIdle (sessIx w))] : List Part) ++ Part.each 2 .feedDead ++ Part.each 2 .feedRevert ++ Part.each 2 .feedSettle) s t) ∧
  -- GROUP_COMMAND_WRITE of 1 after 0: the group's shutdown is cleared (R288).
  (∀ (w : Session) (g : Fin 8) (d : List Byte) (s : State),
      s.admits w 0x2A01 (g + 1) d = true →
      leValue d = 1 →
      s.seq.groupCmd.getLsbD g = false →
      Completes (.groupCommandWrite w g d) s fun t =>
      t.seq.groupCmd = s.seq.groupCmd ||| BitVec.ofNat 8 (2 ^ g.val) ∧ t.seq.groupsDown = s.seq.groupsDown &&& ~~~ BitVec.ofNat 8 (2 ^ g.val) ∧
      (∀ r : Fin 32, s.groupOf r = some g → (t.seq.rail[r]).groupOff = false) ∧ Answered w .done t ∧
        KeepsBut [.seq .railAll, .seq .groupCmd, .seq .groupsDown, .twin .sent, .net (.sess (sessIx w)), .timer (.sessIdle (sessIx w))] s t) ∧
  -- GROUP_COMMAND_WRITE of 0 (R288).
  (∀ (w : Session) (g : Fin 8) (d : List Byte) (s : State),
      s.admits w 0x2A01 (g + 1) d = true →
      leValue d = 0 →
      Completes (.groupCommandWrite w g d) s fun t =>
      t.seq = { s.seq with groupCmd := s.seq.groupCmd &&& ~~~ BitVec.ofNat 8 (2 ^ g.val) } ∧ Answered w .done t ∧
        KeepsBut [.seq .railAll, .seq .groupCmd, .seq .groupsDown, .twin .sent, .net (.sess (sessIx w)), .timer (.sessIdle (sessIx w))] s t)

/-- Temperature sensors: readings, thresholds, throttle channels, thermal shutdown, failure and recovery. SENSOR_CONVERSION, the timebase out of reset, of
a commanded healthy sensor: a reading that counts as neither bad nor out of range is the sensor's value, its last good one and valid, with the time of
day, ends the run of bad ones, and the warning, throttle and shutdown thresholds each count it; an unusable one leaves the value and adds its badness
to the run, up to the failing number. SENSOR_SLOW at its time returns to the slow rate. TEMP_WARNING and THROTTLE_ACTIVE at the second reading above
an enabled threshold that is not asserted, the sensor healthy and not above its shutdown, assert it with 0x0A01 and 0x0A02. THERMAL_SHUTDOWN, no reset
being released, of a chip of no pair, locks out, marks its sensor, counts the shutdown, has 0x0A04 recorded where staging has room, clears system on,
holds no branch, sinks every gate fast, leaves the GPIO driven only for fault outputs, and begins the warm reset of the thermal cause. THRESHOLD_CLEAR
at the second reading below, of a healthy sensor, ends a warning; a throttle threshold, no factor changing; and of the only sensor that locks out, the
lockout. THROTTLE_STEP at its time, a sensor of the mask throttling, on a chip that is no standby, lowers the factor by the step, at least to the
floor, which a factor reaching it records as 0x0A03, leaves a factor below the floor, and times the next. THROTTLE_RESTORE at its time, none
throttling or about to, raises the factor by the step up to 1, where it records 0x0A06, and below times the next. SENSOR_FAIL at the failing number
marks the sensor failed and not valid at its last good value, warning, with 0x0A05. SENSOR_RECOVER after ten good readings ends the failure and its
run. Each clause gives its conditions; the list after its KeepsBut names every part of the state that may change, and all others stand; a reset's
clause says what stays. -/
def Obligations.SensorsThresholdsThrottleAndShutdown : Prop :=
  -- SENSOR_CONVERSION that gives a usable reading of a healthy sensor (R126, R297, R300).
  (∀ (k : Fin 16) (x v r : Rat) (s : State),
      s.tbOut = true →
      s.sensorOn k = true →
      (s.thm.sensor[k]).failed = false →
      s.badness k (s.reading k x) v r = 0 →
      Completes (.sensorConversion k x v r) s fun t =>
      (t.thm.sensor[k]).t = s.reading k x ∧ (t.thm.sensor[k]).good = s.reading k x ∧ (t.thm.sensor[k]).at_ = s.tb.tod ∧ (t.thm.sensor[k]).valid = true ∧
        (t.thm.sensor[k]).badRun = 0 ∧
      (t.thm.sensor[k]).warn = (s.thm.sensor[k]).warn.count (s.threshAt k 0).1 (s.threshAt k 0).2 (s.reading k x) ∧
      (t.thm.sensor[k]).thr = (s.thm.sensor[k]).thr.count (s.threshAt k 1).1 (s.threshAt k 1).2 (s.reading k x) ∧
      (t.thm.sensor[k]).shut = (s.thm.sensor[k]).shut.count (s.threshAt k 2).1 (s.threshAt k 2).2 (s.reading k x) ∧
        KeepsBut [.thm (.sensor k), .timer (.sensorSlow k), .meas .rhoNext, .tb .lastT] s t) ∧
  -- SENSOR_CONVERSION that is out of range or bad (R305): counted only.
  (∀ (k : Fin 16) (x v r : Rat) (s : State),
      s.tbOut = true →
      s.sensorOn k = true →
      (s.thm.sensor[k]).failed = false →
      usable k (s.badness k (s.reading k x) v r) = false →
      Completes (.sensorConversion k x v r) s fun t =>
      (t.thm.sensor[k]).badRun = min (failRuns k) ((s.thm.sensor[k]).badRun + s.badness k (s.reading k x) v r) ∧ (t.thm.sensor[k]).t = (s.thm.sensor[k]).t ∧
        KeepsBut [.thm (.sensor k)] s t) ∧
  -- SENSOR_SLOW (R298).
  (∀ (k : Fin 16) (s : State),
      s.due (.sensorSlow k) = true →
      Completes (.sensorSlow k) s fun t => (t.thm.sensor[k]).fast = false ∧ Stopped (.sensorSlow k) t ∧ KeepsBut [.timer (.sensorSlow k), .thm (.sensor k)] s t) ∧
  -- TEMP_WARNING at the second reading (R300).
  (∀ (k : Fin 16) (s : State),
      s.threshOn k 0 = true →
      2 ≤ (s.thm.sensor[k]).warn.above →
      (s.thm.sensor[k]).warn.on = false →
      (s.thm.sensor[k]).failed = false →
      s.shutsDown k = false →
      Completes (.tempWarning k) s fun t => (t.thm.sensor[k]).warn.on = true ∧ Raised 0x0A01 k [] s t ∧
        KeepsBut (([.thm (.sensor k)] : List Part) ++ Part.raised) s t) ∧
  -- THROTTLE_ACTIVE at the second reading (R300, R303).
  (∀ (k : Fin 16) (s : State),
      s.threshOn k 1 = true →
      2 ≤ (s.thm.sensor[k]).thr.above →
      (s.thm.sensor[k]).thr.on = false →
      (s.thm.sensor[k]).failed = false →
      s.shutsDown k = false →
      Completes (.throttleActive k) s fun t => (t.thm.sensor[k]).thr.on = true ∧ Raised 0x0A02 k [] s t ∧
        KeepsBut (([.thm .fAll, .thm (.sensor k)] : List Part) ++ Part.each 8 .thrRestore ++ Part.each 8 .thrStep ++ Part.raised) s t) ∧
  -- THERMAL_SHUTDOWN at the second reading, no reset being released (R301): the lockout stands, the shutdown is counted and the thermal warm  reset
  -- begins with nothing held.
  (∀ (k : Fin 16) (s : State),
      s.shutsDown k = true →
      s.releasing = false →
      s.pins.twinPar = false →
      s.rst.supplyOk = true →
      Completes (.thermalShutdown k) s fun t =>
      t.thm.lockout = true ∧ t.thm.lockSensors = s.thm.lockSensors ||| BitVec.ofNat 16 (2 ^ k.val) ∧ t.thm.shutdowns = bump s.thm.shutdowns ∧
      t.rst.cause = causeThermal ∧ t.rst.scope = .warm ∧ t.rst.phase = .step 1 ∧ t.seq.sysOn = false ∧ t.pins.brHold = 0 ∧
        t.pins.gate = Vector.replicate 24 .fastSink ∧ t.pins.gpioDir = s.pins.gpioDir &&& s.faultPins ∧
      (s.evr.staging.length < 16 → ∃ r ∈ t.evr.staging, r.code = 0x0A04) ∧ t.pending = s.pending ∧ t.mem.user = s.mem.user) ∧
  -- THRESHOLD_CLEAR of a warning (R300).
  (∀ (k : Fin 16) (s : State),
      (s.thm.sensor[k]).warn.on = true →
      2 ≤ (s.thm.sensor[k]).warn.below →
      (s.thm.sensor[k]).failed = false →
      Completes (.thresholdClear k 0) s fun t => (t.thm.sensor[k]).warn.on = false ∧ KeepsBut [.thm (.sensor k)] s t) ∧
  -- THRESHOLD_CLEAR of a throttle threshold (R300, R303).
  (∀ (k : Fin 16) (s : State),
      (s.thm.sensor[k]).thr.on = true →
      2 ≤ (s.thm.sensor[k]).thr.below →
      (s.thm.sensor[k]).failed = false →
      Completes (.thresholdClear k 1) s fun t => (t.thm.sensor[k]).thr.on = false ∧ t.thm.f = s.thm.f ∧
        KeepsBut (([.thm (.sensor k)] : List Part) ++ Part.each 8 .thrRestore ++ Part.each 8 .thrStep) s t) ∧
  -- THRESHOLD_CLEAR of the last sensor that shut the device down: the lockout clears (R301).
  (∀ (k : Fin 16) (s : State),
      s.thm.lockSensors = BitVec.ofNat 16 (2 ^ k.val) →
      2 ≤ (s.thm.sensor[k]).shut.below →
      (s.thm.sensor[k]).failed = false →
      Completes (.thresholdClear k 2) s fun t => (t.thm.sensor[k]).shut.on = false ∧ t.thm.lockout = false ∧ t.thm.lockSensors = 0 ∧
        KeepsBut [.thm (.sensor k), .thm .lockout, .thm .lockSensors, .seq .sysOn, .seq .st, .seq .resets, .seq .order, .seq .upSince, .seq .onAfter] s t) ∧
  -- THROTTLE_STEP while a sensor of the mask throttles (R303).
  (∀ (j : Fin 8) (s : State),
      s.due (.thrStep j) = true →
      s.anyThrottle j = true →
      s.standby = false →
      Completes (.throttleStep j) s fun t =>
      t.thm.f[j] = (if s.thm.f[j] < s.real (0x2C40 + j) 7 then s.thm.f[j] else max (s.real (0x2C40 + j) 7) (s.thm.f[j] - s.real (0x2C40 + j) 6)) ∧
      (max (s.real (0x2C40 + j) 7) (s.thm.f[j] - s.real (0x2C40 + j) 6) = s.real (0x2C40 + j) 7 → s.real (0x2C40 + j) 7 < s.thm.f[j] → Raised 0x0A03 j [] s t) ∧
      Ends (.thrStep j) (s.ns (0x2C40 + j) 8) s t ∧ KeepsBut (([.timer (.thrRestore j), .timer (.thrStep j), .thm (.f j)] : List Part) ++ Part.raised) s t) ∧
  -- THROTTLE_RESTORE (R303).
  (∀ (j : Fin 8) (s : State),
      s.due (.thrRestore j) = true →
      s.anyThrottle j = false →
      (∀ k : Fin 16, bit (s.raw (0x2C40 + j) 1) k = true → s.reasserts k = false) →
      s.standby = false →
      Completes (.throttleRestore j) s fun t =>
      t.thm.f[j] = min 1 (s.thm.f[j] + s.real (0x2C40 + j) 6) ∧ (t.thm.f[j] = 1 → Raised 0x0A06 j [] s t) ∧
      (t.thm.f[j] ≠ 1 → Ends (.thrRestore j) (s.ns (0x2C40 + j) 9) s t) ∧ KeepsBut (([.timer (.thrRestore j), .thm (.f j)] : List Part) ++ Part.raised) s t) ∧
  -- SENSOR_FAIL (R305).
  (∀ (k : Fin 16) (s : State),
      failRuns k ≤ (s.thm.sensor[k]).badRun →
      (s.thm.sensor[k]).failed = false →
      s.sensorOn k = true →
      Completes (.sensorFail k) s fun t =>
      (t.thm.sensor[k]).failed = true ∧ (t.thm.sensor[k]).valid = false ∧ (t.thm.sensor[k]).t = (s.thm.sensor[k]).good ∧ (t.thm.sensor[k]).warn.on = true ∧
      Raised 0x0A05 k [] s t ∧ KeepsBut (([.thm .fAll, .thm (.sensor k), .meas .rhoFrozen,
        .tb .tempStale] : List Part) ++ Part.each 8 .thrRestore ++ Part.each 8 .thrStep ++ Part.raised) s t) ∧
  -- SENSOR_RECOVER (R305).
  (∀ (k : Fin 16) (s : State),
      (s.thm.sensor[k]).failed = true →
      10 ≤ (s.thm.sensor[k]).goodRun →
      Completes (.sensorRecover k) s fun t =>
      (t.thm.sensor[k]).failed = false ∧ (t.thm.sensor[k]).badRun = 0 ∧ KeepsBut [.meas .rhoFrozen, .thm (.sensor k), .tb .tempStale] s t)

/-- Engine and system watchdogs, the hot spare, migration, reload and self-test. ENGINE_WDOG at its time, of E0 to E6 with E7 free: before the third
expiry in ten minutes the set runs on E7, the engine is in its self-test for 20 ms, the expiry and the set's epoch are counted, E7's watchdog runs,
and 0x0B04 and, room for it given, 0x0B06 are recorded; at the third the engine is retired with 0x0B07 and E7 hosts its set. Of an idle E7 the expiry
and its epoch are counted with 0x0B04, and it is idle again. Without a free spare, in solo operation, and SYSTEM_WDOG at its time, they begin the warm
reset of their cause; SYSTEM_WDOG counts its expiry and owes its record. MIGRATION_DONE, the set holding no lock: out, the set runs on E7 with its
tasks done, and the engine reloads for 50 ms without a watchdog; back, outside a live update, it runs at home with its tasks done and watchdog, E7
idle. ENGINE_RELOAD_DONE leads to the self-test of 20 ms. SELF_TEST_DONE passed, of E0 to E6, migrates back within 2 ms; failed outside a live update,
in solo operation, it retires the engine with 0x0B07; failed on the new image of a live update it turns the update round, the failed engine first,
reloading, the slot reverted, with 0x1311. Each clause gives its conditions; the list after its KeepsBut names every part of the state that may
change, and all others stand; a reset's clause says what stays. -/
def Obligations.WatchdogsMigrationAndSelfTest : Prop :=
  -- ENGINE_WDOG while E7 is free and the expiry is not the third (R312).
  (∀ (e : Fin 8) (s : State),
      s.due (.wdog e) = true →
      e ≠ 7 →
      s.spareFree = true →
      (s.recentExpiries e).length < 2 →
      Completes (.engineWdog e) s fun t =>
      (t.eng.eng[e]).st = .selfTest ∧ (t.eng.eng[e]).expiries = bump (s.eng.eng[e]).expiries ∧ (t.eng.eng[7]).st = .hosting ∧ t.eng.host[e] = 7 ∧
      t.eng.epoch[engIx e] = s.eng.epoch[engIx e] + 1 ∧ Raised 0x0B04 e [] s t ∧ (s.evr.staging.length < 11 → ∃ r ∈ t.evr.staging, r.code = 0x0B06 ∧
        r.inst = e) ∧ Ends (.selfTest e) 20000000 s t ∧ Ends (.wdog 7) (s.ns 0x3817 3) s t ∧
      KeepsBut (([.eng (.eng e), .eng (.eng 7), .eng (.host e), .eng (.epoch (engIx e)), .eng .queueAll, .eng .lockAll, .eng .armAll, .eng .dbAll,
        .pins .spiIrq, .rst .blk, .net .sessAll, .net .shadow, .net .claim, .timers] : List Part) ++ Part.raised) s t) ∧
  -- ENGINE_WDOG while E7 is free at the third expiry in ten minutes (R312): the engine is retired.
  (∀ (e : Fin 8) (s : State),
      s.due (.wdog e) = true →
      e ≠ 7 →
      s.spareFree = true →
      2 ≤ (s.recentExpiries e).length →
      Completes (.engineWdog e) s fun t =>
      (t.eng.eng[e]).st = .retired ∧ (t.eng.eng[7]).st = .hosting ∧ t.eng.host[e] = 7 ∧ (⟨0x0B07, e⟩ : ErrEntry) ∈ t.net.batch ∧
        KeepsBut (([.eng (.eng e), .eng (.eng 7), .eng (.host e), .eng (.epoch (engIx e)), .eng .queueAll, .eng .lockAll, .eng .armAll, .eng .dbAll,
        .pins .spiIrq, .rst .blk, .net .sessAll, .net .shadow, .net .claim, .timers] : List Part) ++ Part.raised) s t) ∧
  -- ENGINE_WDOG of E7 while it is idle (R312): counted and block-reset.
  (∀ (s : State),
      s.due (.wdog 7) = true →
      (s.eng.eng[7]).st = .idle →
      Completes (.engineWdog 7) s fun t =>
      (t.eng.eng[7]).st = .idle ∧ (t.eng.eng[7]).expiries = bump (s.eng.eng[7]).expiries ∧ t.eng.epoch[8] = s.eng.epoch[8] + 1 ∧ Raised 0x0B04 7 [] s t ∧
        KeepsBut (([.eng (.eng 7), .eng (.epoch 8), .eng .queueAll, .eng .lockAll, .eng .armAll, .eng .dbAll, .pins .spiIrq, .rst .blk, .timer (.wdog 7),
        .timer (.blkHold 0x17)] : List Part) ++ Part.raised) s t) ∧
  -- ENGINE_WDOG without a free spare in solo operation (R312): the warm reset of its cause.
  (∀ (e : Fin 8) (s : State),
      s.due (.wdog e) = true →
      e ≠ 7 →
      s.spareFree = false →
      s.active = false →
      s.releasing = false →
      s.rst.supplyOk = true →
      Completes (.engineWdog e) s fun t =>
      t.rst.cause = causeEngWdog ∧ t.rst.scope = .warm ∧ t.rst.phase = .step 1 ∧ t.rst.warmCount = s.rst.warmCount + 1 ∧ t.pending = s.pending ∧
        t.mem.user = s.mem.user) ∧
  -- SYSTEM_WDOG in solo operation (R313).
  (∀ (s : State),
      s.due .sysWdog = true →
      s.active = false →
      s.releasing = false →
      s.rst.supplyOk = true →
      Completes .systemWdog s fun t =>
      t.rst.cause = causeSysWdog ∧ t.rst.scope = .warm ∧ t.rst.phase = .step 1 ∧ t.eng.sysPending = true ∧ t.eng.sysExpiries = bump s.eng.sysExpiries ∧
        t.pending = s.pending ∧ t.mem.user = s.mem.user) ∧
  -- MIGRATION_DONE of a set that moves to E7 (R314, R315).
  (∀ (e : Fin 8) (s : State),
      s.running (.migrate e) = true →
      s.noLocks e = true →
      (s.eng.eng[e]).st = .migratingOut →
      e ≠ 7 →
      Completes (.migrationDone e) s fun t =>
      t.eng.host[e] = 7 ∧ (t.eng.eng[7]).st = .hosting ∧ (t.eng.eng[7]).tasksDone = (s.eng.eng[e]).tasksDone ∧ (t.eng.eng[e]).st = .reloading ∧
        Stopped (.wdog e) t ∧
      Ends (.reload e) 50000000 s t ∧ Ends (.wdog 7) (s.ns 0x3817 3) s t ∧
        KeepsBut (([.timer (.migrate e), .eng (.host e), .eng .engAll, .timer (.wdog 7), .timer (.wdog e), .timer (.reload e), .timer .trial,
        .timer (.reload 7)] : List Part) ++ Part.each 8 .migrate) s t) ∧
  -- MIGRATION_DONE of a set that moves back, outside a live update (R314, R315).
  (∀ (e : Fin 8) (s : State),
      s.running (.migrate e) = true →
      s.noLocks e = true →
      (s.eng.eng[e]).st = .migratingBack →
      s.upd.liveTodo = [] →
      e ≠ 7 →
      Completes (.migrationDone e) s fun t =>
      t.eng.host[e] = e ∧ (t.eng.eng[e]).st = .running ∧ (t.eng.eng[e]).tasksDone = (s.eng.eng[7]).tasksDone ∧ (t.eng.eng[7]).st = .idle ∧
      Ends (.wdog e) (s.ns (0x3810 + e) 3) s t ∧ KeepsBut [.timer (.migrate e), .eng (.host e), .eng (.eng 7), .timer (.wdog 7), .timer (.wdog e),
        .eng (.eng e), .timer (.reload e)] s t) ∧
  -- ENGINE_RELOAD_DONE (R315).
  (∀ (e : Fin 8) (s : State),
      s.running (.reload e) = true →
      (s.eng.eng[e]).st = .reloading →
      Completes (.engineReloadDone e) s fun t => (t.eng.eng[e]).st = .selfTest ∧ Ends (.selfTest e) 20000000 s t ∧ Stopped (.reload e) t ∧
        KeepsBut [.timer (.reload e), .eng (.eng e), .timer (.selfTest e)] s t) ∧
  -- SELF_TEST_DONE passed (R312): the set migrates back.
  (∀ (e : Fin 8) (s : State),
      s.running (.selfTest e) = true →
      (s.eng.eng[e]).st = .selfTest →
      e ≠ 7 →
      Completes (.selfTestDone e true) s fun t => (t.eng.eng[e]).st = .migratingBack ∧ (t.eng.eng[e]).selfTest = 0 ∧ Ends (.migrate e) 2000000 s t ∧
        KeepsBut [.timer (.selfTest e), .eng (.eng e), .timer (.migrate e)] s t) ∧
  -- SELF_TEST_DONE failed outside a live update, in solo operation (R312): the engine is retired.
  (∀ (e : Fin 8) (s : State),
      s.running (.selfTest e) = true →
      (s.eng.eng[e]).st = .selfTest →
      s.upd.liveTodo = [] →
      s.active = false →
      Completes (.selfTestDone e false) s fun t => (t.eng.eng[e]).st = .retired ∧ (t.eng.eng[e]).selfTest = 1 ∧ Raised 0x0B07 e [] s t ∧
        Stopped (.selfTest e) t ∧ KeepsBut (([.timer (.selfTest e), .eng (.eng e)] : List Part) ++ Part.raised) s t) ∧
  -- SELF_TEST_DONE failed on the new image of a live update (R465): reverse order, the failed engine first.
  (∀ (e : Fin 8) (s : State),
      s.running (.selfTest e) = true →
      (s.eng.eng[e]).st = .selfTest →
      s.upd.liveTodo.head? = some e →
      s.upd.liveBack = false →
      Completes (.selfTestDone e false) s fun t =>
      t.upd.liveBack = true ∧ t.upd.liveTodo = e :: s.upd.liveDone ∧ t.upd.phase = .none ∧ (t.upd.slot[s.upd.other]).st = .reverted ∧
        (t.eng.eng[e]).st = .reloading ∧
      Raised 0x1311 e [] s t ∧ Ends (.reload e) 50000000 s t ∧
        KeepsBut (([.timer (.selfTest e), .eng (.eng e), .timer .trial, .upd (.slot (s.upd.other)), .upd .phase, .upd .liveTodo, .upd .liveDone, .upd .liveBack,
        .upd .expired, .timer (.wdog e), .timer (.reload e)] : List Part) ++ Part.raised) s t)

/-- Messages: posts to engines, the host and proxies, full queues, acknowledgements and the host's epoch. MBX_POST by an identity that reaches its queue,
not the host, the queue's sender, of at most 56 bytes: into a free next slot, the receiver no proxy, it stores the stamped message and counts pointer,
SEQ and posts; the receiver a proxy without a peer, the slot holds it acknowledged with 0x15 and SEQ counts; with a peer the slot holds it, it goes
out to the twin and waits 10 ms. An occupied next slot refuses it: the slots, pointer and SEQ stand, the refusal is counted and 0x0C01 recorded, not
within a second of the last. By the host, of the staged message: longer than 56 bytes to Q00 to Q15 it is refused with reason 3 and no queue changes;
otherwise into a free next slot, the receiver no proxy, it is stored and the result names slot and SEQ. MBX_ACK by the queue's receiver of an occupied
slot: with the sender's epoch unchanged and no message of a peer waiting it gives the slot its code; with another epoch it frees the slot, counts the
orphan and records 0x0C02, not within a second of the last. By another identity it only records 0x0C04. HOST_BUMP counts the host's epoch, frees its
locks and returns the SPI session to Observer. Each clause gives its conditions; the list after its KeepsBut names every part of the state that may
change, and all others stand; a reset's clause says what stays. -/
def Obligations.MessagesArePostedAndAcknowledged : Prop :=
  -- MBX_POST by an engine whose queue's next slot is free (R318, R319): the slot holds the stamped message and the SEQ counts.
  (∀ (who : Fin 11) (q : Fin 64) (d : List Byte) (s : State),
      s.reaches who = true →
      who ≠ 0 →
      s.sender q = identCode who →
      d.length ≤ 56 →
      ((s.eng.queue[q]).slot[(s.eng.queue[q]).ptr]).state ≠ 1 →
      s.receiver q ≠ 0x20 →
      s.receiver q ≠ 0x21 →
      Completes (.mbxPost who q d) s fun t =>
      (t.eng.queue[q]).slot[(s.eng.queue[q]).ptr] = s.stamp q d ∧ (t.eng.queue[q]).ptr = (s.eng.queue[q]).ptr + 1 ∧
        (t.eng.queue[q]).seq = (s.eng.queue[q]).seq + 1 ∧
      (t.eng.queue[q]).posts = bump (s.eng.queue[q]).posts ∧ KeepsBut [.eng (.queue q), .eng .dbAll, .pins .spiIrq, .eng .fullIrq] s t) ∧
  -- MBX_POST to a proxy with no peer behind it (R326): the slot holds the message acknowledged with 0x15.
  (∀ (who : Fin 11) (q : Fin 64) (d : List Byte) (s : State),
      s.reaches who = true →
      who ≠ 0 →
      s.sender q = identCode who →
      d.length ≤ 56 →
      ((s.eng.queue[q]).slot[(s.eng.queue[q]).ptr]).state ≠ 1 →
      s.receiver q = 0x20 ∨ s.receiver q = 0x21 →
      s.proxyUp q = false →
      Completes (.mbxPost who q d) s fun t =>
      (t.eng.queue[q]).slot[(s.eng.queue[q]).ptr] = { s.stamp q d with state := 2, code := 0x15 } ∧ (t.eng.queue[q]).seq = (s.eng.queue[q]).seq + 1 ∧
        KeepsBut [.eng (.queue q), .eng .dbAll, .pins .spiIrq, .eng .fullIrq] s t) ∧
  -- MBX_POST to a proxy with a peer behind it (R326): the message goes out and waits 10 ms.
  (∀ (who : Fin 11) (q : Fin 64) (d : List Byte) (s : State),
      s.reaches who = true →
      who ≠ 0 →
      s.sender q = identCode who →
      d.length ≤ 56 →
      ((s.eng.queue[q]).slot[(s.eng.queue[q]).ptr]).state ≠ 1 →
      s.receiver q = 0x20 ∨ s.receiver q = 0x21 →
      s.proxyUp q = true →
      Completes (.mbxPost who q d) s fun t =>
      (t.eng.queue[q]).slot[(s.eng.queue[q]).ptr] = s.stamp q d ∧ t.twin.sent.head? = some (.message q (s.stamp q d)) ∧
      Ends (.proxy q (s.eng.queue[q]).ptr) 10000000 s t ∧ KeepsBut [.eng (.queue q), .timer (.limit 3073 q), .eng .dbAll, .pins .spiIrq, .eng .fullIrq,
        .twin .sent, .twin .proxyOut, .timer (.proxy q ((Queue.ptr (Eng.queue (State.eng s))[q])))] s t) ∧
  -- MBX_POST to a full queue (R319).
  (∀ (who : Fin 11) (q : Fin 64) (d : List Byte) (s : State),
      s.reaches who = true →
      who ≠ 0 →
      s.sender q = identCode who →
      d.length ≤ 56 →
      ((s.eng.queue[q]).slot[(s.eng.queue[q]).ptr]).state = 1 →
      s.running (.limit 0x0C01 q) = false →
      Completes (.mbxPost who q d) s fun t =>
      (t.eng.queue[q]).slot = (s.eng.queue[q]).slot ∧ (t.eng.queue[q]).ptr = (s.eng.queue[q]).ptr ∧ (t.eng.queue[q]).seq = (s.eng.queue[q]).seq ∧
      (t.eng.queue[q]).refused = bump (s.eng.queue[q]).refused ∧ Raised 0x0C01 q [] s t ∧
        KeepsBut (([.eng (.queue q), .timer (.limit 3073 q), .eng .dbAll, .eng .fullIrq,
        .timer (.proxy q ((Queue.ptr (Eng.queue (State.eng s))[q])))] : List Part) ++ Part.raised) s t) ∧
  -- MBX_POST by the host of a message longer than 56 bytes (R331): refused with reason 3.
  (∀ (q : Fin 64) (d : List Byte) (s : State),
      s.hostUp = true →
      s.eng.txQueue < 16 →
      56 < s.eng.txLen →
      Completes (.mbxPost 0 q d) s fun t =>
      t.eng.postResult = 2 ∧ t.eng.postReason = 3 ∧ t.eng.queue = s.eng.queue ∧
        KeepsBut [.eng .postResult, .eng .postSlot, .eng .postReason, .eng .postSeq] s t) ∧
  -- MBX_POST by the host, its queue's next slot free and its receiver an engine (R319, R331).
  (∀ (q : Fin 64) (m : Fin 64) (d : List Byte) (s : State),
      s.hostUp = true →
      m.val < 16 →
      s.eng.txQueue = m.val →
      s.eng.txLen ≤ 56 →
      ((s.eng.queue[m]).slot[(s.eng.queue[m]).ptr]).state ≠ 1 →
      s.receiver m ≠ 0x20 →
      s.receiver m ≠ 0x21 →
      Completes (.mbxPost 0 q d) s fun t =>
      t.eng.postResult = 1 ∧ t.eng.postSlot = (s.eng.queue[m]).ptr.val ∧ t.eng.postReason = 0 ∧ t.eng.postSeq = (s.eng.queue[m]).seq.toNat ∧
      (t.eng.queue[m]).slot[(s.eng.queue[m]).ptr] = s.stamp m s.staged ∧ (t.eng.queue[m]).ptr = (s.eng.queue[m]).ptr + 1 ∧
        KeepsBut [.eng (.queue m), .eng .dbAll, .pins .spiIrq, .eng .fullIrq, .eng .postResult, .eng .postSlot, .eng .postReason, .eng .postSeq] s t) ∧
  -- MBX_ACK of an occupied slot by its receiver, the sender's epoch unchanged and the message not a peer's (R320).
  (∀ (who : Fin 11) (q : Fin 64) (k : Fin 16) (code : Nat) (s : State),
      s.reaches who = true →
      s.receiver q = identCode who →
      ((s.eng.queue[q]).slot[k]).state = 1 →
      ((s.eng.queue[q]).slot[k]).sepoch = (s.epochOf (s.sender q)).toNat →
      s.twin.proxyIn = [] →
      Completes (.mbxAck who q k code) s fun t =>
      (t.eng.queue[q]).slot[k] = { (s.eng.queue[q]).slot[k] with state := 2, code := code % 256 } ∧
        KeepsBut [.eng (.queue q), .eng .dbAll, .pins .spiIrq, .eng .orphans] s t) ∧
  -- MBX_ACK of a message whose sender's epoch has incremented (R322, R323).
  (∀ (who : Fin 11) (q : Fin 64) (k : Fin 16) (code : Nat) (s : State),
      s.reaches who = true →
      s.receiver q = identCode who →
      ((s.eng.queue[q]).slot[k]).state = 1 →
      ((s.eng.queue[q]).slot[k]).sepoch ≠ (s.epochOf (s.sender q)).toNat →
      s.running (.limit 0x0C02 noInst) = false →
      Completes (.mbxAck who q k code) s fun t =>
      ((t.eng.queue[q]).slot[k]).state = 0 ∧ t.eng.orphans = bump s.eng.orphans ∧ Raised 0x0C02 noInst [q, k] s t ∧
        KeepsBut (([.eng (.queue q), .eng .dbAll, .eng .orphans, .timer (.limit 3074 noInst)] : List Part) ++ Part.raised) s t) ∧
  -- MBX_ACK by an identity that is not the queue's receiver (R320).
  (∀ (who : Fin 11) (q : Fin 64) (k : Fin 16) (code : Nat) (s : State),
      s.reaches who = true →
      s.receiver q ≠ identCode who →
      Completes (.mbxAck who q k code) s fun t => Raised 0x0C04 q [q, k] s t ∧ KeepsBut Part.raised s t) ∧
  -- HOST_BUMP (R316, R329, R341): the host's epoch counts, its locks are released and the SPI session ends.
  (∀ (s : State),
      s.hostUp = true →
      Completes .hostBump s fun t =>
      t.eng.epoch[0] = s.eng.epoch[0] + 1 ∧ (∀ n : Fin 64, (s.eng.lock[n]).owner = 0x01 → (t.eng.lock[n]).owner = 0) ∧
      (t.net.sess[sessIx .spi]).role = .observer ∧ KeepsBut (([.eng (.epoch 0), .eng .queueAll, .eng .lockAll, .eng .armAll, .eng .dbAll, .pins .spiIrq,
        .net (.sess (sessIx .spi)), .net .shadow, .net .claim] : List Part) ++ Part.raised) s t)

/-- Locks: acquire, release by the owner and by others, arm. By an identity that takes locks and reaches them: LOCK_ACQUIRE of a free lock makes the
identity its owner with its epoch, reads the lock as acquired, and leaves every other lock; of an owned lock every lock stands, and it reads whether
it is the owner, and the owner. LOCK_ARM of an owned lock sets the identity's arm bit and rings nothing; of a free one it rings the identity's
doorbell 17 and sets no arm bit. LOCK_RELEASE by the owner frees the lock, clears every identity's arm bit of it and rings doorbell 17 of those that
had it set, and leaves every other lock; by another identity every lock stands, the foreign release is counted and 0x0C05 records lock and identity.
Each clause gives its conditions; the list after its KeepsBut names every part of the state that may change, and all others stand; a reset's clause
says what stays. -/
def Obligations.LocksAreTakenReleasedAndArmed : Prop :=
  -- LOCK_ACQUIRE of a free lock (R327, R328).
  (∀ (who : Fin 11) (n : Fin 64) (s : State),
      takesLocks who = true →
      s.reaches who = true →
      (s.eng.lock[n]).owner = 0 →
      Completes (.lockAcquire who n) s fun t =>
      t.eng.lock[n] = { owner := identCode who, epoch := (s.eng.epoch[who]).toNat } ∧ t.eng.lockRead = (true, identCode who) ∧
        (∀ m : Fin 64, m ≠ n → t.eng.lock[m] = s.eng.lock[m]) ∧ KeepsBut [.eng (.lock n), .eng .lockRead] s t) ∧
  -- LOCK_ACQUIRE of a lock that is owned (R327).
  (∀ (who : Fin 11) (n : Fin 64) (s : State),
      takesLocks who = true →
      s.reaches who = true →
      (s.eng.lock[n]).owner ≠ 0 →
      Completes (.lockAcquire who n) s fun t =>
      t.eng.lock = s.eng.lock ∧ t.eng.lockRead = (decide ((s.eng.lock[n]).owner = identCode who), (s.eng.lock[n]).owner) ∧
        KeepsBut [.eng (.lock n), .eng .lockRead] s t) ∧
  -- LOCK_RELEASE by the owner (R329, R330): the lock is free, its arm bits clear and every identity armed on it is rung.
  (∀ (who : Fin 11) (n : Fin 64) (s : State),
      s.reaches who = true →
      (s.eng.lock[n]).owner = identCode who →
      Completes (.lockRelease who n) s fun t =>
      (t.eng.lock[n]).owner = 0 ∧ (∀ i : Fin 11, (t.eng.arm[i]).getLsbD n = false ∧ ((s.eng.arm[i]).getLsbD n = true → (t.eng.db[i]).getLsbD 17 = true)) ∧
      (∀ m : Fin 64, m ≠ n → t.eng.lock[m] = s.eng.lock[m]) ∧ KeepsBut [.eng .armAll, .eng .dbAll, .pins .spiIrq, .eng (.lock n), .eng .foreign] s t) ∧
  -- LOCK_RELEASE by another identity (R329).
  (∀ (who : Fin 11) (n : Fin 64) (s : State),
      s.reaches who = true →
      (s.eng.lock[n]).owner ≠ identCode who →
      Completes (.lockRelease who n) s fun t =>
      t.eng.lock = s.eng.lock ∧ t.eng.foreign = bump s.eng.foreign ∧ Raised 0x0C05 n [n, identCode who] s t ∧
        KeepsBut (([.eng .armAll, .eng .dbAll, .eng (.lock n), .eng .foreign] : List Part) ++ Part.raised) s t) ∧
  -- LOCK_ARM of an owned lock (R330).
  (∀ (who : Fin 11) (n : Fin 64) (s : State),
      takesLocks who = true →
      s.reaches who = true →
      (s.eng.lock[n]).owner ≠ 0 →
      Completes (.lockArm who n) s fun t => t.eng.arm[who] = s.eng.arm[who] ||| BitVec.ofNat 64 (2 ^ n.val) ∧ t.eng.db = s.eng.db ∧
        KeepsBut [.eng (.db who), .eng (.arm who)] s t) ∧
  -- LOCK_ARM of a free lock (R330): it rings at once and arms nothing.
  (∀ (who : Fin 11) (n : Fin 64) (s : State),
      takesLocks who = true →
      s.reaches who = true →
      (s.eng.lock[n]).owner = 0 →
      Completes (.lockArm who n) s fun t => (t.eng.db[who]).getLsbD 17 = true ∧ t.eng.arm = s.eng.arm ∧
        KeepsBut [.eng (.db who), .pins .spiIrq, .eng (.arm who)] s t)

/-- Register writes by the host: the writable map, MBX, LCK, SYS_SUPPLY, NVC, UPD and EVR. REGISTER_WRITE outside the writable map changes nothing. With
the host port up it writes the register named, and beside what is said here only the parts listed may change: MBX_TXDATAk takes the word and no other
changes; the staged message's register takes bits 5 to 0 as its length and 13 to 8 as its queue; MBX_DB clears the host's doorbells at its 1 bits and
no other identity's; MBX_DBMASK in service mode takes the word, and SPI_IRQ_N is active exactly while a doorbell that it admits is set; FULL_IRQ's bit
written 1 clears FULL_IRQ; LCK_LOCKn of a lock that the host owns frees it; BROWN_SEEN's bit of SYS_SUPPLY written 1 clears BROWN_SEEN and leaves
BROWN_WARN; NVC_ADDR, NVC_DATA0 and NVC_DATA1 take the word and leave the user area; UPD_DATAk takes the word; the recorder's window takes bit 0 as
its half, the other windows standing. Each clause gives its conditions; the list after its KeepsBut names every part of the state that may change, and
all others stand; a reset's clause says what stays. -/
def Obligations.RegisterWritesSetTheirRegisters : Prop :=
  -- REGISTER_WRITE outside the writable map (R36, R37).
  (∀ (addr value : Nat) (s : State),
      mayWrite addr = false →
      Completes (.registerWrite addr value) s fun t => KeepsBut [] s t) ∧
  -- REGISTER_WRITE of MBX_TXDATA (R331).
  (∀ (k : Fin 14) (value : Nat) (s : State),
      s.hostUp = true →
      Completes (.registerWrite (0x40002104 + 4 * k) value) s fun t => t.eng.txData[k] = BitVec.ofNat 32 value ∧
        (∀ j : Fin 14, j ≠ k → t.eng.txData[j] = s.eng.txData[j]) ∧ KeepsBut [.eng (.txData k)] s t) ∧
  -- REGISTER_WRITE of the length and queue of the staged message (R331).
  (∀ (value : Nat) (s : State),
      s.hostUp = true →
      Completes (.registerWrite 0x40002100 value) s fun t => t.eng.txLen = bits (value % 2 ^ 32) 5 0 ∧ t.eng.txQueue = bits (value % 2 ^ 32) 13 8 ∧
        KeepsBut [.eng .txLen, .eng .txQueue] s t) ∧
  -- REGISTER_WRITE of MBX_DB, write 1 to clear (R325, R331).
  (∀ (value : Nat) (s : State),
      s.hostUp = true →
      Completes (.registerWrite 0x40002004 value) s fun t => t.eng.db[0] = s.eng.db[0] &&& ~~~ BitVec.ofNat 32 value ∧
        (∀ i : Fin 11, i ≠ 0 → t.eng.db[i] = s.eng.db[i]) ∧ KeepsBut [.eng (.db 0), .pins .spiIrq] s t) ∧
  -- REGISTER_WRITE of MBX_DBMASK in service mode (R325): SPI_IRQ_N follows.
  (∀ (value : Nat) (s : State),
      s.hostUp = true →
      s.eng.service = true →
      Completes (.registerWrite 0x40002008 value) s fun t => t.eng.dbMask[0] = BitVec.ofNat 32 value ∧
        t.pins.spiIrq = decide (s.eng.db[0] &&& BitVec.ofNat 32 value ≠ 0) ∧ KeepsBut [.eng .service, .eng (.dbMask 0), .pins .spiIrq] s t) ∧
  -- REGISTER_WRITE of FULL_IRQ's bit, write 1 to clear (R324, R331).
  (∀ (s : State),
      s.hostUp = true →
      Completes (.registerWrite 0x40002000 2) s fun t => t.eng.fullIrq = false ∧
        KeepsBut [.eng .fullIrq, .pins .spiIrq, .eng (.epoch 0), .eng .queueAll, .eng .lockAll, .eng .armAll, .eng .dbAll] s t) ∧
  -- REGISTER_WRITE of LCK_LOCKn (R329): the host's lock is free.
  (∀ (n : Fin 64) (value : Nat) (s : State),
      s.hostUp = true →
      (s.eng.lock[n]).owner = 0x01 →
      Completes (.registerWrite (0x40001000 + 4 * n) value) s fun t => (t.eng.lock[n]).owner = 0 ∧
        KeepsBut [.eng (.lock n), .eng .armAll, .eng .dbAll, .pins .spiIrq] s t) ∧
  -- REGISTER_WRITE of SYS_SUPPLY's BROWN_SEEN, write 1 to clear (R75).
  (∀ (s : State),
      s.hostUp = true →
      Completes (.registerWrite 0x40000050 2) s fun t => t.pins.brownSeen = false ∧ t.pins.brownWarn = s.pins.brownWarn ∧ KeepsBut [.pins .brownSeen] s t) ∧
  -- REGISTER_WRITE of NVC_ADDR and NVC_DATA0, NVC_DATA1 (R450).
  (∀ (value : Nat) (s : State),
      s.hostUp = true →
      Completes (.registerWrite 0x40004008 value) s (fun t => t.mem.nvAddr = BitVec.ofNat 32 value ∧ t.mem.user = s.mem.user ∧ KeepsBut [.mem .nvAddr] s t) ∧
      Completes (.registerWrite 0x4000400C value) s (fun t => t.mem.nvData0 = BitVec.ofNat 32 value ∧ t.mem.user = s.mem.user ∧ KeepsBut [.mem .nvData0] s t) ∧
      Completes (.registerWrite 0x40004010 value) s (fun t => t.mem.nvData1 = BitVec.ofNat 32 value ∧ t.mem.user = s.mem.user ∧ KeepsBut [.mem .nvData1] s t)) ∧
  -- REGISTER_WRITE of UPD_DATA (R474).
  (∀ (k : Fin 16) (value : Nat) (s : State),
      s.hostUp = true →
      Completes (.registerWrite (0x40005040 + 4 * k) value) s fun t => t.upd.data[k] = BitVec.ofNat 32 value ∧ KeepsBut [.upd (.data k)] s t) ∧
  -- REGISTER_WRITE of the half that the record window shows (R451).
  (∀ (value : Nat) (s : State),
      s.hostUp = true →
      Completes (.registerWrite 0x40003004 value) s fun t => (t.evr.win[0]).half = bit (value % 2 ^ 32) 0 ∧ t.evr.win[1] = s.evr.win[1] ∧
        KeepsBut [.evr (.win 0)] s t)

/-- Dictionary reads, and writes with R484's order of refusals; the shadow. Of a served session out of recovery. DICTIONARY_READ answers what the object
reads, leaves every other session's answer and every value; of an object that is not there it answers 0x06090011 where the index exists, else
0x06020000, of a write-only one 0x06010001. DICTIONARY_WRITE of a missing object is refused likewise, of a read-only or constant one with 0x06010002
whatever the role, of another by too low a role with 0x08000102 whatever the data, and with the role, on a standby of an object not open there, with
0x08000110; nothing in force and nothing in the shadow changes then. A write that R484 admits, of an object without an operation of its own and not of
a CAN port, answers done: of access rw it holds the value and nothing in force changes; of access rws, no calibration object, the value is in force;
the shadow stands. SHADOW_WRITE of an admitted value of a committed object, the shadow unclaimed, whose own conditions hold (a range's partner of
0x2201 for sub-index 10h of 0x2810 to 0x2813, no edge of 0x2122 below that of 0x2121, a phase offset 0x12 of a loop 0 or below its period), answers
done: the shadow holds the value, the session claims it, and nothing in force changes. Of an object of access rwc, the role sufficient, on a chip that
is no standby, while another session claims the shadow, it is refused with 0x08000103 and shadow and claim stand. Each clause gives its conditions;
the list after its KeepsBut names every part of the state that may change, and all others stand; a reset's clause says what stays. -/
def Obligations.DictionaryAccessesRefuseInOrder : Prop :=
  -- DICTIONARY_READ (R336, R337): the answer is that of the object, and only the session changes.
  (∀ (w : Session) (idx sub : Nat) (portB : Bool) (s : State),
      s.serves w = true →
      s.rst.phase ≠ .recovery →
      Completes (.dictionaryRead w idx sub portB) s fun t =>
      Answered w ((s.touch w).dictRead w (copyPort w portB) idx sub) t ∧ (∀ i : Fin 3, i.val ≠ sessIx w → (t.net.sess[i]).answer = (s.net.sess[i]).answer) ∧
      t.net.force = s.net.force ∧ t.net.rw = s.net.rw ∧ KeepsBut [.net (.sess (sessIx w)), .timer (.sessIdle (sessIx w))] s t) ∧
  -- DICTIONARY_READ of an object that is not there (R361, R484).
  (∀ (w : Session) (idx sub : Nat) (portB : Bool) (s : State),
      s.serves w = true →
      s.rst.phase ≠ .recovery →
      findObj idx sub = none →
      Completes (.dictionaryRead w idx sub portB) s fun t => Answered w (.abort (if indexExists idx then 0x06090011 else 0x06020000)) t ∧
        KeepsBut [.net (.sess (sessIx w)), .timer (.sessIdle (sessIx w))] s t) ∧
  -- DICTIONARY_READ of a write-only object (R484).
  (∀ (w : Session) (idx sub : Nat) (portB : Bool) (r : ObjRow) (s : State),
      s.serves w = true →
      s.rst.phase ≠ .recovery →
      findObj idx sub = some r →
      r.access = .wo →
      Completes (.dictionaryRead w idx sub portB) s fun t => Answered w (.abort 0x06010001) t ∧
        KeepsBut [.net (.sess (sessIx w)), .timer (.sessIdle (sessIx w))] s t) ∧
  -- DICTIONARY_WRITE of an object that is not there (R484).
  (∀ (w : Session) (idx sub : Nat) (portB : Bool) (d : List Byte) (s : State),
      s.serves w = true →
      s.rst.phase ≠ .recovery →
      findObj idx sub = none →
      Completes (.dictionaryWrite w idx sub portB d) s fun t => Answered w (.abort (if indexExists idx then 0x06090011 else 0x06020000)) t ∧
        t.net.force = s.net.force ∧ t.net.shadow = s.net.shadow ∧ KeepsBut [.net (.sess (sessIx w)), .timer (.sessIdle (sessIx w))] s t) ∧
  -- DICTIONARY_WRITE of a read-only object comes before the role's refusal (R484).
  (∀ (w : Session) (idx sub : Nat) (portB : Bool) (d : List Byte) (r : ObjRow) (s : State),
      s.serves w = true →
      s.rst.phase ≠ .recovery →
      findObj idx sub = some r →
      r.access = .ro ∨ r.access = .const →
      Completes (.dictionaryWrite w idx sub portB d) s fun t => Answered w (.abort 0x06010002) t ∧ t.net.force = s.net.force ∧ t.net.shadow = s.net.shadow ∧
        KeepsBut [.net (.sess (sessIx w)), .timer (.sessIdle (sessIx w))] s t) ∧
  -- DICTIONARY_WRITE by a role too low comes before the length's refusal (R339, R484).
  (∀ (w : Session) (idx sub : Nat) (portB : Bool) (d : List Byte) (r : ObjRow) (s : State),
      s.serves w = true →
      s.rst.phase ≠ .recovery →
      findObj idx sub = some r →
      r.access ≠ .ro →
      r.access ≠ .const →
      roleAllows (s.roleOf w) r.role = false →
      Completes (.dictionaryWrite w idx sub portB d) s fun t => Answered w (.abort 0x08000102) t ∧ t.net.force = s.net.force ∧ t.net.shadow = s.net.shadow ∧
        KeepsBut [.net (.sess (sessIx w)), .timer (.sessIdle (sessIx w))] s t) ∧
  -- DICTIONARY_WRITE on a standby (R391, R484).
  (∀ (w : Session) (idx sub : Nat) (portB : Bool) (d : List Byte) (r : ObjRow) (s : State),
      s.serves w = true →
      s.rst.phase ≠ .recovery →
      findObj idx sub = some r →
      r.access ≠ .ro →
      r.access ≠ .const →
      roleAllows (s.roleOf w) r.role = true →
      s.standby = true →
      standbyOpen idx sub = false →
      Completes (.dictionaryWrite w idx sub portB d) s fun t => Answered w (.abort 0x08000110) t ∧ t.net.force = s.net.force ∧ t.net.shadow = s.net.shadow ∧
        KeepsBut [.net (.sess (sessIx w)), .timer (.sessIdle (sessIx w))] s t) ∧
  -- DICTIONARY_WRITE of an object that only holds its value (R337).
  (∀ (w : Session) (idx sub : Nat) (portB : Bool) (d : List Byte) (s : State),
      s.admits w idx sub d = true →
      (findObj idx sub).map ObjRow.access = some .rw →
      perPort idx = false →
      (singleWrite (some w) (s.roleOf w) idx sub).isNone = true →
      (bankWrite idx sub).isNone = true →
      Completes (.dictionaryWrite w idx sub portB d) s fun t =>
      Answered w .done t ∧ (t.net.rw.lookup (objKey idx sub)).getD (s.default idx sub) = leValue d ∧ t.net.force = s.net.force ∧ t.net.shadow = s.net.shadow ∧
        KeepsBut [.net .portAll, .net .storeAll, .net .storing, .twin .sent, .net .commit, .net .sessAll, .net .shadow, .net .claim, .net .forceAll,
        .net (.rw (objKey 0x2E00 15)), .twin .giveUp, .twin .driveWait, .twin .released, .net (.pmXfer 0), .net (.pmXfer 1), .twin .st, .twin .validRun,
        .twin .alignedSince, .twin .mirror, .twin .missed, .twin .tolerance, .twin .mayPair, .net (.rw (objKey idx sub)), .timers] s t) ∧
  -- DICTIONARY_WRITE of a setting that takes effect without a commit (R337, R351).
  (∀ (w : Session) (idx sub : Nat) (portB : Bool) (d : List Byte) (s : State),
      s.admits w idx sub d = true →
      (findObj idx sub).map ObjRow.access = some .rws →
      perPort idx = false →
      isCalObject idx = false →
      (singleWrite (some w) (s.roleOf w) idx sub).isNone = true →
      (bankWrite idx sub).isNone = true →
      Completes (.dictionaryWrite w idx sub portB d) s fun t =>
      Answered w .done t ∧ t.raw idx sub = ((s.setForce idx sub (leValue d)).raw idx sub) ∧
        (t.net.force.lookup (objKey idx sub)).getD (s.default idx sub) = leValue d ∧ t.net.shadow = s.net.shadow ∧
        KeepsBut [.net .portAll, .net .storeAll, .net .storing, .twin .sent, .net .commit, .net .sessAll, .net .shadow, .net .claim, .net .forceAll,
        .net (.rw (objKey 0x2E00 15)), .twin .giveUp, .twin .driveWait, .twin .released, .net (.pmXfer 0), .net (.pmXfer 1), .twin .st, .twin .validRun,
        .twin .alignedSince, .twin .mirror, .twin .missed, .twin .tolerance, .twin .mayPair, .net (.rw (objKey idx sub)), .timers] s t) ∧
  -- SHADOW_WRITE (R343): the value waits in the shadow, which the session claims; nothing in force changes.
  (∀ (w : Session) (idx sub : Nat) (d : List Byte) (s : State),
      s.admits w idx sub d = true →
      isCommitted idx sub = true →
      idx < 0x2810 ∨ 0x2813 < idx ∨ sub ≠ 0x10 ∨ s.shadowView 0x2201 (leValue d + 1) = 1 →
      idx ≠ 0x2122 ∨ s.shadowView.real 0x2121 sub ≤ realOf d →
      idx < 0x2410 ∨ 0x2417 < idx ∨ sub ≠ 0x12 ∨ leValue d = 0 ∨ leValue d < s.shadowView.loopPeriod (idx - 0x2410) →
      s.net.claim = none →
      Completes (.shadowWrite w idx sub d) s fun t =>
      Answered w .done t ∧ t.net.shadow.lookup (objKey idx sub) = some (leValue d) ∧ t.net.claim = some w ∧ t.net.force = s.net.force ∧
        KeepsBut [.net .shadow, .net .claim, .twin .sent, .net (.sess (sessIx w)), .timer (.sessIdle (sessIx w))] s t) ∧
  -- SHADOW_WRITE while another session claims the shadow (R343).
  (∀ (w x : Session) (idx sub : Nat) (d : List Byte) (r : ObjRow) (s : State),
      s.serves w = true →
      s.rst.phase ≠ .recovery →
      findObj idx sub = some r →
      r.access = .rwc →
      roleAllows (s.roleOf w) r.role = true →
      s.standby = false →
      s.net.claim = some x →
      x ≠ w →
      Completes (.shadowWrite w idx sub d) s fun t => Answered w (.abort 0x08000103) t ∧ t.net.shadow = s.net.shadow ∧ t.net.claim = some x ∧
        KeepsBut [.net .shadow, .net .claim, .net (.sess (sessIx w)), .timer (.sessIdle (sessIx w))] s t)

/-- Roles: request, challenge, response, failures and lockout, nonce expiry, session end and idle timeout. ROLE_REQUEST, admitted, of a role 1 to 3 that
may be obtained in the lifecycle state, whose key is held and which is not locked out, answers done, keeps the number asked for, challenges with a
nonce of 16 bytes for 10 s and leaves the role; of a role locked out it answers 0x08000107 and gives no nonce. ROLE_RESPONSE, admitted, of 32 bytes:
one that matches answers done, gives the nonce's role and uses the nonce up; one that does not answers 0x08000106 and records 0x0D01 with the session:
below the third in a row it adds to the run and to the count of failures, uses the nonce up and leaves the role; at the third, room for a second
record given, it ends the run and locks the role out for 60 s with 0x0D02. AUTH_LOCKOUT_END at its time ends the lockout of its role. NONCE_EXPIRY at
its time uses the nonce up and leaves the role. SESSION_END_REQUEST, admitted, answers done and returns the session to Observer; a shadow that it
claims is unclaimed and empty, another's stands; nothing is recorded. SESSION_IDLE_TIMEOUT at its time, of a session with a role, does so with 0x0D03
and the session recorded. Each clause gives its conditions; the list after its KeepsBut names every part of the state that may change, and all others
stand; a reset's clause says what stays. -/
def Obligations.RolesAndSessions : Prop :=
  -- ROLE_REQUEST of an obtainable role whose key is held, not locked out (R339, R469, R471).
  (∀ (w : Session) (d : List Byte) (s : State),
      s.admits w 0x2010 1 d = true →
      1 ≤ leValue d →
      leValue d ≤ 3 →
      (s.net.sess[sessIx w]).lockedOut (roleOfNumber (leValue d)) = false →
      s.upd.key[roleSlot (roleOfNumber (leValue d))] ≠ [] →
      Life.obtainable s.upd.life (roleOfNumber (leValue d)) = true →
      Completes (.roleRequest w d) s fun t =>
      Answered w .done t ∧ (t.net.sess[sessIx w]).requested = leValue d ∧ (t.net.sess[sessIx w]).nonceRole = roleOfNumber (leValue d) ∧
        (t.net.sess[sessIx w]).held = true ∧
      (t.net.sess[sessIx w]).nonce.length = 16 ∧ (t.net.sess[sessIx w]).role = (s.net.sess[sessIx w]).role ∧ Ends (.nonce (sessIx w)) 10000000000 s t ∧
        KeepsBut [.net (.sess (sessIx w)), .net .shadow, .net .claim, .free, .timer (.nonce (sessIx w)), .timer (.sessIdle (sessIx w))] s t) ∧
  -- ROLE_REQUEST of a role that is locked out (R340).
  (∀ (w : Session) (d : List Byte) (s : State),
      s.admits w 0x2010 1 d = true →
      (s.net.sess[sessIx w]).lockedOut (roleOfNumber (leValue d)) = true →
      Completes (.roleRequest w d) s fun t => Answered w (.abort 0x08000107) t ∧ (t.net.sess[sessIx w]).held = (s.net.sess[sessIx w]).held ∧
        KeepsBut [.net (.sess (sessIx w)), .net .shadow, .net .claim, .timer (.nonce (sessIx w)), .timer (.sessIdle (sessIx w))] s t) ∧
  -- SESSION_END_REQUEST (R341, R343): the session is Observer and its claim is given up with every pending change; nothing is recorded.
  (∀ (w : Session) (s : State),
      s.admits w 0x2010 1 [0] = true →
      Completes (.sessionEndRequest w) s fun t =>
      Answered w .done t ∧ (t.net.sess[sessIx w]).role = .observer ∧ (s.net.claim = some w → t.net.claim = none ∧ t.net.shadow = []) ∧
      (s.net.claim ≠ some w → t.net.shadow = s.net.shadow) ∧ KeepsBut [.net (.sess (sessIx w)), .net .shadow, .net .claim, .timer (.nonce (sessIx w)),
        .timer (.sessIdle (sessIx w))] s t) ∧
  -- ROLE_RESPONSE that matches the nonce (R339, R340).
  (∀ (w : Session) (d : List Byte) (s : State),
      s.admits w 0x2010 3 d = true →
      d.length = 32 →
      s.responseMatches w d = true →
      Completes (.roleResponse w d) s fun t =>
      Answered w .done t ∧ (t.net.sess[sessIx w]).role = (s.net.sess[sessIx w]).nonceRole ∧ (t.net.sess[sessIx w]).held = false ∧ Stopped (.nonce (sessIx w)) t ∧
        KeepsBut (([.net (.sess (sessIx w)), .timer (.nonce (sessIx w)), .timer (.sessIdle (sessIx w))] : List Part) ++ Part.each 4 (.lockout (sessIx w))) s t) ∧
  -- ROLE_RESPONSE that does not match, below the third in a row (R340).
  (∀ (w : Session) (j : Fin 3) (d : List Byte) (s : State),
      s.admits w 0x2010 3 d = true →
      d.length = 32 →
      s.responseMatches w d = false →
      roleCount (s.net.sess[sessIx w]).nonceRole = some j →
      ((s.net.sess[sessIx w]).fails[j]) < 2 →
      Completes (.roleResponse w d) s fun t =>
      Answered w (.abort 0x08000106) t ∧ (t.net.sess[sessIx w]).fails[j] = (s.net.sess[sessIx w]).fails[j] + 1 ∧
        (t.net.sess[sessIx w]).failed = bump (s.net.sess[sessIx w]).failed ∧
      (t.net.sess[sessIx w]).held = false ∧ (t.net.sess[sessIx w]).role = (s.net.sess[sessIx w]).role ∧ Raised 0x0D01 noInst [sessIx w] s t ∧
        KeepsBut (([.net (.sess (sessIx w)), .timer (.nonce (sessIx w)),
        .timer (.sessIdle (sessIx w))] : List Part) ++ Part.each 4 (.lockout (sessIx w)) ++ Part.raised) s t) ∧
  -- ROLE_RESPONSE that does not match for the third time in a row (R340): the role is locked out for 60 s.
  (∀ (w : Session) (j : Fin 3) (d : List Byte) (s : State),
      s.admits w 0x2010 3 d = true →
      d.length = 32 →
      s.responseMatches w d = false →
      roleCount (s.net.sess[sessIx w]).nonceRole = some j →
      2 ≤ ((s.net.sess[sessIx w]).fails[j]) →
      s.evr.staging.length < 15 →
      Completes (.roleResponse w d) s fun t =>
      Answered w (.abort 0x08000106) t ∧ (t.net.sess[sessIx w]).fails[j] = 0 ∧ (t.net.sess[sessIx w]).locked[j] = true ∧
        Ends (.lockout (sessIx w) (j + 1)) 60000000000 s t ∧
      Raised 0x0D01 noInst [sessIx w] s t ∧ Raised 0x0D02 noInst [sessIx w, j + 1] s t ∧
        KeepsBut (([.net (.sess (sessIx w)), .timer (.nonce (sessIx w)),
        .timer (.sessIdle (sessIx w))] : List Part) ++ Part.each 4 (.lockout (sessIx w)) ++ Part.raised) s t) ∧
  -- AUTH_LOCKOUT_END (R340).
  (∀ (w : Session) (j : Fin 3) (s : State),
      s.due (.lockout (sessIx w) (j + 1)) = true →
      Completes (.authLockoutEnd w j) s fun t => (t.net.sess[sessIx w]).locked[j] = false ∧ Stopped (.lockout (sessIx w) (j + 1)) t ∧
        KeepsBut [.timer (.lockout (sessIx w) (j + 1)), .net (.sess (sessIx w))] s t) ∧
  -- NONCE_EXPIRY (R339): the nonce is used up, the role stands.
  (∀ (w : Session) (s : State),
      s.due (.nonce (sessIx w)) = true →
      Completes (.nonceExpiry w) s fun t => (t.net.sess[sessIx w]).held = false ∧ (t.net.sess[sessIx w]).role = (s.net.sess[sessIx w]).role ∧
        Stopped (.nonce (sessIx w)) t ∧ KeepsBut [.net (.sess (sessIx w)), .timer (.nonce (sessIx w))] s t) ∧
  -- SESSION_IDLE_TIMEOUT of a session with a role (R341, R343).
  (∀ (w : Session) (s : State),
      s.due (.sessIdle (sessIx w)) = true →
      s.roleOf w ≠ .observer →
      Completes (.sessionIdleTimeout w) s fun t =>
      (t.net.sess[sessIx w]).role = .observer ∧ (s.net.claim = some w → t.net.claim = none ∧ t.net.shadow = []) ∧ Raised 0x0D03 noInst [sessIx w] s t ∧
      Stopped (.sessIdle (sessIx w)) t ∧ KeepsBut (([.timer (.sessIdle (sessIx w)), .net (.sess (sessIx w)), .net .shadow,
        .net .claim] : List Part) ++ Part.raised) s t)

/-- The temper commit is accepted or refused, discarded, and validated. COMMIT, admitted, no commit in progress and no Store running: by the session that
claims the shadow it answers done, and the shadow, which stands claimed, is the change set of a validation of at most 50 ms; of an unclaimed shadow it
answers done and the commit is done with code 0, not counted. While another session claims the shadow it is refused with 0x08000103, and while a
commit is in progress or a Store runs with 0x08000022; commit and shadow stand. DISCARD, admitted, of an unclaimed shadow or its own, no commit in
progress, answers done, empties shadow and claim and leaves the commit's report. COMMIT_VALIDATION of a user's change set, no answer of a peer
awaited, on the set settled with what it displaces: a check that refuses gives the state refused with its code, object and owner, records 0x0D04 with
the code and leaves shadow and claim. Passing, on a chip that is not active of a pair, application begins with the blocks in the order found, each to
wait at most 100 ms for a channel; on the active chip of a pair the set and the order are sent to the standby, which has 50 ms to answer. Nothing in
force changes with any of these. Each clause gives its conditions; the list after its KeepsBut names every part of the state that may change, and all
others stand; a reset's clause says what stays. -/
def Obligations.CommitsAreAcceptedAndValidated : Prop :=
  -- COMMIT by the session that claims the shadow (R344).
  (∀ (w : Session) (s : State),
      s.admits w 0x3A00 1 (leBytes 4 sigTemper) = true →
      s.net.claim = some w →
      s.commitBusy = false →
      s.net.storing = none →
      Completes (.commit w) s fun t =>
      Answered w .done t ∧ t.net.commit.st = .validating ∧ t.net.commit.kind = .user ∧ t.net.commit.set = s.net.shadow ∧ t.net.shadow = s.net.shadow ∧
        t.net.claim = some w ∧
      t.net.force = s.net.force ∧ Ends .commitVal 50000000 s t ∧
        KeepsBut [.net .shadow, .net .claim, .net .commit, .timer .commitVal, .net (.sess (sessIx w)), .timer (.sessIdle (sessIx w))] s t) ∧
  -- COMMIT of a shadow that no session claims (R344): done at once.
  (∀ (w : Session) (s : State),
      s.admits w 0x3A00 1 (leBytes 4 sigTemper) = true →
      s.net.claim = none →
      s.commitBusy = false →
      s.net.storing = none →
      Completes (.commit w) s fun t => Answered w .done t ∧ t.net.commit.st = .done ∧ t.net.commit.code = 0 ∧ t.net.commit.count = s.net.commit.count ∧
        t.net.force = s.net.force ∧ KeepsBut [.net .shadow, .net .claim, .net .commit, .twin .mayPair, .timer .commitVal, .twin .sent, .net (.sess (sessIx w)),
        .timer (.sessIdle (sessIx w))] s t) ∧
  -- COMMIT while another session claims the shadow (R343, R344).
  (∀ (w x : Session) (s : State),
      s.admits w 0x3A00 1 (leBytes 4 sigTemper) = true →
      s.net.claim = some x →
      x ≠ w →
      Completes (.commit w) s fun t => Answered w (.abort 0x08000103) t ∧ t.net.commit = s.net.commit ∧ t.net.shadow = s.net.shadow ∧
        KeepsBut [.net .shadow, .net .claim, .net .commit, .timer .commitVal, .net (.sess (sessIx w)), .timer (.sessIdle (sessIx w))] s t) ∧
  -- COMMIT while a commit validates or applies, or a Store runs (R344, R354).
  (∀ (w : Session) (s : State),
      s.admits w 0x3A00 1 (leBytes 4 sigTemper) = true →
      s.net.claim = none ∨ s.net.claim = some w →
      s.commitBusy = true ∨ s.net.storing.isSome = true →
      Completes (.commit w) s fun t => Answered w (.abort 0x08000022) t ∧ t.net.commit = s.net.commit ∧ t.net.shadow = s.net.shadow ∧
        KeepsBut [.net .shadow, .net .claim, .net .commit, .timer .commitVal, .net (.sess (sessIx w)), .timer (.sessIdle (sessIx w))] s t) ∧
  -- DISCARD (R344): every pending change goes with the claim.
  (∀ (w : Session) (s : State),
      s.admits w 0x3A00 1 (leBytes 4 sigDrop) = true →
      s.net.claim = none ∨ s.net.claim = some w →
      s.commitBusy = false →
      Completes (.discard w) s fun t => Answered w .done t ∧ t.net.shadow = [] ∧ t.net.claim = none ∧ t.net.force = s.net.force ∧ t.net.commit = s.net.commit ∧
        KeepsBut [.net .shadow, .net .claim, .net .commit, .timer .commitVal, .net (.sess (sessIx w)), .timer (.sessIdle (sessIx w))] s t) ∧
  -- COMMIT_VALIDATION of a user's change set that a check refuses (R345): the shadow stands, nothing in force changes.
  (∀ (r : CommitRefusal) (s : State),
      s.net.commit.st = .validating →
      s.twin.awaitPeer = false →
      s.net.commit.kind = .user →
      s.validate false s.cfg (s.cfg.settled (displacing (s.displacedKeys s.net.commit.set) s.net.commit.set)) = .inr r →
      Completes .commitValidation s fun t =>
      t.net.commit.st = .refused ∧ t.net.commit.code = r.code ∧ t.net.commit.object = r.object ∧ t.net.commit.owner = r.owner ∧
        Raised 0x0D04 noInst [r.code] s t ∧
      t.net.shadow = s.net.shadow ∧ t.net.claim = s.net.claim ∧ t.net.force = s.net.force ∧ Stopped .commitVal t ∧
        KeepsBut (([.tb .genAll, .timer .commitVal, .net .commit, .twin .awaitPeer] : List Part) ++ Part.raised) s t) ∧
  -- COMMIT_VALIDATION of a user's change set that passes, outside a pair (R345, R346): application begins in the order found.
  (∀ (b : Nat) (rest : List Nat) (s : State),
      s.net.commit.st = .validating →
      s.twin.awaitPeer = false →
      s.net.commit.kind = .user →
      s.twin.st ≠ .activePaired →
      s.validate false s.cfg (s.cfg.settled (displacing (s.displacedKeys s.net.commit.set) s.net.commit.set)) = .inl (b :: rest) →
      Completes .commitValidation s fun t =>
      t.net.commit.st = .applying ∧ t.net.commit.todo = b :: rest ∧
        t.net.commit.set = s.cfg.settled (displacing (s.displacedKeys s.net.commit.set) s.net.commit.set) ∧ t.net.force = s.net.force ∧
      Ends .channelWait 100000000 s t ∧ Stopped .commitVal t ∧
        KeepsBut (([.timer .commitVal, .net .shadow, .net .commit, .timer .peerAnswer, .twin .awaitPeer, .timer .channelWait] : List Part) ++ Part.raised) s t) ∧
  -- COMMIT_VALIDATION of a user's change set that passes on the active chip of a pair (R391): the standby is asked and has 50 ms.
  (∀ (order : List Nat) (s : State),
      s.net.commit.st = .validating →
      s.twin.awaitPeer = false →
      s.net.commit.kind = .user →
      s.twin.st = .activePaired →
      s.validate false s.cfg (s.cfg.settled (displacing (s.displacedKeys s.net.commit.set) s.net.commit.set)) = .inl order →
      Completes .commitValidation s fun t =>
      t.net.commit.st = .validating ∧ t.net.commit.todo = order ∧ t.twin.awaitPeer = true ∧
        t.twin.sent.head? = some (.changeSet (s.cfg.settled (displacing (s.displacedKeys s.net.commit.set) s.net.commit.set)) order) ∧
      t.net.force = s.net.force ∧ Ends .peerAnswer 50000000 s t ∧
        KeepsBut (([.timer .commitVal, .net .shadow, .net .commit, .twin .st, .twin .awaitPeer, .twin .sent,
        .timer .peerAnswer] : List Part) ++ Part.raised) s t)

/-- A commit's blocks apply in turn, refuse and roll back; the boot commit. BLOCK_APPLY while a commit applies, no rollback begun, at the instant of the
next block, every channel it names READY: its check passing and another block left, the block counts as applied, the next has 100 ms, and nothing but
what its block configures changes: queue, instant, core, snapshots, engines, reset logic, memory and update stand. The last block of a user's commit
also ends it: done, with the order applied, counted, the hash over the settings now in force and the shadow without what was committed. Its check
failing, with blocks applied before it, rollback begins with code, object and owner, and nothing in force changes. CHANNEL_NOT_READY at the end of its
100 ms, in a user's commit with no block applied and a named channel not READY, rolls back with code 0x0D14 and that channel's naming object, records
0x0D05 and leaves shadow and everything in force. ROLLBACK_APPLY at the instant of the only block applied of a user's commit ends it as rolled back
with its code and 0x0D05; the parts named above stand. BOOT_COMMIT of a device that is up, due, no commit in progress, validates within 50 ms the
newest copy's values, which are the shadow, unclaimed; with no valid copy it also raises 0x1105. Each clause gives its conditions; the list after its
KeepsBut names every part of the state that may change, and all others stand; a reset's clause says what stays. -/
def Obligations.BlocksApplyAndRollBack : Prop :=
  -- BLOCK_APPLY of a block that passes and is not the last (R347).
  (∀ (b c : Nat) (rest : List Nat) (s : State),
      s.net.commit.st = .applying →
      s.net.commit.rolling = false →
      s.net.commit.todo = b :: c :: rest →
      s.blockInstant b = true →
      s.unready b = [] →
      s.check s.oldView (mixed s.oldView s.net.commit.set (b :: s.net.commit.applied)) s.net.commit.set = none →
      Completes .blockApply s fun t =>
      t.net.commit.st = .applying ∧ t.net.commit.todo = c :: rest ∧ t.net.commit.applied = b :: s.net.commit.applied ∧ Ends .channelWait 100000000 s t ∧
      t.pending = s.pending ∧ t.now = s.now ∧ t.free = s.free ∧ t.arch = s.arch ∧ t.snap = s.snap ∧ t.eng = s.eng ∧ t.rst = s.rst ∧ t.mem = s.mem ∧
        t.upd = s.upd) ∧
  -- BLOCK_APPLY of the last block of a user's commit (R343, R347, R351): the commit is done, the shadow empty of it.
  (∀ (b : Nat) (s : State),
      s.net.commit.st = .applying →
      s.net.commit.kind = .user →
      s.net.commit.rolling = false →
      s.net.commit.todo = [b] →
      s.blockInstant b = true →
      s.unready b = [] →
      s.check s.oldView (mixed s.oldView s.net.commit.set (b :: s.net.commit.applied)) s.net.commit.set = none →
      Completes .blockApply s fun t =>
      t.net.commit.st = .done ∧ t.net.commit.todo = [] ∧ t.net.commit.order = s.net.commit.applied.reverse ++ [b] ∧
        t.net.commit.count = bump s.net.commit.count ∧
      t.net.commit.hash = crc32 t.hashBytes ∧ t.net.shadow = shadowLess s.net.commit.set s.net.shadow ∧ Stopped .channelWait t ∧
      t.pending = s.pending ∧ t.now = s.now ∧ t.free = s.free ∧ t.arch = s.arch ∧ t.snap = s.snap ∧ t.eng = s.eng ∧ t.rst = s.rst ∧ t.mem = s.mem ∧
        t.upd = s.upd) ∧
  -- BLOCK_APPLY of a block whose live state does not meet a check, with blocks applied before it (R348).
  (∀ (b c : Nat) (rest done : List Nat) (r : CommitRefusal) (s : State),
      s.net.commit.st = .applying →
      s.net.commit.rolling = false →
      s.net.commit.todo = b :: rest →
      s.net.commit.applied = c :: done →
      s.blockInstant b = true →
      s.unready b = [] →
      s.check s.oldView (mixed s.oldView s.net.commit.set (b :: s.net.commit.applied)) s.net.commit.set = some r →
      Completes .blockApply s fun t =>
      t.net.commit.st = .applying ∧ t.net.commit.rolling = true ∧ t.net.commit.code = r.code ∧ t.net.commit.object = r.object ∧ t.net.commit.owner = r.owner ∧
      t.net.commit.applied = c :: done ∧ t.net.force = s.net.force ∧ Stopped .channelWait t ∧
        KeepsBut [.net .commit, .net .shadow, .net .claim, .net .portAll, .net .pmAll, .net .sessAll, .twin .sent, .twin .st, .twin .mayPair, .twin .peerHash,
        .timers] s t) ∧
  -- CHANNEL_NOT_READY with no block applied yet, in a user's commit (R348): 0x0D14 and rolled back.
  (∀ (b : Nat) (rest : List Nat) (x : Naming) (xs : List Naming) (s : State),
      s.net.commit.st = .applying →
      s.net.commit.kind = .user →
      s.net.commit.rolling = false →
      s.net.commit.todo = b :: rest →
      s.net.commit.applied = [] →
      s.unready b = x :: xs →
      s.due .channelWait = true →
      Completes .channelNotReady s fun t =>
      t.net.commit.st = .rolledBack ∧ t.net.commit.code = 0x0D14 ∧ t.net.commit.object = x.key * 256 ∧ Raised 0x0D05 noInst [0x0D14] s t ∧
        t.net.force = s.net.force ∧
      t.net.shadow = s.net.shadow ∧ Stopped .channelWait t ∧ KeepsBut (([.timer .channelWait, .net .commit, .twin .sent] : List Part) ++ Part.raised) s t) ∧
  -- ROLLBACK_APPLY of the first block applied of a user's commit (R348): its previous values stand and 0x0D05 is recorded.
  (∀ (b : Nat) (s : State),
      s.net.commit.st = .applying →
      s.net.commit.kind = .user →
      s.net.commit.rolling = true →
      s.blockInstant b = true →
      s.net.commit.applied = [b] →
      Completes .rollbackApply s fun t =>
      t.net.commit.st = .rolledBack ∧ t.net.commit.rolling = false ∧ t.net.commit.applied = [] ∧ t.net.commit.code = s.net.commit.code ∧
      (⟨0x0D05, noInst⟩ : ErrEntry) ∈ t.net.batch ∧ t.pending = s.pending ∧ t.now = s.now ∧ t.free = s.free ∧ t.arch = s.arch ∧ t.snap = s.snap ∧ t.eng = s.eng ∧
        t.rst = s.rst ∧ t.mem = s.mem ∧ t.upd = s.upd) ∧
  -- BOOT_COMMIT (R350, R354): the newest copy is loaded and its change set validates; with no valid copy 0x1105 is raised.
  (∀ (s : State),
      s.up = true →
      s.rst.bootDue = true →
      s.commitBusy = false →
      Completes .bootCommit s fun t =>
      t.net.commit.st = .validating ∧ t.net.commit.kind = .boot ∧ t.net.commit.set = s.setTo s.bootCopy.vals ∧ t.net.shadow = s.setTo s.bootCopy.vals ∧
        t.net.claim = none ∧
      t.net.force = s.net.force ∧ Ends .commitVal 50000000 s t ∧ (s.net.newestCopy = none → (⟨0x1105, noInst⟩ : ErrEntry) ∈ t.net.batch) ∧
        KeepsBut (([.net .sessAll, .net .portAll, .net .shadow, .net .claim, .net .commit, .timer .commitVal] : List Part) ++ Part.raised) s t) ∧
  -- BOOT_COMMIT with no valid copy (R350): the defaults, with 0x1105.
  (∀ (s : State),
      s.up = true →
      s.rst.bootDue = true →
      s.commitBusy = false →
      s.net.newestCopy = none →
      Completes .bootCommit s fun t => t.net.commit.st = .validating ∧ (⟨0x1105, noInst⟩ : ErrEntry) ∈ t.net.batch ∧
        KeepsBut (([.net .sessAll, .net .portAll, .net .shadow, .net .claim, .net .commit, .timer .commitVal] : List Part) ++ Part.raised) s t)

/-- Store writes the older copy, is refused while busy, and ends; Restore marks its scope. STORE, admitted, of a scope while neither BROWN_WARN stands nor
a commit is in progress nor a Store runs, writes the older copy, which is invalid until it is complete, at most 40 ms later; the session waits for its
answer and nothing in force changes. In those states it is refused with 0x08000022 and copies and Store stand. STORE_DONE for a CAN session, read back
well, makes the copy valid, takes the scope's restore mark away, records 0x0D0A with the scope and answers done; not read back, the copies and marks
stand, 0x1104 is recorded and the answer is 0x08000024; both end the Store. RESTORE_DEFAULTS, admitted, of a scope marks it for the next boot commit,
records 0x0D0B with the scope, answers done, and nothing in force changes. Each clause gives its conditions; the list after its KeepsBut names every
part of the state that may change, and all others stand; a reset's clause says what stays. -/
def Obligations.StoreAndRestoreWork : Prop :=
  -- STORE (R354): the copy written is invalid until it is complete, at most 40 ms later.
  (∀ (w : Session) (scope : Fin 3) (d : List Byte) (s : State),
      s.admits w 0x1010 (scope + 1) d = true →
      s.storeBusy = false →
      Completes (.store w scope d) s fun t =>
      t.net.storing = some (s.net.storeTarget, s.copyFor (scope.val + 1) (some w), scope.val + 1, StoreBy.session w) ∧ t.net.store[s.net.storeTarget] = none ∧
      Ends .store 40000000 s t ∧ Answered w .none t ∧ t.net.force = s.net.force ∧
        KeepsBut [.net .storeAll, .net .storing, .timer .store, .twin .sent, .net (.sess (sessIx w)), .timer (.sessIdle (sessIx w))] s t) ∧
  -- STORE while BROWN_WARN stands, a commit validates or applies, or a Store runs (R354).
  (∀ (w : Session) (scope : Fin 3) (d : List Byte) (s : State),
      s.admits w 0x1010 (scope + 1) d = true →
      s.storeBusy = true →
      Completes (.store w scope d) s fun t => Answered w (.abort 0x08000022) t ∧ t.net.store = s.net.store ∧ t.net.storing = s.net.storing ∧
        KeepsBut [.net .storeAll, .net .storing, .timer .store, .net (.sess (sessIx w)), .timer (.sessIdle (sessIx w))] s t) ∧
  -- STORE_DONE, read back well, for a CAN session (R354): the copy is valid and 0x0D0A is recorded.
  (∀ (k : Fin 2) (c : CfgCopy) (sub : Nat) (w : Session) (s : State),
      s.net.storing = some (k, c, sub, .session w) →
      w ≠ .spi →
      Completes (.storeDone true) s fun t =>
      t.net.store[k] = some c ∧ t.net.storing = none ∧ t.net.commit.restore = marksAfter sub s.net.commit.restore ∧ Raised 0x0D0A noInst [sub] s t ∧
        Answered w .done t ∧
      Stopped .store t ∧ KeepsBut (([.timer .store, .net .commit, .net (.store k), .net .storing, .net (.sess (sessIx w))] : List Part) ++ Part.raised) s t) ∧
  -- STORE_DONE that does not read back, for a CAN session (R354, R440).
  (∀ (k : Fin 2) (c : CfgCopy) (sub : Nat) (w : Session) (s : State),
      s.net.storing = some (k, c, sub, .session w) →
      w ≠ .spi →
      Completes (.storeDone false) s fun t =>
      t.net.store = s.net.store ∧ t.net.storing = none ∧ t.net.commit.restore = s.net.commit.restore ∧ Raised 0x1104 noInst [] s t ∧
        Answered w (.abort 0x08000024) t ∧
      Stopped .store t ∧ KeepsBut (([.timer .store, .net .storing, .net (.sess (sessIx w))] : List Part) ++ Part.raised) s t) ∧
  -- RESTORE_DEFAULTS (R355): the scope is marked for the next boot commit.
  (∀ (w : Session) (scope : Fin 3) (d : List Byte) (s : State),
      s.admits w 0x1011 (scope + 1) d = true →
      Completes (.restoreDefaults w scope d) s fun t =>
      t.net.commit.restore = s.net.commit.restore ||| BitVec.ofNat 3 (2 ^ scope.val) ∧ Raised 0x0D0B noInst [scope + 1] s t ∧ Answered w .done t ∧
        t.net.force = s.net.force ∧ KeepsBut (([.net .commit, .net (.sess (sessIx w)), .timer (.sessIdle (sessIx w))] : List Part) ++ Part.raised) s t)

/-- CAN ports: NMT, process data, heartbeats and bus-off. Of a live port. NMT_START of a port not operational makes it operational and times every TPDO
that is on and has an event time; NMT_STOP stops it and NMT_ENTER_PRE_OPERATIONAL makes it pre-operational, and no TPDO is timed then.
NMT_RESET_APPLICATION and NMT_RESET_COMMUNICATION load the stored communication area, take the node-ID setting, boot up, operational where 0x2020:06
starts the port itself, and return its session to Observer. RPDO_RECEIVED while PDOs run, of an RPDO that is on and maps one setting that takes effect
without a commit, neither a CAN port's nor a calibration object's nor with an operation of its own, which the RPDO role and R484 admit, the data long
enough, puts the value in force and leaves the shadow. TPDO_EVENT at its time, PDOs running and the TPDO on, sends its number with its mapped values
and times the next. HEARTBEAT_PRODUCE at its time, the producer time not 0, counts one and times the next by 0x1017. HEARTBEAT_LOST of a producer
named with a time and a node-ID records 0x0D0C with the node-ID and changes nothing else. CAN_BUS_OFF marks the port bus-off, records 0x0D0D, returns
its session to Observer and stops its heartbeat and TPDOs. BUS_OFF_RECOVERY of a bus-off port of a device that is up ends the state and boots the port
up. Each clause gives its conditions; the list after its KeepsBut names every part of the state that may change, and all others stand; a reset's
clause says what stays. -/
def Obligations.CanPortsFollowNmtAndPdos : Prop :=
  -- NMT_START (R359).
  (∀ (p : Fin 2) (s : State),
      s.portLive p = true →
      (s.net.port[p]).nmt ≠ .operational →
      Completes (.nmtStart p) s fun t => (t.net.port[p]).nmt = .operational ∧
        (∀ n : Fin 4, s.tpdoOn p n = true → s.tpdoTime p n ≠ 0 → Ends (.tpdo p n) (s.tpdoTime p n) s t) ∧
        KeepsBut (([.net (.port p)] : List Part) ++ Part.each 4 (.tpdo p)) s t) ∧
  -- NMT_STOP (R359): no TPDO is timed any more.
  (∀ (p : Fin 2) (s : State),
      s.portLive p = true →
      Completes (.nmtStop p) s fun t => (t.net.port[p]).nmt = .stopped ∧ (∀ n : Fin 4, Stopped (.tpdo p n) t) ∧
        KeepsBut (([.net (.port p)] : List Part) ++ Part.each 4 (.tpdo p)) s t) ∧
  -- NMT_ENTER_PRE_OPERATIONAL (R359).
  (∀ (p : Fin 2) (s : State),
      s.portLive p = true →
      Completes (.nmtEnterPreOperational p) s fun t => (t.net.port[p]).nmt = .preOperational ∧ (∀ n : Fin 4, Stopped (.tpdo p n) t) ∧
        KeepsBut (([.net (.port p)] : List Part) ++ Part.each 4 (.tpdo p)) s t) ∧
  -- NMT_RESET_APPLICATION (R358, R360): the stored communication area, the node-ID and a boot-up; the port's session ends.
  (∀ (p : Fin 2) (s : State),
      s.portLive p = true →
      Completes (.nmtResetApplication p) s fun t =>
      (t.net.port[p]).objs = s.storedObjs p ∧ (t.net.port[p]).node = s.nodeSetting p ∧ (t.net.port[p]).bootUps = bump (s.net.port[p]).bootUps ∧
      (t.net.port[p]).nmt = (if bit (s.raw 0x2020 6) p then .operational else .preOperational) ∧ (t.net.sess[sessIx (portSession p)]).role = .observer ∧
        KeepsBut (([.net (.sess (sessIx (portSession p))), .net .shadow, .net .claim, .net (.port p),
        .timer (.heartbeat p)] : List Part) ++ Part.each 4 (.tpdo p) ++ Part.raised) s t) ∧
  -- NMT_RESET_COMMUNICATION (R358, R360).
  (∀ (p : Fin 2) (s : State),
      s.portLive p = true →
      Completes (.nmtResetCommunication p) s fun t =>
      (t.net.port[p]).objs = s.storedObjs p ∧ (t.net.port[p]).node = s.nodeSetting p ∧ (t.net.port[p]).bootUps = bump (s.net.port[p]).bootUps ∧
      (t.net.port[p]).nmt = (if bit (s.raw 0x2020 6) p then .operational else .preOperational) ∧ (t.net.sess[sessIx (portSession p)]).role = .observer ∧
        KeepsBut (([.net (.sess (sessIx (portSession p))), .net .shadow, .net .claim, .net (.port p),
        .timer (.heartbeat p)] : List Part) ++ Part.each 4 (.tpdo p) ++ Part.raised) s t) ∧
  -- RPDO_RECEIVED that maps one setting that takes effect without a commit and admits it (R342).
  (∀ (p : Fin 2) (n : Fin 4) (e : Nat) (d : List Byte) (s : State),
      s.pdosRun p = true →
      bit (s.portRaw p (0x1400 + n) 1) 31 = false →
      s.mapped p (0x1600 + n) = [e] →
      entryBits e ≤ 8 * d.length →
      s.checkWrite none s.rpdoRole (entryIndex e) (entrySub e) (d.take (entryBits e / 8)) none false none = .pass →
      (findObj (entryIndex e) (entrySub e)).map ObjRow.access = some .rws →
      perPort (entryIndex e) = false →
      isCalObject (entryIndex e) = false →
      (singleWrite none s.rpdoRole (entryIndex e) (entrySub e)).isNone = true →
      (bankWrite (entryIndex e) (entrySub e)).isNone = true →
      Completes (.rpdoReceived p n d) s fun t =>
      (t.net.force.lookup (objKey (entryIndex e) (entrySub e))).getD (s.default (entryIndex e) (entrySub e)) = leValue (d.take (entryBits e / 8)) ∧
      t.net.shadow = s.net.shadow ∧ KeepsBut [.net (.emcy 0), .net (.emcy 1), .net .portAll, .net .storeAll, .net .storing, .twin .sent, .net .commit,
        .net .sessAll, .net .shadow, .net .claim, .net .forceAll, .net (.rw (objKey 0x2E00 15)), .twin .giveUp, .twin .driveWait, .twin .released,
        .net (.pmXfer 0), .net (.pmXfer 1), .twin .st, .twin .validRun, .twin .alignedSince, .twin .mirror, .twin .missed, .twin .tolerance, .twin .mayPair,
        .net .rwAll] s t) ∧
  -- TPDO_EVENT of a TPDO that is on (R362): its mapped values leave and its event time runs again.
  (∀ (p : Fin 2) (n : Fin 4) (s : State),
      s.due (.tpdo p n) = true →
      s.pdosRun p = true →
      s.tpdoOn p n = true →
      Completes (.tpdoEvent p n) s fun t =>
      (t.net.port[p]).tpdo = some (n.val + 1, (s.disarm (.tpdo p n)).pdoData p (s.mapped p (0x1A00 + n))) ∧
      (s.tpdoTime p n ≠ 0 → Ends (.tpdo p n) (s.tpdoTime p n) s t) ∧ KeepsBut [.timer (.tpdo p n), .net (.port p)] s t) ∧
  -- HEARTBEAT_PRODUCE (R361).
  (∀ (p : Fin 2) (s : State),
      s.due (.heartbeat p) = true →
      s.portLive p = true →
      s.portRaw p 0x1017 0 ≠ 0 →
      Completes (.heartbeatProduce p) s fun t => (t.net.port[p]).heartbeats = bump (s.net.port[p]).heartbeats ∧
        Ends (.heartbeat p) (1000000 * s.portRaw p 0x1017 0) s t ∧ KeepsBut [.net (.port p), .timer (.heartbeat p)] s t) ∧
  -- HEARTBEAT_LOST of a producer that 0x1016 names (R364).
  (∀ (p : Fin 2) (n : Fin 4) (s : State),
      s.portLive p = true →
      bits (s.portRaw p 0x1016 (n + 1)) 15 0 ≠ 0 →
      bits (s.portRaw p 0x1016 (n + 1)) 22 16 ≠ 0 →
      Completes (.heartbeatLost p n) s fun t => Raised 0x0D0C noInst [bits (s.portRaw p 0x1016 (n + 1)) 22 16] s t ∧ KeepsBut Part.raised s t) ∧
  -- CAN_BUS_OFF (R365).
  (∀ (p : Fin 2) (s : State),
      s.portLive p = true →
      Completes (.canBusOff p) s fun t =>
      (t.net.port[p]).busOff = true ∧ Raised 0x0D0D p [] s t ∧ (t.net.sess[sessIx (portSession p)]).role = .observer ∧ Stopped (.heartbeat p) t ∧
        (∀ n : Fin 4, Stopped (.tpdo p n) t) ∧ KeepsBut (([.net (.sess (sessIx (portSession p))), .net .shadow, .net .claim, .timer (.heartbeat p),
        .net (.port p)] : List Part) ++ Part.each 4 (.tpdo p) ++ Part.raised) s t) ∧
  -- BUS_OFF_RECOVERY (R359, R365): the port boots up.
  (∀ (p : Fin 2) (s : State),
      s.up = true →
      (s.net.port[p]).busOff = true →
      Completes (.busOffRecovery p) s fun t =>
      (t.net.port[p]).busOff = false ∧ (t.net.port[p]).bootUps = bump (s.net.port[p]).bootUps ∧
      (t.net.port[p]).nmt = (if bit (s.raw 0x2020 6) p then .operational else .preOperational) ∧
        KeepsBut (([.net (.port p), .timer (.heartbeat p)] : List Part) ++ Part.each 4 (.tpdo p)) s t)

/-- Segmented SDO transfers, the error field and its EMCYs. Of a served CAN session out of recovery: SDO_SEGMENT that begins a read of an object that
answers data holds the whole value, and one that begins a write holds an empty one, for 1 s, answering done; one of a read that takes the last of the
value answers those bytes and ends the transfer; one of a write that is not the last appends its bytes, answers done and has 1 s again. SDO_TIMEOUT at
its time, with a transfer, ends it with the answer 0x05040000. ERROR_FIELD_BATCH, the batch not empty and its microsecond over, enters it into 0x1003,
which then holds 1 to 16 errors, and empties it. EMCY_TRANSMIT while PDOs run and no inhibit time stands sends the oldest EMCY, which leaves the
queue, and times the inhibit. ERROR_FIELD_CLEAR, admitted, empties 0x1003, appends the clearing EMCY for every operational port with room, and answers
done. Each clause gives its conditions; the list after its KeepsBut names every part of the state that may change, and all others stand; a reset's
clause says what stays. -/
def Obligations.SdoTransfersAndErrorField : Prop :=
  -- SDO_SEGMENT that begins a read (R356): the whole value waits, with its 1 s.
  (∀ (p : Fin 2) (idx sub : Nat) (d : List Byte) (s : State),
      s.serves (portSession p) = true →
      s.rst.phase ≠ .recovery →
      (s.touch (portSession p)).dictRead (portSession p) p idx sub = .data d →
      Completes (.sdoSegment p (.beginRead idx sub)) s fun t =>
      (t.net.sess[sessIx (portSession p)]).transfer = some { write := false, key := objKey idx sub, bytes := d } ∧ Answered (portSession p) .done t ∧
      Ends (.segment (sessIx (portSession p))) 1000000000 s t ∧ KeepsBut [.net .sessAll, .timers] s t) ∧
  -- SDO_SEGMENT that begins a write (R356).
  (∀ (p : Fin 2) (idx sub : Nat) (s : State),
      s.serves (portSession p) = true →
      s.rst.phase ≠ .recovery →
      Completes (.sdoSegment p (.beginWrite idx sub)) s fun t =>
      (t.net.sess[sessIx (portSession p)]).transfer = some { write := true, key := objKey idx sub } ∧ Answered (portSession p) .done t ∧
      Ends (.segment (sessIx (portSession p))) 1000000000 s t ∧
        KeepsBut [.net (.sess (sessIx (portSession p))), .timer (.segment (sessIx (portSession p))), .timer (.sessIdle (sessIx (portSession p)))] s t) ∧
  -- SDO_SEGMENT of a read that takes the last of the value (R356).
  (∀ (p : Fin 2) (n : Nat) (x : Transfer) (s : State),
      s.serves (portSession p) = true →
      s.rst.phase ≠ .recovery →
      (s.net.sess[sessIx (portSession p)]).transfer = some x →
      x.write = false →
      x.bytes.length ≤ x.offset + n →
      Completes (.sdoSegment p (.read n)) s fun t =>
      Answered (portSession p) (.data ((x.bytes.drop x.offset).take n)) t ∧ (t.net.sess[sessIx (portSession p)]).transfer = none ∧
      Stopped (.segment (sessIx (portSession p))) t ∧ KeepsBut [.net .sessAll, .net .portAll, .net .commit, .net (.emcy 0), .net (.emcy 1), .net .storeAll,
        .net .storing, .net .shadow, .net .claim, .net .forceAll, .net .rwAll, .net (.pmXfer 0), .net (.pmXfer 1), .timers] s t) ∧
  -- SDO_SEGMENT of a write that is not the last (R356).
  (∀ (p : Fin 2) (d : List Byte) (x : Transfer) (s : State),
      s.serves (portSession p) = true →
      s.rst.phase ≠ .recovery →
      (s.net.sess[sessIx (portSession p)]).transfer = some x →
      x.write = true →
      Completes (.sdoSegment p (.write d false)) s fun t =>
      Answered (portSession p) .done t ∧ (t.net.sess[sessIx (portSession p)]).transfer = some { x with bytes := x.bytes ++ d, offset := (x.bytes ++ d).length } ∧
      Ends (.segment (sessIx (portSession p))) 1000000000 s t ∧
        KeepsBut [.net .sessAll, .net .portAll, .net .commit, .net (.emcy 0), .net (.emcy 1), .net .storeAll, .net .storing, .net .shadow, .net .claim,
        .net .forceAll, .net .rwAll, .net (.pmXfer 0), .net (.pmXfer 1), .timers] s t) ∧
  -- SDO_TIMEOUT (R356).
  (∀ (p : Fin 2) (s : State),
      s.due (.segment (sessIx (portSession p))) = true →
      (s.net.sess[sessIx (portSession p)]).transfer.isSome = true →
      Completes (.sdoTimeout p) s fun t =>
      (t.net.sess[sessIx (portSession p)]).transfer = none ∧ Answered (portSession p) (.abort 0x05040000) t ∧ Stopped (.segment (sessIx (portSession p))) t ∧
        KeepsBut [.net (.sess (sessIx (portSession p))), .timer (.segment (sessIx (portSession p)))] s t) ∧
  -- ERROR_FIELD_BATCH once the microsecond is over (R481): the batch is empty, at most sixteen errors stand, and the newest of them were in the
  -- batch.
  (∀ (s : State),
      s.net.batch ≠ [] →
      s.tb.tod / 1000 ≠ s.net.batchAt →
      Completes .errorFieldBatch s fun t =>
      t.net.batch = [] ∧ t.net.errs = enterBatch s.net.batch s.net.errs ∧ t.net.errs ≠ [] ∧ t.net.errs.length ≤ 16 ∧
        KeepsBut [.net .errs, .net .batch, .net (.emcy 0), .net (.emcy 1), .timer (.tpdo 0 2), .timer (.tpdo 1 2)] s t) ∧
  -- EMCY_TRANSMIT while PDOs run and the inhibit time is over (R481): the oldest leaves.
  (∀ (p : Fin 2) (e : Emcy) (l : List Emcy) (s : State),
      s.pdosRun p = true →
      s.running (.emcy p) = false ∨ s.due (.emcy p) = true →
      (s.net.port[p]).emcy = e :: l →
      Completes (.emcyTransmit p) s fun t => (t.net.port[p]).emcy = l ∧ (t.net.port[p]).sentEmcy = some e ∧ Ends (.emcy p) (s.inhibit p) s t ∧
        KeepsBut [.net (.emcy 0), .net (.emcy 1), .net (.port p), .timer (.emcy p)] s t) ∧
  -- ERROR_FIELD_CLEAR (R482): 0x1003 is empty and a port in operational sends the clearing EMCY.
  (∀ (w : Session) (s : State),
      s.admits w 0x1003 0 [0] = true →
      Completes (.errorFieldClear w) s fun t =>
      Answered w .done t ∧ t.net.errs = [] ∧
      (∀ p : Fin 2, (s.net.port[p]).nmt = .operational → (s.net.port[p]).emcy.length < 16 → (t.net.port[p]).emcy = (s.net.port[p]).emcy ++ [⟨0, 0, 0, 0⟩]) ∧
      KeepsBut (([.net (.emcy 0), .net (.emcy 1), .net .errs, .net .portAll, .net (.sess (sessIx w)),
        .timer (.sessIdle (sessIx w))] : List Part) ++ Part.each 4 (.tpdo 0) ++ Part.each 4 (.tpdo 1)) s t)

/-- The SPI host port: read and write frames, access refused, wrong CRCs. With the host port up. SPI_READ with a right header CRC and command, the frame
long enough, of aligned words of the user area with no word known as bad, returns the words, a good status, and counts the frame; of one word at or
above 0x50000000 it returns 0 with ACCESS_ERR at word 0, and counts the frame. SPI_READ and SPI_WRITE of at least 8 bytes with a wrong header CRC are
counted and, 0x0D0E not recorded within the last second, recorded, and nothing else changes. SPI_WRITE of one word to NVC_DATA0 with right CRCs and
command writes the word, leaves the user area, gives a good status and counts the frame; of any number of words, the frame long enough, with a wrong
data CRC it is counted and recorded as above, and nothing is written. Each clause gives its conditions; the list after its KeepsBut names every part
of the state that may change, and all others stand; a reset's clause says what stays. -/
def Obligations.SpiFramesReadAndWriteWords : Prop :=
  -- SPI_READ of words of the user area (R36, R366 to R368).
  (∀ (d : List Byte) (s : State),
      s.hostUp = true →
      frameHcrc d = true →
      frameCmdOk 1 d = true →
      12 + 4 * frameCount d ≤ d.length →
      frameAddr d % 4 = 0 →
      userBase ≤ frameAddr d →
      frameAddr d + 4 * frameCount d ≤ userEnd →
      s.mem.badWords = [] →
      Completes (.spiRead d) s fun t =>
      t.net.spiData = (List.range (frameCount d)).map (fun k => BitVec.ofNat 32 (readWord s.mem.user (frameAddr d + 4 * k))) ∧
      t.net.spiStat = statWord true false false false s.pins.spiIrq {} ∧ t.net.spiFrames = bump s.net.spiFrames ∧
        KeepsBut [.net .spiFrames, .net .spiData, .net .spiStat] s t) ∧
  -- SPI_READ of an address outside the host's map (R37, R367): the word reads 0 and STAT says ACCESS_ERR at word 0.
  (∀ (d : List Byte) (s : State),
      s.hostUp = true →
      frameHcrc d = true →
      frameCmdOk 1 d = true →
      frameCount d = 1 →
      16 ≤ d.length →
      0x50000000 ≤ frameAddr d →
      Completes (.spiRead d) s fun t => t.net.spiData = [0] ∧
        t.net.spiStat = statWord false false false false s.pins.spiIrq { denied := true, first := some 0 } ∧ t.net.spiFrames = bump s.net.spiFrames ∧
        KeepsBut [.net .spiFrames, .net .spiData, .net .spiStat] s t) ∧
  -- SPI_READ and SPI_WRITE with a wrong header CRC (R367): counted, 0x0D0E, nothing else.
  (∀ (d : List Byte) (s : State),
      s.hostUp = true →
      8 ≤ d.length →
      frameHcrc d = false →
      s.running (.limit 0x0D0E noInst) = false →
      Completes (.spiRead d) s (fun t => t.net.spiCrc = bump s.net.spiCrc ∧ Raised 0x0D0E noInst [] s t ∧
        KeepsBut (([.net .spiCrc, .net .spiFrames, .timer (.limit 3342 noInst), .net .spiData, .net .spiStat] : List Part) ++ Part.raised) s t) ∧
      Completes (.spiWrite d) s (fun t => t.net.spiCrc = bump s.net.spiCrc ∧ Raised 0x0D0E noInst [] s t ∧
        KeepsBut (([.net .spiCrc, .net .spiFrames, .timer (.limit 3342 noInst), .net .spiData, .net .spiStat] : List Part) ++ Part.raised) s t)) ∧
  -- SPI_WRITE of one word whose CRCs are right (R368): the register is written.
  (∀ (d : List Byte) (s : State),
      s.hostUp = true →
      frameHcrc d = true →
      frameCmdOk 2 d = true →
      frameCount d = 1 →
      14 ≤ d.length →
      crc16 ((d.drop 8).take 4) = leValue ((d.drop 12).take 2) →
      frameAddr d = 0x4000400C →
      Completes (.spiWrite d) s fun t =>
      t.mem.nvData0 = BitVec.ofNat 32 (leValue ((d.drop 8).take 4)) ∧ t.mem.user = s.mem.user ∧
        t.net.spiStat = statWord true false false false s.pins.spiIrq {} ∧
      t.net.spiFrames = bump s.net.spiFrames ∧ KeepsBut [.net .spiFrames, .net (.sess (sessIx .spi)), .net .shadow, .net .claim, .mem .nvResult, .mem .nvBusy,
        .net .storeAll, .net .storing, .mem .badWords, .mem .user, .mem .nvAddr, .mem .nvData0, .mem .nvData1, .net .spiData, .net .spiStat] s t) ∧
  -- SPI_WRITE whose data's CRC is wrong (R368): nothing is written.
  (∀ (d : List Byte) (s : State),
      s.hostUp = true →
      frameHcrc d = true →
      frameCmdOk 2 d = true →
      10 + 4 * frameCount d ≤ d.length →
      crc16 ((d.drop 8).take (4 * frameCount d)) ≠ leValue ((d.drop (8 + 4 * frameCount d)).take 2) →
      s.running (.limit 0x0D0E noInst) = false →
      Completes (.spiWrite d) s fun t => t.net.spiCrc = bump s.net.spiCrc ∧ Raised 0x0D0E noInst [] s t ∧
        KeepsBut (([.net .spiFrames, .net .spiCrc, .timer (.limit 3342 noInst), .net .spiData, .net .spiStat] : List Part) ++ Part.raised) s t)

/-- The dictionary tunnel on Q08 and Q24: reads, writes, segments, refusals and the timeout. The oldest message of Q08 being a request of its operation,
Q08's receiver E0's identity and the sender's epoch current: with a stale receiver epoch it is acknowledged with 0x14, and while another is served
with 0x12; Q24 does not change. Otherwise it is served and acknowledged with 0x01, and the response on Q24 carries the abort code or 0, the request's
SEQ and tag, whether it is the last, and the data. TUNNEL_READ out of recovery of an object of at most 48 bytes answers its value. TUNNEL_WRITE of an
admitted object of access rw, no CAN port's and without an operation of its own, holds the value. TUNNEL_READ_SEGMENT that fits the transfer and is
not the last answers the next 48 bytes, the transfer going on for 1 s; without a transfer it answers 0x08000104. TUNNEL_WRITE_SEGMENT at offset 0
begins a write with its bytes, for 1 s. TUNNEL_LAST_WRITE_SEGMENT that fits ends the transfer and holds the whole value, of an object as for
TUNNEL_WRITE. TUNNEL_TIMEOUT at its time, Q24 with a free slot, ends the transfer with 0x05040000 as the session's answer and as the response to its
last request. Each clause gives its conditions; the list after its KeepsBut names every part of the state that may change, and all others stand; a
reset's clause says what stays. -/
def Obligations.TunnelServesTheDictionary : Prop :=
  -- TUNNEL_READ of an object of at most 48 bytes (R369): the request is acknowledged with 0x01, the response stands on Q24.
  (∀ (k : Fin 16) (d : List Byte) (s : State),
      s.serves .spi = true →
      s.rst.phase ≠ .recovery →
      (s.eng.queue[(8 : Fin 64)]).oldest = some k →
      s.receiver 8 = 0x10 →
      s.twin.proxyIn = [] →
      reqOp ((s.eng.queue[(8 : Fin 64)]).slot[k]).payload = 1 →
      ((s.eng.queue[(8 : Fin 64)]).slot[k]).repoch = (s.epochOf 0x10).toNat →
      ((s.eng.queue[(8 : Fin 64)]).slot[k]).sepoch = (s.epochOf 0x01).toNat →
      s.tunnelBusy = false →
      ((s.ack 1 8 k 1).touch .spi).dictRead .spi (copyPort .spi (reqPortB ((s.eng.queue[(8 : Fin 64)]).slot[k]).payload)) (reqIndex ((s.eng.queue[(8 : Fin 64)]).slot[k]).payload) (reqSub ((s.eng.queue[(8 : Fin 64)]).slot[k]).payload) = .data d →
      d.length ≤ 48 →
      Completes .tunnelRead s fun t =>
      ((t.eng.queue[(8 : Fin 64)]).slot[k]).state = 2 ∧ ((t.eng.queue[(8 : Fin 64)]).slot[k]).code = 0x01 ∧
      ((t.eng.queue[(24 : Fin 64)]).slot[(s.eng.queue[(24 : Fin 64)]).ptr]).payload = leBytes 4 0 ++ leBytes 2 ((s.eng.queue[(8 : Fin 64)]).slot[k]).seq ++ leBytes 1 (reqTag ((s.eng.queue[(8 : Fin 64)]).slot[k]).payload) ++ leBytes 1 1 ++ d ∧
      ((t.eng.queue[(24 : Fin 64)]).slot[(s.eng.queue[(24 : Fin 64)]).ptr]).state = 1 ∧
        KeepsBut [.net (.sess (sessIx .spi)), .eng (.queue 8), .eng .orphans, .eng .dbAll, .pins .spiIrq, .eng (.queue 24), .eng .fullIrq, .net (.sess 2),
        .net .tunnelReq, .timers] s t) ∧
  -- TUNNEL_READ while a request is still served (R369): acknowledged with 0x12.
  (∀ (k : Fin 16) (s : State),
      s.serves .spi = true →
      (s.eng.queue[(8 : Fin 64)]).oldest = some k →
      s.receiver 8 = 0x10 →
      s.twin.proxyIn = [] →
      reqOp ((s.eng.queue[(8 : Fin 64)]).slot[k]).payload = 1 →
      ((s.eng.queue[(8 : Fin 64)]).slot[k]).repoch = (s.epochOf 0x10).toNat →
      ((s.eng.queue[(8 : Fin 64)]).slot[k]).sepoch = (s.epochOf 0x01).toNat →
      s.tunnelBusy = true →
      Completes .tunnelRead s fun t => ((t.eng.queue[(8 : Fin 64)]).slot[k]).state = 2 ∧ ((t.eng.queue[(8 : Fin 64)]).slot[k]).code = 0x12 ∧
        t.eng.queue[(24 : Fin 64)] = s.eng.queue[(24 : Fin 64)] ∧ KeepsBut [.eng (.queue 8), .eng .dbAll, .pins .spiIrq, .eng .orphans] s t) ∧
  -- TUNNEL_READ whose receiver epoch is stale (R322, R369): acknowledged with 0x14.
  (∀ (k : Fin 16) (s : State),
      s.serves .spi = true →
      (s.eng.queue[(8 : Fin 64)]).oldest = some k →
      s.receiver 8 = 0x10 →
      s.twin.proxyIn = [] →
      reqOp ((s.eng.queue[(8 : Fin 64)]).slot[k]).payload = 1 →
      ((s.eng.queue[(8 : Fin 64)]).slot[k]).repoch ≠ (s.epochOf 0x10).toNat →
      ((s.eng.queue[(8 : Fin 64)]).slot[k]).sepoch = (s.epochOf 0x01).toNat →
      Completes .tunnelRead s fun t => ((t.eng.queue[(8 : Fin 64)]).slot[k]).state = 2 ∧ ((t.eng.queue[(8 : Fin 64)]).slot[k]).code = 0x14 ∧
        t.eng.queue[(24 : Fin 64)] = s.eng.queue[(24 : Fin 64)] ∧
        KeepsBut [.eng (.queue 8), .eng .dbAll, .pins .spiIrq, .eng .orphans, .eng (.queue 24), .eng .fullIrq] s t) ∧
  -- TUNNEL_WRITE of an object that only holds its value (R369, R337).
  (∀ (k : Fin 16) (m : MsgSlot) (s : State),
      (s.eng.queue[(8 : Fin 64)]).oldest = some k →
      (s.eng.queue[(8 : Fin 64)]).slot[k] = m →
      s.receiver 8 = 0x10 →
      s.twin.proxyIn = [] →
      reqOp m.payload = 2 →
      m.repoch = (s.epochOf 0x10).toNat →
      m.sepoch = (s.epochOf 0x01).toNat →
      s.tunnelBusy = false →
      s.admits .spi (reqIndex m.payload) (reqSub m.payload) (m.payload.drop 8) = true →
      (findObj (reqIndex m.payload) (reqSub m.payload)).map ObjRow.access = some .rw →
      perPort (reqIndex m.payload) = false →
      (singleWrite (some .spi) (s.roleOf .spi) (reqIndex m.payload) (reqSub m.payload)).isNone = true →
      (bankWrite (reqIndex m.payload) (reqSub m.payload)).isNone = true →
      Completes .tunnelWrite s fun t =>
      ((t.eng.queue[(8 : Fin 64)]).slot[k]).code = 0x01 ∧ (t.net.rw.lookup (objKey (reqIndex m.payload) (reqSub m.payload))).getD (s.default (reqIndex m.payload) (reqSub m.payload)) = leValue (m.payload.drop 8) ∧
      ((t.eng.queue[(24 : Fin 64)]).slot[(s.eng.queue[(24 : Fin 64)]).ptr]).payload = leBytes 4 0 ++ leBytes 2 m.seq ++ leBytes 1 (reqTag m.payload) ++ leBytes 1 1 ∧ KeepsBut [.net .portAll, .net .commit, .twin .sent, .net .storeAll, .net .storing, .net .sessAll, .net .shadow, .net .claim, .pins .gpioOut, .pins .gpioDir, .pins .gateAll, .pins .syncOut, .pins .pwmAll, .pins .pg, .net .forceAll, .net .rwAll, .twin .giveUp, .pins .slDriver, .pins .twinActO, .twin .driveWait, .twin .released, .pins .pmbusReleased, .net (.pmXfer 0), .net (.pmXfer 1), .twin .st, .twin .validRun, .twin .alignedSince, .twin .mirror, .twin .missed, .twin .tolerance, .eng .engAll, .twin .mayPair, .eng (.queue 8), .eng .orphans, .eng .dbAll, .pins .spiIrq, .twin .proxyIn, .eng (.queue 24), .eng .fullIrq, .twin .proxyOut, .net .tunnelReq, .timers] s t) ∧
  -- TUNNEL_READ_SEGMENT that fits the transfer and is not the last (R370).
  (∀ (k : Fin 16) (m : MsgSlot) (x : Transfer) (s : State),
      s.serves .spi = true →
      (s.eng.queue[(8 : Fin 64)]).oldest = some k →
      (s.eng.queue[(8 : Fin 64)]).slot[k] = m →
      s.receiver 8 = 0x10 →
      s.twin.proxyIn = [] →
      reqOp m.payload = 3 →
      m.repoch = (s.epochOf 0x10).toNat →
      m.sepoch = (s.epochOf 0x01).toNat →
      s.tunnelBusy = false →
      (s.net.sess[(2 : Fin 3)]).transfer = some x →
      x.fits false m = true →
      x.offset + 48 < x.bytes.length →
      Completes .tunnelReadSegment s fun t =>
      (t.net.sess[(2 : Fin 3)]).transfer = some { x with offset := x.offset + 48, req := reqOf m } ∧ Ends (.segment 2) 1000000000 s t ∧
      ((t.eng.queue[(24 : Fin 64)]).slot[(s.eng.queue[(24 : Fin 64)]).ptr]).payload = leBytes 4 0 ++ leBytes 2 m.seq ++ leBytes 1 (reqTag m.payload) ++ leBytes 1 0 ++ (x.bytes.drop x.offset).take 48 ∧ KeepsBut [.eng (.queue 8), .eng .orphans, .eng .dbAll, .pins .spiIrq, .net (.sess 2), .eng (.queue 24), .eng .fullIrq, .net (.sess (sessIx .spi)), .timers] s t) ∧
  -- TUNNEL_READ_SEGMENT without a transfer (R370): 0x08000104.
  (∀ (k : Fin 16) (m : MsgSlot) (s : State),
      s.serves .spi = true →
      (s.eng.queue[(8 : Fin 64)]).oldest = some k →
      (s.eng.queue[(8 : Fin 64)]).slot[k] = m →
      s.receiver 8 = 0x10 →
      s.twin.proxyIn = [] →
      reqOp m.payload = 3 →
      m.repoch = (s.epochOf 0x10).toNat →
      m.sepoch = (s.epochOf 0x01).toNat →
      s.tunnelBusy = false →
      (s.net.sess[(2 : Fin 3)]).transfer = none →
      Completes .tunnelReadSegment s fun t =>
      Answered .spi (.abort 0x08000104) t ∧ ((t.eng.queue[(24 : Fin 64)]).slot[(s.eng.queue[(24 : Fin 64)]).ptr]).payload = leBytes 4 0x08000104 ++ leBytes 2 m.seq ++ leBytes 1 (reqTag m.payload) ++ leBytes 1 1 ∧ KeepsBut [.eng (.queue 8), .eng .orphans, .eng .dbAll, .pins .spiIrq, .net (.sess 2), .eng (.queue 24), .eng .fullIrq, .net (.sess (sessIx .spi)), .timers] s t) ∧
  -- TUNNEL_WRITE_SEGMENT that begins a write (R370).
  (∀ (k : Fin 16) (m : MsgSlot) (s : State),
      s.serves .spi = true →
      (s.eng.queue[(8 : Fin 64)]).oldest = some k →
      (s.eng.queue[(8 : Fin 64)]).slot[k] = m →
      s.receiver 8 = 0x10 →
      s.twin.proxyIn = [] →
      reqOp m.payload = 4 →
      m.repoch = (s.epochOf 0x10).toNat →
      m.sepoch = (s.epochOf 0x01).toNat →
      s.tunnelBusy = false →
      reqOffset m.payload = 0 →
      Completes .tunnelWriteSegment s fun t =>
      (t.net.sess[(2 : Fin 3)]).transfer = some { write := true, key := objKey (reqIndex m.payload) (reqSub m.payload), bytes := m.payload.drop 8, offset := (m.payload.drop 8).length, req := reqOf m } ∧
      Ends (.segment 2) 1000000000 s t ∧ ((t.eng.queue[(24 : Fin 64)]).slot[(s.eng.queue[(24 : Fin 64)]).ptr]).payload = leBytes 4 0 ++ leBytes 2 m.seq ++ leBytes 1 (reqTag m.payload) ++ leBytes 1 1 ∧ KeepsBut [.eng (.queue 8), .eng .dbAll, .pins .spiIrq, .eng .orphans, .net (.sess 2), .eng (.queue 24), .eng .fullIrq, .net (.sess (sessIx .spi)), .timers] s t) ∧
  -- TUNNEL_LAST_WRITE_SEGMENT that fits (R370): the object is written with all the bytes; here one that only holds its value.
  (∀ (k : Fin 16) (m : MsgSlot) (x : Transfer) (s : State),
      (s.eng.queue[(8 : Fin 64)]).oldest = some k →
      (s.eng.queue[(8 : Fin 64)]).slot[k] = m →
      s.receiver 8 = 0x10 →
      s.twin.proxyIn = [] →
      reqOp m.payload = 5 →
      m.repoch = (s.epochOf 0x10).toNat →
      m.sepoch = (s.epochOf 0x01).toNat →
      s.tunnelBusy = false →
      (s.net.sess[(2 : Fin 3)]).transfer = some x →
      x.fits true m = true →
      reqOffset m.payload ≠ 0 →
      s.admits .spi (reqIndex m.payload) (reqSub m.payload) (x.bytes ++ m.payload.drop 8) = true →
      (findObj (reqIndex m.payload) (reqSub m.payload)).map ObjRow.access = some .rw →
      perPort (reqIndex m.payload) = false →
      (singleWrite (some .spi) (s.roleOf .spi) (reqIndex m.payload) (reqSub m.payload)).isNone = true →
      (bankWrite (reqIndex m.payload) (reqSub m.payload)).isNone = true →
      Completes .tunnelLastWriteSegment s fun t =>
      (t.net.sess[(2 : Fin 3)]).transfer = none ∧ Stopped (.segment 2) t ∧
      (t.net.rw.lookup (objKey (reqIndex m.payload) (reqSub m.payload))).getD (s.default (reqIndex m.payload) (reqSub m.payload)) = leValue (x.bytes ++ m.payload.drop 8) ∧
      ((t.eng.queue[(24 : Fin 64)]).slot[(s.eng.queue[(24 : Fin 64)]).ptr]).payload = leBytes 4 0 ++ leBytes 2 m.seq ++ leBytes 1 (reqTag m.payload) ++ leBytes 1 1 ∧ KeepsBut [.net .portAll, .net .commit, .twin .sent, .net .storeAll, .net .storing, .net .sessAll, .net .shadow, .net .claim, .pins .gpioOut, .pins .gpioDir, .pins .gateAll, .pins .syncOut, .pins .pwmAll, .pins .pg, .net .forceAll, .net .rwAll, .twin .giveUp, .pins .slDriver, .pins .twinActO, .twin .driveWait, .twin .released, .pins .pmbusReleased, .net (.pmXfer 0), .net (.pmXfer 1), .twin .st, .twin .validRun, .twin .alignedSince, .twin .mirror, .twin .missed, .twin .tolerance, .eng .engAll, .twin .mayPair, .eng (.queue 8), .eng .dbAll, .pins .spiIrq, .twin .proxyIn, .eng .orphans, .eng (.queue 24), .eng .fullIrq, .twin .proxyOut, .net .tunnelReq, .timers] s t) ∧
  -- TUNNEL_TIMEOUT while Q24 has a free slot (R370).
  (∀ (x : Transfer) (s : State),
      s.due (.segment 2) = true →
      (s.net.sess[(2 : Fin 3)]).transfer = some x →
      ((s.eng.queue[(24 : Fin 64)]).slot[(s.eng.queue[(24 : Fin 64)]).ptr]).state ≠ 1 →
      Completes .tunnelTimeout s fun t =>
      (t.net.sess[(2 : Fin 3)]).transfer = none ∧ Answered .spi (.abort 0x05040000) t ∧
      ((t.eng.queue[(24 : Fin 64)]).slot[(s.eng.queue[(24 : Fin 64)]).ptr]).payload = leBytes 4 0x05040000 ++ leBytes 2 x.req.1 ++ leBytes 1 x.req.2 ++ leBytes 1 1 ∧ KeepsBut [.net (.sess 2), .timer (.segment 2), .net (.sess (sessIx .spi)), .eng (.queue 24), .timer (.limit 3073 24), .eng .dbAll, .pins .spiIrq, .eng .fullIrq, .timer (.proxy 24 s.eng.queue[24].ptr)] s t)

/-- PMBus host ports: discovery, polls, lost devices, alerts, clock stretching. Of a polled device whose port runs. PMBUS_DISCOVERY of one not discovered
makes it discovered, OK, with its VOUT_MODE, no command refused, and in role 1 the commanded voltage of 0x2E10:03, and changes no other device.
PMBUS_POLL, discovered, no command refused, no other device's transfer held, with seven words with right PECs: OK, the missing polls ended, status
word and telemetry taken by its format, no other device changed and the port free. While no transfer holds the port: a poll in which the device
stretches the clock holds the port, the line not released, for 25 ms; one without acknowledgement counts a missing poll and leaves the state; one with
a line held low records 0x0D12 and changes no device. CLOCK_STRETCH_TIMEOUT at the end of the 25 ms abandons the transfer and releases the port's
lines. PMBUS_DEVICE_LOST after three missing polls, not lost yet, makes the device lost and not discovered, with 0x0D0F. PMBUS_ALERT of a running port
with an answer of address and status: every polled device of the port at the address that is not lost shows the alert and the status, and 0x0D11
records both. Each clause gives its conditions; the list after its KeepsBut names every part of the state that may change, and all others stand; a
reset's clause says what stays. -/
def Obligations.PmbusDevicesArePolled : Prop :=
  -- PMBUS_DISCOVERY of a polled device (R371, R372).
  (∀ (d : Fin 32) (mode : Option Byte) (s : State),
      s.pmRuns d = true →
      (s.net.pm[d]).discovered = false →
      Completes (.pmbusDiscovery d mode) s fun t =>
      (t.net.pm[d]).discovered = true ∧ (t.net.pm[d]).st = 2 ∧ (t.net.pm[d]).voutMode = mode.map BitVec.toNat ∧ (t.net.pm[d]).refused = 0 ∧
      (s.raw 0x2042 (d + 1) = 1 → (t.net.pm[d]).voutCmd = some (absR (s.real 0x2E10 3))) ∧ (∀ e : Fin 32, e ≠ d → t.net.pm[e] = s.net.pm[e]) ∧
        KeepsBut [.net (.pm d)] s t) ∧
  -- PMBUS_POLL of a discovered device that refuses no command, with the PECs right (R372, R374): status and telemetry are taken.
  (∀ (d : Fin 32) (a b c e f g h : Nat) (s : State),
      s.pmRuns d = true →
      (s.net.pm[d]).discovered = true →
      (s.net.pm[d]).refused = 0 →
      s.net.pmXfer[s.pmPort d] = none ∨ s.net.pmXfer[s.pmPort d] = some d →
      Completes (.pmbusPoll d (.words #v[.word a true, .word b true, .word c true, .word e true, .word f true, .word g true, .word h true])) s fun t =>
      (t.net.pm[d]).st = 2 ∧ (t.net.pm[d]).nacks = 0 ∧ (t.net.pm[d]).status = a % 65536 ∧ (t.net.pm[d]).tele[0] = some (linear11 b) ∧
        (t.net.pm[d]).tele[2] = some (linear11 e) ∧
      (t.net.pm[d]).tele[1] = pmValue (s.raw 0x2042 (d + 1)) (s.net.pm[d]).voutMode 1 c ∧ (∀ e : Fin 32, e ≠ d → t.net.pm[e] = s.net.pm[e]) ∧
        t.net.pmXfer[s.pmPort d] = none ∧ KeepsBut [.pins .pmbusReleased, .net (.pmXfer (State.pmPort s d)), .net .pmAll, .timers] s t) ∧
  -- PMBUS_POLL in which the device stretches the clock, while no transfer of its port does (R82): it may do so for 25 ms.
  (∀ (d : Fin 32) (s : State),
      s.pmRuns d = true →
      s.net.pmXfer[s.pmPort d] = none →
      Completes (.pmbusPoll d .stretched) s fun t =>
      t.net.pmXfer[s.pmPort d] = some d ∧ t.pins.pmbusReleased.getLsbD (s.pmPort d) = false ∧ Ends (.pmStretch (s.pmPort d)) 25000000 s t ∧
        KeepsBut [.timer (.pmStretch ((State.pmPort s d))), .pins .pmbusReleased, .net (.pmXfer (State.pmPort s d))] s t) ∧
  -- PMBUS_POLL without acknowledgement, and with a line held low, while no transfer of the port stretches the clock (R374).
  (∀ (d : Fin 32) (s : State),
      s.pmRuns d = true →
      s.net.pmXfer[s.pmPort d] = none →
      Completes (.pmbusPoll d .noAck) s (fun t => (t.net.pm[d]).nacks = satInc 3 (s.net.pm[d]).nacks ∧ (t.net.pm[d]).st = (s.net.pm[d]).st ∧
        KeepsBut [.timer (.pmStretch ((State.pmPort s d))), .pins .pmbusReleased, .net (.pmXfer (State.pmPort s d)), .net (.pm d)] s t) ∧
      Completes (.pmbusPoll d .stuck) s (fun t => Raised 0x0D12 (s.pmPort d) [] s t ∧ t.net.pm = s.net.pm ∧
        KeepsBut (([.timer (.pmStretch ((State.pmPort s d))), .pins .pmbusReleased, .net (.pmXfer (State.pmPort s d))] : List Part) ++ Part.raised) s t)) ∧
  -- PMBUS_DEVICE_LOST after three polls without acknowledgement (R374).
  (∀ (d : Fin 32) (s : State),
      s.pmRuns d = true →
      3 ≤ (s.net.pm[d]).nacks →
      (s.net.pm[d]).st ≠ 1 →
      Completes (.pmbusDeviceLost d) s fun t => (t.net.pm[d]).st = 1 ∧ (t.net.pm[d]).discovered = false ∧ Raised 0x0D0F d [] s t ∧
        KeepsBut (([.net (.pm d)] : List Part) ++ Part.raised) s t) ∧
  -- PMBUS_ALERT (R374): the device at the answering address shows the alert and its STATUS_WORD.
  (∀ (p : Fin 2) (a v : Nat) (s : State),
      s.pmPortRuns p = true →
      Completes (.pmbusAlert p (some (a, v))) s fun t =>
      (∀ d : Fin 32, s.pmRuns d = true → s.pmPort d = p → s.pmAddress d = a → (s.net.pm[d]).st ≠ 1 → (t.net.pm[d]).st = 3 ∧ (t.net.pm[d]).status = v % 65536) ∧
      Raised 0x0D11 p [a, v] s t ∧ KeepsBut (([.net .pmAll] : List Part) ++ Part.raised) s t) ∧
  -- CLOCK_STRETCH_TIMEOUT of a transfer whose clock is held for 25 ms (R82): it is abandoned, both lines of the port are released.
  (∀ (p : Fin 2) (s : State),
      s.net.pmXfer[p].isSome = true →
      s.due (.pmStretch p) = true →
      Completes (.clockStretchTimeout p) s fun t =>
      t.net.pmXfer[p] = none ∧ t.pins.pmbusReleased.getLsbD p = true ∧ Stopped (.pmStretch p) t ∧
        KeepsBut [.timer (.pmStretch p), .pins .pmbusReleased, .net (.pmXfer p)] s t)

/-- Twin pairing: frames sent, refused, completed as active or standby, and alone. PAIRING_FRAME_SEND in state 2, due, sends the chip's pairing frame and
times the next in 10 ms; in state 7, allowed to pair again, it sends it once. PAIRING_FRAME_RECEIVED with its check good in state 2, the device up:
refused under reasons 1 to 6 the chip takes state 7 with the reason and the peer, sends the reason and records 0x0E01 with it. Passing with equal
hashes, from a peer that is not active and whose serial number is not lower, the chip becomes active of the pair on side A, asserts TWIN_ACT_O, drives
its outputs 5 us later, takes the peer's serial number, counts the twin proxy's epoch and watches for the standby 75 us; from an active peer it
becomes standby, unsynchronised, without a mirror, takes the serial number and counts that epoch. PAIRING_TIMEOUT in state 2, due, with TWIN_ACT_I
low, makes it active alone with 0x0E09, TWIN_ACT_O asserted, its outputs driven 5 us later. Each clause gives its conditions; the list after its
KeepsBut names every part of the state that may change, and all others stand; a reset's clause says what stays. -/
def Obligations.TwinPairsOrStaysAlone : Prop :=
  -- PAIRING_FRAME_SEND in state 2 (R379).
  (∀ (s : State),
      s.twin.st = .pairing →
      s.due .pairSend = true →
      Completes .pairingFrameSend s fun t => t.twin.sent.head? = some (.pairing s.pairInfo) ∧ Ends .pairSend 10000000 s t ∧
        KeepsBut [.timer .pairSend, .twin .sent] s t) ∧
  -- PAIRING_FRAME_SEND in state 7 that may pair again (R380).
  (∀ (s : State),
      s.twin.st = .refused →
      s.twin.mayPair = true →
      Completes .pairingFrameSend s fun t => t.twin.sent.head? = some (.pairing s.pairInfo) ∧ t.twin.mayPair = false ∧
        KeepsBut [.twin .st, .twin .mayPair, .twin .sent] s t) ∧
  -- PAIRING_FRAME_RECEIVED in state 2 that a check refuses, under reasons 1 to 6 (R380): the reason goes out and stands, state 7.
  (∀ (p : PeerInfo) (r : Nat) (s : State),
      s.up = true →
      s.twin.st = .pairing →
      s.pairRefusal p = some r →
      r ≠ 7 →
      Completes (.pairingFrameReceived true (.pairing p)) s fun t =>
      t.twin.st = .refused ∧ t.twin.reason = r ∧ t.twin.peer = some p ∧ t.twin.sent.head? = some (.refusal r) ∧ Raised 0x0E01 noInst [r] s t ∧
      Stopped .pairing t ∧ KeepsBut (([.twin .peer, .twin .sent, .twin .mayPair, .twin .reason, .pins .pwmAll, .pins .slDriver, .timer .quenchIgnore,
        .dist .quenchOut, .dist .quenchIgnore, .pins .gateAll, .pins .pg, .pins .twinActO, .shelf .sent, .twin .driveWait, .twin .released, .timer .pairSend,
        .timer .pairing, .timer .aligned, .timer .mirrorLost, .timer .standbyLost, .timer .takeDrive, .timer .peerAnswer, .twin .st, .twin .peerSerial,
        .twin .peerHash, .twin .side, .pins .spiIrq, .timer (.pmStretch 0), .pins .pmbusReleased, .net (.pmXfer 0), .timer (.pmStretch 1), .net (.pmXfer 1),
        .twin .validRun, .twin .alignedSince, .twin .mirror, .twin .missed, .twin .invalid] : List Part) ++ Part.raised) s t) ∧
  -- PAIRING_FRAME_RECEIVED in state 2 that passes with equal hashes, the peer not active and its serial number higher (R381): this chip becomes
  -- active  and its outputs follow 5 µs later.
  (∀ (p : PeerInfo) (s : State),
      s.up = true →
      s.twin.st = .pairing →
      s.pairRefusal p = none →
      p.hash = s.net.commit.hash →
      twinActive p.twin = false →
      s.upd.serial ≤ p.serial →
      Completes (.pairingFrameReceived true (.pairing p)) s fun t =>
      t.twin.st = .activePaired ∧ t.twin.side = false ∧ t.twin.peerSerial = p.serial ∧ t.pins.twinActO = true ∧ t.twin.driveWait = true ∧
        t.eng.epoch[9] = s.eng.epoch[9] + 1 ∧ Ends .takeDrive 5000 s t ∧ Ends .standbyLost 75000 s t ∧
      KeepsBut (([.twin .peer, .twin .sent, .twin .mayPair, .twin .reason, .pins .pwmAll, .pins .slDriver, .timer .quenchIgnore, .dist .quenchOut,
        .dist .quenchIgnore, .pins .gateAll, .pins .pg, .pins .twinActO, .shelf .sent, .twin .driveWait, .twin .released, .timer .pairSend, .timer .pairing,
        .timer .aligned, .timer .mirrorLost, .timer .standbyLost, .timer .takeDrive, .timer .peerAnswer, .twin .st, .twin .peerSerial, .twin .peerHash,
        .twin .side, .eng (.epoch 9), .eng .queueAll, .eng .lockAll, .eng .armAll, .eng .dbAll, .pins .spiIrq, .timer (.pmStretch 0), .pins .pmbusReleased,
        .net (.pmXfer 0), .timer (.pmStretch 1), .net (.pmXfer 1), .twin .validRun, .twin .alignedSince, .twin .mirror, .twin .missed,
        .twin .invalid] : List Part) ++ Part.raised) s t) ∧
  -- PAIRING_FRAME_RECEIVED in state 2 that passes with equal hashes from an active peer (R381): standby, unsynchronised, every shared output
  -- released.
  (∀ (p : PeerInfo) (s : State),
      s.up = true →
      s.twin.st = .pairing →
      s.pairRefusal p = none →
      p.hash = s.net.commit.hash →
      twinActive p.twin = true →
      Completes (.pairingFrameReceived true (.pairing p)) s fun t =>
      t.twin.st = .standbyUnsync ∧ t.twin.peerSerial = p.serial ∧ t.twin.mirror = none ∧ t.twin.validRun = 0 ∧ t.eng.epoch[9] = s.eng.epoch[9] + 1 ∧
      KeepsBut (([.twin .peer, .twin .sent, .twin .mayPair, .twin .reason, .pins .pwmAll, .pins .slDriver, .timer .quenchIgnore, .dist .quenchOut,
        .dist .quenchIgnore, .pins .gateAll, .pins .pg, .pins .twinActO, .shelf .sent, .twin .driveWait, .twin .released, .timer .pairSend, .timer .pairing,
        .timer .aligned, .timer .mirrorLost, .timer .standbyLost, .timer .takeDrive, .timer .peerAnswer, .twin .st, .twin .peerSerial, .twin .peerHash,
        .twin .side, .eng (.epoch 9), .eng .queueAll, .eng .lockAll, .eng .armAll, .eng .dbAll, .pins .spiIrq, .timer (.pmStretch 0), .pins .pmbusReleased,
        .net (.pmXfer 0), .timer (.pmStretch 1), .net (.pmXfer 1), .twin .validRun, .twin .alignedSince, .twin .mirror, .twin .missed,
        .twin .invalid] : List Part) ++ Part.raised) s t) ∧
  -- PAIRING_TIMEOUT with TWIN_ACT_I low (R381): active alone.
  (∀ (s : State),
      s.twin.st = .pairing →
      s.due .pairing = true →
      s.pins.twinActI = false →
      Completes .pairingTimeout s fun t =>
      t.twin.st = .activeAlone ∧ t.pins.twinActO = true ∧ t.twin.driveWait = true ∧ Raised 0x0E09 noInst [] s t ∧ Ends .takeDrive 5000 s t ∧
        KeepsBut (([.timer .pairSend, .timer .pairing, .timer .aligned, .timer .mirrorLost, .timer .standbyLost, .timer .takeDrive, .timer .peerAnswer,
        .pins .twinActO, .twin .st, .twin .driveWait, .twin .released, .twin .missed] : List Part) ++ Part.raised) s t)

/-- Twin configuration: push, change sets and their answers, rollback, store, reset and adoption. CONFIG_PUSH, admitted, on the active chip with a stored
configuration sends it and answers done. CONFIGURATION_FRAME_RECEIVED with its check good, the device up. At a standby with no commit in progress a
change set is validated for the peer within 50 ms in the order sent. At the active chip that awaits the answer to its set: acceptance begins
application with its blocks, the first to wait at most 100 ms; refusal of a user's set gives the state refused with 0x0E0A, records 0x0D04 with that
code, leaves the shadow and sends the standby its reset. At a standby: the active chip's rollback, while the peer's set applies with a block applied,
begins the rollback; its Store, where the standby may store, writes the scope for the peer in at most 40 ms; its reset order begins the warm reset of
the twin's cause. At a chip of a pair that is not active a pushed configuration is stored and committed as at boot, the chip unpaired, with 0x0E0B.
With a failed check it, as PAIRING_FRAME_RECEIVED, only counts an invalid frame. Each clause gives its conditions; the list after its KeepsBut names
every part of the state that may change, and all others stand; a reset's clause says what stays. -/
def Obligations.TwinConfigurationFrames : Prop :=
  -- CONFIG_PUSH on the active chip with a stored configuration (R382).
  (∀ (w : Session) (d : List Byte) (s : State),
      s.admits w 0x3000 7 d = true →
      s.active = true →
      s.net.newestCopy.isSome = true →
      Completes (.configPush w d) s fun t => Answered w .done t ∧ t.twin.sent.head? = some (s.adoptFrame true) ∧
        KeepsBut [.twin .sent, .net (.sess (sessIx w)), .timer (.sessIdle (sessIx w))] s t) ∧
  -- CONFIGURATION_FRAME_RECEIVED: a change set at a standby that has no commit in progress (R391).
  (∀ (set : List (Nat × Nat)) (order : List Nat) (s : State),
      s.up = true →
      s.standby = true →
      s.commitBusy = false →
      Completes (.configurationFrameReceived true (.changeSet set order)) s fun t =>
      t.net.commit.st = .validating ∧ t.net.commit.kind = .peer ∧ t.net.commit.set = set ∧ t.net.commit.order = order ∧ Ends .commitVal 50000000 s t ∧
        KeepsBut [.net .commit, .timer .commitVal] s t) ∧
  -- CONFIGURATION_FRAME_RECEIVED: the standby accepts (R391): application begins.
  (∀ (b : Nat) (rest : List Nat) (s : State),
      s.up = true →
      s.active = true →
      s.twin.awaitPeer = true →
      s.net.commit.st = .validating →
      s.net.commit.todo = b :: rest →
      Completes (.configurationFrameReceived true (.answer true)) s fun t =>
      t.net.commit.st = .applying ∧ t.net.commit.todo = b :: rest ∧ t.twin.awaitPeer = false ∧ Ends .channelWait 100000000 s t ∧ Stopped .peerAnswer t ∧
        KeepsBut [.net .commit, .twin .mayPair, .twin .awaitPeer, .net .shadow, .net .claim, .twin .peerHash, .net .portAll, .twin .st, .twin .invalid,
        .timers] s t) ∧
  -- CONFIGURATION_FRAME_RECEIVED: the standby refuses (R391, R397): the commit is refused with 0x0E0A and the standby is reset.
  (∀ (s : State),
      s.up = true →
      s.active = true →
      s.twin.awaitPeer = true →
      s.net.commit.st = .validating →
      s.net.commit.kind = .user →
      Completes (.configurationFrameReceived true (.answer false)) s fun t =>
      t.net.commit.st = .refused ∧ t.net.commit.code = 0x0E0A ∧ t.twin.sent.head? = some .resetStandby ∧ Raised 0x0D04 noInst [0x0E0A] s t ∧
        t.net.shadow = s.net.shadow ∧ KeepsBut (([.net .commit, .twin .awaitPeer, .net .shadow, .net .claim, .net .portAll, .twin .st, .twin .mayPair,
        .twin .sent, .twin .invalid, .timers] : List Part) ++ Part.raised) s t) ∧
  -- CONFIGURATION_FRAME_RECEIVED: the active chip rolls back (R391).
  (∀ (b : Nat) (l : List Nat) (s : State),
      s.up = true →
      s.standby = true →
      s.net.commit.st = .applying →
      s.net.commit.kind = .peer →
      s.net.commit.rolling = false →
      s.net.commit.applied = b :: l →
      Completes (.configurationFrameReceived true .rollback) s fun t => t.net.commit.rolling = true ∧ t.net.commit.applied = b :: l ∧ Stopped .channelWait t ∧
        KeepsBut [.net .commit, .net .shadow, .net .claim, .net .portAll, .timers] s t) ∧
  -- CONFIGURATION_FRAME_RECEIVED: the active chip stores (R391).
  (∀ (scope : Nat) (s : State),
      s.up = true →
      s.standby = true →
      s.storeBusy = false →
      Completes (.configurationFrameReceived true (.store scope)) s fun t => t.net.storing = some (s.net.storeTarget, s.copyFor scope none, scope, .peer) ∧
        Ends .store 40000000 s t ∧ KeepsBut [.net .storeAll, .net .storing, .timer .store, .twin .sent, .twin .invalid] s t) ∧
  -- CONFIGURATION_FRAME_RECEIVED: the active chip resets the standby (R397).
  (∀ (s : State),
      s.up = true →
      s.standby = true →
      s.rst.supplyOk = true →
      Completes (.configurationFrameReceived true .resetStandby) s fun t => t.rst.cause = causeTwin ∧ t.rst.scope = .warm ∧ t.rst.phase = .step 1 ∧
        t.pending = s.pending ∧ t.mem.user = s.mem.user) ∧
  -- CONFIGURATION_FRAME_RECEIVED: a pushed configuration at a chip of a pair that is not active (R382): stored, committed at boot, recorded.
  (∀ (vals a b : List (Nat × Nat)) (s : State),
      s.up = true →
      s.active = false →
      s.twin.st ≠ .solo →
      Completes (.configurationFrameReceived true (.adopt true vals a b)) s fun t =>
      t.net.store[s.net.storeTarget].isSome = true ∧ t.net.commit.st = .validating ∧ t.net.commit.kind = .boot ∧ t.twin.st = .unpaired ∧
        Raised 0x0E0B noInst [] s t ∧ KeepsBut (([.timer .pairSend, .timer .pairing, .timer .aligned, .timer .mirrorLost, .timer .standbyLost,
        .timer .takeDrive, .timer .peerAnswer, .net .shadow, .net .claim, .net .sessAll, .net .storeAll, .net .portAll, .twin .st, .net .commit,
        .timer .commitVal, .twin .invalid] : List Part) ++ Part.raised) s t) ∧
  -- CONFIGURATION_FRAME_RECEIVED and PAIRING_FRAME_RECEIVED with a failed check (R383): counted.
  (∀ (f : BenutFrame) (s : State),
      s.up = true →
      Completes (.configurationFrameReceived false f) s (fun t => t.twin.invalid = bump s.twin.invalid ∧ KeepsBut [.twin .invalid] s t) ∧
      Completes (.pairingFrameReceived false f) s (fun t => t.twin.invalid = bump s.twin.invalid ∧ KeepsBut [.twin .invalid] s t))

/-- Benut links: delays measured, up and down, and messages by proxy. DELAY_REQUEST at its time on a link that is up, the timebase running, sends the time
of day and times the next in 1 s. DELAY_FRAME_RECEIVED, check good: a request is answered with its time, the arrival and the time of day; a response
gives its link's delay and no other's. BENUT_LINK_UP, the device up, the link down and its port not in reset: the twin link is up, may pair again and
is measured in 1 s; a cascade link is up, counts the cascade proxy's epoch and is measured in 1 s. BENUT_LINK_DOWN makes the link down and stops its
requests. MESSAGE_FRAME_RECEIVED on the twin port of an outbound queue's message: its inbound queue's next slot free, the message is stored there
stamped with its first 56 bytes, SEQ counts and the sender's slot is noted for the acknowledgement; occupied, the slots stand and 0x12 goes back.
MESSAGE_ACK_FRAME_RECEIVED of a message that waits, with its SEQ, and PROXY_TIMEOUT at its time, the sender's epoch unchanged and no peer's message
waiting, acknowledge the slot, with the code received, and with 0x17 or, the link being down, 0x15; the message waits no more. Each clause gives its
conditions; the list after its KeepsBut names every part of the state that may change, and all others stand; a reset's clause says what stays. -/
def Obligations.BenutLinksDelaysAndProxiedMessages : Prop :=
  -- DELAY_REQUEST on an up link (R385).
  (∀ (l : Fin 5) (s : State),
      s.due (.delayReq l) = true →
      s.twin.linkUp.getLsbD l = true →
      s.tbRuns = true →
      Completes (.delayRequest l) s fun t => t.twin.sent.head? = some (.delayReq s.tb.tod) ∧ Ends (.delayReq l) 1000000000 s t ∧
        KeepsBut [.timer (.delayReq l), .twin .sent] s t) ∧
  -- DELAY_FRAME_RECEIVED: a request is answered (R385).
  (∀ (l : Fin 5) (x : Nat) (at_ : Rat) (s : State),
      s.up = true →
      s.tbRuns = true →
      Completes (.delayFrameReceived true l (.delayReq x) at_) s fun t => t.twin.sent.head? = some (.delayResp x at_.floor.toNat s.tb.tod) ∧
        KeepsBut [.twin .sent, .twin .invalid] s t) ∧
  -- DELAY_FRAME_RECEIVED: a response gives the link's delay (R385).
  (∀ (l : Fin 5) (a b c : Nat) (at_ : Rat) (s : State),
      s.up = true →
      Completes (.delayFrameReceived true l (.delayResp a b c) at_) s fun t => t.twin.delay[l] = linkDelay a b c at_ ∧
        (∀ m : Fin 5, m ≠ l → t.twin.delay[m] = s.twin.delay[m]) ∧ KeepsBut [.twin (.delay l), .twin .invalid] s t) ∧
  -- BENUT_LINK_UP of the twin link (R383, R380).
  (∀ (s : State),
      s.up = true →
      s.blkHeld 8 = false →
      s.twin.linkUp.getLsbD 0 = false →
      Completes (.benutLinkUp 0) s fun t => t.twin.linkUp.getLsbD 0 = true ∧ t.twin.mayPair = true ∧ Ends (.delayReq 0) 1000000000 s t ∧
        KeepsBut [.twin .linkUp, .timer (.delayReq 0), .twin .mayPair] s t) ∧
  -- BENUT_LINK_UP of a cascade link (R316, R383): the proxy's epoch counts.
  (∀ (l : Fin 5) (s : State),
      l ≠ 0 →
      s.up = true →
      s.blkHeld (linkBlock l) = false →
      s.twin.linkUp.getLsbD l = false →
      Completes (.benutLinkUp l) s fun t =>
      t.twin.linkUp.getLsbD l = true ∧ t.eng.epoch[10] = s.eng.epoch[10] + 1 ∧ Ends (.delayReq l) 1000000000 s t ∧
        KeepsBut (([.twin .linkUp, .timer (.delayReq l), .eng (.epoch 10), .eng .queueAll, .eng .lockAll, .eng .armAll, .eng .dbAll, .pins .spiIrq,
        .casc .reversed] : List Part) ++ Part.raised) s t) ∧
  -- BENUT_LINK_DOWN (R383).
  (∀ (l : Fin 5) (s : State),
      Completes (.benutLinkDown l) s fun t => t.twin.linkUp.getLsbD l = false ∧ Stopped (.delayReq l) t ∧
        KeepsBut (([.twin .linkUp, .casc .reversed, .timer (.delayReq l)] : List Part) ++ Part.raised) s t) ∧
  -- MESSAGE_FRAME_RECEIVED on the twin port of an outbound queue's message, its inbound queue free (R326).
  (∀ (dst src : Byte) (own : Bool) (q : Nat) (i : Fin 64) (m : MsgSlot) (s : State),
      s.up = true →
      q < 56 →
      inbound q = some i →
      ((s.eng.queue[i]).slot[(s.eng.queue[i]).ptr]).state ≠ 1 →
      Completes (.messageFrameReceived true dst src own q m) s fun t =>
      (t.eng.queue[i]).slot[(s.eng.queue[i]).ptr] = s.stamp i (m.payload.take 56) ∧ (t.eng.queue[i]).seq = (s.eng.queue[i]).seq + 1 ∧
      t.twin.proxyIn.head? = some (i.val, (s.eng.queue[i]).ptr.val, q, m.seq % 16) ∧
        KeepsBut [.eng .queueAll, .eng .dbAll, .pins .spiIrq, .eng .fullIrq, .twin .sent, .twin .proxyOut, .twin .proxyIn, .twin .invalid] s t) ∧
  -- MESSAGE_FRAME_RECEIVED while the inbound queue is full (R326): the receiver is busy.
  (∀ (dst src : Byte) (own : Bool) (q : Nat) (i : Fin 64) (m : MsgSlot) (s : State),
      s.up = true →
      q < 56 →
      inbound q = some i →
      ((s.eng.queue[i]).slot[(s.eng.queue[i]).ptr]).state = 1 →
      Completes (.messageFrameReceived true dst src own q m) s fun t =>
      t.twin.sent.head? = some (.messageAck q (m.seq % 16) m.seq 0x12) ∧ (t.eng.queue[i]).slot = (s.eng.queue[i]).slot ∧
        KeepsBut (([.eng .queueAll, .eng .dbAll, .eng .fullIrq, .twin .sent, .twin .proxyOut, .twin .proxyIn, .twin .invalid,
        .timers] : List Part) ++ Part.raised) s t) ∧
  -- MESSAGE_ACK_FRAME_RECEIVED on the twin port for a message that waits, its sender's epoch unchanged (R320, R326).
  (∀ (dst src : Byte) (own : Bool) (q : Fin 64) (k : Fin 16) (code : Nat) (s : State),
      s.up = true →
      q.val < 56 →
      s.twin.proxyOut.contains (q.val, k.val) = true →
      s.receiver q = 0x20 →
      ((s.eng.queue[q]).slot[k]).state = 1 →
      ((s.eng.queue[q]).slot[k]).sepoch = (s.epochOf (s.sender q)).toNat →
      s.twin.proxyIn = [] →
      Completes (.messageAckFrameReceived true dst src own q k ((s.eng.queue[q]).slot[k]).seq code) s fun t =>
      (t.eng.queue[q]).slot[k] = { (s.eng.queue[q]).slot[k] with state := 2, code := code % 256 } ∧ t.twin.proxyOut.contains (q.val, k.val) = false ∧
        Stopped (.proxy q k) t ∧ KeepsBut [.twin .proxyOut, .eng .queueAll, .eng .orphans, .eng .dbAll, .pins .spiIrq, .twin .proxyIn, .twin .sent,
        .twin .invalid, .timers] s t) ∧
  -- PROXY_TIMEOUT of a message whose sender's epoch is unchanged (R320, R326): 0x17, or 0x15 where the link is down by then.
  (∀ (q : Fin 64) (k : Fin 16) (s : State),
      s.due (.proxy q k) = true →
      s.receiver q = identCode (if q < 56 then 9 else 10) →
      ((s.eng.queue[q]).slot[k]).state = 1 →
      ((s.eng.queue[q]).slot[k]).sepoch = (s.epochOf (s.sender q)).toNat →
      s.twin.proxyIn = [] →
      Completes (.proxyTimeout q k) s fun t =>
      (t.eng.queue[q]).slot[k] = { (s.eng.queue[q]).slot[k] with state := 2, code := if s.proxyUp q then 0x17 else 0x15 } ∧
        t.twin.proxyOut.contains (q.val, k.val) = false ∧ Stopped (.proxy q k) t ∧
        KeepsBut [.twin .proxyOut, .twin .proxyIn, .timer (.proxy q k), .eng (.queue q), .eng .dbAll, .pins .spiIrq, .twin .sent, .eng .orphans,
        .timer (.limit 3074 noInst)] s t)

/-- Twin: mirror and state frames, heartbeats and synchronisation. The device up. MIRROR_FRAME_RECEIVED with its check good, by a standby, takes the
frame: its SEQ, the timing error, each lane's record, to be aligned with at the lane's next trigger, and each loop's setpoint; SEQ of the shelf frame
is one more, the run of valid frames counts up to 16, and the loss is timed at 75 us. With a failed check, by a synchronised standby, 0x0E08 not
recorded within the last second, the standby is unsynchronised, the run ends, an invalid frame is counted and 0x0E08 recorded. STATE_FRAME_RECEIVED
with its check good, by a standby, takes the sequencer's state, groups down and start order, each rail's state and PG, each branch's state, each
pair's feed, the strings' states and the factors, and counts in the run; no setting, setpoint register, memory, engine, reset logic or update state
changes. With a failed check a synchronised standby is unsynchronised, the run ends and an invalid frame is counted. HEARTBEAT_RECEIVED from a standby
in states 5 and 6 by the active chip makes the chip active of a pair, takes SEQ and hash and times the loss at 75 us. TWIN_SYNCHRONISED of an
unsynchronised standby whose second is over and whose conditions hold synchronises it. Each clause gives its conditions; the list after its KeepsBut
names every part of the state that may change, and all others stand; a reset's clause says what stays. -/
def Obligations.TwinMirrorsState : Prop :=
  -- MIRROR_FRAME_RECEIVED by a standby (R388, R389): SEQ, lane records and setpoints are taken and the frame's loss is timed.
  (∀ (f : MirrorFrame) (err : Rat) (s : State),
      s.up = true →
      s.standby = true →
      Completes (.mirrorFrameReceived true f err) s fun t =>
      t.twin.mirror = some f ∧ t.twin.lastSeq = f.seq ∧ t.twin.validRun = satInc 16 s.twin.validRun ∧ t.twin.err = err / 1000000000 ∧
        t.shelf.seq = BitVec.ofNat 16 (f.seq + 1) ∧
      (∀ n : Fin 12, (t.lane[n]).align = some f.lanes[n]) ∧ (∀ l : Fin 8, (t.loop[l]).vSet = f.vSet[l]) ∧ Ends .mirrorLost 75000 s t ∧
      KeepsBut [.tb .tod, .tb .ppsLast, .tb .genAll, .evr .trigAll, .tb .todUnset, .tb .todLoaded, .tb .steering, .tb .slewLeft, .tb .slewOff, .tb .lock,
        .tb .freqOnly, .tb .changes, .tb .phaseStage, .tb .lastChange, .tb .lockRun, .tb .refLock, .tb .holdoverTime, .tb .errBound, .tb .alignTerm,
        .tb .limitRaised, .bat .modelDue, .bat .deferred, .bat (.copies s.bat.target), .bat .writing, .bat .writeData, .timer .learnedWrite,
        .timer .holdoverSec, .twin .err, .twin .alignedSince, .tb .freqCorr, .tb .steerHist, .timer .aligned, .laneAll, .loopAll, .shelf .seq, .shelf .stages,
        .shelf .stageNo, .shelf .rectsAll, .twin .validRun, .twin .lastSeq, .twin .mirror, .timer .mirrorLost, .twin .st] s t) ∧
  -- MIRROR_FRAME_RECEIVED with a failed check by a synchronised standby (R390): it is unsynchronised, and 0x0E08 is recorded once a second.
  (∀ (f : MirrorFrame) (err : Rat) (s : State),
      s.up = true →
      s.twin.st = .standbySync →
      s.running (.limit 0x0E08 noInst) = false →
      Completes (.mirrorFrameReceived false f err) s fun t =>
      t.twin.st = .standbyUnsync ∧ t.twin.validRun = 0 ∧ t.twin.invalid = bump s.twin.invalid ∧ Raised 0x0E08 noInst [] s t ∧
        KeepsBut (([.twin .invalid, .twin .validRun, .twin .st, .timer (.limit 3592 noInst)] : List Part) ++ Part.raised) s t) ∧
  -- STATE_FRAME_RECEIVED by a standby (R388).
  (∀ (f : StateFrame) (s : State),
      s.up = true →
      s.standby = true →
      Completes (.stateFrameReceived true f) s fun t =>
      t.seq.st = f.seqSt ∧ t.seq.groupsDown = f.groups ∧ t.seq.order = f.order ∧ t.dist.str = f.strs ∧ t.thm.f = f.f ∧
        t.twin.validRun = satInc 16 s.twin.validRun ∧
      (∀ r : Fin 32, (t.seq.rail[r]).st = f.rails[r].1 ∧ (t.seq.rail[r]).pg = f.rails[r].2.1) ∧ (∀ k : Fin 16, (t.dist.br[k]).st = f.br[k].1) ∧
        (∀ p : Fin 2, (t.dist.feed[p]).sel = f.feeds[p]) ∧
      t.pending = s.pending ∧ t.now = s.now ∧ t.free = s.free ∧ t.arch = s.arch ∧ t.tb = s.tb ∧ t.meas = s.meas ∧ t.snap = s.snap ∧ t.eng = s.eng ∧
        t.net = s.net ∧ t.casc = s.casc ∧ t.rst = s.rst ∧ t.mem = s.mem ∧ t.evr = s.evr ∧ t.upd = s.upd) ∧
  -- STATE_FRAME_RECEIVED with a failed check by a synchronised standby (R390).
  (∀ (f : StateFrame) (s : State),
      s.up = true →
      s.twin.st = .standbySync →
      Completes (.stateFrameReceived false f) s fun t => t.twin.st = .standbyUnsync ∧ t.twin.validRun = 0 ∧ t.twin.invalid = bump s.twin.invalid ∧
        KeepsBut [.twin .invalid, .twin .validRun, .twin .st] s t) ∧
  -- HEARTBEAT_RECEIVED from a standby by the active chip (R385, R391, R397): paired, and its loss is timed.
  (∀ (seq twin hash : Nat) (s : State),
      s.up = true →
      s.active = true →
      twin = 5 ∨ twin = 6 →
      Completes (.heartbeatReceived true seq twin hash) s fun t => t.twin.st = .activePaired ∧ t.twin.lastSeq = seq ∧ t.twin.peerHash = hash ∧
        Ends .standbyLost 75000 s t ∧ KeepsBut [.twin .st, .twin .peerHash, .twin .peer, .twin .lastSeq, .timer .standbyLost, .twin .invalid] s t) ∧
  -- TWIN_SYNCHRONISED once every condition has held for 1 s (R390).
  (∀ (s : State),
      s.twin.st = .standbyUnsync →
      s.due .aligned = true →
      s.inSync = true →
      Completes .twinSynchronised s fun t => t.twin.st = .standbySync ∧ KeepsBut [.twin .st] s t)

/-- Twin: handover, reset of the standby, token conflict and loss, takeover, and a lost standby. HANDOVER, admitted, on the active chip of a pair with a
synchronised standby gives the token up: standby, unsynchronised, TWIN_ACT_O released, 0x0E03 with reason 0, answered done; without a synchronised
standby it is refused with 0x08000022. RESET_STANDBY, admitted: on the active chip it sends the order and answers done; on the standby, no reset being
released, it begins the warm reset of the twin's cause. TOKEN_CONFLICT at an active chip, room for two records given, releases TWIN_ACT_O, makes it
standby where the hashes are equal and unpaired where not, and records 0x0E07 and 0x0E03 with that reason. MISSED_LAUNCH of the active chip of a pair
after two missed launches makes it unpaired, TWIN_ACT_O released, with 0x0E03. TOKEN_LOSS at a standby makes it active alone, counts the takeover,
asserts TWIN_ACT_O with TWIN_ACT_I low, records 0x0E04 with cause 0 and whether it was unsynchronised, and has its outputs driven 5 us later;
TWIN_HEARTBEAT_LOST at its time does so with cause 1 and 0x0E05, room for two records given. TAKEOVER_DRIVE at its time, on an active chip, ends the
wait, and the outputs are driven. STANDBY_LOST at its time makes the active chip of a pair active alone with 0x0E0C. TWIN_ACT_I_CHANGE that is neither
a conflict at an active chip nor a loss at a standby takes the level. Each clause gives its conditions; the list after its KeepsBut names every part
of the state that may change, and all others stand; a reset's clause says what stays. -/
def Obligations.TwinTokenMovesAndIsTakenOver : Prop :=
  -- HANDOVER with a synchronised standby (R392): the token is given up and this chip is the standby.
  (∀ (w : Session) (d : List Byte) (s : State),
      s.admits w 0x3000 6 d = true →
      s.twin.st = .activePaired →
      s.peerSynced = true →
      Completes (.handover w d) s fun t =>
      Answered w .done t ∧ t.twin.st = .standbyUnsync ∧ t.twin.giveUp = 0 ∧ t.pins.twinActO = false ∧ Raised 0x0E03 noInst [0] s t ∧
        KeepsBut (([.twin .giveUp, .pins .pwmAll, .pins .slDriver, .timer .quenchIgnore, .dist .quenchOut, .dist .quenchIgnore, .pins .gateAll, .pins .pg,
        .pins .twinActO, .shelf .sent, .twin .driveWait, .twin .released, .timer (.pmStretch 0), .pins .pmbusReleased, .net (.pmXfer 0), .timer (.pmStretch 1),
        .net (.pmXfer 1), .timer .pairSend, .timer .pairing, .timer .aligned, .timer .mirrorLost, .timer .standbyLost, .timer .takeDrive, .timer .peerAnswer,
        .twin .st, .twin .validRun, .twin .alignedSince, .twin .mirror, .twin .missed, .twin .sent, .net (.sess (sessIx w)),
        .timer (.sessIdle (sessIx w))] : List Part) ++ Part.raised) s t) ∧
  -- HANDOVER without a synchronised standby (R392).
  (∀ (w : Session) (d : List Byte) (s : State),
      s.admits w 0x3000 6 d = true →
      s.peerSynced = false →
      Completes (.handover w d) s fun t => Answered w (.abort 0x08000022) t ∧
        KeepsBut [.timer .quenchIgnore, .timer (.pmStretch 0), .net (.pmXfer 0), .timer (.pmStretch 1), .net (.pmXfer 1), .timer .pairSend, .timer .pairing,
        .timer .aligned, .timer .mirrorLost, .timer .standbyLost, .timer .takeDrive, .timer .peerAnswer, .net (.sess (sessIx w)),
        .timer (.sessIdle (sessIx w))] s t) ∧
  -- RESET_STANDBY on the active chip (R397): the order goes to the standby.
  (∀ (w : Session) (d : List Byte) (s : State),
      s.admits w 0x3000 8 d = true →
      s.active = true →
      Completes (.resetStandby w d) s fun t => Answered w .done t ∧ t.twin.sent.head? = some .resetStandby ∧
        KeepsBut [.twin .sent, .net (.sess (sessIx w)), .timer (.sessIdle (sessIx w))] s t) ∧
  -- RESET_STANDBY on the standby (R391, R397): its own warm reset.
  (∀ (w : Session) (d : List Byte) (s : State),
      s.admits w 0x3000 8 d = true →
      s.standby = true →
      s.releasing = false →
      s.rst.supplyOk = true →
      Completes (.resetStandby w d) s fun t => t.rst.cause = causeTwin ∧ t.rst.scope = .warm ∧ t.rst.phase = .step 1 ∧ t.pending = s.pending ∧
        t.mem.user = s.mem.user) ∧
  -- TOKEN_CONFLICT at an active chip (R393, R394): standby if the hashes are equal, unpaired otherwise.
  (∀ (s : State),
      s.active = true →
      s.evr.staging.length < 15 →
      Completes .tokenConflict s fun t =>
      t.twin.st = (if s.peerEqual then .standbyUnsync else .unpaired) ∧ t.twin.giveUp = 0x0E07 ∧ t.pins.twinActO = false ∧ Raised 0x0E07 noInst [] s t ∧
        Raised 0x0E03 noInst [0x0E07] s t ∧
      KeepsBut (([.pins .twinActI, .twin .giveUp, .pins .pwmAll, .pins .slDriver, .timer .quenchIgnore, .dist .quenchOut, .dist .quenchIgnore, .pins .gateAll,
        .pins .pg, .pins .twinActO, .shelf .sent, .twin .driveWait, .twin .released, .timer (.pmStretch 0), .pins .pmbusReleased, .net (.pmXfer 0),
        .timer (.pmStretch 1), .net (.pmXfer 1), .timer .pairSend, .timer .pairing, .timer .aligned, .timer .mirrorLost, .timer .standbyLost, .timer .takeDrive,
        .timer .peerAnswer, .twin .st, .twin .validRun, .twin .alignedSince, .twin .mirror, .twin .missed] : List Part) ++ Part.raised) s t) ∧
  -- MISSED_LAUNCH after two missed launches (R393, R394).
  (∀ (s : State),
      s.twin.st = .activePaired →
      2 ≤ s.twin.missed →
      Completes .missedLaunch s fun t => t.twin.st = .unpaired ∧ t.pins.twinActO = false ∧ Raised 0x0E03 noInst [0] s t ∧
        KeepsBut (([.twin .st, .twin .giveUp, .pins .pwmAll, .pins .slDriver, .timer .quenchIgnore, .dist .quenchOut, .dist .quenchIgnore, .pins .gateAll,
        .pins .pg, .pins .twinActO, .shelf .sent, .twin .driveWait, .twin .released, .timer .pairSend, .timer .pairing, .timer .aligned, .timer .mirrorLost,
        .timer .standbyLost, .timer .takeDrive, .timer .peerAnswer] : List Part) ++ Part.raised) s t) ∧
  -- TOKEN_LOSS at a standby (R395, R396): active alone, the outputs 5 µs later.
  (∀ (s : State),
      s.standby = true →
      Completes .tokenLoss s fun t =>
      t.twin.st = .activeAlone ∧ t.twin.takeovers = bump s.twin.takeovers ∧ t.pins.twinActO = true ∧ t.pins.twinActI = false ∧ t.twin.driveWait = true ∧
      Raised 0x0E04 noInst [0, ofBool (decide (s.twin.st = .standbyUnsync))] s t ∧ Ends .takeDrive 5000 s t ∧
        KeepsBut (([.pins .twinActI, .twin .takeovers, .timer .pairSend, .timer .pairing, .timer .aligned, .timer .mirrorLost, .timer .standbyLost,
        .timer .takeDrive, .timer .peerAnswer, .pins .twinActO, .twin .st, .twin .driveWait, .twin .released, .twin .missed, .casc .st, .timer .masterLost,
        .timer .cascAlloc, .tb .lock, .tb .freqOnly, .tb .steering, .tb .changes, .tb .slewLeft, .tb .slewOff, .tb .phaseStage, .tb .lastChange, .tb .lockRun,
        .tb .refLock, .tb .holdoverTime, .tb .errBound, .tb .alignTerm, .tb .limitRaised, .bat .deferred, .bat .modelDue, .bat (.copies s.bat.target),
        .bat .writing, .bat .writeData, .timer .learnedWrite, .timer .holdoverSec] : List Part) ++ Part.raised) s t) ∧
  -- TWIN_HEARTBEAT_LOST at a standby (R395, R396).
  (∀ (s : State),
      s.standby = true →
      s.due .mirrorLost = true →
      s.evr.staging.length < 15 →
      Completes .twinHeartbeatLost s fun t =>
      t.twin.st = .activeAlone ∧ t.twin.takeovers = bump s.twin.takeovers ∧ t.pins.twinActO = true ∧ Raised 0x0E05 noInst [] s t ∧
      Raised 0x0E04 noInst [1, ofBool (decide (s.twin.st = .standbyUnsync))] s t ∧ Ends .takeDrive 5000 s t ∧
        KeepsBut (([.twin .takeovers, .timer .pairSend, .timer .pairing, .timer .aligned, .timer .mirrorLost, .timer .standbyLost, .timer .takeDrive,
        .timer .peerAnswer, .pins .twinActO, .twin .st, .twin .driveWait, .twin .released, .twin .missed, .casc .st, .timer .masterLost, .timer .cascAlloc,
        .tb .lock, .tb .freqOnly, .tb .steering, .tb .changes, .tb .slewLeft, .tb .slewOff, .tb .phaseStage, .tb .lastChange, .tb .lockRun, .tb .refLock,
        .tb .holdoverTime, .tb .errBound, .tb .alignTerm, .tb .limitRaised, .bat .deferred, .bat .modelDue, .bat (.copies s.bat.target), .bat .writing,
        .bat .writeData, .timer .learnedWrite, .timer .holdoverSec] : List Part) ++ Part.raised) s t) ∧
  -- TAKEOVER_DRIVE 5 µs after the token (R62, R396): the outputs are driven as the tracked states require.
  (∀ (s : State),
      s.active = true →
      s.due .takeDrive = true →
      Completes .takeoverDrive s fun t => t.twin.driveWait = false ∧ Stopped .takeDrive t ∧
        KeepsBut [.pins .gpioOut, .pins .gpioDir, .pins .gateAll, .dist .feedAll, .dist .brAll, .twin .driveWait, .pins .pg, .dist .quenchOut,
        .dist .quenchIgnore, .timers] s t) ∧
  -- STANDBY_LOST (R397).
  (∀ (s : State),
      s.twin.st = .activePaired →
      s.due .standbyLost = true →
      Completes .standbyLost s fun t => t.twin.st = .activeAlone ∧ Raised 0x0E0C noInst [] s t ∧ Stopped .standbyLost t ∧
        KeepsBut (([.timer .standbyLost, .twin .st] : List Part) ++ Part.raised) s t) ∧
  -- TWIN_ACT_I_CHANGE that is neither a conflict nor a loss (R61, R62).
  (∀ (level : Bool) (s : State),
      s.active = false ∨ level = false →
      s.standby = false ∨ level = true →
      Completes (.twinActIChange level) s fun t => t.pins.twinActI = level ∧ KeepsBut [.pins .gateAll, .pins .pg, .pins .twinActI, .twin .released] s t)

/-- The cascade: time frames, position reports and allocation. CASCADE_TIME_LAUNCH at a whole millisecond of a running timebase, in the ring, by a chip
that speaks and is the master or a member in mode 4 that has taken a time frame, sends the time of day and ends the relay. CASCADE_TIME_RECEIVED by a
member that follows the cascade, for it and from another position, its check good, takes the arrival less the link's delay and the sent time as its
error, relays, is qualified and times the loss at 10 ms. CASC_TIME_LOST at its time ends the qualification, the run and the relay with 0x0E15.
POSITION_REPORT_SEND at its time, in the ring, of a chip that speaks: a member sends its report, the master enters its own power wanted and most in
its tables with the instant, and both time the next in 100 ms. POSITION_REPORT_RECEIVED by the master that speaks, for it and from another position,
enters the four values for that position. ALLOCATION_PERIOD of the master at its time counts the number, allocates by R403 among the reporting
positions, keeps its own for the next frame boundary, sends all with the number and times the next; of a demoted master it makes it a member that
watches for its master 1 s. ALLOCATION_RECEIVED, for this chip and from another position: of its master's by a member or frozen member it takes number
and its own allocation for the next boundary, is a member and watches 1 s; by the master by strap it is demoted at its next period, the sender its
master and its number standing. Each clause gives its conditions; the list after its KeepsBut names every part of the state that may change, and all
others stand; a reset's clause says what stays. -/
def Obligations.CascadeTimeReportsAndAllocation : Prop :=
  -- CASCADE_TIME_LAUNCH at a whole millisecond, by the master or by a member that has taken a time frame (R401).
  (∀ (s : State),
      s.tbRuns = true →
      s.inRing = true →
      s.speaks = true →
      s.tb.tod % 1000000 = 0 →
      s.isMaster = true ∨ (s.raw 0x2100 1 = 4 ∧ s.casc.relay = true) →
      Completes .cascadeTimeLaunch s fun t => t.twin.sent.head? = some (.cascTime s.tb.tod) ∧ t.casc.relay = false ∧ KeepsBut [.casc .relay, .twin .sent] s t) ∧
  -- CASCADE_TIME_RECEIVED by a member that follows the cascade (R401): the error by the link's delay is taken and the loss timer runs again.
  (∀ (dst src : Byte) (tod : Nat) (arrival : Rat) (s : State),
      s.up = true →
      s.casc.st = .member →
      s.forMe dst = true →
      srcPos src ≠ s.pins.cascPos.val →
      s.raw 0x2100 1 = 4 →
      s.tbRuns = true →
      s.steersItself = true →
      Completes (.cascadeTimeReceived true dst src false false tod arrival) s fun t =>
      t.casc.err = (arrival - s.twin.delay[1] * 1000000000 - (tod : Nat)) / 1000000000 ∧ t.casc.relay = true ∧ t.tb.cascOk = true ∧
        Ends .cascTimeLost 10000000 s t ∧ KeepsBut (([.casc .forwarded, .timer .cascAlloc, .timer .masterLost, .timer .cascReport, .tb .cascOk, .casc .st,
        .casc .master, .casc .lockRun, .casc .err, .casc .relay, .timer .cascTimeLost, .tb .steering, .tb .slewLeft, .tb .slewOff, .tb .lock, .tb .freqOnly,
        .tb .changes, .tb .phaseStage, .tb .lastChange, .tb .lockRun, .tb .refLock, .timer .holdoverSec, .tb .stepPending, .tb .slewEnd, .tb .freqCorr,
        .tb .steerHist] : List Part) ++ Part.raised) s t) ∧
  -- CASC_TIME_LOST (R401).
  (∀ (s : State),
      s.due .cascTimeLost = true →
      Completes .cascTimeLost s fun t => t.tb.cascOk = false ∧ t.casc.lockRun = 0 ∧ t.casc.relay = false ∧ Raised 0x0E15 noInst [] s t ∧
        Stopped .cascTimeLost t ∧ KeepsBut (([.timer .cascTimeLost, .tb .cascOk, .casc .lockRun, .casc .relay, .tb .lock, .tb .freqOnly, .tb .steering,
        .tb .changes, .tb .slewLeft, .tb .slewOff, .tb .phaseStage, .tb .lastChange, .tb .lockRun, .tb .refLock, .timer .holdoverSec, .tb .holdoverTime,
        .tb .errBound, .tb .alignTerm, .tb .limitRaised, .bat .deferred, .bat .modelDue, .bat (.copies s.bat.target), .bat .writing, .bat .writeData,
        .timer .learnedWrite] : List Part) ++ Part.raised) s t) ∧
  -- POSITION_REPORT_SEND by a member (R402).
  (∀ (s : State),
      s.due .cascReport = true →
      s.inRing = true →
      s.speaks = true →
      s.isMaster = false →
      Completes .positionReportSend s fun t => t.twin.sent.head? = some (.report s.pins.cascPos s.powerWanted s.powerMax s.chargeAbove s.shelfSoc s.reportFlags) ∧ Ends .cascReport 100000000 s t ∧ KeepsBut [.timer .cascReport, .twin .sent] s t) ∧
  -- POSITION_REPORT_SEND by the master (R402): its own report enters its tables.
  (∀ (s : State),
      s.due .cascReport = true →
      s.inRing = true →
      s.speaks = true →
      s.isMaster = true →
      Completes .positionReportSend s fun t => t.casc.pReq[s.pins.cascPos] = s.powerWanted ∧ t.casc.pMax[s.pins.cascPos] = s.powerMax ∧
        t.casc.reportAt[s.pins.cascPos] = some s.now ∧ Ends .cascReport 100000000 s t ∧
        KeepsBut [.timer .cascReport, .casc (.pReq s.pins.cascPos), .casc (.pMax s.pins.cascPos), .casc (.w s.pins.cascPos), .casc (.soc s.pins.cascPos),
        .casc (.reportAt s.pins.cascPos)] s t) ∧
  -- POSITION_REPORT_RECEIVED by the master (R402).
  (∀ (dst src : Byte) (a b c e : Nat) (s : State),
      s.up = true →
      s.isMaster = true →
      s.speaks = true →
      s.forMe dst = true →
      srcPos src ≠ s.pins.cascPos.val →
      Completes (.positionReportReceived true dst src false a b c e) s fun t =>
      t.casc.pReq[(⟨srcPos src % 8, by omega⟩ : Fin 8)] = (real32 a).getD 0 ∧ t.casc.pMax[(⟨srcPos src % 8, by omega⟩ : Fin 8)] = (real32 b).getD 0 ∧
        t.casc.w[(⟨srcPos src % 8, by omega⟩ : Fin 8)] = (real32 c).getD 0 ∧ t.casc.soc[(⟨srcPos src % 8, by omega⟩ : Fin 8)] = (real32 e).getD 0 ∧
        KeepsBut [.casc .forwarded, .casc .st, .casc .master, .casc .pReqAll, .casc .pMaxAll, .casc .wAll, .casc .socAll, .casc .reportAtAll] s t) ∧
  -- ALLOCATION_PERIOD of the master (R403, R404): every reporting position's allocation, and the next number.
  (∀ (s : State),
      s.due .cascAlloc = true →
      s.isMaster = true →
      s.casc.demote = false →
      Completes .allocationPeriod s fun t =>
      t.casc.number = s.casc.number + 1 ∧ t.casc.allocNext = some t.casc.allocs[s.pins.cascPos] ∧
        t.twin.sent.head? = some (.allocation t.casc.allocs (s.casc.number + 1)) ∧
      t.casc.allocs = (allocations (s.real 0x3010 3) (fun m => s.casc.pReq[m]) (fun m => s.casc.pMax[m]) (fun m => s.casc.w[m]) s.reporting).foldl (fun (v : Vector Rat 8) x => v.set x.1 x.2) s.casc.allocs ∧
      Ends .cascAlloc (s.ns 0x3010 0x0A) s t ∧ KeepsBut [.timer .cascAlloc, .casc .allocNext, .casc .number, .casc .allocsAll, .twin .sent] s t) ∧
  -- ALLOCATION_PERIOD of a master that has received another's announcement (R405): a member.
  (∀ (s : State),
      s.due .cascAlloc = true →
      s.isMaster = true →
      s.casc.demote = true →
      Completes .allocationPeriod s fun t => t.casc.st = .member ∧ t.casc.demote = false ∧ Stopped .cascAlloc t ∧ Ends .masterLost 1000000000 s t ∧
        KeepsBut [.casc .st, .casc .demote, .timer .cascAlloc, .timer .masterLost] s t) ∧
  -- ALLOCATION_RECEIVED by a member from its master (R404, R405).
  (∀ (dst src : Byte) (l : List Nat) (n : Nat) (s : State),
      s.up = true →
      s.casc.st = .member ∨ s.casc.st = .frozen →
      s.forMe dst = true →
      srcPos src ≠ s.pins.cascPos.val →
      s.casc.master = srcPos src →
      Completes (.allocationReceived true dst src false l n) s fun t =>
      t.casc.number = n ∧ t.casc.allocNext = some ((real32 (l.getD s.pins.cascPos.val 0)).getD 0) ∧ t.casc.st = .member ∧ Ends .masterLost 1000000000 s t ∧
        KeepsBut [.casc .forwarded, .timer .cascAlloc, .timer .masterLost, .timer .cascReport, .casc .st, .casc .master, .casc .demote, .casc .allocNext,
        .casc .number] s t) ∧
  -- ALLOCATION_RECEIVED by the master by strap, from another position (R405): it becomes a member at its next period.
  (∀ (dst src : Byte) (l : List Nat) (n : Nat) (s : State),
      s.up = true →
      s.casc.st = .master →
      s.forMe dst = true →
      srcPos src ≠ s.pins.cascPos.val →
      Completes (.allocationReceived true dst src false l n) s fun t =>
      t.casc.demote = true ∧ t.casc.master = srcPos src ∧ t.casc.st = .master ∧ t.casc.number = s.casc.number ∧
        KeepsBut [.casc .forwarded, .casc .st, .casc .master, .casc .demote, .casc .allocNext, .casc .number] s t)

/-- The cascade: loss of the master, promotion, announcements, forwarding and duplicates. MASTER_LOST at its time freezes a member with 0x0E12. PROMOTE,
admitted, of a frozen member makes it the promoted master at its own position, announces the promotion, records 0x0E13, times the allocation and
answers done; where R405 refuses it the answer is 0x08000111. MASTER_ANNOUNCEMENT_RECEIVED, for this chip and from another position, its check good:
of a promotion, by a member or frozen member, it makes the sender its master, watched for 1 s, the chip a member; by the master it keeps its state,
takes the sender as master and is demoted at its next period. A frame not for this chip, here MASTER_ANNOUNCEMENT_RECEIVED and ALLOCATION_RECEIVED, of
a chip in the cascade, is counted as forwarded and changes nothing else. ALLOCATION_RECEIVED for this chip from its own position, which it did not
send, makes it leave the ring as a duplicate: no master, no cascade time, no allocation or watch timed, with 0x0E14. Each clause gives its conditions;
the list after its KeepsBut names every part of the state that may change, and all others stand; a reset's clause says what stays. -/
def Obligations.CascadeMasterAndRing : Prop :=
  -- MASTER_LOST at a member (R405): frozen.
  (∀ (s : State),
      s.due .masterLost = true →
      s.casc.st = .member →
      Completes .masterLost s fun t => t.casc.st = .frozen ∧ Raised 0x0E12 noInst [] s t ∧ Stopped .masterLost t ∧
        KeepsBut (([.timer .masterLost, .casc .st] : List Part) ++ Part.raised) s t) ∧
  -- PROMOTE of a frozen member (R405).
  (∀ (w : Session) (d : List Byte) (s : State),
      s.admits w 0x3010 6 d = true →
      s.casc.st = .frozen →
      Completes (.promote w d) s fun t =>
      Answered w .done t ∧ t.casc.st = .promoted ∧ t.casc.master = s.pins.cascPos.val ∧ t.twin.sent.head? = some (.announcement s.pins.cascPos.val true) ∧
        Raised 0x0E13 noInst [] s t ∧
      Stopped .masterLost t ∧ Ends .cascAlloc (s.ns 0x3010 0x0A) s t ∧
        KeepsBut (([.casc .st, .casc .master, .casc .demote, .twin .sent, .timer .masterLost, .timer .cascAlloc, .net (.sess (sessIx w)),
        .timer (.sessIdle (sessIx w))] : List Part) ++ Part.raised) s t) ∧
  -- PROMOTE of a member that R405 refuses (R405).
  (∀ (w : Session) (d : List Byte) (s : State),
      s.admits w 0x3010 6 d = true →
      s.promotionRefused = true →
      Completes (.promote w d) s fun t => Answered w (.abort 0x08000111) t ∧
        KeepsBut [.timer .masterLost, .timer .cascAlloc, .net (.sess (sessIx w)), .timer (.sessIdle (sessIx w))] s t) ∧
  -- MASTER_ANNOUNCEMENT_RECEIVED by a member, of a promotion (R405).
  (∀ (dst src : Byte) (s : State),
      s.up = true →
      s.casc.st = .member ∨ s.casc.st = .frozen →
      s.forMe dst = true →
      srcPos src ≠ s.pins.cascPos.val →
      Completes (.masterAnnouncementReceived true dst src false true) s fun t => t.casc.master = srcPos src ∧ t.casc.st = .member ∧
        Ends .masterLost 1000000000 s t ∧ KeepsBut [.casc .forwarded, .timer .cascAlloc, .timer .masterLost, .timer .cascReport, .casc .st, .casc .master,
        .casc .demote] s t) ∧
  -- MASTER_ANNOUNCEMENT_RECEIVED by the master (R405): it becomes a member at its next period.
  (∀ (dst src : Byte) (promotion : Bool) (s : State),
      s.up = true →
      s.isMaster = true →
      s.forMe dst = true →
      srcPos src ≠ s.pins.cascPos.val →
      Completes (.masterAnnouncementReceived true dst src false promotion) s fun t => t.casc.master = srcPos src ∧ t.casc.demote = true ∧ t.casc.st = s.casc.st ∧
        KeepsBut [.casc .forwarded, .casc .st, .casc .master, .casc .demote] s t) ∧
  -- A cascade frame for another chip (R400): forwarded and counted; here MASTER_ANNOUNCEMENT_RECEIVED and ALLOCATION_RECEIVED.
  (∀ (dst src : Byte) (own promotion : Bool) (l : List Nat) (n : Nat) (s : State),
      s.up = true →
      s.casc.st ≠ .off →
      s.forMe dst = false →
      Completes (.masterAnnouncementReceived true dst src own promotion) s (fun t => t.casc.forwarded = bump s.casc.forwarded ∧
        KeepsBut [.casc .forwarded, .casc .st, .casc .master, .casc .demote] s t) ∧
      Completes (.allocationReceived true dst src own l n) s (fun t => t.casc.forwarded = bump s.casc.forwarded ∧
        KeepsBut [.casc .forwarded, .casc .st, .casc .master, .casc .demote, .casc .allocNext, .casc .number] s t)) ∧
  -- A cascade frame from this chip's own position that it did not send (R399): it leaves the ring.
  (∀ (dst src : Byte) (l : List Nat) (n : Nat) (s : State),
      s.up = true →
      s.inRing = true →
      s.forMe dst = true →
      srcPos src = s.pins.cascPos.val →
      Completes (.allocationReceived true dst src false l n) s fun t =>
      t.casc.st = .duplicate ∧ t.casc.master = 0xFF ∧ t.tb.cascOk = false ∧ Raised 0x0E14 noInst [] s t ∧ Stopped .cascAlloc t ∧ Stopped .masterLost t ∧
        KeepsBut (([.casc .forwarded, .timer .cascAlloc, .timer .masterLost, .timer .cascReport, .tb .cascOk, .casc .st, .casc .master, .casc .demote,
        .casc .allocNext, .casc .number] : List Part) ++ Part.raised) s t)

/-- Reset sources: cause, scope and step 1; what a cold and a warm reset keep. POWER_ON_RESET holds the device, its supplies not good, the pins as of an
unpowered device: gates high-impedance, PG high; both counts are 0 and the cause that of a power-on; no setting is in force and nothing is committed;
the user area, stored configuration and lifecycle state stand. SUPPLY_BROWN_OUT, no reset being released, holds it with the supply's cause alone,
cold, the cold count one more, the time of day 0, no setting in force, user area and stored configuration standing. SUPPLY_POWER_ON, the supplies not
good before, puts gates and PG in their cold-reset states and begins step 1 with its wait of 200 us and its bound. With good supplies: VCORE_BROWN_OUT
of a released device, and SOFTWARE_RESET_COLD by the register, no reset being released and no non-volatile write in progress, begin step 1 of a cold
reset with their cause; RST_N_LOW in solo operation, and SOFTWARE_RESET_WARM by register and by an admitted write, no reset being released, that of a
warm one, the register's and the pin's counted. The pin's keeps time of day, lock, lockout, quench latches, system on, records, user area and stored
configuration, holds every branch gate at its level, and counts E0's epoch and not the host's. During the release of a cold reset RST_N_LOW adds its
cause, MULTIPLE set, and begins the cold reset again. RESET_ESCALATED at its time begins a cold reset, adds its cause to one being released and owes
0x0F0A. SOFTWARE_RESET_COLD by an admitted write during a non-volatile write is refused with 0x08000022. The cold ones set the time of day to 0 and
leave the user area; all leave queue and instant. Each clause gives its conditions; the list after its KeepsBut names every part of the state that may
change, and all others stand; a reset's clause says what stays. -/
def Obligations.ResetSourcesGiveCauseAndScope : Prop :=
  -- POWER_ON_RESET (R56, R409, R424): held and taken as unpowered, the counts start again, the non-volatile memory stands.
  (∀ (s : State),
      Completes .powerOnReset s fun t =>
      t.rst.phase = .held ∧ t.rst.supplyOk = false ∧ t.rst.warmCount = 0 ∧ t.rst.coldCount = 0 ∧ t.rst.cause = ({} : Rst).cause ∧ t.mem.user = s.mem.user ∧
        t.net.store = s.net.store ∧
      t.upd.life = s.upd.life ∧ t.net.force = [] ∧ t.seq.committed = false ∧
      t.pins.gate = Vector.replicate 24 .highZ ∧ t.pins.pg = 0xFF ∧ t.pending = s.pending ∧ t.now = s.now) ∧
  -- SUPPLY_BROWN_OUT, no reset being released (R70, R409): the cold reset is held.
  (∀ (s : State),
      s.releasing = false →
      Completes .supplyBrownOut s fun t =>
      t.rst.cause = causeSupply ∧ t.rst.multiple = false ∧ t.rst.scope = .cold ∧ t.rst.phase = .held ∧ t.rst.coldCount = satInc 255 s.rst.coldCount ∧
        t.tb.tod = 0 ∧ t.mem.user = s.mem.user ∧
      t.net.store = s.net.store ∧ t.net.force = [] ∧ t.pending = s.pending ∧ t.now = s.now) ∧
  -- SUPPLY_POWER_ON (R56, R70, R415): the pins take their cold-reset states and step 1's wait begins.
  (∀ (s : State),
      s.rst.supplyOk = false →
      Completes .supplyPowerOn s fun t => t.rst.supplyOk = true ∧ t.rst.phase = .step 1 ∧ Ends .supplyWait 200000 s t ∧ Ends .stepBound coldStart s t ∧
        t.pins = { s.pins with gate := Vector.replicate 24 .resetSink, pg := 0 } ∧
        KeepsBut [.pins .gateAll, .pins .pg, .rst .phase, .rst .supplyOk, .timer .supplyWait, .timer .stepBound] s t) ∧
  -- VCORE_BROWN_OUT of a released device (R409).
  (∀ (s : State),
      s.rst.phase = .released ∨ s.rst.phase = .recovery →
      s.rst.supplyOk = true →
      Completes .vcoreBrownOut s fun t => t.rst.cause = causeVcore ∧ t.rst.scope = .cold ∧ t.rst.phase = .step 1 ∧ t.tb.tod = 0 ∧ t.mem.user = s.mem.user ∧
        t.net.store = s.net.store ∧ t.pending = s.pending ∧ t.now = s.now) ∧
  -- RST_N_LOW, no reset being released, in solo operation (R409, R410): the warm reset keeps the always-on domain, the holds take the outputs'
  -- levels.
  (∀ (s : State),
      s.releasing = false →
      s.rst.supplyOk = true →
      s.pins.twinPar = false →
      Completes .rstNLow s fun t =>
      t.rst.cause = causePin ∧ t.rst.warm = true ∧ t.rst.scope = .warm ∧ t.rst.phase = .step 1 ∧ t.rst.warmCount = s.rst.warmCount + 1 ∧
        t.rst.coldCount = s.rst.coldCount ∧
      t.tb.tod = s.tb.tod ∧ t.tb.lock = s.tb.lock ∧ t.thm.lockout = s.thm.lockout ∧ t.dist.quench = s.dist.quench ∧ t.seq.sysOn = s.seq.sysOn ∧
        t.pins.brHeld = s.gatesHigh.extractLsb' 0 16 ∧ t.pins.brHold = 0xFFFF ∧
      t.mem.user = s.mem.user ∧ t.net.store = s.net.store ∧ t.evr.recs = s.evr.recs ∧ t.eng.epoch[1] = s.eng.epoch[1] + 1 ∧ t.eng.epoch[0] = s.eng.epoch[0] ∧
        t.pending = s.pending ∧ t.now = s.now) ∧
  -- RST_N_LOW during the release of another reset (R412): the causes accumulate and the wider scope holds.
  (∀ (s : State),
      s.releasing = true →
      s.rst.supplyOk = true →
      s.rst.scope = .cold →
      Completes .rstNLow s fun t =>
      t.rst.cause = s.rst.cause ||| causePin ∧ t.rst.multiple = true ∧ t.rst.scope = .cold ∧ t.rst.phase = .step 1 ∧ t.tb.tod = 0 ∧ t.mem.user = s.mem.user ∧
        t.pending = s.pending ∧ t.now = s.now) ∧
  -- RESET_ESCALATED, the warm reset's release in progress (R409, R412): cold, with 0x0F0A owed.
  (∀ (s : State),
      s.due .rstEscalate = true →
      s.rst.supplyOk = true →
      Completes .resetEscalated s fun t =>
      t.rst.scope = .cold ∧ t.rst.phase = .step 1 ∧ t.rst.cause = (if s.releasing then s.rst.cause ||| causePinEsc else causePinEsc) ∧
        (0x0F0A, []) ∈ t.rst.owed ∧ t.mem.user = s.mem.user ∧ t.pending = s.pending ∧ t.now = s.now) ∧
  -- SOFTWARE_RESET_WARM by the register (R425).
  (∀ (s : State),
      s.hostUp = true →
      s.releasing = false →
      s.rst.supplyOk = true →
      Completes (.softwareResetWarm .reg) s fun t => t.rst.cause = causeSw ∧ t.rst.scope = .warm ∧ t.rst.phase = .step 1 ∧
        t.rst.warmCount = s.rst.warmCount + 1 ∧ t.mem.user = s.mem.user ∧ t.pending = s.pending ∧ t.now = s.now) ∧
  -- SOFTWARE_RESET_WARM by the dictionary (R426).
  (∀ (w : Session) (s : State),
      s.admits w 0x5F20 2 (leBytes 4 sigWarm) = true →
      s.releasing = false →
      s.rst.supplyOk = true →
      Completes (.softwareResetWarm (.dict w)) s fun t => t.rst.cause = causeSw ∧ t.rst.scope = .warm ∧ t.rst.phase = .step 1 ∧ t.mem.user = s.mem.user ∧
        t.pending = s.pending ∧ t.now = s.now) ∧
  -- SOFTWARE_RESET_COLD by the register, with no non-volatile write in progress (R425, R426).
  (∀ (s : State),
      s.hostUp = true →
      s.releasing = false →
      s.rst.supplyOk = true →
      s.coldRefused = false →
      Completes (.softwareResetCold .reg) s fun t => t.rst.cause = causeSw ∧ t.rst.scope = .cold ∧ t.rst.phase = .step 1 ∧ t.tb.tod = 0 ∧
        t.mem.user = s.mem.user ∧ t.net.store = s.net.store ∧ t.pending = s.pending ∧ t.now = s.now) ∧
  -- SOFTWARE_RESET_COLD by the dictionary during a non-volatile write (R426): refused.
  (∀ (w : Session) (s : State),
      s.admits w 0x5F20 2 (leBytes 4 sigCold) = true →
      s.coldRefused = true →
      Completes (.softwareResetCold (.dict w)) s fun t => Answered w (.abort 0x08000022) t ∧
        KeepsBut [.net (.sess (sessIx w)), .timer (.sessIdle (sessIx w))] s t)

/-- Block resets, the parity sweep, and the steps of the release and their stall. BLOCK_RESET_REQUEST by the register, the host port up, of a block that
is in none, adds it, not asserted, with its time to report idle. BLOCK_RESET_ASSERT of a requested block that reports idle or whose time is over
asserts its reset, forced where it did not report idle; memory, update, sequencer and thermal state stand; of the measurement block every channel is
not READY, REF_FAIL is clear and the hold is 1 us. BLOCK_RESET_RELEASE after the hold ends the block's reset, keeps block and forced as the last, and
has 0x0F04 for a forced one and 0x0F03 otherwise recorded with the block where staging has room; memory stands. PARITY_SWEEP that finds a bad
register, no reset being released, begins the warm reset of its cause and owes 0x0F08 with the block; one that finds none changes nothing.
RELEASE_STEP_DONE: of step 1 of a cold reset, its wait over, it latches pairing, cascade position and unsteady straps by majority of the three
readings, a pair's chip being unpaired, and begins step 2; of steps 2, 7 and 8, with the next step; of step 9, in solo operation without a trial, it
releases the device, keeps the time, owes 0x0F01 or 0x0F02 with the causes, and starts the scan's 5 ms and the system watchdog. RELEASE_STALL of a
step but step 5, past its bound, begins the reset again in its scope with the stall's cause added, keeps the step, counts the stall and owes 0x0F0B
with the step. Each clause gives its conditions; the list after its KeepsBut names every part of the state that may change, and all others stand; a
reset's clause says what stays. -/
def Obligations.BlockResetsAndReleaseSteps : Prop :=
  -- BLOCK_RESET_REQUEST by SYS_BLKRST of a block that is in none (R420).
  (∀ (b : Byte) (s : State),
      s.hostUp = true →
      blockCode b.toNat = true →
      ((s.rst.blk.any fun x => x.code = b.toNat) = false) →
      Completes (.blockResetRequest .reg [b]) s fun t => t.rst.blk = { code := b.toNat } :: s.rst.blk ∧ Ends (.blkIdle b.toNat) (s.ns 0x5F20 4) s t ∧
        KeepsBut [.rst .blk, .timers] s t) ∧
  -- BLOCK_RESET_ASSERT of a block that reports idle (R420): asserted for 1 µs.
  (∀ (b : Nat) (idle : Bool) (x : BlkReset) (s : State),
      (s.rst.blk.find? (fun x => x.code = b) = some x) →
      x.asserted = false →
      idle = true ∨ s.due (.blkIdle b) = true →
      Completes (.blockResetAssert b idle) s fun t =>
      (∃ y ∈ t.rst.blk, y.code = b ∧ y.asserted = true ∧ y.forced = !idle) ∧ t.mem = s.mem ∧ t.pending = s.pending ∧ t.now = s.now ∧ t.upd = s.upd ∧
        t.seq = s.seq ∧ t.thm = s.thm) ∧
  -- BLOCK_RESET_ASSERT of the measurement block (R120, R419): no channel is READY.
  (∀ (idle : Bool) (x : BlkReset) (s : State),
      (s.rst.blk.find? (fun x => x.code = 1) = some x) →
      x.asserted = false →
      idle = true ∨ s.due (.blkIdle 1) = true →
      Completes (.blockResetAssert 1 idle) s fun t =>
      (∀ k : Fin 48, (t.meas.ch[k]).notReady = true) ∧ t.meas.refFail = false ∧ Ends (.blkHold 1) 1000 s t ∧
        KeepsBut [.bat .strAll, .rst .blk, .timer (.blkIdle 1), .timer (.blkHold 1), .meas .chAll, .meas .slotsAll, .meas .refFails, .meas .refFail] s t) ∧
  -- BLOCK_RESET_RELEASE after the hold of 1 µs (R420).
  (∀ (b : Nat) (x : BlkReset) (s : State),
      (s.rst.blk.find? (fun x => x.code = b) = some x) →
      x.asserted = true →
      s.due (.blkHold b) = true →
      Completes (.blockResetRelease b) s fun t =>
      (∀ y ∈ t.rst.blk, y.code ≠ b) ∧ t.rst.blkLast = b ∧ t.rst.blkForced = x.forced ∧
        (s.evr.staging.length < 12 → ∃ r ∈ t.evr.staging, r.code = (if x.forced then 0x0F04 else 0x0F03) ∧ r.vals = [b]) ∧ t.mem = s.mem ∧
        t.pending = s.pending ∧ t.now = s.now) ∧
  -- PARITY_SWEEP that finds a bad parity, no reset being released (R411).
  (∀ (b : Nat) (s : State),
      s.releasing = false →
      s.rst.supplyOk = true →
      Completes (.paritySweep (some b)) s fun t => t.rst.cause = causeParity ∧ t.rst.scope = .warm ∧ t.rst.phase = .step 1 ∧ (0x0F08, [b]) ∈ t.rst.owed ∧
        t.mem.user = s.mem.user ∧ t.pending = s.pending ∧ t.now = s.now) ∧
  -- PARITY_SWEEP that finds none (R411).
  (∀ (s : State),
      Completes (.paritySweep none) s fun t => KeepsBut [] s t) ∧
  -- RELEASE_STEP_DONE of step 1 of a cold reset, the wait over (R52, R415): the straps are latched by majority.
  (∀ (a b c : BitVec 7) (s : State),
      s.rst.phase = .step 1 →
      s.rst.scope = .cold →
      s.running .supplyWait = false ∨ s.due .supplyWait = true →
      Completes (.releaseStepDone a b c) s fun t =>
      t.rst.phase = .step 2 ∧ t.pins.twinPar = (majority a b c).getLsbD 6 ∧ t.pins.cascPos = ((majority a b c).extractLsb' 0 3).toFin ∧
        t.pins.unstable = unstableBits a b c &&& 0x77 ∧
      t.twin.st = (if (majority a b c).getLsbD 6 then .unpaired else .solo) ∧
        KeepsBut [.timer .supplyWait, .pins .cascPos, .pins .slAddr, .pins .twinPar, .pins .unstable, .twin .st, .rst .owed, .rst .phase,
        .timer .stepBound] s t) ∧
  -- RELEASE_STEP_DONE of the steps between (R415).
  (∀ (a b c : BitVec 7) (n : Nat) (s : State),
      s.rst.phase = .step n →
      n = 2 ∨ n = 7 ∨ n = 8 →
      Completes (.releaseStepDone a b c) s fun t => t.rst.phase = .step (n + 1) ∧
        KeepsBut [.rst .phase, .rst .owed, .rst .trimFailed, .rst .canARom, .rst .lastRelease, .timers] s t) ∧
  -- RELEASE_STEP_DONE of step 9 in solo operation (R415): released; the reset's record is owed.
  (∀ (a b c : BitVec 7) (s : State),
      s.rst.phase = .step 9 →
      s.pins.twinPar = false →
      s.upd.phase = .none →
      Completes (.releaseStepDone a b c) s fun t =>
      t.rst.phase = .released ∧ t.rst.lastRelease = s.tb.tod ∧ ((if s.rst.scope = .cold then 0x0F01 else 0x0F02), [s.rst.causeWord]) ∈ t.rst.owed ∧
        Ends .scan 5000000 s t ∧ Ends .sysWdog (s.ns 0x3800 1) s t ∧
      Stopped .stepBound t ∧ KeepsBut [.timer .stepBound, .eng .sysPending, .rst .phase, .rst .lastRelease, .rst .owed, .pins .gateAll, .timer .scan,
        .timer .sysWdog, .pins .pg] s t) ∧
  -- RELEASE_STALL of a step past its bound (R415): the reset again, with its step and 0x0F0B owed.
  (∀ (n d : Nat) (s : State),
      s.rst.phase = .step n →
      n ≠ 5 →
      s.deadline .stepBound = some d →
      d ≤ s.now →
      s.rst.supplyOk = true →
      Completes (.releaseStall false) s fun t =>
      t.rst.phase = .step 1 ∧ t.rst.scope = s.rst.scope ∧ t.rst.cause = s.rst.cause ||| causeStall ∧ t.rst.stallStep = n ∧
        t.rst.stalls = satInc 255 s.rst.stalls ∧ (0x0F0B, [n]) ∈ t.rst.owed ∧ t.mem.user = s.mem.user ∧ t.pending = s.pending ∧ t.now = s.now)

/-- Trim load, ROM boot, lifecycle wipe, the hold's end, BROWN_WARN and the supply range. TRIM_ATTEMPT_DONE in step 4: both items good and a valid half
stored, it loads the set, leaves no protective state and begins step 5; the third attempt whose set fails enters the protective state with an empty
set, the set's fallback and 0x0F06, the device trim marked as found, and step 5. TRIM_ACKNOWLEDGE, admitted, in that state before the boot commit,
leaves it with 0x0F07 and answers done. ROM_BOOT_DONE in step 5, not scrapped: of a warm reset with no strap, no trial and matching digests, step 6,
the update state standing and the system watchdog running; with the strap at 1 in all three readings the ROM stays, the active slot standing, with
0x1312 recorded where staging has room. LIFECYCLE_WIPE in step 3, pending, empties user area, both configuration and both learned-data copies and the
records, with 0x1401 from the old to the new state as the first record staged, and begins step 4. HOLD_EXPIRED at its time, an output held: none is
held, every held branch gate sinks as after a cold reset, and 0x0F21 is recorded. BROWN_WARN_SET sets the warning and BROWN_SEEN, counts it and
records 0x0F22; BROWN_WARN_CLEAR, no write deferred, clears the warning and leaves BROWN_SEEN. SUPPLY_RANGE makes SYS_SUPPLY's two bits the monitors'
values: where no 10 us is over nothing is recorded, and a bit that is clear times none; bits that set time 10 us each; bits that stand and have stood
for more than 10 us are recorded once, as 0x0F23 with those bits. Each clause gives its conditions; the list after its KeepsBut names every part of
the state that may change, and all others stand; a reset's clause says what stays. -/
def Obligations.TrimBootWipeAndSupplies : Prop :=
  -- TRIM_ATTEMPT_DONE with both items good (R131, R417).
  (∀ (k : Fin 2) (s : State),
      s.rst.phase = .step 4 →
      s.meas.calHalfNow = some k →
      Completes (.trimAttemptDone true true) s fun t =>
      t.rst.phase = .step 5 ∧ t.rst.devTrimOk = true ∧ t.rst.calSetOk = true ∧ t.rst.protective = false ∧ t.meas.calWork = (s.meas.calHalf[k]).getD {} ∧
        KeepsBut [.meas .calWork, .meas .calHalfAll, .meas .calDiffers, .rst .phase, .rst .devTrimOk, .rst .calSetOk, .rst .devTrimFallback,
        .rst .calSetFallback, .rst .protective, .timer .stepBound] s t) ∧
  -- TRIM_ATTEMPT_DONE of the third failing attempt (R417, R418): the protective state.
  (∀ (dev : Bool) (s : State),
      s.rst.phase = .step 4 →
      s.rst.trimFailed = 2 →
      Completes (.trimAttemptDone dev false) s fun t =>
      t.rst.phase = .step 5 ∧ t.rst.protective = true ∧ t.rst.calSetOk = false ∧ t.rst.calSetFallback = true ∧ t.rst.devTrimOk = dev ∧ t.meas.calWork = {} ∧
        (⟨0x0F06, noInst⟩ : ErrEntry) ∈ t.net.batch ∧
      KeepsBut (([.meas .calWork, .rst .phase, .rst .devTrimOk, .rst .calSetOk, .rst .devTrimFallback, .rst .calSetFallback, .rst .protective, .rst .trimFailed,
        .timer .stepBound] : List Part) ++ Part.raised) s t) ∧
  -- TRIM_ACKNOWLEDGE in the protective state, the boot commit still due (R418).
  (∀ (w : Session) (d : List Byte) (s : State),
      s.admits w 0x5F20 7 d = true →
      s.rst.protective = true →
      s.rst.bootDue = true →
      Completes (.trimAcknowledge w d) s fun t => Answered w .done t ∧ t.rst.protective = false ∧ Raised 0x0F07 noInst [] s t ∧
        KeepsBut (([.rst .protective, .timer .pairSend, .timer .pairing, .net (.sess (sessIx w)),
        .timer (.sessIdle (sessIx w))] : List Part) ++ Part.raised) s t) ∧
  -- ROM_BOOT_DONE of a warm reset whose digests match, no recovery strap and no trial (R416).
  (∀ (okA okB : Bool) (s : State),
      s.rst.phase = .step 5 →
      s.upd.life ≠ .scrapped →
      s.upd.phase = .none →
      s.rst.scope = .warm →
      Completes (.romBootDone false false false true okA okB) s fun t =>
      t.rst.phase = .step 6 ∧ t.pins.recover = false ∧ t.upd = s.upd ∧ Ends .sysWdog (s.ns 0x3800 1) s t ∧
        KeepsBut [.pins .recover, .pins .unstable, .rst .owed, .rst .romStays, .timer .sysWdog, .rst .phase, .timer .stepBound] s t) ∧
  -- ROM_BOOT_DONE with the recovery strap at 1 (R467): the ROM stays.
  (∀ (digests okA okB : Bool) (s : State),
      s.rst.phase = .step 5 →
      s.upd.life ≠ .scrapped →
      Completes (.romBootDone true true true digests okA okB) s fun t => t.rst.phase = .step 6 ∧ t.rst.romStays = true ∧ t.pins.recover = true ∧
        t.upd.active = s.upd.active ∧ (s.evr.staging.length < 16 → ∃ r ∈ t.evr.staging, r.code = 0x1312) ∧
        KeepsBut (([.pins .recover, .pins .unstable, .rst .owed, .rst .romStays, .upd .lastCode, .upd .slotAll, .upd .phase, .upd .version, .upd .live,
        .upd .revertWhy, .upd .active, .upd (.slot 0), .upd (.slot 1), .timer .sysWdog, .rst .phase, .timer .stepBound] : List Part) ++ Part.raised) s t) ∧
  -- LIFECYCLE_WIPE in step 3 (R422, R470): the four partitions are empty and the record of the change is the recorder's first.
  (∀ (old : Life) (s : State),
      s.rst.phase = .step 3 →
      s.upd.wipePending = some old →
      Completes .lifecycleWipe s fun t =>
      t.mem.user = [] ∧ t.net.store = #v[none, none] ∧ t.bat.copies = #v[none, none] ∧ t.evr.recs = [] ∧ t.upd.wipePending = none ∧ t.rst.phase = .step 4 ∧
      (∃ r ∈ t.evr.staging.head?, r.code = 0x1401 ∧ r.vals = [lifeCode old, lifeCode s.upd.life]) ∧ t.pending = s.pending ∧ t.now = s.now ∧
        t.upd.life = s.upd.life) ∧
  -- HOLD_EXPIRED while an output is held (R59): the held outputs take their cold-reset state.
  (∀ (s : State),
      s.due .hold = true →
      s.holding = true →
      Completes .holdExpired s fun t =>
      t.holding = false ∧ (∀ k : Fin 16, s.pins.brHold.getLsbD k = true → t.pins.gate[brGate k] = .resetSink) ∧ Raised 0x0F21 noInst [] s t ∧ Stopped .hold t ∧
        KeepsBut (([.timer .hold, .pins .brHold, .pins .fdHold, .pins .stHold, .pins .pgHold, .pins .gpioHold, .pins .gateAll, .pins .pg, .pins .gpioOut,
        .pins .gpioDir, .dist .brAll, .dist .feedAll] : List Part) ++ Part.raised) s t) ∧
  -- BROWN_WARN_SET (R70, R75).
  (∀ (s : State),
      s.pins.brownWarn = false →
      Completes .brownWarnSet s fun t => t.pins.brownWarn = true ∧ t.pins.brownSeen = true ∧ t.pins.brownEvents = bump s.pins.brownEvents ∧
        Raised 0x0F22 noInst [] s t ∧ KeepsBut (([.pins .brownWarn, .pins .brownSeen, .pins .brownEvents] : List Part) ++ Part.raised) s t) ∧
  -- BROWN_WARN_CLEAR with no write deferred (R70).
  (∀ (s : State),
      s.bat.deferred = false →
      Completes .brownWarnClear s fun t => t.pins.brownWarn = false ∧ t.pins.brownSeen = s.pins.brownSeen ∧ KeepsBut [.pins .brownWarn] s t) ∧
  -- SUPPLY_RANGE (R70, R75): SYS_SUPPLY's bits show the monitors at once; a bit that stood and clears stops its 10 µs unrecorded.
  (∀ (ov range : Bool) (s : State),
      s.due (.supplyRange false) = false →
      s.due (.supplyRange true) = false →
      Completes (.supplyRange ov range) s fun t => t.pins = { s.pins with vauxOv := ov, vddioRange := range } ∧ (ov = false → Stopped (.supplyRange false) t) ∧
        (range = false → Stopped (.supplyRange true) t) ∧ KeepsBut [.pins .vauxOv, .pins .vddioRange, .timers] s t) ∧
  -- SUPPLY_RANGE that sets a bit (R77): its 10 µs begin and nothing is recorded yet.
  (∀ (s : State),
      s.pins.vauxOv = false →
      s.pins.vddioRange = false →
      Completes (.supplyRange true true) s fun t => t.pins = { s.pins with vauxOv := true, vddioRange := true } ∧ Ends (.supplyRange false) 10001 s t ∧
        Ends (.supplyRange true) 10001 s t ∧ KeepsBut [.pins .vauxOv, .pins .vddioRange, .timers] s t) ∧
  -- SUPPLY_RANGE while bits have stood for more than 10 µs (R77): 0x0F23 with those bits of SYS_SUPPLY, once.
  (∀ (a b : Bool) (s : State),
      a = true ∨ b = true →
      s.pins.vauxOv = a →
      s.pins.vddioRange = b →
      (a = true → s.due (.supplyRange false) = true) →
      (b = true → s.due (.supplyRange true) = true) →
      Completes (.supplyRange a b) s fun t => Raised 0x0F23 noInst [8 * ofBool a + 16 * ofBool b] s t ∧ Stopped (.supplyRange false) t ∧
        Stopped (.supplyRange true) t ∧ t.pins = s.pins ∧ KeepsBut (([.pins .vauxOv, .pins .vddioRange, .timers] : List Part) ++ Part.raised) s t)

/-- Scrubbing: clean, corrected and uncorrectable words, late passes and rates; NVC stores and user writes. SCRUB_STEP of a word that is not its pass's
last: a clean word of an SRAM changes nothing, one of MRAM leads to the next word; a word of main SRAM with one nibble of lane 0 corrected, 0x1001 not
recorded within the last second, is counted, its address and nibble are kept, and 0x1001 is recorded with the address. An uncorrectable lane 0 of a
word of critical state in main SRAM, in solo operation with no reset being released, counts the word and begins the warm reset of its cause, which
owes 0x1003 with the address; of a word of the user area, not known as bad, makes its eight bytes read 0 and every other address as before, keeps the
area's canonical form (log entry 3), counts and keeps the word and records 0x1102 with partition and address. SCRUB_LATE at its time records 0x1004
with the memory, and stops the bound. CORRECTION_RATE above its setting in the hour, not yet recorded in it, records 0x1005 with the memory. With the
host port up: NVC_STORE of scope 1 to 3 by Engineer, nothing busy, is busy, and writes the scope's copy in at most 40 ms; by too low a role it gives
result 4. NVC_USER_WRITE by Operator, not busy and no BROWN_WARN: of a word of the user area, its eight bytes are those of NVC_DATA0 and NVC_DATA1,
every other address reads as before, the form stands, result 1; of another address result 5, and nothing is written. Each clause gives its conditions;
the list after its KeepsBut names every part of the state that may change, and all others stand; a reset's clause says what stays. -/
def Obligations.ScrubbingAndUserArea : Prop :=
  -- SCRUB_STEP of a clean word of an SRAM that is not the pass's last (R430, R433).
  (∀ (m : MemKind) (word : Nat) (code : BitVec 80) (used : Bool) (s : State),
      m ≠ .mram →
      word % memWords m + 1 ≠ memWords m →
      rsLane code.toNat 0 = .clean →
      rsLane code.toNat 1 = .clean →
      Completes (.scrubStep m word code used) s fun t => KeepsBut [] s t) ∧
  -- SCRUB_STEP of a clean word of MRAM (R433): the next word follows.
  (∀ (word : Nat) (code : BitVec 80) (used : Bool) (s : State),
      s.mem.scrubPos + 1 ≠ memWords .mram →
      rsLane code.toNat 0 = .clean →
      rsLane code.toNat 1 = .clean →
      Completes (.scrubStep .mram word code used) s fun t => t.mem.scrubPos = (s.mem.scrubPos + 1) % memWords .mram ∧ t.mem.user = s.mem.user ∧
        KeepsBut [.mem .scrubPos, .mem .scrubPasses, .mem .passFromAll] s t) ∧
  -- SCRUB_STEP of a word of main SRAM with one nibble corrected (R432, R454).
  (∀ (word : Nat) (code : BitVec 80) (used : Bool) (n e : Nat) (s : State),
      word % memWords .main + 1 ≠ memWords .main →
      rsLane code.toNat 0 = .corrected n e →
      rsLane code.toNat 1 = .clean →
      s.running (.limit 0x1001 noInst) = false →
      Completes (.scrubStep .main word code used) s fun t =>
      t.mem.mainCorr = satCount s.mem.mainCorr ∧ t.mem.eccAddr = memAddress .main (word % memWords .main) ∧ t.mem.eccInfo = n + 128 + 256 * ofBool used ∧
        t.mem.user = s.mem.user ∧
      Raised 0x1001 noInst [memAddress .main (word % memWords .main)] s t ∧
        KeepsBut (([.mem .passTime, .mem .passFromAll, .mem .nvEccAddr, .mem .lastAddr, .mem .eccAddr, .mem .eccInfo, .mem .hour, .mem .hourCorrAll,
        .mem .hourRaisedAll, .mem .mainCorr, .mem .queueCorr, .mem .mramCorr, .timers] : List Part) ++ Part.raised) s t) ∧
  -- SCRUB_STEP of an uncorrectable word of critical state, in solo operation with no reset being released (R434, R435).
  (∀ (word : Nat) (code : BitVec 80) (s : State),
      rsLane code.toNat 0 = .uncorrectable →
      s.active = false →
      s.releasing = false →
      s.rst.supplyOk = true →
      Completes (.scrubStep .main word code true) s fun t =>
      t.rst.cause = causeUncorr ∧ t.rst.scope = .warm ∧ t.rst.phase = .step 1 ∧ (0x1003, [memAddress .main (word % memWords .main)]) ∈ t.rst.owed ∧
        t.mem.mainUnc = satCount s.mem.mainUnc ∧
      t.mem.user = s.mem.user ∧ t.pending = s.pending ∧ t.now = s.now) ∧
  -- SCRUB_STEP of an uncorrectable word of the user area, found for the first time (R432, R435): it reads 0, every other address as before.
  (∀ (word : Nat) (code : BitVec 80) (used : Bool) (s : State),
      s.mem.scrubPos + 1 ≠ memWords .mram →
      partitionOf (memAddress .mram s.mem.scrubPos) = 7 →
      rsLane code.toNat 0 = .uncorrectable →
      s.mem.badWords.contains (memAddress .mram s.mem.scrubPos) = false →
      Memory.wf s.mem.user = true →
      Completes (.scrubStep .mram word code used) s fun t =>
      (∀ a : Nat, readByte t.mem.user a = if memAddress .mram s.mem.scrubPos ≤ a ∧ a < memAddress .mram s.mem.scrubPos + 8 then 0 else readByte s.mem.user a) ∧
      Memory.wf t.mem.user = true ∧ t.mem.mramUnc = satCount s.mem.mramUnc ∧ t.mem.badWords.contains (memAddress .mram s.mem.scrubPos) = true ∧
      Raised 0x1102 noInst [7, memAddress .mram s.mem.scrubPos] s t ∧
        KeepsBut (([.mem .scrubPos, .mem .nvEccAddr, .mem .lastAddr, .mem .eccAddr, .mem .eccInfo, .mem .badWords, .mem .mramUnc,
        .mem .user] : List Part) ++ Part.raised) s t) ∧
  -- SCRUB_LATE (R433).
  (∀ (m : MemKind) (s : State),
      s.due (.scrubPass (memNumber m)) = true →
      Completes (.scrubLate m) s fun t => Raised 0x1004 noInst [memNumber m] s t ∧ Stopped (.scrubPass (memNumber m)) t ∧
        KeepsBut (([.timers] : List Part) ++ Part.raised) s t) ∧
  -- CORRECTION_RATE above its setting, not yet recorded in the hour (R454).
  (∀ (m : MemKind) (s : State),
      s.raw 0x5F30 0x0C < s.mem.hourCorr[memNumber m] →
      s.mem.hour = s.now / 3600000000000 →
      s.mem.hourRaised[memNumber m] = false →
      Completes (.correctionRate m) s fun t => t.mem.hourRaised[memNumber m] = true ∧ t.mem.user = s.mem.user ∧ Raised 0x1005 noInst [(memNumber m).val] s t ∧
        KeepsBut (([.mem .hour, .mem .hourRaisedAll] : List Part) ++ Part.raised) s t) ∧
  -- NVC_STORE of a scope, by a host of Engineer's role (R354, R450).
  (∀ (scope : Fin 4) (s : State),
      s.hostUp = true →
      scope ≠ 0 →
      roleAllows (s.roleOf .spi) .engineer = true →
      s.mem.nvBusy = false →
      s.storeBusy = false →
      Completes (.nvcStore scope) s fun t =>
      t.mem.nvBusy = true ∧ t.mem.nvResult = 0 ∧ t.mem.user = s.mem.user ∧
        t.net.storing = some (s.net.storeTarget, s.copyFor scope (some .spi), scope.val, .nvc) ∧ Ends .store 40000000 s t ∧
        KeepsBut [.mem .nvResult, .mem .nvBusy, .net .storeAll, .net .storing, .timer .store, .twin .sent, .timer (.sessIdle (sessIx .spi))] s t) ∧
  -- NVC_STORE by too low a role (R450).
  (∀ (scope : Fin 4) (s : State),
      s.hostUp = true →
      scope ≠ 0 →
      roleAllows (s.roleOf .spi) .engineer = false →
      Completes (.nvcStore scope) s fun t => t.mem.nvResult = 4 ∧ t.mem.user = s.mem.user ∧
        KeepsBut [.mem .nvResult, .mem .nvBusy, .timer .store, .timer (.sessIdle (sessIx .spi))] s t) ∧
  -- NVC_USER_WRITE (R450): the eight bytes of the word are written, every other address reads as before.
  (∀ (s : State),
      s.hostUp = true →
      roleAllows (s.roleOf .spi) .operator = true →
      s.mem.nvBusy = false →
      s.pins.brownWarn = false →
      userWord s.mem.nvAddr.toNat = true →
      Memory.wf s.mem.user = true →
      Completes .nvcUserWrite s fun t =>
      (∀ a : Nat, readByte t.mem.user a = if s.mem.nvAddr.toNat ≤ a ∧
        a < s.mem.nvAddr.toNat + 8 then (leBytes 4 s.mem.nvData0.toNat ++ leBytes 4 s.mem.nvData1.toNat).getD (a - s.mem.nvAddr.toNat) 0 else readByte s.mem.user a) ∧
      Memory.wf t.mem.user = true ∧ t.mem.nvResult = 1 ∧ KeepsBut [.mem .nvResult, .mem .badWords, .mem .user, .timer (.sessIdle (sessIx .spi))] s t) ∧
  -- NVC_USER_WRITE of an address that is no word of the user area (R450): refused with 5.
  (∀ (s : State),
      s.hostUp = true →
      roleAllows (s.roleOf .spi) .operator = true →
      s.mem.nvBusy = false →
      s.pins.brownWarn = false →
      userWord s.mem.nvAddr.toNat = false →
      Completes .nvcUserWrite s fun t => t.mem.nvResult = 5 ∧ t.mem.user = s.mem.user ∧
        KeepsBut [.mem .nvResult, .mem .badWords, .mem .user, .timer (.sessIdle (sessIx .spi))] s t)

/-- The recorder: writes, scan, windows, clear and the manual trigger. RECORD_WRITE_DONE of a busy recorder, no word bad and no window loading the slot:
the oldest staged record is the newest stored one under the next number, which counts, and the count of written records adds 1. RECORDER_SCAN_DONE of
a scan that runs, nothing torn, starts the recorder: with nothing owed, records and staging stand; what a reset owes is raised and owed no more.
CURSOR_WRITE by the host's register, the port up, sets its window's cursor and half and loads it within 20 us, the other windows standing.
WINDOW_LOAD_DONE of a loading window, no word bad: the record that bears the number shows the 64 words of the half asked for, none uncorrectable;
where no record bears it the window is empty in state 3. RECORDER_CLEAR, admitted, none in progress, begins a clear of 1 ms and answers done, the
records standing. RECORDER_CLEARED of a clear leaves the clear record, 0x1202 under the next number, as the only one and the staged ones standing.
MANUAL_TRIGGER, admitted, of a trigger of kind 8 fires it as its state and holdoff allow, no other, and answers done. Each clause gives its
conditions; the list after its KeepsBut names every part of the state that may change, and all others stand; a reset's clause says what stays. -/
def Obligations.RecorderWritesScansAndClears : Prop :=
  -- RECORD_WRITE_DONE with no word bad, no window loading the slot (R441, R443).
  (∀ (x : Record) (l : List Record) (s : State),
      s.evr.busy = true →
      s.evr.staging = x :: l →
      s.evr.loadingSlot s.evr.next = false →
      Completes (.recordWriteDone []) s fun t =>
      t.evr.recs.head? = some { x with seq := s.evr.next } ∧ t.evr.staging = l ∧ t.evr.next = (s.evr.next + 1) % 2 ^ 32 ∧ t.evr.written = bump s.evr.written ∧
        KeepsBut [.evr .next, .evr .recs, .evr .staging, .evr .written] s t) ∧
  -- RECORDER_SCAN_DONE with nothing torn and nothing owed (R444).
  (∀ (incomplete : Bool) (s : State),
      s.running .scan = true →
      s.evr.torn = false →
      s.rst.owed = [] →
      Completes (.recorderScanDone incomplete) s fun t => t.evr.running = true ∧ t.evr.recs = s.evr.recs ∧ t.evr.staging = s.evr.staging ∧ Stopped .scan t ∧
        KeepsBut [.evr .staging, .evr .lost, .timer .recordsLost, .evr .trigAll, .timer .scan, .rst .owed, .evr .running, .evr .torn] s t) ∧
  -- RECORDER_SCAN_DONE with a record owed since the reset (R423, R444).
  (∀ (incomplete : Bool) (code : Nat) (vals : List Nat) (s : State),
      s.running .scan = true →
      s.evr.torn = false →
      s.rst.owed = [(code, vals)] →
      Completes (.recorderScanDone incomplete) s fun t => t.evr.running = true ∧ t.rst.owed = [] ∧ Raised code noInst vals s t ∧
        KeepsBut (([.timer .scan, .rst .owed, .evr .running, .evr .torn] : List Part) ++ Part.raised) s t) ∧
  -- CURSOR_WRITE by the host's register (R447): the window loads.
  (∀ (d : List Byte) (s : State),
      s.hostUp = true →
      Completes (.cursorWrite .reg d) s fun t =>
      (t.evr.win[0]).cursor = leValue d % 2 ^ 32 ∧ (t.evr.win[0]).state = 1 ∧ (t.evr.win[0]).halfIn = (s.evr.win[0]).half ∧ t.evr.win[1] = s.evr.win[1] ∧
        t.evr.win[2] = s.evr.win[2] ∧ Ends (.windowLoad 0) 20000 s t ∧ KeepsBut [.evr .winAll, .timers] s t) ∧
  -- WINDOW_LOAD_DONE of a record that stands in its slot (R442, R447): the half asked for.
  (∀ (k : Fin 3) (r : Record) (s : State),
      (s.evr.win[k]).state = 1 →
      (s.evr.recs.find? (fun r => r.seq = (s.evr.win[k]).cursor) = some r) →
      Completes (.windowLoadDone k []) s fun t =>
      (t.evr.win[k]).state = 2 ∧ (t.evr.win[k]).words = (List.range 64).map (fun j => r.image.getD ((if (s.evr.win[k]).halfIn then 64 else 0) + j) 0) ∧
        (t.evr.win[k]).uncorr = false ∧ Stopped (.windowLoad k) t ∧ KeepsBut [.timer (.windowLoad k), .evr (.win k)] s t) ∧
  -- WINDOW_LOAD_DONE of a number that no record bears (R447).
  (∀ (k : Fin 3) (bad : List Nat) (s : State),
      (s.evr.win[k]).state = 1 →
      (s.evr.recs.find? (fun r => r.seq = (s.evr.win[k]).cursor) = none) →
      Completes (.windowLoadDone k bad) s fun t => (t.evr.win[k]).state = 3 ∧ (t.evr.win[k]).words = [] ∧ Stopped (.windowLoad k) t ∧
        KeepsBut [.timer (.windowLoad k), .evr (.win k)] s t) ∧
  -- RECORDER_CLEAR by the dictionary (R448).
  (∀ (w : Session) (d : List Byte) (s : State),
      s.admits w 0x3200 5 d = true →
      s.evr.clearing = false →
      Completes (.recorderClear (.dict w) d) s fun t => Answered w .done t ∧ t.evr.clearing = true ∧ t.evr.recs = s.evr.recs ∧ Ends .clearRec 1000000 s t ∧
        KeepsBut [.evr .clearing, .timer .clearRec, .net (.sess (sessIx w)), .timer (.sessIdle (sessIx w))] s t) ∧
  -- RECORDER_CLEARED (R448): the clear record, 0x1202, is the only one.
  (∀ (s : State),
      s.evr.clearing = true →
      Completes .recorderCleared s fun t =>
      t.evr.clearing = false ∧ t.evr.recs.length = 1 ∧ (∀ r ∈ t.evr.recs, r.code = 0x1202 ∧ r.seq = s.evr.next) ∧ t.evr.next = (s.evr.next + 1) % 2 ^ 32 ∧
        t.evr.staging = s.evr.staging ∧ Stopped .clearRec t ∧
        KeepsBut [.timer .clearRec, .evr .clearing, .evr .next, .evr .recs, .evr .written, .evr .trigAll] s t) ∧
  -- MANUAL_TRIGGER of a trigger of kind 8 (R445): it fires as its state and holdoff allow; no other fires.
  (∀ (w : Session) (k : Fin 64) (s : State),
      s.admits w 0x3200 7 (leBytes 1 k.val) = true →
      s.raw 0x3210 (k + 1) = 8 →
      Completes (.manualTrigger w (leBytes 1 k.val)) s fun t =>
      Answered w .done t ∧ t.evr.trig[k] = (s.evr.trig[k]).fire s.now (s.cfg.ns 0x3217 (k + 1)) ∧ (∀ j : Fin 64, j ≠ k → t.evr.trig[j] = s.evr.trig[j]) ∧
        KeepsBut [.evr .trigAll, .net (.sess (sessIx w)), .timer (.sessIdle (sessIx w))] s t)

/-- Staging: begin, chunks, header, abort and verification. STAGING_BEGIN, not busy, by an admitted write, which it answers done, or by UPD_CTRL with
Engineer's role, makes the slot that staging takes empty and in staging, with no offset; busy, the write is refused with 0x08000022. IMAGE_APPEND,
admitted, not busy, 1 to 1024 bytes behind an offset: at the next offset, the header still incomplete, it appends them, gives the next offset and
answers done; out of sequence it answers 0x08000120 and records 0x1314, slots and offset standing; bytes that stand already are answered done with no
effect; completing a header that R458 refuses, it ends staging, the slot invalid, with the check's code recorded and 0x08000120 answered.
STAGING_ABORT, admitted, with a slot in staging makes it invalid, ends staging and answers done. IMAGE_VERIFY_DONE of the verification that runs
leaves the slot's bytes and gives valid with 0x130A and the version, or, where a check of R459 fails, invalid with its code recorded. Each clause
gives its conditions; the list after its KeepsBut names every part of the state that may change, and all others stand; a reset's clause says what
stays. -/
def Obligations.ImagesAreStagedAndVerified : Prop :=
  -- STAGING_BEGIN by the dictionary (R457).
  (∀ (w : Session) (s : State),
      s.admits w 0x3400 4 (leBytes 4 0x6E676562) = true →
      s.updBusy = false →
      Completes (.stagingBegin (.dict w)) s fun t =>
      Answered w .done t ∧ t.upd.slot[s.stageSlot] = { st := .staging } ∧ t.upd.stat = 1 ∧ t.upd.next = 0 ∧ t.upd.total = 0 ∧ Stopped .updVerify t ∧
        KeepsBut [.upd .slotAll, .timer .updVerify, .upd .stat, .upd .next, .upd .total, .net (.sess (sessIx w)), .timer (.sessIdle (sessIx w))] s t) ∧
  -- STAGING_BEGIN by UPD_CTRL (R474).
  (∀ (s : State),
      s.hostUp = true →
      s.updRole = true →
      s.updBusy = false →
      Completes (.stagingBegin .reg) s fun t => t.upd.slot[s.stageSlot] = { st := .staging } ∧ t.upd.stat = 1 ∧ t.upd.next = 0 ∧
        KeepsBut [.upd .slotAll, .timer .updVerify, .upd .stat, .upd .next, .upd .total, .timer (.sessIdle (sessIx .spi))] s t) ∧
  -- STAGING_BEGIN while the device is busy (R457).
  (∀ (w : Session) (s : State),
      s.admits w 0x3400 4 (leBytes 4 0x6E676562) = true →
      s.updBusy = true →
      Completes (.stagingBegin (.dict w)) s fun t => Answered w (.abort 0x08000022) t ∧
        KeepsBut [.timer .updVerify, .net (.sess (sessIx w)), .timer (.sessIdle (sessIx w))] s t) ∧
  -- IMAGE_APPEND of a chunk at the next offset that leaves the header incomplete (R457).
  (∀ (w : Session) (k : Fin 2) (d : List Byte) (s : State),
      s.admits w 0x3400 2 d = true →
      s.updBusy = false →
      5 ≤ d.length →
      d.length ≤ 1028 →
      s.upd.staging = some k →
      s.upd.stat ≠ 3 →
      leValue (d.take 4) = (s.upd.slot[k]).bytes.length →
      ((s.upd.slot[k]).bytes ++ d.drop 4).length < 256 →
      Completes (.imageAppend (.dict w) d) s fun t =>
      Answered w .done t ∧ (t.upd.slot[k]).bytes = (s.upd.slot[k]).bytes ++ d.drop 4 ∧ (t.upd.slot[k]).st = .staging ∧
        t.upd.next = ((s.upd.slot[k]).bytes ++ d.drop 4).length ∧ t.upd.stat = 1 ∧
        KeepsBut [.upd .slotAll, .upd .stat, .upd .next, .upd .total, .timer .updVerify, .upd .lastCode, .net (.sess (sessIx w)),
        .timer (.sessIdle (sessIx w))] s t) ∧
  -- IMAGE_APPEND out of sequence (R457): refused, 0x1314.
  (∀ (w : Session) (d : List Byte) (s : State),
      s.admits w 0x3400 2 d = true →
      s.updBusy = false →
      5 ≤ d.length →
      d.length ≤ 1028 →
      s.chunkFate (leValue (d.take 4)) (d.drop 4) = .sequence →
      Completes (.imageAppend (.dict w) d) s fun t => Answered w (.abort 0x08000120) t ∧ t.upd.slot = s.upd.slot ∧ t.upd.next = s.upd.next ∧
        t.upd.lastCode = 0x1314 ∧ Raised 0x1314 noInst [] s t ∧
        KeepsBut (([.upd .slotAll, .upd .stat, .upd .next, .upd .total, .timer .updVerify, .upd .lastCode, .net (.sess (sessIx w)),
        .timer (.sessIdle (sessIx w))] : List Part) ++ Part.raised) s t) ∧
  -- IMAGE_APPEND that repeats bytes already there (R457): accepted without effect.
  (∀ (w : Session) (d : List Byte) (s : State),
      s.admits w 0x3400 2 d = true →
      s.updBusy = false →
      5 ≤ d.length →
      d.length ≤ 1028 →
      s.chunkFate (leValue (d.take 4)) (d.drop 4) = .retry →
      Completes (.imageAppend (.dict w) d) s fun t => Answered w .done t ∧
        KeepsBut [.timer .updVerify, .net (.sess (sessIx w)), .timer (.sessIdle (sessIx w))] s t) ∧
  -- IMAGE_APPEND that completes a header that R458 refuses: staging ends, the slot is invalid and the code is recorded.
  (∀ (w : Session) (k : Fin 2) (c : Nat) (d : List Byte) (s : State),
      s.admits w 0x3400 2 d = true →
      s.updBusy = false →
      5 ≤ d.length →
      d.length ≤ 1028 →
      s.upd.staging = some k →
      s.upd.stat ≠ 3 →
      leValue (d.take 4) = (s.upd.slot[k]).bytes.length →
      (s.upd.slot[k]).bytes.length < 256 →
      256 ≤ ((s.upd.slot[k]).bytes ++ d.drop 4).length →
      s.upd.headerFault (((s.upd.slot[k]).bytes ++ d.drop 4).take 256) = some c →
      Completes (.imageAppend (.dict w) d) s fun t => Answered w (.abort 0x08000120) t ∧ (t.upd.slot[k]).st = .invalid ∧ t.upd.stat = 5 ∧ t.upd.lastCode = c ∧
        Raised c noInst [] s t ∧ KeepsBut (([.upd .slotAll, .upd .stat, .upd .next, .upd .total, .timer .updVerify, .upd .lastCode, .net (.sess (sessIx w)),
        .timer (.sessIdle (sessIx w))] : List Part) ++ Part.raised) s t) ∧
  -- STAGING_ABORT (R474).
  (∀ (w : Session) (k : Fin 2) (s : State),
      s.admits w 0x3400 4 (leBytes 4 0x74726261) = true →
      s.upd.staging = some k →
      Completes (.stagingAbort (.dict w)) s fun t => Answered w .done t ∧ (t.upd.slot[k]).st = .invalid ∧ t.upd.stat = 0 ∧ t.upd.next = 0 ∧
        Stopped .updVerify t ∧ KeepsBut [.upd .slotAll, .timer .updVerify, .upd .stat, .upd .next, .upd .total, .net (.sess (sessIx w)),
        .timer (.sessIdle (sessIx w))] s t) ∧
  -- IMAGE_VERIFY_DONE (R459): valid with 0x130A, or invalid with the code of the check that fails.
  (∀ (k : Fin 2) (uncorr : Bool) (s : State),
      s.upd.staging = some k →
      s.running .updVerify = true →
      s.upd.stat = 3 →
      Completes (.imageVerifyDone uncorr) s fun t =>
      (t.upd.slot[k]).bytes = (s.upd.slot[k]).bytes ∧ Stopped .updVerify t ∧
        KeepsBut (([.upd (.slot k), .timer .updVerify, .upd .stat, .upd .lastCode, .upd .next, .upd .total] : List Part) ++ Part.raised) s t ∧
      (s.upd.bodyFault (s.upd.slot[k]).bytes uncorr = none → (t.upd.slot[k]).st = .valid ∧ t.upd.stat = 4 ∧
        Raised 0x130A noInst [imageVersion (s.upd.slot[k]).bytes] s t) ∧
      (∀ c : Nat, s.upd.bodyFault (s.upd.slot[k]).bytes uncorr = some c → (t.upd.slot[k]).st = .invalid ∧ t.upd.stat = 5 ∧ t.upd.lastCode = c ∧
        Raised c noInst [] s t))

/-- Activation, the trial and its ends, and live update. Each write admitted. ACTIVATE, not refused in the present state and out of recovery, makes the
trial pending, the active slot standing, and begins the warm reset of the software's cause, no reset being released; refused by R461 it answers
0x08000022. COMMIT_TRIAL, not refused by R460 and R462, makes the trial's slot active and the other valid, ends the trial and its time, raises the
floor to the image's where the image asks for it, records 0x130C and answers done. REVERT_TRIAL of a running trial begun by ACTIVATE keeps cause 1 and
begins the warm reset; of a live update's it makes the slot reverted, ends the trial, has every engine reload, records 0x130D with cause 1 and answers
done. TRIAL_EXPIRY, the trial's time over at the last 1 ms boundary, of a trial begun by ACTIVATE marks it expired with cause 2, so that the system
watchdog is no longer restarted. LIVE_UPDATE, not refused by R464, verifies the image again in at most 300 ms, the slots standing, and answers done.
LIVE_VERIFY_DONE of that verification: passing, the slot is in trial, the live trial runs, all eight engines are to reload, with 0x1310; failing, the
slot is invalid with the check's code recorded. Each clause gives its conditions; the list after its KeepsBut names every part of the state that may
change, and all others stand; a reset's clause says what stays. -/
def Obligations.TrialsAndLiveUpdates : Prop :=
  -- ACTIVATE of a valid inactive slot, out of recovery (R461): a pending trial and the warm reset.
  (∀ (w : Session) (s : State),
      s.admits w 0x3400 5 (leBytes 4 0x746F6F62) = true →
      s.bootRefused = false →
      s.rst.romStays = false →
      s.releasing = false →
      s.rst.supplyOk = true →
      Completes (.activate (.dict w)) s fun t =>
      t.upd.phase = .pending ∧ t.upd.live = false ∧ t.rst.cause = causeSw ∧ t.rst.scope = .warm ∧ t.rst.phase = .step 1 ∧ t.upd.active = s.upd.active ∧
        t.mem.user = s.mem.user ∧ t.pending = s.pending ∧ t.now = s.now) ∧
  -- ACTIVATE without a valid slot to boot, or while R461 refuses it (R461).
  (∀ (w : Session) (s : State),
      s.admits w 0x3400 5 (leBytes 4 0x746F6F62) = true →
      s.bootRefused = true →
      Completes (.activate (.dict w)) s fun t => Answered w (.abort 0x08000022) t ∧ KeepsBut [.net (.sess (sessIx w)), .timer (.sessIdle (sessIx w))] s t) ∧
  -- COMMIT_TRIAL of a running trial whose boot commit succeeded (R462): the trial's slot becomes active, the other valid.
  (∀ (w : Session) (s : State),
      s.admits w 0x3400 6 (leBytes 4 0x74696D63) = true →
      s.cmitRefused = false →
      Completes (.commitTrial (.dict w)) s fun t =>
      Answered w .done t ∧ t.upd.active = s.upd.other ∧ (t.upd.slot[s.upd.other]).st = .active ∧ (t.upd.slot[s.upd.active]).st = .valid ∧ t.upd.phase = .none ∧
      (imageRaises (s.upd.slot[s.upd.other]).bytes = true → t.upd.floor = max s.upd.floor (imageField (s.upd.slot[s.upd.other]).bytes 12 4)) ∧
        Stopped .trial t ∧
      Raised 0x130C noInst [] s t ∧ KeepsBut (([.upd .slotAll, .timer .trial, .upd .active, .upd .phase, .upd .live, .upd .lastCode, .upd .floor,
        .upd .revertWhy, .net (.sess (sessIx w)), .timer (.sessIdle (sessIx w))] : List Part) ++ Part.raised) s t) ∧
  -- REVERT_TRIAL of a trial started by boot (R462): the warm reset, after which the ROM reverts.
  (∀ (w : Session) (s : State),
      s.admits w 0x3400 7 (leBytes 4 0x74727672) = true →
      s.trialRuns = true →
      s.upd.live = false →
      s.releasing = false →
      s.rst.supplyOk = true →
      Completes (.revertTrial (.dict w)) s fun t => t.upd.revertWhy = 1 ∧ t.upd.phase = .running ∧ t.rst.cause = causeSw ∧ t.rst.scope = .warm ∧
        t.rst.phase = .step 1 ∧ t.mem.user = s.mem.user ∧ t.pending = s.pending ∧ t.now = s.now) ∧
  -- REVERT_TRIAL of a live update's trial (R465): the slot is reverted, every engine reloads, 0x130D.
  (∀ (w : Session) (s : State),
      s.admits w 0x3400 7 (leBytes 4 0x74727672) = true →
      s.trialRuns = true →
      s.upd.live = true →
      Completes (.revertTrial (.dict w)) s fun t =>
      Answered w .done t ∧ (t.upd.slot[s.upd.other]).st = .reverted ∧ t.upd.phase = .none ∧ t.upd.liveBack = true ∧ t.upd.liveTodo = List.finRange 8 ∧
        Stopped .trial t ∧ Raised 0x130D noInst [1] s t ∧ KeepsBut (([.timer .trial, .upd .slotAll, .upd .phase, .upd .liveTodo, .upd .liveDone, .upd .liveBack,
        .upd .expired, .timer (.wdog 7), .eng .engAll, .timer (.reload 7), .upd .lastCode, .upd .revertWhy, .net (.sess (sessIx w)),
        .timer (.sessIdle (sessIx w))] : List Part) ++ Part.each 8 .migrate ++ Part.raised) s t) ∧
  -- TRIAL_EXPIRY of a trial started by boot (R462): E0 stops restarting the system watchdog.
  (∀ (s : State),
      s.trialTimeOver = true →
      s.trialRuns = true →
      s.upd.live = false →
      Completes .trialExpiry s fun t => t.upd.expired = true ∧ t.upd.revertWhy = 2 ∧ Stopped .trial t ∧
        KeepsBut [.timer .trial, .upd .live, .upd .expired, .upd .revertWhy] s t) ∧
  -- LIVE_UPDATE of an image that may (R464).
  (∀ (w : Session) (s : State),
      s.admits w 0x3400 8 (leBytes 4 0x6576696C) = true →
      s.liveRefused = false →
      Completes (.liveUpdate (.dict w)) s fun t => Answered w .done t ∧ t.upd.liveVerify = true ∧ Ends .updVerify 300000000 s t ∧ t.upd.slot = s.upd.slot ∧
        KeepsBut [.upd .liveVerify, .timer .updVerify, .net (.sess (sessIx w)), .timer (.sessIdle (sessIx w))] s t) ∧
  -- LIVE_VERIFY_DONE (R464): the engines reload and the slot is in trial, or it is invalid.
  (∀ (uncorr : Bool) (s : State),
      s.upd.liveVerify = true →
      Completes (.liveVerifyDone uncorr) s fun t =>
      t.upd.liveVerify = false ∧ Stopped .updVerify t ∧ KeepsBut (([.timer .updVerify, .upd .liveVerify, .upd (.slot (s.upd.other)), .upd .lastCode,
        .upd .phase, .upd .live, .upd .liveTodo, .upd .liveDone, .upd .liveBack, .upd .version, .upd .prevVersion, .timer (.wdog 7), .eng .engAll,
        .timer (.reload 7)] : List Part) ++ Part.each 8 .migrate ++ Part.raised) s t ∧
      (s.upd.bodyFault (s.upd.slot[s.upd.other]).bytes uncorr = none → (t.upd.slot[s.upd.other]).st = .trial ∧ t.upd.phase = .running ∧ t.upd.live = true ∧
        t.upd.liveTodo = List.finRange 8 ∧ Raised 0x1310 noInst [] s t) ∧
      (∀ c : Nat, s.upd.bodyFault (s.upd.slot[s.upd.other]).bytes uncorr = some c → (t.upd.slot[s.upd.other]).st = .invalid ∧ t.upd.lastCode = c ∧
        Raised c noInst [] s t))

/-- Lifecycle transitions, key writes and revocations. LIFECYCLE_TRANSITION, admitted, the device idle for it: to a target that R470 allows, by its role,
no reset being released, it takes the state, counts, erases the keys of the move, and begins the cold reset of its cause with the wipe pending from
the old state; to one that R470 does not allow it answers 0x08000101. KEY_WRITE, admitted, of 60 bytes to a slot 0 to 8, no BROWN_WARN, slots above 2
by Vendor: a key that unwraps stands in the slot, with 0x1402 and the slot, answered done; one that does not leaves every key, with 0x1403, answered
0x08000121. Of a slot above 2 by a role below Vendor it answers 0x08000102 and changes no key. KEY_REVOKE, admitted, of signing key 0 to 3: where
another present key is left it is revoked with 0x1404, no key erased, answered done; of the last it answers 0x08000101 and revokes nothing. Each
clause gives its conditions; the list after its KeepsBut names every part of the state that may change, and all others stand; a reset's clause says
what stays. -/
def Obligations.LifecycleTransitionsAndKeys : Prop :=
  -- LIFECYCLE_TRANSITION that R470 allows: the state, the keys erased, the wipe pending and the cold reset.
  (∀ (w : Session) (d : List Byte) (m : LifeMove) (s : State),
      s.admits w 0x2002 3 d = true →
      s.upd.move s.lifeTarget = some m →
      roleAllows (s.roleOf w) m.role = true →
      s.lifeBusy = false →
      s.releasing = false →
      s.rst.supplyOk = true →
      Completes (.lifecycleTransition w d) s fun t =>
      t.upd.life = m.next ∧ t.upd.wipePending = some s.upd.life ∧ t.upd.transitions = bump s.upd.transitions ∧ (∀ k ∈ m.erase, t.upd.key[k] = []) ∧
      t.rst.cause = causeLifecycle ∧ t.rst.scope = .cold ∧ t.rst.phase = .step 1 ∧ t.pending = s.pending ∧ t.now = s.now) ∧
  -- LIFECYCLE_TRANSITION to a state that R470 does not allow, the device idle.
  (∀ (w : Session) (d : List Byte) (s : State),
      s.admits w 0x2002 3 d = true →
      s.upd.move s.lifeTarget = none →
      s.lifeBusy = false →
      Completes (.lifecycleTransition w d) s fun t => Answered w (.abort 0x08000101) t ∧ KeepsBut [.net (.sess (sessIx w)), .timer (.sessIdle (sessIx w))] s t) ∧
  -- KEY_WRITE of a wrapped key (R472): the unwrapped key stands with 0x1402, or it is refused with 0x1403.
  (∀ (w : Session) (d : List Byte) (s : State),
      s.admits w 0x2003 2 d = true →
      d.length = 60 →
      s.pins.brownWarn = false →
      s.upd.keySel ≤ 2 ∨ roleAllows (s.roleOf w) .vendor = true →
      s.upd.keySel < 9 →
      Completes (.keyWrite w d) s fun t =>
      KeepsBut (([.upd .keyAll, .net (.sess (sessIx w)), .timer (.sessIdle (sessIx w))] : List Part) ++ Part.raised) s t ∧
      (∀ k : List Byte, s.unwrap (s.roleOf w) d = some k → t.upd.key[s.upd.keySel]? = some k ∧ Answered w .done t ∧ Raised 0x1402 noInst [s.upd.keySel] s t) ∧
      (s.unwrap (s.roleOf w) d = none → t.upd.key = s.upd.key ∧ Answered w (.abort 0x08000121) t ∧ Raised 0x1403 noInst [] s t)) ∧
  -- KEY_WRITE of a slot that needs Vendor, by Engineer (R472).
  (∀ (w : Session) (d : List Byte) (s : State),
      s.admits w 0x2003 2 d = true →
      2 < s.upd.keySel →
      roleAllows (s.roleOf w) .vendor = false →
      Completes (.keyWrite w d) s fun t => Answered w (.abort 0x08000102) t ∧ KeepsBut [.net (.sess (sessIx w)), .timer (.sessIdle (sessIx w))] s t) ∧
  -- KEY_REVOKE that leaves another signing key (R473).
  (∀ (w : Session) (j : Fin 4) (s : State),
      s.admits w 0x2003 5 (leBytes 1 j.val) = true →
      ((s.upd.signers.filter fun k => k ≠ j.val) ≠ []) →
      Completes (.keyRevoke w (leBytes 1 j.val)) s fun t => Answered w .done t ∧ t.upd.revoked = s.upd.revoked ||| BitVec.ofNat 4 (2 ^ j.val) ∧
        t.upd.key = s.upd.key ∧ Raised 0x1404 noInst [j.val] s t ∧
        KeepsBut (([.upd .revoked, .net (.sess (sessIx w)), .timer (.sessIdle (sessIx w))] : List Part) ++ Part.raised) s t) ∧
  -- KEY_REVOKE of the last signing key (R473): refused.
  (∀ (w : Session) (j : Fin 4) (s : State),
      s.admits w 0x2003 5 (leBytes 1 j.val) = true →
      ((s.upd.signers.filter fun k => k ≠ j.val) = []) →
      Completes (.keyRevoke w (leBytes 1 j.val)) s fun t => Answered w (.abort 0x08000101) t ∧ t.upd.revoked = s.upd.revoked ∧
        KeepsBut [.net (.sess (sessIx w)), .timer (.sessIdle (sessIx w))] s t)

/-- A step runs the command at the front of the queue with the queue's rest; on an empty queue one cycle passes (the model's choice, log entry 6). For
every command and every state: with the command at the front of the queue, step is exec of it on the state with the queue's rest. On an empty queue
step answers a next state: that is the model's choice of log entry 6, one 5 ns cycle in which each bridge hands over its oldest event and a timer's
buffer its oldest time, the time of day runs where it runs, and pulses that are over end. -/
def Obligations.StepRunsTheFrontCommandOrIdles : Prop :=
  -- A step takes the command at the front of the queue.
  (∀ (c : Instr) (rest : List Instr) (s : State),
      s.pending = c :: rest →
      step s = exec c { s with pending := rest }) ∧
  -- A step on an empty queue, no copy of a reply held (log entry 6; R25, R84, R99, R165, R179, R182): 5 ns pass.
  (∀ (s : State),
      s.pending = [] →
      s.shelf.heldCopy = none →
      ∃ t, step s = .next t ∧ t.now = s.now + 5 ∧ t.tb.tod = (if s.todRuns = true then s.tb.tod + 5 else s.tb.tod) ∧
      (∀ b : Fin 9, t.arch.bridges[b] = (s.arch.bridges[b]).tail) ∧ (∀ k : Fin 16, (t.tb.gen[k]).captured = (s.tb.gen[k]).captured.tail) ∧
      (∀ i : Fin 32, t.pins.pwm[i] = if s.pins.pwm[i] = .high ∧ (s.phase[i]).offAt ≤ s.now + 5 then .low else s.pins.pwm[i]) ∧
      (∀ i : Fin 32, t.phase[i] = { s.phase[i] with requests := (s.phase[i]).requests ++ (if s.pins.pwm[i] = .high ∧ (s.phase[i]).offAt ≤ s.now + 5 then [(true, (s.phase[i]).offAt)] else []) }) ∧
      (∀ l : Fin 8, ∃ e b, t.loop[l] = { s.loop[l] with refEdge := e, bounded := b }) ∧
      KeepsBut [.now, .tb .tod, .tb .genAll, .tb .model, .tb .slewLeft, .tb .slewOff, .tb .steering, .arch .bridgesAll, .pins .pwmAll, .pins .gpioOut,
        .pins .syncOut, .phaseAll, .loopAll] s t) ∧
  -- A step on an empty queue, in any state (log entry 6).
  (∀ (s : State),
      s.pending = [] →
      ∃ t, step s = .next t ∧ t.now = s.now + 5 ∧ t.tb.tod = (if s.todRuns = true then s.tb.tod + 5 else s.tb.tod) ∧ t.pending = [])

/-- After reset the pins, status words, counters, locks, queues and settings have the values that the spec gives. State.reset is the state after the
release (log entry 51). The values here are the spec's: VCORE at 850 mV (R29), the output pins of R56, the supply word of R75, the timebase in FREERUN
with the time of day unset (R89, R97), every channel NOT_READY (R120), lanes without output or fault (R146, R158), loops, shelf loop and rails at
rest, locks free, doorbells clear and queues empty (R323 to R331), no error in 0x1003, roles at Observer (R339), and every setting at its default
(R14). -/
def Obligations.ResetHoldsTheSpecsValues : Prop :=
  -- The core voltage (R29) and the output pins (R56).
  (State.reset.arch.vcoreMv = 850 ∧ State.reset.pins.pwm = Vector.replicate 32 .highZ ∧ State.reset.pins.gate = Vector.replicate 24 .resetSink ∧
      State.reset.pins.slDriver = 0 ∧ State.reset.pins.gpioDir = 0 ∧ State.reset.pins.twinActO = false ∧ State.reset.pins.spiIrq = false ∧
      State.reset.pins.brownWarn = false ∧ State.reset.pins.brownSeen = false ∧ State.reset.pins.vgdUv = true ∧ State.reset.pins.vauxOv = false ∧
      State.reset.pins.vddioRange = false ∧ State.reset.pins.bwCode = 30) ∧
  -- The timebase (R89, R97), the channels (R120), the lanes (R146, R158), the loops (R186), the shelf loop (R218) and the sequencer (R293).
  (State.reset.tb.lock = .freerun ∧ State.reset.tb.todUnset = true ∧ State.reset.tb.steering = 0 ∧
      (∀ k : Fin 48, (State.reset.meas.ch[k]).notReady = true) ∧
      (∀ n : Fin 12, (State.reset.lane[n]).fault = false ∧ (State.reset.lane[n]).misses = 0) ∧
      (∀ l : Fin 8, (State.reset.loop[l]).running = false ∧ (State.reset.loop[l]).vSet = 0) ∧ State.reset.shelf.running = false ∧
      State.reset.shelf.holdup = false ∧ (∀ r : Fin 32, (State.reset.seq.rail[r]).faults = 0) ∧ State.reset.dist.quench = 0) ∧
  -- Locks, doorbells, queues, the error field, roles and settings (R323 to R331, R339, R361, R14).
  ((∀ n : Fin 64, (State.reset.eng.lock[n]).owner = 0) ∧ (∀ i : Fin 11, State.reset.eng.db[i] = 0 ∧ State.reset.eng.arm[i] = 0) ∧
      State.reset.net.errs = [] ∧ (∀ w : Fin 3, (State.reset.net.sess[w]).role = .observer) ∧ State.reset.net.claim = none ∧
      ∀ idx sub : Nat, State.reset.raw idx sub = State.reset.default idx sub)

/-- The invariant that every step keeps holds after reset. State.reset meets State.Inv: the user area's memory has its canonical form (the model's, log
entry 3), the core voltage lies from 550 to 850 mV (R28), and no bridge holds more than four events (R25). -/
def Obligations.ResetMeetsTheInvariant : Prop :=
  -- The invariant at reset.
  State.reset.Inv

/-- Every step keeps the invariant: canonical user memory, the core voltage's range, and at most four events in each bridge. For every state that meets
State.Inv, whatever command stands in front: if step answers a next state, that state meets State.Inv. The invariant: the user area's memory has its
canonical form (the model's, log entry 3), the core voltage lies from 550 to 850 mV (R28), and no bridge holds more than four events (R25). -/
def Obligations.EveryStepKeepsTheInvariant : Prop :=
  -- Every step keeps the invariant (R25, R28, R437).
  ∀ (s t : State),
      s.Inv →
      step s = .next t →
      t.Inv

/-- The stored code corrects any error confined to two nibbles, one in each lane: every adjacent pair and every burst of up to five bits. For every 64-bit
word, written with the check bits of R428 and R429 and then changed by any pattern confined to one nibble of each lane, the read of R430 gives back
the word. So it does after a change confined to two adjacent nibbles of the 80-bit codeword, and after every burst of up to five bits. -/
def Obligations.TheStoredCodeCorrectsOneNibblePerLane : Prop :=
  -- Any error confined to two nibbles, one in each lane (R431); with a zero pattern, in one nibble or none.
  (∀ (d : Nat) (j0 j1 : Fin 10) (e0 e1 : Fin 16),
      rsRead (Nat.xor (Nat.xor (rsEncode d) (e0 * 16 ^ (2 * j0.val))) (e1 * 16 ^ (2 * j1.val + 1))) = some (d % 2 ^ 64)) ∧
  -- Every error in two adjacent nibbles (R431).
  (∀ (d : Nat) (i : Fin 19) (e : Fin 256),
      rsRead (Nat.xor (rsEncode d) (e * 16 ^ i.val)) = some (d % 2 ^ 64)) ∧
  -- Every burst of up to five bits (R431).
  (∀ (d : Nat) (k : Fin 76) (b : Fin 32),
      rsRead (Nat.xor (rsEncode d) (b * 2 ^ k.val)) = some (d % 2 ^ 64))

/-- A read's lane is clean, corrected or uncorrectable by its two syndromes; the word is uncorrectable if either lane is. For every 80-bit codeword and
each lane L: with S1 = r(a) and S2 = r(a^2) over the lane's ten nibbles, the first at x^9, no error where both are 0; where both are not 0 and S2 / S1
is a^p with p from 0 to 9, nibble 2(9 - p) + L is corrected by adding S1^2 / S2, and otherwise the lane is uncorrectable; uncorrectable where exactly
one is 0. The read gives no word if either lane is uncorrectable, else the data with each correction added. -/
def Obligations.EveryReadDecidesByItsSyndromes : Prop :=
  -- The table of R430, for each lane.
  (∀ (w : Nat) (l : Fin 2) (s1 s2 : Nat),
      (s1 = (List.range 10).foldl (fun a j => Nat.xor a (gfMul (nibble w (2 * j + l)) (gfExp (9 - j)))) 0) →
      (s2 = (List.range 10).foldl (fun a j => Nat.xor a (gfMul (nibble w (2 * j + l)) (gfExp (2 * (9 - j))))) 0) →
      (s1 = 0 → s2 = 0 → rsLane w l = .clean) ∧
      (s1 ≠ 0 → s2 ≠ 0 → (∀ p, p ≤ 9 → s2 = gfMul s1 (gfExp p) → rsLane w l = .corrected (2 * (9 - p) + l) (gfDiv (gfMul s1 s1) s2)) ∧
      ((∀ p, p ≤ 9 → s2 ≠ gfMul s1 (gfExp p)) → rsLane w l = .uncorrectable)) ∧
      (s1 = 0 → s2 ≠ 0 → rsLane w l = .uncorrectable) ∧ (s1 ≠ 0 → s2 = 0 → rsLane w l = .uncorrectable)) ∧
  -- The word is uncorrectable if either lane is; otherwise each lane's correction is added and the data are the low 64 bits (R430).
  (∀ (w : Nat),
      (rsRead w = none ↔ rsLane w 0 = .uncorrectable ∨ rsLane w 1 = .uncorrectable) ∧
      (∀ d, rsRead w = some d → d = (match rsLane w 1 with
      | .corrected n e => Nat.xor (match rsLane w 0 with | .corrected m f => Nat.xor w (f * 16 ^ m) | _ => w) (e * 16 ^ n)
      | _ => (match rsLane w 0 with | .corrected m f => Nat.xor w (f * 16 ^ m) | _ => w)) % 2 ^ 64))

/-- Every command answers a next state from every state and with any operands; none changes the queue of waiting commands or the instant. For every
constructor of Instr, every value of its operands and every state, with no condition: exec answers a next state, in which the queue of waiting
commands stands as it was, in its order, and the instant is the same: time passes only in a step on an empty queue. The queue and the instant are the
model's own (log entries 6 and 51). What each command does in that next state is said by the command's own statements. -/
def Obligations.EveryCommandCompletesAndLeavesTheQueue : Prop :=
  -- Every command completes and leaves the queue and the instant (log entries 6 and 51).
  ∀ (c : Instr) (s : State),
      Completes c s fun t => t.pending = s.pending ∧ t.now = s.now

/-- Only NVC user writes, the scrubbing of MRAM, the lifecycle wipe and the host's register writes change a byte of the user area. For every command but
NVC_USER_WRITE, SCRUB_STEP of MRAM, LIFECYCLE_WIPE and the two that write host registers (REGISTER_WRITE and SPI_WRITE), among them every reset: where
exec answers a next state, every address of the user area reads as before. -/
def Obligations.OnlyMemoryCommandsWriteTheUserArea : Prop :=
  -- Every other command leaves the user area (R410, R437, R450).
  ∀ (c : Instr) (s t : State),
      exec c s = .next t →
      c ≠ .nvcUserWrite ∧ c ≠ .lifecycleWipe →
      (∀ (k : Nat) (w : BitVec 80) (u : Bool), c ≠ .scrubStep .mram k w u) →
      (∀ a v : Nat, c ≠ .registerWrite a v) →
      (∀ d : List Byte, c ≠ .spiWrite d) →
      ∀ a : Nat, readByte t.mem.user a = readByte s.mem.user a

/-- The owner's write releases a lock, another identity's is counted and recorded, and an epoch's increment releases every lock its identity holds.
LOCK_RELEASE by the owner of a lock, and the host's write of any value to LCK_LOCKn, leave it free; beside it only arm bits, doorbells and the
interrupt line may change. By any other identity it leaves every lock, increments LCK_FOREIGN and records 0x0C05; nothing else changes. When an
identity's epoch increments, every lock it holds is free, every other lock stands, and, where it held any, 0x0C06 is recorded with their numbers. -/
def Obligations.LocksAreReleasedByOwnerAndEpoch : Prop :=
  -- The owner's release (R329).
  (∀ (who : Fin 11) (n : Fin 64) (s : State),
      s.reaches who = true →
      (s.eng.lock[n]).owner = identCode who →
      Completes (.lockRelease who n) s fun t => (t.eng.lock[n]).owner = 0 ∧ KeepsBut [.eng (.lock n), .eng .armAll, .eng .dbAll, .pins .spiIrq] s t) ∧
  -- The host owner's write of any value to LCK_LOCKn (R329).
  (∀ (n : Fin 64) (v : Nat) (s : State),
      s.hostUp = true →
      s.reaches 0 = true →
      (s.eng.lock[n]).owner = identCode 0 →
      Completes (.registerWrite (0x40001000 + 4 * n) v) s fun t => (t.eng.lock[n]).owner = 0 ∧
        KeepsBut [.eng (.lock n), .eng .armAll, .eng .dbAll, .pins .spiIrq] s t) ∧
  -- A release by any other identity (R329).
  (∀ (who : Fin 11) (n : Fin 64) (s : State),
      s.reaches who = true →
      (s.eng.lock[n]).owner ≠ identCode who →
      Completes (.lockRelease who n) s fun t =>
      t.eng.foreign = bump s.eng.foreign ∧ Raised 0x0C05 n [n, identCode who] s t ∧ KeepsBut (.eng .foreign :: Part.raised) s t) ∧
  -- An identity's epoch increments (R329); `held` are the numbers of the locks it holds.
  (∀ (i : Fin 11) (held : List (Fin 64)) (s : State),
      (held = (List.finRange 64).filter fun n => (s.eng.lock[n]).owner = identCode i) →
      (s.newEpoch i).eng.epoch[i] = s.eng.epoch[i] + 1 ∧
      (∀ n : Fin 64, ((s.newEpoch i).eng.lock[n]).owner = if (s.eng.lock[n]).owner = identCode i then 0 else (s.eng.lock[n]).owner) ∧
      (held ≠ [] → Raised 0x0C06 (identCode i) (held.map fun n => n.val) s (s.newEpoch i)))

/-- The loss of a consumed heartbeat is recorded with the producer's node-ID and changes no setpoint, no output and no value written by RPDO.
HEARTBEAT_LOST of a producer that 0x1016 of a live port names (a time and a node-ID that are not 0) records 0x0D0C with that node-ID, and every part
of the state but those a raised code goes through stands as before: every setpoint, every output pin and every value written. -/
def Obligations.HeartbeatLossChangesNoSetpoint : Prop :=
  -- HEARTBEAT_LOST (R364).
  ∀ (p : Fin 2) (n : Fin 4) (s : State),
      s.portLive p = true →
      bits (s.portRaw p 0x1016 (n + 1)) 15 0 ≠ 0 →
      bits (s.portRaw p 0x1016 (n + 1)) 22 16 ≠ 0 →
      Completes (.heartbeatLost p n) s fun t =>
      Raised 0x0D0C noInst [bits (s.portRaw p 0x1016 (n + 1)) 22 16] s t ∧ (∀ idx sub : Nat, t.raw idx sub = s.raw idx sub) ∧ t.pins = s.pins ∧
        t.loop = s.loop ∧
      t.shelf = s.shelf ∧ t.net.force = s.net.force ∧ t.net.rw = s.net.rw ∧ KeepsBut Part.raised s t
end

