-- ==== Sys2Proof/Laws/State.lean ====
section
/-! SUPPORT. What each shared update of the state leaves as it was: one equation for each part of the state. -/

namespace Sys2Proof.Machine

/-- `State.disarm` changes only `timers`. -/
@[simp] theorem State.disarm_frame (t : TimerId) (s : State) :
    (s.disarm t).pending = s.pending ∧ (s.disarm t).now = s.now ∧ (s.disarm t).free = s.free ∧ (s.disarm t).arch = s.arch ∧ (s.disarm t).pins = s.pins ∧ (s.disarm t).tb = s.tb ∧ (s.disarm t).meas = s.meas ∧ (s.disarm t).lane = s.lane ∧ (s.disarm t).snap = s.snap ∧ (s.disarm t).phase = s.phase ∧ (s.disarm t).loop = s.loop ∧ (s.disarm t).shelf = s.shelf ∧ (s.disarm t).dist = s.dist ∧ (s.disarm t).bat = s.bat ∧ (s.disarm t).seq = s.seq ∧ (s.disarm t).thm = s.thm ∧ (s.disarm t).eng = s.eng ∧ (s.disarm t).net = s.net ∧ (s.disarm t).twin = s.twin ∧ (s.disarm t).casc = s.casc ∧ (s.disarm t).rst = s.rst ∧ (s.disarm t).mem = s.mem ∧ (s.disarm t).evr = s.evr ∧ (s.disarm t).upd = s.upd := ⟨rfl, rfl, rfl, rfl, rfl, rfl, rfl, rfl, rfl, rfl, rfl, rfl, rfl, rfl, rfl, rfl, rfl, rfl, rfl, rfl, rfl, rfl, rfl, rfl⟩

/-- `State.armAt` changes only `timers`. -/
@[simp] theorem State.armAt_frame (t : TimerId) (n : Nat) (s : State) :
    (s.armAt t n).pending = s.pending ∧ (s.armAt t n).now = s.now ∧ (s.armAt t n).free = s.free ∧ (s.armAt t n).arch = s.arch ∧ (s.armAt t n).pins = s.pins ∧ (s.armAt t n).tb = s.tb ∧ (s.armAt t n).meas = s.meas ∧ (s.armAt t n).lane = s.lane ∧ (s.armAt t n).snap = s.snap ∧ (s.armAt t n).phase = s.phase ∧ (s.armAt t n).loop = s.loop ∧ (s.armAt t n).shelf = s.shelf ∧ (s.armAt t n).dist = s.dist ∧ (s.armAt t n).bat = s.bat ∧ (s.armAt t n).seq = s.seq ∧ (s.armAt t n).thm = s.thm ∧ (s.armAt t n).eng = s.eng ∧ (s.armAt t n).net = s.net ∧ (s.armAt t n).twin = s.twin ∧ (s.armAt t n).casc = s.casc ∧ (s.armAt t n).rst = s.rst ∧ (s.armAt t n).mem = s.mem ∧ (s.armAt t n).evr = s.evr ∧ (s.armAt t n).upd = s.upd := ⟨rfl, rfl, rfl, rfl, rfl, rfl, rfl, rfl, rfl, rfl, rfl, rfl, rfl, rfl, rfl, rfl, rfl, rfl, rfl, rfl, rfl, rfl, rfl, rfl⟩

/-- `State.arm` changes only `timers`. -/
@[simp] theorem State.arm_frame (t : TimerId) (n : Nat) (s : State) :
    (s.arm t n).pending = s.pending ∧ (s.arm t n).now = s.now ∧ (s.arm t n).free = s.free ∧ (s.arm t n).arch = s.arch ∧ (s.arm t n).pins = s.pins ∧ (s.arm t n).tb = s.tb ∧ (s.arm t n).meas = s.meas ∧ (s.arm t n).lane = s.lane ∧ (s.arm t n).snap = s.snap ∧ (s.arm t n).phase = s.phase ∧ (s.arm t n).loop = s.loop ∧ (s.arm t n).shelf = s.shelf ∧ (s.arm t n).dist = s.dist ∧ (s.arm t n).bat = s.bat ∧ (s.arm t n).seq = s.seq ∧ (s.arm t n).thm = s.thm ∧ (s.arm t n).eng = s.eng ∧ (s.arm t n).net = s.net ∧ (s.arm t n).twin = s.twin ∧ (s.arm t n).casc = s.casc ∧ (s.arm t n).rst = s.rst ∧ (s.arm t n).mem = s.mem ∧ (s.arm t n).evr = s.evr ∧ (s.arm t n).upd = s.upd := ⟨rfl, rfl, rfl, rfl, rfl, rfl, rfl, rfl, rfl, rfl, rfl, rfl, rfl, rfl, rfl, rfl, rfl, rfl, rfl, rfl, rfl, rfl, rfl, rfl⟩

/-- `State.armOnce` changes only `timers`. -/
@[simp] theorem State.armOnce_frame (t : TimerId) (n : Nat) (s : State) :
    (s.armOnce t n).pending = s.pending ∧ (s.armOnce t n).now = s.now ∧ (s.armOnce t n).free = s.free ∧ (s.armOnce t n).arch = s.arch ∧ (s.armOnce t n).pins = s.pins ∧ (s.armOnce t n).tb = s.tb ∧ (s.armOnce t n).meas = s.meas ∧ (s.armOnce t n).lane = s.lane ∧ (s.armOnce t n).snap = s.snap ∧ (s.armOnce t n).phase = s.phase ∧ (s.armOnce t n).loop = s.loop ∧ (s.armOnce t n).shelf = s.shelf ∧ (s.armOnce t n).dist = s.dist ∧ (s.armOnce t n).bat = s.bat ∧ (s.armOnce t n).seq = s.seq ∧ (s.armOnce t n).thm = s.thm ∧ (s.armOnce t n).eng = s.eng ∧ (s.armOnce t n).net = s.net ∧ (s.armOnce t n).twin = s.twin ∧ (s.armOnce t n).casc = s.casc ∧ (s.armOnce t n).rst = s.rst ∧ (s.armOnce t n).mem = s.mem ∧ (s.armOnce t n).evr = s.evr ∧ (s.armOnce t n).upd = s.upd := by
  unfold State.armOnce; split <;> simp

/-- `State.armWhile` changes only `timers`. -/
@[simp] theorem State.armWhile_frame (c : Bool) (t : TimerId) (n : Nat) (s : State) :
    (s.armWhile c t n).pending = s.pending ∧ (s.armWhile c t n).now = s.now ∧ (s.armWhile c t n).free = s.free ∧ (s.armWhile c t n).arch = s.arch ∧ (s.armWhile c t n).pins = s.pins ∧ (s.armWhile c t n).tb = s.tb ∧ (s.armWhile c t n).meas = s.meas ∧ (s.armWhile c t n).lane = s.lane ∧ (s.armWhile c t n).snap = s.snap ∧ (s.armWhile c t n).phase = s.phase ∧ (s.armWhile c t n).loop = s.loop ∧ (s.armWhile c t n).shelf = s.shelf ∧ (s.armWhile c t n).dist = s.dist ∧ (s.armWhile c t n).bat = s.bat ∧ (s.armWhile c t n).seq = s.seq ∧ (s.armWhile c t n).thm = s.thm ∧ (s.armWhile c t n).eng = s.eng ∧ (s.armWhile c t n).net = s.net ∧ (s.armWhile c t n).twin = s.twin ∧ (s.armWhile c t n).casc = s.casc ∧ (s.armWhile c t n).rst = s.rst ∧ (s.armWhile c t n).mem = s.mem ∧ (s.armWhile c t n).evr = s.evr ∧ (s.armWhile c t n).upd = s.upd := by
  unfold State.armWhile; split <;> simp

/-- `State.modCh` changes only `meas`. -/
@[simp] theorem State.modCh_frame (k : Fin 48) (f : Channel → Channel) (s : State) :
    (s.modCh k f).pending = s.pending ∧ (s.modCh k f).now = s.now ∧ (s.modCh k f).timers = s.timers ∧ (s.modCh k f).free = s.free ∧ (s.modCh k f).arch = s.arch ∧ (s.modCh k f).pins = s.pins ∧ (s.modCh k f).tb = s.tb ∧ (s.modCh k f).lane = s.lane ∧ (s.modCh k f).snap = s.snap ∧ (s.modCh k f).phase = s.phase ∧ (s.modCh k f).loop = s.loop ∧ (s.modCh k f).shelf = s.shelf ∧ (s.modCh k f).dist = s.dist ∧ (s.modCh k f).bat = s.bat ∧ (s.modCh k f).seq = s.seq ∧ (s.modCh k f).thm = s.thm ∧ (s.modCh k f).eng = s.eng ∧ (s.modCh k f).net = s.net ∧ (s.modCh k f).twin = s.twin ∧ (s.modCh k f).casc = s.casc ∧ (s.modCh k f).rst = s.rst ∧ (s.modCh k f).mem = s.mem ∧ (s.modCh k f).evr = s.evr ∧ (s.modCh k f).upd = s.upd := ⟨rfl, rfl, rfl, rfl, rfl, rfl, rfl, rfl, rfl, rfl, rfl, rfl, rfl, rfl, rfl, rfl, rfl, rfl, rfl, rfl, rfl, rfl, rfl, rfl⟩

/-- `State.modModu` changes only `meas`. -/
@[simp] theorem State.modModu_frame (k : Fin 52) (f : Modulator → Modulator) (s : State) :
    (s.modModu k f).pending = s.pending ∧ (s.modModu k f).now = s.now ∧ (s.modModu k f).timers = s.timers ∧ (s.modModu k f).free = s.free ∧ (s.modModu k f).arch = s.arch ∧ (s.modModu k f).pins = s.pins ∧ (s.modModu k f).tb = s.tb ∧ (s.modModu k f).lane = s.lane ∧ (s.modModu k f).snap = s.snap ∧ (s.modModu k f).phase = s.phase ∧ (s.modModu k f).loop = s.loop ∧ (s.modModu k f).shelf = s.shelf ∧ (s.modModu k f).dist = s.dist ∧ (s.modModu k f).bat = s.bat ∧ (s.modModu k f).seq = s.seq ∧ (s.modModu k f).thm = s.thm ∧ (s.modModu k f).eng = s.eng ∧ (s.modModu k f).net = s.net ∧ (s.modModu k f).twin = s.twin ∧ (s.modModu k f).casc = s.casc ∧ (s.modModu k f).rst = s.rst ∧ (s.modModu k f).mem = s.mem ∧ (s.modModu k f).evr = s.evr ∧ (s.modModu k f).upd = s.upd := ⟨rfl, rfl, rfl, rfl, rfl, rfl, rfl, rfl, rfl, rfl, rfl, rfl, rfl, rfl, rfl, rfl, rfl, rfl, rfl, rfl, rfl, rfl, rfl, rfl⟩

/-- `State.modSlot` changes only `meas`. -/
@[simp] theorem State.modSlot_frame (k : Fin 4) (f : Slot → Slot) (s : State) :
    (s.modSlot k f).pending = s.pending ∧ (s.modSlot k f).now = s.now ∧ (s.modSlot k f).timers = s.timers ∧ (s.modSlot k f).free = s.free ∧ (s.modSlot k f).arch = s.arch ∧ (s.modSlot k f).pins = s.pins ∧ (s.modSlot k f).tb = s.tb ∧ (s.modSlot k f).lane = s.lane ∧ (s.modSlot k f).snap = s.snap ∧ (s.modSlot k f).phase = s.phase ∧ (s.modSlot k f).loop = s.loop ∧ (s.modSlot k f).shelf = s.shelf ∧ (s.modSlot k f).dist = s.dist ∧ (s.modSlot k f).bat = s.bat ∧ (s.modSlot k f).seq = s.seq ∧ (s.modSlot k f).thm = s.thm ∧ (s.modSlot k f).eng = s.eng ∧ (s.modSlot k f).net = s.net ∧ (s.modSlot k f).twin = s.twin ∧ (s.modSlot k f).casc = s.casc ∧ (s.modSlot k f).rst = s.rst ∧ (s.modSlot k f).mem = s.mem ∧ (s.modSlot k f).evr = s.evr ∧ (s.modSlot k f).upd = s.upd := ⟨rfl, rfl, rfl, rfl, rfl, rfl, rfl, rfl, rfl, rfl, rfl, rfl, rfl, rfl, rfl, rfl, rfl, rfl, rfl, rfl, rfl, rfl, rfl, rfl⟩

/-- `State.modLane` changes only `lane`. -/
@[simp] theorem State.modLane_frame (k : Fin 12) (f : Lane → Lane) (s : State) :
    (s.modLane k f).pending = s.pending ∧ (s.modLane k f).now = s.now ∧ (s.modLane k f).timers = s.timers ∧ (s.modLane k f).free = s.free ∧ (s.modLane k f).arch = s.arch ∧ (s.modLane k f).pins = s.pins ∧ (s.modLane k f).tb = s.tb ∧ (s.modLane k f).meas = s.meas ∧ (s.modLane k f).snap = s.snap ∧ (s.modLane k f).phase = s.phase ∧ (s.modLane k f).loop = s.loop ∧ (s.modLane k f).shelf = s.shelf ∧ (s.modLane k f).dist = s.dist ∧ (s.modLane k f).bat = s.bat ∧ (s.modLane k f).seq = s.seq ∧ (s.modLane k f).thm = s.thm ∧ (s.modLane k f).eng = s.eng ∧ (s.modLane k f).net = s.net ∧ (s.modLane k f).twin = s.twin ∧ (s.modLane k f).casc = s.casc ∧ (s.modLane k f).rst = s.rst ∧ (s.modLane k f).mem = s.mem ∧ (s.modLane k f).evr = s.evr ∧ (s.modLane k f).upd = s.upd := ⟨rfl, rfl, rfl, rfl, rfl, rfl, rfl, rfl, rfl, rfl, rfl, rfl, rfl, rfl, rfl, rfl, rfl, rfl, rfl, rfl, rfl, rfl, rfl, rfl⟩

/-- `State.modPhase` changes only `phase`. -/
@[simp] theorem State.modPhase_frame (k : Fin 32) (f : Phase → Phase) (s : State) :
    (s.modPhase k f).pending = s.pending ∧ (s.modPhase k f).now = s.now ∧ (s.modPhase k f).timers = s.timers ∧ (s.modPhase k f).free = s.free ∧ (s.modPhase k f).arch = s.arch ∧ (s.modPhase k f).pins = s.pins ∧ (s.modPhase k f).tb = s.tb ∧ (s.modPhase k f).meas = s.meas ∧ (s.modPhase k f).lane = s.lane ∧ (s.modPhase k f).snap = s.snap ∧ (s.modPhase k f).loop = s.loop ∧ (s.modPhase k f).shelf = s.shelf ∧ (s.modPhase k f).dist = s.dist ∧ (s.modPhase k f).bat = s.bat ∧ (s.modPhase k f).seq = s.seq ∧ (s.modPhase k f).thm = s.thm ∧ (s.modPhase k f).eng = s.eng ∧ (s.modPhase k f).net = s.net ∧ (s.modPhase k f).twin = s.twin ∧ (s.modPhase k f).casc = s.casc ∧ (s.modPhase k f).rst = s.rst ∧ (s.modPhase k f).mem = s.mem ∧ (s.modPhase k f).evr = s.evr ∧ (s.modPhase k f).upd = s.upd := ⟨rfl, rfl, rfl, rfl, rfl, rfl, rfl, rfl, rfl, rfl, rfl, rfl, rfl, rfl, rfl, rfl, rfl, rfl, rfl, rfl, rfl, rfl, rfl, rfl⟩

/-- `State.modLoop` changes only `loop`. -/
@[simp] theorem State.modLoop_frame (k : Fin 8) (f : Loop → Loop) (s : State) :
    (s.modLoop k f).pending = s.pending ∧ (s.modLoop k f).now = s.now ∧ (s.modLoop k f).timers = s.timers ∧ (s.modLoop k f).free = s.free ∧ (s.modLoop k f).arch = s.arch ∧ (s.modLoop k f).pins = s.pins ∧ (s.modLoop k f).tb = s.tb ∧ (s.modLoop k f).meas = s.meas ∧ (s.modLoop k f).lane = s.lane ∧ (s.modLoop k f).snap = s.snap ∧ (s.modLoop k f).phase = s.phase ∧ (s.modLoop k f).shelf = s.shelf ∧ (s.modLoop k f).dist = s.dist ∧ (s.modLoop k f).bat = s.bat ∧ (s.modLoop k f).seq = s.seq ∧ (s.modLoop k f).thm = s.thm ∧ (s.modLoop k f).eng = s.eng ∧ (s.modLoop k f).net = s.net ∧ (s.modLoop k f).twin = s.twin ∧ (s.modLoop k f).casc = s.casc ∧ (s.modLoop k f).rst = s.rst ∧ (s.modLoop k f).mem = s.mem ∧ (s.modLoop k f).evr = s.evr ∧ (s.modLoop k f).upd = s.upd := ⟨rfl, rfl, rfl, rfl, rfl, rfl, rfl, rfl, rfl, rfl, rfl, rfl, rfl, rfl, rfl, rfl, rfl, rfl, rfl, rfl, rfl, rfl, rfl, rfl⟩

/-- `State.modRec` changes only `shelf`. -/
@[simp] theorem State.modRec_frame (k : Fin 32) (f : Rectifier → Rectifier) (s : State) :
    (s.modRec k f).pending = s.pending ∧ (s.modRec k f).now = s.now ∧ (s.modRec k f).timers = s.timers ∧ (s.modRec k f).free = s.free ∧ (s.modRec k f).arch = s.arch ∧ (s.modRec k f).pins = s.pins ∧ (s.modRec k f).tb = s.tb ∧ (s.modRec k f).meas = s.meas ∧ (s.modRec k f).lane = s.lane ∧ (s.modRec k f).snap = s.snap ∧ (s.modRec k f).phase = s.phase ∧ (s.modRec k f).loop = s.loop ∧ (s.modRec k f).dist = s.dist ∧ (s.modRec k f).bat = s.bat ∧ (s.modRec k f).seq = s.seq ∧ (s.modRec k f).thm = s.thm ∧ (s.modRec k f).eng = s.eng ∧ (s.modRec k f).net = s.net ∧ (s.modRec k f).twin = s.twin ∧ (s.modRec k f).casc = s.casc ∧ (s.modRec k f).rst = s.rst ∧ (s.modRec k f).mem = s.mem ∧ (s.modRec k f).evr = s.evr ∧ (s.modRec k f).upd = s.upd := ⟨rfl, rfl, rfl, rfl, rfl, rfl, rfl, rfl, rfl, rfl, rfl, rfl, rfl, rfl, rfl, rfl, rfl, rfl, rfl, rfl, rfl, rfl, rfl, rfl⟩

/-- `State.modBr` changes only `dist`. -/
@[simp] theorem State.modBr_frame (k : Fin 16) (f : Branch → Branch) (s : State) :
    (s.modBr k f).pending = s.pending ∧ (s.modBr k f).now = s.now ∧ (s.modBr k f).timers = s.timers ∧ (s.modBr k f).free = s.free ∧ (s.modBr k f).arch = s.arch ∧ (s.modBr k f).pins = s.pins ∧ (s.modBr k f).tb = s.tb ∧ (s.modBr k f).meas = s.meas ∧ (s.modBr k f).lane = s.lane ∧ (s.modBr k f).snap = s.snap ∧ (s.modBr k f).phase = s.phase ∧ (s.modBr k f).loop = s.loop ∧ (s.modBr k f).shelf = s.shelf ∧ (s.modBr k f).bat = s.bat ∧ (s.modBr k f).seq = s.seq ∧ (s.modBr k f).thm = s.thm ∧ (s.modBr k f).eng = s.eng ∧ (s.modBr k f).net = s.net ∧ (s.modBr k f).twin = s.twin ∧ (s.modBr k f).casc = s.casc ∧ (s.modBr k f).rst = s.rst ∧ (s.modBr k f).mem = s.mem ∧ (s.modBr k f).evr = s.evr ∧ (s.modBr k f).upd = s.upd := ⟨rfl, rfl, rfl, rfl, rfl, rfl, rfl, rfl, rfl, rfl, rfl, rfl, rfl, rfl, rfl, rfl, rfl, rfl, rfl, rfl, rfl, rfl, rfl, rfl⟩

/-- `State.modFeed` changes only `dist`. -/
@[simp] theorem State.modFeed_frame (k : Fin 2) (f : FeedPair → FeedPair) (s : State) :
    (s.modFeed k f).pending = s.pending ∧ (s.modFeed k f).now = s.now ∧ (s.modFeed k f).timers = s.timers ∧ (s.modFeed k f).free = s.free ∧ (s.modFeed k f).arch = s.arch ∧ (s.modFeed k f).pins = s.pins ∧ (s.modFeed k f).tb = s.tb ∧ (s.modFeed k f).meas = s.meas ∧ (s.modFeed k f).lane = s.lane ∧ (s.modFeed k f).snap = s.snap ∧ (s.modFeed k f).phase = s.phase ∧ (s.modFeed k f).loop = s.loop ∧ (s.modFeed k f).shelf = s.shelf ∧ (s.modFeed k f).bat = s.bat ∧ (s.modFeed k f).seq = s.seq ∧ (s.modFeed k f).thm = s.thm ∧ (s.modFeed k f).eng = s.eng ∧ (s.modFeed k f).net = s.net ∧ (s.modFeed k f).twin = s.twin ∧ (s.modFeed k f).casc = s.casc ∧ (s.modFeed k f).rst = s.rst ∧ (s.modFeed k f).mem = s.mem ∧ (s.modFeed k f).evr = s.evr ∧ (s.modFeed k f).upd = s.upd := ⟨rfl, rfl, rfl, rfl, rfl, rfl, rfl, rfl, rfl, rfl, rfl, rfl, rfl, rfl, rfl, rfl, rfl, rfl, rfl, rfl, rfl, rfl, rfl, rfl⟩

/-- `State.modStr` changes only `bat`. -/
@[simp] theorem State.modStr_frame (k : Fin 4) (f : StringSt → StringSt) (s : State) :
    (s.modStr k f).pending = s.pending ∧ (s.modStr k f).now = s.now ∧ (s.modStr k f).timers = s.timers ∧ (s.modStr k f).free = s.free ∧ (s.modStr k f).arch = s.arch ∧ (s.modStr k f).pins = s.pins ∧ (s.modStr k f).tb = s.tb ∧ (s.modStr k f).meas = s.meas ∧ (s.modStr k f).lane = s.lane ∧ (s.modStr k f).snap = s.snap ∧ (s.modStr k f).phase = s.phase ∧ (s.modStr k f).loop = s.loop ∧ (s.modStr k f).shelf = s.shelf ∧ (s.modStr k f).dist = s.dist ∧ (s.modStr k f).seq = s.seq ∧ (s.modStr k f).thm = s.thm ∧ (s.modStr k f).eng = s.eng ∧ (s.modStr k f).net = s.net ∧ (s.modStr k f).twin = s.twin ∧ (s.modStr k f).casc = s.casc ∧ (s.modStr k f).rst = s.rst ∧ (s.modStr k f).mem = s.mem ∧ (s.modStr k f).evr = s.evr ∧ (s.modStr k f).upd = s.upd := ⟨rfl, rfl, rfl, rfl, rfl, rfl, rfl, rfl, rfl, rfl, rfl, rfl, rfl, rfl, rfl, rfl, rfl, rfl, rfl, rfl, rfl, rfl, rfl, rfl⟩

/-- `State.modRail` changes only `seq`. -/
@[simp] theorem State.modRail_frame (k : Fin 32) (f : Rail → Rail) (s : State) :
    (s.modRail k f).pending = s.pending ∧ (s.modRail k f).now = s.now ∧ (s.modRail k f).timers = s.timers ∧ (s.modRail k f).free = s.free ∧ (s.modRail k f).arch = s.arch ∧ (s.modRail k f).pins = s.pins ∧ (s.modRail k f).tb = s.tb ∧ (s.modRail k f).meas = s.meas ∧ (s.modRail k f).lane = s.lane ∧ (s.modRail k f).snap = s.snap ∧ (s.modRail k f).phase = s.phase ∧ (s.modRail k f).loop = s.loop ∧ (s.modRail k f).shelf = s.shelf ∧ (s.modRail k f).dist = s.dist ∧ (s.modRail k f).bat = s.bat ∧ (s.modRail k f).thm = s.thm ∧ (s.modRail k f).eng = s.eng ∧ (s.modRail k f).net = s.net ∧ (s.modRail k f).twin = s.twin ∧ (s.modRail k f).casc = s.casc ∧ (s.modRail k f).rst = s.rst ∧ (s.modRail k f).mem = s.mem ∧ (s.modRail k f).evr = s.evr ∧ (s.modRail k f).upd = s.upd := ⟨rfl, rfl, rfl, rfl, rfl, rfl, rfl, rfl, rfl, rfl, rfl, rfl, rfl, rfl, rfl, rfl, rfl, rfl, rfl, rfl, rfl, rfl, rfl, rfl⟩

/-- `State.modSensor` changes only `thm`. -/
@[simp] theorem State.modSensor_frame (k : Fin 16) (f : Sensor → Sensor) (s : State) :
    (s.modSensor k f).pending = s.pending ∧ (s.modSensor k f).now = s.now ∧ (s.modSensor k f).timers = s.timers ∧ (s.modSensor k f).free = s.free ∧ (s.modSensor k f).arch = s.arch ∧ (s.modSensor k f).pins = s.pins ∧ (s.modSensor k f).tb = s.tb ∧ (s.modSensor k f).meas = s.meas ∧ (s.modSensor k f).lane = s.lane ∧ (s.modSensor k f).snap = s.snap ∧ (s.modSensor k f).phase = s.phase ∧ (s.modSensor k f).loop = s.loop ∧ (s.modSensor k f).shelf = s.shelf ∧ (s.modSensor k f).dist = s.dist ∧ (s.modSensor k f).bat = s.bat ∧ (s.modSensor k f).seq = s.seq ∧ (s.modSensor k f).eng = s.eng ∧ (s.modSensor k f).net = s.net ∧ (s.modSensor k f).twin = s.twin ∧ (s.modSensor k f).casc = s.casc ∧ (s.modSensor k f).rst = s.rst ∧ (s.modSensor k f).mem = s.mem ∧ (s.modSensor k f).evr = s.evr ∧ (s.modSensor k f).upd = s.upd := ⟨rfl, rfl, rfl, rfl, rfl, rfl, rfl, rfl, rfl, rfl, rfl, rfl, rfl, rfl, rfl, rfl, rfl, rfl, rfl, rfl, rfl, rfl, rfl, rfl⟩

/-- `State.modEng` changes only `eng`. -/
@[simp] theorem State.modEng_frame (k : Fin 8) (f : Engine → Engine) (s : State) :
    (s.modEng k f).pending = s.pending ∧ (s.modEng k f).now = s.now ∧ (s.modEng k f).timers = s.timers ∧ (s.modEng k f).free = s.free ∧ (s.modEng k f).arch = s.arch ∧ (s.modEng k f).pins = s.pins ∧ (s.modEng k f).tb = s.tb ∧ (s.modEng k f).meas = s.meas ∧ (s.modEng k f).lane = s.lane ∧ (s.modEng k f).snap = s.snap ∧ (s.modEng k f).phase = s.phase ∧ (s.modEng k f).loop = s.loop ∧ (s.modEng k f).shelf = s.shelf ∧ (s.modEng k f).dist = s.dist ∧ (s.modEng k f).bat = s.bat ∧ (s.modEng k f).seq = s.seq ∧ (s.modEng k f).thm = s.thm ∧ (s.modEng k f).net = s.net ∧ (s.modEng k f).twin = s.twin ∧ (s.modEng k f).casc = s.casc ∧ (s.modEng k f).rst = s.rst ∧ (s.modEng k f).mem = s.mem ∧ (s.modEng k f).evr = s.evr ∧ (s.modEng k f).upd = s.upd := ⟨rfl, rfl, rfl, rfl, rfl, rfl, rfl, rfl, rfl, rfl, rfl, rfl, rfl, rfl, rfl, rfl, rfl, rfl, rfl, rfl, rfl, rfl, rfl, rfl⟩

/-- `State.modQueue` changes only `eng`. -/
@[simp] theorem State.modQueue_frame (k : Fin 64) (f : Queue → Queue) (s : State) :
    (s.modQueue k f).pending = s.pending ∧ (s.modQueue k f).now = s.now ∧ (s.modQueue k f).timers = s.timers ∧ (s.modQueue k f).free = s.free ∧ (s.modQueue k f).arch = s.arch ∧ (s.modQueue k f).pins = s.pins ∧ (s.modQueue k f).tb = s.tb ∧ (s.modQueue k f).meas = s.meas ∧ (s.modQueue k f).lane = s.lane ∧ (s.modQueue k f).snap = s.snap ∧ (s.modQueue k f).phase = s.phase ∧ (s.modQueue k f).loop = s.loop ∧ (s.modQueue k f).shelf = s.shelf ∧ (s.modQueue k f).dist = s.dist ∧ (s.modQueue k f).bat = s.bat ∧ (s.modQueue k f).seq = s.seq ∧ (s.modQueue k f).thm = s.thm ∧ (s.modQueue k f).net = s.net ∧ (s.modQueue k f).twin = s.twin ∧ (s.modQueue k f).casc = s.casc ∧ (s.modQueue k f).rst = s.rst ∧ (s.modQueue k f).mem = s.mem ∧ (s.modQueue k f).evr = s.evr ∧ (s.modQueue k f).upd = s.upd := ⟨rfl, rfl, rfl, rfl, rfl, rfl, rfl, rfl, rfl, rfl, rfl, rfl, rfl, rfl, rfl, rfl, rfl, rfl, rfl, rfl, rfl, rfl, rfl, rfl⟩

/-- `State.modSess` changes only `net`. -/
@[simp] theorem State.modSess_frame (k : Fin 3) (f : Sess → Sess) (s : State) :
    (s.modSess k f).pending = s.pending ∧ (s.modSess k f).now = s.now ∧ (s.modSess k f).timers = s.timers ∧ (s.modSess k f).free = s.free ∧ (s.modSess k f).arch = s.arch ∧ (s.modSess k f).pins = s.pins ∧ (s.modSess k f).tb = s.tb ∧ (s.modSess k f).meas = s.meas ∧ (s.modSess k f).lane = s.lane ∧ (s.modSess k f).snap = s.snap ∧ (s.modSess k f).phase = s.phase ∧ (s.modSess k f).loop = s.loop ∧ (s.modSess k f).shelf = s.shelf ∧ (s.modSess k f).dist = s.dist ∧ (s.modSess k f).bat = s.bat ∧ (s.modSess k f).seq = s.seq ∧ (s.modSess k f).thm = s.thm ∧ (s.modSess k f).eng = s.eng ∧ (s.modSess k f).twin = s.twin ∧ (s.modSess k f).casc = s.casc ∧ (s.modSess k f).rst = s.rst ∧ (s.modSess k f).mem = s.mem ∧ (s.modSess k f).evr = s.evr ∧ (s.modSess k f).upd = s.upd := ⟨rfl, rfl, rfl, rfl, rfl, rfl, rfl, rfl, rfl, rfl, rfl, rfl, rfl, rfl, rfl, rfl, rfl, rfl, rfl, rfl, rfl, rfl, rfl, rfl⟩

/-- `State.modPort` changes only `net`. -/
@[simp] theorem State.modPort_frame (k : Fin 2) (f : CanPort → CanPort) (s : State) :
    (s.modPort k f).pending = s.pending ∧ (s.modPort k f).now = s.now ∧ (s.modPort k f).timers = s.timers ∧ (s.modPort k f).free = s.free ∧ (s.modPort k f).arch = s.arch ∧ (s.modPort k f).pins = s.pins ∧ (s.modPort k f).tb = s.tb ∧ (s.modPort k f).meas = s.meas ∧ (s.modPort k f).lane = s.lane ∧ (s.modPort k f).snap = s.snap ∧ (s.modPort k f).phase = s.phase ∧ (s.modPort k f).loop = s.loop ∧ (s.modPort k f).shelf = s.shelf ∧ (s.modPort k f).dist = s.dist ∧ (s.modPort k f).bat = s.bat ∧ (s.modPort k f).seq = s.seq ∧ (s.modPort k f).thm = s.thm ∧ (s.modPort k f).eng = s.eng ∧ (s.modPort k f).twin = s.twin ∧ (s.modPort k f).casc = s.casc ∧ (s.modPort k f).rst = s.rst ∧ (s.modPort k f).mem = s.mem ∧ (s.modPort k f).evr = s.evr ∧ (s.modPort k f).upd = s.upd := ⟨rfl, rfl, rfl, rfl, rfl, rfl, rfl, rfl, rfl, rfl, rfl, rfl, rfl, rfl, rfl, rfl, rfl, rfl, rfl, rfl, rfl, rfl, rfl, rfl⟩

/-- `State.modPm` changes only `net`. -/
@[simp] theorem State.modPm_frame (k : Fin 32) (f : PmDev → PmDev) (s : State) :
    (s.modPm k f).pending = s.pending ∧ (s.modPm k f).now = s.now ∧ (s.modPm k f).timers = s.timers ∧ (s.modPm k f).free = s.free ∧ (s.modPm k f).arch = s.arch ∧ (s.modPm k f).pins = s.pins ∧ (s.modPm k f).tb = s.tb ∧ (s.modPm k f).meas = s.meas ∧ (s.modPm k f).lane = s.lane ∧ (s.modPm k f).snap = s.snap ∧ (s.modPm k f).phase = s.phase ∧ (s.modPm k f).loop = s.loop ∧ (s.modPm k f).shelf = s.shelf ∧ (s.modPm k f).dist = s.dist ∧ (s.modPm k f).bat = s.bat ∧ (s.modPm k f).seq = s.seq ∧ (s.modPm k f).thm = s.thm ∧ (s.modPm k f).eng = s.eng ∧ (s.modPm k f).twin = s.twin ∧ (s.modPm k f).casc = s.casc ∧ (s.modPm k f).rst = s.rst ∧ (s.modPm k f).mem = s.mem ∧ (s.modPm k f).evr = s.evr ∧ (s.modPm k f).upd = s.upd := ⟨rfl, rfl, rfl, rfl, rfl, rfl, rfl, rfl, rfl, rfl, rfl, rfl, rfl, rfl, rfl, rfl, rfl, rfl, rfl, rfl, rfl, rfl, rfl, rfl⟩

/-- `State.modTrig` changes only `evr`. -/
@[simp] theorem State.modTrig_frame (k : Fin 64) (f : Trigger → Trigger) (s : State) :
    (s.modTrig k f).pending = s.pending ∧ (s.modTrig k f).now = s.now ∧ (s.modTrig k f).timers = s.timers ∧ (s.modTrig k f).free = s.free ∧ (s.modTrig k f).arch = s.arch ∧ (s.modTrig k f).pins = s.pins ∧ (s.modTrig k f).tb = s.tb ∧ (s.modTrig k f).meas = s.meas ∧ (s.modTrig k f).lane = s.lane ∧ (s.modTrig k f).snap = s.snap ∧ (s.modTrig k f).phase = s.phase ∧ (s.modTrig k f).loop = s.loop ∧ (s.modTrig k f).shelf = s.shelf ∧ (s.modTrig k f).dist = s.dist ∧ (s.modTrig k f).bat = s.bat ∧ (s.modTrig k f).seq = s.seq ∧ (s.modTrig k f).thm = s.thm ∧ (s.modTrig k f).eng = s.eng ∧ (s.modTrig k f).net = s.net ∧ (s.modTrig k f).twin = s.twin ∧ (s.modTrig k f).casc = s.casc ∧ (s.modTrig k f).rst = s.rst ∧ (s.modTrig k f).mem = s.mem ∧ (s.modTrig k f).upd = s.upd := ⟨rfl, rfl, rfl, rfl, rfl, rfl, rfl, rfl, rfl, rfl, rfl, rfl, rfl, rfl, rfl, rfl, rfl, rfl, rfl, rfl, rfl, rfl, rfl, rfl⟩

/-- `State.modWin` changes only `evr`. -/
@[simp] theorem State.modWin_frame (k : Fin 3) (f : RecWindow → RecWindow) (s : State) :
    (s.modWin k f).pending = s.pending ∧ (s.modWin k f).now = s.now ∧ (s.modWin k f).timers = s.timers ∧ (s.modWin k f).free = s.free ∧ (s.modWin k f).arch = s.arch ∧ (s.modWin k f).pins = s.pins ∧ (s.modWin k f).tb = s.tb ∧ (s.modWin k f).meas = s.meas ∧ (s.modWin k f).lane = s.lane ∧ (s.modWin k f).snap = s.snap ∧ (s.modWin k f).phase = s.phase ∧ (s.modWin k f).loop = s.loop ∧ (s.modWin k f).shelf = s.shelf ∧ (s.modWin k f).dist = s.dist ∧ (s.modWin k f).bat = s.bat ∧ (s.modWin k f).seq = s.seq ∧ (s.modWin k f).thm = s.thm ∧ (s.modWin k f).eng = s.eng ∧ (s.modWin k f).net = s.net ∧ (s.modWin k f).twin = s.twin ∧ (s.modWin k f).casc = s.casc ∧ (s.modWin k f).rst = s.rst ∧ (s.modWin k f).mem = s.mem ∧ (s.modWin k f).upd = s.upd := ⟨rfl, rfl, rfl, rfl, rfl, rfl, rfl, rfl, rfl, rfl, rfl, rfl, rfl, rfl, rfl, rfl, rfl, rfl, rfl, rfl, rfl, rfl, rfl, rfl⟩

/-- `State.modGen` changes only `tb`. -/
@[simp] theorem State.modGen_frame (k : Fin 16) (f : GenTimer → GenTimer) (s : State) :
    (s.modGen k f).pending = s.pending ∧ (s.modGen k f).now = s.now ∧ (s.modGen k f).timers = s.timers ∧ (s.modGen k f).free = s.free ∧ (s.modGen k f).arch = s.arch ∧ (s.modGen k f).pins = s.pins ∧ (s.modGen k f).meas = s.meas ∧ (s.modGen k f).lane = s.lane ∧ (s.modGen k f).snap = s.snap ∧ (s.modGen k f).phase = s.phase ∧ (s.modGen k f).loop = s.loop ∧ (s.modGen k f).shelf = s.shelf ∧ (s.modGen k f).dist = s.dist ∧ (s.modGen k f).bat = s.bat ∧ (s.modGen k f).seq = s.seq ∧ (s.modGen k f).thm = s.thm ∧ (s.modGen k f).eng = s.eng ∧ (s.modGen k f).net = s.net ∧ (s.modGen k f).twin = s.twin ∧ (s.modGen k f).casc = s.casc ∧ (s.modGen k f).rst = s.rst ∧ (s.modGen k f).mem = s.mem ∧ (s.modGen k f).evr = s.evr ∧ (s.modGen k f).upd = s.upd := ⟨rfl, rfl, rfl, rfl, rfl, rfl, rfl, rfl, rfl, rfl, rfl, rfl, rfl, rfl, rfl, rfl, rfl, rfl, rfl, rfl, rfl, rfl, rfl, rfl⟩

/-- `State.setGate` changes only `pins`. -/
@[simp] theorem State.setGate_frame (k : Fin 24) (g : GateDrive) (s : State) :
    (s.setGate k g).pending = s.pending ∧ (s.setGate k g).now = s.now ∧ (s.setGate k g).timers = s.timers ∧ (s.setGate k g).free = s.free ∧ (s.setGate k g).arch = s.arch ∧ (s.setGate k g).tb = s.tb ∧ (s.setGate k g).meas = s.meas ∧ (s.setGate k g).lane = s.lane ∧ (s.setGate k g).snap = s.snap ∧ (s.setGate k g).phase = s.phase ∧ (s.setGate k g).loop = s.loop ∧ (s.setGate k g).shelf = s.shelf ∧ (s.setGate k g).dist = s.dist ∧ (s.setGate k g).bat = s.bat ∧ (s.setGate k g).seq = s.seq ∧ (s.setGate k g).thm = s.thm ∧ (s.setGate k g).eng = s.eng ∧ (s.setGate k g).net = s.net ∧ (s.setGate k g).twin = s.twin ∧ (s.setGate k g).casc = s.casc ∧ (s.setGate k g).rst = s.rst ∧ (s.setGate k g).mem = s.mem ∧ (s.setGate k g).evr = s.evr ∧ (s.setGate k g).upd = s.upd := ⟨rfl, rfl, rfl, rfl, rfl, rfl, rfl, rfl, rfl, rfl, rfl, rfl, rfl, rfl, rfl, rfl, rfl, rfl, rfl, rfl, rfl, rfl, rfl, rfl⟩

/-- `State.setPwm` changes only `pins`. -/
@[simp] theorem State.setPwm_frame (k : Fin 32) (p : PwmPin) (s : State) :
    (s.setPwm k p).pending = s.pending ∧ (s.setPwm k p).now = s.now ∧ (s.setPwm k p).timers = s.timers ∧ (s.setPwm k p).free = s.free ∧ (s.setPwm k p).arch = s.arch ∧ (s.setPwm k p).tb = s.tb ∧ (s.setPwm k p).meas = s.meas ∧ (s.setPwm k p).lane = s.lane ∧ (s.setPwm k p).snap = s.snap ∧ (s.setPwm k p).phase = s.phase ∧ (s.setPwm k p).loop = s.loop ∧ (s.setPwm k p).shelf = s.shelf ∧ (s.setPwm k p).dist = s.dist ∧ (s.setPwm k p).bat = s.bat ∧ (s.setPwm k p).seq = s.seq ∧ (s.setPwm k p).thm = s.thm ∧ (s.setPwm k p).eng = s.eng ∧ (s.setPwm k p).net = s.net ∧ (s.setPwm k p).twin = s.twin ∧ (s.setPwm k p).casc = s.casc ∧ (s.setPwm k p).rst = s.rst ∧ (s.setPwm k p).mem = s.mem ∧ (s.setPwm k p).evr = s.evr ∧ (s.setPwm k p).upd = s.upd := ⟨rfl, rfl, rfl, rfl, rfl, rfl, rfl, rfl, rfl, rfl, rfl, rfl, rfl, rfl, rfl, rfl, rfl, rfl, rfl, rfl, rfl, rfl, rfl, rfl⟩

/-- `State.answer` changes only `net`. -/
@[simp] theorem State.answer_frame (w : Session) (a : Answer) (s : State) :
    (s.answer w a).pending = s.pending ∧ (s.answer w a).now = s.now ∧ (s.answer w a).timers = s.timers ∧ (s.answer w a).free = s.free ∧ (s.answer w a).arch = s.arch ∧ (s.answer w a).pins = s.pins ∧ (s.answer w a).tb = s.tb ∧ (s.answer w a).meas = s.meas ∧ (s.answer w a).lane = s.lane ∧ (s.answer w a).snap = s.snap ∧ (s.answer w a).phase = s.phase ∧ (s.answer w a).loop = s.loop ∧ (s.answer w a).shelf = s.shelf ∧ (s.answer w a).dist = s.dist ∧ (s.answer w a).bat = s.bat ∧ (s.answer w a).seq = s.seq ∧ (s.answer w a).thm = s.thm ∧ (s.answer w a).eng = s.eng ∧ (s.answer w a).twin = s.twin ∧ (s.answer w a).casc = s.casc ∧ (s.answer w a).rst = s.rst ∧ (s.answer w a).mem = s.mem ∧ (s.answer w a).evr = s.evr ∧ (s.answer w a).upd = s.upd := ⟨rfl, rfl, rfl, rfl, rfl, rfl, rfl, rfl, rfl, rfl, rfl, rfl, rfl, rfl, rfl, rfl, rfl, rfl, rfl, rfl, rfl, rfl, rfl, rfl⟩

/-- `State.fireTriggers` changes only `evr`. -/
@[simp] theorem State.fireTriggers_frame (p : Fin 64 → Bool) (s : State) :
    (s.fireTriggers p).pending = s.pending ∧ (s.fireTriggers p).now = s.now ∧ (s.fireTriggers p).timers = s.timers ∧ (s.fireTriggers p).free = s.free ∧ (s.fireTriggers p).arch = s.arch ∧ (s.fireTriggers p).pins = s.pins ∧ (s.fireTriggers p).tb = s.tb ∧ (s.fireTriggers p).meas = s.meas ∧ (s.fireTriggers p).lane = s.lane ∧ (s.fireTriggers p).snap = s.snap ∧ (s.fireTriggers p).phase = s.phase ∧ (s.fireTriggers p).loop = s.loop ∧ (s.fireTriggers p).shelf = s.shelf ∧ (s.fireTriggers p).dist = s.dist ∧ (s.fireTriggers p).bat = s.bat ∧ (s.fireTriggers p).seq = s.seq ∧ (s.fireTriggers p).thm = s.thm ∧ (s.fireTriggers p).eng = s.eng ∧ (s.fireTriggers p).net = s.net ∧ (s.fireTriggers p).twin = s.twin ∧ (s.fireTriggers p).casc = s.casc ∧ (s.fireTriggers p).rst = s.rst ∧ (s.fireTriggers p).mem = s.mem ∧ (s.fireTriggers p).upd = s.upd := by
  unfold State.fireTriggers; simp

/-- `State.fireOnFault` changes only `evr`. -/
@[simp] theorem State.fireOnFault_frame (c : Nat) (s : State) :
    (s.fireOnFault c).pending = s.pending ∧ (s.fireOnFault c).now = s.now ∧ (s.fireOnFault c).timers = s.timers ∧ (s.fireOnFault c).free = s.free ∧ (s.fireOnFault c).arch = s.arch ∧ (s.fireOnFault c).pins = s.pins ∧ (s.fireOnFault c).tb = s.tb ∧ (s.fireOnFault c).meas = s.meas ∧ (s.fireOnFault c).lane = s.lane ∧ (s.fireOnFault c).snap = s.snap ∧ (s.fireOnFault c).phase = s.phase ∧ (s.fireOnFault c).loop = s.loop ∧ (s.fireOnFault c).shelf = s.shelf ∧ (s.fireOnFault c).dist = s.dist ∧ (s.fireOnFault c).bat = s.bat ∧ (s.fireOnFault c).seq = s.seq ∧ (s.fireOnFault c).thm = s.thm ∧ (s.fireOnFault c).eng = s.eng ∧ (s.fireOnFault c).net = s.net ∧ (s.fireOnFault c).twin = s.twin ∧ (s.fireOnFault c).casc = s.casc ∧ (s.fireOnFault c).rst = s.rst ∧ (s.fireOnFault c).mem = s.mem ∧ (s.fireOnFault c).upd = s.upd := by
  unfold State.fireOnFault; simp

/-- `State.registerChanged` changes only `timers`. -/
@[simp] theorem State.registerChanged_frame  (s : State) :
    (s.registerChanged).pending = s.pending ∧ (s.registerChanged).now = s.now ∧ (s.registerChanged).free = s.free ∧ (s.registerChanged).arch = s.arch ∧ (s.registerChanged).pins = s.pins ∧ (s.registerChanged).tb = s.tb ∧ (s.registerChanged).meas = s.meas ∧ (s.registerChanged).lane = s.lane ∧ (s.registerChanged).snap = s.snap ∧ (s.registerChanged).phase = s.phase ∧ (s.registerChanged).loop = s.loop ∧ (s.registerChanged).shelf = s.shelf ∧ (s.registerChanged).dist = s.dist ∧ (s.registerChanged).bat = s.bat ∧ (s.registerChanged).seq = s.seq ∧ (s.registerChanged).thm = s.thm ∧ (s.registerChanged).eng = s.eng ∧ (s.registerChanged).net = s.net ∧ (s.registerChanged).twin = s.twin ∧ (s.registerChanged).casc = s.casc ∧ (s.registerChanged).rst = s.rst ∧ (s.registerChanged).mem = s.mem ∧ (s.registerChanged).evr = s.evr ∧ (s.registerChanged).upd = s.upd := by
  unfold State.registerChanged State.each; simp only [List.finRange_succ, List.finRange_zero, List.map_cons, List.map_nil, List.foldl_cons, List.foldl_nil]; (repeat' split) <;> simp

/-- `State.flushBatch` changes only `net, timers`. -/
@[simp] theorem State.flushBatch_frame  (s : State) :
    (s.flushBatch).pending = s.pending ∧ (s.flushBatch).now = s.now ∧ (s.flushBatch).free = s.free ∧ (s.flushBatch).arch = s.arch ∧ (s.flushBatch).pins = s.pins ∧ (s.flushBatch).tb = s.tb ∧ (s.flushBatch).meas = s.meas ∧ (s.flushBatch).lane = s.lane ∧ (s.flushBatch).snap = s.snap ∧ (s.flushBatch).phase = s.phase ∧ (s.flushBatch).loop = s.loop ∧ (s.flushBatch).shelf = s.shelf ∧ (s.flushBatch).dist = s.dist ∧ (s.flushBatch).bat = s.bat ∧ (s.flushBatch).seq = s.seq ∧ (s.flushBatch).thm = s.thm ∧ (s.flushBatch).eng = s.eng ∧ (s.flushBatch).twin = s.twin ∧ (s.flushBatch).casc = s.casc ∧ (s.flushBatch).rst = s.rst ∧ (s.flushBatch).mem = s.mem ∧ (s.flushBatch).evr = s.evr ∧ (s.flushBatch).upd = s.upd := by
  unfold State.flushBatch; dsimp only; split <;> simp

/-- `State.batchFault` changes only `net, timers`. -/
@[simp] theorem State.batchFault_frame (e : ErrEntry) (s : State) :
    (s.batchFault e).pending = s.pending ∧ (s.batchFault e).now = s.now ∧ (s.batchFault e).free = s.free ∧ (s.batchFault e).arch = s.arch ∧ (s.batchFault e).pins = s.pins ∧ (s.batchFault e).tb = s.tb ∧ (s.batchFault e).meas = s.meas ∧ (s.batchFault e).lane = s.lane ∧ (s.batchFault e).snap = s.snap ∧ (s.batchFault e).phase = s.phase ∧ (s.batchFault e).loop = s.loop ∧ (s.batchFault e).shelf = s.shelf ∧ (s.batchFault e).dist = s.dist ∧ (s.batchFault e).bat = s.bat ∧ (s.batchFault e).seq = s.seq ∧ (s.batchFault e).thm = s.thm ∧ (s.batchFault e).eng = s.eng ∧ (s.batchFault e).twin = s.twin ∧ (s.batchFault e).casc = s.casc ∧ (s.batchFault e).rst = s.rst ∧ (s.batchFault e).mem = s.mem ∧ (s.batchFault e).evr = s.evr ∧ (s.batchFault e).upd = s.upd := by
  unfold State.batchFault; dsimp only; split <;> simp

/-- `State.queueRecord` changes only `evr, net, timers`. -/
@[simp] theorem State.queueRecord_frame (r : Record) (s : State) :
    (s.queueRecord r).pending = s.pending ∧ (s.queueRecord r).now = s.now ∧ (s.queueRecord r).free = s.free ∧ (s.queueRecord r).arch = s.arch ∧ (s.queueRecord r).pins = s.pins ∧ (s.queueRecord r).tb = s.tb ∧ (s.queueRecord r).meas = s.meas ∧ (s.queueRecord r).lane = s.lane ∧ (s.queueRecord r).snap = s.snap ∧ (s.queueRecord r).phase = s.phase ∧ (s.queueRecord r).loop = s.loop ∧ (s.queueRecord r).shelf = s.shelf ∧ (s.queueRecord r).dist = s.dist ∧ (s.queueRecord r).bat = s.bat ∧ (s.queueRecord r).seq = s.seq ∧ (s.queueRecord r).thm = s.thm ∧ (s.queueRecord r).eng = s.eng ∧ (s.queueRecord r).twin = s.twin ∧ (s.queueRecord r).casc = s.casc ∧ (s.queueRecord r).rst = s.rst ∧ (s.queueRecord r).mem = s.mem ∧ (s.queueRecord r).upd = s.upd := by
  unfold State.queueRecord; dsimp only; (repeat' split) <;> simp

/-- `State.raise` changes only `evr, net, timers`. -/
@[simp] theorem State.raise_frame (c i : Nat) (v : List Nat) (s : State) :
    (s.raise c i v).pending = s.pending ∧ (s.raise c i v).now = s.now ∧ (s.raise c i v).free = s.free ∧ (s.raise c i v).arch = s.arch ∧ (s.raise c i v).pins = s.pins ∧ (s.raise c i v).tb = s.tb ∧ (s.raise c i v).meas = s.meas ∧ (s.raise c i v).lane = s.lane ∧ (s.raise c i v).snap = s.snap ∧ (s.raise c i v).phase = s.phase ∧ (s.raise c i v).loop = s.loop ∧ (s.raise c i v).shelf = s.shelf ∧ (s.raise c i v).dist = s.dist ∧ (s.raise c i v).bat = s.bat ∧ (s.raise c i v).seq = s.seq ∧ (s.raise c i v).thm = s.thm ∧ (s.raise c i v).eng = s.eng ∧ (s.raise c i v).twin = s.twin ∧ (s.raise c i v).casc = s.casc ∧ (s.raise c i v).rst = s.rst ∧ (s.raise c i v).mem = s.mem ∧ (s.raise c i v).upd = s.upd := by
  unfold State.raise; dsimp only; split <;> simp

/-- `State.raiseLimited` changes only `evr, net, timers`. -/
@[simp] theorem State.raiseLimited_frame (c i : Nat) (v : List Nat) (s : State) :
    (s.raiseLimited c i v).pending = s.pending ∧ (s.raiseLimited c i v).now = s.now ∧ (s.raiseLimited c i v).free = s.free ∧ (s.raiseLimited c i v).arch = s.arch ∧ (s.raiseLimited c i v).pins = s.pins ∧ (s.raiseLimited c i v).tb = s.tb ∧ (s.raiseLimited c i v).meas = s.meas ∧ (s.raiseLimited c i v).lane = s.lane ∧ (s.raiseLimited c i v).snap = s.snap ∧ (s.raiseLimited c i v).phase = s.phase ∧ (s.raiseLimited c i v).loop = s.loop ∧ (s.raiseLimited c i v).shelf = s.shelf ∧ (s.raiseLimited c i v).dist = s.dist ∧ (s.raiseLimited c i v).bat = s.bat ∧ (s.raiseLimited c i v).seq = s.seq ∧ (s.raiseLimited c i v).thm = s.thm ∧ (s.raiseLimited c i v).eng = s.eng ∧ (s.raiseLimited c i v).twin = s.twin ∧ (s.raiseLimited c i v).casc = s.casc ∧ (s.raiseLimited c i v).rst = s.rst ∧ (s.raiseLimited c i v).mem = s.mem ∧ (s.raiseLimited c i v).upd = s.upd := by
  unfold State.raiseLimited; split <;> simp

/-- A part of a choice between states. -/
@[simp] theorem State.ite_part (c : Prop) [Decidable c] (a b : State) :
    (if c then a else b).pending = (if c then a.pending else b.pending) ∧
    (if c then a else b).now = (if c then a.now else b.now) ∧
    (if c then a else b).timers = (if c then a.timers else b.timers) ∧
    (if c then a else b).free = (if c then a.free else b.free) ∧
    (if c then a else b).arch = (if c then a.arch else b.arch) ∧
    (if c then a else b).pins = (if c then a.pins else b.pins) ∧
    (if c then a else b).tb = (if c then a.tb else b.tb) ∧
    (if c then a else b).meas = (if c then a.meas else b.meas) ∧
    (if c then a else b).lane = (if c then a.lane else b.lane) ∧
    (if c then a else b).snap = (if c then a.snap else b.snap) ∧
    (if c then a else b).phase = (if c then a.phase else b.phase) ∧
    (if c then a else b).loop = (if c then a.loop else b.loop) ∧
    (if c then a else b).shelf = (if c then a.shelf else b.shelf) ∧
    (if c then a else b).dist = (if c then a.dist else b.dist) ∧
    (if c then a else b).bat = (if c then a.bat else b.bat) ∧
    (if c then a else b).seq = (if c then a.seq else b.seq) ∧
    (if c then a else b).thm = (if c then a.thm else b.thm) ∧
    (if c then a else b).eng = (if c then a.eng else b.eng) ∧
    (if c then a else b).net = (if c then a.net else b.net) ∧
    (if c then a else b).twin = (if c then a.twin else b.twin) ∧
    (if c then a else b).casc = (if c then a.casc else b.casc) ∧
    (if c then a else b).rst = (if c then a.rst else b.rst) ∧
    (if c then a else b).mem = (if c then a.mem else b.mem) ∧
    (if c then a else b).evr = (if c then a.evr else b.evr) ∧
    (if c then a else b).upd = (if c then a.upd else b.upd) := by
  split <;> simp

/-- A part after a step under a condition. -/
@[simp] theorem State.when_part (c : Bool) (f : State → State) (s : State) :
    (State.when c f s).pending = (if c then (f s).pending else s.pending) ∧
    (State.when c f s).now = (if c then (f s).now else s.now) ∧
    (State.when c f s).timers = (if c then (f s).timers else s.timers) ∧
    (State.when c f s).free = (if c then (f s).free else s.free) ∧
    (State.when c f s).arch = (if c then (f s).arch else s.arch) ∧
    (State.when c f s).pins = (if c then (f s).pins else s.pins) ∧
    (State.when c f s).tb = (if c then (f s).tb else s.tb) ∧
    (State.when c f s).meas = (if c then (f s).meas else s.meas) ∧
    (State.when c f s).lane = (if c then (f s).lane else s.lane) ∧
    (State.when c f s).snap = (if c then (f s).snap else s.snap) ∧
    (State.when c f s).phase = (if c then (f s).phase else s.phase) ∧
    (State.when c f s).loop = (if c then (f s).loop else s.loop) ∧
    (State.when c f s).shelf = (if c then (f s).shelf else s.shelf) ∧
    (State.when c f s).dist = (if c then (f s).dist else s.dist) ∧
    (State.when c f s).bat = (if c then (f s).bat else s.bat) ∧
    (State.when c f s).seq = (if c then (f s).seq else s.seq) ∧
    (State.when c f s).thm = (if c then (f s).thm else s.thm) ∧
    (State.when c f s).eng = (if c then (f s).eng else s.eng) ∧
    (State.when c f s).net = (if c then (f s).net else s.net) ∧
    (State.when c f s).twin = (if c then (f s).twin else s.twin) ∧
    (State.when c f s).casc = (if c then (f s).casc else s.casc) ∧
    (State.when c f s).rst = (if c then (f s).rst else s.rst) ∧
    (State.when c f s).mem = (if c then (f s).mem else s.mem) ∧
    (State.when c f s).evr = (if c then (f s).evr else s.evr) ∧
    (State.when c f s).upd = (if c then (f s).upd else s.upd) := by
  unfold State.when; split <;> simp

/-- A part that no step of a walk over a list changes stands after the walk. -/
theorem State.each_keeps {α β : Type} (g : State → β) (f : α → State → State) (l : List α) (s : State)
    (h : ∀ a s, g (f a s) = g s) : g (State.each l f s) = g s := by
  unfold State.each
  induction l generalizing s with
  | nil => rfl
  | cons a l ih => simp only [List.foldl_cons]; rw [ih, h]

/-- `State.each_keeps` for `pending`. -/
@[simp] theorem State.each_pending {α : Type} (f : α → State → State) (l : List α) (s : State)
    (h : ∀ a s, (f a s).pending = s.pending) : (State.each l f s).pending = s.pending := State.each_keeps (·.pending) f l s h

/-- `State.each_keeps` for `now`. -/
@[simp] theorem State.each_now {α : Type} (f : α → State → State) (l : List α) (s : State)
    (h : ∀ a s, (f a s).now = s.now) : (State.each l f s).now = s.now := State.each_keeps (·.now) f l s h

/-- `State.each_keeps` for `timers`. -/
@[simp] theorem State.each_timers {α : Type} (f : α → State → State) (l : List α) (s : State)
    (h : ∀ a s, (f a s).timers = s.timers) : (State.each l f s).timers = s.timers := State.each_keeps (·.timers) f l s h

/-- `State.each_keeps` for `free`. -/
@[simp] theorem State.each_free {α : Type} (f : α → State → State) (l : List α) (s : State)
    (h : ∀ a s, (f a s).free = s.free) : (State.each l f s).free = s.free := State.each_keeps (·.free) f l s h

/-- `State.each_keeps` for `arch`. -/
@[simp] theorem State.each_arch {α : Type} (f : α → State → State) (l : List α) (s : State)
    (h : ∀ a s, (f a s).arch = s.arch) : (State.each l f s).arch = s.arch := State.each_keeps (·.arch) f l s h

/-- `State.each_keeps` for `pins`. -/
@[simp] theorem State.each_pins {α : Type} (f : α → State → State) (l : List α) (s : State)
    (h : ∀ a s, (f a s).pins = s.pins) : (State.each l f s).pins = s.pins := State.each_keeps (·.pins) f l s h

/-- `State.each_keeps` for `tb`. -/
@[simp] theorem State.each_tb {α : Type} (f : α → State → State) (l : List α) (s : State)
    (h : ∀ a s, (f a s).tb = s.tb) : (State.each l f s).tb = s.tb := State.each_keeps (·.tb) f l s h

/-- `State.each_keeps` for `meas`. -/
@[simp] theorem State.each_meas {α : Type} (f : α → State → State) (l : List α) (s : State)
    (h : ∀ a s, (f a s).meas = s.meas) : (State.each l f s).meas = s.meas := State.each_keeps (·.meas) f l s h

/-- `State.each_keeps` for `lane`. -/
@[simp] theorem State.each_lane {α : Type} (f : α → State → State) (l : List α) (s : State)
    (h : ∀ a s, (f a s).lane = s.lane) : (State.each l f s).lane = s.lane := State.each_keeps (·.lane) f l s h

/-- `State.each_keeps` for `snap`. -/
@[simp] theorem State.each_snap {α : Type} (f : α → State → State) (l : List α) (s : State)
    (h : ∀ a s, (f a s).snap = s.snap) : (State.each l f s).snap = s.snap := State.each_keeps (·.snap) f l s h

/-- `State.each_keeps` for `phase`. -/
@[simp] theorem State.each_phase {α : Type} (f : α → State → State) (l : List α) (s : State)
    (h : ∀ a s, (f a s).phase = s.phase) : (State.each l f s).phase = s.phase := State.each_keeps (·.phase) f l s h

/-- `State.each_keeps` for `loop`. -/
@[simp] theorem State.each_loop {α : Type} (f : α → State → State) (l : List α) (s : State)
    (h : ∀ a s, (f a s).loop = s.loop) : (State.each l f s).loop = s.loop := State.each_keeps (·.loop) f l s h

/-- `State.each_keeps` for `shelf`. -/
@[simp] theorem State.each_shelf {α : Type} (f : α → State → State) (l : List α) (s : State)
    (h : ∀ a s, (f a s).shelf = s.shelf) : (State.each l f s).shelf = s.shelf := State.each_keeps (·.shelf) f l s h

/-- `State.each_keeps` for `dist`. -/
@[simp] theorem State.each_dist {α : Type} (f : α → State → State) (l : List α) (s : State)
    (h : ∀ a s, (f a s).dist = s.dist) : (State.each l f s).dist = s.dist := State.each_keeps (·.dist) f l s h

/-- `State.each_keeps` for `bat`. -/
@[simp] theorem State.each_bat {α : Type} (f : α → State → State) (l : List α) (s : State)
    (h : ∀ a s, (f a s).bat = s.bat) : (State.each l f s).bat = s.bat := State.each_keeps (·.bat) f l s h

/-- `State.each_keeps` for `seq`. -/
@[simp] theorem State.each_seq {α : Type} (f : α → State → State) (l : List α) (s : State)
    (h : ∀ a s, (f a s).seq = s.seq) : (State.each l f s).seq = s.seq := State.each_keeps (·.seq) f l s h

/-- `State.each_keeps` for `thm`. -/
@[simp] theorem State.each_thm {α : Type} (f : α → State → State) (l : List α) (s : State)
    (h : ∀ a s, (f a s).thm = s.thm) : (State.each l f s).thm = s.thm := State.each_keeps (·.thm) f l s h

/-- `State.each_keeps` for `eng`. -/
@[simp] theorem State.each_eng {α : Type} (f : α → State → State) (l : List α) (s : State)
    (h : ∀ a s, (f a s).eng = s.eng) : (State.each l f s).eng = s.eng := State.each_keeps (·.eng) f l s h

/-- `State.each_keeps` for `net`. -/
@[simp] theorem State.each_net {α : Type} (f : α → State → State) (l : List α) (s : State)
    (h : ∀ a s, (f a s).net = s.net) : (State.each l f s).net = s.net := State.each_keeps (·.net) f l s h

/-- `State.each_keeps` for `twin`. -/
@[simp] theorem State.each_twin {α : Type} (f : α → State → State) (l : List α) (s : State)
    (h : ∀ a s, (f a s).twin = s.twin) : (State.each l f s).twin = s.twin := State.each_keeps (·.twin) f l s h

/-- `State.each_keeps` for `casc`. -/
@[simp] theorem State.each_casc {α : Type} (f : α → State → State) (l : List α) (s : State)
    (h : ∀ a s, (f a s).casc = s.casc) : (State.each l f s).casc = s.casc := State.each_keeps (·.casc) f l s h

/-- `State.each_keeps` for `rst`. -/
@[simp] theorem State.each_rst {α : Type} (f : α → State → State) (l : List α) (s : State)
    (h : ∀ a s, (f a s).rst = s.rst) : (State.each l f s).rst = s.rst := State.each_keeps (·.rst) f l s h

/-- `State.each_keeps` for `mem`. -/
@[simp] theorem State.each_mem {α : Type} (f : α → State → State) (l : List α) (s : State)
    (h : ∀ a s, (f a s).mem = s.mem) : (State.each l f s).mem = s.mem := State.each_keeps (·.mem) f l s h

/-- `State.each_keeps` for `evr`. -/
@[simp] theorem State.each_evr {α : Type} (f : α → State → State) (l : List α) (s : State)
    (h : ∀ a s, (f a s).evr = s.evr) : (State.each l f s).evr = s.evr := State.each_keeps (·.evr) f l s h

/-- `State.each_keeps` for `upd`. -/
@[simp] theorem State.each_upd {α : Type} (f : α → State → State) (l : List α) (s : State)
    (h : ∀ a s, (f a s).upd = s.upd) : (State.each l f s).upd = s.upd := State.each_keeps (·.upd) f l s h

end Sys2Proof.Machine
end

