-- ==== Sys2Proof/Laws/Frame.lean ====
section
/-! SUPPORT. What each operation of the machine leaves as it was: one equation for each part of the state that it does not write. -/

namespace Sys2Proof.Machine

@[simp] theorem State.setForce_frame (idx sub v : Nat) (s : State) :
    (State.setForce idx sub v s).pending = s.pending ∧ (State.setForce idx sub v s).now = s.now ∧ (State.setForce idx sub v s).timers = s.timers ∧ (State.setForce idx sub v s).free = s.free ∧ (State.setForce idx sub v s).arch = s.arch ∧ (State.setForce idx sub v s).pins = s.pins ∧ (State.setForce idx sub v s).tb = s.tb ∧ (State.setForce idx sub v s).lane = s.lane ∧ (State.setForce idx sub v s).snap = s.snap ∧ (State.setForce idx sub v s).phase = s.phase ∧ (State.setForce idx sub v s).loop = s.loop ∧ (State.setForce idx sub v s).shelf = s.shelf ∧ (State.setForce idx sub v s).dist = s.dist ∧ (State.setForce idx sub v s).bat = s.bat ∧ (State.setForce idx sub v s).seq = s.seq ∧ (State.setForce idx sub v s).thm = s.thm ∧ (State.setForce idx sub v s).eng = s.eng ∧ (State.setForce idx sub v s).twin = s.twin ∧ (State.setForce idx sub v s).casc = s.casc ∧ (State.setForce idx sub v s).rst = s.rst ∧ (State.setForce idx sub v s).mem = s.mem ∧ (State.setForce idx sub v s).evr = s.evr ∧ (State.setForce idx sub v s).upd = s.upd := by
  unfold State.setForce; (try dsimp only); (repeat' split) <;> simp

@[simp] theorem State.setRw_frame (idx sub v : Nat) (s : State) :
    (State.setRw idx sub v s).pending = s.pending ∧ (State.setRw idx sub v s).now = s.now ∧ (State.setRw idx sub v s).timers = s.timers ∧ (State.setRw idx sub v s).free = s.free ∧ (State.setRw idx sub v s).arch = s.arch ∧ (State.setRw idx sub v s).pins = s.pins ∧ (State.setRw idx sub v s).tb = s.tb ∧ (State.setRw idx sub v s).meas = s.meas ∧ (State.setRw idx sub v s).lane = s.lane ∧ (State.setRw idx sub v s).snap = s.snap ∧ (State.setRw idx sub v s).phase = s.phase ∧ (State.setRw idx sub v s).loop = s.loop ∧ (State.setRw idx sub v s).shelf = s.shelf ∧ (State.setRw idx sub v s).dist = s.dist ∧ (State.setRw idx sub v s).bat = s.bat ∧ (State.setRw idx sub v s).seq = s.seq ∧ (State.setRw idx sub v s).thm = s.thm ∧ (State.setRw idx sub v s).eng = s.eng ∧ (State.setRw idx sub v s).twin = s.twin ∧ (State.setRw idx sub v s).casc = s.casc ∧ (State.setRw idx sub v s).rst = s.rst ∧ (State.setRw idx sub v s).mem = s.mem ∧ (State.setRw idx sub v s).evr = s.evr ∧ (State.setRw idx sub v s).upd = s.upd := by
  unfold State.setRw; (try dsimp only); (repeat' split) <;> simp

@[simp] theorem State.copiesAtLoad_frame (part : Nat) (a b : Bool) (s : State) :
    (State.copiesAtLoad part a b s).pending = s.pending ∧ (State.copiesAtLoad part a b s).now = s.now ∧ (State.copiesAtLoad part a b s).free = s.free ∧ (State.copiesAtLoad part a b s).arch = s.arch ∧ (State.copiesAtLoad part a b s).pins = s.pins ∧ (State.copiesAtLoad part a b s).tb = s.tb ∧ (State.copiesAtLoad part a b s).meas = s.meas ∧ (State.copiesAtLoad part a b s).lane = s.lane ∧ (State.copiesAtLoad part a b s).snap = s.snap ∧ (State.copiesAtLoad part a b s).phase = s.phase ∧ (State.copiesAtLoad part a b s).loop = s.loop ∧ (State.copiesAtLoad part a b s).shelf = s.shelf ∧ (State.copiesAtLoad part a b s).dist = s.dist ∧ (State.copiesAtLoad part a b s).bat = s.bat ∧ (State.copiesAtLoad part a b s).seq = s.seq ∧ (State.copiesAtLoad part a b s).thm = s.thm ∧ (State.copiesAtLoad part a b s).eng = s.eng ∧ (State.copiesAtLoad part a b s).twin = s.twin ∧ (State.copiesAtLoad part a b s).casc = s.casc ∧ (State.copiesAtLoad part a b s).rst = s.rst ∧ (State.copiesAtLoad part a b s).mem = s.mem ∧ (State.copiesAtLoad part a b s).upd = s.upd := by
  unfold State.copiesAtLoad; (try dsimp only); (repeat' split) <;> simp

@[simp] theorem State.irqRefresh_frame  (s : State) :
    (State.irqRefresh s).pending = s.pending ∧ (State.irqRefresh s).now = s.now ∧ (State.irqRefresh s).timers = s.timers ∧ (State.irqRefresh s).free = s.free ∧ (State.irqRefresh s).arch = s.arch ∧ (State.irqRefresh s).tb = s.tb ∧ (State.irqRefresh s).meas = s.meas ∧ (State.irqRefresh s).lane = s.lane ∧ (State.irqRefresh s).snap = s.snap ∧ (State.irqRefresh s).phase = s.phase ∧ (State.irqRefresh s).loop = s.loop ∧ (State.irqRefresh s).shelf = s.shelf ∧ (State.irqRefresh s).dist = s.dist ∧ (State.irqRefresh s).bat = s.bat ∧ (State.irqRefresh s).seq = s.seq ∧ (State.irqRefresh s).thm = s.thm ∧ (State.irqRefresh s).eng = s.eng ∧ (State.irqRefresh s).net = s.net ∧ (State.irqRefresh s).twin = s.twin ∧ (State.irqRefresh s).casc = s.casc ∧ (State.irqRefresh s).rst = s.rst ∧ (State.irqRefresh s).mem = s.mem ∧ (State.irqRefresh s).evr = s.evr ∧ (State.irqRefresh s).upd = s.upd := by
  unfold State.irqRefresh; (try dsimp only); (repeat' split) <;> simp

@[simp] theorem State.ring_frame (i : Fin 11) (b : Nat) (s : State) :
    (State.ring i b s).pending = s.pending ∧ (State.ring i b s).now = s.now ∧ (State.ring i b s).timers = s.timers ∧ (State.ring i b s).free = s.free ∧ (State.ring i b s).arch = s.arch ∧ (State.ring i b s).tb = s.tb ∧ (State.ring i b s).meas = s.meas ∧ (State.ring i b s).lane = s.lane ∧ (State.ring i b s).snap = s.snap ∧ (State.ring i b s).phase = s.phase ∧ (State.ring i b s).loop = s.loop ∧ (State.ring i b s).shelf = s.shelf ∧ (State.ring i b s).dist = s.dist ∧ (State.ring i b s).bat = s.bat ∧ (State.ring i b s).seq = s.seq ∧ (State.ring i b s).thm = s.thm ∧ (State.ring i b s).net = s.net ∧ (State.ring i b s).twin = s.twin ∧ (State.ring i b s).casc = s.casc ∧ (State.ring i b s).rst = s.rst ∧ (State.ring i b s).mem = s.mem ∧ (State.ring i b s).evr = s.evr ∧ (State.ring i b s).upd = s.upd := by
  unfold State.ring; (try dsimp only); (repeat' split) <;> simp

@[simp] theorem State.pmLet_frame (p : Fin 2) (s : State) :
    (State.pmLet p s).pending = s.pending ∧ (State.pmLet p s).now = s.now ∧ (State.pmLet p s).free = s.free ∧ (State.pmLet p s).arch = s.arch ∧ (State.pmLet p s).tb = s.tb ∧ (State.pmLet p s).meas = s.meas ∧ (State.pmLet p s).lane = s.lane ∧ (State.pmLet p s).snap = s.snap ∧ (State.pmLet p s).phase = s.phase ∧ (State.pmLet p s).loop = s.loop ∧ (State.pmLet p s).shelf = s.shelf ∧ (State.pmLet p s).dist = s.dist ∧ (State.pmLet p s).bat = s.bat ∧ (State.pmLet p s).seq = s.seq ∧ (State.pmLet p s).thm = s.thm ∧ (State.pmLet p s).eng = s.eng ∧ (State.pmLet p s).twin = s.twin ∧ (State.pmLet p s).casc = s.casc ∧ (State.pmLet p s).rst = s.rst ∧ (State.pmLet p s).mem = s.mem ∧ (State.pmLet p s).evr = s.evr ∧ (State.pmLet p s).upd = s.upd := by
  unfold State.pmLet; (try dsimp only); (repeat' split) <;> simp

@[simp] theorem State.pwmOff_frame  (s : State) :
    (State.pwmOff s).pending = s.pending ∧ (State.pwmOff s).now = s.now ∧ (State.pwmOff s).timers = s.timers ∧ (State.pwmOff s).free = s.free ∧ (State.pwmOff s).arch = s.arch ∧ (State.pwmOff s).tb = s.tb ∧ (State.pwmOff s).meas = s.meas ∧ (State.pwmOff s).lane = s.lane ∧ (State.pwmOff s).snap = s.snap ∧ (State.pwmOff s).phase = s.phase ∧ (State.pwmOff s).loop = s.loop ∧ (State.pwmOff s).shelf = s.shelf ∧ (State.pwmOff s).dist = s.dist ∧ (State.pwmOff s).bat = s.bat ∧ (State.pwmOff s).seq = s.seq ∧ (State.pwmOff s).thm = s.thm ∧ (State.pwmOff s).eng = s.eng ∧ (State.pwmOff s).net = s.net ∧ (State.pwmOff s).twin = s.twin ∧ (State.pwmOff s).casc = s.casc ∧ (State.pwmOff s).rst = s.rst ∧ (State.pwmOff s).mem = s.mem ∧ (State.pwmOff s).evr = s.evr ∧ (State.pwmOff s).upd = s.upd := by
  unfold State.pwmOff; (try dsimp only); (repeat' split) <;> simp

@[simp] theorem State.gatesLow_frame  (s : State) :
    (State.gatesLow s).pending = s.pending ∧ (State.gatesLow s).now = s.now ∧ (State.gatesLow s).timers = s.timers ∧ (State.gatesLow s).free = s.free ∧ (State.gatesLow s).arch = s.arch ∧ (State.gatesLow s).tb = s.tb ∧ (State.gatesLow s).meas = s.meas ∧ (State.gatesLow s).lane = s.lane ∧ (State.gatesLow s).snap = s.snap ∧ (State.gatesLow s).phase = s.phase ∧ (State.gatesLow s).loop = s.loop ∧ (State.gatesLow s).shelf = s.shelf ∧ (State.gatesLow s).dist = s.dist ∧ (State.gatesLow s).bat = s.bat ∧ (State.gatesLow s).seq = s.seq ∧ (State.gatesLow s).thm = s.thm ∧ (State.gatesLow s).eng = s.eng ∧ (State.gatesLow s).net = s.net ∧ (State.gatesLow s).twin = s.twin ∧ (State.gatesLow s).casc = s.casc ∧ (State.gatesLow s).rst = s.rst ∧ (State.gatesLow s).mem = s.mem ∧ (State.gatesLow s).evr = s.evr ∧ (State.gatesLow s).upd = s.upd := by
  unfold State.gatesLow; (try dsimp only); (repeat' split) <;> simp

@[simp] theorem State.quenchLet_frame  (s : State) :
    (State.quenchLet s).pending = s.pending ∧ (State.quenchLet s).now = s.now ∧ (State.quenchLet s).free = s.free ∧ (State.quenchLet s).arch = s.arch ∧ (State.quenchLet s).pins = s.pins ∧ (State.quenchLet s).tb = s.tb ∧ (State.quenchLet s).meas = s.meas ∧ (State.quenchLet s).lane = s.lane ∧ (State.quenchLet s).snap = s.snap ∧ (State.quenchLet s).phase = s.phase ∧ (State.quenchLet s).loop = s.loop ∧ (State.quenchLet s).shelf = s.shelf ∧ (State.quenchLet s).bat = s.bat ∧ (State.quenchLet s).seq = s.seq ∧ (State.quenchLet s).thm = s.thm ∧ (State.quenchLet s).eng = s.eng ∧ (State.quenchLet s).net = s.net ∧ (State.quenchLet s).twin = s.twin ∧ (State.quenchLet s).casc = s.casc ∧ (State.quenchLet s).rst = s.rst ∧ (State.quenchLet s).mem = s.mem ∧ (State.quenchLet s).evr = s.evr ∧ (State.quenchLet s).upd = s.upd := by
  unfold State.quenchLet; (try dsimp only); (repeat' split) <;> simp

@[simp] theorem State.releaseShared_frame  (s : State) :
    (State.releaseShared s).pending = s.pending ∧ (State.releaseShared s).now = s.now ∧ (State.releaseShared s).free = s.free ∧ (State.releaseShared s).arch = s.arch ∧ (State.releaseShared s).tb = s.tb ∧ (State.releaseShared s).meas = s.meas ∧ (State.releaseShared s).lane = s.lane ∧ (State.releaseShared s).snap = s.snap ∧ (State.releaseShared s).phase = s.phase ∧ (State.releaseShared s).loop = s.loop ∧ (State.releaseShared s).bat = s.bat ∧ (State.releaseShared s).seq = s.seq ∧ (State.releaseShared s).thm = s.thm ∧ (State.releaseShared s).eng = s.eng ∧ (State.releaseShared s).net = s.net ∧ (State.releaseShared s).casc = s.casc ∧ (State.releaseShared s).rst = s.rst ∧ (State.releaseShared s).mem = s.mem ∧ (State.releaseShared s).evr = s.evr ∧ (State.releaseShared s).upd = s.upd := by
  unfold State.releaseShared; (try dsimp only); (repeat' split) <;> simp

@[simp] theorem State.holdDone_frame  (s : State) :
    (State.holdDone s).pending = s.pending ∧ (State.holdDone s).now = s.now ∧ (State.holdDone s).free = s.free ∧ (State.holdDone s).arch = s.arch ∧ (State.holdDone s).pins = s.pins ∧ (State.holdDone s).tb = s.tb ∧ (State.holdDone s).meas = s.meas ∧ (State.holdDone s).lane = s.lane ∧ (State.holdDone s).snap = s.snap ∧ (State.holdDone s).phase = s.phase ∧ (State.holdDone s).loop = s.loop ∧ (State.holdDone s).shelf = s.shelf ∧ (State.holdDone s).dist = s.dist ∧ (State.holdDone s).bat = s.bat ∧ (State.holdDone s).seq = s.seq ∧ (State.holdDone s).thm = s.thm ∧ (State.holdDone s).eng = s.eng ∧ (State.holdDone s).net = s.net ∧ (State.holdDone s).twin = s.twin ∧ (State.holdDone s).casc = s.casc ∧ (State.holdDone s).rst = s.rst ∧ (State.holdDone s).mem = s.mem ∧ (State.holdDone s).evr = s.evr ∧ (State.holdDone s).upd = s.upd := by
  unfold State.holdDone; (try dsimp only); (repeat' split) <;> simp

@[simp] theorem State.gatesSunk_frame (h : BitVec 24) (s : State) :
    (State.gatesSunk h s).pending = s.pending ∧ (State.gatesSunk h s).now = s.now ∧ (State.gatesSunk h s).timers = s.timers ∧ (State.gatesSunk h s).free = s.free ∧ (State.gatesSunk h s).arch = s.arch ∧ (State.gatesSunk h s).pins = s.pins ∧ (State.gatesSunk h s).tb = s.tb ∧ (State.gatesSunk h s).meas = s.meas ∧ (State.gatesSunk h s).lane = s.lane ∧ (State.gatesSunk h s).snap = s.snap ∧ (State.gatesSunk h s).phase = s.phase ∧ (State.gatesSunk h s).loop = s.loop ∧ (State.gatesSunk h s).shelf = s.shelf ∧ (State.gatesSunk h s).bat = s.bat ∧ (State.gatesSunk h s).seq = s.seq ∧ (State.gatesSunk h s).thm = s.thm ∧ (State.gatesSunk h s).eng = s.eng ∧ (State.gatesSunk h s).net = s.net ∧ (State.gatesSunk h s).twin = s.twin ∧ (State.gatesSunk h s).casc = s.casc ∧ (State.gatesSunk h s).rst = s.rst ∧ (State.gatesSunk h s).mem = s.mem ∧ (State.gatesSunk h s).evr = s.evr ∧ (State.gatesSunk h s).upd = s.upd := by
  unfold State.gatesSunk; (try dsimp only); (repeat' split) <;> simp

@[simp] theorem State.bumpEpoch_frame (i : Fin 11) (s : State) :
    (State.bumpEpoch i s).pending = s.pending ∧ (State.bumpEpoch i s).now = s.now ∧ (State.bumpEpoch i s).timers = s.timers ∧ (State.bumpEpoch i s).free = s.free ∧ (State.bumpEpoch i s).arch = s.arch ∧ (State.bumpEpoch i s).pins = s.pins ∧ (State.bumpEpoch i s).tb = s.tb ∧ (State.bumpEpoch i s).meas = s.meas ∧ (State.bumpEpoch i s).lane = s.lane ∧ (State.bumpEpoch i s).snap = s.snap ∧ (State.bumpEpoch i s).phase = s.phase ∧ (State.bumpEpoch i s).loop = s.loop ∧ (State.bumpEpoch i s).shelf = s.shelf ∧ (State.bumpEpoch i s).dist = s.dist ∧ (State.bumpEpoch i s).bat = s.bat ∧ (State.bumpEpoch i s).seq = s.seq ∧ (State.bumpEpoch i s).thm = s.thm ∧ (State.bumpEpoch i s).net = s.net ∧ (State.bumpEpoch i s).twin = s.twin ∧ (State.bumpEpoch i s).casc = s.casc ∧ (State.bumpEpoch i s).rst = s.rst ∧ (State.bumpEpoch i s).mem = s.mem ∧ (State.bumpEpoch i s).evr = s.evr ∧ (State.bumpEpoch i s).upd = s.upd := by
  unfold State.bumpEpoch; (try dsimp only); (repeat' split) <;> simp

@[simp] theorem State.freeLock_frame (n : Fin 64) (s : State) :
    (State.freeLock n s).pending = s.pending ∧ (State.freeLock n s).now = s.now ∧ (State.freeLock n s).timers = s.timers ∧ (State.freeLock n s).free = s.free ∧ (State.freeLock n s).arch = s.arch ∧ (State.freeLock n s).tb = s.tb ∧ (State.freeLock n s).meas = s.meas ∧ (State.freeLock n s).lane = s.lane ∧ (State.freeLock n s).snap = s.snap ∧ (State.freeLock n s).phase = s.phase ∧ (State.freeLock n s).loop = s.loop ∧ (State.freeLock n s).shelf = s.shelf ∧ (State.freeLock n s).dist = s.dist ∧ (State.freeLock n s).bat = s.bat ∧ (State.freeLock n s).seq = s.seq ∧ (State.freeLock n s).thm = s.thm ∧ (State.freeLock n s).net = s.net ∧ (State.freeLock n s).twin = s.twin ∧ (State.freeLock n s).casc = s.casc ∧ (State.freeLock n s).rst = s.rst ∧ (State.freeLock n s).mem = s.mem ∧ (State.freeLock n s).evr = s.evr ∧ (State.freeLock n s).upd = s.upd := by
  unfold State.freeLock; (try dsimp only); (repeat' split) <;> simp

@[simp] theorem State.newEpoch_frame (i : Fin 11) (s : State) :
    (State.newEpoch i s).pending = s.pending ∧ (State.newEpoch i s).now = s.now ∧ (State.newEpoch i s).free = s.free ∧ (State.newEpoch i s).arch = s.arch ∧ (State.newEpoch i s).tb = s.tb ∧ (State.newEpoch i s).meas = s.meas ∧ (State.newEpoch i s).lane = s.lane ∧ (State.newEpoch i s).snap = s.snap ∧ (State.newEpoch i s).phase = s.phase ∧ (State.newEpoch i s).loop = s.loop ∧ (State.newEpoch i s).shelf = s.shelf ∧ (State.newEpoch i s).dist = s.dist ∧ (State.newEpoch i s).bat = s.bat ∧ (State.newEpoch i s).seq = s.seq ∧ (State.newEpoch i s).thm = s.thm ∧ (State.newEpoch i s).twin = s.twin ∧ (State.newEpoch i s).casc = s.casc ∧ (State.newEpoch i s).rst = s.rst ∧ (State.newEpoch i s).mem = s.mem ∧ (State.newEpoch i s).upd = s.upd := by
  unfold State.newEpoch; (try dsimp only); (repeat' split) <;> simp

@[simp] theorem State.holdOutputs_frame (thermal : Bool) (s : State) :
    (State.holdOutputs thermal s).pending = s.pending ∧ (State.holdOutputs thermal s).now = s.now ∧ (State.holdOutputs thermal s).timers = s.timers ∧ (State.holdOutputs thermal s).free = s.free ∧ (State.holdOutputs thermal s).arch = s.arch ∧ (State.holdOutputs thermal s).tb = s.tb ∧ (State.holdOutputs thermal s).meas = s.meas ∧ (State.holdOutputs thermal s).lane = s.lane ∧ (State.holdOutputs thermal s).snap = s.snap ∧ (State.holdOutputs thermal s).phase = s.phase ∧ (State.holdOutputs thermal s).loop = s.loop ∧ (State.holdOutputs thermal s).shelf = s.shelf ∧ (State.holdOutputs thermal s).bat = s.bat ∧ (State.holdOutputs thermal s).seq = s.seq ∧ (State.holdOutputs thermal s).thm = s.thm ∧ (State.holdOutputs thermal s).eng = s.eng ∧ (State.holdOutputs thermal s).net = s.net ∧ (State.holdOutputs thermal s).twin = s.twin ∧ (State.holdOutputs thermal s).casc = s.casc ∧ (State.holdOutputs thermal s).rst = s.rst ∧ (State.holdOutputs thermal s).mem = s.mem ∧ (State.holdOutputs thermal s).evr = s.evr ∧ (State.holdOutputs thermal s).upd = s.upd := by
  unfold State.holdOutputs; (try dsimp only); (repeat' split) <;> simp

@[simp] theorem State.releaseOutputs_frame  (s : State) :
    (State.releaseOutputs s).pending = s.pending ∧ (State.releaseOutputs s).now = s.now ∧ (State.releaseOutputs s).free = s.free ∧ (State.releaseOutputs s).arch = s.arch ∧ (State.releaseOutputs s).tb = s.tb ∧ (State.releaseOutputs s).meas = s.meas ∧ (State.releaseOutputs s).lane = s.lane ∧ (State.releaseOutputs s).snap = s.snap ∧ (State.releaseOutputs s).phase = s.phase ∧ (State.releaseOutputs s).loop = s.loop ∧ (State.releaseOutputs s).bat = s.bat ∧ (State.releaseOutputs s).seq = s.seq ∧ (State.releaseOutputs s).thm = s.thm ∧ (State.releaseOutputs s).eng = s.eng ∧ (State.releaseOutputs s).net = s.net ∧ (State.releaseOutputs s).casc = s.casc ∧ (State.releaseOutputs s).rst = s.rst ∧ (State.releaseOutputs s).mem = s.mem ∧ (State.releaseOutputs s).evr = s.evr ∧ (State.releaseOutputs s).upd = s.upd := by
  unfold State.releaseOutputs; (try dsimp only); (repeat' split) <;> simp

@[simp] theorem State.dropToken_frame (code : Nat) (s : State) :
    (State.dropToken code s).pending = s.pending ∧ (State.dropToken code s).now = s.now ∧ (State.dropToken code s).free = s.free ∧ (State.dropToken code s).arch = s.arch ∧ (State.dropToken code s).tb = s.tb ∧ (State.dropToken code s).meas = s.meas ∧ (State.dropToken code s).lane = s.lane ∧ (State.dropToken code s).snap = s.snap ∧ (State.dropToken code s).phase = s.phase ∧ (State.dropToken code s).loop = s.loop ∧ (State.dropToken code s).bat = s.bat ∧ (State.dropToken code s).seq = s.seq ∧ (State.dropToken code s).thm = s.thm ∧ (State.dropToken code s).eng = s.eng ∧ (State.dropToken code s).casc = s.casc ∧ (State.dropToken code s).rst = s.rst ∧ (State.dropToken code s).mem = s.mem ∧ (State.dropToken code s).upd = s.upd := by
  unfold State.dropToken; (try dsimp only); (repeat' split) <;> simp

@[simp] theorem State.raiseVcore_frame (mv : Nat) (s : State) :
    (State.raiseVcore mv s).pending = s.pending ∧ (State.raiseVcore mv s).now = s.now ∧ (State.raiseVcore mv s).timers = s.timers ∧ (State.raiseVcore mv s).free = s.free ∧ (State.raiseVcore mv s).pins = s.pins ∧ (State.raiseVcore mv s).tb = s.tb ∧ (State.raiseVcore mv s).meas = s.meas ∧ (State.raiseVcore mv s).lane = s.lane ∧ (State.raiseVcore mv s).snap = s.snap ∧ (State.raiseVcore mv s).phase = s.phase ∧ (State.raiseVcore mv s).loop = s.loop ∧ (State.raiseVcore mv s).shelf = s.shelf ∧ (State.raiseVcore mv s).dist = s.dist ∧ (State.raiseVcore mv s).bat = s.bat ∧ (State.raiseVcore mv s).seq = s.seq ∧ (State.raiseVcore mv s).thm = s.thm ∧ (State.raiseVcore mv s).eng = s.eng ∧ (State.raiseVcore mv s).net = s.net ∧ (State.raiseVcore mv s).twin = s.twin ∧ (State.raiseVcore mv s).casc = s.casc ∧ (State.raiseVcore mv s).rst = s.rst ∧ (State.raiseVcore mv s).mem = s.mem ∧ (State.raiseVcore mv s).evr = s.evr ∧ (State.raiseVcore mv s).upd = s.upd := by
  unfold State.raiseVcore; (try dsimp only); (repeat' split) <;> simp

@[simp] theorem State.reportSlack_frame (u : Fin 20) (k : Rat) (s : State) :
    (State.reportSlack u k s).pending = s.pending ∧ (State.reportSlack u k s).now = s.now ∧ (State.reportSlack u k s).timers = s.timers ∧ (State.reportSlack u k s).free = s.free ∧ (State.reportSlack u k s).pins = s.pins ∧ (State.reportSlack u k s).tb = s.tb ∧ (State.reportSlack u k s).meas = s.meas ∧ (State.reportSlack u k s).lane = s.lane ∧ (State.reportSlack u k s).snap = s.snap ∧ (State.reportSlack u k s).phase = s.phase ∧ (State.reportSlack u k s).loop = s.loop ∧ (State.reportSlack u k s).shelf = s.shelf ∧ (State.reportSlack u k s).dist = s.dist ∧ (State.reportSlack u k s).bat = s.bat ∧ (State.reportSlack u k s).seq = s.seq ∧ (State.reportSlack u k s).thm = s.thm ∧ (State.reportSlack u k s).eng = s.eng ∧ (State.reportSlack u k s).net = s.net ∧ (State.reportSlack u k s).twin = s.twin ∧ (State.reportSlack u k s).casc = s.casc ∧ (State.reportSlack u k s).rst = s.rst ∧ (State.reportSlack u k s).mem = s.mem ∧ (State.reportSlack u k s).evr = s.evr ∧ (State.reportSlack u k s).upd = s.upd := by
  unfold State.reportSlack; (try dsimp only); (repeat' split) <;> simp

@[simp] theorem State.feedSysWdog_frame  (s : State) :
    (State.feedSysWdog s).pending = s.pending ∧ (State.feedSysWdog s).now = s.now ∧ (State.feedSysWdog s).free = s.free ∧ (State.feedSysWdog s).arch = s.arch ∧ (State.feedSysWdog s).pins = s.pins ∧ (State.feedSysWdog s).tb = s.tb ∧ (State.feedSysWdog s).meas = s.meas ∧ (State.feedSysWdog s).lane = s.lane ∧ (State.feedSysWdog s).snap = s.snap ∧ (State.feedSysWdog s).phase = s.phase ∧ (State.feedSysWdog s).loop = s.loop ∧ (State.feedSysWdog s).shelf = s.shelf ∧ (State.feedSysWdog s).dist = s.dist ∧ (State.feedSysWdog s).bat = s.bat ∧ (State.feedSysWdog s).seq = s.seq ∧ (State.feedSysWdog s).thm = s.thm ∧ (State.feedSysWdog s).net = s.net ∧ (State.feedSysWdog s).twin = s.twin ∧ (State.feedSysWdog s).casc = s.casc ∧ (State.feedSysWdog s).rst = s.rst ∧ (State.feedSysWdog s).mem = s.mem ∧ (State.feedSysWdog s).evr = s.evr ∧ (State.feedSysWdog s).upd = s.upd := by
  unfold State.feedSysWdog; (try dsimp only); (repeat' split) <;> simp

@[simp] theorem State.touch_frame (w : Session) (s : State) :
    (State.touch w s).pending = s.pending ∧ (State.touch w s).now = s.now ∧ (State.touch w s).free = s.free ∧ (State.touch w s).arch = s.arch ∧ (State.touch w s).pins = s.pins ∧ (State.touch w s).tb = s.tb ∧ (State.touch w s).meas = s.meas ∧ (State.touch w s).lane = s.lane ∧ (State.touch w s).snap = s.snap ∧ (State.touch w s).phase = s.phase ∧ (State.touch w s).loop = s.loop ∧ (State.touch w s).shelf = s.shelf ∧ (State.touch w s).dist = s.dist ∧ (State.touch w s).bat = s.bat ∧ (State.touch w s).seq = s.seq ∧ (State.touch w s).thm = s.thm ∧ (State.touch w s).eng = s.eng ∧ (State.touch w s).net = s.net ∧ (State.touch w s).twin = s.twin ∧ (State.touch w s).casc = s.casc ∧ (State.touch w s).rst = s.rst ∧ (State.touch w s).mem = s.mem ∧ (State.touch w s).evr = s.evr ∧ (State.touch w s).upd = s.upd := by
  unfold State.touch; (try dsimp only); (repeat' split) <;> simp

@[simp] theorem State.dropClaim_frame  (s : State) :
    (State.dropClaim s).pending = s.pending ∧ (State.dropClaim s).now = s.now ∧ (State.dropClaim s).timers = s.timers ∧ (State.dropClaim s).free = s.free ∧ (State.dropClaim s).arch = s.arch ∧ (State.dropClaim s).pins = s.pins ∧ (State.dropClaim s).tb = s.tb ∧ (State.dropClaim s).meas = s.meas ∧ (State.dropClaim s).lane = s.lane ∧ (State.dropClaim s).snap = s.snap ∧ (State.dropClaim s).phase = s.phase ∧ (State.dropClaim s).loop = s.loop ∧ (State.dropClaim s).shelf = s.shelf ∧ (State.dropClaim s).dist = s.dist ∧ (State.dropClaim s).bat = s.bat ∧ (State.dropClaim s).seq = s.seq ∧ (State.dropClaim s).thm = s.thm ∧ (State.dropClaim s).eng = s.eng ∧ (State.dropClaim s).twin = s.twin ∧ (State.dropClaim s).casc = s.casc ∧ (State.dropClaim s).rst = s.rst ∧ (State.dropClaim s).mem = s.mem ∧ (State.dropClaim s).evr = s.evr ∧ (State.dropClaim s).upd = s.upd := by
  unfold State.dropClaim; (try dsimp only); (repeat' split) <;> simp

@[simp] theorem State.endSession_frame (w : Session) (asked : Bool) (s : State) :
    (State.endSession w asked s).pending = s.pending ∧ (State.endSession w asked s).now = s.now ∧ (State.endSession w asked s).free = s.free ∧ (State.endSession w asked s).arch = s.arch ∧ (State.endSession w asked s).pins = s.pins ∧ (State.endSession w asked s).tb = s.tb ∧ (State.endSession w asked s).meas = s.meas ∧ (State.endSession w asked s).lane = s.lane ∧ (State.endSession w asked s).snap = s.snap ∧ (State.endSession w asked s).phase = s.phase ∧ (State.endSession w asked s).loop = s.loop ∧ (State.endSession w asked s).shelf = s.shelf ∧ (State.endSession w asked s).dist = s.dist ∧ (State.endSession w asked s).bat = s.bat ∧ (State.endSession w asked s).seq = s.seq ∧ (State.endSession w asked s).thm = s.thm ∧ (State.endSession w asked s).eng = s.eng ∧ (State.endSession w asked s).twin = s.twin ∧ (State.endSession w asked s).casc = s.casc ∧ (State.endSession w asked s).rst = s.rst ∧ (State.endSession w asked s).mem = s.mem ∧ (State.endSession w asked s).upd = s.upd := by
  unfold State.endSession; (try dsimp only); (repeat' split) <;> simp

@[simp] theorem State.rehash_frame  (s : State) :
    (State.rehash s).pending = s.pending ∧ (State.rehash s).now = s.now ∧ (State.rehash s).timers = s.timers ∧ (State.rehash s).free = s.free ∧ (State.rehash s).arch = s.arch ∧ (State.rehash s).pins = s.pins ∧ (State.rehash s).tb = s.tb ∧ (State.rehash s).meas = s.meas ∧ (State.rehash s).lane = s.lane ∧ (State.rehash s).snap = s.snap ∧ (State.rehash s).phase = s.phase ∧ (State.rehash s).loop = s.loop ∧ (State.rehash s).shelf = s.shelf ∧ (State.rehash s).dist = s.dist ∧ (State.rehash s).bat = s.bat ∧ (State.rehash s).seq = s.seq ∧ (State.rehash s).thm = s.thm ∧ (State.rehash s).eng = s.eng ∧ (State.rehash s).twin = s.twin ∧ (State.rehash s).casc = s.casc ∧ (State.rehash s).rst = s.rst ∧ (State.rehash s).mem = s.mem ∧ (State.rehash s).evr = s.evr ∧ (State.rehash s).upd = s.upd := by
  unfold State.rehash; (try dsimp only); (repeat' split) <;> simp

@[simp] theorem State.launch_frame (f : BenutFrame) (s : State) :
    (State.launch f s).pending = s.pending ∧ (State.launch f s).now = s.now ∧ (State.launch f s).timers = s.timers ∧ (State.launch f s).free = s.free ∧ (State.launch f s).arch = s.arch ∧ (State.launch f s).pins = s.pins ∧ (State.launch f s).tb = s.tb ∧ (State.launch f s).meas = s.meas ∧ (State.launch f s).lane = s.lane ∧ (State.launch f s).snap = s.snap ∧ (State.launch f s).phase = s.phase ∧ (State.launch f s).loop = s.loop ∧ (State.launch f s).shelf = s.shelf ∧ (State.launch f s).dist = s.dist ∧ (State.launch f s).bat = s.bat ∧ (State.launch f s).seq = s.seq ∧ (State.launch f s).thm = s.thm ∧ (State.launch f s).eng = s.eng ∧ (State.launch f s).net = s.net ∧ (State.launch f s).casc = s.casc ∧ (State.launch f s).rst = s.rst ∧ (State.launch f s).mem = s.mem ∧ (State.launch f s).evr = s.evr ∧ (State.launch f s).upd = s.upd := by
  unfold State.launch; (try dsimp only); (repeat' split) <;> simp

@[simp] theorem State.forward_frame (idx sub : Nat) (d : List Byte) (s : State) :
    (State.forward idx sub d s).pending = s.pending ∧ (State.forward idx sub d s).now = s.now ∧ (State.forward idx sub d s).timers = s.timers ∧ (State.forward idx sub d s).free = s.free ∧ (State.forward idx sub d s).arch = s.arch ∧ (State.forward idx sub d s).pins = s.pins ∧ (State.forward idx sub d s).tb = s.tb ∧ (State.forward idx sub d s).meas = s.meas ∧ (State.forward idx sub d s).lane = s.lane ∧ (State.forward idx sub d s).snap = s.snap ∧ (State.forward idx sub d s).phase = s.phase ∧ (State.forward idx sub d s).loop = s.loop ∧ (State.forward idx sub d s).shelf = s.shelf ∧ (State.forward idx sub d s).dist = s.dist ∧ (State.forward idx sub d s).bat = s.bat ∧ (State.forward idx sub d s).seq = s.seq ∧ (State.forward idx sub d s).thm = s.thm ∧ (State.forward idx sub d s).eng = s.eng ∧ (State.forward idx sub d s).net = s.net ∧ (State.forward idx sub d s).casc = s.casc ∧ (State.forward idx sub d s).rst = s.rst ∧ (State.forward idx sub d s).mem = s.mem ∧ (State.forward idx sub d s).evr = s.evr ∧ (State.forward idx sub d s).upd = s.upd := by
  unfold State.forward; (try dsimp only); (repeat' split) <;> simp

@[simp] theorem State.drive_frame (g : Fin 24) (d : GateDrive) (s : State) :
    (State.drive g d s).pending = s.pending ∧ (State.drive g d s).now = s.now ∧ (State.drive g d s).timers = s.timers ∧ (State.drive g d s).free = s.free ∧ (State.drive g d s).arch = s.arch ∧ (State.drive g d s).tb = s.tb ∧ (State.drive g d s).meas = s.meas ∧ (State.drive g d s).lane = s.lane ∧ (State.drive g d s).snap = s.snap ∧ (State.drive g d s).phase = s.phase ∧ (State.drive g d s).loop = s.loop ∧ (State.drive g d s).shelf = s.shelf ∧ (State.drive g d s).dist = s.dist ∧ (State.drive g d s).bat = s.bat ∧ (State.drive g d s).seq = s.seq ∧ (State.drive g d s).thm = s.thm ∧ (State.drive g d s).eng = s.eng ∧ (State.drive g d s).net = s.net ∧ (State.drive g d s).twin = s.twin ∧ (State.drive g d s).casc = s.casc ∧ (State.drive g d s).rst = s.rst ∧ (State.drive g d s).mem = s.mem ∧ (State.drive g d s).evr = s.evr ∧ (State.drive g d s).upd = s.upd := by
  unfold State.drive; (try dsimp only); (repeat' split) <;> simp

@[simp] theorem State.endInrush_frame (k : Fin 16) (s : State) :
    (State.endInrush k s).pending = s.pending ∧ (State.endInrush k s).now = s.now ∧ (State.endInrush k s).timers = s.timers ∧ (State.endInrush k s).free = s.free ∧ (State.endInrush k s).arch = s.arch ∧ (State.endInrush k s).pins = s.pins ∧ (State.endInrush k s).tb = s.tb ∧ (State.endInrush k s).meas = s.meas ∧ (State.endInrush k s).lane = s.lane ∧ (State.endInrush k s).snap = s.snap ∧ (State.endInrush k s).phase = s.phase ∧ (State.endInrush k s).loop = s.loop ∧ (State.endInrush k s).shelf = s.shelf ∧ (State.endInrush k s).bat = s.bat ∧ (State.endInrush k s).seq = s.seq ∧ (State.endInrush k s).thm = s.thm ∧ (State.endInrush k s).eng = s.eng ∧ (State.endInrush k s).net = s.net ∧ (State.endInrush k s).twin = s.twin ∧ (State.endInrush k s).casc = s.casc ∧ (State.endInrush k s).rst = s.rst ∧ (State.endInrush k s).mem = s.mem ∧ (State.endInrush k s).evr = s.evr ∧ (State.endInrush k s).upd = s.upd := by
  unfold State.endInrush; (try dsimp only); (repeat' split) <;> simp

@[simp] theorem State.brFaultRun_frame (k : Fin 16) (s : State) :
    (State.brFaultRun k s).pending = s.pending ∧ (State.brFaultRun k s).now = s.now ∧ (State.brFaultRun k s).free = s.free ∧ (State.brFaultRun k s).arch = s.arch ∧ (State.brFaultRun k s).pins = s.pins ∧ (State.brFaultRun k s).tb = s.tb ∧ (State.brFaultRun k s).meas = s.meas ∧ (State.brFaultRun k s).lane = s.lane ∧ (State.brFaultRun k s).snap = s.snap ∧ (State.brFaultRun k s).phase = s.phase ∧ (State.brFaultRun k s).loop = s.loop ∧ (State.brFaultRun k s).shelf = s.shelf ∧ (State.brFaultRun k s).bat = s.bat ∧ (State.brFaultRun k s).seq = s.seq ∧ (State.brFaultRun k s).thm = s.thm ∧ (State.brFaultRun k s).eng = s.eng ∧ (State.brFaultRun k s).net = s.net ∧ (State.brFaultRun k s).twin = s.twin ∧ (State.brFaultRun k s).casc = s.casc ∧ (State.brFaultRun k s).rst = s.rst ∧ (State.brFaultRun k s).mem = s.mem ∧ (State.brFaultRun k s).evr = s.evr ∧ (State.brFaultRun k s).upd = s.upd := by
  unfold State.brFaultRun; (try dsimp only); (repeat' split) <;> simp

@[simp] theorem State.brFaultHold_frame (k : Fin 16) (s : State) :
    (State.brFaultHold k s).pending = s.pending ∧ (State.brFaultHold k s).now = s.now ∧ (State.brFaultHold k s).free = s.free ∧ (State.brFaultHold k s).arch = s.arch ∧ (State.brFaultHold k s).pins = s.pins ∧ (State.brFaultHold k s).tb = s.tb ∧ (State.brFaultHold k s).meas = s.meas ∧ (State.brFaultHold k s).lane = s.lane ∧ (State.brFaultHold k s).snap = s.snap ∧ (State.brFaultHold k s).phase = s.phase ∧ (State.brFaultHold k s).loop = s.loop ∧ (State.brFaultHold k s).shelf = s.shelf ∧ (State.brFaultHold k s).bat = s.bat ∧ (State.brFaultHold k s).seq = s.seq ∧ (State.brFaultHold k s).thm = s.thm ∧ (State.brFaultHold k s).eng = s.eng ∧ (State.brFaultHold k s).net = s.net ∧ (State.brFaultHold k s).twin = s.twin ∧ (State.brFaultHold k s).casc = s.casc ∧ (State.brFaultHold k s).rst = s.rst ∧ (State.brFaultHold k s).mem = s.mem ∧ (State.brFaultHold k s).evr = s.evr ∧ (State.brFaultHold k s).upd = s.upd := by
  unfold State.brFaultHold; (try dsimp only); (repeat' split) <;> simp

@[simp] theorem State.brFaultClear_frame (k : Fin 16) (s : State) :
    (State.brFaultClear k s).pending = s.pending ∧ (State.brFaultClear k s).now = s.now ∧ (State.brFaultClear k s).free = s.free ∧ (State.brFaultClear k s).arch = s.arch ∧ (State.brFaultClear k s).pins = s.pins ∧ (State.brFaultClear k s).tb = s.tb ∧ (State.brFaultClear k s).meas = s.meas ∧ (State.brFaultClear k s).lane = s.lane ∧ (State.brFaultClear k s).snap = s.snap ∧ (State.brFaultClear k s).phase = s.phase ∧ (State.brFaultClear k s).loop = s.loop ∧ (State.brFaultClear k s).shelf = s.shelf ∧ (State.brFaultClear k s).bat = s.bat ∧ (State.brFaultClear k s).seq = s.seq ∧ (State.brFaultClear k s).thm = s.thm ∧ (State.brFaultClear k s).eng = s.eng ∧ (State.brFaultClear k s).net = s.net ∧ (State.brFaultClear k s).twin = s.twin ∧ (State.brFaultClear k s).casc = s.casc ∧ (State.brFaultClear k s).rst = s.rst ∧ (State.brFaultClear k s).mem = s.mem ∧ (State.brFaultClear k s).evr = s.evr ∧ (State.brFaultClear k s).upd = s.upd := by
  unfold State.brFaultClear; (try dsimp only); (repeat' split) <;> simp

@[simp] theorem State.brQuiet_frame (k : Fin 16) (s : State) :
    (State.brQuiet k s).pending = s.pending ∧ (State.brQuiet k s).now = s.now ∧ (State.brQuiet k s).free = s.free ∧ (State.brQuiet k s).arch = s.arch ∧ (State.brQuiet k s).pins = s.pins ∧ (State.brQuiet k s).tb = s.tb ∧ (State.brQuiet k s).meas = s.meas ∧ (State.brQuiet k s).lane = s.lane ∧ (State.brQuiet k s).snap = s.snap ∧ (State.brQuiet k s).phase = s.phase ∧ (State.brQuiet k s).loop = s.loop ∧ (State.brQuiet k s).shelf = s.shelf ∧ (State.brQuiet k s).bat = s.bat ∧ (State.brQuiet k s).seq = s.seq ∧ (State.brQuiet k s).thm = s.thm ∧ (State.brQuiet k s).eng = s.eng ∧ (State.brQuiet k s).net = s.net ∧ (State.brQuiet k s).twin = s.twin ∧ (State.brQuiet k s).casc = s.casc ∧ (State.brQuiet k s).rst = s.rst ∧ (State.brQuiet k s).mem = s.mem ∧ (State.brQuiet k s).evr = s.evr ∧ (State.brQuiet k s).upd = s.upd := by
  unfold State.brQuiet; (try dsimp only); (repeat' split) <;> simp

@[simp] theorem State.brSink_frame (k : Fin 16) (d : GateDrive) (s : State) :
    (State.brSink k d s).pending = s.pending ∧ (State.brSink k d s).now = s.now ∧ (State.brSink k d s).timers = s.timers ∧ (State.brSink k d s).free = s.free ∧ (State.brSink k d s).arch = s.arch ∧ (State.brSink k d s).tb = s.tb ∧ (State.brSink k d s).meas = s.meas ∧ (State.brSink k d s).lane = s.lane ∧ (State.brSink k d s).snap = s.snap ∧ (State.brSink k d s).phase = s.phase ∧ (State.brSink k d s).loop = s.loop ∧ (State.brSink k d s).shelf = s.shelf ∧ (State.brSink k d s).bat = s.bat ∧ (State.brSink k d s).seq = s.seq ∧ (State.brSink k d s).thm = s.thm ∧ (State.brSink k d s).eng = s.eng ∧ (State.brSink k d s).net = s.net ∧ (State.brSink k d s).twin = s.twin ∧ (State.brSink k d s).casc = s.casc ∧ (State.brSink k d s).rst = s.rst ∧ (State.brSink k d s).mem = s.mem ∧ (State.brSink k d s).evr = s.evr ∧ (State.brSink k d s).upd = s.upd := by
  unfold State.brSink; (try dsimp only); (repeat' split) <;> simp

@[simp] theorem State.brStop_frame (k : Fin 16) (s : State) :
    (State.brStop k s).pending = s.pending ∧ (State.brStop k s).now = s.now ∧ (State.brStop k s).free = s.free ∧ (State.brStop k s).arch = s.arch ∧ (State.brStop k s).tb = s.tb ∧ (State.brStop k s).meas = s.meas ∧ (State.brStop k s).lane = s.lane ∧ (State.brStop k s).snap = s.snap ∧ (State.brStop k s).phase = s.phase ∧ (State.brStop k s).loop = s.loop ∧ (State.brStop k s).shelf = s.shelf ∧ (State.brStop k s).bat = s.bat ∧ (State.brStop k s).seq = s.seq ∧ (State.brStop k s).thm = s.thm ∧ (State.brStop k s).eng = s.eng ∧ (State.brStop k s).net = s.net ∧ (State.brStop k s).twin = s.twin ∧ (State.brStop k s).casc = s.casc ∧ (State.brStop k s).rst = s.rst ∧ (State.brStop k s).mem = s.mem ∧ (State.brStop k s).evr = s.evr ∧ (State.brStop k s).upd = s.upd := by
  unfold State.brStop; (try dsimp only); (repeat' split) <;> simp

@[simp] theorem State.brSource_frame (k : Fin 16) (s : State) :
    (State.brSource k s).pending = s.pending ∧ (State.brSource k s).now = s.now ∧ (State.brSource k s).free = s.free ∧ (State.brSource k s).arch = s.arch ∧ (State.brSource k s).tb = s.tb ∧ (State.brSource k s).meas = s.meas ∧ (State.brSource k s).lane = s.lane ∧ (State.brSource k s).snap = s.snap ∧ (State.brSource k s).phase = s.phase ∧ (State.brSource k s).loop = s.loop ∧ (State.brSource k s).shelf = s.shelf ∧ (State.brSource k s).bat = s.bat ∧ (State.brSource k s).seq = s.seq ∧ (State.brSource k s).thm = s.thm ∧ (State.brSource k s).eng = s.eng ∧ (State.brSource k s).net = s.net ∧ (State.brSource k s).twin = s.twin ∧ (State.brSource k s).casc = s.casc ∧ (State.brSource k s).rst = s.rst ∧ (State.brSource k s).mem = s.mem ∧ (State.brSource k s).evr = s.evr ∧ (State.brSource k s).upd = s.upd := by
  unfold State.brSource; (try dsimp only); (repeat' split) <;> simp

@[simp] theorem State.brInrush_frame (k : Fin 16) (s : State) :
    (State.brInrush k s).pending = s.pending ∧ (State.brInrush k s).now = s.now ∧ (State.brInrush k s).free = s.free ∧ (State.brInrush k s).arch = s.arch ∧ (State.brInrush k s).tb = s.tb ∧ (State.brInrush k s).meas = s.meas ∧ (State.brInrush k s).lane = s.lane ∧ (State.brInrush k s).snap = s.snap ∧ (State.brInrush k s).phase = s.phase ∧ (State.brInrush k s).loop = s.loop ∧ (State.brInrush k s).shelf = s.shelf ∧ (State.brInrush k s).bat = s.bat ∧ (State.brInrush k s).seq = s.seq ∧ (State.brInrush k s).thm = s.thm ∧ (State.brInrush k s).eng = s.eng ∧ (State.brInrush k s).net = s.net ∧ (State.brInrush k s).twin = s.twin ∧ (State.brInrush k s).casc = s.casc ∧ (State.brInrush k s).rst = s.rst ∧ (State.brInrush k s).mem = s.mem ∧ (State.brInrush k s).evr = s.evr ∧ (State.brInrush k s).upd = s.upd := by
  unfold State.brInrush; (try dsimp only); (repeat' split) <;> simp

@[simp] theorem State.brBegin_frame (k : Fin 16) (s : State) :
    (State.brBegin k s).pending = s.pending ∧ (State.brBegin k s).now = s.now ∧ (State.brBegin k s).free = s.free ∧ (State.brBegin k s).arch = s.arch ∧ (State.brBegin k s).tb = s.tb ∧ (State.brBegin k s).meas = s.meas ∧ (State.brBegin k s).lane = s.lane ∧ (State.brBegin k s).snap = s.snap ∧ (State.brBegin k s).phase = s.phase ∧ (State.brBegin k s).loop = s.loop ∧ (State.brBegin k s).shelf = s.shelf ∧ (State.brBegin k s).bat = s.bat ∧ (State.brBegin k s).seq = s.seq ∧ (State.brBegin k s).thm = s.thm ∧ (State.brBegin k s).eng = s.eng ∧ (State.brBegin k s).net = s.net ∧ (State.brBegin k s).twin = s.twin ∧ (State.brBegin k s).casc = s.casc ∧ (State.brBegin k s).rst = s.rst ∧ (State.brBegin k s).mem = s.mem ∧ (State.brBegin k s).evr = s.evr ∧ (State.brBegin k s).upd = s.upd := by
  unfold State.brBegin; (try dsimp only); (repeat' split) <;> simp

@[simp] theorem State.brOn_frame (k : Fin 16) (s : State) :
    (State.brOn k s).pending = s.pending ∧ (State.brOn k s).now = s.now ∧ (State.brOn k s).free = s.free ∧ (State.brOn k s).arch = s.arch ∧ (State.brOn k s).tb = s.tb ∧ (State.brOn k s).meas = s.meas ∧ (State.brOn k s).lane = s.lane ∧ (State.brOn k s).snap = s.snap ∧ (State.brOn k s).phase = s.phase ∧ (State.brOn k s).loop = s.loop ∧ (State.brOn k s).shelf = s.shelf ∧ (State.brOn k s).bat = s.bat ∧ (State.brOn k s).seq = s.seq ∧ (State.brOn k s).thm = s.thm ∧ (State.brOn k s).eng = s.eng ∧ (State.brOn k s).net = s.net ∧ (State.brOn k s).twin = s.twin ∧ (State.brOn k s).casc = s.casc ∧ (State.brOn k s).rst = s.rst ∧ (State.brOn k s).mem = s.mem ∧ (State.brOn k s).evr = s.evr ∧ (State.brOn k s).upd = s.upd := by
  unfold State.brOn; (try dsimp only); (repeat' split) <;> simp

@[simp] theorem State.feedSink_frame (p : Fin 2) (b : Bool) (d : GateDrive) (s : State) :
    (State.feedSink p b d s).pending = s.pending ∧ (State.feedSink p b d s).now = s.now ∧ (State.feedSink p b d s).timers = s.timers ∧ (State.feedSink p b d s).free = s.free ∧ (State.feedSink p b d s).arch = s.arch ∧ (State.feedSink p b d s).tb = s.tb ∧ (State.feedSink p b d s).meas = s.meas ∧ (State.feedSink p b d s).lane = s.lane ∧ (State.feedSink p b d s).snap = s.snap ∧ (State.feedSink p b d s).phase = s.phase ∧ (State.feedSink p b d s).loop = s.loop ∧ (State.feedSink p b d s).shelf = s.shelf ∧ (State.feedSink p b d s).bat = s.bat ∧ (State.feedSink p b d s).seq = s.seq ∧ (State.feedSink p b d s).thm = s.thm ∧ (State.feedSink p b d s).eng = s.eng ∧ (State.feedSink p b d s).net = s.net ∧ (State.feedSink p b d s).twin = s.twin ∧ (State.feedSink p b d s).casc = s.casc ∧ (State.feedSink p b d s).rst = s.rst ∧ (State.feedSink p b d s).mem = s.mem ∧ (State.feedSink p b d s).evr = s.evr ∧ (State.feedSink p b d s).upd = s.upd := by
  unfold State.feedSink; (try dsimp only); (repeat' split) <;> simp

@[simp] theorem State.feedSource_frame (p : Fin 2) (b : Bool) (s : State) :
    (State.feedSource p b s).pending = s.pending ∧ (State.feedSource p b s).now = s.now ∧ (State.feedSource p b s).free = s.free ∧ (State.feedSource p b s).arch = s.arch ∧ (State.feedSource p b s).tb = s.tb ∧ (State.feedSource p b s).meas = s.meas ∧ (State.feedSource p b s).lane = s.lane ∧ (State.feedSource p b s).snap = s.snap ∧ (State.feedSource p b s).phase = s.phase ∧ (State.feedSource p b s).loop = s.loop ∧ (State.feedSource p b s).shelf = s.shelf ∧ (State.feedSource p b s).bat = s.bat ∧ (State.feedSource p b s).seq = s.seq ∧ (State.feedSource p b s).thm = s.thm ∧ (State.feedSource p b s).eng = s.eng ∧ (State.feedSource p b s).net = s.net ∧ (State.feedSource p b s).twin = s.twin ∧ (State.feedSource p b s).casc = s.casc ∧ (State.feedSource p b s).rst = s.rst ∧ (State.feedSource p b s).mem = s.mem ∧ (State.feedSource p b s).evr = s.evr ∧ (State.feedSource p b s).upd = s.upd := by
  unfold State.feedSource; (try dsimp only); (repeat' split) <;> simp

@[simp] theorem State.feedSelect_frame (p : Fin 2) (s : State) :
    (State.feedSelect p s).pending = s.pending ∧ (State.feedSelect p s).now = s.now ∧ (State.feedSelect p s).free = s.free ∧ (State.feedSelect p s).arch = s.arch ∧ (State.feedSelect p s).tb = s.tb ∧ (State.feedSelect p s).meas = s.meas ∧ (State.feedSelect p s).lane = s.lane ∧ (State.feedSelect p s).snap = s.snap ∧ (State.feedSelect p s).phase = s.phase ∧ (State.feedSelect p s).loop = s.loop ∧ (State.feedSelect p s).shelf = s.shelf ∧ (State.feedSelect p s).bat = s.bat ∧ (State.feedSelect p s).seq = s.seq ∧ (State.feedSelect p s).thm = s.thm ∧ (State.feedSelect p s).eng = s.eng ∧ (State.feedSelect p s).twin = s.twin ∧ (State.feedSelect p s).casc = s.casc ∧ (State.feedSelect p s).rst = s.rst ∧ (State.feedSelect p s).mem = s.mem ∧ (State.feedSelect p s).upd = s.upd := by
  unfold State.feedSelect; (try dsimp only); (repeat' split) <;> simp

@[simp] theorem State.feedStart_frame (p : Fin 2) (s : State) :
    (State.feedStart p s).pending = s.pending ∧ (State.feedStart p s).now = s.now ∧ (State.feedStart p s).free = s.free ∧ (State.feedStart p s).arch = s.arch ∧ (State.feedStart p s).tb = s.tb ∧ (State.feedStart p s).meas = s.meas ∧ (State.feedStart p s).lane = s.lane ∧ (State.feedStart p s).snap = s.snap ∧ (State.feedStart p s).loop = s.loop ∧ (State.feedStart p s).shelf = s.shelf ∧ (State.feedStart p s).bat = s.bat ∧ (State.feedStart p s).seq = s.seq ∧ (State.feedStart p s).thm = s.thm ∧ (State.feedStart p s).eng = s.eng ∧ (State.feedStart p s).twin = s.twin ∧ (State.feedStart p s).casc = s.casc ∧ (State.feedStart p s).rst = s.rst ∧ (State.feedStart p s).mem = s.mem ∧ (State.feedStart p s).upd = s.upd := by
  unfold State.feedStart; (try dsimp only); (repeat' split) <;> simp

@[simp] theorem State.feedOff_frame (p : Fin 2) (d : GateDrive) (s : State) :
    (State.feedOff p d s).pending = s.pending ∧ (State.feedOff p d s).now = s.now ∧ (State.feedOff p d s).free = s.free ∧ (State.feedOff p d s).arch = s.arch ∧ (State.feedOff p d s).tb = s.tb ∧ (State.feedOff p d s).meas = s.meas ∧ (State.feedOff p d s).lane = s.lane ∧ (State.feedOff p d s).snap = s.snap ∧ (State.feedOff p d s).phase = s.phase ∧ (State.feedOff p d s).loop = s.loop ∧ (State.feedOff p d s).shelf = s.shelf ∧ (State.feedOff p d s).bat = s.bat ∧ (State.feedOff p d s).seq = s.seq ∧ (State.feedOff p d s).thm = s.thm ∧ (State.feedOff p d s).eng = s.eng ∧ (State.feedOff p d s).net = s.net ∧ (State.feedOff p d s).twin = s.twin ∧ (State.feedOff p d s).casc = s.casc ∧ (State.feedOff p d s).rst = s.rst ∧ (State.feedOff p d s).mem = s.mem ∧ (State.feedOff p d s).evr = s.evr ∧ (State.feedOff p d s).upd = s.upd := by
  unfold State.feedOff; (try dsimp only); (repeat' split) <;> simp

@[simp] theorem State.setStr_frame (n : Fin 4) (x : StrState) (s : State) :
    (State.setStr n x s).pending = s.pending ∧ (State.setStr n x s).now = s.now ∧ (State.setStr n x s).timers = s.timers ∧ (State.setStr n x s).free = s.free ∧ (State.setStr n x s).arch = s.arch ∧ (State.setStr n x s).pins = s.pins ∧ (State.setStr n x s).tb = s.tb ∧ (State.setStr n x s).meas = s.meas ∧ (State.setStr n x s).lane = s.lane ∧ (State.setStr n x s).snap = s.snap ∧ (State.setStr n x s).phase = s.phase ∧ (State.setStr n x s).loop = s.loop ∧ (State.setStr n x s).shelf = s.shelf ∧ (State.setStr n x s).bat = s.bat ∧ (State.setStr n x s).seq = s.seq ∧ (State.setStr n x s).thm = s.thm ∧ (State.setStr n x s).eng = s.eng ∧ (State.setStr n x s).net = s.net ∧ (State.setStr n x s).twin = s.twin ∧ (State.setStr n x s).casc = s.casc ∧ (State.setStr n x s).rst = s.rst ∧ (State.setStr n x s).mem = s.mem ∧ (State.setStr n x s).evr = s.evr ∧ (State.setStr n x s).upd = s.upd := by
  unfold State.setStr; (try dsimp only); (repeat' split) <;> simp

@[simp] theorem State.strConnect_frame (n : Fin 4) (s : State) :
    (State.strConnect n s).pending = s.pending ∧ (State.strConnect n s).now = s.now ∧ (State.strConnect n s).timers = s.timers ∧ (State.strConnect n s).free = s.free ∧ (State.strConnect n s).arch = s.arch ∧ (State.strConnect n s).tb = s.tb ∧ (State.strConnect n s).meas = s.meas ∧ (State.strConnect n s).lane = s.lane ∧ (State.strConnect n s).snap = s.snap ∧ (State.strConnect n s).phase = s.phase ∧ (State.strConnect n s).loop = s.loop ∧ (State.strConnect n s).shelf = s.shelf ∧ (State.strConnect n s).bat = s.bat ∧ (State.strConnect n s).seq = s.seq ∧ (State.strConnect n s).thm = s.thm ∧ (State.strConnect n s).eng = s.eng ∧ (State.strConnect n s).net = s.net ∧ (State.strConnect n s).twin = s.twin ∧ (State.strConnect n s).casc = s.casc ∧ (State.strConnect n s).rst = s.rst ∧ (State.strConnect n s).mem = s.mem ∧ (State.strConnect n s).evr = s.evr ∧ (State.strConnect n s).upd = s.upd := by
  unfold State.strConnect; (try dsimp only); (repeat' split) <;> simp

@[simp] theorem State.strOpen_frame (n : Fin 4) (d : GateDrive) (s : State) :
    (State.strOpen n d s).pending = s.pending ∧ (State.strOpen n d s).now = s.now ∧ (State.strOpen n d s).timers = s.timers ∧ (State.strOpen n d s).free = s.free ∧ (State.strOpen n d s).arch = s.arch ∧ (State.strOpen n d s).tb = s.tb ∧ (State.strOpen n d s).meas = s.meas ∧ (State.strOpen n d s).lane = s.lane ∧ (State.strOpen n d s).snap = s.snap ∧ (State.strOpen n d s).phase = s.phase ∧ (State.strOpen n d s).loop = s.loop ∧ (State.strOpen n d s).shelf = s.shelf ∧ (State.strOpen n d s).bat = s.bat ∧ (State.strOpen n d s).seq = s.seq ∧ (State.strOpen n d s).thm = s.thm ∧ (State.strOpen n d s).eng = s.eng ∧ (State.strOpen n d s).net = s.net ∧ (State.strOpen n d s).twin = s.twin ∧ (State.strOpen n d s).casc = s.casc ∧ (State.strOpen n d s).rst = s.rst ∧ (State.strOpen n d s).mem = s.mem ∧ (State.strOpen n d s).evr = s.evr ∧ (State.strOpen n d s).upd = s.upd := by
  unfold State.strOpen; (try dsimp only); (repeat' split) <;> simp

@[simp] theorem State.driveGpio_frame (pin : Nat) (level : Bool) (s : State) :
    (State.driveGpio pin level s).pending = s.pending ∧ (State.driveGpio pin level s).now = s.now ∧ (State.driveGpio pin level s).timers = s.timers ∧ (State.driveGpio pin level s).free = s.free ∧ (State.driveGpio pin level s).arch = s.arch ∧ (State.driveGpio pin level s).tb = s.tb ∧ (State.driveGpio pin level s).meas = s.meas ∧ (State.driveGpio pin level s).lane = s.lane ∧ (State.driveGpio pin level s).snap = s.snap ∧ (State.driveGpio pin level s).phase = s.phase ∧ (State.driveGpio pin level s).loop = s.loop ∧ (State.driveGpio pin level s).shelf = s.shelf ∧ (State.driveGpio pin level s).dist = s.dist ∧ (State.driveGpio pin level s).bat = s.bat ∧ (State.driveGpio pin level s).seq = s.seq ∧ (State.driveGpio pin level s).thm = s.thm ∧ (State.driveGpio pin level s).eng = s.eng ∧ (State.driveGpio pin level s).net = s.net ∧ (State.driveGpio pin level s).twin = s.twin ∧ (State.driveGpio pin level s).casc = s.casc ∧ (State.driveGpio pin level s).rst = s.rst ∧ (State.driveGpio pin level s).mem = s.mem ∧ (State.driveGpio pin level s).evr = s.evr ∧ (State.driveGpio pin level s).upd = s.upd := by
  unfold State.driveGpio; (try dsimp only); (repeat' split) <;> simp

@[simp] theorem State.loopStart_frame (l : Fin 8) (s : State) :
    (State.loopStart l s).pending = s.pending ∧ (State.loopStart l s).now = s.now ∧ (State.loopStart l s).timers = s.timers ∧ (State.loopStart l s).free = s.free ∧ (State.loopStart l s).arch = s.arch ∧ (State.loopStart l s).pins = s.pins ∧ (State.loopStart l s).tb = s.tb ∧ (State.loopStart l s).meas = s.meas ∧ (State.loopStart l s).snap = s.snap ∧ (State.loopStart l s).shelf = s.shelf ∧ (State.loopStart l s).dist = s.dist ∧ (State.loopStart l s).bat = s.bat ∧ (State.loopStart l s).seq = s.seq ∧ (State.loopStart l s).thm = s.thm ∧ (State.loopStart l s).eng = s.eng ∧ (State.loopStart l s).net = s.net ∧ (State.loopStart l s).twin = s.twin ∧ (State.loopStart l s).casc = s.casc ∧ (State.loopStart l s).rst = s.rst ∧ (State.loopStart l s).mem = s.mem ∧ (State.loopStart l s).evr = s.evr ∧ (State.loopStart l s).upd = s.upd := by
  unfold State.loopStart; (try dsimp only); (repeat' split) <;> simp

@[simp] theorem State.loopStop_frame (l : Fin 8) (s : State) :
    (State.loopStop l s).pending = s.pending ∧ (State.loopStop l s).now = s.now ∧ (State.loopStop l s).timers = s.timers ∧ (State.loopStop l s).free = s.free ∧ (State.loopStop l s).arch = s.arch ∧ (State.loopStop l s).tb = s.tb ∧ (State.loopStop l s).meas = s.meas ∧ (State.loopStop l s).lane = s.lane ∧ (State.loopStop l s).snap = s.snap ∧ (State.loopStop l s).shelf = s.shelf ∧ (State.loopStop l s).dist = s.dist ∧ (State.loopStop l s).bat = s.bat ∧ (State.loopStop l s).seq = s.seq ∧ (State.loopStop l s).thm = s.thm ∧ (State.loopStop l s).eng = s.eng ∧ (State.loopStop l s).net = s.net ∧ (State.loopStop l s).twin = s.twin ∧ (State.loopStop l s).casc = s.casc ∧ (State.loopStop l s).rst = s.rst ∧ (State.loopStop l s).mem = s.mem ∧ (State.loopStop l s).evr = s.evr ∧ (State.loopStop l s).upd = s.upd := by
  unfold State.loopStop; (try dsimp only); (repeat' split) <;> simp

@[simp] theorem State.loopCut_frame (l : Fin 8) (s : State) :
    (State.loopCut l s).pending = s.pending ∧ (State.loopCut l s).now = s.now ∧ (State.loopCut l s).timers = s.timers ∧ (State.loopCut l s).free = s.free ∧ (State.loopCut l s).arch = s.arch ∧ (State.loopCut l s).tb = s.tb ∧ (State.loopCut l s).meas = s.meas ∧ (State.loopCut l s).lane = s.lane ∧ (State.loopCut l s).snap = s.snap ∧ (State.loopCut l s).shelf = s.shelf ∧ (State.loopCut l s).dist = s.dist ∧ (State.loopCut l s).bat = s.bat ∧ (State.loopCut l s).seq = s.seq ∧ (State.loopCut l s).thm = s.thm ∧ (State.loopCut l s).eng = s.eng ∧ (State.loopCut l s).net = s.net ∧ (State.loopCut l s).twin = s.twin ∧ (State.loopCut l s).casc = s.casc ∧ (State.loopCut l s).rst = s.rst ∧ (State.loopCut l s).mem = s.mem ∧ (State.loopCut l s).evr = s.evr ∧ (State.loopCut l s).upd = s.upd := by
  unfold State.loopCut; (try dsimp only); (repeat' split) <;> simp

@[simp] theorem State.loopHalt_frame (l : Fin 8) (s : State) :
    (State.loopHalt l s).pending = s.pending ∧ (State.loopHalt l s).now = s.now ∧ (State.loopHalt l s).timers = s.timers ∧ (State.loopHalt l s).free = s.free ∧ (State.loopHalt l s).arch = s.arch ∧ (State.loopHalt l s).tb = s.tb ∧ (State.loopHalt l s).meas = s.meas ∧ (State.loopHalt l s).lane = s.lane ∧ (State.loopHalt l s).snap = s.snap ∧ (State.loopHalt l s).shelf = s.shelf ∧ (State.loopHalt l s).dist = s.dist ∧ (State.loopHalt l s).bat = s.bat ∧ (State.loopHalt l s).seq = s.seq ∧ (State.loopHalt l s).thm = s.thm ∧ (State.loopHalt l s).eng = s.eng ∧ (State.loopHalt l s).net = s.net ∧ (State.loopHalt l s).twin = s.twin ∧ (State.loopHalt l s).casc = s.casc ∧ (State.loopHalt l s).rst = s.rst ∧ (State.loopHalt l s).mem = s.mem ∧ (State.loopHalt l s).evr = s.evr ∧ (State.loopHalt l s).upd = s.upd := by
  unfold State.loopHalt; (try dsimp only); (repeat' split) <;> simp

@[simp] theorem State.railTo_frame (r : Fin 32) (x : RailSt) (s : State) :
    (State.railTo r x s).pending = s.pending ∧ (State.railTo r x s).now = s.now ∧ (State.railTo r x s).timers = s.timers ∧ (State.railTo r x s).free = s.free ∧ (State.railTo r x s).arch = s.arch ∧ (State.railTo r x s).pins = s.pins ∧ (State.railTo r x s).tb = s.tb ∧ (State.railTo r x s).meas = s.meas ∧ (State.railTo r x s).lane = s.lane ∧ (State.railTo r x s).snap = s.snap ∧ (State.railTo r x s).phase = s.phase ∧ (State.railTo r x s).loop = s.loop ∧ (State.railTo r x s).shelf = s.shelf ∧ (State.railTo r x s).dist = s.dist ∧ (State.railTo r x s).bat = s.bat ∧ (State.railTo r x s).thm = s.thm ∧ (State.railTo r x s).eng = s.eng ∧ (State.railTo r x s).net = s.net ∧ (State.railTo r x s).twin = s.twin ∧ (State.railTo r x s).casc = s.casc ∧ (State.railTo r x s).rst = s.rst ∧ (State.railTo r x s).mem = s.mem ∧ (State.railTo r x s).evr = s.evr ∧ (State.railTo r x s).upd = s.upd := by
  unfold State.railTo; (try dsimp only); (repeat' split) <;> simp

@[simp] theorem State.drivePg_frame  (s : State) :
    (State.drivePg s).pending = s.pending ∧ (State.drivePg s).now = s.now ∧ (State.drivePg s).timers = s.timers ∧ (State.drivePg s).free = s.free ∧ (State.drivePg s).arch = s.arch ∧ (State.drivePg s).tb = s.tb ∧ (State.drivePg s).meas = s.meas ∧ (State.drivePg s).lane = s.lane ∧ (State.drivePg s).snap = s.snap ∧ (State.drivePg s).phase = s.phase ∧ (State.drivePg s).loop = s.loop ∧ (State.drivePg s).shelf = s.shelf ∧ (State.drivePg s).dist = s.dist ∧ (State.drivePg s).bat = s.bat ∧ (State.drivePg s).seq = s.seq ∧ (State.drivePg s).thm = s.thm ∧ (State.drivePg s).eng = s.eng ∧ (State.drivePg s).net = s.net ∧ (State.drivePg s).twin = s.twin ∧ (State.drivePg s).casc = s.casc ∧ (State.drivePg s).rst = s.rst ∧ (State.drivePg s).mem = s.mem ∧ (State.drivePg s).evr = s.evr ∧ (State.drivePg s).upd = s.upd := by
  unfold State.drivePg; (try dsimp only); (repeat' split) <;> simp

@[simp] theorem State.dropPg_frame (r : Fin 32) (s : State) :
    (State.dropPg r s).pending = s.pending ∧ (State.dropPg r s).now = s.now ∧ (State.dropPg r s).timers = s.timers ∧ (State.dropPg r s).free = s.free ∧ (State.dropPg r s).arch = s.arch ∧ (State.dropPg r s).tb = s.tb ∧ (State.dropPg r s).meas = s.meas ∧ (State.dropPg r s).lane = s.lane ∧ (State.dropPg r s).snap = s.snap ∧ (State.dropPg r s).phase = s.phase ∧ (State.dropPg r s).loop = s.loop ∧ (State.dropPg r s).shelf = s.shelf ∧ (State.dropPg r s).dist = s.dist ∧ (State.dropPg r s).bat = s.bat ∧ (State.dropPg r s).thm = s.thm ∧ (State.dropPg r s).eng = s.eng ∧ (State.dropPg r s).net = s.net ∧ (State.dropPg r s).twin = s.twin ∧ (State.dropPg r s).casc = s.casc ∧ (State.dropPg r s).rst = s.rst ∧ (State.dropPg r s).mem = s.mem ∧ (State.dropPg r s).evr = s.evr ∧ (State.dropPg r s).upd = s.upd := by
  unfold State.dropPg; (try dsimp only); (repeat' split) <;> simp

@[simp] theorem State.railQuiet_frame (r : Fin 32) (s : State) :
    (State.railQuiet r s).pending = s.pending ∧ (State.railQuiet r s).now = s.now ∧ (State.railQuiet r s).free = s.free ∧ (State.railQuiet r s).arch = s.arch ∧ (State.railQuiet r s).pins = s.pins ∧ (State.railQuiet r s).tb = s.tb ∧ (State.railQuiet r s).meas = s.meas ∧ (State.railQuiet r s).lane = s.lane ∧ (State.railQuiet r s).snap = s.snap ∧ (State.railQuiet r s).phase = s.phase ∧ (State.railQuiet r s).loop = s.loop ∧ (State.railQuiet r s).shelf = s.shelf ∧ (State.railQuiet r s).dist = s.dist ∧ (State.railQuiet r s).bat = s.bat ∧ (State.railQuiet r s).seq = s.seq ∧ (State.railQuiet r s).thm = s.thm ∧ (State.railQuiet r s).eng = s.eng ∧ (State.railQuiet r s).net = s.net ∧ (State.railQuiet r s).twin = s.twin ∧ (State.railQuiet r s).casc = s.casc ∧ (State.railQuiet r s).rst = s.rst ∧ (State.railQuiet r s).mem = s.mem ∧ (State.railQuiet r s).evr = s.evr ∧ (State.railQuiet r s).upd = s.upd := by
  unfold State.railQuiet; (try dsimp only); (repeat' split) <;> simp

@[simp] theorem State.chanStart_frame (r : Fin 32) (s : State) :
    (State.chanStart r s).pending = s.pending ∧ (State.chanStart r s).now = s.now ∧ (State.chanStart r s).free = s.free ∧ (State.chanStart r s).arch = s.arch ∧ (State.chanStart r s).tb = s.tb ∧ (State.chanStart r s).meas = s.meas ∧ (State.chanStart r s).snap = s.snap ∧ (State.chanStart r s).shelf = s.shelf ∧ (State.chanStart r s).seq = s.seq ∧ (State.chanStart r s).thm = s.thm ∧ (State.chanStart r s).eng = s.eng ∧ (State.chanStart r s).twin = s.twin ∧ (State.chanStart r s).casc = s.casc ∧ (State.chanStart r s).rst = s.rst ∧ (State.chanStart r s).mem = s.mem ∧ (State.chanStart r s).upd = s.upd := by
  unfold State.chanStart; (try dsimp only); (repeat' split) <;> simp

@[simp] theorem State.chanStop_frame (r : Fin 32) (s : State) :
    (State.chanStop r s).pending = s.pending ∧ (State.chanStop r s).now = s.now ∧ (State.chanStop r s).free = s.free ∧ (State.chanStop r s).arch = s.arch ∧ (State.chanStop r s).tb = s.tb ∧ (State.chanStop r s).meas = s.meas ∧ (State.chanStop r s).lane = s.lane ∧ (State.chanStop r s).snap = s.snap ∧ (State.chanStop r s).shelf = s.shelf ∧ (State.chanStop r s).seq = s.seq ∧ (State.chanStop r s).thm = s.thm ∧ (State.chanStop r s).eng = s.eng ∧ (State.chanStop r s).net = s.net ∧ (State.chanStop r s).twin = s.twin ∧ (State.chanStop r s).casc = s.casc ∧ (State.chanStop r s).rst = s.rst ∧ (State.chanStop r s).mem = s.mem ∧ (State.chanStop r s).evr = s.evr ∧ (State.chanStop r s).upd = s.upd := by
  unfold State.chanStop; (try dsimp only); (repeat' split) <;> simp

@[simp] theorem State.startRail_frame (r : Fin 32) (s : State) :
    (State.startRail r s).pending = s.pending ∧ (State.startRail r s).now = s.now ∧ (State.startRail r s).free = s.free ∧ (State.startRail r s).arch = s.arch ∧ (State.startRail r s).tb = s.tb ∧ (State.startRail r s).meas = s.meas ∧ (State.startRail r s).snap = s.snap ∧ (State.startRail r s).shelf = s.shelf ∧ (State.startRail r s).thm = s.thm ∧ (State.startRail r s).eng = s.eng ∧ (State.startRail r s).twin = s.twin ∧ (State.startRail r s).casc = s.casc ∧ (State.startRail r s).rst = s.rst ∧ (State.startRail r s).mem = s.mem ∧ (State.startRail r s).upd = s.upd := by
  unfold State.startRail; (try dsimp only); (repeat' split) <;> simp

@[simp] theorem State.stopRail_frame (r : Fin 32) (why : StopWhy) (s : State) :
    (State.stopRail r why s).pending = s.pending ∧ (State.stopRail r why s).now = s.now ∧ (State.stopRail r why s).free = s.free ∧ (State.stopRail r why s).arch = s.arch ∧ (State.stopRail r why s).tb = s.tb ∧ (State.stopRail r why s).meas = s.meas ∧ (State.stopRail r why s).lane = s.lane ∧ (State.stopRail r why s).snap = s.snap ∧ (State.stopRail r why s).shelf = s.shelf ∧ (State.stopRail r why s).thm = s.thm ∧ (State.stopRail r why s).eng = s.eng ∧ (State.stopRail r why s).net = s.net ∧ (State.stopRail r why s).twin = s.twin ∧ (State.stopRail r why s).casc = s.casc ∧ (State.stopRail r why s).rst = s.rst ∧ (State.stopRail r why s).mem = s.mem ∧ (State.stopRail r why s).evr = s.evr ∧ (State.stopRail r why s).upd = s.upd := by
  unfold State.stopRail; (try dsimp only); (repeat' split) <;> simp

@[simp] theorem State.cancelWaiting_frame (p : Fin 32 → Bool) (s : State) :
    (State.cancelWaiting p s).pending = s.pending ∧ (State.cancelWaiting p s).now = s.now ∧ (State.cancelWaiting p s).free = s.free ∧ (State.cancelWaiting p s).arch = s.arch ∧ (State.cancelWaiting p s).pins = s.pins ∧ (State.cancelWaiting p s).tb = s.tb ∧ (State.cancelWaiting p s).meas = s.meas ∧ (State.cancelWaiting p s).lane = s.lane ∧ (State.cancelWaiting p s).snap = s.snap ∧ (State.cancelWaiting p s).phase = s.phase ∧ (State.cancelWaiting p s).loop = s.loop ∧ (State.cancelWaiting p s).shelf = s.shelf ∧ (State.cancelWaiting p s).dist = s.dist ∧ (State.cancelWaiting p s).bat = s.bat ∧ (State.cancelWaiting p s).thm = s.thm ∧ (State.cancelWaiting p s).eng = s.eng ∧ (State.cancelWaiting p s).net = s.net ∧ (State.cancelWaiting p s).twin = s.twin ∧ (State.cancelWaiting p s).casc = s.casc ∧ (State.cancelWaiting p s).rst = s.rst ∧ (State.cancelWaiting p s).mem = s.mem ∧ (State.cancelWaiting p s).evr = s.evr ∧ (State.cancelWaiting p s).upd = s.upd := by
  unfold State.cancelWaiting; (try dsimp only); (repeat' split) <;> simp

@[simp] theorem State.seqRefresh_frame  (s : State) :
    (State.seqRefresh s).pending = s.pending ∧ (State.seqRefresh s).now = s.now ∧ (State.seqRefresh s).timers = s.timers ∧ (State.seqRefresh s).free = s.free ∧ (State.seqRefresh s).arch = s.arch ∧ (State.seqRefresh s).pins = s.pins ∧ (State.seqRefresh s).tb = s.tb ∧ (State.seqRefresh s).meas = s.meas ∧ (State.seqRefresh s).lane = s.lane ∧ (State.seqRefresh s).snap = s.snap ∧ (State.seqRefresh s).phase = s.phase ∧ (State.seqRefresh s).loop = s.loop ∧ (State.seqRefresh s).shelf = s.shelf ∧ (State.seqRefresh s).dist = s.dist ∧ (State.seqRefresh s).bat = s.bat ∧ (State.seqRefresh s).thm = s.thm ∧ (State.seqRefresh s).eng = s.eng ∧ (State.seqRefresh s).net = s.net ∧ (State.seqRefresh s).twin = s.twin ∧ (State.seqRefresh s).casc = s.casc ∧ (State.seqRefresh s).rst = s.rst ∧ (State.seqRefresh s).mem = s.mem ∧ (State.seqRefresh s).evr = s.evr ∧ (State.seqRefresh s).upd = s.upd := by
  unfold State.seqRefresh; (try dsimp only); (repeat' split) <;> simp

@[simp] theorem State.latchRail_frame (r : Fin 32) (s : State) :
    (State.latchRail r s).pending = s.pending ∧ (State.latchRail r s).now = s.now ∧ (State.latchRail r s).free = s.free ∧ (State.latchRail r s).arch = s.arch ∧ (State.latchRail r s).tb = s.tb ∧ (State.latchRail r s).meas = s.meas ∧ (State.latchRail r s).lane = s.lane ∧ (State.latchRail r s).snap = s.snap ∧ (State.latchRail r s).phase = s.phase ∧ (State.latchRail r s).loop = s.loop ∧ (State.latchRail r s).shelf = s.shelf ∧ (State.latchRail r s).dist = s.dist ∧ (State.latchRail r s).bat = s.bat ∧ (State.latchRail r s).thm = s.thm ∧ (State.latchRail r s).eng = s.eng ∧ (State.latchRail r s).twin = s.twin ∧ (State.latchRail r s).casc = s.casc ∧ (State.latchRail r s).rst = s.rst ∧ (State.latchRail r s).mem = s.mem ∧ (State.latchRail r s).upd = s.upd := by
  unfold State.latchRail; (try dsimp only); (repeat' split) <;> simp

@[simp] theorem State.recordFault_frame (r : Fin 32) (code : Nat) (s : State) :
    (State.recordFault r code s).pending = s.pending ∧ (State.recordFault r code s).now = s.now ∧ (State.recordFault r code s).free = s.free ∧ (State.recordFault r code s).arch = s.arch ∧ (State.recordFault r code s).pins = s.pins ∧ (State.recordFault r code s).tb = s.tb ∧ (State.recordFault r code s).meas = s.meas ∧ (State.recordFault r code s).lane = s.lane ∧ (State.recordFault r code s).snap = s.snap ∧ (State.recordFault r code s).phase = s.phase ∧ (State.recordFault r code s).loop = s.loop ∧ (State.recordFault r code s).shelf = s.shelf ∧ (State.recordFault r code s).dist = s.dist ∧ (State.recordFault r code s).bat = s.bat ∧ (State.recordFault r code s).thm = s.thm ∧ (State.recordFault r code s).eng = s.eng ∧ (State.recordFault r code s).twin = s.twin ∧ (State.recordFault r code s).casc = s.casc ∧ (State.recordFault r code s).rst = s.rst ∧ (State.recordFault r code s).mem = s.mem ∧ (State.recordFault r code s).upd = s.upd := by
  unfold State.recordFault; (try dsimp only); (repeat' split) <;> simp

@[simp] theorem State.quenchPins_frame  (s : State) :
    (State.quenchPins s).pending = s.pending ∧ (State.quenchPins s).now = s.now ∧ (State.quenchPins s).free = s.free ∧ (State.quenchPins s).arch = s.arch ∧ (State.quenchPins s).tb = s.tb ∧ (State.quenchPins s).meas = s.meas ∧ (State.quenchPins s).lane = s.lane ∧ (State.quenchPins s).snap = s.snap ∧ (State.quenchPins s).phase = s.phase ∧ (State.quenchPins s).loop = s.loop ∧ (State.quenchPins s).shelf = s.shelf ∧ (State.quenchPins s).bat = s.bat ∧ (State.quenchPins s).seq = s.seq ∧ (State.quenchPins s).thm = s.thm ∧ (State.quenchPins s).eng = s.eng ∧ (State.quenchPins s).net = s.net ∧ (State.quenchPins s).twin = s.twin ∧ (State.quenchPins s).casc = s.casc ∧ (State.quenchPins s).rst = s.rst ∧ (State.quenchPins s).mem = s.mem ∧ (State.quenchPins s).evr = s.evr ∧ (State.quenchPins s).upd = s.upd := by
  unfold State.quenchPins; (try dsimp only); (repeat' split) <;> simp

@[simp] theorem State.quenchBranch_frame (k : Fin 16) (s : State) :
    (State.quenchBranch k s).pending = s.pending ∧ (State.quenchBranch k s).now = s.now ∧ (State.quenchBranch k s).free = s.free ∧ (State.quenchBranch k s).arch = s.arch ∧ (State.quenchBranch k s).tb = s.tb ∧ (State.quenchBranch k s).meas = s.meas ∧ (State.quenchBranch k s).lane = s.lane ∧ (State.quenchBranch k s).snap = s.snap ∧ (State.quenchBranch k s).phase = s.phase ∧ (State.quenchBranch k s).loop = s.loop ∧ (State.quenchBranch k s).shelf = s.shelf ∧ (State.quenchBranch k s).bat = s.bat ∧ (State.quenchBranch k s).seq = s.seq ∧ (State.quenchBranch k s).thm = s.thm ∧ (State.quenchBranch k s).eng = s.eng ∧ (State.quenchBranch k s).net = s.net ∧ (State.quenchBranch k s).twin = s.twin ∧ (State.quenchBranch k s).casc = s.casc ∧ (State.quenchBranch k s).rst = s.rst ∧ (State.quenchBranch k s).mem = s.mem ∧ (State.quenchBranch k s).evr = s.evr ∧ (State.quenchBranch k s).upd = s.upd := by
  unfold State.quenchBranch; (try dsimp only); (repeat' split) <;> simp

@[simp] theorem State.quenchFeed_frame (p : Fin 2) (s : State) :
    (State.quenchFeed p s).pending = s.pending ∧ (State.quenchFeed p s).now = s.now ∧ (State.quenchFeed p s).free = s.free ∧ (State.quenchFeed p s).arch = s.arch ∧ (State.quenchFeed p s).tb = s.tb ∧ (State.quenchFeed p s).meas = s.meas ∧ (State.quenchFeed p s).lane = s.lane ∧ (State.quenchFeed p s).snap = s.snap ∧ (State.quenchFeed p s).phase = s.phase ∧ (State.quenchFeed p s).loop = s.loop ∧ (State.quenchFeed p s).shelf = s.shelf ∧ (State.quenchFeed p s).bat = s.bat ∧ (State.quenchFeed p s).seq = s.seq ∧ (State.quenchFeed p s).thm = s.thm ∧ (State.quenchFeed p s).eng = s.eng ∧ (State.quenchFeed p s).net = s.net ∧ (State.quenchFeed p s).twin = s.twin ∧ (State.quenchFeed p s).casc = s.casc ∧ (State.quenchFeed p s).rst = s.rst ∧ (State.quenchFeed p s).mem = s.mem ∧ (State.quenchFeed p s).evr = s.evr ∧ (State.quenchFeed p s).upd = s.upd := by
  unfold State.quenchFeed; (try dsimp only); (repeat' split) <;> simp

@[simp] theorem State.quenchStr_frame (n : Fin 4) (s : State) :
    (State.quenchStr n s).pending = s.pending ∧ (State.quenchStr n s).now = s.now ∧ (State.quenchStr n s).timers = s.timers ∧ (State.quenchStr n s).free = s.free ∧ (State.quenchStr n s).arch = s.arch ∧ (State.quenchStr n s).tb = s.tb ∧ (State.quenchStr n s).meas = s.meas ∧ (State.quenchStr n s).lane = s.lane ∧ (State.quenchStr n s).snap = s.snap ∧ (State.quenchStr n s).phase = s.phase ∧ (State.quenchStr n s).loop = s.loop ∧ (State.quenchStr n s).shelf = s.shelf ∧ (State.quenchStr n s).bat = s.bat ∧ (State.quenchStr n s).seq = s.seq ∧ (State.quenchStr n s).thm = s.thm ∧ (State.quenchStr n s).eng = s.eng ∧ (State.quenchStr n s).net = s.net ∧ (State.quenchStr n s).twin = s.twin ∧ (State.quenchStr n s).casc = s.casc ∧ (State.quenchStr n s).rst = s.rst ∧ (State.quenchStr n s).mem = s.mem ∧ (State.quenchStr n s).evr = s.evr ∧ (State.quenchStr n s).upd = s.upd := by
  unfold State.quenchStr; (try dsimp only); (repeat' split) <;> simp

@[simp] theorem State.learnWrite_frame  (s : State) :
    (State.learnWrite s).pending = s.pending ∧ (State.learnWrite s).now = s.now ∧ (State.learnWrite s).free = s.free ∧ (State.learnWrite s).arch = s.arch ∧ (State.learnWrite s).pins = s.pins ∧ (State.learnWrite s).tb = s.tb ∧ (State.learnWrite s).meas = s.meas ∧ (State.learnWrite s).lane = s.lane ∧ (State.learnWrite s).snap = s.snap ∧ (State.learnWrite s).phase = s.phase ∧ (State.learnWrite s).loop = s.loop ∧ (State.learnWrite s).shelf = s.shelf ∧ (State.learnWrite s).dist = s.dist ∧ (State.learnWrite s).seq = s.seq ∧ (State.learnWrite s).thm = s.thm ∧ (State.learnWrite s).eng = s.eng ∧ (State.learnWrite s).net = s.net ∧ (State.learnWrite s).twin = s.twin ∧ (State.learnWrite s).casc = s.casc ∧ (State.learnWrite s).rst = s.rst ∧ (State.learnWrite s).mem = s.mem ∧ (State.learnWrite s).evr = s.evr ∧ (State.learnWrite s).upd = s.upd := by
  unfold State.learnWrite; (try dsimp only); (repeat' split) <;> simp

@[simp] theorem State.learnSooner_frame  (s : State) :
    (State.learnSooner s).pending = s.pending ∧ (State.learnSooner s).now = s.now ∧ (State.learnSooner s).free = s.free ∧ (State.learnSooner s).arch = s.arch ∧ (State.learnSooner s).pins = s.pins ∧ (State.learnSooner s).tb = s.tb ∧ (State.learnSooner s).meas = s.meas ∧ (State.learnSooner s).lane = s.lane ∧ (State.learnSooner s).snap = s.snap ∧ (State.learnSooner s).phase = s.phase ∧ (State.learnSooner s).loop = s.loop ∧ (State.learnSooner s).shelf = s.shelf ∧ (State.learnSooner s).dist = s.dist ∧ (State.learnSooner s).bat = s.bat ∧ (State.learnSooner s).seq = s.seq ∧ (State.learnSooner s).thm = s.thm ∧ (State.learnSooner s).eng = s.eng ∧ (State.learnSooner s).net = s.net ∧ (State.learnSooner s).twin = s.twin ∧ (State.learnSooner s).casc = s.casc ∧ (State.learnSooner s).rst = s.rst ∧ (State.learnSooner s).mem = s.mem ∧ (State.learnSooner s).evr = s.evr ∧ (State.learnSooner s).upd = s.upd := by
  unfold State.learnSooner; (try dsimp only); (repeat' split) <;> simp

@[simp] theorem State.restoreLearned_frame  (s : State) :
    (State.restoreLearned s).pending = s.pending ∧ (State.restoreLearned s).now = s.now ∧ (State.restoreLearned s).free = s.free ∧ (State.restoreLearned s).arch = s.arch ∧ (State.restoreLearned s).pins = s.pins ∧ (State.restoreLearned s).meas = s.meas ∧ (State.restoreLearned s).lane = s.lane ∧ (State.restoreLearned s).snap = s.snap ∧ (State.restoreLearned s).phase = s.phase ∧ (State.restoreLearned s).loop = s.loop ∧ (State.restoreLearned s).shelf = s.shelf ∧ (State.restoreLearned s).dist = s.dist ∧ (State.restoreLearned s).seq = s.seq ∧ (State.restoreLearned s).thm = s.thm ∧ (State.restoreLearned s).eng = s.eng ∧ (State.restoreLearned s).twin = s.twin ∧ (State.restoreLearned s).casc = s.casc ∧ (State.restoreLearned s).rst = s.rst ∧ (State.restoreLearned s).mem = s.mem ∧ (State.restoreLearned s).upd = s.upd := by
  unfold State.restoreLearned; (try dsimp only); (repeat' split) <;> simp

@[simp] theorem State.abandonCycle_frame (n : Fin 4) (s : State) :
    (State.abandonCycle n s).pending = s.pending ∧ (State.abandonCycle n s).now = s.now ∧ (State.abandonCycle n s).free = s.free ∧ (State.abandonCycle n s).arch = s.arch ∧ (State.abandonCycle n s).pins = s.pins ∧ (State.abandonCycle n s).tb = s.tb ∧ (State.abandonCycle n s).meas = s.meas ∧ (State.abandonCycle n s).lane = s.lane ∧ (State.abandonCycle n s).snap = s.snap ∧ (State.abandonCycle n s).phase = s.phase ∧ (State.abandonCycle n s).loop = s.loop ∧ (State.abandonCycle n s).shelf = s.shelf ∧ (State.abandonCycle n s).dist = s.dist ∧ (State.abandonCycle n s).seq = s.seq ∧ (State.abandonCycle n s).thm = s.thm ∧ (State.abandonCycle n s).eng = s.eng ∧ (State.abandonCycle n s).twin = s.twin ∧ (State.abandonCycle n s).casc = s.casc ∧ (State.abandonCycle n s).rst = s.rst ∧ (State.abandonCycle n s).mem = s.mem ∧ (State.abandonCycle n s).upd = s.upd := by
  unfold State.abandonCycle; (try dsimp only); (repeat' split) <;> simp

@[simp] theorem State.initString_frame (n : Fin 4) (s : State) :
    (State.initString n s).pending = s.pending ∧ (State.initString n s).now = s.now ∧ (State.initString n s).timers = s.timers ∧ (State.initString n s).free = s.free ∧ (State.initString n s).arch = s.arch ∧ (State.initString n s).pins = s.pins ∧ (State.initString n s).tb = s.tb ∧ (State.initString n s).meas = s.meas ∧ (State.initString n s).lane = s.lane ∧ (State.initString n s).snap = s.snap ∧ (State.initString n s).phase = s.phase ∧ (State.initString n s).loop = s.loop ∧ (State.initString n s).shelf = s.shelf ∧ (State.initString n s).dist = s.dist ∧ (State.initString n s).seq = s.seq ∧ (State.initString n s).thm = s.thm ∧ (State.initString n s).eng = s.eng ∧ (State.initString n s).net = s.net ∧ (State.initString n s).twin = s.twin ∧ (State.initString n s).casc = s.casc ∧ (State.initString n s).rst = s.rst ∧ (State.initString n s).mem = s.mem ∧ (State.initString n s).evr = s.evr ∧ (State.initString n s).upd = s.upd := by
  unfold State.initString; (try dsimp only); (repeat' split) <;> simp

@[simp] theorem State.gapStart_frame (n : Fin 4) (s : State) :
    (State.gapStart n s).pending = s.pending ∧ (State.gapStart n s).now = s.now ∧ (State.gapStart n s).timers = s.timers ∧ (State.gapStart n s).free = s.free ∧ (State.gapStart n s).arch = s.arch ∧ (State.gapStart n s).pins = s.pins ∧ (State.gapStart n s).tb = s.tb ∧ (State.gapStart n s).meas = s.meas ∧ (State.gapStart n s).lane = s.lane ∧ (State.gapStart n s).snap = s.snap ∧ (State.gapStart n s).phase = s.phase ∧ (State.gapStart n s).loop = s.loop ∧ (State.gapStart n s).shelf = s.shelf ∧ (State.gapStart n s).dist = s.dist ∧ (State.gapStart n s).seq = s.seq ∧ (State.gapStart n s).thm = s.thm ∧ (State.gapStart n s).eng = s.eng ∧ (State.gapStart n s).net = s.net ∧ (State.gapStart n s).twin = s.twin ∧ (State.gapStart n s).casc = s.casc ∧ (State.gapStart n s).rst = s.rst ∧ (State.gapStart n s).mem = s.mem ∧ (State.gapStart n s).evr = s.evr ∧ (State.gapStart n s).upd = s.upd := by
  unfold State.gapStart; (try dsimp only); (repeat' split) <;> simp

@[simp] theorem State.gapEnd_frame (cause : Nat) (n : Fin 4) (s : State) :
    (State.gapEnd cause n s).pending = s.pending ∧ (State.gapEnd cause n s).now = s.now ∧ (State.gapEnd cause n s).free = s.free ∧ (State.gapEnd cause n s).arch = s.arch ∧ (State.gapEnd cause n s).pins = s.pins ∧ (State.gapEnd cause n s).tb = s.tb ∧ (State.gapEnd cause n s).meas = s.meas ∧ (State.gapEnd cause n s).lane = s.lane ∧ (State.gapEnd cause n s).snap = s.snap ∧ (State.gapEnd cause n s).phase = s.phase ∧ (State.gapEnd cause n s).loop = s.loop ∧ (State.gapEnd cause n s).shelf = s.shelf ∧ (State.gapEnd cause n s).dist = s.dist ∧ (State.gapEnd cause n s).seq = s.seq ∧ (State.gapEnd cause n s).thm = s.thm ∧ (State.gapEnd cause n s).eng = s.eng ∧ (State.gapEnd cause n s).twin = s.twin ∧ (State.gapEnd cause n s).casc = s.casc ∧ (State.gapEnd cause n s).rst = s.rst ∧ (State.gapEnd cause n s).mem = s.mem ∧ (State.gapEnd cause n s).upd = s.upd := by
  unfold State.gapEnd; (try dsimp only); (repeat' split) <;> simp

@[simp] theorem State.countCharge_frame (n : Fin 4) (acc : Rat) (s : State) :
    (State.countCharge n acc s).pending = s.pending ∧ (State.countCharge n acc s).now = s.now ∧ (State.countCharge n acc s).free = s.free ∧ (State.countCharge n acc s).arch = s.arch ∧ (State.countCharge n acc s).pins = s.pins ∧ (State.countCharge n acc s).tb = s.tb ∧ (State.countCharge n acc s).meas = s.meas ∧ (State.countCharge n acc s).lane = s.lane ∧ (State.countCharge n acc s).snap = s.snap ∧ (State.countCharge n acc s).phase = s.phase ∧ (State.countCharge n acc s).loop = s.loop ∧ (State.countCharge n acc s).shelf = s.shelf ∧ (State.countCharge n acc s).dist = s.dist ∧ (State.countCharge n acc s).seq = s.seq ∧ (State.countCharge n acc s).thm = s.thm ∧ (State.countCharge n acc s).eng = s.eng ∧ (State.countCharge n acc s).twin = s.twin ∧ (State.countCharge n acc s).casc = s.casc ∧ (State.countCharge n acc s).rst = s.rst ∧ (State.countCharge n acc s).mem = s.mem ∧ (State.countCharge n acc s).upd = s.upd := by
  unfold State.countCharge; (try dsimp only); (repeat' split) <;> simp

@[simp] theorem State.strSample_frame (n : Fin 4) (s : State) :
    (State.strSample n s).pending = s.pending ∧ (State.strSample n s).now = s.now ∧ (State.strSample n s).timers = s.timers ∧ (State.strSample n s).free = s.free ∧ (State.strSample n s).arch = s.arch ∧ (State.strSample n s).pins = s.pins ∧ (State.strSample n s).tb = s.tb ∧ (State.strSample n s).meas = s.meas ∧ (State.strSample n s).lane = s.lane ∧ (State.strSample n s).snap = s.snap ∧ (State.strSample n s).phase = s.phase ∧ (State.strSample n s).loop = s.loop ∧ (State.strSample n s).shelf = s.shelf ∧ (State.strSample n s).dist = s.dist ∧ (State.strSample n s).seq = s.seq ∧ (State.strSample n s).thm = s.thm ∧ (State.strSample n s).eng = s.eng ∧ (State.strSample n s).net = s.net ∧ (State.strSample n s).twin = s.twin ∧ (State.strSample n s).casc = s.casc ∧ (State.strSample n s).rst = s.rst ∧ (State.strSample n s).mem = s.mem ∧ (State.strSample n s).evr = s.evr ∧ (State.strSample n s).upd = s.upd := by
  unfold State.strSample; (try dsimp only); (repeat' split) <;> simp

@[simp] theorem State.strTimes_frame (n : Fin 4) (s : State) :
    (State.strTimes n s).pending = s.pending ∧ (State.strTimes n s).now = s.now ∧ (State.strTimes n s).free = s.free ∧ (State.strTimes n s).arch = s.arch ∧ (State.strTimes n s).tb = s.tb ∧ (State.strTimes n s).meas = s.meas ∧ (State.strTimes n s).lane = s.lane ∧ (State.strTimes n s).snap = s.snap ∧ (State.strTimes n s).phase = s.phase ∧ (State.strTimes n s).loop = s.loop ∧ (State.strTimes n s).shelf = s.shelf ∧ (State.strTimes n s).seq = s.seq ∧ (State.strTimes n s).thm = s.thm ∧ (State.strTimes n s).eng = s.eng ∧ (State.strTimes n s).net = s.net ∧ (State.strTimes n s).twin = s.twin ∧ (State.strTimes n s).casc = s.casc ∧ (State.strTimes n s).rst = s.rst ∧ (State.strTimes n s).mem = s.mem ∧ (State.strTimes n s).evr = s.evr ∧ (State.strTimes n s).upd = s.upd := by
  unfold State.strTimes; (try dsimp only); (repeat' split) <;> simp

@[simp] theorem State.closeCycle_frame (n : Fin 4) (s : State) :
    (State.closeCycle n s).pending = s.pending ∧ (State.closeCycle n s).now = s.now ∧ (State.closeCycle n s).free = s.free ∧ (State.closeCycle n s).arch = s.arch ∧ (State.closeCycle n s).pins = s.pins ∧ (State.closeCycle n s).tb = s.tb ∧ (State.closeCycle n s).meas = s.meas ∧ (State.closeCycle n s).lane = s.lane ∧ (State.closeCycle n s).snap = s.snap ∧ (State.closeCycle n s).phase = s.phase ∧ (State.closeCycle n s).loop = s.loop ∧ (State.closeCycle n s).shelf = s.shelf ∧ (State.closeCycle n s).dist = s.dist ∧ (State.closeCycle n s).seq = s.seq ∧ (State.closeCycle n s).thm = s.thm ∧ (State.closeCycle n s).eng = s.eng ∧ (State.closeCycle n s).twin = s.twin ∧ (State.closeCycle n s).casc = s.casc ∧ (State.closeCycle n s).rst = s.rst ∧ (State.closeCycle n s).mem = s.mem ∧ (State.closeCycle n s).upd = s.upd := by
  unfold State.closeCycle; (try dsimp only); (repeat' split) <;> simp

@[simp] theorem State.clearStrLatch_frame (n : Fin 4) (s : State) :
    (State.clearStrLatch n s).pending = s.pending ∧ (State.clearStrLatch n s).now = s.now ∧ (State.clearStrLatch n s).timers = s.timers ∧ (State.clearStrLatch n s).free = s.free ∧ (State.clearStrLatch n s).arch = s.arch ∧ (State.clearStrLatch n s).tb = s.tb ∧ (State.clearStrLatch n s).meas = s.meas ∧ (State.clearStrLatch n s).lane = s.lane ∧ (State.clearStrLatch n s).snap = s.snap ∧ (State.clearStrLatch n s).phase = s.phase ∧ (State.clearStrLatch n s).loop = s.loop ∧ (State.clearStrLatch n s).shelf = s.shelf ∧ (State.clearStrLatch n s).seq = s.seq ∧ (State.clearStrLatch n s).thm = s.thm ∧ (State.clearStrLatch n s).eng = s.eng ∧ (State.clearStrLatch n s).net = s.net ∧ (State.clearStrLatch n s).twin = s.twin ∧ (State.clearStrLatch n s).casc = s.casc ∧ (State.clearStrLatch n s).rst = s.rst ∧ (State.clearStrLatch n s).mem = s.mem ∧ (State.clearStrLatch n s).evr = s.evr ∧ (State.clearStrLatch n s).upd = s.upd := by
  unfold State.clearStrLatch; (try dsimp only); (repeat' split) <;> simp

@[simp] theorem State.steerTo_frame (dt y : Rat) (log : Bool) (s : State) :
    (State.steerTo dt y log s).pending = s.pending ∧ (State.steerTo dt y log s).now = s.now ∧ (State.steerTo dt y log s).timers = s.timers ∧ (State.steerTo dt y log s).free = s.free ∧ (State.steerTo dt y log s).arch = s.arch ∧ (State.steerTo dt y log s).pins = s.pins ∧ (State.steerTo dt y log s).meas = s.meas ∧ (State.steerTo dt y log s).lane = s.lane ∧ (State.steerTo dt y log s).snap = s.snap ∧ (State.steerTo dt y log s).phase = s.phase ∧ (State.steerTo dt y log s).loop = s.loop ∧ (State.steerTo dt y log s).shelf = s.shelf ∧ (State.steerTo dt y log s).dist = s.dist ∧ (State.steerTo dt y log s).bat = s.bat ∧ (State.steerTo dt y log s).seq = s.seq ∧ (State.steerTo dt y log s).thm = s.thm ∧ (State.steerTo dt y log s).eng = s.eng ∧ (State.steerTo dt y log s).net = s.net ∧ (State.steerTo dt y log s).twin = s.twin ∧ (State.steerTo dt y log s).casc = s.casc ∧ (State.steerTo dt y log s).rst = s.rst ∧ (State.steerTo dt y log s).mem = s.mem ∧ (State.steerTo dt y log s).evr = s.evr ∧ (State.steerTo dt y log s).upd = s.upd := by
  unfold State.steerTo; (try dsimp only); (repeat' split) <;> simp

@[simp] theorem State.slewStop_frame  (s : State) :
    (State.slewStop s).pending = s.pending ∧ (State.slewStop s).now = s.now ∧ (State.slewStop s).timers = s.timers ∧ (State.slewStop s).free = s.free ∧ (State.slewStop s).arch = s.arch ∧ (State.slewStop s).pins = s.pins ∧ (State.slewStop s).meas = s.meas ∧ (State.slewStop s).lane = s.lane ∧ (State.slewStop s).snap = s.snap ∧ (State.slewStop s).phase = s.phase ∧ (State.slewStop s).loop = s.loop ∧ (State.slewStop s).shelf = s.shelf ∧ (State.slewStop s).dist = s.dist ∧ (State.slewStop s).bat = s.bat ∧ (State.slewStop s).seq = s.seq ∧ (State.slewStop s).thm = s.thm ∧ (State.slewStop s).eng = s.eng ∧ (State.slewStop s).net = s.net ∧ (State.slewStop s).twin = s.twin ∧ (State.slewStop s).casc = s.casc ∧ (State.slewStop s).rst = s.rst ∧ (State.slewStop s).mem = s.mem ∧ (State.slewStop s).evr = s.evr ∧ (State.slewStop s).upd = s.upd := by
  unfold State.slewStop; (try dsimp only); (repeat' split) <;> simp

@[simp] theorem State.slewBy_frame (err : Rat) (s : State) :
    (State.slewBy err s).pending = s.pending ∧ (State.slewBy err s).now = s.now ∧ (State.slewBy err s).timers = s.timers ∧ (State.slewBy err s).free = s.free ∧ (State.slewBy err s).arch = s.arch ∧ (State.slewBy err s).pins = s.pins ∧ (State.slewBy err s).meas = s.meas ∧ (State.slewBy err s).lane = s.lane ∧ (State.slewBy err s).snap = s.snap ∧ (State.slewBy err s).phase = s.phase ∧ (State.slewBy err s).loop = s.loop ∧ (State.slewBy err s).shelf = s.shelf ∧ (State.slewBy err s).dist = s.dist ∧ (State.slewBy err s).bat = s.bat ∧ (State.slewBy err s).seq = s.seq ∧ (State.slewBy err s).thm = s.thm ∧ (State.slewBy err s).eng = s.eng ∧ (State.slewBy err s).net = s.net ∧ (State.slewBy err s).twin = s.twin ∧ (State.slewBy err s).casc = s.casc ∧ (State.slewBy err s).rst = s.rst ∧ (State.slewBy err s).mem = s.mem ∧ (State.slewBy err s).evr = s.evr ∧ (State.slewBy err s).upd = s.upd := by
  unfold State.slewBy; (try dsimp only); (repeat' split) <;> simp

@[simp] theorem State.setLock_frame (x : LockState) (s : State) :
    (State.setLock x s).pending = s.pending ∧ (State.setLock x s).now = s.now ∧ (State.setLock x s).timers = s.timers ∧ (State.setLock x s).free = s.free ∧ (State.setLock x s).arch = s.arch ∧ (State.setLock x s).pins = s.pins ∧ (State.setLock x s).meas = s.meas ∧ (State.setLock x s).lane = s.lane ∧ (State.setLock x s).snap = s.snap ∧ (State.setLock x s).phase = s.phase ∧ (State.setLock x s).loop = s.loop ∧ (State.setLock x s).shelf = s.shelf ∧ (State.setLock x s).dist = s.dist ∧ (State.setLock x s).bat = s.bat ∧ (State.setLock x s).seq = s.seq ∧ (State.setLock x s).thm = s.thm ∧ (State.setLock x s).eng = s.eng ∧ (State.setLock x s).net = s.net ∧ (State.setLock x s).twin = s.twin ∧ (State.setLock x s).casc = s.casc ∧ (State.setLock x s).rst = s.rst ∧ (State.setLock x s).mem = s.mem ∧ (State.setLock x s).evr = s.evr ∧ (State.setLock x s).upd = s.upd := by
  unfold State.setLock; (try dsimp only); (repeat' split) <;> simp

@[simp] theorem State.enterFreerun_frame  (s : State) :
    (State.enterFreerun s).pending = s.pending ∧ (State.enterFreerun s).now = s.now ∧ (State.enterFreerun s).free = s.free ∧ (State.enterFreerun s).arch = s.arch ∧ (State.enterFreerun s).pins = s.pins ∧ (State.enterFreerun s).meas = s.meas ∧ (State.enterFreerun s).lane = s.lane ∧ (State.enterFreerun s).snap = s.snap ∧ (State.enterFreerun s).phase = s.phase ∧ (State.enterFreerun s).loop = s.loop ∧ (State.enterFreerun s).shelf = s.shelf ∧ (State.enterFreerun s).dist = s.dist ∧ (State.enterFreerun s).bat = s.bat ∧ (State.enterFreerun s).seq = s.seq ∧ (State.enterFreerun s).thm = s.thm ∧ (State.enterFreerun s).eng = s.eng ∧ (State.enterFreerun s).net = s.net ∧ (State.enterFreerun s).twin = s.twin ∧ (State.enterFreerun s).casc = s.casc ∧ (State.enterFreerun s).rst = s.rst ∧ (State.enterFreerun s).mem = s.mem ∧ (State.enterFreerun s).evr = s.evr ∧ (State.enterFreerun s).upd = s.upd := by
  unfold State.enterFreerun; (try dsimp only); (repeat' split) <;> simp

@[simp] theorem State.enterHoldover_frame  (s : State) :
    (State.enterHoldover s).pending = s.pending ∧ (State.enterHoldover s).now = s.now ∧ (State.enterHoldover s).free = s.free ∧ (State.enterHoldover s).arch = s.arch ∧ (State.enterHoldover s).pins = s.pins ∧ (State.enterHoldover s).meas = s.meas ∧ (State.enterHoldover s).lane = s.lane ∧ (State.enterHoldover s).snap = s.snap ∧ (State.enterHoldover s).phase = s.phase ∧ (State.enterHoldover s).loop = s.loop ∧ (State.enterHoldover s).shelf = s.shelf ∧ (State.enterHoldover s).dist = s.dist ∧ (State.enterHoldover s).seq = s.seq ∧ (State.enterHoldover s).thm = s.thm ∧ (State.enterHoldover s).eng = s.eng ∧ (State.enterHoldover s).net = s.net ∧ (State.enterHoldover s).twin = s.twin ∧ (State.enterHoldover s).casc = s.casc ∧ (State.enterHoldover s).rst = s.rst ∧ (State.enterHoldover s).mem = s.mem ∧ (State.enterHoldover s).evr = s.evr ∧ (State.enterHoldover s).upd = s.upd := by
  unfold State.enterHoldover; (try dsimp only); (repeat' split) <;> simp

@[simp] theorem State.refGained_frame  (s : State) :
    (State.refGained s).pending = s.pending ∧ (State.refGained s).now = s.now ∧ (State.refGained s).free = s.free ∧ (State.refGained s).arch = s.arch ∧ (State.refGained s).pins = s.pins ∧ (State.refGained s).meas = s.meas ∧ (State.refGained s).lane = s.lane ∧ (State.refGained s).snap = s.snap ∧ (State.refGained s).phase = s.phase ∧ (State.refGained s).loop = s.loop ∧ (State.refGained s).shelf = s.shelf ∧ (State.refGained s).dist = s.dist ∧ (State.refGained s).bat = s.bat ∧ (State.refGained s).seq = s.seq ∧ (State.refGained s).thm = s.thm ∧ (State.refGained s).eng = s.eng ∧ (State.refGained s).net = s.net ∧ (State.refGained s).twin = s.twin ∧ (State.refGained s).casc = s.casc ∧ (State.refGained s).rst = s.rst ∧ (State.refGained s).mem = s.mem ∧ (State.refGained s).evr = s.evr ∧ (State.refGained s).upd = s.upd := by
  unfold State.refGained; (try dsimp only); (repeat' split) <;> simp

@[simp] theorem State.refChecked_frame  (s : State) :
    (State.refChecked s).pending = s.pending ∧ (State.refChecked s).now = s.now ∧ (State.refChecked s).free = s.free ∧ (State.refChecked s).arch = s.arch ∧ (State.refChecked s).pins = s.pins ∧ (State.refChecked s).meas = s.meas ∧ (State.refChecked s).lane = s.lane ∧ (State.refChecked s).snap = s.snap ∧ (State.refChecked s).phase = s.phase ∧ (State.refChecked s).loop = s.loop ∧ (State.refChecked s).shelf = s.shelf ∧ (State.refChecked s).dist = s.dist ∧ (State.refChecked s).seq = s.seq ∧ (State.refChecked s).thm = s.thm ∧ (State.refChecked s).eng = s.eng ∧ (State.refChecked s).twin = s.twin ∧ (State.refChecked s).casc = s.casc ∧ (State.refChecked s).rst = s.rst ∧ (State.refChecked s).mem = s.mem ∧ (State.refChecked s).upd = s.upd := by
  unfold State.refChecked; (try dsimp only); (repeat' split) <;> simp

@[simp] theorem State.measuredFreq_frame (fe : Rat) (s : State) :
    (State.measuredFreq fe s).pending = s.pending ∧ (State.measuredFreq fe s).now = s.now ∧ (State.measuredFreq fe s).timers = s.timers ∧ (State.measuredFreq fe s).free = s.free ∧ (State.measuredFreq fe s).arch = s.arch ∧ (State.measuredFreq fe s).pins = s.pins ∧ (State.measuredFreq fe s).meas = s.meas ∧ (State.measuredFreq fe s).lane = s.lane ∧ (State.measuredFreq fe s).snap = s.snap ∧ (State.measuredFreq fe s).phase = s.phase ∧ (State.measuredFreq fe s).loop = s.loop ∧ (State.measuredFreq fe s).shelf = s.shelf ∧ (State.measuredFreq fe s).dist = s.dist ∧ (State.measuredFreq fe s).bat = s.bat ∧ (State.measuredFreq fe s).seq = s.seq ∧ (State.measuredFreq fe s).thm = s.thm ∧ (State.measuredFreq fe s).eng = s.eng ∧ (State.measuredFreq fe s).net = s.net ∧ (State.measuredFreq fe s).twin = s.twin ∧ (State.measuredFreq fe s).casc = s.casc ∧ (State.measuredFreq fe s).rst = s.rst ∧ (State.measuredFreq fe s).mem = s.mem ∧ (State.measuredFreq fe s).evr = s.evr ∧ (State.measuredFreq fe s).upd = s.upd := by
  unfold State.measuredFreq; (try dsimp only); (repeat' split) <;> simp

@[simp] theorem State.lockNow_frame  (s : State) :
    (State.lockNow s).pending = s.pending ∧ (State.lockNow s).now = s.now ∧ (State.lockNow s).timers = s.timers ∧ (State.lockNow s).free = s.free ∧ (State.lockNow s).arch = s.arch ∧ (State.lockNow s).pins = s.pins ∧ (State.lockNow s).meas = s.meas ∧ (State.lockNow s).lane = s.lane ∧ (State.lockNow s).snap = s.snap ∧ (State.lockNow s).phase = s.phase ∧ (State.lockNow s).loop = s.loop ∧ (State.lockNow s).shelf = s.shelf ∧ (State.lockNow s).dist = s.dist ∧ (State.lockNow s).bat = s.bat ∧ (State.lockNow s).seq = s.seq ∧ (State.lockNow s).thm = s.thm ∧ (State.lockNow s).eng = s.eng ∧ (State.lockNow s).net = s.net ∧ (State.lockNow s).twin = s.twin ∧ (State.lockNow s).casc = s.casc ∧ (State.lockNow s).rst = s.rst ∧ (State.lockNow s).mem = s.mem ∧ (State.lockNow s).evr = s.evr ∧ (State.lockNow s).upd = s.upd := by
  unfold State.lockNow; (try dsimp only); (repeat' split) <;> simp

@[simp] theorem State.recoverLock_frame  (s : State) :
    (State.recoverLock s).pending = s.pending ∧ (State.recoverLock s).now = s.now ∧ (State.recoverLock s).free = s.free ∧ (State.recoverLock s).arch = s.arch ∧ (State.recoverLock s).pins = s.pins ∧ (State.recoverLock s).meas = s.meas ∧ (State.recoverLock s).lane = s.lane ∧ (State.recoverLock s).snap = s.snap ∧ (State.recoverLock s).phase = s.phase ∧ (State.recoverLock s).loop = s.loop ∧ (State.recoverLock s).shelf = s.shelf ∧ (State.recoverLock s).dist = s.dist ∧ (State.recoverLock s).seq = s.seq ∧ (State.recoverLock s).thm = s.thm ∧ (State.recoverLock s).eng = s.eng ∧ (State.recoverLock s).net = s.net ∧ (State.recoverLock s).twin = s.twin ∧ (State.recoverLock s).casc = s.casc ∧ (State.recoverLock s).rst = s.rst ∧ (State.recoverLock s).mem = s.mem ∧ (State.recoverLock s).evr = s.evr ∧ (State.recoverLock s).upd = s.upd := by
  unfold State.recoverLock; (try dsimp only); (repeat' split) <;> simp

@[simp] theorem State.fireOnTimer_frame (t : Fin 16) (s : State) :
    (State.fireOnTimer t s).pending = s.pending ∧ (State.fireOnTimer t s).now = s.now ∧ (State.fireOnTimer t s).timers = s.timers ∧ (State.fireOnTimer t s).free = s.free ∧ (State.fireOnTimer t s).arch = s.arch ∧ (State.fireOnTimer t s).pins = s.pins ∧ (State.fireOnTimer t s).tb = s.tb ∧ (State.fireOnTimer t s).meas = s.meas ∧ (State.fireOnTimer t s).lane = s.lane ∧ (State.fireOnTimer t s).snap = s.snap ∧ (State.fireOnTimer t s).phase = s.phase ∧ (State.fireOnTimer t s).loop = s.loop ∧ (State.fireOnTimer t s).shelf = s.shelf ∧ (State.fireOnTimer t s).dist = s.dist ∧ (State.fireOnTimer t s).bat = s.bat ∧ (State.fireOnTimer t s).seq = s.seq ∧ (State.fireOnTimer t s).thm = s.thm ∧ (State.fireOnTimer t s).eng = s.eng ∧ (State.fireOnTimer t s).net = s.net ∧ (State.fireOnTimer t s).twin = s.twin ∧ (State.fireOnTimer t s).casc = s.casc ∧ (State.fireOnTimer t s).rst = s.rst ∧ (State.fireOnTimer t s).mem = s.mem ∧ (State.fireOnTimer t s).upd = s.upd := by
  unfold State.fireOnTimer; (try dsimp only); (repeat' split) <;> simp

@[simp] theorem State.timerAction_frame (t : Fin 16) (s : State) :
    (State.timerAction t s).pending = s.pending ∧ (State.timerAction t s).now = s.now ∧ (State.timerAction t s).timers = s.timers ∧ (State.timerAction t s).free = s.free ∧ (State.timerAction t s).arch = s.arch ∧ (State.timerAction t s).meas = s.meas ∧ (State.timerAction t s).lane = s.lane ∧ (State.timerAction t s).snap = s.snap ∧ (State.timerAction t s).phase = s.phase ∧ (State.timerAction t s).loop = s.loop ∧ (State.timerAction t s).shelf = s.shelf ∧ (State.timerAction t s).dist = s.dist ∧ (State.timerAction t s).bat = s.bat ∧ (State.timerAction t s).seq = s.seq ∧ (State.timerAction t s).thm = s.thm ∧ (State.timerAction t s).net = s.net ∧ (State.timerAction t s).twin = s.twin ∧ (State.timerAction t s).casc = s.casc ∧ (State.timerAction t s).rst = s.rst ∧ (State.timerAction t s).mem = s.mem ∧ (State.timerAction t s).upd = s.upd := by
  unfold State.timerAction; (try dsimp only); (repeat' split) <;> simp

@[simp] theorem State.timerExpire_frame (t : Fin 16) (s : State) :
    (State.timerExpire t s).pending = s.pending ∧ (State.timerExpire t s).now = s.now ∧ (State.timerExpire t s).timers = s.timers ∧ (State.timerExpire t s).free = s.free ∧ (State.timerExpire t s).arch = s.arch ∧ (State.timerExpire t s).meas = s.meas ∧ (State.timerExpire t s).lane = s.lane ∧ (State.timerExpire t s).snap = s.snap ∧ (State.timerExpire t s).shelf = s.shelf ∧ (State.timerExpire t s).dist = s.dist ∧ (State.timerExpire t s).bat = s.bat ∧ (State.timerExpire t s).seq = s.seq ∧ (State.timerExpire t s).thm = s.thm ∧ (State.timerExpire t s).net = s.net ∧ (State.timerExpire t s).twin = s.twin ∧ (State.timerExpire t s).casc = s.casc ∧ (State.timerExpire t s).rst = s.rst ∧ (State.timerExpire t s).mem = s.mem ∧ (State.timerExpire t s).upd = s.upd := by
  unfold State.timerExpire; (try dsimp only); (repeat' split) <;> simp

@[simp] theorem State.timerProgram_frame (t : Fin 16) (x : TimerSetting) (s : State) :
    (State.timerProgram t x s).pending = s.pending ∧ (State.timerProgram t x s).now = s.now ∧ (State.timerProgram t x s).timers = s.timers ∧ (State.timerProgram t x s).free = s.free ∧ (State.timerProgram t x s).arch = s.arch ∧ (State.timerProgram t x s).pins = s.pins ∧ (State.timerProgram t x s).meas = s.meas ∧ (State.timerProgram t x s).lane = s.lane ∧ (State.timerProgram t x s).snap = s.snap ∧ (State.timerProgram t x s).phase = s.phase ∧ (State.timerProgram t x s).loop = s.loop ∧ (State.timerProgram t x s).shelf = s.shelf ∧ (State.timerProgram t x s).dist = s.dist ∧ (State.timerProgram t x s).bat = s.bat ∧ (State.timerProgram t x s).seq = s.seq ∧ (State.timerProgram t x s).thm = s.thm ∧ (State.timerProgram t x s).eng = s.eng ∧ (State.timerProgram t x s).net = s.net ∧ (State.timerProgram t x s).twin = s.twin ∧ (State.timerProgram t x s).casc = s.casc ∧ (State.timerProgram t x s).rst = s.rst ∧ (State.timerProgram t x s).mem = s.mem ∧ (State.timerProgram t x s).evr = s.evr ∧ (State.timerProgram t x s).upd = s.upd := by
  unfold State.timerProgram; (try dsimp only); (repeat' split) <;> simp

@[simp] theorem State.todShift_frame (d : Int) (s : State) :
    (State.todShift d s).pending = s.pending ∧ (State.todShift d s).now = s.now ∧ (State.todShift d s).timers = s.timers ∧ (State.todShift d s).free = s.free ∧ (State.todShift d s).arch = s.arch ∧ (State.todShift d s).meas = s.meas ∧ (State.todShift d s).lane = s.lane ∧ (State.todShift d s).snap = s.snap ∧ (State.todShift d s).shelf = s.shelf ∧ (State.todShift d s).dist = s.dist ∧ (State.todShift d s).bat = s.bat ∧ (State.todShift d s).seq = s.seq ∧ (State.todShift d s).thm = s.thm ∧ (State.todShift d s).net = s.net ∧ (State.todShift d s).twin = s.twin ∧ (State.todShift d s).casc = s.casc ∧ (State.todShift d s).rst = s.rst ∧ (State.todShift d s).mem = s.mem ∧ (State.todShift d s).upd = s.upd := by
  unfold State.todShift; (try dsimp only); (repeat' split) <;> simp

@[simp] theorem State.correctPhase_frame (err : Rat) (s : State) :
    (State.correctPhase err s).pending = s.pending ∧ (State.correctPhase err s).now = s.now ∧ (State.correctPhase err s).timers = s.timers ∧ (State.correctPhase err s).free = s.free ∧ (State.correctPhase err s).arch = s.arch ∧ (State.correctPhase err s).pins = s.pins ∧ (State.correctPhase err s).meas = s.meas ∧ (State.correctPhase err s).lane = s.lane ∧ (State.correctPhase err s).snap = s.snap ∧ (State.correctPhase err s).phase = s.phase ∧ (State.correctPhase err s).loop = s.loop ∧ (State.correctPhase err s).shelf = s.shelf ∧ (State.correctPhase err s).dist = s.dist ∧ (State.correctPhase err s).bat = s.bat ∧ (State.correctPhase err s).seq = s.seq ∧ (State.correctPhase err s).thm = s.thm ∧ (State.correctPhase err s).eng = s.eng ∧ (State.correctPhase err s).net = s.net ∧ (State.correctPhase err s).twin = s.twin ∧ (State.correctPhase err s).casc = s.casc ∧ (State.correctPhase err s).rst = s.rst ∧ (State.correctPhase err s).mem = s.mem ∧ (State.correctPhase err s).evr = s.evr ∧ (State.correctPhase err s).upd = s.upd := by
  unfold State.correctPhase; (try dsimp only); (repeat' split) <;> simp

@[simp] theorem State.todLoad_frame (t : Rat) (s : State) :
    (State.todLoad t s).pending = s.pending ∧ (State.todLoad t s).now = s.now ∧ (State.todLoad t s).timers = s.timers ∧ (State.todLoad t s).free = s.free ∧ (State.todLoad t s).arch = s.arch ∧ (State.todLoad t s).meas = s.meas ∧ (State.todLoad t s).lane = s.lane ∧ (State.todLoad t s).snap = s.snap ∧ (State.todLoad t s).shelf = s.shelf ∧ (State.todLoad t s).dist = s.dist ∧ (State.todLoad t s).bat = s.bat ∧ (State.todLoad t s).seq = s.seq ∧ (State.todLoad t s).thm = s.thm ∧ (State.todLoad t s).net = s.net ∧ (State.todLoad t s).twin = s.twin ∧ (State.todLoad t s).casc = s.casc ∧ (State.todLoad t s).rst = s.rst ∧ (State.todLoad t s).mem = s.mem ∧ (State.todLoad t s).upd = s.upd := by
  unfold State.todLoad; (try dsimp only); (repeat' split) <;> simp

@[simp] theorem State.ppsLoss_frame  (s : State) :
    (State.ppsLoss s).pending = s.pending ∧ (State.ppsLoss s).now = s.now ∧ (State.ppsLoss s).free = s.free ∧ (State.ppsLoss s).arch = s.arch ∧ (State.ppsLoss s).pins = s.pins ∧ (State.ppsLoss s).meas = s.meas ∧ (State.ppsLoss s).lane = s.lane ∧ (State.ppsLoss s).snap = s.snap ∧ (State.ppsLoss s).phase = s.phase ∧ (State.ppsLoss s).loop = s.loop ∧ (State.ppsLoss s).shelf = s.shelf ∧ (State.ppsLoss s).dist = s.dist ∧ (State.ppsLoss s).seq = s.seq ∧ (State.ppsLoss s).thm = s.thm ∧ (State.ppsLoss s).eng = s.eng ∧ (State.ppsLoss s).twin = s.twin ∧ (State.ppsLoss s).casc = s.casc ∧ (State.ppsLoss s).rst = s.rst ∧ (State.ppsLoss s).mem = s.mem ∧ (State.ppsLoss s).upd = s.upd := by
  unfold State.ppsLoss; (try dsimp only); (repeat' split) <;> simp

@[simp] theorem State.ppsSteer_frame (err : Rat) (next : Bool) (s : State) :
    (State.ppsSteer err next s).pending = s.pending ∧ (State.ppsSteer err next s).now = s.now ∧ (State.ppsSteer err next s).timers = s.timers ∧ (State.ppsSteer err next s).free = s.free ∧ (State.ppsSteer err next s).arch = s.arch ∧ (State.ppsSteer err next s).pins = s.pins ∧ (State.ppsSteer err next s).meas = s.meas ∧ (State.ppsSteer err next s).lane = s.lane ∧ (State.ppsSteer err next s).snap = s.snap ∧ (State.ppsSteer err next s).phase = s.phase ∧ (State.ppsSteer err next s).loop = s.loop ∧ (State.ppsSteer err next s).shelf = s.shelf ∧ (State.ppsSteer err next s).dist = s.dist ∧ (State.ppsSteer err next s).bat = s.bat ∧ (State.ppsSteer err next s).seq = s.seq ∧ (State.ppsSteer err next s).thm = s.thm ∧ (State.ppsSteer err next s).eng = s.eng ∧ (State.ppsSteer err next s).net = s.net ∧ (State.ppsSteer err next s).twin = s.twin ∧ (State.ppsSteer err next s).casc = s.casc ∧ (State.ppsSteer err next s).rst = s.rst ∧ (State.ppsSteer err next s).mem = s.mem ∧ (State.ppsSteer err next s).evr = s.evr ∧ (State.ppsSteer err next s).upd = s.upd := by
  unfold State.ppsSteer; (try dsimp only); (repeat' split) <;> simp

@[simp] theorem State.ppsTake_frame (t : Rat) (k : Nat) (s : State) :
    (State.ppsTake t k s).pending = s.pending ∧ (State.ppsTake t k s).now = s.now ∧ (State.ppsTake t k s).free = s.free ∧ (State.ppsTake t k s).arch = s.arch ∧ (State.ppsTake t k s).meas = s.meas ∧ (State.ppsTake t k s).lane = s.lane ∧ (State.ppsTake t k s).snap = s.snap ∧ (State.ppsTake t k s).shelf = s.shelf ∧ (State.ppsTake t k s).dist = s.dist ∧ (State.ppsTake t k s).bat = s.bat ∧ (State.ppsTake t k s).seq = s.seq ∧ (State.ppsTake t k s).thm = s.thm ∧ (State.ppsTake t k s).net = s.net ∧ (State.ppsTake t k s).twin = s.twin ∧ (State.ppsTake t k s).casc = s.casc ∧ (State.ppsTake t k s).rst = s.rst ∧ (State.ppsTake t k s).mem = s.mem ∧ (State.ppsTake t k s).upd = s.upd := by
  unfold State.ppsTake; (try dsimp only); (repeat' split) <;> simp

@[simp] theorem State.refSecond_frame  (s : State) :
    (State.refSecond s).pending = s.pending ∧ (State.refSecond s).now = s.now ∧ (State.refSecond s).timers = s.timers ∧ (State.refSecond s).free = s.free ∧ (State.refSecond s).arch = s.arch ∧ (State.refSecond s).pins = s.pins ∧ (State.refSecond s).meas = s.meas ∧ (State.refSecond s).lane = s.lane ∧ (State.refSecond s).snap = s.snap ∧ (State.refSecond s).phase = s.phase ∧ (State.refSecond s).loop = s.loop ∧ (State.refSecond s).shelf = s.shelf ∧ (State.refSecond s).dist = s.dist ∧ (State.refSecond s).bat = s.bat ∧ (State.refSecond s).seq = s.seq ∧ (State.refSecond s).thm = s.thm ∧ (State.refSecond s).eng = s.eng ∧ (State.refSecond s).net = s.net ∧ (State.refSecond s).twin = s.twin ∧ (State.refSecond s).casc = s.casc ∧ (State.refSecond s).rst = s.rst ∧ (State.refSecond s).mem = s.mem ∧ (State.refSecond s).evr = s.evr ∧ (State.refSecond s).upd = s.upd := by
  unfold State.refSecond; (try dsimp only); (repeat' split) <;> simp

@[simp] theorem State.pairCheck_frame (p : Fin 2) (s : State) :
    (State.pairCheck p s).pending = s.pending ∧ (State.pairCheck p s).now = s.now ∧ (State.pairCheck p s).timers = s.timers ∧ (State.pairCheck p s).free = s.free ∧ (State.pairCheck p s).arch = s.arch ∧ (State.pairCheck p s).pins = s.pins ∧ (State.pairCheck p s).tb = s.tb ∧ (State.pairCheck p s).lane = s.lane ∧ (State.pairCheck p s).snap = s.snap ∧ (State.pairCheck p s).phase = s.phase ∧ (State.pairCheck p s).loop = s.loop ∧ (State.pairCheck p s).shelf = s.shelf ∧ (State.pairCheck p s).dist = s.dist ∧ (State.pairCheck p s).bat = s.bat ∧ (State.pairCheck p s).seq = s.seq ∧ (State.pairCheck p s).thm = s.thm ∧ (State.pairCheck p s).eng = s.eng ∧ (State.pairCheck p s).net = s.net ∧ (State.pairCheck p s).twin = s.twin ∧ (State.pairCheck p s).casc = s.casc ∧ (State.pairCheck p s).rst = s.rst ∧ (State.pairCheck p s).mem = s.mem ∧ (State.pairCheck p s).evr = s.evr ∧ (State.pairCheck p s).upd = s.upd := by
  unfold State.pairCheck; (try dsimp only); (repeat' split) <;> simp

@[simp] theorem State.goHome_frame (k : Fin 48) (s : State) :
    (State.goHome k s).pending = s.pending ∧ (State.goHome k s).now = s.now ∧ (State.goHome k s).timers = s.timers ∧ (State.goHome k s).free = s.free ∧ (State.goHome k s).arch = s.arch ∧ (State.goHome k s).pins = s.pins ∧ (State.goHome k s).tb = s.tb ∧ (State.goHome k s).lane = s.lane ∧ (State.goHome k s).snap = s.snap ∧ (State.goHome k s).phase = s.phase ∧ (State.goHome k s).loop = s.loop ∧ (State.goHome k s).shelf = s.shelf ∧ (State.goHome k s).dist = s.dist ∧ (State.goHome k s).bat = s.bat ∧ (State.goHome k s).seq = s.seq ∧ (State.goHome k s).thm = s.thm ∧ (State.goHome k s).eng = s.eng ∧ (State.goHome k s).net = s.net ∧ (State.goHome k s).twin = s.twin ∧ (State.goHome k s).casc = s.casc ∧ (State.goHome k s).rst = s.rst ∧ (State.goHome k s).mem = s.mem ∧ (State.goHome k s).evr = s.evr ∧ (State.goHome k s).upd = s.upd := by
  unfold State.goHome; (try dsimp only); (repeat' split) <;> simp

@[simp] theorem State.endSlot_frame (x : Fin 4) (redo : Bool) (s : State) :
    (State.endSlot x redo s).pending = s.pending ∧ (State.endSlot x redo s).now = s.now ∧ (State.endSlot x redo s).timers = s.timers ∧ (State.endSlot x redo s).free = s.free ∧ (State.endSlot x redo s).arch = s.arch ∧ (State.endSlot x redo s).pins = s.pins ∧ (State.endSlot x redo s).tb = s.tb ∧ (State.endSlot x redo s).lane = s.lane ∧ (State.endSlot x redo s).snap = s.snap ∧ (State.endSlot x redo s).phase = s.phase ∧ (State.endSlot x redo s).loop = s.loop ∧ (State.endSlot x redo s).shelf = s.shelf ∧ (State.endSlot x redo s).dist = s.dist ∧ (State.endSlot x redo s).bat = s.bat ∧ (State.endSlot x redo s).seq = s.seq ∧ (State.endSlot x redo s).thm = s.thm ∧ (State.endSlot x redo s).eng = s.eng ∧ (State.endSlot x redo s).net = s.net ∧ (State.endSlot x redo s).twin = s.twin ∧ (State.endSlot x redo s).casc = s.casc ∧ (State.endSlot x redo s).rst = s.rst ∧ (State.endSlot x redo s).mem = s.mem ∧ (State.endSlot x redo s).evr = s.evr ∧ (State.endSlot x redo s).upd = s.upd := by
  unfold State.endSlot; (try dsimp only); (repeat' split) <;> simp

@[simp] theorem State.leavePool_frame (m : Fin 52) (s : State) :
    (State.leavePool m s).pending = s.pending ∧ (State.leavePool m s).now = s.now ∧ (State.leavePool m s).free = s.free ∧ (State.leavePool m s).arch = s.arch ∧ (State.leavePool m s).pins = s.pins ∧ (State.leavePool m s).tb = s.tb ∧ (State.leavePool m s).lane = s.lane ∧ (State.leavePool m s).snap = s.snap ∧ (State.leavePool m s).phase = s.phase ∧ (State.leavePool m s).loop = s.loop ∧ (State.leavePool m s).shelf = s.shelf ∧ (State.leavePool m s).dist = s.dist ∧ (State.leavePool m s).bat = s.bat ∧ (State.leavePool m s).seq = s.seq ∧ (State.leavePool m s).thm = s.thm ∧ (State.leavePool m s).eng = s.eng ∧ (State.leavePool m s).twin = s.twin ∧ (State.leavePool m s).casc = s.casc ∧ (State.leavePool m s).rst = s.rst ∧ (State.leavePool m s).mem = s.mem ∧ (State.leavePool m s).upd = s.upd := by
  unfold State.leavePool; (try dsimp only); (repeat' split) <;> simp

@[simp] theorem State.retire_frame (m : Fin 52) (s : State) :
    (State.retire m s).pending = s.pending ∧ (State.retire m s).now = s.now ∧ (State.retire m s).free = s.free ∧ (State.retire m s).arch = s.arch ∧ (State.retire m s).pins = s.pins ∧ (State.retire m s).tb = s.tb ∧ (State.retire m s).lane = s.lane ∧ (State.retire m s).snap = s.snap ∧ (State.retire m s).phase = s.phase ∧ (State.retire m s).loop = s.loop ∧ (State.retire m s).shelf = s.shelf ∧ (State.retire m s).dist = s.dist ∧ (State.retire m s).bat = s.bat ∧ (State.retire m s).seq = s.seq ∧ (State.retire m s).thm = s.thm ∧ (State.retire m s).eng = s.eng ∧ (State.retire m s).twin = s.twin ∧ (State.retire m s).casc = s.casc ∧ (State.retire m s).rst = s.rst ∧ (State.retire m s).mem = s.mem ∧ (State.retire m s).upd = s.upd := by
  unfold State.retire; (try dsimp only); (repeat' split) <;> simp

@[simp] theorem State.slotCalibrated_frame (x : Fin 4) (s : State) :
    (State.slotCalibrated x s).pending = s.pending ∧ (State.slotCalibrated x s).now = s.now ∧ (State.slotCalibrated x s).timers = s.timers ∧ (State.slotCalibrated x s).free = s.free ∧ (State.slotCalibrated x s).arch = s.arch ∧ (State.slotCalibrated x s).pins = s.pins ∧ (State.slotCalibrated x s).tb = s.tb ∧ (State.slotCalibrated x s).lane = s.lane ∧ (State.slotCalibrated x s).snap = s.snap ∧ (State.slotCalibrated x s).phase = s.phase ∧ (State.slotCalibrated x s).loop = s.loop ∧ (State.slotCalibrated x s).shelf = s.shelf ∧ (State.slotCalibrated x s).dist = s.dist ∧ (State.slotCalibrated x s).bat = s.bat ∧ (State.slotCalibrated x s).seq = s.seq ∧ (State.slotCalibrated x s).thm = s.thm ∧ (State.slotCalibrated x s).eng = s.eng ∧ (State.slotCalibrated x s).net = s.net ∧ (State.slotCalibrated x s).twin = s.twin ∧ (State.slotCalibrated x s).casc = s.casc ∧ (State.slotCalibrated x s).rst = s.rst ∧ (State.slotCalibrated x s).mem = s.mem ∧ (State.slotCalibrated x s).evr = s.evr ∧ (State.slotCalibrated x s).upd = s.upd := by
  unfold State.slotCalibrated; (try dsimp only); (repeat' split) <;> simp

@[simp] theorem State.chCalibrated_frame (k : Fin 48) (s : State) :
    (State.chCalibrated k s).pending = s.pending ∧ (State.chCalibrated k s).now = s.now ∧ (State.chCalibrated k s).free = s.free ∧ (State.chCalibrated k s).arch = s.arch ∧ (State.chCalibrated k s).pins = s.pins ∧ (State.chCalibrated k s).tb = s.tb ∧ (State.chCalibrated k s).lane = s.lane ∧ (State.chCalibrated k s).snap = s.snap ∧ (State.chCalibrated k s).phase = s.phase ∧ (State.chCalibrated k s).loop = s.loop ∧ (State.chCalibrated k s).shelf = s.shelf ∧ (State.chCalibrated k s).dist = s.dist ∧ (State.chCalibrated k s).bat = s.bat ∧ (State.chCalibrated k s).seq = s.seq ∧ (State.chCalibrated k s).thm = s.thm ∧ (State.chCalibrated k s).eng = s.eng ∧ (State.chCalibrated k s).net = s.net ∧ (State.chCalibrated k s).twin = s.twin ∧ (State.chCalibrated k s).casc = s.casc ∧ (State.chCalibrated k s).rst = s.rst ∧ (State.chCalibrated k s).mem = s.mem ∧ (State.chCalibrated k s).evr = s.evr ∧ (State.chCalibrated k s).upd = s.upd := by
  unfold State.chCalibrated; (try dsimp only); (repeat' split) <;> simp

@[simp] theorem State.abortSwap_frame (x : Fin 4) (s : State) :
    (State.abortSwap x s).pending = s.pending ∧ (State.abortSwap x s).now = s.now ∧ (State.abortSwap x s).free = s.free ∧ (State.abortSwap x s).arch = s.arch ∧ (State.abortSwap x s).pins = s.pins ∧ (State.abortSwap x s).tb = s.tb ∧ (State.abortSwap x s).lane = s.lane ∧ (State.abortSwap x s).snap = s.snap ∧ (State.abortSwap x s).phase = s.phase ∧ (State.abortSwap x s).loop = s.loop ∧ (State.abortSwap x s).shelf = s.shelf ∧ (State.abortSwap x s).dist = s.dist ∧ (State.abortSwap x s).bat = s.bat ∧ (State.abortSwap x s).seq = s.seq ∧ (State.abortSwap x s).thm = s.thm ∧ (State.abortSwap x s).eng = s.eng ∧ (State.abortSwap x s).twin = s.twin ∧ (State.abortSwap x s).casc = s.casc ∧ (State.abortSwap x s).rst = s.rst ∧ (State.abortSwap x s).mem = s.mem ∧ (State.abortSwap x s).upd = s.upd := by
  unfold State.abortSwap; (try dsimp only); (repeat' split) <;> simp

@[simp] theorem State.riseCount_frame (i : Fin 32) (r : Rat) (s : State) :
    (State.riseCount i r s).pending = s.pending ∧ (State.riseCount i r s).now = s.now ∧ (State.riseCount i r s).timers = s.timers ∧ (State.riseCount i r s).free = s.free ∧ (State.riseCount i r s).arch = s.arch ∧ (State.riseCount i r s).pins = s.pins ∧ (State.riseCount i r s).tb = s.tb ∧ (State.riseCount i r s).meas = s.meas ∧ (State.riseCount i r s).lane = s.lane ∧ (State.riseCount i r s).snap = s.snap ∧ (State.riseCount i r s).loop = s.loop ∧ (State.riseCount i r s).shelf = s.shelf ∧ (State.riseCount i r s).dist = s.dist ∧ (State.riseCount i r s).bat = s.bat ∧ (State.riseCount i r s).seq = s.seq ∧ (State.riseCount i r s).thm = s.thm ∧ (State.riseCount i r s).eng = s.eng ∧ (State.riseCount i r s).net = s.net ∧ (State.riseCount i r s).twin = s.twin ∧ (State.riseCount i r s).casc = s.casc ∧ (State.riseCount i r s).rst = s.rst ∧ (State.riseCount i r s).mem = s.mem ∧ (State.riseCount i r s).evr = s.evr ∧ (State.riseCount i r s).upd = s.upd := by
  unfold State.riseCount; (try dsimp only); (repeat' split) <;> simp

@[simp] theorem State.serveRequest_frame (i : Fin 32) (s : State) :
    (State.serveRequest i s).pending = s.pending ∧ (State.serveRequest i s).now = s.now ∧ (State.serveRequest i s).timers = s.timers ∧ (State.serveRequest i s).free = s.free ∧ (State.serveRequest i s).arch = s.arch ∧ (State.serveRequest i s).pins = s.pins ∧ (State.serveRequest i s).tb = s.tb ∧ (State.serveRequest i s).meas = s.meas ∧ (State.serveRequest i s).lane = s.lane ∧ (State.serveRequest i s).snap = s.snap ∧ (State.serveRequest i s).loop = s.loop ∧ (State.serveRequest i s).shelf = s.shelf ∧ (State.serveRequest i s).dist = s.dist ∧ (State.serveRequest i s).bat = s.bat ∧ (State.serveRequest i s).seq = s.seq ∧ (State.serveRequest i s).thm = s.thm ∧ (State.serveRequest i s).eng = s.eng ∧ (State.serveRequest i s).net = s.net ∧ (State.serveRequest i s).twin = s.twin ∧ (State.serveRequest i s).casc = s.casc ∧ (State.serveRequest i s).rst = s.rst ∧ (State.serveRequest i s).mem = s.mem ∧ (State.serveRequest i s).evr = s.evr ∧ (State.serveRequest i s).upd = s.upd := by
  unfold State.serveRequest; (try dsimp only); (repeat' split) <;> simp

@[simp] theorem State.lanesSee_frame (f : Bank → Bool) (q : Rat) (s : State) :
    (State.lanesSee f q s).pending = s.pending ∧ (State.lanesSee f q s).now = s.now ∧ (State.lanesSee f q s).timers = s.timers ∧ (State.lanesSee f q s).free = s.free ∧ (State.lanesSee f q s).arch = s.arch ∧ (State.lanesSee f q s).pins = s.pins ∧ (State.lanesSee f q s).tb = s.tb ∧ (State.lanesSee f q s).meas = s.meas ∧ (State.lanesSee f q s).snap = s.snap ∧ (State.lanesSee f q s).phase = s.phase ∧ (State.lanesSee f q s).loop = s.loop ∧ (State.lanesSee f q s).shelf = s.shelf ∧ (State.lanesSee f q s).dist = s.dist ∧ (State.lanesSee f q s).bat = s.bat ∧ (State.lanesSee f q s).seq = s.seq ∧ (State.lanesSee f q s).thm = s.thm ∧ (State.lanesSee f q s).eng = s.eng ∧ (State.lanesSee f q s).net = s.net ∧ (State.lanesSee f q s).twin = s.twin ∧ (State.lanesSee f q s).casc = s.casc ∧ (State.lanesSee f q s).rst = s.rst ∧ (State.lanesSee f q s).mem = s.mem ∧ (State.lanesSee f q s).evr = s.evr ∧ (State.lanesSee f q s).upd = s.upd := by
  unfold State.lanesSee; (try dsimp only); (repeat' split) <;> simp

@[simp] theorem State.hkAverage_frame (j : Fin 20) (v : Rat) (s : State) :
    (State.hkAverage j v s).pending = s.pending ∧ (State.hkAverage j v s).now = s.now ∧ (State.hkAverage j v s).timers = s.timers ∧ (State.hkAverage j v s).free = s.free ∧ (State.hkAverage j v s).arch = s.arch ∧ (State.hkAverage j v s).pins = s.pins ∧ (State.hkAverage j v s).tb = s.tb ∧ (State.hkAverage j v s).lane = s.lane ∧ (State.hkAverage j v s).snap = s.snap ∧ (State.hkAverage j v s).phase = s.phase ∧ (State.hkAverage j v s).loop = s.loop ∧ (State.hkAverage j v s).shelf = s.shelf ∧ (State.hkAverage j v s).dist = s.dist ∧ (State.hkAverage j v s).bat = s.bat ∧ (State.hkAverage j v s).seq = s.seq ∧ (State.hkAverage j v s).thm = s.thm ∧ (State.hkAverage j v s).eng = s.eng ∧ (State.hkAverage j v s).net = s.net ∧ (State.hkAverage j v s).twin = s.twin ∧ (State.hkAverage j v s).casc = s.casc ∧ (State.hkAverage j v s).rst = s.rst ∧ (State.hkAverage j v s).mem = s.mem ∧ (State.hkAverage j v s).evr = s.evr ∧ (State.hkAverage j v s).upd = s.upd := by
  unfold State.hkAverage; (try dsimp only); (repeat' split) <;> simp

@[simp] theorem State.calCheck_frame  (s : State) :
    (State.calCheck s).pending = s.pending ∧ (State.calCheck s).now = s.now ∧ (State.calCheck s).timers = s.timers ∧ (State.calCheck s).free = s.free ∧ (State.calCheck s).arch = s.arch ∧ (State.calCheck s).pins = s.pins ∧ (State.calCheck s).tb = s.tb ∧ (State.calCheck s).lane = s.lane ∧ (State.calCheck s).snap = s.snap ∧ (State.calCheck s).phase = s.phase ∧ (State.calCheck s).loop = s.loop ∧ (State.calCheck s).shelf = s.shelf ∧ (State.calCheck s).dist = s.dist ∧ (State.calCheck s).bat = s.bat ∧ (State.calCheck s).seq = s.seq ∧ (State.calCheck s).thm = s.thm ∧ (State.calCheck s).eng = s.eng ∧ (State.calCheck s).net = s.net ∧ (State.calCheck s).twin = s.twin ∧ (State.calCheck s).casc = s.casc ∧ (State.calCheck s).rst = s.rst ∧ (State.calCheck s).mem = s.mem ∧ (State.calCheck s).evr = s.evr ∧ (State.calCheck s).upd = s.upd := by
  unfold State.calCheck; (try dsimp only); (repeat' split) <;> simp

@[simp] theorem State.rangeMismatches_frame  (s : State) :
    (State.rangeMismatches s).pending = s.pending ∧ (State.rangeMismatches s).now = s.now ∧ (State.rangeMismatches s).timers = s.timers ∧ (State.rangeMismatches s).free = s.free ∧ (State.rangeMismatches s).arch = s.arch ∧ (State.rangeMismatches s).pins = s.pins ∧ (State.rangeMismatches s).tb = s.tb ∧ (State.rangeMismatches s).lane = s.lane ∧ (State.rangeMismatches s).snap = s.snap ∧ (State.rangeMismatches s).phase = s.phase ∧ (State.rangeMismatches s).loop = s.loop ∧ (State.rangeMismatches s).shelf = s.shelf ∧ (State.rangeMismatches s).dist = s.dist ∧ (State.rangeMismatches s).bat = s.bat ∧ (State.rangeMismatches s).seq = s.seq ∧ (State.rangeMismatches s).thm = s.thm ∧ (State.rangeMismatches s).eng = s.eng ∧ (State.rangeMismatches s).net = s.net ∧ (State.rangeMismatches s).twin = s.twin ∧ (State.rangeMismatches s).casc = s.casc ∧ (State.rangeMismatches s).rst = s.rst ∧ (State.rangeMismatches s).mem = s.mem ∧ (State.rangeMismatches s).evr = s.evr ∧ (State.rangeMismatches s).upd = s.upd := by
  unfold State.rangeMismatches; (try dsimp only); (repeat' split) <;> simp

@[simp] theorem State.calWriteStart_frame (origin : Nat) (s : State) :
    (State.calWriteStart origin s).pending = s.pending ∧ (State.calWriteStart origin s).now = s.now ∧ (State.calWriteStart origin s).free = s.free ∧ (State.calWriteStart origin s).arch = s.arch ∧ (State.calWriteStart origin s).pins = s.pins ∧ (State.calWriteStart origin s).tb = s.tb ∧ (State.calWriteStart origin s).lane = s.lane ∧ (State.calWriteStart origin s).snap = s.snap ∧ (State.calWriteStart origin s).phase = s.phase ∧ (State.calWriteStart origin s).loop = s.loop ∧ (State.calWriteStart origin s).shelf = s.shelf ∧ (State.calWriteStart origin s).dist = s.dist ∧ (State.calWriteStart origin s).bat = s.bat ∧ (State.calWriteStart origin s).seq = s.seq ∧ (State.calWriteStart origin s).thm = s.thm ∧ (State.calWriteStart origin s).eng = s.eng ∧ (State.calWriteStart origin s).net = s.net ∧ (State.calWriteStart origin s).twin = s.twin ∧ (State.calWriteStart origin s).casc = s.casc ∧ (State.calWriteStart origin s).rst = s.rst ∧ (State.calWriteStart origin s).mem = s.mem ∧ (State.calWriteStart origin s).evr = s.evr ∧ (State.calWriteStart origin s).upd = s.upd := by
  unfold State.calWriteStart; (try dsimp only); (repeat' split) <;> simp

@[simp] theorem State.captureStart_frame (b : Bool) (s : State) :
    (State.captureStart b s).pending = s.pending ∧ (State.captureStart b s).now = s.now ∧ (State.captureStart b s).free = s.free ∧ (State.captureStart b s).arch = s.arch ∧ (State.captureStart b s).pins = s.pins ∧ (State.captureStart b s).tb = s.tb ∧ (State.captureStart b s).lane = s.lane ∧ (State.captureStart b s).snap = s.snap ∧ (State.captureStart b s).phase = s.phase ∧ (State.captureStart b s).loop = s.loop ∧ (State.captureStart b s).shelf = s.shelf ∧ (State.captureStart b s).dist = s.dist ∧ (State.captureStart b s).bat = s.bat ∧ (State.captureStart b s).seq = s.seq ∧ (State.captureStart b s).thm = s.thm ∧ (State.captureStart b s).eng = s.eng ∧ (State.captureStart b s).net = s.net ∧ (State.captureStart b s).twin = s.twin ∧ (State.captureStart b s).casc = s.casc ∧ (State.captureStart b s).rst = s.rst ∧ (State.captureStart b s).mem = s.mem ∧ (State.captureStart b s).evr = s.evr ∧ (State.captureStart b s).upd = s.upd := by
  unfold State.captureStart; (try dsimp only); (repeat' split) <;> simp

@[simp] theorem State.captureSample_frame (k : Fin 48) (v : Rat) (s : State) :
    (State.captureSample k v s).pending = s.pending ∧ (State.captureSample k v s).now = s.now ∧ (State.captureSample k v s).timers = s.timers ∧ (State.captureSample k v s).free = s.free ∧ (State.captureSample k v s).arch = s.arch ∧ (State.captureSample k v s).pins = s.pins ∧ (State.captureSample k v s).tb = s.tb ∧ (State.captureSample k v s).lane = s.lane ∧ (State.captureSample k v s).snap = s.snap ∧ (State.captureSample k v s).phase = s.phase ∧ (State.captureSample k v s).loop = s.loop ∧ (State.captureSample k v s).shelf = s.shelf ∧ (State.captureSample k v s).dist = s.dist ∧ (State.captureSample k v s).bat = s.bat ∧ (State.captureSample k v s).seq = s.seq ∧ (State.captureSample k v s).thm = s.thm ∧ (State.captureSample k v s).eng = s.eng ∧ (State.captureSample k v s).net = s.net ∧ (State.captureSample k v s).twin = s.twin ∧ (State.captureSample k v s).casc = s.casc ∧ (State.captureSample k v s).rst = s.rst ∧ (State.captureSample k v s).mem = s.mem ∧ (State.captureSample k v s).evr = s.evr ∧ (State.captureSample k v s).upd = s.upd := by
  unfold State.captureSample; (try dsimp only); (repeat' split) <;> simp

@[simp] theorem State.shadowPut_frame (w : Option Session) (idx sub v : Nat) (s : State) :
    (State.shadowPut w idx sub v s).pending = s.pending ∧ (State.shadowPut w idx sub v s).now = s.now ∧ (State.shadowPut w idx sub v s).timers = s.timers ∧ (State.shadowPut w idx sub v s).free = s.free ∧ (State.shadowPut w idx sub v s).arch = s.arch ∧ (State.shadowPut w idx sub v s).pins = s.pins ∧ (State.shadowPut w idx sub v s).tb = s.tb ∧ (State.shadowPut w idx sub v s).meas = s.meas ∧ (State.shadowPut w idx sub v s).lane = s.lane ∧ (State.shadowPut w idx sub v s).snap = s.snap ∧ (State.shadowPut w idx sub v s).phase = s.phase ∧ (State.shadowPut w idx sub v s).loop = s.loop ∧ (State.shadowPut w idx sub v s).shelf = s.shelf ∧ (State.shadowPut w idx sub v s).dist = s.dist ∧ (State.shadowPut w idx sub v s).bat = s.bat ∧ (State.shadowPut w idx sub v s).seq = s.seq ∧ (State.shadowPut w idx sub v s).thm = s.thm ∧ (State.shadowPut w idx sub v s).eng = s.eng ∧ (State.shadowPut w idx sub v s).twin = s.twin ∧ (State.shadowPut w idx sub v s).casc = s.casc ∧ (State.shadowPut w idx sub v s).rst = s.rst ∧ (State.shadowPut w idx sub v s).mem = s.mem ∧ (State.shadowPut w idx sub v s).evr = s.evr ∧ (State.shadowPut w idx sub v s).upd = s.upd := by
  unfold State.shadowPut; (try dsimp only); (repeat' split) <;> simp

@[simp] theorem State.captureCompute_frame (w : Option Session) (s : State) :
    (State.captureCompute w s).pending = s.pending ∧ (State.captureCompute w s).now = s.now ∧ (State.captureCompute w s).timers = s.timers ∧ (State.captureCompute w s).free = s.free ∧ (State.captureCompute w s).arch = s.arch ∧ (State.captureCompute w s).pins = s.pins ∧ (State.captureCompute w s).tb = s.tb ∧ (State.captureCompute w s).lane = s.lane ∧ (State.captureCompute w s).snap = s.snap ∧ (State.captureCompute w s).phase = s.phase ∧ (State.captureCompute w s).loop = s.loop ∧ (State.captureCompute w s).shelf = s.shelf ∧ (State.captureCompute w s).dist = s.dist ∧ (State.captureCompute w s).bat = s.bat ∧ (State.captureCompute w s).seq = s.seq ∧ (State.captureCompute w s).thm = s.thm ∧ (State.captureCompute w s).eng = s.eng ∧ (State.captureCompute w s).twin = s.twin ∧ (State.captureCompute w s).casc = s.casc ∧ (State.captureCompute w s).rst = s.rst ∧ (State.captureCompute w s).mem = s.mem ∧ (State.captureCompute w s).evr = s.evr ∧ (State.captureCompute w s).upd = s.upd := by
  unfold State.captureCompute; (try dsimp only); (repeat' split) <;> simp

@[simp] theorem State.laneMiss_frame (n : Fin 12) (s : State) :
    (State.laneMiss n s).pending = s.pending ∧ (State.laneMiss n s).now = s.now ∧ (State.laneMiss n s).free = s.free ∧ (State.laneMiss n s).pins = s.pins ∧ (State.laneMiss n s).tb = s.tb ∧ (State.laneMiss n s).meas = s.meas ∧ (State.laneMiss n s).snap = s.snap ∧ (State.laneMiss n s).phase = s.phase ∧ (State.laneMiss n s).loop = s.loop ∧ (State.laneMiss n s).shelf = s.shelf ∧ (State.laneMiss n s).dist = s.dist ∧ (State.laneMiss n s).bat = s.bat ∧ (State.laneMiss n s).seq = s.seq ∧ (State.laneMiss n s).thm = s.thm ∧ (State.laneMiss n s).eng = s.eng ∧ (State.laneMiss n s).twin = s.twin ∧ (State.laneMiss n s).casc = s.casc ∧ (State.laneMiss n s).rst = s.rst ∧ (State.laneMiss n s).mem = s.mem ∧ (State.laneMiss n s).upd = s.upd := by
  unfold State.laneMiss; (try dsimp only); (repeat' split) <;> simp

@[simp] theorem State.transferLane_frame (a b : Fin 12) (s : State) :
    (State.transferLane a b s).pending = s.pending ∧ (State.transferLane a b s).now = s.now ∧ (State.transferLane a b s).free = s.free ∧ (State.transferLane a b s).arch = s.arch ∧ (State.transferLane a b s).pins = s.pins ∧ (State.transferLane a b s).tb = s.tb ∧ (State.transferLane a b s).meas = s.meas ∧ (State.transferLane a b s).snap = s.snap ∧ (State.transferLane a b s).phase = s.phase ∧ (State.transferLane a b s).loop = s.loop ∧ (State.transferLane a b s).shelf = s.shelf ∧ (State.transferLane a b s).dist = s.dist ∧ (State.transferLane a b s).bat = s.bat ∧ (State.transferLane a b s).seq = s.seq ∧ (State.transferLane a b s).thm = s.thm ∧ (State.transferLane a b s).eng = s.eng ∧ (State.transferLane a b s).twin = s.twin ∧ (State.transferLane a b s).casc = s.casc ∧ (State.transferLane a b s).rst = s.rst ∧ (State.transferLane a b s).mem = s.mem ∧ (State.transferLane a b s).upd = s.upd := by
  unfold State.transferLane; (try dsimp only); (repeat' split) <;> simp

@[simp] theorem State.takePreset_frame (n : Fin 12) (s : State) :
    (State.takePreset n s).pending = s.pending ∧ (State.takePreset n s).now = s.now ∧ (State.takePreset n s).timers = s.timers ∧ (State.takePreset n s).free = s.free ∧ (State.takePreset n s).arch = s.arch ∧ (State.takePreset n s).pins = s.pins ∧ (State.takePreset n s).tb = s.tb ∧ (State.takePreset n s).meas = s.meas ∧ (State.takePreset n s).snap = s.snap ∧ (State.takePreset n s).phase = s.phase ∧ (State.takePreset n s).loop = s.loop ∧ (State.takePreset n s).dist = s.dist ∧ (State.takePreset n s).bat = s.bat ∧ (State.takePreset n s).seq = s.seq ∧ (State.takePreset n s).thm = s.thm ∧ (State.takePreset n s).eng = s.eng ∧ (State.takePreset n s).net = s.net ∧ (State.takePreset n s).twin = s.twin ∧ (State.takePreset n s).casc = s.casc ∧ (State.takePreset n s).rst = s.rst ∧ (State.takePreset n s).mem = s.mem ∧ (State.takePreset n s).evr = s.evr ∧ (State.takePreset n s).upd = s.upd := by
  unfold State.takePreset; (try dsimp only); (repeat' split) <;> simp

@[simp] theorem State.computeSample_frame (n : Fin 12) (s : State) :
    (State.computeSample n s).pending = s.pending ∧ (State.computeSample n s).now = s.now ∧ (State.computeSample n s).free = s.free ∧ (State.computeSample n s).arch = s.arch ∧ (State.computeSample n s).pins = s.pins ∧ (State.computeSample n s).tb = s.tb ∧ (State.computeSample n s).meas = s.meas ∧ (State.computeSample n s).snap = s.snap ∧ (State.computeSample n s).phase = s.phase ∧ (State.computeSample n s).loop = s.loop ∧ (State.computeSample n s).dist = s.dist ∧ (State.computeSample n s).bat = s.bat ∧ (State.computeSample n s).seq = s.seq ∧ (State.computeSample n s).thm = s.thm ∧ (State.computeSample n s).eng = s.eng ∧ (State.computeSample n s).net = s.net ∧ (State.computeSample n s).twin = s.twin ∧ (State.computeSample n s).casc = s.casc ∧ (State.computeSample n s).rst = s.rst ∧ (State.computeSample n s).mem = s.mem ∧ (State.computeSample n s).evr = s.evr ∧ (State.computeSample n s).upd = s.upd := by
  unfold State.computeSample; (try dsimp only); (repeat' split) <;> simp

@[simp] theorem State.startSample_frame (n : Fin 12) (s : State) :
    (State.startSample n s).pending = s.pending ∧ (State.startSample n s).now = s.now ∧ (State.startSample n s).free = s.free ∧ (State.startSample n s).pins = s.pins ∧ (State.startSample n s).tb = s.tb ∧ (State.startSample n s).meas = s.meas ∧ (State.startSample n s).snap = s.snap ∧ (State.startSample n s).phase = s.phase ∧ (State.startSample n s).loop = s.loop ∧ (State.startSample n s).dist = s.dist ∧ (State.startSample n s).bat = s.bat ∧ (State.startSample n s).seq = s.seq ∧ (State.startSample n s).thm = s.thm ∧ (State.startSample n s).eng = s.eng ∧ (State.startSample n s).twin = s.twin ∧ (State.startSample n s).casc = s.casc ∧ (State.startSample n s).rst = s.rst ∧ (State.startSample n s).mem = s.mem ∧ (State.startSample n s).upd = s.upd := by
  unfold State.startSample; (try dsimp only); (repeat' split) <;> simp

@[simp] theorem State.loopTrigger_frame (n : Fin 12) (s : State) :
    (State.loopTrigger n s).pending = s.pending ∧ (State.loopTrigger n s).now = s.now ∧ (State.loopTrigger n s).timers = s.timers ∧ (State.loopTrigger n s).free = s.free ∧ (State.loopTrigger n s).arch = s.arch ∧ (State.loopTrigger n s).pins = s.pins ∧ (State.loopTrigger n s).tb = s.tb ∧ (State.loopTrigger n s).meas = s.meas ∧ (State.loopTrigger n s).lane = s.lane ∧ (State.loopTrigger n s).snap = s.snap ∧ (State.loopTrigger n s).phase = s.phase ∧ (State.loopTrigger n s).shelf = s.shelf ∧ (State.loopTrigger n s).dist = s.dist ∧ (State.loopTrigger n s).bat = s.bat ∧ (State.loopTrigger n s).seq = s.seq ∧ (State.loopTrigger n s).thm = s.thm ∧ (State.loopTrigger n s).eng = s.eng ∧ (State.loopTrigger n s).net = s.net ∧ (State.loopTrigger n s).twin = s.twin ∧ (State.loopTrigger n s).casc = s.casc ∧ (State.loopTrigger n s).rst = s.rst ∧ (State.loopTrigger n s).mem = s.mem ∧ (State.loopTrigger n s).evr = s.evr ∧ (State.loopTrigger n s).upd = s.upd := by
  unfold State.loopTrigger; (try dsimp only); (repeat' split) <;> simp

@[simp] theorem State.laneTrigger_frame (n : Fin 12) (s : State) :
    (State.laneTrigger n s).pending = s.pending ∧ (State.laneTrigger n s).now = s.now ∧ (State.laneTrigger n s).free = s.free ∧ (State.laneTrigger n s).pins = s.pins ∧ (State.laneTrigger n s).tb = s.tb ∧ (State.laneTrigger n s).meas = s.meas ∧ (State.laneTrigger n s).snap = s.snap ∧ (State.laneTrigger n s).phase = s.phase ∧ (State.laneTrigger n s).dist = s.dist ∧ (State.laneTrigger n s).bat = s.bat ∧ (State.laneTrigger n s).seq = s.seq ∧ (State.laneTrigger n s).thm = s.thm ∧ (State.laneTrigger n s).eng = s.eng ∧ (State.laneTrigger n s).twin = s.twin ∧ (State.laneTrigger n s).casc = s.casc ∧ (State.laneTrigger n s).rst = s.rst ∧ (State.laneTrigger n s).mem = s.mem ∧ (State.laneTrigger n s).upd = s.upd := by
  unfold State.laneTrigger; (try dsimp only); (repeat' split) <;> simp

@[simp] theorem State.takeTrigger_frame (n : Fin 12) (s : State) :
    (State.takeTrigger n s).pending = s.pending ∧ (State.takeTrigger n s).now = s.now ∧ (State.takeTrigger n s).free = s.free ∧ (State.takeTrigger n s).pins = s.pins ∧ (State.takeTrigger n s).tb = s.tb ∧ (State.takeTrigger n s).meas = s.meas ∧ (State.takeTrigger n s).snap = s.snap ∧ (State.takeTrigger n s).phase = s.phase ∧ (State.takeTrigger n s).dist = s.dist ∧ (State.takeTrigger n s).bat = s.bat ∧ (State.takeTrigger n s).seq = s.seq ∧ (State.takeTrigger n s).thm = s.thm ∧ (State.takeTrigger n s).eng = s.eng ∧ (State.takeTrigger n s).twin = s.twin ∧ (State.takeTrigger n s).casc = s.casc ∧ (State.takeTrigger n s).rst = s.rst ∧ (State.takeTrigger n s).mem = s.mem ∧ (State.takeTrigger n s).upd = s.upd := by
  unfold State.takeTrigger; (try dsimp only); (repeat' split) <;> simp

@[simp] theorem State.takeTrim_frame (n : Fin 12) (s : State) :
    (State.takeTrim n s).pending = s.pending ∧ (State.takeTrim n s).now = s.now ∧ (State.takeTrim n s).timers = s.timers ∧ (State.takeTrim n s).free = s.free ∧ (State.takeTrim n s).arch = s.arch ∧ (State.takeTrim n s).pins = s.pins ∧ (State.takeTrim n s).tb = s.tb ∧ (State.takeTrim n s).meas = s.meas ∧ (State.takeTrim n s).lane = s.lane ∧ (State.takeTrim n s).snap = s.snap ∧ (State.takeTrim n s).phase = s.phase ∧ (State.takeTrim n s).loop = s.loop ∧ (State.takeTrim n s).dist = s.dist ∧ (State.takeTrim n s).bat = s.bat ∧ (State.takeTrim n s).seq = s.seq ∧ (State.takeTrim n s).thm = s.thm ∧ (State.takeTrim n s).eng = s.eng ∧ (State.takeTrim n s).net = s.net ∧ (State.takeTrim n s).twin = s.twin ∧ (State.takeTrim n s).casc = s.casc ∧ (State.takeTrim n s).rst = s.rst ∧ (State.takeTrim n s).mem = s.mem ∧ (State.takeTrim n s).evr = s.evr ∧ (State.takeTrim n s).upd = s.upd := by
  unfold State.takeTrim; (try dsimp only); (repeat' split) <;> simp

@[simp] theorem State.shelfLaneFault_frame (n : Fin 12) (s : State) :
    (State.shelfLaneFault n s).pending = s.pending ∧ (State.shelfLaneFault n s).now = s.now ∧ (State.shelfLaneFault n s).free = s.free ∧ (State.shelfLaneFault n s).arch = s.arch ∧ (State.shelfLaneFault n s).pins = s.pins ∧ (State.shelfLaneFault n s).tb = s.tb ∧ (State.shelfLaneFault n s).meas = s.meas ∧ (State.shelfLaneFault n s).lane = s.lane ∧ (State.shelfLaneFault n s).snap = s.snap ∧ (State.shelfLaneFault n s).phase = s.phase ∧ (State.shelfLaneFault n s).loop = s.loop ∧ (State.shelfLaneFault n s).dist = s.dist ∧ (State.shelfLaneFault n s).bat = s.bat ∧ (State.shelfLaneFault n s).seq = s.seq ∧ (State.shelfLaneFault n s).thm = s.thm ∧ (State.shelfLaneFault n s).eng = s.eng ∧ (State.shelfLaneFault n s).twin = s.twin ∧ (State.shelfLaneFault n s).casc = s.casc ∧ (State.shelfLaneFault n s).rst = s.rst ∧ (State.shelfLaneFault n s).mem = s.mem ∧ (State.shelfLaneFault n s).upd = s.upd := by
  unfold State.shelfLaneFault; (try dsimp only); (repeat' split) <;> simp

@[simp] theorem State.rampStep_frame (l : Fin 8) (s : State) :
    (State.rampStep l s).pending = s.pending ∧ (State.rampStep l s).now = s.now ∧ (State.rampStep l s).free = s.free ∧ (State.rampStep l s).arch = s.arch ∧ (State.rampStep l s).tb = s.tb ∧ (State.rampStep l s).meas = s.meas ∧ (State.rampStep l s).lane = s.lane ∧ (State.rampStep l s).snap = s.snap ∧ (State.rampStep l s).shelf = s.shelf ∧ (State.rampStep l s).dist = s.dist ∧ (State.rampStep l s).bat = s.bat ∧ (State.rampStep l s).seq = s.seq ∧ (State.rampStep l s).thm = s.thm ∧ (State.rampStep l s).eng = s.eng ∧ (State.rampStep l s).net = s.net ∧ (State.rampStep l s).twin = s.twin ∧ (State.rampStep l s).casc = s.casc ∧ (State.rampStep l s).rst = s.rst ∧ (State.rampStep l s).mem = s.mem ∧ (State.rampStep l s).evr = s.evr ∧ (State.rampStep l s).upd = s.upd := by
  unfold State.rampStep; (try dsimp only); (repeat' split) <;> simp

@[simp] theorem State.cancelShed_frame (l : Fin 8) (s : State) :
    (State.cancelShed l s).pending = s.pending ∧ (State.cancelShed l s).now = s.now ∧ (State.cancelShed l s).free = s.free ∧ (State.cancelShed l s).arch = s.arch ∧ (State.cancelShed l s).pins = s.pins ∧ (State.cancelShed l s).tb = s.tb ∧ (State.cancelShed l s).meas = s.meas ∧ (State.cancelShed l s).lane = s.lane ∧ (State.cancelShed l s).snap = s.snap ∧ (State.cancelShed l s).shelf = s.shelf ∧ (State.cancelShed l s).dist = s.dist ∧ (State.cancelShed l s).bat = s.bat ∧ (State.cancelShed l s).seq = s.seq ∧ (State.cancelShed l s).thm = s.thm ∧ (State.cancelShed l s).eng = s.eng ∧ (State.cancelShed l s).net = s.net ∧ (State.cancelShed l s).twin = s.twin ∧ (State.cancelShed l s).casc = s.casc ∧ (State.cancelShed l s).rst = s.rst ∧ (State.cancelShed l s).mem = s.mem ∧ (State.cancelShed l s).evr = s.evr ∧ (State.cancelShed l s).upd = s.upd := by
  unfold State.cancelShed; (try dsimp only); (repeat' split) <;> simp

@[simp] theorem State.stepDetected_frame (l : Fin 8) (s : State) :
    (State.stepDetected l s).pending = s.pending ∧ (State.stepDetected l s).now = s.now ∧ (State.stepDetected l s).free = s.free ∧ (State.stepDetected l s).arch = s.arch ∧ (State.stepDetected l s).pins = s.pins ∧ (State.stepDetected l s).tb = s.tb ∧ (State.stepDetected l s).meas = s.meas ∧ (State.stepDetected l s).lane = s.lane ∧ (State.stepDetected l s).snap = s.snap ∧ (State.stepDetected l s).shelf = s.shelf ∧ (State.stepDetected l s).dist = s.dist ∧ (State.stepDetected l s).bat = s.bat ∧ (State.stepDetected l s).seq = s.seq ∧ (State.stepDetected l s).thm = s.thm ∧ (State.stepDetected l s).eng = s.eng ∧ (State.stepDetected l s).net = s.net ∧ (State.stepDetected l s).twin = s.twin ∧ (State.stepDetected l s).casc = s.casc ∧ (State.stepDetected l s).rst = s.rst ∧ (State.stepDetected l s).mem = s.mem ∧ (State.stepDetected l s).evr = s.evr ∧ (State.stepDetected l s).upd = s.upd := by
  unfold State.stepDetected; (try dsimp only); (repeat' split) <;> simp

@[simp] theorem State.vlclSample_frame (l : Fin 8) (code : Int) (s : State) :
    (State.vlclSample l code s).pending = s.pending ∧ (State.vlclSample l code s).now = s.now ∧ (State.vlclSample l code s).timers = s.timers ∧ (State.vlclSample l code s).free = s.free ∧ (State.vlclSample l code s).arch = s.arch ∧ (State.vlclSample l code s).pins = s.pins ∧ (State.vlclSample l code s).tb = s.tb ∧ (State.vlclSample l code s).meas = s.meas ∧ (State.vlclSample l code s).lane = s.lane ∧ (State.vlclSample l code s).snap = s.snap ∧ (State.vlclSample l code s).phase = s.phase ∧ (State.vlclSample l code s).shelf = s.shelf ∧ (State.vlclSample l code s).dist = s.dist ∧ (State.vlclSample l code s).bat = s.bat ∧ (State.vlclSample l code s).seq = s.seq ∧ (State.vlclSample l code s).thm = s.thm ∧ (State.vlclSample l code s).eng = s.eng ∧ (State.vlclSample l code s).net = s.net ∧ (State.vlclSample l code s).twin = s.twin ∧ (State.vlclSample l code s).casc = s.casc ∧ (State.vlclSample l code s).rst = s.rst ∧ (State.vlclSample l code s).mem = s.mem ∧ (State.vlclSample l code s).evr = s.evr ∧ (State.vlclSample l code s).upd = s.upd := by
  unfold State.vlclSample; (try dsimp only); (repeat' split) <;> simp

@[simp] theorem State.overvoltageRun_frame (l : Fin 8) (s : State) :
    (State.overvoltageRun l s).pending = s.pending ∧ (State.overvoltageRun l s).now = s.now ∧ (State.overvoltageRun l s).free = s.free ∧ (State.overvoltageRun l s).arch = s.arch ∧ (State.overvoltageRun l s).pins = s.pins ∧ (State.overvoltageRun l s).tb = s.tb ∧ (State.overvoltageRun l s).meas = s.meas ∧ (State.overvoltageRun l s).lane = s.lane ∧ (State.overvoltageRun l s).snap = s.snap ∧ (State.overvoltageRun l s).phase = s.phase ∧ (State.overvoltageRun l s).loop = s.loop ∧ (State.overvoltageRun l s).shelf = s.shelf ∧ (State.overvoltageRun l s).dist = s.dist ∧ (State.overvoltageRun l s).bat = s.bat ∧ (State.overvoltageRun l s).seq = s.seq ∧ (State.overvoltageRun l s).thm = s.thm ∧ (State.overvoltageRun l s).eng = s.eng ∧ (State.overvoltageRun l s).net = s.net ∧ (State.overvoltageRun l s).twin = s.twin ∧ (State.overvoltageRun l s).casc = s.casc ∧ (State.overvoltageRun l s).rst = s.rst ∧ (State.overvoltageRun l s).mem = s.mem ∧ (State.overvoltageRun l s).evr = s.evr ∧ (State.overvoltageRun l s).upd = s.upd := by
  unfold State.overvoltageRun; (try dsimp only); (repeat' split) <;> simp

@[simp] theorem State.pairSample_frame (l : Fin 8) (code : Int) (s : State) :
    (State.pairSample l code s).pending = s.pending ∧ (State.pairSample l code s).now = s.now ∧ (State.pairSample l code s).free = s.free ∧ (State.pairSample l code s).arch = s.arch ∧ (State.pairSample l code s).pins = s.pins ∧ (State.pairSample l code s).tb = s.tb ∧ (State.pairSample l code s).lane = s.lane ∧ (State.pairSample l code s).snap = s.snap ∧ (State.pairSample l code s).shelf = s.shelf ∧ (State.pairSample l code s).dist = s.dist ∧ (State.pairSample l code s).bat = s.bat ∧ (State.pairSample l code s).seq = s.seq ∧ (State.pairSample l code s).thm = s.thm ∧ (State.pairSample l code s).eng = s.eng ∧ (State.pairSample l code s).net = s.net ∧ (State.pairSample l code s).twin = s.twin ∧ (State.pairSample l code s).casc = s.casc ∧ (State.pairSample l code s).rst = s.rst ∧ (State.pairSample l code s).mem = s.mem ∧ (State.pairSample l code s).evr = s.evr ∧ (State.pairSample l code s).upd = s.upd := by
  unfold State.pairSample; (try dsimp only); (repeat' split) <;> simp

@[simp] theorem State.trimStep_frame (l : Fin 8) (s : State) :
    (State.trimStep l s).pending = s.pending ∧ (State.trimStep l s).now = s.now ∧ (State.trimStep l s).timers = s.timers ∧ (State.trimStep l s).free = s.free ∧ (State.trimStep l s).arch = s.arch ∧ (State.trimStep l s).pins = s.pins ∧ (State.trimStep l s).tb = s.tb ∧ (State.trimStep l s).meas = s.meas ∧ (State.trimStep l s).lane = s.lane ∧ (State.trimStep l s).snap = s.snap ∧ (State.trimStep l s).phase = s.phase ∧ (State.trimStep l s).shelf = s.shelf ∧ (State.trimStep l s).dist = s.dist ∧ (State.trimStep l s).bat = s.bat ∧ (State.trimStep l s).seq = s.seq ∧ (State.trimStep l s).thm = s.thm ∧ (State.trimStep l s).eng = s.eng ∧ (State.trimStep l s).net = s.net ∧ (State.trimStep l s).twin = s.twin ∧ (State.trimStep l s).casc = s.casc ∧ (State.trimStep l s).rst = s.rst ∧ (State.trimStep l s).mem = s.mem ∧ (State.trimStep l s).evr = s.evr ∧ (State.trimStep l s).upd = s.upd := by
  unfold State.trimStep; (try dsimp only); (repeat' split) <;> simp

@[simp] theorem State.endPulses_frame (l : Fin 8) (s : State) :
    (State.endPulses l s).pending = s.pending ∧ (State.endPulses l s).now = s.now ∧ (State.endPulses l s).timers = s.timers ∧ (State.endPulses l s).free = s.free ∧ (State.endPulses l s).arch = s.arch ∧ (State.endPulses l s).tb = s.tb ∧ (State.endPulses l s).meas = s.meas ∧ (State.endPulses l s).lane = s.lane ∧ (State.endPulses l s).snap = s.snap ∧ (State.endPulses l s).loop = s.loop ∧ (State.endPulses l s).shelf = s.shelf ∧ (State.endPulses l s).dist = s.dist ∧ (State.endPulses l s).bat = s.bat ∧ (State.endPulses l s).seq = s.seq ∧ (State.endPulses l s).thm = s.thm ∧ (State.endPulses l s).eng = s.eng ∧ (State.endPulses l s).net = s.net ∧ (State.endPulses l s).twin = s.twin ∧ (State.endPulses l s).casc = s.casc ∧ (State.endPulses l s).rst = s.rst ∧ (State.endPulses l s).mem = s.mem ∧ (State.endPulses l s).evr = s.evr ∧ (State.endPulses l s).upd = s.upd := by
  unfold State.endPulses; (try dsimp only); (repeat' split) <;> simp

@[simp] theorem State.recompactNow_frame (l : Fin 8) (s : State) :
    (State.recompactNow l s).pending = s.pending ∧ (State.recompactNow l s).now = s.now ∧ (State.recompactNow l s).timers = s.timers ∧ (State.recompactNow l s).free = s.free ∧ (State.recompactNow l s).arch = s.arch ∧ (State.recompactNow l s).pins = s.pins ∧ (State.recompactNow l s).tb = s.tb ∧ (State.recompactNow l s).meas = s.meas ∧ (State.recompactNow l s).lane = s.lane ∧ (State.recompactNow l s).snap = s.snap ∧ (State.recompactNow l s).phase = s.phase ∧ (State.recompactNow l s).shelf = s.shelf ∧ (State.recompactNow l s).dist = s.dist ∧ (State.recompactNow l s).bat = s.bat ∧ (State.recompactNow l s).seq = s.seq ∧ (State.recompactNow l s).thm = s.thm ∧ (State.recompactNow l s).eng = s.eng ∧ (State.recompactNow l s).net = s.net ∧ (State.recompactNow l s).twin = s.twin ∧ (State.recompactNow l s).casc = s.casc ∧ (State.recompactNow l s).rst = s.rst ∧ (State.recompactNow l s).mem = s.mem ∧ (State.recompactNow l s).evr = s.evr ∧ (State.recompactNow l s).upd = s.upd := by
  unfold State.recompactNow; (try dsimp only); (repeat' split) <;> simp

@[simp] theorem State.addPhases_frame (l : Fin 8) (s : State) :
    (State.addPhases l s).pending = s.pending ∧ (State.addPhases l s).now = s.now ∧ (State.addPhases l s).timers = s.timers ∧ (State.addPhases l s).free = s.free ∧ (State.addPhases l s).arch = s.arch ∧ (State.addPhases l s).pins = s.pins ∧ (State.addPhases l s).tb = s.tb ∧ (State.addPhases l s).meas = s.meas ∧ (State.addPhases l s).lane = s.lane ∧ (State.addPhases l s).snap = s.snap ∧ (State.addPhases l s).shelf = s.shelf ∧ (State.addPhases l s).dist = s.dist ∧ (State.addPhases l s).bat = s.bat ∧ (State.addPhases l s).seq = s.seq ∧ (State.addPhases l s).thm = s.thm ∧ (State.addPhases l s).eng = s.eng ∧ (State.addPhases l s).net = s.net ∧ (State.addPhases l s).twin = s.twin ∧ (State.addPhases l s).casc = s.casc ∧ (State.addPhases l s).rst = s.rst ∧ (State.addPhases l s).mem = s.mem ∧ (State.addPhases l s).evr = s.evr ∧ (State.addPhases l s).upd = s.upd := by
  unfold State.addPhases; (try dsimp only); (repeat' split) <;> simp

@[simp] theorem State.balanceStep_frame (l : Fin 8) (i : Vector Rat 32) (s : State) :
    (State.balanceStep l i s).pending = s.pending ∧ (State.balanceStep l i s).now = s.now ∧ (State.balanceStep l i s).timers = s.timers ∧ (State.balanceStep l i s).free = s.free ∧ (State.balanceStep l i s).arch = s.arch ∧ (State.balanceStep l i s).pins = s.pins ∧ (State.balanceStep l i s).tb = s.tb ∧ (State.balanceStep l i s).meas = s.meas ∧ (State.balanceStep l i s).lane = s.lane ∧ (State.balanceStep l i s).snap = s.snap ∧ (State.balanceStep l i s).loop = s.loop ∧ (State.balanceStep l i s).shelf = s.shelf ∧ (State.balanceStep l i s).dist = s.dist ∧ (State.balanceStep l i s).bat = s.bat ∧ (State.balanceStep l i s).seq = s.seq ∧ (State.balanceStep l i s).thm = s.thm ∧ (State.balanceStep l i s).eng = s.eng ∧ (State.balanceStep l i s).net = s.net ∧ (State.balanceStep l i s).twin = s.twin ∧ (State.balanceStep l i s).casc = s.casc ∧ (State.balanceStep l i s).rst = s.rst ∧ (State.balanceStep l i s).mem = s.mem ∧ (State.balanceStep l i s).evr = s.evr ∧ (State.balanceStep l i s).upd = s.upd := by
  unfold State.balanceStep; (try dsimp only); (repeat' split) <;> simp

@[simp] theorem State.ceilingStep_frame (l : Fin 8) (s : State) :
    (State.ceilingStep l s).pending = s.pending ∧ (State.ceilingStep l s).now = s.now ∧ (State.ceilingStep l s).free = s.free ∧ (State.ceilingStep l s).arch = s.arch ∧ (State.ceilingStep l s).pins = s.pins ∧ (State.ceilingStep l s).tb = s.tb ∧ (State.ceilingStep l s).meas = s.meas ∧ (State.ceilingStep l s).lane = s.lane ∧ (State.ceilingStep l s).snap = s.snap ∧ (State.ceilingStep l s).phase = s.phase ∧ (State.ceilingStep l s).shelf = s.shelf ∧ (State.ceilingStep l s).dist = s.dist ∧ (State.ceilingStep l s).bat = s.bat ∧ (State.ceilingStep l s).seq = s.seq ∧ (State.ceilingStep l s).thm = s.thm ∧ (State.ceilingStep l s).eng = s.eng ∧ (State.ceilingStep l s).twin = s.twin ∧ (State.ceilingStep l s).casc = s.casc ∧ (State.ceilingStep l s).rst = s.rst ∧ (State.ceilingStep l s).mem = s.mem ∧ (State.ceilingStep l s).upd = s.upd := by
  unfold State.ceilingStep; (try dsimp only); (repeat' split) <;> simp

@[simp] theorem State.shedStep_frame (l : Fin 8) (s : State) :
    (State.shedStep l s).pending = s.pending ∧ (State.shedStep l s).now = s.now ∧ (State.shedStep l s).free = s.free ∧ (State.shedStep l s).arch = s.arch ∧ (State.shedStep l s).pins = s.pins ∧ (State.shedStep l s).tb = s.tb ∧ (State.shedStep l s).meas = s.meas ∧ (State.shedStep l s).lane = s.lane ∧ (State.shedStep l s).snap = s.snap ∧ (State.shedStep l s).phase = s.phase ∧ (State.shedStep l s).shelf = s.shelf ∧ (State.shedStep l s).dist = s.dist ∧ (State.shedStep l s).bat = s.bat ∧ (State.shedStep l s).seq = s.seq ∧ (State.shedStep l s).thm = s.thm ∧ (State.shedStep l s).eng = s.eng ∧ (State.shedStep l s).net = s.net ∧ (State.shedStep l s).twin = s.twin ∧ (State.shedStep l s).casc = s.casc ∧ (State.shedStep l s).rst = s.rst ∧ (State.shedStep l s).mem = s.mem ∧ (State.shedStep l s).evr = s.evr ∧ (State.shedStep l s).upd = s.upd := by
  unfold State.shedStep; (try dsimp only); (repeat' split) <;> simp

@[simp] theorem State.implausibleStep_frame (l : Fin 8) (i : Vector Rat 32) (s : State) :
    (State.implausibleStep l i s).pending = s.pending ∧ (State.implausibleStep l i s).now = s.now ∧ (State.implausibleStep l i s).timers = s.timers ∧ (State.implausibleStep l i s).free = s.free ∧ (State.implausibleStep l i s).arch = s.arch ∧ (State.implausibleStep l i s).pins = s.pins ∧ (State.implausibleStep l i s).tb = s.tb ∧ (State.implausibleStep l i s).meas = s.meas ∧ (State.implausibleStep l i s).lane = s.lane ∧ (State.implausibleStep l i s).snap = s.snap ∧ (State.implausibleStep l i s).loop = s.loop ∧ (State.implausibleStep l i s).shelf = s.shelf ∧ (State.implausibleStep l i s).dist = s.dist ∧ (State.implausibleStep l i s).bat = s.bat ∧ (State.implausibleStep l i s).seq = s.seq ∧ (State.implausibleStep l i s).thm = s.thm ∧ (State.implausibleStep l i s).eng = s.eng ∧ (State.implausibleStep l i s).net = s.net ∧ (State.implausibleStep l i s).twin = s.twin ∧ (State.implausibleStep l i s).casc = s.casc ∧ (State.implausibleStep l i s).rst = s.rst ∧ (State.implausibleStep l i s).mem = s.mem ∧ (State.implausibleStep l i s).evr = s.evr ∧ (State.implausibleStep l i s).upd = s.upd := by
  unfold State.implausibleStep; (try dsimp only); (repeat' split) <;> simp

@[simp] theorem State.syncOutNow_frame  (s : State) :
    (State.syncOutNow s).pending = s.pending ∧ (State.syncOutNow s).now = s.now ∧ (State.syncOutNow s).timers = s.timers ∧ (State.syncOutNow s).free = s.free ∧ (State.syncOutNow s).arch = s.arch ∧ (State.syncOutNow s).tb = s.tb ∧ (State.syncOutNow s).meas = s.meas ∧ (State.syncOutNow s).lane = s.lane ∧ (State.syncOutNow s).snap = s.snap ∧ (State.syncOutNow s).phase = s.phase ∧ (State.syncOutNow s).loop = s.loop ∧ (State.syncOutNow s).shelf = s.shelf ∧ (State.syncOutNow s).dist = s.dist ∧ (State.syncOutNow s).bat = s.bat ∧ (State.syncOutNow s).seq = s.seq ∧ (State.syncOutNow s).thm = s.thm ∧ (State.syncOutNow s).eng = s.eng ∧ (State.syncOutNow s).net = s.net ∧ (State.syncOutNow s).twin = s.twin ∧ (State.syncOutNow s).casc = s.casc ∧ (State.syncOutNow s).rst = s.rst ∧ (State.syncOutNow s).mem = s.mem ∧ (State.syncOutNow s).evr = s.evr ∧ (State.syncOutNow s).upd = s.upd := by
  unfold State.syncOutNow; (try dsimp only); (repeat' split) <;> simp

@[simp] theorem State.edgesPass_frame  (s : State) :
    (State.edgesPass s).pending = s.pending ∧ (State.edgesPass s).now = s.now ∧ (State.edgesPass s).timers = s.timers ∧ (State.edgesPass s).free = s.free ∧ (State.edgesPass s).arch = s.arch ∧ (State.edgesPass s).tb = s.tb ∧ (State.edgesPass s).meas = s.meas ∧ (State.edgesPass s).lane = s.lane ∧ (State.edgesPass s).snap = s.snap ∧ (State.edgesPass s).phase = s.phase ∧ (State.edgesPass s).shelf = s.shelf ∧ (State.edgesPass s).dist = s.dist ∧ (State.edgesPass s).bat = s.bat ∧ (State.edgesPass s).seq = s.seq ∧ (State.edgesPass s).thm = s.thm ∧ (State.edgesPass s).eng = s.eng ∧ (State.edgesPass s).net = s.net ∧ (State.edgesPass s).twin = s.twin ∧ (State.edgesPass s).casc = s.casc ∧ (State.edgesPass s).rst = s.rst ∧ (State.edgesPass s).mem = s.mem ∧ (State.edgesPass s).evr = s.evr ∧ (State.edgesPass s).upd = s.upd := by
  unfold State.edgesPass; (try dsimp only); (repeat' split) <;> simp

@[simp] theorem State.placeEdges_frame  (s : State) :
    (State.placeEdges s).pending = s.pending ∧ (State.placeEdges s).now = s.now ∧ (State.placeEdges s).timers = s.timers ∧ (State.placeEdges s).free = s.free ∧ (State.placeEdges s).arch = s.arch ∧ (State.placeEdges s).pins = s.pins ∧ (State.placeEdges s).tb = s.tb ∧ (State.placeEdges s).meas = s.meas ∧ (State.placeEdges s).lane = s.lane ∧ (State.placeEdges s).snap = s.snap ∧ (State.placeEdges s).phase = s.phase ∧ (State.placeEdges s).shelf = s.shelf ∧ (State.placeEdges s).dist = s.dist ∧ (State.placeEdges s).bat = s.bat ∧ (State.placeEdges s).seq = s.seq ∧ (State.placeEdges s).thm = s.thm ∧ (State.placeEdges s).eng = s.eng ∧ (State.placeEdges s).net = s.net ∧ (State.placeEdges s).twin = s.twin ∧ (State.placeEdges s).casc = s.casc ∧ (State.placeEdges s).rst = s.rst ∧ (State.placeEdges s).mem = s.mem ∧ (State.placeEdges s).evr = s.evr ∧ (State.placeEdges s).upd = s.upd := by
  unfold State.placeEdges; (try dsimp only); (repeat' split) <;> simp

@[simp] theorem State.drivePwm_frame (i : Fin 32) (p : PwmPin) (s : State) :
    (State.drivePwm i p s).pending = s.pending ∧ (State.drivePwm i p s).now = s.now ∧ (State.drivePwm i p s).timers = s.timers ∧ (State.drivePwm i p s).free = s.free ∧ (State.drivePwm i p s).arch = s.arch ∧ (State.drivePwm i p s).tb = s.tb ∧ (State.drivePwm i p s).meas = s.meas ∧ (State.drivePwm i p s).lane = s.lane ∧ (State.drivePwm i p s).snap = s.snap ∧ (State.drivePwm i p s).phase = s.phase ∧ (State.drivePwm i p s).loop = s.loop ∧ (State.drivePwm i p s).shelf = s.shelf ∧ (State.drivePwm i p s).dist = s.dist ∧ (State.drivePwm i p s).bat = s.bat ∧ (State.drivePwm i p s).seq = s.seq ∧ (State.drivePwm i p s).thm = s.thm ∧ (State.drivePwm i p s).eng = s.eng ∧ (State.drivePwm i p s).net = s.net ∧ (State.drivePwm i p s).twin = s.twin ∧ (State.drivePwm i p s).casc = s.casc ∧ (State.drivePwm i p s).rst = s.rst ∧ (State.drivePwm i p s).mem = s.mem ∧ (State.drivePwm i p s).evr = s.evr ∧ (State.drivePwm i p s).upd = s.upd := by
  unfold State.drivePwm; (try dsimp only); (repeat' split) <;> simp

@[simp] theorem State.pulse_frame (l : Fin 8) (i : Fin 32) (k : Nat) (s : State) :
    (State.pulse l i k s).pending = s.pending ∧ (State.pulse l i k s).now = s.now ∧ (State.pulse l i k s).timers = s.timers ∧ (State.pulse l i k s).free = s.free ∧ (State.pulse l i k s).arch = s.arch ∧ (State.pulse l i k s).tb = s.tb ∧ (State.pulse l i k s).meas = s.meas ∧ (State.pulse l i k s).lane = s.lane ∧ (State.pulse l i k s).snap = s.snap ∧ (State.pulse l i k s).shelf = s.shelf ∧ (State.pulse l i k s).dist = s.dist ∧ (State.pulse l i k s).bat = s.bat ∧ (State.pulse l i k s).seq = s.seq ∧ (State.pulse l i k s).thm = s.thm ∧ (State.pulse l i k s).eng = s.eng ∧ (State.pulse l i k s).net = s.net ∧ (State.pulse l i k s).twin = s.twin ∧ (State.pulse l i k s).casc = s.casc ∧ (State.pulse l i k s).rst = s.rst ∧ (State.pulse l i k s).mem = s.mem ∧ (State.pulse l i k s).evr = s.evr ∧ (State.pulse l i k s).upd = s.upd := by
  unfold State.pulse; (try dsimp only); (repeat' split) <;> simp

@[simp] theorem State.taperEdge_frame (l : Fin 8) (i : Fin 32) (s : State) :
    (State.taperEdge l i s).pending = s.pending ∧ (State.taperEdge l i s).now = s.now ∧ (State.taperEdge l i s).timers = s.timers ∧ (State.taperEdge l i s).free = s.free ∧ (State.taperEdge l i s).arch = s.arch ∧ (State.taperEdge l i s).tb = s.tb ∧ (State.taperEdge l i s).meas = s.meas ∧ (State.taperEdge l i s).lane = s.lane ∧ (State.taperEdge l i s).snap = s.snap ∧ (State.taperEdge l i s).shelf = s.shelf ∧ (State.taperEdge l i s).dist = s.dist ∧ (State.taperEdge l i s).bat = s.bat ∧ (State.taperEdge l i s).seq = s.seq ∧ (State.taperEdge l i s).thm = s.thm ∧ (State.taperEdge l i s).eng = s.eng ∧ (State.taperEdge l i s).net = s.net ∧ (State.taperEdge l i s).twin = s.twin ∧ (State.taperEdge l i s).casc = s.casc ∧ (State.taperEdge l i s).rst = s.rst ∧ (State.taperEdge l i s).mem = s.mem ∧ (State.taperEdge l i s).evr = s.evr ∧ (State.taperEdge l i s).upd = s.upd := by
  unfold State.taperEdge; (try dsimp only); (repeat' split) <;> simp

@[simp] theorem State.syncStep_frame (p : Nat) (l : Fin 8) (s : State) :
    (State.syncStep p l s).pending = s.pending ∧ (State.syncStep p l s).now = s.now ∧ (State.syncStep p l s).free = s.free ∧ (State.syncStep p l s).arch = s.arch ∧ (State.syncStep p l s).pins = s.pins ∧ (State.syncStep p l s).tb = s.tb ∧ (State.syncStep p l s).meas = s.meas ∧ (State.syncStep p l s).lane = s.lane ∧ (State.syncStep p l s).snap = s.snap ∧ (State.syncStep p l s).phase = s.phase ∧ (State.syncStep p l s).shelf = s.shelf ∧ (State.syncStep p l s).dist = s.dist ∧ (State.syncStep p l s).bat = s.bat ∧ (State.syncStep p l s).seq = s.seq ∧ (State.syncStep p l s).thm = s.thm ∧ (State.syncStep p l s).eng = s.eng ∧ (State.syncStep p l s).net = s.net ∧ (State.syncStep p l s).twin = s.twin ∧ (State.syncStep p l s).casc = s.casc ∧ (State.syncStep p l s).rst = s.rst ∧ (State.syncStep p l s).mem = s.mem ∧ (State.syncStep p l s).evr = s.evr ∧ (State.syncStep p l s).upd = s.upd := by
  unfold State.syncStep; (try dsimp only); (repeat' split) <;> simp

@[simp] theorem State.followEdge_frame  (s : State) :
    (State.followEdge s).pending = s.pending ∧ (State.followEdge s).now = s.now ∧ (State.followEdge s).timers = s.timers ∧ (State.followEdge s).free = s.free ∧ (State.followEdge s).arch = s.arch ∧ (State.followEdge s).pins = s.pins ∧ (State.followEdge s).tb = s.tb ∧ (State.followEdge s).meas = s.meas ∧ (State.followEdge s).lane = s.lane ∧ (State.followEdge s).snap = s.snap ∧ (State.followEdge s).phase = s.phase ∧ (State.followEdge s).shelf = s.shelf ∧ (State.followEdge s).dist = s.dist ∧ (State.followEdge s).bat = s.bat ∧ (State.followEdge s).seq = s.seq ∧ (State.followEdge s).thm = s.thm ∧ (State.followEdge s).eng = s.eng ∧ (State.followEdge s).net = s.net ∧ (State.followEdge s).twin = s.twin ∧ (State.followEdge s).casc = s.casc ∧ (State.followEdge s).rst = s.rst ∧ (State.followEdge s).mem = s.mem ∧ (State.followEdge s).evr = s.evr ∧ (State.followEdge s).upd = s.upd := by
  unfold State.followEdge; (try dsimp only); (repeat' split) <;> simp

@[simp] theorem State.syncEnable_frame (l : Fin 8) (s : State) :
    (State.syncEnable l s).pending = s.pending ∧ (State.syncEnable l s).now = s.now ∧ (State.syncEnable l s).free = s.free ∧ (State.syncEnable l s).arch = s.arch ∧ (State.syncEnable l s).pins = s.pins ∧ (State.syncEnable l s).tb = s.tb ∧ (State.syncEnable l s).meas = s.meas ∧ (State.syncEnable l s).lane = s.lane ∧ (State.syncEnable l s).snap = s.snap ∧ (State.syncEnable l s).phase = s.phase ∧ (State.syncEnable l s).shelf = s.shelf ∧ (State.syncEnable l s).dist = s.dist ∧ (State.syncEnable l s).bat = s.bat ∧ (State.syncEnable l s).seq = s.seq ∧ (State.syncEnable l s).thm = s.thm ∧ (State.syncEnable l s).eng = s.eng ∧ (State.syncEnable l s).net = s.net ∧ (State.syncEnable l s).twin = s.twin ∧ (State.syncEnable l s).casc = s.casc ∧ (State.syncEnable l s).rst = s.rst ∧ (State.syncEnable l s).mem = s.mem ∧ (State.syncEnable l s).evr = s.evr ∧ (State.syncEnable l s).upd = s.upd := by
  unfold State.syncEnable; (try dsimp only); (repeat' split) <;> simp

@[simp] theorem State.brSample_frame (k : Fin 16) (s : State) :
    (State.brSample k s).pending = s.pending ∧ (State.brSample k s).now = s.now ∧ (State.brSample k s).timers = s.timers ∧ (State.brSample k s).free = s.free ∧ (State.brSample k s).arch = s.arch ∧ (State.brSample k s).pins = s.pins ∧ (State.brSample k s).tb = s.tb ∧ (State.brSample k s).meas = s.meas ∧ (State.brSample k s).lane = s.lane ∧ (State.brSample k s).snap = s.snap ∧ (State.brSample k s).phase = s.phase ∧ (State.brSample k s).loop = s.loop ∧ (State.brSample k s).shelf = s.shelf ∧ (State.brSample k s).bat = s.bat ∧ (State.brSample k s).seq = s.seq ∧ (State.brSample k s).thm = s.thm ∧ (State.brSample k s).eng = s.eng ∧ (State.brSample k s).net = s.net ∧ (State.brSample k s).twin = s.twin ∧ (State.brSample k s).casc = s.casc ∧ (State.brSample k s).rst = s.rst ∧ (State.brSample k s).mem = s.mem ∧ (State.brSample k s).evr = s.evr ∧ (State.brSample k s).upd = s.upd := by
  unfold State.brSample; (try dsimp only); (repeat' split) <;> simp

@[simp] theorem State.brBreakerLevel_frame (k : Fin 16) (breaker : Bool) (s : State) :
    (State.brBreakerLevel k breaker s).pending = s.pending ∧ (State.brBreakerLevel k breaker s).now = s.now ∧ (State.brBreakerLevel k breaker s).free = s.free ∧ (State.brBreakerLevel k breaker s).arch = s.arch ∧ (State.brBreakerLevel k breaker s).pins = s.pins ∧ (State.brBreakerLevel k breaker s).tb = s.tb ∧ (State.brBreakerLevel k breaker s).meas = s.meas ∧ (State.brBreakerLevel k breaker s).lane = s.lane ∧ (State.brBreakerLevel k breaker s).snap = s.snap ∧ (State.brBreakerLevel k breaker s).phase = s.phase ∧ (State.brBreakerLevel k breaker s).loop = s.loop ∧ (State.brBreakerLevel k breaker s).shelf = s.shelf ∧ (State.brBreakerLevel k breaker s).bat = s.bat ∧ (State.brBreakerLevel k breaker s).seq = s.seq ∧ (State.brBreakerLevel k breaker s).thm = s.thm ∧ (State.brBreakerLevel k breaker s).eng = s.eng ∧ (State.brBreakerLevel k breaker s).net = s.net ∧ (State.brBreakerLevel k breaker s).twin = s.twin ∧ (State.brBreakerLevel k breaker s).casc = s.casc ∧ (State.brBreakerLevel k breaker s).rst = s.rst ∧ (State.brBreakerLevel k breaker s).mem = s.mem ∧ (State.brBreakerLevel k breaker s).evr = s.evr ∧ (State.brBreakerLevel k breaker s).upd = s.upd := by
  unfold State.brBreakerLevel; (try dsimp only); (repeat' split) <;> simp

@[simp] theorem State.brLimitLevel_frame (k : Fin 16) (limit : Bool) (s : State) :
    (State.brLimitLevel k limit s).pending = s.pending ∧ (State.brLimitLevel k limit s).now = s.now ∧ (State.brLimitLevel k limit s).free = s.free ∧ (State.brLimitLevel k limit s).arch = s.arch ∧ (State.brLimitLevel k limit s).tb = s.tb ∧ (State.brLimitLevel k limit s).meas = s.meas ∧ (State.brLimitLevel k limit s).lane = s.lane ∧ (State.brLimitLevel k limit s).snap = s.snap ∧ (State.brLimitLevel k limit s).phase = s.phase ∧ (State.brLimitLevel k limit s).loop = s.loop ∧ (State.brLimitLevel k limit s).shelf = s.shelf ∧ (State.brLimitLevel k limit s).bat = s.bat ∧ (State.brLimitLevel k limit s).seq = s.seq ∧ (State.brLimitLevel k limit s).thm = s.thm ∧ (State.brLimitLevel k limit s).eng = s.eng ∧ (State.brLimitLevel k limit s).net = s.net ∧ (State.brLimitLevel k limit s).twin = s.twin ∧ (State.brLimitLevel k limit s).casc = s.casc ∧ (State.brLimitLevel k limit s).rst = s.rst ∧ (State.brLimitLevel k limit s).mem = s.mem ∧ (State.brLimitLevel k limit s).evr = s.evr ∧ (State.brLimitLevel k limit s).upd = s.upd := by
  unfold State.brLimitLevel; (try dsimp only); (repeat' split) <;> simp

@[simp] theorem State.brRemove_frame (k : Fin 16) (s : State) :
    (State.brRemove k s).pending = s.pending ∧ (State.brRemove k s).now = s.now ∧ (State.brRemove k s).free = s.free ∧ (State.brRemove k s).arch = s.arch ∧ (State.brRemove k s).tb = s.tb ∧ (State.brRemove k s).meas = s.meas ∧ (State.brRemove k s).lane = s.lane ∧ (State.brRemove k s).snap = s.snap ∧ (State.brRemove k s).phase = s.phase ∧ (State.brRemove k s).loop = s.loop ∧ (State.brRemove k s).shelf = s.shelf ∧ (State.brRemove k s).bat = s.bat ∧ (State.brRemove k s).seq = s.seq ∧ (State.brRemove k s).thm = s.thm ∧ (State.brRemove k s).eng = s.eng ∧ (State.brRemove k s).twin = s.twin ∧ (State.brRemove k s).casc = s.casc ∧ (State.brRemove k s).rst = s.rst ∧ (State.brRemove k s).mem = s.mem ∧ (State.brRemove k s).upd = s.upd := by
  unfold State.brRemove; (try dsimp only); (repeat' split) <;> simp

@[simp] theorem State.brRequests_frame (k : Fin 16) (s : State) :
    (State.brRequests k s).pending = s.pending ∧ (State.brRequests k s).now = s.now ∧ (State.brRequests k s).free = s.free ∧ (State.brRequests k s).arch = s.arch ∧ (State.brRequests k s).tb = s.tb ∧ (State.brRequests k s).meas = s.meas ∧ (State.brRequests k s).lane = s.lane ∧ (State.brRequests k s).snap = s.snap ∧ (State.brRequests k s).phase = s.phase ∧ (State.brRequests k s).loop = s.loop ∧ (State.brRequests k s).shelf = s.shelf ∧ (State.brRequests k s).bat = s.bat ∧ (State.brRequests k s).seq = s.seq ∧ (State.brRequests k s).thm = s.thm ∧ (State.brRequests k s).eng = s.eng ∧ (State.brRequests k s).twin = s.twin ∧ (State.brRequests k s).casc = s.casc ∧ (State.brRequests k s).rst = s.rst ∧ (State.brRequests k s).mem = s.mem ∧ (State.brRequests k s).upd = s.upd := by
  unfold State.brRequests; (try dsimp only); (repeat' split) <;> simp

@[simp] theorem State.brSettling_frame (k : Fin 16) (s : State) :
    (State.brSettling k s).pending = s.pending ∧ (State.brSettling k s).now = s.now ∧ (State.brSettling k s).free = s.free ∧ (State.brSettling k s).arch = s.arch ∧ (State.brSettling k s).pins = s.pins ∧ (State.brSettling k s).tb = s.tb ∧ (State.brSettling k s).meas = s.meas ∧ (State.brSettling k s).lane = s.lane ∧ (State.brSettling k s).snap = s.snap ∧ (State.brSettling k s).phase = s.phase ∧ (State.brSettling k s).loop = s.loop ∧ (State.brSettling k s).shelf = s.shelf ∧ (State.brSettling k s).dist = s.dist ∧ (State.brSettling k s).bat = s.bat ∧ (State.brSettling k s).seq = s.seq ∧ (State.brSettling k s).thm = s.thm ∧ (State.brSettling k s).eng = s.eng ∧ (State.brSettling k s).net = s.net ∧ (State.brSettling k s).twin = s.twin ∧ (State.brSettling k s).casc = s.casc ∧ (State.brSettling k s).rst = s.rst ∧ (State.brSettling k s).mem = s.mem ∧ (State.brSettling k s).evr = s.evr ∧ (State.brSettling k s).upd = s.upd := by
  unfold State.brSettling; (try dsimp only); (repeat' split) <;> simp

@[simp] theorem State.brShortRun_frame (k : Fin 16) (s : State) :
    (State.brShortRun k s).pending = s.pending ∧ (State.brShortRun k s).now = s.now ∧ (State.brShortRun k s).free = s.free ∧ (State.brShortRun k s).arch = s.arch ∧ (State.brShortRun k s).pins = s.pins ∧ (State.brShortRun k s).tb = s.tb ∧ (State.brShortRun k s).meas = s.meas ∧ (State.brShortRun k s).lane = s.lane ∧ (State.brShortRun k s).snap = s.snap ∧ (State.brShortRun k s).phase = s.phase ∧ (State.brShortRun k s).loop = s.loop ∧ (State.brShortRun k s).shelf = s.shelf ∧ (State.brShortRun k s).dist = s.dist ∧ (State.brShortRun k s).bat = s.bat ∧ (State.brShortRun k s).seq = s.seq ∧ (State.brShortRun k s).thm = s.thm ∧ (State.brShortRun k s).eng = s.eng ∧ (State.brShortRun k s).net = s.net ∧ (State.brShortRun k s).twin = s.twin ∧ (State.brShortRun k s).casc = s.casc ∧ (State.brShortRun k s).rst = s.rst ∧ (State.brShortRun k s).mem = s.mem ∧ (State.brShortRun k s).evr = s.evr ∧ (State.brShortRun k s).upd = s.upd := by
  unfold State.brShortRun; (try dsimp only); (repeat' split) <;> simp

@[simp] theorem State.openFeed_frame (p : Fin 2) (s : State) :
    (State.openFeed p s).pending = s.pending ∧ (State.openFeed p s).now = s.now ∧ (State.openFeed p s).free = s.free ∧ (State.openFeed p s).arch = s.arch ∧ (State.openFeed p s).tb = s.tb ∧ (State.openFeed p s).meas = s.meas ∧ (State.openFeed p s).lane = s.lane ∧ (State.openFeed p s).snap = s.snap ∧ (State.openFeed p s).phase = s.phase ∧ (State.openFeed p s).loop = s.loop ∧ (State.openFeed p s).shelf = s.shelf ∧ (State.openFeed p s).bat = s.bat ∧ (State.openFeed p s).seq = s.seq ∧ (State.openFeed p s).thm = s.thm ∧ (State.openFeed p s).eng = s.eng ∧ (State.openFeed p s).net = s.net ∧ (State.openFeed p s).twin = s.twin ∧ (State.openFeed p s).casc = s.casc ∧ (State.openFeed p s).rst = s.rst ∧ (State.openFeed p s).mem = s.mem ∧ (State.openFeed p s).evr = s.evr ∧ (State.openFeed p s).upd = s.upd := by
  unfold State.openFeed; (try dsimp only); (repeat' split) <;> simp

@[simp] theorem State.openStr_frame (n : Fin 4) (s : State) :
    (State.openStr n s).pending = s.pending ∧ (State.openStr n s).now = s.now ∧ (State.openStr n s).free = s.free ∧ (State.openStr n s).arch = s.arch ∧ (State.openStr n s).tb = s.tb ∧ (State.openStr n s).meas = s.meas ∧ (State.openStr n s).lane = s.lane ∧ (State.openStr n s).snap = s.snap ∧ (State.openStr n s).phase = s.phase ∧ (State.openStr n s).loop = s.loop ∧ (State.openStr n s).shelf = s.shelf ∧ (State.openStr n s).bat = s.bat ∧ (State.openStr n s).seq = s.seq ∧ (State.openStr n s).thm = s.thm ∧ (State.openStr n s).eng = s.eng ∧ (State.openStr n s).net = s.net ∧ (State.openStr n s).twin = s.twin ∧ (State.openStr n s).casc = s.casc ∧ (State.openStr n s).rst = s.rst ∧ (State.openStr n s).mem = s.mem ∧ (State.openStr n s).evr = s.evr ∧ (State.openStr n s).upd = s.upd := by
  unfold State.openStr; (try dsimp only); (repeat' split) <;> simp

@[simp] theorem State.openUpstream_frame (k : Fin 16) (s : State) :
    (State.openUpstream k s).pending = s.pending ∧ (State.openUpstream k s).now = s.now ∧ (State.openUpstream k s).free = s.free ∧ (State.openUpstream k s).arch = s.arch ∧ (State.openUpstream k s).tb = s.tb ∧ (State.openUpstream k s).meas = s.meas ∧ (State.openUpstream k s).lane = s.lane ∧ (State.openUpstream k s).snap = s.snap ∧ (State.openUpstream k s).loop = s.loop ∧ (State.openUpstream k s).shelf = s.shelf ∧ (State.openUpstream k s).bat = s.bat ∧ (State.openUpstream k s).seq = s.seq ∧ (State.openUpstream k s).thm = s.thm ∧ (State.openUpstream k s).eng = s.eng ∧ (State.openUpstream k s).twin = s.twin ∧ (State.openUpstream k s).casc = s.casc ∧ (State.openUpstream k s).rst = s.rst ∧ (State.openUpstream k s).mem = s.mem ∧ (State.openUpstream k s).upd = s.upd := by
  unfold State.openUpstream; (try dsimp only); (repeat' split) <;> simp

@[simp] theorem State.gatesUv_frame  (s : State) :
    (State.gatesUv s).pending = s.pending ∧ (State.gatesUv s).now = s.now ∧ (State.gatesUv s).timers = s.timers ∧ (State.gatesUv s).free = s.free ∧ (State.gatesUv s).arch = s.arch ∧ (State.gatesUv s).tb = s.tb ∧ (State.gatesUv s).meas = s.meas ∧ (State.gatesUv s).lane = s.lane ∧ (State.gatesUv s).snap = s.snap ∧ (State.gatesUv s).phase = s.phase ∧ (State.gatesUv s).loop = s.loop ∧ (State.gatesUv s).shelf = s.shelf ∧ (State.gatesUv s).dist = s.dist ∧ (State.gatesUv s).bat = s.bat ∧ (State.gatesUv s).seq = s.seq ∧ (State.gatesUv s).thm = s.thm ∧ (State.gatesUv s).eng = s.eng ∧ (State.gatesUv s).net = s.net ∧ (State.gatesUv s).twin = s.twin ∧ (State.gatesUv s).casc = s.casc ∧ (State.gatesUv s).rst = s.rst ∧ (State.gatesUv s).mem = s.mem ∧ (State.gatesUv s).evr = s.evr ∧ (State.gatesUv s).upd = s.upd := by
  unfold State.gatesUv; (try dsimp only); (repeat' split) <;> simp

@[simp] theorem State.sinkLow_frame  (s : State) :
    (State.sinkLow s).pending = s.pending ∧ (State.sinkLow s).now = s.now ∧ (State.sinkLow s).timers = s.timers ∧ (State.sinkLow s).free = s.free ∧ (State.sinkLow s).arch = s.arch ∧ (State.sinkLow s).tb = s.tb ∧ (State.sinkLow s).meas = s.meas ∧ (State.sinkLow s).lane = s.lane ∧ (State.sinkLow s).snap = s.snap ∧ (State.sinkLow s).phase = s.phase ∧ (State.sinkLow s).loop = s.loop ∧ (State.sinkLow s).shelf = s.shelf ∧ (State.sinkLow s).dist = s.dist ∧ (State.sinkLow s).bat = s.bat ∧ (State.sinkLow s).seq = s.seq ∧ (State.sinkLow s).thm = s.thm ∧ (State.sinkLow s).eng = s.eng ∧ (State.sinkLow s).net = s.net ∧ (State.sinkLow s).twin = s.twin ∧ (State.sinkLow s).casc = s.casc ∧ (State.sinkLow s).rst = s.rst ∧ (State.sinkLow s).mem = s.mem ∧ (State.sinkLow s).evr = s.evr ∧ (State.sinkLow s).upd = s.upd := by
  unfold State.sinkLow; (try dsimp only); (repeat' split) <;> simp

@[simp] theorem State.feedTransfer_frame (p : Fin 2) (b : Bool) (revert : Bool) (s : State) :
    (State.feedTransfer p b revert s).pending = s.pending ∧ (State.feedTransfer p b revert s).now = s.now ∧ (State.feedTransfer p b revert s).free = s.free ∧ (State.feedTransfer p b revert s).arch = s.arch ∧ (State.feedTransfer p b revert s).tb = s.tb ∧ (State.feedTransfer p b revert s).meas = s.meas ∧ (State.feedTransfer p b revert s).lane = s.lane ∧ (State.feedTransfer p b revert s).snap = s.snap ∧ (State.feedTransfer p b revert s).phase = s.phase ∧ (State.feedTransfer p b revert s).loop = s.loop ∧ (State.feedTransfer p b revert s).shelf = s.shelf ∧ (State.feedTransfer p b revert s).bat = s.bat ∧ (State.feedTransfer p b revert s).seq = s.seq ∧ (State.feedTransfer p b revert s).thm = s.thm ∧ (State.feedTransfer p b revert s).eng = s.eng ∧ (State.feedTransfer p b revert s).twin = s.twin ∧ (State.feedTransfer p b revert s).casc = s.casc ∧ (State.feedTransfer p b revert s).rst = s.rst ∧ (State.feedTransfer p b revert s).mem = s.mem ∧ (State.feedTransfer p b revert s).upd = s.upd := by
  unfold State.feedTransfer; (try dsimp only); (repeat' split) <;> simp

@[simp] theorem State.feedWatch_frame (p : Fin 2) (s : State) :
    (State.feedWatch p s).pending = s.pending ∧ (State.feedWatch p s).now = s.now ∧ (State.feedWatch p s).free = s.free ∧ (State.feedWatch p s).arch = s.arch ∧ (State.feedWatch p s).pins = s.pins ∧ (State.feedWatch p s).tb = s.tb ∧ (State.feedWatch p s).meas = s.meas ∧ (State.feedWatch p s).lane = s.lane ∧ (State.feedWatch p s).snap = s.snap ∧ (State.feedWatch p s).phase = s.phase ∧ (State.feedWatch p s).loop = s.loop ∧ (State.feedWatch p s).shelf = s.shelf ∧ (State.feedWatch p s).dist = s.dist ∧ (State.feedWatch p s).bat = s.bat ∧ (State.feedWatch p s).seq = s.seq ∧ (State.feedWatch p s).thm = s.thm ∧ (State.feedWatch p s).eng = s.eng ∧ (State.feedWatch p s).net = s.net ∧ (State.feedWatch p s).twin = s.twin ∧ (State.feedWatch p s).casc = s.casc ∧ (State.feedWatch p s).rst = s.rst ∧ (State.feedWatch p s).mem = s.mem ∧ (State.feedWatch p s).evr = s.evr ∧ (State.feedWatch p s).upd = s.upd := by
  unfold State.feedWatch; (try dsimp only); (repeat' split) <;> simp

@[simp] theorem State.quenchTime_frame (q : Fin 18) (s : State) :
    (State.quenchTime q s).pending = s.pending ∧ (State.quenchTime q s).now = s.now ∧ (State.quenchTime q s).free = s.free ∧ (State.quenchTime q s).arch = s.arch ∧ (State.quenchTime q s).pins = s.pins ∧ (State.quenchTime q s).tb = s.tb ∧ (State.quenchTime q s).meas = s.meas ∧ (State.quenchTime q s).lane = s.lane ∧ (State.quenchTime q s).snap = s.snap ∧ (State.quenchTime q s).phase = s.phase ∧ (State.quenchTime q s).loop = s.loop ∧ (State.quenchTime q s).shelf = s.shelf ∧ (State.quenchTime q s).dist = s.dist ∧ (State.quenchTime q s).bat = s.bat ∧ (State.quenchTime q s).seq = s.seq ∧ (State.quenchTime q s).thm = s.thm ∧ (State.quenchTime q s).eng = s.eng ∧ (State.quenchTime q s).net = s.net ∧ (State.quenchTime q s).twin = s.twin ∧ (State.quenchTime q s).casc = s.casc ∧ (State.quenchTime q s).rst = s.rst ∧ (State.quenchTime q s).mem = s.mem ∧ (State.quenchTime q s).evr = s.evr ∧ (State.quenchTime q s).upd = s.upd := by
  unfold State.quenchTime; (try dsimp only); (repeat' split) <;> simp

@[simp] theorem State.feedSettle_frame (p : Fin 2) (s : State) :
    (State.feedSettle p s).pending = s.pending ∧ (State.feedSettle p s).now = s.now ∧ (State.feedSettle p s).free = s.free ∧ (State.feedSettle p s).arch = s.arch ∧ (State.feedSettle p s).pins = s.pins ∧ (State.feedSettle p s).tb = s.tb ∧ (State.feedSettle p s).meas = s.meas ∧ (State.feedSettle p s).lane = s.lane ∧ (State.feedSettle p s).snap = s.snap ∧ (State.feedSettle p s).phase = s.phase ∧ (State.feedSettle p s).loop = s.loop ∧ (State.feedSettle p s).shelf = s.shelf ∧ (State.feedSettle p s).bat = s.bat ∧ (State.feedSettle p s).seq = s.seq ∧ (State.feedSettle p s).thm = s.thm ∧ (State.feedSettle p s).eng = s.eng ∧ (State.feedSettle p s).net = s.net ∧ (State.feedSettle p s).twin = s.twin ∧ (State.feedSettle p s).casc = s.casc ∧ (State.feedSettle p s).rst = s.rst ∧ (State.feedSettle p s).mem = s.mem ∧ (State.feedSettle p s).evr = s.evr ∧ (State.feedSettle p s).upd = s.upd := by
  unfold State.feedSettle; (try dsimp only); (repeat' split) <;> simp

@[simp] theorem State.holdRail_frame (r : Fin 32) (s : State) :
    (State.holdRail r s).pending = s.pending ∧ (State.holdRail r s).now = s.now ∧ (State.holdRail r s).free = s.free ∧ (State.holdRail r s).arch = s.arch ∧ (State.holdRail r s).tb = s.tb ∧ (State.holdRail r s).meas = s.meas ∧ (State.holdRail r s).lane = s.lane ∧ (State.holdRail r s).snap = s.snap ∧ (State.holdRail r s).phase = s.phase ∧ (State.holdRail r s).loop = s.loop ∧ (State.holdRail r s).shelf = s.shelf ∧ (State.holdRail r s).dist = s.dist ∧ (State.holdRail r s).bat = s.bat ∧ (State.holdRail r s).thm = s.thm ∧ (State.holdRail r s).eng = s.eng ∧ (State.holdRail r s).net = s.net ∧ (State.holdRail r s).twin = s.twin ∧ (State.holdRail r s).casc = s.casc ∧ (State.holdRail r s).rst = s.rst ∧ (State.holdRail r s).mem = s.mem ∧ (State.holdRail r s).evr = s.evr ∧ (State.holdRail r s).upd = s.upd := by
  unfold State.holdRail; (try dsimp only); (repeat' split) <;> simp

@[simp] theorem State.enterPgDelay_frame (r : Fin 32) (s : State) :
    (State.enterPgDelay r s).pending = s.pending ∧ (State.enterPgDelay r s).now = s.now ∧ (State.enterPgDelay r s).free = s.free ∧ (State.enterPgDelay r s).arch = s.arch ∧ (State.enterPgDelay r s).pins = s.pins ∧ (State.enterPgDelay r s).tb = s.tb ∧ (State.enterPgDelay r s).meas = s.meas ∧ (State.enterPgDelay r s).lane = s.lane ∧ (State.enterPgDelay r s).snap = s.snap ∧ (State.enterPgDelay r s).phase = s.phase ∧ (State.enterPgDelay r s).loop = s.loop ∧ (State.enterPgDelay r s).shelf = s.shelf ∧ (State.enterPgDelay r s).dist = s.dist ∧ (State.enterPgDelay r s).bat = s.bat ∧ (State.enterPgDelay r s).thm = s.thm ∧ (State.enterPgDelay r s).eng = s.eng ∧ (State.enterPgDelay r s).net = s.net ∧ (State.enterPgDelay r s).twin = s.twin ∧ (State.enterPgDelay r s).casc = s.casc ∧ (State.enterPgDelay r s).rst = s.rst ∧ (State.enterPgDelay r s).mem = s.mem ∧ (State.enterPgDelay r s).evr = s.evr ∧ (State.enterPgDelay r s).upd = s.upd := by
  unfold State.enterPgDelay; (try dsimp only); (repeat' split) <;> simp

@[simp] theorem State.withhold_frame (r : Fin 32) (s : State) :
    (State.withhold r s).pending = s.pending ∧ (State.withhold r s).now = s.now ∧ (State.withhold r s).free = s.free ∧ (State.withhold r s).arch = s.arch ∧ (State.withhold r s).pins = s.pins ∧ (State.withhold r s).tb = s.tb ∧ (State.withhold r s).meas = s.meas ∧ (State.withhold r s).lane = s.lane ∧ (State.withhold r s).snap = s.snap ∧ (State.withhold r s).phase = s.phase ∧ (State.withhold r s).loop = s.loop ∧ (State.withhold r s).shelf = s.shelf ∧ (State.withhold r s).dist = s.dist ∧ (State.withhold r s).bat = s.bat ∧ (State.withhold r s).thm = s.thm ∧ (State.withhold r s).eng = s.eng ∧ (State.withhold r s).twin = s.twin ∧ (State.withhold r s).casc = s.casc ∧ (State.withhold r s).rst = s.rst ∧ (State.withhold r s).mem = s.mem ∧ (State.withhold r s).upd = s.upd := by
  unfold State.withhold; (try dsimp only); (repeat' split) <;> simp

@[simp] theorem State.leaveWindow_frame (r : Fin 32) (s : State) :
    (State.leaveWindow r s).pending = s.pending ∧ (State.leaveWindow r s).now = s.now ∧ (State.leaveWindow r s).free = s.free ∧ (State.leaveWindow r s).arch = s.arch ∧ (State.leaveWindow r s).tb = s.tb ∧ (State.leaveWindow r s).meas = s.meas ∧ (State.leaveWindow r s).lane = s.lane ∧ (State.leaveWindow r s).snap = s.snap ∧ (State.leaveWindow r s).phase = s.phase ∧ (State.leaveWindow r s).loop = s.loop ∧ (State.leaveWindow r s).shelf = s.shelf ∧ (State.leaveWindow r s).dist = s.dist ∧ (State.leaveWindow r s).bat = s.bat ∧ (State.leaveWindow r s).thm = s.thm ∧ (State.leaveWindow r s).eng = s.eng ∧ (State.leaveWindow r s).twin = s.twin ∧ (State.leaveWindow r s).casc = s.casc ∧ (State.leaveWindow r s).rst = s.rst ∧ (State.leaveWindow r s).mem = s.mem ∧ (State.leaveWindow r s).upd = s.upd := by
  unfold State.leaveWindow; (try dsimp only); (repeat' split) <;> simp

@[simp] theorem State.unholdRail_frame (r : Fin 32) (s : State) :
    (State.unholdRail r s).pending = s.pending ∧ (State.unholdRail r s).now = s.now ∧ (State.unholdRail r s).free = s.free ∧ (State.unholdRail r s).arch = s.arch ∧ (State.unholdRail r s).tb = s.tb ∧ (State.unholdRail r s).meas = s.meas ∧ (State.unholdRail r s).snap = s.snap ∧ (State.unholdRail r s).shelf = s.shelf ∧ (State.unholdRail r s).thm = s.thm ∧ (State.unholdRail r s).eng = s.eng ∧ (State.unholdRail r s).twin = s.twin ∧ (State.unholdRail r s).casc = s.casc ∧ (State.unholdRail r s).rst = s.rst ∧ (State.unholdRail r s).mem = s.mem ∧ (State.unholdRail r s).upd = s.upd := by
  unfold State.unholdRail; (try dsimp only); (repeat' split) <;> simp

@[simp] theorem State.railWindowStep_frame (r : Fin 32) (s : State) :
    (State.railWindowStep r s).pending = s.pending ∧ (State.railWindowStep r s).now = s.now ∧ (State.railWindowStep r s).free = s.free ∧ (State.railWindowStep r s).arch = s.arch ∧ (State.railWindowStep r s).tb = s.tb ∧ (State.railWindowStep r s).meas = s.meas ∧ (State.railWindowStep r s).snap = s.snap ∧ (State.railWindowStep r s).shelf = s.shelf ∧ (State.railWindowStep r s).thm = s.thm ∧ (State.railWindowStep r s).eng = s.eng ∧ (State.railWindowStep r s).twin = s.twin ∧ (State.railWindowStep r s).casc = s.casc ∧ (State.railWindowStep r s).rst = s.rst ∧ (State.railWindowStep r s).mem = s.mem ∧ (State.railWindowStep r s).upd = s.upd := by
  unfold State.railWindowStep; (try dsimp only); (repeat' split) <;> simp

@[simp] theorem State.railStartStep_frame (r : Fin 32) (s : State) :
    (State.railStartStep r s).pending = s.pending ∧ (State.railStartStep r s).now = s.now ∧ (State.railStartStep r s).free = s.free ∧ (State.railStartStep r s).arch = s.arch ∧ (State.railStartStep r s).pins = s.pins ∧ (State.railStartStep r s).tb = s.tb ∧ (State.railStartStep r s).meas = s.meas ∧ (State.railStartStep r s).lane = s.lane ∧ (State.railStartStep r s).snap = s.snap ∧ (State.railStartStep r s).phase = s.phase ∧ (State.railStartStep r s).loop = s.loop ∧ (State.railStartStep r s).shelf = s.shelf ∧ (State.railStartStep r s).dist = s.dist ∧ (State.railStartStep r s).bat = s.bat ∧ (State.railStartStep r s).thm = s.thm ∧ (State.railStartStep r s).eng = s.eng ∧ (State.railStartStep r s).net = s.net ∧ (State.railStartStep r s).twin = s.twin ∧ (State.railStartStep r s).casc = s.casc ∧ (State.railStartStep r s).rst = s.rst ∧ (State.railStartStep r s).mem = s.mem ∧ (State.railStartStep r s).evr = s.evr ∧ (State.railStartStep r s).upd = s.upd := by
  unfold State.railStartStep; (try dsimp only); (repeat' split) <;> simp

@[simp] theorem State.systemOn_frame  (s : State) :
    (State.systemOn s).pending = s.pending ∧ (State.systemOn s).now = s.now ∧ (State.systemOn s).timers = s.timers ∧ (State.systemOn s).free = s.free ∧ (State.systemOn s).arch = s.arch ∧ (State.systemOn s).pins = s.pins ∧ (State.systemOn s).tb = s.tb ∧ (State.systemOn s).meas = s.meas ∧ (State.systemOn s).lane = s.lane ∧ (State.systemOn s).snap = s.snap ∧ (State.systemOn s).phase = s.phase ∧ (State.systemOn s).loop = s.loop ∧ (State.systemOn s).shelf = s.shelf ∧ (State.systemOn s).dist = s.dist ∧ (State.systemOn s).bat = s.bat ∧ (State.systemOn s).thm = s.thm ∧ (State.systemOn s).eng = s.eng ∧ (State.systemOn s).net = s.net ∧ (State.systemOn s).twin = s.twin ∧ (State.systemOn s).casc = s.casc ∧ (State.systemOn s).rst = s.rst ∧ (State.systemOn s).mem = s.mem ∧ (State.systemOn s).evr = s.evr ∧ (State.systemOn s).upd = s.upd := by
  unfold State.systemOn; (try dsimp only); (repeat' split) <;> simp

@[simp] theorem State.groupCommand_frame (g : Fin 8) (on : Bool) (s : State) :
    (State.groupCommand g on s).pending = s.pending ∧ (State.groupCommand g on s).now = s.now ∧ (State.groupCommand g on s).timers = s.timers ∧ (State.groupCommand g on s).free = s.free ∧ (State.groupCommand g on s).arch = s.arch ∧ (State.groupCommand g on s).pins = s.pins ∧ (State.groupCommand g on s).tb = s.tb ∧ (State.groupCommand g on s).meas = s.meas ∧ (State.groupCommand g on s).lane = s.lane ∧ (State.groupCommand g on s).snap = s.snap ∧ (State.groupCommand g on s).phase = s.phase ∧ (State.groupCommand g on s).loop = s.loop ∧ (State.groupCommand g on s).shelf = s.shelf ∧ (State.groupCommand g on s).dist = s.dist ∧ (State.groupCommand g on s).bat = s.bat ∧ (State.groupCommand g on s).thm = s.thm ∧ (State.groupCommand g on s).eng = s.eng ∧ (State.groupCommand g on s).net = s.net ∧ (State.groupCommand g on s).twin = s.twin ∧ (State.groupCommand g on s).casc = s.casc ∧ (State.groupCommand g on s).rst = s.rst ∧ (State.groupCommand g on s).mem = s.mem ∧ (State.groupCommand g on s).evr = s.evr ∧ (State.groupCommand g on s).upd = s.upd := by
  unfold State.groupCommand; (try dsimp only); (repeat' split) <;> simp

@[simp] theorem State.assignRec_frame (i : Fin 32) (s : State) :
    (State.assignRec i s).pending = s.pending ∧ (State.assignRec i s).now = s.now ∧ (State.assignRec i s).timers = s.timers ∧ (State.assignRec i s).free = s.free ∧ (State.assignRec i s).arch = s.arch ∧ (State.assignRec i s).pins = s.pins ∧ (State.assignRec i s).meas = s.meas ∧ (State.assignRec i s).lane = s.lane ∧ (State.assignRec i s).snap = s.snap ∧ (State.assignRec i s).phase = s.phase ∧ (State.assignRec i s).loop = s.loop ∧ (State.assignRec i s).dist = s.dist ∧ (State.assignRec i s).bat = s.bat ∧ (State.assignRec i s).seq = s.seq ∧ (State.assignRec i s).thm = s.thm ∧ (State.assignRec i s).eng = s.eng ∧ (State.assignRec i s).net = s.net ∧ (State.assignRec i s).twin = s.twin ∧ (State.assignRec i s).casc = s.casc ∧ (State.assignRec i s).rst = s.rst ∧ (State.assignRec i s).mem = s.mem ∧ (State.assignRec i s).evr = s.evr ∧ (State.assignRec i s).upd = s.upd := by
  unfold State.assignRec; (try dsimp only); (repeat' split) <;> simp

@[simp] theorem State.capacities_frame  (s : State) :
    (State.capacities s).pending = s.pending ∧ (State.capacities s).now = s.now ∧ (State.capacities s).timers = s.timers ∧ (State.capacities s).free = s.free ∧ (State.capacities s).arch = s.arch ∧ (State.capacities s).pins = s.pins ∧ (State.capacities s).tb = s.tb ∧ (State.capacities s).meas = s.meas ∧ (State.capacities s).lane = s.lane ∧ (State.capacities s).snap = s.snap ∧ (State.capacities s).phase = s.phase ∧ (State.capacities s).loop = s.loop ∧ (State.capacities s).dist = s.dist ∧ (State.capacities s).bat = s.bat ∧ (State.capacities s).seq = s.seq ∧ (State.capacities s).thm = s.thm ∧ (State.capacities s).eng = s.eng ∧ (State.capacities s).net = s.net ∧ (State.capacities s).twin = s.twin ∧ (State.capacities s).casc = s.casc ∧ (State.capacities s).rst = s.rst ∧ (State.capacities s).mem = s.mem ∧ (State.capacities s).evr = s.evr ∧ (State.capacities s).upd = s.upd := by
  unfold State.capacities; (try dsimp only); (repeat' split) <;> simp

@[simp] theorem State.throttled_frame  (s : State) :
    (State.throttled s).pending = s.pending ∧ (State.throttled s).now = s.now ∧ (State.throttled s).timers = s.timers ∧ (State.throttled s).free = s.free ∧ (State.throttled s).arch = s.arch ∧ (State.throttled s).pins = s.pins ∧ (State.throttled s).tb = s.tb ∧ (State.throttled s).meas = s.meas ∧ (State.throttled s).lane = s.lane ∧ (State.throttled s).snap = s.snap ∧ (State.throttled s).phase = s.phase ∧ (State.throttled s).loop = s.loop ∧ (State.throttled s).dist = s.dist ∧ (State.throttled s).bat = s.bat ∧ (State.throttled s).seq = s.seq ∧ (State.throttled s).thm = s.thm ∧ (State.throttled s).eng = s.eng ∧ (State.throttled s).net = s.net ∧ (State.throttled s).twin = s.twin ∧ (State.throttled s).casc = s.casc ∧ (State.throttled s).rst = s.rst ∧ (State.throttled s).mem = s.mem ∧ (State.throttled s).evr = s.evr ∧ (State.throttled s).upd = s.upd := by
  unfold State.throttled; (try dsimp only); (repeat' split) <;> simp

@[simp] theorem State.enterHoldup_frame (cause : Nat) (s : State) :
    (State.enterHoldup cause s).pending = s.pending ∧ (State.enterHoldup cause s).now = s.now ∧ (State.enterHoldup cause s).free = s.free ∧ (State.enterHoldup cause s).arch = s.arch ∧ (State.enterHoldup cause s).pins = s.pins ∧ (State.enterHoldup cause s).tb = s.tb ∧ (State.enterHoldup cause s).meas = s.meas ∧ (State.enterHoldup cause s).lane = s.lane ∧ (State.enterHoldup cause s).snap = s.snap ∧ (State.enterHoldup cause s).phase = s.phase ∧ (State.enterHoldup cause s).loop = s.loop ∧ (State.enterHoldup cause s).dist = s.dist ∧ (State.enterHoldup cause s).bat = s.bat ∧ (State.enterHoldup cause s).seq = s.seq ∧ (State.enterHoldup cause s).thm = s.thm ∧ (State.enterHoldup cause s).eng = s.eng ∧ (State.enterHoldup cause s).twin = s.twin ∧ (State.enterHoldup cause s).casc = s.casc ∧ (State.enterHoldup cause s).rst = s.rst ∧ (State.enterHoldup cause s).mem = s.mem ∧ (State.enterHoldup cause s).upd = s.upd := by
  unfold State.enterHoldup; (try dsimp only); (repeat' split) <;> simp

@[simp] theorem State.mainsCheck_frame  (s : State) :
    (State.mainsCheck s).pending = s.pending ∧ (State.mainsCheck s).now = s.now ∧ (State.mainsCheck s).free = s.free ∧ (State.mainsCheck s).arch = s.arch ∧ (State.mainsCheck s).pins = s.pins ∧ (State.mainsCheck s).tb = s.tb ∧ (State.mainsCheck s).meas = s.meas ∧ (State.mainsCheck s).lane = s.lane ∧ (State.mainsCheck s).snap = s.snap ∧ (State.mainsCheck s).phase = s.phase ∧ (State.mainsCheck s).loop = s.loop ∧ (State.mainsCheck s).dist = s.dist ∧ (State.mainsCheck s).bat = s.bat ∧ (State.mainsCheck s).seq = s.seq ∧ (State.mainsCheck s).thm = s.thm ∧ (State.mainsCheck s).eng = s.eng ∧ (State.mainsCheck s).twin = s.twin ∧ (State.mainsCheck s).casc = s.casc ∧ (State.mainsCheck s).rst = s.rst ∧ (State.mainsCheck s).mem = s.mem ∧ (State.mainsCheck s).upd = s.upd := by
  unfold State.mainsCheck; (try dsimp only); (repeat' split) <;> simp

@[simp] theorem State.qualifyRun_frame  (s : State) :
    (State.qualifyRun s).pending = s.pending ∧ (State.qualifyRun s).now = s.now ∧ (State.qualifyRun s).free = s.free ∧ (State.qualifyRun s).arch = s.arch ∧ (State.qualifyRun s).pins = s.pins ∧ (State.qualifyRun s).tb = s.tb ∧ (State.qualifyRun s).meas = s.meas ∧ (State.qualifyRun s).lane = s.lane ∧ (State.qualifyRun s).snap = s.snap ∧ (State.qualifyRun s).phase = s.phase ∧ (State.qualifyRun s).loop = s.loop ∧ (State.qualifyRun s).shelf = s.shelf ∧ (State.qualifyRun s).dist = s.dist ∧ (State.qualifyRun s).bat = s.bat ∧ (State.qualifyRun s).seq = s.seq ∧ (State.qualifyRun s).thm = s.thm ∧ (State.qualifyRun s).eng = s.eng ∧ (State.qualifyRun s).net = s.net ∧ (State.qualifyRun s).twin = s.twin ∧ (State.qualifyRun s).casc = s.casc ∧ (State.qualifyRun s).rst = s.rst ∧ (State.qualifyRun s).mem = s.mem ∧ (State.qualifyRun s).evr = s.evr ∧ (State.qualifyRun s).upd = s.upd := by
  unfold State.qualifyRun; (try dsimp only); (repeat' split) <;> simp

@[simp] theorem State.stageDwells_frame (v : Rat) (s : State) :
    (State.stageDwells v s).pending = s.pending ∧ (State.stageDwells v s).now = s.now ∧ (State.stageDwells v s).free = s.free ∧ (State.stageDwells v s).arch = s.arch ∧ (State.stageDwells v s).pins = s.pins ∧ (State.stageDwells v s).tb = s.tb ∧ (State.stageDwells v s).meas = s.meas ∧ (State.stageDwells v s).lane = s.lane ∧ (State.stageDwells v s).snap = s.snap ∧ (State.stageDwells v s).phase = s.phase ∧ (State.stageDwells v s).loop = s.loop ∧ (State.stageDwells v s).shelf = s.shelf ∧ (State.stageDwells v s).dist = s.dist ∧ (State.stageDwells v s).bat = s.bat ∧ (State.stageDwells v s).seq = s.seq ∧ (State.stageDwells v s).thm = s.thm ∧ (State.stageDwells v s).eng = s.eng ∧ (State.stageDwells v s).net = s.net ∧ (State.stageDwells v s).twin = s.twin ∧ (State.stageDwells v s).casc = s.casc ∧ (State.stageDwells v s).rst = s.rst ∧ (State.stageDwells v s).mem = s.mem ∧ (State.stageDwells v s).evr = s.evr ∧ (State.stageDwells v s).upd = s.upd := by
  unfold State.stageDwells; (try dsimp only); (repeat' split) <;> simp

@[simp] theorem State.capRestore_frame  (s : State) :
    (State.capRestore s).pending = s.pending ∧ (State.capRestore s).now = s.now ∧ (State.capRestore s).free = s.free ∧ (State.capRestore s).arch = s.arch ∧ (State.capRestore s).pins = s.pins ∧ (State.capRestore s).tb = s.tb ∧ (State.capRestore s).meas = s.meas ∧ (State.capRestore s).lane = s.lane ∧ (State.capRestore s).snap = s.snap ∧ (State.capRestore s).phase = s.phase ∧ (State.capRestore s).loop = s.loop ∧ (State.capRestore s).dist = s.dist ∧ (State.capRestore s).bat = s.bat ∧ (State.capRestore s).thm = s.thm ∧ (State.capRestore s).eng = s.eng ∧ (State.capRestore s).net = s.net ∧ (State.capRestore s).twin = s.twin ∧ (State.capRestore s).casc = s.casc ∧ (State.capRestore s).rst = s.rst ∧ (State.capRestore s).mem = s.mem ∧ (State.capRestore s).evr = s.evr ∧ (State.capRestore s).upd = s.upd := by
  unfold State.capRestore; (try dsimp only); (repeat' split) <;> simp

@[simp] theorem State.capOverrideStep_frame (soc : Rat) (s : State) :
    (State.capOverrideStep soc s).pending = s.pending ∧ (State.capOverrideStep soc s).now = s.now ∧ (State.capOverrideStep soc s).free = s.free ∧ (State.capOverrideStep soc s).arch = s.arch ∧ (State.capOverrideStep soc s).pins = s.pins ∧ (State.capOverrideStep soc s).tb = s.tb ∧ (State.capOverrideStep soc s).meas = s.meas ∧ (State.capOverrideStep soc s).lane = s.lane ∧ (State.capOverrideStep soc s).snap = s.snap ∧ (State.capOverrideStep soc s).phase = s.phase ∧ (State.capOverrideStep soc s).loop = s.loop ∧ (State.capOverrideStep soc s).dist = s.dist ∧ (State.capOverrideStep soc s).bat = s.bat ∧ (State.capOverrideStep soc s).seq = s.seq ∧ (State.capOverrideStep soc s).thm = s.thm ∧ (State.capOverrideStep soc s).eng = s.eng ∧ (State.capOverrideStep soc s).twin = s.twin ∧ (State.capOverrideStep soc s).casc = s.casc ∧ (State.capOverrideStep soc s).rst = s.rst ∧ (State.capOverrideStep soc s).mem = s.mem ∧ (State.capOverrideStep soc s).upd = s.upd := by
  unfold State.capOverrideStep; (try dsimp only); (repeat' split) <;> simp

@[simp] theorem State.ffAdd_frame  (s : State) :
    (State.ffAdd s).pending = s.pending ∧ (State.ffAdd s).now = s.now ∧ (State.ffAdd s).timers = s.timers ∧ (State.ffAdd s).free = s.free ∧ (State.ffAdd s).arch = s.arch ∧ (State.ffAdd s).pins = s.pins ∧ (State.ffAdd s).tb = s.tb ∧ (State.ffAdd s).meas = s.meas ∧ (State.ffAdd s).lane = s.lane ∧ (State.ffAdd s).snap = s.snap ∧ (State.ffAdd s).phase = s.phase ∧ (State.ffAdd s).loop = s.loop ∧ (State.ffAdd s).dist = s.dist ∧ (State.ffAdd s).bat = s.bat ∧ (State.ffAdd s).seq = s.seq ∧ (State.ffAdd s).thm = s.thm ∧ (State.ffAdd s).eng = s.eng ∧ (State.ffAdd s).net = s.net ∧ (State.ffAdd s).twin = s.twin ∧ (State.ffAdd s).casc = s.casc ∧ (State.ffAdd s).rst = s.rst ∧ (State.ffAdd s).mem = s.mem ∧ (State.ffAdd s).evr = s.evr ∧ (State.ffAdd s).upd = s.upd := by
  unfold State.ffAdd; (try dsimp only); (repeat' split) <;> simp

@[simp] theorem State.ffCompare_frame  (s : State) :
    (State.ffCompare s).pending = s.pending ∧ (State.ffCompare s).now = s.now ∧ (State.ffCompare s).free = s.free ∧ (State.ffCompare s).arch = s.arch ∧ (State.ffCompare s).pins = s.pins ∧ (State.ffCompare s).tb = s.tb ∧ (State.ffCompare s).meas = s.meas ∧ (State.ffCompare s).lane = s.lane ∧ (State.ffCompare s).snap = s.snap ∧ (State.ffCompare s).phase = s.phase ∧ (State.ffCompare s).loop = s.loop ∧ (State.ffCompare s).dist = s.dist ∧ (State.ffCompare s).bat = s.bat ∧ (State.ffCompare s).seq = s.seq ∧ (State.ffCompare s).thm = s.thm ∧ (State.ffCompare s).eng = s.eng ∧ (State.ffCompare s).net = s.net ∧ (State.ffCompare s).twin = s.twin ∧ (State.ffCompare s).casc = s.casc ∧ (State.ffCompare s).rst = s.rst ∧ (State.ffCompare s).mem = s.mem ∧ (State.ffCompare s).evr = s.evr ∧ (State.ffCompare s).upd = s.upd := by
  unfold State.ffCompare; (try dsimp only); (repeat' split) <;> simp

@[simp] theorem State.senseChoose_frame  (s : State) :
    (State.senseChoose s).pending = s.pending ∧ (State.senseChoose s).now = s.now ∧ (State.senseChoose s).free = s.free ∧ (State.senseChoose s).arch = s.arch ∧ (State.senseChoose s).pins = s.pins ∧ (State.senseChoose s).tb = s.tb ∧ (State.senseChoose s).meas = s.meas ∧ (State.senseChoose s).lane = s.lane ∧ (State.senseChoose s).snap = s.snap ∧ (State.senseChoose s).phase = s.phase ∧ (State.senseChoose s).loop = s.loop ∧ (State.senseChoose s).dist = s.dist ∧ (State.senseChoose s).bat = s.bat ∧ (State.senseChoose s).seq = s.seq ∧ (State.senseChoose s).thm = s.thm ∧ (State.senseChoose s).eng = s.eng ∧ (State.senseChoose s).twin = s.twin ∧ (State.senseChoose s).casc = s.casc ∧ (State.senseChoose s).rst = s.rst ∧ (State.senseChoose s).mem = s.mem ∧ (State.senseChoose s).upd = s.upd := by
  unfold State.senseChoose; (try dsimp only); (repeat' split) <;> simp

@[simp] theorem State.senseCount_frame  (s : State) :
    (State.senseCount s).pending = s.pending ∧ (State.senseCount s).now = s.now ∧ (State.senseCount s).timers = s.timers ∧ (State.senseCount s).free = s.free ∧ (State.senseCount s).arch = s.arch ∧ (State.senseCount s).pins = s.pins ∧ (State.senseCount s).tb = s.tb ∧ (State.senseCount s).meas = s.meas ∧ (State.senseCount s).lane = s.lane ∧ (State.senseCount s).snap = s.snap ∧ (State.senseCount s).phase = s.phase ∧ (State.senseCount s).loop = s.loop ∧ (State.senseCount s).dist = s.dist ∧ (State.senseCount s).bat = s.bat ∧ (State.senseCount s).seq = s.seq ∧ (State.senseCount s).thm = s.thm ∧ (State.senseCount s).eng = s.eng ∧ (State.senseCount s).net = s.net ∧ (State.senseCount s).twin = s.twin ∧ (State.senseCount s).casc = s.casc ∧ (State.senseCount s).rst = s.rst ∧ (State.senseCount s).mem = s.mem ∧ (State.senseCount s).evr = s.evr ∧ (State.senseCount s).upd = s.upd := by
  unfold State.senseCount; (try dsimp only); (repeat' split) <;> simp

@[simp] theorem State.busLimits_frame  (s : State) :
    (State.busLimits s).pending = s.pending ∧ (State.busLimits s).now = s.now ∧ (State.busLimits s).free = s.free ∧ (State.busLimits s).arch = s.arch ∧ (State.busLimits s).pins = s.pins ∧ (State.busLimits s).tb = s.tb ∧ (State.busLimits s).meas = s.meas ∧ (State.busLimits s).lane = s.lane ∧ (State.busLimits s).snap = s.snap ∧ (State.busLimits s).phase = s.phase ∧ (State.busLimits s).loop = s.loop ∧ (State.busLimits s).shelf = s.shelf ∧ (State.busLimits s).dist = s.dist ∧ (State.busLimits s).bat = s.bat ∧ (State.busLimits s).seq = s.seq ∧ (State.busLimits s).thm = s.thm ∧ (State.busLimits s).eng = s.eng ∧ (State.busLimits s).net = s.net ∧ (State.busLimits s).twin = s.twin ∧ (State.busLimits s).casc = s.casc ∧ (State.busLimits s).rst = s.rst ∧ (State.busLimits s).mem = s.mem ∧ (State.busLimits s).evr = s.evr ∧ (State.busLimits s).upd = s.upd := by
  unfold State.busLimits; (try dsimp only); (repeat' split) <;> simp

@[simp] theorem State.refStep_frame  (s : State) :
    (State.refStep s).pending = s.pending ∧ (State.refStep s).now = s.now ∧ (State.refStep s).timers = s.timers ∧ (State.refStep s).free = s.free ∧ (State.refStep s).arch = s.arch ∧ (State.refStep s).pins = s.pins ∧ (State.refStep s).tb = s.tb ∧ (State.refStep s).meas = s.meas ∧ (State.refStep s).lane = s.lane ∧ (State.refStep s).snap = s.snap ∧ (State.refStep s).phase = s.phase ∧ (State.refStep s).loop = s.loop ∧ (State.refStep s).dist = s.dist ∧ (State.refStep s).bat = s.bat ∧ (State.refStep s).seq = s.seq ∧ (State.refStep s).thm = s.thm ∧ (State.refStep s).eng = s.eng ∧ (State.refStep s).net = s.net ∧ (State.refStep s).twin = s.twin ∧ (State.refStep s).casc = s.casc ∧ (State.refStep s).rst = s.rst ∧ (State.refStep s).mem = s.mem ∧ (State.refStep s).evr = s.evr ∧ (State.refStep s).upd = s.upd := by
  unfold State.refStep; (try dsimp only); (repeat' split) <;> simp

@[simp] theorem State.presetNow_frame (n : Fin 12) (s : State) :
    (State.presetNow n s).pending = s.pending ∧ (State.presetNow n s).now = s.now ∧ (State.presetNow n s).free = s.free ∧ (State.presetNow n s).arch = s.arch ∧ (State.presetNow n s).pins = s.pins ∧ (State.presetNow n s).tb = s.tb ∧ (State.presetNow n s).meas = s.meas ∧ (State.presetNow n s).snap = s.snap ∧ (State.presetNow n s).phase = s.phase ∧ (State.presetNow n s).loop = s.loop ∧ (State.presetNow n s).dist = s.dist ∧ (State.presetNow n s).bat = s.bat ∧ (State.presetNow n s).seq = s.seq ∧ (State.presetNow n s).thm = s.thm ∧ (State.presetNow n s).eng = s.eng ∧ (State.presetNow n s).net = s.net ∧ (State.presetNow n s).twin = s.twin ∧ (State.presetNow n s).casc = s.casc ∧ (State.presetNow n s).rst = s.rst ∧ (State.presetNow n s).mem = s.mem ∧ (State.presetNow n s).evr = s.evr ∧ (State.presetNow n s).upd = s.upd := by
  unfold State.presetNow; (try dsimp only); (repeat' split) <;> simp

@[simp] theorem State.shelfStart_frame  (s : State) :
    (State.shelfStart s).pending = s.pending ∧ (State.shelfStart s).now = s.now ∧ (State.shelfStart s).free = s.free ∧ (State.shelfStart s).arch = s.arch ∧ (State.shelfStart s).pins = s.pins ∧ (State.shelfStart s).tb = s.tb ∧ (State.shelfStart s).meas = s.meas ∧ (State.shelfStart s).snap = s.snap ∧ (State.shelfStart s).phase = s.phase ∧ (State.shelfStart s).loop = s.loop ∧ (State.shelfStart s).dist = s.dist ∧ (State.shelfStart s).bat = s.bat ∧ (State.shelfStart s).seq = s.seq ∧ (State.shelfStart s).thm = s.thm ∧ (State.shelfStart s).eng = s.eng ∧ (State.shelfStart s).net = s.net ∧ (State.shelfStart s).twin = s.twin ∧ (State.shelfStart s).casc = s.casc ∧ (State.shelfStart s).rst = s.rst ∧ (State.shelfStart s).mem = s.mem ∧ (State.shelfStart s).evr = s.evr ∧ (State.shelfStart s).upd = s.upd := by
  unfold State.shelfStart; (try dsimp only); (repeat' split) <;> simp

@[simp] theorem State.demandAssembly_frame  (s : State) :
    (State.demandAssembly s).pending = s.pending ∧ (State.demandAssembly s).now = s.now ∧ (State.demandAssembly s).free = s.free ∧ (State.demandAssembly s).arch = s.arch ∧ (State.demandAssembly s).pins = s.pins ∧ (State.demandAssembly s).tb = s.tb ∧ (State.demandAssembly s).meas = s.meas ∧ (State.demandAssembly s).lane = s.lane ∧ (State.demandAssembly s).snap = s.snap ∧ (State.demandAssembly s).phase = s.phase ∧ (State.demandAssembly s).loop = s.loop ∧ (State.demandAssembly s).dist = s.dist ∧ (State.demandAssembly s).bat = s.bat ∧ (State.demandAssembly s).seq = s.seq ∧ (State.demandAssembly s).thm = s.thm ∧ (State.demandAssembly s).eng = s.eng ∧ (State.demandAssembly s).net = s.net ∧ (State.demandAssembly s).twin = s.twin ∧ (State.demandAssembly s).casc = s.casc ∧ (State.demandAssembly s).rst = s.rst ∧ (State.demandAssembly s).mem = s.mem ∧ (State.demandAssembly s).evr = s.evr ∧ (State.demandAssembly s).upd = s.upd := by
  unfold State.demandAssembly; (try dsimp only); (repeat' split) <;> simp

@[simp] theorem State.slowUser_frame (st : Nat) (m : SlowMsg) (s : State) :
    (State.slowUser st m s).pending = s.pending ∧ (State.slowUser st m s).now = s.now ∧ (State.slowUser st m s).timers = s.timers ∧ (State.slowUser st m s).free = s.free ∧ (State.slowUser st m s).arch = s.arch ∧ (State.slowUser st m s).pins = s.pins ∧ (State.slowUser st m s).tb = s.tb ∧ (State.slowUser st m s).meas = s.meas ∧ (State.slowUser st m s).lane = s.lane ∧ (State.slowUser st m s).snap = s.snap ∧ (State.slowUser st m s).phase = s.phase ∧ (State.slowUser st m s).loop = s.loop ∧ (State.slowUser st m s).dist = s.dist ∧ (State.slowUser st m s).bat = s.bat ∧ (State.slowUser st m s).seq = s.seq ∧ (State.slowUser st m s).thm = s.thm ∧ (State.slowUser st m s).eng = s.eng ∧ (State.slowUser st m s).net = s.net ∧ (State.slowUser st m s).twin = s.twin ∧ (State.slowUser st m s).casc = s.casc ∧ (State.slowUser st m s).rst = s.rst ∧ (State.slowUser st m s).mem = s.mem ∧ (State.slowUser st m s).evr = s.evr ∧ (State.slowUser st m s).upd = s.upd := by
  unfold State.slowUser; (try dsimp only); (repeat' split) <;> simp

@[simp] theorem State.excludeRec_frame (i : Fin 32) (code : Nat) (s : State) :
    (State.excludeRec i code s).pending = s.pending ∧ (State.excludeRec i code s).now = s.now ∧ (State.excludeRec i code s).free = s.free ∧ (State.excludeRec i code s).arch = s.arch ∧ (State.excludeRec i code s).pins = s.pins ∧ (State.excludeRec i code s).tb = s.tb ∧ (State.excludeRec i code s).meas = s.meas ∧ (State.excludeRec i code s).lane = s.lane ∧ (State.excludeRec i code s).snap = s.snap ∧ (State.excludeRec i code s).phase = s.phase ∧ (State.excludeRec i code s).loop = s.loop ∧ (State.excludeRec i code s).dist = s.dist ∧ (State.excludeRec i code s).bat = s.bat ∧ (State.excludeRec i code s).seq = s.seq ∧ (State.excludeRec i code s).thm = s.thm ∧ (State.excludeRec i code s).eng = s.eng ∧ (State.excludeRec i code s).twin = s.twin ∧ (State.excludeRec i code s).casc = s.casc ∧ (State.excludeRec i code s).rst = s.rst ∧ (State.excludeRec i code s).mem = s.mem ∧ (State.excludeRec i code s).upd = s.upd := by
  unfold State.excludeRec; (try dsimp only); (repeat' split) <;> simp

@[simp] theorem State.joinNext_frame (i : Fin 32) (s : State) :
    (State.joinNext i s).pending = s.pending ∧ (State.joinNext i s).now = s.now ∧ (State.joinNext i s).free = s.free ∧ (State.joinNext i s).arch = s.arch ∧ (State.joinNext i s).pins = s.pins ∧ (State.joinNext i s).meas = s.meas ∧ (State.joinNext i s).lane = s.lane ∧ (State.joinNext i s).snap = s.snap ∧ (State.joinNext i s).phase = s.phase ∧ (State.joinNext i s).loop = s.loop ∧ (State.joinNext i s).dist = s.dist ∧ (State.joinNext i s).bat = s.bat ∧ (State.joinNext i s).seq = s.seq ∧ (State.joinNext i s).thm = s.thm ∧ (State.joinNext i s).eng = s.eng ∧ (State.joinNext i s).twin = s.twin ∧ (State.joinNext i s).casc = s.casc ∧ (State.joinNext i s).rst = s.rst ∧ (State.joinNext i s).mem = s.mem ∧ (State.joinNext i s).upd = s.upd := by
  unfold State.joinNext; (try dsimp only); (repeat' split) <;> simp

@[simp] theorem State.slowHear_frame (i : Fin 32) (toggle : Bool) (v : Nat) (s : State) :
    (State.slowHear i toggle v s).pending = s.pending ∧ (State.slowHear i toggle v s).now = s.now ∧ (State.slowHear i toggle v s).timers = s.timers ∧ (State.slowHear i toggle v s).free = s.free ∧ (State.slowHear i toggle v s).arch = s.arch ∧ (State.slowHear i toggle v s).pins = s.pins ∧ (State.slowHear i toggle v s).meas = s.meas ∧ (State.slowHear i toggle v s).lane = s.lane ∧ (State.slowHear i toggle v s).snap = s.snap ∧ (State.slowHear i toggle v s).phase = s.phase ∧ (State.slowHear i toggle v s).loop = s.loop ∧ (State.slowHear i toggle v s).dist = s.dist ∧ (State.slowHear i toggle v s).bat = s.bat ∧ (State.slowHear i toggle v s).seq = s.seq ∧ (State.slowHear i toggle v s).thm = s.thm ∧ (State.slowHear i toggle v s).eng = s.eng ∧ (State.slowHear i toggle v s).net = s.net ∧ (State.slowHear i toggle v s).twin = s.twin ∧ (State.slowHear i toggle v s).casc = s.casc ∧ (State.slowHear i toggle v s).rst = s.rst ∧ (State.slowHear i toggle v s).mem = s.mem ∧ (State.slowHear i toggle v s).evr = s.evr ∧ (State.slowHear i toggle v s).upd = s.upd := by
  unfold State.slowHear; (try dsimp only); (repeat' split) <;> simp

@[simp] theorem State.slowAnswer_frame (i : Fin 32) (ok toggle : Bool) (v : Nat) (s : State) :
    (State.slowAnswer i ok toggle v s).pending = s.pending ∧ (State.slowAnswer i ok toggle v s).now = s.now ∧ (State.slowAnswer i ok toggle v s).free = s.free ∧ (State.slowAnswer i ok toggle v s).arch = s.arch ∧ (State.slowAnswer i ok toggle v s).pins = s.pins ∧ (State.slowAnswer i ok toggle v s).meas = s.meas ∧ (State.slowAnswer i ok toggle v s).lane = s.lane ∧ (State.slowAnswer i ok toggle v s).snap = s.snap ∧ (State.slowAnswer i ok toggle v s).phase = s.phase ∧ (State.slowAnswer i ok toggle v s).loop = s.loop ∧ (State.slowAnswer i ok toggle v s).dist = s.dist ∧ (State.slowAnswer i ok toggle v s).bat = s.bat ∧ (State.slowAnswer i ok toggle v s).seq = s.seq ∧ (State.slowAnswer i ok toggle v s).thm = s.thm ∧ (State.slowAnswer i ok toggle v s).eng = s.eng ∧ (State.slowAnswer i ok toggle v s).twin = s.twin ∧ (State.slowAnswer i ok toggle v s).casc = s.casc ∧ (State.slowAnswer i ok toggle v s).rst = s.rst ∧ (State.slowAnswer i ok toggle v s).mem = s.mem ∧ (State.slowAnswer i ok toggle v s).upd = s.upd := by
  unfold State.slowAnswer; (try dsimp only); (repeat' split) <;> simp (disch := (intros; (try dsimp only); (repeat' split) <;> simp))

@[simp] theorem State.recAbsent_frame (i : Fin 32) (code : Nat) (s : State) :
    (State.recAbsent i code s).pending = s.pending ∧ (State.recAbsent i code s).now = s.now ∧ (State.recAbsent i code s).free = s.free ∧ (State.recAbsent i code s).arch = s.arch ∧ (State.recAbsent i code s).pins = s.pins ∧ (State.recAbsent i code s).tb = s.tb ∧ (State.recAbsent i code s).meas = s.meas ∧ (State.recAbsent i code s).lane = s.lane ∧ (State.recAbsent i code s).snap = s.snap ∧ (State.recAbsent i code s).phase = s.phase ∧ (State.recAbsent i code s).loop = s.loop ∧ (State.recAbsent i code s).dist = s.dist ∧ (State.recAbsent i code s).bat = s.bat ∧ (State.recAbsent i code s).seq = s.seq ∧ (State.recAbsent i code s).thm = s.thm ∧ (State.recAbsent i code s).eng = s.eng ∧ (State.recAbsent i code s).twin = s.twin ∧ (State.recAbsent i code s).casc = s.casc ∧ (State.recAbsent i code s).rst = s.rst ∧ (State.recAbsent i code s).mem = s.mem ∧ (State.recAbsent i code s).upd = s.upd := by
  unfold State.recAbsent; (try dsimp only); (repeat' split) <;> simp

@[simp] theorem State.slowTimeout_frame (i : Fin 32) (m : SlowMsg) (s : State) :
    (State.slowTimeout i m s).pending = s.pending ∧ (State.slowTimeout i m s).now = s.now ∧ (State.slowTimeout i m s).free = s.free ∧ (State.slowTimeout i m s).arch = s.arch ∧ (State.slowTimeout i m s).pins = s.pins ∧ (State.slowTimeout i m s).tb = s.tb ∧ (State.slowTimeout i m s).meas = s.meas ∧ (State.slowTimeout i m s).lane = s.lane ∧ (State.slowTimeout i m s).snap = s.snap ∧ (State.slowTimeout i m s).phase = s.phase ∧ (State.slowTimeout i m s).loop = s.loop ∧ (State.slowTimeout i m s).dist = s.dist ∧ (State.slowTimeout i m s).bat = s.bat ∧ (State.slowTimeout i m s).seq = s.seq ∧ (State.slowTimeout i m s).thm = s.thm ∧ (State.slowTimeout i m s).eng = s.eng ∧ (State.slowTimeout i m s).twin = s.twin ∧ (State.slowTimeout i m s).casc = s.casc ∧ (State.slowTimeout i m s).rst = s.rst ∧ (State.slowTimeout i m s).mem = s.mem ∧ (State.slowTimeout i m s).upd = s.upd := by
  unfold State.slowTimeout; (try dsimp only); (repeat' split) <;> simp

@[simp] theorem State.recReply_frame (i : Fin 32) (fault fbk : Bool) (s : State) :
    (State.recReply i fault fbk s).pending = s.pending ∧ (State.recReply i fault fbk s).now = s.now ∧ (State.recReply i fault fbk s).free = s.free ∧ (State.recReply i fault fbk s).arch = s.arch ∧ (State.recReply i fault fbk s).pins = s.pins ∧ (State.recReply i fault fbk s).tb = s.tb ∧ (State.recReply i fault fbk s).meas = s.meas ∧ (State.recReply i fault fbk s).lane = s.lane ∧ (State.recReply i fault fbk s).snap = s.snap ∧ (State.recReply i fault fbk s).phase = s.phase ∧ (State.recReply i fault fbk s).loop = s.loop ∧ (State.recReply i fault fbk s).dist = s.dist ∧ (State.recReply i fault fbk s).bat = s.bat ∧ (State.recReply i fault fbk s).seq = s.seq ∧ (State.recReply i fault fbk s).thm = s.thm ∧ (State.recReply i fault fbk s).eng = s.eng ∧ (State.recReply i fault fbk s).twin = s.twin ∧ (State.recReply i fault fbk s).casc = s.casc ∧ (State.recReply i fault fbk s).rst = s.rst ∧ (State.recReply i fault fbk s).mem = s.mem ∧ (State.recReply i fault fbk s).upd = s.upd := by
  unfold State.recReply; (try dsimp only); (repeat' split) <;> simp

@[simp] theorem State.trackRun_frame (i : Fin 32) (s : State) :
    (State.trackRun i s).pending = s.pending ∧ (State.trackRun i s).now = s.now ∧ (State.trackRun i s).free = s.free ∧ (State.trackRun i s).arch = s.arch ∧ (State.trackRun i s).pins = s.pins ∧ (State.trackRun i s).tb = s.tb ∧ (State.trackRun i s).meas = s.meas ∧ (State.trackRun i s).lane = s.lane ∧ (State.trackRun i s).snap = s.snap ∧ (State.trackRun i s).phase = s.phase ∧ (State.trackRun i s).loop = s.loop ∧ (State.trackRun i s).shelf = s.shelf ∧ (State.trackRun i s).dist = s.dist ∧ (State.trackRun i s).bat = s.bat ∧ (State.trackRun i s).seq = s.seq ∧ (State.trackRun i s).thm = s.thm ∧ (State.trackRun i s).eng = s.eng ∧ (State.trackRun i s).net = s.net ∧ (State.trackRun i s).twin = s.twin ∧ (State.trackRun i s).casc = s.casc ∧ (State.trackRun i s).rst = s.rst ∧ (State.trackRun i s).mem = s.mem ∧ (State.trackRun i s).evr = s.evr ∧ (State.trackRun i s).upd = s.upd := by
  unfold State.trackRun; (try dsimp only); (repeat' split) <;> simp

@[simp] theorem State.takeReply_frame (i : Fin 32) (d : List Byte) (s : State) :
    (State.takeReply i d s).pending = s.pending ∧ (State.takeReply i d s).now = s.now ∧ (State.takeReply i d s).free = s.free ∧ (State.takeReply i d s).arch = s.arch ∧ (State.takeReply i d s).pins = s.pins ∧ (State.takeReply i d s).meas = s.meas ∧ (State.takeReply i d s).lane = s.lane ∧ (State.takeReply i d s).snap = s.snap ∧ (State.takeReply i d s).phase = s.phase ∧ (State.takeReply i d s).loop = s.loop ∧ (State.takeReply i d s).dist = s.dist ∧ (State.takeReply i d s).bat = s.bat ∧ (State.takeReply i d s).seq = s.seq ∧ (State.takeReply i d s).thm = s.thm ∧ (State.takeReply i d s).eng = s.eng ∧ (State.takeReply i d s).twin = s.twin ∧ (State.takeReply i d s).casc = s.casc ∧ (State.takeReply i d s).rst = s.rst ∧ (State.takeReply i d s).mem = s.mem ∧ (State.takeReply i d s).upd = s.upd := by
  unfold State.takeReply; (try dsimp only); (repeat' split) <;> simp

@[simp] theorem State.takeSlot_frame (j : Fin 4) (d : List Byte) (s : State) :
    (State.takeSlot j d s).pending = s.pending ∧ (State.takeSlot j d s).now = s.now ∧ (State.takeSlot j d s).free = s.free ∧ (State.takeSlot j d s).arch = s.arch ∧ (State.takeSlot j d s).pins = s.pins ∧ (State.takeSlot j d s).meas = s.meas ∧ (State.takeSlot j d s).lane = s.lane ∧ (State.takeSlot j d s).snap = s.snap ∧ (State.takeSlot j d s).phase = s.phase ∧ (State.takeSlot j d s).loop = s.loop ∧ (State.takeSlot j d s).dist = s.dist ∧ (State.takeSlot j d s).bat = s.bat ∧ (State.takeSlot j d s).seq = s.seq ∧ (State.takeSlot j d s).thm = s.thm ∧ (State.takeSlot j d s).eng = s.eng ∧ (State.takeSlot j d s).twin = s.twin ∧ (State.takeSlot j d s).casc = s.casc ∧ (State.takeSlot j d s).rst = s.rst ∧ (State.takeSlot j d s).mem = s.mem ∧ (State.takeSlot j d s).upd = s.upd := by
  unfold State.takeSlot; (try dsimp only); (repeat' split) <;> simp

@[simp] theorem State.takeHeld_frame  (s : State) :
    (State.takeHeld s).pending = s.pending ∧ (State.takeHeld s).now = s.now ∧ (State.takeHeld s).free = s.free ∧ (State.takeHeld s).arch = s.arch ∧ (State.takeHeld s).pins = s.pins ∧ (State.takeHeld s).meas = s.meas ∧ (State.takeHeld s).lane = s.lane ∧ (State.takeHeld s).snap = s.snap ∧ (State.takeHeld s).phase = s.phase ∧ (State.takeHeld s).loop = s.loop ∧ (State.takeHeld s).dist = s.dist ∧ (State.takeHeld s).bat = s.bat ∧ (State.takeHeld s).seq = s.seq ∧ (State.takeHeld s).thm = s.thm ∧ (State.takeHeld s).eng = s.eng ∧ (State.takeHeld s).twin = s.twin ∧ (State.takeHeld s).casc = s.casc ∧ (State.takeHeld s).rst = s.rst ∧ (State.takeHeld s).mem = s.mem ∧ (State.takeHeld s).upd = s.upd := by
  unfold State.takeHeld; (try dsimp only); (repeat' split) <;> simp

@[simp] theorem State.heldOver_frame  (s : State) :
    (State.heldOver s).pending = s.pending ∧ (State.heldOver s).now = s.now ∧ (State.heldOver s).free = s.free ∧ (State.heldOver s).arch = s.arch ∧ (State.heldOver s).pins = s.pins ∧ (State.heldOver s).meas = s.meas ∧ (State.heldOver s).lane = s.lane ∧ (State.heldOver s).snap = s.snap ∧ (State.heldOver s).phase = s.phase ∧ (State.heldOver s).loop = s.loop ∧ (State.heldOver s).dist = s.dist ∧ (State.heldOver s).bat = s.bat ∧ (State.heldOver s).seq = s.seq ∧ (State.heldOver s).thm = s.thm ∧ (State.heldOver s).eng = s.eng ∧ (State.heldOver s).twin = s.twin ∧ (State.heldOver s).casc = s.casc ∧ (State.heldOver s).rst = s.rst ∧ (State.heldOver s).mem = s.mem ∧ (State.heldOver s).upd = s.upd := by
  unfold State.heldOver; (try dsimp only); (repeat' split) <;> simp

@[simp] theorem State.slotIntake_frame (j : Fin 4) (s : State) :
    (State.slotIntake j s).pending = s.pending ∧ (State.slotIntake j s).now = s.now ∧ (State.slotIntake j s).timers = s.timers ∧ (State.slotIntake j s).free = s.free ∧ (State.slotIntake j s).arch = s.arch ∧ (State.slotIntake j s).pins = s.pins ∧ (State.slotIntake j s).tb = s.tb ∧ (State.slotIntake j s).meas = s.meas ∧ (State.slotIntake j s).lane = s.lane ∧ (State.slotIntake j s).snap = s.snap ∧ (State.slotIntake j s).phase = s.phase ∧ (State.slotIntake j s).loop = s.loop ∧ (State.slotIntake j s).dist = s.dist ∧ (State.slotIntake j s).bat = s.bat ∧ (State.slotIntake j s).seq = s.seq ∧ (State.slotIntake j s).thm = s.thm ∧ (State.slotIntake j s).eng = s.eng ∧ (State.slotIntake j s).net = s.net ∧ (State.slotIntake j s).twin = s.twin ∧ (State.slotIntake j s).casc = s.casc ∧ (State.slotIntake j s).rst = s.rst ∧ (State.slotIntake j s).mem = s.mem ∧ (State.slotIntake j s).evr = s.evr ∧ (State.slotIntake j s).upd = s.upd := by
  unfold State.slotIntake; (try dsimp only); (repeat' split) <;> simp

@[simp] theorem State.clip_frame (k : Fin 48) (s : State) :
    (State.clip k s).pending = s.pending ∧ (State.clip k s).now = s.now ∧ (State.clip k s).free = s.free ∧ (State.clip k s).arch = s.arch ∧ (State.clip k s).pins = s.pins ∧ (State.clip k s).tb = s.tb ∧ (State.clip k s).lane = s.lane ∧ (State.clip k s).snap = s.snap ∧ (State.clip k s).phase = s.phase ∧ (State.clip k s).loop = s.loop ∧ (State.clip k s).shelf = s.shelf ∧ (State.clip k s).dist = s.dist ∧ (State.clip k s).bat = s.bat ∧ (State.clip k s).seq = s.seq ∧ (State.clip k s).thm = s.thm ∧ (State.clip k s).eng = s.eng ∧ (State.clip k s).twin = s.twin ∧ (State.clip k s).casc = s.casc ∧ (State.clip k s).rst = s.rst ∧ (State.clip k s).mem = s.mem ∧ (State.clip k s).upd = s.upd := by
  unfold State.clip; (try dsimp only); (repeat' split) <;> simp

@[simp] theorem State.feedOutput_frame (p : Fin 2) (b : Bool) (v : Rat) (s : State) :
    (State.feedOutput p b v s).pending = s.pending ∧ (State.feedOutput p b v s).now = s.now ∧ (State.feedOutput p b v s).free = s.free ∧ (State.feedOutput p b v s).arch = s.arch ∧ (State.feedOutput p b v s).pins = s.pins ∧ (State.feedOutput p b v s).tb = s.tb ∧ (State.feedOutput p b v s).meas = s.meas ∧ (State.feedOutput p b v s).lane = s.lane ∧ (State.feedOutput p b v s).snap = s.snap ∧ (State.feedOutput p b v s).phase = s.phase ∧ (State.feedOutput p b v s).loop = s.loop ∧ (State.feedOutput p b v s).shelf = s.shelf ∧ (State.feedOutput p b v s).bat = s.bat ∧ (State.feedOutput p b v s).seq = s.seq ∧ (State.feedOutput p b v s).thm = s.thm ∧ (State.feedOutput p b v s).eng = s.eng ∧ (State.feedOutput p b v s).net = s.net ∧ (State.feedOutput p b v s).twin = s.twin ∧ (State.feedOutput p b v s).casc = s.casc ∧ (State.feedOutput p b v s).rst = s.rst ∧ (State.feedOutput p b v s).mem = s.mem ∧ (State.feedOutput p b v s).evr = s.evr ∧ (State.feedOutput p b v s).upd = s.upd := by
  unfold State.feedOutput; (try dsimp only); (repeat' split) <;> simp

@[simp] theorem State.feedOutputs_frame (k : Fin 48) (v : Rat) (s : State) :
    (State.feedOutputs k v s).pending = s.pending ∧ (State.feedOutputs k v s).now = s.now ∧ (State.feedOutputs k v s).free = s.free ∧ (State.feedOutputs k v s).arch = s.arch ∧ (State.feedOutputs k v s).pins = s.pins ∧ (State.feedOutputs k v s).tb = s.tb ∧ (State.feedOutputs k v s).meas = s.meas ∧ (State.feedOutputs k v s).lane = s.lane ∧ (State.feedOutputs k v s).snap = s.snap ∧ (State.feedOutputs k v s).phase = s.phase ∧ (State.feedOutputs k v s).loop = s.loop ∧ (State.feedOutputs k v s).shelf = s.shelf ∧ (State.feedOutputs k v s).bat = s.bat ∧ (State.feedOutputs k v s).seq = s.seq ∧ (State.feedOutputs k v s).thm = s.thm ∧ (State.feedOutputs k v s).eng = s.eng ∧ (State.feedOutputs k v s).net = s.net ∧ (State.feedOutputs k v s).twin = s.twin ∧ (State.feedOutputs k v s).casc = s.casc ∧ (State.feedOutputs k v s).rst = s.rst ∧ (State.feedOutputs k v s).mem = s.mem ∧ (State.feedOutputs k v s).evr = s.evr ∧ (State.feedOutputs k v s).upd = s.upd := by
  unfold State.feedOutputs; (try dsimp only); (repeat' split) <;> simp

@[simp] theorem State.output200_frame (k : Fin 48) (q : Rat) (s : State) :
    (State.output200 k q s).pending = s.pending ∧ (State.output200 k q s).now = s.now ∧ (State.output200 k q s).free = s.free ∧ (State.output200 k q s).arch = s.arch ∧ (State.output200 k q s).pins = s.pins ∧ (State.output200 k q s).tb = s.tb ∧ (State.output200 k q s).snap = s.snap ∧ (State.output200 k q s).phase = s.phase ∧ (State.output200 k q s).loop = s.loop ∧ (State.output200 k q s).bat = s.bat ∧ (State.output200 k q s).seq = s.seq ∧ (State.output200 k q s).thm = s.thm ∧ (State.output200 k q s).eng = s.eng ∧ (State.output200 k q s).net = s.net ∧ (State.output200 k q s).twin = s.twin ∧ (State.output200 k q s).casc = s.casc ∧ (State.output200 k q s).rst = s.rst ∧ (State.output200 k q s).mem = s.mem ∧ (State.output200 k q s).evr = s.evr ∧ (State.output200 k q s).upd = s.upd := by
  unfold State.output200; (try dsimp only); (repeat' split) <;> simp

@[simp] theorem State.output10_frame (k : Fin 48) (q : Rat) (s : State) :
    (State.output10 k q s).pending = s.pending ∧ (State.output10 k q s).now = s.now ∧ (State.output10 k q s).free = s.free ∧ (State.output10 k q s).arch = s.arch ∧ (State.output10 k q s).pins = s.pins ∧ (State.output10 k q s).tb = s.tb ∧ (State.output10 k q s).lane = s.lane ∧ (State.output10 k q s).snap = s.snap ∧ (State.output10 k q s).phase = s.phase ∧ (State.output10 k q s).loop = s.loop ∧ (State.output10 k q s).shelf = s.shelf ∧ (State.output10 k q s).dist = s.dist ∧ (State.output10 k q s).bat = s.bat ∧ (State.output10 k q s).seq = s.seq ∧ (State.output10 k q s).thm = s.thm ∧ (State.output10 k q s).eng = s.eng ∧ (State.output10 k q s).net = s.net ∧ (State.output10 k q s).twin = s.twin ∧ (State.output10 k q s).casc = s.casc ∧ (State.output10 k q s).rst = s.rst ∧ (State.output10 k q s).mem = s.mem ∧ (State.output10 k q s).evr = s.evr ∧ (State.output10 k q s).upd = s.upd := by
  unfold State.output10; (try dsimp only); (repeat' split) <;> simp

@[simp] theorem State.output1_frame (k : Fin 48) (v q : Rat) (s : State) :
    (State.output1 k v q s).pending = s.pending ∧ (State.output1 k v q s).now = s.now ∧ (State.output1 k v q s).free = s.free ∧ (State.output1 k v q s).arch = s.arch ∧ (State.output1 k v q s).pins = s.pins ∧ (State.output1 k v q s).tb = s.tb ∧ (State.output1 k v q s).lane = s.lane ∧ (State.output1 k v q s).snap = s.snap ∧ (State.output1 k v q s).phase = s.phase ∧ (State.output1 k v q s).dist = s.dist ∧ (State.output1 k v q s).bat = s.bat ∧ (State.output1 k v q s).seq = s.seq ∧ (State.output1 k v q s).thm = s.thm ∧ (State.output1 k v q s).eng = s.eng ∧ (State.output1 k v q s).net = s.net ∧ (State.output1 k v q s).twin = s.twin ∧ (State.output1 k v q s).casc = s.casc ∧ (State.output1 k v q s).rst = s.rst ∧ (State.output1 k v q s).mem = s.mem ∧ (State.output1 k v q s).evr = s.evr ∧ (State.output1 k v q s).upd = s.upd := by
  unfold State.output1; (try dsimp only); (repeat' split) <;> simp

@[simp] theorem State.takeRho_frame  (s : State) :
    (State.takeRho s).pending = s.pending ∧ (State.takeRho s).now = s.now ∧ (State.takeRho s).timers = s.timers ∧ (State.takeRho s).free = s.free ∧ (State.takeRho s).arch = s.arch ∧ (State.takeRho s).pins = s.pins ∧ (State.takeRho s).tb = s.tb ∧ (State.takeRho s).lane = s.lane ∧ (State.takeRho s).snap = s.snap ∧ (State.takeRho s).phase = s.phase ∧ (State.takeRho s).loop = s.loop ∧ (State.takeRho s).shelf = s.shelf ∧ (State.takeRho s).dist = s.dist ∧ (State.takeRho s).bat = s.bat ∧ (State.takeRho s).seq = s.seq ∧ (State.takeRho s).thm = s.thm ∧ (State.takeRho s).eng = s.eng ∧ (State.takeRho s).net = s.net ∧ (State.takeRho s).twin = s.twin ∧ (State.takeRho s).casc = s.casc ∧ (State.takeRho s).rst = s.rst ∧ (State.takeRho s).mem = s.mem ∧ (State.takeRho s).evr = s.evr ∧ (State.takeRho s).upd = s.upd := by
  unfold State.takeRho; (try dsimp only); (repeat' split) <;> simp

@[simp] theorem State.sensorRate_frame (k : Fin 16) (t : Rat) (s : State) :
    (State.sensorRate k t s).pending = s.pending ∧ (State.sensorRate k t s).now = s.now ∧ (State.sensorRate k t s).free = s.free ∧ (State.sensorRate k t s).arch = s.arch ∧ (State.sensorRate k t s).pins = s.pins ∧ (State.sensorRate k t s).tb = s.tb ∧ (State.sensorRate k t s).meas = s.meas ∧ (State.sensorRate k t s).lane = s.lane ∧ (State.sensorRate k t s).snap = s.snap ∧ (State.sensorRate k t s).phase = s.phase ∧ (State.sensorRate k t s).loop = s.loop ∧ (State.sensorRate k t s).shelf = s.shelf ∧ (State.sensorRate k t s).dist = s.dist ∧ (State.sensorRate k t s).bat = s.bat ∧ (State.sensorRate k t s).seq = s.seq ∧ (State.sensorRate k t s).eng = s.eng ∧ (State.sensorRate k t s).net = s.net ∧ (State.sensorRate k t s).twin = s.twin ∧ (State.sensorRate k t s).casc = s.casc ∧ (State.sensorRate k t s).rst = s.rst ∧ (State.sensorRate k t s).mem = s.mem ∧ (State.sensorRate k t s).evr = s.evr ∧ (State.sensorRate k t s).upd = s.upd := by
  unfold State.sensorRate; (try dsimp only); (repeat' split) <;> simp

@[simp] theorem State.sensorData_frame (k : Fin 16) (s : State) :
    (State.sensorData k s).pending = s.pending ∧ (State.sensorData k s).now = s.now ∧ (State.sensorData k s).timers = s.timers ∧ (State.sensorData k s).free = s.free ∧ (State.sensorData k s).arch = s.arch ∧ (State.sensorData k s).pins = s.pins ∧ (State.sensorData k s).lane = s.lane ∧ (State.sensorData k s).snap = s.snap ∧ (State.sensorData k s).phase = s.phase ∧ (State.sensorData k s).loop = s.loop ∧ (State.sensorData k s).shelf = s.shelf ∧ (State.sensorData k s).dist = s.dist ∧ (State.sensorData k s).bat = s.bat ∧ (State.sensorData k s).seq = s.seq ∧ (State.sensorData k s).thm = s.thm ∧ (State.sensorData k s).eng = s.eng ∧ (State.sensorData k s).net = s.net ∧ (State.sensorData k s).twin = s.twin ∧ (State.sensorData k s).casc = s.casc ∧ (State.sensorData k s).rst = s.rst ∧ (State.sensorData k s).mem = s.mem ∧ (State.sensorData k s).evr = s.evr ∧ (State.sensorData k s).upd = s.upd := by
  unfold State.sensorData; (try dsimp only); (repeat' split) <;> simp

@[simp] theorem State.takeReading_frame (k : Fin 16) (t : Rat) (good : Bool) (s : State) :
    (State.takeReading k t good s).pending = s.pending ∧ (State.takeReading k t good s).now = s.now ∧ (State.takeReading k t good s).free = s.free ∧ (State.takeReading k t good s).arch = s.arch ∧ (State.takeReading k t good s).pins = s.pins ∧ (State.takeReading k t good s).lane = s.lane ∧ (State.takeReading k t good s).snap = s.snap ∧ (State.takeReading k t good s).phase = s.phase ∧ (State.takeReading k t good s).loop = s.loop ∧ (State.takeReading k t good s).shelf = s.shelf ∧ (State.takeReading k t good s).dist = s.dist ∧ (State.takeReading k t good s).bat = s.bat ∧ (State.takeReading k t good s).seq = s.seq ∧ (State.takeReading k t good s).eng = s.eng ∧ (State.takeReading k t good s).net = s.net ∧ (State.takeReading k t good s).twin = s.twin ∧ (State.takeReading k t good s).casc = s.casc ∧ (State.takeReading k t good s).rst = s.rst ∧ (State.takeReading k t good s).mem = s.mem ∧ (State.takeReading k t good s).evr = s.evr ∧ (State.takeReading k t good s).upd = s.upd := by
  unfold State.takeReading; (try dsimp only); (repeat' split) <;> simp

@[simp] theorem State.setFactor_frame (j : Fin 8) (f : Rat) (s : State) :
    (State.setFactor j f s).pending = s.pending ∧ (State.setFactor j f s).now = s.now ∧ (State.setFactor j f s).timers = s.timers ∧ (State.setFactor j f s).free = s.free ∧ (State.setFactor j f s).arch = s.arch ∧ (State.setFactor j f s).pins = s.pins ∧ (State.setFactor j f s).tb = s.tb ∧ (State.setFactor j f s).meas = s.meas ∧ (State.setFactor j f s).lane = s.lane ∧ (State.setFactor j f s).snap = s.snap ∧ (State.setFactor j f s).phase = s.phase ∧ (State.setFactor j f s).loop = s.loop ∧ (State.setFactor j f s).shelf = s.shelf ∧ (State.setFactor j f s).dist = s.dist ∧ (State.setFactor j f s).bat = s.bat ∧ (State.setFactor j f s).seq = s.seq ∧ (State.setFactor j f s).eng = s.eng ∧ (State.setFactor j f s).net = s.net ∧ (State.setFactor j f s).twin = s.twin ∧ (State.setFactor j f s).casc = s.casc ∧ (State.setFactor j f s).rst = s.rst ∧ (State.setFactor j f s).mem = s.mem ∧ (State.setFactor j f s).evr = s.evr ∧ (State.setFactor j f s).upd = s.upd := by
  unfold State.setFactor; (try dsimp only); (repeat' split) <;> simp

@[simp] theorem State.stepDown_frame (j : Fin 8) (s : State) :
    (State.stepDown j s).pending = s.pending ∧ (State.stepDown j s).now = s.now ∧ (State.stepDown j s).free = s.free ∧ (State.stepDown j s).arch = s.arch ∧ (State.stepDown j s).pins = s.pins ∧ (State.stepDown j s).tb = s.tb ∧ (State.stepDown j s).meas = s.meas ∧ (State.stepDown j s).lane = s.lane ∧ (State.stepDown j s).snap = s.snap ∧ (State.stepDown j s).phase = s.phase ∧ (State.stepDown j s).loop = s.loop ∧ (State.stepDown j s).shelf = s.shelf ∧ (State.stepDown j s).dist = s.dist ∧ (State.stepDown j s).bat = s.bat ∧ (State.stepDown j s).seq = s.seq ∧ (State.stepDown j s).eng = s.eng ∧ (State.stepDown j s).twin = s.twin ∧ (State.stepDown j s).casc = s.casc ∧ (State.stepDown j s).rst = s.rst ∧ (State.stepDown j s).mem = s.mem ∧ (State.stepDown j s).upd = s.upd := by
  unfold State.stepDown; (try dsimp only); (repeat' split) <;> simp

@[simp] theorem State.trackFactor_frame (j : Fin 8) (f : Rat) (s : State) :
    (State.trackFactor j f s).pending = s.pending ∧ (State.trackFactor j f s).now = s.now ∧ (State.trackFactor j f s).free = s.free ∧ (State.trackFactor j f s).arch = s.arch ∧ (State.trackFactor j f s).pins = s.pins ∧ (State.trackFactor j f s).tb = s.tb ∧ (State.trackFactor j f s).meas = s.meas ∧ (State.trackFactor j f s).lane = s.lane ∧ (State.trackFactor j f s).snap = s.snap ∧ (State.trackFactor j f s).phase = s.phase ∧ (State.trackFactor j f s).loop = s.loop ∧ (State.trackFactor j f s).shelf = s.shelf ∧ (State.trackFactor j f s).dist = s.dist ∧ (State.trackFactor j f s).bat = s.bat ∧ (State.trackFactor j f s).seq = s.seq ∧ (State.trackFactor j f s).eng = s.eng ∧ (State.trackFactor j f s).net = s.net ∧ (State.trackFactor j f s).twin = s.twin ∧ (State.trackFactor j f s).casc = s.casc ∧ (State.trackFactor j f s).rst = s.rst ∧ (State.trackFactor j f s).mem = s.mem ∧ (State.trackFactor j f s).evr = s.evr ∧ (State.trackFactor j f s).upd = s.upd := by
  unfold State.trackFactor; (try dsimp only); (repeat' split) <;> simp

@[simp] theorem State.throttleOn_frame (k : Fin 16) (s : State) :
    (State.throttleOn k s).pending = s.pending ∧ (State.throttleOn k s).now = s.now ∧ (State.throttleOn k s).free = s.free ∧ (State.throttleOn k s).arch = s.arch ∧ (State.throttleOn k s).pins = s.pins ∧ (State.throttleOn k s).tb = s.tb ∧ (State.throttleOn k s).meas = s.meas ∧ (State.throttleOn k s).lane = s.lane ∧ (State.throttleOn k s).snap = s.snap ∧ (State.throttleOn k s).phase = s.phase ∧ (State.throttleOn k s).loop = s.loop ∧ (State.throttleOn k s).shelf = s.shelf ∧ (State.throttleOn k s).dist = s.dist ∧ (State.throttleOn k s).bat = s.bat ∧ (State.throttleOn k s).seq = s.seq ∧ (State.throttleOn k s).eng = s.eng ∧ (State.throttleOn k s).twin = s.twin ∧ (State.throttleOn k s).casc = s.casc ∧ (State.throttleOn k s).rst = s.rst ∧ (State.throttleOn k s).mem = s.mem ∧ (State.throttleOn k s).upd = s.upd := by
  unfold State.throttleOn; (try dsimp only); (repeat' split) <;> simp

@[simp] theorem State.throttleOff_frame (k : Fin 16) (s : State) :
    (State.throttleOff k s).pending = s.pending ∧ (State.throttleOff k s).now = s.now ∧ (State.throttleOff k s).free = s.free ∧ (State.throttleOff k s).arch = s.arch ∧ (State.throttleOff k s).pins = s.pins ∧ (State.throttleOff k s).tb = s.tb ∧ (State.throttleOff k s).meas = s.meas ∧ (State.throttleOff k s).lane = s.lane ∧ (State.throttleOff k s).snap = s.snap ∧ (State.throttleOff k s).phase = s.phase ∧ (State.throttleOff k s).loop = s.loop ∧ (State.throttleOff k s).shelf = s.shelf ∧ (State.throttleOff k s).dist = s.dist ∧ (State.throttleOff k s).bat = s.bat ∧ (State.throttleOff k s).seq = s.seq ∧ (State.throttleOff k s).eng = s.eng ∧ (State.throttleOff k s).net = s.net ∧ (State.throttleOff k s).twin = s.twin ∧ (State.throttleOff k s).casc = s.casc ∧ (State.throttleOff k s).rst = s.rst ∧ (State.throttleOff k s).mem = s.mem ∧ (State.throttleOff k s).evr = s.evr ∧ (State.throttleOff k s).upd = s.upd := by
  unfold State.throttleOff; (try dsimp only); (repeat' split) <;> simp

@[simp] theorem State.warnOn_frame (k : Fin 16) (s : State) :
    (State.warnOn k s).pending = s.pending ∧ (State.warnOn k s).now = s.now ∧ (State.warnOn k s).free = s.free ∧ (State.warnOn k s).arch = s.arch ∧ (State.warnOn k s).pins = s.pins ∧ (State.warnOn k s).tb = s.tb ∧ (State.warnOn k s).meas = s.meas ∧ (State.warnOn k s).lane = s.lane ∧ (State.warnOn k s).snap = s.snap ∧ (State.warnOn k s).phase = s.phase ∧ (State.warnOn k s).loop = s.loop ∧ (State.warnOn k s).shelf = s.shelf ∧ (State.warnOn k s).dist = s.dist ∧ (State.warnOn k s).bat = s.bat ∧ (State.warnOn k s).seq = s.seq ∧ (State.warnOn k s).eng = s.eng ∧ (State.warnOn k s).twin = s.twin ∧ (State.warnOn k s).casc = s.casc ∧ (State.warnOn k s).rst = s.rst ∧ (State.warnOn k s).mem = s.mem ∧ (State.warnOn k s).upd = s.upd := by
  unfold State.warnOn; (try dsimp only); (repeat' split) <;> simp

@[simp] theorem State.autoStart_frame  (s : State) :
    (State.autoStart s).pending = s.pending ∧ (State.autoStart s).now = s.now ∧ (State.autoStart s).timers = s.timers ∧ (State.autoStart s).free = s.free ∧ (State.autoStart s).arch = s.arch ∧ (State.autoStart s).pins = s.pins ∧ (State.autoStart s).tb = s.tb ∧ (State.autoStart s).meas = s.meas ∧ (State.autoStart s).lane = s.lane ∧ (State.autoStart s).snap = s.snap ∧ (State.autoStart s).phase = s.phase ∧ (State.autoStart s).loop = s.loop ∧ (State.autoStart s).shelf = s.shelf ∧ (State.autoStart s).dist = s.dist ∧ (State.autoStart s).bat = s.bat ∧ (State.autoStart s).thm = s.thm ∧ (State.autoStart s).eng = s.eng ∧ (State.autoStart s).net = s.net ∧ (State.autoStart s).twin = s.twin ∧ (State.autoStart s).casc = s.casc ∧ (State.autoStart s).rst = s.rst ∧ (State.autoStart s).mem = s.mem ∧ (State.autoStart s).evr = s.evr ∧ (State.autoStart s).upd = s.upd := by
  unfold State.autoStart; (try dsimp only); (repeat' split) <;> simp

@[simp] theorem State.lockoutClear_frame (k : Fin 16) (s : State) :
    (State.lockoutClear k s).pending = s.pending ∧ (State.lockoutClear k s).now = s.now ∧ (State.lockoutClear k s).timers = s.timers ∧ (State.lockoutClear k s).free = s.free ∧ (State.lockoutClear k s).arch = s.arch ∧ (State.lockoutClear k s).pins = s.pins ∧ (State.lockoutClear k s).tb = s.tb ∧ (State.lockoutClear k s).meas = s.meas ∧ (State.lockoutClear k s).lane = s.lane ∧ (State.lockoutClear k s).snap = s.snap ∧ (State.lockoutClear k s).phase = s.phase ∧ (State.lockoutClear k s).loop = s.loop ∧ (State.lockoutClear k s).shelf = s.shelf ∧ (State.lockoutClear k s).dist = s.dist ∧ (State.lockoutClear k s).bat = s.bat ∧ (State.lockoutClear k s).eng = s.eng ∧ (State.lockoutClear k s).net = s.net ∧ (State.lockoutClear k s).twin = s.twin ∧ (State.lockoutClear k s).casc = s.casc ∧ (State.lockoutClear k s).rst = s.rst ∧ (State.lockoutClear k s).mem = s.mem ∧ (State.lockoutClear k s).evr = s.evr ∧ (State.lockoutClear k s).upd = s.upd := by
  unfold State.lockoutClear; (try dsimp only); (repeat' split) <;> simp

@[simp] theorem State.sensorLost_frame (k : Fin 16) (s : State) :
    (State.sensorLost k s).pending = s.pending ∧ (State.sensorLost k s).now = s.now ∧ (State.sensorLost k s).free = s.free ∧ (State.sensorLost k s).arch = s.arch ∧ (State.sensorLost k s).pins = s.pins ∧ (State.sensorLost k s).lane = s.lane ∧ (State.sensorLost k s).snap = s.snap ∧ (State.sensorLost k s).phase = s.phase ∧ (State.sensorLost k s).loop = s.loop ∧ (State.sensorLost k s).shelf = s.shelf ∧ (State.sensorLost k s).dist = s.dist ∧ (State.sensorLost k s).bat = s.bat ∧ (State.sensorLost k s).seq = s.seq ∧ (State.sensorLost k s).thm = s.thm ∧ (State.sensorLost k s).eng = s.eng ∧ (State.sensorLost k s).twin = s.twin ∧ (State.sensorLost k s).casc = s.casc ∧ (State.sensorLost k s).rst = s.rst ∧ (State.sensorLost k s).mem = s.mem ∧ (State.sensorLost k s).upd = s.upd := by
  unfold State.sensorLost; (try dsimp only); (repeat' split) <;> simp

@[simp] theorem State.startTpdos_frame (p : Fin 2) (s : State) :
    (State.startTpdos p s).pending = s.pending ∧ (State.startTpdos p s).now = s.now ∧ (State.startTpdos p s).free = s.free ∧ (State.startTpdos p s).arch = s.arch ∧ (State.startTpdos p s).pins = s.pins ∧ (State.startTpdos p s).tb = s.tb ∧ (State.startTpdos p s).meas = s.meas ∧ (State.startTpdos p s).lane = s.lane ∧ (State.startTpdos p s).snap = s.snap ∧ (State.startTpdos p s).phase = s.phase ∧ (State.startTpdos p s).loop = s.loop ∧ (State.startTpdos p s).shelf = s.shelf ∧ (State.startTpdos p s).dist = s.dist ∧ (State.startTpdos p s).bat = s.bat ∧ (State.startTpdos p s).seq = s.seq ∧ (State.startTpdos p s).thm = s.thm ∧ (State.startTpdos p s).eng = s.eng ∧ (State.startTpdos p s).net = s.net ∧ (State.startTpdos p s).twin = s.twin ∧ (State.startTpdos p s).casc = s.casc ∧ (State.startTpdos p s).rst = s.rst ∧ (State.startTpdos p s).mem = s.mem ∧ (State.startTpdos p s).evr = s.evr ∧ (State.startTpdos p s).upd = s.upd := by
  unfold State.startTpdos; (try dsimp only); (repeat' split) <;> simp

@[simp] theorem State.stopTpdos_frame (p : Fin 2) (s : State) :
    (State.stopTpdos p s).pending = s.pending ∧ (State.stopTpdos p s).now = s.now ∧ (State.stopTpdos p s).free = s.free ∧ (State.stopTpdos p s).arch = s.arch ∧ (State.stopTpdos p s).pins = s.pins ∧ (State.stopTpdos p s).tb = s.tb ∧ (State.stopTpdos p s).meas = s.meas ∧ (State.stopTpdos p s).lane = s.lane ∧ (State.stopTpdos p s).snap = s.snap ∧ (State.stopTpdos p s).phase = s.phase ∧ (State.stopTpdos p s).loop = s.loop ∧ (State.stopTpdos p s).shelf = s.shelf ∧ (State.stopTpdos p s).dist = s.dist ∧ (State.stopTpdos p s).bat = s.bat ∧ (State.stopTpdos p s).seq = s.seq ∧ (State.stopTpdos p s).thm = s.thm ∧ (State.stopTpdos p s).eng = s.eng ∧ (State.stopTpdos p s).net = s.net ∧ (State.stopTpdos p s).twin = s.twin ∧ (State.stopTpdos p s).casc = s.casc ∧ (State.stopTpdos p s).rst = s.rst ∧ (State.stopTpdos p s).mem = s.mem ∧ (State.stopTpdos p s).evr = s.evr ∧ (State.stopTpdos p s).upd = s.upd := by
  unfold State.stopTpdos; (try dsimp only); (repeat' split) <;> simp

@[simp] theorem State.startHeartbeat_frame (p : Fin 2) (s : State) :
    (State.startHeartbeat p s).pending = s.pending ∧ (State.startHeartbeat p s).now = s.now ∧ (State.startHeartbeat p s).free = s.free ∧ (State.startHeartbeat p s).arch = s.arch ∧ (State.startHeartbeat p s).pins = s.pins ∧ (State.startHeartbeat p s).tb = s.tb ∧ (State.startHeartbeat p s).meas = s.meas ∧ (State.startHeartbeat p s).lane = s.lane ∧ (State.startHeartbeat p s).snap = s.snap ∧ (State.startHeartbeat p s).phase = s.phase ∧ (State.startHeartbeat p s).loop = s.loop ∧ (State.startHeartbeat p s).shelf = s.shelf ∧ (State.startHeartbeat p s).dist = s.dist ∧ (State.startHeartbeat p s).bat = s.bat ∧ (State.startHeartbeat p s).seq = s.seq ∧ (State.startHeartbeat p s).thm = s.thm ∧ (State.startHeartbeat p s).eng = s.eng ∧ (State.startHeartbeat p s).net = s.net ∧ (State.startHeartbeat p s).twin = s.twin ∧ (State.startHeartbeat p s).casc = s.casc ∧ (State.startHeartbeat p s).rst = s.rst ∧ (State.startHeartbeat p s).mem = s.mem ∧ (State.startHeartbeat p s).evr = s.evr ∧ (State.startHeartbeat p s).upd = s.upd := by
  unfold State.startHeartbeat; (try dsimp only); (repeat' split) <;> simp

@[simp] theorem State.portOperational_frame (p : Fin 2) (s : State) :
    (State.portOperational p s).pending = s.pending ∧ (State.portOperational p s).now = s.now ∧ (State.portOperational p s).free = s.free ∧ (State.portOperational p s).arch = s.arch ∧ (State.portOperational p s).pins = s.pins ∧ (State.portOperational p s).tb = s.tb ∧ (State.portOperational p s).meas = s.meas ∧ (State.portOperational p s).lane = s.lane ∧ (State.portOperational p s).snap = s.snap ∧ (State.portOperational p s).phase = s.phase ∧ (State.portOperational p s).loop = s.loop ∧ (State.portOperational p s).shelf = s.shelf ∧ (State.portOperational p s).dist = s.dist ∧ (State.portOperational p s).bat = s.bat ∧ (State.portOperational p s).seq = s.seq ∧ (State.portOperational p s).thm = s.thm ∧ (State.portOperational p s).eng = s.eng ∧ (State.portOperational p s).twin = s.twin ∧ (State.portOperational p s).casc = s.casc ∧ (State.portOperational p s).rst = s.rst ∧ (State.portOperational p s).mem = s.mem ∧ (State.portOperational p s).evr = s.evr ∧ (State.portOperational p s).upd = s.upd := by
  unfold State.portOperational; (try dsimp only); (repeat' split) <;> simp

@[simp] theorem State.portTo_frame (p : Fin 2) (n : Nmt) (s : State) :
    (State.portTo p n s).pending = s.pending ∧ (State.portTo p n s).now = s.now ∧ (State.portTo p n s).free = s.free ∧ (State.portTo p n s).arch = s.arch ∧ (State.portTo p n s).pins = s.pins ∧ (State.portTo p n s).tb = s.tb ∧ (State.portTo p n s).meas = s.meas ∧ (State.portTo p n s).lane = s.lane ∧ (State.portTo p n s).snap = s.snap ∧ (State.portTo p n s).phase = s.phase ∧ (State.portTo p n s).loop = s.loop ∧ (State.portTo p n s).shelf = s.shelf ∧ (State.portTo p n s).dist = s.dist ∧ (State.portTo p n s).bat = s.bat ∧ (State.portTo p n s).seq = s.seq ∧ (State.portTo p n s).thm = s.thm ∧ (State.portTo p n s).eng = s.eng ∧ (State.portTo p n s).twin = s.twin ∧ (State.portTo p n s).casc = s.casc ∧ (State.portTo p n s).rst = s.rst ∧ (State.portTo p n s).mem = s.mem ∧ (State.portTo p n s).evr = s.evr ∧ (State.portTo p n s).upd = s.upd := by
  unfold State.portTo; (try dsimp only); (repeat' split) <;> simp

@[simp] theorem State.bootUp_frame (p : Fin 2) (s : State) :
    (State.bootUp p s).pending = s.pending ∧ (State.bootUp p s).now = s.now ∧ (State.bootUp p s).free = s.free ∧ (State.bootUp p s).arch = s.arch ∧ (State.bootUp p s).pins = s.pins ∧ (State.bootUp p s).tb = s.tb ∧ (State.bootUp p s).meas = s.meas ∧ (State.bootUp p s).lane = s.lane ∧ (State.bootUp p s).snap = s.snap ∧ (State.bootUp p s).phase = s.phase ∧ (State.bootUp p s).loop = s.loop ∧ (State.bootUp p s).shelf = s.shelf ∧ (State.bootUp p s).dist = s.dist ∧ (State.bootUp p s).bat = s.bat ∧ (State.bootUp p s).seq = s.seq ∧ (State.bootUp p s).thm = s.thm ∧ (State.bootUp p s).eng = s.eng ∧ (State.bootUp p s).twin = s.twin ∧ (State.bootUp p s).casc = s.casc ∧ (State.bootUp p s).rst = s.rst ∧ (State.bootUp p s).mem = s.mem ∧ (State.bootUp p s).evr = s.evr ∧ (State.bootUp p s).upd = s.upd := by
  unfold State.bootUp; (try dsimp only); (repeat' split) <;> simp

@[simp] theorem State.portStart_frame (p : Fin 2) (s : State) :
    (State.portStart p s).pending = s.pending ∧ (State.portStart p s).now = s.now ∧ (State.portStart p s).free = s.free ∧ (State.portStart p s).arch = s.arch ∧ (State.portStart p s).pins = s.pins ∧ (State.portStart p s).tb = s.tb ∧ (State.portStart p s).meas = s.meas ∧ (State.portStart p s).lane = s.lane ∧ (State.portStart p s).snap = s.snap ∧ (State.portStart p s).phase = s.phase ∧ (State.portStart p s).loop = s.loop ∧ (State.portStart p s).shelf = s.shelf ∧ (State.portStart p s).dist = s.dist ∧ (State.portStart p s).bat = s.bat ∧ (State.portStart p s).seq = s.seq ∧ (State.portStart p s).thm = s.thm ∧ (State.portStart p s).eng = s.eng ∧ (State.portStart p s).twin = s.twin ∧ (State.portStart p s).casc = s.casc ∧ (State.portStart p s).rst = s.rst ∧ (State.portStart p s).mem = s.mem ∧ (State.portStart p s).evr = s.evr ∧ (State.portStart p s).upd = s.upd := by
  unfold State.portStart; (try dsimp only); (repeat' split) <;> simp

@[simp] theorem State.portStop_frame (p : Fin 2) (s : State) :
    (State.portStop p s).pending = s.pending ∧ (State.portStop p s).now = s.now ∧ (State.portStop p s).free = s.free ∧ (State.portStop p s).arch = s.arch ∧ (State.portStop p s).pins = s.pins ∧ (State.portStop p s).tb = s.tb ∧ (State.portStop p s).meas = s.meas ∧ (State.portStop p s).lane = s.lane ∧ (State.portStop p s).snap = s.snap ∧ (State.portStop p s).phase = s.phase ∧ (State.portStop p s).loop = s.loop ∧ (State.portStop p s).shelf = s.shelf ∧ (State.portStop p s).dist = s.dist ∧ (State.portStop p s).bat = s.bat ∧ (State.portStop p s).seq = s.seq ∧ (State.portStop p s).thm = s.thm ∧ (State.portStop p s).eng = s.eng ∧ (State.portStop p s).twin = s.twin ∧ (State.portStop p s).casc = s.casc ∧ (State.portStop p s).rst = s.rst ∧ (State.portStop p s).mem = s.mem ∧ (State.portStop p s).upd = s.upd := by
  unfold State.portStop; (try dsimp only); (repeat' split) <;> simp

@[simp] theorem State.planSpur_frame  (s : State) :
    (State.planSpur s).pending = s.pending ∧ (State.planSpur s).now = s.now ∧ (State.planSpur s).timers = s.timers ∧ (State.planSpur s).free = s.free ∧ (State.planSpur s).arch = s.arch ∧ (State.planSpur s).pins = s.pins ∧ (State.planSpur s).meas = s.meas ∧ (State.planSpur s).lane = s.lane ∧ (State.planSpur s).snap = s.snap ∧ (State.planSpur s).phase = s.phase ∧ (State.planSpur s).loop = s.loop ∧ (State.planSpur s).dist = s.dist ∧ (State.planSpur s).bat = s.bat ∧ (State.planSpur s).seq = s.seq ∧ (State.planSpur s).thm = s.thm ∧ (State.planSpur s).eng = s.eng ∧ (State.planSpur s).net = s.net ∧ (State.planSpur s).twin = s.twin ∧ (State.planSpur s).casc = s.casc ∧ (State.planSpur s).rst = s.rst ∧ (State.planSpur s).mem = s.mem ∧ (State.planSpur s).evr = s.evr ∧ (State.planSpur s).upd = s.upd := by
  unfold State.planSpur; (try dsimp only); (repeat' split) <;> simp

@[simp] theorem State.planIdle_frame (whole : Cfg) (s : State) :
    (State.planIdle whole s).pending = s.pending ∧ (State.planIdle whole s).now = s.now ∧ (State.planIdle whole s).timers = s.timers ∧ (State.planIdle whole s).free = s.free ∧ (State.planIdle whole s).arch = s.arch ∧ (State.planIdle whole s).pins = s.pins ∧ (State.planIdle whole s).meas = s.meas ∧ (State.planIdle whole s).lane = s.lane ∧ (State.planIdle whole s).snap = s.snap ∧ (State.planIdle whole s).phase = s.phase ∧ (State.planIdle whole s).loop = s.loop ∧ (State.planIdle whole s).shelf = s.shelf ∧ (State.planIdle whole s).dist = s.dist ∧ (State.planIdle whole s).bat = s.bat ∧ (State.planIdle whole s).seq = s.seq ∧ (State.planIdle whole s).thm = s.thm ∧ (State.planIdle whole s).eng = s.eng ∧ (State.planIdle whole s).net = s.net ∧ (State.planIdle whole s).twin = s.twin ∧ (State.planIdle whole s).casc = s.casc ∧ (State.planIdle whole s).rst = s.rst ∧ (State.planIdle whole s).mem = s.mem ∧ (State.planIdle whole s).evr = s.evr ∧ (State.planIdle whole s).upd = s.upd := by
  unfold State.planIdle; (try dsimp only); (repeat' split) <;> simp

@[simp] theorem State.applyTimebase_frame (old : Cfg) (s : State) :
    (State.applyTimebase old s).pending = s.pending ∧ (State.applyTimebase old s).now = s.now ∧ (State.applyTimebase old s).free = s.free ∧ (State.applyTimebase old s).arch = s.arch ∧ (State.applyTimebase old s).pins = s.pins ∧ (State.applyTimebase old s).meas = s.meas ∧ (State.applyTimebase old s).lane = s.lane ∧ (State.applyTimebase old s).snap = s.snap ∧ (State.applyTimebase old s).phase = s.phase ∧ (State.applyTimebase old s).loop = s.loop ∧ (State.applyTimebase old s).shelf = s.shelf ∧ (State.applyTimebase old s).dist = s.dist ∧ (State.applyTimebase old s).seq = s.seq ∧ (State.applyTimebase old s).thm = s.thm ∧ (State.applyTimebase old s).eng = s.eng ∧ (State.applyTimebase old s).twin = s.twin ∧ (State.applyTimebase old s).casc = s.casc ∧ (State.applyTimebase old s).rst = s.rst ∧ (State.applyTimebase old s).mem = s.mem ∧ (State.applyTimebase old s).upd = s.upd := by
  unfold State.applyTimebase; (try dsimp only); (repeat' split) <;> simp

@[simp] theorem State.rangeChanged_frame (k : Fin 48) (s : State) :
    (State.rangeChanged k s).pending = s.pending ∧ (State.rangeChanged k s).now = s.now ∧ (State.rangeChanged k s).free = s.free ∧ (State.rangeChanged k s).arch = s.arch ∧ (State.rangeChanged k s).pins = s.pins ∧ (State.rangeChanged k s).tb = s.tb ∧ (State.rangeChanged k s).lane = s.lane ∧ (State.rangeChanged k s).snap = s.snap ∧ (State.rangeChanged k s).phase = s.phase ∧ (State.rangeChanged k s).loop = s.loop ∧ (State.rangeChanged k s).shelf = s.shelf ∧ (State.rangeChanged k s).dist = s.dist ∧ (State.rangeChanged k s).bat = s.bat ∧ (State.rangeChanged k s).seq = s.seq ∧ (State.rangeChanged k s).thm = s.thm ∧ (State.rangeChanged k s).eng = s.eng ∧ (State.rangeChanged k s).net = s.net ∧ (State.rangeChanged k s).twin = s.twin ∧ (State.rangeChanged k s).casc = s.casc ∧ (State.rangeChanged k s).rst = s.rst ∧ (State.rangeChanged k s).mem = s.mem ∧ (State.rangeChanged k s).evr = s.evr ∧ (State.rangeChanged k s).upd = s.upd := by
  unfold State.rangeChanged; (try dsimp only); (repeat' split) <;> simp

@[simp] theorem State.userCalibrated_frame (k : Fin 48) (s : State) :
    (State.userCalibrated k s).pending = s.pending ∧ (State.userCalibrated k s).now = s.now ∧ (State.userCalibrated k s).timers = s.timers ∧ (State.userCalibrated k s).free = s.free ∧ (State.userCalibrated k s).arch = s.arch ∧ (State.userCalibrated k s).pins = s.pins ∧ (State.userCalibrated k s).tb = s.tb ∧ (State.userCalibrated k s).lane = s.lane ∧ (State.userCalibrated k s).snap = s.snap ∧ (State.userCalibrated k s).phase = s.phase ∧ (State.userCalibrated k s).loop = s.loop ∧ (State.userCalibrated k s).shelf = s.shelf ∧ (State.userCalibrated k s).dist = s.dist ∧ (State.userCalibrated k s).bat = s.bat ∧ (State.userCalibrated k s).seq = s.seq ∧ (State.userCalibrated k s).thm = s.thm ∧ (State.userCalibrated k s).eng = s.eng ∧ (State.userCalibrated k s).net = s.net ∧ (State.userCalibrated k s).twin = s.twin ∧ (State.userCalibrated k s).casc = s.casc ∧ (State.userCalibrated k s).rst = s.rst ∧ (State.userCalibrated k s).mem = s.mem ∧ (State.userCalibrated k s).evr = s.evr ∧ (State.userCalibrated k s).upd = s.upd := by
  unfold State.userCalibrated; (try dsimp only); (repeat' split) <;> simp

@[simp] theorem State.calRecords_frame (old : Cfg) (s : State) :
    (State.calRecords old s).pending = s.pending ∧ (State.calRecords old s).now = s.now ∧ (State.calRecords old s).timers = s.timers ∧ (State.calRecords old s).free = s.free ∧ (State.calRecords old s).arch = s.arch ∧ (State.calRecords old s).pins = s.pins ∧ (State.calRecords old s).tb = s.tb ∧ (State.calRecords old s).lane = s.lane ∧ (State.calRecords old s).snap = s.snap ∧ (State.calRecords old s).phase = s.phase ∧ (State.calRecords old s).loop = s.loop ∧ (State.calRecords old s).shelf = s.shelf ∧ (State.calRecords old s).dist = s.dist ∧ (State.calRecords old s).bat = s.bat ∧ (State.calRecords old s).seq = s.seq ∧ (State.calRecords old s).thm = s.thm ∧ (State.calRecords old s).eng = s.eng ∧ (State.calRecords old s).net = s.net ∧ (State.calRecords old s).twin = s.twin ∧ (State.calRecords old s).casc = s.casc ∧ (State.calRecords old s).rst = s.rst ∧ (State.calRecords old s).mem = s.mem ∧ (State.calRecords old s).evr = s.evr ∧ (State.calRecords old s).upd = s.upd := by
  unfold State.calRecords; (try dsimp only); (repeat' split) <;> simp

@[simp] theorem State.applyMeasure_frame (old : Cfg) (s : State) :
    (State.applyMeasure old s).pending = s.pending ∧ (State.applyMeasure old s).now = s.now ∧ (State.applyMeasure old s).free = s.free ∧ (State.applyMeasure old s).arch = s.arch ∧ (State.applyMeasure old s).pins = s.pins ∧ (State.applyMeasure old s).tb = s.tb ∧ (State.applyMeasure old s).lane = s.lane ∧ (State.applyMeasure old s).snap = s.snap ∧ (State.applyMeasure old s).loop = s.loop ∧ (State.applyMeasure old s).shelf = s.shelf ∧ (State.applyMeasure old s).dist = s.dist ∧ (State.applyMeasure old s).bat = s.bat ∧ (State.applyMeasure old s).seq = s.seq ∧ (State.applyMeasure old s).thm = s.thm ∧ (State.applyMeasure old s).eng = s.eng ∧ (State.applyMeasure old s).net = s.net ∧ (State.applyMeasure old s).twin = s.twin ∧ (State.applyMeasure old s).casc = s.casc ∧ (State.applyMeasure old s).rst = s.rst ∧ (State.applyMeasure old s).mem = s.mem ∧ (State.applyMeasure old s).evr = s.evr ∧ (State.applyMeasure old s).upd = s.upd := by
  unfold State.applyMeasure; (try dsimp only); (repeat' split) <;> simp

@[simp] theorem State.resense_frame (vals : List (Nat × Nat)) (k : Fin 16) (s : State) :
    (State.resense vals k s).pending = s.pending ∧ (State.resense vals k s).now = s.now ∧ (State.resense vals k s).free = s.free ∧ (State.resense vals k s).arch = s.arch ∧ (State.resense vals k s).pins = s.pins ∧ (State.resense vals k s).tb = s.tb ∧ (State.resense vals k s).meas = s.meas ∧ (State.resense vals k s).lane = s.lane ∧ (State.resense vals k s).snap = s.snap ∧ (State.resense vals k s).phase = s.phase ∧ (State.resense vals k s).loop = s.loop ∧ (State.resense vals k s).shelf = s.shelf ∧ (State.resense vals k s).dist = s.dist ∧ (State.resense vals k s).bat = s.bat ∧ (State.resense vals k s).seq = s.seq ∧ (State.resense vals k s).eng = s.eng ∧ (State.resense vals k s).net = s.net ∧ (State.resense vals k s).twin = s.twin ∧ (State.resense vals k s).casc = s.casc ∧ (State.resense vals k s).rst = s.rst ∧ (State.resense vals k s).mem = s.mem ∧ (State.resense vals k s).evr = s.evr ∧ (State.resense vals k s).upd = s.upd := by
  unfold State.resense; (try dsimp only); (repeat' split) <;> simp

@[simp] theorem State.applyThermal_frame (vals : List (Nat × Nat)) (s : State) :
    (State.applyThermal vals s).pending = s.pending ∧ (State.applyThermal vals s).now = s.now ∧ (State.applyThermal vals s).free = s.free ∧ (State.applyThermal vals s).arch = s.arch ∧ (State.applyThermal vals s).pins = s.pins ∧ (State.applyThermal vals s).tb = s.tb ∧ (State.applyThermal vals s).meas = s.meas ∧ (State.applyThermal vals s).lane = s.lane ∧ (State.applyThermal vals s).snap = s.snap ∧ (State.applyThermal vals s).phase = s.phase ∧ (State.applyThermal vals s).loop = s.loop ∧ (State.applyThermal vals s).shelf = s.shelf ∧ (State.applyThermal vals s).dist = s.dist ∧ (State.applyThermal vals s).bat = s.bat ∧ (State.applyThermal vals s).seq = s.seq ∧ (State.applyThermal vals s).eng = s.eng ∧ (State.applyThermal vals s).twin = s.twin ∧ (State.applyThermal vals s).casc = s.casc ∧ (State.applyThermal vals s).rst = s.rst ∧ (State.applyThermal vals s).mem = s.mem ∧ (State.applyThermal vals s).upd = s.upd := by
  unfold State.applyThermal; (try dsimp only); (repeat' split) <;> simp

@[simp] theorem State.bankChanged_frame (n : Fin 12) (s : State) :
    (State.bankChanged n s).pending = s.pending ∧ (State.bankChanged n s).now = s.now ∧ (State.bankChanged n s).timers = s.timers ∧ (State.bankChanged n s).free = s.free ∧ (State.bankChanged n s).arch = s.arch ∧ (State.bankChanged n s).pins = s.pins ∧ (State.bankChanged n s).tb = s.tb ∧ (State.bankChanged n s).meas = s.meas ∧ (State.bankChanged n s).snap = s.snap ∧ (State.bankChanged n s).phase = s.phase ∧ (State.bankChanged n s).loop = s.loop ∧ (State.bankChanged n s).dist = s.dist ∧ (State.bankChanged n s).bat = s.bat ∧ (State.bankChanged n s).seq = s.seq ∧ (State.bankChanged n s).thm = s.thm ∧ (State.bankChanged n s).eng = s.eng ∧ (State.bankChanged n s).net = s.net ∧ (State.bankChanged n s).twin = s.twin ∧ (State.bankChanged n s).casc = s.casc ∧ (State.bankChanged n s).rst = s.rst ∧ (State.bankChanged n s).mem = s.mem ∧ (State.bankChanged n s).evr = s.evr ∧ (State.bankChanged n s).upd = s.upd := by
  unfold State.bankChanged; (try dsimp only); (repeat' split) <;> simp

@[simp] theorem State.applyLanes_frame (old : Cfg) (vals : List (Nat × Nat)) (s : State) :
    (State.applyLanes old vals s).pending = s.pending ∧ (State.applyLanes old vals s).now = s.now ∧ (State.applyLanes old vals s).timers = s.timers ∧ (State.applyLanes old vals s).free = s.free ∧ (State.applyLanes old vals s).arch = s.arch ∧ (State.applyLanes old vals s).pins = s.pins ∧ (State.applyLanes old vals s).tb = s.tb ∧ (State.applyLanes old vals s).meas = s.meas ∧ (State.applyLanes old vals s).snap = s.snap ∧ (State.applyLanes old vals s).phase = s.phase ∧ (State.applyLanes old vals s).loop = s.loop ∧ (State.applyLanes old vals s).dist = s.dist ∧ (State.applyLanes old vals s).bat = s.bat ∧ (State.applyLanes old vals s).seq = s.seq ∧ (State.applyLanes old vals s).thm = s.thm ∧ (State.applyLanes old vals s).eng = s.eng ∧ (State.applyLanes old vals s).net = s.net ∧ (State.applyLanes old vals s).twin = s.twin ∧ (State.applyLanes old vals s).casc = s.casc ∧ (State.applyLanes old vals s).rst = s.rst ∧ (State.applyLanes old vals s).mem = s.mem ∧ (State.applyLanes old vals s).evr = s.evr ∧ (State.applyLanes old vals s).upd = s.upd := by
  unfold State.applyLanes; (try dsimp only); (repeat' split) <;> simp

@[simp] theorem State.reselect_frame (vals : List (Nat × Nat)) (s : State) :
    (State.reselect vals s).pending = s.pending ∧ (State.reselect vals s).now = s.now ∧ (State.reselect vals s).timers = s.timers ∧ (State.reselect vals s).free = s.free ∧ (State.reselect vals s).arch = s.arch ∧ (State.reselect vals s).pins = s.pins ∧ (State.reselect vals s).tb = s.tb ∧ (State.reselect vals s).meas = s.meas ∧ (State.reselect vals s).lane = s.lane ∧ (State.reselect vals s).snap = s.snap ∧ (State.reselect vals s).phase = s.phase ∧ (State.reselect vals s).shelf = s.shelf ∧ (State.reselect vals s).dist = s.dist ∧ (State.reselect vals s).bat = s.bat ∧ (State.reselect vals s).seq = s.seq ∧ (State.reselect vals s).thm = s.thm ∧ (State.reselect vals s).eng = s.eng ∧ (State.reselect vals s).net = s.net ∧ (State.reselect vals s).twin = s.twin ∧ (State.reselect vals s).casc = s.casc ∧ (State.reselect vals s).rst = s.rst ∧ (State.reselect vals s).mem = s.mem ∧ (State.reselect vals s).evr = s.evr ∧ (State.reselect vals s).upd = s.upd := by
  unfold State.reselect; (try dsimp only); (repeat' split) <;> simp

@[simp] theorem State.applyLoops_frame (old : Cfg) (vals : List (Nat × Nat)) (s : State) :
    (State.applyLoops old vals s).pending = s.pending ∧ (State.applyLoops old vals s).now = s.now ∧ (State.applyLoops old vals s).free = s.free ∧ (State.applyLoops old vals s).arch = s.arch ∧ (State.applyLoops old vals s).tb = s.tb ∧ (State.applyLoops old vals s).meas = s.meas ∧ (State.applyLoops old vals s).lane = s.lane ∧ (State.applyLoops old vals s).snap = s.snap ∧ (State.applyLoops old vals s).shelf = s.shelf ∧ (State.applyLoops old vals s).dist = s.dist ∧ (State.applyLoops old vals s).bat = s.bat ∧ (State.applyLoops old vals s).seq = s.seq ∧ (State.applyLoops old vals s).thm = s.thm ∧ (State.applyLoops old vals s).eng = s.eng ∧ (State.applyLoops old vals s).net = s.net ∧ (State.applyLoops old vals s).twin = s.twin ∧ (State.applyLoops old vals s).casc = s.casc ∧ (State.applyLoops old vals s).rst = s.rst ∧ (State.applyLoops old vals s).mem = s.mem ∧ (State.applyLoops old vals s).evr = s.evr ∧ (State.applyLoops old vals s).upd = s.upd := by
  unfold State.applyLoops; (try dsimp only); (repeat' split) <;> simp (disch := (intros; (try dsimp only); (repeat' split) <;> simp))

@[simp] theorem State.dropSlow_frame (i : Fin 32) (s : State) :
    (State.dropSlow i s).pending = s.pending ∧ (State.dropSlow i s).now = s.now ∧ (State.dropSlow i s).free = s.free ∧ (State.dropSlow i s).arch = s.arch ∧ (State.dropSlow i s).pins = s.pins ∧ (State.dropSlow i s).tb = s.tb ∧ (State.dropSlow i s).meas = s.meas ∧ (State.dropSlow i s).lane = s.lane ∧ (State.dropSlow i s).snap = s.snap ∧ (State.dropSlow i s).phase = s.phase ∧ (State.dropSlow i s).loop = s.loop ∧ (State.dropSlow i s).dist = s.dist ∧ (State.dropSlow i s).bat = s.bat ∧ (State.dropSlow i s).seq = s.seq ∧ (State.dropSlow i s).thm = s.thm ∧ (State.dropSlow i s).eng = s.eng ∧ (State.dropSlow i s).net = s.net ∧ (State.dropSlow i s).twin = s.twin ∧ (State.dropSlow i s).casc = s.casc ∧ (State.dropSlow i s).rst = s.rst ∧ (State.dropSlow i s).mem = s.mem ∧ (State.dropSlow i s).evr = s.evr ∧ (State.dropSlow i s).upd = s.upd := by
  unfold State.dropSlow; (try dsimp only); (repeat' split) <;> simp

@[simp] theorem State.enableMask_frame  (s : State) :
    (State.enableMask s).pending = s.pending ∧ (State.enableMask s).now = s.now ∧ (State.enableMask s).free = s.free ∧ (State.enableMask s).arch = s.arch ∧ (State.enableMask s).pins = s.pins ∧ (State.enableMask s).tb = s.tb ∧ (State.enableMask s).meas = s.meas ∧ (State.enableMask s).lane = s.lane ∧ (State.enableMask s).snap = s.snap ∧ (State.enableMask s).phase = s.phase ∧ (State.enableMask s).loop = s.loop ∧ (State.enableMask s).dist = s.dist ∧ (State.enableMask s).bat = s.bat ∧ (State.enableMask s).seq = s.seq ∧ (State.enableMask s).thm = s.thm ∧ (State.enableMask s).eng = s.eng ∧ (State.enableMask s).net = s.net ∧ (State.enableMask s).twin = s.twin ∧ (State.enableMask s).casc = s.casc ∧ (State.enableMask s).rst = s.rst ∧ (State.enableMask s).mem = s.mem ∧ (State.enableMask s).evr = s.evr ∧ (State.enableMask s).upd = s.upd := by
  unfold State.enableMask; (try dsimp only); (repeat' split) <;> simp

@[simp] theorem State.legacySetpoint_frame  (s : State) :
    (State.legacySetpoint s).pending = s.pending ∧ (State.legacySetpoint s).now = s.now ∧ (State.legacySetpoint s).timers = s.timers ∧ (State.legacySetpoint s).free = s.free ∧ (State.legacySetpoint s).arch = s.arch ∧ (State.legacySetpoint s).pins = s.pins ∧ (State.legacySetpoint s).tb = s.tb ∧ (State.legacySetpoint s).meas = s.meas ∧ (State.legacySetpoint s).lane = s.lane ∧ (State.legacySetpoint s).snap = s.snap ∧ (State.legacySetpoint s).phase = s.phase ∧ (State.legacySetpoint s).loop = s.loop ∧ (State.legacySetpoint s).shelf = s.shelf ∧ (State.legacySetpoint s).dist = s.dist ∧ (State.legacySetpoint s).bat = s.bat ∧ (State.legacySetpoint s).seq = s.seq ∧ (State.legacySetpoint s).thm = s.thm ∧ (State.legacySetpoint s).eng = s.eng ∧ (State.legacySetpoint s).twin = s.twin ∧ (State.legacySetpoint s).casc = s.casc ∧ (State.legacySetpoint s).rst = s.rst ∧ (State.legacySetpoint s).mem = s.mem ∧ (State.legacySetpoint s).evr = s.evr ∧ (State.legacySetpoint s).upd = s.upd := by
  unfold State.legacySetpoint; (try dsimp only); (repeat' split) <;> simp

@[simp] theorem State.applyShelf_frame (old : Cfg) (vals : List (Nat × Nat)) (s : State) :
    (State.applyShelf old vals s).pending = s.pending ∧ (State.applyShelf old vals s).now = s.now ∧ (State.applyShelf old vals s).free = s.free ∧ (State.applyShelf old vals s).arch = s.arch ∧ (State.applyShelf old vals s).pins = s.pins ∧ (State.applyShelf old vals s).tb = s.tb ∧ (State.applyShelf old vals s).meas = s.meas ∧ (State.applyShelf old vals s).lane = s.lane ∧ (State.applyShelf old vals s).snap = s.snap ∧ (State.applyShelf old vals s).phase = s.phase ∧ (State.applyShelf old vals s).loop = s.loop ∧ (State.applyShelf old vals s).dist = s.dist ∧ (State.applyShelf old vals s).bat = s.bat ∧ (State.applyShelf old vals s).seq = s.seq ∧ (State.applyShelf old vals s).thm = s.thm ∧ (State.applyShelf old vals s).eng = s.eng ∧ (State.applyShelf old vals s).twin = s.twin ∧ (State.applyShelf old vals s).casc = s.casc ∧ (State.applyShelf old vals s).rst = s.rst ∧ (State.applyShelf old vals s).mem = s.mem ∧ (State.applyShelf old vals s).evr = s.evr ∧ (State.applyShelf old vals s).upd = s.upd := by
  unfold State.applyShelf; (try dsimp only); (repeat' split) <;> simp

@[simp] theorem State.adoptBranch_frame (whole : Cfg) (adopt : Bool) (k : Fin 16) (s : State) :
    (State.adoptBranch whole adopt k s).pending = s.pending ∧ (State.adoptBranch whole adopt k s).now = s.now ∧ (State.adoptBranch whole adopt k s).free = s.free ∧ (State.adoptBranch whole adopt k s).arch = s.arch ∧ (State.adoptBranch whole adopt k s).tb = s.tb ∧ (State.adoptBranch whole adopt k s).meas = s.meas ∧ (State.adoptBranch whole adopt k s).lane = s.lane ∧ (State.adoptBranch whole adopt k s).snap = s.snap ∧ (State.adoptBranch whole adopt k s).phase = s.phase ∧ (State.adoptBranch whole adopt k s).loop = s.loop ∧ (State.adoptBranch whole adopt k s).shelf = s.shelf ∧ (State.adoptBranch whole adopt k s).bat = s.bat ∧ (State.adoptBranch whole adopt k s).seq = s.seq ∧ (State.adoptBranch whole adopt k s).thm = s.thm ∧ (State.adoptBranch whole adopt k s).eng = s.eng ∧ (State.adoptBranch whole adopt k s).net = s.net ∧ (State.adoptBranch whole adopt k s).twin = s.twin ∧ (State.adoptBranch whole adopt k s).casc = s.casc ∧ (State.adoptBranch whole adopt k s).rst = s.rst ∧ (State.adoptBranch whole adopt k s).mem = s.mem ∧ (State.adoptBranch whole adopt k s).evr = s.evr ∧ (State.adoptBranch whole adopt k s).upd = s.upd := by
  unfold State.adoptBranch; (try dsimp only); (repeat' split) <;> simp

@[simp] theorem State.adoptFeed_frame (whole : Cfg) (adopt : Bool) (p : Fin 2) (b : Bool) (s : State) :
    (State.adoptFeed whole adopt p b s).pending = s.pending ∧ (State.adoptFeed whole adopt p b s).now = s.now ∧ (State.adoptFeed whole adopt p b s).timers = s.timers ∧ (State.adoptFeed whole adopt p b s).free = s.free ∧ (State.adoptFeed whole adopt p b s).arch = s.arch ∧ (State.adoptFeed whole adopt p b s).tb = s.tb ∧ (State.adoptFeed whole adopt p b s).meas = s.meas ∧ (State.adoptFeed whole adopt p b s).lane = s.lane ∧ (State.adoptFeed whole adopt p b s).snap = s.snap ∧ (State.adoptFeed whole adopt p b s).phase = s.phase ∧ (State.adoptFeed whole adopt p b s).loop = s.loop ∧ (State.adoptFeed whole adopt p b s).shelf = s.shelf ∧ (State.adoptFeed whole adopt p b s).bat = s.bat ∧ (State.adoptFeed whole adopt p b s).seq = s.seq ∧ (State.adoptFeed whole adopt p b s).thm = s.thm ∧ (State.adoptFeed whole adopt p b s).eng = s.eng ∧ (State.adoptFeed whole adopt p b s).net = s.net ∧ (State.adoptFeed whole adopt p b s).twin = s.twin ∧ (State.adoptFeed whole adopt p b s).casc = s.casc ∧ (State.adoptFeed whole adopt p b s).rst = s.rst ∧ (State.adoptFeed whole adopt p b s).mem = s.mem ∧ (State.adoptFeed whole adopt p b s).evr = s.evr ∧ (State.adoptFeed whole adopt p b s).upd = s.upd := by
  unfold State.adoptFeed; (try dsimp only); (repeat' split) <;> simp

@[simp] theorem State.adoptString_frame (whole : Cfg) (adopt : Bool) (n : Fin 4) (s : State) :
    (State.adoptString whole adopt n s).pending = s.pending ∧ (State.adoptString whole adopt n s).now = s.now ∧ (State.adoptString whole adopt n s).timers = s.timers ∧ (State.adoptString whole adopt n s).free = s.free ∧ (State.adoptString whole adopt n s).arch = s.arch ∧ (State.adoptString whole adopt n s).tb = s.tb ∧ (State.adoptString whole adopt n s).meas = s.meas ∧ (State.adoptString whole adopt n s).lane = s.lane ∧ (State.adoptString whole adopt n s).snap = s.snap ∧ (State.adoptString whole adopt n s).phase = s.phase ∧ (State.adoptString whole adopt n s).loop = s.loop ∧ (State.adoptString whole adopt n s).shelf = s.shelf ∧ (State.adoptString whole adopt n s).bat = s.bat ∧ (State.adoptString whole adopt n s).seq = s.seq ∧ (State.adoptString whole adopt n s).thm = s.thm ∧ (State.adoptString whole adopt n s).eng = s.eng ∧ (State.adoptString whole adopt n s).net = s.net ∧ (State.adoptString whole adopt n s).twin = s.twin ∧ (State.adoptString whole adopt n s).casc = s.casc ∧ (State.adoptString whole adopt n s).rst = s.rst ∧ (State.adoptString whole adopt n s).mem = s.mem ∧ (State.adoptString whole adopt n s).evr = s.evr ∧ (State.adoptString whole adopt n s).upd = s.upd := by
  unfold State.adoptString; (try dsimp only); (repeat' split) <;> simp

@[simp] theorem State.disableString_frame (n : Fin 4) (s : State) :
    (State.disableString n s).pending = s.pending ∧ (State.disableString n s).now = s.now ∧ (State.disableString n s).free = s.free ∧ (State.disableString n s).arch = s.arch ∧ (State.disableString n s).tb = s.tb ∧ (State.disableString n s).meas = s.meas ∧ (State.disableString n s).lane = s.lane ∧ (State.disableString n s).snap = s.snap ∧ (State.disableString n s).phase = s.phase ∧ (State.disableString n s).loop = s.loop ∧ (State.disableString n s).shelf = s.shelf ∧ (State.disableString n s).bat = s.bat ∧ (State.disableString n s).seq = s.seq ∧ (State.disableString n s).thm = s.thm ∧ (State.disableString n s).eng = s.eng ∧ (State.disableString n s).net = s.net ∧ (State.disableString n s).twin = s.twin ∧ (State.disableString n s).casc = s.casc ∧ (State.disableString n s).rst = s.rst ∧ (State.disableString n s).mem = s.mem ∧ (State.disableString n s).evr = s.evr ∧ (State.disableString n s).upd = s.upd := by
  unfold State.disableString; (try dsimp only); (repeat' split) <;> simp

@[simp] theorem State.stringEnable_frame (old : Cfg) (n : Fin 4) (s : State) :
    (State.stringEnable old n s).pending = s.pending ∧ (State.stringEnable old n s).now = s.now ∧ (State.stringEnable old n s).free = s.free ∧ (State.stringEnable old n s).arch = s.arch ∧ (State.stringEnable old n s).tb = s.tb ∧ (State.stringEnable old n s).meas = s.meas ∧ (State.stringEnable old n s).lane = s.lane ∧ (State.stringEnable old n s).snap = s.snap ∧ (State.stringEnable old n s).phase = s.phase ∧ (State.stringEnable old n s).loop = s.loop ∧ (State.stringEnable old n s).shelf = s.shelf ∧ (State.stringEnable old n s).seq = s.seq ∧ (State.stringEnable old n s).thm = s.thm ∧ (State.stringEnable old n s).eng = s.eng ∧ (State.stringEnable old n s).net = s.net ∧ (State.stringEnable old n s).twin = s.twin ∧ (State.stringEnable old n s).casc = s.casc ∧ (State.stringEnable old n s).rst = s.rst ∧ (State.stringEnable old n s).mem = s.mem ∧ (State.stringEnable old n s).evr = s.evr ∧ (State.stringEnable old n s).upd = s.upd := by
  unfold State.stringEnable; (try dsimp only); (repeat' split) <;> simp

@[simp] theorem State.applyBattery_frame (old : Cfg) (whole : Cfg) (adopt : Bool) (s : State) :
    (State.applyBattery old whole adopt s).pending = s.pending ∧ (State.applyBattery old whole adopt s).now = s.now ∧ (State.applyBattery old whole adopt s).free = s.free ∧ (State.applyBattery old whole adopt s).arch = s.arch ∧ (State.applyBattery old whole adopt s).tb = s.tb ∧ (State.applyBattery old whole adopt s).meas = s.meas ∧ (State.applyBattery old whole adopt s).lane = s.lane ∧ (State.applyBattery old whole adopt s).snap = s.snap ∧ (State.applyBattery old whole adopt s).phase = s.phase ∧ (State.applyBattery old whole adopt s).loop = s.loop ∧ (State.applyBattery old whole adopt s).shelf = s.shelf ∧ (State.applyBattery old whole adopt s).seq = s.seq ∧ (State.applyBattery old whole adopt s).thm = s.thm ∧ (State.applyBattery old whole adopt s).eng = s.eng ∧ (State.applyBattery old whole adopt s).net = s.net ∧ (State.applyBattery old whole adopt s).twin = s.twin ∧ (State.applyBattery old whole adopt s).casc = s.casc ∧ (State.applyBattery old whole adopt s).rst = s.rst ∧ (State.applyBattery old whole adopt s).mem = s.mem ∧ (State.applyBattery old whole adopt s).evr = s.evr ∧ (State.applyBattery old whole adopt s).upd = s.upd := by
  unfold State.applyBattery; (try dsimp only); (repeat' split) <;> simp

@[simp] theorem State.leaveInstances_frame (vals : List (Nat × Nat)) (s : State) :
    (State.leaveInstances vals s).pending = s.pending ∧ (State.leaveInstances vals s).now = s.now ∧ (State.leaveInstances vals s).free = s.free ∧ (State.leaveInstances vals s).arch = s.arch ∧ (State.leaveInstances vals s).tb = s.tb ∧ (State.leaveInstances vals s).meas = s.meas ∧ (State.leaveInstances vals s).lane = s.lane ∧ (State.leaveInstances vals s).snap = s.snap ∧ (State.leaveInstances vals s).shelf = s.shelf ∧ (State.leaveInstances vals s).thm = s.thm ∧ (State.leaveInstances vals s).eng = s.eng ∧ (State.leaveInstances vals s).net = s.net ∧ (State.leaveInstances vals s).twin = s.twin ∧ (State.leaveInstances vals s).casc = s.casc ∧ (State.leaveInstances vals s).rst = s.rst ∧ (State.leaveInstances vals s).mem = s.mem ∧ (State.leaveInstances vals s).evr = s.evr ∧ (State.leaveInstances vals s).upd = s.upd := by
  unfold State.leaveInstances; (try dsimp only); (repeat' split) <;> simp

@[simp] theorem State.takeCommand_frame (r : Fin 32) (s : State) :
    (State.takeCommand r s).pending = s.pending ∧ (State.takeCommand r s).now = s.now ∧ (State.takeCommand r s).timers = s.timers ∧ (State.takeCommand r s).free = s.free ∧ (State.takeCommand r s).arch = s.arch ∧ (State.takeCommand r s).tb = s.tb ∧ (State.takeCommand r s).meas = s.meas ∧ (State.takeCommand r s).lane = s.lane ∧ (State.takeCommand r s).snap = s.snap ∧ (State.takeCommand r s).phase = s.phase ∧ (State.takeCommand r s).loop = s.loop ∧ (State.takeCommand r s).shelf = s.shelf ∧ (State.takeCommand r s).seq = s.seq ∧ (State.takeCommand r s).thm = s.thm ∧ (State.takeCommand r s).eng = s.eng ∧ (State.takeCommand r s).net = s.net ∧ (State.takeCommand r s).twin = s.twin ∧ (State.takeCommand r s).casc = s.casc ∧ (State.takeCommand r s).rst = s.rst ∧ (State.takeCommand r s).mem = s.mem ∧ (State.takeCommand r s).evr = s.evr ∧ (State.takeCommand r s).upd = s.upd := by
  unfold State.takeCommand; (try dsimp only); (repeat' split) <;> simp

@[simp] theorem State.adoptRail_frame (r : Fin 32) (s : State) :
    (State.adoptRail r s).pending = s.pending ∧ (State.adoptRail r s).now = s.now ∧ (State.adoptRail r s).free = s.free ∧ (State.adoptRail r s).arch = s.arch ∧ (State.adoptRail r s).tb = s.tb ∧ (State.adoptRail r s).meas = s.meas ∧ (State.adoptRail r s).lane = s.lane ∧ (State.adoptRail r s).snap = s.snap ∧ (State.adoptRail r s).shelf = s.shelf ∧ (State.adoptRail r s).thm = s.thm ∧ (State.adoptRail r s).eng = s.eng ∧ (State.adoptRail r s).twin = s.twin ∧ (State.adoptRail r s).casc = s.casc ∧ (State.adoptRail r s).rst = s.rst ∧ (State.adoptRail r s).mem = s.mem ∧ (State.adoptRail r s).upd = s.upd := by
  unfold State.adoptRail; (try dsimp only); (repeat' split) <;> simp

@[simp] theorem State.dropAdopted_frame  (s : State) :
    (State.dropAdopted s).pending = s.pending ∧ (State.dropAdopted s).now = s.now ∧ (State.dropAdopted s).free = s.free ∧ (State.dropAdopted s).arch = s.arch ∧ (State.dropAdopted s).tb = s.tb ∧ (State.dropAdopted s).meas = s.meas ∧ (State.dropAdopted s).lane = s.lane ∧ (State.dropAdopted s).snap = s.snap ∧ (State.dropAdopted s).phase = s.phase ∧ (State.dropAdopted s).loop = s.loop ∧ (State.dropAdopted s).shelf = s.shelf ∧ (State.dropAdopted s).bat = s.bat ∧ (State.dropAdopted s).seq = s.seq ∧ (State.dropAdopted s).thm = s.thm ∧ (State.dropAdopted s).eng = s.eng ∧ (State.dropAdopted s).net = s.net ∧ (State.dropAdopted s).twin = s.twin ∧ (State.dropAdopted s).casc = s.casc ∧ (State.dropAdopted s).rst = s.rst ∧ (State.dropAdopted s).mem = s.mem ∧ (State.dropAdopted s).evr = s.evr ∧ (State.dropAdopted s).upd = s.upd := by
  unfold State.dropAdopted; (try dsimp only); (repeat' split) <;> simp

@[simp] theorem State.enablePins_frame (old : Cfg) (s : State) :
    (State.enablePins old s).pending = s.pending ∧ (State.enablePins old s).now = s.now ∧ (State.enablePins old s).timers = s.timers ∧ (State.enablePins old s).free = s.free ∧ (State.enablePins old s).arch = s.arch ∧ (State.enablePins old s).tb = s.tb ∧ (State.enablePins old s).meas = s.meas ∧ (State.enablePins old s).lane = s.lane ∧ (State.enablePins old s).snap = s.snap ∧ (State.enablePins old s).phase = s.phase ∧ (State.enablePins old s).loop = s.loop ∧ (State.enablePins old s).shelf = s.shelf ∧ (State.enablePins old s).dist = s.dist ∧ (State.enablePins old s).bat = s.bat ∧ (State.enablePins old s).seq = s.seq ∧ (State.enablePins old s).thm = s.thm ∧ (State.enablePins old s).eng = s.eng ∧ (State.enablePins old s).net = s.net ∧ (State.enablePins old s).twin = s.twin ∧ (State.enablePins old s).casc = s.casc ∧ (State.enablePins old s).rst = s.rst ∧ (State.enablePins old s).mem = s.mem ∧ (State.enablePins old s).evr = s.evr ∧ (State.enablePins old s).upd = s.upd := by
  unfold State.enablePins; (try dsimp only); (repeat' split) <;> simp

@[simp] theorem State.dropEnables_frame  (s : State) :
    (State.dropEnables s).pending = s.pending ∧ (State.dropEnables s).now = s.now ∧ (State.dropEnables s).timers = s.timers ∧ (State.dropEnables s).free = s.free ∧ (State.dropEnables s).arch = s.arch ∧ (State.dropEnables s).tb = s.tb ∧ (State.dropEnables s).meas = s.meas ∧ (State.dropEnables s).lane = s.lane ∧ (State.dropEnables s).snap = s.snap ∧ (State.dropEnables s).phase = s.phase ∧ (State.dropEnables s).loop = s.loop ∧ (State.dropEnables s).shelf = s.shelf ∧ (State.dropEnables s).dist = s.dist ∧ (State.dropEnables s).bat = s.bat ∧ (State.dropEnables s).seq = s.seq ∧ (State.dropEnables s).thm = s.thm ∧ (State.dropEnables s).eng = s.eng ∧ (State.dropEnables s).net = s.net ∧ (State.dropEnables s).twin = s.twin ∧ (State.dropEnables s).casc = s.casc ∧ (State.dropEnables s).rst = s.rst ∧ (State.dropEnables s).mem = s.mem ∧ (State.dropEnables s).evr = s.evr ∧ (State.dropEnables s).upd = s.upd := by
  unfold State.dropEnables; (try dsimp only); (repeat' split) <;> simp

@[simp] theorem State.seqFirst_frame (adopt : Bool) (s : State) :
    (State.seqFirst adopt s).pending = s.pending ∧ (State.seqFirst adopt s).now = s.now ∧ (State.seqFirst adopt s).free = s.free ∧ (State.seqFirst adopt s).arch = s.arch ∧ (State.seqFirst adopt s).tb = s.tb ∧ (State.seqFirst adopt s).meas = s.meas ∧ (State.seqFirst adopt s).lane = s.lane ∧ (State.seqFirst adopt s).snap = s.snap ∧ (State.seqFirst adopt s).shelf = s.shelf ∧ (State.seqFirst adopt s).thm = s.thm ∧ (State.seqFirst adopt s).eng = s.eng ∧ (State.seqFirst adopt s).twin = s.twin ∧ (State.seqFirst adopt s).casc = s.casc ∧ (State.seqFirst adopt s).rst = s.rst ∧ (State.seqFirst adopt s).mem = s.mem ∧ (State.seqFirst adopt s).upd = s.upd := by
  unfold State.seqFirst; (try dsimp only); (repeat' split) <;> simp

@[simp] theorem State.applySeq_frame (old : Cfg) (adopt : Bool) (s : State) :
    (State.applySeq old adopt s).pending = s.pending ∧ (State.applySeq old adopt s).now = s.now ∧ (State.applySeq old adopt s).free = s.free ∧ (State.applySeq old adopt s).arch = s.arch ∧ (State.applySeq old adopt s).tb = s.tb ∧ (State.applySeq old adopt s).meas = s.meas ∧ (State.applySeq old adopt s).lane = s.lane ∧ (State.applySeq old adopt s).snap = s.snap ∧ (State.applySeq old adopt s).shelf = s.shelf ∧ (State.applySeq old adopt s).thm = s.thm ∧ (State.applySeq old adopt s).eng = s.eng ∧ (State.applySeq old adopt s).twin = s.twin ∧ (State.applySeq old adopt s).casc = s.casc ∧ (State.applySeq old adopt s).rst = s.rst ∧ (State.applySeq old adopt s).mem = s.mem ∧ (State.applySeq old adopt s).upd = s.upd := by
  unfold State.applySeq; (try dsimp only); (repeat' split) <;> simp

@[simp] theorem State.applyRecorder_frame (old : Cfg) (s : State) :
    (State.applyRecorder old s).pending = s.pending ∧ (State.applyRecorder old s).now = s.now ∧ (State.applyRecorder old s).timers = s.timers ∧ (State.applyRecorder old s).free = s.free ∧ (State.applyRecorder old s).arch = s.arch ∧ (State.applyRecorder old s).pins = s.pins ∧ (State.applyRecorder old s).tb = s.tb ∧ (State.applyRecorder old s).meas = s.meas ∧ (State.applyRecorder old s).lane = s.lane ∧ (State.applyRecorder old s).snap = s.snap ∧ (State.applyRecorder old s).phase = s.phase ∧ (State.applyRecorder old s).loop = s.loop ∧ (State.applyRecorder old s).shelf = s.shelf ∧ (State.applyRecorder old s).dist = s.dist ∧ (State.applyRecorder old s).bat = s.bat ∧ (State.applyRecorder old s).seq = s.seq ∧ (State.applyRecorder old s).thm = s.thm ∧ (State.applyRecorder old s).eng = s.eng ∧ (State.applyRecorder old s).net = s.net ∧ (State.applyRecorder old s).twin = s.twin ∧ (State.applyRecorder old s).casc = s.casc ∧ (State.applyRecorder old s).rst = s.rst ∧ (State.applyRecorder old s).mem = s.mem ∧ (State.applyRecorder old s).upd = s.upd := by
  unfold State.applyRecorder; (try dsimp only); (repeat' split) <;> simp

@[simp] theorem State.cascStart_frame  (s : State) :
    (State.cascStart s).pending = s.pending ∧ (State.cascStart s).now = s.now ∧ (State.cascStart s).timers = s.timers ∧ (State.cascStart s).free = s.free ∧ (State.cascStart s).arch = s.arch ∧ (State.cascStart s).pins = s.pins ∧ (State.cascStart s).tb = s.tb ∧ (State.cascStart s).meas = s.meas ∧ (State.cascStart s).lane = s.lane ∧ (State.cascStart s).snap = s.snap ∧ (State.cascStart s).phase = s.phase ∧ (State.cascStart s).loop = s.loop ∧ (State.cascStart s).shelf = s.shelf ∧ (State.cascStart s).dist = s.dist ∧ (State.cascStart s).bat = s.bat ∧ (State.cascStart s).seq = s.seq ∧ (State.cascStart s).thm = s.thm ∧ (State.cascStart s).eng = s.eng ∧ (State.cascStart s).net = s.net ∧ (State.cascStart s).rst = s.rst ∧ (State.cascStart s).mem = s.mem ∧ (State.cascStart s).evr = s.evr ∧ (State.cascStart s).upd = s.upd := by
  unfold State.cascStart; (try dsimp only); (repeat' split) <;> simp

@[simp] theorem State.applyTwin_frame (old : Cfg) (s : State) :
    (State.applyTwin old s).pending = s.pending ∧ (State.applyTwin old s).now = s.now ∧ (State.applyTwin old s).free = s.free ∧ (State.applyTwin old s).arch = s.arch ∧ (State.applyTwin old s).meas = s.meas ∧ (State.applyTwin old s).lane = s.lane ∧ (State.applyTwin old s).snap = s.snap ∧ (State.applyTwin old s).phase = s.phase ∧ (State.applyTwin old s).loop = s.loop ∧ (State.applyTwin old s).shelf = s.shelf ∧ (State.applyTwin old s).dist = s.dist ∧ (State.applyTwin old s).bat = s.bat ∧ (State.applyTwin old s).seq = s.seq ∧ (State.applyTwin old s).thm = s.thm ∧ (State.applyTwin old s).eng = s.eng ∧ (State.applyTwin old s).net = s.net ∧ (State.applyTwin old s).rst = s.rst ∧ (State.applyTwin old s).mem = s.mem ∧ (State.applyTwin old s).evr = s.evr ∧ (State.applyTwin old s).upd = s.upd := by
  unfold State.applyTwin; (try dsimp only); (repeat' split) <;> simp

@[simp] theorem State.applyNet_frame (old : Cfg) (s : State) :
    (State.applyNet old s).pending = s.pending ∧ (State.applyNet old s).now = s.now ∧ (State.applyNet old s).free = s.free ∧ (State.applyNet old s).arch = s.arch ∧ (State.applyNet old s).pins = s.pins ∧ (State.applyNet old s).tb = s.tb ∧ (State.applyNet old s).meas = s.meas ∧ (State.applyNet old s).lane = s.lane ∧ (State.applyNet old s).snap = s.snap ∧ (State.applyNet old s).phase = s.phase ∧ (State.applyNet old s).loop = s.loop ∧ (State.applyNet old s).shelf = s.shelf ∧ (State.applyNet old s).dist = s.dist ∧ (State.applyNet old s).bat = s.bat ∧ (State.applyNet old s).seq = s.seq ∧ (State.applyNet old s).thm = s.thm ∧ (State.applyNet old s).eng = s.eng ∧ (State.applyNet old s).twin = s.twin ∧ (State.applyNet old s).casc = s.casc ∧ (State.applyNet old s).rst = s.rst ∧ (State.applyNet old s).mem = s.mem ∧ (State.applyNet old s).upd = s.upd := by
  unfold State.applyNet; (try dsimp only); (repeat' split) <;> simp

@[simp] theorem State.putVals_frame (vals : List (Nat × Nat)) (s : State) :
    (State.putVals vals s).pending = s.pending ∧ (State.putVals vals s).now = s.now ∧ (State.putVals vals s).timers = s.timers ∧ (State.putVals vals s).free = s.free ∧ (State.putVals vals s).arch = s.arch ∧ (State.putVals vals s).pins = s.pins ∧ (State.putVals vals s).tb = s.tb ∧ (State.putVals vals s).lane = s.lane ∧ (State.putVals vals s).snap = s.snap ∧ (State.putVals vals s).phase = s.phase ∧ (State.putVals vals s).loop = s.loop ∧ (State.putVals vals s).shelf = s.shelf ∧ (State.putVals vals s).dist = s.dist ∧ (State.putVals vals s).bat = s.bat ∧ (State.putVals vals s).seq = s.seq ∧ (State.putVals vals s).thm = s.thm ∧ (State.putVals vals s).eng = s.eng ∧ (State.putVals vals s).twin = s.twin ∧ (State.putVals vals s).casc = s.casc ∧ (State.putVals vals s).rst = s.rst ∧ (State.putVals vals s).mem = s.mem ∧ (State.putVals vals s).evr = s.evr ∧ (State.putVals vals s).upd = s.upd := by
  unfold State.putVals; (try dsimp only); (repeat' split) <;> simp

@[simp] theorem State.engBlock_frame (e : Fin 8) (s : State) :
    (State.engBlock e s).pending = s.pending ∧ (State.engBlock e s).now = s.now ∧ (State.engBlock e s).free = s.free ∧ (State.engBlock e s).arch = s.arch ∧ (State.engBlock e s).pins = s.pins ∧ (State.engBlock e s).tb = s.tb ∧ (State.engBlock e s).meas = s.meas ∧ (State.engBlock e s).lane = s.lane ∧ (State.engBlock e s).snap = s.snap ∧ (State.engBlock e s).phase = s.phase ∧ (State.engBlock e s).loop = s.loop ∧ (State.engBlock e s).shelf = s.shelf ∧ (State.engBlock e s).dist = s.dist ∧ (State.engBlock e s).bat = s.bat ∧ (State.engBlock e s).seq = s.seq ∧ (State.engBlock e s).thm = s.thm ∧ (State.engBlock e s).eng = s.eng ∧ (State.engBlock e s).net = s.net ∧ (State.engBlock e s).twin = s.twin ∧ (State.engBlock e s).casc = s.casc ∧ (State.engBlock e s).mem = s.mem ∧ (State.engBlock e s).evr = s.evr ∧ (State.engBlock e s).upd = s.upd := by
  unfold State.engBlock; (try dsimp only); (repeat' split) <;> simp

@[simp] theorem State.setEpoch_frame (e : Fin 8) (s : State) :
    (State.setEpoch e s).pending = s.pending ∧ (State.setEpoch e s).now = s.now ∧ (State.setEpoch e s).free = s.free ∧ (State.setEpoch e s).arch = s.arch ∧ (State.setEpoch e s).tb = s.tb ∧ (State.setEpoch e s).meas = s.meas ∧ (State.setEpoch e s).lane = s.lane ∧ (State.setEpoch e s).snap = s.snap ∧ (State.setEpoch e s).phase = s.phase ∧ (State.setEpoch e s).loop = s.loop ∧ (State.setEpoch e s).shelf = s.shelf ∧ (State.setEpoch e s).dist = s.dist ∧ (State.setEpoch e s).bat = s.bat ∧ (State.setEpoch e s).seq = s.seq ∧ (State.setEpoch e s).thm = s.thm ∧ (State.setEpoch e s).twin = s.twin ∧ (State.setEpoch e s).casc = s.casc ∧ (State.setEpoch e s).rst = s.rst ∧ (State.setEpoch e s).mem = s.mem ∧ (State.setEpoch e s).upd = s.upd := by
  unfold State.setEpoch; (try dsimp only); (repeat' split) <;> simp

@[simp] theorem State.engExpired_frame (e : Fin 8) (s : State) :
    (State.engExpired e s).pending = s.pending ∧ (State.engExpired e s).now = s.now ∧ (State.engExpired e s).free = s.free ∧ (State.engExpired e s).arch = s.arch ∧ (State.engExpired e s).pins = s.pins ∧ (State.engExpired e s).tb = s.tb ∧ (State.engExpired e s).meas = s.meas ∧ (State.engExpired e s).lane = s.lane ∧ (State.engExpired e s).snap = s.snap ∧ (State.engExpired e s).phase = s.phase ∧ (State.engExpired e s).loop = s.loop ∧ (State.engExpired e s).shelf = s.shelf ∧ (State.engExpired e s).dist = s.dist ∧ (State.engExpired e s).bat = s.bat ∧ (State.engExpired e s).seq = s.seq ∧ (State.engExpired e s).thm = s.thm ∧ (State.engExpired e s).net = s.net ∧ (State.engExpired e s).twin = s.twin ∧ (State.engExpired e s).casc = s.casc ∧ (State.engExpired e s).rst = s.rst ∧ (State.engExpired e s).mem = s.mem ∧ (State.engExpired e s).evr = s.evr ∧ (State.engExpired e s).upd = s.upd := by
  unfold State.engExpired; (try dsimp only); (repeat' split) <;> simp

@[simp] theorem State.retireEngine_frame (e : Fin 8) (s : State) :
    (State.retireEngine e s).pending = s.pending ∧ (State.retireEngine e s).now = s.now ∧ (State.retireEngine e s).free = s.free ∧ (State.retireEngine e s).arch = s.arch ∧ (State.retireEngine e s).pins = s.pins ∧ (State.retireEngine e s).tb = s.tb ∧ (State.retireEngine e s).meas = s.meas ∧ (State.retireEngine e s).lane = s.lane ∧ (State.retireEngine e s).snap = s.snap ∧ (State.retireEngine e s).phase = s.phase ∧ (State.retireEngine e s).loop = s.loop ∧ (State.retireEngine e s).shelf = s.shelf ∧ (State.retireEngine e s).dist = s.dist ∧ (State.retireEngine e s).bat = s.bat ∧ (State.retireEngine e s).seq = s.seq ∧ (State.retireEngine e s).thm = s.thm ∧ (State.retireEngine e s).twin = s.twin ∧ (State.retireEngine e s).casc = s.casc ∧ (State.retireEngine e s).rst = s.rst ∧ (State.retireEngine e s).mem = s.mem ∧ (State.retireEngine e s).upd = s.upd := by
  unfold State.retireEngine; (try dsimp only); (repeat' split) <;> simp

@[simp] theorem State.hotSpare_frame (e : Fin 8) (s : State) :
    (State.hotSpare e s).pending = s.pending ∧ (State.hotSpare e s).now = s.now ∧ (State.hotSpare e s).free = s.free ∧ (State.hotSpare e s).arch = s.arch ∧ (State.hotSpare e s).pins = s.pins ∧ (State.hotSpare e s).tb = s.tb ∧ (State.hotSpare e s).meas = s.meas ∧ (State.hotSpare e s).lane = s.lane ∧ (State.hotSpare e s).snap = s.snap ∧ (State.hotSpare e s).phase = s.phase ∧ (State.hotSpare e s).loop = s.loop ∧ (State.hotSpare e s).shelf = s.shelf ∧ (State.hotSpare e s).dist = s.dist ∧ (State.hotSpare e s).bat = s.bat ∧ (State.hotSpare e s).seq = s.seq ∧ (State.hotSpare e s).thm = s.thm ∧ (State.hotSpare e s).twin = s.twin ∧ (State.hotSpare e s).casc = s.casc ∧ (State.hotSpare e s).rst = s.rst ∧ (State.hotSpare e s).mem = s.mem ∧ (State.hotSpare e s).upd = s.upd := by
  unfold State.hotSpare; (try dsimp only); (repeat' split) <;> simp

@[simp] theorem State.startReload_frame (e : Fin 8) (s : State) :
    (State.startReload e s).pending = s.pending ∧ (State.startReload e s).now = s.now ∧ (State.startReload e s).free = s.free ∧ (State.startReload e s).arch = s.arch ∧ (State.startReload e s).pins = s.pins ∧ (State.startReload e s).tb = s.tb ∧ (State.startReload e s).meas = s.meas ∧ (State.startReload e s).lane = s.lane ∧ (State.startReload e s).snap = s.snap ∧ (State.startReload e s).phase = s.phase ∧ (State.startReload e s).loop = s.loop ∧ (State.startReload e s).shelf = s.shelf ∧ (State.startReload e s).dist = s.dist ∧ (State.startReload e s).bat = s.bat ∧ (State.startReload e s).seq = s.seq ∧ (State.startReload e s).thm = s.thm ∧ (State.startReload e s).net = s.net ∧ (State.startReload e s).twin = s.twin ∧ (State.startReload e s).casc = s.casc ∧ (State.startReload e s).rst = s.rst ∧ (State.startReload e s).mem = s.mem ∧ (State.startReload e s).evr = s.evr ∧ (State.startReload e s).upd = s.upd := by
  unfold State.startReload; (try dsimp only); (repeat' split) <;> simp

@[simp] theorem State.liveNext_frame  (s : State) :
    (State.liveNext s).pending = s.pending ∧ (State.liveNext s).now = s.now ∧ (State.liveNext s).free = s.free ∧ (State.liveNext s).arch = s.arch ∧ (State.liveNext s).pins = s.pins ∧ (State.liveNext s).tb = s.tb ∧ (State.liveNext s).meas = s.meas ∧ (State.liveNext s).lane = s.lane ∧ (State.liveNext s).snap = s.snap ∧ (State.liveNext s).phase = s.phase ∧ (State.liveNext s).loop = s.loop ∧ (State.liveNext s).shelf = s.shelf ∧ (State.liveNext s).dist = s.dist ∧ (State.liveNext s).bat = s.bat ∧ (State.liveNext s).seq = s.seq ∧ (State.liveNext s).thm = s.thm ∧ (State.liveNext s).net = s.net ∧ (State.liveNext s).twin = s.twin ∧ (State.liveNext s).casc = s.casc ∧ (State.liveNext s).rst = s.rst ∧ (State.liveNext s).mem = s.mem ∧ (State.liveNext s).evr = s.evr ∧ (State.liveNext s).upd = s.upd := by
  unfold State.liveNext; (try dsimp only); (repeat' split) <;> simp

@[simp] theorem State.liveEnd_frame  (s : State) :
    (State.liveEnd s).pending = s.pending ∧ (State.liveEnd s).now = s.now ∧ (State.liveEnd s).free = s.free ∧ (State.liveEnd s).arch = s.arch ∧ (State.liveEnd s).pins = s.pins ∧ (State.liveEnd s).tb = s.tb ∧ (State.liveEnd s).meas = s.meas ∧ (State.liveEnd s).lane = s.lane ∧ (State.liveEnd s).snap = s.snap ∧ (State.liveEnd s).phase = s.phase ∧ (State.liveEnd s).loop = s.loop ∧ (State.liveEnd s).shelf = s.shelf ∧ (State.liveEnd s).dist = s.dist ∧ (State.liveEnd s).bat = s.bat ∧ (State.liveEnd s).seq = s.seq ∧ (State.liveEnd s).thm = s.thm ∧ (State.liveEnd s).eng = s.eng ∧ (State.liveEnd s).net = s.net ∧ (State.liveEnd s).twin = s.twin ∧ (State.liveEnd s).casc = s.casc ∧ (State.liveEnd s).rst = s.rst ∧ (State.liveEnd s).mem = s.mem ∧ (State.liveEnd s).evr = s.evr := by
  unfold State.liveEnd; (try dsimp only); (repeat' split) <;> simp

@[simp] theorem State.liveStep_frame (e : Fin 8) (s : State) :
    (State.liveStep e s).pending = s.pending ∧ (State.liveStep e s).now = s.now ∧ (State.liveStep e s).free = s.free ∧ (State.liveStep e s).arch = s.arch ∧ (State.liveStep e s).pins = s.pins ∧ (State.liveStep e s).tb = s.tb ∧ (State.liveStep e s).meas = s.meas ∧ (State.liveStep e s).lane = s.lane ∧ (State.liveStep e s).snap = s.snap ∧ (State.liveStep e s).phase = s.phase ∧ (State.liveStep e s).loop = s.loop ∧ (State.liveStep e s).shelf = s.shelf ∧ (State.liveStep e s).dist = s.dist ∧ (State.liveStep e s).bat = s.bat ∧ (State.liveStep e s).seq = s.seq ∧ (State.liveStep e s).thm = s.thm ∧ (State.liveStep e s).net = s.net ∧ (State.liveStep e s).twin = s.twin ∧ (State.liveStep e s).casc = s.casc ∧ (State.liveStep e s).rst = s.rst ∧ (State.liveStep e s).mem = s.mem ∧ (State.liveStep e s).evr = s.evr := by
  unfold State.liveStep; (try dsimp only); (repeat' split) <;> simp

@[simp] theorem State.slotReverted_frame  (s : State) :
    (State.slotReverted s).pending = s.pending ∧ (State.slotReverted s).now = s.now ∧ (State.slotReverted s).free = s.free ∧ (State.slotReverted s).arch = s.arch ∧ (State.slotReverted s).pins = s.pins ∧ (State.slotReverted s).tb = s.tb ∧ (State.slotReverted s).meas = s.meas ∧ (State.slotReverted s).lane = s.lane ∧ (State.slotReverted s).snap = s.snap ∧ (State.slotReverted s).phase = s.phase ∧ (State.slotReverted s).loop = s.loop ∧ (State.slotReverted s).shelf = s.shelf ∧ (State.slotReverted s).dist = s.dist ∧ (State.slotReverted s).bat = s.bat ∧ (State.slotReverted s).seq = s.seq ∧ (State.slotReverted s).thm = s.thm ∧ (State.slotReverted s).eng = s.eng ∧ (State.slotReverted s).net = s.net ∧ (State.slotReverted s).twin = s.twin ∧ (State.slotReverted s).casc = s.casc ∧ (State.slotReverted s).rst = s.rst ∧ (State.slotReverted s).mem = s.mem ∧ (State.slotReverted s).evr = s.evr := by
  unfold State.slotReverted; (try dsimp only); (repeat' split) <;> simp

@[simp] theorem State.liveAbort_frame (e : Fin 8) (s : State) :
    (State.liveAbort e s).pending = s.pending ∧ (State.liveAbort e s).now = s.now ∧ (State.liveAbort e s).free = s.free ∧ (State.liveAbort e s).arch = s.arch ∧ (State.liveAbort e s).pins = s.pins ∧ (State.liveAbort e s).tb = s.tb ∧ (State.liveAbort e s).meas = s.meas ∧ (State.liveAbort e s).lane = s.lane ∧ (State.liveAbort e s).snap = s.snap ∧ (State.liveAbort e s).phase = s.phase ∧ (State.liveAbort e s).loop = s.loop ∧ (State.liveAbort e s).shelf = s.shelf ∧ (State.liveAbort e s).dist = s.dist ∧ (State.liveAbort e s).bat = s.bat ∧ (State.liveAbort e s).seq = s.seq ∧ (State.liveAbort e s).thm = s.thm ∧ (State.liveAbort e s).twin = s.twin ∧ (State.liveAbort e s).casc = s.casc ∧ (State.liveAbort e s).rst = s.rst ∧ (State.liveAbort e s).mem = s.mem := by
  unfold State.liveAbort; (try dsimp only); (repeat' split) <;> simp

@[simp] theorem State.liveRevert_frame  (s : State) :
    (State.liveRevert s).pending = s.pending ∧ (State.liveRevert s).now = s.now ∧ (State.liveRevert s).free = s.free ∧ (State.liveRevert s).arch = s.arch ∧ (State.liveRevert s).pins = s.pins ∧ (State.liveRevert s).tb = s.tb ∧ (State.liveRevert s).meas = s.meas ∧ (State.liveRevert s).lane = s.lane ∧ (State.liveRevert s).snap = s.snap ∧ (State.liveRevert s).phase = s.phase ∧ (State.liveRevert s).loop = s.loop ∧ (State.liveRevert s).shelf = s.shelf ∧ (State.liveRevert s).dist = s.dist ∧ (State.liveRevert s).bat = s.bat ∧ (State.liveRevert s).seq = s.seq ∧ (State.liveRevert s).thm = s.thm ∧ (State.liveRevert s).net = s.net ∧ (State.liveRevert s).twin = s.twin ∧ (State.liveRevert s).casc = s.casc ∧ (State.liveRevert s).rst = s.rst ∧ (State.liveRevert s).mem = s.mem ∧ (State.liveRevert s).evr = s.evr := by
  unfold State.liveRevert; (try dsimp only); (repeat' split) <;> simp

@[simp] theorem State.testPassed_frame (e : Fin 8) (s : State) :
    (State.testPassed e s).pending = s.pending ∧ (State.testPassed e s).now = s.now ∧ (State.testPassed e s).free = s.free ∧ (State.testPassed e s).arch = s.arch ∧ (State.testPassed e s).pins = s.pins ∧ (State.testPassed e s).tb = s.tb ∧ (State.testPassed e s).meas = s.meas ∧ (State.testPassed e s).lane = s.lane ∧ (State.testPassed e s).snap = s.snap ∧ (State.testPassed e s).phase = s.phase ∧ (State.testPassed e s).loop = s.loop ∧ (State.testPassed e s).shelf = s.shelf ∧ (State.testPassed e s).dist = s.dist ∧ (State.testPassed e s).bat = s.bat ∧ (State.testPassed e s).seq = s.seq ∧ (State.testPassed e s).thm = s.thm ∧ (State.testPassed e s).net = s.net ∧ (State.testPassed e s).twin = s.twin ∧ (State.testPassed e s).casc = s.casc ∧ (State.testPassed e s).rst = s.rst ∧ (State.testPassed e s).mem = s.mem ∧ (State.testPassed e s).evr = s.evr := by
  unfold State.testPassed; (try dsimp only); (repeat' split) <;> simp

@[simp] theorem State.postBell_frame (q : Fin 64) (s : State) :
    (State.postBell q s).pending = s.pending ∧ (State.postBell q s).now = s.now ∧ (State.postBell q s).timers = s.timers ∧ (State.postBell q s).free = s.free ∧ (State.postBell q s).arch = s.arch ∧ (State.postBell q s).tb = s.tb ∧ (State.postBell q s).meas = s.meas ∧ (State.postBell q s).lane = s.lane ∧ (State.postBell q s).snap = s.snap ∧ (State.postBell q s).phase = s.phase ∧ (State.postBell q s).loop = s.loop ∧ (State.postBell q s).shelf = s.shelf ∧ (State.postBell q s).dist = s.dist ∧ (State.postBell q s).bat = s.bat ∧ (State.postBell q s).seq = s.seq ∧ (State.postBell q s).thm = s.thm ∧ (State.postBell q s).net = s.net ∧ (State.postBell q s).twin = s.twin ∧ (State.postBell q s).casc = s.casc ∧ (State.postBell q s).rst = s.rst ∧ (State.postBell q s).mem = s.mem ∧ (State.postBell q s).evr = s.evr ∧ (State.postBell q s).upd = s.upd := by
  unfold State.postBell; (try dsimp only); (repeat' split) <;> simp

@[simp] theorem State.ackBell_frame (q : Fin 64) (s : State) :
    (State.ackBell q s).pending = s.pending ∧ (State.ackBell q s).now = s.now ∧ (State.ackBell q s).timers = s.timers ∧ (State.ackBell q s).free = s.free ∧ (State.ackBell q s).arch = s.arch ∧ (State.ackBell q s).tb = s.tb ∧ (State.ackBell q s).meas = s.meas ∧ (State.ackBell q s).lane = s.lane ∧ (State.ackBell q s).snap = s.snap ∧ (State.ackBell q s).phase = s.phase ∧ (State.ackBell q s).loop = s.loop ∧ (State.ackBell q s).shelf = s.shelf ∧ (State.ackBell q s).dist = s.dist ∧ (State.ackBell q s).bat = s.bat ∧ (State.ackBell q s).seq = s.seq ∧ (State.ackBell q s).thm = s.thm ∧ (State.ackBell q s).net = s.net ∧ (State.ackBell q s).twin = s.twin ∧ (State.ackBell q s).casc = s.casc ∧ (State.ackBell q s).rst = s.rst ∧ (State.ackBell q s).mem = s.mem ∧ (State.ackBell q s).evr = s.evr ∧ (State.ackBell q s).upd = s.upd := by
  unfold State.ackBell; (try dsimp only); (repeat' split) <;> simp

@[simp] theorem State.fullCheck_frame (q : Fin 64) (s : State) :
    (State.fullCheck q s).pending = s.pending ∧ (State.fullCheck q s).now = s.now ∧ (State.fullCheck q s).timers = s.timers ∧ (State.fullCheck q s).free = s.free ∧ (State.fullCheck q s).arch = s.arch ∧ (State.fullCheck q s).tb = s.tb ∧ (State.fullCheck q s).meas = s.meas ∧ (State.fullCheck q s).lane = s.lane ∧ (State.fullCheck q s).snap = s.snap ∧ (State.fullCheck q s).phase = s.phase ∧ (State.fullCheck q s).loop = s.loop ∧ (State.fullCheck q s).shelf = s.shelf ∧ (State.fullCheck q s).dist = s.dist ∧ (State.fullCheck q s).bat = s.bat ∧ (State.fullCheck q s).seq = s.seq ∧ (State.fullCheck q s).thm = s.thm ∧ (State.fullCheck q s).net = s.net ∧ (State.fullCheck q s).twin = s.twin ∧ (State.fullCheck q s).casc = s.casc ∧ (State.fullCheck q s).rst = s.rst ∧ (State.fullCheck q s).mem = s.mem ∧ (State.fullCheck q s).evr = s.evr ∧ (State.fullCheck q s).upd = s.upd := by
  unfold State.fullCheck; (try dsimp only); (repeat' split) <;> simp

@[simp] theorem State.storeAck_frame (q : Fin 64) (k : Fin 16) (code : Nat) (s : State) :
    (State.storeAck q k code s).pending = s.pending ∧ (State.storeAck q k code s).now = s.now ∧ (State.storeAck q k code s).timers = s.timers ∧ (State.storeAck q k code s).free = s.free ∧ (State.storeAck q k code s).arch = s.arch ∧ (State.storeAck q k code s).tb = s.tb ∧ (State.storeAck q k code s).meas = s.meas ∧ (State.storeAck q k code s).lane = s.lane ∧ (State.storeAck q k code s).snap = s.snap ∧ (State.storeAck q k code s).phase = s.phase ∧ (State.storeAck q k code s).loop = s.loop ∧ (State.storeAck q k code s).shelf = s.shelf ∧ (State.storeAck q k code s).dist = s.dist ∧ (State.storeAck q k code s).bat = s.bat ∧ (State.storeAck q k code s).seq = s.seq ∧ (State.storeAck q k code s).thm = s.thm ∧ (State.storeAck q k code s).net = s.net ∧ (State.storeAck q k code s).twin = s.twin ∧ (State.storeAck q k code s).casc = s.casc ∧ (State.storeAck q k code s).rst = s.rst ∧ (State.storeAck q k code s).mem = s.mem ∧ (State.storeAck q k code s).evr = s.evr ∧ (State.storeAck q k code s).upd = s.upd := by
  unfold State.storeAck; (try dsimp only); (repeat' split) <;> simp

@[simp] theorem State.proxySend_frame (q : Fin 64) (k : Fin 16) (s : State) :
    (State.proxySend q k s).pending = s.pending ∧ (State.proxySend q k s).now = s.now ∧ (State.proxySend q k s).free = s.free ∧ (State.proxySend q k s).arch = s.arch ∧ (State.proxySend q k s).tb = s.tb ∧ (State.proxySend q k s).meas = s.meas ∧ (State.proxySend q k s).lane = s.lane ∧ (State.proxySend q k s).snap = s.snap ∧ (State.proxySend q k s).phase = s.phase ∧ (State.proxySend q k s).loop = s.loop ∧ (State.proxySend q k s).shelf = s.shelf ∧ (State.proxySend q k s).dist = s.dist ∧ (State.proxySend q k s).bat = s.bat ∧ (State.proxySend q k s).seq = s.seq ∧ (State.proxySend q k s).thm = s.thm ∧ (State.proxySend q k s).net = s.net ∧ (State.proxySend q k s).casc = s.casc ∧ (State.proxySend q k s).rst = s.rst ∧ (State.proxySend q k s).mem = s.mem ∧ (State.proxySend q k s).evr = s.evr ∧ (State.proxySend q k s).upd = s.upd := by
  unfold State.proxySend; (try dsimp only); (repeat' split) <;> simp

@[simp] theorem State.proxyReply_frame (q : Fin 64) (k : Fin 16) (code : Nat) (s : State) :
    (State.proxyReply q k code s).pending = s.pending ∧ (State.proxyReply q k code s).now = s.now ∧ (State.proxyReply q k code s).timers = s.timers ∧ (State.proxyReply q k code s).free = s.free ∧ (State.proxyReply q k code s).arch = s.arch ∧ (State.proxyReply q k code s).pins = s.pins ∧ (State.proxyReply q k code s).tb = s.tb ∧ (State.proxyReply q k code s).meas = s.meas ∧ (State.proxyReply q k code s).lane = s.lane ∧ (State.proxyReply q k code s).snap = s.snap ∧ (State.proxyReply q k code s).phase = s.phase ∧ (State.proxyReply q k code s).loop = s.loop ∧ (State.proxyReply q k code s).shelf = s.shelf ∧ (State.proxyReply q k code s).dist = s.dist ∧ (State.proxyReply q k code s).bat = s.bat ∧ (State.proxyReply q k code s).seq = s.seq ∧ (State.proxyReply q k code s).thm = s.thm ∧ (State.proxyReply q k code s).eng = s.eng ∧ (State.proxyReply q k code s).net = s.net ∧ (State.proxyReply q k code s).casc = s.casc ∧ (State.proxyReply q k code s).rst = s.rst ∧ (State.proxyReply q k code s).mem = s.mem ∧ (State.proxyReply q k code s).evr = s.evr ∧ (State.proxyReply q k code s).upd = s.upd := by
  unfold State.proxyReply; (try dsimp only); (repeat' split) <;> simp

@[simp] theorem State.ack_frame (who : Fin 11) (q : Fin 64) (k : Fin 16) (code : Nat) (s : State) :
    (State.ack who q k code s).pending = s.pending ∧ (State.ack who q k code s).now = s.now ∧ (State.ack who q k code s).free = s.free ∧ (State.ack who q k code s).arch = s.arch ∧ (State.ack who q k code s).tb = s.tb ∧ (State.ack who q k code s).meas = s.meas ∧ (State.ack who q k code s).lane = s.lane ∧ (State.ack who q k code s).snap = s.snap ∧ (State.ack who q k code s).phase = s.phase ∧ (State.ack who q k code s).loop = s.loop ∧ (State.ack who q k code s).shelf = s.shelf ∧ (State.ack who q k code s).dist = s.dist ∧ (State.ack who q k code s).bat = s.bat ∧ (State.ack who q k code s).seq = s.seq ∧ (State.ack who q k code s).thm = s.thm ∧ (State.ack who q k code s).casc = s.casc ∧ (State.ack who q k code s).rst = s.rst ∧ (State.ack who q k code s).mem = s.mem ∧ (State.ack who q k code s).upd = s.upd := by
  unfold State.ack; (try dsimp only); (repeat' split) <;> simp

@[simp] theorem State.hostBump_frame  (s : State) :
    (State.hostBump s).pending = s.pending ∧ (State.hostBump s).now = s.now ∧ (State.hostBump s).free = s.free ∧ (State.hostBump s).arch = s.arch ∧ (State.hostBump s).tb = s.tb ∧ (State.hostBump s).meas = s.meas ∧ (State.hostBump s).lane = s.lane ∧ (State.hostBump s).snap = s.snap ∧ (State.hostBump s).phase = s.phase ∧ (State.hostBump s).loop = s.loop ∧ (State.hostBump s).shelf = s.shelf ∧ (State.hostBump s).dist = s.dist ∧ (State.hostBump s).bat = s.bat ∧ (State.hostBump s).seq = s.seq ∧ (State.hostBump s).thm = s.thm ∧ (State.hostBump s).twin = s.twin ∧ (State.hostBump s).casc = s.casc ∧ (State.hostBump s).rst = s.rst ∧ (State.hostBump s).mem = s.mem ∧ (State.hostBump s).upd = s.upd := by
  unfold State.hostBump; (try dsimp only); (repeat' split) <;> simp

@[simp] theorem State.lockAcquire_frame (who : Fin 11) (n : Fin 64) (s : State) :
    (State.lockAcquire who n s).pending = s.pending ∧ (State.lockAcquire who n s).now = s.now ∧ (State.lockAcquire who n s).timers = s.timers ∧ (State.lockAcquire who n s).free = s.free ∧ (State.lockAcquire who n s).arch = s.arch ∧ (State.lockAcquire who n s).pins = s.pins ∧ (State.lockAcquire who n s).tb = s.tb ∧ (State.lockAcquire who n s).meas = s.meas ∧ (State.lockAcquire who n s).lane = s.lane ∧ (State.lockAcquire who n s).snap = s.snap ∧ (State.lockAcquire who n s).phase = s.phase ∧ (State.lockAcquire who n s).loop = s.loop ∧ (State.lockAcquire who n s).shelf = s.shelf ∧ (State.lockAcquire who n s).dist = s.dist ∧ (State.lockAcquire who n s).bat = s.bat ∧ (State.lockAcquire who n s).seq = s.seq ∧ (State.lockAcquire who n s).thm = s.thm ∧ (State.lockAcquire who n s).net = s.net ∧ (State.lockAcquire who n s).twin = s.twin ∧ (State.lockAcquire who n s).casc = s.casc ∧ (State.lockAcquire who n s).rst = s.rst ∧ (State.lockAcquire who n s).mem = s.mem ∧ (State.lockAcquire who n s).evr = s.evr ∧ (State.lockAcquire who n s).upd = s.upd := by
  unfold State.lockAcquire; (try dsimp only); (repeat' split) <;> simp

@[simp] theorem State.lockRelease_frame (who : Fin 11) (n : Fin 64) (s : State) :
    (State.lockRelease who n s).pending = s.pending ∧ (State.lockRelease who n s).now = s.now ∧ (State.lockRelease who n s).free = s.free ∧ (State.lockRelease who n s).arch = s.arch ∧ (State.lockRelease who n s).tb = s.tb ∧ (State.lockRelease who n s).meas = s.meas ∧ (State.lockRelease who n s).lane = s.lane ∧ (State.lockRelease who n s).snap = s.snap ∧ (State.lockRelease who n s).phase = s.phase ∧ (State.lockRelease who n s).loop = s.loop ∧ (State.lockRelease who n s).shelf = s.shelf ∧ (State.lockRelease who n s).dist = s.dist ∧ (State.lockRelease who n s).bat = s.bat ∧ (State.lockRelease who n s).seq = s.seq ∧ (State.lockRelease who n s).thm = s.thm ∧ (State.lockRelease who n s).twin = s.twin ∧ (State.lockRelease who n s).casc = s.casc ∧ (State.lockRelease who n s).rst = s.rst ∧ (State.lockRelease who n s).mem = s.mem ∧ (State.lockRelease who n s).upd = s.upd := by
  unfold State.lockRelease; (try dsimp only); (repeat' split) <;> simp

@[simp] theorem State.lockArm_frame (who : Fin 11) (n : Fin 64) (s : State) :
    (State.lockArm who n s).pending = s.pending ∧ (State.lockArm who n s).now = s.now ∧ (State.lockArm who n s).timers = s.timers ∧ (State.lockArm who n s).free = s.free ∧ (State.lockArm who n s).arch = s.arch ∧ (State.lockArm who n s).tb = s.tb ∧ (State.lockArm who n s).meas = s.meas ∧ (State.lockArm who n s).lane = s.lane ∧ (State.lockArm who n s).snap = s.snap ∧ (State.lockArm who n s).phase = s.phase ∧ (State.lockArm who n s).loop = s.loop ∧ (State.lockArm who n s).shelf = s.shelf ∧ (State.lockArm who n s).dist = s.dist ∧ (State.lockArm who n s).bat = s.bat ∧ (State.lockArm who n s).seq = s.seq ∧ (State.lockArm who n s).thm = s.thm ∧ (State.lockArm who n s).net = s.net ∧ (State.lockArm who n s).twin = s.twin ∧ (State.lockArm who n s).casc = s.casc ∧ (State.lockArm who n s).rst = s.rst ∧ (State.lockArm who n s).mem = s.mem ∧ (State.lockArm who n s).evr = s.evr ∧ (State.lockArm who n s).upd = s.upd := by
  unfold State.lockArm; (try dsimp only); (repeat' split) <;> simp

@[simp] theorem State.acceptCommit_frame (kind : CommitKind) (set : List (Nat × Nat)) (s : State) :
    (State.acceptCommit kind set s).pending = s.pending ∧ (State.acceptCommit kind set s).now = s.now ∧ (State.acceptCommit kind set s).free = s.free ∧ (State.acceptCommit kind set s).arch = s.arch ∧ (State.acceptCommit kind set s).pins = s.pins ∧ (State.acceptCommit kind set s).tb = s.tb ∧ (State.acceptCommit kind set s).meas = s.meas ∧ (State.acceptCommit kind set s).lane = s.lane ∧ (State.acceptCommit kind set s).snap = s.snap ∧ (State.acceptCommit kind set s).phase = s.phase ∧ (State.acceptCommit kind set s).loop = s.loop ∧ (State.acceptCommit kind set s).shelf = s.shelf ∧ (State.acceptCommit kind set s).dist = s.dist ∧ (State.acceptCommit kind set s).bat = s.bat ∧ (State.acceptCommit kind set s).seq = s.seq ∧ (State.acceptCommit kind set s).thm = s.thm ∧ (State.acceptCommit kind set s).eng = s.eng ∧ (State.acceptCommit kind set s).twin = s.twin ∧ (State.acceptCommit kind set s).casc = s.casc ∧ (State.acceptCommit kind set s).rst = s.rst ∧ (State.acceptCommit kind set s).mem = s.mem ∧ (State.acceptCommit kind set s).evr = s.evr ∧ (State.acceptCommit kind set s).upd = s.upd := by
  unfold State.acceptCommit; (try dsimp only); (repeat' split) <;> simp

@[simp] theorem State.clearShadow_frame  (s : State) :
    (State.clearShadow s).pending = s.pending ∧ (State.clearShadow s).now = s.now ∧ (State.clearShadow s).timers = s.timers ∧ (State.clearShadow s).free = s.free ∧ (State.clearShadow s).arch = s.arch ∧ (State.clearShadow s).pins = s.pins ∧ (State.clearShadow s).tb = s.tb ∧ (State.clearShadow s).meas = s.meas ∧ (State.clearShadow s).lane = s.lane ∧ (State.clearShadow s).snap = s.snap ∧ (State.clearShadow s).phase = s.phase ∧ (State.clearShadow s).loop = s.loop ∧ (State.clearShadow s).shelf = s.shelf ∧ (State.clearShadow s).dist = s.dist ∧ (State.clearShadow s).bat = s.bat ∧ (State.clearShadow s).seq = s.seq ∧ (State.clearShadow s).thm = s.thm ∧ (State.clearShadow s).eng = s.eng ∧ (State.clearShadow s).twin = s.twin ∧ (State.clearShadow s).casc = s.casc ∧ (State.clearShadow s).rst = s.rst ∧ (State.clearShadow s).mem = s.mem ∧ (State.clearShadow s).evr = s.evr ∧ (State.clearShadow s).upd = s.upd := by
  unfold State.clearShadow; (try dsimp only); (repeat' split) <;> simp

@[simp] theorem State.beginPairing_frame  (s : State) :
    (State.beginPairing s).pending = s.pending ∧ (State.beginPairing s).now = s.now ∧ (State.beginPairing s).free = s.free ∧ (State.beginPairing s).arch = s.arch ∧ (State.beginPairing s).pins = s.pins ∧ (State.beginPairing s).tb = s.tb ∧ (State.beginPairing s).meas = s.meas ∧ (State.beginPairing s).lane = s.lane ∧ (State.beginPairing s).snap = s.snap ∧ (State.beginPairing s).phase = s.phase ∧ (State.beginPairing s).loop = s.loop ∧ (State.beginPairing s).shelf = s.shelf ∧ (State.beginPairing s).dist = s.dist ∧ (State.beginPairing s).bat = s.bat ∧ (State.beginPairing s).seq = s.seq ∧ (State.beginPairing s).thm = s.thm ∧ (State.beginPairing s).eng = s.eng ∧ (State.beginPairing s).net = s.net ∧ (State.beginPairing s).casc = s.casc ∧ (State.beginPairing s).rst = s.rst ∧ (State.beginPairing s).mem = s.mem ∧ (State.beginPairing s).evr = s.evr ∧ (State.beginPairing s).upd = s.upd := by
  unfold State.beginPairing; (try dsimp only); (repeat' split) <;> simp

@[simp] theorem State.serviceMode_frame  (s : State) :
    (State.serviceMode s).pending = s.pending ∧ (State.serviceMode s).now = s.now ∧ (State.serviceMode s).timers = s.timers ∧ (State.serviceMode s).free = s.free ∧ (State.serviceMode s).arch = s.arch ∧ (State.serviceMode s).tb = s.tb ∧ (State.serviceMode s).meas = s.meas ∧ (State.serviceMode s).lane = s.lane ∧ (State.serviceMode s).snap = s.snap ∧ (State.serviceMode s).phase = s.phase ∧ (State.serviceMode s).loop = s.loop ∧ (State.serviceMode s).shelf = s.shelf ∧ (State.serviceMode s).dist = s.dist ∧ (State.serviceMode s).bat = s.bat ∧ (State.serviceMode s).seq = s.seq ∧ (State.serviceMode s).thm = s.thm ∧ (State.serviceMode s).net = s.net ∧ (State.serviceMode s).twin = s.twin ∧ (State.serviceMode s).casc = s.casc ∧ (State.serviceMode s).rst = s.rst ∧ (State.serviceMode s).mem = s.mem ∧ (State.serviceMode s).evr = s.evr ∧ (State.serviceMode s).upd = s.upd := by
  unfold State.serviceMode; (try dsimp only); (repeat' split) <;> simp

@[simp] theorem State.bootOver_frame  (s : State) :
    (State.bootOver s).pending = s.pending ∧ (State.bootOver s).now = s.now ∧ (State.bootOver s).free = s.free ∧ (State.bootOver s).arch = s.arch ∧ (State.bootOver s).tb = s.tb ∧ (State.bootOver s).meas = s.meas ∧ (State.bootOver s).lane = s.lane ∧ (State.bootOver s).snap = s.snap ∧ (State.bootOver s).phase = s.phase ∧ (State.bootOver s).loop = s.loop ∧ (State.bootOver s).shelf = s.shelf ∧ (State.bootOver s).dist = s.dist ∧ (State.bootOver s).bat = s.bat ∧ (State.bootOver s).seq = s.seq ∧ (State.bootOver s).thm = s.thm ∧ (State.bootOver s).casc = s.casc ∧ (State.bootOver s).mem = s.mem ∧ (State.bootOver s).evr = s.evr ∧ (State.bootOver s).upd = s.upd := by
  unfold State.bootOver; (try dsimp only); (repeat' split) <;> simp

@[simp] theorem State.commitDefaults_frame  (s : State) :
    (State.commitDefaults s).pending = s.pending ∧ (State.commitDefaults s).now = s.now ∧ (State.commitDefaults s).free = s.free ∧ (State.commitDefaults s).arch = s.arch ∧ (State.commitDefaults s).tb = s.tb ∧ (State.commitDefaults s).meas = s.meas ∧ (State.commitDefaults s).lane = s.lane ∧ (State.commitDefaults s).snap = s.snap ∧ (State.commitDefaults s).phase = s.phase ∧ (State.commitDefaults s).loop = s.loop ∧ (State.commitDefaults s).shelf = s.shelf ∧ (State.commitDefaults s).dist = s.dist ∧ (State.commitDefaults s).bat = s.bat ∧ (State.commitDefaults s).seq = s.seq ∧ (State.commitDefaults s).thm = s.thm ∧ (State.commitDefaults s).twin = s.twin ∧ (State.commitDefaults s).casc = s.casc ∧ (State.commitDefaults s).rst = s.rst ∧ (State.commitDefaults s).mem = s.mem ∧ (State.commitDefaults s).upd = s.upd := by
  unfold State.commitDefaults; (try dsimp only); (repeat' split) <;> simp

@[simp] theorem State.afterFailure_frame  (s : State) :
    (State.afterFailure s).pending = s.pending ∧ (State.afterFailure s).now = s.now ∧ (State.afterFailure s).free = s.free ∧ (State.afterFailure s).arch = s.arch ∧ (State.afterFailure s).tb = s.tb ∧ (State.afterFailure s).meas = s.meas ∧ (State.afterFailure s).lane = s.lane ∧ (State.afterFailure s).snap = s.snap ∧ (State.afterFailure s).phase = s.phase ∧ (State.afterFailure s).loop = s.loop ∧ (State.afterFailure s).shelf = s.shelf ∧ (State.afterFailure s).dist = s.dist ∧ (State.afterFailure s).bat = s.bat ∧ (State.afterFailure s).seq = s.seq ∧ (State.afterFailure s).thm = s.thm ∧ (State.afterFailure s).casc = s.casc ∧ (State.afterFailure s).mem = s.mem ∧ (State.afterFailure s).upd = s.upd := by
  unfold State.afterFailure; (try dsimp only); (repeat' split) <;> simp

@[simp] theorem State.dropTimers_frame (object : Nat) (s : State) :
    (State.dropTimers object s).pending = s.pending ∧ (State.dropTimers object s).now = s.now ∧ (State.dropTimers object s).timers = s.timers ∧ (State.dropTimers object s).free = s.free ∧ (State.dropTimers object s).arch = s.arch ∧ (State.dropTimers object s).pins = s.pins ∧ (State.dropTimers object s).meas = s.meas ∧ (State.dropTimers object s).lane = s.lane ∧ (State.dropTimers object s).snap = s.snap ∧ (State.dropTimers object s).phase = s.phase ∧ (State.dropTimers object s).loop = s.loop ∧ (State.dropTimers object s).shelf = s.shelf ∧ (State.dropTimers object s).dist = s.dist ∧ (State.dropTimers object s).bat = s.bat ∧ (State.dropTimers object s).seq = s.seq ∧ (State.dropTimers object s).thm = s.thm ∧ (State.dropTimers object s).eng = s.eng ∧ (State.dropTimers object s).net = s.net ∧ (State.dropTimers object s).twin = s.twin ∧ (State.dropTimers object s).casc = s.casc ∧ (State.dropTimers object s).rst = s.rst ∧ (State.dropTimers object s).mem = s.mem ∧ (State.dropTimers object s).evr = s.evr ∧ (State.dropTimers object s).upd = s.upd := by
  unfold State.dropTimers; (try dsimp only); (repeat' split) <;> simp

@[simp] theorem State.refuseCommit_frame (r : CommitRefusal) (s : State) :
    (State.refuseCommit r s).pending = s.pending ∧ (State.refuseCommit r s).now = s.now ∧ (State.refuseCommit r s).free = s.free ∧ (State.refuseCommit r s).arch = s.arch ∧ (State.refuseCommit r s).meas = s.meas ∧ (State.refuseCommit r s).lane = s.lane ∧ (State.refuseCommit r s).snap = s.snap ∧ (State.refuseCommit r s).phase = s.phase ∧ (State.refuseCommit r s).loop = s.loop ∧ (State.refuseCommit r s).shelf = s.shelf ∧ (State.refuseCommit r s).dist = s.dist ∧ (State.refuseCommit r s).bat = s.bat ∧ (State.refuseCommit r s).seq = s.seq ∧ (State.refuseCommit r s).thm = s.thm ∧ (State.refuseCommit r s).casc = s.casc ∧ (State.refuseCommit r s).mem = s.mem ∧ (State.refuseCommit r s).upd = s.upd := by
  unfold State.refuseCommit; (try dsimp only); (repeat' split) <;> simp

@[simp] theorem State.rolledBack_frame  (s : State) :
    (State.rolledBack s).pending = s.pending ∧ (State.rolledBack s).now = s.now ∧ (State.rolledBack s).free = s.free ∧ (State.rolledBack s).arch = s.arch ∧ (State.rolledBack s).tb = s.tb ∧ (State.rolledBack s).meas = s.meas ∧ (State.rolledBack s).lane = s.lane ∧ (State.rolledBack s).snap = s.snap ∧ (State.rolledBack s).phase = s.phase ∧ (State.rolledBack s).loop = s.loop ∧ (State.rolledBack s).shelf = s.shelf ∧ (State.rolledBack s).dist = s.dist ∧ (State.rolledBack s).bat = s.bat ∧ (State.rolledBack s).seq = s.seq ∧ (State.rolledBack s).thm = s.thm ∧ (State.rolledBack s).casc = s.casc ∧ (State.rolledBack s).mem = s.mem ∧ (State.rolledBack s).upd = s.upd := by
  unfold State.rolledBack; (try dsimp only); (repeat' split) <;> simp

@[simp] theorem State.blockRefuses_frame (r : CommitRefusal) (s : State) :
    (State.blockRefuses r s).pending = s.pending ∧ (State.blockRefuses r s).now = s.now ∧ (State.blockRefuses r s).free = s.free ∧ (State.blockRefuses r s).arch = s.arch ∧ (State.blockRefuses r s).tb = s.tb ∧ (State.blockRefuses r s).meas = s.meas ∧ (State.blockRefuses r s).lane = s.lane ∧ (State.blockRefuses r s).snap = s.snap ∧ (State.blockRefuses r s).phase = s.phase ∧ (State.blockRefuses r s).loop = s.loop ∧ (State.blockRefuses r s).shelf = s.shelf ∧ (State.blockRefuses r s).dist = s.dist ∧ (State.blockRefuses r s).bat = s.bat ∧ (State.blockRefuses r s).seq = s.seq ∧ (State.blockRefuses r s).thm = s.thm ∧ (State.blockRefuses r s).casc = s.casc ∧ (State.blockRefuses r s).mem = s.mem ∧ (State.blockRefuses r s).upd = s.upd := by
  unfold State.blockRefuses; (try dsimp only); (repeat' split) <;> simp

@[simp] theorem State.bootFrom_frame (c : CfgCopy) (s : State) :
    (State.bootFrom c s).pending = s.pending ∧ (State.bootFrom c s).now = s.now ∧ (State.bootFrom c s).free = s.free ∧ (State.bootFrom c s).arch = s.arch ∧ (State.bootFrom c s).pins = s.pins ∧ (State.bootFrom c s).tb = s.tb ∧ (State.bootFrom c s).meas = s.meas ∧ (State.bootFrom c s).lane = s.lane ∧ (State.bootFrom c s).snap = s.snap ∧ (State.bootFrom c s).phase = s.phase ∧ (State.bootFrom c s).loop = s.loop ∧ (State.bootFrom c s).shelf = s.shelf ∧ (State.bootFrom c s).dist = s.dist ∧ (State.bootFrom c s).bat = s.bat ∧ (State.bootFrom c s).seq = s.seq ∧ (State.bootFrom c s).thm = s.thm ∧ (State.bootFrom c s).eng = s.eng ∧ (State.bootFrom c s).twin = s.twin ∧ (State.bootFrom c s).casc = s.casc ∧ (State.bootFrom c s).rst = s.rst ∧ (State.bootFrom c s).mem = s.mem ∧ (State.bootFrom c s).evr = s.evr ∧ (State.bootFrom c s).upd = s.upd := by
  unfold State.bootFrom; (try dsimp only); (repeat' split) <;> simp

@[simp] theorem State.storeStart_frame (sub : Nat) (by_ : StoreBy) (s : State) :
    (State.storeStart sub by_ s).pending = s.pending ∧ (State.storeStart sub by_ s).now = s.now ∧ (State.storeStart sub by_ s).free = s.free ∧ (State.storeStart sub by_ s).arch = s.arch ∧ (State.storeStart sub by_ s).pins = s.pins ∧ (State.storeStart sub by_ s).tb = s.tb ∧ (State.storeStart sub by_ s).meas = s.meas ∧ (State.storeStart sub by_ s).lane = s.lane ∧ (State.storeStart sub by_ s).snap = s.snap ∧ (State.storeStart sub by_ s).phase = s.phase ∧ (State.storeStart sub by_ s).loop = s.loop ∧ (State.storeStart sub by_ s).shelf = s.shelf ∧ (State.storeStart sub by_ s).dist = s.dist ∧ (State.storeStart sub by_ s).bat = s.bat ∧ (State.storeStart sub by_ s).seq = s.seq ∧ (State.storeStart sub by_ s).thm = s.thm ∧ (State.storeStart sub by_ s).eng = s.eng ∧ (State.storeStart sub by_ s).casc = s.casc ∧ (State.storeStart sub by_ s).rst = s.rst ∧ (State.storeStart sub by_ s).mem = s.mem ∧ (State.storeStart sub by_ s).evr = s.evr ∧ (State.storeStart sub by_ s).upd = s.upd := by
  unfold State.storeStart; (try dsimp only); (repeat' split) <;> simp

@[simp] theorem State.beginPass_frame (m : MemKind) (s : State) :
    (State.beginPass m s).pending = s.pending ∧ (State.beginPass m s).now = s.now ∧ (State.beginPass m s).free = s.free ∧ (State.beginPass m s).arch = s.arch ∧ (State.beginPass m s).pins = s.pins ∧ (State.beginPass m s).tb = s.tb ∧ (State.beginPass m s).meas = s.meas ∧ (State.beginPass m s).lane = s.lane ∧ (State.beginPass m s).snap = s.snap ∧ (State.beginPass m s).phase = s.phase ∧ (State.beginPass m s).loop = s.loop ∧ (State.beginPass m s).shelf = s.shelf ∧ (State.beginPass m s).dist = s.dist ∧ (State.beginPass m s).bat = s.bat ∧ (State.beginPass m s).seq = s.seq ∧ (State.beginPass m s).thm = s.thm ∧ (State.beginPass m s).eng = s.eng ∧ (State.beginPass m s).net = s.net ∧ (State.beginPass m s).twin = s.twin ∧ (State.beginPass m s).casc = s.casc ∧ (State.beginPass m s).rst = s.rst ∧ (State.beginPass m s).evr = s.evr ∧ (State.beginPass m s).upd = s.upd := by
  unfold State.beginPass; (try dsimp only); (repeat' split) <;> simp

@[simp] theorem State.endPass_frame (m : MemKind) (s : State) :
    (State.endPass m s).pending = s.pending ∧ (State.endPass m s).now = s.now ∧ (State.endPass m s).free = s.free ∧ (State.endPass m s).arch = s.arch ∧ (State.endPass m s).pins = s.pins ∧ (State.endPass m s).tb = s.tb ∧ (State.endPass m s).meas = s.meas ∧ (State.endPass m s).lane = s.lane ∧ (State.endPass m s).snap = s.snap ∧ (State.endPass m s).phase = s.phase ∧ (State.endPass m s).loop = s.loop ∧ (State.endPass m s).shelf = s.shelf ∧ (State.endPass m s).dist = s.dist ∧ (State.endPass m s).bat = s.bat ∧ (State.endPass m s).seq = s.seq ∧ (State.endPass m s).thm = s.thm ∧ (State.endPass m s).eng = s.eng ∧ (State.endPass m s).net = s.net ∧ (State.endPass m s).twin = s.twin ∧ (State.endPass m s).casc = s.casc ∧ (State.endPass m s).rst = s.rst ∧ (State.endPass m s).evr = s.evr ∧ (State.endPass m s).upd = s.upd := by
  unfold State.endPass; (try dsimp only); (repeat' split) <;> simp

@[simp] theorem State.countHour_frame (m : MemKind) (s : State) :
    (State.countHour m s).pending = s.pending ∧ (State.countHour m s).now = s.now ∧ (State.countHour m s).timers = s.timers ∧ (State.countHour m s).free = s.free ∧ (State.countHour m s).arch = s.arch ∧ (State.countHour m s).pins = s.pins ∧ (State.countHour m s).tb = s.tb ∧ (State.countHour m s).meas = s.meas ∧ (State.countHour m s).lane = s.lane ∧ (State.countHour m s).snap = s.snap ∧ (State.countHour m s).phase = s.phase ∧ (State.countHour m s).loop = s.loop ∧ (State.countHour m s).shelf = s.shelf ∧ (State.countHour m s).dist = s.dist ∧ (State.countHour m s).bat = s.bat ∧ (State.countHour m s).seq = s.seq ∧ (State.countHour m s).thm = s.thm ∧ (State.countHour m s).eng = s.eng ∧ (State.countHour m s).net = s.net ∧ (State.countHour m s).twin = s.twin ∧ (State.countHour m s).casc = s.casc ∧ (State.countHour m s).rst = s.rst ∧ (State.countHour m s).evr = s.evr ∧ (State.countHour m s).upd = s.upd := by
  unfold State.countHour; (try dsimp only); (repeat' split) <;> simp

@[simp] theorem State.eccEvent_frame (m : MemKind) (addr info : Nat) (s : State) :
    (State.eccEvent m addr info s).pending = s.pending ∧ (State.eccEvent m addr info s).now = s.now ∧ (State.eccEvent m addr info s).timers = s.timers ∧ (State.eccEvent m addr info s).free = s.free ∧ (State.eccEvent m addr info s).arch = s.arch ∧ (State.eccEvent m addr info s).pins = s.pins ∧ (State.eccEvent m addr info s).tb = s.tb ∧ (State.eccEvent m addr info s).meas = s.meas ∧ (State.eccEvent m addr info s).lane = s.lane ∧ (State.eccEvent m addr info s).snap = s.snap ∧ (State.eccEvent m addr info s).phase = s.phase ∧ (State.eccEvent m addr info s).loop = s.loop ∧ (State.eccEvent m addr info s).shelf = s.shelf ∧ (State.eccEvent m addr info s).dist = s.dist ∧ (State.eccEvent m addr info s).bat = s.bat ∧ (State.eccEvent m addr info s).seq = s.seq ∧ (State.eccEvent m addr info s).thm = s.thm ∧ (State.eccEvent m addr info s).eng = s.eng ∧ (State.eccEvent m addr info s).net = s.net ∧ (State.eccEvent m addr info s).twin = s.twin ∧ (State.eccEvent m addr info s).casc = s.casc ∧ (State.eccEvent m addr info s).rst = s.rst ∧ (State.eccEvent m addr info s).evr = s.evr ∧ (State.eccEvent m addr info s).upd = s.upd := by
  unfold State.eccEvent; (try dsimp only); (repeat' split) <;> simp

@[simp] theorem State.memCorrected_frame (m : MemKind) (addr : Nat) (s : State) :
    (State.memCorrected m addr s).pending = s.pending ∧ (State.memCorrected m addr s).now = s.now ∧ (State.memCorrected m addr s).free = s.free ∧ (State.memCorrected m addr s).arch = s.arch ∧ (State.memCorrected m addr s).pins = s.pins ∧ (State.memCorrected m addr s).tb = s.tb ∧ (State.memCorrected m addr s).meas = s.meas ∧ (State.memCorrected m addr s).lane = s.lane ∧ (State.memCorrected m addr s).snap = s.snap ∧ (State.memCorrected m addr s).phase = s.phase ∧ (State.memCorrected m addr s).loop = s.loop ∧ (State.memCorrected m addr s).shelf = s.shelf ∧ (State.memCorrected m addr s).dist = s.dist ∧ (State.memCorrected m addr s).bat = s.bat ∧ (State.memCorrected m addr s).seq = s.seq ∧ (State.memCorrected m addr s).thm = s.thm ∧ (State.memCorrected m addr s).eng = s.eng ∧ (State.memCorrected m addr s).twin = s.twin ∧ (State.memCorrected m addr s).casc = s.casc ∧ (State.memCorrected m addr s).rst = s.rst ∧ (State.memCorrected m addr s).upd = s.upd := by
  unfold State.memCorrected; (try dsimp only); (repeat' split) <;> simp

@[simp] theorem State.nvResult_frame (r : Nat) (s : State) :
    (State.nvResult r s).pending = s.pending ∧ (State.nvResult r s).now = s.now ∧ (State.nvResult r s).timers = s.timers ∧ (State.nvResult r s).free = s.free ∧ (State.nvResult r s).arch = s.arch ∧ (State.nvResult r s).pins = s.pins ∧ (State.nvResult r s).tb = s.tb ∧ (State.nvResult r s).meas = s.meas ∧ (State.nvResult r s).lane = s.lane ∧ (State.nvResult r s).snap = s.snap ∧ (State.nvResult r s).phase = s.phase ∧ (State.nvResult r s).loop = s.loop ∧ (State.nvResult r s).shelf = s.shelf ∧ (State.nvResult r s).dist = s.dist ∧ (State.nvResult r s).bat = s.bat ∧ (State.nvResult r s).seq = s.seq ∧ (State.nvResult r s).thm = s.thm ∧ (State.nvResult r s).eng = s.eng ∧ (State.nvResult r s).net = s.net ∧ (State.nvResult r s).twin = s.twin ∧ (State.nvResult r s).casc = s.casc ∧ (State.nvResult r s).rst = s.rst ∧ (State.nvResult r s).evr = s.evr ∧ (State.nvResult r s).upd = s.upd := by
  unfold State.nvResult; (try dsimp only); (repeat' split) <;> simp

@[simp] theorem State.nvcStore_frame (scope : Nat) (s : State) :
    (State.nvcStore scope s).pending = s.pending ∧ (State.nvcStore scope s).now = s.now ∧ (State.nvcStore scope s).free = s.free ∧ (State.nvcStore scope s).arch = s.arch ∧ (State.nvcStore scope s).pins = s.pins ∧ (State.nvcStore scope s).tb = s.tb ∧ (State.nvcStore scope s).meas = s.meas ∧ (State.nvcStore scope s).lane = s.lane ∧ (State.nvcStore scope s).snap = s.snap ∧ (State.nvcStore scope s).phase = s.phase ∧ (State.nvcStore scope s).loop = s.loop ∧ (State.nvcStore scope s).shelf = s.shelf ∧ (State.nvcStore scope s).dist = s.dist ∧ (State.nvcStore scope s).bat = s.bat ∧ (State.nvcStore scope s).seq = s.seq ∧ (State.nvcStore scope s).thm = s.thm ∧ (State.nvcStore scope s).eng = s.eng ∧ (State.nvcStore scope s).casc = s.casc ∧ (State.nvcStore scope s).rst = s.rst ∧ (State.nvcStore scope s).evr = s.evr ∧ (State.nvcStore scope s).upd = s.upd := by
  unfold State.nvcStore; (try dsimp only); (repeat' split) <;> simp

@[simp] theorem State.nvcUserWrite_frame  (s : State) :
    (State.nvcUserWrite s).pending = s.pending ∧ (State.nvcUserWrite s).now = s.now ∧ (State.nvcUserWrite s).timers = s.timers ∧ (State.nvcUserWrite s).free = s.free ∧ (State.nvcUserWrite s).arch = s.arch ∧ (State.nvcUserWrite s).pins = s.pins ∧ (State.nvcUserWrite s).tb = s.tb ∧ (State.nvcUserWrite s).meas = s.meas ∧ (State.nvcUserWrite s).lane = s.lane ∧ (State.nvcUserWrite s).snap = s.snap ∧ (State.nvcUserWrite s).phase = s.phase ∧ (State.nvcUserWrite s).loop = s.loop ∧ (State.nvcUserWrite s).shelf = s.shelf ∧ (State.nvcUserWrite s).dist = s.dist ∧ (State.nvcUserWrite s).bat = s.bat ∧ (State.nvcUserWrite s).seq = s.seq ∧ (State.nvcUserWrite s).thm = s.thm ∧ (State.nvcUserWrite s).eng = s.eng ∧ (State.nvcUserWrite s).net = s.net ∧ (State.nvcUserWrite s).twin = s.twin ∧ (State.nvcUserWrite s).casc = s.casc ∧ (State.nvcUserWrite s).rst = s.rst ∧ (State.nvcUserWrite s).evr = s.evr ∧ (State.nvcUserWrite s).upd = s.upd := by
  unfold State.nvcUserWrite; (try dsimp only); (repeat' split) <;> simp

@[simp] theorem State.useNonce_frame (w : Session) (s : State) :
    (State.useNonce w s).pending = s.pending ∧ (State.useNonce w s).now = s.now ∧ (State.useNonce w s).free = s.free ∧ (State.useNonce w s).arch = s.arch ∧ (State.useNonce w s).pins = s.pins ∧ (State.useNonce w s).tb = s.tb ∧ (State.useNonce w s).meas = s.meas ∧ (State.useNonce w s).lane = s.lane ∧ (State.useNonce w s).snap = s.snap ∧ (State.useNonce w s).phase = s.phase ∧ (State.useNonce w s).loop = s.loop ∧ (State.useNonce w s).shelf = s.shelf ∧ (State.useNonce w s).dist = s.dist ∧ (State.useNonce w s).bat = s.bat ∧ (State.useNonce w s).seq = s.seq ∧ (State.useNonce w s).thm = s.thm ∧ (State.useNonce w s).eng = s.eng ∧ (State.useNonce w s).twin = s.twin ∧ (State.useNonce w s).casc = s.casc ∧ (State.useNonce w s).rst = s.rst ∧ (State.useNonce w s).mem = s.mem ∧ (State.useNonce w s).evr = s.evr ∧ (State.useNonce w s).upd = s.upd := by
  unfold State.useNonce; (try dsimp only); (repeat' split) <;> simp

@[simp] theorem State.authFailed_frame (w : Session) (s : State) :
    (State.authFailed w s).pending = s.pending ∧ (State.authFailed w s).now = s.now ∧ (State.authFailed w s).free = s.free ∧ (State.authFailed w s).arch = s.arch ∧ (State.authFailed w s).pins = s.pins ∧ (State.authFailed w s).tb = s.tb ∧ (State.authFailed w s).meas = s.meas ∧ (State.authFailed w s).lane = s.lane ∧ (State.authFailed w s).snap = s.snap ∧ (State.authFailed w s).phase = s.phase ∧ (State.authFailed w s).loop = s.loop ∧ (State.authFailed w s).shelf = s.shelf ∧ (State.authFailed w s).dist = s.dist ∧ (State.authFailed w s).bat = s.bat ∧ (State.authFailed w s).seq = s.seq ∧ (State.authFailed w s).thm = s.thm ∧ (State.authFailed w s).eng = s.eng ∧ (State.authFailed w s).twin = s.twin ∧ (State.authFailed w s).casc = s.casc ∧ (State.authFailed w s).rst = s.rst ∧ (State.authFailed w s).mem = s.mem ∧ (State.authFailed w s).upd = s.upd := by
  unfold State.authFailed; (try dsimp only); (repeat' split) <;> simp

@[simp] theorem State.authPassed_frame (w : Session) (s : State) :
    (State.authPassed w s).pending = s.pending ∧ (State.authPassed w s).now = s.now ∧ (State.authPassed w s).free = s.free ∧ (State.authPassed w s).arch = s.arch ∧ (State.authPassed w s).pins = s.pins ∧ (State.authPassed w s).tb = s.tb ∧ (State.authPassed w s).meas = s.meas ∧ (State.authPassed w s).lane = s.lane ∧ (State.authPassed w s).snap = s.snap ∧ (State.authPassed w s).phase = s.phase ∧ (State.authPassed w s).loop = s.loop ∧ (State.authPassed w s).shelf = s.shelf ∧ (State.authPassed w s).dist = s.dist ∧ (State.authPassed w s).bat = s.bat ∧ (State.authPassed w s).seq = s.seq ∧ (State.authPassed w s).thm = s.thm ∧ (State.authPassed w s).eng = s.eng ∧ (State.authPassed w s).twin = s.twin ∧ (State.authPassed w s).casc = s.casc ∧ (State.authPassed w s).rst = s.rst ∧ (State.authPassed w s).mem = s.mem ∧ (State.authPassed w s).evr = s.evr ∧ (State.authPassed w s).upd = s.upd := by
  unfold State.authPassed; (try dsimp only); (repeat' split) <;> simp

@[simp] theorem State.updRaise_frame (code : Nat) (vals : List Nat) (s : State) :
    (State.updRaise code vals s).pending = s.pending ∧ (State.updRaise code vals s).now = s.now ∧ (State.updRaise code vals s).free = s.free ∧ (State.updRaise code vals s).arch = s.arch ∧ (State.updRaise code vals s).pins = s.pins ∧ (State.updRaise code vals s).tb = s.tb ∧ (State.updRaise code vals s).meas = s.meas ∧ (State.updRaise code vals s).lane = s.lane ∧ (State.updRaise code vals s).snap = s.snap ∧ (State.updRaise code vals s).phase = s.phase ∧ (State.updRaise code vals s).loop = s.loop ∧ (State.updRaise code vals s).shelf = s.shelf ∧ (State.updRaise code vals s).dist = s.dist ∧ (State.updRaise code vals s).bat = s.bat ∧ (State.updRaise code vals s).seq = s.seq ∧ (State.updRaise code vals s).thm = s.thm ∧ (State.updRaise code vals s).eng = s.eng ∧ (State.updRaise code vals s).twin = s.twin ∧ (State.updRaise code vals s).casc = s.casc ∧ (State.updRaise code vals s).rst = s.rst ∧ (State.updRaise code vals s).mem = s.mem := by
  unfold State.updRaise; (try dsimp only); (repeat' split) <;> simp

@[simp] theorem State.setSlot_frame (k : Fin 2) (x : SlotSt) (s : State) :
    (State.setSlot k x s).pending = s.pending ∧ (State.setSlot k x s).now = s.now ∧ (State.setSlot k x s).timers = s.timers ∧ (State.setSlot k x s).free = s.free ∧ (State.setSlot k x s).arch = s.arch ∧ (State.setSlot k x s).pins = s.pins ∧ (State.setSlot k x s).tb = s.tb ∧ (State.setSlot k x s).meas = s.meas ∧ (State.setSlot k x s).lane = s.lane ∧ (State.setSlot k x s).snap = s.snap ∧ (State.setSlot k x s).phase = s.phase ∧ (State.setSlot k x s).loop = s.loop ∧ (State.setSlot k x s).shelf = s.shelf ∧ (State.setSlot k x s).dist = s.dist ∧ (State.setSlot k x s).bat = s.bat ∧ (State.setSlot k x s).seq = s.seq ∧ (State.setSlot k x s).thm = s.thm ∧ (State.setSlot k x s).eng = s.eng ∧ (State.setSlot k x s).net = s.net ∧ (State.setSlot k x s).twin = s.twin ∧ (State.setSlot k x s).casc = s.casc ∧ (State.setSlot k x s).rst = s.rst ∧ (State.setSlot k x s).mem = s.mem ∧ (State.setSlot k x s).evr = s.evr := by
  unfold State.setSlot; (try dsimp only); (repeat' split) <;> simp

@[simp] theorem State.stageBegin_frame  (s : State) :
    (State.stageBegin s).pending = s.pending ∧ (State.stageBegin s).now = s.now ∧ (State.stageBegin s).free = s.free ∧ (State.stageBegin s).arch = s.arch ∧ (State.stageBegin s).pins = s.pins ∧ (State.stageBegin s).tb = s.tb ∧ (State.stageBegin s).meas = s.meas ∧ (State.stageBegin s).lane = s.lane ∧ (State.stageBegin s).snap = s.snap ∧ (State.stageBegin s).phase = s.phase ∧ (State.stageBegin s).loop = s.loop ∧ (State.stageBegin s).shelf = s.shelf ∧ (State.stageBegin s).dist = s.dist ∧ (State.stageBegin s).bat = s.bat ∧ (State.stageBegin s).seq = s.seq ∧ (State.stageBegin s).thm = s.thm ∧ (State.stageBegin s).eng = s.eng ∧ (State.stageBegin s).net = s.net ∧ (State.stageBegin s).twin = s.twin ∧ (State.stageBegin s).casc = s.casc ∧ (State.stageBegin s).rst = s.rst ∧ (State.stageBegin s).mem = s.mem ∧ (State.stageBegin s).evr = s.evr := by
  unfold State.stageBegin; (try dsimp only); (repeat' split) <;> simp

@[simp] theorem State.stageEnd_frame (stat : Nat) (s : State) :
    (State.stageEnd stat s).pending = s.pending ∧ (State.stageEnd stat s).now = s.now ∧ (State.stageEnd stat s).free = s.free ∧ (State.stageEnd stat s).arch = s.arch ∧ (State.stageEnd stat s).pins = s.pins ∧ (State.stageEnd stat s).tb = s.tb ∧ (State.stageEnd stat s).meas = s.meas ∧ (State.stageEnd stat s).lane = s.lane ∧ (State.stageEnd stat s).snap = s.snap ∧ (State.stageEnd stat s).phase = s.phase ∧ (State.stageEnd stat s).loop = s.loop ∧ (State.stageEnd stat s).shelf = s.shelf ∧ (State.stageEnd stat s).dist = s.dist ∧ (State.stageEnd stat s).bat = s.bat ∧ (State.stageEnd stat s).seq = s.seq ∧ (State.stageEnd stat s).thm = s.thm ∧ (State.stageEnd stat s).eng = s.eng ∧ (State.stageEnd stat s).net = s.net ∧ (State.stageEnd stat s).twin = s.twin ∧ (State.stageEnd stat s).casc = s.casc ∧ (State.stageEnd stat s).rst = s.rst ∧ (State.stageEnd stat s).mem = s.mem ∧ (State.stageEnd stat s).evr = s.evr := by
  unfold State.stageEnd; (try dsimp only); (repeat' split) <;> simp

@[simp] theorem State.takeChunk_frame (off : Nat) (d : List Byte) (s : State) :
    (State.takeChunk off d s).pending = s.pending ∧ (State.takeChunk off d s).now = s.now ∧ (State.takeChunk off d s).free = s.free ∧ (State.takeChunk off d s).arch = s.arch ∧ (State.takeChunk off d s).pins = s.pins ∧ (State.takeChunk off d s).tb = s.tb ∧ (State.takeChunk off d s).meas = s.meas ∧ (State.takeChunk off d s).lane = s.lane ∧ (State.takeChunk off d s).snap = s.snap ∧ (State.takeChunk off d s).phase = s.phase ∧ (State.takeChunk off d s).loop = s.loop ∧ (State.takeChunk off d s).shelf = s.shelf ∧ (State.takeChunk off d s).dist = s.dist ∧ (State.takeChunk off d s).bat = s.bat ∧ (State.takeChunk off d s).seq = s.seq ∧ (State.takeChunk off d s).thm = s.thm ∧ (State.takeChunk off d s).eng = s.eng ∧ (State.takeChunk off d s).twin = s.twin ∧ (State.takeChunk off d s).casc = s.casc ∧ (State.takeChunk off d s).rst = s.rst ∧ (State.takeChunk off d s).mem = s.mem := by
  unfold State.takeChunk; (try dsimp only); (repeat' split) <;> simp

@[simp] theorem State.updBegin_frame  (s : State) :
    (State.updBegin s).pending = s.pending ∧ (State.updBegin s).now = s.now ∧ (State.updBegin s).free = s.free ∧ (State.updBegin s).arch = s.arch ∧ (State.updBegin s).pins = s.pins ∧ (State.updBegin s).tb = s.tb ∧ (State.updBegin s).meas = s.meas ∧ (State.updBegin s).lane = s.lane ∧ (State.updBegin s).snap = s.snap ∧ (State.updBegin s).phase = s.phase ∧ (State.updBegin s).loop = s.loop ∧ (State.updBegin s).shelf = s.shelf ∧ (State.updBegin s).dist = s.dist ∧ (State.updBegin s).bat = s.bat ∧ (State.updBegin s).seq = s.seq ∧ (State.updBegin s).thm = s.thm ∧ (State.updBegin s).eng = s.eng ∧ (State.updBegin s).net = s.net ∧ (State.updBegin s).twin = s.twin ∧ (State.updBegin s).casc = s.casc ∧ (State.updBegin s).rst = s.rst ∧ (State.updBegin s).mem = s.mem ∧ (State.updBegin s).evr = s.evr := by
  unfold State.updBegin; (try dsimp only); (repeat' split) <;> simp

@[simp] theorem State.updAppend_frame (count : Nat) (s : State) :
    (State.updAppend count s).pending = s.pending ∧ (State.updAppend count s).now = s.now ∧ (State.updAppend count s).free = s.free ∧ (State.updAppend count s).arch = s.arch ∧ (State.updAppend count s).pins = s.pins ∧ (State.updAppend count s).tb = s.tb ∧ (State.updAppend count s).meas = s.meas ∧ (State.updAppend count s).lane = s.lane ∧ (State.updAppend count s).snap = s.snap ∧ (State.updAppend count s).phase = s.phase ∧ (State.updAppend count s).loop = s.loop ∧ (State.updAppend count s).shelf = s.shelf ∧ (State.updAppend count s).dist = s.dist ∧ (State.updAppend count s).bat = s.bat ∧ (State.updAppend count s).seq = s.seq ∧ (State.updAppend count s).thm = s.thm ∧ (State.updAppend count s).eng = s.eng ∧ (State.updAppend count s).twin = s.twin ∧ (State.updAppend count s).casc = s.casc ∧ (State.updAppend count s).rst = s.rst ∧ (State.updAppend count s).mem = s.mem := by
  unfold State.updAppend; (try dsimp only); (repeat' split) <;> simp

@[simp] theorem State.updAbort_frame  (s : State) :
    (State.updAbort s).pending = s.pending ∧ (State.updAbort s).now = s.now ∧ (State.updAbort s).free = s.free ∧ (State.updAbort s).arch = s.arch ∧ (State.updAbort s).pins = s.pins ∧ (State.updAbort s).tb = s.tb ∧ (State.updAbort s).meas = s.meas ∧ (State.updAbort s).lane = s.lane ∧ (State.updAbort s).snap = s.snap ∧ (State.updAbort s).phase = s.phase ∧ (State.updAbort s).loop = s.loop ∧ (State.updAbort s).shelf = s.shelf ∧ (State.updAbort s).dist = s.dist ∧ (State.updAbort s).bat = s.bat ∧ (State.updAbort s).seq = s.seq ∧ (State.updAbort s).thm = s.thm ∧ (State.updAbort s).eng = s.eng ∧ (State.updAbort s).net = s.net ∧ (State.updAbort s).twin = s.twin ∧ (State.updAbort s).casc = s.casc ∧ (State.updAbort s).rst = s.rst ∧ (State.updAbort s).mem = s.mem ∧ (State.updAbort s).evr = s.evr := by
  unfold State.updAbort; (try dsimp only); (repeat' split) <;> simp

@[simp] theorem State.trialCommit_frame  (s : State) :
    (State.trialCommit s).pending = s.pending ∧ (State.trialCommit s).now = s.now ∧ (State.trialCommit s).free = s.free ∧ (State.trialCommit s).arch = s.arch ∧ (State.trialCommit s).pins = s.pins ∧ (State.trialCommit s).tb = s.tb ∧ (State.trialCommit s).meas = s.meas ∧ (State.trialCommit s).lane = s.lane ∧ (State.trialCommit s).snap = s.snap ∧ (State.trialCommit s).phase = s.phase ∧ (State.trialCommit s).loop = s.loop ∧ (State.trialCommit s).shelf = s.shelf ∧ (State.trialCommit s).dist = s.dist ∧ (State.trialCommit s).bat = s.bat ∧ (State.trialCommit s).seq = s.seq ∧ (State.trialCommit s).thm = s.thm ∧ (State.trialCommit s).eng = s.eng ∧ (State.trialCommit s).twin = s.twin ∧ (State.trialCommit s).casc = s.casc ∧ (State.trialCommit s).rst = s.rst ∧ (State.trialCommit s).mem = s.mem := by
  unfold State.trialCommit; (try dsimp only); (repeat' split) <;> simp

@[simp] theorem State.updCommit_frame  (s : State) :
    (State.updCommit s).pending = s.pending ∧ (State.updCommit s).now = s.now ∧ (State.updCommit s).free = s.free ∧ (State.updCommit s).arch = s.arch ∧ (State.updCommit s).pins = s.pins ∧ (State.updCommit s).tb = s.tb ∧ (State.updCommit s).meas = s.meas ∧ (State.updCommit s).lane = s.lane ∧ (State.updCommit s).snap = s.snap ∧ (State.updCommit s).phase = s.phase ∧ (State.updCommit s).loop = s.loop ∧ (State.updCommit s).shelf = s.shelf ∧ (State.updCommit s).dist = s.dist ∧ (State.updCommit s).bat = s.bat ∧ (State.updCommit s).seq = s.seq ∧ (State.updCommit s).thm = s.thm ∧ (State.updCommit s).eng = s.eng ∧ (State.updCommit s).twin = s.twin ∧ (State.updCommit s).casc = s.casc ∧ (State.updCommit s).rst = s.rst ∧ (State.updCommit s).mem = s.mem := by
  unfold State.updCommit; (try dsimp only); (repeat' split) <;> simp

@[simp] theorem State.liveBegin_frame  (s : State) :
    (State.liveBegin s).pending = s.pending ∧ (State.liveBegin s).now = s.now ∧ (State.liveBegin s).free = s.free ∧ (State.liveBegin s).arch = s.arch ∧ (State.liveBegin s).pins = s.pins ∧ (State.liveBegin s).tb = s.tb ∧ (State.liveBegin s).meas = s.meas ∧ (State.liveBegin s).lane = s.lane ∧ (State.liveBegin s).snap = s.snap ∧ (State.liveBegin s).phase = s.phase ∧ (State.liveBegin s).loop = s.loop ∧ (State.liveBegin s).shelf = s.shelf ∧ (State.liveBegin s).dist = s.dist ∧ (State.liveBegin s).bat = s.bat ∧ (State.liveBegin s).seq = s.seq ∧ (State.liveBegin s).thm = s.thm ∧ (State.liveBegin s).eng = s.eng ∧ (State.liveBegin s).net = s.net ∧ (State.liveBegin s).twin = s.twin ∧ (State.liveBegin s).casc = s.casc ∧ (State.liveBegin s).rst = s.rst ∧ (State.liveBegin s).mem = s.mem ∧ (State.liveBegin s).evr = s.evr := by
  unfold State.liveBegin; (try dsimp only); (repeat' split) <;> simp

@[simp] theorem State.updLive_frame  (s : State) :
    (State.updLive s).pending = s.pending ∧ (State.updLive s).now = s.now ∧ (State.updLive s).free = s.free ∧ (State.updLive s).arch = s.arch ∧ (State.updLive s).pins = s.pins ∧ (State.updLive s).tb = s.tb ∧ (State.updLive s).meas = s.meas ∧ (State.updLive s).lane = s.lane ∧ (State.updLive s).snap = s.snap ∧ (State.updLive s).phase = s.phase ∧ (State.updLive s).loop = s.loop ∧ (State.updLive s).shelf = s.shelf ∧ (State.updLive s).dist = s.dist ∧ (State.updLive s).bat = s.bat ∧ (State.updLive s).seq = s.seq ∧ (State.updLive s).thm = s.thm ∧ (State.updLive s).eng = s.eng ∧ (State.updLive s).net = s.net ∧ (State.updLive s).twin = s.twin ∧ (State.updLive s).casc = s.casc ∧ (State.updLive s).rst = s.rst ∧ (State.updLive s).mem = s.mem ∧ (State.updLive s).evr = s.evr := by
  unfold State.updLive; (try dsimp only); (repeat' split) <;> simp

@[simp] theorem State.unpowered_frame  (s : State) :
    (State.unpowered s).pending = s.pending ∧ (State.unpowered s).now = s.now ∧ (State.unpowered s).timers = s.timers ∧ (State.unpowered s).free = s.free ∧ (State.unpowered s).arch = s.arch ∧ (State.unpowered s).tb = s.tb ∧ (State.unpowered s).meas = s.meas ∧ (State.unpowered s).lane = s.lane ∧ (State.unpowered s).snap = s.snap ∧ (State.unpowered s).phase = s.phase ∧ (State.unpowered s).loop = s.loop ∧ (State.unpowered s).shelf = s.shelf ∧ (State.unpowered s).dist = s.dist ∧ (State.unpowered s).bat = s.bat ∧ (State.unpowered s).seq = s.seq ∧ (State.unpowered s).thm = s.thm ∧ (State.unpowered s).eng = s.eng ∧ (State.unpowered s).net = s.net ∧ (State.unpowered s).twin = s.twin ∧ (State.unpowered s).casc = s.casc ∧ (State.unpowered s).rst = s.rst ∧ (State.unpowered s).mem = s.mem ∧ (State.unpowered s).evr = s.evr ∧ (State.unpowered s).upd = s.upd := by
  unfold State.unpowered; (try dsimp only); (repeat' split) <;> simp

@[simp] theorem State.rangeMonitor_frame (t : TimerId) (was now : Bool) (s : State) :
    (State.rangeMonitor t was now s).pending = s.pending ∧ (State.rangeMonitor t was now s).now = s.now ∧ (State.rangeMonitor t was now s).free = s.free ∧ (State.rangeMonitor t was now s).arch = s.arch ∧ (State.rangeMonitor t was now s).pins = s.pins ∧ (State.rangeMonitor t was now s).tb = s.tb ∧ (State.rangeMonitor t was now s).meas = s.meas ∧ (State.rangeMonitor t was now s).lane = s.lane ∧ (State.rangeMonitor t was now s).snap = s.snap ∧ (State.rangeMonitor t was now s).phase = s.phase ∧ (State.rangeMonitor t was now s).loop = s.loop ∧ (State.rangeMonitor t was now s).shelf = s.shelf ∧ (State.rangeMonitor t was now s).dist = s.dist ∧ (State.rangeMonitor t was now s).bat = s.bat ∧ (State.rangeMonitor t was now s).seq = s.seq ∧ (State.rangeMonitor t was now s).thm = s.thm ∧ (State.rangeMonitor t was now s).eng = s.eng ∧ (State.rangeMonitor t was now s).net = s.net ∧ (State.rangeMonitor t was now s).twin = s.twin ∧ (State.rangeMonitor t was now s).casc = s.casc ∧ (State.rangeMonitor t was now s).rst = s.rst ∧ (State.rangeMonitor t was now s).mem = s.mem ∧ (State.rangeMonitor t was now s).evr = s.evr ∧ (State.rangeMonitor t was now s).upd = s.upd := by
  unfold State.rangeMonitor; (try dsimp only); (repeat' split) <;> simp

@[simp] theorem State.requestBlock_frame (b : Nat) (s : State) :
    (State.requestBlock b s).pending = s.pending ∧ (State.requestBlock b s).now = s.now ∧ (State.requestBlock b s).free = s.free ∧ (State.requestBlock b s).arch = s.arch ∧ (State.requestBlock b s).pins = s.pins ∧ (State.requestBlock b s).tb = s.tb ∧ (State.requestBlock b s).meas = s.meas ∧ (State.requestBlock b s).lane = s.lane ∧ (State.requestBlock b s).snap = s.snap ∧ (State.requestBlock b s).phase = s.phase ∧ (State.requestBlock b s).loop = s.loop ∧ (State.requestBlock b s).shelf = s.shelf ∧ (State.requestBlock b s).dist = s.dist ∧ (State.requestBlock b s).bat = s.bat ∧ (State.requestBlock b s).seq = s.seq ∧ (State.requestBlock b s).thm = s.thm ∧ (State.requestBlock b s).eng = s.eng ∧ (State.requestBlock b s).net = s.net ∧ (State.requestBlock b s).twin = s.twin ∧ (State.requestBlock b s).casc = s.casc ∧ (State.requestBlock b s).mem = s.mem ∧ (State.requestBlock b s).evr = s.evr ∧ (State.requestBlock b s).upd = s.upd := by
  unfold State.requestBlock; (try dsimp only); (repeat' split) <;> simp

@[simp] theorem State.linkLost_frame (l : Fin 5) (s : State) :
    (State.linkLost l s).pending = s.pending ∧ (State.linkLost l s).now = s.now ∧ (State.linkLost l s).free = s.free ∧ (State.linkLost l s).arch = s.arch ∧ (State.linkLost l s).pins = s.pins ∧ (State.linkLost l s).tb = s.tb ∧ (State.linkLost l s).meas = s.meas ∧ (State.linkLost l s).lane = s.lane ∧ (State.linkLost l s).snap = s.snap ∧ (State.linkLost l s).phase = s.phase ∧ (State.linkLost l s).loop = s.loop ∧ (State.linkLost l s).shelf = s.shelf ∧ (State.linkLost l s).dist = s.dist ∧ (State.linkLost l s).bat = s.bat ∧ (State.linkLost l s).seq = s.seq ∧ (State.linkLost l s).thm = s.thm ∧ (State.linkLost l s).eng = s.eng ∧ (State.linkLost l s).rst = s.rst ∧ (State.linkLost l s).mem = s.mem ∧ (State.linkLost l s).upd = s.upd := by
  unfold State.linkLost; (try dsimp only); (repeat' split) <;> simp

@[simp] theorem State.measureReset_frame  (s : State) :
    (State.measureReset s).pending = s.pending ∧ (State.measureReset s).now = s.now ∧ (State.measureReset s).timers = s.timers ∧ (State.measureReset s).free = s.free ∧ (State.measureReset s).arch = s.arch ∧ (State.measureReset s).pins = s.pins ∧ (State.measureReset s).tb = s.tb ∧ (State.measureReset s).lane = s.lane ∧ (State.measureReset s).snap = s.snap ∧ (State.measureReset s).phase = s.phase ∧ (State.measureReset s).loop = s.loop ∧ (State.measureReset s).shelf = s.shelf ∧ (State.measureReset s).dist = s.dist ∧ (State.measureReset s).seq = s.seq ∧ (State.measureReset s).thm = s.thm ∧ (State.measureReset s).eng = s.eng ∧ (State.measureReset s).net = s.net ∧ (State.measureReset s).twin = s.twin ∧ (State.measureReset s).casc = s.casc ∧ (State.measureReset s).rst = s.rst ∧ (State.measureReset s).mem = s.mem ∧ (State.measureReset s).evr = s.evr ∧ (State.measureReset s).upd = s.upd := by
  unfold State.measureReset; (try dsimp only); (repeat' split) <;> simp

@[simp] theorem State.measureRelease_frame  (s : State) :
    (State.measureRelease s).pending = s.pending ∧ (State.measureRelease s).now = s.now ∧ (State.measureRelease s).free = s.free ∧ (State.measureRelease s).arch = s.arch ∧ (State.measureRelease s).pins = s.pins ∧ (State.measureRelease s).tb = s.tb ∧ (State.measureRelease s).meas = s.meas ∧ (State.measureRelease s).lane = s.lane ∧ (State.measureRelease s).snap = s.snap ∧ (State.measureRelease s).phase = s.phase ∧ (State.measureRelease s).loop = s.loop ∧ (State.measureRelease s).shelf = s.shelf ∧ (State.measureRelease s).dist = s.dist ∧ (State.measureRelease s).seq = s.seq ∧ (State.measureRelease s).thm = s.thm ∧ (State.measureRelease s).eng = s.eng ∧ (State.measureRelease s).twin = s.twin ∧ (State.measureRelease s).casc = s.casc ∧ (State.measureRelease s).rst = s.rst ∧ (State.measureRelease s).mem = s.mem ∧ (State.measureRelease s).upd = s.upd := by
  unfold State.measureRelease; (try dsimp only); (repeat' split) <;> simp

@[simp] theorem State.canReset_frame (p : Fin 2) (s : State) :
    (State.canReset p s).pending = s.pending ∧ (State.canReset p s).now = s.now ∧ (State.canReset p s).free = s.free ∧ (State.canReset p s).arch = s.arch ∧ (State.canReset p s).pins = s.pins ∧ (State.canReset p s).tb = s.tb ∧ (State.canReset p s).meas = s.meas ∧ (State.canReset p s).lane = s.lane ∧ (State.canReset p s).snap = s.snap ∧ (State.canReset p s).phase = s.phase ∧ (State.canReset p s).loop = s.loop ∧ (State.canReset p s).shelf = s.shelf ∧ (State.canReset p s).dist = s.dist ∧ (State.canReset p s).bat = s.bat ∧ (State.canReset p s).seq = s.seq ∧ (State.canReset p s).thm = s.thm ∧ (State.canReset p s).eng = s.eng ∧ (State.canReset p s).twin = s.twin ∧ (State.canReset p s).casc = s.casc ∧ (State.canReset p s).rst = s.rst ∧ (State.canReset p s).mem = s.mem ∧ (State.canReset p s).upd = s.upd := by
  unfold State.canReset; (try dsimp only); (repeat' split) <;> simp

@[simp] theorem State.engineReset_frame (e : Fin 8) (s : State) :
    (State.engineReset e s).pending = s.pending ∧ (State.engineReset e s).now = s.now ∧ (State.engineReset e s).free = s.free ∧ (State.engineReset e s).arch = s.arch ∧ (State.engineReset e s).tb = s.tb ∧ (State.engineReset e s).meas = s.meas ∧ (State.engineReset e s).lane = s.lane ∧ (State.engineReset e s).snap = s.snap ∧ (State.engineReset e s).phase = s.phase ∧ (State.engineReset e s).loop = s.loop ∧ (State.engineReset e s).shelf = s.shelf ∧ (State.engineReset e s).dist = s.dist ∧ (State.engineReset e s).bat = s.bat ∧ (State.engineReset e s).seq = s.seq ∧ (State.engineReset e s).thm = s.thm ∧ (State.engineReset e s).twin = s.twin ∧ (State.engineReset e s).casc = s.casc ∧ (State.engineReset e s).rst = s.rst ∧ (State.engineReset e s).mem = s.mem ∧ (State.engineReset e s).upd = s.upd := by
  unfold State.engineReset; (try dsimp only); (repeat' split) <;> simp

@[simp] theorem State.blockOn_frame (b : Nat) (s : State) :
    (State.blockOn b s).pending = s.pending ∧ (State.blockOn b s).now = s.now ∧ (State.blockOn b s).free = s.free ∧ (State.blockOn b s).arch = s.arch ∧ (State.blockOn b s).tb = s.tb ∧ (State.blockOn b s).lane = s.lane ∧ (State.blockOn b s).snap = s.snap ∧ (State.blockOn b s).phase = s.phase ∧ (State.blockOn b s).loop = s.loop ∧ (State.blockOn b s).dist = s.dist ∧ (State.blockOn b s).seq = s.seq ∧ (State.blockOn b s).thm = s.thm ∧ (State.blockOn b s).rst = s.rst ∧ (State.blockOn b s).mem = s.mem ∧ (State.blockOn b s).upd = s.upd := by
  unfold State.blockOn; (try dsimp only); (repeat' split) <;> simp

@[simp] theorem State.blockOff_frame (b : Nat) (s : State) :
    (State.blockOff b s).pending = s.pending ∧ (State.blockOff b s).now = s.now ∧ (State.blockOff b s).free = s.free ∧ (State.blockOff b s).arch = s.arch ∧ (State.blockOff b s).pins = s.pins ∧ (State.blockOff b s).tb = s.tb ∧ (State.blockOff b s).meas = s.meas ∧ (State.blockOff b s).lane = s.lane ∧ (State.blockOff b s).snap = s.snap ∧ (State.blockOff b s).phase = s.phase ∧ (State.blockOff b s).loop = s.loop ∧ (State.blockOff b s).shelf = s.shelf ∧ (State.blockOff b s).dist = s.dist ∧ (State.blockOff b s).seq = s.seq ∧ (State.blockOff b s).thm = s.thm ∧ (State.blockOff b s).twin = s.twin ∧ (State.blockOff b s).casc = s.casc ∧ (State.blockOff b s).rst = s.rst ∧ (State.blockOff b s).mem = s.mem ∧ (State.blockOff b s).upd = s.upd := by
  unfold State.blockOff; (try dsimp only); (repeat' split) <;> simp

@[simp] theorem State.enterStep_frame (n : Nat) (s : State) :
    (State.enterStep n s).pending = s.pending ∧ (State.enterStep n s).now = s.now ∧ (State.enterStep n s).free = s.free ∧ (State.enterStep n s).arch = s.arch ∧ (State.enterStep n s).pins = s.pins ∧ (State.enterStep n s).tb = s.tb ∧ (State.enterStep n s).meas = s.meas ∧ (State.enterStep n s).lane = s.lane ∧ (State.enterStep n s).snap = s.snap ∧ (State.enterStep n s).phase = s.phase ∧ (State.enterStep n s).loop = s.loop ∧ (State.enterStep n s).shelf = s.shelf ∧ (State.enterStep n s).dist = s.dist ∧ (State.enterStep n s).bat = s.bat ∧ (State.enterStep n s).seq = s.seq ∧ (State.enterStep n s).thm = s.thm ∧ (State.enterStep n s).eng = s.eng ∧ (State.enterStep n s).net = s.net ∧ (State.enterStep n s).twin = s.twin ∧ (State.enterStep n s).casc = s.casc ∧ (State.enterStep n s).mem = s.mem ∧ (State.enterStep n s).evr = s.evr ∧ (State.enterStep n s).upd = s.upd := by
  unfold State.enterStep; (try dsimp only); (repeat' split) <;> simp

@[simp] theorem State.oweUnstable_frame (u : Nat) (s : State) :
    (State.oweUnstable u s).pending = s.pending ∧ (State.oweUnstable u s).now = s.now ∧ (State.oweUnstable u s).timers = s.timers ∧ (State.oweUnstable u s).free = s.free ∧ (State.oweUnstable u s).arch = s.arch ∧ (State.oweUnstable u s).pins = s.pins ∧ (State.oweUnstable u s).tb = s.tb ∧ (State.oweUnstable u s).meas = s.meas ∧ (State.oweUnstable u s).lane = s.lane ∧ (State.oweUnstable u s).snap = s.snap ∧ (State.oweUnstable u s).phase = s.phase ∧ (State.oweUnstable u s).loop = s.loop ∧ (State.oweUnstable u s).shelf = s.shelf ∧ (State.oweUnstable u s).dist = s.dist ∧ (State.oweUnstable u s).bat = s.bat ∧ (State.oweUnstable u s).seq = s.seq ∧ (State.oweUnstable u s).thm = s.thm ∧ (State.oweUnstable u s).eng = s.eng ∧ (State.oweUnstable u s).net = s.net ∧ (State.oweUnstable u s).twin = s.twin ∧ (State.oweUnstable u s).casc = s.casc ∧ (State.oweUnstable u s).mem = s.mem ∧ (State.oweUnstable u s).evr = s.evr ∧ (State.oweUnstable u s).upd = s.upd := by
  unfold State.oweUnstable; (try dsimp only); (repeat' split) <;> simp

@[simp] theorem State.latchStraps_frame (a b c : BitVec 7) (s : State) :
    (State.latchStraps a b c s).pending = s.pending ∧ (State.latchStraps a b c s).now = s.now ∧ (State.latchStraps a b c s).timers = s.timers ∧ (State.latchStraps a b c s).free = s.free ∧ (State.latchStraps a b c s).arch = s.arch ∧ (State.latchStraps a b c s).tb = s.tb ∧ (State.latchStraps a b c s).meas = s.meas ∧ (State.latchStraps a b c s).lane = s.lane ∧ (State.latchStraps a b c s).snap = s.snap ∧ (State.latchStraps a b c s).phase = s.phase ∧ (State.latchStraps a b c s).loop = s.loop ∧ (State.latchStraps a b c s).shelf = s.shelf ∧ (State.latchStraps a b c s).dist = s.dist ∧ (State.latchStraps a b c s).bat = s.bat ∧ (State.latchStraps a b c s).seq = s.seq ∧ (State.latchStraps a b c s).thm = s.thm ∧ (State.latchStraps a b c s).eng = s.eng ∧ (State.latchStraps a b c s).net = s.net ∧ (State.latchStraps a b c s).casc = s.casc ∧ (State.latchStraps a b c s).mem = s.mem ∧ (State.latchStraps a b c s).evr = s.evr ∧ (State.latchStraps a b c s).upd = s.upd := by
  unfold State.latchStraps; (try dsimp only); (repeat' split) <;> simp

@[simp] theorem State.readRecover_frame (a b c : Bool) (s : State) :
    (State.readRecover a b c s).pending = s.pending ∧ (State.readRecover a b c s).now = s.now ∧ (State.readRecover a b c s).timers = s.timers ∧ (State.readRecover a b c s).free = s.free ∧ (State.readRecover a b c s).arch = s.arch ∧ (State.readRecover a b c s).tb = s.tb ∧ (State.readRecover a b c s).meas = s.meas ∧ (State.readRecover a b c s).lane = s.lane ∧ (State.readRecover a b c s).snap = s.snap ∧ (State.readRecover a b c s).phase = s.phase ∧ (State.readRecover a b c s).loop = s.loop ∧ (State.readRecover a b c s).shelf = s.shelf ∧ (State.readRecover a b c s).dist = s.dist ∧ (State.readRecover a b c s).bat = s.bat ∧ (State.readRecover a b c s).seq = s.seq ∧ (State.readRecover a b c s).thm = s.thm ∧ (State.readRecover a b c s).eng = s.eng ∧ (State.readRecover a b c s).net = s.net ∧ (State.readRecover a b c s).twin = s.twin ∧ (State.readRecover a b c s).casc = s.casc ∧ (State.readRecover a b c s).mem = s.mem ∧ (State.readRecover a b c s).evr = s.evr ∧ (State.readRecover a b c s).upd = s.upd := by
  unfold State.readRecover; (try dsimp only); (repeat' split) <;> simp

@[simp] theorem State.memoryOut_frame  (s : State) :
    (State.memoryOut s).pending = s.pending ∧ (State.memoryOut s).now = s.now ∧ (State.memoryOut s).free = s.free ∧ (State.memoryOut s).arch = s.arch ∧ (State.memoryOut s).pins = s.pins ∧ (State.memoryOut s).tb = s.tb ∧ (State.memoryOut s).meas = s.meas ∧ (State.memoryOut s).lane = s.lane ∧ (State.memoryOut s).snap = s.snap ∧ (State.memoryOut s).phase = s.phase ∧ (State.memoryOut s).loop = s.loop ∧ (State.memoryOut s).shelf = s.shelf ∧ (State.memoryOut s).dist = s.dist ∧ (State.memoryOut s).bat = s.bat ∧ (State.memoryOut s).seq = s.seq ∧ (State.memoryOut s).thm = s.thm ∧ (State.memoryOut s).eng = s.eng ∧ (State.memoryOut s).net = s.net ∧ (State.memoryOut s).twin = s.twin ∧ (State.memoryOut s).casc = s.casc ∧ (State.memoryOut s).evr = s.evr ∧ (State.memoryOut s).upd = s.upd := by
  unfold State.memoryOut; (try dsimp only); (repeat' split) <;> simp

@[simp] theorem State.judgeModel_frame  (s : State) :
    (State.judgeModel s).pending = s.pending ∧ (State.judgeModel s).now = s.now ∧ (State.judgeModel s).free = s.free ∧ (State.judgeModel s).arch = s.arch ∧ (State.judgeModel s).pins = s.pins ∧ (State.judgeModel s).meas = s.meas ∧ (State.judgeModel s).lane = s.lane ∧ (State.judgeModel s).snap = s.snap ∧ (State.judgeModel s).phase = s.phase ∧ (State.judgeModel s).loop = s.loop ∧ (State.judgeModel s).shelf = s.shelf ∧ (State.judgeModel s).dist = s.dist ∧ (State.judgeModel s).bat = s.bat ∧ (State.judgeModel s).seq = s.seq ∧ (State.judgeModel s).thm = s.thm ∧ (State.judgeModel s).eng = s.eng ∧ (State.judgeModel s).twin = s.twin ∧ (State.judgeModel s).casc = s.casc ∧ (State.judgeModel s).rst = s.rst ∧ (State.judgeModel s).mem = s.mem ∧ (State.judgeModel s).upd = s.upd := by
  unfold State.judgeModel; (try dsimp only); (repeat' split) <;> simp

@[simp] theorem State.romFeeds_frame  (s : State) :
    (State.romFeeds s).pending = s.pending ∧ (State.romFeeds s).now = s.now ∧ (State.romFeeds s).free = s.free ∧ (State.romFeeds s).arch = s.arch ∧ (State.romFeeds s).pins = s.pins ∧ (State.romFeeds s).tb = s.tb ∧ (State.romFeeds s).meas = s.meas ∧ (State.romFeeds s).lane = s.lane ∧ (State.romFeeds s).snap = s.snap ∧ (State.romFeeds s).phase = s.phase ∧ (State.romFeeds s).loop = s.loop ∧ (State.romFeeds s).shelf = s.shelf ∧ (State.romFeeds s).dist = s.dist ∧ (State.romFeeds s).bat = s.bat ∧ (State.romFeeds s).seq = s.seq ∧ (State.romFeeds s).thm = s.thm ∧ (State.romFeeds s).eng = s.eng ∧ (State.romFeeds s).net = s.net ∧ (State.romFeeds s).twin = s.twin ∧ (State.romFeeds s).casc = s.casc ∧ (State.romFeeds s).rst = s.rst ∧ (State.romFeeds s).mem = s.mem ∧ (State.romFeeds s).evr = s.evr ∧ (State.romFeeds s).upd = s.upd := by
  unfold State.romFeeds; (try dsimp only); (repeat' split) <;> simp

@[simp] theorem State.enginesOut_frame  (s : State) :
    (State.enginesOut s).pending = s.pending ∧ (State.enginesOut s).now = s.now ∧ (State.enginesOut s).free = s.free ∧ (State.enginesOut s).arch = s.arch ∧ (State.enginesOut s).pins = s.pins ∧ (State.enginesOut s).tb = s.tb ∧ (State.enginesOut s).meas = s.meas ∧ (State.enginesOut s).lane = s.lane ∧ (State.enginesOut s).snap = s.snap ∧ (State.enginesOut s).phase = s.phase ∧ (State.enginesOut s).loop = s.loop ∧ (State.enginesOut s).shelf = s.shelf ∧ (State.enginesOut s).dist = s.dist ∧ (State.enginesOut s).bat = s.bat ∧ (State.enginesOut s).seq = s.seq ∧ (State.enginesOut s).thm = s.thm ∧ (State.enginesOut s).eng = s.eng ∧ (State.enginesOut s).net = s.net ∧ (State.enginesOut s).twin = s.twin ∧ (State.enginesOut s).casc = s.casc ∧ (State.enginesOut s).mem = s.mem ∧ (State.enginesOut s).evr = s.evr ∧ (State.enginesOut s).upd = s.upd := by
  unfold State.enginesOut; (try dsimp only); (repeat' split) <;> simp

@[simp] theorem State.idlePins_frame  (s : State) :
    (State.idlePins s).pending = s.pending ∧ (State.idlePins s).now = s.now ∧ (State.idlePins s).timers = s.timers ∧ (State.idlePins s).free = s.free ∧ (State.idlePins s).arch = s.arch ∧ (State.idlePins s).tb = s.tb ∧ (State.idlePins s).meas = s.meas ∧ (State.idlePins s).lane = s.lane ∧ (State.idlePins s).snap = s.snap ∧ (State.idlePins s).phase = s.phase ∧ (State.idlePins s).loop = s.loop ∧ (State.idlePins s).shelf = s.shelf ∧ (State.idlePins s).dist = s.dist ∧ (State.idlePins s).bat = s.bat ∧ (State.idlePins s).seq = s.seq ∧ (State.idlePins s).thm = s.thm ∧ (State.idlePins s).eng = s.eng ∧ (State.idlePins s).net = s.net ∧ (State.idlePins s).casc = s.casc ∧ (State.idlePins s).rst = s.rst ∧ (State.idlePins s).mem = s.mem ∧ (State.idlePins s).evr = s.evr ∧ (State.idlePins s).upd = s.upd := by
  unfold State.idlePins; (try dsimp only); (repeat' split) <;> simp

@[simp] theorem State.sinkReleased_frame  (s : State) :
    (State.sinkReleased s).pending = s.pending ∧ (State.sinkReleased s).now = s.now ∧ (State.sinkReleased s).timers = s.timers ∧ (State.sinkReleased s).free = s.free ∧ (State.sinkReleased s).arch = s.arch ∧ (State.sinkReleased s).tb = s.tb ∧ (State.sinkReleased s).meas = s.meas ∧ (State.sinkReleased s).lane = s.lane ∧ (State.sinkReleased s).snap = s.snap ∧ (State.sinkReleased s).phase = s.phase ∧ (State.sinkReleased s).loop = s.loop ∧ (State.sinkReleased s).shelf = s.shelf ∧ (State.sinkReleased s).dist = s.dist ∧ (State.sinkReleased s).bat = s.bat ∧ (State.sinkReleased s).seq = s.seq ∧ (State.sinkReleased s).thm = s.thm ∧ (State.sinkReleased s).eng = s.eng ∧ (State.sinkReleased s).net = s.net ∧ (State.sinkReleased s).twin = s.twin ∧ (State.sinkReleased s).casc = s.casc ∧ (State.sinkReleased s).rst = s.rst ∧ (State.sinkReleased s).mem = s.mem ∧ (State.sinkReleased s).evr = s.evr ∧ (State.sinkReleased s).upd = s.upd := by
  unfold State.sinkReleased; (try dsimp only); (repeat' split) <;> simp

@[simp] theorem State.outputsOut_frame  (s : State) :
    (State.outputsOut s).pending = s.pending ∧ (State.outputsOut s).now = s.now ∧ (State.outputsOut s).free = s.free ∧ (State.outputsOut s).arch = s.arch ∧ (State.outputsOut s).tb = s.tb ∧ (State.outputsOut s).meas = s.meas ∧ (State.outputsOut s).lane = s.lane ∧ (State.outputsOut s).snap = s.snap ∧ (State.outputsOut s).phase = s.phase ∧ (State.outputsOut s).loop = s.loop ∧ (State.outputsOut s).shelf = s.shelf ∧ (State.outputsOut s).dist = s.dist ∧ (State.outputsOut s).bat = s.bat ∧ (State.outputsOut s).seq = s.seq ∧ (State.outputsOut s).thm = s.thm ∧ (State.outputsOut s).net = s.net ∧ (State.outputsOut s).casc = s.casc ∧ (State.outputsOut s).mem = s.mem ∧ (State.outputsOut s).evr = s.evr ∧ (State.outputsOut s).upd = s.upd := by
  unfold State.outputsOut; (try dsimp only); (repeat' split) <;> simp

@[simp] theorem State.loadCal_frame  (s : State) :
    (State.loadCal s).pending = s.pending ∧ (State.loadCal s).now = s.now ∧ (State.loadCal s).timers = s.timers ∧ (State.loadCal s).free = s.free ∧ (State.loadCal s).arch = s.arch ∧ (State.loadCal s).pins = s.pins ∧ (State.loadCal s).tb = s.tb ∧ (State.loadCal s).lane = s.lane ∧ (State.loadCal s).snap = s.snap ∧ (State.loadCal s).phase = s.phase ∧ (State.loadCal s).loop = s.loop ∧ (State.loadCal s).shelf = s.shelf ∧ (State.loadCal s).dist = s.dist ∧ (State.loadCal s).bat = s.bat ∧ (State.loadCal s).seq = s.seq ∧ (State.loadCal s).thm = s.thm ∧ (State.loadCal s).eng = s.eng ∧ (State.loadCal s).net = s.net ∧ (State.loadCal s).twin = s.twin ∧ (State.loadCal s).casc = s.casc ∧ (State.loadCal s).rst = s.rst ∧ (State.loadCal s).mem = s.mem ∧ (State.loadCal s).evr = s.evr ∧ (State.loadCal s).upd = s.upd := by
  unfold State.loadCal; (try dsimp only); (repeat' split) <;> simp

@[simp] theorem State.trimRetry_frame (dev cal : Bool) (s : State) :
    (State.trimRetry dev cal s).pending = s.pending ∧ (State.trimRetry dev cal s).now = s.now ∧ (State.trimRetry dev cal s).free = s.free ∧ (State.trimRetry dev cal s).arch = s.arch ∧ (State.trimRetry dev cal s).pins = s.pins ∧ (State.trimRetry dev cal s).tb = s.tb ∧ (State.trimRetry dev cal s).meas = s.meas ∧ (State.trimRetry dev cal s).lane = s.lane ∧ (State.trimRetry dev cal s).snap = s.snap ∧ (State.trimRetry dev cal s).phase = s.phase ∧ (State.trimRetry dev cal s).loop = s.loop ∧ (State.trimRetry dev cal s).shelf = s.shelf ∧ (State.trimRetry dev cal s).dist = s.dist ∧ (State.trimRetry dev cal s).bat = s.bat ∧ (State.trimRetry dev cal s).seq = s.seq ∧ (State.trimRetry dev cal s).thm = s.thm ∧ (State.trimRetry dev cal s).eng = s.eng ∧ (State.trimRetry dev cal s).twin = s.twin ∧ (State.trimRetry dev cal s).casc = s.casc ∧ (State.trimRetry dev cal s).mem = s.mem ∧ (State.trimRetry dev cal s).upd = s.upd := by
  unfold State.trimRetry; (try dsimp only); (repeat' split) <;> simp

@[simp] theorem State.enterRecovery_frame  (s : State) :
    (State.enterRecovery s).pending = s.pending ∧ (State.enterRecovery s).now = s.now ∧ (State.enterRecovery s).free = s.free ∧ (State.enterRecovery s).arch = s.arch ∧ (State.enterRecovery s).pins = s.pins ∧ (State.enterRecovery s).tb = s.tb ∧ (State.enterRecovery s).meas = s.meas ∧ (State.enterRecovery s).lane = s.lane ∧ (State.enterRecovery s).snap = s.snap ∧ (State.enterRecovery s).phase = s.phase ∧ (State.enterRecovery s).loop = s.loop ∧ (State.enterRecovery s).shelf = s.shelf ∧ (State.enterRecovery s).dist = s.dist ∧ (State.enterRecovery s).bat = s.bat ∧ (State.enterRecovery s).seq = s.seq ∧ (State.enterRecovery s).thm = s.thm ∧ (State.enterRecovery s).eng = s.eng ∧ (State.enterRecovery s).twin = s.twin ∧ (State.enterRecovery s).casc = s.casc ∧ (State.enterRecovery s).mem = s.mem := by
  unfold State.enterRecovery; (try dsimp only); (repeat' split) <;> simp

@[simp] theorem State.runSlot_frame (k : Fin 2) (s : State) :
    (State.runSlot k s).pending = s.pending ∧ (State.runSlot k s).now = s.now ∧ (State.runSlot k s).timers = s.timers ∧ (State.runSlot k s).free = s.free ∧ (State.runSlot k s).arch = s.arch ∧ (State.runSlot k s).pins = s.pins ∧ (State.runSlot k s).tb = s.tb ∧ (State.runSlot k s).meas = s.meas ∧ (State.runSlot k s).lane = s.lane ∧ (State.runSlot k s).snap = s.snap ∧ (State.runSlot k s).phase = s.phase ∧ (State.runSlot k s).loop = s.loop ∧ (State.runSlot k s).shelf = s.shelf ∧ (State.runSlot k s).dist = s.dist ∧ (State.runSlot k s).bat = s.bat ∧ (State.runSlot k s).seq = s.seq ∧ (State.runSlot k s).thm = s.thm ∧ (State.runSlot k s).eng = s.eng ∧ (State.runSlot k s).net = s.net ∧ (State.runSlot k s).twin = s.twin ∧ (State.runSlot k s).casc = s.casc ∧ (State.runSlot k s).rst = s.rst ∧ (State.runSlot k s).mem = s.mem ∧ (State.runSlot k s).evr = s.evr := by
  unfold State.runSlot; (try dsimp only); (repeat' split) <;> simp

@[simp] theorem State.noSlot_frame  (s : State) :
    (State.noSlot s).pending = s.pending ∧ (State.noSlot s).now = s.now ∧ (State.noSlot s).free = s.free ∧ (State.noSlot s).arch = s.arch ∧ (State.noSlot s).pins = s.pins ∧ (State.noSlot s).tb = s.tb ∧ (State.noSlot s).meas = s.meas ∧ (State.noSlot s).lane = s.lane ∧ (State.noSlot s).snap = s.snap ∧ (State.noSlot s).phase = s.phase ∧ (State.noSlot s).loop = s.loop ∧ (State.noSlot s).shelf = s.shelf ∧ (State.noSlot s).dist = s.dist ∧ (State.noSlot s).bat = s.bat ∧ (State.noSlot s).seq = s.seq ∧ (State.noSlot s).thm = s.thm ∧ (State.noSlot s).eng = s.eng ∧ (State.noSlot s).twin = s.twin ∧ (State.noSlot s).casc = s.casc ∧ (State.noSlot s).mem = s.mem := by
  unfold State.noSlot; (try dsimp only); (repeat' split) <;> simp

@[simp] theorem State.bootActive_frame (sound : Fin 2 → Bool) (s : State) :
    (State.bootActive sound s).pending = s.pending ∧ (State.bootActive sound s).now = s.now ∧ (State.bootActive sound s).free = s.free ∧ (State.bootActive sound s).arch = s.arch ∧ (State.bootActive sound s).pins = s.pins ∧ (State.bootActive sound s).tb = s.tb ∧ (State.bootActive sound s).meas = s.meas ∧ (State.bootActive sound s).lane = s.lane ∧ (State.bootActive sound s).snap = s.snap ∧ (State.bootActive sound s).phase = s.phase ∧ (State.bootActive sound s).loop = s.loop ∧ (State.bootActive sound s).shelf = s.shelf ∧ (State.bootActive sound s).dist = s.dist ∧ (State.bootActive sound s).bat = s.bat ∧ (State.bootActive sound s).seq = s.seq ∧ (State.bootActive sound s).thm = s.thm ∧ (State.bootActive sound s).eng = s.eng ∧ (State.bootActive sound s).twin = s.twin ∧ (State.bootActive sound s).casc = s.casc ∧ (State.bootActive sound s).mem = s.mem := by
  unfold State.bootActive; (try dsimp only); (repeat' split) <;> simp

@[simp] theorem State.trialOver_frame (o : Fin 2) (x : SlotSt) (s : State) :
    (State.trialOver o x s).pending = s.pending ∧ (State.trialOver o x s).now = s.now ∧ (State.trialOver o x s).timers = s.timers ∧ (State.trialOver o x s).free = s.free ∧ (State.trialOver o x s).arch = s.arch ∧ (State.trialOver o x s).pins = s.pins ∧ (State.trialOver o x s).tb = s.tb ∧ (State.trialOver o x s).meas = s.meas ∧ (State.trialOver o x s).lane = s.lane ∧ (State.trialOver o x s).snap = s.snap ∧ (State.trialOver o x s).phase = s.phase ∧ (State.trialOver o x s).loop = s.loop ∧ (State.trialOver o x s).shelf = s.shelf ∧ (State.trialOver o x s).dist = s.dist ∧ (State.trialOver o x s).bat = s.bat ∧ (State.trialOver o x s).seq = s.seq ∧ (State.trialOver o x s).thm = s.thm ∧ (State.trialOver o x s).eng = s.eng ∧ (State.trialOver o x s).net = s.net ∧ (State.trialOver o x s).twin = s.twin ∧ (State.trialOver o x s).casc = s.casc ∧ (State.trialOver o x s).rst = s.rst ∧ (State.trialOver o x s).mem = s.mem ∧ (State.trialOver o x s).evr = s.evr := by
  unfold State.trialOver; (try dsimp only); (repeat' split) <;> simp

@[simp] theorem State.romSelect_frame (digests : Bool) (sound : Fin 2 → Bool) (s : State) :
    (State.romSelect digests sound s).pending = s.pending ∧ (State.romSelect digests sound s).now = s.now ∧ (State.romSelect digests sound s).free = s.free ∧ (State.romSelect digests sound s).arch = s.arch ∧ (State.romSelect digests sound s).pins = s.pins ∧ (State.romSelect digests sound s).tb = s.tb ∧ (State.romSelect digests sound s).meas = s.meas ∧ (State.romSelect digests sound s).lane = s.lane ∧ (State.romSelect digests sound s).snap = s.snap ∧ (State.romSelect digests sound s).phase = s.phase ∧ (State.romSelect digests sound s).loop = s.loop ∧ (State.romSelect digests sound s).shelf = s.shelf ∧ (State.romSelect digests sound s).dist = s.dist ∧ (State.romSelect digests sound s).bat = s.bat ∧ (State.romSelect digests sound s).seq = s.seq ∧ (State.romSelect digests sound s).thm = s.thm ∧ (State.romSelect digests sound s).eng = s.eng ∧ (State.romSelect digests sound s).twin = s.twin ∧ (State.romSelect digests sound s).casc = s.casc ∧ (State.romSelect digests sound s).mem = s.mem := by
  unfold State.romSelect; (try dsimp only); (repeat' split) <;> simp

@[simp] theorem State.dropHolds_frame  (s : State) :
    (State.dropHolds s).pending = s.pending ∧ (State.dropHolds s).now = s.now ∧ (State.dropHolds s).timers = s.timers ∧ (State.dropHolds s).free = s.free ∧ (State.dropHolds s).arch = s.arch ∧ (State.dropHolds s).tb = s.tb ∧ (State.dropHolds s).meas = s.meas ∧ (State.dropHolds s).lane = s.lane ∧ (State.dropHolds s).snap = s.snap ∧ (State.dropHolds s).phase = s.phase ∧ (State.dropHolds s).loop = s.loop ∧ (State.dropHolds s).shelf = s.shelf ∧ (State.dropHolds s).bat = s.bat ∧ (State.dropHolds s).seq = s.seq ∧ (State.dropHolds s).thm = s.thm ∧ (State.dropHolds s).eng = s.eng ∧ (State.dropHolds s).net = s.net ∧ (State.dropHolds s).twin = s.twin ∧ (State.dropHolds s).casc = s.casc ∧ (State.dropHolds s).rst = s.rst ∧ (State.dropHolds s).mem = s.mem ∧ (State.dropHolds s).evr = s.evr ∧ (State.dropHolds s).upd = s.upd := by
  unfold State.dropHolds; (try dsimp only); (repeat' split) <;> simp

@[simp] theorem State.forwardOn_frame  (s : State) :
    (State.forwardOn s).pending = s.pending ∧ (State.forwardOn s).now = s.now ∧ (State.forwardOn s).timers = s.timers ∧ (State.forwardOn s).free = s.free ∧ (State.forwardOn s).arch = s.arch ∧ (State.forwardOn s).pins = s.pins ∧ (State.forwardOn s).tb = s.tb ∧ (State.forwardOn s).meas = s.meas ∧ (State.forwardOn s).lane = s.lane ∧ (State.forwardOn s).snap = s.snap ∧ (State.forwardOn s).phase = s.phase ∧ (State.forwardOn s).loop = s.loop ∧ (State.forwardOn s).shelf = s.shelf ∧ (State.forwardOn s).dist = s.dist ∧ (State.forwardOn s).bat = s.bat ∧ (State.forwardOn s).seq = s.seq ∧ (State.forwardOn s).thm = s.thm ∧ (State.forwardOn s).eng = s.eng ∧ (State.forwardOn s).net = s.net ∧ (State.forwardOn s).twin = s.twin ∧ (State.forwardOn s).rst = s.rst ∧ (State.forwardOn s).mem = s.mem ∧ (State.forwardOn s).evr = s.evr ∧ (State.forwardOn s).upd = s.upd := by
  unfold State.forwardOn; (try dsimp only); (repeat' split) <;> simp

@[simp] theorem State.leaveRing_frame  (s : State) :
    (State.leaveRing s).pending = s.pending ∧ (State.leaveRing s).now = s.now ∧ (State.leaveRing s).free = s.free ∧ (State.leaveRing s).arch = s.arch ∧ (State.leaveRing s).pins = s.pins ∧ (State.leaveRing s).meas = s.meas ∧ (State.leaveRing s).lane = s.lane ∧ (State.leaveRing s).snap = s.snap ∧ (State.leaveRing s).phase = s.phase ∧ (State.leaveRing s).loop = s.loop ∧ (State.leaveRing s).shelf = s.shelf ∧ (State.leaveRing s).dist = s.dist ∧ (State.leaveRing s).bat = s.bat ∧ (State.leaveRing s).seq = s.seq ∧ (State.leaveRing s).thm = s.thm ∧ (State.leaveRing s).eng = s.eng ∧ (State.leaveRing s).twin = s.twin ∧ (State.leaveRing s).rst = s.rst ∧ (State.leaveRing s).mem = s.mem ∧ (State.leaveRing s).upd = s.upd := by
  unfold State.leaveRing; (try dsimp only); (repeat' split) <;> simp

@[simp] theorem State.badFrame_frame  (s : State) :
    (State.badFrame s).pending = s.pending ∧ (State.badFrame s).now = s.now ∧ (State.badFrame s).timers = s.timers ∧ (State.badFrame s).free = s.free ∧ (State.badFrame s).arch = s.arch ∧ (State.badFrame s).pins = s.pins ∧ (State.badFrame s).tb = s.tb ∧ (State.badFrame s).meas = s.meas ∧ (State.badFrame s).lane = s.lane ∧ (State.badFrame s).snap = s.snap ∧ (State.badFrame s).phase = s.phase ∧ (State.badFrame s).loop = s.loop ∧ (State.badFrame s).shelf = s.shelf ∧ (State.badFrame s).dist = s.dist ∧ (State.badFrame s).bat = s.bat ∧ (State.badFrame s).seq = s.seq ∧ (State.badFrame s).thm = s.thm ∧ (State.badFrame s).eng = s.eng ∧ (State.badFrame s).net = s.net ∧ (State.badFrame s).casc = s.casc ∧ (State.badFrame s).rst = s.rst ∧ (State.badFrame s).mem = s.mem ∧ (State.badFrame s).evr = s.evr ∧ (State.badFrame s).upd = s.upd := by
  unfold State.badFrame; (try dsimp only); (repeat' split) <;> simp

@[simp] theorem State.masterSeen_frame (src : Byte) (s : State) :
    (State.masterSeen src s).pending = s.pending ∧ (State.masterSeen src s).now = s.now ∧ (State.masterSeen src s).free = s.free ∧ (State.masterSeen src s).arch = s.arch ∧ (State.masterSeen src s).pins = s.pins ∧ (State.masterSeen src s).tb = s.tb ∧ (State.masterSeen src s).meas = s.meas ∧ (State.masterSeen src s).lane = s.lane ∧ (State.masterSeen src s).snap = s.snap ∧ (State.masterSeen src s).phase = s.phase ∧ (State.masterSeen src s).loop = s.loop ∧ (State.masterSeen src s).shelf = s.shelf ∧ (State.masterSeen src s).dist = s.dist ∧ (State.masterSeen src s).bat = s.bat ∧ (State.masterSeen src s).seq = s.seq ∧ (State.masterSeen src s).thm = s.thm ∧ (State.masterSeen src s).eng = s.eng ∧ (State.masterSeen src s).net = s.net ∧ (State.masterSeen src s).twin = s.twin ∧ (State.masterSeen src s).rst = s.rst ∧ (State.masterSeen src s).mem = s.mem ∧ (State.masterSeen src s).evr = s.evr ∧ (State.masterSeen src s).upd = s.upd := by
  unfold State.masterSeen; (try dsimp only); (repeat' split) <;> simp

@[simp] theorem State.cascSteer_frame (err : Rat) (s : State) :
    (State.cascSteer err s).pending = s.pending ∧ (State.cascSteer err s).now = s.now ∧ (State.cascSteer err s).free = s.free ∧ (State.cascSteer err s).arch = s.arch ∧ (State.cascSteer err s).pins = s.pins ∧ (State.cascSteer err s).meas = s.meas ∧ (State.cascSteer err s).lane = s.lane ∧ (State.cascSteer err s).snap = s.snap ∧ (State.cascSteer err s).phase = s.phase ∧ (State.cascSteer err s).loop = s.loop ∧ (State.cascSteer err s).shelf = s.shelf ∧ (State.cascSteer err s).dist = s.dist ∧ (State.cascSteer err s).bat = s.bat ∧ (State.cascSteer err s).seq = s.seq ∧ (State.cascSteer err s).thm = s.thm ∧ (State.cascSteer err s).eng = s.eng ∧ (State.cascSteer err s).net = s.net ∧ (State.cascSteer err s).twin = s.twin ∧ (State.cascSteer err s).rst = s.rst ∧ (State.cascSteer err s).mem = s.mem ∧ (State.cascSteer err s).evr = s.evr ∧ (State.cascSteer err s).upd = s.upd := by
  unfold State.cascSteer; (try dsimp only); (repeat' split) <;> simp

@[simp] theorem State.takeReport_frame (pos : Fin 8) (pReq pMax w soc : Rat) (s : State) :
    (State.takeReport pos pReq pMax w soc s).pending = s.pending ∧ (State.takeReport pos pReq pMax w soc s).now = s.now ∧ (State.takeReport pos pReq pMax w soc s).timers = s.timers ∧ (State.takeReport pos pReq pMax w soc s).free = s.free ∧ (State.takeReport pos pReq pMax w soc s).arch = s.arch ∧ (State.takeReport pos pReq pMax w soc s).pins = s.pins ∧ (State.takeReport pos pReq pMax w soc s).tb = s.tb ∧ (State.takeReport pos pReq pMax w soc s).meas = s.meas ∧ (State.takeReport pos pReq pMax w soc s).lane = s.lane ∧ (State.takeReport pos pReq pMax w soc s).snap = s.snap ∧ (State.takeReport pos pReq pMax w soc s).phase = s.phase ∧ (State.takeReport pos pReq pMax w soc s).loop = s.loop ∧ (State.takeReport pos pReq pMax w soc s).shelf = s.shelf ∧ (State.takeReport pos pReq pMax w soc s).dist = s.dist ∧ (State.takeReport pos pReq pMax w soc s).bat = s.bat ∧ (State.takeReport pos pReq pMax w soc s).seq = s.seq ∧ (State.takeReport pos pReq pMax w soc s).thm = s.thm ∧ (State.takeReport pos pReq pMax w soc s).eng = s.eng ∧ (State.takeReport pos pReq pMax w soc s).net = s.net ∧ (State.takeReport pos pReq pMax w soc s).twin = s.twin ∧ (State.takeReport pos pReq pMax w soc s).rst = s.rst ∧ (State.takeReport pos pReq pMax w soc s).mem = s.mem ∧ (State.takeReport pos pReq pMax w soc s).evr = s.evr ∧ (State.takeReport pos pReq pMax w soc s).upd = s.upd := by
  unfold State.takeReport; (try dsimp only); (repeat' split) <;> simp

@[simp] theorem State.allocate_frame  (s : State) :
    (State.allocate s).pending = s.pending ∧ (State.allocate s).now = s.now ∧ (State.allocate s).timers = s.timers ∧ (State.allocate s).free = s.free ∧ (State.allocate s).arch = s.arch ∧ (State.allocate s).pins = s.pins ∧ (State.allocate s).tb = s.tb ∧ (State.allocate s).meas = s.meas ∧ (State.allocate s).lane = s.lane ∧ (State.allocate s).snap = s.snap ∧ (State.allocate s).phase = s.phase ∧ (State.allocate s).loop = s.loop ∧ (State.allocate s).shelf = s.shelf ∧ (State.allocate s).dist = s.dist ∧ (State.allocate s).bat = s.bat ∧ (State.allocate s).seq = s.seq ∧ (State.allocate s).thm = s.thm ∧ (State.allocate s).eng = s.eng ∧ (State.allocate s).net = s.net ∧ (State.allocate s).rst = s.rst ∧ (State.allocate s).mem = s.mem ∧ (State.allocate s).evr = s.evr ∧ (State.allocate s).upd = s.upd := by
  unfold State.allocate; (try dsimp only); (repeat' split) <;> simp

@[simp] theorem State.cascTakeover_frame  (s : State) :
    (State.cascTakeover s).pending = s.pending ∧ (State.cascTakeover s).now = s.now ∧ (State.cascTakeover s).free = s.free ∧ (State.cascTakeover s).arch = s.arch ∧ (State.cascTakeover s).pins = s.pins ∧ (State.cascTakeover s).tb = s.tb ∧ (State.cascTakeover s).meas = s.meas ∧ (State.cascTakeover s).lane = s.lane ∧ (State.cascTakeover s).snap = s.snap ∧ (State.cascTakeover s).phase = s.phase ∧ (State.cascTakeover s).loop = s.loop ∧ (State.cascTakeover s).shelf = s.shelf ∧ (State.cascTakeover s).dist = s.dist ∧ (State.cascTakeover s).bat = s.bat ∧ (State.cascTakeover s).seq = s.seq ∧ (State.cascTakeover s).thm = s.thm ∧ (State.cascTakeover s).eng = s.eng ∧ (State.cascTakeover s).net = s.net ∧ (State.cascTakeover s).twin = s.twin ∧ (State.cascTakeover s).rst = s.rst ∧ (State.cascTakeover s).mem = s.mem ∧ (State.cascTakeover s).evr = s.evr ∧ (State.cascTakeover s).upd = s.upd := by
  unfold State.cascTakeover; (try dsimp only); (repeat' split) <;> simp

@[simp] theorem State.twinQuiet_frame  (s : State) :
    (State.twinQuiet s).pending = s.pending ∧ (State.twinQuiet s).now = s.now ∧ (State.twinQuiet s).free = s.free ∧ (State.twinQuiet s).arch = s.arch ∧ (State.twinQuiet s).pins = s.pins ∧ (State.twinQuiet s).tb = s.tb ∧ (State.twinQuiet s).meas = s.meas ∧ (State.twinQuiet s).lane = s.lane ∧ (State.twinQuiet s).snap = s.snap ∧ (State.twinQuiet s).phase = s.phase ∧ (State.twinQuiet s).loop = s.loop ∧ (State.twinQuiet s).shelf = s.shelf ∧ (State.twinQuiet s).dist = s.dist ∧ (State.twinQuiet s).bat = s.bat ∧ (State.twinQuiet s).seq = s.seq ∧ (State.twinQuiet s).thm = s.thm ∧ (State.twinQuiet s).eng = s.eng ∧ (State.twinQuiet s).net = s.net ∧ (State.twinQuiet s).twin = s.twin ∧ (State.twinQuiet s).casc = s.casc ∧ (State.twinQuiet s).rst = s.rst ∧ (State.twinQuiet s).mem = s.mem ∧ (State.twinQuiet s).evr = s.evr ∧ (State.twinQuiet s).upd = s.upd := by
  unfold State.twinQuiet; (try dsimp only); (repeat' split) <;> simp

@[simp] theorem State.pairRefused_frame (reason : Nat) (s : State) :
    (State.pairRefused reason s).pending = s.pending ∧ (State.pairRefused reason s).now = s.now ∧ (State.pairRefused reason s).free = s.free ∧ (State.pairRefused reason s).arch = s.arch ∧ (State.pairRefused reason s).tb = s.tb ∧ (State.pairRefused reason s).meas = s.meas ∧ (State.pairRefused reason s).lane = s.lane ∧ (State.pairRefused reason s).snap = s.snap ∧ (State.pairRefused reason s).phase = s.phase ∧ (State.pairRefused reason s).loop = s.loop ∧ (State.pairRefused reason s).bat = s.bat ∧ (State.pairRefused reason s).seq = s.seq ∧ (State.pairRefused reason s).thm = s.thm ∧ (State.pairRefused reason s).eng = s.eng ∧ (State.pairRefused reason s).casc = s.casc ∧ (State.pairRefused reason s).rst = s.rst ∧ (State.pairRefused reason s).mem = s.mem ∧ (State.pairRefused reason s).upd = s.upd := by
  unfold State.pairRefused; (try dsimp only); (repeat' split) <;> simp

@[simp] theorem State.beginActive_frame (st : TwinSt) (s : State) :
    (State.beginActive st s).pending = s.pending ∧ (State.beginActive st s).now = s.now ∧ (State.beginActive st s).free = s.free ∧ (State.beginActive st s).arch = s.arch ∧ (State.beginActive st s).tb = s.tb ∧ (State.beginActive st s).meas = s.meas ∧ (State.beginActive st s).lane = s.lane ∧ (State.beginActive st s).snap = s.snap ∧ (State.beginActive st s).phase = s.phase ∧ (State.beginActive st s).loop = s.loop ∧ (State.beginActive st s).shelf = s.shelf ∧ (State.beginActive st s).dist = s.dist ∧ (State.beginActive st s).bat = s.bat ∧ (State.beginActive st s).seq = s.seq ∧ (State.beginActive st s).thm = s.thm ∧ (State.beginActive st s).eng = s.eng ∧ (State.beginActive st s).net = s.net ∧ (State.beginActive st s).casc = s.casc ∧ (State.beginActive st s).rst = s.rst ∧ (State.beginActive st s).mem = s.mem ∧ (State.beginActive st s).evr = s.evr ∧ (State.beginActive st s).upd = s.upd := by
  unfold State.beginActive; (try dsimp only); (repeat' split) <;> simp

@[simp] theorem State.beginStandby_frame  (s : State) :
    (State.beginStandby s).pending = s.pending ∧ (State.beginStandby s).now = s.now ∧ (State.beginStandby s).free = s.free ∧ (State.beginStandby s).arch = s.arch ∧ (State.beginStandby s).tb = s.tb ∧ (State.beginStandby s).meas = s.meas ∧ (State.beginStandby s).lane = s.lane ∧ (State.beginStandby s).snap = s.snap ∧ (State.beginStandby s).phase = s.phase ∧ (State.beginStandby s).loop = s.loop ∧ (State.beginStandby s).bat = s.bat ∧ (State.beginStandby s).seq = s.seq ∧ (State.beginStandby s).thm = s.thm ∧ (State.beginStandby s).eng = s.eng ∧ (State.beginStandby s).casc = s.casc ∧ (State.beginStandby s).rst = s.rst ∧ (State.beginStandby s).mem = s.mem ∧ (State.beginStandby s).evr = s.evr ∧ (State.beginStandby s).upd = s.upd := by
  unfold State.beginStandby; (try dsimp only); (repeat' split) <;> simp

@[simp] theorem State.pairDone_frame (p : PeerInfo) (s : State) :
    (State.pairDone p s).pending = s.pending ∧ (State.pairDone p s).now = s.now ∧ (State.pairDone p s).free = s.free ∧ (State.pairDone p s).arch = s.arch ∧ (State.pairDone p s).tb = s.tb ∧ (State.pairDone p s).meas = s.meas ∧ (State.pairDone p s).lane = s.lane ∧ (State.pairDone p s).snap = s.snap ∧ (State.pairDone p s).phase = s.phase ∧ (State.pairDone p s).loop = s.loop ∧ (State.pairDone p s).bat = s.bat ∧ (State.pairDone p s).seq = s.seq ∧ (State.pairDone p s).thm = s.thm ∧ (State.pairDone p s).casc = s.casc ∧ (State.pairDone p s).rst = s.rst ∧ (State.pairDone p s).mem = s.mem ∧ (State.pairDone p s).upd = s.upd := by
  unfold State.pairDone; (try dsimp only); (repeat' split) <;> simp

@[simp] theorem State.judgePeer_frame (p : PeerInfo) (s : State) :
    (State.judgePeer p s).pending = s.pending ∧ (State.judgePeer p s).now = s.now ∧ (State.judgePeer p s).free = s.free ∧ (State.judgePeer p s).arch = s.arch ∧ (State.judgePeer p s).tb = s.tb ∧ (State.judgePeer p s).meas = s.meas ∧ (State.judgePeer p s).lane = s.lane ∧ (State.judgePeer p s).snap = s.snap ∧ (State.judgePeer p s).phase = s.phase ∧ (State.judgePeer p s).loop = s.loop ∧ (State.judgePeer p s).bat = s.bat ∧ (State.judgePeer p s).seq = s.seq ∧ (State.judgePeer p s).thm = s.thm ∧ (State.judgePeer p s).casc = s.casc ∧ (State.judgePeer p s).rst = s.rst ∧ (State.judgePeer p s).mem = s.mem ∧ (State.judgePeer p s).upd = s.upd := by
  unfold State.judgePeer; (try dsimp only); (repeat' split) <;> simp

@[simp] theorem State.adopt_frame (vals a b : List (Nat × Nat)) (s : State) :
    (State.adopt vals a b s).pending = s.pending ∧ (State.adopt vals a b s).now = s.now ∧ (State.adopt vals a b s).free = s.free ∧ (State.adopt vals a b s).arch = s.arch ∧ (State.adopt vals a b s).pins = s.pins ∧ (State.adopt vals a b s).tb = s.tb ∧ (State.adopt vals a b s).meas = s.meas ∧ (State.adopt vals a b s).lane = s.lane ∧ (State.adopt vals a b s).snap = s.snap ∧ (State.adopt vals a b s).phase = s.phase ∧ (State.adopt vals a b s).loop = s.loop ∧ (State.adopt vals a b s).shelf = s.shelf ∧ (State.adopt vals a b s).dist = s.dist ∧ (State.adopt vals a b s).bat = s.bat ∧ (State.adopt vals a b s).seq = s.seq ∧ (State.adopt vals a b s).thm = s.thm ∧ (State.adopt vals a b s).eng = s.eng ∧ (State.adopt vals a b s).casc = s.casc ∧ (State.adopt vals a b s).rst = s.rst ∧ (State.adopt vals a b s).mem = s.mem ∧ (State.adopt vals a b s).upd = s.upd := by
  unfold State.adopt; (try dsimp only); (repeat' split) <;> simp

@[simp] theorem State.syncCheck_frame  (s : State) :
    (State.syncCheck s).pending = s.pending ∧ (State.syncCheck s).now = s.now ∧ (State.syncCheck s).timers = s.timers ∧ (State.syncCheck s).free = s.free ∧ (State.syncCheck s).arch = s.arch ∧ (State.syncCheck s).pins = s.pins ∧ (State.syncCheck s).tb = s.tb ∧ (State.syncCheck s).meas = s.meas ∧ (State.syncCheck s).lane = s.lane ∧ (State.syncCheck s).snap = s.snap ∧ (State.syncCheck s).phase = s.phase ∧ (State.syncCheck s).loop = s.loop ∧ (State.syncCheck s).shelf = s.shelf ∧ (State.syncCheck s).dist = s.dist ∧ (State.syncCheck s).bat = s.bat ∧ (State.syncCheck s).seq = s.seq ∧ (State.syncCheck s).thm = s.thm ∧ (State.syncCheck s).eng = s.eng ∧ (State.syncCheck s).net = s.net ∧ (State.syncCheck s).casc = s.casc ∧ (State.syncCheck s).rst = s.rst ∧ (State.syncCheck s).mem = s.mem ∧ (State.syncCheck s).evr = s.evr ∧ (State.syncCheck s).upd = s.upd := by
  unfold State.syncCheck; (try dsimp only); (repeat' split) <;> simp

@[simp] theorem State.badPaired_frame  (s : State) :
    (State.badPaired s).pending = s.pending ∧ (State.badPaired s).now = s.now ∧ (State.badPaired s).timers = s.timers ∧ (State.badPaired s).free = s.free ∧ (State.badPaired s).arch = s.arch ∧ (State.badPaired s).pins = s.pins ∧ (State.badPaired s).tb = s.tb ∧ (State.badPaired s).meas = s.meas ∧ (State.badPaired s).lane = s.lane ∧ (State.badPaired s).snap = s.snap ∧ (State.badPaired s).phase = s.phase ∧ (State.badPaired s).loop = s.loop ∧ (State.badPaired s).shelf = s.shelf ∧ (State.badPaired s).dist = s.dist ∧ (State.badPaired s).bat = s.bat ∧ (State.badPaired s).seq = s.seq ∧ (State.badPaired s).thm = s.thm ∧ (State.badPaired s).eng = s.eng ∧ (State.badPaired s).net = s.net ∧ (State.badPaired s).casc = s.casc ∧ (State.badPaired s).rst = s.rst ∧ (State.badPaired s).mem = s.mem ∧ (State.badPaired s).evr = s.evr ∧ (State.badPaired s).upd = s.upd := by
  unfold State.badPaired; (try dsimp only); (repeat' split) <;> simp

@[simp] theorem State.badMirror_frame  (s : State) :
    (State.badMirror s).pending = s.pending ∧ (State.badMirror s).now = s.now ∧ (State.badMirror s).free = s.free ∧ (State.badMirror s).arch = s.arch ∧ (State.badMirror s).pins = s.pins ∧ (State.badMirror s).tb = s.tb ∧ (State.badMirror s).meas = s.meas ∧ (State.badMirror s).lane = s.lane ∧ (State.badMirror s).snap = s.snap ∧ (State.badMirror s).phase = s.phase ∧ (State.badMirror s).loop = s.loop ∧ (State.badMirror s).shelf = s.shelf ∧ (State.badMirror s).dist = s.dist ∧ (State.badMirror s).bat = s.bat ∧ (State.badMirror s).seq = s.seq ∧ (State.badMirror s).thm = s.thm ∧ (State.badMirror s).eng = s.eng ∧ (State.badMirror s).casc = s.casc ∧ (State.badMirror s).rst = s.rst ∧ (State.badMirror s).mem = s.mem ∧ (State.badMirror s).upd = s.upd := by
  unfold State.badMirror; (try dsimp only); (repeat' split) <;> simp

@[simp] theorem State.takeMirror_frame (f : MirrorFrame) (s : State) :
    (State.takeMirror f s).pending = s.pending ∧ (State.takeMirror f s).now = s.now ∧ (State.takeMirror f s).timers = s.timers ∧ (State.takeMirror f s).free = s.free ∧ (State.takeMirror f s).arch = s.arch ∧ (State.takeMirror f s).pins = s.pins ∧ (State.takeMirror f s).tb = s.tb ∧ (State.takeMirror f s).meas = s.meas ∧ (State.takeMirror f s).snap = s.snap ∧ (State.takeMirror f s).phase = s.phase ∧ (State.takeMirror f s).dist = s.dist ∧ (State.takeMirror f s).bat = s.bat ∧ (State.takeMirror f s).seq = s.seq ∧ (State.takeMirror f s).thm = s.thm ∧ (State.takeMirror f s).eng = s.eng ∧ (State.takeMirror f s).net = s.net ∧ (State.takeMirror f s).casc = s.casc ∧ (State.takeMirror f s).rst = s.rst ∧ (State.takeMirror f s).mem = s.mem ∧ (State.takeMirror f s).evr = s.evr ∧ (State.takeMirror f s).upd = s.upd := by
  unfold State.takeMirror; (try dsimp only); (repeat' split) <;> simp

@[simp] theorem State.armSome_frame (x : Option (TimerId × Nat)) (s : State) :
    (State.armSome x s).pending = s.pending ∧ (State.armSome x s).now = s.now ∧ (State.armSome x s).free = s.free ∧ (State.armSome x s).arch = s.arch ∧ (State.armSome x s).pins = s.pins ∧ (State.armSome x s).tb = s.tb ∧ (State.armSome x s).meas = s.meas ∧ (State.armSome x s).lane = s.lane ∧ (State.armSome x s).snap = s.snap ∧ (State.armSome x s).phase = s.phase ∧ (State.armSome x s).loop = s.loop ∧ (State.armSome x s).shelf = s.shelf ∧ (State.armSome x s).dist = s.dist ∧ (State.armSome x s).bat = s.bat ∧ (State.armSome x s).seq = s.seq ∧ (State.armSome x s).thm = s.thm ∧ (State.armSome x s).eng = s.eng ∧ (State.armSome x s).net = s.net ∧ (State.armSome x s).twin = s.twin ∧ (State.armSome x s).casc = s.casc ∧ (State.armSome x s).rst = s.rst ∧ (State.armSome x s).mem = s.mem ∧ (State.armSome x s).evr = s.evr ∧ (State.armSome x s).upd = s.upd := by
  unfold State.armSome; (try dsimp only); (repeat' split) <;> simp

@[simp] theorem State.followRail_frame (r : Fin 32) (on : Bool) (s : State) :
    (State.followRail r on s).pending = s.pending ∧ (State.followRail r on s).now = s.now ∧ (State.followRail r on s).timers = s.timers ∧ (State.followRail r on s).free = s.free ∧ (State.followRail r on s).arch = s.arch ∧ (State.followRail r on s).tb = s.tb ∧ (State.followRail r on s).meas = s.meas ∧ (State.followRail r on s).snap = s.snap ∧ (State.followRail r on s).shelf = s.shelf ∧ (State.followRail r on s).seq = s.seq ∧ (State.followRail r on s).thm = s.thm ∧ (State.followRail r on s).eng = s.eng ∧ (State.followRail r on s).net = s.net ∧ (State.followRail r on s).twin = s.twin ∧ (State.followRail r on s).casc = s.casc ∧ (State.followRail r on s).rst = s.rst ∧ (State.followRail r on s).mem = s.mem ∧ (State.followRail r on s).evr = s.evr ∧ (State.followRail r on s).upd = s.upd := by
  unfold State.followRail; (try dsimp only); (repeat' split) <;> simp

@[simp] theorem State.trackRail_frame (capShed : List (Fin 16)) (r : Fin 32) (x : RailSt × Bool × Bool × Bool × Bool × Nat) (s : State) :
    (State.trackRail capShed r x s).pending = s.pending ∧ (State.trackRail capShed r x s).now = s.now ∧ (State.trackRail capShed r x s).free = s.free ∧ (State.trackRail capShed r x s).arch = s.arch ∧ (State.trackRail capShed r x s).tb = s.tb ∧ (State.trackRail capShed r x s).meas = s.meas ∧ (State.trackRail capShed r x s).snap = s.snap ∧ (State.trackRail capShed r x s).shelf = s.shelf ∧ (State.trackRail capShed r x s).thm = s.thm ∧ (State.trackRail capShed r x s).eng = s.eng ∧ (State.trackRail capShed r x s).net = s.net ∧ (State.trackRail capShed r x s).twin = s.twin ∧ (State.trackRail capShed r x s).casc = s.casc ∧ (State.trackRail capShed r x s).rst = s.rst ∧ (State.trackRail capShed r x s).mem = s.mem ∧ (State.trackRail capShed r x s).evr = s.evr ∧ (State.trackRail capShed r x s).upd = s.upd := by
  unfold State.trackRail; (try dsimp only); (repeat' split) <;> simp

@[simp] theorem State.trackBranch_frame (k : Fin 16) (x : BrState × Nat) (s : State) :
    (State.trackBranch k x s).pending = s.pending ∧ (State.trackBranch k x s).now = s.now ∧ (State.trackBranch k x s).free = s.free ∧ (State.trackBranch k x s).arch = s.arch ∧ (State.trackBranch k x s).pins = s.pins ∧ (State.trackBranch k x s).tb = s.tb ∧ (State.trackBranch k x s).meas = s.meas ∧ (State.trackBranch k x s).lane = s.lane ∧ (State.trackBranch k x s).snap = s.snap ∧ (State.trackBranch k x s).phase = s.phase ∧ (State.trackBranch k x s).loop = s.loop ∧ (State.trackBranch k x s).shelf = s.shelf ∧ (State.trackBranch k x s).bat = s.bat ∧ (State.trackBranch k x s).seq = s.seq ∧ (State.trackBranch k x s).thm = s.thm ∧ (State.trackBranch k x s).eng = s.eng ∧ (State.trackBranch k x s).net = s.net ∧ (State.trackBranch k x s).twin = s.twin ∧ (State.trackBranch k x s).casc = s.casc ∧ (State.trackBranch k x s).rst = s.rst ∧ (State.trackBranch k x s).mem = s.mem ∧ (State.trackBranch k x s).evr = s.evr ∧ (State.trackBranch k x s).upd = s.upd := by
  unfold State.trackBranch; (try dsimp only); (repeat' split) <;> simp

@[simp] theorem State.trackFeed_frame (p : Fin 2) (sel : Option Bool) (s : State) :
    (State.trackFeed p sel s).pending = s.pending ∧ (State.trackFeed p sel s).now = s.now ∧ (State.trackFeed p sel s).timers = s.timers ∧ (State.trackFeed p sel s).free = s.free ∧ (State.trackFeed p sel s).arch = s.arch ∧ (State.trackFeed p sel s).pins = s.pins ∧ (State.trackFeed p sel s).tb = s.tb ∧ (State.trackFeed p sel s).meas = s.meas ∧ (State.trackFeed p sel s).lane = s.lane ∧ (State.trackFeed p sel s).snap = s.snap ∧ (State.trackFeed p sel s).phase = s.phase ∧ (State.trackFeed p sel s).loop = s.loop ∧ (State.trackFeed p sel s).shelf = s.shelf ∧ (State.trackFeed p sel s).bat = s.bat ∧ (State.trackFeed p sel s).seq = s.seq ∧ (State.trackFeed p sel s).thm = s.thm ∧ (State.trackFeed p sel s).eng = s.eng ∧ (State.trackFeed p sel s).net = s.net ∧ (State.trackFeed p sel s).twin = s.twin ∧ (State.trackFeed p sel s).casc = s.casc ∧ (State.trackFeed p sel s).rst = s.rst ∧ (State.trackFeed p sel s).mem = s.mem ∧ (State.trackFeed p sel s).evr = s.evr ∧ (State.trackFeed p sel s).upd = s.upd := by
  unfold State.trackFeed; (try dsimp only); (repeat' split) <;> simp

@[simp] theorem State.trackLoop_frame (l : Fin 8) (x : Rat × Option SigWord × BitVec 32 × BitVec 32) (s : State) :
    (State.trackLoop l x s).pending = s.pending ∧ (State.trackLoop l x s).now = s.now ∧ (State.trackLoop l x s).timers = s.timers ∧ (State.trackLoop l x s).free = s.free ∧ (State.trackLoop l x s).arch = s.arch ∧ (State.trackLoop l x s).pins = s.pins ∧ (State.trackLoop l x s).tb = s.tb ∧ (State.trackLoop l x s).meas = s.meas ∧ (State.trackLoop l x s).lane = s.lane ∧ (State.trackLoop l x s).snap = s.snap ∧ (State.trackLoop l x s).shelf = s.shelf ∧ (State.trackLoop l x s).dist = s.dist ∧ (State.trackLoop l x s).bat = s.bat ∧ (State.trackLoop l x s).seq = s.seq ∧ (State.trackLoop l x s).thm = s.thm ∧ (State.trackLoop l x s).eng = s.eng ∧ (State.trackLoop l x s).net = s.net ∧ (State.trackLoop l x s).twin = s.twin ∧ (State.trackLoop l x s).casc = s.casc ∧ (State.trackLoop l x s).rst = s.rst ∧ (State.trackLoop l x s).mem = s.mem ∧ (State.trackLoop l x s).evr = s.evr ∧ (State.trackLoop l x s).upd = s.upd := by
  unfold State.trackLoop; (try dsimp only); (repeat' split) <;> simp

@[simp] theorem State.takeStateFrame_frame (f : StateFrame) (s : State) :
    (State.takeStateFrame f s).pending = s.pending ∧ (State.takeStateFrame f s).now = s.now ∧ (State.takeStateFrame f s).free = s.free ∧ (State.takeStateFrame f s).arch = s.arch ∧ (State.takeStateFrame f s).tb = s.tb ∧ (State.takeStateFrame f s).meas = s.meas ∧ (State.takeStateFrame f s).snap = s.snap ∧ (State.takeStateFrame f s).eng = s.eng ∧ (State.takeStateFrame f s).net = s.net ∧ (State.takeStateFrame f s).casc = s.casc ∧ (State.takeStateFrame f s).rst = s.rst ∧ (State.takeStateFrame f s).mem = s.mem ∧ (State.takeStateFrame f s).evr = s.evr ∧ (State.takeStateFrame f s).upd = s.upd := by
  unfold State.takeStateFrame; (try dsimp only); (repeat' split) <;> simp

@[simp] theorem State.giveUpTo_frame (code : Nat) (standby : Bool) (s : State) :
    (State.giveUpTo code standby s).pending = s.pending ∧ (State.giveUpTo code standby s).now = s.now ∧ (State.giveUpTo code standby s).free = s.free ∧ (State.giveUpTo code standby s).arch = s.arch ∧ (State.giveUpTo code standby s).tb = s.tb ∧ (State.giveUpTo code standby s).meas = s.meas ∧ (State.giveUpTo code standby s).lane = s.lane ∧ (State.giveUpTo code standby s).snap = s.snap ∧ (State.giveUpTo code standby s).phase = s.phase ∧ (State.giveUpTo code standby s).loop = s.loop ∧ (State.giveUpTo code standby s).bat = s.bat ∧ (State.giveUpTo code standby s).seq = s.seq ∧ (State.giveUpTo code standby s).thm = s.thm ∧ (State.giveUpTo code standby s).eng = s.eng ∧ (State.giveUpTo code standby s).casc = s.casc ∧ (State.giveUpTo code standby s).rst = s.rst ∧ (State.giveUpTo code standby s).mem = s.mem ∧ (State.giveUpTo code standby s).upd = s.upd := by
  unfold State.giveUpTo; (try dsimp only); (repeat' split) <;> simp

@[simp] theorem State.driveBranch_frame (k : Fin 16) (s : State) :
    (State.driveBranch k s).pending = s.pending ∧ (State.driveBranch k s).now = s.now ∧ (State.driveBranch k s).free = s.free ∧ (State.driveBranch k s).arch = s.arch ∧ (State.driveBranch k s).tb = s.tb ∧ (State.driveBranch k s).meas = s.meas ∧ (State.driveBranch k s).lane = s.lane ∧ (State.driveBranch k s).snap = s.snap ∧ (State.driveBranch k s).phase = s.phase ∧ (State.driveBranch k s).loop = s.loop ∧ (State.driveBranch k s).shelf = s.shelf ∧ (State.driveBranch k s).bat = s.bat ∧ (State.driveBranch k s).seq = s.seq ∧ (State.driveBranch k s).thm = s.thm ∧ (State.driveBranch k s).eng = s.eng ∧ (State.driveBranch k s).net = s.net ∧ (State.driveBranch k s).twin = s.twin ∧ (State.driveBranch k s).casc = s.casc ∧ (State.driveBranch k s).rst = s.rst ∧ (State.driveBranch k s).mem = s.mem ∧ (State.driveBranch k s).evr = s.evr ∧ (State.driveBranch k s).upd = s.upd := by
  unfold State.driveBranch; (try dsimp only); (repeat' split) <;> simp

@[simp] theorem State.driveFeed_frame (p : Fin 2) (s : State) :
    (State.driveFeed p s).pending = s.pending ∧ (State.driveFeed p s).now = s.now ∧ (State.driveFeed p s).timers = s.timers ∧ (State.driveFeed p s).free = s.free ∧ (State.driveFeed p s).arch = s.arch ∧ (State.driveFeed p s).tb = s.tb ∧ (State.driveFeed p s).meas = s.meas ∧ (State.driveFeed p s).lane = s.lane ∧ (State.driveFeed p s).snap = s.snap ∧ (State.driveFeed p s).phase = s.phase ∧ (State.driveFeed p s).loop = s.loop ∧ (State.driveFeed p s).shelf = s.shelf ∧ (State.driveFeed p s).bat = s.bat ∧ (State.driveFeed p s).seq = s.seq ∧ (State.driveFeed p s).thm = s.thm ∧ (State.driveFeed p s).eng = s.eng ∧ (State.driveFeed p s).net = s.net ∧ (State.driveFeed p s).twin = s.twin ∧ (State.driveFeed p s).casc = s.casc ∧ (State.driveFeed p s).rst = s.rst ∧ (State.driveFeed p s).mem = s.mem ∧ (State.driveFeed p s).evr = s.evr ∧ (State.driveFeed p s).upd = s.upd := by
  unfold State.driveFeed; (try dsimp only); (repeat' split) <;> simp

@[simp] theorem State.driveStr_frame (n : Fin 4) (s : State) :
    (State.driveStr n s).pending = s.pending ∧ (State.driveStr n s).now = s.now ∧ (State.driveStr n s).timers = s.timers ∧ (State.driveStr n s).free = s.free ∧ (State.driveStr n s).arch = s.arch ∧ (State.driveStr n s).tb = s.tb ∧ (State.driveStr n s).meas = s.meas ∧ (State.driveStr n s).lane = s.lane ∧ (State.driveStr n s).snap = s.snap ∧ (State.driveStr n s).phase = s.phase ∧ (State.driveStr n s).loop = s.loop ∧ (State.driveStr n s).shelf = s.shelf ∧ (State.driveStr n s).dist = s.dist ∧ (State.driveStr n s).bat = s.bat ∧ (State.driveStr n s).seq = s.seq ∧ (State.driveStr n s).thm = s.thm ∧ (State.driveStr n s).eng = s.eng ∧ (State.driveStr n s).net = s.net ∧ (State.driveStr n s).twin = s.twin ∧ (State.driveStr n s).casc = s.casc ∧ (State.driveStr n s).rst = s.rst ∧ (State.driveStr n s).mem = s.mem ∧ (State.driveStr n s).evr = s.evr ∧ (State.driveStr n s).upd = s.upd := by
  unfold State.driveStr; (try dsimp only); (repeat' split) <;> simp

@[simp] theorem State.driveEnable_frame (r : Fin 32) (s : State) :
    (State.driveEnable r s).pending = s.pending ∧ (State.driveEnable r s).now = s.now ∧ (State.driveEnable r s).timers = s.timers ∧ (State.driveEnable r s).free = s.free ∧ (State.driveEnable r s).arch = s.arch ∧ (State.driveEnable r s).tb = s.tb ∧ (State.driveEnable r s).meas = s.meas ∧ (State.driveEnable r s).lane = s.lane ∧ (State.driveEnable r s).snap = s.snap ∧ (State.driveEnable r s).phase = s.phase ∧ (State.driveEnable r s).loop = s.loop ∧ (State.driveEnable r s).shelf = s.shelf ∧ (State.driveEnable r s).dist = s.dist ∧ (State.driveEnable r s).bat = s.bat ∧ (State.driveEnable r s).seq = s.seq ∧ (State.driveEnable r s).thm = s.thm ∧ (State.driveEnable r s).eng = s.eng ∧ (State.driveEnable r s).net = s.net ∧ (State.driveEnable r s).twin = s.twin ∧ (State.driveEnable r s).casc = s.casc ∧ (State.driveEnable r s).rst = s.rst ∧ (State.driveEnable r s).mem = s.mem ∧ (State.driveEnable r s).evr = s.evr ∧ (State.driveEnable r s).upd = s.upd := by
  unfold State.driveEnable; (try dsimp only); (repeat' split) <;> simp

@[simp] theorem State.driveShared_frame  (s : State) :
    (State.driveShared s).pending = s.pending ∧ (State.driveShared s).now = s.now ∧ (State.driveShared s).free = s.free ∧ (State.driveShared s).arch = s.arch ∧ (State.driveShared s).tb = s.tb ∧ (State.driveShared s).meas = s.meas ∧ (State.driveShared s).lane = s.lane ∧ (State.driveShared s).snap = s.snap ∧ (State.driveShared s).phase = s.phase ∧ (State.driveShared s).loop = s.loop ∧ (State.driveShared s).shelf = s.shelf ∧ (State.driveShared s).bat = s.bat ∧ (State.driveShared s).seq = s.seq ∧ (State.driveShared s).thm = s.thm ∧ (State.driveShared s).eng = s.eng ∧ (State.driveShared s).net = s.net ∧ (State.driveShared s).twin = s.twin ∧ (State.driveShared s).casc = s.casc ∧ (State.driveShared s).rst = s.rst ∧ (State.driveShared s).mem = s.mem ∧ (State.driveShared s).evr = s.evr ∧ (State.driveShared s).upd = s.upd := by
  unfold State.driveShared; (try dsimp only); (repeat' split) <;> simp

@[simp] theorem State.loadWindow_frame (k : Fin 3) (n : Nat) (half : Bool) (s : State) :
    (State.loadWindow k n half s).pending = s.pending ∧ (State.loadWindow k n half s).now = s.now ∧ (State.loadWindow k n half s).free = s.free ∧ (State.loadWindow k n half s).arch = s.arch ∧ (State.loadWindow k n half s).pins = s.pins ∧ (State.loadWindow k n half s).tb = s.tb ∧ (State.loadWindow k n half s).meas = s.meas ∧ (State.loadWindow k n half s).lane = s.lane ∧ (State.loadWindow k n half s).snap = s.snap ∧ (State.loadWindow k n half s).phase = s.phase ∧ (State.loadWindow k n half s).loop = s.loop ∧ (State.loadWindow k n half s).shelf = s.shelf ∧ (State.loadWindow k n half s).dist = s.dist ∧ (State.loadWindow k n half s).bat = s.bat ∧ (State.loadWindow k n half s).seq = s.seq ∧ (State.loadWindow k n half s).thm = s.thm ∧ (State.loadWindow k n half s).eng = s.eng ∧ (State.loadWindow k n half s).net = s.net ∧ (State.loadWindow k n half s).twin = s.twin ∧ (State.loadWindow k n half s).casc = s.casc ∧ (State.loadWindow k n half s).rst = s.rst ∧ (State.loadWindow k n half s).mem = s.mem ∧ (State.loadWindow k n half s).upd = s.upd := by
  unfold State.loadWindow; (try dsimp only); (repeat' split) <;> simp

@[simp] theorem State.clearBegin_frame  (s : State) :
    (State.clearBegin s).pending = s.pending ∧ (State.clearBegin s).now = s.now ∧ (State.clearBegin s).free = s.free ∧ (State.clearBegin s).arch = s.arch ∧ (State.clearBegin s).pins = s.pins ∧ (State.clearBegin s).tb = s.tb ∧ (State.clearBegin s).meas = s.meas ∧ (State.clearBegin s).lane = s.lane ∧ (State.clearBegin s).snap = s.snap ∧ (State.clearBegin s).phase = s.phase ∧ (State.clearBegin s).loop = s.loop ∧ (State.clearBegin s).shelf = s.shelf ∧ (State.clearBegin s).dist = s.dist ∧ (State.clearBegin s).bat = s.bat ∧ (State.clearBegin s).seq = s.seq ∧ (State.clearBegin s).thm = s.thm ∧ (State.clearBegin s).eng = s.eng ∧ (State.clearBegin s).net = s.net ∧ (State.clearBegin s).twin = s.twin ∧ (State.clearBegin s).casc = s.casc ∧ (State.clearBegin s).rst = s.rst ∧ (State.clearBegin s).mem = s.mem ∧ (State.clearBegin s).upd = s.upd := by
  unfold State.clearBegin; (try dsimp only); (repeat' split) <;> simp

@[simp] theorem State.evrClear_frame  (s : State) :
    (State.evrClear s).pending = s.pending ∧ (State.evrClear s).now = s.now ∧ (State.evrClear s).free = s.free ∧ (State.evrClear s).arch = s.arch ∧ (State.evrClear s).pins = s.pins ∧ (State.evrClear s).tb = s.tb ∧ (State.evrClear s).meas = s.meas ∧ (State.evrClear s).lane = s.lane ∧ (State.evrClear s).snap = s.snap ∧ (State.evrClear s).phase = s.phase ∧ (State.evrClear s).loop = s.loop ∧ (State.evrClear s).shelf = s.shelf ∧ (State.evrClear s).dist = s.dist ∧ (State.evrClear s).bat = s.bat ∧ (State.evrClear s).seq = s.seq ∧ (State.evrClear s).thm = s.thm ∧ (State.evrClear s).eng = s.eng ∧ (State.evrClear s).net = s.net ∧ (State.evrClear s).twin = s.twin ∧ (State.evrClear s).casc = s.casc ∧ (State.evrClear s).rst = s.rst ∧ (State.evrClear s).mem = s.mem ∧ (State.evrClear s).upd = s.upd := by
  unfold State.evrClear; (try dsimp only); (repeat' split) <;> simp

@[simp] theorem State.portChanged_frame (p : Fin 2) (idx : Nat) (s : State) :
    (State.portChanged p idx s).pending = s.pending ∧ (State.portChanged p idx s).now = s.now ∧ (State.portChanged p idx s).free = s.free ∧ (State.portChanged p idx s).arch = s.arch ∧ (State.portChanged p idx s).pins = s.pins ∧ (State.portChanged p idx s).tb = s.tb ∧ (State.portChanged p idx s).meas = s.meas ∧ (State.portChanged p idx s).lane = s.lane ∧ (State.portChanged p idx s).snap = s.snap ∧ (State.portChanged p idx s).phase = s.phase ∧ (State.portChanged p idx s).loop = s.loop ∧ (State.portChanged p idx s).shelf = s.shelf ∧ (State.portChanged p idx s).dist = s.dist ∧ (State.portChanged p idx s).bat = s.bat ∧ (State.portChanged p idx s).seq = s.seq ∧ (State.portChanged p idx s).thm = s.thm ∧ (State.portChanged p idx s).eng = s.eng ∧ (State.portChanged p idx s).net = s.net ∧ (State.portChanged p idx s).twin = s.twin ∧ (State.portChanged p idx s).casc = s.casc ∧ (State.portChanged p idx s).rst = s.rst ∧ (State.portChanged p idx s).mem = s.mem ∧ (State.portChanged p idx s).evr = s.evr ∧ (State.portChanged p idx s).upd = s.upd := by
  unfold State.portChanged; (try dsimp only); (repeat' split) <;> simp

@[simp] theorem State.errorsClear_frame  (s : State) :
    (State.errorsClear s).pending = s.pending ∧ (State.errorsClear s).now = s.now ∧ (State.errorsClear s).free = s.free ∧ (State.errorsClear s).arch = s.arch ∧ (State.errorsClear s).pins = s.pins ∧ (State.errorsClear s).tb = s.tb ∧ (State.errorsClear s).meas = s.meas ∧ (State.errorsClear s).lane = s.lane ∧ (State.errorsClear s).snap = s.snap ∧ (State.errorsClear s).phase = s.phase ∧ (State.errorsClear s).loop = s.loop ∧ (State.errorsClear s).shelf = s.shelf ∧ (State.errorsClear s).dist = s.dist ∧ (State.errorsClear s).bat = s.bat ∧ (State.errorsClear s).seq = s.seq ∧ (State.errorsClear s).thm = s.thm ∧ (State.errorsClear s).eng = s.eng ∧ (State.errorsClear s).twin = s.twin ∧ (State.errorsClear s).casc = s.casc ∧ (State.errorsClear s).rst = s.rst ∧ (State.errorsClear s).mem = s.mem ∧ (State.errorsClear s).evr = s.evr ∧ (State.errorsClear s).upd = s.upd := by
  unfold State.errorsClear; (try dsimp only); (repeat' split) <;> simp

@[simp] theorem State.stepTime_frame  (s : State) :
    (State.stepTime s).pending = s.pending ∧ (State.stepTime s).now = s.now ∧ (State.stepTime s).free = s.free ∧ (State.stepTime s).arch = s.arch ∧ (State.stepTime s).meas = s.meas ∧ (State.stepTime s).lane = s.lane ∧ (State.stepTime s).snap = s.snap ∧ (State.stepTime s).shelf = s.shelf ∧ (State.stepTime s).dist = s.dist ∧ (State.stepTime s).bat = s.bat ∧ (State.stepTime s).seq = s.seq ∧ (State.stepTime s).thm = s.thm ∧ (State.stepTime s).twin = s.twin ∧ (State.stepTime s).casc = s.casc ∧ (State.stepTime s).rst = s.rst ∧ (State.stepTime s).mem = s.mem ∧ (State.stepTime s).upd = s.upd := by
  unfold State.stepTime; (try dsimp only); (repeat' split) <;> simp

@[simp] theorem State.takeAlloc_frame  (s : State) :
    (State.takeAlloc s).pending = s.pending ∧ (State.takeAlloc s).now = s.now ∧ (State.takeAlloc s).timers = s.timers ∧ (State.takeAlloc s).free = s.free ∧ (State.takeAlloc s).arch = s.arch ∧ (State.takeAlloc s).pins = s.pins ∧ (State.takeAlloc s).tb = s.tb ∧ (State.takeAlloc s).meas = s.meas ∧ (State.takeAlloc s).lane = s.lane ∧ (State.takeAlloc s).snap = s.snap ∧ (State.takeAlloc s).phase = s.phase ∧ (State.takeAlloc s).loop = s.loop ∧ (State.takeAlloc s).shelf = s.shelf ∧ (State.takeAlloc s).dist = s.dist ∧ (State.takeAlloc s).bat = s.bat ∧ (State.takeAlloc s).seq = s.seq ∧ (State.takeAlloc s).thm = s.thm ∧ (State.takeAlloc s).eng = s.eng ∧ (State.takeAlloc s).net = s.net ∧ (State.takeAlloc s).twin = s.twin ∧ (State.takeAlloc s).rst = s.rst ∧ (State.takeAlloc s).mem = s.mem ∧ (State.takeAlloc s).evr = s.evr ∧ (State.takeAlloc s).upd = s.upd := by
  unfold State.takeAlloc; (try dsimp only); (repeat' split) <;> simp

@[simp] theorem State.beginDownlink_frame  (s : State) :
    (State.beginDownlink s).pending = s.pending ∧ (State.beginDownlink s).now = s.now ∧ (State.beginDownlink s).timers = s.timers ∧ (State.beginDownlink s).free = s.free ∧ (State.beginDownlink s).arch = s.arch ∧ (State.beginDownlink s).tb = s.tb ∧ (State.beginDownlink s).meas = s.meas ∧ (State.beginDownlink s).lane = s.lane ∧ (State.beginDownlink s).snap = s.snap ∧ (State.beginDownlink s).phase = s.phase ∧ (State.beginDownlink s).loop = s.loop ∧ (State.beginDownlink s).dist = s.dist ∧ (State.beginDownlink s).bat = s.bat ∧ (State.beginDownlink s).seq = s.seq ∧ (State.beginDownlink s).thm = s.thm ∧ (State.beginDownlink s).eng = s.eng ∧ (State.beginDownlink s).net = s.net ∧ (State.beginDownlink s).twin = s.twin ∧ (State.beginDownlink s).casc = s.casc ∧ (State.beginDownlink s).rst = s.rst ∧ (State.beginDownlink s).mem = s.mem ∧ (State.beginDownlink s).evr = s.evr ∧ (State.beginDownlink s).upd = s.upd := by
  unfold State.beginDownlink; (try dsimp only); (repeat' split) <;> simp

@[simp] theorem State.evalTrigger_frame (t : Fin 64) (s : State) :
    (State.evalTrigger t s).pending = s.pending ∧ (State.evalTrigger t s).now = s.now ∧ (State.evalTrigger t s).free = s.free ∧ (State.evalTrigger t s).arch = s.arch ∧ (State.evalTrigger t s).pins = s.pins ∧ (State.evalTrigger t s).tb = s.tb ∧ (State.evalTrigger t s).meas = s.meas ∧ (State.evalTrigger t s).lane = s.lane ∧ (State.evalTrigger t s).snap = s.snap ∧ (State.evalTrigger t s).phase = s.phase ∧ (State.evalTrigger t s).loop = s.loop ∧ (State.evalTrigger t s).shelf = s.shelf ∧ (State.evalTrigger t s).dist = s.dist ∧ (State.evalTrigger t s).bat = s.bat ∧ (State.evalTrigger t s).seq = s.seq ∧ (State.evalTrigger t s).thm = s.thm ∧ (State.evalTrigger t s).eng = s.eng ∧ (State.evalTrigger t s).twin = s.twin ∧ (State.evalTrigger t s).casc = s.casc ∧ (State.evalTrigger t s).rst = s.rst ∧ (State.evalTrigger t s).mem = s.mem ∧ (State.evalTrigger t s).upd = s.upd := by
  unfold State.evalTrigger; (try dsimp only); (repeat' split) <;> simp

@[simp] theorem State.evalTriggers_frame  (s : State) :
    (State.evalTriggers s).pending = s.pending ∧ (State.evalTriggers s).now = s.now ∧ (State.evalTriggers s).free = s.free ∧ (State.evalTriggers s).arch = s.arch ∧ (State.evalTriggers s).pins = s.pins ∧ (State.evalTriggers s).tb = s.tb ∧ (State.evalTriggers s).meas = s.meas ∧ (State.evalTriggers s).lane = s.lane ∧ (State.evalTriggers s).snap = s.snap ∧ (State.evalTriggers s).phase = s.phase ∧ (State.evalTriggers s).loop = s.loop ∧ (State.evalTriggers s).shelf = s.shelf ∧ (State.evalTriggers s).dist = s.dist ∧ (State.evalTriggers s).bat = s.bat ∧ (State.evalTriggers s).seq = s.seq ∧ (State.evalTriggers s).thm = s.thm ∧ (State.evalTriggers s).eng = s.eng ∧ (State.evalTriggers s).twin = s.twin ∧ (State.evalTriggers s).casc = s.casc ∧ (State.evalTriggers s).rst = s.rst ∧ (State.evalTriggers s).mem = s.mem ∧ (State.evalTriggers s).upd = s.upd := by
  unfold State.evalTriggers; (try dsimp only); (repeat' split) <;> simp

@[simp] theorem State.latch_frame  (s : State) :
    (State.latch s).pending = s.pending ∧ (State.latch s).now = s.now ∧ (State.latch s).timers = s.timers ∧ (State.latch s).free = s.free ∧ (State.latch s).arch = s.arch ∧ (State.latch s).pins = s.pins ∧ (State.latch s).tb = s.tb ∧ (State.latch s).meas = s.meas ∧ (State.latch s).phase = s.phase ∧ (State.latch s).loop = s.loop ∧ (State.latch s).shelf = s.shelf ∧ (State.latch s).dist = s.dist ∧ (State.latch s).bat = s.bat ∧ (State.latch s).seq = s.seq ∧ (State.latch s).thm = s.thm ∧ (State.latch s).eng = s.eng ∧ (State.latch s).net = s.net ∧ (State.latch s).casc = s.casc ∧ (State.latch s).rst = s.rst ∧ (State.latch s).mem = s.mem ∧ (State.latch s).evr = s.evr ∧ (State.latch s).upd = s.upd := by
  unfold State.latch; (try dsimp only); (repeat' split) <;> simp

@[simp] theorem State.launchMirror_frame (ok : Bool) (s : State) :
    (State.launchMirror ok s).pending = s.pending ∧ (State.launchMirror ok s).now = s.now ∧ (State.launchMirror ok s).timers = s.timers ∧ (State.launchMirror ok s).free = s.free ∧ (State.launchMirror ok s).arch = s.arch ∧ (State.launchMirror ok s).pins = s.pins ∧ (State.launchMirror ok s).tb = s.tb ∧ (State.launchMirror ok s).meas = s.meas ∧ (State.launchMirror ok s).lane = s.lane ∧ (State.launchMirror ok s).snap = s.snap ∧ (State.launchMirror ok s).phase = s.phase ∧ (State.launchMirror ok s).loop = s.loop ∧ (State.launchMirror ok s).shelf = s.shelf ∧ (State.launchMirror ok s).dist = s.dist ∧ (State.launchMirror ok s).bat = s.bat ∧ (State.launchMirror ok s).seq = s.seq ∧ (State.launchMirror ok s).thm = s.thm ∧ (State.launchMirror ok s).eng = s.eng ∧ (State.launchMirror ok s).net = s.net ∧ (State.launchMirror ok s).casc = s.casc ∧ (State.launchMirror ok s).rst = s.rst ∧ (State.launchMirror ok s).mem = s.mem ∧ (State.launchMirror ok s).evr = s.evr ∧ (State.launchMirror ok s).upd = s.upd := by
  unfold State.launchMirror; (try dsimp only); (repeat' split) <;> simp

@[simp] theorem State.pmTake_frame (d : Fin 32) (k : Fin 7) (w : PmWord) (s : State) :
    (State.pmTake d k w s).pending = s.pending ∧ (State.pmTake d k w s).now = s.now ∧ (State.pmTake d k w s).free = s.free ∧ (State.pmTake d k w s).arch = s.arch ∧ (State.pmTake d k w s).pins = s.pins ∧ (State.pmTake d k w s).tb = s.tb ∧ (State.pmTake d k w s).meas = s.meas ∧ (State.pmTake d k w s).lane = s.lane ∧ (State.pmTake d k w s).snap = s.snap ∧ (State.pmTake d k w s).phase = s.phase ∧ (State.pmTake d k w s).loop = s.loop ∧ (State.pmTake d k w s).shelf = s.shelf ∧ (State.pmTake d k w s).dist = s.dist ∧ (State.pmTake d k w s).bat = s.bat ∧ (State.pmTake d k w s).seq = s.seq ∧ (State.pmTake d k w s).thm = s.thm ∧ (State.pmTake d k w s).eng = s.eng ∧ (State.pmTake d k w s).twin = s.twin ∧ (State.pmTake d k w s).casc = s.casc ∧ (State.pmTake d k w s).rst = s.rst ∧ (State.pmTake d k w s).mem = s.mem ∧ (State.pmTake d k w s).upd = s.upd := by
  unfold State.pmTake; (try dsimp only); (repeat' split) <;> simp

@[simp] theorem State.pmHold_frame (d : Fin 32) (s : State) :
    (State.pmHold d s).pending = s.pending ∧ (State.pmHold d s).now = s.now ∧ (State.pmHold d s).free = s.free ∧ (State.pmHold d s).arch = s.arch ∧ (State.pmHold d s).tb = s.tb ∧ (State.pmHold d s).meas = s.meas ∧ (State.pmHold d s).lane = s.lane ∧ (State.pmHold d s).snap = s.snap ∧ (State.pmHold d s).phase = s.phase ∧ (State.pmHold d s).loop = s.loop ∧ (State.pmHold d s).shelf = s.shelf ∧ (State.pmHold d s).dist = s.dist ∧ (State.pmHold d s).bat = s.bat ∧ (State.pmHold d s).seq = s.seq ∧ (State.pmHold d s).thm = s.thm ∧ (State.pmHold d s).eng = s.eng ∧ (State.pmHold d s).twin = s.twin ∧ (State.pmHold d s).casc = s.casc ∧ (State.pmHold d s).rst = s.rst ∧ (State.pmHold d s).mem = s.mem ∧ (State.pmHold d s).evr = s.evr ∧ (State.pmHold d s).upd = s.upd := by
  unfold State.pmHold; (try dsimp only); (repeat' split) <;> simp

@[simp] theorem State.nmtReset_frame (p : Fin 2) (s : State) :
    (State.nmtReset p s).pending = s.pending ∧ (State.nmtReset p s).now = s.now ∧ (State.nmtReset p s).free = s.free ∧ (State.nmtReset p s).arch = s.arch ∧ (State.nmtReset p s).pins = s.pins ∧ (State.nmtReset p s).tb = s.tb ∧ (State.nmtReset p s).meas = s.meas ∧ (State.nmtReset p s).lane = s.lane ∧ (State.nmtReset p s).snap = s.snap ∧ (State.nmtReset p s).phase = s.phase ∧ (State.nmtReset p s).loop = s.loop ∧ (State.nmtReset p s).shelf = s.shelf ∧ (State.nmtReset p s).dist = s.dist ∧ (State.nmtReset p s).bat = s.bat ∧ (State.nmtReset p s).seq = s.seq ∧ (State.nmtReset p s).thm = s.thm ∧ (State.nmtReset p s).eng = s.eng ∧ (State.nmtReset p s).twin = s.twin ∧ (State.nmtReset p s).casc = s.casc ∧ (State.nmtReset p s).rst = s.rst ∧ (State.nmtReset p s).mem = s.mem ∧ (State.nmtReset p s).upd = s.upd := by
  unfold State.nmtReset; (try dsimp only); (repeat' split) <;> simp

@[simp] theorem State.sdoTransfer_frame (p : Fin 2) (x : Option Transfer) (s : State) :
    (State.sdoTransfer p x s).pending = s.pending ∧ (State.sdoTransfer p x s).now = s.now ∧ (State.sdoTransfer p x s).free = s.free ∧ (State.sdoTransfer p x s).arch = s.arch ∧ (State.sdoTransfer p x s).pins = s.pins ∧ (State.sdoTransfer p x s).tb = s.tb ∧ (State.sdoTransfer p x s).meas = s.meas ∧ (State.sdoTransfer p x s).lane = s.lane ∧ (State.sdoTransfer p x s).snap = s.snap ∧ (State.sdoTransfer p x s).phase = s.phase ∧ (State.sdoTransfer p x s).loop = s.loop ∧ (State.sdoTransfer p x s).shelf = s.shelf ∧ (State.sdoTransfer p x s).dist = s.dist ∧ (State.sdoTransfer p x s).bat = s.bat ∧ (State.sdoTransfer p x s).seq = s.seq ∧ (State.sdoTransfer p x s).thm = s.thm ∧ (State.sdoTransfer p x s).eng = s.eng ∧ (State.sdoTransfer p x s).twin = s.twin ∧ (State.sdoTransfer p x s).casc = s.casc ∧ (State.sdoTransfer p x s).rst = s.rst ∧ (State.sdoTransfer p x s).mem = s.mem ∧ (State.sdoTransfer p x s).evr = s.evr ∧ (State.sdoTransfer p x s).upd = s.upd := by
  unfold State.sdoTransfer; (try dsimp only); (repeat' split) <;> simp

@[simp] theorem State.sdoBeginRead_frame (p : Fin 2) (idx sub : Nat) (s : State) :
    (State.sdoBeginRead p idx sub s).pending = s.pending ∧ (State.sdoBeginRead p idx sub s).now = s.now ∧ (State.sdoBeginRead p idx sub s).free = s.free ∧ (State.sdoBeginRead p idx sub s).arch = s.arch ∧ (State.sdoBeginRead p idx sub s).pins = s.pins ∧ (State.sdoBeginRead p idx sub s).tb = s.tb ∧ (State.sdoBeginRead p idx sub s).meas = s.meas ∧ (State.sdoBeginRead p idx sub s).lane = s.lane ∧ (State.sdoBeginRead p idx sub s).snap = s.snap ∧ (State.sdoBeginRead p idx sub s).phase = s.phase ∧ (State.sdoBeginRead p idx sub s).loop = s.loop ∧ (State.sdoBeginRead p idx sub s).shelf = s.shelf ∧ (State.sdoBeginRead p idx sub s).dist = s.dist ∧ (State.sdoBeginRead p idx sub s).bat = s.bat ∧ (State.sdoBeginRead p idx sub s).seq = s.seq ∧ (State.sdoBeginRead p idx sub s).thm = s.thm ∧ (State.sdoBeginRead p idx sub s).eng = s.eng ∧ (State.sdoBeginRead p idx sub s).twin = s.twin ∧ (State.sdoBeginRead p idx sub s).casc = s.casc ∧ (State.sdoBeginRead p idx sub s).rst = s.rst ∧ (State.sdoBeginRead p idx sub s).mem = s.mem ∧ (State.sdoBeginRead p idx sub s).evr = s.evr ∧ (State.sdoBeginRead p idx sub s).upd = s.upd := by
  unfold State.sdoBeginRead; (try dsimp only); (repeat' split) <;> simp

@[simp] theorem State.armWrite_frame (base v : Nat) (s : State) :
    (State.armWrite base v s).pending = s.pending ∧ (State.armWrite base v s).now = s.now ∧ (State.armWrite base v s).timers = s.timers ∧ (State.armWrite base v s).free = s.free ∧ (State.armWrite base v s).arch = s.arch ∧ (State.armWrite base v s).tb = s.tb ∧ (State.armWrite base v s).meas = s.meas ∧ (State.armWrite base v s).lane = s.lane ∧ (State.armWrite base v s).snap = s.snap ∧ (State.armWrite base v s).phase = s.phase ∧ (State.armWrite base v s).loop = s.loop ∧ (State.armWrite base v s).shelf = s.shelf ∧ (State.armWrite base v s).dist = s.dist ∧ (State.armWrite base v s).bat = s.bat ∧ (State.armWrite base v s).seq = s.seq ∧ (State.armWrite base v s).thm = s.thm ∧ (State.armWrite base v s).net = s.net ∧ (State.armWrite base v s).twin = s.twin ∧ (State.armWrite base v s).casc = s.casc ∧ (State.armWrite base v s).rst = s.rst ∧ (State.armWrite base v s).mem = s.mem ∧ (State.armWrite base v s).evr = s.evr ∧ (State.armWrite base v s).upd = s.upd := by
  unfold State.armWrite; (try dsimp only); (repeat' split) <;> simp (disch := (intros; (try dsimp only); (repeat' split) <;> simp))

@[simp] theorem State.lockWrite_frame (off v : Nat) (s : State) :
    (State.lockWrite off v s).pending = s.pending ∧ (State.lockWrite off v s).now = s.now ∧ (State.lockWrite off v s).free = s.free ∧ (State.lockWrite off v s).arch = s.arch ∧ (State.lockWrite off v s).tb = s.tb ∧ (State.lockWrite off v s).meas = s.meas ∧ (State.lockWrite off v s).lane = s.lane ∧ (State.lockWrite off v s).snap = s.snap ∧ (State.lockWrite off v s).phase = s.phase ∧ (State.lockWrite off v s).loop = s.loop ∧ (State.lockWrite off v s).shelf = s.shelf ∧ (State.lockWrite off v s).dist = s.dist ∧ (State.lockWrite off v s).bat = s.bat ∧ (State.lockWrite off v s).seq = s.seq ∧ (State.lockWrite off v s).thm = s.thm ∧ (State.lockWrite off v s).twin = s.twin ∧ (State.lockWrite off v s).casc = s.casc ∧ (State.lockWrite off v s).rst = s.rst ∧ (State.lockWrite off v s).mem = s.mem ∧ (State.lockWrite off v s).upd = s.upd := by
  unfold State.lockWrite; (try dsimp only); (repeat' split) <;> simp (disch := (intros; (try dsimp only); (repeat' split) <;> simp))

@[simp] theorem State.mbxCtrl_frame (v : Nat) (s : State) :
    (State.mbxCtrl v s).pending = s.pending ∧ (State.mbxCtrl v s).now = s.now ∧ (State.mbxCtrl v s).free = s.free ∧ (State.mbxCtrl v s).arch = s.arch ∧ (State.mbxCtrl v s).tb = s.tb ∧ (State.mbxCtrl v s).meas = s.meas ∧ (State.mbxCtrl v s).lane = s.lane ∧ (State.mbxCtrl v s).snap = s.snap ∧ (State.mbxCtrl v s).phase = s.phase ∧ (State.mbxCtrl v s).loop = s.loop ∧ (State.mbxCtrl v s).shelf = s.shelf ∧ (State.mbxCtrl v s).dist = s.dist ∧ (State.mbxCtrl v s).bat = s.bat ∧ (State.mbxCtrl v s).seq = s.seq ∧ (State.mbxCtrl v s).thm = s.thm ∧ (State.mbxCtrl v s).twin = s.twin ∧ (State.mbxCtrl v s).casc = s.casc ∧ (State.mbxCtrl v s).rst = s.rst ∧ (State.mbxCtrl v s).mem = s.mem ∧ (State.mbxCtrl v s).upd = s.upd := by
  unfold State.mbxCtrl; (try dsimp only); (repeat' split) <;> simp

@[simp] theorem State.frameDone_frame (stat : Nat) (data : List Nat) (s : State) :
    (State.frameDone stat data s).pending = s.pending ∧ (State.frameDone stat data s).now = s.now ∧ (State.frameDone stat data s).timers = s.timers ∧ (State.frameDone stat data s).free = s.free ∧ (State.frameDone stat data s).arch = s.arch ∧ (State.frameDone stat data s).pins = s.pins ∧ (State.frameDone stat data s).tb = s.tb ∧ (State.frameDone stat data s).meas = s.meas ∧ (State.frameDone stat data s).lane = s.lane ∧ (State.frameDone stat data s).snap = s.snap ∧ (State.frameDone stat data s).phase = s.phase ∧ (State.frameDone stat data s).loop = s.loop ∧ (State.frameDone stat data s).shelf = s.shelf ∧ (State.frameDone stat data s).dist = s.dist ∧ (State.frameDone stat data s).bat = s.bat ∧ (State.frameDone stat data s).seq = s.seq ∧ (State.frameDone stat data s).thm = s.thm ∧ (State.frameDone stat data s).eng = s.eng ∧ (State.frameDone stat data s).twin = s.twin ∧ (State.frameDone stat data s).casc = s.casc ∧ (State.frameDone stat data s).rst = s.rst ∧ (State.frameDone stat data s).mem = s.mem ∧ (State.frameDone stat data s).evr = s.evr ∧ (State.frameDone stat data s).upd = s.upd := by
  unfold State.frameDone; (try dsimp only); (repeat' split) <;> simp

@[simp] theorem State.spiCrcError_frame  (s : State) :
    (State.spiCrcError s).pending = s.pending ∧ (State.spiCrcError s).now = s.now ∧ (State.spiCrcError s).free = s.free ∧ (State.spiCrcError s).arch = s.arch ∧ (State.spiCrcError s).pins = s.pins ∧ (State.spiCrcError s).tb = s.tb ∧ (State.spiCrcError s).meas = s.meas ∧ (State.spiCrcError s).lane = s.lane ∧ (State.spiCrcError s).snap = s.snap ∧ (State.spiCrcError s).phase = s.phase ∧ (State.spiCrcError s).loop = s.loop ∧ (State.spiCrcError s).shelf = s.shelf ∧ (State.spiCrcError s).dist = s.dist ∧ (State.spiCrcError s).bat = s.bat ∧ (State.spiCrcError s).seq = s.seq ∧ (State.spiCrcError s).thm = s.thm ∧ (State.spiCrcError s).eng = s.eng ∧ (State.spiCrcError s).twin = s.twin ∧ (State.spiCrcError s).casc = s.casc ∧ (State.spiCrcError s).rst = s.rst ∧ (State.spiCrcError s).mem = s.mem ∧ (State.spiCrcError s).upd = s.upd := by
  unfold State.spiCrcError; (try dsimp only); (repeat' split) <;> simp

@[simp] theorem State.setTransfer_frame (x : Option Transfer) (s : State) :
    (State.setTransfer x s).pending = s.pending ∧ (State.setTransfer x s).now = s.now ∧ (State.setTransfer x s).free = s.free ∧ (State.setTransfer x s).arch = s.arch ∧ (State.setTransfer x s).pins = s.pins ∧ (State.setTransfer x s).tb = s.tb ∧ (State.setTransfer x s).meas = s.meas ∧ (State.setTransfer x s).lane = s.lane ∧ (State.setTransfer x s).snap = s.snap ∧ (State.setTransfer x s).phase = s.phase ∧ (State.setTransfer x s).loop = s.loop ∧ (State.setTransfer x s).shelf = s.shelf ∧ (State.setTransfer x s).dist = s.dist ∧ (State.setTransfer x s).bat = s.bat ∧ (State.setTransfer x s).seq = s.seq ∧ (State.setTransfer x s).thm = s.thm ∧ (State.setTransfer x s).eng = s.eng ∧ (State.setTransfer x s).twin = s.twin ∧ (State.setTransfer x s).casc = s.casc ∧ (State.setTransfer x s).rst = s.rst ∧ (State.setTransfer x s).mem = s.mem ∧ (State.setTransfer x s).evr = s.evr ∧ (State.setTransfer x s).upd = s.upd := by
  unfold State.setTransfer; (try dsimp only); (repeat' split) <;> simp

@[simp] theorem State.peerFrame_frame (p : PeerInfo) (s : State) :
    (State.peerFrame p s).pending = s.pending ∧ (State.peerFrame p s).now = s.now ∧ (State.peerFrame p s).free = s.free ∧ (State.peerFrame p s).arch = s.arch ∧ (State.peerFrame p s).tb = s.tb ∧ (State.peerFrame p s).meas = s.meas ∧ (State.peerFrame p s).lane = s.lane ∧ (State.peerFrame p s).snap = s.snap ∧ (State.peerFrame p s).phase = s.phase ∧ (State.peerFrame p s).loop = s.loop ∧ (State.peerFrame p s).bat = s.bat ∧ (State.peerFrame p s).seq = s.seq ∧ (State.peerFrame p s).thm = s.thm ∧ (State.peerFrame p s).casc = s.casc ∧ (State.peerFrame p s).rst = s.rst ∧ (State.peerFrame p s).mem = s.mem ∧ (State.peerFrame p s).upd = s.upd := by
  unfold State.peerFrame; (try dsimp only); (repeat' split) <;> simp

@[simp] theorem State.peerCommit_frame (set : List (Nat × Nat)) (order : List Nat) (s : State) :
    (State.peerCommit set order s).pending = s.pending ∧ (State.peerCommit set order s).now = s.now ∧ (State.peerCommit set order s).free = s.free ∧ (State.peerCommit set order s).arch = s.arch ∧ (State.peerCommit set order s).pins = s.pins ∧ (State.peerCommit set order s).tb = s.tb ∧ (State.peerCommit set order s).meas = s.meas ∧ (State.peerCommit set order s).lane = s.lane ∧ (State.peerCommit set order s).snap = s.snap ∧ (State.peerCommit set order s).phase = s.phase ∧ (State.peerCommit set order s).loop = s.loop ∧ (State.peerCommit set order s).shelf = s.shelf ∧ (State.peerCommit set order s).dist = s.dist ∧ (State.peerCommit set order s).bat = s.bat ∧ (State.peerCommit set order s).seq = s.seq ∧ (State.peerCommit set order s).thm = s.thm ∧ (State.peerCommit set order s).eng = s.eng ∧ (State.peerCommit set order s).casc = s.casc ∧ (State.peerCommit set order s).rst = s.rst ∧ (State.peerCommit set order s).mem = s.mem ∧ (State.peerCommit set order s).evr = s.evr ∧ (State.peerCommit set order s).upd = s.upd := by
  unfold State.peerCommit; (try dsimp only); (repeat' split) <;> simp

@[simp] theorem State.peerRollback_frame  (s : State) :
    (State.peerRollback s).pending = s.pending ∧ (State.peerRollback s).now = s.now ∧ (State.peerRollback s).free = s.free ∧ (State.peerRollback s).arch = s.arch ∧ (State.peerRollback s).tb = s.tb ∧ (State.peerRollback s).meas = s.meas ∧ (State.peerRollback s).lane = s.lane ∧ (State.peerRollback s).snap = s.snap ∧ (State.peerRollback s).phase = s.phase ∧ (State.peerRollback s).loop = s.loop ∧ (State.peerRollback s).shelf = s.shelf ∧ (State.peerRollback s).dist = s.dist ∧ (State.peerRollback s).bat = s.bat ∧ (State.peerRollback s).seq = s.seq ∧ (State.peerRollback s).thm = s.thm ∧ (State.peerRollback s).casc = s.casc ∧ (State.peerRollback s).mem = s.mem ∧ (State.peerRollback s).upd = s.upd := by
  unfold State.peerRollback; (try dsimp only); (repeat' split) <;> simp

@[simp] theorem State.peerAdopt_frame (pushed : Bool) (vals a b : List (Nat × Nat)) (s : State) :
    (State.peerAdopt pushed vals a b s).pending = s.pending ∧ (State.peerAdopt pushed vals a b s).now = s.now ∧ (State.peerAdopt pushed vals a b s).free = s.free ∧ (State.peerAdopt pushed vals a b s).arch = s.arch ∧ (State.peerAdopt pushed vals a b s).pins = s.pins ∧ (State.peerAdopt pushed vals a b s).tb = s.tb ∧ (State.peerAdopt pushed vals a b s).meas = s.meas ∧ (State.peerAdopt pushed vals a b s).lane = s.lane ∧ (State.peerAdopt pushed vals a b s).snap = s.snap ∧ (State.peerAdopt pushed vals a b s).phase = s.phase ∧ (State.peerAdopt pushed vals a b s).loop = s.loop ∧ (State.peerAdopt pushed vals a b s).shelf = s.shelf ∧ (State.peerAdopt pushed vals a b s).dist = s.dist ∧ (State.peerAdopt pushed vals a b s).bat = s.bat ∧ (State.peerAdopt pushed vals a b s).seq = s.seq ∧ (State.peerAdopt pushed vals a b s).thm = s.thm ∧ (State.peerAdopt pushed vals a b s).eng = s.eng ∧ (State.peerAdopt pushed vals a b s).casc = s.casc ∧ (State.peerAdopt pushed vals a b s).rst = s.rst ∧ (State.peerAdopt pushed vals a b s).mem = s.mem ∧ (State.peerAdopt pushed vals a b s).upd = s.upd := by
  unfold State.peerAdopt; (try dsimp only); (repeat' split) <;> simp

@[simp] theorem State.takeHeartbeat_frame (x : TwinSt) (hash : Nat) (s : State) :
    (State.takeHeartbeat x hash s).pending = s.pending ∧ (State.takeHeartbeat x hash s).now = s.now ∧ (State.takeHeartbeat x hash s).free = s.free ∧ (State.takeHeartbeat x hash s).arch = s.arch ∧ (State.takeHeartbeat x hash s).pins = s.pins ∧ (State.takeHeartbeat x hash s).tb = s.tb ∧ (State.takeHeartbeat x hash s).meas = s.meas ∧ (State.takeHeartbeat x hash s).lane = s.lane ∧ (State.takeHeartbeat x hash s).snap = s.snap ∧ (State.takeHeartbeat x hash s).phase = s.phase ∧ (State.takeHeartbeat x hash s).loop = s.loop ∧ (State.takeHeartbeat x hash s).shelf = s.shelf ∧ (State.takeHeartbeat x hash s).dist = s.dist ∧ (State.takeHeartbeat x hash s).bat = s.bat ∧ (State.takeHeartbeat x hash s).seq = s.seq ∧ (State.takeHeartbeat x hash s).thm = s.thm ∧ (State.takeHeartbeat x hash s).eng = s.eng ∧ (State.takeHeartbeat x hash s).net = s.net ∧ (State.takeHeartbeat x hash s).casc = s.casc ∧ (State.takeHeartbeat x hash s).rst = s.rst ∧ (State.takeHeartbeat x hash s).mem = s.mem ∧ (State.takeHeartbeat x hash s).evr = s.evr ∧ (State.takeHeartbeat x hash s).upd = s.upd := by
  unfold State.takeHeartbeat; (try dsimp only); (repeat' split) <;> simp

@[simp] theorem State.proxyDone_frame (q : Fin 64) (k : Fin 16) (code : Nat) (s : State) :
    (State.proxyDone q k code s).pending = s.pending ∧ (State.proxyDone q k code s).now = s.now ∧ (State.proxyDone q k code s).free = s.free ∧ (State.proxyDone q k code s).arch = s.arch ∧ (State.proxyDone q k code s).tb = s.tb ∧ (State.proxyDone q k code s).meas = s.meas ∧ (State.proxyDone q k code s).lane = s.lane ∧ (State.proxyDone q k code s).snap = s.snap ∧ (State.proxyDone q k code s).phase = s.phase ∧ (State.proxyDone q k code s).loop = s.loop ∧ (State.proxyDone q k code s).shelf = s.shelf ∧ (State.proxyDone q k code s).dist = s.dist ∧ (State.proxyDone q k code s).bat = s.bat ∧ (State.proxyDone q k code s).seq = s.seq ∧ (State.proxyDone q k code s).thm = s.thm ∧ (State.proxyDone q k code s).casc = s.casc ∧ (State.proxyDone q k code s).rst = s.rst ∧ (State.proxyDone q k code s).mem = s.mem ∧ (State.proxyDone q k code s).upd = s.upd := by
  unfold State.proxyDone; (try dsimp only); (repeat' split) <;> simp

@[simp] theorem State.proxyAcked_frame (q : Fin 64) (k : Fin 16) (seq code : Nat) (s : State) :
    (State.proxyAcked q k seq code s).pending = s.pending ∧ (State.proxyAcked q k seq code s).now = s.now ∧ (State.proxyAcked q k seq code s).free = s.free ∧ (State.proxyAcked q k seq code s).arch = s.arch ∧ (State.proxyAcked q k seq code s).tb = s.tb ∧ (State.proxyAcked q k seq code s).meas = s.meas ∧ (State.proxyAcked q k seq code s).lane = s.lane ∧ (State.proxyAcked q k seq code s).snap = s.snap ∧ (State.proxyAcked q k seq code s).phase = s.phase ∧ (State.proxyAcked q k seq code s).loop = s.loop ∧ (State.proxyAcked q k seq code s).shelf = s.shelf ∧ (State.proxyAcked q k seq code s).dist = s.dist ∧ (State.proxyAcked q k seq code s).bat = s.bat ∧ (State.proxyAcked q k seq code s).seq = s.seq ∧ (State.proxyAcked q k seq code s).thm = s.thm ∧ (State.proxyAcked q k seq code s).casc = s.casc ∧ (State.proxyAcked q k seq code s).rst = s.rst ∧ (State.proxyAcked q k seq code s).mem = s.mem ∧ (State.proxyAcked q k seq code s).upd = s.upd := by
  unfold State.proxyAcked; (try dsimp only); (repeat' split) <;> simp

@[simp] theorem State.pulseEnds_frame  (s : State) :
    (State.pulseEnds s).pending = s.pending ∧ (State.pulseEnds s).now = s.now ∧ (State.pulseEnds s).timers = s.timers ∧ (State.pulseEnds s).free = s.free ∧ (State.pulseEnds s).arch = s.arch ∧ (State.pulseEnds s).tb = s.tb ∧ (State.pulseEnds s).meas = s.meas ∧ (State.pulseEnds s).lane = s.lane ∧ (State.pulseEnds s).snap = s.snap ∧ (State.pulseEnds s).loop = s.loop ∧ (State.pulseEnds s).shelf = s.shelf ∧ (State.pulseEnds s).dist = s.dist ∧ (State.pulseEnds s).bat = s.bat ∧ (State.pulseEnds s).seq = s.seq ∧ (State.pulseEnds s).thm = s.thm ∧ (State.pulseEnds s).eng = s.eng ∧ (State.pulseEnds s).net = s.net ∧ (State.pulseEnds s).twin = s.twin ∧ (State.pulseEnds s).casc = s.casc ∧ (State.pulseEnds s).rst = s.rst ∧ (State.pulseEnds s).mem = s.mem ∧ (State.pulseEnds s).evr = s.evr ∧ (State.pulseEnds s).upd = s.upd := by
  unfold State.pulseEnds; (try dsimp only); (repeat' split) <;> simp

@[simp] theorem State.slewEnds_frame  (s : State) :
    (State.slewEnds s).pending = s.pending ∧ (State.slewEnds s).now = s.now ∧ (State.slewEnds s).timers = s.timers ∧ (State.slewEnds s).free = s.free ∧ (State.slewEnds s).arch = s.arch ∧ (State.slewEnds s).pins = s.pins ∧ (State.slewEnds s).meas = s.meas ∧ (State.slewEnds s).lane = s.lane ∧ (State.slewEnds s).snap = s.snap ∧ (State.slewEnds s).phase = s.phase ∧ (State.slewEnds s).loop = s.loop ∧ (State.slewEnds s).shelf = s.shelf ∧ (State.slewEnds s).dist = s.dist ∧ (State.slewEnds s).bat = s.bat ∧ (State.slewEnds s).seq = s.seq ∧ (State.slewEnds s).thm = s.thm ∧ (State.slewEnds s).eng = s.eng ∧ (State.slewEnds s).net = s.net ∧ (State.slewEnds s).twin = s.twin ∧ (State.slewEnds s).casc = s.casc ∧ (State.slewEnds s).rst = s.rst ∧ (State.slewEnds s).mem = s.mem ∧ (State.slewEnds s).evr = s.evr ∧ (State.slewEnds s).upd = s.upd := by
  unfold State.slewEnds; (try dsimp only); (repeat' split) <;> simp

@[simp] theorem State.tick_frame  (s : State) :
    (State.tick s).pending = s.pending ∧ (State.tick s).free = s.free ∧ (State.tick s).meas = s.meas ∧ (State.tick s).lane = s.lane ∧ (State.tick s).snap = s.snap ∧ (State.tick s).dist = s.dist ∧ (State.tick s).bat = s.bat ∧ (State.tick s).seq = s.seq ∧ (State.tick s).thm = s.thm ∧ (State.tick s).eng = s.eng ∧ (State.tick s).twin = s.twin ∧ (State.tick s).casc = s.casc ∧ (State.tick s).rst = s.rst ∧ (State.tick s).mem = s.mem ∧ (State.tick s).upd = s.upd := by
  unfold State.tick; (try dsimp only); (repeat' split) <;> simp

end Sys2Proof.Machine
end

