-- ==== Sys2Proof/Laws/Memory.lean ====
section
/-! SUPPORT. The user area's list of cells: its canonical form is kept, and what a write leaves to be read. -/

namespace Sys2Proof.Machine

/-- The canonical form of a longer list, by its head and its rest. -/
theorem Memory.wf_cons (a : Nat) (v : Byte) (r : List Host.Cell) :
    Memory.wf ((a, v) :: r) = true ↔ v ≠ userBlank ∧ (∀ p ∈ r, a < p.1) ∧ Memory.wf r = true := by
  induction r generalizing a v with
  | nil => simp [Memory.wf]
  | cons q r ih =>
    obtain ⟨b, x⟩ := q
    have h := ih b x
    simp only [Memory.wf, Bool.and_eq_true, decide_eq_true_eq, List.mem_cons, forall_eq_or_imp]
    constructor
    · rintro ⟨⟨hab, hv⟩, hw⟩
      exact ⟨hv, ⟨hab, fun p hp => lt_trans hab ((h.mp hw).2.1 p hp)⟩, hw⟩
    · rintro ⟨hv, ⟨hab, _⟩, hw⟩
      exact ⟨⟨hab, hv⟩, hw⟩

/-- A list none of whose addresses is `a` reads blank there. -/
theorem readByte_absent {a : Nat} {m : List Host.Cell} (h : ∀ p ∈ m, p.1 ≠ a) : readByte m a = userBlank := by
  have : m.lookup a = none := by
    rw [List.lookup_eq_none_iff]
    intro p hp
    simpa using (h p hp).symm
  simp [readByte, this]

/-- Reading the head's address, and any other. -/
theorem readByte_cons (a b : Nat) (v : Byte) (r : List Host.Cell) : readByte ((a, v) :: r) b = if b = a then v else readByte r b := by
  by_cases h : b = a
  · subst h; simp [readByte]
  · have : (b == a) = false := by simpa using h
    simp [readByte, List.lookup_cons, this, h]

/-- Addresses of a list after a write are those of before and the written one. -/
theorem mem_writeByte {a : Nat} {v : Byte} {m : List Host.Cell} {p : Host.Cell} (h : p ∈ writeByte a v m) : p = (a, v) ∨ p ∈ m := by
  induction m with
  | nil => simp only [writeByte] at h; split at h <;> simp_all
  | cons q r ih =>
    obtain ⟨b, x⟩ := q
    simp only [writeByte] at h
    split at h
    · split at h <;> simp_all
    · split at h
      · split at h <;> simp_all; tauto
      · simp only [List.mem_cons] at h ⊢
        rcases h with h | h
        · exact Or.inr (Or.inl h)
        · rcases ih h with h | h
          · exact Or.inl h
          · exact Or.inr (Or.inr h)

/-- A write keeps the canonical form. -/
theorem writeByte_wf (a : Nat) (v : Byte) {m : List Host.Cell} (h : Memory.wf m = true) : Memory.wf (writeByte a v m) = true := by
  induction m with
  | nil =>
    simp only [writeByte]
    split
    · rfl
    · simpa [Memory.wf]
  | cons q r ih =>
    obtain ⟨b, x⟩ := q
    obtain ⟨hx, hb, hr⟩ := (Memory.wf_cons b x r).mp h
    simp only [writeByte]
    split
    · rename_i hab
      split
      · exact h
      · rename_i hv
        refine (Memory.wf_cons a v _).mpr ⟨hv, ?_, h⟩
        intro p hp
        rcases List.mem_cons.mp hp with rfl | hp
        · exact hab
        · exact lt_trans hab (hb p hp)
    · split
      · rename_i hab
        subst hab
        split
        · exact hr
        · rename_i hv
          exact (Memory.wf_cons _ _ _).mpr ⟨hv, hb, hr⟩
      · rename_i h1 h2
        refine (Memory.wf_cons b x _).mpr ⟨hx, ?_, ih hr⟩
        intro p hp
        rcases mem_writeByte hp with rfl | hp
        · show b < a
          omega
        · exact hb p hp

/-- Writes of several bytes keep the canonical form. -/
theorem writeBytes_wf (a : Nat) (l : List Byte) {m : List Host.Cell} (h : Memory.wf m = true) : Memory.wf (writeBytes a l m) = true := by
  induction l generalizing a m with
  | nil => exact h
  | cons v r ih => exact ih (a + 1) (writeByte_wf a v h)

/-- A byte written reads as written; every other address reads as before. -/
theorem readByte_writeByte (a b : Nat) (v : Byte) {m : List Host.Cell} (h : Memory.wf m = true) :
    readByte (writeByte a v m) b = if b = a then v else readByte m b := by
  induction m with
  | nil =>
    simp only [writeByte]
    split
    · rename_i hv
      by_cases hb : b = a <;> simp [hb, hv, readByte]
    · rw [readByte_cons]
  | cons q r ih =>
    obtain ⟨c, x⟩ := q
    obtain ⟨hx, hc, hr⟩ := (Memory.wf_cons c x r).mp h
    simp only [writeByte]
    split
    · rename_i hac
      split
      · rename_i hv
        split
        · rename_i hb
          subst hb
          rw [hv]
          refine readByte_absent fun p hp => ?_
          rcases List.mem_cons.mp hp with rfl | hp
          · show c ≠ b
            omega
          · have := hc p hp
            omega
        · rfl
      · rw [readByte_cons]
    · split
      · rename_i hac
        subst hac
        split
        · rename_i hv
          split
          · rename_i hb
            subst hb
            rw [hv]
            exact readByte_absent fun p hp => by have := hc p hp; omega
          · rename_i hb
            rw [readByte_cons, if_neg hb]
        · rw [readByte_cons, readByte_cons]
          split <;> rfl
      · rename_i h1 h2
        rw [readByte_cons, readByte_cons, ih hr]
        split <;> split <;> first | rfl | omega

/-- Bytes written at rising addresses: those read as written, every other address as before. -/
theorem readByte_writeBytes (a b : Nat) (l : List Byte) {m : List Host.Cell} (h : Memory.wf m = true) :
    readByte (writeBytes a l m) b = if a ≤ b ∧ b < a + l.length then l.getD (b - a) 0 else readByte m b := by
  induction l generalizing a m with
  | nil => simp [writeBytes]
  | cons v r ih =>
    rw [writeBytes, ih (a + 1) (writeByte_wf a v h), readByte_writeByte a b v h]
    by_cases h1 : b = a
    · subst h1
      simp
    · by_cases h2 : a + 1 ≤ b ∧ b < a + 1 + r.length
      · have h3 : a ≤ b ∧ b < a + (v :: r).length := by simp only [List.length_cons]; omega
        have h4 : b - a = (b - (a + 1)) + 1 := by omega
        rw [if_pos h2, if_pos h3, h4, List.getD_cons_succ]
      · have h3 : ¬ (a ≤ b ∧ b < a + (v :: r).length) := by simp only [List.length_cons]; omega
        rw [if_neg h2, if_neg h3, if_neg h1]

/-- Equal memories are equal data: canonical lists that read alike everywhere are one list. -/
theorem Memory.ext {m n : List Host.Cell} (hm : Memory.wf m = true) (hn : Memory.wf n = true) (h : ∀ a, readByte m a = readByte n a) : m = n := by
  induction m generalizing n with
  | nil =>
    cases n with
    | nil => rfl
    | cons q r =>
      obtain ⟨a, v⟩ := q
      have := h a
      rw [readByte_cons] at this
      simp [readByte] at this
      exact absurd this.symm ((Memory.wf_cons a v r).mp hn).1
  | cons q r ih =>
    obtain ⟨a, v⟩ := q
    obtain ⟨hv, ha, hr⟩ := (Memory.wf_cons a v r).mp hm
    cases n with
    | nil =>
      have := h a
      rw [readByte_cons] at this
      simp [readByte] at this
      exact absurd this hv
    | cons q2 r2 =>
      obtain ⟨b, x⟩ := q2
      obtain ⟨hx, hb, hr2⟩ := (Memory.wf_cons b x r2).mp hn
      have hab : a = b := by
        rcases lt_trichotomy a b with hl | he | hl
        · have := h a
          rw [readByte_cons, if_pos rfl, readByte_absent] at this
          · exact absurd this hv
          · intro p hp
            rcases List.mem_cons.mp hp with rfl | hp
            · show b ≠ a
              omega
            · have := hb p hp
              omega
        · exact he
        · have := h b
          rw [readByte_cons b b, if_pos rfl, readByte_absent] at this
          · exact absurd this.symm hx
          · intro p hp
            rcases List.mem_cons.mp hp with rfl | hp
            · show a ≠ b
              omega
            · have := ha p hp
              omega
      subst hab
      have hvx : v = x := by simpa [readByte_cons] using h a
      subst hvx
      congr 1
      refine ih hr hr2 fun c => ?_
      by_cases hc : c = a
      · subst hc
        rw [readByte_absent fun p hp => by have := ha p hp; omega, readByte_absent fun p hp => by have := hb p hp; omega]
      · simpa [readByte_cons, hc] using h c

end Sys2Proof.Machine
end

