-- ==== Sys2Proof/Laws/Ops.lean ====
section
/-! SUPPORT. What the shared operations do: timers, records and faults, and the user area of MRAM. -/

namespace Sys2Proof.Machine

/-! ## Timers -/

/-- A timer filtered out of a list is not found there. -/
theorem lookup_filter_self (x : TimerId) (l : List (TimerId × Nat)) : (l.filter fun p => p.1 ≠ x).lookup x = none := by
  rw [List.lookup_eq_none_iff]
  intro p hp
  have h : p.1 ≠ x := by simpa using (List.mem_filter.1 hp).2
  simpa using h.symm

/-- Another timer is found as before. -/
theorem lookup_filter_ne {x y : TimerId} (h : y ≠ x) (l : List (TimerId × Nat)) :
    (l.filter fun p => p.1 ≠ x).lookup y = l.lookup y := by
  induction l with
  | nil => rfl
  | cons a l ih =>
    obtain ⟨z, n⟩ := a
    by_cases e : z = x
    · have hy : (y == z) = false := by simpa [e] using h
      simp only [List.filter_cons, e, ne_eq, not_true_eq_false, decide_false, Bool.false_eq_true, if_false, List.lookup_cons]
      rw [show (y == x) = false by simpa using h]
      simpa using ih
    · simp only [List.filter_cons, ne_eq, e, not_false_eq_true, decide_true, if_true, List.lookup_cons]
      split
      · rfl
      · simpa using ih

/-- A timer that is started ends at its time. -/
@[simp] theorem State.armAt_deadline (x : TimerId) (n : Nat) (s : State) : (s.armAt x n).deadline x = some n := by
  simp [State.armAt, State.deadline]

/-- A timer that is started ends after its time. -/
@[simp] theorem State.arm_deadline (x : TimerId) (n : Nat) (s : State) : (s.arm x n).deadline x = some (s.now + n) := by
  simp [State.arm]

/-- A timer that is stopped has no deadline. -/
@[simp] theorem State.disarm_deadline (x : TimerId) (s : State) : (s.disarm x).deadline x = none :=
  lookup_filter_self x s.timers

/-- Starting a timer leaves the others' deadlines. -/
theorem State.armAt_deadline_ne {x y : TimerId} (h : y ≠ x) (n : Nat) (s : State) : (s.armAt x n).deadline y = s.deadline y := by
  have h' : (y == x) = false := by simpa using h
  simp only [State.armAt, State.deadline, List.lookup_cons, h']
  exact lookup_filter_ne h s.timers

/-- Stopping a timer leaves the others' deadlines. -/
theorem State.disarm_deadline_ne {x y : TimerId} (h : y ≠ x) (s : State) : (s.disarm x).deadline y = s.deadline y :=
  lookup_filter_ne h s.timers

/-! ## Records and faults -/

/-- A fault enters the batch. -/
theorem mem_insertErr (e : ErrEntry) (l : List ErrEntry) : e ∈ insertErr e l := by
  induction l with
  | nil => simp [insertErr]
  | cons a r ih => unfold insertErr; split <;> simp [ih]

/-- A fault stays in a batch that another enters. -/
theorem mem_insertErr_of_mem {e : ErrEntry} {l : List ErrEntry} (a : ErrEntry) (h : e ∈ l) : e ∈ insertErr a l := by
  induction l with
  | nil => simp at h
  | cons b r ih =>
    unfold insertErr
    split
    · exact List.mem_cons_of_mem _ h
    · rcases List.mem_cons.1 h with rfl | h
      · simp
      · exact List.mem_cons_of_mem _ (ih h)

/-- With room in staging, a raised code's record is the newest there. -/
theorem State.raise_staging (c i : Nat) (v : List Nat) (s : State) (h : s.evr.staging.length < 16) :
    (s.raise c i v).evr.staging = s.evr.staging ++ [s.mkRecord 1 c i v] := by
  have q : (s.queueRecord (s.mkRecord 1 c i v)).evr.staging = s.evr.staging ++ [s.mkRecord 1 c i v] := by
    simp [State.queueRecord, h]
  have f : ((s.queueRecord (s.mkRecord 1 c i v)).fireOnFault c).evr.staging = s.evr.staging ++ [s.mkRecord 1 c i v] := by
    simpa [State.fireOnFault, State.fireTriggers] using q
  simp only [State.raise]
  split
  · exact f
  · simpa using f

/-- A raised code leaves every record that waits in staging. -/
theorem State.mem_raise_staging {r : Record} {s : State} (c i : Nat) (v : List Nat) (h : r ∈ s.evr.staging) :
    r ∈ (s.raise c i v).evr.staging := by
  have q : r ∈ (s.queueRecord (s.mkRecord 1 c i v)).evr.staging := by
    unfold State.queueRecord
    dsimp only
    (repeat' split) <;> simp [h]
  have f : r ∈ ((s.queueRecord (s.mkRecord 1 c i v)).fireOnFault c).evr.staging := by
    simpa [State.fireOnFault, State.fireTriggers] using q
  simp only [State.raise]
  split
  · exact f
  · simpa using f

/-- A raised fault waits in the batch. -/
theorem State.raise_batch (c i : Nat) (v : List Nat) (s : State) (h : isEvent c = false) :
    (⟨c, i⟩ : ErrEntry) ∈ (s.raise c i v).net.batch := by
  simp only [State.raise, h, Bool.false_eq_true, if_false]
  simp only [State.batchFault]
  exact mem_insertErr _ _

/-- A fault stays in the batch while faults of the same microsecond enter. -/
theorem State.mem_batchFault {e : ErrEntry} {s : State} (a : ErrEntry) (h : e ∈ s.net.batch) (at_ : s.net.batchAt = s.tb.tod / 1000) :
    e ∈ (s.batchFault a).net.batch ∧ (s.batchFault a).net.batchAt = s.tb.tod / 1000 := by
  simp only [State.batchFault, at_, ne_eq, not_true_eq_false, and_false, if_false]
  exact ⟨mem_insertErr_of_mem a h, trivial⟩

/-- A fault stays in the batch while a record of the same microsecond is queued. -/
theorem State.mem_queueRecord_batch {e : ErrEntry} {s : State} (r : Record) (h : e ∈ s.net.batch) (at_ : s.net.batchAt = s.tb.tod / 1000) :
    e ∈ (s.queueRecord r).net.batch ∧ (s.queueRecord r).net.batchAt = s.tb.tod / 1000 := by
  simp only [State.queueRecord]
  split
  · exact ⟨h, at_⟩
  · split
    · exact ⟨h, at_⟩
    · exact State.mem_batchFault _ h at_

/-- A fault stays in the batch while another code is raised in the same microsecond. -/
theorem State.mem_raise_batch {e : ErrEntry} {s : State} (c i : Nat) (v : List Nat) (h : e ∈ s.net.batch)
    (at_ : s.net.batchAt = s.tb.tod / 1000) :
    e ∈ (s.raise c i v).net.batch ∧ (s.raise c i v).net.batchAt = s.tb.tod / 1000 := by
  have q := State.mem_queueRecord_batch (s.mkRecord 1 c i v) h at_
  have q' : e ∈ ((s.queueRecord (s.mkRecord 1 c i v)).fireOnFault c).net.batch ∧
      ((s.queueRecord (s.mkRecord 1 c i v)).fireOnFault c).net.batchAt =
        ((s.queueRecord (s.mkRecord 1 c i v)).fireOnFault c).tb.tod / 1000 := by simpa using q
  simp only [State.raise]
  split
  · simpa using q
  · simpa using State.mem_batchFault ⟨c, i⟩ q'.1 q'.2

/-- A raised fault's batch is that of this microsecond. -/
theorem State.raise_batchAt (c i : Nat) (v : List Nat) (s : State) (h : isEvent c = false) :
    (s.raise c i v).net.batchAt = (s.raise c i v).tb.tod / 1000 := by
  rw [show (s.raise c i v).tb.tod = s.tb.tod by simp]
  simp only [State.raise, h, Bool.false_eq_true, if_false, State.batchFault]
  simp

/-- `State.raise` raises, whatever changed first but staging. -/
theorem State.raise_raised (c i : Nat) (v : List Nat) {s a : State} (h : a.evr.staging = s.evr.staging) :
    Raised c i v s (a.raise c i v) :=
  ⟨fun hl => by
    rw [State.raise_staging _ _ _ _ (h ▸ hl)]
    exact ⟨_, List.mem_append_right _ (List.mem_singleton.2 rfl), rfl, rfl, rfl⟩, State.raise_batch c i v a⟩

/-- A code stays raised while staging and the batch stand. -/
theorem Raised.keep {c i : Nat} {v : List Nat} {s a t : State} (h : Raised c i v s a) (e : t.evr.staging = a.evr.staging)
    (b : t.net.batch = a.net.batch) : Raised c i v s t := by
  unfold Raised at *
  rwa [e, b]

/-- A code stays raised while another is raised in the same microsecond. -/
theorem Raised.raise {c i : Nat} {v : List Nat} {s a : State} (h : Raised c i v s a)
    (at_ : isEvent c = false → a.net.batchAt = a.tb.tod / 1000) (c' i' : Nat) (v' : List Nat) : Raised c i v s (a.raise c' i' v') :=
  ⟨fun hl => let ⟨r, hr, e⟩ := h.1 hl; ⟨r, State.mem_raise_staging _ _ _ hr, e⟩,
    fun he => (State.mem_raise_batch c' i' v' (h.2 he) (at_ he)).1⟩

/-- The newer of two codes raised one after the other, while staging has room for both. -/
theorem State.raise_raise_raised (c i : Nat) (v : List Nat) (c' i' : Nat) (v' : List Nat) {s a : State} (h : a.evr.staging = s.evr.staging)
    (room : s.evr.staging.length < 15) : Raised c i v s ((a.raise c' i' v').raise c i v) := by
  have hl : (a.raise c' i' v').evr.staging.length < 16 := by
    rw [State.raise_staging _ _ _ _ (by rw [h]; omega)]
    simp [h]
    omega
  refine ⟨fun _ => ?_, State.raise_batch c i v _⟩
  rw [State.raise_staging _ _ _ _ hl]
  exact ⟨_, List.mem_append_right _ (List.mem_singleton.2 rfl), rfl, rfl, rfl⟩

/-! ## What raising a code leaves of the network state -/

/-- What `State.flushBatch` leaves of the network state. -/
@[simp] theorem State.flushBatch_net  (s : State) :
    (s.flushBatch).net.force = s.net.force ∧ (s.flushBatch).net.shadow = s.net.shadow ∧ (s.flushBatch).net.claim = s.net.claim ∧ (s.flushBatch).net.rw = s.net.rw ∧ (s.flushBatch).net.sess = s.net.sess ∧ (s.flushBatch).net.commit = s.net.commit ∧ (s.flushBatch).net.store = s.net.store ∧ (s.flushBatch).net.storing = s.net.storing ∧ (s.flushBatch).net.spiCrc = s.net.spiCrc ∧ (s.flushBatch).net.spiFrames = s.net.spiFrames ∧ (s.flushBatch).net.spiData = s.net.spiData ∧ (s.flushBatch).net.spiStat = s.net.spiStat ∧ (s.flushBatch).net.tunnelReq = s.net.tunnelReq ∧ (s.flushBatch).net.pm = s.net.pm := by
  unfold State.flushBatch; dsimp only; split <;> simp

/-- What `State.batchFault` leaves of the network state. -/
@[simp] theorem State.batchFault_net (e : ErrEntry) (s : State) :
    (s.batchFault e).net.force = s.net.force ∧ (s.batchFault e).net.shadow = s.net.shadow ∧ (s.batchFault e).net.claim = s.net.claim ∧ (s.batchFault e).net.rw = s.net.rw ∧ (s.batchFault e).net.sess = s.net.sess ∧ (s.batchFault e).net.commit = s.net.commit ∧ (s.batchFault e).net.store = s.net.store ∧ (s.batchFault e).net.storing = s.net.storing ∧ (s.batchFault e).net.spiCrc = s.net.spiCrc ∧ (s.batchFault e).net.spiFrames = s.net.spiFrames ∧ (s.batchFault e).net.spiData = s.net.spiData ∧ (s.batchFault e).net.spiStat = s.net.spiStat ∧ (s.batchFault e).net.tunnelReq = s.net.tunnelReq ∧ (s.batchFault e).net.pm = s.net.pm := by
  unfold State.batchFault; dsimp only; split <;> simp

/-- What `State.queueRecord` leaves of the network state. -/
@[simp] theorem State.queueRecord_net (r : Record) (s : State) :
    (s.queueRecord r).net.force = s.net.force ∧ (s.queueRecord r).net.shadow = s.net.shadow ∧ (s.queueRecord r).net.claim = s.net.claim ∧ (s.queueRecord r).net.rw = s.net.rw ∧ (s.queueRecord r).net.sess = s.net.sess ∧ (s.queueRecord r).net.commit = s.net.commit ∧ (s.queueRecord r).net.store = s.net.store ∧ (s.queueRecord r).net.storing = s.net.storing ∧ (s.queueRecord r).net.spiCrc = s.net.spiCrc ∧ (s.queueRecord r).net.spiFrames = s.net.spiFrames ∧ (s.queueRecord r).net.spiData = s.net.spiData ∧ (s.queueRecord r).net.spiStat = s.net.spiStat ∧ (s.queueRecord r).net.tunnelReq = s.net.tunnelReq ∧ (s.queueRecord r).net.pm = s.net.pm := by
  unfold State.queueRecord; dsimp only; (repeat' split) <;> simp

/-- What `State.raise` leaves of the network state. -/
@[simp] theorem State.raise_net (c i : Nat) (v : List Nat) (s : State) :
    (s.raise c i v).net.force = s.net.force ∧ (s.raise c i v).net.shadow = s.net.shadow ∧ (s.raise c i v).net.claim = s.net.claim ∧ (s.raise c i v).net.rw = s.net.rw ∧ (s.raise c i v).net.sess = s.net.sess ∧ (s.raise c i v).net.commit = s.net.commit ∧ (s.raise c i v).net.store = s.net.store ∧ (s.raise c i v).net.storing = s.net.storing ∧ (s.raise c i v).net.spiCrc = s.net.spiCrc ∧ (s.raise c i v).net.spiFrames = s.net.spiFrames ∧ (s.raise c i v).net.spiData = s.net.spiData ∧ (s.raise c i v).net.spiStat = s.net.spiStat ∧ (s.raise c i v).net.tunnelReq = s.net.tunnelReq ∧ (s.raise c i v).net.pm = s.net.pm := by
  unfold State.raise; dsimp only; split <;> simp

/-- What `State.raiseLimited` leaves of the network state. -/
@[simp] theorem State.raiseLimited_net (c i : Nat) (v : List Nat) (s : State) :
    (s.raiseLimited c i v).net.force = s.net.force ∧ (s.raiseLimited c i v).net.shadow = s.net.shadow ∧ (s.raiseLimited c i v).net.claim = s.net.claim ∧ (s.raiseLimited c i v).net.rw = s.net.rw ∧ (s.raiseLimited c i v).net.sess = s.net.sess ∧ (s.raiseLimited c i v).net.commit = s.net.commit ∧ (s.raiseLimited c i v).net.store = s.net.store ∧ (s.raiseLimited c i v).net.storing = s.net.storing ∧ (s.raiseLimited c i v).net.spiCrc = s.net.spiCrc ∧ (s.raiseLimited c i v).net.spiFrames = s.net.spiFrames ∧ (s.raiseLimited c i v).net.spiData = s.net.spiData ∧ (s.raiseLimited c i v).net.spiStat = s.net.spiStat ∧ (s.raiseLimited c i v).net.tunnelReq = s.net.tunnelReq ∧ (s.raiseLimited c i v).net.pm = s.net.pm := by
  unfold State.raiseLimited; split <;> simp

/-- The values in force are those of the configuration in force, the rw objects, the calibration and the cascade position. -/
theorem State.raw_congr {s t : State} (f : t.net.force = s.net.force) (r : t.net.rw = s.net.rw) (m : t.meas.calWork = s.meas.calWork)
    (p : t.pins.cascPos = s.pins.cascPos) : t.raw = s.raw := by
  funext idx sub
  simp only [State.raw, State.default, f, r, m, p]

/-- Raising a code leaves the values in force. -/
@[simp] theorem State.raise_raw (c i : Nat) (v : List Nat) (s : State) : (s.raise c i v).raw = s.raw :=
  State.raw_congr (by simp) (by simp) (by simp) (by simp)

/-- Raising a code leaves the view of the values in force. -/
@[simp] theorem State.raise_cfg (c i : Nat) (v : List Nat) (s : State) : (s.raise c i v).cfg = s.cfg := State.raise_raw c i v s

/-- Starting a timer leaves the values in force. -/
@[simp] theorem State.arm_raw (x : TimerId) (n : Nat) (s : State) : (s.arm x n).raw = s.raw := rfl

/-- Stopping a timer leaves the values in force. -/
@[simp] theorem State.disarm_raw (x : TimerId) (s : State) : (s.disarm x).raw = s.raw := rfl

/-! ## Walks over a list -/

/-- A walk whose every step leaves this state does nothing. -/
theorem State.each_self {α : Type} {l : List α} {f : α → State → State} {s : State} (h : ∀ a ∈ l, f a s = s) : State.each l f s = s := by
  unfold State.each
  induction l with
  | nil => rfl
  | cons a l ih =>
    simp only [List.foldl_cons]
    rw [h a List.mem_cons_self]
    exact ih fun b hb => h b (List.mem_cons_of_mem a hb)

/-- What each step of a walk brings about for its own element, and no step undoes, holds of every element after the walk. -/
theorem State.each_all {α : Type} {f : α → State → State} {P : α → State → Prop} (own : ∀ a s, P a (f a s))
    (others : ∀ a b s, P a s → P a (f b s)) {l : List α} {a : α} (h : a ∈ l) (s : State) : P a (State.each l f s) := by
  have keep : ∀ (l : List α) (s : State), P a s → P a (State.each l f s) := by
    intro l
    induction l with
    | nil => exact fun _ hp => hp
    | cons b l ih => exact fun s hp => ih (f b s) (others a b s hp)
  induction l generalizing s with
  | nil => cases h
  | cons b l ih =>
    rcases List.mem_cons.1 h with rfl | h
    · exact keep l _ (own a s)
    · exact ih h (f b s)

/-! ## Writes of objects -/

/-- An answer is the session's. -/
@[simp] theorem State.answer_answered (w : Session) (a : Answer) (s : State) : Answered w a (s.answer w a) := by
  simp [Answered, State.answer, State.modSess]

/-- A write that is not forwarded stays here (R391). -/
theorem State.forward_none {idx sub : Nat} (h : forwards idx sub = false) (d : List Byte) (s : State) : s.forward idx sub d = s := by
  simp [State.forward, h]

/-- A write that an object's own checks also pass has the object's effect, is forwarded and is answered. -/
theorem State.writeBy_done {w : Session} {idx sub : Nat} {d : List Byte} {o : ObjWrite} {s : State}
    (a : s.admits w idx sub d = true) (hb : o.busy (s.touch w) d = none) (hl : o.badLength d = false)
    (hi : o.invalid (s.touch w) d = none) (hr : o.reply (s.touch w) d = none) :
    s.writeBy w idx sub d o =
      ((o.effect (some w) d (s.touch w)).forward idx sub d).answer w (if idx = 0x1010 then .none else .done) := by
  simp only [State.admits, Bool.and_eq_true, Bool.or_eq_true, decide_eq_true_eq] at a
  obtain ⟨⟨hs, hp⟩, hc⟩ := a
  have hc' : (s.touch w).checkWrite (some w) ((s.touch w).roleOf w) idx sub d none false none = .pass := hc
  have hn : ¬ (s.rst.phase = .recovery ∧ ¬ romObject idx = true) := fun h => hp.elim (fun q => q h.1) h.2
  simp only [State.writeBy, State.access, hs, not_true_eq_false, if_false, hn, State.writeAs, hb, hl, hi, hc', hr]
  rfl

end Sys2Proof.Machine
end

