-- ==== Sys2Proof/WellFormed.lean ====
section
/-! DEFINITION. Well-formed commands: the operands that the widths of the spec's frames, registers and objects admit. -/

namespace Sys2Proof

/-- Index and sub-index of an object: 16 and 8 bits (R335). -/
def objectAddress (ix sub : Nat) : Bool := ix < 0x10000 && sub < 0x100

/-- The queues whose messages a peer chip proxies (R317, R326): Q48 to Q51 and Q56 to Q59. -/
def proxied (q : Nat) : Bool := (48 ≤ q && q ≤ 51) || (56 ≤ q && q ≤ 59)

/-- A step of a segmented transfer names an object by its address (R356). -/
def sdoFits : SdoStep → Bool
  | .beginRead ix sub | .beginWrite ix sub => objectAddress ix sub
  | .read _ | .write _ _ => true

/-- A PMBus device answers with 16-bit words (R372). -/
def wordFits : PmWord → Bool
  | .word v _ => v < 0x10000
  | .refused => true

/-- The words of a poll (R372). -/
def pollFits : PmPoll → Bool
  | .stuck | .noAck | .stretched => true
  | .words w => w.toList.all wordFits

/-- A 7-bit address and a 16-bit status word answer an alert (R374). -/
def alertFits : Option (Nat × Nat) → Bool
  | some (a, v) => a < 0x80 && v < 0x10000
  | none => true

/-- A command whose operands the spec's widths admit. Sessions, units and units' numbers fit by their types. -/
def Instr.wf : Instr → Bool
  | .taskActivation _ _ _ tr dn dl => tr ≤ dn && tr < dl
  | .timerExpiry _ x => x.all TimerSetting.fits
  | .syncInEdge p => 0 < p
  | .replyReceived _ _ d => d.length ≤ 7
  | .mbxPost _ _ d => d.length ≤ 56
  | .mbxAck _ _ _ c => c < 256
  | .registerWrite a v => a < 0x100000000 && v < 0x100000000
  | .dictionaryRead w ix sub b => objectAddress ix sub && (!b || w == .spi)
  | .dictionaryWrite w ix sub b _ => objectAddress ix sub && (!b || w == .spi)
  | .shadowWrite _ ix sub _ => objectAddress ix sub
  | .rpdoReceived _ _ d => d.length ≤ 64
  | .sdoSegment _ x => sdoFits x
  | .pmbusPoll _ r => pollFits r
  | .pmbusAlert _ r => alertFits r
  | .heartbeatReceived _ seq tw h => seq < 0x10000 && tw < 8 && h < 0x100000000
  | .messageFrameReceived _ _ _ _ q m => proxied q && m.payload.length ≤ 56 && m.seq < 0x10000
  | .messageAckFrameReceived _ _ _ _ _ _ seq c => seq < 0x10000 && c < 256
  | .cascadeTimeReceived _ _ _ _ _ t _ => t < 0x10000000000000000
  | .positionReportReceived _ _ _ _ a b c d => a < 0x100000000 && b < 0x100000000 && c < 0x100000000 && d < 0x100000000
  | .allocationReceived _ _ _ _ a n => a.length == 8 && a.all (· < 0x100000000) && n < 0x10000
  | .blockResetAssert c _ => c < 256
  | .blockResetRelease c => c < 256
  | .recordWriteDone b => b.all (· < 128)
  | .windowLoadDone _ b => b.all (· < 128)
  | .islandEvent .. | .vcoreInterval | .vcoreCeiling | .slackCollapse .. | .shelfFrameBoundary | .ffLatch | .stateSnapshot
  | .mirrorLaunch .. | .uplinkHandoff | .downlinkFreeze | .xoFail | .pllUnlock | .timebaseRecovery | .ppsEdge .. | .ppsQualified
  | .refLostPps | .ref10mInterval .. | .refLost10m .. | .ref10mQualified | .refConflict .. | .refConflictClear
  | .modelLearnSample .. | .modelStore | .holdoverSteer .. | .setTimeAtPps .. | .modelReset ..
  | .timerCapture .. | .precisionOutput .. | .overrangeClear .. | .settlingEnd .. | .pairDisagree .. | .rotationSlotStart ..
  | .modulatorCalibrationDone .. | .swapComparison .. | .swapHandover .. | .calStale .. | .measurementReady | .referenceCheck ..
  | .refFail | .windowSample .. | .imonConversion .. | .coulombOutput .. | .housekeepingConversion .. | .writeCalibrationSet ..
  | .calSetWritten | .calSetExport .. | .calSetImport .. | .captureA .. | .captureB .. | .captureCompute .. | .captureAbort ..
  | .captureDone | .laneTrigger .. | .laneSampleDone .. | .laneMiss .. | .laneFault .. | .loopPeriodBoundary ..
  | .phaseSlotEdge .. | .setpointWrite .. | .senseLost .. | .overshoot .. | .overvoltage .. | .bellowsEnd .. | .shedDwellExpiry ..
  | .phaseOpen .. | .imonImplausible .. | .blindTimeout .. | .syncLocked .. | .syncLost .. | .busReferenceWrite ..
  | .siteCapWrite .. | .shelfLoopStart | .ffImplausible | .ffRestore | .busSenseLost | .busOvervoltage | .busOvClear
  | .busUndervoltage | .busUvClear | .recNotTracking .. | .capEvaluation | .shortfallTimeout | .holdupEnded
  | .voltageStageDwell .. | .replyMissing .. | .slotCorrupt .. | .slowRetry .. | .portReadback .. | .portTxFault ..
  | .slowAccessRead .. | .slowAccessWrite .. | .shelfOffWrite .. | .branchEvaluation .. | .insertionDebounce ..
  | .inrushSettled .. | .inrushTimeout .. | .limitAssert .. | .limitRelease .. | .brFaultTimer .. | .brBreaker ..
  | .tripSinkEnd .. | .branchMinOffEnd .. | .branchRetryEnd .. | .retriesCleared .. | .fetShort .. | .clearFetShort .. | .gateUv
  | .gateUvRecover | .feedQualified .. | .feedLoss .. | .deadTimeEnd .. | .revertTime .. | .quenchIn .. | .softwareQuench ..
  | .quenchRelease .. | .quenchAutoRelease .. | .quenchInRearm | .chargeCount .. | .emptyAnchor .. | .fullAnchor ..
  | .capacityReset .. | .lvdOpen .. | .lvdReconnect .. | .reconnectBlocked .. | .clearStringLatch .. | .learnedDataPeriodic
  | .learnedDataWriteDone | .railEvaluation | .startDelayEnd .. | .pgDelayEnd .. | .startTimeout .. | .railFault ..
  | .offPathComplete .. | .minOffEnd .. | .railRetryEnd .. | .railRetriesCleared .. | .dischargeTimeout .. | .offDelayEnd ..
  | .inputLossDelay | .systemOnWrite .. | .railCommandWrite .. | .groupCommandWrite .. | .sensorConversion .. | .sensorSlow ..
  | .tempWarning .. | .throttleActive .. | .thermalShutdown .. | .thresholdClear .. | .throttleStep .. | .throttleRestore ..
  | .sensorFail .. | .sensorRecover .. | .engineWdog .. | .selfTestDone .. | .migrationDone .. | .engineReloadDone ..
  | .systemWdog | .hostBump | .lockAcquire .. | .lockRelease .. | .lockArm .. | .roleRequest .. | .sessionEndRequest ..
  | .roleResponse .. | .authLockoutEnd .. | .nonceExpiry .. | .sessionIdleTimeout .. | .commit .. | .discard ..
  | .commitValidation | .blockApply | .channelNotReady | .rollbackApply | .bootCommit | .store .. | .storeDone ..
  | .restoreDefaults .. | .nmtStart .. | .nmtStop .. | .nmtEnterPreOperational .. | .nmtResetApplication ..
  | .nmtResetCommunication .. | .tpdoEvent .. | .sdoTimeout .. | .errorFieldBatch | .emcyTransmit .. | .errorFieldClear ..
  | .heartbeatProduce .. | .heartbeatLost .. | .canBusOff .. | .busOffRecovery .. | .spiRead .. | .spiWrite .. | .tunnelRead
  | .tunnelWrite | .tunnelReadSegment | .tunnelWriteSegment | .tunnelLastWriteSegment | .tunnelTimeout | .pmbusDiscovery ..
  | .pmbusDeviceLost .. | .clockStretchTimeout .. | .pairingFrameSend | .pairingFrameReceived .. | .pairingTimeout
  | .configPush .. | .configurationFrameReceived .. | .mirrorFrameReceived .. | .stateFrameReceived .. | .delayRequest ..
  | .delayFrameReceived .. | .benutLinkUp .. | .benutLinkDown .. | .proxyTimeout .. | .handover .. | .tokenConflict
  | .missedLaunch | .tokenLoss | .twinHeartbeatLost | .takeoverDrive | .standbyLost | .resetStandby .. | .twinSynchronised
  | .cascadeTimeLaunch | .cascTimeLost | .positionReportSend | .allocationPeriod | .masterLost | .promote ..
  | .masterAnnouncementReceived .. | .powerOnReset | .supplyBrownOut | .vcoreBrownOut | .rstNLow | .resetEscalated
  | .softwareResetWarm .. | .softwareResetCold .. | .blockResetRequest .. | .paritySweep .. | .releaseStepDone ..
  | .releaseStall .. | .trimAttemptDone .. | .trimAcknowledge .. | .romBootDone .. | .lifecycleWipe | .holdExpired | .brownWarnSet
  | .brownWarnClear | .supplyRange .. | .scrubStep .. | .scrubLate .. | .correctionRate .. | .nvcStore .. | .nvcUserWrite
  | .recorderScanDone .. | .cursorWrite .. | .recorderClear .. | .recorderCleared | .manualTrigger .. | .stagingBegin ..
  | .imageAppend .. | .stagingAbort .. | .imageVerifyDone .. | .activate .. | .commitTrial .. | .revertTrial .. | .trialExpiry
  | .liveUpdate .. | .liveVerifyDone .. | .lifecycleTransition .. | .keyWrite .. | .keyRevoke .. | .twinActIChange ..
  | .supplyPowerOn => true

end Sys2Proof
end

