-- ==== Sys2Proof/Tests/Slice0.lean ====
section
/-! SUPPORT. Tests: the spec's worked examples, an ill-formed command for each check of `Instr.wf`, and for each clause of the statements
with hypotheses a state and operands that meet them. -/

namespace Sys2Proof.Machine

set_option linter.unusedVariables false
set_option Elab.async false

/-! ## The spec's worked examples -/

/-- spec/17, the worked example of the code: the stored check bits of 1 read 0x050E. -/
theorem test_rs_encode : rsEncode 1 = 0x050E_0000_0000_0000_0001 := by decide +kernel

/-- spec/17, the worked example of the code: two adjacent wrong nibbles are corrected. -/
theorem test_rs_corrects : rsRead 0x050E_0000_0000_0013_0001 = some 1 := by decide +kernel

/-- spec/06, the worked example of a loop: the stage's common exponent and the mantissas of its five coefficients. -/
theorem test_coefficients : convCoefs [5 / 2, -4, 1600000023841858 / 10 ^ 15, -5 / 4, 1 / 4] = some (2, [81920, -131072, 52429, -40960, 8192]) := by
  decide +kernel

/-- spec/15, the example of R403: 112.5 kW, 87.5 kW and 100 kW of 300 kW. -/
theorem test_allocations :
    allocations 300000 (fun m => if m = 0 then 120000 else if m = 1 then 110000 else 100000) (fun _ => 150000)
      (fun m => if m = 0 then 200000 else if m = 1 then 600000 else 0) [0, 1, 2] = [(0, 112500), (1, 87500), (2, 100000)] := by decide +kernel

/-- spec/19, the worked example of the error field: 0x1003:01, 0x1003:02 and 0x1001 after 0x0702 and 0x0A01 of one microsecond. -/
theorem test_error_field :
    (enterBatch (insertErr ⟨0x0A01, 10⟩ [⟨0x0702, 5⟩]) []).map errWord = [0x0A014201, 0x07022302] ∧
      errorRegister [⟨0x0A01, 10⟩, ⟨0x0702, 5⟩] = 0x0B := by decide +kernel

/-- R25: of two waiting bridge events a cycle hands over the older. -/
theorem test_idle_bridge : ∃ t, step { State.reset with arch.bridges := State.reset.arch.bridges.set 2 [7, 9] } = .next t ∧ t.arch.bridges[2] = [9] :=
  ⟨_, rfl, by decide +kernel⟩

/-! ## Ill-formed commands are refused -/

theorem test_wf_task : (Instr.taskActivation 0 0 0 5 4 9).wf = false ∧ (Instr.taskActivation 0 0 0 5 6 5).wf = false ∧
    (Instr.taskActivation 0 0 0 5 6 9).wf = true := by decide
theorem test_wf_sync_in : (Instr.syncInEdge 0).wf = false ∧ (Instr.syncInEdge 1).wf = true := by decide
theorem test_wf_reply : (Instr.replyReceived 0 0 (List.replicate 8 0)).wf = false := by decide
theorem test_wf_post : (Instr.mbxPost 0 0 (List.replicate 57 0)).wf = false ∧ (Instr.mbxPost 0 0 (List.replicate 56 0)).wf = true := by decide
theorem test_wf_ack : (Instr.mbxAck 0 0 0 256).wf = false := by decide
theorem test_wf_register_address : (Instr.registerWrite 0x100000000 0).wf = false := by decide
theorem test_wf_register_value : (Instr.registerWrite 0 0x100000000).wf = false := by decide
theorem test_wf_read : (Instr.dictionaryRead .spi 0x10000 0 false).wf = false ∧ (Instr.dictionaryRead .spi 0 0x100 false).wf = false ∧
    (Instr.dictionaryRead .canA 0 0 true).wf = false := by decide
theorem test_wf_write : (Instr.dictionaryWrite .spi 0x10000 0 false []).wf = false ∧ (Instr.dictionaryWrite .canA 0 0 true []).wf = false := by decide
theorem test_wf_shadow : (Instr.shadowWrite .spi 0 0x100 []).wf = false := by decide
theorem test_wf_rpdo : (Instr.rpdoReceived 0 0 (List.replicate 65 0)).wf = false := by decide
theorem test_wf_sdo : (Instr.sdoSegment 0 (.beginRead 0x10000 0)).wf = false ∧ (Instr.sdoSegment 0 (.beginWrite 0 0x100)).wf = false := by decide
theorem test_wf_poll : (Instr.pmbusPoll 0 (.words (Vector.replicate 7 (.word 0x10000 true)))).wf = false := by decide
theorem test_wf_alert : (Instr.pmbusAlert 0 (some (0x80, 0))).wf = false ∧ (Instr.pmbusAlert 0 (some (0, 0x10000))).wf = false := by decide
theorem test_wf_heartbeat : (Instr.heartbeatReceived true 0x10000 0 0).wf = false ∧ (Instr.heartbeatReceived true 0 8 0).wf = false ∧
    (Instr.heartbeatReceived true 0 0 0x100000000).wf = false := by decide
theorem test_wf_message : (Instr.messageFrameReceived true 0 0 false 47 {}).wf = false ∧
    (Instr.messageFrameReceived true 0 0 false 48 { payload := List.replicate 57 0 }).wf = false ∧
    (Instr.messageFrameReceived true 0 0 false 48 { seq := 0x10000 }).wf = false := by decide
theorem test_wf_message_ack : (Instr.messageAckFrameReceived true 0 0 false 0 0 0x10000 0).wf = false ∧
    (Instr.messageAckFrameReceived true 0 0 false 0 0 0 256).wf = false := by decide
theorem test_wf_time : (Instr.cascadeTimeReceived true 0 0 false false 0x10000000000000000 0).wf = false := by decide
theorem test_wf_report : (Instr.positionReportReceived true 0 0 false 0x100000000 0 0 0).wf = false ∧
    (Instr.positionReportReceived true 0 0 false 0 0 0 0x100000000).wf = false := by decide
theorem test_wf_allocation : (Instr.allocationReceived true 0 0 false [] 0).wf = false ∧
    (Instr.allocationReceived true 0 0 false (List.replicate 8 0x100000000) 0).wf = false ∧
    (Instr.allocationReceived true 0 0 false (List.replicate 8 0) 0x10000).wf = false := by decide
theorem test_wf_block_assert : (Instr.blockResetAssert 256 true).wf = false := by decide
theorem test_wf_block_release : (Instr.blockResetRelease 256).wf = false := by decide
theorem test_wf_record : (Instr.recordWriteDone [128]).wf = false := by decide
theorem test_wf_window : (Instr.windowLoadDone 0 [128]).wf = false := by decide

/-! ## States that the witnesses use -/

def hostVendor (s : State) : State := { s with net.sess := s.net.sess.map fun x => { x with role := .vendor } }
theorem foldl_lt {α} (f : Nat → α → Nat) (n : Nat) (hf : ∀ c a, c < n → f c a < n) (l : List α) : ∀ c, c < n → l.foldl f c < n := by
  induction l with
  | nil => intro c h; exact h
  | cons a l ih => intro c h; exact ih _ (hf _ _ h)
theorem crc32Bit_lt (c : Nat) (h : c < 2 ^ 32) : crc32Bit c < 2 ^ 32 := by
  unfold crc32Bit; split
  · exact Nat.xor_lt_two_pow (by omega) (by decide)
  · omega
theorem crc32_lt (d : List Byte) : crc32 d < 2 ^ 32 := by
  refine Nat.xor_lt_two_pow ?_ (by decide)
  refine foldl_lt _ _ (fun c a h => ?_) _ _ (by decide)
  refine foldl_lt _ _ (fun c a h => crc32Bit_lt c h) _ _ ?_
  exact Nat.xor_lt_two_pow h (by have := a.isLt; omega)
theorem leValue_leBytes4 (n : Nat) (h : n < 2 ^ 32) : leValue (leBytes 4 n) = n := by
  simp [leBytes, leValue]; omega
theorem calImageOk_image (c : CalSet) (hl : c.body.length = 0x43C) (h0 : imageAt c.body 0 4 = 0x534C4143) (h4 : imageAt c.body 4 2 = 1) (h6 : imageAt c.body 6 2 = 0x0440) : calImageOk c.image = true := by
  have k : ∀ o n, o + n ≤ 0x43C → imageAt c.image o n = imageAt c.body o n := by
    intro o n h; simp only [imageAt, CalSet.image]; rw [List.drop_append_of_le_length (by omega), List.take_append_of_le_length (by simp; omega)]
  simp only [calImageOk, k 0 4 (by decide), k 4 2 (by decide), k 6 2 (by decide), h0, h4, h6]
  have e : c.image.take 0x43C = c.body := by simp only [CalSet.image]; rw [← hl]; simp
  have f : imageAt c.image 0x43C 4 = crc32 c.body := by
    simp only [imageAt, CalSet.image]; rw [← hl]; simp [leBytes]
    have := leValue_leBytes4 _ (crc32_lt c.body)
    simpa [leBytes] using this
  rw [e, f]; simp [CalSet.image, hl, leBytes]
theorem calImageOk_one : calImageOk ({ serial := 1 } : CalSet).image = true := calImageOk_image _ (by decide +kernel) (by decide +kernel) (by decide +kernel) (by decide +kernel)
def nonceState : State := { State.reset with upd.key := State.reset.upd.key.set 0 [1], net.sess := State.reset.net.sess.map fun x => { x with held := true, nonceRole := .vendor } }
def goodResponse : List Byte := (List.range 32).map (Config.hmac [1] (nonceState.authMessage .spi))
theorem goodResponse_matches : nonceState.responseMatches .spi goodResponse = true := by
  refine decide_eq_true ⟨by decide +kernel, by decide +kernel, ?_⟩
  show (List.range 32).map (Config.hmac [1] (nonceState.authMessage .spi)) = _
  congr 2; decide +kernel
/-- A frame of the SPI port: header with its CRC, then the given bytes. -/
def spiHead (cmd n a : Nat) : List Byte := let h := leBytes 1 cmd ++ leBytes 1 n ++ leBytes 4 a; h ++ leBytes 2 (crc16 h)
def spiReadFrame (n a : Nat) : List Byte := spiHead 1 n a ++ List.replicate (4 + 4 * n) 0
def spiWriteFrame (a : Nat) (l : List Nat) : List Byte := let b := l.flatMap (leBytes 4); spiHead 2 l.length a ++ b ++ leBytes 2 (crc16 b)
/-- A tunnel request that waits in slot 0 of Q08, in a Vendor's session. -/
def tunnelMsg (op idx sub off : Nat) (d : List Byte) : MsgSlot :=
  { sender := 1, sepoch := 0, repoch := 0, seq := 5, payload := leBytes 2 idx ++ leBytes 1 sub ++ leBytes 1 op ++ leBytes 2 off ++ leBytes 1 9 ++ [0] ++ d, state := 1 }
def tunnelState (op idx sub off : Nat) (d : List Byte) : State :=
  let s := hostVendor State.reset
  { s with eng.queue := s.eng.queue.set 8 { ptr := 1, seq := 6, slot := (Vector.replicate 16 {}).set 0 (tunnelMsg op idx sub off d) } }
/-- A change of one block: the thermal settings' 0x2C12:01 at 100. -/
def thermalSet : List (Nat × Nat) := [(objKey 0x2C12 1, 0x42C80000)]
/-- Reset with every lane disabled, without stages and without a consumer. -/
def quietState : State := { State.reset with net.force := (List.range 12).flatMap fun n =>
  [(objKey (0x2310 + n) 1, 0), (objKey (0x2310 + n) 2, 0), (objKey (0x2310 + n) 8, 0)] }
/-- That state with a commit in progress. -/
def commitState (c : Commit) : State := { quietState with net.commit := c }
/-- The view that `thermalSet` gives. -/
abbrev thermalView : Cfg := quietState.cfg.overlaid thermalSet
theorem thermalSet_units : quietState.protectiveRefusal thermalView thermalSet = none ∧ thermalView.supplyRefusal = none ∧
    ((thermalView.spurRefusal quietState.shelf.rects).map fun p => (⟨p.1, p.2, 0xFF⟩ : CommitRefusal)) = none ∧
    rangeRefusal quietState.cfg thermalView = none ∧ thermalView.thermalRefusal = none :=
  ⟨by decide +kernel, by decide +kernel, by decide +kernel, by decide +kernel, by decide +kernel⟩
theorem thermalSet_control : quietState.laneRefusal quietState.cfg thermalView = none ∧ thermalView.loopRefusal = none ∧
    thermalView.recRefusal = none ∧ thermalView.branchRefusal = none ∧ thermalView.levelRefusal = none :=
  ⟨by decide +kernel, by decide +kernel, by decide +kernel, by decide +kernel, by decide +kernel⟩
theorem thermalSet_pins : thermalView.seqRefusal = none ∧ thermalView.strapRefusal = none ∧ quietState.pinRefusal quietState.cfg thermalView = none ∧
    quietState.loadRefusal thermalView = none :=
  ⟨by decide +kernel, by decide +kernel, by decide +kernel, by decide +kernel⟩
theorem thermalSet_host : thermalView.queueRefusal = none ∧ thermalView.recorderRefusal = none ∧ thermalView.pmRefusal = none :=
  ⟨by decide +kernel, by decide +kernel, by decide +kernel⟩
theorem thermalSet_checks : quietState.check quietState.cfg thermalView thermalSet = none := by
  obtain ⟨a0, a1, a2, a3, a4⟩ := thermalSet_units
  obtain ⟨b0, b1, b2, b3, b4⟩ := thermalSet_control
  obtain ⟨c0, c1, c2, c3⟩ := thermalSet_pins
  obtain ⟨d0, d1, d2⟩ := thermalSet_host
  rw [State.check, a0, a1, a2, a3, a4, b0, b1, b2, b3, b4, c0, c1, c2, c3, d0, d1, d2]
  rfl
theorem commitState_checks (c : Commit) : (commitState c).check quietState.cfg thermalView thermalSet = none :=
  (show (commitState c).check quietState.cfg thermalView thermalSet =
    quietState.check quietState.cfg thermalView thermalSet from rfl).trans thermalSet_checks
theorem pairState_checks (c : Commit) : ({ commitState c with twin.st := .activePaired } : State).check quietState.cfg
    thermalView thermalSet = none :=
  (show ({ commitState c with twin.st := .activePaired } : State).check quietState.cfg thermalView thermalSet =
    (commitState c).check quietState.cfg thermalView thermalSet from rfl).trans (commitState_checks c)
theorem commitState_cfg (c : Commit) : (commitState c).cfg = quietState.cfg := rfl
theorem overlaid_nil (c : Cfg) : c.overlaid [] = c := rfl
theorem commitState_oldView (c : Commit) (h : c.before = []) : (commitState c).oldView = quietState.cfg := by
  show (commitState c).cfg.overlaid c.before = _
  rw [h, commitState_cfg, overlaid_nil]
theorem thermalSet_part : partOf [3] thermalSet = thermalSet := by decide +kernel
theorem commitState_block (c : Commit) (h : c.before = []) (k : c.set = thermalSet) (a : c.applied = []) :
    (commitState c).check (commitState c).oldView (mixed (commitState c).oldView (commitState c).net.commit.set (3 :: (commitState c).net.commit.applied))
      (commitState c).net.commit.set = none := by
  rw [commitState_oldView c h, show (commitState c).net.commit = c from rfl, k, a, mixed, thermalSet_part, commitState_checks]
theorem thermalSet_displaces : thermalView.displaced = [] := by decide +kernel
theorem thermalSet_settled : quietState.cfg.settled thermalSet = thermalSet := by decide +kernel
theorem thermalSet_validates (s : State) (h : s.cfg = quietState.cfg) (k : s.net.commit.set = thermalSet)
    (e : s.check quietState.cfg thermalView thermalSet = none) :
    s.validate false s.cfg (s.cfg.settled (displacing (s.displacedKeys s.net.commit.set) s.net.commit.set)) = .inl [3] := by
  have b : blocksOf thermalSet = [3] := by decide +kernel
  rw [k, h, State.displacedKeys, h, thermalSet_displaces]
  rw [show displacing (List.map Claim.key []) thermalSet = thermalSet from rfl, thermalSet_settled]
  simp [State.validate, State.orderFrom, State.nextBlock, mixed, thermalSet_part, b, e]

/-! The hypotheses of SlackLoopMovesTheCoreVoltage are met. -/

theorem test_meets_SlackLoopMovesTheCoreVoltage_bridge_room : ∃ (b : Fin 9) (e : Nat) (s : State),
    (s.arch.bridges[b]).length < 4 := ⟨8, 5, { State.reset with arch.bridges := State.reset.arch.bridges.set 8 [1, 2, 3] }, by decide +kernel⟩

theorem test_meets_SlackLoopMovesTheCoreVoltage_bridge_full : ∃ (b : Fin 9) (e : Nat) (s : State),
    4 ≤ (s.arch.bridges[b]).length := ⟨8, 5, { State.reset with arch.bridges := State.reset.arch.bridges.set 8 [1, 2, 3, 4] }, by decide +kernel⟩

theorem test_meets_SlackLoopMovesTheCoreVoltage_vcore_raise : ∃ (m : Rat) (u : Nat) (s : State),
    (s.tbRuns = true) ∧
    (s.arch.interval = some (m, u)) ∧
    (m < s.real 0x3808 1) ∧
    (s.arch.emergencyAt ≠ some s.now) := ⟨1 / 10, 3, { State.reset with arch.interval := some (1 / 10, 3) }, by decide +kernel⟩

theorem test_meets_SlackLoopMovesTheCoreVoltage_vcore_hold : ∃ (m : Rat) (u : Nat) (s : State),
    (s.tbRuns = true) ∧
    (s.arch.interval = some (m, u)) ∧
    (s.real 0x3808 1 ≤ m) ∧
    (m < s.real 0x3808 1 + 1 / 20) := ⟨11 / 50, 3, { State.reset with arch.interval := some (11 / 50, 3) }, by decide +kernel⟩

theorem test_meets_SlackLoopMovesTheCoreVoltage_vcore_lower : ∃ (m : Rat) (u : Nat) (s : State),
    (s.tbRuns = true) ∧
    (s.arch.interval = some (m, u)) ∧
    (s.real 0x3808 1 + 1 / 20 ≤ m) ∧
    (s.real 0x3808 1 ≤ m) ∧
    (s.arch.lowerRun < 10) := ⟨1 / 2, 3, { State.reset with arch.interval := some (1 / 2, 3), arch.lowerRun := 9 }, by decide +kernel⟩

theorem test_meets_SlackLoopMovesTheCoreVoltage_ceiling : ∃ (s : State),
    (s.arch.vcoreMv = 850) ∧
    (10 ≤ s.arch.ceilingRun) := ⟨{ State.reset with arch.ceilingRun := 10 }, by decide +kernel⟩

theorem test_meets_SlackLoopMovesTheCoreVoltage_collapse : ∃ (u : Fin 20) (s : State),
    (s.arch.vcoreMv = 850) ∧
    (3 ≤ s.arch.lowRuns[u]) ∧
    (s.active = false) := ⟨19, { State.reset with arch.lowRuns := State.reset.arch.lowRuns.set 19 3 }, by decide +kernel⟩

theorem test_meets_SlackLoopMovesTheCoreVoltage_activation : ∃ (e task : Fin 8) (tasks : BitVec 8) (trigger done deadline : Nat) (s : State),
    engRuns (s.eng.eng[s.eng.host[e]]).st = true := ⟨0, 0, 1, 100, 150, 200, State.reset, by decide +kernel⟩

/-! The hypotheses of TimebaseFailsRecoversAndFollowsPps are met. -/

theorem test_meets_TimebaseFailsRecoversAndFollowsPps_xo_fail : ∃ (s : State),
    (s.tbOut = true) ∧
    (∀ l : Fin 8, (s.loop[l]).running = false) ∧
    (s.active = false) := ⟨State.reset, by decide +kernel⟩

theorem test_meets_TimebaseFailsRecoversAndFollowsPps_pll_unlock : ∃ (s : State),
    (s.tbOut = true) ∧
    (∀ l : Fin 8, (s.loop[l]).running = false) ∧
    (s.active = false) := ⟨State.reset, by decide +kernel⟩

theorem test_meets_TimebaseFailsRecoversAndFollowsPps_recovery : ∃ (s : State),
    (s.tb.lock = .timebaseFail) ∧
    (s.tbOut = true) := ⟨{ State.reset with tb.lock := .timebaseFail }, by decide +kernel⟩

theorem test_meets_TimebaseFailsRecoversAndFollowsPps_pps_discard : ∃ (x : Rat) (s : State),
    (s.tbRuns = true) ∧
    (s.tb.ppsOk = false ∨ s.due .ppsLost = false) ∧
    (s.ppsSeconds (interpolated (x - s.real 0x2100 2 * 1000000000)) = none) := ⟨1500000000, { State.reset with tb.ppsLast := some 0 }, by decide +kernel⟩

theorem test_meets_TimebaseFailsRecoversAndFollowsPps_pps_take : ∃ (x : Rat) (k : Nat) (s : State),
    (s.tbRuns = true) ∧
    (s.tb.ppsOk = false ∨ s.due .ppsLost = false) ∧
    (s.ppsSeconds (interpolated (x - s.real 0x2100 2 * 1000000000)) = some k) := ⟨1000000500, 1, { State.reset with tb.ppsLast := some 0, tb.ppsRun := 9, tb.todNext := some 5000000000 }, by decide +kernel⟩

theorem test_meets_TimebaseFailsRecoversAndFollowsPps_pps_qualified : ∃ (s : State),
    (s.tbRuns = true) ∧
    (10 ≤ s.tb.ppsRun) ∧
    (s.tb.ppsOk = false) := ⟨{ State.reset with tb.ppsRun := 10 }, by decide +kernel⟩

theorem test_meets_TimebaseFailsRecoversAndFollowsPps_pps_lost : ∃ (s : State),
    (s.tbRuns = true) ∧
    (s.tb.ppsOk = true) ∧
    (s.due .ppsLost = true) := ⟨{ State.reset with tb.ppsOk := true, tb.lock := .locked, timers := [(.ppsLost, 0)] }, by decide +kernel⟩

/-! The hypotheses of Ref10mIsMeasuredLostAndInConflict are met. -/

theorem test_meets_Ref10mIsMeasuredLostAndInConflict_ref_sum : ∃ (e : Rat) (s : State),
    (s.tbRuns = true) ∧
    (s.tb.refN < 999) := ⟨1 / 1000000, State.reset, by decide +kernel⟩

theorem test_meets_Ref10mIsMeasuredLostAndInConflict_ref_average : ∃ (e : Rat) (s : State),
    (s.tbRuns = true) ∧
    (999 ≤ s.tb.refN) ∧
    (s.refSteers = true) ∧
    (s.steersItself = true) ∧
    (s.tb.lock = .acquire ∨ s.tb.lock = .locked) := ⟨1 / 1000000, { State.reset with net.force := [(objKey 0x2100 1, 2)], tb.refOk := true, tb.lock := .acquire, tb.refN := 999 }, by decide +kernel⟩

theorem test_meets_Ref10mIsMeasuredLostAndInConflict_ref_average_only : ∃ (e : Rat) (s : State),
    (s.tbRuns = true) ∧
    (999 ≤ s.tb.refN) ∧
    (s.refSteers = false) := ⟨1 / 1000000, { State.reset with tb.refN := 999 }, by decide +kernel⟩

theorem test_meets_Ref10mIsMeasuredLostAndInConflict_ref_lost : ∃ (noEdge : Bool) (s : State),
    (s.tbRuns = true) ∧
    (s.tb.refOk = true) ∧
    (noEdge = true ∨ s.tb.refBad = true) := ⟨true, { State.reset with tb.refOk := true, tb.lock := .locked }, by decide +kernel⟩

theorem test_meets_Ref10mIsMeasuredLostAndInConflict_ref_qualified : ∃ (s : State),
    (s.tbRuns = true) ∧
    (10000 ≤ s.tb.refRun) ∧
    (s.tb.refOk = false) ∧
    (s.tb.conflict = false) := ⟨{ State.reset with tb.refRun := 10000 }, by decide +kernel⟩

theorem test_meets_Ref10mIsMeasuredLostAndInConflict_conflict : ∃ (d : Rat) (s : State),
    (s.tbRuns = true) ∧
    (s.raw 0x2100 1 = 3) ∧
    (s.tb.conflict = false) ∧
    (s.tb.ppsOk = true) ∧
    (s.tb.refOk = true) ∧
    (1 / 5000000 < absR d) := ⟨1 / 1000000, { State.reset with net.force := [(objKey 0x2100 1, 3)], tb.ppsOk := true, tb.refOk := true }, by decide +kernel⟩

theorem test_meets_Ref10mIsMeasuredLostAndInConflict_conflict_watch : ∃ (d : Rat) (s : State),
    (s.tbRuns = true) ∧
    (s.raw 0x2100 1 = 3) ∧
    (s.tb.conflict = true) := ⟨1 / 100000000, { State.reset with net.force := [(objKey 0x2100 1, 3)], tb.conflict := true }, by decide +kernel⟩

theorem test_meets_Ref10mIsMeasuredLostAndInConflict_conflict_clear : ∃ (s : State),
    (s.tb.conflict = true) ∧
    (s.due .conflictClear = true) := ⟨{ State.reset with tb.conflict := true, timers := [(.conflictClear, 0)] }, by decide +kernel⟩

/-! The hypotheses of ModelHoldoverTimeOfDayAndTimers are met. -/

theorem test_meets_ModelHoldoverTimeOfDayAndTimers_learn : ∃ (rate : Rat) (s : State),
    (s.tb.lock = .locked) ∧
    (absR rate ≤ 10) ∧
    (absR s.tb.phaseErr ≤ 1 / 10000000) ∧
    (s.tb.model.samples ≠ 0) := ⟨5, { State.reset with tb.lock := .locked, tb.model.samples := 3 }, by decide +kernel⟩

theorem test_meets_ModelHoldoverTimeOfDayAndTimers_model_store : ∃ (s : State),
    s.tb.lock = .locked := ⟨{ State.reset with tb.lock := .locked }, by decide +kernel⟩

theorem test_meets_ModelHoldoverTimeOfDayAndTimers_holdover : ∃ (slow : Bool) (s : State),
    (s.due .holdoverSec = true) ∧
    (s.tbRuns = true) ∧
    (s.steersItself = true) ∧
    (s.tb.lock = .holdover) := ⟨true, { State.reset with tb.lock := .holdover, timers := [(.holdoverSec, 0)] }, by decide +kernel⟩

theorem test_meets_ModelHoldoverTimeOfDayAndTimers_time_at_pps : ∃ (w : Session) (d : List Byte) (s : State),
    (s.admits w 0x2102 2 d = true) ∧
    (leValue d % 1000000000 = 0) := ⟨.spi, leBytes 8 5000000000, hostVendor State.reset, by decide +kernel⟩

theorem test_meets_ModelHoldoverTimeOfDayAndTimers_model_reset : ∃ (w : Session) (d : List Byte) (s : State),
    s.admits w 0x2103 0x0A d = true := ⟨.spi, leBytes 4 0x65736572, hostVendor State.reset, by decide +kernel⟩

theorem test_meets_ModelHoldoverTimeOfDayAndTimers_timer_expiry : ∃ (k : Fin 16) (i : Fin 11) (b : Fin 32) (s : State),
    (s.tbRuns = true) ∧
    (s.timerDue k = true) ∧
    ((s.tb.gen[k]).setting.mode = .oneShot ∨ (s.tb.gen[k]).setting.mode = .periodic) ∧
    ((s.tb.gen[k]).setting.action = .doorbell b) ∧
    (identIx (s.tb.gen[k]).setting.owner = some i) := ⟨3, 2, 20, { State.reset with tb.gen := State.reset.tb.gen.set 3 { setting := { mode := .periodic, value := 200000, action := .doorbell 20, owner := 0x11 }, armed := true } }, by decide +kernel⟩

theorem test_meets_ModelHoldoverTimeOfDayAndTimers_timer_alarm : ∃ (k : Fin 16) (s : State),
    (s.tbRuns = true) ∧
    (s.timerDue k = true) ∧
    ((s.tb.gen[k]).setting.mode = .alarm) ∧
    ((s.tb.gen[k]).setting.action = .none) := ⟨3, { State.reset with tb.gen := State.reset.tb.gen.set 3 { setting := { mode := .alarm, owner := 0x11 }, armed := true } }, by decide +kernel⟩

theorem test_meets_ModelHoldoverTimeOfDayAndTimers_timer_idle : ∃ (k : Fin 16) (s : State),
    s.timerDue k = false := ⟨3, State.reset, by decide +kernel⟩

theorem test_meets_ModelHoldoverTimeOfDayAndTimers_timer_program : ∃ (k : Fin 16) (x : TimerSetting) (s : State),
    (s.tbRuns = true) ∧
    (s.timerDue k = false) ∧
    (x.fits = true) := ⟨3, { mode := .periodic, value := 200000, action := .doorbell 20, owner := 0x11 }, State.reset, by decide +kernel⟩

theorem test_meets_ModelHoldoverTimeOfDayAndTimers_timer_capture : ∃ (k : Fin 16) (rising : Bool) (s : State),
    (s.tbRuns = true) ∧
    ((s.tb.gen[k]).setting.mode = .capture) ∧
    ((s.tb.gen[k]).setting.pin.isSome = true) ∧
    ((if rising = true then (s.tb.gen[k]).setting.edges.1 else (s.tb.gen[k]).setting.edges.2) = true) := ⟨3, true, { State.reset with tb.gen := State.reset.tb.gen.set 3 { setting := { mode := .capture, owner := 0x93 } } }, by decide +kernel⟩

/-! The hypotheses of ShelfFrameInstantsHaveTheirEffects are met. -/

theorem test_meets_ShelfFrameInstantsHaveTheirEffects_boundary : ∃ (s : State),
    (s.up = true) ∧
    (s.tbRuns = true) ∧
    (s.frameTime = 0) ∧
    (s.tb.frameAt ≠ some s.now) := ⟨State.reset, by decide +kernel⟩

theorem test_meets_ShelfFrameInstantsHaveTheirEffects_ff_latch : ∃ (s : State),
    (s.up = true) ∧
    (s.tbRuns = true) ∧
    (s.frameTime = 20000) := ⟨{ State.reset with tb.tod := 20000 }, by decide +kernel⟩

theorem test_meets_ShelfFrameInstantsHaveTheirEffects_snapshot : ∃ (s : State),
    (s.up = true) ∧
    (s.tbRuns = true) ∧
    (s.frameTime = 21000) := ⟨{ State.reset with tb.tod := 21000 }, by decide +kernel⟩

theorem test_meets_ShelfFrameInstantsHaveTheirEffects_launch_active : ∃ (m : MirrorFrame) (f : StateFrame) (s : State),
    (s.up = true) ∧
    (s.tbRuns = true) ∧
    (s.frameTime = 21200) ∧
    (s.active = true) ∧
    (s.blkHeld 8 = false) ∧
    (s.twin.outgoing = some (m, f)) := ⟨{}, {}, { State.reset with tb.tod := 21200,  twin.st := .activePaired, twin.outgoing := some ({}, {}) }, by decide +kernel⟩

theorem test_meets_ShelfFrameInstantsHaveTheirEffects_launch_missed : ∃ (m : MirrorFrame) (f : StateFrame) (s : State),
    (s.up = true) ∧
    (s.tbRuns = true) ∧
    (s.frameTime = 21200) ∧
    (s.twin.st = .activePaired) ∧
    (s.twin.outgoing = some (m, f)) := ⟨{}, {}, { State.reset with tb.tod := 21200,  twin.st := .activePaired, twin.outgoing := some ({}, {}) }, by decide +kernel⟩

theorem test_meets_ShelfFrameInstantsHaveTheirEffects_launch_heartbeat : ∃ (ok : Bool) (s : State),
    (s.up = true) ∧
    (s.tbRuns = true) ∧
    (s.frameTime = 21200) ∧
    (s.active = false) ∧
    (s.standby = true) ∧
    (s.blkHeld 8 = false) := ⟨true, { State.reset with tb.tod := 21200,  twin.st := .standbySync }, by decide +kernel⟩

theorem test_meets_ShelfFrameInstantsHaveTheirEffects_handoff : ∃ (s : State),
    (s.linkRuns = true) ∧
    (23200 ≤ s.frameTime) ∧
    (s.frameTime ≤ 23250) ∧
    (s.shelf.heldCopy = none) ∧
    (∀ j : Fin 4, s.recEnabled (s.slotRec j) = false ∨ s.shelf.slotOk.getLsbD j = true) := ⟨{ State.reset with tb.tod := 23200, shelf.linkOn := true, shelf.slotOk := 15 }, by decide +kernel⟩

theorem test_meets_ShelfFrameInstantsHaveTheirEffects_handoff_missing : ∃ (s : State),
    (s.linkRuns = true) ∧
    (23200 ≤ s.frameTime) ∧
    (s.frameTime ≤ 23250) ∧
    (s.shelf.heldCopy = none) ∧
    (s.recEnabled (s.slotRec 0) = true) ∧
    (s.shelf.slotOk = 14) := ⟨{ State.reset with tb.tod := 23200, net.force := [(objKey 0x2E10 2, 1)], shelf.linkOn := true, shelf.slotOk := 14 }, by decide +kernel⟩

theorem test_meets_ShelfFrameInstantsHaveTheirEffects_freeze : ∃ (s : State),
    (s.linkRuns = true) ∧
    (s.frameTime = 24000) := ⟨{ State.reset with tb.tod := 24000, shelf.linkOn := true }, by decide +kernel⟩

/-! The hypotheses of PrecisionOutputsClipSettleAndDisagree are met. -/

theorem test_meets_PrecisionOutputsClipSettleAndDisagree_output200 : ∃ (k : Fin 48) (code : Int) (s : State),
    (s.tbRuns = true) ∧
    (s.outputDate 0 = true) ∧
    (clips code = false) := ⟨5, 1000, State.reset, by decide +kernel⟩

theorem test_meets_PrecisionOutputsClipSettleAndDisagree_output10 : ∃ (k : Fin 48) (code : Int) (s : State),
    (s.tbRuns = true) ∧
    (s.outputDate 1 = true) ∧
    (clips code = false) := ⟨5, 1000, State.reset, by decide +kernel⟩

theorem test_meets_PrecisionOutputsClipSettleAndDisagree_output_clip : ∃ (k : Fin 48) (code : Int) (s : State),
    (s.tbRuns = true) ∧
    (s.outputDate 1 = true) ∧
    (clips code = true) ∧
    (s.running (.limit 0x0201 k) = false) := ⟨5, 1200000000, State.reset, by decide +kernel⟩

theorem test_meets_PrecisionOutputsClipSettleAndDisagree_overrange_clear : ∃ (k : Fin 48) (s : State),
    s.due (.overrange k) = true := ⟨5, { State.reset with timers := [(.overrange 5, 0)] }, by decide +kernel⟩

theorem test_meets_PrecisionOutputsClipSettleAndDisagree_settling_end : ∃ (k : Fin 48) (s : State),
    s.due (.settling k) = true := ⟨5, { State.reset with timers := [(.settling 5, 0)] }, by decide +kernel⟩

theorem test_meets_PrecisionOutputsClipSettleAndDisagree_pair_disagree : ∃ (p : Fin 2) (s : State),
    (10 ≤ s.meas.pairFails[p]) ∧
    ((s.meas.ch[(pairOf p).1]).disagree = false) := ⟨1, { State.reset with meas.pairFails := Vector.replicate 2 10 }, by decide +kernel⟩

/-! The hypotheses of SparesRotateCalibrateAndSwap are met. -/

theorem test_meets_SparesRotateCalibrateAndSwap_slot_start : ∃ (x : Fin 4) (k : Fin 48) (s : State),
    (s.up = true) ∧
    (s.flag 0x2200 2 = true) ∧
    ((s.meas.slots[x]).phase = .idle) ∧
    (s.poolPlace x ≠ none) ∧
    ((s.meas.ch[(s.meas.slots[x]).channel]).host ≠ spareOf x) ∧
    (s.nextChannel x = some k) := ⟨0, 0, State.reset, by decide +kernel⟩

theorem test_meets_SparesRotateCalibrateAndSwap_cal_done : ∃ (x : Fin 4) (x0 xp xn : Rat) (s : State),
    (s.calServes (spareOf x) = some x) ∧
    ((s.meas.slots[x]).phase = .calSpare) ∧
    (calOk (s.fullScale (s.meas.slots[x]).channel) x0 xp xn = true) := ⟨0, 0, 4 / 5, -4 / 5, { State.reset with meas.slots := State.reset.meas.slots.set 0 { phase := .calSpare, channel := 4 } }, by decide +kernel⟩

theorem test_meets_SparesRotateCalibrateAndSwap_swap_ready : ∃ (x : Fin 4) (mean : Rat) (s : State),
    ((s.meas.slots[x]).phase = .overlapSpare) ∧
    (s.swapDeferred (s.meas.slots[x]).channel = false) ∧
    (absR mean ≤ s.real 0x2200 3) := ⟨0, 0, { State.reset with meas.slots := State.reset.meas.slots.set 0 { phase := .overlapSpare, channel := 4 } }, by decide +kernel⟩

theorem test_meets_SparesRotateCalibrateAndSwap_swap_abort : ∃ (x : Fin 4) (mean : Rat) (s : State),
    ((s.meas.slots[x]).phase = .overlapHome) ∧
    (s.swapDeferred (s.meas.slots[x]).channel = false) ∧
    (s.real 0x2200 3 < absR mean) := ⟨0, 1, { State.reset with meas.slots := State.reset.meas.slots.set 0 { phase := .overlapHome, channel := 4 } }, by decide +kernel⟩

theorem test_meets_SparesRotateCalibrateAndSwap_handover_home : ∃ (x : Fin 4) (s : State),
    (s.meas.slots[x]).phase = .readyHome := ⟨0, { State.reset with meas.slots := State.reset.meas.slots.set 0 { phase := .readyHome, channel := 4 } }, by decide +kernel⟩

theorem test_meets_SparesRotateCalibrateAndSwap_handover_spare : ∃ (x : Fin 4) (s : State),
    ((s.meas.slots[x]).phase = .readySpare) ∧
    ((s.meas.modu[homeOf (s.meas.slots[x]).channel]).retired = false) := ⟨0, { State.reset with meas.slots := State.reset.meas.slots.set 0 { phase := .readySpare, channel := 4 } }, by decide +kernel⟩

theorem test_meets_SparesRotateCalibrateAndSwap_cal_stale : ∃ (k : Fin 48) (s : State),
    s.due (.stale k) = true := ⟨7, { State.reset with timers := [(.stale 7, 0)] }, by decide +kernel⟩

theorem test_meets_SparesRotateCalibrateAndSwap_measurement_ready : ∃ (s : State),
    s.due .ready = true := ⟨{ State.reset with timers := [(.ready, 0)] }, by decide +kernel⟩

theorem test_meets_SparesRotateCalibrateAndSwap_ref_fail : ∃ (s : State),
    (3 ≤ s.meas.refFails) ∧
    (s.meas.refFail = false) ∧
    (s.active = false) := ⟨{ State.reset with meas.refFails := 3 }, by decide +kernel⟩

/-! The hypotheses of ConvertersDeliverTheirQuantities are met. -/

theorem test_meets_ConvertersDeliverTheirQuantities_window : ∃ (l : Fin 8) (code vlcl : Int) (s : State),
    (s.up = true) ∧
    (s.vlclTurn l = false) := ⟨2, -3, 511, { State.reset with loop := State.reset.loop.set 2 { running := true, vTarget := 1 } }, by decide +kernel⟩

theorem test_meets_ConvertersDeliverTheirQuantities_window_vlcl : ∃ (l : Fin 8) (code vlcl : Int) (s : State),
    (s.up = true) ∧
    (s.vlclTurn l = true) := ⟨2, 511, -3, { State.reset with loop := State.reset.loop.set 2 { running := true, vTarget := 1, winRun := 9, satSince := some 0 }, now := 2000 }, by decide +kernel⟩

theorem test_meets_ConvertersDeliverTheirQuantities_housekeeping_bvs : ∃ (slot : Fin 25) (v : Rat) (s : State),
    slot.val < 16 := ⟨3, 1, State.reset, by decide +kernel⟩

/-! The hypotheses of CalibrationSetAndCaptureWork are met. -/

theorem test_meets_CalibrationSetAndCaptureWork_write_cal : ∃ (w : Session) (d : List Byte) (s : State),
    (s.admits w 0x3600 3 d = true) ∧
    (s.calBusy = none) := ⟨.spi, leBytes 4 0x6C616377, hostVendor State.reset, by decide +kernel⟩

theorem test_meets_CalibrationSetAndCaptureWork_cal_written : ∃ (c : CalSet) (s : State),
    s.meas.calWriting = some c := ⟨{}, { State.reset with meas.calWriting := some {} }, by decide +kernel⟩

theorem test_meets_CalibrationSetAndCaptureWork_cal_export : ∃ (w : Session) (c : CalSet) (s : State),
    (s.serves w = true) ∧
    (s.rst.phase ≠ .recovery) ∧
    (roleAllows (s.roleOf w) .engineer = true) ∧
    (s.meas.calStored = some c) := ⟨.spi, {}, hostVendor { State.reset with meas.calHalf := #v[some {}, none] }, by decide +kernel⟩

theorem test_meets_CalibrationSetAndCaptureWork_cal_import : ∃ (w : Session) (d : List Byte) (s : State),
    (s.admits w 0x3600 1 d = true) ∧
    (d.length = 1088) ∧
    (s.calBusy = none) ∧
    (calImageOk d = true) ∧
    (imageAt d 8 4 = s.upd.serial) := ⟨.spi, ({ serial := 1 } : CalSet).image, hostVendor { State.reset with upd.serial := 1 }, by decide +kernel, by decide +kernel, by decide +kernel, calImageOk_one, by decide +kernel⟩

theorem test_meets_CalibrationSetAndCaptureWork_capture_a : ∃ (w : Session) (s : State),
    s.admits w 0x3620 3 [1] = true := ⟨.spi, hostVendor State.reset, by decide +kernel⟩

theorem test_meets_CalibrationSetAndCaptureWork_capture_b : ∃ (w : Session) (s : State),
    s.admits w 0x3620 3 [2] = true := ⟨.spi, hostVendor State.reset, by decide +kernel⟩

theorem test_meets_CalibrationSetAndCaptureWork_capture_compute : ∃ (w : Session) (s : State),
    (s.admits w 0x3620 3 [3] = true) ∧
    (s.net.claim = none ∨ s.net.claim = some w) ∧
    (s.meas.cap.heldA = true) ∧
    (s.meas.cap.heldB = true) ∧
    (s.meas.cap.overA = false) ∧
    (s.meas.cap.overB = false) ∧
    (1 / 5 ≤ absR (s.meas.cap.vA - s.meas.cap.vB)) := ⟨.spi, hostVendor { State.reset with meas.cap := { heldA := true, heldB := true, vA := 1, vB := 0, qA := 1 } }, by decide +kernel⟩

theorem test_meets_CalibrationSetAndCaptureWork_capture_abort : ∃ (w : Session) (s : State),
    s.admits w 0x3620 3 [0] = true := ⟨.spi, hostVendor State.reset, by decide +kernel⟩

theorem test_meets_CalibrationSetAndCaptureWork_capture_done : ∃ (s : State),
    (s.meas.cap.state = .capturing false) ∧
    (s.due .capture = true) ∧
    (s.meas.cap.n ≠ 0) := ⟨{ State.reset with timers := [(.capture, 0)], meas.cap := { state := .capturing false, sum := 3, n := 4 } }, by decide +kernel⟩

/-! The hypotheses of LaneSamplesStartCompleteMissAndFault are met. -/

theorem test_meets_LaneSamplesStartCompleteMissAndFault_lane_start : ∃ (n : Fin 12) (s : State),
    (s.laneRuns n = true) ∧
    ((s.lane[n]).bank.enable = true) ∧
    ((s.lane[n]).bank.trigger ≠ 2 ∧ (s.lane[n]).bank.trigger ≠ 5) ∧
    ((s.lane[n]).bank.trigger = 1 → s.slotTrigger (s.lane[n]).bank = true) ∧
    ((s.lane[n]).pendingBank = none) ∧
    ((s.lane[n]).sample = none) ∧
    ((s.lane[n]).align = none) ∧
    ((s.lane[n]).transferTo = none) ∧
    (s.shelf.presets = 0) ∧
    (s.followed n = false) := ⟨3, { State.reset with lane := State.reset.lane.set 3 { bank := { enable := true, period := 200 } } }, by decide +kernel⟩

theorem test_meets_LaneSamplesStartCompleteMissAndFault_lane_takes_bank : ∃ (n : Fin 12) (b : Bank) (s : State),
    (s.laneRuns n = true) ∧
    ((s.lane[n]).bank.enable = false) ∧
    ((s.lane[n]).pendingBank = some b) ∧
    ((s.lane[n]).sample = none) ∧
    ((s.lane[n]).transferTo = none) ∧
    (b.trigger ≠ 2 ∧ b.trigger ≠ 5) ∧
    (b.trigger = 1 → s.slotTrigger b = true) ∧
    (b.enable = false) ∧
    (s.followed n = false) := ⟨3, {}, { State.reset with lane := State.reset.lane.set 3 { pendingBank := some {} } }, by decide +kernel⟩

theorem test_meets_LaneSamplesStartCompleteMissAndFault_lane_waits : ∃ (n : Fin 12) (s : State),
    s.triggerKind n = 2 ∨ s.triggerKind n = 5 ∨ (s.triggerKind n = 1 ∧ s.slotTrigger (s.lane[n]).triggerBank = false) ∨ s.laneRuns n = false := ⟨3, State.reset, by decide +kernel⟩

theorem test_meets_LaneSamplesStartCompleteMissAndFault_sample_done : ∃ (n : Fin 12) (sm : Sample) (d : Nat) (s : State),
    ((s.lane[n]).sample = some sm) ∧
    (s.deadline (.laneDeadline n) = some d) ∧
    (s.now < d) ∧
    (sm.sat = false) := ⟨3, {}, 5, { State.reset with lane := State.reset.lane.set 3 { sample := some {} }, timers := [(.laneDeadline 3, 5)] }, by decide +kernel⟩

theorem test_meets_LaneSamplesStartCompleteMissAndFault_sample_saturated : ∃ (n : Fin 12) (sm : Sample) (d : Nat) (s : State),
    ((s.lane[n]).sample = some sm) ∧
    (s.deadline (.laneDeadline n) = some d) ∧
    (s.now < d) ∧
    (sm.sat = true) ∧
    (s.running (.limit 0x0303 n) = false) := ⟨3, { sat := true }, 5, { State.reset with lane := State.reset.lane.set 3 { sample := some { sat := true } }, timers := [(.laneDeadline 3, 5)] }, by decide +kernel⟩

theorem test_meets_LaneSamplesStartCompleteMissAndFault_lane_miss : ∃ (n : Fin 12) (s : State),
    ((s.lane[n]).sample.isSome = true) ∧
    (s.due (.laneDeadline n) = true) ∧
    (s.running (.limit 0x0301 n) = false) := ⟨3, { State.reset with lane := State.reset.lane.set 3 { sample := some {} }, timers := [(.laneDeadline 3, 0)] }, by decide +kernel⟩

theorem test_meets_LaneSamplesStartCompleteMissAndFault_lane_fault : ∃ (n : Fin 12) (s : State),
    (3 ≤ (s.lane[n]).consecutive) ∧
    ((s.lane[n]).fault = false) ∧
    (s.consumerLane n = none) ∧
    (s.active = false) := ⟨3, { State.reset with lane := (State.reset.lane.set 3 { consecutive := 3 }).set 11 { drives := some 3 } }, by decide +kernel⟩

theorem test_meets_LaneSamplesStartCompleteMissAndFault_ln08 : ∃ (s : State),
    (3 ≤ (s.lane[8]).consecutive) ∧
    ((s.lane[8]).fault = false) ∧
    ((s.lane[8]).bank.consumer = 2) ∧
    ((s.lane[11]).drives = none) ∧
    (s.active = false) ∧
    (s.evr.staging.length < 15) := ⟨{ State.reset with lane := (State.reset.lane.set 8 { consecutive := 3, bank := { consumer := 2 } }) }, by decide +kernel⟩

theorem test_meets_LaneSamplesStartCompleteMissAndFault_ln09 : ∃ (s : State),
    (3 ≤ (s.lane[9]).consecutive) ∧
    ((s.lane[9]).fault = false) ∧
    ((s.lane[9]).bank.consumer = 3) ∧
    ((s.lane[11]).drives = none) ∧
    (s.active = false) ∧
    (s.evr.staging.length < 15) := ⟨{ State.reset with lane := (State.reset.lane.set 9 { consecutive := 3, bank := { consumer := 3 } }) }, by decide +kernel⟩

theorem test_meets_LaneSamplesStartCompleteMissAndFault_ln10 : ∃ (s : State),
    (3 ≤ (s.lane[10]).consecutive) ∧
    ((s.lane[10]).fault = false) ∧
    ((s.lane[10]).bank.consumer = 4) ∧
    ((s.lane[11]).drives = none) ∧
    (s.active = false) ∧
    (s.evr.staging.length < 15) := ⟨{ State.reset with lane := (State.reset.lane.set 10 { consecutive := 3, bank := { consumer := 4 } }) }, by decide +kernel⟩

/-! The hypotheses of LoopsPulseRampAndShed are met. -/

theorem test_meets_LoopsPulseRampAndShed_period : ∃ (l : Fin 8) (i : Vector Rat 32) (s : State),
    s.boundaryDue l = true := ⟨2, Vector.replicate 32 1, { State.reset with loop := State.reset.loop.set 2 { running := true, refEdge := some 0 } }, by decide +kernel⟩

theorem test_meets_LoopsPulseRampAndShed_pulse : ∃ (i : Fin 32) (l : Fin 8) (n : Nat) (pair vlcl : Rat) (s : State),
    (s.loopOfPhase i = some l) ∧
    ((s.phase[i]).stopping = false) ∧
    ((s.phase[i]).st = .participating) ∧
    ((s.loop[l]).running = true) ∧
    ((s.loop[l]).suppressed = false) ∧
    (s.onTime l i 4 = some n) ∧
    (s.drives = true) := ⟨0, 0, 1024, 1, 1, { State.reset with net.force := [(objKey 0x2410 1, 1)], loop := State.reset.loop.set 0 { running := true, period := 4096, duty := { m := 1048576, e := 1 } }, phase := State.reset.phase.set 0 { st := .participating } }, by decide +kernel⟩

theorem test_meets_LoopsPulseRampAndShed_pulse_omitted : ∃ (i : Fin 32) (l : Fin 8) (pair vlcl : Rat) (s : State),
    (s.loopOfPhase i = some l) ∧
    ((s.phase[i]).stopping = false) ∧
    ((s.phase[i]).st = .participating) ∧
    ((s.loop[l]).running = true) ∧
    ((s.loop[l]).suppressed = false) ∧
    (s.onTime l i 4 = none) ∧
    (s.drives = true) := ⟨0, 0, 1, 1, { State.reset with net.force := [(objKey 0x2410 1, 1)], loop := State.reset.loop.set 0 { running := true, period := 4096 }, phase := State.reset.phase.set 0 { st := .participating } }, by decide +kernel⟩

theorem test_meets_LoopsPulseRampAndShed_slot_suppressed : ∃ (i : Fin 32) (l : Fin 8) (pair vlcl : Rat) (s : State),
    (s.loopOfPhase i = some l) ∧
    ((s.phase[i]).stopping = false) ∧
    ((s.phase[i]).st = .participating) ∧
    ((s.loop[l]).suppressed = true) ∧
    (s.overshootLevel l - 2 / 1000 < s.selected l pair vlcl) := ⟨0, 0, 3, 0, { State.reset with net.force := [(objKey 0x2410 1, 1)], loop := State.reset.loop.set 0 { running := true, suppressed := true }, phase := State.reset.phase.set 0 { st := .participating } }, by decide +kernel⟩

theorem test_meets_LoopsPulseRampAndShed_slot_stop : ∃ (i : Fin 32) (l : Fin 8) (pair vlcl : Rat) (s : State),
    (s.loopOfPhase i = some l) ∧
    ((s.phase[i]).stopping = true) := ⟨0, 0, 1, 1, { State.reset with net.force := [(objKey 0x2410 1, 1)], phase := State.reset.phase.set 0 { stopping := true } }, by decide +kernel⟩

theorem test_meets_LoopsPulseRampAndShed_setpoint : ∃ (w : Session) (l : Fin 8) (d : List Byte) (s : State),
    (s.admits w (0x2410 + l) 3 d = true) ∧
    ((objSetpoint l).invalid (s.touch w) d = none) ∧
    ((s.loop[l]).running = true) ∧
    ((s.loop[l]).rampStop = false) := ⟨.spi, 2, leBytes 4 0x3F800000, hostVendor { State.reset with loop := State.reset.loop.set 2 { running := true } }, by decide +kernel⟩

theorem test_meets_LoopsPulseRampAndShed_bellows : ∃ (l : Fin 8) (s : State),
    ((s.loop[l]).bellowsOn = true) ∧
    ((s.loop[l]).bellowsEnd ≤ s.now) := ⟨2, { State.reset with loop := State.reset.loop.set 2 { bellowsOn := true } }, by decide +kernel⟩

theorem test_meets_LoopsPulseRampAndShed_shed_dwell : ∃ (l : Fin 8) (i : Fin 32) (s : State),
    ((s.loop[l]).running = true) ∧
    (s.due (.shedDwell l) = true) ∧
    (((s.partPhases l).filter fun p => s.phase[p].st = .participating).getLast? = some i) := ⟨0, 3, { State.reset with net.force := [(objKey 0x2410 1, 15)], loop := State.reset.loop.set 0 { running := true }, phase := Vector.replicate 32 { st := .participating }, timers := [(.shedDwell 0, 0)] }, by decide +kernel⟩

/-! The hypotheses of LoopsProtectAndSynchronise are met. -/

theorem test_meets_LoopsProtectAndSynchronise_sense_lost : ∃ (l : Fin 8) (s : State),
    ((s.loop[l]).running = true) ∧
    ((s.loop[l]).onVlcl = false) ∧
    ((s.loop[l]).senseLost = false) ∧
    (3 ≤ (s.loop[l]).vlclRun) ∧
    ((s.loop[l]).outHigh = true) ∧
    (s.raw (0x2410 + l) 0x0A = 0) := ⟨2, { State.reset with loop := State.reset.loop.set 2 { running := true, vlclRun := 3, outHigh := true } }, by decide +kernel⟩

theorem test_meets_LoopsProtectAndSynchronise_overshoot : ∃ (l : Fin 8) (pair vlcl : Rat) (s : State),
    ((s.loop[l]).running = true) ∧
    (s.overshootLevel l < s.selected l pair vlcl) ∧
    (s.running (.limit 0x0402 l) = false) := ⟨2, 3, 0, { State.reset with loop := State.reset.loop.set 2 { running := true } }, by decide +kernel⟩

theorem test_meets_LoopsProtectAndSynchronise_overvoltage : ∃ (l : Fin 8) (s : State),
    ((s.loop[l]).suppressed = true) ∧
    (s.due (.overvoltage l) = true) ∧
    (s.railOf 1 l = none) := ⟨2, { State.reset with loop := State.reset.loop.set 2 { suppressed := true }, timers := [(.overvoltage 2, 0)] }, by decide +kernel⟩

theorem test_meets_LoopsProtectAndSynchronise_phase_open : ∃ (i : Fin 32) (l : Fin 8) (s : State),
    (s.loopOfPhase i = some l) ∧
    (s.standby = false) ∧
    ((s.phase[i]).st = .participating) ∧
    (3 ≤ (s.phase[i]).openRun) ∧
    (s.railOf 1 l = none) := ⟨0, 0, { State.reset with net.force := [(objKey 0x2410 1, 15)], phase := Vector.replicate 32 { st := .participating, openRun := 3 } }, by decide +kernel⟩

theorem test_meets_LoopsProtectAndSynchronise_imon : ∃ (i : Fin 32) (l : Fin 8) (s : State),
    (s.loopOfPhase i = some l) ∧
    (s.standby = false) ∧
    ((s.phase[i]).st = .participating) ∧
    (100 ≤ (s.phase[i]).implRun) ∧
    ((List.finRange 32).find? (fun q : Fin 32 => s.inMask l q ∧ s.phase[q].st = .blind) = none) := ⟨0, 0, { State.reset with net.force := [(objKey 0x2410 1, 15)], phase := Vector.replicate 32 { st := .participating, implRun := 100 } }, by decide +kernel⟩

theorem test_meets_LoopsProtectAndSynchronise_blind : ∃ (i : Fin 32) (l : Fin 8) (s : State),
    (s.loopOfPhase i = some l) ∧
    (s.standby = false) ∧
    ((s.phase[i]).st = .blind) ∧
    (s.due (.blind i) = true) ∧
    (s.railOf 1 l = none) := ⟨0, 0, { State.reset with net.force := [(objKey 0x2410 1, 15)], phase := Vector.replicate 32 { st := .blind }, timers := [(.blind 0, 0)] }, by decide +kernel⟩

theorem test_meets_LoopsProtectAndSynchronise_sync_in : ∃ (p : Nat) (s : State),
    s.tbRuns = true := ⟨51200, State.reset, by decide +kernel⟩

theorem test_meets_LoopsProtectAndSynchronise_sync_locked : ∃ (l : Fin 8) (s : State),
    (s.syncOn l = true) ∧
    (16 ≤ (s.loop[l]).syncRun) ∧
    ((s.loop[l]).syncLocked = false) := ⟨0, { State.reset with net.force := [(objKey 0x2410 0x11, 1)], loop := State.reset.loop.set 0 { syncRun := 16 } }, by decide +kernel⟩

theorem test_meets_LoopsProtectAndSynchronise_sync_lost : ∃ (l : Fin 8) (s : State),
    (s.syncOn l = true) ∧
    ((s.loop[l]).syncLost = false) ∧
    (s.due (.syncGone l) = true) := ⟨0, { State.reset with net.force := [(objKey 0x2410 0x11, 1)], timers := [(.syncGone 0, 0)] }, by decide +kernel⟩

/-! The hypotheses of ShelfLoopProtectsAndCaps are met. -/

theorem test_meets_ShelfLoopProtectsAndCaps_loop_start : ∃ (s : State),
    (s.linkRuns = true) ∧
    (s.frameTime = 0) ∧
    (s.shelf.startPending = true) ∧
    (s.ready s.busCh = true) ∧
    ((s.lane[8]).sample = none) ∧
    ((s.lane[9]).sample = none) := ⟨{ State.reset with shelf.linkOn := true, shelf.startPending := true, net.force := [(objKey 0x2E00 4, 0)], meas.ch := Vector.replicate 48 { notReady := false } }, by decide +kernel⟩

theorem test_meets_ShelfLoopProtectsAndCaps_ff_implausible : ∃ (s : State),
    (10 ≤ s.shelf.ffRun) ∧
    (s.shelf.ffAlt = false) := ⟨{ State.reset with shelf.ffRun := 10 }, by decide +kernel⟩

theorem test_meets_ShelfLoopProtectsAndCaps_ff_restore : ∃ (s : State),
    (s.shelf.ffAlt = true) ∧
    (s.due .ffRestore = true) := ⟨{ State.reset with shelf.ffAlt := true, timers := [(.ffRestore, 0)] }, by decide +kernel⟩

theorem test_meets_ShelfLoopProtectsAndCaps_sense_lost_bus : ∃ (s : State),
    s.shelf.senseBad = 4 := ⟨{ State.reset with shelf.senseBad := 4 }, by decide +kernel⟩

theorem test_meets_ShelfLoopProtectsAndCaps_bus_ov : ∃ (s : State),
    s.due .busOv = true := ⟨{ State.reset with timers := [(.busOv, 0)] }, by decide +kernel⟩

theorem test_meets_ShelfLoopProtectsAndCaps_bus_ov_clear : ∃ (s : State),
    s.due .busOvClear = true := ⟨{ State.reset with shelf.busOv := true, timers := [(.busOvClear, 0)] }, by decide +kernel⟩

theorem test_meets_ShelfLoopProtectsAndCaps_bus_uv : ∃ (s : State),
    s.due .busUv = true := ⟨{ State.reset with timers := [(.busUv, 0)] }, by decide +kernel⟩

theorem test_meets_ShelfLoopProtectsAndCaps_bus_uv_clear : ∃ (s : State),
    s.due .busUvClear = true := ⟨{ State.reset with shelf.busUv := true, timers := [(.busUvClear, 0)] }, by decide +kernel⟩

theorem test_meets_ShelfLoopProtectsAndCaps_cap_eval : ∃ (s : State),
    (s.up = true) ∧
    (s.shelf.holdup = false) ∧
    (s.shelf.capOverride = false) ∧
    (s.shelf.capActive = false) ∧
    (s.flag 0x2E02 1 = false) ∧
    (s.due .capRestore = false) := ⟨State.reset, by decide +kernel⟩

theorem test_meets_ShelfLoopProtectsAndCaps_cap_shed : ∃ (k : Fin 16) (rest : List (Fin 16)) (s : State),
    (s.up = true) ∧
    (s.standby = false) ∧
    (s.shelf.holdup = false) ∧
    (s.shelf.capOverride = false) ∧
    (s.shelf.capActive = true) ∧
    (s.shelf.capHeld = false) ∧
    (s.seq.resetAfter = false) ∧
    (s.shelfSoc ≤ s.real 0x2E02 4) ∧
    (s.running .capDwell = false) ∧
    (s.capOrder = k :: rest) := ⟨3, [], { State.reset with shelf.capActive := true, net.force := [(objKey 0x2A10 1, 2), (objKey 0x2A10 2, 3), (objKey 0x2E05 4, 1)], seq.rail := State.reset.seq.rail.set 0 { st := .good } }, by decide +kernel⟩

theorem test_meets_ShelfLoopProtectsAndCaps_shortfall : ∃ (s : State),
    (s.due .shortfall = true) ∧
    (s.shelf.holdup = false) := ⟨{ State.reset with timers := [(.shortfall, 0)] }, by decide +kernel⟩

theorem test_meets_ShelfLoopProtectsAndCaps_holdup_ended : ∃ (s : State),
    (s.shelf.holdup = true) ∧
    (s.due .holdupQualify = true) ∧
    (s.seq.stoppingNow = none) ∧
    (s.seq.resetAfter = false) := ⟨{ State.reset with shelf.holdup := true, timers := [(.holdupQualify, 0)] }, by decide +kernel⟩

theorem test_meets_ShelfLoopProtectsAndCaps_stage_dwell : ∃ (s : State),
    (s.due (.stageDwell 0) = true) ∧
    (s.standby = false) ∧
    (s.shelf.holdup = true) ∧
    (s.stageMask 0 ≠ 0) ∧
    (∀ k : Fin 8, k ≠ 0 → s.stageMask k = 0) ∧
    (s.shelf.stages = 0) ∧
    (s.seqRuns = false) := ⟨{ State.reset with shelf.holdup := true, net.force := [(objKey 0x2E04 3, 1)], timers := [(.stageDwell 0, 0)] }, by decide +kernel⟩

theorem test_meets_ShelfLoopProtectsAndCaps_bus_reference : ∃ (w : Session) (d : List Byte) (s : State),
    s.admits w 0x2E00 2 d = true := ⟨.spi, leBytes 4 0xC2560000, hostVendor State.reset, by decide +kernel⟩

theorem test_meets_ShelfLoopProtectsAndCaps_site_cap : ∃ (w : Session) (d : List Byte) (s : State),
    s.admits w 0x2E02 2 d = true := ⟨.spi, leBytes 4 0x44FA0000, hostVendor State.reset, by decide +kernel⟩

theorem test_meets_ShelfLoopProtectsAndCaps_shelf_off : ∃ (w : Session) (d : List Byte) (s : State),
    s.admits w 0x2E00 0x0F d = true := ⟨.spi, [1], hostVendor State.reset, by decide +kernel⟩

/-! The hypotheses of ShareLinkTakesRepliesAndSlowMessages are met. -/

theorem test_meets_ShareLinkTakesRepliesAndSlowMessages_reply : ∃ (j : Fin 4) (p : Fin 2) (d : List Byte) (s : State),
    (s.linkRuns = true) ∧
    (s.recEnabled (s.slotRec j) = true) ∧
    (s.linkPorts.getLsbD p = true) ∧
    (s.portFor (s.slotRec j) = some p) ∧
    (s.shelf.slotOk.getLsbD j = false) ∧
    (replyOk d = true) ∧
    (leValue (d.take 1) < 4) ∧
    ((s.shelf.rects[s.slotRec j]).st = .commanded) := ⟨0, 0, [0, 0, 0, 0, 0, 0x0C, 0x11], { State.reset with net.force := [(objKey 0x2E10 2, 1)], shelf.linkOn := true, shelf.rects := State.reset.shelf.rects.set 0 { st := .commanded } }, by decide +kernel⟩

theorem test_meets_ShareLinkTakesRepliesAndSlowMessages_reply_wrong_port : ∃ (j : Fin 4) (p q : Fin 2) (d : List Byte) (s : State),
    (s.linkRuns = true) ∧
    (s.linkPorts.getLsbD p = true) ∧
    (s.portFor (s.slotRec j) = some q) ∧
    (q ≠ p) ∧
    (replyOk d = true) := ⟨0, 1, 0, [0, 0, 0, 0, 0, 0x0C, 0x11], { State.reset with net.force := [(objKey 0x2E10 1, 1), (objKey 0x2E10 2, 1)], shelf.linkOn := true }, by decide +kernel⟩

theorem test_meets_ShareLinkTakesRepliesAndSlowMessages_reply_held : ∃ (j : Fin 4) (d : List Byte) (s : State),
    (s.linkRuns = true) ∧
    (s.recEnabled (s.slotRec j) = true) ∧
    (s.linkPorts.getLsbD 1 = true) ∧
    (s.portFor (s.slotRec j) = none) ∧
    (s.shelf.slotOk.getLsbD j = false) ∧
    (s.shelf.heldCopy = none) ∧
    (replyOk d = true) := ⟨0, [0, 0, 0, 0, 0, 0x0C, 0x11], { State.reset with net.force := [(objKey 0x2E10 1, 2), (objKey 0x2E10 2, 1)], shelf.linkOn := true }, by decide +kernel⟩

theorem test_meets_ShareLinkTakesRepliesAndSlowMessages_reply_bad : ∃ (j : Fin 4) (p : Fin 2) (d : List Byte) (s : State),
    (s.linkRuns = true) ∧
    (s.recEnabled (s.slotRec j) = true) ∧
    (s.linkPorts.getLsbD p = true) ∧
    (s.portFor (s.slotRec j) = some p) ∧
    (s.shelf.slotOk.getLsbD j = false) ∧
    (replyOk d = false) := ⟨0, 0, [], { State.reset with net.force := [(objKey 0x2E10 2, 1)], shelf.linkOn := true }, by decide +kernel⟩

theorem test_meets_ShareLinkTakesRepliesAndSlowMessages_missing : ∃ (i : Fin 32) (s : State),
    (4 ≤ (s.shelf.rects[i]).missRun) ∧
    ((s.shelf.rects[i]).st = .joining ∨ (s.shelf.rects[i]).st = .commanded ∨ (s.shelf.rects[i]).st = .fallback ∨ (s.shelf.rects[i]).st = .fault) ∧
    (s.shelf.holdup = true) := ⟨3, { State.reset with shelf.holdup := true, shelf.rects := State.reset.shelf.rects.set 3 { st := .commanded, missRun := 4 } }, by decide +kernel⟩

theorem test_meets_ShareLinkTakesRepliesAndSlowMessages_corrupt : ∃ (i : Fin 32) (s : State),
    8 ≤ (s.shelf.rects[i]).corruptRun := ⟨3, { State.reset with shelf.rects := State.reset.shelf.rects.set 3 { corruptRun := 8 } }, by decide +kernel⟩

theorem test_meets_ShareLinkTakesRepliesAndSlowMessages_slow_again : ∃ (i : Fin 32) (m : SlowMsg) (s : State),
    ((s.shelf.rects[i]).slow = some m) ∧
    (m.sent = true) ∧
    (s.due (.slow i) = true) ∧
    (m.attempts < 3) := ⟨3, { sent := true }, { State.reset with shelf.rects := State.reset.shelf.rects.set 3 { slow := some { sent := true } }, timers := [(.slow 3, 0)] }, by decide +kernel⟩

theorem test_meets_ShareLinkTakesRepliesAndSlowMessages_slow_lost : ∃ (i : Fin 32) (m : SlowMsg) (s : State),
    ((s.shelf.rects[i]).slow = some m) ∧
    (m.sent = true) ∧
    (s.due (.slow i) = true) ∧
    (3 ≤ m.attempts) ∧
    ((s.shelf.rects[i]).st = .absent ∨ (s.shelf.rects[i]).st = .joining ∨ (s.shelf.rects[i]).st = .commanded ∨ (s.shelf.rects[i]).st = .fallback ∨ (s.shelf.rects[i]).st = .fault) ∧
    (s.shelf.holdup = true) := ⟨3, { sent := true, attempts := 3 }, { State.reset with shelf.holdup := true, shelf.rects := State.reset.shelf.rects.set 3 { st := .commanded, slow := some { sent := true, attempts := 3 } }, timers := [(.slow 3, 0)] }, by decide +kernel⟩

theorem test_meets_ShareLinkTakesRepliesAndSlowMessages_slow_lost_kept : ∃ (i : Fin 32) (m : SlowMsg) (s : State),
    ((s.shelf.rects[i]).slow = some m) ∧
    (m.sent = true) ∧
    (s.due (.slow i) = true) ∧
    (3 ≤ m.attempts) ∧
    ((s.shelf.rects[i]).st = .disabled ∨ (s.shelf.rects[i]).st = .excluded ∨ (s.shelf.rects[i]).st = .notTracking) := ⟨3, { sent := true, attempts := 3 }, { State.reset with shelf.rects := State.reset.shelf.rects.set 3 { st := .notTracking, slow := some { sent := true, attempts := 3 } }, timers := [(.slow 3, 0)] }, by decide +kernel⟩

theorem test_meets_ShareLinkTakesRepliesAndSlowMessages_not_tracking : ∃ (i : Fin 32) (s : State),
    ((s.shelf.rects[i]).st = .commanded) ∧
    (s.due (.notTracking i) = true) := ⟨3, { State.reset with shelf.rects := State.reset.shelf.rects.set 3 { st := .commanded }, timers := [(.notTracking 3, 0)] }, by decide +kernel⟩

theorem test_meets_ShareLinkTakesRepliesAndSlowMessages_readback : ∃ (p : Fin 2) (s : State),
    (s.linkRuns = true) ∧
    (s.drives = true) := ⟨1, { State.reset with shelf.linkOn := true }, by decide +kernel⟩

theorem test_meets_ShareLinkTakesRepliesAndSlowMessages_tx_fault : ∃ (p : Fin 2) (s : State),
    s.shelf.readbackRun[p] = 3 := ⟨1, { State.reset with shelf.readbackRun := Vector.replicate 2 3 }, by decide +kernel⟩

theorem test_meets_ShareLinkTakesRepliesAndSlowMessages_slow_read : ∃ (w : Session) (s : State),
    (s.admits w 0x2E41 4 [1] = true) ∧
    (s.shelf.slowState ≠ 1) := ⟨.spi, hostVendor State.reset, by decide +kernel⟩

theorem test_meets_ShareLinkTakesRepliesAndSlowMessages_slow_write : ∃ (w : Session) (s : State),
    (s.admits w 0x2E41 4 [2] = true) ∧
    (s.shelf.slowState ≠ 1) ∧
    ((s.shelf.rects[(Fin.ofNat 32 (s.raw 0x2E41 1))]).st ≠ .commanded ∨ s.raw 0x2E41 2 < 0x20 ∨ 0x25 < s.raw 0x2E41 2) := ⟨.spi, hostVendor State.reset, by decide +kernel⟩

/-! The hypotheses of BranchesStartTripAndRetry are met. -/

theorem test_meets_BranchesStartTripAndRetry_evaluation : ∃ (gpio : BitVec 24) (limit breaker : BitVec 16) (s : State),
    (s.distRuns = true) ∧
    (∀ k : Fin 16, s.real (0x2610 + k) 8 = 0) := ⟨1, 0, 0, { State.reset with dist.committed := true, net.force := (List.range 16).map fun k => (objKey (0x2610 + k) 8, 0) }, by decide +kernel⟩

theorem test_meets_BranchesStartTripAndRetry_debounce : ∃ (k : Fin 16) (s : State),
    ((s.dist.br[k]).st = .waitPresent) ∧
    (s.due (.brDebounce k) = true) ∧
    ((s.dist.br[k]).removed = false) ∧
    (s.pins.vgdUv = false) ∧
    ((s.dist.br[k]).limit = false) := ⟨3, { State.reset with pins.vgdUv := false, dist.br := State.reset.dist.br.set 3 { st := .waitPresent }, timers := [(.brDebounce 3, 0)] }, by decide +kernel⟩

theorem test_meets_BranchesStartTripAndRetry_debounce_uv : ∃ (k : Fin 16) (s : State),
    ((s.dist.br[k]).st = .waitPresent) ∧
    (s.due (.brDebounce k) = true) ∧
    ((s.dist.br[k]).removed = false) ∧
    (s.pins.vgdUv = true) := ⟨3, { State.reset with pins.vgdUv := true, dist.br := State.reset.dist.br.set 3 { st := .waitPresent }, timers := [(.brDebounce 3, 0)] }, by decide +kernel⟩

theorem test_meets_BranchesStartTripAndRetry_settled : ∃ (k : Fin 16) (s : State),
    ((s.dist.br[k]).st = .inrush) ∧
    (s.due (.brSettle k) = true) ∧
    ((s.dist.br[k]).limit = false) := ⟨3, { State.reset with dist.br := State.reset.dist.br.set 3 { st := .inrush }, timers := [(.brSettle 3, 0)] }, by decide +kernel⟩

theorem test_meets_BranchesStartTripAndRetry_settled_limit : ∃ (k : Fin 16) (s : State),
    ((s.dist.br[k]).st = .inrush) ∧
    (s.due (.brSettle k) = true) ∧
    ((s.dist.br[k]).limit = true) := ⟨3, { State.reset with dist.br := State.reset.dist.br.set 3 { st := .inrush, limit := true, faultSince := some 0 }, timers := [(.brSettle 3, 0)] }, by decide +kernel⟩

theorem test_meets_BranchesStartTripAndRetry_inrush_timeout : ∃ (k : Fin 16) (s : State),
    ((s.dist.br[k]).st = .inrush) ∧
    (s.due (.brInrush k) = true) ∧
    ((s.dist.br[k]).retries < s.raw (0x2610 + k) 9) := ⟨3, { State.reset with net.force := [(objKey 0x2613 9, 3)], dist.br := State.reset.dist.br.set 3 { st := .inrush }, timers := [(.brInrush 3, 0)] }, by decide +kernel⟩

theorem test_meets_BranchesStartTripAndRetry_limit_assert : ∃ (k : Fin 16) (s : State),
    (s.brNamed k = true) ∧
    ((s.dist.br[k]).st = .on) := ⟨3, { State.reset with net.force := [(objKey 0x2A10 1, 2), (objKey 0x2A10 2, 3)], dist.br := State.reset.dist.br.set 3 { st := .on } }, by decide +kernel⟩

theorem test_meets_BranchesStartTripAndRetry_limit_release : ∃ (k : Fin 16) (s : State),
    (s.due (.brLimitOut k) = true) ∧
    ((s.dist.br[k]).st = .limit) ∧
    ((s.dist.br[k]).limit = false) := ⟨3, { State.reset with dist.br := State.reset.dist.br.set 3 { st := .limit }, timers := [(.brLimitOut 3, 0)] }, by decide +kernel⟩

theorem test_meets_BranchesStartTripAndRetry_fault_timer : ∃ (k : Fin 16) (s : State),
    ((s.dist.br[k]).st = .limit) ∧
    (s.due (.brFault k) = true) ∧
    ((s.dist.br[k]).retries < s.raw (0x2610 + k) 9) := ⟨3, { State.reset with net.force := [(objKey 0x2613 9, 3)], dist.br := State.reset.dist.br.set 3 { st := .limit }, timers := [(.brFault 3, 0)] }, by decide +kernel⟩

theorem test_meets_BranchesStartTripAndRetry_breaker : ∃ (k : Fin 16) (s : State),
    (s.brNamed k = true) ∧
    ((s.dist.br[k]).st = .on) ∧
    (s.standby = false) ∧
    ((s.dist.br[k]).retries < s.raw (0x2610 + k) 9) ∧
    (s.dist.quench.getLsbD k = false) ∧
    (∀ l : Fin 8, bit (s.raw 0x2650 (k + 1)) (24 + l) = false) := ⟨3, { State.reset with net.force := [(objKey 0x2613 9, 3), (objKey 0x2650 4, 1), (objKey 0x2A10 1, 2), (objKey 0x2A10 2, 3)], dist.br := State.reset.dist.br.set 3 { st := .on } }, by decide +kernel⟩

theorem test_meets_BranchesStartTripAndRetry_trip_sink : ∃ (g : Fin 24) (s : State),
    (s.due (.brSink g) = true) ∧
    (s.pins.gate[g] = .fastSink) := ⟨3, { State.reset with pins.gate := Vector.replicate 24 .fastSink, timers := [(.brSink 3, 0)] }, by decide +kernel⟩

theorem test_meets_BranchesStartTripAndRetry_min_off : ∃ (k : Fin 16) (s : State),
    ((s.dist.br[k]).st = .stopping) ∧
    (s.due (.brMinOff k) = true) ∧
    ((s.dist.br[k]).cmd = false) ∧
    (s.pins.adopted = 0) := ⟨3, { State.reset with dist.br := State.reset.dist.br.set 3 { st := .stopping }, timers := [(.brMinOff 3, 0)] }, by decide +kernel⟩

theorem test_meets_BranchesStartTripAndRetry_retry_end : ∃ (k : Fin 16) (s : State),
    ((s.dist.br[k]).st = .retryWait) ∧
    (s.due (.brRetry k) = true) ∧
    (s.brOnReq k = true) ∧
    (23 < s.raw (0x2610 + k) 0x0C) ∧
    (s.pins.vgdUv = false) := ⟨3, { State.reset with pins.vgdUv := false, net.force := [(objKey 0x2613 0x0C, 255), (objKey 0x2613 0x0F, 255)], dist.br := State.reset.dist.br.set 3 { st := .retryWait, cmd := true }, timers := [(.brRetry 3, 0)] }, by decide +kernel⟩

theorem test_meets_BranchesStartTripAndRetry_retries_cleared : ∃ (k : Fin 16) (s : State),
    ((s.dist.br[k]).st = .on) ∧
    (s.due (.brOn60 k) = true) := ⟨3, { State.reset with dist.br := State.reset.dist.br.set 3 { st := .on }, timers := [(.brOn60 3, 0)] }, by decide +kernel⟩

/-! The hypotheses of FetShortsGateSupplyAndFeedsAct are met. -/

theorem test_meets_FetShortsGateSupplyAndFeedsAct_fet_short : ∃ (k : Fin 16) (s : State),
    (s.due (.brShort k) = true) ∧
    (s.brShort k = true) := ⟨3, { State.reset with now := 1000000000000, dist.br := State.reset.dist.br.set 3 { st := .off }, net.force := [(objKey 0x2613 0x11, 0), (objKey 0x2613 0x12, 0)], timers := [(.brShort 3, 0)] }, by decide +kernel⟩

theorem test_meets_FetShortsGateSupplyAndFeedsAct_clear_fet : ∃ (w : Session) (d : List Byte) (k : Fin 16) (s : State),
    (s.admits w 0x2600 2 d = true) ∧
    (leValue d = k) ∧
    ((s.dist.br[k]).st = .fetShort) ∧
    (s.brShort k = false) := ⟨.spi, [3], 3, hostVendor { State.reset with dist.br := State.reset.dist.br.set 3 { st := .fetShort } }, by decide +kernel⟩

theorem test_meets_FetShortsGateSupplyAndFeedsAct_gate_uv : ∃ (s : State),
    s.pins.vgdUv = false := ⟨{ State.reset with pins.vgdUv := false }, by decide +kernel⟩

theorem test_meets_FetShortsGateSupplyAndFeedsAct_gate_recover : ∃ (s : State),
    s.pins.vgdUv = true := ⟨{ State.reset with pins.vgdUv := true }, by decide +kernel⟩

theorem test_meets_FetShortsGateSupplyAndFeedsAct_feed_qualified : ∃ (p : Fin 2) (b : Bool) (s : State),
    (s.due (.feedQual p b) = true) ∧
    ((s.dist.feed[p]).phase ≠ .waiting) ∧
    ((s.dist.feed[p]).lost = false) := ⟨1, true, { State.reset with timers := [(.feedQual 1 true, 0)] }, by decide +kernel⟩

theorem test_meets_FetShortsGateSupplyAndFeedsAct_feed_loss : ∃ (p : Fin 2) (b : Bool) (s : State),
    ((s.dist.feed[p]).sel = some b) ∧
    ((s.dist.feed[p]).lost = false) ∧
    (s.raw (0x2630 + p) 4 ≤ (s.dist.feed[p]).lossRun) ∧
    (s.distRuns = true) ∧
    (s.feedQual p (!b) = true) := ⟨1, true, { State.reset with dist.committed := true, dist.feed := State.reset.dist.feed.set 1 { sel := some true, lossRun := 255, qual := #v[true, true] } }, by decide +kernel⟩

theorem test_meets_FetShortsGateSupplyAndFeedsAct_feed_loss_none : ∃ (p : Fin 2) (b : Bool) (s : State),
    ((s.dist.feed[p]).sel = some b) ∧
    ((s.dist.feed[p]).lost = false) ∧
    (s.raw (0x2630 + p) 4 ≤ (s.dist.feed[p]).lossRun) ∧
    (s.distRuns = true) ∧
    (s.feedQual p (!b) = false) := ⟨1, true, { State.reset with dist.committed := true, dist.feed := State.reset.dist.feed.set 1 { sel := some true, lossRun := 255 } }, by decide +kernel⟩

theorem test_meets_FetShortsGateSupplyAndFeedsAct_dead_time : ∃ (p : Fin 2) (b : Bool) (s : State),
    (s.due (.feedDead p) = true) ∧
    ((s.dist.feed[p]).next = some b) ∧
    (s.feedMay p = true) ∧
    (s.feedQual p b = true) ∧
    (s.feedOn p (!b) = false) ∧
    (s.pins.gate[(fdGate p (!b))] ≠ .fastSink) ∧
    (s.pins.gate[(fdGate p b)] ≠ .fastSink) ∧
    (s.feedFreeAt p b ≤ s.now) := ⟨1, true, { State.reset with now := 1000000000, pins.vgdUv := false, pins.gate := Vector.replicate 24 .normalSink, dist.feed := State.reset.dist.feed.set 1 { cmd := true, next := some true, qual := Vector.replicate 2 true }, timers := [(.feedDead 1, 0)] }, by decide +kernel⟩

theorem test_meets_FetShortsGateSupplyAndFeedsAct_revert : ∃ (p : Fin 2) (s : State),
    (s.due (.feedRevert p) = true) ∧
    ((s.dist.feed[p]).sel = some (!(s.feedPref p))) ∧
    (s.feedQual p (s.feedPref p) = true) ∧
    (s.distRuns = true) := ⟨1, { State.reset with dist.committed := true, dist.feed := State.reset.dist.feed.set 1 { sel := some true, qual := Vector.replicate 2 true }, timers := [(.feedRevert 1, 0)] }, by decide +kernel⟩

/-! The hypotheses of QuenchLatchesSetAndRelease are met. -/

theorem test_meets_QuenchLatchesSetAndRelease_quench_in : ∃ (s : State),
    (s.dist.quenchOut = false) ∧
    (s.dist.quenchIgnore = false) ∧
    (s.dist.quench.getLsbD 16 = false) ∧
    (s.seq.resetAfter = false) ∧
    (∀ r : Fin 32, s.raw (0x2A10 + r) 0x0A ≠ 3) := ⟨{ State.reset with net.force := [(objKey 0x2650 17, 1)] }, by decide +kernel⟩

theorem test_meets_QuenchLatchesSetAndRelease_software_quench : ∃ (w : Session) (d : List Byte) (s : State),
    (s.admits w 0x2600 3 d = true) ∧
    (s.dist.quench.getLsbD 17 = false) ∧
    (s.seq.resetAfter = false) ∧
    (∀ r : Fin 32, s.raw (0x2A10 + r) 0x0A ≠ 3) := ⟨.spi, [1], hostVendor { State.reset with net.force := [(objKey 0x2650 18, 1)] }, by decide +kernel⟩

theorem test_meets_QuenchLatchesSetAndRelease_quench_release : ∃ (w : Session) (d : List Byte) (q : Fin 18) (s : State),
    (s.admits w 0x2600 4 d = true) ∧
    (quenchSource d = some q) ∧
    (s.quenchAsserted q = false) ∧
    (s.dist.quench.getLsbD q = true) := ⟨.spi, [18], 17, hostVendor { State.reset with dist.quench := 0x20000 }, by decide +kernel⟩

theorem test_meets_QuenchLatchesSetAndRelease_quench_auto : ∃ (q : Fin 18) (s : State),
    (s.due (.quenchRelease q) = true) ∧
    (s.quenchAsserted q = false) ∧
    (s.dist.quench.getLsbD q = true) := ⟨17, { State.reset with dist.quench := 0x20000, timers := [(.quenchRelease 17, 0)] }, by decide +kernel⟩

theorem test_meets_QuenchLatchesSetAndRelease_rearm : ∃ (s : State),
    (s.due .quenchIgnore = true) ∧
    (s.dist.quenchIn = false) := ⟨{ State.reset with dist.quenchIgnore := true, timers := [(.quenchIgnore, 0)] }, by decide +kernel⟩

/-! The hypotheses of StringsCountAnchorAndDisconnect are met. -/

theorem test_meets_StringsCountAnchorAndDisconnect_count : ∃ (acc : Vector Rat 4) (n : Fin 4) (s : State),
    (s.up = true) ∧
    (s.meas.refFail = false) ∧
    (s.strEnabled n = true) ∧
    ((s.bat.str[n]).stoppedAt = none) ∧
    ((s.bat.str[n]).relatch = false) ∧
    (s.blkHeld 1 = false) := ⟨Vector.replicate 4 100, 1, { State.reset with net.force := [(objKey 0x2811 1, 1)], bat.str := State.reset.bat.str.map fun x => { x with relatch := false } }, by decide +kernel⟩

theorem test_meets_StringsCountAnchorAndDisconnect_empty_anchor : ∃ (n : Fin 4) (s : State),
    (s.due (.strEmpty n) = true) ∧
    (s.strEnabled n = true) ∧
    ((s.bat.str[n]).cycleOpen = false) := ⟨1, { State.reset with net.force := [(objKey 0x2811 1, 1)], bat.str := State.reset.bat.str.set 1 { q := 5, c := 100 }, timers := [(.strEmpty 1, 0)] }, by decide +kernel⟩

theorem test_meets_StringsCountAnchorAndDisconnect_full_anchor : ∃ (n : Fin 4) (s : State),
    (s.due (.strFull n) = true) ∧
    (s.strEnabled n = true) := ⟨1, { State.reset with net.force := [(objKey 0x2811 1, 1)], bat.str := State.reset.bat.str.set 1 { q := 95, c := 100 }, timers := [(.strFull 1, 0)] }, by decide +kernel⟩

theorem test_meets_StringsCountAnchorAndDisconnect_capacity_reset : ∃ (w : Session) (n : Fin 4) (d : List Byte) (s : State),
    (s.admits w (0x2810 + n) 0x0F d = true) ∧
    ((s.bat.str[n]).cycleOpen = false) := ⟨.spi, 1, leBytes 4 0x65736572, hostVendor State.reset, by decide +kernel⟩

theorem test_meets_StringsCountAnchorAndDisconnect_lvd_open : ∃ (n : Fin 4) (s : State),
    s.due (.lvd n) = true := ⟨1, { State.reset with bat.str := State.reset.bat.str.set 1 { q := 95, c := 100, v := -43 }, timers := [(.lvd 1, 0)] }, by decide +kernel⟩

theorem test_meets_StringsCountAnchorAndDisconnect_lvd_reconnect : ∃ (n : Fin 4) (s : State),
    s.due (.reconnect n) = true := ⟨1, { State.reset with bat.str := State.reset.bat.str.set 1 { lvd := true }, timers := [(.reconnect 1, 0)] }, by decide +kernel⟩

theorem test_meets_StringsCountAnchorAndDisconnect_blocked : ∃ (n : Fin 4) (s : State),
    s.due (.blocked n) = true := ⟨1, { State.reset with timers := [(.blocked 1, 0)] }, by decide +kernel⟩

theorem test_meets_StringsCountAnchorAndDisconnect_clear_latch : ∃ (w : Session) (d : List Byte) (n : Fin 4) (s : State),
    (s.admits w 0x2800 5 d = true) ∧
    (leValue d = n) ∧
    (s.dist.str[n] = .latched) := ⟨.spi, [2], 2, hostVendor { State.reset with dist.str := Vector.replicate 4 .latched }, by decide +kernel⟩

theorem test_meets_StringsCountAnchorAndDisconnect_periodic : ∃ (s : State),
    (s.due .learned = true) ∧
    (s.pins.brownWarn = false) ∧
    (s.bat.writing = none) := ⟨{ State.reset with timers := [(.learned, 0)] }, by decide +kernel⟩

theorem test_meets_StringsCountAnchorAndDisconnect_write_done : ∃ (i : Fin 2) (x : LearnedCopy) (s : State),
    (s.bat.writing = some i) ∧
    (s.bat.writeData = some x) ∧
    (s.bat.deferred = false) := ⟨1, { seq := 7 }, { State.reset with bat.writing := some 1, bat.writeData := some { seq := 7 } }, by decide +kernel⟩

/-! The hypotheses of RailsStartStopAndFault are met. -/

theorem test_meets_RailsStartStopAndFault_evaluation_start : ∃ (r : Fin 32) (s : State),
    (s.seqRuns = true) ∧
    (s.cfg.railKind r ≠ 0) ∧
    ((s.seq.rail[r]).st = .off) ∧
    (s.wanted r = true) ∧
    (s.seq.resetAfter = false) := ⟨5, { State.reset with seq.committed := true, seq.sysOn := true, seq.rail := State.reset.seq.rail.set 5 { cmd := true }, net.force := [(objKey 0x2A15 1, 5), (objKey 0x2A15 2, 1)] }, by decide +kernel⟩

theorem test_meets_RailsStartStopAndFault_start_delay : ∃ (r : Fin 32) (s : State),
    (s.seqRuns = true) ∧
    ((s.seq.rail[r]).st = .startDelay) ∧
    (s.due (.railStart r) = true) ∧
    (s.depsOk r = true) := ⟨5, { State.reset with seq.committed := true, seq.sysOn := true, seq.rail := State.reset.seq.rail.set 5 { cmd := true, st := .startDelay }, net.force := [(objKey 0x2A15 1, 5), (objKey 0x2A15 2, 1)], timers := [(.railStart 5, 0)] }, by decide +kernel⟩

theorem test_meets_RailsStartStopAndFault_pg_delay : ∃ (r : Fin 32) (s : State),
    (s.seqRuns = true) ∧
    ((s.seq.rail[r]).st = .pgDelay) ∧
    (s.due (.railPg r) = true) ∧
    (s.railWindow r false = true) := ⟨5, { State.reset with seq.committed := true, pins.gpioDir := 2, pins.gpioOut := 2, seq.rail := State.reset.seq.rail.set 5 { cmd := true, st := .pgDelay }, net.force := [(objKey 0x2A15 1, 5), (objKey 0x2A15 2, 1), (objKey 0x2A15 0x13, 255), (objKey 0x2A15 0x14, 1)], timers := [(.railPg 5, 0)] }, by decide +kernel⟩

theorem test_meets_RailsStartStopAndFault_start_timeout_optional : ∃ (r : Fin 32) (s : State),
    (s.seqRuns = true) ∧
    ((s.seq.rail[r]).st = .starting) ∧
    (s.due (.railTimeout r) = true) ∧
    (s.flag (0x2A10 + r) 0x0E = true) ∧
    (s.evr.staging.length < 15) := ⟨5, { State.reset with seq.committed := true, seq.rail := State.reset.seq.rail.set 5 { cmd := true, st := .starting }, net.force := [(objKey 0x2A15 0x0E, 1)], timers := [(.railTimeout 5, 0)] }, by decide +kernel⟩

theorem test_meets_RailsStartStopAndFault_start_timeout : ∃ (r : Fin 32) (s : State),
    (s.seqRuns = true) ∧
    ((s.seq.rail[r]).st = .starting) ∧
    (s.due (.railTimeout r) = true) ∧
    (s.flag (0x2A10 + r) 0x0E = false) ∧
    (s.seq.stoppingNow = none) := ⟨5, { State.reset with seq.committed := true, seq.rail := State.reset.seq.rail.set 5 { cmd := true, st := .starting }, timers := [(.railTimeout 5, 0)] }, by decide +kernel⟩

theorem test_meets_RailsStartStopAndFault_rail_fault : ∃ (r : Fin 32) (s : State),
    (s.seqRuns = true) ∧
    ((s.seq.rail[r]).st = .outOfWindow) ∧
    (s.due (.railFault r) = true) ∧
    (s.raw (0x2A10 + r) 0x0A = 1) ∧
    ((s.seq.rail[r]).retries < s.raw (0x2A10 + r) 0x0B) := ⟨5, { State.reset with seq.committed := true, seq.rail := State.reset.seq.rail.set 5 { cmd := true, st := .outOfWindow }, net.force := [(objKey 0x2A15 1, 5), (objKey 0x2A15 2, 1), (objKey 0x2A15 0x0A, 1), (objKey 0x2A15 0x0B, 3)], timers := [(.railFault 5, 0)] }, by decide +kernel⟩

theorem test_meets_RailsStartStopAndFault_off_complete : ∃ (r : Fin 32) (s : State),
    (s.seqRuns = true) ∧
    ((s.seq.rail[r]).st = .stopping) ∧
    (s.pathDone r false = true) ∧
    (s.seq.stoppingNow ≠ some r) ∧
    (s.seq.resetAfter = false) := ⟨5, { State.reset with seq.committed := true, seq.rail := State.reset.seq.rail.set 5 { st := .stopping } }, by decide +kernel⟩

theorem test_meets_RailsStartStopAndFault_discharge_timeout : ∃ (r : Fin 32) (s : State),
    (s.seqRuns = true) ∧
    ((s.seq.rail[r]).st = .stopping) ∧
    (s.due (.railDischarge r) = true) ∧
    (s.seq.stoppingNow ≠ some r) ∧
    (s.seq.resetAfter = false) := ⟨5, { State.reset with seq.committed := true, seq.rail := State.reset.seq.rail.set 5 { st := .stopping }, timers := [(.railDischarge 5, 0)] }, by decide +kernel⟩

theorem test_meets_RailsStartStopAndFault_min_off : ∃ (r : Fin 32) (s : State),
    (s.seqRuns = true) ∧
    ((s.seq.rail[r]).st = .minOff) ∧
    (s.minOffOver r = true) ∧
    (s.seq.resetAfter = false) ∧
    (((s.seq.rail[r]).why ≠ .retry ∧ (s.seq.rail[r]).why ≠ .latch) ∨ s.commanded r = false) := ⟨5, { State.reset with seq.committed := true, seq.sysOn := true, seq.rail := State.reset.seq.rail.set 5 { cmd := true, st := .minOff, why := .command }, timers := [(.railMinOff 5, 0)] }, by decide +kernel⟩

theorem test_meets_RailsStartStopAndFault_min_off_retry : ∃ (r : Fin 32) (s : State),
    (s.seqRuns = true) ∧
    ((s.seq.rail[r]).st = .minOff) ∧
    (s.minOffOver r = true) ∧
    (s.seq.resetAfter = false) ∧
    (s.commanded r = true) ∧
    ((s.seq.rail[r]).why = .retry) := ⟨5, { State.reset with seq.committed := true, seq.sysOn := true, seq.rail := State.reset.seq.rail.set 5 { cmd := true, st := .minOff, why := .retry }, timers := [(.railMinOff 5, 0)] }, by decide +kernel⟩

theorem test_meets_RailsStartStopAndFault_min_off_latch : ∃ (r : Fin 32) (s : State),
    (s.seqRuns = true) ∧
    ((s.seq.rail[r]).st = .minOff) ∧
    (s.minOffOver r = true) ∧
    (s.seq.resetAfter = false) ∧
    (s.commanded r = true) ∧
    ((s.seq.rail[r]).why = .latch) := ⟨5, { State.reset with seq.committed := true, seq.sysOn := true, seq.rail := State.reset.seq.rail.set 5 { cmd := true, st := .minOff, why := .latch }, timers := [(.railMinOff 5, 0)] }, by decide +kernel⟩

theorem test_meets_RailsStartStopAndFault_retry_end_rail : ∃ (r : Fin 32) (s : State),
    (s.seqRuns = true) ∧
    ((s.seq.rail[r]).st = .retryWait) ∧
    (s.due (.railRetry r) = true) := ⟨5, { State.reset with seq.committed := true, seq.rail := State.reset.seq.rail.set 5 { cmd := true, st := .retryWait }, timers := [(.railRetry 5, 0)] }, by decide +kernel⟩

theorem test_meets_RailsStartStopAndFault_retries_cleared_rail : ∃ (r : Fin 32) (s : State),
    ((s.seq.rail[r]).st = .good) ∧
    (s.due (.railGood r) = true) := ⟨5, { State.reset with seq.rail := State.reset.seq.rail.set 5 { st := .good, retries := 2 }, timers := [(.railGood 5, 0)] }, by decide +kernel⟩

theorem test_meets_RailsStartStopAndFault_off_delay : ∃ (r : Fin 32) (s : State),
    (s.seqRuns = true) ∧
    (s.seq.stoppingNow = some r) ∧
    (s.due (.railOffDelay r) = true) ∧
    (railStarted (s.seq.rail[r]).st = true) := ⟨5, { State.reset with seq.committed := true, seq.stoppingNow := some 5, seq.rail := State.reset.seq.rail.set 5 { st := .good, pg := true }, timers := [(.railOffDelay 5, 0)] }, by decide +kernel⟩

/-! The hypotheses of SystemRailAndGroupCommandsAct are met. -/

theorem test_meets_SystemRailAndGroupCommandsAct_input_loss : ∃ (r : Fin 32) (s : State),
    (s.seqRuns = true) ∧
    (s.shelf.holdup = true) ∧
    (s.due .inputLoss = true) ∧
    (bit (s.raw 0x2A00 5) r = true) ∧
    (s.cfg.railKind r ≠ 0) ∧
    (s.commanded r = true) ∧
    (s.seq.resetAfter = false) := ⟨5, { State.reset with seq.committed := true, seq.sysOn := true, shelf.holdup := true, seq.rail := State.reset.seq.rail.set 5 { cmd := true, st := .good, pg := true }, net.force := [(objKey 0x2A00 5, 32), (objKey 0x2A15 1, 5), (objKey 0x2A15 2, 1)], timers := [(.inputLoss, 0)] }, by decide +kernel⟩

theorem test_meets_SystemRailAndGroupCommandsAct_system_on : ∃ (w : Session) (d : List Byte) (s : State),
    (s.admits w 0x2A00 1 d = true) ∧
    (leValue d = 1) ∧
    (s.thm.lockout = false) ∧
    (s.rst.protective = false) ∧
    (s.seq.sysOn = false) ∧
    (s.seq.st ≠ .latched) ∧
    (s.pathsDone = true) ∧
    ((List.finRange 32).all (fun r => (s.seq.rail[r]).st ≠ .minOff) = true) := ⟨.spi, [1], hostVendor State.reset, by decide +kernel⟩

theorem test_meets_SystemRailAndGroupCommandsAct_system_off : ∃ (w : Session) (d : List Byte) (s : State),
    (s.admits w 0x2A00 1 d = true) ∧
    (leValue d = 0) ∧
    (∀ r : Fin 32, (s.seq.rail[r]).st = .off) ∧
    (s.seq.queue = []) ∧
    (s.seq.stoppingNow = none) ∧
    (s.seq.resetAfter = false) ∧
    (s.seq.latchAfter = false) ∧
    (s.seqState ≠ .poweringUp) := ⟨.spi, [0], hostVendor { State.reset with seq.sysOn := true }, by decide +kernel⟩

theorem test_meets_SystemRailAndGroupCommandsAct_rail_command : ∃ (w : Session) (r : Fin 32) (d : List Byte) (s : State),
    (s.admits w (0x2A10 + r) 0x15 d = true) ∧
    (leValue d = 1) ∧
    (s.seq.resetAfter = false) ∧
    (s.seqState ≠ .poweringUp) := ⟨.spi, 5, [1], hostVendor { State.reset with seq.sysOn := true, seq.rail := State.reset.seq.rail.set 5 { cmd := false, st := .good } }, by decide +kernel⟩

theorem test_meets_SystemRailAndGroupCommandsAct_rail_command_off : ∃ (w : Session) (r : Fin 32) (d : List Byte) (s : State),
    (s.admits w (0x2A10 + r) 0x15 d = true) ∧
    (leValue d = 0) ∧
    (railStarted (s.seq.rail[r]).st = true) ∧
    (s.seq.resetAfter = false) ∧
    (s.seqState ≠ .poweringUp) := ⟨.spi, 5, [0], hostVendor { State.reset with seq.sysOn := true, seq.rail := State.reset.seq.rail.set 5 { cmd := true, st := .good } }, by decide +kernel⟩

theorem test_meets_SystemRailAndGroupCommandsAct_group_command : ∃ (w : Session) (g : Fin 8) (d : List Byte) (s : State),
    (s.admits w 0x2A01 (g + 1) d = true) ∧
    (leValue d = 1) ∧
    (s.seq.groupCmd.getLsbD g = false) := ⟨.spi, 3, [1], hostVendor { State.reset with seq.groupCmd := 0, seq.groupsDown := 8 }, by decide +kernel⟩

theorem test_meets_SystemRailAndGroupCommandsAct_group_command_off : ∃ (w : Session) (g : Fin 8) (d : List Byte) (s : State),
    (s.admits w 0x2A01 (g + 1) d = true) ∧
    (leValue d = 0) := ⟨.spi, 3, [0], hostVendor { State.reset with seq.groupCmd := 8 }, by decide +kernel⟩

/-! The hypotheses of SensorsThresholdsThrottleAndShutdown are met. -/

theorem test_meets_SensorsThresholdsThrottleAndShutdown_conversion : ∃ (k : Fin 16) (x v r : Rat) (s : State),
    (s.tbOut = true) ∧
    (s.sensorOn k = true) ∧
    ((s.thm.sensor[k]).failed = false) ∧
    (s.badness k (s.reading k x) v r = 0) := ⟨2, 60, 0, 0, State.reset, by decide +kernel⟩

theorem test_meets_SensorsThresholdsThrottleAndShutdown_conversion_bad : ∃ (k : Fin 16) (x v r : Rat) (s : State),
    (s.tbOut = true) ∧
    (s.sensorOn k = true) ∧
    ((s.thm.sensor[k]).failed = false) ∧
    (usable k (s.badness k (s.reading k x) v r) = false) := ⟨2, 200, 0, 0, State.reset, by decide +kernel⟩

theorem test_meets_SensorsThresholdsThrottleAndShutdown_slow : ∃ (k : Fin 16) (s : State),
    s.due (.sensorSlow k) = true := ⟨2, { State.reset with timers := [(.sensorSlow 2, 0)] }, by decide +kernel⟩

theorem test_meets_SensorsThresholdsThrottleAndShutdown_warning : ∃ (k : Fin 16) (s : State),
    (s.threshOn k 0 = true) ∧
    (2 ≤ (s.thm.sensor[k]).warn.above) ∧
    ((s.thm.sensor[k]).warn.on = false) ∧
    ((s.thm.sensor[k]).failed = false) ∧
    (s.shutsDown k = false) := ⟨2, { State.reset with net.force := [(objKey 0x2C12 7, 7)], thm.sensor := State.reset.thm.sensor.set 2 { warn := { above := 2 } } }, by decide +kernel⟩

theorem test_meets_SensorsThresholdsThrottleAndShutdown_throttle_active : ∃ (k : Fin 16) (s : State),
    (s.threshOn k 1 = true) ∧
    (2 ≤ (s.thm.sensor[k]).thr.above) ∧
    ((s.thm.sensor[k]).thr.on = false) ∧
    ((s.thm.sensor[k]).failed = false) ∧
    (s.shutsDown k = false) := ⟨2, { State.reset with net.force := [(objKey 0x2C12 7, 7), (objKey 0x2C40 1, 4)], thm.sensor := State.reset.thm.sensor.set 2 { thr := { above := 2 } } }, by decide +kernel⟩

theorem test_meets_SensorsThresholdsThrottleAndShutdown_shutdown : ∃ (k : Fin 16) (s : State),
    (s.shutsDown k = true) ∧
    (s.releasing = false) ∧
    (s.pins.twinPar = false) ∧
    (s.rst.supplyOk = true) := ⟨2, { State.reset with net.force := [(objKey 0x2C12 7, 7)], thm.sensor := State.reset.thm.sensor.set 2 { shut := { above := 2 } } }, by decide +kernel⟩

theorem test_meets_SensorsThresholdsThrottleAndShutdown_clear_warning : ∃ (k : Fin 16) (s : State),
    ((s.thm.sensor[k]).warn.on = true) ∧
    (2 ≤ (s.thm.sensor[k]).warn.below) ∧
    ((s.thm.sensor[k]).failed = false) := ⟨2, { State.reset with thm.sensor := State.reset.thm.sensor.set 2 { warn := { on := true, below := 2 } } }, by decide +kernel⟩

theorem test_meets_SensorsThresholdsThrottleAndShutdown_clear_throttle : ∃ (k : Fin 16) (s : State),
    ((s.thm.sensor[k]).thr.on = true) ∧
    (2 ≤ (s.thm.sensor[k]).thr.below) ∧
    ((s.thm.sensor[k]).failed = false) := ⟨2, { State.reset with net.force := [(objKey 0x2C40 1, 4)], thm.f := State.reset.thm.f.set 0 (1/2), thm.sensor := State.reset.thm.sensor.set 2 { thr := { on := true, below := 2 } } }, by decide +kernel⟩

theorem test_meets_SensorsThresholdsThrottleAndShutdown_clear_shutdown : ∃ (k : Fin 16) (s : State),
    (s.thm.lockSensors = BitVec.ofNat 16 (2 ^ k.val)) ∧
    (2 ≤ (s.thm.sensor[k]).shut.below) ∧
    ((s.thm.sensor[k]).failed = false) := ⟨2, { State.reset with net.force := [(objKey 0x2A00 2, 1)], seq.committed := true, thm.lockout := true, thm.lockSensors := 4, thm.sensor := State.reset.thm.sensor.set 2 { shut := { on := true, below := 2 } } }, by decide +kernel⟩

theorem test_meets_SensorsThresholdsThrottleAndShutdown_throttle_step : ∃ (j : Fin 8) (s : State),
    (s.due (.thrStep j) = true) ∧
    (s.anyThrottle j = true) ∧
    (s.standby = false) := ⟨0, { State.reset with net.force := [(objKey 0x2C40 1, 4)], thm.f := State.reset.thm.f.set 0 1, thm.sensor := State.reset.thm.sensor.set 2 { thr := { on := true } }, timers := [(.thrStep 0, 0)] }, by decide +kernel⟩

theorem test_meets_SensorsThresholdsThrottleAndShutdown_throttle_restore : ∃ (j : Fin 8) (s : State),
    (s.due (.thrRestore j) = true) ∧
    (s.anyThrottle j = false) ∧
    (∀ k : Fin 16, bit (s.raw (0x2C40 + j) 1) k = true → s.reasserts k = false) ∧
    (s.standby = false) := ⟨0, { State.reset with thm.f := State.reset.thm.f.set 0 (99/100), timers := [(.thrRestore 0, 0)] }, by decide +kernel⟩

theorem test_meets_SensorsThresholdsThrottleAndShutdown_fail : ∃ (k : Fin 16) (s : State),
    (failRuns k ≤ (s.thm.sensor[k]).badRun) ∧
    ((s.thm.sensor[k]).failed = false) ∧
    (s.sensorOn k = true) := ⟨2, { State.reset with thm.sensor := State.reset.thm.sensor.set 2 { badRun := 10, good := 30 } }, by decide +kernel⟩

theorem test_meets_SensorsThresholdsThrottleAndShutdown_recover : ∃ (k : Fin 16) (s : State),
    ((s.thm.sensor[k]).failed = true) ∧
    (10 ≤ (s.thm.sensor[k]).goodRun) := ⟨2, { State.reset with thm.sensor := State.reset.thm.sensor.set 2 { failed := true, goodRun := 10 } }, by decide +kernel⟩

/-! The hypotheses of WatchdogsMigrationAndSelfTest are met. -/

theorem test_meets_WatchdogsMigrationAndSelfTest_wdog_spare : ∃ (e : Fin 8) (s : State),
    (s.due (.wdog e) = true) ∧
    (e ≠ 7) ∧
    (s.spareFree = true) ∧
    ((s.recentExpiries e).length < 2) := ⟨3, { State.reset with timers := [(.wdog 3, 0)] }, by decide +kernel⟩

theorem test_meets_WatchdogsMigrationAndSelfTest_wdog_retire : ∃ (e : Fin 8) (s : State),
    (s.due (.wdog e) = true) ∧
    (e ≠ 7) ∧
    (s.spareFree = true) ∧
    (2 ≤ (s.recentExpiries e).length) := ⟨3, { State.reset with timers := [(.wdog 3, 0)], eng.eng := State.reset.eng.eng.set 3 { expiryTimes := [0, 0] } }, by decide +kernel⟩

theorem test_meets_WatchdogsMigrationAndSelfTest_wdog_idle_spare : ∃ (s : State),
    (s.due (.wdog 7) = true) ∧
    ((s.eng.eng[7]).st = .idle) := ⟨{ State.reset with timers := [(.wdog 7, 0)] }, by decide +kernel⟩

theorem test_meets_WatchdogsMigrationAndSelfTest_wdog_reset : ∃ (e : Fin 8) (s : State),
    (s.due (.wdog e) = true) ∧
    (e ≠ 7) ∧
    (s.spareFree = false) ∧
    (s.active = false) ∧
    (s.releasing = false) ∧
    (s.rst.supplyOk = true) := ⟨3, { State.reset with timers := [(.wdog 3, 0)], eng.eng := State.reset.eng.eng.set 7 { st := .hosting } }, by decide +kernel⟩

theorem test_meets_WatchdogsMigrationAndSelfTest_system_wdog : ∃ (s : State),
    (s.due .sysWdog = true) ∧
    (s.active = false) ∧
    (s.releasing = false) ∧
    (s.rst.supplyOk = true) := ⟨{ State.reset with timers := [(.sysWdog, 0)] }, by decide +kernel⟩

theorem test_meets_WatchdogsMigrationAndSelfTest_migrated_out : ∃ (e : Fin 8) (s : State),
    (s.running (.migrate e) = true) ∧
    (s.noLocks e = true) ∧
    ((s.eng.eng[e]).st = .migratingOut) ∧
    (e ≠ 7) := ⟨3, { State.reset with timers := [(.migrate 3, 100)], eng.eng := State.reset.eng.eng.set 3 { st := .migratingOut } }, by decide +kernel⟩

theorem test_meets_WatchdogsMigrationAndSelfTest_migrated_back : ∃ (e : Fin 8) (s : State),
    (s.running (.migrate e) = true) ∧
    (s.noLocks e = true) ∧
    ((s.eng.eng[e]).st = .migratingBack) ∧
    (s.upd.liveTodo = []) ∧
    (e ≠ 7) := ⟨3, { State.reset with timers := [(.migrate 3, 100)], eng.eng := State.reset.eng.eng.set 3 { st := .migratingBack } }, by decide +kernel⟩

theorem test_meets_WatchdogsMigrationAndSelfTest_reloaded : ∃ (e : Fin 8) (s : State),
    (s.running (.reload e) = true) ∧
    ((s.eng.eng[e]).st = .reloading) := ⟨3, { State.reset with timers := [(.reload 3, 100)], eng.eng := State.reset.eng.eng.set 3 { st := .reloading } }, by decide +kernel⟩

theorem test_meets_WatchdogsMigrationAndSelfTest_self_test_pass : ∃ (e : Fin 8) (s : State),
    (s.running (.selfTest e) = true) ∧
    ((s.eng.eng[e]).st = .selfTest) ∧
    (e ≠ 7) := ⟨3, { State.reset with timers := [(.selfTest 3, 100)], eng.eng := State.reset.eng.eng.set 3 { st := .selfTest } }, by decide +kernel⟩

theorem test_meets_WatchdogsMigrationAndSelfTest_self_test_fail : ∃ (e : Fin 8) (s : State),
    (s.running (.selfTest e) = true) ∧
    ((s.eng.eng[e]).st = .selfTest) ∧
    (s.upd.liveTodo = []) ∧
    (s.active = false) := ⟨3, { State.reset with timers := [(.selfTest 3, 100)], eng.eng := State.reset.eng.eng.set 3 { st := .selfTest } }, by decide +kernel⟩

theorem test_meets_WatchdogsMigrationAndSelfTest_self_test_abort : ∃ (e : Fin 8) (s : State),
    (s.running (.selfTest e) = true) ∧
    ((s.eng.eng[e]).st = .selfTest) ∧
    (s.upd.liveTodo.head? = some e) ∧
    (s.upd.liveBack = false) := ⟨3, { State.reset with timers := [(.selfTest 3, 100)], eng.eng := State.reset.eng.eng.set 3 { st := .selfTest }, upd.liveTodo := [3, 4], upd.liveDone := [2] }, by decide +kernel⟩

/-! The hypotheses of MessagesArePostedAndAcknowledged are met. -/

theorem test_meets_MessagesArePostedAndAcknowledged_post : ∃ (who : Fin 11) (q : Fin 64) (d : List Byte) (s : State),
    (s.reaches who = true) ∧
    (who ≠ 0) ∧
    (s.sender q = identCode who) ∧
    (d.length ≤ 56) ∧
    (((s.eng.queue[q]).slot[(s.eng.queue[q]).ptr]).state ≠ 1) ∧
    (s.receiver q ≠ 0x20) ∧
    (s.receiver q ≠ 0x21) := ⟨1, 32, [0xAB#8, 0x12#8], State.reset, by decide +kernel⟩

theorem test_meets_MessagesArePostedAndAcknowledged_post_no_peer : ∃ (who : Fin 11) (q : Fin 64) (d : List Byte) (s : State),
    (s.reaches who = true) ∧
    (who ≠ 0) ∧
    (s.sender q = identCode who) ∧
    (d.length ≤ 56) ∧
    (((s.eng.queue[q]).slot[(s.eng.queue[q]).ptr]).state ≠ 1) ∧
    (s.receiver q = 0x20 ∨ s.receiver q = 0x21) ∧
    (s.proxyUp q = false) := ⟨7, 48, [0xAB#8, 0x12#8], State.reset, (by decide +kernel)⟩

theorem test_meets_MessagesArePostedAndAcknowledged_post_to_peer : ∃ (who : Fin 11) (q : Fin 64) (d : List Byte) (s : State),
    (s.reaches who = true) ∧
    (who ≠ 0) ∧
    (s.sender q = identCode who) ∧
    (d.length ≤ 56) ∧
    (((s.eng.queue[q]).slot[(s.eng.queue[q]).ptr]).state ≠ 1) ∧
    (s.receiver q = 0x20 ∨ s.receiver q = 0x21) ∧
    (s.proxyUp q = true) := ⟨7, 56, [0xAB#8, 0x12#8], { State.reset with twin.linkUp := 2 }, by decide +kernel⟩

theorem test_meets_MessagesArePostedAndAcknowledged_post_full : ∃ (who : Fin 11) (q : Fin 64) (d : List Byte) (s : State),
    (s.reaches who = true) ∧
    (who ≠ 0) ∧
    (s.sender q = identCode who) ∧
    (d.length ≤ 56) ∧
    (((s.eng.queue[q]).slot[(s.eng.queue[q]).ptr]).state = 1) ∧
    (s.running (.limit 0x0C01 q) = false) := ⟨1, 32, [0xAB#8, 0x12#8], { State.reset with eng.queue := State.reset.eng.queue.set 32 { slot := Vector.replicate 16 { state := 1 } } }, by decide +kernel⟩

theorem test_meets_MessagesArePostedAndAcknowledged_post_host_long : ∃ (q : Fin 64) (d : List Byte) (s : State),
    (s.hostUp = true) ∧
    (s.eng.txQueue < 16) ∧
    (56 < s.eng.txLen) := ⟨0, [], { State.reset with eng.txLen := 57 }, by decide +kernel⟩

theorem test_meets_MessagesArePostedAndAcknowledged_post_host : ∃ (q : Fin 64) (m : Fin 64) (d : List Byte) (s : State),
    (s.hostUp = true) ∧
    (m.val < 16) ∧
    (s.eng.txQueue = m.val) ∧
    (s.eng.txLen ≤ 56) ∧
    (((s.eng.queue[m]).slot[(s.eng.queue[m]).ptr]).state ≠ 1) ∧
    (s.receiver m ≠ 0x20) ∧
    (s.receiver m ≠ 0x21) := ⟨0, 3, [], { State.reset with eng.txLen := 8, eng.txQueue := 3, net.force := [(objKey 0x3820 4, 0x10)] }, by decide +kernel⟩

theorem test_meets_MessagesArePostedAndAcknowledged_ack : ∃ (who : Fin 11) (q : Fin 64) (k : Fin 16) (code : Nat) (s : State),
    (s.reaches who = true) ∧
    (s.receiver q = identCode who) ∧
    (((s.eng.queue[q]).slot[k]).state = 1) ∧
    (((s.eng.queue[q]).slot[k]).sepoch = (s.epochOf (s.sender q)).toNat) ∧
    (s.twin.proxyIn = []) := ⟨2, 33, 4, 0x107, { State.reset with eng.queue := State.reset.eng.queue.set 33 { slot := Vector.replicate 16 { state := 1 } } }, by decide +kernel⟩

theorem test_meets_MessagesArePostedAndAcknowledged_ack_orphan : ∃ (who : Fin 11) (q : Fin 64) (k : Fin 16) (code : Nat) (s : State),
    (s.reaches who = true) ∧
    (s.receiver q = identCode who) ∧
    (((s.eng.queue[q]).slot[k]).state = 1) ∧
    (((s.eng.queue[q]).slot[k]).sepoch ≠ (s.epochOf (s.sender q)).toNat) ∧
    (s.running (.limit 0x0C02 noInst) = false) := ⟨2, 33, 4, 0, { State.reset with eng.queue := State.reset.eng.queue.set 33 { slot := Vector.replicate 16 { state := 1, sepoch := 9 } } }, by decide +kernel⟩

theorem test_meets_MessagesArePostedAndAcknowledged_ack_foreign : ∃ (who : Fin 11) (q : Fin 64) (k : Fin 16) (code : Nat) (s : State),
    (s.reaches who = true) ∧
    (s.receiver q ≠ identCode who) := ⟨3, 33, 4, 0, State.reset, by decide +kernel⟩

theorem test_meets_MessagesArePostedAndAcknowledged_host_bump : ∃ (s : State),
    s.hostUp = true := ⟨{ (hostVendor State.reset) with eng.lock := State.reset.eng.lock.set 7 { owner := 1 } }, by decide +kernel⟩

/-! The hypotheses of LocksAreTakenReleasedAndArmed are met. -/

theorem test_meets_LocksAreTakenReleasedAndArmed_acquire : ∃ (who : Fin 11) (n : Fin 64) (s : State),
    (takesLocks who = true) ∧
    (s.reaches who = true) ∧
    ((s.eng.lock[n]).owner = 0) := ⟨0, 5, State.reset, by decide +kernel⟩

theorem test_meets_LocksAreTakenReleasedAndArmed_acquire_owned : ∃ (who : Fin 11) (n : Fin 64) (s : State),
    (takesLocks who = true) ∧
    (s.reaches who = true) ∧
    ((s.eng.lock[n]).owner ≠ 0) := ⟨0, 5, { State.reset with eng.lock := State.reset.eng.lock.set 5 { owner := 0x12 } }, by decide +kernel⟩

theorem test_meets_LocksAreTakenReleasedAndArmed_release : ∃ (who : Fin 11) (n : Fin 64) (s : State),
    (s.reaches who = true) ∧
    ((s.eng.lock[n]).owner = identCode who) := ⟨0, 5, { State.reset with eng.lock := State.reset.eng.lock.set 5 { owner := 1 }, eng.arm := State.reset.eng.arm.set 3 0x60 }, by decide +kernel⟩

theorem test_meets_LocksAreTakenReleasedAndArmed_release_foreign : ∃ (who : Fin 11) (n : Fin 64) (s : State),
    (s.reaches who = true) ∧
    ((s.eng.lock[n]).owner ≠ identCode who) := ⟨2, 5, { State.reset with eng.lock := State.reset.eng.lock.set 5 { owner := 1 } }, by decide +kernel⟩

theorem test_meets_LocksAreTakenReleasedAndArmed_arm : ∃ (who : Fin 11) (n : Fin 64) (s : State),
    (takesLocks who = true) ∧
    (s.reaches who = true) ∧
    ((s.eng.lock[n]).owner ≠ 0) := ⟨2, 5, { State.reset with eng.lock := State.reset.eng.lock.set 5 { owner := 1 } }, by decide +kernel⟩

theorem test_meets_LocksAreTakenReleasedAndArmed_arm_free : ∃ (who : Fin 11) (n : Fin 64) (s : State),
    (takesLocks who = true) ∧
    (s.reaches who = true) ∧
    ((s.eng.lock[n]).owner = 0) := ⟨2, 5, State.reset, by decide +kernel⟩

/-! The hypotheses of RegisterWritesSetTheirRegisters are met. -/

theorem test_meets_RegisterWritesSetTheirRegisters_reg_unwritable : ∃ (addr value : Nat) (s : State),
    mayWrite addr = false := ⟨0x20000000, 7, State.reset, by decide +kernel⟩

theorem test_meets_RegisterWritesSetTheirRegisters_reg_txdata : ∃ (k : Fin 14) (value : Nat) (s : State),
    s.hostUp = true := ⟨13, 0x123456789, State.reset, by decide +kernel⟩

theorem test_meets_RegisterWritesSetTheirRegisters_reg_txcfg : ∃ (value : Nat) (s : State),
    s.hostUp = true := ⟨0x0338, State.reset, by decide +kernel⟩

theorem test_meets_RegisterWritesSetTheirRegisters_reg_doorbell : ∃ (value : Nat) (s : State),
    s.hostUp = true := ⟨0x20001, { State.reset with eng.db := State.reset.eng.db.set 0 0x30003 }, by decide +kernel⟩

theorem test_meets_RegisterWritesSetTheirRegisters_reg_mask : ∃ (value : Nat) (s : State),
    (s.hostUp = true) ∧
    (s.eng.service = true) := ⟨0x10000, { State.reset with eng.service := true, eng.db := State.reset.eng.db.set 0 0x30003 }, by decide +kernel⟩

theorem test_meets_RegisterWritesSetTheirRegisters_reg_fullirq : ∃ (s : State),
    s.hostUp = true := ⟨{ State.reset with eng.fullIrq := true }, by decide +kernel⟩

theorem test_meets_RegisterWritesSetTheirRegisters_reg_lock : ∃ (n : Fin 64) (value : Nat) (s : State),
    (s.hostUp = true) ∧
    ((s.eng.lock[n]).owner = 0x01) := ⟨63, 0, { State.reset with eng.lock := State.reset.eng.lock.set 63 { owner := 1 } }, by decide +kernel⟩

theorem test_meets_RegisterWritesSetTheirRegisters_reg_supply : ∃ (s : State),
    s.hostUp = true := ⟨{ State.reset with pins.brownSeen := true }, by decide +kernel⟩

theorem test_meets_RegisterWritesSetTheirRegisters_reg_nvc : ∃ (value : Nat) (s : State),
    s.hostUp = true := ⟨0x20610008, State.reset, by decide +kernel⟩

theorem test_meets_RegisterWritesSetTheirRegisters_reg_updata : ∃ (k : Fin 16) (value : Nat) (s : State),
    s.hostUp = true := ⟨15, 0xABCDEF01, State.reset, by decide +kernel⟩

theorem test_meets_RegisterWritesSetTheirRegisters_reg_half : ∃ (value : Nat) (s : State),
    s.hostUp = true := ⟨1, State.reset, by decide +kernel⟩

/-! The hypotheses of DictionaryAccessesRefuseInOrder are met. -/

theorem test_meets_DictionaryAccessesRefuseInOrder_read : ∃ (w : Session) (idx sub : Nat) (portB : Bool) (s : State),
    (s.serves w = true) ∧
    (s.rst.phase ≠ .recovery) := ⟨.spi, 0x2600, 1, false, State.reset, by decide +kernel⟩

theorem test_meets_DictionaryAccessesRefuseInOrder_read_missing : ∃ (w : Session) (idx sub : Nat) (portB : Bool) (s : State),
    (s.serves w = true) ∧
    (s.rst.phase ≠ .recovery) ∧
    (findObj idx sub = none) := ⟨.spi, 0x2601, 1, false, State.reset, by decide +kernel⟩

theorem test_meets_DictionaryAccessesRefuseInOrder_read_writeonly : ∃ (w : Session) (idx sub : Nat) (portB : Bool) (r : ObjRow) (s : State),
    (s.serves w = true) ∧
    (s.rst.phase ≠ .recovery) ∧
    (findObj idx sub = some r) ∧
    (r.access = .wo) := ⟨.spi, 0x3A00, 1, false, (findObj 0x3A00 1).getD (objTable.head (by decide)), State.reset, (by decide +kernel)⟩

theorem test_meets_DictionaryAccessesRefuseInOrder_write_missing : ∃ (w : Session) (idx sub : Nat) (portB : Bool) (d : List Byte) (s : State),
    (s.serves w = true) ∧
    (s.rst.phase ≠ .recovery) ∧
    (findObj idx sub = none) := ⟨.spi, 0x2600, 0x77, false, [0], State.reset, by decide +kernel⟩

theorem test_meets_DictionaryAccessesRefuseInOrder_write_readonly : ∃ (w : Session) (idx sub : Nat) (portB : Bool) (d : List Byte) (r : ObjRow) (s : State),
    (s.serves w = true) ∧
    (s.rst.phase ≠ .recovery) ∧
    (findObj idx sub = some r) ∧
    (r.access = .ro ∨ r.access = .const) := ⟨.spi, 0x1001, 0, false, [0], (findObj 0x1001 0).getD (objTable.head (by decide)), State.reset, (by decide +kernel)⟩

theorem test_meets_DictionaryAccessesRefuseInOrder_write_role : ∃ (w : Session) (idx sub : Nat) (portB : Bool) (d : List Byte) (r : ObjRow) (s : State),
    (s.serves w = true) ∧
    (s.rst.phase ≠ .recovery) ∧
    (findObj idx sub = some r) ∧
    (r.access ≠ .ro) ∧
    (r.access ≠ .const) ∧
    (roleAllows (s.roleOf w) r.role = false) := ⟨.spi, 0x3A00, 1, false, [0], (findObj 0x3A00 1).getD (objTable.head (by decide)), State.reset, (by decide +kernel)⟩

theorem test_meets_DictionaryAccessesRefuseInOrder_write_standby : ∃ (w : Session) (idx sub : Nat) (portB : Bool) (d : List Byte) (r : ObjRow) (s : State),
    (s.serves w = true) ∧
    (s.rst.phase ≠ .recovery) ∧
    (findObj idx sub = some r) ∧
    (r.access ≠ .ro) ∧
    (r.access ≠ .const) ∧
    (roleAllows (s.roleOf w) r.role = true) ∧
    (s.standby = true) ∧
    (standbyOpen idx sub = false) := ⟨.spi, 0x3A00, 1, false, [0], (findObj 0x3A00 1).getD (objTable.head (by decide)), { (hostVendor State.reset) with twin.st := .standbySync }, (by decide +kernel)⟩

theorem test_meets_DictionaryAccessesRefuseInOrder_write_rw : ∃ (w : Session) (idx sub : Nat) (portB : Bool) (d : List Byte) (s : State),
    (s.admits w idx sub d = true) ∧
    ((findObj idx sub).map ObjRow.access = some .rw) ∧
    (perPort idx = false) ∧
    ((singleWrite (some w) (s.roleOf w) idx sub).isNone = true) ∧
    ((bankWrite idx sub).isNone = true) := ⟨.spi, 0x3620, 2, false, [0, 0, 0x80, 0x3F], hostVendor State.reset, by decide +kernel⟩

theorem test_meets_DictionaryAccessesRefuseInOrder_write_rws : ∃ (w : Session) (idx sub : Nat) (portB : Bool) (d : List Byte) (s : State),
    (s.admits w idx sub d = true) ∧
    ((findObj idx sub).map ObjRow.access = some .rws) ∧
    (perPort idx = false) ∧
    (isCalObject idx = false) ∧
    ((singleWrite (some w) (s.roleOf w) idx sub).isNone = true) ∧
    ((bankWrite idx sub).isNone = true) := ⟨.spi, 0x3400, 9, false, leBytes 4 0x44200000, hostVendor State.reset, by decide +kernel⟩

theorem test_meets_DictionaryAccessesRefuseInOrder_shadow_write : ∃ (w : Session) (idx sub : Nat) (d : List Byte) (s : State),
    (s.admits w idx sub d = true) ∧
    (isCommitted idx sub = true) ∧
    (idx < 0x2810 ∨ 0x2813 < idx ∨ sub ≠ 0x10 ∨ s.shadowView 0x2201 (leValue d + 1) = 1) ∧
    (idx ≠ 0x2122 ∨ s.shadowView.real 0x2121 sub ≤ realOf d) ∧
    (idx < 0x2410 ∨ 0x2417 < idx ∨ sub ≠ 0x12 ∨ leValue d = 0 ∨ leValue d < s.shadowView.loopPeriod (idx - 0x2410)) ∧
    (s.net.claim = none) := ⟨.spi, 0x2411, 1, [1, 0, 0, 0], hostVendor State.reset, by decide +kernel⟩

theorem test_meets_DictionaryAccessesRefuseInOrder_shadow_claimed : ∃ (w x : Session) (idx sub : Nat) (d : List Byte) (r : ObjRow) (s : State),
    (s.serves w = true) ∧
    (s.rst.phase ≠ .recovery) ∧
    (findObj idx sub = some r) ∧
    (r.access = .rwc) ∧
    (roleAllows (s.roleOf w) r.role = true) ∧
    (s.standby = false) ∧
    (s.net.claim = some x) ∧
    (x ≠ w) := ⟨.spi, .canA, 0x2411, 1, [1], (findObj 0x2411 1).getD (objTable.head (by decide)), { (hostVendor State.reset) with net.claim := some .canA }, (by decide +kernel)⟩

/-! The hypotheses of RolesAndSessions are met. -/

theorem test_meets_RolesAndSessions_request : ∃ (w : Session) (d : List Byte) (s : State),
    (s.admits w 0x2010 1 d = true) ∧
    (1 ≤ leValue d) ∧
    (leValue d ≤ 3) ∧
    ((s.net.sess[sessIx w]).lockedOut (roleOfNumber (leValue d)) = false) ∧
    (s.upd.key[roleSlot (roleOfNumber (leValue d))] ≠ []) ∧
    (Life.obtainable s.upd.life (roleOfNumber (leValue d)) = true) := ⟨.spi, [3], { State.reset with upd.key := State.reset.upd.key.set 0 [1] }, by decide +kernel⟩

theorem test_meets_RolesAndSessions_request_locked : ∃ (w : Session) (d : List Byte) (s : State),
    (s.admits w 0x2010 1 d = true) ∧
    ((s.net.sess[sessIx w]).lockedOut (roleOfNumber (leValue d)) = true) := ⟨.spi, [3], { State.reset with net.sess := State.reset.net.sess.map fun x => { x with locked := Vector.replicate 3 true } }, by decide +kernel⟩

theorem test_meets_RolesAndSessions_session_end : ∃ (w : Session) (s : State),
    s.admits w 0x2010 1 [0] = true := ⟨.spi, { (hostVendor State.reset) with net.claim := some .spi, net.shadow := [(5, 6)] }, by decide +kernel⟩

theorem test_meets_RolesAndSessions_response_good : ∃ (w : Session) (d : List Byte) (s : State),
    (s.admits w 0x2010 3 d = true) ∧
    (d.length = 32) ∧
    (s.responseMatches w d = true) := ⟨.spi, goodResponse, nonceState, (by decide +kernel), (by simp [goodResponse]), goodResponse_matches⟩

theorem test_meets_RolesAndSessions_response_bad : ∃ (w : Session) (j : Fin 3) (d : List Byte) (s : State),
    (s.admits w 0x2010 3 d = true) ∧
    (d.length = 32) ∧
    (s.responseMatches w d = false) ∧
    (roleCount (s.net.sess[sessIx w]).nonceRole = some j) ∧
    (((s.net.sess[sessIx w]).fails[j]) < 2) := ⟨.spi, 1, List.replicate 32 0, { State.reset with net.sess := State.reset.net.sess.map fun x => { x with nonceRole := .engineer } }, by decide +kernel⟩

theorem test_meets_RolesAndSessions_response_third : ∃ (w : Session) (j : Fin 3) (d : List Byte) (s : State),
    (s.admits w 0x2010 3 d = true) ∧
    (d.length = 32) ∧
    (s.responseMatches w d = false) ∧
    (roleCount (s.net.sess[sessIx w]).nonceRole = some j) ∧
    (2 ≤ ((s.net.sess[sessIx w]).fails[j])) ∧
    (s.evr.staging.length < 15) := ⟨.spi, 1, List.replicate 32 0, { State.reset with net.sess := State.reset.net.sess.map fun x => { x with nonceRole := .engineer, fails := Vector.replicate 3 2 } }, by decide +kernel⟩

theorem test_meets_RolesAndSessions_lockout_end : ∃ (w : Session) (j : Fin 3) (s : State),
    s.due (.lockout (sessIx w) (j + 1)) = true := ⟨.canA, 2, { State.reset with timers := [(.lockout (sessIx .canA) 3, 0)], net.sess := State.reset.net.sess.map fun x => { x with locked := Vector.replicate 3 true } }, by decide +kernel⟩

theorem test_meets_RolesAndSessions_nonce_expiry : ∃ (w : Session) (s : State),
    s.due (.nonce (sessIx w)) = true := ⟨.canA, { State.reset with timers := [(.nonce (sessIx .canA), 0)], net.sess := State.reset.net.sess.map fun x => { x with held := true } }, by decide +kernel⟩

theorem test_meets_RolesAndSessions_idle_timeout : ∃ (w : Session) (s : State),
    (s.due (.sessIdle (sessIx w)) = true) ∧
    (s.roleOf w ≠ .observer) := ⟨.canB, { (hostVendor State.reset) with timers := [(.sessIdle (sessIx .canB), 0)], net.claim := some .canB }, by decide +kernel⟩

/-! The hypotheses of CommitsAreAcceptedAndValidated are met. -/

theorem test_meets_CommitsAreAcceptedAndValidated_commit : ∃ (w : Session) (s : State),
    (s.admits w 0x3A00 1 (leBytes 4 sigTemper) = true) ∧
    (s.net.claim = some w) ∧
    (s.commitBusy = false) ∧
    (s.net.storing = none) := ⟨.spi, { (hostVendor State.reset) with net.claim := some .spi, net.shadow := [(objKey 0x2C12 1, 0x42C80000)] }, by decide +kernel⟩

theorem test_meets_CommitsAreAcceptedAndValidated_commit_empty : ∃ (w : Session) (s : State),
    (s.admits w 0x3A00 1 (leBytes 4 sigTemper) = true) ∧
    (s.net.claim = none) ∧
    (s.commitBusy = false) ∧
    (s.net.storing = none) := ⟨.spi, hostVendor State.reset, by decide +kernel⟩

theorem test_meets_CommitsAreAcceptedAndValidated_commit_foreign : ∃ (w x : Session) (s : State),
    (s.admits w 0x3A00 1 (leBytes 4 sigTemper) = true) ∧
    (s.net.claim = some x) ∧
    (x ≠ w) := ⟨.spi, .canA, { (hostVendor State.reset) with net.claim := some .canA }, by decide +kernel⟩

theorem test_meets_CommitsAreAcceptedAndValidated_commit_busy : ∃ (w : Session) (s : State),
    (s.admits w 0x3A00 1 (leBytes 4 sigTemper) = true) ∧
    (s.net.claim = none ∨ s.net.claim = some w) ∧
    (s.commitBusy = true ∨ s.net.storing.isSome = true) := ⟨.spi, { (hostVendor State.reset) with net.commit.st := .applying }, by decide +kernel⟩

theorem test_meets_CommitsAreAcceptedAndValidated_discard : ∃ (w : Session) (s : State),
    (s.admits w 0x3A00 1 (leBytes 4 sigDrop) = true) ∧
    (s.net.claim = none ∨ s.net.claim = some w) ∧
    (s.commitBusy = false) := ⟨.spi, { (hostVendor State.reset) with net.claim := some .spi, net.shadow := [(objKey 0x2C12 1, 0x42C80000)] }, by decide +kernel⟩

theorem test_meets_CommitsAreAcceptedAndValidated_validation_refuses : ∃ (r : CommitRefusal) (s : State),
    (s.net.commit.st = .validating) ∧
    (s.twin.awaitPeer = false) ∧
    (s.net.commit.kind = .user) ∧
    (s.validate false s.cfg (s.cfg.settled (displacing (s.displacedKeys s.net.commit.set) s.net.commit.set)) = .inr r) := ⟨⟨0x0A07, 0x2C120100, 0xFF⟩, { State.reset with net.commit.st := .validating, net.commit.set := [(objKey 0x2C12 1, 0x43480000), (objKey 0x2C12 5, 0x42C80000)] }, by decide +kernel⟩

theorem test_meets_CommitsAreAcceptedAndValidated_validation_passes : ∃ (b : Nat) (rest : List Nat) (s : State),
    (s.net.commit.st = .validating) ∧
    (s.twin.awaitPeer = false) ∧
    (s.net.commit.kind = .user) ∧
    (s.twin.st ≠ .activePaired) ∧
    (s.validate false s.cfg (s.cfg.settled (displacing (s.displacedKeys s.net.commit.set) s.net.commit.set)) = .inl (b :: rest)) := ⟨3, [], commitState { st := .validating, set := thermalSet }, ⟨by decide +kernel, by decide +kernel, by decide +kernel, by decide +kernel, thermalSet_validates _ rfl rfl (commitState_checks _)⟩⟩

theorem test_meets_CommitsAreAcceptedAndValidated_validation_pair : ∃ (order : List Nat) (s : State),
    (s.net.commit.st = .validating) ∧
    (s.twin.awaitPeer = false) ∧
    (s.net.commit.kind = .user) ∧
    (s.twin.st = .activePaired) ∧
    (s.validate false s.cfg (s.cfg.settled (displacing (s.displacedKeys s.net.commit.set) s.net.commit.set)) = .inl order) := ⟨[3], { commitState { st := .validating, set := thermalSet } with twin.st := .activePaired }, ⟨by decide +kernel, by decide +kernel, by decide +kernel, by decide +kernel, thermalSet_validates _ rfl rfl (pairState_checks _)⟩⟩

/-! The hypotheses of BlocksApplyAndRollBack are met. -/

theorem test_meets_BlocksApplyAndRollBack_block : ∃ (b c : Nat) (rest : List Nat) (s : State),
    (s.net.commit.st = .applying) ∧
    (s.net.commit.rolling = false) ∧
    (s.net.commit.todo = b :: c :: rest) ∧
    (s.blockInstant b = true) ∧
    (s.unready b = []) ∧
    (s.check s.oldView (mixed s.oldView s.net.commit.set (b :: s.net.commit.applied)) s.net.commit.set = none) := ⟨3, 9, [], commitState { st := .applying, todo := [3, 9], set := thermalSet }, ⟨by decide +kernel, by decide +kernel, by decide +kernel, by decide +kernel, by decide +kernel, commitState_block _ rfl rfl rfl⟩⟩

theorem test_meets_BlocksApplyAndRollBack_block_last : ∃ (b : Nat) (s : State),
    (s.net.commit.st = .applying) ∧
    (s.net.commit.kind = .user) ∧
    (s.net.commit.rolling = false) ∧
    (s.net.commit.todo = [b]) ∧
    (s.blockInstant b = true) ∧
    (s.unready b = []) ∧
    (s.check s.oldView (mixed s.oldView s.net.commit.set (b :: s.net.commit.applied)) s.net.commit.set = none) := ⟨3, commitState { st := .applying, todo := [3], set := thermalSet }, ⟨by decide +kernel, by decide +kernel, by decide +kernel, by decide +kernel, by decide +kernel, by decide +kernel, commitState_block _ rfl rfl rfl⟩⟩

theorem test_meets_BlocksApplyAndRollBack_block_refuses : ∃ (b c : Nat) (rest done : List Nat) (r : CommitRefusal) (s : State),
    (s.net.commit.st = .applying) ∧
    (s.net.commit.rolling = false) ∧
    (s.net.commit.todo = b :: rest) ∧
    (s.net.commit.applied = c :: done) ∧
    (s.blockInstant b = true) ∧
    (s.unready b = []) ∧
    (s.check s.oldView (mixed s.oldView s.net.commit.set (b :: s.net.commit.applied)) s.net.commit.set = some r) := ⟨3, 9, [], [], ⟨0x0A07, 0x2C120100, 0xFF⟩, { State.reset with net.commit.st := .applying, net.commit.todo := [3], net.commit.applied := [9], net.commit.set := [(objKey 0x2C12 1, 0x43480000), (objKey 0x2C12 5, 0x42C80000)] }, by decide +kernel⟩

theorem test_meets_BlocksApplyAndRollBack_channel_not_ready : ∃ (b : Nat) (rest : List Nat) (x : Naming) (xs : List Naming) (s : State),
    (s.net.commit.st = .applying) ∧
    (s.net.commit.kind = .user) ∧
    (s.net.commit.rolling = false) ∧
    (s.net.commit.todo = b :: rest) ∧
    (s.net.commit.applied = []) ∧
    (s.unready b = x :: xs) ∧
    (s.due .channelWait = true) := ⟨8, [], ⟨8, 2625808, 21⟩, [], { State.reset with timers := [(.channelWait, 0)], net.commit.st := .applying, net.commit.todo := [8], net.commit.set := [(objKey 0x2811 1, 1)], net.commit.before := [(objKey 0x2811 1, 0)] }, by decide +kernel⟩

theorem test_meets_BlocksApplyAndRollBack_rollback : ∃ (b : Nat) (s : State),
    (s.net.commit.st = .applying) ∧
    (s.net.commit.kind = .user) ∧
    (s.net.commit.rolling = true) ∧
    (s.blockInstant b = true) ∧
    (s.net.commit.applied = [b]) := ⟨3, { State.reset with net.force := [(objKey 0x2C12 1, 0x42C80000)], net.commit.st := .applying, net.commit.rolling := true, net.commit.applied := [3], net.commit.set := [(objKey 0x2C12 1, 0x42C80000)], net.commit.before := [(objKey 0x2C12 1, State.reset.raw 0x2C12 1)] }, by decide +kernel⟩

theorem test_meets_BlocksApplyAndRollBack_boot : ∃ (s : State),
    (s.up = true) ∧
    (s.rst.bootDue = true) ∧
    (s.commitBusy = false) := ⟨{ State.reset with net.store := #v[some { seq := 4, vals := [(objKey 0x2C12 1, 0x42C80000)] }, none] }, by decide +kernel⟩

theorem test_meets_BlocksApplyAndRollBack_boot_none : ∃ (s : State),
    (s.up = true) ∧
    (s.rst.bootDue = true) ∧
    (s.commitBusy = false) ∧
    (s.net.newestCopy = none) := ⟨State.reset, by decide +kernel⟩

/-! The hypotheses of StoreAndRestoreWork are met. -/

theorem test_meets_StoreAndRestoreWork_store : ∃ (w : Session) (scope : Fin 3) (d : List Byte) (s : State),
    (s.admits w 0x1010 (scope + 1) d = true) ∧
    (s.storeBusy = false) := ⟨.spi, 0, leBytes 4 0x65766173, { (hostVendor State.reset) with net.store := #v[some { seq := 4, vals := [(objKey 0x2C12 1, 0x42C80000)] }, none] }, by decide +kernel⟩

theorem test_meets_StoreAndRestoreWork_store_busy : ∃ (w : Session) (scope : Fin 3) (d : List Byte) (s : State),
    (s.admits w 0x1010 (scope + 1) d = true) ∧
    (s.storeBusy = true) := ⟨.spi, 1, leBytes 4 0x65766173, { (hostVendor State.reset) with pins.brownWarn := true }, by decide +kernel⟩

theorem test_meets_StoreAndRestoreWork_store_done : ∃ (k : Fin 2) (c : CfgCopy) (sub : Nat) (w : Session) (s : State),
    (s.net.storing = some (k, c, sub, .session w)) ∧
    (w ≠ .spi) := ⟨1, { seq := 5 }, 2, .canA, { State.reset with net.storing := some (1, { seq := 5 }, 2, .session .canA), net.commit.restore := 7 }, by decide +kernel⟩

theorem test_meets_StoreAndRestoreWork_store_failed : ∃ (k : Fin 2) (c : CfgCopy) (sub : Nat) (w : Session) (s : State),
    (s.net.storing = some (k, c, sub, .session w)) ∧
    (w ≠ .spi) := ⟨1, { seq := 5 }, 2, .canA, { State.reset with net.storing := some (1, { seq := 5 }, 2, .session .canA), net.commit.restore := 7 }, by decide +kernel⟩

theorem test_meets_StoreAndRestoreWork_restore : ∃ (w : Session) (scope : Fin 3) (d : List Byte) (s : State),
    s.admits w 0x1011 (scope + 1) d = true := ⟨.spi, 2, leBytes 4 0x64616F6C, hostVendor State.reset, by decide +kernel⟩

/-! The hypotheses of CanPortsFollowNmtAndPdos are met. -/

theorem test_meets_CanPortsFollowNmtAndPdos_start : ∃ (p : Fin 2) (s : State),
    (s.portLive p = true) ∧
    ((s.net.port[p]).nmt ≠ .operational) := ⟨0, { State.reset with net.port := State.reset.net.port.map fun x => { x with nmt := .preOperational } }, by decide +kernel⟩

theorem test_meets_CanPortsFollowNmtAndPdos_stop : ∃ (p : Fin 2) (s : State),
    s.portLive p = true := ⟨0, { State.reset with timers := [(.tpdo 0 2, 5)], net.port := State.reset.net.port.map fun x => { x with nmt := .operational } }, by decide +kernel⟩

theorem test_meets_CanPortsFollowNmtAndPdos_preop : ∃ (p : Fin 2) (s : State),
    s.portLive p = true := ⟨0, { State.reset with timers := [(.tpdo 0 2, 5)], net.port := State.reset.net.port.map fun x => { x with nmt := .operational } }, by decide +kernel⟩

theorem test_meets_CanPortsFollowNmtAndPdos_reset_app : ∃ (p : Fin 2) (s : State),
    s.portLive p = true := ⟨0, { (hostVendor State.reset) with net.store := #v[some { port := #v[[(objKey 0x1017 0, 50)], []] }, none], net.port := State.reset.net.port.map fun x => { x with nmt := .operational } }, by decide +kernel⟩

theorem test_meets_CanPortsFollowNmtAndPdos_reset_comm : ∃ (p : Fin 2) (s : State),
    s.portLive p = true := ⟨1, { (hostVendor State.reset) with net.port := State.reset.net.port.map fun x => { x with nmt := .operational } }, by decide +kernel⟩

theorem test_meets_CanPortsFollowNmtAndPdos_rpdo : ∃ (p : Fin 2) (n : Fin 4) (e : Nat) (d : List Byte) (s : State),
    (s.pdosRun p = true) ∧
    (bit (s.portRaw p (0x1400 + n) 1) 31 = false) ∧
    (s.mapped p (0x1600 + n) = [e]) ∧
    (entryBits e ≤ 8 * d.length) ∧
    (s.checkWrite none s.rpdoRole (entryIndex e) (entrySub e) (d.take (entryBits e / 8)) none false none = .pass) ∧
    ((findObj (entryIndex e) (entrySub e)).map ObjRow.access = some .rws) ∧
    (perPort (entryIndex e) = false) ∧
    (isCalObject (entryIndex e) = false) ∧
    ((singleWrite none s.rpdoRole (entryIndex e) (entrySub e)).isNone = true) ∧
    ((bankWrite (entryIndex e) (entrySub e)).isNone = true) := ⟨0, 0, 0x2E000D20, leBytes 4 0x42000000, { State.reset with net.port := State.reset.net.port.map fun x => { x with nmt := .operational, objs := [(objKey 0x1400 1, 0x210), (objKey 0x1600 0, 1), (objKey 0x1600 1, 0x2E000D20)] } }, by decide +kernel⟩

theorem test_meets_CanPortsFollowNmtAndPdos_tpdo : ∃ (p : Fin 2) (n : Fin 4) (s : State),
    (s.due (.tpdo p n) = true) ∧
    (s.pdosRun p = true) ∧
    (s.tpdoOn p n = true) := ⟨0, 2, { State.reset with timers := [(.tpdo 0 2, 0)], net.port := State.reset.net.port.map fun x => { x with nmt := .operational } }, by decide +kernel⟩

theorem test_meets_CanPortsFollowNmtAndPdos_heartbeat : ∃ (p : Fin 2) (s : State),
    (s.due (.heartbeat p) = true) ∧
    (s.portLive p = true) ∧
    (s.portRaw p 0x1017 0 ≠ 0) := ⟨0, { State.reset with timers := [(.heartbeat 0, 0)], net.port := State.reset.net.port.map fun x => { x with nmt := .operational } }, by decide +kernel⟩

theorem test_meets_CanPortsFollowNmtAndPdos_heartbeat_lost : ∃ (p : Fin 2) (n : Fin 4) (s : State),
    (s.portLive p = true) ∧
    (bits (s.portRaw p 0x1016 (n + 1)) 15 0 ≠ 0) ∧
    (bits (s.portRaw p 0x1016 (n + 1)) 22 16 ≠ 0) := ⟨0, 3, { State.reset with net.port := State.reset.net.port.map fun x => { x with nmt := .operational, objs := [(objKey 0x1016 4, 0x220064)] } }, by decide +kernel⟩

theorem test_meets_CanPortsFollowNmtAndPdos_bus_off : ∃ (p : Fin 2) (s : State),
    s.portLive p = true := ⟨0, { (hostVendor State.reset) with timers := [(.heartbeat 0, 9)], net.port := State.reset.net.port.map fun x => { x with nmt := .operational } }, by decide +kernel⟩

theorem test_meets_CanPortsFollowNmtAndPdos_recovery : ∃ (p : Fin 2) (s : State),
    (s.up = true) ∧
    ((s.net.port[p]).busOff = true) := ⟨0, { State.reset with net.port := State.reset.net.port.map fun x => { x with busOff := true } }, by decide +kernel⟩

/-! The hypotheses of SdoTransfersAndErrorField are met. -/

theorem test_meets_SdoTransfersAndErrorField_sdo_begin_read : ∃ (p : Fin 2) (idx sub : Nat) (d : List Byte) (s : State),
    (s.serves (portSession p) = true) ∧
    (s.rst.phase ≠ .recovery) ∧
    ((s.touch (portSession p)).dictRead (portSession p) p idx sub = .data d) := ⟨0, 0x1008, 0, (match ({ State.reset with net.port := State.reset.net.port.map fun x => { x with nmt := .operational } } : State).dictRead .canA 0 0x1008 0 with | .data d => d | _ => []), { State.reset with net.port := State.reset.net.port.map fun x => { x with nmt := .operational } }, by decide +kernel⟩

theorem test_meets_SdoTransfersAndErrorField_sdo_begin_write : ∃ (p : Fin 2) (idx sub : Nat) (s : State),
    (s.serves (portSession p) = true) ∧
    (s.rst.phase ≠ .recovery) := ⟨1, 0x3400, 2, { State.reset with net.port := State.reset.net.port.map fun x => { x with nmt := .operational } }, by decide +kernel⟩

theorem test_meets_SdoTransfersAndErrorField_sdo_read_last : ∃ (p : Fin 2) (n : Nat) (x : Transfer) (s : State),
    (s.serves (portSession p) = true) ∧
    (s.rst.phase ≠ .recovery) ∧
    ((s.net.sess[sessIx (portSession p)]).transfer = some x) ∧
    (x.write = false) ∧
    (x.bytes.length ≤ x.offset + n) := ⟨0, 7, { write := false, key := 5, offset := 2, bytes := [1, 2, 3, 4] }, { State.reset with net.sess := State.reset.net.sess.map (fun x => { x with transfer := some { write := false, key := 5, offset := 2, bytes := [1, 2, 3, 4] } }), net.port := State.reset.net.port.map fun x => { x with nmt := .operational } }, by decide +kernel⟩

theorem test_meets_SdoTransfersAndErrorField_sdo_write : ∃ (p : Fin 2) (d : List Byte) (x : Transfer) (s : State),
    (s.serves (portSession p) = true) ∧
    (s.rst.phase ≠ .recovery) ∧
    ((s.net.sess[sessIx (portSession p)]).transfer = some x) ∧
    (x.write = true) := ⟨0, [7, 8], { write := true, key := 5, offset := 2, bytes := [1, 2] }, { State.reset with net.sess := State.reset.net.sess.map (fun x => { x with transfer := some { write := true, key := 5, offset := 2, bytes := [1, 2] } }), net.port := State.reset.net.port.map fun x => { x with nmt := .operational } }, by decide +kernel⟩

theorem test_meets_SdoTransfersAndErrorField_sdo_timeout : ∃ (p : Fin 2) (s : State),
    (s.due (.segment (sessIx (portSession p))) = true) ∧
    ((s.net.sess[sessIx (portSession p)]).transfer.isSome = true) := ⟨0, { State.reset with timers := [(.segment 0, 0)], net.sess := State.reset.net.sess.map (fun x => { x with transfer := some { write := true, key := 5 } }) }, by decide +kernel⟩

theorem test_meets_SdoTransfersAndErrorField_batch : ∃ (s : State),
    (s.net.batch ≠ []) ∧
    (s.tb.tod / 1000 ≠ s.net.batchAt) := ⟨{ State.reset with tb.tod := 5000, net.batch := [⟨0x0A05, 2⟩, ⟨0x0101, noInst⟩] }, by decide +kernel⟩

theorem test_meets_SdoTransfersAndErrorField_emcy : ∃ (p : Fin 2) (e : Emcy) (l : List Emcy) (s : State),
    (s.pdosRun p = true) ∧
    (s.running (.emcy p) = false ∨ s.due (.emcy p) = true) ∧
    ((s.net.port[p]).emcy = e :: l) := ⟨0, ⟨0x5200, 1, 0x101, 0⟩, [], { State.reset with net.port := State.reset.net.port.map fun x => { x with nmt := .operational, emcy := [⟨0x5200, 1, 0x101, 0⟩] } }, by decide +kernel⟩

theorem test_meets_SdoTransfersAndErrorField_clear : ∃ (w : Session) (s : State),
    s.admits w 0x1003 0 [0] = true := ⟨.spi, { (hostVendor State.reset) with net.errs := [⟨0x0A05, 2⟩], net.port := State.reset.net.port.map fun x => { x with nmt := .operational } }, by decide +kernel⟩

/-! The hypotheses of SpiFramesReadAndWriteWords are met. -/

theorem test_meets_SpiFramesReadAndWriteWords_spi_read : ∃ (d : List Byte) (s : State),
    (s.hostUp = true) ∧
    (frameHcrc d = true) ∧
    (frameCmdOk 1 d = true) ∧
    (12 + 4 * frameCount d ≤ d.length) ∧
    (frameAddr d % 4 = 0) ∧
    (userBase ≤ frameAddr d) ∧
    (frameAddr d + 4 * frameCount d ≤ userEnd) ∧
    (s.mem.badWords = []) := ⟨spiReadFrame 2 0x206D0008, { State.reset with mem.user := [(0x206D0009, 0x11), (0x206D000C, 0x22)] }, by decide +kernel⟩

theorem test_meets_SpiFramesReadAndWriteWords_spi_read_denied : ∃ (d : List Byte) (s : State),
    (s.hostUp = true) ∧
    (frameHcrc d = true) ∧
    (frameCmdOk 1 d = true) ∧
    (frameCount d = 1) ∧
    (16 ≤ d.length) ∧
    (0x50000000 ≤ frameAddr d) := ⟨spiReadFrame 1 0x60000000, State.reset, by decide +kernel⟩

theorem test_meets_SpiFramesReadAndWriteWords_spi_header : ∃ (d : List Byte) (s : State),
    (s.hostUp = true) ∧
    (8 ≤ d.length) ∧
    (frameHcrc d = false) ∧
    (s.running (.limit 0x0D0E noInst) = false) := ⟨[1, 1, 0, 0, 0x6D, 0x20, 0, 0], State.reset, by decide +kernel⟩

theorem test_meets_SpiFramesReadAndWriteWords_spi_write : ∃ (d : List Byte) (s : State),
    (s.hostUp = true) ∧
    (frameHcrc d = true) ∧
    (frameCmdOk 2 d = true) ∧
    (frameCount d = 1) ∧
    (14 ≤ d.length) ∧
    (crc16 ((d.drop 8).take 4) = leValue ((d.drop 12).take 2)) ∧
    (frameAddr d = 0x4000400C) := ⟨spiWriteFrame 0x4000400C [0x12345678], State.reset, by decide +kernel⟩

theorem test_meets_SpiFramesReadAndWriteWords_spi_write_crc : ∃ (d : List Byte) (s : State),
    (s.hostUp = true) ∧
    (frameHcrc d = true) ∧
    (frameCmdOk 2 d = true) ∧
    (10 + 4 * frameCount d ≤ d.length) ∧
    (crc16 ((d.drop 8).take (4 * frameCount d)) ≠ leValue ((d.drop (8 + 4 * frameCount d)).take 2)) ∧
    (s.running (.limit 0x0D0E noInst) = false) := ⟨(spiWriteFrame 0x4000400C [0x12345678]).take 12 ++ [0, 0], State.reset, by decide +kernel⟩

/-! The hypotheses of TunnelServesTheDictionary are met. -/

theorem test_meets_TunnelServesTheDictionary_tunnel_read : ∃ (k : Fin 16) (d : List Byte) (s : State),
    (s.serves .spi = true) ∧
    (s.rst.phase ≠ .recovery) ∧
    ((s.eng.queue[(8 : Fin 64)]).oldest = some k) ∧
    (s.receiver 8 = 0x10) ∧
    (s.twin.proxyIn = []) ∧
    (reqOp ((s.eng.queue[(8 : Fin 64)]).slot[k]).payload = 1) ∧
    (((s.eng.queue[(8 : Fin 64)]).slot[k]).repoch = (s.epochOf 0x10).toNat) ∧
    (((s.eng.queue[(8 : Fin 64)]).slot[k]).sepoch = (s.epochOf 0x01).toNat) ∧
    (s.tunnelBusy = false) ∧
    (((s.ack 1 8 k 1).touch .spi).dictRead .spi (copyPort .spi (reqPortB ((s.eng.queue[(8 : Fin 64)]).slot[k]).payload)) (reqIndex ((s.eng.queue[(8 : Fin 64)]).slot[k]).payload) (reqSub ((s.eng.queue[(8 : Fin 64)]).slot[k]).payload) = .data d) ∧
    (d.length ≤ 48) := ⟨0, leBytes 4 (State.reset.raw 0x2412 2), tunnelState 1 0x2412 2 0 [], by decide +kernel⟩

theorem test_meets_TunnelServesTheDictionary_tunnel_busy : ∃ (k : Fin 16) (s : State),
    (s.serves .spi = true) ∧
    ((s.eng.queue[(8 : Fin 64)]).oldest = some k) ∧
    (s.receiver 8 = 0x10) ∧
    (s.twin.proxyIn = []) ∧
    (reqOp ((s.eng.queue[(8 : Fin 64)]).slot[k]).payload = 1) ∧
    (((s.eng.queue[(8 : Fin 64)]).slot[k]).repoch = (s.epochOf 0x10).toNat) ∧
    (((s.eng.queue[(8 : Fin 64)]).slot[k]).sepoch = (s.epochOf 0x01).toNat) ∧
    (s.tunnelBusy = true) := ⟨0, { (tunnelState 1 0x2412 2 0 []) with net.tunnelReq := some (3, 4) }, by decide +kernel⟩

theorem test_meets_TunnelServesTheDictionary_tunnel_stale : ∃ (k : Fin 16) (s : State),
    (s.serves .spi = true) ∧
    ((s.eng.queue[(8 : Fin 64)]).oldest = some k) ∧
    (s.receiver 8 = 0x10) ∧
    (s.twin.proxyIn = []) ∧
    (reqOp ((s.eng.queue[(8 : Fin 64)]).slot[k]).payload = 1) ∧
    (((s.eng.queue[(8 : Fin 64)]).slot[k]).repoch ≠ (s.epochOf 0x10).toNat) ∧
    (((s.eng.queue[(8 : Fin 64)]).slot[k]).sepoch = (s.epochOf 0x01).toNat) := ⟨0, { (tunnelState 1 0x2412 2 0 []) with eng.epoch := State.reset.eng.epoch.set 1 1 }, by decide +kernel⟩

theorem test_meets_TunnelServesTheDictionary_tunnel_write : ∃ (k : Fin 16) (m : MsgSlot) (s : State),
    ((s.eng.queue[(8 : Fin 64)]).oldest = some k) ∧
    ((s.eng.queue[(8 : Fin 64)]).slot[k] = m) ∧
    (s.receiver 8 = 0x10) ∧
    (s.twin.proxyIn = []) ∧
    (reqOp m.payload = 2) ∧
    (m.repoch = (s.epochOf 0x10).toNat) ∧
    (m.sepoch = (s.epochOf 0x01).toNat) ∧
    (s.tunnelBusy = false) ∧
    (s.admits .spi (reqIndex m.payload) (reqSub m.payload) (m.payload.drop 8) = true) ∧
    ((findObj (reqIndex m.payload) (reqSub m.payload)).map ObjRow.access = some .rw) ∧
    (perPort (reqIndex m.payload) = false) ∧
    ((singleWrite (some .spi) (s.roleOf .spi) (reqIndex m.payload) (reqSub m.payload)).isNone = true) ∧
    ((bankWrite (reqIndex m.payload) (reqSub m.payload)).isNone = true) := ⟨0, tunnelMsg 2 0x3620 2 0 [0, 0, 0x80, 0x3F], tunnelState 2 0x3620 2 0 [0, 0, 0x80, 0x3F], by decide +kernel⟩

theorem test_meets_TunnelServesTheDictionary_tunnel_read_segment : ∃ (k : Fin 16) (m : MsgSlot) (x : Transfer) (s : State),
    (s.serves .spi = true) ∧
    ((s.eng.queue[(8 : Fin 64)]).oldest = some k) ∧
    ((s.eng.queue[(8 : Fin 64)]).slot[k] = m) ∧
    (s.receiver 8 = 0x10) ∧
    (s.twin.proxyIn = []) ∧
    (reqOp m.payload = 3) ∧
    (m.repoch = (s.epochOf 0x10).toNat) ∧
    (m.sepoch = (s.epochOf 0x01).toNat) ∧
    (s.tunnelBusy = false) ∧
    ((s.net.sess[(2 : Fin 3)]).transfer = some x) ∧
    (x.fits false m = true) ∧
    (x.offset + 48 < x.bytes.length) := ⟨0, tunnelMsg 3 0x3600 1 48 [], { write := false, key := objKey 0x3600 1, offset := 48, bytes := (List.range 100).map (BitVec.ofNat 8) }, (let s := tunnelState 3 0x3600 1 48 []; { s with net.sess := s.net.sess.map fun y => { y with transfer := some { write := false, key := objKey 0x3600 1, offset := 48, bytes := (List.range 100).map (BitVec.ofNat 8) } } }), by decide +kernel⟩

theorem test_meets_TunnelServesTheDictionary_tunnel_segment_order : ∃ (k : Fin 16) (m : MsgSlot) (s : State),
    (s.serves .spi = true) ∧
    ((s.eng.queue[(8 : Fin 64)]).oldest = some k) ∧
    ((s.eng.queue[(8 : Fin 64)]).slot[k] = m) ∧
    (s.receiver 8 = 0x10) ∧
    (s.twin.proxyIn = []) ∧
    (reqOp m.payload = 3) ∧
    (m.repoch = (s.epochOf 0x10).toNat) ∧
    (m.sepoch = (s.epochOf 0x01).toNat) ∧
    (s.tunnelBusy = false) ∧
    ((s.net.sess[(2 : Fin 3)]).transfer = none) := ⟨0, tunnelMsg 3 0x3600 1 48 [], tunnelState 3 0x3600 1 48 [], by decide +kernel⟩

theorem test_meets_TunnelServesTheDictionary_tunnel_write_segment : ∃ (k : Fin 16) (m : MsgSlot) (s : State),
    (s.serves .spi = true) ∧
    ((s.eng.queue[(8 : Fin 64)]).oldest = some k) ∧
    ((s.eng.queue[(8 : Fin 64)]).slot[k] = m) ∧
    (s.receiver 8 = 0x10) ∧
    (s.twin.proxyIn = []) ∧
    (reqOp m.payload = 4) ∧
    (m.repoch = (s.epochOf 0x10).toNat) ∧
    (m.sepoch = (s.epochOf 0x01).toNat) ∧
    (s.tunnelBusy = false) ∧
    (reqOffset m.payload = 0) := ⟨0, tunnelMsg 4 0x3600 1 0 [1, 2, 3], tunnelState 4 0x3600 1 0 [1, 2, 3], by decide +kernel⟩

theorem test_meets_TunnelServesTheDictionary_tunnel_last : ∃ (k : Fin 16) (m : MsgSlot) (x : Transfer) (s : State),
    ((s.eng.queue[(8 : Fin 64)]).oldest = some k) ∧
    ((s.eng.queue[(8 : Fin 64)]).slot[k] = m) ∧
    (s.receiver 8 = 0x10) ∧
    (s.twin.proxyIn = []) ∧
    (reqOp m.payload = 5) ∧
    (m.repoch = (s.epochOf 0x10).toNat) ∧
    (m.sepoch = (s.epochOf 0x01).toNat) ∧
    (s.tunnelBusy = false) ∧
    ((s.net.sess[(2 : Fin 3)]).transfer = some x) ∧
    (x.fits true m = true) ∧
    (reqOffset m.payload ≠ 0) ∧
    (s.admits .spi (reqIndex m.payload) (reqSub m.payload) (x.bytes ++ m.payload.drop 8) = true) ∧
    ((findObj (reqIndex m.payload) (reqSub m.payload)).map ObjRow.access = some .rw) ∧
    (perPort (reqIndex m.payload) = false) ∧
    ((singleWrite (some .spi) (s.roleOf .spi) (reqIndex m.payload) (reqSub m.payload)).isNone = true) ∧
    ((bankWrite (reqIndex m.payload) (reqSub m.payload)).isNone = true) := ⟨0, tunnelMsg 5 0x3620 2 2 [0x80, 0x3F], { write := true, key := objKey 0x3620 2, offset := 2, bytes := [0, 0] }, (let s := tunnelState 5 0x3620 2 2 [0x80, 0x3F]; { s with net.sess := s.net.sess.map fun y => { y with transfer := some { write := true, key := objKey 0x3620 2, offset := 2, bytes := [0, 0] } } }), by decide +kernel⟩

theorem test_meets_TunnelServesTheDictionary_tunnel_timeout : ∃ (x : Transfer) (s : State),
    (s.due (.segment 2) = true) ∧
    ((s.net.sess[(2 : Fin 3)]).transfer = some x) ∧
    (((s.eng.queue[(24 : Fin 64)]).slot[(s.eng.queue[(24 : Fin 64)]).ptr]).state ≠ 1) := ⟨{ write := true, key := 5, req := (7, 8) }, { State.reset with timers := [(.segment 2, 0)], net.sess := State.reset.net.sess.map fun y => { y with transfer := some { write := true, key := 5, req := (7, 8) } } }, by decide +kernel⟩

/-! The hypotheses of PmbusDevicesArePolled are met. -/

theorem test_meets_PmbusDevicesArePolled_pm_discovery : ∃ (d : Fin 32) (mode : Option Byte) (s : State),
    (s.pmRuns d = true) ∧
    ((s.net.pm[d]).discovered = false) := ⟨3, some 0x17, { State.reset with net.force := [(objKey 0x2041 4, 0x8041), (objKey 0x2042 4, 1)] }, by decide +kernel⟩

theorem test_meets_PmbusDevicesArePolled_pm_poll : ∃ (d : Fin 32) (a b c e f g h : Nat) (s : State),
    (s.pmRuns d = true) ∧
    ((s.net.pm[d]).discovered = true) ∧
    ((s.net.pm[d]).refused = 0) ∧
    (s.net.pmXfer[s.pmPort d] = none ∨ s.net.pmXfer[s.pmPort d] = some d) := ⟨3, 0x12345, 0xE830, 0x6000, 0xD010, 5, 6, 7, { State.reset with net.force := [(objKey 0x2041 4, 0x8041), (objKey 0x2042 4, 1)], net.pm := State.reset.net.pm.set 3 { discovered := true, voutMode := some 0x17 } }, by decide +kernel⟩

theorem test_meets_PmbusDevicesArePolled_pm_stretched : ∃ (d : Fin 32) (s : State),
    (s.pmRuns d = true) ∧
    (s.net.pmXfer[s.pmPort d] = none) := ⟨3, { State.reset with net.force := [(objKey 0x2041 4, 0x8041)] }, by decide +kernel⟩

theorem test_meets_PmbusDevicesArePolled_pm_unanswered : ∃ (d : Fin 32) (s : State),
    (s.pmRuns d = true) ∧
    (s.net.pmXfer[s.pmPort d] = none) := ⟨3, { State.reset with net.force := [(objKey 0x2041 4, 0x8041)] }, by decide +kernel⟩

theorem test_meets_PmbusDevicesArePolled_pm_lost : ∃ (d : Fin 32) (s : State),
    (s.pmRuns d = true) ∧
    (3 ≤ (s.net.pm[d]).nacks) ∧
    ((s.net.pm[d]).st ≠ 1) := ⟨3, { State.reset with net.force := [(objKey 0x2041 4, 0x8041)], net.pm := State.reset.net.pm.set 3 { discovered := true, nacks := 3, st := 2 } }, by decide +kernel⟩

theorem test_meets_PmbusDevicesArePolled_pm_alert : ∃ (p : Fin 2) (a v : Nat) (s : State),
    s.pmPortRuns p = true := ⟨0, 0x41, 0x123, { State.reset with net.force := [(objKey 0x2041 4, 0x8041)], net.pm := State.reset.net.pm.set 3 { discovered := true, st := 2 } }, by decide +kernel⟩

theorem test_meets_PmbusDevicesArePolled_pm_stretch : ∃ (p : Fin 2) (s : State),
    (s.net.pmXfer[p].isSome = true) ∧
    (s.due (.pmStretch p) = true) := ⟨1, { State.reset with net.pmXfer := Vector.replicate 2 (some 3), timers := [(.pmStretch 1, 0)] }, by decide +kernel⟩

/-! The hypotheses of TwinPairsOrStaysAlone are met. -/

theorem test_meets_TwinPairsOrStaysAlone_pair_send : ∃ (s : State),
    (s.twin.st = .pairing) ∧
    (s.due .pairSend = true) := ⟨{ State.reset with twin.st := .pairing, timers := [(.pairSend, 0)] }, by decide +kernel⟩

theorem test_meets_TwinPairsOrStaysAlone_pair_send_again : ∃ (s : State),
    (s.twin.st = .refused) ∧
    (s.twin.mayPair = true) := ⟨{ State.reset with twin.st := .refused }, by decide +kernel⟩

theorem test_meets_TwinPairsOrStaysAlone_pair_refused : ∃ (p : PeerInfo) (r : Nat) (s : State),
    (s.up = true) ∧
    (s.twin.st = .pairing) ∧
    (s.pairRefusal p = some r) ∧
    (r ≠ 7) := ⟨{ serial := 9, straps := 3 }, 1, { State.reset with twin.st := .pairing }, by decide +kernel⟩

theorem test_meets_TwinPairsOrStaysAlone_pair_active : ∃ (p : PeerInfo) (s : State),
    (s.up = true) ∧
    (s.twin.st = .pairing) ∧
    (s.pairRefusal p = none) ∧
    (p.hash = s.net.commit.hash) ∧
    (twinActive p.twin = false) ∧
    (s.upd.serial ≤ p.serial) := ⟨{ serial := 1, straps := 64, rev := State.reset.revision, twin := .pairing }, { State.reset with twin.st := .pairing }, by decide +kernel⟩

theorem test_meets_TwinPairsOrStaysAlone_pair_standby : ∃ (p : PeerInfo) (s : State),
    (s.up = true) ∧
    (s.twin.st = .pairing) ∧
    (s.pairRefusal p = none) ∧
    (p.hash = s.net.commit.hash) ∧
    (twinActive p.twin = true) := ⟨{ serial := 1, straps := 64, twin := .activeAlone, rev := State.reset.revision }, { State.reset with twin.st := .pairing }, by decide +kernel⟩

theorem test_meets_TwinPairsOrStaysAlone_pair_timeout : ∃ (s : State),
    (s.twin.st = .pairing) ∧
    (s.due .pairing = true) ∧
    (s.pins.twinActI = false) := ⟨{ State.reset with twin.st := .pairing, timers := [(.pairing, 0)] }, by decide +kernel⟩

/-! The hypotheses of TwinConfigurationFrames are met. -/

theorem test_meets_TwinConfigurationFrames_push : ∃ (w : Session) (d : List Byte) (s : State),
    (s.admits w 0x3000 7 d = true) ∧
    (s.active = true) ∧
    (s.net.newestCopy.isSome = true) := ⟨.spi, leBytes 4 0x68737570, { (hostVendor State.reset) with twin.st := .activePaired, net.store := #v[some { seq := 2, vals := [(objKey 0x2020 1, 3), (objKey 0x2C12 1, 4)] }, none] }, by decide +kernel⟩

theorem test_meets_TwinConfigurationFrames_change_set : ∃ (set : List (Nat × Nat)) (order : List Nat) (s : State),
    (s.up = true) ∧
    (s.standby = true) ∧
    (s.commitBusy = false) := ⟨[(objKey 0x2C12 1, 4)], [3], { State.reset with twin.st := .standbySync }, by decide +kernel⟩

theorem test_meets_TwinConfigurationFrames_answer_yes : ∃ (b : Nat) (rest : List Nat) (s : State),
    (s.up = true) ∧
    (s.active = true) ∧
    (s.twin.awaitPeer = true) ∧
    (s.net.commit.st = .validating) ∧
    (s.net.commit.todo = b :: rest) := ⟨3, [], { State.reset with twin.st := .activePaired, twin.awaitPeer := true, net.commit.st := .validating, net.commit.todo := [3] }, by decide +kernel⟩

theorem test_meets_TwinConfigurationFrames_answer_no : ∃ (s : State),
    (s.up = true) ∧
    (s.active = true) ∧
    (s.twin.awaitPeer = true) ∧
    (s.net.commit.st = .validating) ∧
    (s.net.commit.kind = .user) := ⟨{ State.reset with twin.st := .activePaired, twin.awaitPeer := true, net.commit.st := .validating, net.commit.todo := [3] }, by decide +kernel⟩

theorem test_meets_TwinConfigurationFrames_peer_rollback : ∃ (b : Nat) (l : List Nat) (s : State),
    (s.up = true) ∧
    (s.standby = true) ∧
    (s.net.commit.st = .applying) ∧
    (s.net.commit.kind = .peer) ∧
    (s.net.commit.rolling = false) ∧
    (s.net.commit.applied = b :: l) := ⟨3, [], { State.reset with twin.st := .standbySync, net.commit.st := .applying, net.commit.kind := .peer, net.commit.applied := [3] }, by decide +kernel⟩

theorem test_meets_TwinConfigurationFrames_peer_store : ∃ (scope : Nat) (s : State),
    (s.up = true) ∧
    (s.standby = true) ∧
    (s.storeBusy = false) := ⟨1, { State.reset with twin.st := .standbySync }, by decide +kernel⟩

theorem test_meets_TwinConfigurationFrames_peer_reset : ∃ (s : State),
    (s.up = true) ∧
    (s.standby = true) ∧
    (s.rst.supplyOk = true) := ⟨{ State.reset with twin.st := .standbySync }, by decide +kernel⟩

theorem test_meets_TwinConfigurationFrames_adopt : ∃ (vals a b : List (Nat × Nat)) (s : State),
    (s.up = true) ∧
    (s.active = false) ∧
    (s.twin.st ≠ .solo) := ⟨[(objKey 0x2C12 1, 4)], [], [], { State.reset with twin.st := .pairing }, by decide +kernel⟩

theorem test_meets_TwinConfigurationFrames_bad_frame : ∃ (f : BenutFrame) (s : State),
    s.up = true := ⟨.rollback, State.reset, by decide +kernel⟩

/-! The hypotheses of BenutLinksDelaysAndProxiedMessages are met. -/

theorem test_meets_BenutLinksDelaysAndProxiedMessages_delay_request : ∃ (l : Fin 5) (s : State),
    (s.due (.delayReq l) = true) ∧
    (s.twin.linkUp.getLsbD l = true) ∧
    (s.tbRuns = true) := ⟨2, { State.reset with timers := [(.delayReq 2, 0)], twin.linkUp := 4 }, by decide +kernel⟩

theorem test_meets_BenutLinksDelaysAndProxiedMessages_delay_answer : ∃ (l : Fin 5) (x : Nat) (at_ : Rat) (s : State),
    (s.up = true) ∧
    (s.tbRuns = true) := ⟨0, 100, 250, State.reset, by decide +kernel⟩

theorem test_meets_BenutLinksDelaysAndProxiedMessages_delay_taken : ∃ (l : Fin 5) (a b c : Nat) (at_ : Rat) (s : State),
    s.up = true := ⟨1, 100, 200, 300, 450, State.reset, by decide +kernel⟩

theorem test_meets_BenutLinksDelaysAndProxiedMessages_link_up : ∃ (s : State),
    (s.up = true) ∧
    (s.blkHeld 8 = false) ∧
    (s.twin.linkUp.getLsbD 0 = false) := ⟨{ State.reset with twin.mayPair := false }, by decide +kernel⟩

theorem test_meets_BenutLinksDelaysAndProxiedMessages_link_up_cascade : ∃ (l : Fin 5) (s : State),
    (l ≠ 0) ∧
    (s.up = true) ∧
    (s.blkHeld (linkBlock l) = false) ∧
    (s.twin.linkUp.getLsbD l = false) := ⟨3, State.reset, by decide +kernel⟩

theorem test_meets_BenutLinksDelaysAndProxiedMessages_message : ∃ (dst src : Byte) (own : Bool) (q : Nat) (i : Fin 64) (m : MsgSlot) (s : State),
    (s.up = true) ∧
    (q < 56) ∧
    (inbound q = some i) ∧
    (((s.eng.queue[i]).slot[(s.eng.queue[i]).ptr]).state ≠ 1) := ⟨0, 0, false, 48, 52, { payload := [1, 2], seq := 0x21 }, State.reset, by decide +kernel⟩

theorem test_meets_BenutLinksDelaysAndProxiedMessages_message_full : ∃ (dst src : Byte) (own : Bool) (q : Nat) (i : Fin 64) (m : MsgSlot) (s : State),
    (s.up = true) ∧
    (q < 56) ∧
    (inbound q = some i) ∧
    (((s.eng.queue[i]).slot[(s.eng.queue[i]).ptr]).state = 1) := ⟨0, 0, false, 48, 52, { payload := [1, 2], seq := 0x21 }, { State.reset with eng.queue := State.reset.eng.queue.set 52 { slot := Vector.replicate 16 { state := 1 } } }, by decide +kernel⟩

theorem test_meets_BenutLinksDelaysAndProxiedMessages_message_ack : ∃ (dst src : Byte) (own : Bool) (q : Fin 64) (k : Fin 16) (code : Nat) (s : State),
    (s.up = true) ∧
    (q.val < 56) ∧
    (s.twin.proxyOut.contains (q.val, k.val) = true) ∧
    (s.receiver q = 0x20) ∧
    (((s.eng.queue[q]).slot[k]).state = 1) ∧
    (((s.eng.queue[q]).slot[k]).sepoch = (s.epochOf (s.sender q)).toNat) ∧
    (s.twin.proxyIn = []) := ⟨0, 0, false, 49, 2, 7, { State.reset with twin.proxyOut := [(49, 2)], timers := [(.proxy 49 2, 9)], eng.queue := State.reset.eng.queue.set 49 { slot := Vector.replicate 16 { state := 1 } } }, by decide +kernel⟩

theorem test_meets_BenutLinksDelaysAndProxiedMessages_proxy_timeout : ∃ (q : Fin 64) (k : Fin 16) (s : State),
    (s.due (.proxy q k) = true) ∧
    (s.receiver q = identCode (if q < 56 then 9 else 10)) ∧
    (((s.eng.queue[q]).slot[k]).state = 1) ∧
    (((s.eng.queue[q]).slot[k]).sepoch = (s.epochOf (s.sender q)).toNat) ∧
    (s.twin.proxyIn = []) := ⟨49, 2, { State.reset with twin.proxyOut := [(49, 2)], timers := [(.proxy 49 2, 0)], eng.queue := State.reset.eng.queue.set 49 { slot := Vector.replicate 16 { state := 1 } } }, by decide +kernel⟩

/-! The hypotheses of TwinMirrorsState are met. -/

theorem test_meets_TwinMirrorsState_mirror : ∃ (f : MirrorFrame) (err : Rat) (s : State),
    (s.up = true) ∧
    (s.standby = true) := ⟨{ seq := 7, stage := 2 }, 5, { State.reset with twin.st := .standbyUnsync }, by decide +kernel⟩

theorem test_meets_TwinMirrorsState_mirror_bad : ∃ (f : MirrorFrame) (err : Rat) (s : State),
    (s.up = true) ∧
    (s.twin.st = .standbySync) ∧
    (s.running (.limit 0x0E08 noInst) = false) := ⟨{}, 0, { State.reset with twin.st := .standbySync, twin.validRun := 16 }, by decide +kernel⟩

theorem test_meets_TwinMirrorsState_state : ∃ (f : StateFrame) (s : State),
    (s.up = true) ∧
    (s.standby = true) := ⟨{ rails := Vector.replicate 32 (.good, true, false, false, false, 1), br := Vector.replicate 16 (.on, 2), feeds := Vector.replicate 2 (some true) }, { State.reset with twin.st := .standbySync }, by decide +kernel⟩

theorem test_meets_TwinMirrorsState_state_bad : ∃ (f : StateFrame) (s : State),
    (s.up = true) ∧
    (s.twin.st = .standbySync) := ⟨{}, { State.reset with twin.st := .standbySync, twin.validRun := 16 }, by decide +kernel⟩

theorem test_meets_TwinMirrorsState_heartbeat : ∃ (seq twin hash : Nat) (s : State),
    (s.up = true) ∧
    (s.active = true) ∧
    (twin = 5 ∨ twin = 6) := ⟨9, 5, 0x1234, { State.reset with twin.st := .activeAlone }, by decide +kernel⟩

theorem test_meets_TwinMirrorsState_synchronised : ∃ (s : State),
    (s.twin.st = .standbyUnsync) ∧
    (s.due .aligned = true) ∧
    (s.inSync = true) := ⟨{ State.reset with twin.st := .standbyUnsync, twin.alignedSince := some 0, twin.validRun := 16, twin.peerHash := State.reset.net.commit.hash, timers := [(.aligned, 0)] }, by decide +kernel⟩

/-! The hypotheses of TwinTokenMovesAndIsTakenOver are met. -/

theorem test_meets_TwinTokenMovesAndIsTakenOver_handover : ∃ (w : Session) (d : List Byte) (s : State),
    (s.admits w 0x3000 6 d = true) ∧
    (s.twin.st = .activePaired) ∧
    (s.peerSynced = true) := ⟨.spi, leBytes 4 0x65766967, { (hostVendor State.reset) with twin.st := .activePaired, pins.twinActO := true, twin.peer := some { twin := .standbySync } }, by decide +kernel⟩

theorem test_meets_TwinTokenMovesAndIsTakenOver_handover_refused : ∃ (w : Session) (d : List Byte) (s : State),
    (s.admits w 0x3000 6 d = true) ∧
    (s.peerSynced = false) := ⟨.spi, leBytes 4 0x65766967, { (hostVendor State.reset) with twin.st := .activePaired }, by decide +kernel⟩

theorem test_meets_TwinTokenMovesAndIsTakenOver_reset_standby : ∃ (w : Session) (d : List Byte) (s : State),
    (s.admits w 0x3000 8 d = true) ∧
    (s.active = true) := ⟨.spi, leBytes 4 0x65736572, { (hostVendor State.reset) with twin.st := .activePaired }, by decide +kernel⟩

theorem test_meets_TwinTokenMovesAndIsTakenOver_reset_standby_own : ∃ (w : Session) (d : List Byte) (s : State),
    (s.admits w 0x3000 8 d = true) ∧
    (s.standby = true) ∧
    (s.releasing = false) ∧
    (s.rst.supplyOk = true) := ⟨.spi, leBytes 4 0x65736572, { (hostVendor State.reset) with twin.st := .standbySync }, by decide +kernel⟩

theorem test_meets_TwinTokenMovesAndIsTakenOver_conflict : ∃ (s : State),
    (s.active = true) ∧
    (s.evr.staging.length < 15) := ⟨{ State.reset with twin.st := .activePaired, pins.twinActO := true }, by decide +kernel⟩

theorem test_meets_TwinTokenMovesAndIsTakenOver_missed : ∃ (s : State),
    (s.twin.st = .activePaired) ∧
    (2 ≤ s.twin.missed) := ⟨{ State.reset with twin.st := .activePaired, twin.missed := 2, pins.twinActO := true }, by decide +kernel⟩

theorem test_meets_TwinTokenMovesAndIsTakenOver_token_loss : ∃ (s : State),
    s.standby = true := ⟨{ State.reset with twin.st := .standbyUnsync, pins.twinActI := true }, by decide +kernel⟩

theorem test_meets_TwinTokenMovesAndIsTakenOver_heartbeat_lost : ∃ (s : State),
    (s.standby = true) ∧
    (s.due .mirrorLost = true) ∧
    (s.evr.staging.length < 15) := ⟨{ State.reset with twin.st := .standbySync, timers := [(.mirrorLost, 0)] }, by decide +kernel⟩

theorem test_meets_TwinTokenMovesAndIsTakenOver_drive : ∃ (s : State),
    (s.active = true) ∧
    (s.due .takeDrive = true) := ⟨{ State.reset with twin.st := .activeAlone, twin.driveWait := true, timers := [(.takeDrive, 0)], dist.br := State.reset.dist.br.set 3 { st := .on } }, by decide +kernel⟩

theorem test_meets_TwinTokenMovesAndIsTakenOver_standby_lost : ∃ (s : State),
    (s.twin.st = .activePaired) ∧
    (s.due .standbyLost = true) := ⟨{ State.reset with twin.st := .activePaired, timers := [(.standbyLost, 0)] }, by decide +kernel⟩

theorem test_meets_TwinTokenMovesAndIsTakenOver_act_i : ∃ (level : Bool) (s : State),
    (s.active = false ∨ level = false) ∧
    (s.standby = false ∨ level = true) := ⟨true, { State.reset with twin.st := .pairing, pins.twinPar := true }, by decide +kernel⟩

/-! The hypotheses of CascadeTimeReportsAndAllocation are met. -/

theorem test_meets_CascadeTimeReportsAndAllocation_time_launch : ∃ (s : State),
    (s.tbRuns = true) ∧
    (s.inRing = true) ∧
    (s.speaks = true) ∧
    (s.tb.tod % 1000000 = 0) ∧
    (s.isMaster = true ∨ (s.raw 0x2100 1 = 4 ∧ s.casc.relay = true)) := ⟨{ State.reset with casc.st := .master }, by decide +kernel⟩

theorem test_meets_CascadeTimeReportsAndAllocation_time_received : ∃ (dst src : Byte) (tod : Nat) (arrival : Rat) (s : State),
    (s.up = true) ∧
    (s.casc.st = .member) ∧
    (s.forMe dst = true) ∧
    (srcPos src ≠ s.pins.cascPos.val) ∧
    (s.raw 0x2100 1 = 4) ∧
    (s.tbRuns = true) ∧
    (s.steersItself = true) := ⟨0xFF, 0, 1000, 1500, { State.reset with casc.st := .member, casc.master := 0, pins.cascPos := 2, net.force := [(objKey 0x2100 1, 4)] }, by decide +kernel⟩

theorem test_meets_CascadeTimeReportsAndAllocation_time_lost : ∃ (s : State),
    s.due .cascTimeLost = true := ⟨{ State.reset with timers := [(.cascTimeLost, 0)], tb.cascOk := true }, by decide +kernel⟩

theorem test_meets_CascadeTimeReportsAndAllocation_report_send : ∃ (s : State),
    (s.due .cascReport = true) ∧
    (s.inRing = true) ∧
    (s.speaks = true) ∧
    (s.isMaster = false) := ⟨{ State.reset with casc.st := .member, timers := [(.cascReport, 0)] }, by decide +kernel⟩

theorem test_meets_CascadeTimeReportsAndAllocation_report_own : ∃ (s : State),
    (s.due .cascReport = true) ∧
    (s.inRing = true) ∧
    (s.speaks = true) ∧
    (s.isMaster = true) := ⟨{ State.reset with casc.st := .master, timers := [(.cascReport, 0)] }, by decide +kernel⟩

theorem test_meets_CascadeTimeReportsAndAllocation_report_received : ∃ (dst src : Byte) (a b c e : Nat) (s : State),
    (s.up = true) ∧
    (s.isMaster = true) ∧
    (s.speaks = true) ∧
    (s.forMe dst = true) ∧
    (srcPos src ≠ s.pins.cascPos.val) := ⟨0xFF, 3, 0x447A0000, 0x42C80000, 0x3F800000, 0x3F000000, { State.reset with casc.st := .master }, by decide +kernel⟩

theorem test_meets_CascadeTimeReportsAndAllocation_allocation_period : ∃ (s : State),
    (s.due .cascAlloc = true) ∧
    (s.isMaster = true) ∧
    (s.casc.demote = false) := ⟨{ State.reset with casc.st := .master, timers := [(.cascAlloc, 0)], net.force := [(objKey 0x3010 2, 2), (objKey 0x3010 3, 0x461C4000)], casc.pReq := State.reset.casc.pReq.set 1 500, casc.reportAt := State.reset.casc.reportAt.set 1 (some 0) }, by decide +kernel⟩

theorem test_meets_CascadeTimeReportsAndAllocation_allocation_demoted : ∃ (s : State),
    (s.due .cascAlloc = true) ∧
    (s.isMaster = true) ∧
    (s.casc.demote = true) := ⟨{ State.reset with casc.st := .master, casc.demote := true, timers := [(.cascAlloc, 0)] }, by decide +kernel⟩

theorem test_meets_CascadeTimeReportsAndAllocation_allocation_received : ∃ (dst src : Byte) (l : List Nat) (n : Nat) (s : State),
    (s.up = true) ∧
    (s.casc.st = .member ∨ s.casc.st = .frozen) ∧
    (s.forMe dst = true) ∧
    (srcPos src ≠ s.pins.cascPos.val) ∧
    (s.casc.master = srcPos src) := ⟨0xFF, 0, [0, 0, 0x447A0000], 5, { State.reset with casc.st := .frozen, casc.master := 0, pins.cascPos := 2 }, (by decide +kernel)⟩

theorem test_meets_CascadeTimeReportsAndAllocation_allocation_heard : ∃ (dst src : Byte) (l : List Nat) (n : Nat) (s : State),
    (s.up = true) ∧
    (s.casc.st = .master) ∧
    (s.forMe dst = true) ∧
    (srcPos src ≠ s.pins.cascPos.val) := ⟨0xFF, 3, [], 5, { State.reset with casc.st := .master, casc.master := 0 }, (by decide +kernel)⟩

/-! The hypotheses of CascadeMasterAndRing are met. -/

theorem test_meets_CascadeMasterAndRing_master_lost : ∃ (s : State),
    (s.due .masterLost = true) ∧
    (s.casc.st = .member) := ⟨{ State.reset with casc.st := .member, timers := [(.masterLost, 0)] }, by decide +kernel⟩

theorem test_meets_CascadeMasterAndRing_promote : ∃ (w : Session) (d : List Byte) (s : State),
    (s.admits w 0x3010 6 d = true) ∧
    (s.casc.st = .frozen) := ⟨.spi, leBytes 4 0x7473616D, { (hostVendor State.reset) with casc.st := .frozen, pins.cascPos := 2 }, by decide +kernel⟩

theorem test_meets_CascadeMasterAndRing_promote_refused : ∃ (w : Session) (d : List Byte) (s : State),
    (s.admits w 0x3010 6 d = true) ∧
    (s.promotionRefused = true) := ⟨.spi, leBytes 4 0x7473616D, { (hostVendor State.reset) with casc.st := .member, pins.cascPos := 2 }, by decide +kernel⟩

theorem test_meets_CascadeMasterAndRing_announcement : ∃ (dst src : Byte) (s : State),
    (s.up = true) ∧
    (s.casc.st = .member ∨ s.casc.st = .frozen) ∧
    (s.forMe dst = true) ∧
    (srcPos src ≠ s.pins.cascPos.val) := ⟨0xFF, 3, { State.reset with casc.st := .frozen, casc.master := 0, pins.cascPos := 2 }, by decide +kernel⟩

theorem test_meets_CascadeMasterAndRing_announcement_master : ∃ (dst src : Byte) (promotion : Bool) (s : State),
    (s.up = true) ∧
    (s.isMaster = true) ∧
    (s.forMe dst = true) ∧
    (srcPos src ≠ s.pins.cascPos.val) := ⟨0xFF, 3, true, { State.reset with casc.st := .master, casc.master := 0 }, by decide +kernel⟩

theorem test_meets_CascadeMasterAndRing_forwarded : ∃ (dst src : Byte) (own promotion : Bool) (l : List Nat) (n : Nat) (s : State),
    (s.up = true) ∧
    (s.casc.st ≠ .off) ∧
    (s.forMe dst = false) := ⟨0x15, 3, false, true, [], 0, { State.reset with casc.st := .member, pins.cascPos := 2 }, by decide +kernel⟩

theorem test_meets_CascadeMasterAndRing_duplicate : ∃ (dst src : Byte) (l : List Nat) (n : Nat) (s : State),
    (s.up = true) ∧
    (s.inRing = true) ∧
    (s.forMe dst = true) ∧
    (srcPos src = s.pins.cascPos.val) := ⟨0xFF, 2, [], 0, { State.reset with casc.st := .member, pins.cascPos := 2 }, by decide +kernel⟩

/-! The hypotheses of ResetSourcesGiveCauseAndScope are met. -/

theorem test_meets_ResetSourcesGiveCauseAndScope_brown_out : ∃ (s : State),
    s.releasing = false := ⟨State.reset, by decide +kernel⟩

theorem test_meets_ResetSourcesGiveCauseAndScope_power_good : ∃ (s : State),
    s.rst.supplyOk = false := ⟨{ State.reset with rst.supplyOk := false, rst.phase := .held }, by decide +kernel⟩

theorem test_meets_ResetSourcesGiveCauseAndScope_vcore : ∃ (s : State),
    (s.rst.phase = .released ∨ s.rst.phase = .recovery) ∧
    (s.rst.supplyOk = true) := ⟨State.reset, by decide +kernel⟩

theorem test_meets_ResetSourcesGiveCauseAndScope_rst_n : ∃ (s : State),
    (s.releasing = false) ∧
    (s.rst.supplyOk = true) ∧
    (s.pins.twinPar = false) := ⟨{ State.reset with tb.tod := 77, dist.quench := 3 }, by decide +kernel⟩

theorem test_meets_ResetSourcesGiveCauseAndScope_rst_n_multiple : ∃ (s : State),
    (s.releasing = true) ∧
    (s.rst.supplyOk = true) ∧
    (s.rst.scope = .cold) := ⟨{ State.reset with rst.phase := .step 4, rst.cause := 2, rst.scope := .cold }, by decide +kernel⟩

theorem test_meets_ResetSourcesGiveCauseAndScope_escalated : ∃ (s : State),
    (s.due .rstEscalate = true) ∧
    (s.rst.supplyOk = true) := ⟨{ State.reset with rst.phase := .step 3, rst.cause := 8, timers := [(.rstEscalate, 0)] }, by decide +kernel⟩

theorem test_meets_ResetSourcesGiveCauseAndScope_soft_warm_reg : ∃ (s : State),
    (s.hostUp = true) ∧
    (s.releasing = false) ∧
    (s.rst.supplyOk = true) := ⟨State.reset, by decide +kernel⟩

theorem test_meets_ResetSourcesGiveCauseAndScope_soft_warm_dict : ∃ (w : Session) (s : State),
    (s.admits w 0x5F20 2 (leBytes 4 sigWarm) = true) ∧
    (s.releasing = false) ∧
    (s.rst.supplyOk = true) := ⟨.spi, hostVendor State.reset, by decide +kernel⟩

theorem test_meets_ResetSourcesGiveCauseAndScope_soft_cold_reg : ∃ (s : State),
    (s.hostUp = true) ∧
    (s.releasing = false) ∧
    (s.rst.supplyOk = true) ∧
    (s.coldRefused = false) := ⟨State.reset, by decide +kernel⟩

theorem test_meets_ResetSourcesGiveCauseAndScope_soft_cold_refused : ∃ (w : Session) (s : State),
    (s.admits w 0x5F20 2 (leBytes 4 sigCold) = true) ∧
    (s.coldRefused = true) := ⟨.spi, { (hostVendor State.reset) with net.storing := some (0, {}, 1, .nvc) }, by decide +kernel⟩

/-! The hypotheses of BlockResetsAndReleaseSteps are met. -/

theorem test_meets_BlockResetsAndReleaseSteps_block_request : ∃ (b : Byte) (s : State),
    (s.hostUp = true) ∧
    (blockCode b.toNat = true) ∧
    ((s.rst.blk.any fun x => x.code = b.toNat) = false) := ⟨1, State.reset, by decide +kernel⟩

theorem test_meets_BlockResetsAndReleaseSteps_block_assert : ∃ (b : Nat) (idle : Bool) (x : BlkReset) (s : State),
    (s.rst.blk.find? (fun x => x.code = b) = some x) ∧
    (x.asserted = false) ∧
    (idle = true ∨ s.due (.blkIdle b) = true) := ⟨1, true, { code := 1 }, { State.reset with rst.blk := [{ code := 1 }] }, by decide +kernel⟩

theorem test_meets_BlockResetsAndReleaseSteps_block_assert_measure : ∃ (idle : Bool) (x : BlkReset) (s : State),
    (s.rst.blk.find? (fun x => x.code = 1) = some x) ∧
    (x.asserted = false) ∧
    (idle = true ∨ s.due (.blkIdle 1) = true) := ⟨true, { code := 1 }, { State.reset with rst.blk := [{ code := 1 }] }, by decide +kernel⟩

theorem test_meets_BlockResetsAndReleaseSteps_block_release : ∃ (b : Nat) (x : BlkReset) (s : State),
    (s.rst.blk.find? (fun x => x.code = b) = some x) ∧
    (x.asserted = true) ∧
    (s.due (.blkHold b) = true) := ⟨1, { code := 1, asserted := true, forced := true }, { State.reset with rst.blk := [{ code := 1, asserted := true, forced := true }], timers := [(.blkHold 1, 0)] }, by decide +kernel⟩

theorem test_meets_BlockResetsAndReleaseSteps_parity : ∃ (b : Nat) (s : State),
    (s.releasing = false) ∧
    (s.rst.supplyOk = true) := ⟨4, State.reset, by decide +kernel⟩

theorem test_meets_BlockResetsAndReleaseSteps_step1 : ∃ (a b c : BitVec 7) (s : State),
    (s.rst.phase = .step 1) ∧
    (s.rst.scope = .cold) ∧
    (s.running .supplyWait = false ∨ s.due .supplyWait = true) := ⟨0x42, 0x42, 0x40, { State.reset with rst.phase := .step 1, rst.scope := .cold }, by decide +kernel⟩

theorem test_meets_BlockResetsAndReleaseSteps_steps : ∃ (a b c : BitVec 7) (n : Nat) (s : State),
    (s.rst.phase = .step n) ∧
    (n = 2 ∨ n = 7 ∨ n = 8) := ⟨0, 0, 0, 7, { State.reset with rst.phase := .step 7 }, by decide +kernel⟩

theorem test_meets_BlockResetsAndReleaseSteps_step9 : ∃ (a b c : BitVec 7) (s : State),
    (s.rst.phase = .step 9) ∧
    (s.pins.twinPar = false) ∧
    (s.upd.phase = .none) := ⟨0, 0, 0, { State.reset with rst.phase := .step 9, rst.cause := 8 }, by decide +kernel⟩

theorem test_meets_BlockResetsAndReleaseSteps_stall : ∃ (n d : Nat) (s : State),
    (s.rst.phase = .step n) ∧
    (n ≠ 5) ∧
    (s.deadline .stepBound = some d) ∧
    (d ≤ s.now) ∧
    (s.rst.supplyOk = true) := ⟨4, 0, { State.reset with rst.phase := .step 4, timers := [(.stepBound, 0)] }, by decide +kernel⟩

/-! The hypotheses of TrimBootWipeAndSupplies are met. -/

theorem test_meets_TrimBootWipeAndSupplies_trim_good : ∃ (k : Fin 2) (s : State),
    (s.rst.phase = .step 4) ∧
    (s.meas.calHalfNow = some k) := ⟨(match State.reset.meas.calHalfNow with | some k => k | none => 0), { State.reset with rst.phase := .step 4 }, by decide +kernel⟩

theorem test_meets_TrimBootWipeAndSupplies_trim_third : ∃ (dev : Bool) (s : State),
    (s.rst.phase = .step 4) ∧
    (s.rst.trimFailed = 2) := ⟨true, { State.reset with rst.phase := .step 4, rst.trimFailed := 2 }, by decide +kernel⟩

theorem test_meets_TrimBootWipeAndSupplies_trim_ack : ∃ (w : Session) (d : List Byte) (s : State),
    (s.admits w 0x5F20 7 d = true) ∧
    (s.rst.protective = true) ∧
    (s.rst.bootDue = true) := ⟨.spi, leBytes 4 0x6E6B6361, { (hostVendor State.reset) with rst.protective := true }, by decide +kernel⟩

theorem test_meets_TrimBootWipeAndSupplies_rom_warm : ∃ (okA okB : Bool) (s : State),
    (s.rst.phase = .step 5) ∧
    (s.upd.life ≠ .scrapped) ∧
    (s.upd.phase = .none) ∧
    (s.rst.scope = .warm) := ⟨true, true, { State.reset with rst.phase := .step 5, rst.scope := .warm }, by decide +kernel⟩

theorem test_meets_TrimBootWipeAndSupplies_rom_recover : ∃ (digests okA okB : Bool) (s : State),
    (s.rst.phase = .step 5) ∧
    (s.upd.life ≠ .scrapped) := ⟨true, true, true, { State.reset with rst.phase := .step 5 }, by decide +kernel⟩

theorem test_meets_TrimBootWipeAndSupplies_wipe : ∃ (old : Life) (s : State),
    (s.rst.phase = .step 3) ∧
    (s.upd.wipePending = some old) := ⟨.provisioned, { State.reset with rst.phase := .step 3, upd.wipePending := some .provisioned, mem.user := [(0x206D0000, 1)] }, by decide +kernel⟩

theorem test_meets_TrimBootWipeAndSupplies_hold_end : ∃ (s : State),
    (s.due .hold = true) ∧
    (s.holding = true) := ⟨{ State.reset with timers := [(.hold, 0)], pins.brHold := 3, pins.fdHold := 1 }, by decide +kernel⟩

theorem test_meets_TrimBootWipeAndSupplies_brown_warn : ∃ (s : State),
    s.pins.brownWarn = false := ⟨State.reset, by decide +kernel⟩

theorem test_meets_TrimBootWipeAndSupplies_brown_clear : ∃ (s : State),
    s.bat.deferred = false := ⟨{ State.reset with pins.brownWarn := true, pins.brownSeen := true }, by decide +kernel⟩

theorem test_meets_TrimBootWipeAndSupplies_range : ∃ (ov range : Bool) (s : State),
    (s.due (.supplyRange false) = false) ∧
    (s.due (.supplyRange true) = false) := ⟨true, false, State.reset, by decide +kernel⟩

theorem test_meets_TrimBootWipeAndSupplies_range_set : ∃ (s : State),
    (s.pins.vauxOv = false) ∧
    (s.pins.vddioRange = false) := ⟨State.reset, by decide +kernel⟩

theorem test_meets_TrimBootWipeAndSupplies_range_recorded : ∃ (a b : Bool) (s : State),
    (a = true ∨ b = true) ∧
    (s.pins.vauxOv = a) ∧
    (s.pins.vddioRange = b) ∧
    (a = true → s.due (.supplyRange false) = true) ∧
    (b = true → s.due (.supplyRange true) = true) := ⟨true, false, { State.reset with pins.vauxOv := true, timers := [(.supplyRange false, 0)] }, by decide +kernel⟩

/-! The hypotheses of ScrubbingAndUserArea are met. -/

theorem test_meets_ScrubbingAndUserArea_scrub_clean : ∃ (m : MemKind) (word : Nat) (code : BitVec 80) (used : Bool) (s : State),
    (m ≠ .mram) ∧
    (word % memWords m + 1 ≠ memWords m) ∧
    (rsLane code.toNat 0 = .clean) ∧
    (rsLane code.toNat 1 = .clean) := ⟨.main, 5, 0, true, State.reset, by decide +kernel⟩

theorem test_meets_ScrubbingAndUserArea_scrub_clean_mram : ∃ (word : Nat) (code : BitVec 80) (used : Bool) (s : State),
    (s.mem.scrubPos + 1 ≠ memWords .mram) ∧
    (rsLane code.toNat 0 = .clean) ∧
    (rsLane code.toNat 1 = .clean) := ⟨0, 0, true, State.reset, by decide +kernel⟩

theorem test_meets_ScrubbingAndUserArea_scrub_corrected : ∃ (word : Nat) (code : BitVec 80) (used : Bool) (n e : Nat) (s : State),
    (word % memWords .main + 1 ≠ memWords .main) ∧
    (rsLane code.toNat 0 = .corrected n e) ∧
    (rsLane code.toNat 1 = .clean) ∧
    (s.running (.limit 0x1001 noInst) = false) := ⟨5, (BitVec.ofNat 80 (rsEncode 5 ^^^ 3)), false, (match rsLane ((BitVec.ofNat 80 (rsEncode 5 ^^^ 3)).toNat) 0 with | .corrected n _ => n | _ => 0), (match rsLane ((BitVec.ofNat 80 (rsEncode 5 ^^^ 3)).toNat) 0 with | .corrected _ e => e | _ => 0), State.reset, by decide +kernel⟩

theorem test_meets_ScrubbingAndUserArea_scrub_critical : ∃ (word : Nat) (code : BitVec 80) (s : State),
    (rsLane code.toNat 0 = .uncorrectable) ∧
    (s.active = false) ∧
    (s.releasing = false) ∧
    (s.rst.supplyOk = true) := ⟨5, (BitVec.ofNat 80 (rsEncode 5 ^^^ 0x101)), State.reset, by decide +kernel⟩

theorem test_meets_ScrubbingAndUserArea_scrub_user : ∃ (word : Nat) (code : BitVec 80) (used : Bool) (s : State),
    (s.mem.scrubPos + 1 ≠ memWords .mram) ∧
    (partitionOf (memAddress .mram s.mem.scrubPos) = 7) ∧
    (rsLane code.toNat 0 = .uncorrectable) ∧
    (s.mem.badWords.contains (memAddress .mram s.mem.scrubPos) = false) ∧
    (Memory.wf s.mem.user = true) := ⟨5, (BitVec.ofNat 80 (rsEncode 5 ^^^ 0x101)), true, { State.reset with mem.scrubPos := (0x206D0010 - 0x20000000) / 8, mem.user := [(0x206D0011, 5), (0x206D0018, 6)] }, by decide +kernel⟩

theorem test_meets_ScrubbingAndUserArea_scrub_late : ∃ (m : MemKind) (s : State),
    s.due (.scrubPass (memNumber m)) = true := ⟨.queue, { State.reset with timers := [(.scrubPass 1, 0)] }, by decide +kernel⟩

theorem test_meets_ScrubbingAndUserArea_rate : ∃ (m : MemKind) (s : State),
    (s.raw 0x5F30 0x0C < s.mem.hourCorr[memNumber m]) ∧
    (s.mem.hour = s.now / 3600000000000) ∧
    (s.mem.hourRaised[memNumber m] = false) := ⟨.main, { State.reset with mem.hourCorr := Vector.replicate 3 1000000 }, by decide +kernel⟩

theorem test_meets_ScrubbingAndUserArea_nvc_store : ∃ (scope : Fin 4) (s : State),
    (s.hostUp = true) ∧
    (scope ≠ 0) ∧
    (roleAllows (s.roleOf .spi) .engineer = true) ∧
    (s.mem.nvBusy = false) ∧
    (s.storeBusy = false) := ⟨1, hostVendor State.reset, by decide +kernel⟩

theorem test_meets_ScrubbingAndUserArea_nvc_store_role : ∃ (scope : Fin 4) (s : State),
    (s.hostUp = true) ∧
    (scope ≠ 0) ∧
    (roleAllows (s.roleOf .spi) .engineer = false) := ⟨1, State.reset, by decide +kernel⟩

theorem test_meets_ScrubbingAndUserArea_user_write : ∃ (s : State),
    (s.hostUp = true) ∧
    (roleAllows (s.roleOf .spi) .operator = true) ∧
    (s.mem.nvBusy = false) ∧
    (s.pins.brownWarn = false) ∧
    (userWord s.mem.nvAddr.toNat = true) ∧
    (Memory.wf s.mem.user = true) := ⟨{ (hostVendor State.reset) with mem.nvAddr := 0x206D0010, mem.nvData0 := 0x11220033, mem.nvData1 := 7, mem.user := [(0x206D0011, 5), (0x206D0018, 6)] }, by decide +kernel⟩

theorem test_meets_ScrubbingAndUserArea_user_write_outside : ∃ (s : State),
    (s.hostUp = true) ∧
    (roleAllows (s.roleOf .spi) .operator = true) ∧
    (s.mem.nvBusy = false) ∧
    (s.pins.brownWarn = false) ∧
    (userWord s.mem.nvAddr.toNat = false) := ⟨{ (hostVendor State.reset) with mem.nvAddr := 0x206D0014 }, by decide +kernel⟩

/-! The hypotheses of RecorderWritesScansAndClears are met. -/

theorem test_meets_RecorderWritesScansAndClears_record_written : ∃ (x : Record) (l : List Record) (s : State),
    (s.evr.busy = true) ∧
    (s.evr.staging = x :: l) ∧
    (s.evr.loadingSlot s.evr.next = false) := ⟨{ code := 0x0A05 }, [], { State.reset with evr.running := true, evr.staging := [{ code := 0x0A05 }] }, by decide +kernel⟩

theorem test_meets_RecorderWritesScansAndClears_scan : ∃ (incomplete : Bool) (s : State),
    (s.running .scan = true) ∧
    (s.evr.torn = false) ∧
    (s.rst.owed = []) := ⟨false, { State.reset with timers := [(.scan, 9)], rst.owed := [] }, by decide +kernel⟩

theorem test_meets_RecorderWritesScansAndClears_scan_owed : ∃ (incomplete : Bool) (code : Nat) (vals : List Nat) (s : State),
    (s.running .scan = true) ∧
    (s.evr.torn = false) ∧
    (s.rst.owed = [(code, vals)]) := ⟨false, 0x0F01, [1], { State.reset with timers := [(.scan, 9)], rst.owed := [(0x0F01, [1])] }, by decide +kernel⟩

theorem test_meets_RecorderWritesScansAndClears_cursor : ∃ (d : List Byte) (s : State),
    s.hostUp = true := ⟨leBytes 4 7, State.reset, by decide +kernel⟩

theorem test_meets_RecorderWritesScansAndClears_window : ∃ (k : Fin 3) (r : Record) (s : State),
    ((s.evr.win[k]).state = 1) ∧
    (s.evr.recs.find? (fun r => r.seq = (s.evr.win[k]).cursor) = some r) := ⟨1, { seq := 7, code := 0x0A05 }, { State.reset with evr.win := State.reset.evr.win.set 1 { state := 1, cursor := 7 }, evr.recs := [{ seq := 7, code := 0x0A05 }] }, by decide +kernel⟩

theorem test_meets_RecorderWritesScansAndClears_window_none : ∃ (k : Fin 3) (bad : List Nat) (s : State),
    ((s.evr.win[k]).state = 1) ∧
    (s.evr.recs.find? (fun r => r.seq = (s.evr.win[k]).cursor) = none) := ⟨1, [], { State.reset with evr.win := State.reset.evr.win.set 1 { state := 1, cursor := 7 } }, by decide +kernel⟩

theorem test_meets_RecorderWritesScansAndClears_clear_begin : ∃ (w : Session) (d : List Byte) (s : State),
    (s.admits w 0x3200 5 d = true) ∧
    (s.evr.clearing = false) := ⟨.spi, leBytes 4 0x65706977, hostVendor State.reset, by decide +kernel⟩

theorem test_meets_RecorderWritesScansAndClears_cleared : ∃ (s : State),
    s.evr.clearing = true := ⟨{ State.reset with evr.clearing := true, evr.recs := [{ seq := 7 }], evr.next := 8 }, by decide +kernel⟩

theorem test_meets_RecorderWritesScansAndClears_manual : ∃ (w : Session) (k : Fin 64) (s : State),
    (s.admits w 0x3200 7 (leBytes 1 k.val) = true) ∧
    (s.raw 0x3210 (k + 1) = 8) := ⟨.spi, 5, { (hostVendor State.reset) with net.force := [(objKey 0x3210 6, 8)] }, by decide +kernel⟩

/-! The hypotheses of ImagesAreStagedAndVerified are met. -/

theorem test_meets_ImagesAreStagedAndVerified_begin : ∃ (w : Session) (s : State),
    (s.admits w 0x3400 4 (leBytes 4 0x6E676562) = true) ∧
    (s.updBusy = false) := ⟨.spi, { (hostVendor State.reset) with upd.slot := State.reset.upd.slot.set 1 { st := .valid, bytes := [1] } }, by decide +kernel⟩

theorem test_meets_ImagesAreStagedAndVerified_begin_reg : ∃ (s : State),
    (s.hostUp = true) ∧
    (s.updRole = true) ∧
    (s.updBusy = false) := ⟨hostVendor State.reset, by decide +kernel⟩

theorem test_meets_ImagesAreStagedAndVerified_begin_busy : ∃ (w : Session) (s : State),
    (s.admits w 0x3400 4 (leBytes 4 0x6E676562) = true) ∧
    (s.updBusy = true) := ⟨.spi, { (hostVendor State.reset) with pins.brownWarn := true }, by decide +kernel⟩

theorem test_meets_ImagesAreStagedAndVerified_append : ∃ (w : Session) (k : Fin 2) (d : List Byte) (s : State),
    (s.admits w 0x3400 2 d = true) ∧
    (s.updBusy = false) ∧
    (5 ≤ d.length) ∧
    (d.length ≤ 1028) ∧
    (s.upd.staging = some k) ∧
    (s.upd.stat ≠ 3) ∧
    (leValue (d.take 4) = (s.upd.slot[k]).bytes.length) ∧
    (((s.upd.slot[k]).bytes ++ d.drop 4).length < 256) := ⟨.spi, 1, leBytes 4 2 ++ [7, 8, 9], { (hostVendor State.reset) with upd.stat := 1, upd.slot := State.reset.upd.slot.set 1 { st := .staging, bytes := [5, 6] } }, by decide +kernel⟩

theorem test_meets_ImagesAreStagedAndVerified_append_sequence : ∃ (w : Session) (d : List Byte) (s : State),
    (s.admits w 0x3400 2 d = true) ∧
    (s.updBusy = false) ∧
    (5 ≤ d.length) ∧
    (d.length ≤ 1028) ∧
    (s.chunkFate (leValue (d.take 4)) (d.drop 4) = .sequence) := ⟨.spi, leBytes 4 9 ++ [7, 8, 9], { (hostVendor State.reset) with upd.stat := 1, upd.slot := State.reset.upd.slot.set 1 { st := .staging, bytes := [5, 6] } }, by decide +kernel⟩

theorem test_meets_ImagesAreStagedAndVerified_append_retry : ∃ (w : Session) (d : List Byte) (s : State),
    (s.admits w 0x3400 2 d = true) ∧
    (s.updBusy = false) ∧
    (5 ≤ d.length) ∧
    (d.length ≤ 1028) ∧
    (s.chunkFate (leValue (d.take 4)) (d.drop 4) = .retry) := ⟨.spi, leBytes 4 0 ++ [5, 6], { (hostVendor State.reset) with upd.stat := 1, upd.slot := State.reset.upd.slot.set 1 { st := .staging, bytes := [5, 6, 7] } }, by decide +kernel⟩

theorem test_meets_ImagesAreStagedAndVerified_append_header : ∃ (w : Session) (k : Fin 2) (c : Nat) (d : List Byte) (s : State),
    (s.admits w 0x3400 2 d = true) ∧
    (s.updBusy = false) ∧
    (5 ≤ d.length) ∧
    (d.length ≤ 1028) ∧
    (s.upd.staging = some k) ∧
    (s.upd.stat ≠ 3) ∧
    (leValue (d.take 4) = (s.upd.slot[k]).bytes.length) ∧
    ((s.upd.slot[k]).bytes.length < 256) ∧
    (256 ≤ ((s.upd.slot[k]).bytes ++ d.drop 4).length) ∧
    (s.upd.headerFault (((s.upd.slot[k]).bytes ++ d.drop 4).take 256) = some c) := ⟨.spi, 1, 0x1301, leBytes 4 0 ++ List.replicate 256 0, { (hostVendor State.reset) with upd.stat := 1, upd.slot := State.reset.upd.slot.set 1 { st := .staging } }, by decide +kernel⟩

theorem test_meets_ImagesAreStagedAndVerified_abort : ∃ (w : Session) (k : Fin 2) (s : State),
    (s.admits w 0x3400 4 (leBytes 4 0x74726261) = true) ∧
    (s.upd.staging = some k) := ⟨.spi, 1, { (hostVendor State.reset) with upd.stat := 1, upd.slot := State.reset.upd.slot.set 1 { st := .staging, bytes := [5, 6, 7] } }, by decide +kernel⟩

theorem test_meets_ImagesAreStagedAndVerified_verified : ∃ (k : Fin 2) (uncorr : Bool) (s : State),
    (s.upd.staging = some k) ∧
    (s.running .updVerify = true) ∧
    (s.upd.stat = 3) := ⟨1, true, { State.reset with upd.stat := 3, timers := [(.updVerify, 9)], upd.slot := State.reset.upd.slot.set 1 { st := .staging, bytes := [5, 6, 7] } }, by decide +kernel⟩

/-! The hypotheses of TrialsAndLiveUpdates are met. -/

theorem test_meets_TrialsAndLiveUpdates_boot : ∃ (w : Session) (s : State),
    (s.admits w 0x3400 5 (leBytes 4 0x746F6F62) = true) ∧
    (s.bootRefused = false) ∧
    (s.rst.romStays = false) ∧
    (s.releasing = false) ∧
    (s.rst.supplyOk = true) := ⟨.spi, { (hostVendor State.reset) with upd.slot := State.reset.upd.slot.set 1 { st := .valid } }, by decide +kernel⟩

theorem test_meets_TrialsAndLiveUpdates_boot_refused : ∃ (w : Session) (s : State),
    (s.admits w 0x3400 5 (leBytes 4 0x746F6F62) = true) ∧
    (s.bootRefused = true) := ⟨.spi, hostVendor State.reset, by decide +kernel⟩

theorem test_meets_TrialsAndLiveUpdates_trial_commit : ∃ (w : Session) (s : State),
    (s.admits w 0x3400 6 (leBytes 4 0x74696D63) = true) ∧
    (s.cmitRefused = false) := ⟨.spi, { (hostVendor State.reset) with upd.phase := .running, upd.bootOk := true, upd.slot := State.reset.upd.slot.set 1 { st := .trial, bytes := List.replicate 12 0 ++ [9, 0, 0, 0] ++ [0, 0, 0, 0, 0, 2] } }, by decide +kernel⟩

theorem test_meets_TrialsAndLiveUpdates_trial_revert : ∃ (w : Session) (s : State),
    (s.admits w 0x3400 7 (leBytes 4 0x74727672) = true) ∧
    (s.trialRuns = true) ∧
    (s.upd.live = false) ∧
    (s.releasing = false) ∧
    (s.rst.supplyOk = true) := ⟨.spi, { (hostVendor State.reset) with upd.phase := .running, upd.slot := State.reset.upd.slot.set 1 { st := .trial } }, by decide +kernel⟩

theorem test_meets_TrialsAndLiveUpdates_trial_revert_live : ∃ (w : Session) (s : State),
    (s.admits w 0x3400 7 (leBytes 4 0x74727672) = true) ∧
    (s.trialRuns = true) ∧
    (s.upd.live = true) := ⟨.spi, { (hostVendor State.reset) with upd.phase := .running, upd.live := true, upd.slot := State.reset.upd.slot.set 1 { st := .trial } }, by decide +kernel⟩

theorem test_meets_TrialsAndLiveUpdates_expiry : ∃ (s : State),
    (s.trialTimeOver = true) ∧
    (s.trialRuns = true) ∧
    (s.upd.live = false) := ⟨{ State.reset with upd.phase := .running, timers := [(.trial, 0)] }, by decide +kernel⟩

theorem test_meets_TrialsAndLiveUpdates_live : ∃ (w : Session) (s : State),
    (s.admits w 0x3400 8 (leBytes 4 0x6576696C) = true) ∧
    (s.liveRefused = false) := ⟨.spi, { (hostVendor State.reset) with upd.slot := State.reset.upd.slot.set 1 { st := .valid, bytes := List.replicate 8 0 ++ leBytes 4 State.reset.upd.version ++ List.replicate 9 0 ++ [1] } }, by decide +kernel⟩

theorem test_meets_TrialsAndLiveUpdates_live_verified : ∃ (uncorr : Bool) (s : State),
    s.upd.liveVerify = true := ⟨true, { State.reset with upd.liveVerify := true, timers := [(.updVerify, 9)], upd.slot := State.reset.upd.slot.set 1 { st := .valid, bytes := [5, 6, 7] } }, by decide +kernel⟩

/-! The hypotheses of LifecycleTransitionsAndKeys are met. -/

theorem test_meets_LifecycleTransitionsAndKeys_transition : ∃ (w : Session) (d : List Byte) (m : LifeMove) (s : State),
    (s.admits w 0x2002 3 d = true) ∧
    (s.upd.move s.lifeTarget = some m) ∧
    (roleAllows (s.roleOf w) m.role = true) ∧
    (s.lifeBusy = false) ∧
    (s.releasing = false) ∧
    (s.rst.supplyOk = true) := ⟨.spi, leBytes 4 0x6379636C, ⟨.field, .engineer, []⟩, { (hostVendor State.reset) with upd.life := .provisioned, upd.target := 2, timers := [(.lcyc, 9)] }, by decide +kernel⟩

theorem test_meets_LifecycleTransitionsAndKeys_transition_refused : ∃ (w : Session) (d : List Byte) (s : State),
    (s.admits w 0x2002 3 d = true) ∧
    (s.upd.move s.lifeTarget = none) ∧
    (s.lifeBusy = false) := ⟨.spi, leBytes 4 0x6379636C, { (hostVendor State.reset) with upd.life := .provisioned, upd.target := 3, timers := [(.lcyc, 9)] }, by decide +kernel⟩

theorem test_meets_LifecycleTransitionsAndKeys_key : ∃ (w : Session) (d : List Byte) (s : State),
    (s.admits w 0x2003 2 d = true) ∧
    (d.length = 60) ∧
    (s.pins.brownWarn = false) ∧
    (s.upd.keySel ≤ 2 ∨ roleAllows (s.roleOf w) .vendor = true) ∧
    (s.upd.keySel < 9) := ⟨.spi, List.replicate 60 0, hostVendor State.reset, by decide +kernel⟩

theorem test_meets_LifecycleTransitionsAndKeys_key_role : ∃ (w : Session) (d : List Byte) (s : State),
    (s.admits w 0x2003 2 d = true) ∧
    (2 < s.upd.keySel) ∧
    (roleAllows (s.roleOf w) .vendor = false) := ⟨.spi, List.replicate 60 0, { State.reset with upd.keySel := 3, net.sess := State.reset.net.sess.map fun x => { x with role := .engineer } }, by decide +kernel⟩

theorem test_meets_LifecycleTransitionsAndKeys_revoke : ∃ (w : Session) (j : Fin 4) (s : State),
    (s.admits w 0x2003 5 (leBytes 1 j.val) = true) ∧
    ((s.upd.signers.filter fun k => k ≠ j.val) ≠ []) := ⟨.spi, 1, { (hostVendor State.reset) with upd.key := State.reset.upd.key.set 5 [1] }, by decide +kernel⟩

theorem test_meets_LifecycleTransitionsAndKeys_revoke_last : ∃ (w : Session) (j : Fin 4) (s : State),
    (s.admits w 0x2003 5 (leBytes 1 j.val) = true) ∧
    ((s.upd.signers.filter fun k => k ≠ j.val) = []) := ⟨.spi, 0, { (hostVendor State.reset) with upd.key := State.reset.upd.key.set 5 [1] }, by decide +kernel⟩

/-! The hypotheses of StepRunsTheFrontCommandOrIdles are met. -/

theorem test_meets_StepRunsTheFrontCommandOrIdles_front : ∃ (c : Instr) (rest : List Instr) (s : State),
    s.pending = c :: rest := ⟨.ffLatch, [.gateUv], { State.reset with pending := [.ffLatch, .gateUv] }, by decide +kernel⟩

theorem test_meets_StepRunsTheFrontCommandOrIdles_idle : ∃ (s : State),
    (s.pending = []) ∧
    (s.shelf.heldCopy = none) := ⟨State.reset, by decide +kernel⟩

theorem test_meets_StepRunsTheFrontCommandOrIdles_idle_any : ∃ (s : State),
    s.pending = [] := ⟨{ State.reset with shelf.heldCopy := some (0, [], 0) }, by decide +kernel⟩

/-! The hypotheses of EveryStepKeepsTheInvariant are met. -/

theorem test_meets_EveryStepKeepsTheInvariant_step : ∃ (s t : State),
    (s.Inv) ∧
    (step s = .next t) := ⟨State.reset, State.reset.tick, ⟨⟨by decide +kernel, by decide +kernel, by decide +kernel⟩, rfl⟩⟩

/-! The hypotheses of EveryReadDecidesByItsSyndromes are met. -/

theorem test_meets_EveryReadDecidesByItsSyndromes_lane : ∃ (w : Nat) (l : Fin 2) (s1 s2 : Nat),
    (s1 = (List.range 10).foldl (fun a j => Nat.xor a (gfMul (nibble w (2 * j + l)) (gfExp (9 - j)))) 0) ∧
    (s2 = (List.range 10).foldl (fun a j => Nat.xor a (gfMul (nibble w (2 * j + l)) (gfExp (2 * (9 - j))))) 0) := ⟨0x00000000000000130001, 0, (List.range 10).foldl (fun a j => Nat.xor a (gfMul (nibble 0x00000000000000130001 (2 * j + 0)) (gfExp (9 - j)))) 0, (List.range 10).foldl (fun a j => Nat.xor a (gfMul (nibble 0x00000000000000130001 (2 * j + 0)) (gfExp (2 * (9 - j))))) 0, by decide +kernel⟩

/-! The hypotheses of OnlyMemoryCommandsWriteTheUserArea are met. -/

theorem test_meets_OnlyMemoryCommandsWriteTheUserArea_user : ∃ (c : Instr) (s t : State),
    (exec c s = .next t) ∧
    (c ≠ .nvcUserWrite ∧ c ≠ .lifecycleWipe) ∧
    (∀ (k : Nat) (w : BitVec 80) (u : Bool), c ≠ .scrubStep .mram k w u) ∧
    (∀ a v : Nat, c ≠ .registerWrite a v) ∧
    (∀ d : List Byte, c ≠ .spiWrite d) := ⟨.ffLatch, State.reset, { State.reset with shelf.ff := State.reset.shelf.ffSum }, ⟨rfl, by simp, by simp, by simp, by simp⟩⟩

/-! The hypotheses of LocksAreReleasedByOwnerAndEpoch are met. -/

theorem test_meets_LocksAreReleasedByOwnerAndEpoch_r329_owner : ∃ (who : Fin 11) (n : Fin 64) (s : State),
    (s.reaches who = true) ∧
    ((s.eng.lock[n]).owner = identCode who) := ⟨0, 5, { State.reset with eng.lock := State.reset.eng.lock.set 5 { owner := 1 } }, by decide +kernel⟩

theorem test_meets_LocksAreReleasedByOwnerAndEpoch_r329_any : ∃ (n : Fin 64) (v : Nat) (s : State),
    (s.hostUp = true) ∧
    (s.reaches 0 = true) ∧
    ((s.eng.lock[n]).owner = identCode 0) := ⟨5, 77, { State.reset with eng.lock := State.reset.eng.lock.set 5 { owner := 1 } }, by decide +kernel⟩

theorem test_meets_LocksAreReleasedByOwnerAndEpoch_r329_other : ∃ (who : Fin 11) (n : Fin 64) (s : State),
    (s.reaches who = true) ∧
    ((s.eng.lock[n]).owner ≠ identCode who) := ⟨2, 5, { State.reset with eng.lock := State.reset.eng.lock.set 5 { owner := 1 } }, by decide +kernel⟩

theorem test_meets_LocksAreReleasedByOwnerAndEpoch_r329_epoch : ∃ (i : Fin 11) (held : List (Fin 64)) (s : State),
    held = (List.finRange 64).filter fun n => (s.eng.lock[n]).owner = identCode i := ⟨0, [5], { State.reset with eng.lock := State.reset.eng.lock.set 5 { owner := 1 } }, by decide +kernel⟩

/-! The hypotheses of HeartbeatLossChangesNoSetpoint are met. -/

theorem test_meets_HeartbeatLossChangesNoSetpoint_r364 : ∃ (p : Fin 2) (n : Fin 4) (s : State),
    (s.portLive p = true) ∧
    (bits (s.portRaw p 0x1016 (n + 1)) 15 0 ≠ 0) ∧
    (bits (s.portRaw p 0x1016 (n + 1)) 22 16 ≠ 0) := ⟨0, 3, { State.reset with net.port := State.reset.net.port.map fun x => { x with nmt := .operational, objs := [(objKey 0x1016 4, 0x220064)] } }, by decide +kernel⟩

end Sys2Proof.Machine
end

section
/-! PROOFS. Frames put together: every part stands alike in one state, and what two steps in turn each leave, both leave. With that, `KeepsBut` of an
operation follows from `KeepsBut` of its steps, and that of a step from the one piece of the state that it writes. -/

namespace Sys2Proof.Machine

/-- Every part stands as it was where nothing happens. -/
theorem Part.same_refl (s : State) (p : Part) : p.same s s := by
  cases p with
  | arch f => cases f <;> simp [Part.same, ArchPart.same]
  | pins f => cases f <;> simp [Part.same, PinsPart.same]
  | tb f => cases f <;> simp [Part.same, TimebasePart.same]
  | meas f => cases f <;> simp [Part.same, MeasurePart.same]
  | shelf f => cases f <;> simp [Part.same, ShelfPart.same]
  | dist f => cases f <;> simp [Part.same, DistPart.same]
  | bat f => cases f <;> simp [Part.same, BatteryPart.same]
  | seq f => cases f <;> simp [Part.same, SeqPart.same]
  | thm f => cases f <;> simp [Part.same, ThermalPart.same]
  | eng f => cases f <;> simp [Part.same, EngPart.same]
  | net f => cases f <;> simp [Part.same, NetPart.same]
  | twin f => cases f <;> simp [Part.same, TwinPart.same]
  | casc f => cases f <;> simp [Part.same, CascPart.same]
  | rst f => cases f <;> simp [Part.same, RstPart.same]
  | mem f => cases f <;> simp [Part.same, MemPart.same]
  | evr f => cases f <;> simp [Part.same, RecorderPart.same]
  | upd f => cases f <;> simp [Part.same, UpdPart.same]
  | _ => simp [Part.same]

/-- Two steps that each leave a port but its EMCYs together leave it so. -/
theorem CanPort.same_but_emcy_trans {x y z : CanPort} (h : { y with emcy := x.emcy } = x) (k : { z with emcy := y.emcy } = y) :
    { z with emcy := x.emcy } = x := by
  cases x; cases y; cases z; simp_all

/-- A port whose EMCYs alone are written, if any, is otherwise the port before. -/
theorem CanPort.same_but_emcy_ite (c : Prop) [Decidable c] (q : List Emcy) (x : CanPort) :
    { (if c then { x with emcy := q } else x) with emcy := x.emcy } = x := by
  split <;> rfl

/-- A part that stands as before after each of two steps stands as before after both. -/
theorem Part.same_trans {s a t : State} {p : Part} (h : p.same s a) (k : p.same a t) : p.same s t := by
  cases p with
  | arch f => cases f <;> simp_all [Part.same, ArchPart.same]
  | pins f => cases f <;> simp_all [Part.same, PinsPart.same]
  | tb f => cases f <;> simp_all [Part.same, TimebasePart.same]
  | meas f => cases f <;> simp_all [Part.same, MeasurePart.same]
  | shelf f => cases f <;> simp_all [Part.same, ShelfPart.same]
  | dist f => cases f <;> simp_all [Part.same, DistPart.same]
  | bat f => cases f <;> simp_all [Part.same, BatteryPart.same]
  | seq f => cases f <;> simp_all [Part.same, SeqPart.same]
  | thm f => cases f <;> simp_all [Part.same, ThermalPart.same]
  | eng f => cases f <;> simp_all [Part.same, EngPart.same]
  | net f =>
    cases f with
    | port n => exact CanPort.same_but_emcy_trans h k
    | _ => simp_all [Part.same, NetPart.same]
  | twin f => cases f <;> simp_all [Part.same, TwinPart.same]
  | casc f => cases f <;> simp_all [Part.same, CascPart.same]
  | rst f => cases f <;> simp_all [Part.same, RstPart.same]
  | mem f => cases f <;> simp_all [Part.same, MemPart.same]
  | evr f => cases f <;> simp_all [Part.same, RecorderPart.same]
  | upd f => cases f <;> simp_all [Part.same, UpdPart.same]
  | _ => simp_all [Part.same]

theorem KeepsBut.refl (l : List Part) (s : State) : KeepsBut l s s := fun p _ _ => Part.same_refl s p

theorem KeepsBut.trans {l : List Part} {s a t : State} (h : KeepsBut l s a) (k : KeepsBut l a t) : KeepsBut l s t :=
  fun p hp hw => Part.same_trans (h p hp hw) (k p hp hw)

/-- What is kept but for some parts is kept but for more. -/
theorem KeepsBut.mono {l m : List Part} {s t : State} (h : KeepsBut l s t) (hl : l ⊆ m) : KeepsBut m s t :=
  fun p hp hw => h p (fun q => hp (hl q)) (fun q => hw (hl q))

/-- A walk keeps what each of its steps keeps. -/
theorem KeepsBut.each {α : Type} {l : List Part} {f : α → State → State} (h : ∀ a s, KeepsBut l s (f a s)) (as : List α) (s : State) :
    KeepsBut l s (State.each as f s) := by
  unfold State.each
  induction as generalizing s with
  | nil => exact KeepsBut.refl l s
  | cons a as ih => exact (h a s).trans (ih (f a s))

/-! A step that writes one piece of the state keeps every part of the other pieces: the frame is a matter of that piece's own parts. -/

theorem KeepsBut.of_timers {l : List Part} {s : State} {y : List (TimerId × Nat)}
    (h : ∀ x, Part.timer x ∉ l → (Part.timer x).whole ∉ l → y.lookup x = s.timers.lookup x) : KeepsBut l s { s with timers := y } := by
  intro p hp hw
  have same := Part.same_refl s p
  cases p
  case timer x => exact h x hp hw
  all_goals exact same

theorem KeepsBut.of_pins {l : List Part} {s : State} {y : Pins}
    (h : ∀ f, Part.pins f ∉ l → (Part.pins f).whole ∉ l → f.same s.pins y) : KeepsBut l s { s with pins := y } := by
  intro p hp hw
  have same := Part.same_refl s p
  cases p
  case pins f => exact h f hp hw
  all_goals exact same

theorem KeepsBut.of_eng {l : List Part} {s : State} {y : Eng}
    (h : ∀ f, Part.eng f ∉ l → (Part.eng f).whole ∉ l → f.same s.eng y) : KeepsBut l s { s with eng := y } := by
  intro p hp hw
  have same := Part.same_refl s p
  cases p
  case eng f => exact h f hp hw
  all_goals exact same

theorem KeepsBut.of_net {l : List Part} {s : State} {y : Net}
    (h : ∀ f, Part.net f ∉ l → (Part.net f).whole ∉ l → f.same s.net y) : KeepsBut l s { s with net := y } := by
  intro p hp hw
  have same := Part.same_refl s p
  cases p
  case net f => exact h f hp hw
  all_goals exact same

theorem KeepsBut.of_evr {l : List Part} {s : State} {y : Recorder}
    (h : ∀ f, Part.evr f ∉ l → (Part.evr f).whole ∉ l → f.same s.evr y) : KeepsBut l s { s with evr := y } := by
  intro p hp hw
  have same := Part.same_refl s p
  cases p
  case evr f => exact h f hp hw
  all_goals exact same

/-- Starting a timer keeps everything but that timer. -/
theorem State.armAt_keepsBut {l : List Part} {x : TimerId} (hx : Part.timer x ∈ l) (n : Nat) (s : State) : KeepsBut l s (s.armAt x n) :=
  KeepsBut.of_timers fun _ hy _ => State.armAt_deadline_ne (by rintro rfl; exact hy hx) n s

/-! ## Raising a code (R443, R445, R478, R481) -/

theorem State.registerChanged_keepsBut (s : State) : KeepsBut Part.raised s s.registerChanged := by
  refine KeepsBut.each (fun p s => ?_) _ s
  split
  · exact State.armAt_keepsBut (by fin_cases p <;> simp [Part.raised]) _ s
  · exact KeepsBut.refl _ s

theorem State.flushBatch_keepsBut (s : State) : KeepsBut Part.raised s s.flushBatch := by
  have changed : KeepsBut Part.raised s
      (if errorRegister (enterBatch s.net.batch s.net.errs) = errorRegister s.net.errs then s else s.registerChanged) := by
    split
    · exact KeepsBut.refl _ s
    · exact s.registerChanged_keepsBut
  refine changed.trans (KeepsBut.of_net fun f hf _ => ?_)
  cases f with
  | port k => simpa only [NetPart.same, Fin.getElem_fin, Vector.getElem_map] using CanPort.same_but_emcy_ite _ _ _
  | emcy k => fin_cases k <;> simp [Part.raised] at hf
  | batch | errs => simp [Part.raised] at hf
  | _ => simp [NetPart.same]

theorem State.batchFault_keepsBut (e : ErrEntry) (s : State) : KeepsBut Part.raised s (s.batchFault e) := by
  have flushed : KeepsBut Part.raised s (if s.net.batch ≠ [] ∧ s.net.batchAt ≠ s.tb.tod / 1000 then s.flushBatch else s) := by
    split
    · exact s.flushBatch_keepsBut
    · exact KeepsBut.refl _ s
  refine flushed.trans (KeepsBut.of_net fun f hf _ => ?_)
  cases f with
  | batch | batchAt => simp [Part.raised] at hf
  | _ => simp [NetPart.same]

theorem State.queueRecord_keepsBut (r : Record) (s : State) : KeepsBut Part.raised s (s.queueRecord r) := by
  have lost : KeepsBut Part.raised s { s with evr.lost := bump s.evr.lost } :=
    KeepsBut.of_evr fun f hf _ => by
      cases f with
      | lost => simp [Part.raised] at hf
      | _ => simp [RecorderPart.same]
  unfold State.queueRecord
  split
  · refine KeepsBut.of_evr fun f hf _ => ?_
    cases f with
    | staging => simp [Part.raised] at hf
    | _ => simp [RecorderPart.same]
  · dsimp only
    split
    · exact lost
    · exact (lost.trans (State.armAt_keepsBut (by simp [Part.raised]) _ _)).trans (State.batchFault_keepsBut _ _)

theorem State.fireTriggers_keepsBut (p : Fin 64 → Bool) (s : State) : KeepsBut Part.raised s (s.fireTriggers p) :=
  KeepsBut.of_evr fun f _ hw => by
    cases f with
    | trig k => simp [Part.raised, Part.whole, RecorderPart.whole] at hw
    | _ => simp [RecorderPart.same]

/-- A raised code goes through the parts of `Part.raised` alone. -/
theorem State.raise_keepsBut (c i : Nat) (v : List Nat) (s : State) : KeepsBut Part.raised s (s.raise c i v) := by
  have recorded : KeepsBut Part.raised s ((s.queueRecord (s.mkRecord 1 c i v)).fireOnFault c) :=
    (s.queueRecord_keepsBut _).trans (State.fireTriggers_keepsBut _ _)
  unfold State.raise
  dsimp only
  split
  · exact recorded
  · exact recorded.trans (State.batchFault_keepsBut _ _)

end Sys2Proof.Machine
end

section
/-! PROOFS. Locks (R327 to R330): what freeing a lock does and leaves, the host's way to it by LCK_LOCKn, and an epoch's increment. -/

namespace Sys2Proof.Machine

/-- The parts that freeing lock `n` may change: the lock, and what ringing the identities that are armed on it goes through (R325, R330). -/
def Part.freed (n : Fin 64) : List Part := [.eng (.lock n), .eng .armAll, .eng .dbAll, .pins .spiIrq]

/-- Ringing a doorbell writes that doorbell of the engines' state. -/
@[simp] theorem State.ring_eng (i : Fin 11) (b : Nat) (s : State) :
    (s.ring i b).eng = { s.eng with db := s.eng.db.set i (s.eng.db[i] ||| BitVec.ofNat 32 (2 ^ b)) } := rfl

theorem State.irqRefresh_keepsBut {l : List Part} (h : Part.pins .spiIrq ∈ l) (s : State) : KeepsBut l s s.irqRefresh :=
  KeepsBut.of_pins fun f hf _ => by
    cases f with
    | spiIrq => exact absurd h hf
    | _ => simp [PinsPart.same]

theorem State.ring_keepsBut {l : List Part} (hd : Part.eng .dbAll ∈ l) (hi : Part.pins .spiIrq ∈ l) (i : Fin 11) (b : Nat) (s : State) :
    KeepsBut l s (s.ring i b) := by
  refine KeepsBut.trans (KeepsBut.of_eng fun f _ hw => ?_) (State.irqRefresh_keepsBut hi _)
  cases f with
  | db k => exact absurd hd hw
  | _ => simp [EngPart.same]

/-- Freeing a lock empties it and leaves every other. -/
@[simp] theorem State.freeLock_lock (n : Fin 64) (s : State) : (s.freeLock n).eng.lock = s.eng.lock.set n {} :=
  State.each_keeps (·.eng.lock) _ _ _ fun i s => by dsimp only; split <;> simp

@[simp] theorem State.freeLock_epoch (n : Fin 64) (s : State) : (s.freeLock n).eng.epoch = s.eng.epoch :=
  State.each_keeps (·.eng.epoch) _ _ _ fun i s => by dsimp only; split <;> simp

/-- Freeing a lock changes beside it only arm bits, doorbells and the interrupt line (R329, R330). -/
theorem State.freeLock_keepsBut (n : Fin 64) (s : State) : KeepsBut (Part.freed n) s (s.freeLock n) := by
  have emptied : KeepsBut (Part.freed n) s { s with eng.lock := s.eng.lock.set n {} } :=
    KeepsBut.of_eng fun f hf _ => by
      cases f with
      | lock m =>
        have hne : n.val ≠ m.val := fun e => hf (by simp [Part.freed, Fin.ext e])
        simp [EngPart.same, hne]
      | _ => simp [EngPart.same]
  refine emptied.trans (KeepsBut.each (fun i s => ?_) _ _)
  split
  · refine KeepsBut.trans (KeepsBut.of_eng fun f _ hw => ?_) (State.ring_keepsBut (by simp [Part.freed]) (by simp [Part.freed]) i _ _)
    cases f with
    | arm k => simp [Part.freed, Part.whole, EngPart.whole] at hw
    | _ => simp [EngPart.same]
  · exact KeepsBut.refl _ s

/-- A release by the owner frees the lock; any other's is counted and recorded (R329). -/
theorem State.lockRelease_owner {who : Fin 11} {n : Fin 64} {s : State} (h : s.eng.lock[n].owner = identCode who) :
    s.lockRelease who n = s.freeLock n := if_pos h

theorem State.lockRelease_foreign {who : Fin 11} {n : Fin 64} {s : State} (h : s.eng.lock[n].owner ≠ identCode who) :
    s.lockRelease who n = ({ s with eng.foreign := bump s.eng.foreign } : State).raise 0x0C05 n [n, identCode who] := if_neg h

/-- The release of a lock by an identity that reaches the lock unit. -/
theorem exec_lockRelease {who : Fin 11} {s : State} (h : s.reaches who = true) (n : Fin 64) :
    exec (.lockRelease who n) s = .next (s.lockRelease who n) := by
  change execLockRelease who n s = _
  simp [execLockRelease, h]

/-- The host's write of LCK_LOCKn is its release of lock `n`, whatever the value (R329, R332). -/
theorem State.hostWrite_lock (n : Fin 64) (v : Nat) (s : State) : s.hostWrite (0x40001000 + 4 * n) v = s.lockRelease 0 n := by
  have hn := n.isLt
  have hm : mayWrite (0x40001000 + 4 * n) = true := by
    simp only [mayWrite, within, Bool.and_eq_true, decide_eq_true_eq]
    omega
  have hoff : 0x40001000 + 4 * n.val - 0x40001000 = 4 * n.val := by omega
  simp only [State.hostWrite, hm, not_true_eq_false, if_false, hoff]
  rw [if_neg (by omega), if_pos (by omega), State.lockWrite, dif_pos (by omega)]
  simp

theorem exec_registerWrite {s : State} (h : s.hostUp = true) (addr v : Nat) :
    exec (.registerWrite addr v) s = .next (s.hostWrite addr (v % 2 ^ 32)) := by
  change execRegisterWrite addr v s = _
  simp [execRegisterWrite, h]

/-- A walk that frees locks empties those of its list and leaves the others. -/
theorem State.each_freeLock_lock (held : List (Fin 64)) (m : Fin 64) (s : State) :
    (State.each held State.freeLock s).eng.lock[m] = if m ∈ held then {} else s.eng.lock[m] := by
  unfold State.each
  induction held generalizing s with
  | nil => simp
  | cons n held ih =>
    rw [List.foldl_cons, ih, State.freeLock_lock]
    by_cases e : n = m
    · simp [e]
    · have hne : n.val ≠ m.val := fun h => e (Fin.ext h)
      simp [hne, Ne.symm e]

/-- The locks that an identity holds, in ascending order. -/
def State.heldBy (s : State) (i : Fin 11) : List (Fin 64) := (List.finRange 64).filter fun n => s.eng.lock[n].owner = identCode i

theorem State.mem_heldBy {s : State} {i : Fin 11} {m : Fin 64} : m ∈ s.heldBy i ↔ s.eng.lock[m].owner = identCode i := by
  simp [State.heldBy]

/-- An epoch's increment, by the locks held before it: the epoch is written first, each of them is freed, and they are recorded if there are any. -/
theorem State.newEpoch_eq (i : Fin 11) (s : State) :
    s.newEpoch i = if s.heldBy i = [] then s.bumpEpoch i
      else (State.each (s.heldBy i) State.freeLock (s.bumpEpoch i)).raise 0x0C06 (identCode i) ((s.heldBy i).map fun n => n.val) := rfl

/-- The engines' state after an epoch's increment. -/
theorem State.newEpoch_eng (i : Fin 11) (s : State) :
    (s.newEpoch i).eng = (State.each (s.heldBy i) State.freeLock (s.bumpEpoch i)).eng := by
  rw [State.newEpoch_eq]
  split
  · next none => rw [none]; rfl
  · simp

theorem State.newEpoch_epoch (i : Fin 11) (s : State) : (s.newEpoch i).eng.epoch[i] = s.eng.epoch[i] + 1 := by
  rw [State.newEpoch_eng, State.each_keeps (·.eng.epoch) State.freeLock _ _ State.freeLock_epoch]
  simp [State.bumpEpoch]

theorem State.newEpoch_owner (i : Fin 11) (n : Fin 64) (s : State) :
    ((s.newEpoch i).eng.lock[n]).owner = if (s.eng.lock[n]).owner = identCode i then 0 else (s.eng.lock[n]).owner := by
  rw [State.newEpoch_eng, State.each_freeLock_lock]
  simp only [State.mem_heldBy]
  split <;> rfl

/-- An epoch's increment records the numbers of the locks it released. -/
theorem State.newEpoch_raised {i : Fin 11} {s : State} (h : s.heldBy i ≠ []) :
    Raised 0x0C06 (identCode i) ((s.heldBy i).map fun n => n.val) s (s.newEpoch i) := by
  rw [State.newEpoch_eq, if_neg h]
  exact State.raise_raised _ _ _ (by simp)

/-- Settles O59: the owner's release is `State.freeLock`, another's raises 0x0C05 over the count, and an epoch's increment frees each lock held. -/
theorem locksAreReleasedByOwnerAndEpoch : Obligations.LocksAreReleasedByOwnerAndEpoch := by
  unfold Obligations.LocksAreReleasedByOwnerAndEpoch
  refine ⟨fun who n s up owner => ?_, fun n v s up _ owner => ?_, fun who n s up foreign => ?_, fun i held s all => ?_⟩
  · refine ⟨s.freeLock n, ?_, by simp, s.freeLock_keepsBut n⟩
    rw [exec_lockRelease up, State.lockRelease_owner owner]
  · refine ⟨s.freeLock n, ?_, by simp, s.freeLock_keepsBut n⟩
    rw [exec_registerWrite up, State.hostWrite_lock, State.lockRelease_owner owner]
  · have counted : KeepsBut (.eng .foreign :: Part.raised) s { s with eng.foreign := bump s.eng.foreign } :=
      KeepsBut.of_eng fun f hf _ => by
        cases f with
        | foreign => simp at hf
        | _ => simp [EngPart.same]
    refine ⟨_, exec_lockRelease up n, ?_⟩
    rw [State.lockRelease_foreign foreign]
    exact ⟨by simp, State.raise_raised _ _ _ rfl, counted.trans ((State.raise_keepsBut _ _ _ _).mono (List.subset_cons_self _ _))⟩
  · subst all
    exact ⟨s.newEpoch_epoch i, fun n => s.newEpoch_owner i n, State.newEpoch_raised⟩

end Sys2Proof.Machine
end

section
/-! PROOFS. The loss of a consumed heartbeat (R364). -/

namespace Sys2Proof.Machine

/-- The loss of a heartbeat whose producer 0x1016 of a live port names raises 0x0D0C with the producer's node-ID and does nothing else (R364). -/
theorem exec_heartbeatLost_named {p : Fin 2} {n : Fin 4} {s : State} (live : s.portLive p = true)
    (time : bits (s.portRaw p 0x1016 (n + 1)) 15 0 ≠ 0) (node : bits (s.portRaw p 0x1016 (n + 1)) 22 16 ≠ 0) :
    exec (.heartbeatLost p n) s = .next (s.raise 0x0D0C noInst [bits (s.portRaw p 0x1016 (n + 1)) 22 16]) := by
  change execHeartbeatLost p n s = _
  simp [execHeartbeatLost, live, time, node]

/-- Settles O60: the step is one raised code, which goes through the parts of `Part.raised` alone. -/
theorem heartbeatLossChangesNoSetpoint : Obligations.HeartbeatLossChangesNoSetpoint := by
  unfold Obligations.HeartbeatLossChangesNoSetpoint
  intro p n s live time node
  exact ⟨_, exec_heartbeatLost_named live time node, State.raise_raised _ _ _ rfl, by simp, by simp, by simp, by simp, by simp, by simp,
    s.raise_keepsBut _ _ _⟩

end Sys2Proof.Machine
end

section
/-! PROOFS. The field of the stored code and the read's decision by its syndromes (R428 to R430). -/

namespace Sys2Proof.Machine

/-! Logarithms turn the field's products and quotients into sums of exponents modulo 15. -/

theorem gfExp_mod (k : Nat) : gfExp (k % 15) = gfExp k := by
  simp only [gfExp, Nat.mod_mod]

theorem gfExp_lt (k : Nat) : gfExp k < 16 := by
  have all : ∀ i < 15, gfExp i < 16 := by decide
  rw [← gfExp_mod]
  exact all _ (Nat.mod_lt _ (by decide))

theorem gfExp_ne_zero (k : Nat) : gfExp k ≠ 0 := by
  have all : ∀ i < 15, gfExp i ≠ 0 := by decide
  rw [← gfExp_mod]
  exact all _ (Nat.mod_lt _ (by decide))

@[simp] theorem gfExp_mod_sixteen (k : Nat) : gfExp k % 16 = gfExp k :=
  Nat.mod_eq_of_lt (gfExp_lt k)

@[simp] theorem gfLog_gfExp (k : Nat) : gfLog (gfExp k) = k % 15 := by
  have all : ∀ i < 15, gfLog (gfExp i) = i := by decide
  rw [← gfExp_mod]
  exact all _ (Nat.mod_lt _ (by decide))

theorem gfExp_eq_gfExp_iff {j k : Nat} : gfExp j = gfExp k ↔ j % 15 = k % 15 := by
  constructor
  · intro h
    simpa using congrArg gfLog h
  · intro h
    rw [← gfExp_mod j, h, gfExp_mod]

theorem exists_gfExp_eq {a : Nat} (ha : a < 16) (nonzero : a ≠ 0) : ∃ k, gfExp k = a := by
  have all : ∀ b < 16, b ≠ 0 → gfExp (gfLog b) = b := by decide
  exact ⟨gfLog a, all a ha nonzero⟩

@[simp] theorem gfMul_zero_left (b : Nat) : gfMul 0 b = 0 := by
  simp [gfMul]

@[simp] theorem gfMul_gfExp (j k : Nat) : gfMul (gfExp j) (gfExp k) = gfExp (j + k) := by
  simp [gfMul, gfExp_ne_zero, gfExp_eq_gfExp_iff]

@[simp] theorem gfDiv_gfExp (j k : Nat) : gfDiv (gfExp j) (gfExp k) = gfExp (j + 15 - k % 15) := by
  have := Nat.mod_lt k (show 0 < 15 by decide)
  simp only [gfDiv, gfExp_mod_sixteen, gfExp_ne_zero, if_false, gfLog_gfExp, gfExp_eq_gfExp_iff]
  omega

theorem gfMul_lt (a b : Nat) : gfMul a b < 16 := by
  unfold gfMul
  split
  · decide
  · exact gfExp_lt _

theorem gfMul_one {a : Nat} (ha : a < 16) : gfMul a (gfExp 0) = a := by
  by_cases zero : a = 0
  · rw [zero, gfMul_zero_left]
  · obtain ⟨k, rfl⟩ := exists_gfExp_eq ha zero
    rw [gfMul_gfExp, Nat.add_zero]

theorem gfMul_gfMul_gfExp {a : Nat} (ha : a < 16) (j k : Nat) :
    gfMul (gfMul a (gfExp j)) (gfExp k) = gfMul a (gfExp (j + k)) := by
  by_cases zero : a = 0
  · simp only [zero, gfMul_zero_left]
  · obtain ⟨i, rfl⟩ := exists_gfExp_eq ha zero
    simp only [gfMul_gfExp, Nat.add_assoc]

/-- The field's sum of two elements is an element. -/
theorem xor_lt_sixteen {a b : Nat} (ha : a < 16) (hb : b < 16) : Nat.xor a b < 16 :=
  Nat.xor_lt_two_pow (n := 4) ha hb

/-- A product by a power of α distributes over the field's sum: a product by α does, and a power is that product repeated. -/
theorem xor_gfMul_gfExp {a b : Nat} (ha : a < 16) (hb : b < 16) (k : Nat) :
    gfMul (Nat.xor a b) (gfExp k) = Nat.xor (gfMul a (gfExp k)) (gfMul b (gfExp k)) := by
  have alpha : ∀ c < 16, ∀ d < 16, gfMul (Nat.xor c d) (gfExp 1) = Nat.xor (gfMul c (gfExp 1)) (gfMul d (gfExp 1)) := by
    decide
  induction k with
  | zero => rw [gfMul_one ha, gfMul_one hb, gfMul_one (xor_lt_sixteen ha hb)]
  | succ k ih =>
    rw [← gfMul_gfMul_gfExp (xor_lt_sixteen ha hb), ih, alpha _ (gfMul_lt _ _) _ (gfMul_lt _ _), gfMul_gfMul_gfExp ha, gfMul_gfMul_gfExp hb]

/-! The syndromes: the evaluation by Horner's rule is the sum of the symbols by the powers of α. -/

theorem gfEval_append_singleton (x : Nat) (cs : List Nat) (c : Nat) :
    gfEval x (cs ++ [c]) = Nat.xor (gfMul (gfEval x cs) x) c := by
  simp [gfEval]

theorem gfEval_map_range_succ (x : Nat) (f : Nat → Nat) (n : Nat) :
    gfEval x ((List.range (n + 1)).map f) = Nat.xor (gfMul (gfEval x ((List.range n).map f)) x) (f n) := by
  rw [List.range_succ, List.map_append]
  exact gfEval_append_singleton x _ _

theorem gfEval_map_range_lt {f : Nat → Nat} (symbol : ∀ j, f j < 16) (x n : Nat) : gfEval x ((List.range n).map f) < 16 := by
  cases n with
  | zero => exact Nat.zero_lt_succ 15
  | succ n =>
    rw [gfEval_map_range_succ]
    exact xor_lt_sixteen (gfMul_lt _ _) (symbol n)

/-- The first `n` of `N + 1` symbols, evaluated and then raised to their places, are the sum of each symbol at its own place. -/
theorem gfEval_prefix_eq_sum {f : Nat → Nat} (symbol : ∀ j, f j < 16) (k N n : Nat) (hn : n ≤ N + 1) :
    gfMul (gfEval (gfExp k) ((List.range n).map f)) (gfExp (k * (N + 1 - n))) =
      (List.range n).foldl (fun a j => Nat.xor a (gfMul (f j) (gfExp (k * (N - j))))) 0 := by
  induction n with
  | zero => exact gfMul_zero_left _
  | succ n ih =>
    have places : k + k * (N + 1 - (n + 1)) = k * (N + 1 - n) := by
      rw [show N + 1 - n = N + 1 - (n + 1) + 1 by omega, Nat.mul_succ, Nat.add_comm]
    rw [gfEval_map_range_succ, xor_gfMul_gfExp (gfMul_lt _ _) (symbol n), gfMul_gfMul_gfExp (gfEval_map_range_lt symbol _ _), places,
      ih (by omega), Nat.add_sub_add_right, List.range_succ, List.foldl_append]
    rfl

theorem nibble_lt (w i : Nat) : nibble w i < 16 :=
  Nat.mod_lt _ (by decide)

/-- A lane's value at α^k is the sum of its ten nibbles, the first at the ninth power (R429, R430). -/
theorem gfEval_laneSymbols (k w l : Nat) :
    gfEval (gfExp k) (laneSymbols w l) =
      (List.range 10).foldl (fun a j => Nat.xor a (gfMul (nibble w (2 * j + l)) (gfExp (k * (9 - j))))) 0 := by
  have symbol : ∀ j, nibble w (2 * j + l) < 16 := fun j => nibble_lt w _
  rw [← gfEval_prefix_eq_sum symbol k 9 10 (by decide)]
  exact (gfMul_one (gfEval_map_range_lt symbol _ _)).symm

theorem gfEval_laneSymbols_lt (x w l : Nat) : gfEval x (laneSymbols w l) < 16 :=
  gfEval_map_range_lt (fun j => nibble_lt w (2 * j + l)) x 10

/-! The decision of R430. -/

/-- The quotient's logarithm is the one power of α, of the fifteen, that leads from the first syndrome to the second. -/
theorem gfLog_gfDiv_eq_iff {s1 s2 p : Nat} (h1 : s1 < 16) (h2 : s2 < 16) (n1 : s1 ≠ 0) (n2 : s2 ≠ 0) (hp : p < 15) :
    gfLog (gfDiv s2 s1) = p ↔ s2 = gfMul s1 (gfExp p) := by
  obtain ⟨i, rfl⟩ := exists_gfExp_eq h1 n1
  obtain ⟨j, rfl⟩ := exists_gfExp_eq h2 n2
  rw [gfDiv_gfExp, gfLog_gfExp, gfMul_gfExp, gfExp_eq_gfExp_iff]
  omega

section
variable {w l s1 s2 : Nat} (e1 : gfEval (gfExp 1) (laneSymbols w l) = s1) (e2 : gfEval (gfExp 2) (laneSymbols w l) = s2)
include e1 e2

theorem rsLane_eq_clean (z1 : s1 = 0) (z2 : s2 = 0) : rsLane w l = .clean := by
  simp [rsLane, e1, e2, z1, z2]

theorem rsLane_eq_uncorrectable_of_one_zero (one : s1 = 0 ∧ s2 ≠ 0 ∨ s1 ≠ 0 ∧ s2 = 0) : rsLane w l = .uncorrectable := by
  obtain ⟨z1, n2⟩ | ⟨n1, z2⟩ := one
  · simp [rsLane, e1, e2, z1, n2]
  · simp [rsLane, e1, e2, n1, z2]

theorem rsLane_of_nonzero (n1 : s1 ≠ 0) (n2 : s2 ≠ 0) :
    rsLane w l = if gfLog (gfDiv s2 s1) ≤ 9 then .corrected (2 * (9 - gfLog (gfDiv s2 s1)) + l) (gfDiv (gfMul s1 s1) s2) else .uncorrectable := by
  simp [rsLane, e1, e2, n1, n2]

theorem gfLog_gfDiv_syndromes {p : Nat} (n1 : s1 ≠ 0) (n2 : s2 ≠ 0) (hp : p ≤ 9) :
    gfLog (gfDiv s2 s1) = p ↔ s2 = gfMul s1 (gfExp p) :=
  gfLog_gfDiv_eq_iff (e1 ▸ gfEval_laneSymbols_lt _ w l) (e2 ▸ gfEval_laneSymbols_lt _ w l) n1 n2 (by omega)

theorem rsLane_eq_corrected (n1 : s1 ≠ 0) (n2 : s2 ≠ 0) {p : Nat} (hp : p ≤ 9) (place : s2 = gfMul s1 (gfExp p)) :
    rsLane w l = .corrected (2 * (9 - p) + l) (gfDiv (gfMul s1 s1) s2) := by
  rw [rsLane_of_nonzero e1 e2 n1 n2, (gfLog_gfDiv_syndromes e1 e2 n1 n2 hp).2 place, if_pos hp]

theorem rsLane_eq_uncorrectable_of_no_place (n1 : s1 ≠ 0) (n2 : s2 ≠ 0) (nowhere : ∀ p, p ≤ 9 → s2 ≠ gfMul s1 (gfExp p)) :
    rsLane w l = .uncorrectable := by
  have far : ¬ gfLog (gfDiv s2 s1) ≤ 9 := fun hp => nowhere _ hp ((gfLog_gfDiv_syndromes e1 e2 n1 n2 hp).1 rfl)
  rw [rsLane_of_nonzero e1 e2 n1 n2, if_neg far]

end

theorem rsRead_eq_none_iff (w : Nat) : rsRead w = none ↔ rsLane w 0 = .uncorrectable ∨ rsLane w 1 = .uncorrectable := by
  simp [rsRead, or_iff_not_imp_left]

theorem eq_fix_of_rsRead_eq_some {w d : Nat} (read : rsRead w = some d) :
    d = (rsLane w 1).fix ((rsLane w 0).fix w) % 2 ^ 64 := by
  have good : ¬ (rsLane w 0 = .uncorrectable ∨ rsLane w 1 = .uncorrectable) := by
    rw [← rsRead_eq_none_iff, read]
    exact Option.some_ne_none d
  simp only [rsRead, if_neg good, Option.some.injEq] at read
  exact read.symm

/-- Settles O56: the syndromes are the values at α and α² by Horner's rule, and the position is the logarithm of their quotient. -/
theorem everyReadDecidesByItsSyndromes : Obligations.EveryReadDecidesByItsSyndromes := by
  unfold Obligations.EveryReadDecidesByItsSyndromes
  refine ⟨fun w l s1 s2 sum1 sum2 => ?_, fun w => ⟨rsRead_eq_none_iff w, fun d read => eq_fix_of_rsRead_eq_some read⟩⟩
  have e1 : gfEval (gfExp 1) (laneSymbols w l) = s1 := by
    simpa only [Nat.one_mul, ← sum1] using gfEval_laneSymbols 1 w l
  have e2 : gfEval (gfExp 2) (laneSymbols w l) = s2 := (gfEval_laneSymbols 2 w l).trans sum2.symm
  exact ⟨rsLane_eq_clean e1 e2,
    fun n1 n2 => ⟨fun p hp place => rsLane_eq_corrected e1 e2 n1 n2 hp place, rsLane_eq_uncorrectable_of_no_place e1 e2 n1 n2⟩,
    fun z1 n2 => rsLane_eq_uncorrectable_of_one_zero e1 e2 (.inl ⟨z1, n2⟩),
    fun n1 z2 => rsLane_eq_uncorrectable_of_one_zero e1 e2 (.inr ⟨n1, z2⟩)⟩

end Sys2Proof.Machine
end

section
/-! PROOFS. More rules for frames: lists of parts weakened and put together, and the step that writes one piece or one element of a bank. -/

namespace Sys2Proof.Machine

/-- Every part of a list is among the parts of another, or one that stands for all its elements is. -/
@[reducible] def Part.Within (l m : List Part) : Prop := ∀ p ∈ l, p ∈ m ∨ p.whole ∈ m

/-- A test that decides `Part.Within`. -/
def Part.covers (m l : List Part) : Bool := l.all fun p => m.contains p || m.contains p.whole

theorem Part.Within.check {l m : List Part} (h : Part.covers m l = true) : Part.Within l m := by
  intro p hp
  have covered := List.all_eq_true.1 h p hp
  simpa using covered

/-- The test for every index of a family of lists. -/
theorem Part.Within.checkAt {n : Nat} {f g : Fin n → List Part} (k : Fin n)
    (h : decide (∀ k, Part.covers (g k) (f k) = true) = true) : Part.Within (f k) (g k) :=
  .check (of_decide_eq_true h k)

/-- A part is neither in a list nor among the elements of a bank in it. -/
def Part.outside (l : List Part) (p : Part) : Bool := !l.contains p && !l.contains p.whole

theorem Part.whole_whole (p : Part) : p.whole.whole = p.whole := by
  cases p with
  | arch f => cases f <;> rfl
  | pins f => cases f <;> rfl
  | tb f => cases f <;> rfl
  | meas f => cases f <;> rfl
  | shelf f => cases f <;> rfl
  | dist f => cases f <;> rfl
  | bat f => cases f <;> rfl
  | seq f => cases f <;> rfl
  | thm f => cases f <;> rfl
  | eng f => cases f <;> rfl
  | net f => cases f <;> rfl
  | twin f => cases f <;> rfl
  | casc f => cases f <;> rfl
  | mem f => cases f <;> rfl
  | evr f => cases f <;> rfl
  | upd f => cases f <;> rfl
  | _ => rfl

/-- What is kept but for some parts is kept but for others that cover them. -/
theorem KeepsBut.weaken {l m : List Part} {s t : State} (h : KeepsBut l s t) (hl : Part.Within l m) : KeepsBut m s t := by
  intro p hp hw
  refine h p (fun q => ?_) (fun q => ?_)
  · exact (hl p q).elim hp hw
  · have := hl _ q
    rw [Part.whole_whole] at this
    exact this.elim hw hw

/-- What is kept but for some parts is kept but for their banks. -/
theorem KeepsBut.whole {l m : List Part} {s t : State} (h : KeepsBut l s t) (banks : l.map Part.whole = m) : KeepsBut m s t := by
  subst banks
  exact h.weaken fun p hp => .inr (List.mem_map_of_mem hp)

/-- A part outside the list stands. -/
theorem KeepsBut.get {l : List Part} {s t : State} (h : KeepsBut l s t) (p : Part) (out : Part.outside l p = true) : p.same s t := by
  simp only [Part.outside, Bool.and_eq_true, Bool.not_eq_true', List.contains_eq_mem, decide_eq_false_iff_not] at out
  exact h p out.1 out.2

/-- Two steps in turn change what either changes. -/
theorem KeepsBut.append {l m : List Part} {s a t : State} (h : KeepsBut l s a) (k : KeepsBut m a t) : KeepsBut (l ++ m) s t :=
  (h.mono (List.subset_append_left l m)).trans (k.mono (List.subset_append_right l m))

/-- Two steps in turn, the later one named first: it says what state lies between. -/
theorem KeepsBut.after {l m : List Part} {s a t : State} (k : KeepsBut m a t) (h : KeepsBut l s a) : KeepsBut (l ++ m) s t := h.append k

/-- A step whose parts are among those of a list, after others within the list. -/
theorem KeepsBut.via {l m : List Part} {s a t : State} (k : KeepsBut m a t) (within : Part.Within m l) (h : KeepsBut l s a) : KeepsBut l s t :=
  h.trans (k.weaken within)

/-- A step under a condition. -/
theorem KeepsBut.ite {l : List Part} {s a b : State} (c : Prop) [Decidable c] (h : KeepsBut l s a) (k : KeepsBut l s b) :
    KeepsBut l s (if c then a else b) := by
  split
  · exact h
  · exact k

/-- A step that is taken under a condition, after another. -/
theorem KeepsBut.afterIf {l m : List Part} {s a b : State} {c : Prop} [Decidable c] (k : KeepsBut m a b) (h : KeepsBut l s a) :
    KeepsBut (l ++ m) s (if c then b else a) :=
  KeepsBut.ite c (h.append k) (h.mono (List.subset_append_left l m))

/-- A further step under a condition. -/
theorem KeepsBut.viaIf {l : List Part} {s a b : State} {c : Prop} [Decidable c] (k : KeepsBut l a b) (h : KeepsBut l s a) :
    KeepsBut l s (if c then b else a) :=
  KeepsBut.ite c (h.trans k) h

/-- A further step unless a condition holds. -/
theorem KeepsBut.viaElse {l : List Part} {s a b : State} {c : Prop} [Decidable c] (k : KeepsBut l a b) (h : KeepsBut l s a) :
    KeepsBut l s (if c then a else b) :=
  KeepsBut.ite c h (h.trans k)

theorem KeepsBut.when {l : List Part} {s : State} {f : State → State} (c : Bool) (h : KeepsBut l s (f s)) : KeepsBut l s (s.when c f) :=
  KeepsBut.ite _ h (KeepsBut.refl l s)

/-! ## The step that writes one piece: `h` has also that the part stands where the piece is as before, which proves it of every part that the step does
not write. -/

theorem KeepsBut.write_arch {l : List Part} {s : State} {y : Arch}
    (h : ∀ f, Part.arch f ∉ l → (Part.arch f).whole ∉ l → f.same s.arch s.arch → f.same s.arch y) : KeepsBut l s { s with arch := y } := by
  intro p hp hw
  have same := Part.same_refl s p
  cases p
  case arch f => exact h f hp hw same
  all_goals exact same

theorem KeepsBut.write_pins {l : List Part} {s : State} {y : Pins}
    (h : ∀ f, Part.pins f ∉ l → (Part.pins f).whole ∉ l → f.same s.pins s.pins → f.same s.pins y) : KeepsBut l s { s with pins := y } := by
  intro p hp hw
  have same := Part.same_refl s p
  cases p
  case pins f => exact h f hp hw same
  all_goals exact same

theorem KeepsBut.write_tb {l : List Part} {s : State} {y : Timebase}
    (h : ∀ f, Part.tb f ∉ l → (Part.tb f).whole ∉ l → f.same s.tb s.tb → f.same s.tb y) : KeepsBut l s { s with tb := y } := by
  intro p hp hw
  have same := Part.same_refl s p
  cases p
  case tb f => exact h f hp hw same
  all_goals exact same

theorem KeepsBut.write_meas {l : List Part} {s : State} {y : Measure}
    (h : ∀ f, Part.meas f ∉ l → (Part.meas f).whole ∉ l → f.same s.meas s.meas → f.same s.meas y) : KeepsBut l s { s with meas := y } := by
  intro p hp hw
  have same := Part.same_refl s p
  cases p
  case meas f => exact h f hp hw same
  all_goals exact same

theorem KeepsBut.write_shelf {l : List Part} {s : State} {y : Shelf}
    (h : ∀ f, Part.shelf f ∉ l → (Part.shelf f).whole ∉ l → f.same s.shelf s.shelf → f.same s.shelf y) : KeepsBut l s { s with shelf := y } := by
  intro p hp hw
  have same := Part.same_refl s p
  cases p
  case shelf f => exact h f hp hw same
  all_goals exact same

theorem KeepsBut.write_dist {l : List Part} {s : State} {y : Dist}
    (h : ∀ f, Part.dist f ∉ l → (Part.dist f).whole ∉ l → f.same s.dist s.dist → f.same s.dist y) : KeepsBut l s { s with dist := y } := by
  intro p hp hw
  have same := Part.same_refl s p
  cases p
  case dist f => exact h f hp hw same
  all_goals exact same

theorem KeepsBut.write_bat {l : List Part} {s : State} {y : Battery}
    (h : ∀ f, Part.bat f ∉ l → (Part.bat f).whole ∉ l → f.same s.bat s.bat → f.same s.bat y) : KeepsBut l s { s with bat := y } := by
  intro p hp hw
  have same := Part.same_refl s p
  cases p
  case bat f => exact h f hp hw same
  all_goals exact same

theorem KeepsBut.write_seq {l : List Part} {s : State} {y : Seq}
    (h : ∀ f, Part.seq f ∉ l → (Part.seq f).whole ∉ l → f.same s.seq s.seq → f.same s.seq y) : KeepsBut l s { s with seq := y } := by
  intro p hp hw
  have same := Part.same_refl s p
  cases p
  case seq f => exact h f hp hw same
  all_goals exact same

theorem KeepsBut.write_thm {l : List Part} {s : State} {y : Thermal}
    (h : ∀ f, Part.thm f ∉ l → (Part.thm f).whole ∉ l → f.same s.thm s.thm → f.same s.thm y) : KeepsBut l s { s with thm := y } := by
  intro p hp hw
  have same := Part.same_refl s p
  cases p
  case thm f => exact h f hp hw same
  all_goals exact same

theorem KeepsBut.write_eng {l : List Part} {s : State} {y : Eng}
    (h : ∀ f, Part.eng f ∉ l → (Part.eng f).whole ∉ l → f.same s.eng s.eng → f.same s.eng y) : KeepsBut l s { s with eng := y } := by
  intro p hp hw
  have same := Part.same_refl s p
  cases p
  case eng f => exact h f hp hw same
  all_goals exact same

theorem KeepsBut.write_net {l : List Part} {s : State} {y : Net}
    (h : ∀ f, Part.net f ∉ l → (Part.net f).whole ∉ l → f.same s.net s.net → f.same s.net y) : KeepsBut l s { s with net := y } := by
  intro p hp hw
  have same := Part.same_refl s p
  cases p
  case net f => exact h f hp hw same
  all_goals exact same

theorem KeepsBut.write_twin {l : List Part} {s : State} {y : Twin}
    (h : ∀ f, Part.twin f ∉ l → (Part.twin f).whole ∉ l → f.same s.twin s.twin → f.same s.twin y) : KeepsBut l s { s with twin := y } := by
  intro p hp hw
  have same := Part.same_refl s p
  cases p
  case twin f => exact h f hp hw same
  all_goals exact same

theorem KeepsBut.write_casc {l : List Part} {s : State} {y : Casc}
    (h : ∀ f, Part.casc f ∉ l → (Part.casc f).whole ∉ l → f.same s.casc s.casc → f.same s.casc y) : KeepsBut l s { s with casc := y } := by
  intro p hp hw
  have same := Part.same_refl s p
  cases p
  case casc f => exact h f hp hw same
  all_goals exact same

theorem KeepsBut.write_rst {l : List Part} {s : State} {y : Rst}
    (h : ∀ f, Part.rst f ∉ l → (Part.rst f).whole ∉ l → f.same s.rst s.rst → f.same s.rst y) : KeepsBut l s { s with rst := y } := by
  intro p hp hw
  have same := Part.same_refl s p
  cases p
  case rst f => exact h f hp hw same
  all_goals exact same

theorem KeepsBut.write_mem {l : List Part} {s : State} {y : Mem}
    (h : ∀ f, Part.mem f ∉ l → (Part.mem f).whole ∉ l → f.same s.mem s.mem → f.same s.mem y) : KeepsBut l s { s with mem := y } := by
  intro p hp hw
  have same := Part.same_refl s p
  cases p
  case mem f => exact h f hp hw same
  all_goals exact same

theorem KeepsBut.write_evr {l : List Part} {s : State} {y : Recorder}
    (h : ∀ f, Part.evr f ∉ l → (Part.evr f).whole ∉ l → f.same s.evr s.evr → f.same s.evr y) : KeepsBut l s { s with evr := y } := by
  intro p hp hw
  have same := Part.same_refl s p
  cases p
  case evr f => exact h f hp hw same
  all_goals exact same

theorem KeepsBut.write_upd {l : List Part} {s : State} {y : Upd}
    (h : ∀ f, Part.upd f ∉ l → (Part.upd f).whole ∉ l → f.same s.upd s.upd → f.same s.upd y) : KeepsBut l s { s with upd := y } := by
  intro p hp hw
  have same := Part.same_refl s p
  cases p
  case upd f => exact h f hp hw same
  all_goals exact same

theorem KeepsBut.write_lane {l : List Part} {s : State} {y : Vector Lane 12}
    (h : ∀ k, Part.lane k ∉ l → (Part.lane k).whole ∉ l → y[k] = s.lane[k]) : KeepsBut l s { s with lane := y } := by
  intro p hp hw
  have same := Part.same_refl s p
  cases p
  case lane k => exact h k hp hw
  all_goals exact same

theorem KeepsBut.write_snap {l : List Part} {s : State} {y : Vector Lane 12}
    (h : ∀ k, Part.snap k ∉ l → (Part.snap k).whole ∉ l → y[k] = s.snap[k]) : KeepsBut l s { s with snap := y } := by
  intro p hp hw
  have same := Part.same_refl s p
  cases p
  case snap k => exact h k hp hw
  all_goals exact same

theorem KeepsBut.write_phase {l : List Part} {s : State} {y : Vector Phase 32}
    (h : ∀ k, Part.phase k ∉ l → (Part.phase k).whole ∉ l → y[k] = s.phase[k]) : KeepsBut l s { s with phase := y } := by
  intro p hp hw
  have same := Part.same_refl s p
  cases p
  case phase k => exact h k hp hw
  all_goals exact same

theorem KeepsBut.write_loop {l : List Part} {s : State} {y : Vector Loop 8}
    (h : ∀ k, Part.loop k ∉ l → (Part.loop k).whole ∉ l → y[k] = s.loop[k]) : KeepsBut l s { s with loop := y } := by
  intro p hp hw
  have same := Part.same_refl s p
  cases p
  case loop k => exact h k hp hw
  all_goals exact same

/-! ## Timers -/

theorem State.armAt_keeps (x : TimerId) (n : Nat) (s : State) : KeepsBut [.timer x] s (s.armAt x n) :=
  s.armAt_keepsBut (by simp) n

theorem State.arm_keeps (x : TimerId) (n : Nat) (s : State) : KeepsBut [.timer x] s (s.arm x n) :=
  s.armAt_keeps x _

theorem State.disarm_keeps (x : TimerId) (s : State) : KeepsBut [.timer x] s (s.disarm x) :=
  KeepsBut.of_timers fun _ hy _ => s.disarm_deadline_ne (by rintro rfl; simp at hy)

theorem State.armOnce_keeps (x : TimerId) (n : Nat) (s : State) : KeepsBut [.timer x] s (s.armOnce x n) :=
  KeepsBut.ite _ (KeepsBut.refl _ s) (s.arm_keeps x n)

theorem State.armWhile_keeps (c : Bool) (x : TimerId) (n : Nat) (s : State) : KeepsBut [.timer x] s (s.armWhile c x n) :=
  KeepsBut.ite _ (s.armOnce_keeps x n) (s.disarm_keeps x)

/-! ## One element of a bank -/

/-- Two indices of a vector that are not the same. -/
theorem State.armWhile_stopped {c : Bool} (h : c = false) (x : TimerId) (n : Nat) (s : State) : Stopped x (s.armWhile c x n) := by
  rw [h]
  exact State.disarm_deadline x s

/-- A timer that a condition starts while it does not run. -/
theorem State.armWhile_ends {c : Bool} (h : c = true) {x : TimerId} {s : State} (idle : s.running x = false) (n : Nat) :
    Ends x n s (s.armWhile c x n) := by
  rw [h]
  show (if s.running x then s else s.arm x n).deadline x = _
  rw [if_neg (by simp [idle])]
  exact State.arm_deadline x n s

theorem vector_set_getElem_ne {α : Type} {n : Nat} {v : Vector α n} {i j : Fin n} {x : α} (h : j ≠ i) : (v.set i x)[j] = v[j] :=
  Vector.getElem_set_ne _ _ fun e => h (Fin.ext e.symm)

theorem State.modCh_keeps (k : Fin 48) (f : Channel → Channel) (s : State) : KeepsBut [.meas (.ch k)] s (s.modCh k f) :=
  KeepsBut.write_meas fun f hf _ same => by
    cases f with
    | ch j => exact vector_set_getElem_ne (by rintro rfl; simp at hf)
    | _ => exact same

theorem State.modModu_keeps (k : Fin 52) (f : Modulator → Modulator) (s : State) : KeepsBut [.meas (.modu k)] s (s.modModu k f) :=
  KeepsBut.write_meas fun f hf _ same => by
    cases f with
    | modu j => exact vector_set_getElem_ne (by rintro rfl; simp at hf)
    | _ => exact same

theorem State.modSlot_keeps (k : Fin 4) (f : Slot → Slot) (s : State) : KeepsBut [.meas (.slots k)] s (s.modSlot k f) :=
  KeepsBut.write_meas fun f hf _ same => by
    cases f with
    | slots j => exact vector_set_getElem_ne (by rintro rfl; simp at hf)
    | _ => exact same

theorem State.modRec_keeps (k : Fin 32) (f : Rectifier → Rectifier) (s : State) : KeepsBut [.shelf (.rects k)] s (s.modRec k f) :=
  KeepsBut.write_shelf fun f hf _ same => by
    cases f with
    | rects j => exact vector_set_getElem_ne (by rintro rfl; simp at hf)
    | _ => exact same

theorem State.modBr_keeps (k : Fin 16) (f : Branch → Branch) (s : State) : KeepsBut [.dist (.br k)] s (s.modBr k f) :=
  KeepsBut.write_dist fun f hf _ same => by
    cases f with
    | br j => exact vector_set_getElem_ne (by rintro rfl; simp at hf)
    | _ => exact same

theorem State.modFeed_keeps (k : Fin 2) (f : FeedPair → FeedPair) (s : State) : KeepsBut [.dist (.feed k)] s (s.modFeed k f) :=
  KeepsBut.write_dist fun f hf _ same => by
    cases f with
    | feed j => exact vector_set_getElem_ne (by rintro rfl; simp at hf)
    | _ => exact same

theorem State.modStr_keeps (k : Fin 4) (f : StringSt → StringSt) (s : State) : KeepsBut [.bat (.str k)] s (s.modStr k f) :=
  KeepsBut.write_bat fun f hf _ same => by
    cases f with
    | str j => exact vector_set_getElem_ne (by rintro rfl; simp at hf)
    | _ => exact same

theorem State.modRail_keeps (k : Fin 32) (f : Rail → Rail) (s : State) : KeepsBut [.seq (.rail k)] s (s.modRail k f) :=
  KeepsBut.write_seq fun f hf _ same => by
    cases f with
    | rail j => exact vector_set_getElem_ne (by rintro rfl; simp at hf)
    | _ => exact same

theorem State.modSensor_keeps (k : Fin 16) (f : Sensor → Sensor) (s : State) : KeepsBut [.thm (.sensor k)] s (s.modSensor k f) :=
  KeepsBut.write_thm fun f hf _ same => by
    cases f with
    | sensor j => exact vector_set_getElem_ne (by rintro rfl; simp at hf)
    | _ => exact same

theorem State.modEng_keeps (k : Fin 8) (f : Engine → Engine) (s : State) : KeepsBut [.eng (.eng k)] s (s.modEng k f) :=
  KeepsBut.write_eng fun f hf _ same => by
    cases f with
    | eng j => exact vector_set_getElem_ne (by rintro rfl; simp at hf)
    | _ => exact same

theorem State.modQueue_keeps (k : Fin 64) (f : Queue → Queue) (s : State) : KeepsBut [.eng (.queue k)] s (s.modQueue k f) :=
  KeepsBut.write_eng fun f hf _ same => by
    cases f with
    | queue j => exact vector_set_getElem_ne (by rintro rfl; simp at hf)
    | _ => exact same

theorem State.modSess_keeps (k : Fin 3) (f : Sess → Sess) (s : State) : KeepsBut [.net (.sess k)] s (s.modSess k f) :=
  KeepsBut.write_net fun f hf _ same => by
    cases f with
    | sess j => exact vector_set_getElem_ne (by rintro rfl; simp at hf)
    | _ => exact same

theorem State.modPm_keeps (k : Fin 32) (f : PmDev → PmDev) (s : State) : KeepsBut [.net (.pm k)] s (s.modPm k f) :=
  KeepsBut.write_net fun f hf _ same => by
    cases f with
    | pm j => exact vector_set_getElem_ne (by rintro rfl; simp at hf)
    | _ => exact same

theorem State.modTrig_keeps (k : Fin 64) (f : Trigger → Trigger) (s : State) : KeepsBut [.evr (.trig k)] s (s.modTrig k f) :=
  KeepsBut.write_evr fun f hf _ same => by
    cases f with
    | trig j => exact vector_set_getElem_ne (by rintro rfl; simp at hf)
    | _ => exact same

theorem State.modWin_keeps (k : Fin 3) (f : RecWindow → RecWindow) (s : State) : KeepsBut [.evr (.win k)] s (s.modWin k f) :=
  KeepsBut.write_evr fun f hf _ same => by
    cases f with
    | win j => exact vector_set_getElem_ne (by rintro rfl; simp at hf)
    | _ => exact same

theorem State.modGen_keeps (k : Fin 16) (f : GenTimer → GenTimer) (s : State) : KeepsBut [.tb (.gen k)] s (s.modGen k f) :=
  KeepsBut.write_tb fun f hf _ same => by
    cases f with
    | gen j => exact vector_set_getElem_ne (by rintro rfl; simp at hf)
    | _ => exact same

theorem State.modLane_keeps (k : Fin 12) (f : Lane → Lane) (s : State) : KeepsBut [.lane k] s (s.modLane k f) :=
  KeepsBut.write_lane fun _ hj _ => vector_set_getElem_ne (by rintro rfl; simp at hj)

theorem State.modPhase_keeps (k : Fin 32) (f : Phase → Phase) (s : State) : KeepsBut [.phase k] s (s.modPhase k f) :=
  KeepsBut.write_phase fun _ hj _ => vector_set_getElem_ne (by rintro rfl; simp at hj)

theorem State.modLoop_keeps (k : Fin 8) (f : Loop → Loop) (s : State) : KeepsBut [.loop k] s (s.modLoop k f) :=
  KeepsBut.write_loop fun _ hj _ => vector_set_getElem_ne (by rintro rfl; simp at hj)

theorem State.setGate_keeps (k : Fin 24) (x : GateDrive) (s : State) : KeepsBut [.pins (.gate k)] s (s.setGate k x) :=
  KeepsBut.write_pins fun f hf _ same => by
    cases f with
    | gate j => exact vector_set_getElem_ne (by rintro rfl; simp at hf)
    | _ => exact same

theorem State.setPwm_keeps (k : Fin 32) (x : PwmPin) (s : State) : KeepsBut [.pins (.pwm k)] s (s.setPwm k x) :=
  KeepsBut.write_pins fun f hf _ same => by
    cases f with
    | pwm j => exact vector_set_getElem_ne (by rintro rfl; simp at hf)
    | _ => exact same

theorem State.answer_keeps (w : Session) (a : Answer) (s : State) : KeepsBut [.net (.sess (sessIx w))] s (s.answer w a) :=
  s.modSess_keeps _ _

theorem State.touch_keeps (w : Session) (s : State) : KeepsBut [.timer (.sessIdle (sessIx w))] s (s.touch w) :=
  s.arm_keeps _ _

/-- A code raised at most once a second goes through the raised parts and its own timer (R478). -/
theorem State.raiseLimited_keeps (c i : Nat) (v : List Nat) (s : State) :
    KeepsBut (.timer (.limit c i) :: Part.raised) s (s.raiseLimited c i v) :=
  KeepsBut.ite _ (KeepsBut.refl _ s) ((s.arm_keeps _ _).append (State.raise_keepsBut _ _ _ _))

/-- What is kept but for the parts of a list, piece by piece: `s` is the state before, the others are the pieces of the state after. -/
structure State.Pieces (l : List Part) (s : State) (pending : List Instr) (now : Nat) (timers : List (TimerId × Nat)) (free : Nat)
    (arch : Arch) (pins : Pins) (tb : Timebase) (meas : Measure) (lane : Vector Lane 12) (snap : Vector Lane 12) (phase : Vector Phase 32)
    (loop : Vector Loop 8) (shelf : Shelf) (dist : Dist) (bat : Battery) (seq : Seq) (thm : Thermal) (eng : Eng) (net : Net) (twin : Twin)
    (casc : Casc) (rst : Rst) (mem : Mem) (evr : Recorder) (upd : Upd) : Prop where
  pending_ : Part.pending ∉ l → pending = s.pending
  now_ : Part.now ∉ l → now = s.now
  timers_ : Part.timers ∉ l → timers = s.timers
  free_ : Part.free ∉ l → free = s.free
  arch_ : ∀ f, Part.arch f ∉ l → (Part.arch f).whole ∉ l → f.same s.arch s.arch → f.same s.arch arch
  pins_ : ∀ f, Part.pins f ∉ l → (Part.pins f).whole ∉ l → f.same s.pins s.pins → f.same s.pins pins
  tb_ : ∀ f, Part.tb f ∉ l → (Part.tb f).whole ∉ l → f.same s.tb s.tb → f.same s.tb tb
  meas_ : ∀ f, Part.meas f ∉ l → (Part.meas f).whole ∉ l → f.same s.meas s.meas → f.same s.meas meas
  lane_ : ∀ k : Fin 12, Part.lane k ∉ l → Part.laneAll ∉ l → lane[k] = s.lane[k]
  snap_ : ∀ k : Fin 12, Part.snap k ∉ l → Part.snapAll ∉ l → snap[k] = s.snap[k]
  phase_ : ∀ k : Fin 32, Part.phase k ∉ l → Part.phaseAll ∉ l → phase[k] = s.phase[k]
  loop_ : ∀ k : Fin 8, Part.loop k ∉ l → Part.loopAll ∉ l → loop[k] = s.loop[k]
  shelf_ : ∀ f, Part.shelf f ∉ l → (Part.shelf f).whole ∉ l → f.same s.shelf s.shelf → f.same s.shelf shelf
  dist_ : ∀ f, Part.dist f ∉ l → (Part.dist f).whole ∉ l → f.same s.dist s.dist → f.same s.dist dist
  bat_ : ∀ f, Part.bat f ∉ l → (Part.bat f).whole ∉ l → f.same s.bat s.bat → f.same s.bat bat
  seq_ : ∀ f, Part.seq f ∉ l → (Part.seq f).whole ∉ l → f.same s.seq s.seq → f.same s.seq seq
  thm_ : ∀ f, Part.thm f ∉ l → (Part.thm f).whole ∉ l → f.same s.thm s.thm → f.same s.thm thm
  eng_ : ∀ f, Part.eng f ∉ l → (Part.eng f).whole ∉ l → f.same s.eng s.eng → f.same s.eng eng
  net_ : ∀ f, Part.net f ∉ l → (Part.net f).whole ∉ l → f.same s.net s.net → f.same s.net net
  twin_ : ∀ f, Part.twin f ∉ l → (Part.twin f).whole ∉ l → f.same s.twin s.twin → f.same s.twin twin
  casc_ : ∀ f, Part.casc f ∉ l → (Part.casc f).whole ∉ l → f.same s.casc s.casc → f.same s.casc casc
  rst_ : ∀ f, Part.rst f ∉ l → (Part.rst f).whole ∉ l → f.same s.rst s.rst → f.same s.rst rst
  mem_ : ∀ f, Part.mem f ∉ l → (Part.mem f).whole ∉ l → f.same s.mem s.mem → f.same s.mem mem
  evr_ : ∀ f, Part.evr f ∉ l → (Part.evr f).whole ∉ l → f.same s.evr s.evr → f.same s.evr evr
  upd_ : ∀ f, Part.upd f ∉ l → (Part.upd f).whole ∉ l → f.same s.upd s.upd → f.same s.upd upd

/-- A step that changes nothing: the pieces of a step that writes some of them are these but for those. -/
theorem State.Pieces.refl {l : List Part} {s : State} :
    State.Pieces l s s.pending s.now s.timers s.free s.arch s.pins s.tb s.meas s.lane s.snap s.phase s.loop s.shelf s.dist s.bat s.seq s.thm
    s.eng s.net s.twin s.casc s.rst s.mem s.evr s.upd where
  pending_ _ := rfl
  now_ _ := rfl
  timers_ _ := rfl
  free_ _ := rfl
  arch_ _ _ _ same := same
  pins_ _ _ _ same := same
  tb_ _ _ _ same := same
  meas_ _ _ _ same := same
  lane_ _ _ _ := rfl
  snap_ _ _ _ := rfl
  phase_ _ _ _ := rfl
  loop_ _ _ _ := rfl
  shelf_ _ _ _ same := same
  dist_ _ _ _ same := same
  bat_ _ _ _ same := same
  seq_ _ _ _ same := same
  thm_ _ _ _ same := same
  eng_ _ _ _ same := same
  net_ _ _ _ same := same
  twin_ _ _ _ same := same
  casc_ _ _ _ same := same
  rst_ _ _ _ same := same
  mem_ _ _ _ same := same
  evr_ _ _ _ same := same
  upd_ _ _ _ same := same

theorem KeepsBut.of_pieces {l : List Part} {s : State} {pending : List Instr} {now : Nat} {timers : List (TimerId × Nat)} {free : Nat}
    {arch : Arch} {pins : Pins} {tb : Timebase} {meas : Measure} {lane : Vector Lane 12} {snap : Vector Lane 12} {phase : Vector Phase 32}
    {loop : Vector Loop 8} {shelf : Shelf} {dist : Dist} {bat : Battery} {seq : Seq} {thm : Thermal} {eng : Eng} {net : Net} {twin : Twin}
    {casc : Casc} {rst : Rst} {mem : Mem} {evr : Recorder} {upd : Upd}
    (h : State.Pieces l s pending now timers free arch pins tb meas lane snap phase loop shelf dist bat seq thm eng net twin casc rst mem evr upd) :
    KeepsBut l s ⟨pending, now, timers, free, arch, pins, tb, meas, lane, snap, phase, loop, shelf, dist, bat, seq, thm, eng, net, twin, casc,
    rst, mem, evr, upd⟩ := by
  intro p hp hw
  cases p with
  | timers => trivial
  | laneAll => trivial
  | snapAll => trivial
  | phaseAll => trivial
  | loopAll => trivial
  | pending => exact h.pending_ hp
  | now => exact h.now_ hp
  | free => exact h.free_ hp
  | timer x => exact congrArg (List.lookup x) (h.timers_ hw)
  | lane k => exact h.lane_ k hp hw
  | snap k => exact h.snap_ k hp hw
  | phase k => exact h.phase_ k hp hw
  | loop k => exact h.loop_ k hp hw
  | arch f => exact h.arch_ f hp hw (Part.same_refl s (.arch f))
  | pins f => exact h.pins_ f hp hw (Part.same_refl s (.pins f))
  | tb f => exact h.tb_ f hp hw (Part.same_refl s (.tb f))
  | meas f => exact h.meas_ f hp hw (Part.same_refl s (.meas f))
  | shelf f => exact h.shelf_ f hp hw (Part.same_refl s (.shelf f))
  | dist f => exact h.dist_ f hp hw (Part.same_refl s (.dist f))
  | bat f => exact h.bat_ f hp hw (Part.same_refl s (.bat f))
  | seq f => exact h.seq_ f hp hw (Part.same_refl s (.seq f))
  | thm f => exact h.thm_ f hp hw (Part.same_refl s (.thm f))
  | eng f => exact h.eng_ f hp hw (Part.same_refl s (.eng f))
  | net f => exact h.net_ f hp hw (Part.same_refl s (.net f))
  | twin f => exact h.twin_ f hp hw (Part.same_refl s (.twin f))
  | casc f => exact h.casc_ f hp hw (Part.same_refl s (.casc f))
  | rst f => exact h.rst_ f hp hw (Part.same_refl s (.rst f))
  | mem f => exact h.mem_ f hp hw (Part.same_refl s (.mem f))
  | evr f => exact h.evr_ f hp hw (Part.same_refl s (.evr f))
  | upd f => exact h.upd_ f hp hw (Part.same_refl s (.upd f))

end Sys2Proof.Machine
end

section
/-! PROOFS. The slack loop and the core voltage (R25 to R30). -/

namespace Sys2Proof.Machine

/-- A chip that is not the active one of a pair has no control to give up (R392). -/
@[simp] theorem State.giveUp_of_not_active {s : State} (h : s.active = false) (code : Nat) (cause : BitVec 16) : s.giveUp code cause = s := by
  simp [State.giveUp, h]

theorem State.raise_active (c i : Nat) (v : List Nat) (s : State) : (s.raise c i v).active = s.active := by
  simp [State.active]

/-- VCORE_INTERVAL of a running timebase and a reported slack: the interval's registers, then VCORE by the slack's place (R28). -/
def State.intervalNoted (m : Rat) (u : Nat) (s : State) : State :=
  { s with arch.interval := none, arch.slackLast := m, arch.limitingUnit := u,
           arch.ceilingRun := if s.arch.vcoreMv = 850 ∧ m < s.real 0x3808 1 then satInc 10 s.arch.ceilingRun else 0 }

/-- The parts that the end of an interval notes. -/
def Part.interval : List Part := [.arch .ceilingRun, .arch .interval, .arch .slackLast, .arch .limitingUnit]

theorem State.intervalNoted_keeps (m : Rat) (u : Nat) (s : State) : KeepsBut Part.interval s (s.intervalNoted m u) :=
  KeepsBut.write_arch fun f hf _ same => by
    cases f with
    | interval | slackLast | limitingUnit | ceilingRun => simp [Part.interval] at hf
    | _ => exact same

section
variable {m : Rat} {u : Nat} {s : State} (runs : s.tbRuns = true) (least : s.arch.interval = some (m, u))
include runs least

theorem exec_vcoreInterval_low (low : m < s.real 0x3808 1) (calm : s.arch.emergencyAt ≠ some s.now) :
    exec .vcoreInterval s = .next { (s.intervalNoted m u).raiseVcore 10 with arch.raised := some (s.now, s.arch.vcoreMv) } := by
  change execVcoreInterval s = _
  simp only [execVcoreInterval, runs, least, low, calm]
  simp [State.intervalNoted, low]

theorem exec_vcoreInterval_mid (above : s.real 0x3808 1 ≤ m) (below : m < s.real 0x3808 1 + 1 / 20) :
    exec .vcoreInterval s = .next { s.intervalNoted m u with arch.lowerRun := 0 } := by
  change execVcoreInterval s = _
  simp only [execVcoreInterval, runs, least, not_lt.2 above, below]
  simp [State.intervalNoted, not_lt.2 above]

theorem exec_vcoreInterval_high (above : s.real 0x3808 1 ≤ m) (far : s.real 0x3808 1 + 1 / 20 ≤ m) :
    exec .vcoreInterval s = .next (if satInc 10 s.arch.lowerRun < 10 ∨ s.lowerHeld then { s.intervalNoted m u with arch.lowerRun := satInc 10 s.arch.lowerRun }
      else { s.intervalNoted m u with arch.lowerRun := 0, arch.vcoreMv := max 550 (s.arch.vcoreMv - 5) }) := by
  change execVcoreInterval s = _
  simp only [execVcoreInterval, runs, least, not_lt.2 above, not_lt.2 far]
  simp [State.intervalNoted, not_lt.2 above, State.lowerHeld]

end

theorem State.reportSlack_keeps (u : Fin 20) (k : Rat) (s : State) :
    KeepsBut [.arch .interval, .arch .slackMin, .arch (.lowRuns u), .arch .vcoreMv, .arch .lowerRun, .arch .emergencyAt, .arch .raised,
      .arch .emergencyRaises] s (s.reportSlack u k) := by
  unfold State.reportSlack
  dsimp only
  refine KeepsBut.ite _ (KeepsBut.write_arch fun f hf _ same => ?_) (KeepsBut.write_arch fun f hf _ same => ?_)
  all_goals
    cases f with
    | interval | slackMin | vcoreMv | lowerRun | emergencyAt | raised | emergencyRaises => first | exact same | simp at hf
    | lowRuns j => exact vector_set_getElem_ne (by rintro rfl; simp at hf)
    | _ => exact same

theorem State.feedSysWdog_keeps (s : State) : KeepsBut [.eng .setDone, .timer .sysWdog] s s.feedSysWdog := by
  refine KeepsBut.ite _ (((s.arm_keeps _ _).append (m := [.eng .setDone]) (KeepsBut.write_eng fun f hf _ same => ?_)).weaken ?_) (KeepsBut.refl _ s)
  · cases f with
    | setDone => simp at hf
    | _ => exact same
  · simp [Part.Within]


theorem satInc_of_lt {m n : Nat} (h : n < m) : satInc m n = n + 1 := if_pos h

theorem State.reportSlack_slackMin (u : Fin 20) (k : Rat) (s : State) :
    (s.reportSlack u k).arch.slackMin = some ((s.arch.slackMin.map (min k)).getD k) := by
  unfold State.reportSlack
  dsimp only
  split <;> rfl

theorem State.reportSlack_lowRuns (u : Fin 20) (k : Rat) (s : State) :
    (s.reportSlack u k).arch.lowRuns = s.arch.lowRuns.set u (if k < 1 / 20 then satInc 3 s.arch.lowRuns[u] else 0) := by
  unfold State.reportSlack
  dsimp only
  split <;> simp [State.raiseVcore]

theorem State.reportSlack_vcoreMv (u : Fin 20) (k : Rat) (s : State) :
    (s.reportSlack u k).arch.vcoreMv = if k < 1 / 20 ∧ s.vcoreBase < 850 then min 850 (s.vcoreBase + 25) else s.arch.vcoreMv := by
  unfold State.reportSlack
  simp only [decide_eq_true_eq]
  split <;> rfl

/-- TASK_ACTIVATION of a set whose engine runs: VCORE and the slack by its report alone, and the parts that may change. -/
theorem execTaskActivation_effect (e task : Fin 8) (tasks : BitVec 8) (trigger done deadline : Nat) {s : State}
    (runs : engRuns (s.eng.eng[s.eng.host[e]]).st = true) :
    ∃ t, exec (.taskActivation e task tasks trigger done deadline) s = .next t ∧
      t.arch = (s.reportSlack (engUnit e) (slackOf trigger done deadline)).arch ∧
      KeepsBut [.arch .interval, .arch .slackMin, .arch (.lowRuns (engUnit e)), .arch .vcoreMv, .arch .lowerRun, .arch .emergencyAt, .arch .raised,
        .arch .emergencyRaises, .eng (.eng e), .eng (.eng (s.eng.host[e])), .timer (.wdog (s.eng.host[e])), .eng .setDone, .timer .sysWdog] s t := by
  refine ⟨_, congrArg Host.Outcome.next (if_neg fun h => h.1 runs), ?_, ?_⟩
  · simp
  · extract_lets k s1 s2 d s3 s4
    have slack : KeepsBut _ s s1 := s.reportSlack_keeps _ _
    have period : KeepsBut _ s1 s2 := s1.modEng_keeps _ _
    have task : KeepsBut _ s2 s3 := s2.modEng_keeps _ _
    have wdog : KeepsBut [.eng (.eng (s.eng.host[e])), .timer (.wdog (s.eng.host[e]))] s3 s4 :=
      KeepsBut.ite _ ((s3.modEng_keeps _ _).append (State.arm_keeps _ _ _)) (KeepsBut.refl _ _)
    have own : KeepsBut [.eng .setDone] s4 { s4 with eng.setDone := s4.eng.setDone ||| BitVec.ofNat 8 (2 ^ e.val) } :=
      KeepsBut.write_eng fun f hf _ same => by
        cases f with
        | setDone => simp at hf
        | _ => exact same
    refine (slack.append (period.append (task.append (wdog.append (own.append (State.feedSysWdog_keeps _)))))).weaken ?_
    simp [Part.Within]

/-- Settles O1, clause by clause: each command's own equation, and the parts that its steps write. -/
theorem slackLoopMovesTheCoreVoltage : Obligations.SlackLoopMovesTheCoreVoltage := by
  refine ⟨fun b e s room => ⟨_, congrArg Host.Outcome.next (if_pos room), rfl⟩, fun b e s full => ?_, fun m u s runs least low calm => ?_,
    fun m u s runs least above below => ?_, fun m u s runs least far above short => ?_, fun s top run => ?_,
    fun u s top run solo => ?_, fun e task tasks trigger done deadline s runs => ?_⟩
  · exact ⟨_, congrArg Host.Outcome.next (if_neg (Nat.not_lt.2 full)), State.raise_raised _ _ _ rfl, s.raise_keepsBut _ _ _⟩
  · refine ⟨_, exec_vcoreInterval_low runs least low calm, rfl, rfl, rfl, rfl, rfl, rfl, ?_, ?_⟩
    · simp [State.intervalNoted, State.raiseVcore, low]
    · refine ((s.intervalNoted_keeps m u).append (m := [.arch .vcoreMv, .arch .lowerRun, .arch .raised])
        (KeepsBut.write_arch fun f hf _ same => ?_)).weaken (by simp [Part.Within, Part.interval])
      cases f with
      | vcoreMv | lowerRun | raised => simp at hf
      | _ => exact same
  · refine ⟨_, exec_vcoreInterval_mid runs least above below, rfl, rfl, rfl, rfl, rfl, ?_⟩
    refine ((s.intervalNoted_keeps m u).append (m := [.arch .lowerRun])
        (KeepsBut.write_arch fun f hf _ same => ?_)).weaken (by simp [Part.Within, Part.interval])
    cases f with
    | lowerRun => simp at hf
    | _ => exact same
  · refine ⟨_, exec_vcoreInterval_high runs least above far, ?_, by split <;> rfl, by split <;> rfl, by split <;> rfl, ?_⟩
    · rw [satInc_of_lt short]
      by_cases nine : s.arch.lowerRun = 9
      · cases held : s.lowerHeld <;> simp [nine, State.intervalNoted]
      · have : s.arch.lowerRun + 1 < 10 := by omega
        simp [nine, this, State.intervalNoted]
    · refine ((s.intervalNoted_keeps m u).append (m := [.arch .lowerRun, .arch .vcoreMv])
        (KeepsBut.ite _ (KeepsBut.write_arch fun f hf _ same => ?_) (KeepsBut.write_arch fun f hf _ same => ?_))).weaken
          (by simp [Part.Within, Part.interval])
      all_goals
        cases f with
        | lowerRun | vcoreMv => simp at hf
        | _ => exact same
  · refine ⟨_, congrArg Host.Outcome.next (if_pos ⟨top, run⟩), by simp, State.raise_raised _ _ _ rfl, ?_⟩
    refine (KeepsBut.append (m := Part.raised) (KeepsBut.write_arch (l := [.arch .ceilingRun, .arch .ceilingEvents]) fun f hf _ same => ?_)
      (State.raise_keepsBut _ _ _ _)).weaken (by simp [Part.Within, Part.raised])
    cases f with
    | ceilingRun | ceilingEvents => simp at hf
    | _ => exact same
  · have kept : (({ s with arch.lowRuns := s.arch.lowRuns.set u 0 } : State).raise 0x0B02 (slackUnit u) []).active = false := by
      rw [State.raise_active]
      exact solo
    refine ⟨_, congrArg Host.Outcome.next ((if_pos ⟨top, run⟩).trans (State.giveUp_of_not_active kept _ _)), by simp, State.raise_raised _ _ _ rfl, ?_⟩
    refine (KeepsBut.append (m := Part.raised) (KeepsBut.write_arch (l := [.arch (.lowRuns u)]) fun f hf _ same => ?_)
      (State.raise_keepsBut _ _ _ _)).weaken (by simp [Part.Within, Part.raised])
    cases f with
    | lowRuns j => exact vector_set_getElem_ne (by rintro rfl; simp at hf)
    | _ => exact same
  · obtain ⟨t, ht, arch, keeps⟩ := execTaskActivation_effect e task tasks trigger done deadline runs
    refine ⟨t, ht, ?_, ?_, ?_, keeps⟩
    · rw [arch, State.reportSlack_slackMin]
    · rw [arch, State.reportSlack_vcoreMv]
    · rw [arch, State.reportSlack_lowRuns]

/-- A new device whose timebase raised VCORE at this instant from a value that the invariant does not bound: an activation of E0's set waits. -/
def State.raisedFromNothing : State :=
  { State.reset with arch.raised := some (0, 0), pending := [.taskActivation 0 0 0 0 0 0] }

/-- Refutes O54: a low period's emergency raise starts from the VCORE kept at an interval raise of the same instant (R28), and the invariant
bounds VCORE alone. From 0 mV kept there, a step leaves VCORE at 25 mV. -/
theorem not_everyStepKeepsTheInvariant : ¬ Obligations.EveryStepKeepsTheInvariant := by
  unfold Obligations.EveryStepKeepsTheInvariant
  intro keeps
  obtain ⟨t, ht, arch, _⟩ := execTaskActivation_effect (s := { State.raisedFromNothing with pending := [] }) 0 0 0 0 0 0 (by decide)
  have low : t.arch.vcoreMv = 25 := by
    rw [arch, State.reportSlack_vcoreMv]
    decide +kernel
  have before : State.raisedFromNothing.Inv := ⟨by decide, by decide, by decide +kernel⟩
  obtain ⟨_, ⟨range, _⟩, _⟩ := keeps State.raisedFromNothing t before ht
  omega

end Sys2Proof.Machine
end

section
/-! PROOFS. The stored code corrects one nibble in each lane (R428 to R431): a codeword's syndromes are 0, so those of a read are the error's. -/

namespace Sys2Proof.Machine

/-! ## Nibbles of a word -/

theorem nibble_eq_shiftRight (w i : Nat) : nibble w i = (w >>> (4 * i)) % 2 ^ 4 := by
  rw [nibble, Nat.shiftRight_eq_div_pow, Nat.pow_mul]
  rfl

theorem nibble_xor (a b i : Nat) : nibble (Nat.xor a b) i = Nat.xor (nibble a i) (nibble b i) := by
  simp only [nibble_eq_shiftRight]
  exact (congrArg (· % 2 ^ 4) Nat.shiftRight_xor_distrib).trans Nat.xor_mod_two_pow

/-- A pattern confined to nibble `n` shows there and nowhere else. -/
theorem nibble_mul_pow {e : Nat} (he : e < 16) (n i : Nat) : nibble (e * 16 ^ n) i = if i = n then e else 0 := by
  unfold nibble
  rcases Nat.lt_trichotomy i n with less | rfl | more
  · obtain ⟨k, rfl⟩ := Nat.exists_eq_add_of_lt less
    have split : e * 16 ^ (i + k + 1) = 16 ^ i * (e * 16 ^ k * 16) := by ring
    rw [if_neg (by omega), split, Nat.mul_div_cancel_left _ (by positivity), Nat.mul_mod_left]
  · rw [if_pos rfl, Nat.mul_div_cancel _ (by positivity), Nat.mod_eq_of_lt he]
  · obtain ⟨k, rfl⟩ := Nat.exists_eq_add_of_lt more
    have small : e * 16 ^ n < 16 ^ (n + k + 1) := by
      calc e * 16 ^ n < 16 * 16 ^ n := Nat.mul_lt_mul_of_pos_right he (by positivity)
        _ = 16 ^ (n + 1) := by ring
        _ ≤ 16 ^ (n + k + 1) := Nat.pow_le_pow_right (by decide) (by omega)
    rw [if_neg (by omega), Nat.div_eq_of_lt small, Nat.zero_mod]

/-- The low sixteen nibbles of a codeword are the word's. -/
theorem nibble_add_low {i : Nat} (hi : i < 16) (a c : Nat) : nibble (a + 2 ^ 64 * c) i = nibble a i := by
  obtain ⟨k, hk⟩ := Nat.exists_eq_add_of_lt hi
  have split : 2 ^ 64 * c = 16 ^ i * (16 * (16 ^ k * c)) := by
    rw [show (2 : Nat) ^ 64 = 16 ^ (i + k + 1) by rw [← hk]; norm_num]
    ring
  rw [nibble, nibble, split, Nat.add_mul_div_left _ _ (by positivity), Nat.add_mul_mod_self_left]

/-- The nibbles above them are those of the check bits. -/
theorem nibble_add_high {a : Nat} (ha : a < 2 ^ 64) (c i : Nat) : nibble (a + 2 ^ 64 * c) (16 + i) = nibble c i := by
  rw [nibble, nibble, Nat.pow_add, ← Nat.div_div_eq_div_mul, show (16 : Nat) ^ 16 = 2 ^ 64 by norm_num,
    Nat.add_mul_div_left _ _ (by positivity), Nat.div_eq_of_lt ha, Nat.zero_add]

/-! ## A codeword's syndromes are 0 -/

theorem rsRemainder_append_singleton (data : List Nat) (c : Nat) :
    rsRemainder (data ++ [c]) = (Nat.xor (rsRemainder data).2 (gfMul (Nat.xor (rsRemainder data).1 c) 0x6), gfMul (Nat.xor (rsRemainder data).1 c) 0x8) := by
  simp [rsRemainder]

/-- The roots of g are α and α² (R428): there x² is 0x6·x + 0x8, whatever it multiplies. -/
theorem gfMul_root {k : Nat} (root : k = 1 ∨ k = 2) {f : Nat} (hf : f < 16) :
    gfMul f (gfExp (2 * k)) = Nat.xor (gfMul (gfMul f 0x6) (gfExp k)) (gfMul f 0x8) := by
  have all : ∀ b < 16, gfMul b (gfExp 2) = Nat.xor (gfMul (gfMul b 0x6) (gfExp 1)) (gfMul b 0x8) ∧
      gfMul b (gfExp 4) = Nat.xor (gfMul (gfMul b 0x6) (gfExp 2)) (gfMul b 0x8) := by decide
  obtain rfl | rfl := root
  · exact (all f hf).1
  · exact (all f hf).2

/-- At a root of g, the data's value times x² is the remainder's value. -/
theorem gfEval_eq_rsRemainder {k : Nat} (root : k = 1 ∨ k = 2) {data : List Nat} (symbols : ∀ c ∈ data, c < 16) :
    (gfEval (gfExp k) data < 16 ∧ (rsRemainder data).1 < 16 ∧ (rsRemainder data).2 < 16) ∧
      gfMul (gfEval (gfExp k) data) (gfExp (2 * k)) = Nat.xor (gfMul (rsRemainder data).1 (gfExp k)) (rsRemainder data).2 := by
  induction data using List.reverseRecOn with
  | nil => exact ⟨⟨Nat.zero_lt_succ 15, Nat.zero_lt_succ 15, Nat.zero_lt_succ 15⟩, by obtain rfl | rfl := root <;> decide⟩
  | append_singleton data c ih =>
    obtain ⟨⟨he, h1, h2⟩, sum⟩ := ih fun a ha => symbols a (List.mem_append_left _ ha)
    have hc : c < 16 := symbols c (by simp)
    have hf := xor_lt_sixteen h1 hc
    rw [gfEval_append_singleton, rsRemainder_append_singleton]
    refine ⟨⟨xor_lt_sixteen (gfMul_lt _ _) hc, xor_lt_sixteen h2 (gfMul_lt _ _), gfMul_lt _ _⟩, ?_⟩
    have shifted : gfMul (gfMul (gfEval (gfExp k) data) (gfExp k)) (gfExp (2 * k)) =
        Nat.xor (gfMul (rsRemainder data).1 (gfExp (2 * k))) (gfMul (rsRemainder data).2 (gfExp k)) := by
      rw [gfMul_gfMul_gfExp he, Nat.add_comm, ← gfMul_gfMul_gfExp he, sum, xor_gfMul_gfExp (gfMul_lt _ _) h2, gfMul_gfMul_gfExp h1, Nat.two_mul]
    have joined : Nat.xor (gfMul (rsRemainder data).1 (gfExp (2 * k))) (gfMul c (gfExp (2 * k))) =
        Nat.xor (gfMul (gfMul (Nat.xor (rsRemainder data).1 c) 0x6) (gfExp k)) (gfMul (Nat.xor (rsRemainder data).1 c) 0x8) := by
      rw [← xor_gfMul_gfExp h1 hc, gfMul_root root hf]
    rw [xor_gfMul_gfExp (gfMul_lt _ _) hc, shifted, xor_gfMul_gfExp h2 (gfMul_lt _ _)]
    calc Nat.xor (Nat.xor (gfMul (rsRemainder data).1 (gfExp (2 * k))) (gfMul (rsRemainder data).2 (gfExp k))) (gfMul c (gfExp (2 * k)))
        = Nat.xor (Nat.xor (gfMul (rsRemainder data).1 (gfExp (2 * k))) (gfMul c (gfExp (2 * k)))) (gfMul (rsRemainder data).2 (gfExp k)) :=
          Nat.xor_right_comm _ _ _
      _ = _ := by
          rw [joined]
          exact (Nat.xor_right_comm _ _ _).trans (congrArg (Nat.xor · _) (Nat.xor_comm _ _))

/-- Data followed by their remainder have the value 0 at the roots of g. -/
theorem gfEval_append_rsRemainder {k : Nat} (root : k = 1 ∨ k = 2) {data : List Nat} (symbols : ∀ c ∈ data, c < 16) :
    gfEval (gfExp k) (data ++ [(rsRemainder data).1, (rsRemainder data).2]) = 0 := by
  obtain ⟨⟨he, h1, _⟩, sum⟩ := gfEval_eq_rsRemainder root symbols
  rw [show data ++ [(rsRemainder data).1, (rsRemainder data).2] = (data ++ [(rsRemainder data).1]) ++ [(rsRemainder data).2] by simp,
    gfEval_append_singleton, gfEval_append_singleton, xor_gfMul_gfExp (gfMul_lt _ _) h1, gfMul_gfMul_gfExp he, ← Nat.two_mul, sum]
  calc Nat.xor (Nat.xor (Nat.xor (gfMul (rsRemainder data).1 (gfExp k)) (rsRemainder data).2) (gfMul (rsRemainder data).1 (gfExp k))) (rsRemainder data).2
      = Nat.xor (Nat.xor (Nat.xor (gfMul (rsRemainder data).1 (gfExp k)) (gfMul (rsRemainder data).1 (gfExp k))) (rsRemainder data).2) (rsRemainder data).2 :=
        congrArg (Nat.xor · _) (Nat.xor_right_comm _ _ _)
    _ = 0 := by
        refine (Nat.xor_assoc _ _ _).trans ?_
        exact (congrArg₂ Nat.xor (Nat.xor_self _) (Nat.xor_self _)).trans (Nat.xor_self 0)

/-- The eight data symbols of a lane of a word. -/
def dataSymbols (d l : Nat) : List Nat := (laneSymbols (d % 2 ^ 64) l).take 8

theorem dataSymbols_lt (d l : Nat) : ∀ c ∈ dataSymbols d l, c < 16 := by
  intro c hc
  obtain ⟨j, _, rfl⟩ := List.mem_map.1 (List.mem_of_mem_take hc)
  exact nibble_lt _ _

theorem rsRemainder_dataSymbols_lt (d l : Nat) : (rsRemainder (dataSymbols d l)).1 < 16 ∧ (rsRemainder (dataSymbols d l)).2 < 16 :=
  (gfEval_eq_rsRemainder (.inl rfl) (dataSymbols_lt d l)).1.2

/-- A lane of a codeword is the data's symbols and then their remainder (R429). -/
theorem laneSymbols_rsEncode (d : Nat) (l : Fin 2) :
    laneSymbols (rsEncode d) l = dataSymbols d l ++ [(rsRemainder (dataSymbols d l)).1, (rsRemainder (dataSymbols d l)).2] := by
  have check : rsCheck (d % 2 ^ 64) = (rsRemainder (dataSymbols d 0)).1 + 16 * (rsRemainder (dataSymbols d 1)).1 +
      256 * (rsRemainder (dataSymbols d 0)).2 + 4096 * (rsRemainder (dataSymbols d 1)).2 := rfl
  have a := rsRemainder_dataSymbols_lt d 0
  have b := rsRemainder_dataSymbols_lt d 1
  have low : ∀ i < 16, nibble (rsEncode d) i = nibble (d % 2 ^ 64) i := fun i hi => nibble_add_low hi _ _
  have high : ∀ i, nibble (rsEncode d) (16 + i) = nibble (rsCheck (d % 2 ^ 64)) i := nibble_add_high (Nat.mod_lt _ (by positivity)) _
  have first : nibble (rsEncode d) (16 + l) = (rsRemainder (dataSymbols d l)).1 := by
    rw [high, check, nibble]
    fin_cases l <;> simp <;> omega
  have second : nibble (rsEncode d) (18 + l) = (rsRemainder (dataSymbols d l)).2 := by
    rw [show 18 + l.val = 16 + (2 + l) by omega, high, check, nibble]
    fin_cases l <;> simp <;> omega
  have data : dataSymbols d l = (List.range 8).map fun j => nibble (rsEncode d) (2 * j + l) := by
    rw [dataSymbols, laneSymbols, ← List.map_take, List.take_range]
    exact List.map_congr_left fun j hj => (low _ (by have := List.mem_range.1 hj; omega)).symm
  rw [← first, ← second, data]
  rfl

theorem gfEval_rsEncode {k : Nat} (root : k = 1 ∨ k = 2) (d : Nat) (l : Fin 2) : gfEval (gfExp k) (laneSymbols (rsEncode d) l) = 0 := by
  rw [laneSymbols_rsEncode]
  exact gfEval_append_rsRemainder root (dataSymbols_lt d l)

/-! ## The read of a codeword with one nibble of a lane in error -/

/-- The value of two words' sum in a lane is the sum of their values. -/
theorem gfEval_laneSymbols_xor (k a b l : Nat) :
    gfEval (gfExp k) (laneSymbols (Nat.xor a b) l) = Nat.xor (gfEval (gfExp k) (laneSymbols a l)) (gfEval (gfExp k) (laneSymbols b l)) := by
  have sum : ∀ n, gfEval (gfExp k) ((List.range n).map fun j => nibble (Nat.xor a b) (2 * j + l)) =
      Nat.xor (gfEval (gfExp k) ((List.range n).map fun j => nibble a (2 * j + l))) (gfEval (gfExp k) ((List.range n).map fun j => nibble b (2 * j + l))) := by
    intro n
    induction n with
    | zero => exact (Nat.xor_self 0).symm
    | succ n ih =>
      rw [gfEval_map_range_succ, gfEval_map_range_succ, gfEval_map_range_succ, ih, nibble_xor,
        xor_gfMul_gfExp (gfEval_map_range_lt (fun j => nibble_lt a _) _ _) (gfEval_map_range_lt (fun j => nibble_lt b _) _ _)]
      exact (Nat.xor_assoc _ _ _).trans ((congrArg (Nat.xor _) (Nat.xor_left_comm _ _ _)).trans (Nat.xor_assoc _ _ _).symm)
  exact sum 10

/-- A word's lane holds the pattern `e` in its symbol `j` and nothing else. -/
def LaneError (err l : Nat) (j : Fin 10) (e : Fin 16) : Prop := ∀ i < 10, nibble err (2 * i + l) = if i = j.val then e.val else 0

theorem gfEval_of_laneError {err l : Nat} {j : Fin 10} {e : Fin 16} (h : LaneError err l j e) {k : Nat} (root : k = 1 ∨ k = 2) :
    gfEval (gfExp k) (laneSymbols err l) = gfMul e (gfExp (k * (9 - j))) := by
  have symbols : laneSymbols err l = (List.range 10).map fun i => if i = j.val then e.val else 0 :=
    List.map_congr_left fun i hi => h i (List.mem_range.1 hi)
  have all : ∀ (j : Fin 10) (e : Fin 16),
      gfEval (gfExp 1) ((List.range 10).map fun i => if i = j.val then e.val else 0) = gfMul e (gfExp (1 * (9 - j))) ∧
      gfEval (gfExp 2) ((List.range 10).map fun i => if i = j.val then e.val else 0) = gfMul e (gfExp (2 * (9 - j))) := by
    decide +kernel
  rw [symbols]
  obtain rfl | rfl := root
  · exact (all j e).1
  · exact (all j e).2

/-- The magnitude of R430, the square of the first syndrome over the second, is the pattern. -/
theorem gfDiv_gfMul_self {e : Nat} (he : e < 16) (nonzero : e ≠ 0) (p : Nat) (hp : p ≤ 9) :
    gfDiv (gfMul (gfMul e (gfExp p)) (gfMul e (gfExp p))) (gfMul e (gfExp (2 * p))) = e := by
  obtain ⟨k, rfl⟩ := exists_gfExp_eq he nonzero
  rw [gfMul_gfExp, gfMul_gfExp, gfMul_gfExp, gfDiv_gfExp, gfExp_eq_gfExp_iff]
  omega

theorem gfMul_gfExp_ne_zero {e : Nat} (he : e < 16) (nonzero : e ≠ 0) (p : Nat) : gfMul e (gfExp p) ≠ 0 := by
  obtain ⟨k, rfl⟩ := exists_gfExp_eq he nonzero
  rw [gfMul_gfExp]
  exact gfExp_ne_zero _

/-- The read of a lane takes its one error away (R430). -/
theorem fix_rsLane {d err : Nat} {l : Fin 2} {j : Fin 10} {e : Fin 16} (h : LaneError err l j e) (w : Nat) :
    rsLane (Nat.xor (rsEncode d) err) l ≠ .uncorrectable ∧
      (rsLane (Nat.xor (rsEncode d) err) l).fix w = Nat.xor w (e * 16 ^ (2 * j.val + l)) := by
  have syndrome : ∀ k, k = 1 ∨ k = 2 → gfEval (gfExp k) (laneSymbols (Nat.xor (rsEncode d) err) l) = gfMul e (gfExp (k * (9 - j))) :=
    fun k root => by
      rw [gfEval_laneSymbols_xor, gfEval_rsEncode root, gfEval_of_laneError h root]
      exact Nat.zero_xor _
  have e1 := syndrome 1 (.inl rfl)
  have e2 := syndrome 2 (.inr rfl)
  by_cases zero : e.val = 0
  · rw [rsLane_eq_clean e1 e2 (by rw [zero, gfMul_zero_left]) (by rw [zero, gfMul_zero_left])]
    refine ⟨by simp, ?_⟩
    rw [zero, Nat.zero_mul]
    exact (Nat.xor_zero _).symm
  · have place : gfMul e (gfExp (2 * (9 - j))) = gfMul (gfMul e (gfExp (1 * (9 - j)))) (gfExp (9 - j)) := by
      rw [gfMul_gfMul_gfExp e.isLt, Nat.one_mul, Nat.two_mul]
    have hp : 9 - j.val ≤ 9 := Nat.sub_le _ _
    rw [rsLane_eq_corrected e1 e2 (gfMul_gfExp_ne_zero e.isLt zero _) (gfMul_gfExp_ne_zero e.isLt zero _) hp place, Nat.one_mul,
      gfDiv_gfMul_self e.isLt zero _ hp, show 9 - (9 - j.val) = j.val by omega]
    exact ⟨by simp, rfl⟩

theorem rsEncode_mod (d : Nat) : rsEncode d % 2 ^ 64 = d % 2 ^ 64 := by
  rw [rsEncode, Nat.add_mul_mod_self_left, Nat.mod_mod]

/-- A codeword with one nibble of each lane in error reads as the word that it stores. -/
theorem rsRead_one_nibble_per_lane (d : Nat) (j0 j1 : Fin 10) (e0 e1 : Fin 16) :
    rsRead (Nat.xor (Nat.xor (rsEncode d) (e0 * 16 ^ (2 * j0.val))) (e1 * 16 ^ (2 * j1.val + 1))) = some (d % 2 ^ 64) := by
  have joined : Nat.xor (Nat.xor (rsEncode d) (e0 * 16 ^ (2 * j0.val))) (e1 * 16 ^ (2 * j1.val + 1)) =
      Nat.xor (rsEncode d) (Nat.xor (e0 * 16 ^ (2 * j0.val)) (e1 * 16 ^ (2 * j1.val + 1))) := Nat.xor_assoc _ _ _
  have lane0 : LaneError (Nat.xor (e0 * 16 ^ (2 * j0.val)) (e1 * 16 ^ (2 * j1.val + 1))) (0 : Fin 2) j0 e0 := fun i _ => by
    have off : ¬ 2 * i + (0 : Fin 2).val = 2 * j1.val + 1 := by simp only [Fin.val_zero]; omega
    rw [nibble_xor, nibble_mul_pow e0.isLt, nibble_mul_pow e1.isLt, if_neg off]
    exact (Nat.xor_zero _).trans (by simp)
  have lane1 : LaneError (Nat.xor (e0 * 16 ^ (2 * j0.val)) (e1 * 16 ^ (2 * j1.val + 1))) (1 : Fin 2) j1 e1 := fun i _ => by
    have off : ¬ 2 * i + (1 : Fin 2).val = 2 * j0.val := by simp only [Fin.val_one]; omega
    rw [nibble_xor, nibble_mul_pow e0.isLt, nibble_mul_pow e1.isLt, if_neg off]
    exact (Nat.zero_xor _).trans (by simp)
  obtain ⟨good0, fix0⟩ := fix_rsLane (d := d) lane0 (Nat.xor (rsEncode d) (Nat.xor (e0 * 16 ^ (2 * j0.val)) (e1 * 16 ^ (2 * j1.val + 1))))
  obtain ⟨good1, fix1⟩ := fix_rsLane (d := d) lane1 (Nat.xor (Nat.xor (rsEncode d) (Nat.xor (e0 * 16 ^ (2 * j0.val)) (e1 * 16 ^ (2 * j1.val + 1))))
    (e0 * 16 ^ (2 * j0.val)))
  have restored : Nat.xor (Nat.xor (Nat.xor (rsEncode d) (Nat.xor (e0 * 16 ^ (2 * j0.val)) (e1 * 16 ^ (2 * j1.val + 1)))) (e0 * 16 ^ (2 * j0.val)))
      (e1 * 16 ^ (2 * j1.val + 1)) = rsEncode d :=
    (Nat.xor_assoc _ _ _).trans (Nat.xor_xor_cancel_right _ _)
  rw [joined, rsRead]
  dsimp only [Fin.val_zero, Fin.val_one] at good0 good1 fix0 fix1
  simp only [Nat.add_zero] at fix0
  rw [if_neg (not_or.2 ⟨good0, good1⟩), fix0, fix1, restored, rsEncode_mod]

/-- A pattern over two adjacent nibbles is a pattern in each. -/
theorem xor_adjacent_nibbles (i : Nat) {e : Nat} (he : e < 256) : e * 16 ^ i = Nat.xor (e % 16 * 16 ^ i) (e / 16 * 16 ^ (i + 1)) := by
  have all : ∀ e < 256, e = e % 16 ^^^ e / 16 * 16 := by decide +kernel
  have shift : ∀ a, a * 16 ^ i = a <<< (4 * i) := fun a => by rw [Nat.shiftLeft_eq, Nat.pow_mul]
  have apart : e / 16 * 16 ^ (i + 1) = e / 16 * 16 * 16 ^ i := by rw [Nat.pow_succ]; ring
  rw [apart, shift, shift, shift]
  exact (congrArg (· <<< (4 * i)) (all e he)).trans Nat.shiftLeft_xor_distrib

/-- Two adjacent nibbles stand in different lanes. -/
theorem rsRead_two_adjacent_nibbles (d : Nat) (i : Fin 19) (e : Fin 256) : rsRead (Nat.xor (rsEncode d) (e * 16 ^ i.val)) = some (d % 2 ^ 64) := by
  have hi := i.isLt
  have he := e.isLt
  have lo : e.val % 16 < 16 := Nat.mod_lt _ (by decide)
  have hi' : e.val / 16 < 16 := by omega
  rw [xor_adjacent_nibbles i he]
  obtain ⟨k, even | odd⟩ := Nat.even_or_odd' i.val
  · rw [even]
    exact (congrArg rsRead (Nat.xor_assoc _ _ _).symm).trans (rsRead_one_nibble_per_lane d ⟨k, by omega⟩ ⟨k, by omega⟩ ⟨_, lo⟩ ⟨_, hi'⟩)
  · rw [odd, show 2 * k + 1 + 1 = 2 * (k + 1) by omega]
    exact (congrArg rsRead ((congrArg (Nat.xor _) (Nat.xor_comm _ _)).trans (Nat.xor_assoc _ _ _).symm)).trans
      (rsRead_one_nibble_per_lane d ⟨k + 1, by omega⟩ ⟨k, by omega⟩ ⟨_, hi'⟩ ⟨_, lo⟩)

/-- Settles O55: a read takes away what each lane's syndromes say; two adjacent nibbles stand in different lanes, and a burst of five bits lies in
two adjacent nibbles. -/
theorem theStoredCodeCorrectsOneNibblePerLane : Obligations.TheStoredCodeCorrectsOneNibblePerLane := by
  refine ⟨rsRead_one_nibble_per_lane, rsRead_two_adjacent_nibbles, fun d k b => ?_⟩
  have hk := k.isLt
  have hb := b.isLt
  have small : b.val * 2 ^ (k.val % 4) < 256 := by
    calc b.val * 2 ^ (k.val % 4) < 32 * 2 ^ (k.val % 4) := Nat.mul_lt_mul_of_pos_right hb (by positivity)
      _ ≤ 32 * 2 ^ 3 := Nat.mul_le_mul_left _ (Nat.pow_le_pow_right (by decide) (by omega))
      _ = 256 := by decide
  have place : b.val * 2 ^ k.val = b.val * 2 ^ (k.val % 4) * 16 ^ (k.val / 4) := by
    rw [show (16 : Nat) = 2 ^ 4 by decide, ← Nat.pow_mul, Nat.mul_assoc, ← Nat.pow_add, Nat.mod_add_div]
  rw [place]
  exact rsRead_two_adjacent_nibbles d ⟨k.val / 4, by omega⟩ ⟨_, small⟩

end Sys2Proof.Machine
end

section
/-! PROOFS. A step, and the state after reset (R14, R25, R29, R56, R89). -/

namespace Sys2Proof.Machine

theorem step_of_cons {c : Instr} {rest : List Instr} {s : State} (front : s.pending = c :: rest) :
    step s = exec c { s with pending := rest } := by
  simp [step, front]

theorem step_of_empty {s : State} (empty : s.pending = []) : step s = .next s.tick := by
  simp [step, empty]

/-! ## The idle cycle -/

/-- What time alone changes at the start of an idle cycle, before pulses, edges, slews and a held reply are looked at. -/
def State.cycleStart (s : State) : State :=
  { s with
    now := s.now + cycleNs
    tb.tod := if s.todRuns then s.tb.tod + cycleNs else s.tb.tod
    tb.model.age := if s.todRuns then s.tb.model.age + cycleNs else s.tb.model.age
    tb.gen := s.tb.gen.map (GenTimer.cycle s.tbRuns)
    pins.gpioOut := s.pins.gpioOut &&& ~~~ s.pulsesOver
    arch.bridges := s.arch.bridges.map List.tail }

/-- An idle cycle without the reply that may be held. -/
def State.cycleEnd (s : State) : State := s.cycleStart.pulseEnds.edgesPass.slewEnds

theorem State.tick_eq (s : State) : s.tick = s.cycleEnd.heldOver := rfl

theorem State.heldOver_of_none {s : State} (held : s.shelf.heldCopy = none) : s.heldOver = s := by
  simp [State.heldOver, held]

theorem State.cycleStart_keeps (s : State) :
    KeepsBut [.now, .tb .tod, .tb .genAll, .tb .model, .arch .bridgesAll, .pins .gpioOut] s s.cycleStart := by
  unfold State.cycleStart
  refine .of_pieces { State.Pieces.refl with
    now_ := fun h => absurd (by simp) h, tb_ := fun f hf hw same => ?_, pins_ := fun f hf _ same => ?_, arch_ := fun f _ hw same => ?_ }
  · cases f with
    | bridges => exact absurd (by simp [Part.whole, ArchPart.whole]) hw
    | _ => exact same
  · cases f with
    | gpioOut => simp at hf
    | _ => exact same
  · cases f with
    | tod | model => simp at hf
    | gen => exact absurd (by simp [Part.whole, TimebasePart.whole]) hw
    | _ => exact same

theorem KeepsBut.pwm_phase (s : State) (v : Vector PwmPin 32) (w : Vector Phase 32) :
    KeepsBut [.pins .pwmAll, .phaseAll] s { s with pins.pwm := v, phase := w } := by
  refine .of_pieces { State.Pieces.refl with pins_ := fun f _ hw same => ?_, phase_ := fun _ _ h => absurd (by simp) h }
  cases f with
  | pwm => exact absurd (by simp [Part.whole, PinsPart.whole]) hw
  | _ => exact same

theorem State.pulseEnds_keeps (s : State) : KeepsBut [.pins .pwmAll, .phaseAll] s s.pulseEnds := KeepsBut.pwm_phase s _ _

theorem State.edgesPass_keeps (s : State) : KeepsBut [.loopAll, .pins .syncOut] s s.edgesPass := by
  unfold State.edgesPass State.syncOutNow
  refine .of_pieces { State.Pieces.refl with pins_ := fun f hf _ same => ?_, loop_ := fun _ _ h => absurd (by simp) h }
  cases f with
  | syncOut => simp at hf
  | _ => exact same

theorem State.slewStop_keeps (s : State) : KeepsBut [.tb .slewLeft, .tb .slewOff, .tb .steering] s s.slewStop := by
  unfold State.slewStop
  refine .of_pieces { State.Pieces.refl with tb_ := fun f hf _ same => ?_ }
  cases f with
  | slewLeft | slewOff | steering => simp at hf
  | _ => exact same

theorem State.slewEnds_keeps (s : State) : KeepsBut [.tb .slewLeft, .tb .slewOff, .tb .steering] s s.slewEnds :=
  KeepsBut.ite _ s.slewStop_keeps (KeepsBut.refl _ s)

theorem State.cycleEnd_keeps (s : State) :
    KeepsBut [.now, .tb .tod, .tb .genAll, .tb .model, .tb .slewLeft, .tb .slewOff, .tb .steering, .arch .bridgesAll, .pins .pwmAll, .pins .gpioOut,
      .pins .syncOut, .phaseAll, .loopAll] s s.cycleEnd :=
  (((s.cycleStart_keeps.append s.cycleStart.pulseEnds_keeps).append (State.edgesPass_keeps _)).append (State.slewEnds_keeps _)).weaken
    (by simp [Part.Within])

@[simp] theorem State.slewEnds_tod (s : State) : s.slewEnds.tb.tod = s.tb.tod ∧ s.slewEnds.tb.gen = s.tb.gen := by
  unfold State.slewEnds State.slewStop
  split <;> simp

/-- An edge that passes changes a loop's edge and its bound mark only. -/
theorem State.edgePassed_eq (s : State) (l : Fin 8) : ∃ e b, s.edgePassed l = { s.loop[l] with refEdge := e, bounded := b } := by
  unfold State.edgePassed
  split
  · split
    · exact ⟨_, _, rfl⟩
    · exact ⟨_, _, rfl⟩
  · exact ⟨_, _, rfl⟩

theorem State.edgesPass_loop (s : State) (l : Fin 8) : s.edgesPass.loop[l] = s.edgePassed l := by
  simp [State.edgesPass, State.syncOutNow]

theorem State.edgesPass_pwm (s : State) : s.edgesPass.pins.pwm = s.pins.pwm := rfl

theorem State.cycleEnd_tod (s : State) : s.cycleEnd.tb.tod = if s.todRuns = true then s.tb.tod + 5 else s.tb.tod := by
  simp [State.cycleEnd, State.cycleStart, cycleNs]

theorem State.cycleEnd_now (s : State) : s.cycleEnd.now = s.now + 5 := by
  simp [State.cycleEnd, State.cycleStart, cycleNs]

theorem State.cycleEnd_bridge (s : State) (b : Fin 9) : s.cycleEnd.arch.bridges[b] = s.arch.bridges[b].tail := by
  simp [State.cycleEnd, State.cycleStart]

theorem State.cycleEnd_captured (s : State) (k : Fin 16) : s.cycleEnd.tb.gen[k].captured = s.tb.gen[k].captured.tail := by
  simp [State.cycleEnd, State.cycleStart, GenTimer.cycle]

theorem State.cycleStart_pulseOver (s : State) (i : Fin 32) :
    s.cycleStart.pulseOver i = true ↔ s.pins.pwm[i] = .high ∧ s.phase[i].offAt ≤ s.now + 5 :=
  decide_eq_true_iff

theorem State.cycleEnd_pwm (s : State) (i : Fin 32) :
    s.cycleEnd.pins.pwm[i] = if s.pins.pwm[i] = .high ∧ s.phase[i].offAt ≤ s.now + 5 then .low else s.pins.pwm[i] := by
  simp only [← s.cycleStart_pulseOver i]
  simp [State.cycleEnd, State.edgesPass_pwm, State.pulseEnds, State.cycleStart]

theorem State.cycleEnd_phase (s : State) (i : Fin 32) :
    s.cycleEnd.phase[i] = { s.phase[i] with requests := s.phase[i].requests ++
      (if s.pins.pwm[i] = .high ∧ s.phase[i].offAt ≤ s.now + 5 then [(true, s.phase[i].offAt)] else []) } := by
  simp only [← s.cycleStart_pulseOver i]
  by_cases ends : s.cycleStart.pulseOver i
  · simp [State.cycleEnd, State.pulseEnds, ends]
    simp [State.cycleStart]
  · simp [State.cycleEnd, State.pulseEnds, ends]
    simp [State.cycleStart]

theorem State.cycleEnd_loop (s : State) (l : Fin 8) : ∃ e b, s.cycleEnd.loop[l] = { s.loop[l] with refEdge := e, bounded := b } := by
  have edge : s.cycleEnd.loop[l] = s.cycleStart.pulseEnds.edgePassed l := by
    simp only [State.cycleEnd, State.slewEnds_frame]
    exact State.edgesPass_loop _ l
  have base : s.cycleStart.pulseEnds.loop = s.loop := by simp [State.cycleStart]
  rw [edge, ← base]
  exact State.edgePassed_eq _ l

/-! A held reply that is taken may assign a rectifier's frequency, and leaves the time of day. -/

@[simp] theorem State.assignRec_tod (i : Fin 32) (s : State) : (s.assignRec i).tb.tod = s.tb.tod := by
  unfold State.assignRec
  dsimp only
  split
  · split <;> simp
  · rfl

@[simp] theorem State.joinNext_tod (i : Fin 32) (s : State) : (s.joinNext i).tb.tod = s.tb.tod := by
  unfold State.joinNext
  dsimp only
  (repeat' split) <;> simp

@[simp] theorem State.slowHear_tod (i : Fin 32) (toggle : Bool) (v : Nat) (s : State) : (s.slowHear i toggle v).tb.tod = s.tb.tod := by
  unfold State.slowHear
  dsimp only
  (repeat' split) <;> simp

@[simp] theorem State.slowAnswer_tod (i : Fin 32) (ok toggle : Bool) (v : Nat) (s : State) : (s.slowAnswer i ok toggle v).tb.tod = s.tb.tod := by
  unfold State.slowAnswer
  dsimp only
  (repeat' split) <;> simp

@[simp] theorem State.takeReply_tod (i : Fin 32) (d : List Byte) (s : State) : (s.takeReply i d).tb.tod = s.tb.tod := by
  unfold State.takeReply
  dsimp only
  split <;> simp

theorem State.heldOver_tod (s : State) : s.heldOver.tb.tod = s.tb.tod := by
  unfold State.heldOver State.takeHeld State.takeSlot
  (repeat' split) <;> simp

/-- Settles O51: a step is an execution of the front command or, on an empty queue, the idle cycle, whose parts are taken in turn. -/
theorem stepRunsTheFrontCommandOrIdles : Obligations.StepRunsTheFrontCommandOrIdles := by
  unfold Obligations.StepRunsTheFrontCommandOrIdles
  refine ⟨fun c rest s front => step_of_cons front, fun s empty held => ?_, fun s empty => ?_⟩
  · have idle : step s = .next s.cycleEnd := by
      rw [step_of_empty empty, State.tick_eq, State.heldOver_of_none]
      rw [(s.cycleEnd_keeps (.shelf .heldCopy) (by simp) (by simp [Part.whole, ShelfPart.whole]) : _ = _), held]
    exact ⟨_, idle, s.cycleEnd_now, s.cycleEnd_tod, s.cycleEnd_bridge, s.cycleEnd_captured, s.cycleEnd_pwm, s.cycleEnd_phase, s.cycleEnd_loop,
      s.cycleEnd_keeps⟩
  · refine ⟨_, step_of_empty empty, ?_, ?_, ?_⟩
    · simp [State.tick_eq, s.cycleEnd_now]
    · rw [State.tick_eq, State.heldOver_tod, s.cycleEnd_tod]
    · simp [empty]

end Sys2Proof.Machine
end

section
/-! PROOFS. The state after reset. -/

namespace Sys2Proof.Machine

/-- At reset no value is set: each object reads its default (R14). -/
theorem State.reset_raw (idx sub : Nat) : State.reset.raw idx sub = State.reset.default idx sub := by
  have force : State.reset.net.force = [] := rfl
  have rw : State.reset.net.rw = [] := rfl
  have cal : State.reset.meas.calWork.vals = [] := rfl
  simp [State.raw, force, rw, cal]

/-- Settles O52: each register is read off the reset state. -/
theorem resetHoldsTheSpecsValues : Obligations.ResetHoldsTheSpecsValues := by
  unfold Obligations.ResetHoldsTheSpecsValues
  refine ⟨by decide, ⟨by decide, by decide, by decide, by decide, by decide, by decide,
    by decide, by decide, by decide, by decide⟩, by decide, by decide, by decide,
    by decide, by decide, State.reset_raw⟩

/-- Settles O53: the user area is empty, VCORE stands at 850 mV and every buffer is empty. -/
theorem resetMeetsTheInvariant : Obligations.ResetMeetsTheInvariant := by
  unfold Obligations.ResetMeetsTheInvariant State.Inv
  exact ⟨by decide, by decide, by decide⟩

end Sys2Proof.Machine
end

section
/-! PROOFS. What the shared operations leave of the queue, the instant and the user area (log entries 6 and 51). -/

namespace Sys2Proof.Machine

/-- A command's outcome is a next state with the queue, the instant and the user area of before. -/
def Leaves (s : State) (o : Out) : Prop := ∃ t, o = .next t ∧ t.pending = s.pending ∧ t.now = s.now ∧ t.mem.user = s.mem.user

/-- The queue, the instant and the user area stand alike. -/
def State.Stands (s t : State) : Prop := t.pending = s.pending ∧ t.now = s.now ∧ t.mem.user = s.mem.user

theorem Leaves.next {s t : State} (h : s.Stands t) : Leaves s (.next t) := ⟨t, rfl, h⟩

theorem State.Stands.trans {s a t : State} (h : State.Stands s a) (k : State.Stands a t) : State.Stands s t :=
  ⟨k.1.trans h.1, k.2.1.trans h.2.1, k.2.2.trans h.2.2⟩

theorem State.Stands.ite {s a b : State} (c : Prop) [Decidable c] (h : State.Stands s a) (k : State.Stands s b) :
    State.Stands s (if c then a else b) := by
  split
  · exact h
  · exact k

/-- The user area of a choice between memories. -/
@[simp] theorem Mem.ite_user (c : Prop) [Decidable c] (a b : Mem) : (if c then a else b).user = if c then a.user else b.user := by
  split <;> rfl

/-- A step at an address leaves the queue, the instant and the user area. -/
def StandsAt (f : Nat → State → State) : Prop := ∀ a s, State.Stands s (f a s)

/-- By the partition, whatever the address: with the address's difference from the base unfolded the kernel would count it down. -/
theorem State.copySpoiled_standsAt : StandsAt State.copySpoiled := by
  delta State.copySpoiled
  refine fun addr s => ?_
  beta_reduce
  generalize partitionOf addr = p
  rcases p with _ | _ | _ | _ | _ | _ | p <;> exact ⟨rfl, rfl, rfl⟩

@[simp] theorem State.when_stands (c : Bool) (f : State → State) (s : State) (h : (f s).pending = s.pending ∧ (f s).now = s.now ∧ (f s).mem.user = s.mem.user) :
    (s.when c f).pending = s.pending ∧ (s.when c f).now = s.now ∧ (s.when c f).mem.user = s.mem.user := by
  unfold State.when
  split
  · exact h
  · exact ⟨rfl, rfl, rfl⟩

@[simp] theorem State.each_user {α : Type} (f : α → State → State) (l : List α) (s : State) (h : ∀ a s, (f a s).mem.user = s.mem.user) :
    (State.each l f s).mem.user = s.mem.user := State.each_keeps (·.mem.user) f l s h

theorem State.each_stands {α : Type} {f : α → State → State} (l : List α) (s : State) (h : ∀ a s, State.Stands s (f a s)) :
    State.Stands s (State.each l f s) :=
  ⟨State.each_pending f l s fun a s => (h a s).1, State.each_now f l s fun a s => (h a s).2.1, State.each_user f l s fun a s => (h a s).2.2⟩

@[simp] theorem State.draw_stands (s : State) : s.draw.2.pending = s.pending ∧ s.draw.2.now = s.now ∧ s.draw.2.mem.user = s.mem.user :=
  ⟨rfl, rfl, rfl⟩

@[simp] theorem State.stopFrom_stands (why : StopWhy) (q : List (Fin 32)) (s : State) :
    (s.stopFrom why q).pending = s.pending ∧ (s.stopFrom why q).now = s.now ∧ (s.stopFrom why q).mem.user = s.mem.user := by
  induction q with
  | nil => exact ⟨rfl, rfl, rfl⟩
  | cons r q ih =>
    unfold State.stopFrom
    dsimp only
    (repeat' split) <;> simp [ih]

@[simp] theorem State.post_stands (q : Fin 64) (d : List Byte) (s : State) :
    (s.post q d).2.pending = s.pending ∧ (s.post q d).2.now = s.now ∧ (s.post q d).2.mem.user = s.mem.user := by
  unfold State.post
  dsimp only
  split <;> simp

@[simp] theorem State.slowSend_stands (s : State) :
    s.slowSend.2.pending = s.pending ∧ s.slowSend.2.now = s.now ∧ s.slowSend.2.mem.user = s.mem.user := by
  unfold State.slowSend
  (repeat' split) <;> simp

/-! ## What the host reads (R36, R37) -/

@[simp] theorem State.freeWord_stands (a : Nat) (s : State) :
    (s.freeWord a).2.pending = s.pending ∧ (s.freeWord a).2.now = s.now ∧ (s.freeWord a).2.mem.user = s.mem.user := ⟨rfl, rfl, rfl⟩

@[simp] theorem State.recorderWord_stands (a : Nat) (s : State) :
    (s.recorderWord a).2.pending = s.pending ∧ (s.recorderWord a).2.now = s.now ∧ (s.recorderWord a).2.mem.user = s.mem.user := by
  unfold State.recorderWord
  dsimp only
  split <;> simp

@[simp] theorem State.wordOr_stands (x : Option Nat) (a : Nat) (s : State) :
    (s.wordOr x a).2.pending = s.pending ∧ (s.wordOr x a).2.now = s.now ∧ (s.wordOr x a).2.mem.user = s.mem.user := by
  unfold State.wordOr
  split <;> simp

@[simp] theorem State.lockRead_stands (n : Fin 64) (s : State) :
    (s.lockRead n).2.pending = s.pending ∧ (s.lockRead n).2.now = s.now ∧ (s.lockRead n).2.mem.user = s.mem.user := by
  simp [State.lockRead]

/-- A read's state has the queue, the instant and the user area of the state read. -/
def WordRead.Quiet (s : State) (x : WordRead × State) : Prop := x.2.pending = s.pending ∧ x.2.now = s.now ∧ x.2.mem.user = s.mem.user

theorem WordRead.Quiet.ite {s : State} {x y : WordRead × State} (c : Prop) [Decidable c] (hx : Quiet s x) (hy : Quiet s y) :
    Quiet s (if c then x else y) := by
  split
  · exact hx
  · exact hy

theorem WordRead.Quiet.refl (s : State) (r : WordRead) : Quiet s (r, s) := ⟨rfl, rfl, rfl⟩

theorem State.memRead_quiet (a : Nat) {f : State → WordRead × State} {s : State} (h : WordRead.Quiet s (f s)) : WordRead.Quiet s (s.memRead a f) :=
  .ite _ (.refl s _) h

theorem State.hostRead_quiet (a : Nat) (s : State) : WordRead.Quiet s (s.hostRead a) := by
  refine .ite _ (.refl s _) (.ite _ (.refl s _) (.ite _ (s.memRead_quiet a (.refl s _)) (.ite _ (s.memRead_quiet a (s.freeWord_stands a))
    (.ite _ (s.memRead_quiet a (s.recorderWord_stands a)) (.ite _ (s.memRead_quiet a (.refl s _)) (.ite _ (s.wordOr_stands _ a) ?_))))))
  split
  · exact s.lockRead_stands _
  · exact .ite _ (s.wordOr_stands _ a) (.ite _ (s.wordOr_stands _ a) (.ite _ (s.wordOr_stands _ a) (.ite _ (s.wordOr_stands _ a)
      (.ite _ (s.wordOr_stands _ a) (.ite _ (s.freeWord_stands a) (.refl s _))))))

@[simp] theorem State.readWords_stands (a n : Nat) (s : State) :
    (s.readWords a n).2.pending = s.pending ∧ (s.readWords a n).2.now = s.now ∧ (s.readWords a n).2.mem.user = s.mem.user := by
  unfold State.readWords
  induction n with
  | zero => exact ⟨rfl, rfl, rfl⟩
  | succ n ih =>
    rw [List.range_succ, List.foldl_append]
    obtain ⟨queue, instant, user⟩ := State.hostRead_quiet (a + 4 * n)
      ((List.range n).foldl (fun x k => let r := x.2.hostRead (a + 4 * k); (x.1.note k r.1, r.2)) (({} : FrameResult), s)).2
    exact ⟨queue.trans ih.1, instant.trans ih.2.1, user.trans ih.2.2⟩

/-! ## Resets and giving up -/

@[simp] theorem State.assertReset_stands (sc : Scope) (cause : BitVec 16) (thermal : Bool) (s : State) :
    (s.assertReset sc cause thermal).pending = s.pending ∧ (s.assertReset sc cause thermal).now = s.now ∧
      (s.assertReset sc cause thermal).mem.user = s.mem.user := by
  unfold State.assertReset
  dsimp only
  split <;> simp [State.coldKept, State.warmKept]

@[simp] theorem State.giveUp_stands (code : Nat) (cause : BitVec 16) (s : State) :
    (s.giveUp code cause).pending = s.pending ∧ (s.giveUp code cause).now = s.now ∧ (s.giveUp code cause).mem.user = s.mem.user := by
  unfold State.giveUp
  split <;> simp

@[simp] theorem State.wdogReset_stands (code : Nat) (cause : BitVec 16) (s : State) :
    (s.wdogReset code cause).pending = s.pending ∧ (s.wdogReset code cause).now = s.now ∧ (s.wdogReset code cause).mem.user = s.mem.user := by
  unfold State.wdogReset
  simp
  
@[simp] theorem State.byHost_stands (f : State → State) (s : State)
    (h : ∀ s : State, (f s).pending = s.pending ∧ (f s).now = s.now ∧ (f s).mem.user = s.mem.user) :
    (s.byHost f).pending = s.pending ∧ (s.byHost f).now = s.now ∧ (s.byHost f).mem.user = s.mem.user := by
  unfold State.byHost
  split <;> simp [h]

@[simp] theorem State.access_stands (w : Session) (idx : Nat) (f : State → State) (s : State)
    (h : ∀ s : State, (f s).pending = s.pending ∧ (f s).now = s.now ∧ (f s).mem.user = s.mem.user) :
    (s.access w idx f).pending = s.pending ∧ (s.access w idx f).now = s.now ∧ (s.access w idx f).mem.user = s.mem.user := by
  unfold State.access
  (repeat' split) <;> simp [h]

@[simp] theorem State.writeAs_stands (w : Option Session) (role : Role) (idx sub : Nat) (d : List Byte) (o : ObjWrite) (s : State)
    (h : ∀ (w : Option Session) (d : List Byte) (s : State), (o.effect w d s).pending = s.pending ∧ (o.effect w d s).now = s.now ∧ (o.effect w d s).mem.user = s.mem.user) :
    (s.writeAs w role idx sub d o).2.pending = s.pending ∧ (s.writeAs w role idx sub d o).2.now = s.now ∧
      (s.writeAs w role idx sub d o).2.mem.user = s.mem.user := by
  unfold State.writeAs
  split <;> simp [h]

@[simp] theorem State.writeBy_stands (w : Session) (idx sub : Nat) (d : List Byte) (o : ObjWrite) (s : State)
    (h : ∀ (w : Option Session) (d : List Byte) (s : State), (o.effect w d s).pending = s.pending ∧ (o.effect w d s).now = s.now ∧ (o.effect w d s).mem.user = s.mem.user) :
    (s.writeBy w idx sub d o).pending = s.pending ∧ (s.writeBy w idx sub d o).now = s.now ∧ (s.writeBy w idx sub d o).mem.user = s.mem.user := by
  unfold State.writeBy
  exact State.access_stands _ _ _ _ fun s => by simp [h]

end Sys2Proof.Machine
end

section
/-! PROOFS. What the operations of the commands leave of the queue, the instant and the user area. -/

namespace Sys2Proof.Machine

@[simp] theorem State.stopNext_stands (s : State) :
    (State.stopNext s).pending = s.pending ∧ (State.stopNext s).now = s.now ∧ (State.stopNext s).mem.user = s.mem.user := by
  exact State.stopFrom_stands _ _ _

@[simp] theorem State.stopQueue_stands (q : List (Fin 32)) (s : State) :
    (State.stopQueue q s).pending = s.pending ∧ (State.stopQueue q s).now = s.now ∧ (State.stopQueue q s).mem.user = s.mem.user := by
  unfold State.stopQueue; (try dsimp only); (repeat' split) <;> simp

@[simp] theorem State.shutdown_stands (p : Fin 32 → Bool) (s : State) :
    (State.shutdown p s).pending = s.pending ∧ (State.shutdown p s).now = s.now ∧ (State.shutdown p s).mem.user = s.mem.user := by
  unfold State.shutdown; (try dsimp only); (repeat' split) <;> simp

@[simp] theorem State.shutdownFrom_stands (r : Fin 32) (s : State) :
    (State.shutdownFrom r s).pending = s.pending ∧ (State.shutdownFrom r s).now = s.now ∧ (State.shutdownFrom r s).mem.user = s.mem.user := by
  unfold State.shutdownFrom; (try dsimp only); (repeat' split) <;> simp

@[simp] theorem State.seqSettle_stands (s : State) :
    (State.seqSettle s).pending = s.pending ∧ (State.seqSettle s).now = s.now ∧ (State.seqSettle s).mem.user = s.mem.user := by
  unfold State.seqSettle; (try dsimp only); (repeat' split) <;> simp

@[simp] theorem State.groupShutdown_stands (g : Fin 8) (r : Fin 32) (s : State) :
    (State.groupShutdown g r s).pending = s.pending ∧ (State.groupShutdown g r s).now = s.now ∧ (State.groupShutdown g r s).mem.user = s.mem.user := by
  unfold State.groupShutdown; (try dsimp only); (repeat' split) <;> simp

@[simp] theorem State.systemReset_stands (s : State) :
    (State.systemReset s).pending = s.pending ∧ (State.systemReset s).now = s.now ∧ (State.systemReset s).mem.user = s.mem.user := by
  unfold State.systemReset; (try dsimp only); (repeat' split) <;> simp

@[simp] theorem State.react_stands (r : Fin 32) (stopped : Bool) (s : State) :
    (State.react r stopped s).pending = s.pending ∧ (State.react r stopped s).now = s.now ∧ (State.react r stopped s).mem.user = s.mem.user := by
  unfold State.react; (try dsimp only); (repeat' split) <;> simp

@[simp] theorem State.railFaultNow_stands (r : Fin 32) (code : Nat) (s : State) :
    (State.railFaultNow r code s).pending = s.pending ∧ (State.railFaultNow r code s).now = s.now ∧ (State.railFaultNow r code s).mem.user = s.mem.user := by
  unfold State.railFaultNow; (try dsimp only); (repeat' split) <;> simp

@[simp] theorem State.loopFault_stands (l : Fin 8) (code : Nat) (s : State) :
    (State.loopFault l code s).pending = s.pending ∧ (State.loopFault l code s).now = s.now ∧ (State.loopFault l code s).mem.user = s.mem.user := by
  unfold State.loopFault; (try dsimp only); (repeat' split) <;> simp

@[simp] theorem State.branchLatched_stands (k : Fin 16) (s : State) :
    (State.branchLatched k s).pending = s.pending ∧ (State.branchLatched k s).now = s.now ∧ (State.branchLatched k s).mem.user = s.mem.user := by
  unfold State.branchLatched; (try dsimp only); (repeat' split) <;> simp

@[simp] theorem State.brTrip_stands (k : Fin 16) (code : Nat) (s : State) :
    (State.brTrip k code s).pending = s.pending ∧ (State.brTrip k code s).now = s.now ∧ (State.brTrip k code s).mem.user = s.mem.user := by
  unfold State.brTrip; (try dsimp only); (repeat' split) <;> simp

@[simp] theorem State.quenchLoop_stands (l : Fin 8) (s : State) :
    (State.quenchLoop l s).pending = s.pending ∧ (State.quenchLoop l s).now = s.now ∧ (State.quenchLoop l s).mem.user = s.mem.user := by
  unfold State.quenchLoop; (try dsimp only); (repeat' split) <;> simp

@[simp] theorem State.quenchTargets_stands (q : Nat) (s : State) :
    (State.quenchTargets q s).pending = s.pending ∧ (State.quenchTargets q s).now = s.now ∧ (State.quenchTargets q s).mem.user = s.mem.user := by
  unfold State.quenchTargets; (try dsimp only); (repeat' split) <;> simp

@[simp] theorem State.quenchSet_stands (s : State) :
    (State.quenchSet s).pending = s.pending ∧ (State.quenchSet s).now = s.now ∧ (State.quenchSet s).mem.user = s.mem.user := by
  unfold State.quenchSet; (try dsimp only); (repeat' split) <;> simp

@[simp] theorem State.setQuench_stands (q : Fin 18) (s : State) :
    (State.setQuench q s).pending = s.pending ∧ (State.setQuench q s).now = s.now ∧ (State.setQuench q s).mem.user = s.mem.user := by
  unfold State.setQuench; (try dsimp only); (repeat' split) <;> simp

@[simp] theorem State.timebaseFail_stands (code : Nat) (xo : Bool) (s : State) :
    (State.timebaseFail code xo s).pending = s.pending ∧ (State.timebaseFail code xo s).now = s.now ∧ (State.timebaseFail code xo s).mem.user = s.mem.user := by
  unfold State.timebaseFail; (try dsimp only); (repeat' split) <;> simp

@[simp] theorem State.recordTimers_stands (s : State) :
    (State.recordTimers s).pending = s.pending ∧ (State.recordTimers s).now = s.now ∧ (State.recordTimers s).mem.user = s.mem.user := by
  unfold State.recordTimers
  refine State.each_stands _ _ fun t s => ?_
  unfold State.Stands
  dsimp only
  (repeat' split) <;> simp

@[simp] theorem State.degrade_stands (l : Fin 8) (s : State) :
    (State.degrade l s).pending = s.pending ∧ (State.degrade l s).now = s.now ∧ (State.degrade l s).mem.user = s.mem.user := by
  unfold State.degrade; (try dsimp only); (repeat' split) <;> simp

@[simp] theorem State.removePhase_stands (l : Fin 8) (i : Fin 32) (st : PhaseState) (s : State) :
    (State.removePhase l i st s).pending = s.pending ∧ (State.removePhase l i st s).now = s.now ∧ (State.removePhase l i st s).mem.user = s.mem.user := by
  unfold State.removePhase; (try dsimp only); (repeat' split) <;> simp

@[simp] theorem State.brEnergy_stands (k : Fin 16) (s : State) :
    (State.brEnergy k s).pending = s.pending ∧ (State.brEnergy k s).now = s.now ∧ (State.brEnergy k s).mem.user = s.mem.user := by
  unfold State.brEnergy; (try dsimp only); (repeat' split) <;> simp

@[simp] theorem State.brEvaluate_stands (limit : BitVec 16) (k : Fin 16) (s : State) :
    (State.brEvaluate limit k s).pending = s.pending ∧ (State.brEvaluate limit k s).now = s.now ∧ (State.brEvaluate limit k s).mem.user = s.mem.user := by
  unfold State.brEvaluate; (try dsimp only); (repeat' split) <;> simp

@[simp] theorem State.quenchFree_stands (s : State) :
    (State.quenchFree s).pending = s.pending ∧ (State.quenchFree s).now = s.now ∧ (State.quenchFree s).mem.user = s.mem.user := by
  unfold State.quenchFree
  refine State.Stands.ite _ (by simp [State.Stands]) ?_
  extract_lets s1 s2 s3 s4
  have pins : s.Stands s1 := by simp [State.Stands, s1]
  have branches : s1.Stands s2 := State.each_stands _ _ fun k s => by
    unfold State.Stands
    split
    · simp
    · split <;> simp
  have feeds : s2.Stands s3 := State.each_stands _ _ fun p s => by simp [State.Stands]
  have strings : s3.Stands s4 := State.each_stands _ _ fun n s => by simp [State.Stands]
  exact (pins.trans (branches.trans (feeds.trans strings))).trans (State.each_stands _ _ fun r s => by simp [State.Stands])

@[simp] theorem State.releaseQuench_stands (q : Fin 18) (s : State) :
    (State.releaseQuench q s).pending = s.pending ∧ (State.releaseQuench q s).now = s.now ∧ (State.releaseQuench q s).mem.user = s.mem.user := by
  unfold State.releaseQuench; (try dsimp only); (repeat' split) <;> simp

@[simp] theorem State.finishPath_stands (r : Fin 32) (s : State) :
    (State.finishPath r s).pending = s.pending ∧ (State.finishPath r s).now = s.now ∧ (State.finishPath r s).mem.user = s.mem.user := by
  unfold State.finishPath; (try dsimp only); (repeat' split) <;> simp

@[simp] theorem State.systemOff_stands (s : State) :
    (State.systemOff s).pending = s.pending ∧ (State.systemOff s).now = s.now ∧ (State.systemOff s).mem.user = s.mem.user := by
  unfold State.systemOff; (try dsimp only); (repeat' split) <;> simp

@[simp] theorem State.railCommand_stands (r : Fin 32) (on : Bool) (s : State) :
    (State.railCommand r on s).pending = s.pending ∧ (State.railCommand r on s).now = s.now ∧ (State.railCommand r on s).mem.user = s.mem.user := by
  unfold State.railCommand; (try dsimp only); (repeat' split) <;> simp

@[simp] theorem State.reachStage_stands (k : Nat) (cause : Nat) (s : State) :
    (State.reachStage k cause s).pending = s.pending ∧ (State.reachStage k cause s).now = s.now ∧ (State.reachStage k cause s).mem.user = s.mem.user := by
  unfold State.reachStage; (try dsimp only); (repeat' split) <;> simp

@[simp] theorem State.stageSweep_stands (soc : Option Rat) (s : State) :
    (State.stageSweep soc s).pending = s.pending ∧ (State.stageSweep soc s).now = s.now ∧ (State.stageSweep soc s).mem.user = s.mem.user := by
  unfold State.stageSweep
  refine State.each_stands _ _ fun k s => ?_
  unfold State.Stands
  dsimp only
  generalize (match soc with | some q => decide (q ≤ s.real 0x2E04 (3 * k + 1)) | none => false) = low
  (repeat' split) <;> simp

@[simp] theorem State.inputReturn_stands (s : State) :
    (State.inputReturn s).pending = s.pending ∧ (State.inputReturn s).now = s.now ∧ (State.inputReturn s).mem.user = s.mem.user := by
  unfold State.inputReturn; (try dsimp only); (repeat' split) <;> simp

@[simp] theorem State.capShedBranch_stands (k : Fin 16) (s : State) :
    (State.capShedBranch k s).pending = s.pending ∧ (State.capShedBranch k s).now = s.now ∧ (State.capShedBranch k s).mem.user = s.mem.user := by
  unfold State.capShedBranch; (try dsimp only); (repeat' split) <;> simp

@[simp] theorem State.capStep_stands (soc : Rat) (s : State) :
    (State.capStep soc s).pending = s.pending ∧ (State.capStep soc s).now = s.now ∧ (State.capStep soc s).mem.user = s.mem.user := by
  unfold State.capStep; (try dsimp only); (repeat' split) <;> simp

@[simp] theorem State.freeze_stands (s : State) :
    (State.freeze s).pending = s.pending ∧ (State.freeze s).now = s.now ∧ (State.freeze s).mem.user = s.mem.user := by
  simp [State.freeze]

@[simp] theorem State.freeFaultPins_stands (old : Cfg) (s : State) :
    (State.freeFaultPins old s).pending = s.pending ∧ (State.freeFaultPins old s).now = s.now ∧ (State.freeFaultPins old s).mem.user = s.mem.user := by
  unfold State.freeFaultPins
  refine State.each_stands _ _ fun g s => ?_
  unfold State.Stands
  dsimp only
  (repeat' split) <;> simp

@[simp] theorem State.requench_stands (old : Cfg) (s : State) :
    (State.requench old s).pending = s.pending ∧ (State.requench old s).now = s.now ∧ (State.requench old s).mem.user = s.mem.user := by
  unfold State.requench; (try dsimp only); (repeat' split) <;> simp

@[simp] theorem State.applyDist_stands (old : Cfg) (whole : Cfg) (adopt : Bool) (s : State) :
    (State.applyDist old whole adopt s).pending = s.pending ∧ (State.applyDist old whole adopt s).now = s.now ∧ (State.applyDist old whole adopt s).mem.user = s.mem.user := by
  unfold State.applyDist; (try dsimp only); (repeat' split) <;> simp

@[simp] theorem State.takeBlock_stands (b : Nat) (vals : List (Nat × Nat)) (whole : Cfg) (adopt : Bool) (s : State) :
    (State.takeBlock b vals whole adopt s).pending = s.pending ∧ (State.takeBlock b vals whole adopt s).now = s.now ∧ (State.takeBlock b vals whole adopt s).mem.user = s.mem.user := by
  unfold State.takeBlock; (try dsimp only); (repeat' split) <;> simp

@[simp] theorem State.hostPost_stands (s : State) :
    (State.hostPost s).pending = s.pending ∧ (State.hostPost s).now = s.now ∧ (State.hostPost s).mem.user = s.mem.user := by
  unfold State.hostPost; (try dsimp only); (repeat' split) <;> simp

@[simp] theorem State.commitDone_stands (s : State) :
    (State.commitDone s).pending = s.pending ∧ (State.commitDone s).now = s.now ∧ (State.commitDone s).mem.user = s.mem.user := by
  unfold State.commitDone; (try dsimp only); (repeat' split) <;> simp

@[simp] theorem State.nextTurn_stands (s : State) :
    (State.nextTurn s).pending = s.pending ∧ (State.nextTurn s).now = s.now ∧ (State.nextTurn s).mem.user = s.mem.user := by
  unfold State.nextTurn; (try dsimp only); (repeat' split) <;> simp

@[simp] theorem State.beginApply_stands (s : State) :
    (State.beginApply s).pending = s.pending ∧ (State.beginApply s).now = s.now ∧ (State.beginApply s).mem.user = s.mem.user := by
  unfold State.beginApply; (try dsimp only); (repeat' split) <;> simp

@[simp] theorem State.commitPassed_stands (keys : List Nat) (set : List (Nat × Nat)) (order : List Nat) (s : State) :
    (State.commitPassed keys set order s).pending = s.pending ∧ (State.commitPassed keys set order s).now = s.now ∧ (State.commitPassed keys set order s).mem.user = s.mem.user := by
  unfold State.commitPassed; (try dsimp only); (repeat' split) <;> simp

@[simp] theorem State.validateCommit_stands (s : State) :
    (State.validateCommit s).pending = s.pending ∧ (State.validateCommit s).now = s.now ∧ (State.validateCommit s).mem.user = s.mem.user := by
  unfold State.validateCommit; (try dsimp only); (repeat' split) <;> simp

@[simp] theorem State.tunnelReply_stands (req : Nat × Nat) (code : Nat) (last : Bool) (d : List Byte) (s : State) :
    (State.tunnelReply req code last d s).pending = s.pending ∧ (State.tunnelReply req code last d s).now = s.now ∧ (State.tunnelReply req code last d s).mem.user = s.mem.user := by
  unfold State.tunnelReply; (try dsimp only); (repeat' split) <;> simp

@[simp] theorem State.tunnelStored_stands (code : Nat) (s : State) :
    (State.tunnelStored code s).pending = s.pending ∧ (State.tunnelStored code s).now = s.now ∧ (State.tunnelStored code s).mem.user = s.mem.user := by
  unfold State.tunnelStored; (try dsimp only); (repeat' split) <;> simp

@[simp] theorem State.storeAnswer_stands (by_ : StoreBy) (ok : Bool) (s : State) :
    (State.storeAnswer by_ ok s).pending = s.pending ∧ (State.storeAnswer by_ ok s).now = s.now ∧ (State.storeAnswer by_ ok s).mem.user = s.mem.user := by
  unfold State.storeAnswer; (try dsimp only); (repeat' split) <;> simp

@[simp] theorem State.copySpoiled_stands (addr : Nat) (s : State) :
    (State.copySpoiled addr s).pending = s.pending ∧ (State.copySpoiled addr s).now = s.now ∧ (State.copySpoiled addr s).mem.user = s.mem.user := by
  exact State.copySpoiled_standsAt addr s

@[simp] theorem State.memUncorrectable_stands (m : MemKind) (addr : Nat) (used : Bool) (s : State) :
    (State.memUncorrectable m addr used s).pending = s.pending ∧ (State.memUncorrectable m addr used s).now = s.now := by
  unfold State.memUncorrectable; (try dsimp only); (repeat' split) <;> simp

@[simp] theorem State.challenge_stands (w : Session) (r : Role) (s : State) :
    (State.challenge w r s).pending = s.pending ∧ (State.challenge w r s).now = s.now ∧ (State.challenge w r s).mem.user = s.mem.user := by
  simp [State.challenge]

@[simp] theorem State.bootSlotNow_stands (s : State) :
    (State.bootSlotNow s).pending = s.pending ∧ (State.bootSlotNow s).now = s.now ∧ (State.bootSlotNow s).mem.user = s.mem.user := by
  unfold State.bootSlotNow; (try dsimp only); (repeat' split) <;> simp

@[simp] theorem State.updBoot_stands (s : State) :
    (State.updBoot s).pending = s.pending ∧ (State.updBoot s).now = s.now ∧ (State.updBoot s).mem.user = s.mem.user := by
  unfold State.updBoot; (try dsimp only); (repeat' split) <;> simp

@[simp] theorem State.trialRevert_stands (s : State) :
    (State.trialRevert s).pending = s.pending ∧ (State.trialRevert s).now = s.now ∧ (State.trialRevert s).mem.user = s.mem.user := by
  unfold State.trialRevert; (try dsimp only); (repeat' split) <;> simp

@[simp] theorem State.updRevert_stands (s : State) :
    (State.updRevert s).pending = s.pending ∧ (State.updRevert s).now = s.now ∧ (State.updRevert s).mem.user = s.mem.user := by
  unfold State.updRevert; (try dsimp only); (repeat' split) <;> simp

@[simp] theorem State.resetCtrl_stands (scope : Nat) (s : State) :
    (State.resetCtrl scope s).pending = s.pending ∧ (State.resetCtrl scope s).now = s.now ∧ (State.resetCtrl scope s).mem.user = s.mem.user := by
  unfold State.resetCtrl; (try dsimp only); (repeat' split) <;> simp

@[simp] theorem State.lockAtRelease_stands (s : State) :
    (State.lockAtRelease s).pending = s.pending ∧ (State.lockAtRelease s).now = s.now ∧ (State.lockAtRelease s).mem.user = s.mem.user := by
  unfold State.lockAtRelease; (try dsimp only); (repeat' split) <;> simp

@[simp] theorem State.timebaseOut_stands (s : State) :
    (State.timebaseOut s).pending = s.pending ∧ (State.timebaseOut s).now = s.now ∧ (State.timebaseOut s).mem.user = s.mem.user := by
  unfold State.timebaseOut; (try dsimp only); (repeat' split) <;> simp

@[simp] theorem State.alignTo_stands (err : Rat) (f : MirrorFrame) (s : State) :
    (State.alignTo err f s).pending = s.pending ∧ (State.alignTo err f s).now = s.now ∧ (State.alignTo err f s).mem.user = s.mem.user := by
  unfold State.alignTo; (try dsimp only); (repeat' split) <;> simp

@[simp] theorem State.takeOver_stands (cause : Nat) (s : State) :
    (State.takeOver cause s).pending = s.pending ∧ (State.takeOver cause s).now = s.now ∧ (State.takeOver cause s).mem.user = s.mem.user := by
  unfold State.takeOver; (try dsimp only); (repeat' split) <;> simp

@[simp] theorem State.sysWrite_stands (off v : Nat) (s : State) :
    (State.sysWrite off v s).pending = s.pending ∧ (State.sysWrite off v s).now = s.now ∧ (State.sysWrite off v s).mem.user = s.mem.user := by
  unfold State.sysWrite; (try dsimp only); (repeat' split) <;> simp

@[simp] theorem State.mbxWrite_stands (off v : Nat) (s : State) :
    (State.mbxWrite off v s).pending = s.pending ∧ (State.mbxWrite off v s).now = s.now ∧ (State.mbxWrite off v s).mem.user = s.mem.user := by
  unfold State.mbxWrite; (try dsimp only); (repeat' split) <;> simp

@[simp] theorem State.evrWrite_stands (off v : Nat) (s : State) :
    (State.evrWrite off v s).pending = s.pending ∧ (State.evrWrite off v s).now = s.now ∧ (State.evrWrite off v s).mem.user = s.mem.user := by
  unfold State.evrWrite; (try dsimp only); (repeat' split) <;> simp

@[simp] theorem State.nvcCommand_stands (v : Nat) (s : State) :
    (State.nvcCommand v s).pending = s.pending ∧ (State.nvcCommand v s).now = s.now := by
  unfold State.nvcCommand
  split
  · unfold State.byHost; split <;> simp
  · unfold State.byHost; split <;> simp
  · exact ⟨rfl, rfl⟩

@[simp] theorem State.nvcWrite_stands (off v : Nat) (s : State) :
    (State.nvcWrite off v s).pending = s.pending ∧ (State.nvcWrite off v s).now = s.now := by
  unfold State.nvcWrite; (try dsimp only); (repeat' split) <;> simp

@[simp] theorem State.updCommand_stands (v : Nat) (s : State) :
    (State.updCommand v s).pending = s.pending ∧ (State.updCommand v s).now = s.now ∧ (State.updCommand v s).mem.user = s.mem.user := by
  unfold State.updCommand; (try dsimp only); (repeat' split) <;> simp

@[simp] theorem State.updWrite_stands (off v : Nat) (s : State) :
    (State.updWrite off v s).pending = s.pending ∧ (State.updWrite off v s).now = s.now ∧ (State.updWrite off v s).mem.user = s.mem.user := by
  unfold State.updWrite; (try dsimp only); (repeat' split) <;> simp

@[simp] theorem State.hostWrite_stands (a v : Nat) (s : State) :
    (State.hostWrite a v s).pending = s.pending ∧ (State.hostWrite a v s).now = s.now := by
  unfold State.hostWrite; (try dsimp only); (repeat' split) <;> simp

@[simp] theorem State.tunnelData_stands (m : MsgSlot) (d : List Byte) (s : State) :
    (State.tunnelData m d s).pending = s.pending ∧ (State.tunnelData m d s).now = s.now ∧ (State.tunnelData m d s).mem.user = s.mem.user := by
  unfold State.tunnelData; (try dsimp only); (repeat' split) <;> simp

@[simp] theorem State.tunnelAnswer_stands (m : MsgSlot) (s : State) :
    (State.tunnelAnswer m s).pending = s.pending ∧ (State.tunnelAnswer m s).now = s.now ∧ (State.tunnelAnswer m s).mem.user = s.mem.user := by
  unfold State.tunnelAnswer; (try dsimp only); (repeat' split) <;> simp

@[simp] theorem State.segmentAbort_stands (m : MsgSlot) (s : State) :
    (State.segmentAbort m s).pending = s.pending ∧ (State.segmentAbort m s).now = s.now ∧ (State.segmentAbort m s).mem.user = s.mem.user := by
  unfold State.segmentAbort; (try dsimp only); (repeat' split) <;> simp

@[simp] theorem State.readSegment_stands (t : Transfer) (m : MsgSlot) (s : State) :
    (State.readSegment t m s).pending = s.pending ∧ (State.readSegment t m s).now = s.now ∧ (State.readSegment t m s).mem.user = s.mem.user := by
  unfold State.readSegment; (try dsimp only); (repeat' split) <;> simp

@[simp] theorem State.peerAnswered_stands (ok : Bool) (s : State) :
    (State.peerAnswered ok s).pending = s.pending ∧ (State.peerAnswered ok s).now = s.now ∧ (State.peerAnswered ok s).mem.user = s.mem.user := by
  unfold State.peerAnswered; (try dsimp only); (repeat' split) <;> simp

@[simp] theorem State.proxyPost_stands (q : Nat) (m : MsgSlot) (s : State) :
    (State.proxyPost q m s).pending = s.pending ∧ (State.proxyPost q m s).now = s.now ∧ (State.proxyPost q m s).mem.user = s.mem.user := by
  unfold State.proxyPost; (try dsimp only); (repeat' split) <;> simp

@[simp] theorem objCapacityReset_stands (n : Fin 4) (who : Option Session) (d : List Byte) (s : State) :
    ((objCapacityReset n).effect who d s).pending = s.pending ∧ ((objCapacityReset n).effect who d s).now = s.now ∧ ((objCapacityReset n).effect who d s).mem.user = s.mem.user := by
  unfold objCapacityReset; (try dsimp only); (repeat' split) <;> simp

@[simp] theorem objClearStringLatch_stands  (who : Option Session) (d : List Byte) (s : State) :
    (objClearStringLatch.effect who d s).pending = s.pending ∧ (objClearStringLatch.effect who d s).now = s.now ∧ (objClearStringLatch.effect who d s).mem.user = s.mem.user := by
  unfold objClearStringLatch; (try dsimp only); (repeat' split) <;> simp

@[simp] theorem objTimeAtPps_stands  (who : Option Session) (d : List Byte) (s : State) :
    (objTimeAtPps.effect who d s).pending = s.pending ∧ (objTimeAtPps.effect who d s).now = s.now ∧ (objTimeAtPps.effect who d s).mem.user = s.mem.user := by
  unfold objTimeAtPps; (try dsimp only); (repeat' split) <;> simp

@[simp] theorem objModelReset_stands  (who : Option Session) (d : List Byte) (s : State) :
    (objModelReset.effect who d s).pending = s.pending ∧ (objModelReset.effect who d s).now = s.now ∧ (objModelReset.effect who d s).mem.user = s.mem.user := by
  unfold objModelReset; (try dsimp only); (repeat' split) <;> simp

@[simp] theorem objWriteCal_stands  (who : Option Session) (d : List Byte) (s : State) :
    (objWriteCal.effect who d s).pending = s.pending ∧ (objWriteCal.effect who d s).now = s.now ∧ (objWriteCal.effect who d s).mem.user = s.mem.user := by
  unfold objWriteCal; (try dsimp only); (repeat' split) <;> simp

@[simp] theorem objCalImport_stands (role : Role) (who : Option Session) (d : List Byte) (s : State) :
    ((objCalImport role).effect who d s).pending = s.pending ∧ ((objCalImport role).effect who d s).now = s.now ∧ ((objCalImport role).effect who d s).mem.user = s.mem.user := by
  unfold objCalImport; (try dsimp only); (repeat' split) <;> simp

@[simp] theorem objCapture_stands (w : Option Session) (who : Option Session) (d : List Byte) (s : State) :
    ((objCapture w).effect who d s).pending = s.pending ∧ ((objCapture w).effect who d s).now = s.now ∧ ((objCapture w).effect who d s).mem.user = s.mem.user := by
  unfold objCapture; (try dsimp only); (repeat' split) <;> simp

@[simp] theorem objSetpoint_stands (l : Fin 8) (who : Option Session) (d : List Byte) (s : State) :
    ((objSetpoint l).effect who d s).pending = s.pending ∧ ((objSetpoint l).effect who d s).now = s.now ∧ ((objSetpoint l).effect who d s).mem.user = s.mem.user := by
  simp [objSetpoint, rwsWrite]

@[simp] theorem objClearFetShort_stands  (who : Option Session) (d : List Byte) (s : State) :
    (objClearFetShort.effect who d s).pending = s.pending ∧ (objClearFetShort.effect who d s).now = s.now ∧ (objClearFetShort.effect who d s).mem.user = s.mem.user := by
  unfold objClearFetShort; (try dsimp only); (repeat' split) <;> simp

@[simp] theorem objSoftwareQuench_stands  (who : Option Session) (d : List Byte) (s : State) :
    (objSoftwareQuench.effect who d s).pending = s.pending ∧ (objSoftwareQuench.effect who d s).now = s.now ∧ (objSoftwareQuench.effect who d s).mem.user = s.mem.user := by
  unfold objSoftwareQuench; (try dsimp only); (repeat' split) <;> simp

@[simp] theorem objQuenchRelease_stands  (who : Option Session) (d : List Byte) (s : State) :
    (objQuenchRelease.effect who d s).pending = s.pending ∧ (objQuenchRelease.effect who d s).now = s.now ∧ (objQuenchRelease.effect who d s).mem.user = s.mem.user := by
  unfold objQuenchRelease; (try dsimp only); (repeat' split) <;> simp

@[simp] theorem objSystemOn_stands  (who : Option Session) (d : List Byte) (s : State) :
    (objSystemOn.effect who d s).pending = s.pending ∧ (objSystemOn.effect who d s).now = s.now ∧ (objSystemOn.effect who d s).mem.user = s.mem.user := by
  unfold objSystemOn; (try dsimp only); (repeat' split) <;> simp

@[simp] theorem objRailCommand_stands (r : Fin 32) (who : Option Session) (d : List Byte) (s : State) :
    ((objRailCommand r).effect who d s).pending = s.pending ∧ ((objRailCommand r).effect who d s).now = s.now ∧ ((objRailCommand r).effect who d s).mem.user = s.mem.user := by
  unfold objRailCommand; (try dsimp only); (repeat' split) <;> simp

@[simp] theorem objGroupCommand_stands (g : Fin 8) (who : Option Session) (d : List Byte) (s : State) :
    ((objGroupCommand g).effect who d s).pending = s.pending ∧ ((objGroupCommand g).effect who d s).now = s.now ∧ ((objGroupCommand g).effect who d s).mem.user = s.mem.user := by
  unfold objGroupCommand; (try dsimp only); (repeat' split) <;> simp

@[simp] theorem objBusReference_stands  (who : Option Session) (d : List Byte) (s : State) :
    (objBusReference.effect who d s).pending = s.pending ∧ (objBusReference.effect who d s).now = s.now ∧ (objBusReference.effect who d s).mem.user = s.mem.user := by
  simp [objBusReference, rwsWrite]

@[simp] theorem objSiteCap_stands  (who : Option Session) (d : List Byte) (s : State) :
    (objSiteCap.effect who d s).pending = s.pending ∧ (objSiteCap.effect who d s).now = s.now ∧ (objSiteCap.effect who d s).mem.user = s.mem.user := by
  simp [objSiteCap, rwsWrite]

@[simp] theorem objShelfOff_stands  (who : Option Session) (d : List Byte) (s : State) :
    (objShelfOff.effect who d s).pending = s.pending ∧ (objShelfOff.effect who d s).now = s.now ∧ (objShelfOff.effect who d s).mem.user = s.mem.user := by
  unfold objShelfOff; (try dsimp only); (repeat' split) <;> simp

@[simp] theorem objSlowAccess_stands  (who : Option Session) (d : List Byte) (s : State) :
    (objSlowAccess.effect who d s).pending = s.pending ∧ (objSlowAccess.effect who d s).now = s.now ∧ (objSlowAccess.effect who d s).mem.user = s.mem.user := by
  unfold objSlowAccess; (try dsimp only); (repeat' split) <;> simp

@[simp] theorem objShadow_stands (idx sub : Nat) (who : Option Session) (d : List Byte) (s : State) :
    ((objShadow idx sub).effect who d s).pending = s.pending ∧ ((objShadow idx sub).effect who d s).now = s.now ∧ ((objShadow idx sub).effect who d s).mem.user = s.mem.user := by
  unfold objShadow; (try dsimp only); (repeat' split) <;> simp

@[simp] theorem objCommit_stands (w : Option Session) (who : Option Session) (d : List Byte) (s : State) :
    ((objCommit w).effect who d s).pending = s.pending ∧ ((objCommit w).effect who d s).now = s.now ∧ ((objCommit w).effect who d s).mem.user = s.mem.user := by
  unfold objCommit; (try dsimp only); (repeat' split) <;> simp

@[simp] theorem objStore_stands (sub : Nat) (w : Option Session) (who : Option Session) (d : List Byte) (s : State) :
    ((objStore sub w).effect who d s).pending = s.pending ∧ ((objStore sub w).effect who d s).now = s.now ∧ ((objStore sub w).effect who d s).mem.user = s.mem.user := by
  unfold objStore; (try dsimp only); (repeat' split) <;> simp

@[simp] theorem objRestore_stands (sub : Nat) (who : Option Session) (d : List Byte) (s : State) :
    ((objRestore sub).effect who d s).pending = s.pending ∧ ((objRestore sub).effect who d s).now = s.now ∧ ((objRestore sub).effect who d s).mem.user = s.mem.user := by
  unfold objRestore; (try dsimp only); (repeat' split) <;> simp

@[simp] theorem objRole_stands (w : Option Session) (who : Option Session) (d : List Byte) (s : State) :
    ((objRole w).effect who d s).pending = s.pending ∧ ((objRole w).effect who d s).now = s.now ∧ ((objRole w).effect who d s).mem.user = s.mem.user := by
  unfold objRole; (try dsimp only); (repeat' split) <;> simp

@[simp] theorem objResponse_stands (w : Option Session) (who : Option Session) (d : List Byte) (s : State) :
    ((objResponse w).effect who d s).pending = s.pending ∧ ((objResponse w).effect who d s).now = s.now ∧ ((objResponse w).effect who d s).mem.user = s.mem.user := by
  unfold objResponse; (try dsimp only); (repeat' split) <;> simp

@[simp] theorem objIdle_stands (w : Option Session) (who : Option Session) (d : List Byte) (s : State) :
    ((objIdle w).effect who d s).pending = s.pending ∧ ((objIdle w).effect who d s).now = s.now ∧ ((objIdle w).effect who d s).mem.user = s.mem.user := by
  unfold objIdle; (try dsimp only); (repeat' split) <;> simp

@[simp] theorem objStaging_stands  (who : Option Session) (d : List Byte) (s : State) :
    (objStaging.effect who d s).pending = s.pending ∧ (objStaging.effect who d s).now = s.now ∧ (objStaging.effect who d s).mem.user = s.mem.user := by
  unfold objStaging; (try dsimp only); (repeat' split) <;> simp

@[simp] theorem objChunk_stands  (who : Option Session) (d : List Byte) (s : State) :
    (objChunk.effect who d s).pending = s.pending ∧ (objChunk.effect who d s).now = s.now ∧ (objChunk.effect who d s).mem.user = s.mem.user := by
  unfold objChunk; (try dsimp only); (repeat' split) <;> simp

@[simp] theorem objActivate_stands  (who : Option Session) (d : List Byte) (s : State) :
    (objActivate.effect who d s).pending = s.pending ∧ (objActivate.effect who d s).now = s.now ∧ (objActivate.effect who d s).mem.user = s.mem.user := by
  unfold objActivate; (try dsimp only); (repeat' split) <;> simp

@[simp] theorem objCommitTrial_stands  (who : Option Session) (d : List Byte) (s : State) :
    (objCommitTrial.effect who d s).pending = s.pending ∧ (objCommitTrial.effect who d s).now = s.now ∧ (objCommitTrial.effect who d s).mem.user = s.mem.user := by
  unfold objCommitTrial; (try dsimp only); (repeat' split) <;> simp

@[simp] theorem objRevertTrial_stands  (who : Option Session) (d : List Byte) (s : State) :
    (objRevertTrial.effect who d s).pending = s.pending ∧ (objRevertTrial.effect who d s).now = s.now ∧ (objRevertTrial.effect who d s).mem.user = s.mem.user := by
  unfold objRevertTrial; (try dsimp only); (repeat' split) <;> simp

@[simp] theorem objLive_stands  (who : Option Session) (d : List Byte) (s : State) :
    (objLive.effect who d s).pending = s.pending ∧ (objLive.effect who d s).now = s.now ∧ (objLive.effect who d s).mem.user = s.mem.user := by
  unfold objLive; (try dsimp only); (repeat' split) <;> simp

@[simp] theorem objTarget_stands  (who : Option Session) (d : List Byte) (s : State) :
    (objTarget.effect who d s).pending = s.pending ∧ (objTarget.effect who d s).now = s.now ∧ (objTarget.effect who d s).mem.user = s.mem.user := by
  unfold objTarget; (try dsimp only); (repeat' split) <;> simp

@[simp] theorem objLifecycle_stands (w : Option Session) (who : Option Session) (d : List Byte) (s : State) :
    ((objLifecycle w).effect who d s).pending = s.pending ∧ ((objLifecycle w).effect who d s).now = s.now ∧ ((objLifecycle w).effect who d s).mem.user = s.mem.user := by
  unfold objLifecycle; (try dsimp only); (repeat' split) <;> simp

@[simp] theorem objKeySlot_stands  (who : Option Session) (d : List Byte) (s : State) :
    (objKeySlot.effect who d s).pending = s.pending ∧ (objKeySlot.effect who d s).now = s.now ∧ (objKeySlot.effect who d s).mem.user = s.mem.user := by
  unfold objKeySlot; (try dsimp only); (repeat' split) <;> simp

@[simp] theorem objKeyWrite_stands (w : Option Session) (who : Option Session) (d : List Byte) (s : State) :
    ((objKeyWrite w).effect who d s).pending = s.pending ∧ ((objKeyWrite w).effect who d s).now = s.now ∧ ((objKeyWrite w).effect who d s).mem.user = s.mem.user := by
  unfold objKeyWrite; (try dsimp only); (repeat' split) <;> simp

@[simp] theorem objRevoke_stands  (who : Option Session) (d : List Byte) (s : State) :
    (objRevoke.effect who d s).pending = s.pending ∧ (objRevoke.effect who d s).now = s.now ∧ (objRevoke.effect who d s).mem.user = s.mem.user := by
  unfold objRevoke; (try dsimp only); (repeat' split) <;> simp

@[simp] theorem objResetRequest_stands  (who : Option Session) (d : List Byte) (s : State) :
    (objResetRequest.effect who d s).pending = s.pending ∧ (objResetRequest.effect who d s).now = s.now ∧ (objResetRequest.effect who d s).mem.user = s.mem.user := by
  unfold objResetRequest; (try dsimp only); (repeat' split) <;> simp

@[simp] theorem objBlockReset_stands  (who : Option Session) (d : List Byte) (s : State) :
    (objBlockReset.effect who d s).pending = s.pending ∧ (objBlockReset.effect who d s).now = s.now ∧ (objBlockReset.effect who d s).mem.user = s.mem.user := by
  unfold objBlockReset; (try dsimp only); (repeat' split) <;> simp

@[simp] theorem objTrimAck_stands  (who : Option Session) (d : List Byte) (s : State) :
    (objTrimAck.effect who d s).pending = s.pending ∧ (objTrimAck.effect who d s).now = s.now ∧ (objTrimAck.effect who d s).mem.user = s.mem.user := by
  unfold objTrimAck; (try dsimp only); (repeat' split) <;> simp

@[simp] theorem objPromote_stands  (who : Option Session) (d : List Byte) (s : State) :
    (objPromote.effect who d s).pending = s.pending ∧ (objPromote.effect who d s).now = s.now ∧ (objPromote.effect who d s).mem.user = s.mem.user := by
  unfold objPromote; (try dsimp only); (repeat' split) <;> simp

@[simp] theorem objCursor_stands  (who : Option Session) (d : List Byte) (s : State) :
    (objCursor.effect who d s).pending = s.pending ∧ (objCursor.effect who d s).now = s.now ∧ (objCursor.effect who d s).mem.user = s.mem.user := by
  unfold objCursor; (try dsimp only); (repeat' split) <;> simp

@[simp] theorem objHalf_stands  (who : Option Session) (d : List Byte) (s : State) :
    (objHalf.effect who d s).pending = s.pending ∧ (objHalf.effect who d s).now = s.now ∧ (objHalf.effect who d s).mem.user = s.mem.user := by
  unfold objHalf; (try dsimp only); (repeat' split) <;> simp

@[simp] theorem objRecorderClear_stands  (who : Option Session) (d : List Byte) (s : State) :
    (objRecorderClear.effect who d s).pending = s.pending ∧ (objRecorderClear.effect who d s).now = s.now ∧ (objRecorderClear.effect who d s).mem.user = s.mem.user := by
  unfold objRecorderClear; (try dsimp only); (repeat' split) <;> simp

@[simp] theorem objManualTrigger_stands  (who : Option Session) (d : List Byte) (s : State) :
    (objManualTrigger.effect who d s).pending = s.pending ∧ (objManualTrigger.effect who d s).now = s.now ∧ (objManualTrigger.effect who d s).mem.user = s.mem.user := by
  unfold objManualTrigger; (try dsimp only); (repeat' split) <;> simp

@[simp] theorem objHandover_stands  (who : Option Session) (d : List Byte) (s : State) :
    (objHandover.effect who d s).pending = s.pending ∧ (objHandover.effect who d s).now = s.now ∧ (objHandover.effect who d s).mem.user = s.mem.user := by
  unfold objHandover; (try dsimp only); (repeat' split) <;> simp

@[simp] theorem objPush_stands  (who : Option Session) (d : List Byte) (s : State) :
    (objPush.effect who d s).pending = s.pending ∧ (objPush.effect who d s).now = s.now ∧ (objPush.effect who d s).mem.user = s.mem.user := by
  unfold objPush; (try dsimp only); (repeat' split) <;> simp

@[simp] theorem objResetStandby_stands  (who : Option Session) (d : List Byte) (s : State) :
    (objResetStandby.effect who d s).pending = s.pending ∧ (objResetStandby.effect who d s).now = s.now ∧ (objResetStandby.effect who d s).mem.user = s.mem.user := by
  unfold objResetStandby; (try dsimp only); (repeat' split) <;> simp

@[simp] theorem objTolerance_stands  (who : Option Session) (d : List Byte) (s : State) :
    (objTolerance.effect who d s).pending = s.pending ∧ (objTolerance.effect who d s).now = s.now ∧ (objTolerance.effect who d s).mem.user = s.mem.user := by
  unfold objTolerance; (try dsimp only); (repeat' split) <;> simp

@[simp] theorem objPort_stands (p : Fin 2) (idx sub : Nat) (who : Option Session) (d : List Byte) (s : State) :
    ((objPort p idx sub).effect who d s).pending = s.pending ∧ ((objPort p idx sub).effect who d s).now = s.now ∧ ((objPort p idx sub).effect who d s).mem.user = s.mem.user := by
  unfold objPort; (try dsimp only); (repeat' split) <;> simp

@[simp] theorem objErrors_stands  (who : Option Session) (d : List Byte) (s : State) :
    (objErrors.effect who d s).pending = s.pending ∧ (objErrors.effect who d s).now = s.now ∧ (objErrors.effect who d s).mem.user = s.mem.user := by
  unfold objErrors; (try dsimp only); (repeat' split) <;> simp

/-! ## Writes of any object (R361, R484) -/

theorem plainWrite_stands (idx sub : Nat) (who : Option Session) (d : List Byte) (s : State) :
    s.Stands ((plainWrite idx sub).effect who d s) := by
  unfold plainWrite State.Stands
  split <;> simp [rwsWrite]

theorem singleWrite_stands {w : Option Session} {role : Role} {idx sub : Nat} {o : ObjWrite} (h : singleWrite w role idx sub = some o)
    (who : Option Session) (d : List Byte) (s : State) : s.Stands (o.effect who d s) := by
  unfold State.Stands
  unfold singleWrite at h
  split at h <;> cases h <;> simp

theorem bankWrite_stands {idx sub : Nat} {o : ObjWrite} (h : bankWrite idx sub = some o) (who : Option Session) (d : List Byte) (s : State) :
    s.Stands (o.effect who d s) := by
  unfold State.Stands
  unfold bankWrite at h
  split_ifs at h <;> cases h <;> simp

@[simp] theorem ownWrite_stands (p : Fin 2) (w : Option Session) (role : Role) (idx sub : Nat) (who : Option Session) (d : List Byte) (s : State) :
    ((ownWrite p w role idx sub).effect who d s).pending = s.pending ∧ ((ownWrite p w role idx sub).effect who d s).now = s.now ∧
      ((ownWrite p w role idx sub).effect who d s).mem.user = s.mem.user := by
  unfold ownWrite
  split
  · simp
  · cases single : singleWrite w role idx sub with
    | some o => exact singleWrite_stands single who d s
    | none =>
      cases bank : bankWrite idx sub with
      | some o => exact bankWrite_stands bank who d s
      | none => exact plainWrite_stands idx sub who d s

@[simp] theorem State.dictWrite_stands (w : Session) (p : Fin 2) (idx sub : Nat) (d : List Byte) (s : State) :
    (s.dictWrite w p idx sub d).pending = s.pending ∧ (s.dictWrite w p idx sub d).now = s.now ∧
      (s.dictWrite w p idx sub d).mem.user = s.mem.user := by
  simp [State.dictWrite]

@[simp] theorem State.writeForwarded_stands (key raw : Nat) (s : State) :
    (s.writeForwarded key raw).pending = s.pending ∧ (s.writeForwarded key raw).now = s.now ∧ (s.writeForwarded key raw).mem.user = s.mem.user := by
  unfold State.writeForwarded
  dsimp only
  split <;> simp

@[simp] theorem State.rpdoWrites_stands (p : Fin 2) (l : List Nat) (d : List Byte) (s : State) :
    (s.rpdoWrites p l d).pending = s.pending ∧ (s.rpdoWrites p l d).now = s.now ∧ (s.rpdoWrites p l d).mem.user = s.mem.user := by
  induction l generalizing d s with
  | nil => exact ⟨rfl, rfl, rfl⟩
  | cons e l ih => simp [State.rpdoWrites, ih]

@[simp] theorem State.sdoStep_stands (p : Fin 2) (t : Transfer) (x : SdoStep) (s : State) :
    (s.sdoStep p t x).pending = s.pending ∧ (s.sdoStep p t x).now = s.now ∧ (s.sdoStep p t x).mem.user = s.mem.user := by
  unfold State.sdoStep
  dsimp only
  (repeat' split) <;> simp

@[simp] theorem State.reqWrite_stands (m : MsgSlot) (d : List Byte) (s : State) :
    (s.reqWrite m d).pending = s.pending ∧ (s.reqWrite m d).now = s.now ∧ (s.reqWrite m d).mem.user = s.mem.user := by
  simp [State.reqWrite]

@[simp] theorem State.tunnelWrite_stands (m : MsgSlot) (d : List Byte) (s : State) :
    (s.tunnelWrite m d).pending = s.pending ∧ (s.tunnelWrite m d).now = s.now ∧ (s.tunnelWrite m d).mem.user = s.mem.user := by
  unfold State.tunnelWrite
  dsimp only
  split <;> simp

@[simp] theorem State.peerWrite_stands (key raw : Nat) (s : State) :
    (s.peerWrite key raw).pending = s.pending ∧ (s.peerWrite key raw).now = s.now ∧ (s.peerWrite key raw).mem.user = s.mem.user := by
  simp [State.peerWrite]

/-! ## Frames, and the tunnel -/

@[simp] theorem State.spiReadWords_stands (d : List Byte) (irq : Bool) (s : State) :
    (s.spiReadWords d irq).pending = s.pending ∧ (s.spiReadWords d irq).now = s.now ∧ (s.spiReadWords d irq).mem.user = s.mem.user := by
  simp [State.spiReadWords]

@[simp] theorem State.tunnel_stands (op : Nat) (f : MsgSlot → State → State) (s : State)
    (h : ∀ m s, (f m s).pending = s.pending ∧ (f m s).now = s.now ∧ (f m s).mem.user = s.mem.user) :
    (s.tunnel op f).pending = s.pending ∧ (s.tunnel op f).now = s.now ∧ (s.tunnel op f).mem.user = s.mem.user := by
  unfold State.tunnel
  dsimp only
  (repeat' split) <;> simp [h]

@[simp] theorem State.frameIn_stands (ok : Bool) (f : State → State) (s : State)
    (h : ∀ s, (f s).pending = s.pending ∧ (f s).now = s.now ∧ (f s).mem.user = s.mem.user) :
    (s.frameIn ok f).pending = s.pending ∧ (s.frameIn ok f).now = s.now ∧ (s.frameIn ok f).mem.user = s.mem.user := by
  unfold State.frameIn
  (repeat' split) <;> simp [h]

@[simp] theorem State.cascTake_stands (ok : Bool) (dst src : Byte) (own : Bool) (f : State → State) (s : State)
    (h : ∀ s, (f s).pending = s.pending ∧ (f s).now = s.now ∧ (f s).mem.user = s.mem.user) :
    (s.cascTake ok dst src own f).pending = s.pending ∧ (s.cascTake ok dst src own f).now = s.now ∧
      (s.cascTake ok dst src own f).mem.user = s.mem.user :=
  State.frameIn_stands ok _ s fun s => by
    (repeat' split) <;> simp [h]

/-- A frame of the SPI port keeps of the queue, the instant and the user area what its command keeps. -/
theorem State.spiFrame_keeps {α : Type} (g : State → α) (cmd : Nat) (d : List Byte) (f : Bool → State → State) (s : State)
    (own : ∀ b s, g (f b s) = g s) (net : ∀ (s : State) (y : Net), g { s with net := y } = g s) (crc : ∀ s : State, g s.spiCrcError = g s)
    (done : ∀ st l (s : State), g (s.frameDone st l) = g s) : g (s.spiFrame cmd d f) = g s := by
  unfold State.spiFrame
  dsimp only
  split
  · rfl
  · split
    · exact net _ _
    · split
      · exact (done _ _ _).trans ((crc _).trans (net _ _))
      · split
        · exact (done _ _ _).trans (net _ _)
        · exact (own _ _).trans (net _ _)

theorem State.writeWords_queue (a : Nat) (l : List Nat) (s : State) :
    (s.writeWords a l).2.pending = s.pending ∧ (s.writeWords a l).2.now = s.now := by
  unfold State.writeWords
  generalize List.range l.length = r
  induction r using List.reverseRecOn with
  | nil => exact ⟨rfl, rfl⟩
  | append_singleton r k ih => simpa using ih

theorem State.spiWriteWords_queue (d : List Byte) (irq : Bool) (s : State) :
    (s.spiWriteWords d irq).pending = s.pending ∧ (s.spiWriteWords d irq).now = s.now := by
  unfold State.spiWriteWords
  dsimp only
  split
  · exact ⟨rfl, rfl⟩
  · split <;> simp [State.writeWords_queue]

@[simp] theorem State.beginPass_user (m : MemKind) (s : State) : (s.beginPass m).mem.user = s.mem.user := by
  simp [State.beginPass]

@[simp] theorem State.memoryOut_user (s : State) : s.memoryOut.mem.user = s.mem.user := by
  simp [State.memoryOut]

@[simp] theorem State.nvcStore_stands (scope : Nat) (s : State) :
    (s.nvcStore scope).pending = s.pending ∧ (s.nvcStore scope).now = s.now ∧ (s.nvcStore scope).mem.user = s.mem.user := by
  unfold State.nvcStore
  (repeat' split) <;> simp

@[simp] theorem State.coldKept_stands (s : State) :
    s.coldKept.pending = s.pending ∧ s.coldKept.now = s.now ∧ s.coldKept.mem.user = s.mem.user :=
  ⟨rfl, rfl, rfl⟩

end Sys2Proof.Machine
end

section
/-! PROOFS. What every command leaves: the queue of waiting commands, the instant, and but for the memory's own commands the user area (R410, R437, R450). -/

namespace Sys2Proof.Machine

/-! ## The commands, one by one -/

@[simp] theorem exec_islandEvent_leaves (bridge : Fin 9) (event : Nat) (s : State) : Leaves s (exec (.islandEvent bridge event) s) := ⟨_, rfl, by simp⟩

@[simp] theorem exec_vcoreInterval_leaves (s : State) : Leaves s (exec (.vcoreInterval) s) := by
  change Leaves s (execVcoreInterval s)
  unfold execVcoreInterval
  dsimp only
  (repeat' split) <;> exact Leaves.next (by simp [State.Stands])

@[simp] theorem exec_vcoreCeiling_leaves (s : State) : Leaves s (exec (.vcoreCeiling) s) := ⟨_, rfl, by simp⟩

@[simp] theorem exec_slackCollapse_leaves (u : Fin 20) (s : State) : Leaves s (exec (.slackCollapse u) s) := ⟨_, rfl, by simp⟩

@[simp] theorem exec_taskActivation_leaves (e : Fin 8) (task : Fin 8) (tasks : BitVec 8) (trigger done deadline : Nat) (s : State) : Leaves s (exec (.taskActivation e task tasks trigger done deadline) s) := ⟨_, rfl, by simp⟩

@[simp] theorem exec_shelfFrameBoundary_leaves (s : State) : Leaves s (exec (.shelfFrameBoundary) s) := ⟨_, rfl, by simp⟩

@[simp] theorem exec_ffLatch_leaves (s : State) : Leaves s (exec (.ffLatch) s) := ⟨_, rfl, by simp⟩

@[simp] theorem exec_stateSnapshot_leaves (s : State) : Leaves s (exec (.stateSnapshot) s) := ⟨_, rfl, by simp⟩

@[simp] theorem exec_mirrorLaunch_leaves (ok : Bool) (s : State) : Leaves s (exec (.mirrorLaunch ok) s) := ⟨_, rfl, by simp⟩

@[simp] theorem exec_uplinkHandoff_leaves (s : State) : Leaves s (exec (.uplinkHandoff) s) := ⟨_, rfl, by simp⟩

@[simp] theorem exec_downlinkFreeze_leaves (s : State) : Leaves s (exec (.downlinkFreeze) s) := ⟨_, rfl, by simp⟩

@[simp] theorem exec_xoFail_leaves (s : State) : Leaves s (exec (.xoFail) s) := ⟨_, rfl, by simp⟩

@[simp] theorem exec_pllUnlock_leaves (s : State) : Leaves s (exec (.pllUnlock) s) := ⟨_, rfl, by simp⟩

@[simp] theorem exec_timebaseRecovery_leaves (s : State) : Leaves s (exec (.timebaseRecovery) s) := ⟨_, rfl, by simp⟩

@[simp] theorem exec_ppsEdge_leaves (at_ : Rat) (s : State) : Leaves s (exec (.ppsEdge at_) s) := by
  change Leaves s (execPpsEdge at_ s)
  unfold execPpsEdge
  dsimp only
  (repeat' split) <;> exact Leaves.next (by simp [State.Stands])

@[simp] theorem exec_ppsQualified_leaves (s : State) : Leaves s (exec (.ppsQualified) s) := ⟨_, rfl, by simp⟩

@[simp] theorem exec_refLostPps_leaves (s : State) : Leaves s (exec (.refLostPps) s) := ⟨_, rfl, by simp⟩

@[simp] theorem exec_ref10mInterval_leaves (err : Rat) (s : State) : Leaves s (exec (.ref10mInterval err) s) := ⟨_, rfl, by simp⟩

@[simp] theorem exec_refLost10m_leaves (noEdge : Bool) (s : State) : Leaves s (exec (.refLost10m noEdge) s) := ⟨_, rfl, by simp⟩

@[simp] theorem exec_ref10mQualified_leaves (s : State) : Leaves s (exec (.ref10mQualified) s) := ⟨_, rfl, by simp⟩

@[simp] theorem exec_refConflict_leaves (diff : Rat) (s : State) : Leaves s (exec (.refConflict diff) s) := ⟨_, rfl, by simp⟩

@[simp] theorem exec_refConflictClear_leaves (s : State) : Leaves s (exec (.refConflictClear) s) := ⟨_, rfl, by simp⟩

@[simp] theorem exec_modelLearnSample_leaves (rate : Rat) (s : State) : Leaves s (exec (.modelLearnSample rate) s) := ⟨_, rfl, by simp⟩

@[simp] theorem exec_modelStore_leaves (s : State) : Leaves s (exec (.modelStore) s) := ⟨_, rfl, by simp⟩

@[simp] theorem exec_holdoverSteer_leaves (slowAmbient : Bool) (s : State) : Leaves s (exec (.holdoverSteer slowAmbient) s) := by
  change Leaves s (execHoldoverSteer slowAmbient s)
  unfold execHoldoverSteer
  split
  · exact Leaves.next ⟨rfl, rfl, rfl⟩
  · cases s.tb.lock with
    | holdover =>
      refine Leaves.next ?_
      dsimp only
      split <;> simp [State.Stands]
    | freerun => exact Leaves.next (by simp [State.Stands])
    | _ => exact Leaves.next (by simp [State.Stands])

@[simp] theorem exec_setTimeAtPps_leaves (w : Session) (d : List Byte) (s : State) : Leaves s (exec (.setTimeAtPps w d) s) := ⟨_, rfl, by simp⟩

@[simp] theorem exec_modelReset_leaves (w : Session) (d : List Byte) (s : State) : Leaves s (exec (.modelReset w d) s) := ⟨_, rfl, by simp⟩

@[simp] theorem exec_timerExpiry_leaves (t : Fin 16) (x : Option TimerSetting) (s : State) : Leaves s (exec (.timerExpiry t x) s) := by
  change Leaves s (execTimerExpiry t x s)
  unfold execTimerExpiry
  dsimp only
  (repeat' split) <;> exact Leaves.next (by simp [State.Stands])

@[simp] theorem exec_timerCapture_leaves (t : Fin 16) (rising : Bool) (s : State) : Leaves s (exec (.timerCapture t rising) s) := ⟨_, rfl, by simp⟩

@[simp] theorem exec_precisionOutput_leaves (k : Fin 48) (rate : Fin 3) (code : Int) (s : State) : Leaves s (exec (.precisionOutput k rate code) s) := by
  change Leaves s (execPrecisionOutput k rate code s)
  unfold execPrecisionOutput
  dsimp only
  (repeat' split) <;> exact Leaves.next (by simp [State.Stands])

@[simp] theorem exec_overrangeClear_leaves (k : Fin 48) (s : State) : Leaves s (exec (.overrangeClear k) s) := ⟨_, rfl, by simp⟩

@[simp] theorem exec_settlingEnd_leaves (k : Fin 48) (s : State) : Leaves s (exec (.settlingEnd k) s) := ⟨_, rfl, by simp⟩

@[simp] theorem exec_pairDisagree_leaves (p : Fin 2) (s : State) : Leaves s (exec (.pairDisagree p) s) := ⟨_, rfl, by simp⟩

@[simp] theorem exec_rotationSlotStart_leaves (x : Fin 4) (s : State) : Leaves s (exec (.rotationSlotStart x) s) := by
  change Leaves s (execRotationSlotStart x s)
  unfold execRotationSlotStart
  dsimp only
  (repeat' split) <;> exact Leaves.next (by simp [State.Stands])

@[simp] theorem exec_modulatorCalibrationDone_leaves (m : Fin 52) (x0 xp xn : Rat) (s : State) : Leaves s (exec (.modulatorCalibrationDone m x0 xp xn) s) := by
  change Leaves s (execModulatorCalibrationDone m x0 xp xn s)
  unfold execModulatorCalibrationDone
  dsimp only
  (repeat' split) <;> exact Leaves.next (by simp [State.Stands])

@[simp] theorem exec_swapComparison_leaves (x : Fin 4) (mean : Rat) (s : State) : Leaves s (exec (.swapComparison x mean) s) := by
  change Leaves s (execSwapComparison x mean s)
  unfold execSwapComparison
  dsimp only
  (repeat' split) <;> exact Leaves.next (by simp [State.Stands])

@[simp] theorem exec_swapHandover_leaves (x : Fin 4) (s : State) : Leaves s (exec (.swapHandover x) s) := by
  change Leaves s (execSwapHandover x s)
  unfold execSwapHandover
  dsimp only
  (repeat' split) <;> exact Leaves.next (by simp [State.Stands])

@[simp] theorem exec_calStale_leaves (k : Fin 48) (s : State) : Leaves s (exec (.calStale k) s) := ⟨_, rfl, by simp⟩

@[simp] theorem exec_measurementReady_leaves (s : State) : Leaves s (exec (.measurementReady) s) := ⟨_, rfl, by simp⟩

@[simp] theorem exec_referenceCheck_leaves (diff : Rat) (s : State) : Leaves s (exec (.referenceCheck diff) s) := ⟨_, rfl, by simp⟩

@[simp] theorem exec_refFail_leaves (s : State) : Leaves s (exec (.refFail) s) := ⟨_, rfl, by simp⟩

@[simp] theorem exec_windowSample_leaves (l : Fin 8) (code vlcl : Int) (s : State) : Leaves s (exec (.windowSample l code vlcl) s) := ⟨_, rfl, by simp⟩

@[simp] theorem exec_imonConversion_leaves (i : Fin 32) (v : Rat) (s : State) : Leaves s (exec (.imonConversion i v) s) := ⟨_, rfl, by simp⟩

@[simp] theorem exec_coulombOutput_leaves (n : Fin 4) (slow : Bool) (v : Rat) (s : State) : Leaves s (exec (.coulombOutput n slow v) s) := ⟨_, rfl, by simp⟩

@[simp] theorem exec_housekeepingConversion_leaves (slot : Fin 25) (v : Rat) (s : State) : Leaves s (exec (.housekeepingConversion slot v) s) := by
  change Leaves s (execHousekeepingConversion slot v s)
  unfold execHousekeepingConversion
  dsimp only
  (repeat' split) <;> exact Leaves.next (by simp [State.Stands])

@[simp] theorem exec_writeCalibrationSet_leaves (w : Session) (d : List Byte) (s : State) : Leaves s (exec (.writeCalibrationSet w d) s) := ⟨_, rfl, by simp⟩

@[simp] theorem exec_calSetWritten_leaves (s : State) : Leaves s (exec (.calSetWritten) s) := by
  change Leaves s (execCalSetWritten s)
  unfold execCalSetWritten
  dsimp only
  (repeat' split) <;> exact Leaves.next (by simp [State.Stands])

@[simp] theorem exec_calSetExport_leaves (w : Session) (s : State) : Leaves s (exec (.calSetExport w) s) := by
  refine Leaves.next (State.access_stands _ _ _ _ fun s => ?_)
  (repeat' split) <;> simp

@[simp] theorem exec_calSetImport_leaves (w : Session) (d : List Byte) (s : State) : Leaves s (exec (.calSetImport w d) s) := ⟨_, rfl, by simp⟩

@[simp] theorem exec_captureA_leaves (w : Session) (s : State) : Leaves s (exec (.captureA w) s) := ⟨_, rfl, by simp⟩

@[simp] theorem exec_captureB_leaves (w : Session) (s : State) : Leaves s (exec (.captureB w) s) := ⟨_, rfl, by simp⟩

@[simp] theorem exec_captureCompute_leaves (w : Session) (s : State) : Leaves s (exec (.captureCompute w) s) := ⟨_, rfl, by simp⟩

@[simp] theorem exec_captureAbort_leaves (w : Session) (s : State) : Leaves s (exec (.captureAbort w) s) := ⟨_, rfl, by simp⟩

@[simp] theorem exec_captureDone_leaves (s : State) : Leaves s (exec (.captureDone) s) := by
  change Leaves s (execCaptureDone s)
  unfold execCaptureDone
  dsimp only
  (repeat' split) <;> exact Leaves.next (by simp [State.Stands])

@[simp] theorem exec_laneTrigger_leaves (n : Fin 12) (s : State) : Leaves s (exec (.laneTrigger n) s) := ⟨_, rfl, by simp⟩

@[simp] theorem exec_laneSampleDone_leaves (n : Fin 12) (s : State) : Leaves s (exec (.laneSampleDone n) s) := by
  change Leaves s (execLaneSampleDone n s)
  unfold execLaneSampleDone
  dsimp only
  (repeat' split) <;> exact Leaves.next (by simp [State.Stands])

@[simp] theorem exec_laneMiss_leaves (n : Fin 12) (s : State) : Leaves s (exec (.laneMiss n) s) := ⟨_, rfl, by simp⟩

@[simp] theorem exec_laneFault_leaves (n : Fin 12) (s : State) : Leaves s (exec (.laneFault n) s) := by
  change Leaves s (execLaneFault n s)
  unfold execLaneFault
  dsimp only
  (repeat' split) <;> exact Leaves.next (by simp [State.Stands])

@[simp] theorem exec_loopPeriodBoundary_leaves (l : Fin 8) (i : Vector Rat 32) (s : State) : Leaves s (exec (.loopPeriodBoundary l i) s) := ⟨_, rfl, by simp⟩

@[simp] theorem exec_phaseSlotEdge_leaves (i : Fin 32) (pair vlcl : Rat) (s : State) : Leaves s (exec (.phaseSlotEdge i pair vlcl) s) := by
  change Leaves s (execPhaseSlotEdge i pair vlcl s)
  unfold execPhaseSlotEdge
  dsimp only
  (repeat' split) <;> exact Leaves.next (by simp [State.Stands])

@[simp] theorem exec_setpointWrite_leaves (w : Session) (l : Fin 8) (d : List Byte) (s : State) : Leaves s (exec (.setpointWrite w l d) s) := ⟨_, rfl, by simp⟩

@[simp] theorem exec_senseLost_leaves (l : Fin 8) (s : State) : Leaves s (exec (.senseLost l) s) := ⟨_, rfl, by simp⟩

@[simp] theorem exec_overshoot_leaves (x : SenseInputs) (s : State) : Leaves s (exec (.overshoot x) s) := ⟨_, rfl, by simp⟩

@[simp] theorem exec_overvoltage_leaves (l : Fin 8) (s : State) : Leaves s (exec (.overvoltage l) s) := ⟨_, rfl, by simp⟩

@[simp] theorem exec_bellowsEnd_leaves (l : Fin 8) (s : State) : Leaves s (exec (.bellowsEnd l) s) := ⟨_, rfl, by simp⟩

@[simp] theorem exec_shedDwellExpiry_leaves (l : Fin 8) (s : State) : Leaves s (exec (.shedDwellExpiry l) s) := by
  change Leaves s (execShedDwellExpiry l s)
  unfold execShedDwellExpiry
  dsimp only
  (repeat' split) <;> exact Leaves.next (by simp [State.Stands])

@[simp] theorem exec_phaseOpen_leaves (i : Fin 32) (s : State) : Leaves s (exec (.phaseOpen i) s) := by
  change Leaves s (execPhaseOpen i s)
  unfold execPhaseOpen
  (repeat' split) <;> exact Leaves.next (by simp [State.Stands])

@[simp] theorem exec_imonImplausible_leaves (i : Fin 32) (s : State) : Leaves s (exec (.imonImplausible i) s) := by
  change Leaves s (execImonImplausible i s)
  unfold execImonImplausible
  dsimp only
  (repeat' split) <;> exact Leaves.next (by simp [State.Stands])

@[simp] theorem exec_blindTimeout_leaves (i : Fin 32) (s : State) : Leaves s (exec (.blindTimeout i) s) := by
  change Leaves s (execBlindTimeout i s)
  unfold execBlindTimeout
  (repeat' split) <;> exact Leaves.next (by simp [State.Stands])

@[simp] theorem exec_syncInEdge_leaves (p : Nat) (s : State) : Leaves s (exec (.syncInEdge p) s) := ⟨_, rfl, by simp⟩

@[simp] theorem exec_syncLocked_leaves (l : Fin 8) (s : State) : Leaves s (exec (.syncLocked l) s) := ⟨_, rfl, by simp⟩

@[simp] theorem exec_syncLost_leaves (l : Fin 8) (s : State) : Leaves s (exec (.syncLost l) s) := ⟨_, rfl, by simp⟩

@[simp] theorem exec_busReferenceWrite_leaves (w : Session) (d : List Byte) (s : State) : Leaves s (exec (.busReferenceWrite w d) s) := ⟨_, rfl, by simp⟩

@[simp] theorem exec_siteCapWrite_leaves (w : Session) (d : List Byte) (s : State) : Leaves s (exec (.siteCapWrite w d) s) := ⟨_, rfl, by simp⟩

@[simp] theorem exec_shelfLoopStart_leaves (s : State) : Leaves s (exec (.shelfLoopStart) s) := ⟨_, rfl, by simp⟩

@[simp] theorem exec_ffImplausible_leaves (s : State) : Leaves s (exec (.ffImplausible) s) := ⟨_, rfl, by simp⟩

@[simp] theorem exec_ffRestore_leaves (s : State) : Leaves s (exec (.ffRestore) s) := ⟨_, rfl, by simp⟩

@[simp] theorem exec_busSenseLost_leaves (s : State) : Leaves s (exec (.busSenseLost) s) := ⟨_, rfl, by simp⟩

@[simp] theorem exec_busOvervoltage_leaves (s : State) : Leaves s (exec (.busOvervoltage) s) := ⟨_, rfl, by simp⟩

@[simp] theorem exec_busOvClear_leaves (s : State) : Leaves s (exec (.busOvClear) s) := ⟨_, rfl, by simp⟩

@[simp] theorem exec_busUndervoltage_leaves (s : State) : Leaves s (exec (.busUndervoltage) s) := ⟨_, rfl, by simp⟩

@[simp] theorem exec_busUvClear_leaves (s : State) : Leaves s (exec (.busUvClear) s) := ⟨_, rfl, by simp⟩

@[simp] theorem exec_recNotTracking_leaves (i : Fin 32) (s : State) : Leaves s (exec (.recNotTracking i) s) := ⟨_, rfl, by simp⟩

@[simp] theorem exec_capEvaluation_leaves (s : State) : Leaves s (exec (.capEvaluation) s) := ⟨_, rfl, by simp⟩

@[simp] theorem exec_shortfallTimeout_leaves (s : State) : Leaves s (exec (.shortfallTimeout) s) := ⟨_, rfl, by simp⟩

@[simp] theorem exec_holdupEnded_leaves (s : State) : Leaves s (exec (.holdupEnded) s) := ⟨_, rfl, by simp⟩

@[simp] theorem exec_voltageStageDwell_leaves (n : Fin 8) (s : State) : Leaves s (exec (.voltageStageDwell n) s) := ⟨_, rfl, by simp⟩

@[simp] theorem exec_replyReceived_leaves (j : Fin 4) (p : Fin 2) (d : List Byte) (s : State) : Leaves s (exec (.replyReceived j p d) s) := ⟨_, rfl, by simp⟩

@[simp] theorem exec_replyMissing_leaves (i : Fin 32) (s : State) : Leaves s (exec (.replyMissing i) s) := by
  change Leaves s (execReplyMissing i s)
  unfold execReplyMissing
  dsimp only
  (repeat' split) <;> exact Leaves.next (by simp [State.Stands])

@[simp] theorem exec_slotCorrupt_leaves (i : Fin 32) (s : State) : Leaves s (exec (.slotCorrupt i) s) := ⟨_, rfl, by simp⟩

@[simp] theorem exec_slowRetry_leaves (i : Fin 32) (s : State) : Leaves s (exec (.slowRetry i) s) := by
  change Leaves s (execSlowRetry i s)
  unfold execSlowRetry
  (repeat' split) <;> exact Leaves.next (by simp [State.Stands])

@[simp] theorem exec_portReadback_leaves (p : Fin 2) (ok : Bool) (s : State) : Leaves s (exec (.portReadback p ok) s) := ⟨_, rfl, by simp⟩

@[simp] theorem exec_portTxFault_leaves (p : Fin 2) (s : State) : Leaves s (exec (.portTxFault p) s) := ⟨_, rfl, by simp⟩

@[simp] theorem exec_slowAccessRead_leaves (w : Session) (s : State) : Leaves s (exec (.slowAccessRead w) s) := ⟨_, rfl, by simp⟩

@[simp] theorem exec_slowAccessWrite_leaves (w : Session) (s : State) : Leaves s (exec (.slowAccessWrite w) s) := ⟨_, rfl, by simp⟩

@[simp] theorem exec_shelfOffWrite_leaves (w : Session) (d : List Byte) (s : State) : Leaves s (exec (.shelfOffWrite w d) s) := ⟨_, rfl, by simp⟩

@[simp] theorem exec_branchEvaluation_leaves (gpio : BitVec 24) (limit breaker : BitVec 16) (s : State) : Leaves s (exec (.branchEvaluation gpio limit breaker) s) := ⟨_, rfl, by simp⟩

@[simp] theorem exec_insertionDebounce_leaves (k : Fin 16) (s : State) : Leaves s (exec (.insertionDebounce k) s) := ⟨_, rfl, by simp⟩

@[simp] theorem exec_inrushSettled_leaves (k : Fin 16) (s : State) : Leaves s (exec (.inrushSettled k) s) := ⟨_, rfl, by simp⟩

@[simp] theorem exec_inrushTimeout_leaves (k : Fin 16) (s : State) : Leaves s (exec (.inrushTimeout k) s) := ⟨_, rfl, by simp⟩

@[simp] theorem exec_limitAssert_leaves (k : Fin 16) (s : State) : Leaves s (exec (.limitAssert k) s) := ⟨_, rfl, by simp⟩

@[simp] theorem exec_limitRelease_leaves (k : Fin 16) (s : State) : Leaves s (exec (.limitRelease k) s) := ⟨_, rfl, by simp⟩

@[simp] theorem exec_brFaultTimer_leaves (k : Fin 16) (s : State) : Leaves s (exec (.brFaultTimer k) s) := ⟨_, rfl, by simp⟩

@[simp] theorem exec_brBreaker_leaves (k : Fin 16) (s : State) : Leaves s (exec (.brBreaker k) s) := ⟨_, rfl, by simp⟩

@[simp] theorem exec_tripSinkEnd_leaves (g : Fin 24) (s : State) : Leaves s (exec (.tripSinkEnd g) s) := ⟨_, rfl, by simp⟩

@[simp] theorem exec_branchMinOffEnd_leaves (k : Fin 16) (s : State) : Leaves s (exec (.branchMinOffEnd k) s) := ⟨_, rfl, by simp⟩

@[simp] theorem exec_branchRetryEnd_leaves (k : Fin 16) (s : State) : Leaves s (exec (.branchRetryEnd k) s) := ⟨_, rfl, by simp⟩

@[simp] theorem exec_retriesCleared_leaves (k : Fin 16) (s : State) : Leaves s (exec (.retriesCleared k) s) := ⟨_, rfl, by simp⟩

@[simp] theorem exec_fetShort_leaves (k : Fin 16) (s : State) : Leaves s (exec (.fetShort k) s) := ⟨_, rfl, by simp⟩

@[simp] theorem exec_clearFetShort_leaves (w : Session) (d : List Byte) (s : State) : Leaves s (exec (.clearFetShort w d) s) := ⟨_, rfl, by simp⟩

@[simp] theorem exec_gateUv_leaves (s : State) : Leaves s (exec (.gateUv) s) := by
  change Leaves s (execGateUv s)
  unfold execGateUv
  dsimp only
  (repeat' split) <;> exact Leaves.next (by simp [State.Stands])

@[simp] theorem exec_gateUvRecover_leaves (s : State) : Leaves s (exec (.gateUvRecover) s) := by
  change Leaves s (execGateUvRecover s)
  unfold execGateUvRecover
  dsimp only
  (repeat' split) <;> exact Leaves.next (by simp [State.Stands])

@[simp] theorem exec_feedQualified_leaves (p : Fin 2) (b : Bool) (s : State) : Leaves s (exec (.feedQualified p b) s) := ⟨_, rfl, by simp⟩

@[simp] theorem exec_feedLoss_leaves (p : Fin 2) (s : State) : Leaves s (exec (.feedLoss p) s) := by
  change Leaves s (execFeedLoss p s)
  unfold execFeedLoss
  dsimp only
  (repeat' split) <;> exact Leaves.next (by simp [State.Stands])

@[simp] theorem exec_deadTimeEnd_leaves (p : Fin 2) (s : State) : Leaves s (exec (.deadTimeEnd p) s) := by
  change Leaves s (execDeadTimeEnd p s)
  unfold execDeadTimeEnd
  dsimp only
  (repeat' split) <;> exact Leaves.next (by simp [State.Stands])

@[simp] theorem exec_revertTime_leaves (p : Fin 2) (s : State) : Leaves s (exec (.revertTime p) s) := ⟨_, rfl, by simp⟩

@[simp] theorem exec_quenchIn_leaves (low : Bool) (s : State) : Leaves s (exec (.quenchIn low) s) := ⟨_, rfl, by simp⟩

@[simp] theorem exec_softwareQuench_leaves (w : Session) (d : List Byte) (s : State) : Leaves s (exec (.softwareQuench w d) s) := ⟨_, rfl, by simp⟩

@[simp] theorem exec_quenchRelease_leaves (w : Session) (d : List Byte) (s : State) : Leaves s (exec (.quenchRelease w d) s) := ⟨_, rfl, by simp⟩

@[simp] theorem exec_quenchAutoRelease_leaves (q : Fin 18) (s : State) : Leaves s (exec (.quenchAutoRelease q) s) := ⟨_, rfl, by simp⟩

@[simp] theorem exec_quenchInRearm_leaves (s : State) : Leaves s (exec (.quenchInRearm) s) := ⟨_, rfl, by simp⟩

@[simp] theorem exec_chargeCount_leaves (acc : Vector Rat 4) (s : State) : Leaves s (exec (.chargeCount acc) s) := ⟨_, rfl, by simp⟩

@[simp] theorem exec_emptyAnchor_leaves (n : Fin 4) (s : State) : Leaves s (exec (.emptyAnchor n) s) := ⟨_, rfl, by simp⟩

@[simp] theorem exec_fullAnchor_leaves (n : Fin 4) (s : State) : Leaves s (exec (.fullAnchor n) s) := ⟨_, rfl, by simp⟩

@[simp] theorem exec_capacityReset_leaves (w : Session) (n : Fin 4) (d : List Byte) (s : State) : Leaves s (exec (.capacityReset w n d) s) := ⟨_, rfl, by simp⟩

@[simp] theorem exec_lvdOpen_leaves (n : Fin 4) (s : State) : Leaves s (exec (.lvdOpen n) s) := ⟨_, rfl, by simp⟩

@[simp] theorem exec_lvdReconnect_leaves (n : Fin 4) (s : State) : Leaves s (exec (.lvdReconnect n) s) := ⟨_, rfl, by simp⟩

@[simp] theorem exec_reconnectBlocked_leaves (n : Fin 4) (s : State) : Leaves s (exec (.reconnectBlocked n) s) := ⟨_, rfl, by simp⟩

@[simp] theorem exec_clearStringLatch_leaves (w : Session) (d : List Byte) (s : State) : Leaves s (exec (.clearStringLatch w d) s) := ⟨_, rfl, by simp⟩

@[simp] theorem exec_learnedDataPeriodic_leaves (s : State) : Leaves s (exec (.learnedDataPeriodic) s) := ⟨_, rfl, by simp⟩

@[simp] theorem exec_learnedDataWriteDone_leaves (s : State) : Leaves s (exec (.learnedDataWriteDone) s) := by
  change Leaves s (execLearnedDataWriteDone s)
  unfold execLearnedDataWriteDone
  dsimp only
  (repeat' split) <;> exact Leaves.next (by simp [State.Stands])

@[simp] theorem exec_railEvaluation_leaves (s : State) : Leaves s (exec (.railEvaluation) s) := ⟨_, rfl, by simp⟩

@[simp] theorem exec_startDelayEnd_leaves (r : Fin 32) (s : State) : Leaves s (exec (.startDelayEnd r) s) := ⟨_, rfl, by simp⟩

@[simp] theorem exec_pgDelayEnd_leaves (r : Fin 32) (s : State) : Leaves s (exec (.pgDelayEnd r) s) := ⟨_, rfl, by simp⟩

@[simp] theorem exec_startTimeout_leaves (r : Fin 32) (s : State) : Leaves s (exec (.startTimeout r) s) := ⟨_, rfl, by simp⟩

@[simp] theorem exec_railFault_leaves (r : Fin 32) (s : State) : Leaves s (exec (.railFault r) s) := ⟨_, rfl, by simp⟩

@[simp] theorem exec_offPathComplete_leaves (r : Fin 32) (s : State) : Leaves s (exec (.offPathComplete r) s) := ⟨_, rfl, by simp⟩

@[simp] theorem exec_minOffEnd_leaves (r : Fin 32) (s : State) : Leaves s (exec (.minOffEnd r) s) := by
  change Leaves s (execMinOffEnd r s)
  unfold execMinOffEnd
  dsimp only
  (repeat' split) <;> exact Leaves.next (by simp [State.Stands])

@[simp] theorem exec_railRetryEnd_leaves (r : Fin 32) (s : State) : Leaves s (exec (.railRetryEnd r) s) := ⟨_, rfl, by simp⟩

@[simp] theorem exec_railRetriesCleared_leaves (r : Fin 32) (s : State) : Leaves s (exec (.railRetriesCleared r) s) := ⟨_, rfl, by simp⟩

@[simp] theorem exec_dischargeTimeout_leaves (r : Fin 32) (s : State) : Leaves s (exec (.dischargeTimeout r) s) := ⟨_, rfl, by simp⟩

@[simp] theorem exec_offDelayEnd_leaves (r : Fin 32) (s : State) : Leaves s (exec (.offDelayEnd r) s) := ⟨_, rfl, by simp⟩

@[simp] theorem exec_inputLossDelay_leaves (s : State) : Leaves s (exec (.inputLossDelay) s) := by
  change Leaves s (execInputLossDelay s)
  unfold execInputLossDelay
  extract_lets s1 m s2
  have marked : s1.Stands s2 := State.each_stands _ _ fun r s => by
    unfold State.Stands
    split <;> simp
  split
  · exact Leaves.next ((show s.Stands s1 by simp [State.Stands, s1]).trans (marked.trans (by simp [State.Stands])))
  · exact Leaves.next ⟨rfl, rfl, rfl⟩

@[simp] theorem exec_systemOnWrite_leaves (w : Session) (d : List Byte) (s : State) : Leaves s (exec (.systemOnWrite w d) s) := ⟨_, rfl, by simp⟩

@[simp] theorem exec_railCommandWrite_leaves (w : Session) (r : Fin 32) (d : List Byte) (s : State) : Leaves s (exec (.railCommandWrite w r d) s) := ⟨_, rfl, by simp⟩

@[simp] theorem exec_groupCommandWrite_leaves (w : Session) (g : Fin 8) (d : List Byte) (s : State) : Leaves s (exec (.groupCommandWrite w g d) s) := ⟨_, rfl, by simp⟩

@[simp] theorem exec_sensorConversion_leaves (k : Fin 16) (t v r : Rat) (s : State) : Leaves s (exec (.sensorConversion k t v r) s) := ⟨_, rfl, by simp⟩

@[simp] theorem exec_sensorSlow_leaves (k : Fin 16) (s : State) : Leaves s (exec (.sensorSlow k) s) := ⟨_, rfl, by simp⟩

@[simp] theorem exec_tempWarning_leaves (k : Fin 16) (s : State) : Leaves s (exec (.tempWarning k) s) := ⟨_, rfl, by simp⟩

@[simp] theorem exec_throttleActive_leaves (k : Fin 16) (s : State) : Leaves s (exec (.throttleActive k) s) := ⟨_, rfl, by simp⟩

@[simp] theorem exec_thermalShutdown_leaves (k : Fin 16) (s : State) : Leaves s (exec (.thermalShutdown k) s) := ⟨_, rfl, by simp⟩

@[simp] theorem exec_thresholdClear_leaves (k : Fin 16) (j : Fin 3) (s : State) : Leaves s (exec (.thresholdClear k j) s) := by
  change Leaves s (execThresholdClear k j s)
  unfold execThresholdClear
  dsimp only
  (repeat' split) <;> exact Leaves.next (by simp [State.Stands])

@[simp] theorem exec_throttleStep_leaves (j : Fin 8) (s : State) : Leaves s (exec (.throttleStep j) s) := ⟨_, rfl, by simp⟩

@[simp] theorem exec_throttleRestore_leaves (j : Fin 8) (s : State) : Leaves s (exec (.throttleRestore j) s) := ⟨_, rfl, by simp⟩

@[simp] theorem exec_sensorFail_leaves (k : Fin 16) (s : State) : Leaves s (exec (.sensorFail k) s) := ⟨_, rfl, by simp⟩

@[simp] theorem exec_sensorRecover_leaves (k : Fin 16) (s : State) : Leaves s (exec (.sensorRecover k) s) := ⟨_, rfl, by simp⟩

@[simp] theorem exec_engineWdog_leaves (e : Fin 8) (s : State) : Leaves s (exec (.engineWdog e) s) := ⟨_, rfl, by simp⟩

@[simp] theorem exec_selfTestDone_leaves (e : Fin 8) (pass : Bool) (s : State) : Leaves s (exec (.selfTestDone e pass) s) := ⟨_, rfl, by simp⟩

@[simp] theorem exec_migrationDone_leaves (e : Fin 8) (s : State) : Leaves s (exec (.migrationDone e) s) := by
  change Leaves s (execMigrationDone e s)
  unfold execMigrationDone
  dsimp only
  (repeat' split) <;> exact Leaves.next (by simp [State.Stands])

@[simp] theorem exec_engineReloadDone_leaves (e : Fin 8) (s : State) : Leaves s (exec (.engineReloadDone e) s) := ⟨_, rfl, by simp⟩

@[simp] theorem exec_systemWdog_leaves (s : State) : Leaves s (exec (.systemWdog) s) := ⟨_, rfl, by simp⟩

@[simp] theorem exec_mbxPost_leaves (who : Fin 11) (q : Fin 64) (d : List Byte) (s : State) : Leaves s (exec (.mbxPost who q d) s) := ⟨_, rfl, by simp⟩

@[simp] theorem exec_mbxAck_leaves (who : Fin 11) (q : Fin 64) (k : Fin 16) (code : Nat) (s : State) : Leaves s (exec (.mbxAck who q k code) s) := ⟨_, rfl, by simp⟩

@[simp] theorem exec_hostBump_leaves (s : State) : Leaves s (exec (.hostBump) s) := ⟨_, rfl, by simp⟩

@[simp] theorem exec_lockAcquire_leaves (who : Fin 11) (n : Fin 64) (s : State) : Leaves s (exec (.lockAcquire who n) s) := ⟨_, rfl, by simp⟩

@[simp] theorem exec_lockRelease_leaves (who : Fin 11) (n : Fin 64) (s : State) : Leaves s (exec (.lockRelease who n) s) := ⟨_, rfl, by simp⟩

@[simp] theorem exec_lockArm_leaves (who : Fin 11) (n : Fin 64) (s : State) : Leaves s (exec (.lockArm who n) s) := ⟨_, rfl, by simp⟩

@[simp] theorem exec_dictionaryRead_leaves (w : Session) (idx sub : Nat) (portB : Bool) (s : State) : Leaves s (exec (.dictionaryRead w idx sub portB) s) := ⟨_, rfl, by simp⟩

@[simp] theorem exec_dictionaryWrite_leaves (w : Session) (idx sub : Nat) (portB : Bool) (d : List Byte) (s : State) : Leaves s (exec (.dictionaryWrite w idx sub portB d) s) := ⟨_, rfl, by simp⟩

@[simp] theorem exec_shadowWrite_leaves (w : Session) (idx sub : Nat) (d : List Byte) (s : State) : Leaves s (exec (.shadowWrite w idx sub d) s) := ⟨_, rfl, by simp⟩

@[simp] theorem exec_roleRequest_leaves (w : Session) (d : List Byte) (s : State) : Leaves s (exec (.roleRequest w d) s) := ⟨_, rfl, by simp⟩

@[simp] theorem exec_sessionEndRequest_leaves (w : Session) (s : State) : Leaves s (exec (.sessionEndRequest w) s) := ⟨_, rfl, by simp⟩

@[simp] theorem exec_roleResponse_leaves (w : Session) (d : List Byte) (s : State) : Leaves s (exec (.roleResponse w d) s) := ⟨_, rfl, by simp⟩

@[simp] theorem exec_authLockoutEnd_leaves (w : Session) (role : Fin 3) (s : State) : Leaves s (exec (.authLockoutEnd w role) s) := ⟨_, rfl, by simp⟩

@[simp] theorem exec_nonceExpiry_leaves (w : Session) (s : State) : Leaves s (exec (.nonceExpiry w) s) := ⟨_, rfl, by simp⟩

@[simp] theorem exec_sessionIdleTimeout_leaves (w : Session) (s : State) : Leaves s (exec (.sessionIdleTimeout w) s) := ⟨_, rfl, by simp⟩

@[simp] theorem exec_commit_leaves (w : Session) (s : State) : Leaves s (exec (.commit w) s) := ⟨_, rfl, by simp⟩

@[simp] theorem exec_discard_leaves (w : Session) (s : State) : Leaves s (exec (.discard w) s) := ⟨_, rfl, by simp⟩

@[simp] theorem exec_commitValidation_leaves (s : State) : Leaves s (exec (.commitValidation) s) := ⟨_, rfl, by simp⟩

@[simp] theorem exec_blockApply_leaves (s : State) : Leaves s (exec (.blockApply) s) := by
  change Leaves s (execBlockApply s)
  unfold execBlockApply
  dsimp only
  (repeat' split) <;> exact Leaves.next (by simp [State.Stands])

@[simp] theorem exec_channelNotReady_leaves (s : State) : Leaves s (exec (.channelNotReady) s) := by
  change Leaves s (execChannelNotReady s)
  unfold execChannelNotReady
  (repeat' split) <;> exact Leaves.next (by simp [State.Stands])

@[simp] theorem exec_rollbackApply_leaves (s : State) : Leaves s (exec (.rollbackApply) s) := by
  change Leaves s (execRollbackApply s)
  unfold execRollbackApply
  dsimp only
  (repeat' split) <;> exact Leaves.next (by simp [State.Stands])

@[simp] theorem exec_bootCommit_leaves (s : State) : Leaves s (exec (.bootCommit) s) := ⟨_, rfl, by simp⟩

@[simp] theorem exec_store_leaves (w : Session) (scope : Fin 3) (d : List Byte) (s : State) : Leaves s (exec (.store w scope d) s) := ⟨_, rfl, by simp⟩

@[simp] theorem exec_storeDone_leaves (ok : Bool) (s : State) : Leaves s (exec (.storeDone ok) s) := by
  change Leaves s (execStoreDone ok s)
  unfold execStoreDone
  dsimp only
  (repeat' split) <;> exact Leaves.next (by simp [State.Stands])

@[simp] theorem exec_restoreDefaults_leaves (w : Session) (scope : Fin 3) (d : List Byte) (s : State) : Leaves s (exec (.restoreDefaults w scope d) s) := ⟨_, rfl, by simp⟩

@[simp] theorem exec_nmtStart_leaves (p : Fin 2) (s : State) : Leaves s (exec (.nmtStart p) s) := ⟨_, rfl, by simp⟩

@[simp] theorem exec_nmtStop_leaves (p : Fin 2) (s : State) : Leaves s (exec (.nmtStop p) s) := ⟨_, rfl, by simp⟩

@[simp] theorem exec_nmtEnterPreOperational_leaves (p : Fin 2) (s : State) : Leaves s (exec (.nmtEnterPreOperational p) s) := ⟨_, rfl, by simp⟩

@[simp] theorem exec_nmtResetApplication_leaves (p : Fin 2) (s : State) : Leaves s (exec (.nmtResetApplication p) s) := ⟨_, rfl, by simp⟩

@[simp] theorem exec_nmtResetCommunication_leaves (p : Fin 2) (s : State) : Leaves s (exec (.nmtResetCommunication p) s) := ⟨_, rfl, by simp⟩

@[simp] theorem exec_rpdoReceived_leaves (p : Fin 2) (n : Fin 4) (d : List Byte) (s : State) : Leaves s (exec (.rpdoReceived p n d) s) := ⟨_, rfl, by simp⟩

@[simp] theorem exec_tpdoEvent_leaves (p : Fin 2) (n : Fin 4) (s : State) : Leaves s (exec (.tpdoEvent p n) s) := ⟨_, rfl, by simp⟩

@[simp] theorem exec_sdoSegment_leaves (p : Fin 2) (x : SdoStep) (s : State) : Leaves s (exec (.sdoSegment p x) s) := by
  change Leaves s (execSdoSegment p x s)
  unfold execSdoSegment
  dsimp only
  (repeat' split) <;> exact Leaves.next (by simp [State.Stands])

@[simp] theorem exec_sdoTimeout_leaves (p : Fin 2) (s : State) : Leaves s (exec (.sdoTimeout p) s) := ⟨_, rfl, by simp⟩

@[simp] theorem exec_errorFieldBatch_leaves (s : State) : Leaves s (exec (.errorFieldBatch) s) := ⟨_, rfl, by simp⟩

@[simp] theorem exec_emcyTransmit_leaves (p : Fin 2) (s : State) : Leaves s (exec (.emcyTransmit p) s) := by
  change Leaves s (execEmcyTransmit p s)
  unfold execEmcyTransmit
  (repeat' split) <;> exact Leaves.next (by simp [State.Stands])

@[simp] theorem exec_errorFieldClear_leaves (w : Session) (s : State) : Leaves s (exec (.errorFieldClear w) s) := ⟨_, rfl, by simp⟩

@[simp] theorem exec_heartbeatProduce_leaves (p : Fin 2) (s : State) : Leaves s (exec (.heartbeatProduce p) s) := ⟨_, rfl, by simp⟩

@[simp] theorem exec_heartbeatLost_leaves (p : Fin 2) (n : Fin 4) (s : State) : Leaves s (exec (.heartbeatLost p n) s) := ⟨_, rfl, by simp⟩

@[simp] theorem exec_canBusOff_leaves (p : Fin 2) (s : State) : Leaves s (exec (.canBusOff p) s) := ⟨_, rfl, by simp⟩

@[simp] theorem exec_busOffRecovery_leaves (p : Fin 2) (s : State) : Leaves s (exec (.busOffRecovery p) s) := ⟨_, rfl, by simp⟩

@[simp] theorem exec_spiRead_leaves (d : List Byte) (s : State) : Leaves s (exec (.spiRead d) s) := ⟨_, rfl, State.spiFrame_keeps (·.pending) 1 d _ s (fun b s => (s.spiReadWords_stands d b).1) (fun _ _ => rfl) (by simp) (by simp),
    State.spiFrame_keeps (·.now) 1 d _ s (fun b s => (s.spiReadWords_stands d b).2.1) (fun _ _ => rfl) (by simp) (by simp),
    State.spiFrame_keeps (·.mem.user) 1 d _ s (fun b s => (s.spiReadWords_stands d b).2.2) (fun _ _ => rfl) (by simp) (by simp)⟩

@[simp] theorem exec_tunnelRead_leaves (s : State) : Leaves s (exec (.tunnelRead) s) := ⟨_, rfl, by simp⟩

@[simp] theorem exec_tunnelWrite_leaves (s : State) : Leaves s (exec (.tunnelWrite) s) := ⟨_, rfl, by simp⟩

@[simp] theorem exec_tunnelReadSegment_leaves (s : State) : Leaves s (exec (.tunnelReadSegment) s) := ⟨_, rfl, State.tunnel_stands _ _ _ fun m s => by
    dsimp only
    (repeat' split) <;> simp⟩

@[simp] theorem exec_tunnelWriteSegment_leaves (s : State) : Leaves s (exec (.tunnelWriteSegment) s) := ⟨_, rfl, State.tunnel_stands _ _ _ fun m s => by
    dsimp only
    (repeat' split) <;> simp⟩

@[simp] theorem exec_tunnelLastWriteSegment_leaves (s : State) : Leaves s (exec (.tunnelLastWriteSegment) s) := ⟨_, rfl, State.tunnel_stands _ _ _ fun m s => by
    dsimp only
    (repeat' split) <;> simp⟩

@[simp] theorem exec_tunnelTimeout_leaves (s : State) : Leaves s (exec (.tunnelTimeout) s) := by
  change Leaves s (execTunnelTimeout s)
  unfold execTunnelTimeout
  (repeat' split) <;> exact Leaves.next (by simp [State.Stands])

@[simp] theorem exec_pmbusDiscovery_leaves (d : Fin 32) (mode : Option Byte) (s : State) : Leaves s (exec (.pmbusDiscovery d mode) s) := ⟨_, rfl, by simp⟩

@[simp] theorem exec_pmbusPoll_leaves (d : Fin 32) (r : PmPoll) (s : State) : Leaves s (exec (.pmbusPoll d r) s) := by
  change Leaves s (execPmbusPoll d r s)
  unfold execPmbusPoll
  dsimp only
  (repeat' split) <;> exact Leaves.next (by simp [State.Stands])

@[simp] theorem exec_pmbusDeviceLost_leaves (d : Fin 32) (s : State) : Leaves s (exec (.pmbusDeviceLost d) s) := ⟨_, rfl, by simp⟩

@[simp] theorem exec_pmbusAlert_leaves (p : Fin 2) (r : Option (Nat × Nat)) (s : State) : Leaves s (exec (.pmbusAlert p r) s) := by
  change Leaves s (execPmbusAlert p r s)
  unfold execPmbusAlert
  dsimp only
  (repeat' split) <;> exact Leaves.next (by simp [State.Stands])

@[simp] theorem exec_clockStretchTimeout_leaves (p : Fin 2) (s : State) : Leaves s (exec (.clockStretchTimeout p) s) := ⟨_, rfl, by simp⟩

@[simp] theorem exec_pairingFrameSend_leaves (s : State) : Leaves s (exec (.pairingFrameSend) s) := ⟨_, rfl, by simp⟩

@[simp] theorem exec_pairingFrameReceived_leaves (ok : Bool) (f : BenutFrame) (s : State) : Leaves s (exec (.pairingFrameReceived ok f) s) := by
  change Leaves s (execPairingFrameReceived ok f s)
  unfold execPairingFrameReceived
  (repeat' split) <;> exact Leaves.next (by simp [State.Stands])

@[simp] theorem exec_pairingTimeout_leaves (s : State) : Leaves s (exec (.pairingTimeout) s) := ⟨_, rfl, by simp⟩

@[simp] theorem exec_configPush_leaves (w : Session) (d : List Byte) (s : State) : Leaves s (exec (.configPush w d) s) := ⟨_, rfl, by simp⟩

@[simp] theorem exec_configurationFrameReceived_leaves (ok : Bool) (f : BenutFrame) (s : State) : Leaves s (exec (.configurationFrameReceived ok f) s) := by
  change Leaves s (execConfigurationFrameReceived ok f s)
  unfold execConfigurationFrameReceived
  (repeat' split) <;> exact Leaves.next (by simp [State.Stands])

@[simp] theorem exec_mirrorFrameReceived_leaves (ok : Bool) (f : MirrorFrame) (err : Rat) (s : State) : Leaves s (exec (.mirrorFrameReceived ok f err) s) := ⟨_, rfl, by simp⟩

@[simp] theorem exec_stateFrameReceived_leaves (ok : Bool) (f : StateFrame) (s : State) : Leaves s (exec (.stateFrameReceived ok f) s) := ⟨_, rfl, by simp⟩

@[simp] theorem exec_heartbeatReceived_leaves (ok : Bool) (seq twin hash : Nat) (s : State) : Leaves s (exec (.heartbeatReceived ok seq twin hash) s) := ⟨_, rfl, by simp⟩

@[simp] theorem exec_delayRequest_leaves (l : Fin 5) (s : State) : Leaves s (exec (.delayRequest l) s) := ⟨_, rfl, by simp⟩

@[simp] theorem exec_delayFrameReceived_leaves (ok : Bool) (l : Fin 5) (f : BenutFrame) (at_ : Rat) (s : State) : Leaves s (exec (.delayFrameReceived ok l f at_) s) := by
  change Leaves s (execDelayFrameReceived ok l f at_ s)
  unfold execDelayFrameReceived
  dsimp only
  (repeat' split) <;> exact Leaves.next (by simp [State.Stands])

@[simp] theorem exec_benutLinkUp_leaves (l : Fin 5) (s : State) : Leaves s (exec (.benutLinkUp l) s) := ⟨_, rfl, by simp⟩

@[simp] theorem exec_benutLinkDown_leaves (l : Fin 5) (s : State) : Leaves s (exec (.benutLinkDown l) s) := ⟨_, rfl, by simp⟩

@[simp] theorem exec_messageFrameReceived_leaves (ok : Bool) (dst src : Byte) (own : Bool) (q : Nat) (m : MsgSlot) (s : State) : Leaves s (exec (.messageFrameReceived ok dst src own q m) s) := ⟨_, rfl, by simp⟩

@[simp] theorem exec_messageAckFrameReceived_leaves (ok : Bool) (dst src : Byte) (own : Bool) (q : Fin 64) (k : Fin 16) (seq code : Nat) (s : State) : Leaves s (exec (.messageAckFrameReceived ok dst src own q k seq code) s) := ⟨_, rfl, by simp⟩

@[simp] theorem exec_proxyTimeout_leaves (q : Fin 64) (k : Fin 16) (s : State) : Leaves s (exec (.proxyTimeout q k) s) := ⟨_, rfl, by simp⟩

@[simp] theorem exec_handover_leaves (w : Session) (d : List Byte) (s : State) : Leaves s (exec (.handover w d) s) := ⟨_, rfl, by simp⟩

@[simp] theorem exec_tokenConflict_leaves (s : State) : Leaves s (exec (.tokenConflict) s) := ⟨_, rfl, by simp⟩

@[simp] theorem exec_missedLaunch_leaves (s : State) : Leaves s (exec (.missedLaunch) s) := ⟨_, rfl, by simp⟩

@[simp] theorem exec_tokenLoss_leaves (s : State) : Leaves s (exec (.tokenLoss) s) := ⟨_, rfl, by simp⟩

@[simp] theorem exec_twinHeartbeatLost_leaves (s : State) : Leaves s (exec (.twinHeartbeatLost) s) := ⟨_, rfl, by simp⟩

@[simp] theorem exec_takeoverDrive_leaves (s : State) : Leaves s (exec (.takeoverDrive) s) := ⟨_, rfl, by simp⟩

@[simp] theorem exec_standbyLost_leaves (s : State) : Leaves s (exec (.standbyLost) s) := ⟨_, rfl, by simp⟩

@[simp] theorem exec_resetStandby_leaves (w : Session) (d : List Byte) (s : State) : Leaves s (exec (.resetStandby w d) s) := ⟨_, rfl, by simp⟩

@[simp] theorem exec_twinSynchronised_leaves (s : State) : Leaves s (exec (.twinSynchronised) s) := ⟨_, rfl, by simp⟩

@[simp] theorem exec_cascadeTimeLaunch_leaves (s : State) : Leaves s (exec (.cascadeTimeLaunch) s) := ⟨_, rfl, by simp⟩

@[simp] theorem exec_cascadeTimeReceived_leaves (ok : Bool) (dst src : Byte) (own reverse : Bool) (tod : Nat) (arrival : Rat) (s : State) : Leaves s (exec (.cascadeTimeReceived ok dst src own reverse tod arrival) s) := ⟨_, rfl, by simp⟩

@[simp] theorem exec_cascTimeLost_leaves (s : State) : Leaves s (exec (.cascTimeLost) s) := ⟨_, rfl, by simp⟩

@[simp] theorem exec_positionReportSend_leaves (s : State) : Leaves s (exec (.positionReportSend) s) := ⟨_, rfl, by simp⟩

@[simp] theorem exec_positionReportReceived_leaves (ok : Bool) (dst src : Byte) (own : Bool) (pReq pMax w soc : Nat) (s : State) : Leaves s (exec (.positionReportReceived ok dst src own pReq pMax w soc) s) := ⟨_, rfl, by simp⟩

@[simp] theorem exec_allocationPeriod_leaves (s : State) : Leaves s (exec (.allocationPeriod) s) := ⟨_, rfl, by simp⟩

@[simp] theorem exec_allocationReceived_leaves (ok : Bool) (dst src : Byte) (own : Bool) (allocs : List Nat) (number : Nat) (s : State) : Leaves s (exec (.allocationReceived ok dst src own allocs number) s) := ⟨_, rfl, by simp⟩

@[simp] theorem exec_masterLost_leaves (s : State) : Leaves s (exec (.masterLost) s) := ⟨_, rfl, by simp⟩

@[simp] theorem exec_promote_leaves (w : Session) (d : List Byte) (s : State) : Leaves s (exec (.promote w d) s) := ⟨_, rfl, by simp⟩

@[simp] theorem exec_masterAnnouncementReceived_leaves (ok : Bool) (dst src : Byte) (own promotion : Bool) (s : State) : Leaves s (exec (.masterAnnouncementReceived ok dst src own promotion) s) := ⟨_, rfl, by simp⟩

@[simp] theorem exec_powerOnReset_leaves (s : State) : Leaves s (exec (.powerOnReset) s) := by
  change Leaves s (execPowerOnReset s)
  unfold execPowerOnReset
  dsimp only
  (repeat' split) <;> exact Leaves.next (by simp [State.Stands])

@[simp] theorem exec_supplyBrownOut_leaves (s : State) : Leaves s (exec (.supplyBrownOut) s) := ⟨_, rfl, by simp⟩

@[simp] theorem exec_vcoreBrownOut_leaves (s : State) : Leaves s (exec (.vcoreBrownOut) s) := ⟨_, rfl, by simp⟩

@[simp] theorem exec_rstNLow_leaves (s : State) : Leaves s (exec (.rstNLow) s) := ⟨_, rfl, by simp⟩

@[simp] theorem exec_resetEscalated_leaves (s : State) : Leaves s (exec (.resetEscalated) s) := ⟨_, rfl, by simp⟩

@[simp] theorem exec_softwareResetWarm_leaves (via : Via) (s : State) : Leaves s (exec (.softwareResetWarm via) s) := by
  change Leaves s (execSoftwareResetWarm via s)
  unfold execSoftwareResetWarm
  (repeat' split) <;> exact Leaves.next (by simp [State.Stands])

@[simp] theorem exec_softwareResetCold_leaves (via : Via) (s : State) : Leaves s (exec (.softwareResetCold via) s) := by
  change Leaves s (execSoftwareResetCold via s)
  unfold execSoftwareResetCold
  (repeat' split) <;> exact Leaves.next (by simp [State.Stands])

@[simp] theorem exec_blockResetRequest_leaves (via : Via) (d : List Byte) (s : State) : Leaves s (exec (.blockResetRequest via d) s) := by
  change Leaves s (execBlockResetRequest via d s)
  unfold execBlockResetRequest
  (repeat' split) <;> exact Leaves.next (by simp [State.Stands])

@[simp] theorem exec_blockResetAssert_leaves (code : Nat) (idle : Bool) (s : State) : Leaves s (exec (.blockResetAssert code idle) s) := by
  change Leaves s (execBlockResetAssert code idle s)
  unfold execBlockResetAssert
  dsimp only
  (repeat' split) <;> exact Leaves.next (by simp [State.Stands])

@[simp] theorem exec_blockResetRelease_leaves (code : Nat) (s : State) : Leaves s (exec (.blockResetRelease code) s) := by
  change Leaves s (execBlockResetRelease code s)
  unfold execBlockResetRelease
  dsimp only
  (repeat' split) <;> exact Leaves.next (by simp [State.Stands])

@[simp] theorem exec_paritySweep_leaves (bad : Option Nat) (s : State) : Leaves s (exec (.paritySweep bad) s) := by
  change Leaves s (execParitySweep bad s)
  unfold execParitySweep
  dsimp only
  (repeat' split) <;> exact Leaves.next (by simp [State.Stands])

@[simp] theorem exec_releaseStepDone_leaves (a b c : BitVec 7) (s : State) : Leaves s (exec (.releaseStepDone a b c) s) := by
  change Leaves s (execReleaseStepDone a b c s)
  unfold execReleaseStepDone
  (repeat' split) <;> exact Leaves.next (by simp [State.Stands])

@[simp] theorem exec_releaseStall_leaves (loads : Bool) (s : State) : Leaves s (exec (.releaseStall loads) s) := by
  change Leaves s (execReleaseStall loads s)
  unfold execReleaseStall
  dsimp only
  (repeat' split) <;> exact Leaves.next (by simp [State.Stands])

@[simp] theorem exec_trimAttemptDone_leaves (dev cal : Bool) (s : State) : Leaves s (exec (.trimAttemptDone dev cal) s) := ⟨_, rfl, by simp⟩

@[simp] theorem exec_trimAcknowledge_leaves (w : Session) (d : List Byte) (s : State) : Leaves s (exec (.trimAcknowledge w d) s) := ⟨_, rfl, by simp⟩

@[simp] theorem exec_romBootDone_leaves (a b c : Bool) (digests okA okB : Bool) (s : State) : Leaves s (exec (.romBootDone a b c digests okA okB) s) := ⟨_, rfl, by simp⟩

@[simp] theorem exec_holdExpired_leaves (s : State) : Leaves s (exec (.holdExpired) s) := ⟨_, rfl, by simp⟩

@[simp] theorem exec_brownWarnSet_leaves (s : State) : Leaves s (exec (.brownWarnSet) s) := ⟨_, rfl, by simp⟩

@[simp] theorem exec_brownWarnClear_leaves (s : State) : Leaves s (exec (.brownWarnClear) s) := ⟨_, rfl, by simp⟩

@[simp] theorem exec_supplyRange_leaves (ov range : Bool) (s : State) : Leaves s (exec (.supplyRange ov range) s) := ⟨_, rfl, by simp⟩

@[simp] theorem exec_scrubLate_leaves (m : MemKind) (s : State) : Leaves s (exec (.scrubLate m) s) := ⟨_, rfl, by simp⟩

@[simp] theorem exec_correctionRate_leaves (m : MemKind) (s : State) : Leaves s (exec (.correctionRate m) s) := ⟨_, rfl, by simp⟩

@[simp] theorem exec_nvcStore_leaves (scope : Fin 4) (s : State) : Leaves s (exec (.nvcStore scope) s) := ⟨_, rfl, State.byHost_stands _ _ fun s => State.nvcStore_stands scope s⟩

@[simp] theorem exec_recordWriteDone_leaves (bad : List Nat) (s : State) : Leaves s (exec (.recordWriteDone bad) s) := by
  change Leaves s (execRecordWriteDone bad s)
  unfold execRecordWriteDone
  dsimp only
  (repeat' split) <;> exact Leaves.next (by simp [State.Stands])

@[simp] theorem exec_recorderScanDone_leaves (incomplete : Bool) (s : State) : Leaves s (exec (.recorderScanDone incomplete) s) := ⟨_, rfl, by simp⟩

@[simp] theorem exec_cursorWrite_leaves (by_ : CursorBy) (d : List Byte) (s : State) : Leaves s (exec (.cursorWrite by_ d) s) := by
  change Leaves s (execCursorWrite by_ d s)
  unfold execCursorWrite
  (repeat' split) <;> exact Leaves.next (by simp [State.Stands])

@[simp] theorem exec_windowLoadDone_leaves (k : Fin 3) (bad : List Nat) (s : State) : Leaves s (exec (.windowLoadDone k bad) s) := by
  change Leaves s (execWindowLoadDone k bad s)
  unfold execWindowLoadDone
  dsimp only
  (repeat' split) <;> exact Leaves.next (by simp [State.Stands])

@[simp] theorem exec_recorderClear_leaves (via : Via) (d : List Byte) (s : State) : Leaves s (exec (.recorderClear via d) s) := by
  change Leaves s (execRecorderClear via d s)
  unfold execRecorderClear
  (repeat' split) <;> exact Leaves.next (by simp [State.Stands])

@[simp] theorem exec_recorderCleared_leaves (s : State) : Leaves s (exec (.recorderCleared) s) := ⟨_, rfl, by simp⟩

@[simp] theorem exec_manualTrigger_leaves (w : Session) (d : List Byte) (s : State) : Leaves s (exec (.manualTrigger w d) s) := ⟨_, rfl, by simp⟩

@[simp] theorem exec_stagingBegin_leaves (via : Via) (s : State) : Leaves s (exec (.stagingBegin via) s) := by
  change Leaves s (execStagingBegin via s)
  unfold execStagingBegin
  (repeat' split) <;> exact Leaves.next (by simp [State.Stands])

@[simp] theorem exec_imageAppend_leaves (via : Via) (d : List Byte) (s : State) : Leaves s (exec (.imageAppend via d) s) := by
  change Leaves s (execImageAppend via d s)
  unfold execImageAppend
  (repeat' split) <;> exact Leaves.next (by simp [State.Stands])

@[simp] theorem exec_stagingAbort_leaves (via : Via) (s : State) : Leaves s (exec (.stagingAbort via) s) := by
  change Leaves s (execStagingAbort via s)
  unfold execStagingAbort
  (repeat' split) <;> exact Leaves.next (by simp [State.Stands])

@[simp] theorem exec_imageVerifyDone_leaves (uncorr : Bool) (s : State) : Leaves s (exec (.imageVerifyDone uncorr) s) := by
  change Leaves s (execImageVerifyDone uncorr s)
  unfold execImageVerifyDone
  dsimp only
  (repeat' split) <;> exact Leaves.next (by simp [State.Stands])

@[simp] theorem exec_activate_leaves (via : Via) (s : State) : Leaves s (exec (.activate via) s) := by
  change Leaves s (execActivate via s)
  unfold execActivate
  (repeat' split) <;> exact Leaves.next (by simp [State.Stands])

@[simp] theorem exec_commitTrial_leaves (via : Via) (s : State) : Leaves s (exec (.commitTrial via) s) := by
  change Leaves s (execCommitTrial via s)
  unfold execCommitTrial
  (repeat' split) <;> exact Leaves.next (by simp [State.Stands])

@[simp] theorem exec_revertTrial_leaves (via : Via) (s : State) : Leaves s (exec (.revertTrial via) s) := by
  change Leaves s (execRevertTrial via s)
  unfold execRevertTrial
  (repeat' split) <;> exact Leaves.next (by simp [State.Stands])

@[simp] theorem exec_trialExpiry_leaves (s : State) : Leaves s (exec (.trialExpiry) s) := ⟨_, rfl, by simp⟩

@[simp] theorem exec_liveUpdate_leaves (via : Via) (s : State) : Leaves s (exec (.liveUpdate via) s) := by
  change Leaves s (execLiveUpdate via s)
  unfold execLiveUpdate
  (repeat' split) <;> exact Leaves.next (by simp [State.Stands])

@[simp] theorem exec_liveVerifyDone_leaves (uncorr : Bool) (s : State) : Leaves s (exec (.liveVerifyDone uncorr) s) := by
  change Leaves s (execLiveVerifyDone uncorr s)
  unfold execLiveVerifyDone
  dsimp only
  (repeat' split) <;> exact Leaves.next (by simp [State.Stands])

@[simp] theorem exec_lifecycleTransition_leaves (w : Session) (d : List Byte) (s : State) : Leaves s (exec (.lifecycleTransition w d) s) := ⟨_, rfl, by simp⟩

@[simp] theorem exec_keyWrite_leaves (w : Session) (d : List Byte) (s : State) : Leaves s (exec (.keyWrite w d) s) := ⟨_, rfl, by simp⟩

@[simp] theorem exec_keyRevoke_leaves (w : Session) (d : List Byte) (s : State) : Leaves s (exec (.keyRevoke w d) s) := ⟨_, rfl, by simp⟩

@[simp] theorem exec_twinActIChange_leaves (level : Bool) (s : State) : Leaves s (exec (.twinActIChange level) s) := ⟨_, rfl, by simp⟩

@[simp] theorem exec_supplyPowerOn_leaves (s : State) : Leaves s (exec (.supplyPowerOn) s) := ⟨_, rfl, by simp⟩

/-! ## The commands of the memory itself -/

@[simp] theorem State.endPass_user (m : MemKind) (s : State) : (s.endPass m).mem.user = s.mem.user := by
  cases m <;> simp [State.endPass]

@[simp] theorem State.eccEvent_user (m : MemKind) (addr info : Nat) (s : State) : (s.eccEvent m addr info).mem.user = s.mem.user := by
  cases m <;> rfl

@[simp] theorem State.countHour_user (m : MemKind) (s : State) : (s.countHour m).mem.user = s.mem.user := by
  unfold State.countHour
  (repeat' split) <;> simp

@[simp] theorem State.memCorrected_user (m : MemKind) (addr : Nat) (s : State) : (s.memCorrected m addr).mem.user = s.mem.user := by
  cases m <;> simp [State.memCorrected]

/-- An uncorrectable word of an SRAM leaves the user area, which lies in the MRAM. -/
theorem State.memUncorrectable_user {m : MemKind} (sram : m ≠ .mram) (addr : Nat) (used : Bool) (s : State) :
    (s.memUncorrectable m addr used).mem.user = s.mem.user := by
  unfold State.memUncorrectable
  cases m with
  | mram => exact absurd rfl sram
  | main | queue =>
    dsimp only
    (repeat' split) <;> simp

/-- The state in which a scrubbing step has read its word and passed on to the next. -/
def State.scrubRead (m : MemKind) (n : Nat) (s : State) : State :=
  let s : State := if m = .mram then { s with mem.scrubPos := (n + 1) % memWords .mram } else s
  if n + 1 = memWords m then s.endPass m else s

theorem State.scrubRead_stands (m : MemKind) (n : Nat) (s : State) : s.Stands (s.scrubRead m n) := by
  unfold State.scrubRead State.Stands
  dsimp only
  (repeat' split) <;> simp

/-- What a scrubbing step does with a word that its code finds wrong. -/
def State.scrubWrong (m : MemKind) (addr info : Nat) (lost used : Bool) (s : State) : State :=
  if lost then (s.eccEvent m addr info).memUncorrectable m addr used else (s.eccEvent m addr info).memCorrected m addr

theorem State.scrubWrong_queue (m : MemKind) (addr info : Nat) (lost used : Bool) (s : State) :
    (s.scrubWrong m addr info lost used).pending = s.pending ∧ (s.scrubWrong m addr info lost used).now = s.now := by
  unfold State.scrubWrong
  split <;> simp

theorem State.scrubWrong_user {m : MemKind} (sram : m ≠ .mram) (addr info : Nat) (lost used : Bool) (s : State) :
    (s.scrubWrong m addr info lost used).mem.user = s.mem.user := by
  unfold State.scrubWrong
  split <;> simp [State.memUncorrectable_user sram]

theorem exec_scrubStep_eq (m : MemKind) (word : Nat) (code : BitVec 80) (used : Bool) (s : State) :
    exec (.scrubStep m word code used) s = .next
      (if rsLane code.toNat 0 = .clean ∧ rsLane code.toNat 1 = .clean then s.scrubRead m (s.scrubWord m word)
       else (s.scrubRead m (s.scrubWord m word)).scrubWrong m (memAddress m (s.scrubWord m word))
        (eccInfoOf (rsLane code.toNat 0) (rsLane code.toNat 1) (m = .main && used))
        (rsLane code.toNat 0 = .uncorrectable ∨ rsLane code.toNat 1 = .uncorrectable) used) := by
  simp only [State.scrubWrong, decide_eq_true_eq]
  rfl

/-- A command's outcome is a next state with the queue and the instant of before. -/
def Passes (s : State) (o : Out) : Prop := ∃ t, o = .next t ∧ t.pending = s.pending ∧ t.now = s.now

theorem Leaves.passes {s : State} {o : Out} (h : Leaves s o) : Passes s o := by
  obtain ⟨t, next, queue, instant, -⟩ := h
  exact ⟨t, next, queue, instant⟩

theorem exec_scrubStep_passes (m : MemKind) (word : Nat) (code : BitVec 80) (used : Bool) (s : State) :
    Passes s (exec (.scrubStep m word code used) s) := by
  obtain ⟨queue, instant, -⟩ := s.scrubRead_stands m (s.scrubWord m word)
  refine ⟨_, exec_scrubStep_eq m word code used s, ?_⟩
  split
  · exact ⟨queue, instant⟩
  · exact ⟨(State.scrubWrong_queue ..).1.trans queue, (State.scrubWrong_queue ..).2.trans instant⟩

theorem exec_scrubStep_leaves {m : MemKind} (sram : m ≠ .mram) (word : Nat) (code : BitVec 80) (used : Bool) (s : State) :
    Leaves s (exec (.scrubStep m word code used) s) := by
  obtain ⟨queue, instant, area⟩ := s.scrubRead_stands m (s.scrubWord m word)
  refine ⟨_, exec_scrubStep_eq m word code used s, ?_⟩
  split
  · exact ⟨queue, instant, area⟩
  · exact ⟨(State.scrubWrong_queue ..).1.trans queue, (State.scrubWrong_queue ..).2.trans instant, (State.scrubWrong_user sram ..).trans area⟩

theorem exec_registerWrite_passes (addr value : Nat) (s : State) : Passes s (exec (.registerWrite addr value) s) := by
  refine ⟨_, rfl, ?_⟩
  split <;> simp

theorem exec_spiWrite_passes (d : List Byte) (s : State) : Passes s (exec (.spiWrite d) s) :=
  ⟨_, rfl, State.spiFrame_keeps (·.pending) 2 d _ s (fun b s => (s.spiWriteWords_queue d b).1) (fun _ _ => rfl) (by simp) (by simp),
    State.spiFrame_keeps (·.now) 2 d _ s (fun b s => (s.spiWriteWords_queue d b).2) (fun _ _ => rfl) (by simp) (by simp)⟩

theorem exec_nvcUserWrite_passes (s : State) : Passes s (exec .nvcUserWrite s) := by
  refine ⟨_, rfl, ?_⟩
  unfold State.byHost
  split <;> simp

theorem exec_lifecycleWipe_passes (s : State) : Passes s (exec .lifecycleWipe s) := by
  refine ⟨_, rfl, ?_⟩
  split
  · exact ⟨rfl, rfl⟩
  · split <;> simp

/-! ## The two statements -/

/-- The commands that may write the user area. -/
def WritesArea (c : Instr) : Prop :=
  c = .nvcUserWrite ∨ c = .lifecycleWipe ∨ (∃ k w u, c = .scrubStep .mram k w u) ∨ (∃ a v, c = .registerWrite a v) ∨ ∃ d, c = .spiWrite d

/-- Every other command leaves queue, instant and user area: command by command. -/
theorem exec_leaves (c : Instr) (s : State) : Leaves s (exec c s) ∨ (WritesArea c ∧ Passes s (exec c s)) := by
  cases c with
  | nvcUserWrite => exact .inr ⟨.inl rfl, exec_nvcUserWrite_passes s⟩
  | lifecycleWipe => exact .inr ⟨.inr (.inl rfl), exec_lifecycleWipe_passes s⟩
  | registerWrite a v => exact .inr ⟨.inr (.inr (.inr (.inl ⟨a, v, rfl⟩))), exec_registerWrite_passes a v s⟩
  | spiWrite d => exact .inr ⟨.inr (.inr (.inr (.inr ⟨d, rfl⟩))), exec_spiWrite_passes d s⟩
  | scrubStep m k w u =>
    by_cases mram : m = .mram
    · exact .inr ⟨.inr (.inr (.inl ⟨k, w, u, by rw [mram]⟩)), exec_scrubStep_passes m k w u s⟩
    · exact .inl (exec_scrubStep_leaves mram k w u s)
  | _ => exact .inl (by simp)

/-- Settles O57: every command answers a next state with queue and instant as before. -/
theorem everyCommandCompletesAndLeavesTheQueue : Obligations.EveryCommandCompletesAndLeavesTheQueue := by
  unfold Obligations.EveryCommandCompletesAndLeavesTheQueue
  intro c s
  exact (exec_leaves c s).elim Leaves.passes And.right

/-- Settles O58: a command that is none of the five leaves the area, and so every byte of it. -/
theorem onlyMemoryCommandsWriteTheUserArea : Obligations.OnlyMemoryCommandsWriteTheUserArea := by
  unfold Obligations.OnlyMemoryCommandsWriteTheUserArea
  intro c s t done direct scrub register frame a
  rcases exec_leaves c s with ⟨t', next, -, -, area⟩ | ⟨user | wipe | ⟨k, w, u, eq⟩ | ⟨x, v, eq⟩ | ⟨d, eq⟩, -⟩
  · rw [done] at next
    cases next
    rw [area]
  · exact absurd user direct.1
  · exact absurd wipe direct.2
  · exact absurd eq (scrub k w u)
  · exact absurd eq (register x v)
  · exact absurd eq (frame d)

end Sys2Proof.Machine
end

section
/-! PROOFS. What the operations of the timebase change (R84 to R100). -/

namespace Sys2Proof.Machine

/-! ## Lock states and steering -/

/-- The parts of a transition of the lock state (R90). -/
def Part.lockChange : List Part := [.tb .lock, .tb .changes, .tb .lastChange, .tb .lockRun, .tb .refLock, .tb .freqOnly, .tb .phaseStage]

/-- The parts of a phase slew that ends. -/
def Part.slew : List Part := [.tb .slewLeft, .tb .slewOff, .tb .steering]

theorem State.setLock_keeps_of_reference {x : LockState} (h : x = .acquire ∨ x = .locked) (s : State) : KeepsBut Part.lockChange s (s.setLock x) := by
  unfold State.setLock
  rw [if_pos h]
  exact KeepsBut.ite _ (KeepsBut.refl _ s) (KeepsBut.write_tb (l := [.tb .lock, .tb .changes, .tb .lastChange, .tb .lockRun, .tb .refLock, .tb .freqOnly, .tb .phaseStage]) fun f hf _ _ => by cases f with | lock | changes | lastChange | lockRun | refLock | freqOnly | phaseStage => simp at hf  | genAll | loopPAll | loopFAll | recFAll => trivial | _ => exact rfl)

theorem State.setLock_keeps (x : LockState) (s : State) : KeepsBut (Part.slew ++ Part.lockChange) s (s.setLock x) := by
  unfold State.setLock
  refine KeepsBut.ite _ (KeepsBut.refl _ s) (KeepsBut.append (a := if x = .acquire ∨ x = .locked then s else s.slewStop) ?_
    (KeepsBut.write_tb (l := [.tb .lock, .tb .changes, .tb .lastChange, .tb .lockRun, .tb .refLock, .tb .freqOnly, .tb .phaseStage]) fun f hf _ _ => by cases f with | lock | changes | lastChange | lockRun | refLock | freqOnly | phaseStage => simp at hf  | genAll | loopPAll | loopFAll | recFAll => trivial | _ => exact rfl))
  exact KeepsBut.ite _ (KeepsBut.refl _ s) s.slewStop_keeps

/-- The parts of a write of the learned data that begins, or is deferred (R257, R262). -/
def Part.learning (k : Fin 2) : List Part :=
  [.bat .deferred, .bat .writing, .bat .writeData, .bat (.copies k), .bat .modelDue, .timer .learnedWrite]

theorem State.learnWrite_keeps (s : State) : KeepsBut (Part.learning s.bat.target) s s.learnWrite := by
  unfold State.learnWrite
  split
  · exact (KeepsBut.write_bat (l := [.bat .deferred]) fun f hf _ _ => by cases f with | deferred => simp at hf  | strAll | copiesAll => trivial | _ => exact rfl).weaken (by generalize s.bat.target = k; apply Part.Within.checkAt k; rfl)
  · exact (KeepsBut.append (KeepsBut.write_bat (l := [.bat .writing, .bat .writeData, .bat .deferred, .bat .modelDue, .bat (.copies s.bat.target)]) fun f hf _ _ => by cases f with | writing | writeData | deferred | modelDue => simp at hf | copies j => exact vector_set_getElem_ne (by rintro rfl; simp at hf)  | strAll | copiesAll => trivial | _ => exact rfl) (State.arm_keeps _ _ _)).weaken
      (by generalize s.bat.target = k; apply Part.Within.checkAt k; rfl)

theorem State.enterFreerun_keeps (s : State) : KeepsBut (Part.slew ++ Part.lockChange ++ ([.timer .holdoverSec] : List Part)) s s.enterFreerun :=
  (s.setLock_keeps .freerun).append (State.arm_keeps _ _ _)

/-- The parts of an entry of HOLDOVER (R93 to R95). -/
def Part.holdover (k : Fin 2) : List Part :=
  ([.tb .alignTerm, .tb .errBound, .tb .holdoverTime, .tb .limitRaised, .timer .holdoverSec] : List Part) ++ Part.slew ++ Part.lockChange ++ Part.learning k

theorem State.enterHoldover_keeps (s : State) : KeepsBut (Part.holdover s.bat.target) s s.enterHoldover := by
  have learnt (a : State) (h : a.bat.target = s.bat.target) : KeepsBut (Part.learning s.bat.target) a a.learnWrite := h ▸ a.learnWrite_keeps
  refine KeepsBut.weaken (KeepsBut.after (State.arm_keeps _ _ _) (KeepsBut.after (learnt _ ?_) (KeepsBut.after (a := s.setLock .holdover)
    (KeepsBut.of_pieces (l := [.tb .alignTerm, .tb .errBound, .tb .holdoverTime, .tb .limitRaised, .bat .modelDue]) { State.Pieces.refl with tb_ := fun f hf _ _ => by cases f with | alignTerm | errBound | holdoverTime | limitRaised => simp at hf  | genAll | loopPAll | loopFAll | recFAll => trivial | _ => exact rfl, bat_ := fun f hf _ _ => by cases f with | modelDue => simp at hf  | strAll | copiesAll => trivial | _ => exact rfl }) (s.setLock_keeps _)))) ?_
  · simp [Battery.target]
  · generalize s.bat.target = k
    apply Part.Within.checkAt k; rfl

theorem State.refGained_keeps (s : State) : KeepsBut (Part.lockChange ++ ([.timer .holdoverSec] : List Part)) s s.refGained := by
  unfold State.refGained
  refine KeepsBut.ite _ ((State.setLock_keeps_of_reference (.inl rfl) s).append (State.disarm_keeps _ _)) (KeepsBut.ite _ ?_ (KeepsBut.refl _ s))
  exact (KeepsBut.write_tb (l := [.tb .freqOnly]) fun f hf _ _ => by cases f with | freqOnly => simp at hf  | genAll | loopPAll | loopFAll | recFAll => trivial | _ => exact rfl).weaken (by exact .check rfl)

theorem State.refChecked_keeps (s : State) : KeepsBut (Part.holdover s.bat.target ++ Part.raised) s s.refChecked := by
  unfold State.refChecked
  split
  · exact s.enterFreerun_keeps.weaken (by generalize s.bat.target = k; apply Part.Within.checkAt k; rfl)
  · exact s.enterHoldover_keeps.append (State.raise_keepsBut _ _ _ _)
  · exact (KeepsBut.write_tb (l := [.tb .freqOnly]) fun f hf _ _ => by cases f with | freqOnly => simp at hf  | genAll | loopPAll | loopFAll | recFAll => trivial | _ => exact rfl).weaken (by generalize s.bat.target = k; apply Part.Within.checkAt k; rfl)
  · exact KeepsBut.refl _ s

theorem State.steerTo_keeps (dt y : Rat) (log : Bool) (s : State) : KeepsBut [.tb .freqCorr, .tb .steering, .tb .steerHist] s (s.steerTo dt y log) :=
  (KeepsBut.write_tb (l := [.tb .freqCorr, .tb .steering, .tb .steerHist]) fun f hf _ _ => by cases f with | freqCorr | steering | steerHist => simp at hf  | genAll | loopPAll | loopFAll | recFAll => trivial | _ => exact rfl)

theorem State.measuredFreq_keeps (fe : Rat) (s : State) : KeepsBut [.tb .freqErr, .tb .phaseStage] s (s.measuredFreq fe) :=
  (KeepsBut.write_tb (l := [.tb .freqErr, .tb .phaseStage]) fun f hf _ _ => by cases f with | freqErr | phaseStage => simp at hf  | genAll | loopPAll | loopFAll | recFAll => trivial | _ => exact rfl)

theorem State.lockNow_keeps (s : State) : KeepsBut Part.lockChange s s.lockNow :=
  KeepsBut.ite _ (State.setLock_keeps_of_reference (.inr rfl) s) (KeepsBut.refl _ s)

end Sys2Proof.Machine
end

section
/-! PROOFS. REF10M_IN is measured, lost, qualified and in conflict (R88, R91). -/

namespace Sys2Proof.Machine

/-- The state after an interval of REF10M_IN, before the second that it may end. -/
def State.intervalTaken (e : Rat) (s : State) : State :=
  { s with tb.refBad := decide (1 / 20000 < absR e), tb.refRun := if decide (1 / 20000 < absR e) then 0 else satInc 10000 s.tb.refRun,
           tb.refSum := s.tb.refSum + e - s.tb.slewOff, tb.refN := s.tb.refN + 1 }

theorem exec_ref10mInterval_of_runs {s : State} (runs : s.tbRuns = true) (e : Rat) :
    exec (.ref10mInterval e) s = .next (if 1000 ≤ s.tb.refN + 1 then (s.intervalTaken e).refSecond else s.intervalTaken e) :=
  congrArg Host.Outcome.next (if_neg (by simp [runs]))

/-- The mean of the second is taken, and counted towards the lock criterion. -/
def State.secondTaken (s : State) : State :=
  { s with tb.refSum := 0, tb.refN := 0, tb.refLock := if absR (s.tb.refSum / (s.tb.refN : Nat)) ≤ 1 / 1000000000 then satInc 60 s.tb.refLock else 0 }

theorem State.secondTaken_refSteers (s : State) : s.secondTaken.refSteers = s.refSteers := rfl

theorem State.refSecond_of_not_steering {s : State} (h : s.refSteers = false) : s.refSecond = s.secondTaken :=
  if_pos (.inl (show ¬ s.secondTaken.refSteers = true by simp [s.secondTaken_refSteers, h]))

/-- The mean of a second that steers is measured, and the word moves to it. -/
def State.secondSteers (s : State) : State :=
  (s.secondTaken.measuredFreq (s.tb.refSum / (s.tb.refN : Nat))).steerTo 1
    (Config.pi (s.real 0x2100 4) 0 (s.tb.refSum / (s.tb.refN : Nat)) s.tb.freqCorr) true

theorem State.refSecond_of_steering {s : State} (h : s.refSteers = true) (own : s.steersItself = true)
    (lock : s.tb.lock = .acquire ∨ s.tb.lock = .locked) :
    s.refSecond = if 60 ≤ s.secondSteers.tb.refLock ∧ ¬ s.secondSteers.tb.refBad ∧ ¬ (s.secondSteers.ppsPhase ∧ s.secondSteers.tb.ppsOk) then
      s.secondSteers.lockNow else s.secondSteers :=
  if_neg (show ¬ (¬ s.secondTaken.refSteers = true ∨ ¬ s.secondTaken.steersItself = true ∨ ¬ (s.tb.lock = .acquire ∨ s.tb.lock = .locked)) by
    simp [s.secondTaken_refSteers, h, show s.secondTaken.steersItself = s.steersItself from rfl, own, lock])

theorem State.secondSteers_keeps (s : State) :
    KeepsBut [.tb .refSum, .tb .refN, .tb .refLock, .tb .freqErr, .tb .phaseStage, .tb .freqCorr, .tb .steering, .tb .steerHist] s s.secondSteers :=
  (KeepsBut.after (State.steerTo_keeps _ _ _ _) (KeepsBut.after (State.measuredFreq_keeps _ _) (KeepsBut.write_tb (l := [.tb .refSum, .tb .refN, .tb .refLock]) fun f hf _ _ => by cases f with | refSum | refN | refLock => simp at hf  | genAll | loopPAll | loopFAll | recFAll => trivial | _ => exact rfl)))

/-- Becoming locked leaves what the second measured. -/
theorem State.lockNow_measured (s : State) :
    s.lockNow.tb.freqErr = s.tb.freqErr ∧ s.lockNow.tb.refN = s.tb.refN ∧ s.lockNow.tb.refSum = s.tb.refSum :=
  ⟨s.lockNow_keeps.get (.tb .freqErr) rfl,
    s.lockNow_keeps.get (.tb .refN) rfl,
    s.lockNow_keeps.get (.tb .refSum) rfl⟩

theorem State.refGained_refOk (s : State) : s.refGained.tb.refOk = s.tb.refOk :=
  s.refGained_keeps.get (.tb .refOk) rfl

/-- What a loss of a reference leaves. -/
theorem State.refChecked_refs (s : State) :
    s.refChecked.tb.refOk = s.tb.refOk ∧ s.refChecked.tb.refRun = s.tb.refRun ∧ s.refChecked.tb.conflict = s.tb.conflict := by
  have kept := s.refChecked_keeps
  exact ⟨kept.get (.tb .refOk) rfl, kept.get (.tb .refRun) rfl, kept.get (.tb .conflict) rfl⟩

/-- A code that was raised stays raised where the loss of a reference is judged after it. -/
theorem Raised.refChecked {c i : Nat} {v : List Nat} {s a : State} (h : Raised c i v s a)
    (at_ : isEvent c = false → a.net.batchAt = a.tb.tod / 1000) : Raised c i v s a.refChecked := by
  unfold State.refChecked
  split
  · exact h.keep (by simp) (by simp)
  · refine Raised.raise (h.keep (by simp) (by simp)) (fun fault => ?_) _ _ _
    have kept := a.enterHoldover_keeps
    have tod : a.enterHoldover.tb.tod = a.tb.tod := kept.get (.tb .tod) rfl
    rw [tod, ← at_ fault]
    simp
  · exact h.keep rfl rfl
  · exact h

/-- A reference that is lost: its marks, the code, and what the lock state makes of it. -/
theorem State.raise_refChecked_raised (c i : Nat) (v : List Nat) {s a : State} (h : a.evr.staging = s.evr.staging) :
    Raised c i v s (a.raise c i v).refChecked := by
  refine (State.raise_raised c i v h).refChecked fun fault => ?_
  rw [State.raise_batchAt c i v a fault]

theorem State.raise_target (c i : Nat) (v : List Nat) (s : State) : (s.raise c i v).bat.target = s.bat.target := by
  simp

/-- Settles O3: the interval, its second, and the reference's loss and return, each by its rule. -/
theorem ref10mIsMeasuredLostAndInConflict : Obligations.Ref10mIsMeasuredLostAndInConflict := by
  unfold Obligations.Ref10mIsMeasuredLostAndInConflict
  refine ⟨fun e s runs few => ⟨_, (exec_ref10mInterval_of_runs runs e).trans (congrArg Host.Outcome.next (if_neg (show ¬ 1000 ≤ s.tb.refN + 1 by omega))), rfl⟩, fun e s runs full steers own lock => ?_,
    fun e s runs full steers => ⟨_, exec_ref10mInterval_of_runs runs e, ?_⟩, fun noEdge s runs ok lost => ?_, fun s runs good ok free => ?_,
    fun d s runs mode free pps ok far => ?_, fun d s runs mode conflict => ?_, fun s conflict due => ?_⟩
  · have taken : (s.intervalTaken e).refSteers = true := steers
    refine ⟨_, (exec_ref10mInterval_of_runs runs e).trans (congrArg _ ((if_pos (by omega)).trans (State.refSecond_of_steering taken own lock))), ?_⟩
    have taken : KeepsBut [.tb .refBad, .tb .refRun, .tb .refSum, .tb .refN] s (s.intervalTaken e) := (KeepsBut.write_tb (l := [.tb .refBad, .tb .refRun, .tb .refSum, .tb .refN]) fun f hf _ _ => by cases f with | refBad | refRun | refSum | refN => simp at hf  | genAll | loopPAll | loopFAll | recFAll => trivial | _ => exact rfl)
    have steered := taken.append (s.intervalTaken e).secondSteers_keeps
    split
    · exact ⟨(State.lockNow_measured _).1, (State.lockNow_measured _).2.1, (State.lockNow_measured _).2.2,
        (steered.append (State.lockNow_keeps _)).weaken (by exact .check rfl)⟩
    · exact ⟨rfl, rfl, rfl, steered.weaken (by exact .check rfl)⟩
  · exact (if_pos (show 1000 ≤ s.tb.refN + 1 by omega)).trans (State.refSecond_of_not_steering (show (s.intervalTaken e).refSteers = false from steers))
  · refine ⟨_, congrArg Host.Outcome.next (if_pos ⟨runs, ok, lost⟩), ?_⟩
    obtain ⟨refOk, refRun, -⟩ := State.refChecked_refs (({ s with tb.refOk := false, tb.refRun := 0, tb.refLock := 0 } : State).raise 0x0102 noInst [])
    refine ⟨by simp [refOk], by simp [refRun], State.raise_refChecked_raised _ _ _ rfl, ?_⟩
    refine KeepsBut.weaken (KeepsBut.after (State.refChecked_keeps _) (KeepsBut.after (State.raise_keepsBut _ _ _ _) (KeepsBut.write_tb (l := [.tb .refOk, .tb .refRun, .tb .refLock]) fun f hf _ _ => by cases f with | refOk | refRun | refLock => simp at hf  | genAll | loopPAll | loopFAll | recFAll => trivial | _ => exact rfl))) ?_
    rw [State.raise_target]
    generalize Battery.target _ = k
    apply Part.Within.checkAt k; rfl
  · refine ⟨_, congrArg Host.Outcome.next (if_pos ⟨runs, good, by simp [ok], by simp [free]⟩), State.refGained_refOk _, ?_⟩
    exact (KeepsBut.after (State.refGained_keeps _) (KeepsBut.write_tb (l := [.tb .refOk]) fun f hf _ _ => by cases f with | refOk => simp at hf  | genAll | loopPAll | loopFAll | recFAll => trivial | _ => exact rfl)).weaken (by exact .check rfl)
  · have exec_eq : exec (.refConflict d) s = .next
        (({ s with tb.conflict := true, tb.refOk := false, tb.refLock := 0 } : State).raise 0x0103 noInst []).refChecked :=
      congrArg Host.Outcome.next ((if_neg (by simp [runs, mode])).trans ((if_neg (by simp [free])).trans (if_pos ⟨pps, ok, far⟩)))
    refine ⟨_, exec_eq, ?_⟩
    obtain ⟨refOk, -, conflict⟩ := State.refChecked_refs (({ s with tb.conflict := true, tb.refOk := false, tb.refLock := 0 } : State).raise 0x0103 noInst [])
    refine ⟨by simp [conflict], by simp [refOk], State.raise_refChecked_raised _ _ _ rfl, ?_⟩
    refine KeepsBut.weaken (KeepsBut.after (State.refChecked_keeps _) (KeepsBut.after (State.raise_keepsBut _ _ _ _) (KeepsBut.write_tb (l := [.tb .conflict, .tb .refOk, .tb .refLock]) fun f hf _ _ => by cases f with | conflict | refOk | refLock => simp at hf  | genAll | loopPAll | loopFAll | recFAll => trivial | _ => exact rfl))) ?_
    rw [State.raise_target]
    generalize Battery.target _ = k
    apply Part.Within.checkAt k; rfl
  · refine ⟨_, congrArg Host.Outcome.next ((if_neg (by simp [runs, mode])).trans (if_pos conflict)), fun high => ?_, fun low idle => ?_,
      State.armWhile_keeps _ _ _ _⟩
    · exact State.armWhile_stopped (decide_eq_false high) _ _ s
    · exact State.armWhile_ends (decide_eq_true low) idle _
  · exact ⟨_, congrArg Host.Outcome.next (if_pos ⟨conflict, due⟩), rfl, State.disarm_deadline _ s,
      (KeepsBut.after (a := s.disarm .conflictClear) (KeepsBut.write_tb (l := [.tb .conflict]) fun f hf _ _ => by cases f with | conflict => simp at hf  | genAll | loopPAll | loopFAll | recFAll => trivial | _ => exact rfl) (State.disarm_keeps _ _)).weaken (by exact .check rfl)⟩

end Sys2Proof.Machine
end

section
/-! PROOFS. The timebase fails and recovers; PPS edges (R85 to R92, R97). -/

namespace Sys2Proof.Machine

/-! ## Failures (R85) -/

/-- What a failure notes of the time of day and of the TCXO. -/
def State.failNoted (xo : Bool) (s : State) : State :=
  { s with tb.validBefore := if s.tb.lock = .timebaseFail then s.tb.validBefore else ¬ s.tb.todInvalid,
           tb.xoFailed := s.tb.xoFailed ∨ xo, tb.todInvalid := s.tb.todInvalid ∨ xo }

/-- A failure's code, its lock state, and the outputs and references that go. -/
def State.failActs (code : Nat) (s : State) : State :=
  ({ ((s.raise code noInst []).setLock .timebaseFail).pwmOff with
      tb.ppsOk := false, tb.refOk := false, tb.cascOk := false, tb.ppsRun := 0, tb.refRun := 0 } : State).disarm .ppsLost

/-- With no loop running and no pair to leave, a failure does that and no more. -/
theorem State.timebaseFail_eq {s : State} (code : Nat) (xo : Bool) (stopped : ∀ l : Fin 8, s.loop[l].running = false) (alone : s.active = false) :
    s.timebaseFail code xo = (s.failNoted xo).failActs code := by
  have parts : s.timebaseFail code xo = State.giveUp code causeGiveUp (State.each (List.finRange 8)
      (fun l s => if s.loop[l].running then (s.loopCut l).loopFault l code else s) ((s.failNoted xo).failActs code)) := rfl
  have loop : ((s.failNoted xo).failActs code).loop = s.loop := by simp [State.failActs, State.pwmOff, State.failNoted]
  have twin : ((s.failNoted xo).failActs code).active = false := by
    simpa [State.failActs, State.pwmOff, State.failNoted, State.active] using alone
  have still (l : Fin 8) : ¬ ((s.failNoted xo).failActs code).loop[l].running = true := by
    rw [loop, stopped]
    exact Bool.false_ne_true
  have calm : State.each (List.finRange 8) (fun l s => if s.loop[l].running then (s.loopCut l).loopFault l code else s)
      ((s.failNoted xo).failActs code) = (s.failNoted xo).failActs code := State.each_self fun l _ => if_neg (still l)
  rw [parts, calm, State.giveUp_of_not_active twin]

theorem State.pwmOff_keeps (s : State) : KeepsBut [.pins .slDriver, .pins .pwmAll] s s.pwmOff :=
  (KeepsBut.write_pins (l := [.pins .slDriver, .pins .pwmAll]) fun f hf hw _ => by cases f with | slDriver => simp at hf | pwm => simp [Part.whole, PinsPart.whole] at hw  | pwmAll | gateAll => trivial | _ => exact rfl)

/-- The parts of `State.failActs`. -/
def Part.failed : List Part :=
  ([.pins .pwmAll, .pins .slDriver, .tb .ppsOk, .tb .refOk, .tb .cascOk, .tb .ppsRun, .tb .refRun, .timer .ppsLost] : List Part) ++ Part.raised ++
    Part.slew ++ Part.lockChange

theorem State.failActs_keeps (code : Nat) (s : State) : KeepsBut Part.failed s (s.failActs code) :=
  (KeepsBut.after (State.disarm_keeps _ _) (KeepsBut.after (a := ((s.raise code noInst []).setLock .timebaseFail).pwmOff)
    (KeepsBut.write_tb (l := [.tb .ppsOk, .tb .refOk, .tb .cascOk, .tb .ppsRun, .tb .refRun]) fun f hf _ _ => by cases f with | ppsOk | refOk | cascOk | ppsRun | refRun => simp at hf  | genAll | loopPAll | loopFAll | recFAll => trivial | _ => exact rfl) (KeepsBut.after (State.pwmOff_keeps _) (KeepsBut.after (State.setLock_keeps _ _) (State.raise_keepsBut _ _ _ _))))).weaken
    (by decide)

theorem State.setLock_lock (x : LockState) (s : State) : (s.setLock x).tb.lock = x := by
  unfold State.setLock
  split
  · assumption
  · rfl

theorem State.failActs_lock (code : Nat) (s : State) : (s.failActs code).tb.lock = .timebaseFail := by
  simp [State.failActs, State.pwmOff, State.setLock_lock]

theorem State.failActs_raised (code : Nat) {s a : State} (h : a.evr = s.evr) : Raised code noInst [] s (a.failActs code) :=
  (State.raise_raised code noInst [] (congrArg Recorder.staging h)).keep (by simp [State.failActs]) (by simp [State.failActs])

/-- The recovery's lock state (R85). -/
theorem State.recoverLock_keeps (s : State) : KeepsBut (Part.holdover s.bat.target ++ ([.tb .xoFailed] : List Part)) s s.recoverLock :=
  KeepsBut.after (a := if s.tb.validBefore ∧ ¬ s.tb.xoFailed then s.enterHoldover else s.enterFreerun) (KeepsBut.write_tb (l := [.tb .xoFailed]) fun f hf _ _ => by cases f with | xoFailed => simp at hf  | genAll | loopPAll | loopFAll | recFAll => trivial | _ => exact rfl)
    (KeepsBut.ite _ s.enterHoldover_keeps (s.enterFreerun_keeps.weaken (by generalize s.bat.target = k; apply Part.Within.checkAt k; rfl)))

theorem State.enterHoldover_lock (s : State) : s.enterHoldover.tb.lock = .holdover := by
  simp [State.enterHoldover, State.setLock_lock]

theorem State.enterFreerun_lock (s : State) : s.enterFreerun.tb.lock = .freerun := State.setLock_lock _ _

theorem State.enterHoldover_holdoverSec (s : State) : Ends .holdoverSec 1000000000 s s.enterHoldover :=
  (State.arm_deadline _ _ _).trans (by simp)

theorem State.enterFreerun_holdoverSec (s : State) : Ends .holdoverSec 1000000000 s s.enterFreerun :=
  (State.arm_deadline _ _ _).trans (by simp)

theorem State.recoverLock_lock (s : State) :
    s.recoverLock.tb.lock = (if s.tb.validBefore = true ∧ s.tb.xoFailed = false then .holdover else .freerun) := by
  show (if s.tb.validBefore ∧ ¬ s.tb.xoFailed then s.enterHoldover else s.enterFreerun).tb.lock = _
  by_cases h : s.tb.validBefore = true ∧ s.tb.xoFailed = false
  · simp [h, State.enterHoldover_lock]
  · rw [if_neg h, if_neg (by simpa using h), State.enterFreerun_lock]

theorem State.recoverLock_holdoverSec (s : State) : Ends .holdoverSec 1000000000 s s.recoverLock := by
  show Ends _ _ s (if s.tb.validBefore ∧ ¬ s.tb.xoFailed then s.enterHoldover else s.enterFreerun)
  split
  · exact s.enterHoldover_holdoverSec
  · exact s.enterFreerun_holdoverSec

/-! ## Actions of a timer, and time of day that moves -/

theorem KeepsBut.trigs (s : State) (v : Vector Trigger 64) : KeepsBut [.evr .trigAll] s { s with evr.trig := v } :=
  (KeepsBut.write_evr (l := [.evr .trigAll]) fun f _ hw _ => by cases f with | trig => simp [Part.whole, RecorderPart.whole] at hw  | winAll | trigAll => trivial | _ => exact rfl)

theorem State.fireTriggers_keeps (p : Fin 64 → Bool) (s : State) : KeepsBut [.evr .trigAll] s (s.fireTriggers p) := KeepsBut.trigs s _

theorem State.driveGpio_keeps (pin : Nat) (level : Bool) (s : State) : KeepsBut [.pins .gpioDir, .pins .gpioOut] s (s.driveGpio pin level) := by
  unfold State.driveGpio
  exact KeepsBut.ite _ (KeepsBut.write_pins (l := [.pins .gpioDir, .pins .gpioOut]) fun f hf _ _ => by cases f with | gpioDir | gpioOut => simp at hf  | pwmAll | gateAll => trivial | _ => exact rfl) (KeepsBut.refl _ s)

/-- The parts of timers' actions. -/
def Part.timerActs : List Part := [.tb .genAll, .eng .dbAll, .pins .spiIrq, .evr .trigAll, .pins .gpioDir, .pins .gpioOut]

theorem State.timerAction_keeps (t : Fin 16) (s : State) : KeepsBut Part.timerActs s (s.timerAction t) := by
  unfold State.timerAction
  dsimp only
  split
  · exact KeepsBut.refl _ s
  · split
    · exact State.ring_keepsBut (by simp [Part.timerActs]) (by simp [Part.timerActs]) _ _ s
    · exact KeepsBut.refl _ s
  · exact (State.fireTriggers_keeps _ s).weaken (by exact .check rfl)
  · split
    · exact (KeepsBut.after (State.modGen_keeps _ _ _) (State.driveGpio_keeps _ _ s)).weaken (by apply Part.Within.checkAt t; rfl)
    · exact KeepsBut.refl _ s

theorem State.timerExpire_keeps (t : Fin 16) (s : State) : KeepsBut Part.timerActs s (s.timerExpire t) :=
  (KeepsBut.after (State.timerAction_keeps t _) (State.modGen_keeps t _ s)).weaken (by apply Part.Within.checkAt t; rfl)

/-- The time of day and the last edge's instant, moved. -/
def State.todMoved (d : Int) (s : State) : State :=
  { s with tb.tod := ((s.tb.tod : Int) + d).toNat, tb.ppsLast := s.tb.ppsLast.map fun p => p + (d : Rat) }

/-- Alarms that the time of day has passed fire. -/
def State.alarmsPassed (s : State) : State :=
  State.each (List.finRange 16) (fun t => fun s => if s.tb.gen[t].setting.mode = .alarm ∧ s.timerDue t then s.timerExpire t else s) s

theorem State.todShift_eq (d : Int) (s : State) : s.todShift d = (s.todMoved d).alarmsPassed := rfl

theorem State.todMoved_keeps (d : Int) (s : State) : KeepsBut [.tb .tod, .tb .ppsLast] s (s.todMoved d) :=
  (KeepsBut.write_tb (l := [.tb .tod, .tb .ppsLast]) fun f hf _ _ => by cases f with | tod | ppsLast => simp at hf  | genAll | loopPAll | loopFAll | recFAll => trivial | _ => exact rfl)

theorem State.alarmsPassed_keeps (s : State) : KeepsBut Part.timerActs s s.alarmsPassed :=
  KeepsBut.each (fun t s => KeepsBut.ite _ (s.timerExpire_keeps t) (KeepsBut.refl _ s)) _ s

theorem State.todShift_keeps (d : Int) (s : State) : KeepsBut (([.tb .tod, .tb .ppsLast] : List Part) ++ Part.timerActs) s (s.todShift d) :=
  (s.todMoved_keeps d).append (State.alarmsPassed_keeps _)

theorem State.todShift_tod (d : Int) (s : State) : (s.todShift d).tb.tod = ((s.tb.tod : Int) + d).toNat := by
  rw [State.todShift_eq]
  exact (State.alarmsPassed_keeps (s.todMoved d)).get (.tb .tod) rfl

/-- The parts of a time of day that an edge loads. -/
def Part.loaded : List Part := ([.tb .tod, .tb .ppsLast, .tb .todNext, .tb .todLoaded, .tb .todUnset, .tb .todInvalid] : List Part) ++ Part.timerActs

/-- The time of day is set and valid, and no value waits for an edge. -/
def State.todSet (s : State) : State := { s with tb.todNext := none, tb.todLoaded := true, tb.todUnset := false, tb.todInvalid := false }

theorem State.todSet_keeps (s : State) : KeepsBut [.tb .todNext, .tb .todLoaded, .tb .todUnset, .tb .todInvalid] s s.todSet :=
  (KeepsBut.write_tb (l := [.tb .todNext, .tb .todLoaded, .tb .todUnset, .tb .todInvalid]) fun f hf _ _ => by cases f with | todNext | todLoaded | todUnset | todInvalid => simp at hf  | genAll | loopPAll | loopFAll | recFAll => trivial | _ => exact rfl)

theorem State.todLoad_of_some {v : Nat} {s : State} (h : s.tb.todNext = some v) (t : Rat) :
    s.todLoad t = (s.todShift ((v : Int) - roundEven (t / 25000) * 25000)).todSet := by
  simp only [State.todLoad, h]
  rfl

theorem State.todLoad_of_none {s : State} (h : s.tb.todNext = none) (t : Rat) : s.todLoad t = s := by
  simp only [State.todLoad, h]

theorem State.todLoad_keeps (t : Rat) (s : State) : KeepsBut Part.loaded s (s.todLoad t) := by
  cases h : s.tb.todNext with
  | none => exact (State.todLoad_of_none h t).symm ▸ KeepsBut.refl _ s
  | some v => exact (State.todLoad_of_some h t).symm ▸ ((State.todShift_keeps _ s).append (State.todSet_keeps _)).weaken (by exact .check rfl)

/-! ## Edges (R87, R91, R92) -/

theorem State.slewBy_keeps (err : Rat) (s : State) : KeepsBut [.tb .slewLeft, .tb .slewOff, .tb .slewEnd, .tb .steering] s (s.slewBy err) := by
  unfold State.slewBy
  dsimp only
  exact KeepsBut.ite _ (s.slewStop_keeps.weaken (by exact .check rfl)) (KeepsBut.write_tb (l := [.tb .slewLeft, .tb .slewOff, .tb .slewEnd, .tb .steering]) fun f hf _ _ => by cases f with | slewLeft | slewOff | slewEnd | steering => simp at hf  | genAll | loopPAll | loopFAll | recFAll => trivial | _ => exact rfl)

theorem State.correctPhase_keeps (err : Rat) (s : State) :
    KeepsBut [.tb .stepPending, .tb .slewLeft, .tb .slewOff, .tb .slewEnd, .tb .steering] s (s.correctPhase err) :=
  KeepsBut.after (State.slewBy_keeps _ _) (KeepsBut.write_tb (l := [.tb .stepPending]) fun f hf _ _ => by cases f with | stepPending => simp at hf  | genAll | loopPAll | loopFAll | recFAll => trivial | _ => exact rfl)

/-- The parts of steering by an edge. -/
def Part.steered : List Part :=
  ([.tb .lockRun, .tb .stepPending, .tb .slewLeft, .tb .slewOff, .tb .slewEnd, .tb .steering, .tb .freqCorr, .tb .steerHist] : List Part) ++
    Part.lockChange

theorem State.ppsSteer_keeps (err : Rat) (next : Bool) (s : State) : KeepsBut Part.steered s (s.ppsSteer err next) := by
  unfold State.ppsSteer
  refine KeepsBut.weaken (.afterIf (State.lockNow_keeps _) (.afterIf (State.steerTo_keeps _ _ _ _)
    (KeepsBut.after (KeepsBut.ite _ (State.correctPhase_keeps _ _) ((State.slewStop_keeps _).weaken ?_)) (KeepsBut.write_tb (l := [.tb .lockRun]) fun f hf _ _ => by cases f with | lockRun => simp at hf  | genAll | loopPAll | loopFAll | recFAll => trivial | _ => exact rfl)))) ?_
  · exact .check rfl
  · exact .check rfl

/-- An edge in its window is noted: the run, the seconds missed, its instant, and the 3 s of its loss. -/
def State.edgeNoted (t : Rat) (k : Nat) (s : State) : State :=
  ({ s with
    tb.discarded := s.tb.discarded + BitVec.ofNat 32 (k - 1 - s.tb.ppsSkipped), tb.ppsSkipped := 0,
    tb.ppsRun := if k = 1 then satInc 255 s.tb.ppsRun else 1, tb.ppsLast := some t } : State).arm .ppsLost 3000000000

theorem State.edgeNoted_keeps (t : Rat) (k : Nat) (s : State) :
    KeepsBut [.tb .discarded, .tb .ppsSkipped, .tb .ppsRun, .tb .ppsLast, .timer .ppsLost] s (s.edgeNoted t k) :=
  KeepsBut.after (State.arm_keeps _ _ _) (KeepsBut.write_tb (l := [.tb .discarded, .tb .ppsSkipped, .tb .ppsRun, .tb .ppsLast]) fun f hf _ _ => by cases f with | discarded | ppsSkipped | ppsRun | ppsLast => simp at hf  | genAll | loopPAll | loopFAll | recFAll => trivial | _ => exact rfl)

/-- The frequency error that an edge measures against the one before. -/
def State.edgeFreq (t : Rat) (k : Nat) (s : State) : Option Rat :=
  match s.tb.ppsLast with
  | some p => if k = 0 ∨ 3 < k then none else some ((t - p) / ((k : Nat) * 1000000000) - 1 - s.tb.slewOff)
  | none => none

/-- The frequency error is taken where PPS steers it. -/
def State.edgeMeasured (fe : Option Rat) (s : State) : State :=
  match fe with
  | some fe => if s.ppsSteers then s.measuredFreq fe else s
  | none => s

theorem State.edgeMeasured_keeps (fe : Option Rat) (s : State) : KeepsBut [.tb .freqErr, .tb .phaseStage] s (s.edgeMeasured fe) := by
  unfold State.edgeMeasured
  split
  · exact KeepsBut.ite _ (State.measuredFreq_keeps _ s) (KeepsBut.refl _ s)
  · exact KeepsBut.refl _ s

/-- The phase error of an edge is kept, and steers where PPS carries phase. -/
def State.edgeSteers (k : Nat) (err : Rat) (s : State) : State :=
  let s : State := { s with tb.phaseErr := err / 1000000000 }
  if s.ppsPhase ∧ s.steersItself ∧ s.tb.ppsOk ∧ (s.tb.lock = .acquire ∨ s.tb.lock = .locked) then s.ppsSteer err (k = 1) else s

theorem State.edgeSteers_keeps (k : Nat) (err : Rat) (s : State) : KeepsBut (([.tb .phaseErr] : List Part) ++ Part.steered) s (s.edgeSteers k err) :=
  KeepsBut.afterIf (State.ppsSteer_keeps _ _ _) (KeepsBut.write_tb (l := [.tb .phaseErr]) fun f hf _ _ => by cases f with | phaseErr => simp at hf  | genAll | loopPAll | loopFAll | recFAll => trivial | _ => exact rfl)

theorem State.edgeSteers_phaseErr (k : Nat) (err : Rat) (s : State) : (s.edgeSteers k err).tb.phaseErr = err / 1000000000 :=
  (KeepsBut.ite _ (State.ppsSteer_keeps err (k = 1) _) (KeepsBut.refl _ _) :
    KeepsBut Part.steered { s with tb.phaseErr := err / 1000000000 } (s.edgeSteers k err)).get (.tb .phaseErr) rfl

theorem State.ppsTake_eq (t : Rat) (k : Nat) (s : State) :
    s.ppsTake t k = (((s.edgeNoted t k).todLoad t).edgeMeasured (s.edgeFreq t k)).edgeSteers k
      ((((s.edgeNoted t k).todLoad t).edgeMeasured (s.edgeFreq t k)).ppsError
        ((((s.edgeNoted t k).todLoad t).edgeMeasured (s.edgeFreq t k)).tb.ppsLast.getD t)) := rfl

/-- What an edge in its window leaves once it is noted and the time of day is loaded. -/
theorem State.edge_keeps (fe : Option Rat) (k : Nat) (err : Rat) (b : State) :
    KeepsBut (([.tb .freqErr, .tb .phaseStage, .tb .phaseErr] : List Part) ++ Part.steered) b ((b.edgeMeasured fe).edgeSteers k err) :=
  (KeepsBut.after (State.edgeSteers_keeps k err _) (State.edgeMeasured_keeps fe b)).weaken (by exact .check rfl)

theorem State.ppsTake_keeps (t : Rat) (k : Nat) (s : State) :
    KeepsBut (([.tb .discarded, .tb .ppsSkipped, .tb .ppsRun, .tb .ppsLast, .timer .ppsLost, .tb .freqErr, .tb .phaseStage, .tb .phaseErr] : List Part) ++
      Part.loaded ++ Part.steered) s (s.ppsTake t k) := by
  rw [State.ppsTake_eq]
  exact (KeepsBut.after (State.edge_keeps _ _ _ _) (KeepsBut.after (State.todLoad_keeps t _) (s.edgeNoted_keeps t k))).weaken (by exact .check rfl)

theorem State.ppsTake_run (t : Rat) (k : Nat) (s : State) :
    (s.ppsTake t k).tb.ppsRun = (if k = 1 then satInc 255 s.tb.ppsRun else 1) ∧ Ends .ppsLost 3000000000 s (s.ppsTake t k) ∧
      (s.ppsTake t k).tb.ppsSkipped = 0 ∧ (s.ppsTake t k).tb.discarded = s.tb.discarded + BitVec.ofNat 32 (k - 1 - s.tb.ppsSkipped) := by
  rw [State.ppsTake_eq]
  have late := (State.todLoad_keeps t (s.edgeNoted t k)).append (State.edge_keeps (s.edgeFreq t k) k
    ((((s.edgeNoted t k).todLoad t).edgeMeasured (s.edgeFreq t k)).ppsError
        ((((s.edgeNoted t k).todLoad t).edgeMeasured (s.edgeFreq t k)).tb.ppsLast.getD t)) _)
  exact ⟨late.get (.tb .ppsRun) rfl, (late.get (.timer .ppsLost) rfl).trans (State.arm_deadline _ _ _),
    late.get (.tb .ppsSkipped) rfl, late.get (.tb .discarded) rfl⟩

/-- What an edge leaves of a time of day that was set. -/
theorem State.edge_todSet (fe : Option Rat) (k : Nat) (err : Rat) (a : State) :
    ((a.todSet.edgeMeasured fe).edgeSteers k err).tb.tod = a.tb.tod ∧ ((a.todSet.edgeMeasured fe).edgeSteers k err).tb.todNext = none ∧
      ((a.todSet.edgeMeasured fe).edgeSteers k err).tb.todUnset = false ∧ ((a.todSet.edgeMeasured fe).edgeSteers k err).tb.todInvalid = false ∧
      ((a.todSet.edgeMeasured fe).edgeSteers k err).tb.todLoaded = true := by
  have late := State.edge_keeps fe k err a.todSet
  exact ⟨late.get (.tb .tod) rfl, late.get (.tb .todNext) rfl, late.get (.tb .todUnset) rfl,
    late.get (.tb .todInvalid) rfl, late.get (.tb .todLoaded) rfl⟩

/-- The time of day written for an edge is loaded. -/
theorem State.ppsTake_of_some {v : Nat} {s : State} (h : s.tb.todNext = some v) (t : Rat) (k : Nat) :
    (s.ppsTake t k).tb.tod = ((s.tb.tod : Int) + ((v : Int) - roundEven (t / 25000) * 25000)).toNat ∧ (s.ppsTake t k).tb.todNext = none ∧
      (s.ppsTake t k).tb.todUnset = false ∧ (s.ppsTake t k).tb.todInvalid = false ∧ (s.ppsTake t k).tb.todLoaded = true := by
  rw [State.ppsTake_eq, State.todLoad_of_some (s := s.edgeNoted t k) h]
  have shifted : ((s.edgeNoted t k).todShift ((v : Int) - roundEven (t / 25000) * 25000)).tb.tod =
    ((s.tb.tod : Int) + ((v : Int) - roundEven (t / 25000) * 25000)).toNat := State.todShift_tod _ _
  rw [← shifted]
  exact State.edge_todSet _ _ _ _

theorem State.ppsError_congr {s t : State} (loaded : t.tb.todLoaded = s.tb.todLoaded) (invalid : t.tb.todInvalid = s.tb.todInvalid) :
    t.ppsError = s.ppsError := by
  funext x
  simp only [State.ppsError, loaded, invalid]

/-- Without one the time of day stands, and the edge's phase error is kept. -/
theorem State.ppsTake_of_none {s : State} (h : s.tb.todNext = none) (t : Rat) (k : Nat) :
    (s.ppsTake t k).tb.tod = s.tb.tod ∧ (s.ppsTake t k).tb.ppsLast = some t ∧ (s.ppsTake t k).tb.phaseErr = s.ppsError t / 1000000000 := by
  rw [State.ppsTake_eq, State.todLoad_of_none (s := s.edgeNoted t k) h]
  have measured := (s.edgeNoted t k).edgeMeasured_keeps (s.edgeFreq t k)
  have last : ((s.edgeNoted t k).edgeMeasured (s.edgeFreq t k)).tb.ppsLast = some t := measured.get (.tb .ppsLast) rfl
  have error : ((s.edgeNoted t k).edgeMeasured (s.edgeFreq t k)).ppsError = s.ppsError :=
    State.ppsError_congr (measured.get (.tb .todLoaded) rfl) (measured.get (.tb .todInvalid) rfl)
  rw [last, error]
  have late := State.edge_keeps (s.edgeFreq t k) k (s.ppsError t) (s.edgeNoted t k)
  exact ⟨late.get (.tb .tod) rfl, late.get (.tb .ppsLast) rfl, State.edgeSteers_phaseErr _ _ _⟩

theorem exec_ppsEdge_eq {s : State} (runs : s.tbRuns = true) (there : s.tb.ppsOk = false ∨ s.due .ppsLost = false) (x : Rat) :
    exec (.ppsEdge x) s = .next (match s.ppsSeconds (interpolated (x - s.real 0x2100 2 * 1000000000)) with
      | none => { s with tb.discarded := bump s.tb.discarded, tb.ppsSkipped := s.tb.ppsSkipped + 1, tb.ppsRun := 0, tb.lockRun := 0 }
      | some k => s.ppsTake (interpolated (x - s.real 0x2100 2 * 1000000000)) k) := by
  have kept : ¬ (s.tb.ppsOk = true ∧ s.due .ppsLost = true) := fun h => by
    rcases there with ok | due
    · simp [ok] at h
    · simp [due] at h
  show execPpsEdge x s = _
  unfold execPpsEdge
  dsimp only
  rw [if_neg (by simp [runs]), if_neg kept] <;> rfl

/-! ## PPS_IN is qualified and lost -/

theorem State.refGained_lock {s : State} (free : s.tb.lock = .freerun) (ok : s.refsOk = true) : s.refGained.tb.lock = .acquire := by
  unfold State.refGained
  rw [if_pos ⟨.inl free, ok⟩]
  exact State.setLock_lock _ s

theorem State.refChecked_lock {s : State} (locked : s.tb.lock = .locked) (lost : s.refsOk = false) : s.refChecked.tb.lock = .holdover := by
  unfold State.refChecked
  simp [locked, lost, State.enterHoldover_lock]

/-- PPS_IN that is lost, before the lock state is judged. -/
def State.ppsGone (s : State) : State := ({ s.disarm .ppsLost with tb.ppsOk := false, tb.ppsRun := 0, tb.lockRun := 0 } : State).slewStop

theorem State.ppsLoss_eq (s : State) : s.ppsLoss = (s.ppsGone.raise 0x0101 noInst []).refChecked := rfl

theorem State.setLock_slewOff {s : State} (still : s.tb.slewOff = 0) (x : LockState) : (s.setLock x).tb.slewOff = 0 := by
  unfold State.setLock
  split
  · exact still
  · dsimp only
    split
    · exact still
    · rfl

/-- Where no slew goes on, none does after the loss of a reference. -/
theorem State.refChecked_slewOff {s : State} (still : s.tb.slewOff = 0) : s.refChecked.tb.slewOff = 0 := by
  unfold State.refChecked
  split
  · simp [State.enterFreerun, State.setLock_slewOff still]
  · simp [State.enterHoldover, State.setLock_slewOff still]
  · exact still
  · exact still

theorem State.ppsGone_keeps (s : State) :
    KeepsBut (([.timer .ppsLost, .tb .ppsOk, .tb .ppsRun, .tb .lockRun] : List Part) ++ Part.slew) s s.ppsGone :=
  KeepsBut.after (State.slewStop_keeps _) (KeepsBut.after (a := s.disarm .ppsLost) (KeepsBut.write_tb (l := [.tb .ppsOk, .tb .ppsRun, .tb .lockRun]) fun f hf _ _ => by cases f with | ppsOk | ppsRun | lockRun => simp at hf  | genAll | loopPAll | loopFAll | recFAll => trivial | _ => exact rfl) (State.disarm_keeps _ _))

/-- Settles O2: failures, recovery, edges and their loss, each by what its operations change. -/
theorem timebaseFailsRecoversAndFollowsPps : Obligations.TimebaseFailsRecoversAndFollowsPps := by
  unfold Obligations.TimebaseFailsRecoversAndFollowsPps
  refine ⟨fun s out stopped alone => ?_, fun s out stopped alone => ?_, fun s fail out => ?_, fun x s runs there outside => ?_,
    fun x k s runs there inside => ?_, fun s runs ten ok => ?_, fun s runs ok due => ?_⟩
  · have noted : KeepsBut [.tb .validBefore, .tb .xoFailed, .tb .todInvalid] s (s.failNoted true) := (KeepsBut.write_tb (l := [.tb .validBefore, .tb .xoFailed, .tb .todInvalid]) fun f hf _ _ => by cases f with | validBefore | xoFailed | todInvalid => simp at hf  | genAll | loopPAll | loopFAll | recFAll => trivial | _ => exact rfl)
    have acts := (s.failNoted true).failActs_keeps 0x0107
    refine ⟨_, (congrArg Host.Outcome.next (if_pos out)).trans (congrArg Host.Outcome.next (State.timebaseFail_eq _ _ stopped alone)),
      State.failActs_lock _ _, (acts.get (.tb .xoFailed) rfl).trans (by simp [State.failNoted]),
      (acts.get (.tb .todInvalid) rfl).trans (by simp [State.failNoted]), rfl, rfl, rfl, rfl, State.failActs_raised _ rfl,
      (noted.append acts).weaken (by exact .check rfl)⟩
  · have noted : s.failNoted false = { s with tb.validBefore := if s.tb.lock = .timebaseFail then s.tb.validBefore else ¬ s.tb.todInvalid } := by
      simp [State.failNoted]
    have acts := (s.failNoted false).failActs_keeps 0x0106
    refine ⟨_, (congrArg Host.Outcome.next (if_pos out)).trans (congrArg Host.Outcome.next (State.timebaseFail_eq _ _ stopped alone)),
      State.failActs_lock _ _, (acts.get (.tb .xoFailed) rfl).trans (by simp [State.failNoted]),
      (acts.get (.tb .todInvalid) rfl).trans (by simp [State.failNoted]), rfl, rfl, rfl, rfl, State.failActs_raised _ rfl, ?_⟩
    rw [noted]
    exact (KeepsBut.after (State.failActs_keeps _ _) (KeepsBut.write_tb (l := [.tb .validBefore]) fun f hf _ _ => by cases f with | validBefore => simp at hf  | genAll | loopPAll | loopFAll | recFAll => trivial | _ => exact rfl)).weaken (by exact .check rfl)
  · exact ⟨_, congrArg Host.Outcome.next (if_pos ⟨fail, out⟩), s.recoverLock_lock, rfl, s.recoverLock_holdoverSec,
      s.recoverLock_keeps.weaken (by generalize s.bat.target = k; apply Part.Within.checkAt k; rfl)⟩
  · refine ⟨_, exec_ppsEdge_eq runs there x, ?_⟩
    rw [outside]
  · refine ⟨_, exec_ppsEdge_eq runs there x, ?_⟩
    rw [inside]
    obtain ⟨run, loss, skipped, discarded⟩ := s.ppsTake_run (interpolated (x - s.real 0x2100 2 * 1000000000)) k
    refine ⟨run, loss, skipped, discarded, ?_, (State.ppsTake_keeps _ _ _).weaken (by exact .check rfl)⟩
    split
    next v next => exact State.ppsTake_of_some next _ _
    next next => exact State.ppsTake_of_none next _ _
  · refine ⟨_, congrArg Host.Outcome.next (if_pos ⟨runs, ten, by simp [ok]⟩), ?_, fun free mode => ?_,
      (KeepsBut.after (State.refGained_keeps _) (KeepsBut.write_tb (l := [.tb .ppsOk]) fun f hf _ _ => by cases f with | ppsOk => simp at hf  | genAll | loopPAll | loopFAll | recFAll => trivial | _ => exact rfl)).weaken (by exact .check rfl)⟩
    · exact (State.refGained_keeps _).get (.tb .ppsOk) rfl
    · refine State.refGained_lock free ?_
      have same : State.raw { s with tb.ppsOk := true } = s.raw := State.raw_congr rfl rfl rfl rfl
      simp [State.refsOk, same, mode]
  · have gone := s.ppsGone_keeps
    have raised := State.raise_keepsBut 0x0101 noInst [] s.ppsGone
    have checked := (s.ppsGone.raise 0x0101 noInst []).refChecked_keeps
    rw [State.raise_target, show s.ppsGone.bat.target = s.bat.target by rfl] at checked
    have inner {p : Part} (h : ∀ k, Part.outside (Part.holdover k ++ Part.raised) p = true) :
        p.same (s.ppsGone.raise 0x0101 noInst []) s.ppsLoss := checked.get p (h _)
    have off : (s.ppsGone.raise 0x0101 noInst []).tb.ppsOk = false := raised.get (.tb .ppsOk) rfl
    refine ⟨_, congrArg Host.Outcome.next (if_pos ⟨runs, ok, due⟩), (inner (p := .tb .ppsOk) fun _ => rfl).trans off,
      (inner (p := .tb .ppsRun) fun _ => rfl).trans (raised.get (.tb .ppsRun) rfl),
      State.refChecked_slewOff (raised.get (.tb .slewOff) rfl), ?_, fun locked mode => ?_, State.raise_refChecked_raised _ _ _ rfl,
      ((gone.append raised).append checked).weaken (by generalize s.bat.target = k; apply Part.Within.checkAt k; rfl)⟩
    · exact (inner (p := .timer .ppsLost) fun _ => rfl).trans
        ((raised.get (.timer .ppsLost) rfl).trans (State.disarm_deadline .ppsLost s))
    · have same : State.raw s.ppsGone = s.raw := State.raw_congr rfl rfl rfl rfl
      have lost : (s.ppsGone.raise 0x0101 noInst []).refsOk = false := by
        unfold State.refsOk
        rw [State.raise_raw, same, mode]
        exact off
      exact State.refChecked_lock ((raised.get (.tb .lock) rfl).trans locked) lost

end Sys2Proof.Machine
end

section
/-! PROOFS. The crystal model, the time of day's write, and the general timers (R93 to R104). -/

namespace Sys2Proof.Machine

/-! ## Writes of an object -/

/-- A write that passes every check and is not forwarded has its object's effect, and is answered. -/
theorem State.writeBy_local {w : Session} {idx sub : Nat} {d : List Byte} {o : ObjWrite} {s : State} (a : s.admits w idx sub d = true)
    (here : forwards idx sub = false) (own : (idx == 0x1010) = false) (hi : o.invalid (s.touch w) d = none) (hb : o.busy (s.touch w) d = none)
    (hl : o.badLength d = false) (hr : o.reply (s.touch w) d = none) :
    s.writeBy w idx sub d o = (o.effect (some w) d (s.touch w)).answer w .done := by
  rw [State.writeBy_done a hb hl hi hr, State.forward_none here, if_neg (by simpa using own)]

/-- What such a write changes beside its effect: the session's answer and its idle time. -/
theorem KeepsBut.write {l : List Part} {w : Session} {s t : State} (h : KeepsBut l (s.touch w) t) (x : Answer) :
    KeepsBut (([.net (.sess (sessIx w)), .timer (.sessIdle (sessIx w))] : List Part) ++ l) s (t.answer w x) := by
  intro p hp hw
  simp only [List.mem_append, not_or, List.mem_cons, List.not_mem_nil, not_false_eq_true, and_true] at hp hw
  refine Part.same_trans ((s.touch_keeps w) p ?_ ?_) (Part.same_trans (h p hp.2 hw.2) (State.answer_keeps w x t p ?_ ?_))
  · simpa using hp.1.2
  · simpa using hw.1.2
  · simpa using hp.1.1
  · simpa using hw.1.1

/-! ## The model -/

theorem exec_modelLearnSample_of_locked {rate : Rat} {s : State} (locked : s.tb.lock = .locked) (slow : absR rate ≤ 10)
    (near : absR s.tb.phaseErr ≤ 1 / 10000000) (seen : s.tb.model.samples ≠ 0) :
    ∃ c a, exec (.modelLearnSample rate) s = .next { s with tb.model := { s.tb.model with
      learnTime := s.tb.model.learnTime + 10, spanLo := min s.tb.model.spanLo s.oscTemp, spanHi := max s.tb.model.spanHi s.oscTemp,
      samples := s.tb.model.samples + 1, c := c, a := a } } := by
  have runs : ¬ (s.tb.lock ≠ .locked ∨ 10 < absR rate ∨ 1 / 10000000 < absR s.tb.phaseErr) := by
    rintro (h | h | h)
    · exact h locked
    · exact absurd h (not_lt.2 slow)
    · exact absurd h (not_lt.2 near)
  show ∃ c a, execModelLearnSample rate s = _
  unfold execModelLearnSample
  rw [if_neg runs]
  simp only [if_neg seen]
  exact ⟨_, _, rfl⟩

theorem State.modelCleared_keeps (s : State) : KeepsBut [.tb .model, .bat .writeData, .bat .copiesAll] s
    { s with tb.model := {}, bat.copies := s.bat.copies.map fun c => c.map fun c => { c with model := none },
             bat.writeData := s.bat.writeData.map fun c => { c with model := none } } :=
  (KeepsBut.of_pieces (l := [.tb .model, .bat .writeData, .bat .copiesAll]) { State.Pieces.refl with tb_ := fun f hf _ _ => by cases f with | model => simp at hf  | genAll | loopPAll | loopFAll | recFAll => trivial | _ => exact rfl, bat_ := fun f hf hw _ => by cases f with | writeData => simp at hf | copies => simp [Part.whole, BatteryPart.whole] at hw  | strAll | copiesAll => trivial | _ => exact rfl })

/-- A write of the model is due. -/
def State.modelAwaited (s : State) : State := { s with bat.modelDue := true }

theorem State.modelAwaited_keeps (s : State) : KeepsBut [.bat .modelDue] s s.modelAwaited := (KeepsBut.write_bat (l := [.bat .modelDue]) fun f hf _ _ => by cases f with | modelDue => simp at hf  | strAll | copiesAll => trivial | _ => exact rfl)

theorem State.modelAwaited_target (s : State) : s.modelAwaited.bat.target = s.bat.target := rfl

theorem State.learnWrite_deferred {s : State} (busy : s.pins.brownWarn = true ∨ s.bat.writing.isSome = true) :
    s.learnWrite = { s with bat.deferred := true } := if_pos busy

/-- The write that begins, of the target copy. -/
def State.learningBegun (s : State) : State :=
  { s with bat.writing := some s.bat.target, bat.writeData := some s.learnedCopy, bat.copies := s.bat.copies.set s.bat.target none,
           bat.deferred := false, bat.modelDue := false }

theorem State.learnWrite_begins {s : State} (free : ¬ (s.pins.brownWarn = true ∨ s.bat.writing.isSome = true)) :
    s.learnWrite = s.learningBegun.arm .learnedWrite 1000000 := if_neg free

/-- A second of holdover: the word, the time and the bound of the error. -/
def State.secondHeld (slow : Bool) (s : State) : State :=
  let s := (s.arm .holdoverSec 1000000000).steerTo 1 (s.predictNow + s.tb.alignTerm) true
  let s : State := { s with tb.holdoverTime := s.tb.holdoverTime + 1 }
  { s with tb.errBound := s.tb.errBound + s.secondBound slow }

/-- The limit's record, once. -/
def State.limitJudged (s : State) : State :=
  if s.real 0x2100 7 < s.tb.errBound ∧ ¬ s.tb.limitRaised then ({ s with tb.limitRaised := true } : State).raise 0x0105 noInst [] else s

theorem exec_holdoverSteer_of_holdover {slow : Bool} {s : State} (due : s.due .holdoverSec = true) (runs : s.tbRuns = true)
    (own : s.steersItself = true) (held : s.tb.lock = .holdover) : exec (.holdoverSteer slow) s = .next (s.secondHeld slow).limitJudged := by
  show execHoldoverSteer slow s = _
  unfold execHoldoverSteer
  rw [if_neg (by simp [due, runs, own]), held]
  rfl

theorem State.secondHeld_keeps (slow : Bool) (s : State) :
    KeepsBut [.timer .holdoverSec, .tb .freqCorr, .tb .steering, .tb .steerHist, .tb .holdoverTime, .tb .errBound] s (s.secondHeld slow) :=
  KeepsBut.after (a := (s.arm .holdoverSec 1000000000).steerTo 1 (s.predictNow + s.tb.alignTerm) true) (KeepsBut.write_tb (l := [.tb .holdoverTime, .tb .errBound]) fun f hf _ _ => by cases f with | holdoverTime | errBound => simp at hf  | genAll | loopPAll | loopFAll | recFAll => trivial | _ => exact rfl)
    (KeepsBut.after (State.steerTo_keeps _ _ _ _) (State.arm_keeps _ _ _))

theorem State.limitJudged_keeps (s : State) : KeepsBut (([.tb .limitRaised] : List Part) ++ Part.raised) s s.limitJudged :=
  KeepsBut.ite _ (KeepsBut.after (State.raise_keepsBut _ _ _ _) (KeepsBut.write_tb (l := [.tb .limitRaised]) fun f hf _ _ => by cases f with | limitRaised => simp at hf  | genAll | loopPAll | loopFAll | recFAll => trivial | _ => exact rfl)) (KeepsBut.refl _ s)

/-! ## Timers -/

theorem exec_timerExpiry_of_due {k : Fin 16} {s : State} (runs : s.tbRuns = true) (due : s.timerDue k = true) :
    exec (.timerExpiry k none) s = .next (s.timerExpire k) :=
  congrArg Host.Outcome.next ((if_neg (by simp [runs])).trans (if_pos due))

theorem exec_timerExpiry_none {k : Fin 16} {s : State} (early : s.timerDue k = false) : exec (.timerExpiry k none) s = .next s := by
  show Host.Outcome.next (if ¬ s.tbRuns then s else if s.timerDue k then s.timerExpire k else s) = _
  simp [early]

/-- A timer's action is that of its setting, which an expiry leaves. -/
theorem State.timerExpire_eq (k : Fin 16) (s : State) :
    s.timerExpire k = (s.modGen k fun y => match y.setting.mode with
      | .periodic => { y with count := y.setting.value }
      | .alarm => { y with fired := some y.setting.value }
      | _ => { y with armed := false }).timerAction k := rfl

theorem State.modGen_gen (k : Fin 16) (f : GenTimer → GenTimer) (s : State) : (s.modGen k f).tb.gen = s.tb.gen.set k (f s.tb.gen[k]) := rfl

theorem State.timerAction_none {k : Fin 16} {s : State} (h : s.tb.gen[k].setting.action = .none) : s.timerAction k = s := by
  unfold State.timerAction
  dsimp only
  rw [h]

theorem State.timerExpire_alarm {k : Fin 16} {s : State} (mode : s.tb.gen[k].setting.mode = .alarm) (action : s.tb.gen[k].setting.action = .none) :
    s.timerExpire k = s.modGen k fun y => { y with fired := some y.setting.value } := by
  have fired : (s.modGen k fun y => match y.setting.mode with
      | .periodic => { y with count := y.setting.value }
      | .alarm => { y with fired := some y.setting.value }
      | _ => { y with armed := false }) = s.modGen k fun y => { y with fired := some y.setting.value } := by
    unfold State.modGen
    dsimp only
    rw [mode]
  rw [State.timerExpire_eq, fired]
  exact State.timerAction_none (by simpa [State.modGen] using action)

theorem State.timerAction_doorbell {k : Fin 16} {b : Fin 32} {i : Fin 11} {s : State} (h : s.tb.gen[k].setting.action = .doorbell b)
    (owner : identIx s.tb.gen[k].setting.owner = some i) : s.timerAction k = s.ring i b := by
  unfold State.timerAction
  dsimp only
  rw [h]
  dsimp only
  rw [owner]

theorem vector_set_eq {α : Type} {n : Nat} (v : Vector α n) (i : Fin n) (x : α) : (v.set i x)[i] = x := by
  simp

/-- Settles O4: each command's effect by the operation that it runs. -/
theorem modelHoldoverTimeOfDayAndTimers : Obligations.ModelHoldoverTimeOfDayAndTimers := by
  unfold Obligations.ModelHoldoverTimeOfDayAndTimers
  refine ⟨fun rate s locked slow near seen => ?_, fun s locked => ?_, fun slow s due runs own held => ?_, fun w d s admitted whole => ?_,
    fun w d s admitted => ?_, fun k i b s runs due mode action owner => ?_, fun k s runs due mode action => ?_,
    fun k s early => ⟨_, exec_timerExpiry_none early, rfl⟩, fun k x s runs early fits => ?_, fun k rising s runs mode pin edge => ?_⟩
  · obtain ⟨c, a, done⟩ := exec_modelLearnSample_of_locked locked slow near seen
    exact ⟨_, done, rfl, rfl, rfl, rfl, rfl, (KeepsBut.write_tb (l := [.tb .model]) fun f hf _ _ => by cases f with | model => simp at hf  | genAll | loopPAll | loopFAll | recFAll => trivial | _ => exact rfl).weaken (by exact .check rfl)⟩
  · refine ⟨s.modelAwaited.learnWrite, congrArg Host.Outcome.next (if_pos locked), ?_, ?_⟩
    · by_cases busy : s.pins.brownWarn = true ∨ s.bat.writing.isSome = true
      · rw [if_pos busy, State.learnWrite_deferred (s := s.modelAwaited) busy]
        exact ⟨rfl, rfl, rfl⟩
      · rw [if_neg busy, State.learnWrite_begins (s := s.modelAwaited) busy]
        exact ⟨rfl, rfl, State.arm_deadline _ _ _⟩
    · exact (KeepsBut.after (State.learnWrite_keeps _) s.modelAwaited_keeps).weaken (by simp [Part.Within, Part.learning, State.modelAwaited_target])
  · obtain ⟨time, bound⟩ : (s.secondHeld slow).tb.holdoverTime = s.tb.holdoverTime + 1 ∧ (s.secondHeld slow).tb.errBound =
      s.tb.errBound + State.secondBound { s with tb.holdoverTime := s.tb.holdoverTime + 1 } slow := ⟨rfl, rfl⟩
    refine ⟨_, exec_holdoverSteer_of_holdover due runs own held, ?_, ?_, fun beyond once => ?_,
      ((s.secondHeld_keeps slow).append (State.limitJudged_keeps _)).weaken (by exact .check rfl)⟩
    · exact ((State.limitJudged_keeps _).get (.tb .holdoverTime) rfl).trans time
    · exact ((State.limitJudged_keeps _).get (.tb .errBound) rfl).trans bound
    · have same : (s.secondHeld slow).real 0x2100 7 = s.real 0x2100 7 := rfl
      have judged : (s.secondHeld slow).limitJudged = ({ s.secondHeld slow with tb.limitRaised := true } : State).raise 0x0105 noInst [] := by
        refine if_pos ⟨?_, by simp [show (s.secondHeld slow).tb.limitRaised = s.tb.limitRaised from rfl, once]⟩
        rw [same, ← ((State.limitJudged_keeps _).get (.tb .errBound) rfl : _ = (s.secondHeld slow).tb.errBound)]
        exact beyond
      rw [judged]
      exact ⟨State.raise_raised _ _ _ rfl, (State.raise_keepsBut _ _ _ _).get (.tb .limitRaised) rfl⟩
  · exact ⟨_, congrArg Host.Outcome.next (State.writeBy_local admitted rfl rfl (if_pos whole) rfl rfl rfl), rfl, State.answer_answered _ _ _,
      (KeepsBut.write (s := s) (t := { s.touch w with tb.todNext := some (leValue d), tb.todUnset := false }) (KeepsBut.write_tb (l := [.tb .todNext, .tb .todUnset]) fun f hf _ _ => by cases f with | todNext | todUnset => simp at hf  | genAll | loopPAll | loopFAll | recFAll => trivial | _ => exact rfl) .done).weaken (by cases w <;> exact .check rfl)⟩
  · exact ⟨_, congrArg Host.Outcome.next (State.writeBy_local admitted rfl rfl rfl rfl rfl rfl), rfl, rfl, State.answer_answered _ _ _,
      (KeepsBut.write (State.modelCleared_keeps _) .done).weaken (by cases w <;> exact .check rfl)⟩
  · have set : (s.modGen k fun y => match y.setting.mode with
      | .periodic => { y with count := y.setting.value }
      | .alarm => { y with fired := some y.setting.value }
      | _ => { y with armed := false }).tb.gen[k].setting = s.tb.gen[k].setting := by
      rw [State.modGen_gen, vector_set_eq]
      split <;> rfl
    refine ⟨_, (exec_timerExpiry_of_due runs due).trans (congrArg _ ((State.timerExpire_eq k s).trans (State.timerAction_doorbell
      ((congrArg TimerSetting.action set).trans action) ((congrArg (fun x => identIx x.owner) set).trans owner)))), ?_, rfl, ?_⟩
    · show s.tb.gen.set k _ = _
      rcases mode with mode | mode <;> simp only [mode] <;> rfl
    · exact (KeepsBut.after (State.ring_keepsBut (l := [.eng .dbAll, .pins .spiIrq]) (by simp) (by simp) _ _ _) (State.modGen_keeps _ _ _)).weaken
        (by simp [Part.Within])
  · have fires : s.timerExpire k = s.modGen k fun y => { y with fired := some y.setting.value } := State.timerExpire_alarm mode action
    refine ⟨_, (exec_timerExpiry_of_due runs due).trans (congrArg _ fires), rfl, State.modGen_keeps _ _ _, _, exec_timerExpiry_none ?_, rfl⟩
    simp [State.timerDue, State.modGen_gen, vector_set_eq, mode, -Fin.getElem_fin]
  · refine ⟨s.timerProgram k x, congrArg Host.Outcome.next ((if_neg (by simp [runs])).trans ?_), ?_, State.modGen_keeps k _ s⟩
    · exact congrArg (State.timerProgram k x) (if_neg (by simp [early]))
    · show s.tb.gen.set k _ = _
      simp [fits]
  · have selected : ¬ (¬ s.tbRuns = true ∨ (s.tb.gen[k]).setting.mode ≠ .capture ∨ (s.tb.gen[k]).setting.pin.isNone = true ∨
        ¬ (if rising = true then (s.tb.gen[k]).setting.edges.1 else (s.tb.gen[k]).setting.edges.2) = true) := by
      rintro (h | h | h | h)
      · exact h runs
      · exact h mode
      · exact Option.isSome_iff_ne_none.1 pin (Option.isNone_iff_eq_none.1 h)
      · exact h edge
    refine ⟨_, congrArg Host.Outcome.next (if_neg selected), ?_⟩
    dsimp only
    split
    next room => exact ⟨rfl, (State.modGen_keeps _ _ _).weaken (by simp [Part.Within])⟩
    next full => exact ⟨⟨by simp, State.raise_raised _ _ _ rfl⟩, (State.raise_keepsBut _ _ _ s).weaken fun p hp => .inl (List.mem_cons_of_mem _ hp)⟩

end Sys2Proof.Machine
end

section
/-! PROOFS. Locks are taken, armed and released (R327 to R330). -/

namespace Sys2Proof.Machine

/-- A property that every step of a walk keeps holds after the walk. -/
theorem State.each_invariant {α : Type} {f : α → State → State} {P : State → Prop} (step : ∀ a s, P s → P (f a s)) (l : List α) (s : State)
    (h : P s) : P (State.each l f s) := by
  unfold State.each
  induction l generalizing s with
  | nil => exact h
  | cons a l ih => exact ih _ (step a s h)

/-- What freeing lock `n` does to identity `i`: an armed one is disarmed and rung. -/
def State.releaseArmed (n : Fin 64) (i : Fin 11) (s : State) : State :=
  if s.eng.arm[i].getLsbD n then
    ({ s with eng.arm := s.eng.arm.set i (s.eng.arm[i] &&& ~~~ BitVec.ofNat 64 (2 ^ n.val)) } : State).ring i lockBit
  else s

theorem State.freeLock_eq (n : Fin 64) (s : State) :
    s.freeLock n = State.each (List.finRange 11) (State.releaseArmed n) { s with eng.lock := s.eng.lock.set n {} } := rfl

/-- A bit of a word of bits, set alone. -/
theorem getLsbD_ofNat_two_pow {w n : Nat} (h : n < w) (m : Nat) : (BitVec.ofNat w (2 ^ n)).getLsbD m = decide (m = n) := by
  rw [BitVec.getLsbD_ofNat, Nat.testBit_two_pow]
  by_cases e : n = m
  · simp [e, e ▸ h]
  · simp [e, Ne.symm e]

/-- Beside the identity that is released, arm bits and doorbells stand. -/
theorem State.releaseArmed_other (n : Fin 64) {i j : Fin 11} (h : j ≠ i) (s : State) :
    (s.releaseArmed n i).eng.arm[j] = s.eng.arm[j] ∧ (s.releaseArmed n i).eng.db[j] = s.eng.db[j] := by
  unfold State.releaseArmed
  split
  · exact ⟨vector_set_getElem_ne h, vector_set_getElem_ne h⟩
  · exact ⟨rfl, rfl⟩

theorem State.releaseArmed_arm (n : Fin 64) (i : Fin 11) (s : State) : ((s.releaseArmed n i).eng.arm[i]).getLsbD n = false := by
  unfold State.releaseArmed
  split
  next armed =>
    show ((s.eng.arm.set i _)[i]).getLsbD n = false
    rw [vector_set_eq, BitVec.getLsbD_and, BitVec.getLsbD_not, getLsbD_ofNat_two_pow n.isLt]
    simp
  next free => simpa using free

theorem State.releaseArmed_rings {n : Fin 64} {i : Fin 11} {s : State} (h : s.eng.arm[i].getLsbD n = true) :
    ((s.releaseArmed n i).eng.db[i]).getLsbD 17 = true := by
  unfold State.releaseArmed
  rw [if_pos h]
  show ((s.eng.db.set i _)[i]).getLsbD 17 = true
  rw [vector_set_eq, BitVec.getLsbD_or, show lockBit = 17 from rfl, getLsbD_ofNat_two_pow (by decide)]
  simp

/-- After a lock is freed nobody is armed on it (R330). -/
theorem State.freeLock_arm (n : Fin 64) (i : Fin 11) (s : State) : ((s.freeLock n).eng.arm[i]).getLsbD n = false := by
  rw [State.freeLock_eq]
  refine State.each_all (P := fun i t => (t.eng.arm[i]).getLsbD n = false) (State.releaseArmed_arm n) (fun a b t h => ?_) (List.mem_finRange i) _
  by_cases e : a = b
  · exact e ▸ State.releaseArmed_arm n b t
  · rw [(State.releaseArmed_other n e t).1]
    exact h

/-- An identity that was armed on a lock is rung when the lock is freed (R330): until its turn it stays armed. -/
theorem State.freeLock_rings {n : Fin 64} {i : Fin 11} {s : State} (h : s.eng.arm[i].getLsbD n = true) :
    ((s.freeLock n).eng.db[i]).getLsbD 17 = true := by
  have rung := State.each_invariant (f := State.releaseArmed n)
    (P := fun t => t.eng.arm[i].getLsbD n = true ∨ (t.eng.db[i]).getLsbD 17 = true) (fun j t kept => by
      by_cases e : i = j
      · subst e
        by_cases armed : t.eng.arm[i].getLsbD n = true
        · exact .inr (State.releaseArmed_rings armed)
        · rw [State.releaseArmed, if_neg armed]
          exact kept
      · obtain ⟨arm, db⟩ := State.releaseArmed_other n e t
        rw [arm, db]
        exact kept) (List.finRange 11) { s with eng.lock := s.eng.lock.set n {} } (.inl h)
  rw [← State.freeLock_eq, s.freeLock_arm n i] at rung
  exact rung.resolve_left (by simp)

/-- The state after identity `who` takes lock `n`. -/
def State.lockTaken (who : Fin 11) (n : Fin 64) (s : State) : State :=
  { s with eng.lock := s.eng.lock.set n { owner := identCode who, epoch := s.eng.epoch[who].toNat },
           eng.lockRead := (true, identCode who) }

theorem State.lockAcquire_keeps (who : Fin 11) (n : Fin 64) (s : State) : KeepsBut [.eng (.lock n), .eng .lockRead] s (s.lockAcquire who n) :=
  .ite _ (KeepsBut.write_eng fun f hf _ same => by
    cases f with
    | lock j => exact vector_set_getElem_ne (by rintro rfl; simp at hf)
    | lockRead => simp at hf
    | _ => exact same) (KeepsBut.write_eng fun f hf _ same => by cases f with | lockRead => simp at hf | _ => exact same)

theorem State.armBit_keeps (who : Fin 11) (x : BitVec 64) (s : State) : KeepsBut [.eng (.arm who)] s { s with eng.arm := s.eng.arm.set who x } :=
  KeepsBut.write_eng fun f hf _ same => by
    cases f with
    | arm j => exact vector_set_getElem_ne (by rintro rfl; simp at hf)
    | _ => exact same

theorem State.ring_keeps (who : Fin 11) (b : Nat) (s : State) : KeepsBut [.eng (.db who), .pins .spiIrq] s (s.ring who b) := by
  refine KeepsBut.trans (KeepsBut.write_eng fun f hf _ same => ?_) (State.irqRefresh_keepsBut (by simp) _)
  cases f with
  | db j => exact vector_set_getElem_ne (by rintro rfl; simp at hf)
  | _ => exact same

/-- Settles O24: each command's effect on the lock unit is that of `State.lockAcquire`, `State.freeLock` and `State.lockArm`. -/
theorem locksAreTakenReleasedAndArmed : Obligations.LocksAreTakenReleasedAndArmed := by
  unfold Obligations.LocksAreTakenReleasedAndArmed
  refine ⟨fun who n s takes up free => ?_, fun who n s takes up owned => ?_, fun who n s up owner => ?_, fun who n s up foreign => ?_,
    fun who n s takes up owned => ?_, fun who n s takes up free => ?_⟩
  · have acquired : s.lockAcquire who n = s.lockTaken who n := if_pos free
    refine ⟨_, congrArg Host.Outcome.next ((if_pos ⟨takes, up⟩).trans acquired), vector_set_eq _ _ _, rfl, fun m h => vector_set_getElem_ne h, ?_⟩
    rw [← acquired]
    exact State.lockAcquire_keeps who n s
  · have read : s.lockAcquire who n = { s with eng.lockRead := (decide ((s.eng.lock[n]).owner = identCode who), (s.eng.lock[n]).owner) } :=
      if_neg owned
    refine ⟨_, congrArg Host.Outcome.next ((if_pos ⟨takes, up⟩).trans read), rfl, rfl, ?_⟩
    rw [← read]
    exact State.lockAcquire_keeps who n s
  · refine ⟨_, (exec_lockRelease up n).trans (congrArg _ (State.lockRelease_owner owner)), ?_,
      fun i => ⟨s.freeLock_arm n i, State.freeLock_rings⟩, fun m h => ?_, (s.freeLock_keepsBut n).weaken ?_⟩
    · rw [State.freeLock_lock, vector_set_eq]
    · rw [State.freeLock_lock, vector_set_getElem_ne h]
    · simp [Part.Within, Part.freed]
  · exact ⟨_, (exec_lockRelease up n).trans (congrArg _ (State.lockRelease_foreign foreign)), by simp, by simp, State.raise_raised _ _ _ rfl,
      (KeepsBut.after (State.raise_keepsBut _ _ _ _) (KeepsBut.write_eng (l := [.eng .foreign]) fun f hf _ same => by
        cases f with | foreign => simp at hf | _ => exact same)).weaken (by simp [Part.Within, Part.raised])⟩
  · exact ⟨_, congrArg Host.Outcome.next ((if_pos ⟨takes, up⟩).trans (if_neg owned)), vector_set_eq _ _ _, rfl,
      (State.armBit_keeps who _ s).weaken (by simp [Part.Within])⟩
  · refine ⟨_, congrArg Host.Outcome.next ((if_pos ⟨takes, up⟩).trans (if_pos free)), ?_, rfl,
      (State.ring_keeps who lockBit s).weaken (by simp [Part.Within])⟩
    show ((s.eng.db.set who _)[who]).getLsbD 17 = true
    rw [vector_set_eq, BitVec.getLsbD_or, show lockBit = 17 from rfl, getLsbD_ofNat_two_pow (by decide)]
    simp

end Sys2Proof.Machine
end

section
/-! PROOFS. Precision channels: outputs, clipping, settling and pairs (R107, R110, R113, R114). -/

namespace Sys2Proof.Machine

theorem State.busLimits_keeps (s : State) :
    KeepsBut [.timer .busOv, .timer .busOvClear, .timer .busUv, .timer .busUvClear] s (State.busLimits s) := by
  unfold State.busLimits
  dsimp only
  exact KeepsBut.weaken (KeepsBut.after (State.armWhile_keeps _ _ _ _) (KeepsBut.after (State.armWhile_keeps _ _ _ _)
      (KeepsBut.after (State.armWhile_keeps _ _ _ _) (State.armWhile_keeps _ _ _ _)))) (by exact .check rfl)

theorem State.feedWatch_keeps (p : Fin 2) (s : State) :
    KeepsBut [.timer (.feedRevert ↑p)] s (State.feedWatch p s) := by
  unfold State.feedWatch
  dsimp only
  exact KeepsBut.ite _ (KeepsBut.weaken (State.armAt_keeps _ _ _) (by apply Part.Within.checkAt p; rfl))
      (KeepsBut.weaken (State.disarm_keeps _ _) (by apply Part.Within.checkAt p; rfl))

theorem State.feedOutput_keeps (p : Fin 2) (b : Bool) (v : Rat) (s : State) :
    KeepsBut [.timer (.feedQual ↑p b), .dist (.feed p), .timer (.feedRevert ↑p)] s (State.feedOutput p b v s) := by
  unfold State.feedOutput
  dsimp only
  exact KeepsBut.ite _ (KeepsBut.weaken (State.disarm_keeps _ _) (by simp [Part.Within, Part.raised])) (KeepsBut.weaken
      (KeepsBut.after (State.feedWatch_keeps _ _)
      (KeepsBut.after (State.armWhile_keeps _ _ _ _) (State.modFeed_keeps _ _ _))) (by simp [Part.Within, Part.raised]))

theorem State.feedOutputs_keeps (k : Fin 48) (v : Rat) (s : State) :
    KeepsBut [.timers, .dist .feedAll] s (State.feedOutputs k v s) := by
  unfold State.feedOutputs
  dsimp only
  refine KeepsBut.via (KeepsBut.each (l := [.timers, .dist .feedAll]) (fun a s => ?_) _ _) (by exact .check rfl) ?_
  · refine KeepsBut.viaIf (KeepsBut.weaken (KeepsBut.whole (m := [.timers, .dist .feedAll,
      .timers]) (State.feedOutput_keeps _ _ _ _) rfl) (by exact .check rfl)) ?_
    exact KeepsBut.ite _ (KeepsBut.weaken (KeepsBut.whole (m := [.timers, .dist .feedAll,
        .timers]) (State.feedOutput_keeps _ _ _ _) rfl) (by exact .check rfl)) (KeepsBut.refl _ _)
  exact KeepsBut.refl _ _

theorem State.lanesSee_keeps (f : Bank → Bool) (q : Rat) (s : State) :
    KeepsBut [.laneAll] s (State.lanesSee f q s) := by
  unfold State.lanesSee
  dsimp only
  exact KeepsBut.weaken (KeepsBut.of_pieces (l := [.laneAll]) { State.Pieces.refl with
      lane_ := fun _ _ h => absurd (by simp) h }) (by exact .check rfl)

theorem State.ffAdd_keeps (s : State) :
    KeepsBut [.shelf .ffSum] s (State.ffAdd s) := by
  unfold State.ffAdd
  dsimp only
  exact KeepsBut.ite _ (KeepsBut.weaken (KeepsBut.write_shelf (l := [.shelf .ffSum]) fun f hf _ _ => by
      cases f with
      | ffSum => simp at hf | codesAll | rectsAll | framesAll | readbackFailsAll | readbackRunAll => trivial | _ => exact rfl) (by exact .check rfl))
      (KeepsBut.refl _ _)

theorem State.output200_keeps (k : Fin 48) (q : Rat) (s : State) :
    KeepsBut [.laneAll, .meas (.ch k), .shelf .ffSum, .timers, .dist .feedAll] s (State.output200 k q s) := by
  unfold State.output200
  dsimp only
  refine KeepsBut.viaIf (KeepsBut.weaken (State.busLimits_keeps _) (by apply Part.Within.checkAt k; rfl)) ?_
  refine KeepsBut.via (State.feedOutputs_keeps _ _ _) (by apply Part.Within.checkAt k; rfl) ?_
  exact KeepsBut.viaIf (KeepsBut.weaken (State.lanesSee_keeps _ _ _) (by apply Part.Within.checkAt k; rfl)) (KeepsBut.weaken
      (KeepsBut.after (State.ffAdd_keeps _) (State.modCh_keeps _ _ _)) (by apply Part.Within.checkAt k; rfl))

theorem State.clip_keeps (k : Fin 48) (s : State) :
    KeepsBut (([.meas (.ch k), .timer (.overrange ↑k), .timer (.limit 513 ↑k)] : List Part) ++ Part.raised) s (State.clip k s) := by
  unfold State.clip
  exact KeepsBut.weaken (KeepsBut.after (State.raiseLimited_keeps _ _ _ _)
      (KeepsBut.after (State.arm_keeps _ _ _) (State.modCh_keeps _ _ _))) (by apply Part.Within.checkAt k; rfl)

/-- A walk keeps what each step of it keeps. -/
theorem KeepsBut.each_mem {α : Type} {l : List Part} {f : α → State → State} {as : List α} (h : ∀ a ∈ as, ∀ s, KeepsBut l s (f a s)) (s : State) :
    KeepsBut l s (State.each as f s) := by
  unfold State.each
  induction as generalizing s with
  | nil => exact KeepsBut.refl l s
  | cons a as ih =>
    rw [List.foldl_cons]
    exact (h a List.mem_cons_self s).trans (ih (fun b hb => h b (List.mem_cons_of_mem a hb)) _)

theorem State.stageDwells_keeps (v : Rat) (s : State) : KeepsBut (Part.each 8 .stageDwell) s (s.stageDwells v) :=
  KeepsBut.each_mem (fun k hk s => (State.armWhile_keeps _ _ _ s).mono fun p hp => by
    rw [List.mem_singleton.1 hp]
    exact List.mem_map.2 ⟨k, hk, rfl⟩) s

theorem State.output10_keeps (k : Fin 48) (q : Rat) (s : State) :
    KeepsBut (([.meas (.ch k)] : List Part) ++ Part.each 8 .stageDwell) s (s.output10 k q) :=
  KeepsBut.afterIf (State.stageDwells_keeps q _) (State.modCh_keeps k _ s)

/-- The channels after an output: its channel has the value, the others stand. -/
theorem State.output200_ch (k : Fin 48) (q : Rat) (s : State) :
    (s.output200 k q).meas.ch = s.meas.ch.set k { s.meas.ch[k] with v200 := q } := by
  unfold State.output200
  dsimp only
  repeat' split
  all_goals simp [State.modCh]

theorem State.output10_ch (k : Fin 48) (q : Rat) (s : State) :
    (s.output10 k q).meas.ch = s.meas.ch.set k { s.meas.ch[k] with v10 := q } := by
  unfold State.output10
  dsimp only
  split <;> simp [State.modCh]

theorem exec_precisionOutput_200 {s : State} (runs : s.tbRuns = true) (date : s.outputDate 0 = true) {code : Int} (inside : clips code = false)
    (k : Fin 48) : exec (.precisionOutput k 0 code) s = .next (s.output200 k (s.chanQuantity k (s.ballVolts k code))) := by
  show execPrecisionOutput k 0 code s = _
  simp [execPrecisionOutput, runs, date, inside]

theorem exec_precisionOutput_10 {s : State} (runs : s.tbRuns = true) (date : s.outputDate 1 = true) (k : Fin 48) (code : Int) :
    exec (.precisionOutput k 1 code) s = .next ((if clips code then s.clip k else s).output10 k
      ((if clips code then s.clip k else s).chanQuantity k ((if clips code then s.clip k else s).ballVolts k code))) := by
  show execPrecisionOutput k 1 code s = _
  simp [execPrecisionOutput, runs, date]

/-- A channel that clips, its code not recorded within the last second. -/
theorem State.clip_raises {k : Fin 48} {s : State} (once : s.running (.limit 0x0201 k) = false) :
    Raised 0x0201 k [] s (s.clip k) := by
  unfold State.clip State.raiseLimited
  rw [if_neg]
  · exact State.raise_raised _ _ _ rfl
  · have same : State.deadline _ (.limit 0x0201 k) = s.deadline (.limit 0x0201 k) := (KeepsBut.after
      (State.arm_keeps (.overrange k) 14000000 _) (State.modCh_keeps k (fun c => { c with overrange := true }) s)).get (.timer (.limit 0x0201 k)) rfl
    rw [State.running, same]
    exact fun h => absurd h.1 (by rw [State.running] at once; simp [once])

theorem State.clip_overrange (k : Fin 48) (s : State) : ((s.clip k).meas.ch[k]).overrange = true := by
  have kept : (s.clip k).meas.ch = s.meas.ch.set k { s.meas.ch[k] with overrange := true } := by simp [State.clip, State.modCh]
  rw [kept, vector_set_eq]

/-- Settles O6: each command runs the operation of its rate, or ends its mark. -/
theorem precisionOutputsClipSettleAndDisagree : Obligations.PrecisionOutputsClipSettleAndDisagree := by
  unfold Obligations.PrecisionOutputsClipSettleAndDisagree
  refine ⟨fun k code s runs date inside => ?_, fun k code s runs date inside => ?_, fun k code s runs date beyond once => ?_, fun k s due => ?_,
    fun k s due => ?_, fun p s fails unmarked => ?_⟩
  · exact ⟨_, exec_precisionOutput_200 runs date inside k, State.output200_ch k _ s,
      (State.output200_keeps k _ s).weaken (by apply Part.Within.checkAt k; rfl)⟩
  · have out := exec_precisionOutput_10 runs date k code
    simp only [inside, Bool.false_eq_true, if_false] at out
    exact ⟨_, out, State.output10_ch k _ s, State.output10_keeps k _ s⟩
  · have out := exec_precisionOutput_10 runs date k code
    simp only [beyond, if_true] at out
    refine ⟨_, out, ?_, (State.clip_raises once).keep (by simp) (by simp), ?_⟩
    · rw [State.output10_ch, vector_set_eq]
      exact State.clip_overrange k s
    · exact (KeepsBut.after (State.output10_keeps k _ _) (s.clip_keeps k)).weaken (by apply Part.Within.checkAt k; rfl)
  · exact ⟨_, congrArg Host.Outcome.next (if_pos due), rfl, State.disarm_deadline _ s,
      (KeepsBut.after (State.modCh_keeps k _ _) (s.disarm_keeps _)).weaken (by apply Part.Within.checkAt k; rfl)⟩
  · exact ⟨_, congrArg Host.Outcome.next (if_pos due), rfl, State.disarm_deadline _ s,
      (KeepsBut.after (State.modCh_keeps k _ _) (s.disarm_keeps _)).weaken (by apply Part.Within.checkAt k; rfl)⟩
  · refine ⟨_, congrArg Host.Outcome.next (if_pos ⟨fails, by rw [unmarked]; decide⟩), ?_, ?_, State.raise_raised _ _ _ rfl, ?_⟩
    · have apart : ∀ p, (pairOf p).2.val ≠ (pairOf p).1.val := by decide
      simp [State.modCh, apart p]
    · simp [State.modCh]
    · exact (KeepsBut.after (State.raise_keepsBut _ _ _ _) ((State.modCh_keeps (pairOf p).1 _ s).append (State.modCh_keeps (pairOf p).2 _ _))).weaken
        (by apply Part.Within.checkAt p; rfl)

end Sys2Proof.Machine
end

section
/-! PROOFS. The other converters: window, current, coulomb and housekeeping conversions, and the ramp's step (R122 to R125, R167). -/

namespace Sys2Proof.Machine

theorem State.vlclSample_keeps (l : Fin 8) (code : Int) (s : State) :
    KeepsBut [.loop l] s (State.vlclSample l code s) := by
  unfold State.vlclSample
  exact KeepsBut.weaken (State.modLoop_keeps _ _ _) (by apply Part.Within.checkAt l; rfl)

theorem State.cancelShed_keeps (l : Fin 8) (s : State) :
    KeepsBut [.timer (.shedDwell ↑l), .loop l, .phaseAll] s (State.cancelShed l s) := by
  unfold State.cancelShed
  dsimp only
  refine KeepsBut.via (KeepsBut.each (l := [.phaseAll]) (fun a s => ?_) _ _) (by apply Part.Within.checkAt l; rfl) ?_
  · exact KeepsBut.ite _ (KeepsBut.weaken (KeepsBut.whole (m := [.phaseAll]) (State.modPhase_keeps _ _ _) rfl) (by apply Part.Within.checkAt l; rfl))
      (KeepsBut.refl _ _)
  exact KeepsBut.weaken (KeepsBut.after (State.modLoop_keeps _ _ _) (State.disarm_keeps _ _)) (by apply Part.Within.checkAt l; rfl)

theorem State.stepDetected_keeps (l : Fin 8) (s : State) :
    KeepsBut [.loop l, .timer (.shedDwell ↑l), .phaseAll] s (State.stepDetected l s) := by
  unfold State.stepDetected
  dsimp only
  refine KeepsBut.viaIf (KeepsBut.weaken (State.modLoop_keeps _ _ _) (by apply Part.Within.checkAt l; rfl)) ?_
  refine KeepsBut.via (State.cancelShed_keeps _ _) (by apply Part.Within.checkAt l; rfl) ?_
  exact KeepsBut.ite _ (KeepsBut.weaken (State.modLoop_keeps _ _ _) (by apply Part.Within.checkAt l; rfl)) (KeepsBut.refl _ _)

theorem State.pairSample_keeps (l : Fin 8) (code : Int) (s : State) :
    KeepsBut [.loop l, .timer (.shedDwell ↑l), .phaseAll, .meas (.win l)] s (State.pairSample l code s) := by
  unfold State.pairSample
  dsimp only
  exact KeepsBut.viaIf (KeepsBut.weaken (State.stepDetected_keeps _ _) (by apply Part.Within.checkAt l; rfl)) (KeepsBut.weaken
      (KeepsBut.after (State.modLoop_keeps _ _ _) (KeepsBut.write_meas (l := [.meas (.win l)]) fun f hf _ _ => by
      cases f with
      | win j => exact vector_set_getElem_ne (by rintro rfl; simp at hf) | chAll | moduAll | slotsAll | pairFailsAll | winAll | phaseIAll | imonVAll
      | stI10All | stI1All | bvsAll | hkaAll | hkSumAll | hkNAll | hkMeanAll | calHalfAll => trivial
      | _ => exact rfl)) (by apply Part.Within.checkAt l; rfl))

theorem State.loopStop_keeps (l : Fin 8) (s : State) :
    KeepsBut [.loop l, .pins .syncOut, .phaseAll] s (State.loopStop l s) := by
  unfold State.loopStop
  dsimp only
  refine KeepsBut.via (KeepsBut.each (l := [.phaseAll]) (fun a s => ?_) _ _) (by apply Part.Within.checkAt l; rfl) ?_
  · exact KeepsBut.ite _ (KeepsBut.weaken (KeepsBut.whole (m := [.phaseAll]) (State.modPhase_keeps _ _ _) rfl) (by apply Part.Within.checkAt l; rfl))
      (KeepsBut.refl _ _)
  exact KeepsBut.weaken (KeepsBut.after (KeepsBut.write_pins (l := [.pins .syncOut]) fun f hf _ _ => by
      cases f with
      | syncOut => simp at hf | pwmAll | gateAll => trivial | _ => exact rfl) (State.modLoop_keeps _ _ _)) (by apply Part.Within.checkAt l; rfl)

theorem State.rampStep_keeps (l : Fin 8) (s : State) :
    KeepsBut [.loop l, .pins .syncOut, .phaseAll, .timer (.vsetOff ↑l)] s (State.rampStep l s) := by
  unfold State.rampStep
  dsimp only
  refine KeepsBut.ite _ (KeepsBut.refl _ _) ?_
  refine KeepsBut.viaIf (KeepsBut.weaken (State.loopStop_keeps _ _) (by apply Part.Within.checkAt l; rfl)) ?_
  exact KeepsBut.viaIf (KeepsBut.weaken (State.arm_keeps _ _ _) (by apply Part.Within.checkAt l; rfl))
      (KeepsBut.weaken (State.modLoop_keeps _ _ _) (by apply Part.Within.checkAt l; rfl))

theorem State.overvoltageRun_keeps (l : Fin 8) (s : State) :
    KeepsBut [.timer (.overvoltage ↑l)] s (State.overvoltageRun l s) := by
  unfold State.overvoltageRun
  exact KeepsBut.weaken (State.armWhile_keeps _ _ _ _) (by apply Part.Within.checkAt l; rfl)

theorem State.riseCount_keeps (i : Fin 32) (r : Rat) (s : State) :
    KeepsBut [.phase i] s (State.riseCount i r s) := by
  unfold State.riseCount
  split
  · exact KeepsBut.refl _ _
  · exact KeepsBut.ite _ (KeepsBut.weaken (State.modPhase_keeps _ _ _) (by apply Part.Within.checkAt i; rfl)) (KeepsBut.refl _ _)

theorem State.serveRequest_keeps (i : Fin 32) (s : State) :
    KeepsBut [.phase i] s (State.serveRequest i s) := by
  unfold State.serveRequest
  dsimp only
  split
  · exact KeepsBut.refl _ _
  · split
    · exact KeepsBut.weaken (KeepsBut.after (State.riseCount_keeps _ _ _) (State.modPhase_keeps _ _ _)) (by apply Part.Within.checkAt i; rfl)
    · exact KeepsBut.weaken (State.modPhase_keeps _ _ _) (by apply Part.Within.checkAt i; rfl)

theorem State.hkAverage_keeps (j : Fin 20) (v : Rat) (s : State) :
    KeepsBut [.meas (.hkSum j), .meas (.hkN j), .meas (.hkMean j)] s (State.hkAverage j v s) := by
  unfold State.hkAverage
  dsimp only
  exact KeepsBut.ite _ (KeepsBut.weaken (KeepsBut.write_meas (l := [.meas (.hkSum j), .meas (.hkN j)]) fun f hf _ _ => by
      cases f with
      | hkSum j => exact vector_set_getElem_ne (by rintro rfl; simp at hf) | hkN j => exact vector_set_getElem_ne (by rintro rfl; simp at hf) | chAll
      | moduAll | slotsAll | pairFailsAll | winAll | phaseIAll | imonVAll | stI10All | stI1All | bvsAll | hkaAll | hkSumAll | hkNAll | hkMeanAll
      | calHalfAll => trivial | _ => exact rfl) (by apply Part.Within.checkAt j; rfl)) (KeepsBut.weaken
      (KeepsBut.write_meas (l := [.meas (.hkSum j), .meas (.hkN j), .meas (.hkMean j)]) fun f hf _ _ => by
      cases f with
      | hkSum j => exact vector_set_getElem_ne (by rintro rfl; simp at hf) | hkN j => exact vector_set_getElem_ne (by rintro rfl; simp at hf)
      | hkMean j => exact vector_set_getElem_ne (by rintro rfl; simp at hf) | chAll | moduAll | slotsAll | pairFailsAll | winAll | phaseIAll
      | imonVAll | stI10All | stI1All | bvsAll | hkaAll | hkSumAll | hkNAll | hkMeanAll | calHalfAll => trivial
      | _ => exact rfl) (by apply Part.Within.checkAt j; rfl))

theorem State.modLoop_loop (l : Fin 8) (f : Loop → Loop) (s : State) : (s.modLoop l f).loop[l] = f s.loop[l] := vector_set_eq _ _ _

theorem State.cancelShed_loop (l : Fin 8) (s : State) :
    (s.cancelShed l).loop[l] = { s.loop[l] with shedPending := false, shedding := false } := by
  unfold State.cancelShed
  refine (congrArg (·[l]) (State.each_keeps (·.loop) _ _ _ fun i s => ?_)).trans (State.modLoop_loop l _ _)
  split
  · rfl
  · rfl

/-- What a sample leaves beside the shedding and the bellows that a step of the output starts. -/
def Loop.SampledAlike (x y : Loop) : Prop :=
  y.outHigh = x.outHigh ∧ y.outLow = x.outLow ∧ y.running = x.running ∧ y.vSet = x.vSet ∧ y.vTarget = x.vTarget

theorem State.stepDetected_loop (l : Fin 8) (s : State) : Loop.SampledAlike s.loop[l] (s.stepDetected l).loop[l] := by
  unfold State.stepDetected
  dsimp only
  split <;> split <;> simp only [State.modLoop_loop, State.cancelShed_loop] <;> exact ⟨rfl, rfl, rfl, rfl, rfl⟩

/-- The state that a sample of the selected input leaves, before a step of the output is judged. -/
def State.sampleTaken (l : Fin 8) (code : Int) (s : State) : State :=
  let sat : Bool := code = 511 ∨ code = -512
  ({ s with meas.win := s.meas.win.set l { codes := (code :: s.meas.win[l].codes).take 5 } } : State).modLoop l fun x =>
    { x with vOut := s.windowVolts l code, outHigh := code = 511, outLow := code = -512, winRun := satInc 9 x.winRun,
             satSince := if sat then some (x.satSince.getD s.now) else none, vlclRun := if sat then x.vlclRun else 0 }

/-- What a sample leaves of its loop, and the marks that it sets. -/
theorem State.sampleTaken_loop (l : Fin 8) (code : Int) (s : State) :
    (s.sampleTaken l code).loop[l].outHigh = decide (code = 511) ∧ (s.sampleTaken l code).loop[l].outLow = decide (code = -512) ∧
      (s.sampleTaken l code).loop[l].running = s.loop[l].running ∧ (s.sampleTaken l code).loop[l].vSet = s.loop[l].vSet ∧
      (s.sampleTaken l code).loop[l].vTarget = s.loop[l].vTarget := by
  unfold State.sampleTaken
  simp only [State.modLoop_loop, and_self]

theorem State.pairSample_eq (l : Fin 8) (code : Int) (s : State) :
    s.pairSample l code = if (s.sampleTaken l code).loop[l].running ∧ (s.sampleTaken l code).slopeFires l ∧ ¬ (s.sampleTaken l code).slopeBlind l then
      (s.sampleTaken l code).stepDetected l else s.sampleTaken l code := rfl

theorem State.pairSample_loop (l : Fin 8) (code : Int) (s : State) : Loop.SampledAlike (s.sampleTaken l code).loop[l] (s.pairSample l code).loop[l] := by
  rw [State.pairSample_eq]
  split
  · exact State.stepDetected_loop l _
  · exact ⟨rfl, rfl, rfl, rfl, rfl⟩

theorem State.pairSample_win (l : Fin 8) (code : Int) (s : State) :
    (s.pairSample l code).meas.win = s.meas.win.set l { codes := (code :: s.meas.win[l].codes).take 5 } := by
  rw [State.pairSample_eq]
  split
  · have kept (s : State) : (s.stepDetected l).meas = s.meas := by simp
    exact congrArg Measure.win (kept _)
  · rfl

theorem State.pairSample_raw (l : Fin 8) (code : Int) (s : State) : (s.pairSample l code).raw = s.raw := by
  rw [State.pairSample_eq]
  split
  · exact (State.raw_congr (by simp) (by simp) (by simp) (by simp)).trans (State.raw_congr rfl rfl rfl rfl : (s.sampleTaken l code).raw = s.raw)
  · exact State.raw_congr rfl rfl rfl rfl

theorem State.loopStop_loop (l : Fin 8) (s : State) : (s.loopStop l).loop[l] =
    { s.loop[l] with running := false, rampStop := false, bellowsEnd := 0, bellowsOn := false, suppressed := false, shedPending := false, shedding := false } := by
  unfold State.loopStop
  refine (congrArg (·[l]) (State.each_keeps (·.loop) _ _ _ fun i s => ?_)).trans (State.modLoop_loop l (fun x =>
    { x with running := false, rampStop := false, bellowsEnd := 0, bellowsOn := false, suppressed := false, shedPending := false, shedding := false }) s)
  split
  · rfl
  · rfl

/-- The setpoint after a ramp's step (R167). -/
def State.rampTo (l : Fin 8) (s : State) : Rat :=
  clamp (s.loop[l].vSet - s.real (0x2410 + l) 4 / 10000000) (s.loop[l].vSet + s.real (0x2410 + l) 4 / 10000000) s.loop[l].vTarget

theorem State.rampStep_loop (l : Fin 8) (s : State) :
    (s.rampStep l).loop[l].outHigh = s.loop[l].outHigh ∧ (s.rampStep l).loop[l].outLow = s.loop[l].outLow ∧
      (s.rampStep l).loop[l].winRun = s.loop[l].winRun ∧ (s.rampStep l).loop[l].vlclRun = s.loop[l].vlclRun ∧
      (s.loop[l].running = true → s.loop[l].vSet ≠ s.loop[l].vTarget → (s.rampStep l).loop[l].vSet = s.rampTo l) := by
  have arm (b : Prop) [Decidable b] (s : State) : (if b then s.arm (.vsetOff l) 100000000 else s).loop = s.loop := by split <;> simp
  unfold State.rampStep
  dsimp only
  split
  next still => exact ⟨rfl, rfl, rfl, rfl, fun runs apart => (still.elim (fun h => h runs) apart).elim⟩
  next ramps =>
    split
    · simp only [State.loopStop_loop, arm, State.modLoop_loop, State.rampTo, implies_true, and_self]
    · simp only [arm, State.modLoop_loop, State.rampTo, implies_true, and_self]

theorem State.overvoltageRun_loop (l : Fin 8) (s : State) : (s.overvoltageRun l).loop = s.loop := by
  simp [State.overvoltageRun]

theorem State.real_congr {s t : State} (h : t.raw = s.raw) : t.real = s.real := by
  funext idx sub
  exact congrArg (fun c => Cfg.real c idx sub) h

theorem State.vlclSample_loop (l : Fin 8) (code : Int) (s : State) :
    (s.vlclSample l code).loop[l] =
      { s.loop[l] with winRun := 0, vlclRun := if -512 < code ∧ code < 511 then satInc 3 s.loop[l].vlclRun else 0 } := State.modLoop_loop l _ s

/-- Settles O8: each conversion writes its quantity, and a sample's ramp step follows it. -/
theorem convertersDeliverTheirQuantities : Obligations.ConvertersDeliverTheirQuantities := by
  unfold Obligations.ConvertersDeliverTheirQuantities
  refine ⟨fun l code vlcl s up pair => ?_, fun l code vlcl s up turn => ?_, fun i v s => ?_, fun n slow v s => ?_, fun slot v s branch => ?_,
    fun v s => ⟨⟨_, rfl, rfl⟩, ⟨_, rfl, rfl⟩, ⟨_, rfl, rfl⟩, ⟨_, rfl, rfl⟩, ⟨_, rfl, rfl⟩⟩⟩
  · have exec_eq : exec (.windowSample l code vlcl) s = .next (((s.pairSample l (s.selected l code vlcl)).rampStep l).overvoltageRun l) := by
      have kept : (s.pairSample l (s.selected l code vlcl)).up = true := up ▸ congrArg (fun r : Rst => decide (r.phase = .released)) (by simp)
      show execWindowSample l code vlcl s = _
      simp [execWindowSample, pair, kept]
    obtain ⟨high, low, -, -, ramps⟩ := State.rampStep_loop l (s.pairSample l (s.selected l code vlcl))
    obtain ⟨high', low', runs', set', target'⟩ := State.pairSample_loop l (s.selected l code vlcl) s
    obtain ⟨high'', low'', runs'', set'', target''⟩ := State.sampleTaken_loop l (s.selected l code vlcl) s
    refine ⟨_, exec_eq, ?_, ?_, ?_, fun runs apart => ?_, ?_⟩
    · have kept (s : State) : ((s.rampStep l).overvoltageRun l).meas = s.meas := by simp
      rw [kept, State.pairSample_win]
    · rw [State.overvoltageRun_loop, high, high', high'']
    · rw [State.overvoltageRun_loop, low, low', low'']
    · rw [State.overvoltageRun_loop, ramps (by rw [runs', runs'', runs]) (by rw [set', target', set'', target'']; exact apart), State.rampTo,
        set', target', set'', target'', State.real_congr (State.pairSample_raw l _ s)]
    · exact (KeepsBut.after (State.overvoltageRun_keeps l _) (KeepsBut.after (State.rampStep_keeps l _) (State.pairSample_keeps l _ s))).weaken
        (by apply Part.Within.checkAt l; rfl)
  · have runs : s.loop[l].running = true := by
      simp only [State.vlclTurn, decide_eq_true_eq] at turn
      exact turn.1
    have exec_eq : exec (.windowSample l code vlcl) s = .next (((s.vlclSample l vlcl).rampStep l).overvoltageRun l) := by
      have kept : (s.vlclSample l vlcl).up = true := up
      show execWindowSample l code vlcl s = _
      simp [execWindowSample, turn, kept]
    obtain ⟨-, -, winRun, vlclRun, ramps⟩ := State.rampStep_loop l (s.vlclSample l vlcl)
    have real : (s.vlclSample l vlcl).real = s.real := State.real_congr (State.raw_congr rfl rfl rfl rfl)
    rw [State.rampTo, real, State.vlclSample_loop] at ramps
    rw [State.vlclSample_loop] at winRun vlclRun
    refine ⟨_, exec_eq, ?_, ?_, fun apart => ?_, ?_⟩
    · rw [State.overvoltageRun_loop, winRun]
    · rw [State.overvoltageRun_loop, vlclRun]
    · rw [State.overvoltageRun_loop]
      exact ramps runs apart
    · exact (KeepsBut.after (State.overvoltageRun_keeps l _) (KeepsBut.after (State.rampStep_keeps l _) (State.vlclSample_keeps l _ s))).weaken
        (by apply Part.Within.checkAt l; rfl)
  · refine ⟨_, rfl, ?_, fun other => ?_, ?_⟩
    · split
      · simp
      · rfl
    · rw [if_neg]
      exact other
    · refine KeepsBut.viaIf (KeepsBut.weaken (State.serveRequest_keeps i _) (by apply Part.Within.checkAt i; rfl)) (KeepsBut.weaken
        (KeepsBut.write_meas (l := [.meas (.imonV i), .meas (.phaseI i)]) fun f hf _ _ => by
            cases f with
            | imonV j => exact vector_set_getElem_ne (by rintro rfl; simp at hf)
            | phaseI j => exact vector_set_getElem_ne (by rintro rfl; simp at hf)  | chAll | moduAll | slotsAll | pairFailsAll | winAll
            | phaseIAll | imonVAll | stI10All | stI1All | bvsAll | hkaAll | hkSumAll | hkNAll | hkMeanAll | calHalfAll => trivial
            | _ => exact rfl) (by apply Part.Within.checkAt i; rfl))
  · refine ⟨_, rfl, ?_, ?_, fun h => ?_, ?_⟩
    · cases slow
      · simp only [Bool.false_eq_true, if_false]
        split <;> simp
      · rfl
    · cases slow
      · simp only [Bool.false_eq_true, if_false]
        split <;> simp
      · rfl
    · rw [h]
      rfl
    · refine KeepsBut.ite _ ((KeepsBut.write_meas (l := [.meas (.stI1 n)]) fun f hf _ _ => by
        cases f with
        | stI1 j => exact vector_set_getElem_ne (by rintro rfl; simp at hf)  | chAll | moduAll | slotsAll | pairFailsAll | winAll | phaseIAll
        | imonVAll | stI10All | stI1All | bvsAll | hkaAll | hkSumAll | hkNAll | hkMeanAll | calHalfAll => trivial
        | _ => exact rfl).weaken (by apply Part.Within.checkAt n; rfl)) ?_
      exact KeepsBut.viaElse ((State.lanesSee_keeps _ _ _).weaken (by apply Part.Within.checkAt n; rfl))
        ((KeepsBut.write_meas (l := [.meas (.stI10 n)]) fun f hf _ _ => by
            cases f with
            | stI10 j => exact vector_set_getElem_ne (by rintro rfl; simp at hf)  | chAll | moduAll | slotsAll | pairFailsAll | winAll | phaseIAll
            | imonVAll | stI10All | stI1All | bvsAll | hkaAll | hkSumAll | hkNAll | hkMeanAll | calHalfAll => trivial
            | _ => exact rfl).weaken (by apply Part.Within.checkAt n; rfl))
  · refine ⟨_, congrArg Host.Outcome.next (dif_pos branch), fun k => ?_, ?_⟩
    · have kept (s : State) (j : Fin 20) (v : Rat) : (s.hkAverage j v).meas.bvs = s.meas.bvs := by
        unfold State.hkAverage
        dsimp only
        split <;> rfl
      rw [kept]
      simp only [Fin.getElem_fin, Vector.getElem_set, eq_comm]
    · exact (KeepsBut.after (KeepsBut.whole (m := [.meas .hkSumAll, .meas .hkNAll, .meas .hkMeanAll]) (State.hkAverage_keeps _ _ _) rfl)
        (KeepsBut.write_meas (l := [.meas .bvsAll]) fun f _ hw _ => by
            cases f with
            | bvs => simp [Part.whole, MeasurePart.whole] at hw  | chAll | moduAll | slotsAll | pairFailsAll | winAll | phaseIAll | imonVAll
            | stI10All | stI1All | bvsAll | hkaAll | hkSumAll | hkNAll | hkMeanAll | calHalfAll => trivial
            | _ => exact rfl)).weaken (by exact .check rfl)

end Sys2Proof.Machine
end

section
/-! PROOFS. Writes that are refused, and Store and Restore (R354, R355, R484). -/

namespace Sys2Proof.Machine

theorem State.launch_keeps (f : BenutFrame) (s : State) :
    KeepsBut [.twin .sent] s (State.launch f s) := by
  unfold State.launch
  dsimp only
  exact KeepsBut.weaken (KeepsBut.write_twin (l := [.twin .sent]) fun f hf _ _ => by
      cases f with | sent => simp at hf | delayAll => trivial | _ => exact rfl) (by exact .check rfl)

theorem State.storeStart_keeps (sub : Nat) (by_ : StoreBy) (s : State) :
    KeepsBut [.twin .sent, .net .storeAll, .net .storing, .timer .store] s (State.storeStart sub by_ s) := by
  unfold State.storeStart
  dsimp only
  exact KeepsBut.viaIf (KeepsBut.weaken (State.launch_keeps _ _) (by exact .check rfl)) (KeepsBut.weaken (KeepsBut.after (State.arm_keeps _ _ _)
      (KeepsBut.write_net (l := [.net .storeAll, .net .storing]) fun f hf hw _ => by
      cases f with
      | storing => simp at hf | store => simp [Part.whole, NetPart.whole] at hw | forceAll | rwAll | sessAll | storeAll | portAll | pmAll
      | pmXferAll => trivial | _ => exact rfl)) (by exact .check rfl))

/-! ## Writes that are refused (R484) -/

/-- What R484's order checks before an object is busy. -/
theorem State.checkWrite_pass {s : State} {w : Option Session} {role : Role} {idx sub : Nat} {d : List Byte}
    (a : s.checkWrite w role idx sub d none false none = .pass) (b : Option Nat) (bad : Bool) (i : Option Nat) :
    s.checkWrite w role idx sub d b bad i = match b with
      | some c => .abort c
      | none => if bad then .abort 0x06070010 else match i with
        | some c => .abort c
        | none => .pass := by
  unfold State.checkWrite at a ⊢
  split at a
  · cases a
  · split at a
    · cases a
    · split at a
      · cases a
      · split at a
        · cases a
        · next h => cases h
        next rw allowed _ _ calm _ =>
          split at a
          · cases a
          next fits =>
            split at a
            · cases a
            next range =>
              rw [if_neg rw, if_neg allowed, calm]
              cases b with
              | some c => rfl
              | none =>
                cases bad with
                | true => simp
                | false => exact (if_neg fits).trans (if_neg range)

/-- A write that the object refuses in its present state is answered with that refusal, and has no effect. -/
theorem State.writeBy_busy {w : Session} {idx sub : Nat} {d : List Byte} {o : ObjWrite} {s : State} {c : Nat} (a : s.admits w idx sub d = true)
    (busy : o.busy (s.touch w) d = some c) : s.writeBy w idx sub d o = (s.touch w).answer w (.abort c) := by
  simp only [State.admits, Bool.and_eq_true, Bool.or_eq_true, decide_eq_true_eq] at a
  obtain ⟨⟨hs, hp⟩, hc⟩ := a
  have hc' : (s.touch w).checkWrite (some w) ((s.touch w).roleOf w) idx sub d none false none = .pass := hc
  have hn : ¬ (s.rst.phase = .recovery ∧ ¬ romObject idx = true) := fun h => hp.elim (fun q => q h.1) h.2
  simp only [State.writeBy, State.access, hs, not_true_eq_false, if_false, hn, State.writeAs, busy, State.checkWrite_pass hc']
  rfl

/-- What a refused write changes. -/
theorem State.refused_keeps (w : Session) (c : Nat) (s : State) :
    KeepsBut [.timer (.sessIdle (sessIx w)), .net (.sess (sessIx w))] s ((s.touch w).answer w (.abort c)) :=
  (s.touch_keeps w).append (State.answer_keeps w _ _)

/-! ## Store and Restore -/

/-- An answer writes its session's answer and nothing else of the network. -/
theorem State.answer_net (w : Session) (a : Answer) (s : State) :
    (s.answer w a).net = { s.net with sess := s.net.sess.set (sessIx w) { s.net.sess[sessIx w] with answer := a } } := rfl


theorem forwards_store : ∀ scope : Fin 3, forwards 0x1010 (scope + 1) = false := by decide

theorem forwards_restore : ∀ scope : Fin 3, forwards 0x1011 (scope + 1) = false := by decide

theorem Raised.answer {c i : Nat} {v : List Nat} {s a : State} (h : Raised c i v s a) (w : Session) (x : Answer) : Raised c i v s (a.answer w x) :=
  h.keep rfl rfl

/-- A Store that begins, before the active chip of a pair sends it on. -/
def State.storeBegun (sub : Nat) (w : Session) (s : State) : State :=
  ({ s with net.storing := some (s.net.storeTarget, s.copyFor sub (some w), sub, StoreBy.session w),
            net.store := s.net.store.set s.net.storeTarget none } : State).arm .store 40000000

theorem State.storeStart_eq (sub : Nat) (w : Session) (s : State) :
    s.storeStart sub (.session w) = if s.twin.st = .activePaired then (s.storeBegun sub w).launch (.store sub) else s.storeBegun sub w := rfl

/-- A Store that ends, before its code is raised. -/
def State.storeEnded (s : State) : State := { s.disarm .store with net.storing := none }

/-- A Store that reads back well. -/
def State.storeKept (k : Fin 2) (c : CfgCopy) (sub : Nat) (s : State) : State :=
  { s.storeEnded with net.store := s.net.store.set k (some c), net.commit.restore := marksAfter sub s.net.commit.restore }

theorem State.storeEnded_keeps (s : State) : KeepsBut [.timer .store, .net .storing] s s.storeEnded :=
  (s.disarm_keeps .store).append (KeepsBut.write_net (l := [.net .storing]) fun f hf _ _ => by
      cases f with
      | storing => simp at hf  | forceAll | rwAll | sessAll | storeAll | portAll | pmAll | pmXferAll => trivial | _ => exact rfl)

theorem State.storeKept_keeps (k : Fin 2) (c : CfgCopy) (sub : Nat) (s : State) :
    KeepsBut [.timer .store, .net .storing, .net (.store k), .net .commit] s (s.storeKept k c sub) :=
  s.storeEnded_keeps.append (KeepsBut.write_net (l := [.net (.store k), .net .commit]) fun f hf _ _ => by
      cases f with
      | commit => simp at hf | store j => exact vector_set_getElem_ne (by rintro rfl; simp at hf)  | forceAll | rwAll | sessAll | storeAll | portAll
      | pmAll | pmXferAll => trivial | _ => exact rfl)

theorem exec_storeDone_kept {k : Fin 2} {c : CfgCopy} {sub : Nat} {w : Session} {s : State} (storing : s.net.storing = some (k, c, sub, .session w))
    (can : w ≠ .spi) : exec (.storeDone true) s = .next (((s.storeKept k c sub).raise 0x0D0A noInst [sub]).answer w .done) := by
  show execStoreDone true s = _
  unfold execStoreDone
  rw [storing]
  exact congrArg Host.Outcome.next (if_neg can)

theorem exec_storeDone_lost {k : Fin 2} {c : CfgCopy} {sub : Nat} {w : Session} {s : State} (storing : s.net.storing = some (k, c, sub, .session w))
    (can : w ≠ .spi) : exec (.storeDone false) s = .next ((s.storeEnded.raise 0x1104 noInst []).answer w (.abort 0x08000024)) := by
  show execStoreDone false s = _
  unfold execStoreDone
  rw [storing]
  exact congrArg Host.Outcome.next (if_neg can)

theorem State.storeKept_answered_keeps (k : Fin 2) (c : CfgCopy) (sub : Nat) (w : Session) (s : State) :
    KeepsBut (([.timer .store, .net .commit, .net (.store k), .net .storing, .net (.sess (sessIx w))] : List Part) ++ Part.raised) s
      (((s.storeKept k c sub).raise 0x0D0A noInst [sub]).answer w .done) := by
  refine ((State.storeKept_keeps k c sub s).append ((State.raise_keepsBut _ _ _ _).append (State.answer_keeps w .done _))).weaken ?_
  cases w <;> apply Part.Within.checkAt k <;> rfl

/-- Settles O30: Store and Restore are writes with their objects' effects, and a Store that ends answers its session. -/
theorem storeAndRestoreWork : Obligations.StoreAndRestoreWork := by
  unfold Obligations.StoreAndRestoreWork
  refine ⟨fun w scope d s admitted free => ?_, fun w scope d s admitted busy => ?_, fun k c sub w s storing can => ?_,
    fun k c sub w s storing can => ?_, fun w scope d s admitted => ?_⟩
  · have free' : (objStore (scope + 1) (some w)).busy (s.touch w) d = none := if_neg (show ¬ s.storeBusy = true by simp [free])
    have done := State.writeBy_done admitted free' rfl rfl rfl
    rw [State.forward_none (forwards_store scope), if_pos rfl] at done
    have sent : ((objStore (scope + 1) (some w)).effect (some w) d (s.touch w)).net = ((s.touch w).storeBegun (scope + 1) w).net ∧
        ((objStore (scope + 1) (some w)).effect (some w) d (s.touch w)).deadline .store = some (s.now + 40000000) := by
      show (State.storeStart _ _ _).net = _ ∧ (State.storeStart _ _ _).deadline _ = _
      rw [State.storeStart_eq]
      split <;> exact ⟨rfl, State.arm_deadline _ _ _⟩
    refine ⟨_, congrArg Host.Outcome.next done, ?_, ?_, ?_, State.answer_answered _ _ _, ?_, ?_⟩
    · rw [State.answer_net, sent.1]
      rfl
    · rw [State.answer_net, sent.1]
      exact vector_set_eq _ _ _
    · exact sent.2
    · rw [State.answer_net, sent.1]
      rfl
    · exact (KeepsBut.write (State.storeStart_keeps (scope + 1) (.session w) (s.touch w)) .none).weaken (by cases w <;> exact .check rfl)
  · exact ⟨_, congrArg Host.Outcome.next (State.writeBy_busy admitted (if_pos busy)), State.answer_answered _ _ _, rfl, rfl,
      (State.refused_keeps w _ s).weaken (by cases w <;> exact .check rfl)⟩
  · have late := (State.raise_keepsBut 0x0D0A noInst [sub] (s.storeKept k c sub)).append (State.answer_keeps w .done _)
    refine ⟨_, exec_storeDone_kept storing can, ?_, ?_, ?_, Raised.answer (State.raise_raised _ _ _ (by rfl)) _ _, State.answer_answered _ _ _, ?_, ?_⟩
    · exact (late.get (.net (.store k)) rfl).trans (vector_set_eq _ _ _)
    · exact late.get (.net .storing) rfl
    · exact congrArg Commit.restore (late.get (.net .commit) rfl)
    · exact (late.get (.timer .store) rfl).trans (State.disarm_deadline .store s)
    · exact State.storeKept_answered_keeps k c sub w s
  · have late := (State.raise_keepsBut 0x1104 noInst [] s.storeEnded).append (State.answer_keeps w (.abort 0x08000024) _)
    refine ⟨_, exec_storeDone_lost storing can, ?_, ?_, ?_, Raised.answer (State.raise_raised _ _ _ (by rfl)) _ _, State.answer_answered _ _ _, ?_, ?_⟩
    · rw [State.answer_net]
      simp [State.storeEnded]
    · exact late.get (.net .storing) rfl
    · exact congrArg Commit.restore (late.get (.net .commit) rfl)
    · exact (late.get (.timer .store) rfl).trans (State.disarm_deadline .store s)
    · exact (s.storeEnded_keeps.append late).weaken (by cases w <;> exact .check rfl)
  · have done := State.writeBy_local admitted (forwards_restore scope) rfl (rfl : (objRestore (scope + 1)).invalid (s.touch w) d = none) rfl rfl rfl
    refine ⟨_, congrArg Host.Outcome.next done, ?_, ?_, State.answer_answered _ _ _, ?_, ?_⟩
    · rw [State.answer_net]
      simp [objRestore]
    · exact Raised.answer (State.raise_raised _ _ _ (by rfl)) _ _
    · rw [State.answer_net]
      simp [objRestore]
    · exact (KeepsBut.write (KeepsBut.after (State.raise_keepsBut _ _ _ _) (KeepsBut.write_net (l := [.net .commit]) fun f hf _ _ => by
        cases f with
        | commit => simp at hf  | forceAll | rwAll | sessAll | storeAll | portAll | pmAll | pmXferAll => trivial
        | _ => exact rfl)) .done).weaken (by cases w <;> exact .check rfl)

end Sys2Proof.Machine
end

section
/-! PROOFS. The twin's mirror (R388, R389). -/

namespace Sys2Proof.Machine

/-- A standby without a mirror yet, whose timer 0 is an alarm that is due and rings the host's doorbell 3. -/
def State.alarmWaits : State :=
  { State.reset with
    twin.st := .standbyUnsync
    tb.gen := State.reset.tb.gen.set 0 { armed := true, setting := { mode := .alarm, value := 0, action := .doorbell 3, owner := identCode 0 } } }

/-- The first mirror frame sets the time of day, and the alarms that it passes fire. -/
theorem State.alarmWaits_rings :
    ((((State.alarmWaits.alignTo 0 {}).takeMirror {}).arm .mirrorLost 75000).syncCheck).eng.db[(0 : Fin 11)] ≠ State.alarmWaits.eng.db[(0 : Fin 11)] := by
  decide +kernel

/-- Refutes O39: the first mirror frame that a standby takes moves its time of day, an alarm that is due fires and rings its owner's doorbell, which the
list of the parts that the frame may change does not name. -/
theorem not_twinMirrorsState : ¬ Obligations.TwinMirrorsState := by
  unfold Obligations.TwinMirrorsState
  rintro ⟨mirror, -⟩
  obtain ⟨t, ht, -, -, -, -, -, -, -, -, kept⟩ := mirror {} 0 State.alarmWaits rfl rfl
  have run : exec (.mirrorFrameReceived true {} 0) State.alarmWaits = .next _ :=
    congrArg Host.Outcome.next ((if_neg fun off => off.elim (fun h => h rfl) (fun h => h rfl)).trans (if_pos rfl))
  rw [← Host.Outcome.next.inj (run.symm.trans ht)] at kept
  exact State.alarmWaits_rings (kept.get (.eng (.db 0)) rfl)

end Sys2Proof.Machine
end

section
/-! PROOFS. The host's register writes (R36, R324, R325, R329, R331, R450, R451, R474). -/

namespace Sys2Proof.Machine

/-! ## The units behind the writable map (R36) -/

theorem State.hostWrite_outside {a : Nat} (h : mayWrite a = false) (v : Nat) (s : State) : s.hostWrite a v = s := if_pos (by simp [h])

theorem mayWrite_of_lt {off : Nat} (word : off % 4 = 0) (h : off < 0x6000) : mayWrite (0x40000000 + off) = true := by
  simp only [mayWrite, within, Bool.and_eq_true, decide_eq_true_eq]
  omega

theorem State.hostWrite_sys {off : Nat} (word : off % 4 = 0) (h : off < 0x1000) (v : Nat) (s : State) :
    s.hostWrite (0x40000000 + off) v = s.sysWrite off v := by
  rw [State.hostWrite, if_neg (by simp [mayWrite_of_lt word (by omega : off < 0x6000)]), if_pos (by omega), Nat.add_sub_cancel_left]

theorem State.hostWrite_mbx {off : Nat} (word : off % 4 = 0) (h : off < 0x1000) (v : Nat) (s : State) :
    s.hostWrite (0x40002000 + off) v = s.mbxWrite off v := by
  have may : mayWrite (0x40002000 + off) = true := by
    rw [show 0x40002000 + off = 0x40000000 + (0x2000 + off) by omega]
    exact mayWrite_of_lt (by omega) (by omega)
  rw [State.hostWrite, if_neg (by simp [may]), if_neg (by omega), if_neg (by omega), if_pos (by omega), Nat.add_sub_cancel_left]

theorem State.hostWrite_evr {off : Nat} (word : off % 4 = 0) (h : off < 0x1000) (v : Nat) (s : State) :
    s.hostWrite (0x40003000 + off) v = s.evrWrite off v := by
  have may : mayWrite (0x40003000 + off) = true := by
    rw [show 0x40003000 + off = 0x40000000 + (0x3000 + off) by omega]
    exact mayWrite_of_lt (by omega) (by omega)
  rw [State.hostWrite, if_neg (by simp [may]), if_neg (by omega), if_neg (by omega), if_neg (by omega), if_pos (by omega), Nat.add_sub_cancel_left]

theorem State.hostWrite_nvc {off : Nat} (word : off % 4 = 0) (h : off < 0x1000) (v : Nat) (s : State) :
    s.hostWrite (0x40004000 + off) v = s.nvcWrite off v := by
  have may : mayWrite (0x40004000 + off) = true := by
    rw [show 0x40004000 + off = 0x40000000 + (0x4000 + off) by omega]
    exact mayWrite_of_lt (by omega) (by omega)
  rw [State.hostWrite, if_neg (by simp [may]), if_neg (by omega), if_neg (by omega), if_neg (by omega), if_neg (by omega), if_pos (by omega),
    Nat.add_sub_cancel_left]

theorem State.hostWrite_upd {off : Nat} (word : off % 4 = 0) (h : off < 0x1000) (v : Nat) (s : State) :
    s.hostWrite (0x40005000 + off) v = s.updWrite off v := by
  have may : mayWrite (0x40005000 + off) = true := by
    rw [show 0x40005000 + off = 0x40000000 + (0x5000 + off) by omega]
    exact mayWrite_of_lt (by omega) (by omega)
  rw [State.hostWrite, if_neg (by simp [may]), if_neg (by omega), if_neg (by omega), if_neg (by omega), if_neg (by omega), if_neg (by omega),
    Nat.add_sub_cancel_left]

/-! ## The registers -/

theorem State.mbxWrite_data (k : Fin 14) (v : Nat) (s : State) :
    s.mbxWrite (0x104 + 4 * k) v = { s with eng.txData := s.eng.txData.set k (BitVec.ofNat 32 v) } := by
  have := k.isLt
  have at_ : (0x104 + 4 * k.val - 0x104) / 4 = k.val := by omega
  rw [State.mbxWrite, dif_pos (by omega)]
  simp only [at_]

theorem State.updWrite_data (k : Fin 16) (v : Nat) (s : State) :
    s.updWrite (0x040 + 4 * k) v = { s with upd.data := s.upd.data.set k (BitVec.ofNat 32 v) } := by
  have := k.isLt
  have at_ : (0x040 + 4 * k.val - 0x040) / 4 = k.val := by omega
  rw [State.updWrite, dif_pos (by omega)]
  simp only [at_]

theorem State.irqRefresh_keeps (s : State) : KeepsBut [.pins .spiIrq] s s.irqRefresh := State.irqRefresh_keepsBut (by simp) s

theorem State.txDataWrite_keeps (k : Fin 14) (x : BitVec 32) (s : State) :
    KeepsBut [.eng (.txData k)] s { s with eng.txData := s.eng.txData.set k x } := (KeepsBut.write_eng (l := [.eng (.txData k)]) fun f hf _ _ => by
        cases f with
        | txData j => exact vector_set_getElem_ne (by rintro rfl; simp at hf)  | engAll | loadAll | hostAll | epochAll | dbAll | dbMaskAll
        | txDataAll | queueAll | lockAll | armAll => trivial | _ => exact rfl)

theorem State.dbWrite_keeps (k : Fin 11) (x : BitVec 32) (s : State) :
    KeepsBut [.eng (.db k)] s { s with eng.db := s.eng.db.set k x } := (KeepsBut.write_eng (l := [.eng (.db k)]) fun f hf _ _ => by
        cases f with
        | db j => exact vector_set_getElem_ne (by rintro rfl; simp at hf)  | engAll | loadAll | hostAll | epochAll | dbAll | dbMaskAll | txDataAll
        | queueAll | lockAll | armAll => trivial | _ => exact rfl)

theorem State.dbMaskWrite_keeps (k : Fin 11) (x : BitVec 32) (s : State) :
    KeepsBut [.eng (.dbMask k)] s { s with eng.dbMask := s.eng.dbMask.set k x } := (KeepsBut.write_eng (l := [.eng (.dbMask k)]) fun f hf _ _ => by
        cases f with
        | dbMask j => exact vector_set_getElem_ne (by rintro rfl; simp at hf)  | engAll | loadAll | hostAll | epochAll | dbAll | dbMaskAll
        | txDataAll | queueAll | lockAll | armAll => trivial | _ => exact rfl)

theorem State.updDataWrite_keeps (k : Fin 16) (x : BitVec 32) (s : State) :
    KeepsBut [.upd (.data k)] s { s with upd.data := s.upd.data.set k x } := (KeepsBut.write_upd (l := [.upd (.data k)]) fun f hf _ _ => by
        cases f with
        | data j => exact vector_set_getElem_ne (by rintro rfl; simp at hf)  | slotAll | dataAll | keyAll => trivial | _ => exact rfl)

/-- A word written is taken modulo 2^32. -/
theorem ofNat_word (v : Nat) : BitVec.ofNat 32 (v % 2 ^ 32) = BitVec.ofNat 32 v :=
  BitVec.eq_of_toNat_eq (by simp)

/-- Settles O25: each register's write by the unit and the offset that its address has. -/
theorem registerWritesSetTheirRegisters : Obligations.RegisterWritesSetTheirRegisters := by
  unfold Obligations.RegisterWritesSetTheirRegisters
  refine ⟨fun a v s out => ?_, fun k v s up => ?_, fun v s up => ?_, fun v s up => ?_, fun v s up service => ?_, fun s up => ?_,
    fun n v s up owner => ?_, fun s up => ?_, fun v s up => ⟨?_, ?_, ?_⟩, fun k v s up => ?_, fun v s up => ?_⟩
  · refine ⟨s, congrArg Host.Outcome.next ?_, KeepsBut.refl _ s⟩
    rw [State.hostWrite_outside out]
    exact ite_self s
  · refine ⟨_, (exec_registerWrite up _ v).trans (congrArg _ ?_), ?_, fun j h => ?_, State.txDataWrite_keeps k (BitVec.ofNat 32 v) s⟩
    · rw [show 0x40002104 + 4 * k.val = 0x40002000 + (0x104 + 4 * k.val) by omega, State.hostWrite_mbx (by omega) (by omega),
        State.mbxWrite_data, ofNat_word]
    · exact vector_set_eq _ _ _
    · exact vector_set_getElem_ne h
  · exact ⟨_, (exec_registerWrite up _ v).trans (congrArg _ (State.hostWrite_mbx (off := 0x100) rfl (by omega) _ s)), rfl, rfl,
      (KeepsBut.write_eng (l := [.eng .txLen, .eng .txQueue]) fun f hf _ _ => by
          cases f with
          | txLen | txQueue => simp at hf  | engAll | loadAll | hostAll | epochAll | dbAll | dbMaskAll | txDataAll | queueAll | lockAll
          | armAll => trivial | _ => exact rfl)⟩
  · refine ⟨_, (exec_registerWrite up _ v).trans (congrArg _ (State.hostWrite_mbx (off := 0x004) rfl (by omega) _ s)), ?_,
      fun i h => ?_, (KeepsBut.after (State.irqRefresh_keeps _) (State.dbWrite_keeps 0 _ s)).weaken (by exact .check rfl)⟩
    · exact (vector_set_eq _ (0 : Fin 11) _).trans (by rw [ofNat_word])
    · exact vector_set_getElem_ne h
  · refine ⟨_, (exec_registerWrite up _ v).trans (congrArg _ (State.hostWrite_mbx (off := 0x008) rfl (by omega) _ s)), ?_, ?_,
      (KeepsBut.after (State.irqRefresh_keeps _) (State.dbMaskWrite_keeps 0 _ s)).weaken (by exact .check rfl)⟩
    · exact (vector_set_eq _ (0 : Fin 11) _).trans (ofNat_word v)
    · show (if s.eng.service = true then decide (s.eng.db[0] &&& (s.eng.dbMask.set (0 : Fin 11) _)[(0 : Fin 11)] ≠ 0) else _) = _
      rw [if_pos service, vector_set_eq, ofNat_word]
  · refine ⟨_, (exec_registerWrite up _ _).trans (congrArg _ (State.hostWrite_mbx (off := 0x000) rfl (by omega) _ s)), rfl,
      (KeepsBut.after (State.irqRefresh_keeps _) (KeepsBut.write_eng (l := [.eng .fullIrq]) fun f hf _ _ => by
          cases f with
          | fullIrq => simp at hf  | engAll | loadAll | hostAll | epochAll | dbAll | dbMaskAll | txDataAll | queueAll | lockAll | armAll => trivial
          | _ => exact rfl)).weaken (by exact .check rfl)⟩
  · refine ⟨_, (exec_registerWrite up _ v).trans (congrArg _ ((State.hostWrite_lock n _ s).trans (State.lockRelease_owner owner))), ?_,
      s.freeLock_keepsBut n⟩
    rw [State.freeLock_lock, vector_set_eq]
  · exact ⟨_, (exec_registerWrite up _ _).trans (congrArg _ (State.hostWrite_sys (off := 0x050) rfl (by omega) _ s)), rfl, rfl,
      (KeepsBut.write_pins (l := [.pins .brownSeen]) fun f hf _ _ => by
      cases f with
      | brownSeen => simp at hf  | pwmAll | gateAll => trivial | _ => exact rfl)⟩
  · exact ⟨_, (exec_registerWrite up _ v).trans (congrArg _ (State.hostWrite_nvc (off := 0x008) rfl (by omega) _ s)), ofNat_word v, rfl,
      (KeepsBut.write_mem (l := [.mem .nvAddr]) fun f hf _ _ => by
      cases f with
      | nvAddr => simp at hf  | passFromAll | hourCorrAll | hourRaisedAll => trivial | _ => exact rfl)⟩
  · exact ⟨_, (exec_registerWrite up _ v).trans (congrArg _ (State.hostWrite_nvc (off := 0x00C) rfl (by omega) _ s)), ofNat_word v, rfl,
      (KeepsBut.write_mem (l := [.mem .nvData0]) fun f hf _ _ => by
      cases f with
      | nvData0 => simp at hf  | passFromAll | hourCorrAll | hourRaisedAll => trivial | _ => exact rfl)⟩
  · exact ⟨_, (exec_registerWrite up _ v).trans (congrArg _ (State.hostWrite_nvc (off := 0x010) rfl (by omega) _ s)), ofNat_word v, rfl,
      (KeepsBut.write_mem (l := [.mem .nvData1]) fun f hf _ _ => by
      cases f with
      | nvData1 => simp at hf  | passFromAll | hourCorrAll | hourRaisedAll => trivial | _ => exact rfl)⟩
  · refine ⟨_, (exec_registerWrite up _ v).trans (congrArg _ ?_), ?_, State.updDataWrite_keeps k (BitVec.ofNat 32 v) s⟩
    · rw [show 0x40005040 + 4 * k.val = 0x40005000 + (0x040 + 4 * k.val) by omega, State.hostWrite_upd (by omega) (by omega),
        State.updWrite_data, ofNat_word]
    · exact vector_set_eq _ _ _
  · exact ⟨_, (exec_registerWrite up _ v).trans (congrArg _ (State.hostWrite_evr (off := 0x004) rfl (by omega) _ s)),
      congrArg RecWindow.half (vector_set_eq _ (0 : Fin 3) _), vector_set_getElem_ne (i := (0 : Fin 3)) (j := 1) (by simp), State.modWin_keeps 0 _ s⟩

end Sys2Proof.Machine
end

section
/-! PROOFS. PMBus host ports: discovery, polls, lost devices, alerts and clock stretching (R82, R371 to R374). -/

namespace Sys2Proof.Machine

/-- A property that the step of one element of a walk gives, under an invariant of every step, holds after the walk. -/
theorem State.each_reaches {α : Type} {f : α → State → State} {I P : State → Prop} {a : α} (inv : ∀ b s, I s → I (f b s))
    (own : ∀ s, I s → P (f a s)) (others : ∀ b s, I s → P s → P (f b s)) {l : List α} (h : a ∈ l) {s : State} (hs : I s) :
    P (State.each l f s) := by
  have keep : ∀ (l : List α) (s : State), I s → P s → P (State.each l f s) := by
    intro l
    induction l with
    | nil => exact fun _ _ hp => hp
    | cons b l ih => exact fun s hi hp => ih (f b s) (inv b s hi) (others b s hi hp)
  induction l generalizing s with
  | nil => cases h
  | cons b l ih =>
    rcases List.mem_cons.1 h with rfl | h
    · exact keep l _ (inv a s hs) (own s hs)
    · exact ih h (inv b s hs)

/-! ## What a device's record changes -/

theorem State.modPm_pm (d : Fin 32) (f : PmDev → PmDev) (s : State) : (s.modPm d f).net.pm[d] = f s.net.pm[d] := vector_set_eq _ _ _

theorem State.modPm_raw (d : Fin 32) (f : PmDev → PmDev) (s : State) : (s.modPm d f).raw = s.raw := State.raw_congr rfl rfl rfl rfl

/-- Two changes of one device in turn are one. -/
theorem State.modPm_modPm (d : Fin 32) (f g : PmDev → PmDev) (s : State) : (s.modPm d f).modPm d g = s.modPm d (g ∘ f) := by
  simp [State.modPm]

/-- The devices that run, their ports and addresses are the configuration's. -/
theorem State.modPm_device (e : Fin 32) (f : PmDev → PmDev) (d : Fin 32) (s : State) :
    (s.modPm e f).pmRuns d = s.pmRuns d ∧ (s.modPm e f).pmPort d = s.pmPort d ∧ (s.modPm e f).pmAddress d = s.pmAddress d := by
  have raw := State.modPm_raw e f s
  have port : (s.modPm e f).pmPort d = s.pmPort d := by rw [State.pmPort, raw, State.pmPort]
  refine ⟨?_, port, ?_⟩
  · rw [State.pmRuns, port, raw]
    rfl
  · rw [State.pmAddress, raw, State.pmAddress]

/-! ## A poll that is answered (R372) -/

/-- A device that takes word `k` of a poll, in its role. -/
def PmDev.take (role : Nat) (k : Fin 7) (v : Nat) (x : PmDev) : PmDev :=
  if k.val = 0 then { x with status := v % 65536 } else x.setTele (k.val - 1) (pmValue role x.voutMode (k.val - 1) v)

theorem State.pmTake_word {d : Fin 32} {k : Fin 7} {s : State} (all : s.net.pm[d].refused = 0) (v : Nat) :
    s.pmTake d k (.word v true) = s.modPm d (PmDev.take (s.raw 0x2042 (d + 1)) k v) := by
  unfold State.pmTake
  dsimp only
  rw [if_neg (by rw [all]; simp), if_neg (by simp)]
  split
  next first => exact congrArg (s.modPm d) (funext fun x => (if_pos first).symm)
  next later =>
    unfold State.modPm PmDev.take
    rw [if_neg later]

theorem PmDev.take_refused (role : Nat) (k : Fin 7) (v : Nat) (x : PmDev) : (x.take role k v).refused = x.refused := by
  unfold PmDev.take PmDev.setTele
  split
  · rfl
  · split <;> rfl

/-- The words of a poll, taken one after the other. -/
theorem State.each_pmTake {d : Fin 32} (l : List (Fin 7)) (v : Fin 7 → Nat) {s : State} (all : s.net.pm[d].refused = 0) :
    State.each l (fun k => State.pmTake d k (.word (v k) true)) s =
      s.modPm d fun x => l.foldl (fun x k => x.take (s.raw 0x2042 (d + 1)) k (v k)) x := by
  unfold State.each
  induction l generalizing s with
  | nil => simp [State.modPm]
  | cons k l ih =>
    simp only [List.foldl_cons, State.pmTake_word all]
    rw [ih (by rw [State.modPm_pm, PmDev.take_refused, all]), State.modPm_raw, State.modPm_modPm]
    rfl

/-- The record of a device that answers seven words. -/
def PmDev.polled (role : Nat) (v : Vector Nat 7) (x : PmDev) : PmDev :=
  (List.finRange 7).foldl (fun x k => x.take role k v[k]) { x with nacks := 0, st := 2 }

theorem PmDev.polled_eq (role a b c e f g h : Nat) (x : PmDev) :
    (x.polled role #v[a, b, c, e, f, g, h]).st = 2 ∧ (x.polled role #v[a, b, c, e, f, g, h]).nacks = 0 ∧
      (x.polled role #v[a, b, c, e, f, g, h]).status = a % 65536 ∧ (x.polled role #v[a, b, c, e, f, g, h]).tele[0] = some (linear11 b) ∧
      (x.polled role #v[a, b, c, e, f, g, h]).tele[2] = some (linear11 e) ∧
      (x.polled role #v[a, b, c, e, f, g, h]).tele[1] = pmValue role x.voutMode 1 c := by
  refine ⟨rfl, rfl, rfl, ?_, ?_, ?_⟩ <;> simp [PmDev.polled, List.finRange, PmDev.take, PmDev.setTele, pmValue]

/-! ## The lines of a port -/

theorem State.pmLet_keeps (p : Fin 2) (s : State) : KeepsBut [.timer (.pmStretch p), .pins .pmbusReleased, .net (.pmXfer p)] s (s.pmLet p) :=
  (s.disarm_keeps (.pmStretch p)).append (KeepsBut.of_pieces (l := [.pins .pmbusReleased, .net (.pmXfer p)]) { State.Pieces.refl with
      pins_ := fun f hf _ _ => by
        cases f with
        | pmbusReleased => simp at hf  | pwmAll | gateAll => trivial | _ => exact rfl,
      net_ := fun f hf _ _ => by
        cases f with
        | pmXfer j => exact vector_set_getElem_ne (by rintro rfl; simp at hf)  | forceAll | rwAll | sessAll | storeAll | portAll | pmAll
        | pmXferAll => trivial | _ => exact rfl })

theorem State.pmLet_xfer (p : Fin 2) (s : State) : (s.pmLet p).net.pmXfer[p] = none := vector_set_eq _ _ _

theorem exec_pmbusPoll {d : Fin 32} {s : State} (runs : s.pmRuns d = true) (free : s.net.pmXfer[s.pmPort d] = none ∨ s.net.pmXfer[s.pmPort d] = some d)
    (r : PmPoll) : exec (.pmbusPoll d r) s = .next
      (match r with
      | .stretched => s.pmHold d
      | .stuck => (s.pmLet (s.pmPort d)).raise 0x0D12 ((s.pmLet (s.pmPort d)).pmPort d) []
      | .noAck => (s.pmLet (s.pmPort d)).modPm d fun x => { x with nacks := satInc 3 x.nacks }
      | .words w =>
        if ¬ ((s.pmLet (s.pmPort d)).modPm d fun x => { x with nacks := 0 }).net.pm[d].discovered then
          (s.pmLet (s.pmPort d)).modPm d fun x => { x with nacks := 0 }
        else State.each (List.finRange 7) (fun k => State.pmTake d k w[k])
          (((s.pmLet (s.pmPort d)).modPm d fun x => { x with nacks := 0 }).modPm d fun x => { x with st := 2 })) := by
  have go : ¬ (¬ s.pmRuns d = true ∨ (s.net.pmXfer[s.pmPort d]).isSome = true ∧ s.net.pmXfer[s.pmPort d] ≠ some d) := by
    rcases free with free | free <;> simp [runs, free]
  cases r <;> exact congrArg Host.Outcome.next (if_neg go)

/-- A poll with seven words of a device that is known and refuses none. -/
theorem exec_pmbusPoll_words {d : Fin 32} {s : State} (runs : s.pmRuns d = true)
    (free : s.net.pmXfer[s.pmPort d] = none ∨ s.net.pmXfer[s.pmPort d] = some d) (known : s.net.pm[d].discovered = true)
    (all : s.net.pm[d].refused = 0) (v : Vector Nat 7) :
    exec (.pmbusPoll d (.words (v.map fun v => .word v true))) s =
      .next ((s.pmLet (s.pmPort d)).modPm d (PmDev.polled (s.raw 0x2042 (d + 1)) v)) := by
  have known' : ((s.pmLet (s.pmPort d)).modPm d fun x => { x with nacks := 0 }).net.pm[d].discovered = true := by
    rw [State.modPm_pm]
    exact known
  have words (k : Fin 7) : (v.map fun v => PmWord.word v true)[k] = .word v[k] true := by simp
  refine (exec_pmbusPoll runs free _).trans (congrArg _ ?_)
  dsimp only
  rw [if_neg (by simpa using known')]
  simp only [words]
  rw [State.each_pmTake (List.finRange 7) (fun k => v[k]) (by rw [State.modPm_pm, State.modPm_pm]; exact all), State.modPm_raw, State.modPm_raw,
    State.modPm_modPm, State.modPm_modPm]
  exact congrArg (fun r : Nat → Nat → Nat => (s.pmLet (s.pmPort d)).modPm d (PmDev.polled (r 0x2042 (d + 1)) v))
    (State.raw_congr rfl rfl rfl rfl : (s.pmLet (s.pmPort d)).raw = s.raw)

/-- What an alert does at device `d` (R374). -/
def State.alertAt (p : Fin 2) (a v : Nat) (d : Fin 32) (s : State) : State :=
  if s.pmRuns d ∧ s.pmPort d = p ∧ s.pmAddress d = a ∧ s.net.pm[d].st ≠ 1 then s.modPm d fun x => { x with st := 3, status := v % 65536 } else s

theorem State.alertAt_keeps (p : Fin 2) (a v : Nat) (d : Fin 32) (s : State) : KeepsBut [.net .pmAll] s (s.alertAt p a v d) :=
  KeepsBut.ite _ (KeepsBut.whole (State.modPm_keeps d _ s) rfl) (KeepsBut.refl _ s)

theorem State.alertAt_other {p : Fin 2} {a v : Nat} {d e : Fin 32} (h : d ≠ e) (s : State) : (s.alertAt p a v e).net.pm[d] = s.net.pm[d] := by
  unfold State.alertAt
  split
  · exact vector_set_getElem_ne h
  · rfl

theorem State.alertAt_device (p : Fin 2) (a v : Nat) (d e : Fin 32) (s : State) :
    (s.alertAt p a v e).pmRuns d = s.pmRuns d ∧ (s.alertAt p a v e).pmPort d = s.pmPort d ∧ (s.alertAt p a v e).pmAddress d = s.pmAddress d := by
  unfold State.alertAt
  split
  · exact State.modPm_device e _ d s
  · exact ⟨rfl, rfl, rfl⟩

/-- After the walk of an alert the device that answers shows it. -/
theorem State.alerted {p : Fin 2} {a v : Nat} {d : Fin 32} {s : State} (runs : s.pmRuns d = true) (port : s.pmPort d = p) (address : s.pmAddress d = a)
    (here : s.net.pm[d].st ≠ 1) :
    (State.each (List.finRange 32) (State.alertAt p a v) s).net.pm[d].st = 3 ∧
      (State.each (List.finRange 32) (State.alertAt p a v) s).net.pm[d].status = v % 65536 := by
  have own (t : State) (h : t.pmRuns d = true ∧ t.pmPort d = p ∧ t.pmAddress d = a ∧ t.net.pm[d].st ≠ 1) :
      (t.alertAt p a v d).net.pm[d].st = 3 ∧ (t.alertAt p a v d).net.pm[d].status = v % 65536 := by
    rw [State.alertAt, if_pos h, State.modPm_pm]
    exact ⟨rfl, rfl⟩
  refine State.each_reaches (f := State.alertAt p a v) (a := d)
    (I := fun t => t.pmRuns d = true ∧ t.pmPort d = p ∧ t.pmAddress d = a ∧ t.net.pm[d].st ≠ 1)
    (P := fun t => t.net.pm[d].st = 3 ∧ t.net.pm[d].status = v % 65536)
    (fun e t h => ?_) own (fun e t hi hp => ?_) (List.mem_finRange d) ⟨runs, port, address, here⟩
  · obtain ⟨runs', port', address'⟩ := State.alertAt_device p a v d e t
    obtain ⟨runs, port, address, here⟩ := h
    refine ⟨runs'.trans runs, port'.trans port, address'.trans address, ?_⟩
    by_cases same : d = e
    · subst same
      rw [(own t ⟨runs, port, address, here⟩).1]
      simp
    · rw [State.alertAt_other same]
      exact here
  · by_cases same : d = e
    · exact same ▸ own t hi
    · rw [State.alertAt_other same]
      exact hp

/-- The effect of a poll that is answered. -/
theorem State.pollTaken {d : Fin 32} {a b c e f g h : Nat} {s : State} (runs : s.pmRuns d = true) (known : s.net.pm[d].discovered = true)
    (all : s.net.pm[d].refused = 0) (free : s.net.pmXfer[s.pmPort d] = none ∨ s.net.pmXfer[s.pmPort d] = some d) :
    Completes (.pmbusPoll d (.words #v[.word a true, .word b true, .word c true, .word e true, .word f true, .word g true, .word h true])) s fun t =>
      (t.net.pm[d]).st = 2 ∧ (t.net.pm[d]).nacks = 0 ∧ (t.net.pm[d]).status = a % 65536 ∧ (t.net.pm[d]).tele[0] = some (linear11 b) ∧
        (t.net.pm[d]).tele[2] = some (linear11 e) ∧
      (t.net.pm[d]).tele[1] = pmValue (s.raw 0x2042 (d + 1)) (s.net.pm[d]).voutMode 1 c ∧ (∀ e : Fin 32, e ≠ d → t.net.pm[e] = s.net.pm[e]) ∧
        t.net.pmXfer[s.pmPort d] = none ∧ KeepsBut [.pins .pmbusReleased, .net (.pmXfer (State.pmPort s d)), .net .pmAll, .timers] s t := by
  have words : #v[PmWord.word a true, .word b true, .word c true, .word e true, .word f true, .word g true, .word h true] =
      (#v[a, b, c, e, f, g, h]).map fun v => .word v true := by simp
  obtain ⟨st, nacks, status, tele0, tele2, tele1⟩ := PmDev.polled_eq (s.raw 0x2042 (d + 1)) a b c e f g h s.net.pm[d]
  have at_ : ((s.pmLet (s.pmPort d)).modPm d (PmDev.polled (s.raw 0x2042 (d + 1)) #v[a, b, c, e, f, g, h])).net.pm[d] =
      PmDev.polled (s.raw 0x2042 (d + 1)) #v[a, b, c, e, f, g, h] s.net.pm[d] := State.modPm_pm _ _ _
  rw [words]
  refine ⟨_, exec_pmbusPoll_words runs free known all #v[a, b, c, e, f, g, h], ?_⟩
  beta_reduce
  rw [at_]
  exact ⟨st, nacks, status, tele0, tele2, tele1, fun e h => vector_set_getElem_ne h, s.pmLet_xfer _,
    ((s.pmLet_keeps _).append (KeepsBut.whole (State.modPm_keeps d _ _) rfl)).weaken
      (by generalize s.pmPort d = p; apply Part.Within.checkAt p; rfl)⟩

/-- Settles O35: each command's effect on its device, or on the lines of its port. -/
theorem pmbusDevicesArePolled : Obligations.PmbusDevicesArePolled := by
  unfold Obligations.PmbusDevicesArePolled
  refine ⟨fun d mode s runs fresh => ?_, fun d a b c e f g h s runs known all free => ?_, fun d s runs free => ?_, fun d s runs free => ⟨?_, ?_⟩,
    fun d s runs missed here => ?_, fun p a v s runs => ?_, fun p s held due => ?_⟩
  · refine ⟨_, congrArg Host.Outcome.next (if_neg (by rw [runs, fresh]; decide)), ?_, ?_, ?_, ?_, fun role => ?_,
      fun e h => vector_set_getElem_ne h, State.modPm_keeps d _ s⟩ <;> rw [State.modPm_pm]
    exact if_pos role
  · exact State.pollTaken runs known all free
  · have held : s.pmHold d = { s.arm (.pmStretch (s.pmPort d)) 25000000 with
        net.pmXfer := s.net.pmXfer.set (s.pmPort d) (some d)
        pins.pmbusReleased := s.pins.pmbusReleased &&& ~~~ BitVec.ofNat 2 (2 ^ (s.pmPort d).val) } := if_neg (by simp [free])
    refine ⟨_, (exec_pmbusPoll runs (.inl free) .stretched).trans (congrArg _ held), vector_set_eq _ _ _, ?_, State.arm_deadline _ _ s, ?_⟩
    · rw [BitVec.getLsbD_and, BitVec.getLsbD_not, getLsbD_ofNat_two_pow (s.pmPort d).isLt]
      simp
    · exact ((s.arm_keeps _ _).append (KeepsBut.of_pieces (l := [.pins .pmbusReleased, .net (.pmXfer (s.pmPort d))]) { State.Pieces.refl with
        pins_ := fun f hf _ _ => by
          cases f with
          | pmbusReleased => simp at hf  | pwmAll | gateAll => trivial | _ => exact rfl,
        net_ := fun f hf _ _ => by
          cases f with
          | pmXfer j => exact vector_set_getElem_ne (by rintro rfl; simp at hf)  | forceAll | rwAll | sessAll | storeAll | portAll | pmAll
          | pmXferAll => trivial | _ => exact rfl })).weaken (by simp [Part.Within])
  · refine ⟨_, exec_pmbusPoll runs (.inl free) .noAck, ?_, ?_, ((s.pmLet_keeps _).append (State.modPm_keeps d _ _)).weaken (by simp [Part.Within])⟩ <;>
      rw [State.modPm_pm] <;> rfl
  · refine ⟨_, exec_pmbusPoll runs (.inl free) .stuck, ?_, ?_, ?_⟩
    · have port : (s.pmLet (s.pmPort d)).pmPort d = s.pmPort d := by
        rw [State.pmPort, (State.raw_congr rfl rfl rfl rfl : (s.pmLet (s.pmPort d)).raw = s.raw), State.pmPort]
      rw [port]
      exact State.raise_raised _ _ _ rfl
    · simp [State.pmLet]
    · exact ((s.pmLet_keeps _).append (State.raise_keepsBut _ _ _ _)).weaken (by generalize s.pmPort d = p; apply Part.Within.checkAt p; rfl)
  · refine ⟨_, congrArg Host.Outcome.next (if_pos ⟨runs, missed, here⟩), ?_, ?_, State.raise_raised _ _ _ rfl,
      ((State.modPm_keeps d _ s).append (State.raise_keepsBut _ _ _ _)).weaken (by apply Part.Within.checkAt d; rfl)⟩
    all_goals simp [State.modPm]
  · have run : exec (.pmbusAlert p (some (a, v))) s = .next ((State.each (List.finRange 32) (State.alertAt p a v) s).raise 0x0D11 p [a, v]) :=
      congrArg Host.Outcome.next (if_neg (by rw [runs]; decide))
    have walk := KeepsBut.each (fun d s => State.alertAt_keeps p a v d s) (List.finRange 32) s
    refine ⟨_, run, fun d runs port address here => ?_, State.raise_raised _ _ _ ?_,
      (walk.append (State.raise_keepsBut _ _ _ _)).weaken (by exact .check rfl)⟩
    · have alerted := State.alerted (v := v) runs port address here
      have raised := (State.raise_keepsBut 0x0D11 p [a, v] (State.each (List.finRange 32) (State.alertAt p a v) s)).get (.net (.pm d)) rfl
      exact ⟨(congrArg PmDev.st raised).trans alerted.1, (congrArg PmDev.status raised).trans alerted.2⟩
    · exact walk.get (.evr .staging) rfl
  · refine ⟨_, congrArg Host.Outcome.next (if_pos ⟨held, due⟩), s.pmLet_xfer p, ?_, State.disarm_deadline _ s, s.pmLet_keeps p⟩
    show (s.pins.pmbusReleased ||| BitVec.ofNat 2 (2 ^ p.val)).getLsbD p = true
    rw [BitVec.getLsbD_or, getLsbD_ofNat_two_pow p.isLt]
    simp

end Sys2Proof.Machine
end

section
/-! PROOFS. The cascade: frames, master, time and allocation (R399 to R405). -/

namespace Sys2Proof.Machine

theorem State.cascSteer_keeps (err : Rat) (s : State) :
    KeepsBut [.tb .lock, .tb .changes, .tb .lastChange, .tb .lockRun, .tb .refLock, .tb .freqOnly, .tb .phaseStage, .tb .cascOk, .timer .holdoverSec,
        .casc .lockRun, .casc .err, .casc .relay, .timer .cascTimeLost, .tb .stepPending, .tb .slewLeft, .tb .slewOff, .tb .slewEnd, .tb .steering,
        .tb .freqCorr, .tb .steerHist] s (State.cascSteer err s) := by
  unfold State.cascSteer
  dsimp only
  refine KeepsBut.viaIf (KeepsBut.weaken (State.lockNow_keeps _) (by exact .check rfl)) ?_
  refine KeepsBut.via (State.steerTo_keeps _ _ _ _) (by exact .check rfl) ?_
  refine KeepsBut.ite _ ?_ ?_
  · refine KeepsBut.via (State.correctPhase_keeps _ _) (by exact .check rfl) ?_
    exact KeepsBut.viaElse (KeepsBut.weaken (KeepsBut.after (State.refGained_keeps _) (KeepsBut.write_tb (l := [.tb .cascOk]) fun f hf _ _ => by
        cases f with
        | cascOk => simp at hf | genAll | loopPAll | loopFAll | recFAll => trivial | _ => exact rfl)) (by exact .check rfl)) (KeepsBut.weaken
        (KeepsBut.after (State.arm_keeps _ _ _) (KeepsBut.write_casc (l := [.casc .lockRun, .casc .err, .casc .relay]) fun f hf _ _ => by
        cases f with
        | lockRun | err | relay => simp at hf | allocsAll | pReqAll | pMaxAll | wAll | socAll | reportAtAll => trivial
        | _ => exact rfl)) (by exact .check rfl))
  · refine KeepsBut.via (State.slewStop_keeps _) (by exact .check rfl) ?_
    exact KeepsBut.viaElse (KeepsBut.weaken (KeepsBut.after (State.refGained_keeps _) (KeepsBut.write_tb (l := [.tb .cascOk]) fun f hf _ _ => by
        cases f with
        | cascOk => simp at hf | genAll | loopPAll | loopFAll | recFAll => trivial | _ => exact rfl)) (by exact .check rfl)) (KeepsBut.weaken
        (KeepsBut.after (State.arm_keeps _ _ _) (KeepsBut.write_casc (l := [.casc .lockRun, .casc .err, .casc .relay]) fun f hf _ _ => by
        cases f with
        | lockRun | err | relay => simp at hf | allocsAll | pReqAll | pMaxAll | wAll | socAll | reportAtAll => trivial
        | _ => exact rfl)) (by exact .check rfl))

theorem State.leaveRing_keeps (s : State) :
    KeepsBut (([.timer .cascAlloc, .timer .masterLost, .timer .cascReport, .tb .cascOk, .casc .st, .casc .master] : List Part) ++ Part.raised)
        s (State.leaveRing s) := by
  unfold State.leaveRing
  dsimp only
  exact KeepsBut.weaken (KeepsBut.after (State.raise_keepsBut _ _ _ _) (KeepsBut.after (KeepsBut.of_pieces (l := [.tb .cascOk, .casc .st,
      .casc .master]) { State.Pieces.refl with
      tb_ := fun f hf _ _ => by
        cases f with
        | cascOk => simp at hf | genAll | loopPAll | loopFAll | recFAll => trivial | _ => exact rfl,
      casc_ := fun f hf _ _ => by
        cases f with
        | st | master => simp at hf | allocsAll | pReqAll | pMaxAll | wAll | socAll | reportAtAll => trivial | _ => exact rfl })
        (KeepsBut.after (State.disarm_keeps _ _) (KeepsBut.after (State.disarm_keeps _ _) (State.disarm_keeps _ _))))) (by exact .check rfl)

theorem State.allocate_keeps (s : State) :
    KeepsBut [.casc .allocNext, .casc .number, .casc .allocsAll, .twin .sent] s (State.allocate s) := by
  unfold State.allocate
  dsimp only
  exact KeepsBut.weaken (KeepsBut.after (State.launch_keeps _ _) (KeepsBut.write_casc (l := [.casc .allocNext, .casc .number, .casc .allocsAll])
      fun f hf hw _ => by
      cases f with
      | allocNext | number => simp at hf | allocs => simp [Part.whole, CascPart.whole] at hw | allocsAll | pReqAll | pMaxAll | wAll | socAll
      | reportAtAll => trivial | _ => exact rfl)) (by exact .check rfl)

theorem State.takeReport_keeps (pos : Fin 8) (pReq : Rat) (pMax : Rat) (w : Rat) (soc : Rat) (s : State) :
    KeepsBut [.casc (.pReq pos), .casc (.pMax pos), .casc (.w pos), .casc (.soc pos), .casc (.reportAt pos)]
        s (State.takeReport pos pReq pMax w soc s) := by
  unfold State.takeReport
  dsimp only
  exact KeepsBut.weaken (KeepsBut.write_casc (l := [.casc (.pReq pos), .casc (.pMax pos), .casc (.w pos), .casc (.soc pos), .casc (.reportAt pos)])
      fun f hf _ _ => by
      cases f with
      | pReq j => exact vector_set_getElem_ne (by rintro rfl; simp at hf) | pMax j => exact vector_set_getElem_ne (by rintro rfl; simp at hf)
      | w j => exact vector_set_getElem_ne (by rintro rfl; simp at hf) | soc j => exact vector_set_getElem_ne (by rintro rfl; simp at hf)
      | reportAt j => exact vector_set_getElem_ne (by rintro rfl; simp at hf) | allocsAll | pReqAll | pMaxAll | wAll | socAll
      | reportAtAll => trivial | _ => exact rfl) (by apply Part.Within.checkAt pos; rfl)

theorem State.masterSeen_keeps (src : Byte) (s : State) :
    KeepsBut [.casc .st, .timer .masterLost] s (State.masterSeen src s) := by
  unfold State.masterSeen
  dsimp only
  exact KeepsBut.ite _ (KeepsBut.refl _ _) (KeepsBut.weaken (KeepsBut.after (State.arm_keeps _ _ _) (KeepsBut.write_casc (l := [.casc .st])
      fun f hf _ _ => by
      cases f with
      | st => simp at hf | allocsAll | pReqAll | pMaxAll | wAll | socAll | reportAtAll => trivial | _ => exact rfl)) (by exact .check rfl))

theorem State.forwardOn_keeps (s : State) :
    KeepsBut [.casc .forwarded] s (State.forwardOn s) := by
  unfold State.forwardOn
  dsimp only
  exact KeepsBut.weaken (KeepsBut.write_casc (l := [.casc .forwarded]) fun f hf _ _ => by
      cases f with
      | forwarded => simp at hf | allocsAll | pReqAll | pMaxAll | wAll | socAll | reportAtAll => trivial | _ => exact rfl) (by exact .check rfl)

/-! ## The commands' own objects are not forwarded (R393) -/

theorem forwards_commands : ∀ p ∈ [(0x1003, 0), (0x2002, 3), (0x2003, 2), (0x2003, 5), (0x2010, 1), (0x2010, 3), (0x2E41, 4), (0x3000, 6), (0x3000, 7),
    (0x3000, 8), (0x3010, 6), (0x3200, 5), (0x3200, 7), (0x3201, 1), (0x3400, 2), (0x3400, 4), (0x3400, 5), (0x3400, 6), (0x3400, 7), (0x3400, 8),
    (0x3600, 1), (0x3600, 3), (0x3620, 3), (0x3A00, 1), (0x5F20, 2), (0x5F20, 3), (0x5F20, 7)], forwards p.1 p.2 = false := by decide +kernel

/-! ## Timers that later changes leave -/

theorem Stopped.kept {l : List Part} {x : TimerId} {a t : State} (h : Stopped x a) (k : KeepsBut l a t) (out : Part.outside l (.timer x) = true) :
    Stopped x t := (k.get (.timer x) out).trans h

theorem Ends.kept {l : List Part} {x : TimerId} {n : Nat} {s a t : State} (h : Ends x n s a) (k : KeepsBut l a t)
    (out : Part.outside l (.timer x) = true) : Ends x n s t := (k.get (.timer x) out).trans h

/-! ## A cascade frame that arrives (R399, R400) -/

/-- A frame of another position for this chip, in the ring, has its own effect. -/
theorem State.cascTake_taken {dst src : Byte} {s : State} (up : s.up = true) (ring : s.inRing = true) (me : s.forMe dst = true)
    (far : srcPos src ≠ s.pins.cascPos.val) (f : State → State) : s.cascTake true dst src false f = f s := by
  simp only [State.inRing, Bool.decide_and, Bool.and_eq_true, decide_eq_true_eq] at ring
  simp [State.cascTake, State.frameIn, up, ring.1, ring.2, me, far]

theorem State.cascTake_forwarded {dst src : Byte} {s : State} (up : s.up = true) (casc : s.casc.st ≠ .off) (me : s.forMe dst = false) (own : Bool)
    (f : State → State) : s.cascTake true dst src own f = s.forwardOn := by
  simp [State.cascTake, State.frameIn, up, casc, me]

theorem State.cascTake_duplicate {dst src : Byte} {s : State} (up : s.up = true) (ring : s.inRing = true) (me : s.forMe dst = true)
    (here : srcPos src = s.pins.cascPos.val) (f : State → State) : s.cascTake true dst src false f = s.leaveRing := by
  simp only [State.inRing, Bool.decide_and, Bool.and_eq_true, decide_eq_true_eq] at ring
  simp [State.cascTake, State.frameIn, up, ring.1, ring.2, me, here]

theorem State.inRing_of_isMaster {s : State} (h : s.isMaster = true) : s.inRing = true := by
  simp only [State.isMaster, Bool.decide_or, Bool.or_eq_true, decide_eq_true_eq] at h
  rcases h with h | h <;> simp [State.inRing, h]

theorem State.inRing_of_member {s : State} (h : s.casc.st = .member ∨ s.casc.st = .frozen) : s.inRing = true := by
  rcases h with h | h <;> simp [State.inRing, h]

theorem State.not_isMaster_of_member {s : State} (h : s.casc.st = .member ∨ s.casc.st = .frozen) : s.isMaster = false := by
  rcases h with h | h <;> simp [State.isMaster, h]

/-- The chip is a member that watches its master for 1 s. -/
def State.watching (s : State) : State := ({ s with casc.st := .member } : State).arm .masterLost 1000000000

theorem State.watching_keeps (s : State) : KeepsBut [.casc .st, .timer .masterLost] s s.watching :=
  ((KeepsBut.write_casc (l := [.casc .st]) fun f hf _ _ => by
      cases f with
      | st => simp at hf  | allocsAll | pReqAll | pMaxAll | wAll | socAll | reportAtAll => trivial
      | _ => exact rfl) : KeepsBut [.casc .st] s { s with casc.st := .member }).append (State.arm_keeps _ _ _)

/-- What its master's frame does at a member (R405). -/
theorem State.masterSeen_of_member {src : Byte} {s : State} (h : s.casc.st = .member ∨ s.casc.st = .frozen) (from_ : srcPos src = s.casc.master) :
    s.masterSeen src = s.watching := if_neg (by simp [State.not_isMaster_of_member h, from_])

theorem State.masterSeen_of_isMaster {src : Byte} {s : State} (h : s.isMaster = true) : s.masterSeen src = s := if_pos (.inl h)

/-! ## The ring left (R399) -/

theorem State.leaveRing_eq (s : State) : s.leaveRing.casc.st = .duplicate ∧ s.leaveRing.casc.master = 0xFF ∧ s.leaveRing.tb.cascOk = false := by
  simp [State.leaveRing]

/-- The ring's timers stopped. -/
def State.ringTimersOff (s : State) : State := ((s.disarm .cascAlloc).disarm .masterLost).disarm .cascReport

theorem State.ringTimersOff_stopped (s : State) : Stopped .cascAlloc s.ringTimersOff ∧ Stopped .masterLost s.ringTimersOff :=
  ⟨Stopped.kept (State.disarm_deadline .cascAlloc s) ((State.disarm_keeps .masterLost _).append (State.disarm_keeps .cascReport _)) rfl,
    Stopped.kept (State.disarm_deadline .masterLost _) (State.disarm_keeps .cascReport _) rfl⟩

/-- The state as the ring is left, before the code is raised. -/
def State.ringLeft (s : State) : State := { s.ringTimersOff with casc.st := .duplicate, casc.master := 0xFF, tb.cascOk := false }

theorem State.leaveRing_stopped (s : State) : Stopped .cascAlloc s.leaveRing ∧ Stopped .masterLost s.leaveRing :=
  ⟨Stopped.kept (a := s.ringLeft) s.ringTimersOff_stopped.1 (State.raise_keepsBut _ _ _ _) rfl,
    Stopped.kept (a := s.ringLeft) s.ringTimersOff_stopped.2 (State.raise_keepsBut _ _ _ _) rfl⟩

/-! ## Promotion (R405) -/

/-- What PROMOTE does. -/
def State.promoted (s : State) : State :=
  ((({ s with casc.st := .promoted, casc.master := s.pins.cascPos.val, casc.demote := false } : State).launch
    (.announcement s.pins.cascPos.val true)).disarm .masterLost).arm .cascAlloc (s.ns 0x3010 0x0A)

theorem State.promoted_keeps (s : State) :
    KeepsBut [.casc .st, .casc .master, .casc .demote, .twin .sent, .timer .masterLost, .timer .cascAlloc] s s.promoted :=
  ((KeepsBut.write_casc (l := [.casc .st, .casc .master, .casc .demote]) fun f hf _ _ => by
      cases f with
      | st | master | demote => simp at hf  | allocsAll | pReqAll | pMaxAll | wAll | socAll | reportAtAll => trivial
      | _ => exact rfl) : KeepsBut [.casc .st, .casc .master, .casc .demote] s
    { s with casc.st := .promoted, casc.master := s.pins.cascPos.val, casc.demote := false }).append
    ((State.launch_keeps _ _).append ((State.disarm_keeps _ _).append (State.arm_keeps _ _ _)))

theorem State.promoted_evr (s : State) : s.promoted.evr = s.evr := rfl

theorem State.promoted_cascAlloc (w : Session) (s : State) : Ends .cascAlloc (s.ns 0x3010 0x0A) s (s.touch w).promoted := State.arm_deadline _ _ _

theorem State.promoted_masterLost (s : State) : Stopped .masterLost s.promoted :=
  Stopped.kept (State.disarm_deadline _ _) (State.arm_keeps .cascAlloc _ _) rfl

theorem exec_promote_of_frozen {w : Session} {d : List Byte} {s : State} (a : s.admits w 0x3010 6 d = true) (frozen : s.casc.st = .frozen) :
    exec (.promote w d) s = .next (((s.touch w).promoted.raise 0x0E13 noInst []).answer w .done) := by
  have allowed : (s.touch w).promotionRefused = false := by simp [State.promotionRefused, frozen]
  exact congrArg Host.Outcome.next
    (State.writeBy_local a (forwards_commands (0x3010, 6) (by simp)) rfl rfl (if_neg (by rw [allowed]; exact Bool.false_ne_true) : objPromote.busy (s.touch w) d = none) rfl rfl)

/-- Settles O42: a frame is forwarded, taken or a duplicate's; the master's loss freezes and PROMOTE promotes. -/
theorem cascadeMasterAndRing : Obligations.CascadeMasterAndRing := by
  unfold Obligations.CascadeMasterAndRing
  refine ⟨fun s due member => ?_, fun w d s a frozen => ?_, fun w d s a refused => ?_, fun dst src s up member me far => ?_,
    fun dst src promotion s up master me far => ?_, fun dst src own promotion l n s up casc me => ⟨?_, ?_⟩, fun dst src l n s up ring me here => ?_⟩
  · have run : exec .masterLost s = .next (({ s.disarm .masterLost with casc.st := .frozen } : State).raise 0x0E12 noInst []) :=
      (congrArg Host.Outcome.next (if_pos due)).trans (congrArg Host.Outcome.next (if_pos member))
    exact ⟨_, run, by simp, State.raise_raised _ _ _ rfl, 
      Stopped.kept (a := { s.disarm .masterLost with casc.st := .frozen }) (State.disarm_deadline _ s) (State.raise_keepsBut _ _ _ _) rfl,
      (s.disarm_keeps .masterLost).append (((KeepsBut.write_casc (l := [.casc .st]) fun f hf _ _ => by
          cases f with
          | st => simp at hf  | allocsAll | pReqAll | pMaxAll | wAll | socAll | reportAtAll => trivial
          | _ => exact rfl) : KeepsBut [.casc .st] (s.disarm .masterLost)
        { s.disarm .masterLost with casc.st := .frozen }).append (State.raise_keepsBut _ _ _ _))⟩
  · have later := (State.raise_keepsBut 0x0E13 noInst [] (s.touch w).promoted).append (State.answer_keeps w .done _)
    refine ⟨_, exec_promote_of_frozen a frozen, State.answer_answered _ _ _, ?_, ?_, ?_,
      Raised.answer (State.raise_raised _ _ _ (State.promoted_evr _ ▸ rfl)) _ _,
      Stopped.kept (State.promoted_masterLost _) later (by cases w <;> rfl), Ends.kept (s.promoted_cascAlloc w) later (by cases w <;> rfl),
      (((State.promoted_keeps _).append (State.raise_keepsBut _ _ _ _)).write .done).weaken (by cases w <;> exact .check rfl)⟩
    · exact later.get (.casc .st) (by cases w <;> rfl)
    · exact later.get (.casc .master) (by cases w <;> rfl)
    · exact congrArg List.head? (later.get (.twin .sent) (by cases w <;> rfl))
  · exact ⟨_, congrArg Host.Outcome.next (State.writeBy_busy a (if_pos refused)), State.answer_answered _ _ _,
      (State.refused_keeps w _ s).weaken (by cases w <;> exact .check rfl)⟩
  · have master : ({ s with casc.master := srcPos src } : State).isMaster = false := State.not_isMaster_of_member member
    have run : exec (.masterAnnouncementReceived true dst src false true) s = .next ({ s with casc.master := srcPos src } : State).watching :=
      (congrArg Host.Outcome.next (State.cascTake_taken up (State.inRing_of_member member) me far _)).trans (congrArg Host.Outcome.next
        ((if_neg (by simp [master])).trans ((if_pos (.inl rfl)).trans (State.masterSeen_of_member member rfl))))
    exact ⟨_, run, rfl, rfl, State.arm_deadline _ _ _, (((KeepsBut.write_casc (l := [.casc .master]) fun f hf _ _ => by
        cases f with
        | master => simp at hf  | allocsAll | pReqAll | pMaxAll | wAll | socAll | reportAtAll => trivial
        | _ => exact rfl) : KeepsBut [.casc .master] s
      { s with casc.master := srcPos src }).append (State.watching_keeps _)).weaken (by exact .check rfl)⟩
  · have master' : ({ s with casc.master := srcPos src } : State).isMaster = true := master
    have run : exec (.masterAnnouncementReceived true dst src false promotion) s =
        .next { s with casc.master := srcPos src, casc.demote := true } :=
      (congrArg Host.Outcome.next (State.cascTake_taken up (State.inRing_of_isMaster master) me far _)).trans
        (congrArg Host.Outcome.next (if_pos master'))
    exact ⟨_, run, rfl, rfl, rfl, ((KeepsBut.write_casc (l := [.casc .master, .casc .demote]) fun f hf _ _ => by
        cases f with
        | master | demote => simp at hf  | allocsAll | pReqAll | pMaxAll | wAll | socAll | reportAtAll => trivial
        | _ => exact rfl) : KeepsBut [.casc .master, .casc .demote] s
      { s with casc.master := srcPos src, casc.demote := true }).weaken (by exact .check rfl)⟩
  · exact ⟨_, congrArg Host.Outcome.next (State.cascTake_forwarded up casc me own _), rfl, s.forwardOn_keeps.weaken (by exact .check rfl)⟩
  · exact ⟨_, congrArg Host.Outcome.next (State.cascTake_forwarded up casc me own _), rfl, s.forwardOn_keeps.weaken (by exact .check rfl)⟩
  · obtain ⟨st, master, ok⟩ := s.leaveRing_eq
    exact ⟨_, congrArg Host.Outcome.next (State.cascTake_duplicate up ring me here _), st, master, ok, State.raise_raised _ _ _ rfl,
      s.leaveRing_stopped.1, s.leaveRing_stopped.2, s.leaveRing_keeps.weaken (by exact .check rfl)⟩

end Sys2Proof.Machine
end

section
/-! PROOFS. The cascade's time, its reports and its allocation (R401 to R405). -/

namespace Sys2Proof.Machine

/-! ## The cascade's time (R401) -/

/-- A time frame's error, taken. -/
def State.errorTaken (err : Rat) (s : State) : State :=
  { s with casc.err := err / 1000000000, casc.relay := true, casc.lockRun := if absR err ≤ 20 then satInc 1000 s.casc.lockRun else 0 }

/-- The cascade qualifies. -/
def State.cascQualified (s : State) : State := if s.tb.cascOk then s else ({ s with tb.cascOk := true } : State).refGained

/-- The slew that a time frame's error asks for. -/
def State.cascSlewed (err : Rat) (s : State) : State := if s.tb.lock = .acquire ∨ 100 < absR err then s.correctPhase err else s.slewStop

/-- The time of day is steered by a time frame's error. -/
def State.cascSteered (err : Rat) (s : State) : State :=
  (s.cascSlewed err).steerTo (1 / 1000) (Config.pi 10 (err / 1000000000) (s.cascSlewed err).tb.freqErr (s.cascSlewed err).tb.freqCorr) true

/-- The end of the lock's run. -/
def State.cascLocked (s : State) : State := if 1000 ≤ s.casc.lockRun then s.lockNow else s

theorem State.cascSteer_eq (err : Rat) (s : State) :
    s.cascSteer err = (((((s.errorTaken err).arm .cascTimeLost 10000000).cascQualified).cascSteered err).cascLocked) := rfl

theorem State.cascQualified_keeps (s : State) : KeepsBut (([.tb .cascOk] : List Part)
    ++ (Part.lockChange ++ [.timer .holdoverSec])) s s.cascQualified := by
  unfold State.cascQualified
  exact KeepsBut.ite _ (KeepsBut.refl _ _) (((KeepsBut.write_tb (l := [.tb .cascOk]) fun f hf _ _ => by
      cases f with
      | cascOk => simp at hf  | genAll | loopPAll | loopFAll | recFAll => trivial
      | _ => exact rfl) : KeepsBut [.tb .cascOk] s { s with tb.cascOk := true }).append (State.refGained_keeps _))

theorem State.cascQualified_cascOk (s : State) : s.cascQualified.tb.cascOk = true := by
  unfold State.cascQualified
  split
  next ok => exact ok
  next => exact (State.refGained_keeps ({ s with tb.cascOk := true } : State)).get (.tb .cascOk) rfl

/-- The parts that the steering by a time frame may change. -/
def Part.cascSteered : List Part :=
  [.tb .stepPending, .tb .slewLeft, .tb .slewOff, .tb .slewEnd, .tb .steering, .tb .freqCorr, .tb .steerHist]

theorem State.cascSteered_keeps (err : Rat) (s : State) : KeepsBut Part.cascSteered s (s.cascSteered err) := by
  have slewed : KeepsBut [.tb .stepPending, .tb .slewLeft, .tb .slewOff, .tb .slewEnd, .tb .steering] s (s.cascSlewed err) :=
    KeepsBut.ite _ (s.correctPhase_keeps err) (s.slewStop_keeps.weaken (by exact .check rfl))
  exact (slewed.append (State.steerTo_keeps _ _ _ _)).weaken (by exact .check rfl)

theorem State.cascLocked_keeps (s : State) : KeepsBut Part.lockChange s s.cascLocked := KeepsBut.ite _ s.lockNow_keeps (KeepsBut.refl _ s)

theorem State.cascSteer_cascOk (err : Rat) (s : State) : (s.cascSteer err).tb.cascOk = true :=
  (((State.cascSteered_keeps err _).append (State.cascLocked_keeps _)).get (.tb .cascOk) rfl).trans (State.cascQualified_cascOk _)

/-- What the error and its timer are stands through the steering. -/
theorem State.cascSteer_later (err : Rat) (s : State) :
    KeepsBut (([.tb .cascOk] : List Part) ++ (Part.lockChange ++ [.timer .holdoverSec]) ++ (Part.cascSteered ++ Part.lockChange))
      ((s.errorTaken err).arm .cascTimeLost 10000000) (s.cascSteer err) :=
  (State.cascQualified_keeps _).append ((State.cascSteered_keeps err _).append (State.cascLocked_keeps _))

theorem State.masterSeen_cases (src : Byte) (s : State) : s.masterSeen src = s ∨ s.masterSeen src = s.watching := by
  by_cases h : s.isMaster = true ∨ srcPos src ≠ s.casc.master
  · exact .inl (if_pos h)
  · exact .inr (if_neg h)

/-- A chip that follows the cascade takes a time frame of its own direction. -/
theorem State.followsCascade {s : State} (member : s.isMaster = false) (mode : s.raw 0x2100 1 = 4) (runs : s.tbRuns = true)
    (own : s.steersItself = true) : ¬ (s.isMaster = true ∨ s.raw 0x2100 1 ≠ 4 ∨ ¬ s.tbRuns = true ∨ ¬ s.steersItself = true ∨
      ¬ s.cascUses false = true) := by
  simp [member, mode, runs, own, State.cascUses]

/-- The cascade's time is lost, before the code is raised. -/
def State.cascTimeGone (s : State) : State := { s.disarm .cascTimeLost with tb.cascOk := false, casc.lockRun := 0, casc.relay := false }

theorem State.cascTimeGone_keeps (s : State) : KeepsBut [.timer .cascTimeLost, .tb .cascOk, .casc .lockRun, .casc .relay] s s.cascTimeGone :=
  (s.disarm_keeps .cascTimeLost).append (KeepsBut.of_pieces (l := [.tb .cascOk, .casc .lockRun, .casc .relay]) { State.Pieces.refl with
      tb_ := fun f hf _ _ => by
        cases f with
        | cascOk => simp at hf  | genAll | loopPAll | loopFAll | recFAll => trivial | _ => exact rfl,
      casc_ := fun f hf _ _ => by
        cases f with
        | lockRun | relay => simp at hf  | allocsAll | pReqAll | pMaxAll | wAll | socAll | reportAtAll => trivial | _ => exact rfl })

theorem State.cascTimeLoss_keeps (s : State) : KeepsBut (([.timer .cascTimeLost, .tb .cascOk, .casc .lockRun, .casc .relay, .tb .lock, .tb .freqOnly,
    .tb .steering, .tb .changes, .tb .slewLeft, .tb .slewOff, .tb .phaseStage, .tb .lastChange, .tb .lockRun, .tb .refLock, .timer .holdoverSec,
    .tb .holdoverTime, .tb .errBound, .tb .alignTerm, .tb .limitRaised, .bat .deferred, .bat .modelDue, .bat (.copies s.bat.target), .bat .writing,
    .bat .writeData, .timer .learnedWrite] : List Part) ++ Part.raised) s (s.cascTimeGone.raise 0x0E15 noInst []).refChecked := by
  refine (s.cascTimeGone_keeps.append ((State.raise_keepsBut _ _ _ _).append (State.refChecked_keeps _))).weaken ?_
  rw [State.raise_target, show s.cascTimeGone.bat.target = s.bat.target from rfl]
  generalize Battery.target _ = k
  apply Part.Within.checkAt k; rfl

/-- What the loss of the cascade's time marks stands through what follows. -/
theorem State.cascTimeGone_later (s : State) : (s.cascTimeGone.raise 0x0E15 noInst []).refChecked.tb.cascOk = false ∧
    (s.cascTimeGone.raise 0x0E15 noInst []).refChecked.casc.lockRun = 0 ∧ (s.cascTimeGone.raise 0x0E15 noInst []).refChecked.casc.relay = false ∧
    Stopped .cascTimeLost (s.cascTimeGone.raise 0x0E15 noInst []).refChecked := by
  have later := (State.raise_keepsBut 0x0E15 noInst [] s.cascTimeGone).append (State.refChecked_keeps _)
  have gone : Stopped .cascTimeLost s.cascTimeGone := State.disarm_deadline _ s
  exact ⟨later.get (.tb .cascOk) rfl, later.get (.casc .lockRun) rfl, later.get (.casc .relay) rfl, gone.kept later rfl⟩

/-! ## Reports and allocation (R402 to R405) -/

theorem State.isMaster_congr {s t : State} (h : t.casc = s.casc) : t.isMaster = s.isMaster := by rw [State.isMaster, h, State.isMaster]

theorem exec_allocationReceived {dst src : Byte} {s : State} (up : s.up = true) (ring : s.inRing = true) (me : s.forMe dst = true)
    (far : srcPos src ≠ s.pins.cascPos.val) (l : List Nat) (n : Nat) : exec (.allocationReceived true dst src false l n) s = .next
      (if (s.masterSeen src).casc.st = .master then { s.masterSeen src with casc.demote := true, casc.master := srcPos src }
        else if (s.masterSeen src).isMaster then s.masterSeen src
        else { s.masterSeen src with
          casc.number := n, casc.allocNext := some ((real32 (l.getD (s.masterSeen src).pins.cascPos.val 0)).getD 0) }) :=
  congrArg Host.Outcome.next (State.cascTake_taken up ring me far _)

theorem exec_positionReportSend {s : State} (due : s.due .cascReport = true) (ring : s.inRing = true) (speaks : s.speaks = true) :
    exec .positionReportSend s = .next (if s.isMaster then
        (s.arm .cascReport 100000000).takeReport s.pins.cascPos s.powerWanted s.powerMax s.chargeAbove s.shelfSoc
      else (s.arm .cascReport 100000000).launch (.report s.pins.cascPos s.powerWanted s.powerMax s.chargeAbove s.shelfSoc s.reportFlags)) := by
  have ring' : (s.arm .cascReport 100000000).inRing = true := ring
  have speaks' : (s.arm .cascReport 100000000).speaks = true := speaks
  exact (congrArg Host.Outcome.next (if_neg (by simp [due]))).trans (congrArg Host.Outcome.next (if_neg (by simp [ring', speaks'])))

/-- What a report enters at its position. -/
theorem State.takeReport_entered (p : Fin 8) (a b c e : Rat) (s : State) :
    (s.takeReport p a b c e).casc.pReq[p] = a ∧ (s.takeReport p a b c e).casc.pMax[p] = b ∧ (s.takeReport p a b c e).casc.w[p] = c ∧
      (s.takeReport p a b c e).casc.soc[p] = e ∧ (s.takeReport p a b c e).casc.reportAt[p] = some s.now :=
  ⟨vector_set_eq _ _ _, vector_set_eq _ _ _, vector_set_eq _ _ _, vector_set_eq _ _ _, vector_set_eq _ _ _⟩

/-- Settles O41: time frames, reports and allocations, by the master's and a member's part. -/
theorem cascadeTimeReportsAndAllocation : Obligations.CascadeTimeReportsAndAllocation := by
  unfold Obligations.CascadeTimeReportsAndAllocation
  refine ⟨fun s runs ring speaks whole master => ?_, fun dst src tod arrival s up member me far mode runs own => ?_, fun s due => ?_,
    fun s due ring speaks member => ?_, fun s due ring speaks master => ?_, fun dst src a b c e s up master speaks me far => ?_,
    fun s due master stays => ?_, fun s due master demoted => ?_, fun dst src l n s up member me far from_ => ?_,
    fun dst src l n s up master me far => ?_⟩
  · exact ⟨_, congrArg Host.Outcome.next (if_pos ⟨runs, whole, ring, speaks, master⟩), rfl, rfl,
      (((KeepsBut.write_casc (l := [.casc .relay]) fun f hf _ _ => by
          cases f with
          | relay => simp at hf  | allocsAll | pReqAll | pMaxAll | wAll | socAll | reportAtAll => trivial
          | _ => exact rfl) : KeepsBut [.casc .relay] s { s with casc.relay := false }).append (State.launch_keeps _ _))⟩
  · have run : exec (.cascadeTimeReceived true dst src false false tod arrival) s =
        .next ((s.masterSeen src).cascSteer (arrival - s.twin.delay[1] * 1000000000 - (tod : Nat))) := by
      refine (congrArg Host.Outcome.next (State.cascTake_taken up (State.inRing_of_member (.inl member)) me far _)).trans
        (congrArg Host.Outcome.next ?_)
      rcases State.masterSeen_cases src s with seen | seen <;> rw [seen]
      · exact if_neg (State.followsCascade (State.not_isMaster_of_member (.inl member)) mode runs own)
      · exact if_neg (State.followsCascade (s := s.watching) (State.not_isMaster_of_member (.inl rfl))
          ((congrFun (congrFun (State.raw_congr rfl rfl rfl rfl) _) _).trans mode) runs own)
    have later := State.cascSteer_later (arrival - s.twin.delay[1] * 1000000000 - (tod : Nat)) (s.masterSeen src)
    refine ⟨_, run, ?_, ?_, State.cascSteer_cascOk _ _, ?_,
      ((State.masterSeen_keeps src s).append (State.cascSteer_keeps _ _)).weaken (by exact .check rfl)⟩
    · exact later.get (.casc .err) rfl
    · exact later.get (.casc .relay) rfl
    · have now : (s.masterSeen src).now = s.now := (s.masterSeen_keeps src).get .now rfl
      exact Ends.kept (by rw [Ends, State.arm_deadline]; exact congrArg (fun n => some (n + 10000000)) now) later rfl
  · obtain ⟨cascOk, lockRun, relay, timer⟩ := State.cascTimeGone_later s
    exact ⟨_, congrArg Host.Outcome.next (if_pos due), cascOk, lockRun, relay, State.raise_refChecked_raised _ _ _ rfl, timer,
      State.cascTimeLoss_keeps s⟩
  · exact ⟨_, (exec_positionReportSend due ring speaks).trans (congrArg Host.Outcome.next (if_neg (by simp [member]))), rfl,
      State.arm_deadline _ _ s, (s.arm_keeps _ _).append (State.launch_keeps _ _)⟩
  · obtain ⟨pReq, pMax, -, -, at_⟩ := (s.arm .cascReport 100000000).takeReport_entered s.pins.cascPos s.powerWanted s.powerMax s.chargeAbove s.shelfSoc
    exact ⟨_, (exec_positionReportSend due ring speaks).trans (congrArg Host.Outcome.next (if_pos master)), pReq, pMax, at_,
      State.arm_deadline _ _ s, (s.arm_keeps _ _).append (State.takeReport_keeps _ _ _ _ _ _)⟩
  · obtain ⟨pReq, pMax, w, soc, -⟩ := s.takeReport_entered ⟨srcPos src % 8, by omega⟩ ((real32 a).getD 0) ((real32 b).getD 0) ((real32 c).getD 0)
      ((real32 e).getD 0)
    exact ⟨_, (congrArg Host.Outcome.next (State.cascTake_taken up (State.inRing_of_isMaster master) me far _)).trans
      (congrArg Host.Outcome.next (if_pos ⟨master, speaks⟩)), pReq, pMax, w, soc, ((State.takeReport_keeps _ _ _ _ _ s).whole rfl).weaken (by exact .check rfl)⟩
  · have go : exec .allocationPeriod s = .next (s.arm .cascAlloc (s.ns 0x3010 0x0A)).allocate :=
      (congrArg Host.Outcome.next (if_neg (by simp [due, master]))).trans (congrArg Host.Outcome.next (if_neg (by simp [stays])))
    exact ⟨_, go, rfl, rfl, rfl, rfl, State.arm_deadline _ _ s, ((State.arm_keeps _ _ _).append (State.allocate_keeps _))⟩
  · have go : exec .allocationPeriod s = .next
        ((({ s with casc.st := .member, casc.demote := false } : State).disarm .cascAlloc).arm .masterLost 1000000000) :=
      (congrArg Host.Outcome.next (if_neg (by simp [due, master]))).trans (congrArg Host.Outcome.next (if_pos demoted))
    exact ⟨_, go, rfl, rfl, Stopped.kept (State.disarm_deadline _ _) (State.arm_keeps .masterLost _ _) rfl, State.arm_deadline _ _ _,
      (((KeepsBut.write_casc (l := [.casc .st, .casc .demote]) fun f hf _ _ => by
          cases f with
          | st | demote => simp at hf  | allocsAll | pReqAll | pMaxAll | wAll | socAll | reportAtAll => trivial
          | _ => exact rfl) : KeepsBut [.casc .st, .casc .demote] s { s with casc.st := .member, casc.demote := false }).append
        ((State.disarm_keeps _ _).append (State.arm_keeps _ _ _)))⟩
  · have taken := exec_allocationReceived up (State.inRing_of_member member) me far l n
    rw [State.masterSeen_of_member member from_.symm, if_neg (by simp [State.watching]), if_neg (by simp [State.watching, State.isMaster])] at taken
    exact ⟨_, taken, rfl, rfl, rfl, State.arm_deadline _ _ _, (s.watching_keeps.append ((KeepsBut.write_casc (l := [.casc .number, .casc .allocNext])
        fun f hf _ _ => by
        cases f with
        | number | allocNext => simp at hf  | allocsAll | pReqAll | pMaxAll | wAll | socAll | reportAtAll => trivial | _ => exact rfl) :
      KeepsBut [.casc .number, .casc .allocNext] s.watching { s.watching with casc.number := n, casc.allocNext := _ })).weaken (by exact .check rfl)⟩
  · have master' : s.isMaster = true := by simp [State.isMaster, master]
    have taken := exec_allocationReceived up (State.inRing_of_isMaster master') me far l n
    rw [State.masterSeen_of_isMaster master', if_pos master] at taken
    exact ⟨_, taken, rfl, rfl, master, rfl, ((KeepsBut.write_casc (l := [.casc .demote, .casc .master]) fun f hf _ _ => by
        cases f with
        | demote | master => simp at hf  | allocsAll | pReqAll | pMaxAll | wAll | socAll | reportAtAll => trivial
        | _ => exact rfl) : KeepsBut [.casc .demote, .casc .master] s
      { s with casc.demote := true, casc.master := srcPos src }).weaken (by exact .check rfl)⟩

end Sys2Proof.Machine
end

section
/-! PROOFS. Frames of the SPI port (R366 to R368). -/

namespace Sys2Proof.Machine

/-! ## A frame's header (R366, R367) -/

/-- A frame that has begun: counted. -/
def State.framed (s : State) : State := { s with net.spiFrames := bump s.net.spiFrames }

theorem State.framed_keeps (s : State) : KeepsBut [.net .spiFrames] s s.framed := (KeepsBut.write_net (l := [.net .spiFrames]) fun f hf _ _ => by
    cases f with
    | spiFrames => simp at hf  | forceAll | rwAll | sessAll | storeAll | portAll | pmAll | pmXferAll => trivial | _ => exact rfl)

theorem State.frameDone_keeps (n : Nat) (l : List Nat) (s : State) : KeepsBut [.net .spiData, .net .spiStat] s (s.frameDone n l) :=
    (KeepsBut.write_net (l := [.net .spiData, .net .spiStat]) fun f hf _ _ => by
    cases f with
    | spiData | spiStat => simp at hf  | forceAll | rwAll | sessAll | storeAll | portAll | pmAll | pmXferAll => trivial | _ => exact rfl)

theorem State.spiFrame_good {cmd : Nat} {d : List Byte} {s : State} (up : s.hostUp = true) (long : 8 ≤ d.length) (crc : frameHcrc d = true)
    (ok : frameCmdOk cmd d = true) (f : Bool → State → State) : s.spiFrame cmd d f = f s.pins.spiIrq s.framed :=
  (if_neg (by simp [up])).trans ((if_neg (Nat.not_lt.2 long)).trans ((if_neg (by simp [crc])).trans (if_neg (by simp [ok]))))

theorem State.spiFrame_wrong {cmd : Nat} {d : List Byte} {s : State} (up : s.hostUp = true) (long : 8 ≤ d.length) (crc : frameHcrc d = false)
    (f : Bool → State → State) : s.spiFrame cmd d f =
      s.framed.spiCrcError.frameDone (statWord false true false false s.pins.spiIrq {}) (List.replicate (min 16 (frameCount d)) 0) :=
  (if_neg (by simp [up])).trans ((if_neg (Nat.not_lt.2 long)).trans (if_pos (by simp [crc])))

/-! ## A wrong CRC (R367) -/

/-- A limited code that was not recorded within the last second is raised. -/
theorem State.raiseLimited_of_idle {c i : Nat} {s : State} (idle : s.running (.limit c i) = false) (v : List Nat) :
    s.raiseLimited c i v = (s.arm (.limit c i) 1000000000).raise c i v := if_neg (by simp [idle])

/-- A wrong CRC, counted. -/
def State.crcCounted (s : State) : State := { s with net.spiCrc := bump s.net.spiCrc }

theorem State.crcCounted_keeps (s : State) : KeepsBut [.net .spiCrc] s s.crcCounted := (KeepsBut.write_net (l := [.net .spiCrc]) fun f hf _ _ => by
    cases f with
    | spiCrc => simp at hf  | forceAll | rwAll | sessAll | storeAll | portAll | pmAll | pmXferAll => trivial | _ => exact rfl)

theorem State.spiCrcError_eq {s : State} (idle : s.running (.limit 0x0D0E noInst) = false) :
    s.framed.spiCrcError = (s.framed.crcCounted.arm (.limit 0x0D0E noInst) 1000000000).raise 0x0D0E noInst [] :=
  State.raiseLimited_of_idle (s := s.framed.crcCounted) idle []

/-- What a frame with a wrong CRC does: it is counted, its code is recorded, and the frame ends. -/
theorem State.spiCrcError_done {s : State} (idle : s.running (.limit 0x0D0E noInst) = false) (n : Nat) (l : List Nat) :
    (s.framed.spiCrcError.frameDone n l).net.spiCrc = bump s.net.spiCrc ∧ Raised 0x0D0E noInst [] s (s.framed.spiCrcError.frameDone n l) ∧
      KeepsBut (([.net .spiFrames, .net .spiCrc, .timer (.limit 0x0D0E noInst), .net .spiData, .net .spiStat] : List Part) ++ Part.raised) s
        (s.framed.spiCrcError.frameDone n l) := by
  rw [State.spiCrcError_eq idle]
  have raised : Raised 0x0D0E noInst [] s ((s.framed.crcCounted.arm (.limit 0x0D0E noInst) 1000000000).raise 0x0D0E noInst []) :=
    State.raise_raised _ _ _ (by rfl)
  have later := (State.arm_keeps (.limit 0x0D0E noInst) 1000000000 s.framed.crcCounted).append
    ((State.raise_keepsBut 0x0D0E noInst [] _).append (State.frameDone_keeps n l _))
  exact ⟨later.get (.net .spiCrc) rfl, raised.keep rfl rfl, (s.framed_keeps.append (s.framed.crcCounted_keeps.append later)).weaken (by exact .check rfl)⟩

/-! ## The words of a frame (R368) -/

theorem within_iff {a lo hi : Nat} : within a lo hi = true ↔ lo ≤ a ∧ a < hi := decide_eq_true_iff

theorem State.hostRead_user {a : Nat} (word : a % 4 = 0) (low : userBase ≤ a) (high : a < userEnd) {s : State} (good : s.mem.badWords = []) :
    s.hostRead a = (.ok (readWord s.mem.user a), s) := by
  have free : s.memRead a (fun s => (.ok (readWord s.mem.user a), s)) = (.ok (readWord s.mem.user a), s) := if_neg (by simp [good])
  have area := within_iff.2 ⟨low, high⟩
  rw [userBase] at low
  rw [userEnd] at high
  rw [State.hostRead, if_neg (by omega), if_neg (by rw [within_iff]; omega), if_neg (by rw [within_iff]; omega), if_neg (by rw [within_iff]; omega),
    if_neg (by rw [within_iff]; omega), if_pos area, free]

theorem State.hostRead_outside {a : Nat} (high : 0x50000000 ≤ a) (s : State) : s.hostRead a = (.denied, s) := by
  have outside {lo hi : Nat} (h : hi ≤ 0x50000000) : ¬ within a lo hi = true := by rw [within_iff]; omega
  have diag : ¬ diagBlock a = true := by simp [diagBlock, outside]
  by_cases word : a % 4 = 0
  · rw [State.hostRead, if_neg (by omega), if_neg (outside (by omega)), if_neg (outside (by omega)), if_neg (outside (by omega)),
      if_neg (outside (by omega)), if_neg (outside (by rw [userEnd]; omega)), if_neg (outside (by omega)), dif_neg (by omega),
      if_neg (outside (by omega)), if_neg (outside (by omega)), if_neg (outside (by omega)), if_neg (outside (by omega)),
      if_neg (outside (by omega)), if_neg diag]
  · exact if_pos word

/-- Words that all read with data, and without an effect. -/
theorem State.readWords_ok {a : Nat} {s : State} {v : Nat → Nat} : ∀ n : Nat, (∀ k < n, s.hostRead (a + 4 * k) = (.ok (v k), s)) →
    s.readWords a n = ({ words := (List.range n).map v }, s)
  | 0, _ => rfl
  | n + 1, h => by
    have ih := State.readWords_ok n fun k hk => h k (by omega)
    unfold State.readWords at ih ⊢
    rw [List.range_succ, List.foldl_append, ih]
    simp [h n (by omega), FrameResult.note]

theorem State.spiReadWords_user {d : List Byte} {irq : Bool} {s : State} (long : 12 + 4 * frameCount d ≤ d.length) (word : frameAddr d % 4 = 0)
    (low : userBase ≤ frameAddr d) (high : frameAddr d + 4 * frameCount d ≤ userEnd) (good : s.mem.badWords = []) :
    s.spiReadWords d irq = s.frameDone (statWord true false false false irq {})
      ((List.range (frameCount d)).map fun k => readWord s.mem.user (frameAddr d + 4 * k)) := by
  have all : min (frameCount d) ((d.length - 12 + 3) / 4) = frameCount d := by omega
  have read := State.readWords_ok (a := frameAddr d) (s := s) (v := fun k => readWord s.mem.user (frameAddr d + 4 * k)) (frameCount d)
    fun k hk => State.hostRead_user (by omega) (by omega) (by omega) good
  unfold State.spiReadWords
  simp only [all, read]
  rfl

theorem State.spiReadWords_outside {d : List Byte} {irq : Bool} {s : State} (one : frameCount d = 1) (long : 16 ≤ d.length)
    (high : 0x50000000 ≤ frameAddr d) :
    s.spiReadWords d irq = s.frameDone (statWord false false false false irq { denied := true, first := some 0 }) [0] := by
  have all : min 1 ((d.length - 12 + 3) / 4) = 1 := by omega
  have read : s.readWords (frameAddr d) 1 = ({ words := [0], denied := true, first := some 0 }, s) := by
    simp [State.readWords, State.hostRead_outside high, FrameResult.note]
  unfold State.spiReadWords
  simp only [one, all, read]
  rfl

theorem State.spiWriteWords_data0 {d : List Byte} {irq : Bool} {s : State} (one : frameCount d = 1) (long : 14 ≤ d.length)
    (crc : crc16 ((d.drop 8).take 4) = leValue ((d.drop 12).take 2)) (at_ : frameAddr d = 0x4000400C) :
    s.spiWriteWords d irq = ({ s with mem.nvData0 := BitVec.ofNat 32 (leValue ((d.drop 8).take 4)) } : State).frameDone
      (statWord true false false false irq {}) [] := by
  have write := State.hostWrite_nvc (off := 0x00C) rfl (by omega) (leValue ((d.drop 8).take 4)) s
  have words : s.writeWords 0x4000400C [leValue ((d.drop 8).take 4)] =
      ({ words := [0] }, { s with mem.nvData0 := BitVec.ofNat 32 (leValue ((d.drop 8).take 4)) }) := by
    simp only [State.writeWords, List.length_singleton, List.range_one, List.foldl_cons, List.foldl_nil]
    exact Prod.ext rfl write
  unfold State.spiWriteWords
  simp only [one, frameWords, at_, List.range_one, List.map_cons, List.map_nil, words]
  rw [if_neg (by omega), if_neg (by simp [crc])]
  rfl

/-- Settles O33: what the header allows, and then each word of the frame in turn. -/
theorem spiFramesReadAndWriteWords : Obligations.SpiFramesReadAndWriteWords := by
  unfold Obligations.SpiFramesReadAndWriteWords
  refine ⟨fun d s up crc ok long word low high good => ?_, fun d s up crc ok one long high => ?_, fun d s up long crc idle => ⟨?_, ?_⟩,
    fun d s up crc ok one long wcrc at_ => ?_, fun d s up crc ok long wcrc idle => ?_⟩
  · have run := (State.spiFrame_good up (by omega) crc ok (State.spiReadWords d)).trans
      (State.spiReadWords_user (s := s.framed) long word low high good)
    exact ⟨_, congrArg Host.Outcome.next run, List.map_map, rfl, rfl, s.framed_keeps.append (State.frameDone_keeps _ _ _)⟩
  · have run := (State.spiFrame_good up (by omega) crc ok (State.spiReadWords d)).trans (State.spiReadWords_outside (s := s.framed) one long high)
    exact ⟨_, congrArg Host.Outcome.next run, rfl, rfl, rfl, s.framed_keeps.append (State.frameDone_keeps _ _ _)⟩
  · obtain ⟨counted, raised, keeps⟩ := State.spiCrcError_done idle (statWord false true false false s.pins.spiIrq {}) (List.replicate (min 16 (frameCount d)) 0)
    exact ⟨_, congrArg Host.Outcome.next (State.spiFrame_wrong up long crc _), counted, raised, keeps.weaken (by exact .check rfl)⟩
  · obtain ⟨counted, raised, keeps⟩ := State.spiCrcError_done idle (statWord false true false false s.pins.spiIrq {}) (List.replicate (min 16 (frameCount d)) 0)
    exact ⟨_, congrArg Host.Outcome.next (State.spiFrame_wrong up long crc _), counted, raised, keeps.weaken (by exact .check rfl)⟩
  · have run := (State.spiFrame_good up (by omega) crc ok (State.spiWriteWords d)).trans (State.spiWriteWords_data0 (s := s.framed) one long wcrc at_)
    exact ⟨_, congrArg Host.Outcome.next run, rfl, rfl, rfl, rfl, (s.framed_keeps.append (((KeepsBut.write_mem (l := [.mem .nvData0])
        fun f hf _ _ => by
        cases f with
        | nvData0 => simp at hf  | passFromAll | hourCorrAll | hourRaisedAll => trivial | _ => exact rfl) : KeepsBut [.mem .nvData0] s.framed
      { s.framed with mem.nvData0 := BitVec.ofNat 32 (leValue ((d.drop 8).take 4)) }).append (State.frameDone_keeps _ _ _))).weaken (by exact .check rfl)⟩
  · obtain ⟨counted, raised, keeps⟩ := State.spiCrcError_done idle (statWord false false true false s.pins.spiIrq {}) []
    have run := (State.spiFrame_good up (by omega) crc ok (State.spiWriteWords d)).trans ((if_neg (by omega)).trans (if_pos wcrc))
    exact ⟨_, congrArg Host.Outcome.next run, counted, raised, keeps⟩

end Sys2Proof.Machine
end

section
/-! PROOFS. The recorder (R441 to R448). -/

namespace Sys2Proof.Machine

/-! ## Windows (R447) -/

theorem State.modWin_win (k : Fin 3) (f : RecWindow → RecWindow) (s : State) : (s.modWin k f).evr.win[k] = f s.evr.win[k] := vector_set_eq _ _ _

theorem State.loadWindow_keeps (k : Fin 3) (n : Nat) (half : Bool) (s : State) :
    KeepsBut [.evr (.win k), .timer (.windowLoad k)] s (s.loadWindow k n half) := (State.modWin_keeps k _ s).append (State.arm_keeps _ _ _)

theorem State.loadWindow_win (k : Fin 3) (n : Nat) (half : Bool) (s : State) : (s.loadWindow k n half).evr.win[k] =
    { s.evr.win[k] with cursor := n, state := 1, uncorr := false, halfIn := half, seq := n, words := [] } :=
  State.modWin_win k (fun w => { w with cursor := n, state := 1, uncorr := false, halfIn := half, seq := n, words := [] }) s

/-- What a load that ends shows, of a record that stands. -/
def RecWindow.shows (r : Record) (bad : List Nat) (w : RecWindow) : RecWindow :=
  { w with
    state := 2
    words := (List.range 64).map fun j =>
      if bad.contains ((if w.halfIn then 64 else 0) + j) then 0 else r.image.getD ((if w.halfIn then 64 else 0) + j) 0
    uncorr := bad.any fun b => (if w.halfIn then 64 else 0) ≤ b ∧ b < (if w.halfIn then 64 else 0) + 64 }

theorem exec_windowLoadDone_some {k : Fin 3} {r : Record} {s : State} (loading : (s.evr.win[k]).state = 1)
    (there : s.evr.recs.find? (fun r => r.seq = (s.evr.win[k]).cursor) = some r) (bad : List Nat) :
    ∃ f : RecWindow → RecWindow, exec (.windowLoadDone k bad) s = .next ((s.disarm (.windowLoad k)).modWin k f) ∧
      f s.evr.win[k] = (s.evr.win[k]).shows r bad := by
  refine ⟨fun w => { w with
    state := 2
    words := (List.range 64).map fun j =>
      if bad.contains ((if (s.evr.win[k]).halfIn then 64 else 0) + j) then 0 else r.image.getD ((if (s.evr.win[k]).halfIn then 64 else 0) + j) 0
    uncorr := bad.any fun b => (if (s.evr.win[k]).halfIn then 64 else 0) ≤ b ∧ b < (if (s.evr.win[k]).halfIn then 64 else 0) + 64 },
    congrArg Host.Outcome.next ((if_neg (not_not.2 loading)).trans ?_), rfl⟩
  dsimp only
  rw [show (s.disarm (.windowLoad k)).evr = s.evr by simp, there]

theorem exec_windowLoadDone_none {k : Fin 3} {s : State} (loading : (s.evr.win[k]).state = 1)
    (gone : s.evr.recs.find? (fun r => r.seq = (s.evr.win[k]).cursor) = none) (bad : List Nat) :
    exec (.windowLoadDone k bad) s = .next ((s.disarm (.windowLoad k)).modWin k fun w => { w with state := 3, words := [] }) := by
  refine congrArg Host.Outcome.next ((if_neg (not_not.2 loading)).trans ?_)
  dsimp only
  rw [show (s.disarm (.windowLoad k)).evr = s.evr by simp, gone]

/-! ## Records, the scan and the clear (R441 to R448) -/

theorem exec_recordWriteDone {x : Record} {l : List Record} {s : State} (busy : s.evr.busy = true) (staged : s.evr.staging = x :: l)
    (free : s.evr.loadingSlot s.evr.next = false) :
    exec (.recordWriteDone []) s = .next { s with evr := { s.evr.store x with staging := l } } := by
  show execRecordWriteDone [] s = _
  unfold execRecordWriteDone
  rw [busy, staged]
  exact congrArg Host.Outcome.next (if_neg (by simp [free]))

/-- The recorder after its scan. -/
def State.scanned (s : State) : State := { s.disarm .scan with evr.running := true, rst.owed := [], evr.torn := false }

theorem State.scanned_keeps (s : State) : KeepsBut [.timer .scan, .evr .running, .evr .torn, .rst .owed] s s.scanned :=
  (s.disarm_keeps .scan).append (KeepsBut.of_pieces (l := [.evr .running, .evr .torn, .rst .owed]) { State.Pieces.refl with
      evr_ := fun f hf _ _ => by
        cases f with
        | running | torn => simp at hf  | winAll | trigAll => trivial | _ => exact rfl,
      rst_ := fun f hf _ _ => by cases f with | owed => simp at hf  | _ => exact rfl })

theorem exec_recorderScanDone {s : State} (runs : s.running .scan = true) (whole : s.evr.torn = false) (incomplete : Bool) :
    exec (.recorderScanDone incomplete) s = .next (State.each s.rst.owed (fun p => State.raise p.1 noInst p.2) s.scanned) :=
  (congrArg Host.Outcome.next (if_pos runs)).trans
    (congrArg (fun a => Host.Outcome.next (State.each s.rst.owed (fun p => State.raise p.1 noInst p.2) a)) (if_neg fun cut => by simp [whole] at cut))

/-- The records after a clear: its own record alone (R448). -/
def State.recordsCleared (s : State) : State :=
  { s.disarm .clearRec with
    evr := { ({ s.evr with recs := [], clearing := false } : Recorder).store (s.mkRecord 4 0x1202 noInst []) with clearing := false } }

theorem State.recordsCleared_keeps (s : State) :
    KeepsBut [.timer .clearRec, .evr .recs, .evr .next, .evr .written, .evr .clearing] s s.recordsCleared :=
  (s.disarm_keeps .clearRec).append (KeepsBut.write_evr (l := [.evr .recs, .evr .next, .evr .written, .evr .clearing]) fun f hf _ _ => by
      cases f with
      | recs | next | written | clearing => simp at hf  | winAll | trigAll => trivial | _ => exact rfl)

theorem exec_recorderCleared {s : State} (clearing : s.evr.clearing = true) :
    exec .recorderCleared s = .next (s.recordsCleared.fireOnFault 0x1202) := congrArg Host.Outcome.next (if_pos clearing)

theorem leValue_leBytes_one {n : Nat} (h : n < 256) : leValue (leBytes 1 n) = n := by
  simp [leBytes, leValue]; omega

/-- Settles O47: the recorder's writes, its scan, its windows and its clear. -/
theorem recorderWritesScansAndClears : Obligations.RecorderWritesScansAndClears := by
  unfold Obligations.RecorderWritesScansAndClears
  refine ⟨fun x l s busy staged free => ?_, fun incomplete s runs whole owed => ?_, fun incomplete code vals s runs whole owed => ?_, fun d s up => ?_,
    fun k r s loading there => ?_, fun k bad s loading gone => ?_, fun w d s a idle => ?_, fun s clearing => ?_, fun w k s a kind => ?_⟩
  · exact ⟨_, exec_recordWriteDone busy staged free, rfl, rfl, rfl, rfl, ((KeepsBut.write_evr (l := [.evr .next, .evr .recs, .evr .staging,
      .evr .written]) fun f hf _ _ => by
      cases f with
      | next | recs | staging | written => simp at hf  | winAll | trigAll => trivial | _ => exact rfl) :
      KeepsBut [.evr .next, .evr .recs, .evr .staging, .evr .written] s { s with evr := { s.evr.store x with staging := l } })⟩
  · have run := exec_recorderScanDone runs whole incomplete
    rw [owed] at run
    exact ⟨_, run, rfl, rfl, rfl, State.disarm_deadline _ s, s.scanned_keeps.weaken (by exact .check rfl)⟩
  · have run := exec_recorderScanDone runs whole incomplete
    rw [owed] at run
    have later := State.raise_keepsBut code noInst vals s.scanned
    exact ⟨_, run, later.get (.evr .running) rfl, later.get (.rst .owed) rfl, State.raise_raised _ _ _ rfl,
      (s.scanned_keeps.append later).weaken (by exact .check rfl)⟩
  · have run : exec (.cursorWrite .reg d) s = .next ((s.touch .spi).loadWindow 0 (leValue d % 2 ^ 32) s.evr.win[0].half) :=
      congrArg Host.Outcome.next (if_pos up)
    have win := State.loadWindow_win 0 (leValue d % 2 ^ 32) s.evr.win[0].half (s.touch .spi)
    have keeps := (s.touch_keeps .spi).append (State.loadWindow_keeps 0 (leValue d % 2 ^ 32) s.evr.win[0].half (s.touch .spi))
    exact ⟨_, run, congrArg RecWindow.cursor win, congrArg RecWindow.state win, congrArg RecWindow.halfIn win, keeps.get (.evr (.win 1)) rfl,
      keeps.get (.evr (.win 2)) rfl, State.arm_deadline _ _ _, (keeps.whole rfl).weaken (by exact .check rfl)⟩
  · obtain ⟨f, run, shows⟩ := exec_windowLoadDone_some loading there []
    have win : ((s.disarm (.windowLoad k)).modWin k f).evr.win[k] = (s.evr.win[k]).shows r [] := (State.modWin_win k f _).trans shows
    exact ⟨_, run, congrArg RecWindow.state win, (congrArg RecWindow.words win).trans (by simp [RecWindow.shows]), (congrArg RecWindow.uncorr win),
      State.disarm_deadline _ s, (s.disarm_keeps _).append (State.modWin_keeps k f _)⟩
  · have win := State.modWin_win k (fun w => { w with state := 3, words := [] }) (s.disarm (.windowLoad k))
    exact ⟨_, exec_windowLoadDone_none loading gone bad, congrArg RecWindow.state win, congrArg RecWindow.words win,
      State.disarm_deadline _ s, (s.disarm_keeps _).append (State.modWin_keeps k _ _)⟩
  · have begun : (s.touch w).clearBegin = ({ s.touch w with evr.clearing := true } : State).arm .clearRec 1000000 := if_neg (by simp [idle])
    have run : exec (.recorderClear (.dict w) d) s = .next ((s.touch w).clearBegin.answer w .done) :=
      congrArg Host.Outcome.next (State.writeBy_local a (forwards_commands (0x3200, 5) (by simp)) rfl rfl rfl rfl rfl)
    rw [begun] at run
    have effect : KeepsBut [.evr .clearing, .timer .clearRec] (s.touch w) (({ s.touch w with evr.clearing := true } : State).arm .clearRec 1000000) :=
      ((KeepsBut.write_evr (l := [.evr .clearing]) fun f hf _ _ => by
          cases f with
          | clearing => simp at hf  | winAll | trigAll => trivial
          | _ => exact rfl) : KeepsBut [.evr .clearing] (s.touch w) { s.touch w with evr.clearing := true }).append (State.arm_keeps _ _ _)
    have ends : Ends .clearRec 1000000 s (({ s.touch w with evr.clearing := true } : State).arm .clearRec 1000000) := State.arm_deadline _ _ _
    exact ⟨_, run, State.answer_answered _ _ _, rfl, rfl, ends.kept (State.answer_keeps w .done _) (by cases w <;> rfl),
      (effect.write .done).weaken (by cases w <;> exact .check rfl)⟩
  · have later : KeepsBut [.evr .trigAll] s.recordsCleared (s.recordsCleared.fireOnFault 0x1202) := State.fireTriggers_keeps _ _
    refine ⟨_, exec_recorderCleared clearing, rfl, rfl, fun r hr => ?_, rfl, rfl, Stopped.kept (a := s.recordsCleared) (State.disarm_deadline _ s) later rfl,
      (s.recordsCleared_keeps.append later).weaken (by exact .check rfl)⟩
    obtain rfl : r = { s.mkRecord 4 0x1202 noInst [] with seq := s.evr.next } := List.mem_singleton.1 hr
    exact ⟨rfl, rfl⟩
  · have run : exec (.manualTrigger w (leBytes 1 k.val)) s = .next
        (((s.touch w).fireTriggers fun t : Fin 64 => decide (t.val = leValue (leBytes 1 k.val)) &&
          decide ((s.touch w).raw 0x3210 (t + 1) = 8)).answer w .done) :=
      congrArg Host.Outcome.next (State.writeBy_local a (forwards_commands (0x3200, 7) (by simp)) rfl rfl rfl rfl rfl)
    rw [leValue_leBytes_one (by omega)] at run
    refine ⟨_, run, State.answer_answered _ _ _, ?_, fun j other => ?_, ((State.fireTriggers_keeps _ _).write .done).weaken (by cases w <;> exact .check rfl)⟩
    · exact (Vector.getElem_ofFn _).trans (if_pos (by simp [State.touch, kind]))
    · exact (Vector.getElem_ofFn _).trans (if_neg (by simp [Fin.val_ne_of_ne other]))

end Sys2Proof.Machine
end

section
/-! PROOFS. Roles and sessions (R339 to R341). -/

namespace Sys2Proof.Machine

theorem State.dropClaim_keeps (s : State) :
    KeepsBut [.net .shadow, .net .claim] s (State.dropClaim s) := by
  unfold State.dropClaim
  dsimp only
  exact KeepsBut.weaken (KeepsBut.write_net (l := [.net .shadow, .net .claim]) fun f hf _ _ => by
      cases f with
      | shadow | claim => simp at hf | forceAll | rwAll | sessAll | storeAll | portAll | pmAll | pmXferAll => trivial
      | _ => exact rfl) (by exact .check rfl)

theorem State.endSession_keeps (w : Session) (asked : Bool) (s : State) :
    KeepsBut (([.net .shadow, .net .claim, .net (.sess (sessIx w))] : List Part) ++ Part.raised) s (State.endSession w asked s) := by
  unfold State.endSession
  dsimp only
  refine KeepsBut.viaElse (KeepsBut.weaken (State.raise_keepsBut _ _ _ _) (by simp [Part.Within, Part.raised])) ?_
  exact KeepsBut.viaIf (KeepsBut.weaken (State.dropClaim_keeps _) (by simp [Part.Within, Part.raised]))
      (KeepsBut.weaken (State.modSess_keeps _ _ _) (by simp [Part.Within, Part.raised]))

theorem State.useNonce_keeps (w : Session) (s : State) :
    KeepsBut [.net (.sess (sessIx w)), .timer (.nonce (↑(sessIx w)))] s (State.useNonce w s) := by
  unfold State.useNonce
  exact KeepsBut.weaken (KeepsBut.after (State.disarm_keeps _ _) (State.modSess_keeps _ _ _)) (by simp [Part.Within, Part.raised])

theorem State.authPassed_keeps (w : Session) (s : State) :
    KeepsBut [.net (.sess (sessIx w)), .timer (.nonce (↑(sessIx w)))] s (State.authPassed w s) := by
  unfold State.authPassed
  exact KeepsBut.weaken (KeepsBut.after (State.modSess_keeps _ _ _) (State.useNonce_keeps _ _)) (by simp [Part.Within, Part.raised])

/-- A part outside a list, for every index of both. -/
theorem Part.outsideAt {n : Nat} {f : Fin n → List Part} {g : Fin n → Part} (k : Fin n)
    (h : (List.finRange n).all (fun k => Part.outside (f k) (g k)) = true) : Part.outside (f k) (g k) = true :=
  List.all_eq_true.1 h k (List.mem_finRange k)

/-! ## Writes that an object refuses, and writes whose effect answers a refusal (R484) -/

theorem State.writeBy_invalid {w : Session} {idx sub : Nat} {d : List Byte} {o : ObjWrite} {s : State} {c : Nat} (a : s.admits w idx sub d = true)
    (free : o.busy (s.touch w) d = none) (length : o.badLength d = false) (invalid : o.invalid (s.touch w) d = some c) :
    s.writeBy w idx sub d o = (s.touch w).answer w (.abort c) := by
  simp only [State.admits, Bool.and_eq_true, Bool.or_eq_true, decide_eq_true_eq] at a
  obtain ⟨⟨hs, hp⟩, hc⟩ := a
  have hc' : (s.touch w).checkWrite (some w) ((s.touch w).roleOf w) idx sub d none false none = .pass := hc
  have hn : ¬ (s.rst.phase = .recovery ∧ ¬ romObject idx = true) := fun h => hp.elim (fun q => q h.1) h.2
  simp only [State.writeBy, State.access, hs, not_true_eq_false, if_false, hn, State.writeAs, free, length, invalid, State.checkWrite_pass hc']
  rfl

theorem State.writeBy_reply {w : Session} {idx sub : Nat} {d : List Byte} {o : ObjWrite} {s : State} {c : Nat} (a : s.admits w idx sub d = true)
    (here : forwards idx sub = false) (free : o.busy (s.touch w) d = none) (length : o.badLength d = false) (valid : o.invalid (s.touch w) d = none)
    (reply : o.reply (s.touch w) d = some c) : s.writeBy w idx sub d o = (o.effect (some w) d (s.touch w)).answer w (.abort c) := by
  simp only [State.admits, Bool.and_eq_true, Bool.or_eq_true, decide_eq_true_eq] at a
  obtain ⟨⟨hs, hp⟩, hc⟩ := a
  have hc' : (s.touch w).checkWrite (some w) ((s.touch w).roleOf w) idx sub d none false none = .pass := hc
  have hn : ¬ (s.rst.phase = .recovery ∧ ¬ romObject idx = true) := fun h => hp.elim (fun q => q h.1) h.2
  simp only [State.writeBy, State.access, hs, not_true_eq_false, if_false, hn, State.writeAs, free, length, valid, hc', reply, State.forward_none here]
  rfl

/-! ## A session's record -/

theorem State.modSess_sess (k : Fin 3) (f : Sess → Sess) (s : State) : (s.modSess k f).net.sess[k] = f s.net.sess[k] := vector_set_eq _ _ _

theorem State.answer_sess (w : Session) (a : Answer) (s : State) : (s.answer w a).net.sess[sessIx w] = { s.net.sess[sessIx w] with answer := a } :=
  State.modSess_sess (sessIx w) (fun x => { x with answer := a }) s

/-- A code is raised where staging has room for its record. -/
theorem State.raise_raised_of_room (c i : Nat) (v : List Nat) {s a : State} (room : a.evr.staging.length < 16) : Raised c i v s (a.raise c i v) := by
  refine ⟨fun _ => ?_, State.raise_batch c i v a⟩
  rw [State.raise_staging _ _ _ _ room]
  exact ⟨_, List.mem_append_right _ (List.mem_singleton.2 rfl), rfl, rfl, rfl⟩

/-! ## Challenge and response (R339, R340) -/

theorem State.challenge_keeps (w : Session) (r : Role) (s : State) :
    KeepsBut [.free, .net (.sess (sessIx w)), .timer (.nonce (sessIx w))] s (s.challenge w r) := by
  have drawn : KeepsBut [.free] s s.draw.2 := KeepsBut.of_pieces (l := [.free])
      { State.Pieces.refl (s := s) with free_ := fun h => absurd (by simp) h }
  exact drawn.append ((State.modSess_keeps _ _ _).append (State.arm_keeps _ _ _))

/-- The session's record as it is challenged. -/
def Sess.challenged (r : Role) (n : List Byte) (x : Sess) : Sess := { x with requested := rank r, nonceRole := r, held := true, nonce := n }

theorem State.challenge_sess (w : Session) (r : Role) (s : State) :
    (s.challenge w r).net.sess[sessIx w] = (s.net.sess[sessIx w]).challenged r ((List.range 16).map (Config.random s.free)) :=
  State.modSess_sess (sessIx w) (Sess.challenged r ((List.range 16).map (Config.random s.free))) s.draw.2

theorem rank_roleOfNumber {n : Nat} (low : 1 ≤ n) (high : n ≤ 3) : rank (roleOfNumber n) = n := by
  interval_cases n <;> rfl

theorem rank_roleCount {r : Role} {j : Fin 3} (h : roleCount r = some j) : rank r = j + 1 := by
  cases r <;> cases h <;> rfl

/-- The session's record after a failed response, and after the role's lockout. -/
def Sess.failedOnce (x : Sess) : Sess := { x with held := false, failed := bump x.failed }

def Sess.failMore (j : Fin 3) (x : Sess) : Sess := { x with fails := x.fails.set j (x.fails[j] + 1) }

def Sess.lockingOut (j : Fin 3) (x : Sess) : Sess := { x with fails := x.fails.set j 0, locked := x.locked.set j true }

/-- A failed response, counted; the nonce is used up. -/
def State.failureNoted (w : Session) (s : State) : State := (s.useNonce w).modSess (sessIx w) fun x => { x with failed := bump x.failed }

/-- A failed response, counted and recorded. -/
def State.failureRecorded (w : Session) (s : State) : State := (s.failureNoted w).raise 0x0D01 noInst [sessIx w]

/-- The role is locked out for 60 s. -/
def State.roleLocked (w : Session) (j : Fin 3) (s : State) : State :=
  (s.modSess (sessIx w) (Sess.lockingOut j)).arm (.lockout (sessIx w) (j + 1)) 60000000000

theorem State.roleLocked_stands (w : Session) (j : Fin 3) (s : State) : (s.roleLocked w j).evr = s.evr ∧ (s.roleLocked w j).net.batch = s.net.batch ∧
    (s.roleLocked w j).net.batchAt = s.net.batchAt ∧ (s.roleLocked w j).tb = s.tb := ⟨rfl, rfl, rfl, rfl⟩

theorem State.roleLocked_sess (w : Session) (j : Fin 3) (s : State) : (s.roleLocked w j).net.sess[sessIx w] =
    (s.net.sess[sessIx w]).lockingOut j := State.modSess_sess (sessIx w) (Sess.lockingOut j) s

theorem State.roleLocked_ends (w : Session) (j : Fin 3) {s a : State} (now : a.now = s.now) :
    Ends (.lockout (sessIx w) (j + 1)) 60000000000 s (a.roleLocked w j) := by
  rw [Ends, State.roleLocked, State.arm_deadline, show (a.modSess (sessIx w) _).now = a.now from rfl, now]

theorem State.modSess_stands (k : Fin 3) (f : Sess → Sess) (s : State) : (s.modSess k f).evr = s.evr ∧ (s.modSess k f).net.batch = s.net.batch :=
  ⟨rfl, rfl⟩

theorem Raised.modSess {c i : Nat} {v : List Nat} {s a : State} (h : Raised c i v s a) (k : Fin 3) (f : Sess → Sess) : Raised c i v s (a.modSess k f) :=
  h.keep (congrArg Recorder.staging (a.modSess_stands k f).1) (a.modSess_stands k f).2

theorem State.authFailed_below {w : Session} {j : Fin 3} {s : State} (role : roleCount (s.net.sess[sessIx w]).nonceRole = some j)
    (below : (s.net.sess[sessIx w]).fails[j] < 2) : s.authFailed w =
      (s.failureRecorded w).modSess (sessIx w) (Sess.failMore j) := by
  unfold State.authFailed
  dsimp only
  rw [role]
  dsimp only
  rw [if_pos (show (s.net.sess[sessIx w]).fails[j] + 1 < 3 by omega)]
  rfl

theorem State.authFailed_third {w : Session} {j : Fin 3} {s : State} (role : roleCount (s.net.sess[sessIx w]).nonceRole = some j)
    (third : 2 ≤ (s.net.sess[sessIx w]).fails[j]) : s.authFailed w =
      ((s.failureRecorded w).roleLocked w j).raise 0x0D02 noInst [sessIx w, j + 1] := by
  unfold State.authFailed
  dsimp only
  rw [role]
  dsimp only
  rw [if_neg (by simp; omega), rank_roleCount role]
  rfl

theorem State.authFailed_below_keeps (w : Session) (f : Sess → Sess) (s : State) :
    KeepsBut (([.net (.sess (sessIx w)), .timer (.nonce (sessIx w))] : List Part) ++ Part.raised) s ((s.failureRecorded w).modSess (sessIx w) f) :=
  ((s.useNonce_keeps w).append ((State.modSess_keeps _ _ _).append ((State.raise_keepsBut _ _ _ _).append (State.modSess_keeps _ _ _)))).weaken
    (by cases w <;> exact .check rfl)

theorem State.authFailed_third_keeps (w : Session) (j : Fin 3) (s : State) :
    KeepsBut (([.net (.sess (sessIx w)), .timer (.nonce (sessIx w)), .timer (.lockout (sessIx w) (j + 1))] : List Part) ++ Part.raised) s
      (((s.failureRecorded w).roleLocked w j).raise 0x0D02 noInst [sessIx w, j + 1]) :=
  ((s.useNonce_keeps w).append ((State.modSess_keeps _ _ _).append ((State.raise_keepsBut _ _ _ _).append ((State.modSess_keeps _ _ _).append
    ((State.arm_keeps _ _ _).append (State.raise_keepsBut _ _ _ _)))))).weaken (by cases w <;> apply Part.Within.checkAt j <;> rfl)

theorem State.failureRecorded_keeps (w : Session) (s : State) :
    KeepsBut (([.net (.sess (sessIx w)), .timer (.nonce (sessIx w))] : List Part) ++ Part.raised) s (s.failureRecorded w) :=
  ((s.useNonce_keeps w).append ((State.modSess_keeps _ _ _).append (State.raise_keepsBut _ _ _ _))).weaken (by cases w <;> exact .check rfl)

theorem State.failureRecorded_sess (w : Session) (s : State) : (s.failureRecorded w).net.sess[sessIx w] =
    (s.net.sess[sessIx w]).failedOnce := by
  have raised : (s.failureRecorded w).net.sess[sessIx w] = (s.failureNoted w).net.sess[sessIx w] := by simp [State.failureRecorded]
  have used : (s.useNonce w).net.sess[sessIx w] = { s.net.sess[sessIx w] with held := false } :=
    State.modSess_sess (sessIx w) (fun x => { x with held := false }) s
  rw [raised, State.failureNoted, State.modSess_sess, used]
  rfl

theorem State.failureRecorded_raised (w : Session) (s : State) : Raised 0x0D01 noInst [sessIx w] s (s.failureRecorded w) := State.raise_raised _ _ _ (by rfl)

theorem State.failureRecorded_room {w : Session} {s : State} (room : s.evr.staging.length < 15) : (s.failureRecorded w).evr.staging.length < 16 := by
  have noted : (s.failureNoted w).evr.staging = s.evr.staging := rfl
  rw [State.failureRecorded, State.raise_staging _ _ _ _ (by rw [noted]; omega), noted]
  simp
  omega

theorem State.authPassed_sess (w : Session) (s : State) :
    ((s.authPassed w).net.sess[sessIx w]).role = (s.net.sess[sessIx w]).nonceRole ∧ ((s.authPassed w).net.sess[sessIx w]).held = false := by
  have used : (s.useNonce w).net.sess[sessIx w] = { s.net.sess[sessIx w] with held := false } :=
    State.modSess_sess (sessIx w) (fun x => { x with held := false }) s
  rw [State.authPassed, State.modSess_sess, used]
  exact ⟨rfl, rfl⟩

theorem exec_roleResponse_wrong {w : Session} {d : List Byte} {s : State} (a : s.admits w 0x2010 3 d = true) (len : d.length = 32)
    (bad : s.responseMatches w d = false) :
    exec (.roleResponse w d) s = .next (((s.touch w).authFailed w).answer w (.abort 0x08000106)) := by
  have bad' : ¬ (s.touch w).responseMatches w d = true := by rw [show (s.touch w).responseMatches w d = s.responseMatches w d from rfl, bad]; simp
  exact congrArg Host.Outcome.next ((State.writeBy_reply a (forwards_commands (0x2010, 3) (by simp)) rfl (by simp [objResponse, len]) rfl
    (if_neg bad')).trans (congrArg (State.answer w (.abort 0x08000106)) (if_neg bad')))

/-! ## The end of a session (R341, R343) -/

/-- A session that ends: Observer, and its claim given up. -/
def State.sessionEnded (w : Session) (s : State) : State :=
  if (s.modSess (sessIx w) fun x => { x with role := .observer, requested := 0, transfer := none }).net.claim = some w then
    (s.modSess (sessIx w) fun x => { x with role := .observer, requested := 0, transfer := none }).dropClaim
  else s.modSess (sessIx w) fun x => { x with role := .observer, requested := 0, transfer := none }

theorem State.sessionEnded_keeps (w : Session) (s : State) : KeepsBut [.net (.sess (sessIx w)), .net .shadow, .net .claim] s (s.sessionEnded w) :=
  KeepsBut.ite _ ((State.modSess_keeps _ _ s).append (State.dropClaim_keeps _)) ((State.modSess_keeps _ _ s).weaken (by cases w <;> exact .check rfl))

theorem State.sessionEnded_net (w : Session) (s : State) : ((s.sessionEnded w).net.sess[sessIx w]).role = .observer ∧
    (s.net.claim = some w → (s.sessionEnded w).net.claim = none ∧ (s.sessionEnded w).net.shadow = []) ∧
    (s.net.claim ≠ some w → (s.sessionEnded w).net.shadow = s.net.shadow) := by
  have role := congrArg Sess.role (State.modSess_sess (sessIx w) (fun x => { x with role := .observer, requested := 0, transfer := none }) s)
  unfold State.sessionEnded
  split
  next own => exact ⟨role, fun _ => ⟨rfl, rfl⟩, fun other => absurd own other⟩
  next other => exact ⟨role, fun own => absurd own other, fun _ => rfl⟩

theorem State.endSession_eq (w : Session) (asked : Bool) (s : State) :
    s.endSession w asked = if asked ∨ s.roleOf w = .observer then s.sessionEnded w else (s.sessionEnded w).raise 0x0D03 noInst [sessIx w] := rfl

/-! ## The sessions' commands -/

/-- A response that does not match, below the third in a row. -/
theorem State.responseBelow {w : Session} {j : Fin 3} {d : List Byte} {s : State} (a : s.admits w 0x2010 3 d = true) (len : d.length = 32)
    (bad : s.responseMatches w d = false) (role : roleCount (s.net.sess[sessIx w]).nonceRole = some j) (below : (s.net.sess[sessIx w]).fails[j] < 2) :
    Completes (.roleResponse w d) s fun t =>
      Answered w (.abort 0x08000106) t ∧ (t.net.sess[sessIx w]).fails[j] = (s.net.sess[sessIx w]).fails[j] + 1 ∧
        (t.net.sess[sessIx w]).failed = bump (s.net.sess[sessIx w]).failed ∧
      (t.net.sess[sessIx w]).held = false ∧ (t.net.sess[sessIx w]).role = (s.net.sess[sessIx w]).role ∧ Raised 0x0D01 noInst [sessIx w] s t ∧
        KeepsBut (([.net (.sess (sessIx w)), .timer (.nonce (sessIx w)),
        .timer (.sessIdle (sessIx w))] : List Part) ++ Part.each 4 (.lockout (sessIx w)) ++ Part.raised) s t := by
  have run := exec_roleResponse_wrong a len bad
  rw [State.authFailed_below (s := s.touch w) role below] at run
  have sess := (State.answer_sess w (.abort 0x08000106) _).trans (congrArg (fun x : Sess => { x with answer := .abort 0x08000106 })
    ((State.modSess_sess (sessIx w) (Sess.failMore j) _).trans (congrArg (Sess.failMore j) ((s.touch w).failureRecorded_sess w))))
  have failed : Raised 0x0D01 noInst [sessIx w] s ((s.touch w).failureRecorded w) := (s.touch w).failureRecorded_raised w
  exact ⟨_, run, State.answer_answered _ _ _, (congrArg (fun x : Sess => x.fails[j]) sess).trans (vector_set_eq _ _ _), (congrArg Sess.failed sess :),
    (congrArg Sess.held sess :), (congrArg Sess.role sess :), Raised.answer (Raised.modSess failed _ _) _ _,
    (((s.touch w).authFailed_below_keeps w _).write _).weaken (by cases w <;> exact .check rfl)⟩

/-- The third response in a row that does not match. -/
theorem State.responseThird {w : Session} {j : Fin 3} {d : List Byte} {s : State} (a : s.admits w 0x2010 3 d = true) (len : d.length = 32)
    (bad : s.responseMatches w d = false) (role : roleCount (s.net.sess[sessIx w]).nonceRole = some j) (third : 2 ≤ (s.net.sess[sessIx w]).fails[j])
    (room : s.evr.staging.length < 15) :
    Completes (.roleResponse w d) s fun t =>
      Answered w (.abort 0x08000106) t ∧ (t.net.sess[sessIx w]).fails[j] = 0 ∧ (t.net.sess[sessIx w]).locked[j] = true ∧
        Ends (.lockout (sessIx w) (j + 1)) 60000000000 s t ∧
      Raised 0x0D01 noInst [sessIx w] s t ∧ Raised 0x0D02 noInst [sessIx w, j + 1] s t ∧
        KeepsBut (([.net (.sess (sessIx w)), .timer (.nonce (sessIx w)),
        .timer (.sessIdle (sessIx w))] : List Part) ++ Part.each 4 (.lockout (sessIx w)) ++ Part.raised) s t := by
  have run := exec_roleResponse_wrong a len bad
  rw [State.authFailed_third (s := s.touch w) role third] at run
  have locking := ((s.touch w).failureRecorded w).roleLocked_sess w j
  rw [(s.touch w).failureRecorded_sess w] at locking
  have later := (State.raise_keepsBut 0x0D02 noInst [sessIx w, j + 1] (((s.touch w).failureRecorded w).roleLocked w j)).append
    (State.answer_keeps w (.abort 0x08000106) _)
  have raised : (State.raise 0x0D02 noInst [sessIx w, j + 1] (((s.touch w).failureRecorded w).roleLocked w j)).net.sess[sessIx w] =
      (s.net.sess[sessIx w]).failedOnce.lockingOut j :=
    ((State.raise_keepsBut 0x0D02 noInst [sessIx w, j + 1] _).get (.net (.sess (sessIx w))) (by cases w <;> rfl)).trans locking
  have sess := State.answer_sess w (.abort 0x08000106) (State.raise 0x0D02 noInst [sessIx w, j + 1] (((s.touch w).failureRecorded w).roleLocked w j))
  rw [raised] at sess
  have ends : Ends (.lockout (sessIx w) (j + 1)) 60000000000 s (((s.touch w).failureRecorded w).roleLocked w j) :=
    State.roleLocked_ends w j (((s.touch w).failureRecorded_keeps w).get .now (by cases w <;> rfl))
  obtain ⟨evr, batch, -, -⟩ := ((s.touch w).failureRecorded w).roleLocked_stands w j
  have staging := congrArg Recorder.staging evr
  have locked : Raised 0x0D02 noInst [sessIx w, j + 1] s _ := State.raise_raised_of_room _ _ _ (a := ((s.touch w).failureRecorded w).roleLocked w j)
    (by rw [staging]; exact (s.touch w).failureRecorded_room room)
  have recorded : Raised 0x0D01 noInst [sessIx w] s ((s.touch w).failureRecorded w) := (s.touch w).failureRecorded_raised w
  have failed : Raised 0x0D01 noInst [sessIx w] s (((s.touch w).failureRecorded w).roleLocked w j) := recorded.keep staging batch
  refine ⟨_, run, State.answer_answered _ _ _, ?_, ?_, ends.kept later (by cases w <;> apply Part.outsideAt j <;> rfl),
    Raised.answer (failed.raise (fun fault => absurd fault (by decide)) _ _ _) _ _, Raised.answer locked _ _,
    (((s.touch w).authFailed_third_keeps w j).write _).weaken (by cases w <;> apply Part.Within.checkAt j <;> rfl)⟩ <;> rw [sess]
  · exact vector_set_eq _ _ _
  · exact vector_set_eq _ _ _

theorem Sess.obtains {d : List Byte} {s : State} {w : Session} (locked : (s.net.sess[sessIx w]).lockedOut (roleOfNumber (leValue d)) = false)
    (key : s.upd.key[roleSlot (roleOfNumber (leValue d))] ≠ []) (allowed : Life.obtainable s.upd.life (roleOfNumber (leValue d)) = true) :
    (objRole (some w)).invalid (s.touch w) d = none :=
  (if_neg (by simpa [State.touch] using locked)).trans (if_neg fun h => h.2.elim key fun no => no allowed)

/-- Settles O27: each request, response and time of a session acts on its record. -/
theorem rolesAndSessions : Obligations.RolesAndSessions := by
  unfold Obligations.RolesAndSessions
  refine ⟨fun w d s a low high locked key allowed => ?_, fun w d s a locked => ?_, fun w s a => ?_, fun w d s a len ok => ?_,
    fun w j d s a len bad role below => ?_, fun w j d s a len bad role third room => ?_, fun w j s due => ?_, fun w s due => ?_, fun w s due role => ?_⟩
  · have effect : (objRole (some w)).effect (some w) d (s.touch w) = (s.touch w).challenge w (roleOfNumber (leValue d)) := if_neg (by omega)
    have run : exec (.roleRequest w d) s = .next (((s.touch w).challenge w (roleOfNumber (leValue d))).answer w .done) :=
      effect ▸ congrArg Host.Outcome.next (State.writeBy_local a (forwards_commands (0x2010, 1) (by simp)) rfl (Sess.obtains locked key allowed) rfl rfl rfl)
    have sess := (State.answer_sess w .done _).trans
      (congrArg (fun x : Sess => { x with answer := .done }) ((s.touch w).challenge_sess w (roleOfNumber (leValue d))))
    have ends : Ends (.nonce (sessIx w)) 10000000000 s ((s.touch w).challenge w (roleOfNumber (leValue d))) := State.arm_deadline _ _ _
    refine ⟨_, run, State.answer_answered _ _ _, (congrArg Sess.requested sess).trans (rank_roleOfNumber low high), (congrArg Sess.nonceRole sess :),
      (congrArg Sess.held sess :), (congrArg (fun x : Sess => x.nonce.length) sess).trans (by simp [Sess.challenged]), (congrArg Sess.role sess :),
      ends.kept (State.answer_keeps w .done _) (by cases w <;> rfl), (((s.touch w).challenge_keeps w _).write .done).weaken (by cases w <;> exact .check rfl)⟩
  · have refused : (objRole (some w)).invalid (s.touch w) d = some 0x08000107 := if_pos (by simpa [State.touch] using locked)
    have sess := congrArg Sess.held ((s.touch w).answer_sess w (.abort 0x08000107))
    exact ⟨_, congrArg Host.Outcome.next (State.writeBy_invalid a rfl rfl refused), State.answer_answered _ _ _, sess,
      (State.refused_keeps w _ s).weaken (by cases w <;> exact .check rfl)⟩
  · have run : exec (.sessionEndRequest w) s = .next (((s.touch w).sessionEnded w).answer w .done) := by
      have valid : (objRole (some w)).invalid (s.touch w) [0] = none := rfl
      refine congrArg Host.Outcome.next ((State.writeBy_local a (forwards_commands (0x2010, 1) (by simp)) rfl valid rfl rfl rfl).trans ?_)
      have effect : (objRole (some w)).effect (some w) [0] (s.touch w) = (s.touch w).endSession w true := rfl
      exact congrArg (State.answer w .done) (effect.trans (((s.touch w).endSession_eq w true).trans (if_pos (.inl rfl))))
    obtain ⟨role, own, other⟩ := (s.touch w).sessionEnded_net w
    exact ⟨_, run, State.answer_answered _ _ _, (congrArg Sess.role (State.answer_sess w .done _)).trans role, own, other,
      (((s.touch w).sessionEnded_keeps w).write .done).weaken (by cases w <;> exact .check rfl)⟩
  · have ok' : (s.touch w).responseMatches w d = true := ok
    have run : exec (.roleResponse w d) s = .next (((s.touch w).authPassed w).answer w .done) :=
      congrArg Host.Outcome.next ((State.writeBy_local a (forwards_commands (0x2010, 3) (by simp)) rfl rfl rfl (by simp [objResponse, len])
        (if_pos ok')).trans (congrArg (State.answer w .done) (if_pos ok')))
    obtain ⟨role, held⟩ := (s.touch w).authPassed_sess w
    exact ⟨_, run, State.answer_answered _ _ _, (congrArg Sess.role (State.answer_sess w .done _)).trans role,
      (congrArg Sess.held (State.answer_sess w .done _)).trans held, State.disarm_deadline _ _,
      (((s.touch w).authPassed_keeps w).write .done).weaken (by cases w <;> exact .check rfl)⟩
  · exact State.responseBelow a len bad role below
  · exact State.responseThird a len bad role third room
  · exact ⟨_, congrArg Host.Outcome.next (if_pos due), (congrArg (fun x : Sess => x.locked[j]) (State.modSess_sess (sessIx w)
      (fun x => { x with locked := x.locked.set j false }) _)).trans (vector_set_eq _ _ _), State.disarm_deadline _ s, (s.disarm_keeps _).append (State.modSess_keeps _ _ _)⟩
  · have sess : (s.useNonce w).net.sess[sessIx w] = { s.net.sess[sessIx w] with held := false } :=
      State.modSess_sess (sessIx w) (fun x => { x with held := false }) s
    exact ⟨_, congrArg Host.Outcome.next (if_pos due), congrArg Sess.held sess, (congrArg Sess.role sess :), State.disarm_deadline _ _, s.useNonce_keeps w⟩
  · have run : exec (.sessionIdleTimeout w) s =
        .next (((s.disarm (.sessIdle (sessIx w))).sessionEnded w).raise 0x0D03 noInst [sessIx w]) :=
      congrArg Host.Outcome.next ((if_pos due).trans (((s.disarm (.sessIdle (sessIx w))).endSession_eq w false).trans
        (if_neg fun h => h.elim Bool.false_ne_true role)))
    obtain ⟨observer, own, -⟩ := (s.disarm (.sessIdle (sessIx w))).sessionEnded_net w
    have ended := (s.disarm (.sessIdle (sessIx w))).sessionEnded_keeps w
    have later := State.raise_keepsBut 0x0D03 noInst [sessIx w] ((s.disarm (.sessIdle (sessIx w))).sessionEnded w)
    have stopped : Stopped (.sessIdle (sessIx w)) (s.disarm (.sessIdle (sessIx w))) := State.disarm_deadline _ s
    exact ⟨_, run, (congrArg Sess.role (later.get (.net (.sess (sessIx w))) (by cases w <;> rfl))).trans observer,
      fun h => ⟨(later.get (.net .claim) rfl).trans (own h).1, (later.get (.net .shadow) rfl).trans (own h).2⟩,
      State.raise_raised _ _ _ (ended.get (.evr .staging) (by cases w <;> rfl)), stopped.kept (ended.append later) (by cases w <;> rfl),
      (s.disarm_keeps _).append (ended.append later)⟩

end Sys2Proof.Machine
end

section
/-! PROOFS. The twin's token (R392 to R397). -/

namespace Sys2Proof.Machine

theorem State.twinQuiet_keeps (s : State) :
    KeepsBut [.timer .pairSend, .timer .pairing, .timer .aligned, .timer .mirrorLost, .timer .standbyLost, .timer .takeDrive, .timer .peerAnswer]
        s (State.twinQuiet s) := by
  unfold State.twinQuiet
  exact KeepsBut.weaken (KeepsBut.after (State.disarm_keeps _ _) (KeepsBut.after (State.disarm_keeps _ _) (KeepsBut.after (State.disarm_keeps _ _)
      (KeepsBut.after (State.disarm_keeps _ _) (KeepsBut.after (State.disarm_keeps _ _)
      (KeepsBut.after (State.disarm_keeps _ _) (State.disarm_keeps _ _))))))) (by exact .check rfl)

theorem State.quenchLet_keeps (s : State) :
    KeepsBut [.timer .quenchIgnore, .dist .quenchOut, .dist .quenchIgnore] s (State.quenchLet s) := by
  unfold State.quenchLet
  dsimp only
  exact KeepsBut.ite _ (KeepsBut.weaken (KeepsBut.after (KeepsBut.write_dist (l := [.dist .quenchOut, .dist .quenchIgnore]) fun f hf _ _ => by
      cases f with
      | quenchOut | quenchIgnore => simp at hf | brAll | feedAll | strAll => trivial
      | _ => exact rfl) (State.arm_keeps _ _ _)) (by exact .check rfl)) (KeepsBut.refl _ _)

theorem State.releaseShared_keeps (s : State) :
    KeepsBut [.pins .slDriver, .pins .pwmAll, .timer .quenchIgnore, .dist .quenchOut, .dist .quenchIgnore, .pins .gateAll, .pins .pg,
        .pins .twinActO, .shelf .sent, .twin .driveWait, .twin .released] s (State.releaseShared s) := by
  unfold State.releaseShared
  dsimp only
  exact KeepsBut.weaken (KeepsBut.after (KeepsBut.of_pieces (l := [.pins .gateAll, .pins .pg, .pins .twinActO, .shelf .sent, .twin .driveWait,
      .twin .released]) { State.Pieces.refl with
      pins_ := fun f hf hw _ => by
        cases f with
        | pg | twinActO => simp at hf | gate => simp [Part.whole, PinsPart.whole] at hw | pwmAll | gateAll => trivial | _ => exact rfl,
      shelf_ := fun f hf _ _ => by
        cases f with
        | sent => simp at hf | codesAll | rectsAll | framesAll | readbackFailsAll | readbackRunAll => trivial | _ => exact rfl,
      twin_ := fun f hf _ _ => by
        cases f with
        | driveWait | released => simp at hf | delayAll => trivial | _ => exact rfl })
        (KeepsBut.after (State.quenchLet_keeps _) (State.pwmOff_keeps _))) (by exact .check rfl)

theorem State.beginStandby_keeps (s : State) :
    KeepsBut [.pins .slDriver, .pins .pwmAll, .timer .quenchIgnore, .dist .quenchOut, .dist .quenchIgnore, .pins .gateAll, .pins .pg,
        .pins .twinActO, .shelf .sent, .twin .driveWait, .twin .released, .timer (.pmStretch ↑0), .pins .pmbusReleased, .net (.pmXfer 0),
        .timer (.pmStretch ↑1), .net (.pmXfer 1), .timer .pairSend, .timer .pairing, .timer .aligned, .timer .mirrorLost, .timer .standbyLost,
        .timer .takeDrive, .timer .peerAnswer, .twin .st, .twin .validRun, .twin .alignedSince, .twin .mirror, .twin .missed]
        s (State.beginStandby s) := by
  unfold State.beginStandby
  dsimp only
  exact KeepsBut.weaken (KeepsBut.after (KeepsBut.write_twin (l := [.twin .st, .twin .validRun, .twin .alignedSince, .twin .mirror, .twin .released,
      .twin .missed]) fun f hf _ _ => by
      cases f with
      | st | validRun | alignedSince | mirror | released | missed => simp at hf | delayAll => trivial | _ => exact rfl)
      (KeepsBut.after (State.twinQuiet_keeps _) (KeepsBut.after (State.pmLet_keeps _ _)
      (KeepsBut.after (State.pmLet_keeps _ _) (State.releaseShared_keeps _))))) (by exact .check rfl)

theorem State.dropToken_keeps (code : Nat) (s : State) :
    KeepsBut (([.twin .giveUp, .pins .slDriver, .pins .pwmAll, .timer .quenchIgnore, .dist .quenchOut, .dist .quenchIgnore, .pins .gateAll,
        .pins .pg, .pins .twinActO, .shelf .sent, .twin .driveWait, .twin .released] : List Part) ++ Part.raised) s (State.dropToken code s) := by
  unfold State.dropToken
  dsimp only
  exact KeepsBut.weaken (KeepsBut.after (State.releaseShared_keeps _) (KeepsBut.after (State.raise_keepsBut _ _ _ _)
      (KeepsBut.write_twin (l := [.twin .giveUp]) fun f hf _ _ => by
      cases f with | giveUp => simp at hf | delayAll => trivial | _ => exact rfl))) (by exact .check rfl)

theorem State.gatesLow_keeps (s : State) :
    KeepsBut [.pins .gateAll, .pins .pg] s (State.gatesLow s) := by
  unfold State.gatesLow
  dsimp only
  exact KeepsBut.weaken (KeepsBut.write_pins (l := [.pins .gateAll, .pins .pg]) fun f hf hw _ => by
      cases f with
      | pg => simp at hf | gate => simp [Part.whole, PinsPart.whole] at hw | pwmAll | gateAll => trivial | _ => exact rfl) (by exact .check rfl)

theorem State.idlePins_keeps (s : State) :
    KeepsBut [.pins .gateAll, .pins .pg, .twin .released] s (State.idlePins s) := by
  unfold State.idlePins
  dsimp only
  exact KeepsBut.ite _ (KeepsBut.weaken (KeepsBut.of_pieces (l := [.pins .gateAll, .pins .pg, .twin .released]) { State.Pieces.refl with
      pins_ := fun f hf hw _ => by
        cases f with
        | pg => simp at hf | gate => simp [Part.whole, PinsPart.whole] at hw | pwmAll | gateAll => trivial | _ => exact rfl,
      twin_ := fun f hf _ _ => by cases f with | released => simp at hf | delayAll => trivial | _ => exact rfl }) (by exact .check rfl))
      (KeepsBut.weaken (KeepsBut.after (KeepsBut.write_twin (l := [.twin .released]) fun f hf _ _ => by
      cases f with | released => simp at hf | delayAll => trivial | _ => exact rfl) (State.gatesLow_keeps _)) (by exact .check rfl))

theorem State.giveUpTo_keeps (code : Nat) (standby : Bool) (s : State) :
    KeepsBut (([.twin .giveUp, .pins .slDriver, .pins .pwmAll, .timer .quenchIgnore, .dist .quenchOut, .dist .quenchIgnore, .pins .gateAll,
        .pins .pg, .pins .twinActO, .shelf .sent, .twin .driveWait, .twin .released, .timer (.pmStretch ↑0), .pins .pmbusReleased, .net (.pmXfer 0),
        .timer (.pmStretch ↑1), .net (.pmXfer 1), .timer .pairSend, .timer .pairing, .timer .aligned, .timer .mirrorLost, .timer .standbyLost,
        .timer .takeDrive, .timer .peerAnswer, .twin .st, .twin .validRun, .twin .alignedSince, .twin .mirror, .twin .missed] : List Part)
        ++ Part.raised) s (State.giveUpTo code standby s) := by
  unfold State.giveUpTo
  dsimp only
  exact KeepsBut.ite _ (KeepsBut.weaken (KeepsBut.after (State.beginStandby_keeps _) (State.dropToken_keeps _ _)) (by exact .check rfl))
      (KeepsBut.weaken (KeepsBut.after (State.idlePins_keeps _) (KeepsBut.after (KeepsBut.write_twin (l := [.twin .st]) fun f hf _ _ => by
      cases f with | st => simp at hf | delayAll => trivial | _ => exact rfl)
      (KeepsBut.after (State.twinQuiet_keeps _) (State.dropToken_keeps _ _)))) (by exact .check rfl))

theorem State.cascTakeover_keeps (s : State) :
    KeepsBut [.casc .st, .timer .masterLost, .timer .cascAlloc] s (State.cascTakeover s) := by
  unfold State.cascTakeover
  dsimp only
  exact KeepsBut.ite _ (KeepsBut.weaken (KeepsBut.after (State.arm_keeps _ _ _) (KeepsBut.after (State.disarm_keeps _ _)
      (KeepsBut.write_casc (l := [.casc .st]) fun f hf _ _ => by
      cases f with
      | st => simp at hf | allocsAll | pReqAll | pMaxAll | wAll | socAll | reportAtAll => trivial | _ => exact rfl))) (by exact .check rfl))
      (KeepsBut.refl _ _)

theorem State.beginActive_keeps (st : TwinSt) (s : State) :
    KeepsBut [.timer .pairSend, .timer .pairing, .timer .aligned, .timer .mirrorLost, .timer .standbyLost, .timer .takeDrive, .timer .peerAnswer,
        .pins .twinActO, .twin .st, .twin .driveWait, .twin .released, .twin .missed] s (State.beginActive st s) := by
  unfold State.beginActive
  dsimp only
  exact KeepsBut.weaken (KeepsBut.after (State.arm_keeps _ _ _) (KeepsBut.after (KeepsBut.of_pieces (l := [.pins .twinActO, .twin .st,
      .twin .driveWait, .twin .released, .twin .missed]) { State.Pieces.refl with
      pins_ := fun f hf _ _ => by
        cases f with
        | twinActO => simp at hf | pwmAll | gateAll => trivial | _ => exact rfl,
      twin_ := fun f hf _ _ => by
        cases f with
        | st | driveWait | released | missed => simp at hf | delayAll => trivial | _ => exact rfl }) (State.twinQuiet_keeps _))) (by exact .check rfl)

theorem State.takeOver_keeps (cause : Nat) (s : State) :
    KeepsBut (([.tb .alignTerm, .tb .errBound, .tb .holdoverTime, .tb .limitRaised, .timers, .tb .slewLeft, .tb .slewOff, .tb .steering, .tb .lock,
        .tb .changes, .tb .lastChange, .tb .lockRun, .tb .refLock, .tb .freqOnly, .tb .phaseStage, .bat .deferred, .bat .writing, .bat .writeData,
        .bat .copiesAll, .bat .modelDue, .twin .takeovers, .pins .twinActO, .twin .st, .twin .driveWait, .twin .released, .twin .missed,
        .casc .st] : List Part) ++ Part.raised) s (State.takeOver cause s) := by
  unfold State.takeOver
  dsimp only
  exact KeepsBut.viaElse (KeepsBut.weaken (KeepsBut.after (State.refGained_keeps _) (KeepsBut.whole (m := [.tb .alignTerm, .tb .errBound,
      .tb .holdoverTime, .tb .limitRaised, .timers, .tb .slewLeft, .tb .slewOff, .tb .steering, .tb .lock, .tb .changes, .tb .lastChange,
      .tb .lockRun, .tb .refLock, .tb .freqOnly, .tb .phaseStage, .bat .deferred, .bat .writing, .bat .writeData, .bat .copiesAll, .bat .modelDue,
      .timers]) (State.enterHoldover_keeps _) rfl)) (by exact .check rfl)) (KeepsBut.weaken (KeepsBut.after (State.cascTakeover_keeps _)
      (KeepsBut.after (State.beginActive_keeps _ _) (KeepsBut.after (State.raise_keepsBut _ _ _ _) (KeepsBut.write_twin (l := [.twin .takeovers])
      fun f hf _ _ => by cases f with | takeovers => simp at hf | delayAll => trivial | _ => exact rfl)))) (by exact .check rfl))

theorem State.quenchPins_keeps (s : State) :
    KeepsBut [.timer .quenchIgnore, .dist .quenchOut, .dist .quenchIgnore, .pins .gpioOut, .pins .gpioDir] s (State.quenchPins s) := by
  unfold State.quenchPins
  dsimp only
  refine KeepsBut.via (KeepsBut.of_pieces (l := [.pins .gpioOut, .pins .gpioDir, .dist .quenchOut]) { State.Pieces.refl with
      pins_ := fun f hf _ _ => by
        cases f with
        | gpioOut | gpioDir => simp at hf | pwmAll | gateAll => trivial | _ => exact rfl,
      dist_ := fun f hf _ _ => by
        cases f with
        | quenchOut => simp at hf | brAll | feedAll | strAll => trivial | _ => exact rfl }) (by exact .check rfl) ?_
  exact KeepsBut.ite _ (KeepsBut.refl _ _) (KeepsBut.weaken (State.quenchLet_keeps _) (by exact .check rfl))

theorem State.drivePg_keeps (s : State) :
    KeepsBut [.pins .pg] s (State.drivePg s) := by
  unfold State.drivePg
  dsimp only
  exact KeepsBut.ite _ (KeepsBut.weaken (KeepsBut.write_pins (l := [.pins .pg]) fun f hf _ _ => by
      cases f with | pg => simp at hf | pwmAll | gateAll => trivial | _ => exact rfl) (by exact .check rfl)) (KeepsBut.refl _ _)

theorem State.driveEnable_keeps (r : Fin 32) (s : State) :
    KeepsBut [.pins .gpioDir, .pins .gpioOut] s (State.driveEnable r s) := by
  unfold State.driveEnable
  exact KeepsBut.ite _ (KeepsBut.weaken (State.driveGpio_keeps _ _ _) (by exact .check rfl)) (KeepsBut.refl _ _)

theorem State.drive_keeps (g : Fin 24) (d : GateDrive) (s : State) :
    KeepsBut [.pins (.gate g)] s (State.drive g d s) := by
  unfold State.drive
  exact KeepsBut.weaken (State.setGate_keeps _ _ _) (by apply Part.Within.checkAt g; rfl)

theorem State.driveStr_keeps (n : Fin 4) (s : State) :
    KeepsBut [.pins (.gate (stGate n))] s (State.driveStr n s) := by
  unfold State.driveStr
  exact KeepsBut.weaken (State.drive_keeps _ _ _) (by apply Part.Within.checkAt n; rfl)

theorem State.driveFeed_keeps (p : Fin 2) (s : State) :
    KeepsBut [.dist (.feed p), .pins (.gate (fdGate p false)), .pins (.gate (fdGate p true))] s (State.driveFeed p s) := by
  unfold State.driveFeed
  dsimp only
  exact KeepsBut.weaken (KeepsBut.after (State.drive_keeps _ _ _)
      (KeepsBut.after (State.drive_keeps _ _ _) (State.modFeed_keeps _ _ _))) (by apply Part.Within.checkAt p; rfl)

theorem State.brFaultRun_keeps (k : Fin 16) (s : State) :
    KeepsBut [.dist (.br k), .timer (.brFault ↑k)] s (State.brFaultRun k s) := by
  unfold State.brFaultRun
  exact KeepsBut.ite _ (KeepsBut.refl _ _) (KeepsBut.weaken
      (KeepsBut.after (State.arm_keeps _ _ _) (State.modBr_keeps _ _ _)) (by apply Part.Within.checkAt k; rfl))

theorem State.brFaultClear_keeps (k : Fin 16) (s : State) :
    KeepsBut [.dist (.br k), .timer (.brFault ↑k)] s (State.brFaultClear k s) := by
  unfold State.brFaultClear
  exact KeepsBut.weaken (KeepsBut.after (State.disarm_keeps _ _) (State.modBr_keeps _ _ _)) (by apply Part.Within.checkAt k; rfl)

theorem State.driveBranch_keeps (k : Fin 16) (s : State) :
    KeepsBut [.dist (.br k), .timer (.brFault ↑k), .pins (.gate (brGate k))] s (State.driveBranch k s) := by
  unfold State.driveBranch
  dsimp only
  refine KeepsBut.via (State.drive_keeps _ _ _) (by apply Part.Within.checkAt k; rfl) ?_
  exact KeepsBut.viaIf (KeepsBut.weaken (State.brFaultRun_keeps _ _) (by apply Part.Within.checkAt k; rfl)) (KeepsBut.weaken
      (KeepsBut.after (State.modBr_keeps _ _ _) (State.brFaultClear_keeps _ _)) (by apply Part.Within.checkAt k; rfl))

theorem State.driveShared_keeps (s : State) :
    KeepsBut [.dist .brAll, .timers, .pins .gateAll, .dist .feedAll, .pins .gpioDir, .pins .gpioOut, .pins .pg, .dist .quenchOut,
        .dist .quenchIgnore] s (State.driveShared s) := by
  unfold State.driveShared
  dsimp only
  exact KeepsBut.weaken (KeepsBut.after (State.quenchPins_keeps _) (KeepsBut.after (State.drivePg_keeps _) (KeepsBut.after
      (KeepsBut.each (l := [.pins .gpioDir, .pins .gpioOut]) (fun a s => KeepsBut.weaken (State.driveEnable_keeps _ _) (by exact .check rfl)) _ _)
      (KeepsBut.after (KeepsBut.each (l := [.pins .gateAll]) (fun a s => KeepsBut.weaken
      (KeepsBut.whole (m := [.pins .gateAll]) (State.driveStr_keeps _ _) rfl) (by exact .check rfl)) _ _) (KeepsBut.after
      (KeepsBut.each (l := [.dist .feedAll, .pins .gateAll]) (fun a s => KeepsBut.weaken (KeepsBut.whole (m := [.dist .feedAll, .pins .gateAll,
      .pins .gateAll]) (State.driveFeed_keeps _ _) rfl) (by exact .check rfl)) _ _) (KeepsBut.each (l := [.dist .brAll, .timers,
      .pins .gateAll]) (fun a s => KeepsBut.weaken (KeepsBut.whole (m := [.dist .brAll, .timers,
      .pins .gateAll]) (State.driveBranch_keeps _ _) rfl) (by exact .check rfl)) _ _)))))) (by exact .check rfl)

/-! ## A warm reset that begins (R410, R411) -/

/-- A reset asserted while none is being released has its own cause and scope. -/
theorem State.assertReset_warm {s : State} (idle : s.releasing = false) (cause : BitVec 16) (thermal : Bool) :
    (s.assertReset .warm cause thermal).rst = s.rst.assert .warm cause false := by
  simp [State.assertReset, idle]

theorem Rst.assert_warm {r : Rst} (supply : r.supplyOk = true) (cause : BitVec 16) :
    (r.assert .warm cause false).cause = cause ∧ (r.assert .warm cause false).scope = .warm ∧ (r.assert .warm cause false).phase = .step 1 ∧
      (r.assert .warm cause false).warmCount = r.warmCount + 1 := by
  simp [Rst.assert, supply]

/-! ## The token given up (R392 to R394) -/

/-- The state as the token's loss is told. -/
def State.giveUpNoted (code : Nat) (s : State) : State := { s with twin.giveUp := code }

theorem State.giveUpNoted_keeps (code : Nat) (s : State) : KeepsBut [.twin .giveUp] s (s.giveUpNoted code) :=
    (KeepsBut.write_twin (l := [.twin .giveUp]) fun f hf _ _ => by cases f with | giveUp => simp at hf  | delayAll => trivial | _ => exact rfl)

theorem State.dropToken_eq (code : Nat) (s : State) : s.dropToken code = ((s.giveUpNoted code).raise 0x0E03 noInst [code]).releaseShared := rfl

/-- What a token that is dropped leaves, beside its code. -/
theorem State.dropToken_later (code : Nat) (s : State) : KeepsBut (Part.raised ++ ([.pins .slDriver, .pins .pwmAll, .timer .quenchIgnore,
    .dist .quenchOut, .dist .quenchIgnore, .pins .gateAll, .pins .pg, .pins .twinActO, .shelf .sent, .twin .driveWait, .twin .released] : List Part))
    (s.giveUpNoted code) (s.dropToken code) := (State.raise_keepsBut _ _ _ _).append (State.releaseShared_keeps _)

theorem State.dropToken_giveUp (code : Nat) (s : State) : (s.dropToken code).twin.giveUp = code := (s.dropToken_later code).get (.twin .giveUp) rfl

theorem State.releaseShared_twinActO (s : State) : s.releaseShared.pins.twinActO = false := rfl

/-- The chip becomes unpaired. -/
def State.madeUnpaired (s : State) : State := { s.twinQuiet with twin.st := .unpaired }

theorem State.madeUnpaired_keeps (s : State) : KeepsBut [.timer .pairSend, .timer .pairing, .timer .aligned, .timer .mirrorLost, .timer .standbyLost,
    .timer .takeDrive, .timer .peerAnswer, .twin .st] s s.madeUnpaired := (s.twinQuiet_keeps).append (KeepsBut.write_twin (l := [.twin .st])
        fun f hf _ _ => by cases f with | st => simp at hf  | delayAll => trivial | _ => exact rfl)

theorem State.giveUpTo_standby (code : Nat) (s : State) : s.giveUpTo code true = (s.dropToken code).beginStandby := rfl

theorem State.giveUpTo_unpaired (code : Nat) (s : State) : s.giveUpTo code false = (s.dropToken code).madeUnpaired.idlePins := rfl

theorem State.beginStandby_st (s : State) : s.beginStandby.twin.st = .standbyUnsync := rfl

theorem State.beginStandby_twinActO (s : State) : s.beginStandby.pins.twinActO = false := rfl

/-- What remains said of a token that is given up. -/
theorem State.giveUpTo_said (code : Nat) (standby : Bool) (s : State) :
    (s.giveUpTo code standby).twin.st = (if standby then .standbyUnsync else .unpaired) ∧ (s.giveUpTo code standby).twin.giveUp = code ∧
      (s.giveUpTo code standby).pins.twinActO = false := by
  cases standby with
  | true => exact ⟨rfl, ((s.dropToken code).beginStandby_keeps.get (.twin .giveUp) rfl).trans (s.dropToken_giveUp code), rfl⟩
  | false =>
    have later := (s.dropToken code).madeUnpaired_keeps.append (s.dropToken code).madeUnpaired.idlePins_keeps
    exact ⟨(s.dropToken code).madeUnpaired.idlePins_keeps.get (.twin .st) rfl, (later.get (.twin .giveUp) rfl).trans (s.dropToken_giveUp code),
      later.get (.pins .twinActO) rfl⟩

/-- The code of the token's loss stays raised. -/
theorem State.giveUpTo_later (code : Nat) (standby : Bool) (s : State) :
    (s.giveUpTo code standby).evr.staging = ((s.giveUpNoted code).raise 0x0E03 noInst [code]).evr.staging ∧
      (s.giveUpTo code standby).net.batch = ((s.giveUpNoted code).raise 0x0E03 noInst [code]).net.batch := by
  have shared := ((s.giveUpNoted code).raise 0x0E03 noInst [code]).releaseShared_keeps
  cases standby with
  | true =>
    have later := shared.append (s.dropToken code).beginStandby_keeps
    exact ⟨later.get (.evr .staging) rfl, later.get (.net .batch) rfl⟩
  | false =>
    have later := shared.append ((s.dropToken code).madeUnpaired_keeps.append (s.dropToken code).madeUnpaired.idlePins_keeps)
    exact ⟨later.get (.evr .staging) rfl, later.get (.net .batch) rfl⟩

theorem State.giveUpTo_raised (code : Nat) (standby : Bool) {s a : State} (h : a.evr.staging = s.evr.staging) :
    Raised 0x0E03 noInst [code] s (a.giveUpTo code standby) :=
  (State.raise_raised 0x0E03 noInst [code] (s := s) (a := a.giveUpNoted code) h).keep (a.giveUpTo_later code standby).1 (a.giveUpTo_later code standby).2

theorem State.giveUpTo_unpaired_keeps (code : Nat) (s : State) : KeepsBut (([.twin .giveUp, .pins .slDriver, .pins .pwmAll, .timer .quenchIgnore,
    .dist .quenchOut, .dist .quenchIgnore, .pins .gateAll, .pins .pg, .pins .twinActO, .shelf .sent, .twin .driveWait, .twin .released,
        .timer .pairSend,
    .timer .pairing, .timer .aligned, .timer .mirrorLost, .timer .standbyLost, .timer .takeDrive, .timer .peerAnswer, .twin .st] : List Part)
        ++ Part.raised)
    s (s.giveUpTo code false) :=
  ((s.dropToken_keeps code).append ((s.dropToken code).madeUnpaired_keeps.append (s.dropToken code).madeUnpaired.idlePins_keeps)).weaken (by exact .check rfl)

/-! ## The token taken over (R395, R396) -/

/-- A takeover, counted. -/
def State.takeoverCounted (s : State) : State := { s with twin.takeovers := bump s.twin.takeovers }

theorem State.takeoverCounted_keeps (s : State) : KeepsBut [.twin .takeovers] s s.takeoverCounted := (KeepsBut.write_twin (l := [.twin .takeovers])
    fun f hf _ _ => by cases f with | takeovers => simp at hf  | delayAll => trivial | _ => exact rfl)

/-- The chip is active alone. -/
def State.tookOver (cause : Nat) (s : State) : State :=
  (s.takeoverCounted.raise 0x0E04 noInst [cause, ofBool (decide (s.twin.st = .standbyUnsync))]).beginActive .activeAlone

theorem State.takeOver_eq (cause : Nat) (s : State) : s.takeOver cause =
    if (s.tookOver cause).cascTakeover.tb.lock = .timebaseFail then (s.tookOver cause).cascTakeover
    else (s.tookOver cause).cascTakeover.enterHoldover.refGained := rfl

theorem State.tookOver_keeps (cause : Nat) (s : State) : KeepsBut (([.twin .takeovers, .timer .pairSend, .timer .pairing, .timer .aligned,
    .timer .mirrorLost, .timer .standbyLost, .timer .takeDrive, .timer .peerAnswer, .pins .twinActO, .twin .st, .twin .driveWait, .twin .released,
    .twin .missed] : List Part) ++ Part.raised) s (s.tookOver cause) :=
  (s.takeoverCounted_keeps.append ((State.raise_keepsBut _ _ _ _).append (State.beginActive_keeps _ _))).weaken (by exact .check rfl)

/-- What follows the taking of the token. -/
theorem State.takeOver_later (cause : Nat) (s : State) : KeepsBut (([.casc .st, .timer .masterLost, .timer .cascAlloc] : List Part) ++
    (Part.holdover s.bat.target ++ (Part.lockChange ++ ([.timer .holdoverSec] : List Part)))) (s.tookOver cause) (s.takeOver cause) := by
  have target : (s.tookOver cause).cascTakeover.bat.target = s.bat.target := by simp [State.tookOver, State.takeoverCounted]
  rw [State.takeOver_eq]
  refine (State.cascTakeover_keeps _).append (KeepsBut.ite _ (KeepsBut.refl _ _) ?_)
  rw [← target]
  exact (State.enterHoldover_keeps _).append (State.refGained_keeps _)

theorem State.takeOver_said (cause : Nat) (s : State) :
    (s.takeOver cause).twin.st = .activeAlone ∧ (s.takeOver cause).twin.takeovers = bump s.twin.takeovers ∧ (s.takeOver cause).pins.twinActO = true ∧
      (s.takeOver cause).pins.twinActI = s.pins.twinActI ∧ (s.takeOver cause).twin.driveWait = true ∧ Ends .takeDrive 5000 s (s.takeOver cause) := by
  have later := s.takeOver_later cause
  have counted := ((State.raise_keepsBut 0x0E04 noInst [cause, ofBool (decide (s.twin.st = .standbyUnsync))] s.takeoverCounted).append
    (State.beginActive_keeps .activeAlone _)).get (.twin .takeovers) rfl
  have now : Ends .takeDrive 5000 s (s.tookOver cause) := by
    rw [Ends, State.tookOver, State.beginActive, State.arm_deadline]
    simp [State.takeoverCounted]
  generalize s.bat.target = k at later
  exact ⟨later.get (.twin .st) (by apply Part.outsideAt k; rfl), (later.get (.twin .takeovers) (by apply Part.outsideAt k; rfl)).trans counted,
    later.get (.pins .twinActO) (by apply Part.outsideAt k; rfl),
    ((later.get (.pins .twinActI) (by apply Part.outsideAt k; rfl)).trans ((s.tookOver_keeps cause).get (.pins .twinActI) rfl)),
    later.get (.twin .driveWait) (by apply Part.outsideAt k; rfl), now.kept later (by apply Part.outsideAt k; rfl)⟩

theorem State.takeOver_parts (cause : Nat) (s : State) : KeepsBut (([.twin .takeovers, .timer .pairSend, .timer .pairing, .timer .aligned,
    .timer .mirrorLost, .timer .standbyLost, .timer .takeDrive, .timer .peerAnswer, .pins .twinActO, .twin .st, .twin .driveWait, .twin .released,
    .twin .missed, .casc .st, .timer .masterLost, .timer .cascAlloc, .tb .lock, .tb .freqOnly, .tb .steering, .tb .changes, .tb .slewLeft,
        .tb .slewOff,
    .tb .phaseStage, .tb .lastChange, .tb .lockRun, .tb .refLock, .tb .holdoverTime, .tb .errBound, .tb .alignTerm, .tb .limitRaised, .bat .deferred,
    .bat .modelDue, .bat (.copies s.bat.target), .bat .writing, .bat .writeData, .timer .learnedWrite, .timer .holdoverSec] : List Part)
        ++ Part.raised)
    s (s.takeOver cause) := by
  refine ((s.tookOver_keeps cause).append (s.takeOver_later cause)).weaken ?_
  generalize s.bat.target = k
  apply Part.Within.checkAt k; rfl

/-- The codes stand as they were when the takeover was told. -/
theorem State.takeOver_codes (cause : Nat) (s : State) :
    (s.takeOver cause).evr.staging =
        (s.takeoverCounted.raise 0x0E04 noInst [cause, ofBool (decide (s.twin.st = .standbyUnsync))]).evr.staging ∧
      (s.takeOver cause).net.batch =
        (s.takeoverCounted.raise 0x0E04 noInst [cause, ofBool (decide (s.twin.st = .standbyUnsync))]).net.batch := by
  have later := (State.beginActive_keeps .activeAlone _).append (s.takeOver_later cause)
  generalize s.bat.target = k at later
  exact ⟨later.get (.evr .staging) (by apply Part.outsideAt k; rfl), later.get (.net .batch) (by apply Part.outsideAt k; rfl)⟩

/-- Staging has room for one code more after another. -/
theorem State.raise_room {s a : State} (h : a.evr.staging = s.evr.staging) (room : s.evr.staging.length < 15) (c i : Nat) (v : List Nat) :
    (a.raise c i v).evr.staging.length < 16 := by
  rw [State.raise_staging _ _ _ _ (by rw [h]; omega)]
  simp [h]
  omega

/-- The wait for the outputs is over (R396). -/
def State.driveBegun (s : State) : State := { s.disarm .takeDrive with twin.driveWait := false }

theorem State.driveBegun_keeps (s : State) : KeepsBut [.timer .takeDrive, .twin .driveWait] s s.driveBegun := (s.disarm_keeps .takeDrive).append
    (KeepsBut.write_twin (l := [.twin .driveWait]) fun f hf _ _ => by cases f with | driveWait => simp at hf  | delayAll => trivial | _ => exact rfl)

/-- The timers that driving the outputs may change: those of a branch's fault and of the quench line. -/
theorem State.driveShared_timers (s : State) : KeepsBut (([.dist .brAll, .pins .gateAll, .dist .feedAll, .pins .gpioDir, .pins .gpioOut, .pins .pg,
    .dist .quenchOut, .dist .quenchIgnore, .timer .quenchIgnore] : List Part)
        ++ (List.finRange 16).map fun k => .timer (.brFault k)) s s.driveShared := by
  have branches := KeepsBut.each (l := ([.dist .brAll, .pins .gateAll] : List Part) ++ (List.finRange 16).map fun k => .timer (.brFault k))
    (fun k s => (State.driveBranch_keeps k s).weaken (by apply Part.Within.checkAt k; rfl)) (List.finRange 16) s
  have feeds (s : State) := KeepsBut.each (l := [.dist .feedAll, .pins .gateAll])
    (fun p s => (State.driveFeed_keeps p s).weaken (by apply Part.Within.checkAt p; rfl)) (List.finRange 2) s
  have strings (s : State) := KeepsBut.each (l := [.pins .gateAll])
    (fun n s => (State.driveStr_keeps n s).weaken (by apply Part.Within.checkAt n; rfl)) (List.finRange 4) s
  have enables (s : State) := KeepsBut.each (l := [.pins .gpioDir, .pins .gpioOut]) (fun r s => State.driveEnable_keeps r s) (List.finRange 32) s
  exact (branches.append ((feeds _).append ((strings _).append ((enables _).append ((State.drivePg_keeps _).append (State.quenchPins_keeps _)))))).weaken
    (by exact .check rfl)

theorem State.not_standby_of_active {s : State} (h : s.active = true) : ¬ s.standby = true := by
  simp only [State.active, Bool.decide_or, Bool.or_eq_true, decide_eq_true_eq] at h
  rcases h with h | h <;> simp [State.standby, h]

/-- Two active chips: the token is given up (R393, R394). -/
theorem State.conflicted (s : State) (active : s.active = true) (room : s.evr.staging.length < 15) :
    Completes .tokenConflict s fun t =>
      t.twin.st = (if s.peerEqual then .standbyUnsync else .unpaired) ∧ t.twin.giveUp = 0x0E07 ∧ t.pins.twinActO = false ∧ Raised 0x0E07 noInst [] s t ∧
        Raised 0x0E03 noInst [0x0E07] s t ∧
      KeepsBut (([.pins .twinActI, .twin .giveUp, .pins .pwmAll, .pins .slDriver, .timer .quenchIgnore, .dist .quenchOut, .dist .quenchIgnore,
          .pins .gateAll,
        .pins .pg, .pins .twinActO, .shelf .sent, .twin .driveWait, .twin .released, .timer (.pmStretch 0), .pins .pmbusReleased, .net (.pmXfer 0),
        .timer (.pmStretch 1), .net (.pmXfer 1), .timer .pairSend, .timer .pairing, .timer .aligned, .timer .mirrorLost, .timer .standbyLost,
            .timer .takeDrive,
        .timer .peerAnswer, .twin .st, .twin .validRun, .twin .alignedSince, .twin .mirror, .twin .missed] : List Part) ++ Part.raised) s t := by
  have told : KeepsBut [.pins .twinActI] s { s with pins.twinActI := true } := (KeepsBut.write_pins (l := [.pins .twinActI]) fun f hf _ _ => by
      cases f with
      | twinActI => simp at hf  | pwmAll | gateAll => trivial | _ => exact rfl)
  obtain ⟨st, code, out⟩ := State.giveUpTo_said 0x0E07 s.peerEqual (({ s with pins.twinActI := true } : State).raise 0x0E07 noInst [])
  obtain ⟨staging, batch⟩ := (({ s with pins.twinActI := true } : State).raise 0x0E07 noInst []).giveUpTo_later 0x0E07 s.peerEqual
  have conflict : Raised 0x0E07 noInst [] s (({ s with pins.twinActI := true } : State).raise 0x0E07 noInst []) := State.raise_raised _ _ _ rfl
  have both := Raised.raise (a := (({ s with pins.twinActI := true } : State).raise 0x0E07 noInst []).giveUpNoted 0x0E07) (conflict.keep rfl rfl)
    (State.raise_batchAt 0x0E07 noInst [] _) 0x0E03 noInst [0x0E07]
  have loss : Raised 0x0E03 noInst [0x0E07] s
      (((({ s with pins.twinActI := true } : State).raise 0x0E07 noInst []).giveUpNoted 0x0E07).raise 0x0E03 noInst [0x0E07]) :=
    State.raise_raised_of_room _ _ _ (State.raise_room (s := s) (a := { s with pins.twinActI := true }) rfl room 0x0E07 noInst [])
  exact ⟨_, congrArg Host.Outcome.next (if_pos active), st, code, out, both.keep staging batch, loss.keep staging batch,
    (told.append ((State.raise_keepsBut _ _ _ _).append (State.giveUpTo_keeps _ _ _))).weaken (by exact .check rfl)⟩

theorem Raised.takeoverCounted {c i : Nat} {v : List Nat} {s a : State} (h : Raised c i v s a) : Raised c i v s a.takeoverCounted := h.keep rfl rfl

theorem State.takeoverCounted_batchAt {c : Nat} {s : State} (h : isEvent c = false → s.net.batchAt = s.tb.tod / 1000) :
    isEvent c = false → s.takeoverCounted.net.batchAt = s.takeoverCounted.tb.tod / 1000 := h

theorem State.takeoverCounted_room {s : State} (h : s.evr.staging.length < 16) : s.takeoverCounted.evr.staging.length < 16 := h

/-- A standby that hears no active chip takes over (R395, R396). -/
theorem State.heartbeatLost (s : State) (standby : s.standby = true) (due : s.due .mirrorLost = true) (room : s.evr.staging.length < 15) :
    Completes .twinHeartbeatLost s fun t =>
      t.twin.st = .activeAlone ∧ t.twin.takeovers = bump s.twin.takeovers ∧ t.pins.twinActO = true ∧ Raised 0x0E05 noInst [] s t ∧
      Raised 0x0E04 noInst [1, ofBool (decide (s.twin.st = .standbyUnsync))] s t ∧ Ends .takeDrive 5000 s t ∧
        KeepsBut (([.twin .takeovers, .timer .pairSend, .timer .pairing, .timer .aligned, .timer .mirrorLost, .timer .standbyLost, .timer .takeDrive,
        .timer .peerAnswer, .pins .twinActO, .twin .st, .twin .driveWait, .twin .released, .twin .missed, .casc .st, .timer .masterLost,
            .timer .cascAlloc,
        .tb .lock, .tb .freqOnly, .tb .steering, .tb .changes, .tb .slewLeft, .tb .slewOff, .tb .phaseStage, .tb .lastChange, .tb .lockRun,
            .tb .refLock,
        .tb .holdoverTime, .tb .errBound, .tb .alignTerm, .tb .limitRaised, .bat .deferred, .bat .modelDue, .bat (.copies s.bat.target),
            .bat .writing,
        .bat .writeData, .timer .learnedWrite, .timer .holdoverSec] : List Part) ++ Part.raised) s t := by
  obtain ⟨st, counted, out, -, -, ends⟩ := (s.raise 0x0E05 noInst []).takeOver_said 1
  have conflict : Raised 0x0E05 noInst [] s (s.raise 0x0E05 noInst []) := State.raise_raised _ _ _ rfl
  have counted' : Raised 0x0E05 noInst [] s ((s.raise 0x0E05 noInst []).takeoverCounted.raise 0x0E04 noInst
      [1, ofBool (decide ((s.raise 0x0E05 noInst []).twin.st = .standbyUnsync))]) :=
    conflict.takeoverCounted.raise (State.takeoverCounted_batchAt (State.raise_batchAt 0x0E05 noInst [] s)) _ _ _
  have later := (s.raise 0x0E05 noInst []).takeOver_codes 1
  have twin : (s.raise 0x0E05 noInst []).twin = s.twin := by simp
  have target : (s.raise 0x0E05 noInst []).bat.target = s.bat.target := State.raise_target _ _ _ _
  have parts := (State.raise_keepsBut 0x0E05 noInst [] s).append ((s.raise 0x0E05 noInst []).takeOver_parts 1)
  have loss : Raised 0x0E04 noInst [1, ofBool (decide ((s.raise 0x0E05 noInst []).twin.st = .standbyUnsync))] s
      ((s.raise 0x0E05 noInst []).takeoverCounted.raise 0x0E04 noInst [1, ofBool (decide ((s.raise 0x0E05 noInst []).twin.st = .standbyUnsync))]) :=
    State.raise_raised_of_room _ _ _ (State.takeoverCounted_room (State.raise_room (s := s) rfl room 0x0E05 noInst []))
  have loss' := loss.keep later.1 later.2
  rw [twin] at loss' counted
  rw [target] at parts
  refine ⟨_, congrArg Host.Outcome.next (if_pos ⟨standby, due⟩), st, counted, out, counted'.keep later.1 later.2, loss', ?_, parts.weaken ?_⟩
  · have now : (s.raise 0x0E05 noInst []).now = s.now := by simp
    rw [Ends, now] at ends
    exact ends
  · generalize s.bat.target = k
    apply Part.Within.checkAt k; rfl

/-- Settles O40: the token's moves, each with its code and its outputs. -/
theorem twinTokenMovesAndIsTakenOver : Obligations.TwinTokenMovesAndIsTakenOver := by
  unfold Obligations.TwinTokenMovesAndIsTakenOver
  refine ⟨fun w d s a paired synced => ?_, fun w d s a unsynced => ?_, fun w d s a active => ?_, fun w d s a standby idle supply => ?_,
    fun s active room => ?_, fun s paired missed => ?_, fun s standby => ?_, fun s standby due room => ?_, fun s active due => ?_,
    fun s paired due => ?_, fun level s high low => ?_⟩
  · have free : objHandover.busy (s.touch w) d = none := if_neg (by simpa [paired] using show (s.touch w).peerSynced = true from synced)
    have run : exec (.handover w d) s = .next (((s.touch w).giveUpTo 0 true).answer w .done) :=
      congrArg Host.Outcome.next (State.writeBy_local a (forwards_commands (0x3000, 6) (by simp)) rfl rfl free rfl rfl)
    obtain ⟨st, code, out⟩ := (s.touch w).giveUpTo_said 0 true
    exact ⟨_, run, State.answer_answered _ _ _, st, code, out, Raised.answer (State.giveUpTo_raised (s := s) (a := s.touch w) 0 true rfl) _ _,
      (((s.touch w).giveUpTo_keeps 0 true).write .done).weaken (by cases w <;> exact .check rfl)⟩
  · have refused : objHandover.busy (s.touch w) d = some 0x08000022 := if_pos (by rw [decide_eq_true_eq]; exact fun h => Bool.false_ne_true (unsynced.symm.trans h.2))
    exact ⟨_, congrArg Host.Outcome.next (State.writeBy_busy a refused), State.answer_answered _ _ _,
      (State.refused_keeps w _ s).weaken (by cases w <;> exact .check rfl)⟩
  · have active' : ¬ ¬ ((s.touch w).active = true ∨ (s.touch w).standby = true) := not_not.2 (.inl active)
    have master : ¬ (s.touch w).standby = true := fun h => State.not_standby_of_active active h
    have run : exec (.resetStandby w d) s = .next (((s.touch w).launch .resetStandby).answer w .done) :=
      congrArg Host.Outcome.next ((State.writeBy_local a (forwards_commands (0x3000, 8) (by simp)) rfl rfl (if_neg (by simpa using active')) rfl rfl).trans
        (congrArg (State.answer w .done) (if_neg master)))
    exact ⟨_, run, State.answer_answered _ _ _, rfl, ((State.launch_keeps _ _).write .done).weaken (by cases w <;> exact .check rfl)⟩
  · have run : exec (.resetStandby w d) s = .next (((s.touch w).assertReset .warm causeTwin false).answer w .done) :=
      congrArg Host.Outcome.next ((State.writeBy_local a (forwards_commands (0x3000, 8) (by simp)) rfl rfl
        (if_neg (by simpa using fun _ => show (s.touch w).standby = true from standby)) rfl rfl).trans (congrArg (State.answer w .done) (if_pos standby)))
    have reset := State.assertReset_warm (s := s.touch w) idle causeTwin false
    obtain ⟨cause, scope, phase, -⟩ := Rst.assert_warm (r := (s.touch w).rst) supply causeTwin
    refine ⟨_, run, ?_, ?_, ?_, ?_, ?_⟩
    · exact (congrArg Rst.cause reset).trans cause
    · exact (congrArg Rst.scope reset).trans scope
    · exact (congrArg Rst.phase reset).trans phase
    · simp
    · simp
  · exact s.conflicted active room
  · obtain ⟨st, -, out⟩ := s.giveUpTo_said 0 false
    exact ⟨_, congrArg Host.Outcome.next (if_pos ⟨paired, missed⟩), st, out, State.giveUpTo_raised 0 false rfl,
      (s.giveUpTo_unpaired_keeps 0).weaken (by exact .check rfl)⟩
  · obtain ⟨st, counted, out, inp, wait, ends⟩ := ({ s with pins.twinActI := false } : State).takeOver_said 0
    obtain ⟨staging, batch⟩ := ({ s with pins.twinActI := false } : State).takeOver_codes 0
    have raised : Raised 0x0E04 noInst [0, ofBool (decide (s.twin.st = .standbyUnsync))] s (({ s with pins.twinActI := false } :
        State).takeoverCounted.raise 0x0E04 noInst [0, ofBool (decide (s.twin.st = .standbyUnsync))]) := State.raise_raised _ _ _ rfl
    exact ⟨_, congrArg Host.Outcome.next (if_pos standby), st, counted, out, inp, wait, raised.keep staging batch, ends,
      ((KeepsBut.write_pins (l := [.pins .twinActI]) fun f hf _ _ => by
          cases f with
          | twinActI => simp at hf  | pwmAll | gateAll => trivial
          | _ => exact rfl) : KeepsBut [.pins .twinActI] s { s with pins.twinActI := false }).append (State.takeOver_parts 0 ({ s with pins.twinActI := false } : State))⟩
  · exact s.heartbeatLost standby due room
  · have driven := s.driveBegun.driveShared_keeps
    have run : exec .takeoverDrive s = .next s.driveBegun.driveShared := congrArg Host.Outcome.next (if_pos ⟨active, due⟩)
    exact ⟨_, run, driven.get (.twin .driveWait) rfl,
      Stopped.kept (a := s.driveBegun) (State.disarm_deadline _ s) s.driveBegun.driveShared_timers rfl,
      ((s.driveBegun_keeps.whole rfl).append driven).weaken (by exact .check rfl)⟩
  · have lost : KeepsBut [.timer .standbyLost, .twin .st] s { s.disarm .standbyLost with twin.st := .activeAlone } :=
      (s.disarm_keeps .standbyLost).append (KeepsBut.write_twin (l := [.twin .st]) fun f hf _ _ => by
          cases f with | st => simp at hf  | delayAll => trivial | _ => exact rfl)
    have later := State.raise_keepsBut 0x0E0C noInst [] { s.disarm .standbyLost with twin.st := .activeAlone }
    exact ⟨_, congrArg Host.Outcome.next (if_pos ⟨paired, due⟩), later.get (.twin .st) rfl, State.raise_raised _ _ _ rfl,
      Stopped.kept (a := { s.disarm .standbyLost with twin.st := .activeAlone }) (State.disarm_deadline _ s) later rfl, lost.append later⟩
  · have taken : KeepsBut [.pins .twinActI] s { s with pins.twinActI := level } := (KeepsBut.write_pins (l := [.pins .twinActI]) fun f hf _ _ => by
      cases f with
      | twinActI => simp at hf  | pwmAll | gateAll => trivial | _ => exact rfl)
    have idle := State.idlePins_keeps { s with pins.twinActI := level }
    have run : exec (.twinActIChange level) s = .next (if ({ s with pins.twinActI := level } : State).up ∧ s.pins.twinPar ∧ s.twin.st ≠ .solo ∧
        ¬ ({ s with pins.twinActI := level } : State).active ∧ ¬ ({ s with pins.twinActI := level } : State).standby then
        ({ s with pins.twinActI := level } : State).idlePins else { s with pins.twinActI := level }) := by
      refine congrArg Host.Outcome.next (if_neg ?_)
      rintro (⟨active, up⟩ | ⟨standby, down⟩)
      · exact high.elim (fun h => by simp [h] at active) fun h => by simp [h] at up
      · exact low.elim (fun h => by simp [h] at standby) fun h => down h
    refine ⟨_, run, ?_, (KeepsBut.ite _ (taken.append idle) (taken.weaken (by exact .check rfl))).weaken (by exact .check rfl)⟩
    split
    · exact idle.get (.pins .twinActI) rfl
    · rfl

end Sys2Proof.Machine
end

section
/-! PROOFS. Scrubbing and the user area (R354, R430 to R454). -/

namespace Sys2Proof.Machine

theorem State.eccEvent_keeps (m : MemKind) (addr : Nat) (info : Nat) (s : State) :
    KeepsBut [.mem .nvEccAddr, .mem .lastAddr, .mem .eccAddr, .mem .eccInfo] s (State.eccEvent m addr info s) := by
  unfold State.eccEvent
  dsimp only
  split
  · exact KeepsBut.weaken (KeepsBut.write_mem (l := [.mem .nvEccAddr, .mem .lastAddr]) fun f hf _ _ => by
      cases f with
      | nvEccAddr | lastAddr => simp at hf | passFromAll | hourCorrAll | hourRaisedAll => trivial | _ => exact rfl) (by exact .check rfl)
  · exact KeepsBut.weaken (KeepsBut.write_mem (l := [.mem .eccAddr, .mem .eccInfo, .mem .lastAddr]) fun f hf _ _ => by
      cases f with
      | eccAddr | eccInfo | lastAddr => simp at hf | passFromAll | hourCorrAll | hourRaisedAll => trivial | _ => exact rfl) (by exact .check rfl)

theorem State.countHour_keeps (m : MemKind) (s : State) :
    KeepsBut [.mem .hour, .mem .hourCorrAll, .mem .hourRaisedAll] s (State.countHour m s) := by
  unfold State.countHour
  dsimp only
  refine KeepsBut.via (KeepsBut.write_mem (l := [.mem (.hourCorr (memNumber m))]) fun f hf _ _ => by
      cases f with
      | hourCorr j => exact vector_set_getElem_ne (by rintro rfl; simp at hf) | passFromAll | hourCorrAll | hourRaisedAll => trivial
      | _ => exact rfl) (by exact .check rfl) ?_
  exact KeepsBut.ite _ (KeepsBut.refl _ _) (KeepsBut.weaken (KeepsBut.write_mem (l := [.mem .hour, .mem .hourCorrAll, .mem .hourRaisedAll])
      fun f hf hw _ => by
      cases f with
      | hour => simp at hf | hourCorr => simp [Part.whole, MemPart.whole] at hw | hourRaised => simp [Part.whole, MemPart.whole] at hw | passFromAll
      | hourCorrAll | hourRaisedAll => trivial | _ => exact rfl) (by exact .check rfl))

theorem State.memCorrected_keeps (m : MemKind) (addr : Nat) (s : State) :
    KeepsBut (([.mem .hour, .mem .hourCorrAll, .mem .hourRaisedAll, .mem .mainCorr, .timer (.limit 4097 noInst), .mem .queueCorr, .mem .mramCorr,
        .timer (.limit 4353 noInst)] : List Part) ++ Part.raised) s (State.memCorrected m addr s) := by
  unfold State.memCorrected
  dsimp only
  split
  · exact KeepsBut.weaken (KeepsBut.after (State.raiseLimited_keeps _ _ _ _) (KeepsBut.after (KeepsBut.write_mem (l := [.mem .mainCorr])
      fun f hf _ _ => by
      cases f with
      | mainCorr => simp at hf | passFromAll | hourCorrAll | hourRaisedAll => trivial
      | _ => exact rfl) (State.countHour_keeps _ _))) (by exact .check rfl)
  · exact KeepsBut.weaken (KeepsBut.after (State.raiseLimited_keeps _ _ _ _) (KeepsBut.after (KeepsBut.write_mem (l := [.mem .queueCorr])
      fun f hf _ _ => by
      cases f with
      | queueCorr => simp at hf | passFromAll | hourCorrAll | hourRaisedAll => trivial
      | _ => exact rfl) (State.countHour_keeps _ _))) (by exact .check rfl)
  · exact KeepsBut.weaken (KeepsBut.after (State.raiseLimited_keeps _ _ _ _) (KeepsBut.after (KeepsBut.write_mem (l := [.mem .mramCorr])
      fun f hf _ _ => by
      cases f with
      | mramCorr => simp at hf | passFromAll | hourCorrAll | hourRaisedAll => trivial
      | _ => exact rfl) (State.countHour_keeps _ _))) (by exact .check rfl)

theorem State.nvcUserWrite_keeps (s : State) :
    KeepsBut [.mem .nvResult, .mem .badWords, .mem .user] s (State.nvcUserWrite s) := by
  unfold State.nvcUserWrite
  dsimp only
  refine KeepsBut.ite _ (KeepsBut.weaken (KeepsBut.write_mem (l := [.mem .nvResult]) fun f hf _ _ => by
      cases f with
      | nvResult => simp at hf | passFromAll | hourCorrAll | hourRaisedAll => trivial | _ => exact rfl) (by exact .check rfl)) ?_
  refine KeepsBut.ite _ (KeepsBut.weaken (KeepsBut.write_mem (l := [.mem .nvResult]) fun f hf _ _ => by
      cases f with
      | nvResult => simp at hf | passFromAll | hourCorrAll | hourRaisedAll => trivial | _ => exact rfl) (by exact .check rfl)) ?_
  refine KeepsBut.ite _ (KeepsBut.weaken (KeepsBut.write_mem (l := [.mem .nvResult]) fun f hf _ _ => by
      cases f with
      | nvResult => simp at hf | passFromAll | hourCorrAll | hourRaisedAll => trivial | _ => exact rfl) (by exact .check rfl)) ?_
  exact KeepsBut.ite _ (KeepsBut.weaken (KeepsBut.write_mem (l := [.mem .nvResult]) fun f hf _ _ => by
      cases f with
      | nvResult => simp at hf | passFromAll | hourCorrAll | hourRaisedAll => trivial | _ => exact rfl) (by exact .check rfl)) (KeepsBut.weaken
      (KeepsBut.write_mem (l := [.mem .badWords, .mem .nvResult, .mem .user]) fun f hf _ _ => by
      cases f with
      | badWords | nvResult | user => simp at hf | passFromAll | hourCorrAll | hourRaisedAll => trivial | _ => exact rfl) (by exact .check rfl))

theorem State.nvcStore_keeps (scope : Nat) (s : State) :
    KeepsBut [.mem .nvResult, .mem .nvBusy, .twin .sent, .net .storeAll, .net .storing, .timer .store] s (State.nvcStore scope s) := by
  unfold State.nvcStore
  dsimp only
  refine KeepsBut.ite _ (KeepsBut.refl _ _) ?_
  refine KeepsBut.ite _ (KeepsBut.weaken (KeepsBut.write_mem (l := [.mem .nvResult]) fun f hf _ _ => by
      cases f with
      | nvResult => simp at hf | passFromAll | hourCorrAll | hourRaisedAll => trivial | _ => exact rfl) (by exact .check rfl)) ?_
  refine KeepsBut.ite _ (KeepsBut.weaken (KeepsBut.write_mem (l := [.mem .nvResult]) fun f hf _ _ => by
      cases f with
      | nvResult => simp at hf | passFromAll | hourCorrAll | hourRaisedAll => trivial | _ => exact rfl) (by exact .check rfl)) ?_
  exact KeepsBut.ite _ (KeepsBut.weaken (KeepsBut.write_mem (l := [.mem .nvResult]) fun f hf _ _ => by
      cases f with
      | nvResult => simp at hf | passFromAll | hourCorrAll | hourRaisedAll => trivial | _ => exact rfl) (by exact .check rfl)) (KeepsBut.weaken
      (KeepsBut.after (State.storeStart_keeps _ _ _) (KeepsBut.write_mem (l := [.mem .nvResult, .mem .nvBusy]) fun f hf _ _ => by
      cases f with
      | nvResult | nvBusy => simp at hf | passFromAll | hourCorrAll | hourRaisedAll => trivial | _ => exact rfl)) (by exact .check rfl))

theorem State.beginPass_keeps (m : MemKind) (s : State) :
    KeepsBut [.timer (.scrubPass (↑(memNumber m))), .mem .passFromAll] s (State.beginPass m s) := by
  unfold State.beginPass
  dsimp only
  exact KeepsBut.weaken (KeepsBut.after (KeepsBut.write_mem (l := [.mem .passFromAll]) fun f _ hw _ => by
      cases f with
      | passFrom => simp [Part.whole, MemPart.whole] at hw | passFromAll | hourCorrAll | hourRaisedAll => trivial
      | _ => exact rfl) (State.arm_keeps _ _ _)) (by simp [Part.Within, Part.raised])

theorem State.endPass_keeps (m : MemKind) (s : State) :
    KeepsBut [.mem .scrubPasses, .mem .passTime, .timer (.scrubPass (↑(memNumber m))), .mem .passFromAll] s (State.endPass m s) := by
  unfold State.endPass
  dsimp only
  refine KeepsBut.via (State.beginPass_keeps _ _) (by simp [Part.Within, Part.raised]) ?_
  split
  · exact KeepsBut.weaken (KeepsBut.write_mem (l := [.mem .scrubPasses]) fun f hf _ _ => by
      cases f with
      | scrubPasses => simp at hf | passFromAll | hourCorrAll | hourRaisedAll => trivial | _ => exact rfl) (by simp [Part.Within, Part.raised])
  · exact KeepsBut.weaken (KeepsBut.write_mem (l := [.mem .passTime]) fun f hf _ _ => by
      cases f with
      | passTime => simp at hf | passFromAll | hourCorrAll | hourRaisedAll => trivial | _ => exact rfl) (by simp [Part.Within, Part.raised])

/-! ## A scrubbing step's word (R430 to R433) -/

theorem State.scrubRead_sram {m : MemKind} {n : Nat} (sram : m ≠ .mram) (inner : n + 1 ≠ memWords m) (s : State) : s.scrubRead m n = s := by
  rw [State.scrubRead, if_neg sram, if_neg inner]

/-- The scrubbing of MRAM has passed on to the next word. -/
def State.scrubbed (s : State) : State := { s with mem.scrubPos := (s.mem.scrubPos + 1) % memWords .mram }

theorem State.scrubbed_keeps (s : State) : KeepsBut [.mem .scrubPos] s s.scrubbed := (KeepsBut.write_mem (l := [.mem .scrubPos]) fun f hf _ _ => by
    cases f with
    | scrubPos => simp at hf  | passFromAll | hourCorrAll | hourRaisedAll => trivial | _ => exact rfl)

theorem State.scrubRead_mram {s : State} (inner : s.mem.scrubPos + 1 ≠ memWords .mram) : s.scrubRead .mram s.mem.scrubPos = s.scrubbed := if_neg inner

theorem State.scrubWord_sram {m : MemKind} (sram : m ≠ .mram) (word : Nat) (s : State) : s.scrubWord m word = word % memWords m := if_neg sram

theorem exec_scrubStep_clean {m : MemKind} {code : BitVec 80} (a : rsLane code.toNat 0 = .clean) (b : rsLane code.toNat 1 = .clean) (word : Nat)
    (used : Bool) (s : State) : exec (.scrubStep m word code used) s = .next (s.scrubRead m (s.scrubWord m word)) :=
  (exec_scrubStep_eq m word code used s).trans (congrArg _ (if_pos ⟨a, b⟩))

/-- A word of an SRAM with one nibble corrected. -/
theorem exec_scrubStep_corrected {word n e : Nat} {code : BitVec 80} (inner : word % memWords .main + 1 ≠ memWords .main)
    (a : rsLane code.toNat 0 = .corrected n e) (b : rsLane code.toNat 1 = .clean) (used : Bool) (s : State) :
    exec (.scrubStep .main word code used) s = .next ((s.eccEvent .main (memAddress .main (word % memWords .main)) (n + 128 + 256 * ofBool used)).memCorrected
      .main (memAddress .main (word % memWords .main))) := by
  rw [exec_scrubStep_eq, State.scrubWord_sram (by decide), State.scrubRead_sram (by decide) inner, a, b]
  simp [State.scrubWrong, eccInfoOf]

theorem exec_scrubStep_uncorrectable {m : MemKind} {code : BitVec 80} (a : rsLane code.toNat 0 = .uncorrectable) (word : Nat) (used : Bool) (s : State) :
    ∃ info, exec (.scrubStep m word code used) s = .next (((s.scrubRead m (s.scrubWord m word)).eccEvent m (memAddress m (s.scrubWord m word))
      info).memUncorrectable m (memAddress m (s.scrubWord m word)) used) := by
  refine ⟨_, (exec_scrubStep_eq m word code used s).trans (congrArg Host.Outcome.next ((if_neg fun h => ?_).trans (if_pos (by simp [a]))))⟩
  rw [a] at h
  exact absurd h.1 (by simp)

/-! ## A corrected word is counted (R432, R454) -/

/-- A corrected word of main SRAM, counted in its hour. -/
def State.mainCorrected (s : State) : State := { s.countHour .main with mem.mainCorr := satCount (s.countHour .main).mem.mainCorr }

theorem State.mainCorrected_keeps (s : State) : KeepsBut [.mem .hour, .mem .hourCorrAll, .mem .hourRaisedAll, .mem .mainCorr] s s.mainCorrected :=
  ((State.countHour_keeps .main s).append (KeepsBut.write_mem (l := [.mem .mainCorr]) fun f hf _ _ => by
      cases f with
      | mainCorr => simp at hf  | passFromAll | hourCorrAll | hourRaisedAll => trivial | _ => exact rfl)).weaken (by exact .check rfl)

theorem State.memCorrected_main {addr : Nat} {s : State} (idle : s.running (.limit 0x1001 noInst) = false) :
    s.memCorrected .main addr = (s.mainCorrected.arm (.limit 0x1001 noInst) 1000000000).raise 0x1001 noInst [addr] :=
  State.raiseLimited_of_idle (s := s.mainCorrected)
    ((congrArg Option.isSome (s.mainCorrected_keeps.get (.timer (.limit 0x1001 noInst)) rfl)).trans idle) [addr]

theorem State.mainCorrected_count (s : State) : s.mainCorrected.mem.mainCorr = satCount s.mem.mainCorr :=
  congrArg satCount ((State.countHour_keeps .main s).get (.mem .mainCorr) rfl)

/-! ## An uncorrectable word (R432, R435) -/

/-- A word of the user area found uncorrectable for the first time: its bytes read 0. -/
def State.userSpoiled (addr : Nat) (s : State) : State :=
  { s with mem.badWords := addr :: s.mem.badWords, mem.mramUnc := satCount s.mem.mramUnc, mem.user := writeBytes addr (List.replicate 8 0) s.mem.user }

theorem State.userSpoiled_keeps (addr : Nat) (s : State) : KeepsBut [.mem .badWords, .mem .mramUnc, .mem .user] s (s.userSpoiled addr) :=
  (KeepsBut.write_mem (l := [.mem .badWords, .mem .mramUnc, .mem .user]) fun f hf _ _ => by
      cases f with
      | badWords | mramUnc | user => simp at hf  | passFromAll | hourCorrAll | hourRaisedAll => trivial | _ => exact rfl)

theorem State.memUncorrectable_userArea {addr : Nat} {s : State} (area : partitionOf addr = 7) (fresh : s.mem.badWords.contains addr = false) (used : Bool) :
    s.memUncorrectable .mram addr used = (s.userSpoiled addr).raise 0x1102 noInst [7, addr] := by
  have copies (t : State) : t.copySpoiled addr = t := by
    unfold State.copySpoiled
    rw [area]
    exact rfl
  unfold State.memUncorrectable
  simp only [fresh, area, copies]
  cases used <;> rfl

/-- A word of critical state found uncorrectable in solo operation: the warm reset of its cause, which owes its record (R434, R435). -/
def State.criticalLost (addr : Nat) (s : State) : State :=
  { s with mem.badWords := if s.mem.badWords.contains addr then s.mem.badWords else addr :: s.mem.badWords, mem.mainUnc := satCount s.mem.mainUnc }

theorem State.memUncorrectable_critical {addr : Nat} {s : State} (alone : s.active = false) : s.memUncorrectable .main addr true =
    { (s.criticalLost addr).assertReset .warm causeUncorr false with
      rst.owed := ((s.criticalLost addr).assertReset .warm causeUncorr false).rst.owed ++ [(0x1003, [addr])] } := by
  have alone' : ¬ (s.criticalLost addr).active = true := by rw [show (s.criticalLost addr).active = s.active from rfl, alone]; simp
  have kept : (if (s.criticalLost addr).active then (s.criticalLost addr).dropToken 0x1003 else s.criticalLost addr) = s.criticalLost addr := if_neg alone'
  have run : s.memUncorrectable .main addr true =
      { (if (s.criticalLost addr).active then (s.criticalLost addr).dropToken 0x1003 else s.criticalLost addr).assertReset .warm causeUncorr false with
        rst.owed := ((if (s.criticalLost addr).active then (s.criticalLost addr).dropToken 0x1003 else s.criticalLost addr).assertReset .warm causeUncorr
          false).rst.owed ++ [(0x1003, [addr])] } := rfl
  rw [run, kept]

theorem State.assertReset_mainUnc {s : State} (idle : s.releasing = false) (cause : BitVec 16) (thermal : Bool) :
    (s.assertReset .warm cause thermal).mem.mainUnc = s.mem.mainUnc := by
  simp [State.assertReset, idle, State.warmKept]

theorem scrubWord_main (word : Nat) (s : State) : s.scrubWord .main word = word % memWords .main := if_neg (by decide)

/-- What a word of main SRAM with one nibble corrected does (R432, R454). -/
theorem State.correctedWord {addr info : Nat} {s : State} (idle : s.running (.limit 0x1001 noInst) = false) :
    ((s.eccEvent .main addr info).memCorrected .main addr).mem.mainCorr = satCount s.mem.mainCorr ∧
      ((s.eccEvent .main addr info).memCorrected .main addr).mem.eccAddr = addr ∧ ((s.eccEvent .main addr info).memCorrected .main addr).mem.eccInfo = info ∧
      ((s.eccEvent .main addr info).memCorrected .main addr).mem.user = s.mem.user ∧
      Raised 0x1001 noInst [addr] s ((s.eccEvent .main addr info).memCorrected .main addr) := by
  have counted := (s.eccEvent .main addr info).mainCorrected_keeps
  have later := (State.arm_keeps (.limit 0x1001 noInst) 1000000000 (s.eccEvent .main addr info).mainCorrected).append
    (State.raise_keepsBut 0x1001 noInst [addr] _)
  have all := counted.append later
  rw [State.memCorrected_main (s := s.eccEvent .main addr info) idle]
  exact ⟨(later.get (.mem .mainCorr) rfl).trans (State.mainCorrected_count _), all.get (.mem .eccAddr) rfl, all.get (.mem .eccInfo) rfl,
    all.get (.mem .user) rfl, State.raise_raised _ _ _ (counted.get (.evr .staging) rfl)⟩

/-- What a step of main SRAM has left when it finds its word wrong. -/
theorem State.scrubReadMain_stands (n info : Nat) (s : State) :
    ((s.scrubRead .main n).eccEvent .main (memAddress .main n) info).twin = s.twin ∧
      ((s.scrubRead .main n).eccEvent .main (memAddress .main n) info).rst = s.rst ∧
      ((s.scrubRead .main n).eccEvent .main (memAddress .main n) info).mem.mainUnc = s.mem.mainUnc ∧
      ((s.scrubRead .main n).eccEvent .main (memAddress .main n) info).pending = s.pending ∧
      ((s.scrubRead .main n).eccEvent .main (memAddress .main n) info).now = s.now ∧
      ((s.scrubRead .main n).eccEvent .main (memAddress .main n) info).mem.user = s.mem.user := by
  unfold State.scrubRead
  rw [if_neg (show ¬ MemKind.main = .mram by simp)]
  dsimp only
  split <;> simp [State.eccEvent, State.endPass, State.beginPass]

theorem State.criticalWord (addr : Nat) {s : State} (alone : s.active = false) (idle : s.releasing = false) (supply : s.rst.supplyOk = true) :
    (s.memUncorrectable .main addr true).rst.cause = causeUncorr ∧ (s.memUncorrectable .main addr true).rst.scope = .warm ∧
      (s.memUncorrectable .main addr true).rst.phase = .step 1 ∧ (0x1003, [addr]) ∈ (s.memUncorrectable .main addr true).rst.owed ∧
      (s.memUncorrectable .main addr true).mem.mainUnc = satCount s.mem.mainUnc ∧ (s.memUncorrectable .main addr true).mem.user = s.mem.user ∧
      (s.memUncorrectable .main addr true).pending = s.pending ∧ (s.memUncorrectable .main addr true).now = s.now := by
  have reset := State.assertReset_warm (s := s.criticalLost addr) idle causeUncorr false
  obtain ⟨cause, scope, phase, -⟩ := Rst.assert_warm (r := s.rst) supply causeUncorr
  obtain ⟨pending, now, user⟩ := State.assertReset_stands .warm causeUncorr false (s.criticalLost addr)
  rw [State.memUncorrectable_critical alone]
  exact ⟨(congrArg Rst.cause reset).trans cause, (congrArg Rst.scope reset).trans scope, (congrArg Rst.phase reset).trans phase,
    List.mem_append_right _ (List.mem_singleton.2 rfl), State.assertReset_mainUnc (s := s.criticalLost addr) idle _ _, user, pending, now⟩

theorem State.areaWord {addr : Nat} {s : State} (area : partitionOf addr = 7) (fresh : s.mem.badWords.contains addr = false)
    (wf : Memory.wf s.mem.user = true) (used : Bool) :
    (∀ a : Nat, readByte (s.memUncorrectable .mram addr used).mem.user a = if addr ≤ a ∧ a < addr + 8 then 0 else readByte s.mem.user a) ∧
      Memory.wf (s.memUncorrectable .mram addr used).mem.user = true ∧ (s.memUncorrectable .mram addr used).mem.mramUnc = satCount s.mem.mramUnc ∧
      (s.memUncorrectable .mram addr used).mem.badWords.contains addr = true ∧
      Raised 0x1102 noInst [7, addr] s (s.memUncorrectable .mram addr used) ∧
      KeepsBut (([.mem .badWords, .mem .mramUnc, .mem .user] : List Part) ++ Part.raised) s (s.memUncorrectable .mram addr used) := by
  rw [State.memUncorrectable_userArea area fresh]
  have later := State.raise_keepsBut 0x1102 noInst [7, addr] (s.userSpoiled addr)
  have user : ((s.userSpoiled addr).raise 0x1102 noInst [7, addr]).mem.user = writeBytes addr (List.replicate 8 0) s.mem.user := later.get (.mem .user) rfl
  have bad : ((s.userSpoiled addr).raise 0x1102 noInst [7, addr]).mem.badWords = addr :: s.mem.badWords := later.get (.mem .badWords) rfl
  refine ⟨fun a => ?_, ?_, later.get (.mem .mramUnc) rfl, ?_, State.raise_raised _ _ _ rfl, (s.userSpoiled_keeps addr).append later⟩
  · rw [user, readByte_writeBytes addr a _ wf, List.length_replicate]
    split
    next inside =>
      rw [List.getD_eq_getElem?_getD, List.getElem?_replicate]
      split <;> rfl
    next => rfl
  · rw [user]
    exact writeBytes_wf addr _ wf
  · rw [bad]
    simp

/-- The word that the host writes to the user area (R450). -/
def State.nvcWritten (s : State) : State :=
  { s with
    mem.user := writeBytes s.mem.nvAddr.toNat (leBytes 4 s.mem.nvData0.toNat ++ leBytes 4 s.mem.nvData1.toNat) s.mem.user
    mem.badWords := s.mem.badWords.filter fun b => b ≠ s.mem.nvAddr.toNat
    mem.nvResult := 1 }

theorem State.nvcWritten_keeps (s : State) : KeepsBut [.mem .user, .mem .badWords, .mem .nvResult] s s.nvcWritten :=
    (KeepsBut.write_mem (l := [.mem .user, .mem .badWords, .mem .nvResult]) fun f hf _ _ => by
    cases f with
    | user | badWords | nvResult => simp at hf  | passFromAll | hourCorrAll | hourRaisedAll => trivial | _ => exact rfl)

theorem State.nvcUserWrite_done {s : State} (role : roleAllows (s.roleOf .spi) .operator = true) (free : s.mem.nvBusy = false)
    (power : s.pins.brownWarn = false) (word : userWord s.mem.nvAddr.toNat = true) : (s.touch .spi).nvcUserWrite = (s.touch .spi).nvcWritten :=
  (if_neg (not_not.2 role)).trans
    ((if_neg (by simpa using free)).trans ((if_neg (by simpa using power)).trans (if_neg (by simpa using word))))

theorem State.userWritten (s : State) (wf : Memory.wf s.mem.user = true) :
    (∀ a : Nat, readByte (s.touch .spi).nvcWritten.mem.user a = if s.mem.nvAddr.toNat ≤ a ∧ a < s.mem.nvAddr.toNat + 8 then
        (leBytes 4 s.mem.nvData0.toNat ++ leBytes 4 s.mem.nvData1.toNat).getD (a - s.mem.nvAddr.toNat) 0 else readByte s.mem.user a) ∧
      Memory.wf (s.touch .spi).nvcWritten.mem.user = true :=
  ⟨fun a => readByte_writeBytes s.mem.nvAddr.toNat a _ wf, writeBytes_wf s.mem.nvAddr.toNat _ wf⟩

/-- Settles O46: scrubbing finds a word clean, corrected or uncorrectable; the non-volatile commands write the user area or refuse. -/
theorem scrubbingAndUserArea : Obligations.ScrubbingAndUserArea := by
  unfold Obligations.ScrubbingAndUserArea
  refine ⟨fun m word code used s sram inner a b => ?_, fun word code used s inner a b => ?_, fun word code used n e s inner a b idle => ?_,
    fun word code s a alone idle supply => ?_, fun word code used s inner area a fresh wf => ?_, fun m s due => ?_, fun m s rate hour once => ?_,
    fun scope s up some_ role free idle => ?_, fun scope s up some_ role => ?_, fun s up role free power word wf => ?_,
    fun s up role free power word => ?_⟩
  · refine ⟨_, exec_scrubStep_clean a b word used s, ?_⟩
    rw [State.scrubWord_sram sram, State.scrubRead_sram sram inner]
    exact KeepsBut.refl _ s
  · refine ⟨_, (exec_scrubStep_clean a b word used s).trans (congrArg _ (State.scrubRead_mram inner)), rfl, rfl, s.scrubbed_keeps.weaken (by exact .check rfl)⟩
  · obtain ⟨count, addr, info, user, raised⟩ := State.correctedWord (addr := memAddress .main (word % memWords .main))
      (info := n + 128 + 256 * ofBool used) idle
    exact ⟨_, exec_scrubStep_corrected inner a b used s, count, addr, info, user, raised,
      ((State.eccEvent_keeps .main _ _ s).append ((State.memCorrected_keeps .main _ _).whole rfl)).weaken (by exact .check rfl)⟩
  · obtain ⟨info, run⟩ := exec_scrubStep_uncorrectable (m := .main) a word true s
    rw [State.scrubWord_sram (by simp)] at run
    obtain ⟨twin, rst, unc, pending, now, user⟩ := s.scrubReadMain_stands (word % memWords .main) info
    obtain ⟨cause, scope, phase, owed, unc', user', pending', now'⟩ := State.criticalWord (memAddress .main (word % memWords .main))
      (s := (s.scrubRead .main (word % memWords .main)).eccEvent .main (memAddress .main (word % memWords .main)) info)
      (by rw [State.active, twin, ← State.active, alone]) (by rw [State.releasing, rst, ← State.releasing, idle]) (by rw [rst]; exact supply)
    exact ⟨_, run, cause, scope, phase, owed, unc'.trans (congrArg satCount unc), user'.trans user, pending'.trans pending, now'.trans now⟩
  · obtain ⟨info, run⟩ := exec_scrubStep_uncorrectable (m := .mram) a word used s
    have read : s.scrubRead .mram (s.scrubWord .mram word) = s.scrubbed := State.scrubRead_mram inner
    rw [read] at run
    obtain ⟨bytes, form, unc, bad, raised, keeps⟩ := State.areaWord (s := s.scrubbed.eccEvent .mram (memAddress .mram s.mem.scrubPos) info)
      area fresh wf used
    exact ⟨_, run, bytes, form, unc, bad, raised,
      (s.scrubbed_keeps.append ((State.eccEvent_keeps .mram _ info _).append keeps)).weaken (by exact .check rfl)⟩
  · have stopped : Stopped (.scrubPass (memNumber m)) (s.disarm (.scrubPass (memNumber m))) := State.disarm_deadline _ s
    exact ⟨_, congrArg Host.Outcome.next (if_pos due), State.raise_raised _ _ _ rfl, stopped.kept (State.raise_keepsBut _ _ _ _) (by cases m <;> rfl),
      ((((s.disarm_keeps _).whole rfl).append (State.raise_keepsBut _ _ _ _)).weaken (by exact .check rfl))⟩
  · have marked : KeepsBut [.mem .hourRaisedAll] s { s with mem.hourRaised := s.mem.hourRaised.set (memNumber m) true } :=
      ((KeepsBut.write_mem (l := [.mem (.hourRaised (memNumber m))]) fun f hf _ _ => by
          cases f with
          | hourRaised j => exact vector_set_getElem_ne (by rintro rfl; simp at hf)  | passFromAll | hourCorrAll | hourRaisedAll => trivial
          | _ => exact rfl) : KeepsBut [.mem (.hourRaised (memNumber m))] s _).whole rfl
    have later := State.raise_keepsBut 0x1005 noInst [(memNumber m).val] { s with mem.hourRaised := s.mem.hourRaised.set (memNumber m) true }
    exact ⟨_, congrArg Host.Outcome.next (if_pos ⟨rate, hour, by simp [once]⟩), (later.get (.mem (.hourRaised (memNumber m))) (by cases m <;> rfl)).trans
      (vector_set_eq _ _ _), later.get (.mem .user) rfl, State.raise_raised _ _ _ rfl, (marked.append later).weaken (by exact .check rfl)⟩
  · have begun : (s.touch .spi).nvcStore scope.val = ({ s.touch .spi with mem.nvResult := 0, mem.nvBusy := true } : State).storeStart scope .nvc := by
      simp only [State.storeBusy, Bool.decide_or, Bool.or_eq_false_iff, decide_eq_false_iff_not] at idle
      refine (if_neg fun none => some_ (Fin.ext none)).trans ((if_neg (not_not.2 role)).trans
        ((if_neg ?_).trans (if_neg idle.1)))
      rintro (busy | commit | store)
      · exact Bool.false_ne_true (free.symm.trans busy)
      · exact idle.2.1 commit
      · exact idle.2.2 store
    have marked : KeepsBut [.mem .nvResult, .mem .nvBusy] (s.touch .spi) { s.touch .spi with mem.nvResult := 0, mem.nvBusy := true } :=
        (KeepsBut.write_mem (l := [.mem .nvResult, .mem .nvBusy]) fun f hf _ _ => by
        cases f with
        | nvResult | nvBusy => simp at hf  | passFromAll | hourCorrAll | hourRaisedAll => trivial | _ => exact rfl)
    have starts := State.storeStart_keeps scope.val .nvc ({ s.touch .spi with mem.nvResult := 0, mem.nvBusy := true } : State)
    refine ⟨_, (congrArg Host.Outcome.next (if_pos up)).trans (congrArg _ begun), starts.get (.mem .nvBusy) rfl, starts.get (.mem .nvResult) rfl,
      starts.get (.mem .user) rfl, ?_, ?_, ((s.touch_keeps .spi).append (marked.append starts)).weaken (by exact .check rfl)⟩
    · unfold State.storeStart
      dsimp only
      split <;> rfl
    · unfold State.storeStart
      dsimp only
      split <;> exact State.arm_deadline _ _ _
  · have refused : (s.touch .spi).nvcStore scope.val = { s.touch .spi with mem.nvResult := 4 } :=
      (if_neg fun none => some_ (Fin.ext none)).trans (if_pos fun allowed => Bool.false_ne_true (role.symm.trans allowed))
    exact ⟨_, (congrArg Host.Outcome.next (if_pos up)).trans (congrArg _ refused), rfl, rfl, ((s.touch_keeps .spi).append
      ((KeepsBut.write_mem (l := [.mem .nvResult]) fun f hf _ _ => by
          cases f with
          | nvResult => simp at hf  | passFromAll | hourCorrAll | hourRaisedAll => trivial
          | _ => exact rfl) : KeepsBut [.mem .nvResult] (s.touch .spi) { s.touch .spi with mem.nvResult := 4 })).weaken (by exact .check rfl)⟩
  · obtain ⟨bytes, form⟩ := s.userWritten wf
    exact ⟨_, (congrArg Host.Outcome.next (if_pos up)).trans (congrArg _ (State.nvcUserWrite_done role free power word)), bytes, form, rfl,
      ((s.touch_keeps .spi).append (State.nvcWritten_keeps _)).weaken (by exact .check rfl)⟩
  · have refused : (s.touch .spi).nvcUserWrite = { s.touch .spi with mem.nvResult := 5 } :=
      (if_neg (not_not.2 role)).trans ((if_neg (by simpa using free)).trans ((if_neg (by simpa using power)).trans (if_pos (by simpa using word))))
    exact ⟨_, (congrArg Host.Outcome.next (if_pos up)).trans (congrArg _ refused), rfl, rfl, ((s.touch_keeps .spi).append
      ((KeepsBut.write_mem (l := [.mem .nvResult]) fun f hf _ _ => by
          cases f with
          | nvResult => simp at hf  | passFromAll | hourCorrAll | hourRaisedAll => trivial
          | _ => exact rfl) : KeepsBut [.mem .nvResult] (s.touch .spi) { s.touch .spi with mem.nvResult := 5 })).weaken (by exact .check rfl)⟩

end Sys2Proof.Machine
end

section
/-! PROOFS. Staging and verification of images (R457 to R459). -/

namespace Sys2Proof.Machine

theorem State.setSlot_keeps (k : Fin 2) (x : SlotSt) (s : State) :
    KeepsBut [.upd (.slot k)] s (State.setSlot k x s) := by
  unfold State.setSlot
  dsimp only
  exact KeepsBut.weaken (KeepsBut.write_upd (l := [.upd (.slot k)]) fun f hf _ _ => by
      cases f with
      | slot j => exact vector_set_getElem_ne (by rintro rfl; simp at hf) | slotAll | dataAll | keyAll => trivial
      | _ => exact rfl) (by apply Part.Within.checkAt k; rfl)

theorem State.stageBegin_keeps (s : State) :
    KeepsBut [.upd .slotAll, .timer .updVerify, .upd .stat, .upd .next, .upd .total] s (State.stageBegin s) := by
  unfold State.stageBegin
  dsimp only
  refine KeepsBut.via (KeepsBut.after (KeepsBut.write_upd (l := [.upd .slotAll, .upd .stat, .upd .next, .upd .total]) fun f hf hw _ => by
      cases f with
      | stat | next | total => simp at hf | slot => simp [Part.whole, UpdPart.whole] at hw | slotAll | dataAll | keyAll => trivial
      | _ => exact rfl) (State.disarm_keeps _ _)) (by exact .check rfl) ?_
  split
  · exact KeepsBut.weaken (KeepsBut.whole (m := [.upd .slotAll]) (State.setSlot_keeps _ _ _) rfl) (by exact .check rfl)
  · exact KeepsBut.refl _ _

theorem State.stageEnd_keeps (stat : Nat) (s : State) :
    KeepsBut [.upd .slotAll, .timer .updVerify, .upd .stat, .upd .next, .upd .total] s (State.stageEnd stat s) := by
  unfold State.stageEnd
  dsimp only
  refine KeepsBut.via (KeepsBut.after (KeepsBut.write_upd (l := [.upd .stat, .upd .next, .upd .total]) fun f hf _ _ => by
      cases f with
      | stat | next | total => simp at hf | slotAll | dataAll | keyAll => trivial | _ => exact rfl) (State.disarm_keeps _ _)) (by exact .check rfl) ?_
  split
  · exact KeepsBut.weaken (KeepsBut.whole (m := [.upd .slotAll]) (State.setSlot_keeps _ _ _) rfl) (by exact .check rfl)
  · exact KeepsBut.refl _ _

theorem State.updRaise_keeps (code : Nat) (vals : List Nat) (s : State) :
    KeepsBut (([.upd .lastCode] : List Part) ++ Part.raised) s (State.updRaise code vals s) := by
  unfold State.updRaise
  dsimp only
  exact KeepsBut.weaken (KeepsBut.after (State.raise_keepsBut _ _ _ _) (KeepsBut.write_upd (l := [.upd .lastCode]) fun f hf _ _ => by
      cases f with
      | lastCode => simp at hf | slotAll | dataAll | keyAll => trivial | _ => exact rfl)) (by exact .check rfl)

theorem State.takeChunk_keeps (off : Nat) (d : List Byte) (s : State) :
    KeepsBut (([.timer .updVerify, .upd .slotAll, .upd .stat, .upd .next, .upd .total, .upd .lastCode] : List Part) ++ Part.raised)
        s (State.takeChunk off d s) := by
  unfold State.takeChunk
  dsimp only
  split
  · exact KeepsBut.viaIf (KeepsBut.weaken (State.arm_keeps _ _ _) (by exact .check rfl)) (KeepsBut.weaken (KeepsBut.write_upd (l := [.upd .slotAll,
      .upd .stat, .upd .next, .upd .total]) fun f hf hw _ => by
      cases f with
      | stat | next | total => simp at hf | slot => simp [Part.whole, UpdPart.whole] at hw | slotAll | dataAll | keyAll => trivial
      | _ => exact rfl) (by exact .check rfl))
  · exact KeepsBut.refl _ _
  · exact KeepsBut.weaken (KeepsBut.after (State.updRaise_keeps _ _ _) (State.stageEnd_keeps _ _)) (by exact .check rfl)
  · exact KeepsBut.weaken (State.updRaise_keeps _ _ _) (by exact .check rfl)

/-! ## The slot in staging (R457) -/

theorem Upd.staging_st {u : Upd} {k : Fin 2} (h : u.staging = some k) : u.slot[k].st = .staging := by
  simpa using List.find?_some h

theorem State.setSlot_slot (k : Fin 2) (x : SlotSt) (s : State) : (s.setSlot k x).upd.slot[k] = { s.upd.slot[k] with st := x } := vector_set_eq _ _ _

/-- Whether any element has a property stands when an element is set to one that has it alike. -/
theorem Vector.any_set_eq {α : Type} {n : Nat} {p : α → Bool} {v : Vector α n} {i : Fin n} {x : α} (h : p x = p v[i]) : (v.set i x).any p = v.any p := by
  rw [Bool.eq_iff_iff, Vector.any_eq_true, Vector.any_eq_true]
  constructor <;> rintro ⟨j, hj, hp⟩ <;> refine ⟨j, hj, ?_⟩ <;> rw [Vector.getElem_set] at * <;> split at * <;> simp_all

/-- A slot that stops being in staging leaves which slots are usable. -/
theorem State.setSlot_usable {k : Fin 2} {s : State} (h : s.upd.slot[k].st = .staging) :
    (s.setSlot k .invalid).upd.slot.any slotUsable = s.upd.slot.any slotUsable := by
  have staging : s.upd.slot[k.val].st = .staging := h
  have before : slotUsable s.upd.slot[k] = false := by simp [slotUsable, staging]
  have after_ : slotUsable { s.upd.slot[k] with st := .invalid } = false := by simp [slotUsable]
  exact Vector.any_set_eq (p := slotUsable) (after_.trans before.symm)

/-- The slot in staging given up, before another begins. -/
def State.stagingLeft (s : State) : State := match s.upd.staging with | some k => s.setSlot k .invalid | none => s

/-- A slot that begins staging. -/
def State.stagingBegun (k : Fin 2) (s : State) : State :=
  { s.disarm .updVerify with upd.slot := s.upd.slot.set k { st := .staging }, upd.stat := 1, upd.next := 0, upd.total := 0 }

theorem State.stagingLeft_stageSlot (s : State) : s.stagingLeft.stageSlot = s.stageSlot := by
  unfold State.stagingLeft
  cases h : s.upd.staging with
  | none => rfl
  | some k =>
    dsimp only
    rw [State.stageSlot, State.setSlot_usable (Upd.staging_st h)]
    rfl

/-- What staging begins with. -/
theorem State.stageBegin_begun (s : State) : s.stageBegin.upd.slot[s.stageSlot] = { st := .staging } ∧ s.stageBegin.upd.stat = 1 ∧
    s.stageBegin.upd.next = 0 ∧ s.stageBegin.upd.total = 0 ∧ Stopped .updVerify s.stageBegin := by
  have begun : s.stageBegin = s.stagingLeft.stagingBegun s.stagingLeft.stageSlot := rfl
  rw [begun, s.stagingLeft_stageSlot]
  exact ⟨vector_set_eq _ _ _, rfl, rfl, rfl, State.disarm_deadline _ s.stagingLeft⟩

theorem State.stageEnd_ended {k : Fin 2} {s : State} (h : s.upd.staging = some k) (n : Nat) : (s.stageEnd n).upd.slot[k] = { s.upd.slot[k] with st := .invalid } ∧
    (s.stageEnd n).upd.stat = n ∧ (s.stageEnd n).upd.next = 0 ∧ Stopped .updVerify (s.stageEnd n) := by
  have ended : s.stageEnd n = { (s.setSlot k .invalid).disarm .updVerify with upd.stat := n, upd.next := 0, upd.total := 0 } := by
    unfold State.stageEnd
    rw [h]
  rw [ended]
  exact ⟨s.setSlot_slot k .invalid, rfl, rfl, State.disarm_deadline _ (s.setSlot k .invalid)⟩

theorem State.stageEnd_keeps_slot {k : Fin 2} {s : State} (h : s.upd.staging = some k) (n : Nat) :
    KeepsBut [.upd (.slot k), .timer .updVerify, .upd .stat, .upd .next, .upd .total] s (s.stageEnd n) := by
  have ended : s.stageEnd n = { (s.setSlot k .invalid).disarm .updVerify with upd.stat := n, upd.next := 0, upd.total := 0 } := by
    unfold State.stageEnd
    rw [h]
  rw [ended]
  exact (State.setSlot_keeps k .invalid s).append ((State.disarm_keeps .updVerify _).append (KeepsBut.write_upd (l := [.upd .stat, .upd .next,
      .upd .total]) fun f hf _ _ => by
      cases f with
      | stat | next | total => simp at hf  | slotAll | dataAll | keyAll => trivial | _ => exact rfl))

/-! ## Codes of the update (R475) -/

theorem State.updRaise_raised {c : Nat} {v : List Nat} {s a : State} (h : a.evr.staging = s.evr.staging) : Raised c noInst v s (a.updRaise c v) :=
  State.raise_raised _ _ _ h

/-- What a code of the update leaves of the update's state. -/
theorem State.updRaise_upd (c : Nat) (v : List Nat) (s : State) : (s.updRaise c v).upd = { s.upd with lastCode := c } := by
  simp [State.updRaise]

theorem State.updRaise_answered (c : Nat) (v : List Nat) (w : Session) (x : Answer) (s : State) :
    ((s.updRaise c v).answer w x).upd = { s.upd with lastCode := c } := by
  simp [State.updRaise]

/-! ## A chunk (R457, R458) -/

theorem State.chunkFate_append {k : Fin 2} {off : Nat} {d : List Byte} {s : State} (staging : s.upd.staging = some k) (more : s.upd.stat ≠ 3)
    (next : off = (s.upd.slot[k]).bytes.length) (short : ((s.upd.slot[k]).bytes ++ d).length < 256) : s.chunkFate off d = .append k := by
  unfold State.chunkFate
  rw [staging]
  exact (if_pos ⟨next, more⟩).trans (if_pos short)

theorem State.chunkFate_header {k : Fin 2} {off c : Nat} {d : List Byte} {s : State} (staging : s.upd.staging = some k) (more : s.upd.stat ≠ 3)
    (next : off = (s.upd.slot[k]).bytes.length) (before : (s.upd.slot[k]).bytes.length < 256) (whole : 256 ≤ ((s.upd.slot[k]).bytes ++ d).length)
    (fault : s.upd.headerFault (((s.upd.slot[k]).bytes ++ d).take 256) = some c) : s.chunkFate off d = .header c := by
  unfold State.chunkFate
  rw [staging]
  refine (if_pos ⟨next, more⟩).trans ((if_neg (Nat.not_lt.2 whole)).trans ?_)
  rw [if_pos before, fault]

/-- A chunk that the header is still too short for. -/
def State.chunkTaken (k : Fin 2) (d : List Byte) (s : State) : State :=
  { s with
    upd.slot := s.upd.slot.set k { s.upd.slot[k] with bytes := s.upd.slot[k].bytes ++ d }
    upd.next := (s.upd.slot[k].bytes ++ d).length
    upd.total := 0
    upd.stat := 1 }

theorem State.chunkTaken_keeps (k : Fin 2) (d : List Byte) (s : State) : KeepsBut [.upd (.slot k), .upd .next, .upd .total,
    .upd .stat] s (s.chunkTaken k d) :=
  (KeepsBut.write_upd (l := [.upd (.slot k), .upd .next, .upd .total, .upd .stat]) fun f hf _ _ => by
      cases f with
      | next | total | stat => simp at hf | slot j => exact vector_set_getElem_ne (by rintro rfl; simp at hf)  | slotAll | dataAll
      | keyAll => trivial | _ => exact rfl)

theorem State.takeChunk_append {k : Fin 2} {off : Nat} {d : List Byte} {s : State} (fate : s.chunkFate off d = .append k)
    (short : ((s.upd.slot[k]).bytes ++ d).length < 256) : s.takeChunk off d = s.chunkTaken k d := by
  unfold State.takeChunk
  rw [fate]
  have header : ¬ 256 ≤ ((s.upd.slot[k]).bytes ++ d).length := Nat.not_le.2 short
  dsimp only
  rw [if_neg fun h => header h.1, if_neg fun h => header h.1, if_neg header, if_neg header]
  rfl

theorem State.takeChunk_sequence {off : Nat} {d : List Byte} {s : State} (fate : s.chunkFate off d = .sequence) :
    s.takeChunk off d = s.updRaise 0x1314 [] := by
  unfold State.takeChunk
  rw [fate]

theorem State.takeChunk_header {off c : Nat} {d : List Byte} {s : State} (fate : s.chunkFate off d = .header c) :
    s.takeChunk off d = (s.stageEnd 5).updRaise c [] := by
  unfold State.takeChunk
  rw [fate]

theorem State.takeChunk_retry {off : Nat} {d : List Byte} {s : State} (fate : s.chunkFate off d = .retry) : s.takeChunk off d = s := by
  unfold State.takeChunk
  rw [fate]

theorem State.chunkRefused_append {k : Fin 2} {off : Nat} {d : List Byte} {s : State} (fate : s.chunkFate off d = .append k) :
    s.chunkRefused off d = false := by
  rw [State.chunkRefused, fate]

theorem State.chunkRefused_retry {off : Nat} {d : List Byte} {s : State} (fate : s.chunkFate off d = .retry) : s.chunkRefused off d = false := by
  rw [State.chunkRefused, fate]

theorem State.chunkRefused_header {c off : Nat} {d : List Byte} {s : State} (fate : s.chunkFate off d = .header c) : s.chunkRefused off d = true := by
  rw [State.chunkRefused, fate]

theorem State.chunkRefused_sequence {off : Nat} {d : List Byte} {s : State} (fate : s.chunkFate off d = .sequence) : s.chunkRefused off d = true := by
  rw [State.chunkRefused, fate]

theorem objChunk_checks {d : List Byte} {w : Session} {s : State} (free : s.updBusy = false) (low : 5 ≤ d.length) (high : d.length ≤ 1028) :
    objChunk.busy (s.touch w) d = none ∧ objChunk.badLength d = false :=
  ⟨if_neg (by rw [show (s.touch w).updBusy = s.updBusy from rfl, free]; simp), by simp [objChunk]; omega⟩

/-- A chunk that is accepted, written when the device is not busy. -/
theorem exec_imageAppend_accepted {w : Session} {d : List Byte} {s : State} (a : s.admits w 0x3400 2 d = true) (free : s.updBusy = false)
    (low : 5 ≤ d.length) (high : d.length ≤ 1028) (accepted : (s.touch w).chunkRefused (leValue (d.take 4)) (d.drop 4) = false) :
    exec (.imageAppend (.dict w) d) s = .next (((s.touch w).takeChunk (leValue (d.take 4)) (d.drop 4)).answer w .done) := by
  obtain ⟨busy, length⟩ := objChunk_checks (w := w) free low high
  exact congrArg Host.Outcome.next (State.writeBy_local a (forwards_commands (0x3400, 2) (by simp)) rfl rfl busy length
    (if_neg (by rw [accepted]; exact Bool.false_ne_true)))

/-- A chunk that is refused. -/
theorem exec_imageAppend_refused {w : Session} {d : List Byte} {s : State} (a : s.admits w 0x3400 2 d = true) (free : s.updBusy = false)
    (low : 5 ≤ d.length) (high : d.length ≤ 1028) (refused : (s.touch w).chunkRefused (leValue (d.take 4)) (d.drop 4) = true) :
    exec (.imageAppend (.dict w) d) s = .next (((s.touch w).takeChunk (leValue (d.take 4)) (d.drop 4)).answer w (.abort 0x08000120)) := by
  obtain ⟨busy, length⟩ := objChunk_checks (w := w) free low high
  exact congrArg Host.Outcome.next (State.writeBy_reply a (forwards_commands (0x3400, 2) (by simp)) busy length rfl (if_pos refused))

/-! ## Begin and abort, by the dictionary (R457, R474) -/

theorem objStaging_begin {d : List Byte} (h : leValue d = 0x6E676562) (w : Session) (s : State) : objStaging.effect (some w) d s = s.stageBegin := if_pos h

theorem objStaging_abort {d : List Byte} {s : State} (h : leValue d ≠ 0x6E676562) (staged : s.upd.staging.isSome = true) (w : Session) :
    objStaging.effect (some w) d s = s.stageEnd 0 := (if_neg h).trans (if_pos staged)

theorem objStaging_free {d : List Byte} {s : State} (h : leValue d ≠ 0x6E676562 ∨ s.updBusy = false) (w : Session) : objStaging.busy (s.touch w) d = none := by
  refine if_neg ?_
  rw [decide_eq_true_eq]
  exact fun k => h.elim (fun other => other k.1) fun free => Bool.false_ne_true (free.symm.trans k.2)

theorem objStaging_busy {d : List Byte} {s : State} {w : Session} (h : leValue d = 0x6E676562) (busy : s.updBusy = true) :
    objStaging.busy (s.touch w) d = some 0x08000022 := by
  refine if_pos ?_
  rw [decide_eq_true_eq]
  exact ⟨h, busy⟩

/-! ## The verification's end (R459) -/

/-- A verification that every check passes. -/
def State.verified (k : Fin 2) (s : State) : State := ({ s.disarm .updVerify with upd.stat := 4 } : State).setSlot k .valid

theorem State.verified_keeps (k : Fin 2) (s : State) : KeepsBut [.timer .updVerify, .upd .stat, .upd (.slot k)] s (s.verified k) :=
  ((s.disarm_keeps .updVerify).append ((KeepsBut.write_upd (l := [.upd .stat]) fun f hf _ _ => by
      cases f with
      | stat => simp at hf  | slotAll | dataAll | keyAll => trivial
      | _ => exact rfl) : KeepsBut [.upd .stat] (s.disarm .updVerify) { s.disarm .updVerify with upd.stat := 4 })).append
    (State.setSlot_keeps k .valid _)

theorem exec_imageVerifyDone_passed {k : Fin 2} {uncorr : Bool} {s : State} (staging : s.upd.staging = some k) (runs : s.running .updVerify = true)
    (stat : s.upd.stat = 3) (passed : s.upd.bodyFault (s.upd.slot[k]).bytes uncorr = none) :
    exec (.imageVerifyDone uncorr) s = .next ((s.verified k).updRaise 0x130A [imageVersion (s.upd.slot[k]).bytes]) := by
  show execImageVerifyDone uncorr s = _
  unfold execImageVerifyDone
  rw [staging]
  refine congrArg Host.Outcome.next ((if_neg (by simp [runs, stat])).trans ?_)
  dsimp only
  rw [passed]
  rfl

theorem exec_imageVerifyDone_failed {k : Fin 2} {uncorr : Bool} {c : Nat} {s : State} (staging : s.upd.staging = some k)
    (runs : s.running .updVerify = true) (stat : s.upd.stat = 3) (failed : s.upd.bodyFault (s.upd.slot[k]).bytes uncorr = some c) :
    exec (.imageVerifyDone uncorr) s = .next ((s.stageEnd 5).updRaise c []) := by
  show execImageVerifyDone uncorr s = _
  unfold execImageVerifyDone
  rw [staging]
  refine congrArg Host.Outcome.next ((if_neg (by simp [runs, stat])).trans ?_)
  dsimp only
  rw [failed]

/-- Settles O48: staging begins, takes its chunks and ends, and the whole image is verified. -/
theorem imagesAreStagedAndVerified : Obligations.ImagesAreStagedAndVerified := by
  unfold Obligations.ImagesAreStagedAndVerified
  refine ⟨fun w s a free => ?_, fun s up role free => ?_, fun w s a busy => ?_, fun w k d s a free low high staging more next short => ?_,
    fun w d s a free low high fate => ?_, fun w d s a free low high fate => ?_,
    fun w k c d s a free low high staging more next before whole fault => ?_, fun w k s a staging => ?_, fun k uncorr s staging runs stat => ?_⟩
  · have idle : objStaging.busy (s.touch w) (leBytes 4 0x6E676562) = none :=
      objStaging_free (.inr free) _
    have effect : objStaging.effect (some w) (leBytes 4 0x6E676562) (s.touch w) = (s.touch w).stageBegin :=
      objStaging_begin (leValue_leBytes4 _ (by omega)) w _
    have run : exec (.stagingBegin (.dict w)) s = .next ((s.touch w).stageBegin.answer w .done) :=
      congrArg Host.Outcome.next ((State.writeBy_local a (forwards_commands (0x3400, 4) (by simp)) rfl rfl idle rfl rfl).trans
        (congrArg (State.answer w .done) effect))
    obtain ⟨slot, stat, next, total, stopped⟩ := (s.touch w).stageBegin_begun
    exact ⟨_, run, State.answer_answered _ _ _, slot, stat, next, total, stopped.kept (State.answer_keeps w .done _) (by cases w <;> rfl),
      ((s.touch w).stageBegin_keeps.write .done).weaken (by cases w <;> exact .check rfl)⟩
  · have begun : (s.touch .spi).updBegin = (s.touch .spi).stageBegin := if_pos ⟨role, by
      rw [show (s.touch .spi).updBusy = s.updBusy from rfl, free]; simp⟩
    obtain ⟨slot, stat, next, -, -⟩ := (s.touch .spi).stageBegin_begun
    exact ⟨_, (congrArg Host.Outcome.next (if_pos up)).trans (congrArg _ begun), slot, stat, next,
      ((s.touch_keeps .spi).append (s.touch .spi).stageBegin_keeps).weaken (by exact .check rfl)⟩
  · have refused : objStaging.busy (s.touch w) (leBytes 4 0x6E676562) = some 0x08000022 :=
      objStaging_busy (leValue_leBytes4 _ (by omega)) busy
    exact ⟨_, congrArg Host.Outcome.next (State.writeBy_busy a refused), State.answer_answered _ _ _,
      (State.refused_keeps w _ s).weaken (by cases w <;> exact .check rfl)⟩
  · have fate : (s.touch w).chunkFate (leValue (d.take 4)) (d.drop 4) = .append k := State.chunkFate_append staging more next short
    have run := exec_imageAppend_accepted a free low high (State.chunkRefused_append fate)
    rw [State.takeChunk_append fate short] at run
    have slot : ((s.touch w).chunkTaken k (d.drop 4)).upd.slot[k] = { s.upd.slot[k] with bytes := s.upd.slot[k].bytes ++ d.drop 4 } := vector_set_eq _ _ _
    exact ⟨_, run, State.answer_answered _ _ _, congrArg BootSlot.bytes slot, (congrArg BootSlot.st slot).trans (Upd.staging_st staging), rfl, rfl,
      (((State.chunkTaken_keeps k _ (s.touch w)).whole rfl).write .done).weaken (by cases w <;> exact .check rfl)⟩
  · have run := exec_imageAppend_refused a free low high (State.chunkRefused_sequence (s := s.touch w) fate)
    rw [State.takeChunk_sequence (s := s.touch w) fate] at run
    have upd := (s.touch w).updRaise_answered 0x1314 [] w (.abort 0x08000120)
    exact ⟨_, run, State.answer_answered _ _ _, (congrArg Upd.slot upd :), (congrArg Upd.next upd :), (congrArg Upd.lastCode upd :),
      Raised.answer (State.updRaise_raised (s := s) (a := s.touch w) rfl) _ _,
      (((s.touch w).updRaise_keeps 0x1314 []).write (.abort 0x08000120)).weaken (by cases w <;> exact .check rfl)⟩
  · have run := exec_imageAppend_accepted a free low high (State.chunkRefused_retry (s := s.touch w) fate)
    rw [State.takeChunk_retry (s := s.touch w) fate] at run
    exact ⟨_, run, State.answer_answered _ _ _, ((s.touch_keeps w).append (State.answer_keeps w .done _)).weaken (by cases w <;> exact .check rfl)⟩
  · have fate : (s.touch w).chunkFate (leValue (d.take 4)) (d.drop 4) = .header c := State.chunkFate_header staging more next before whole fault
    have run := exec_imageAppend_refused a free low high (State.chunkRefused_header fate)
    rw [State.takeChunk_header fate] at run
    obtain ⟨slot, stat, -, -⟩ := State.stageEnd_ended (s := s.touch w) staging 5
    have ended := (s.touch w).stageEnd_keeps 5
    have upd := ((s.touch w).stageEnd 5).updRaise_answered c [] w (.abort 0x08000120)
    exact ⟨_, run, State.answer_answered _ _ _, (congrArg (fun u : Upd => (u.slot[k]).st) upd).trans (congrArg BootSlot.st slot),
      (congrArg Upd.stat upd).trans stat, congrArg Upd.lastCode upd,
      Raised.answer (State.updRaise_raised (s := s) (ended.get (.evr .staging) rfl)) _ _,
      ((ended.append (State.updRaise_keeps c [] _)).write (.abort 0x08000120)).weaken (by cases w <;> exact .check rfl)⟩
  · have other : leValue (leBytes 4 0x74726261) ≠ 0x6E676562 := by rw [leValue_leBytes4 _ (by omega)]; omega
    have staged : (s.touch w).upd.staging.isSome = true := by rw [show (s.touch w).upd = s.upd from rfl, staging]; rfl
    have idle : objStaging.busy (s.touch w) (leBytes 4 0x74726261) = none :=
      objStaging_free (.inl other) _
    have effect : objStaging.effect (some w) (leBytes 4 0x74726261) (s.touch w) = (s.touch w).stageEnd 0 :=
      objStaging_abort other staged w
    have run : exec (.stagingAbort (.dict w)) s = .next (((s.touch w).stageEnd 0).answer w .done) :=
      congrArg Host.Outcome.next ((State.writeBy_local a (forwards_commands (0x3400, 4) (by simp)) rfl rfl idle rfl rfl).trans
        (congrArg (State.answer w .done) effect))
    obtain ⟨slot, stat, next, stopped⟩ := State.stageEnd_ended (s := s.touch w) staging 0
    exact ⟨_, run, State.answer_answered _ _ _, congrArg BootSlot.st slot, stat, next, stopped.kept (State.answer_keeps w .done _) (by cases w <;> rfl),
      (((s.touch w).stageEnd_keeps 0).write .done).weaken (by cases w <;> exact .check rfl)⟩
  · cases fault : s.upd.bodyFault (s.upd.slot[k]).bytes uncorr with
    | none =>
      have run := exec_imageVerifyDone_passed staging runs stat fault
      have slot : (s.verified k).upd.slot[k] = { s.upd.slot[k] with st := .valid } := State.setSlot_slot k .valid _
      have upd := (s.verified k).updRaise_upd 0x130A [imageVersion (s.upd.slot[k]).bytes]
      have later := (s.verified k).updRaise_keeps 0x130A [imageVersion (s.upd.slot[k]).bytes]
      have shown := (congrArg (fun u : Upd => u.slot[k]) upd).trans slot
      refine ⟨_, run, (congrArg BootSlot.bytes shown :), Stopped.kept (a := s.verified k) (State.disarm_deadline _ s) later rfl,
        ((s.verified_keeps k).append later).weaken (by apply Part.Within.checkAt k; rfl),
        fun _ => ⟨congrArg BootSlot.st shown, congrArg Upd.stat upd, State.updRaise_raised rfl⟩, fun c h => ?_⟩
      cases h
    | some c =>
      have run := exec_imageVerifyDone_failed staging runs stat fault
      obtain ⟨slot, ended, -, stopped⟩ := State.stageEnd_ended staging 5
      have upd := (s.stageEnd 5).updRaise_upd c []
      have later := (s.stageEnd 5).updRaise_keeps c []
      have shown := (congrArg (fun u : Upd => u.slot[k]) upd).trans slot
      refine ⟨_, run, (congrArg BootSlot.bytes shown :), stopped.kept later rfl, ?_, fun h => ?_, fun c' h => ?_⟩
      · exact ((State.stageEnd_keeps_slot staging 5).append later).weaken (by apply Part.Within.checkAt k; rfl)
      · cases h
      · obtain rfl : c = c' := Option.some.inj h
        exact ⟨congrArg BootSlot.st shown, (congrArg Upd.stat upd).trans ended, congrArg Upd.lastCode upd,
          State.updRaise_raised ((s.stageEnd_keeps 5).get (.evr .staging) rfl)⟩

end Sys2Proof.Machine
end

section
/-! PROOFS. Trials and live updates (R460 to R465). -/

namespace Sys2Proof.Machine

theorem State.startReload_keeps (e : Fin 8) (s : State) :
    KeepsBut [.timer (.wdog ↑e), .eng (.eng e), .timer (.reload ↑e)] s (State.startReload e s) := by
  unfold State.startReload
  exact KeepsBut.weaken (KeepsBut.after (State.arm_keeps _ _ _)
      (KeepsBut.after (State.modEng_keeps _ _ _) (State.disarm_keeps _ _))) (by apply Part.Within.checkAt e; rfl)

theorem State.liveNext_keeps (s : State) :
    KeepsBut [.eng .engAll, .timers] s (State.liveNext s) := by
  unfold State.liveNext
  split
  · exact KeepsBut.refl _ _
  · refine KeepsBut.ite _ (KeepsBut.weaken (State.startReload_keeps _ _) (by exact .check rfl)) ?_
    exact KeepsBut.ite _ (KeepsBut.weaken (KeepsBut.after (KeepsBut.whole (m := [.timers]) (State.arm_keeps _ _ _) rfl)
        (KeepsBut.whole (m := [.eng .engAll]) (State.modEng_keeps _ _ _) rfl)) (by exact .check rfl)) (KeepsBut.refl _ _)

theorem State.slotReverted_keeps (s : State) :
    KeepsBut [.timer .trial, .upd .slotAll, .upd .phase, .upd .expired] s (State.slotReverted s) := by
  unfold State.slotReverted
  dsimp only
  exact KeepsBut.weaken (KeepsBut.after (KeepsBut.write_upd (l := [.upd .slotAll, .upd .phase, .upd .expired]) fun f hf hw _ => by
      cases f with
      | phase | expired => simp at hf | slot => simp [Part.whole, UpdPart.whole] at hw | slotAll | dataAll | keyAll => trivial
      | _ => exact rfl) (State.disarm_keeps _ _)) (by exact .check rfl)

theorem State.liveRevert_keeps (s : State) :
    KeepsBut [.upd .slotAll, .upd .phase, .upd .expired, .upd .liveTodo, .upd .liveDone, .upd .liveBack, .eng .engAll, .timers]
        s (State.liveRevert s) := by
  unfold State.liveRevert
  dsimp only
  exact KeepsBut.weaken (KeepsBut.after (State.liveNext_keeps _) (KeepsBut.after (KeepsBut.write_upd (l := [.upd .liveTodo, .upd .liveDone,
      .upd .liveBack]) fun f hf _ _ => by
      cases f with
      | liveTodo | liveDone | liveBack => simp at hf | slotAll | dataAll | keyAll => trivial
      | _ => exact rfl) (State.slotReverted_keeps _))) (by exact .check rfl)

theorem State.trialCommit_keeps (s : State) :
    KeepsBut (([.upd .slotAll, .timer .trial, .upd .active, .upd .phase, .upd .live, .upd .floor, .upd .revertWhy, .upd .lastCode] : List Part)
        ++ Part.raised) s (State.trialCommit s) := by
  unfold State.trialCommit
  dsimp only
  exact KeepsBut.weaken (KeepsBut.after (State.updRaise_keeps _ _ _) (KeepsBut.after (KeepsBut.write_upd (l := [.upd .active, .upd .phase,
      .upd .live, .upd .floor, .upd .revertWhy]) fun f hf _ _ => by
      cases f with
      | active | phase | live | floor | revertWhy => simp at hf | slotAll | dataAll | keyAll => trivial | _ => exact rfl)
      (KeepsBut.after (State.disarm_keeps _ _) (KeepsBut.after (KeepsBut.whole (m := [.upd .slotAll]) (State.setSlot_keeps _ _ _) rfl)
      (KeepsBut.whole (m := [.upd .slotAll]) (State.setSlot_keeps _ _ _) rfl))))) (by exact .check rfl)

/-! ## What a warm reset keeps of the update (R410) -/

theorem State.assertReset_upd {s : State} (idle : s.releasing = false) (cause : BitVec 16) (thermal : Bool) :
    (s.assertReset .warm cause thermal).upd.phase = s.upd.phase ∧ (s.assertReset .warm cause thermal).upd.live = s.upd.live ∧
      (s.assertReset .warm cause thermal).upd.active = s.upd.active ∧ (s.assertReset .warm cause thermal).upd.revertWhy = s.upd.revertWhy := by
  simp [State.assertReset, idle, State.warmKept, State.coldKept, Upd.nonVolatile]

/-! ## Live update (R464, R465) -/

/-- The parts that the next engine of a live update may change. -/
def Part.liveNext : List Part := ([.eng .engAll, .timer (.wdog 7), .timer (.reload 7)] : List Part) ++ Part.each 8 .migrate

theorem State.liveNext_parts (s : State) : KeepsBut Part.liveNext s s.liveNext := by
  unfold State.liveNext
  split
  · exact KeepsBut.refl _ s
  · next e _ _ =>
    refine KeepsBut.ite _ ?_ (KeepsBut.ite _ ?_ (KeepsBut.refl _ s))
    · exact (State.startReload_keeps 7 s).weaken (by exact .check rfl)
    · exact ((State.modEng_keeps e _ s).append (State.arm_keeps _ _ _)).weaken (by apply Part.Within.checkAt e; rfl)

/-- A live update that turns round: every engine reloads the old image. -/
def State.liveTurned (s : State) : State := { s.slotReverted with upd.liveBack := true, upd.liveTodo := List.finRange 8, upd.liveDone := [] }

theorem State.liveTurned_keeps (s : State) : KeepsBut [.timer .trial, .upd .slotAll, .upd .phase, .upd .expired, .upd .liveBack, .upd .liveTodo,
    .upd .liveDone] s s.liveTurned := s.slotReverted_keeps.append (KeepsBut.write_upd (l := [.upd .liveBack, .upd .liveTodo, .upd .liveDone])
        fun f hf _ _ => by
        cases f with
        | liveBack | liveTodo | liveDone => simp at hf  | slotAll | dataAll | keyAll => trivial | _ => exact rfl)

theorem State.liveRevert_eq (s : State) : s.liveRevert = s.liveTurned.liveNext := rfl

theorem State.liveTurned_slot (s : State) : s.liveTurned.upd.slot[s.upd.other] = { s.upd.slot[s.upd.other] with st := .reverted } := vector_set_eq _ _ _

theorem Upd.other_ne (u : Upd) : u.active ≠ u.other := by
  unfold Upd.other
  split
  next first => simp [first]
  next other => exact other

/-! ## Activation (R461) -/

/-- A trial that is pending. -/
def State.trialPending (s : State) : State := ({ s with upd.phase := .pending, upd.live := false } : State).updRaise 0x130B []

theorem State.bootSlotNow_pending {s : State} (allowed : s.bootRefused = false) (out : s.rst.romStays = false) :
    s.bootSlotNow = s.trialPending.assertReset .warm causeSw false := by
  unfold State.bootSlotNow
  cases h : s.bootSlot with
  | none => simp [State.bootRefused, h] at allowed
  | some k =>
    dsimp only
    rw [if_neg (by simp [out])]
    rfl

theorem State.trialPending_keeps (s : State) : KeepsBut (([.upd .phase, .upd .live, .upd .lastCode] : List Part) ++ Part.raised) s s.trialPending :=
  ((KeepsBut.write_upd (l := [.upd .phase, .upd .live]) fun f hf _ _ => by
      cases f with
      | phase | live => simp at hf  | slotAll | dataAll | keyAll => trivial | _ => exact rfl) : KeepsBut [.upd .phase,
      .upd .live] s { s with upd.phase := .pending, upd.live := false }).append (State.updRaise_keeps _ _ _)

theorem State.trialPending_stands (s : State) : s.trialPending.rst = s.rst ∧ s.trialPending.mem = s.mem ∧ s.trialPending.pending = s.pending ∧
    s.trialPending.now = s.now ∧ s.trialPending.upd.phase = .pending ∧ s.trialPending.upd.live = false ∧ s.trialPending.upd.active = s.upd.active := by
  simp [State.trialPending, State.updRaise]

/-! ## The trial's commit (R462) -/

/-- A trial that is committed, before its code is raised. -/
def State.trialKept (s : State) : State :=
  { ((s.setSlot s.upd.active .valid).setSlot s.upd.other .active).disarm .trial with
    upd.active := s.upd.other, upd.phase := .none, upd.live := false, upd.revertWhy := 0,
    upd.floor := if imageRaises (s.upd.slot[s.upd.other]).bytes then max s.upd.floor (imageField (s.upd.slot[s.upd.other]).bytes 12 4)
      else s.upd.floor }

theorem State.trialCommit_eq (s : State) : s.trialCommit = s.trialKept.updRaise 0x130C [] := rfl

theorem State.trialKept_slots (s : State) : (s.trialKept.upd.slot[s.upd.other]).st = .active ∧ (s.trialKept.upd.slot[s.upd.active]).st = .valid := by
  have other : ((s.setSlot s.upd.active .valid).setSlot s.upd.other .active).upd.slot[s.upd.active] = (s.setSlot s.upd.active .valid).upd.slot[s.upd.active] :=
    vector_set_getElem_ne s.upd.other_ne
  exact ⟨congrArg BootSlot.st (State.setSlot_slot s.upd.other .active (s.setSlot s.upd.active .valid)),
    (congrArg BootSlot.st other).trans (congrArg BootSlot.st (State.setSlot_slot s.upd.active .valid s))⟩

theorem State.trialCommit_done (s : State) :
    s.trialCommit.upd.active = s.upd.other ∧ (s.trialCommit.upd.slot[s.upd.other]).st = .active ∧ (s.trialCommit.upd.slot[s.upd.active]).st = .valid ∧
      s.trialCommit.upd.phase = .none ∧
      (imageRaises (s.upd.slot[s.upd.other]).bytes = true →
        s.trialCommit.upd.floor = max s.upd.floor (imageField (s.upd.slot[s.upd.other]).bytes 12 4)) ∧ Stopped .trial s.trialCommit := by
  have upd : s.trialCommit.upd = { s.trialKept.upd with lastCode := 0x130C } := s.trialKept.updRaise_upd 0x130C []
  obtain ⟨other, active⟩ := s.trialKept_slots
  have later : KeepsBut _ s.trialKept s.trialCommit := s.trialKept.updRaise_keeps 0x130C []
  have stopped : Stopped .trial s.trialKept := State.disarm_deadline _ ((s.setSlot s.upd.active .valid).setSlot s.upd.other .active)
  rw [upd]
  exact ⟨rfl, other, active, rfl, fun raises => if_pos raises, stopped.kept later rfl⟩

/-! ## A trial that is reverted or expires (R462, R465) -/

theorem State.liveRevert_upd (s : State) : s.liveRevert.upd = s.liveTurned.upd := by
  rw [State.liveRevert_eq]
  simp

theorem State.liveRevert_trial (s : State) : Stopped .trial s.liveRevert := by
  have stopped : Stopped .trial s.liveTurned := State.disarm_deadline _ s
  exact stopped.kept s.liveTurned.liveNext_parts rfl

/-! ## The commit's refusal for a session that writes -/

theorem State.touch_cmitRefused (w : Session) (s : State) : (s.touch w).cmitRefused = s.cmitRefused := by
  have trial : (s.touch w).deadline .trial = s.deadline .trial := (s.touch_keeps w).get (.timer .trial) (by cases w <;> rfl)
  have ended : (s.touch w).trialTimeOver = s.trialTimeOver := by
    unfold State.trialTimeOver
    rw [trial]
    rfl
  unfold State.cmitRefused
  rw [ended]
  rfl

/-! ## The image of a live update, verified again (R464) -/

/-- The verification of a live update's image, over. -/
def State.liveChecked (s : State) : State := { s.disarm .updVerify with upd.liveVerify := false }

theorem State.liveChecked_keeps (s : State) : KeepsBut [.timer .updVerify, .upd .liveVerify] s s.liveChecked :=
  (s.disarm_keeps .updVerify).append (KeepsBut.write_upd (l := [.upd .liveVerify]) fun f hf _ _ => by
      cases f with
      | liveVerify => simp at hf  | slotAll | dataAll | keyAll => trivial | _ => exact rfl)

/-- A live update whose image passes: the slot in trial and every engine to reload. -/
def State.liveStarted (s : State) : State :=
  { s.liveChecked.setSlot s.upd.other .trial with
    upd.phase := .running, upd.live := true, upd.prevVersion := s.upd.version, upd.version := imageVersion (s.upd.slot[s.upd.other]).bytes,
    upd.liveTodo := List.finRange 8, upd.liveDone := [], upd.liveBack := false }

theorem State.liveStarted_keeps (s : State) : KeepsBut [.timer .updVerify, .upd .liveVerify, .upd (.slot s.upd.other), .upd .phase, .upd .live,
    .upd .prevVersion, .upd .version, .upd .liveTodo, .upd .liveDone, .upd .liveBack] s s.liveStarted :=
  (s.liveChecked_keeps.append (State.setSlot_keeps s.upd.other .trial s.liveChecked)).append
    (KeepsBut.write_upd (l := [.upd .phase, .upd .live, .upd .prevVersion, .upd .version, .upd .liveTodo, .upd .liveDone, .upd .liveBack])
        fun f hf _ _ => by
        cases f with
        | phase | live | prevVersion | version | liveTodo | liveDone | liveBack => simp at hf  | slotAll | dataAll | keyAll => trivial
        | _ => exact rfl)

theorem State.liveStarted_slot (s : State) : s.liveStarted.upd.slot[s.upd.other] = { s.upd.slot[s.upd.other] with st := .trial } := vector_set_eq _ _ _

theorem exec_liveVerifyDone_passed {uncorr : Bool} {s : State} (verify : s.upd.liveVerify = true)
    (passed : s.upd.bodyFault (s.upd.slot[s.upd.other]).bytes uncorr = none) :
    exec (.liveVerifyDone uncorr) s = .next (s.liveStarted.updRaise 0x1310 []).liveNext := by
  show execLiveVerifyDone uncorr s = _
  refine congrArg Host.Outcome.next ((if_neg (not_not.2 verify)).trans ?_)
  dsimp only
  rw [show ({ s.disarm .updVerify with upd.liveVerify := false } : State).upd.bodyFault (s.upd.slot[s.upd.other]).bytes uncorr = none from passed]
  rfl

theorem exec_liveVerifyDone_failed {uncorr : Bool} {c : Nat} {s : State} (verify : s.upd.liveVerify = true)
    (failed : s.upd.bodyFault (s.upd.slot[s.upd.other]).bytes uncorr = some c) :
    exec (.liveVerifyDone uncorr) s = .next ((s.liveChecked.setSlot s.upd.other .invalid).updRaise c []) := by
  show execLiveVerifyDone uncorr s = _
  refine congrArg Host.Outcome.next ((if_neg (not_not.2 verify)).trans ?_)
  dsimp only
  rw [show ({ s.disarm .updVerify with upd.liveVerify := false } : State).upd.bodyFault (s.upd.slot[s.upd.other]).bytes uncorr = some c from failed]
  rfl

/-- Settles O49: a trial begins, is committed or reverted, and a live update is verified and begins. -/
theorem trialsAndLiveUpdates : Obligations.TrialsAndLiveUpdates := by
  unfold Obligations.TrialsAndLiveUpdates
  refine ⟨fun w s a allowed out idle supply => ?_, fun w s a refused => ?_, fun w s a allowed => ?_, fun w s a runs boot idle supply => ?_,
    fun w s a runs live => ?_, fun s over_ runs boot => ?_, fun w s a allowed => ?_, fun uncorr s verify => ?_⟩
  · have free : objActivate.busy (s.touch w) (leBytes 4 0x746F6F62) = none :=
      if_neg (by rw [show (s.touch w).bootRefused = s.bootRefused from rfl, allowed]; exact Bool.false_ne_true)
    have run : exec (.activate (.dict w)) s = .next (((s.touch w).trialPending.assertReset .warm causeSw false).answer w .done) :=
      congrArg Host.Outcome.next ((State.writeBy_local a (forwards_commands (0x3400, 5) (by simp)) rfl rfl free rfl rfl).trans
        (congrArg (State.answer w .done) (State.bootSlotNow_pending (s := s.touch w) allowed out)))
    obtain ⟨rst, mem, pending, now, phase, live, active⟩ := (s.touch w).trialPending_stands
    have idle' : (s.touch w).trialPending.releasing = false := by rw [State.releasing, rst]; exact idle
    have reset := State.assertReset_warm idle' causeSw false
    obtain ⟨cause, scope, step, -⟩ := Rst.assert_warm (r := (s.touch w).trialPending.rst) (by rw [rst]; exact supply) causeSw
    obtain ⟨phase', live', active', -⟩ := State.assertReset_upd idle' causeSw false
    obtain ⟨pending', now', user'⟩ := State.assertReset_stands .warm causeSw false (s.touch w).trialPending
    refine ⟨_, run, phase'.trans phase, live'.trans live, (congrArg Rst.cause reset).trans cause, (congrArg Rst.scope reset).trans scope,
      (congrArg Rst.phase reset).trans step, active'.trans active, user'.trans (congrArg Mem.user mem), pending'.trans pending, now'.trans now⟩
  · have busy : objActivate.busy (s.touch w) (leBytes 4 0x746F6F62) = some 0x08000022 := if_pos refused
    exact ⟨_, congrArg Host.Outcome.next (State.writeBy_busy a busy), State.answer_answered _ _ _,
      (State.refused_keeps w _ s).weaken (by cases w <;> exact .check rfl)⟩
  · have free : objCommitTrial.busy (s.touch w) (leBytes 4 0x74696D63) = none :=
      if_neg (by rw [State.touch_cmitRefused, allowed]; exact Bool.false_ne_true)
    have run : exec (.commitTrial (.dict w)) s = .next ((s.touch w).trialCommit.answer w .done) :=
      congrArg Host.Outcome.next (State.writeBy_local a (forwards_commands (0x3400, 6) (by simp)) rfl rfl free rfl rfl)
    obtain ⟨active, other, valid, phase, floor, stopped⟩ := (s.touch w).trialCommit_done
    exact ⟨_, run, State.answer_answered _ _ _, active, other, valid, phase, floor, stopped.kept (State.answer_keeps w .done _) (by cases w <;> rfl),
      Raised.answer (State.updRaise_raised (s := s) (a := (s.touch w).trialKept) rfl) _ _,
      ((s.touch w).trialCommit_keeps.write .done).weaken (by cases w <;> exact .check rfl)⟩
  · have free : objRevertTrial.busy (s.touch w) (leBytes 4 0x74727672) = none :=
      if_neg (by rw [show (s.touch w).trialRuns = s.trialRuns from rfl, runs]; simp)
    have effect : (s.touch w).trialRevert = ({ s.touch w with upd.revertWhy := 1 } : State).assertReset .warm causeSw false :=
      if_neg (by rw [show (s.touch w).upd = s.upd from rfl, boot]; exact Bool.false_ne_true)
    have run : exec (.revertTrial (.dict w)) s =
        .next ((({ s.touch w with upd.revertWhy := 1 } : State).assertReset .warm causeSw false).answer w .done) :=
      congrArg Host.Outcome.next ((State.writeBy_local a (forwards_commands (0x3400, 7) (by simp)) rfl rfl free rfl rfl).trans
        (congrArg (State.answer w .done) effect))
    have running : s.upd.phase = .running := by
      simp only [State.trialRuns, Bool.decide_and, Bool.and_eq_true, decide_eq_true_eq] at runs
      exact runs.1
    have reset := State.assertReset_warm (s := { s.touch w with upd.revertWhy := 1 }) idle causeSw false
    obtain ⟨cause, scope, step, -⟩ := Rst.assert_warm (r := s.rst) supply causeSw
    obtain ⟨phase, -, -, why⟩ := State.assertReset_upd (s := { s.touch w with upd.revertWhy := 1 }) idle causeSw false
    obtain ⟨pending, now, user⟩ := State.assertReset_stands .warm causeSw false ({ s.touch w with upd.revertWhy := 1 } : State)
    exact ⟨_, run, why, phase.trans running, (congrArg Rst.cause reset).trans cause, (congrArg Rst.scope reset).trans scope,
      (congrArg Rst.phase reset).trans step, user, pending, now⟩
  · have free : objRevertTrial.busy (s.touch w) (leBytes 4 0x74727672) = none :=
      if_neg (by rw [show (s.touch w).trialRuns = s.trialRuns from rfl, runs]; simp)
    have effect : (s.touch w).trialRevert = (s.touch w).liveRevert.updRaise 0x130D [1] := if_pos live
    have run : exec (.revertTrial (.dict w)) s = .next (((s.touch w).liveRevert.updRaise 0x130D [1]).answer w .done) :=
      congrArg Host.Outcome.next ((State.writeBy_local a (forwards_commands (0x3400, 7) (by simp)) rfl rfl free rfl rfl).trans
        (congrArg (State.answer w .done) effect))
    have upd := (State.updRaise_answered 0x130D [1] w .done (s.touch w).liveRevert)
    rw [(s.touch w).liveRevert_upd] at upd
    have later := ((s.touch w).liveRevert.updRaise_keeps 0x130D [1]).append (State.answer_keeps w .done _)
    have evr : (s.touch w).liveRevert.evr = s.evr := by simp
    refine ⟨_, run, State.answer_answered _ _ _, ?_, ?_, ?_, ?_, (s.touch w).liveRevert_trial.kept later (by cases w <;> rfl),
      Raised.answer (State.updRaise_raised (congrArg Recorder.staging evr)) _ _, ?_⟩
    · exact (congrArg (fun u : Upd => (u.slot[s.upd.other]).st) upd).trans (congrArg BootSlot.st (s.touch w).liveTurned_slot)
    · exact congrArg Upd.phase upd
    · exact congrArg Upd.liveBack upd
    · exact congrArg Upd.liveTodo upd
    · exact ((((s.touch w).liveTurned_keeps.append (State.liveNext_parts _)).append (State.updRaise_keeps _ _ _)).write .done).weaken
        (by cases w <;> exact .check rfl)
  · have run : exec .trialExpiry s = .next { s.disarm .trial with upd.expired := true, upd.revertWhy := 2 } :=
      (congrArg Host.Outcome.next (if_pos ⟨over_, runs⟩)).trans (congrArg Host.Outcome.next (if_neg (by
        rw [show (s.disarm .trial).upd = s.upd from rfl, boot]; exact Bool.false_ne_true)))
    have expired : KeepsBut [.timer .trial, .upd .expired, .upd .revertWhy] s { s.disarm .trial with upd.expired := true, upd.revertWhy := 2 } :=
      (s.disarm_keeps .trial).append (KeepsBut.write_upd (l := [.upd .expired, .upd .revertWhy]) fun f hf _ _ => by
          cases f with
          | expired | revertWhy => simp at hf  | slotAll | dataAll | keyAll => trivial | _ => exact rfl)
    exact ⟨_, run, rfl, rfl, State.disarm_deadline _ s, expired.weaken (by exact .check rfl)⟩
  · have free : objLive.busy (s.touch w) (leBytes 4 0x6576696C) = none :=
      if_neg (by rw [show (s.touch w).liveRefused = s.liveRefused from rfl, allowed]; exact Bool.false_ne_true)
    have run : exec (.liveUpdate (.dict w)) s = .next ((s.touch w).liveBegin.answer w .done) :=
      congrArg Host.Outcome.next (State.writeBy_local a (forwards_commands (0x3400, 8) (by simp)) rfl rfl free rfl rfl)
    have begun : KeepsBut [.upd .liveVerify, .timer .updVerify] (s.touch w) (s.touch w).liveBegin :=
      ((KeepsBut.write_upd (l := [.upd .liveVerify]) fun f hf _ _ => by
          cases f with
          | liveVerify => simp at hf  | slotAll | dataAll | keyAll => trivial
          | _ => exact rfl) : KeepsBut [.upd .liveVerify] (s.touch w) { s.touch w with upd.liveVerify := true }).append (State.arm_keeps _ _ _)
    have ends : Ends .updVerify 300000000 s (s.touch w).liveBegin := State.arm_deadline _ _ _
    exact ⟨_, run, State.answer_answered _ _ _, rfl, ends.kept (State.answer_keeps w .done _) (by cases w <;> rfl), rfl,
      (begun.write .done).weaken (by cases w <;> exact .check rfl)⟩
  · cases fault : s.upd.bodyFault (s.upd.slot[s.upd.other]).bytes uncorr with
    | none =>
      have run := exec_liveVerifyDone_passed verify fault
      have later := (s.liveStarted.updRaise_keeps 0x1310 []).append (State.liveNext_parts _)
      have stopped : Stopped .updVerify s.liveStarted := State.disarm_deadline _ s
      have upd : (s.liveStarted.updRaise 0x1310 []).liveNext.upd = { s.liveStarted.upd with lastCode := 0x1310 } := by simp [State.updRaise_upd]
      have raised : Raised 0x1310 noInst [] s (s.liveStarted.updRaise 0x1310 []) := State.updRaise_raised rfl
      refine ⟨_, run, congrArg Upd.liveVerify upd, stopped.kept later rfl,
        (s.liveStarted_keeps.append later).weaken (by generalize s.upd.other = k; apply Part.Within.checkAt k; rfl), fun _ => ⟨?_, congrArg Upd.phase upd,
        congrArg Upd.live upd, congrArg Upd.liveTodo upd, raised.keep ((State.liveNext_parts _).get (.evr .staging) rfl) ((State.liveNext_parts _).get (.net .batch) rfl)⟩, fun c h => by cases h⟩
      exact (congrArg (fun u : Upd => (u.slot[s.upd.other]).st) upd).trans (congrArg BootSlot.st s.liveStarted_slot)
    | some c =>
      have run := exec_liveVerifyDone_failed verify fault
      have upd := (s.liveChecked.setSlot s.upd.other .invalid).updRaise_upd c []
      have later := (s.liveChecked.setSlot s.upd.other .invalid).updRaise_keeps c []
      have stopped : Stopped .updVerify (s.liveChecked.setSlot s.upd.other .invalid) := State.disarm_deadline _ s
      refine ⟨_, run, congrArg Upd.liveVerify upd, stopped.kept later rfl,
        ((s.liveChecked_keeps.append (State.setSlot_keeps s.upd.other .invalid s.liveChecked)).append later).weaken
          (by generalize s.upd.other = k; apply Part.Within.checkAt k; rfl), fun h => (by cases h), fun c' h => ?_⟩
      obtain rfl : c = c' := Option.some.inj h
      exact ⟨(congrArg (fun u : Upd => (u.slot[s.upd.other]).st) upd).trans
          (congrArg BootSlot.st (State.setSlot_slot s.upd.other .invalid s.liveChecked)), congrArg Upd.lastCode upd, State.updRaise_raised rfl⟩

end Sys2Proof.Machine
end

section
/-! PROOFS. Trim load, boot, wipe, held outputs and supplies (R59, R70, R77, R416 to R422). -/

namespace Sys2Proof.Machine

theorem State.enterStep_keeps (n : Nat) (s : State) :
    KeepsBut [.rst .phase, .timer .stepBound] s (State.enterStep n s) := by
  unfold State.enterStep
  dsimp only
  exact KeepsBut.weaken (KeepsBut.after (State.arm_keeps _ _ _) (KeepsBut.write_rst (l := [.rst .phase]) fun f hf _ _ => by
      cases f with | phase => simp at hf | _ => exact rfl)) (by exact .check rfl)

theorem State.trimRetry_keeps (dev : Bool) (cal : Bool) (s : State) :
    KeepsBut (([.rst .trimFailed] : List Part) ++ Part.raised) s (State.trimRetry dev cal s) := by
  unfold State.trimRetry
  dsimp only
  refine KeepsBut.via (KeepsBut.write_rst (l := [.rst .trimFailed]) fun f hf _ _ => by
      cases f with | trimFailed => simp at hf | _ => exact rfl) (by exact .check rfl) ?_
  refine KeepsBut.viaElse (KeepsBut.weaken (State.raise_keepsBut _ _ _ _) (by exact .check rfl)) ?_
  exact KeepsBut.ite _ (KeepsBut.refl _ _) (KeepsBut.weaken (State.raise_keepsBut _ _ _ _) (by exact .check rfl))

theorem State.oweUnstable_keeps (u : Nat) (s : State) :
    KeepsBut [.rst .owed] s (State.oweUnstable u s) := by
  unfold State.oweUnstable
  dsimp only
  exact KeepsBut.ite _ (KeepsBut.refl _ _) (KeepsBut.weaken (KeepsBut.write_rst (l := [.rst .owed]) fun f hf _ _ => by
      cases f with | owed => simp at hf | _ => exact rfl) (by exact .check rfl))

theorem State.readRecover_keeps (a : Bool) (b : Bool) (c : Bool) (s : State) :
    KeepsBut [.pins .recover, .pins .unstable, .rst .owed] s (State.readRecover a b c s) := by
  unfold State.readRecover
  dsimp only
  exact KeepsBut.weaken (KeepsBut.after (State.oweUnstable_keeps _ _) (KeepsBut.write_pins (l := [.pins .recover, .pins .unstable]) fun f hf _ _ => by
      cases f with
      | recover | unstable => simp at hf | pwmAll | gateAll => trivial | _ => exact rfl)) (by exact .check rfl)

theorem State.enterRecovery_keeps (s : State) :
    KeepsBut (([.rst .romStays, .upd .lastCode] : List Part) ++ Part.raised) s (State.enterRecovery s) := by
  unfold State.enterRecovery
  dsimp only
  exact KeepsBut.weaken (KeepsBut.after (State.updRaise_keeps _ _ _) (KeepsBut.write_rst (l := [.rst .romStays]) fun f hf _ _ => by
      cases f with | romStays => simp at hf | _ => exact rfl)) (by exact .check rfl)

theorem State.romFeeds_keeps (s : State) :
    KeepsBut [.timer .sysWdog] s (State.romFeeds s) := by
  unfold State.romFeeds
  exact KeepsBut.weaken (State.arm_keeps _ _ _) (by exact .check rfl)

theorem State.memoryOut_keeps (s : State) :
    KeepsBut [.timer (.scrubPass (↑(memNumber MemKind.main))), .mem .passFromAll, .timer (.scrubPass (↑(memNumber MemKind.queue))),
        .timer (.scrubPass (↑(memNumber MemKind.mram))), .rst .trimFailed, .rst .phase, .timer .stepBound] s (State.memoryOut s) := by
  unfold State.memoryOut
  dsimp only
  exact KeepsBut.weaken (KeepsBut.after (State.enterStep_keeps _ _) (KeepsBut.after (KeepsBut.write_rst (l := [.rst .trimFailed]) fun f hf _ _ => by
      cases f with | trimFailed => simp at hf | _ => exact rfl) (KeepsBut.after (State.beginPass_keeps _ _)
      (KeepsBut.after (State.beginPass_keeps _ _) (State.beginPass_keeps _ _))))) (by exact .check rfl)

theorem State.loadCal_keeps (s : State) :
    KeepsBut [.meas .calWork, .meas .calHalfAll, .meas .calDiffers] s (State.loadCal s) := by
  unfold State.loadCal
  dsimp only
  split
  · exact KeepsBut.refl _ _
  · exact KeepsBut.weaken (KeepsBut.write_meas (l := [.meas .calWork, .meas .calHalfAll, .meas .calDiffers]) fun f hf hw _ => by
      cases f with
      | calWork | calDiffers => simp at hf | calHalf => simp [Part.whole, MeasurePart.whole] at hw | chAll | moduAll | slotsAll | pairFailsAll
      | winAll | phaseIAll | imonVAll | stI10All | stI1All | bvsAll | hkaAll | hkSumAll | hkNAll | hkMeanAll | calHalfAll => trivial
      | _ => exact rfl) (by exact .check rfl)

/-! ## The trim load's end (R417, R418) -/

/-- The flags of an item load that succeeded. -/
def State.trimLoaded (s : State) : State :=
  { s with rst.devTrimOk := true, rst.calSetOk := true, rst.devTrimFallback := false, rst.calSetFallback := false, rst.protective := false }

theorem State.trimLoaded_keeps (s : State) :
    KeepsBut [.rst .devTrimOk, .rst .calSetOk, .rst .devTrimFallback, .rst .calSetFallback, .rst .protective] s s.trimLoaded :=
  (KeepsBut.write_rst (l := [.rst .devTrimOk, .rst .calSetOk, .rst .devTrimFallback, .rst .calSetFallback, .rst .protective]) fun f hf _ _ => by
      cases f with
      | devTrimOk | calSetOk | devTrimFallback | calSetFallback | protective => simp at hf  | _ => exact rfl)

theorem exec_trimAttemptDone_loaded {k : Fin 2} {s : State} (step : s.rst.phase = .step 4) (half : s.meas.calHalfNow = some k) :
    exec (.trimAttemptDone true true) s = .next (s.loadCal.trimLoaded.enterStep 5) := by
  show execTrimAttemptDone true true s = _
  unfold execTrimAttemptDone
  rw [if_neg (not_not.2 step), half]
  rfl

theorem State.loadCal_some {k : Fin 2} {s : State} (half : s.meas.calHalfNow = some k) :
    s.loadCal.meas.calWork = (s.meas.calHalf[k]).getD {} := by
  simp [State.loadCal, half]

/-- The third attempt without a usable set: no set, and the state of a failed trim. -/
def State.trimProtected (dev : Bool) (s : State) : State :=
  { s with
    meas.calWork := {}, rst.devTrimOk := dev, rst.calSetOk := false, rst.devTrimFallback := !dev, rst.calSetFallback := true,
    rst.protective := true }

theorem State.trimProtected_keeps (dev : Bool) (s : State) : KeepsBut [.meas .calWork, .rst .devTrimOk, .rst .calSetOk, .rst .devTrimFallback,
    .rst .calSetFallback, .rst .protective] s (s.trimProtected dev) :=
  (KeepsBut.of_pieces (l := [.meas .calWork, .rst .devTrimOk, .rst .calSetOk, .rst .devTrimFallback, .rst .calSetFallback, .rst .protective])
      { State.Pieces.refl with
      meas_ := fun f hf _ _ => by
        cases f with
        | calWork => simp at hf  | chAll | moduAll | slotsAll | pairFailsAll | winAll | phaseIAll | imonVAll | stI10All | stI1All | bvsAll | hkaAll
        | hkSumAll | hkNAll | hkMeanAll | calHalfAll => trivial | _ => exact rfl,
      rst_ := fun f hf _ _ => by
        cases f with
        | devTrimOk | calSetOk | devTrimFallback | calSetFallback | protective => simp at hf  | _ => exact rfl })

/-- The record that no valid half is stored, where none is. -/
def State.halfJudged (s : State) : State := if s.meas.calHalfNow.isSome then s else s.raise 0x0209 noInst []

theorem State.halfJudged_keeps (s : State) : KeepsBut Part.raised s s.halfJudged :=
  KeepsBut.ite _ (KeepsBut.refl _ s) (s.raise_keepsBut _ _ _)

theorem State.trimRetry_failed (dev cal : Bool) (s : State) : (s.trimRetry dev cal).rst.trimFailed = s.rst.trimFailed + 1 := by
  cases dev <;> cases cal <;> simp [State.trimRetry]

theorem exec_trimAttemptDone_third {dev : Bool} {s : State} (step : s.rst.phase = .step 4) (failed : s.rst.trimFailed = 2) :
    exec (.trimAttemptDone dev false) s = .next ((((s.halfJudged.trimRetry dev false).trimProtected dev).raise 0x0F06 noInst []).enterStep 5) := by
  have rst : s.halfJudged.rst = s.rst := by
    unfold State.halfJudged
    split <;> simp
  have third : ¬ (s.halfJudged.trimRetry dev false).rst.trimFailed < 3 := by
    rw [State.trimRetry_failed, rst, failed]
    omega
  show execTrimAttemptDone dev false s = _
  unfold execTrimAttemptDone
  rw [if_neg (not_not.2 step)]
  simp only [Bool.false_and, Bool.false_eq_true, and_false, if_false, Bool.not_false]
  exact congrArg Host.Outcome.next (if_neg third)

/-- The protective state, acknowledged. -/
def State.trimAcked (s : State) : State := { s with rst.protective := false }

theorem State.trimAcked_keeps (s : State) : KeepsBut [.rst .protective] s s.trimAcked := (KeepsBut.write_rst (l := [.rst .protective])
    fun f hf _ _ => by cases f with | protective => simp at hf  | _ => exact rfl)

theorem objTrimAck_protective {w : Session} {d : List Byte} {s : State} (protective : s.rst.protective = true) (due : s.rst.bootDue = true) :
    objTrimAck.effect (some w) d s = s.trimAcked.raise 0x0F07 noInst [] := by
  have later : (s.trimAcked.raise 0x0F07 noInst []).rst.bootDue = true := by simpa using (show s.trimAcked.rst.bootDue = true from due)
  exact (if_pos protective).trans (if_pos later)

/-! ## Held outputs (R59) -/

theorem State.heldGates_branch {k : Fin 16} {s : State} (held : s.pins.brHold.getLsbD k = true) : s.heldGates.getLsbD (brGate k) = true := by
  have sum : s.pins.brHold.toNat + 2 ^ 16 * s.pins.fdHold.toNat + 2 ^ 20 * s.pins.stHold.toNat =
      2 ^ 16 * (s.pins.fdHold.toNat + 2 ^ 4 * s.pins.stHold.toNat) + s.pins.brHold.toNat := by ring
  unfold State.heldGates
  rw [sum, BitVec.getLsbD_ofNat, Nat.testBit_two_pow_mul_add _ s.pins.brHold.isLt, if_pos (show (brGate k).val < 16 from k.isLt)]
  rw [decide_eq_true (brGate k).isLt, Bool.true_and]
  exact held

/-- What the outputs held become, of given gates. -/
def State.holdsDropped (h : BitVec 24) (s : State) : State :=
  { s with
    pins := { s.pins with
      gate := Vector.ofFn fun k : Fin 24 => if h.getLsbD k then .resetSink else s.pins.gate[k]
      pg := s.pins.pg &&& ~~~ s.pins.pgHold
      gpioDir := s.pins.gpioDir &&& ~~~ s.pins.gpioHold
      gpioOut := s.pins.gpioOut &&& ~~~ s.pins.gpioHold
      brHold := 0, fdHold := 0, stHold := 0, pgHold := 0, gpioHold := 0 }
    dist.br := s.dist.br.map fun b => if b.st = .held then { b with st := .off } else b }

theorem State.dropHolds_eq (s : State) : s.dropHolds = (s.gatesSunk (s.heldGates &&& s.gatesHigh)).holdsDropped s.heldGates := rfl

theorem State.gatesSunk_keeps (h : BitVec 24) (s : State) : KeepsBut [.dist .brAll, .dist .feedAll] s (s.gatesSunk h) :=
    (KeepsBut.write_dist (l := [.dist .brAll, .dist .feedAll]) fun f _ hw _ => by
    cases f with
    | br => simp [Part.whole, DistPart.whole] at hw | feed => simp [Part.whole, DistPart.whole] at hw  | brAll | feedAll | strAll => trivial
    | _ => exact rfl)

theorem State.holdsDropped_keeps (h : BitVec 24) (s : State) : KeepsBut [.pins .brHold, .pins .fdHold, .pins .stHold, .pins .pgHold,
    .pins .gpioHold, .pins .gateAll, .pins .pg, .pins .gpioOut, .pins .gpioDir, .dist .brAll] s (s.holdsDropped h) :=
  (KeepsBut.of_pieces (l := [.pins .brHold, .pins .fdHold, .pins .stHold, .pins .pgHold, .pins .gpioHold, .pins .gateAll, .pins .pg, .pins .gpioOut,
      .pins .gpioDir, .dist .brAll]) { State.Pieces.refl with
      pins_ := fun f hf hw _ => by
        cases f with
        | brHold | fdHold | stHold | pgHold | gpioHold | pg | gpioOut | gpioDir => simp at hf | gate => simp [Part.whole, PinsPart.whole] at hw
        | pwmAll | gateAll => trivial | _ => exact rfl,
      dist_ := fun f _ hw _ => by
        cases f with
        | br => simp [Part.whole, DistPart.whole] at hw  | brAll | feedAll | strAll => trivial | _ => exact rfl })

theorem State.dropHolds_keeps (s : State) : KeepsBut [.pins .brHold, .pins .fdHold, .pins .stHold, .pins .pgHold, .pins .gpioHold, .pins .gateAll,
    .pins .pg, .pins .gpioOut, .pins .gpioDir, .dist .brAll, .dist .feedAll] s s.dropHolds := by
  rw [State.dropHolds_eq]
  exact ((State.gatesSunk_keeps _ s).append (State.holdsDropped_keeps _ _)).weaken (by exact .check rfl)

theorem State.dropHolds_none (s : State) : s.dropHolds.holding = false := by
  have gates : s.dropHolds.heldGates = 0 := rfl
  unfold State.holding
  rw [gates]
  simp [State.dropHolds, State.gatesSunk]

theorem State.dropHolds_sinks {k : Fin 16} {s : State} (held : s.pins.brHold.getLsbD k = true) : s.dropHolds.pins.gate[brGate k] = .resetSink :=
  (Vector.getElem_ofFn _).trans (if_pos (State.heldGates_branch held))

theorem State.holding_congr {s t : State} (pins : t.pins = s.pins) : t.holding = s.holding := by
  unfold State.holding State.heldGates
  rw [pins]

/-! ## The recovery strap (R467) -/

theorem State.readRecover_recover (a b c : Bool) (s : State) : (s.readRecover a b c).pins.recover = decide (2 ≤ ofBool a + ofBool b + ofBool c) := by
  unfold State.readRecover State.oweUnstable
  dsimp only
  exact apply_ite (fun x : State => x.pins.recover) _ _ _ |>.trans (ite_self _)

/-! ## The supply range (R70, R75, R77) -/

theorem State.rangeMonitor_keeps (x : TimerId) (was now : Bool) (s : State) : KeepsBut [.timer x] s (s.rangeMonitor x was now) := by
  unfold State.rangeMonitor
  refine KeepsBut.ite _ (s.disarm_keeps x) (KeepsBut.ite _ (KeepsBut.ite _ (s.disarm_keeps x) (KeepsBut.refl _ s)) (s.arm_keeps _ _))

theorem State.rangeMonitor_clear (x : TimerId) (was : Bool) (s : State) : Stopped x (s.rangeMonitor x was false) := by
  rw [show s.rangeMonitor x was false = s.disarm x from if_pos Bool.false_ne_true]
  exact State.disarm_deadline _ s

theorem State.rangeMonitor_set (x : TimerId) (s : State) : Ends x 10001 s (s.rangeMonitor x false true) :=
  State.arm_deadline x 10001 s

theorem State.rangeMonitor_over {x : TimerId} {now : Bool} {s : State} (over_ : now = true → s.due x = true) :
    Stopped x (s.rangeMonitor x now now) := by
  cases now with
  | false => exact State.rangeMonitor_clear x false s
  | true =>
    rw [show s.rangeMonitor x true true = s.disarm x from if_pos (over_ rfl)]
    exact State.disarm_deadline _ s

/-- The monitors' new values in SYS_SUPPLY. -/
def State.supplyShown (ov range : Bool) (s : State) : State :=
  { (s.rangeMonitor (.supplyRange false) s.pins.vauxOv ov).rangeMonitor (.supplyRange true) s.pins.vddioRange range with
    pins.vauxOv := ov, pins.vddioRange := range }

theorem State.supplyShown_keeps (ov range : Bool) (s : State) :
    KeepsBut [.pins .vauxOv, .pins .vddioRange, .timers] s (s.supplyShown ov range) :=
  ((State.rangeMonitor_keeps _ _ _ s).append (State.rangeMonitor_keeps (.supplyRange true) s.pins.vddioRange range _)).append
    ((KeepsBut.write_pins (l := [.pins .vauxOv, .pins .vddioRange]) fun f hf _ _ => by
        cases f with
        | vauxOv | vddioRange => simp at hf  | pwmAll | gateAll => trivial | _ => exact rfl) : KeepsBut [.pins .vauxOv,
        .pins .vddioRange] _ (s.supplyShown ov range)) |>.weaken (by exact .check rfl)

theorem State.supplyShown_pins (ov range : Bool) (s : State) : (s.supplyShown ov range).pins = { s.pins with vauxOv := ov, vddioRange := range } := by
  simp [State.supplyShown]

theorem State.supplyShown_deadlines (ov range : Bool) (s : State) :
    (s.supplyShown ov range).deadline (.supplyRange false) = (s.rangeMonitor (.supplyRange false) s.pins.vauxOv ov).deadline (.supplyRange false) :=
  (State.rangeMonitor_keeps (.supplyRange true) s.pins.vddioRange range _).get (.timer (.supplyRange false)) rfl

theorem exec_supplyRange_unrecorded {ov range : Bool} {s : State} (first : ¬ (s.pins.vauxOv = true ∧ ov = true ∧ s.due (.supplyRange false) = true))
    (second : ¬ (s.pins.vddioRange = true ∧ range = true ∧ s.due (.supplyRange true) = true)) :
    exec (.supplyRange ov range) s = .next (s.supplyShown ov range) :=
  congrArg Host.Outcome.next (if_neg (not_or.2 ⟨first, second⟩))

/-! ## The wipe (R422, R470) -/

/-- The partitions empty and the recorder begun anew. -/
def State.wiped (s : State) : State :=
  { s with
    net.store := #v[none, none], net.commit.restore := 0, bat.copies := #v[none, none], mem.user := [],
    evr.recs := [], evr.next := 0, evr.torn := false, evr.staging := [], upd.wipePending := none }

/-- The first record after a wipe: the change of the lifecycle state. -/
def State.wipeRecord (old : Life) (s : State) : Record := s.wiped.mkRecord 3 0x1401 noInst [lifeCode old, lifeCode s.upd.life]

/-- A wiped device with its first record staged. -/
def State.wipeStaged (old : Life) (s : State) : State :=
  { s.wiped with evr := { s.wiped.evr with staging := [s.wipeRecord old] } }

theorem exec_lifecycleWipe {old : Life} {s : State} (step : s.rst.phase = .step 3) (wipe : s.upd.wipePending = some old) :
    exec .lifecycleWipe s = .next ((s.wipeStaged old).raise 0x0F09 noInst []).memoryOut := by
  show execLifecycleWipe s = _
  unfold execLifecycleWipe
  rw [wipe]
  refine congrArg Host.Outcome.next ((if_neg (not_not.2 step)).trans ?_)
  have queued : s.wiped.queueRecord (s.wipeRecord old) = s.wipeStaged old := if_pos (by decide : (0 : Nat) < 16)
  exact congrArg (fun x : State => (x.raise 0x0F09 noInst []).memoryOut) queued

/-- A raised code is staged behind the records that wait. -/
theorem State.raise_staging_head {r : Record} {s : State} (only : s.evr.staging = [r]) (c i : Nat) (v : List Nat) :
    r ∈ (s.raise c i v).evr.staging.head? := by
  rw [State.raise_staging c i v s (by rw [only]; exact Nat.one_lt_ofNat), only]
  rfl

theorem State.wiped_recs (old : Life) (s : State) : (((s.wipeStaged old).raise 0x0F09 noInst []).memoryOut).evr.recs = [] := by
  have memory : (((s.wipeStaged old).raise 0x0F09 noInst []).memoryOut).evr = ((s.wipeStaged old).raise 0x0F09 noInst []).evr := by simp
  rw [memory]
  exact ((s.wipeStaged old).raise_keepsBut 0x0F09 noInst []).get (.evr .recs) rfl

theorem State.wiped_partitions (old : Life) (s : State) :
    (((s.wipeStaged old).raise 0x0F09 noInst []).memoryOut).mem.user = [] ∧
      (((s.wipeStaged old).raise 0x0F09 noInst []).memoryOut).net.store = #v[none, none] ∧
      (((s.wipeStaged old).raise 0x0F09 noInst []).memoryOut).bat.copies = #v[none, none] ∧
      (((s.wipeStaged old).raise 0x0F09 noInst []).memoryOut).upd = s.wiped.upd ∧
      (((s.wipeStaged old).raise 0x0F09 noInst []).memoryOut).pending = s.pending ∧
      (((s.wipeStaged old).raise 0x0F09 noInst []).memoryOut).now = s.now := by
  have mem := (State.memoryOut_keeps ((s.wipeStaged old).raise 0x0F09 noInst [])).get (.mem .user) rfl
  have raised : ((s.wipeStaged old).raise 0x0F09 noInst []).mem = (s.wipeStaged old).mem := by simp
  have net : ((s.wipeStaged old).raise 0x0F09 noInst []).net.store = (s.wipeStaged old).net.store := by simp
  have later : (((s.wipeStaged old).raise 0x0F09 noInst []).memoryOut).net = ((s.wipeStaged old).raise 0x0F09 noInst []).net := by simp
  have bat : (((s.wipeStaged old).raise 0x0F09 noInst []).memoryOut).bat = (s.wipeStaged old).bat := by simp
  have upd : (((s.wipeStaged old).raise 0x0F09 noInst []).memoryOut).upd = (s.wipeStaged old).upd := by simp
  have pending : (((s.wipeStaged old).raise 0x0F09 noInst []).memoryOut).pending = (s.wipeStaged old).pending := by simp
  have now : (((s.wipeStaged old).raise 0x0F09 noInst []).memoryOut).now = (s.wipeStaged old).now := by simp
  exact ⟨mem.trans (congrArg Mem.user raised), (congrArg Net.store later).trans net, congrArg Battery.copies bat, upd, pending, now⟩

/-- Settles O45: the trim load, the boot, the wipe, held outputs, the brown-out warning and the supply range. -/
theorem trimBootWipeAndSupplies : Obligations.TrimBootWipeAndSupplies := by
  unfold Obligations.TrimBootWipeAndSupplies
  refine ⟨fun k s step half => ?_, fun dev s step failed => ?_, fun w d s a protective due => ?_, fun okA okB s step life phase warm => ?_,
    fun digests okA okB s step life => ?_, fun old s step wipe => ?_, fun s due held => ?_, fun s clear => ?_, fun s deferred => ?_,
    fun ov range s first second => ?_, fun s ov range => ?_, fun a b s set ov range first second => ?_⟩
  · have run := exec_trimAttemptDone_loaded step half
    exact ⟨_, run, rfl, rfl, rfl, rfl, (State.loadCal_some half :),
      ((s.loadCal_keeps.append (State.trimLoaded_keeps _)).append (State.enterStep_keeps 5 _)).weaken (by exact .check rfl)⟩
  · have run := exec_trimAttemptDone_third (dev := dev) step failed
    have raised : Raised 0x0F06 noInst [] ((s.halfJudged.trimRetry dev false).trimProtected dev) _ := State.raise_raised 0x0F06 noInst [] rfl
    have last := State.enterStep_keeps 5 ((((s.halfJudged.trimRetry dev false).trimProtected dev).raise 0x0F06 noInst []))
    have kept := ((((s.halfJudged_keeps.append (State.trimRetry_keeps dev false _)).append (State.trimProtected_keeps dev _)).append
      (State.raise_keepsBut 0x0F06 noInst [] _)).append last).weaken (m := (([.meas .calWork, .rst .phase, .rst .devTrimOk, .rst .calSetOk,
        .rst .devTrimFallback, .rst .calSetFallback, .rst .protective, .rst .trimFailed, .timer .stepBound] : List Part)
            ++ Part.raised)) (by exact .check rfl)
    have rst : (((s.halfJudged.trimRetry dev false).trimProtected dev).raise 0x0F06 noInst []).rst =
        ((s.halfJudged.trimRetry dev false).trimProtected dev).rst := by simp
    have meas : (((s.halfJudged.trimRetry dev false).trimProtected dev).raise 0x0F06 noInst []).meas =
        ((s.halfJudged.trimRetry dev false).trimProtected dev).meas := by simp
    exact ⟨_, run, rfl, (congrArg Rst.protective rst :), (congrArg Rst.calSetOk rst :), (congrArg Rst.calSetFallback rst :), (congrArg Rst.devTrimOk rst :),
      (congrArg Measure.calWork meas :), raised.2 rfl, kept⟩
  · have run : exec (.trimAcknowledge w d) s = .next (((s.touch w).trimAcked.raise 0x0F07 noInst []).answer w .done) :=
      congrArg Host.Outcome.next ((State.writeBy_local a (forwards_commands (0x5F20, 7) (by simp)) rfl rfl rfl rfl rfl).trans
        (congrArg (State.answer w .done) (objTrimAck_protective protective due)))
    have left := (s.touch w).trimAcked_keeps.append (State.raise_keepsBut 0x0F07 noInst [] _)
    have raised : Raised 0x0F07 noInst [] s ((s.touch w).trimAcked.raise 0x0F07 noInst []) := State.raise_raised _ _ _ rfl
    have rst : (((s.touch w).trimAcked.raise 0x0F07 noInst []).answer w .done).rst = (s.touch w).trimAcked.rst := by simp
    exact ⟨_, run, State.answer_answered _ _ _, congrArg Rst.protective rst, raised.answer _ _,
      (left.write .done).weaken (by cases w <;> exact .check rfl)⟩
  · have quiet : (s.readRecover false false false).pins.recover = false := State.readRecover_recover _ _ _ s
    have upd : (s.readRecover false false false).upd = s.upd := by simp
    have scope : (s.readRecover false false false).rst.scope = s.rst.scope := (s.readRecover_keeps false false false).get (.rst .scope) rfl
    have select : ∀ sound, (s.readRecover false false false).romSelect true sound = s.readRecover false false false := by
      intro sound
      unfold State.romSelect
      rw [upd, phase, scope]
      exact if_pos ⟨warm, rfl⟩
    have run : exec (.romBootDone false false false true okA okB) s = .next (((s.readRecover false false false).romFeeds).enterStep 6) := by
      refine congrArg Host.Outcome.next ((if_neg (not_not.2 step)).trans (congrArg (fun x : State => x.romFeeds.enterStep 6) ?_))
      exact (if_neg (by rw [upd]; exact life)).trans ((if_neg (by rw [quiet]; exact Bool.false_ne_true)).trans (select _))
    have fed : Ends .sysWdog (s.ns 0x3800 1) s (s.readRecover false false false).romFeeds := State.arm_deadline _ _ _
    exact ⟨_, run, rfl, quiet, upd, fed.kept (State.enterStep_keeps 6 _) rfl,
      ((((s.readRecover_keeps false false false).append (State.romFeeds_keeps _)).append (State.enterStep_keeps 6 _))).weaken (by exact .check rfl)⟩
  · have asked : (s.readRecover true true true).pins.recover = true := State.readRecover_recover _ _ _ s
    have upd : (s.readRecover true true true).upd = s.upd := by simp
    have run : exec (.romBootDone true true true digests okA okB) s = .next (((s.readRecover true true true).enterRecovery.romFeeds).enterStep 6) := by
      refine congrArg Host.Outcome.next ((if_neg (not_not.2 step)).trans (congrArg (fun x : State => x.romFeeds.enterStep 6) ?_))
      exact (if_neg (by rw [upd]; exact life)).trans (if_pos asked)
    have raised : Raised 0x1312 noInst [] s (s.readRecover true true true).enterRecovery :=
      State.updRaise_raised (a := { s.readRecover true true true with rst.romStays := true }) ((s.readRecover_keeps true true true).get (.evr .staging) rfl)
    refine ⟨_, run, rfl, ?_, ?_, ?_, fun room => ?_, (((((s.readRecover_keeps true true true).append (State.enterRecovery_keeps _)).append
      (State.romFeeds_keeps _)).append (State.enterStep_keeps 6 _))).weaken (by exact .check rfl)⟩
    · simp [State.enterStep, State.romFeeds, State.enterRecovery, State.updRaise]
    · simpa [State.enterStep, State.romFeeds, State.enterRecovery, State.updRaise] using asked
    · simp [State.enterStep, State.romFeeds, State.enterRecovery, State.updRaise]
    · obtain ⟨r, staged, code, -⟩ := raised.1 room
      exact ⟨r, staged, code⟩
  · have run := exec_lifecycleWipe step wipe
    obtain ⟨user, store, copies, upd, pending, now⟩ := s.wiped_partitions old
    have evr : (((s.wipeStaged old).raise 0x0F09 noInst []).memoryOut).evr = ((s.wipeStaged old).raise 0x0F09 noInst []).evr := by simp
    refine ⟨_, run, user, store, copies, s.wiped_recs old, congrArg Upd.wipePending upd, rfl, ⟨s.wipeRecord old, ?_, rfl, rfl⟩, pending, now,
      (congrArg Upd.life upd :)⟩
    rw [evr]
    exact State.raise_staging_head rfl 0x0F09 noInst []
  · have run : exec .holdExpired s = .next ((s.disarm .hold).dropHolds.raise 0x0F21 noInst []) :=
      congrArg Host.Outcome.next ((if_pos due).trans (if_pos held))
    have last := State.raise_keepsBut 0x0F21 noInst [] (s.disarm .hold).dropHolds
    have pins : ((s.disarm .hold).dropHolds.raise 0x0F21 noInst []).pins = (s.disarm .hold).dropHolds.pins := by simp
    have stopped : Stopped .hold (s.disarm .hold).dropHolds := State.disarm_deadline _ s
    refine ⟨_, run, (State.holding_congr pins).trans (State.dropHolds_none _), fun k h => ?_, State.raise_raised _ _ _ rfl, stopped.kept last rfl,
      (((s.disarm_keeps .hold).append (State.dropHolds_keeps _)).append last).weaken (by exact .check rfl)⟩
    rw [pins]
    exact State.dropHolds_sinks h
  · have run : exec .brownWarnSet s = .next (({ s with pins.brownWarn := true, pins.brownSeen := true, pins.brownEvents := bump s.pins.brownEvents } :
        State).raise 0x0F22 noInst []) := congrArg Host.Outcome.next (if_neg (by rw [clear]; exact Bool.false_ne_true))
    have warned : KeepsBut [.pins .brownWarn, .pins .brownSeen, .pins .brownEvents] s
        { s with pins.brownWarn := true, pins.brownSeen := true, pins.brownEvents := bump s.pins.brownEvents } :=
            (KeepsBut.write_pins (l := [.pins .brownWarn, .pins .brownSeen, .pins .brownEvents]) fun f hf _ _ => by
            cases f with
            | brownWarn | brownSeen | brownEvents => simp at hf  | pwmAll | gateAll => trivial | _ => exact rfl)
    refine ⟨_, run, ?_, ?_, ?_, State.raise_raised _ _ _ rfl, (warned.append (State.raise_keepsBut _ _ _ _)).weaken (by exact .check rfl)⟩ <;> simp
  · exact ⟨_, congrArg Host.Outcome.next (if_neg (by rw [show ({ s with pins.brownWarn := false } : State).bat.deferred = false from deferred]
                                                     exact Bool.false_ne_true)), rfl, rfl, (KeepsBut.write_pins (l := [.pins .brownWarn])
                                                         fun f hf _ _ => by
                                                         cases f with
                                                         | brownWarn => simp at hf  | pwmAll | gateAll => trivial | _ => exact rfl)⟩
  · have run : exec (.supplyRange ov range) s = .next (s.supplyShown ov range) :=
      exec_supplyRange_unrecorded (fun h => Bool.false_ne_true (first.symm.trans h.2.2)) fun h => Bool.false_ne_true (second.symm.trans h.2.2)
    refine ⟨_, run, s.supplyShown_pins ov range, fun h => ?_, fun h => ?_, s.supplyShown_keeps ov range⟩
    · subst h
      exact (s.supplyShown_deadlines false range).trans (State.rangeMonitor_clear _ _ _)
    · subst h
      exact (State.rangeMonitor_clear (.supplyRange true) s.pins.vddioRange _ :)
  · have run : exec (.supplyRange true true) s = .next (s.supplyShown true true) :=
      exec_supplyRange_unrecorded (fun h => Bool.false_ne_true (ov.symm.trans h.1)) fun h => Bool.false_ne_true (range.symm.trans h.1)
    refine ⟨_, run, s.supplyShown_pins true true, (s.supplyShown_deadlines true true).trans ?_, ?_, s.supplyShown_keeps true true⟩
    · rw [ov]
      exact State.rangeMonitor_set _ s
    · have set : Ends (.supplyRange true) 10001 s
          ((s.rangeMonitor (.supplyRange false) s.pins.vauxOv true).rangeMonitor (.supplyRange true) s.pins.vddioRange true) := by
        rw [range]
        have now : (s.rangeMonitor (.supplyRange false) s.pins.vauxOv true).now = s.now := by simp
        exact (State.rangeMonitor_set (.supplyRange true) _).trans (by rw [now])
      exact (set :)
  · have recorded : (s.pins.vauxOv = true ∧ a = true ∧ s.due (.supplyRange false) = true) ∨
        (s.pins.vddioRange = true ∧ b = true ∧ s.due (.supplyRange true) = true) :=
      set.imp (fun h => ⟨ov.trans h, h, first h⟩) fun h => ⟨range.trans h, h, second h⟩
    have run : exec (.supplyRange a b) s = .next ((s.supplyShown a b).raise 0x0F23 noInst [8 * ofBool a + 16 * ofBool b]) := by
      have low : decide (s.pins.vauxOv = true ∧ a = true ∧ s.due (.supplyRange false) = true) = a := by
        cases a with
        | false => exact decide_eq_false fun h => Bool.false_ne_true h.2.1
        | true => exact decide_eq_true ⟨ov, rfl, first rfl⟩
      have high : decide (s.pins.vddioRange = true ∧ b = true ∧ s.due (.supplyRange true) = true) = b := by
        cases b with
        | false => exact decide_eq_false fun h => Bool.false_ne_true h.2.1
        | true => exact decide_eq_true ⟨range, rfl, second rfl⟩
      have values := congrArg₂ (fun x y => [8 * ofBool x + 16 * ofBool y]) low high
      exact congrArg Host.Outcome.next ((if_pos recorded).trans (congrArg (fun v => (s.supplyShown a b).raise 0x0F23 noInst v) values))
    have last := State.raise_keepsBut 0x0F23 noInst [8 * ofBool a + 16 * ofBool b] (s.supplyShown a b)
    have staging : (s.supplyShown a b).evr.staging = s.evr.staging := (s.supplyShown_keeps a b).get (.evr .staging) rfl
    have standing : (s.supplyShown a b).pins = s.pins := by rw [s.supplyShown_pins, ← ov, ← range]
    have low : Stopped (.supplyRange false) (s.supplyShown a b) := by
      refine (s.supplyShown_deadlines a b).trans ?_
      rw [ov]
      exact State.rangeMonitor_over first
    have due : (s.rangeMonitor (.supplyRange false) s.pins.vauxOv a).due (.supplyRange true) = s.due (.supplyRange true) := by
      have other := (State.rangeMonitor_keeps (.supplyRange false) s.pins.vauxOv a s).get (.timer (.supplyRange true)) rfl
      have now : (s.rangeMonitor (.supplyRange false) s.pins.vauxOv a).now = s.now := by simp
      unfold State.due
      rw [show (s.rangeMonitor (.supplyRange false) s.pins.vauxOv a).deadline (.supplyRange true) = s.deadline (.supplyRange true) from other, now]
    have high : Stopped (.supplyRange true) (s.supplyShown a b) := by
      have over_ := State.rangeMonitor_over (x := .supplyRange true) (now := b) (s := s.rangeMonitor (.supplyRange false) s.pins.vauxOv a)
        fun h => due.trans (second h)
      rw [show s.supplyShown a b = { (s.rangeMonitor (.supplyRange false) s.pins.vauxOv a).rangeMonitor (.supplyRange true) b b with
        pins.vauxOv := a, pins.vddioRange := b } by unfold State.supplyShown; rw [range]]
      exact (over_ :)
    refine ⟨_, run, State.raise_raised _ _ _ staging, low.kept last rfl, high.kept last rfl, ?_,
      ((s.supplyShown_keeps a b).append last).weaken (by exact .check rfl)⟩
    simpa using standing

end Sys2Proof.Machine
end

section
/-! PROOFS. Block resets and the release's steps (R411, R415, R419, R420). -/

namespace Sys2Proof.Machine

theorem State.requestBlock_keeps (b : Nat) (s : State) :
    KeepsBut [.rst .blk, .timer (.blkIdle b)] s (State.requestBlock b s) := by
  unfold State.requestBlock
  dsimp only
  exact KeepsBut.ite _ (KeepsBut.refl _ _) (KeepsBut.weaken (KeepsBut.after (State.arm_keeps _ _ _) (KeepsBut.write_rst (l := [.rst .blk])
      fun f hf _ _ => by cases f with | blk => simp at hf | _ => exact rfl)) (by simp [Part.Within, Part.raised]))

theorem State.gapStart_keeps (n : Fin 4) (s : State) :
    KeepsBut [.bat (.str n)] s (State.gapStart n s) := by
  unfold State.gapStart
  exact KeepsBut.weaken (State.modStr_keeps _ _ _) (by apply Part.Within.checkAt n; rfl)

theorem State.measureReset_keeps (s : State) :
    KeepsBut [.meas .chAll, .meas .slotsAll, .meas .refFails, .meas .refFail, .bat .strAll] s (State.measureReset s) := by
  unfold State.measureReset
  dsimp only
  refine KeepsBut.via (KeepsBut.each (l := [.bat .strAll]) (fun a s => ?_) _ _) (by exact .check rfl) ?_
  · exact KeepsBut.ite _ (KeepsBut.weaken (KeepsBut.whole (m := [.bat .strAll]) (State.gapStart_keeps _ _) rfl) (by exact .check rfl))
      (KeepsBut.refl _ _)
  exact KeepsBut.weaken (KeepsBut.write_meas (l := [.meas .chAll, .meas .slotsAll, .meas .refFails, .meas .refFail]) fun f hf hw _ => by
      cases f with
      | refFails | refFail => simp at hf | ch => simp [Part.whole, MeasurePart.whole] at hw | slots => simp [Part.whole, MeasurePart.whole] at hw
      | chAll | moduAll | slotsAll | pairFailsAll | winAll | phaseIAll | imonVAll | stI10All | stI1All | bvsAll | hkaAll | hkSumAll | hkNAll
      | hkMeanAll | calHalfAll => trivial | _ => exact rfl) (by exact .check rfl)

theorem State.latchStraps_keeps (a : BitVec 7) (b : BitVec 7) (c : BitVec 7) (s : State) :
    KeepsBut [.pins .cascPos, .pins .slAddr, .pins .twinPar, .pins .unstable, .twin .st, .rst .owed] s (State.latchStraps a b c s) := by
  unfold State.latchStraps
  dsimp only
  exact KeepsBut.weaken (KeepsBut.after (State.oweUnstable_keeps _ _) (KeepsBut.of_pieces (l := [.pins .cascPos, .pins .slAddr, .pins .twinPar,
      .pins .unstable, .twin .st]) { State.Pieces.refl with
      pins_ := fun f hf _ _ => by
        cases f with
        | cascPos | slAddr | twinPar | unstable => simp at hf | pwmAll | gateAll => trivial | _ => exact rfl,
      twin_ := fun f hf _ _ => by cases f with | st => simp at hf | delayAll => trivial | _ => exact rfl })) (by exact .check rfl)

theorem State.sinkReleased_keeps (s : State) :
    KeepsBut [.pins .gateAll] s (State.sinkReleased s) := by
  unfold State.sinkReleased
  dsimp only
  exact KeepsBut.weaken (KeepsBut.write_pins (l := [.pins .gateAll]) fun f _ hw _ => by
      cases f with
      | gate => simp [Part.whole, PinsPart.whole] at hw | pwmAll | gateAll => trivial | _ => exact rfl) (by exact .check rfl)

theorem State.enginesOut_keeps (s : State) :
    KeepsBut [.timers, .rst .phase] s (State.enginesOut s) := by
  unfold State.enginesOut
  exact KeepsBut.weaken (KeepsBut.after (State.enterStep_keeps _ _) (KeepsBut.each (l := [.timers]) (fun a s => KeepsBut.weaken
      (KeepsBut.whole (m := [.timers]) (State.arm_keeps _ _ _) rfl) (by exact .check rfl)) _ _)) (by exact .check rfl)

/-! ## A block's reset asserted and released (R419, R420) -/

/-- A block in its reset, before its hold is timed. -/
def State.blockAsserted (b : Nat) (idle : Bool) (s : State) : State :=
  { s with rst.blk := { code := b, asserted := true, forced := !idle } :: s.rst.blk.filter fun z => z.code ≠ b }

/-- A block in its reset, for 1 µs. -/
def State.blockHeld (b : Nat) (idle : Bool) (s : State) : State := ((s.blockAsserted b idle).disarm (.blkIdle b)).arm (.blkHold b) 1000

theorem State.blockHeld_keeps (b : Nat) (idle : Bool) (s : State) :
    KeepsBut [.rst .blk, .timer (.blkIdle b), .timer (.blkHold b)] s (s.blockHeld b idle) :=
  (((KeepsBut.write_rst (l := [.rst .blk]) fun f hf _ _ => by
      cases f with | blk => simp at hf  | _ => exact rfl) : KeepsBut [.rst .blk] s (s.blockAsserted b idle)).append (State.disarm_keeps _ _)).append (State.arm_keeps _ _ _)

theorem exec_blockResetAssert {b : Nat} {idle : Bool} {x : BlkReset} {s : State} (found : s.rst.blk.find? (fun x => x.code = b) = some x)
    (waits : x.asserted = false) (ready : idle = true ∨ s.due (.blkIdle b) = true) :
    exec (.blockResetAssert b idle) s = .next ((s.blockHeld b idle).blockOn b) := by
  show execBlockResetAssert b idle s = _
  unfold execBlockResetAssert
  rw [found]
  exact congrArg Host.Outcome.next (if_neg (not_or.2 ⟨by rw [waits]; exact Bool.false_ne_true, not_not.2 ready⟩))

theorem State.gapStarts_meas (s : State) :
    (State.each (List.finRange 4) (fun n => fun s => if s.bat.str[n].known then s.gapStart n else s) s).meas = s.meas :=
  State.each_invariant (P := fun t => t.meas = s.meas) (fun n t h => by
    split
    · simpa using h
    · exact h) _ _ rfl

theorem State.measureReset_meas (s : State) : (∀ k : Fin 48, (s.measureReset.meas.ch[k]).notReady = true) ∧ s.measureReset.meas.refFail = false := by
  have meas : s.measureReset.meas = _ := State.gapStarts_meas _
  rw [meas]
  exact ⟨fun k => congrArg Channel.notReady (Vector.getElem_ofFn _), rfl⟩

/-- A block released from its reset. -/
def State.blockFreed (b : Nat) (forced : Bool) (s : State) : State :=
  { s.disarm (.blkHold b) with rst.blk := s.rst.blk.filter fun z => z.code ≠ b, rst.blkLast := b, rst.blkForced := forced }

theorem exec_blockResetRelease {b : Nat} {x : BlkReset} {s : State} (found : s.rst.blk.find? (fun x => x.code = b) = some x)
    (asserted : x.asserted = true) (due : s.due (.blkHold b) = true) :
    exec (.blockResetRelease b) s = .next (((s.blockFreed b x.forced).blockOff b).raise (if x.forced then 0x0F04 else 0x0F03) noInst [b]) := by
  show execBlockResetRelease b s = _
  unfold execBlockResetRelease
  rw [found]
  exact congrArg Host.Outcome.next (if_neg (not_or.2 ⟨not_not.2 asserted, not_not.2 due⟩))

/-- The end of a string's gap stages one record at most. -/
theorem State.gapEnd_staging {cause : Nat} {n : Fin 4} {s : State} (room : s.evr.staging.length < 16) :
    (s.gapEnd cause n).evr.staging.length ≤ s.evr.staging.length + 1 := by
  unfold State.gapEnd
  split
  · omega
  · refine Nat.le_of_eq ((congrArg List.length (State.raise_staging _ _ _ _ ?_)).trans ?_)
    · exact room
    · exact List.length_append

theorem State.gapEnds_staging (cause : Nat) (l : List (Fin 4)) {s : State} (room : s.evr.staging.length + l.length ≤ 16) :
    (State.each l (State.gapEnd cause) s).evr.staging.length ≤ s.evr.staging.length + l.length := by
  unfold State.each
  induction l generalizing s with
  | nil => simp
  | cons n l ih =>
    simp only [List.length_cons] at room ⊢
    have one := State.gapEnd_staging (cause := cause) (n := n) (s := s) (by omega)
    have rest := ih (s := s.gapEnd cause n) (by omega)
    simp only [List.foldl_cons]
    omega

theorem State.measureRelease_staging {s : State} (room : s.evr.staging.length < 12) : s.measureRelease.evr.staging.length < 16 := by
  have arm : (s.arm .ready 45000000).evr = s.evr := by simp
  have most := State.gapEnds_staging 0 (List.finRange 4) (s := s.arm .ready 45000000) (by rw [arm]; simp; omega)
  rw [arm] at most
  simp only [List.length_finRange] at most
  exact Nat.lt_of_le_of_lt most (by omega)

/-- A released block stages at most the ends of the strings' gaps. -/
theorem State.blockOff_staging (b : Nat) {s : State} (room : s.evr.staging.length < 12) : (s.blockOff b).evr.staging.length < 16 := by
  have same : ∀ t : State, t.evr = s.evr → t.evr.staging.length < 16 := fun t h => by rw [h]; omega
  unfold State.blockOff
  split
  · exact State.measureRelease_staging room
  · exact same _ (by split <;> simp)
  · exact same _ (by split <;> simp)
  · exact same _ (by simp)
  · split
    · refine same _ ?_
      split
      · dsimp only
        split <;> simp
      · split <;> simp
    · exact same _ rfl

/-! ## The outputs released (R415) -/

/-- The last step of the release in solo operation and without a trial. -/
def State.outputsFreed (s : State) : State :=
  { s.disarm .stepBound with
    rst.phase := .released, rst.lastRelease := s.tb.tod, eng.sysPending := false,
    rst.owed := s.rst.owed ++ ((if s.rst.scope = .cold then 0x0F01 else 0x0F02), [s.rst.causeWord]) ::
      (if s.eng.sysPending then [(0x0B05, [])] else []) }

theorem State.outputsFreed_keeps (s : State) :
    KeepsBut [.timer .stepBound, .rst .phase, .rst .lastRelease, .rst .owed, .eng .sysPending] s s.outputsFreed :=
  (s.disarm_keeps .stepBound).append (KeepsBut.of_pieces (l := [.rst .phase, .rst .lastRelease, .rst .owed, .eng .sysPending])
      { State.Pieces.refl with
      rst_ := fun f hf _ _ => by cases f with | phase | lastRelease | owed => simp at hf  | _ => exact rfl,
      eng_ := fun f hf _ _ => by
        cases f with
        | sysPending => simp at hf  | engAll | loadAll | hostAll | epochAll | dbAll | dbMaskAll | txDataAll | queueAll | lockAll | armAll => trivial
        | _ => exact rfl })

/-- The outputs as they are released, the watchdog and the scan timed. -/
def State.outputsTimed (s : State) : State := (s.outputsFreed.sinkReleased.arm .scan 5000000).romFeeds

/-- The trial's time begins where a trial runs. -/
def State.trialTimed (s : State) : State := if s.upd.phase = .running then s.arm .trial (s.ns 0x3400 9) else s

theorem State.outputsOut_eq (s : State) :
    s.outputsOut = if s.outputsTimed.trialTimed.pins.twinPar then s.outputsTimed.trialTimed.idlePins else s.outputsTimed.trialTimed := rfl

theorem State.outputsTimed_keeps (s : State) : KeepsBut [.timer .stepBound, .rst .phase, .rst .lastRelease, .rst .owed, .eng .sysPending,
    .pins .gateAll, .timer .scan, .timer .sysWdog] s s.outputsTimed :=
  ((s.outputsFreed_keeps.append (State.sinkReleased_keeps _)).append (State.arm_keeps _ _ _)).append (State.romFeeds_keeps _)

theorem State.outputsOut_solo {s : State} (solo : s.pins.twinPar = false) (still : s.upd.phase = .none) : s.outputsOut = s.outputsTimed := by
  have phase : s.outputsTimed.upd.phase = .none := (s.outputsTimed_keeps.get (.upd .phase) rfl).trans still
  have timed : s.outputsTimed.trialTimed = s.outputsTimed := if_neg fun running => TrialPhase.noConfusion (phase.symm.trans running)
  have pins : s.outputsTimed.pins.twinPar = false := (s.outputsTimed_keeps.get (.pins .twinPar) rfl).trans solo
  rw [State.outputsOut_eq, timed, pins]
  rfl

/-! ## A step that stalls (R415) -/

theorem Rst.assert_again {r : Rst} (supply : r.supplyOk = true) (cause : BitVec 16) :
    (r.assert r.scope cause true).cause = r.cause ||| cause ∧ (r.assert r.scope cause true).scope = r.scope ∧
      (r.assert r.scope cause true).phase = .step 1 := by
  cases h : r.scope <;> simp [Rst.assert, supply, widest, h]

theorem State.assertReset_again {s : State} (releasing : s.releasing = true) (cause : BitVec 16) :
    (s.assertReset s.rst.scope cause false).rst = s.rst.assert s.rst.scope cause true := by
  cases h : s.rst.scope <;> simp [State.assertReset, releasing, widest, h]

theorem State.releasing_step {n : Nat} {s : State} (step : s.rst.phase = .step n) : s.releasing = true := by
  simp [State.releasing, step]

/-- Settles O44: a block's reset is asked for, asserted and released, a parity sweep resets, and the release goes on by steps. -/
theorem blockResetsAndReleaseSteps : Obligations.BlockResetsAndReleaseSteps := by
  unfold Obligations.BlockResetsAndReleaseSteps
  refine ⟨fun b s up code free => ?_, fun b idle x s found waits ready => ?_, fun idle x s found waits ready => ?_, fun b x s found asserted due => ?_,
    fun b s idle supply => ?_, fun s => ?_, fun a b c s step cold waited => ?_, fun a b c n s step between => ?_, fun a b c s step solo still => ?_,
    fun n d s step other bound past supply => ?_⟩
  · have run : exec (.blockResetRequest .reg [b]) s =
        .next (({ s.touch .spi with rst.blk := { code := b.toNat } :: s.rst.blk } : State).arm (.blkIdle b.toNat) ((s.touch .spi).ns 0x5F20 4)) := by
      have asked : ¬ (¬ blockCode b.toNat = true ∨ (s.touch .spi).rst.blk.any (fun x => x.code = b.toNat) = true) :=
        not_or.2 ⟨not_not.2 code, fun h => Bool.false_ne_true (free.symm.trans h)⟩
      have one : leValue ([b].take 1) = b.toNat := by simp [leValue]
      refine congrArg Host.Outcome.next ((if_pos up).trans ?_)
      rw [one]
      exact if_neg asked
    exact ⟨_, run, rfl, State.arm_deadline _ _ _, (((s.touch_keeps .spi).append ((KeepsBut.write_rst (l := [.rst .blk]) fun f hf _ _ => by
        cases f with | blk => simp at hf  | _ => exact rfl) : KeepsBut [.rst .blk] (s.touch .spi)
      { s.touch .spi with rst.blk := { code := b.toNat } :: s.rst.blk })).append (State.arm_keeps _ _ _)).weaken (by exact .check rfl)⟩
  · have rst : ((s.blockHeld b idle).blockOn b).rst = (s.blockHeld b idle).rst := by simp
    refine ⟨_, exec_blockResetAssert found waits ready, ?_, ?_⟩
    · rw [rst]
      exact ⟨_, List.mem_cons_self, rfl, rfl, rfl⟩
    · simp [State.blockHeld, State.blockAsserted]
  · obtain ⟨notReady, refFail⟩ := (s.blockHeld 1 idle).measureReset_meas
    have held : Ends (.blkHold 1) 1000 s (s.blockHeld 1 idle) := State.arm_deadline _ _ _
    exact ⟨_, exec_blockResetAssert found waits ready, notReady, refFail, held.kept (State.measureReset_keeps _) rfl,
      ((s.blockHeld_keeps 1 idle).append (State.measureReset_keeps _)).weaken (by exact .check rfl)⟩
  · have rst : (((s.blockFreed b x.forced).blockOff b).raise (if x.forced then 0x0F04 else 0x0F03) noInst [b]).rst = (s.blockFreed b x.forced).rst := by simp
    refine ⟨_, exec_blockResetRelease found asserted due, ?_, congrArg Rst.blkLast rst, congrArg Rst.blkForced rst, fun room => ?_, ?_⟩
    · rw [rst]
      exact fun y hy => of_decide_eq_true (List.mem_filter.1 hy).2
    · have raised : Raised _ noInst [b] s _ :=
        State.raise_raised_of_room (if x.forced then 0x0F04 else 0x0F03) noInst [b] (State.blockOff_staging b (s := s.blockFreed b x.forced) room)
      obtain ⟨r, staged, code, -, vals⟩ := raised.1 (by omega)
      exact ⟨r, staged, code, vals⟩
    · simp [State.blockFreed]
  · have away : ¬ s.rst.phase = .held := fun held => by simp [State.releasing, held] at idle
    have run : exec (.paritySweep (some b)) s = .next { s.assertReset .warm causeParity false with
        rst.owed := (s.assertReset .warm causeParity false).rst.owed ++ [(0x0F08, [b])] } := congrArg Host.Outcome.next (if_neg away)
    have reset := State.assertReset_warm idle causeParity false
    obtain ⟨cause, scope, step, -⟩ := Rst.assert_warm supply causeParity
    obtain ⟨pending, now, user⟩ := State.assertReset_stands .warm causeParity false s
    exact ⟨_, run, (congrArg Rst.cause reset).trans cause, (congrArg Rst.scope reset).trans scope, (congrArg Rst.phase reset).trans step,
      List.mem_append_right _ (List.mem_singleton.2 rfl), user, pending, now⟩
  · exact ⟨s, rfl, KeepsBut.refl _ s⟩
  · have waited' : ¬ (s.running .supplyWait = true ∧ ¬ s.due .supplyWait = true) := fun ⟨runs, early⟩ =>
      waited.elim (fun h => Bool.false_ne_true (h.symm.trans runs)) early
    have run : exec (.releaseStepDone a b c) s = .next (((s.disarm .supplyWait).latchStraps a b c).enterStep 2) := by
      show execReleaseStepDone a b c s = _
      unfold execReleaseStepDone
      rw [step]
      refine congrArg Host.Outcome.next ((if_neg (by rw [cold]; exact Scope.noConfusion)).trans (if_neg waited'))
    refine ⟨_, run, rfl, ?_, ?_, ?_, ?_, (((s.disarm_keeps .supplyWait).append (State.latchStraps_keeps a b c _)).append
      (State.enterStep_keeps 2 _)).weaken (by exact .check rfl)⟩ <;> simp [State.enterStep, State.latchStraps]
  · have run : ∃ t, exec (.releaseStepDone a b c) s = .next t ∧ t.rst.phase = .step (n + 1) ∧ KeepsBut [.rst .phase, .timers] s t := by
      show ∃ t, execReleaseStepDone a b c s = .next t ∧ _
      unfold execReleaseStepDone
      rw [step]
      rcases between with rfl | rfl | rfl
      · exact ⟨_, rfl, rfl, (s.enterStep_keeps 3).weaken (by exact .check rfl)⟩
      · exact ⟨_, rfl, rfl, s.enginesOut_keeps.weaken (by exact .check rfl)⟩
      · exact ⟨_, rfl, rfl, (s.romFeeds_keeps.append (State.enterStep_keeps 9 _)).weaken (by exact .check rfl)⟩
    obtain ⟨t, run, phase, kept⟩ := run
    exact ⟨t, run, phase, kept.weaken (by exact .check rfl)⟩
  · have run : exec (.releaseStepDone a b c) s = .next s.outputsTimed := by
      show execReleaseStepDone a b c s = _
      unfold execReleaseStepDone
      rw [step]
      exact congrArg Host.Outcome.next (State.outputsOut_solo solo still)
    have scan : Ends .scan 5000000 s (s.outputsFreed.sinkReleased.arm .scan 5000000) := State.arm_deadline _ _ _
    have stopped : Stopped .stepBound s.outputsFreed := State.disarm_deadline _ s
    have armed := State.arm_keeps .scan 5000000 s.outputsFreed.sinkReleased
    exact ⟨_, run, rfl, rfl, List.mem_append_right _ List.mem_cons_self, scan.kept (State.romFeeds_keeps _) rfl, State.arm_deadline _ _ _,
      ((stopped.kept (State.sinkReleased_keeps _) rfl).kept armed rfl).kept (State.romFeeds_keeps _) rfl,
      s.outputsTimed_keeps.weaken (by exact .check rfl)⟩
  · have run : exec (.releaseStall false) s = .next { s.assertReset s.rst.scope causeStall false with
        rst.stallStep := n, rst.stalls := satInc 255 (s.assertReset s.rst.scope causeStall false).rst.stalls,
        rst.owed := (s.assertReset s.rst.scope causeStall false).rst.owed ++ [(0x0F0B, [n])] } := by
      show execReleaseStall false s = _
      unfold execReleaseStall
      rw [step, bound]
      dsimp only
      rw [if_neg (show ¬ (n = 5 ∧ false = true ∧ s.rst.scope = .warm ∧ s.upd.phase = .none) from fun h => other h.1)]
      exact congrArg Host.Outcome.next (if_neg (by omega))
    have reset := State.assertReset_again (State.releasing_step step) causeStall
    obtain ⟨cause, scope, first⟩ := Rst.assert_again supply causeStall
    obtain ⟨pending, now, user⟩ := State.assertReset_stands s.rst.scope causeStall false s
    refine ⟨_, run, (congrArg Rst.phase reset).trans first, (congrArg Rst.scope reset).trans scope, (congrArg Rst.cause reset).trans cause, rfl, ?_,
      List.mem_append_right _ (List.mem_singleton.2 rfl), user, pending, now⟩
    have stalls : (s.rst.assert s.rst.scope causeStall true).stalls = s.rst.stalls := rfl
    exact congrArg (satInc 255) ((congrArg Rst.stalls reset).trans stalls)

end Sys2Proof.Machine
end

section
/-! PROOFS. CAN ports (R342, R358 to R365). -/

namespace Sys2Proof.Machine

/-! ## The communication area and its timers (R359 to R362) -/

theorem State.modPort_port (k : Fin 2) (f : CanPort → CanPort) (s : State) : (s.modPort k f).net.port[k] = f s.net.port[k] := vector_set_eq _ _ _

/-- A change of a port that leaves its queue of EMCYs. -/
theorem State.modPort_keeps (k : Fin 2) (f : CanPort → CanPort) (s : State) (emcy : (f s.net.port[k]).emcy = s.net.port[k].emcy) :
    KeepsBut [.net (.port k)] s (s.modPort k f) := by
  refine KeepsBut.write_net (l := [.net (.port k)]) fun g hg _ _ => ?_
  cases g with
  | port j =>
    have other : (k : Nat) ≠ j := fun h => hg (by simp [Fin.ext h])
    have same : (s.modPort k f).net.port[j] = s.net.port[j] := vector_set_getElem_ne fun h => other (congrArg Fin.val h.symm)
    show { (s.modPort k f).net.port[j] with emcy := s.net.port[j].emcy } = s.net.port[j]
    rw [same]
  | emcy j =>
    show (s.modPort k f).net.port[j].emcy = s.net.port[j].emcy
    by_cases h : k = j
    · subst h
      exact (congrArg CanPort.emcy (s.modPort_port k f)).trans emcy
    · exact congrArg CanPort.emcy (vector_set_getElem_ne fun e => h e.symm)
  | forceAll | rwAll | sessAll | storeAll | portAll | pmAll | pmXferAll => trivial
  | _ => exact rfl

theorem Part.each_mem {n k : Nat} (f : Nat → TimerId) (h : k < n) : Part.timer (f k) ∈ Part.each n f :=
  List.mem_map_of_mem (List.mem_range.2 h)

theorem State.arm_keeps_each {n k : Nat} (f : Nat → TimerId) (h : k < n) (d : Nat) (s : State) : KeepsBut (Part.each n f) s (s.arm (f k) d) :=
  (s.arm_keeps (f k) d).weaken fun _ hp => .inl (by rw [List.mem_singleton.1 hp]; exact Part.each_mem f h)

theorem State.disarm_keeps_each {n k : Nat} (f : Nat → TimerId) (h : k < n) (s : State) : KeepsBut (Part.each n f) s (s.disarm (f k)) :=
  (s.disarm_keeps (f k)).weaken fun _ hp => .inl (by rw [List.mem_singleton.1 hp]; exact Part.each_mem f h)

theorem State.startTpdos_keeps (p : Fin 2) (s : State) : KeepsBut (Part.each 4 (.tpdo p)) s (s.startTpdos p) :=
  KeepsBut.each_mem (fun n hn _ => KeepsBut.ite _ (State.arm_keeps_each (.tpdo p) (List.mem_range.1 hn) _ _)
    (State.disarm_keeps_each (.tpdo p) (List.mem_range.1 hn) _)) s

theorem State.stopTpdos_keeps (p : Fin 2) (s : State) : KeepsBut (Part.each 4 (.tpdo p)) s (s.stopTpdos p) :=
  KeepsBut.each_mem (fun _ hn _ => State.disarm_keeps_each (.tpdo p) (List.mem_range.1 hn) _) s

/-- The values of the communication area, its timers aside. -/
theorem State.portRaw_congr {s t : State} (net : t.net = s.net) (meas : t.meas = s.meas) (pins : t.pins = s.pins) : t.portRaw = s.portRaw := by
  have raw : t.raw = s.raw := State.raw_congr (by rw [net]) (by rw [net]) (by rw [meas]) (by rw [pins])
  funext p idx sub
  unfold State.portRaw State.classic
  rw [net, raw]

/-- A port's own values stand while its area and its node-ID do. -/
theorem State.portRaw_modPort (p : Fin 2) {f : CanPort → CanPort} {s : State} (objs : (f s.net.port[p]).objs = s.net.port[p].objs)
    (node : (f s.net.port[p]).node = s.net.port[p].node) : (s.modPort p f).portRaw p = s.portRaw p := by
  have classic : (s.modPort p f).classic p = s.classic p := rfl
  funext idx sub
  unfold State.portRaw
  rw [State.modPort_port, objs, node, classic]

/-- What the TPDOs' starts read, as it stood in a state. -/
def TpdosAs (s t : State) : Prop := t.net = s.net ∧ t.meas = s.meas ∧ t.pins = s.pins ∧ t.now = s.now

theorem TpdosAs.time {s t : State} (h : TpdosAs s t) (p : Fin 2) (n : Nat) : t.tpdoTime p n = s.tpdoTime p n ∧ t.tpdoOn p n = s.tpdoOn p n := by
  obtain ⟨net, meas, pins, -⟩ := h
  unfold State.tpdoTime State.tpdoOn
  rw [State.portRaw_congr net meas pins]
  exact ⟨rfl, rfl⟩

theorem State.startTpdos_ends {p : Fin 2} (n : Fin 4) {s : State} (on : s.tpdoOn p n = true) (timed : s.tpdoTime p n ≠ 0) :
    Ends (.tpdo p n) (s.tpdoTime p n) s (s.startTpdos p) := by
  refine State.each_reaches (I := TpdosAs s) (P := Ends (.tpdo p n) (s.tpdoTime p n) s) (a := n.val) (fun k t h => ?_) (fun t h => ?_) (fun k t h ends => ?_)
    (List.mem_range.2 n.isLt) ⟨rfl, rfl, rfl, rfl⟩
  · split <;> exact h
  · obtain ⟨time, on'⟩ := h.time p n
    rw [if_pos ⟨on'.trans on, by rw [time]; exact timed⟩, time]
    exact (State.arm_deadline _ _ _).trans (by rw [h.2.2.2])
  · by_cases same : k = n.val
    · subst same
      obtain ⟨time, on'⟩ := h.time p n
      rw [if_pos ⟨on'.trans on, by rw [time]; exact timed⟩, time]
      exact (State.arm_deadline _ _ _).trans (by rw [h.2.2.2])
    · have out : Part.outside [.timer (.tpdo p k)] (.timer (.tpdo p n)) = true := by
        have other : (n : Nat) ≠ k := fun e => same e.symm
        simp [Part.outside, Part.whole, other]
      split
      · exact ends.kept (State.arm_keeps _ _ t) out
      · exact ends.kept (State.disarm_keeps _ t) out

theorem State.stopTpdos_stopped {p : Fin 2} (n : Fin 4) (s : State) : Stopped (.tpdo p n) (s.stopTpdos p) := by
  refine State.each_reaches (f := fun k => State.disarm (.tpdo p k)) (I := fun _ => True) (P := Stopped (.tpdo p n)) (a := n.val) (fun _ _ _ => trivial) (fun t _ => State.disarm_deadline _ t)
    (fun k t _ stopped => ?_) (List.mem_range.2 n.isLt) trivial
  by_cases same : k = n.val
  · subst same
    exact State.disarm_deadline _ t
  · have other : (n : Nat) ≠ k := fun e => same e.symm
    exact stopped.kept (State.disarm_keeps (.tpdo p k) t) (by simp [Part.outside, Part.whole, other])

/-! ## A port's states (R358, R359) -/

theorem State.portTo_port (p : Fin 2) (n : Nmt) (s : State) : (s.portTo p n).net.port[p] = { s.net.port[p] with nmt := n } := by
  have net : (s.portTo p n).net = (s.modPort p fun x => { x with nmt := n }).net := by simp [State.portTo]
  rw [net]
  exact State.modPort_port _ _ _

theorem State.portTo_keeps (p : Fin 2) (n : Nmt) (s : State) : KeepsBut (([.net (.port p)] : List Part) ++ Part.each 4 (.tpdo p)) s (s.portTo p n) :=
  (State.modPort_keeps p _ s rfl).append (State.stopTpdos_keeps p _)

theorem State.startHeartbeat_keeps (p : Fin 2) (s : State) : KeepsBut [.timer (.heartbeat p)] s (s.startHeartbeat p) :=
  KeepsBut.ite _ (s.disarm_keeps _) (s.arm_keeps _ _)

theorem State.portOperational_port (p : Fin 2) (s : State) : (s.portOperational p).net.port[p] = { s.net.port[p] with nmt := .operational } := by
  have net : (s.portOperational p).net = (s.modPort p fun x => { x with nmt := .operational }).net := by simp [State.portOperational]
  rw [net]
  exact State.modPort_port _ _ _

theorem State.portOperational_keeps (p : Fin 2) (s : State) :
    KeepsBut (([.net (.port p)] : List Part) ++ Part.each 4 (.tpdo p)) s (s.portOperational p) :=
  (State.modPort_keeps p _ s rfl).append (State.startTpdos_keeps p _)

/-- A port's state after it boots up. -/
def State.bootNmt (s : State) (p : Fin 2) : Nmt := if bit (s.raw 0x2020 6) p then .operational else .preOperational

/-- A port that has booted up, before it may start itself. -/
def State.portBooted (p : Fin 2) (s : State) : State :=
  ((s.modPort p fun x => { x with bootUps := bump x.bootUps }).portTo p .preOperational).startHeartbeat p

theorem State.portBooted_keeps (p : Fin 2) (s : State) :
    KeepsBut (([.net (.port p), .timer (.heartbeat p)] : List Part) ++ Part.each 4 (.tpdo p)) s (s.portBooted p) :=
  (((State.modPort_keeps p _ s rfl).append (State.portTo_keeps p .preOperational _)).append (State.startHeartbeat_keeps p _)).weaken
    (by apply Part.Within.checkAt p; rfl)

theorem State.portBooted_port (p : Fin 2) (s : State) :
    (s.portBooted p).net.port[p] = { s.net.port[p] with bootUps := bump s.net.port[p].bootUps, nmt := .preOperational } := by
  have net : (s.portBooted p).net = ((s.modPort p fun x => { x with bootUps := bump x.bootUps }).portTo p .preOperational).net := by
    simp [State.portBooted]
  rw [net, State.portTo_port, State.modPort_port]

theorem State.bootUp_eq (p : Fin 2) (s : State) :
    s.bootUp p = if bit (s.raw 0x2020 6) p then (s.portBooted p).portOperational p else s.portBooted p := by
  have raw : (s.portBooted p).raw = s.raw :=
    State.raw_congr (by simp [State.portBooted, State.portTo, State.modPort]) (by simp [State.portBooted, State.portTo, State.modPort])
      (by simp [State.portBooted]) (by simp [State.portBooted])
  show (if bit ((s.portBooted p).raw 0x2020 6) p then (s.portBooted p).portOperational p else s.portBooted p) = _
  rw [raw]

theorem State.bootUp_port (p : Fin 2) (s : State) :
    (s.bootUp p).net.port[p] = { s.net.port[p] with bootUps := bump s.net.port[p].bootUps, nmt := s.bootNmt p } := by
  rw [State.bootUp_eq]
  unfold State.bootNmt
  split
  · rw [State.portOperational_port, State.portBooted_port]
  · exact State.portBooted_port p s

theorem State.bootUp_keeps (p : Fin 2) (s : State) :
    KeepsBut (([.net (.port p), .timer (.heartbeat p)] : List Part) ++ Part.each 4 (.tpdo p)) s (s.bootUp p) := by
  rw [State.bootUp_eq]
  exact KeepsBut.ite _ (((s.portBooted_keeps p).append (State.portOperational_keeps p _)).weaken (by apply Part.Within.checkAt p; rfl))
    (s.portBooted_keeps p)

/-! ## A port that is reset (R358, R360) -/

theorem State.sessionEnded_values (w : Session) (s : State) : (s.sessionEnded w).net.store = s.net.store ∧
    (s.sessionEnded w).net.force = s.net.force ∧ (s.sessionEnded w).net.rw = s.net.rw := by
  unfold State.sessionEnded
  split <;> exact ⟨rfl, rfl, rfl⟩

/-- What an ended session leaves of what a port's reset reads. -/
theorem State.endSession_stands (w : Session) (asked : Bool) (p : Fin 2) (s : State) :
    (s.endSession w asked).storedObjs p = s.storedObjs p ∧ (s.endSession w asked).raw = s.raw ∧
      ((s.endSession w asked).net.port[p]).bootUps = (s.net.port[p]).bootUps := by
  have kept := s.endSession_keeps w asked
  have port : { (s.endSession w asked).net.port[p] with emcy := s.net.port[p].emcy } = s.net.port[p] :=
    kept.get (.net (.port p)) (by cases w <;> (apply Part.outsideAt p; rfl))
  obtain ⟨store, force, rw_⟩ : (s.endSession w asked).net.store = s.net.store ∧ (s.endSession w asked).net.force = s.net.force ∧
      (s.endSession w asked).net.rw = s.net.rw := by
    rw [State.endSession_eq]
    split
    · exact s.sessionEnded_values w
    · simpa using s.sessionEnded_values w
  refine ⟨?_, State.raw_congr force rw_ (by simp) (by simp), (congrArg CanPort.bootUps port :)⟩
  unfold State.storedObjs Net.newestCopy
  rw [store]

theorem State.endSession_observer (w : Session) (asked : Bool) (s : State) : ((s.endSession w asked).net.sess[sessIx w]).role = .observer := by
  obtain ⟨role, -⟩ := s.sessionEnded_net w
  rw [State.endSession_eq]
  split
  · exact role
  · simpa using role

/-- A port with its stored communication area and its node-ID. -/
def State.portLoaded (p : Fin 2) (s : State) : State := s.modPort p fun x => { x with objs := s.storedObjs p, node := s.nodeSetting p }

theorem State.portReset (p : Fin 2) (s : State) :
    ((s.nmtReset p).net.port[p]).objs = s.storedObjs p ∧ ((s.nmtReset p).net.port[p]).node = s.nodeSetting p ∧
      ((s.nmtReset p).net.port[p]).bootUps = bump (s.net.port[p]).bootUps ∧ ((s.nmtReset p).net.port[p]).nmt = s.bootNmt p ∧
      ((s.nmtReset p).net.sess[sessIx (portSession p)]).role = .observer ∧
      KeepsBut (([.net (.sess (sessIx (portSession p))), .net .shadow, .net .claim, .net (.port p), .timer (.heartbeat p)] : List Part) ++
        Part.each 4 (.tpdo p) ++ Part.raised) s (s.nmtReset p) := by
  obtain ⟨objs, raw, boots⟩ := s.endSession_stands (portSession p) false p
  have loaded : ((s.endSession (portSession p) false).portLoaded p).net.port[p] = { (s.endSession (portSession p) false).net.port[p] with
      objs := (s.endSession (portSession p) false).storedObjs p, node := (s.endSession (portSession p) false).nodeSetting p } := State.modPort_port _ _ _
  have port : (s.nmtReset p).net.port[p] = _ := State.bootUp_port p ((s.endSession (portSession p) false).portLoaded p)
  rw [loaded] at port
  have again : ((s.endSession (portSession p) false).portLoaded p).raw = s.raw := raw
  have booted := State.bootUp_keeps p ((s.endSession (portSession p) false).portLoaded p)
  have sess := booted.get (.net (.sess (sessIx (portSession p)))) (by apply Part.outsideAt p; rfl)
  rw [port]
  refine ⟨objs, ?_, congrArg bump boots, ?_, (congrArg Sess.role sess).trans (s.endSession_observer (portSession p) false),
    (((s.endSession_keeps (portSession p) false).append (State.modPort_keeps p _ _ rfl)).append booted).weaken (by apply Part.Within.checkAt p; rfl)⟩
  · show (s.endSession (portSession p) false).nodeSetting p = s.nodeSetting p
    unfold State.nodeSetting
    rw [raw]
  · show ((s.endSession (portSession p) false).portLoaded p).bootNmt p = s.bootNmt p
    unfold State.bootNmt
    rw [again]

/-! ## Mapped values (R342) -/

theorem lookup_dropKey_self (k : Nat) (l : List (Nat × Nat)) : (dropKey k l).lookup k = none := by
  unfold dropKey
  induction l with
  | nil => rfl
  | cons a l ih =>
    by_cases h : a.1 = k
    · simpa [h] using ih
    · obtain ⟨i, x⟩ := a
      have other : (k == i) = false := by simpa using fun e => h e.symm
      simpa [List.lookup, h, other] using ih

theorem lookup_putKey_self (k v : Nat) (l : List (Nat × Nat)) : (putKey k v l).lookup k = some v := by
  induction l with
  | nil => simp [putKey]
  | cons a l ih =>
    obtain ⟨i, x⟩ := a
    unfold putKey
    split
    · simp
    · split
      · simp
      · next other =>
        have other' : (k == i) = false := by simpa using other
        simpa [List.lookup, other'] using ih

/-- The value that a write puts in force. -/
theorem State.setForce_value {idx : Nat} (plain : isCalObject idx = false) (sub v : Nat) (s : State) :
    ((s.setForce idx sub v).net.force.lookup (objKey idx sub)).getD (s.default idx sub) = v := by
  unfold State.setForce
  dsimp only
  rw [plain]
  show ((if v = s.default idx sub then dropKey _ s.net.force else putKey _ v s.net.force).lookup _).getD _ = v
  split
  next same => rw [lookup_dropKey_self, Option.getD_none, same]
  next other => rw [lookup_putKey_self, Option.getD_some]

theorem State.setForce_keeps {idx : Nat} (plain : isCalObject idx = false) (sub v : Nat) (s : State) :
    KeepsBut [.net .forceAll] s (s.setForce idx sub v) := by
  unfold State.setForce
  dsimp only
  rw [plain]
  exact (KeepsBut.write_net (l := [.net .forceAll]) fun f _ hw _ => by
      cases f with
      | force => simp [Part.whole, NetPart.whole] at hw  | forceAll | rwAll | sessAll | storeAll | portAll | pmAll | pmXferAll => trivial
      | _ => exact rfl)

theorem State.rehash_keeps (s : State) : KeepsBut [.net .commit] s s.rehash := (KeepsBut.write_net (l := [.net .commit]) fun f hf _ _ => by
    cases f with
    | commit => simp at hf  | forceAll | rwAll | sessAll | storeAll | portAll | pmAll | pmXferAll => trivial | _ => exact rfl)

theorem State.forward_keeps (idx sub : Nat) (d : List Byte) (s : State) : KeepsBut [.twin .sent] s (s.forward idx sub d) :=
  KeepsBut.ite _ (State.launch_keeps _ s) (KeepsBut.refl _ s)

/-- An RPDO of one setting that takes effect without a commit. -/
theorem State.rpdoWrites_one {p : Fin 2} {e : Nat} {d : List Byte} {s : State}
    (pass : s.checkWrite none s.rpdoRole (entryIndex e) (entrySub e) (d.take (entryBits e / 8)) none false none = .pass)
    (access : (findObj (entryIndex e) (entrySub e)).map ObjRow.access = some .rws) (port : perPort (entryIndex e) = false)
    (single : (singleWrite none s.rpdoRole (entryIndex e) (entrySub e)).isNone = true) (bank : (bankWrite (entryIndex e) (entrySub e)).isNone = true) :
    s.rpdoWrites p [e] d = ((s.setForce (entryIndex e) (entrySub e) (leValue (d.take (entryBits e / 8)))).rehash).forward (entryIndex e) (entrySub e)
      (d.take (entryBits e / 8)) := by
  have own : ownWrite p none s.rpdoRole (entryIndex e) (entrySub e) = rwsWrite (entryIndex e) (entrySub e) fun _ s => s := by
    unfold ownWrite
    rw [port, Option.isNone_iff_eq_none.1 single, Option.isNone_iff_eq_none.1 bank]
    simp [plainWrite, access]
  show (s.writeAs none s.rpdoRole (entryIndex e) (entrySub e) (d.take (entryBits e / 8)) (ownWrite p none s.rpdoRole (entryIndex e) (entrySub e))).2 = _
  rw [own]
  unfold State.writeAs
  dsimp only [rwsWrite]
  rw [pass]

/-! ## A TPDO that is sent (R362) -/

/-- A TPDO sent, before its event time runs again. -/
def State.tpdoSent (p : Fin 2) (n : Fin 4) (s : State) : State :=
  (s.disarm (.tpdo p n)).modPort p fun x => { x with tpdo := some (n.val + 1, (s.disarm (.tpdo p n)).pdoData p (s.mapped p (0x1A00 + n))) }

/-! ## A code raised before a session's end -/

theorem Raised.endSession {c i : Nat} {v : List Nat} {s a : State} (h : Raised c i v s a) (at_ : isEvent c = false → a.net.batchAt = a.tb.tod / 1000)
    (w : Session) (asked : Bool) : Raised c i v s (a.endSession w asked) := by
  have ended := a.sessionEnded_keeps w
  have kept : Raised c i v s (a.sessionEnded w) :=
    h.keep (ended.get (.evr .staging) (by cases w <;> rfl)) (ended.get (.net .batch) (by cases w <;> rfl))
  have batch : (a.sessionEnded w).net.batchAt = a.net.batchAt := ended.get (.net .batchAt) (by cases w <;> rfl)
  have tod : (a.sessionEnded w).tb.tod = a.tb.tod := ended.get (.tb .tod) (by cases w <;> rfl)
  rw [State.endSession_eq]
  split
  · exact kept
  · exact kept.raise (fun code => by rw [batch, tod]; exact at_ code) _ _ _

/-- Settles O31: the ports follow NMT, take and send process data, and end their sessions with a reset or a bus-off. -/
theorem canPortsFollowNmtAndPdos : Obligations.CanPortsFollowNmtAndPdos := by
  unfold Obligations.CanPortsFollowNmtAndPdos
  refine ⟨fun p s live other => ?_, fun p s live => ?_, fun p s live => ?_, fun p s live => ?_, fun p s live => ?_,
    fun p n e d s runs enabled mapped long pass access port cal single bank => ?_, fun p n s due runs on => ?_, fun p s due live timed => ?_,
    fun p n s live time node => ?_, fun p s live => ?_, fun p s up off => ?_⟩
  · refine ⟨_, congrArg Host.Outcome.next (if_pos ⟨live, other⟩), congrArg CanPort.nmt (s.portOperational_port p), fun n on timed => ?_,
      s.portOperational_keeps p⟩
    have raw := State.portRaw_modPort p (f := fun x => { x with nmt := .operational }) (s := s) rfl rfl
    have time : (s.modPort p fun x => { x with nmt := .operational }).tpdoTime p n = s.tpdoTime p n := by
      unfold State.tpdoTime
      rw [raw]
    have on' : (s.modPort p fun x => { x with nmt := .operational }).tpdoOn p n = s.tpdoOn p n := by
      unfold State.tpdoOn
      rw [raw]
    rw [← time]
    exact State.startTpdos_ends n (on'.trans on) (by rw [time]; exact timed)
  · exact ⟨_, congrArg Host.Outcome.next (if_pos live), congrArg CanPort.nmt (s.portTo_port p .stopped), fun n => State.stopTpdos_stopped n _,
      s.portTo_keeps p .stopped⟩
  · exact ⟨_, congrArg Host.Outcome.next (if_pos live), congrArg CanPort.nmt (s.portTo_port p .preOperational), fun n => State.stopTpdos_stopped n _,
      s.portTo_keeps p .preOperational⟩
  · exact ⟨_, congrArg Host.Outcome.next (if_pos live), s.portReset p⟩
  · exact ⟨_, congrArg Host.Outcome.next (if_pos live), s.portReset p⟩
  · have run : exec (.rpdoReceived p n d) s = .next (((s.setForce (entryIndex e) (entrySub e) (leValue (d.take (entryBits e / 8)))).rehash).forward
        (entryIndex e) (entrySub e) (d.take (entryBits e / 8))) := by
      show execRpdoReceived p n d s = _
      unfold execRpdoReceived
      dsimp only
      rw [mapped, State.rpdoWrites_one pass access port single bank, if_neg]
      simp only [runs, enabled, List.map_cons, List.map_nil, List.sum_cons, List.sum_nil, not_true_eq_false, Bool.false_eq_true, false_or]
      omega
    have later := (State.rehash_keeps (s.setForce (entryIndex e) (entrySub e) (leValue (d.take (entryBits e / 8))))).append
      (State.forward_keeps (entryIndex e) (entrySub e) (d.take (entryBits e / 8)) _)
    refine ⟨_, run, ?_, ?_, ((State.setForce_keeps cal _ _ s).append later).weaken (by exact .check rfl)⟩
    · rw [show _ = _ from later.get (.net (.force (objKey (entryIndex e) (entrySub e)))) rfl]
      exact State.setForce_value cal _ _ s
    · exact (later.get (.net .shadow) rfl).trans ((State.setForce_keeps cal _ _ s).get (.net .shadow) rfl)
  · have sent := State.modPort_port p (fun x => { x with tpdo := some (n.val + 1, (s.disarm (.tpdo p n)).pdoData p (s.mapped p (0x1A00 + n))) })
      (s.disarm (.tpdo p n))
    have raw := State.portRaw_modPort p (s := s.disarm (.tpdo p n))
      (f := fun x => { x with tpdo := some (n.val + 1, (s.disarm (.tpdo p n)).pdoData p (s.mapped p (0x1A00 + n))) }) rfl rfl
    have time : (s.tpdoSent p n).tpdoTime p n = s.tpdoTime p n := congrArg (fun f : Nat → Nat → Nat => 1000000 * f (0x1800 + n) 5) raw
    have sends : KeepsBut [.timer (.tpdo p n), .net (.port p)] s (s.tpdoSent p n) := (s.disarm_keeps _).append (State.modPort_keeps p _ _ rfl)
    have first : ¬ (¬ (s.disarm (.tpdo p n)).pdosRun p = true ∨ ¬ (s.disarm (.tpdo p n)).tpdoOn p n = true) := not_or.2 ⟨not_not.2 runs, not_not.2 on⟩
    have run : exec (.tpdoEvent p n) s = .next (if (s.tpdoSent p n).tpdoTime p n = 0 then s.tpdoSent p n
        else (s.tpdoSent p n).arm (.tpdo p n) ((s.tpdoSent p n).tpdoTime p n)) :=
      congrArg Host.Outcome.next ((if_neg (not_not.2 due)).trans (if_neg first))
    rw [time] at run
    refine ⟨_, run, ?_, fun timed => ?_, KeepsBut.ite _ sends ((sends.append (State.arm_keeps _ _ _)).weaken fun q hq => .inl (by simp only [List.cons_append, List.nil_append, List.mem_cons, List.not_mem_nil, or_false] at hq ⊢; tauto))⟩
    · split <;> exact congrArg CanPort.tpdo sent
    · rw [if_neg timed]
      exact State.arm_deadline _ _ _
  · have beats := State.modPort_port p (fun x => { x with heartbeats := bump x.heartbeats }) s
    have raw := State.portRaw_modPort p (f := fun x => { x with heartbeats := bump x.heartbeats }) (s := s) rfl rfl
    have run : exec (.heartbeatProduce p) s = .next ((s.modPort p fun x => { x with heartbeats := bump x.heartbeats }).arm (.heartbeat p)
        (1000000 * s.portRaw p 0x1017 0)) := by
      refine congrArg Host.Outcome.next ((if_pos ⟨due, live⟩).trans ?_)
      unfold State.startHeartbeat
      rw [raw]
      exact if_neg (by omega)
    exact ⟨_, run, congrArg CanPort.heartbeats beats, State.arm_deadline _ _ _, (State.modPort_keeps p _ s rfl).append (State.arm_keeps _ _ _)⟩
  · exact ⟨_, congrArg Host.Outcome.next (if_pos ⟨live, time, node⟩), State.raise_raised _ _ _ rfl, State.raise_keepsBut _ _ _ s⟩
  · have run : exec (.canBusOff p) s = .next ((((((s.raise 0x0D0D p []).endSession (portSession p) false).stopTpdos p).disarm (.heartbeat p)).modPort p
        fun x => { x with busOff := true })) := congrArg Host.Outcome.next (if_neg (not_not.2 live))
    have ended := State.endSession_keeps (portSession p) false (s.raise 0x0D0D p [])
    have stops := State.stopTpdos_keeps p ((s.raise 0x0D0D p []).endSession (portSession p) false)
    have quiet := State.disarm_keeps (.heartbeat p) (((s.raise 0x0D0D p []).endSession (portSession p) false).stopTpdos p)
    have off := State.modPort_keeps p (fun x => { x with busOff := true })
      ((((s.raise 0x0D0D p []).endSession (portSession p) false).stopTpdos p).disarm (.heartbeat p)) rfl
    have later := (stops.append quiet).append off
    have raised : Raised 0x0D0D p [] s ((s.raise 0x0D0D p []).endSession (portSession p) false) :=
      Raised.endSession (State.raise_raised _ _ _ rfl) (fun code => State.raise_batchAt _ _ _ s code) _ _
    have sess := later.get (.net (.sess (sessIx (portSession p)))) (by apply Part.outsideAt p; rfl)
    exact ⟨_, run, congrArg CanPort.busOff (State.modPort_port p _ _), raised.keep (later.get (.evr .staging) (by apply Part.outsideAt p; rfl))
      (later.get (.net .batch) (by apply Part.outsideAt p; rfl)), (congrArg Sess.role sess).trans (State.endSession_observer (portSession p) false _),
      Stopped.kept (State.disarm_deadline _ _) off (by apply Part.outsideAt p; rfl),
      fun n => ((State.stopTpdos_stopped n _).kept quiet (by apply Part.outsideAt p; rfl)).kept off (by apply Part.outsideAt p; rfl),
      (((State.raise_keepsBut _ _ _ s).append ended).append later).weaken (by apply Part.Within.checkAt p; rfl)⟩
  · have freed : (s.modPort p fun x => { x with busOff := false }).net.port[p] = { s.net.port[p] with busOff := false } := State.modPort_port _ _ _
    have port := State.bootUp_port p (s.modPort p fun x => { x with busOff := false })
    rw [freed] at port
    exact ⟨_, congrArg Host.Outcome.next (if_pos ⟨up, off⟩), congrArg CanPort.busOff port, congrArg CanPort.bootUps port, congrArg CanPort.nmt port,
      ((State.modPort_keeps p _ s rfl).append (State.bootUp_keeps p _)).weaken (by apply Part.Within.checkAt p; rfl)⟩

end Sys2Proof.Machine
end

section
/-! PROOFS. Segmented transfers and the error field (R356, R481, R482). -/

namespace Sys2Proof.Machine

theorem State.sdoTransfer_keeps (p : Fin 2) (x : Option Transfer) (s : State) :
    KeepsBut [.net (.sess (sessIx (portSession p))), .timer (.segment (↑(sessIx (portSession p))))] s (State.sdoTransfer p x s) := by
  unfold State.sdoTransfer
  dsimp only
  exact KeepsBut.ite _ (KeepsBut.weaken (KeepsBut.after (State.arm_keeps _ _ _) (State.modSess_keeps _ _ _)) (by apply Part.Within.checkAt p; rfl))
      (KeepsBut.weaken (KeepsBut.after (State.disarm_keeps _ _) (State.modSess_keeps _ _ _)) (by apply Part.Within.checkAt p; rfl))

/-! ## Segmented transfers (R356) -/

/-- A session that is served out of recovery reaches the dictionary. -/
theorem State.access_open {w : Session} {s : State} (serves : s.serves w = true) (out : s.rst.phase ≠ .recovery) (idx : Nat) (f : State → State) :
    s.access w idx f = f (s.touch w) :=
  (if_neg (not_not.2 serves)).trans (if_neg fun h => out h.1)

theorem State.sdoTransfer_sess (p : Fin 2) (x : Option Transfer) (s : State) :
    ((s.sdoTransfer p x).net.sess[sessIx (portSession p)]) = { s.net.sess[sessIx (portSession p)] with transfer := x } := by
  have net : (s.sdoTransfer p x).net = (s.modSess (sessIx (portSession p)) fun y => { y with transfer := x }).net := by
    unfold State.sdoTransfer
    dsimp only
    split <;> rfl
  rw [net]
  exact State.modSess_sess _ _ s

theorem State.sdoTransfer_ends (p : Fin 2) (x : Transfer) (s : State) :
    Ends (.segment (sessIx (portSession p))) 1000000000 s (s.sdoTransfer p (some x)) := State.arm_deadline _ _ _

theorem State.sdoTransfer_stops (p : Fin 2) (s : State) : Stopped (.segment (sessIx (portSession p))) (s.sdoTransfer p none) :=
  State.disarm_deadline _ _

/-- A transfer's new state and the answer to its segment. -/
theorem State.sdoAnswered (p : Fin 2) (x : Option Transfer) (a : Answer) (s : State) :
    (((s.sdoTransfer p x).answer (portSession p) a).net.sess[sessIx (portSession p)]).transfer = x ∧
      Answered (portSession p) a ((s.sdoTransfer p x).answer (portSession p) a) ∧
      (∀ y, x = some y → Ends (.segment (sessIx (portSession p))) 1000000000 s ((s.sdoTransfer p x).answer (portSession p) a)) ∧
      (x = none → Stopped (.segment (sessIx (portSession p))) ((s.sdoTransfer p x).answer (portSession p) a)) ∧
      KeepsBut [.net (.sess (sessIx (portSession p))),
          .timer (.segment (sessIx (portSession p)))] s ((s.sdoTransfer p x).answer (portSession p) a) := by
  have answers := State.answer_keeps (portSession p) a (s.sdoTransfer p x)
  have held : ((s.sdoTransfer p x).net.sess[sessIx (portSession p)]).transfer = x := congrArg Sess.transfer (s.sdoTransfer_sess p x)
  have transfer : (((s.sdoTransfer p x).answer (portSession p) a).net.sess[sessIx (portSession p)]).transfer = x :=
    (congrArg Sess.transfer (State.answer_sess (portSession p) a (s.sdoTransfer p x))).trans held
  refine ⟨transfer, State.answer_answered _ _ _, fun y h => ?_, fun h => ?_,
    ((s.sdoTransfer_keeps p x).append answers).weaken (by apply Part.Within.checkAt p; rfl)⟩
  · subst h
    exact (s.sdoTransfer_ends p y).kept answers (by apply Part.outsideAt p; rfl)
  · subst h
    exact (s.sdoTransfer_stops p).kept answers (by apply Part.outsideAt p; rfl)

/-! ## The error field (R481, R482) -/

theorem State.registerChanged_keeps (s : State) : KeepsBut [.timer (.tpdo 0 2), .timer (.tpdo 1 2)] s s.registerChanged :=
  KeepsBut.each (fun p _ => KeepsBut.ite _ (State.armAt_keepsBut (by fin_cases p <;> simp) _ _) (KeepsBut.refl _ _)) _ s

/-- The parts of 0x1003 and of the EMCYs. -/
def Part.errorField : List Part := [.net .errs, .net .batch, .net (.emcy 0), .net (.emcy 1), .timer (.tpdo 0 2), .timer (.tpdo 1 2)]

/-- 0x1003 with the batch in it, before the register's change. -/
theorem State.flushBatch_errs (s : State) : s.flushBatch.net.batch = [] ∧ s.flushBatch.net.errs = enterBatch s.net.batch s.net.errs := ⟨rfl, rfl⟩

theorem State.flushBatch_keeps (s : State) : KeepsBut Part.errorField s s.flushBatch := by
  have changed : KeepsBut Part.errorField s
      (if errorRegister (enterBatch s.net.batch s.net.errs) = errorRegister s.net.errs then s else s.registerChanged) :=
    KeepsBut.ite _ (KeepsBut.refl _ s) (s.registerChanged_keeps.weaken (by exact .check rfl))
  refine changed.trans (KeepsBut.of_net fun f hf _ => ?_)
  cases f with
  | port k => simpa only [NetPart.same, Fin.getElem_fin, Vector.getElem_map] using CanPort.same_but_emcy_ite _ _ _
  | emcy k => fin_cases k <;> simp [Part.errorField] at hf
  | batch | errs => simp [Part.errorField] at hf
  | _ => simp [NetPart.same]

theorem State.errorsClear_keeps (s : State) :
    KeepsBut [.net .errs, .net (.emcy 0), .net (.emcy 1), .timer (.tpdo 0 2), .timer (.tpdo 1 2)] s s.errorsClear := by
  have changed : KeepsBut [.net .errs, .net (.emcy 0), .net (.emcy 1), .timer (.tpdo 0 2), .timer (.tpdo 1 2)] s
      (if s.net.errs = [] then s else s.registerChanged) :=
    KeepsBut.ite _ (KeepsBut.refl _ s) (s.registerChanged_keeps.weaken (by exact .check rfl))
  refine changed.trans (KeepsBut.of_net fun f hf _ => ?_)
  cases f with
  | port k => simpa only [NetPart.same, Fin.getElem_fin, Vector.getElem_map] using CanPort.same_but_emcy_ite _ _ _
  | emcy k => fin_cases k <;> simp at hf
  | errs => simp at hf
  | _ => simp [NetPart.same]

theorem State.errorsClear_emcy {p : Fin 2} {s : State} (operational : (s.net.port[p]).nmt = .operational) (room : (s.net.port[p]).emcy.length < 16) :
    (s.errorsClear.net.port[p]).emcy = (s.net.port[p]).emcy ++ [⟨0, 0, 0, 0⟩] := by
  have net : (if s.net.errs = [] then s else s.registerChanged).net.port = s.net.port := by split <;> simp
  unfold State.errorsClear
  simp only [Fin.getElem_fin, Vector.getElem_map, net]
  rw [if_pos ⟨operational, room⟩]

theorem enterBatch_bounds {batch : List ErrEntry} (some_ : batch ≠ []) (errs : List ErrEntry) :
    enterBatch batch errs ≠ [] ∧ (enterBatch batch errs).length ≤ 16 := by
  refine ⟨fun none_ => ?_, by simp [enterBatch]⟩
  simp [enterBatch, some_] at none_

/-- A change of a port and of its queue. -/
theorem State.modPort_keeps_queue (k : Fin 2) (f : CanPort → CanPort) (s : State) : KeepsBut [.net (.port k), .net (.emcy k)] s (s.modPort k f) := by
  refine KeepsBut.write_net (l := [.net (.port k), .net (.emcy k)]) fun g hg _ _ => ?_
  have same : ∀ j, j ≠ k → (s.modPort k f).net.port[j] = s.net.port[j] := fun j h => vector_set_getElem_ne h
  cases g with
  | port j =>
    show { (s.modPort k f).net.port[j] with emcy := s.net.port[j].emcy } = s.net.port[j]
    rw [same j fun h => hg (by simp [h])]
  | emcy j => exact congrArg CanPort.emcy (same j fun h => hg (by simp [h]))
  | forceAll | rwAll | sessAll | storeAll | portAll | pmAll | pmXferAll => trivial
  | _ => exact rfl

/-- Settles O32: segmented transfers, the fault batch, the EMCYs and the clearing of 0x1003. -/
theorem sdoTransfersAndErrorField : Obligations.SdoTransfersAndErrorField := by
  unfold Obligations.SdoTransfersAndErrorField
  refine ⟨fun p idx sub d s serves out reads => ?_, fun p idx sub s serves out => ?_, fun p n x s serves out has read last => ?_,
    fun p d x s serves out has write => ?_, fun p s due has => ?_, fun s some_ over_ => ?_, fun p e l s runs inhibit queue => ?_, fun w s a => ?_⟩
  · have run : exec (.sdoSegment p (.beginRead idx sub)) s = .next (((s.touch (portSession p)).sdoTransfer p
        (some { write := false, key := objKey idx sub, bytes := d })).answer (portSession p) .done) := by
      refine congrArg Host.Outcome.next ((State.access_open serves out idx _).trans ?_)
      unfold State.sdoBeginRead
      rw [reads]
    obtain ⟨transfer, answered, ends, -, kept⟩ := (s.touch (portSession p)).sdoAnswered p (some { write := false, key := objKey idx sub, bytes := d }) .done
    exact ⟨_, run, transfer, answered, ends _ rfl, ((s.touch_keeps (portSession p)).append kept).weaken (by apply Part.Within.checkAt p; rfl)⟩
  · have run : exec (.sdoSegment p (.beginWrite idx sub)) s = .next (((s.touch (portSession p)).sdoTransfer p
        (some { write := true, key := objKey idx sub })).answer (portSession p) .done) :=
      congrArg Host.Outcome.next (State.access_open serves out idx _)
    obtain ⟨transfer, answered, ends, -, kept⟩ := (s.touch (portSession p)).sdoAnswered p (some { write := true, key := objKey idx sub }) .done
    exact ⟨_, run, transfer, answered, ends _ rfl, ((s.touch_keeps (portSession p)).append kept).weaken (by apply Part.Within.checkAt p; rfl)⟩
  · have run : exec (.sdoSegment p (.read n)) s = .next (((s.touch (portSession p)).sdoTransfer p none).answer (portSession p)
        (.data ((x.bytes.drop x.offset).take n))) := by
      show execSdoSegment p (.read n) s = _
      unfold execSdoSegment
      dsimp only
      rw [has]
      refine congrArg Host.Outcome.next ((State.access_open serves out _ _).trans ?_)
      unfold State.sdoStep
      rw [read]
      exact congrArg (fun y => ((s.touch (portSession p)).sdoTransfer p y).answer (portSession p) _) (if_pos last)
    obtain ⟨transfer, answered, -, stops, kept⟩ := (s.touch (portSession p)).sdoAnswered p none (.data ((x.bytes.drop x.offset).take n))
    exact ⟨_, run, answered, transfer, stops rfl, ((s.touch_keeps (portSession p)).append kept).weaken (by apply Part.Within.checkAt p; rfl)⟩
  · have run : exec (.sdoSegment p (.write d false)) s = .next (((s.touch (portSession p)).sdoTransfer p
        (some { x with bytes := x.bytes ++ d, offset := (x.bytes ++ d).length })).answer (portSession p) .done) := by
      show execSdoSegment p (.write d false) s = _
      unfold execSdoSegment
      dsimp only
      rw [has]
      refine congrArg Host.Outcome.next ((State.access_open serves out _ _).trans ?_)
      unfold State.sdoStep
      rw [write]
      exact if_neg Bool.false_ne_true
    obtain ⟨transfer, answered, ends, -, kept⟩ :=
      (s.touch (portSession p)).sdoAnswered p (some { x with bytes := x.bytes ++ d, offset := (x.bytes ++ d).length }) .done
    exact ⟨_, run, answered, transfer, ends _ rfl, ((s.touch_keeps (portSession p)).append kept).weaken (by apply Part.Within.checkAt p; rfl)⟩
  · obtain ⟨transfer, answered, -, stops, kept⟩ := s.sdoAnswered p none (.abort 0x05040000)
    exact ⟨_, congrArg Host.Outcome.next (if_pos ⟨due, has⟩), transfer, answered, stops rfl, kept⟩
  · obtain ⟨batch, errs⟩ := s.flushBatch_errs
    obtain ⟨some', most⟩ := enterBatch_bounds some_ s.net.errs
    exact ⟨_, congrArg Host.Outcome.next (if_pos ⟨some_, over_⟩), batch, errs, by rw [errs]; exact some', by rw [errs]; exact most, s.flushBatch_keeps⟩
  · have ready : (s.pdosRun p && (!s.running (.emcy p) || s.due (.emcy p))) = true := by
      rw [runs]
      rcases inhibit with free | due
      · rw [free]
        rfl
      · rw [due]
        simp
    have run : exec (.emcyTransmit p) s = .next ((s.modPort p fun x => { x with emcy := l, sentEmcy := some e }).arm (.emcy p) (s.inhibit p)) := by
      show execEmcyTransmit p s = _
      unfold execEmcyTransmit
      rw [ready, queue]
    have port := State.modPort_port p (fun x => { x with emcy := l, sentEmcy := some e }) s
    exact ⟨_, run, congrArg CanPort.emcy port, congrArg CanPort.sentEmcy port, State.arm_deadline _ _ _,
      ((State.modPort_keeps_queue p _ s).append (State.arm_keeps _ _ _)).weaken (by apply Part.Within.checkAt p; rfl)⟩
  · have run : exec (.errorFieldClear w) s = .next ((s.touch w).errorsClear.answer w .done) :=
      congrArg Host.Outcome.next (State.writeBy_local a (forwards_commands (0x1003, 0) (by simp)) rfl rfl rfl rfl rfl)
    have later := State.answer_keeps w .done (s.touch w).errorsClear
    refine ⟨_, run, State.answer_answered _ _ _, later.get (.net .errs) (by cases w <;> rfl), fun p operational room => ?_,
      ((s.touch w).errorsClear_keeps.write .done).weaken (by cases w <;> exact .check rfl)⟩
    exact (later.get (.net (.emcy p)) (by cases w <;> (apply Part.outsideAt p; rfl))).trans (State.errorsClear_emcy operational room)

end Sys2Proof.Machine
end

section
/-! PROOFS. Spares (R115 to R120, R127). -/

namespace Sys2Proof.Machine

theorem State.goHome_keeps (k : Fin 48) (s : State) :
    KeepsBut [.meas (.ch k)] s (State.goHome k s) := by
  unfold State.goHome
  exact KeepsBut.ite _ (KeepsBut.weaken (State.modCh_keeps _ _ _) (by apply Part.Within.checkAt k; rfl)) (KeepsBut.refl _ _)

theorem State.endSlot_keeps (x : Fin 4) (redo : Bool) (s : State) :
    KeepsBut [.meas (.slots x), .meas .chAll] s (State.endSlot x redo s) := by
  unfold State.endSlot
  dsimp only
  exact KeepsBut.weaken (KeepsBut.after (KeepsBut.whole (m := [.meas .chAll]) (State.goHome_keeps _ _) rfl) (KeepsBut.after
      (KeepsBut.whole (m := [.meas .chAll]) (State.modCh_keeps _ _ _) rfl) (State.modSlot_keeps _ _ _))) (by apply Part.Within.checkAt x; rfl)

theorem State.abortSwap_keeps (x : Fin 4) (s : State) :
    KeepsBut (([.meas .swapAborts, .meas (.slots x), .meas .chAll] : List Part) ++ Part.raised) s (State.abortSwap x s) := by
  unfold State.abortSwap
  dsimp only
  exact KeepsBut.weaken (KeepsBut.after (KeepsBut.whole (m := [.meas .chAll]) (State.modCh_keeps _ _ _) rfl)
      (KeepsBut.after (State.endSlot_keeps _ _ _) (KeepsBut.after (State.raise_keepsBut _ _ _ _) (KeepsBut.write_meas (l := [.meas .swapAborts])
      fun f hf _ _ => by
      cases f with
      | swapAborts => simp at hf | chAll | moduAll | slotsAll | pairFailsAll | winAll | phaseIAll | imonVAll | stI10All | stI1All | bvsAll | hkaAll
      | hkSumAll | hkNAll | hkMeanAll | calHalfAll => trivial | _ => exact rfl)))) (by apply Part.Within.checkAt x; rfl)

theorem State.chCalibrated_keeps (k : Fin 48) (s : State) :
    KeepsBut [.meas (.ch k), .timer (.stale ↑k)] s (State.chCalibrated k s) := by
  unfold State.chCalibrated
  exact KeepsBut.weaken (KeepsBut.after (State.arm_keeps _ _ _) (State.modCh_keeps _ _ _)) (by apply Part.Within.checkAt k; rfl)

theorem State.slotCalibrated_keeps (x : Fin 4) (s : State) :
    KeepsBut [.meas (.slots x), .meas .chAll] s (State.slotCalibrated x s) := by
  unfold State.slotCalibrated
  dsimp only
  split
  · exact KeepsBut.weaken (KeepsBut.after
      (KeepsBut.whole (m := [.meas .chAll]) (State.modCh_keeps _ _ _) rfl) (State.modSlot_keeps _ _ _)) (by apply Part.Within.checkAt x; rfl)
  · exact KeepsBut.weaken (State.modSlot_keeps _ _ _) (by apply Part.Within.checkAt x; rfl)
  · exact KeepsBut.refl _ _

/-! ## Channels, slots and modulators (R115 to R119) -/

theorem State.modCh_ch (k : Fin 48) (f : Channel → Channel) (s : State) : (s.modCh k f).meas.ch[k] = f s.meas.ch[k] := vector_set_eq _ _ _

theorem State.modSlot_slot (x : Fin 4) (f : Slot → Slot) (s : State) : (s.modSlot x f).meas.slots[x] = f s.meas.slots[x] := vector_set_eq _ _ _

theorem State.calServes_self {x : Fin 4} {s : State} (serves : s.calServes (spareOf x) = some x) :
    s.calChannel (spareOf x) = (s.meas.slots[x]).channel := by
  unfold State.calChannel
  rw [serves]

/-- A slot that is idle and has served its channel. -/
def State.slotServed (x : Fin 4) (s : State) : State := s.modSlot x fun y => { y with phase := .idle, served := some (s.meas.slots[x]).channel }

/-- A slot that ends leaves its channel out of the swap, at home where rotation is off. -/
theorem State.endSlot_eq (x : Fin 4) (s : State) : s.endSlot x false =
    ((s.slotServed x).modCh (s.meas.slots[x]).channel fun c => { c with inSwap := false }).goHome (s.meas.slots[x]).channel := rfl

theorem State.endSlot_slot (x : Fin 4) (s : State) : ((s.endSlot x false).meas.slots[x]).phase = .idle ∧
    ((s.endSlot x false).meas.slots[x]).served = some (s.meas.slots[x]).channel := by
  have home := (State.goHome_keeps (s.meas.slots[x]).channel ((s.slotServed x).modCh (s.meas.slots[x]).channel fun c => { c with inSwap := false })).get
    (.meas (.slots x)) (by generalize (s.meas.slots[x]).channel = k; apply Part.outsideAt k; rfl)
  have slot : (s.endSlot x false).meas.slots[x] = { s.meas.slots[x] with phase := .idle, served := some (s.meas.slots[x]).channel } :=
    Eq.trans home (State.modSlot_slot x (fun y => { y with phase := .idle, served := some (s.meas.slots[x]).channel }) s :)
  rw [slot]
  exact ⟨rfl, rfl⟩

/-- A channel whose slot ends at home has its home modulator as its host. -/
theorem State.endSlot_host {x : Fin 4} {s : State} (home : (s.meas.ch[(s.meas.slots[x]).channel]).host = (s.meas.slots[x]).channel.val) :
    ((s.endSlot x false).meas.ch[(s.meas.slots[x]).channel]).host = (s.meas.slots[x]).channel.val := by
  rw [State.endSlot_eq]
  unfold State.goHome
  split
  · exact congrArg Channel.host (State.modCh_ch _ _ _)
  · exact (congrArg Channel.host (State.modCh_ch (s.meas.slots[x]).channel (fun c => { c with inSwap := false }) (s.slotServed x))).trans home

/-- A swap that is aborted: counted and recorded. -/
def State.swapRefused (x : Fin 4) (s : State) : State :=
  ({ s with meas.swapAborts := bump s.meas.swapAborts } : State).raise 0x0202 (s.meas.slots[x]).channel [(s.meas.slots[x]).channel, 48 + x.val]

theorem State.swapRefused_keeps (x : Fin 4) (s : State) : KeepsBut (([.meas .swapAborts] : List Part) ++ Part.raised) s (s.swapRefused x) :=
  ((KeepsBut.write_meas (l := [.meas .swapAborts]) fun f hf _ _ => by
      cases f with
      | swapAborts => simp at hf  | chAll | moduAll | slotsAll | pairFailsAll | winAll | phaseIAll | imonVAll | stI10All | stI1All | bvsAll | hkaAll
      | hkSumAll | hkNAll | hkMeanAll | calHalfAll => trivial
      | _ => exact rfl) : KeepsBut [.meas .swapAborts] s { s with meas.swapAborts := bump s.meas.swapAborts }).append (State.raise_keepsBut _ _ _ _)

/-- The run of aborted swaps of a channel: one, or its slots left out until a later instant. -/
def Channel.abortCounted (later : Nat) (c : Channel) : Channel :=
  if 1 ≤ c.aborts then { c with aborts := 0, skipUntil := later } else { c with aborts := 1 }

theorem State.abortSwap_eq (x : Fin 4) (s : State) :
    s.abortSwap x = ((s.swapRefused x).endSlot x false).modCh (s.meas.slots[x]).channel
      (Channel.abortCounted ((s.swapRefused x).now + ((s.swapRefused x).effInterval * 1000000000).floor.toNat)) := rfl

theorem State.abortSwap_slot (x : Fin 4) (s : State) :
    ((s.abortSwap x).meas.slots[x]).phase = .idle ∧ ((s.abortSwap x).meas.slots[x]).served = some (s.meas.slots[x]).channel ∧
      (s.abortSwap x).meas.swapAborts = bump s.meas.swapAborts := by
  have meas : (s.swapRefused x).meas = { s.meas with swapAborts := bump s.meas.swapAborts } := by simp [State.swapRefused]
  have ended := (s.swapRefused x).endSlot_slot x
  rw [show (s.swapRefused x).meas.slots = s.meas.slots from (congrArg Measure.slots meas :)] at ended
  have aborts := (State.endSlot_keeps x false (s.swapRefused x)).get (.meas .swapAborts) (by apply Part.outsideAt x; rfl)
  exact ⟨ended.1, ended.2, Eq.trans aborts (congrArg Measure.swapAborts meas :)⟩

theorem State.abortSwap_raised (x : Fin 4) (s : State) :
    Raised 0x0202 (s.meas.slots[x]).channel [(s.meas.slots[x]).channel, 48 + x.val] s (s.abortSwap x) := by
  have raised : Raised 0x0202 (s.meas.slots[x]).channel [(s.meas.slots[x]).channel, 48 + x.val] s (s.swapRefused x) := State.raise_raised _ _ _ rfl
  have ended := State.endSlot_keeps x false (s.swapRefused x)
  exact raised.keep (ended.get (.evr .staging) (by apply Part.outsideAt x; rfl)) (ended.get (.net .batch) (by apply Part.outsideAt x; rfl))

/-! ## Every channel is ready (R120) -/

/-- A channel is ready, and its calibration stale 60 s later. -/
def State.chReady (k : Fin 48) (s : State) : State := (s.modCh k fun c => { c with notReady := false }).arm (.stale k) 60000000000

theorem State.chsReady_all (s : State) (k : Fin 48) : ((State.each (List.finRange 48) State.chReady s).meas.ch[k]).notReady = false := by
  refine State.each_all (f := State.chReady) (P := fun k t => (t.meas.ch[k]).notReady = false) (fun j t => congrArg Channel.notReady (State.modCh_ch j (fun c => { c with notReady := false }) t)) (fun i j t h => ?_)
    (List.mem_finRange k) s
  by_cases same : i = j
  · subst same
    exact congrArg Channel.notReady (State.modCh_ch i (fun c => { c with notReady := false }) t)
  · have other : (t.modCh j fun c => { c with notReady := false }).meas.ch[i] = t.meas.ch[i] := vector_set_getElem_ne same
    exact (congrArg Channel.notReady other).trans h

theorem State.chsReady_keeps (s : State) :
    KeepsBut (([.meas .chAll] : List Part) ++ Part.each 48 .stale) s (State.each (List.finRange 48) State.chReady s) :=
  KeepsBut.each (fun k _ => ((State.modCh_keeps k _ _).append (State.arm_keeps _ _ _)).weaken (by apply Part.Within.checkAt k; rfl)) _ s

/-! ## A handover (R116) -/

/-- A channel that its home modulator serves again. -/
def State.wentHome (x : Fin 4) (s : State) : State :=
  s.modCh (s.meas.slots[x]).channel fun c => { c with host := (s.meas.slots[x]).channel.val, aborts := 0 }

/-- A channel that the slot's spare serves. -/
def State.wentSpare (x : Fin 4) (s : State) : State :=
  (s.modCh (s.meas.slots[x]).channel fun c => { c with host := 48 + x.val }).modSlot x fun y => { y with phase := .spareLive }

/-- One more completed swap. -/
def State.swapCounted (s : State) : State := { s with meas.swaps := bump s.meas.swaps }

theorem State.swapCounted_keeps (s : State) : KeepsBut [.meas .swaps] s s.swapCounted := (KeepsBut.write_meas (l := [.meas .swaps]) fun f hf _ _ => by
    cases f with
    | swaps => simp at hf  | chAll | moduAll | slotsAll | pairFailsAll | winAll | phaseIAll | imonVAll | stI10All | stI1All | bvsAll | hkaAll
    | hkSumAll | hkNAll | hkMeanAll | calHalfAll => trivial | _ => exact rfl)

/-- Settles O7: a spare serves, calibrates, is compared and handed over, and the reference is checked. -/
theorem sparesRotateCalibrateAndSwap : Obligations.SparesRotateCalibrateAndSwap := by
  unfold Obligations.SparesRotateCalibrateAndSwap
  refine ⟨fun x k s up rotates idle pool away next => ?_, fun x x0 xp xn s serves phase ok => ?_, fun x mean s phase now_ within => ?_,
    fun x mean s phase now_ beyond => ?_, fun x s phase => ?_, fun x s phase sound => ?_, fun k s due => ?_, fun s due => ?_, fun d s => ⟨_, rfl, rfl⟩,
    fun s three clear solo => ?_⟩
  · have run : exec (.rotationSlotStart x) s = .next (s.modSlot x fun y => { y with phase := .calSpare, channel := k }) := by
      show execRotationSlotStart x s = _
      unfold execRotationSlotStart
      dsimp only
      rw [if_neg (not_or.2 ⟨not_not.2 up, not_or.2 ⟨not_not.2 rotates, not_or.2 ⟨not_not.2 idle, pool⟩⟩⟩), if_neg away, next]
    exact ⟨_, run, rfl, (State.modSlot_keeps x _ s).weaken fun _ hp => .inl (List.mem_cons.2 (.inl (List.mem_singleton.1 hp)))⟩
  · have run : exec (.modulatorCalibrationDone (spareOf x) x0 xp xn) s =
        .next ((s.modModu (spareOf x) fun y => { y with off := x0, gain := 8 / 5 / (xp - xn), fails := 0 }).slotCalibrated x) := by
      show execModulatorCalibrationDone (spareOf x) x0 xp xn s = _
      unfold execModulatorCalibrationDone
      dsimp only
      rw [serves, State.calServes_self serves, ok]
      have far : ¬ (spareOf x).val < 48 := by simp [spareOf]
      exact congrArg Host.Outcome.next ((if_neg fun h => Option.some_ne_none _ h.1).trans
        (congrArg (State.slotCalibrated x) ((if_pos rfl).trans (if_neg far))))
    have calibrated : (s.modModu (spareOf x) fun y => { y with off := x0, gain := 8 / 5 / (xp - xn), fails := 0 }).slotCalibrated x =
        ((s.modModu (spareOf x) fun y => { y with off := x0, gain := 8 / 5 / (xp - xn), fails := 0 }).modSlot x fun y =>
          { y with phase := .overlapSpare }).modCh (s.meas.slots[x]).channel fun c => { c with inSwap := true } := by
      unfold State.slotCalibrated
      dsimp only
      rw [show ((s.modModu (spareOf x) fun y => { y with off := x0, gain := 8 / 5 / (xp - xn), fails := 0 }).meas.slots[x]).phase = .calSpare from phase]
      rfl
    rw [calibrated] at run
    exact ⟨_, run, rfl, congrArg Slot.phase (State.modSlot_slot x (fun y => { y with phase := .overlapSpare }) s),
      (((State.modModu_keeps _ _ s).append (State.modSlot_keeps x _ _)).append ((State.modCh_keeps _ _ _).weaken (m := [.meas .chAll])
        (by generalize (s.meas.slots[x]).channel = k; apply Part.Within.checkAt k; rfl))).weaken (by apply Part.Within.checkAt x; rfl)⟩
  · have run : exec (.swapComparison x mean) s = .next (s.modSlot x fun y => { y with phase := .readySpare }) := by
      show execSwapComparison x mean s = _
      unfold execSwapComparison
      dsimp only
      rw [phase, now_]
      exact congrArg Host.Outcome.next ((if_neg Bool.false_ne_true).trans (if_pos within))
    exact ⟨_, run, rfl, (State.modSlot_keeps x _ s).weaken fun _ hp => .inl (List.mem_cons.2 (.inl (List.mem_singleton.1 hp)))⟩
  · have run : exec (.swapComparison x mean) s = .next (s.abortSwap x) := by
      show execSwapComparison x mean s = _
      unfold execSwapComparison
      dsimp only
      rw [phase, now_]
      exact congrArg Host.Outcome.next ((if_neg Bool.false_ne_true).trans (if_neg (not_le.2 beyond)))
    obtain ⟨idle, served, aborts⟩ := s.abortSwap_slot x
    exact ⟨_, run, aborts, idle, served, s.abortSwap_raised x, (s.abortSwap_keeps x).weaken
      (by generalize (s.meas.slots[x]).channel = k; apply Part.Within.checkAt x; rfl)⟩
  · have run : exec (.swapHandover x) s = .next ((s.wentHome x).endSlot x false).swapCounted := by
      show execSwapHandover x s = _
      unfold execSwapHandover
      dsimp only
      rw [phase]
      rfl
    obtain ⟨idle, -⟩ := (s.wentHome x).endSlot_slot x
    have host : ((s.wentHome x).meas.ch[(s.meas.slots[x]).channel]).host = (s.meas.slots[x]).channel.val :=
      congrArg Channel.host (State.modCh_ch (s.meas.slots[x]).channel (fun c => { c with host := (s.meas.slots[x]).channel.val, aborts := 0 }) s)
    have ended := State.endSlot_keeps x false (s.wentHome x)
    have swaps := ended.get (.meas .swaps) (by apply Part.outsideAt x; rfl)
    exact ⟨_, run, State.endSlot_host host, idle, congrArg bump swaps, ((((State.modCh_keeps _ _ s).weaken (m := [.meas .chAll])
      (by generalize (s.meas.slots[x]).channel = k; apply Part.Within.checkAt k; rfl)).append ended).append (State.swapCounted_keeps _)).weaken
      (by generalize (s.meas.slots[x]).channel = k; apply Part.Within.checkAt x; rfl)⟩
  · have calibrated := State.chCalibrated_keeps (s.meas.slots[x]).channel (s.wentSpare x)
    have run : exec (.swapHandover x) s = .next ((s.wentSpare x).chCalibrated (s.meas.slots[x]).channel) := by
      show execSwapHandover x s = _
      unfold execSwapHandover
      dsimp only
      rw [phase]
      have here : ¬ ((s.wentSpare x).chCalibrated (s.meas.slots[x]).channel).meas.modu[homeOf (s.meas.slots[x]).channel].retired = true := by
        rw [show ((s.wentSpare x).chCalibrated (s.meas.slots[x]).channel).meas.modu = s.meas.modu from rfl, sound]
        exact Bool.false_ne_true
      exact congrArg Host.Outcome.next (if_neg here)
    have host : ((s.wentSpare x).meas.ch[(s.meas.slots[x]).channel]).host = 48 + x.val :=
      congrArg Channel.host (State.modCh_ch (s.meas.slots[x]).channel (fun c => { c with host := 48 + x.val }) s)
    have slot : ((s.wentSpare x).meas.slots[x]).phase = .spareLive :=
      congrArg Slot.phase (State.modSlot_slot x (fun y => { y with phase := .spareLive }) (s.modCh (s.meas.slots[x]).channel fun c => { c with host := 48 + x.val }))
    refine ⟨_, run, (congrArg Channel.host (State.modCh_ch (s.meas.slots[x]).channel (fun c => { c with calStale := false }) (s.wentSpare x))).trans host,
      slot, State.arm_deadline _ _ _, ?_⟩
    exact (((State.modCh_keeps _ _ s).append (State.modSlot_keeps x _ _)).append calibrated).weaken
      (by intro q hq; exact .inl (by simp only [List.cons_append, List.nil_append, List.mem_cons, List.not_mem_nil, or_false] at hq ⊢; tauto))
  · have run : exec (.calStale k) s = .next (((s.disarm (.stale k)).modCh k fun c => { c with calStale := true }).raise 0x0205 k []) :=
      congrArg Host.Outcome.next (if_pos due)
    have marked := State.modCh_keeps k (fun c => { c with calStale := true }) (s.disarm (.stale k))
    have last := State.raise_keepsBut 0x0205 k [] ((s.disarm (.stale k)).modCh k fun c => { c with calStale := true })
    have ch := last.get (.meas (.ch k)) (by apply Part.outsideAt k; rfl)
    exact ⟨_, run, (congrArg Channel.calStale ch).trans (congrArg Channel.calStale (State.modCh_ch k _ _)), State.raise_raised _ _ _ rfl,
      (((s.disarm_keeps _).append marked).append last).weaken (by apply Part.Within.checkAt k; rfl)⟩
  · exact ⟨_, congrArg Host.Outcome.next (if_pos due), (s.disarm .ready).chsReady_all,
      ((s.disarm_keeps .ready).append (State.chsReady_keeps _)).weaken (by exact .check rfl)⟩
  · have failed : ({ s with meas.refFail := true } : State).active = false := solo
    have later : (({ s with meas.refFail := true } : State).raise 0x0207 noInst []).active = false := by
      rw [State.raise_active]
      exact failed
    have run : exec .refFail s = .next (({ s with meas.refFail := true } : State).raise 0x0207 noInst []) := by
      refine congrArg Host.Outcome.next ((if_pos ⟨three, by rw [clear]; exact Bool.false_ne_true⟩).trans (if_neg ?_))
      rw [later]
      exact Bool.false_ne_true
    exact ⟨_, run, by simp, State.raise_raised _ _ _ rfl,
      ((KeepsBut.write_meas (l := [.meas .refFail]) fun f hf _ _ => by
          cases f with
          | refFail => simp at hf  | chAll | moduAll | slotsAll | pairFailsAll | winAll | phaseIAll | imonVAll | stI10All | stI1All | bvsAll | hkaAll
          | hkSumAll | hkNAll | hkMeanAll | calHalfAll => trivial
          | _ => exact rfl) : KeepsBut [.meas .refFail] s { s with meas.refFail := true }).append (State.raise_keepsBut _ _ _ _)⟩

end Sys2Proof.Machine
end

section
/-! PROOFS. The calibration set and the capture wizard (R129 to R135). -/

namespace Sys2Proof.Machine

theorem State.calCheck_keeps (s : State) :
    KeepsBut [.meas .calDiffers] s (State.calCheck s) := by
  unfold State.calCheck
  dsimp only
  exact KeepsBut.weaken (KeepsBut.write_meas (l := [.meas .calDiffers]) fun f hf _ _ => by
      cases f with
      | calDiffers => simp at hf | chAll | moduAll | slotsAll | pairFailsAll | winAll | phaseIAll | imonVAll | stI10All | stI1All | bvsAll | hkaAll
      | hkSumAll | hkNAll | hkMeanAll | calHalfAll => trivial | _ => exact rfl) (by exact .check rfl)

theorem State.calWriteStart_keeps (origin : Nat) (s : State) :
    KeepsBut [.meas .calWork, .meas .calWriting, .meas .calDiffers, .timer .calWrite] s (State.calWriteStart origin s) := by
  unfold State.calWriteStart
  dsimp only
  exact KeepsBut.weaken (KeepsBut.after (State.arm_keeps _ _ _) (KeepsBut.after (State.calCheck_keeps _) (KeepsBut.write_meas (l := [.meas .calWork,
      .meas .calWriting]) fun f hf _ _ => by
      cases f with
      | calWork | calWriting => simp at hf | chAll | moduAll | slotsAll | pairFailsAll | winAll | phaseIAll | imonVAll | stI10All | stI1All | bvsAll
      | hkaAll | hkSumAll | hkNAll | hkMeanAll | calHalfAll => trivial | _ => exact rfl))) (by exact .check rfl)

theorem State.rangeMismatches_keeps (s : State) :
    KeepsBut [.meas .chAll] s (State.rangeMismatches s) := by
  unfold State.rangeMismatches
  exact KeepsBut.weaken (KeepsBut.each (l := [.meas .chAll]) (fun a s => KeepsBut.weaken
      (KeepsBut.whole (m := [.meas .chAll]) (State.modCh_keeps _ _ _) rfl) (by exact .check rfl)) _ _) (by exact .check rfl)

theorem State.captureStart_keeps (b : Bool) (s : State) :
    KeepsBut [.meas .cap, .timer .capture] s (State.captureStart b s) := by
  unfold State.captureStart
  dsimp only
  exact KeepsBut.weaken (KeepsBut.after (State.arm_keeps _ _ _) (KeepsBut.write_meas (l := [.meas .cap]) fun f hf _ _ => by
      cases f with
      | cap => simp at hf | chAll | moduAll | slotsAll | pairFailsAll | winAll | phaseIAll | imonVAll | stI10All | stI1All | bvsAll | hkaAll
      | hkSumAll | hkNAll | hkMeanAll | calHalfAll => trivial | _ => exact rfl)) (by exact .check rfl)

theorem State.shadowPut_keeps (w : Option Session) (idx : Nat) (sub : Nat) (v : Nat) (s : State) :
    KeepsBut [.net .shadow, .net .claim] s (State.shadowPut w idx sub v s) := by
  unfold State.shadowPut
  dsimp only
  exact KeepsBut.weaken (KeepsBut.write_net (l := [.net .shadow, .net .claim]) fun f hf _ _ => by
      cases f with
      | shadow | claim => simp at hf | forceAll | rwAll | sessAll | storeAll | portAll | pmAll | pmXferAll => trivial
      | _ => exact rfl) (by exact .check rfl)

theorem State.captureCompute_keeps (w : Option Session) (s : State) :
    KeepsBut [.meas .cap, .net .shadow, .net .claim] s (State.captureCompute w s) := by
  unfold State.captureCompute
  dsimp only
  exact KeepsBut.ite _ (KeepsBut.weaken (KeepsBut.write_meas (l := [.meas .cap]) fun f hf _ _ => by
      cases f with
      | cap => simp at hf | chAll | moduAll | slotsAll | pairFailsAll | winAll | phaseIAll | imonVAll | stI10All | stI1All | bvsAll | hkaAll
      | hkSumAll | hkNAll | hkMeanAll | calHalfAll => trivial | _ => exact rfl) (by exact .check rfl)) (KeepsBut.weaken
      (KeepsBut.after (State.shadowPut_keeps _ _ _ _ _) (KeepsBut.after (State.shadowPut_keeps _ _ _ _ _)
      (KeepsBut.write_meas (l := [.meas .cap]) fun f hf _ _ => by
      cases f with
      | cap => simp at hf | chAll | moduAll | slotsAll | pairFailsAll | winAll | phaseIAll | imonVAll | stI10All | stI1All | bvsAll | hkaAll
      | hkSumAll | hkNAll | hkMeanAll | calHalfAll => trivial | _ => exact rfl))) (by exact .check rfl))

/-! ## The calibration set (R129 to R132) -/

/-- The values in force of an object outside the calibration set. -/
theorem State.raw_plain {idx : Nat} {s t : State} (plain : isCalObject idx = false) (force : t.net.force = s.net.force) (rw_ : t.net.rw = s.net.rw)
    (pos : t.pins.cascPos = s.pins.cascPos) (sub : Nat) : t.raw idx sub = s.raw idx sub := by
  simp only [State.raw, State.default, plain, force, rw_, pos, Bool.false_eq_true, if_false]

/-- The working copy as a write of the set begins with it. -/
def State.calStamped (origin : Nat) (s : State) : CalSet :=
  { s.meas.calWork with origin := origin, count := s.meas.calWork.count + 1, time := s.tb.tod, serial := s.upd.serial }

theorem State.calWriteStart_begun (origin : Nat) (s : State) :
    (s.calWriteStart origin).meas.calWork = s.calStamped origin ∧ (s.calWriteStart origin).meas.calWriting = some (s.calStamped origin) ∧
      (s.calWriteStart origin).meas.calDiffers = decide (s.meas.calStored ≠ some (s.calStamped origin)) ∧
      Ends .calWrite 1500000 s (s.calWriteStart origin) :=
  ⟨rfl, rfl, rfl, State.arm_deadline _ _ _⟩

/-- Whether a channel's range is another than the calibration set's (R129). -/
def State.mismatch (s : State) (k : Fin 48) : Bool := decide (s.raw 0x2201 (k + 1) = 1) != s.meas.calWork.calRange.getLsbD k

/-- A channel's mark of its range. -/
def Channel.rangeMarked (b : Bool) (c : Channel) : Channel := { c with rangeMismatch := b }

theorem State.rangeMismatches_eq (s : State) :
    s.rangeMismatches = State.each (List.finRange 48) (fun k => State.modCh k (Channel.rangeMarked (s.mismatch k))) s := rfl

theorem State.rangeMismatches_all (s : State) (k : Fin 48) : (s.rangeMismatches.meas.ch[k]).rangeMismatch = s.mismatch k := by
  rw [State.rangeMismatches_eq]
  refine State.each_all (f := fun j => State.modCh j (Channel.rangeMarked (s.mismatch j)))
    (P := fun k t => (t.meas.ch[k]).rangeMismatch = s.mismatch k)
    (fun j t => congrArg Channel.rangeMismatch (State.modCh_ch j (Channel.rangeMarked (s.mismatch j)) t)) (fun i j t h => ?_) (List.mem_finRange k) s
  by_cases same : i = j
  · subst same
    exact congrArg Channel.rangeMismatch (State.modCh_ch i (Channel.rangeMarked (s.mismatch i)) t)
  · have other : (t.modCh j (Channel.rangeMarked (s.mismatch j))).meas.ch[i] = t.meas.ch[i] := vector_set_getElem_ne same
    exact (congrArg Channel.rangeMismatch other).trans h

/-- A new working copy. -/
def State.calTaken (c : CalSet) (s : State) : State := { s with meas.calWork := c }

theorem State.calTaken_keeps (c : CalSet) (s : State) : KeepsBut [.meas .calWork] s (s.calTaken c) := (KeepsBut.write_meas (l := [.meas .calWork])
    fun f hf _ _ => by
    cases f with
    | calWork => simp at hf  | chAll | moduAll | slotsAll | pairFailsAll | winAll | phaseIAll | imonVAll | stI10All | stI1All | bvsAll | hkaAll
    | hkSumAll | hkNAll | hkMeanAll | calHalfAll => trivial | _ => exact rfl)

/-- A set written into its half. -/
def State.calStoredIn (c : CalSet) (s : State) : State :=
  ({ s with
    meas.calHalf := (Vector.replicate 2 none).set (if s.meas.calHalfNow = some 0 then 1 else 0 : Fin 2) (some c), meas.calWriting := none } : State).disarm .calWrite

theorem State.calStoredIn_keeps (c : CalSet) (s : State) : KeepsBut [.meas .calHalfAll, .meas .calWriting, .timer .calWrite] s (s.calStoredIn c) :=
  ((KeepsBut.write_meas (l := [.meas .calWriting, .meas .calHalfAll]) fun f hf hw _ => by
      cases f with
      | calWriting => simp at hf | calHalf => simp [Part.whole, MeasurePart.whole] at hw  | chAll | moduAll | slotsAll | pairFailsAll | winAll
      | phaseIAll | imonVAll | stI10All | stI1All | bvsAll | hkaAll | hkSumAll | hkNAll | hkMeanAll | calHalfAll => trivial
      | _ => exact rfl) : KeepsBut [.meas .calWriting, .meas .calHalfAll] s ({ s with
    meas.calHalf := (Vector.replicate 2 none).set (if s.meas.calHalfNow = some 0 then 1 else 0 : Fin 2) (some c), meas.calWriting := none })).append
    (State.disarm_keeps .calWrite _) |>.weaken (by exact .check rfl)

/-! ## The capture wizard (R133 to R135) -/

theorem objCapture_free {w : Session} {d : List Byte} {s : State} (h : leValue d ≠ 3) : (objCapture (some w)).busy s d = none := if_pos h

/-- The wizard idle, both points dropped. -/
def State.captureDropped (s : State) : State :=
  { s.disarm .capture with meas.cap := { s.meas.cap with state := .idle, heldA := false, heldB := false } }

theorem State.captureDropped_keeps (s : State) : KeepsBut [.timer .capture, .meas .cap] s s.captureDropped := (s.disarm_keeps .capture).append
    (KeepsBut.write_meas (l := [.meas .cap]) fun f hf _ _ => by
    cases f with
    | cap => simp at hf  | chAll | moduAll | slotsAll | pairFailsAll | winAll | phaseIAll | imonVAll | stI10All | stI1All | bvsAll | hkaAll
    | hkSumAll | hkNAll | hkMeanAll | calHalfAll => trivial | _ => exact rfl)

theorem objCapture_abort (w : Session) (s : State) : (objCapture (some w)).effect (some w) [0] s = s.captureDropped := rfl

theorem objCapture_start (b : Bool) (w : Session) (s : State) :
    (objCapture (some w)).effect (some w) (if b then [2] else [1]) s = s.captureStart b := by cases b <;> rfl

theorem objCapture_compute (w : Session) (s : State) : (objCapture (some w)).effect (some w) [3] s = s.captureCompute (some w) := rfl

/-- The wizard with its results. -/
def Capture.computed (c : Capture) : Capture :=
  { c with
    state := .computed, gain := (c.qA - c.qB) / (c.vA - c.vB), off := c.vA - c.qA / ((c.qA - c.qB) / (c.vA - c.vB)) }

theorem State.captureCompute_done {w : Session} {s : State} (claim : s.net.claim = none ∨ s.net.claim = some w) (overA : s.meas.cap.overA = false) (overB : s.meas.cap.overB = false)
    (far : 1 / 5 ≤ absR (s.meas.cap.vA - s.meas.cap.vB)) :
    (s.captureCompute (some w)).meas.cap = s.meas.cap.computed ∧ (s.captureCompute (some w)).net.claim = some w := by
  have apart : ¬ (absR (s.meas.cap.vA - s.meas.cap.vB) < (if s.raw 0x2201 (s.capCh + 1) = 1 then (5 / 4 : Rat) else 1 / 16) / 10 ∨
      s.meas.cap.overA = true ∨ s.meas.cap.overB = true) := by
    rw [overA, overB]
    rintro (near | over_ | over_)
    · revert near
      split
      · intro near
        linarith
      · intro near
        linarith
    · cases over_
    · cases over_
  unfold State.captureCompute
  dsimp only
  rw [if_neg apart]
  refine ⟨rfl, ?_⟩
  show (((s.net.claim <|> some w) <|> some w) : Option Session) = some w
  rcases claim with h | h <;> rw [h] <;> rfl

/-- Settles O9: the calibration set is written, exported and imported, and the capture wizard works. -/
theorem calibrationSetAndCaptureWork : Obligations.CalibrationSetAndCaptureWork := by
  unfold Obligations.CalibrationSetAndCaptureWork
  refine ⟨fun w d s a free => ?_, fun c s writing => ?_, fun w c s serves out engineer stored => ?_, fun w d s a length free ok serial => ?_,
    fun w s a => ?_, fun w s a => ?_, fun w s a claim heldA heldB overA overB far => ?_, fun w s a => ?_, fun s capturing due samples => ?_⟩
  · have run : exec (.writeCalibrationSet w d) s = .next (((s.touch w).calWriteStart 2).answer w .done) :=
      congrArg Host.Outcome.next (State.writeBy_local a (forwards_commands (0x3600, 3) (by simp)) rfl rfl free rfl rfl)
    obtain ⟨work, writing, differs, ends⟩ := (s.touch w).calWriteStart_begun 2
    have meas : (((s.touch w).calWriteStart 2).answer w .done).meas = ((s.touch w).calWriteStart 2).meas := by simp
    rw [Completes]
    refine ⟨_, run, ?_⟩
    rw [meas, work, writing, differs]
    exact ⟨rfl, rfl, rfl, Ends.kept (a := (s.touch w).calWriteStart 2) ends (State.answer_keeps w .done _) (by cases w <;> rfl),
      State.answer_answered _ _ _, ((State.calWriteStart_keeps 2 (s.touch w)).write .done).weaken (by cases w <;> exact .check rfl)⟩
  · have run : exec .calSetWritten s = .next ((s.calStoredIn c).calCheck.raise 0x020A noInst [c.origin, c.count]) := by
      show execCalSetWritten s = _
      unfold execCalSetWritten
      rw [writing]
      rfl
    have meas : ((s.calStoredIn c).calCheck.raise 0x020A noInst [c.origin, c.count]).meas = (s.calStoredIn c).calCheck.meas := by simp
    refine ⟨_, run, congrArg Measure.calHalf meas, congrArg Measure.calWriting meas, ?_, State.disarm_deadline _ s, State.raise_raised _ _ _ rfl, ?_⟩
    · rw [meas]
      rfl
    · exact (((State.calStoredIn_keeps c s).append (State.calCheck_keeps _)).append (State.raise_keepsBut _ _ _ _)).weaken (by exact .check rfl)
  · have run : exec (.calSetExport w) s = .next ((s.touch w).answer w (.data c.image)) := by
      refine congrArg Host.Outcome.next ((State.access_open serves out 0x3600 _).trans ((if_neg (not_not.2 engineer)).trans ?_))
      rw [show (s.touch w).meas.calStored = some c from stored]
    exact ⟨_, run, State.answer_answered _ _ _, ((s.touch_keeps w).append (State.answer_keeps w _ _)).weaken (by cases w <;> exact .check rfl)⟩
  · have image : (objCalImport (s.roleOf w)).invalid (s.touch w) d = none := if_pos ⟨ok, .inl serial⟩
    have run : exec (.calSetImport w d) s = .next ((((s.touch w).calTaken { CalSet.ofImage d with count := s.meas.calWork.count }).calWriteStart
        3).rangeMismatches.answer w .done) :=
      congrArg Host.Outcome.next (State.writeBy_local a (forwards_commands (0x3600, 1) (by simp)) rfl image free (decide_eq_false (not_not.2 length)) rfl)
    have taken := State.calTaken_keeps { CalSet.ofImage d with count := s.meas.calWork.count } (s.touch w)
    have written := State.calWriteStart_keeps 3 ((s.touch w).calTaken { CalSet.ofImage d with count := s.meas.calWork.count })
    have judged := State.rangeMismatches_keeps (((s.touch w).calTaken { CalSet.ofImage d with count := s.meas.calWork.count }).calWriteStart 3)
    have later := judged.append (State.answer_keeps w .done _)
    have work := later.get (.meas .calWork) (by cases w <;> rfl)
    have writing := later.get (.meas .calWriting) (by cases w <;> rfl)
    have stamped : (((s.touch w).calTaken { CalSet.ofImage d with count := s.meas.calWork.count }).calWriteStart 3).meas.calWork =
      ((s.touch w).calTaken { CalSet.ofImage d with count := s.meas.calWork.count }).calStamped 3 := rfl
    refine ⟨_, run, fun k => ?_, ?_, ?_, ?_, State.answer_answered _ _ _,
      (((taken.append written).append judged).write .done).weaken (by cases w <;> exact .check rfl)⟩
    · have ch := (State.answer_keeps w .done (((s.touch w).calTaken { CalSet.ofImage d with count := s.meas.calWork.count }).calWriteStart
        3).rangeMismatches).get (.meas (.ch k)) (by cases w <;> (apply Part.outsideAt k; rfl))
      have raw := State.raw_plain (idx := 0x2201) rfl (s := s)
        (t := ((s.touch w).calTaken { CalSet.ofImage d with count := s.meas.calWork.count }).calWriteStart 3) rfl rfl rfl (k + 1)
      refine (congrArg Channel.rangeMismatch ch).trans ((State.rangeMismatches_all _ k).trans ?_)
      unfold State.mismatch
      rw [raw, show _ = _ from work]
    · rw [show _ = _ from work]
      generalize CalSet.ofImage d = c
      rfl
    · rw [show _ = _ from work]
      rfl
    · rw [show _ = _ from writing, show _ = _ from work]
      rfl
  · have run : exec (.captureA w) s = .next (((s.touch w).captureStart false).answer w .done) :=
      congrArg Host.Outcome.next (State.writeBy_local a (forwards_commands (0x3620, 3) (by simp)) rfl rfl (objCapture_free (by decide)) rfl rfl)
    have ends : Ends .capture (s.ns 0x3620 4) s ((s.touch w).captureStart false) := State.arm_deadline _ _ _
    have meas : (((s.touch w).captureStart false).answer w .done).meas = ((s.touch w).captureStart false).meas := by simp
    exact ⟨_, run, congrArg (fun m : Measure => m.cap.state) meas, congrArg (fun m : Measure => m.cap.qA) meas,
      congrArg (fun m : Measure => m.cap.heldA) meas,
      (congrArg (fun m : Measure => m.cap.heldB) meas).trans (rfl : ((s.touch w).captureStart false).meas.cap.heldB = s.meas.cap.heldB),
      ends.kept (State.answer_keeps w .done _) (by cases w <;> rfl), State.answer_answered _ _ _,
      ((State.captureStart_keeps false (s.touch w)).write .done).weaken (by cases w <;> exact .check rfl)⟩
  · have run : exec (.captureB w) s = .next (((s.touch w).captureStart true).answer w .done) :=
      congrArg Host.Outcome.next (State.writeBy_local a (forwards_commands (0x3620, 3) (by simp)) rfl rfl (objCapture_free (by decide)) rfl rfl)
    have ends : Ends .capture (s.ns 0x3620 4) s ((s.touch w).captureStart true) := State.arm_deadline _ _ _
    have meas : (((s.touch w).captureStart true).answer w .done).meas = ((s.touch w).captureStart true).meas := by simp
    exact ⟨_, run, congrArg (fun m : Measure => m.cap.state) meas, congrArg (fun m : Measure => m.cap.qB) meas,
      congrArg (fun m : Measure => m.cap.heldB) meas,
      (congrArg (fun m : Measure => m.cap.heldA) meas).trans (rfl : ((s.touch w).captureStart true).meas.cap.heldA = s.meas.cap.heldA),
      ends.kept (State.answer_keeps w .done _) (by cases w <;> rfl), State.answer_answered _ _ _,
      ((State.captureStart_keeps true (s.touch w)).write .done).weaken (by cases w <;> exact .check rfl)⟩
  · have free : (objCapture (some w)).busy (s.touch w) [3] = none := by
      have own : ¬ (s.net.claim.isSome = true ∧ s.net.claim ≠ some w) := fun ⟨some_, other⟩ =>
        claim.elim (fun h => by rw [h] at some_; cases some_) other
      unfold objCapture
      dsimp only
      rw [if_neg (not_not.2 (show leValue [3] = 3 from rfl)),
        if_neg (show ¬ ((s.touch w).net.claim.isSome = true ∧ (s.touch w).net.claim ≠ some w) from own)]
      show refuseIf (decide (¬ s.meas.cap.heldA = true ∨ ¬ s.meas.cap.heldB = true)) = none
      rw [heldA, heldB]
      rfl
    have run : exec (.captureCompute w) s = .next (((s.touch w).captureCompute (some w)).answer w .done) :=
      congrArg Host.Outcome.next (State.writeBy_local a (forwards_commands (0x3620, 3) (by simp)) rfl rfl free rfl rfl)
    obtain ⟨cap, claimed⟩ := State.captureCompute_done (s := s.touch w) claim overA overB far
    have later := State.answer_keeps w .done ((s.touch w).captureCompute (some w))
    have meas : (((s.touch w).captureCompute (some w)).answer w .done).meas.cap = s.meas.cap.computed :=
      Eq.trans (later.get (.meas .cap) (by cases w <;> rfl)) cap
    refine ⟨_, run, congrArg Capture.state meas, (later.get (.net .claim) (by cases w <;> rfl)).trans claimed, congrArg Capture.gain meas, ?_,
      ((State.captureCompute_keeps (some w) (s.touch w)).write .done).weaken (by cases w <;> exact .check rfl)⟩
    rw [meas]
    rfl
  · have run : exec (.captureAbort w) s = .next ((s.touch w).captureDropped.answer w .done) :=
      congrArg Host.Outcome.next (State.writeBy_local a (forwards_commands (0x3620, 3) (by simp)) rfl rfl (objCapture_free (by decide)) rfl rfl)
    have later := State.answer_keeps w .done (s.touch w).captureDropped
    have stopped : Stopped .capture (s.touch w).captureDropped := State.disarm_deadline _ _
    exact ⟨_, run, later.get (.meas .cap) (by cases w <;> rfl), stopped.kept later (by cases w <;> rfl), State.answer_answered _ _ _,
      ((s.touch w).captureDropped_keeps.write .done).weaken (by cases w <;> exact .check rfl)⟩
  · have run : exec .captureDone s = .next { s.disarm .capture with
        meas.cap := { s.meas.cap with
          vA := s.meas.cap.sum / (s.meas.cap.n : Nat), heldA := true, state := if s.meas.cap.heldB = true then .abHeld else .aHeld } } := by
      show execCaptureDone s = _
      unfold execCaptureDone
      rw [capturing, due]
      simp [samples]
    exact ⟨_, run, rfl, rfl, rfl, State.disarm_deadline _ s, (s.disarm_keeps .capture).append (KeepsBut.write_meas (l := [.meas .cap])
        fun f hf _ _ => by
        cases f with
        | cap => simp at hf  | chAll | moduAll | slotsAll | pairFailsAll | winAll | phaseIAll | imonVAll | stI10All | stI1All | bvsAll | hkaAll
        | hkSumAll | hkNAll | hkMeanAll | calHalfAll => trivial | _ => exact rfl)⟩

end Sys2Proof.Machine
end

section
/-! PROOFS. The strings' commands on the active chip of a pair (R391). -/

namespace Sys2Proof.Machine

/-! ## Writes that the twin is sent (R391) -/

/-- A write that the active chip of a pair has accepted goes to the standby. -/
theorem State.forward_paired {idx sub : Nat} {s : State} (paired : s.twin.st = .activePaired) (forwarded : forwards idx sub = true) (d : List Byte) :
    s.forward idx sub d = s.launch (.write (objKey idx sub) (leValue d)) := if_pos ⟨paired, forwarded⟩

/-- The active chip of a pair, with a host of the vendor's role. -/
def State.vendorPaired : State := { hostVendor State.reset with twin.st := .activePaired }

theorem State.vendorPaired_admits : State.vendorPaired.admits .spi 0x2811 0x0F (leBytes 4 0x65736572) = true := by decide +kernel

theorem objCapacityReset_twin (n : Fin 4) (w : Option Session) (d : List Byte) (s : State) : ((objCapacityReset n).effect w d s).twin = s.twin := by
  simp [objCapacityReset]

/-- The reset of a string's capacity on the active chip of a pair is sent to the standby. -/
theorem State.vendorPaired_sends :
    ((State.vendorPaired.writeBy .spi 0x2811 0x0F (leBytes 4 0x65736572) (objCapacityReset 1)).twin.sent) ≠ State.vendorPaired.twin.sent := by
  have effect := objCapacityReset_twin 1 (some .spi) (leBytes 4 0x65736572) (State.vendorPaired.touch .spi)
  have sent := State.forward_paired (idx := 0x2811) (sub := 0x0F) ((congrArg Twin.st effect).trans rfl) rfl (leBytes 4 0x65736572)
  rw [State.writeBy_done State.vendorPaired_admits rfl rfl rfl rfl, sent]
  exact List.cons_ne_nil _ _

/-- Refutes O18: on the active chip of a pair CAPACITY_RESET is forwarded to the standby (R391), and the frame that leaves is not among the parts that the
statement lets the command change. -/
theorem not_stringsCountAnchorAndDisconnect : ¬ Obligations.StringsCountAnchorAndDisconnect := by
  unfold Obligations.StringsCountAnchorAndDisconnect
  rintro ⟨-, -, -, reset, -⟩
  obtain ⟨t, ht, -, -, -, -, -, -, kept⟩ := reset .spi 1 (leBytes 4 0x65736572) State.vendorPaired State.vendorPaired_admits rfl
  have run : exec (.capacityReset .spi 1 (leBytes 4 0x65736572)) State.vendorPaired =
    .next (State.vendorPaired.writeBy .spi 0x2811 0x0F (leBytes 4 0x65736572) (objCapacityReset 1)) := rfl
  rw [← Host.Outcome.next.inj (run.symm.trans ht)] at kept
  exact State.vendorPaired_sends (kept.get (.twin .sent) rfl)

end Sys2Proof.Machine
end

section
/-! PROOFS. Sensors, thresholds and throttling (R126, R297 to R305). -/

namespace Sys2Proof.Machine

theorem State.sensorData_keeps (k : Fin 16) (s : State) :
    KeepsBut [.meas .rhoNext, .tb .lastT] s (State.sensorData k s) := by
  unfold State.sensorData
  dsimp only
  refine KeepsBut.ite _ ?_ ?_
  · exact KeepsBut.ite _ (KeepsBut.refl _ _) (KeepsBut.weaken (KeepsBut.write_meas (l := [.meas .rhoNext]) fun f hf _ _ => by
      cases f with
      | rhoNext => simp at hf | chAll | moduAll | slotsAll | pairFailsAll | winAll | phaseIAll | imonVAll | stI10All | stI1All | bvsAll | hkaAll
      | hkSumAll | hkNAll | hkMeanAll | calHalfAll => trivial | _ => exact rfl) (by exact .check rfl))
  · exact KeepsBut.ite _ (KeepsBut.weaken (KeepsBut.write_tb (l := [.tb .lastT]) fun f hf _ _ => by
      cases f with
      | lastT => simp at hf | genAll | loopPAll | loopFAll | recFAll => trivial | _ => exact rfl) (by exact .check rfl)) (KeepsBut.refl _ _)

theorem State.sensorRate_keeps (k : Fin 16) (t : Rat) (s : State) :
    KeepsBut [.timer (.sensorSlow ↑k), .thm (.sensor k)] s (State.sensorRate k t s) := by
  unfold State.sensorRate
  split
  · exact KeepsBut.weaken (KeepsBut.after (State.modSensor_keeps _ _ _) (State.disarm_keeps _ _)) (by apply Part.Within.checkAt k; rfl)
  · exact KeepsBut.ite _ (KeepsBut.weaken
      (KeepsBut.after (State.modSensor_keeps _ _ _) (State.disarm_keeps _ _)) (by apply Part.Within.checkAt k; rfl))
      (KeepsBut.weaken (State.armWhile_keeps _ _ _ _) (by apply Part.Within.checkAt k; rfl))

theorem State.takeReading_keeps (k : Fin 16) (t : Rat) (good : Bool) (s : State) :
    KeepsBut [.thm (.sensor k), .timer (.sensorSlow ↑k), .meas .rhoNext, .tb .lastT] s (State.takeReading k t good s) := by
  unfold State.takeReading
  dsimp only
  exact KeepsBut.weaken (KeepsBut.after (State.sensorData_keeps _ _)
      (KeepsBut.after (State.sensorRate_keeps _ _ _) (State.modSensor_keeps _ _ _))) (by apply Part.Within.checkAt k; rfl)

theorem State.warnOn_keeps (k : Fin 16) (s : State) :
    KeepsBut (([.thm (.sensor k)] : List Part) ++ Part.raised) s (State.warnOn k s) := by
  unfold State.warnOn
  dsimp only
  exact KeepsBut.weaken (KeepsBut.after (State.raise_keepsBut _ _ _ _) (State.modSensor_keeps _ _ _)) (by apply Part.Within.checkAt k; rfl)

theorem State.setFactor_keeps (j : Fin 8) (f : Rat) (s : State) :
    KeepsBut [.thm (.f j)] s (State.setFactor j f s) := by
  unfold State.setFactor
  dsimp only
  exact KeepsBut.weaken (KeepsBut.write_thm (l := [.thm (.f j)]) fun f hf _ _ => by
      cases f with
      | f j => exact vector_set_getElem_ne (by rintro rfl; simp at hf) | sensorAll | fAll => trivial
      | _ => exact rfl) (by apply Part.Within.checkAt j; rfl)

theorem State.stepDown_keeps (j : Fin 8) (s : State) :
    KeepsBut (([.thm (.f j), .timer (.thrRestore ↑j), .timer (.thrStep ↑j)] : List Part) ++ Part.raised) s (State.stepDown j s) := by
  unfold State.stepDown
  dsimp only
  refine KeepsBut.viaElse ?_ (KeepsBut.weaken (KeepsBut.after (State.arm_keeps _ _ _) (State.disarm_keeps _ _)) (by apply Part.Within.checkAt j; rfl))
  exact KeepsBut.viaIf (KeepsBut.weaken (State.raise_keepsBut _ _ _ _) (by apply Part.Within.checkAt j; rfl))
      (KeepsBut.weaken (State.setFactor_keeps _ _ _) (by apply Part.Within.checkAt j; rfl))

theorem State.seqRefresh_keeps (s : State) :
    KeepsBut [.seq .st, .seq .resets, .seq .upSince] s (State.seqRefresh s) := by
  unfold State.seqRefresh
  dsimp only
  exact KeepsBut.weaken (KeepsBut.write_seq (l := [.seq .st, .seq .resets, .seq .upSince]) fun f hf _ _ => by
      cases f with
      | st | resets | upSince => simp at hf | railAll => trivial | _ => exact rfl) (by exact .check rfl)

theorem State.systemOn_keeps (s : State) :
    KeepsBut [.seq .sysOn, .seq .order, .seq .st, .seq .resets, .seq .upSince, .seq .onAfter] s (State.systemOn s) := by
  unfold State.systemOn
  dsimp only
  refine KeepsBut.ite _ (KeepsBut.refl _ _) ?_
  exact KeepsBut.ite _ (KeepsBut.weaken (KeepsBut.after (State.seqRefresh_keeps _) (KeepsBut.write_seq (l := [.seq .sysOn, .seq .order])
      fun f hf _ _ => by
      cases f with
      | sysOn | order => simp at hf | railAll => trivial | _ => exact rfl)) (by exact .check rfl)) (KeepsBut.weaken
      (KeepsBut.write_seq (l := [.seq .onAfter]) fun f hf _ _ => by
      cases f with | onAfter => simp at hf | railAll => trivial | _ => exact rfl) (by exact .check rfl))

theorem State.autoStart_keeps (s : State) :
    KeepsBut [.seq .sysOn, .seq .order, .seq .st, .seq .resets, .seq .upSince, .seq .onAfter] s (State.autoStart s) := by
  unfold State.autoStart
  exact KeepsBut.ite _ (KeepsBut.weaken (State.systemOn_keeps _) (by exact .check rfl)) (KeepsBut.refl _ _)

theorem State.lockoutClear_keeps (k : Fin 16) (s : State) :
    KeepsBut [.thm (.sensor k), .thm .lockout, .thm .lockSensors, .seq .sysOn, .seq .order, .seq .st, .seq .resets, .seq .upSince, .seq .onAfter]
        s (State.lockoutClear k s) := by
  unfold State.lockoutClear
  dsimp only
  exact KeepsBut.ite _ (KeepsBut.weaken (KeepsBut.after (State.autoStart_keeps _) (KeepsBut.after (KeepsBut.write_thm (l := [.thm .lockout,
      .thm .lockSensors]) fun f hf _ _ => by
      cases f with
      | lockout | lockSensors => simp at hf | sensorAll | fAll => trivial
      | _ => exact rfl) (State.modSensor_keeps _ _ _))) (by apply Part.Within.checkAt k; rfl)) (KeepsBut.weaken (KeepsBut.after
      (KeepsBut.write_thm (l := [.thm .lockSensors]) fun f hf _ _ => by
      cases f with
      | lockSensors => simp at hf | sensorAll | fAll => trivial
      | _ => exact rfl) (State.modSensor_keeps _ _ _)) (by apply Part.Within.checkAt k; rfl))

theorem State.sensorLost_keeps (k : Fin 16) (s : State) :
    KeepsBut (([.meas .rhoFrozen, .tb .tempStale] : List Part) ++ Part.raised) s (State.sensorLost k s) := by
  unfold State.sensorLost
  dsimp only
  refine KeepsBut.ite _ (KeepsBut.weaken (KeepsBut.after (State.raise_keepsBut _ _ _ _) (KeepsBut.write_meas (l := [.meas .rhoFrozen])
      fun f hf _ _ => by
      cases f with
      | rhoFrozen => simp at hf | chAll | moduAll | slotsAll | pairFailsAll | winAll | phaseIAll | imonVAll | stI10All | stI1All | bvsAll | hkaAll
      | hkSumAll | hkNAll | hkMeanAll | calHalfAll => trivial | _ => exact rfl)) (by exact .check rfl)) ?_
  exact KeepsBut.ite _ (KeepsBut.weaken (KeepsBut.after (State.raise_keepsBut _ _ _ _) (KeepsBut.write_tb (l := [.tb .tempStale]) fun f hf _ _ => by
      cases f with
      | tempStale => simp at hf | genAll | loopPAll | loopFAll | recFAll => trivial | _ => exact rfl)) (by exact .check rfl)) (KeepsBut.refl _ _)

theorem State.bumpEpoch_keeps (i : Fin 11) (s : State) :
    KeepsBut [.eng (.epoch i), .eng .queueAll] s (State.bumpEpoch i s) := by
  unfold State.bumpEpoch
  dsimp only
  exact KeepsBut.weaken (KeepsBut.write_eng (l := [.eng (.epoch i), .eng .queueAll]) fun f hf hw _ => by
      cases f with
      | queue => simp [Part.whole, EngPart.whole] at hw | epoch j => exact vector_set_getElem_ne (by rintro rfl; simp at hf) | engAll | loadAll
      | hostAll | epochAll | dbAll | dbMaskAll | txDataAll | queueAll | lockAll | armAll => trivial
      | _ => exact rfl) (by apply Part.Within.checkAt i; rfl)

theorem State.newEpoch_keeps (i : Fin 11) (s : State) :
    KeepsBut (([.eng .lockAll, .eng .armAll, .eng .dbAll, .pins .spiIrq, .eng (.epoch i), .eng .queueAll] : List Part) ++ Part.raised)
        s (State.newEpoch i s) := by
  unfold State.newEpoch
  dsimp only
  exact KeepsBut.viaElse (KeepsBut.weaken (KeepsBut.after (State.raise_keepsBut _ _ _ _) (KeepsBut.each (l := [.eng .lockAll, .eng .armAll,
      .eng .dbAll, .pins .spiIrq]) (fun a s => KeepsBut.weaken (KeepsBut.whole (m := [.eng .lockAll, .eng .armAll, .eng .dbAll,
      .pins .spiIrq]) (State.freeLock_keepsBut _ _) rfl) (by apply Part.Within.checkAt i; rfl)) _ _)) (by apply Part.Within.checkAt i; rfl))
      (KeepsBut.weaken (State.bumpEpoch_keeps _ _) (by apply Part.Within.checkAt i; rfl))

/-! ## One sensor (R297 to R305) -/

theorem State.modSensor_sensor (k : Fin 16) (f : Sensor → Sensor) (s : State) : (s.modSensor k f).thm.sensor[k] = f s.thm.sensor[k] :=
  vector_set_eq _ _ _

/-- A sensor with the run of its conversions counted. -/
def Sensor.counted (k : Fin 16) (bad : Nat) (x : Sensor) : Sensor :=
  { x with badRun := if bad = 0 then 0 else min (failRuns k) (x.badRun + bad), goodRun := if x.failed ∧ bad = 0 then satInc 10 x.goodRun else 0 }

/-- A reading that a sensor takes, its thresholds judged. -/
def Sensor.taken (a b c : Rat × Rat) (tod : Nat) (t : Rat) (good : Bool) (x : Sensor) : Sensor :=
  { x with
    t := t, at_ := tod, valid := true, good := if good then t else x.good,
    warn := x.warn.count a.1 a.2 t, thr := x.thr.count b.1 b.2 t, shut := x.shut.count c.1 c.2 t }

theorem State.takeReading_eq (k : Fin 16) (t : Rat) (good : Bool) (s : State) : s.takeReading k t good =
    ((s.modSensor k (Sensor.taken (s.threshAt k 0) (s.threshAt k 1) (s.threshAt k 2) s.tb.tod t good)).sensorRate k t).sensorData k := rfl

/-- The rate of a sensor's conversions is all that it changes of the sensor. -/
theorem State.sensorRate_sensor (k : Fin 16) (t : Rat) (s : State) : ∃ fast, (s.sensorRate k t).thm.sensor[k] = { s.thm.sensor[k] with fast := fast } := by
  unfold State.sensorRate
  split
  · exact ⟨false, State.modSensor_sensor _ _ _⟩
  · split
    · exact ⟨true, State.modSensor_sensor _ _ _⟩
    · exact ⟨s.thm.sensor[k].fast, by simp⟩

theorem State.takeReading_sensor (k : Fin 16) (t : Rat) (good : Bool) (s : State) : ∃ fast, (s.takeReading k t good).thm.sensor[k] =
    { s.thm.sensor[k].taken (s.threshAt k 0) (s.threshAt k 1) (s.threshAt k 2) s.tb.tod t good with fast := fast } := by
  rw [State.takeReading_eq]
  obtain ⟨fast, h⟩ := State.sensorRate_sensor k t
    (s.modSensor k (Sensor.taken (s.threshAt k 0) (s.threshAt k 1) (s.threshAt k 2) s.tb.tod t good))
  refine ⟨fast, ?_⟩
  rw [(State.sensorData_keeps k _).get (.thm (.sensor k)) (by apply Part.outsideAt k; rfl), h, State.modSensor_sensor]

theorem exec_sensorConversion {k : Fin 16} {x v r : Rat} {s : State} (out : s.tbOut = true) (on : s.sensorOn k = true) :
    exec (.sensorConversion k x v r) s = .next (if s.thm.sensor[k].failed ∨ ¬ usable k (s.badness k (s.reading k x) v r)
      then s.modSensor k (Sensor.counted k (s.badness k (s.reading k x) v r))
      else (s.modSensor k (Sensor.counted k (s.badness k (s.reading k x) v r))).takeReading k (s.reading k x)
        (s.badness k (s.reading k x) v r = 0)) :=
  congrArg Host.Outcome.next (if_neg (not_or.2 ⟨not_not.2 out, not_not.2 on⟩))

/-! ## A code that stays raised (R478, R481) -/

/-- A code that is raised, in the fault batch of this microsecond. -/
def RaisedNow (c i : Nat) (v : List Nat) (s a : State) : Prop :=
  Raised c i v s a ∧ (isEvent c = false → a.net.batchAt = a.tb.tod / 1000)

theorem State.raise_raisedNow (c i : Nat) (v : List Nat) {s a : State} (h : a.evr.staging = s.evr.staging) : RaisedNow c i v s (a.raise c i v) :=
  ⟨State.raise_raised c i v h, State.raise_batchAt c i v a⟩

theorem RaisedNow.raise {c i : Nat} {v : List Nat} {s a : State} (h : RaisedNow c i v s a) (c' i' : Nat) (v' : List Nat) :
    RaisedNow c i v s (a.raise c' i' v') := by
  refine ⟨h.1.raise h.2 c' i' v', fun fault => ?_⟩
  rw [(State.mem_raise_batch c' i' v' (h.1.2 fault) (h.2 fault)).2, show (a.raise c' i' v').tb = a.tb by simp]

theorem RaisedNow.kept {l : List Part} {c i : Nat} {v : List Nat} {s a t : State} (h : RaisedNow c i v s a) (k : KeepsBut l a t)
    (staging : Part.outside l (.evr .staging) = true) (batch : Part.outside l (.net .batch) = true) (at_ : Part.outside l (.net .batchAt) = true)
    (tod : Part.outside l (.tb .tod) = true) : RaisedNow c i v s t := by
  refine ⟨h.1.keep (k.get _ staging) (k.get _ batch), fun fault => ?_⟩
  have sameAt : t.net.batchAt = a.net.batchAt := k.get (.net .batchAt) at_
  have sameTod : t.tb.tod = a.tb.tod := k.get (.tb .tod) tod
  rw [sameAt, sameTod]
  exact h.2 fault

theorem RaisedNow.each {α : Type} {c i : Nat} {v : List Nat} {s a : State} {f : α → State → State} (h : RaisedNow c i v s a)
    (step : ∀ x b, RaisedNow c i v s b → RaisedNow c i v s (f x b)) (l : List α) : RaisedNow c i v s (State.each l f a) :=
  State.each_invariant step l a h

/-! ## Throttle channels (R303) -/

/-- The timers of every throttle channel. -/
def Part.throttling : List Part := Part.each 8 .thrRestore ++ Part.each 8 .thrStep

theorem State.stepDown_raisedNow {c i : Nat} {v : List Nat} {s a : State} (h : RaisedNow c i v s a) (j : Fin 8) : RaisedNow c i v s (a.stepDown j) := by
  have timed : RaisedNow c i v s ((a.disarm (.thrRestore j)).arm (.thrStep j) (a.ns (0x2C40 + j) 8)) :=
    h.kept ((a.disarm_keeps _).append (State.arm_keeps _ _ _)) rfl rfl rfl rfl
  unfold State.stepDown
  dsimp only
  split
  · exact timed
  · have set := timed.kept (State.setFactor_keeps j (if a.thm.f[j] < a.real (0x2C40 + j) 7 then a.thm.f[j]
      else max (a.real (0x2C40 + j) 7) (a.thm.f[j] - a.real (0x2C40 + j) 6)) _) (by apply Part.outsideAt j; rfl) (by apply Part.outsideAt j; rfl)
      (by apply Part.outsideAt j; rfl) (by apply Part.outsideAt j; rfl)
    split
    · exact set.raise _ _ _
    · exact set

/-- A sensor whose throttle threshold is asserted, before its channels step. -/
def State.throttleMarked (k : Fin 16) (s : State) : State :=
  (s.modSensor k fun x => { x with thr := { x.thr with on := true, above := 0, below := 0 } }).raise 0x0A02 k []

/-- The channels of a mask that a sensor makes throttle step. -/
def State.throttleSteps (was : BitVec 8) (s : State) : State :=
  State.each (List.finRange 8) (fun j => fun s => if s.anyThrottle j ∧ ¬ was.getLsbD j then s.stepDown j else s) s

theorem State.throttleOn_eq (k : Fin 16) (s : State) :
    s.throttleOn k = (s.throttleMarked k).throttleSteps (maskOf 8 fun j : Fin 8 => s.anyThrottle j) := rfl

theorem State.throttleSteps_keeps (was : BitVec 8) (s : State) :
    KeepsBut (([.thm .fAll] : List Part) ++ Part.throttling ++ Part.raised) s (s.throttleSteps was) :=
  KeepsBut.each (fun j _ => KeepsBut.ite _ ((State.stepDown_keeps j _).weaken (by apply Part.Within.checkAt j; rfl)) (KeepsBut.refl _ _)) _ s

theorem State.throttleMarked_keeps (k : Fin 16) (s : State) : KeepsBut (([.thm (.sensor k)] : List Part) ++ Part.raised) s (s.throttleMarked k) :=
  (State.modSensor_keeps k _ s).append (State.raise_keepsBut _ _ _ _)

theorem State.throttleOn_keeps (k : Fin 16) (s : State) :
    KeepsBut (([.thm .fAll, .thm (.sensor k)] : List Part) ++ Part.throttling ++ Part.raised) s (s.throttleOn k) :=
  ((s.throttleMarked_keeps k).append (State.throttleSteps_keeps _ _)).weaken (by apply Part.Within.checkAt k; rfl)

theorem State.throttleSteps_raisedNow {c i : Nat} {v : List Nat} {s a : State} (h : RaisedNow c i v s a) (was : BitVec 8) :
    RaisedNow c i v s (a.throttleSteps was) :=
  h.each (fun j b hb => by
    split
    · exact State.stepDown_raisedNow hb j
    · exact hb) _

theorem State.throttleOn_raisedNow {c i : Nat} {v : List Nat} {s a : State} (h : RaisedNow c i v s a) (k : Fin 16) : RaisedNow c i v s (a.throttleOn k) :=
  State.throttleSteps_raisedNow ((h.kept (State.modSensor_keeps k _ a) (by apply Part.outsideAt k; rfl) (by apply Part.outsideAt k; rfl)
    (by apply Part.outsideAt k; rfl) (by apply Part.outsideAt k; rfl)).raise _ _ _) _

theorem State.throttleOn_sensor (k : Fin 16) (s : State) :
    (s.throttleOn k).thm.sensor[k] = { s.thm.sensor[k] with thr := { s.thm.sensor[k].thr with on := true, above := 0, below := 0 } } := by
  have steps : (s.throttleOn k).thm.sensor[k] = (s.throttleMarked k).thm.sensor[k] :=
    (State.throttleSteps_keeps (maskOf 8 fun j : Fin 8 => s.anyThrottle j) (s.throttleMarked k)).get (.thm (.sensor k)) (by apply Part.outsideAt k; rfl)
  have marked : (s.throttleMarked k).thm = (s.modSensor k fun x => { x with thr := { x.thr with on := true, above := 0, below := 0 } }).thm := by
    simp [State.throttleMarked]
  rw [steps, marked]
  exact State.modSensor_sensor _ _ _

/-- A sensor whose throttle threshold is cleared. -/
def State.throttleCleared (k : Fin 16) (s : State) : State :=
  s.modSensor k fun x => { x with thr := { x.thr with on := false, above := 0, below := 0 } }

/-- The channels that stop stepping and begin to restore. -/
def State.throttleEnds (k : Fin 16) (s : State) : State :=
  State.each (List.finRange 8) (fun j => fun s =>
    if bit (s.raw (0x2C40 + j) 1) k ∧ ¬ s.anyThrottle j then
      let s := s.disarm (.thrStep j)
      if s.thm.f[j] < 1 then s.armOnce (.thrRestore j) (s.ns (0x2C40 + j) 9) else s
    else s) s

theorem State.throttleOff_eq (k : Fin 16) (s : State) : s.throttleOff k = (s.throttleCleared k).throttleEnds k := rfl

theorem State.throttleEnds_keeps (k : Fin 16) (s : State) : KeepsBut Part.throttling s (s.throttleEnds k) :=
  KeepsBut.each (fun j s => KeepsBut.ite _
    (KeepsBut.ite _ (((s.disarm_keeps _).append (State.armOnce_keeps _ _ _)).weaken (by apply Part.Within.checkAt j; rfl))
      ((s.disarm_keeps _).weaken (by apply Part.Within.checkAt j; rfl))) (KeepsBut.refl _ s)) _ s

/-! ## The thermal shutdown (R301) -/

/-- The outputs of a chip of no pair as a warm reset holds or lets them. -/
def State.outputsLeft (thermal : Bool) (s : State) : State :=
  { s.holdOutputs thermal with eng.queue := (s.holdOutputs thermal).eng.queue.map fun q => { q with bumped := false } }

theorem State.outputsLeft_evr (thermal : Bool) (s : State) : (s.outputsLeft thermal).evr = s.evr := by
  show (s.holdOutputs thermal).evr = s.evr
  simp

theorem State.outputsLeft_thm (thermal : Bool) (s : State) : (s.outputsLeft thermal).thm = s.thm := by
  show (s.holdOutputs thermal).thm = s.thm
  simp

/-- Those outputs with the identities' epochs counted. -/
def State.resetOutputs (thermal : Bool) (s : State) : State := State.each warmIdents State.newEpoch (s.outputsLeft thermal)

/-- What a warm reset makes of the outputs that it leaves. -/
def State.warmFrom (r : Rst) (thermal : Bool) (s b : State) : State :=
  { b.warmKept with
    rst := r, twin.released := s.pins.twinPar, twin.st := if s.pins.twinPar then .unpaired else .solo, seq.sysOn := s.seq.sysOn && !thermal }

theorem State.assertReset_solo {s : State} (idle : s.releasing = false) (solo : s.pins.twinPar = false) (cause : BitVec 16) (thermal : Bool) :
    s.assertReset .warm cause thermal = s.warmFrom (s.rst.assert .warm cause false) thermal (s.resetOutputs thermal) := by
  simp only [State.assertReset, State.warmFrom, State.resetOutputs, State.outputsLeft, idle, solo, Bool.false_eq_true, if_false]

/-- The parts that new epochs may change. -/
def Part.epochs : List Part :=
  ([.eng .lockAll, .eng .armAll, .eng .dbAll, .pins .spiIrq, .eng .epochAll, .eng .queueAll] : List Part) ++ Part.raised

theorem State.resetOutputs_keeps (thermal : Bool) (s : State) : KeepsBut Part.epochs (s.holdOutputs thermal) (s.resetOutputs thermal) :=
  ((KeepsBut.write_eng (l := [.eng .queueAll]) fun f _ hw _ => by
      cases f with
      | queue => simp [Part.whole, EngPart.whole] at hw  | engAll | loadAll | hostAll | epochAll | dbAll | dbMaskAll | txDataAll | queueAll | lockAll
      | armAll => trivial | _ => exact rfl) : KeepsBut [.eng .queueAll] (s.holdOutputs thermal)
    (s.outputsLeft thermal)).append
    (KeepsBut.each (l := Part.epochs) (fun i s => (State.newEpoch_keeps i s).weaken (by apply Part.Within.checkAt i; rfl)) _ _) |>.weaken
      (by exact .check rfl)

/-- A record that waits in staging waits there after new epochs. -/
theorem State.mem_newEpoch_staging {r : Record} {s : State} (i : Fin 11) (h : r ∈ s.evr.staging) : r ∈ (s.newEpoch i).evr.staging := by
  unfold State.newEpoch
  dsimp only
  split
  · exact h
  · refine State.mem_raise_staging _ _ _ ?_
    exact State.each_invariant (P := fun t => r ∈ t.evr.staging) (fun n t ht => by simpa using ht) _ _ h

/-- A sensor above its shutdown threshold, recorded. -/
def State.shutRecorded (k : Fin 16) (s : State) : State :=
  (s.modSensor k fun x => { x with shut := { x.shut with on := true } }).raise 0x0A04 k [toReal32 s.thm.sensor[k].t]

/-- That sensor's lockout, counted. -/
def State.lockedOut (k : Fin 16) (s : State) : State :=
  { s.shutRecorded k with
    thm.lockout := true, thm.lockSensors := (s.shutRecorded k).thm.lockSensors ||| BitVec.ofNat 16 (2 ^ k.val),
    thm.shutdowns := bump (s.shutRecorded k).thm.shutdowns }

theorem State.lockedOut_raised (k : Fin 16) (s : State) : Raised 0x0A04 k [toReal32 s.thm.sensor[k].t] s (s.lockedOut k) := by
  have recorded : Raised 0x0A04 k [toReal32 s.thm.sensor[k].t] s (s.shutRecorded k) := State.raise_raised _ _ _ rfl
  have locked : KeepsBut [.thm .lockout, .thm .lockSensors, .thm .shutdowns] (s.shutRecorded k) (s.lockedOut k) :=
      (KeepsBut.write_thm (l := [.thm .lockout, .thm .lockSensors, .thm .shutdowns]) fun f hf _ _ => by
      cases f with
      | lockout | lockSensors | shutdowns => simp at hf  | sensorAll | fAll => trivial | _ => exact rfl)
  exact recorded.keep (locked.get (.evr .staging) rfl) (locked.get (.net .batch) rfl)

theorem State.lockedOut_stands (k : Fin 16) (s : State) : (s.lockedOut k).rst = s.rst ∧ (s.lockedOut k).pins = s.pins ∧
    (s.lockedOut k).thm.lockout = true ∧ (s.lockedOut k).thm.lockSensors = s.thm.lockSensors ||| BitVec.ofNat 16 (2 ^ k.val) ∧
    (s.lockedOut k).thm.shutdowns = bump s.thm.shutdowns ∧ (s.lockedOut k).pending = s.pending ∧ (s.lockedOut k).mem = s.mem ∧
    (s.lockedOut k).raw = s.raw := by
  have raw : (s.lockedOut k).raw = s.raw :=
    State.raw_congr (by simp [State.lockedOut, State.shutRecorded, State.modSensor]) (by simp [State.lockedOut, State.shutRecorded, State.modSensor]) (by simp [State.lockedOut, State.shutRecorded])
      (by simp [State.lockedOut, State.shutRecorded])
  refine ⟨?_, ?_, rfl, ?_, ?_, ?_, ?_, raw⟩ <;> simp [State.lockedOut, State.shutRecorded, State.modSensor]

theorem State.holdOutputs_thermal (s : State) : (s.holdOutputs true).pins.brHold = 0 ∧ (s.holdOutputs true).pins.gate = Vector.replicate 24 .fastSink ∧
    (s.holdOutputs true).pins.gpioDir = s.pins.gpioDir &&& s.faultPins := by
  unfold State.holdOutputs
  dsimp only
  rw [if_pos rfl]
  exact ⟨rfl, rfl, rfl⟩

theorem State.resetOutputs_thm (thermal : Bool) (s : State) : (s.resetOutputs thermal).thm = s.thm :=
  State.each_invariant (P := fun t => t.thm = s.thm) (fun i t ht => by simpa using ht) _ _ (s.outputsLeft_thm thermal)

theorem State.mem_newEpochs_staging {r : Record} (l : List (Fin 11)) {s : State} (h : r ∈ s.evr.staging) :
    r ∈ (State.each l State.newEpoch s).evr.staging :=
  State.each_invariant (P := fun t => r ∈ t.evr.staging) (fun i _ ht => State.mem_newEpoch_staging i ht) l s h

/-- Every record that waits in one state's staging waits in another's. -/
def StagingKept (s t : State) : Prop := ∀ r ∈ s.evr.staging, r ∈ t.evr.staging

theorem State.outputsLeft_staging (thermal : Bool) (s : State) : StagingKept s (s.outputsLeft thermal) := fun r h => by
  rw [s.outputsLeft_evr thermal]
  exact h

theorem State.newEpochs_staging (l : List (Fin 11)) (s : State) : StagingKept s (State.each l State.newEpoch s) :=
  fun _ h => State.mem_newEpochs_staging l h

theorem StagingKept.trans {s t u : State} (h : StagingKept s t) (k : StagingKept t u) : StagingKept s u := fun r hr => k r (h r hr)

theorem State.resetOutputs_eq (thermal : Bool) (s : State) :
    s.resetOutputs thermal = State.each warmIdents State.newEpoch (s.outputsLeft thermal) := rfl

theorem State.resetOutputs_staging (thermal : Bool) (s : State) : StagingKept s (s.resetOutputs thermal) := by
  rw [State.resetOutputs_eq]
  exact (s.outputsLeft_staging thermal).trans (State.newEpochs_staging warmIdents _)

theorem State.warmFrom_stands (r : Rst) (s b : State) : (s.warmFrom r true b).thm.lockout = b.thm.lockout ∧
    (s.warmFrom r true b).thm.lockSensors = b.thm.lockSensors ∧ (s.warmFrom r true b).thm.shutdowns = b.thm.shutdowns ∧
    (s.warmFrom r true b).seq.sysOn = false ∧ (s.warmFrom r true b).pins.brHold = b.pins.brHold ∧ (s.warmFrom r true b).pins.gate = b.pins.gate ∧
    (s.warmFrom r true b).pins.gpioDir = b.pins.gpioDir ∧ (s.warmFrom r true b).evr.staging = b.evr.staging :=
  ⟨rfl, rfl, rfl, Bool.and_false _, rfl, rfl, rfl, rfl⟩

theorem State.thermalReset {s : State} (idle : s.releasing = false) (solo : s.pins.twinPar = false) (cause : BitVec 16) :
    (s.assertReset .warm cause true).thm.lockout = s.thm.lockout ∧ (s.assertReset .warm cause true).thm.lockSensors = s.thm.lockSensors ∧
      (s.assertReset .warm cause true).thm.shutdowns = s.thm.shutdowns ∧ (s.assertReset .warm cause true).seq.sysOn = false ∧
      (s.assertReset .warm cause true).pins.brHold = 0 ∧ (s.assertReset .warm cause true).pins.gate = Vector.replicate 24 .fastSink ∧
      (s.assertReset .warm cause true).pins.gpioDir = s.pins.gpioDir &&& s.faultPins ∧
      (∀ r ∈ s.evr.staging, r ∈ (s.assertReset .warm cause true).evr.staging) := by
  have kept := s.resetOutputs_keeps true
  have thm := s.resetOutputs_thm true
  obtain ⟨brHold, gates, dir⟩ := s.holdOutputs_thermal
  have gate : (s.resetOutputs true).pins.gate = (s.holdOutputs true).pins.gate :=
    Vector.ext fun i hi => kept.get (.pins (.gate ⟨i, hi⟩)) (by generalize (⟨i, hi⟩ : Fin 24) = g; rfl)
  have hold : (s.resetOutputs true).pins.brHold = (s.holdOutputs true).pins.brHold := kept.get (.pins .brHold) rfl
  have out : (s.resetOutputs true).pins.gpioDir = (s.holdOutputs true).pins.gpioDir := kept.get (.pins .gpioDir) rfl
  obtain ⟨lockout, sensors, shutdowns, sysOn, brHold', gate', dir', staging⟩ :=
    State.warmFrom_stands (s.rst.assert .warm cause false) s (s.resetOutputs true)
  rw [State.assertReset_solo idle solo, lockout, sensors, shutdowns, brHold', gate', dir', staging, thm]
  exact ⟨rfl, rfl, rfl, sysOn, hold.trans brHold, gate.trans gates, out.trans dir, s.resetOutputs_staging true⟩

/-! ## The last lockout's end (R301) -/

/-- A sensor that no longer shuts the device down. -/
def State.shutCleared (k : Fin 16) (s : State) : State :=
  s.modSensor k fun x => { x with shut := { x.shut with on := false, above := 0, below := 0 } }

/-- The sensors that still lock the device out. -/
def State.lockLeft (k : Fin 16) (s : State) : State :=
  { s.shutCleared k with thm.lockSensors := s.thm.lockSensors &&& ~~~ BitVec.ofNat 16 (2 ^ k.val) }

/-- The lockout over. -/
def State.lockOver (s : State) : State := { s with thm.lockout := false }

theorem State.lockoutClear_last {k : Fin 16} {s : State} (last : s.thm.lockSensors = BitVec.ofNat 16 (2 ^ k.val)) :
    ((s.lockoutClear k).thm.sensor[k]).shut.on = false ∧ (s.lockoutClear k).thm.lockout = false ∧ (s.lockoutClear k).thm.lockSensors = 0 := by
  have none_ : s.thm.lockSensors &&& ~~~ BitVec.ofNat 16 (2 ^ k.val) = 0 := by
    rw [last]
    exact BitVec.and_not_self _
  have on : ((s.lockLeft k).thm.sensor[k]).shut.on = false := congrArg (fun x : Sensor => x.shut.on)
    (State.modSensor_sensor k (fun x => { x with shut := { x.shut with on := false, above := 0, below := 0 } }) s)
  have clear : s.lockoutClear k = if s.thm.lockout ∧ s.thm.lockSensors &&& ~~~ BitVec.ofNat 16 (2 ^ k.val) = 0
    then (s.lockLeft k).lockOver.autoStart else s.lockLeft k := rfl
  rw [clear]
  split
  next =>
    have started := State.autoStart_keeps (s.lockLeft k).lockOver
    have sensor := started.get (.thm (.sensor k)) (by generalize k = j; rfl)
    exact ⟨(congrArg (fun x : Sensor => x.shut.on) sensor).trans on, started.get (.thm .lockout) rfl, (started.get (.thm .lockSensors) rfl).trans none_⟩
  next other =>
    exact ⟨on, (Bool.not_eq_true _).mp fun locked => other ⟨locked, none_⟩, none_⟩

/-! ## The throttle channels' instants (R303) -/

/-- A channel's next step is timed. -/
def State.stepTimed (j : Fin 8) (s : State) : State := (s.disarm (.thrRestore j)).arm (.thrStep j) (s.ns (0x2C40 + j) 8)

/-- A channel's factor one step lower, at least at its floor. -/
def State.lowered (s : State) (j : Fin 8) : Rat := max (s.real (0x2C40 + j) 7) (s.thm.f[j] - s.real (0x2C40 + j) 6)

/-- A channel's factor after a step. -/
def State.factorStep (j : Fin 8) (s : State) : State :=
  (s.stepTimed j).setFactor j (if s.thm.f[j] < s.real (0x2C40 + j) 7 then s.thm.f[j] else s.lowered j)

theorem State.stepDown_eq {j : Fin 8} {s : State} (active : s.standby = false) :
    s.stepDown j = if s.lowered j = s.real (0x2C40 + j) 7 ∧ s.real (0x2C40 + j) 7 < s.thm.f[j] then (s.factorStep j).raise 0x0A03 j []
      else s.factorStep j := by
  have here : ¬ (s.stepTimed j).standby = true := by
    rw [show (s.stepTimed j).standby = s.standby from rfl, active]
    exact Bool.false_ne_true
  exact if_neg here

theorem State.factorStep_factor (j : Fin 8) (s : State) :
    (s.factorStep j).thm.f[j] = if s.thm.f[j] < s.real (0x2C40 + j) 7 then s.thm.f[j] else s.lowered j := vector_set_eq _ _ _

theorem State.stepDown_active {j : Fin 8} {s : State} (active : s.standby = false) :
    (s.stepDown j).thm.f[j] = (if s.thm.f[j] < s.real (0x2C40 + j) 7 then s.thm.f[j] else s.lowered j) ∧
    (s.lowered j = s.real (0x2C40 + j) 7 → s.real (0x2C40 + j) 7 < s.thm.f[j] → Raised 0x0A03 j [] s (s.stepDown j)) ∧
    Ends (.thrStep j) (s.ns (0x2C40 + j) 8) s (s.stepDown j) := by
  have timed : Ends (.thrStep j) (s.ns (0x2C40 + j) 8) s (s.factorStep j) := State.arm_deadline _ _ _
  have step := State.stepDown_eq (j := j) active
  split at step
  next =>
    have thm : ((s.factorStep j).raise 0x0A03 j []).thm = (s.factorStep j).thm := by simp
    rw [step]
    exact ⟨(congrArg (fun m : Thermal => m.f[j]) thm).trans (s.factorStep_factor j), fun _ _ => State.raise_raised _ _ _ rfl,
      timed.kept (State.raise_keepsBut _ _ _ _) (by generalize j = i; rfl)⟩
  next off =>
    rw [step]
    exact ⟨s.factorStep_factor j, fun floor low => absurd ⟨floor, low⟩ off, timed⟩

/-- A channel's factor one step higher, at most at 1. -/
def State.factorRestored (j : Fin 8) (s : State) : State := (s.disarm (.thrRestore j)).setFactor j (min 1 (s.thm.f[j] + s.real (0x2C40 + j) 6))

/-! ## A sensor's warning and failure (R300, R305) -/

theorem State.warnOn_sensor (k : Fin 16) (s : State) :
    (s.warnOn k).thm.sensor[k] = { s.thm.sensor[k] with warn := { s.thm.sensor[k].warn with on := true, above := 0, below := 0 } } := by
  have thm : (s.warnOn k).thm = (s.modSensor k fun x => { x with warn := { x.warn with on := true, above := 0, below := 0 } }).thm := by
    simp [State.warnOn]
  rw [thm]
  exact State.modSensor_sensor _ _ _

theorem State.warnOn_raisedNow {c i : Nat} {v : List Nat} {s a : State} (h : RaisedNow c i v s a) (k : Fin 16) : RaisedNow c i v s (a.warnOn k) :=
  (h.kept (State.modSensor_keeps k _ a) (by apply Part.outsideAt k; rfl) (by apply Part.outsideAt k; rfl) (by apply Part.outsideAt k; rfl)
    (by apply Part.outsideAt k; rfl)).raise _ _ _

theorem State.sensorLost_raisedNow {c i : Nat} {v : List Nat} {s a : State} (h : RaisedNow c i v s a) (k : Fin 16) :
    RaisedNow c i v s (a.sensorLost k) := by
  unfold State.sensorLost
  split
  · exact (h.kept ((KeepsBut.write_meas (l := [.meas .rhoFrozen]) fun f hf _ _ => by
      cases f with
      | rhoFrozen => simp at hf  | chAll | moduAll | slotsAll | pairFailsAll | winAll | phaseIAll | imonVAll | stI10All | stI1All | bvsAll | hkaAll
      | hkSumAll | hkNAll | hkMeanAll | calHalfAll => trivial
      | _ => exact rfl) : KeepsBut [.meas .rhoFrozen] a { a with meas.rhoFrozen := true }) rfl rfl rfl rfl).raise _ _ _
  · split
    · exact (h.kept ((KeepsBut.write_tb (l := [.tb .tempStale]) fun f hf _ _ => by
        cases f with
        | tempStale => simp at hf  | genAll | loopPAll | loopFAll | recFAll => trivial
        | _ => exact rfl) : KeepsBut [.tb .tempStale] a { a with tb.tempStale := true }) rfl rfl rfl rfl).raise _ _ _
    · exact h

/-- A sensor that has failed. -/
def Sensor.gone (x : Sensor) : Sensor :=
  { x with failed := true, valid := false, t := x.good, goodRun := 0, warn := x.warn.restart, thr := x.thr.restart, shut := x.shut.restart }

/-- A sensor that fails, recorded. -/
def State.sensorGone (k : Fin 16) (s : State) : State := (s.modSensor k Sensor.gone).raise 0x0A05 k []

/-- The warning of a sensor that fails. -/
def State.goneWarned (k : Fin 16) (s : State) : State := if s.thm.sensor[k].warn.on then s.sensorGone k else (s.sensorGone k).warnOn k

/-- The throttling of a sensor that fails. -/
def State.goneThrottled (k : Fin 16) (s : State) : State :=
  if (s.goneWarned k).flag (0x2C10 + k) 8 ∧ ¬ s.thm.sensor[k].thr.on then (s.goneWarned k).throttleOn k else s.goneWarned k

theorem State.sensorGone_sensor (k : Fin 16) (s : State) : (s.sensorGone k).thm.sensor[k] = s.thm.sensor[k].gone := by
  have thm : (s.sensorGone k).thm = (s.modSensor k Sensor.gone).thm := by simp [State.sensorGone]
  rw [thm]
  exact State.modSensor_sensor _ _ _

theorem State.goneWarned_sensor (k : Fin 16) (s : State) : ((s.goneWarned k).thm.sensor[k]).warn.on = true ∧
    ((s.goneWarned k).thm.sensor[k]).failed = true ∧ ((s.goneWarned k).thm.sensor[k]).valid = false ∧
    ((s.goneWarned k).thm.sensor[k]).t = (s.thm.sensor[k]).good := by
  unfold State.goneWarned
  split
  next on =>
    rw [State.sensorGone_sensor]
    exact ⟨on, rfl, rfl, rfl⟩
  next =>
    rw [State.warnOn_sensor, State.sensorGone_sensor]
    exact ⟨rfl, rfl, rfl, rfl⟩

theorem State.goneThrottled_sensor (k : Fin 16) (s : State) : ∃ thr, (s.goneThrottled k).thm.sensor[k] = { (s.goneWarned k).thm.sensor[k] with thr := thr } := by
  unfold State.goneThrottled
  split
  · exact ⟨_, State.throttleOn_sensor _ _⟩
  · exact ⟨((s.goneWarned k).thm.sensor[k]).thr, rfl⟩

theorem State.goneThrottled_raised (k : Fin 16) (s : State) : RaisedNow 0x0A05 k [] s (s.goneThrottled k) := by
  have gone : RaisedNow 0x0A05 k [] s (s.sensorGone k) := State.raise_raisedNow _ _ _ rfl
  have warned : RaisedNow 0x0A05 k [] s (s.goneWarned k) := by
    unfold State.goneWarned
    split
    · exact gone
    · exact State.warnOn_raisedNow gone k
  unfold State.goneThrottled
  split
  · exact State.throttleOn_raisedNow warned k
  · exact warned

theorem State.goneThrottled_keeps (k : Fin 16) (s : State) :
    KeepsBut (([.thm .fAll, .thm (.sensor k)] : List Part) ++ Part.throttling ++ Part.raised) s (s.goneThrottled k) := by
  have gone : KeepsBut (([.thm (.sensor k)] : List Part) ++ Part.raised) s (s.sensorGone k) :=
    (State.modSensor_keeps k _ s).append (State.raise_keepsBut _ _ _ _)
  have warned : KeepsBut (([.thm (.sensor k)] : List Part) ++ Part.raised) s (s.goneWarned k) :=
    KeepsBut.ite _ gone ((gone.append (State.warnOn_keeps k _)).weaken (by apply Part.Within.checkAt k; rfl))
  exact KeepsBut.ite _ ((warned.append (State.throttleOn_keeps k _)).weaken (by apply Part.Within.checkAt k; rfl))
    (warned.weaken (by apply Part.Within.checkAt k; rfl))

theorem State.exec_thermalShutdown {k : Fin 16} {s : State} (shuts : s.shutsDown k = true) :
    exec (.thermalShutdown k) s = .next ((s.lockedOut k).assertReset .warm causeThermal true) := by
  show execThermalShutdown k s = _
  unfold execThermalShutdown
  rw [if_neg (not_not.2 shuts)]
  rfl

theorem State.lockedOut_faultPins (k : Fin 16) (s : State) : (s.lockedOut k).faultPins = s.faultPins := by
  obtain ⟨-, -, -, -, -, -, -, raw⟩ := s.lockedOut_stands k
  unfold State.faultPins
  rw [raw]

/-- A sensor above its shutdown threshold locks the device out and begins the thermal warm reset (R301). -/
theorem State.thermalShutdown_resets {k : Fin 16} {s : State} (shuts : s.shutsDown k = true) (idle : s.releasing = false)
    (solo : s.pins.twinPar = false) (supply : s.rst.supplyOk = true) :
    Completes (.thermalShutdown k) s fun t =>
      t.thm.lockout = true ∧ t.thm.lockSensors = s.thm.lockSensors ||| BitVec.ofNat 16 (2 ^ k.val) ∧ t.thm.shutdowns = bump s.thm.shutdowns ∧
      t.rst.cause = causeThermal ∧ t.rst.scope = .warm ∧ t.rst.phase = .step 1 ∧ t.seq.sysOn = false ∧ t.pins.brHold = 0 ∧
        t.pins.gate = Vector.replicate 24 .fastSink ∧ t.pins.gpioDir = s.pins.gpioDir &&& s.faultPins ∧
      (s.evr.staging.length < 16 → ∃ r ∈ t.evr.staging, r.code = 0x0A04) ∧ t.pending = s.pending ∧ t.mem.user = s.mem.user := by
  refine ⟨_, State.exec_thermalShutdown shuts, ?_⟩
  obtain ⟨rst, pins, lockout, sensors, shutdowns, pending, mem, -⟩ := s.lockedOut_stands k
  have faults := s.lockedOut_faultPins k
  have raised := s.lockedOut_raised k
  generalize s.lockedOut k = d at *
  have idle' : d.releasing = false := by
    unfold State.releasing at idle ⊢
    rw [rst]
    exact idle
  have solo' : d.pins.twinPar = false := by rw [pins]; exact solo
  obtain ⟨lockout', sensors', shutdowns', sysOn, brHold, gate, dir, staged⟩ := State.thermalReset idle' solo' causeThermal
  have reset := State.assertReset_warm idle' causeThermal true
  obtain ⟨cause, scope, step, -⟩ := Rst.assert_warm (r := d.rst) (by rw [rst]; exact supply) causeThermal
  obtain ⟨pending', -, user⟩ := State.assertReset_stands .warm causeThermal true d
  rw [lockout', sensors', shutdowns', sysOn, brHold, gate, dir, pending', user, reset, pins, faults, pending, mem]
  refine ⟨lockout, sensors, shutdowns, cause, scope, step, rfl, rfl, rfl, rfl, fun room => ?_, rfl, rfl⟩
  obtain ⟨r, staging, code, -⟩ := raised.1 room
  exact ⟨r, staged r staging, code⟩

theorem State.sensorConversion_usable : ∀ (k : Fin 16) (x v r : Rat) (s : State),
    s.tbOut = true →
    s.sensorOn k = true →
    (s.thm.sensor[k]).failed = false →
    s.badness k (s.reading k x) v r = 0 →
    Completes (.sensorConversion k x v r) s fun t =>
    (t.thm.sensor[k]).t = s.reading k x ∧ (t.thm.sensor[k]).good = s.reading k x ∧ (t.thm.sensor[k]).at_ = s.tb.tod ∧ (t.thm.sensor[k]).valid = true ∧
    (t.thm.sensor[k]).badRun = 0 ∧
    (t.thm.sensor[k]).warn = (s.thm.sensor[k]).warn.count (s.threshAt k 0).1 (s.threshAt k 0).2 (s.reading k x) ∧
    (t.thm.sensor[k]).thr = (s.thm.sensor[k]).thr.count (s.threshAt k 1).1 (s.threshAt k 1).2 (s.reading k x) ∧
    (t.thm.sensor[k]).shut = (s.thm.sensor[k]).shut.count (s.threshAt k 2).1 (s.threshAt k 2).2 (s.reading k x) ∧
    KeepsBut [.thm (.sensor k), .timer (.sensorSlow k), .meas .rhoNext, .tb .lastT] s t := fun k x v r s out on sound good => by
  have use : usable k (s.badness k (s.reading k x) v r) = true := by simp [usable, good]
  have run := exec_sensorConversion (x := x) (v := v) (r := r) out on
  rw [if_neg (by rw [sound, use]; simp), good] at run
  obtain ⟨fast, taken⟩ := State.takeReading_sensor k (s.reading k x) (decide (0 = 0)) (s.modSensor k (Sensor.counted k 0))
  rw [State.modSensor_sensor] at taken
  refine ⟨_, run, ?_⟩
  dsimp only
  rw [taken]
  exact ⟨rfl, rfl, rfl, rfl, rfl, rfl, rfl, rfl,
    ((State.modSensor_keeps k _ s).append (State.takeReading_keeps k _ _ _)).weaken (by apply Part.Within.checkAt k; rfl)⟩

theorem State.sensorConversion_unusable : ∀ (k : Fin 16) (x v r : Rat) (s : State),
    s.tbOut = true →
    s.sensorOn k = true →
    (s.thm.sensor[k]).failed = false →
    usable k (s.badness k (s.reading k x) v r) = false →
    Completes (.sensorConversion k x v r) s fun t =>
    (t.thm.sensor[k]).badRun = min (failRuns k) ((s.thm.sensor[k]).badRun + s.badness k (s.reading k x) v r) ∧ (t.thm.sensor[k]).t = (s.thm.sensor[k]).t ∧
    KeepsBut [.thm (.sensor k)] s t := fun k x v r s out on sound bad => by
  have run := exec_sensorConversion (x := x) (v := v) (r := r) out on
  rw [if_pos (.inr (by rw [bad]; exact Bool.false_ne_true))] at run
  have counted := State.modSensor_sensor k (Sensor.counted k (s.badness k (s.reading k x) v r)) s
  have some_ : s.badness k (s.reading k x) v r ≠ 0 := fun h => by simp [usable, h] at bad
  refine ⟨_, run, (congrArg Sensor.badRun counted).trans (if_neg some_), (congrArg Sensor.t counted :), State.modSensor_keeps k _ s⟩

theorem State.throttleStep_active : ∀ (j : Fin 8) (s : State),
    s.due (.thrStep j) = true →
    s.anyThrottle j = true →
    s.standby = false →
    Completes (.throttleStep j) s fun t =>
    t.thm.f[j] = (if s.thm.f[j] < s.real (0x2C40 + j) 7 then s.thm.f[j] else max (s.real (0x2C40 + j) 7) (s.thm.f[j] - s.real (0x2C40 + j) 6)) ∧
    (max (s.real (0x2C40 + j) 7) (s.thm.f[j] - s.real (0x2C40 + j) 6) = s.real (0x2C40 + j) 7 → s.real (0x2C40 + j) 7 < s.thm.f[j] → Raised 0x0A03 j [] s t) ∧
    Ends (.thrStep j) (s.ns (0x2C40 + j) 8) s t ∧ KeepsBut (([.timer (.thrRestore j), .timer (.thrStep j), .thm (.f j)] : List Part)
        ++ Part.raised) s t := fun j s due throttles active => by
  have run : exec (.throttleStep j) s = .next (s.stepDown j) :=
    congrArg Host.Outcome.next (if_pos ⟨due, throttles, by rw [active]; exact Bool.false_ne_true⟩)
  obtain ⟨factor, raised, timed⟩ := State.stepDown_active active
  exact ⟨_, run, factor, raised, timed, (s.stepDown_keeps j).weaken (by apply Part.Within.checkAt j; rfl)⟩

theorem State.throttleRestore_calm : ∀ (j : Fin 8) (s : State),
    s.due (.thrRestore j) = true →
    s.anyThrottle j = false →
    (∀ k : Fin 16, bit (s.raw (0x2C40 + j) 1) k = true → s.reasserts k = false) →
    s.standby = false →
    Completes (.throttleRestore j) s fun t =>
    t.thm.f[j] = min 1 (s.thm.f[j] + s.real (0x2C40 + j) 6) ∧ (t.thm.f[j] = 1 → Raised 0x0A06 j [] s t) ∧
    (t.thm.f[j] ≠ 1 → Ends (.thrRestore j) (s.ns (0x2C40 + j) 9) s t) ∧ KeepsBut (([.timer (.thrRestore j), .thm (.f j)] : List Part)
        ++ Part.raised) s t := fun j s due none_ calm active => by
  have quiet : ¬ ((List.finRange 16).any (fun k : Fin 16 => bit (s.raw (0x2C40 + j) 1) k ∧ s.reasserts k)) = true := by
    rw [List.any_eq_true]
    rintro ⟨k, -, h⟩
    obtain ⟨masked, asserts⟩ := of_decide_eq_true h
    exact Bool.false_ne_true ((calm k masked).symm.trans asserts)
  have run : exec (.throttleRestore j) s = .next (if min 1 (s.thm.f[j] + s.real (0x2C40 + j) 6) = 1 then (s.factorRestored j).raise 0x0A06 j []
      else (s.factorRestored j).arm (.thrRestore j) (s.ns (0x2C40 + j) 9)) :=
    congrArg Host.Outcome.next (if_pos ⟨due, by rw [none_]; exact Bool.false_ne_true, by rw [active]; exact Bool.false_ne_true, quiet⟩)
  have factor : (s.factorRestored j).thm.f[j] = min 1 (s.thm.f[j] + s.real (0x2C40 + j) 6) := vector_set_eq _ _ _
  have restored : KeepsBut [.timer (.thrRestore j), .thm (.f j)] s (s.factorRestored j) :=
    (s.disarm_keeps _).append (State.setFactor_keeps j _ _)
  split at run
  next full =>
    have thm : ((s.factorRestored j).raise 0x0A06 j []).thm = (s.factorRestored j).thm := by simp
    refine ⟨_, run, ?_, fun _ => State.raise_raised _ _ _ rfl, fun other => absurd ?_ other, restored.append (State.raise_keepsBut _ _ _ _)⟩
    · rw [thm]
      exact factor
    · rw [thm]
      exact factor.trans full
  next part =>
    refine ⟨_, run, factor, fun full => absurd (factor.symm.trans full) part, fun _ => State.arm_deadline _ _ _,
      (restored.append (State.arm_keeps _ _ _)).weaken (by apply Part.Within.checkAt j; rfl)⟩

theorem State.sensorFail_runs : ∀ (k : Fin 16) (s : State),
    failRuns k ≤ (s.thm.sensor[k]).badRun →
    (s.thm.sensor[k]).failed = false →
    s.sensorOn k = true →
    Completes (.sensorFail k) s fun t =>
    (t.thm.sensor[k]).failed = true ∧ (t.thm.sensor[k]).valid = false ∧ (t.thm.sensor[k]).t = (s.thm.sensor[k]).good ∧ (t.thm.sensor[k]).warn.on = true ∧
    Raised 0x0A05 k [] s t ∧ KeepsBut (([.thm .fAll, .thm (.sensor k), .meas .rhoFrozen,
    .tb .tempStale] : List Part) ++ Part.each 8 .thrRestore ++ Part.each 8 .thrStep ++ Part.raised) s t := fun k s runs sound on => by
  have run : exec (.sensorFail k) s = .next ((s.goneThrottled k).sensorLost k) :=
    congrArg Host.Outcome.next (if_neg (not_or.2 ⟨Nat.not_lt.2 runs, not_or.2 ⟨by rw [sound]; exact Bool.false_ne_true, not_not.2 on⟩⟩))
  obtain ⟨warn, failed, valid, t⟩ := s.goneWarned_sensor k
  obtain ⟨thr, throttled⟩ := s.goneThrottled_sensor k
  have lost := State.sensorLost_keeps k (s.goneThrottled k)
  have sensor := Eq.trans (lost.get (.thm (.sensor k)) (by generalize k = j; rfl)) throttled
  exact ⟨_, run, (congrArg Sensor.failed sensor).trans failed, (congrArg Sensor.valid sensor).trans valid, (congrArg Sensor.t sensor).trans t,
    (congrArg (fun x : Sensor => x.warn.on) sensor).trans warn, (State.sensorLost_raisedNow (s.goneThrottled_raised k) k).1,
    ((s.goneThrottled_keeps k).append lost).weaken (by apply Part.Within.checkAt k; rfl)⟩

theorem State.sensorRecover_runs : ∀ (k : Fin 16) (s : State),
    (s.thm.sensor[k]).failed = true →
    10 ≤ (s.thm.sensor[k]).goodRun →
    Completes (.sensorRecover k) s fun t =>
    (t.thm.sensor[k]).failed = false ∧ (t.thm.sensor[k]).badRun = 0 ∧ KeepsBut [.meas .rhoFrozen, .thm (.sensor k),
        .tb .tempStale] s t := fun k s failed runs => by
  have cleared := State.modSensor_sensor k (fun x => { x with failed := false, goodRun := 0, badRun := 0 }) s
  have kept : KeepsBut [.thm (.sensor k)] s (s.modSensor k fun x => { x with failed := false, goodRun := 0, badRun := 0 }) := State.modSensor_keeps k _ s
  have run : exec (.sensorRecover k) s = _ := congrArg Host.Outcome.next (if_pos ⟨failed, runs⟩)
  refine ⟨_, run, ?_⟩
  split
  · exact ⟨congrArg Sensor.failed cleared, congrArg Sensor.badRun cleared, (kept.append ((KeepsBut.write_meas (l := [.meas .rhoFrozen])
      fun f hf _ _ => by
      cases f with
      | rhoFrozen => simp at hf  | chAll | moduAll | slotsAll | pairFailsAll | winAll | phaseIAll | imonVAll | stI10All | stI1All | bvsAll | hkaAll
      | hkSumAll | hkNAll | hkMeanAll | calHalfAll => trivial | _ => exact rfl) : KeepsBut [.meas .rhoFrozen] _ _)).weaken
      (by apply Part.Within.checkAt k; rfl)⟩
  · split
    · exact ⟨congrArg Sensor.failed cleared, congrArg Sensor.badRun cleared, (kept.append ((KeepsBut.write_tb (l := [.tb .tempStale])
        fun f hf _ _ => by
        cases f with
        | tempStale => simp at hf  | genAll | loopPAll | loopFAll | recFAll => trivial | _ => exact rfl) : KeepsBut [.tb .tempStale] _ _)).weaken
        (by apply Part.Within.checkAt k; rfl)⟩
    · exact ⟨congrArg Sensor.failed cleared, congrArg Sensor.badRun cleared, kept.weaken (by apply Part.Within.checkAt k; rfl)⟩

/-- Settles O21: readings, thresholds, throttling, the thermal shutdown and failed sensors. -/
theorem sensorsThresholdsThrottleAndShutdown : Obligations.SensorsThresholdsThrottleAndShutdown := by
  unfold Obligations.SensorsThresholdsThrottleAndShutdown
  refine ⟨State.sensorConversion_usable, State.sensorConversion_unusable, fun k s due => ?_, fun k s enabled above clear sound low => ?_,
    fun k s enabled above clear sound low => ?_, fun k s shuts idle solo supply => ?_, fun k s on below sound => ?_,
    fun k s on below sound => ?_, fun k s last below sound => ?_, State.throttleStep_active, State.throttleRestore_calm, State.sensorFail_runs,
    State.sensorRecover_runs⟩
  · have marked := State.modSensor_keeps k (fun x => { x with fast := false }) (s.disarm (.sensorSlow k))
    exact ⟨_, congrArg Host.Outcome.next (if_pos due), congrArg Sensor.fast (State.modSensor_sensor k _ _),
      Stopped.kept (State.disarm_deadline _ s) marked (by apply Part.outsideAt k; rfl), (s.disarm_keeps _).append marked⟩
  · have run : exec (.tempWarning k) s = .next (s.warnOn k) :=
      congrArg Host.Outcome.next (if_pos ⟨enabled, above, by rw [clear]; exact Bool.false_ne_true, by rw [sound]; exact Bool.false_ne_true,
        by rw [low]; exact Bool.false_ne_true⟩)
    exact ⟨_, run, congrArg (fun x : Sensor => x.warn.on) (s.warnOn_sensor k), State.raise_raised _ _ _ rfl, s.warnOn_keeps k⟩
  · have asserts : s.reasserts k = true := by
      unfold State.reasserts
      rw [clear, sound, low]
      exact decide_eq_true ⟨enabled, above, Bool.false_ne_true, Bool.false_ne_true, Bool.false_ne_true⟩
    have marked : RaisedNow 0x0A02 k [] s (s.throttleMarked k) := State.raise_raisedNow _ _ _ rfl
    have raised : RaisedNow 0x0A02 k [] s (s.throttleOn k) := by
      rw [State.throttleOn_eq]
      exact State.throttleSteps_raisedNow marked _
    have run : exec (.throttleActive k) s = .next (s.throttleOn k) := congrArg Host.Outcome.next (if_pos asserts)
    exact ⟨_, run, congrArg (fun x : Sensor => x.thr.on) (s.throttleOn_sensor k), raised.1,
      (s.throttleOn_keeps k).weaken (by apply Part.Within.checkAt k; rfl)⟩
  · exact State.thermalShutdown_resets shuts idle solo supply
  · have run : exec (.thresholdClear k 0) s = .next (s.modSensor k fun x => { x with warn := { x.warn with on := false, above := 0, below := 0 } }) :=
      congrArg Host.Outcome.next ((if_neg (by rw [sound]; exact Bool.false_ne_true)).trans (if_pos ⟨on, below⟩))
    exact ⟨_, run, congrArg (fun x : Sensor => x.warn.on) (State.modSensor_sensor k _ s), State.modSensor_keeps k _ s⟩
  · have run : exec (.thresholdClear k 1) s = .next (s.throttleOff k) :=
      congrArg Host.Outcome.next ((if_neg (by rw [sound]; exact Bool.false_ne_true)).trans (if_pos ⟨on, below⟩))
    have ends := State.throttleEnds_keeps k (s.throttleCleared k)
    have sensor := ends.get (.thm (.sensor k)) (by generalize k = j; rfl)
    have f : (s.throttleOff k).thm.f = s.thm.f :=
      Vector.ext fun j hj => ends.get (.thm (.f ⟨j, hj⟩)) (by generalize (⟨j, hj⟩ : Fin 8) = i; rfl)
    exact ⟨_, run, (congrArg (fun x : Sensor => x.thr.on) sensor).trans (congrArg (fun x : Sensor => x.thr.on) (State.modSensor_sensor k _ s)), f,
      ((State.modSensor_keeps k _ s).append ends).weaken (by apply Part.Within.checkAt k; rfl)⟩
  · have locks : s.thm.lockSensors.getLsbD k = true := by
      rw [last, BitVec.getLsbD_ofNat, Nat.testBit_two_pow_self, Bool.and_true]
      exact decide_eq_true k.isLt
    have run : exec (.thresholdClear k 2) s = .next (s.lockoutClear k) :=
      congrArg Host.Outcome.next ((if_neg (by rw [sound]; exact Bool.false_ne_true)).trans (if_pos ⟨.inr locks, below⟩))
    obtain ⟨on, lockout, sensors⟩ := State.lockoutClear_last last
    exact ⟨_, run, on, lockout, sensors, (s.lockoutClear_keeps k).weaken (by apply Part.Within.checkAt k; rfl)⟩

end Sys2Proof.Machine
end

section
/-! PROOFS. Watchdogs, migration and self-test (R312 to R315, R465). -/

namespace Sys2Proof.Machine

theorem State.engExpired_keeps (e : Fin 8) (s : State) :
    KeepsBut [.timer (.wdog ↑e), .eng (.eng e)] s (State.engExpired e s) := by
  unfold State.engExpired
  dsimp only
  exact KeepsBut.weaken (KeepsBut.after (State.modEng_keeps _ _ _) (State.disarm_keeps _ _)) (by apply Part.Within.checkAt e; rfl)

theorem State.engBlock_keeps (e : Fin 8) (s : State) :
    KeepsBut [.rst .blk, .timer (.blkHold (16 + ↑e))] s (State.engBlock e s) := by
  unfold State.engBlock
  dsimp only
  exact KeepsBut.weaken (KeepsBut.after (State.arm_keeps _ _ _) (KeepsBut.write_rst (l := [.rst .blk]) fun f hf _ _ => by
      cases f with | blk => simp at hf | _ => exact rfl)) (by apply Part.Within.checkAt e; rfl)

theorem State.retireEngine_keeps (e : Fin 8) (s : State) :
    KeepsBut (([.timer (.selfTest ↑e), .eng (.eng e)] : List Part) ++ Part.raised) s (State.retireEngine e s) := by
  unfold State.retireEngine
  exact KeepsBut.weaken (KeepsBut.after (State.raise_keepsBut _ _ _ _)
      (KeepsBut.after (State.modEng_keeps _ _ _) (State.disarm_keeps _ _))) (by apply Part.Within.checkAt e; rfl)

theorem State.hotSpare_keeps (e : Fin 8) (s : State) :
    KeepsBut (([.eng (.eng 7), .timer (.wdog 7), .eng (.host e), .timer (.selfTest ↑e), .eng (.eng e)] : List Part) ++ Part.raised)
        s (State.hotSpare e s) := by
  unfold State.hotSpare
  dsimp only
  exact KeepsBut.ite _ (KeepsBut.weaken (KeepsBut.after (State.retireEngine_keeps _ _) (KeepsBut.after (State.raise_keepsBut _ _ _ _) (KeepsBut.after
      (KeepsBut.write_eng (l := [.eng (.host e)]) fun f hf _ _ => by
      cases f with
      | host j => exact vector_set_getElem_ne (by rintro rfl; simp at hf) | engAll | loadAll | hostAll | epochAll | dbAll | dbMaskAll | txDataAll
      | queueAll | lockAll | armAll => trivial | _ => exact rfl)
      (KeepsBut.after (State.arm_keeps _ _ _) (State.modEng_keeps _ _ _))))) (by apply Part.Within.checkAt e; rfl)) (KeepsBut.weaken
      (KeepsBut.after (State.arm_keeps _ _ _) (KeepsBut.after (State.modEng_keeps _ _ _) (KeepsBut.after (State.raise_keepsBut _ _ _ _)
      (KeepsBut.after (KeepsBut.write_eng (l := [.eng (.host e)]) fun f hf _ _ => by
      cases f with
      | host j => exact vector_set_getElem_ne (by rintro rfl; simp at hf) | engAll | loadAll | hostAll | epochAll | dbAll | dbMaskAll | txDataAll
      | queueAll | lockAll | armAll => trivial | _ => exact rfl)
      (KeepsBut.after (State.arm_keeps _ _ _) (State.modEng_keeps _ _ _)))))) (by apply Part.Within.checkAt e; rfl))

theorem State.setEpoch_keeps (e : Fin 8) (s : State) :
    KeepsBut (([.net .shadow, .net .claim, .net (.sess (sessIx Session.canA)), .net (.sess (sessIx Session.canB)), .net (.sess (sessIx Session.spi)),
        .eng .lockAll, .eng .armAll, .eng .dbAll, .pins .spiIrq, .eng (.epoch (engIx e)), .eng .queueAll] : List Part) ++ Part.raised)
        s (State.setEpoch e s) := by
  unfold State.setEpoch
  dsimp only
  exact KeepsBut.viaIf (KeepsBut.weaken (KeepsBut.after (State.endSession_keeps _ _ _)
      (KeepsBut.after (State.endSession_keeps _ _ _) (State.endSession_keeps _ _ _))) (by apply Part.Within.checkAt e; rfl))
      (KeepsBut.weaken (State.newEpoch_keeps _ _) (by apply Part.Within.checkAt e; rfl))

theorem State.liveEnd_keeps (s : State) :
    KeepsBut [.upd .live, .upd .liveDone, .upd .liveBack, .upd .version, .timer .trial] s (State.liveEnd s) := by
  unfold State.liveEnd
  dsimp only
  exact KeepsBut.ite _ (KeepsBut.weaken (KeepsBut.write_upd (l := [.upd .live, .upd .liveDone, .upd .liveBack, .upd .version]) fun f hf _ _ => by
      cases f with
      | live | liveDone | liveBack | version => simp at hf | slotAll | dataAll | keyAll => trivial | _ => exact rfl) (by exact .check rfl))
      (KeepsBut.weaken (KeepsBut.after (State.arm_keeps _ _ _) (KeepsBut.write_upd (l := [.upd .liveDone]) fun f hf _ _ => by
      cases f with
      | liveDone => simp at hf | slotAll | dataAll | keyAll => trivial | _ => exact rfl)) (by exact .check rfl))

theorem State.liveStep_keeps (e : Fin 8) (s : State) :
    KeepsBut [.upd .liveTodo, .upd .liveDone, .upd .live, .upd .liveBack, .upd .version, .eng .engAll, .timers] s (State.liveStep e s) := by
  unfold State.liveStep
  dsimp only
  refine KeepsBut.ite _ (KeepsBut.refl _ _) ?_
  exact KeepsBut.ite _ (KeepsBut.weaken (KeepsBut.after (State.liveEnd_keeps _) (KeepsBut.write_upd (l := [.upd .liveTodo, .upd .liveDone])
      fun f hf _ _ => by
      cases f with
      | liveTodo | liveDone => simp at hf | slotAll | dataAll | keyAll => trivial | _ => exact rfl)) (by exact .check rfl)) (KeepsBut.weaken
      (KeepsBut.after (State.liveNext_keeps _) (KeepsBut.write_upd (l := [.upd .liveTodo, .upd .liveDone]) fun f hf _ _ => by
      cases f with
      | liveTodo | liveDone => simp at hf | slotAll | dataAll | keyAll => trivial | _ => exact rfl)) (by exact .check rfl))

theorem State.testPassed_keeps (e : Fin 8) (s : State) :
    KeepsBut [.upd .liveTodo, .upd .liveDone, .upd .live, .upd .liveBack, .upd .version, .eng .engAll, .timers] s (State.testPassed e s) := by
  unfold State.testPassed
  exact KeepsBut.ite _ (KeepsBut.weaken (KeepsBut.after (State.liveStep_keeps _ _)
      (KeepsBut.after (State.arm_keeps _ _ _) (State.modEng_keeps _ _ _))) (by apply Part.Within.checkAt e; rfl)) (KeepsBut.weaken
      (KeepsBut.after (State.arm_keeps _ _ _) (State.modEng_keeps _ _ _)) (by apply Part.Within.checkAt e; rfl))

theorem State.liveAbort_keeps (e : Fin 8) (s : State) :
    KeepsBut (([.timer .trial, .upd .slotAll, .upd .phase, .upd .expired, .upd .liveTodo, .upd .liveDone, .upd .liveBack, .timer (.wdog ↑e),
        .eng (.eng e), .timer (.reload ↑e)] : List Part) ++ Part.raised) s (State.liveAbort e s) := by
  unfold State.liveAbort
  dsimp only
  exact KeepsBut.weaken (KeepsBut.after (State.startReload_keeps _ _) (KeepsBut.after (State.raise_keepsBut _ _ _ _) (KeepsBut.after
      (KeepsBut.write_upd (l := [.upd .liveTodo, .upd .liveDone, .upd .liveBack]) fun f hf _ _ => by
      cases f with
      | liveTodo | liveDone | liveBack => simp at hf | slotAll | dataAll | keyAll => trivial
      | _ => exact rfl) (State.slotReverted_keeps _)))) (by apply Part.Within.checkAt e; rfl)

/-- A step that leaves the settings, the calibration in use and the cascade position leaves what every object reads. -/
theorem KeepsBut.raw {l : List Part} {s t : State} (h : KeepsBut l s t) (force : ∀ k, Part.outside l (.net (.force k)) = true)
    (rw_ : ∀ k, Part.outside l (.net (.rw k)) = true) (cal : Part.outside l (.meas .calWork) = true)
    (pos : Part.outside l (.pins .cascPos) = true) : t.raw = s.raw := by
  have cal' : t.meas.calWork = s.meas.calWork := h.get (.meas .calWork) cal
  have pos' : t.pins.cascPos = s.pins.cascPos := h.get (.pins .cascPos) pos
  funext idx sub
  have force' : t.net.force.lookup (objKey idx sub) = s.net.force.lookup (objKey idx sub) := h.get (.net (.force (objKey idx sub))) (force _)
  have rw' : t.net.rw.lookup (objKey idx sub) = s.net.rw.lookup (objKey idx sub) := h.get (.net (.rw (objKey idx sub))) (rw_ _)
  simp only [State.raw, State.default, cal', pos', rw', apply_ite (List.lookup (objKey idx sub)), force']

theorem State.ns_congr {s t : State} (h : t.raw = s.raw) : t.ns = s.ns := by
  funext idx sub
  exact congrArg (fun c => Cfg.ns c idx sub) h

/-! ## Codes that stay raised over sessions that end and epochs that count -/

theorem RaisedNow.endSession {c i : Nat} {v : List Nat} {s a : State} (h : RaisedNow c i v s a) (w : Session) (asked : Bool) :
    RaisedNow c i v s (a.endSession w asked) := by
  have ended := h.kept (a.sessionEnded_keeps w) (by cases w <;> rfl) (by cases w <;> rfl) (by cases w <;> rfl) (by cases w <;> rfl)
  rw [State.endSession_eq]
  split
  · exact ended
  · exact ended.raise _ _ _

theorem RaisedNow.newEpoch {c i : Nat} {v : List Nat} {s a : State} (h : RaisedNow c i v s a) (k : Fin 11) : RaisedNow c i v s (a.newEpoch k) := by
  have bumped := h.kept (State.bumpEpoch_keeps k a) (by apply Part.outsideAt k; rfl) (by apply Part.outsideAt k; rfl)
    (by apply Part.outsideAt k; rfl) (by apply Part.outsideAt k; rfl)
  rw [State.newEpoch_eq]
  split
  · exact bumped
  · exact (bumped.each (fun n b hb => hb.kept (KeepsBut.whole (m := [.eng .lockAll, .eng .armAll, .eng .dbAll, .pins .spiIrq])
      (State.freeLock_keepsBut n b) rfl) rfl rfl rfl rfl) _).raise _ _ _

theorem RaisedNow.setEpoch {c i : Nat} {v : List Nat} {s a : State} (h : RaisedNow c i v s a) (e : Fin 8) : RaisedNow c i v s (a.setEpoch e) := by
  unfold State.setEpoch
  dsimp only
  split
  · exact (((h.newEpoch _).endSession _ _).endSession _ _).endSession _ _
  · exact h.newEpoch _

/-! ## How many records a step stages -/

theorem State.raise_length (c i : Nat) (v : List Nat) (s : State) : (s.raise c i v).evr.staging.length ≤ s.evr.staging.length + 1 := by
  by_cases room : s.evr.staging.length < 16
  · rw [State.raise_staging _ _ _ _ room]
    simp
  · have full : (s.queueRecord (s.mkRecord 1 c i v)).evr.staging = s.evr.staging := by
      simp only [State.queueRecord, room, if_false]
      split <;> simp
    have fired : ((s.queueRecord (s.mkRecord 1 c i v)).fireOnFault c).evr.staging = s.evr.staging := by
      simpa [State.fireOnFault, State.fireTriggers] using full
    have same : (s.raise c i v).evr.staging = s.evr.staging := by
      simp only [State.raise]
      split
      · exact fired
      · simpa using fired
    rw [same]
    omega

theorem State.endSession_length (w : Session) (asked : Bool) (s : State) :
    (s.endSession w asked).evr.staging.length ≤ s.evr.staging.length + 1 := by
  have ended : (s.sessionEnded w).evr.staging = s.evr.staging := (s.sessionEnded_keeps w).get (.evr .staging) (by cases w <;> rfl)
  rw [State.endSession_eq]
  split
  · rw [ended]
    omega
  · rw [← ended]
    exact State.raise_length _ _ _ _

theorem State.newEpoch_length (i : Fin 11) (s : State) : (s.newEpoch i).evr.staging.length ≤ s.evr.staging.length + 1 := by
  rw [State.newEpoch_eq]
  split
  · exact Nat.le_succ _
  · refine (State.raise_length _ _ _ _).trans ?_
    have freed : (State.each (s.heldBy i) State.freeLock (s.bumpEpoch i)).evr = s.evr :=
      State.each_invariant (P := fun t => t.evr = s.evr) (fun n t ht => by simpa using ht) _ _ rfl
    rw [freed]

theorem State.setEpoch_length (e : Fin 8) (s : State) : (s.setEpoch e).evr.staging.length ≤ s.evr.staging.length + 4 := by
  have epoch := s.newEpoch_length (engIx e)
  unfold State.setEpoch
  dsimp only
  split
  · have a := State.endSession_length .canA false (s.newEpoch (engIx e))
    have b := State.endSession_length .canB false ((s.newEpoch (engIx e)).endSession .canA false)
    have c := State.endSession_length .spi false (((s.newEpoch (engIx e)).endSession .canA false).endSession .canB false)
    omega
  · omega

/-! ## An engine's watchdog (R312) -/

/-- An engine whose watchdog expired: counted, its block in reset, recorded. -/
def State.engTripped (e : Fin 8) (s : State) : State := ((s.engExpired e).engBlock e).raise 0x0B04 e []

theorem State.engTripped_keeps (e : Fin 8) (s : State) :
    KeepsBut (([.timer (.wdog e), .eng (.eng e), .rst .blk, .timer (.blkHold (0x10 + e))] : List Part) ++ Part.raised) s (s.engTripped e) :=
  (((s.engExpired_keeps e).append (State.engBlock_keeps e _)).append (State.raise_keepsBut _ _ _ _)).weaken (by apply Part.Within.checkAt e; rfl)

theorem State.engTripped_eng (e : Fin 8) (s : State) : (s.engTripped e).eng.eng =
    s.eng.eng.set e { s.eng.eng[e] with expiries := bump s.eng.eng[e].expiries, expiryTimes := s.now :: s.recentExpiries e } := by
  have eng : (s.engTripped e).eng = ((s.engExpired e).engBlock e).eng := by simp [State.engTripped]
  rw [eng]
  rfl

theorem State.engTripped_raised (e : Fin 8) (s : State) : RaisedNow 0x0B04 e [] s (s.engTripped e) := State.raise_raisedNow _ _ _ rfl

/-- That engine with its set's epoch counted. -/
def State.engFresh (e : Fin 8) (s : State) : State := (s.engTripped e).setEpoch e

theorem State.setEpoch_eng (e : Fin 8) (s : State) : (s.setEpoch e).eng.eng = s.eng.eng ∧ (s.setEpoch e).eng.host = s.eng.host ∧
    (s.setEpoch e).now = s.now ∧ (s.setEpoch e).upd = s.upd := by
  have kept := s.setEpoch_keeps e
  exact ⟨Vector.ext fun i hi => kept.get (.eng (.eng ⟨i, hi⟩)) (by generalize (⟨i, hi⟩ : Fin 8) = k; apply Part.outsideAt e; rfl),
    Vector.ext fun i hi => kept.get (.eng (.host ⟨i, hi⟩)) (by generalize (⟨i, hi⟩ : Fin 8) = k; apply Part.outsideAt e; rfl),
    kept.get .now (by apply Part.outsideAt e; rfl), by simp [State.setEpoch, apply_ite State.upd]⟩

theorem State.setEpoch_epoch (e : Fin 8) (s : State) : (s.setEpoch e).eng.epoch[engIx e] = s.eng.epoch[engIx e] + 1 := by
  rw [← State.newEpoch_epoch]
  unfold State.setEpoch
  dsimp only
  split
  · have ended := (((s.newEpoch (engIx e)).endSession_keeps .canA false).append (State.endSession_keeps .canB false _)).append
      (State.endSession_keeps .spi false _)
    exact ended.get (.eng (.epoch (engIx e))) (by apply Part.outsideAt e; rfl)
  · rfl

/-- E7 hosts an engine's set. -/
def State.spareMoved (e : Fin 8) (s : State) : State :=
  { (s.modEng 7 fun x => { x with st := .hosting, tasksDone := 0 }).arm (.wdog 7) (s.ns 0x3817 3) with eng.host := s.eng.host.set e 7 }

theorem State.spareMoved_keeps (e : Fin 8) (s : State) : KeepsBut [.eng (.eng 7), .timer (.wdog 7), .eng (.host e)] s (s.spareMoved e) :=
  ((State.modEng_keeps _ _ _).append (State.arm_keeps _ _ _)).append (KeepsBut.write_eng (l := [.eng (.host e)]) fun f hf _ _ => by
      cases f with
      | host j => exact vector_set_getElem_ne (by rintro rfl; simp at hf)  | engAll | loadAll | hostAll | epochAll | dbAll | dbMaskAll | txDataAll
      | queueAll | lockAll | armAll => trivial | _ => exact rfl)

/-- That move, recorded. -/
def State.spareHosts (e : Fin 8) (s : State) : State := (s.spareMoved e).raise 0x0B06 e []

/-- The engine that E7 stands for, in its self-test. -/
def State.spareTest (e : Fin 8) (s : State) : State :=
  ((s.spareHosts e).modEng e fun x => { x with st := .selfTest, tasksDone := 0 }).arm (.selfTest e) 20000000

theorem State.hotSpare_eq (e : Fin 8) (s : State) :
    s.hotSpare e = if 3 ≤ ((s.spareHosts e).recentExpiries e).length then (s.spareHosts e).retireEngine e else s.spareTest e := rfl

theorem State.spareHosts_eng (e : Fin 8) (s : State) :
    (s.spareHosts e).eng.eng = s.eng.eng.set (7 : Fin 8) { s.eng.eng[7] with st := .hosting, tasksDone := 0 } ∧
      (s.spareHosts e).eng.host = s.eng.host.set e 7 ∧ (s.spareHosts e).now = s.now := by
  have eng : (s.spareHosts e).eng = { (s.modEng 7 fun x => { x with st := .hosting, tasksDone := 0 }).eng with host := s.eng.host.set e 7 } := by
    simp [State.spareHosts, State.spareMoved, State.modEng]
  rw [eng]
  exact ⟨rfl, rfl, by simp [State.spareHosts, State.spareMoved]⟩

/-- The expiries that count when the engine's set has moved: this one and the recent ones. -/
theorem State.spareHosts_recent {e : Fin 8} (other : e ≠ 7) (s : State) :
    (((s.engFresh e).spareHosts e).recentExpiries e).length = (s.recentExpiries e).length + 1 := by
  obtain ⟨fresh, -, now, -⟩ := (s.engTripped e).setEpoch_eng e
  obtain ⟨eng, -, now'⟩ := State.spareHosts_eng e (s.engFresh e)
  have now'' : (s.engTripped e).now = s.now := (s.engTripped_keeps e).get .now (by apply Part.outsideAt e; rfl)
  have times : ((s.engFresh e).spareHosts e).eng.eng[e].expiryTimes = s.now :: s.recentExpiries e := by
    rw [eng, vector_set_getElem_ne (by exact other), State.engFresh, fresh, State.engTripped_eng, vector_set_eq]
  rw [State.recentExpiries, times, now', State.engFresh, now, now'']
  simp [State.recentExpiries, List.filter_filter]

/-- The parts that an engine's expired watchdog may change. -/
def Part.engWdog (e : Fin 8) : List Part :=
  ([.eng (.eng e), .eng (.eng 7), .eng (.host e), .eng (.epoch (engIx e)), .eng .queueAll, .eng .lockAll, .eng .armAll, .eng .dbAll,
    .pins .spiIrq, .rst .blk, .net .sessAll, .net .shadow, .net .claim, .timers] : List Part) ++ Part.raised

theorem State.engFresh_hotSpare_keeps (e : Fin 8) (s : State) : KeepsBut (Part.engWdog e) s ((s.engFresh e).hotSpare e) :=
  (((s.engTripped_keeps e).append (State.setEpoch_keeps e _)).append (State.hotSpare_keeps e _)).weaken (by apply Part.Within.checkAt e; rfl)

/-- E7 is free before an engine's expiry exactly when it is free after it. -/
theorem State.engFresh_spareFree {e : Fin 8} (other : e ≠ 7) (s : State) : (s.engFresh e).spareFree = s.spareFree := by
  obtain ⟨eng, -, -, upd⟩ := (s.engTripped e).setEpoch_eng e
  have upd' : (s.engFresh e).upd = s.upd := upd.trans (by simp [State.engTripped, State.engBlock, State.engExpired])
  have seven : (s.engFresh e).eng.eng[7] = s.eng.eng[7] := by
    rw [State.engFresh, eng, State.engTripped_eng]
    exact vector_set_getElem_ne (i := e) (j := 7) other.symm
  unfold State.spareFree State.liveRuns
  rw [seven, upd']

theorem State.exec_engineWdog_free {e : Fin 8} {s : State} (due : s.due (.wdog e) = true) (other : e ≠ 7) (free : s.spareFree = true) :
    exec (.engineWdog e) s = .next ((s.engFresh e).hotSpare e) := by
  have fresh := (State.engFresh_spareFree other s).trans free
  show execEngineWdog e s = _
  unfold execEngineWdog
  dsimp only
  rw [if_neg (not_not.2 due), if_neg fun h => other h.1, if_neg other]
  exact congrArg Host.Outcome.next (if_pos ⟨other, fresh⟩)

/-- What the engine's set has on E7, whatever becomes of the engine. -/
theorem State.spareHosts_stands {e : Fin 8} (other : e ≠ 7) (s : State) :
    (((s.engFresh e).spareHosts e).eng.eng[7]).st = .hosting ∧ ((s.engFresh e).spareHosts e).eng.host[e] = 7 ∧
      (((s.engFresh e).spareHosts e).eng.eng[e]).expiries = bump (s.eng.eng[e]).expiries ∧
      ((s.engFresh e).spareHosts e).eng.epoch[engIx e] = s.eng.epoch[engIx e] + 1 ∧ RaisedNow 0x0B04 e [] s ((s.engFresh e).spareHosts e) ∧
      ((s.engFresh e).spareHosts e).now = s.now := by
  obtain ⟨eng, host, now⟩ := State.spareHosts_eng e (s.engFresh e)
  obtain ⟨fresh, -, now', -⟩ := (s.engTripped e).setEpoch_eng e
  have now'' : (s.engTripped e).now = s.now := (s.engTripped_keeps e).get .now (by apply Part.outsideAt e; rfl)
  have epoch : (s.engTripped e).eng.epoch[engIx e] = s.eng.epoch[engIx e] :=
    (s.engTripped_keeps e).get (.eng (.epoch (engIx e))) (by apply Part.outsideAt e; rfl)
  have epoch' := (State.setEpoch_epoch e (s.engTripped e)).trans (congrArg (· + 1) epoch)
  have same : ((s.engFresh e).spareHosts e).eng.epoch[engIx e] = (s.engFresh e).eng.epoch[engIx e] := by simp [State.spareHosts, State.spareMoved, State.modEng]
  have raised := (((s.engTripped_raised e).setEpoch e).kept (State.spareMoved_keeps e _) (by apply Part.outsideAt e; rfl) (by apply Part.outsideAt e; rfl)
    (by apply Part.outsideAt e; rfl) (by apply Part.outsideAt e; rfl)).raise 0x0B06 e []
  refine ⟨?_, ?_, ?_, same.trans epoch', raised, now.trans (now'.trans now'')⟩
  · rw [eng]
    exact congrArg Engine.st (vector_set_eq _ (7 : Fin 8) _)
  · rw [host]
    exact vector_set_eq _ _ _
  · rw [eng, vector_set_getElem_ne other, State.engFresh, fresh, State.engTripped_eng, vector_set_eq]

/-- The move to E7 is recorded where staging has room. -/
theorem State.spareHosts_recorded {e : Fin 8} {s : State} (room : s.evr.staging.length < 11) :
    ∃ r ∈ ((s.engFresh e).spareHosts e).evr.staging, r.code = 0x0B06 ∧ r.inst = e := by
  have tripped : (s.engTripped e).evr.staging.length ≤ s.evr.staging.length + 1 := State.raise_length 0x0B04 e [] ((s.engExpired e).engBlock e)
  have fresh := (s.engTripped e).setEpoch_length e
  have raised : Raised 0x0B06 e [] (s.engFresh e) ((s.engFresh e).spareHosts e) := State.raise_raised _ _ _ rfl
  obtain ⟨r, staged, code, inst, -⟩ := raised.1 (by unfold State.engFresh; omega)
  exact ⟨r, staged, code, inst⟩

/-- E7's watchdog runs from the move of the set. -/
theorem State.spareHosts_wdog (e : Fin 8) (s : State) : Ends (.wdog 7) (s.ns 0x3817 3) s ((s.engFresh e).spareHosts e) := by
  have kept := ((s.engTripped_keeps e).append (State.setEpoch_keeps e _))
  have ns : (s.engFresh e).ns = s.ns := State.ns_congr (kept.raw (fun _ => by apply Part.outsideAt e; rfl) (fun _ => by apply Part.outsideAt e; rfl)
    (by apply Part.outsideAt e; rfl) (by apply Part.outsideAt e; rfl))
  have now : (s.engFresh e).now = s.now := kept.get .now (by apply Part.outsideAt e; rfl)
  have armed : Ends (.wdog 7) ((s.engFresh e).ns 0x3817 3) (s.engFresh e) ((s.engFresh e).spareMoved e) := State.arm_deadline _ _ _
  have ends : Ends (.wdog 7) ((s.engFresh e).ns 0x3817 3) (s.engFresh e) ((s.engFresh e).spareHosts e) :=
    armed.kept (State.raise_keepsBut 0x0B06 e [] _) rfl
  rw [Ends, ns, now] at ends
  exact ends

theorem State.spareTest_keeps (e : Fin 8) (s : State) : KeepsBut [.eng (.eng e), .timer (.selfTest e)] (s.spareHosts e) (s.spareTest e) :=
  (State.modEng_keeps _ _ _).append (State.arm_keeps _ _ _)

theorem State.spareTest_stands {e : Fin 8} (other : e ≠ 7) (s : State) :
    (s.spareTest e).eng.eng[e] = { (s.spareHosts e).eng.eng[e] with st := .selfTest, tasksDone := 0 } ∧
      (s.spareTest e).eng.eng[7] = (s.spareHosts e).eng.eng[7] ∧ (s.spareTest e).eng.host[e] = (s.spareHosts e).eng.host[e] ∧
      (s.spareTest e).eng.epoch[engIx e] = (s.spareHosts e).eng.epoch[engIx e] ∧ (s.spareTest e).evr.staging = (s.spareHosts e).evr.staging ∧
      Ends (.selfTest e) 20000000 (s.spareHosts e) (s.spareTest e) := by
  have later := State.spareTest_keeps e s
  have eng : (s.spareTest e).eng.eng = (s.spareHosts e).eng.eng.set e { (s.spareHosts e).eng.eng[e] with st := .selfTest, tasksDone := 0 } := rfl
  refine ⟨?_, ?_, later.get (.eng (.host e)) (by apply Part.outsideAt e; rfl), later.get (.eng (.epoch (engIx e))) (by apply Part.outsideAt e; rfl),
    later.get (.evr .staging) (by apply Part.outsideAt e; rfl), ?_⟩
  · rw [eng]
    exact vector_set_eq _ _ _
  · rw [eng]
    exact vector_set_getElem_ne (i := e) (j := 7) other.symm
  · have now : ((s.spareHosts e).modEng e fun x => { x with st := .selfTest, tasksDone := 0 }).now = (s.spareHosts e).now := by simp
    rw [Ends, ← now]
    exact State.arm_deadline _ _ _

theorem State.engineWdog_spared : ∀ (e : Fin 8) (s : State),
    s.due (.wdog e) = true →
    e ≠ 7 →
    s.spareFree = true →
    (s.recentExpiries e).length < 2 →
    Completes (.engineWdog e) s fun t =>
    (t.eng.eng[e]).st = .selfTest ∧ (t.eng.eng[e]).expiries = bump (s.eng.eng[e]).expiries ∧ (t.eng.eng[7]).st = .hosting ∧ t.eng.host[e] = 7 ∧
    t.eng.epoch[engIx e] = s.eng.epoch[engIx e] + 1 ∧ Raised 0x0B04 e [] s t ∧ (s.evr.staging.length < 11 → ∃ r ∈ t.evr.staging, r.code = 0x0B06 ∧
    r.inst = e) ∧ Ends (.selfTest e) 20000000 s t ∧ Ends (.wdog 7) (s.ns 0x3817 3) s t ∧
    KeepsBut (([.eng (.eng e), .eng (.eng 7), .eng (.host e), .eng (.epoch (engIx e)), .eng .queueAll, .eng .lockAll, .eng .armAll, .eng .dbAll,
    .pins .spiIrq, .rst .blk, .net .sessAll, .net .shadow, .net .claim, .timers] : List Part) ++ Part.raised) s t := fun e s due other free few => by
  have run := State.exec_engineWdog_free due other free
  have kept := s.engFresh_hotSpare_keeps e
  rw [State.hotSpare_eq, if_neg (by rw [State.spareHosts_recent other]; omega)] at run kept
  obtain ⟨spare, host, expiries, epoch, raised, now⟩ := State.spareHosts_stands other s
  have recorded := State.spareHosts_recorded (e := e) (s := s)
  have later := State.spareTest_keeps e (s.engFresh e)
  have wdog := (State.spareHosts_wdog e s).kept later (by apply Part.outsideAt e; rfl)
  have raised' := raised.kept later (by apply Part.outsideAt e; rfl) (by apply Part.outsideAt e; rfl) (by apply Part.outsideAt e; rfl)
    (by apply Part.outsideAt e; rfl)
  obtain ⟨eng, spare', host', epoch', staging, ends⟩ := State.spareTest_stands other (s.engFresh e)
  refine ⟨_, run, ?_⟩
  generalize (s.engFresh e).spareTest e = t at *
  generalize (s.engFresh e).spareHosts e = a at *
  rw [Ends, now] at ends
  rw [eng, spare', host', epoch', staging]
  exact ⟨rfl, expiries, spare, host, epoch, raised'.1, recorded, ends, wdog, kept⟩

theorem State.engineWdog_retired : ∀ (e : Fin 8) (s : State),
    s.due (.wdog e) = true →
    e ≠ 7 →
    s.spareFree = true →
    2 ≤ (s.recentExpiries e).length →
    Completes (.engineWdog e) s fun t =>
    (t.eng.eng[e]).st = .retired ∧ (t.eng.eng[7]).st = .hosting ∧ t.eng.host[e] = 7 ∧ (⟨0x0B07, e⟩ : ErrEntry) ∈ t.net.batch ∧
    KeepsBut (([.eng (.eng e), .eng (.eng 7), .eng (.host e), .eng (.epoch (engIx e)), .eng .queueAll, .eng .lockAll, .eng .armAll, .eng .dbAll,
    .pins .spiIrq, .rst .blk, .net .sessAll, .net .shadow, .net .claim, .timers] : List Part)
        ++ Part.raised) s t := fun e s due other free third => by
  have run := State.exec_engineWdog_free due other free
  have kept := s.engFresh_hotSpare_keeps e
  rw [State.hotSpare_eq, if_pos (by rw [State.spareHosts_recent other]; omega)] at run kept
  obtain ⟨spare, host, -⟩ := State.spareHosts_stands other s
  have eng : (((s.engFresh e).spareHosts e).retireEngine e).eng =
      ((((s.engFresh e).spareHosts e).disarm (.selfTest e)).modEng e fun x => { x with st := .retired }).eng := by simp [State.retireEngine]
  refine ⟨_, run, ?_, ?_, ?_, State.raise_batch 0x0B07 e [] _ rfl, kept⟩
  · rw [eng]
    exact congrArg Engine.st (vector_set_eq _ _ _)
  · rw [eng]
    exact (congrArg Engine.st (vector_set_getElem_ne (i := e) (j := 7) other.symm)).trans spare
  · rw [eng]
    exact host

theorem State.setEpoch_seven (s : State) : s.setEpoch 7 = s.newEpoch 8 := rfl

theorem State.engineWdog_idle : ∀ (s : State),
    s.due (.wdog 7) = true →
    (s.eng.eng[7]).st = .idle →
    Completes (.engineWdog 7) s fun t =>
    (t.eng.eng[7]).st = .idle ∧ (t.eng.eng[7]).expiries = bump (s.eng.eng[7]).expiries ∧ t.eng.epoch[8] = s.eng.epoch[8] + 1 ∧ Raised 0x0B04 7 [] s t ∧
    KeepsBut (([.eng (.eng 7), .eng (.epoch 8), .eng .queueAll, .eng .lockAll, .eng .armAll, .eng .dbAll, .pins .spiIrq, .rst .blk, .timer (.wdog 7),
    .timer (.blkHold 0x17)] : List Part) ++ Part.raised) s t := fun s due idle => by
  have eng := State.engTripped_eng 7 s
  have seven : (s.engTripped 7).eng.eng[7] = { s.eng.eng[7] with expiries := bump s.eng.eng[7].expiries, expiryTimes := s.now :: s.recentExpiries 7 } := by
    rw [eng]
    exact vector_set_eq _ (7 : Fin 8) _
  have run : exec (.engineWdog 7) s = .next ((s.engTripped 7).newEpoch 8) := by
    show execEngineWdog 7 s = _
    unfold execEngineWdog
    exact congrArg Host.Outcome.next ((if_neg (not_not.2 due)).trans (if_pos ⟨rfl, (congrArg Engine.st seven).trans idle⟩))
  have counted := (s.engTripped 7).newEpoch_keeps 8
  have kept : (s.engTripped 7).eng.epoch[8] = s.eng.epoch[8] := (s.engTripped_keeps 7).get (.eng (.epoch 8)) rfl
  have same : ((s.engTripped 7).newEpoch 8).eng.eng[7] = (s.engTripped 7).eng.eng[7] := counted.get (.eng (.eng 7)) rfl
  have epoch := (s.engTripped 7).newEpoch_epoch 8
  refine ⟨_, run, ?_, ?_, epoch.trans (congrArg (· + 1) kept), ((s.engTripped_raised 7).newEpoch 8).1,
    ((s.engTripped_keeps 7).append counted).weaken (by exact .check rfl)⟩
  · rw [same, seven]
    exact idle
  · rw [same, seven]

/-! ## The reset where no spare is free (R312, R313) -/

theorem State.wdogReset_solo {s : State} (solo : s.active = false) (code : Nat) (cause : BitVec 16) :
    s.wdogReset code cause = s.assertReset .warm cause false := by
  unfold State.wdogReset
  rw [if_neg (by rw [solo]; exact Bool.false_ne_true)]

theorem State.releasing_congr {s t : State} (h : t.rst.phase = s.rst.phase) : t.releasing = s.releasing := by
  unfold State.releasing
  rw [h]

theorem State.active_congr {s t : State} (h : t.twin.st = s.twin.st) : t.active = s.active := by
  unfold State.active
  rw [h]

/-- An engine that no spare stands for, its set's epoch counted, recorded. -/
def State.engLost (e : Fin 8) (s : State) : State := (s.engFresh e).raise 0x0B08 e []

theorem State.engLost_keeps (e : Fin 8) (s : State) : KeepsBut (Part.engWdog e) s (s.engLost e) :=
  (((s.engTripped_keeps e).append (State.setEpoch_keeps e _)).append (State.raise_keepsBut 0x0B08 e [] _)).weaken
    (by apply Part.Within.checkAt e; rfl)

theorem State.engLost_stands (e : Fin 8) (s : State) : (s.engLost e).pending = s.pending ∧ (s.engLost e).mem = s.mem ∧
    (s.engLost e).twin = s.twin := by
  refine ⟨?_, ?_, ?_⟩ <;>
    simp [State.engLost, State.engFresh, State.setEpoch, State.engTripped, State.engBlock, State.engExpired, apply_ite State.pending,
      apply_ite State.mem, apply_ite State.twin]

theorem State.engineWdog_reset : ∀ (e : Fin 8) (s : State),
    s.due (.wdog e) = true →
    e ≠ 7 →
    s.spareFree = false →
    s.active = false →
    s.releasing = false →
    s.rst.supplyOk = true →
    Completes (.engineWdog e) s fun t =>
    t.rst.cause = causeEngWdog ∧ t.rst.scope = .warm ∧ t.rst.phase = .step 1 ∧ t.rst.warmCount = s.rst.warmCount + 1 ∧ t.pending = s.pending ∧
    t.mem.user = s.mem.user := fun e s due other free solo idle supply => by
  have fresh := (State.engFresh_spareFree other s).trans free
  have run : exec (.engineWdog e) s = .next ((s.engLost e).wdogReset 0x0B08 causeEngWdog) := by
    show execEngineWdog e s = _
    unfold execEngineWdog
    dsimp only
    rw [if_neg (not_not.2 due), if_neg fun h => other h.1, if_neg other]
    refine congrArg Host.Outcome.next (if_neg fun h => ?_)
    exact Bool.false_ne_true (fresh.symm.trans h.2)
  have kept := s.engLost_keeps e
  have phase : (s.engLost e).rst.phase = s.rst.phase := kept.get (.rst .phase) (by apply Part.outsideAt e; rfl)
  have supply' : (s.engLost e).rst.supplyOk = s.rst.supplyOk := kept.get (.rst .supplyOk) (by apply Part.outsideAt e; rfl)
  have count : (s.engLost e).rst.warmCount = s.rst.warmCount := kept.get (.rst .warmCount) (by apply Part.outsideAt e; rfl)
  obtain ⟨pending, mem, twin⟩ := s.engLost_stands e
  rw [State.wdogReset_solo ((State.active_congr (congrArg Twin.st twin)).trans solo)] at run
  obtain ⟨pending', -, user⟩ := State.assertReset_stands .warm causeEngWdog false (s.engLost e)
  refine ⟨_, run, ?_⟩
  dsimp only
  rw [State.assertReset_warm ((State.releasing_congr phase).trans idle), pending', user, pending, mem, ← count]
  obtain ⟨cause, scope, step, warm⟩ := Rst.assert_warm (supply'.trans supply) causeEngWdog
  exact ⟨cause, scope, step, warm, rfl, rfl⟩

/-- The outputs that a warm reset begins with: held, or released by a chip of a pair. -/
def State.warmOutputs (thermal : Bool) (s : State) : State := if s.pins.twinPar then s.releaseOutputs else s.holdOutputs thermal

/-- Those outputs with the identities' epochs counted. -/
def State.warmBumped (thermal : Bool) (s : State) : State :=
  State.each warmIdents State.newEpoch { s.warmOutputs thermal with eng.queue := (s.warmOutputs thermal).eng.queue.map fun q => { q with bumped := false } }

theorem State.assertReset_from {s : State} (idle : s.releasing = false) (cause : BitVec 16) (thermal : Bool) :
    s.assertReset .warm cause thermal = s.warmFrom (s.rst.assert .warm cause false) thermal (s.warmBumped thermal) := by
  simp only [State.assertReset, State.warmFrom, State.warmBumped, State.warmOutputs, idle, Bool.false_eq_true, if_false]

theorem State.warmFrom_sys (r : Rst) (thermal : Bool) (s b : State) : (s.warmFrom r thermal b).eng.sysPending = b.eng.sysPending ∧
    (s.warmFrom r thermal b).eng.sysExpiries = b.eng.sysExpiries := ⟨rfl, rfl⟩

theorem State.newEpoch_sys (i : Fin 11) (s : State) : (s.newEpoch i).eng.sysPending = s.eng.sysPending ∧
    (s.newEpoch i).eng.sysExpiries = s.eng.sysExpiries :=
  ⟨(s.newEpoch_keeps i).get (.eng .sysPending) (by apply Part.outsideAt i; rfl),
    (s.newEpoch_keeps i).get (.eng .sysExpiries) (by apply Part.outsideAt i; rfl)⟩

theorem State.warmOutputs_eng (thermal : Bool) (s : State) : (s.warmOutputs thermal).eng = s.eng := by
  unfold State.warmOutputs
  split <;> simp

/-- A warm reset leaves the system watchdog's record owed and its expiries counted. -/
theorem State.assertReset_sys {s : State} (idle : s.releasing = false) (cause : BitVec 16) (thermal : Bool) :
    (s.assertReset .warm cause thermal).eng.sysPending = s.eng.sysPending ∧
      (s.assertReset .warm cause thermal).eng.sysExpiries = s.eng.sysExpiries := by
  have outs := s.warmOutputs_eng thermal
  have bumped : (s.warmBumped thermal).eng.sysPending = s.eng.sysPending ∧ (s.warmBumped thermal).eng.sysExpiries = s.eng.sysExpiries := by
    unfold State.warmBumped
    refine State.each_invariant (P := fun t => t.eng.sysPending = s.eng.sysPending ∧ t.eng.sysExpiries = s.eng.sysExpiries)
      (fun i t ht => ⟨(t.newEpoch_sys i).1.trans ht.1, (t.newEpoch_sys i).2.trans ht.2⟩) _ _ ?_
    constructor
    · exact (congrArg Eng.sysPending outs :)
    · exact (congrArg Eng.sysExpiries outs :)
  obtain ⟨owed, count⟩ := State.warmFrom_sys (s.rst.assert .warm cause false) thermal s (s.warmBumped thermal)
  rw [State.assertReset_from idle, owed, count]
  exact bumped

theorem State.systemWdog_solo : ∀ (s : State),
    s.due .sysWdog = true →
    s.active = false →
    s.releasing = false →
    s.rst.supplyOk = true →
    Completes .systemWdog s fun t =>
    t.rst.cause = causeSysWdog ∧ t.rst.scope = .warm ∧ t.rst.phase = .step 1 ∧ t.eng.sysPending = true ∧ t.eng.sysExpiries = bump s.eng.sysExpiries ∧
    t.pending = s.pending ∧ t.mem.user = s.mem.user := fun s due solo idle supply => by
  have run : exec .systemWdog s =
      .next (({ s with eng.sysPending := true, eng.sysExpiries := bump s.eng.sysExpiries } : State).wdogReset 0x0B05 causeSysWdog) :=
    congrArg Host.Outcome.next (if_pos due)
  rw [State.wdogReset_solo (by exact solo)] at run
  obtain ⟨pending, -, user⟩ := State.assertReset_stands .warm causeSysWdog false
    { s with eng.sysPending := true, eng.sysExpiries := bump s.eng.sysExpiries }
  obtain ⟨owed, count⟩ := State.assertReset_sys (s := { s with eng.sysPending := true, eng.sysExpiries := bump s.eng.sysExpiries })
    (by exact idle) causeSysWdog false
  refine ⟨_, run, ?_⟩
  dsimp only
  rw [State.assertReset_warm (by exact idle), pending, user, owed, count]
  obtain ⟨cause, scope, step, -⟩ := Rst.assert_warm supply causeSysWdog
  exact ⟨cause, scope, step, rfl, rfl, rfl, rfl⟩

/-! ## Migration and self-test (R314, R315, R465) -/

/-- E7 takes over an engine's set. -/
def State.setMovedOut (e : Fin 8) (s : State) : State :=
  (({ s.disarm (.migrate e) with eng.host := s.eng.host.set e 7 } : State).modEng 7 fun x =>
    { x with st := .hosting, tasksDone := s.eng.eng[e].tasksDone }).arm (.wdog 7) (s.ns 0x3817 3)

theorem State.setMovedOut_keeps (e : Fin 8) (s : State) :
    KeepsBut [.timer (.migrate e), .eng (.host e), .eng (.eng 7), .timer (.wdog 7)] s (s.setMovedOut e) :=
  (((s.disarm_keeps _).append (KeepsBut.write_eng (l := [.eng (.host e)]) fun f hf _ _ => by
      cases f with
      | host j => exact vector_set_getElem_ne (by rintro rfl; simp at hf)  | engAll | loadAll | hostAll | epochAll | dbAll | dbMaskAll | txDataAll
      | queueAll | lockAll | armAll => trivial | _ => exact rfl)).append (State.modEng_keeps _ _ _)).append (State.arm_keeps _ _ _)

theorem State.setMovedOut_eng (e : Fin 8) (s : State) : (s.setMovedOut e).eng.eng =
    s.eng.eng.set (7 : Fin 8) { s.eng.eng[7] with st := .hosting, tasksDone := s.eng.eng[e].tasksDone } := rfl

theorem State.setMovedOut_host (e : Fin 8) (s : State) : (s.setMovedOut e).eng.host[e] = 7 := vector_set_eq _ _ _

theorem State.startReload_eng (e : Fin 8) (s : State) : (s.startReload e).eng.eng = s.eng.eng.set e { s.eng.eng[e] with st := .reloading } := rfl

theorem State.startReload_timers (e : Fin 8) (s : State) : Ends (.reload e) 50000000 s (s.startReload e) ∧ Stopped (.wdog e) (s.startReload e) := by
  have stopped : Stopped (.wdog e) (s.disarm (.wdog e)) := State.disarm_deadline _ s
  have later : KeepsBut [.eng (.eng e), .timer (.reload e)] (s.disarm (.wdog e)) (s.startReload e) :=
    (State.modEng_keeps _ _ _).append (State.arm_keeps _ _ _)
  have now : ((s.disarm (.wdog e)).modEng e fun x => { x with st := .reloading }).now = s.now := rfl
  refine ⟨?_, stopped.kept later (by apply Part.outsideAt e; rfl)⟩
  rw [Ends, ← now]
  exact State.arm_deadline _ _ _

theorem State.migrationDone_out : ∀ (e : Fin 8) (s : State),
    s.running (.migrate e) = true →
    s.noLocks e = true →
    (s.eng.eng[e]).st = .migratingOut →
    e ≠ 7 →
    Completes (.migrationDone e) s fun t =>
    t.eng.host[e] = 7 ∧ (t.eng.eng[7]).st = .hosting ∧ (t.eng.eng[7]).tasksDone = (s.eng.eng[e]).tasksDone ∧ (t.eng.eng[e]).st = .reloading ∧
    Stopped (.wdog e) t ∧
    Ends (.reload e) 50000000 s t ∧ Ends (.wdog 7) (s.ns 0x3817 3) s t ∧
    KeepsBut (([.timer (.migrate e), .eng (.host e), .eng .engAll, .timer (.wdog 7), .timer (.wdog e), .timer (.reload e), .timer .trial,
    .timer (.reload 7)] : List Part) ++ Part.each 8 .migrate) s t := fun e s runs free st other => by
  have run : exec (.migrationDone e) s = .next ((s.setMovedOut e).startReload e) := by
    show execMigrationDone e s = _
    unfold execMigrationDone
    rw [if_neg (not_or.2 ⟨not_not.2 runs, not_not.2 free⟩)]
    dsimp only
    rw [show (s.disarm (.migrate e)).eng.eng[e].st = .migratingOut from st]
    rfl
  have reload := State.startReload_keeps e (s.setMovedOut e)
  have eng := State.startReload_eng e (s.setMovedOut e)
  obtain ⟨ends, stopped⟩ := State.startReload_timers e (s.setMovedOut e)
  have now : (s.setMovedOut e).now = s.now := rfl
  have wdog : Ends (.wdog 7) (s.ns 0x3817 3) s (s.setMovedOut e) := State.arm_deadline _ _ _
  have wdog' : Ends (.wdog 7) (s.ns 0x3817 3) s ((s.setMovedOut e).startReload e) := by
    refine wdog.kept reload ?_
    match e, other with
    | 0, _ | 1, _ | 2, _ | 3, _ | 4, _ | 5, _ | 6, _ => rfl
    | 7, h => exact absurd rfl h
  rw [Ends, now] at ends
  have seven : ((s.setMovedOut e).startReload e).eng.eng[7] = { s.eng.eng[7] with st := .hosting, tasksDone := s.eng.eng[e].tasksDone } := by
    rw [eng, State.setMovedOut_eng]
    exact (vector_set_getElem_ne (i := e) (j := 7) other.symm).trans (vector_set_eq _ (7 : Fin 8) _)
  have own : ((s.setMovedOut e).startReload e).eng.eng[e] = { (s.setMovedOut e).eng.eng[e] with st := .reloading } := by
    rw [eng]
    exact vector_set_eq _ _ _
  have host : ((s.setMovedOut e).startReload e).eng.host[e] = (s.setMovedOut e).eng.host[e] :=
    reload.get (.eng (.host e)) (by apply Part.outsideAt e; rfl)
  refine ⟨_, run, host.trans (s.setMovedOut_host e), ?_, ?_, ?_, stopped, ends, wdog',
    ((s.setMovedOut_keeps e).append reload).weaken (by apply Part.Within.checkAt e; rfl)⟩
  · rw [seven]
  · rw [seven]
  · rw [own]

/-- An engine runs its set again, and E7 is idle. -/
def State.setMovedBack (e : Fin 8) (s : State) : State :=
  ((({ s.disarm (.migrate e) with eng.host := s.eng.host.set e e } : State).modEng e fun x =>
    { x with st := .running, tasksDone := s.eng.eng[7].tasksDone }).modEng 7 fun x => { x with st := .idle, tasksDone := 0 }).arm (.wdog e)
      (s.ns (0x3810 + e) 3)

theorem State.setMovedBack_keeps (e : Fin 8) (s : State) :
    KeepsBut [.timer (.migrate e), .eng (.host e), .eng (.eng e), .eng (.eng 7), .timer (.wdog e)] s (s.setMovedBack e) :=
  ((((s.disarm_keeps _).append (KeepsBut.write_eng (l := [.eng (.host e)]) fun f hf _ _ => by
      cases f with
      | host j => exact vector_set_getElem_ne (by rintro rfl; simp at hf)  | engAll | loadAll | hostAll | epochAll | dbAll | dbMaskAll | txDataAll
      | queueAll | lockAll | armAll => trivial
      | _ => exact rfl)).append (State.modEng_keeps _ _ _)).append (State.modEng_keeps _ _ _)).append (State.arm_keeps _ _ _)

theorem State.setMovedBack_eng {e : Fin 8} (other : e ≠ 7) (s : State) :
    (s.setMovedBack e).eng.eng[e] = { s.eng.eng[e] with st := .running, tasksDone := s.eng.eng[7].tasksDone } ∧
      (s.setMovedBack e).eng.eng[7].st = .idle ∧ (s.setMovedBack e).eng.host[e] = e := by
  have eng : (s.setMovedBack e).eng.eng = ((s.eng.eng.set e { s.eng.eng[e] with st := .running, tasksDone := s.eng.eng[7].tasksDone }).set (7 : Fin 8)
      { (s.eng.eng.set e { s.eng.eng[e] with st := .running, tasksDone := s.eng.eng[7].tasksDone })[7] with st := .idle, tasksDone := 0 }) := rfl
  refine ⟨?_, ?_, vector_set_eq _ _ _⟩
  · rw [eng, vector_set_getElem_ne other]
    exact vector_set_eq _ _ _
  · rw [eng]
    exact congrArg Engine.st (vector_set_eq _ (7 : Fin 8) _)

theorem State.liveStep_idle {s : State} (idle : s.upd.liveTodo = []) (e : Fin 8) : s.liveStep e = s := by
  unfold State.liveStep
  rw [if_pos (by rw [idle]; exact nofun)]

theorem State.migrationDone_back : ∀ (e : Fin 8) (s : State),
    s.running (.migrate e) = true →
    s.noLocks e = true →
    (s.eng.eng[e]).st = .migratingBack →
    s.upd.liveTodo = [] →
    e ≠ 7 →
    Completes (.migrationDone e) s fun t =>
    t.eng.host[e] = e ∧ (t.eng.eng[e]).st = .running ∧ (t.eng.eng[e]).tasksDone = (s.eng.eng[7]).tasksDone ∧ (t.eng.eng[7]).st = .idle ∧
    Ends (.wdog e) (s.ns (0x3810 + e) 3) s t ∧ KeepsBut [.timer (.migrate e), .eng (.host e), .eng (.eng 7), .timer (.wdog 7), .timer (.wdog e),
    .eng (.eng e), .timer (.reload e)] s t := fun e s runs free st idle other => by
  have run : exec (.migrationDone e) s = .next (s.setMovedBack e) := by
    rw [← State.liveStep_idle (s := s.setMovedBack e) idle e]
    show execMigrationDone e s = _
    unfold execMigrationDone
    rw [if_neg (not_or.2 ⟨not_not.2 runs, not_not.2 free⟩)]
    dsimp only
    rw [show (s.disarm (.migrate e)).eng.eng[e].st = .migratingBack from st]
    rfl
  obtain ⟨own, seven, host⟩ := State.setMovedBack_eng other s
  refine ⟨_, run, host, ?_, ?_, seven, State.arm_deadline _ _ _, (s.setMovedBack_keeps e).weaken (by apply Part.Within.checkAt e; rfl)⟩
  · rw [own]
  · rw [own]

theorem State.engineReloadDone_reloading : ∀ (e : Fin 8) (s : State),
    s.running (.reload e) = true →
    (s.eng.eng[e]).st = .reloading →
    Completes (.engineReloadDone e) s fun t => (t.eng.eng[e]).st = .selfTest ∧ Ends (.selfTest e) 20000000 s t ∧ Stopped (.reload e) t ∧
    KeepsBut [.timer (.reload e), .eng (.eng e), .timer (.selfTest e)] s t := fun e s runs st => by
  have marked := State.modEng_keeps e (fun x => { x with st := .selfTest }) (s.disarm (.reload e))
  have later := marked.append (State.arm_keeps (.selfTest e) 20000000 _)
  have eng : ((s.disarm (.reload e)).modEng e fun x => { x with st := .selfTest }).eng.eng[e] = { s.eng.eng[e] with st := .selfTest } := vector_set_eq _ _ _
  exact ⟨_, congrArg Host.Outcome.next (if_pos ⟨runs, st⟩), (congrArg Engine.st eng :), State.arm_deadline _ _ _,
    Stopped.kept (State.disarm_deadline _ s) later (by apply Part.outsideAt e; rfl), (s.disarm_keeps _).append later⟩

/-- An engine whose self-test is over, with its result. -/
def State.tested (e : Fin 8) (pass : Bool) (s : State) : State := (s.disarm (.selfTest e)).modEng e fun x => { x with selfTest := ofBool (!pass) }

theorem State.tested_keeps (e : Fin 8) (pass : Bool) (s : State) : KeepsBut [.timer (.selfTest e), .eng (.eng e)] s (s.tested e pass) :=
  (s.disarm_keeps _).append (State.modEng_keeps _ _ _)

theorem State.tested_eng (e : Fin 8) (pass : Bool) (s : State) : (s.tested e pass).eng.eng[e] = { s.eng.eng[e] with selfTest := ofBool (!pass) } :=
  vector_set_eq _ _ _

theorem State.exec_selfTestDone {e : Fin 8} {s : State} (runs : s.running (.selfTest e) = true) (st : (s.eng.eng[e]).st = .selfTest) (pass : Bool) :
    exec (.selfTestDone e pass) s = .next (if pass then (s.tested e pass).testPassed e
      else if s.upd.liveTodo.head? = some e ∧ ¬ s.upd.liveBack then (s.tested e pass).liveAbort e
      else ((if s.upd.liveTodo.head? = some e then { s.tested e pass with upd.liveTodo := [], upd.liveBack := false }
        else s.tested e pass).retireEngine e).giveUp 0x0B07 causeGiveUp) :=
  congrArg Host.Outcome.next (if_neg (not_or.2 ⟨not_not.2 runs, not_not.2 st⟩))

theorem State.selfTestDone_passed : ∀ (e : Fin 8) (s : State),
    s.running (.selfTest e) = true →
    (s.eng.eng[e]).st = .selfTest →
    e ≠ 7 →
    Completes (.selfTestDone e true) s fun t => (t.eng.eng[e]).st = .migratingBack ∧ (t.eng.eng[e]).selfTest = 0 ∧ Ends (.migrate e) 2000000 s t ∧
    KeepsBut [.timer (.selfTest e), .eng (.eng e), .timer (.migrate e)] s t := fun e s runs st other => by
  have run := State.exec_selfTestDone runs st true
  rw [if_pos rfl, State.testPassed, if_neg other] at run
  have eng : ((s.tested e true).modEng e fun x => { x with st := .migratingBack }).eng.eng[e] = { s.eng.eng[e] with selfTest := 0, st := .migratingBack } :=
    (vector_set_eq _ _ _).trans (congrArg (fun x : Engine => { x with st := .migratingBack }) (s.tested_eng e true))
  exact ⟨_, run, (congrArg Engine.st eng :), (congrArg Engine.selfTest eng :), State.arm_deadline _ _ _,
    (((s.tested_keeps e true).append (State.modEng_keeps _ _ _)).append (State.arm_keeps _ _ _)).weaken (by apply Part.Within.checkAt e; rfl)⟩

theorem State.retireEngine_stands (e : Fin 8) (s : State) : (s.retireEngine e).eng.eng[e] = { s.eng.eng[e] with st := .retired } ∧
    Stopped (.selfTest e) (s.retireEngine e) ∧ Raised 0x0B07 e [] s (s.retireEngine e) ∧ (s.retireEngine e).twin = s.twin := by
  have eng : (s.retireEngine e).eng = ((s.disarm (.selfTest e)).modEng e fun x => { x with st := .retired }).eng := by simp [State.retireEngine]
  have marked := State.modEng_keeps e (fun x => { x with st := .retired }) (s.disarm (.selfTest e))
  have stopped : Stopped (.selfTest e) (s.disarm (.selfTest e)) := State.disarm_deadline _ s
  refine ⟨?_, (stopped.kept marked (by apply Part.outsideAt e; rfl)).kept (State.raise_keepsBut _ _ _ _) (by apply Part.outsideAt e; rfl),
    State.raise_raised _ _ _ rfl, by simp [State.retireEngine]⟩
  rw [eng]
  exact vector_set_eq _ _ _

theorem State.selfTestDone_failed : ∀ (e : Fin 8) (s : State),
    s.running (.selfTest e) = true →
    (s.eng.eng[e]).st = .selfTest →
    s.upd.liveTodo = [] →
    s.active = false →
    Completes (.selfTestDone e false) s fun t => (t.eng.eng[e]).st = .retired ∧ (t.eng.eng[e]).selfTest = 1 ∧ Raised 0x0B07 e [] s t ∧
    Stopped (.selfTest e) t ∧ KeepsBut (([.timer (.selfTest e), .eng (.eng e)] : List Part) ++ Part.raised) s t := fun e s runs st idle solo => by
  have run := State.exec_selfTestDone runs st false
  have other : ¬ s.upd.liveTodo.head? = some e := by rw [idle]; exact nofun
  obtain ⟨eng, stopped, raised, twin⟩ := State.retireEngine_stands e (s.tested e false)
  have solo' : ((s.tested e false).retireEngine e).active = false := (State.active_congr (congrArg Twin.st twin)).trans solo
  rw [if_neg Bool.false_ne_true, if_neg fun h => other h.1, if_neg other, State.giveUp, if_neg (by rw [solo']; exact Bool.false_ne_true)] at run
  refine ⟨_, run, ?_, ?_, raised, stopped, ((s.tested_keeps e false).append (State.retireEngine_keeps e _)).weaken (by apply Part.Within.checkAt e; rfl)⟩
  · rw [eng]
  · rw [eng, State.tested_eng]
    rfl

/-- A live update that turns round at an engine. -/
def State.liveTurnedAt (e : Fin 8) (s : State) : State :=
  { s.slotReverted with upd.liveBack := true, upd.liveTodo := e :: s.upd.liveDone, upd.liveDone := [] }

theorem State.liveTurnedAt_keeps (e : Fin 8) (s : State) :
    KeepsBut [.timer .trial, .upd (.slot s.upd.other), .upd .phase, .upd .expired, .upd .liveTodo, .upd .liveDone, .upd .liveBack] s
      (s.liveTurnedAt e) :=
  ((s.disarm_keeps .trial).append
    ((KeepsBut.write_upd (l := [.upd (.slot s.upd.other), .upd .phase, .upd .expired]) fun f hf _ _ => by
        cases f with
        | phase | expired => simp at hf | slot j => exact vector_set_getElem_ne (by rintro rfl; simp at hf)  | slotAll | dataAll | keyAll => trivial
        | _ => exact rfl) : KeepsBut _ (s.disarm .trial) s.slotReverted)).append
    ((KeepsBut.write_upd (l := [.upd .liveBack, .upd .liveTodo, .upd .liveDone]) fun f hf _ _ => by
        cases f with
        | liveBack | liveTodo | liveDone => simp at hf  | slotAll | dataAll | keyAll => trivial
        | _ => exact rfl) : KeepsBut _ s.slotReverted (s.liveTurnedAt e)) |>.weaken
      (by generalize s.upd.other = j; apply Part.Within.checkAt j; rfl)

/-- That turn recorded, with the engine reloading. -/
def State.liveAborted (e : Fin 8) (s : State) : State := ((s.liveTurnedAt e).raise 0x1311 e []).startReload e

theorem State.liveAborted_upd (e : Fin 8) (s : State) : (s.liveAborted e).upd = (s.liveTurnedAt e).upd := by
  simp [State.liveAborted, State.startReload]

theorem State.liveAborted_eng (e : Fin 8) (s : State) : ((s.liveAborted e).eng.eng[e]).st = .reloading := by
  have eng := State.startReload_eng e ((s.liveTurnedAt e).raise 0x1311 e [])
  rw [State.liveAborted, eng]
  exact congrArg Engine.st (vector_set_eq _ _ _)

theorem State.selfTestDone_turned : ∀ (e : Fin 8) (s : State),
    s.running (.selfTest e) = true →
    (s.eng.eng[e]).st = .selfTest →
    s.upd.liveTodo.head? = some e →
    s.upd.liveBack = false →
    Completes (.selfTestDone e false) s fun t =>
    t.upd.liveBack = true ∧ t.upd.liveTodo = e :: s.upd.liveDone ∧ t.upd.phase = .none ∧ (t.upd.slot[s.upd.other]).st = .reverted ∧
    (t.eng.eng[e]).st = .reloading ∧
    Raised 0x1311 e [] s t ∧ Ends (.reload e) 50000000 s t ∧
    KeepsBut (([.timer (.selfTest e), .eng (.eng e), .timer .trial, .upd (.slot (s.upd.other)), .upd .phase, .upd .liveTodo, .upd .liveDone,
        .upd .liveBack,
    .upd .expired, .timer (.wdog e), .timer (.reload e)] : List Part) ++ Part.raised) s t := fun e s runs st first forth => by
  have run : exec (.selfTestDone e false) s = .next ((s.tested e false).liveAborted e) := by
    rw [State.exec_selfTestDone runs st false, if_neg Bool.false_ne_true, if_pos ⟨first, by rw [forth]; exact Bool.false_ne_true⟩]
    rfl
  have upd := State.liveAborted_upd e (s.tested e false)
  have eng := State.liveAborted_eng e (s.tested e false)
  have reload := State.startReload_keeps e (((s.tested e false).liveTurnedAt e).raise 0x1311 e [])
  have raised : Raised 0x1311 e [] s (((s.tested e false).liveTurnedAt e).raise 0x1311 e []) := State.raise_raised _ _ _ rfl
  have now : (((s.tested e false).liveTurnedAt e).raise 0x1311 e []).now = s.now := by
    simp [State.liveTurnedAt, State.slotReverted, State.tested]
  have ends := (State.startReload_timers e (((s.tested e false).liveTurnedAt e).raise 0x1311 e [])).1
  rw [Ends, now] at ends
  have kept := (((s.tested_keeps e false).append ((s.tested e false).liveTurnedAt_keeps e)).append (State.raise_keepsBut 0x1311 e [] _)).append reload
  refine ⟨_, run, ?_, ?_, ?_, ?_, eng, raised.keep (reload.get (.evr .staging) (by apply Part.outsideAt e; rfl))
    (reload.get (.net .batch) (by apply Part.outsideAt e; rfl)), ends, kept.weaken ?_⟩
  · rw [upd]
    rfl
  · rw [upd]
    rfl
  · rw [upd]
    rfl
  · rw [upd]
    exact congrArg BootSlot.st (vector_set_eq _ _ _)
  · show Part.Within (((([.timer (.selfTest e), .eng (.eng e)] : List Part) ++ [.timer .trial, .upd (.slot s.upd.other), .upd .phase, .upd .expired,
      .upd .liveTodo, .upd .liveDone, .upd .liveBack]) ++ Part.raised) ++ [.timer (.wdog e), .eng (.eng e), .timer (.reload e)]) _
    generalize s.upd.other = j
    match j with
    | 0 | 1 => apply Part.Within.checkAt e; rfl

/-- Settles O22: watchdogs, the hot spare, migration and self-test, clause by clause. -/
theorem watchdogsMigrationAndSelfTest : Obligations.WatchdogsMigrationAndSelfTest := by
  unfold Obligations.WatchdogsMigrationAndSelfTest
  exact ⟨State.engineWdog_spared, State.engineWdog_retired, State.engineWdog_idle, State.engineWdog_reset, State.systemWdog_solo,
    State.migrationDone_out, State.migrationDone_back, State.engineReloadDone_reloading, State.selfTestDone_passed, State.selfTestDone_failed,
    State.selfTestDone_turned⟩

end Sys2Proof.Machine
end

section
/-! PROOFS. Messages, locks of the host and acknowledgements (R316 to R331). -/

namespace Sys2Proof.Machine

theorem State.postBell_keeps (q : Fin 64) (s : State) :
    KeepsBut [.eng .dbAll, .pins .spiIrq] s (State.postBell q s) := by
  unfold State.postBell
  dsimp only
  refine KeepsBut.ite _ ?_ (KeepsBut.refl _ _)
  split
  · exact KeepsBut.weaken (KeepsBut.whole (m := [.eng .dbAll, .pins .spiIrq]) (State.ring_keeps _ _ _) rfl) (by exact .check rfl)
  · exact KeepsBut.refl _ _

theorem State.fullCheck_keeps (q : Fin 64) (s : State) :
    KeepsBut [.eng .fullIrq, .pins .spiIrq] s (State.fullCheck q s) := by
  unfold State.fullCheck
  dsimp only
  exact KeepsBut.ite _ (KeepsBut.weaken (KeepsBut.after (State.irqRefresh_keeps _) (KeepsBut.write_eng (l := [.eng .fullIrq]) fun f hf _ _ => by
      cases f with
      | fullIrq => simp at hf | engAll | loadAll | hostAll | epochAll | dbAll | dbMaskAll | txDataAll | queueAll | lockAll | armAll => trivial
      | _ => exact rfl)) (by exact .check rfl)) (KeepsBut.refl _ _)

theorem State.ackBell_keeps (q : Fin 64) (s : State) :
    KeepsBut [.eng .dbAll, .pins .spiIrq] s (State.ackBell q s) := by
  unfold State.ackBell
  dsimp only
  refine KeepsBut.ite _ ?_ (KeepsBut.refl _ _)
  split
  · exact KeepsBut.weaken (KeepsBut.whole (m := [.eng .dbAll, .pins .spiIrq]) (State.ring_keeps _ _ _) rfl) (by exact .check rfl)
  · exact KeepsBut.refl _ _

theorem State.storeAck_keeps (q : Fin 64) (k : Fin 16) (code : Nat) (s : State) :
    KeepsBut [.eng (.queue q), .eng .dbAll, .pins .spiIrq] s (State.storeAck q k code s) := by
  unfold State.storeAck
  dsimp only
  exact KeepsBut.weaken (KeepsBut.after (State.ackBell_keeps _ _) (State.modQueue_keeps _ _ _)) (by apply Part.Within.checkAt q; rfl)

theorem State.hostBump_keeps (s : State) :
    KeepsBut (([.eng .lockAll, .eng .armAll, .eng .dbAll, .pins .spiIrq, .eng (.epoch 0), .eng .queueAll, .net .shadow, .net .claim,
        .net (.sess (sessIx Session.spi))] : List Part) ++ Part.raised) s (State.hostBump s) := by
  unfold State.hostBump
  exact KeepsBut.weaken (KeepsBut.after (State.endSession_keeps _ _ _) (State.newEpoch_keeps _ _)) (by exact .check rfl)

theorem State.receiver_congr {s t : State} (h : t.raw = s.raw) : t.receiver = s.receiver := by
  funext q
  unfold State.receiver
  rw [h]

theorem State.proxyUp_congr {s t : State} (h : t.twin = s.twin) : t.proxyUp = s.proxyUp := by
  funext q
  unfold State.proxyUp State.active State.standby
  rw [h]

/-! ## Posts (R318, R319, R326) -/

/-- A queue whose next slot takes a message. -/
def State.posted (q : Fin 64) (d : List Byte) (s : State) : State :=
  s.modQueue q fun x => { x with slot := x.slot.set x.ptr (s.stamp q d), ptr := x.ptr + 1, seq := x.seq + 1, posts := bump x.posts }

/-- That post, with what it signals. -/
def State.postTold (q : Fin 64) (d : List Byte) (s : State) : State := ((s.posted q d).postBell q).fullCheck q

theorem State.posted_queue (q : Fin 64) (d : List Byte) (s : State) : (s.posted q d).eng.queue[q] = { s.eng.queue[q] with
    slot := s.eng.queue[q].slot.set s.eng.queue[q].ptr (s.stamp q d), ptr := s.eng.queue[q].ptr + 1, seq := s.eng.queue[q].seq + 1,
    posts := bump s.eng.queue[q].posts } := vector_set_eq _ _ _

theorem State.postTold_later (q : Fin 64) (d : List Byte) (s : State) :
    KeepsBut [.eng .dbAll, .pins .spiIrq, .eng .fullIrq] (s.posted q d) (s.postTold q d) :=
  ((State.postBell_keeps q _).append (State.fullCheck_keeps q _)).weaken (by exact .check rfl)

theorem State.postTold_keeps (q : Fin 64) (d : List Byte) (s : State) :
    KeepsBut [.eng (.queue q), .eng .dbAll, .pins .spiIrq, .eng .fullIrq] s (s.postTold q d) :=
  (State.modQueue_keeps q _ s).append (s.postTold_later q d)

theorem State.postTold_queue (q : Fin 64) (d : List Byte) (s : State) : (s.postTold q d).eng.queue[q] = { s.eng.queue[q] with
    slot := s.eng.queue[q].slot.set s.eng.queue[q].ptr (s.stamp q d), ptr := s.eng.queue[q].ptr + 1, seq := s.eng.queue[q].seq + 1,
    posts := bump s.eng.queue[q].posts } :=
  ((s.postTold_later q d).get (.eng (.queue q)) (by generalize q = k; rfl)).trans (s.posted_queue q d)

theorem State.postTold_raw (q : Fin 64) (d : List Byte) (s : State) : (s.postTold q d).raw = s.raw :=
  ((s.postTold_later q d).raw (fun _ => rfl) (fun _ => rfl) rfl rfl).trans (State.raw_congr rfl rfl rfl rfl)

theorem State.postTold_stands (q : Fin 64) (d : List Byte) (s : State) : (s.postTold q d).twin = s.twin ∧ (s.postTold q d).now = s.now := by
  simp [State.postTold, State.posted]

theorem State.post_free {q : Fin 64} {s : State} (free : ((s.eng.queue[q]).slot[(s.eng.queue[q]).ptr]).state ≠ 1) (d : List Byte) :
    s.post q d = (some ((s.eng.queue[q]).ptr, (s.stamp q d).seq), (s.postTold q d).proxySend q (s.eng.queue[q]).ptr) := if_neg free

/-- A post to an identity of the chip itself ends there. -/
theorem State.post_own {q : Fin 64} {s : State} (free : ((s.eng.queue[q]).slot[(s.eng.queue[q]).ptr]).state ≠ 1) (twin : s.receiver q ≠ 0x20)
    (casc : s.receiver q ≠ 0x21) (d : List Byte) : s.post q d = (some ((s.eng.queue[q]).ptr, (s.stamp q d).seq), s.postTold q d) := by
  have receiver := State.receiver_congr (s.postTold_raw q d)
  rw [State.post_free free, State.proxySend, if_pos (by rw [receiver]; exact ⟨twin, casc⟩)]

theorem State.proxySend_down {q : Fin 64} {s : State} (proxy : s.receiver q = 0x20 ∨ s.receiver q = 0x21) (down : s.proxyUp q = false) (k : Fin 16) :
    s.proxySend q k = s.storeAck q k 0x15 :=
  (if_neg fun h => proxy.elim h.1 h.2).trans (if_pos (by rw [down]; exact Bool.false_ne_true))

/-- A message that goes out to a peer and waits for its acknowledgement. -/
def State.proxyWaits (q : Fin 64) (k : Fin 16) (s : State) : State :=
  { s.launch (.message q s.eng.queue[q].slot[k]) with twin.proxyOut := (q.val, k.val) :: s.twin.proxyOut }.arm (.proxy q k) 10000000

theorem State.proxySend_up {q : Fin 64} {s : State} (proxy : s.receiver q = 0x20 ∨ s.receiver q = 0x21) (up : s.proxyUp q = true) (k : Fin 16) :
    s.proxySend q k = s.proxyWaits q k :=
  (if_neg fun h => proxy.elim h.1 h.2).trans (if_neg (by rw [up]; exact fun h => h rfl))

theorem State.proxyWaits_keeps (q : Fin 64) (k : Fin 16) (s : State) :
    KeepsBut [.twin .sent, .twin .proxyOut, .timer (.proxy q k)] s (s.proxyWaits q k) :=
  ((State.launch_keeps _ s).append (KeepsBut.write_twin (l := [.twin .proxyOut]) fun f hf _ _ => by
      cases f with | proxyOut => simp at hf  | delayAll => trivial | _ => exact rfl)).append (State.arm_keeps _ _ _)

theorem State.exec_mbxPost {who : Fin 11} {q : Fin 64} {d : List Byte} {s : State} (reach : s.reaches who = true) (other : who ≠ 0)
    (own : s.sender q = identCode who) (short : d.length ≤ 56) : exec (.mbxPost who q d) s = .next (s.post q d).2 :=
  congrArg Host.Outcome.next ((if_neg (not_not.2 reach)).trans ((if_neg other).trans (if_pos ⟨own, short⟩)))

theorem State.mbxPost_own : ∀ (who : Fin 11) (q : Fin 64) (d : List Byte) (s : State),
    s.reaches who = true →
    who ≠ 0 →
    s.sender q = identCode who →
    d.length ≤ 56 →
    ((s.eng.queue[q]).slot[(s.eng.queue[q]).ptr]).state ≠ 1 →
    s.receiver q ≠ 0x20 →
    s.receiver q ≠ 0x21 →
    Completes (.mbxPost who q d) s fun t =>
    (t.eng.queue[q]).slot[(s.eng.queue[q]).ptr] = s.stamp q d ∧ (t.eng.queue[q]).ptr = (s.eng.queue[q]).ptr + 1 ∧
    (t.eng.queue[q]).seq = (s.eng.queue[q]).seq + 1 ∧
    (t.eng.queue[q]).posts = bump (s.eng.queue[q]).posts ∧ KeepsBut [.eng (.queue q), .eng .dbAll, .pins .spiIrq,
        .eng .fullIrq] s t := fun who q d s reach other own short free twin casc => by
  have run := State.exec_mbxPost reach other own short
  rw [State.post_own free twin casc] at run
  refine ⟨_, run, ?_, ?_, ?_, ?_, s.postTold_keeps q d⟩
  · rw [State.postTold_queue]
    exact vector_set_eq _ _ _
  · rw [State.postTold_queue]
  · rw [State.postTold_queue]
  · rw [State.postTold_queue]

theorem State.storeAck_queue (q : Fin 64) (k : Fin 16) (code : Nat) (s : State) : (s.storeAck q k code).eng.queue[q] =
    { s.eng.queue[q] with slot := s.eng.queue[q].slot.set k { s.eng.queue[q].slot[k] with state := 2, code := code % 256 } } :=
  ((State.ackBell_keeps q _).get (.eng (.queue q)) (by generalize q = j; rfl)).trans (vector_set_eq _ _ _)

theorem State.mbxPost_unreachable : ∀ (who : Fin 11) (q : Fin 64) (d : List Byte) (s : State),
    s.reaches who = true →
    who ≠ 0 →
    s.sender q = identCode who →
    d.length ≤ 56 →
    ((s.eng.queue[q]).slot[(s.eng.queue[q]).ptr]).state ≠ 1 →
    s.receiver q = 0x20 ∨ s.receiver q = 0x21 →
    s.proxyUp q = false →
    Completes (.mbxPost who q d) s fun t =>
    (t.eng.queue[q]).slot[(s.eng.queue[q]).ptr] = { s.stamp q d with state := 2, code := 0x15 } ∧ (t.eng.queue[q]).seq = (s.eng.queue[q]).seq + 1 ∧
    KeepsBut [.eng (.queue q), .eng .dbAll, .pins .spiIrq, .eng .fullIrq] s t := fun who q d s reach other own short free proxy down => by
  have run := State.exec_mbxPost reach other own short
  have receiver := State.receiver_congr (s.postTold_raw q d)
  obtain ⟨twin, -⟩ := s.postTold_stands q d
  rw [State.post_free free, State.proxySend_down (by rw [receiver]; exact proxy) (by rw [State.proxyUp_congr twin]; exact down)] at run
  have queue := (State.storeAck_queue q (s.eng.queue[q]).ptr 0x15 (s.postTold q d))
  rw [State.postTold_queue] at queue
  refine ⟨_, run, ?_, ?_, ((s.postTold_keeps q d).append (State.storeAck_keeps q _ _ _)).weaken (by apply Part.Within.checkAt q; rfl)⟩
  · rw [queue]
    dsimp only
    rw [vector_set_eq, vector_set_eq]
  · rw [queue]

theorem State.mbxPost_peer : ∀ (who : Fin 11) (q : Fin 64) (d : List Byte) (s : State),
    s.reaches who = true →
    who ≠ 0 →
    s.sender q = identCode who →
    d.length ≤ 56 →
    ((s.eng.queue[q]).slot[(s.eng.queue[q]).ptr]).state ≠ 1 →
    s.receiver q = 0x20 ∨ s.receiver q = 0x21 →
    s.proxyUp q = true →
    Completes (.mbxPost who q d) s fun t =>
    (t.eng.queue[q]).slot[(s.eng.queue[q]).ptr] = s.stamp q d ∧ t.twin.sent.head? = some (.message q (s.stamp q d)) ∧
    Ends (.proxy q (s.eng.queue[q]).ptr) 10000000 s t ∧ KeepsBut [.eng (.queue q), .timer (.limit 3073 q), .eng .dbAll, .pins .spiIrq, .eng .fullIrq,
    .twin .sent, .twin .proxyOut,
        .timer (.proxy q ((Queue.ptr (Eng.queue (State.eng s))[q])))] s t := fun who q d s reach other own short free proxy up => by
  have run := State.exec_mbxPost reach other own short
  have receiver := State.receiver_congr (s.postTold_raw q d)
  have queue := s.postTold_queue q d
  obtain ⟨twin, now⟩ := s.postTold_stands q d
  rw [State.post_free free, State.proxySend_up (by rw [receiver]; exact proxy) (by rw [State.proxyUp_congr twin]; exact up)] at run
  have kept := s.postTold_keeps q d
  generalize s.postTold q d = a at *
  have waits := State.proxyWaits_keeps q (s.eng.queue[q]).ptr a
  have same : (a.proxyWaits q (s.eng.queue[q]).ptr).eng.queue[q] = a.eng.queue[q] := waits.get (.eng (.queue q)) (by generalize q = j; generalize (s.eng.queue[j]).ptr = k; rfl)
  have slot : (a.eng.queue[q]).slot[(s.eng.queue[q]).ptr] = s.stamp q d := by
    rw [queue]
    exact vector_set_eq _ _ _
  have ends : Ends (.proxy q (s.eng.queue[q]).ptr) 10000000 a (a.proxyWaits q (s.eng.queue[q]).ptr) := State.arm_deadline _ _ _
  have sent : (a.proxyWaits q (s.eng.queue[q]).ptr).twin.sent.head? = some (.message q (a.eng.queue[q]).slot[(s.eng.queue[q]).ptr]) := rfl
  rw [slot] at sent
  rw [Ends, now] at ends
  refine ⟨_, run, ?_, sent, ends, (kept.append waits).weaken fun p hp => .inl ?_⟩
  · rw [same]
    exact slot
  · simp only [List.cons_append, List.nil_append, List.mem_cons, List.not_mem_nil, or_false] at hp ⊢
    tauto

theorem State.mbxPost_full : ∀ (who : Fin 11) (q : Fin 64) (d : List Byte) (s : State),
    s.reaches who = true →
    who ≠ 0 →
    s.sender q = identCode who →
    d.length ≤ 56 →
    ((s.eng.queue[q]).slot[(s.eng.queue[q]).ptr]).state = 1 →
    s.running (.limit 0x0C01 q) = false →
    Completes (.mbxPost who q d) s fun t =>
    (t.eng.queue[q]).slot = (s.eng.queue[q]).slot ∧ (t.eng.queue[q]).ptr = (s.eng.queue[q]).ptr ∧ (t.eng.queue[q]).seq = (s.eng.queue[q]).seq ∧
    (t.eng.queue[q]).refused = bump (s.eng.queue[q]).refused ∧ Raised 0x0C01 q [] s t ∧
    KeepsBut (([.eng (.queue q), .timer (.limit 3073 q), .eng .dbAll, .eng .fullIrq,
    .timer (.proxy q ((Queue.ptr (Eng.queue (State.eng s))[q])))] : List Part)
        ++ Part.raised) s t := fun who q d s reach other own short full idle => by
  have run := State.exec_mbxPost reach other own short
  have post : s.post q d = (none, (s.modQueue q fun x => { x with refused := bump x.refused }).raiseLimited 0x0C01 q []) := if_pos full
  rw [post, State.raiseLimited_of_idle (by exact idle)] at run
  have counted := State.modQueue_keeps q (fun x => { x with refused := bump x.refused }) s
  have queue : (((s.modQueue q fun x => { x with refused := bump x.refused }).arm (.limit 0x0C01 q) 1000000000).raise 0x0C01 q []).eng.queue[q] =
      { s.eng.queue[q] with refused := bump s.eng.queue[q].refused } :=
    (((State.arm_keeps _ _ _).append (State.raise_keepsBut _ _ _ _)).get (.eng (.queue q)) (by generalize q = j; rfl)).trans (vector_set_eq _ _ _)
  refine ⟨_, run, ?_, ?_, ?_, ?_, State.raise_raised _ _ _ rfl,
    ((counted.append (State.arm_keeps _ _ _)).append (State.raise_keepsBut _ _ _ _)).weaken fun p hp => .inl ?_⟩
  · rw [queue]
  · rw [queue]
  · rw [queue]
  · rw [queue]
  · simp only [List.cons_append, List.nil_append, List.mem_cons, List.mem_append, List.not_mem_nil, or_false] at hp ⊢
    tauto

/-! ## The host's posts (R331) -/

/-- What the host's post register answers to a refused post. -/
def State.hostRefused (r : Nat) (s : State) : State :=
  { s with eng.postResult := 2, eng.postSlot := 0, eng.postReason := r, eng.postSeq := 0 }

/-- What it answers to a post that a slot took. -/
def State.hostPosted (k : Fin 16) (seq : Nat) (s : State) : State :=
  { s with eng.postResult := 1, eng.postSlot := k.val, eng.postReason := 0, eng.postSeq := seq }

theorem State.exec_hostPost {q : Fin 64} {d : List Byte} {s : State} (up : s.hostUp = true) : exec (.mbxPost 0 q d) s = .next s.hostPost :=
  congrArg Host.Outcome.next ((if_neg (not_not.2 (show s.reaches 0 = true from up))).trans (if_pos rfl))

theorem State.mbxPost_long : ∀ (q : Fin 64) (d : List Byte) (s : State),
    s.hostUp = true →
    s.eng.txQueue < 16 →
    56 < s.eng.txLen →
    Completes (.mbxPost 0 q d) s fun t =>
    t.eng.postResult = 2 ∧ t.eng.postReason = 3 ∧ t.eng.queue = s.eng.queue ∧
    KeepsBut [.eng .postResult, .eng .postSlot, .eng .postReason, .eng .postSeq] s t := fun q d s up known long => by
  have post : s.hostPost = s.hostRefused 3 := (dif_pos known).trans (if_pos long)
  refine ⟨_, (State.exec_hostPost up).trans (congrArg Host.Outcome.next post), rfl, rfl, rfl, (KeepsBut.write_eng (l := [.eng .postResult,
      .eng .postSlot, .eng .postReason, .eng .postSeq]) fun f hf _ _ => by
      cases f with
      | postResult | postSlot | postReason | postSeq => simp at hf  | engAll | loadAll | hostAll | epochAll | dbAll | dbMaskAll | txDataAll
      | queueAll | lockAll | armAll => trivial | _ => exact rfl)⟩

theorem State.mbxPost_host : ∀ (q : Fin 64) (m : Fin 64) (d : List Byte) (s : State),
    s.hostUp = true →
    m.val < 16 →
    s.eng.txQueue = m.val →
    s.eng.txLen ≤ 56 →
    ((s.eng.queue[m]).slot[(s.eng.queue[m]).ptr]).state ≠ 1 →
    s.receiver m ≠ 0x20 →
    s.receiver m ≠ 0x21 →
    Completes (.mbxPost 0 q d) s fun t =>
    t.eng.postResult = 1 ∧ t.eng.postSlot = (s.eng.queue[m]).ptr.val ∧ t.eng.postReason = 0 ∧ t.eng.postSeq = (s.eng.queue[m]).seq.toNat ∧
    (t.eng.queue[m]).slot[(s.eng.queue[m]).ptr] = s.stamp m s.staged ∧ (t.eng.queue[m]).ptr = (s.eng.queue[m]).ptr + 1 ∧
    KeepsBut [.eng (.queue m), .eng .dbAll, .pins .spiIrq, .eng .fullIrq, .eng .postResult, .eng .postSlot, .eng .postReason,
        .eng .postSeq] s t := fun q m d s up low queue short free twin casc => by
  have known : s.eng.txQueue < 16 := by omega
  have which : (⟨s.eng.txQueue, by omega⟩ : Fin 64) = m := Fin.ext queue
  have post : s.hostPost = (s.postTold m s.staged).hostPosted (s.eng.queue[m]).ptr (s.stamp m s.staged).seq := by
    unfold State.hostPost
    dsimp only
    rw [dif_pos known, if_neg (Nat.not_lt.2 short), which, State.post_own free twin casc]
    rfl
  have answered : KeepsBut [.eng .postResult, .eng .postSlot, .eng .postReason, .eng .postSeq] (s.postTold m s.staged)
      ((s.postTold m s.staged).hostPosted (s.eng.queue[m]).ptr (s.stamp m s.staged).seq) := (KeepsBut.write_eng (l := [.eng .postResult,
          .eng .postSlot, .eng .postReason, .eng .postSeq]) fun f hf _ _ => by
          cases f with
          | postResult | postSlot | postReason | postSeq => simp at hf  | engAll | loadAll | hostAll | epochAll | dbAll | dbMaskAll | txDataAll
          | queueAll | lockAll | armAll => trivial | _ => exact rfl)
  have same : ((s.postTold m s.staged).hostPosted (s.eng.queue[m]).ptr (s.stamp m s.staged).seq).eng.queue[m] = (s.postTold m s.staged).eng.queue[m] :=
    answered.get (.eng (.queue m)) (by generalize m = j; rfl)
  refine ⟨_, (State.exec_hostPost up).trans (congrArg Host.Outcome.next post), rfl, rfl, rfl, rfl, ?_, ?_, (s.postTold_keeps m s.staged).append answered⟩
  · rw [same, State.postTold_queue]
    exact vector_set_eq _ _ _
  · rw [same, State.postTold_queue]

/-! ## Acknowledgements (R320, R322, R323) -/

theorem State.exec_mbxAck {who : Fin 11} {s : State} (reach : s.reaches who = true) (q : Fin 64) (k : Fin 16) (code : Nat) :
    exec (.mbxAck who q k code) s = .next (s.ack who q k code) := congrArg Host.Outcome.next (if_pos reach)

theorem State.mbxAck_stored : ∀ (who : Fin 11) (q : Fin 64) (k : Fin 16) (code : Nat) (s : State),
    s.reaches who = true →
    s.receiver q = identCode who →
    ((s.eng.queue[q]).slot[k]).state = 1 →
    ((s.eng.queue[q]).slot[k]).sepoch = (s.epochOf (s.sender q)).toNat →
    s.twin.proxyIn = [] →
    Completes (.mbxAck who q k code) s fun t =>
    (t.eng.queue[q]).slot[k] = { (s.eng.queue[q]).slot[k] with state := 2, code := code % 256 } ∧
    KeepsBut [.eng (.queue q), .eng .dbAll, .pins .spiIrq, .eng .orphans] s t := fun who q k code s reach own posted epoch none_ => by
  have stored := State.storeAck_queue q k code s
  have proxyIn : (s.storeAck q k code).twin.proxyIn = [] := by simpa using none_
  have reply : (s.storeAck q k code).proxyReply q k code = s.storeAck q k code := by
    unfold State.proxyReply
    rw [proxyIn]
    rfl
  have ack : s.ack who q k code = s.storeAck q k code :=
    ((if_neg (not_not.2 own)).trans ((if_neg (not_not.2 posted)).trans (if_neg (not_not.2 epoch)))).trans reply
  refine ⟨_, (State.exec_mbxAck reach q k code).trans (congrArg Host.Outcome.next ack), ?_,
    (State.storeAck_keeps q k code s).weaken (by apply Part.Within.checkAt q; rfl)⟩
  rw [stored]
  exact vector_set_eq _ _ _

/-- A slot freed without its code, counted as an orphan. -/
def State.orphaned (q : Fin 64) (k : Fin 16) (s : State) : State :=
  { s.modQueue q fun y => { y with slot := y.slot.set k { y.slot[k] with state := 0 } } with eng.orphans := bump s.eng.orphans }

theorem State.orphaned_keeps (q : Fin 64) (k : Fin 16) (s : State) : KeepsBut [.eng (.queue q), .eng .orphans] s (s.orphaned q k) :=
  (State.modQueue_keeps _ _ _).append (KeepsBut.write_eng (l := [.eng .orphans]) fun f hf _ _ => by
      cases f with
      | orphans => simp at hf  | engAll | loadAll | hostAll | epochAll | dbAll | dbMaskAll | txDataAll | queueAll | lockAll | armAll => trivial
      | _ => exact rfl)

theorem State.orphaned_slot (q : Fin 64) (k : Fin 16) (s : State) : ((s.orphaned q k).eng.queue[q]).slot[k] = { s.eng.queue[q].slot[k] with state := 0 } :=
  (congrArg (fun y : Queue => y.slot[k]) (vector_set_eq _ _ _)).trans (vector_set_eq _ _ _)

theorem State.mbxAck_orphan : ∀ (who : Fin 11) (q : Fin 64) (k : Fin 16) (code : Nat) (s : State),
    s.reaches who = true →
    s.receiver q = identCode who →
    ((s.eng.queue[q]).slot[k]).state = 1 →
    ((s.eng.queue[q]).slot[k]).sepoch ≠ (s.epochOf (s.sender q)).toNat →
    s.running (.limit 0x0C02 noInst) = false →
    Completes (.mbxAck who q k code) s fun t =>
    ((t.eng.queue[q]).slot[k]).state = 0 ∧ t.eng.orphans = bump s.eng.orphans ∧ Raised 0x0C02 noInst [q, k] s t ∧
    KeepsBut (([.eng (.queue q), .eng .dbAll, .eng .orphans, .timer (.limit 3074 noInst)] : List Part)
        ++ Part.raised) s t := fun who q k code s reach own posted epoch idle => by
  have ack : s.ack who q k code = ((s.orphaned q k).arm (.limit 0x0C02 noInst) 1000000000).raise 0x0C02 noInst [q, k] :=
    ((if_neg (not_not.2 own)).trans ((if_neg (not_not.2 posted)).trans (if_pos epoch))).trans (State.raiseLimited_of_idle (by exact idle) _)
  have later := (State.arm_keeps (.limit 0x0C02 noInst) 1000000000 (s.orphaned q k)).append (State.raise_keepsBut 0x0C02 noInst [q, k] _)
  have queue : (((s.orphaned q k).arm (.limit 0x0C02 noInst) 1000000000).raise 0x0C02 noInst [q, k]).eng.queue[q] = (s.orphaned q k).eng.queue[q] :=
    later.get (.eng (.queue q)) (by generalize q = j; rfl)
  have orphans : (((s.orphaned q k).arm (.limit 0x0C02 noInst) 1000000000).raise 0x0C02 noInst [q, k]).eng.orphans = (s.orphaned q k).eng.orphans :=
    later.get (.eng .orphans) rfl
  refine ⟨_, (State.exec_mbxAck reach q k code).trans (congrArg Host.Outcome.next ack), ?_, orphans, State.raise_raised _ _ _ rfl,
    ((s.orphaned_keeps q k).append later).weaken (by apply Part.Within.checkAt q; rfl)⟩
  rw [queue, State.orphaned_slot]

theorem State.mbxAck_foreign : ∀ (who : Fin 11) (q : Fin 64) (k : Fin 16) (code : Nat) (s : State),
    s.reaches who = true →
    s.receiver q ≠ identCode who →
    Completes (.mbxAck who q k code) s fun t => Raised 0x0C04 q [q, k] s t ∧ KeepsBut Part.raised s t := fun who q k code s reach foreign =>
  ⟨_, (State.exec_mbxAck reach q k code).trans (congrArg Host.Outcome.next (if_pos foreign)), State.raise_raised _ _ _ rfl,
    State.raise_keepsBut _ _ _ _⟩

theorem State.hostBump_ends : ∀ (s : State),
    s.hostUp = true →
    Completes .hostBump s fun t =>
    t.eng.epoch[0] = s.eng.epoch[0] + 1 ∧ (∀ n : Fin 64, (s.eng.lock[n]).owner = 0x01 → (t.eng.lock[n]).owner = 0) ∧
    (t.net.sess[sessIx .spi]).role = .observer ∧ KeepsBut (([.eng (.epoch 0), .eng .queueAll, .eng .lockAll, .eng .armAll, .eng .dbAll, .pins .spiIrq,
    .net (.sess (sessIx .spi)), .net .shadow, .net .claim] : List Part) ++ Part.raised) s t := fun s up => by
  have ended := (s.newEpoch 0).endSession_keeps .spi false
  have epoch : (s.hostBump).eng.epoch[0] = (s.newEpoch 0).eng.epoch[0] := ended.get (.eng (.epoch 0)) rfl
  have freed (n : Fin 64) : (s.hostBump).eng.lock[n] = (s.newEpoch 0).eng.lock[n] := ended.get (.eng (.lock n)) (by generalize n = j; rfl)
  refine ⟨_, congrArg Host.Outcome.next (if_pos up), epoch.trans (s.newEpoch_epoch 0), fun n own => ?_, State.endSession_observer _ _ _,
    s.hostBump_keeps.weaken (by exact .check rfl)⟩
  rw [freed, State.newEpoch_owner 0]
  exact if_pos own

/-- Settles O23: posts, refusals and acknowledgements, clause by clause. -/
theorem messagesArePostedAndAcknowledged : Obligations.MessagesArePostedAndAcknowledged := by
  unfold Obligations.MessagesArePostedAndAcknowledged
  exact ⟨State.mbxPost_own, State.mbxPost_unreachable, State.mbxPost_peer, State.mbxPost_full, State.mbxPost_long, State.mbxPost_host,
    State.mbxAck_stored, State.mbxAck_orphan, State.mbxAck_foreign, State.hostBump_ends⟩

end Sys2Proof.Machine
end

section
/-! PROOFS. The temper commit accepted and validated (R343 to R346, R391). -/

namespace Sys2Proof.Machine

theorem State.acceptCommit_keeps (kind : CommitKind) (set : List (Nat × Nat)) (s : State) :
    KeepsBut [.net .commit, .timer .commitVal] s (State.acceptCommit kind set s) := by
  unfold State.acceptCommit
  dsimp only
  exact KeepsBut.weaken (KeepsBut.after (State.arm_keeps _ _ _) (KeepsBut.write_net (l := [.net .commit]) fun f hf _ _ => by
      cases f with
      | commit => simp at hf | forceAll | rwAll | sessAll | storeAll | portAll | pmAll | pmXferAll => trivial | _ => exact rfl)) (by exact .check rfl)

theorem State.dropTimers_keeps (object : Nat) (s : State) :
    KeepsBut [.tb .genAll] s (State.dropTimers object s) := by
  unfold State.dropTimers
  refine KeepsBut.via (KeepsBut.each (l := [.tb .genAll]) (fun a s => ?_) _ _) (by exact .check rfl) ?_
  · exact KeepsBut.ite _ (KeepsBut.weaken (KeepsBut.whole (m := [.tb .genAll]) (State.modGen_keeps _ _ _) rfl) (by exact .check rfl))
      (KeepsBut.refl _ _)
  exact KeepsBut.refl _ _

theorem Ends.armed {x : TimerId} {n : Nat} {s a : State} (now : a.now = s.now) : Ends x n s (a.arm x n) := by
  rw [Ends, State.arm_deadline, now]

theorem objCommit_busy {w : Session} {s : State} {d : List Byte} (claim : s.net.claim = none ∨ s.net.claim = some w) :
    (objCommit (some w)).busy s d = refuseIf (s.commitBusy ∨ (leValue d = sigTemper ∧ s.net.storing.isSome)) :=
  if_neg fun h => claim.elim (fun none_ => by simp [none_] at h) fun own => h.2 own

/-- A write that no check refuses is free of a commit and of a Store. -/
theorem objCommit_free {w : Session} {s : State} {d : List Byte} (claim : s.net.claim = none ∨ s.net.claim = some w) (idle : s.commitBusy = false)
    (storing : leValue d = sigTemper → s.net.storing = none) : (objCommit (some w)).busy s d = none := by
  rw [objCommit_busy claim]
  refine if_neg fun h => (of_decide_eq_true h).elim (fun busy => Bool.false_ne_true (idle.symm.trans busy)) fun both => ?_
  rw [storing both.1] at both
  exact Bool.false_ne_true both.2

theorem leValue_sigTemper : leValue (leBytes 4 sigTemper) = sigTemper := leValue_leBytes4 _ (by unfold sigTemper; omega)

theorem leValue_sigDrop : leValue (leBytes 4 sigDrop) = sigDrop := leValue_leBytes4 _ (by unfold sigDrop; omega)

theorem leValue_sigTemper_ne : leValue (leBytes 4 sigTemper) ≠ sigDrop := by
  rw [leValue_sigTemper]
  unfold sigTemper sigDrop
  omega

theorem objCommit_drop {w v : Option Session} {d : List Byte} {s : State} (drop : leValue d = sigDrop) : (objCommit v).effect w d s = s.dropClaim := by
  show (if leValue d = sigDrop then s.dropClaim else _) = _
  rw [if_pos drop]

theorem objCommit_accept {w v : Option Session} {d : List Byte} {s : State} (commit : leValue d ≠ sigDrop) (claim : s.net.claim.isNone = false) :
    (objCommit v).effect w d s = s.acceptCommit .user s.net.shadow := by
  unfold objCommit
  dsimp only
  rw [if_neg commit, if_neg (by rw [claim]; exact Bool.false_ne_true)]

/-- A commit of an unclaimed shadow, done at once. -/
def State.commitNothing (s : State) : State :=
  { s with net.commit := { s.net.commit with st := .done, code := 0, object := 0, owner := 0xFF }, twin.mayPair := true }

theorem State.commitNothing_keeps (s : State) : KeepsBut [.net .commit, .twin .mayPair] s s.commitNothing := (KeepsBut.of_pieces (l := [.net .commit,
    .twin .mayPair]) { State.Pieces.refl with
    net_ := fun f hf _ _ => by
      cases f with
      | commit => simp at hf  | forceAll | rwAll | sessAll | storeAll | portAll | pmAll | pmXferAll => trivial | _ => exact rfl,
    twin_ := fun f hf _ _ => by cases f with | mayPair => simp at hf  | delayAll => trivial | _ => exact rfl })

theorem objCommit_nothing {w v : Option Session} {d : List Byte} {s : State} (commit : leValue d ≠ sigDrop) (claim : s.net.claim.isNone = true) :
    (objCommit v).effect w d s = s.commitNothing := by
  unfold objCommit
  dsimp only
  rw [if_neg commit, if_pos claim]
  rfl

theorem State.writeBy_commit {w : Session} {d : List Byte} {s : State} (a : s.admits w 0x3A00 1 d = true)
    (free : (objCommit (some w)).busy (s.touch w) d = none) :
    s.writeBy w 0x3A00 1 d (objCommit (some w)) = ((objCommit (some w)).effect (some w) d (s.touch w)).answer w .done :=
  State.writeBy_local a (forwards_commands (0x3A00, 1) (by simp)) rfl rfl free rfl rfl

theorem State.commit_claimed : ∀ (w : Session) (s : State),
    s.admits w 0x3A00 1 (leBytes 4 sigTemper) = true →
    s.net.claim = some w →
    s.commitBusy = false →
    s.net.storing = none →
    Completes (.commit w) s fun t =>
    Answered w .done t ∧ t.net.commit.st = .validating ∧ t.net.commit.kind = .user ∧ t.net.commit.set = s.net.shadow ∧ t.net.shadow = s.net.shadow ∧
    t.net.claim = some w ∧
    t.net.force = s.net.force ∧ Ends .commitVal 50000000 s t ∧
    KeepsBut [.net .shadow, .net .claim, .net .commit, .timer .commitVal, .net (.sess (sessIx w)),
        .timer (.sessIdle (sessIx w))] s t := fun w s a claim idle storing => by
  have effect : (objCommit (some w)).effect (some w) (leBytes 4 sigTemper) (s.touch w) = (s.touch w).acceptCommit .user s.net.shadow :=
    objCommit_accept leValue_sigTemper_ne (by rw [show (s.touch w).net.claim = s.net.claim from rfl, claim]; rfl)
  have run := State.writeBy_commit a (objCommit_free (s := s.touch w) (.inr claim) idle fun _ => storing)
  rw [effect] at run
  have ends : Ends .commitVal 50000000 s ((s.touch w).acceptCommit .user s.net.shadow) := State.arm_deadline _ _ _
  exact ⟨_, congrArg Host.Outcome.next run, State.answer_answered _ _ _, rfl, rfl, rfl, rfl, claim, rfl,
    ends.kept (State.answer_keeps w .done _) (by cases w <;> rfl),
    ((State.acceptCommit_keeps .user s.net.shadow (s.touch w)).write _).weaken (by cases w <;> exact .check rfl)⟩

theorem State.commit_unclaimed : ∀ (w : Session) (s : State),
    s.admits w 0x3A00 1 (leBytes 4 sigTemper) = true →
    s.net.claim = none →
    s.commitBusy = false →
    s.net.storing = none →
    Completes (.commit w) s fun t => Answered w .done t ∧ t.net.commit.st = .done ∧ t.net.commit.code = 0 ∧ t.net.commit.count = s.net.commit.count ∧
    t.net.force = s.net.force ∧ KeepsBut [.net .shadow, .net .claim, .net .commit, .twin .mayPair, .timer .commitVal, .twin .sent,
        .net (.sess (sessIx w)),
    .timer (.sessIdle (sessIx w))] s t := fun w s a claim idle storing => by
  have effect : (objCommit (some w)).effect (some w) (leBytes 4 sigTemper) (s.touch w) = (s.touch w).commitNothing :=
    objCommit_nothing leValue_sigTemper_ne (by rw [show (s.touch w).net.claim = s.net.claim from rfl, claim]; rfl)
  have run := State.writeBy_commit a (objCommit_free (s := s.touch w) (.inl claim) idle fun _ => storing)
  rw [effect] at run
  exact ⟨_, congrArg Host.Outcome.next run, State.answer_answered _ _ _, rfl, rfl, rfl, rfl,
    ((State.commitNothing_keeps (s.touch w)).write _).weaken (by cases w <;> exact .check rfl)⟩

theorem State.commit_foreign : ∀ (w x : Session) (s : State),
    s.admits w 0x3A00 1 (leBytes 4 sigTemper) = true →
    s.net.claim = some x →
    x ≠ w →
    Completes (.commit w) s fun t => Answered w (.abort 0x08000103) t ∧ t.net.commit = s.net.commit ∧ t.net.shadow = s.net.shadow ∧
    KeepsBut [.net .shadow, .net .claim, .net .commit, .timer .commitVal, .net (.sess (sessIx w)),
        .timer (.sessIdle (sessIx w))] s t := fun w x s a claim other => by
  have busy : (objCommit (some w)).busy (s.touch w) (leBytes 4 sigTemper) = some 0x08000103 :=
    if_pos (by rw [show (s.touch w).net.claim = s.net.claim from rfl, claim]; exact ⟨rfl, fun h => other (Option.some.inj h)⟩)
  exact ⟨_, congrArg Host.Outcome.next (State.writeBy_busy a busy), State.answer_answered _ _ _, rfl, rfl,
    (State.refused_keeps w _ s).weaken (by cases w <;> exact .check rfl)⟩

theorem State.commit_busy : ∀ (w : Session) (s : State),
    s.admits w 0x3A00 1 (leBytes 4 sigTemper) = true →
    s.net.claim = none ∨ s.net.claim = some w →
    s.commitBusy = true ∨ s.net.storing.isSome = true →
    Completes (.commit w) s fun t => Answered w (.abort 0x08000022) t ∧ t.net.commit = s.net.commit ∧ t.net.shadow = s.net.shadow ∧
    KeepsBut [.net .shadow, .net .claim, .net .commit, .timer .commitVal, .net (.sess (sessIx w)),
        .timer (.sessIdle (sessIx w))] s t := fun w s a claim busy => by
  have refused : (objCommit (some w)).busy (s.touch w) (leBytes 4 sigTemper) = some 0x08000022 :=
    (objCommit_busy (s := s.touch w) claim).trans (if_pos (decide_eq_true (busy.imp id fun storing => ⟨leValue_sigTemper, storing⟩)))
  exact ⟨_, congrArg Host.Outcome.next (State.writeBy_busy a refused), State.answer_answered _ _ _, rfl, rfl,
    (State.refused_keeps w _ s).weaken (by cases w <;> exact .check rfl)⟩

theorem State.discard_own : ∀ (w : Session) (s : State),
    s.admits w 0x3A00 1 (leBytes 4 sigDrop) = true →
    s.net.claim = none ∨ s.net.claim = some w →
    s.commitBusy = false →
    Completes (.discard w) s fun t => Answered w .done t ∧ t.net.shadow = [] ∧ t.net.claim = none ∧ t.net.force = s.net.force ∧ t.net.commit = s.net.commit ∧
    KeepsBut [.net .shadow, .net .claim, .net .commit, .timer .commitVal, .net (.sess (sessIx w)),
        .timer (.sessIdle (sessIx w))] s t := fun w s a claim idle => by
  have effect : (objCommit (some w)).effect (some w) (leBytes 4 sigDrop) (s.touch w) = (s.touch w).dropClaim := objCommit_drop leValue_sigDrop
  have other : leValue (leBytes 4 sigDrop) ≠ sigTemper := by
    rw [leValue_sigDrop]
    unfold sigTemper sigDrop
    omega
  have run := State.writeBy_commit a (objCommit_free (s := s.touch w) claim idle fun h => absurd h other)
  rw [effect] at run
  exact ⟨_, congrArg Host.Outcome.next run, State.answer_answered _ _ _, rfl, rfl, rfl, rfl,
    ((State.dropClaim_keeps (s.touch w)).write _).weaken (by cases w <;> exact .check rfl)⟩

/-! ## Validation (R345, R346, R391) -/

/-- The change set of the commit in progress with what it displaces, settled. -/
def State.settledSet (s : State) : List (Nat × Nat) := s.cfg.settled (displacing (s.displacedKeys s.net.commit.set) s.net.commit.set)

theorem State.exec_commitValidation {s : State} (validating : s.net.commit.st = .validating) (await : s.twin.awaitPeer = false) :
    exec .commitValidation s = .next s.validateCommit :=
  congrArg Host.Outcome.next ((if_neg (not_not.2 validating)).trans (if_neg (by rw [await]; exact Bool.false_ne_true)))

/-- A commit that a check refused, before the code is raised. -/
def State.commitRefused (r : CommitRefusal) (s : State) : State :=
  { (s.dropTimers r.object).disarm .commitVal with
    net.commit := { s.net.commit with st := .refused, code := r.code, object := r.object, owner := r.owner }, twin.awaitPeer := false }

theorem State.commitRefused_keeps (r : CommitRefusal) (s : State) :
    KeepsBut [.tb .genAll, .timer .commitVal, .net .commit, .twin .awaitPeer] s (s.commitRefused r) := by
  have net : ((s.dropTimers r.object).disarm .commitVal).net.commit = s.net.commit := (State.dropTimers_keeps r.object s).get (.net .commit) rfl
  have written : KeepsBut [.net .commit, .twin .awaitPeer] ((s.dropTimers r.object).disarm .commitVal) (s.commitRefused r) :=
      (KeepsBut.of_pieces (l := [.net .commit, .twin .awaitPeer]) { State.Pieces.refl with
      net_ := fun f hf _ _ => by
        cases f with
        | commit => simp at hf  | forceAll | rwAll | sessAll | storeAll | portAll | pmAll | pmXferAll => trivial | _ => exact rfl,
      twin_ := fun f hf _ _ => by cases f with | awaitPeer => simp at hf  | delayAll => trivial | _ => exact rfl })
  exact ((State.dropTimers_keeps _ _).append (State.disarm_keeps _ _)).append written

theorem State.dropTimers_net (object : Nat) (s : State) : (s.dropTimers object).net = s.net := by
  unfold State.dropTimers
  refine State.each_invariant (P := fun t => t.net = s.net) (fun i t ht => ?_) _ _ rfl
  split
  · exact ht
  · exact ht

theorem State.refuseCommit_user {s : State} (user : s.net.commit.kind = .user) (r : CommitRefusal) :
    s.refuseCommit r = (s.commitRefused r).raise 0x0D04 noInst [r.code] := by
  have same : s.refuseCommit r = ((s.commitRefused r).raise 0x0D04 noInst [r.code]).afterFailure := rfl
  have kind : ((s.commitRefused r).raise 0x0D04 noInst [r.code]).net.commit.kind = .user := by
    rw [show ((s.commitRefused r).raise 0x0D04 noInst [r.code]).net.commit = (s.commitRefused r).net.commit from
      (State.raise_keepsBut _ _ _ _).get (.net .commit) rfl]
    exact user
  rw [same]
  unfold State.afterFailure
  rw [kind]

theorem State.commitValidation_refused : ∀ (r : CommitRefusal) (s : State),
    s.net.commit.st = .validating →
    s.twin.awaitPeer = false →
    s.net.commit.kind = .user →
    s.validate false s.cfg (s.cfg.settled (displacing (s.displacedKeys s.net.commit.set) s.net.commit.set)) = .inr r →
    Completes .commitValidation s fun t =>
    t.net.commit.st = .refused ∧ t.net.commit.code = r.code ∧ t.net.commit.object = r.object ∧ t.net.commit.owner = r.owner ∧
    Raised 0x0D04 noInst [r.code] s t ∧
    t.net.shadow = s.net.shadow ∧ t.net.claim = s.net.claim ∧ t.net.force = s.net.force ∧ Stopped .commitVal t ∧
    KeepsBut (([.tb .genAll, .timer .commitVal, .net .commit, .twin .awaitPeer] : List Part)
        ++ Part.raised) s t := fun r s validating await user refused => by
  have run := State.exec_commitValidation validating await
  have step : s.validateCommit = (s.commitRefused r).raise 0x0D04 noInst [r.code] := by
    rw [← State.refuseCommit_user user]
    unfold State.validateCommit
    dsimp only
    rw [user, show decide (CommitKind.user = .boot ∨ CommitKind.user = .defaults) = false from rfl, refused]
    rfl
  rw [step] at run
  have raised : KeepsBut Part.raised (s.commitRefused r) ((s.commitRefused r).raise 0x0D04 noInst [r.code]) := State.raise_keepsBut _ _ _ _
  have commit : ((s.commitRefused r).raise 0x0D04 noInst [r.code]).net.commit = (s.commitRefused r).net.commit := raised.get (.net .commit) rfl
  have kept := (s.commitRefused_keeps r).append raised
  have stopped : Stopped .commitVal (s.commitRefused r) := State.disarm_deadline _ _
  have net := State.raise_net 0x0D04 noInst [r.code] (s.commitRefused r)
  obtain ⟨force, shadow, claim, -⟩ := net
  have dropped := s.dropTimers_net r.object
  have shadow' : (s.commitRefused r).net.shadow = s.net.shadow := (congrArg Net.shadow dropped :)
  have claim' : (s.commitRefused r).net.claim = s.net.claim := (congrArg Net.claim dropped :)
  have force' : (s.commitRefused r).net.force = s.net.force := (congrArg Net.force dropped :)
  refine ⟨_, run, ?_, ?_, ?_, ?_, State.raise_raised _ _ _ ?_, shadow.trans shadow', claim.trans claim',
    force.trans force', stopped.kept raised rfl, kept.weaken (by exact .check rfl)⟩
  · rw [commit]
    rfl
  · rw [commit]
    rfl
  · rw [commit]
    rfl
  · rw [commit]
    rfl
  · exact (s.commitRefused_keeps r).get (.evr .staging) rfl

/-- A commit whose checks passed, with the claims that it displaces recorded. -/
def State.displacedRaised (l : List Nat) (s : State) : State := State.each l (fun k => State.raise 0x0D09 noInst [k * 256]) (s.disarm .commitVal)

theorem State.displacedRaised_keeps (l : List Nat) (s : State) : KeepsBut (.timer .commitVal :: Part.raised) s (s.displacedRaised l) :=
  (s.disarm_keeps _).append (KeepsBut.each (fun _ _ => State.raise_keepsBut _ _ _ _) _ _)

theorem State.displacedRaised_net (l : List Nat) (s : State) : (s.displacedRaised l).net.force = s.net.force ∧ (s.displacedRaised l).twin = s.twin := by
  refine State.each_invariant (P := fun t => t.net.force = s.net.force ∧ t.twin = s.twin) (fun i t ht => ?_) _ _ ⟨rfl, rfl⟩
  simpa using ht

/-- What that commit displaces: owners of resources and of timers. -/
def State.displacedBy (keys : List Nat) (set : List (Nat × Nat)) (s : State) : List Nat :=
  keys ++ (s.timersDisplaced (s.cfg.overlaid set)).map Claim.key

/-- That commit with its settled set, the values before it and its order. -/
def State.orderNoted (d : List Nat) (set : List (Nat × Nat)) (order : List Nat) (s : State) : State :=
  { s.displacedRaised d with
    net.shadow := shadowSettled s.net.commit.set set (s.displacedRaised d).net.shadow
    net.commit := { s.net.commit with
      set := set, before := set.map fun p => (p.1, (s.displacedRaised d).raw (keyIndex p.1) (keySub p.1)), todo := order } }

theorem State.orderNoted_keeps (d : List Nat) (set : List (Nat × Nat)) (order : List Nat) (s : State) :
    KeepsBut (([.timer .commitVal, .net .shadow, .net .commit] : List Part) ++ Part.raised) s (s.orderNoted d set order) :=
  ((s.displacedRaised_keeps d).append ((KeepsBut.write_net (l := [.net .shadow, .net .commit]) fun f hf _ _ => by
      cases f with
      | shadow | commit => simp at hf  | forceAll | rwAll | sessAll | storeAll | portAll | pmAll | pmXferAll => trivial
      | _ => exact rfl) : KeepsBut [.net .shadow, .net .commit] (s.displacedRaised d) (s.orderNoted d set order))).weaken
    (by exact .check rfl)

theorem State.orderNoted_stands (d : List Nat) (set : List (Nat × Nat)) (order : List Nat) (s : State) :
    (s.orderNoted d set order).net.force = s.net.force ∧ (s.orderNoted d set order).twin = s.twin ∧ (s.orderNoted d set order).now = s.now ∧
      Stopped .commitVal (s.orderNoted d set order) := by
  obtain ⟨force, twin⟩ := s.displacedRaised_net d
  have stopped : Stopped .commitVal (s.disarm .commitVal) := State.disarm_deadline _ s
  have raised : KeepsBut Part.raised (s.disarm .commitVal) (s.displacedRaised d) := KeepsBut.each (fun _ _ => State.raise_keepsBut _ _ _ _) _ _
  have noted : KeepsBut [.net .shadow, .net .commit] (s.displacedRaised d) (s.orderNoted d set order) := (KeepsBut.write_net (l := [.net .shadow,
      .net .commit]) fun f hf _ _ => by
      cases f with
      | shadow | commit => simp at hf  | forceAll | rwAll | sessAll | storeAll | portAll | pmAll | pmXferAll => trivial | _ => exact rfl)
  exact ⟨force, twin, (s.orderNoted_keeps d set order).get .now rfl, (stopped.kept raised rfl).kept noted rfl⟩

theorem State.orderNoted_commit (d : List Nat) (set : List (Nat × Nat)) (order : List Nat) (s : State) :
    (s.orderNoted d set order).net.commit.st = s.net.commit.st ∧ (s.orderNoted d set order).net.commit.set = set ∧
      (s.orderNoted d set order).net.commit.todo = order := ⟨rfl, rfl, rfl⟩

theorem State.validateCommit_passed {s : State} {order : List Nat} (user : s.net.commit.kind = .user)
    (passed : s.validate false s.cfg s.settledSet = .inl order) :
    s.validateCommit = s.commitPassed (s.displacedKeys s.net.commit.set) s.settledSet order := by
  unfold State.settledSet at passed
  unfold State.validateCommit
  dsimp only
  rw [user, show decide (CommitKind.user = .boot ∨ CommitKind.user = .defaults) = false from rfl, passed]
  rfl

/-- The settled commit of the state. -/
def State.passed (order : List Nat) (s : State) : State :=
  s.orderNoted (s.displacedBy (s.displacedKeys s.net.commit.set) s.settledSet) s.settledSet order

/-- Application begins. -/
def State.applyBegun (s : State) : State := { s.disarm .peerAnswer with net.commit := { s.net.commit with st := .applying }, twin.awaitPeer := false }

theorem State.applyBegun_keeps (s : State) : KeepsBut [.timer .peerAnswer, .net .commit, .twin .awaitPeer] s s.applyBegun :=
  (s.disarm_keeps _).append (KeepsBut.of_pieces (l := [.net .commit, .twin .awaitPeer]) { State.Pieces.refl with
      net_ := fun f hf _ _ => by
        cases f with
        | commit => simp at hf  | forceAll | rwAll | sessAll | storeAll | portAll | pmAll | pmXferAll => trivial | _ => exact rfl,
      twin_ := fun f hf _ _ => by cases f with | awaitPeer => simp at hf  | delayAll => trivial | _ => exact rfl })

/-- What application's begin leaves of a commit. -/
theorem State.applyBegun_stands (s : State) : (s.applyBegun.arm .channelWait 100000000).net.commit.st = .applying ∧
    (s.applyBegun.arm .channelWait 100000000).net.commit.set = s.net.commit.set ∧
    (s.applyBegun.arm .channelWait 100000000).net.commit.todo = s.net.commit.todo ∧
    (s.applyBegun.arm .channelWait 100000000).net.force = s.net.force ∧ s.applyBegun.now = s.now := ⟨rfl, rfl, rfl, rfl, rfl⟩

theorem State.beginApply_block {s : State} {b : Nat} {rest : List Nat} (todo : s.net.commit.todo = b :: rest) :
    s.beginApply = s.applyBegun.arm .channelWait 100000000 := by
  show (if s.applyBegun.net.commit.todo = [] then s.applyBegun.commitDone else s.applyBegun.arm .channelWait 100000000) = _
  exact if_neg (by rw [show s.applyBegun.net.commit.todo = s.net.commit.todo from rfl, todo]; exact List.cons_ne_nil _ _)

theorem State.commitPassed_alone {s : State} (alone : s.twin.st ≠ .activePaired) (user : s.net.commit.kind = .user) (order : List Nat) :
    s.commitPassed (s.displacedKeys s.net.commit.set) s.settledSet order = (s.passed order).beginApply := by
  obtain ⟨-, twin, -⟩ := s.orderNoted_stands (s.displacedBy (s.displacedKeys s.net.commit.set) s.settledSet) s.settledSet order
  have st : ¬ (s.passed order).twin.st = .activePaired := by rw [State.passed, twin]; exact alone
  have peer : ¬ s.net.commit.kind = .peer := by rw [user]; exact nofun
  show (if (s.passed order).twin.st = .activePaired ∧ s.net.commit.kind = .user then _
    else if s.net.commit.kind = .peer then _ else (s.passed order).beginApply) = _
  rw [if_neg fun h => st h.1, if_neg peer]

theorem State.commitValidation_alone : ∀ (b : Nat) (rest : List Nat) (s : State),
    s.net.commit.st = .validating →
    s.twin.awaitPeer = false →
    s.net.commit.kind = .user →
    s.twin.st ≠ .activePaired →
    s.validate false s.cfg (s.cfg.settled (displacing (s.displacedKeys s.net.commit.set) s.net.commit.set)) = .inl (b :: rest) →
    Completes .commitValidation s fun t =>
    t.net.commit.st = .applying ∧ t.net.commit.todo = b :: rest ∧
    t.net.commit.set = s.cfg.settled (displacing (s.displacedKeys s.net.commit.set) s.net.commit.set) ∧ t.net.force = s.net.force ∧
    Ends .channelWait 100000000 s t ∧ Stopped .commitVal t ∧
    KeepsBut (([.timer .commitVal, .net .shadow, .net .commit, .timer .peerAnswer, .twin .awaitPeer, .timer .channelWait] : List Part)
        ++ Part.raised) s t := fun b rest s validating await user alone passed => by
  have run := State.exec_commitValidation validating await
  obtain ⟨force, -, now, stopped⟩ :=
    s.orderNoted_stands (s.displacedBy (s.displacedKeys s.net.commit.set) s.settledSet) s.settledSet (b :: rest)
  obtain ⟨-, set, todo⟩ := s.orderNoted_commit (s.displacedBy (s.displacedKeys s.net.commit.set) s.settledSet) s.settledSet (b :: rest)
  have kept := s.orderNoted_keeps (s.displacedBy (s.displacedKeys s.net.commit.set) s.settledSet) s.settledSet (b :: rest)
  rw [State.validateCommit_passed user passed, State.commitPassed_alone alone user, State.passed, State.beginApply_block todo] at run
  generalize s.orderNoted (s.displacedBy (s.displacedKeys s.net.commit.set) s.settledSet) s.settledSet (b :: rest) = a at *
  obtain ⟨st', set', todo', force', now'⟩ := a.applyBegun_stands
  have later := a.applyBegun_keeps.append (State.arm_keeps .channelWait 100000000 _)
  exact ⟨_, run, st', todo'.trans todo, set'.trans set, force'.trans force, Ends.armed (now'.trans now), stopped.kept later rfl,
    (kept.append later).weaken (by exact .check rfl)⟩

/-- The standby is asked. -/
def State.peerAsked (set : List (Nat × Nat)) (order : List Nat) (s : State) : State :=
  (({ s with twin.awaitPeer := true } : State).launch (.changeSet set order)).arm .peerAnswer 50000000

theorem State.peerAsked_keeps (set : List (Nat × Nat)) (order : List Nat) (s : State) :
    KeepsBut [.twin .awaitPeer, .twin .sent, .timer .peerAnswer] s (s.peerAsked set order) :=
  (((KeepsBut.write_twin (l := [.twin .awaitPeer]) fun f hf _ _ => by
      cases f with | awaitPeer => simp at hf  | delayAll => trivial | _ => exact rfl) : KeepsBut [.twin .awaitPeer] s { s with twin.awaitPeer := true }).append (State.launch_keeps _ _)).append (State.arm_keeps _ _ _)

theorem State.commitPassed_paired {s : State} (paired : s.twin.st = .activePaired) (user : s.net.commit.kind = .user) (order : List Nat) :
    s.commitPassed (s.displacedKeys s.net.commit.set) s.settledSet order = (s.passed order).peerAsked s.settledSet order := by
  obtain ⟨-, twin, -⟩ := s.orderNoted_stands (s.displacedBy (s.displacedKeys s.net.commit.set) s.settledSet) s.settledSet order
  have st : (s.passed order).twin.st = .activePaired := by rw [State.passed, twin]; exact paired
  show (if (s.passed order).twin.st = .activePaired ∧ s.net.commit.kind = .user then (s.passed order).peerAsked s.settledSet order else _) = _
  rw [if_pos ⟨st, user⟩]

theorem State.peerAsked_stands (set : List (Nat × Nat)) (order : List Nat) (s : State) : (s.peerAsked set order).net = s.net ∧
    (s.peerAsked set order).twin.awaitPeer = true ∧ (s.peerAsked set order).twin.sent.head? = some (.changeSet set order) ∧
    Ends .peerAnswer 50000000 s (s.peerAsked set order) := ⟨rfl, rfl, rfl, Ends.armed rfl⟩

theorem State.commitValidation_paired : ∀ (order : List Nat) (s : State),
    s.net.commit.st = .validating →
    s.twin.awaitPeer = false →
    s.net.commit.kind = .user →
    s.twin.st = .activePaired →
    s.validate false s.cfg (s.cfg.settled (displacing (s.displacedKeys s.net.commit.set) s.net.commit.set)) = .inl order →
    Completes .commitValidation s fun t =>
    t.net.commit.st = .validating ∧ t.net.commit.todo = order ∧ t.twin.awaitPeer = true ∧
    t.twin.sent.head? = some (.changeSet (s.cfg.settled (displacing (s.displacedKeys s.net.commit.set) s.net.commit.set)) order) ∧
    t.net.force = s.net.force ∧ Ends .peerAnswer 50000000 s t ∧
    KeepsBut (([.timer .commitVal, .net .shadow, .net .commit, .twin .st, .twin .awaitPeer, .twin .sent,
    .timer .peerAnswer] : List Part) ++ Part.raised) s t := fun order s validating await user paired passed => by
  have run := State.exec_commitValidation validating await
  obtain ⟨force, -, now, -⟩ := s.orderNoted_stands (s.displacedBy (s.displacedKeys s.net.commit.set) s.settledSet) s.settledSet order
  obtain ⟨st, -, todo⟩ := s.orderNoted_commit (s.displacedBy (s.displacedKeys s.net.commit.set) s.settledSet) s.settledSet order
  have kept := s.orderNoted_keeps (s.displacedBy (s.displacedKeys s.net.commit.set) s.settledSet) s.settledSet order
  rw [State.validateCommit_passed user passed, State.commitPassed_paired paired user, State.passed] at run
  generalize s.orderNoted (s.displacedBy (s.displacedKeys s.net.commit.set) s.settledSet) s.settledSet order = a at *
  have later := a.peerAsked_keeps s.settledSet order
  obtain ⟨net, await', sent, ends⟩ := a.peerAsked_stands s.settledSet order
  rw [Ends, now] at ends
  refine ⟨_, run, ?_⟩
  dsimp only
  rw [net]
  exact ⟨st.trans validating, todo, await', sent, force, ends, (kept.append later).weaken (by exact .check rfl)⟩

/-- Settles O28: commits accepted, refused, discarded and validated, clause by clause. -/
theorem commitsAreAcceptedAndValidated : Obligations.CommitsAreAcceptedAndValidated := by
  unfold Obligations.CommitsAreAcceptedAndValidated
  exact ⟨State.commit_claimed, State.commit_unclaimed, State.commit_foreign, State.commit_busy, State.discard_own, State.commitValidation_refused,
    State.commitValidation_alone, State.commitValidation_paired⟩

end Sys2Proof.Machine
end

section
/-! PROOFS. Pairing (R379 to R381). -/

namespace Sys2Proof.Machine

theorem State.twinQuiet_stopped (s : State) : Stopped .pairing s.twinQuiet := by
  have stopped : Stopped .pairing ((s.disarm .pairSend).disarm .pairing) := State.disarm_deadline _ _
  exact stopped.kept (((((((s.disarm .pairSend).disarm .pairing).disarm_keeps .aligned).append (State.disarm_keeps .mirrorLost _)).append
    (State.disarm_keeps .standbyLost _)).append (State.disarm_keeps .takeDrive _)).append (State.disarm_keeps .peerAnswer _)) rfl

theorem State.pairingFrameSend_pairing : ∀ (s : State),
    s.twin.st = .pairing →
    s.due .pairSend = true →
    Completes .pairingFrameSend s fun t => t.twin.sent.head? = some (.pairing s.pairInfo) ∧ Ends .pairSend 10000000 s t ∧
    KeepsBut [.timer .pairSend, .twin .sent] s t := fun s st due => by
  have run : exec .pairingFrameSend s = .next ((s.arm .pairSend 10000000).launch (.pairing s.pairInfo)) := congrArg Host.Outcome.next (if_pos ⟨st, due⟩)
  have sent := State.launch_keeps (.pairing s.pairInfo) (s.arm .pairSend 10000000)
  have ends : Ends .pairSend 10000000 s (s.arm .pairSend 10000000) := Ends.armed rfl
  exact ⟨_, run, rfl, ends.kept sent rfl, (s.arm_keeps _ _).append sent⟩

theorem State.pairingFrameSend_refused : ∀ (s : State),
    s.twin.st = .refused →
    s.twin.mayPair = true →
    Completes .pairingFrameSend s fun t => t.twin.sent.head? = some (.pairing s.pairInfo) ∧ t.twin.mayPair = false ∧
    KeepsBut [.twin .st, .twin .mayPair, .twin .sent] s t := fun s st may => by
  have run : exec .pairingFrameSend s = .next (({ s with twin.mayPair := false } : State).launch (.pairing s.pairInfo)) :=
    congrArg Host.Outcome.next ((if_neg fun h => by rw [st] at h; exact nomatch h.1).trans (if_pos ⟨st, may⟩))
  have marked : KeepsBut [.twin .mayPair] s { s with twin.mayPair := false } := (KeepsBut.write_twin (l := [.twin .mayPair]) fun f hf _ _ => by
      cases f with | mayPair => simp at hf  | delayAll => trivial | _ => exact rfl)
  exact ⟨_, run, rfl, rfl, (marked.append (State.launch_keeps _ _)).weaken (by exact .check rfl)⟩

/-! ## A pairing frame in state 2 (R379 to R381) -/

/-- The peer that a pairing frame tells of. -/
def State.peerSeen (p : PeerInfo) (s : State) : State := { s with twin.peer := some p }

theorem State.peerSeen_keeps (p : PeerInfo) (s : State) : KeepsBut [.twin .peer] s (s.peerSeen p) := (KeepsBut.write_twin (l := [.twin .peer])
    fun f hf _ _ => by cases f with | peer => simp at hf  | delayAll => trivial | _ => exact rfl)

theorem State.exec_pairingFrame {s : State} (up : s.up = true) (st : s.twin.st = .pairing) (p : PeerInfo) :
    exec (.pairingFrameReceived true (.pairing p)) s = .next ((s.peerSeen p).judgePeer p) := by
  refine congrArg Host.Outcome.next ((if_neg (not_not.2 up)).trans ((if_pos rfl).trans ?_))
  unfold State.peerFrame
  dsimp only
  split
  case h_3 => rfl
  all_goals next other => exact nomatch st.symm.trans other

theorem State.active_pairing {s : State} (st : s.twin.st = .pairing) : s.active = false := by
  unfold State.active
  rw [st]
  rfl

/-- A refusal sent and recorded. -/
def State.refusalTold (r : Nat) (s : State) : State := { s.launch (.refusal r) with twin.reason := r }.raise 0x0E01 noInst [r]

theorem State.refusalTold_keeps (r : Nat) (s : State) :
    KeepsBut (([.twin .sent, .twin .reason] : List Part) ++ Part.raised) s (s.refusalTold r) :=
  ((s.launch_keeps _).append (KeepsBut.write_twin (l := [.twin .reason]) fun f hf _ _ => by
      cases f with | reason => simp at hf  | delayAll => trivial | _ => exact rfl)).append (State.raise_keepsBut _ _ _ _)

theorem State.refusalTold_stands (r : Nat) (s : State) : (s.refusalTold r).twin = { (s.launch (.refusal r)).twin with reason := r } := by
  simp [State.refusalTold]

theorem State.refusalTold_raised (r : Nat) (s : State) : Raised 0x0E01 noInst [r] s (s.refusalTold r) := State.raise_raised _ _ _ rfl

/-- The chip is refused. -/
def State.pairStopped (s : State) : State := { ({ s with twin.mayPair := false } : State).twinQuiet with twin.st := .refused }

theorem State.pairStopped_keeps (s : State) : KeepsBut [.twin .mayPair, .timer .pairSend, .timer .pairing, .timer .aligned, .timer .mirrorLost,
    .timer .standbyLost, .timer .takeDrive, .timer .peerAnswer, .twin .st] s s.pairStopped :=
  (((KeepsBut.write_twin (l := [.twin .mayPair]) fun f hf _ _ => by
      cases f with | mayPair => simp at hf  | delayAll => trivial | _ => exact rfl) : KeepsBut [.twin .mayPair] s { s with twin.mayPair := false }).append (State.twinQuiet_keeps _)).append
    ((KeepsBut.write_twin (l := [.twin .st]) fun f hf _ _ => by
        cases f with | st => simp at hf  | delayAll => trivial | _ => exact rfl) : KeepsBut [.twin .st] ({ s with twin.mayPair := false } : State).twinQuiet s.pairStopped)

theorem State.pairStopped_stands (s : State) : s.pairStopped.twin = { s.twin with mayPair := false, st := .refused } ∧
    Stopped .pairing s.pairStopped := ⟨rfl, State.twinQuiet_stopped { s with twin.mayPair := false }⟩

theorem State.pairRefused_pairing {s : State} {r : Nat} (st : s.twin.st = .pairing) (other : r ≠ 7) :
    (s.launch (.refusal r)).pairRefused r = (s.refusalTold r).pairStopped.idlePins := by
  have st' : (s.refusalTold r).twin.st = .pairing := by
    rw [State.refusalTold_stands]
    exact st
  have idle : ¬ (s.refusalTold r).active = true := by
    rw [State.active_pairing st']
    exact Bool.false_ne_true
  have refused : ¬ (s.refusalTold r).twin.st = .refused := by
    rw [st']
    exact nofun
  unfold State.pairRefused
  dsimp only
  rw [if_neg other, show ({ s.launch (.refusal r) with twin.reason := r } : State).raise 0x0E01 noInst [r] = s.refusalTold r from rfl, if_neg idle,
    if_neg refused]
  rfl

theorem State.pairingFrame_refused : ∀ (p : PeerInfo) (r : Nat) (s : State),
    s.up = true →
    s.twin.st = .pairing →
    s.pairRefusal p = some r →
    r ≠ 7 →
    Completes (.pairingFrameReceived true (.pairing p)) s fun t =>
    t.twin.st = .refused ∧ t.twin.reason = r ∧ t.twin.peer = some p ∧ t.twin.sent.head? = some (.refusal r) ∧ Raised 0x0E01 noInst [r] s t ∧
    Stopped .pairing t ∧ KeepsBut (([.twin .peer, .twin .sent, .twin .mayPair, .twin .reason, .pins .pwmAll, .pins .slDriver, .timer .quenchIgnore,
    .dist .quenchOut, .dist .quenchIgnore, .pins .gateAll, .pins .pg, .pins .twinActO, .shelf .sent, .twin .driveWait, .twin .released,
        .timer .pairSend,
    .timer .pairing, .timer .aligned, .timer .mirrorLost, .timer .standbyLost, .timer .takeDrive, .timer .peerAnswer, .twin .st, .twin .peerSerial,
    .twin .peerHash, .twin .side, .pins .spiIrq, .timer (.pmStretch 0), .pins .pmbusReleased, .net (.pmXfer 0), .timer (.pmStretch 1),
        .net (.pmXfer 1),
    .twin .validRun, .twin .alignedSince, .twin .mirror, .twin .missed, .twin .invalid] : List Part)
        ++ Part.raised) s t := fun p r s up st refusal other => by
  have run := State.exec_pairingFrame up st p
  have judged : (s.peerSeen p).judgePeer p = ((s.peerSeen p).launch (.refusal r)).pairRefused r := by
    unfold State.judgePeer
    rw [show (s.peerSeen p).pairRefusal p = some r from refusal]
  rw [judged, State.pairRefused_pairing (s := s.peerSeen p) st other] at run
  have kept := ((s.peerSeen_keeps p).append ((s.peerSeen p).refusalTold_keeps r)).append ((s.peerSeen p).refusalTold r).pairStopped_keeps
  have raised : Raised 0x0E01 noInst [r] s ((s.peerSeen p).refusalTold r) := (s.peerSeen p).refusalTold_raised r
  have twin := (s.peerSeen p).refusalTold_stands r
  generalize (s.peerSeen p).refusalTold r = a at *
  obtain ⟨twin', stopped⟩ := a.pairStopped_stands
  have told := a.pairStopped_keeps
  generalize a.pairStopped = b at *
  have idle := b.idlePins_keeps
  have st' : b.idlePins.twin.st = b.twin.st := idle.get (.twin .st) rfl
  have reason : b.idlePins.twin.reason = b.twin.reason := idle.get (.twin .reason) rfl
  have peer : b.idlePins.twin.peer = b.twin.peer := idle.get (.twin .peer) rfl
  have sent : b.idlePins.twin.sent = b.twin.sent := idle.get (.twin .sent) rfl
  refine ⟨_, run, ?_⟩
  dsimp only
  rw [st', reason, peer, sent, twin', twin]
  exact ⟨rfl, rfl, rfl, rfl, raised.keep ((idle.get (.evr .staging) rfl).trans (told.get (.evr .staging) rfl))
    ((idle.get (.net .batch) rfl).trans (told.get (.net .batch) rfl)), stopped.kept idle rfl, (kept.append idle).weaken (by exact .check rfl)⟩

/-- A pairing that passed, its epoch counted and recorded. -/
def State.pairNoted (p : PeerInfo) (s : State) : State :=
  (({ s with twin.side := decide (p.serial < s.upd.serial), twin.peerSerial := p.serial, twin.peerHash := p.hash } : State).newEpoch 9).raise
    0x0E02 noInst []

theorem State.pairNoted_keeps (p : PeerInfo) (s : State) : KeepsBut (([.twin .peerSerial, .twin .peerHash, .twin .side, .eng .lockAll, .eng .armAll,
    .eng .dbAll, .pins .spiIrq, .eng (.epoch 9), .eng .queueAll] : List Part) ++ Part.raised) s (s.pairNoted p) :=
  ((((KeepsBut.write_twin (l := [.twin .peerSerial, .twin .peerHash, .twin .side]) fun f hf _ _ => by
      cases f with
      | peerSerial | peerHash | side => simp at hf  | delayAll => trivial | _ => exact rfl) : KeepsBut [.twin .peerSerial, .twin .peerHash,
      .twin .side] s
    { s with twin.side := decide (p.serial < s.upd.serial), twin.peerSerial := p.serial, twin.peerHash := p.hash }).append
    (State.newEpoch_keeps 9 _)).append (State.raise_keepsBut _ _ _ _)).weaken (by exact .check rfl)

theorem State.pairNoted_stands (p : PeerInfo) (s : State) :
    (s.pairNoted p).twin = { s.twin with side := decide (p.serial < s.upd.serial), peerSerial := p.serial, peerHash := p.hash } ∧
      (s.pairNoted p).upd = s.upd ∧ (s.pairNoted p).now = s.now ∧ (s.pairNoted p).eng.epoch[9] = s.eng.epoch[9] + 1 := by
  refine ⟨by simp [State.pairNoted], by simp [State.pairNoted], by simp [State.pairNoted], ?_⟩
  have counted := State.newEpoch_epoch 9 { s with twin.side := decide (p.serial < s.upd.serial), twin.peerSerial := p.serial, twin.peerHash := p.hash }
  exact Eq.trans ((State.raise_keepsBut 0x0E02 noInst [] _).get (.eng (.epoch 9)) rfl) counted

theorem State.judgePeer_paired {p : PeerInfo} {s : State} (st : s.twin.st = .pairing) (passed : s.pairRefusal p = none)
    (hash : p.hash = s.net.commit.hash) : s.judgePeer p = s.pairDone p := by
  unfold State.judgePeer
  rw [passed]
  dsimp only
  rw [if_pos st, if_pos hash]

theorem State.pairDone_pairing {p : PeerInfo} {s : State} (st : s.twin.st = .pairing) : s.pairDone p =
    if twinActive p.twin ∨ p.serial < s.upd.serial then (s.pairNoted p).beginStandby
    else ((s.pairNoted p).beginActive .activePaired).arm .standbyLost 75000 := by
  obtain ⟨twin, upd, -⟩ := s.pairNoted_stands p
  have idle : ¬ (s.pairNoted p).active = true := by
    rw [State.active_pairing (by rw [twin]; exact st)]
    exact Bool.false_ne_true
  show (if (s.pairNoted p).active then _ else if twinActive p.twin ∨ p.serial < (s.pairNoted p).upd.serial then _ else _) = _
  rw [if_neg idle, upd]
  rfl

theorem State.beginActive_stands (st : TwinSt) (s : State) : (s.beginActive st).twin.st = st ∧ (s.beginActive st).twin.side = s.twin.side ∧
    (s.beginActive st).twin.peerSerial = s.twin.peerSerial ∧ (s.beginActive st).pins.twinActO = true ∧ (s.beginActive st).twin.driveWait = true ∧
    (s.beginActive st).now = s.now ∧ Ends .takeDrive 5000 s (s.beginActive st) := ⟨rfl, rfl, rfl, rfl, rfl, rfl, Ends.armed rfl⟩

theorem State.pairingFrame_active : ∀ (p : PeerInfo) (s : State),
    s.up = true →
    s.twin.st = .pairing →
    s.pairRefusal p = none →
    p.hash = s.net.commit.hash →
    twinActive p.twin = false →
    s.upd.serial ≤ p.serial →
    Completes (.pairingFrameReceived true (.pairing p)) s fun t =>
    t.twin.st = .activePaired ∧ t.twin.side = false ∧ t.twin.peerSerial = p.serial ∧ t.pins.twinActO = true ∧ t.twin.driveWait = true ∧
    t.eng.epoch[9] = s.eng.epoch[9] + 1 ∧ Ends .takeDrive 5000 s t ∧ Ends .standbyLost 75000 s t ∧
    KeepsBut (([.twin .peer, .twin .sent, .twin .mayPair, .twin .reason, .pins .pwmAll, .pins .slDriver, .timer .quenchIgnore, .dist .quenchOut,
    .dist .quenchIgnore, .pins .gateAll, .pins .pg, .pins .twinActO, .shelf .sent, .twin .driveWait, .twin .released, .timer .pairSend,
        .timer .pairing,
    .timer .aligned, .timer .mirrorLost, .timer .standbyLost, .timer .takeDrive, .timer .peerAnswer, .twin .st, .twin .peerSerial, .twin .peerHash,
    .twin .side, .eng (.epoch 9), .eng .queueAll, .eng .lockAll, .eng .armAll, .eng .dbAll, .pins .spiIrq, .timer (.pmStretch 0),
        .pins .pmbusReleased,
    .net (.pmXfer 0), .timer (.pmStretch 1), .net (.pmXfer 1), .twin .validRun, .twin .alignedSince, .twin .mirror, .twin .missed,
    .twin .invalid] : List Part) ++ Part.raised) s t := fun p s up st passed hash idle serial => by
  have run := State.exec_pairingFrame up st p
  rw [State.judgePeer_paired (s := s.peerSeen p) st passed hash, State.pairDone_pairing (s := s.peerSeen p) st,
    if_neg (show ¬ (twinActive p.twin = true ∨ p.serial < (s.peerSeen p).upd.serial) from
      not_or.2 ⟨by rw [idle]; exact Bool.false_ne_true, Nat.not_lt.2 serial⟩)] at run
  obtain ⟨twin, -, now, epoch⟩ := (s.peerSeen p).pairNoted_stands p
  have kept := (s.peerSeen_keeps p).append ((s.peerSeen p).pairNoted_keeps p)
  have epoch' : (s.peerSeen p).eng.epoch[9] = s.eng.epoch[9] := rfl
  have now' : (s.peerSeen p).now = s.now := rfl
  generalize (s.peerSeen p).pairNoted p = a at *
  obtain ⟨st', side, peer, out, wait, now'', drive⟩ := a.beginActive_stands .activePaired
  have begun := a.beginActive_keeps .activePaired
  have armed := (a.beginActive .activePaired).arm_keeps .standbyLost 75000
  have same : (a.beginActive .activePaired).eng.epoch[9] = a.eng.epoch[9] := begun.get (.eng (.epoch 9)) rfl
  have drive' := drive.kept armed rfl
  rw [Ends, now, now'] at drive'
  rw [twin] at side peer
  exact ⟨_, run, st', side.trans (decide_eq_false (Nat.not_lt.2 serial)), peer, out, wait, (same.trans epoch).trans (congrArg (· + 1) epoch'), drive',
    Ends.armed (now''.trans (now.trans now')), ((kept.append begun).append armed).weaken (by exact .check rfl)⟩

theorem State.beginStandby_stands (s : State) : s.beginStandby.twin.st = .standbyUnsync ∧ s.beginStandby.twin.mirror = none ∧
    s.beginStandby.twin.validRun = 0 ∧ s.beginStandby.twin.peerSerial = s.twin.peerSerial ∧ s.beginStandby.eng.epoch[9] = s.eng.epoch[9] :=
  ⟨rfl, rfl, rfl, s.beginStandby_keeps.get (.twin .peerSerial) rfl, s.beginStandby_keeps.get (.eng (.epoch 9)) rfl⟩

theorem State.pairingFrame_standby : ∀ (p : PeerInfo) (s : State),
    s.up = true →
    s.twin.st = .pairing →
    s.pairRefusal p = none →
    p.hash = s.net.commit.hash →
    twinActive p.twin = true →
    Completes (.pairingFrameReceived true (.pairing p)) s fun t =>
    t.twin.st = .standbyUnsync ∧ t.twin.peerSerial = p.serial ∧ t.twin.mirror = none ∧ t.twin.validRun = 0 ∧ t.eng.epoch[9] = s.eng.epoch[9] + 1 ∧
    KeepsBut (([.twin .peer, .twin .sent, .twin .mayPair, .twin .reason, .pins .pwmAll, .pins .slDriver, .timer .quenchIgnore, .dist .quenchOut,
    .dist .quenchIgnore, .pins .gateAll, .pins .pg, .pins .twinActO, .shelf .sent, .twin .driveWait, .twin .released, .timer .pairSend,
        .timer .pairing,
    .timer .aligned, .timer .mirrorLost, .timer .standbyLost, .timer .takeDrive, .timer .peerAnswer, .twin .st, .twin .peerSerial, .twin .peerHash,
    .twin .side, .eng (.epoch 9), .eng .queueAll, .eng .lockAll, .eng .armAll, .eng .dbAll, .pins .spiIrq, .timer (.pmStretch 0),
        .pins .pmbusReleased,
    .net (.pmXfer 0), .timer (.pmStretch 1), .net (.pmXfer 1), .twin .validRun, .twin .alignedSince, .twin .mirror, .twin .missed,
    .twin .invalid] : List Part) ++ Part.raised) s t := fun p s up st passed hash active => by
  have run := State.exec_pairingFrame up st p
  rw [State.judgePeer_paired (s := s.peerSeen p) st passed hash, State.pairDone_pairing (s := s.peerSeen p) st, if_pos (.inl active)] at run
  obtain ⟨twin, -, -, epoch⟩ := (s.peerSeen p).pairNoted_stands p
  have kept := (s.peerSeen_keeps p).append ((s.peerSeen p).pairNoted_keeps p)
  have epoch' : (s.peerSeen p).eng.epoch[9] = s.eng.epoch[9] := rfl
  generalize (s.peerSeen p).pairNoted p = a at *
  obtain ⟨st', mirror, run', peer, same⟩ := a.beginStandby_stands
  rw [twin] at peer
  exact ⟨_, run, st', peer, mirror, run', (same.trans epoch).trans (congrArg (· + 1) epoch'),
    (kept.append a.beginStandby_keeps).weaken (by exact .check rfl)⟩

theorem State.pairingTimeout_alone : ∀ (s : State),
    s.twin.st = .pairing →
    s.due .pairing = true →
    s.pins.twinActI = false →
    Completes .pairingTimeout s fun t =>
    t.twin.st = .activeAlone ∧ t.pins.twinActO = true ∧ t.twin.driveWait = true ∧ Raised 0x0E09 noInst [] s t ∧ Ends .takeDrive 5000 s t ∧
    KeepsBut (([.timer .pairSend, .timer .pairing, .timer .aligned, .timer .mirrorLost, .timer .standbyLost, .timer .takeDrive, .timer .peerAnswer,
    .pins .twinActO, .twin .st, .twin .driveWait, .twin .released, .twin .missed] : List Part) ++ Part.raised) s t := fun s st due low => by
  have run : exec .pairingTimeout s = .next ((s.beginActive .activeAlone).raise 0x0E09 noInst []) :=
    congrArg Host.Outcome.next ((if_neg (not_or.2 ⟨not_not.2 st, not_not.2 due⟩)).trans (if_neg (by rw [low]; exact Bool.false_ne_true)))
  obtain ⟨st', -, -, out, wait, -, drive⟩ := s.beginActive_stands .activeAlone
  have begun := s.beginActive_keeps .activeAlone
  have raised : KeepsBut Part.raised (s.beginActive .activeAlone) ((s.beginActive .activeAlone).raise 0x0E09 noInst []) := State.raise_keepsBut _ _ _ _
  exact ⟨_, run, Eq.trans (raised.get (.twin .st) rfl) st', Eq.trans (raised.get (.pins .twinActO) rfl) out,
    Eq.trans (raised.get (.twin .driveWait) rfl) wait, State.raise_raised _ _ _ (begun.get (.evr .staging) rfl), drive.kept raised rfl,
    (begun.append raised).weaken (by exact .check rfl)⟩

/-- Settles O36: pairing frames sent, judged and answered, clause by clause. -/
theorem twinPairsOrStaysAlone : Obligations.TwinPairsOrStaysAlone := by
  unfold Obligations.TwinPairsOrStaysAlone
  exact ⟨State.pairingFrameSend_pairing, State.pairingFrameSend_refused, State.pairingFrame_refused, State.pairingFrame_active,
    State.pairingFrame_standby, State.pairingTimeout_alone⟩

end Sys2Proof.Machine
end

section
/-! PROOFS. Configuration frames of a pair (R382, R391, R397). -/

namespace Sys2Proof.Machine

/-! ## Configuration frames (R382, R391, R397) -/

theorem objPush_free {d : List Byte} {s : State} (active : s.active = true) (stored : s.net.newestCopy.isSome = true) : objPush.busy s d = none :=
  if_neg (by simp [active, stored])

theorem State.configPush_sent : ∀ (w : Session) (d : List Byte) (s : State),
    s.admits w 0x3000 7 d = true →
    s.active = true →
    s.net.newestCopy.isSome = true →
    Completes (.configPush w d) s fun t => Answered w .done t ∧ t.twin.sent.head? = some (s.adoptFrame true) ∧
    KeepsBut [.twin .sent, .net (.sess (sessIx w)), .timer (.sessIdle (sessIx w))] s t := fun w d s a active stored => by
  have run : exec (.configPush w d) s = .next (((s.touch w).launch ((s.touch w).adoptFrame true)).answer w .done) :=
    congrArg Host.Outcome.next (State.writeBy_local a (forwards_commands (0x3000, 7) (by simp)) rfl rfl
      (objPush_free (s := s.touch w) active stored) rfl rfl)
  exact ⟨_, run, State.answer_answered _ _ _, rfl, ((State.launch_keeps _ (s.touch w)).write _).weaken (by cases w <;> exact .check rfl)⟩

/-- A configuration frame whose check is good, at a device that is up. -/
theorem State.exec_configFrame {s : State} (up : s.up = true) (f : BenutFrame) :
    exec (.configurationFrameReceived true f) s = .next (match f with
      | .changeSet set order => if s.standby then s.peerCommit set order else s
      | .answer ok => if s.active then s.peerAnswered ok else s
      | .rollback => if s.standby then s.peerRollback else s
      | .write key raw => if s.standby then s.peerWrite key raw else s
      | .store scope => if s.standby ∧ ¬ s.storeBusy then s.storeStart scope .peer else s
      | .resetStandby => if s.standby then s.assertReset .warm causeTwin false else s
      | .adopt pushed vals a b => s.peerAdopt pushed vals a b
      | _ => s) := congrArg Host.Outcome.next ((if_neg (not_not.2 up)).trans (if_pos rfl))

/-- A change set of the active chip, in the order sent. -/
def State.peerAccepted (set : List (Nat × Nat)) (order : List Nat) (s : State) : State :=
  { s.acceptCommit .peer set with net.commit.order := order }

theorem State.peerAccepted_keeps (set : List (Nat × Nat)) (order : List Nat) (s : State) :
    KeepsBut [.net .commit, .timer .commitVal] s (s.peerAccepted set order) :=
  ((State.acceptCommit_keeps .peer set s).append
    ((KeepsBut.write_net (l := [.net .commit]) fun f hf _ _ => by
        cases f with
        | commit => simp at hf  | forceAll | rwAll | sessAll | storeAll | portAll | pmAll | pmXferAll => trivial
        | _ => exact rfl) : KeepsBut [.net .commit] (s.acceptCommit .peer set) (s.peerAccepted set order))).weaken (by exact .check rfl)

theorem State.configFrame_changeSet : ∀ (set : List (Nat × Nat)) (order : List Nat) (s : State),
    s.up = true →
    s.standby = true →
    s.commitBusy = false →
    Completes (.configurationFrameReceived true (.changeSet set order)) s fun t =>
    t.net.commit.st = .validating ∧ t.net.commit.kind = .peer ∧ t.net.commit.set = set ∧ t.net.commit.order = order ∧ Ends .commitVal 50000000 s t ∧
    KeepsBut [.net .commit, .timer .commitVal] s t := fun set order s up standby idle => by
  have run : exec (.configurationFrameReceived true (.changeSet set order)) s = .next (s.peerAccepted set order) :=
    (State.exec_configFrame up _).trans (congrArg Host.Outcome.next ((if_pos standby).trans (if_neg (by rw [idle]; exact Bool.false_ne_true))))
  have ends : Ends .commitVal 50000000 s (s.peerAccepted set order) := Ends.armed rfl
  exact ⟨_, run, rfl, rfl, rfl, rfl, ends, s.peerAccepted_keeps set order⟩

theorem State.configFrame_accepted : ∀ (b : Nat) (rest : List Nat) (s : State),
    s.up = true →
    s.active = true →
    s.twin.awaitPeer = true →
    s.net.commit.st = .validating →
    s.net.commit.todo = b :: rest →
    Completes (.configurationFrameReceived true (.answer true)) s fun t =>
    t.net.commit.st = .applying ∧ t.net.commit.todo = b :: rest ∧ t.twin.awaitPeer = false ∧ Ends .channelWait 100000000 s t ∧ Stopped .peerAnswer t ∧
    KeepsBut [.net .commit, .twin .mayPair, .twin .awaitPeer, .net .shadow, .net .claim, .twin .peerHash, .net .portAll, .twin .st, .twin .invalid,
    .timers] s t := fun b rest s up active await validating todo => by
  have answered : s.peerAnswered true = s.beginApply := (if_pos ⟨await, validating⟩).trans (if_pos rfl)
  have run : exec (.configurationFrameReceived true (.answer true)) s = .next (s.applyBegun.arm .channelWait 100000000) := by
    rw [State.exec_configFrame up, ← State.beginApply_block todo, ← answered]
    exact congrArg Host.Outcome.next (if_pos active)
  obtain ⟨st, -, todo', -, now⟩ := s.applyBegun_stands
  have armed := s.applyBegun.arm_keeps .channelWait 100000000
  have stopped : Stopped .peerAnswer s.applyBegun := State.disarm_deadline _ s
  exact ⟨_, run, st, todo'.trans todo, rfl, Ends.armed now, stopped.kept armed rfl, (s.applyBegun_keeps.append armed).weaken (by exact .check rfl)⟩

theorem State.dropTimers_none (s : State) : s.dropTimers 0 = s := by
  unfold State.dropTimers
  refine State.each_invariant (P := fun t => t = s) (fun i t ht => ?_) _ _ rfl
  rw [if_neg (by unfold objSelector objKey; omega)]
  exact ht

/-- A commit that the standby refused. -/
def State.peerRefused (s : State) : State := s.commitRefused ⟨0x0E0A, 0, 0xFF⟩

theorem State.peerRefused_keeps (s : State) : KeepsBut [.timer .commitVal, .net .commit, .twin .awaitPeer] s s.peerRefused := by
  unfold State.peerRefused State.commitRefused
  rw [s.dropTimers_none]
  exact (s.disarm_keeps _).append (KeepsBut.of_pieces (l := [.net .commit, .twin .awaitPeer]) { State.Pieces.refl with
      net_ := fun f hf _ _ => by
        cases f with
        | commit => simp at hf  | forceAll | rwAll | sessAll | storeAll | portAll | pmAll | pmXferAll => trivial | _ => exact rfl,
      twin_ := fun f hf _ _ => by cases f with | awaitPeer => simp at hf  | delayAll => trivial | _ => exact rfl })

theorem State.configFrame_refused : ∀ (s : State),
    s.up = true →
    s.active = true →
    s.twin.awaitPeer = true →
    s.net.commit.st = .validating →
    s.net.commit.kind = .user →
    Completes (.configurationFrameReceived true (.answer false)) s fun t =>
    t.net.commit.st = .refused ∧ t.net.commit.code = 0x0E0A ∧ t.twin.sent.head? = some .resetStandby ∧ Raised 0x0D04 noInst [0x0E0A] s t ∧
    t.net.shadow = s.net.shadow ∧ KeepsBut (([.net .commit, .twin .awaitPeer, .net .shadow, .net .claim, .net .portAll, .twin .st, .twin .mayPair,
    .twin .sent, .twin .invalid, .timers] : List Part) ++ Part.raised) s t := fun s up active await validating user => by
  have run : exec (.configurationFrameReceived true (.answer false)) s = .next ((s.peerRefused.raise 0x0D04 noInst [0x0E0A]).launch .resetStandby) := by
    rw [State.exec_configFrame up]
    refine congrArg Host.Outcome.next ((if_pos active).trans ((if_pos ⟨await, validating⟩).trans ((if_neg Bool.false_ne_true).trans ?_)))
    rw [State.refuseCommit_user user]
    rfl
  have kept := s.peerRefused_keeps
  have raised : KeepsBut Part.raised s.peerRefused (s.peerRefused.raise 0x0D04 noInst [0x0E0A]) := State.raise_keepsBut _ _ _ _
  have sent := State.launch_keeps .resetStandby (s.peerRefused.raise 0x0D04 noInst [0x0E0A])
  have commit : ((s.peerRefused.raise 0x0D04 noInst [0x0E0A]).launch .resetStandby).net.commit = s.peerRefused.net.commit :=
    Eq.trans (sent.get (.net .commit) rfl) (raised.get (.net .commit) rfl)
  have told : Raised 0x0D04 noInst [0x0E0A] s (s.peerRefused.raise 0x0D04 noInst [0x0E0A]) :=
    State.raise_raised _ _ _ (kept.get (.evr .staging) rfl)
  have all := (kept.append raised).append sent
  refine ⟨_, run, ?_, ?_, rfl, told.keep (sent.get (.evr .staging) rfl) (sent.get (.net .batch) rfl), all.get (.net .shadow) rfl,
    all.weaken (by exact .check rfl)⟩
  · rw [commit]
    rfl
  · rw [commit]
    rfl

theorem State.configFrame_rollback : ∀ (b : Nat) (l : List Nat) (s : State),
    s.up = true →
    s.standby = true →
    s.net.commit.st = .applying →
    s.net.commit.kind = .peer →
    s.net.commit.rolling = false →
    s.net.commit.applied = b :: l →
    Completes (.configurationFrameReceived true .rollback) s fun t => t.net.commit.rolling = true ∧ t.net.commit.applied = b :: l ∧ Stopped .channelWait t ∧
    KeepsBut [.net .commit, .net .shadow, .net .claim, .net .portAll, .timers] s t := fun b l s up standby applying peer forth applied => by
  have some_ : ¬ ({ s.disarm .channelWait with net.commit.rolling := true } : State).net.commit.applied = [] := by
    rw [show ({ s.disarm .channelWait with net.commit.rolling := true } : State).net.commit.applied = s.net.commit.applied from rfl, applied]
    exact List.cons_ne_nil _ _
  have run : exec (.configurationFrameReceived true .rollback) s = .next { s.disarm .channelWait with net.commit.rolling := true } :=
    (State.exec_configFrame up _).trans (congrArg Host.Outcome.next ((if_pos standby).trans ((if_neg (not_or.2 ⟨not_not.2 applying,
      not_or.2 ⟨not_not.2 peer, by rw [forth]; exact Bool.false_ne_true⟩⟩)).trans (if_neg some_))))
  exact ⟨_, run, rfl, applied, State.disarm_deadline _ s, ((s.disarm_keeps .channelWait).append (KeepsBut.write_net (l := [.net .commit])
      fun f hf _ _ => by
      cases f with
      | commit => simp at hf  | forceAll | rwAll | sessAll | storeAll | portAll | pmAll | pmXferAll => trivial
      | _ => exact rfl)).weaken (by exact .check rfl)⟩

/-- A Store that the active chip orders. -/
def State.peerStore (scope : Nat) (s : State) : State :=
  ({ s with net.storing := some (s.net.storeTarget, s.copyFor scope none, scope, StoreBy.peer),
            net.store := s.net.store.set s.net.storeTarget none } : State).arm .store 40000000

theorem State.configFrame_store : ∀ (scope : Nat) (s : State),
    s.up = true →
    s.standby = true →
    s.storeBusy = false →
    Completes (.configurationFrameReceived true (.store scope)) s fun t => t.net.storing = some (s.net.storeTarget, s.copyFor scope none, scope,
        .peer) ∧
    Ends .store 40000000 s t ∧ KeepsBut [.net .storeAll, .net .storing, .timer .store, .twin .sent,
        .twin .invalid] s t := fun scope s up standby idle => by
  have single : ¬ s.twin.st = .activePaired := fun h => by
    unfold State.standby at standby
    rw [h] at standby
    exact Bool.false_ne_true standby
  have store : s.storeStart scope .peer = s.peerStore scope := if_neg single
  have run : exec (.configurationFrameReceived true (.store scope)) s = .next (s.peerStore scope) := by
    rw [State.exec_configFrame up, ← store]
    exact congrArg Host.Outcome.next (if_pos ⟨standby, by rw [idle]; exact Bool.false_ne_true⟩)
  have kept := State.storeStart_keeps scope .peer s
  rw [store] at kept
  exact ⟨_, run, rfl, Ends.armed rfl, kept.weaken (by exact .check rfl)⟩

theorem State.configFrame_reset : ∀ (s : State),
    s.up = true →
    s.standby = true →
    s.rst.supplyOk = true →
    Completes (.configurationFrameReceived true .resetStandby) s fun t => t.rst.cause = causeTwin ∧ t.rst.scope = .warm ∧ t.rst.phase = .step 1 ∧
    t.pending = s.pending ∧ t.mem.user = s.mem.user := fun s up standby supply => by
  have run : exec (.configurationFrameReceived true .resetStandby) s = .next (s.assertReset .warm causeTwin false) :=
    (State.exec_configFrame up _).trans (congrArg Host.Outcome.next (if_pos standby))
  have idle : s.releasing = false := by
    have released : s.rst.phase = .released := of_decide_eq_true up
    unfold State.releasing
    rw [released]
    rfl
  obtain ⟨pending, -, user⟩ := State.assertReset_stands .warm causeTwin false s
  obtain ⟨cause, scope, step, -⟩ := Rst.assert_warm supply causeTwin
  refine ⟨_, run, ?_⟩
  dsimp only
  rw [State.assertReset_warm idle, pending, user]
  exact ⟨cause, scope, step, rfl, rfl⟩

/-! ## A configuration that is adopted (R350, R382) -/

/-- A stored copy's ports and idle times. -/
def State.portsTaken (c : CfgCopy) (s : State) : State :=
  { s with
    net.port := Vector.ofFn fun p => { s.net.port[p] with objs := c.port[p] }
    net.sess := s.net.sess.map fun x => { x with idle := c.idle } }

theorem State.portsTaken_keeps (c : CfgCopy) (s : State) : KeepsBut [.net .sessAll, .net .portAll] s (s.portsTaken c) :=
  KeepsBut.write_net fun f _ hw _ => by
    cases f with
    | sess => simp [Part.whole, NetPart.whole] at hw
    | port => simp [Part.whole, NetPart.whole] at hw
    | emcy p => simp [NetPart.same, State.portsTaken]
    | forceAll | rwAll | sessAll | storeAll | portAll | pmAll | pmXferAll => trivial
    | _ => exact rfl

/-- The change set of a commit as at boot. -/
def State.bootShadow (set : List (Nat × Nat)) (s : State) : State := { s with net.shadow := set, net.claim := none }

theorem State.bootFrom_eq (c : CfgCopy) (s : State) :
    s.bootFrom c = ((s.portsTaken c).bootShadow ((s.portsTaken c).setTo c.vals)).acceptCommit .boot ((s.portsTaken c).setTo c.vals) := rfl

theorem State.bootFrom_keeps (c : CfgCopy) (s : State) :
    KeepsBut [.net .sessAll, .net .portAll, .net .shadow, .net .claim, .net .commit, .timer .commitVal] s (s.bootFrom c) := by
  have shadow : KeepsBut [.net .shadow, .net .claim] (s.portsTaken c) ((s.portsTaken c).bootShadow ((s.portsTaken c).setTo c.vals)) :=
      (KeepsBut.write_net (l := [.net .shadow, .net .claim]) fun f hf _ _ => by
      cases f with
      | shadow | claim => simp at hf  | forceAll | rwAll | sessAll | storeAll | portAll | pmAll | pmXferAll => trivial | _ => exact rfl)
  rw [State.bootFrom_eq]
  exact ((s.portsTaken_keeps c).append shadow).append (State.acceptCommit_keeps _ _ _)

theorem State.bootFrom_stands (c : CfgCopy) (s : State) : (s.bootFrom c).net.commit.st = .validating ∧ (s.bootFrom c).net.commit.kind = .boot ∧
    (s.bootFrom c).net.store = s.net.store ∧ (s.bootFrom c).twin = s.twin := ⟨rfl, rfl, rfl, rfl⟩

/-- A copy taken from the active chip, the chip no longer paired. -/
def State.copyAdopted (c : CfgCopy) (s : State) : State :=
  { s.twinQuiet with net.store := s.net.store.set s.net.storeTarget (some c), twin.st := .unpaired }

theorem State.copyAdopted_keeps (c : CfgCopy) (s : State) : KeepsBut [.timer .pairSend, .timer .pairing, .timer .aligned, .timer .mirrorLost,
    .timer .standbyLost, .timer .takeDrive, .timer .peerAnswer, .net .storeAll, .twin .st] s (s.copyAdopted c) :=
  s.twinQuiet_keeps.append ((KeepsBut.of_pieces (l := [.net .storeAll, .twin .st]) { State.Pieces.refl with
      net_ := fun f _ hw _ => by
        cases f with
        | store => simp [Part.whole, NetPart.whole] at hw  | forceAll | rwAll | sessAll | storeAll | portAll | pmAll | pmXferAll => trivial
        | _ => exact rfl,
      twin_ := fun f hf _ _ => by cases f with | st => simp at hf  | delayAll => trivial | _ => exact rfl }) : KeepsBut [.net .storeAll,
      .twin .st] s.twinQuiet (s.copyAdopted c))

/-- The newest copy as another chip's values make it. -/
def State.adoptedCopy (vals a b : List (Nat × Nat)) (s : State) : CfgCopy :=
  { seq := (s.net.newestCopy.map fun c => c.seq + 1).getD 1,
    vals := overlay ((s.net.newestCopy.getD {}).vals.filter fun p => p.1 = objKey 0x2020 1 ∨ p.1 = objKey 0x2020 5) vals, port := #v[a, b] }

theorem State.adopt_eq (vals a b : List (Nat × Nat)) (s : State) : s.adopt vals a b =
    ((s.copyAdopted (s.adoptedCopy vals a b)).bootFrom (s.copyAdopted (s.adoptedCopy vals a b)).bootCopy).raise 0x0E0B noInst [] := rfl

theorem State.configFrame_adopt : ∀ (vals a b : List (Nat × Nat)) (s : State),
    s.up = true →
    s.active = false →
    s.twin.st ≠ .solo →
    Completes (.configurationFrameReceived true (.adopt true vals a b)) s fun t =>
    t.net.store[s.net.storeTarget].isSome = true ∧ t.net.commit.st = .validating ∧ t.net.commit.kind = .boot ∧ t.twin.st = .unpaired ∧
    Raised 0x0E0B noInst [] s t ∧ KeepsBut (([.timer .pairSend, .timer .pairing, .timer .aligned, .timer .mirrorLost, .timer .standbyLost,
    .timer .takeDrive, .timer .peerAnswer, .net .shadow, .net .claim, .net .sessAll, .net .storeAll, .net .portAll, .twin .st, .net .commit,
    .timer .commitVal, .twin .invalid] : List Part) ++ Part.raised) s t := fun vals a b s up idle pair => by
  have run : exec (.configurationFrameReceived true (.adopt true vals a b)) s = .next (s.adopt vals a b) :=
    (State.exec_configFrame up _).trans (congrArg Host.Outcome.next (if_pos ⟨by rw [idle]; exact Bool.false_ne_true, pair, .inl rfl⟩))
  rw [State.adopt_eq] at run
  have adopted := s.copyAdopted_keeps (s.adoptedCopy vals a b)
  have store : (s.copyAdopted (s.adoptedCopy vals a b)).net.store[s.net.storeTarget] = some (s.adoptedCopy vals a b) := vector_set_eq _ _ _
  have st : (s.copyAdopted (s.adoptedCopy vals a b)).twin.st = .unpaired := rfl
  have staging : (s.copyAdopted (s.adoptedCopy vals a b)).evr.staging = s.evr.staging := rfl
  generalize s.copyAdopted (s.adoptedCopy vals a b) = x at *
  obtain ⟨validating, boot, store', twin⟩ := x.bootFrom_stands x.bootCopy
  have booted := x.bootFrom_keeps x.bootCopy
  generalize x.bootFrom x.bootCopy = y at *
  have raised : KeepsBut Part.raised y (y.raise 0x0E0B noInst []) := State.raise_keepsBut _ _ _ _
  obtain ⟨-, -, -, -, -, commit, stores, -⟩ := State.raise_net 0x0E0B noInst [] y
  have st' : (y.raise 0x0E0B noInst []).twin.st = y.twin.st := raised.get (.twin .st) rfl
  refine ⟨_, run, ?_⟩
  dsimp only
  rw [commit, stores, st', store', twin, store]
  exact ⟨rfl, validating, boot, st, State.raise_raised _ _ _ (Eq.trans (booted.get (.evr .staging) rfl) staging),
    ((adopted.append booted).append raised).weaken (by exact .check rfl)⟩

theorem State.badFrame_counted (s : State) : s.badFrame.twin.invalid = bump s.twin.invalid ∧ KeepsBut [.twin .invalid] s s.badFrame :=
  ⟨rfl, (KeepsBut.write_twin (l := [.twin .invalid]) fun f hf _ _ => by cases f with | invalid => simp at hf  | delayAll => trivial | _ => exact rfl)⟩

theorem State.frameIn_bad {s : State} (up : s.up = true) (f : State → State) : s.frameIn false f = s.badFrame :=
  (if_neg (not_not.2 up)).trans (if_neg Bool.false_ne_true)

/-- Settles O37: configuration pushed, committed, rolled back, stored and adopted, clause by clause. -/
theorem twinConfigurationFrames : Obligations.TwinConfigurationFrames := by
  unfold Obligations.TwinConfigurationFrames
  exact ⟨State.configPush_sent, State.configFrame_changeSet, State.configFrame_accepted, State.configFrame_refused, State.configFrame_rollback,
    State.configFrame_store, State.configFrame_reset, State.configFrame_adopt, fun _ s up =>
      ⟨⟨_, congrArg Host.Outcome.next (State.frameIn_bad up _), s.badFrame_counted⟩,
        ⟨_, congrArg Host.Outcome.next (State.frameIn_bad up _), s.badFrame_counted⟩⟩⟩

end Sys2Proof.Machine
end

section
/-! PROOFS. Links, delays and messages by proxy (R320, R326, R383, R385). -/

namespace Sys2Proof.Machine

theorem State.linkLost_keeps (l : Fin 5) (s : State) :
    KeepsBut (([.casc .reversed, .twin .linkUp] : List Part) ++ Part.raised) s (State.linkLost l s) := by
  unfold State.linkLost
  dsimp only
  refine KeepsBut.ite _ (KeepsBut.refl _ _) ?_
  exact KeepsBut.viaIf (KeepsBut.weaken (KeepsBut.after (State.raise_keepsBut _ _ _ _) (KeepsBut.write_casc (l := [.casc .reversed])
      fun f hf _ _ => by
      cases f with
      | reversed => simp at hf | allocsAll | pReqAll | pMaxAll | wAll | socAll | reportAtAll => trivial | _ => exact rfl)) (by exact .check rfl))
      (KeepsBut.weaken (KeepsBut.after (State.raise_keepsBut _ _ _ _) (KeepsBut.write_twin (l := [.twin .linkUp]) fun f hf _ _ => by
      cases f with | linkUp => simp at hf | delayAll => trivial | _ => exact rfl)) (by exact .check rfl))

/-! ## Links and their delays (R383, R385) -/

theorem getLsbD_setBit {n : Nat} (x : BitVec n) (l : Fin n) : (x ||| BitVec.ofNat n (2 ^ l.val)).getLsbD l = true := by
  rw [BitVec.getLsbD_or, BitVec.getLsbD_ofNat, Nat.testBit_two_pow_self, Bool.and_true, decide_eq_true l.isLt, Bool.or_true]

theorem getLsbD_clearBit {n : Nat} (x : BitVec n) (l : Fin n) : (x &&& ~~~ BitVec.ofNat n (2 ^ l.val)).getLsbD l = false := by
  rw [BitVec.getLsbD_and, BitVec.getLsbD_not, BitVec.getLsbD_ofNat, Nat.testBit_two_pow_self, Bool.and_true, decide_eq_true l.isLt]
  exact Bool.and_false _

theorem State.delayRequest_sent : ∀ (l : Fin 5) (s : State),
    s.due (.delayReq l) = true →
    s.twin.linkUp.getLsbD l = true →
    s.tbRuns = true →
    Completes (.delayRequest l) s fun t => t.twin.sent.head? = some (.delayReq s.tb.tod) ∧ Ends (.delayReq l) 1000000000 s t ∧
    KeepsBut [.timer (.delayReq l), .twin .sent] s t := fun l s due linked runs => by
  have run : exec (.delayRequest l) s = .next ((s.arm (.delayReq l) 1000000000).launch (.delayReq s.tb.tod)) :=
    congrArg Host.Outcome.next (if_pos ⟨due, linked, runs⟩)
  have sent := State.launch_keeps (.delayReq s.tb.tod) (s.arm (.delayReq l) 1000000000)
  have ends : Ends (.delayReq l) 1000000000 s (s.arm (.delayReq l) 1000000000) := Ends.armed rfl
  exact ⟨_, run, rfl, ends.kept sent (by generalize l = k; rfl), (s.arm_keeps _ _).append sent⟩

theorem State.delayFrame_request : ∀ (l : Fin 5) (x : Nat) (at_ : Rat) (s : State),
    s.up = true →
    s.tbRuns = true →
    Completes (.delayFrameReceived true l (.delayReq x) at_) s fun t => t.twin.sent.head? = some (.delayResp x at_.floor.toNat s.tb.tod) ∧
    KeepsBut [.twin .sent, .twin .invalid] s t := fun l x at_ s up runs => by
  have run : exec (.delayFrameReceived true l (.delayReq x) at_) s = .next (s.launch (.delayResp x at_.floor.toNat s.tb.tod)) :=
    congrArg Host.Outcome.next ((if_neg (not_not.2 up)).trans ((if_pos rfl).trans (if_pos runs)))
  exact ⟨_, run, rfl, (State.launch_keeps _ s).weaken (by exact .check rfl)⟩

theorem State.delayFrame_response : ∀ (l : Fin 5) (a b c : Nat) (at_ : Rat) (s : State),
    s.up = true →
    Completes (.delayFrameReceived true l (.delayResp a b c) at_) s fun t => t.twin.delay[l] = linkDelay a b c at_ ∧
    (∀ m : Fin 5, m ≠ l → t.twin.delay[m] = s.twin.delay[m]) ∧ KeepsBut [.twin (.delay l), .twin .invalid] s t := fun l a b c at_ s up => by
  have run : exec (.delayFrameReceived true l (.delayResp a b c) at_) s = .next { s with twin.delay := s.twin.delay.set l (linkDelay a b c at_) } :=
    congrArg Host.Outcome.next ((if_neg (not_not.2 up)).trans (if_pos rfl))
  have kept : KeepsBut [.twin (.delay l)] s { s with twin.delay := s.twin.delay.set l (linkDelay a b c at_) } :=
      (KeepsBut.write_twin (l := [.twin (.delay l)]) fun f hf _ _ => by
      cases f with
      | delay j => exact vector_set_getElem_ne (by rintro rfl; simp at hf)  | delayAll => trivial | _ => exact rfl)
  exact ⟨_, run, vector_set_eq _ _ _, fun m other => vector_set_getElem_ne other, kept.weaken (by apply Part.Within.checkAt l; rfl)⟩

/-- A link that is up, its delay to be measured in a second. -/
def State.linkRaised (l : Fin 5) (s : State) : State :=
  ({ s with twin.linkUp := s.twin.linkUp ||| BitVec.ofNat 5 (2 ^ l.val) } : State).arm (.delayReq l) 1000000000

theorem State.linkRaised_keeps (l : Fin 5) (s : State) : KeepsBut [.twin .linkUp, .timer (.delayReq l)] s (s.linkRaised l) :=
  ((KeepsBut.write_twin (l := [.twin .linkUp]) fun f hf _ _ => by
      cases f with | linkUp => simp at hf  | delayAll => trivial | _ => exact rfl) : KeepsBut [.twin .linkUp] s { s with twin.linkUp := s.twin.linkUp ||| BitVec.ofNat 5 (2 ^ l.val) }).append (State.arm_keeps _ _ _)

theorem State.linkRaised_stands (l : Fin 5) (s : State) : (s.linkRaised l).twin.linkUp.getLsbD l = true ∧ Ends (.delayReq l) 1000000000 s (s.linkRaised l) :=
  ⟨getLsbD_setBit _ _, Ends.armed rfl⟩

theorem State.benutLinkUp_twin : ∀ (s : State),
    s.up = true →
    s.blkHeld 8 = false →
    s.twin.linkUp.getLsbD 0 = false →
    Completes (.benutLinkUp 0) s fun t => t.twin.linkUp.getLsbD 0 = true ∧ t.twin.mayPair = true ∧ Ends (.delayReq 0) 1000000000 s t ∧
    KeepsBut [.twin .linkUp, .timer (.delayReq 0), .twin .mayPair] s t := fun s up held down => by
  have run : exec (.benutLinkUp 0) s = .next { s.linkRaised 0 with twin.mayPair := true } :=
    congrArg Host.Outcome.next ((if_neg (not_or.2 ⟨not_not.2 up, not_or.2 ⟨by rw [show linkBlock 0 = 8 from rfl, held]; exact Bool.false_ne_true,
      by rw [show s.twin.linkUp.getLsbD (0 : Fin 5) = false from down]; exact Bool.false_ne_true⟩⟩)).trans (if_pos rfl))
  obtain ⟨linked, ends⟩ := s.linkRaised_stands 0
  have paired : KeepsBut [.twin .mayPair] (s.linkRaised 0) { s.linkRaised 0 with twin.mayPair := true } :=
      (KeepsBut.write_twin (l := [.twin .mayPair]) fun f hf _ _ => by cases f with | mayPair => simp at hf  | delayAll => trivial | _ => exact rfl)
  exact ⟨_, run, linked, rfl, ends.kept paired rfl, (s.linkRaised_keeps 0).append paired⟩

/-- A cascade link that is up: the proxy's epoch counts, and the ring may be closed again. -/
def State.cascadeRaised (l : Fin 5) (s : State) : State :=
  { (s.linkRaised l).newEpoch 10 with
    casc.reversed := ((s.linkRaised l).newEpoch 10).casc.reversed ∧
      ¬ (((s.linkRaised l).newEpoch 10).twin.linkUp.getLsbD 1 ∧ ((s.linkRaised l).newEpoch 10).twin.linkUp.getLsbD 2) }

theorem State.benutLinkUp_cascade : ∀ (l : Fin 5) (s : State),
    l ≠ 0 →
    s.up = true →
    s.blkHeld (linkBlock l) = false →
    s.twin.linkUp.getLsbD l = false →
    Completes (.benutLinkUp l) s fun t =>
    t.twin.linkUp.getLsbD l = true ∧ t.eng.epoch[10] = s.eng.epoch[10] + 1 ∧ Ends (.delayReq l) 1000000000 s t ∧
    KeepsBut (([.twin .linkUp, .timer (.delayReq l), .eng (.epoch 10), .eng .queueAll, .eng .lockAll, .eng .armAll, .eng .dbAll, .pins .spiIrq,
    .casc .reversed] : List Part) ++ Part.raised) s t := fun l s other up held down => by
  have run : exec (.benutLinkUp l) s = .next (s.cascadeRaised l) :=
    congrArg Host.Outcome.next ((if_neg (not_or.2 ⟨not_not.2 up, not_or.2 ⟨by rw [held]; exact Bool.false_ne_true,
      by rw [down]; exact Bool.false_ne_true⟩⟩)).trans (if_neg other))
  obtain ⟨linked, ends⟩ := s.linkRaised_stands l
  have raised := s.linkRaised_keeps l
  have counted := (s.linkRaised l).newEpoch_keeps 10
  have closed : KeepsBut [.casc .reversed] ((s.linkRaised l).newEpoch 10) (s.cascadeRaised l) := (KeepsBut.write_casc (l := [.casc .reversed])
      fun f hf _ _ => by
      cases f with
      | reversed => simp at hf  | allocsAll | pReqAll | pMaxAll | wAll | socAll | reportAtAll => trivial | _ => exact rfl)
  have later := counted.append closed
  have linkUp : (s.cascadeRaised l).twin.linkUp = (s.linkRaised l).twin.linkUp := later.get (.twin .linkUp) rfl
  have epoch : (s.cascadeRaised l).eng.epoch[10] = ((s.linkRaised l).newEpoch 10).eng.epoch[10] := rfl
  refine ⟨_, run, ?_, epoch.trans ((s.linkRaised l).newEpoch_epoch 10), ends.kept later (by generalize l = k; rfl),
    (raised.append later).weaken (by apply Part.Within.checkAt l; rfl)⟩
  rw [linkUp]
  exact linked

theorem State.linkLost_linkUp (l : Fin 5) (s : State) : (s.linkLost l).twin.linkUp.getLsbD l = false := by
  have cleared : (({ s with twin.linkUp := s.twin.linkUp &&& ~~~ BitVec.ofNat 5 (2 ^ l.val) } : State).raise 0x0E10 noInst (linkName l)).twin.linkUp =
      s.twin.linkUp &&& ~~~ BitVec.ofNat 5 (2 ^ l.val) := (State.raise_keepsBut _ _ _ _).get (.twin .linkUp) rfl
  unfold State.linkLost
  dsimp only
  split
  next down => simpa using down
  next =>
    split
    · rw [(State.raise_keepsBut _ _ _ _).get (.twin .linkUp) rfl]
      rw [cleared]
      exact getLsbD_clearBit _ _
    · rw [cleared]
      exact getLsbD_clearBit _ _

theorem State.benutLinkDown_lost : ∀ (l : Fin 5) (s : State),
    Completes (.benutLinkDown l) s fun t => t.twin.linkUp.getLsbD l = false ∧ Stopped (.delayReq l) t ∧
    KeepsBut (([.twin .linkUp, .casc .reversed, .timer (.delayReq l)] : List Part) ++ Part.raised) s t := fun l s =>
  ⟨_, rfl, s.linkLost_linkUp l, State.disarm_deadline _ _,
    ((State.linkLost_keeps l s).append (State.disarm_keeps _ _)).weaken (by apply Part.Within.checkAt l; rfl)⟩

/-! ## Messages by proxy (R320, R326) -/

theorem inbound_receiver {q : Nat} {i : Fin 64} (h : inbound q = some i) (s : State) : s.receiver i ≠ 0x20 ∧ s.receiver i ≠ 0x21 := by
  unfold inbound at h
  split at h
  next range =>
    have place : i.val = q + 4 := (congrArg Fin.val (Option.some.inj h)).symm
    unfold State.receiver imageEngine
    rw [place]
    obtain ⟨low, high⟩ | ⟨low, high⟩ := range
    · rw [if_neg (by omega), if_neg (by omega), if_neg (by omega), if_neg (by omega), if_pos (by omega), if_pos (by omega)]
      omega
    · rw [if_neg (by omega), if_neg (by omega), if_neg (by omega), if_neg (by omega), if_neg (by omega), if_neg (by omega), if_pos (by omega)]
      omega
  next => cases h

/-- A message of a peer, stored and noted for its acknowledgement. -/
def State.proxyStored (i : Fin 64) (q : Nat) (m : MsgSlot) (s : State) : State :=
  { s.postTold i (m.payload.take 56) with
    twin.proxyIn := (i.val, (s.eng.queue[i]).ptr.val, q, m.seq % 16) :: (s.postTold i (m.payload.take 56)).twin.proxyIn }

theorem State.exec_messageFrame {s : State} (up : s.up = true) {q : Nat} (low : q < 56) (dst src : Byte) (own : Bool) (m : MsgSlot) :
    exec (.messageFrameReceived true dst src own q m) s = .next (s.proxyPost q m) :=
  congrArg Host.Outcome.next ((if_pos low).trans ((if_neg (not_not.2 up)).trans (if_pos rfl)))

theorem State.messageFrame_stored : ∀ (dst src : Byte) (own : Bool) (q : Nat) (i : Fin 64) (m : MsgSlot) (s : State),
    s.up = true →
    q < 56 →
    inbound q = some i →
    ((s.eng.queue[i]).slot[(s.eng.queue[i]).ptr]).state ≠ 1 →
    Completes (.messageFrameReceived true dst src own q m) s fun t =>
    (t.eng.queue[i]).slot[(s.eng.queue[i]).ptr] = s.stamp i (m.payload.take 56) ∧ (t.eng.queue[i]).seq = (s.eng.queue[i]).seq + 1 ∧
    t.twin.proxyIn.head? = some (i.val, (s.eng.queue[i]).ptr.val, q, m.seq % 16) ∧
    KeepsBut [.eng .queueAll, .eng .dbAll, .pins .spiIrq, .eng .fullIrq, .twin .sent, .twin .proxyOut, .twin .proxyIn,
        .twin .invalid] s t := fun dst src own q i m s up low dest free => by
  obtain ⟨twin, casc⟩ := inbound_receiver dest s
  have post : s.proxyPost q m = s.proxyStored i q m := by
    unfold State.proxyPost
    rw [dest]
    dsimp only
    rw [State.post_own free twin casc]
    rfl
  have run := (State.exec_messageFrame up low dst src own m).trans (congrArg Host.Outcome.next post)
  have noted : KeepsBut [.twin .proxyIn] (s.postTold i (m.payload.take 56)) (s.proxyStored i q m) := (KeepsBut.write_twin (l := [.twin .proxyIn])
      fun f hf _ _ => by cases f with | proxyIn => simp at hf  | delayAll => trivial | _ => exact rfl)
  have queue : (s.proxyStored i q m).eng.queue[i] = (s.postTold i (m.payload.take 56)).eng.queue[i] := rfl
  refine ⟨_, run, ?_, ?_, rfl, ((s.postTold_keeps i _).append noted).weaken (by apply Part.Within.checkAt i; rfl)⟩
  · rw [queue, State.postTold_queue]
    exact vector_set_eq _ _ _
  · rw [queue, State.postTold_queue]

theorem State.messageFrame_busy : ∀ (dst src : Byte) (own : Bool) (q : Nat) (i : Fin 64) (m : MsgSlot) (s : State),
    s.up = true →
    q < 56 →
    inbound q = some i →
    ((s.eng.queue[i]).slot[(s.eng.queue[i]).ptr]).state = 1 →
    Completes (.messageFrameReceived true dst src own q m) s fun t =>
    t.twin.sent.head? = some (.messageAck q (m.seq % 16) m.seq 0x12) ∧ (t.eng.queue[i]).slot = (s.eng.queue[i]).slot ∧
    KeepsBut (([.eng .queueAll, .eng .dbAll, .eng .fullIrq, .twin .sent, .twin .proxyOut, .twin .proxyIn, .twin .invalid,
    .timers] : List Part) ++ Part.raised) s t := fun dst src own q i m s up low dest full => by
  have post : s.proxyPost q m = ((s.modQueue i fun x => { x with refused := bump x.refused }).raiseLimited 0x0C01 i []).launch
      (.messageAck q (m.seq % 16) m.seq 0x12) := by
    unfold State.proxyPost
    rw [dest]
    dsimp only
    rw [show s.post i (m.payload.take 56) = (none, (s.modQueue i fun x => { x with refused := bump x.refused }).raiseLimited 0x0C01 i []) from if_pos full]
  have run := (State.exec_messageFrame up low dst src own m).trans (congrArg Host.Outcome.next post)
  have counted := State.modQueue_keeps i (fun x => { x with refused := bump x.refused }) s
  have limited := State.raiseLimited_keeps 0x0C01 i [] (s.modQueue i fun x => { x with refused := bump x.refused })
  have sent := State.launch_keeps (.messageAck q (m.seq % 16) m.seq 0x12)
    ((s.modQueue i fun x => { x with refused := bump x.refused }).raiseLimited 0x0C01 i [])
  have queue := Eq.trans ((limited.append sent).get (.eng (.queue i)) (by generalize i = j; rfl))
    (vector_set_eq s.eng.queue i { s.eng.queue[i] with refused := bump s.eng.queue[i].refused })
  exact ⟨_, run, rfl, (congrArg Queue.slot queue :), ((counted.append limited).append sent).weaken (by apply Part.Within.checkAt i; rfl)⟩

/-- A message whose wait is over. -/
def State.waitOver (q : Fin 64) (k : Fin 16) (s : State) : State :=
  ({ s with twin.proxyOut := s.twin.proxyOut.filter fun p => p ≠ (q.val, k.val) } : State).disarm (.proxy q k)

theorem State.waitOver_keeps (q : Fin 64) (k : Fin 16) (s : State) : KeepsBut [.twin .proxyOut, .timer (.proxy q k)] s (s.waitOver q k) :=
  ((KeepsBut.write_twin (l := [.twin .proxyOut]) fun f hf _ _ => by
      cases f with | proxyOut => simp at hf  | delayAll => trivial | _ => exact rfl) : KeepsBut [.twin .proxyOut] s { s with twin.proxyOut := s.twin.proxyOut.filter fun p => p ≠ (q.val, k.val) }).append
    (State.disarm_keeps _ _)

theorem State.waitOver_proxyOut (q : Fin 64) (k : Fin 16) (s : State) : (s.waitOver q k).twin.proxyOut.contains (q.val, k.val) = false := by
  show (s.twin.proxyOut.filter fun p => decide (p ≠ (q.val, k.val))).contains (q.val, k.val) = false
  simp

/-- What a message that waits at a proxy comes to when it is acknowledged, its sender's epoch unchanged and no peer's message waiting. -/
theorem State.proxyDone_stored {q : Fin 64} {k : Fin 16} {s : State} (own : s.receiver q = identCode (if q < 56 then 9 else 10))
    (posted : ((s.eng.queue[q]).slot[k]).state = 1) (epoch : ((s.eng.queue[q]).slot[k]).sepoch = (s.epochOf (s.sender q)).toNat)
    (none_ : s.twin.proxyIn = []) (code : Nat) : s.proxyDone q k code = (s.waitOver q k).storeAck q k code := by
  have proxyIn : ((s.waitOver q k).storeAck q k code).twin.proxyIn = [] := by simpa [State.waitOver] using none_
  have reply : ((s.waitOver q k).storeAck q k code).proxyReply q k code = (s.waitOver q k).storeAck q k code := by
    unfold State.proxyReply
    rw [proxyIn]
    rfl
  exact ((if_neg (not_not.2 own)).trans ((if_neg (not_not.2 posted)).trans (if_neg (not_not.2 epoch)))).trans reply

theorem State.waitStored_stands (q : Fin 64) (k : Fin 16) (code : Nat) (s : State) :
    (((s.waitOver q k).storeAck q k code).eng.queue[q]).slot[k] = { (s.eng.queue[q]).slot[k] with state := 2, code := code % 256 } ∧
      ((s.waitOver q k).storeAck q k code).twin.proxyOut.contains (q.val, k.val) = false ∧
      Stopped (.proxy q k) ((s.waitOver q k).storeAck q k code) := by
  have stored := State.storeAck_keeps q k code (s.waitOver q k)
  have proxyOut : ((s.waitOver q k).storeAck q k code).twin.proxyOut = (s.waitOver q k).twin.proxyOut :=
    stored.get (.twin .proxyOut) (by generalize q = j; rfl)
  have stopped : Stopped (.proxy q k) (s.waitOver q k) := State.disarm_deadline _ _
  refine ⟨?_, ?_, stopped.kept stored (by generalize q.val = m; generalize k.val = n; generalize q = j; rfl)⟩
  · rw [State.storeAck_queue]
    exact vector_set_eq _ _ _
  · rw [proxyOut]
    exact s.waitOver_proxyOut q k

theorem State.waitStored_keeps (q : Fin 64) (k : Fin 16) (code : Nat) (s : State) :
    KeepsBut [.twin .proxyOut, .timer (.proxy q k), .eng (.queue q), .eng .dbAll, .pins .spiIrq] s ((s.waitOver q k).storeAck q k code) :=
  (s.waitOver_keeps q k).append (State.storeAck_keeps q k code _)

theorem State.messageAckFrame_stored : ∀ (dst src : Byte) (own : Bool) (q : Fin 64) (k : Fin 16) (code : Nat) (s : State),
    s.up = true →
    q.val < 56 →
    s.twin.proxyOut.contains (q.val, k.val) = true →
    s.receiver q = 0x20 →
    ((s.eng.queue[q]).slot[k]).state = 1 →
    ((s.eng.queue[q]).slot[k]).sepoch = (s.epochOf (s.sender q)).toNat →
    s.twin.proxyIn = [] →
    Completes (.messageAckFrameReceived true dst src own q k ((s.eng.queue[q]).slot[k]).seq code) s fun t =>
    (t.eng.queue[q]).slot[k] = { (s.eng.queue[q]).slot[k] with state := 2, code := code % 256 } ∧ t.twin.proxyOut.contains (q.val, k.val) = false ∧
    Stopped (.proxy q k) t ∧ KeepsBut [.twin .proxyOut, .eng .queueAll, .eng .orphans, .eng .dbAll, .pins .spiIrq, .twin .proxyIn, .twin .sent,
    .twin .invalid, .timers] s t :=
  fun dst src own q k code s up low waits proxy posted epoch none_ => by
  have twin : s.receiver q = identCode (if q < 56 then 9 else 10) := by
    rw [if_pos (by exact low)]
    exact proxy
  have done : s.proxyAcked q k ((s.eng.queue[q]).slot[k]).seq code = (s.waitOver q k).storeAck q k code :=
    (if_pos ⟨waits, rfl⟩).trans (State.proxyDone_stored twin posted epoch none_ code)
  have run : exec (.messageAckFrameReceived true dst src own q k ((s.eng.queue[q]).slot[k]).seq code) s = .next ((s.waitOver q k).storeAck q k code) :=
    congrArg Host.Outcome.next (((if_pos (by exact low)).trans ((if_neg (not_not.2 up)).trans (if_pos rfl))).trans done)
  obtain ⟨slot, proxyOut, stopped⟩ := State.waitStored_stands q k code s
  refine ⟨_, run, slot, proxyOut, stopped, (State.waitStored_keeps q k code s).weaken (by exact .check rfl)⟩

theorem State.proxyTimeout_stored : ∀ (q : Fin 64) (k : Fin 16) (s : State),
    s.due (.proxy q k) = true →
    s.receiver q = identCode (if q < 56 then 9 else 10) →
    ((s.eng.queue[q]).slot[k]).state = 1 →
    ((s.eng.queue[q]).slot[k]).sepoch = (s.epochOf (s.sender q)).toNat →
    s.twin.proxyIn = [] →
    Completes (.proxyTimeout q k) s fun t =>
    (t.eng.queue[q]).slot[k] = { (s.eng.queue[q]).slot[k] with state := 2, code := if s.proxyUp q then 0x17 else 0x15 } ∧
    t.twin.proxyOut.contains (q.val, k.val) = false ∧ Stopped (.proxy q k) t ∧
    KeepsBut [.twin .proxyOut, .twin .proxyIn, .timer (.proxy q k), .eng (.queue q), .eng .dbAll, .pins .spiIrq, .twin .sent, .eng .orphans,
    .timer (.limit 3074 noInst)] s t := fun q k s due own posted epoch none_ => by
  have code : (if s.proxyUp q then 0x17 else 0x15) % 256 = if s.proxyUp q then 0x17 else 0x15 := by split <;> rfl
  have run : exec (.proxyTimeout q k) s = .next ((s.waitOver q k).storeAck q k (if s.proxyUp q then 0x17 else 0x15)) :=
    congrArg Host.Outcome.next ((if_pos due).trans (State.proxyDone_stored own posted epoch none_ _))
  obtain ⟨slot, proxyOut, stopped⟩ := State.waitStored_stands q k (if s.proxyUp q then 0x17 else 0x15) s
  rw [code] at slot
  refine ⟨_, run, slot, proxyOut, stopped, (State.waitStored_keeps q k _ s).weaken fun p hp => .inl ?_⟩
  simp only [List.mem_cons, List.not_mem_nil, or_false] at hp ⊢
  tauto

/-- Settles O38: links, their delays and the messages by proxy, clause by clause. -/
theorem benutLinksDelaysAndProxiedMessages : Obligations.BenutLinksDelaysAndProxiedMessages := by
  unfold Obligations.BenutLinksDelaysAndProxiedMessages
  exact ⟨State.delayRequest_sent, State.delayFrame_request, State.delayFrame_response, State.benutLinkUp_twin, State.benutLinkUp_cascade,
    State.benutLinkDown_lost, State.messageFrame_stored, State.messageFrame_busy, State.messageAckFrame_stored, State.proxyTimeout_stored⟩

end Sys2Proof.Machine
end

section
/-! PROOFS. Loops: the boundary, slot edges, setpoints, bellows and shedding (R161 to R179). -/

namespace Sys2Proof.Machine

theorem State.balanceStep_keeps (l : Fin 8) (i : Vector Rat 32) (s : State) :
    KeepsBut [.phaseAll] s (State.balanceStep l i s) := by
  unfold State.balanceStep
  dsimp only
  exact KeepsBut.ite _ (KeepsBut.refl _ _) (KeepsBut.weaken (KeepsBut.each (l := [.phaseAll]) (fun a s => KeepsBut.weaken
      (KeepsBut.whole (m := [.phaseAll]) (State.modPhase_keeps _ _ _) rfl) (by exact .check rfl)) _ _) (by exact .check rfl))

theorem State.ceilingStep_keeps (l : Fin 8) (s : State) :
    KeepsBut (([.loop l, .timer (.limitClear ↑l)] : List Part) ++ Part.raised) s (State.ceilingStep l s) := by
  unfold State.ceilingStep
  dsimp only
  exact KeepsBut.viaIf (KeepsBut.weaken (State.raise_keepsBut _ _ _ _) (by apply Part.Within.checkAt l; rfl)) (KeepsBut.weaken
      (KeepsBut.after (State.armWhile_keeps _ _ _ _) (State.modLoop_keeps _ _ _)) (by apply Part.Within.checkAt l; rfl))

theorem State.implausibleStep_keeps (l : Fin 8) (i : Vector Rat 32) (s : State) :
    KeepsBut [.phaseAll] s (State.implausibleStep l i s) := by
  unfold State.implausibleStep
  dsimp only
  refine KeepsBut.ite _ (KeepsBut.refl _ _) ?_
  refine KeepsBut.via (KeepsBut.each (l := [.phaseAll]) (fun a s => ?_) _ _) (by exact .check rfl) ?_
  · exact KeepsBut.ite _ (KeepsBut.weaken (KeepsBut.whole (m := [.phaseAll]) (State.modPhase_keeps _ _ _) rfl) (by exact .check rfl))
      (KeepsBut.refl _ _)
  exact KeepsBut.refl _ _

theorem State.addPhases_keeps (l : Fin 8) (s : State) :
    KeepsBut [.phaseAll, .loop l] s (State.addPhases l s) := by
  unfold State.addPhases
  dsimp only
  refine KeepsBut.ite _ (KeepsBut.refl _ _) ?_
  refine KeepsBut.via (State.modLoop_keeps _ _ _) (by apply Part.Within.checkAt l; rfl) ?_
  refine KeepsBut.via (KeepsBut.each (l := [.phaseAll]) (fun a s => ?_) _ _) (by apply Part.Within.checkAt l; rfl) ?_
  · exact KeepsBut.ite _ (KeepsBut.weaken (KeepsBut.whole (m := [.phaseAll]) (State.modPhase_keeps _ _ _) rfl) (by apply Part.Within.checkAt l; rfl))
      (KeepsBut.refl _ _)
  exact KeepsBut.refl _ _

theorem State.shedStep_keeps (l : Fin 8) (s : State) :
    KeepsBut [.timer (.shedDwell ↑l), .loop l] s (State.shedStep l s) := by
  unfold State.shedStep
  dsimp only
  refine KeepsBut.ite _ (KeepsBut.weaken
      (KeepsBut.after (State.modLoop_keeps _ _ _) (State.disarm_keeps _ _)) (by apply Part.Within.checkAt l; rfl)) ?_
  refine KeepsBut.ite _ ?_ (KeepsBut.weaken
      (KeepsBut.after (State.modLoop_keeps _ _ _) (State.armWhile_keeps _ _ _ _)) (by apply Part.Within.checkAt l; rfl))
  split
  · exact KeepsBut.weaken (KeepsBut.after (State.modLoop_keeps _ _ _)
      (KeepsBut.after (State.modLoop_keeps _ _ _) (State.armWhile_keeps _ _ _ _))) (by apply Part.Within.checkAt l; rfl)
  · exact KeepsBut.weaken (KeepsBut.after (State.modLoop_keeps _ _ _) (State.armWhile_keeps _ _ _ _)) (by apply Part.Within.checkAt l; rfl)

theorem State.recompactNow_keeps (l : Fin 8) (s : State) :
    KeepsBut [.loop l] s (State.recompactNow l s) := by
  unfold State.recompactNow
  exact KeepsBut.weaken (State.modLoop_keeps _ _ _) (by apply Part.Within.checkAt l; rfl)

theorem State.drivePwm_keeps (i : Fin 32) (p : PwmPin) (s : State) :
    KeepsBut [.pins (.pwm i)] s (State.drivePwm i p s) := by
  unfold State.drivePwm
  exact KeepsBut.ite _ (KeepsBut.weaken (State.setPwm_keeps _ _ _) (by apply Part.Within.checkAt i; rfl)) (KeepsBut.refl _ _)

theorem State.modPhase_phase (i : Fin 32) (f : Phase → Phase) (s : State) : (s.modPhase i f).phase[i] = f s.phase[i] := vector_set_eq _ _ _

/-! ## The period boundary (R161, R174, R182) -/

/-- What a boundary's later steps leave of its loop. -/
def Loop.Paced (x y : Loop) : Prop :=
  y.current = x.current ∧ y.running = x.running ∧ y.bounded = x.bounded ∧ y.boundAt = x.boundAt ∧ y.period = x.period ∧
    y.syncLocked = x.syncLocked ∧ y.syncPeriod = x.syncPeriod

theorem Loop.Paced.refl (x : Loop) : Loop.Paced x x := ⟨rfl, rfl, rfl, rfl, rfl, rfl, rfl⟩

theorem Loop.Paced.trans {x y z : Loop} (h : Loop.Paced x y) (k : Loop.Paced y z) : Loop.Paced x z := by
  obtain ⟨current, running, bounded, boundAt, period, locked, sync⟩ := h
  obtain ⟨current', running', bounded', boundAt', period', locked', sync'⟩ := k
  exact ⟨current'.trans current, running'.trans running, bounded'.trans bounded, boundAt'.trans boundAt, period'.trans period,
    locked'.trans locked, sync'.trans sync⟩

theorem Loop.Paced.of_eq {x y : Loop} (h : y = x) : Loop.Paced x y := by
  rw [h]
  exact .refl x

theorem State.balanceStep_paced (l : Fin 8) (i : Vector Rat 32) (s : State) : Loop.Paced s.loop[l] (s.balanceStep l i).loop[l] :=
  .of_eq ((s.balanceStep_keeps l i).get (.loop l) (by generalize l = j; rfl))

theorem State.implausibleStep_paced (l : Fin 8) (i : Vector Rat 32) (s : State) : Loop.Paced s.loop[l] (s.implausibleStep l i).loop[l] :=
  .of_eq ((s.implausibleStep_keeps l i).get (.loop l) (by generalize l = j; rfl))

theorem State.modLoop_paced {l : Fin 8} {f : Loop → Loop} {s : State} (h : Loop.Paced s.loop[l] (f s.loop[l])) :
    Loop.Paced s.loop[l] (s.modLoop l f).loop[l] := by
  rw [State.modLoop_loop]
  exact h

theorem State.armWhile_loop (c : Bool) (x : TimerId) (n : Nat) (s : State) : (s.armWhile c x n).loop = s.loop := by simp

/-- A change of a loop that leaves its pace, a timer and a code beside it leave the pace too. -/
theorem State.modLoop_raised_paced {l : Fin 8} {f : Loop → Loop} {s : State} (h : Loop.Paced s.loop[l] (f s.loop[l])) (c : Bool) (x : TimerId) (n : Nat)
    (p : Prop) [Decidable p] (code inst : Nat) (v : List Nat) :
    Loop.Paced s.loop[l] (if p then ((s.modLoop l f).armWhile c x n).raise code inst v else (s.modLoop l f).armWhile c x n).loop[l] := by
  have set : ((s.modLoop l f).armWhile c x n).loop[l] = f s.loop[l] :=
    (congrArg (fun v : Vector Loop 8 => v[l]) (State.armWhile_loop c x n _)).trans (State.modLoop_loop l f s)
  have raised : (((s.modLoop l f).armWhile c x n).raise code inst v).loop[l] = ((s.modLoop l f).armWhile c x n).loop[l] :=
    (State.raise_keepsBut _ _ _ _).get (.loop l) (by generalize l = j; rfl)
  by_cases hp : p
  · rw [if_pos hp, raised, set]
    exact h
  · rw [if_neg hp, set]
    exact h

theorem State.ceilingStep_paced (l : Fin 8) (s : State) : Loop.Paced s.loop[l] (s.ceilingStep l).loop[l] :=
  State.modLoop_raised_paced ⟨rfl, rfl, rfl, rfl, rfl, rfl, rfl⟩ _ _ _ _ _ _ _

theorem State.addPhases_paced (l : Fin 8) (s : State) : Loop.Paced s.loop[l] (s.addPhases l).loop[l] := by
  unfold State.addPhases
  dsimp only
  split
  · exact .refl _
  · have added := State.each_invariant (P := fun t => t.loop = s.loop) (f := fun i : Fin 32 => fun t : State =>
      if s.loop[l].addPending.getLsbD i ∧ t.phase[i].st = .shed then t.modPhase i fun p => { p with st := .participating, bal := 0, taper := 0 } else t)
      (fun i t ht => by split <;> exact ht) (List.finRange 32) s rfl
    rw [State.modLoop_loop, added]
    exact .refl _

theorem State.shedStep_paced (l : Fin 8) (s : State) : Loop.Paced s.loop[l] (s.shedStep l).loop[l] := by
  unfold State.shedStep
  dsimp only
  split
  · rw [State.modLoop_loop]
    exact .refl _
  · split
    · split
      · rw [State.modLoop_loop, State.modLoop_loop, State.armWhile_loop]
        exact .refl _
      · rw [State.modLoop_loop, State.armWhile_loop]
        exact .refl _
    · rw [State.modLoop_loop, State.armWhile_loop]
      exact .refl _

/-- A boundary passed, with its date and the mean of the period. -/
def State.boundaryPassed (l : Fin 8) (i : Vector Rat 32) (s : State) : State :=
  s.modLoop l fun x =>
    { x with bounded := true, boundAt := x.refEdge.getD 0 + 256 * s.raw (0x2410 + l) 0x12, current := s.loopCurrent l i, quiet := x.quiet - 1 }

/-- That boundary, with what it judges. -/
def State.boundaryJudged (l : Fin 8) (i : Vector Rat 32) (s : State) : State :=
  (((s.boundaryPassed l i).balanceStep l i).ceilingStep l).implausibleStep l i

/-- Then the next period is taken. -/
def State.periodTaken (l : Fin 8) (s : State) : State :=
  s.modLoop l fun x => { x with recompact := x.recompact ∨ s.nextPeriod l ≠ x.period, period := s.nextPeriod l }

/-- Then phases are added and shed, and the slots are laid out again. -/
def State.boundaryLaid (l : Fin 8) (s : State) : State :=
  if ((s.addPhases l).shedStep l).loop[l].recompact then ((s.addPhases l).shedStep l).recompactNow l else (s.addPhases l).shedStep l

theorem State.exec_loopPeriodBoundary {l : Fin 8} {s : State} (due : s.boundaryDue l = true) (i : Vector Rat 32) :
    exec (.loopPeriodBoundary l i) s = .next (((s.boundaryJudged l i).periodTaken l).boundaryLaid l) :=
  congrArg Host.Outcome.next (if_neg (not_not.2 due))

theorem State.boundaryJudged_later (l : Fin 8) (i : Vector Rat 32) (s : State) :
    KeepsBut (([.loop l, .phaseAll, .timer (.limitClear l)] : List Part) ++ Part.raised) (s.boundaryPassed l i) (s.boundaryJudged l i) :=
  (((State.balanceStep_keeps l i _).append (State.ceilingStep_keeps l _)).append (State.implausibleStep_keeps l i _)).weaken
    (by apply Part.Within.checkAt l; rfl)

theorem State.boundaryJudged_paced (l : Fin 8) (i : Vector Rat 32) (s : State) :
    Loop.Paced (s.boundaryPassed l i).loop[l] (s.boundaryJudged l i).loop[l] :=
  ((State.balanceStep_paced l i _).trans (State.ceilingStep_paced l _)).trans (State.implausibleStep_paced l i _)

theorem State.boundaryLaid_keeps (l : Fin 8) (s : State) : KeepsBut [.phaseAll, .loop l, .timer (.shedDwell l)] s (s.boundaryLaid l) := by
  have laid : KeepsBut [.phaseAll, .loop l, .timer (.shedDwell l)] s ((s.addPhases l).shedStep l) :=
    ((State.addPhases_keeps l s).append (State.shedStep_keeps l _)).weaken (by apply Part.Within.checkAt l; rfl)
  exact KeepsBut.ite _ ((laid.append (State.recompactNow_keeps l _)).weaken (by apply Part.Within.checkAt l; rfl)) laid

theorem State.boundaryLaid_paced (l : Fin 8) (s : State) : Loop.Paced s.loop[l] (s.boundaryLaid l).loop[l] := by
  have laid := (State.addPhases_paced l s).trans (State.shedStep_paced l _)
  unfold State.boundaryLaid
  split
  · exact laid.trans (State.modLoop_paced ⟨rfl, rfl, rfl, rfl, rfl, rfl, rfl⟩)
  · exact laid

/-- The next period is a matter of the settings, the generators' periods and the loop's pace. -/
theorem State.nextPeriod_congr {l : Fin 8} {s t : State} (raw : t.raw = s.raw) (tb : t.tb = s.tb) (period : (t.loop[l]).period = (s.loop[l]).period)
    (locked : (t.loop[l]).syncLocked = (s.loop[l]).syncLocked) (sync : (t.loop[l]).syncPeriod = (s.loop[l]).syncPeriod) :
    t.nextPeriod l = s.nextPeriod l := by
  unfold State.nextPeriod State.syncNominal
  rw [show t.flag = s.flag from funext fun idx => funext fun sub => congrArg (fun c => Cfg.flag c idx sub) raw, tb, State.real_congr raw]
  dsimp only
  rw [period, locked, sync]

theorem State.loopPeriodBoundary_passed : ∀ (l : Fin 8) (i : Vector Rat 32) (s : State),
    s.boundaryDue l = true →
    Completes (.loopPeriodBoundary l i) s fun t =>
    (t.loop[l]).current = s.loopCurrent l i ∧ (t.loop[l]).running = true ∧ (t.loop[l]).bounded = true ∧
    (t.loop[l]).boundAt = (s.loop[l]).refEdge.getD 0 + 256 * s.raw (0x2410 + l) 0x12 ∧ (t.loop[l]).period = s.nextPeriod l ∧
    KeepsBut (([.loopAll, .phaseAll, .timers] : List Part) ++ Part.raised) s t := fun l i s due => by
  have run := State.exec_loopPeriodBoundary due i
  have passed : KeepsBut [.loop l] s (s.boundaryPassed l i) := State.modLoop_keeps l _ s
  have x : (s.boundaryPassed l i).loop[l] = { s.loop[l] with
      bounded := true, boundAt := s.loop[l].refEdge.getD 0 + 256 * s.raw (0x2410 + l) 0x12, current := s.loopCurrent l i, quiet := s.loop[l].quiet - 1 } :=
    State.modLoop_loop _ _ _
  have running : (s.loop[l]).running = true := by
    unfold State.boundaryDue at due
    obtain ⟨-, -, running, -⟩ := of_decide_eq_true due
    exact running
  have kept := passed.append (s.boundaryJudged_later l i)
  have judged := s.boundaryJudged_paced l i
  have tb : (s.boundaryJudged l i).tb = s.tb := by simp [State.boundaryJudged, State.boundaryPassed]
  have raw : (s.boundaryJudged l i).raw = s.raw := kept.raw (fun _ => by apply Part.outsideAt l; rfl) (fun _ => by apply Part.outsideAt l; rfl)
    (by apply Part.outsideAt l; rfl) (by apply Part.outsideAt l; rfl)
  rw [x] at judged
  generalize s.boundaryJudged l i = a at *
  obtain ⟨current, running', bounded, boundAt, period, locked, sync⟩ := judged
  have taken : (a.periodTaken l).loop[l] = { a.loop[l] with recompact := a.loop[l].recompact ∨ a.nextPeriod l ≠ a.loop[l].period, period := a.nextPeriod l } :=
    State.modLoop_loop _ _ _
  have paced : KeepsBut [.loop l] a (a.periodTaken l) := State.modLoop_keeps l _ a
  have next := State.nextPeriod_congr raw tb period locked sync
  have laid := (a.periodTaken l).boundaryLaid_paced l
  rw [taken] at laid
  obtain ⟨current', running'', bounded', boundAt', period', -⟩ := laid
  exact ⟨_, run, current'.trans current, running''.trans (running'.trans running), bounded'.trans bounded, boundAt'.trans boundAt, period'.trans next,
    ((kept.append paced).append ((a.periodTaken l).boundaryLaid_keeps l)).weaken (by apply Part.Within.checkAt l; rfl)⟩

/-! ## Slot edges (R165, R168, R172, R179) -/

theorem State.drivePwm_drives {s : State} (drives : s.drives = true) (i : Fin 32) (p : PwmPin) : s.drivePwm i p = s.setPwm i p := if_pos drives

/-- A loop at a slot edge: its suppression ends where the output is low enough again. -/
def State.unsuppressed (l : Fin 8) (pair vlcl : Rat) (s : State) : State :=
  if s.loop[l].suppressed ∧ s.selected l pair vlcl ≤ s.overshootLevel l - 2 / 1000 ∧ ¬ s.loop[l].outHigh then
    (s.modLoop l fun x => { x with suppressed := false }).disarm (.overvoltage l)
  else s

theorem State.exec_phaseSlotEdge {i : Fin 32} {l : Fin 8} {s : State} (of_ : s.loopOfPhase i = some l) (pair vlcl : Rat) :
    exec (.phaseSlotEdge i pair vlcl) s = .next (
      if s.phase[i].stopping then (s.setPwm i .highZ).modPhase i fun p => { p with stopping := false }
      else if ¬ s.loop[l].running ∨ ¬ phaseOn s.phase[i].st then s
      else if (s.unsuppressed l pair vlcl).phase[i].st = .tapering then (s.unsuppressed l pair vlcl).taperEdge l i
      else if (s.unsuppressed l pair vlcl).loop[l].suppressed then s.unsuppressed l pair vlcl
      else (s.unsuppressed l pair vlcl).pulse l i 4) := by
  show execPhaseSlotEdge i pair vlcl s = _
  unfold execPhaseSlotEdge
  rw [of_]
  rfl

/-- A participating phase of a running loop that is not suppressed pulses at its slot edge. -/
theorem State.exec_phaseSlotEdge_pulse {i : Fin 32} {l : Fin 8} {s : State} (of_ : s.loopOfPhase i = some l) (goes : (s.phase[i]).stopping = false)
    (st : (s.phase[i]).st = .participating) (running : (s.loop[l]).running = true) (free : (s.loop[l]).suppressed = false) (pair vlcl : Rat) :
    exec (.phaseSlotEdge i pair vlcl) s = .next (s.pulse l i 4) := by
  have runs : ¬ (¬ s.loop[l].running = true ∨ ¬ phaseOn s.phase[i].st = true) := by
    rw [running, st]
    exact not_or.2 ⟨not_not.2 rfl, not_not.2 rfl⟩
  have on : ¬ s.loop[l].suppressed = true := by rw [free]; exact Bool.false_ne_true
  have same : s.unsuppressed l pair vlcl = s := if_neg fun h => on h.1
  rw [State.exec_phaseSlotEdge of_, if_neg (by rw [goes]; exact Bool.false_ne_true), if_neg runs, same, if_neg (by rw [st]; exact nofun), if_neg on]

/-- A pulse of an on-time, before the pin is driven. -/
def State.pulseBegun (l : Fin 8) (i : Fin 32) (n : Nat) (s : State) : State :=
  (s.modPhase i fun p => { p with onSteps := n, offAt := s.now + (5 * n + 255) / 256, requests := [(false, s.now)], leading := none }).modLoop l
    fun x => { x with pulsed := true }

theorem State.phaseSlotEdge_pulse : ∀ (i : Fin 32) (l : Fin 8) (n : Nat) (pair vlcl : Rat) (s : State),
    s.loopOfPhase i = some l →
    (s.phase[i]).stopping = false →
    (s.phase[i]).st = .participating →
    (s.loop[l]).running = true →
    (s.loop[l]).suppressed = false →
    s.onTime l i 4 = some n →
    s.drives = true →
    Completes (.phaseSlotEdge i pair vlcl) s fun t =>
    t.pins = { s.pins with pwm := s.pins.pwm.set i .high } ∧ (t.phase[i]).onSteps = n ∧ (t.phase[i]).offAt = s.now + (5 * n + 255) / 256 ∧
    (t.phase[i]).requests = [(false, s.now)] ∧ (t.loop[l]).pulsed = true ∧
    KeepsBut [.pins (.pwm i), .phase i, .loop l] s t := fun i l n pair vlcl s of_ goes st running free on drives => by
  have pulse : s.pulse l i 4 = (s.pulseBegun l i n).setPwm i .high := by
    rw [← State.drivePwm_drives (s := s.pulseBegun l i n) drives]
    unfold State.pulse
    rw [on]
    rfl
  have run := (State.exec_phaseSlotEdge_pulse of_ goes st running free pair vlcl).trans (congrArg Host.Outcome.next pulse)
  have phase : ((s.pulseBegun l i n).setPwm i .high).phase[i] =
      { s.phase[i] with onSteps := n, offAt := s.now + (5 * n + 255) / 256, requests := [(false, s.now)], leading := none } := vector_set_eq _ _ _
  have loop : ((s.pulseBegun l i n).setPwm i .high).loop[l] = { s.loop[l] with pulsed := true } := vector_set_eq _ _ _
  refine ⟨_, run, rfl, ?_, ?_, ?_, ?_, (((State.modPhase_keeps i _ s).append (State.modLoop_keeps l _ _)).append (State.setPwm_keeps i .high _)).weaken
    fun p hp => .inl ?_⟩
  · rw [phase]
  · rw [phase]
  · rw [phase]
  · rw [loop]
  · simp only [List.cons_append, List.nil_append, List.mem_cons, List.not_mem_nil, or_false] at hp ⊢
    tauto

/-- A slot edge without an on-time. -/
def State.pulseNone (i : Fin 32) (s : State) : State := s.modPhase i fun p => { p with onSteps := 0 }

theorem State.phaseSlotEdge_none : ∀ (i : Fin 32) (l : Fin 8) (pair vlcl : Rat) (s : State),
    s.loopOfPhase i = some l →
    (s.phase[i]).stopping = false →
    (s.phase[i]).st = .participating →
    (s.loop[l]).running = true →
    (s.loop[l]).suppressed = false →
    s.onTime l i 4 = none →
    s.drives = true →
    Completes (.phaseSlotEdge i pair vlcl) s fun t =>
    t.pins = { s.pins with pwm := if (s.loop[l]).pulsed = true then s.pins.pwm.set i .low else s.pins.pwm } ∧ (t.phase[i]).onSteps = 0 ∧
    KeepsBut [.pins (.pwm i), .phase i, .loop l] s t := fun i l pair vlcl s of_ goes st running free off drives => by
  have pulse : s.pulse l i 4 = if (s.loop[l]).pulsed then (s.pulseNone i).setPwm i .low else s.pulseNone i := by
    rw [← State.drivePwm_drives (s := s.pulseNone i) drives]
    unfold State.pulse
    rw [off]
    rfl
  have run := (State.exec_phaseSlotEdge_pulse of_ goes st running free pair vlcl).trans (congrArg Host.Outcome.next pulse)
  have phase : (s.pulseNone i).phase[i] = { s.phase[i] with onSteps := 0 } := State.modPhase_phase i _ s
  have kept : KeepsBut [.phase i] s (s.pulseNone i) := State.modPhase_keeps i _ s
  split at run
  next pulsed =>
    refine ⟨_, run, ?_, congrArg Phase.onSteps phase, (kept.append (State.setPwm_keeps i .low _)).weaken fun p hp => .inl ?_⟩
    · rw [if_pos pulsed]
      rfl
    · simp only [List.cons_append, List.nil_append, List.mem_cons, List.not_mem_nil, or_false] at hp ⊢
      tauto
  next idle =>
    refine ⟨_, run, ?_, congrArg Phase.onSteps phase, kept.weaken fun p hp => .inl ?_⟩
    · rw [if_neg idle]
      rfl
    · simp only [List.mem_cons, List.not_mem_nil, or_false] at hp ⊢
      tauto

theorem State.phaseSlotEdge_suppressed : ∀ (i : Fin 32) (l : Fin 8) (pair vlcl : Rat) (s : State),
    s.loopOfPhase i = some l →
    (s.phase[i]).stopping = false →
    (s.phase[i]).st = .participating →
    (s.loop[l]).suppressed = true →
    s.overshootLevel l - 2 / 1000 < s.selected l pair vlcl →
    Completes (.phaseSlotEdge i pair vlcl) s fun t => t = s := fun i l pair vlcl s of_ goes st suppressed high => by
  have same : s.unsuppressed l pair vlcl = s := if_neg fun h => absurd h.2.1 (not_le.2 high)
  refine ⟨s, ?_, rfl⟩
  rw [State.exec_phaseSlotEdge of_, if_neg (by rw [goes]; exact Bool.false_ne_true), same]
  split
  · rfl
  · rw [if_neg (by rw [st]; exact nofun)]

theorem State.phaseSlotEdge_stops : ∀ (i : Fin 32) (l : Fin 8) (pair vlcl : Rat) (s : State),
    s.loopOfPhase i = some l →
    (s.phase[i]).stopping = true →
    Completes (.phaseSlotEdge i pair vlcl) s fun t =>
    t.pins = { s.pins with pwm := s.pins.pwm.set i .highZ } ∧ t.phase = s.phase.set i { s.phase[i] with stopping := false } ∧
    KeepsBut [.pins (.pwm i), .phase i] s t := fun i l pair vlcl s of_ stops => by
  have run := State.exec_phaseSlotEdge of_ pair vlcl
  rw [if_pos stops] at run
  exact ⟨_, run, rfl, rfl, (State.setPwm_keeps i .highZ s).append (State.modPhase_keeps i _ _)⟩

/-! ## Writes that take effect without a commit (R351, R391) -/

theorem lookup_dropKey_ne {k k' : Nat} (other : k' ≠ k) (l : List (Nat × Nat)) : (dropKey k l).lookup k' = l.lookup k' := by
  unfold dropKey
  induction l with
  | nil => rfl
  | cons a l ih =>
    obtain ⟨i, x⟩ := a
    by_cases h : i = k
    · subst h
      have miss : (k' == i) = false := by simpa using other
      simpa [List.lookup, miss] using ih
    · by_cases here : k' = i
      · simp [h, List.lookup, here]
      · have miss : (k' == i) = false := by simpa using here
        simpa [h, List.lookup, miss] using ih

theorem lookup_putKey_ne {k k' : Nat} (other : k' ≠ k) (v : Nat) (l : List (Nat × Nat)) : (putKey k v l).lookup k' = l.lookup k' := by
  have miss : (k' == k) = false := by simpa using other
  induction l with
  | nil => simp [putKey, List.lookup, miss]
  | cons a l ih =>
    obtain ⟨i, x⟩ := a
    unfold putKey
    split
    · simp [List.lookup, miss]
    · split
      · next same => simp [List.lookup, miss, ← same]
      · simp only [List.lookup, ih]

theorem State.setForce_keeps_key {idx : Nat} (plain : isCalObject idx = false) (sub v : Nat) (s : State) :
    KeepsBut [.net (.force (objKey idx sub))] s (s.setForce idx sub v) := by
  unfold State.setForce
  dsimp only
  rw [plain]
  refine KeepsBut.write_net fun f hf _ _ => ?_
  cases f with
  | force k =>
    have other : k ≠ objKey idx sub := by
      rintro rfl
      simp at hf
    show List.lookup k (if v = s.default idx sub then dropKey _ s.net.force else putKey _ v s.net.force) = _
    split
    · exact lookup_dropKey_ne other _
    · exact lookup_putKey_ne other v _
  | forceAll | rwAll | sessAll | storeAll | portAll | pmAll | pmXferAll => trivial
  | _ => exact rfl

/-- What a write puts in force, with what it does and the hash. -/
def State.rwsDone (idx sub v : Nat) (act : State → State) (s : State) : State := (act (s.setForce idx sub v)).rehash

/-- A write of an object that takes effect without a commit. -/
theorem State.writeBy_rws {w : Session} {idx sub : Nat} {d : List Byte} {o : ObjWrite} {act : List Byte → State → State} {s : State}
    (a : s.admits w idx sub d = true) (own : (idx == 0x1010) = false) (effect : o.effect = (rwsWrite idx sub act).effect)
    (hi : o.invalid (s.touch w) d = none) (hb : o.busy (s.touch w) d = none) (hl : o.badLength d = false) (hr : o.reply (s.touch w) d = none) :
    s.writeBy w idx sub d o = (((s.touch w).rwsDone idx sub (leValue d) (act d)).forward idx sub d).answer w .done := by
  rw [State.writeBy_done a hb hl hi hr, if_neg (by simpa using own), effect]
  rfl

theorem State.rwsDone_keeps {l : List Part} {idx : Nat} (plain : isCalObject idx = false) (sub v : Nat) {act : State → State} {s : State}
    (acts : KeepsBut l (s.setForce idx sub v) (act (s.setForce idx sub v))) :
    KeepsBut (.net (.force (objKey idx sub)) :: l ++ [.net .commit]) s (s.rwsDone idx sub v act) :=
  ((State.setForce_keeps_key plain sub v s).append acts).append (State.rehash_keeps _)

theorem isCalObject_low {idx : Nat} (low : idx < 0x3601) : isCalObject idx = false := by
  unfold isCalObject
  exact decide_eq_false (by omega)

theorem beq_store_low {idx : Nat} (high : 0x1010 < idx) : (idx == 0x1010) = false := beq_false_of_ne (by omega)

theorem objSetpoint_effect (l : Fin 8) : (objSetpoint l).effect =
    (rwsWrite (0x2410 + l) 3 fun d s => s.modLoop l fun x => if x.running ∧ ¬ x.rampStop then { x with vTarget := realOf d } else x).effect := rfl

theorem State.exec_setpointWrite {w : Session} {l : Fin 8} {d : List Byte} {s : State} (a : s.admits w (0x2410 + l) 3 d = true)
    (valid : (objSetpoint l).invalid (s.touch w) d = none) : exec (.setpointWrite w l d) s = .next ((((s.touch w).rwsDone (0x2410 + l) 3 (leValue d)
      (State.modLoop l fun x => if x.running ∧ ¬ x.rampStop then { x with vTarget := realOf d } else x)).forward (0x2410 + l) 3 d).answer w .done) :=
  congrArg Host.Outcome.next (State.writeBy_rws
    (act := fun d s => s.modLoop l fun x => if x.running ∧ ¬ x.rampStop then { x with vTarget := realOf d } else x) a
    (beq_store_low (by omega)) (objSetpoint_effect l) valid rfl rfl rfl)

/-- The value that such a write leaves in force. -/
theorem State.rwsDone_value {l : List Part} {idx : Nat} (plain : isCalObject idx = false) (sub v : Nat) {act : State → State} {s : State}
    (acts : KeepsBut l (s.setForce idx sub v) (act (s.setForce idx sub v))) (out : Part.outside l (.net (.force (objKey idx sub))) = true)
    (w : Session) (x : Answer) (d : List Byte) :
    (((((s.rwsDone idx sub v act).forward idx sub d).answer w x).net.force.lookup (objKey idx sub))).getD (s.default idx sub) = v := by
  have later := ((State.rehash_keeps (act (s.setForce idx sub v))).append (State.forward_keeps idx sub d _)).append (State.answer_keeps w x _)
  have same := later.get (.net (.force (objKey idx sub))) (by generalize objKey idx sub = k; cases w <;> rfl)
  have kept : (act (s.setForce idx sub v)).net.force.lookup (objKey idx sub) = (s.setForce idx sub v).net.force.lookup (objKey idx sub) :=
    acts.get (.net (.force (objKey idx sub))) out
  exact (congrArg (fun o : Option Nat => o.getD (s.default idx sub)) (Eq.trans same kept)).trans (State.setForce_value plain sub v s)

theorem State.rwsDone_loop (idx sub v : Nat) (l : Fin 8) (f : Loop → Loop) (d : List Byte) (w : Session) (x : Answer) (s : State) :
    (((s.rwsDone idx sub v (State.modLoop l f)).forward idx sub d).answer w x).loop[l] = f s.loop[l] := by
  have later := ((State.rehash_keeps ((s.setForce idx sub v).modLoop l f)).append (State.forward_keeps idx sub d _)).append (State.answer_keeps w x _)
  have same : (s.setForce idx sub v).loop = s.loop := by simp
  refine Eq.trans (later.get (.loop l) (by generalize l = j; cases w <;> rfl)) ?_
  rw [State.modLoop_loop, same]

theorem State.setpointWrite_running : ∀ (w : Session) (l : Fin 8) (d : List Byte) (s : State),
    s.admits w (0x2410 + l) 3 d = true →
    (objSetpoint l).invalid (s.touch w) d = none →
    (s.loop[l]).running = true →
    (s.loop[l]).rampStop = false →
    Completes (.setpointWrite w l d) s fun t =>
    (t.loop[l]).vTarget = realOf d ∧ (t.loop[l]).vSet = (s.loop[l]).vSet ∧
    (t.net.force.lookup (objKey (0x2410 + l) 3)).getD (s.default (0x2410 + l) 3) = leValue d ∧
    Answered w .done t ∧ KeepsBut [.loop l, .net (.force (objKey (9232 + l) 3)), .net .commit, .twin .sent, .net (.sess (sessIx w)),
    .timer (.sessIdle (sessIx w))] s t := fun w l d s a valid running steady => by
  have run := State.exec_setpointWrite a valid
  have plain : isCalObject (0x2410 + l) = false := isCalObject_low (by omega)
  have acts := State.modLoop_keeps l (fun x => if x.running ∧ ¬ x.rampStop then { x with vTarget := realOf d } else x)
    ((s.touch w).setForce (0x2410 + l) 3 (leValue d))
  have done := State.rwsDone_keeps plain 3 (leValue d) acts
  have value := State.rwsDone_value plain 3 (leValue d) acts (by generalize objKey (0x2410 + l) 3 = k; generalize l = j; rfl) w .done d
  have loop := State.rwsDone_loop (0x2410 + l) 3 (leValue d) l (fun x => if x.running ∧ ¬ x.rampStop then { x with vTarget := realOf d } else x) d w
    .done (s.touch w)
  rw [show (s.touch w).loop = s.loop from rfl, if_pos ⟨running, by rw [steady]; exact Bool.false_ne_true⟩] at loop
  refine ⟨_, run, ?_, ?_, value, State.answer_answered _ _ _, ((done.append (State.forward_keeps _ _ d _)).write .done).weaken fun p hp => .inl ?_⟩
  · rw [loop]
  · rw [loop]
  · simp only [List.cons_append, List.nil_append, List.mem_cons, List.not_mem_nil, or_false] at hp ⊢
    tauto

theorem State.bellowsEnd_over : ∀ (l : Fin 8) (s : State),
    (s.loop[l]).bellowsOn = true →
    (s.loop[l]).bellowsEnd ≤ s.now →
    Completes (.bellowsEnd l) s fun t => t.loop = s.loop.set l { s.loop[l] with bellowsOn := false } ∧ KeepsBut [.loop l] s t := fun l s on over_ =>
  ⟨_, congrArg Host.Outcome.next (if_pos ⟨on, over_⟩), rfl, State.modLoop_keeps l _ s⟩

/-- A phase that begins its taper. -/
def State.taperBegun (l : Fin 8) (i : Fin 32) (s : State) : State :=
  (((s.disarm (.shedDwell l)).modLoop l fun x => { x with shedPending := false }).modPhase i fun p => { p with st := .tapering, taper := 0 }).modLoop l
    fun x => { x with shedding := true }

theorem State.shedDwellExpiry_tapers : ∀ (l : Fin 8) (i : Fin 32) (s : State),
    (s.loop[l]).running = true →
    s.due (.shedDwell l) = true →
    (((s.partPhases l).filter fun p => s.phase[p].st = .participating).getLast? = some i) →
    Completes (.shedDwellExpiry l) s fun t =>
    (t.phase[i]).st = .tapering ∧ (t.phase[i]).taper = 0 ∧ (t.loop[l]).shedding = true ∧ (t.loop[l]).shedPending = false ∧
    Stopped (.shedDwell l) t ∧ KeepsBut [.timer (.shedDwell l), .loop l, .phaseAll] s t := fun l i s running due last => by
  have run : exec (.shedDwellExpiry l) s = .next (s.taperBegun l i) := by
    show execShedDwellExpiry l s = _
    unfold execShedDwellExpiry
    rw [if_neg (not_or.2 ⟨not_not.2 running, not_not.2 due⟩)]
    exact congrArg Host.Outcome.next (congrArg (fun o : Option (Fin 32) => match o with
      | none => (s.disarm (.shedDwell l)).modLoop l fun x => { x with shedPending := false }
      | some i => (((s.disarm (.shedDwell l)).modLoop l fun x => { x with shedPending := false }).modPhase i fun p =>
        { p with st := .tapering, taper := 0 }).modLoop l fun x => { x with shedding := true }) last)
  have phase : (s.taperBegun l i).phase[i] = { s.phase[i] with st := .tapering, taper := 0 } := vector_set_eq _ _ _
  have loop : (s.taperBegun l i).loop[l] = { s.loop[l] with shedPending := false, shedding := true } :=
    (vector_set_eq _ _ _).trans (congrArg (fun x : Loop => { x with shedding := true }) (vector_set_eq _ _ _))
  have later : KeepsBut [.loop l, .phase i, .loop l] (s.disarm (.shedDwell l)) (s.taperBegun l i) :=
    ((State.modLoop_keeps l _ _).append (State.modPhase_keeps i _ _)).append (State.modLoop_keeps l _ _)
  refine ⟨_, run, ?_, ?_, ?_, ?_, Stopped.kept (State.disarm_deadline _ s) later (by generalize i = j; generalize l = k; rfl),
    ((s.disarm_keeps _).append later).weaken fun p hp => ?_⟩
  · rw [phase]
  · rw [phase]
  · rw [loop]
  · rw [loop]
  · simp only [List.cons_append, List.nil_append, List.mem_cons, List.not_mem_nil, or_false] at hp ⊢
    obtain rfl | rfl | rfl | rfl := hp
    · exact .inl (.inl rfl)
    · exact .inl (.inr (.inl rfl))
    · exact .inr (.inr (.inr rfl))
    · exact .inl (.inr (.inl rfl))

/-- Settles O11: boundaries, pulses, setpoints, bellows and shedding, clause by clause. -/
theorem loopsPulseRampAndShed : Obligations.LoopsPulseRampAndShed := by
  unfold Obligations.LoopsPulseRampAndShed
  exact ⟨State.loopPeriodBoundary_passed, State.phaseSlotEdge_pulse, State.phaseSlotEdge_none, State.phaseSlotEdge_suppressed,
    State.phaseSlotEdge_stops, State.setpointWrite_running, State.bellowsEnd_over, State.shedDwellExpiry_tapers⟩

end Sys2Proof.Machine
end

section
/-! PROOFS. Loops: protection and synchronisation (R171 to R181). -/

namespace Sys2Proof.Machine

theorem State.endPulses_keeps (l : Fin 8) (s : State) :
    KeepsBut [.pins .pwmAll, .phaseAll] s (State.endPulses l s) := by
  unfold State.endPulses
  refine KeepsBut.via (KeepsBut.each (l := [.pins .pwmAll, .phaseAll]) (fun a s => ?_) _ _) (by exact .check rfl) ?_
  · exact KeepsBut.ite _ (KeepsBut.weaken (KeepsBut.after (KeepsBut.whole (m := [.phaseAll]) (State.modPhase_keeps _ _ _) rfl)
      (KeepsBut.whole (m := [.pins .pwmAll]) (State.setPwm_keeps _ _ _) rfl)) (by exact .check rfl)) (KeepsBut.refl _ _)
  exact KeepsBut.refl _ _

theorem State.syncStep_keeps (p : Nat) (l : Fin 8) (s : State) :
    KeepsBut [.loop l, .timer (.syncGone ↑l)] s (State.syncStep p l s) := by
  unfold State.syncStep
  dsimp only
  exact KeepsBut.ite _ (KeepsBut.refl _ _) (KeepsBut.weaken
      (KeepsBut.after (State.arm_keeps _ _ _) (State.modLoop_keeps _ _ _)) (by apply Part.Within.checkAt l; rfl))

theorem State.followEdge_keeps (s : State) :
    KeepsBut [.loopAll] s (State.followEdge s) := by
  unfold State.followEdge
  dsimp only
  exact KeepsBut.weaken (KeepsBut.of_pieces (l := [.loopAll]) { State.Pieces.refl with
      loop_ := fun _ _ h => absurd (by simp) h }) (by exact .check rfl)

theorem vector_set_set {α : Type} {n : Nat} (v : Vector α n) (i : Fin n) (x y : α) : (v.set i x).set i y = v.set i y := by simp

/-! ## Sense loss and overshoot (R171, R172) -/

/-- A loop whose pair is lost, before the code is raised. -/
def State.pairLost (l : Fin 8) (s : State) : State := s.modLoop l fun x => { x with senseLost := true, vlclRun := 0 }

theorem State.senseLost_moves : ∀ (l : Fin 8) (s : State),
    (s.loop[l]).running = true →
    (s.loop[l]).onVlcl = false →
    (s.loop[l]).senseLost = false →
    3 ≤ (s.loop[l]).vlclRun →
    (s.loop[l]).outHigh = true →
    s.raw (0x2410 + l) 0x0A = 0 →
    Completes (.senseLost l) s fun t =>
    t.loop = s.loop.set l { s.loop[l] with senseLost := true, vlclRun := 0, toVlcl := true } ∧ Raised 0x0401 l [] s t ∧
    KeepsBut (([.loopAll] : List Part) ++ Part.raised) s t := fun l s running pair fresh vlcl high setting => by
  have acts : ¬ (¬ (s.loop[l]).running = true ∨ (s.loop[l]).onVlcl = true ∨ (s.loop[l]).senseLost = true ∨ (s.loop[l]).vlclRun < 3 ∨
      ¬ ((s.loop[l]).outHigh = true ∨ (s.loop[l]).outLow = true)) := by
    rw [pair, fresh]
    exact not_or.2 ⟨not_not.2 running, not_or.2 ⟨Bool.false_ne_true, not_or.2 ⟨Bool.false_ne_true, not_or.2 ⟨Nat.not_lt.2 vlcl, not_not.2 (.inl high)⟩⟩⟩⟩
  have raw : ((s.pairLost l).raise 0x0401 l []).raw = s.raw := (State.raise_raw _ _ _ _).trans (State.raw_congr rfl rfl rfl rfl)
  have run : exec (.senseLost l) s = .next (((s.pairLost l).raise 0x0401 l []).modLoop l fun x => { x with toVlcl := true }) :=
    congrArg Host.Outcome.next ((if_neg acts).trans (if_pos (by
      show ((s.pairLost l).raise 0x0401 l []).raw (0x2410 + l) 0x0A = 0
      rw [raw]
      exact setting)))
  have loop : ((s.pairLost l).raise 0x0401 l []).loop = s.loop.set l { s.loop[l] with senseLost := true, vlclRun := 0 } := by
    rw [show ((s.pairLost l).raise 0x0401 l []).loop = (s.pairLost l).loop by simp]
    rfl
  have moved := State.modLoop_keeps l (fun x => { x with toVlcl := true }) ((s.pairLost l).raise 0x0401 l [])
  have raised : Raised 0x0401 l [] s ((s.pairLost l).raise 0x0401 l []) := State.raise_raised _ _ _ rfl
  refine ⟨_, run, ?_, raised.keep (moved.get (.evr .staging) (by generalize l = j; rfl)) (moved.get (.net .batch) (by generalize l = j; rfl)),
    (((State.modLoop_keeps l _ s).append (State.raise_keepsBut _ _ _ _)).append moved).weaken (by apply Part.Within.checkAt l; rfl)⟩
  show ((s.pairLost l).raise 0x0401 l []).loop.set l _ = _
  rw [loop, vector_set_set, vector_set_eq]

/-- A pulse of a loop's phase that is cut short. -/
def State.pulseCut (l : Fin 8) (i : Fin 32) (s : State) : State :=
  if s.inMask l i ∧ s.pins.pwm[i] = .high then
    (s.setPwm i .low).modPhase i fun p => { p with requests := p.requests ++ [(true, s.now)] }
  else s

theorem State.endPulses_eq (l : Fin 8) (s : State) : s.endPulses l = State.each (List.finRange 32) (State.pulseCut l) s := rfl

theorem State.pulseCut_raw (l : Fin 8) (i : Fin 32) (s : State) : (s.pulseCut l i).raw = s.raw := by
  unfold State.pulseCut
  split <;> exact State.raw_congr rfl rfl rfl rfl

theorem State.pulseCut_same {l : Fin 8} {i : Fin 32} {s : State} (mine : s.inMask l i = true) (on : s.pins.pwm[i] = .high ∨ s.pins.pwm[i] = .low) :
    (s.pulseCut l i).pins.pwm[i] = .low := by
  unfold State.pulseCut
  split
  · exact vector_set_eq _ _ _
  next off => exact on.resolve_left fun high => off ⟨mine, high⟩

theorem State.pulseCut_low {l : Fin 8} {i k : Fin 32} {s : State} (on : s.pins.pwm[i] = .low) : (s.pulseCut l k).pins.pwm[i] = .low := by
  unfold State.pulseCut
  split
  · by_cases same : i = k
    · rw [same]
      exact vector_set_eq _ _ _
    · exact (vector_set_getElem_ne same).trans on
  · exact on

theorem State.pulseCut_on {l : Fin 8} {i k : Fin 32} {s : State} (on : s.pins.pwm[i] = .high ∨ s.pins.pwm[i] = .low) :
    (s.pulseCut l k).pins.pwm[i] = .high ∨ (s.pulseCut l k).pins.pwm[i] = .low := by
  unfold State.pulseCut
  split
  · by_cases same : i = k
    · rw [same]
      exact .inr (vector_set_eq _ _ _)
    · rw [show ((s.setPwm k .low).modPhase k fun p => { p with requests := p.requests ++ [(true, s.now)] }).pins.pwm[i] = s.pins.pwm[i] from
        vector_set_getElem_ne same]
      exact on
  · exact on

theorem State.inMask_congr {s t : State} (h : t.raw = s.raw) : t.inMask = s.inMask := by
  funext l i
  unfold State.inMask
  rw [h]

/-- Every high pin of the loop's phases is low after the cut. -/
theorem State.endPulses_low {l : Fin 8} {i : Fin 32} {s : State} (mine : s.inMask l i = true) (high : s.pins.pwm[i] = .high) :
    (s.endPulses l).pins.pwm[i] = .low := by
  rw [State.endPulses_eq]
  refine State.each_reaches (I := fun t => t.raw = s.raw ∧ (t.pins.pwm[i] = .high ∨ t.pins.pwm[i] = .low)) (P := fun t => t.pins.pwm[i] = .low) (a := i)
    (fun k t ht => ⟨(State.pulseCut_raw l k t).trans ht.1, State.pulseCut_on ht.2⟩)
    (fun t ht => State.pulseCut_same (by rw [State.inMask_congr ht.1]; exact mine) ht.2) (fun k t _ low => State.pulseCut_low low)
    (List.mem_finRange i) ⟨rfl, .inl high⟩

/-- An overshoot of a loop, its pulses cut and counted. -/
def State.truncated (l : Fin 8) (s : State) : State :=
  (s.endPulses l).modLoop l fun x => { x with suppressed := true, truncations := bump x.truncations, bellowsOn := false, bellowsEnd := 0 }

theorem State.truncated_keeps (l : Fin 8) (s : State) : KeepsBut [.pins .pwmAll, .phaseAll, .loop l] s (s.truncated l) :=
  (State.endPulses_keeps l s).append (State.modLoop_keeps l _ _)

theorem State.endPulses_loop (l : Fin 8) (s : State) : (s.endPulses l).loop = s.loop :=
  Vector.ext fun j hj => (State.endPulses_keeps l s).get (.loop ⟨j, hj⟩) (by generalize (⟨j, hj⟩ : Fin 8) = k; rfl)

theorem State.overshoot_cuts : ∀ (l : Fin 8) (pair vlcl : Rat) (s : State),
    (s.loop[l]).running = true →
    s.overshootLevel l < s.selected l pair vlcl →
    s.running (.limit 0x0402 l) = false →
    Completes (.overshoot ⟨l, pair, vlcl⟩) s fun t =>
    t.loop = s.loop.set l { s.loop[l] with suppressed := true, truncations := bump (s.loop[l]).truncations, bellowsOn := false, bellowsEnd := 0 } ∧
    (∀ i : Fin 32, s.inMask l i = true → s.pins.pwm[i] = .high → t.pins.pwm[i] = .low) ∧
    Raised 0x0402 l [] s t ∧ KeepsBut (([.pins .pwmAll, .phaseAll, .loop l, .timer (.limit 1026 l), .timer (.overvoltage l)] : List Part)
        ++ Part.raised) s t := fun l pair vlcl s running over_ idle => by
  have idle' : (s.truncated l).running (.limit 0x0402 l) = false := by
    have same : (s.truncated l).deadline (.limit 0x0402 l) = s.deadline (.limit 0x0402 l) :=
      (s.truncated_keeps l).get (.timer (.limit 0x0402 l)) (by generalize l.val = n; generalize l = j; rfl)
    unfold State.running at idle ⊢
    rw [same]
    exact idle
  have run : exec (.overshoot ⟨l, pair, vlcl⟩) s = .next ((((s.truncated l).arm (.limit 0x0402 l) 1000000000).raise 0x0402 l []).overvoltageRun l) := by
    rw [← State.raiseLimited_of_idle idle' []]
    exact congrArg Host.Outcome.next (if_neg (not_or.2 ⟨not_not.2 running, not_le.2 over_⟩))
  have cut := s.truncated_keeps l
  have later := ((State.arm_keeps (.limit 0x0402 l) 1000000000 (s.truncated l)).append (State.raise_keepsBut 0x0402 l [] _)).append
    (State.armWhile_keeps _ (.overvoltage l) _ _ : KeepsBut [.timer (.overvoltage l)] _ (State.overvoltageRun l _))
  have told := (State.armWhile_keeps _ (.overvoltage l) _ _ : KeepsBut [.timer (.overvoltage l)] _
    (State.overvoltageRun l (((s.truncated l).arm (.limit 0x0402 l) 1000000000).raise 0x0402 l [])))
  have raised : Raised 0x0402 l [] s (((s.truncated l).arm (.limit 0x0402 l) 1000000000).raise 0x0402 l []) :=
    State.raise_raised _ _ _ (cut.get (.evr .staging) (by generalize l = j; rfl))
  have loop : (s.truncated l).loop = s.loop.set l
      { s.loop[l] with suppressed := true, truncations := bump (s.loop[l]).truncations, bellowsOn := false, bellowsEnd := 0 } := by
    show (s.endPulses l).loop.set l _ = _
    rw [State.endPulses_loop]
  have loop' : ((((s.truncated l).arm (.limit 0x0402 l) 1000000000).raise 0x0402 l []).overvoltageRun l).loop = (s.truncated l).loop :=
    Vector.ext fun j hj => later.get (.loop ⟨j, hj⟩) (by generalize (⟨j, hj⟩ : Fin 8) = k; rfl)
  refine ⟨_, run, loop'.trans loop, fun i mine high => Eq.trans (later.get (.pins (.pwm i)) (by generalize i = k; rfl)) (State.endPulses_low mine high),
    raised.keep (told.get (.evr .staging) rfl) (told.get (.net .batch) rfl), (cut.append later).weaken fun p hp => .inl ?_⟩
  simp only [List.cons_append, List.nil_append, List.mem_cons, List.mem_append, List.not_mem_nil, or_false] at hp ⊢
  tauto

/-! ## Faults of a loop that no rail names (R173, R179, R180) -/

theorem State.railOf_congr {s t : State} (h : t.raw = s.raw) : t.railOf = s.railOf := by
  funext kind inst
  exact congrArg (fun c => Cfg.railOf c kind inst) h

theorem State.loopFault_none {l : Fin 8} {s : State} (alone : s.railOf 1 l = none) (code : Nat) : s.loopFault l code = s := by
  unfold State.loopFault
  rw [alone]

theorem State.overvoltage_recorded : ∀ (l : Fin 8) (s : State),
    (s.loop[l]).suppressed = true →
    s.due (.overvoltage l) = true →
    s.railOf 1 l = none →
    Completes (.overvoltage l) s fun t => Raised 0x0403 l [] s t ∧ KeepsBut (([.timer (.overvoltage l)] : List Part)
        ++ Part.raised) s t := fun l s suppressed due alone => by
  have raw : ((s.disarm (.overvoltage l)).raise 0x0403 l []).raw = s.raw := (State.raise_raw _ _ _ _).trans (State.disarm_raw _ _)
  have run : exec (.overvoltage l) s = .next ((s.disarm (.overvoltage l)).raise 0x0403 l []) :=
    (congrArg Host.Outcome.next (if_pos ⟨suppressed, due⟩)).trans
      (congrArg Host.Outcome.next (State.loopFault_none (by rw [State.railOf_congr raw]; exact alone) _))
  exact ⟨_, run, State.raise_raised _ _ _ rfl, (s.disarm_keeps _).append (State.raise_keepsBut _ _ _ _)⟩

/-- A loop's limit as the phases that remain carry it, and the loop degraded where that is less than before. -/
def State.limitLowered (l : Fin 8) (s : State) : State :=
  s.modLoop l fun x => { x with degradedLim := some ((s.remaining l : Nat) * s.real (0x2410 + l) 0x0E) }

def State.limitNoted (l : Fin 8) (s : State) : State :=
  if (s.remaining l : Nat) * s.real (0x2410 + l) 0x0E < s.limitInForce l then
    ((s.limitLowered l).modLoop l fun x => { x with degraded := true }).raise 0x0407 l []
  else s.limitLowered l

theorem State.limitNoted_keeps (l : Fin 8) (s : State) : KeepsBut (([.loop l] : List Part) ++ Part.raised) s (s.limitNoted l) := by
  have lowered : KeepsBut [.loop l] s (s.limitLowered l) := State.modLoop_keeps l _ s
  exact KeepsBut.ite _ (((lowered.append (State.modLoop_keeps l _ _)).append (State.raise_keepsBut _ _ _ _)).weaken
    (by apply Part.Within.checkAt l; rfl)) (lowered.weaken (by apply Part.Within.checkAt l; rfl))

theorem State.limitNoted_raisedNow {c i : Nat} {v : List Nat} {s a : State} (h : RaisedNow c i v s a) (l : Fin 8) :
    RaisedNow c i v s (a.limitNoted l) := by
  have lowered : KeepsBut [.loop l] a (a.limitLowered l) := State.modLoop_keeps l _ a
  have told := h.kept lowered (by generalize l = j; rfl) (by generalize l = j; rfl) (by generalize l = j; rfl) (by generalize l = j; rfl)
  unfold State.limitNoted
  split
  · exact (told.kept (State.modLoop_keeps l (fun x => { x with degraded := true }) _) (by generalize l = j; rfl) (by generalize l = j; rfl)
      (by generalize l = j; rfl) (by generalize l = j; rfl)).raise _ _ _
  · exact told

/-- A loop that no rail names is degraded without a fault of a rail. -/
theorem State.degrade_alone {l : Fin 8} {s : State} (alone : s.railOf 1 l = none) : s.degrade l =
    if s.remaining l < (s.limitNoted l).raw (0x2410 + l) 0x17 ∨ s.remaining l = 0 then (s.limitNoted l).raise 0x040C l [] else s.limitNoted l := by
  have raw : ((s.limitNoted l).raise 0x040C l []).raw = s.raw := (State.raise_raw _ _ _ _).trans ((s.limitNoted_keeps l).raw
    (fun _ => by generalize l = j; rfl) (fun _ => by generalize l = j; rfl) (by generalize l = j; rfl) (by generalize l = j; rfl))
  have fault := State.loopFault_none (s := (s.limitNoted l).raise 0x040C l []) (by rw [State.railOf_congr raw]; exact alone) 0x040C
  rw [← fault]
  rfl

theorem State.degrade_keeps {l : Fin 8} {s : State} (alone : s.railOf 1 l = none) : KeepsBut (([.loop l] : List Part)
    ++ Part.raised) s (s.degrade l) := by
  have noted := s.limitNoted_keeps l
  rw [State.degrade_alone alone]
  exact KeepsBut.ite _ ((noted.append (State.raise_keepsBut _ _ _ _)).weaken (by apply Part.Within.checkAt l; rfl)) noted

theorem State.degrade_raisedNow {c i : Nat} {v : List Nat} {l : Fin 8} {s a : State} (h : RaisedNow c i v s a) (alone : a.railOf 1 l = none) :
    RaisedNow c i v s (a.degrade l) := by
  have noted := State.limitNoted_raisedNow h l
  rw [State.degrade_alone alone]
  split
  · exact noted.raise _ _ _
  · exact noted

/-- A phase that is removed, before its loop is degraded. -/
def State.phaseGone (l : Fin 8) (i : Fin 32) (st : PhaseState) (s : State) : State :=
  ((s.disarm (.blind i)).modPhase i fun p => { p with st := st, stopping := true, openRun := 0, implRun := 0, bal := 0 }).modLoop l
    fun x => { x with recompact := true, quiet := 10 }

theorem State.phaseGone_keeps (l : Fin 8) (i : Fin 32) (st : PhaseState) (s : State) :
    KeepsBut [.timer (.blind i), .phase i, .loop l] s (s.phaseGone l i st) :=
  ((s.disarm_keeps _).append (State.modPhase_keeps i _ _)).append (State.modLoop_keeps l _ _)

theorem State.phaseGone_phase (l : Fin 8) (i : Fin 32) (st : PhaseState) (s : State) :
    ((s.phaseGone l i st).phase[i]) = { s.phase[i] with st := st, stopping := true, openRun := 0, implRun := 0, bal := 0 } := vector_set_eq _ _ _

theorem State.phaseGone_alone {l : Fin 8} {s : State} (alone : s.railOf 1 l = none) (i : Fin 32) (st : PhaseState) :
    (s.phaseGone l i st).railOf 1 l = none := by
  rw [State.railOf_congr (State.raw_congr rfl rfl rfl rfl : (s.phaseGone l i st).raw = s.raw)]
  exact alone

theorem State.removePhase_eq (l : Fin 8) (i : Fin 32) (st : PhaseState) (s : State) : s.removePhase l i st = (s.phaseGone l i st).degrade l := rfl

/-- What a phase's removal leaves of it, where no rail names its loop. -/
theorem State.removePhase_alone {l : Fin 8} {s : State} (alone : s.railOf 1 l = none) (i : Fin 32) (st : PhaseState) :
    ((s.removePhase l i st).phase[i]).st = st ∧ ((s.removePhase l i st).phase[i]).stopping = true ∧
      KeepsBut (([.timer (.blind i), .phase i, .loop l, .loop l] : List Part) ++ Part.raised) s (s.removePhase l i st) := by
  have degraded := State.degrade_keeps (State.phaseGone_alone alone i st)
  have phase : (s.removePhase l i st).phase[i] = (s.phaseGone l i st).phase[i] := degraded.get (.phase i) (by generalize i = k; generalize l = j; rfl)
  rw [phase, State.phaseGone_phase]
  exact ⟨rfl, rfl, (s.phaseGone_keeps l i st).append degraded⟩

theorem State.removePhase_raisedNow {c n : Nat} {v : List Nat} {l : Fin 8} {s a : State} (h : RaisedNow c n v s a) (alone : a.railOf 1 l = none)
    (i : Fin 32) (st : PhaseState) : RaisedNow c n v s (a.removePhase l i st) := by
  rw [State.removePhase_eq]
  exact State.degrade_raisedNow (h.kept (a.phaseGone_keeps l i st) (by generalize i.val = m; generalize i = k; generalize l = j; rfl)
    (by generalize i.val = m; generalize i = k; generalize l = j; rfl) (by generalize i.val = m; generalize i = k; generalize l = j; rfl)
    (by generalize i.val = m; generalize i = k; generalize l = j; rfl)) (State.phaseGone_alone alone i st)

/-- What a removal may change lies among phases, loops and a phase's own timer. -/
theorem Part.removal_within (i : Fin 32) (l : Fin 8) : Part.Within (([.timer (.blind i), .phase i, .loop l, .loop l] : List Part) ++ Part.raised)
    (([.timer (.blind i), .phaseAll, .loopAll] : List Part) ++ Part.raised) := fun p hp => by
  simp only [List.cons_append, List.nil_append, List.mem_cons] at hp ⊢
  obtain rfl | rfl | rfl | rfl | raised := hp
  · exact .inl (.inl rfl)
  · exact .inr (.inr (.inl rfl))
  · exact .inr (.inr (.inr (.inl rfl)))
  · exact .inr (.inr (.inr (.inl rfl)))
  · exact .inl (.inr (.inr (.inr raised)))

theorem State.phaseOpen_removed : ∀ (i : Fin 32) (l : Fin 8) (s : State),
    s.loopOfPhase i = some l →
    s.standby = false →
    (s.phase[i]).st = .participating →
    3 ≤ (s.phase[i]).openRun →
    s.railOf 1 l = none →
    Completes (.phaseOpen i) s fun t => (t.phase[i]).st = .removedOpen ∧ (t.phase[i]).stopping = true ∧ Raised 0x0404 i [] s t ∧
    KeepsBut (([.timer (.blind i), .phaseAll, .loopAll] : List Part) ++ Part.raised) s t := fun i l s of_ active st open_ alone => by
  have run : exec (.phaseOpen i) s = .next ((s.raise 0x0404 i []).removePhase l i .removedOpen) := by
    show execPhaseOpen i s = _
    unfold execPhaseOpen
    rw [of_]
    exact congrArg Host.Outcome.next (if_pos ⟨by rw [active]; exact Bool.false_ne_true, st, open_⟩)
  have alone' : (s.raise 0x0404 i []).railOf 1 l = none := by
    rw [State.railOf_congr (State.raise_raw _ _ _ _)]
    exact alone
  obtain ⟨st', stops, kept⟩ := State.removePhase_alone alone' i .removedOpen
  exact ⟨_, run, st', stops, (State.removePhase_raisedNow (State.raise_raisedNow 0x0404 i [] rfl) alone' i .removedOpen).1,
    ((State.raise_keepsBut 0x0404 i [] s).append (kept.weaken (Part.removal_within i l))).weaken fun p hp => .inl (by
      simp only [List.mem_append] at hp ⊢
      tauto)⟩

/-- A phase that runs blind. -/
def State.phaseBlind (i : Fin 32) (s : State) : State :=
  ((s.raise 0x0405 i []).modPhase i fun p => { p with st := .blind, bal := 0, implRun := 0 }).arm (.blind i) 10000000

theorem State.imonImplausible_blind : ∀ (i : Fin 32) (l : Fin 8) (s : State),
    s.loopOfPhase i = some l →
    s.standby = false →
    (s.phase[i]).st = .participating →
    100 ≤ (s.phase[i]).implRun →
    ((List.finRange 32).find? (fun q : Fin 32 => s.inMask l q ∧ s.phase[q].st = .blind) = none) →
    Completes (.imonImplausible i) s fun t =>
    t.phase = s.phase.set i { s.phase[i] with st := .blind, bal := 0, implRun := 0 } ∧ Ends (.blind i) 10000000 s t ∧ Raised 0x0405 i [] s t ∧
    KeepsBut (([.phaseAll, .timer (.blind i)] : List Part) ++ Part.each 32 .blind ++ Part.raised) s t := fun i l s of_ active st runs only => by
  have run : exec (.imonImplausible i) s = .next (s.phaseBlind i) := by
    show execImonImplausible i s = _
    unfold execImonImplausible
    rw [of_]
    dsimp only
    rw [if_neg (not_or.2 ⟨by rw [active]; exact Bool.false_ne_true, not_or.2 ⟨not_not.2 st, Nat.not_lt.2 runs⟩⟩), only]
    rfl
  have phase : (s.raise 0x0405 i []).phase = s.phase := by simp
  have now : (s.raise 0x0405 i []).now = s.now := by simp
  have marked := State.modPhase_keeps i (fun p => { p with st := .blind, bal := 0, implRun := 0 }) (s.raise 0x0405 i [])
  have later := marked.append (State.arm_keeps (.blind i) 10000000 _)
  have raised : RaisedNow 0x0405 i [] s (s.raise 0x0405 i []) := State.raise_raisedNow _ _ _ rfl
  refine ⟨_, run, ?_, Ends.armed now, (raised.kept later (by generalize i.val = m; generalize i = k; rfl) (by generalize i.val = m; generalize i = k; rfl)
    (by generalize i.val = m; generalize i = k; rfl) (by generalize i.val = m; generalize i = k; rfl)).1,
    ((State.raise_keepsBut 0x0405 i [] s).append later).weaken fun p hp => ?_⟩
  · show (s.raise 0x0405 i []).phase.set i _ = _
    rw [phase]
  · simp only [List.cons_append, List.nil_append, List.mem_cons, List.mem_append, List.not_mem_nil, or_false] at hp ⊢
    obtain raised | rfl | rfl := hp
    · exact .inl (.inr (.inr (.inr raised)))
    · exact .inr (.inl rfl)
    · exact .inl (.inr (.inl rfl))

theorem State.blindTimeout_removed : ∀ (i : Fin 32) (l : Fin 8) (s : State),
    s.loopOfPhase i = some l →
    s.standby = false →
    (s.phase[i]).st = .blind →
    s.due (.blind i) = true →
    s.railOf 1 l = none →
    Completes (.blindTimeout i) s fun t => (t.phase[i]).st = .removedSense ∧ (t.phase[i]).stopping = true ∧
    KeepsBut (([.timer (.blind i), .phaseAll, .loopAll] : List Part) ++ Part.raised) s t := fun i l s of_ active st due alone => by
  have run : exec (.blindTimeout i) s = .next (s.removePhase l i .removedSense) := by
    show execBlindTimeout i s = _
    unfold execBlindTimeout
    rw [of_]
    exact congrArg Host.Outcome.next (if_pos ⟨by rw [active]; exact Bool.false_ne_true, st, due⟩)
  obtain ⟨st', stops, kept⟩ := State.removePhase_alone alone i .removedSense
  exact ⟨_, run, st', stops, kept.weaken (Part.removal_within i l)⟩

/-! ## SYNC_IN (R181) -/

/-- The measured edge. -/
def State.syncEdgeDated (p : Nat) (s : State) : State :=
  { s with pins.syncFreq := (if p = 0 then 0 else 51200000000 / (p : Nat) : Rat), pins.syncAt := s.syncEdge p }

theorem State.syncEdgeDated_keeps (p : Nat) (s : State) : KeepsBut [.pins .syncFreq, .pins .syncAt] s (s.syncEdgeDated p) :=
    (KeepsBut.write_pins (l := [.pins .syncFreq, .pins .syncAt]) fun f hf _ _ => by
    cases f with
    | syncFreq | syncAt => simp at hf  | pwmAll | gateAll => trivial | _ => exact rfl)

/-- Every loop that follows the edge. -/
def State.syncEdgeFollowed (p : Nat) (s : State) : State := (State.each (List.finRange 8) (State.syncStep p) (s.syncEdgeDated p)).followEdge

theorem State.syncStep_pins (p : Nat) (l : Fin 8) (s : State) : (s.syncStep p l).pins = s.pins := by
  unfold State.syncStep
  split <;> rfl

theorem State.followEdge_pins (s : State) : s.followEdge.pins = s.pins := rfl

theorem State.syncEdgeFollowed_pins (p : Nat) (s : State) : (s.syncEdgeFollowed p).pins = (s.syncEdgeDated p).pins := by
  unfold State.syncEdgeFollowed
  rw [State.followEdge_pins]
  generalize s.syncEdgeDated p = a
  exact State.each_invariant (P := fun t => t.pins = a.pins) (fun l t ht => (t.syncStep_pins p l).trans ht) (List.finRange 8) a rfl

theorem State.syncInEdge_taken : ∀ (p : Nat) (s : State),
    s.tbRuns = true →
    Completes (.syncInEdge p) s fun t =>
    t.pins = { s.pins with syncFreq := if p = 0 then 0 else 51200000000 / (p : Nat), syncAt := s.syncEdge p } ∧
    KeepsBut [.loopAll, .pins .syncFreq, .pins .syncAt, .timers] s t := fun p s runs => by
  have run : exec (.syncInEdge p) s = .next (s.syncEdgeFollowed p) := congrArg Host.Outcome.next (if_neg (not_not.2 runs))
  have each := KeepsBut.each (l := [.loopAll, .timers]) (f := State.syncStep p)
    (fun l t => (State.syncStep_keeps p l t).weaken (by apply Part.Within.checkAt l; rfl)) (List.finRange 8) (s.syncEdgeDated p)
  exact ⟨_, run, s.syncEdgeFollowed_pins p, (((s.syncEdgeDated_keeps p).append each).append (State.followEdge_keeps _)).weaken (by exact .check rfl)⟩

theorem State.syncLocked_locks : ∀ (l : Fin 8) (s : State),
    s.syncOn l = true →
    16 ≤ (s.loop[l]).syncRun →
    (s.loop[l]).syncLocked = false →
    Completes (.syncLocked l) s fun t => t.loop = s.loop.set l { s.loop[l] with syncLocked := true, syncLost := false } ∧ KeepsBut [.loop l] s t := fun l s on runs open_ =>
  ⟨_, congrArg Host.Outcome.next (if_pos ⟨on, runs, by rw [open_]; exact Bool.false_ne_true⟩), rfl, State.modLoop_keeps l _ s⟩

/-- A loop that has lost its SYNC_IN, before the code is raised. -/
def State.syncDropped (l : Fin 8) (s : State) : State :=
  (s.disarm (.syncGone l)).modLoop l fun x => { x with syncLocked := false, syncLost := true, syncRun := 0, syncHist := [], syncBad := false }

theorem State.syncLost_marks : ∀ (l : Fin 8) (s : State),
    s.syncOn l = true →
    (s.loop[l]).syncLost = false →
    s.due (.syncGone l) = true →
    Completes (.syncLost l) s fun t =>
    t.loop = s.loop.set l { s.loop[l] with syncLocked := false, syncLost := true, syncRun := 0, syncHist := [], syncBad := false } ∧
    Raised 0x0409 l [] s t ∧ KeepsBut (([.timer (.syncGone l), .loop l] : List Part) ++ Part.raised) s t := fun l s on fresh due => by
  have run : exec (.syncLost l) s = .next ((s.syncDropped l).raise 0x0409 l []) :=
    congrArg Host.Outcome.next (if_pos ⟨on, by rw [fresh]; exact Bool.false_ne_true, .inl due⟩)
  have loop : ((s.syncDropped l).raise 0x0409 l []).loop = (s.syncDropped l).loop := by simp
  exact ⟨_, run, loop.trans rfl, State.raise_raised _ _ _ rfl, ((s.disarm_keeps _).append (State.modLoop_keeps l _ _)).append (State.raise_keepsBut _ _ _ _)⟩

/-- Settles O12: loops protected and synchronised, clause by clause. -/
theorem loopsProtectAndSynchronise : Obligations.LoopsProtectAndSynchronise := by
  unfold Obligations.LoopsProtectAndSynchronise
  exact ⟨State.senseLost_moves, State.overshoot_cuts, State.overvoltage_recorded, State.phaseOpen_removed, State.imonImplausible_blind,
    State.blindTimeout_removed, State.syncInEdge_taken, State.syncLocked_locks, State.syncLost_marks⟩

end Sys2Proof.Machine
end

section
/-! PROOFS. Quench latches (R239 to R241). -/

namespace Sys2Proof.Machine

theorem State.railTo_keeps (r : Fin 32) (x : RailSt) (s : State) :
    KeepsBut [.seq (.rail r)] s (State.railTo r x s) := by
  unfold State.railTo
  exact KeepsBut.weaken (State.modRail_keeps _ _ _) (by apply Part.Within.checkAt r; rfl)

theorem State.railQuiet_keeps (r : Fin 32) (s : State) :
    KeepsBut [.timer (.railStart ↑r), .timer (.railPg ↑r), .timer (.railTimeout ↑r), .timer (.railFault ↑r), .timer (.railRetry ↑r),
        .timer (.railDischarge ↑r), .timer (.railGood ↑r)] s (State.railQuiet r s) := by
  unfold State.railQuiet
  exact KeepsBut.weaken (KeepsBut.after (State.disarm_keeps _ _) (KeepsBut.after (State.disarm_keeps _ _) (KeepsBut.after (State.disarm_keeps _ _)
      (KeepsBut.after (State.disarm_keeps _ _) (KeepsBut.after (State.disarm_keeps _ _)
      (KeepsBut.after (State.disarm_keeps _ _) (State.disarm_keeps _ _))))))) (by apply Part.Within.checkAt r; rfl)

theorem State.cancelWaiting_keeps (p : Fin 32 → Bool) (s : State) :
    KeepsBut [.timers, .seq .railAll] s (State.cancelWaiting p s) := by
  unfold State.cancelWaiting
  refine KeepsBut.via (KeepsBut.each (l := [.timers, .seq .railAll]) (fun a s => ?_) _ _) (by exact .check rfl) ?_
  · exact KeepsBut.ite _ (KeepsBut.weaken (KeepsBut.after (KeepsBut.whole (m := [.seq .railAll]) (State.railTo_keeps _ _ _) rfl)
      (KeepsBut.whole (m := [.timers, .timers, .timers, .timers, .timers, .timers, .timers]) (State.railQuiet_keeps _ _) rfl)) (by exact .check rfl))
      (KeepsBut.refl _ _)
  exact KeepsBut.refl _ _

theorem State.loopHalt_keeps (l : Fin 8) (s : State) :
    KeepsBut [.loop l, .pins .syncOut, .phaseAll] s (State.loopHalt l s) := by
  unfold State.loopHalt
  exact KeepsBut.ite _ (KeepsBut.weaken (State.modLoop_keeps _ _ _) (by apply Part.Within.checkAt l; rfl))
      (KeepsBut.weaken (State.loopStop_keeps _ _) (by apply Part.Within.checkAt l; rfl))

theorem State.feedSink_keeps (p : Fin 2) (b : Bool) (d : GateDrive) (s : State) :
    KeepsBut [.dist (.feed p), .pins (.gate (fdGate p b))] s (State.feedSink p b d s) := by
  unfold State.feedSink
  dsimp only
  refine KeepsBut.via (State.drive_keeps _ _ _) (by simp [Part.Within, Part.raised]) ?_
  exact KeepsBut.ite _ (KeepsBut.weaken (State.modFeed_keeps _ _ _) (by simp [Part.Within, Part.raised])) (KeepsBut.refl _ _)

theorem State.feedOff_keeps (p : Fin 2) (d : GateDrive) (s : State) :
    KeepsBut [.dist (.feed p), .pins (.gate (fdGate p false)), .pins (.gate (fdGate p true)), .timer (.feedSettle ↑p), .timer (.feedDead ↑p),
        .timer (.feedRevert ↑p)] s (State.feedOff p d s) := by
  unfold State.feedOff
  dsimp only
  exact KeepsBut.weaken (KeepsBut.after (State.disarm_keeps _ _) (KeepsBut.after (State.disarm_keeps _ _) (KeepsBut.after (State.disarm_keeps _ _)
      (KeepsBut.after (State.modFeed_keeps _ _ _)
      (KeepsBut.after (State.feedSink_keeps _ _ _ _) (State.feedSink_keeps _ _ _ _)))))) (by apply Part.Within.checkAt p; rfl)

theorem State.setStr_keeps (n : Fin 4) (x : StrState) (s : State) :
    KeepsBut [.dist (.str n)] s (State.setStr n x s) := by
  unfold State.setStr
  dsimp only
  exact KeepsBut.weaken (KeepsBut.write_dist (l := [.dist (.str n)]) fun f hf _ _ => by
      cases f with
      | str j => exact vector_set_getElem_ne (by rintro rfl; simp at hf) | brAll | feedAll | strAll => trivial
      | _ => exact rfl) (by apply Part.Within.checkAt n; rfl)

theorem State.strOpen_keeps (n : Fin 4) (d : GateDrive) (s : State) :
    KeepsBut [.dist (.str n), .pins (.gate (stGate n))] s (State.strOpen n d s) := by
  unfold State.strOpen
  refine KeepsBut.via (State.drive_keeps _ _ _) (by apply Part.Within.checkAt n; rfl) ?_
  exact KeepsBut.ite _ (KeepsBut.weaken (State.setStr_keeps _ _ _) (by apply Part.Within.checkAt n; rfl)) (KeepsBut.refl _ _)

theorem State.chanStop_keeps (r : Fin 32) (s : State) :
    KeepsBut [.loopAll, .pins .syncOut, .phaseAll, .dist .brAll, .dist .feedAll, .pins .gateAll, .timers, .dist .strAll, .bat .strAll,
        .pins .gpioDir, .pins .gpioOut] s (State.chanStop r s) := by
  unfold State.chanStop
  dsimp only
  split
  · split
    · exact KeepsBut.weaken (KeepsBut.whole (m := [.loopAll, .pins .syncOut,
        .phaseAll]) (State.loopHalt_keeps _ _) rfl) (by apply Part.Within.checkAt r; rfl)
    · exact KeepsBut.refl _ _
  · split
    · exact KeepsBut.weaken (KeepsBut.whole (m := [.dist .brAll]) (State.modBr_keeps _ _ _) rfl) (by apply Part.Within.checkAt r; rfl)
    · exact KeepsBut.refl _ _
  · split
    · exact KeepsBut.weaken (KeepsBut.after (KeepsBut.whole (m := [.dist .feedAll, .pins .gateAll, .pins .gateAll, .timers, .timers,
        .timers]) (State.feedOff_keeps _ _ _) rfl)
        (KeepsBut.whole (m := [.dist .feedAll]) (State.modFeed_keeps _ _ _) rfl)) (by apply Part.Within.checkAt r; rfl)
    · exact KeepsBut.refl _ _
  · split
    · exact KeepsBut.viaIf (KeepsBut.weaken (KeepsBut.after (KeepsBut.whole (m := [.bat .strAll]) (State.modStr_keeps _ _ _) rfl)
        (KeepsBut.whole (m := [.dist .strAll]) (State.setStr_keeps _ _ _) rfl)) (by apply Part.Within.checkAt r; rfl)) (KeepsBut.weaken
        (KeepsBut.after (KeepsBut.whole (m := [.dist .strAll, .pins .gateAll]) (State.strOpen_keeps _ _ _) rfl)
        (KeepsBut.whole (m := [.bat .strAll]) (State.modStr_keeps _ _ _) rfl)) (by apply Part.Within.checkAt r; rfl))
    · exact KeepsBut.refl _ _
  · exact KeepsBut.weaken (State.driveGpio_keeps _ _ _) (by apply Part.Within.checkAt r; rfl)
  · exact KeepsBut.refl _ _

theorem State.dropPg_keeps (r : Fin 32) (s : State) :
    KeepsBut [.seq (.rail r), .pins .pg] s (State.dropPg r s) := by
  unfold State.dropPg
  exact KeepsBut.weaken (KeepsBut.after (State.drivePg_keeps _) (State.modRail_keeps _ _ _)) (by apply Part.Within.checkAt r; rfl)

theorem State.stopRail_keeps (r : Fin 32) (why : StopWhy) (s : State) :
    KeepsBut [.seq (.rail r), .pins .pg, .loopAll, .pins .syncOut, .phaseAll, .dist .brAll, .dist .feedAll, .pins .gateAll, .timers, .dist .strAll,
        .bat .strAll, .pins .gpioDir, .pins .gpioOut] s (State.stopRail r why s) := by
  unfold State.stopRail
  dsimp only
  refine KeepsBut.ite _ ?_ ?_
  · exact KeepsBut.viaIf (KeepsBut.weaken (State.arm_keeps _ _ _) (by apply Part.Within.checkAt r; rfl)) (KeepsBut.weaken
      (KeepsBut.after (State.chanStop_keeps _ _) (KeepsBut.after (State.dropPg_keeps _ _)
      (KeepsBut.after (State.modRail_keeps _ _ _) (State.railQuiet_keeps _ _)))) (by apply Part.Within.checkAt r; rfl))
  · refine KeepsBut.ite _ (KeepsBut.weaken
      (KeepsBut.after (State.railTo_keeps _ _ _) (State.railQuiet_keeps _ _)) (by apply Part.Within.checkAt r; rfl)) ?_
    exact KeepsBut.ite _ (KeepsBut.weaken (KeepsBut.after (State.chanStop_keeps _ _)
        (KeepsBut.after (State.railTo_keeps _ _ _) (State.railQuiet_keeps _ _))) (by apply Part.Within.checkAt r; rfl))
        (KeepsBut.weaken (State.modRail_keeps _ _ _) (by apply Part.Within.checkAt r; rfl))

theorem State.brSink_keeps (k : Fin 16) (d : GateDrive) (s : State) :
    KeepsBut [.dist (.br k), .pins (.gate (brGate k))] s (State.brSink k d s) := by
  unfold State.brSink
  dsimp only
  refine KeepsBut.via (State.drive_keeps _ _ _) (by apply Part.Within.checkAt k; rfl) ?_
  exact KeepsBut.ite _ (KeepsBut.weaken (State.modBr_keeps _ _ _) (by apply Part.Within.checkAt k; rfl)) (KeepsBut.refl _ _)

theorem State.endInrush_keeps (k : Fin 16) (s : State) :
    KeepsBut [.dist (.br k)] s (State.endInrush k s) := by
  unfold State.endInrush
  dsimp only
  exact KeepsBut.ite _ (KeepsBut.weaken (State.modBr_keeps _ _ _) (by apply Part.Within.checkAt k; rfl)) (KeepsBut.refl _ _)

theorem State.brQuiet_keeps (k : Fin 16) (s : State) :
    KeepsBut [.dist (.br k), .timer (.brFault ↑k), .timer (.brSettle ↑k), .timer (.brInrush ↑k), .timer (.brDebounce ↑k), .timer (.brRetry ↑k),
        .timer (.brOn60 ↑k), .timer (.brLimitOut ↑k)] s (State.brQuiet k s) := by
  unfold State.brQuiet
  exact KeepsBut.weaken (KeepsBut.after (State.disarm_keeps _ _) (KeepsBut.after (State.disarm_keeps _ _) (KeepsBut.after (State.disarm_keeps _ _)
      (KeepsBut.after (State.disarm_keeps _ _) (KeepsBut.after (State.disarm_keeps _ _)
      (KeepsBut.after (State.disarm_keeps _ _) (State.brFaultClear_keeps _ _))))))) (by apply Part.Within.checkAt k; rfl)

theorem State.quenchBranch_keeps (k : Fin 16) (s : State) :
    KeepsBut [.dist (.br k), .pins (.gate (brGate k)), .timer (.brFault ↑k), .timer (.brSettle ↑k), .timer (.brInrush ↑k), .timer (.brDebounce ↑k),
        .timer (.brRetry ↑k), .timer (.brOn60 ↑k), .timer (.brLimitOut ↑k)] s (State.quenchBranch k s) := by
  unfold State.quenchBranch
  dsimp only
  refine KeepsBut.ite _ (KeepsBut.refl _ _) ?_
  exact KeepsBut.ite _ (KeepsBut.weaken
      (KeepsBut.after (State.brSink_keeps _ _ _) (State.endInrush_keeps _ _)) (by apply Part.Within.checkAt k; rfl)) (KeepsBut.weaken
      (KeepsBut.after (State.modBr_keeps _ _ _) (KeepsBut.after (State.brSink_keeps _ _ _)
      (KeepsBut.after (State.brQuiet_keeps _ _) (State.endInrush_keeps _ _)))) (by apply Part.Within.checkAt k; rfl))

theorem State.quenchFeed_keeps (p : Fin 2) (s : State) :
    KeepsBut [.dist (.feed p), .pins (.gate (fdGate p false)), .pins (.gate (fdGate p true)), .timer (.feedSettle ↑p), .timer (.feedDead ↑p),
        .timer (.feedRevert ↑p)] s (State.quenchFeed p s) := by
  unfold State.quenchFeed
  dsimp only
  refine KeepsBut.ite _ (KeepsBut.weaken (State.feedOff_keeps _ _ _) (by apply Part.Within.checkAt p; rfl)) ?_
  refine KeepsBut.trans ?_ (KeepsBut.when _ ?_)
  swap
  · exact KeepsBut.weaken (State.drive_keeps _ _ _) (by apply Part.Within.checkAt p; rfl)
  refine KeepsBut.trans ?_ (KeepsBut.when _ ?_)
  swap
  · exact KeepsBut.weaken (State.drive_keeps _ _ _) (by apply Part.Within.checkAt p; rfl)
  exact KeepsBut.refl _ _

theorem State.quenchStr_keeps (n : Fin 4) (s : State) :
    KeepsBut [.dist (.str n), .pins (.gate (stGate n))] s (State.quenchStr n s) := by
  unfold State.quenchStr
  refine KeepsBut.ite _ ?_ (KeepsBut.refl _ _)
  refine KeepsBut.via (State.drive_keeps _ _ _) (by apply Part.Within.checkAt n; rfl) ?_
  exact KeepsBut.ite _ (KeepsBut.refl _ _) (KeepsBut.weaken (State.setStr_keeps _ _ _) (by apply Part.Within.checkAt n; rfl))

theorem State.loopCut_keeps (l : Fin 8) (s : State) :
    KeepsBut [.loop l, .pins .syncOut, .phaseAll, .pins .pwmAll] s (State.loopCut l s) := by
  unfold State.loopCut
  dsimp only
  refine KeepsBut.via (KeepsBut.each (l := [.pins .pwmAll, .phaseAll]) (fun a s => ?_) _ _) (by apply Part.Within.checkAt l; rfl) ?_
  · exact KeepsBut.ite _ (KeepsBut.weaken (KeepsBut.after (KeepsBut.whole (m := [.phaseAll]) (State.modPhase_keeps _ _ _) rfl)
      (KeepsBut.whole (m := [.pins .pwmAll]) (State.setPwm_keeps _ _ _) rfl)) (by apply Part.Within.checkAt l; rfl)) (KeepsBut.refl _ _)
  exact KeepsBut.weaken (State.loopStop_keeps _ _) (by apply Part.Within.checkAt l; rfl)

theorem State.recordFault_keeps (r : Fin 32) (code : Nat) (s : State) :
    KeepsBut (([.seq (.rail r)] : List Part) ++ Part.raised) s (State.recordFault r code s) := by
  unfold State.recordFault
  dsimp only
  exact KeepsBut.weaken (KeepsBut.after (State.raise_keepsBut _ _ _ _) (State.modRail_keeps _ _ _)) (by apply Part.Within.checkAt r; rfl)

theorem State.latchRail_keeps (r : Fin 32) (s : State) :
    KeepsBut (([.timer (.railStart ↑r), .timer (.railPg ↑r), .timer (.railTimeout ↑r), .timer (.railFault ↑r), .timer (.railRetry ↑r),
        .timer (.railDischarge ↑r), .timer (.railGood ↑r), .seq (.rail r), .pins .pg] : List Part) ++ Part.raised) s (State.latchRail r s) := by
  unfold State.latchRail
  exact KeepsBut.weaken (KeepsBut.after (State.raise_keepsBut _ _ _ _) (KeepsBut.after (State.dropPg_keeps _ _)
      (KeepsBut.after (State.railTo_keeps _ _ _) (State.railQuiet_keeps _ _)))) (by apply Part.Within.checkAt r; rfl)

theorem State.loopStart_keeps (l : Fin 8) (s : State) :
    KeepsBut [.loop l, .phaseAll, .laneAll] s (State.loopStart l s) := by
  unfold State.loopStart
  dsimp only
  split
  · refine KeepsBut.via (KeepsBut.whole (m := [.laneAll]) (State.modLane_keeps _ _ _) rfl) (by apply Part.Within.checkAt l; rfl) ?_
    refine KeepsBut.via (KeepsBut.each (l := [.phaseAll]) (fun a s => ?_) _ _) (by apply Part.Within.checkAt l; rfl) ?_
    · exact KeepsBut.ite _ (KeepsBut.weaken
        (KeepsBut.whole (m := [.phaseAll]) (State.modPhase_keeps _ _ _) rfl) (by apply Part.Within.checkAt l; rfl)) (KeepsBut.refl _ _)
    exact KeepsBut.weaken (State.modLoop_keeps _ _ _) (by apply Part.Within.checkAt l; rfl)
  · refine KeepsBut.via (KeepsBut.each (l := [.phaseAll]) (fun a s => ?_) _ _) (by apply Part.Within.checkAt l; rfl) ?_
    · exact KeepsBut.ite _ (KeepsBut.weaken
        (KeepsBut.whole (m := [.phaseAll]) (State.modPhase_keeps _ _ _) rfl) (by apply Part.Within.checkAt l; rfl)) (KeepsBut.refl _ _)
    exact KeepsBut.weaken (State.modLoop_keeps _ _ _) (by apply Part.Within.checkAt l; rfl)

theorem State.feedSource_keeps (p : Fin 2) (b : Bool) (s : State) :
    KeepsBut [.timer (.feedSettle ↑p), .dist (.feed p), .pins (.gate (fdGate p b)), .timer (.feedDead ↑p)] s (State.feedSource p b s) := by
  unfold State.feedSource
  dsimp only
  refine KeepsBut.ite _ ?_ (KeepsBut.weaken
      (KeepsBut.after (State.armAt_keeps _ _ _) (State.modFeed_keeps _ _ _)) (by simp [Part.Within, Part.raised]))
  exact KeepsBut.viaIf (KeepsBut.weaken (State.arm_keeps _ _ _) (by simp [Part.Within, Part.raised])) (KeepsBut.weaken
      (KeepsBut.after (State.disarm_keeps _ _)
      (KeepsBut.after (State.drive_keeps _ _ _) (State.modFeed_keeps _ _ _))) (by simp [Part.Within, Part.raised]))

theorem State.feedSelect_keeps (p : Fin 2) (s : State) :
    KeepsBut (([.timers, .dist .feedAll, .pins .gateAll] : List Part) ++ Part.raised) s (State.feedSelect p s) := by
  unfold State.feedSelect
  dsimp only
  refine KeepsBut.ite _ (KeepsBut.weaken (KeepsBut.whole (m := [.timers, .dist .feedAll, .pins .gateAll,
      .timers]) (State.feedSource_keeps _ _ _) rfl) (by apply Part.Within.checkAt p; rfl)) ?_
  exact KeepsBut.ite _ (KeepsBut.weaken (KeepsBut.whole (m := [.timers, .dist .feedAll, .pins .gateAll,
      .timers]) (State.feedSource_keeps _ _ _) rfl) (by apply Part.Within.checkAt p; rfl)) (KeepsBut.weaken
      (KeepsBut.after (State.raise_keepsBut _ _ _ _) (State.modFeed_keeps _ _ _)) (by apply Part.Within.checkAt p; rfl))

theorem State.feedStart_keeps (p : Fin 2) (s : State) :
    KeepsBut (([.timers, .dist .feedAll, .pins .gateAll] : List Part) ++ Part.raised) s (State.feedStart p s) := by
  unfold State.feedStart
  refine KeepsBut.ite _ (KeepsBut.weaken (State.feedSelect_keeps _ _) (by apply Part.Within.checkAt p; rfl)) ?_
  exact KeepsBut.ite _ (KeepsBut.weaken (State.modFeed_keeps _ _ _) (by apply Part.Within.checkAt p; rfl)) (KeepsBut.refl _ _)

theorem State.strConnect_keeps (n : Fin 4) (s : State) :
    KeepsBut [.dist (.str n), .pins (.gate (stGate n))] s (State.strConnect n s) := by
  unfold State.strConnect
  refine KeepsBut.ite _ (KeepsBut.refl _ _) ?_
  exact KeepsBut.ite _ (KeepsBut.weaken (KeepsBut.after (State.drive_keeps _ _ _) (State.setStr_keeps _ _ _)) (by apply Part.Within.checkAt n; rfl))
      (KeepsBut.weaken (KeepsBut.after (State.drive_keeps _ _ _) (State.setStr_keeps _ _ _)) (by apply Part.Within.checkAt n; rfl))

theorem State.chanStart_keeps (r : Fin 32) (s : State) :
    KeepsBut (([.loopAll, .phaseAll, .laneAll, .dist .brAll, .dist .feedAll, .timers, .pins .gateAll, .bat .strAll, .dist .strAll, .pins .gpioDir,
        .pins .gpioOut] : List Part) ++ Part.raised) s (State.chanStart r s) := by
  unfold State.chanStart
  dsimp only
  split
  · split
    · exact KeepsBut.ite _ (KeepsBut.refl _ _) (KeepsBut.weaken (KeepsBut.whole (m := [.loopAll, .phaseAll,
        .laneAll]) (State.loopStart_keeps _ _) rfl) (by apply Part.Within.checkAt r; rfl))
    · exact KeepsBut.refl _ _
  · split
    · exact KeepsBut.weaken (KeepsBut.whole (m := [.dist .brAll]) (State.modBr_keeps _ _ _) rfl) (by apply Part.Within.checkAt r; rfl)
    · exact KeepsBut.refl _ _
  · split
    · exact KeepsBut.weaken (KeepsBut.after (State.feedStart_keeps _ _)
        (KeepsBut.whole (m := [.dist .feedAll]) (State.modFeed_keeps _ _ _) rfl)) (by apply Part.Within.checkAt r; rfl)
    · exact KeepsBut.refl _ _
  · split
    · exact KeepsBut.weaken (KeepsBut.after (KeepsBut.whole (m := [.dist .strAll, .pins .gateAll]) (State.strConnect_keeps _ _) rfl)
        (KeepsBut.whole (m := [.bat .strAll]) (State.modStr_keeps _ _ _) rfl)) (by apply Part.Within.checkAt r; rfl)
    · exact KeepsBut.refl _ _
  · exact KeepsBut.weaken (State.driveGpio_keeps _ _ _) (by apply Part.Within.checkAt r; rfl)
  · exact KeepsBut.refl _ _

theorem State.startRail_keeps (r : Fin 32) (s : State) :
    KeepsBut (([.seq (.rail r), .seq .order, .loopAll, .phaseAll, .laneAll, .dist .brAll, .dist .feedAll, .timers, .pins .gateAll, .bat .strAll,
        .dist .strAll, .pins .gpioDir, .pins .gpioOut] : List Part) ++ Part.raised) s (State.startRail r s) := by
  unfold State.startRail
  dsimp only
  exact KeepsBut.ite _ (KeepsBut.weaken (KeepsBut.after (State.railTo_keeps _ _ _) (KeepsBut.after (State.chanStart_keeps _ _) (KeepsBut.after
      (KeepsBut.write_seq (l := [.seq .order]) fun f hf _ _ => by
      cases f with | order => simp at hf | railAll => trivial | _ => exact rfl) (State.modRail_keeps _ _ _)))) (by apply Part.Within.checkAt r; rfl))
      (KeepsBut.weaken (KeepsBut.after (State.arm_keeps _ _ _) (KeepsBut.after (State.railTo_keeps _ _ _) (KeepsBut.after (State.chanStart_keeps _ _)
      (KeepsBut.after (KeepsBut.write_seq (l := [.seq .order]) fun f hf _ _ => by
      cases f with | order => simp at hf | railAll => trivial | _ => exact rfl) (State.modRail_keeps _ _ _))))) (by apply Part.Within.checkAt r; rfl))

theorem State.brStop_keeps (k : Fin 16) (s : State) :
    KeepsBut [.dist (.br k), .timer (.brFault ↑k), .timer (.brSettle ↑k), .timer (.brInrush ↑k), .timer (.brDebounce ↑k), .timer (.brRetry ↑k),
        .timer (.brOn60 ↑k), .timer (.brLimitOut ↑k), .pins (.gate (brGate k)), .timer (.brMinOff ↑k)] s (State.brStop k s) := by
  unfold State.brStop
  dsimp only
  exact KeepsBut.weaken (KeepsBut.after (State.arm_keeps _ _ _) (KeepsBut.after (State.modBr_keeps _ _ _) (KeepsBut.after (State.brSink_keeps _ _ _)
      (KeepsBut.after (State.brQuiet_keeps _ _) (State.endInrush_keeps _ _))))) (by apply Part.Within.checkAt k; rfl)

theorem State.quenchFree_keeps (s : State) :
    KeepsBut (([.dist .brAll, .timers, .pins .gateAll, .dist .feedAll, .dist .strAll, .bat .strAll, .seq .railAll, .seq .order, .loopAll, .phaseAll,
        .laneAll, .pins .gpioDir, .pins .gpioOut, .dist .quenchOut, .dist .quenchIgnore] : List Part) ++ Part.raised) s (State.quenchFree s) := by
  unfold State.quenchFree
  dsimp only
  refine KeepsBut.viaElse ?_ (KeepsBut.weaken (State.quenchPins_keeps _) (by exact .check rfl))
  refine KeepsBut.via (KeepsBut.each (l := (([.seq .railAll, .seq .order, .loopAll, .phaseAll, .laneAll, .dist .brAll, .dist .feedAll, .timers,
      .pins .gateAll, .bat .strAll, .dist .strAll, .pins .gpioDir, .pins .gpioOut] : List Part)
      ++ Part.raised)) (fun a s => ?_) _ _) (by exact .check rfl) ?_
  · exact KeepsBut.ite _ (KeepsBut.weaken (KeepsBut.whole (m := [.seq .railAll, .seq .order, .loopAll, .phaseAll, .laneAll, .dist .brAll,
      .dist .feedAll, .timers, .pins .gateAll, .bat .strAll, .dist .strAll, .pins .gpioDir, .pins .gpioOut, .evr .staging, .evr .lost, .evr .trigAll,
      .net .batch, .net .batchAt, .net .errs, .net (.emcy 0), .net (.emcy 1), .timers, .timers,
      .timers]) (State.startRail_keeps _ _) rfl) (by exact .check rfl)) (KeepsBut.refl _ _)
  refine KeepsBut.via (KeepsBut.each (l := [.dist .strAll, .pins .gateAll, .bat .strAll]) (fun a s => ?_) _ _) (by exact .check rfl) ?_
  · refine KeepsBut.ite _ (KeepsBut.weaken (KeepsBut.after (KeepsBut.whole (m := [.bat .strAll]) (State.modStr_keeps _ _ _) rfl) (KeepsBut.after
      (KeepsBut.whole (m := [.pins .gateAll]) (State.drive_keeps _ _ _) rfl)
      (KeepsBut.whole (m := [.dist .strAll]) (State.setStr_keeps _ _ _) rfl))) (by exact .check rfl)) ?_
    exact KeepsBut.ite _ (KeepsBut.refl _ _) (KeepsBut.weaken
        (KeepsBut.whole (m := [.pins .gateAll]) (State.drive_keeps _ _ _) rfl) (by exact .check rfl))
  refine KeepsBut.via (KeepsBut.each (l := (([.timers, .dist .feedAll, .pins .gateAll] : List Part)
      ++ Part.raised)) (fun a s => ?_) _ _) (by exact .check rfl) ?_
  · refine KeepsBut.viaIf (KeepsBut.weaken (State.feedStart_keeps _ _) (by exact .check rfl)) ?_
    exact KeepsBut.ite _ (KeepsBut.refl _ _) (KeepsBut.weaken (KeepsBut.after (KeepsBut.whole (m := [.pins .gateAll]) (State.drive_keeps _ _ _) rfl)
        (KeepsBut.whole (m := [.pins .gateAll]) (State.drive_keeps _ _ _) rfl)) (by exact .check rfl))
  refine KeepsBut.via (KeepsBut.each (l := [.dist .brAll, .timers, .pins .gateAll]) (fun a s => ?_) _ _) (by exact .check rfl) ?_
  · refine KeepsBut.ite _ (KeepsBut.refl _ _) ?_
    split
    · exact KeepsBut.weaken (KeepsBut.after (KeepsBut.whole (m := [.dist .brAll, .timers, .timers, .timers, .timers, .timers, .timers, .timers,
        .pins .gateAll, .timers]) (State.brStop_keeps _ _) rfl)
        (KeepsBut.whole (m := [.dist .brAll]) (State.modBr_keeps _ _ _) rfl)) (by exact .check rfl)
    · exact KeepsBut.ite _ (KeepsBut.refl _ _) (KeepsBut.weaken
        (KeepsBut.whole (m := [.pins .gateAll]) (State.drive_keeps _ _ _) rfl) (by exact .check rfl))
  exact KeepsBut.refl _ _

theorem State.releaseQuench_keeps (q : Fin 18) (s : State) :
    KeepsBut (([.dist .quench, .dist .brAll, .timers, .pins .gateAll, .dist .feedAll, .dist .strAll, .bat .strAll, .seq .railAll, .seq .order,
        .loopAll, .phaseAll, .laneAll, .pins .gpioDir, .pins .gpioOut, .dist .quenchOut, .dist .quenchIgnore] : List Part) ++ Part.raised)
        s (State.releaseQuench q s) := by
  unfold State.releaseQuench
  dsimp only
  exact KeepsBut.weaken (KeepsBut.after (State.quenchFree_keeps _) (KeepsBut.after (State.raise_keepsBut _ _ _ _)
      (KeepsBut.after (State.disarm_keeps _ _) (KeepsBut.write_dist (l := [.dist .quench]) fun f hf _ _ => by
      cases f with
      | quench => simp at hf | brAll | feedAll | strAll => trivial | _ => exact rfl)))) (by apply Part.Within.checkAt q; rfl)

theorem State.quenchTime_keeps (q : Fin 18) (s : State) :
    KeepsBut [.timer (.quenchRelease ↑q)] s (State.quenchTime q s) := by
  unfold State.quenchTime
  dsimp only
  exact KeepsBut.ite _ (KeepsBut.weaken (State.arm_keeps _ _ _) (by apply Part.Within.checkAt q; rfl)) (KeepsBut.refl _ _)

/-! ## Operations that move a set of parts and may raise codes -/

/-- No part of what a raised code waits in. -/
def Part.silent (l : List Part) : Bool :=
  Part.outside l (.evr .staging) && (Part.outside l (.net .batch) && (Part.outside l (.net .batchAt) && Part.outside l (.tb .tod)))

/-- A code that is raised before stays raised. -/
def Told (a t : State) : Prop := ∀ {c i : Nat} {v : List Nat} {s : State}, RaisedNow c i v s a → RaisedNow c i v s t

/-- The parts may change, codes may be raised, and no raised code is lost. -/
def Moves (l : List Part) (s t : State) : Prop := KeepsBut (l ++ Part.raised) s t ∧ Told s t

theorem Told.of_kept {l : List Part} {s t : State} (k : KeepsBut l s t) (silent : Part.silent l = true) : Told s t := fun h => by
  simp only [Part.silent, Bool.and_eq_true] at silent
  obtain ⟨staging, batch, at_, tod⟩ := silent
  exact h.kept k staging batch at_ tod

theorem Moves.of_kept {l : List Part} {s t : State} (k : KeepsBut l s t) (silent : Part.silent l = true) : Moves l s t :=
  ⟨k.weaken fun _ hp => .inl (List.mem_append_left _ hp), Told.of_kept k silent⟩

theorem Moves.refl (l : List Part) (s : State) : Moves l s s := ⟨KeepsBut.refl _ s, fun h => h⟩

theorem Moves.trans {l : List Part} {s a t : State} (h : Moves l s a) (k : Moves l a t) : Moves l s t := ⟨h.1.trans k.1, fun r => k.2 (h.2 r)⟩

theorem Moves.weaken {l m : List Part} {s t : State} (h : Moves l s t) (within : Part.Within (l ++ Part.raised) (m ++ Part.raised)) : Moves m s t :=
  ⟨h.1.weaken within, h.2⟩

theorem State.raise_moves (l : List Part) (c i : Nat) (v : List Nat) (s : State) : Moves l s (s.raise c i v) :=
  ⟨(State.raise_keepsBut c i v s).weaken fun _ hp => .inl (List.mem_append_right _ hp), fun h => h.raise c i v⟩

theorem Moves.ite {l : List Part} {s t u : State} (c : Prop) [Decidable c] (h : Moves l s t) (k : Moves l s u) : Moves l s (if c then t else u) := by
  split
  · exact h
  · exact k

theorem Moves.each {α : Type} {l : List Part} {f : α → State → State} (h : ∀ a s, Moves l s (f a s)) (as : List α) (s : State) :
    Moves l s (State.each as f s) :=
  State.each_invariant (P := fun t => Moves l s t) (fun a t m => m.trans (h a t)) as s (.refl l s)

/-! ## Shutdown -/

/-- What off paths may change. -/
def Part.stops : List Part := [.seq .railAll, .seq .queue, .seq .stoppingNow, .pins .pg, .loopAll, .pins .syncOut, .phaseAll, .dist .brAll,
    .dist .feedAll,
  .pins .gateAll, .timers, .dist .strAll, .bat .strAll, .pins .gpioDir, .pins .gpioOut]

theorem State.stopRail_stops (r : Fin 32) (why : StopWhy) (s : State) : KeepsBut Part.stops s (s.stopRail r why) :=
  (State.stopRail_keeps r why s).weaken (by apply Part.Within.checkAt r; rfl)

theorem State.cancelWaiting_stops (p : Fin 32 → Bool) (s : State) : KeepsBut Part.stops s (s.cancelWaiting p) :=
  (State.cancelWaiting_keeps p s).weaken (by exact .check rfl)

theorem State.queue_stops (q : List (Fin 32)) (r : Option (Fin 32)) (s : State) :
    KeepsBut Part.stops s { s with seq.queue := q, seq.stoppingNow := r } := by
  have changed : KeepsBut [.seq .queue, .seq .stoppingNow] s { s with seq.queue := q, seq.stoppingNow := r } :=
      (KeepsBut.write_seq (l := [.seq .queue, .seq .stoppingNow]) fun f hf _ _ => by
      cases f with
      | queue | stoppingNow => simp at hf  | railAll => trivial | _ => exact rfl)
  exact changed.weaken (by exact .check rfl)

theorem State.stopFrom_stops (why : StopWhy) (q : List (Fin 32)) (s : State) : KeepsBut Part.stops s (s.stopFrom why q) := by
  induction q generalizing s with
  | nil => exact State.queue_stops [] none s
  | cons r q ih =>
    have next := State.queue_stops q (some r) s
    exact .ite _ (ih s) (.ite _ (next.trans (State.stopRail_stops r why _)) (next.trans
      (((State.modRail_keeps r _ _).append (State.arm_keeps _ _ _)).weaken (by apply Part.Within.checkAt r; rfl))))

theorem State.stopQueue_stops (q : List (Fin 32)) (s : State) : KeepsBut Part.stops s (s.stopQueue q) := by
  have queued : KeepsBut Part.stops s { s with seq.queue := q } := State.queue_stops q s.seq.stoppingNow s
  exact .ite _ queued (queued.trans (State.stopFrom_stops _ _ _))

theorem State.shutdown_stops (p : Fin 32 → Bool) (s : State) : KeepsBut Part.stops s (s.shutdown p) :=
  (State.cancelWaiting_stops p s).trans (State.stopQueue_stops _ _)

/-! ## Fault reactions and forced targets, where no rail's reaction is the system reset (R239, R279) -/

/-- No rail's fault reaction is the system reset. -/
def State.Calm (s : State) : Prop := ∀ r : Fin 32, s.raw (0x2A10 + r) 0x0A ≠ 3

/-- What forcing targets off may change. -/
def Part.forced : List Part := Part.stops ++ [.seq .groupsDown, .pins .pwmAll, .dist .quenchOut, .dist .quenchIgnore]

theorem Moves.calm {s t : State} (h : Moves Part.forced s t) (calm : s.Calm) : t.Calm := fun r => by
  rw [h.1.raw (fun _ => rfl) (fun _ => rfl) rfl rfl]
  exact calm r

theorem Moves.forced {l : List Part} {s t : State} (k : KeepsBut l s t) (within : Part.Within l Part.forced) : Moves Part.forced s t :=
  .of_kept (k.weaken within) rfl

theorem Part.stops_within : Part.Within Part.stops Part.forced := fun _ hp => .inl (List.mem_append_left _ hp)

theorem State.latchRail_forced (r : Fin 32) (s : State) : Moves Part.forced s (s.latchRail r) :=
  (Moves.forced (((State.railQuiet_keeps r s).append (State.railTo_keeps r .latched _)).append (State.dropPg_keeps r _))
    (by apply Part.Within.checkAt r; rfl)).trans (State.raise_moves _ _ _ _ _)

theorem State.recordFault_forced (r : Fin 32) (code : Nat) (s : State) : Moves Part.forced s (s.recordFault r code) :=
  (Moves.forced (State.modRail_keeps r _ s) (by apply Part.Within.checkAt r; rfl)).trans (State.raise_moves _ _ _ _ _)

/-- The rails of a group marked as shut down with it. -/
def State.groupMarked (g : Fin 8) (s : State) : State :=
  State.each (List.finRange 32) (fun x => fun s => if s.groupOf x = some g then s.modRail x fun y => { y with groupOff := true } else s)
    { s with seq.groupsDown := s.seq.groupsDown ||| BitVec.ofNat 8 (2 ^ g.val) }

theorem State.groupMarked_keeps (g : Fin 8) (s : State) : KeepsBut [.seq .groupsDown, .seq .railAll] s (s.groupMarked g) := by
  have rails := KeepsBut.each (l := [.seq .railAll])
    (f := fun x => fun s : State => if s.groupOf x = some g then s.modRail x fun y => { y with groupOff := true } else s)
    (fun x t => .ite _ ((State.modRail_keeps x _ t).weaken (by apply Part.Within.checkAt x; rfl)) (.refl _ _)) (List.finRange 32)
    { s with seq.groupsDown := s.seq.groupsDown ||| BitVec.ofNat 8 (2 ^ g.val) }
  have down : KeepsBut [.seq .groupsDown] s { s with seq.groupsDown := s.seq.groupsDown ||| BitVec.ofNat 8 (2 ^ g.val) } :=
      (KeepsBut.write_seq (l := [.seq .groupsDown]) fun f hf _ _ => by cases f with | groupsDown => simp at hf  | railAll => trivial | _ => exact rfl)
  exact down.append rails

/-- A group shutdown that is recorded, with the power-up that it abandons. -/
def State.groupTold (g : Fin 8) (r : Fin 32) (s : State) : State :=
  let covers : Bool := (List.finRange 32).any fun x => decide (s.groupOf x = some g) && railStarting s.seq.rail[x].st
  let s := s.raise 0x0908 r [g, r]
  if s.seqState = .poweringUp ∧ covers then s.raise 0x090A noInst [] else s

theorem State.groupShutdown_eq (g : Fin 8) (r : Fin 32) (s : State) :
    s.groupShutdown g r = ((s.groupTold g r).groupMarked g).shutdown fun x => ((s.groupTold g r).groupMarked g).groupOf x = some g := rfl

theorem State.groupTold_moves (l : List Part) (g : Fin 8) (r : Fin 32) (s : State) : Moves l s (s.groupTold g r) :=
  (State.raise_moves l 0x0908 r [g, r] s).trans (.ite _ (State.raise_moves l 0x090A noInst [] _) (.refl _ _))

theorem State.groupShutdown_forced (g : Fin 8) (r : Fin 32) (s : State) : Moves Part.forced s (s.groupShutdown g r) := by
  rw [State.groupShutdown_eq]
  exact (State.groupTold_moves _ g r s).trans
    (.forced ((State.groupMarked_keeps g _).append (State.shutdown_stops _ _)) (by exact .check rfl))

theorem State.react_forced (r : Fin 32) (stopped : Bool) {s : State} (calm : s.Calm) : Moves Part.forced s (s.react r stopped) := by
  have stops (why : StopWhy) : Moves Part.forced s (s.stopRail r why) := .forced (State.stopRail_stops r why s) Part.stops_within
  unfold State.react
  split
  · exact .ite _ (State.latchRail_forced r s) (.refl _ s)
  · split
    · exact State.groupShutdown_forced _ r s
    · exact .refl _ s
  next reset => exact absurd reset (calm r)
  · exact .ite _ (stops .retry) (stops .latch)

theorem State.railFaultNow_forced (r : Fin 32) (code : Nat) {s : State} (calm : s.Calm) : Moves Part.forced s (s.railFaultNow r code) := by
  have quiet : Moves Part.forced s (((s.railQuiet r).dropPg r).recordFault r code) :=
    (Moves.forced ((State.railQuiet_keeps r s).append (State.dropPg_keeps r _)) (by apply Part.Within.checkAt r; rfl)).trans
      (State.recordFault_forced r code _)
  exact .ite _ (quiet.trans (State.react_forced r true (quiet.calm calm))) (.refl _ s)

theorem State.loopFault_forced (l : Fin 8) (code : Nat) {s : State} (calm : s.Calm) : Moves Part.forced s (s.loopFault l code) := by
  unfold State.loopFault
  split
  next r _ => exact State.railFaultNow_forced r code calm
  · exact .refl _ s

theorem State.quenchLoop_forced (l : Fin 8) {s : State} (calm : s.Calm) : Moves Part.forced s (s.quenchLoop l) := by
  have cut : Moves Part.forced s (s.loopCut l) := .forced (State.loopCut_keeps l s) (by apply Part.Within.checkAt l; rfl)
  exact .ite _ (cut.trans (State.loopFault_forced l _ (cut.calm calm))) (.refl _ s)

theorem Moves.each_calm {α : Type} {f : α → State → State} (h : ∀ a s, State.Calm s → Moves Part.forced s (f a s)) (as : List α) {s : State}
    (calm : s.Calm) : Moves Part.forced s (State.each as f s) :=
  State.each_invariant (P := fun t => Moves Part.forced s t) (fun a t m => m.trans (h a t (m.calm calm))) as s (.refl _ s)

/-- The branches, feeds and strings that a latch's map includes, and the pins that follow the latches. -/
def State.quenchGates (q : Nat) (s : State) : State :=
  let s := State.each (List.finRange 16) (fun k => fun s => if s.quenchHits q k then s.quenchBranch k else s) s
  let s := State.each (List.finRange 2) (fun p => fun s =>
    if s.quenchHits q (fdGate p false) ∨ s.quenchHits q (fdGate p true) then s.quenchFeed p else s) s
  let s := State.each (List.finRange 4) (fun n => fun s => if s.quenchHits q (stGate n) then s.quenchStr n else s) s
  s.quenchPins

theorem State.quenchTargets_eq (q : Nat) (s : State) : s.quenchTargets q = if s.standby then s.quenchPins else
    State.each (List.finRange 8) (fun l => fun s => if s.quenchHits q (24 + l) then s.quenchLoop l else s) (s.quenchGates q) := rfl

/-- What the gates of a latch's map may change. -/
def Part.quenchGates : List Part := [.dist .brAll, .dist .feedAll, .dist .strAll, .pins .gateAll, .dist .quenchOut, .dist .quenchIgnore,
    .pins .gpioOut,
  .pins .gpioDir, .timers]

theorem State.quenchGates_keeps (q : Nat) (s : State) : KeepsBut Part.quenchGates s (s.quenchGates q) := by
  unfold State.quenchGates
  dsimp only
  refine .trans ?_ ((State.quenchPins_keeps _).weaken (by exact .check rfl))
  refine .trans (.trans ?_ (.each (fun p t => ?_) _ _)) (.each (fun n t => ?_) _ _)
  · exact .each (fun k t => .ite _ ((State.quenchBranch_keeps k t).weaken (by apply Part.Within.checkAt k; rfl)) (.refl _ t)) _ s
  · exact .ite _ ((State.quenchFeed_keeps p t).weaken (by match p with | 0 | 1 => exact .check rfl)) (.refl _ t)
  · exact .ite _ ((State.quenchStr_keeps n t).weaken (by apply Part.Within.checkAt n; rfl)) (.refl _ t)

theorem State.quenchTargets_forced (q : Nat) {s : State} (calm : s.Calm) : Moves Part.forced s (s.quenchTargets q) := by
  have gates : Moves Part.forced s (s.quenchGates q) := .forced (s.quenchGates_keeps q) (by exact .check rfl)
  rw [State.quenchTargets_eq]
  exact .ite _ (.forced s.quenchPins_keeps (by exact .check rfl))
    (gates.trans (.each_calm (fun l t quiet => .ite _ (State.quenchLoop_forced l quiet) (.refl _ t)) _ (gates.calm calm)))

/-- The latch of a source set and recorded, before its targets are forced off. -/
def State.latchSet (q : Fin 18) (s : State) : State :=
  (State.disarm (.quenchRelease q) { s with dist.quench := s.dist.quench ||| BitVec.ofNat 18 (2 ^ q.val) }).raise 0x070D noInst [q.val + 1]

theorem State.setQuench_eq {q : Fin 18} {s : State} (clear : s.dist.quench.getLsbD q = false) : s.setQuench q = (s.latchSet q).quenchTargets q :=
  if_neg (by rw [clear]; exact Bool.false_ne_true)

theorem State.latchSet_keeps (q : Fin 18) (s : State) : KeepsBut (([.dist .quench, .timer (.quenchRelease q)] : List Part)
    ++ Part.raised) s (s.latchSet q) := by
  have latched : KeepsBut [.dist .quench] s { s with dist.quench := s.dist.quench ||| BitVec.ofNat 18 (2 ^ q.val) } :=
      (KeepsBut.write_dist (l := [.dist .quench]) fun f hf _ _ => by
      cases f with
      | quench => simp at hf  | brAll | feedAll | strAll => trivial | _ => exact rfl)
  exact (latched.append (State.disarm_keeps _ _)).append (State.raise_keepsBut _ _ _ _)

theorem State.latchSet_quench (q : Fin 18) (s : State) : (s.latchSet q).dist.quench = s.dist.quench ||| BitVec.ofNat 18 (2 ^ q.val) := by
  unfold State.latchSet
  simp

theorem State.latchSet_raised (q : Fin 18) (s : State) : RaisedNow 0x070D noInst [q.val + 1] s (s.latchSet q) := State.raise_raisedNow _ _ _ rfl

theorem State.latchSet_calm {s : State} (calm : s.Calm) (q : Fin 18) : (s.latchSet q).Calm := fun r => by
  rw [(s.latchSet_keeps q).raw (fun _ => rfl) (fun _ => rfl) rfl rfl]
  exact calm r

/-- What setting a latch does (R240). -/
theorem State.setQuench_latches {q : Fin 18} {s : State} (clear : s.dist.quench.getLsbD q = false) (calm : s.Calm) :
    (s.setQuench q).dist.quench = s.dist.quench ||| BitVec.ofNat 18 (2 ^ q.val) ∧ RaisedNow 0x070D noInst [q.val + 1] s (s.setQuench q) ∧
      KeepsBut (([.dist .quench] : List Part) ++ Part.forced ++ Part.raised) s (s.setQuench q) := by
  rw [State.setQuench_eq clear]
  have forced := State.quenchTargets_forced q (s.latchSet_calm calm q)
  have quench : ((s.latchSet q).quenchTargets q).dist.quench = (s.latchSet q).dist.quench := forced.1.get (.dist .quench) rfl
  exact ⟨quench.trans (s.latchSet_quench q), forced.2 (s.latchSet_raised q),
    ((s.latchSet_keeps q).weaken (by apply Part.Within.checkAt q; rfl)).trans (forced.1.weaken (by exact .check rfl))⟩

/-! ## What targets do when a latch is released (R240) -/

/-- What the release of a latch may change. -/
def Part.released : List Part := [.dist .brAll, .timers, .pins .gateAll, .dist .feedAll, .dist .strAll, .bat .strAll, .seq .railAll, .seq .order,
    .loopAll,
  .phaseAll, .laneAll, .pins .gpioDir, .pins .gpioOut, .dist .quenchOut, .dist .quenchIgnore]

theorem Moves.released {l : List Part} {s t : State} (k : KeepsBut l s t) (within : Part.Within l Part.released) : Moves Part.released s t :=
  .of_kept (k.weaken within) rfl

theorem State.feedSelect_freed (p : Fin 2) (s : State) : Moves Part.released s (s.feedSelect p) := by
  have source (b : Bool) : Moves Part.released s (s.feedSource p b) :=
    .released (State.feedSource_keeps p b s) (by cases b <;> (match p with | 0 | 1 => exact .check rfl))
  have waits : Moves Part.released s (s.modFeed p fun f => { f with phase := .waiting, sel := none, next := none }) :=
    .released (State.modFeed_keeps p _ s) (by apply Part.Within.checkAt p; rfl)
  exact .ite _ (source _) (.ite _ (source _) (waits.trans (State.raise_moves _ _ _ _ _)))

theorem State.feedStart_freed (p : Fin 2) (s : State) : Moves Part.released s (s.feedStart p) :=
  .ite _ (State.feedSelect_freed p s) (.ite _ (.released (State.modFeed_keeps p _ s) (by apply Part.Within.checkAt p; rfl)) (.refl _ s))

theorem State.chanStart_freed (r : Fin 32) (s : State) : Moves Part.released s (s.chanStart r) := by
  unfold State.chanStart
  dsimp only
  split
  · split
    next h =>
      generalize (⟨_, h⟩ : Fin 8) = l
      exact .ite _ (.refl _ s) (.released (State.loopStart_keeps l s) (by apply Part.Within.checkAt l; rfl))
    · exact .refl _ s
  · split
    next h =>
      generalize (⟨_, h⟩ : Fin 16) = k
      exact .released (State.modBr_keeps k _ s) (by apply Part.Within.checkAt k; rfl)
    · exact .refl _ s
  · split
    next h =>
      generalize (⟨_, h⟩ : Fin 2) = p
      exact (Moves.released (State.modFeed_keeps p _ s) (by apply Part.Within.checkAt p; rfl)).trans (State.feedStart_freed p _)
    · exact .refl _ s
  · split
    next h =>
      generalize (⟨_, h⟩ : Fin 4) = n
      exact (Moves.released (State.modStr_keeps n _ s) (by apply Part.Within.checkAt n; rfl)).trans
        (.released (State.strConnect_keeps n _) (by apply Part.Within.checkAt n; rfl))
    · exact .refl _ s
  · exact .released (State.driveGpio_keeps _ _ s) (by exact .check rfl)
  · exact .refl _ s

/-- A rail about to start: withheld no more, in the start order. -/
def State.railOrdered (r : Fin 32) (s : State) : State :=
  let s := s.modRail r fun x => { x with withheld := false, adopted := false }
  { s with seq.order := if s.seq.order.contains r then s.seq.order else s.seq.order ++ [r] }

theorem State.startRail_eq (r : Fin 32) (s : State) : s.startRail r = if ((s.railOrdered r).chanStart r).ownerHolds r then
    ((s.railOrdered r).chanStart r).railTo r .heldOff
    else (((s.railOrdered r).chanStart r).railTo r .starting).arm (.railTimeout r) (((s.railOrdered r).chanStart r).ns (0x2A10 + r) 6) := rfl

theorem State.railOrdered_keeps (r : Fin 32) (s : State) : KeepsBut [.seq (.rail r), .seq .order] s (s.railOrdered r) := by
  have order (a : State) (o : List (Fin 32)) : KeepsBut [.seq .order] a { a with seq.order := o } := (KeepsBut.write_seq (l := [.seq .order])
      fun f hf _ _ => by cases f with | order => simp at hf  | railAll => trivial | _ => exact rfl)
  exact (State.modRail_keeps r _ s).append (order _ _)

theorem State.startRail_freed (r : Fin 32) (s : State) : Moves Part.released s (s.startRail r) := by
  have begun : Moves Part.released s ((s.railOrdered r).chanStart r) :=
    (Moves.released (State.railOrdered_keeps r s) (by apply Part.Within.checkAt r; rfl)).trans (State.chanStart_freed r _)
  rw [State.startRail_eq]
  exact .ite _ (begun.trans (.released (State.railTo_keeps r _ _) (by apply Part.Within.checkAt r; rfl)))
    (begun.trans (.released ((State.railTo_keeps r _ _).append (State.arm_keeps _ _ _)) (by apply Part.Within.checkAt r; rfl)))

/-- A branch as a released latch leaves it. -/
def State.brFree (k : Fin 16) (s : State) : State :=
  if s.quenched k then s
  else match s.dist.br[k].st with
    | .quenched => (s.modBr k fun b => { b with toOff := true }).brStop k
    | _ => if s.running (.brSink k) then s else s.drive (brGate k) (s.sunkDrive (brGate k))

/-- A pair of feeds as a released latch leaves it. -/
def State.feedFree (p : Fin 2) (s : State) : State :=
  let s := if s.dist.feed[p].next.isSome then s
    else (s.drive (fdGate p false) (s.sunkDrive (fdGate p false))).drive (fdGate p true) (s.sunkDrive (fdGate p true))
  if s.dist.feed[p].phase = .off then s.feedStart p else s

/-- A string as a released latch leaves it. -/
def State.strFree (n : Fin 4) (s : State) : State :=
  if s.dist.str[n] = .quenched ∧ ¬ s.quenched (stGate n) then
    ((s.setStr n .off).drive (stGate n) .normalSink).modStr n fun x => { x with waitMatch := true }
  else if s.running (.brSink (stGate n)) then s else s.drive (stGate n) (s.sunkDrive (stGate n))

/-- A loop's rail as a released latch leaves it. -/
def State.railFree (r : Fin 32) (s : State) : State :=
  if s.cfg.railKind r = 1 ∧ s.seq.rail[r].st = .heldOff ∧ ¬ s.quenched (24 + s.cfg.railInst r) then s.startRail r else s

theorem State.quenchFree_eq (s : State) : s.quenchFree = if s.standby then s.quenchPins else
    State.each (List.finRange 32) State.railFree (State.each (List.finRange 4) State.strFree (State.each (List.finRange 2) State.feedFree
      (State.each (List.finRange 16) State.brFree s.quenchPins))) := rfl

theorem State.drive_freed (g : Fin 24) (d : GateDrive) (s : State) : Moves Part.released s (s.drive g d) :=
  .released (State.drive_keeps g d s) (by apply Part.Within.checkAt g; rfl)

theorem State.brFree_freed (k : Fin 16) (s : State) : Moves Part.released s (s.brFree k) := by
  refine .ite _ (.refl _ s) ?_
  split
  · exact .released ((State.modBr_keeps k _ s).append (State.brStop_keeps k _)) (by apply Part.Within.checkAt k; rfl)
  · exact .ite _ (.refl _ s) (State.drive_freed _ _ s)

theorem State.feedFree_freed (p : Fin 2) (s : State) : Moves Part.released s (s.feedFree p) := by
  unfold State.feedFree
  dsimp only
  have sunk : Moves Part.released s (if s.dist.feed[p].next.isSome then s
      else (s.drive (fdGate p false) (s.sunkDrive (fdGate p false))).drive (fdGate p true) (s.sunkDrive (fdGate p true))) :=
    .ite _ (.refl _ s) ((State.drive_freed _ _ s).trans (State.drive_freed _ _ _))
  exact .ite _ (sunk.trans (State.feedStart_freed p _)) sunk

theorem State.strFree_freed (n : Fin 4) (s : State) : Moves Part.released s (s.strFree n) := by
  have off : Moves Part.released s (s.setStr n .off) := .released (State.setStr_keeps n _ s) (by apply Part.Within.checkAt n; rfl)
  exact .ite _ ((off.trans (State.drive_freed _ _ _)).trans (.released (State.modStr_keeps n _ _) (by apply Part.Within.checkAt n; rfl)))
    (.ite _ (.refl _ s) (State.drive_freed _ _ s))

theorem State.quenchFree_freed (s : State) : Moves Part.released s s.quenchFree := by
  have pins : Moves Part.released s s.quenchPins := .released s.quenchPins_keeps (by exact .check rfl)
  rw [State.quenchFree_eq]
  refine .ite _ pins ((((pins.trans (.each State.brFree_freed _ _)).trans (.each State.feedFree_freed _ _)).trans
    (.each State.strFree_freed _ _)).trans (.each (fun r t => ?_) _ _))
  exact .ite _ (State.startRail_freed r t) (.refl _ t)

/-- The latch of a source cleared and recorded, before its targets are freed. -/
def State.latchCleared (q : Fin 18) (s : State) : State :=
  (State.disarm (.quenchRelease q) { s with dist.quench := s.dist.quench &&& ~~~ BitVec.ofNat 18 (2 ^ q.val) }).raise 0x070E noInst [q.val + 1]

theorem State.latchCleared_keeps (q : Fin 18) (s : State) :
    KeepsBut (([.dist .quench, .timer (.quenchRelease q)] : List Part) ++ Part.raised) s (s.latchCleared q) := by
  have cleared : KeepsBut [.dist .quench] s { s with dist.quench := s.dist.quench &&& ~~~ BitVec.ofNat 18 (2 ^ q.val) } :=
      (KeepsBut.write_dist (l := [.dist .quench]) fun f hf _ _ => by
      cases f with
      | quench => simp at hf  | brAll | feedAll | strAll => trivial | _ => exact rfl)
  exact (cleared.append (State.disarm_keeps _ _)).append (State.raise_keepsBut _ _ _ _)

theorem State.latchCleared_quench (q : Fin 18) (s : State) :
    (s.latchCleared q).dist.quench = s.dist.quench &&& ~~~ BitVec.ofNat 18 (2 ^ q.val) := by
  unfold State.latchCleared
  simp

/-- What releasing a latch does (R240). -/
theorem State.releaseQuench_clears (q : Fin 18) (s : State) :
    (s.releaseQuench q).dist.quench = s.dist.quench &&& ~~~ BitVec.ofNat 18 (2 ^ q.val) ∧ RaisedNow 0x070E noInst [q.val + 1] s (s.releaseQuench q) ∧
      KeepsBut (([.dist .quench] : List Part) ++ Part.released ++ Part.raised) s (s.releaseQuench q) := by
  rw [show s.releaseQuench q = (s.latchCleared q).quenchFree from rfl]
  have freed := State.quenchFree_freed (s.latchCleared q)
  have quench : (s.latchCleared q).quenchFree.dist.quench = (s.latchCleared q).dist.quench := freed.1.get (.dist .quench) rfl
  exact ⟨quench.trans (s.latchCleared_quench q), freed.2 (State.raise_raisedNow _ _ _ rfl),
    ((s.latchCleared_keeps q).weaken (by apply Part.Within.checkAt q; rfl)).trans (freed.1.weaken (by exact .check rfl))⟩

/-! ## The commands -/

theorem State.quenchIn_low : ∀ (s : State),
    s.dist.quenchOut = false →
    s.dist.quenchIgnore = false →
    s.dist.quench.getLsbD 16 = false →
    s.seq.resetAfter = false →
    (∀ r : Fin 32, s.raw (0x2A10 + r) 0x0A ≠ 3) →
    Completes (.quenchIn true) s fun t => t.dist.quench = s.dist.quench ||| 0x10000 ∧ Raised 0x070D noInst [17] s t ∧
    KeepsBut (([.dist .quench, .dist .quenchIn, .dist .quenchOut, .dist .quenchIgnore, .dist .brAll, .dist .feedAll, .dist .strAll, .bat .strAll,
    .pins .gateAll, .pins .gpioOut, .pins .gpioDir, .pins .pwmAll, .pins .pg, .pins .syncOut, .phaseAll, .loopAll, .seq .railAll, .seq .groupsDown,
    .seq .queue, .seq .stoppingNow, .seq .sysOn, .seq .order, .seq .st, .seq .resets, .seq .upSince, .seq .latchAfter, .seq .onAfter,
    .timers] : List Part) ++ Part.raised) s t := fun s out ignore clear _ calm => by
  have run : exec (.quenchIn true) s = .next ((State.setQuench 16 { s with dist.quenchIn := true }).disarm (.quenchRelease 16)) :=
    congrArg Host.Outcome.next (if_pos (by
      simp only [State.quenchAsserted, out, ignore]
      rfl))
  have line : KeepsBut [.dist .quenchIn] s { s with dist.quenchIn := true } := (KeepsBut.write_dist (l := [.dist .quenchIn]) fun f hf _ _ => by
      cases f with
      | quenchIn => simp at hf  | brAll | feedAll | strAll => trivial | _ => exact rfl)
  obtain ⟨quench, raised, kept⟩ := State.setQuench_latches (q := 16) (s := { s with dist.quenchIn := true }) clear calm
  have later := State.disarm_keeps (.quenchRelease 16) (State.setQuench 16 { s with dist.quenchIn := true })
  exact ⟨_, run, quench, raised.1.keep (later.get (.evr .staging) rfl) (later.get (.net .batch) rfl),
    ((line.append kept).append later).weaken (by exact .check rfl)⟩

theorem State.softwareQuench_latches : ∀ (w : Session) (d : List Byte) (s : State),
    s.admits w 0x2600 3 d = true →
    s.dist.quench.getLsbD 17 = false →
    s.seq.resetAfter = false →
    (∀ r : Fin 32, s.raw (0x2A10 + r) 0x0A ≠ 3) →
    Completes (.softwareQuench w d) s fun t => t.dist.quench = s.dist.quench ||| 0x20000 ∧ Raised 0x070D noInst [18] s t ∧ Answered w .done t ∧
    KeepsBut (([.dist .quench, .dist .quenchIn, .dist .quenchOut, .dist .quenchIgnore, .dist .brAll, .dist .feedAll, .dist .strAll, .bat .strAll,
    .pins .gateAll, .pins .gpioOut, .pins .gpioDir, .pins .pwmAll, .pins .pg, .pins .syncOut, .phaseAll, .loopAll, .seq .railAll, .seq .groupsDown,
    .seq .queue, .seq .stoppingNow, .seq .sysOn, .seq .order, .seq .st, .seq .resets, .seq .upSince, .seq .latchAfter, .seq .onAfter, .timers,
    .net (.sess (sessIx w)), .twin .sent] : List Part) ++ Part.raised) s t := fun w d s a clear _ calm => by
  have run : exec (.softwareQuench w d) s =
      .next ((((State.setQuench 17 (s.touch w)).quenchTime 17).forward 0x2600 3 d).answer w .done) :=
    congrArg Host.Outcome.next (State.writeBy_done a rfl rfl rfl rfl)
  have touched := State.touch_keeps w s
  obtain ⟨quench, raised, kept⟩ := State.setQuench_latches (q := 17) (s := s.touch w) clear calm
  have later := ((State.quenchTime_keeps 17 (State.setQuench 17 (s.touch w))).append (State.forward_keeps 0x2600 3 d _)).append (State.answer_keeps w .done _)
  refine ⟨_, run, Eq.trans (later.get (.dist .quench) (by cases w <;> rfl)) quench,
    Raised.keep raised.1 (later.get (.evr .staging) (by cases w <;> rfl)) (later.get (.net .batch) (by cases w <;> rfl)), State.answer_answered _ _ _,
    ((touched.append kept).append later).weaken (by cases w <;> exact .check rfl)⟩

theorem State.quenchRelease_clears : ∀ (w : Session) (d : List Byte) (q : Fin 18) (s : State),
    s.admits w 0x2600 4 d = true →
    quenchSource d = some q →
    s.quenchAsserted q = false →
    s.dist.quench.getLsbD q = true →
    Completes (.quenchRelease w d) s fun t => t.dist.quench = s.dist.quench &&& ~~~ BitVec.ofNat 18 (2 ^ q.val) ∧ Raised 0x070E noInst [q.val + 1] s t ∧
    Answered w .done t ∧ KeepsBut (([.dist .quench, .dist .quenchOut, .dist .quenchIgnore, .pins .gpioOut, .pins .gpioDir, .seq .railAll, .seq .order,
    .loopAll, .phaseAll, .laneAll, .dist .brAll, .dist .feedAll, .pins .gateAll, .bat .strAll, .dist .strAll, .twin .sent, .net (.sess (sessIx w)),
    .timers] : List Part) ++ Part.raised) s t := fun w d q s a source idle set => by
  have run : exec (.quenchRelease w d) s = .next (((State.releaseQuench q (s.touch w)).forward 0x2600 4 d).answer w .done) := by
    have busy : objQuenchRelease.busy (s.touch w) d = none := by
      show (match quenchSource d with | some q => refuseIf ((s.touch w).quenchAsserted q ∨ ¬ (s.touch w).dist.quench.getLsbD q) | none => none) = none
      rw [source]
      show (if (decide (s.quenchAsserted q = true ∨ ¬ s.dist.quench.getLsbD q = true)) = true then _ else _) = _
      rw [idle, set]
      rfl
    have effect : objQuenchRelease.effect (some w) d (s.touch w) = State.releaseQuench q (s.touch w) := by
      show (match quenchSource d with | some q => (s.touch w).releaseQuench q | none => s.touch w) = _
      rw [source]
    exact congrArg Host.Outcome.next ((State.writeBy_done a busy rfl rfl rfl).trans (by rw [effect]; rfl))
  obtain ⟨quench, raised, kept⟩ := State.releaseQuench_clears q (s.touch w)
  have later := (State.forward_keeps 0x2600 4 d (State.releaseQuench q (s.touch w))).append (State.answer_keeps w .done _)
  exact ⟨_, run, Eq.trans (later.get (.dist .quench) (by cases w <;> rfl)) quench,
    Raised.keep raised.1 (later.get (.evr .staging) (by cases w <;> rfl)) (later.get (.net .batch) (by cases w <;> rfl)), State.answer_answered _ _ _,
    (((State.touch_keeps w s).append kept).append later).weaken (by cases w <;> exact .check rfl)⟩

theorem State.quenchAutoRelease_clears : ∀ (q : Fin 18) (s : State),
    s.due (.quenchRelease q) = true →
    s.quenchAsserted q = false →
    s.dist.quench.getLsbD q = true →
    Completes (.quenchAutoRelease q) s fun t => t.dist.quench = s.dist.quench &&& ~~~ BitVec.ofNat 18 (2 ^ q.val) ∧ Raised 0x070E noInst [q.val + 1] s t ∧
    KeepsBut (([.dist .quench, .dist .quenchOut, .dist .quenchIgnore, .pins .gpioOut, .pins .gpioDir, .seq .railAll, .seq .order, .loopAll, .phaseAll,
    .laneAll, .dist .brAll, .dist .feedAll, .pins .gateAll, .bat .strAll, .dist .strAll, .timers] : List Part)
        ++ Part.raised) s t := fun q s due idle set => by
  obtain ⟨quench, raised, kept⟩ := State.releaseQuench_clears q s
  exact ⟨_, congrArg Host.Outcome.next (if_pos ⟨due, by rw [idle]; exact Bool.false_ne_true, set⟩), quench, raised.1, kept.weaken (by exact .check rfl)⟩

theorem State.quenchInRearm_watches : ∀ (s : State),
    s.due .quenchIgnore = true →
    s.dist.quenchIn = false →
    Completes .quenchInRearm s fun t => t.dist = { s.dist with quenchIgnore := false } ∧ Stopped .quenchIgnore t ∧
    KeepsBut [.dist .quenchIn, .dist .quenchIgnore, .dist .quench, .dist .quenchOut, .dist .brAll, .dist .feedAll, .dist .strAll,
        .timers] s t := fun s due high => by
  have idle : ¬ State.quenchAsserted { s.disarm .quenchIgnore with dist.quenchIgnore := false } 16 = true := by
    simp only [State.quenchAsserted, State.disarm, high]
    simp
  have run : exec .quenchInRearm s = .next { s.disarm .quenchIgnore with dist.quenchIgnore := false } :=
    congrArg Host.Outcome.next ((if_pos due).trans (if_neg idle))
  have watched : KeepsBut [.dist .quenchIgnore] (s.disarm .quenchIgnore) { s.disarm .quenchIgnore with dist.quenchIgnore := false } :=
      (KeepsBut.write_dist (l := [.dist .quenchIgnore]) fun f hf _ _ => by
      cases f with
      | quenchIgnore => simp at hf  | brAll | feedAll | strAll => trivial | _ => exact rfl)
  exact ⟨_, run, rfl, State.disarm_deadline _ _, ((s.disarm_keeps _).append watched).weaken (by exact .check rfl)⟩

/-- Settles O17: quench latches set, recorded and released, clause by clause. -/
theorem quenchLatchesSetAndRelease : Obligations.QuenchLatchesSetAndRelease := by
  unfold Obligations.QuenchLatchesSetAndRelease
  exact ⟨State.quenchIn_low, State.softwareQuench_latches, State.quenchRelease_clears, State.quenchAutoRelease_clears, State.quenchInRearm_watches⟩

end Sys2Proof.Machine
end

section
/-! PROOFS. The sequencer's commands (R271 to R288). -/

namespace Sys2Proof.Machine

/-! ## Rails under shutdown (R283) -/

/-- A field of the rails that off paths leave. -/
def Rail.Stands {β : Type} (g : Rail → β) : Prop :=
  ∀ (x : Rail) (st : RailSt) (why : StopWhy) (w pg : Bool), g { x with st := st, why := why, inWindow := w, pg := pg } = g x

theorem Rail.inputLossOff_stands : Rail.Stands Rail.inputLossOff := fun _ _ _ _ _ => rfl

theorem State.modRail_rail (r : Fin 32) (f : Rail → Rail) (s : State) : (s.modRail r f).seq.rail[r] = f s.seq.rail[r] := vector_set_eq _ _ _

theorem State.modRail_field {β : Type} {g : Rail → β} {f : Rail → Rail} (stands : ∀ x, g (f x) = g x) (r k : Fin 32) (s : State) :
    g ((s.modRail k f).seq.rail[r]) = g (s.seq.rail[r]) := by
  show g ((s.seq.rail.set k (f s.seq.rail[k]))[r]) = _
  by_cases same : r = k
  · rw [same, vector_set_eq]
    exact stands _
  · rw [vector_set_getElem_ne same]

theorem KeepsBut.railField {l : List Part} {s t : State} (h : KeepsBut l s t) {β : Type} (g : Rail → β) (r : Fin 32)
    (out : Part.outside l (.seq (.rail r)) = true) : g (t.seq.rail[r]) = g (s.seq.rail[r]) := congrArg g (h.get (.seq (.rail r)) out)

theorem State.railTo_field {β : Type} {g : Rail → β} (stands : Rail.Stands g) (r k : Fin 32) (x : RailSt) (s : State) :
    g ((s.railTo k x).seq.rail[r]) = g (s.seq.rail[r]) := State.modRail_field (fun y => stands y x y.why y.inWindow y.pg) r k s

theorem State.railQuiet_field {β : Type} (g : Rail → β) (r k : Fin 32) (s : State) : g ((s.railQuiet k).seq.rail[r]) = g (s.seq.rail[r]) := rfl

theorem State.chanStop_field {β : Type} (g : Rail → β) (r k : Fin 32) (s : State) : g ((s.chanStop k).seq.rail[r]) = g (s.seq.rail[r]) :=
  (State.chanStop_keeps k s).railField g r rfl

theorem State.dropPg_field {β : Type} {g : Rail → β} (stands : Rail.Stands g) (r k : Fin 32) (s : State) :
    g ((s.dropPg k).seq.rail[r]) = g (s.seq.rail[r]) :=
  ((State.drivePg_keeps _).railField g r rfl).trans (State.modRail_field (fun y => stands y y.st y.why y.inWindow false) r k s)

/-- A rail whose off path begins, before its instance stops. -/
def State.railStopped (r : Fin 32) (why : StopWhy) (s : State) : State :=
  ((s.railQuiet r).modRail r fun y => { y with st := .stopping, why := why, inWindow := false }).dropPg r

/-- The off path of a started rail. -/
def State.railPath (r : Fin 32) (why : StopWhy) (s : State) : State :=
  let s := (s.railStopped r why).chanStop r
  if s.cfg.railKind r = 1 then s.arm (.railDischarge r) (s.ns (0x2A10 + r) 0x11) else s

theorem State.stopRail_eq (r : Fin 32) (why : StopWhy) (s : State) : s.stopRail r why =
    if railStarted s.seq.rail[r].st then s.railPath r why
    else if s.seq.rail[r].st = .waitDeps ∨ s.seq.rail[r].st = .startDelay then (s.railQuiet r).railTo r .off
    else if s.seq.rail[r].st = .latched ∨ s.seq.rail[r].st = .retryWait then ((s.railQuiet r).railTo r .off).chanStop r
    else s.modRail r fun y => { y with why := why } := rfl

theorem State.railStopped_rail (r : Fin 32) (why : StopWhy) (s : State) :
    (s.railStopped r why).seq.rail[r] = { s.seq.rail[r] with st := .stopping, why := why, inWindow := false, pg := false } := by
  refine ((State.drivePg_keeps _).get (.seq (.rail r)) rfl : _ = _).trans ?_
  rw [State.modRail_rail, State.modRail_rail]
  rfl

theorem State.railPath_keeps (r : Fin 32) (why : StopWhy) (s : State) :
    KeepsBut [.loopAll, .pins .syncOut, .phaseAll, .dist .brAll, .dist .feedAll, .pins .gateAll, .timers, .dist .strAll, .bat .strAll, .pins .gpioDir,
      .pins .gpioOut] (s.railStopped r why) (s.railPath r why) :=
  .ite _ (((State.chanStop_keeps r _).append (State.arm_keeps _ _ _)).weaken (by exact .check rfl)) (State.chanStop_keeps r _)

/-- A started rail stops (R283). -/
theorem State.stopRail_rail {r : Fin 32} {s : State} (on : railStarted s.seq.rail[r].st = true) (why : StopWhy) :
    (s.stopRail r why).seq.rail[r] = { s.seq.rail[r] with st := .stopping, why := why, inWindow := false, pg := false } := by
  rw [State.stopRail_eq, if_pos on]
  exact ((State.railPath_keeps r why s).get (.seq (.rail r)) rfl : _ = _).trans (s.railStopped_rail r why)

theorem State.stopRail_field {β : Type} {g : Rail → β} (stands : Rail.Stands g) (r k : Fin 32) (why : StopWhy) (s : State) :
    g ((s.stopRail k why).seq.rail[r]) = g (s.seq.rail[r]) := by
  rw [State.stopRail_eq]
  split
  · rw [(State.railPath_keeps k why s).railField g r rfl]
    exact (State.dropPg_field stands r k _).trans (State.modRail_field (fun y => stands y .stopping why false y.pg) r k _)
  · split
    · exact State.railTo_field stands r k _ _
    · split
      · exact (State.chanStop_field g r k _).trans (State.railTo_field stands r k _ _)
      · exact State.modRail_field (fun y => stands y y.st why y.inWindow y.pg) r k s

theorem State.stopFrom_field {β : Type} {g : Rail → β} (stands : Rail.Stands g) (r : Fin 32) (why : StopWhy) (q : List (Fin 32)) (s : State) :
    g ((s.stopFrom why q).seq.rail[r]) = g (s.seq.rail[r]) := by
  induction q generalizing s with
  | nil => rfl
  | cons k q ih =>
    unfold State.stopFrom
    split
    · exact ih s
    · dsimp only
      split
      · exact State.stopRail_field stands r k why _
      · exact State.modRail_field (fun y => stands y y.st why y.inWindow y.pg) r k _

theorem State.cancelWaiting_field {β : Type} {g : Rail → β} (stands : Rail.Stands g) (r : Fin 32) (p : Fin 32 → Bool) (s : State) :
    g ((s.cancelWaiting p).seq.rail[r]) = g (s.seq.rail[r]) :=
  State.each_invariant (P := fun t => g (t.seq.rail[r]) = g (s.seq.rail[r])) (fun k t ht => by
    split
    · exact (State.railTo_field stands r k _ _).trans ht
    · exact ht) (List.finRange 32) s rfl

theorem State.shutdown_field {β : Type} {g : Rail → β} (stands : Rail.Stands g) (r : Fin 32) (p : Fin 32 → Bool) (s : State) :
    g ((s.shutdown p).seq.rail[r]) = g (s.seq.rail[r]) := by
  refine Eq.trans ?_ (State.cancelWaiting_field stands r p s)
  show g ((State.stopQueue _ _).seq.rail[r]) = _
  unfold State.stopQueue
  dsimp only
  split
  · rfl
  · exact State.stopFrom_field stands r _ _ _

/-! ## The sequencer's state (R293) -/

/-- What the sequencer's settling may change where no reset is pending. -/
def Part.settled : List Part := [.seq .st, .seq .resets, .seq .upSince, .seq .latchAfter, .seq .onAfter, .seq .sysOn, .seq .order]

theorem State.seqSettle_moves {s : State} (calm : s.seq.resetAfter = false) : Moves Part.settled s s.seqSettle := by
  have refresh (t : State) : Moves Part.settled t t.seqRefresh := .of_kept (t.seqRefresh_keeps.weaken (by exact .check rfl)) rfl
  unfold State.seqSettle
  split
  · exact refresh s
  · split
    · have latched : KeepsBut Part.settled s { s with seq.latchAfter := false, seq.st := .latched, seq.onAfter := false } :=
        KeepsBut.weaken (l := [.seq .latchAfter, .seq .st, .seq .onAfter]) (KeepsBut.write_seq (l := [.seq .latchAfter, .seq .st, .seq .onAfter])
            fun f hf _ _ => by
            cases f with
            | latchAfter | st | onAfter => simp at hf  | railAll => trivial | _ => exact rfl) (by exact .check rfl)
      exact ((Moves.of_kept latched rfl).trans (State.raise_moves _ _ _ _ _)).trans (refresh _)
    · rw [if_neg (by rw [calm]; exact Bool.false_ne_true)]
      split
      · have up : KeepsBut Part.settled s { s with seq.onAfter := false, seq.sysOn := true, seq.order := [] } :=
          KeepsBut.weaken (l := [.seq .onAfter, .seq .sysOn, .seq .order]) (KeepsBut.write_seq (l := [.seq .onAfter, .seq .sysOn, .seq .order])
              fun f hf _ _ => by
              cases f with
              | onAfter | sysOn | order => simp at hf  | railAll => trivial | _ => exact rfl) (by exact .check rfl)
        exact (Moves.of_kept up rfl).trans (refresh _)
      · exact refresh s

theorem State.seqSettle_busy {s : State} (busy : s.pathsDone = false) : s.seqSettle = s.seqRefresh :=
  if_pos (by rw [busy]; exact Bool.false_ne_true)

theorem State.seqSettle_shelf {s : State} (calm : s.seq.resetAfter = false) : s.seqSettle.shelf = s.shelf ∧ s.seqSettle.meas = s.meas := by
  unfold State.seqSettle
  rw [calm]
  simp only [Bool.false_eq_true, if_false]
  (repeat' split) <;> simp

theorem State.pathsDone_stopping {r : Fin 32} {s : State} (stops : s.seq.rail[r].st = .stopping) : s.pathsDone = false := by
  unfold State.pathsDone
  have not_all : ((List.finRange 32).all fun r => decide (s.seq.rail[r].st ≠ .stopping)) = false :=
    List.all_eq_false.2 ⟨r, List.mem_finRange r, by
      simp only [ne_eq, decide_eq_true_eq, not_not]
      exact stops⟩
  rw [not_all]
  simp

theorem State.commanded_congr {s t : State} (h : KeepsBut [.seq .railAll] s t) {r : Fin 32} (cmd : (t.seq.rail[r]).cmd = (s.seq.rail[r]).cmd) :
    t.commanded r = s.commanded r := by
  have raw : t.raw = s.raw := h.raw (fun _ => rfl) (fun _ => rfl) rfl rfl
  have sysOn : t.seq.sysOn = s.seq.sysOn := h.get (.seq .sysOn) rfl
  have down : t.seq.groupsDown = s.seq.groupsDown := h.get (.seq .groupsDown) rfl
  have st : t.seq.st = s.seq.st := h.get (.seq .st) rfl
  have latch : t.seq.latchAfter = s.seq.latchAfter := h.get (.seq .latchAfter) rfl
  have reset : t.seq.resetAfter = s.seq.resetAfter := h.get (.seq .resetAfter) rfl
  unfold State.commanded State.groupDown State.groupOf
  rw [raw, sysOn, down, st, latch, reset, cmd]

/-! ## Input loss (R286) -/

/-- A rail of the mask, commanded, marked to go off. -/
def State.lossMark (m : Nat) (r : Fin 32) (s : State) : State :=
  if bit m r ∧ s.cfg.railKind r ≠ 0 ∧ s.commanded r then s.modRail r fun x => { x with inputLossOff := true } else s

/-- Every rail of the mask marked. -/
def State.lossMarked (s : State) : State :=
  State.each (List.finRange 32) (State.lossMark ((s.disarm .inputLoss).raw 0x2A00 5)) (s.disarm .inputLoss)

theorem State.lossMark_keeps (m : Nat) (r : Fin 32) (s : State) : KeepsBut [.seq .railAll] s (s.lossMark m r) :=
  .ite _ ((State.modRail_keeps r _ s).weaken (by apply Part.Within.checkAt r; rfl)) (.refl _ s)

theorem State.lossMarked_keeps (s : State) : KeepsBut [.timer .inputLoss, .seq .railAll] s s.lossMarked :=
  (s.disarm_keeps _).append (.each (State.lossMark_keeps _) (List.finRange 32) _)

theorem State.lossMark_cmd (m : Nat) (r k : Fin 32) (s : State) : ((s.lossMark m k).seq.rail[r]).cmd = (s.seq.rail[r]).cmd := by
  unfold State.lossMark
  split
  · exact State.modRail_field (g := Rail.cmd) (f := fun x => { x with inputLossOff := true }) (fun _ => rfl) r k s
  · rfl

theorem State.lossMarked_off {r : Fin 32} {s : State} (named : bit (s.raw 0x2A00 5) r = true) (kind : s.cfg.railKind r ≠ 0) (on : s.commanded r = true) :
    (s.lossMarked.seq.rail[r]).inputLossOff = true := by
  unfold State.lossMarked
  rw [s.disarm_raw]
  generalize hm : s.raw 0x2A00 5 = m at named
  have on' : (s.disarm .inputLoss).commanded r = true := on
  have kind' : (s.disarm .inputLoss).cfg.railKind r ≠ 0 := kind
  generalize s.disarm .inputLoss = a at on' kind'
  refine State.each_reaches (I := fun t => KeepsBut [.seq .railAll] a t ∧ (t.seq.rail[r]).cmd = (a.seq.rail[r]).cmd)
    (P := fun t => (t.seq.rail[r]).inputLossOff = true) (a := r)
    (fun k t ht => ⟨ht.1.trans (t.lossMark_keeps m k), (t.lossMark_cmd m r k).trans ht.2⟩) (fun t ht => ?_) (fun k t _ off => ?_)
    (List.mem_finRange r) ⟨.refl _ a, rfl⟩
  · have same : t.cfg = a.cfg := ht.1.raw (fun _ => rfl) (fun _ => rfl) rfl rfl
    have mark : t.lossMark m r = t.modRail r fun x => { x with inputLossOff := true } :=
      if_pos ⟨named, by rw [same]; exact kind', (State.commanded_congr ht.1 ht.2).trans on'⟩
    rw [mark]
    exact congrArg Rail.inputLossOff (vector_set_eq _ _ _)
  · unfold State.lossMark
    split
    · by_cases same : r = k
      · rw [same]
        exact congrArg Rail.inputLossOff (vector_set_eq _ _ _)
      · exact (congrArg Rail.inputLossOff (vector_set_getElem_ne same)).trans off
    · exact off

theorem State.stopFrom_shelf (why : StopWhy) (q : List (Fin 32)) (s : State) : (s.stopFrom why q).shelf = s.shelf ∧ (s.stopFrom why q).meas = s.meas := by
  induction q generalizing s with
  | nil => exact ⟨rfl, rfl⟩
  | cons r q ih =>
    unfold State.stopFrom
    split
    · exact ih s
    · dsimp only
      split <;> simp

theorem State.shutdown_shelf (p : Fin 32 → Bool) (s : State) : (s.shutdown p).shelf = s.shelf ∧ (s.shutdown p).meas = s.meas := by
  have waiting : (s.cancelWaiting p).shelf = s.shelf ∧ (s.cancelWaiting p).meas = s.meas := by simp
  rw [← waiting.1, ← waiting.2]
  show (State.stopQueue _ _).shelf = _ ∧ (State.stopQueue _ _).meas = _
  unfold State.stopQueue
  dsimp only
  split
  · exact ⟨rfl, rfl⟩
  · exact State.stopFrom_shelf _ _ _

theorem State.lossMarked_shelf (s : State) : s.lossMarked.shelf = s.shelf ∧ s.lossMarked.meas = s.meas :=
  State.each_invariant (P := fun t => t.shelf = s.shelf ∧ t.meas = s.meas) (fun k t ht => by
    unfold State.lossMark
    split <;> exact ht) (List.finRange 32) _ ⟨rfl, rfl⟩

theorem State.inputLossDelay_marks : ∀ (r : Fin 32) (s : State),
    s.seqRuns = true →
    s.shelf.holdup = true →
    s.due .inputLoss = true →
    bit (s.raw 0x2A00 5) r = true →
    s.cfg.railKind r ≠ 0 →
    s.commanded r = true →
    s.seq.resetAfter = false →
    Completes .inputLossDelay s fun t => (t.seq.rail[r]).inputLossOff = true ∧ t.shelf = s.shelf ∧ t.meas = s.meas ∧
    KeepsBut (([.seq .railAll, .seq .queue, .seq .stoppingNow, .pins .pg, .loopAll, .pins .syncOut, .phaseAll, .dist .brAll, .dist .feedAll,
        .pins .gateAll,
    .bat .strAll, .dist .strAll, .pins .gpioOut, .pins .gpioDir, .seq .st, .seq .resets, .seq .upSince, .seq .latchAfter, .seq .onAfter,
        .seq .resetAfter,
    .seq .sysOn, .seq .order, .timers] : List Part) ++ Part.raised) s t := fun r s runs holdup due named kind on calm => by
  have run : exec .inputLossDelay s = .next (s.lossMarked.shutdown fun r => bit ((s.disarm .inputLoss).raw 0x2A00 5) r).seqSettle :=
    congrArg Host.Outcome.next (if_pos ⟨runs, holdup, due⟩)
  have marked := s.lossMarked_keeps
  have off := State.lossMarked_off named kind on
  have shelf := s.lossMarked_shelf
  generalize s.lossMarked = a at run marked off shelf
  generalize (fun r : Fin 32 => bit ((s.disarm .inputLoss).raw 0x2A00 5) r) = p at run
  have stops := State.shutdown_stops p a
  have stopsOff := State.shutdown_field Rail.inputLossOff_stands r p a
  have stopsShelf := a.shutdown_shelf p
  generalize a.shutdown p = b at run stops stopsOff stopsShelf
  have calm' : b.seq.resetAfter = false :=
    Eq.trans (stops.get (.seq .resetAfter) rfl) ((marked.get (.seq .resetAfter) rfl : a.seq.resetAfter = s.seq.resetAfter).trans calm)
  have settle := State.seqSettle_moves calm'
  have settleShelf := State.seqSettle_shelf calm'
  refine ⟨_, run, (settle.1.railField Rail.inputLossOff r rfl).trans (stopsOff.trans off), settleShelf.1.trans (stopsShelf.1.trans shelf.1),
    settleShelf.2.trans (stopsShelf.2.trans shelf.2), ((marked.append stops).append settle.1).weaken (by exact .check rfl)⟩

/-! ## Commands -/

theorem State.systemOn_idle {s : State} (off : s.seq.sysOn = false) (free : s.seq.st ≠ .latched) (done : s.pathsDone = true)
    (rest : ((List.finRange 32).all fun r => decide ((s.seq.rail[r]).st ≠ .minOff)) = true) :
    s.systemOn = State.seqRefresh { s with seq.sysOn := true, seq.order := [] } :=
  (if_neg (not_or.2 ⟨by rw [off]; exact Bool.false_ne_true, free⟩)).trans (if_pos ⟨done, rest⟩)

theorem State.systemOnWrite_on : ∀ (w : Session) (d : List Byte) (s : State),
    s.admits w 0x2A00 1 d = true →
    leValue d = 1 →
    s.thm.lockout = false →
    s.rst.protective = false →
    s.seq.sysOn = false →
    s.seq.st ≠ .latched →
    s.pathsDone = true →
    ((List.finRange 32).all (fun r => (s.seq.rail[r]).st ≠ .minOff) = true) →
    Completes (.systemOnWrite w d) s fun t => t.seq.sysOn = true ∧ t.seq.order = [] ∧ Answered w .done t ∧
    KeepsBut [.seq .sysOn, .seq .st, .seq .resets, .seq .order, .seq .upSince, .seq .onAfter, .seq .railAll, .seq .queue, .seq .stoppingNow,
    .seq .latchAfter, .seq .resetAfter, .twin .sent, .net (.sess (sessIx w)),
        .timers] s t := fun w d s a on lockout protective off free done rest => by
  have busy : objSystemOn.busy (s.touch w) d = none := by
    show (if decide (leValue d = 1 ∧ (s.thm.lockout = true ∨ s.rst.protective = true)) = true then _ else _) = _
    rw [lockout, protective]
    simp
  have effect : objSystemOn.effect (some w) d (s.touch w) = State.seqRefresh { s.touch w with seq.sysOn := true, seq.order := [] } :=
    (if_pos on).trans (State.systemOn_idle off free done rest)
  have run : exec (.systemOnWrite w d) s =
      .next (((State.seqRefresh { s.touch w with seq.sysOn := true, seq.order := [] }).forward 0x2A00 1 d).answer w .done) :=
    congrArg Host.Outcome.next ((State.writeBy_done a busy rfl rfl rfl).trans (by rw [effect]; rfl))
  have up : KeepsBut [.seq .sysOn, .seq .order] (s.touch w) { s.touch w with seq.sysOn := true, seq.order := [] } :=
      (KeepsBut.write_seq (l := [.seq .sysOn, .seq .order]) fun f hf _ _ => by
      cases f with
      | sysOn | order => simp at hf  | railAll => trivial | _ => exact rfl)
  have refresh := State.seqRefresh_keeps { s.touch w with seq.sysOn := true, seq.order := [] }
  have told := (State.forward_keeps 0x2A00 1 d (State.seqRefresh { s.touch w with seq.sysOn := true, seq.order := [] })).append (State.answer_keeps w .done _)
  have later := refresh.append told
  exact ⟨_, run, later.get (.seq .sysOn) (by cases w <;> rfl), later.get (.seq .order) (by cases w <;> rfl), State.answer_answered _ _ _,
    (((State.touch_keeps w s).append up).append later).weaken (by cases w <;> exact .check rfl)⟩

/-- System off, before the rails are looked at. -/
def State.systemDown (s : State) : State :=
  { s with seq.sysOn := false, seq.onAfter := false, seq.st := if s.seq.st = .latched then .off else s.seq.st }

/-- A latched rail let go. -/
def State.railUnlatch (r : Fin 32) (s : State) : State := if s.seq.rail[r].st = .latched then s.stopRail r .command else s

theorem State.systemOff_eq (s : State) : s.systemOff = (State.shutdown (fun _ => true) (State.each (List.finRange 32) State.railUnlatch
    (if s.seqState = .poweringUp then s.systemDown.raise 0x090A noInst [] else s.systemDown))).seqSettle := rfl

theorem State.shutdown_idle {s : State} (off : ∀ r : Fin 32, (s.seq.rail[r]).st = .off) (queue : s.seq.queue = []) (stopping : s.seq.stoppingNow = none)
    (p : Fin 32 → Bool) : s.shutdown p = s := by
  have waiting : s.cancelWaiting p = s := State.each_invariant (P := fun t => t = s) (fun r t ht => by
    rw [ht, if_neg (by rw [off r]; exact fun h => h.2.elim nofun fun h => h.elim nofun nofun)]) (List.finRange 32) s rfl
  have none_ : (s.seq.order.reverse.filter fun r =>
      decide (s.seq.queue.contains r = true ∨ (p r = true ∧ railStarted s.seq.rail[r].st = true ∧ s.seq.stoppingNow ≠ some r))) = [] :=
    List.filter_eq_nil_iff.2 fun r _ => by
      rw [queue, off r]
      simp [railStarted]
  show State.stopQueue (_ : List (Fin 32)) (s.cancelWaiting p) = s
  rw [waiting]
  refine (congrArg (fun q => s.stopQueue q) none_).trans ?_
  unfold State.stopQueue
  dsimp only
  rw [stopping]
  simp only [Option.isSome_none, Bool.false_eq_true, if_false]
  show State.stopFrom .shutdown [] _ = s
  unfold State.stopFrom
  rw [← queue, ← stopping]

/-- Switching off a system whose rails are all off. -/
theorem State.systemOff_idle {s : State} (off : ∀ r : Fin 32, (s.seq.rail[r]).st = .off) (queue : s.seq.queue = [])
    (stopping : s.seq.stoppingNow = none) (calm : s.seq.resetAfter = false) (free : s.seq.latchAfter = false) (up : s.seqState ≠ .poweringUp) :
    s.systemOff = s.systemDown.seqRefresh := by
  have down : (∀ r : Fin 32, (s.systemDown.seq.rail[r]).st = .off) := off
  have each : State.each (List.finRange 32) State.railUnlatch s.systemDown = s.systemDown := State.each_invariant (P := fun t => t = s.systemDown) (fun r t ht => by
    rw [ht]
    exact if_neg (by rw [down r]; exact nofun)) (List.finRange 32) _ rfl
  have told : (if s.seqState = .poweringUp then s.systemDown.raise 0x090A noInst [] else s.systemDown) = s.systemDown := if_neg up
  have after : s.systemDown.seqSettle = s.systemDown.seqRefresh := by
    unfold State.seqSettle
    rw [show s.systemDown.seq.latchAfter = false from free, show s.systemDown.seq.resetAfter = false from calm,
      show s.systemDown.seq.onAfter = false from rfl]
    simp only [Bool.false_eq_true, false_and, if_false, ite_self]
  rw [State.systemOff_eq, told, each, State.shutdown_idle down queue stopping, after]

theorem State.seqRefresh_off {s : State} (off : ∀ r : Fin 32, (s.seq.rail[r]).st = .off) (queue : s.seq.queue = [])
    (stopping : s.seq.stoppingNow = none) : s.systemDown.seqRefresh.seq.st = .off := by
  have free : s.systemDown.seq.st ≠ .latched := by
    show (if s.seq.st = .latched then SeqSt.off else s.seq.st) ≠ .latched
    split
    · exact nofun
    next other => exact other
  have rest : s.systemDown.anyOn = false := List.any_eq_false.2 fun r _ => by
    have stays : (s.systemDown.seq.rail[r]).st = .off := off r
    rw [stays]
    exact Bool.false_ne_true
  show s.systemDown.seqState = .off
  unfold State.seqState
  rw [if_neg free, if_neg (by
    rw [rest, show s.systemDown.seq.queue = [] from queue, show s.systemDown.seq.stoppingNow = none from stopping]
    simp), if_pos (show ¬ s.systemDown.seq.sysOn = true from Bool.false_ne_true)]

theorem State.systemOnWrite_off : ∀ (w : Session) (d : List Byte) (s : State),
    s.admits w 0x2A00 1 d = true →
    leValue d = 0 →
    (∀ r : Fin 32, (s.seq.rail[r]).st = .off) →
    s.seq.queue = [] →
    s.seq.stoppingNow = none →
    s.seq.resetAfter = false →
    s.seq.latchAfter = false →
    s.seqState ≠ .poweringUp →
    Completes (.systemOnWrite w d) s fun t => t.seq.sysOn = false ∧ t.seq.st = .off ∧ Answered w .done t ∧
    KeepsBut [.seq .sysOn, .seq .st, .seq .resets, .seq .order, .seq .upSince, .seq .onAfter, .seq .railAll, .seq .queue, .seq .stoppingNow,
    .seq .latchAfter, .seq .resetAfter, .twin .sent, .net (.sess (sessIx w)), .timers] s t := fun w d s a off_ off queue stopping calm free up => by
  have busy : objSystemOn.busy (s.touch w) d = none := by
    show (if decide (leValue d = 1 ∧ (s.thm.lockout = true ∨ s.rst.protective = true)) = true then _ else _) = _
    rw [off_]
    simp
  have effect : objSystemOn.effect (some w) d (s.touch w) = (s.touch w).systemDown.seqRefresh :=
    (if_neg (by rw [off_]; exact nofun)).trans (State.systemOff_idle (s := s.touch w) off queue stopping calm free up)
  have run : exec (.systemOnWrite w d) s = .next (((s.touch w).systemDown.seqRefresh.forward 0x2A00 1 d).answer w .done) :=
    congrArg Host.Outcome.next ((State.writeBy_done a busy rfl rfl rfl).trans (by rw [effect]; rfl))
  have down : KeepsBut [.seq .sysOn, .seq .onAfter, .seq .st] (s.touch w) (s.touch w).systemDown := (KeepsBut.write_seq (l := [.seq .sysOn,
      .seq .onAfter, .seq .st]) fun f hf _ _ => by
      cases f with
      | sysOn | onAfter | st => simp at hf  | railAll => trivial | _ => exact rfl)
  have st := State.seqRefresh_off (s := s.touch w) off queue stopping
  have refresh := State.seqRefresh_keeps (s.touch w).systemDown
  have told := (State.forward_keeps 0x2A00 1 d (s.touch w).systemDown.seqRefresh).append (State.answer_keeps w .done _)
  exact ⟨_, run, (refresh.append told).get (.seq .sysOn) (by cases w <;> rfl), Eq.trans (told.get (.seq .st) (by cases w <;> rfl)) st,
    State.answer_answered _ _ _, (((State.touch_keeps w s).append down).append (refresh.append told)).weaken (by cases w <;> exact .check rfl)⟩

theorem State.railCommandWrite_on : ∀ (w : Session) (r : Fin 32) (d : List Byte) (s : State),
    s.admits w (0x2A10 + r) 0x15 d = true →
    leValue d = 1 →
    s.seq.resetAfter = false →
    s.seqState ≠ .poweringUp →
    Completes (.railCommandWrite w r d) s fun t => t.seq.rail = s.seq.rail.set r { s.seq.rail[r] with cmd := true } ∧ Answered w .done t ∧
    KeepsBut [.seq (.rail r), .timer (.railStart r), .timer (.railPg r), .timer (.railTimeout r), .timer (.railFault r), .timer (.railRetry r),
    .timer (.railDischarge r), .timer (.railGood r), .seq .st, .seq .resets, .seq .upSince, .seq .latchAfter, .seq .onAfter, .seq .resetAfter,
        .seq .sysOn,
    .seq .order, .twin .sent, .net (.sess (sessIx w)), .timer (.sessIdle (sessIx w))] s t := fun w r d s a on _ _ => by
  have effect : (objRailCommand r).effect (some w) d (s.touch w) = (s.touch w).modRail r fun y => { y with cmd := true } := by
    show State.railCommand r (decide (leValue d = 1)) (s.touch w) = _
    rw [on]
    rfl
  have run : exec (.railCommandWrite w r d) s =
      .next ((((s.touch w).modRail r fun y => { y with cmd := true }).forward (0x2A10 + r) 0x15 d).answer w .done) :=
    congrArg Host.Outcome.next ((State.writeBy_done a rfl rfl rfl rfl).trans (by
      rw [effect, if_neg (by have := r.isLt; omega)]))
  have told := (State.forward_keeps (0x2A10 + r) 0x15 d ((s.touch w).modRail r fun y => { y with cmd := true })).append (State.answer_keeps w .done _)
  have rails : ((((s.touch w).modRail r fun y => { y with cmd := true }).forward (0x2A10 + r) 0x15 d).answer w .done).seq.rail =
      ((s.touch w).modRail r fun y => { y with cmd := true }).seq.rail :=
    Vector.ext fun j hj => told.get (.seq (.rail ⟨j, hj⟩)) (by cases w <;> rfl)
  exact ⟨_, run, rails, State.answer_answered _ _ _, (((State.touch_keeps w s).append (State.modRail_keeps r _ _)).append told).weaken (by
    cases w <;> (apply Part.Within.checkAt r; rfl))⟩

/-- The times of the feeds that a stop ends. -/
def Part.feedTimes : List Part := Part.each 2 .feedDead ++ Part.each 2 .feedRevert ++ Part.each 2 .feedSettle

/-- What the stop of a rail's instance may change. -/
def Part.instance_ : List Part := [.loopAll, .pins .syncOut, .phaseAll, .dist .brAll, .dist .feedAll, .pins .gateAll, .dist .strAll, .bat .strAll,
  .pins .gpioDir, .pins .gpioOut]

theorem State.chanStop_instance (r : Fin 32) (s : State) : KeepsBut (Part.instance_ ++ Part.feedTimes) s (s.chanStop r) := by
  unfold State.chanStop
  dsimp only
  split
  · split
    next h =>
      generalize (⟨_, h⟩ : Fin 8) = l
      exact (State.loopHalt_keeps l s).weaken (by apply Part.Within.checkAt l; rfl)
    · exact .refl _ s
  · split
    next h =>
      generalize (⟨_, h⟩ : Fin 16) = k
      exact (State.modBr_keeps k _ s).weaken (by apply Part.Within.checkAt k; rfl)
    · exact .refl _ s
  · split
    next h =>
      generalize (⟨_, h⟩ : Fin 2) = p
      exact ((State.modFeed_keeps p _ s).append (State.feedOff_keeps p _ _)).weaken (by match p with | 0 | 1 => exact .check rfl)
    · exact .refl _ s
  · split
    next h =>
      generalize (⟨_, h⟩ : Fin 4) = n
      have opened := (State.modStr_keeps n (fun x => { x with cmd := false }) s).append (State.strOpen_keeps n .normalSink _)
      exact .ite _ (((opened.append (State.setStr_keeps n _ _)).append (State.modStr_keeps n _ _)).weaken (by apply Part.Within.checkAt n; rfl))
        (opened.weaken (by apply Part.Within.checkAt n; rfl))
    · exact .refl _ s
  · exact (State.driveGpio_keeps _ _ s).weaken (by exact .check rfl)
  · exact .refl _ s

/-- The own times of a rail. -/
def Part.railTimes (r : Fin 32) : List Part := [.timer (.railStart r), .timer (.railPg r), .timer (.railTimeout r), .timer (.railFault r),
  .timer (.railRetry r), .timer (.railDischarge r), .timer (.railGood r)]

/-- What the off path of a started rail may change. -/
def Part.offPath (r : Fin 32) : List Part := Part.railTimes r ++ ([.seq (.rail r), .pins .pg] : List Part) ++ Part.instance_ ++ Part.feedTimes

theorem State.stopRail_path {r : Fin 32} {s : State} (on : railStarted s.seq.rail[r].st = true) (why : StopWhy) :
    KeepsBut (Part.offPath r) s (s.stopRail r why) := by
  have stopped : KeepsBut (Part.railTimes r ++ ([.seq (.rail r), .seq (.rail r), .pins .pg] : List Part)) s (s.railStopped r why) :=
    ((State.railQuiet_keeps r s).append (State.modRail_keeps r _ _)).append (State.dropPg_keeps r _)
  have instance_ := stopped.append (State.chanStop_instance r _)
  rw [State.stopRail_eq, if_pos on]
  exact .ite _ ((instance_.append (State.arm_keeps _ _ _)).weaken (by apply Part.Within.checkAt r; rfl))
    (instance_.weaken (by apply Part.Within.checkAt r; rfl))

theorem State.railCommandWrite_off : ∀ (w : Session) (r : Fin 32) (d : List Byte) (s : State),
    s.admits w (0x2A10 + r) 0x15 d = true →
    leValue d = 0 →
    railStarted (s.seq.rail[r]).st = true →
    s.seq.resetAfter = false →
    s.seqState ≠ .poweringUp →
    Completes (.railCommandWrite w r d) s fun t => (t.seq.rail[r]).cmd = false ∧ (t.seq.rail[r]).st = .stopping ∧ Answered w .done t ∧
    KeepsBut (([.seq (.rail r), .timer (.railStart r), .timer (.railPg r), .timer (.railTimeout r), .timer (.railFault r), .timer (.railRetry r),
    .timer (.railDischarge r), .timer (.railGood r), .pins .pg, .loopAll, .pins .syncOut, .phaseAll, .dist .brAll, .dist .feedAll, .pins .gateAll,
    .bat .strAll, .dist .strAll, .pins .gpioOut, .pins .gpioDir, .seq .st, .seq .resets, .seq .upSince, .seq .latchAfter, .seq .onAfter,
        .seq .resetAfter,
    .seq .sysOn, .seq .order, .twin .sent, .net (.sess (sessIx w)),
    .timer (.sessIdle (sessIx w))] : List Part)
        ++ Part.each 2 .feedDead ++ Part.each 2 .feedRevert ++ Part.each 2 .feedSettle) s t := fun w r d s a off on calm up => by
  have started : railStarted (((s.touch w).modRail r fun y => { y with cmd := false }).seq.rail[r]).st = true := by
    rw [State.modRail_rail]
    exact on
  have rail := State.stopRail_rail started .command
  rw [State.modRail_rail] at rail
  have path := State.stopRail_path started .command
  have busy : State.pathsDone (((s.touch w).modRail r fun y => { y with cmd := false }).stopRail r .command) = false :=
    State.pathsDone_stopping (congrArg Rail.st rail)
  have effect : (objRailCommand r).effect (some w) d (s.touch w) =
      (((s.touch w).modRail r fun y => { y with cmd := false }).stopRail r .command).seqRefresh := by
    show State.railCommand r (decide (leValue d = 1)) (s.touch w) = _
    rw [off, ← State.seqSettle_busy busy]
    exact congrArg (fun b => (State.stopRail r .command b).seqSettle) (if_neg fun h => up h.2.1)
  have run : exec (.railCommandWrite w r d) s = .next (((((s.touch w).modRail r fun y => { y with cmd := false }).stopRail r .command).seqRefresh.forward
      (0x2A10 + r) 0x15 d).answer w .done) :=
    congrArg Host.Outcome.next ((State.writeBy_done a rfl rfl rfl rfl).trans (by
      rw [effect, if_neg (by have := r.isLt; omega)]))
  have told := ((State.seqRefresh_keeps (((s.touch w).modRail r fun y => { y with cmd := false }).stopRail r .command)).append
    (State.forward_keeps (0x2A10 + r) 0x15 d _)).append (State.answer_keeps w .done _)
  have same := (told.get (.seq (.rail r)) (by cases w <;> rfl)).trans rail
  exact ⟨_, run, congrArg Rail.cmd same, congrArg Rail.st same, State.answer_answered _ _ _,
    ((((State.touch_keeps w s).append (State.modRail_keeps r _ _)).append path).append told).weaken (by
      cases w <;> (apply Part.Within.checkAt r; rfl))⟩

/-- A rail of the group counted as shut down no more. -/
def State.groupUnmark (g : Fin 8) (r : Fin 32) (s : State) : State :=
  if s.groupOf r = some g then s.modRail r fun x => { x with groupOff := false } else s

/-- A group commanded on again, before its rails are told. -/
def State.groupRaised (g : Fin 8) (s : State) : State :=
  { s with
    seq.groupCmd := s.seq.groupCmd ||| BitVec.ofNat 8 (2 ^ g.val), seq.groupsDown := s.seq.groupsDown &&& ~~~ BitVec.ofNat 8 (2 ^ g.val) }

theorem State.groupUnmark_keeps (g : Fin 8) (r : Fin 32) (s : State) : KeepsBut [.seq .railAll] s (s.groupUnmark g r) :=
  .ite _ ((State.modRail_keeps r _ s).weaken (by apply Part.Within.checkAt r; rfl)) (.refl _ s)

theorem State.groupOf_congr {s t : State} (h : t.raw = s.raw) : t.groupOf = s.groupOf := by
  funext r
  unfold State.groupOf
  rw [h]

/-- The rails of a group after its command. -/
theorem State.groupUnmark_each {g : Fin 8} {r : Fin 32} {s : State} (mine : s.groupOf r = some g) :
    ((State.each (List.finRange 32) (State.groupUnmark g) s).seq.rail[r]).groupOff = false := by
  refine State.each_reaches (I := fun t => KeepsBut [.seq .railAll] s t) (P := fun t => (t.seq.rail[r]).groupOff = false) (a := r)
    (fun k t ht => ht.trans (t.groupUnmark_keeps g k)) (fun t ht => ?_) (fun k t _ off => ?_) (List.mem_finRange r) (.refl _ s)
  · have same : t.groupOf r = s.groupOf r := congrFun (State.groupOf_congr (ht.raw (fun _ => rfl) (fun _ => rfl) rfl rfl)) r
    have unmark : t.groupUnmark g r = t.modRail r fun x => { x with groupOff := false } := if_pos (same.trans mine)
    rw [unmark, State.modRail_rail]
  · unfold State.groupUnmark
    split
    · by_cases same : r = k
      · rw [same, State.modRail_rail]
      · exact (congrArg Rail.groupOff (vector_set_getElem_ne same)).trans off
    · exact off

theorem State.groupCommandWrite_on : ∀ (w : Session) (g : Fin 8) (d : List Byte) (s : State),
    s.admits w 0x2A01 (g + 1) d = true →
    leValue d = 1 →
    s.seq.groupCmd.getLsbD g = false →
    Completes (.groupCommandWrite w g d) s fun t =>
    t.seq.groupCmd = s.seq.groupCmd ||| BitVec.ofNat 8 (2 ^ g.val) ∧ t.seq.groupsDown = s.seq.groupsDown &&& ~~~ BitVec.ofNat 8 (2 ^ g.val) ∧
    (∀ r : Fin 32, s.groupOf r = some g → (t.seq.rail[r]).groupOff = false) ∧ Answered w .done t ∧
    KeepsBut [.seq .railAll, .seq .groupCmd, .seq .groupsDown, .twin .sent, .net (.sess (sessIx w)),
        .timer (.sessIdle (sessIx w))] s t := fun w g d s a on clear => by
  have effect : (objGroupCommand g).effect (some w) d (s.touch w) = State.each (List.finRange 32) (State.groupUnmark g) ((s.touch w).groupRaised g) := by
    show State.groupCommand g (decide (leValue d = 1)) (s.touch w) = _
    rw [on]
    exact if_neg (show ¬ s.seq.groupCmd.getLsbD g = true by rw [clear]; exact Bool.false_ne_true)
  have run : exec (.groupCommandWrite w g d) s = .next (((State.each (List.finRange 32) (State.groupUnmark g) ((s.touch w).groupRaised g)).forward
      0x2A01 (g + 1) d).answer w .done) :=
    congrArg Host.Outcome.next ((State.writeBy_done a rfl rfl rfl rfl).trans (by rw [effect]; rfl))
  have raised : KeepsBut [.seq .groupCmd, .seq .groupsDown] (s.touch w) ((s.touch w).groupRaised g) := (KeepsBut.write_seq (l := [.seq .groupCmd,
      .seq .groupsDown]) fun f hf _ _ => by
      cases f with
      | groupCmd | groupsDown => simp at hf  | railAll => trivial | _ => exact rfl)
  have rails := KeepsBut.each (State.groupUnmark_keeps g) (List.finRange 32) ((s.touch w).groupRaised g)
  have off (r : Fin 32) (mine : s.groupOf r = some g) := State.groupUnmark_each (s := (s.touch w).groupRaised g) (r := r) mine
  generalize State.each (List.finRange 32) (State.groupUnmark g) ((s.touch w).groupRaised g) = b at run rails off
  have told := (State.forward_keeps 0x2A01 (g + 1) d b).append (State.answer_keeps w .done _)
  have later := rails.append told
  exact ⟨_, run, later.get (.seq .groupCmd) (by cases w <;> rfl), later.get (.seq .groupsDown) (by cases w <;> rfl),
    fun r mine => (told.railField Rail.groupOff r (by cases w <;> rfl)).trans (off r mine), State.answer_answered _ _ _,
    (((State.touch_keeps w s).append raised).append later).weaken (by cases w <;> exact .check rfl)⟩

theorem State.groupCommandWrite_off : ∀ (w : Session) (g : Fin 8) (d : List Byte) (s : State),
    s.admits w 0x2A01 (g + 1) d = true →
    leValue d = 0 →
    Completes (.groupCommandWrite w g d) s fun t =>
    t.seq = { s.seq with groupCmd := s.seq.groupCmd &&& ~~~ BitVec.ofNat 8 (2 ^ g.val) } ∧ Answered w .done t ∧
    KeepsBut [.seq .railAll, .seq .groupCmd, .seq .groupsDown, .twin .sent, .net (.sess (sessIx w)),
        .timer (.sessIdle (sessIx w))] s t := fun w g d s a off => by
  have effect : (objGroupCommand g).effect (some w) d (s.touch w) =
      { s.touch w with seq.groupCmd := s.seq.groupCmd &&& ~~~ BitVec.ofNat 8 (2 ^ g.val) } := by
    show State.groupCommand g (decide (leValue d = 1)) (s.touch w) = _
    rw [off]
    rfl
  have run : exec (.groupCommandWrite w g d) s =
      .next ((State.forward 0x2A01 (g + 1) d { s.touch w with seq.groupCmd := s.seq.groupCmd &&& ~~~ BitVec.ofNat 8 (2 ^ g.val) }).answer w .done) :=
    congrArg Host.Outcome.next ((State.writeBy_done a rfl rfl rfl rfl).trans (by rw [effect]; rfl))
  have cleared : KeepsBut [.seq .groupCmd] (s.touch w) { s.touch w with seq.groupCmd := s.seq.groupCmd &&& ~~~ BitVec.ofNat 8 (2 ^ g.val) } :=
    (KeepsBut.write_seq (l := [.seq .groupCmd]) fun f hf _ _ => by cases f with | groupCmd => simp at hf  | railAll => trivial | _ => exact rfl)
  have seq (t : State) : ((t.forward 0x2A01 (g + 1) d).answer w .done).seq = t.seq := by
    unfold State.forward
    split <;> rfl
  refine ⟨_, run, seq _, State.answer_answered _ _ _, ?_⟩
  exact ((((State.touch_keeps w s).append cleared).append (State.forward_keeps 0x2A01 (g + 1) d _)).append (State.answer_keeps w .done _)).weaken
    (by cases w <;> exact .check rfl)

/-- Settles O20: input loss and the commands of system, rails and groups, clause by clause. -/
theorem systemRailAndGroupCommandsAct : Obligations.SystemRailAndGroupCommandsAct := by
  unfold Obligations.SystemRailAndGroupCommandsAct
  exact ⟨State.inputLossDelay_marks, State.systemOnWrite_on, State.systemOnWrite_off, State.railCommandWrite_on, State.railCommandWrite_off,
    State.groupCommandWrite_on, State.groupCommandWrite_off⟩

end Sys2Proof.Machine
end

section
/-! PROOFS. Rails (R272 to R283). -/

namespace Sys2Proof.Machine

theorem State.holdRail_keeps (r : Fin 32) (s : State) :
    KeepsBut [.timer (.railStart ↑r), .timer (.railPg ↑r), .timer (.railTimeout ↑r), .timer (.railFault ↑r), .timer (.railRetry ↑r),
        .timer (.railDischarge ↑r), .timer (.railGood ↑r), .seq (.rail r), .pins .pg] s (State.holdRail r s) := by
  unfold State.holdRail
  exact KeepsBut.weaken (KeepsBut.after (State.dropPg_keeps _ _)
      (KeepsBut.after (State.railTo_keeps _ _ _) (State.railQuiet_keeps _ _))) (by apply Part.Within.checkAt r; rfl)

theorem State.enterPgDelay_keeps (r : Fin 32) (s : State) :
    KeepsBut [.seq (.rail r), .timer (.railFault ↑r), .timer (.railPg ↑r)] s (State.enterPgDelay r s) := by
  unfold State.enterPgDelay
  exact KeepsBut.weaken (KeepsBut.after (State.arm_keeps _ _ _)
      (KeepsBut.after (State.disarm_keeps _ _) (State.railTo_keeps _ _ _))) (by apply Part.Within.checkAt r; rfl)

theorem State.withhold_keeps (r : Fin 32) (s : State) :
    KeepsBut (([.seq (.rail r), .timer (.railPg ↑r), .timer (.railTimeout ↑r)] : List Part) ++ Part.raised) s (State.withhold r s) := by
  unfold State.withhold
  dsimp only
  exact KeepsBut.weaken (KeepsBut.after (State.armOnce_keeps _ _ _) (KeepsBut.after (State.raise_keepsBut _ _ _ _)
      (KeepsBut.after (State.disarm_keeps _ _) (State.modRail_keeps _ _ _)))) (by apply Part.Within.checkAt r; rfl)

theorem State.leaveWindow_keeps (r : Fin 32) (s : State) :
    KeepsBut (([.seq (.rail r), .pins .pg, .timer (.railFault ↑r), .timer (.railGood ↑r)] : List Part) ++ Part.raised) s (State.leaveWindow r s) := by
  unfold State.leaveWindow
  dsimp only
  refine KeepsBut.viaIf (KeepsBut.weaken
      (KeepsBut.after (State.raise_keepsBut _ _ _ _) (State.dropPg_keeps _ _)) (by apply Part.Within.checkAt r; rfl)) ?_
  exact KeepsBut.viaElse (KeepsBut.weaken (State.arm_keeps _ _ _) (by apply Part.Within.checkAt r; rfl)) (KeepsBut.weaken
      (KeepsBut.after (State.disarm_keeps _ _) (State.railTo_keeps _ _ _)) (by apply Part.Within.checkAt r; rfl))

theorem State.railStartStep_keeps (r : Fin 32) (s : State) :
    KeepsBut [.seq (.rail r), .timer (.railStart ↑r)] s (State.railStartStep r s) := by
  unfold State.railStartStep
  dsimp only
  refine KeepsBut.ite _ (KeepsBut.refl _ _) ?_
  split
  · refine KeepsBut.viaIf (KeepsBut.weaken
      (KeepsBut.after (State.arm_keeps _ _ _) (State.railTo_keeps _ _ _)) (by apply Part.Within.checkAt r; rfl)) ?_
    exact KeepsBut.ite _ (KeepsBut.weaken (State.railTo_keeps _ _ _) (by apply Part.Within.checkAt r; rfl)) (KeepsBut.refl _ _)
  · refine KeepsBut.viaElse (KeepsBut.weaken
      (KeepsBut.after (State.disarm_keeps _ _) (State.railTo_keeps _ _ _)) (by apply Part.Within.checkAt r; rfl)) ?_
    exact KeepsBut.ite _ (KeepsBut.weaken (State.railTo_keeps _ _ _) (by apply Part.Within.checkAt r; rfl)) (KeepsBut.refl _ _)
  · exact KeepsBut.ite _ (KeepsBut.weaken (State.railTo_keeps _ _ _) (by apply Part.Within.checkAt r; rfl)) (KeepsBut.refl _ _)

theorem State.unholdRail_keeps (r : Fin 32) (s : State) :
    KeepsBut (([.seq (.rail r), .seq .order, .loopAll, .phaseAll, .laneAll, .dist .brAll, .dist .feedAll, .timers, .pins .gateAll, .bat .strAll,
        .dist .strAll, .pins .gpioDir, .pins .gpioOut] : List Part) ++ Part.raised) s (State.unholdRail r s) := by
  unfold State.unholdRail
  exact KeepsBut.ite _ (KeepsBut.weaken (State.startRail_keeps _ _) (by apply Part.Within.checkAt r; rfl)) (KeepsBut.weaken
      (KeepsBut.after (State.arm_keeps _ _ _) (State.railTo_keeps _ _ _)) (by apply Part.Within.checkAt r; rfl))

theorem KeepsBut.otherRail {l : List Part} {k r : Fin 32} {s t : State} (h : KeepsBut (.seq (.rail k) :: l) s t)
    (out : Part.outside l (.seq (.rail r)) = true) (other : r ≠ k) : t.seq.rail[r] = s.seq.rail[r] := by
  simp only [Part.outside, Bool.and_eq_true, Bool.not_eq_true', List.contains_eq_mem, decide_eq_false_iff_not] at out
  obtain ⟨this, all⟩ := out
  refine h (.seq (.rail r)) (fun hp => ?_) (fun hp => ?_)
  · obtain same | hp := List.mem_cons.1 hp
    · exact other (by injection same with same; injection same)
    · exact this hp
  · obtain same | hp := List.mem_cons.1 hp
    · exact absurd same (by simp [Part.whole, SeqPart.whole])
    · exact all hp

/-! ## The evaluation of the rails (R272 to R277) -/

/-- What the evaluation of one rail may change. -/
def Part.evaluation : List Part := [.seq .order, .loopAll, .phaseAll, .laneAll, .dist .brAll, .dist .feedAll, .timers, .pins .gateAll, .bat .strAll,
  .dist .strAll, .pins .gpioDir, .pins .gpioOut, .pins .pg]

theorem State.feedSettle_keeps (p : Fin 2) (s : State) : KeepsBut Part.evaluation s (s.feedSettle p) := by
  have timed : KeepsBut Part.evaluation s (match s.feedVds p with
      | some v => s.armWhile (v ≤ 1 ∧ s.feedVdsReady p) (.feedSettle p) 10000000
      | none => s) := by
    split
    · exact (State.armWhile_keeps _ _ _ s).weaken (by exact .check rfl)
    · exact .refl _ s
  refine .ite _ (.refl _ s) (.ite _ (timed.trans ?_) timed)
  exact (((State.disarm_keeps _ _).append (State.modFeed_keeps p _ _)).append (State.feedWatch_keeps p _)).weaken (by apply Part.Within.checkAt p; rfl)

/-- The evaluation of one rail, beside the mark of its window. -/
theorem State.railWindowStep_keeps (r : Fin 32) (s : State) :
    KeepsBut (.seq (.rail r) :: (Part.evaluation ++ Part.raised)) s (s.railWindowStep r) := by
  unfold State.railWindowStep
  dsimp only
  generalize s.railWindow r (decide (s.seq.rail[r].st = .starting)) = w
  have marked : KeepsBut (.seq (.rail r) :: (Part.evaluation ++ Part.raised)) s (s.modRail r fun y => { y with inWindow := w }) :=
    (State.modRail_keeps r _ s).weaken (by apply Part.Within.checkAt r; rfl)
  generalize s.modRail r (fun y => { y with inWindow := w }) = a at marked
  have held : KeepsBut (.seq (.rail r) :: (Part.evaluation ++ Part.raised)) a (a.holdRail r) :=
    (State.holdRail_keeps r a).weaken (by apply Part.Within.checkAt r; rfl)
  have delayed : KeepsBut (.seq (.rail r) :: (Part.evaluation ++ Part.raised)) a (a.enterPgDelay r) :=
    (State.enterPgDelay_keeps r a).weaken (by apply Part.Within.checkAt r; rfl)
  have withheld : KeepsBut (.seq (.rail r) :: (Part.evaluation ++ Part.raised)) a (a.withhold r) :=
    (State.withhold_keeps r a).weaken (by apply Part.Within.checkAt r; rfl)
  have left_ : KeepsBut (.seq (.rail r) :: (Part.evaluation ++ Part.raised)) a (a.leaveWindow r) :=
    (State.leaveWindow_keeps r a).weaken (by apply Part.Within.checkAt r; rfl)
  have released : KeepsBut (.seq (.rail r) :: (Part.evaluation ++ Part.raised)) a (a.unholdRail r) :=
    (State.unholdRail_keeps r a).weaken (by apply Part.Within.checkAt r; rfl)
  have good : KeepsBut (.seq (.rail r) :: (Part.evaluation ++ Part.raised)) a
      (((a.modRail r fun y => { y with st := .good, tGood := a.tb.tod }).disarm (.railFault r)).arm (.railGood r) 60000000000) :=
    (((State.modRail_keeps r _ a).append (State.disarm_keeps _ _)).append (State.arm_keeps _ _ _)).weaken (by apply Part.Within.checkAt r; rfl)
  refine .ite _ (marked.trans held) ?_
  split
  · exact .ite _ (marked.trans delayed) marked
  · exact .ite _ (marked.trans delayed) marked
  · exact .ite _ marked (marked.trans withheld)
  · exact .ite _ marked (marked.trans left_)
  · exact .ite _ marked (.ite _ (marked.trans good) (marked.trans delayed))
  · exact .ite _ marked (marked.trans released)
  · exact marked

/-- A rail in OFF is only marked. -/
theorem State.railWindowStep_off {r : Fin 32} {s : State} (off : (s.seq.rail[r]).st = .off) :
    s.railWindowStep r = s.modRail r fun y => { y with inWindow := s.railWindow r false } := by
  unfold State.railWindowStep
  dsimp only
  rw [off]
  exact if_neg fun h => Bool.false_ne_true h.1

/-- The fields of a rail that its commands are judged by. -/
def Rail.Asked (x y : Rail) : Prop := y.cmd = x.cmd ∧ y.shed = x.shed ∧ y.inputLossOff = x.inputLossOff

theorem State.wanted_stays {r : Fin 32} {s t : State} (h : KeepsBut (.seq .railAll :: (Part.evaluation ++ Part.raised)) s t)
    (rail : Rail.Asked s.seq.rail[r] t.seq.rail[r]) : t.wanted r = s.wanted r := by
  obtain ⟨cmd, shed, loss⟩ := rail
  have raw : t.raw = s.raw := h.raw (fun _ => rfl) (fun _ => rfl) rfl rfl
  have sysOn : t.seq.sysOn = s.seq.sysOn := h.get (.seq .sysOn) rfl
  have down : t.seq.groupsDown = s.seq.groupsDown := h.get (.seq .groupsDown) rfl
  have st : t.seq.st = s.seq.st := h.get (.seq .st) rfl
  have latch : t.seq.latchAfter = s.seq.latchAfter := h.get (.seq .latchAfter) rfl
  have reset : t.seq.resetAfter = s.seq.resetAfter := h.get (.seq .resetAfter) rfl
  unfold State.wanted State.commanded State.groupDown State.groupOf
  rw [raw, sysOn, down, st, latch, reset, cmd, shed, loss]

/-- Every part of a rail's evaluation lies in that of all rails. -/
theorem Part.evaluation_within (r : Fin 32) :
    Part.Within (.seq (.rail r) :: (Part.evaluation ++ Part.raised)) (.seq .railAll :: (Part.evaluation ++ Part.raised)) := by
  apply Part.Within.checkAt r
  rfl

/-- The windows of all rails, after the feeds. -/
def State.windowsTaken (s : State) : State := State.each (List.finRange 32) State.railWindowStep (State.each (List.finRange 2) State.feedSettle s)

theorem State.windowsTaken_off {r : Fin 32} {s : State} (off : (s.seq.rail[r]).st = .off) :
    KeepsBut (.seq .railAll :: (Part.evaluation ++ Part.raised)) s s.windowsTaken ∧ Rail.Asked s.seq.rail[r] s.windowsTaken.seq.rail[r] ∧
      (s.windowsTaken.seq.rail[r]).st = .off := by
  have feeds : KeepsBut (.seq .railAll :: (Part.evaluation ++ Part.raised)) s (State.each (List.finRange 2) State.feedSettle s) :=
    (KeepsBut.each State.feedSettle_keeps _ s).weaken (by exact .check rfl)
  have rail := (KeepsBut.each State.feedSettle_keeps (List.finRange 2) s).railField id r rfl
  dsimp only [id] at rail
  unfold State.windowsTaken
  generalize State.each (List.finRange 2) State.feedSettle s = a at feeds rail
  refine State.each_invariant (P := fun t => KeepsBut (.seq .railAll :: (Part.evaluation ++ Part.raised)) s t ∧
    Rail.Asked s.seq.rail[r] t.seq.rail[r] ∧ (t.seq.rail[r]).st = .off) (fun k t ht => ?_) (List.finRange 32) a
    ⟨feeds, by rw [rail]; exact ⟨rfl, rfl, rfl⟩, by rw [rail]; exact off⟩
  obtain ⟨kept, asked, stays⟩ := ht
  refine ⟨kept.trans ((t.railWindowStep_keeps k).weaken (Part.evaluation_within k)), ?_⟩
  by_cases same : r = k
  · rw [← same, State.railWindowStep_off stays, State.modRail_rail]
    exact ⟨asked, stays⟩
  · rw [(t.railWindowStep_keeps k).otherRail rfl same]
    exact ⟨asked, stays⟩

/-- A rail that waits to start. -/
def railWaits (x : RailSt) : Prop := x = .waitDeps ∨ x = .startDelay

/-- The step of a rail that has been asked for, from its dependencies on. -/
def State.railDeps (r : Fin 32) (s : State) : State :=
  match s.seq.rail[r].st with
  | .waitDeps => if s.depsOk r then (s.railTo r .startDelay).arm (.railStart r) (s.ns (0x2A10 + r) 4) else s
  | .startDelay => if s.depsOk r then s else (s.railTo r .waitDeps).disarm (.railStart r)
  | _ => s

theorem State.railStartStep_eq (r : Fin 32) (s : State) : s.railStartStep r = if s.cfg.railKind r = 0 then s
    else (if s.seq.rail[r].st = .off ∧ s.wanted r then s.railTo r .waitDeps else s).railDeps r := rfl

theorem State.railTo_rail (r : Fin 32) (x : RailSt) (s : State) : (s.railTo r x).seq.rail[r] = { s.seq.rail[r] with st := x } := State.modRail_rail r _ s

theorem State.railDeps_rail (r : Fin 32) (s : State) : ∃ x, (s.railDeps r).seq.rail[r] = { s.seq.rail[r] with st := x } ∧
    (railWaits (s.seq.rail[r]).st → railWaits x) := by
  unfold State.railDeps
  split
  next waits =>
    split
    · exact ⟨.startDelay, State.railTo_rail r _ s, fun _ => .inr rfl⟩
    · exact ⟨_, rfl, id⟩
  next delays =>
    split
    · exact ⟨_, rfl, id⟩
    · exact ⟨.waitDeps, State.railTo_rail r _ s, fun _ => .inl rfl⟩
  · exact ⟨_, rfl, id⟩

/-- A rail's start step changes its state alone; one that is wanted waits from then on. -/
theorem State.railStartStep_rail (r : Fin 32) (s : State) : ∃ x, (s.railStartStep r).seq.rail[r] = { s.seq.rail[r] with st := x } ∧
    (s.cfg.railKind r ≠ 0 → s.wanted r = true → (s.seq.rail[r]).st = .off ∨ railWaits (s.seq.rail[r]).st → railWaits x) := by
  rw [State.railStartStep_eq]
  split
  next none_ => exact ⟨_, rfl, fun kind => absurd none_ kind⟩
  · split
    · obtain ⟨x, rail, waits⟩ := State.railDeps_rail r (s.railTo r .waitDeps)
      rw [State.railTo_rail] at rail waits
      exact ⟨x, rail, fun _ _ _ => waits (.inl rfl)⟩
    next not_ =>
      obtain ⟨x, rail, waits⟩ := State.railDeps_rail r s
      exact ⟨x, rail, fun _ wanted st => waits (st.resolve_left fun off => not_ ⟨off, wanted⟩)⟩

theorem State.railStartStep_evaluation (k : Fin 32) (s : State) : KeepsBut (.seq (.rail k) :: (Part.evaluation ++ Part.raised)) s (s.railStartStep k) :=
  (State.railStartStep_keeps k s).weaken (by apply Part.Within.checkAt k; rfl)

/-- A wanted rail in OFF waits after the start steps. -/
theorem State.startsTaken {r : Fin 32} {s a : State} (kept : KeepsBut (.seq .railAll :: (Part.evaluation ++ Part.raised)) s a)
    (asked : Rail.Asked s.seq.rail[r] a.seq.rail[r]) (off : (a.seq.rail[r]).st = .off) (kind : s.cfg.railKind r ≠ 0) (wanted : s.wanted r = true) :
    railWaits ((State.each (List.finRange 32) State.railStartStep a).seq.rail[r]).st := by
  have own {t : State} (ht : KeepsBut (.seq .railAll :: (Part.evaluation ++ Part.raised)) s t ∧ Rail.Asked s.seq.rail[r] t.seq.rail[r] ∧
      ((t.seq.rail[r]).st = .off ∨ railWaits (t.seq.rail[r]).st)) :
      Rail.Asked s.seq.rail[r] (t.railStartStep r).seq.rail[r] ∧ railWaits ((t.railStartStep r).seq.rail[r]).st := by
    obtain ⟨kept, asked, st⟩ := ht
    have cfg : t.cfg = s.cfg := kept.raw (fun _ => rfl) (fun _ => rfl) rfl rfl
    obtain ⟨x, rail, waits⟩ := State.railStartStep_rail r t
    rw [rail]
    exact ⟨asked, waits (by rw [cfg]; exact kind) ((State.wanted_stays kept asked).trans wanted) st⟩
  have within (k : Fin 32) (t : State) : KeepsBut (.seq .railAll :: (Part.evaluation ++ Part.raised)) t (t.railStartStep k) :=
    (t.railStartStep_evaluation k).weaken (Part.evaluation_within k)
  refine State.each_reaches (I := fun t => KeepsBut (.seq .railAll :: (Part.evaluation ++ Part.raised)) s t ∧ Rail.Asked s.seq.rail[r] t.seq.rail[r] ∧
      ((t.seq.rail[r]).st = .off ∨ railWaits (t.seq.rail[r]).st)) (P := fun t => railWaits (t.seq.rail[r]).st) (a := r) (fun k t ht => ?_)
    (fun t ht => (own ht).2) (fun k t ht waits => ?_) (List.mem_finRange r) ⟨kept, asked, .inl off⟩
  · refine ⟨ht.1.trans (within k t), ?_⟩
    by_cases same : r = k
    · rw [← same]
      exact ⟨(own ht).1, .inr (own ht).2⟩
    · rw [(t.railStartStep_evaluation k).otherRail rfl same]
      exact ht.2
  · by_cases same : r = k
    · rw [← same]
      exact (own ht).2
    · rw [(t.railStartStep_evaluation k).otherRail rfl same]
      exact waits

theorem State.railEvaluation_waits : ∀ (r : Fin 32) (s : State),
    s.seqRuns = true →
    s.cfg.railKind r ≠ 0 →
    (s.seq.rail[r]).st = .off →
    s.wanted r = true →
    s.seq.resetAfter = false →
    Completes .railEvaluation s fun t =>
    ((t.seq.rail[r]).st = .waitDeps ∨ (t.seq.rail[r]).st = .startDelay) ∧
    KeepsBut (([.seq .railAll, .pins .pg, .seq .order, .loopAll, .phaseAll, .laneAll, .dist .brAll, .dist .feedAll, .pins .gateAll, .bat .strAll,
    .dist .strAll, .pins .gpioOut, .pins .gpioDir, .seq .st, .seq .resets, .seq .upSince, .seq .latchAfter, .seq .onAfter, .seq .resetAfter,
        .seq .sysOn,
    .timers] : List Part) ++ Part.raised) s t := fun r s runs kind off wanted calm => by
  have run : exec .railEvaluation s = .next (State.each (List.finRange 32) State.railStartStep s.windowsTaken).drivePg.seqSettle :=
    congrArg Host.Outcome.next (if_pos runs)
  obtain ⟨kept, asked, off'⟩ := State.windowsTaken_off off
  have waits := State.startsTaken kept asked off' kind wanted
  have started := kept.trans (KeepsBut.each (fun k t => (State.railStartStep_evaluation k t).weaken (Part.evaluation_within k)) (List.finRange 32)
    s.windowsTaken)
  generalize State.each (List.finRange 32) State.railStartStep s.windowsTaken = b at run waits started
  have pins := b.drivePg_keeps
  have calm' : b.drivePg.seq.resetAfter = false :=
    Eq.trans (pins.get (.seq .resetAfter) rfl) ((started.get (.seq .resetAfter) rfl : b.seq.resetAfter = s.seq.resetAfter).trans calm)
  have settle := (State.seqSettle_moves calm').1
  have st : ((b.drivePg.seqSettle).seq.rail[r]).st = (b.seq.rail[r]).st :=
    (settle.railField Rail.st r rfl).trans (pins.railField Rail.st r rfl)
  refine ⟨_, run, ?_, ((started.append pins).append settle).weaken (by exact .check rfl)⟩
  rw [st]
  exact waits

/-! ## The start of a rail (R274) -/

/-- What the start of a rail's instance may change. -/
def Part.begins : List Part := [.loopAll, .phaseAll, .laneAll, .dist .brAll, .dist .feedAll, .pins .gateAll, .bat .strAll, .dist .strAll,
    .pins .gpioDir,
  .pins .gpioOut] ++ Part.each 2 .feedDead ++ Part.each 2 .feedSettle ++ Part.raised

theorem State.feedStart_begins (p : Fin 2) (s : State) : KeepsBut Part.begins s (s.feedStart p) := by
  have source (b : Bool) : KeepsBut Part.begins s (s.feedSource p b) :=
    (State.feedSource_keeps p b s).weaken (by cases b <;> (match p with | 0 | 1 => exact .check rfl))
  have waits : KeepsBut Part.begins s ((s.modFeed p fun f => { f with phase := .waiting, sel := none, next := none }).raise 0x070B p []) :=
    ((State.modFeed_keeps p _ s).append (State.raise_keepsBut _ _ _ _)).weaken (by apply Part.Within.checkAt p; rfl)
  exact .ite _ (.ite _ (source _) (.ite _ (source _) waits)) (.ite _ ((State.modFeed_keeps p _ s).weaken (by apply Part.Within.checkAt p; rfl)) (.refl _ s))

theorem State.chanStart_begins (r : Fin 32) (s : State) : KeepsBut Part.begins s (s.chanStart r) := by
  unfold State.chanStart
  dsimp only
  split
  · split
    next h =>
      generalize (⟨_, h⟩ : Fin 8) = l
      exact .ite _ (.refl _ s) ((State.loopStart_keeps l s).weaken (by apply Part.Within.checkAt l; rfl))
    · exact .refl _ s
  · split
    next h =>
      generalize (⟨_, h⟩ : Fin 16) = k
      exact (State.modBr_keeps k _ s).weaken (by apply Part.Within.checkAt k; rfl)
    · exact .refl _ s
  · split
    next h =>
      generalize (⟨_, h⟩ : Fin 2) = p
      exact KeepsBut.trans ((State.modFeed_keeps p _ s).weaken (by apply Part.Within.checkAt p; rfl)) (State.feedStart_begins p _)
    · exact .refl _ s
  · split
    next h =>
      generalize (⟨_, h⟩ : Fin 4) = n
      exact ((State.modStr_keeps n _ s).append (State.strConnect_keeps n _)).weaken (by apply Part.Within.checkAt n; rfl)
    · exact .refl _ s
  · exact (State.driveGpio_keeps _ _ s).weaken (by exact .check rfl)
  · exact .refl _ s

theorem State.startRail_begins (r : Fin 32) (s : State) :
    KeepsBut (([.seq (.rail r), .seq .order, .timer (.railTimeout r)] : List Part) ++ Part.begins) s (s.startRail r) := by
  have begun := (State.railOrdered_keeps r s).append (State.chanStart_begins r _)
  rw [State.startRail_eq]
  exact .ite _ ((begun.append (State.railTo_keeps r _ _)).weaken (by apply Part.Within.checkAt r; rfl))
    (((begun.append (State.railTo_keeps r _ _)).append (State.arm_keeps _ _ _)).weaken (by apply Part.Within.checkAt r; rfl))

/-- A rail that is started stands in the start order, starting or held off. -/
theorem State.startRail_starts (r : Fin 32) (s : State) :
    (((s.startRail r).seq.rail[r]).st = .starting ∨ ((s.startRail r).seq.rail[r]).st = .heldOff) ∧ r ∈ (s.startRail r).seq.order := by
  have order : r ∈ ((s.railOrdered r).chanStart r).seq.order := by
    rw [show ((s.railOrdered r).chanStart r).seq.order = (s.railOrdered r).seq.order from (State.chanStart_begins r _).get (.seq .order) rfl]
    show r ∈ if s.seq.order.contains r then s.seq.order else s.seq.order ++ [r]
    split
    next has => exact List.contains_iff_mem.1 has
    · exact List.mem_append_right _ (List.mem_singleton.2 rfl)
  rw [State.startRail_eq]
  split
  · exact ⟨.inr (congrArg Rail.st (State.railTo_rail r _ _)), order⟩
  · exact ⟨.inl (congrArg Rail.st (State.railTo_rail r _ _)), order⟩

theorem State.startDelayEnd_starts : ∀ (r : Fin 32) (s : State),
    s.seqRuns = true →
    (s.seq.rail[r]).st = .startDelay →
    s.due (.railStart r) = true →
    s.depsOk r = true →
    Completes (.startDelayEnd r) s fun t =>
    ((t.seq.rail[r]).st = .starting ∨ (t.seq.rail[r]).st = .heldOff) ∧ r ∈ t.seq.order ∧
    KeepsBut (([.timer (.railStart r), .seq (.rail r), .seq .order, .loopAll, .phaseAll, .laneAll, .dist .brAll, .dist .feedAll, .pins .gateAll,
        .bat .strAll,
    .dist .strAll, .pins .gpioOut, .pins .gpioDir, .timer (.railTimeout r), .seq .st, .seq .resets,
    .seq .upSince] : List Part) ++ Part.each 2 .feedDead ++ Part.each 2 .feedSettle ++ Part.raised) s t := fun r s runs delays due deps => by
  have run : exec (.startDelayEnd r) s = .next ((s.disarm (.railStart r)).startRail r).seqRefresh :=
    congrArg Host.Outcome.next (if_pos ⟨runs, delays, due, deps⟩)
  obtain ⟨st, order⟩ := State.startRail_starts r (s.disarm (.railStart r))
  have kept := (s.disarm_keeps (.railStart r)).append (State.startRail_begins r _)
  generalize (s.disarm (.railStart r)).startRail r = a at run st order kept
  have refresh := a.seqRefresh_keeps
  have same := refresh.railField Rail.st r rfl
  refine ⟨_, run, ?_, ?_, (kept.append refresh).weaken (by apply Part.Within.checkAt r; rfl)⟩
  · rw [same]
    exact st
  · rw [show a.seqRefresh.seq.order = a.seq.order from refresh.get (.seq .order) rfl]
    exact order

/-! ## Times of a rail (R276 to R283) -/

/-- A rail that is GOOD, before its PG pin and the sequencer's state follow. -/
def State.railGood (r : Fin 32) (s : State) : State :=
  let s := (s.railQuiet r).modRail r fun x => { x with st := .good, pg := true, inWindow := true, tGood := s.tb.tod }
  { s with seq.privFail := s.seq.privFail &&& ~~~ BitVec.ofNat 32 (2 ^ r.val) }

theorem State.railGood_keeps (r : Fin 32) (s : State) : KeepsBut (Part.railTimes r ++ ([.seq (.rail r),
    .seq .privFail] : List Part)) s (s.railGood r) := by
  have mended (a : State) (w : BitVec 32) : KeepsBut [.seq .privFail] a { a with seq.privFail := w } := (KeepsBut.write_seq (l := [.seq .privFail])
      fun f hf _ _ => by cases f with | privFail => simp at hf  | railAll => trivial | _ => exact rfl)
  exact ((State.railQuiet_keeps r s).append (State.modRail_keeps r _ _)).append (mended _ _)

theorem State.railGood_rail (r : Fin 32) (s : State) :
    (s.railGood r).seq.rail[r] = { s.seq.rail[r] with st := .good, pg := true, inWindow := true, tGood := s.tb.tod } :=
  State.modRail_rail r (fun x => { x with st := .good, pg := true, inWindow := true, tGood := s.tb.tod }) (s.railQuiet r)

theorem State.pgDelayEnd_good : ∀ (r : Fin 32) (s : State),
    s.seqRuns = true →
    (s.seq.rail[r]).st = .pgDelay →
    s.due (.railPg r) = true →
    s.railWindow r false = true →
    Completes (.pgDelayEnd r) s fun t =>
    (t.seq.rail[r]).st = .good ∧ (t.seq.rail[r]).pg = true ∧ (t.seq.rail[r]).tGood = s.tb.tod ∧ Ends (.railGood r) 60000000000 s t ∧
    KeepsBut [.timer (.railPg r), .seq (.rail r), .pins .pg, .timer (.railStart r), .timer (.railTimeout r), .timer (.railFault r),
        .timer (.railRetry r),
    .timer (.railDischarge r), .timer (.railGood r), .seq .privFail, .seq .st, .seq .resets,
        .seq .upSince] s t := fun r s runs delays due window => by
  have run : exec (.pgDelayEnd r) s = .next (((s.railGood r).arm (.railGood r) 60000000000).drivePg).seqRefresh :=
    congrArg Host.Outcome.next ((if_neg fun h => by
      obtain ⟨_, good, _⟩ := h
      exact nomatch delays.symm.trans good).trans ((if_pos ⟨runs, delays, due⟩).trans (if_pos window)))
  have good := s.railGood_keeps r
  have rail := s.railGood_rail r
  have now : (s.railGood r).now = s.now := rfl
  generalize s.railGood r = a at run good rail now
  have later := (State.drivePg_keeps (a.arm (.railGood r) 60000000000)).append (State.seqRefresh_keeps _)
  have same : ((a.arm (.railGood r) 60000000000).drivePg.seqRefresh).seq.rail[r] = a.seq.rail[r] := later.get (.seq (.rail r)) rfl
  refine ⟨_, run, ?_, ?_, ?_, (Ends.armed now).kept later rfl, ((good.append (State.arm_keeps _ _ a)).append later).weaken (by
    apply Part.Within.checkAt r
    rfl)⟩ <;> rw [same, rail]

/-- An optional rail that has failed to come up. -/
def State.railPrivFailed (r : Fin 32) (s : State) : State :=
  let s := (s.railTo r .privFailed).disarm (.railPg r)
  { s with seq.privFail := s.seq.privFail ||| BitVec.ofNat 32 (2 ^ r.val) }

theorem State.railPrivFailed_keeps (r : Fin 32) (s : State) : KeepsBut [.seq (.rail r), .timer (.railPg r),
    .seq .privFail] s (s.railPrivFailed r) := by
  have failed (a : State) (w : BitVec 32) : KeepsBut [.seq .privFail] a { a with seq.privFail := w } := (KeepsBut.write_seq (l := [.seq .privFail])
      fun f hf _ _ => by cases f with | privFail => simp at hf  | railAll => trivial | _ => exact rfl)
  exact ((State.railTo_keeps r _ s).append (State.disarm_keeps _ _)).append (failed _ _)

theorem State.startTimeout_optional : ∀ (r : Fin 32) (s : State),
    s.seqRuns = true →
    (s.seq.rail[r]).st = .starting →
    s.due (.railTimeout r) = true →
    s.flag (0x2A10 + r) 0x0E = true →
    s.evr.staging.length < 15 →
    Completes (.startTimeout r) s fun t =>
    (t.seq.rail[r]).st = .privFailed ∧ Raised 0x0901 r [] s t ∧ Raised 0x0905 r [] s t ∧
    KeepsBut (([.seq .railAll, .seq .privFail, .seq .st, .seq .resets, .seq .upSince, .seq .latchAfter, .seq .queue, .seq .stoppingNow, .seq .onAfter,
    .seq .resetAfter, .seq .sysOn, .seq .order, .timers] : List Part) ++ Part.raised) s t := fun r s runs starting due optional room => by
  have told := State.raise_raisedNow 0x0901 r [] (s := s) (a := s.disarm (.railTimeout r)) rfl
  have kept := (s.disarm_keeps (.railTimeout r)).append (State.raise_keepsBut 0x0901 r [] _)
  have raw : ((s.disarm (.railTimeout r)).raise 0x0901 r []).raw = s.raw := (State.raise_raw _ _ _ _).trans (State.disarm_raw _ _)
  have length := State.raise_length 0x0901 r [] (s.disarm (.railTimeout r))
  have run : exec (.startTimeout r) s = .next ((((s.disarm (.railTimeout r)).raise 0x0901 r []).railPrivFailed r).raise 0x0905 r []).seqRefresh :=
    congrArg Host.Outcome.next ((if_pos ⟨runs, .inl starting, due⟩).trans (if_pos (by
      unfold State.flag State.cfg
      rw [raw]
      exact optional)))
  generalize (s.disarm (.railTimeout r)).raise 0x0901 r [] = a at run told kept length
  have failed := a.railPrivFailed_keeps r
  have rail : (a.railPrivFailed r).seq.rail[r] = { a.seq.rail[r] with st := .privFailed } := State.railTo_rail r _ a
  have staging : (a.railPrivFailed r).evr.staging = a.evr.staging := rfl
  have told' := told.kept failed rfl rfl rfl rfl
  generalize a.railPrivFailed r = b at run failed rail staging told'
  have raised := State.raise_keepsBut 0x0905 r [] b
  have refresh := (b.raise 0x0905 r []).seqRefresh_keeps
  have second : Raised 0x0905 r [] s (b.raise 0x0905 r []) := State.raise_raised_of_room _ _ _ (by
    rw [staging]
    have : (s.disarm (.railTimeout r)).evr.staging.length = s.evr.staging.length := rfl
    omega)
  refine ⟨_, run, ?_, ((told'.raise 0x0905 r []).kept refresh rfl rfl rfl rfl).1,
    second.keep (refresh.get (.evr .staging) rfl) (refresh.get (.net .batch) rfl),
    (((kept.append failed).append raised).append refresh).weaken (by apply Part.Within.checkAt r; rfl)⟩
  rw [refresh.railField Rail.st r rfl, raised.railField Rail.st r rfl, rail]

/-- Where a shutdown begins with a started rail that has to wait out its off delay, or none. -/
def State.stopBegun (r : Fin 32) (q : List (Fin 32)) (s : State) : State :=
  let s : State := { s with seq.queue := q, seq.stoppingNow := some r }
  if s.ns (0x2A10 + r) 0x12 = 0 then s.stopRail r .shutdown
  else (s.modRail r fun y => { y with why := .shutdown }).arm (.railOffDelay r) (s.ns (0x2A10 + r) 0x12)

theorem State.cancelWaiting_started {r : Fin 32} {s : State} (on : railStarted (s.seq.rail[r]).st = true) (p : Fin 32 → Bool) :
    (s.cancelWaiting p).seq.rail[r] = s.seq.rail[r] :=
  State.each_invariant (P := fun t => t.seq.rail[r] = s.seq.rail[r]) (fun k t ht => by
    split
    next waits =>
      by_cases same : r = k
      · rw [← same, ht] at waits
        obtain ⟨_, st | st | st⟩ := waits <;> rw [st] at on <;> exact nomatch on
      · exact (vector_set_getElem_ne same).trans ht
    · exact ht) (List.finRange 32) s rfl

/-- The rails that a shutdown takes after its first. -/
def State.stopsAfter (r : Fin 32) (s : State) : List (Fin 32) :=
  s.seq.order.reverse.filter fun x => x ≠ r ∧ railStarted s.seq.rail[x].st ∧ s.seq.stoppingNow ≠ some x

theorem State.shutdownFrom_eq (r : Fin 32) (s : State) :
    s.shutdownFrom r = (s.cancelWaiting fun _ => true).stopQueue (r :: (s.cancelWaiting fun _ => true).stopsAfter r) := rfl

/-- The shutdown that begins with a started rail (R282). -/
theorem State.shutdownFrom_begins {r : Fin 32} {s : State} (on : railStarted (s.seq.rail[r]).st = true) (free : s.seq.stoppingNow = none) :
    s.shutdownFrom r = (s.cancelWaiting fun _ => true).stopBegun r ((s.cancelWaiting fun _ => true).stopsAfter r) := by
  have waiting := s.cancelWaiting_keeps fun _ => true
  have free' : (s.cancelWaiting fun _ => true).seq.stoppingNow = none := Eq.trans (waiting.get (.seq .stoppingNow) rfl) free
  have on' : railStarted ((s.cancelWaiting fun _ => true).seq.rail[r]).st = true := by
    rw [State.cancelWaiting_started on]
    exact on
  rw [State.shutdownFrom_eq]
  generalize (s.cancelWaiting fun _ => true) = a at free' on'
  generalize a.stopsAfter r = q
  unfold State.stopQueue
  dsimp only
  rw [free']
  simp only [Option.isSome_none, Bool.false_eq_true, if_false]
  unfold State.stopNext
  dsimp only
  conv_lhs => unfold State.stopFrom
  rw [if_neg (not_not.2 on')]
  rfl

theorem State.stopBegun_keeps (r : Fin 32) (q : List (Fin 32)) (s : State) : KeepsBut Part.stops s (s.stopBegun r q) := by
  have next := State.queue_stops q (some r) s
  exact .ite _ (next.trans (State.stopRail_stops r _ _)) (next.trans
    (((State.modRail_keeps r _ _).append (State.arm_keeps _ _ _)).weaken (by apply Part.Within.checkAt r; rfl)))

theorem State.stopRail_sequence (r : Fin 32) (why : StopWhy) (s : State) : (s.stopRail r why).seq.stoppingNow = s.seq.stoppingNow :=
  (State.stopRail_keeps r why s).get (.seq .stoppingNow) rfl

/-- The rail that a shutdown begins with: stopping at once, or waiting out its off delay. -/
theorem State.stopBegun_rail {r : Fin 32} {s : State} (st : (s.seq.rail[r]).st = .starting) (q : List (Fin 32)) :
    (s.stopBegun r q).seq.stoppingNow = some r ∧ (s.ns (0x2A10 + r) 0x12 = 0 → ((s.stopBegun r q).seq.rail[r]).st = .stopping) ∧
      (s.ns (0x2A10 + r) 0x12 ≠ 0 → ((s.stopBegun r q).seq.rail[r]).st = .starting ∧
        Ends (.railOffDelay r) (s.ns (0x2A10 + r) 0x12) s (s.stopBegun r q)) := by
  have on : railStarted (s.seq.rail[r]).st = true := by rw [st]; rfl
  have ns : State.ns { s with seq.queue := q, seq.stoppingNow := some r } (0x2A10 + r) 0x12 = s.ns (0x2A10 + r) 0x12 := rfl
  by_cases none_ : s.ns (0x2A10 + r) 0x12 = 0
  · have stops : s.stopBegun r q = State.stopRail r .shutdown { s with seq.queue := q, seq.stoppingNow := some r } := if_pos (ns.trans none_)
    have rail := State.stopRail_rail (r := r) (s := { s with seq.queue := q, seq.stoppingNow := some r }) on .shutdown
    have now_ := State.stopRail_sequence r .shutdown { s with seq.queue := q, seq.stoppingNow := some r }
    rw [stops]
    exact ⟨now_, fun _ => congrArg Rail.st rail, fun some_ => absurd none_ some_⟩
  · have waits : s.stopBegun r q = (State.modRail r (fun y => { y with why := .shutdown })
        { s with seq.queue := q, seq.stoppingNow := some r }).arm (.railOffDelay r) (s.ns (0x2A10 + r) 0x12) := if_neg none_
    rw [waits]
    exact ⟨rfl, fun zero => absurd zero none_, fun _ => ⟨(congrArg Rail.st (State.modRail_rail r (fun y => { y with why := .shutdown })
      { s with seq.queue := q, seq.stoppingNow := some r })).trans st, Ends.armed rfl⟩⟩

/-- A start timeout that latches, before the shutdown. -/
def State.startFailed (r : Fin 32) (s : State) : State := { (s.disarm (.railTimeout r)).raise 0x0901 r [] with seq.latchAfter := true }

theorem State.startFailed_keeps (r : Fin 32) (s : State) :
    KeepsBut (([.timer (.railTimeout r)] : List Part) ++ Part.raised ++ [.seq .latchAfter]) s (s.startFailed r) := by
  have latched (a : State) : KeepsBut [.seq .latchAfter] a { a with seq.latchAfter := true } := (KeepsBut.write_seq (l := [.seq .latchAfter])
      fun f hf _ _ => by cases f with | latchAfter => simp at hf  | railAll => trivial | _ => exact rfl)
  exact ((s.disarm_keeps _).append (State.raise_keepsBut _ _ _ _)).append (latched _)

theorem State.startFailed_raised (r : Fin 32) (s : State) : RaisedNow 0x0901 r [] s (s.startFailed r) := by
  have latched (a : State) : KeepsBut [.seq .latchAfter] a { a with seq.latchAfter := true } := (KeepsBut.write_seq (l := [.seq .latchAfter])
      fun f hf _ _ => by cases f with | latchAfter => simp at hf  | railAll => trivial | _ => exact rfl)
  exact (State.raise_raisedNow 0x0901 r [] (a := s.disarm (.railTimeout r)) rfl).kept (latched _) rfl rfl rfl rfl

theorem State.pathsDone_next {r : Fin 32} {s : State} (next : s.seq.stoppingNow = some r) : s.pathsDone = false := by
  unfold State.pathsDone
  rw [next]
  simp

theorem State.ns_raw {s t : State} (h : t.raw = s.raw) (idx sub : Nat) : t.ns idx sub = s.ns idx sub := by rw [State.ns_congr h]

theorem State.startTimeout_latches : ∀ (r : Fin 32) (s : State),
    s.seqRuns = true →
    (s.seq.rail[r]).st = .starting →
    s.due (.railTimeout r) = true →
    s.flag (0x2A10 + r) 0x0E = false →
    s.seq.stoppingNow = none →
    Completes (.startTimeout r) s fun t =>
    t.seq.latchAfter = true ∧ t.seq.stoppingNow = some r ∧ (s.ns (0x2A10 + r) 0x12 = 0 → (t.seq.rail[r]).st = .stopping) ∧
    (s.ns (0x2A10 + r) 0x12 ≠ 0 → (t.seq.rail[r]).st = .starting ∧ Ends (.railOffDelay r) (s.ns (0x2A10 + r) 0x12) s t) ∧ Raised 0x0901 r [] s t ∧
    KeepsBut (([.seq .railAll, .seq .privFail, .seq .st, .seq .resets, .seq .upSince, .seq .latchAfter, .seq .stoppingNow, .seq .queue, .pins .pg,
        .loopAll,
    .pins .syncOut, .phaseAll, .dist .brAll, .dist .feedAll, .pins .gateAll, .bat .strAll, .dist .strAll, .pins .gpioOut, .pins .gpioDir,
        .seq .onAfter,
    .seq .resetAfter, .seq .sysOn, .seq .order, .timers] : List Part) ++ Part.raised) s t := fun r s runs starting due required free => by
  have failed := s.startFailed_keeps r
  have told := s.startFailed_raised r
  have latch : (s.startFailed r).seq.latchAfter = true := rfl
  have rail : (s.startFailed r).seq.rail[r] = s.seq.rail[r] := failed.get (.seq (.rail r)) rfl
  have free' : (s.startFailed r).seq.stoppingNow = none := Eq.trans (failed.get (.seq .stoppingNow) rfl) free
  have now : (s.startFailed r).now = s.now := by unfold State.startFailed; simp
  have raw : (s.startFailed r).raw = s.raw := failed.raw (fun _ => rfl) (fun _ => rfl) rfl rfl
  have run : exec (.startTimeout r) s = .next ((s.startFailed r).shutdownFrom r).seqSettle :=
    congrArg Host.Outcome.next ((if_pos ⟨runs, .inl starting, due⟩).trans (if_neg (by
      have same : ((s.disarm (.railTimeout r)).raise 0x0901 r []).raw = s.raw := (State.raise_raw _ _ _ _).trans (State.disarm_raw _ _)
      unfold State.flag State.cfg at required ⊢
      rw [same, required]
      exact Bool.false_ne_true)))
  generalize s.startFailed r = a at run failed told latch rail free' now raw
  have started : railStarted (a.seq.rail[r]).st = true := by rw [rail, starting]; rfl
  rw [State.shutdownFrom_begins started free'] at run
  have waiting := a.cancelWaiting_keeps fun _ => true
  have same := State.cancelWaiting_started started fun _ => true
  have now' : (a.cancelWaiting fun _ => true).now = a.now := by simp
  have raw' : (a.cancelWaiting fun _ => true).raw = a.raw := waiting.raw (fun _ => rfl) (fun _ => rfl) rfl rfl
  generalize (a.cancelWaiting fun _ => true) = b at run waiting same now' raw'
  obtain ⟨next, stops, waits⟩ := State.stopBegun_rail (r := r) (s := b) (by rw [same, rail]; exact starting) (b.stopsAfter r)
  have begun := State.stopBegun_keeps r (b.stopsAfter r) b
  rw [State.seqSettle_busy (State.pathsDone_next next)] at run
  rw [State.ns_raw (raw'.trans raw)] at stops waits
  generalize b.stopBegun r (b.stopsAfter r) = c at run next stops waits begun
  have refresh := c.seqRefresh_keeps
  have later := (waiting.append begun).append refresh
  have st : (c.seqRefresh.seq.rail[r]).st = (c.seq.rail[r]).st := refresh.railField Rail.st r rfl
  refine ⟨_, run, Eq.trans (later.get (.seq .latchAfter) rfl) latch, Eq.trans (refresh.get (.seq .stoppingNow) rfl) next, fun none_ => st.trans (stops none_),
    fun some_ => ⟨st.trans (waits some_).1, ?_⟩, (told.kept later rfl rfl rfl rfl).1, (failed.append later).weaken (by apply Part.Within.checkAt r; rfl)⟩
  have ends := ((waits some_).2).kept refresh rfl
  rw [Ends, now', now] at ends
  exact ends

theorem State.railFault_retries : ∀ (r : Fin 32) (s : State),
    s.seqRuns = true →
    (s.seq.rail[r]).st = .outOfWindow →
    s.due (.railFault r) = true →
    s.raw (0x2A10 + r) 0x0A = 1 →
    (s.seq.rail[r]).retries < s.raw (0x2A10 + r) 0x0B →
    Completes (.railFault r) s fun t =>
    (t.seq.rail[r]).st = .stopping ∧ (t.seq.rail[r]).why = .retry ∧ (t.seq.rail[r]).pg = false ∧ (t.seq.rail[r]).faults = bump (s.seq.rail[r]).faults ∧
    Raised 0x0902 r [r, s.cfg.railKind r] s t ∧ KeepsBut (([.seq .railAll, .pins .pg, .seq .groupsDown, .seq .queue, .seq .stoppingNow, .loopAll,
    .pins .syncOut, .phaseAll, .dist .brAll, .dist .feedAll, .pins .gateAll, .bat .strAll, .dist .strAll, .pins .gpioOut, .pins .gpioDir, .seq .st,
    .seq .resets, .seq .upSince, .seq .latchAfter, .seq .resetAfter, .seq .onAfter, .seq .sysOn, .seq .order, .timers] : List Part)
        ++ Part.raised) s t := fun r s runs out due reaction left_ => by
  have dropped := (s.disarm_keeps (.railFault r)).append (State.dropPg_keeps r _)
  have rail : ((s.disarm (.railFault r)).dropPg r).seq.rail[r] = { s.seq.rail[r] with pg := false } :=
    ((State.drivePg_keeps _).get (.seq (.rail r)) rfl : _ = _).trans (State.modRail_rail r (fun x => { x with pg := false }) (s.disarm (.railFault r)))
  have raw : ((s.disarm (.railFault r)).dropPg r).raw = s.raw := dropped.raw (fun _ => rfl) (fun _ => rfl) rfl rfl
  have run : exec (.railFault r) s = .next ((((s.disarm (.railFault r)).dropPg r).recordFault r 0x0902).react r false) :=
    congrArg Host.Outcome.next (if_pos ⟨runs, out, due⟩)
  have silent : RaisedNow 0x0902 r [r, s.cfg.railKind r] s (((s.disarm (.railFault r)).dropPg r).recordFault r 0x0902) := by
    have kind : s.cfg.railKind r = (((s.disarm (.railFault r)).dropPg r).modRail r
        fun x => { x with faults := bump x.faults, lastCode := 0x0902 }).cfg.railKind r := congrArg (fun c => Cfg.railKind c r) raw.symm
    rw [kind]
    exact State.raise_raisedNow _ _ _ (dropped.get (.evr .staging) rfl)
  generalize (s.disarm (.railFault r)).dropPg r = a at run rail dropped raw silent
  have recorded := State.recordFault_keeps r 0x0902 a
  have rail' : (a.recordFault r 0x0902).seq.rail[r] = { s.seq.rail[r] with pg := false, faults := bump (s.seq.rail[r]).faults, lastCode := 0x0902 } := by
    refine Eq.trans (b := (a.modRail r fun x => { x with faults := bump x.faults, lastCode := 0x0902 }).seq.rail[r]) ?_ ?_
    · exact (State.raise_keepsBut _ _ _ _).get (.seq (.rail r)) rfl
    · rw [State.modRail_rail, rail]
  have raw' : (a.recordFault r 0x0902).raw = s.raw := (recorded.raw (fun _ => rfl) (fun _ => rfl) rfl rfl).trans raw
  generalize a.recordFault r 0x0902 = b at run recorded rail' raw' silent
  have reacts : b.react r false = b.stopRail r .retry := by
    unfold State.react
    rw [raw', reaction]
    exact if_pos (by rw [rail']; exact left_)
  have stops := State.stopRail_rail (r := r) (s := b) (by rw [rail', out]; rfl) .retry
  have stopped := State.stopRail_stops r .retry b
  rw [reacts] at run
  rw [rail'] at stops
  exact ⟨_, run, congrArg Rail.st stops, congrArg Rail.why stops, congrArg Rail.pg stops, congrArg Rail.faults stops,
    (silent.kept stopped rfl rfl rfl rfl).1, ((dropped.append recorded).append stopped).weaken (by apply Part.Within.checkAt r; rfl)⟩

/-- A rail in MIN_OFF, before the queue goes on. -/
def State.pathEnded (r : Fin 32) (s : State) : State :=
  let s := (s.railTo r .minOff).disarm (.railDischarge r)
  if s.cfg.railKind r = 2 then s else s.arm (.railMinOff r) (s.ns (0x2A10 + r) 0x0F)

theorem State.pathEnded_keeps (r : Fin 32) (s : State) :
    KeepsBut [.seq (.rail r), .timer (.railDischarge r), .timer (.railMinOff r)] s (s.pathEnded r) := by
  have ended := (State.railTo_keeps r .minOff s).append (State.disarm_keeps (.railDischarge r) _)
  exact .ite _ (ended.weaken (by apply Part.Within.checkAt r; rfl)) (ended.append (State.arm_keeps _ _ _))

theorem State.pathEnded_rail (r : Fin 32) (s : State) : (s.pathEnded r).seq.rail[r] = { s.seq.rail[r] with st := .minOff } := by
  unfold State.pathEnded
  dsimp only
  split <;> exact State.railTo_rail r .minOff s

/-- The end of an off path that no queue waits for. -/
theorem State.finishPath_alone {r : Fin 32} {s : State} (other : s.seq.stoppingNow ≠ some r) : s.finishPath r = (s.pathEnded r).seqSettle := by
  have other' : ¬ (s.pathEnded r).seq.stoppingNow = some r := by
    rw [show (s.pathEnded r).seq.stoppingNow = s.seq.stoppingNow from (s.pathEnded_keeps r).get (.seq .stoppingNow) rfl]
    exact other
  exact congrArg State.seqSettle (if_neg other')

theorem State.finishPath_ends {r : Fin 32} {s : State} (other : s.seq.stoppingNow ≠ some r) (calm : s.seq.resetAfter = false) :
    ((s.finishPath r).seq.rail[r]).st = .minOff ∧
      Moves (([.seq (.rail r), .timer (.railDischarge r), .timer (.railMinOff r)] : List Part) ++ Part.settled) s (s.finishPath r) := by
  rw [State.finishPath_alone other]
  have ended := s.pathEnded_keeps r
  have rail := s.pathEnded_rail r
  generalize s.pathEnded r = a at ended rail
  have settle := State.seqSettle_moves (s := a) (Eq.trans (ended.get (.seq .resetAfter) rfl) calm)
  refine ⟨(settle.1.railField Rail.st r rfl).trans (congrArg Rail.st rail), ?_⟩
  exact (Moves.of_kept (ended.weaken (by apply Part.Within.checkAt r; rfl)) rfl).trans (settle.weaken (by apply Part.Within.checkAt r; rfl))

theorem State.offPathComplete_ends : ∀ (r : Fin 32) (s : State),
    s.seqRuns = true →
    (s.seq.rail[r]).st = .stopping →
    s.pathDone r false = true →
    s.seq.stoppingNow ≠ some r →
    s.seq.resetAfter = false →
    Completes (.offPathComplete r) s fun t => (t.seq.rail[r]).st = .minOff ∧
    KeepsBut (([.seq .railAll, .seq .queue, .seq .stoppingNow, .seq .st, .seq .resets, .seq .upSince, .seq .latchAfter, .seq .onAfter,
        .seq .resetAfter,
    .seq .sysOn, .seq .order, .timers] : List Part) ++ Part.raised) s t := fun r s runs stops done other calm => by
  obtain ⟨st, kept, _⟩ := State.finishPath_ends (r := r) (s := s) other calm
  exact ⟨_, congrArg Host.Outcome.next (if_pos ⟨runs, stops, done⟩), st, kept.weaken (by apply Part.Within.checkAt r; rfl)⟩

theorem State.dischargeTimeout_ends : ∀ (r : Fin 32) (s : State),
    s.seqRuns = true →
    (s.seq.rail[r]).st = .stopping →
    s.due (.railDischarge r) = true →
    s.seq.stoppingNow ≠ some r →
    s.seq.resetAfter = false →
    Completes (.dischargeTimeout r) s fun t => (t.seq.rail[r]).st = .minOff ∧ Raised 0x090B r [] s t ∧
    KeepsBut (([.seq .railAll, .seq .queue, .seq .stoppingNow, .seq .st, .seq .resets, .seq .upSince, .seq .latchAfter, .seq .onAfter,
        .seq .resetAfter,
    .seq .sysOn, .seq .order, .timers] : List Part) ++ Part.raised) s t := fun r s runs stops due other calm => by
  have told := State.raise_raisedNow 0x090B r [] (s := s) (a := s) rfl
  have kept := State.raise_keepsBut 0x090B r [] s
  have run : exec (.dischargeTimeout r) s = .next ((s.raise 0x090B r []).finishPath r) := congrArg Host.Outcome.next (if_pos ⟨runs, stops, due⟩)
  generalize s.raise 0x090B r [] = a at run told kept
  obtain ⟨st, moved⟩ := State.finishPath_ends (r := r) (s := a)
    (by rw [show a.seq.stoppingNow = s.seq.stoppingNow from kept.get (.seq .stoppingNow) rfl]; exact other) (Eq.trans (kept.get (.seq .resetAfter) rfl) calm)
  exact ⟨_, run, st, (moved.2 told).1, (kept.append moved.1).weaken (by apply Part.Within.checkAt r; rfl)⟩

/-- A rail after its minimum off time, before the sequencer settles. -/
def State.minOffLeft (r : Fin 32) (s : State) : State :=
  match s.seq.rail[r].why, s.commanded r with
  | .retry, true => (s.railTo r .retryWait).arm (.railRetry r) (s.ns (0x2A10 + r) 0x0C)
  | .latch, true => s.latchRail r
  | _, _ => s.railTo r .off

theorem State.minOffEnd_run {r : Fin 32} {s : State} (runs : s.seqRuns = true) (st : (s.seq.rail[r]).st = .minOff) (over_ : s.minOffOver r = true) :
    exec (.minOffEnd r) s = .next ((s.disarm (.railMinOff r)).minOffLeft r).seqSettle := congrArg Host.Outcome.next (if_pos ⟨runs, st, over_⟩)

theorem State.minOffLeft_off {r : Fin 32} {s : State} (why : ((s.seq.rail[r]).why ≠ .retry ∧ (s.seq.rail[r]).why ≠ .latch) ∨ s.commanded r = false) :
    s.minOffLeft r = s.railTo r .off := by
  unfold State.minOffLeft
  split
  next retry on => exact absurd why (by rw [retry, on]; simp)
  next latch on => exact absurd why (by rw [latch, on]; simp)
  · rfl

/-- The part of MIN_OFF_END that its three ways share: the settling of a sequencer with no reset pending. -/
theorem State.settled_after {r : Fin 32} {l : List Part} {s a : State} (kept : KeepsBut l s a) (calm : s.seq.resetAfter = false)
    (out : Part.outside l (.seq .resetAfter) = true) : (a.seqSettle.seq.rail[r]).st = (a.seq.rail[r]).st ∧ Moves Part.settled a a.seqSettle := by
  have settle := State.seqSettle_moves (s := a) (Eq.trans (kept.get (.seq .resetAfter) out) calm)
  exact ⟨settle.1.railField Rail.st r rfl, settle⟩

theorem State.minOffEnd_off : ∀ (r : Fin 32) (s : State),
    s.seqRuns = true →
    (s.seq.rail[r]).st = .minOff →
    s.minOffOver r = true →
    s.seq.resetAfter = false →
    ((s.seq.rail[r]).why ≠ .retry ∧ (s.seq.rail[r]).why ≠ .latch) ∨ s.commanded r = false →
    Completes (.minOffEnd r) s fun t => (t.seq.rail[r]).st = .off ∧
    KeepsBut (([.timer (.railMinOff r), .seq (.rail r), .timer (.railRetry r), .timer (.railStart r), .timer (.railPg r), .timer (.railTimeout r),
    .timer (.railFault r), .timer (.railDischarge r), .timer (.railGood r), .seq .st, .seq .resets, .seq .upSince, .seq .latchAfter, .seq .onAfter,
    .seq .resetAfter, .seq .sysOn, .seq .order] : List Part) ++ Part.raised) s t := fun r s runs st over_ calm why => by
  have run := State.minOffEnd_run runs st over_
  rw [State.minOffLeft_off (s := s.disarm (.railMinOff r)) why] at run
  have kept := (s.disarm_keeps (.railMinOff r)).append (State.railTo_keeps r .off _)
  have rail := State.railTo_rail r .off (s.disarm (.railMinOff r))
  generalize (s.disarm (.railMinOff r)).railTo r .off = a at run kept rail
  obtain ⟨same, settle⟩ := State.settled_after (r := r) kept calm rfl
  exact ⟨_, run, same.trans (congrArg Rail.st rail), (kept.append settle.1).weaken (by apply Part.Within.checkAt r; rfl)⟩

theorem State.minOffEnd_retries : ∀ (r : Fin 32) (s : State),
    s.seqRuns = true →
    (s.seq.rail[r]).st = .minOff →
    s.minOffOver r = true →
    s.seq.resetAfter = false →
    s.commanded r = true →
    (s.seq.rail[r]).why = .retry →
    Completes (.minOffEnd r) s fun t => (t.seq.rail[r]).st = .retryWait ∧ Ends (.railRetry r) (s.ns (0x2A10 + r) 0x0C) s t ∧
    KeepsBut (([.timer (.railMinOff r), .seq (.rail r), .timer (.railRetry r), .timer (.railStart r), .timer (.railPg r), .timer (.railTimeout r),
    .timer (.railFault r), .timer (.railDischarge r), .timer (.railGood r), .seq .st, .seq .resets, .seq .upSince, .seq .latchAfter, .seq .onAfter,
    .seq .resetAfter, .seq .sysOn, .seq .order] : List Part) ++ Part.raised) s t := fun r s runs st over_ calm on why => by
  have run := State.minOffEnd_run runs st over_
  have left_ : (s.disarm (.railMinOff r)).minOffLeft r = ((s.disarm (.railMinOff r)).railTo r .retryWait).arm (.railRetry r) (s.ns (0x2A10 + r) 0x0C) := by
    have why' : ((s.disarm (.railMinOff r)).seq.rail[r]).why = .retry := why
    have on' : (s.disarm (.railMinOff r)).commanded r = true := on
    unfold State.minOffLeft
    rw [why', on']
    rfl
  rw [left_] at run
  have kept := (s.disarm_keeps (.railMinOff r)).append (State.railTo_keeps r .retryWait _)
  have rail := State.railTo_rail r .retryWait (s.disarm (.railMinOff r))
  have now : ((s.disarm (.railMinOff r)).railTo r .retryWait).now = s.now := rfl
  generalize (s.disarm (.railMinOff r)).railTo r .retryWait = a at run kept rail now
  have armed := State.arm_keeps (.railRetry r) (s.ns (0x2A10 + r) 0x0C) a
  obtain ⟨same, settle⟩ := State.settled_after (r := r) (kept.append armed) calm rfl
  exact ⟨_, run, same.trans (congrArg Rail.st rail), (Ends.armed now).kept settle.1 rfl,
    ((kept.append armed).append settle.1).weaken (by apply Part.Within.checkAt r; rfl)⟩

theorem State.latchRail_rail (r : Fin 32) (s : State) : ((s.latchRail r).seq.rail[r]).st = .latched := by
  refine Eq.trans ((State.raise_keepsBut 0x0907 r [] _).railField Rail.st r rfl) (Eq.trans ((State.drivePg_keeps _).railField Rail.st r rfl) ?_)
  rw [State.modRail_rail]
  exact congrArg Rail.st (State.railTo_rail r .latched (s.railQuiet r))

theorem State.minOffEnd_latches : ∀ (r : Fin 32) (s : State),
    s.seqRuns = true →
    (s.seq.rail[r]).st = .minOff →
    s.minOffOver r = true →
    s.seq.resetAfter = false →
    s.commanded r = true →
    (s.seq.rail[r]).why = .latch →
    Completes (.minOffEnd r) s fun t => (t.seq.rail[r]).st = .latched ∧ Raised 0x0907 r [] s t ∧
    KeepsBut (([.timer (.railMinOff r), .seq (.rail r), .timer (.railRetry r), .timer (.railStart r), .timer (.railPg r), .timer (.railTimeout r),
    .timer (.railFault r), .timer (.railDischarge r), .timer (.railGood r), .pins .pg, .seq .st, .seq .resets, .seq .upSince, .seq .latchAfter,
    .seq .onAfter, .seq .resetAfter, .seq .sysOn, .seq .order] : List Part) ++ Part.raised) s t := fun r s runs st over_ calm on why => by
  have run := State.minOffEnd_run runs st over_
  have left_ : (s.disarm (.railMinOff r)).minOffLeft r = (s.disarm (.railMinOff r)).latchRail r := by
    have why' : ((s.disarm (.railMinOff r)).seq.rail[r]).why = .latch := why
    have on' : (s.disarm (.railMinOff r)).commanded r = true := on
    unfold State.minOffLeft
    rw [why', on']
  rw [left_] at run
  have kept := (s.disarm_keeps (.railMinOff r)).append (State.latchRail_keeps r _)
  have rail := State.latchRail_rail r (s.disarm (.railMinOff r))
  have dropped := ((State.railQuiet_keeps r (s.disarm (.railMinOff r))).append (State.railTo_keeps r .latched _)).append (State.dropPg_keeps r _)
  have told : RaisedNow 0x0907 r [] s ((s.disarm (.railMinOff r)).latchRail r) := State.raise_raisedNow _ _ _ (dropped.get (.evr .staging) rfl)
  generalize (s.disarm (.railMinOff r)).latchRail r = a at run kept rail told
  obtain ⟨same, settle⟩ := State.settled_after (r := r) kept calm rfl
  exact ⟨_, run, same.trans rail, (settle.2 told).1, (kept.append settle.1).weaken (by apply Part.Within.checkAt r; rfl)⟩

theorem State.railRetryEnd_starts : ∀ (r : Fin 32) (s : State),
    s.seqRuns = true →
    (s.seq.rail[r]).st = .retryWait →
    s.due (.railRetry r) = true →
    Completes (.railRetryEnd r) s fun t =>
    (t.seq.rail[r]).st = .startDelay ∧ (t.seq.rail[r]).retries = (s.seq.rail[r]).retries + 1 ∧ Ends (.railStart r) (s.ns (0x2A10 + r) 4) s t ∧
    KeepsBut [.timer (.railRetry r), .seq (.rail r), .timer (.railStart r), .seq .st, .seq .resets, .seq .upSince] s t := fun r s runs st due => by
  have run : exec (.railRetryEnd r) s = .next (((s.disarm (.railRetry r)).modRail r fun x => { x with st := .startDelay, retries := x.retries + 1 }).arm
      (.railStart r) (s.ns (0x2A10 + r) 4)).seqRefresh := congrArg Host.Outcome.next (if_pos ⟨runs, st, due⟩)
  have kept := (s.disarm_keeps (.railRetry r)).append (State.modRail_keeps r (fun x => { x with st := .startDelay, retries := x.retries + 1 }) _)
  have rail := State.modRail_rail r (fun x => { x with st := .startDelay, retries := x.retries + 1 }) (s.disarm (.railRetry r))
  have now : ((s.disarm (.railRetry r)).modRail r fun x => { x with st := .startDelay, retries := x.retries + 1 }).now = s.now := rfl
  generalize (s.disarm (.railRetry r)).modRail r (fun x => { x with st := .startDelay, retries := x.retries + 1 }) = a at run kept rail now
  have armed := State.arm_keeps (.railStart r) (s.ns (0x2A10 + r) 4) a
  have refresh := State.seqRefresh_keeps (a.arm (.railStart r) (s.ns (0x2A10 + r) 4))
  exact ⟨_, run, (refresh.railField Rail.st r rfl).trans (congrArg Rail.st rail), (refresh.railField Rail.retries r rfl).trans (congrArg Rail.retries rail),
    (Ends.armed now).kept refresh rfl, ((kept.append armed).append refresh).weaken (by apply Part.Within.checkAt r; rfl)⟩

theorem State.railRetriesCleared_clears : ∀ (r : Fin 32) (s : State),
    (s.seq.rail[r]).st = .good →
    s.due (.railGood r) = true →
    Completes (.railRetriesCleared r) s fun t => t.seq.rail = s.seq.rail.set r { s.seq.rail[r] with retries := 0 } ∧ Stopped (.railGood r) t ∧
    KeepsBut [.timer (.railGood r), .seq (.rail r)] s t := fun r s st due =>
  ⟨_, congrArg Host.Outcome.next (if_pos ⟨st, due⟩), rfl, State.disarm_deadline _ s, (s.disarm_keeps _).append (State.modRail_keeps r _ _)⟩

theorem State.offDelayEnd_stops : ∀ (r : Fin 32) (s : State),
    s.seqRuns = true →
    s.seq.stoppingNow = some r →
    s.due (.railOffDelay r) = true →
    railStarted (s.seq.rail[r]).st = true →
    Completes (.offDelayEnd r) s fun t => (t.seq.rail[r]).st = .stopping ∧ (t.seq.rail[r]).pg = false ∧
    KeepsBut (([.timer (.railOffDelay r), .timer (.railStart r), .timer (.railPg r), .timer (.railTimeout r), .timer (.railFault r),
        .timer (.railRetry r),
    .timer (.railDischarge r), .timer (.railGood r), .seq (.rail r), .pins .pg, .loopAll, .pins .syncOut, .phaseAll, .dist .brAll, .dist .feedAll,
    .pins .gateAll, .bat .strAll, .dist .strAll, .pins .gpioOut,
    .pins .gpioDir] : List Part) ++ Part.each 2 .feedDead ++ Part.each 2 .feedRevert ++ Part.each 2 .feedSettle) s t := fun r s runs next due on => by
  have run : exec (.offDelayEnd r) s = .next ((s.disarm (.railOffDelay r)).stopRail r s.seq.rail[r].why) :=
    congrArg Host.Outcome.next (if_pos ⟨runs, next, due⟩)
  have rail := State.stopRail_rail (r := r) (s := s.disarm (.railOffDelay r)) on s.seq.rail[r].why
  have path := State.stopRail_path (r := r) (s := s.disarm (.railOffDelay r)) on s.seq.rail[r].why
  exact ⟨_, run, congrArg Rail.st rail, congrArg Rail.pg rail, ((s.disarm_keeps _).append path).weaken (by apply Part.Within.checkAt r; rfl)⟩

/-- Settles O19: rails evaluated, started, stopped and faulted, clause by clause. -/
theorem railsStartStopAndFault : Obligations.RailsStartStopAndFault := by
  unfold Obligations.RailsStartStopAndFault
  exact ⟨State.railEvaluation_waits, State.startDelayEnd_starts, State.pgDelayEnd_good, State.startTimeout_optional, State.startTimeout_latches,
    State.railFault_retries, State.offPathComplete_ends, State.dischargeTimeout_ends, State.minOffEnd_off, State.minOffEnd_retries,
    State.minOffEnd_latches, State.railRetryEnd_starts, State.railRetriesCleared_clears, State.offDelayEnd_stops⟩

end Sys2Proof.Machine
end

section
/-! PROOFS. Shorted transistors (R232, R233). -/

namespace Sys2Proof.Machine

/-- A branch whose transistor is shorted, 50 ms over, with feed pair 0 upstream of it. -/
def State.shortedUpstream : State :=
  { State.reset with
    now := 1000000000000, dist.br := State.reset.dist.br.set 3 { st := .off },
    net.force := [(objKey 0x2613 0x11, 0), (objKey 0x2613 0x12, 0), (objKey 0x2613 0x14, 1)], timers := [(.brShort 3, 0)] }

theorem State.shortedUpstream_meets : State.shortedUpstream.due (.brShort 3) = true ∧ State.shortedUpstream.brShort 3 = true := by decide +kernel

/-- The sequence of FET_SHORT where the condition stands. -/
def State.fetShorted (k : Fin 16) (s : State) : State :=
  (((((s.brQuiet k).modBr k fun b => { b with st := .fetShort }).disarm (.brShort k)).drive (brGate k) .normalSink).raise 0x0706 k []).openUpstream k

theorem State.fetShort_run {k : Fin 16} {s : State} (due : s.due (.brShort k) = true) (short : s.brShort k = true) :
    exec (.fetShort k) s = .next (s.fetShorted k) := congrArg Host.Outcome.next (if_pos ⟨due, short⟩)

/-- The feed's own 10 us of fast sink run after the command: gate 16 is feed A of pair 0. -/
theorem State.shortedUpstream_sinks : (State.shortedUpstream.fetShorted 3).deadline (.brSink 16) ≠ State.shortedUpstream.deadline (.brSink 16) := by
  decide +kernel

/-- Refutes O16: a shorted transistor opens the feeds of its upstream mask (R233), whose 10 us of fast sink run on the timers of gates 16 to 19; the
statement lets FET_SHORT change the sink timers of gates 0 to 15 only. -/
theorem not_fetShortsGateSupplyAndFeedsAct : ¬ Obligations.FetShortsGateSupplyAndFeedsAct := by
  unfold Obligations.FetShortsGateSupplyAndFeedsAct
  rintro ⟨short, -⟩
  obtain ⟨due, stands⟩ := State.shortedUpstream_meets
  obtain ⟨t, ht, -, -, kept⟩ := short 3 State.shortedUpstream due stands
  rw [← Host.Outcome.next.inj ((State.fetShort_run due stands).symm.trans ht)] at kept
  exact State.shortedUpstream_sinks (kept.get (.timer (.brSink 16)) rfl)

end Sys2Proof.Machine
end
